-- ==== Sys2Proof/Word.lean ====
section
/-! DEFINITION. The words of the block: register words, bytes, packets, ports and pins, and the plain
arithmetic over them that every later file uses. -/

namespace Sys2Proof

/-- A register word (R11: every register is 32-bit). -/
abbrev Word := BitVec 32
/-- A byte. -/
abbrev Byte := BitVec 8
/-- A port number, 0 to 31. -/
abbrev Port := Fin 32
/-- A CC pin of a port: 0 is CC1, 1 is CC2. -/
abbrev Pin := Fin 2
/-- A cabinet feed: 0 is feed A, 1 is feed B. -/
abbrev Feed := Fin 2
/-- A Weft link: 0 is W0, 1 is W1. -/
abbrev Link := Fin 2

/-- Where a command came from over the fabric (R441): source device, MSG_ID, and whether in class B. -/
structure Origin where
  src : BitVec 12
  msgId : BitVec 16
  bulk : Bool
  deriving DecidableEq, Repr

/-- A command packet or a response (R362): TAG, FLAGS (or STATUS), OPCODE, TARGET, ARG and the payload.  Word 3, the
padding and the CRC are added when the packet goes on a wire.  `origin` is none for a command of this device's host. -/
structure Packet where
  tag : BitVec 16
  flags : BitVec 8
  op : BitVec 8
  target : BitVec 16
  arg : Word
  payload : List Byte
  origin : Option Origin
  deriving DecidableEq, Repr

/-- TARGET, ARG and LENGTH as numbers. -/
def Packet.tgt (k : Packet) : Nat := k.target.toNat
def Packet.ar (k : Packet) : Nat := k.arg.toNat
def Packet.len (k : Packet) : Nat := k.payload.length

/-- TARGET is 0xFFFF. -/
def Packet.chip (k : Packet) : Bool := k.target == 0xFFFF
/-- LENGTH 0 and ARG 0. -/
def Packet.plain (k : Packet) : Bool := k.payload.isEmpty && k.arg == 0
/-- TARGET as a port number. -/
def Packet.portOf (k : Packet) : Option Port := if h : k.tgt < 32 then some ⟨k.tgt, h⟩ else none

/-- The SOP type of a frame (R72). -/
inductive Sop where
  | sop | sop1 | sop2
  deriving DecidableEq, Repr

/-- The message types of *Message support* (R97), GoodCRC and unknown types. -/
inductive PdMsg where
  | goodCrc | accept | reject | psRdy | getSourceCap | getSinkCap | drSwap | prSwap | vconnSwap | wait
  | softReset | notSupported | getSourceCapExt | getStatus | frSwap | getPpsStatus | getSinkCapExt
  | getSourceInfo | getRevision | gotoMin | dataReset | dataResetComplete | getCountryCodes | ping
  | sourceCaps | request | bist | sinkCaps | batteryStatus | alert | eprRequest | eprMode | sourceInfo
  | revision | vdm | unstructuredVdm | enterUsb | getCountryInfo | bistShared
  | sourceCapsExt | status | getBatteryCap | getBatteryStatus | batteryCaps | getManufacturerInfo
  | manufacturerInfo | securityRequest | securityResponse | ppsStatus | sinkCapsExt | extControl
  | eprSourceCaps | eprSinkCaps | fwUpdateRequest | fwUpdateResponse | countryInfo | countryCodes | vdmExt
  deriving DecidableEq, Repr

/-- A capability object (R110): voltages in mV, currents in mA, PDP in W. -/
inductive Pdo where
  | zero
  | fixed (mv ma : Nat)
  | pps (vmin vmax ma : Nat) (limited : Bool)
  | sprAvs (ma15 ma20 : Nat)
  | eprAvs (vmin vmax pdp : Nat)
  deriving DecidableEq, Repr

/-- Flags of the 5 V object (R111, R599): Dual-Role Power, Unchunked, EPR capable, Unconstrained Power, Higher
Capability, and the Fast Role Swap required current (0 none, 1 Default, 2 1.5 A, 3 3.0 A). -/
structure CapFlags where
  drp : Bool
  unchunked : Bool
  epr : Bool
  unconstrained : Bool
  higher : Bool
  frs : BitVec 2
  deriving DecidableEq, Repr

/-- No flag set. -/
def CapFlags.none : CapFlags := ⟨false, false, false, false, false, 0⟩

/-- A request data object (R113): object position, its voltage and current fields as they stand in it, and its flags. -/
structure Rdo where
  pos : Nat
  vol : BitVec 12
  cur : BitVec 10
  mismatch : Bool
  eprCapable : Bool
  unchunked : Bool
  deriving DecidableEq, Repr

/-- What an EPR_Mode message says (R128, R129), with the Enter Failed reason. -/
inductive EprAction where
  | enter | enterAck | enterOk | enterFailed (reason : Nat) | exit
  deriving DecidableEq, Repr

/-- Kinds of Extended_Control (R97). -/
inductive ExtCtl where
  | getSourceCap | getSinkCap | keepAlive | keepAliveAck
  deriving DecidableEq, Repr

/-- The content of a frame. -/
inductive Body where
  | none
  | caps (l : List Pdo) (f : CapFlags)
  | rdo (r : Rdo) (copy : Pdo)
  | vdm (words : List Word)
  | epr (a : EprAction)
  | ext (c : ExtCtl)
  /-- named fields of an answer, in the order its rule lists them -/
  | fields (l : List Nat)
  | raw (l : List Byte)
  deriving DecidableEq, Repr

/-- A chunk header (R95): number, whether it is a Chunk Request, and the message's whole size in bytes. -/
structure Chunk where
  num : Nat
  isReq : Bool
  size : Nat
  deriving DecidableEq, Repr

/-- A PD frame between partner, PHY and Twill (R70 to R97). -/
structure Frame where
  sop : Sop
  msg : PdMsg
  id : BitVec 3
  chunk : Option Chunk
  body : Body
  deriving DecidableEq, Repr

/-- The levels a CC pin's comparators report (R35, CC_STAT coding): Open, Ra, Rd, Rp Default, Rp 1.5 A, Rp 3.0 A and
overvoltage. -/
inductive CcLevel where
  | open_ | ra | rd | rpDefault | rp15 | rp30 | over
  deriving DecidableEq, Repr

/-- The CCx_LVL coding (R67). -/
def CcLevel.code : CcLevel → Nat
  | .open_ => 0 | .ra => 1 | .rd => 2 | .rpDefault => 3 | .rp15 => 4 | .rp30 => 5 | .over => 6

/-- The timers of the standard's Try states (R38, R40). -/
inductive TryTimer where
  | drpTry | tryCcDebounce | tryTimeout | drpTryWait
  deriving DecidableEq, Repr

/-- A cable's answer to Discover Identity on SOP′ (R59, R60): NAK or BUSY, or an ACK with its Cable VDO (current field
1 is 3 A and 2 is 5 A; maximum VBUS 0 to 3 is 20, 30, 40, 50 V). -/
inductive CableReply where
  | nak
  | ack (active sopppController : Bool) (imax vmax : BitVec 2) (epr : Bool)
  deriving DecidableEq, Repr

/-- Which capabilities a partner asks for (R97): Get_…_Cap, Get_…_Cap_Extended, or EPR_Get_…_Cap. -/
inductive CapQuery where
  | spr | extended | epr
  deriving DecidableEq, Repr

/-- Trip causes (R280). -/
inductive TripCause where
  | fetShorted | fetDamaged | ifast | ccOvp | vbusHi | cspHi | curve | limit | limitCeil | rampFail | vbusLo
  | senseLost | plaus
  deriving DecidableEq, Repr

/-- Cause code (R280). -/
def TripCause.code : TripCause → Nat
  | .ifast => 0x01 | .limit => 0x02 | .limitCeil => 0x03 | .curve => 0x04 | .rampFail => 0x05 | .fetDamaged => 0x06
  | .fetShorted => 0x07 | .vbusHi => 0x08 | .vbusLo => 0x09 | .cspHi => 0x0A | .ccOvp => 0x0B | .senseLost => 0x0C
  | .plaus => 0x0D

/-- A Retire-class cause (R280). -/
def TripCause.retire : TripCause → Bool
  | .fetShorted | .fetDamaged => true
  | _ => false

/-- A Host-class cause (R280). -/
def TripCause.host : TripCause → Bool
  | .ccOvp | .senseLost | .plaus => true
  | _ => false

/-- Place in *Trip causes and timing*: the cause highest in the table is recorded (R280). -/
def TripCause.order : TripCause → Nat
  | .fetShorted => 1 | .fetDamaged => 2 | .ifast => 3 | .ccOvp => 4 | .vbusHi => 5 | .cspHi => 6 | .curve => 7
  | .limit => 8 | .limitCeil => 9 | .rampFail => 10 | .vbusLo => 11 | .senseLost => 12 | .plaus => 13

/-- The shorted-FET checks (R279). -/
inductive ShortCheck where
  | forward | reverse | off
  deriving DecidableEq, Repr

/-- A monitor (R290): of a port, or of the chip. -/
inductive Mon where
  | vbusA (p : Port) | vbusB (p : Port) | csp (p : Port) | ifast (p : Port)
  | busA | busB | feed (f : Feed) | feedCur (f : Feed) | vcp | vconnIn
  deriving DecidableEq, Repr

/-- Its index (R290). -/
def Mon.index : Mon → Nat
  | .vbusA p => 4 * p.val | .vbusB p => 4 * p.val + 1 | .csp p => 4 * p.val + 2 | .ifast p => 4 * p.val + 3
  | .busA => 128 | .busB => 129 | .feed f => 130 + f.val | .feedCur f => 132 + f.val | .vcp => 134 | .vconnIn => 135

/-- A crossing of a port's window monitors (R293): VBUS or CSP, above or below. -/
inductive Crossing where
  | vHi | vLo | cHi | cLo
  deriving DecidableEq, Repr

/-- What a window's two comparators read in the steps of *Self-check steps* (R299): true is above the threshold. Steps in
order: swap, zero, mid-scale at 510 and at 514, full-scale. -/
structure CheckRead where
  swapHi : Bool
  swapLo : Bool
  zeroHi : Bool
  zeroLo : Bool
  mid510Hi : Bool
  mid510Lo : Bool
  mid514Hi : Bool
  mid514Lo : Bool
  fullHi : Bool
  fullLo : Bool
  deriving DecidableEq, Repr

/-- How a feed's closure moves on (R314): the 2.0 V mark is reached or missed; the bus is within 1.0 V of the feed's
input (VIN); RAMP_TMAX or the 7.0 V mark has run out. -/
inductive InsertEv where
  | mark | markMissed | busUp (busMv vinMv : Nat) | rampOut | gateMissed
  deriving DecidableEq, Repr

/-- Feed trip causes (R316). -/
inductive FeedCause where
  | fetShorted | fetDamaged | ifast | curve | limit | rampFail
  deriving DecidableEq, Repr

/-- Cause code (R316). -/
def FeedCause.code : FeedCause → Nat
  | .ifast => 0x01 | .limit => 0x02 | .curve => 0x04 | .rampFail => 0x05 | .fetDamaged => 0x06 | .fetShorted => 0x07

/-- Place in *Feed trip causes*. -/
def FeedCause.order : FeedCause → Nat
  | .fetShorted => 1 | .fetDamaged => 2 | .ifast => 3 | .curve => 4 | .limit => 5 | .rampFail => 6

/-- A supply that the feed controller watches (R323). -/
inductive Supply where
  | vcp | vconnIn
  deriving DecidableEq, Repr

/-- A supply rail of *Supply thresholds* (R532). -/
inductive Rail where
  | core | io33 | io18 | vdda | pll
  deriving DecidableEq, Repr

/-- A clock that the AON domain watches (R529). -/
inductive ClockSrc where
  | pllCore | pllPwm | xin
  deriving DecidableEq, Repr

/-- Its code in CLOCK_LOSS (R550). -/
def ClockSrc.code : ClockSrc → Nat
  | .pllCore => 1 | .pllPwm => 2 | .xin => 3

/-- Why SAFE is entered (R544). -/
inductive SafeCause where
  | clock | storm | tsd | command
  deriving DecidableEq, Repr

/-- SAFE_CAUSE code (R549). -/
def SafeCause.code : SafeCause → Nat
  | .clock => 1 | .storm => 2 | .tsd => 3 | .command => 4

/-- What an SRAM word with a double-bit error holds, by partition (R29, R553): Loam's; a Twill's, with the ports whose cache
entries it spoils; Chalk's; a coefficient table or state block, or the working store, of a Marl; a ledger record; an entry
of a ring, counted from the oldest; mirror or journal staging; a reserve block. -/
inductive EccAt where
  | loam
  | twill (k : Fin 8) (bad : List Port)
  | chalk
  | marlData (e : Fin 2) (p : Port)
  | marlStore (e : Fin 2)
  | ledger (slot : Fin 8192)
  | ring (q : Fin 40) (i : Nat)
  | staging
  | reserve (b : Fin 128)
  deriving DecidableEq, Repr

/-- Its partition, in the order of R29. -/
def EccAt.partition : EccAt → Nat
  | .loam => 0 | .twill _ _ => 1 | .chalk => 2 | .marlData _ _ => 3 | .marlStore _ => 3 | .ledger _ => 4 | .ring _ _ => 5
  | .staging => 6 | .reserve _ => 7

/-- Why Chalk forces a port to safe state (R557). -/
inductive ForceCause where
  | tableFault | noCarrier | stateLost
  deriving DecidableEq, Repr

/-- FORCE_CAUSE code (R565). -/
def ForceCause.code : ForceCause → Nat
  | .tableFault => 1 | .noCarrier => 2 | .stateLost => 3

/-- Swap kinds (R162). -/
inductive SwapKind where
  | pr | dr | vconn
  deriving DecidableEq, Repr

/-- *CC presentation* (R34). -/
inductive Pres where
  | open_ | rpDefault | rp15 | rp30 | rd
  deriving DecidableEq, Repr

/-- Kinds of a contract's object (R371). -/
inductive CKind where
  | fixed | pps | sprAvs | eprAvs
  deriving DecidableEq, Repr

/-- Kind code of a contract (R371). -/
def CKind.code : CKind → Nat
  | .fixed => 1 | .pps => 2 | .sprAvs => 3 | .eprAvs => 4

/-- An explicit contract: object position, kind, voltage in mV, operating current in mA, the object's minimum voltage,
and the object's top voltage and current. -/
structure Contract where
  pos : Nat
  kind : CKind
  mv : Nat
  ma : Nat
  vmin : Nat
  obj : Pdo
  deriving DecidableEq, Repr

/-- In-flight kinds of the retained contract cache (R102). -/
inductive Inflight where
  | none | swap | transition
  deriving DecidableEq, Repr

/-! ## The ledger's record (R335) -/

/-- A ledger record. `passAt` is the device time, in s, of the last pass, which R333 needs and no byte holds. -/
structure LedRec where
  key : Nat
  vid : Nat
  pid : Nat
  xid : Nat
  serial : Nat
  auth : Nat
  flags : BitVec 8
  frs : Nat
  lastPort : Nat
  certDig : Nat
  first : Nat
  last : Nat
  eIn : Nat
  eOut : Nat
  cycles : Nat
  design : Nat
  capEst : Nat
  lastFull : Nat
  soh : Nat
  eol : Nat
  rExt : Nat
  rTrend : Int
  sessions : Nat
  lastCap : Nat
  faults : List Nat
  lastFault : Nat
  lastPage : Nat
  lastTime : Nat
  seq : Nat
  user : List Byte
  passAt : Nat
  deriving DecidableEq, Repr

/-- What a partner's Battery_Capabilities says (R329). -/
structure BatCap where
  vid : Nat
  pid : Nat
  design : Nat
  full : Nat
  invalid : Bool
  deriving DecidableEq, Repr

/-- How *Identity gathering* moves on (R329): step 2 begins; it ends with VID, PID and XID or none; steps 3, 4 and 5 end
with the Manufacturer String, the battery's capabilities and its present capacity, or none. -/
inductive IdEvent where
  | start
  | identity (r : Option (Nat × Nat × Nat))
  | manufacturer (r : Option (List Byte))
  | battery (r : Option BatCap)
  | status (r : Option Nat)
  deriving DecidableEq, Repr

/-- How *Authentication* moves on (R333): it begins; a Security_Response brings the slot-0 digest, a piece of the chain
(with the chain's whole length) or the challenge's signature; no answer within tSenderResponse; or Not_Supported. -/
inductive AuthEvent where
  | start
  | digest (d : List Byte)
  | piece (total : Nat) (l : List Byte)
  | signature (sig : List Byte)
  | silent
  | unsupported
  deriving DecidableEq, Repr

/-! ## Register pages (R420) -/

/-- A page of *Page directory*: a system page by its type, or the CC (0), PD (1), LOOP (2) or GUARD (3) page of a port. -/
inductive PageRef where
  | sys (t : Fin 22)
  | port (p : Port) (k : Fin 4)
  deriving DecidableEq, Repr

/-- Its page type. -/
def PageRef.type : PageRef → Nat
  | .sys t => t.val
  | .port _ k => 0x100 + k.val

/-- Its instance. -/
def PageRef.inst : PageRef → Nat
  | .sys _ => 0
  | .port p _ => p.val

/-- The host interface that an access comes over (R404). -/
inductive HostIf where
  | spi | smb
  deriving DecidableEq, Repr

/-- A word of the SW0820 window, and the interface that writes it (R431). -/
structure WindowAt where
  host : HostIf
  off : BitVec 12
  deriving DecidableEq, Repr

/-- A CC line that reads Open on a port, and whether the port's own PHY transmits meanwhile (R48). -/
structure CcSeen where
  port : Port
  own : Bool
  deriving DecidableEq, Repr

/-- How a frame arrives at the PHY (R71): whole, with a bad CRC, or under SOP′_Debug or SOP″_Debug. -/
inductive FrameCheck where
  | good | damaged | debug
  deriving DecidableEq, Repr

/-- A source's capabilities are to be sent on a port; `late`: 60 ms after vSafe5V, discovery or not (R59, R110). -/
structure CapsDue where
  port : Port
  late : Bool
  deriving DecidableEq, Repr

/-- A sink's keep-alive interval ends on a port, or a message held for SinkTxOK has waited 20 ms (R133). -/
structure KeepAliveDue where
  port : Port
  pps : Bool
  held20 : Bool
  deriving DecidableEq, Repr

/-- What the VCONN pin of a port reads, in mV (R58). -/
structure VconnPin where
  port : Port
  mv : Nat
  deriving DecidableEq, Repr

/-- The bus in a housekeeping frame: its level one frame before, and now (R232, R320). -/
structure BusRead where
  before : BitVec 12
  now : BitVec 12
  deriving DecidableEq, Repr

/-- A burst as the engine finds it in the queue: whether a result is missing, and the sequence number its results carry
(R227). -/
structure BurstRead where
  port : Port
  missing : Bool
  seq : BitVec 4
  deriving DecidableEq, Repr

/-- A supply that the feed controller does not watch but the housekeeping converter samples (R232). -/
inductive CoreRail where
  | vddCore | vdda
  deriving DecidableEq, Repr

/-- What the rotating slots of a housekeeping frame have sampled (R232): VCONN currents of ports in mA, and levels of the
supplies in µV. -/
structure RailRead where
  vconn : List (Port × Nat)
  supplies : List (Supply × Nat)
  cores : List (CoreRail × Nat)
  deriving DecidableEq, Repr

/-- What a cold start finds: its time in ms, and what fails its CRC-32: copies of stored policies, by object and whether it is
the second copy (R157, R366, R491), and entries of the ledger's journal, by their place (R341). -/
structure ColdFound where
  ms : Nat
  polBad : List (Nat × Bool)
  journalBad : List Nat
  deriving DecidableEq, Repr

/-- What a warm start finds: its time in ms, and the ledger partition and cache entries that fail their CRC-32 (R22, R536). -/
structure WarmFound where
  ms : Nat
  ledgerBad : Bool
  cacheBad : List Port
  deriving DecidableEq, Repr

/-- The PEC byte that ends an SMBus write, if any, and whether it checks (R401). -/
inductive Pec where
  | none | good | bad
  deriving DecidableEq, Repr

/-- How an attempt at a Host Notify ends (R416, R417): the frame is sent, arbitration is lost, or a byte gets NACK. -/
inductive NotifyTry where
  | sent | lost | nack
  deriving DecidableEq, Repr

/-! ## Selvedge frames (R467) -/

/-- A port's 64 bytes of a LOOP frame; `ids` is PD_MSGID. -/
structure LoopImg where
  u1 : Int
  u2 : Int
  u3 : Int
  e1 : Int
  e2 : Int
  e3 : Int
  xV : Int
  xP : Int
  xFl : Int
  xCe : Int
  xDr : Int
  iAvg : Int
  pAvg : Int
  vsp : Int
  vTarget : Nat
  law : Nat
  frozen : Bool
  mode : Nat
  set : Nat
  d : Int
  guard : Nat
  heat : Nat
  limit : Nat
  retries : Nat
  pres : Pres
  vconn : Bool
  dsg : Bool
  ids : Nat
  phase : Nat
  period : Nat
  deriving DecidableEq, Repr

/-- A retained contract cache entry (R102). `ok` is whether it passes its CRC-32. -/
structure CacheImg where
  rev : Nat
  unchunked : Bool
  src : Nat
  data : Nat
  vconnSrc : Bool
  contract : Option Contract
  epr : Bool
  caps : List Pdo
  capsFlags : CapFlags
  frs : Nat
  inflight : Inflight
  ok : Bool
  rdo : Option Rdo
  deriving DecidableEq, Repr

/-- An entry of which nothing has been written. -/
def CacheImg.reset : CacheImg := ⟨0, false, 0, 0, false, none, false, [], .none, 0, .none, true, none⟩

/-- A port's island state (R181): whether it islanded, is under a ceiling of R180, is idle after a failed Fast Role Swap; and
V_ISL, DROOP_PCT and P_CON of its BUSF_CFG. -/
structure IslImg where
  islanded : Bool
  ceilinged : Bool
  idle : Bool
  vIsl : Nat
  droop : Nat
  pCon : Nat
  deriving DecidableEq, Repr

/-- The content of a STATE frame: offers (P_OFF, I_OFF), hold, CAP in µW, the selected feed, whether islanded and each port's
island state, each port's model terms (B_C, V_OFS, R_INT, R_EXT) and VCONN reservations in mA. -/
structure StateImg where
  offers : List (Nat × Nat)
  hold : Bool
  cap : Nat
  sel : Nat
  island : Bool
  isl : List IslImg
  model : List (Int × Int × Int × Int)
  vconn : List Nat
  deriving DecidableEq, Repr

/-- A HELLO frame (R463, R467): the sender's role and OWNER bit, its serial, its nonce, and its proof where it has the
other's nonce. -/
structure Hello where
  role : Nat
  owner : Bool
  serial : Nat
  nonce : List Byte
  proof : List Byte
  deriving DecidableEq, Repr

/-- *Selvedge frames*. SHED entries are VALID, SRC, P_SHED and I_SHED; a policy piece carries its TARGET, offset and
bytes. -/
inductive SelBody where
  | hello (h : Hello)
  | loop (group : Fin 4) (final : Bool) (l : List LoopImg)
  | cache (p : Port) (e : CacheImg)
  | urgent (stop : Word) (shed : List (Bool × Nat × Nat × Nat))
  | state (x : StateImg)
  | record (slot : Nat) (r : Option LedRec)
  | accum (l : List Int)
  | table (p : Port) (l : List Byte)
  | policy (target : Nat) (offset : Nat) (l : List Byte)
  | marks (retired : Word) (failed : List Nat)
  | handover (at_ : Nat) (final : Bool)
  | time (epoch : Nat)
  | ack (seq : Nat)
  deriving DecidableEq, Repr

/-! ## Weft and device time (chapter 18) -/

/-- A Weft traffic class: 0 urgent (U), 1 management (M), 2 bulk (B). -/
abbrev CellClass := Fin 3

/-- A Weft cell (R436): its header and payload. TYPE: 0 CMD, 1 RSP, 2 DATA, 3 STOP, 4 SNAP. -/
structure Cell where
  dst : BitVec 12
  bcast : Bool
  src : BitVec 12
  kind : BitVec 4
  hops : BitVec 12
  seq : Byte
  first : Bool
  last : Bool
  msgId : BitVec 16
  payload : List Byte
  deriving DecidableEq, Repr

/-- What a SYNC set carries (R434, R445): time in ns, master ID, SET and HOPS. -/
structure SyncSet where
  time : BitVec 64
  master : BitVec 12
  set : Bool
  hops : BitVec 16
  deriving DecidableEq, Repr

/-- How link training goes on (R435): signal detect; three IDLE sets at one alignment; the HELLO exchange and the delay
measurements are complete. -/
inductive LinkEvent where
  | signal | aligned | trained
  deriving DecidableEq, Repr

/-- Why a link goes down (R435): loss of signal, four code or disparity errors, or no IDLE. -/
inductive LinkLoss where
  | signal | codeErrors | idle
  deriving DecidableEq, Repr

/-- A link: of the fabric, or Selvedge. -/
inductive AnyLink where
  | weft (l : Link) | selvedge
  deriving DecidableEq, Repr

/-- How a planned hand-over goes on (R480): no port is busy and T_H is chosen; T_H - 40 µs; T_H; 1 s has passed since the
command. -/
inductive HoEvent where
  | start (tH : Nat) | finalFrames | instant | timeout
  deriving DecidableEq, Repr

/-- What a command that programs OTP words meets (R522, R523): VDD_IO18 lies within its recommended range; the word still
reads weak after the repeated pulses. -/
structure OtpEnv where
  vddOk : Bool
  weak : Bool
  deriving DecidableEq, Repr

/-- Little-endian value of a byte list (R8). -/
def leNat : List Byte → Nat
  | [] => 0
  | b :: t => b.toNat + 256 * leNat t

/-- The `n` low bytes of `v`, low byte first (R8). -/
def leBytes : Nat → Nat → List Byte
  | 0, _ => []
  | n + 1, v => BitVec.ofNat 8 v :: leBytes n (v / 256)

/-- The little-endian value of `n` bytes of `l` from byte `i`. -/
def bytesAt (l : List Byte) (i n : Nat) : Nat := leNat ((l.drop i).take n)

/-- Bits `hi` down to `lo` of `v`. -/
def bits (v hi lo : Nat) : Nat := v / 2 ^ lo % 2 ^ (hi + 1 - lo)

/-- Signed value of the low `w` bits of `v`. -/
def sext (w v : Nat) : Int :=
  if v % 2 ^ w < 2 ^ (w - 1) then (v % 2 ^ w : Nat) else (v % 2 ^ w : Nat) - (2 ^ w : Nat)

/-- Two's complement of `x` in `w` bits. -/
def unsx (w : Nat) (x : Int) : Nat := (x % (2 ^ w : Nat)).toNat

/-- `x` held between `a` and `b`. -/
def clampI (a b x : Int) : Int := max a (min b x)

/-- `⌈a / b⌉`. -/
def cdiv (a b : Nat) : Nat := (a + b - 1) / b

end Sys2Proof
end

