-- ==== Sys2Proof/Syntax.lean ====
section
/-! DEFINITION. The commands the block takes: one constructor per row of spec/opcode_table.json, with the operands
the row's rule gives it.  A port is `Port`, a measurement a pin or a converter delivers is an operand in the unit its
name says (`mv`, `ma`), and a packet command carries the packet. -/

namespace Sys2Proof

/-- The commands of spec/opcode_table.json, in the table's order. -/
inductive Instr where
  /-- NOP: Loam answers OK and echoes TARGET, ARG and the payload unchanged. (R364) -/
  | nop (k : Packet)
  /-- GET_INFO: Loam returns the 64-byte identity and status block in every state that serves packets. (R365) -/
  | getInfo (k : Packet)
  /-- SET_POLICY: Loam checks a policy object, applies it by its own rule and optionally persists it to both flash policy copies. (R366) -/
  | setPolicy (k : Packet)
  /-- GET_POLICY: Loam returns the active policy object or the present register image. (R366) -/
  | getPolicy (k : Packet)
  /-- SNAPSHOT: Requests an immediate snapshot or schedules one at time T, optionally broadcast. (R455) -/
  | snapshot (k : Packet)
  /-- READ_SNAP: Returns the shadow contents of up to 15 pages for a snapshot ID held in a bank. (R455) -/
  | readSnap (k : Packet)
  /-- TIME_SET: Sets device time rounded to 5 ns in master or standalone role and sets SET. (R448) -/
  | timeSet (k : Packet)
  /-- TIME_GET: Returns device time, TIME_STAT and OFFSET. (R448) -/
  | timeGet (k : Packet)
  /-- WARM_RESET: Starts a warm reset within 1 ms with no response, unless an update is applying or rolling. (R535) -/
  | warmReset (k : Packet)
  /-- PORT_ENABLE: Sets the port's PORT_EN bit so the owning Twill leaves Disabled for the Unattached state of its role. (R369) -/
  | portEnable (k : Packet)
  /-- PORT_DISABLE: Clears PORT_EN and takes the port to Disabled at once with a planned opening, HALT and VCONN off. (R370) -/
  | portDisable (k : Packet)
  /-- PORT_SET_PROFILE: Loam checks and stores a port profile that takes effect at the next capability advertisement. (R107) -/
  | portSetProfile (k : Packet)
  /-- PORT_GET_STATE: Returns the 48-byte port state read in one management tick. (R371) -/
  | portGetState (k : Packet)
  /-- PORT_SWAP: Asks Twill to initiate a PR_Swap, DR_Swap or VCONN_Swap on the port. (R162) -/
  | portSwap (k : Packet)
  /-- PORT_HARD_RESET: Asks the PHY to send Hard Reset or Cable Reset on the port. (R372) -/
  | portHardReset (k : Packet)
  /-- PORT_SEND_VDM: Sends a host-given structured VDM as one AMS and answers with the partner's reply, TIMEOUT or ABORTED. (R373) -/
  | portSendVdm (k : Packet)
  /-- PORT_CLEAR_FAULT: Returns a latched, tripped or, with REPAIRED, retired guard to GUARD_OFF and clears related faults. (R285) -/
  | portClearFault (k : Packet)
  /-- PORT_TEST: Requests a monitor, IFAST or converter check on a port, deferred while the port is busy. (R558) -/
  | portTest (k : Packet)
  /-- LEDGER_READ: Returns the ledger record in a slot. (R343) -/
  | ledgerRead (k : Packet)
  /-- LEDGER_FIND: Returns the slot of a port's session record or of a given KEY. (R343) -/
  | ledgerFind (k : Packet)
  /-- LEDGER_WRITE_USER: Writes 16 user bytes of a record and optionally pins or unpins it. (R343) -/
  | ledgerWriteUser (k : Packet)
  /-- LEDGER_EXPORT: Returns up to 31 records from a start slot, optionally only those changed since EXPORT_MARK. (R343) -/
  | ledgerExport (k : Packet)
  /-- LEDGER_PURGE: Purges a slot, all records or records older than a number of days, skipping pinned and attached ones. (R343) -/
  | ledgerPurge (k : Packet)
  /-- UPD_BEGIN: Checks a package header, erases the update journal and marks the inactive slot WRITING. (R499) -/
  | updBegin (k : Packet)
  /-- UPD_DATA: Writes a piece of package body to staging at the expected offset. (R500) -/
  | updData (k : Packet)
  /-- UPD_END: Marks staging complete, checks BODY_HASH in mode 1 and starts application. (R500) -/
  | updEnd (k : Packet) (ms : Nat)
  /-- UPD_STATUS: Returns the update state, last status and progress counts. (R500) -/
  | updStatus (k : Packet)
  /-- UPD_COMMIT: Marks the applied slot PENDING, with optional warm reset, rolling reload or trial confirmation by ACTIVATE. (R503) -/
  | updCommit (k : Packet) (e : OtpEnv)
  /-- UPD_ABORT: Stops an unfinished update, marks the inactive slot EMPTY and erases the journal. (R500) -/
  | updAbort (k : Packet)
  /-- CORE_RELOAD: Reloads an engine's component while its buddy or the other Marl carries its ports. (R504) -/
  | coreReload (k : Packet)
  /-- CORE_RETIRE: Takes an engine out of service with its ports carried by its buddy or the other Marl. (R504) -/
  | coreRetire (k : Packet)
  /-- OTP_READ: Returns raw normal-read data and flags for up to 128 OTP words. (R510) -/
  | otpRead (k : Packet)
  /-- OTP_PROGRAM: Programs an ECC word or raises a counter after the programming checks, verifying at both margins. (R522) -/
  | otpProgram (k : Packet) (e : OtpEnv)
  /-- OTP_LOCK: Computes and programs a region's digest and its lock bit, or sets DEBUG_LOCK or TEST_LOCK. (R513) -/
  | otpLock (k : Packet)
  /-- OTP_MARGIN_SCAN: Re-reads the OTP at three references and returns the weak-word bitmap. (R521) -/
  | otpMarginScan (k : Packet)
  /-- PAIR_ENROL: Checks the pair group key against the OTP hash, optionally stores it and starts Selvedge training. (R463) -/
  | pairEnrol (k : Packet)
  /-- PAIR_STATUS: Returns the image of the PAIR page offsets 0x040 to 0x13F. (R484) -/
  | pairStatus (k : Packet)
  /-- PAIR_HANDOVER: Moves ownership from the owner to the standby at an agreed instant without a claim. (R480) -/
  | pairHandover (k : Packet)
  /-- PAIR_LEAVE: Takes a member out of the pair, handing over first if it owns. (R481) -/
  | pairLeave (k : Packet)
  /-- WEFT_SEND: Sends a CMD, DATA or STOP message as cells to a device ID or broadcast. (R442) -/
  | weftSend (k : Packet)
  /-- WEFT_ROUTE: Writes the 16-entry route table. (R442) -/
  | weftRoute (k : Packet)
  /-- WEFT_STATUS: Returns the image of the WEFT page offsets 0x040 to 0x0FF. (R442) -/
  | weftStatus (k : Packet)
  /-- STOP_PORT: Sets STOP[n] for one port, taking it to safe state at rank 4. (R375) -/
  | stopPort (k : Packet) (weft : Bool)
  /-- STOP_GROUP: Sets STOP[n] for every port of a group. (R375) -/
  | stopGroup (k : Packet) (weft : Bool)
  /-- STOP_ALL: Sets STOP[n] for every port. (R375) -/
  | stopAll (k : Packet) (weft : Bool)
  /-- SHED_TO: Writes host shed ceilings for the covered ports, applied by Marl at the next inner-loop boundary. (R152) -/
  | shedTo (k : Packet) (weft : Bool)
  /-- RELEASE: Clears STOP[n] and SHED[n] on the covered ports. (R153) -/
  | release (k : Packet) (weft : Bool)
  /-- SPI_READ: Reads a burst of register words over SPI, each judged for alignment, mapping and readiness. (R386) -/
  | spiRead (a : BitVec 24) (n : Nat) (sck : Nat) (late : List Nat) (cut : Bool)
  /-- QREAD: Reads a burst of register words over four lanes. (R386) -/
  | qread (a : BitVec 24) (n : Nat) (sck : Nat) (late : List Nat) (cut : Bool)
  /-- SPI_WRITE: Writes a burst of register words over SPI, staged until the trailer checks when CRC_EN is set. (R387) -/
  | spiWrite (a : BitVec 24) (ws : List Word) (cut : Bool) (ok : Bool)
  /-- QWRITE: Writes a burst of register words over four lanes. (R387) -/
  | qwrite (a : BitVec 24) (ws : List Word) (cut : Bool) (ok : Bool)
  /-- SPI_STATUS: The front end returns the status word in every device state. (R389) -/
  | spiStatus
  /-- PUSH: Assembles a command packet from SPI, checks it and commits it to a command ring or ring 0. (R390) -/
  | push (ring : Byte) (l : List Byte) (ok : Bool) (busy : Bool)
  /-- PULL: Delivers the record or packet at a ring's tail with a pull header, removing it per PULL_CONFIRM. (R391) -/
  | pull (ring : Byte) (whole : Bool)
  /-- SPI_STOP: Front-end STOP opcode acts on its argument byte as STOP_PORT, STOP_GROUP or STOP_ALL within 1 µs. (R393) -/
  | spiStop (b : Byte)
  /-- SPI_UNKNOWN_OPCODE: An undefined SPI opcode makes the device ignore the transaction and set LAST_ERR to BAD_ARG. (R384) -/
  | spiUnknownOpcode (op : Byte)
  /-- DEV_STATUS: Returns the SMBus status half-word in every state that recognises the address. (R400) -/
  | devStatus
  /-- PORT_SUMMARY: Returns two bits of state per port over SMBus. (R400) -/
  | portSummary
  /-- FAULT_SUMMARY: Returns the 8-byte fault summary over SMBus. (R400) -/
  | faultSummary
  /-- SET_PTR: Loads the SMBus register pointer at the STOP of a valid transaction. (R403) -/
  | setPtr (count : Byte) (l : List Byte) (pec : Pec)
  /-- READ_REG: Fetches RD_WORDS register words from the pointer, advancing it on a complete read. (R404) -/
  | readReg (all : Bool) (pecRead : Bool)
  /-- WRITE_REG: Stages register words and applies them at the STOP from the pointer upward. (R405) -/
  | writeReg (count : Byte) (l : List Byte) (pec : Pec)
  /-- PUSH_FRAG: Takes a packet fragment into the SMBus assembly buffer. (R406) -/
  | pushFrag (count : Byte) (l : List Byte) (pec : Pec)
  /-- PULL_FRAG_NEXT: Returns the next fragment of the record under delivery, removing the record after its LAST fragment. (R408) -/
  | pullFragNext (count : Byte) (ring : BitVec 6) (reserved : Bool)
  /-- PULL_FRAG_AGAIN: Returns the last delivered fragment once more. (R408) -/
  | pullFragAgain (count : Byte) (ring : BitVec 6)
  /-- PULL_FRAG_RESTART: Returns the first fragment of the record under delivery. (R408) -/
  | pullFragRestart (count : Byte) (ring : BitVec 6)
  /-- SMB_STOP: SMBus STOP command acts on its argument byte under the stop lane without waiting for PEC. (R402) -/
  | smbStop (b : Byte) (pec : Pec)
  /-- SMB_UNKNOWN_COMMAND: An unlisted command byte is NACKed and LAST_ERR set to BAD_ARG. (R399) -/
  | smbUnknownCommand (cmd : Byte)
  /-- SMB_PROTOCOL_ERROR: An unexpected START or STOP aborts the transaction in progress and counts SMB_PROTO_ERR. (R410) -/
  | smbProtocolError
  /-- SMB_SCL_TIMEOUT: SCL held low over 35 ms makes the device release the bus and reset its protocol engine. (R413) -/
  | smbSclTimeout
  /-- SMB_STRETCH_LIMIT: After 25 ms of stretching the device releases SCL and sends 0x00 with an inverted PEC. (R412) -/
  | smbStretchLimit (pull : Option Byte) (ready : Nat)
  /-- FRAG_ASSEMBLY_TIMEOUT: An open assembly without a fragment for 1 s is discarded. (R406) -/
  | fragAssemblyTimeout
  /-- FRAG_DELIVERY_TIMEOUT: A pull delivery with no PULL_FRAG for 1 s is abandoned and its lock released. (R409) -/
  | fragDeliveryTimeout
  /-- RECOVER: Runs SMBus bus recovery with up to nine SCL pulses and a STOP. (R414) -/
  | recover (freed : Bool)
  /-- CLEAR_ASM: Discards the open SMBus assembly and counts FRAG_ABORT_CNT. (R419) -/
  | clearAsm
  /-- HOST_NOTIFY: Sends a Host Notify frame to 0x08 when IRQ_N falls, rate-limited by NOTIFY_MIN. (R415) -/
  | hostNotify (r : NotifyTry)
  /-- NOTIFY_RETRY: After lost arbitration or a NACK the device retries once the bus is idle for tBUF plus its backoff, up to 8 attempts. (R417) -/
  | notifyRetry (r : NotifyTry)
  /-- SMB_WATCH_WAKE: A START in WATCH wakes the interface, the first address is NACKed and recognised again within tWAKE. (R418) -/
  | smbWatchWake
  /-- SPI_WAKE: A falling HCS_N in WATCH starts the wake to RUN. (R381) -/
  | spiWake
  /-- IRQ_REPULSE: After a host IRQ_STAT write that leaves IRQ_N asserted, the pin is released for 1 µs to 2 µs and reasserted. (R394) -/
  | irqRepulse
  /-- REGISTER_WRITE: A write to a register with no row of its own, judged for alignment, mapping, writer, range and lock. (R386) -/
  | registerWrite (h : HostIf) (a : BitVec 24) (v : Word)
  /-- IRQ_STAT_CLEAR: W1C to a page's IRQ_STAT clears latched causes except standing level causes. (R426) -/
  | irqStatClear (g : PageRef) (mask : Word)
  /-- IRQ_FORCE: Writing 1 sets the matching IRQ_STAT bit. (R422) -/
  | irqForce (g : PageRef) (mask : Word)
  /-- PAGE_LOCK: Sets a page's LOCK so host writes to its RW fields record LOCKED until cold reset. (R424) -/
  | pageLock (g : PageRef)
  /-- BLOCK_RESET: Resets the protocol logic and RW fields of HSPI, SMB or WEFT within 10 µs. (R425) -/
  | blockReset (g : PageRef)
  /-- PAGE_ENABLE_WRITE: EN = 0 idles both Weft links or aborts a running test. (R423) -/
  | pageEnableWrite (g : PageRef) (en : Bool)
  /-- MODE_WRITE: Twill writes LOOP_CTL.MODE, halting or starting the port's loop if the halt cause has cleared. (R206) -/
  | modeWrite (p : Port) (m : Fin 8)
  /-- PERIOD_WRITE: A port period write is accepted only while the port's MODE is HALT. (R234) -/
  | periodWrite (p : Port) (v : Nat)
  /-- PHASE_WRITE: A phase write applies at the next period start, lengthening that period. (R235) -/
  | phaseWrite (p : Port) (v : BitVec 8)
  /-- SAT_FLAGS_CLEAR: Any engine or the host clears sticky saturation flags by writing 1. (R192) -/
  | satFlagsClear (p : Port) (mask : Fin 16)
  /-- SOFT_START: Guard command that closes the pass switch through the soft-start sequence. (R266) -/
  | softStart (p : Port) (byTwill : Bool)
  /-- CLOSE_MATCHED: Guard command that closes the pass switch at full enhancement when VCONV matches VBUS. (R268) -/
  | closeMatched (p : Port) (byTwill : Bool) (vconvMv : Nat) (vbusMv : Nat)
  /-- OPEN: Guard command that opens the pass switch as a planned opening. (R264) -/
  | openCmd (p : Port) (byTwill : Bool)
  /-- OPEN_LOW: Guard command that opens the pass switch once VBUS falls below 4.0 V. (R264) -/
  | openLow (p : Port) (byTwill : Bool)
  /-- OPEN_IDLE: Guard command that opens the pass switch once |IBUS| stays below 50 mA for 200 µs. (R264) -/
  | openIdle (p : Port) (byTwill : Bool)
  /-- COMMIT_A: Checks the staging words and loads port curve A. (R278) -/
  | commitA (p : Port)
  /-- COMMIT_B: Checks the staging words and loads port curve B. (R278) -/
  | commitB (p : Port)
  /-- FEED_COMMIT_A: Checks the feed staging words and loads the feed A curve. (R318) -/
  | feedCommitA
  /-- FEED_COMMIT_B: Checks the feed staging words and loads the feed B curve. (R318) -/
  | feedCommitB
  /-- CLEAR_A: Clears feed A's latch, or its retirement together with REPAIRED. (R317) -/
  | clearA (repaired : Bool)
  /-- CLEAR_B: Clears feed B's latch, or its retirement together with REPAIRED. (R317) -/
  | clearB (repaired : Bool)
  /-- FORCE: FEED_CTL.FORCE switches to a named feed or opens both feeds. (R312) -/
  | forceCmd (v : Fin 4)
  /-- CABLE_RESET: PD_CTL request for Cable Reset, sent only when VCONN source and DFP in an explicit contract. (R91) -/
  | cableReset (p : Port)
  /-- HARD_RESET: PD_CTL request for the PHY to send Hard Reset. (R89) -/
  | hardReset (p : Port)
  /-- SOFT_RESET: PD_CTL request for Soft Reset on SOP, sent as Hard Reset during a transition after its Accept. (R127) -/
  | softReset (p : Port)
  /-- WARM: RST_CTL request for a warm reset. (R535) -/
  | warm
  /-- SAFE_ENTER: RST_CTL request to enter SAFE. (R544) -/
  | safeEnter
  /-- SAFE_EXIT: RST_CTL request to leave SAFE once its cause has cleared. (R546) -/
  | safeExit
  /-- REQ: SNAP_CTL request for a snapshot at the next boundary. (R449) -/
  | req
  /-- MBIST: Disruptive memory BIST of Twill, Marl, ledger, mirror and reserve partitions. (R561) -/
  | mbist (failed : List (Fin 3072))
  /-- ADC_REQUALIFICATION: Disruptive check of all converters against internal references, clearing FAILED marks. (R561) -/
  | adcRequalification (ok : BitVec 9)
  /-- SCRUB_PASS: Runs one full SRAM scrub pass at once. (R561) -/
  | scrubPass (corrected : Nat)
  /-- MAILBOX_COMMIT: A word-0 write commits the staged message into a mailbox, overwriting and flagging COLLIDE if full. (R349) -/
  | mailboxCommit (from_ : Fin 16) (m : Fin 64) (w0 : BitVec 27) (staged : List Word)
  /-- MAILBOX_READ: The receiver's word-0 read moves the message to the holding buffer and clears FULL. (R351) -/
  | mailboxRead (m : Fin 64)
  /-- TIME_LO_READ: A read of TIME_LO latches the matching TIME_HI. (R457) -/
  | timeLoRead
  /-- CC_OVP_CLEAR: W1C of CC_FLT.CC_OVP clears only when both pins read below 5.5 V. (R67) -/
  | ccOvpClear (p : Port) (cc1Mv : Nat) (cc2Mv : Nat)
  /-- VCONN_FORCE_OFF: Holds the VCONN switch open and returns the reservation. (R67) -/
  | vconnForceOff (p : Port) (v : Bool)
  /-- WINDOW_WRITE: A write to the SW0820 compatibility window acts as a request to Loam, placing the port under window management. (R431) -/
  | windowWrite (a : WindowAt) (v : Word)
  /-- COMMAND_DISPATCH: Loam takes the next command from rings 1 to 3 when ring 4 has room for its response. (R357) -/
  | commandDispatch (e : OtpEnv)
  /-- EVENT_RECORD_WRITE: A producer writes an event record to its ring, coalescing, dropping or replacing under pressure. (R361) -/
  | eventRecordWrite (q : Fin 40) (coal : Bool) (sev : Fin 4) (port : Byte) (code : Byte) (src : Byte) (d4 : Word) (d5 : Word) (d6 : Word) (d7 : Word)
  /-- RING_THROTTLE_TICK: At each tick with a ring at or above HWM, COAL_WIN doubles up to its cap. (R361) -/
  | ringThrottleTick (q : Fin 40)
  /-- MAILBOX_ABORTED: A receiver's core reset clears its mailboxes and raises the ABORTED notice to senders. (R353) -/
  | mailboxAborted (e : Fin 16)
  /-- DOORBELL_WAKE: A doorbell wakes a sleeping receiver or powers up a gated domain. (R352) -/
  | doorbellWake (e : Fin 16)
  /-- RD_DETECTED: A source port sees Rd on one CC pin and enters AttachWait.SRC. (R41) -/
  | rdDetected (p : Port) (mv1 mv2 : Nat)
  /-- RP_DETECTED: A sink port sees an Rp level and enters AttachWait.SNK. (R43) -/
  | rpDetected (p : Port) (mv1 mv2 : Nat)
  /-- T_CCDEBOUNCE_EXPIRY: tCCDebounce expires and the port enters Attached.SRC or Attached.SNK, closing VCONN and requesting 5 V. (R30) -/
  | tCcdebounceExpiry (p : Port) (vbusMv : Nat)
  /-- T_PDDEBOUNCE_EXPIRY: CC open for tPDDebounce completes detach, writes MODE 0 and closes the ledger session. (R30) -/
  | tPddebounceExpiry (p : Port)
  /-- T_DRP_TOGGLE: A DRP port switches between Unattached.SRC and Unattached.SNK within its tDRP period. (R39) -/
  | tDrpToggle (p : Port)
  /-- TRY_TIMER_EXPIRY: A Try.SRC or Try.SNK timer expires and the port moves through the standard's Try states. (R40) -/
  | tryTimerExpiry (p : Port) (t : TryTimer) (vbusMv : Nat)
  /-- T_ERROR_RECOVERY_EXPIRY: tErrorRecovery ends and the port starts a new attach. (R136) -/
  | tErrorRecoveryExpiry (p : Port)
  /-- RP_VALUE_CHANGE: A sink sees the advertised Rp change for tRpValueChange and adjusts its current limit. (R45) -/
  | rpValueChange (p : Port) (mv : Nat)
  /-- CC_OPEN_Q: The CC line reads Open for the qualification time and CC_OPEN_Q freezes the ramp and arms the fast-detach opening. (R50) -/
  | ccOpenQ (x : CcSeen)
  /-- CC_OPEN_Q_RELEASE: CC_OPEN_Q releases before the opening and the ramp resumes. (R51) -/
  | ccOpenQRelease (p : Port)
  /-- CC_GLITCH: An Open reading shorter than the qualification counts CC_GLITCH_CNT. (R46) -/
  | ccGlitch (x : CcSeen)
  /-- FAST_DETACH_OPENING: IBUS below 50 mA for 200 µs or CC_OPEN_Q for 1 ms opens the pass switch and turns DSG on. (R50) -/
  | fastDetachOpening (p : Port)
  /-- SINK_CC_OPEN: CC_OPEN_Q on a sink sets the reverse current set-point to zero. (R52) -/
  | sinkCcOpen (p : Port)
  /-- VCONN_OCP: VCONN current above the OCP threshold opens the switch within 5 µs and latches VCONN_OCP. (R53) -/
  | vconnOcp (p : Port)
  /-- VCONN_RECLOSE: 100 ms after a first VCONN_OCP trip Twill may close the switch once more. (R54) -/
  | vconnReclose (p : Port)
  /-- VCONN_REV: Pin voltage above VCONN_IN by 150 mV opens the switch for the attachment. (R55) -/
  | vconnRev (p : Port)
  /-- VCONN_CLAIM: Twill claims 300 mA from the VCONN pool before closing a switch, retrying each tick on failure. (R56) -/
  | vconnClaim (p : Port)
  /-- CABLE_DISCOVERY_ATTEMPT: Sends SOP′ Discover Identity and classifies the cable from the answer. (R59) -/
  | cableDiscoveryAttempt (p : Port) (reply : Option CableReply)
  /-- CC_OVP: A CC pin above about 6 V for 200 ns latches CC_OVP, opens the CC switches and trips the guard. (R62) -/
  | ccOvp (p : Port) (ibusMa : Int) (vbusMv : Nat)
  /-- WATCH_SAMPLE: On each WATCH tick the sequencer samples CC comparators and watched monitors, waking the device on a finding. (R63) -/
  | watchSample (cc : List (Port × Nat × Nat)) (mons : List (Mon × Nat))
  /-- FRAME_RECEIVED: The PHY accepts a frame, sends GoodCRC, checks duplicates and queues it for Twill. (R74) -/
  | frameReceived (p : Port) (f : Frame) (check : FrameCheck) (len : Nat) (rev : BitVec 2) (byOwner : Bool)
  /-- FRAME_TRANSMIT: Twill submits a frame and the PHY sends it once the line is idle. (R70) -/
  | frameTransmit (p : Port) (f : Frame) (ams : Bool)
  /-- GOODCRC_RECEIVED: A matching GoodCRC ends a transmission with OK and increments the MessageID counter. (R75) -/
  | goodcrcReceived (p : Port) (k : Sop) (id : BitVec 3)
  /-- T_RECEIVE_EXPIRY: No GoodCRC within tReceive makes the PHY retry or report FAIL. (R76) -/
  | tReceiveExpiry (p : Port)
  /-- T_SINKTX_EXPIRY: After tSinkTx under SinkTxNG the source transmits the first message of its AMS. (R85) -/
  | tSinktxExpiry (p : Port)
  /-- SINKTXOK_READ: A sink holding a message sends it once SinkTxOK is read. (R87) -/
  | sinktxokRead (p : Port)
  /-- HARD_RESET_RECEIVED: The PHY receives a Hard Reset ordered set, aborts transmission, clears state and signals Twill, Marl and the guard. (R90) -/
  | hardResetReceived (p : Port) (vbusMv : Nat)
  /-- HARD_RESET_SENT: The Hard Reset ordered set leaves the line, or tHardResetComplete expires, and Hard Reset takes effect. (R89) -/
  | hardResetSent (p : Port) (vbusMv : Nat)
  /-- CHUNK_RECEIVED: Twill reassembles a chunk of an extended message, aborting on sequence errors. (R95) -/
  | chunkReceived (p : Port) (k : Sop) (m : PdMsg) (c : Chunk) (data : List Byte)
  /-- T_CHUNK_SENDER_RESPONSE_EXPIRY: tChunkSenderResponse expires and the partial reassembly is discarded. (R95) -/
  | tChunkSenderResponseExpiry (p : Port) (k : Sop)
  /-- T_CHUNKING_NOT_SUPPORTED_EXPIRY: No Chunk Request within tChunkingNotSupported makes Twill stop sending chunks. (R96) -/
  | tChunkingNotSupportedExpiry (p : Port)
  /-- REFUSED_MESSAGE: A refused message is answered with Not_Supported or Reject and counted. (R97) -/
  | refusedMessage (p : Port) (m : PdMsg)
  /-- DISCOVER_IDENTITY_SOP: The device answers Discover Identity on SOP with its OTP identity. (R98) -/
  | discoverIdentitySop (p : Port)
  /-- STRUCTURED_VDM_REQUEST: The device answers NAK to other structured VDM requests on SOP and ignores Attention. (R98) -/
  | structuredVdmRequest (p : Port) (attention : Bool)
  /-- GET_BATTERY_CAP: Answered with the Invalid Battery Reference flag set. (R99) -/
  | getBatteryCap (p : Port) (status : Bool)
  /-- GET_MANUFACTURER_INFO: Answered with the device identity and an empty string. (R99) -/
  | getManufacturerInfo (p : Port)
  /-- GET_SINK_CAP: Answered with Sink_Capabilities built from the profile, or Not_Supported on a source-only port. (R599) -/
  | getSinkCap (p : Port) (q : CapQuery)
  /-- GET_SOURCE_CAP: The source resends its capabilities on the partner's request. (R112) -/
  | getSourceCap (p : Port) (q : CapQuery)
  /-- GET_STATUS: Answered with Status from die temperature and guard state. (R599) -/
  | getStatus (p : Port)
  /-- GET_PPS_STATUS: Answered with PPS_Status and restarts tPPSTimeout. (R599) -/
  | getPpsStatus (p : Port)
  /-- GET_SOURCE_INFO: Answered with Source_Info from the budget. (R599) -/
  | getSourceInfo (p : Port)
  /-- GET_REVISION: Answered with Revision 3.2, Version 1.0. (R599) -/
  | getRevision (p : Port)
  /-- SOURCE_CAPABILITIES_SENT: Twill builds and sends Source_Capabilities or EPR_Source_Capabilities from profile, cable and offer. (R110) -/
  | sourceCapabilitiesSent (x : CapsDue)
  /-- T_SOURCE_CAPABILITY_EXPIRY: Twill resends capabilities every 150 ms up to nCapsCount. (R112) -/
  | tSourceCapabilityExpiry (p : Port)
  /-- REQUEST: Twill evaluates a Request against the last capabilities and the offer and answers Accept, Reject, Wait or Soft_Reset. (R113) -/
  | request (p : Port) (r : Rdo)
  /-- EPR_REQUEST: Twill evaluates an EPR_Request like a Request, also checking the PDO copy. (R113) -/
  | eprRequest (p : Port) (r : Rdo) (copy : Pdo)
  /-- SOURCE_CAPABILITIES_RECEIVED: As sink, Twill selects the highest-power object within the profile and requests it. (R117) -/
  | sourceCapabilitiesReceived (p : Port) (caps : List Pdo) (f : CapFlags)
  /-- T_TYPEC_SINK_WAIT_CAP_EXPIRY: A sink with no capabilities in time sends Hard Reset, up to nHardResetCount, then ErrorRecovery. (R118) -/
  | tTypecSinkWaitCapExpiry (p : Port)
  /-- T_PS_TRANSITION_EXPIRY: A sink missing PS_RDY after Accept sends Hard Reset. (R118) -/
  | tPsTransitionExpiry (p : Port) (vbusMv : Nat)
  /-- SINK_ACCEPT_RECEIVED: A sink reduces its draw to standby or the lower current until PS_RDY. (R119) -/
  | sinkAcceptReceived (p : Port)
  /-- SINK_PS_RDY_RECEIVED: A sink ramps to the new current after PS_RDY. (R119) -/
  | sinkPsRdyReceived (p : Port)
  /-- T_SRC_TRANSITION_EXPIRY: tSrcTransition after the Accept's GoodCRC, Twill writes the new voltage set-point and Marl ramps. (R120) -/
  | tSrcTransitionExpiry (p : Port)
  /-- RAMP_COMPLETE: The set-point ramp reaches its target and Marl holds it. (R120) -/
  | rampComplete (p : Port)
  /-- VBUS_SETTLED: VBUS within the settling band for 200 µs leads Twill to send PS_RDY and clear TRANSITION. (R120) -/
  | vbusSettled (p : Port) (vbusMv : Nat)
  /-- SETTLE_TIMEOUT: VBUS still outside the band 5 ms after the ramp leads to Hard Reset and TRANSITION_FAIL. (R121) -/
  | settleTimeout (p : Port) (vbusMv : Nat)
  /-- PPS_UNDERVOLTAGE: VBUS below the PPS object's minimum for 10 ms leads to Hard Reset. (R124) -/
  | ppsUndervoltage (p : Port) (vbusMv : Nat)
  /-- EPR_MODE_ENTER: A source runs the EPR entry checks and answers Enter Succeeded or Enter Failed. (R128) -/
  | eprModeEnter (p : Port)
  /-- EPR_MODE_EXIT: A sink's Exit clears EPR mode in an SPR contract, or leads to Hard Reset in an EPR contract. (R129) -/
  | eprModeExit (p : Port)
  /-- EPR_AUTO_EXIT: Twill leaves EPR mode itself when the cable, profile or offer no longer allows it. (R130) -/
  | eprAutoExit (p : Port)
  /-- EPR_EXIT_TIMEOUT: A sink not on an SPR object 500 ms after positions 8 to 11 were emptied gets Hard Reset. (R130) -/
  | eprExitTimeout (p : Port)
  /-- EPR_KEEPALIVE: Twill answers EPR_KeepAlive with EPR_KeepAlive_Ack and restarts tSourceEPRKeepAlive. (R132) -/
  | eprKeepalive (p : Port)
  /-- T_PPS_TIMEOUT_EXPIRY: tPPSTimeout expires and Twill sends Hard Reset with PPS_TIMEOUT. (R132) -/
  | tPpsTimeoutExpiry (p : Port)
  /-- T_SOURCE_EPR_KEEPALIVE_EXPIRY: tSourceEPRKeepAlive expires and Twill sends Hard Reset with EPR_KEEPALIVE_TIMEOUT. (R132) -/
  | tSourceEprKeepaliveExpiry (p : Port)
  /-- SINK_KEEPALIVE_INTERVAL: As sink, the port sends EPR_KeepAlive every 375 ms or a repeat Request every 8 s in PPS. (R133) -/
  | sinkKeepaliveInterval (x : KeepAliveDue)
  /-- SOFT_RESET_RECEIVED: A Soft Reset keeps power and contract and resends capabilities. (R134) -/
  | softResetReceived (p : Port) (k : Sop)
  /-- T_PS_HARD_RESET_EXPIRY: tPSHardReset elapses and Marl ramps VBUS down with VCONN opened. (R135) -/
  | tPsHardResetExpiry (p : Port)
  /-- VBUS_BELOW_4V: VBUS below 4.0 V opens the pass switch with DSG on and drives the converter to 0 V. (R135) -/
  | vbusBelow4v (p : Port)
  /-- VBUS_AT_VSAFE0V: VBUS reaches vSafe0V and DSG turns off. (R135) -/
  | vbusAtVsafe0v (p : Port)
  /-- T_SRC_RECOVER_EXPIRY: tSrcRecover elapses and VCONN closes before the 5 V soft start. (R135) -/
  | tSrcRecoverExpiry (p : Port)
  /-- T_SAFE0V_EXPIRY: VBUS not at vSafe0V within tSafe0V abandons Hard Reset for ErrorRecovery. (R135) -/
  | tSafe0vExpiry (p : Port)
  /-- DETACH_IN_TRANSITION: CC_OPEN_Q during a transition freezes the ramp and completes detach with the DETACH_IN_TRANSITION event. (R137) -/
  | detachInTransition (p : Port)
  /-- PR_SWAP: Twill answers a partner's PR_Swap with Accept, Wait or Reject. (R161) -/
  | prSwap (p : Port)
  /-- DR_SWAP: An accepted DR_Swap changes only the header data role. (R171) -/
  | drSwap (p : Port)
  /-- VCONN_SWAP: An accepted VCONN_Swap claims and closes or opens the VCONN switch with PS_RDY. (R172) -/
  | vconnSwap (p : Port)
  /-- T_VCONN_SOURCE_TIMEOUT_EXPIRY: No partner PS_RDY within tVCONNSourceTimeout keeps VCONN on and sends Hard Reset. (R172) -/
  | tVconnSourceTimeoutExpiry (p : Port)
  /-- OWN_PR_SWAP: Twill sends PR_Swap on its own initiative after the first contract or for the return to the feeds. (R163) -/
  | ownPrSwap (p : Port)
  /-- SWAP_REPEAT: After tPRSwapWait the device repeats an abandoned or waited swap request, up to three times. (R170) -/
  | swapRepeat (p : Port)
  /-- PR_SWAP_SOURCE_ACCEPTED: An initial source's Accept is acknowledged and Marl holds the set-point for tSrcTransition. (R165) -/
  | prSwapSourceAccepted (p : Port)
  /-- PR_SWAP_SOURCE_OFF: At vSafe0V the initial source moves to Rd and sends PS_RDY. (R165) -/
  | prSwapSourceOff (p : Port)
  /-- PR_SWAP_PARTNER_PS_RDY: On the partner's PS_RDY the new sink matches CSP to VBUS and closes the pass switch. (R165) -/
  | prSwapPartnerPsRdy (p : Port) (vconvMv : Nat) (vbusMv : Nat)
  /-- PR_SWAP_SINK_ACCEPTED: An initial sink zeroes reverse current, opens the switch and drives CSP to 0 V. (R166) -/
  | prSwapSinkAccepted (p : Port)
  /-- PR_SWAP_SINK_PS_RDY: On the partner's PS_RDY the new source presents Rp and soft-starts 5 V, then sends PS_RDY. (R166) -/
  | prSwapSinkPsRdy (p : Port)
  /-- T_PS_SOURCE_ON_EXPIRY: Missing partner PS_RDY for tPSSourceOn sends the port to ErrorRecovery with PR_SWAP_FAILED. (R165) -/
  | tPsSourceOnExpiry (p : Port)
  /-- T_PS_SOURCE_OFF_EXPIRY: Missing partner PS_RDY for tPSSourceOff sends the port to ErrorRecovery with PR_SWAP_FAILED. (R166) -/
  | tPsSourceOffExpiry (p : Port)
  /-- T_SWAP_SOURCE_START_EXPIRY: tSwapSourceStart after the swap, the new source sends Source_Capabilities. (R166) -/
  | tSwapSourceStartExpiry (p : Port)
  /-- FRS_SIGNAL_DETECTED: A sink qualifies the Fast Role Swap signal and Marl starts sourcing 5 V at 3.0 A. (R176) -/
  | frsSignalDetected (p : Port) (vbusMv : Nat)
  /-- FR_SWAP: As initial source, Twill accepts FR_Swap, moves to Rd and sends PS_RDY. (R179) -/
  | frSwap (p : Port)
  /-- FRS_NO_FR_SWAP: No FR_Swap within 15 ms of the signal leads to Hard Reset and FRS_FAILED. (R179) -/
  | frsNoFrSwap (p : Port)
  /-- BANK_FRS_FIRE: On a bus loss while armed, the guard signals Fast Role Swap on every eligible port and ceilings the rest. (R177) -/
  | bankFrsFire
  /-- BANK_FRS_ARM: The guard arms bank Fast Role Swap once the bus has been within its window for 1 s with a feed selected. (R177) -/
  | bankFrsArm
  /-- ISLAND_END: After a feed returns and the bus holds for RETURN_DELAY, Loam ends the island and re-arms. (R185) -/
  | islandEnd
  /-- RETURN_SWAP: Twill sends PR_Swap on one islanded port per tick, repeating Rejects every RETURN_RETRY. (R186) -/
  | returnSwap
  /-- IDENTITY_GATHERING: After the first contract's PS_RDY Twill gathers identity and Loam finds or creates the record. (R329) -/
  | identityGathering (p : Port) (e : IdEvent)
  /-- AUTHENTICATION: Loam authenticates a partner by digest, chain and challenge and records the result. (R333) -/
  | authentication (p : Port) (e : AuthEvent)
  /-- BATTERY_STATUS_REFRESH: Twill refreshes Get_Battery_Status every 60 s during a session. (R331) -/
  | batteryStatusRefresh (p : Port)
  /-- SESSION_CLOSE: At session close Loam updates SESSIONS, CYCLES, capacity estimate and EOL. (R336) -/
  | sessionClose (p : Port)
  /-- LEDGER_JOURNAL: Loam journals a changed record within 5 s or every PERSIST_T. (R340) -/
  | ledgerJournal (slot : Fin 8192) (ok : Bool)
  /-- LEDGER_COMPACTION: With the journal over 75 % full, Loam writes a new base bank and erases the journal. (R340) -/
  | ledgerCompaction (done : Bool)
  /-- MANAGEMENT_TICK: Loam recomputes capacity and every port's offer and accounts energy. (R145) -/
  | managementTick (feedMv : Nat) (feedMa : Int)
  /-- OFFER_READVERTISE: Twill re-advertises after a forced or voluntary offer change. (R149) -/
  | offerReadvertise (p : Port)
  /-- SELF_SHED: After OVL_TICKS over threshold Loam applies shed ceilings in shed order. (R150) -/
  | selfShed
  /-- FORCED_READV_SHED: A contract still above its offer 3 s after a forced re-advertisement gets a Loam shed ceiling. (R151) -/
  | forcedReadvShed (p : Port)
  /-- SHED_EXPIRY: A host shed ceiling valid for SHED_EXPIRY seconds is cleared. (R155) -/
  | shedExpiry (p : Port)
  /-- INNER_LOOP_BOUNDARY: At each inner-loop boundary Marl latches shadows, ramps, runs outer laws when due and writes d. (R188) -/
  | innerLoopBoundary (p : Port)
  /-- COEFFICIENT_SWAP: A pending table is swapped in at the port's first outer step after both engines hold it. (R210) -/
  | coefficientSwap (p : Port)
  /-- TABLE_CRC_CHECK: Each tick Chalk checks bank CRCs, repairing from the other engine or forcing safe state. (R211) -/
  | tableCrcCheck (bad : List (Fin 2 × Port))
  /-- DEADLINE_MISS: A missed duty write marks the engine FAILED and moves its ports to the other engine. (R217) -/
  | deadlineMiss (missed : Port)
  /-- ENGINE_RESTORED: A restarted engine with matching CRCs takes back its default ports. (R219) -/
  | engineRestored (e : Fin 2)
  /-- MODEL_OUTER_STEP: Marl evaluates the plausibility model, learns terms and filters residuals. (R245) -/
  | modelOuterStep (p : Port)
  /-- PLAUS_ALARM: A residual over threshold for 16 steps raises an alarm. (R248) -/
  | plausAlarm (p : Port)
  /-- PLAUS_ACTION: A residual over twice threshold for 64 steps takes foldback or trip. (R248) -/
  | plausAction (p : Port)
  /-- PLAUS_ALARM_RELEASE: A residual below half threshold for 1 s releases the alarm. (R248) -/
  | plausAlarmRelease (p : Port)
  /-- FOLDBACK_CLEAR: A residual below half threshold for 10 s clears foldback. (R248) -/
  | foldbackClear (p : Port)
  /-- LEARNING_WINDOW_END: At the end of a window Marl accepts or rejects R_win and updates R_EXT. (R254) -/
  | learningWindowEnd (p : Port)
  /-- PROBE_START: After 60 s without an accepted window Marl adds its probe excitation. (R255) -/
  | probeStart (p : Port)
  /-- ADC_BURST: A converter converts a port's IBUS, VBUS and VCONV burst and queues the results. (R226) -/
  | adcBurst (p : Port) (i : BitVec 12) (vbus : BitVec 12) (vconv : BitVec 12) (late : Bool) (dropped : Fin 4)
  /-- SENSE_STALE: An invalid burst makes Marl repeat samples, tripping SENSE_LOST after three. (R228) -/
  | senseStale (x : BurstRead)
  /-- CALIBRATION_STEP: Every CAL_STEP a converter is calibrated while ADC 8 carries its group. (R229) -/
  | calibrationStep (diff1 : Nat) (offset : BitVec 16) (gain : BitVec 16) (diff4 : Nat)
  /-- ADC_MISMATCH: A pair disagreement leads to the mid-scale check and FAILED marking. (R231) -/
  | adcMismatch (errK : Int) (err8 : Int)
  /-- HOUSEKEEPING_FRAME: The housekeeping converter samples bus, feeds, VCONN currents and supplies. (R232) -/
  | housekeepingFrame (bus : BusRead) (fa : BitVec 12) (fb : BitVec 12) (ia : BitVec 12) (ib : BitVec 12) (tDie : BitVec 16) (tExt : BitVec 16) (rails : RailRead)
  /-- PERIOD_START: At each period start the PWM block applies duty, region and edges. (R236) -/
  | periodStart (p : Port)
  /-- DRV_EN_FALL: DRV_ENk falls 1 µs after the last running port of its group halts. (R241) -/
  | drvEnFall (g : Fin 4)
  /-- DRV_SETUP_EXPIRY: After DRV_SETUP from DRV_ENk rising, PWM outputs are released. (R241) -/
  | drvSetupExpiry (g : Fin 4)
  /-- FORWARD_CHECK: VCONV reaches 4.75 V and the forward shorted-FET check runs for 200 µs. (R266) -/
  | forwardCheck (p : Port) (vbusMv : Nat) (ibusMa : Int)
  /-- VCONV_NOT_READY: VCONV not at 4.75 V within 5 ms refuses the soft start. (R266) -/
  | vconvNotReady (p : Port)
  /-- FIRST_GATE_MARK: VG − VS reaches 2.0 V. (R266) -/
  | firstGateMark (p : Port) (us : Nat)
  /-- VBUS_ABOVE_475: VBUS above 4.75 V switches the gate to full enhancement. (R266) -/
  | vbusAbove475 (p : Port)
  /-- GUARD_ON: VG − VS reaches 7.0 V and the guard reports GUARD_ON. (R266) -/
  | guardOn (p : Port) (us : Nat)
  /-- RAMP_FAIL: RAMP_TMAX expires before VBUS reaches 4.75 V. (R266) -/
  | rampFail (p : Port) (ibusMa : Int) (vbusMv : Nat)
  /-- FET_DAMAGED: GATE_RISE_TMAX expires before a gate mark is met. (R266) -/
  | fetDamaged (p : Port) (ibusMa : Int) (vbusMv : Nat)
  /-- IFAST: The shunt voltage crosses the IFAST threshold and the pass switch turns off within the guard speed bound. (R273) -/
  | ifast (p : Port) (uv : Int) (nsFromGate : Nat) (ibusMa : Int) (vbusMv : Nat)
  /-- MONITOR_CROSSING: A qualified crossing of an acting window monitor trips the port. (R296) -/
  | monitorCrossing (p : Port) (c : Crossing) (mv : Nat) (ibusMa : Int) (vbusMv : Nat)
  /-- LIMIT_COUNTER_UPDATE: Each inner update the limit counter rises or falls and trips LIMIT or LIMIT_CEIL on reaching its limit. (R274) -/
  | limitCounterUpdate (p : Port)
  /-- CURVE_UPDATE: Each inner period the curve accumulator heats or cools and trips CURVE at 1. (R276) -/
  | curveUpdate (p : Port)
  /-- FET_SHORTED: A failed forward, reverse or off check latches FET_SHORTED. (R279) -/
  | fetShorted (p : Port) (c : ShortCheck) (ibusMa : Int) (vbusMv : Nat) (vconvMv : Nat)
  /-- REV_CHK_DONE: The reverse check runs 1 ms with conditions met and sets REV_CHK_DONE. (R279) -/
  | revChkDone (p : Port) (vbusMv : Nat) (vconvMv : Nat)
  /-- TRIP: A trip opens the switch, halts Marl, turns DSG on and sends Twill to ErrorRecovery. (R281) -/
  | trip (p : Port) (c : TripCause) (others : List TripCause) (ibusMa : Int) (vbusMv : Nat)
  /-- RETRY_T_EXPIRY: A Retry-class trip clears after RETRY_T once its condition allows. (R283) -/
  | retryTExpiry (p : Port)
  /-- DISCHARGE_DONE: VBUS below 0.8 V for 1 ms turns DSG off and the guard reaches GUARD_OFF. (R287) -/
  | dischargeDone (p : Port)
  /-- DISCHARGE_FAIL: DSG on for tSafe0V with VBUS at 0.8 V or above turns DSG off with DSG_TIMEOUT. (R287) -/
  | dischargeFail (p : Port) (vbusMv : Nat)
  /-- MONITOR_ALTERNATION: After SWAP_T the check window self-checks and the duties exchange. (R298) -/
  | monitorAlternation (at_ : Option Port) (r : CheckRead)
  /-- CSP_WINDOW_CHECK: The CSP window self-checks while Marl stands in for it. (R300) -/
  | cspWindowCheck (m : Mon) (r : CheckRead)
  /-- IFAST_CHECK: IFAST is checked in four steps at each closure and planned opening. (R301) -/
  | ifastCheck (m : Mon) (zero : Bool) (pos : Bool) (neg : Bool) (below : Bool)
  /-- MON_DISAGREE: Eight consecutive sample-to-comparator disagreements bring forward an out-of-turn check. (R302) -/
  | monDisagree (p : Port) (csp : Bool) (mv : Nat) (reads : Bool)
  /-- MON_FAILED: A repeated check failure marks the monitor FAILED with its effect on the port. (R303) -/
  | monFailed (m : Mon) (step : Nat)
  /-- MON_CHECK_DUE: A switch closed for DUE_T days without an IFAST check writes MON_CHECK_DUE. (R305) -/
  | monCheckDue (p : Port)
  /-- FEED_HEALTHY: A feed within its window for INS_DEB becomes healthy. (R311) -/
  | feedHealthy (f : Feed) (both : Bool)
  /-- FEED_WINDOW_LOSS: A feed window crossing removes health and may start a switchover. (R312) -/
  | feedWindowLoss (f : Feed)
  /-- SWITCHOVER: The outgoing feed gate is pulled down and the incoming one pre-charged to its mark. (R313) -/
  | switchover (outOff : Bool) (markMet : Bool)
  /-- GAP_EXPIRY: After GAP the incoming feed continues its closure by hot insertion. (R313) -/
  | gapExpiry
  /-- HOT_INSERTION: The controller closes a feed with a dv/dt-limited ramp into the bus. (R314) -/
  | hotInsertion (e : InsertEv)
  /-- FEED_ON: The feed gate reaches 7.0 V and the feed is ON. (R314) -/
  | feedOn
  /-- OFFER_HOLD_RELEASE: 1 s after FEED_ON Loam releases offers and seeds CAP. (R315) -/
  | offerHoldRelease
  /-- AUTO_RETURN: The PREF feed healthy for RET_T triggers a switchover back to it. (R312) -/
  | autoReturn
  /-- FEED_TRIP: A feed trip pulls the gate down and records its cause. (R317) -/
  | feedTrip (f : Feed) (c : FeedCause) (others : List FeedCause) (iFeed : Int)
  /-- FEED_RETRY_EXPIRY: A Retry-class feed trip clears after RETRY_T. (R317) -/
  | feedRetryExpiry (f : Feed)
  /-- FEED_REVERSE: Reverse feed current beyond REV_TH for REV_T opens the feed. (R319) -/
  | feedReverse (f : Feed) (iFeed : Int)
  /-- BUS_LOSS: A bus window crossing below its lower threshold fires bank FRS or applies ceilings and holds offers. (R321) -/
  | busLoss (mv : Nat)
  /-- BUS_OV: A bus crossing above its upper threshold forces every reverse limit to 0. (R322) -/
  | busOv (mv : Nat)
  /-- SUPPLY_FAULT: VCP or VCONN_IN leaving its window blocks closures or opens VCONN switches. (R323) -/
  | supplyFault (x : Supply) (mv : Nat)
  /-- SNAP_PIN_EDGE: A falling SNAP edge requests a snapshot at the next boundary. (R449) -/
  | snapPinEdge (lowNs : Nat)
  /-- SNAP_BOUNDARY: At the boundary every domain latches all shadows into a free bank or the snapshot is refused. (R451) -/
  | snapBoundary
  /-- SNAP_PIN_DRIVE: With PIN_DRIVE the device pulls SNAP low for 1 µs halfway between boundaries. (R454) -/
  | snapPinDrive
  /-- HOLD_EXPIRED: A host bank hold longer than HOLD_MAX is released. (R452) -/
  | holdExpired (b : Fin 2)
  /-- LINK_TRAINING: A Weft link passes ALIGN and TRAIN to UP on signal detect. (R435) -/
  | linkTraining (l : Link) (e : LinkEvent)
  /-- LINK_DOWN: Loss of signal, code errors or missing IDLE take a link DOWN. (R435) -/
  | linkDown (k : AnyLink) (w : LinkLoss)
  /-- CELL_RECEIVED: A device delivers a cell locally or forwards it by cut-through. (R438) -/
  | cellReceived (l : Link) (c : CellClass) (x : Cell) (good : Bool)
  /-- CELL_DELIVERED: A locally delivered message is handed on by type to Loam, ring 7, the stop lane or snapshots. (R441) -/
  | cellDelivered (l : Link) (c : CellClass)
  /-- CREDIT: A CREDIT set returns class credits to the transmitter. (R440) -/
  | credit (l : Link) (c : CellClass) (n : Byte)
  /-- ASSEMBLY_TIMEOUT: A fabric message missing a cell for 10 ms is discarded. (R441) -/
  | assemblyTimeout (src : BitVec 12) (msgId : BitVec 16)
  /-- SYNC: A follower takes an upstream SYNC, disciplines its time and forwards it. (R445) -/
  | sync (l : Link) (y : SyncSet)
  /-- SYNC_SEND: A master sends SYNC on every UP link every SYNC_INT. (R445) -/
  | syncSend
  /-- DELAY_REQ: A DELAY_REQ and DELAY_RESP exchange measures link delay. (R445) -/
  | delayReq (l : Link) (d : BitVec 16)
  /-- HOLDOVER: Four SYNC_INT without an upstream SYNC put the follower in HOLDOVER. (R447) -/
  | holdover
  /-- HELLO: A HELLO set carries the neighbour's ID and may set ID_CONFLICT. (R435) -/
  | hello (l : Link) (id : BitVec 12) (valid : Bool)
  /-- OWN_IN_LOSS: OWN_IN without an edge for 200 µs starts a claim by YIELD_OUT. (R474) -/
  | ownInLoss
  /-- CLAIM_COMPLETE: 20 µs after YIELD_OUT the claimer becomes owner and drives its outputs. (R474) -/
  | claimComplete (us : BitVec 16)
  /-- YIELD_OUT_RELEASE: 120 µs after asserting it the claimer releases YIELD_OUT. (R474) -/
  | yieldOutRelease
  /-- YIELD_IN: A member yields its outputs on YIELD_IN, or a primary vetoes. (R475) -/
  | yieldIn (level : Bool)
  /-- TAKEOVER: A new owner resumes every port from the mirror or cache within 2 ms. (R477) -/
  | takeover (us : BitVec 16)
  /-- OWN_OUT_TOGGLE: A member toggles OWN_OUT every 50 µs while HB_ENABLE is set. (R473) -/
  | ownOutToggle (edge : Bool)
  /-- SELVEDGE_TRAINING: Selvedge reaches UP after HELLO exchange and key proof. (R465) -/
  | selvedgeTraining (e : LinkEvent)
  /-- SELVEDGE_FRAME: A received Selvedge frame is stored, acknowledged or applied by type. (R466) -/
  | selvedgeFrame (good : Bool) (seq : Word) (b : SelBody)
  /-- SELVEDGE_RETRANSMIT: An unacknowledged reliable frame is resent after 20 µs, the link dropping after eight. (R466) -/
  | selvedgeRetransmit
  /-- LOOP_FRAME_SEND: The owner sends each LOOP group every MIRROR_INT. (R467) -/
  | loopFrameSend (g : Fin 4)
  /-- URGENT: A stop-lane change is sent to the partner and applied there within 10 µs. (R472) -/
  | urgent (stop : Word) (shed : List (Bool × Nat × Nat × Nat))
  /-- HANDOVER: At T_H the owner releases its outputs and the standby drives. (R480) -/
  | handover (e : HoEvent)
  /-- COLD_START: After reset release the ROM checks OTP, chooses and verifies a slot and Loam brings up engines. (R491) -/
  | coldStart (x : ColdFound)
  /-- WARM_START: A warm reset holds compute and link, empties command rings and restarts from step 3. (R536) -/
  | warmStart (x : WarmFound)
  /-- CORE_LOAD_FAIL: A component failing its hash twice marks its engine FAILED. (R495) -/
  | coreLoadFail (e : Fin 12)
  /-- AUTO_CONFIRM: After CONFIRM_T in RUN Loam confirms the trial slot and raises ARB counters. (R496) -/
  | autoConfirm (e : OtpEnv)
  /-- DELTA_BLOCK: Loam decodes, programs, verifies and journals one 4 KB output block. (R501) -/
  | deltaBlock (good : Bool)
  /-- UPD_RESUMED: After a reset Loam resumes application from the last committed block or reports INTERRUPTED. (R502) -/
  | updResumed (readOk : Bool)
  /-- HOST_BOOT: The ROM stages and checks a host-pushed full package and starts it. (R505) -/
  | hostBoot (ms : Nat)
  /-- RECOVERY_ROM: The recovery ROM serves update and OTP commands with every port safe. (R506) -/
  | recoveryRom
  /-- POWER_ON_RESET_RELEASE: All supplies valid for 2 ms with XIN and PLLs locked releases power-on reset. (R532) -/
  | powerOnResetRelease (boot : BitVec 2) (saddr : BitVec 2)
  /-- BROWNOUT: A supply below its falling threshold for 2 µs causes a cold reset. (R532) -/
  | brownout (rail : Rail)
  /-- RESET_N_LOW: A RESET_N pulse of 100 ns or longer gives a complete cold reset. (R534) -/
  | resetNLow (lowNs : Nat) (boot : BitVec 2) (saddr : BitVec 2)
  /-- CLOCK_LOSS: A lost PLL or XIN triggers a warm reset or opens all ports and enters SAFE. (R529) -/
  | clockLoss (c : ClockSrc) (back : Bool)
  /-- SSC_CHANGE: An accepted spread-spectrum change takes effect at the next modulation period start. (R530) -/
  | sscChange
  /-- WARM_STORM: A fourth supervised warm reset within 600 s enters SAFE instead. (R537) -/
  | warmStorm
  /-- WATCH_ENTRY: Loam enters WATCH when every entry condition holds. (R541) -/
  | watchEntry (idle : Bool)
  /-- WAKE: A wake source brings the device from WATCH to RUN within tRUN. (R543) -/
  | wake (src : Fin 8) (us : BitVec 16) (sleptNs : Nat)
  /-- WAKE_TIMER: Every WAKE_INT the device wakes to persist and calibrate. (R543) -/
  | wakeTimer
  /-- SAFE_ENTRY: The power path is held in reset with every port and feed safe. (R544) -/
  | safeEntry (c : SafeCause)
  /-- THERMAL_WARN: Die temperature crossing TWARN writes THERMAL_WARN. (R547) -/
  | thermalWarn (tDie : BitVec 16)
  /-- THERMAL_SHUTDOWN: Three samples at or above TSD enter SAFE with cause TSD. (R547) -/
  | thermalShutdown (tDie : BitVec 16)
  /-- TWILL_HEARTBEAT_LOSS: 3 ms without a Twill heartbeat resets the core and moves its ports to its buddy. (R28) -/
  | twillHeartbeatLoss (k : Fin 8)
  /-- LOAM_HEARTBEAT_LOSS: 7.5 ms without a Loam heartbeat makes Chalk issue a warm reset. (R28) -/
  | loamHeartbeatLoss
  /-- TWILL_RESYNC: A restarted or buddy Twill resynchronises each attached port by Soft or Hard Reset. (R104) -/
  | twillResync (p : Port)
  /-- SCRUB: The scrubber reads every SRAM word per SCRUB_T, correcting single-bit errors. (R552) -/
  | scrub (corrected : Nat)
  /-- ECC_UNCORR: A double-bit error takes the action of its partition. (R553) -/
  | eccUncorr (word : BitVec 22) (block : Fin 3072) (a : EccAt)
  /-- BLOCK_REMAPPED: A hard-faulted 1 KB block is mapped onto a reserve block. (R554) -/
  | blockRemapped (block : Fin 3072)
  /-- CHALK_LOCKSTEP: A lockstep mismatch resets Chalk within 1 µs. (R555) -/
  | chalkLockstep
  /-- WATCHDOG_EXPIRY: The always-on watchdog expires, clears HB_ENABLE and VETO_ARM and starts a warm reset. (R556) -/
  | watchdogExpiry
  /-- CHALK_FORCED: Chalk forces a port to safe state for a table fault, no carrier or lost state block. (R557) -/
  | chalkForced (p : Port) (c : ForceCause) (release : Bool)
  /-- ENGINE_AUTO_RETIRED: An engine failing three times within AUTO_WIN is retired. (R562) -/
  | engineAutoRetired (e : Fin 12)
  /-- SERVICE_RAISE: Loam raises the OTP SERVICE counter for a die loss when programming conditions hold. (R563) -/
  | serviceRaise (e : OtpEnv)
  /-- TEST_DEFERRAL_EXPIRY: A port test deferred for 10 s runs its fallback or ends DEFERRED_EXPIRED. (R559) -/
  | testDeferralExpiry (p : Port) (r : CheckRead)
  /-- T_SENDER_RESPONSE_EXPIRY: The device's 27 ms wait for an answer to its own message runs out, so the swap, Get_Sink_Cap, keep-alive or Security_Request counts as unanswered. (R73) -/
  | tSenderResponseExpiry (p : Port)
  /-- T_VDM_SENDER_RESPONSE_EXPIRY: No answer to a SOP′ Discover Identity or a host VDM within tVDMSenderResponse ends the attempt unanswered or the command with TIMEOUT. (R59) -/
  | tVdmSenderResponseExpiry (p : Port)
  /-- SUPPLY_RECOVERED: VCP back in its window for 1 ms lets closures start again, and VCONN_IN back for 10 ms lets VCONN claims succeed again. (R323) -/
  | supplyRecovered (x : Supply)
  /-- BUS_OV_CLEARED: 1 ms after BUS_OV clears, the hardware releases the forced zero reverse-current limit on every port. (R322) -/
  | busOvCleared
  /-- BUS_RECOVERED: After a bus loss that did not fire, the bus within its window for 1 s ends Loam's hold of offers. (R321) -/
  | busRecovered
  /-- MIRROR_LOST: A LOOP group not arriving within 2 × MIRROR_INT clears MIRROR_OK. (R470) -/
  | mirrorLost
  /-- LOOP_DATA_STALE: A port whose mirrored LOOP data is more than 10 ms old gets its STALE bit set. (R470) -/
  | loopDataStale (p : Port)
  /-- OPEN_IDLE_MET: After OPEN_IDLE, |IBUS| below 50 mA for 200 µs opens the pass switch as a planned opening. (R264) -/
  | openIdleMet (p : Port)
  /-- VCONN_PIN_DISCHARGED: The VCONN pin falls below 0.8 V in UnattachedWait.SRC and the port may present Rp again and return to Unattached.SRC. (R58) -/
  | vconnPinDischarged (x : VconnPin)
  /-- SINK_VBUS_LOSS: VBUS falls away on an attached sink port and the sink detaches by the standard's VBUS rule. (R52) -/
  | sinkVbusLoss (p : Port)
  /-- SINK_VBUS_RETURN: After a Hard Reset VBUS returns above vSafe5V minimum on a sink and the re-attach checks run. (R134) -/
  | sinkVbusReturn (p : Port) (vbusMv : Nat)
  /-- SINK_HARD_RESET_TIMEOUT: VBUS not back within tSrcRecover + tSrcTurnOn + 100 ms after a Hard Reset makes the sink port detach. (R134) -/
  | sinkHardResetTimeout (p : Port)
  /-- NOTIFY_MIN_EXPIRY: At the end of NOTIFY_MIN a cause held back with IRQ_N still asserted is notified. (R415) -/
  | notifyMinExpiry (r : NotifyTry)
  /-- SECONDARY_CLAIM_WAIT: A secondary that has seen no OWN_IN toggle for 5 s in STANDBY becomes free to claim the ports. (R474) -/
  | secondaryClaimWait
  deriving DecidableEq, Repr

end Sys2Proof
end

