-- ==== Sys2Proof/Machine/Crypto.lean ====
section
/-! DEFINITION. The digests and signatures the spec names by standard: CRC-32, SHA-256 (FIPS 180-4), HMAC-SHA-256, and ECDSA
verification over P-256 (FIPS 186-5), with all byte strings of the standards big-endian. -/

namespace Sys2Proof.Machine

/-- Big-endian value of a byte list. -/
def beNat (l : List Byte) : Nat := l.foldl (fun a b => 256 * a + b.toNat) 0

/-- The `n` low bytes of `v`, high byte first. -/
def beBytes (n v : Nat) : List Byte := (leBytes n v).reverse

/-! ## CRC-32 (R4, R362) -/

/-- One bit of the reflected CRC-32 with polynomial 0x04C1_1DB7. -/
def crc32Bit (c : Nat) : Nat := if c % 2 = 1 then (c / 2) ^^^ 0xEDB88320 else c / 2

/-- One byte of the CRC-32. -/
def crc32Byte (c : Nat) (b : Byte) : Nat :=
  crc32Bit (crc32Bit (crc32Bit (crc32Bit (crc32Bit (crc32Bit (crc32Bit (crc32Bit (c ^^^ b.toNat))))))))

/-- CRC-32 of a byte string: initial value and final XOR all ones. (DESIGN CHOICE, assumption 15) -/
def crc32 (l : List Byte) : Nat := l.foldl crc32Byte 0xFFFFFFFF ^^^ 0xFFFFFFFF

/-! ## SHA-256 -/

/-- The largest number whose k-th power is at most `x`, its bits below `b` still open: `r` holds those above. -/
def rootFrom (k x : Nat) : Nat → Nat → Nat
  | 0, r => r
  | b + 1, r => rootFrom k x b (if (r + 2 ^ b) ^ k ≤ x then r + 2 ^ b else r)

/-- The first 32 bits of the fractional part of the k-th root of `p`, for a root below 8. -/
def rootFraction (k p : Nat) : BitVec 32 := BitVec.ofNat 32 (rootFrom k (p * 2 ^ (32 * k)) 35 0)

/-- The 64 primes below 312: the numbers from 2 that no other number from 2 to 17 divides. -/
def shaPrimes : List Nat :=
  (List.range 312).filter fun n => decide (2 ≤ n) && (List.range 18).all fun d => decide (d < 2) || d == n || n % d != 0

/-- Round constants (FIPS 180-4, 4.2.2): from the cube roots of the first 64 primes. -/
def shaK : List (BitVec 32) := shaPrimes.map (rootFraction 3)

/-- Initial hash value (FIPS 180-4, 5.3.3): from the square roots of the first eight primes. -/
def shaInit : List (BitVec 32) := (shaPrimes.take 8).map (rootFraction 2)

/-- One more word of the message schedule, newest first. -/
def shaSched (w : List (BitVec 32)) : List (BitVec 32) :=
  let a := w.getD 1 0
  let b := w.getD 14 0
  let s1 := a.rotateRight 17 ^^^ a.rotateRight 19 ^^^ (a >>> 10)
  let s0 := b.rotateRight 7 ^^^ b.rotateRight 18 ^^^ (b >>> 3)
  (s1 + w.getD 6 0 + s0 + w.getD 15 0) :: w

/-- One round on the working variables a to h. -/
def shaRound (v : List (BitVec 32)) (kw : BitVec 32) : List (BitVec 32) :=
  match v with
  | [a, b, c, d, e, f, g, h] =>
    let t1 := h + (e.rotateRight 6 ^^^ e.rotateRight 11 ^^^ e.rotateRight 25) + ((e &&& f) ^^^ (~~~e &&& g)) + kw
    let t2 := (a.rotateRight 2 ^^^ a.rotateRight 13 ^^^ a.rotateRight 22) + ((a &&& b) ^^^ (a &&& c) ^^^ (b &&& c))
    [t1 + t2, a, b, c, d + t1, e, f, g]
  | _ => v

/-- One 64-byte block. -/
def shaBlock (h : List (BitVec 32)) (blk : List Byte) : List (BitVec 32) :=
  let w0 := (List.range 16).map fun i => BitVec.ofNat 32 (beNat ((blk.drop (4 * i)).take 4))
  let w := ((List.range 48).foldl (fun w _ => shaSched w) w0.reverse).reverse
  List.zipWith (· + ·) h ((List.zipWith (· + ·) w shaK).foldl shaRound h)

/-- SHA-256 of a byte string. (DESIGN CHOICE, assumption 15) -/
def sha256 (m : List Byte) : List Byte :=
  let n := m.length
  let z := (119 - n % 64) % 64
  let pad := m ++ [0x80] ++ List.replicate z 0 ++ beBytes 8 (8 * n)
  let h := (List.range (pad.length / 64)).foldl (fun h i => shaBlock h ((pad.drop (64 * i)).take 64)) shaInit
  h.flatMap fun x => beBytes 4 x.toNat

/-- HMAC-SHA-256. -/
def hmacSha256 (key m : List Byte) : List Byte :=
  let k0 := if 64 < key.length then sha256 key else key
  let k := k0 ++ List.replicate (64 - k0.length) 0
  sha256 (k.map (· ^^^ 0x5C) ++ sha256 (k.map (· ^^^ 0x36) ++ m))

/-! ## ECDSA over P-256 -/

/-- The field prime, the group order, the constant b and the base point. -/
def p256 : Nat := 0xffffffff00000001000000000000000000000000ffffffffffffffffffffffff
def n256 : Nat := 0xffffffff00000000ffffffffffffffffbce6faada7179e84f3b9cac2fc632551
def b256 : Nat := 0x5ac635d8aa3a93e7b3ebbd55769886bc651d06b0cc53b0f63bce3c3e27d2604b
def g256 : Nat × Nat :=
  (0x6b17d1f2e12c4247f8bce6e563a440f277037d812deb33a0f4a13945d898c296,
   0x4fe342e2fe1a7f9b8ee7eb4a7c0f9e162bce33576b315ececbb6406837bf51f5)

/-- `b ^ e mod m`, over the low `n` bits of `e`. -/
def powMod (m : Nat) : Nat → Nat → Nat → Nat
  | 0, _, _ => 1
  | n + 1, b, e =>
    let r := powMod m n (b * b % m) (e / 2)
    if e % 2 = 1 then b * r % m else r

/-- The inverse modulo a prime below 2^256. -/
def invMod (m a : Nat) : Nat := powMod m 256 (a % m) (m - 2)

/-- Addition on the curve; none is the point at infinity. -/
def ecAdd (a b : Option (Nat × Nat)) : Option (Nat × Nat) :=
  match a, b with
  | none, q => q
  | q, none => q
  | some (x1, y1), some (x2, y2) =>
    if x1 = x2 ∧ (y1 + y2) % p256 = 0 then none
    else
      let l :=
        if x1 = x2 then (3 * x1 * x1 + p256 - 3) * invMod p256 (2 * y1) % p256
        else (y2 + p256 - y1) * invMod p256 (x2 + p256 - x1) % p256
      let x3 := (l * l + 2 * p256 - x1 - x2) % p256
      some (x3, (l * (x1 + p256 - x3) + p256 - y1) % p256)

/-- `k` times a point, over the low `n` bits of `k`. -/
def ecMul : Nat → Nat → Option (Nat × Nat) → Option (Nat × Nat)
  | 0, _, _ => none
  | n + 1, k, q =>
    let r := ecMul n (k / 2) (ecAdd q q)
    if k % 2 = 1 then ecAdd q r else r

/-- A signature (r, s), 64 bytes, over a message digest verifies under a public key (x, y), 64 bytes.
(DESIGN CHOICE, assumption 15) -/
def ecdsaVerify (key digest sig : List Byte) : Bool :=
  let x := beNat (key.take 32)
  let y := beNat ((key.drop 32).take 32)
  let r := beNat (sig.take 32)
  let t := beNat ((sig.drop 32).take 32)
  if key.length ≠ 64 ∨ sig.length ≠ 64 ∨ p256 ≤ x ∨ p256 ≤ y
      ∨ y * y % p256 ≠ (x * x * x + (p256 - 3) * x + b256) % p256
      ∨ r = 0 ∨ n256 ≤ r ∨ t = 0 ∨ n256 ≤ t then false
  else
    let w := invMod n256 t
    let u1 := beNat (digest.take 32) * w % n256
    let u2 := r * w % n256
    match ecAdd (ecMul 256 u1 (some g256)) (ecMul 256 u2 (some (x, y))) with
    | none => false
    | some (x1, _) => x1 % n256 == r

end Sys2Proof.Machine
end

