-- ==== Sys2Proof/Machine/Field.lean ====
section
/-! DEFINITION. What a register field is (R10, R11, R420 to R428) and the plain table of stored field values:
a list of key and value pairs, the keys rise strictly, and a field at its reset value is not listed. -/

namespace Sys2Proof.Machine

/-- *Field access types* (R10). -/
inductive Access where
  | rw | ro | wo | w1c | w1s | rwl
  deriving DecidableEq, Repr

/-- A field's value at cold reset, by instance (port number or array index). -/
inductive Rst where
  /-- every instance resets to `v` -/
  | all (v : Nat)
  /-- instance i resets to `a + b * i` -/
  | lin (a b : Nat)
  /-- instance i resets to `i / d` -/
  | div (d : Nat)
  /-- instance i resets to the i-th entry -/
  | tab (l : List Nat)
  /-- entry `i % 16` of an array inside a port page -/
  | tab16 (l : List Nat)
  deriving DecidableEq, Repr

/-- The reset value of instance `i`. -/
def Rst.at : Rst → Nat → Nat
  | .all v, _ => v
  | .lin a b, i => a + b * i
  | .div d, i => i / d
  | .tab l, i => l.getD i 0
  | .tab16 l, i => l.getD (i % 16) 0

/-- One field of the register pages: page type (R420), byte offset of (the first) register, low bit, width, byte
stride and count of a register array, reset value, access type and the range a write may carry. -/
structure Field where
  page : Nat
  off : Nat
  lo : Nat
  width : Nat
  stride : Nat
  count : Nat
  reset : Rst
  access : Access
  rmin : Nat
  rmax : Nat
  deriving DecidableEq, Repr

/-- The key of instance `i` of a field in the register table: page, offset, low bit and instance. -/
def Field.key (F : Field) (i : Nat) : Nat := ((F.page * 1024 + F.off) * 32 + F.lo) * 1024 + i % 1024

/-- Instance number of element `k` of an array inside port `n`'s page. -/
def pidx (n k : Nat) : Nat := n * 16 + k

/-- The table of stored values: rising keys. -/
abbrev RegTable := List (Nat × Nat)

/-- The value stored under `key`, `d` when none is. -/
def RegTable.get : RegTable → Nat → Nat → Nat
  | [], _, d => d
  | (k, v) :: t, key, d => if k = key then v else RegTable.get t key d

/-- Put `v` under `key`, keeping the keys in order. -/
def RegTable.insert : RegTable → Nat → Nat → RegTable
  | [], key, v => [(key, v)]
  | (k, w) :: t, key, v =>
    if key < k then (key, v) :: (k, w) :: t
    else if k = key then (key, v) :: t
    else (k, w) :: RegTable.insert t key v

/-- Remove `key`. -/
def RegTable.erase : RegTable → Nat → RegTable
  | [], _ => []
  | (k, w) :: t, key => if k = key then RegTable.erase t key else (k, w) :: RegTable.erase t key

/-- Write `v` under `key`; the reset value `d` is stored as no entry, so equal registers are equal tables. -/
def RegTable.put (l : RegTable) (key d v : Nat) : RegTable :=
  if v = d then l.erase key else l.insert key v

/-- The keys rise strictly: the one canonical form of a table. -/
def RegTable.sorted : RegTable → Bool
  | [] => true
  | [_] => true
  | (k, _) :: (k', w) :: t => decide (k < k') && RegTable.sorted ((k', w) :: t)

/-- The event ring a producer writes (R355): the port's own, ring 5 (system) or ring 6 (ledger). -/
inductive RingSel where
  | port | sys | led
  deriving DecidableEq, Repr

/-- One line of an event table: source byte (R360), code, severity, ring, and whether repeats coalesce (R361). -/
structure EvKind where
  src : Nat
  code : Nat
  sev : Nat
  ring : RingSel
  coal : Bool
  deriving DecidableEq, Repr

end Sys2Proof.Machine
end

