-- ==== Sys2Proof/Machine/Events.lean ====
section
/-! DEFINITION. The event codes of the event tables of spec/ (R140, R187, R213, R243, R259, R289, R308, R328,
R346, R458, R485, R508, R525, R550, R566): source page byte (R360), code, severity, ring, and whether repeats
coalesce (R361: word 7 shown as 0). -/

namespace Sys2Proof.Machine
namespace EV

def CONTRACT_MADE : EvKind := ⟨0x41, 0x20, 0, .port, false⟩
def REQUEST_REJECTED : EvKind := ⟨0x41, 0x21, 0, .port, false⟩
def CAP_MISMATCH : EvKind := ⟨0x41, 0x22, 0, .port, true⟩
def EPR_ENTERED : EvKind := ⟨0x41, 0x23, 0, .port, true⟩
def EPR_EXITED : EvKind := ⟨0x41, 0x24, 0, .port, true⟩
def EPR_ENTRY_FAILED : EvKind := ⟨0x41, 0x25, 1, .port, true⟩
def PPS_TIMEOUT : EvKind := ⟨0x41, 0x26, 1, .port, true⟩
def EPR_KEEPALIVE_TIMEOUT : EvKind := ⟨0x41, 0x27, 1, .port, true⟩
def TRANSITION_FAIL : EvKind := ⟨0x41, 0x28, 2, .port, false⟩
def DETACH_IN_TRANSITION : EvKind := ⟨0x41, 0x29, 1, .port, false⟩
def HARD_RESET_POWER : EvKind := ⟨0x41, 0x2A, 1, .port, true⟩
def PR_SWAP_DONE : EvKind := ⟨0x41, 0x30, 0, .port, true⟩
def PR_SWAP_FAILED : EvKind := ⟨0x41, 0x31, 2, .port, true⟩
def DR_SWAP_DONE : EvKind := ⟨0x41, 0x32, 0, .port, true⟩
def VCONN_SWAP_DONE : EvKind := ⟨0x41, 0x33, 0, .port, true⟩
def SWAP_FAILED : EvKind := ⟨0x41, 0x34, 1, .port, true⟩
def FRS_SENT : EvKind := ⟨0x41, 0x35, 1, .port, true⟩
def FRS_RECEIVED : EvKind := ⟨0x41, 0x36, 1, .port, true⟩
def FRS_FAILED : EvKind := ⟨0x41, 0x37, 2, .port, true⟩
def ISLAND_START : EvKind := ⟨0x0F, 0x38, 2, .sys, true⟩
def ISLAND_END : EvKind := ⟨0x0F, 0x39, 0, .sys, true⟩
def LOOP_SATURATED : EvKind := ⟨0x42, 0x40, 1, .port, true⟩
def LOOP_HALTED : EvKind := ⟨0x42, 0x41, 1, .port, true⟩
def TABLE_SWAPPED : EvKind := ⟨0x42, 0x42, 0, .port, true⟩
def TABLE_REJECTED : EvKind := ⟨0x42, 0x43, 1, .port, true⟩
def TABLE_REPAIRED : EvKind := ⟨0x14, 0x44, 1, .port, true⟩
def TABLE_FAULT : EvKind := ⟨0x14, 0x45, 3, .port, true⟩
def ENGINE_FALLBACK : EvKind := ⟨0x14, 0x48, 2, .sys, true⟩
def ENGINE_RESTORED : EvKind := ⟨0x14, 0x49, 0, .sys, true⟩
def SENSE_STALE : EvKind := ⟨0x0E, 0x50, 1, .port, true⟩
def ADC_MISMATCH : EvKind := ⟨0x0E, 0x51, 1, .sys, true⟩
def ADC_FAILED : EvKind := ⟨0x0E, 0x52, 2, .sys, true⟩
def PLAUS_ALARM : EvKind := ⟨0x42, 0x58, 1, .port, true⟩
def PLAUS_ACTION : EvKind := ⟨0x42, 0x59, 2, .port, true⟩
def SENSE_IMPLAUS : EvKind := ⟨0x42, 0x5A, 2, .port, true⟩
def PATH_RES_HIGH : EvKind := ⟨0x42, 0x5B, 1, .port, true⟩
def CABLE_WORN : EvKind := ⟨0x42, 0x5C, 1, .port, true⟩
def CABLE_LEARNED : EvKind := ⟨0x42, 0x5D, 0, .port, true⟩
def GUARD_TRIP : EvKind := ⟨0x43, 0x60, 2, .port, false⟩
def GUARD_RETRY : EvKind := ⟨0x43, 0x61, 0, .port, true⟩
def GUARD_LATCHED : EvKind := ⟨0x43, 0x62, 2, .port, true⟩
def PORT_RETIRED : EvKind := ⟨0x43, 0x63, 3, .port, true⟩
def GUARD_CLEARED : EvKind := ⟨0x43, 0x64, 0, .port, true⟩
def DISCHARGE_FAIL : EvKind := ⟨0x43, 0x65, 1, .port, true⟩
def CMD_REFUSED : EvKind := ⟨0x43, 0x66, 1, .port, true⟩
def MON_CHECK_FAIL : EvKind := ⟨0x43, 0x68, 1, .port, true⟩
def MON_FAILED : EvKind := ⟨0x43, 0x69, 2, .port, true⟩
def MON_DISAGREE : EvKind := ⟨0x43, 0x6A, 1, .port, true⟩
def MON_CHECK_DUE : EvKind := ⟨0x43, 0x6B, 0, .port, true⟩
def FEED_SWITCH : EvKind := ⟨0x0D, 0x70, 0, .sys, true⟩
def FEED_TRIP : EvKind := ⟨0x0D, 0x71, 2, .sys, true⟩
def FEED_REVERSE : EvKind := ⟨0x0D, 0x72, 1, .sys, true⟩
def BUS_LOSS : EvKind := ⟨0x0D, 0x73, 3, .sys, true⟩
def BUS_OV : EvKind := ⟨0x0D, 0x74, 2, .sys, true⟩
def SUPPLY_FAULT : EvKind := ⟨0x0D, 0x75, 2, .sys, true⟩
def PARTNER_NEW : EvKind := ⟨0x0C, 0x80, 0, .led, true⟩
def AUTH_RESULT : EvKind := ⟨0x0C, 0x81, 0, .led, true⟩
def SESSION_CLOSED : EvKind := ⟨0x0C, 0x82, 0, .led, true⟩
def PACK_EOL : EvKind := ⟨0x0C, 0x83, 1, .led, true⟩
def LEDGER_EVICT : EvKind := ⟨0x0C, 0x84, 0, .led, true⟩
def LEDGER_FULL : EvKind := ⟨0x0C, 0x85, 1, .led, true⟩
def DUP_KEY_SEEN : EvKind := ⟨0x0C, 0x86, 1, .led, true⟩
def LEDGER_FLASH : EvKind := ⟨0x0C, 0x87, 2, .led, true⟩
def SNAP_TAKEN : EvKind := ⟨0x0A, 0x90, 0, .sys, false⟩
def SNAP_REFUSED : EvKind := ⟨0x0A, 0x91, 1, .sys, true⟩
def TIME_STATE : EvKind := ⟨0x0A, 0x92, 0, .sys, true⟩
def TIME_STEP : EvKind := ⟨0x0A, 0x93, 1, .sys, true⟩
def WEFT_LINK : EvKind := ⟨0x09, 0x94, 1, .sys, true⟩
def WEFT_ID_CONFLICT : EvKind := ⟨0x09, 0x95, 2, .sys, true⟩
def PAIR_TAKEOVER : EvKind := ⟨0x0B, 0xA0, 2, .sys, true⟩
def PAIR_YIELDED : EvKind := ⟨0x0B, 0xA1, 2, .sys, true⟩
def PAIR_VETO : EvKind := ⟨0x0B, 0xA2, 2, .sys, true⟩
def PAIR_HANDOVER_DONE : EvKind := ⟨0x0B, 0xA3, 0, .sys, true⟩
def PAIR_LINK : EvKind := ⟨0x0B, 0xA4, 1, .sys, true⟩
def PAIR_AUTH_FAIL : EvKind := ⟨0x0B, 0xA5, 2, .sys, true⟩
def BOOTED : EvKind := ⟨0x04, 0xB0, 0, .sys, true⟩
def UPD_STATE : EvKind := ⟨0x04, 0xB1, 0, .sys, true⟩
def UPD_FALLBACK : EvKind := ⟨0x04, 0xB2, 2, .sys, true⟩
def UPD_RESUMED : EvKind := ⟨0x04, 0xB3, 1, .sys, true⟩
def CORE_RELOADED : EvKind := ⟨0x04, 0xB4, 0, .sys, true⟩
def CORE_LOAD_FAIL : EvKind := ⟨0x04, 0xB5, 2, .sys, true⟩
def ARB_RAISED : EvKind := ⟨0x04, 0xB6, 1, .sys, true⟩
def OTP_WEAK_FOUND : EvKind := ⟨0x03, 0xC0, 1, .sys, true⟩
def OTP_INTEGRITY : EvKind := ⟨0x03, 0xC1, 3, .sys, true⟩
def OTP_PROGRAMMED : EvKind := ⟨0x03, 0xC2, 0, .sys, true⟩
def OTP_LOCKED : EvKind := ⟨0x03, 0xC3, 0, .sys, true⟩
def RESET_CAUSE : EvKind := ⟨0x02, 0xD0, 0, .sys, true⟩
def CLOCK_LOSS : EvKind := ⟨0x01, 0xD1, 3, .sys, true⟩
def SAFE_ENTERED : EvKind := ⟨0x02, 0xD2, 3, .sys, true⟩
def SAFE_EXITED : EvKind := ⟨0x02, 0xD3, 0, .sys, true⟩
def THERMAL_WARN : EvKind := ⟨0x02, 0xD4, 1, .sys, true⟩
def WATCH_ENTRY : EvKind := ⟨0x02, 0xD5, 0, .sys, true⟩
def TEST_DONE : EvKind := ⟨0x10, 0xE0, 0, .sys, true⟩
def ECC_UNCORR : EvKind := ⟨0x10, 0xE1, 2, .sys, true⟩
def BLOCK_REMAPPED : EvKind := ⟨0x10, 0xE2, 1, .sys, true⟩
def CHALK_FORCED : EvKind := ⟨0x11, 0xE3, 2, .port, true⟩
def CHALK_LOCKSTEP : EvKind := ⟨0x11, 0xE4, 2, .sys, true⟩
def ENGINE_AUTO_RETIRED : EvKind := ⟨0x11, 0xE5, 2, .sys, true⟩
def SERVICE_FULL : EvKind := ⟨0x10, 0xE6, 1, .sys, true⟩

end EV
end Sys2Proof.Machine
end

