-- ==== Sys2Proof/Config.lean ====
section
/-! DEFINITION. What an implementation fixes and the spec leaves open, and the FREE VALUES: constants without a
body, so that nothing can be proved of what they are.  Each has its entry in notes/assumptions/. -/

namespace Sys2Proof.Config

/-- FREE VALUE. The n-th value the spec leaves open in a step (assumption 3). -/
opaque freeValue : Nat → BitVec 64

/-- FREE VALUE. The coefficient table that the firmware image gives a port (R212): 256 bytes the spec does not list
(assumption 4). -/
opaque imageTable : Nat → List Byte

/-- FREE VALUE. The certificates of a USB Type-C Authentication chain, root first: signed part, signature and public
key of each (assumption 5). -/
opaque chainCerts : List Byte → List (List Byte × List Byte × List Byte)

/-- FREE VALUE. 32 bytes of the random generator, by count: an authentication nonce, and the first 16 a member's hello nonce
(assumption 5). -/
opaque nonce : Nat → Vector Byte 32

/-- FREE VALUE. The bytes over two nonces, the prover's own and the other member's, that a HELLO's proof authenticates: the
spec gives no order (assumption 5). -/
opaque proofBytes : List Byte → List Byte → List Byte

/-- FREE VALUE. The root certificate inside a chain (assumption 5). -/
opaque rootCert : List Byte → List Byte

/-- FREE VALUE. The leaf key of the chain whose SHA-256 is the given digest, for a chain that is not read (assumption 5). -/
opaque leafKey : List Byte → List Byte

/-- FREE VALUE. The bytes that a challenge with the given nonce has signed (assumption 5). -/
opaque challengeBytes : List Byte → List Byte

/-- FREE VALUE. The public key that a hash in the OTP stands for: the spec puts no key into an image or package header, only
its hash into KEYS (assumption 9). -/
opaque keyWithHash : List Byte → List Byte

end Sys2Proof.Config
end

