-- ==== Sys2Proof/Machine/RegMapA.lean ====
section
/-! DEFINITION. The register fields of the system (first part) pages, as the field tables of spec/ give them: page
type, byte offset, low bit, width, stride and count of an array, reset value, access and legal range (R420 to
R428 and each page's own rule).  A field whose value the spec derives from other state (an interrupt summary, a
ring's occupancy) is no stored field: Machine/Words.lean computes it when it is read. -/

namespace Sys2Proof.Machine

namespace SYS
/-- Page type of the SYS page (R420). -/
abbrev page : Nat := 0x0
def ID_VALID : Field := ⟨0x0, 0x40, 0, 1, 0, 1, .all 0, .ro, 0, 1⟩
def REV : Field := ⟨0x0, 0x40, 8, 8, 0, 1, .all 176, .ro, 0, 255⟩
def PART : Field := ⟨0x0, 0x40, 16, 16, 0, 1, .all 12872, .ro, 0, 65535⟩
def SERIAL_LO : Field := ⟨0x0, 0x44, 0, 32, 0, 1, .all 0, .ro, 0, 4294967295⟩
def SERIAL_HI : Field := ⟨0x0, 0x48, 0, 32, 0, 1, .all 0, .ro, 0, 4294967295⟩
def FW_VER_LO : Field := ⟨0x0, 0x4C, 0, 32, 0, 1, .all 0, .ro, 0, 4294967295⟩
def FW_VER_HI : Field := ⟨0x0, 0x50, 0, 32, 0, 1, .all 0, .ro, 0, 4294967295⟩
def IFACE : Field := ⟨0x0, 0x54, 0, 32, 0, 1, .all 0, .ro, 0, 4294967295⟩
def PAIR_MODE : Field := ⟨0x0, 0x58, 24, 1, 0, 1, .all 0, .ro, 0, 1⟩
def TRIM_FAIL : Field := ⟨0x0, 0x58, 25, 1, 0, 1, .all 0, .ro, 0, 1⟩
def RESTRICTED : Field := ⟨0x0, 0x58, 26, 1, 0, 1, .all 0, .ro, 0, 1⟩
def READY : Field := ⟨0x0, 0x58, 27, 1, 0, 1, .all 0, .ro, 0, 1⟩
def EN : Field := ⟨0x0, 0x5C, 0, 32, 0, 1, .all 0, .ro, 0, 4294967295⟩
def SIZE : Field := ⟨0x0, 0x60, 0, 16, 4, 8, .tab [512, 768, 64, 64, 1024, 384, 128, 128], .ro, 0, 65535⟩
def BASE : Field := ⟨0x0, 0x60, 16, 16, 4, 8, .tab [0, 512, 1280, 1344, 1408, 2432, 2816, 2944], .ro, 0, 65535⟩
/-- Every stored block field and live counter of the page. -/
def fields : List Field :=
  [ ID_VALID, REV, PART, SERIAL_LO, SERIAL_HI, FW_VER_LO, FW_VER_HI, IFACE, PAIR_MODE, TRIM_FAIL, RESTRICTED, READY, EN, SIZE, BASE]
/-- The defined interrupt bits of the page (R422). -/
abbrev irqBits : Nat := 0x0
end SYS

namespace CLK
/-- Page type of the CLK page (R420). -/
abbrev page : Nat := 0x1
def SSC_EN : Field := ⟨0x1, 0x40, 0, 1, 0, 1, .all 0, .rw, 0, 1⟩
def SSC_DEPTH : Field := ⟨0x1, 0x40, 4, 4, 0, 1, .all 4, .rw, 1, 8⟩
def SSC_FREQ : Field := ⟨0x1, 0x40, 8, 8, 0, 1, .all 32, .rw, 30, 60⟩
def XIN_MODE : Field := ⟨0x1, 0x40, 16, 1, 0, 1, .all 0, .rw, 0, 1⟩
def CORE_LOCK : Field := ⟨0x1, 0x44, 0, 1, 0, 1, .all 0, .ro, 0, 1⟩
def PWM_LOCK : Field := ⟨0x1, 0x44, 1, 1, 0, 1, .all 0, .ro, 0, 1⟩
def XIN_OK : Field := ⟨0x1, 0x44, 2, 1, 0, 1, .all 0, .ro, 0, 1⟩
def SSC_ACTIVE : Field := ⟨0x1, 0x44, 3, 1, 0, 1, .all 0, .ro, 0, 1⟩
def GUARD_RC : Field := ⟨0x1, 0x44, 4, 1, 0, 1, .all 0, .ro, 0, 1⟩
def RC_KHZ : Field := ⟨0x1, 0x48, 0, 16, 0, 1, .all 0, .ro, 0, 65535⟩
def CORE_UNLOCK_CNT : Field := ⟨0x1, 0x200, 0, 32, 0, 1, .all 0, .ro, 0, 0xFFFFFFFF⟩
def PWM_UNLOCK_CNT : Field := ⟨0x1, 0x204, 0, 32, 0, 1, .all 0, .ro, 0, 0xFFFFFFFF⟩
def XIN_LOSS_CNT : Field := ⟨0x1, 0x208, 0, 32, 0, 1, .all 0, .ro, 0, 0xFFFFFFFF⟩
/-- Every stored block field and live counter of the page. -/
def fields : List Field :=
  [ SSC_EN, SSC_DEPTH, SSC_FREQ, XIN_MODE, CORE_LOCK, PWM_LOCK, XIN_OK, SSC_ACTIVE, GUARD_RC, RC_KHZ, CORE_UNLOCK_CNT, PWM_UNLOCK_CNT, XIN_LOSS_CNT]
/-- Interrupt bit of the page. -/ abbrev IRQ_CORE_UNLOCK : Nat := 0
/-- Interrupt bit of the page. -/ abbrev IRQ_PWM_UNLOCK : Nat := 1
/-- Interrupt bit of the page. -/ abbrev IRQ_XIN_LOSS : Nat := 2
/-- Interrupt bit of the page. -/ abbrev IRQ_SSC_CHANGE : Nat := 3
/-- The defined interrupt bits of the page (R422). -/
abbrev irqBits : Nat := 0xF
end CLK

namespace RST
/-- Page type of the RST page (R420). -/
abbrev page : Nat := 0x2
def WARM : Field := ⟨0x2, 0x40, 0, 1, 0, 1, .all 0, .wo, 0, 1⟩
def SAFE_ENTER : Field := ⟨0x2, 0x40, 1, 1, 0, 1, .all 0, .wo, 0, 1⟩
def SAFE_EXIT : Field := ⟨0x2, 0x40, 2, 1, 0, 1, .all 0, .wo, 0, 1⟩
def KEY : Field := ⟨0x2, 0x40, 24, 8, 0, 1, .all 0, .wo, 0, 255⟩
def CAUSE : Field := ⟨0x2, 0x44, 0, 11, 0, 1, .all 1, .w1c, 0, 2047⟩
def WATCH_EN : Field := ⟨0x2, 0x48, 0, 1, 0, 1, .all 0, .rw, 0, 1⟩
def WATCH_IDLE : Field := ⟨0x2, 0x48, 8, 8, 0, 1, .all 60, .rw, 1, 255⟩
def WATCH_TICK : Field := ⟨0x2, 0x48, 16, 10, 0, 1, .all 100, .rw, 1, 1000⟩
def WAKE_INT : Field := ⟨0x2, 0x4C, 0, 16, 0, 1, .all 600, .rw, 0, 3600⟩
def TSD : Field := ⟨0x2, 0x4C, 16, 8, 0, 1, .all 135, .rw, 120, 150⟩
def TWARN : Field := ⟨0x2, 0x4C, 24, 8, 0, 1, .all 115, .rw, 90, 145⟩
def WATCH_BLOCK : Field := ⟨0x2, 0x50, 0, 6, 0, 1, .all 0, .ro, 0, 63⟩
def SAFE_CAUSE : Field := ⟨0x2, 0x50, 24, 4, 0, 1, .all 0, .ro, 0, 15⟩
def SRC : Field := ⟨0x2, 0x54, 0, 8, 0, 1, .all 0, .ro, 0, 255⟩
def US : Field := ⟨0x2, 0x58, 0, 16, 0, 1, .all 0, .ro, 0, 65535⟩
def WARM_CNT : Field := ⟨0x2, 0x200, 0, 32, 0, 1, .all 0, .ro, 0, 0xFFFFFFFF⟩
def WDOG_CNT : Field := ⟨0x2, 0x204, 0, 32, 0, 1, .all 0, .ro, 0, 0xFFFFFFFF⟩
def WATCH_ENTRY_CNT : Field := ⟨0x2, 0x208, 0, 32, 0, 1, .all 0, .ro, 0, 0xFFFFFFFF⟩
def WATCH_WAKE_CNT : Field := ⟨0x2, 0x20C, 0, 32, 0, 1, .all 0, .ro, 0, 0xFFFFFFFF⟩
def SAFE_CNT : Field := ⟨0x2, 0x210, 0, 32, 0, 1, .all 0, .ro, 0, 0xFFFFFFFF⟩
def THERMAL_WARN_CNT : Field := ⟨0x2, 0x214, 0, 32, 0, 1, .all 0, .ro, 0, 0xFFFFFFFF⟩
/-- Every stored block field and live counter of the page. -/
def fields : List Field :=
  [ WARM, SAFE_ENTER, SAFE_EXIT, KEY, CAUSE, WATCH_EN, WATCH_IDLE, WATCH_TICK, WAKE_INT, TSD, TWARN, WATCH_BLOCK, SAFE_CAUSE, SRC, US, WARM_CNT, WDOG_CNT, WATCH_ENTRY_CNT, WATCH_WAKE_CNT, SAFE_CNT, THERMAL_WARN_CNT]
/-- Interrupt bit of the page. -/ abbrev IRQ_SAFE : Nat := 0
/-- Interrupt bit of the page. -/ abbrev IRQ_SAFE_EXIT : Nat := 1
/-- Interrupt bit of the page. -/ abbrev IRQ_THERMAL_WARN : Nat := 2
/-- Interrupt bit of the page. -/ abbrev IRQ_WAKE : Nat := 3
/-- The defined interrupt bits of the page (R422). -/
abbrev irqBits : Nat := 0xF
end RST

namespace OTP
/-- Page type of the OTP page (R420). -/
abbrev page : Nat := 0x3
def REG_FACTORY_ID : Field := ⟨0x3, 0x40, 0, 4, 0, 1, .all 0, .ro, 0, 15⟩
def REG_TRIM : Field := ⟨0x3, 0x40, 4, 4, 0, 1, .all 0, .ro, 0, 15⟩
def REG_KEYS : Field := ⟨0x3, 0x40, 8, 4, 0, 1, .all 0, .ro, 0, 15⟩
def REG_CONFIG : Field := ⟨0x3, 0x40, 12, 4, 0, 1, .all 0, .ro, 0, 15⟩
def REG_CUSTOMER : Field := ⟨0x3, 0x40, 16, 4, 0, 1, .all 0, .ro, 0, 15⟩
def COUNTERS_FAIL : Field := ⟨0x3, 0x40, 20, 1, 0, 1, .all 0, .ro, 0, 1⟩
def DEBUG_LOCK : Field := ⟨0x3, 0x40, 21, 1, 0, 1, .all 0, .ro, 0, 1⟩
def TEST_LOCK : Field := ⟨0x3, 0x40, 22, 1, 0, 1, .all 0, .ro, 0, 1⟩
def RESTRICTED : Field := ⟨0x3, 0x40, 23, 1, 0, 1, .all 0, .ro, 0, 1⟩
def LOAM_ARB : Field := ⟨0x3, 0x44, 0, 9, 0, 1, .all 0, .ro, 0, 511⟩
def BUNDLE_ARB : Field := ⟨0x3, 0x44, 9, 9, 0, 1, .all 0, .ro, 0, 511⟩
def SERVICE : Field := ⟨0x3, 0x44, 18, 9, 0, 1, .all 0, .ro, 0, 511⟩
def WEAK_WORDS : Field := ⟨0x3, 0x48, 0, 10, 0, 1, .all 0, .ro, 0, 1023⟩
def SCANNING : Field := ⟨0x3, 0x48, 16, 1, 0, 1, .all 0, .ro, 0, 1⟩
def LAST_WORD : Field := ⟨0x3, 0x4C, 0, 9, 0, 1, .all 0, .ro, 0, 511⟩
def LAST_STATUS : Field := ⟨0x3, 0x4C, 16, 8, 0, 1, .all 0, .ro, 0, 255⟩
def BUSY : Field := ⟨0x3, 0x4C, 24, 1, 0, 1, .all 0, .ro, 0, 1⟩
def LAST_CORR : Field := ⟨0x3, 0x50, 0, 9, 0, 1, .all 0, .ro, 0, 511⟩
def LAST_UNCORR : Field := ⟨0x3, 0x50, 16, 9, 0, 1, .all 0, .ro, 0, 511⟩
def WEAK : Field := ⟨0x3, 0x80, 0, 32, 4, 16, .all 0, .ro, 0, 4294967295⟩
def PROG_CNT : Field := ⟨0x3, 0x200, 0, 32, 0, 1, .all 0, .ro, 0, 0xFFFFFFFF⟩
def PROG_FAIL_CNT : Field := ⟨0x3, 0x204, 0, 32, 0, 1, .all 0, .ro, 0, 0xFFFFFFFF⟩
def REFUSED_CNT : Field := ⟨0x3, 0x208, 0, 32, 0, 1, .all 0, .ro, 0, 0xFFFFFFFF⟩
def ECC_CORR_CNT : Field := ⟨0x3, 0x20C, 0, 32, 0, 1, .all 0, .ro, 0, 0xFFFFFFFF⟩
def ECC_UNCORR_CNT : Field := ⟨0x3, 0x210, 0, 32, 0, 1, .all 0, .ro, 0, 0xFFFFFFFF⟩
def MAJ_FIX_CNT : Field := ⟨0x3, 0x214, 0, 32, 0, 1, .all 0, .ro, 0, 0xFFFFFFFF⟩
def SCAN_CNT : Field := ⟨0x3, 0x218, 0, 32, 0, 1, .all 0, .ro, 0, 0xFFFFFFFF⟩
def LOCK_CNT : Field := ⟨0x3, 0x21C, 0, 32, 0, 1, .all 0, .ro, 0, 0xFFFFFFFF⟩
/-- Every stored block field and live counter of the page. -/
def fields : List Field :=
  [ REG_FACTORY_ID, REG_TRIM, REG_KEYS, REG_CONFIG, REG_CUSTOMER, COUNTERS_FAIL, DEBUG_LOCK, TEST_LOCK, RESTRICTED, LOAM_ARB, BUNDLE_ARB, SERVICE, WEAK_WORDS, SCANNING, LAST_WORD, LAST_STATUS, BUSY, LAST_CORR, LAST_UNCORR, WEAK, PROG_CNT, PROG_FAIL_CNT, REFUSED_CNT, ECC_CORR_CNT] ++
  [ ECC_UNCORR_CNT, MAJ_FIX_CNT, SCAN_CNT, LOCK_CNT]
/-- Interrupt bit of the page. -/ abbrev IRQ_WEAK : Nat := 0
/-- Interrupt bit of the page. -/ abbrev IRQ_INTEGRITY : Nat := 1
/-- Interrupt bit of the page. -/ abbrev IRQ_PROG_DONE : Nat := 2
/-- Interrupt bit of the page. -/ abbrev IRQ_REFUSED : Nat := 3
/-- The defined interrupt bits of the page (R422). -/
abbrev irqBits : Nat := 0xF
end OTP

namespace BOOT
/-- Page type of the BOOT page (R420). -/
abbrev page : Nat := 0x4
def BOOT_ERR : Field := ⟨0x4, 0x40, 0, 8, 0, 1, .all 0, .ro, 0, 255⟩
def START : Field := ⟨0x4, 0x40, 8, 2, 0, 1, .all 1, .ro, 0, 3⟩
def UPD_CHECK : Field := ⟨0x4, 0x40, 23, 1, 0, 1, .all 1, .ro, 0, 1⟩
def CUST_SIG_REQ : Field := ⟨0x4, 0x40, 24, 1, 0, 1, .all 0, .ro, 0, 1⟩
def FALLBACK : Field := ⟨0x4, 0x40, 25, 1, 0, 1, .all 0, .ro, 0, 1⟩
def TRIAL : Field := ⟨0x4, 0x40, 26, 1, 0, 1, .all 0, .ro, 0, 1⟩
def ACTIVE_SLOT : Field := ⟨0x4, 0x40, 27, 1, 0, 1, .all 0, .ro, 0, 1⟩
def SOURCE : Field := ⟨0x4, 0x40, 28, 2, 0, 1, .all 0, .ro, 0, 3⟩
def BOOT_PINS : Field := ⟨0x4, 0x40, 30, 2, 0, 1, .all 0, .ro, 0, 3⟩
def SLOT_BUNDLE_ARB : Field := ⟨0x4, 0x44, 0, 9, 4, 2, .all 0, .ro, 0, 511⟩
def SLOT_LOAM_ARB : Field := ⟨0x4, 0x44, 16, 9, 4, 2, .all 0, .ro, 0, 511⟩
def SLOT_STATE : Field := ⟨0x4, 0x44, 28, 4, 4, 2, .all 0, .ro, 0, 15⟩
def VER_LO : Field := ⟨0x4, 0x4C, 0, 32, 8, 2, .all 0, .ro, 0, 4294967295⟩
def VER_HI : Field := ⟨0x4, 0x50, 0, 32, 8, 2, .all 0, .ro, 0, 4294967295⟩
def BUNDLE_ARB : Field := ⟨0x4, 0x5C, 0, 9, 0, 1, .all 0, .ro, 0, 511⟩
def LOAM_ARB : Field := ⟨0x4, 0x5C, 16, 9, 0, 1, .all 0, .ro, 0, 511⟩
def ARB_FAIL : Field := ⟨0x4, 0x5C, 31, 1, 0, 1, .all 0, .ro, 0, 1⟩
def LAST_STATUS : Field := ⟨0x4, 0x60, 16, 8, 0, 1, .all 0, .ro, 0, 255⟩
def MODE : Field := ⟨0x4, 0x60, 27, 1, 0, 1, .all 0, .ro, 0, 1⟩
def STATE : Field := ⟨0x4, 0x60, 28, 4, 0, 1, .all 0, .ro, 0, 15⟩
def BYTES : Field := ⟨0x4, 0x64, 0, 32, 0, 1, .all 0, .ro, 0, 4294967295⟩
def DONE : Field := ⟨0x4, 0x68, 0, 16, 0, 1, .all 0, .ro, 0, 65535⟩
def TOTAL : Field := ⟨0x4, 0x68, 16, 16, 0, 1, .all 0, .ro, 0, 65535⟩
def CONFIRM_T : Field := ⟨0x4, 0x6C, 0, 16, 0, 1, .all 60, .rw, 10, 3600⟩
def AUTO_CONFIRM : Field := ⟨0x4, 0x6C, 16, 1, 0, 1, .all 1, .rw, 0, 1⟩
def MS : Field := ⟨0x4, 0x70, 0, 16, 0, 1, .all 0, .ro, 0, 65535⟩
def BOOT_CNT : Field := ⟨0x4, 0x200, 0, 32, 0, 1, .all 0, .ro, 0, 0xFFFFFFFF⟩
def WARM_BOOT_CNT : Field := ⟨0x4, 0x204, 0, 32, 0, 1, .all 0, .ro, 0, 0xFFFFFFFF⟩
def FALLBACK_CNT : Field := ⟨0x4, 0x208, 0, 32, 0, 1, .all 0, .ro, 0, 0xFFFFFFFF⟩
def UPD_DONE_CNT : Field := ⟨0x4, 0x20C, 0, 32, 0, 1, .all 0, .ro, 0, 0xFFFFFFFF⟩
def UPD_FAIL_CNT : Field := ⟨0x4, 0x210, 0, 32, 0, 1, .all 0, .ro, 0, 0xFFFFFFFF⟩
def RESUME_CNT : Field := ⟨0x4, 0x214, 0, 32, 0, 1, .all 0, .ro, 0, 0xFFFFFFFF⟩
def RELOAD_CNT : Field := ⟨0x4, 0x218, 0, 32, 0, 1, .all 0, .ro, 0, 0xFFFFFFFF⟩
def LOAD_FAIL_CNT : Field := ⟨0x4, 0x21C, 0, 32, 0, 1, .all 0, .ro, 0, 0xFFFFFFFF⟩
/-- Every stored block field and live counter of the page. -/
def fields : List Field :=
  [ BOOT_ERR, START, UPD_CHECK, CUST_SIG_REQ, FALLBACK, TRIAL, ACTIVE_SLOT, SOURCE, BOOT_PINS, SLOT_BUNDLE_ARB, SLOT_LOAM_ARB, SLOT_STATE, VER_LO, VER_HI, BUNDLE_ARB, LOAM_ARB, ARB_FAIL, LAST_STATUS, MODE, STATE, BYTES, DONE, TOTAL, CONFIRM_T] ++
  [ AUTO_CONFIRM, MS, BOOT_CNT, WARM_BOOT_CNT, FALLBACK_CNT, UPD_DONE_CNT, UPD_FAIL_CNT, RESUME_CNT, RELOAD_CNT, LOAD_FAIL_CNT]
/-- Interrupt bit of the page. -/ abbrev IRQ_UPD_STATE : Nat := 0
/-- Interrupt bit of the page. -/ abbrev IRQ_FALLBACK : Nat := 1
/-- Interrupt bit of the page. -/ abbrev IRQ_LOAD_FAIL : Nat := 2
/-- Interrupt bit of the page. -/ abbrev IRQ_ARB : Nat := 3
/-- The defined interrupt bits of the page (R422). -/
abbrev irqBits : Nat := 0xF
end BOOT

namespace MBX
/-- Page type of the MBX page (R420). -/
abbrev page : Nat := 0x5
def MSG_CNT : Field := ⟨0x5, 0x200, 0, 32, 0, 1, .all 0, .ro, 0, 0xFFFFFFFF⟩
def COLLIDE_CNT : Field := ⟨0x5, 0x204, 0, 32, 0, 1, .all 0, .ro, 0, 0xFFFFFFFF⟩
def ABORT_CNT : Field := ⟨0x5, 0x208, 0, 32, 0, 1, .all 0, .ro, 0, 0xFFFFFFFF⟩
def WAKE_CNT : Field := ⟨0x5, 0x20C, 0, 32, 0, 1, .all 0, .ro, 0, 0xFFFFFFFF⟩
/-- Every stored block field and live counter of the page. -/
def fields : List Field :=
  [ MSG_CNT, COLLIDE_CNT, ABORT_CNT, WAKE_CNT]
/-- Interrupt bit of the page. -/ abbrev IRQ_HOST_MSG : Nat := 0
/-- Interrupt bit of the page. -/ abbrev IRQ_COLLIDE : Nat := 1
/-- Interrupt bit of the page. -/ abbrev IRQ_ABORTED : Nat := 2
/-- The defined interrupt bits of the page (R422). -/
abbrev irqBits : Nat := 0x7
end MBX

namespace RING
/-- Page type of the RING page (R420). -/
abbrev page : Nat := 0x6
def EPOCH : Field := ⟨0x6, 0x40, 0, 32, 0, 1, .all 0, .ro, 0, 4294967295⟩
def SOURCE : Field := ⟨0x6, 0x44, 0, 4, 0, 1, .all 0, .ro, 0, 15⟩
def STATUS : Field := ⟨0x6, 0x44, 4, 4, 0, 1, .all 0, .ro, 0, 15⟩
def OPCODE : Field := ⟨0x6, 0x44, 8, 8, 0, 1, .all 0, .ro, 0, 255⟩
def TAG : Field := ⟨0x6, 0x44, 16, 16, 0, 1, .all 0, .ro, 0, 65535⟩
def COAL_CAP : Field := ⟨0x6, 0x120, 0, 4, 4, 40, .all 8, .rw, 0, 8⟩
def COAL_BASE : Field := ⟨0x6, 0x120, 4, 4, 4, 40, .all 1, .rw, 0, 15⟩
def LWM : Field := ⟨0x6, 0x120, 8, 12, 4, 40, .tab [0, 128, 384, 512, 512, 64, 64, 256, 32, 32, 32, 32, 32, 32, 32, 32, 32, 32, 32, 32, 32, 32, 32, 32, 32, 32, 32, 32, 32, 32, 32, 32, 32, 32, 32, 32, 32, 32, 32, 32], .rw, 0, 4095⟩
def HWM : Field := ⟨0x6, 0x120, 20, 12, 4, 40, .tab [0, 384, 1152, 1536, 1536, 192, 192, 768, 96, 96, 96, 96, 96, 96, 96, 96, 96, 96, 96, 96, 96, 96, 96, 96, 96, 96, 96, 96, 96, 96, 96, 96, 96, 96, 96, 96, 96, 96, 96, 96], .rw, 0, 4095⟩
def CNT : Field := ⟨0x6, 0x200, 0, 32, 4, 40, .all 0, .ro, 0, 0xFFFFFFFF⟩
def COAL_CNT : Field := ⟨0x6, 0x2A0, 0, 32, 0, 1, .all 0, .ro, 0, 0xFFFFFFFF⟩
def MERGE_CNT : Field := ⟨0x6, 0x2A4, 0, 32, 0, 1, .all 0, .ro, 0, 0xFFFFFFFF⟩
def THROTTLE_CNT : Field := ⟨0x6, 0x2A8, 0, 32, 0, 1, .all 0, .ro, 0, 0xFFFFFFFF⟩
def STOP_LANE_CNT : Field := ⟨0x6, 0x2AC, 0, 32, 0, 1, .all 0, .ro, 0, 0xFFFFFFFF⟩
/-- Every stored block field and live counter of the page. -/
def fields : List Field :=
  [ EPOCH, SOURCE, STATUS, OPCODE, TAG, COAL_CAP, COAL_BASE, LWM, HWM, CNT, COAL_CNT, MERGE_CNT, THROTTLE_CNT, STOP_LANE_CNT]
/-- Interrupt bit of the page. -/ abbrev IRQ_STOP_DONE : Nat := 0
/-- Interrupt bit of the page. -/ abbrev IRQ_THROTTLE : Nat := 1
/-- Interrupt bit of the page. -/ abbrev IRQ_DROP : Nat := 2
/-- Interrupt bit of the page. -/ abbrev IRQ_MERGE : Nat := 3
/-- Interrupt bit of the page. -/ abbrev IRQ_RESP_READY : Nat := 4
/-- Interrupt bit of the page. -/ abbrev IRQ_EVENT_READY : Nat := 5
/-- Interrupt bit of the page. -/ abbrev IRQ_SPACE : Nat := 6
/-- The defined interrupt bits of the page (R422). -/
abbrev irqBits : Nat := 0x7F
end RING

namespace HSPI
/-- Page type of the HSPI page (R420). -/
abbrev page : Nat := 0x7
def CRC_EN : Field := ⟨0x7, 0x40, 0, 1, 0, 1, .all 0, .rw, 0, 1⟩
def PKT_QUAD : Field := ⟨0x7, 0x40, 1, 1, 0, 1, .all 0, .rw, 0, 1⟩
def PULL_CONFIRM : Field := ⟨0x7, 0x40, 2, 1, 0, 1, .all 0, .rw, 0, 1⟩
def IRQ_REPULSE : Field := ⟨0x7, 0x40, 3, 1, 0, 1, .all 1, .rw, 0, 1⟩
def DUMMY : Field := ⟨0x7, 0x40, 8, 6, 0, 1, .all 8, .rw, 8, 32⟩
def ERR : Field := ⟨0x7, 0x44, 0, 1, 0, 1, .all 0, .w1c, 0, 1⟩
def LAST_ERR : Field := ⟨0x7, 0x44, 16, 8, 0, 1, .all 0, .ro, 0, 255⟩
def LAST_OPCODE : Field := ⟨0x7, 0x44, 24, 8, 0, 1, .all 0, .ro, 0, 255⟩
def ADDR : Field := ⟨0x7, 0x48, 0, 24, 0, 1, .all 0, .ro, 0, 16777215⟩
def RING : Field := ⟨0x7, 0x4C, 0, 6, 0, 1, .all 0, .ro, 0, 63⟩
def STATUS : Field := ⟨0x7, 0x4C, 8, 8, 0, 1, .all 0, .ro, 0, 255⟩
def TAG : Field := ⟨0x7, 0x4C, 16, 16, 0, 1, .all 0, .ro, 0, 65535⟩
def TXN_CNT : Field := ⟨0x7, 0x200, 0, 32, 0, 1, .all 0, .ro, 0, 0xFFFFFFFF⟩
def CRC_ERR_CNT : Field := ⟨0x7, 0x204, 0, 32, 0, 1, .all 0, .ro, 0, 0xFFFFFFFF⟩
def BAD_ACCESS_CNT : Field := ⟨0x7, 0x208, 0, 32, 0, 1, .all 0, .ro, 0, 0xFFFFFFFF⟩
def NOT_READY_CNT : Field := ⟨0x7, 0x20C, 0, 32, 0, 1, .all 0, .ro, 0, 0xFFFFFFFF⟩
def PUSH_CNT : Field := ⟨0x7, 0x210, 0, 32, 0, 1, .all 0, .ro, 0, 0xFFFFFFFF⟩
def PUSH_REFUSED_CNT : Field := ⟨0x7, 0x214, 0, 32, 0, 1, .all 0, .ro, 0, 0xFFFFFFFF⟩
def PULL_CNT : Field := ⟨0x7, 0x218, 0, 32, 0, 1, .all 0, .ro, 0, 0xFFFFFFFF⟩
def STOP_BAD_CNT : Field := ⟨0x7, 0x21C, 0, 32, 0, 1, .all 0, .ro, 0, 0xFFFFFFFF⟩
/-- Every stored block field and live counter of the page. -/
def fields : List Field :=
  [ CRC_EN, PKT_QUAD, PULL_CONFIRM, IRQ_REPULSE, DUMMY, ERR, LAST_ERR, LAST_OPCODE, ADDR, RING, STATUS, TAG, TXN_CNT, CRC_ERR_CNT, BAD_ACCESS_CNT, NOT_READY_CNT, PUSH_CNT, PUSH_REFUSED_CNT, PULL_CNT, STOP_BAD_CNT]
/-- Interrupt bit of the page. -/ abbrev IRQ_CRC_ERR : Nat := 0
/-- Interrupt bit of the page. -/ abbrev IRQ_BAD_ACCESS : Nat := 1
/-- Interrupt bit of the page. -/ abbrev IRQ_PUSH_REFUSED : Nat := 2
/-- Interrupt bit of the page. -/ abbrev IRQ_NOT_READY : Nat := 3
/-- The defined interrupt bits of the page (R422). -/
abbrev irqBits : Nat := 0xF
end HSPI

namespace SMB
/-- Page type of the SMB page (R420). -/
abbrev page : Nat := 0x8
def PEC_REQ : Field := ⟨0x8, 0x40, 0, 1, 0, 1, .all 0, .rw, 0, 1⟩
def NOTIFY_EN : Field := ⟨0x8, 0x40, 1, 1, 0, 1, .all 0, .rw, 0, 1⟩
def CTRL_SPEED : Field := ⟨0x8, 0x40, 2, 2, 0, 1, .all 1, .rw, 0, 2⟩
def RD_WORDS : Field := ⟨0x8, 0x40, 12, 4, 0, 1, .all 1, .rw, 1, 8⟩
def FRAG_MAX : Field := ⟨0x8, 0x40, 16, 8, 0, 1, .all 30, .rw, 1, 253⟩
def NOTIFY_MIN : Field := ⟨0x8, 0x40, 24, 8, 0, 1, .all 10, .rw, 1, 255⟩
def RECOVER : Field := ⟨0x8, 0x44, 0, 1, 0, 1, .all 0, .wo, 0, 1⟩
def CLEAR_ASM : Field := ⟨0x8, 0x44, 1, 1, 0, 1, .all 0, .wo, 0, 1⟩
def ADDR : Field := ⟨0x8, 0x48, 0, 7, 0, 1, .all 0x2C, .ro, 0, 127⟩
def ASM_OPEN : Field := ⟨0x8, 0x48, 12, 1, 0, 1, .all 0, .ro, 0, 1⟩
def NOTIFY_FAIL : Field := ⟨0x8, 0x48, 13, 1, 0, 1, .all 0, .w1c, 0, 1⟩
def BUS_STUCK : Field := ⟨0x8, 0x48, 14, 1, 0, 1, .all 0, .w1c, 0, 1⟩
def ERR : Field := ⟨0x8, 0x48, 15, 1, 0, 1, .all 0, .w1c, 0, 1⟩
def LAST_CMD : Field := ⟨0x8, 0x48, 16, 8, 0, 1, .all 0, .ro, 0, 255⟩
def LAST_ERR : Field := ⟨0x8, 0x48, 24, 8, 0, 1, .all 0, .ro, 0, 255⟩
def PTR : Field := ⟨0x8, 0x4C, 0, 24, 0, 1, .all 0, .ro, 0, 16777215⟩
def PUSH_STAT_RING : Field := ⟨0x8, 0x50, 0, 6, 0, 1, .all 0, .ro, 0, 63⟩
def STATUS : Field := ⟨0x8, 0x50, 8, 8, 0, 1, .all 0, .ro, 0, 255⟩
def TAG : Field := ⟨0x8, 0x50, 16, 16, 0, 1, .all 0, .ro, 0, 65535⟩
def ASM_STAT_RING : Field := ⟨0x8, 0x54, 0, 6, 0, 1, .all 0, .ro, 0, 63⟩
def NEXT_SEQ : Field := ⟨0x8, 0x54, 8, 8, 0, 1, .all 0, .ro, 0, 255⟩
def BYTES : Field := ⟨0x8, 0x54, 16, 16, 0, 1, .all 0, .ro, 0, 65535⟩
def ATTEMPTS : Field := ⟨0x8, 0x58, 0, 8, 0, 1, .all 0, .ro, 0, 255⟩
def RESULT : Field := ⟨0x8, 0x58, 8, 8, 0, 1, .all 0, .ro, 0, 255⟩
def TXN_CNT : Field := ⟨0x8, 0x200, 0, 32, 0, 1, .all 0, .ro, 0, 0xFFFFFFFF⟩
def PEC_ERR_CNT : Field := ⟨0x8, 0x204, 0, 32, 0, 1, .all 0, .ro, 0, 0xFFFFFFFF⟩
def SMB_PROTO_ERR : Field := ⟨0x8, 0x208, 0, 32, 0, 1, .all 0, .ro, 0, 0xFFFFFFFF⟩
def ARB_LOST : Field := ⟨0x8, 0x20C, 0, 32, 0, 1, .all 0, .ro, 0, 0xFFFFFFFF⟩
def NOTIFY_CNT : Field := ⟨0x8, 0x210, 0, 32, 0, 1, .all 0, .ro, 0, 0xFFFFFFFF⟩
def NOTIFY_FAIL_CNT : Field := ⟨0x8, 0x214, 0, 32, 0, 1, .all 0, .ro, 0, 0xFFFFFFFF⟩
def TIMEOUT_CNT : Field := ⟨0x8, 0x218, 0, 32, 0, 1, .all 0, .ro, 0, 0xFFFFFFFF⟩
def RECOVERY_CNT : Field := ⟨0x8, 0x21C, 0, 32, 0, 1, .all 0, .ro, 0, 0xFFFFFFFF⟩
def WAKE_NACK_CNT : Field := ⟨0x8, 0x220, 0, 32, 0, 1, .all 0, .ro, 0, 0xFFFFFFFF⟩
def FRAG_ABORT_CNT : Field := ⟨0x8, 0x224, 0, 32, 0, 1, .all 0, .ro, 0, 0xFFFFFFFF⟩
def DUP_FRAG_CNT : Field := ⟨0x8, 0x228, 0, 32, 0, 1, .all 0, .ro, 0, 0xFFFFFFFF⟩
def FRAG_LOST_CNT : Field := ⟨0x8, 0x22C, 0, 32, 0, 1, .all 0, .ro, 0, 0xFFFFFFFF⟩
def PUSH_REFUSED_CNT : Field := ⟨0x8, 0x230, 0, 32, 0, 1, .all 0, .ro, 0, 0xFFFFFFFF⟩
/-- Every stored block field and live counter of the page. -/
def fields : List Field :=
  [ PEC_REQ, NOTIFY_EN, CTRL_SPEED, RD_WORDS, FRAG_MAX, NOTIFY_MIN, RECOVER, CLEAR_ASM, ADDR, ASM_OPEN, NOTIFY_FAIL, BUS_STUCK, ERR, LAST_CMD, LAST_ERR, PTR, PUSH_STAT_RING, STATUS, TAG, ASM_STAT_RING, NEXT_SEQ, BYTES, ATTEMPTS, RESULT] ++
  [ TXN_CNT, PEC_ERR_CNT, SMB_PROTO_ERR, ARB_LOST, NOTIFY_CNT, NOTIFY_FAIL_CNT, TIMEOUT_CNT, RECOVERY_CNT, WAKE_NACK_CNT, FRAG_ABORT_CNT, DUP_FRAG_CNT, FRAG_LOST_CNT, PUSH_REFUSED_CNT]
/-- Interrupt bit of the page. -/ abbrev IRQ_PEC_ERR : Nat := 0
/-- Interrupt bit of the page. -/ abbrev IRQ_PROTO_ERR : Nat := 1
/-- Interrupt bit of the page. -/ abbrev IRQ_ARB_LOST : Nat := 2
/-- Interrupt bit of the page. -/ abbrev IRQ_NOTIFY_FAIL : Nat := 3
/-- Interrupt bit of the page. -/ abbrev IRQ_TIMEOUT : Nat := 4
/-- Interrupt bit of the page. -/ abbrev IRQ_BUS_STUCK : Nat := 5
/-- Interrupt bit of the page. -/ abbrev IRQ_PUSH_REFUSED : Nat := 6
/-- The defined interrupt bits of the page (R422). -/
abbrev irqBits : Nat := 0x7F
end SMB

namespace WEFT
/-- Page type of the WEFT page (R420). -/
abbrev page : Nat := 0x9
def DEV_ID : Field := ⟨0x9, 0x40, 0, 12, 0, 1, .all 0, .rwl, 0, 4095⟩
def ID_VALID : Field := ⟨0x9, 0x40, 12, 1, 0, 1, .all 0, .rwl, 0, 1⟩
def DEF_LINK : Field := ⟨0x9, 0x40, 13, 1, 0, 1, .all 0, .rw, 0, 1⟩
def RING_MODE : Field := ⟨0x9, 0x40, 14, 1, 0, 1, .all 0, .rw, 0, 1⟩
def FWD_EN : Field := ⟨0x9, 0x40, 15, 1, 0, 1, .all 1, .rw, 0, 1⟩
def W0_EN : Field := ⟨0x9, 0x44, 0, 1, 0, 1, .all 1, .rw, 0, 1⟩
def W1_EN : Field := ⟨0x9, 0x44, 1, 1, 0, 1, .all 1, .rw, 0, 1⟩
def W0_PEER : Field := ⟨0x9, 0x48, 0, 12, 0, 1, .all 0, .ro, 0, 4095⟩
def W0_STATE : Field := ⟨0x9, 0x48, 12, 4, 0, 1, .all 0, .ro, 0, 15⟩
def W1_PEER : Field := ⟨0x9, 0x48, 16, 12, 0, 1, .all 0, .ro, 0, 4095⟩
def W1_STATE : Field := ⟨0x9, 0x48, 28, 4, 0, 1, .all 0, .ro, 0, 15⟩
def W0_DLY : Field := ⟨0x9, 0x4C, 0, 16, 0, 1, .all 0, .ro, 0, 65535⟩
def W1_DLY : Field := ⟨0x9, 0x4C, 16, 16, 0, 1, .all 0, .ro, 0, 65535⟩
def W0_B : Field := ⟨0x9, 0x50, 0, 6, 0, 1, .all 16, .ro, 0, 63⟩
def W0_M : Field := ⟨0x9, 0x50, 6, 6, 0, 1, .all 16, .ro, 0, 63⟩
def W0_U : Field := ⟨0x9, 0x50, 12, 4, 0, 1, .all 4, .ro, 0, 15⟩
def W1_B : Field := ⟨0x9, 0x50, 16, 6, 0, 1, .all 16, .ro, 0, 63⟩
def W1_M : Field := ⟨0x9, 0x50, 22, 6, 0, 1, .all 16, .ro, 0, 63⟩
def W1_U : Field := ⟨0x9, 0x50, 28, 4, 0, 1, .all 4, .ro, 0, 15⟩
def LO : Field := ⟨0x9, 0x80, 0, 12, 4, 16, .all 0, .rw, 0, 4095⟩
def HI : Field := ⟨0x9, 0x80, 12, 12, 4, 16, .all 0, .rw, 0, 4095⟩
def LINK : Field := ⟨0x9, 0x80, 24, 1, 4, 16, .all 0, .rw, 0, 1⟩
def VALID : Field := ⟨0x9, 0x80, 31, 1, 4, 16, .all 0, .rw, 0, 1⟩
def W0_RX_CELLS : Field := ⟨0x9, 0x200, 0, 32, 0, 1, .all 0, .ro, 0, 0xFFFFFFFF⟩
def W1_RX_CELLS : Field := ⟨0x9, 0x204, 0, 32, 0, 1, .all 0, .ro, 0, 0xFFFFFFFF⟩
def W0_TX_CELLS : Field := ⟨0x9, 0x208, 0, 32, 0, 1, .all 0, .ro, 0, 0xFFFFFFFF⟩
def W1_TX_CELLS : Field := ⟨0x9, 0x20C, 0, 32, 0, 1, .all 0, .ro, 0, 0xFFFFFFFF⟩
def CRC_ERR_CNT : Field := ⟨0x9, 0x210, 0, 32, 0, 1, .all 0, .ro, 0, 0xFFFFFFFF⟩
def CODE_ERR_CNT : Field := ⟨0x9, 0x214, 0, 32, 0, 1, .all 0, .ro, 0, 0xFFFFFFFF⟩
def DROP_CNT : Field := ⟨0x9, 0x218, 0, 32, 0, 1, .all 0, .ro, 0, 0xFFFFFFFF⟩
def LINK_DOWN_CNT : Field := ⟨0x9, 0x21C, 0, 32, 0, 1, .all 0, .ro, 0, 0xFFFFFFFF⟩
def URGENT_RX_CNT : Field := ⟨0x9, 0x220, 0, 32, 0, 1, .all 0, .ro, 0, 0xFFFFFFFF⟩
def FWD_CNT : Field := ⟨0x9, 0x224, 0, 32, 0, 1, .all 0, .ro, 0, 0xFFFFFFFF⟩
/-- Every stored block field and live counter of the page. -/
def fields : List Field :=
  [ DEV_ID, ID_VALID, DEF_LINK, RING_MODE, FWD_EN, W0_EN, W1_EN, W0_PEER, W0_STATE, W1_PEER, W1_STATE, W0_DLY, W1_DLY, W0_B, W0_M, W0_U, W1_B, W1_M, W1_U, LO, HI, LINK, VALID, W0_RX_CELLS] ++
  [ W1_RX_CELLS, W0_TX_CELLS, W1_TX_CELLS, CRC_ERR_CNT, CODE_ERR_CNT, DROP_CNT, LINK_DOWN_CNT, URGENT_RX_CNT, FWD_CNT]
/-- Interrupt bit of the page. -/ abbrev IRQ_LINK_UP : Nat := 0
/-- Interrupt bit of the page. -/ abbrev IRQ_LINK_DOWN : Nat := 1
/-- Interrupt bit of the page. -/ abbrev IRQ_DROP : Nat := 2
/-- Interrupt bit of the page. -/ abbrev IRQ_CRC_ERR : Nat := 3
/-- Interrupt bit of the page. -/ abbrev IRQ_ID_CONFLICT : Nat := 4
/-- The defined interrupt bits of the page (R422). -/
abbrev irqBits : Nat := 0x1F
end WEFT

namespace TIME
/-- Page type of the TIME page (R420). -/
abbrev page : Nat := 0xA
def ROLE : Field := ⟨0xA, 0x40, 0, 2, 0, 1, .all 2, .rw, 0, 2⟩
def SYNC_INT : Field := ⟨0xA, 0x40, 8, 8, 0, 1, .all 10, .rw, 1, 255⟩
def STEP_TH : Field := ⟨0xA, 0x40, 16, 8, 0, 1, .all 10, .rw, 1, 255⟩
def MASTER_ID : Field := ⟨0xA, 0x44, 0, 12, 0, 1, .all 0, .ro, 0, 4095⟩
def HOPS : Field := ⟨0xA, 0x44, 12, 12, 0, 1, .all 0, .ro, 0, 4095⟩
def CONFLICT : Field := ⟨0xA, 0x44, 25, 1, 0, 1, .all 0, .ro, 0, 1⟩
def UPSTREAM : Field := ⟨0xA, 0x44, 26, 1, 0, 1, .all 0, .ro, 0, 1⟩
def SET : Field := ⟨0xA, 0x44, 27, 1, 0, 1, .all 0, .ro, 0, 1⟩
def STATE : Field := ⟨0xA, 0x44, 28, 4, 0, 1, .all 0, .ro, 0, 15⟩
def OFFSET : Field := ⟨0xA, 0x50, 0, 32, 0, 1, .all 0, .ro, 0, 4294967295⟩
def RATE : Field := ⟨0xA, 0x54, 0, 32, 0, 1, .all 0, .rw, 0, 4294967295⟩
def SNAP_GRID : Field := ⟨0xA, 0x60, 0, 7, 0, 1, .all 1, .rw, 1, 100⟩
def PIN_IN_EN : Field := ⟨0xA, 0x60, 8, 1, 0, 1, .all 1, .rw, 0, 1⟩
def PIN_DRIVE : Field := ⟨0xA, 0x60, 9, 1, 0, 1, .all 0, .rw, 0, 1⟩
def HOLD_MAX : Field := ⟨0xA, 0x60, 16, 8, 0, 1, .all 10, .rw, 1, 255⟩
def REQ : Field := ⟨0xA, 0x64, 0, 1, 0, 1, .all 0, .wo, 0, 1⟩
def HOLD : Field := ⟨0xA, 0x64, 4, 2, 0, 1, .all 0, .rw, 0, 3⟩
def VIEW_AUTO : Field := ⟨0xA, 0x64, 8, 1, 0, 1, .all 1, .rw, 0, 1⟩
def VIEW : Field := ⟨0xA, 0x64, 9, 1, 0, 1, .all 0, .rw, 0, 1⟩
def VALID : Field := ⟨0xA, 0x68, 0, 2, 0, 1, .all 0, .ro, 0, 3⟩
def HELD : Field := ⟨0xA, 0x68, 2, 2, 0, 1, .all 0, .ro, 0, 3⟩
def NEWER : Field := ⟨0xA, 0x68, 4, 1, 0, 1, .all 0, .ro, 0, 1⟩
def BANK_ID : Field := ⟨0xA, 0x70, 0, 32, 4, 2, .all 0, .ro, 0, 4294967295⟩
def BANK_TIME_LO : Field := ⟨0xA, 0x78, 0, 32, 8, 2, .all 0, .ro, 0, 4294967295⟩
def BANK_TIME_HI : Field := ⟨0xA, 0x7C, 0, 32, 8, 2, .all 0, .ro, 0, 4294967295⟩
def BANK_FLAGS_A : Field := ⟨0xA, 0x88, 0, 3, 0, 1, .all 0, .ro, 0, 7⟩
def BANK_FLAGS_B : Field := ⟨0xA, 0x88, 8, 3, 0, 1, .all 0, .ro, 0, 7⟩
def SNAP_CNT : Field := ⟨0xA, 0x200, 0, 32, 0, 1, .all 0, .ro, 0, 0xFFFFFFFF⟩
def SNAP_REFUSED_CNT : Field := ⟨0xA, 0x204, 0, 32, 0, 1, .all 0, .ro, 0, 0xFFFFFFFF⟩
def SNAP_LATE_CNT : Field := ⟨0xA, 0x208, 0, 32, 0, 1, .all 0, .ro, 0, 0xFFFFFFFF⟩
def SYNC_RX_CNT : Field := ⟨0xA, 0x20C, 0, 32, 0, 1, .all 0, .ro, 0, 0xFFFFFFFF⟩
def SYNC_MISS_CNT : Field := ⟨0xA, 0x210, 0, 32, 0, 1, .all 0, .ro, 0, 0xFFFFFFFF⟩
def STEP_CNT : Field := ⟨0xA, 0x214, 0, 32, 0, 1, .all 0, .ro, 0, 0xFFFFFFFF⟩
def HOLD_EXPIRED_CNT : Field := ⟨0xA, 0x218, 0, 32, 0, 1, .all 0, .ro, 0, 0xFFFFFFFF⟩
/-- Every stored block field and live counter of the page. -/
def fields : List Field :=
  [ ROLE, SYNC_INT, STEP_TH, MASTER_ID, HOPS, CONFLICT, UPSTREAM, SET, STATE, OFFSET, RATE, SNAP_GRID, PIN_IN_EN, PIN_DRIVE, HOLD_MAX, REQ, HOLD, VIEW_AUTO, VIEW, VALID, HELD, NEWER, BANK_ID, BANK_TIME_LO] ++
  [ BANK_TIME_HI, BANK_FLAGS_A, BANK_FLAGS_B, SNAP_CNT, SNAP_REFUSED_CNT, SNAP_LATE_CNT, SYNC_RX_CNT, SYNC_MISS_CNT, STEP_CNT, HOLD_EXPIRED_CNT]
/-- Interrupt bit of the page. -/ abbrev IRQ_SNAP_TAKEN : Nat := 0
/-- Interrupt bit of the page. -/ abbrev IRQ_SNAP_REFUSED : Nat := 1
/-- Interrupt bit of the page. -/ abbrev IRQ_LOCKED : Nat := 2
/-- Interrupt bit of the page. -/ abbrev IRQ_HOLDOVER : Nat := 3
/-- Interrupt bit of the page. -/ abbrev IRQ_STEP : Nat := 4
/-- Interrupt bit of the page. -/ abbrev IRQ_CONFLICT : Nat := 5
/-- Interrupt bit of the page. -/ abbrev IRQ_HOLD_EXPIRED : Nat := 6
/-- The defined interrupt bits of the page (R422). -/
abbrev irqBits : Nat := 0x7F
end TIME

end Sys2Proof.Machine
end

