-- ==== Sys2Proof/Machine/RegMapB.lean ====
section
/-! DEFINITION. The register fields of the system (second part) pages, as the field tables of spec/ give them: page
type, byte offset, low bit, width, stride and count of an array, reset value, access and legal range (R420 to
R428 and each page's own rule).  A field whose value the spec derives from other state (an interrupt summary, a
ring's occupancy) is no stored field: Machine/Words.lean computes it when it is read. -/

namespace Sys2Proof.Machine

namespace PAIR
/-- Page type of the PAIR page (R420). -/
abbrev page : Nat := 0xB
def MIRROR_INT : Field := ⟨0xB, 0x40, 0, 16, 0, 1, .all 100, .rw, 50, 1000⟩
def ROLE : Field := ⟨0xB, 0x44, 0, 1, 0, 1, .all 0, .ro, 0, 1⟩
def OWNER : Field := ⟨0xB, 0x44, 1, 1, 0, 1, .all 0, .ro, 0, 1⟩
def YIELD_OUT : Field := ⟨0xB, 0x44, 2, 1, 0, 1, .all 0, .ro, 0, 1⟩
def YIELD_IN : Field := ⟨0xB, 0x44, 3, 1, 0, 1, .all 0, .ro, 0, 1⟩
def OWN_IN_OK : Field := ⟨0xB, 0x44, 4, 1, 0, 1, .all 0, .ro, 0, 1⟩
def HB_ENABLE : Field := ⟨0xB, 0x44, 5, 1, 0, 1, .all 0, .ro, 0, 1⟩
def VETO_ARM : Field := ⟨0xB, 0x44, 6, 1, 0, 1, .all 0, .ro, 0, 1⟩
def MIRROR_OK : Field := ⟨0xB, 0x44, 7, 1, 0, 1, .all 0, .ro, 0, 1⟩
def VETOED : Field := ⟨0xB, 0x44, 8, 1, 0, 1, .all 0, .ro, 0, 1⟩
def PARTNER_GONE : Field := ⟨0xB, 0x44, 9, 1, 0, 1, .all 0, .ro, 0, 1⟩
def LINK_STATE : Field := ⟨0xB, 0x44, 16, 8, 0, 1, .all 0, .ro, 0, 255⟩
def PAIR_STATE : Field := ⟨0xB, 0x44, 24, 8, 0, 1, .all 0, .ro, 0, 255⟩
def STALE : Field := ⟨0xB, 0x48, 0, 32, 0, 1, .all 4294967295, .ro, 0, 4294967295⟩
def PARTNER_SN_LO : Field := ⟨0xB, 0x50, 0, 32, 0, 1, .all 0, .ro, 0, 4294967295⟩
def PARTNER_SN_HI : Field := ⟨0xB, 0x54, 0, 32, 0, 1, .all 0, .ro, 0, 4294967295⟩
def DONE_US : Field := ⟨0xB, 0x58, 0, 16, 0, 1, .all 0, .ro, 0, 65535⟩
def DRIVE_US : Field := ⟨0xB, 0x58, 16, 16, 0, 1, .all 0, .ro, 0, 65535⟩
def TAKEOVER_CNT : Field := ⟨0xB, 0x200, 0, 32, 0, 1, .all 0, .ro, 0, 0xFFFFFFFF⟩
def YIELD_CNT : Field := ⟨0xB, 0x204, 0, 32, 0, 1, .all 0, .ro, 0, 0xFFFFFFFF⟩
def VETO_CNT : Field := ⟨0xB, 0x208, 0, 32, 0, 1, .all 0, .ro, 0, 0xFFFFFFFF⟩
def HANDOVER_CNT : Field := ⟨0xB, 0x20C, 0, 32, 0, 1, .all 0, .ro, 0, 0xFFFFFFFF⟩
def LINK_DOWN_CNT : Field := ⟨0xB, 0x210, 0, 32, 0, 1, .all 0, .ro, 0, 0xFFFFFFFF⟩
def RETX_CNT : Field := ⟨0xB, 0x214, 0, 32, 0, 1, .all 0, .ro, 0, 0xFFFFFFFF⟩
def CRC_ERR_CNT : Field := ⟨0xB, 0x218, 0, 32, 0, 1, .all 0, .ro, 0, 0xFFFFFFFF⟩
def AUTH_FAIL_CNT : Field := ⟨0xB, 0x21C, 0, 32, 0, 1, .all 0, .ro, 0, 0xFFFFFFFF⟩
def STOP_HELD_CNT : Field := ⟨0xB, 0x220, 0, 32, 0, 1, .all 0, .ro, 0, 0xFFFFFFFF⟩
/-- Every stored block field and live counter of the page. -/
def fields : List Field :=
  [ MIRROR_INT, ROLE, OWNER, YIELD_OUT, YIELD_IN, OWN_IN_OK, HB_ENABLE, VETO_ARM, MIRROR_OK, VETOED, PARTNER_GONE, LINK_STATE, PAIR_STATE, STALE, PARTNER_SN_LO, PARTNER_SN_HI, DONE_US, DRIVE_US, TAKEOVER_CNT, YIELD_CNT, VETO_CNT, HANDOVER_CNT, LINK_DOWN_CNT, RETX_CNT] ++
  [ CRC_ERR_CNT, AUTH_FAIL_CNT, STOP_HELD_CNT]
/-- Interrupt bit of the page. -/ abbrev IRQ_TAKEOVER : Nat := 0
/-- Interrupt bit of the page. -/ abbrev IRQ_YIELDED : Nat := 1
/-- Interrupt bit of the page. -/ abbrev IRQ_VETO : Nat := 2
/-- Interrupt bit of the page. -/ abbrev IRQ_LINK_DOWN : Nat := 3
/-- Interrupt bit of the page. -/ abbrev IRQ_MIRROR_LOST : Nat := 4
/-- Interrupt bit of the page. -/ abbrev IRQ_HANDOVER_DONE : Nat := 5
/-- Interrupt bit of the page. -/ abbrev IRQ_AUTH_FAIL : Nat := 6
/-- The defined interrupt bits of the page (R422). -/
abbrev irqBits : Nat := 0x7F
end PAIR

namespace LEDGER
/-- Page type of the LEDGER page (R420). -/
abbrev page : Nat := 0xC
def LEDGER_EN : Field := ⟨0xC, 0x40, 0, 1, 0, 1, .all 1, .rw, 0, 1⟩
def CAP_EST_EN : Field := ⟨0xC, 0x40, 1, 1, 0, 1, .all 1, .rw, 0, 1⟩
def PERSIST_T : Field := ⟨0xC, 0x40, 16, 8, 0, 1, .all 60, .rw, 10, 255⟩
def ETA_PACK : Field := ⟨0xC, 0x40, 24, 8, 0, 1, .all 95, .rw, 80, 100⟩
def EOL_CAP_EN : Field := ⟨0xC, 0x44, 0, 1, 0, 1, .all 0, .rw, 0, 1⟩
def EOL_PDP : Field := ⟨0xC, 0x44, 8, 8, 0, 1, .all 15, .rw, 0, 240⟩
def UNAUTH_PDP : Field := ⟨0xC, 0x44, 16, 8, 0, 1, .all 60, .rw, 0, 100⟩
def REAUTH : Field := ⟨0xC, 0x44, 24, 8, 0, 1, .all 30, .rw, 0, 255⟩
def EOL_WARN : Field := ⟨0xC, 0x48, 0, 8, 0, 1, .all 80, .rw, 1, 100⟩
def EOL_LIMIT : Field := ⟨0xC, 0x48, 8, 8, 0, 1, .all 60, .rw, 1, 100⟩
def CYCLE_LIMIT : Field := ⟨0xC, 0x48, 16, 16, 0, 1, .all 0, .rw, 0, 65535⟩
def AUTH_MODE_LO : Field := ⟨0xC, 0x4C, 0, 32, 0, 1, .all 1431655765, .rw, 0, 4294967295⟩
def AUTH_MODE_HI : Field := ⟨0xC, 0x50, 0, 32, 0, 1, .all 1431655765, .rw, 0, 4294967295⟩
def USED : Field := ⟨0xC, 0x54, 0, 14, 0, 1, .all 0, .ro, 0, 16383⟩
def FULL : Field := ⟨0xC, 0x54, 16, 1, 0, 1, .all 0, .ro, 0, 1⟩
def COMPACTING : Field := ⟨0xC, 0x54, 17, 1, 0, 1, .all 0, .ro, 0, 1⟩
def FLASH_FAULT : Field := ⟨0xC, 0x54, 18, 1, 0, 1, .all 0, .ro, 0, 1⟩
def MIRROR : Field := ⟨0xC, 0x54, 19, 1, 0, 1, .all 0, .ro, 0, 1⟩
def SEQ_NOW : Field := ⟨0xC, 0x58, 0, 32, 0, 1, .all 0, .ro, 0, 4294967295⟩
def MARK : Field := ⟨0xC, 0x5C, 0, 32, 0, 1, .all 0, .ro, 0, 4294967295⟩
def SLOT : Field := ⟨0xC, 0x80, 0, 13, 4, 32, .all 0, .ro, 0, 8191⟩
def EOL : Field := ⟨0xC, 0x80, 24, 2, 4, 32, .all 0, .ro, 0, 3⟩
def AUTH_STATE : Field := ⟨0xC, 0x80, 26, 3, 4, 32, .all 0, .ro, 0, 7⟩
def DUP : Field := ⟨0xC, 0x80, 29, 1, 4, 32, .all 0, .ro, 0, 1⟩
def ANON : Field := ⟨0xC, 0x80, 30, 1, 4, 32, .all 0, .ro, 0, 1⟩
def SESSION : Field := ⟨0xC, 0x80, 31, 1, 4, 32, .all 0, .ro, 0, 1⟩
def PARTNER_NEW_CNT : Field := ⟨0xC, 0x200, 0, 32, 0, 1, .all 0, .ro, 0, 0xFFFFFFFF⟩
def EVICT_CNT : Field := ⟨0xC, 0x204, 0, 32, 0, 1, .all 0, .ro, 0, 0xFFFFFFFF⟩
def FULL_CNT : Field := ⟨0xC, 0x208, 0, 32, 0, 1, .all 0, .ro, 0, 0xFFFFFFFF⟩
def AUTH_PASS_CNT : Field := ⟨0xC, 0x20C, 0, 32, 0, 1, .all 0, .ro, 0, 0xFFFFFFFF⟩
def AUTH_FAIL_CNT : Field := ⟨0xC, 0x210, 0, 32, 0, 1, .all 0, .ro, 0, 0xFFFFFFFF⟩
def DUP_KEY_CNT : Field := ⟨0xC, 0x214, 0, 32, 0, 1, .all 0, .ro, 0, 0xFFFFFFFF⟩
def JOURNAL_CNT : Field := ⟨0xC, 0x218, 0, 32, 0, 1, .all 0, .ro, 0, 0xFFFFFFFF⟩
def COMPACT_CNT : Field := ⟨0xC, 0x21C, 0, 32, 0, 1, .all 0, .ro, 0, 0xFFFFFFFF⟩
def FLASH_CRC_CNT : Field := ⟨0xC, 0x220, 0, 32, 0, 1, .all 0, .ro, 0, 0xFFFFFFFF⟩
def ANON_CNT : Field := ⟨0xC, 0x224, 0, 32, 0, 1, .all 0, .ro, 0, 0xFFFFFFFF⟩
def ANON_E_OUT : Field := ⟨0xC, 0x228, 0, 32, 0, 1, .all 0, .ro, 0, 0xFFFFFFFF⟩
def ANON_E_IN : Field := ⟨0xC, 0x22C, 0, 32, 0, 1, .all 0, .ro, 0, 0xFFFFFFFF⟩
/-- Every stored block field and live counter of the page. -/
def fields : List Field :=
  [ LEDGER_EN, CAP_EST_EN, PERSIST_T, ETA_PACK, EOL_CAP_EN, EOL_PDP, UNAUTH_PDP, REAUTH, EOL_WARN, EOL_LIMIT, CYCLE_LIMIT, AUTH_MODE_LO, AUTH_MODE_HI, USED, FULL, COMPACTING, FLASH_FAULT, MIRROR, SEQ_NOW, MARK, SLOT, EOL, AUTH_STATE, DUP] ++
  [ ANON, SESSION, PARTNER_NEW_CNT, EVICT_CNT, FULL_CNT, AUTH_PASS_CNT, AUTH_FAIL_CNT, DUP_KEY_CNT, JOURNAL_CNT, COMPACT_CNT, FLASH_CRC_CNT, ANON_CNT, ANON_E_OUT, ANON_E_IN]
/-- Interrupt bit of the page. -/ abbrev IRQ_NEW : Nat := 0
/-- Interrupt bit of the page. -/ abbrev IRQ_AUTH_FAIL : Nat := 1
/-- Interrupt bit of the page. -/ abbrev IRQ_EOL : Nat := 2
/-- Interrupt bit of the page. -/ abbrev IRQ_FULL : Nat := 3
/-- Interrupt bit of the page. -/ abbrev IRQ_DUP_KEY : Nat := 4
/-- Interrupt bit of the page. -/ abbrev IRQ_FLASH : Nat := 5
/-- The defined interrupt bits of the page (R422). -/
abbrev irqBits : Nat := 0x3F
end LEDGER

namespace FEED
/-- Page type of the FEED page (R420). -/
abbrev page : Nat := 0xD
def EN_A : Field := ⟨0xD, 0x40, 0, 1, 0, 1, .all 0, .rw, 0, 1⟩
def EN_B : Field := ⟨0xD, 0x40, 1, 1, 0, 1, .all 0, .rw, 0, 1⟩
def FORCE : Field := ⟨0xD, 0x40, 2, 2, 0, 1, .all 0, .rw, 0, 3⟩
def COMMIT_A : Field := ⟨0xD, 0x40, 4, 1, 0, 1, .all 0, .wo, 0, 1⟩
def COMMIT_B : Field := ⟨0xD, 0x40, 5, 1, 0, 1, .all 0, .wo, 0, 1⟩
def CLEAR_A : Field := ⟨0xD, 0x40, 6, 1, 0, 1, .all 0, .wo, 0, 1⟩
def CLEAR_B : Field := ⟨0xD, 0x40, 7, 1, 0, 1, .all 0, .wo, 0, 1⟩
def REPAIRED : Field := ⟨0xD, 0x40, 8, 1, 0, 1, .all 0, .wo, 0, 1⟩
def PREF : Field := ⟨0xD, 0x44, 0, 1, 0, 1, .all 0, .rw, 0, 1⟩
def AUTO_RET : Field := ⟨0xD, 0x44, 1, 1, 0, 1, .all 1, .rw, 0, 1⟩
def RET_T : Field := ⟨0xD, 0x44, 2, 6, 0, 1, .all 6, .rw, 1, 63⟩
def INS_DEB : Field := ⟨0xD, 0x44, 8, 8, 0, 1, .all 10, .rw, 1, 255⟩
def DVDT : Field := ⟨0xD, 0x44, 16, 8, 0, 1, .all 20, .rw, 1, 255⟩
def GAP : Field := ⟨0xD, 0x44, 24, 8, 0, 1, .all 10, .rw, 1, 250⟩
def BUS_MON_REF : Field := ⟨0xD, 0x48, 0, 10, 0, 1, .all 900, .rw, 0, 1023⟩
def BUS_MON_FILT : Field := ⟨0xD, 0x48, 10, 8, 0, 1, .all 40, .rw, 0, 255⟩
def BUS_MON_WLO : Field := ⟨0xD, 0x48, 18, 5, 0, 1, .all 19, .rw, 0, 31⟩
def BUS_MON_WHI : Field := ⟨0xD, 0x48, 23, 5, 0, 1, .all 15, .rw, 0, 31⟩
def BUS_MON_MODE : Field := ⟨0xD, 0x48, 30, 2, 0, 1, .all 1, .rw, 0, 3⟩
def FA_MON_REF : Field := ⟨0xD, 0x4C, 0, 10, 0, 1, .all 900, .rw, 0, 1023⟩
def FA_MON_FILT : Field := ⟨0xD, 0x4C, 10, 8, 0, 1, .all 40, .rw, 0, 255⟩
def FA_MON_WLO : Field := ⟨0xD, 0x4C, 18, 5, 0, 1, .all 16, .rw, 0, 31⟩
def FA_MON_WHI : Field := ⟨0xD, 0x4C, 23, 5, 0, 1, .all 15, .rw, 0, 31⟩
def FA_MON_MODE : Field := ⟨0xD, 0x4C, 30, 2, 0, 1, .all 1, .rw, 0, 3⟩
def FB_MON_REF : Field := ⟨0xD, 0x50, 0, 10, 0, 1, .all 900, .rw, 0, 1023⟩
def FB_MON_FILT : Field := ⟨0xD, 0x50, 10, 8, 0, 1, .all 40, .rw, 0, 255⟩
def FB_MON_WLO : Field := ⟨0xD, 0x50, 18, 5, 0, 1, .all 16, .rw, 0, 31⟩
def FB_MON_WHI : Field := ⟨0xD, 0x50, 23, 5, 0, 1, .all 15, .rw, 0, 31⟩
def FB_MON_MODE : Field := ⟨0xD, 0x50, 30, 2, 0, 1, .all 1, .rw, 0, 3⟩
def VCONN_REF : Field := ⟨0xD, 0x54, 0, 10, 0, 1, .all 667, .rw, 0, 1023⟩
def VCP_REF : Field := ⟨0xD, 0x54, 10, 10, 0, 1, .all 800, .rw, 0, 1023⟩
def VCONN_W : Field := ⟨0xD, 0x54, 22, 5, 0, 1, .all 8, .rw, 0, 31⟩
def VCP_W : Field := ⟨0xD, 0x54, 27, 5, 0, 1, .all 11, .rw, 0, 31⟩
def CHK_EN : Field := ⟨0xD, 0x58, 0, 1, 0, 1, .all 1, .rw, 0, 1⟩
def SWAP_T : Field := ⟨0xD, 0x58, 24, 8, 0, 1, .all 10, .rw, 1, 255⟩
def BUS_PRIMARY : Field := ⟨0xD, 0x5C, 0, 1, 0, 1, .all 0, .ro, 0, 1⟩
def BUS_DEGRADED : Field := ⟨0xD, 0x5C, 1, 1, 0, 1, .all 0, .ro, 0, 1⟩
def BUS_OV : Field := ⟨0xD, 0x5C, 2, 1, 0, 1, .all 0, .ro, 0, 1⟩
def BUS_LOSS : Field := ⟨0xD, 0x5C, 3, 1, 0, 1, .all 0, .ro, 0, 1⟩
def ARMED : Field := ⟨0xD, 0x5C, 4, 1, 0, 1, .all 0, .ro, 0, 1⟩
def SEL : Field := ⟨0xD, 0x5C, 5, 2, 0, 1, .all 0, .ro, 0, 3⟩
def SWITCHING : Field := ⟨0xD, 0x5C, 7, 1, 0, 1, .all 0, .ro, 0, 1⟩
def MASK : Field := ⟨0xD, 0x64, 3, 5, 0, 1, .all 0, .rw, 0, 31⟩
def FD_SS_IG : Field := ⟨0xD, 0x80, 8, 8, 32, 2, .all 100, .rw, 1, 255⟩
def FD_RAMP_TMAX : Field := ⟨0xD, 0x80, 16, 8, 32, 2, .all 100, .rw, 1, 250⟩
def FD_GATE_RISE_TMAX : Field := ⟨0xD, 0x80, 24, 8, 32, 2, .all 20, .rw, 1, 100⟩
def FD_SHUNT : Field := ⟨0xD, 0x84, 16, 16, 32, 2, .all 500, .rw, 100, 5000⟩
def FD_LIM_T : Field := ⟨0xD, 0x88, 0, 8, 32, 2, .all 50, .rw, 1, 255⟩
def FD_REV_T : Field := ⟨0xD, 0x88, 8, 8, 32, 2, .all 1, .rw, 1, 255⟩
def FD_REV_TH : Field := ⟨0xD, 0x88, 16, 8, 32, 2, .all 2, .rw, 1, 255⟩
def FD_ILIM : Field := ⟨0xD, 0x88, 24, 8, 32, 2, .all 60, .rw, 1, 255⟩
def FD_IFAST_TH : Field := ⟨0xD, 0x8C, 0, 10, 32, 2, .all 640, .rw, 0, 1023⟩
def FD_RETRY_MAX : Field := ⟨0xD, 0x8C, 12, 4, 32, 2, .all 3, .rw, 0, 15⟩
def FD_RETRY_T : Field := ⟨0xD, 0x8C, 16, 8, 32, 2, .all 50, .rw, 1, 255⟩
def FD_T_COOL : Field := ⟨0xD, 0x8C, 24, 8, 32, 2, .all 60, .rw, 1, 255⟩
def FD_RETRIES : Field := ⟨0xD, 0x90, 0, 4, 32, 2, .all 0, .ro, 0, 15⟩
def FD_AT_LIMIT : Field := ⟨0xD, 0x90, 12, 1, 32, 2, .all 0, .ro, 0, 1⟩
def FD_HEALTHY : Field := ⟨0xD, 0x90, 13, 1, 32, 2, .all 0, .ro, 0, 1⟩
def FD_GATE_OFF : Field := ⟨0xD, 0x90, 14, 1, 32, 2, .all 1, .ro, 0, 1⟩
def FD_GATE_ON : Field := ⟨0xD, 0x90, 15, 1, 32, 2, .all 0, .ro, 0, 1⟩
def FD_CAUSE : Field := ⟨0xD, 0x90, 16, 8, 32, 2, .all 0, .ro, 0, 255⟩
def FD_STATE : Field := ⟨0xD, 0x90, 24, 8, 32, 2, .all 0, .ro, 0, 255⟩
def FD_LIMIT_CNT : Field := ⟨0xD, 0x94, 0, 16, 32, 2, .all 0, .ro, 0, 65535⟩
def FD_HEAT : Field := ⟨0xD, 0x94, 16, 16, 32, 2, .all 0, .ro, 0, 65535⟩
def FD_VIN : Field := ⟨0xD, 0x98, 0, 16, 32, 2, .all 0, .ro, 0, 65535⟩
def FD_I_FEED : Field := ⟨0xD, 0x98, 16, 16, 32, 2, .all 0, .ro, 0, 65535⟩
def FCURVE_A_M : Field := ⟨0xD, 0xC0, 0, 12, 4, 8, .tab [3125, 625, 125, 125, 3125, 2500, 2500, 1000], .ro, 0, 4095⟩
def FCURVE_A_E : Field := ⟨0xD, 0xC0, 12, 4, 4, 8, .tab [15, 14, 14, 12, 5, 3, 1, 0], .ro, 0, 15⟩
def FCURVE_A_I : Field := ⟨0xD, 0xC0, 20, 12, 4, 8, .tab [1300, 1400, 1500, 1625, 1750, 2000, 2500, 3000], .ro, 0, 4095⟩
def FCURVE_B_M : Field := ⟨0xD, 0xE0, 0, 12, 4, 8, .tab [3125, 625, 125, 125, 3125, 2500, 2500, 1000], .ro, 0, 4095⟩
def FCURVE_B_E : Field := ⟨0xD, 0xE0, 12, 4, 4, 8, .tab [15, 14, 14, 12, 5, 3, 1, 0], .ro, 0, 15⟩
def FCURVE_B_I : Field := ⟨0xD, 0xE0, 20, 12, 4, 8, .tab [1300, 1400, 1500, 1625, 1750, 2000, 2500, 3000], .ro, 0, 4095⟩
def FCURVE_STG_M : Field := ⟨0xD, 0x100, 0, 12, 4, 8, .all 0, .rw, 0, 4095⟩
def FCURVE_STG_E : Field := ⟨0xD, 0x100, 12, 4, 4, 8, .all 0, .rw, 0, 15⟩
def FCURVE_STG_I : Field := ⟨0xD, 0x100, 20, 12, 4, 8, .all 0, .rw, 0, 4095⟩
def SWITCH_CNT : Field := ⟨0xD, 0x200, 0, 32, 0, 1, .all 0, .ro, 0, 0xFFFFFFFF⟩
def INSERT_CNT : Field := ⟨0xD, 0x204, 0, 32, 0, 1, .all 0, .ro, 0, 0xFFFFFFFF⟩
def FEED_TRIP_CNT : Field := ⟨0xD, 0x208, 0, 32, 0, 1, .all 0, .ro, 0, 0xFFFFFFFF⟩
def REVERSE_CNT : Field := ⟨0xD, 0x20C, 0, 32, 0, 1, .all 0, .ro, 0, 0xFFFFFFFF⟩
def BUS_LOSS_CNT : Field := ⟨0xD, 0x210, 0, 32, 0, 1, .all 0, .ro, 0, 0xFFFFFFFF⟩
def BUS_OV_CNT : Field := ⟨0xD, 0x214, 0, 32, 0, 1, .all 0, .ro, 0, 0xFFFFFFFF⟩
def BUS_SWAP_CNT : Field := ⟨0xD, 0x218, 0, 32, 0, 1, .all 0, .ro, 0, 0xFFFFFFFF⟩
def SUPPLY_FAULT_CNT : Field := ⟨0xD, 0x21C, 0, 32, 0, 1, .all 0, .ro, 0, 0xFFFFFFFF⟩
/-- Every stored block field and live counter of the page. -/
def fields : List Field :=
  [ EN_A, EN_B, FORCE, COMMIT_A, COMMIT_B, CLEAR_A, CLEAR_B, REPAIRED, PREF, AUTO_RET, RET_T, INS_DEB, DVDT, GAP, BUS_MON_REF, BUS_MON_FILT, BUS_MON_WLO, BUS_MON_WHI, BUS_MON_MODE, FA_MON_REF, FA_MON_FILT, FA_MON_WLO, FA_MON_WHI, FA_MON_MODE] ++
  [ FB_MON_REF, FB_MON_FILT, FB_MON_WLO, FB_MON_WHI, FB_MON_MODE, VCONN_REF, VCP_REF, VCONN_W, VCP_W, CHK_EN, SWAP_T, BUS_PRIMARY, BUS_DEGRADED, BUS_OV, BUS_LOSS, ARMED, SEL, SWITCHING, MASK, FD_SS_IG, FD_RAMP_TMAX, FD_GATE_RISE_TMAX, FD_SHUNT, FD_LIM_T] ++
  [ FD_REV_T, FD_REV_TH, FD_ILIM, FD_IFAST_TH, FD_RETRY_MAX, FD_RETRY_T, FD_T_COOL, FD_RETRIES, FD_AT_LIMIT, FD_HEALTHY, FD_GATE_OFF, FD_GATE_ON, FD_CAUSE, FD_STATE, FD_LIMIT_CNT, FD_HEAT, FD_VIN, FD_I_FEED, FCURVE_A_M, FCURVE_A_E, FCURVE_A_I, FCURVE_B_M, FCURVE_B_E, FCURVE_B_I] ++
  [ FCURVE_STG_M, FCURVE_STG_E, FCURVE_STG_I, SWITCH_CNT, INSERT_CNT, FEED_TRIP_CNT, REVERSE_CNT, BUS_LOSS_CNT, BUS_OV_CNT, BUS_SWAP_CNT, SUPPLY_FAULT_CNT]
/-- Interrupt bit of the page. -/ abbrev IRQ_SWITCH : Nat := 0
/-- Interrupt bit of the page. -/ abbrev IRQ_FEED_TRIP : Nat := 1
/-- Interrupt bit of the page. -/ abbrev IRQ_FEED_LATCHED : Nat := 2
/-- Interrupt bit of the page. -/ abbrev IRQ_FEED_RETIRED : Nat := 3
/-- Interrupt bit of the page. -/ abbrev IRQ_BUS_LOSS : Nat := 4
/-- Interrupt bit of the page. -/ abbrev IRQ_BUS_OV : Nat := 5
/-- Interrupt bit of the page. -/ abbrev IRQ_SUPPLY : Nat := 6
/-- Interrupt bit of the page. -/ abbrev IRQ_MON_FAILED : Nat := 7
/-- Interrupt bit of the page. -/ abbrev IRQ_CURVE_REJECT : Nat := 8
/-- The defined interrupt bits of the page (R422). -/
abbrev irqBits : Nat := 0x1FF
end FEED

namespace ADC
/-- Page type of the ADC page (R420). -/
abbrev page : Nat := 0xE
def ROT_EN : Field := ⟨0xE, 0x40, 0, 1, 0, 1, .all 1, .rw, 0, 1⟩
def CAL_STEP : Field := ⟨0xE, 0x40, 8, 8, 0, 1, .all 10, .rw, 1, 255⟩
def COVERED : Field := ⟨0xE, 0x44, 0, 4, 0, 1, .all 15, .ro, 0, 15⟩
def HK_ADC : Field := ⟨0xE, 0x44, 4, 4, 0, 1, .all 8, .ro, 0, 15⟩
def FAILED : Field := ⟨0xE, 0x44, 8, 9, 0, 1, .all 0, .ro, 0, 511⟩
def ROT_LOST : Field := ⟨0xE, 0x44, 17, 1, 0, 1, .all 0, .ro, 0, 1⟩
def BUS_SNS : Field := ⟨0xE, 0x48, 0, 16, 0, 1, .all 0, .ro, 0, 65535⟩
def FA_VIN : Field := ⟨0xE, 0x48, 16, 16, 0, 1, .all 0, .ro, 0, 65535⟩
def FB_VIN : Field := ⟨0xE, 0x4C, 0, 16, 0, 1, .all 0, .ro, 0, 65535⟩
def T_DIE : Field := ⟨0xE, 0x50, 0, 16, 0, 1, .all 0, .ro, 0, 65535⟩
def T_EXT : Field := ⟨0xE, 0x50, 16, 16, 0, 1, .all 0, .ro, 0, 65535⟩
def OFFSET : Field := ⟨0xE, 0x80, 0, 16, 4, 9, .all 0, .ro, 0, 65535⟩
def GAIN : Field := ⟨0xE, 0x80, 16, 16, 4, 9, .all 0, .ro, 0, 65535⟩
def SMP_POS : Field := ⟨0xE, 0x100, 0, 8, 4, 32, .all 128, .rw, 0, 255⟩
def SMP_AUTO : Field := ⟨0xE, 0x100, 8, 1, 4, 32, .all 1, .rw, 0, 1⟩
def CS_RANGE : Field := ⟨0xE, 0x100, 14, 2, 4, 32, .all 1, .rw, 0, 2⟩
def SHUNT : Field := ⟨0xE, 0x100, 16, 16, 4, 32, .all 500, .rw, 100, 2000⟩
def STALE : Field := ⟨0xE, 0x180, 0, 32, 0, 1, .all 0, .ro, 0, 4294967295⟩
def CLIP : Field := ⟨0xE, 0x184, 0, 32, 0, 1, .all 0, .w1c, 0, 4294967295⟩
def ROTATION_CNT : Field := ⟨0xE, 0x200, 0, 32, 0, 1, .all 0, .ro, 0, 0xFFFFFFFF⟩
def MISMATCH_CNT : Field := ⟨0xE, 0x204, 0, 32, 0, 1, .all 0, .ro, 0, 0xFFFFFFFF⟩
def STALE_CNT : Field := ⟨0xE, 0x208, 0, 32, 0, 1, .all 0, .ro, 0, 0xFFFFFFFF⟩
def BURST_LATE_CNT : Field := ⟨0xE, 0x20C, 0, 32, 0, 1, .all 0, .ro, 0, 0xFFFFFFFF⟩
def Q_OVF_CNT : Field := ⟨0xE, 0x210, 0, 32, 0, 1, .all 0, .ro, 0, 0xFFFFFFFF⟩
def CLIP_CNT : Field := ⟨0xE, 0x214, 0, 32, 0, 1, .all 0, .ro, 0, 0xFFFFFFFF⟩
/-- Every stored block field and live counter of the page. -/
def fields : List Field :=
  [ ROT_EN, CAL_STEP, COVERED, HK_ADC, FAILED, ROT_LOST, BUS_SNS, FA_VIN, FB_VIN, T_DIE, T_EXT, OFFSET, GAIN, SMP_POS, SMP_AUTO, CS_RANGE, SHUNT, STALE, CLIP, ROTATION_CNT, MISMATCH_CNT, STALE_CNT, BURST_LATE_CNT, Q_OVF_CNT] ++
  [ CLIP_CNT]
/-- Interrupt bit of the page. -/ abbrev IRQ_CAL_DONE : Nat := 0
/-- Interrupt bit of the page. -/ abbrev IRQ_MISMATCH : Nat := 1
/-- Interrupt bit of the page. -/ abbrev IRQ_FAILED : Nat := 2
/-- Interrupt bit of the page. -/ abbrev IRQ_STALE : Nat := 3
/-- The defined interrupt bits of the page (R422). -/
abbrev irqBits : Nat := 0xF
end ADC

namespace BUDGET
/-- Page type of the BUDGET page (R420). -/
abbrev page : Nat := 0xF
def SELF_SHED_EN : Field := ⟨0xF, 0x40, 0, 1, 0, 1, .all 1, .rw, 0, 1⟩
def SOLAR_A : Field := ⟨0xF, 0x40, 1, 1, 0, 1, .all 1, .rw, 0, 1⟩
def SOLAR_B : Field := ⟨0xF, 0x40, 2, 1, 0, 1, .all 0, .rw, 0, 1⟩
def REV_CREDIT : Field := ⟨0xF, 0x40, 3, 1, 0, 1, .all 0, .rw, 0, 1⟩
def MARGIN : Field := ⟨0xF, 0x40, 8, 8, 0, 1, .all 5, .rw, 0, 30⟩
def ETA : Field := ⟨0xF, 0x40, 16, 8, 0, 1, .all 95, .rw, 80, 100⟩
def PA_MAX : Field := ⟨0xF, 0x44, 0, 16, 0, 1, .all 0, .rw, 0, 8000⟩
def PB_MAX : Field := ⟨0xF, 0x44, 16, 16, 0, 1, .all 0, .rw, 0, 8000⟩
def V_KNEE_LO : Field := ⟨0xF, 0x48, 0, 16, 0, 1, .all 540, .rw, 100, 630⟩
def V_KNEE_HI : Field := ⟨0xF, 0x48, 16, 16, 0, 1, .all 560, .rw, 100, 630⟩
def OVL_PCT : Field := ⟨0xF, 0x4C, 0, 8, 0, 1, .all 105, .rw, 100, 150⟩
def OVL_TICKS : Field := ⟨0xF, 0x4C, 8, 8, 0, 1, .all 4, .rw, 1, 40⟩
def SHED_EXPIRY : Field := ⟨0xF, 0x4C, 16, 16, 0, 1, .all 0, .rw, 0, 65535⟩
def READV_DELTA : Field := ⟨0xF, 0x50, 0, 8, 0, 1, .all 5, .rw, 1, 50⟩
def HEADROOM : Field := ⟨0xF, 0x50, 8, 8, 0, 1, .all 15, .rw, 0, 100⟩
def READV_MIN : Field := ⟨0xF, 0x50, 16, 16, 0, 1, .all 1000, .rw, 100, 60000⟩
def SOLAR_STEP : Field := ⟨0xF, 0x54, 0, 16, 0, 1, .all 20, .rw, 1, 500⟩
def SINK_ACCEPT : Field := ⟨0xF, 0x54, 16, 16, 0, 1, .all 0, .rw, 0, 8000⟩
def POOL_MA : Field := ⟨0xF, 0x58, 0, 13, 0, 1, .all 6000, .rw, 0, 6000⟩
def OVERLOAD : Field := ⟨0xF, 0x5C, 0, 1, 0, 1, .all 0, .ro, 0, 1⟩
def DEFICIT : Field := ⟨0xF, 0x5C, 1, 1, 0, 1, .all 0, .ro, 0, 1⟩
def HOLD : Field := ⟨0xF, 0x5C, 2, 1, 0, 1, .all 0, .ro, 0, 1⟩
def DEFAULTS : Field := ⟨0xF, 0x5C, 3, 1, 0, 1, .all 0, .ro, 0, 1⟩
def AVAIL : Field := ⟨0xF, 0x5C, 16, 16, 0, 1, .all 0, .ro, 0, 65535⟩
def P_MEAS : Field := ⟨0xF, 0x60, 0, 16, 0, 1, .all 0, .ro, 0, 65535⟩
def CAP : Field := ⟨0xF, 0x60, 16, 16, 0, 1, .all 0, .ro, 0, 65535⟩
def P_OFF : Field := ⟨0xF, 0x80, 0, 12, 4, 32, .all 0, .ro, 0, 4095⟩
def I_OFF : Field := ⟨0xF, 0x80, 16, 9, 4, 32, .all 0, .ro, 0, 511⟩
def I_SHED : Field := ⟨0xF, 0x100, 0, 13, 4, 32, .all 0, .ro, 0, 8191⟩
def P_SHED : Field := ⟨0xF, 0x100, 16, 8, 4, 32, .all 0, .ro, 0, 255⟩
def SRC : Field := ⟨0xF, 0x100, 30, 1, 4, 32, .all 0, .ro, 0, 1⟩
def VALID : Field := ⟨0xF, 0x100, 31, 1, 4, 32, .all 0, .ro, 0, 1⟩
def G_MIN : Field := ⟨0xF, 0x180, 0, 8, 4, 32, .all 15, .rw, 0, 240⟩
def SHED_RANK : Field := ⟨0xF, 0x180, 16, 8, 4, 32, .all 128, .rw, 0, 255⟩
def CLASS : Field := ⟨0xF, 0x180, 24, 2, 4, 32, .all 2, .rw, 0, 3⟩
def TICK_CNT : Field := ⟨0xF, 0x200, 0, 32, 0, 1, .all 0, .ro, 0, 0xFFFFFFFF⟩
def READV_CNT : Field := ⟨0xF, 0x204, 0, 32, 0, 1, .all 0, .ro, 0, 0xFFFFFFFF⟩
def FORCED_READV_CNT : Field := ⟨0xF, 0x208, 0, 32, 0, 1, .all 0, .ro, 0, 0xFFFFFFFF⟩
def SELF_SHED_CNT : Field := ⟨0xF, 0x20C, 0, 32, 0, 1, .all 0, .ro, 0, 0xFFFFFFFF⟩
def SHED_TO_CNT : Field := ⟨0xF, 0x210, 0, 32, 0, 1, .all 0, .ro, 0, 0xFFFFFFFF⟩
def RELEASE_CNT : Field := ⟨0xF, 0x214, 0, 32, 0, 1, .all 0, .ro, 0, 0xFFFFFFFF⟩
def DEFICIT_TICKS : Field := ⟨0xF, 0x218, 0, 32, 0, 1, .all 0, .ro, 0, 0xFFFFFFFF⟩
def OVERLOAD_TICKS : Field := ⟨0xF, 0x21C, 0, 32, 0, 1, .all 0, .ro, 0, 0xFFFFFFFF⟩
def SHED_EXPIRED_CNT : Field := ⟨0xF, 0x220, 0, 32, 0, 1, .all 0, .ro, 0, 0xFFFFFFFF⟩
/-- Every stored block field and live counter of the page. -/
def fields : List Field :=
  [ SELF_SHED_EN, SOLAR_A, SOLAR_B, REV_CREDIT, MARGIN, ETA, PA_MAX, PB_MAX, V_KNEE_LO, V_KNEE_HI, OVL_PCT, OVL_TICKS, SHED_EXPIRY, READV_DELTA, HEADROOM, READV_MIN, SOLAR_STEP, SINK_ACCEPT, POOL_MA, OVERLOAD, DEFICIT, HOLD, DEFAULTS, AVAIL] ++
  [ P_MEAS, CAP, P_OFF, I_OFF, I_SHED, P_SHED, SRC, VALID, G_MIN, SHED_RANK, CLASS, TICK_CNT, READV_CNT, FORCED_READV_CNT, SELF_SHED_CNT, SHED_TO_CNT, RELEASE_CNT, DEFICIT_TICKS, OVERLOAD_TICKS, SHED_EXPIRED_CNT]
/-- Interrupt bit of the page. -/ abbrev IRQ_OFFER_CHANGE : Nat := 0
/-- Interrupt bit of the page. -/ abbrev IRQ_DEFICIT : Nat := 1
/-- Interrupt bit of the page. -/ abbrev IRQ_OVERLOAD : Nat := 2
/-- Interrupt bit of the page. -/ abbrev IRQ_SELF_SHED : Nat := 3
/-- Interrupt bit of the page. -/ abbrev IRQ_SHED_RX : Nat := 4
/-- Interrupt bit of the page. -/ abbrev IRQ_SHED_EXPIRED : Nat := 5
/-- Interrupt bit of the page. -/ abbrev IRQ_HOLD : Nat := 6
/-- The defined interrupt bits of the page (R422). -/
abbrev irqBits : Nat := 0x7F
end BUDGET

namespace TEST
/-- Page type of the TEST page (R420). -/
abbrev page : Nat := 0x10
def KIND : Field := ⟨0x10, 0x40, 0, 4, 0, 1, .all 0, .wo, 0, 15⟩
def LAST_KIND : Field := ⟨0x10, 0x44, 0, 4, 0, 1, .all 0, .ro, 0, 15⟩
def RESULT : Field := ⟨0x10, 0x44, 16, 8, 0, 1, .all 0, .ro, 0, 255⟩
def STATE : Field := ⟨0x10, 0x44, 24, 8, 0, 1, .all 0, .ro, 0, 255⟩
def SCRUB_T : Field := ⟨0x10, 0x48, 0, 8, 0, 1, .all 4, .rw, 1, 60⟩
def USED : Field := ⟨0x10, 0x4C, 0, 8, 0, 1, .all 0, .ro, 0, 255⟩
def REMAP_FULL : Field := ⟨0x10, 0x4C, 8, 1, 0, 1, .all 0, .ro, 0, 1⟩
def ADDR : Field := ⟨0x10, 0x50, 0, 22, 0, 1, .all 0, .ro, 0, 4194303⟩
def PEND : Field := ⟨0x10, 0x54, 0, 32, 0, 1, .all 0, .ro, 0, 4294967295⟩
def SCRUB_PASS_CNT : Field := ⟨0x10, 0x200, 0, 32, 0, 1, .all 0, .ro, 0, 0xFFFFFFFF⟩
def ECC_CORR_CNT : Field := ⟨0x10, 0x204, 0, 32, 0, 1, .all 0, .ro, 0, 0xFFFFFFFF⟩
def ECC_UNCORR_CNT : Field := ⟨0x10, 0x208, 0, 32, 0, 1, .all 0, .ro, 0, 0xFFFFFFFF⟩
def REMAP_CNT : Field := ⟨0x10, 0x20C, 0, 32, 0, 1, .all 0, .ro, 0, 0xFFFFFFFF⟩
def PORT_TEST_CNT : Field := ⟨0x10, 0x210, 0, 32, 0, 1, .all 0, .ro, 0, 0xFFFFFFFF⟩
def DEFER_EXPIRED_CNT : Field := ⟨0x10, 0x214, 0, 32, 0, 1, .all 0, .ro, 0, 0xFFFFFFFF⟩
def DENIED_CNT : Field := ⟨0x10, 0x218, 0, 32, 0, 1, .all 0, .ro, 0, 0xFFFFFFFF⟩
/-- Every stored block field and live counter of the page. -/
def fields : List Field :=
  [ KIND, LAST_KIND, RESULT, STATE, SCRUB_T, USED, REMAP_FULL, ADDR, PEND, SCRUB_PASS_CNT, ECC_CORR_CNT, ECC_UNCORR_CNT, REMAP_CNT, PORT_TEST_CNT, DEFER_EXPIRED_CNT, DENIED_CNT]
/-- Interrupt bit of the page. -/ abbrev IRQ_TEST_DONE : Nat := 0
/-- Interrupt bit of the page. -/ abbrev IRQ_ECC_UNCORR : Nat := 1
/-- Interrupt bit of the page. -/ abbrev IRQ_REMAP : Nat := 2
/-- Interrupt bit of the page. -/ abbrev IRQ_DEFER_EXPIRED : Nat := 3
/-- The defined interrupt bits of the page (R422). -/
abbrev irqBits : Nat := 0xF
end TEST

namespace CHALK
/-- Page type of the CHALK page (R420). -/
abbrev page : Nat := 0x11
def WDOG_T : Field := ⟨0x11, 0x40, 0, 8, 0, 1, .all 10, .rw, 2, 100⟩
def AUTO_WIN : Field := ⟨0x11, 0x44, 16, 16, 0, 1, .all 3600, .rw, 60, 65535⟩
def FORCED : Field := ⟨0x11, 0x48, 0, 32, 0, 1, .all 0, .ro, 0, 4294967295⟩
def LAST : Field := ⟨0x11, 0x4C, 0, 8, 0, 1, .all 0, .ro, 0, 255⟩
def LOCKSTEP_ERR : Field := ⟨0x11, 0x50, 0, 1, 0, 1, .all 0, .w1c, 0, 1⟩
def FORCE_CNT : Field := ⟨0x11, 0x200, 0, 32, 0, 1, .all 0, .ro, 0, 0xFFFFFFFF⟩
def LOCKSTEP_CNT : Field := ⟨0x11, 0x204, 0, 32, 0, 1, .all 0, .ro, 0, 0xFFFFFFFF⟩
def WDOG_EXPIRY_CNT : Field := ⟨0x11, 0x208, 0, 32, 0, 1, .all 0, .ro, 0, 0xFFFFFFFF⟩
def AUTO_RETIRE_CNT : Field := ⟨0x11, 0x20C, 0, 32, 0, 1, .all 0, .ro, 0, 0xFFFFFFFF⟩
/-- Every stored block field and live counter of the page. -/
def fields : List Field :=
  [ WDOG_T, AUTO_WIN, FORCED, LAST, LOCKSTEP_ERR, FORCE_CNT, LOCKSTEP_CNT, WDOG_EXPIRY_CNT, AUTO_RETIRE_CNT]
/-- Interrupt bit of the page. -/ abbrev IRQ_FORCED : Nat := 0
/-- Interrupt bit of the page. -/ abbrev IRQ_RELEASED : Nat := 1
/-- Interrupt bit of the page. -/ abbrev IRQ_LOCKSTEP : Nat := 2
/-- Interrupt bit of the page. -/ abbrev IRQ_AUTO_RETIRE : Nat := 3
/-- The defined interrupt bits of the page (R422). -/
abbrev irqBits : Nat := 0xF
end CHALK

namespace CORE
/-- Page type of the CORE page (R420). -/
abbrev page : Nat := 0x12
def LAST_CAUSE : Field := ⟨0x12, 0x80, 0, 8, 4, 12, .all 0, .ro, 0, 255⟩
def RESTARTS : Field := ⟨0x12, 0x80, 8, 8, 4, 12, .all 0, .ro, 0, 255⟩
def HB_AGE : Field := ⟨0x12, 0x80, 16, 8, 4, 12, .all 0, .ro, 0, 255⟩
def STATE : Field := ⟨0x12, 0x80, 24, 8, 4, 12, .all 0, .ro, 0, 255⟩
def PORTS : Field := ⟨0x12, 0x100, 0, 32, 4, 8, .tab [15, 240, 3840, 61440, 983040, 15728640, 251658240, 4026531840], .ro, 0, 4294967295⟩
def CORE_RESET_CNT : Field := ⟨0x12, 0x200, 0, 32, 0, 1, .all 0, .ro, 0, 0xFFFFFFFF⟩
def HB_LOSS_CNT : Field := ⟨0x12, 0x204, 0, 32, 0, 1, .all 0, .ro, 0, 0xFFFFFFFF⟩
def BUDDY_CNT : Field := ⟨0x12, 0x208, 0, 32, 0, 1, .all 0, .ro, 0, 0xFFFFFFFF⟩
/-- Every stored block field and live counter of the page. -/
def fields : List Field :=
  [ LAST_CAUSE, RESTARTS, HB_AGE, STATE, PORTS, CORE_RESET_CNT, HB_LOSS_CNT, BUDDY_CNT]
/-- The defined interrupt bits of the page (R422). -/
abbrev irqBits : Nat := 0x0
end CORE

namespace IRQ
/-- Page type of the IRQ page (R420). -/
abbrev page : Nat := 0x13
def SYS_MASK : Field := ⟨0x13, 0x60, 0, 32, 0, 1, .all 3670015, .rw, 0, 4294967295⟩
def CC_MASK : Field := ⟨0x13, 0x64, 0, 32, 0, 1, .all 4294967295, .rw, 0, 4294967295⟩
def PD_MASK : Field := ⟨0x13, 0x68, 0, 32, 0, 1, .all 4294967295, .rw, 0, 4294967295⟩
def LOOP_MASK : Field := ⟨0x13, 0x6C, 0, 32, 0, 1, .all 4294967295, .rw, 0, 4294967295⟩
def GUARD_MASK : Field := ⟨0x13, 0x70, 0, 32, 0, 1, .all 4294967295, .rw, 0, 4294967295⟩
/-- Every stored block field and live counter of the page. -/
def fields : List Field :=
  [ SYS_MASK, CC_MASK, PD_MASK, LOOP_MASK, GUARD_MASK]
/-- The defined interrupt bits of the page (R422). -/
abbrev irqBits : Nat := 0x0
end IRQ

namespace MARL
/-- Page type of the MARL page (R420). -/
abbrev page : Nat := 0x14
def FALLBACK_EN : Field := ⟨0x14, 0x40, 0, 1, 0, 1, .all 1, .rw, 0, 1⟩
def RESTORE_AUTO : Field := ⟨0x14, 0x40, 1, 1, 0, 1, .all 1, .rw, 0, 1⟩
def ENG0_STATE : Field := ⟨0x14, 0x44, 0, 2, 0, 1, .all 0, .ro, 0, 3⟩
def ENG1_STATE : Field := ⟨0x14, 0x44, 2, 2, 0, 1, .all 0, .ro, 0, 3⟩
def CARRIER_LO : Field := ⟨0x14, 0x44, 4, 1, 0, 1, .all 0, .ro, 0, 1⟩
def CARRIER_HI : Field := ⟨0x14, 0x44, 5, 1, 0, 1, .all 1, .ro, 0, 1⟩
def SINGLE : Field := ⟨0x14, 0x44, 6, 1, 0, 1, .all 0, .ro, 0, 1⟩
def ENG0_LOAD : Field := ⟨0x14, 0x48, 0, 16, 0, 1, .all 0, .ro, 0, 65535⟩
def ENG1_LOAD : Field := ⟨0x14, 0x48, 16, 16, 0, 1, .all 0, .ro, 0, 65535⟩
def BUS_MAX : Field := ⟨0x14, 0x4C, 0, 16, 0, 1, .all 60000, .rw, 0, 65535⟩
def PEND : Field := ⟨0x14, 0x50, 0, 32, 0, 1, .all 0, .ro, 0, 4294967295⟩
def FAULT : Field := ⟨0x14, 0x54, 0, 32, 0, 1, .all 0, .ro, 0, 4294967295⟩
def REPAIRED : Field := ⟨0x14, 0x58, 0, 32, 0, 1, .all 0, .w1c, 0, 4294967295⟩
def FALLBACK_CNT : Field := ⟨0x14, 0x200, 0, 32, 0, 1, .all 0, .ro, 0, 0xFFFFFFFF⟩
def DEADLINE_MISS_CNT : Field := ⟨0x14, 0x204, 0, 32, 0, 1, .all 0, .ro, 0, 0xFFFFFFFF⟩
def TBL_REPAIR_CNT : Field := ⟨0x14, 0x208, 0, 32, 0, 1, .all 0, .ro, 0, 0xFFFFFFFF⟩
def TBL_FAULT_CNT : Field := ⟨0x14, 0x20C, 0, 32, 0, 1, .all 0, .ro, 0, 0xFFFFFFFF⟩
def RESTORE_CNT : Field := ⟨0x14, 0x210, 0, 32, 0, 1, .all 0, .ro, 0, 0xFFFFFFFF⟩
/-- Every stored block field and live counter of the page. -/
def fields : List Field :=
  [ FALLBACK_EN, RESTORE_AUTO, ENG0_STATE, ENG1_STATE, CARRIER_LO, CARRIER_HI, SINGLE, ENG0_LOAD, ENG1_LOAD, BUS_MAX, PEND, FAULT, REPAIRED, FALLBACK_CNT, DEADLINE_MISS_CNT, TBL_REPAIR_CNT, TBL_FAULT_CNT, RESTORE_CNT]
/-- Interrupt bit of the page. -/ abbrev IRQ_FALLBACK : Nat := 0
/-- Interrupt bit of the page. -/ abbrev IRQ_RESTORED : Nat := 1
/-- Interrupt bit of the page. -/ abbrev IRQ_DEADLINE_MISS : Nat := 2
/-- Interrupt bit of the page. -/ abbrev IRQ_TBL_REPAIR : Nat := 3
/-- Interrupt bit of the page. -/ abbrev IRQ_TBL_FAULT : Nat := 4
/-- The defined interrupt bits of the page (R422). -/
abbrev irqBits : Nat := 0x1F
end MARL

namespace PWM
/-- Page type of the PWM page (R420). -/
abbrev page : Nat := 0x15
def HYST : Field := ⟨0x15, 0x40, 8, 8, 0, 1, .all 5, .rw, 1, 16⟩
def DB_MIN : Field := ⟨0x15, 0x40, 16, 8, 0, 1, .all 26, .rw, 6, 64⟩
def DA_MAX : Field := ⟨0x15, 0x40, 24, 8, 0, 1, .all 230, .rw, 192, 250⟩
def T_MIN : Field := ⟨0x15, 0x44, 0, 8, 0, 1, .all 8, .rw, 4, 80⟩
def T_REF : Field := ⟨0x15, 0x44, 8, 8, 0, 1, .all 16, .rw, 4, 80⟩
def DRV_SETUP : Field := ⟨0x15, 0x48, 0, 8, 0, 1, .all 10, .rw, 1, 255⟩
def DRV_EN : Field := ⟨0x15, 0x4C, 0, 4, 0, 1, .all 0, .ro, 0, 15⟩
def PHASE : Field := ⟨0x15, 0x80, 8, 8, 4, 32, .lin 0 8, .rw, 0, 255⟩
def PERIOD : Field := ⟨0x15, 0x80, 16, 12, 4, 32, .all 1000, .rw, 400, 4000⟩
def B_HELD : Field := ⟨0x15, 0x100, 4, 1, 4, 32, .all 0, .ro, 0, 1⟩
def A_HELD : Field := ⟨0x15, 0x100, 5, 1, 4, 32, .all 0, .ro, 0, 1⟩
def REGION : Field := ⟨0x15, 0x100, 6, 2, 4, 32, .all 3, .ro, 0, 3⟩
def HELD_SUBST_CNT : Field := ⟨0x15, 0x200, 0, 32, 0, 1, .all 0, .ro, 0, 0xFFFFFFFF⟩
def REGION_CHANGE_CNT : Field := ⟨0x15, 0x204, 0, 32, 0, 1, .all 0, .ro, 0, 0xFFFFFFFF⟩
def PHASE_CHANGE_CNT : Field := ⟨0x15, 0x208, 0, 32, 0, 1, .all 0, .ro, 0, 0xFFFFFFFF⟩
def DRV_EN_RISE_CNT : Field := ⟨0x15, 0x20C, 0, 32, 0, 1, .all 0, .ro, 0, 0xFFFFFFFF⟩
/-- Every stored block field and live counter of the page. -/
def fields : List Field :=
  [ HYST, DB_MIN, DA_MAX, T_MIN, T_REF, DRV_SETUP, DRV_EN, PHASE, PERIOD, B_HELD, A_HELD, REGION, HELD_SUBST_CNT, REGION_CHANGE_CNT, PHASE_CHANGE_CNT, DRV_EN_RISE_CNT]
/-- Interrupt bit of the page. -/ abbrev IRQ_DRV_CHANGE : Nat := 0
/-- Interrupt bit of the page. -/ abbrev IRQ_PERIOD_DENIED : Nat := 1
/-- The defined interrupt bits of the page (R422). -/
abbrev irqBits : Nat := 0x3
end PWM

end Sys2Proof.Machine
end

