-- ==== Sys2Proof/Machine/RegMapP.lean ====
section
/-! DEFINITION. The register fields of the port pages, as the field tables of spec/ give them: page
type, byte offset, low bit, width, stride and count of an array, reset value, access and legal range (R420 to
R428 and each page's own rule).  A field whose value the spec derives from other state (an interrupt summary, a
ring's occupancy) is no stored field: Machine/Words.lean computes it when it is read. -/

namespace Sys2Proof.Machine

namespace CC
/-- Page type of the CC page (R420). -/
abbrev page : Nat := 0x100
def ROLE : Field := ⟨0x100, 0x40, 0, 2, 0, 1, .all 0, .rw, 0, 3⟩
def TRY : Field := ⟨0x100, 0x40, 4, 2, 0, 1, .all 0, .rw, 0, 2⟩
def RP_SEL : Field := ⟨0x100, 0x40, 6, 2, 0, 1, .all 2, .rw, 0, 2⟩
def CABLE_DISC_EN : Field := ⟨0x100, 0x40, 9, 1, 0, 1, .all 1, .rw, 0, 1⟩
def VCONN_ALLOW : Field := ⟨0x100, 0x40, 10, 1, 0, 1, .all 1, .rw, 0, 1⟩
def SAFE_RD : Field := ⟨0x100, 0x40, 11, 1, 0, 1, .all 0, .ro, 0, 1⟩
def DC_SRC : Field := ⟨0x100, 0x44, 0, 8, 0, 1, .all 50, .rw, 30, 70⟩
def T_DRP : Field := ⟨0x100, 0x44, 8, 8, 0, 1, .all 75, .rw, 50, 100⟩
def T_PDDEB : Field := ⟨0x100, 0x44, 16, 8, 0, 1, .all 12, .rw, 10, 20⟩
def T_CCDEB : Field := ⟨0x100, 0x44, 24, 8, 0, 1, .all 120, .rw, 100, 200⟩
def T_TRYTIMEOUT : Field := ⟨0x100, 0x48, 0, 16, 0, 1, .all 800, .rw, 550, 1100⟩
def T_TRYCCDEB : Field := ⟨0x100, 0x48, 16, 8, 0, 1, .all 15, .rw, 10, 20⟩
def T_DRPTRY : Field := ⟨0x100, 0x48, 24, 8, 0, 1, .all 110, .rw, 75, 150⟩
def T_ERRREC : Field := ⟨0x100, 0x4C, 0, 16, 0, 1, .all 30, .rw, 25, 1000⟩
def T_DRPTRYWAIT : Field := ⟨0x100, 0x4C, 16, 16, 0, 1, .all 600, .rw, 400, 800⟩
def PWR_ROLE : Field := ⟨0x100, 0x50, 0, 2, 0, 1, .all 0, .ro, 0, 3⟩
def ATTACHED : Field := ⟨0x100, 0x50, 2, 1, 0, 1, .all 0, .ro, 0, 1⟩
def ORIENT : Field := ⟨0x100, 0x50, 3, 1, 0, 1, .all 0, .ro, 0, 1⟩
def VCONN_PIN : Field := ⟨0x100, 0x50, 4, 1, 0, 1, .all 0, .ro, 0, 1⟩
def VCONN_ON : Field := ⟨0x100, 0x50, 5, 1, 0, 1, .all 0, .ro, 0, 1⟩
def CC_OPEN_Q : Field := ⟨0x100, 0x50, 6, 1, 0, 1, .all 0, .ro, 0, 1⟩
def CC1_LVL : Field := ⟨0x100, 0x50, 7, 3, 0, 1, .all 0, .ro, 0, 7⟩
def CC2_LVL : Field := ⟨0x100, 0x50, 10, 3, 0, 1, .all 0, .ro, 0, 7⟩
def TC_STATE : Field := ⟨0x100, 0x50, 24, 8, 0, 1, .all 13, .ro, 0, 255⟩
def DISC_STATE : Field := ⟨0x100, 0x54, 4, 2, 0, 1, .all 0, .ro, 0, 3⟩
def ACTIVE : Field := ⟨0x100, 0x54, 6, 1, 0, 1, .all 0, .ro, 0, 1⟩
def CABLE_IMAX : Field := ⟨0x100, 0x54, 7, 2, 0, 1, .all 0, .ro, 0, 3⟩
def CABLE_VMAX : Field := ⟨0x100, 0x54, 9, 2, 0, 1, .all 0, .ro, 0, 3⟩
def EPR_CABLE : Field := ⟨0x100, 0x54, 11, 1, 0, 1, .all 0, .ro, 0, 1⟩
def DISC_COUNT : Field := ⟨0x100, 0x54, 24, 8, 0, 1, .all 0, .ro, 0, 255⟩
def VCONN_FORCE_OFF : Field := ⟨0x100, 0x58, 0, 1, 0, 1, .all 0, .rw, 0, 1⟩
def VCONN_RES : Field := ⟨0x100, 0x58, 8, 8, 0, 1, .all 0, .ro, 0, 255⟩
def VCONN_MA : Field := ⟨0x100, 0x5C, 0, 12, 0, 1, .all 0, .ro, 0, 4095⟩
def CC_OVP : Field := ⟨0x100, 0x60, 0, 1, 0, 1, .all 0, .w1c, 0, 1⟩
def VCONN_OCP : Field := ⟨0x100, 0x60, 1, 1, 0, 1, .all 0, .w1c, 0, 1⟩
def VCONN_REV : Field := ⟨0x100, 0x60, 2, 1, 0, 1, .all 0, .w1c, 0, 1⟩
def VCONN_DENIED : Field := ⟨0x100, 0x60, 3, 1, 0, 1, .all 0, .w1c, 0, 1⟩
def ATTACH_CNT : Field := ⟨0x100, 0x200, 0, 32, 0, 1, .all 0, .ro, 0, 0xFFFFFFFF⟩
def DETACH_CNT : Field := ⟨0x100, 0x204, 0, 32, 0, 1, .all 0, .ro, 0, 0xFFFFFFFF⟩
def FAST_DETACH_CNT : Field := ⟨0x100, 0x208, 0, 32, 0, 1, .all 0, .ro, 0, 0xFFFFFFFF⟩
def CC_GLITCH_CNT : Field := ⟨0x100, 0x20C, 0, 32, 0, 1, .all 0, .ro, 0, 0xFFFFFFFF⟩
def VCONN_OCP_CNT : Field := ⟨0x100, 0x210, 0, 32, 0, 1, .all 0, .ro, 0, 0xFFFFFFFF⟩
def VCONN_DENIED_CNT : Field := ⟨0x100, 0x214, 0, 32, 0, 1, .all 0, .ro, 0, 0xFFFFFFFF⟩
def CC_OVP_CNT : Field := ⟨0x100, 0x218, 0, 32, 0, 1, .all 0, .ro, 0, 0xFFFFFFFF⟩
def CABLE_NOANS_CNT : Field := ⟨0x100, 0x21C, 0, 32, 0, 1, .all 0, .ro, 0, 0xFFFFFFFF⟩
/-- Every stored block field and live counter of the page. -/
def fields : List Field :=
  [ ROLE, TRY, RP_SEL, CABLE_DISC_EN, VCONN_ALLOW, SAFE_RD, DC_SRC, T_DRP, T_PDDEB, T_CCDEB, T_TRYTIMEOUT, T_TRYCCDEB, T_DRPTRY, T_ERRREC, T_DRPTRYWAIT, PWR_ROLE, ATTACHED, ORIENT, VCONN_PIN, VCONN_ON, CC_OPEN_Q, CC1_LVL, CC2_LVL, TC_STATE] ++
  [ DISC_STATE, ACTIVE, CABLE_IMAX, CABLE_VMAX, EPR_CABLE, DISC_COUNT, VCONN_FORCE_OFF, VCONN_RES, VCONN_MA, CC_OVP, VCONN_OCP, VCONN_REV, VCONN_DENIED, ATTACH_CNT, DETACH_CNT, FAST_DETACH_CNT, CC_GLITCH_CNT, VCONN_OCP_CNT, VCONN_DENIED_CNT, CC_OVP_CNT, CABLE_NOANS_CNT]
/-- Interrupt bit of the page. -/ abbrev IRQ_ATTACH : Nat := 0
/-- Interrupt bit of the page. -/ abbrev IRQ_DETACH : Nat := 1
/-- Interrupt bit of the page. -/ abbrev IRQ_CC_OPEN_Q : Nat := 2
/-- Interrupt bit of the page. -/ abbrev IRQ_RP_CHANGE : Nat := 3
/-- Interrupt bit of the page. -/ abbrev IRQ_CABLE_DONE : Nat := 4
/-- Interrupt bit of the page. -/ abbrev IRQ_VCONN_FAULT : Nat := 5
/-- Interrupt bit of the page. -/ abbrev IRQ_CC_OVP : Nat := 6
/-- The defined interrupt bits of the page (R422). -/
abbrev irqBits : Nat := 0x7F
end CC

namespace PD
/-- Page type of the PD page (R420). -/
abbrev page : Nat := 0x101
def PD_EN : Field := ⟨0x101, 0x40, 0, 1, 0, 1, .all 1, .rw, 0, 1⟩
def SOPPP_EN : Field := ⟨0x101, 0x40, 4, 1, 0, 1, .all 1, .rw, 0, 1⟩
def UNCHUNKED_EN : Field := ⟨0x101, 0x40, 5, 1, 0, 1, .all 1, .rw, 0, 1⟩
def MAX_REV : Field := ⟨0x101, 0x40, 6, 2, 0, 1, .all 2, .rw, 1, 2⟩
def SHADOW : Field := ⟨0x101, 0x44, 8, 1, 0, 1, .all 0, .ro, 0, 1⟩
def HDR_PWR_ROLE : Field := ⟨0x101, 0x44, 9, 1, 0, 1, .all 0, .ro, 0, 1⟩
def HDR_DATA_ROLE : Field := ⟨0x101, 0x44, 10, 1, 0, 1, .all 0, .ro, 0, 1⟩
def VCONN_SRC : Field := ⟨0x101, 0x44, 11, 1, 0, 1, .all 0, .ro, 0, 1⟩
def RP_TXNG : Field := ⟨0x101, 0x44, 12, 1, 0, 1, .all 0, .ro, 0, 1⟩
def AMS_ACTIVE : Field := ⟨0x101, 0x44, 13, 1, 0, 1, .all 0, .ro, 0, 1⟩
def CONTRACT : Field := ⟨0x101, 0x44, 14, 2, 0, 1, .all 0, .ro, 0, 3⟩
def EPR_MODE : Field := ⟨0x101, 0x44, 16, 1, 0, 1, .all 0, .ro, 0, 1⟩
def UNCHUNKED : Field := ⟨0x101, 0x44, 17, 1, 0, 1, .all 0, .ro, 0, 1⟩
def NEG_REV : Field := ⟨0x101, 0x44, 18, 2, 0, 1, .all 0, .ro, 0, 3⟩
def PD_STATE : Field := ⟨0x101, 0x44, 24, 8, 0, 1, .all 0, .ro, 0, 255⟩
def TX_SOP : Field := ⟨0x101, 0x48, 0, 3, 0, 1, .all 0, .ro, 0, 7⟩
def TX_SOPP : Field := ⟨0x101, 0x48, 3, 3, 0, 1, .all 0, .ro, 0, 7⟩
def TX_SOPPP : Field := ⟨0x101, 0x48, 6, 3, 0, 1, .all 0, .ro, 0, 7⟩
def RX_SOP : Field := ⟨0x101, 0x48, 12, 3, 0, 1, .all 0, .ro, 0, 7⟩
def RX_SOP_VLD : Field := ⟨0x101, 0x48, 15, 1, 0, 1, .all 0, .ro, 0, 1⟩
def RX_SOPP : Field := ⟨0x101, 0x48, 16, 3, 0, 1, .all 0, .ro, 0, 7⟩
def RX_SOPP_VLD : Field := ⟨0x101, 0x48, 19, 1, 0, 1, .all 0, .ro, 0, 1⟩
def RX_SOPPP : Field := ⟨0x101, 0x48, 20, 3, 0, 1, .all 0, .ro, 0, 7⟩
def RX_SOPPP_VLD : Field := ⟨0x101, 0x48, 23, 1, 0, 1, .all 0, .ro, 0, 1⟩
def T_SINKTX : Field := ⟨0x101, 0x4C, 0, 8, 0, 1, .all 18, .rw, 16, 20⟩
def TX_RESULT : Field := ⟨0x101, 0x54, 0, 4, 0, 1, .all 0, .ro, 0, 15⟩
def LAST_KIND : Field := ⟨0x101, 0x54, 4, 4, 0, 1, .all 0, .ro, 0, 15⟩
def RETRIES : Field := ⟨0x101, 0x54, 8, 3, 0, 1, .all 0, .ro, 0, 7⟩
def REV : Field := ⟨0x101, 0x58, 4, 2, 0, 1, .all 0, .ro, 0, 3⟩
def UNCHUNKED_CAP : Field := ⟨0x101, 0x58, 6, 1, 0, 1, .all 0, .ro, 0, 1⟩
def EPR_CAP : Field := ⟨0x101, 0x58, 7, 1, 0, 1, .all 0, .ro, 0, 1⟩
def FRS_CURRENT : Field := ⟨0x101, 0x58, 8, 2, 0, 1, .all 0, .ro, 0, 3⟩
def FRS_DETECT_EN : Field := ⟨0x101, 0x5C, 0, 1, 0, 1, .all 1, .rw, 0, 1⟩
def FRS_SIGNAL_EN : Field := ⟨0x101, 0x5C, 1, 1, 0, 1, .all 1, .rw, 0, 1⟩
def SOFT_RESET : Field := ⟨0x101, 0x60, 0, 1, 0, 1, .all 0, .wo, 0, 1⟩
def HARD_RESET : Field := ⟨0x101, 0x60, 1, 1, 0, 1, .all 0, .wo, 0, 1⟩
def CABLE_RESET : Field := ⟨0x101, 0x60, 2, 1, 0, 1, .all 0, .wo, 0, 1⟩
def RX_MSG_CNT : Field := ⟨0x101, 0x200, 0, 32, 0, 1, .all 0, .ro, 0, 0xFFFFFFFF⟩
def TX_MSG_CNT : Field := ⟨0x101, 0x204, 0, 32, 0, 1, .all 0, .ro, 0, 0xFFFFFFFF⟩
def RX_CRC_ERR_CNT : Field := ⟨0x101, 0x208, 0, 32, 0, 1, .all 0, .ro, 0, 0xFFFFFFFF⟩
def RX_DUP_CNT : Field := ⟨0x101, 0x20C, 0, 32, 0, 1, .all 0, .ro, 0, 0xFFFFFFFF⟩
def RX_OVF_CNT : Field := ⟨0x101, 0x210, 0, 32, 0, 1, .all 0, .ro, 0, 0xFFFFFFFF⟩
def TX_RETRY_CNT : Field := ⟨0x101, 0x214, 0, 32, 0, 1, .all 0, .ro, 0, 0xFFFFFFFF⟩
def TX_FAIL_CNT : Field := ⟨0x101, 0x218, 0, 32, 0, 1, .all 0, .ro, 0, 0xFFFFFFFF⟩
def TX_DISCARD_CNT : Field := ⟨0x101, 0x21C, 0, 32, 0, 1, .all 0, .ro, 0, 0xFFFFFFFF⟩
def SOFT_RESET_CNT : Field := ⟨0x101, 0x220, 0, 32, 0, 1, .all 0, .ro, 0, 0xFFFFFFFF⟩
def HARD_RESET_TX_CNT : Field := ⟨0x101, 0x224, 0, 32, 0, 1, .all 0, .ro, 0, 0xFFFFFFFF⟩
def HARD_RESET_RX_CNT : Field := ⟨0x101, 0x228, 0, 32, 0, 1, .all 0, .ro, 0, 0xFFFFFFFF⟩
def CABLE_RESET_TX_CNT : Field := ⟨0x101, 0x22C, 0, 32, 0, 1, .all 0, .ro, 0, 0xFFFFFFFF⟩
def NOT_SUPPORTED_CNT : Field := ⟨0x101, 0x230, 0, 32, 0, 1, .all 0, .ro, 0, 0xFFFFFFFF⟩
def CHUNK_ABORT_CNT : Field := ⟨0x101, 0x234, 0, 32, 0, 1, .all 0, .ro, 0, 0xFFFFFFFF⟩
def RESYNC_CNT : Field := ⟨0x101, 0x238, 0, 32, 0, 1, .all 0, .ro, 0, 0xFFFFFFFF⟩
/-- Every stored block field and live counter of the page. -/
def fields : List Field :=
  [ PD_EN, SOPPP_EN, UNCHUNKED_EN, MAX_REV, SHADOW, HDR_PWR_ROLE, HDR_DATA_ROLE, VCONN_SRC, RP_TXNG, AMS_ACTIVE, CONTRACT, EPR_MODE, UNCHUNKED, NEG_REV, PD_STATE, TX_SOP, TX_SOPP, TX_SOPPP, RX_SOP, RX_SOP_VLD, RX_SOPP, RX_SOPP_VLD, RX_SOPPP, RX_SOPPP_VLD] ++
  [ T_SINKTX, TX_RESULT, LAST_KIND, RETRIES, REV, UNCHUNKED_CAP, EPR_CAP, FRS_CURRENT, FRS_DETECT_EN, FRS_SIGNAL_EN, SOFT_RESET, HARD_RESET, CABLE_RESET, RX_MSG_CNT, TX_MSG_CNT, RX_CRC_ERR_CNT, RX_DUP_CNT, RX_OVF_CNT, TX_RETRY_CNT, TX_FAIL_CNT, TX_DISCARD_CNT, SOFT_RESET_CNT, HARD_RESET_TX_CNT, HARD_RESET_RX_CNT] ++
  [ CABLE_RESET_TX_CNT, NOT_SUPPORTED_CNT, CHUNK_ABORT_CNT, RESYNC_CNT]
/-- Interrupt bit of the page. -/ abbrev IRQ_MSG_RX : Nat := 0
/-- Interrupt bit of the page. -/ abbrev IRQ_TX_DONE : Nat := 1
/-- Interrupt bit of the page. -/ abbrev IRQ_TX_FAIL : Nat := 2
/-- Interrupt bit of the page. -/ abbrev IRQ_SOFT_RESET : Nat := 3
/-- Interrupt bit of the page. -/ abbrev IRQ_HARD_RESET : Nat := 4
/-- Interrupt bit of the page. -/ abbrev IRQ_CONTRACT : Nat := 5
/-- Interrupt bit of the page. -/ abbrev IRQ_RX_OVF : Nat := 6
/-- Interrupt bit of the page. -/ abbrev IRQ_CHUNK_ABORT : Nat := 7
/-- Interrupt bit of the page. -/ abbrev IRQ_NOT_SUPPORTED : Nat := 8
/-- The defined interrupt bits of the page (R422). -/
abbrev irqBits : Nat := 0x1FF
end PD

namespace LOOP
/-- Page type of the LOOP page (R420). -/
abbrev page : Nat := 0x102
def MODE : Field := ⟨0x102, 0x40, 0, 3, 0, 1, .all 0, .rw, 0, 7⟩
def SET_FORCE : Field := ⟨0x102, 0x40, 4, 2, 0, 1, .all 0, .rw, 0, 2⟩
def FF_EN : Field := ⟨0x102, 0x40, 6, 1, 0, 1, .all 1, .rw, 0, 1⟩
def CDC_EN : Field := ⟨0x102, 0x40, 7, 1, 0, 1, .all 0, .rw, 0, 1⟩
def V_TARGET : Field := ⟨0x102, 0x44, 0, 16, 0, 1, .all 0, .rw, 0, 50000⟩
def V_FLOOR : Field := ⟨0x102, 0x44, 16, 16, 0, 1, .all 0, .rw, 0, 65535⟩
def I_FWD_LIM : Field := ⟨0x102, 0x48, 0, 16, 0, 1, .all 0, .rw, 0, 6000⟩
def I_REV_LIM : Field := ⟨0x102, 0x48, 16, 16, 0, 1, .all 0, .rw, 0, 6000⟩
def P_LIM : Field := ⟨0x102, 0x4C, 0, 12, 0, 1, .all 0, .rw, 0, 4095⟩
def SLEW : Field := ⟨0x102, 0x50, 0, 8, 0, 1, .all 10, .rw, 1, 30⟩
def I_STEP : Field := ⟨0x102, 0x50, 8, 8, 0, 1, .all 5, .rw, 1, 255⟩
def CDC_MAX : Field := ⟨0x102, 0x54, 0, 16, 0, 1, .all 0, .rw, 0, 65535⟩
def V_ISL : Field := ⟨0x102, 0x58, 0, 10, 0, 1, .all 500, .rw, 0, 1023⟩
def P_CON : Field := ⟨0x102, 0x58, 12, 12, 0, 1, .all 0, .rw, 0, 4095⟩
def DROOP_PCT : Field := ⟨0x102, 0x58, 24, 8, 0, 1, .all 4, .rw, 0, 255⟩
def I_CEIL : Field := ⟨0x102, 0x5C, 0, 13, 0, 1, .all 6000, .rw, 0, 6000⟩
def P_CEIL : Field := ⟨0x102, 0x5C, 20, 12, 0, 1, .all 0, .rw, 0, 4095⟩
def DLOG : Field := ⟨0x102, 0x60, 0, 4, 0, 1, .all 0, .ro, 0, 15⟩
def N : Field := ⟨0x102, 0x60, 4, 4, 0, 1, .all 1, .ro, 0, 15⟩
def ENGINE : Field := ⟨0x102, 0x60, 8, 1, 0, 1, .div 16, .ro, 0, 1⟩
def SET_IN_USE : Field := ⟨0x102, 0x60, 9, 1, 0, 1, .all 0, .ro, 0, 1⟩
def RAMPING : Field := ⟨0x102, 0x60, 10, 1, 0, 1, .all 0, .ro, 0, 1⟩
def FROZEN : Field := ⟨0x102, 0x60, 11, 1, 0, 1, .all 0, .ro, 0, 1⟩
def LAW : Field := ⟨0x102, 0x60, 12, 4, 0, 1, .all 0, .ro, 0, 15⟩
def HALT_CAUSE : Field := ⟨0x102, 0x60, 24, 8, 0, 1, .all 1, .ro, 0, 255⟩
def V_SP : Field := ⟨0x102, 0x64, 0, 16, 0, 1, .all 0, .ro, 0, 65535⟩
def V_SP_EFF : Field := ⟨0x102, 0x64, 16, 16, 0, 1, .all 0, .ro, 0, 65535⟩
def I_AVG : Field := ⟨0x102, 0x68, 0, 16, 0, 1, .all 0, .ro, 0, 65535⟩
def I_SET : Field := ⟨0x102, 0x68, 16, 16, 0, 1, .all 0, .ro, 0, 65535⟩
def D : Field := ⟨0x102, 0x6C, 0, 32, 0, 1, .all 0, .ro, 0, 4294967295⟩
def VBUS : Field := ⟨0x102, 0x70, 0, 16, 0, 1, .all 0, .ro, 0, 65535⟩
def VCONV : Field := ⟨0x102, 0x70, 16, 16, 0, 1, .all 0, .ro, 0, 65535⟩
def SAT_ACC : Field := ⟨0x102, 0x74, 0, 1, 0, 1, .all 0, .w1c, 0, 1⟩
def SAT_INNER : Field := ⟨0x102, 0x74, 1, 1, 0, 1, .all 0, .w1c, 0, 1⟩
def SAT_OUTER : Field := ⟨0x102, 0x74, 2, 1, 0, 1, .all 0, .w1c, 0, 1⟩
def SAT_DUTY : Field := ⟨0x102, 0x74, 3, 1, 0, 1, .all 0, .w1c, 0, 1⟩
def PENDING : Field := ⟨0x102, 0x78, 0, 1, 0, 1, .all 0, .ro, 0, 1⟩
def VALID : Field := ⟨0x102, 0x78, 1, 1, 0, 1, .all 0, .ro, 0, 1⟩
def LAST_REJECT : Field := ⟨0x102, 0x78, 8, 8, 0, 1, .all 0, .ro, 0, 255⟩
def ACTIVE_SEQ : Field := ⟨0x102, 0x78, 16, 16, 0, 1, .all 0, .ro, 0, 65535⟩
def MODEL_EN : Field := ⟨0x102, 0x80, 0, 1, 0, 1, .all 1, .rw, 0, 1⟩
def LEARN_EN : Field := ⟨0x102, 0x80, 1, 1, 0, 1, .all 1, .rw, 0, 1⟩
def PROBE_EN : Field := ⟨0x102, 0x80, 2, 1, 0, 1, .all 1, .rw, 0, 1⟩
def CAB_CAPTIVE : Field := ⟨0x102, 0x80, 3, 1, 0, 1, .all 0, .rw, 0, 1⟩
def ACT_C : Field := ⟨0x102, 0x80, 4, 2, 0, 1, .all 2, .rw, 0, 2⟩
def ACT_P : Field := ⟨0x102, 0x80, 6, 2, 0, 1, .all 1, .rw, 0, 2⟩
def WLOG : Field := ⟨0x102, 0x80, 8, 4, 0, 1, .all 11, .rw, 8, 14⟩
def I_FOLD : Field := ⟨0x102, 0x80, 16, 8, 0, 1, .all 60, .rw, 10, 100⟩
def R_CONV : Field := ⟨0x102, 0x84, 0, 16, 0, 1, .all 200, .rw, 0, 2000⟩
def L_CONV : Field := ⟨0x102, 0x84, 16, 16, 0, 1, .all 100, .rw, 10, 1000⟩
def TH_P_REL : Field := ⟨0x102, 0x88, 0, 8, 0, 1, .all 5, .rw, 0, 50⟩
def TH_P_ABS : Field := ⟨0x102, 0x88, 8, 8, 0, 1, .all 10, .rw, 5, 100⟩
def TH_C_REL : Field := ⟨0x102, 0x88, 16, 8, 0, 1, .all 10, .rw, 0, 50⟩
def TH_C_ABS : Field := ⟨0x102, 0x88, 24, 8, 0, 1, .all 15, .rw, 5, 100⟩
def R_INT_MAX : Field := ⟨0x102, 0x8C, 0, 16, 0, 1, .all 300, .rw, 50, 2000⟩
def R_EXT_WARN : Field := ⟨0x102, 0x90, 0, 16, 0, 1, .all 1500, .rw, 100, 10000⟩
def R_EXT_FAULT : Field := ⟨0x102, 0x90, 16, 16, 0, 1, .all 3000, .rw, 0, 10000⟩
def V_OFS : Field := ⟨0x102, 0x94, 0, 16, 0, 1, .all 0, .ro, 0, 65535⟩
def R_INT : Field := ⟨0x102, 0x94, 16, 16, 0, 1, .all 0, .ro, 0, 65535⟩
def R_EXT : Field := ⟨0x102, 0x98, 0, 16, 0, 1, .all 0, .rw, 0, 65535⟩
def R_EST : Field := ⟨0x102, 0x98, 16, 16, 0, 1, .all 0, .ro, 0, 65535⟩
def F_P : Field := ⟨0x102, 0x9C, 0, 16, 0, 1, .all 0, .ro, 0, 65535⟩
def F_C : Field := ⟨0x102, 0x9C, 16, 16, 0, 1, .all 0, .ro, 0, 65535⟩
def ALARM_C : Field := ⟨0x102, 0xA0, 0, 1, 0, 1, .all 0, .ro, 0, 1⟩
def ALARM_P : Field := ⟨0x102, 0xA0, 1, 1, 0, 1, .all 0, .ro, 0, 1⟩
def FOLD : Field := ⟨0x102, 0xA0, 2, 1, 0, 1, .all 0, .ro, 0, 1⟩
def SENSE_FLT : Field := ⟨0x102, 0xA0, 3, 1, 0, 1, .all 0, .ro, 0, 1⟩
def PATH_HIGH : Field := ⟨0x102, 0xA0, 4, 1, 0, 1, .all 0, .ro, 0, 1⟩
def CAB_WARN : Field := ⟨0x102, 0xA0, 5, 1, 0, 1, .all 0, .ro, 0, 1⟩
def CAB_FAULT : Field := ⟨0x102, 0xA0, 6, 1, 0, 1, .all 0, .ro, 0, 1⟩
def LEARNING : Field := ⟨0x102, 0xA0, 7, 1, 0, 1, .all 0, .ro, 0, 1⟩
def BLANKED : Field := ⟨0x102, 0xA0, 8, 1, 0, 1, .all 0, .ro, 0, 1⟩
def SAT_ACC_CNT : Field := ⟨0x102, 0x200, 0, 32, 0, 1, .all 0, .ro, 0, 0xFFFFFFFF⟩
def SAT_INNER_CNT : Field := ⟨0x102, 0x204, 0, 32, 0, 1, .all 0, .ro, 0, 0xFFFFFFFF⟩
def SAT_OUTER_CNT : Field := ⟨0x102, 0x208, 0, 32, 0, 1, .all 0, .ro, 0, 0xFFFFFFFF⟩
def SAT_DUTY_CNT : Field := ⟨0x102, 0x20C, 0, 32, 0, 1, .all 0, .ro, 0, 0xFFFFFFFF⟩
def LAW_SWITCH_CNT : Field := ⟨0x102, 0x210, 0, 32, 0, 1, .all 0, .ro, 0, 0xFFFFFFFF⟩
def FREEZE_CNT : Field := ⟨0x102, 0x214, 0, 32, 0, 1, .all 0, .ro, 0, 0xFFFFFFFF⟩
def HALT_CNT : Field := ⟨0x102, 0x218, 0, 32, 0, 1, .all 0, .ro, 0, 0xFFFFFFFF⟩
def TBL_SWAP_CNT : Field := ⟨0x102, 0x21C, 0, 32, 0, 1, .all 0, .ro, 0, 0xFFFFFFFF⟩
def PLAUS_ALARM_CNT : Field := ⟨0x102, 0x220, 0, 32, 0, 1, .all 0, .ro, 0, 0xFFFFFFFF⟩
def PLAUS_ACTION_CNT : Field := ⟨0x102, 0x224, 0, 32, 0, 1, .all 0, .ro, 0, 0xFFFFFFFF⟩
def LEARN_ACCEPT_CNT : Field := ⟨0x102, 0x228, 0, 32, 0, 1, .all 0, .ro, 0, 0xFFFFFFFF⟩
def LEARN_REJECT_CNT : Field := ⟨0x102, 0x22C, 0, 32, 0, 1, .all 0, .ro, 0, 0xFFFFFFFF⟩
/-- Every stored block field and live counter of the page. -/
def fields : List Field :=
  [ MODE, SET_FORCE, FF_EN, CDC_EN, V_TARGET, V_FLOOR, I_FWD_LIM, I_REV_LIM, P_LIM, SLEW, I_STEP, CDC_MAX, V_ISL, P_CON, DROOP_PCT, I_CEIL, P_CEIL, DLOG, N, ENGINE, SET_IN_USE, RAMPING, FROZEN, LAW] ++
  [ HALT_CAUSE, V_SP, V_SP_EFF, I_AVG, I_SET, D, VBUS, VCONV, SAT_ACC, SAT_INNER, SAT_OUTER, SAT_DUTY, PENDING, VALID, LAST_REJECT, ACTIVE_SEQ, MODEL_EN, LEARN_EN, PROBE_EN, CAB_CAPTIVE, ACT_C, ACT_P, WLOG, I_FOLD] ++
  [ R_CONV, L_CONV, TH_P_REL, TH_P_ABS, TH_C_REL, TH_C_ABS, R_INT_MAX, R_EXT_WARN, R_EXT_FAULT, V_OFS, R_INT, R_EXT, R_EST, F_P, F_C, ALARM_C, ALARM_P, FOLD, SENSE_FLT, PATH_HIGH, CAB_WARN, CAB_FAULT, LEARNING, BLANKED] ++
  [ SAT_ACC_CNT, SAT_INNER_CNT, SAT_OUTER_CNT, SAT_DUTY_CNT, LAW_SWITCH_CNT, FREEZE_CNT, HALT_CNT, TBL_SWAP_CNT, PLAUS_ALARM_CNT, PLAUS_ACTION_CNT, LEARN_ACCEPT_CNT, LEARN_REJECT_CNT]
/-- Interrupt bit of the page. -/ abbrev IRQ_SAT : Nat := 0
/-- Interrupt bit of the page. -/ abbrev IRQ_HALT : Nat := 1
/-- Interrupt bit of the page. -/ abbrev IRQ_TBL_SWAP : Nat := 2
/-- Interrupt bit of the page. -/ abbrev IRQ_TBL_REJECT : Nat := 3
/-- Interrupt bit of the page. -/ abbrev IRQ_FREEZE : Nat := 4
/-- The defined interrupt bits of the page (R422). -/
abbrev irqBits : Nat := 0x1F
end LOOP

namespace GUARD
/-- Page type of the GUARD page (R420). -/
abbrev page : Nat := 0x103
def CMD : Field := ⟨0x103, 0x40, 0, 3, 0, 1, .all 0, .wo, 0, 7⟩
def SS_IG : Field := ⟨0x103, 0x44, 8, 8, 0, 1, .all 10, .rw, 1, 255⟩
def RAMP_TMAX : Field := ⟨0x103, 0x44, 16, 8, 0, 1, .all 20, .rw, 1, 250⟩
def GATE_RISE_TMAX : Field := ⟨0x103, 0x44, 24, 8, 0, 1, .all 10, .rw, 1, 100⟩
def IFAST_TH : Field := ⟨0x103, 0x48, 0, 10, 0, 1, .all 320, .rw, 0, 1023⟩
def PPS_EXEMPT : Field := ⟨0x103, 0x4C, 0, 1, 0, 1, .all 0, .ro, 0, 1⟩
def LIM_T_CEIL : Field := ⟨0x103, 0x4C, 8, 8, 0, 1, .all 10, .rw, 1, 60⟩
def LIM_T : Field := ⟨0x103, 0x4C, 16, 16, 0, 1, .all 1000, .rw, 1, 65535⟩
def MON_HI_EN : Field := ⟨0x103, 0x50, 0, 1, 0, 1, .all 1, .rw, 0, 1⟩
def MON_LO_EN : Field := ⟨0x103, 0x50, 1, 1, 0, 1, .all 1, .rw, 0, 1⟩
def MON_CSP_EN : Field := ⟨0x103, 0x50, 2, 1, 0, 1, .all 1, .rw, 0, 1⟩
def CURVE_SEL : Field := ⟨0x103, 0x50, 10, 2, 0, 1, .all 2, .rw, 0, 2⟩
def RETRY_MAX : Field := ⟨0x103, 0x50, 12, 4, 0, 1, .all 3, .rw, 0, 15⟩
def RETRY_T : Field := ⟨0x103, 0x50, 16, 8, 0, 1, .all 10, .rw, 1, 255⟩
def T_COOL : Field := ⟨0x103, 0x50, 24, 8, 0, 1, .all 60, .rw, 1, 255⟩
def COMMIT_A : Field := ⟨0x103, 0x54, 0, 1, 0, 1, .all 0, .wo, 0, 1⟩
def COMMIT_B : Field := ⟨0x103, 0x54, 1, 1, 0, 1, .all 0, .wo, 0, 1⟩
def LAST_ERR : Field := ⟨0x103, 0x54, 8, 1, 0, 1, .all 0, .ro, 0, 1⟩
def RETIRE : Field := ⟨0x103, 0x58, 0, 1, 0, 1, .all 0, .ro, 0, 1⟩
def RETRIES : Field := ⟨0x103, 0x5C, 0, 4, 0, 1, .all 0, .ro, 0, 15⟩
def CURVE_IN_USE : Field := ⟨0x103, 0x5C, 9, 1, 0, 1, .all 0, .ro, 0, 1⟩
def CEIL_BINDS : Field := ⟨0x103, 0x5C, 10, 1, 0, 1, .all 0, .ro, 0, 1⟩
def AT_LIMIT : Field := ⟨0x103, 0x5C, 11, 1, 0, 1, .all 0, .ro, 0, 1⟩
def DSG_TIMEOUT : Field := ⟨0x103, 0x5C, 12, 1, 0, 1, .all 0, .ro, 0, 1⟩
def DSG_ON : Field := ⟨0x103, 0x5C, 13, 1, 0, 1, .all 1, .ro, 0, 1⟩
def GATE_OFF : Field := ⟨0x103, 0x5C, 14, 1, 0, 1, .all 1, .ro, 0, 1⟩
def GATE_ON : Field := ⟨0x103, 0x5C, 15, 1, 0, 1, .all 0, .ro, 0, 1⟩
def REV_CHK_DONE : Field := ⟨0x103, 0x5C, 16, 1, 0, 1, .all 0, .ro, 0, 1⟩
def STATE : Field := ⟨0x103, 0x5C, 24, 8, 0, 1, .all 0, .ro, 0, 255⟩
def CAUSE : Field := ⟨0x103, 0x60, 0, 8, 0, 1, .all 0, .ro, 0, 255⟩
def SRC : Field := ⟨0x103, 0x60, 17, 13, 0, 1, .all 0, .ro, 0, 8191⟩
def LIMIT_CNT : Field := ⟨0x103, 0x64, 0, 16, 0, 1, .all 0, .ro, 0, 65535⟩
def HEAT : Field := ⟨0x103, 0x64, 16, 16, 0, 1, .all 0, .ro, 0, 65535⟩
def T_MARK2 : Field := ⟨0x103, 0x68, 0, 16, 0, 1, .all 0, .ro, 0, 65535⟩
def T_MARK1 : Field := ⟨0x103, 0x68, 16, 16, 0, 1, .all 0, .ro, 0, 65535⟩
def CURVE_A_M : Field := ⟨0x103, 0x80, 0, 12, 4, 8, .tab16 [3125, 625, 125, 125, 3125, 2500, 2500, 1000], .ro, 0, 4095⟩
def CURVE_A_E : Field := ⟨0x103, 0x80, 12, 4, 4, 8, .tab16 [15, 14, 14, 12, 5, 3, 1, 0], .ro, 0, 15⟩
def CURVE_A_I : Field := ⟨0x103, 0x80, 20, 12, 4, 8, .tab16 [520, 560, 600, 650, 700, 800, 1000, 1200], .ro, 0, 4095⟩
def CURVE_B_M : Field := ⟨0x103, 0xA0, 0, 12, 4, 8, .tab16 [3125, 625, 125, 125, 3125, 2500, 2500, 1000], .ro, 0, 4095⟩
def CURVE_B_E : Field := ⟨0x103, 0xA0, 12, 4, 4, 8, .tab16 [15, 14, 14, 12, 5, 3, 1, 0], .ro, 0, 15⟩
def CURVE_B_I : Field := ⟨0x103, 0xA0, 20, 12, 4, 8, .tab16 [520, 560, 600, 650, 700, 800, 1000, 1200], .ro, 0, 4095⟩
def CURVE_STG_M : Field := ⟨0x103, 0xC0, 0, 12, 4, 8, .all 0, .rw, 0, 4095⟩
def CURVE_STG_E : Field := ⟨0x103, 0xC0, 12, 4, 4, 8, .all 0, .rw, 0, 15⟩
def CURVE_STG_I : Field := ⟨0x103, 0xC0, 20, 12, 4, 8, .all 0, .rw, 0, 4095⟩
def VMON_CFG_REF : Field := ⟨0x103, 0x100, 0, 10, 0, 1, .all 0, .rw, 0, 1023⟩
def VMON_CFG_FILT : Field := ⟨0x103, 0x100, 10, 8, 0, 1, .all 40, .rw, 0, 255⟩
def VMON_CFG_WLO : Field := ⟨0x103, 0x100, 18, 5, 0, 1, .all 19, .rw, 0, 31⟩
def VMON_CFG_WHI : Field := ⟨0x103, 0x100, 23, 5, 0, 1, .all 13, .rw, 0, 31⟩
def VMON_CFG_LATCH_NP : Field := ⟨0x103, 0x100, 28, 1, 0, 1, .all 0, .rw, 0, 1⟩
def VMON_CFG_TRACK : Field := ⟨0x103, 0x100, 29, 1, 0, 1, .all 1, .rw, 0, 1⟩
def VMON_CFG_MODE : Field := ⟨0x103, 0x100, 30, 2, 0, 1, .all 1, .rw, 0, 3⟩
def CMON_CFG_REF : Field := ⟨0x103, 0x104, 0, 10, 0, 1, .all 900, .rw, 0, 1023⟩
def CMON_CFG_FILT : Field := ⟨0x103, 0x104, 10, 8, 0, 1, .all 20, .rw, 0, 255⟩
def CMON_CFG_WLO : Field := ⟨0x103, 0x104, 18, 5, 0, 1, .all 0, .rw, 0, 31⟩
def CMON_CFG_WHI : Field := ⟨0x103, 0x104, 23, 5, 0, 1, .all 0, .rw, 0, 31⟩
def CMON_CFG_LATCH_NP : Field := ⟨0x103, 0x104, 28, 1, 0, 1, .all 0, .rw, 0, 1⟩
def CMON_CFG_TRACK : Field := ⟨0x103, 0x104, 29, 1, 0, 1, .all 0, .rw, 0, 1⟩
def CMON_CFG_MODE : Field := ⟨0x103, 0x104, 30, 2, 0, 1, .all 2, .rw, 0, 3⟩
def PWM_BLANK_V : Field := ⟨0x103, 0x108, 0, 1, 0, 1, .all 0, .rw, 0, 1⟩
def PWM_BLANK_C : Field := ⟨0x103, 0x108, 1, 1, 0, 1, .all 1, .rw, 0, 1⟩
def T_THR : Field := ⟨0x103, 0x108, 8, 8, 0, 1, .all 50, .rw, 10, 200⟩
def T_GATE : Field := ⟨0x103, 0x108, 16, 8, 0, 1, .all 20, .rw, 0, 255⟩
def T_PWM : Field := ⟨0x103, 0x108, 24, 8, 0, 1, .all 20, .rw, 0, 255⟩
def CHK_EN : Field := ⟨0x103, 0x10C, 0, 1, 0, 1, .all 1, .rw, 0, 1⟩
def XCHK_EN : Field := ⟨0x103, 0x10C, 1, 1, 0, 1, .all 1, .rw, 0, 1⟩
def DUE_T : Field := ⟨0x103, 0x10C, 16, 8, 0, 1, .all 30, .rw, 1, 255⟩
def SWAP_T : Field := ⟨0x103, 0x10C, 24, 8, 0, 1, .all 10, .rw, 1, 255⟩
def CHK_STEP : Field := ⟨0x103, 0x110, 0, 8, 0, 1, .all 0, .ro, 0, 255⟩
def DEGRADED : Field := ⟨0x103, 0x110, 8, 1, 0, 1, .all 0, .ro, 0, 1⟩
def STANDIN : Field := ⟨0x103, 0x110, 9, 1, 0, 1, .all 0, .ro, 0, 1⟩
def IFAST_FAILED : Field := ⟨0x103, 0x110, 10, 1, 0, 1, .all 0, .ro, 0, 1⟩
def C_FAILED : Field := ⟨0x103, 0x110, 11, 1, 0, 1, .all 0, .ro, 0, 1⟩
def B_FAILED : Field := ⟨0x103, 0x110, 12, 1, 0, 1, .all 0, .ro, 0, 1⟩
def A_FAILED : Field := ⟨0x103, 0x110, 13, 1, 0, 1, .all 0, .ro, 0, 1⟩
def CHECKING : Field := ⟨0x103, 0x110, 14, 1, 0, 1, .all 0, .ro, 0, 1⟩
def PRIMARY : Field := ⟨0x103, 0x110, 15, 1, 0, 1, .all 0, .ro, 0, 1⟩
def IFAST_AGE : Field := ⟨0x103, 0x110, 16, 16, 0, 1, .all 0, .ro, 0, 65535⟩
def V_HI : Field := ⟨0x103, 0x114, 0, 1, 0, 1, .all 0, .w1c, 0, 1⟩
def V_LO : Field := ⟨0x103, 0x114, 1, 1, 0, 1, .all 0, .w1c, 0, 1⟩
def C_HI : Field := ⟨0x103, 0x114, 2, 1, 0, 1, .all 0, .w1c, 0, 1⟩
def C_LO : Field := ⟨0x103, 0x114, 3, 1, 0, 1, .all 0, .w1c, 0, 1⟩
def IFAST : Field := ⟨0x103, 0x114, 4, 1, 0, 1, .all 0, .w1c, 0, 1⟩
def THR_LO : Field := ⟨0x103, 0x118, 0, 10, 0, 1, .all 0, .ro, 0, 1023⟩
def THR_HI : Field := ⟨0x103, 0x118, 16, 10, 0, 1, .all 0, .ro, 0, 1023⟩
def LAST_FAIL_STEP : Field := ⟨0x103, 0x11C, 0, 8, 0, 1, .all 0, .ro, 0, 255⟩
def LAST_FAIL_MON : Field := ⟨0x103, 0x11C, 8, 4, 0, 1, .all 0, .ro, 0, 15⟩
def TRIP_CNT : Field := ⟨0x103, 0x200, 0, 32, 0, 1, .all 0, .ro, 0, 0xFFFFFFFF⟩
def IFAST_CNT : Field := ⟨0x103, 0x204, 0, 32, 0, 1, .all 0, .ro, 0, 0xFFFFFFFF⟩
def LIMIT_TRIP_CNT : Field := ⟨0x103, 0x208, 0, 32, 0, 1, .all 0, .ro, 0, 0xFFFFFFFF⟩
def CURVE_TRIP_CNT : Field := ⟨0x103, 0x20C, 0, 32, 0, 1, .all 0, .ro, 0, 0xFFFFFFFF⟩
def RAMP_FAIL_CNT : Field := ⟨0x103, 0x210, 0, 32, 0, 1, .all 0, .ro, 0, 0xFFFFFFFF⟩
def MON_TRIP_CNT : Field := ⟨0x103, 0x214, 0, 32, 0, 1, .all 0, .ro, 0, 0xFFFFFFFF⟩
def RETRY_CNT : Field := ⟨0x103, 0x218, 0, 32, 0, 1, .all 0, .ro, 0, 0xFFFFFFFF⟩
def CLOSE_CNT : Field := ⟨0x103, 0x21C, 0, 32, 0, 1, .all 0, .ro, 0, 0xFFFFFFFF⟩
def DSG_TIMEOUT_CNT : Field := ⟨0x103, 0x220, 0, 32, 0, 1, .all 0, .ro, 0, 0xFFFFFFFF⟩
def CMD_REFUSED_CNT : Field := ⟨0x103, 0x224, 0, 32, 0, 1, .all 0, .ro, 0, 0xFFFFFFFF⟩
def MON_FLAG_CNT : Field := ⟨0x103, 0x240, 0, 32, 0, 1, .all 0, .ro, 0, 0xFFFFFFFF⟩
def CHK_RUN_CNT : Field := ⟨0x103, 0x244, 0, 32, 0, 1, .all 0, .ro, 0, 0xFFFFFFFF⟩
def CHK_FAIL_CNT : Field := ⟨0x103, 0x248, 0, 32, 0, 1, .all 0, .ro, 0, 0xFFFFFFFF⟩
def SWAP_CNT : Field := ⟨0x103, 0x24C, 0, 32, 0, 1, .all 0, .ro, 0, 0xFFFFFFFF⟩
def XCHK_DISAGREE_CNT : Field := ⟨0x103, 0x250, 0, 32, 0, 1, .all 0, .ro, 0, 0xFFFFFFFF⟩
def SKIP_CNT : Field := ⟨0x103, 0x254, 0, 32, 0, 1, .all 0, .ro, 0, 0xFFFFFFFF⟩
/-- Every stored block field and live counter of the page. -/
def fields : List Field :=
  [ CMD, SS_IG, RAMP_TMAX, GATE_RISE_TMAX, IFAST_TH, PPS_EXEMPT, LIM_T_CEIL, LIM_T, MON_HI_EN, MON_LO_EN, MON_CSP_EN, CURVE_SEL, RETRY_MAX, RETRY_T, T_COOL, COMMIT_A, COMMIT_B, LAST_ERR, RETIRE, RETRIES, CURVE_IN_USE, CEIL_BINDS, AT_LIMIT, DSG_TIMEOUT] ++
  [ DSG_ON, GATE_OFF, GATE_ON, REV_CHK_DONE, STATE, CAUSE, SRC, LIMIT_CNT, HEAT, T_MARK2, T_MARK1, CURVE_A_M, CURVE_A_E, CURVE_A_I, CURVE_B_M, CURVE_B_E, CURVE_B_I, CURVE_STG_M, CURVE_STG_E, CURVE_STG_I, VMON_CFG_REF, VMON_CFG_FILT, VMON_CFG_WLO, VMON_CFG_WHI] ++
  [ VMON_CFG_LATCH_NP, VMON_CFG_TRACK, VMON_CFG_MODE, CMON_CFG_REF, CMON_CFG_FILT, CMON_CFG_WLO, CMON_CFG_WHI, CMON_CFG_LATCH_NP, CMON_CFG_TRACK, CMON_CFG_MODE, PWM_BLANK_V, PWM_BLANK_C, T_THR, T_GATE, T_PWM, CHK_EN, XCHK_EN, DUE_T, SWAP_T, CHK_STEP, DEGRADED, STANDIN, IFAST_FAILED, C_FAILED] ++
  [ B_FAILED, A_FAILED, CHECKING, PRIMARY, IFAST_AGE, V_HI, V_LO, C_HI, C_LO, IFAST, THR_LO, THR_HI, LAST_FAIL_STEP, LAST_FAIL_MON, TRIP_CNT, IFAST_CNT, LIMIT_TRIP_CNT, CURVE_TRIP_CNT, RAMP_FAIL_CNT, MON_TRIP_CNT, RETRY_CNT, CLOSE_CNT, DSG_TIMEOUT_CNT, CMD_REFUSED_CNT] ++
  [ MON_FLAG_CNT, CHK_RUN_CNT, CHK_FAIL_CNT, SWAP_CNT, XCHK_DISAGREE_CNT, SKIP_CNT]
/-- Interrupt bit of the page. -/ abbrev IRQ_TRIP : Nat := 0
/-- Interrupt bit of the page. -/ abbrev IRQ_LATCHED : Nat := 1
/-- Interrupt bit of the page. -/ abbrev IRQ_RETIRED : Nat := 2
/-- Interrupt bit of the page. -/ abbrev IRQ_GUARD_ON : Nat := 3
/-- Interrupt bit of the page. -/ abbrev IRQ_OPENED : Nat := 4
/-- Interrupt bit of the page. -/ abbrev IRQ_DSG_TIMEOUT : Nat := 5
/-- Interrupt bit of the page. -/ abbrev IRQ_CMD_REFUSED : Nat := 6
/-- Interrupt bit of the page. -/ abbrev IRQ_CURVE_REJECT : Nat := 7
/-- The defined interrupt bits of the page (R422). -/
abbrev irqBits : Nat := 0xFF
end GUARD

end Sys2Proof.Machine
end

