-- ==== Sys2Proof/Machine/State.lean ====
section
/-! DEFINITION. The state of the block: the table of register fields, and beside it, as typed records, everything the
spec gives the block that is no register field: rings and mailboxes, the engines' and the hardware's own state of each
port, the feeds, the ledger, the flash, the OTP, the fabric, the pair, device time and the snapshot banks, and the
queue of waiting commands. -/

namespace Sys2Proof.Machine

/-- Device states (R389, status word [31:28]). -/
inductive DevState where
  | boot | run | watch | waking | warmReset | recovery | safe
  deriving DecidableEq, Repr

/-! ## Rings and mailboxes (chapter 14) -/

/-- An event record (R360). `time` is device time in ns; d4 to d7 are words 4 to 7. -/
structure EvRec where
  sev : Nat
  port : Nat
  code : Nat
  src : Nat
  time : Nat
  seq : Nat
  d4 : Nat
  d5 : Nat
  d6 : Nat
  d7 : Nat
  deriving DecidableEq, Repr

/-- What a ring holds: an event record, or a packet with its sequence number (R359). -/
inductive Entry where
  | ev (r : EvRec)
  | pkt (p : Packet) (seq : Nat)
  deriving DecidableEq, Repr

/-- One ring (R355 to R361): its entries, oldest first; whether the oldest is locked by a pull; the next sequence
number; the throttle and the doublings of COAL_WIN in force; whether a push was refused since it last fell to LWM. -/
structure RingSt where
  entries : List Entry
  locked : Bool
  seq : Nat
  throttle : Bool
  coalS : Nat
  refused : Bool
  deriving DecidableEq, Repr

/-- One mailbox (R348 to R353): the committed words, FULL, COLLIDE, the endpoint of the unread message, LOST_SRC and
the read-side holding buffer. -/
structure Mbox where
  words : List Word
  full : Bool
  collide : Bool
  src : Nat
  lost : Nat
  hold : List Word
  deriving DecidableEq, Repr

/-! ## A port: CC front end and PHY (chapters 2 and 3) -/

/-- CC front end and Type-C state that is no register field. -/
structure CcSt where
  /-- the termination the port presents on both pins -/
  pres : Pres
  /-- the pin that read Rd or Rp when AttachWait was entered -/
  pin : Bool
  /-- Ra read on the VCONN pin (R53) -/
  ra : Bool
  /-- ROLE and TRY as taken at the last entry into an Unattached state (R37) -/
  role : Nat
  try_ : Nat
  /-- VCONN_OCP openings of this attachment (R54) -/
  ocpTrips : Nat
  /-- VCONN_REV opened the switch in this attachment (R55) -/
  rev : Bool
  /-- a VCONN claim waits to be repeated (R56) -/
  claim : Bool
  /-- the fast-detach path has opened the pass switch (R51) -/
  fastOpened : Bool
  /-- V_SP at that opening, mV (R140) -/
  openSp : Nat
  /-- 5 V has been requested and waits for Loam's next tick (R30 step 3) -/
  want5v : Bool
  /-- the VCONN pin reads at or above 0.8 V (R58) -/
  vconnHigh : Bool
  /-- the latched cause that keeps the port in safe state still stands at the pins: CC at or above 5.5 V (R62) -/
  ovpStands : Bool
  /-- sum in mA and number of the VCONN samples since the last management tick (R67) -/
  maSum : Nat
  maN : Nat
  deriving DecidableEq, Repr

/-- A receive slot (R81): the frame with its SOP type, its length in bytes before CRC, and bits [31:0] of device time at
its EOP. -/
structure RxSlot where
  frame : Frame
  len : Nat
  time : Nat
  deriving DecidableEq, Repr

/-- The frame took the long slot: more than 30 bytes before CRC. -/
def RxSlot.long (x : RxSlot) : Bool := decide (30 < x.len)

/-- A GoodCRC that the PHY has sent (R74): SOP type, MessageID, specification revision, power and data role, Cable Plug. -/
structure Ack where
  sop : Sop
  id : BitVec 3
  rev : Nat
  pwr : Nat
  data : Nat
  plug : Bool
  deriving DecidableEq, Repr

/-- A reassembly buffer (R95). -/
structure Reasm where
  sop : Sop
  msg : PdMsg
  next : Nat
  size : Nat
  bytes : List Byte
  deriving DecidableEq, Repr

/-- PHY state that is no register field. -/
structure PhySt where
  /-- the transmit buffer (R81) -/
  tx : Option Frame
  /-- frames Twill has yet to submit (R84), and whether each begins an AMS of the port's own (R85, R87) -/
  outbox : List (Frame × Bool)
  /-- received frames in arrival order (R81, R82) -/
  rx : List RxSlot
  /-- reassembly buffers, one per SOP type (R95) -/
  reasm : List Reasm
  /-- the message whose first chunk waits for a Chunk Request (R96) -/
  chunkTx : Option Frame
  /-- the pending frame waits tSinkTx (R85) -/
  waitSinkTx : Bool
  /-- only Hard Reset, and on a sink Source_Capabilities, is accepted (R92) -/
  hrOnly : Bool
  /-- a Hard Reset, and a Cable Reset, of the port's own is pending or being sent (R90) -/
  hrPending : Bool
  cableResetPending : Bool
  /-- the AMS in progress was begun by this port (R85, R87) -/
  ownAms : Bool
  /-- the last GoodCRC the PHY sent (R74) -/
  ack : Option Ack
  /-- in shadow listening: the frame heard last, and whether the owner sent it (R105) -/
  heard : Option (RxSlot × Bool)
  /-- the revision on SOP′ and SOP″: 0 not known, 1 2.0, 2 3.x (R93) -/
  cableRev : Nat
  deriving DecidableEq, Repr

/-! ## A port: policy engine (chapters 4 and 6) -/

/-- *Port profile payload* (R107). -/
structure Profile where
  pps : Bool
  sprAvs : Bool
  epr : Bool
  eprAvs : Bool
  snk : Bool
  fixedMask : Nat
  slew : Nat
  pdpMax : Nat
  imax : Nat
  snkVmin : Nat
  snkVmax : Nat
  snkImax : Nat
  snkPdp : Nat
  deriving DecidableEq, Repr

/-- Where a contract change stands (R120): Accept sent; acknowledged and waiting tSrcTransition; ramping; settling;
ready but held by CC_OPEN_Q (R138); PS_RDY sent. -/
inductive TPhase where
  | accepted | waiting | ramping | settling | held | psRdy
  deriving DecidableEq, Repr

/-- A contract change in progress. As sink, `accepted` waits for the source's Accept and `waiting` for its PS_RDY. -/
structure Trans where
  phase : TPhase
  fromMv : Nat
  next : Contract
  rdo : Rdo
  deriving DecidableEq, Repr

/-- Where a swap stands (R165, R166, R172, R176, R179). -/
inductive SwapStep where
  | none
  /-- own request submitted, its answer awaited -/
  | requested
  /-- Accept sent to a partner's request, its GoodCRC awaited -/
  | accepting
  | srcHold | srcRamp | srcOff | srcPsRdy | srcMatch | srcClosed
  | snkIdle | snkStart | snkPsRdy | snkDone
  | vconnOn | vconnPsRdy | vconnOff
  | frsSink | frsSinkAcc | frsSinkPsRdy
  | frsSrc | frsSrcAcc | frsSrcPsRdy
  deriving DecidableEq, Repr

/-- Why an own swap request is wanted (R163, R170). -/
inductive SwapWant where
  | host | ret | init
  deriving DecidableEq, Repr

/-- An own swap request that is still wanted, with the repeats made (R170). -/
structure Wanted where
  kind : SwapKind
  why : SwapWant
  repeats : Nat
  deriving DecidableEq, Repr

/-- Swap state of a port. -/
structure SwapSt where
  step : SwapStep
  kind : SwapKind
  byDev : Bool
  /-- the own request has been acknowledged (R168, R169) -/
  acked : Bool
  /-- why the own request in progress was made -/
  why : SwapWant
  /-- own requests still wanted (R170) -/
  want : List Wanted
  /-- PR_INIT was served in this attachment (R163) -/
  initDone : Bool
  /-- the partner's 5 V sink object shows Dual-Role Power (R163, R178) -/
  partnerDrp : Bool
  /-- the port islanded through R179; it waits for the return swap (R186) -/
  islanded : Bool
  /-- uptime in ns at which a refused return swap may be repeated (R186) -/
  retryAt : Nat
  /-- the ceiling of R180 was applied to the port -/
  ceilinged : Bool
  /-- idle until the island ends after FRS_FAILED reason 1 (R179) -/
  idle : Bool
  deriving DecidableEq, Repr

/-- What Twill waits an answer for under tSenderResponse, tVDMSenderResponse or a sink timer. -/
inductive Await where
  | none | request | sinkCap | sinkCapExt | status | swap | batteryStatus | keepAliveAck | softResetAccept
  | cableId | hostVdm (k : Packet) | digests | certificate | challenge
  | batteryCap | manufInfo | revision | discoverId | extCaps | eprEnter
  deriving DecidableEq, Repr

/-- EPR entry steps (R128): not running; Acknowledged sent; cable discovery running; Succeeded sent. -/
inductive EprStep where
  | none | acked | discover | succeeded
  deriving DecidableEq, Repr

/-- Hard Reset as source (R135), by the step reached; sink side by R134. -/
inductive HrStep where
  | none | hold | ramp | open_ | recover | restart | sinkWait
  deriving DecidableEq, Repr

/-- Policy-engine state of a port. -/
structure PeSt where
  contract : Option Contract
  trans : Option Trans
  /-- the capabilities last sent (source) or received (sink), with their flags (R102, R113) -/
  caps : List Pdo
  capsFlags : CapFlags
  /-- advertisements since the last Request (R112) -/
  nCaps : Nat
  /-- capabilities exhausted without an answer (R112) -/
  capsDone : Bool
  /-- Hard Resets without an explicit contract (R136), and sink Hard Resets (R118) -/
  hrCount : Nat
  hr : HrStep
  /-- VBUS at step 1 of a Hard Reset, mV -/
  hrVbus : Nat
  epr : EprStep
  /-- EPR_Source_Capabilities with empty positions 8 to 11 were sent; the 500 ms of R130 run -/
  eprLeaving : Bool
  /-- supervision (R132): PPS and EPR keep-alive timers running -/
  ppsTimer : Bool
  eprTimer : Bool
  await : Await
  /-- retained contract cache: in-flight flag and whether the entry passes its CRC-32 (R102, R104) -/
  inflight : Inflight
  cacheOk : Bool
  /-- an SPR 5 V explicit contract has been reached at least once since attach or Hard Reset (R163, R178) -/
  firstDone : Bool
  /-- PDP of the last capabilities sent, mW, and of the last tick (R599) -/
  pdpSent : Nat
  pdpTick : Nat
  /-- re-advertisement wanted after TRANSITION clears (R126) -/
  readvWant : Bool
  /-- the RDO in force had EPR Capable set (R128) -/
  eprCapRdo : Bool
  /-- the last request set Capability Mismatch (R144) -/
  mismatch : Bool
  /-- Get_Sink_Cap of R178 was abandoned for a message that arrived, and is to be sent again -/
  sinkCapDue : Bool
  /-- a Soft_Reset of the port's own awaits its Accept (R132) -/
  softResetSent : Bool
  /-- a restarted or buddy Twill has still to resynchronise the port (R104) -/
  resyncDue : Bool
  /-- the RDO of the contract in force or being made (R102) -/
  rdo : Option Rdo
  /-- uptime in ns from which a sink asks again, after a Wait or while another port of the island negotiates (R117, R183) -/
  askAt : Option Nat
  /-- the retained contract cache entry as last written (R102) -/
  cache : CacheImg
  deriving DecidableEq, Repr

/-! ## A port: loop engine (chapter 7) and model (chapter 9) -/

/-- Law codes of LOOP_STAT.LAW (R198). -/
inductive Law where
  | none | v | limit | p | floor | ceil | droop
  deriving DecidableEq, Repr

/-- LOOP_STAT.LAW coding. -/
def Law.code : Law → Nat
  | .none => 0 | .v => 1 | .limit => 2 | .p => 3 | .floor => 4 | .ceil => 5 | .droop => 6

/-- The law of a code. -/
def Law.ofCode : Nat → Law
  | 1 => .v | 2 => .limit | 3 => .p | 4 => .floor | 5 => .ceil | 6 => .droop | _ => .none

/-- Marl's state block of a port (R216) and its working values, in the formats of *Marl signal formats* (R189). -/
structure LoopSt where
  /-- latest IBUS, VBUS, VCONV samples, Q8.24 -/
  ibus : Int
  vbus : Int
  vconv : Int
  /-- set-point ramp, Q8.24 -/
  vsp : Int
  /-- inner history u_c[k−1..k−3] in Q4.28 and e[k−1..k−3] in Q8.24 -/
  u1 : Int
  u2 : Int
  u3 : Int
  e1 : Int
  e2 : Int
  e3 : Int
  /-- outer integrators, Q8.24 A -/
  xV : Int
  xP : Int
  xFl : Int
  xCe : Int
  xDr : Int
  /-- the outer laws' selected output held between outer steps, and the law that gave it -/
  ySel : Int
  law : Law
  sel : Law
  /-- the last 64 IBUS samples, newest last (R201), I_AVG (Q8.24) and P_AVG (Q12.20) -/
  acc : List Int
  iAvg : Int
  pAvg : Int
  /-- I_REV_RAMP, Q8.24 -/
  revRamp : Int
  /-- inner update counter -/
  k : Nat
  /-- the inner set-point i*, Q8.24, and d, Q4.28 -/
  iSet : Int
  d : Int
  /-- conditions of the last update, for R192 -/
  satAcc : Bool
  satIn : Bool
  satOut : Bool
  satDuty : Bool
  /-- consecutive invalid bursts (R228); the last burst was valid and its IBUS not clipped (R246) -/
  stale : Nat
  good : Bool
  /-- active and pending coefficient tables, raw (R207) -/
  table : List Byte
  pending : Option (List Byte)
  /-- a MODE that was written and is latched at the next boundary (R25) -/
  modeDue : Bool
  /-- no update has run since HALT (R206) -/
  first : Bool
  /-- R_EST as read at the last outer step (R205) -/
  rEst : Nat
  /-- a swapped table's M limits exclude the present d (R210) -/
  excl : Bool
  /-- engines whose copy of the table is to be copied from the other's at the next outer step (R211, R216) -/
  repair : BitVec 2
  /-- the port is to return to its default engine at its next outer step (R219) -/
  moveDue : Bool
  /-- a written SMP_POS that waits for the next inner period (R225) -/
  smpDue : Option Nat
  /-- the 4-bit sequence number of the next burst (R227) -/
  burst : BitVec 4
  deriving DecidableEq, Repr

/-- The PWM block's state of a port (R234 to R241): a PHASE still to apply; outputs held low until DRV_SETUP has
elapsed; the periods still to start in the present inner period (R19); and the present period: its length and the high times of PWMA and PWMB, in steps of 312.5 ps. -/
structure PwmSt where
  phase : Option Nat
  wait : Bool
  left : Nat
  len : Nat
  onA : Nat
  onB : Nat
  deriving DecidableEq, Repr

/-- Plausibility model state of a port (chapter 9). Voltages and currents are Q8.24, resistances Q8.24 ohms. -/
structure ModelSt where
  /-- B_C, V_OFS, R_INT, the filtered residuals f_c and f_p, and R_EXT -/
  bc : Int
  vofs : Int
  rint : Int
  fc : Int
  fp : Int
  rext : Int
  /-- I_AVG of the step before -/
  lastI : Int
  /-- the step's sums over good updates: updates, IBUS, d × V_BUS (Q12.52), VCONV, VBUS -/
  nUpd : Nat
  sumI : Int
  sumDV : Int
  sumC : Int
  sumP : Int
  /-- consecutive outer steps over the threshold and over twice the threshold, converter and path (R248) -/
  overC : Nat
  overP : Nat
  over2C : Nat
  over2P : Nat
  /-- ns for which each filtered residual has stayed below half its threshold (R248) -/
  underC : Nat
  underP : Nat
  /-- the residuals whose foldback is in force: converter, path (R248) -/
  foldC : Bool
  foldP : Bool
  /-- learning window sums (R254): steps, Σ g, Σ h, Σ g², Σ gh -/
  n : Nat
  sg : Int
  sh : Int
  sgg : Int
  sgh : Int
  /-- CABLE_WORN has said that R_EXT, as learned, is at or above R_EXT_WARN (R251) -/
  worn : Bool
  /-- windows accepted in this session; the cut the probe makes in the second half of the window, Q8.24 A (R255) -/
  accepted : Nat
  probe : Option Int
  /-- ns of blanking left, and ns for which the pass switch has been closed -/
  blank : Nat
  closedNs : Nat
  /-- a SENSE_FLT was found in this management tick, and its action is still to be taken (R252) -/
  senseDue : Bool
  /-- R_EXT at the last detach and the trend T (R257), Q8.24 ohms -/
  rPrev : Int
  trend : Int
  deriving DecidableEq, Repr

/-! ## A port: guard (chapter 10) and monitors (chapter 11) -/

/-- Where a closure stands (R266, R268); `matchedCheck` is a CLOSE_MATCHED whose monitors are checked first (R304), and
`resumed` a gate that a new owner drives again (R477). -/
inductive Closing where
  | none | precheck | matchedCheck | ramp | marked | enhance | matched | matchedMarked | resumed
  deriving DecidableEq, Repr

/-- The pending opening of GUARD_OPEN_WAIT (R264). -/
inductive OpenWait where
  | none | low | idle
  deriving DecidableEq, Repr

/-- Guard state of a port that is no register field. -/
structure GuardSt where
  /-- H with 32 fraction bits (R276) -/
  heat : Nat
  /-- the limit counter (R274), in units of 1/8 PWM clock cycle (0.3125 ns) -/
  limit : Nat
  closing : Closing
  openWait : OpenWait
  /-- uptimes, in ns, of the trips of the last 60 s (R283) -/
  trips : List Nat
  /-- RETRY_T counts, and has elapsed (R283) -/
  retryRun : Bool
  retryElapsed : Bool
  /-- SENSE_LOST still present (R285) -/
  senseLost : Bool
  /-- Chalk forces safe state (R26 rank 3), and its cause (R565) -/
  forced : Bool
  forceCause : Nat
  /-- held in safe state for the failure of the engine that carries the port (R220) -/
  engine : Bool
  /-- threshold codes in force of the CSP window's upper and lower comparator (R291, R292) -/
  cHi : Nat
  cLo : Nat
  /-- a check out of turn is due: of the VBUS check window, of the CSP window (R302) -/
  dueV : Bool
  dueC : Bool
  /-- monitors, by bits 0 VBUS A, 1 VBUS B, 2 CSP and 3 IFAST, whose check has failed and waits for its repeat (R303) -/
  chk : BitVec 4
  /-- monitors, by the same bits, that the next closure still checks before GUARD_RAMP: the port's FAILED marks were cleared
  (R304) -/
  recheck : BitVec 4
  /-- IFAST has been checked in the present guard state (R301) -/
  ifastRan : Bool
  /-- the present GUARD_DISCHARGE began with a planned opening (R264, R301) -/
  planned : Bool
  /-- the switch has opened since it was last driven on (R279) -/
  opened : Bool
  /-- curve staging words that were last written with a reserved bit set (R278) -/
  stgRsv : BitVec 8
  deriving DecidableEq, Repr

/-- A ledger session of a port (R329 to R337): open; ended and still to be closed by Loam; its key formed; the energy in
µJ of the session; the first and last capacity replies in 0.1 Wh with the E_OUT credited at each; the faults counted in
it and not yet in the record (the eight counters of R335) with the last fault's event code, source page and time; the
uptimes at which LAST_SEEN was last written and the record last journalled. `idStep` is the step of *Identity gathering*
that waits (0 none), and vid to batt what it has gathered. `slot` is the record in use, `dup` that another session held
it first.  Of authentication: its step of R333 (0 none), whether the request has been repeated, whether it ended, passed,
whether the chain was read, and the digest, chain and nonce so far.  `battAt` is the uptime of the last
Get_Battery_Status; `skip` the µJ that the accumulator had gained since the last tick when the session opened (R331); `order`
the place of the session among those that hold its record (R346); `authWas` the record's AUTH_STATE before the attempt (R333); `rExt` and `windows` what the attachment's end
left: R_EXT in 0.1 mΩ and the windows accepted (R257). -/
structure Session where
  isOpen : Bool
  ended : Bool
  known : Bool
  eOut : Nat
  eIn : Nat
  c0 : Option Nat
  c1 : Option Nat
  e0 : Nat
  e1 : Nat
  faults : List Nat
  lastCode : Nat
  lastPage : Nat
  lastTime : Nat
  seenAt : Nat
  keptAt : Nat
  idStep : Nat
  vid : Nat
  pid : Nat
  xid : Nat
  serial : Nat
  batt : Option BatCap
  slot : Option Nat
  dup : Bool
  authStep : Nat
  resent : Bool
  authDone : Bool
  passed : Bool
  chainRead : Bool
  digest : List Byte
  chain : List Byte
  nonce : List Byte
  battAt : Nat
  skip : Int
  order : Nat
  authWas : Nat
  rExt : Nat
  windows : Nat
  deriving DecidableEq, Repr

/-- What the budget holds of a port: the power-path energy accumulator (R22, R336) in units of 2^-48 W·ps; its value in µJ
at the last management tick and the power in mW of the tick's interval; the uptime from which a voluntary
re-advertisement may go (R149); a forced re-advertisement awaits a contract that fits (R151). -/
structure BudPort where
  energy : Int
  seen : Int
  mw : Int
  readvAt : Nat
  forced : Bool
  deriving DecidableEq, Repr

/-- A PORT_TEST that waits on a port (R558): its packet, its kind and the uptime at which it arrived. -/
structure PTest where
  pkt : Packet
  kind : Nat
  since : Nat
  deriving DecidableEq, Repr

/-- Loam's budget (chapter 5): the policy in force, being the BUDGET page's RW fields at the last tick (R159); CAP in µW;
CAP is to be seeded with the measured power (R158); ticks above the overload threshold (R150); a table has been given since the
last tick. -/
structure BudSt where
  act : RegTable
  cap : Nat
  seed : Bool
  ovl : Nat
  given : Bool
  deriving DecidableEq, Repr

/-- The ledger (chapter 13): records by rising slot; the trust anchors; records changed and to be journalled; and in
flash the two base banks (header SEQ and records) and the journal, oldest entry first (slot, SEQ, record, CRC good). -/
structure LedSt where
  recs : List (Nat × LedRec)
  anchors : List (List Byte)
  dirty : List Nat
  banks : Vector (Option (Nat × List (Nat × LedRec))) 2
  journal : List (Nat × Nat × Option LedRec × Bool)
  deriving DecidableEq, Repr

/-- A planned hand-over under way (R480): its command, when it came, whether it leaves the pair, whether that persists, T_H
in owner epoch ns, and whether the final LOOP frames have been sent. -/
structure HoSt where
  pkt : Packet
  since : Nat
  leave : Bool
  persist : Bool
  at_ : Option Nat
  final : Bool
  deriving DecidableEq, Repr

/-- Pair logic and Selvedge (chapter 19): the key in use and the stored key; the next SEQ, the frames not yet
acknowledged and the times the first was resent; the highest SEQ received in order; the periodic frame sent last; own and
partner's HELLO nonce and the HELLO frames sent; OWN_IN seen toggling since cold reset; 5 s of STANDBY without a toggle;
uptimes of the last OWN_IN edge and of YIELD_OUT's assertion by a claim; YIELD_OUT is the veto's pulse; the level of
OWN_OUT; the partner's HELLO showed it standby; uptimes at which each LOOP group came last; the standby's record of the
port mirror's accumulators; a hand-over under way; on a standby the hand-over announced (T_H, final); the member has
left; the partner's proof has passed; no claim before OWN_IN toggles again; ports are still to be resumed. -/
structure PairSt where
  key : Option (List Byte)
  keyFlash : Option (List Byte)
  seq : Nat
  unacked : List (Nat × SelBody)
  resends : Nat
  rxSeq : Nat
  sent : Option SelBody
  nonce : List Byte
  theirs : List Byte
  hellos : Nat
  seen : Bool
  waited : Bool
  edgeAt : Nat
  claimAt : Option Nat
  veto : Bool
  ownOut : Bool
  otherStandby : Bool
  groupAt : Vector (Option Nat) 4
  accum : List Int
  handover : Option HoSt
  coming : Option (Nat × Bool)
  left : Bool
  proved : Bool
  blocked : Bool
  taking : Bool
  /-- on a standby, the owner's FAILED marks (R467) -/
  failed : List Nat
  /-- STOP[n] and SHED[n] as the partner last sent them over the present link (R472) -/
  heard : Word × List (Bool × Nat × Nat × Nat)
  /-- on a standby, the owner's PWM epoch count of the last TIME frame and the uptime of its arrival: the standby's epoch is
  aligned to it (R468) -/
  epochAt : Option (Nat × Nat)
  deriving DecidableEq, Repr

/-- Everything of one port that is no register field. -/
structure PortSt where
  cc : CcSt
  phy : PhySt
  /-- the profile in force, and one that Loam has accepted and that waits for the next advertisement (R107) -/
  profile : Profile
  nextProfile : Option Profile
  /-- the port runs under SW0820 window management (R432) -/
  windowed : Bool
  pe : PeSt
  swap : SwapSt
  loop : LoopSt
  pwm : PwmSt
  model : ModelSt
  guard : GuardSt
  sess : Session
  bud : BudPort
  /-- on a standby, the port's part of the last LOOP frame (R467) -/
  img : Option LoopImg
  test : Option PTest
  /-- LOOP registers a host wrote while the port was disabled (R214): field, the writer's own value, the host's -/
  overrides : List (Field × Nat × Nat)
  deriving DecidableEq, Repr

/-! ## The whole block -/

/-- *Role policy table* (R160). -/
structure RolePolicy where
  bankFrs : Bool
  returnEn : Bool
  vIsl : Nat
  droop : Nat
  retDelay : Nat
  retRetry : Nat
  pol : Vector (BitVec 8) 32
  islShed : Vector Nat 32
  deriving DecidableEq, Repr

/-- Supplies the feed controller watches (R323), and bus state (R320 to R322); the samples read 0 until the first frame.
(DESIGN CHOICE, assumption 186) -/
structure SupplySt where
  /-- VCP is out of its window, or not yet back for 1 ms -/
  vcpOut : Bool
  /-- VCONN_IN is out of its window, or not yet back for 10 ms -/
  vconnInOut : Bool
  /-- BUS_OV stands or cleared less than 1 ms ago: reverse limits are forced to 0 -/
  busOvHold : Bool
  /-- the last sample of VCP, VCONN_IN, VDD_CORE and VDDA, in µV (R232) -/
  vcp : Nat
  vconnIn : Nat
  vddCore : Nat
  vdda : Nat
  deriving DecidableEq, Repr

/-! ## Feeds (chapter 12) -/

/-- Where a feed's closure stands: charging to the 2.0 V mark in a switchover (R313 step 1), waiting for the gap with its
mark met or not; before a hot insertion's step 1 the current comparator in check; charging, ramping, and enhancing (R314). -/
inductive FeedStep where
  | none | charge | gap | check | gate | ramp | enhance
  deriving DecidableEq, Repr

/-- A feed's state that is no register field: its closure; H with 32 fraction bits and the limit counter in µs (R316);
uptimes of its trips; RETRY_T runs and has elapsed; its window reads within both thresholds. -/
structure FeedOne where
  step : FeedStep
  heat : Nat
  limit : Nat
  trips : List Nat
  retryRun : Bool
  retryElapsed : Bool
  inWindow : Bool
  /-- FEED_STAT.STATE of a latch that a yielded feed keeps: TRIPPED, LATCHED or RETIRED; 0 for none (R317) -/
  held : Nat
  deriving DecidableEq, Repr

/-- The feed controller: both feeds; the cause and the lowest bus voltage of the switchover or insertion in progress, and
whether it is an insertion; Loam's holds of offers for it (R315) and for a bus loss that did not fire (R321); an AUTO_RETURN
that waits for the end of a switchover or insertion (R312); feed curve staging words that were last written with a reserved bit
set (R278, R318). -/
structure FeedsSt where
  one : Vector FeedOne 2
  cause : Nat
  busLow : Nat
  inserting : Bool
  holdFeed : Bool
  holdBus : Bool
  returnDue : Bool
  stgRsv : BitVec 8
  deriving DecidableEq, Repr

/-- DESIGN CHOICE, assumption 1. -/
def FeedOne.reset : FeedOne := ⟨.none, 0, 0, [], false, false, false, 0⟩

/-! ## One-time-programmable memory (chapter 21) -/

/-- An ECC word of the OTP (R510): its data bits as they stand, WRITTEN, whether it is partial, the errors a read finds
(0 none, 1 corrected, 2 uncorrectable), and whether it reads weak at a margin (R519). -/
structure OtpWord where
  data : BitVec 32
  written : Bool
  part : Bool
  err : Nat
  weak : Bool
  deriving DecidableEq, Repr

/-- The OTP: the ECC words that are not blank, by rising word number; the three copies of the lock word (R516); the
three copies of each counter's 256 bits (R517); and the ECC words as the last cold start read them, which are the values
in use until the next one (R519, R521). -/
structure OtpSt where
  words : List (Nat × OtpWord)
  lock : List (BitVec 32)
  cnt : List (List (BitVec 256))
  used : List (Nat × OtpWord)
  /-- words of COUNTERS whose margin reads differ from their normal read (R519, R523) -/
  weakCnt : List Nat
  deriving DecidableEq, Repr

/-- In-service repair: OTP SERVICE raises that wait (R563) and the losses already recorded; failures of each endpoint with
their uptimes (R562); SRAM words that have shown a double-bit error, and blocks with a hard fault that wait to be mapped
(R554); the 1 KB blocks mapped onto reserve blocks, in order (block, reserve block); and reserve blocks marked unusable
(R553). -/
structure SvcSt where
  due : Nat
  seen : List Nat
  fails : List (Nat × Nat)
  hits : List Nat
  hard : List Nat
  remap : List (Nat × Nat)
  unusable : List Nat
  deriving DecidableEq, Repr

/-! ## Host interfaces, fabric, time, flash (chapters 15, 16, 18, 20, 22) -/

/-- Host SPI: the bytes the device sent in the last transaction; rings whose tail an unconfirmed PULL has delivered
(R392); IRQ_N is to be released for a moment (R394); ERR_ADDR holds the first error's address until ERR is cleared. -/
structure SpiSt where
  tx : List Byte
  held : List Nat
  repulse : Bool
  addrHeld : Bool
  deriving DecidableEq, Repr

/-- An open SMBus assembly (R406): its ring, its bytes, the SEQ expected next and the bytes of the last fragment. -/
structure SmbAsm where
  ring : Nat
  bytes : List Byte
  next : Nat
  last : List Byte
  deriving DecidableEq, Repr

/-- A pull delivery (R408): its ring, the offset, length and SEQ of the fragment delivered last. -/
structure SmbDel where
  ring : Nat
  off : Nat
  len : Nat
  seq : Nat
  deriving DecidableEq, Repr

/-- SMBus: the bytes the device sent in the last transaction; the open assembly; the delivery position; a notification
under way, NOTIFY_MIN running, and a cause held back in it (R415 to R417); a bus recovery is under way (R414). -/
structure SmbSt where
  tx : List Byte
  asm : Option SmbAsm
  del : Option SmbDel
  notifying : Bool
  quiet : Bool
  heldBack : Bool
  recover : Bool
  deriving DecidableEq, Repr

/-- A message being assembled from cells (R441). -/
structure WeftAsm where
  kind : Nat
  src : Nat
  msgId : Nat
  link : Nat
  cls : Nat
  next : Nat
  bytes : List Byte
  whole : Bool
  deriving DecidableEq, Repr

/-- Weft: cells that wait in a link buffer for a slot; cells that wait for a credit; the cell sent last on each link;
CMD and ring 7 assemblies; the next fabric command of classes M and B is due before the host's (R441); WEFT_SEND
commands whose last cell has not left, with the MSG_ID; the next MSG_ID; the credits returned to each neighbour since its link
came UP, link by link and class by class (R440). -/
structure WeftSt where
  waiting : List (Link × CellClass × Cell)
  out : List (Link × CellClass × Cell)
  last : Vector (Option Cell) 2
  asm : List WeftAsm
  turn : Vector Bool 2
  sending : List (Packet × Nat)
  nextId : Nat
  given : Vector Nat 6
  deriving DecidableEq, Repr

/-- Device time (R445 to R447, R457): the last 16 delay measurements of each link, in 312.5 ps; consecutive SYNCs below
20 ns; what the last SYNC of each link showed (master ID, HOPS); the latched TIME_HI; the last SYNC sent on each link. -/
structure TimeSt where
  delays : Vector (List Nat) 2
  consec : Nat
  shown : Vector (Option (Nat × Nat)) 2
  hi : Nat
  sent : Vector (Option SyncSet) 2
  deriving DecidableEq, Repr

/-- A snapshot that waits for its boundary (R450): the boundary, the ID, whether that is a scheduled ID, the flags, and
the commands that wait for it. -/
structure SnapReq where
  at_ : Nat
  id : Nat
  sched : Bool
  flags : Nat
  waiters : List Packet
  deriving DecidableEq, Repr

/-- A shadow bank (R452): the counters it holds, by their keys, and the ID of the snapshot that loaded each page. -/
structure Bank where
  data : RegTable
  ids : List (Nat × Nat)
  deriving DecidableEq, Repr

/-- Snapshots: those pending; the banks; local IDs given; requests that wait for the pin (R454). -/
structure SnapSt where
  pend : List SnapReq
  banks : Vector Bank 2
  count : Nat
  drive : List (Option Packet)
  deriving DecidableEq, Repr

/-- A copy of the slot directory (R487): its sequence number, the active slot and the two slot states. -/
structure DirCopy where
  seq : Nat
  active : Nat
  a : Nat
  b : Nat
  deriving DecidableEq, Repr

/-- Flash (R486): the image slots' bytes; the copies of the slot directory that pass their CRC; the staged package (header,
body, marked complete); and the update journal (OUT_INDEX, OUT_CRC, first four bytes of BODY_HASH). -/
structure FlashSt where
  slots : Vector (List Byte) 2
  dir : Vector (Option DirCopy) 2
  stage : Option (List Byte × List Byte × Bool)
  journal : List (Nat × Nat × Nat)
  deriving DecidableEq, Repr

/-- Boot: the slot the running image came from (0 A, 1 B, 2 host, 3 none); an image the host has pushed; the bytes of the
code each Marl engine runs; UPD_COMMIT came before a host boot's UPD_END (R505); engines moved by a rolling reload; the
length of the last UPD_DATA piece (R500); an update was under way at the last reset and is still to be examined (R502); a
reset that Chalk forced has happened since the start (R496); UPD_COMMIT has asked for a warm reset that is still to begin
(R503). -/
structure BootSt where
  run : Nat
  host : List Byte
  marl : Vector (List Byte) 2
  early : Bool
  rolled : List Nat
  piece : Nat
  exam : Bool
  forced : Bool
  warmDue : Bool
  deriving DecidableEq, Repr

/-- Resets and power: uptime at SAFE entry; uptimes of supervised warm resets (R537); samples at or above TSD in a row
(R547); SOLO_HOLD (R580); SAFE was entered in a warm reset, which completes into it (R538); THERMAL_WARN has been written
for the crossing that stands (R547); and the SSC_DEPTH that the modulation runs with, 0 for none (R530). -/
structure PowSt where
  safeAt : Nat
  storms : List Nat
  hot : Nat
  solo : Bool
  intoSafe : Bool
  warned : Bool
  ssc : Nat
  deriving DecidableEq, Repr

/-- The state of the block. -/
structure State where
  dev : DevState
  regs : RegTable
  ports : Vector PortSt 32
  rings : Vector RingSt 40
  mbox : Vector Mbox 64
  /-- staging words 1 to 7 of each sending endpoint (R349) -/
  staging : Vector (List Word) 16
  /-- NOTICE registers (R353) -/
  notice : Vector (BitVec 64) 16
  /-- STOP[n] (R375) -/
  stop : BitVec 32
  role : RolePolicy
  /-- the role policy as it stood at the last bus loss: V_ISL, DROOP_PCT and ISL_SHED of the island (R160) -/
  islRole : RolePolicy
  /-- uptime at which the island began (R180), none when not islanded -/
  island : Option Nat
  /-- energy returned to the bus in the island, µJ (R187), and the management tick of the last return swap (R186) -/
  islandE : Nat
  returnTick : Option Nat
  supply : SupplySt
  feeds : FeedsSt
  /-- monitors whose check has failed once and is to be repeated (R303), with the failed step; chip monitors 128 to 135
  marked FAILED (R324) -/
  monRepeat : List (Nat × Nat)
  chipFailed : BitVec 8
  otp : OtpSt
  /-- V_BUS, the latest BUS_SNS sample, Q8.24 (R189) -/
  busV : Int
  /-- converters marked for the mid-scale check (R252), and the rotation step that is being repeated, 1 or 4, else 0 (R231) -/
  adcCheck : BitVec 9
  adcRepeat : Nat
  /-- the converter whose calibration comes next, and the disagreement that waits for the mid-scale check: converter and
  largest difference, LSB (R229, R231) -/
  calNext : Nat
  adcCal : Option (Nat × Nat)
  /-- in-service repair (chapter 23) -/
  svc : SvcSt
  /-- engines whose move was planned (R219) -/
  planned : BitVec 2
  /-- updates that each engine has computed since the last management tick (R215) -/
  updates : Vector Nat 2
  bud : BudSt
  led : LedSt
  pair : PairSt
  spi : SpiSt
  smb : SmbSt
  weft : WeftSt
  tim : TimeSt
  snap : SnapSt
  flash : FlashSt
  boot : BootSt
  pow : PowSt
  /-- objects of the flash policy area, a SET_POLICY payload by TARGET and a port profile's 32 bytes under 0x10000 + n: both
  copies, each absent where it fails its CRC-32 (R366) -/
  polFlash : List (Nat × Option (List Byte) × Option (List Byte))
  /-- retired mask of the flash policy area (R284) -/
  retiredMask : BitVec 32
  retiredFeeds : BitVec 2
  /-- FAILED marks of the flash policy area that a cold start has still to restore (R304): monitor indices, 136 + k for
  converter k -/
  marks : List Nat
  /-- device time, ns (R443), and the part of a nanosecond that RATE has left over, in 1e-9 ns -/
  time : Nat
  frac : Int
  /-- ns since power-on that the model has counted; windows of 60 s and 600 s use it -/
  up : Nat
  /-- commands of rings 2 and 3 served in the present round of 4 : 1 (R357) -/
  served2 : Nat
  /-- how many free values have been taken (the model's own, assumption 3) -/
  freeCount : Nat
  /-- commands waiting, first in, first out -/
  pending : List Instr
  deriving DecidableEq, Repr

/-- *Default* profile (R107). -/
def Profile.default : Profile :=
  ⟨true, true, true, true, false, 0x3F, 10, 240, 500, 50, 200, 300, 60⟩

/-- DESIGN CHOICE, assumption 1. -/
def CcSt.reset : CcSt := ⟨.open_, false, false, 0, 0, 0, false, false, false, 0, false, false, false, 0, 0⟩
/-- DESIGN CHOICE, assumption 1. -/
def PhySt.reset : PhySt := ⟨none, [], [], [], none, false, false, false, false, false, none, none, 0⟩
/-- DESIGN CHOICE, assumption 1. -/
def SwapSt.reset : SwapSt := ⟨.none, .pr, false, false, .host, [], false, false, false, 0, false, false⟩
/-- DESIGN CHOICE, assumption 1. -/
def PeSt.reset : PeSt :=
  ⟨none, none, [], .none, 0, false, 0, .none, 0, .none, false, false, false, .none, .none, true, false, 0, 0, false,
   false, false, false, false, false, none, none, .reset⟩
/-- DESIGN CHOICE, assumption 1. -/
def LoopSt.reset : LoopSt :=
  ⟨0, 0, 0, 0, 0, 0, 0, 0, 0, 0, 0, 0, 0, 0, 0, 0, .none, .none, [], 0, 0, 0, 0, 0, 0, false, false, false, false,
   0, false, [], none, false, true, 0, false, 0, false, none, 0⟩
/-- DESIGN CHOICE, assumption 1. -/
def PwmSt.reset : PwmSt := ⟨none, false, 0, 0, 0, 0⟩
/-- DESIGN CHOICE, assumption 1. -/
def ModelSt.reset : ModelSt :=
  ⟨0, 0, 0, 0, 0, 0, 0, 0, 0, 0, 0, 0, 0, 0, 0, 0, 0, 0, false, false, 0, 0, 0, 0, 0, false, 0, none, 0, 0, false, 0, 0⟩
/-- DESIGN CHOICE, assumption 1. -/
def GuardSt.reset : GuardSt := ⟨0, 0, .none, .none, [], false, false, false, false, 0, false, 900, 900, false, false, 0, 0, false,
  false, false, 0⟩
/-- DESIGN CHOICE, assumption 1. -/
def RingSt.reset : RingSt := ⟨[], false, 0, false, 0, false⟩
/-- DESIGN CHOICE, assumption 1. -/
def Mbox.reset : Mbox := ⟨[], false, false, 0, 0, []⟩

/-- No session. (DESIGN CHOICE, assumption 1) -/
def Session.closed : Session :=
  ⟨false, false, false, 0, 0, Option.none, Option.none, 0, 0, [0, 0, 0, 0, 0, 0, 0, 0], 0, 0, 0, 0, 0, 0, 0, 0, 0, 0,
   Option.none, Option.none, false, 0, false, false, false, false, [], [], [], 0, 0, 0, 0, 0, 0⟩

/-- A port right after a cold reset. (DESIGN CHOICE, assumption 1) -/
def PortSt.reset : PortSt :=
  ⟨.reset, .reset, .default, none, false, .reset, .reset, .reset, .reset, .reset, .reset, .closed,
   ⟨0, 0, 0, 0, false⟩, none, none, []⟩

/-- *Role policy table* defaults (R160). -/
def RolePolicy.default : RolePolicy :=
  ⟨true, true, 500, 4, 10, 30, Vector.replicate 32 0x3D, Vector.replicate 32 0⟩

/-- An OTP with no fuse set. (DESIGN CHOICE, assumption 8) -/
def OtpSt.blank : OtpSt := ⟨[], [0, 0, 0], [[0, 0, 0], [0, 0, 0], [0, 0, 0]], [], []⟩

/-- DESIGN CHOICE, assumption 1. -/
def PairSt.reset : PairSt :=
  ⟨none, none, 0, [], 0, 0, none, [], [], 0, false, false, 0, none, false, false, false, Vector.replicate 4 none, [],
   none, none, false, false, false, false, [], (0, []), none⟩

/-- DESIGN CHOICE, assumption 1. -/
def WeftSt.reset : WeftSt := ⟨[], [], Vector.replicate 2 none, [], Vector.replicate 2 false, [], 0, Vector.replicate 6 0⟩
/-- DESIGN CHOICE, assumption 1. -/
def TimeSt.reset : TimeSt := ⟨Vector.replicate 2 [], 0, Vector.replicate 2 none, 0, Vector.replicate 2 none⟩
/-- DESIGN CHOICE, assumption 1. -/
def SnapSt.reset : SnapSt := ⟨[], Vector.replicate 2 ⟨[], []⟩, 0, []⟩

/-- The block right after reset: every register field at its reset value (none listed), all else as the spec gives it
or as assumption 1 names it. -/
def State.reset : State where
  dev := .boot
  regs := []
  ports := Vector.replicate 32 .reset
  rings := Vector.replicate 40 .reset
  mbox := Vector.replicate 64 .reset
  staging := Vector.replicate 16 []
  notice := Vector.replicate 16 0
  stop := 0
  role := .default
  islRole := .default
  island := none
  islandE := 0
  returnTick := none
  supply := ⟨false, false, false, 0, 0, 0, 0⟩
  feeds := ⟨Vector.replicate 2 .reset, 0, 0, false, false, false, false, 0⟩
  monRepeat := []
  chipFailed := 0
  otp := .blank
  busV := 0
  adcCheck := 0
  adcRepeat := 0
  calNext := 0
  adcCal := none
  svc := ⟨0, [], [], [], [], [], []⟩
  planned := 0
  updates := Vector.replicate 2 0
  bud := ⟨[], 0, true, 0, false⟩
  led := ⟨[], List.replicate 8 [], [], Vector.replicate 2 none, []⟩
  pair := .reset
  spi := ⟨[], [], false, false⟩
  smb := ⟨[], none, none, false, false, false, false⟩
  weft := .reset
  tim := .reset
  snap := .reset
  flash := ⟨Vector.replicate 2 [], Vector.replicate 2 none, none, []⟩
  boot := ⟨3, [], Vector.replicate 2 [], false, [], 0, false, false, false⟩
  pow := ⟨0, [], 0, false, false, false, 0⟩
  polFlash := []
  retiredMask := 0
  retiredFeeds := 0
  marks := []
  time := 0
  frac := 0
  up := 0
  served2 := 0
  freeCount := 0
  pending := []

/-- Why a run can stop: no command of this block ends in a fault (each has an effect in every state), so the type has
no constructor that any step raises; `unused` exists so that the type is inhabited. -/
inductive Fault where
  /-- raised by nothing; safe -/
  | unused
  deriving DecidableEq, Repr

/-- Why a command has no meaning. -/
inductive Refusal where
  /-- raised by an arm of Machine/Dispatch.lean for a command not modelled yet; safe -/
  | notModelled (mnemonic : String)
  deriving DecidableEq, Repr

end Sys2Proof.Machine
end

