-- ==== Sys2Proof/Machine/Ops.lean ====
section
/-! DEFINITION. The named operations every meaning is built from: reading and writing register fields, interrupt
bits, error codes, event records, packets and responses, and per-port records. -/

namespace Sys2Proof.Machine

/-- *Status codes* (R16). -/
abbrev stOK : Nat := 0x00
abbrev stBUSY : Nat := 0x01
abbrev stBAD_ARG : Nat := 0x02
abbrev stDENIED : Nat := 0x03
abbrev stABORTED : Nat := 0x04
abbrev stTIMEOUT : Nat := 0x05
abbrev stNOT_READY : Nat := 0x06
abbrev stLOCKED : Nat := 0x07
abbrev stINTEGRITY : Nat := 0x08
abbrev stNO_SPACE : Nat := 0x09
abbrev stCRC : Nat := 0x0A
abbrev stLOCKED_REFUSED : Nat := 0x0B
abbrev stDEFERRED_EXPIRED : Nat := 0x0C
abbrev stBAD_ACCESS : Nat := 0x0D

/-! ## Fields -/

/-- Value of instance `i` of a field. -/
def State.rd (s : State) (F : Field) (i : Nat) : Nat := s.regs.get (F.key i) (F.reset.at i)

/-- Signed value of a field. -/
def State.rdI (s : State) (F : Field) (i : Nat) : Int := sext F.width (s.rd F i)

/-- A one-bit field, or any field that is not zero. -/
def State.on (s : State) (F : Field) (i : Nat) : Bool := s.rd F i != 0

/-- Write a field: the value is cut to the field's width. -/
def State.wr (s : State) (F : Field) (i v : Nat) : State :=
  { s with regs := s.regs.put (F.key i) (F.reset.at i) (v % 2 ^ F.width) }

/-- Write a signed field in two's complement. -/
def State.wrI (s : State) (F : Field) (i : Nat) (v : Int) : State := s.wr F i (unsx F.width v)

/-- Write a one-bit field. -/
def State.flag (s : State) (F : Field) (i : Nat) (b : Bool) : State := s.wr F i (if b then 1 else 0)

/-- Count up, stopping at the field's largest value (R428). -/
def State.bump (s : State) (F : Field) (i : Nat) : State := s.wr F i (min (s.rd F i + 1) (2 ^ F.width - 1))

/-- Add to a counter, stopping at its largest value. -/
def State.bumpBy (s : State) (F : Field) (i n : Nat) : State := s.wr F i (min (s.rd F i + n) (2 ^ F.width - 1))

/-- Write `v` held at the field's largest value. -/
def State.wrSat (s : State) (F : Field) (i v : Nat) : State := s.wr F i (min v (2 ^ F.width - 1))

/-- Bit `n` of a field. -/
def State.bit (s : State) (F : Field) (i n : Nat) : Bool := (s.rd F i).testBit n

/-- Write bit `n` of a field. -/
def State.wrBit (s : State) (F : Field) (i n : Nat) (b : Bool) : State :=
  s.wr F i (if b then s.rd F i ||| 2 ^ n else s.rd F i - (if (s.rd F i).testBit n then 2 ^ n else 0))

/-! ## Common registers (R422) -/

/-- PAGE_CTL.SNAP_EXCLUDE. -/
def SNAP_EXCLUDE (pg : Nat) : Field := ⟨pg, 0x004, 3, 1, 0, 1, .all 0, .rw, 0, 1⟩
/-- PAGE_CTL.LOCK. -/
def LOCK (pg : Nat) : Field := ⟨pg, 0x004, 2, 1, 0, 1, .all 0, .w1s, 0, 1⟩
/-- PAGE_CTL.EN. -/
def EN (pg : Nat) : Field :=
  ⟨pg, 0x004, 0, 1, 0, 1, .all 1, if pg = WEFT.page ∨ pg = TEST.page then .rw else .ro, 0, 1⟩
/-- IRQ_RAW: the level causes that stand; an event cause shows for one cycle only (R426). -/
def IRQ_RAW (pg : Nat) : Field := ⟨pg, 0x00C, 0, 32, 0, 1, .all 0, .ro, 0, 0xFFFFFFFF⟩
/-- The defined interrupt bits of each page. -/
def irqDefined (pg : Nat) : Nat :=
  if pg = 0x100 then CC.irqBits else if pg = 0x101 then PD.irqBits else if pg = 0x102 then LOOP.irqBits
  else if pg = 0x103 then GUARD.irqBits
  else [SYS.irqBits, CLK.irqBits, RST.irqBits, OTP.irqBits, BOOT.irqBits, MBX.irqBits, RING.irqBits, HSPI.irqBits,
    SMB.irqBits, WEFT.irqBits, TIME.irqBits, PAIR.irqBits, LEDGER.irqBits, FEED.irqBits, ADC.irqBits,
    BUDGET.irqBits, TEST.irqBits, CHALK.irqBits, CORE.irqBits, IRQ.irqBits, MARL.irqBits, PWM.irqBits].getD pg 0
/-- IRQ_EN: every defined bit is 1 at reset. -/
def IRQ_EN (pg : Nat) : Field :=
  ⟨pg, 0x010, 0, 32, 0, 1, .all (irqDefined pg), .rw, 0, 0xFFFFFFFF⟩
/-- IRQ_STAT. -/
def IRQ_STAT (pg : Nat) : Field := ⟨pg, 0x014, 0, 32, 0, 1, .all 0, .w1c, 0, 0xFFFFFFFF⟩
/-- ERR_CODE.ERR_SEQ. -/
def ERR_SEQ (pg : Nat) : Field := ⟨pg, 0x01C, 24, 8, 0, 1, .all 0, .ro, 0, 255⟩
/-- ERR_CODE.CODE. -/
def ERR_CODE (pg : Nat) : Field := ⟨pg, 0x01C, 16, 8, 0, 1, .all 0, .ro, 0, 255⟩
/-- ERR_CODE.OFFSET: byte offset [11:2] of the register. -/
def ERR_OFFSET (pg : Nat) : Field := ⟨pg, 0x01C, 4, 10, 0, 1, .all 0, .ro, 0, 1023⟩

/-- A cause of page `pg`, instance `i`, occurs: IRQ_STAT sets whatever IRQ_EN holds (R426). -/
def State.irq (s : State) (pg i b : Nat) : State := s.wrBit (IRQ_STAT pg) i b true

/-- A level cause rises or falls: IRQ_RAW follows it, IRQ_STAT sets on its rise (R426). -/
def State.level (s : State) (pg i b : Nat) (v : Bool) : State :=
  let s1 := s.wrBit (IRQ_RAW pg) i b v
  if v && !s.bit (IRQ_RAW pg) i b then s1.irq pg i b else s1

/-- ERR_CODE of a page records a status: ERR_SEQ advances, CODE and OFFSET name it (R422). -/
def State.err (s : State) (pg i code off : Nat) : State :=
  ((s.wr (ERR_SEQ pg) i (s.rd (ERR_SEQ pg) i + 1)).wr (ERR_CODE pg) i code).wr (ERR_OFFSET pg) i (off / 4)

/-- ERR_CODE records a status against a field's register. -/
def State.errF (s : State) (F : Field) (i code : Nat) : State := s.err F.page i code F.off

/-! ## Ports -/

/-- The record of port `p`. -/
def State.port (s : State) (p : Port) : PortSt := s.ports.get p

/-- Change the record of port `p`. -/
def State.modPort (s : State) (p : Port) (f : PortSt → PortSt) : State :=
  { s with ports := s.ports.set p (f (s.ports.get p)) p.isLt }

/-- Change the CC record of port `p`. -/
def State.cc (s : State) (p : Port) (f : CcSt → CcSt) : State := s.modPort p fun x => { x with cc := f x.cc }
/-- Change the PHY record of port `p`. -/
def State.phy (s : State) (p : Port) (f : PhySt → PhySt) : State := s.modPort p fun x => { x with phy := f x.phy }
/-- Change the policy-engine record of port `p`. -/
def State.pe (s : State) (p : Port) (f : PeSt → PeSt) : State := s.modPort p fun x => { x with pe := f x.pe }
/-- Change the swap record of port `p`. -/
def State.swp (s : State) (p : Port) (f : SwapSt → SwapSt) : State := s.modPort p fun x => { x with swap := f x.swap }
/-- Change the loop record of port `p`. -/
def State.loop (s : State) (p : Port) (f : LoopSt → LoopSt) : State := s.modPort p fun x => { x with loop := f x.loop }
/-- Change the model record of port `p`. -/
def State.model (s : State) (p : Port) (f : ModelSt → ModelSt) : State :=
  s.modPort p fun x => { x with model := f x.model }
/-- Change the guard record of port `p`. -/
def State.grd (s : State) (p : Port) (f : GuardSt → GuardSt) : State :=
  s.modPort p fun x => { x with guard := f x.guard }

/-- The ports in order. -/
def allPorts : List Port := List.finRange 32

/-- Do `f` for every port of a list, in order. -/
def State.forPorts (s : State) (l : List Port) (f : State → Port → State) : State := l.foldl f s

/-! ## The budget policy in force (R159) -/

/-- A BUDGET or LEDGER field of the active policy: its value at the last tick, not the one last written (R159, R345). -/
def State.act (s : State) (F : Field) (i : Nat) : Nat := s.bud.act.get (F.key i) (F.reset.at i)

/-- CAP in µW, and the register in W. -/
def State.setCap (s : State) (uw : Nat) : State :=
  let s1 : State := { s with bud := { s.bud with cap := uw } }
  s1.wrSat BUDGET.CAP 0 (uw / 10 ^ 6)

/-! ## Free values -/

/-- The next free value, and the state with one more taken. (DESIGN CHOICE, assumption 3) -/
def State.fresh (s : State) : BitVec 64 × State :=
  (Config.freeValue s.freeCount, { s with freeCount := s.freeCount + 1 })

/-! ## Rings (R355 to R361) -/

/-- Granules of each ring (R355). -/
def ringSize (q : Nat) : Nat :=
  [8, 512, 1536, 2048, 2048, 256, 256, 1024].getD q 128

/-- Granules a packet takes (R356). -/
def packetGranules (p : Packet) : Nat := cdiv (16 + 4 * cdiv p.payload.length 4 + 4) 32

/-- Granules an entry takes; a ring 0 entry takes one place. -/
def Entry.granules : Entry → Nat
  | .ev _ => 1
  | .pkt p _ => packetGranules p

/-- Granules used (RING_STAT.OCC). -/
def RingSt.occ (r : RingSt) : Nat := (r.entries.map Entry.granules).sum

/-- The ring `q`. -/
def State.ring (s : State) (q : Fin 40) : RingSt := s.rings.get q

/-- Replace the ring `q`. -/
def State.setRing (s : State) (q : Fin 40) (r : RingSt) : State := { s with rings := s.rings.set q r q.isLt }

/-- When the occupancy reaches HWM the ring throttles (R361). -/
def State.ringFilled (s : State) (q : Fin 40) : State :=
  let r := s.ring q
  if !r.throttle && decide (s.rd RING.HWM q ≤ r.occ) && decide (5 ≤ q.val ∧ q.val ≠ 7) then
    ((s.setRing q { r with throttle := true, coalS := min 1 (s.rd RING.COAL_CAP q) }).bump RING.THROTTLE_CNT 0).irq
      RING.page 0 RING.IRQ_THROTTLE
  else s

/-- When the occupancy falls to LWM the throttle ends, and a ring that refused a push reports space (R361, R379). -/
def State.ringDrained (s : State) (q : Fin 40) : State :=
  let r := s.ring q
  if r.occ ≤ s.rd RING.LWM q then
    let s1 := s.setRing q { r with throttle := false, coalS := 0, refused := false }
    if r.refused then s1.irq RING.page 0 RING.IRQ_SPACE else s1
  else s

/-- COAL_WIN in ns (R361). (DEDUCED, assumption 26) -/
def State.coalWin (s : State) (q : Fin 40) : Nat := s.rd RING.COAL_BASE q * 2 ^ (s.ring q).coalS * 1000000

/-- Word 0 of two records agrees. -/
def EvRec.same0 (a b : EvRec) : Bool :=
  a.sev == b.sev && a.port == b.port && a.code == b.code && a.src == b.src

/-- The entry is a record of severity `v`. -/
def Entry.hasSev (v : Nat) : Entry → Bool
  | .ev r => r.sev == v
  | .pkt _ _ => false

/-- The entry is a record with this SRC and CODE. -/
def Entry.hasKind (src code : Nat) : Entry → Bool
  | .ev r => r.src == src && r.code == code
  | .pkt _ _ => false

/-- Another record of the list also holds the entry's SRC and CODE. -/
def Entry.paired (l : List Entry) : Entry → Bool
  | .ev r => decide (2 ≤ (l.filter (Entry.hasKind r.src r.code)).length)
  | .pkt _ _ => false

/-- Numbers that the ring has given since an entry took its own: the oldest entry has the most (R359). -/
def Entry.age (n : Nat) : Entry → Nat
  | .ev r => (n + 2 ^ 32 - r.seq) % 2 ^ 32
  | .pkt _ k => (n + 2 ^ 32 - k) % 2 ^ 32

/-- The place of the oldest entry of `l` that meets `f`, from place `i` on. (DEDUCED, assumption 114) -/
def oldestAt (n : Nat) (f : Entry → Bool) : Nat → Option (Nat × Nat) → List Entry → Option Nat
  | _, best, [] => best.map Prod.fst
  | i, best, e :: t =>
    let better := f e && (match best with
      | some (_, a) => decide (a < e.age n)
      | none => true)
    oldestAt n f (i + 1) (if better then some (i, e.age n) else best) t

/-- The place of the newest entry of `l`. (DEDUCED, assumption 114) -/
def newestAt (n : Nat) : Nat → Option (Nat × Nat) → List Entry → Option Nat
  | _, best, [] => best.map Prod.fst
  | i, best, e :: t =>
    let better := match best with
      | some (_, a) => decide (e.age n < a)
      | none => true
    newestAt n (i + 1) (if better then some (i, e.age n) else best) t

/-- The place of the oldest unlocked entry that meets `f`: a locked tail may be neither dropped nor replaced (R356).
(DEDUCED, assumption 114) -/
def RingSt.oldest (r : RingSt) (f : Entry → Bool) : Option Nat :=
  let k := if r.locked then 1 else 0
  (oldestAt (r.seq % 2 ^ 32) f 0 none (r.entries.drop k)).map (· + k)

/-- Append a record with the next sequence number. -/
def RingSt.append (r : RingSt) (e : EvRec) : RingSt :=
  { r with entries := r.entries ++ [.ev { e with seq := r.seq % 2 ^ 32 }], seq := r.seq + 1 }

/-- Coalesce a repeat into the newest record when R361 says so. -/
def State.coalesce (s : State) (q : Fin 40) (coal : Bool) (e : EvRec) : Option State :=
  let r := s.ring q
  match newestAt (r.seq % 2 ^ 32) 0 none r.entries with
  | none => none
  | some i =>
    match r.entries[i]? with
    | some (.ev w) =>
      if coal && !(r.locked && i == 0) && decide (0 < s.rd RING.COAL_BASE q) && w.same0 e
          && (r.throttle || (w.d4 == e.d4 && w.d5 == e.d5 && w.d6 == e.d6))
          && decide (e.time - w.time ≤ s.coalWin q) then
        some ((s.setRing q { r with
          entries := r.entries.set i (.ev { w with d7 := min (w.d7 + 1) 0xFFFFFFFF }) }).bump RING.COAL_CNT 0)
      else none
    | _ => none

/-- A dropped record is counted. -/
def State.dropped (s : State) (q : Fin 40) : State := (s.bump RING.CNT q).irq RING.page 0 RING.IRQ_DROP

/-- EVENT_READY. (DEDUCED, assumption 115) -/
def State.eventReady (s : State) : State := s.irq RING.page 0 RING.IRQ_EVENT_READY

/-- Make room in a full ring for record `e`, or merge it, or drop it (R361). -/
def State.pushFull (s : State) (q : Fin 40) (e : EvRec) : State :=
  let r := s.ring q
  let v := match r.oldest (Entry.hasSev 0) with
    | some i => some i
    | none => r.oldest (Entry.hasSev 1)
  match v with
  | some i => ((s.setRing q (({ r with entries := r.entries.eraseIdx i } : RingSt).append e)).dropped q).eventReady
  | none =>
    if e.sev ≤ 1 then s.dropped q
    else
      let w := match r.oldest (Entry.hasKind e.src e.code) with
        | some i => some i
        | none => r.oldest (Entry.paired r.entries)
      match w with
      | some i =>
        (((s.setRing q { r with
          entries := r.entries.set i (.ev { e with seq := r.seq % 2 ^ 32 }), seq := r.seq + 1 }).bump RING.MERGE_CNT
            0).irq RING.page 0 RING.IRQ_MERGE).eventReady
      | none => s.dropped q

/-- Write a record to an event ring by the procedure of R361. (DEDUCED, assumption 115) -/
def State.writeRec (s : State) (q : Fin 40) (coal : Bool) (e : EvRec) : State :=
  match s.coalesce q coal e with
  | some s1 => s1
  | none =>
    if ringSize q ≤ (s.ring q).occ then s.pushFull q e
    else ((s.setRing q ((s.ring q).append e)).ringFilled q).eventReady

/-- The ring of an event (R355). -/
def EvKind.ringOf (k : EvKind) (port : Nat) : Fin 40 :=
  match k.ring with
  | .sys => 5
  | .led => 6
  | .port => if h : port < 32 then ⟨8 + port, by omega⟩ else 5

/-- The fault counter of a ledger record that an event feeds (R335). -/
def faultIndex (code : Nat) : Option Nat :=
  [(0x60, 0), (0x29, 1), (0x26, 2), (0x27, 2), (0x2A, 3), (0x37, 5), (0x5C, 6), (0x59, 7)].lookup code

/-- A session notes a port event for its record's fault history (R335). -/
def Session.note (x : Session) (code page sev time : Nat) : Session :=
  if !x.isOpen then x
  else
    let y := match faultIndex code with
      | some k => { x with faults := x.faults.modify k (· + 1) }
      | none => x
    if 2 ≤ sev then { y with lastCode := code, lastPage := page, lastTime := time } else y

/-- Write an event of an event table, with a severity of its own (R360, R361); an event of a port in a session feeds the
partner's fault history (R335). -/
def State.eventSev (s : State) (k : EvKind) (sev port d4 d5 d6 d7 : Nat) : State :=
  let s := match k.ring with
    | .port =>
      if h : port < 32 then s.modPort ⟨port, h⟩ fun x => { x with sess := x.sess.note k.code k.src sev (s.time / 10 ^ 9) }
      else s
    | _ => s
  s.writeRec (k.ringOf port) k.coal
    ⟨sev, port, k.code, k.src, s.time % 2 ^ 64, 0, d4 % 2 ^ 32, d5 % 2 ^ 32, d6 % 2 ^ 32, d7 % 2 ^ 32⟩

/-- Write an event of an event table. -/
def State.event (s : State) (k : EvKind) (port d4 d5 d6 d7 : Nat) : State := s.eventSev k k.sev port d4 d5 d6 d7

/-- A signed detail word. -/
def wd (x : Int) : Nat := unsx 32 x

/-- Push a packet on a packet ring; a push with too little free space is refused, counts CNT and changes nothing else
(R356). -/
def State.pushPacket (s : State) (q : Fin 40) (p : Packet) : Option State :=
  let r := s.ring q
  if ringSize q < r.occ + (if q.val = 0 then 1 else packetGranules p) then none
  else some (s.setRing q { r with entries := r.entries ++ [.pkt p (r.seq % 2 ^ 32)], seq := r.seq + 1 })

/-- A refused push is counted (R356). -/
def State.pushRefused (s : State) (q : Fin 40) : State :=
  (s.setRing q { s.ring q with refused := true }).bump RING.CNT q

/-! ## Reading the OTP (R510, R511) -/

/-- An ECC word that nothing has programmed. -/
def OtpWord.blank : OtpWord := ⟨0, false, false, 0, false⟩

/-- An ECC word. (DESIGN CHOICE, assumption 63) -/
def State.otpWord (s : State) (w : Nat) : OtpWord := (s.otp.words.lookup w).getD .blank

/-- Value of a word: 0 unless it is written and can be read. (DESIGN CHOICE, assumption 63) -/
def OtpWord.value (x : OtpWord) : Nat := if x.written && x.err != 2 then x.data.toNat else 0

/-- The header of a region is valid: its code, format 1, and a declared count of 1 to the region size less 2. -/
def headerOk (h code size : Nat) : Bool := decide (h / 2 ^ 24 = code ∧ bits h 23 16 = 1 ∧ 1 ≤ h % 2 ^ 16 ∧ h % 2 ^ 16 ≤ size - 2)

/-- Region `code`: first word and size. -/
def otpRegion : Nat → Nat × Nat
  | 1 => (4, 60) | 2 => (64, 128) | 3 => (192, 32) | 4 => (224, 64) | _ => (384, 128)

/-- An ECC word as the last cold start read it. -/
def State.otpUsed (s : State) (w : Nat) : OtpWord := (s.otp.used.lookup w).getD .blank

/-- Word `i` of a region as a consumer reads it (R511): below the declared count and written, otherwise 0. -/
def State.otpField (s : State) (code i : Nat) : Nat :=
  let (base, size) := otpRegion code
  let h := s.otpUsed base
  if h.written && headerOk h.value code size && decide (i < h.value % 2 ^ 16) then (s.otpUsed (base + i)).value else 0

/-- VID, PID, XID and bcdDevice of CONFIG (R98). -/
def State.vid (s : State) : Nat := s.otpField 4 4 % 2 ^ 16
def State.pid (s : State) : Nat := s.otpField 4 4 / 2 ^ 16
def State.xid (s : State) : Nat := s.otpField 4 5
def State.bcdDevice (s : State) : Nat := s.otpField 4 6 % 2 ^ 16

/-! ## Engines (R347) -/

/-- Engine states of R347. -/
abbrev enOff : Nat := 0
abbrev enLoading : Nat := 1
abbrev enRun : Nat := 2
abbrev enSleep : Nat := 3
abbrev enReset : Nat := 4
abbrev enReloading : Nat := 5
abbrev enRetired : Nat := 6
abbrev enFailed : Nat := 7

/-- LAST_CAUSE of an engine's restart. -/
abbrev lcCold : Nat := 1
abbrev lcWarm : Nat := 2
abbrev lcHeartbeat : Nat := 3
abbrev lcReload : Nat := 4
abbrev lcRetire : Nat := 5
abbrev lcMissed : Nat := 6

/-- An engine, lost or failed, counts towards its auto-retirement (R562). (DEDUCED, assumption 74) -/
def State.noteFail (s : State) (e : Nat) : State :=
  { s with svc := { s.svc with fails := s.svc.fails ++ [(e, s.up)] } }

/-- An engine is lost: FAILED until it is restarted. -/
def State.engineFailed (s : State) (e : Nat) : State := (s.wr CORE.STATE e enFailed).noteFail e

/-- An engine is lost and not yet restarted, its image being loaded or not. -/
def State.engineOut (s : State) (e : Nat) : Bool := decide (s.rd CORE.STATE e = enFailed ∨ s.rd CORE.STATE e = enLoading)

/-- An engine runs again after a cause. -/
def State.engineRestarted (s : State) (e cause : Nat) : State :=
  (((s.wr CORE.STATE e enRun).wr CORE.LAST_CAUSE e cause).wr CORE.HB_AGE e 0).bump CORE.RESTARTS e

/-! ## Device time (R444, R531) -/

/-- What RATE and the correction for spread spectrum add in one edge of 5 ns, in 1e-9 ns: SSC_DEPTH / 2 in units of 0.25 %.
(DESIGN CHOICE, assumption 2) -/
def State.ratePerEdge (s : State) : Int := 5 * (s.rdI TIME.RATE 0 + 1250000 * s.pow.ssc)

/-- One edge of device time: 5 ns, or 10 ns or none once the fractional accumulator passes ±5 ns. PLL_PWM clocks it.
(DESIGN CHOICE, assumption 2) -/
def State.timeEdge (s : State) : State :=
  if !s.on CLK.PWM_LOCK 0 then s
  else
    let f := s.frac + s.ratePerEdge
    let lim : Int := 5000000000
    if lim ≤ f then { s with time := (s.time + 10) % 2 ^ 64, frac := f - lim, up := s.up + 5 }
    else if f ≤ -lim then { s with frac := f + lim, up := s.up + 5 }
    else { s with time := (s.time + 5) % 2 ^ 64, frac := f, up := s.up + 5 }

end Sys2Proof.Machine
end

