-- ==== Sys2Proof/Machine/WeftOps.lean ====
section
/-! DEFINITION. Packets as bytes (R362, R363), cells and how a message leaves on the fabric (R436 to R440), and a
command's response, which goes to ring 4 or back over the fabric (R363, R441). -/

namespace Sys2Proof.Machine

/-! ## Packets as bytes -/

/-- A list padded with zeros to a multiple of 4. -/
def pad4 (l : List Byte) : List Byte := l ++ List.replicate ((4 - l.length % 4) % 4) 0

/-- A packet's bytes without its CRC (R362). -/
def packetHead (k : Packet) : List Byte :=
  leBytes 2 k.tag.toNat ++ [k.flags, k.op] ++ leBytes 2 k.target.toNat ++ leBytes 2 k.payload.length
    ++ leBytes 4 k.arg.toNat ++ [0, 0, 0, 0] ++ pad4 k.payload

/-- A packet's bytes. -/
def packetBytes (k : Packet) : List Byte := packetHead k ++ leBytes 4 (crc32 (packetHead k))

/-- The packet that bytes spell, its checks aside. -/
def packetOf (l : List Byte) (o : Option Origin) : Packet :=
  { tag := BitVec.ofNat 16 (bytesAt l 0 2), flags := BitVec.ofNat 8 (bytesAt l 2 1), op := BitVec.ofNat 8 (bytesAt l 3 1)
    target := BitVec.ofNat 16 (bytesAt l 4 2), arg := BitVec.ofNat 32 (bytesAt l 8 4)
    payload := (l.drop 16).take (bytesAt l 6 2), origin := o }

/-- Size in bytes of a packet with a payload of `n` bytes. -/
def packetSize (n : Nat) : Nat := 20 + 4 * cdiv n 4

/-- A stop-lane opcode (R15). -/
def stopOp (op : Nat) : Bool := decide (0xF0 ≤ op ∧ op ≤ 0xF4)

/-- An opcode of *Opcode groups* (R15). -/
def definedOp (op : Nat) : Bool :=
  decide (op ≤ 0x08 ∨ (0x10 ≤ op ∧ op ≤ 0x18) ∨ (0x30 ≤ op ∧ op ≤ 0x34) ∨ (0x40 ≤ op ∧ op ≤ 0x47)
    ∨ (0x50 ≤ op ∧ op ≤ 0x53) ∨ (0x60 ≤ op ∧ op ≤ 0x63) ∨ (0x70 ≤ op ∧ op ≤ 0x72)) || stopOp op

/-- *Packet checks* (R363): the status of the first check that fails, OK otherwise. `stop` says whether the packet came
on ring 0 or in Weft's urgent class. -/
def packetCheck (l : List Byte) (stop : Bool) : Nat :=
  if l.length < 4 ∨ bytesAt l (l.length - 4) 4 ≠ crc32 (l.take (l.length - 4)) then stCRC
  else if l.length < 20 then stBAD_ARG
  else if 4096 < bytesAt l 6 2 ∨ packetSize (bytesAt l 6 2) ≠ l.length then stBAD_ARG
  else if bytesAt l 12 4 ≠ 0 ∨ 2 ≤ bytesAt l 2 1 then stBAD_ARG
  else if !definedOp (bytesAt l 3 1) then stBAD_ARG
  else if stopOp (bytesAt l 3 1) != stop then stDENIED
  else stOK

/-! ## Links and cells -/

/-- Link states of Selvedge and Weft (R435). -/
abbrev lkDown : Nat := 0
abbrev lkAlign : Nat := 1
abbrev lkTrain : Nat := 2
abbrev lkUp : Nat := 3
abbrev lkDisabled : Nat := 4

/-- The fields of a link. -/
def linkState (l : Link) : Field := if l.val = 0 then WEFT.W0_STATE else WEFT.W1_STATE
def linkPeer (l : Link) : Field := if l.val = 0 then WEFT.W0_PEER else WEFT.W1_PEER
def linkDly (l : Link) : Field := if l.val = 0 then WEFT.W0_DLY else WEFT.W1_DLY
def linkEn (l : Link) : Field := if l.val = 0 then WEFT.W0_EN else WEFT.W1_EN
def linkRx (l : Link) : Field := if l.val = 0 then WEFT.W0_RX_CELLS else WEFT.W1_RX_CELLS
def linkTx (l : Link) : Field := if l.val = 0 then WEFT.W0_TX_CELLS else WEFT.W1_TX_CELLS
/-- Credits held for a class on a link. -/
def linkCredit (l : Link) (c : CellClass) : Field :=
  if l.val = 0 then (if c.val = 0 then WEFT.W0_U else if c.val = 1 then WEFT.W0_M else WEFT.W0_B)
  else (if c.val = 0 then WEFT.W1_U else if c.val = 1 then WEFT.W1_M else WEFT.W1_B)
/-- Full credits of a class (R440). -/
def fullCredit (c : CellClass) : Nat := if c.val = 0 then 4 else 16

/-- The other link. -/
def otherLink (l : Link) : Link := if l.val = 0 then 1 else 0

/-- A link is UP. -/
def State.weftUp (s : State) (l : Link) : Bool := s.rd (linkState l) 0 == lkUp

/-- Change the fabric record. -/
def State.weftRec (s : State) (f : WeftSt → WeftSt) : State := { s with weft := f s.weft }

/-- A cell is dropped (R438). (DEDUCED, assumption 39) -/
def State.dropCell (s : State) : State := (s.bump WEFT.DROP_CNT 0).irq WEFT.page 0 WEFT.IRQ_DROP

/-- A cell waits for a credit of this class on this link. -/
def waitsFor (l : Link) (c : CellClass) (x : Link × CellClass × Cell) : Bool := x.1 == l && x.2.1 == c

/-- The place of a link and a class among the credits returned. -/
def creditSlot (l : Link) (c : CellClass) : Fin 6 := Fin.ofNat 6 (3 * l.val + c.val)

/-- A cell has left its buffer at the input of a link, and its credit is returned to the neighbour (R440). -/
def State.freeBuffer (s : State) (l : Link) (c : CellClass) : State :=
  s.weftRec fun w =>
    { w with given := w.given.set (creditSlot l c) (w.given.get (creditSlot l c) + 1) (creditSlot l c).isLt }

/-- A forwarded cell that goes out on a link, or is dropped there, leaves its buffer at the other link's input: its HOPS are 1 or
more.  A broadcast has left it by its local delivery. (DESIGN CHOICE, assumption 198) -/
def State.forwardLeft (s : State) (l : Link) (c : CellClass) (x : Cell) : State :=
  if x.hops ≠ 0 ∧ x.bcast = false then s.freeBuffer (otherLink l) c else s

/-- A cell leaves on a link, with one credit (R440). -/
def State.transmit (s : State) (l : Link) (c : CellClass) (x : Cell) : State :=
  (((s.forwardLeft l c x).wr (linkCredit l c) 0 (s.rd (linkCredit l c) 0 - 1)).bump (linkTx l) 0).weftRec fun w =>
    { w with last := w.last.set l (some x) l.isLt }

/-- A cell is to leave on a link: at once with a credit and none of its class before it, otherwise it waits. -/
def State.sendCell (s : State) (l : Link) (c : CellClass) (x : Cell) : State :=
  if 0 < s.rd (linkCredit l c) 0 ∧ s.weft.out.any (waitsFor l c) = false then s.transmit l c x
  else s.weftRec fun w => { w with out := w.out ++ [(l, c, x)] }

/-- *Routing* (R438): the first valid entry whose range holds the ID, otherwise DEF_LINK. -/
def State.routeOf (s : State) (dst : Nat) : Link :=
  match (List.range 16).find? fun i => s.on WEFT.VALID i && decide (s.rd WEFT.LO i ≤ dst ∧ dst ≤ s.rd WEFT.HI i) with
  | some i => Fin.ofNat 2 (s.rd WEFT.LINK i)
  | none => Fin.ofNat 2 (s.rd WEFT.DEF_LINK 0)

/-- The link a cell leaves on: with RING_MODE the other link replaces one that is DOWN; none when it is not UP.
(DEDUCED, assumption 38) -/
def State.outLink (s : State) (dst : Nat) : Option Link :=
  let l0 := s.routeOf dst
  let l := if s.on WEFT.RING_MODE 0 && s.rd (linkState l0) 0 == lkDown then otherLink l0 else l0
  if s.weftUp l then some l else none

/-- The links a broadcast of the device's own leaves on (R438). -/
def State.bcastLinks (s : State) : List Link :=
  if s.on WEFT.RING_MODE 0 && s.weftUp 0 && s.weftUp 1 then [Fin.ofNat 2 (s.rd WEFT.DEF_LINK 0)]
  else [0, 1].filter s.weftUp

/-- A message cut into payloads of 256 bytes and a remainder (R436). -/
def cut256 : Nat → List Byte → List (List Byte)
  | 0, l => [l]
  | n + 1, l => if l.length ≤ 256 then [l] else l.take 256 :: cut256 n (l.drop 256)

/-- The cells of a message. -/
def cellsOf (dst : Nat) (bcast : Bool) (src kind msgId : Nat) (l : List Byte) : List Cell :=
  let ps := cut256 (l.length / 256) l
  ps.zipIdx.map fun x =>
    { dst := BitVec.ofNat 12 dst, bcast := bcast, src := BitVec.ofNat 12 src, kind := BitVec.ofNat 4 kind, hops := 0
      seq := BitVec.ofNat 8 x.2, first := x.2 == 0, last := x.2 + 1 == ps.length, msgId := BitVec.ofNat 16 msgId
      payload := x.1 }

/-- Cell types (R436). -/
abbrev ctCmd : Nat := 0
abbrev ctRsp : Nat := 1
abbrev ctData : Nat := 2
abbrev ctStop : Nat := 3
abbrev ctSnap : Nat := 4

/-- A message of the device's own leaves on the links given, in order and in one class.
(DEDUCED, assumption 38; DESIGN CHOICE, assumption 44) -/
def State.originate (s : State) (ls : List Link) (c : CellClass) (dst : Nat) (bcast : Bool) (kind msgId : Nat)
    (l : List Byte) : State :=
  ls.foldl (fun t k => (cellsOf dst bcast (s.rd WEFT.DEV_ID 0) kind msgId l).foldl (fun u x => u.sendCell k c x) t) s

/-! ## Responses -/

/-- A response goes back over the fabric as RSP to its command's source, in the command's class (R441): dropped where no
link leads there, or with no valid ID (R437). (DEDUCED, assumption 43) -/
def State.sendRsp (s : State) (o : Origin) (k : Packet) : State :=
  if !s.on WEFT.ID_VALID 0 then s
  else match s.outLink o.src.toNat with
    | some l => s.originate [l] (if o.bulk then 2 else 1) o.src.toNat false ctRsp o.msgId.toNat (packetBytes k)
    | none => s.dropCell

/-- Ring 4 has room for a response with a payload of `n` bytes: 256 granules are kept for responses to ring 1 (R357).
(DESIGN CHOICE, assumption 46) -/
def State.room4 (s : State) (ring1 : Bool) (n : Nat) : Bool :=
  decide ((s.ring 4).occ + cdiv (packetSize n) 32 + (if ring1 then 0 else 256) ≤ ringSize 4)

/-- Loam writes a response (R362, R363): TAG, OPCODE and TARGET repeated, STATUS in byte 2.  With NO_RESP it writes none
when STATUS is OK.  It goes to ring 4, or back over the fabric. (DESIGN CHOICE, assumption 12) -/
def State.respondArg (s : State) (k : Packet) (status : Nat) (arg : Word) (payload : List Byte) : State :=
  let r : Packet := { k with flags := BitVec.ofNat 8 status, arg := arg, payload := payload }
  if k.flags.toNat % 2 = 1 ∧ status = stOK then s
  else match k.origin with
    | some o => s.sendRsp o r
    | none =>
      match s.pushPacket 4 r with
      | some s1 => s1.irq RING.page 0 RING.IRQ_RESP_READY
      | none => s.pushRefused 4

/-- A response whose ARG word the spec leaves open (assumption 3). (DESIGN CHOICE, assumption 12) -/
def State.respond (s : State) (k : Packet) (status : Nat) (payload : List Byte) : State :=
  let (v, s1) := s.fresh
  s1.respondArg k status (v.setWidth 32) payload

/-- A response without payload. (DESIGN CHOICE, assumption 12) -/
def State.answer (s : State) (k : Packet) (status : Nat) : State := s.respond k status []

end Sys2Proof.Machine
end

