-- ==== Sys2Proof/Machine/PairOps.lean ====
section
/-! DEFINITION. What a pair member sends over Selvedge (R466, R467): the images of its state, reliable frames that stay
until they are acknowledged, and periodic frames. -/

namespace Sys2Proof.Machine

/-- PAIR_STATE codes (R484). -/
abbrev psSolo : Nat := 0
abbrev psEnrolling : Nat := 1
abbrev psOwner : Nat := 2
abbrev psStandby : Nat := 3
abbrev psClaiming : Nat := 4
abbrev psHandover : Nat := 5
abbrev psRefused : Nat := 6
abbrev psLeft : Nat := 7

/-- Selvedge is UP. -/
def State.linkUp (s : State) : Bool := s.rd PAIR.LINK_STATE 0 == lkUp

/-- The member is the owner of a pair. -/
def State.pairOwner (s : State) : Bool := s.on PAIR.OWNER 0

/-- Change the pair record. -/
def State.pr (s : State) (f : PairSt → PairSt) : State := { s with pair := f s.pair }

/-- A reliable frame: SEQ rises by one, and it waits for its acknowledgement (R466). -/
def State.selReliable (s : State) (b : SelBody) : State :=
  if s.linkUp then
    s.pr fun x => { x with unacked := x.unacked ++ [(x.seq, b)], seq := (x.seq + 1) % 2 ^ 32 }
  else s

/-- A periodic frame replaces the one before it (R466). -/
def State.selPeriodic (s : State) (b : SelBody) : State := if s.linkUp then s.pr fun x => { x with sent := some b } else s

/-- PD_MSGID of a port: the register's word (R106). -/
def State.msgIds (s : State) (p : Port) : Nat :=
  ([PD.TX_SOP, PD.TX_SOPP, PD.TX_SOPPP, PD.RX_SOP, PD.RX_SOP_VLD, PD.RX_SOPP, PD.RX_SOPP_VLD, PD.RX_SOPPP,
    PD.RX_SOPPP_VLD].map fun F => s.rd F p * 2 ^ F.lo).sum

/-- A port's part of a LOOP frame (R467). -/
def State.loopImg (s : State) (p : Port) : LoopImg :=
  let x := s.port p
  let l := x.loop
  { u1 := l.u1, u2 := l.u2, u3 := l.u3, e1 := l.e1, e2 := l.e2, e3 := l.e3, xV := l.xV, xP := l.xP, xFl := l.xFl
    xCe := l.xCe, xDr := l.xDr, iAvg := l.iAvg, pAvg := l.pAvg, vsp := l.vsp, vTarget := s.rd LOOP.V_TARGET p
    law := l.law.code, frozen := s.on LOOP.FROZEN p, mode := s.rd LOOP.MODE p, set := s.rd LOOP.SET_IN_USE p, d := l.d
    guard := s.rd GUARD.STATE p, heat := x.guard.heat, limit := x.guard.limit, retries := s.rd GUARD.RETRIES p
    pres := x.cc.pres, vconn := s.on CC.VCONN_ON p, dsg := s.on GUARD.DSG_ON p, ids := s.msgIds p
    phase := s.rd PWM.PHASE p, period := s.rd PWM.PERIOD p }

/-- A port's retained contract cache entry (R102): with TRANSITION the contract being made. (DEDUCED, assumption 116) -/
def State.cacheImg (s : State) (p : Port) : CacheImg :=
  let e := (s.port p).pe
  { rev := s.rd PD.NEG_REV p, unchunked := s.on PD.UNCHUNKED p, src := s.rd CC.PWR_ROLE p
    data := s.rd PD.HDR_DATA_ROLE p, vconnSrc := s.on PD.VCONN_SRC p
    contract := (if e.inflight = .transition then e.trans.map Trans.next else none).orElse fun _ => e.contract
    epr := s.on PD.EPR_MODE p, caps := e.caps, capsFlags := e.capsFlags, frs := s.rd PD.FRS_CURRENT p
    inflight := e.inflight, ok := e.cacheOk
    rdo := (if e.inflight = .transition then e.trans.map Trans.rdo else none).orElse fun _ => e.rdo }

/-- The content of a STATE frame. -/
def State.stateImg (s : State) : StateImg :=
  { offers := allPorts.map fun p => (s.rd BUDGET.P_OFF p, s.rd BUDGET.I_OFF p)
    hold := s.on BUDGET.HOLD 0, cap := s.bud.cap, sel := s.rd FEED.SEL 0, island := s.island.isSome
    isl := allPorts.map fun p =>
      let w := (s.port p).swap
      ⟨w.islanded, w.ceilinged, w.idle, s.rd LOOP.V_ISL p, s.rd LOOP.DROOP_PCT p, s.rd LOOP.P_CON p⟩
    model := allPorts.map fun p => let m := (s.port p).model; (m.bc, m.vofs, m.rint, m.rext)
    vconn := allPorts.map fun p => 10 * s.rd CC.VCONN_RES p }

/-- STOP[n] and SHED[n] of every port, in a URGENT frame (R467, R472). -/
def State.urgentImg (s : State) : SelBody :=
  .urgent s.stop (allPorts.map fun p =>
    (s.on BUDGET.VALID p, s.rd BUDGET.SRC p, s.rd BUDGET.P_SHED p, s.rd BUDGET.I_SHED p))

/-- A change of STOP[n] or SHED[n] goes to the partner. -/
def State.sendUrgent (s : State) : State := s.selReliable s.urgentImg

/-- Twill writes the port's entry of the retained contract cache, with its CRC-32 (R102); the write goes to the standby
(R469). (DEDUCED, assumption 116) -/
def State.sendCache (s : State) (p : Port) : State :=
  let img := { s.cacheImg p with ok := true }
  let s1 := s.pe p fun e => { e with cache := img, cacheOk := true }
  if s.pairOwner then s1.selReliable (.cache p img) else s1

/-- The frame is a CACHE frame of port `p`. -/
def SelFrameIsCache (p : Port) : SelBody → Bool
  | .cache q _ => q == p
  | _ => false

/-- The message that a cache write guards waits for the standby's acknowledgement, while MIRROR_OK is set (R469). -/
def State.cacheWaits (s : State) (p : Port) : Bool :=
  s.on PAIR.MIRROR_OK 0 && s.pair.unacked.any fun x => SelFrameIsCache p x.2

/-- Group `g` of the LOOP frames: eight ports. -/
def groupPorts (g : Nat) : List Port := allPorts.filter fun p => p.val / 8 == g

/-- The owner sends a group's LOOP frame. -/
def State.sendLoop (s : State) (g : Fin 4) (final : Bool) : State :=
  s.selPeriodic (.loop g final ((groupPorts g).map s.loopImg))

/-! ## Retired mask and FAILED marks (R467) -/

/-- The FAILED mark of a port's monitor. -/
def monMark : Mon → Option (Field × Port)
  | .vbusA p => some (GUARD.A_FAILED, p)
  | .vbusB p => some (GUARD.B_FAILED, p)
  | .csp p => some (GUARD.C_FAILED, p)
  | .ifast p => some (GUARD.IFAST_FAILED, p)
  | _ => none

/-- The monitor is marked FAILED. -/
def State.monFailed (s : State) (m : Mon) : Bool :=
  match monMark m with
  | some (F, p) => s.on F p
  | none => s.chipFailed.getLsbD (m.index - 128)

/-- A port's monitor by its index. -/
def monOf (i : Nat) : Mon :=
  if i < 128 then
    let p : Port := Fin.ofNat 32 (i / 4)
    match i % 4 with
    | 0 => .vbusA p
    | 1 => .vbusB p
    | 2 => .csp p
    | _ => .ifast p
  else match i with
    | 128 => .busA
    | 129 => .busB
    | 130 => .feed 0
    | 131 => .feed 1
    | 132 => .feedCur 0
    | 133 => .feedCur 1
    | 134 => .vcp
    | _ => .vconnIn

/-- The FAILED marks that stand: monitor indices, and 136 + k for converter k. -/
def State.failedMarks (s : State) : List Nat :=
  (List.range 136).filter (fun i => s.monFailed (monOf i))
    ++ ((List.range 9).filter fun k => s.bit ADC.FAILED 0 k).map (· + 136)

/-- The owner sends the retired mask and the FAILED marks when one changes (R467). -/
def State.sendMarks (s : State) : State :=
  if s.pairOwner then s.selReliable (.marks s.retiredMask s.failedMarks) else s

end Sys2Proof.Machine
end

