-- ==== Sys2Proof/Machine/PortOps.lean ====
section
/-! DEFINITION. The shared operations on one port that several families use: halting the loop, opening the pass
switch, discharge, a guard trip, safe state, VCONN, sending a PD message, ending an attachment and ErrorRecovery. -/

namespace Sys2Proof.Machine

/-! ## Codes -/

/-- *TC_STATE codes* (R67). -/
abbrev tcDisabled : Nat := 0x00
abbrev tcErrorRecovery : Nat := 0x01
abbrev tcUnattachedSrc : Nat := 0x02
abbrev tcAttachWaitSrc : Nat := 0x03
abbrev tcAttachedSrc : Nat := 0x04
abbrev tcUnattachedSnk : Nat := 0x05
abbrev tcAttachWaitSnk : Nat := 0x06
abbrev tcAttachedSnk : Nat := 0x07
abbrev tcTrySrc : Nat := 0x08
abbrev tcTryWaitSnk : Nat := 0x09
abbrev tcTrySnk : Nat := 0x0A
abbrev tcTryWaitSrc : Nat := 0x0B
abbrev tcUnattachedWaitSrc : Nat := 0x0C
abbrev tcCcSafe : Nat := 0x0D
abbrev tcOvpHold : Nat := 0x0E

/-- *PD_STATE codes* (R106). -/
abbrev pdOff : Nat := 0x00
abbrev pdWaitCaps : Nat := 0x01
abbrev pdNegotiating : Nat := 0x02
abbrev pdReadySpr : Nat := 0x03
abbrev pdReadyEpr : Nat := 0x04
abbrev pdTransition : Nat := 0x05
abbrev pdSwap : Nat := 0x06
abbrev pdSoftReset : Nat := 0x07
abbrev pdHardReset : Nat := 0x08
abbrev pdResync : Nat := 0x09
abbrev pdShadow : Nat := 0x0A

/-- *GUARD_STATE codes* (R263). -/
abbrev gOff : Nat := 0x00
abbrev gPrecheck : Nat := 0x01
abbrev gRamp : Nat := 0x02
abbrev gEnhance : Nat := 0x03
abbrev gOn : Nat := 0x04
abbrev gOpenWait : Nat := 0x05
abbrev gDischarge : Nat := 0x06
abbrev gTripped : Nat := 0x07
abbrev gLatched : Nat := 0x08
abbrev gRetired : Nat := 0x09
abbrev gYielded : Nat := 0x0A

/-- TX_RESULT codes (R106). -/
abbrev txIdle : Nat := 0
abbrev txBusy : Nat := 1
abbrev txOk : Nat := 2
abbrev txFail : Nat := 3
abbrev txDiscarded : Nat := 4
abbrev txAborted : Nat := 5
abbrev txHeld : Nat := 6
abbrev txCancelled : Nat := 7

/-- Loop modes (R196). -/
abbrev mHalt : Nat := 0
abbrev mSource : Nat := 1
abbrev mSink : Nat := 2
abbrev mBusForm : Nat := 3

/-! ## Units -/

/-- Millivolts or milliamperes of a Q8.24 value, rounded half up (R190). (DESIGN CHOICE, assumption 13) -/
def milli (q : Int) : Int := (q * 1000 + 2 ^ 23) / 2 ^ 24

/-- Q8.24 of millivolts or milliamperes, rounded half up. (DESIGN CHOICE, assumption 13) -/
def q24 (m : Int) : Int := (m * 2 ^ 24 + 500) / 1000

/-- A voltage in mV held in a 16-bit unsigned field. (DESIGN CHOICE, assumption 13) -/
def milliU (q : Int) : Nat := (clampI 0 65535 (milli q)).toNat

/-- A current in mA held in a 16-bit signed field. (DESIGN CHOICE, assumption 13) -/
def milliS (q : Int) : Int := clampI (-32768) 32767 (milli q)

/-! ## Reading a port -/

/-- Pass switch not off (R261). -/
def State.switchOn (s : State) (p : Port) : Bool := !s.on GUARD.GATE_OFF p

/-- The guard state code. -/
def State.gst (s : State) (p : Port) : Nat := s.rd GUARD.STATE p

/-- The connection state code. -/
def State.tc (s : State) (p : Port) : Nat := s.rd CC.TC_STATE p

/-- SYS.PORT_EN of a port. -/
def State.enabled (s : State) (p : Port) : Bool := s.bit SYS.EN 0 p

/-- STOP[n]. -/
def State.stopped (s : State) (p : Port) : Bool := s.stop.getLsbD p

/-- The port is held in safe state by the stop lane, by Chalk (R263) or for its engine's failure (R220). -/
def State.heldSafe (s : State) (p : Port) : Bool := s.stopped p || (s.port p).guard.forced || (s.port p).guard.engine

/-- The guard's latch stands: tripped, latched or retired. -/
def State.tripStands (s : State) (p : Port) : Bool := decide (s.gst p ∈ [gTripped, gLatched, gRetired])

/-- An explicit contract exists. -/
def State.explicit (s : State) (p : Port) : Bool := s.rd PD.CONTRACT p == 2

/-- The port is an attached source, or sink. -/
def State.isSrc (s : State) (p : Port) : Bool := s.on CC.ATTACHED p && s.rd CC.PWR_ROLE p == 1
def State.isSnk (s : State) (p : Port) : Bool := s.on CC.ATTACHED p && s.rd CC.PWR_ROLE p == 2

/-- The negotiated revision is 3.x. -/
def State.rev3 (s : State) (p : Port) : Bool := s.rd PD.NEG_REV p == 2

/-- The device is the standby of a pair (R471), PAIR_STATE 0x03. -/
def State.standby (s : State) : Bool := s.rd PAIR.PAIR_STATE 0 == 3

/-- The member owns its ports (R32, R33, R461, R464, R481): alone, owner, or handing over; a refused member once OWN_IN no
longer toggles. (DEDUCED, assumption 57) -/
def State.ownsPorts (s : State) : Bool :=
  let x := s.rd PAIR.PAIR_STATE 0
  decide (x = psSolo ∨ x = psOwner ∨ x = psHandover) || (x == psRefused && !s.on PAIR.OWN_IN_OK 0)

/-- The device drives the port's outputs: its guard has not yielded them (R26, R32, R461). -/
def State.drives (s : State) (p : Port) : Bool := s.gst p != gYielded

/-- Pins that present Open read 0, or 6 while CC_OVP stands (R35). -/
def State.openLevels (s : State) (p : Port) : State :=
  if (s.port p).cc.pres = .open_ then
    let l := if s.on CC.CC_OVP p then 6 else 0
    (s.wr CC.CC1_LVL p l).wr CC.CC2_LVL p l
  else s

/-- The pins present `x`.  A member that does not drive the port presents nothing (R32, R461, R471), and pins that present
Open read 0, or 6 while CC_OVP stands (R35). -/
def State.present (s : State) (p : Port) (x : Pres) : State :=
  let y := if s.drives p then x else .open_
  let s1 := s.cc p fun c => { c with pres := y }
  s1.openLevels p

/-- The Twill that carries a port, if one does. -/
def State.twillOf (s : State) (p : Port) : Option (Fin 8) := (List.finRange 8).find? fun k => s.bit CORE.PORTS k p.val

/-- A Twill runs: in RUN, or in SLEEP until something is to do. -/
def State.coreRuns (s : State) (e : Nat) : Bool := decide (s.rd CORE.STATE e = enRun ∨ s.rd CORE.STATE e = enSleep)

/-- A Twill in RUN carries the port. -/
def State.carriedByTwill (s : State) (p : Port) : Bool :=
  match s.twillOf p with
  | some k => s.coreRuns (k.val + 1)
  | none => false

/-- The PHY listens on the port: attached, PD enabled, its logic not held in reset (R72, R101). -/
def State.phyOn (s : State) (p : Port) : Bool :=
  s.on CC.ATTACHED p && s.on PD.PD_EN p && s.dev != .warmReset

/-- The PHY accepts frames of a SOP type: SOP′ and SOP″ only as VCONN source (R72). -/
def State.hears (s : State) (p : Port) : Sop → Bool
  | .sop => true
  | .sop1 => s.on PD.VCONN_SRC p
  | .sop2 => s.on PD.VCONN_SRC p && s.on PD.SOPPP_EN p

/-- Marl runs the port (no HALT). -/
def State.running (s : State) (p : Port) : Bool := s.rd LOOP.HALT_CAUSE p == 0

/-! ## Loop -/

/-- The state block cleared as HALT clears it (R206): inner history, integrators, I_AVG and P_AVG; V_SP is set to the
VCONV measured at the entry, and stays there. (DESIGN CHOICE, assumption 163) -/
def LoopSt.cleared (l : LoopSt) : LoopSt :=
  { l with
           u1 := 0, u2 := 0, u3 := 0, e1 := 0, e2 := 0, e3 := 0, xV := 0, xP := 0, xFl := 0, xCe := 0, xDr := 0,
           ySel := 0, law := .none, sel := .none, acc := [], iAvg := 0, pAvg := 0, revRamp := 0, k := 0, iSet := 0,
           d := 0, satAcc := false, satIn := false, satOut := false, satDuty := false, vsp := l.vconv, first := true,
           excl := false }

/-- Rank of a halt cause by R26: 1 for yield, then guard trip, Chalk (and table fault, engine failure), stop lane,
MODE 0. (DEDUCED, assumption 14) -/
def haltRank : Nat → Nat
  | 5 => 1 | 2 => 2 | 3 => 3 | 6 => 3 | 7 => 3 | 4 => 4 | 1 => 7 | _ => 8

/-- Marl enters HALT with a cause (R206).  A port already in HALT keeps a cause of higher rank (R26).
(DEDUCED, assumption 14) -/
def State.halt (s : State) (p : Port) (cause : Nat) : State :=
  let old := s.rd LOOP.HALT_CAUSE p
  if old = 0 then
    let l := (s.port p).loop
    let s1 := s.event EV.LOOP_HALTED p cause (milliU l.vsp) (wd (milliS l.iAvg)) 0
    let s2 := (s1.loop p LoopSt.cleared).wr LOOP.HALT_CAUSE p cause
    let s3 := (((s2.wr LOOP.V_SP p (milliU l.vconv)).wr LOOP.V_SP_EFF p (milliU l.vconv)).wr LOOP.I_SET p 0).wr
      LOOP.I_AVG p 0
    let s3 := if s.rd LOOP.LAW p = 0 then s3 else (s3.wr LOOP.LAW p 0).bump LOOP.LAW_SWITCH_CNT p
    let s4 := ((s3.wr LOOP.D p 0).flag LOOP.FROZEN p false).flag LOOP.RAMPING p
      (decide (l.vconv ≠ q24 (s.rd LOOP.V_TARGET p)))
    let s5 := ((s4.wr PWM.REGION p 3).bump LOOP.HALT_CNT p).modPort p fun x =>
      { x with pwm := { x.pwm with wait := false, onA := 0, onB := 0 } }
    (s5.flag LOOP.BLANKED p true).irq LOOP.page p LOOP.IRQ_HALT
  else if haltRank cause ≤ haltRank old then s.wr LOOP.HALT_CAUSE p cause
  else s

/-- The engine that carries a port runs (MARL_STAT). -/
def State.engineRuns (s : State) (p : Port) : Bool :=
  s.rd (if s.on LOOP.ENGINE p then MARL.ENG1_STATE else MARL.ENG0_STATE) 0 == 1

/-- The driver group of a port (R12). -/
def drvGroup (p : Port) : Nat := p.val / 8

/-- A port of the group starts: DRV_EN rises when it is low, and the port's outputs then wait DRV_SETUP (R241). -/
def State.driveOn (s : State) (p : Port) : State :=
  if s.bit PWM.DRV_EN 0 (drvGroup p) then s
  else
    (((s.wrBit PWM.DRV_EN 0 (drvGroup p) true).bump PWM.DRV_EN_RISE_CNT 0).irq PWM.page 0 PWM.IRQ_DRV_CHANGE).modPort p
      fun x => { x with pwm := { x.pwm with wait := true } }

/-- Blanking of the model for 2 ms (R246). -/
def State.blank2ms (s : State) (p : Port) : State :=
  (s.model p fun m => { m with blank := 2000000 }).flag LOOP.BLANKED p true

/-- A halt cause still stands for the port (R26, R206): yield, trip, Chalk, stop lane, table fault. -/
def State.haltStands (s : State) (p : Port) : Bool :=
  s.gst p == gYielded || s.tripStands p || s.heldSafe p || s.bit MARL.FAULT 0 p
    || (s.rd LOOP.HALT_CAUSE p == 7 && !s.engineRuns p)

/-- MODE is written (R206, R212): it waits in its shadow register for the next inner-loop boundary (R25); a non-zero MODE
while a halt cause stands, or without a valid table, is not kept, and ERR_CODE records DENIED or NOT_READY, DENIED first.
(DESIGN CHOICE, assumption 194) -/
def State.setMode (s : State) (p : Port) (m : Nat) : State :=
  let s1 := s.wr LOOP.MODE p m
  let due (v : Bool) : State := s1.loop p fun l => { l with modeDue := v }
  if m = 0 then due true
  else if s.haltStands p then (due false).errF LOOP.MODE p stDENIED
  else if !s.on LOOP.VALID p then (due false).errF LOOP.MODE p stNOT_READY
  else due true

/-- A written MODE is latched at a boundary (R25, R188 step 1): 0 halts, another starts a port that is in HALT, unless a
cause of HALT has come to stand (R26).  A port that runs goes on with the held law output, clamped to the new mode's
limits, until its next outer step. (DESIGN CHOICE, assumption 161) -/
def State.latchMode (s : State) (p : Port) : State :=
  if (s.port p).loop.modeDue then
    let s1 := s.loop p fun l => { l with modeDue := false }
    if s.rd LOOP.MODE p = 0 then s1.halt p 1
    else if s.rd LOOP.HALT_CAUSE p = 0 ∨ s.haltStands p = true then s1
    else ((s1.wr LOOP.HALT_CAUSE p 0).driveOn p).blank2ms p
  else s

/-- Twill writes a source set-point: SOURCE mode keeps I_REV_LIM at 2,000 mA (R600). -/
def State.sourceMode (s : State) (p : Port) (vTarget iFwd : Nat) : State :=
  ((((s.wr LOOP.V_TARGET p vTarget).wr LOOP.I_FWD_LIM p iFwd).wr LOOP.I_REV_LIM p 2000).setMode p mSource)

/-! ## Switch, discharge, guard -/

/-- No check of the port's monitors is in progress any more: STANDIN stays only for a FAILED CSP window (R300, R307). -/
def State.checksIdle (s : State) (p : Port) : State :=
  ((s.flag GUARD.CHECKING p false).wr GUARD.CHK_STEP p 0).flag GUARD.STANDIN p (s.on GUARD.C_FAILED p)

/-- The guard's state changes, which aborts a check in progress (R298). (DESIGN CHOICE, assumption 187) -/
def State.guardTo (s : State) (p : Port) (st : Nat) : State :=
  if s.gst p = st then s
  else ((s.wr GUARD.STATE p st).checksIdle p).grd p fun g => { g with chk := 0, ifastRan := false, planned := false }

/-- VG − VS falls to 1.0 V: no closure and no pending opening is left. -/
def State.gateOff (s : State) (p : Port) : State :=
  ((s.grd p fun g => { g with
    closing := .none, openWait := .none, opened := g.opened || s.switchOn p || g.closing != .none }).flag GUARD.GATE_ON p
      false).flag GUARD.GATE_OFF p true

/-- DSG turns on; DSG_TIMEOUT clears (R287). -/
def State.dsgOn (s : State) (p : Port) : State := (s.flag GUARD.DSG_ON p true).flag GUARD.DSG_TIMEOUT p false

/-- DSG is to turn on without an opening: after a timeout only once VBUS reads below 0.8 V (R287). -/
def State.dsgAgain (s : State) (p : Port) : State :=
  if s.on GUARD.DSG_TIMEOUT p && decide (800 ≤ s.rd LOOP.VBUS p) then s else s.dsgOn p

/-- DSG turns off. -/
def State.dsgOff (s : State) (p : Port) : State := s.flag GUARD.DSG_ON p false

/-- The pass switch opens, or a closure is abandoned, without a trip: a planned opening, through GUARD_DISCHARGE (R264, R265,
R287). -/
def State.openPlanned (s : State) (p : Port) : State :=
  if s.switchOn p || (s.port p).guard.closing != .none then
    ((((s.gateOff p).dsgOn p).guardTo p gDischarge).grd p fun g => { g with planned := true }).irq GUARD.page p
      GUARD.IRQ_OPENED
  else s

/-- The guard refuses a command (R264). -/
def State.refuseCmd (s : State) (p : Port) (cmd reason : Nat) : State :=
  ((s.event EV.CMD_REFUSED p cmd reason 0 0).bump GUARD.CMD_REFUSED_CNT p).irq GUARD.page p GUARD.IRQ_CMD_REFUSED

/-! ## VCONN -/

/-- The cable counts as not qualified while VCONN is off (R60). -/
def State.unqualify (s : State) (p : Port) : State :=
  let s1 := (((s.flag CC.EPR_CABLE p false).wr CC.CABLE_VMAX p 0).wr CC.CABLE_IMAX p 0).flag CC.ACTIVE p false
  if s.rd CC.DISC_STATE p = 2 then s1.wr CC.DISC_STATE p 0 else s1

/-- The VCONN switch opens and its reservation returns to the pool (R56, R58). -/
def State.vconnOff (s : State) (p : Port) : State :=
  ((s.flag CC.VCONN_ON p false).wr CC.VCONN_RES p 0).cc p fun c =>
    { c with claim := false, vconnHigh := c.vconnHigh || s.on CC.VCONN_ON p }

/-- Sum of all reservations, mA (R56). -/
def State.vconnSum (s : State) : Nat := (allPorts.map fun q => 10 * s.rd CC.VCONN_RES q).sum

/-! ## Shed ceilings -/

/-- SHED[n] is cleared (R153, R155). -/
def State.clearShed (s : State) (p : Port) : State :=
  ((((s.flag BUDGET.VALID p false).wr BUDGET.SRC p 0).wr BUDGET.I_SHED p 0).wr BUDGET.P_SHED p 0).swp p fun w => { w with
    ceilinged := false }

/-! ## Sending PD messages (R70 to R87) -/

/-- MessageIDCounter, stored ID and its valid bit of a SOP type (R75, R78). -/
def txId : Sop → Field
  | .sop => PD.TX_SOP | .sop1 => PD.TX_SOPP | .sop2 => PD.TX_SOPPP
def rxId : Sop → Field
  | .sop => PD.RX_SOP | .sop1 => PD.RX_SOPP | .sop2 => PD.RX_SOPPP
def rxVld : Sop → Field
  | .sop => PD.RX_SOP_VLD | .sop1 => PD.RX_SOPP_VLD | .sop2 => PD.RX_SOPPP_VLD

/-- LAST_KIND coding. -/
def sopKind : Sop → Nat
  | .sop => 0 | .sop1 => 1 | .sop2 => 2

/-- MessageID state of a SOP type is cleared (R79). -/
def State.clearIds (s : State) (p : Port) (k : Sop) : State :=
  ((s.wr (txId k) p 0).wr (rxId k) p 0).flag (rxVld k) p false

/-- MessageID state of all three SOP types is cleared (R79). -/
def State.clearAllIds (s : State) (p : Port) : State := ((s.clearIds p .sop).clearIds p .sop1).clearIds p .sop2

/-- Collision avoidance applies (R85, R87). -/
def State.avoiding (s : State) (p : Port) : Bool := s.explicit p && s.rev3 p

/-- The conditions of R91 other than the request: VCONN source, and DFP in an explicit contract. -/
def State.mayCableReset (s : State) (p : Port) : Bool :=
  s.on PD.VCONN_SRC p && s.rd PD.HDR_DATA_ROLE p == 1 && s.explicit p

/-- A Cable Reset that waits goes out before the next message, and after a Hard Reset (R80): SOP′ and SOP″ MessageIDs clear,
and nothing else changes (R79, R91). (DESIGN CHOICE, assumption 151) -/
def State.pumpCableReset (s : State) (p : Port) : State :=
  let y := (s.port p).phy
  if y.cableResetPending && !y.hrPending && (y.tx.isNone || y.waitSinkTx) then
    let s1 := s.phy p fun y => { y with cableResetPending := false }
    if s.mayCableReset p then
      (((s1.clearIds p .sop1).clearIds p .sop2).wr PD.LAST_KIND p 4).bump PD.CABLE_RESET_TX_CNT p
    else s1
  else s

/-- An AMS is in progress: a source in an explicit contract at Revision 3.x presents SinkTxNG (R85). -/
def State.amsBegin (s : State) (p : Port) : State :=
  let s1 := s.flag PD.AMS_ACTIVE p true
  if s.avoiding p && s.isSrc p then (s1.flag PD.RP_TXNG p true).present p .rp15 else s1

/-- Reassembly buffers of a SOP type are released (R95). -/
def State.releaseReasm (s : State) (p : Port) (k : Sop) : State :=
  if (s.port p).phy.reasm.any fun r => r.sop == k then
    ((s.phy p fun y => { y with reasm := y.reasm.filter fun r => r.sop != k }).bump PD.CHUNK_ABORT_CNT p).irq PD.page p
      PD.IRQ_CHUNK_ABORT
  else s

/-- A Soft_Reset goes out on a SOP type: its MessageIDs clear, its reassembly buffer is released, and it is counted (R79, R95,
R106). -/
def State.softResetGoes (s : State) (p : Port) (k : Sop) : State :=
  (((s.clearIds p k).releaseReasm p k).bump PD.SOFT_RESET_CNT p).irq PD.page p PD.IRQ_SOFT_RESET

/-- A message that goes on with an AMS, or answers the partner, waits for none that begins one (R87). -/
def queueFrame (x : Frame × Bool) (l : List (Frame × Bool)) : List (Frame × Bool) :=
  if x.2 then l ++ [x] else (l.takeWhile fun y => !y.2) ++ x :: l.dropWhile fun y => !y.2

/-- Twill withdraws the message it holds while another that is not held is to go, and submits it again after that one (R87).
(DESIGN CHOICE, assumption 182) -/
def State.withdrawHeld (s : State) (p : Port) : State :=
  match (s.port p).phy.tx, (s.port p).phy.outbox with
  | some g, (_, false) :: _ =>
    if s.rd PD.TX_RESULT p = txHeld then
      (s.wr PD.TX_RESULT p txCancelled).phy p fun y => { y with
        tx := none, ownAms := false
        outbox := (y.outbox.takeWhile fun z => !z.2) ++ (g, true) :: y.outbox.dropWhile fun z => !z.2 }
    else s
  | _, _ => s

/-- The frame in the transmit buffer is sent under the counter of its SOP type (R75). -/
def State.stamp (s : State) (p : Port) : State :=
  s.phy p fun y => { y with tx := y.tx.map fun g => { g with id := BitVec.ofNat 3 (s.rd (txId g.sop) p) } }

/-- The PHY takes the next message Twill holds, if its transmit buffer is free (R84); no AMS begins during a planned
hand-over (R480): with collision avoidance a source first shows SinkTxNG and waits tSinkTx (R85), a sink holds the frame
until SinkTxOK (R87).  An AMS that answers the partner does not wait (R85), and a Soft_Reset clears the MessageIDs of its
SOP type as it goes (R79). -/
def State.pump (s0 : State) (p : Port) : State :=
  let s := (s0.pumpCableReset p).withdrawHeld p
  let y := (s.port p).phy
  match y.tx, y.outbox with
  | none, (f, ams) :: t =>
    if !s.carriedByTwill p || s.on PD.SHADOW p || y.hrPending || s.cacheWaits p
        || (ams && s.rd PAIR.PAIR_STATE 0 == psHandover) then s
    else if !s.hears p f.sop then s.phy p fun y => { y with outbox := t }
    else
      let s := if f.msg = .softReset then s.softResetGoes p f.sop else s
      let g : Frame := { f with id := BitVec.ofNat 3 (s.rd (txId f.sop) p) }
      let s1 := (s.wr PD.LAST_KIND p (sopKind f.sop)).wr PD.RETRIES p 0
      let s2 := if ams then s1.flag PD.AMS_ACTIVE p true else if f.sop = .sop then s1.amsBegin p else s1
      if ams && s.avoiding p && s.isSrc p then
        (((s2.flag PD.RP_TXNG p true).wr PD.TX_RESULT p txBusy).present p .rp15).phy p fun y =>
          { y with tx := some g, outbox := t, waitSinkTx := true, ownAms := true }
      else if ams && s.avoiding p && s.isSnk p && s.on PD.RP_TXNG p then
        (s2.wr PD.TX_RESULT p txHeld).phy p fun y => { y with tx := some g, outbox := t, ownAms := true }
      else
        (s2.wr PD.TX_RESULT p txBusy).phy p fun y =>
          { y with tx := some g, outbox := t, waitSinkTx := false, ownAms := y.ownAms || ams }
  | _, _ => s

/-- Extended messages (R97). (PRESUMED, assumption 6) -/
def isExtended (m : PdMsg) : Bool :=
  [PdMsg.sourceCapsExt, .status, .getBatteryCap, .getBatteryStatus, .batteryCaps, .getManufacturerInfo, .manufacturerInfo,
    .securityRequest, .securityResponse, .fwUpdateRequest, .fwUpdateResponse, .ppsStatus, .countryInfo, .countryCodes,
    .sinkCapsExt, .extControl, .eprSourceCaps, .eprSinkCaps, .vdmExt].contains m

/-- An extended message of more than 260 data bytes is never sent (R94). -/
def tooLong (n : Nat) (f : Frame) : Bool := isExtended f.msg && decide (260 < n)

/-- Bytes of an extended message's content, where the model knows them (R94). -/
def extBytes (f : Frame) : Nat :=
  match f.body with
  | .raw l => l.length
  | .caps l _ => if f.msg = .eprSourceCaps ∨ f.msg = .eprSinkCaps then 4 * l.length else 0
  | _ => 0

/-- The first chunk of an extended message that goes chunked: more than 26 bytes, and no unchunked mode, which only SOP has
(R94).  A chunk of capabilities carries them by reference. (DESIGN CHOICE, assumption 152) -/
def State.firstChunk (s : State) (p : Port) (f : Frame) : Option Frame :=
  let n := extBytes f
  if f.chunk.isSome || (f.sop == .sop && s.on PD.UNCHUNKED p) || !isExtended f.msg || decide (n ≤ 26) then none
  else
    some { f with
      chunk := some ⟨0, false, n⟩
      body := match f.body with
        | .raw l => .raw (l.take 26)
        | b => b }

/-- Twill submits a frame, in chunks where it must (R94); no Twill, no frame (R68). -/
def State.sendFrame (s : State) (p : Port) (f : Frame) (ams : Bool) : State :=
  if !s.carriedByTwill p || s.on PD.SHADOW p || !s.on PD.PD_EN p || tooLong (extBytes f) f then s
  else
    let s1 := if (s.firstChunk p f).isSome then s.phy p fun y => { y with chunkTx := some f } else s
    (s1.phy p fun y => { y with outbox := queueFrame ((s.firstChunk p f).getD f, ams) y.outbox }).pump p

/-- Twill sends a message on SOP that answers, or goes on with, an AMS. -/
def State.send (s : State) (p : Port) (m : PdMsg) (b : Body) : State := s.sendFrame p ⟨.sop, m, 0, none, b⟩ false

/-- Twill sends a message on SOP that begins an AMS. -/
def State.sendAms (s : State) (p : Port) (m : PdMsg) (b : Body) : State := s.sendFrame p ⟨.sop, m, 0, none, b⟩ true

/-- Twill ends the AMS: a source returns to SinkTxOK (R85). -/
def State.amsEnd (s : State) (p : Port) : State :=
  let s1 := (s.flag PD.AMS_ACTIVE p false).phy p fun y => { y with ownAms := false }
  if s.avoiding p && s.isSrc p then (s1.flag PD.RP_TXNG p false).present p .rp30 else s1

/-- Presentation of RP_SEL (R85). -/
def rpOf : Nat → Pres
  | 0 => .rpDefault | 1 => .rp15 | _ => .rp30

/-- Current in mA that an Rp value advertises (R45). -/
def rpMa : Nat → Nat
  | 0 => 500 | 1 => 1500 | _ => 3000

/-- The answer to a refused message (R93, R97): Not_Supported at Revision 3.x, Reject at 2.0; it is counted. -/
def State.refuseMsg (s : State) (p : Port) : State :=
  (((s.send p (if s.rev3 p then .notSupported else .reject) .none).bump PD.NOT_SUPPORTED_CNT p).irq PD.page p
    PD.IRQ_NOT_SUPPORTED)

/-- Twill takes the frame at the head of the receive queue, where it is of this message type (R82, R83). -/
def takeRx (m : PdMsg) : List RxSlot → List RxSlot
  | [] => []
  | x :: t => if x.frame.msg = m then t else x :: t

/-- Twill empties the slot of the message it handles. -/
def State.take (s : State) (p : Port) (m : PdMsg) : State := s.phy p fun y => { y with rx := takeRx m y.rx }

/-! ## Contract state -/

/-- A PORT_SEND_VDM that waits on the port ends with a status (R373). -/
def State.endVdm (s : State) (p : Port) (status : Nat) (payload : List Byte) : State :=
  match (s.port p).pe.await with
  | .hostVdm k => (s.pe p fun e => { e with await := .none }).respond k status payload
  | _ => s

/-- The explicit contract and everything negotiated with it ends (R135, detach, ErrorRecovery). -/
def State.clearContract (s : State) (p : Port) : State :=
  let s1 := (s.endVdm p stABORTED []).pe p fun x => { x with
    contract := none, trans := none, epr := .none, eprLeaving := false,
    ppsTimer := false, eprTimer := false, await := .none, inflight := .none, firstDone := false, eprCapRdo := false,
    readvWant := false, mismatch := false, sinkCapDue := false, softResetSent := false, askAt := none, rdo := none }
  let s2 := ((s1.wr PD.CONTRACT p 0).flag PD.EPR_MODE p false).flag PD.AMS_ACTIVE p false
  let s3 := (s2.flag PD.RP_TXNG p false).wr PD.FRS_CURRENT p 0
  ((s3.flag GUARD.PPS_EXEMPT p false).phy p fun y => { y with ownAms := false, waitSinkTx := false }).sendCache p

/-- The swap in progress ends, and SWAP clears in the cache entry (R103). -/
def State.swapEnd (s : State) (p : Port) : State :=
  let s1 := s.swp p fun w => { w with step := .none, acked := false }
  if (s.port p).pe.inflight = .swap then (s1.pe p fun e => { e with inflight := .none }).sendCache p else s1

/-- A swap in progress that a trip ends (R281): PR_SWAP_FAILED reason 3, or FRS_FAILED, which has no reason for a trip.
(DESIGN CHOICE, assumption 165) -/
def State.swapTripped (s : State) (p : Port) (step : SwapStep) : State :=
  match step with
  | .none | .requested | .vconnOn | .vconnPsRdy | .vconnOff => s
  | .frsSink | .frsSinkAcc | .frsSinkPsRdy | .frsSrc | .frsSrcAcc | .frsSrcPsRdy =>
    s.event EV.FRS_FAILED p 2 0 0 0
  | .accepting => s.event EV.PR_SWAP_FAILED p 1 3 0 0
  | .srcHold => s.event EV.PR_SWAP_FAILED p 1 3 0 0
  | .srcRamp => s.event EV.PR_SWAP_FAILED p 2 3 0 0
  | .srcOff => s.event EV.PR_SWAP_FAILED p 3 3 0 0
  | .srcPsRdy => s.event EV.PR_SWAP_FAILED p 4 3 0 0
  | .srcMatch => s.event EV.PR_SWAP_FAILED p 5 3 0 0
  | .srcClosed => s.event EV.PR_SWAP_FAILED p 6 3 0 0
  | .snkIdle => s.event EV.PR_SWAP_FAILED p 1 3 0 0
  | .snkStart => s.event EV.PR_SWAP_FAILED p 2 3 0 0
  | .snkPsRdy => s.event EV.PR_SWAP_FAILED p 3 3 0 0
  | .snkDone => s.event EV.PR_SWAP_FAILED p 4 3 0 0

/-! ## R_EST (R249, R256) -/

/-- Round to the nearest, half up. -/
def ratRound (num den : Int) : Int := (2 * num + den).fdiv (2 * den)

/-- A resistance of Q8.24 ohms in 0.1 mΩ. -/
def tenths (x : Int) : Nat := (clampI 0 65535 (ratRound (x * 10000) (2 ^ 24))).toNat

/-- An alarm, foldback, SENSE_FLT or CAB_FAULT stands. -/
def State.doubtful (s : State) (p : Port) : Bool :=
  s.on LOOP.ALARM_C p || s.on LOOP.ALARM_P p || s.on LOOP.FOLD p || s.on LOOP.SENSE_FLT p || s.on LOOP.CAB_FAULT p

/-- R_EST follows R_EXT, and is 0 while a finding stands (R249). -/
def State.showREst (s : State) (p : Port) : State :=
  s.wr LOOP.R_EST p (if s.doubtful p then 0 else s.rd LOOP.R_EXT p)

/-- R_EXT is seeded, in 0.1 mΩ (R256); CAB_WARN follows it (R258). -/
def State.seedRext (s : State) (p : Port) (r : Nat) : State :=
  (((s.wr LOOP.R_EXT p r).flag LOOP.CAB_WARN p (decide (s.rd LOOP.R_EXT_WARN p ≤ r))).model p fun m => { m with
    rext := ratRound ((r : Int) * 2 ^ 24) 10000, worn := false }).showREst p

/-- Loam seeds R_EXT at an attach: the port's last learned value with CAB_CAPTIVE = 1, 0 otherwise until the partner's record
is found (R256). -/
def State.seedAtAttach (s : State) (p : Port) : State :=
  (s.seedRext p (if s.on LOOP.CAB_CAPTIVE p then tenths (s.port p).model.rPrev else 0)).model p fun m =>
    { m with accepted := 0 }

/-- The attachment's final R_EXT goes to the port's policy entry with CAB_CAPTIVE = 1, and stays with the ledger session for
the partner's record otherwise (R257). -/
def State.keepRext (s : State) (p : Port) : State :=
  let m := (s.port p).model
  if s.on CC.ATTACHED p = false then s
  else if s.on LOOP.CAB_CAPTIVE p then
    s.model p fun m => { m with
      trend := if m.accepted = 0 then m.trend else m.trend + (m.rext - m.rPrev).tdiv 8
      rPrev := m.rext }
  else s.modPort p fun x => { x with sess := { x.sess with rExt := tenths m.rext, windows := m.accepted } }

/-- What the end of an attachment clears: attached flags, contract, PHY queues and MessageIDs (R79), cable
qualification, swap and island state of the port, VCONN; the ledger session is to be closed (R336). -/
def State.endAttachment (s : State) (p : Port) : State :=
  let s1 := ((((s.keepRext p).clearContract p).swapEnd p).vconnOff p).clearAllIds p
  let s2 := (((s1.flag CC.ATTACHED p false).wr CC.PWR_ROLE p 0).flag CC.CC_OPEN_Q p false).level CC.page p
    CC.IRQ_CC_OPEN_Q false
  let s2 := if s.rd CC.DISC_STATE p = 1 then s2.irq CC.page p CC.IRQ_CABLE_DONE else s2
  let s3 := ((((s2.wr CC.DISC_COUNT p 0).wr CC.DISC_STATE p 0).flag CC.EPR_CABLE p false).wr CC.CABLE_VMAX p 0).wr
    CC.CABLE_IMAX p 0
  let s3 := ((s3.flag LOOP.CAB_FAULT p false).flag LOOP.LEARNING p false).model p fun m => { m with
    n := 0, sg := 0, sh := 0, sgg := 0, sgh := 0, probe := none }
  let s4 := (((s3.flag CC.ACTIVE p false).wr PD.NEG_REV p 0).flag PD.UNCHUNKED p false).wr PD.PD_STATE p pdOff
  let s5 := ((((s4.flag PD.VCONN_SRC p false).flag PD.EPR_CAP p false).flag PD.UNCHUNKED_CAP p false).wr
    PD.REV p 0).wr PD.TX_RESULT p txIdle
  let s6 := s5.phy p fun _ => PhySt.reset
  let s7 := s6.pe p fun x => { x with
    hr := .none, hrCount := 0, resyncDue := false, nCaps := 0, capsDone := false, caps := [],
    capsFlags := .none, pdpSent := 0 }
  let s8 := s7.swp p fun w => { w with
    want := [], initDone := false, partnerDrp := false,
    islanded := false }
  let s9 := s8.cc p fun c => { c with
    ocpTrips := 0, rev := false, claim := false, ra := false, fastOpened := false, want5v := false }
  (s9.modPort p fun x => { x with
    sess := { x.sess with isOpen := false, ended := x.sess.isOpen || x.sess.ended } }).sendCache p

/-- The safe-state termination: Rd where CONFIG SAFE_RD asks for it, else Open (R65).  A retired port, and a port held by a
CC overvoltage, presents Open whatever SAFE_RD states (R62, R284). -/
def State.safeTerm (s : State) (p : Port) : Pres :=
  if s.gst p = gRetired ∨ s.retiredMask.getLsbD p = true ∨ s.tc p = tcOvpHold ∨ s.on CC.CC_OVP p = true then .open_
  else if s.on CC.SAFE_RD p then .rd else .open_

/-- The owning Twill enters ErrorRecovery from any attachment: the pass switch opens, Marl halts, VCONN opens, the CC
pins present Open (R35), or the safe-state termination while the port is stopped or forced (R375).  A retired port is
in CC_SAFE with Open (R284); a port in CC_OVP_HOLD stays there. -/
def State.errorRecovery (s : State) (p : Port) : State :=
  let s1 := (s.openPlanned p).setMode p 0
  let s2 := s1.endAttachment p
  let st := if s.gst p = gRetired then tcCcSafe else if s.tc p = tcOvpHold then tcOvpHold else tcErrorRecovery
  (s2.wr CC.TC_STATE p st).present p (if s.gst p ≠ gRetired ∧ s.heldSafe p = true then s.safeTerm p else .open_)

/-! ## Trips (R280 to R284) -/

/-- Trips of the last 60 s at uptime `now`, ns (R283). -/
def recentTrips (now : Nat) (l : List Nat) : List Nat := l.filter fun t => decide (now < t + 60000000000)

/-- The counter of a trip cause. -/
def State.countTrip (s : State) (p : Port) (c : TripCause) : State :=
  let s1 := s.bump GUARD.TRIP_CNT p
  match c with
  | .ifast => s1.bump GUARD.IFAST_CNT p
  | .limit | .limitCeil => s1.bump GUARD.LIMIT_TRIP_CNT p
  | .curve => s1.bump GUARD.CURVE_TRIP_CNT p
  | .rampFail => s1.bump GUARD.RAMP_FAIL_CNT p
  | .vbusHi | .vbusLo | .cspHi => s1.bump GUARD.MON_TRIP_CNT p
  | _ => s1

/-- The guard state a trip leads to (R283, R284): a Retire cause retires from any state, a retired port stays, a
Host cause latches, a latched port stays, and too many trips in 60 s latch. -/
def tripState (cur : Nat) (c : TripCause) (retries max : Nat) : Nat :=
  if c.retire then gRetired
  else if cur = gRetired then gRetired
  else if c.host then gLatched
  else if cur = gLatched then gLatched
  else if max < retries then gLatched
  else gTripped

/-- GUARD_LATCHED or GUARD_RETIRED is entered: its interrupt and event, and Loam's retired mask (R284). -/
def State.tripEntered (s : State) (p : Port) (old new : Nat) (c : TripCause) : State :=
  if new = old then s
  else if new = gLatched then
    (s.event EV.GUARD_LATCHED p c.code (s.rd GUARD.RETRIES p) 0 0).irq GUARD.page p GUARD.IRQ_LATCHED
  else if new = gRetired then
    let s1 := (s.event EV.PORT_RETIRED p c.code (s.rd GUARD.T_MARK1 p) (s.rd GUARD.T_MARK2 p) 0).irq GUARD.page p
      GUARD.IRQ_RETIRED
    let s2 : State := { s1.flag GUARD.RETIRE p true with
      retiredMask := s1.retiredMask ||| BitVec.ofNat 32 (2 ^ p.val) }
    s2.sendMarks
  else s

/-- A trip (R281): pull-down, PWM low and HALT, DSG on, the guard state and its records, and ErrorRecovery.
`srcs` are the causes met in the trip cycle.  A guard that has yielded the port's outputs undoes nothing of that (R26). -/
def State.trip (s : State) (p : Port) (c : TripCause) (srcs : List TripCause) (ibusMa : Int) (vbusMv : Nat) : State :=
  let old := s.gst p
  let ts := s.up :: recentTrips s.up (s.port p).guard.trips
  let retries := min 15 ts.length
  let new := tripState old c retries (s.rd GUARD.RETRY_MAX p)
  let step := (s.port p).swap.step
  let s1 := ((s.gateOff p).dsgOn p).grd p fun g => { g with trips := ts, retryRun := decide (new = gTripped), retryElapsed := false }
  let s2 := ((s1.guardTo p new).wr GUARD.RETRIES p retries).wr GUARD.CAUSE p c.code
  let s3 := s2.wr GUARD.SRC p ((c :: srcs).foldl (fun m x => m ||| 2 ^ (x.code - 1)) 0)
  let s4 := (s3.countTrip p c).eventSev EV.GUARD_TRIP (if c.retire then 3 else 2) p c.code (wd ibusMa) vbusMv retries
  let s5 := (s4.irq GUARD.page p GUARD.IRQ_TRIP).tripEntered p old new c
  let s6 := (s5.halt p 2).swapTripped p step
  let s7 := s6.errorRecovery p
  if !s.drives p then s
  else if c = .ccOvp ∧ new ≠ gRetired then (s7.wr CC.TC_STATE p tcOvpHold).present p .open_ else s7

/-- The guard is to enter GUARD_OFF with DSG on: it passes through GUARD_DISCHARGE (R287). -/
def State.toDischarge (s : State) (p : Port) : State := (s.guardTo p gDischarge).dsgAgain p

/-! ## Safe state (R26, R375) -/

/-- The stop lane or Chalk takes the port to safe state: switch off, PWM low, DSG on, CC as SAFE_RD asks; a standing trip
keeps its state and latch (R282), and a port whose outputs are yielded stays yielded (R26). -/
def State.safeState (s : State) (p : Port) (haltCause : Nat) : State :=
  let s1 := if s.switchOn p then (s.gateOff p).dsgOn p else (s.gateOff p).dsgAgain p
  let s2 := if s.tripStands p then s1 else s1.guardTo p gDischarge
  let s3 := s2.halt p haltCause
  if !s.drives p then s
  else if s3.enabled p && s3.tc p != tcOvpHold && s3.gst p != gRetired then s3.errorRecovery p
  else if s3.gst p = gRetired ∨ s3.tc p = tcOvpHold then s3
  else s3.present p (s.safeTerm p)

/-- A stop or a force is withdrawn: with no trip and no other hold standing, the guard passes through GUARD_DISCHARGE
to GUARD_OFF (R287). -/
def State.safeRelease (s : State) (p : Port) : State :=
  if s.tripStands p || s.heldSafe p || s.gst p == gYielded then s else s.toDischarge p

/-! ## Leaving safe state and ErrorRecovery -/

/-- The Rp that an unattached source presents: RP_SEL, and the default value in WATCH (R63). -/
def State.restRp (s : State) (p : Port) : Pres := if s.dev = .watch then .rpDefault else rpOf (s.rd CC.RP_SEL p)

/-- Entry into an Unattached state, as sink or as source where the role leaves the choice: ROLE and TRY are taken (R37),
the pins present Rp or Rd. -/
def State.enterUnattachedAs (s : State) (p : Port) (snk : Bool) : State :=
  let role := s.rd CC.ROLE p
  let s1 := s.cc p fun c => { c with role := role, try_ := s.rd CC.TRY p }
  if !s.enabled p || role == 0 then (s1.wr CC.TC_STATE p tcDisabled).present p (s.safeTerm p)
  else if role = 2 ∨ (role = 3 ∧ snk = true) then (s1.wr CC.TC_STATE p tcUnattachedSnk).present p .rd
  else (s1.wr CC.TC_STATE p tcUnattachedSrc).present p (s.restRp p)

/-- A port of the retired mask is retired; a member that does not drive it marks it only (R26, R32, R284). -/
def State.retirePort (s : State) (p : Port) : State :=
  if s.drives p then
    ((s.flag GUARD.RETIRE p true).guardTo p gRetired).dsgOn p |>.wr CC.TC_STATE p tcCcSafe |>.present p .open_
  else s.flag GUARD.RETIRE p true

/-- Entry into the Unattached state from which a port starts. -/
def State.enterUnattached (s : State) (p : Port) : State := s.enterUnattachedAs p false

/-- ROLE or TRY is written: it takes effect at once in an Unattached state and in Disabled, and at the next entry into an
Unattached state otherwise (R37). (DEDUCED, assumption 145) -/
def State.roleWritten (s : State) (p : Port) : State :=
  if s.tc p ∈ [tcUnattachedSrc, tcUnattachedSnk, tcDisabled] ∧ s.drives p = true then
    if s.rd CC.ROLE p = (s.port p).cc.role then s.cc p fun c => { c with try_ := s.rd CC.TRY p }
    else s.enterUnattachedAs p (decide (s.tc p = tcUnattachedSnk))
  else s

/-- CAUSE and SRC clear when a trip clears (R283, R285). -/
def State.clearCause (s : State) (p : Port) : State := (s.wr GUARD.CAUSE p 0).wr GUARD.SRC p 0

/-- VBUS read at `mv`: REV_CHK_DONE clears below 4.0 V (R279). -/
def State.noteVbus (s : State) (p : Port) (mv : Nat) : State :=
  if mv < 4000 then s.flag GUARD.REV_CHK_DONE p false else s

/-- Loam serves command packets: in RUN, and in SAFE (R544), with READY set. (DEDUCED, assumption 144) -/
def State.serves (s : State) : Bool := decide (s.dev = .run ∨ s.dev = .safe) && s.on SYS.READY 0

/-- Host boot waits for a package (R490, R505). -/
def State.hostBoots (s : State) : Bool := decide (s.dev = .boot) && s.rd BOOT.SOURCE 0 == 1

/-- The ROM serves packets: in host boot and in recovery. (DEDUCED, assumption 138) -/
def State.inRom (s : State) : Bool := decide (s.dev = .recovery) || s.hostBoots

/-- A command packet reaches Loam; the ROM, in host boot and in recovery, answers DENIED to all but its own (R505, R506). -/
def State.serve (s : State) (k : Packet) (f : State → State) : State :=
  if s.serves then f s else if s.inRom then s.answer k stDENIED else s

/-- GET_INFO reaches Loam or the ROM (R365). -/
def State.serveInfo (s : State) (f : State → State) : State := if s.serves || s.inRom then f s else s

/-- A pair standby answers DENIED to a command it does not serve (R471). (DEDUCED, assumption 57, 90) -/
def State.offStandby (s : State) (k : Packet) (f : State → State) : State :=
  if s.standby then s.answer k stDENIED else f s

/-- A form that a rule does not list gets BAD_ARG. (DEDUCED, assumption 90) -/
def State.formed (s : State) (k : Packet) (ok : Bool) (f : State → State) : State :=
  if ok then f s else s.answer k stBAD_ARG

end Sys2Proof.Machine
end

