-- ==== Sys2Proof/Machine/Guard.lean ====
section
/-! DEFINITION. The port power-path guard (chapter 10): commands, closing by soft start, the short-circuit comparator,
the breaker, shorted-FET checks, trips, retries, curve loading and discharge. -/

namespace Sys2Proof.Machine

/-! ## Commands (R264 to R268) -/

/-- A write to GUARD_CMD from a writer other than the owning Twill is refused (R18, R264). -/
def State.guardWriter (s : State) (p : Port) (byTwill : Bool) (f : State) : State :=
  if byTwill then f else s.errF GUARD.CMD p stBAD_ACCESS

/-- The guard is in GUARD_OFF and nothing holds it (R264, reason 1). -/
def State.mayClose (s : State) (p : Port) : Bool := s.gst p == gOff && !s.heldSafe p

/-- A refused, or failed, soft start on an attached source port sends Twill to ErrorRecovery (R266). -/
def State.closeFailed (s : State) (p : Port) : State := if s.isSrc p then s.errorRecovery p else s

/-- VCP has been back within its window long enough for a closure (R323). (DESIGN CHOICE, assumption 16) -/
def State.vcpReady (s : State) : Bool := !s.supply.vcpOut

/-- A closure starts: no gate mark has been reached (R288). -/
def State.marksOpen (s : State) (p : Port) : State := (s.wr GUARD.T_MARK1 p 0xFFFF).wr GUARD.T_MARK2 p 0xFFFF

/-- SOFT_START accepted: step 1 of *Closing by soft start*. -/
def State.softStart (s : State) (p : Port) : State :=
  (((s.dsgOff p).guardTo p gPrecheck).marksOpen p).grd p fun g => { g with closing := .precheck }

/-- CLOSE_MATCHED drives the gate at full enhancement at once (R268). -/
def State.driveMatched (s : State) (p : Port) : State :=
  ((s.guardTo p gEnhance).flag GUARD.GATE_OFF p false).grd p fun g => { g with closing := .matched, opened := false }

/-- CLOSE_MATCHED accepted: after the port's FAILED marks were cleared every check of its monitors runs first (R304). -/
def State.closeMatched (s : State) (p : Port) : State :=
  let s1 := (s.dsgOff p).marksOpen p
  if (s.port p).guard.recheck = 0 then s1.driveMatched p
  else (s1.guardTo p gPrecheck).grd p fun g => { g with closing := .matchedCheck }

/-- SOFT_START as the owning Twill issues it (R264, R266); the reason of a refusal for want of VCP is not stated.
(DESIGN CHOICE, assumption 16) -/
def State.cmdSoftStart (s : State) (p : Port) : State :=
  if !s.mayClose p then (s.refuseCmd p 1 1).closeFailed p
  else if !s.vcpReady then
    let (v, s1) := s.fresh
    (s1.refuseCmd p 1 (v.toNat % 2 ^ 32)).closeFailed p
  else s.softStart p

/-- SOFT_START. -/
def execSoftStart (p : Port) (byTwill : Bool) (s : State) : Host.Outcome State Fault Refusal :=
  .next (s.guardWriter p byTwill (s.cmdSoftStart p))

/-- CLOSE_MATCHED as the owning Twill issues it, with VCONV and VBUS as they stand (R264, R268). -/
def State.cmdCloseMatched (s : State) (p : Port) (vconvMv vbusMv : Nat) : State :=
  if !s.mayClose p then s.refuseCmd p 2 1
  else if vconvMv > vbusMv + 500 ∨ vbusMv > vconvMv + 500 then s.refuseCmd p 2 3
  else if vbusMv ≥ 4000 ∧ s.on GUARD.REV_CHK_DONE p = false then s.refuseCmd p 2 4
  else if !s.vcpReady then
    let (v, s1) := s.fresh
    s1.refuseCmd p 2 (v.toNat % 2 ^ 32)
  else s.closeMatched p

/-- CLOSE_MATCHED. -/
def execCloseMatched (p : Port) (byTwill : Bool) (vconvMv vbusMv : Nat) (s : State) :
    Host.Outcome State Fault Refusal :=
  .next (s.guardWriter p byTwill (s.cmdCloseMatched p vconvMv vbusMv))

/-- A planned opening by command: where it abandons the closure of an attached source, the port attaches anew (R265, R266). -/
def State.openEnds (s : State) (p : Port) : State :=
  if (s.port p).guard.closing = .none then s.openPlanned p else (s.openPlanned p).closeFailed p

/-- OPEN as the owning Twill issues it: any state with the switch on or closing (R264, R265). -/
def State.cmdOpen (s : State) (p : Port) : State :=
  if s.gst p ∈ [gPrecheck, gRamp, gEnhance, gOn, gOpenWait] then s.openEnds p else s.refuseCmd p 3 1

/-- OPEN. -/
def execOpenCmd (p : Port) (byTwill : Bool) (s : State) : Host.Outcome State Fault Refusal :=
  .next (s.guardWriter p byTwill (s.cmdOpen p))

/-- OPEN_LOW and OPEN_IDLE wait in GUARD_OPEN_WAIT for their condition (R264). -/
def State.cmdOpenWait (s : State) (p : Port) (cmd : Nat) (w : OpenWait) : State :=
  if s.gst p = gOn then (s.guardTo p gOpenWait).grd p fun g => { g with openWait := w }
  else s.refuseCmd p cmd 1

/-- Twill's OPEN_LOW as a ramp towards 0 V begins, for a switch that is on (R135, R165, R264). -/
def State.openLow (s : State) (p : Port) : State := if s.gst p = gOn then s.cmdOpenWait p 4 .low else s

/-- OPEN_LOW. -/
def execOpenLow (p : Port) (byTwill : Bool) (s : State) : Host.Outcome State Fault Refusal :=
  .next (s.guardWriter p byTwill (s.cmdOpenWait p 4 .low))

/-- OPEN_IDLE. -/
def execOpenIdle (p : Port) (byTwill : Bool) (s : State) : Host.Outcome State Fault Refusal :=
  .next (s.guardWriter p byTwill (s.cmdOpenWait p 5 .idle))

/-- |IBUS| has stayed below 50 mA for 200 µs after OPEN_IDLE: the switch opens; in a PR_Swap as
initial sink Marl then drives CSP to 0 V (R166 step 1, R264). -/
def execOpenIdleMet (p : Port) (s : State) : Host.Outcome State Fault Refusal :=
  .next (
    if s.gst p = gOpenWait ∧ (s.port p).guard.openWait = .idle then
      if (s.port p).swap.step = .snkIdle then (s.openPlanned p).sourceMode p 0 0 else s.openPlanned p
    else s)

/-! ## Closing by soft start (R266) -/

/-- The checks of the port's monitors that precede the forward check have run: IFAST's of every closure (R301), and all of them
after FAILED marks were cleared (R304). -/
def State.checksDone (s : State) (p : Port) : Bool :=
  (s.port p).guard.ifastRan && decide ((s.port p).guard.recheck = 0)

/-- VCONV at 4.75 V: the forward check, which follows the checks of the monitors, has run 200 µs, VBUS reaching `vbusMv` at
most (R266 step 2, R279). -/
def execForwardCheck (p : Port) (vbusMv : Nat) (ibusMa : Int) (s : State) : Host.Outcome State Fault Refusal :=
  .next (
    if (s.port p).guard.closing ≠ .precheck ∨ s.checksDone p = false then s
    else if vbusMv ≥ 1500 then s.trip p .fetShorted [] ibusMa vbusMv
    else
      let s1 := ((s.guardTo p gRamp).flag GUARD.GATE_OFF p false).wr GUARD.LIMIT_CNT p 0
      s1.grd p fun g => { g with closing := .ramp, limit := 0, opened := false })

/-- VCONV not at 4.75 V within 5 ms: refusal reason 2 and return to GUARD_OFF (R266 step 2). -/
def execVconvNotReady (p : Port) (s : State) : Host.Outcome State Fault Refusal :=
  .next (
    if (s.port p).guard.closing ≠ .precheck then s
    else ((((s.grd p fun g => { g with closing := .none }).guardTo p gOff).refuseCmd p 1 2).closeFailed p))

/-- VG − VS reaches 2.0 V, `us` µs after gate drive (R266 step 4, R268). -/
def execFirstGateMark (p : Port) (us : Nat) (s : State) : Host.Outcome State Fault Refusal :=
  .next (match (s.port p).guard.closing with
    | .ramp => (s.wrSat GUARD.T_MARK1 p us).grd p fun g => { g with closing := .marked }
    | .matched => (s.wrSat GUARD.T_MARK1 p us).grd p fun g => { g with closing := .matchedMarked }
    | _ => s)

/-- VBUS above 4.75 V: full enhancement (R266 step 5). -/
def execVbusAbove475 (p : Port) (s : State) : Host.Outcome State Fault Refusal :=
  .next (
    if (s.port p).guard.closing = .marked then
      (s.guardTo p gEnhance).grd p fun g => { g with closing := .enhance }
    else s)

/-- VG − VS reaches 7.0 V: the closure is complete (R266 step 6, R268). -/
def State.closed (s : State) (p : Port) (us : Nat) : State :=
  let s1 := ((s.guardTo p gOn).flag GUARD.GATE_ON p true).flag GUARD.GATE_OFF p false
  ((((s1.wrSat GUARD.T_MARK2 p us).bump GUARD.CLOSE_CNT p).irq GUARD.page p GUARD.IRQ_GUARD_ON)).grd p fun g =>
    { g with closing := .none }

/-- RAMP_TMAX expires with VBUS below 4.75 V (R266 step 5, R269). -/
def execRampFail (p : Port) (ibusMa : Int) (vbusMv : Nat) (s : State) : Host.Outcome State Fault Refusal :=
  .next (
    if (s.port p).guard.closing ∈ [.ramp, .marked] then s.trip p .rampFail [] ibusMa vbusMv else s)

/-- GATE_RISE_TMAX expires before a gate mark (R266 steps 4 and 6, R268). -/
def execFetDamaged (p : Port) (ibusMa : Int) (vbusMv : Nat) (s : State) : Host.Outcome State Fault Refusal :=
  .next (
    if (s.port p).guard.closing ∈ [.ramp, .enhance, .matched, .matchedMarked, .resumed] then
      s.trip p .fetDamaged [] ibusMa vbusMv
    else s)

/-! ## The short-circuit comparator (R270 to R273) -/

/-- The effective threshold code: IFAST_TH or 7.2 A × SHUNT rounded up to the next step, the larger (R270). -/
def State.ifastCode (s : State) (p : Port) : Nat :=
  max (s.rd GUARD.IFAST_TH p) (cdiv (7200 * s.rd ADC.SHUNT p) 15625)

/-- The shunt reads `uv` µV: the crossing of the effective threshold, in either polarity, trips the port, but for the
200 ns blanking from the start of gate drive (R269, R271) and in GUARD_YIELDED (R272). -/
def execIfast (p : Port) (uv : Int) (nsFromGate : Nat) (ibusMa : Int) (vbusMv : Nat) (s : State) :
    Host.Outcome State Fault Refusal :=
  .next (
    if s.gst p = gYielded then s
    else if uv.natAbs * 100 < s.ifastCode p * 15625 then s
    else if (s.port p).guard.closing ∈ [.ramp, .marked, .enhance, .matched, .matchedMarked] ∧ nsFromGate < 200 then s
    else ((s.flag GUARD.IFAST p true).bump GUARD.MON_FLAG_CNT p).trip p .ifast [] ibusMa vbusMv)

/-! ## Limit timer (R274, R275) -/

/-- N, the switching periods per inner update (R20, LOOP_STAT.N). -/
def State.nIn (s : State) (p : Port) : Nat := max 1 (s.rd LOOP.N p)

/-- The inner period in PWM clock cycles of 2.5 ns. -/
def State.tIn (s : State) (p : Port) : Nat := s.nIn p * s.rd PWM.PERIOD p

/-- The shed limit I_SH in mA at a VBUS in mV (R199): min(I_SHED, P_SHED / VBUS), with a divisor of at least 1 V
(R190). -/
def State.iShed (s : State) (p : Port) (vbusMv : Nat) : Nat :=
  if s.on BUDGET.VALID p then
    min (s.rd BUDGET.I_SHED p) (s.rd BUDGET.P_SHED p * 1000000 / max 1000 vbusMv)
  else 65535

/-- The smallest ceiling term in force, mA: I_CEIL, I_SH and the foldback (R274). -/
def State.ceilMa (s : State) (p : Port) : Nat :=
  min (min (s.rd LOOP.I_CEIL p) (s.iShed p (s.rd LOOP.VBUS p))) (if s.on LOOP.FOLD p then 50 * s.rd LOOP.I_FOLD p else 65535)

/-- A ceiling binds: it lies strictly below I_FWD_LIM (R274). -/
def State.ceilBinds (s : State) (p : Port) : Bool := decide (s.ceilMa p < s.rd LOOP.I_FWD_LIM p)

/-- AT_LIMIT as Marl reports it: the limit law acts in SOURCE (R274). -/
def State.atLimit (s : State) (p : Port) : Bool :=
  s.running p && s.rd LOOP.MODE p == mSource && s.rd LOOP.LAW p == 2

/-- The counter after one inner update, in 1/8 PWM clock cycles: it rises by T_IN at the limit, holds while a PPS
contract's own limit binds, and otherwise falls by T_IN / 8 (R274). -/
def limitNext (cnt tin : Nat) (at_ exempt ceil : Bool) : Nat :=
  if at_ && !(exempt && !ceil) then cnt + 8 * tin
  else if at_ then cnt
  else cnt - tin

/-- One limit-counter update: a counter that stands at LIM_T or above when the contract's own limit comes to bind trips at that
update (R274). (DESIGN CHOICE, assumption 196) -/
def execLimitCounterUpdate (p : Port) (s : State) : Host.Outcome State Fault Refusal :=
  .next (
    let at_ := s.atLimit p
    let ceil := s.ceilBinds p
    let s0 := (s.flag GUARD.AT_LIMIT p at_).flag GUARD.CEIL_BINDS p ceil
    if s.rd LOOP.MODE p ≠ mSource ∨ s.running p = false then s0
    else
      let c := limitNext (s.port p).guard.limit (s.tIn p) at_ (s.on GUARD.PPS_EXEMPT p) ceil
      let s1 := (s0.grd p fun g => { g with limit := c }).wrSat GUARD.LIMIT_CNT p (c / 3200000)
      let ib := milliS (s.port p).loop.ibus
      if ceil then
        if s.rd GUARD.LIM_T_CEIL p * 1000 * 3200000 ≤ c then s1.trip p .limitCeil [] ib (s.rd LOOP.VBUS p) else s1
      else if s.rd GUARD.LIM_T p * 3200000 ≤ c then s1.trip p .limit [] ib (s.rd LOOP.VBUS p) else s1)

/-! ## Curve accumulator (R276 to R278) -/

/-- A curve point: current in 10 mA units and time in µs, T = M × 2^E. -/
structure CurvePoint where
  i : Nat
  t : Nat
  deriving DecidableEq, Repr

/-- Point `k` of the curve a port uses. -/
def State.curvePoint (s : State) (p : Port) (b : Bool) (k : Nat) : CurvePoint :=
  let i := pidx p k
  if b then ⟨s.rd GUARD.CURVE_B_I i, s.rd GUARD.CURVE_B_M i * 2 ^ s.rd GUARD.CURVE_B_E i⟩
  else ⟨s.rd GUARD.CURVE_A_I i, s.rd GUARD.CURVE_A_M i * 2 ^ s.rd GUARD.CURVE_A_E i⟩

/-- Curve B is in use: by CURVE_SEL, or automatically while the contract voltage is above 20 V (R277). -/
def State.curveB (s : State) (p : Port) : Bool :=
  match s.rd GUARD.CURVE_SEL p with
  | 0 => false
  | 1 => true
  | _ => match (s.port p).pe.contract with
    | some c => decide (20000 < c.mv)
    | none => false

/-- Heating rate over a curve at current `x`, as a fraction num / den of the trip level per µs; none below the first
point.  `x` is in units of 10 mA × 2^-24. -/
def curveRate (x : Nat) : List CurvePoint → Option (Nat × Nat)
  | [] => none
  | [a] => if a.i * 2 ^ 24 ≤ x then some (1, max 1 a.t) else none
  | a :: b :: t =>
    if x < a.i * 2 ^ 24 then none
    else if x < b.i * 2 ^ 24 then
      let w := (b.i - a.i) * 2 ^ 24
      some (w * b.t + (x - a.i * 2 ^ 24) * (a.t - b.t), max 1 (w * a.t * b.t))
    else curveRate x (b :: t)

/-- H after one inner period of `tin` PWM clock cycles: an increment is rounded up and a decrement down, to 32 fraction
bits (R276). -/
def heatNext (h tin tCool : Nat) : Option (Nat × Nat) → Nat
  | none => h - 2 ^ 32 * tin / (400 * (max 1 tCool * 1000000))
  | some (num, den) => min (2 ^ 32) (h + cdiv (2 ^ 32 * tin * num) (400 * den))

/-- A Retry-class trip clears itself: the guard passes through GUARD_DISCHARGE and Twill starts a new attach (R283). -/
def State.retryClear (s : State) (p : Port) : State :=
  let cause := s.rd GUARD.CAUSE p
  let s1 := (s.event EV.GUARD_RETRY p cause (s.rd GUARD.RETRIES p) 0 0).bump GUARD.RETRY_CNT p
  let s2 := ((s1.grd p fun g => { g with retryRun := false, retryElapsed := false }).toDischarge p).clearCause p
  if s2.heldSafe p then s2
  else if s2.tc p = tcErrorRecovery then s2.enterUnattached p else s2

/-- One curve-accumulator step (R276, R277), with which RETRIES counts the trips of the last 60 s (R283). -/
def execCurveUpdate (p : Port) (s : State) : Host.Outcome State Fault Refusal :=
  .next (
    let b := s.curveB p
    let i := if s.switchOn p then (s.port p).loop.ibus.natAbs else 0
    let pts := (List.range 8).map (s.curvePoint p b)
    let h := heatNext (s.port p).guard.heat (s.tIn p) (s.rd GUARD.T_COOL p) (curveRate (i * 100) pts)
    let s0 := (s.wr GUARD.RETRIES p (min 15 (recentTrips s.up (s.port p).guard.trips).length)).flag GUARD.CURVE_IN_USE p b
    let s1 := (s0.grd p fun g => { g with heat := h }).wrSat GUARD.HEAT p (h / 2 ^ 16)
    if 2 ^ 32 ≤ h then s1.trip p .curve [] (milliS (s.port p).loop.ibus) (s.rd LOOP.VBUS p)
    else if (s.port p).guard.retryElapsed ∧ s.gst p = gTripped ∧ s.rd GUARD.CAUSE p = TripCause.curve.code
        ∧ h < 2 ^ 31 then s1.retryClear p
    else s1)

/-- Staged curve word k: current, exponent, mantissa. -/
def State.stgPoint (s : State) (p : Port) (k : Nat) : Nat × Nat × Nat :=
  let i := pidx p k
  (s.rd GUARD.CURVE_STG_I i, s.rd GUARD.CURVE_STG_E i, s.rd GUARD.CURVE_STG_M i)

/-- The checks of a curve (R278): currents at least 10 and rising, times falling, mantissas at least 1. -/
def curveOk (l : List (Nat × Nat × Nat)) : Bool :=
  l.all (fun (i, _, m) => decide (10 ≤ i ∧ 1 ≤ m)) &&
    (l.zip (l.drop 1)).all fun ((i, e, m), (i', e', m')) => decide (i < i' ∧ m' * 2 ^ e' < m * 2 ^ e)

/-- COMMIT_A or COMMIT_B (R278): the points, and the reserved bits of the staging words. -/
def State.commitCurve (s : State) (p : Port) (fi fe fm : Field) : State :=
  let pts := (List.range 8).map fun k => (k, s.stgPoint p k)
  if curveOk (pts.map (·.2)) && (s.port p).guard.stgRsv == 0 then
    (pts.foldl (fun t (k, i, e, m) =>
      ((t.wr fi (pidx p k) i).wr fe (pidx p k) e).wr fm (pidx p k) m) s).flag GUARD.LAST_ERR p false
  else
    ((s.flag GUARD.LAST_ERR p true).irq GUARD.page p GUARD.IRQ_CURVE_REJECT).errF GUARD.COMMIT_A p stBAD_ARG

/-- COMMIT_A. -/
def execCommitA (p : Port) (s : State) : Host.Outcome State Fault Refusal :=
  .next (s.commitCurve p GUARD.CURVE_A_I GUARD.CURVE_A_E GUARD.CURVE_A_M)

/-- COMMIT_B. -/
def execCommitB (p : Port) (s : State) : Host.Outcome State Fault Refusal :=
  .next (s.commitCurve p GUARD.CURVE_B_I GUARD.CURVE_B_E GUARD.CURVE_B_M)

/-! ## Shorted-FET checks (R279) -/

/-- The failing condition of a check, with its values as read. -/
def State.shortFails (s : State) (p : Port) (c : ShortCheck) (ibusMa : Int) (vbusMv vconvMv : Nat) : Bool :=
  match c with
  | .forward => (s.port p).guard.closing == .precheck && decide (4750 ≤ vconvMv ∧ 1500 ≤ vbusMv)
  | .reverse => s.gst p == gOff && !s.switchOn p && decide (4000 ≤ vbusMv ∧ vbusMv ≤ vconvMv + 1500)
      && (!s.running p || decide (s.rd LOOP.V_TARGET p < 1000))
  | .off => !s.switchOn p && (s.port p).guard.opened && decide (100 ≤ ibusMa.natAbs)

/-- A check has failed for its time: FET_SHORTED (R279). -/
def execFetShorted (p : Port) (c : ShortCheck) (ibusMa : Int) (vbusMv vconvMv : Nat) (s : State) :
    Host.Outcome State Fault Refusal :=
  .next (
    if s.shortFails p c ibusMa vbusMv vconvMv then
      (if c = .reverse then s.flag GUARD.REV_CHK_DONE p false else s).trip p .fetShorted [] ibusMa vbusMv
    else s)

/-- The reverse check has run 1 ms with its conditions met and has not failed (R279). -/
def execRevChkDone (p : Port) (vbusMv vconvMv : Nat) (s : State) : Host.Outcome State Fault Refusal :=
  .next (
    if s.gst p = gOff ∧ s.switchOn p = false ∧ 4000 ≤ vbusMv ∧ vconvMv + 1500 < vbusMv
        ∧ (s.running p = false ∨ s.rd LOOP.V_TARGET p < 1000) then s.flag GUARD.REV_CHK_DONE p true
    else s)

/-! ## Trips, retries, discharge (R280 to R287) -/

/-- The cause acts: by its enable and by *Where monitor causes act* (R280, R295). -/
def State.causeActs (s : State) (p : Port) (c : Crossing) : Bool :=
  let g := s.gst p
  match c with
  | .vHi => s.on GUARD.MON_HI_EN p && decide (g ∈ [gRamp, gEnhance, gOn, gOpenWait])
  | .vLo => s.on GUARD.MON_LO_EN p && g == gOn && s.running p && s.rd LOOP.MODE p == mSource && s.rd LOOP.LAW p != 2
  | .cHi => s.on GUARD.MON_CSP_EN p && g != gYielded && s.running p
  | .cLo => false

/-- The cause trips: a monitor cause only where it acts (R280, R295), and in WATCH, when the monitors are off, none (R306). -/
def State.causeTrips (s : State) (p : Port) (c : TripCause) : Bool :=
  let on (x : Crossing) : Bool := decide (s.dev ≠ .watch) && s.causeActs p x
  match c with
  | .vbusHi => on .vHi
  | .vbusLo => on .vLo
  | .cspHi => on .cHi
  | _ => true

/-- TRIP: a cause of *Trip causes and timing* is met, with every cause met in the same cycle (R280). -/
def execTrip (p : Port) (c : TripCause) (others : List TripCause) (ibusMa : Int) (vbusMv : Nat) (s : State) :
    Host.Outcome State Fault Refusal :=
  .next (
    match (c :: others).filter (s.causeTrips p) with
    | [] => s
    | d :: l => s.trip p (l.foldl (fun (m : TripCause) x => if x.order < m.order then x else m) d) (d :: l) ibusMa vbusMv)

/-- RETRY_T has elapsed (R283). -/
def execRetryTExpiry (p : Port) (s : State) : Host.Outcome State Fault Refusal :=
  .next (
    if s.gst p = gTripped ∧ (s.port p).guard.retryRun = true then
      if s.rd GUARD.CAUSE p = TripCause.curve.code ∧ 2 ^ 31 ≤ (s.port p).guard.heat then
        s.grd p fun g => { g with retryElapsed := true }
      else s.retryClear p
    else s)

/-- VBUS has read below 0.8 V for 1 ms (R287): DSG turns off on the way to GUARD_OFF, and stays on in a tripped, latched
or retired guard and under a stop or a force; after a discharge timeout DSG turns on again. -/
def execDischargeDone (p : Port) (s : State) : Host.Outcome State Fault Refusal :=
  .next (
    if s.gst p = gDischarge then
      if s.heldSafe p then s.dsgOn p else ((s.dsgOff p).flag GUARD.DSG_TIMEOUT p false).guardTo p gOff
    else if s.tripStands p then s.dsgOn p
    else s)

/-- DSG has been on for tSafe0V with VBUS at 0.8 V or above (R287). -/
def execDischargeFail (p : Port) (vbusMv : Nat) (s : State) : Host.Outcome State Fault Refusal :=
  .next (
    if s.on GUARD.DSG_ON p = true ∧ 800 ≤ vbusMv then
      ((((s.dsgOff p).flag GUARD.DSG_TIMEOUT p true).event EV.DISCHARGE_FAIL p vbusMv 0 0 0).bump
        GUARD.DSG_TIMEOUT_CNT p).irq GUARD.page p GUARD.IRQ_DSG_TIMEOUT
    else s)

/-! ## Crossings of the window monitors (R291 to R296) -/

/-- Threshold codes of a port's windows in force: VBUS primary, and CSP. -/
def State.thrV (s : State) (p : Port) : Nat × Nat := (s.rd GUARD.THR_HI p, s.rd GUARD.THR_LO p)
def State.thrC (s : State) (p : Port) : Nat × Nat := ((s.port p).guard.cHi, (s.port p).guard.cLo)

/-- The upper, or lower, comparator acts in a MODE. -/
def actsHi (mode : Nat) : Bool := mode == 1 || mode == 2
def actsLo (mode : Nat) : Bool := mode == 1 || mode == 3

/-- A crossing at `mv` lies beyond its comparator's threshold, and the comparator acts. -/
def State.crossed (s : State) (p : Port) (c : Crossing) (mv : Nat) : Bool :=
  let mv' := s.rd GUARD.VMON_CFG_MODE p
  let mc := s.rd GUARD.CMON_CFG_MODE p
  match c with
  | .vHi => actsHi mv' && decide ((s.thrV p).1 * 60 < mv)
  | .vLo => actsLo mv' && decide (mv < (s.thrV p).2 * 60)
  | .cHi => actsHi mc && decide ((s.thrC p).1 * 60 < mv)
  | .cLo => actsLo mc && decide (mv < (s.thrC p).2 * 60)

/-- The flag of a crossing, and its trip cause. -/
def crossFlag : Crossing → Field
  | .vHi => GUARD.V_HI | .vLo => GUARD.V_LO | .cHi => GUARD.C_HI | .cLo => GUARD.C_LO
def crossCause : Crossing → Option TripCause
  | .vHi => some .vbusHi | .vLo => some .vbusLo | .cHi => some .cspHi | .cLo => none

/-- A crossing that the hardware has qualified sets its flag and trips when its cause acts. -/
def State.crossing (s : State) (p : Port) (c : Crossing) (ibusMa : Int) (vbusMv : Nat) : State :=
  let s1 := (s.flag (crossFlag c) p true).bump GUARD.MON_FLAG_CNT p
  match crossCause c with
  | some t => if s.causeTrips p t then s1.trip p t [] ibusMa vbusMv else s1
  | none => s1

/-- A flag with LATCH_NP = 1 clears at a PWM period start once the condition, by the port's latest sample, is over (R293).
(DEDUCED, assumption 175) -/
def State.unlatch (s : State) (p : Port) : State :=
  ([.vHi, .vLo, .cHi, .cLo] : List Crossing).foldl (fun t c =>
    let v := c == .vHi || c == .vLo
    let np := if v then GUARD.VMON_CFG_LATCH_NP else GUARD.CMON_CFG_LATCH_NP
    let mv := t.rd (if v then LOOP.VBUS else LOOP.VCONV) p
    if t.on np p && t.on (crossFlag c) p && !t.crossed p c mv then t.flag (crossFlag c) p false else t) s

/-- While Marl stands in for the CSP window a VCONV sample beyond its upper threshold raises MON_CSP_HI (R300, R303). -/
def State.standIn (s : State) (p : Port) : State :=
  let mv := s.rd LOOP.VCONV p
  if s.on GUARD.STANDIN p && s.crossed p .cHi mv then
    if s.on GUARD.C_HI p && s.tripStands p then s
    else s.crossing p .cHi (milliS (s.port p).loop.ibus) (s.rd LOOP.VBUS p)
  else s

end Sys2Proof.Machine
end

