-- ==== Sys2Proof/Machine/LedgerOps.lean ====
section
/-! DEFINITION. Loam's operations on the partner ledger (chapter 13): records by slot, their bytes, grading by SOH and
EOL, crediting energy, opening and closing a session, lookup and eviction. -/

namespace Sys2Proof.Machine

/-! ## Records -/

/-- An empty record. -/
def LedRec.blank : LedRec :=
  ⟨0, 0, 0, 0, 0, 0, 0, 0, 0, 0, 0, 0, 0, 0, 0, 0, 0, 0, 0, 0, 0, 0, 0, 0, [0, 0, 0, 0, 0, 0, 0, 0], 0, 0, 0, 0,
   List.replicate 16 0, 0⟩

/-- REC_FLAGS bits. -/
abbrev rfValid : Nat := 0
abbrev rfPinned : Nat := 1
abbrev rfAttached : Nat := 2
abbrev rfDrp : Nat := 3
abbrev rfEprSeen : Nat := 4
abbrev rfBatt : Nat := 5
abbrev rfTimeUnset : Nat := 6
abbrev rfDupKey : Nat := 7

/-- Bit `b` of REC_FLAGS. -/
def recFlag (r : LedRec) (b : Nat) : Bool := r.flags.getLsbD b

/-- Write bit `b` of REC_FLAGS. -/
def setRecFlag (r : LedRec) (b : Nat) (v : Bool) : LedRec :=
  { r with flags := if v then r.flags ||| BitVec.ofNat 8 (2 ^ b) else r.flags &&& ~~~(BitVec.ofNat 8 (2 ^ b)) }

/-- Bytes 0 to 123 of a record (R335). -/
def recBody (r : LedRec) : List Byte :=
  leBytes 8 r.key ++ leBytes 2 r.vid ++ leBytes 2 r.pid ++ leBytes 4 r.xid ++ leBytes 8 r.serial ++ leBytes 1 r.auth ++
  [r.flags] ++ leBytes 1 r.frs ++ leBytes 1 r.lastPort ++ leBytes 8 r.certDig ++ leBytes 4 r.first ++ leBytes 4 r.last ++
  leBytes 8 r.eIn ++ leBytes 8 r.eOut ++ leBytes 4 r.cycles ++ leBytes 2 r.design ++ leBytes 2 r.capEst ++
  leBytes 2 r.lastFull ++ leBytes 1 r.soh ++ leBytes 1 r.eol ++ leBytes 2 r.rExt ++ leBytes 2 (unsx 16 r.rTrend) ++
  leBytes 2 r.sessions ++ leBytes 2 r.lastCap ++ r.faults.flatMap (leBytes 2) ++ leBytes 1 r.lastFault ++
  leBytes 1 r.lastPage ++ [0, 0] ++ leBytes 4 r.lastTime ++ leBytes 4 r.seq ++ r.user

/-- The 128 bytes of a record. -/
def recBytes (r : LedRec) : List Byte := recBody r ++ leBytes 4 (crc32 (recBody r))

/-- Put a record under a slot, slots rising. -/
def putRec (slot : Nat) (r : LedRec) : List (Nat × LedRec) → List (Nat × LedRec)
  | [] => [(slot, r)]
  | (k, x) :: t =>
    if slot < k then (slot, r) :: (k, x) :: t
    else if k = slot then (slot, r) :: t
    else (k, x) :: putRec slot r t

/-- The record in a slot. -/
def State.record (s : State) (slot : Nat) : Option LedRec := s.led.recs.lookup slot

/-- USED shows the number of records. -/
def State.showUsed (s : State) : State := s.wr LEDGER.USED 0 s.led.recs.length

/-- A record becomes due for the journal (R340). (DEDUCED, assumption 78) -/
def State.journalDue (s : State) (slot : Nat) : State :=
  if slot ∈ s.led.dirty then s else { s with led := { s.led with dirty := s.led.dirty ++ [slot] } }

/-- The owner of a pair sends a changed record over Selvedge (R342). -/
def State.mirrorRecord (s : State) (slot : Nat) : State :=
  if s.pairOwner then s.selReliable (.record slot (s.record slot)) else s

/-- Loam changes a record: SEQ_NOW advances, and the record takes it (R335). -/
def State.putRecord (s : State) (slot : Nat) (r : LedRec) : State :=
  let n := (s.rd LEDGER.SEQ_NOW 0 + 1) % 2 ^ 32
  let s1 := s.wr LEDGER.SEQ_NOW 0 n
  (({ s1 with led := { s1.led with recs := putRec slot { r with seq := n } s1.led.recs } } : State).showUsed).mirrorRecord
    slot

/-- Loam removes a record: SEQ_NOW advances, a slot is free again, and the empty slot is journalled.
(DEDUCED, assumption 77) -/
def State.dropRecord (s : State) (slot : Nat) : State :=
  let s1 := (s.wr LEDGER.SEQ_NOW 0 (s.rd LEDGER.SEQ_NOW 0 + 1)).flag LEDGER.FULL 0 false
  ((({ s1 with led := { s1.led with recs := s1.led.recs.filter fun x => x.1 != slot } } : State).showUsed).journalDue
    slot).mirrorRecord slot

/-- Change the record in a slot, if there is one. -/
def State.modRecord (s : State) (slot : Nat) (f : LedRec → LedRec) : State :=
  match s.record slot with
  | some r => s.putRecord slot (f r)
  | none => s

/-- Device time in s while the TIME page reports it set, otherwise 0 (R335). -/
def State.clock (s : State) : Nat := if s.on TIME.SET 0 then s.time / 10 ^ 9 else 0

/-- TIME_UNSET is set when a time is written as 0 (R335). -/
def State.stamped (s : State) (r : LedRec) : LedRec := if s.on TIME.SET 0 then r else setRecFlag r rfTimeUnset true

/-! ## SOH and EOL (R335, R338) -/

/-- SOH and EOL of a record. -/
def State.graded (s : State) (r : LedRec) : LedRec :=
  if r.design = 0 ∨ r.capEst = 0 then { r with soh := 0, eol := 0 }
  else
    let h := min 100 (r.capEst * 100 / r.design)
    let lim := s.act LEDGER.CYCLE_LIMIT 0
    { r with
      soh := h
      eol := if h < s.act LEDGER.EOL_LIMIT 0 ∨ (lim ≠ 0 ∧ lim * 100 ≤ r.cycles) then 3
        else if h < s.act LEDGER.EOL_WARN 0 then 2 else 1 }

/-- Loam writes a record graded anew; a rise of EOL writes PACK_EOL. The ports that hold the record show its EOL and
AUTH_STATE. -/
def State.gradeRecord (s : State) (port slot : Nat) (r0 : LedRec) : State :=
  let old := match s.record slot with
    | some x => x.eol
    | none => 0
  let r := s.graded r0
  let s1 := s.putRecord slot r
  let s2 := s1.forPorts allPorts fun t p =>
    if (t.port p).sess.isOpen && (t.port p).sess.slot == some slot then
      (t.wr LEDGER.EOL p r.eol).wr LEDGER.AUTH_STATE p (if (t.port p).sess.authStep = 0 then r.auth else 6)
    else t
  if old < r.eol then (s2.event EV.PACK_EOL port slot r.soh r.eol 0).irq LEDGER.page 0 LEDGER.IRQ_EOL else s2

/-- AUTH_MODE of a port. -/
def State.authMode (s : State) (p : Port) : Nat :=
  (if p.val < 16 then s.act LEDGER.AUTH_MODE_LO 0 / 4 ^ p.val else s.act LEDGER.AUTH_MODE_HI 0 / 4 ^ (p.val - 16)) % 4

/-! ## Sessions (R329, R331, R336, R337, R257) -/

/-- Change a port's session. -/
def State.sess (s : State) (p : Port) (f : Session → Session) : State := s.modPort p fun x => { x with sess := f x.sess }

/-- The sessions of other ports that are open and hold the slot. -/
def State.holders (s : State) (p : Port) (slot : Nat) : List Port :=
  allPorts.filter fun q => q != p && (s.port q).sess.isOpen && (s.port q).sess.slot == some slot

/-- The open session of another port that held the slot first (R346). -/
def State.heldElsewhere (s : State) (p : Port) (slot : Nat) : Option Port :=
  (s.holders p slot).foldl (fun (b : Option Port) (q : Port) => match b with
    | some x => if (s.port q).sess.order < (s.port x).sess.order then some q else some x
    | none => some q) none

/-- The place of a session that takes the slot now. -/
def State.nextOrder (s : State) (p : Port) (slot : Nat) : Nat :=
  (s.holders p slot).foldl (fun (n : Nat) (q : Port) => max n ((s.port q).sess.order + 1)) 0

/-- Faults noted in the session go into its record (R335). -/
def State.flushFaults (s : State) (p : Port) : State :=
  let x := (s.port p).sess
  match x.slot with
  | some slot =>
    if x.faults.all (· == 0) && x.lastCode == 0 then s
    else
      (s.modRecord slot fun r => (if x.lastCode = 0 then id else s.stamped) { r with
        faults := List.zipWith (fun a b => min 65535 (a + b)) r.faults x.faults
        lastFault := if x.lastCode = 0 then r.lastFault else x.lastCode
        lastPage := if x.lastCode = 0 then r.lastPage else x.lastPage
        lastTime := if x.lastCode = 0 then r.lastTime else if s.on TIME.SET 0 then x.lastTime else 0 }).sess p fun y =>
          { y with faults := [0, 0, 0, 0, 0, 0, 0, 0], lastCode := 0, lastPage := 0, lastTime := 0 }
  | none => s

/-- Loam credits energy in µJ to a session, and to its record once known (R331, R336). -/
def State.credit (s : State) (p : Port) (out inn : Nat) : State :=
  let s1 := s.sess p fun y => { y with eOut := y.eOut + out, eIn := y.eIn + inn }
  if out = 0 ∧ inn = 0 then s1
  else match (s.port p).sess.slot with
    | some slot => s1.modRecord slot fun r => { r with
        eOut := (r.eOut + out) % 2 ^ 64
        eIn := (r.eIn + inn) % 2 ^ 64 }
    | none => s1

/-- The accumulator's value in µJ. -/
def State.microJ (s : State) (p : Port) : Int := (s.port p).bud.energy / (2 ^ 48 * 10 ^ 6)

/-- What the accumulator has gained since Loam last read it, µJ. -/
def State.gained (s : State) (p : Port) : Int := s.microJ p - (s.port p).bud.seen

/-- What it has gained is credited to a session that is open, or still to be closed, from its step 1 on (R331, R336). -/
def State.creditGain (s : State) (p : Port) (skip : Int) : State :=
  let x := (s.port p).sess
  let d := s.gained p - x.skip
  if x.isOpen || x.ended then (s.sess p fun y => { y with skip := skip }).credit p d.toNat (-d).toNat else s

/-- Loam reads a port's accumulator: the change since the last tick is credited to its session, and gives the power of
the interval, 2.5 ms long, in mW (R336, R142, R147). (DESIGN CHOICE, assumption 20) -/
def State.readAccum (s : State) (p : Port) : State :=
  (s.creditGain p 0).modPort p fun x => { x with bud := { x.bud with seen := s.microJ p, mw := s.gained p * 2 / 5 } }

/-- After a warm reset, in which no tick ran, Loam reads the accumulators: their change is credited, and is no tick's power
(R22, R142, R158). (DEDUCED, assumption 184) -/
def State.catchUp (s : State) : State :=
  s.forPorts allPorts fun t p => (t.readAccum p).modPort p fun x => { x with bud := { x.bud with mw := 0 } }

/-- The capacity sample of a session (R337), in 0.1 Wh. -/
def State.capSample (s : State) (x : Session) (r : LedRec) : Option Nat :=
  match x.c0, x.c1 with
  | some c0, some c1 =>
    if s.act LEDGER.CAP_EST_EN 0 == 1 && recFlag r rfBatt && x.eIn == 0 && decide (c0 < c1 ∧ 20 * r.design ≤ 100 * (c1 - c0)) then
      some (s.act LEDGER.ETA_PACK 0 * (x.e1 - x.e0) * r.lastFull / (100 * 360000000 * (c1 - c0)))
    else none
  | _, _ => none

/-- CAP_EST after a sample: a fourth of the difference, rounded toward zero; the first is seeded from LAST_FULL. -/
def capNext (r : LedRec) (sample : Nat) : Nat :=
  let c : Int := if r.capEst = 0 then r.lastFull else r.capEst
  (clampI 0 65535 (c + ((sample : Int) - c).tdiv 4)).toNat

/-- What a session's close writes to its record (R336, R337, R257). -/
def State.closedRecord (s : State) (p : Port) (x : Session) (r : LedRec) : LedRec :=
  let r1 := match s.capSample x r with
    | some v => { r with capEst := capNext r v }
    | none => r
  let c := if r1.design ≠ 0 then r1.design else r1.capEst
  let cyc := if c = 0 then 0 else (x.eOut + x.eIn) * 100 / (2 * c * 360000000)
  let r2 : LedRec := { r1 with
    sessions := min 65535 (r1.sessions + 1)
    cycles := (r1.cycles + cyc) % 2 ^ 32
    last := s.clock
    rTrend := if s.on LOOP.CAB_CAPTIVE p ∨ x.windows = 0 then r1.rTrend
      else clampI (-32768) 32767 (r1.rTrend + ((x.rExt : Int) - r1.rExt).tdiv 8)
    rExt := if s.on LOOP.CAB_CAPTIVE p then r1.rExt else x.rExt }
  s.stamped r2

/-- Loam closes a session (R336): the record is brought up to date, SESSION_CLOSED is written, and the page's entry
clears.  An anonymous session's energy goes to ANON_E_OUT and ANON_E_IN, in J (R331). -/
def State.closeSession (s : State) (p : Port) : State :=
  let s0 := (s.creditGain p (s.gained p)).flushFaults p
  let x := (s0.port p).sess
  let s1 := match x.slot with
    | some slot =>
      let held := (s0.heldElsewhere p slot).isSome
      match s0.record slot with
      | some r =>
        (s0.gradeRecord p slot (setRecFlag (s0.closedRecord p x r) rfAttached held)).journalDue slot
      | none => s0
    | none =>
      ((s0.bumpBy LEDGER.ANON_E_OUT 0 (x.eOut / 10 ^ 6)).bumpBy LEDGER.ANON_E_IN 0 (x.eIn / 10 ^ 6)).bump
        LEDGER.ANON_CNT 0
  let s2 := s1.event EV.SESSION_CLOSED p (s1.rd LEDGER.SLOT p) (x.eOut / 10 ^ 6) (x.eIn / 10 ^ 6) 0
  let s3 := ((((s2.flag LEDGER.SESSION p false).flag LEDGER.ANON p false).flag LEDGER.DUP p false).wr LEDGER.AUTH_STATE p
    0).wr LEDGER.EOL p 0
  (s3.wr LEDGER.SLOT p 0).sess p fun _ => Session.closed

/-! ## Lookup and eviction (R330, R332, R339) -/

/-- SERIAL_DIG of a Manufacturer String: 0 for none. -/
def serialDig (l : List Byte) : Nat := if l.isEmpty then 0 else bytesAt (sha256 l) 0 8

/-- KEY (R330). -/
def partnerKey (vid pid xid serial : Nat) : Nat :=
  bytesAt (sha256 (leBytes 2 vid ++ leBytes 2 pid ++ leBytes 4 xid ++ leBytes 8 serial)) 0 8

/-- The slot that holds a key. -/
def State.findKey (s : State) (key : Nat) : Option Nat :=
  (s.led.recs.find? fun x => x.2.key == key).map Prod.fst

/-- Records the ledger holds. -/
abbrev ledgerSlots : Nat := 8192

/-- The lowest slot not in a rising list of slots, from `n` on. -/
def lowestFree : Nat → List (Nat × LedRec) → Nat
  | n, [] => n
  | n, (k, _) :: t => if k = n then lowestFree (n + 1) t else n

/-- The record with the oldest LAST_SEEN among those neither PINNED nor ATTACHED, the lowest slot on a tie. -/
def evictable (best : Option (Nat × LedRec)) : List (Nat × LedRec) → Option (Nat × LedRec)
  | [] => best
  | (k, r) :: t =>
    if recFlag r rfPinned || recFlag r rfAttached then evictable best t
    else match best with
      | none => evictable (some (k, r)) t
      | some (k0, r0) => if r.last < r0.last then evictable (some (k, r)) t else evictable (some (k0, r0)) t

/-- A slot for a new record: the lowest empty one, or that of an evicted record; none sets FULL. -/
def State.newSlot (s : State) (p : Port) : Option Nat × State :=
  let n := lowestFree 0 s.led.recs
  if n < ledgerSlots then (some n, s)
  else match evictable none s.led.recs with
    | some (k, r) =>
      (some k, ((s.event EV.LEDGER_EVICT p k (r.key % 2 ^ 32) (r.key / 2 ^ 32) 0).bump LEDGER.EVICT_CNT 0).dropRecord k)
    | none =>
      (none, (((s.flag LEDGER.FULL 0 true).event EV.LEDGER_FULL p 0 0 0 0).irq LEDGER.page 0 LEDGER.IRQ_FULL).bump
        LEDGER.FULL_CNT 0)

/-- The session takes a record: its energy so far moves there, and the battery data, DRP, FRS and port are noted (R329,
R331, R335); R_EXT is seeded from it (R256). -/
def State.takeRecord (s : State) (p : Port) (slot : Nat) (r : LedRec) : State :=
  let x := (s.port p).sess
  let b := (setRecFlag (setRecFlag r rfValid true) rfAttached true)
  let r1 : LedRec := { setRecFlag b rfDrp (s.port p).swap.partnerDrp with
    frs := s.rd PD.FRS_CURRENT p, lastPort := p, eOut := (r.eOut + x.eOut) % 2 ^ 64, eIn := (r.eIn + x.eIn) % 2 ^ 64 }
  let r2 : LedRec := match x.batt with
    | some y => setRecFlag { r1 with design := y.design, lastFull := y.full } rfBatt true
    | none => r1
  let r3 : LedRec := match x.c1 with
    | some c => { r2 with lastCap := c }
    | none => r2
  let s1 := (s.sess p fun y => { y with
    slot := some slot, known := true, order := s.nextOrder p slot }).gradeRecord p slot r3
  let s2 := (s1.wr LEDGER.SLOT p slot).wr LEDGER.AUTH_STATE p r3.auth
  if s.on LOOP.CAB_CAPTIVE p then s2 else s2.seedRext p r.rExt

/-- The session is anonymous (R330). -/
def State.anonymous (s : State) (p : Port) : State :=
  (s.sess p fun y => { y with known := true }).flag LEDGER.ANON p true

/-- Step 6: Loam forms the key, and finds or creates the record (R329, R330, R332, R339). -/
def State.formKey (s : State) (p : Port) : State :=
  let x := (s.port p).sess
  let (vid, pid, xid) := if x.vid ≠ 0 then (x.vid, x.pid, x.xid)
    else match x.batt with
      | some b => (b.vid, b.pid, 0)
      | none => (0, 0, 0)
  if vid = 0 ∨ s.act LEDGER.LEDGER_EN 0 = 0 then s.anonymous p
  else
    let key := partnerKey vid pid xid x.serial
    match s.findKey key with
    | some slot =>
      match s.record slot, s.heldElsewhere p slot with
      | some r, some q =>
        let s1 := (s.takeRecord p slot (setRecFlag r rfDupKey true)).event EV.DUP_KEY_SEEN p slot q 0 0
        (((s1.bump LEDGER.DUP_KEY_CNT 0).irq LEDGER.page 0 LEDGER.IRQ_DUP_KEY).flag LEDGER.DUP p true).sess p fun y =>
          { y with dup := true }
      | some r, none => s.takeRecord p slot r
      | none, _ => s
    | none =>
      match s.newSlot p with
      | (some slot, s1) =>
        let r : LedRec := { LedRec.blank with
          key := key, vid := vid, pid := pid, xid := xid, serial := x.serial, first := s.clock, last := s.clock }
        let s2 := ((s1.takeRecord p slot (s.stamped r)).journalDue slot).event EV.PARTNER_NEW p slot (key % 2 ^ 32)
          (key / 2 ^ 32) 0
        (s2.bump LEDGER.PARTNER_NEW_CNT 0).irq LEDGER.page 0 LEDGER.IRQ_NEW
      | (none, s1) => s1.anonymous p

end Sys2Proof.Machine
end

