-- ==== Sys2Proof/Machine/Offer.lean ====
section
/-! DEFINITION. What a source port offers and how it answers a request: the profile in force, the limits of R109, the
objects of *Capability objects* (R110), the flags of R111, the evaluation of R113, and the set-points and limits of a
contract (R123, R205). -/

namespace Sys2Proof.Machine

/-! ## Limits (R107 to R109) -/

/-- The restricted profile of a failed CONFIG region: 5 V at 1.5 A alone, no EPR mode and no swap (R108).  It keeps the
stored PDP_MAX, and the port cannot contract as sink. (DESIGN CHOICE, assumption 158) -/
def State.restrict (s : State) (f : Profile) : Profile :=
  if s.on SYS.RESTRICTED 0 then
    { f with
             pps := false, sprAvs := false, epr := false, eprAvs := false, snk := false, fixedMask := 0, imax := 150 }
  else f

/-- The profile in force (R107, R108). -/
def State.prof (s : State) (p : Port) : Profile := s.restrict (s.port p).profile

/-- The stored profile, which answers speak of (R599) and which the next advertisement brings into force (R107). -/
def State.stored (s : State) (p : Port) : Profile := (s.port p).nextProfile.getD (s.port p).profile

/-- An advertisement brings the stored profile into force (R107); so does an attach as sink.
(DEDUCED, assumption 157) -/
def State.adopt (s : State) (p : Port) : State :=
  s.modPort p fun x => { x with profile := x.nextProfile.getD x.profile, nextProfile := none }

/-- Loam's offer: P_OFF in mW and I_OFF in mA (R145). -/
def State.pOff (s : State) (p : Port) : Nat := 100 * s.rd BUDGET.P_OFF p
def State.iOff (s : State) (p : Port) : Nat := 10 * s.rd BUDGET.I_OFF p

/-- The cable's current limit in mA and its maximum VBUS in mV (R60). -/
def State.cableMa (s : State) (p : Port) : Nat := if s.rd CC.CABLE_IMAX p = 2 then 5000 else 3000
def State.cableMv (s : State) (p : Port) : Nat := [20000, 30000, 40000, 50000].getD (s.rd CC.CABLE_VMAX p) 20000

/-- I_LIM in mA (R109). -/
def State.iLim (s : State) (p : Port) : Nat := min (min (10 * (s.prof p).imax) (s.iOff p)) (s.cableMa p)

/-- PDP and PDP_SPR in mW (R109). -/
def State.pdpAt (s : State) (p : Port) (cableMv : Nat) : Nat :=
  min (min (1000 * (s.prof p).pdpMax) (s.pOff p)) (cableMv * s.cableMa p / 1000)
def State.pdp (s : State) (p : Port) : Nat := s.pdpAt p (s.cableMv p)
def State.pdpSpr (s : State) (p : Port) : Nat := min (s.pdp p) 100000

/-- The port speaks Revision 2.0: negotiated, or before any message its own choice (R93). -/
def State.rev2 (s : State) (p : Port) : Bool :=
  s.rd PD.NEG_REV p == 1 || (s.rd PD.NEG_REV p == 0 && s.rd PD.MAX_REV p == 1)

/-! ## Capability objects (R110, R111) -/

/-- Currents are rounded down to 10 mA for fixed objects and to 50 mA for PPS and AVS objects. -/
def floor10 (i : Nat) : Nat := i / 10 * 10
def floor50 (i : Nat) : Nat := i / 50 * 50

/-- Bit `n` of FIXED_MASK. -/
def Profile.fixedBit (f : Profile) (n : Nat) : Bool := f.fixedMask.testBit n

/-- The SPR objects, in order, with their conditions; in a deficit 5 V at 0.5 A alone (R146). -/
def State.sprObjects (s : State) (p : Port) : List Pdo :=
  let f := s.prof p
  let i := s.iLim p
  let pd := s.pdp p
  let spr := s.pdpSpr p
  let r3 := !s.rev2 p
  if s.on BUDGET.DEFICIT 0 then [.fixed 5000 (floor10 (min 500 i))]
  else [(true, Pdo.fixed 5000 (floor10 (min 3000 i))),
   (f.fixedBit 0 && decide (15000 < pd), .fixed 9000 (floor10 (min (min 3000 i) (pd / 9)))),
   (f.fixedBit 1 && decide (27000 < pd), .fixed 15000 (floor10 (min (min 3000 i) (pd / 15)))),
   (f.fixedBit 2 && decide (45000 < pd), .fixed 20000 (floor10 (min (min 5000 i) (spr / 20)))),
   (r3 && f.pps, .pps 3300 11000 (floor50 (min 3000 i)) false),
   (r3 && f.pps && decide (45000 < pd),
     .pps 3300 21000 (floor50 (min (min 5000 i) (spr / 20))) (decide (spr / 20 < min 5000 i))),
   (r3 && f.sprAvs && decide (27000 < pd),
     .sprAvs (floor50 (min (min 3000 i) (spr / 15))) (floor50 (min (min 5000 i) (spr / 20))))
  ].filterMap fun (c, o) => if c then some o else none

/-- The EPR objects that pass their conditions, with EPR_CABLE taken as `cable`: a cable with EPR_CABLE carries 50 V (R60,
R128). -/
def State.eprObjects (s : State) (p : Port) (cable : Bool) : List Pdo :=
  let f := s.prof p
  let i := s.iLim p
  let pd := if cable then s.pdpAt p 50000 else s.pdp p
  let ok (bit lim : Nat) : Bool := f.epr && f.fixedBit bit && cable && decide (lim < pd) && !s.rev2 p
  let fx := [(ok 3 100000, Pdo.fixed 28000 (floor10 (min (min 5000 i) (pd / 28)))),
    (ok 4 140000, .fixed 36000 (floor10 (min (min 5000 i) (pd / 36)))),
    (ok 5 180000, .fixed 48000 (floor10 (min (min 5000 i) (pd / 48))))].filterMap fun (c, o) => if c then some o else none
  let top := if ok 5 180000 then 48000 else if ok 4 140000 then 36000 else 28000
  if fx.isEmpty then []
  else fx ++ (if f.eprAvs && cable then [.eprAvs 15000 top (pd / 1000)] else [])

/-- Zero objects up to seven positions. -/
def pad7 (l : List Pdo) : List Pdo := l ++ List.replicate (7 - l.length) .zero

/-- Feed A or feed B is selected and not in foldback: its linear limit does not act (R111). (DEDUCED, assumption 18) -/
def State.unconstrained (s : State) : Bool :=
  let f := s.rd FEED.SEL 0
  (f == 1 || f == 2) && !s.on FEED.FD_AT_LIMIT (f - 1)

/-- Flags of the 5 V object (R111). -/
def State.offerFlags (s : State) (p : Port) : CapFlags :=
  { drp := s.rd CC.ROLE p == 3, unchunked := s.on PD.UNCHUNKED_EN p && !s.rev2 p,
    epr := !(s.eprObjects p (s.on CC.EPR_CABLE p)).isEmpty, unconstrained := s.unconstrained, higher := false,
    frs := 0 }

/-- The objects of the next advertisement (R110), with positions 8 to 11 empty while the port leaves EPR mode (R130). -/
def State.offerObjects (s : State) (p : Port) : List Pdo :=
  if s.on PD.EPR_MODE p then
    pad7 (s.sprObjects p) ++ (if (s.port p).pe.eprLeaving then [] else s.eprObjects p (s.on CC.EPR_CABLE p))
  else s.sprObjects p

/-- Twill sends Source_Capabilities, or EPR_Source_Capabilities in EPR mode (R110). (DEDUCED, assumption 17) -/
def State.sendCaps (s0 : State) (p : Port) : State :=
  let s := s0.adopt p
  let l := s.offerObjects p
  let f := s.offerFlags p
  let s1 := (s.pe p fun e => { e with
    caps := l, capsFlags := f, pdpSent := s.pdp p, nCaps := e.nCaps + 1 }).sendCache p
  let s2 := if s.explicit p then s1 else s1.wr PD.PD_STATE p pdNegotiating
  s2.sendAms p (if s.on PD.EPR_MODE p then .eprSourceCaps else .sourceCaps) (.caps l f)

/-! ## Contracts -/

/-- The Rp that a source presents, by its code, or that it would (R45, R85). -/
def State.shownRp (s : State) (p : Port) : Nat :=
  match (s.port p).cc.pres with
  | .rpDefault => 0
  | .rp15 => 1
  | .rp30 => 2
  | _ => s.rd CC.RP_SEL p

/-- Contract power in µW: the explicit contract's, or the implicit contract's 5 V times the Rp current (R115). -/
def State.contractPower (s : State) (p : Port) : Nat :=
  match (s.port p).pe.contract with
  | some c => c.mv * c.ma
  | none => 5000 * rpMa (s.shownRp p)

/-- PD_STATE of a port at rest in a contract. -/
def State.pdReady (s : State) (p : Port) : Nat := if s.on PD.EPR_MODE p then pdReadyEpr else pdReadySpr

/-- The limit of the current law (R123): 110 % of the operating current, at most I_LIM; in PPS the requested current. -/
def State.contractLimit (s : State) (p : Port) (c : Contract) : Nat :=
  if c.kind = .pps then c.ma else min (c.ma * 110 / 100) (s.iLim p)

/-- Limit of the implicit contract (R123). -/
def State.implicitLimit (s : State) (p : Port) : Nat := rpMa (s.shownRp p) * 110 / 100

/-- CDC_EN and CDC_MAX of a contract (R205). -/
def State.setCdc (s : State) (p : Port) (c : Contract) : State :=
  match c.kind with
  | .fixed => (s.flag LOOP.CDC_EN p true).wr LOOP.CDC_MAX p (c.mv * 15 / 1000)
  | .sprAvs | .eprAvs => (s.flag LOOP.CDC_EN p true).wr LOOP.CDC_MAX p (c.mv * 5 / 1000 + 25)
  | .pps => s.flag LOOP.CDC_EN p false

/-- Twill writes the set-point of the implicit contract: 5 V without compensation (R123). -/
def State.implicitSetpoint (s : State) (p : Port) : State :=
  ((s.flag LOOP.CDC_EN p false).wr LOOP.SLEW p (s.prof p).slew).sourceMode p 5000 (s.implicitLimit p)

/-! ## Evaluating a request (R113) -/

/-- How a request is answered. -/
inductive Verdict where
  | reject (code : Nat)
  | softReset
  | rejectReadv (c : Contract)
  | wait (c : Contract)
  | accept (c : Contract)
  deriving DecidableEq, Repr

/-- The voltage in mV and the current in mA that a request asks of an object (R113): 20 mV and 50 mA for PPS, 25 mV and
50 mA for AVS, 10 mA for a fixed object, whose own voltage it is.  A request that names no object is read as one of no
voltage. (DESIGN CHOICE, assumption 159) -/
def rdoMv (r : Rdo) : Pdo → Nat
  | .zero => 0
  | .fixed v _ => v
  | .pps _ _ _ _ => 20 * r.vol.toNat
  | .sprAvs _ _ | .eprAvs _ _ _ => 25 * r.vol.toNat
def rdoMa (r : Rdo) : Pdo → Nat
  | .zero | .fixed _ _ => 10 * r.cur.toNat
  | .pps _ _ _ _ | .sprAvs _ _ | .eprAvs _ _ _ => 50 * r.cur.toNat

/-- The contract that a request asks of an object, with the reject code where it does not fit: 1 out of caps, 3 step
invalid. -/
def requestOn (o : Pdo) (r : Rdo) : Contract ⊕ Nat :=
  let v := rdoMv r o
  let i := rdoMa r o
  match o with
  | .zero => .inr 1
  | .fixed _ ma => if i ≤ ma then .inl ⟨r.pos, .fixed, v, i, v, o⟩ else .inr 1
  | .pps lo hi ma _ => if lo ≤ v ∧ v ≤ hi ∧ i ≤ ma then .inl ⟨r.pos, .pps, v, i, lo, o⟩ else .inr 1
  | .sprAvs m15 m20 =>
    if v % 100 ≠ 0 then .inr 3
    else if 9000 ≤ v ∧ v ≤ 20000 ∧ i ≤ (if v ≤ 15000 then m15 else m20) then .inl ⟨r.pos, .sprAvs, v, i, 9000, o⟩
    else .inr 1
  | .eprAvs lo hi pdp =>
    if v % 100 ≠ 0 then .inr 3
    else if lo ≤ v ∧ v ≤ hi ∧ v * i ≤ pdp * 1000000 then .inl ⟨r.pos, .eprAvs, v, i, lo, o⟩
    else .inr 1

/-- The object of the capabilities last sent that a request names. -/
def State.asked (s : State) (p : Port) (r : Rdo) : Pdo :=
  if r.pos = 0 then .zero else (s.port p).pe.caps.getD (r.pos - 1) .zero

/-- The procedure of R113 on the capabilities last sent and the present offer. -/
def State.evaluate (s : State) (p : Port) (r : Rdo) (isEpr : Bool) (copy : Pdo) : Verdict :=
  match s.asked p r with
  | .zero => .reject 1
  | o =>
    if s.on PD.EPR_MODE p != isEpr then .softReset
    else if isEpr && decide (copy ≠ o) then .reject 1
    else match requestOn o r with
      | .inr code => .reject code
      | .inl c =>
        if s.on BUDGET.HOLD 0 && decide (s.contractPower p < c.mv * c.ma) then .wait c
        else if s.pOff p * 1000 < c.mv * c.ma ∨ s.iOff p < c.ma then .rejectReadv c
        else .accept c

/-! ## Choosing as sink (R117) -/

/-- The top voltage of an object: an SPR AVS object without a 20 V range ends at 15 V. -/
def pdoTop : Pdo → Nat
  | .zero => 0
  | .fixed v _ => v
  | .pps _ hi _ _ => hi
  | .sprAvs _ b => if b = 0 then 15000 else 20000
  | .eprAvs _ hi _ => hi

/-- The current of an object at a voltage. -/
def pdoMa (v : Nat) : Pdo → Nat
  | .zero => 0
  | .fixed _ i => i
  | .pps _ _ i _ => i
  | .sprAvs a b => if v ≤ 15000 then a else b
  | .eprAvs _ _ pdp => pdp * 1000000 / max 1 v

/-- Kind of an object. -/
def pdoKind : Pdo → CKind
  | .zero => .fixed
  | .fixed _ _ => .fixed
  | .pps _ _ _ _ => .pps
  | .sprAvs _ _ => .sprAvs
  | .eprAvs _ _ _ => .eprAvs

/-- Lowest voltage of an object. -/
def pdoVmin : Pdo → Nat
  | .zero => 0
  | .fixed v _ => v
  | .pps lo _ _ _ => lo
  | .sprAvs _ _ => 9000
  | .eprAvs lo _ _ => lo

/-- Sink ceiling from Loam at a voltage, mA: I_CEIL while bus-forming or not, and P_CEIL / V (R147, R183). -/
def State.snkCeil (s : State) (p : Port) (mv : Nat) : Nat :=
  let pc := s.rd LOOP.P_CEIL p
  min (s.rd LOOP.I_CEIL p) (if pc = 0 then 6000 else pc * 100000 / max 1 mv)

/-- The candidate of an object within SNK_VMIN and SNK_VMAX: its voltage, for PPS and AVS the top one, held at SNK_VMAX where
the object reaches above it; and its current there within SNK_IMAX and the ceiling, in the units of its request. -/
def State.snkCandidate (s : State) (p : Port) (pos : Nat) (o : Pdo) : Option Contract :=
  let f := s.prof p
  let k := pdoKind o
  let v := if k = .fixed then pdoTop o else min (pdoTop o) (100 * f.snkVmax)
  let i := min (min (pdoMa v o) (10 * f.snkImax)) (s.snkCeil p v)
  if o ≠ .zero ∧ 100 * f.snkVmin ≤ v ∧ v ≤ 100 * f.snkVmax ∧ pdoVmin o ≤ v then
    some ⟨pos, k, v, if k = .fixed then floor10 i else floor50 i, pdoVmin o, o⟩
  else none

/-- Position 1 at 5 V, within SNK_IMAX. -/
def State.sink5v (s : State) (p : Port) (caps : List Pdo) : Contract :=
  ⟨1, .fixed, 5000, min (pdoMa 5000 (caps.headD .zero)) (10 * (s.prof p).snkImax), 5000, caps.headD .zero⟩

/-- The object that gives the most power within the sink profile (R117). -/
def State.chooseSink (s : State) (p : Port) (caps : List Pdo) : Contract :=
  let cands := (caps.zip (List.range caps.length)).filterMap fun (o, k) => s.snkCandidate p (k + 1) o
  cands.foldl (fun b c => if b.mv * b.ma < c.mv * c.ma then c else b) (s.sink5v p caps)

/-- A port that can contract above 20 V as sink asks for EPR mode. (PRESUMED, assumption 148) -/
def State.eprSink (s : State) (p : Port) : Bool := (s.prof p).epr && decide (200 < (s.prof p).snkVmax) && !s.rev2 p

/-- The request for a contract, in the units of its object (R113, R117): Capability Mismatch when its power is below
SNK_PDP. -/
def State.sinkRdo (s : State) (p : Port) (c : Contract) : Rdo :=
  { pos := c.pos
    vol := BitVec.ofNat 12 (match c.kind with
      | .fixed => 0
      | .pps => c.mv / 20
      | .sprAvs | .eprAvs => c.mv / 25)
    cur := BitVec.ofNat 10 (if c.kind = .fixed then c.ma / 10 else c.ma / 50)
    mismatch := decide (c.mv * c.ma < (s.prof p).snkPdp * 1000000)
    eprCapable := s.eprSink p
    unchunked := s.on PD.UNCHUNKED_EN p && !s.rev2 p }

end Sys2Proof.Machine
end

