-- ==== Sys2Proof/Machine/Policy.lean ====
section
/-! DEFINITION. The operations of a port's policy engine that several families share: resets, the retained cache's
in-flight flag, VCONN, cable qualification, re-advertisement, contract transitions, EPR entry and detach. -/

namespace Sys2Proof.Machine

/-! ## Retained contract cache (R102, R103) -/

/-- Twill writes the in-flight flag of the port's cache entry; in a pair the entry goes to the standby (R103, R469). -/
def State.setInflight (s : State) (p : Port) (f : Inflight) : State :=
  (s.pe p fun e => { e with inflight := f }).sendCache p

/-! ## VCONN (R53 to R57) -/

/-- Twill claims 300 mA and closes the switch.  A claim fails above the pool size, and while VCONN_IN is out of its
window (R323); it is then repeated on every management tick. -/
def State.vconnClaim (s : State) (p : Port) : State :=
  let c := (s.port p).cc
  if s.on CC.VCONN_ON p || !s.on CC.VCONN_ALLOW p || !c.ra || s.on CC.VCONN_FORCE_OFF p || c.rev
      || decide (2 ≤ c.ocpTrips) then s
  else if s.act BUDGET.POOL_MA 0 < s.vconnSum + 300 ∨ s.supply.vconnInOut = true then
    (((s.flag CC.VCONN_DENIED p true).bump CC.VCONN_DENIED_CNT p).irq CC.page p CC.IRQ_VCONN_FAULT).cc p fun c =>
      { c with claim := true }
  else
    (((((s.flag CC.VCONN_ON p true).wr CC.VCONN_RES p 30).wr CC.VCONN_PIN p (1 - s.rd CC.ORIENT p)).flag
      PD.VCONN_SRC p true).cc p fun c => { c with claim := false, vconnHigh := true }).sendCache p

/-- nDiscoverIdentityCount, nHardResetCount and nCapsCount of the standard (assumption 6). -/
abbrev nDiscoverIdentityCount : Nat := 20
abbrev nHardResetCount : Nat := 2
abbrev nCapsCount : Nat := 50

/-! ## Resets -/

/-- Twill asks the PHY for Hard Reset: the PHY stops, and clears its transmit buffer and receive queue (R89). -/
def State.sendHardReset (s : State) (p : Port) : State :=
  if !s.carriedByTwill p || s.on PD.SHADOW p || !s.on PD.PD_EN p || !s.on CC.ATTACHED p then s
  else
    ((s.wr PD.LAST_KIND p 3).wr PD.TX_RESULT p txBusy).phy p fun y => { y with
      tx := none, outbox := [], rx := [], chunkTx := none, waitSinkTx := false, hrPending := true }

/-- A power transition has passed its Accept (R127): on a source, or on a sink that has taken the Accept. -/
def State.pastAccept (s : State) (p : Port) : Bool :=
  match (s.port p).pe.trans with
  | some t => s.isSrc p || t.phase != .accepted
  | none => false

/-- Twill withdraws a message that is still held (R87, R169). -/
def State.cancelHeld (s : State) (p : Port) : State :=
  if s.rd PD.TX_RESULT p = txHeld then (s.wr PD.TX_RESULT p txCancelled).phy p fun y => { y with tx := none } else s

/-- Twill sends Soft_Reset on SOP (R79, R134); during a transition after its Accept it is sent as Hard Reset (R127). -/
def State.sendSoftReset (s : State) (p : Port) : State :=
  if s.pastAccept p then s.sendHardReset p
  else if !s.carriedByTwill p || s.on PD.SHADOW p then s
  else
    let s1 := ((s.endVdm p stABORTED []).cancelHeld p).pe p fun e => { e with trans := none }
    let s2 := ((s1.phy p fun y => { y with outbox := [] }).pe p fun e =>
      { e with await := .softResetAccept, softResetSent := true, epr := .none }).wr PD.PD_STATE p pdSoftReset
    let s3 := s2.swp p fun w => if w.step = .requested then 
      { w with step := .none, acked := false, want := w.want.filter fun x => !(x.kind == w.kind && x.why == w.why) } else w
    s3.send p .softReset .none

/-- Effects of a Hard Reset on the line, sent or received (R79, R90, R134, R135): at step 1 a source holds its
set-point; a sink sets its reverse current to zero, and nothing is known of the partner's sink side (R163, R178).  Too many
without an explicit contract lead a source to ErrorRecovery (R136). -/
def State.hardResetTakes (s : State) (p : Port) (sent : Bool) (vbusMv : Nat) : State :=
  let src := s.isSrc p
  let n := (s.port p).pe.hrCount + 1
  let s0 := (((s.releaseReasm p .sop).releaseReasm p .sop1).releaseReasm p .sop2).clearAllIds p
  let w := (s.port p).swap
  let s1 := ((s0.clearContract p).swapEnd p).swp p fun y => { y with
    partnerDrp := false
    want := if w.step = .requested then y.want.filter fun x => !(x.kind == w.kind && x.why == w.why) else y.want }
  let s2 := s1.phy p fun y => { y with
    tx := none, outbox := [], rx := [], chunkTx := none, hrOnly := true, hrPending := false, cableResetPending := false,
    waitSinkTx := false }
  let s3 := (s2.pe p fun e => { e with
    hrCount := n, hr := if src then .hold else .sinkWait, hrVbus := vbusMv, nCaps := 0,
    capsDone := false }).wr PD.PD_STATE p pdHardReset
  let s4 := (s3.irq PD.page p PD.IRQ_HARD_RESET).event EV.HARD_RESET_POWER p (if sent then 1 else 2) vbusMv n 0
  let s5 :=
    if src then (s4.wr LOOP.V_TARGET p (s4.rd LOOP.V_SP p)).present p (rpOf (s4.rd CC.RP_SEL p))
    else s4.wr LOOP.I_REV_LIM p 0
  if src && decide (nHardResetCount < n) then s5.errorRecovery p else s5

/-! ## Advertising again (R126, R149) -/

/-- No AMS, transition, swap or EPR entry is in progress. -/
def State.idlePd (s : State) (p : Port) : Bool :=
  let x := s.port p
  !s.on PD.AMS_ACTIVE p && x.pe.trans.isNone && x.swap.step == .none && x.pe.epr == .none && x.pe.hr == .none

/-- Twill re-advertises, or notes that it will once the AMS or transition ends; never while Loam holds offers, nor once
its capabilities have gone unanswered (R112), nor while no Twill carries the port (R158).
(DEDUCED, assumption 23) -/
def State.readvertise (s : State) (p : Port) : State :=
  if s.on BUDGET.HOLD 0 || !s.isSrc p || (s.port p).pe.capsDone || !s.carriedByTwill p then s
  else if s.idlePd p then (s.pe p fun e => { e with readvWant := false, nCaps := 0 }).sendCaps p
  else s.pe p fun e => { e with readvWant := true }

/-- The VCONN switch opens in an attachment by a fault or by the host: the port goes on as with a cable that is not
e-marked, and a source sends new capabilities (R54, R55, R60). (DEDUCED, assumption 147) -/
def State.vconnLost (s : State) (p : Port) : State :=
  let s1 := s.vconnOff p
  let s2 := s1.unqualify p
  if s.on CC.VCONN_ON p then (if s.explicit p && s.isSrc p then s2.readvertise p else s2) else s1

/-- An AMS or transition has ended: a re-advertisement that waited goes out. -/
def State.readvIfWanted (s : State) (p : Port) : State :=
  if (s.port p).pe.readvWant then s.readvertise p else s

/-! ## EPR mode (R128 to R130) -/

/-- Enter Failed with a reason (R128); the port stays in its SPR contract. -/
def State.eprFail (s : State) (p : Port) (reason : Nat) : State :=
  (((s.send p .eprMode (.epr (.enterFailed reason))).event EV.EPR_ENTRY_FAILED p reason 0 0 0).pe p fun e =>
    { e with epr := .none })

/-- Steps 4 and 5 of *EPR entry as source* once the cable is known. -/
def State.eprConclude (s : State) (p : Port) : State :=
  if !s.on CC.EPR_CABLE p then s.eprFail p 1
  else if (s.eprObjects p true).isEmpty then s.eprFail p 4
  else
    let s1 := ((s.flag PD.EPR_MODE p true).sendCache p).send p .eprMode (.epr .enterOk)
    ((s1.pe p fun e => { e with epr := .succeeded, eprTimer := true }).event EV.EPR_ENTERED p 0 0 0 0).wr
      PD.PD_STATE p pdReadyEpr

/-- Twill leaves EPR mode: the keep-alive timer ends and Source_Capabilities follow (R129, R130). -/
def State.leaveEpr (s : State) (p : Port) (who : Nat) : State :=
  let s1 := ((s.flag PD.EPR_MODE p false).sendCache p).pe p fun e => { e with
    eprTimer := false, eprLeaving := false, nCaps := 0 }
  ((s1.event EV.EPR_EXITED p who 0 0 0).wr PD.PD_STATE p pdReadySpr).sendCaps p

/-- The contract in force is an EPR object, from positions 8 to 11. -/
def State.inEprObject (s : State) (p : Port) : Bool :=
  match (s.port p).pe.contract with
  | some c => decide (8 ≤ c.pos)
  | none => false

/-- Twill leaves EPR mode on its own initiative (R130). -/
def State.eprAutoExit (s : State) (p : Port) : State :=
  if s.inEprObject p then
    (s.pe p fun e => { e with eprLeaving := true }).sendCaps p
  else (s.send p .eprMode (.epr .exit)).leaveEpr p 2

/-! ## Cable discovery (R59, R60) -/

/-- A discovery attempt may start: VCONN on, discovery enabled, none open, not yet found or given up, and at most three
before the first contract; on SOP′ a source, or the DFP after a DR_Swap, asks (R59, R171). -/
def State.mayDiscover (s : State) (p : Port) : Bool :=
  s.on CC.ATTACHED p && s.on PD.VCONN_SRC p && s.on CC.VCONN_ON p && s.on CC.CABLE_DISC_EN p
    && s.rd PD.HDR_DATA_ROLE p == 1 && (s.port p).pe.await == .none
    && (s.explicit p || decide (s.rd CC.DISC_COUNT p < 3))
    && decide (s.rd CC.DISC_STATE p ≤ 1 ∨ (s.port p).pe.epr = .discover)
    && decide (s.rd CC.DISC_COUNT p < nDiscoverIdentityCount ∨ (s.port p).pe.epr = .discover)

/-- An attempt starts: Discover Identity on SOP′. (PRESUMED, assumption 6) -/
def State.discoverCable (s : State) (p : Port) : State :=
  if s.mayDiscover p then
    ((((s.wr CC.DISC_STATE p 1).bump CC.DISC_COUNT p).pe p fun e => { e with await := .cableId })).sendFrame p
      ⟨.sop1, .vdm, 0, none, .vdm [0xFF008001]⟩ false
  else s

/-- An EPR entry that ran discovery concludes. -/
def State.afterDiscovery (s : State) (p : Port) : State :=
  if (s.port p).pe.epr = .discover then s.eprConclude p else s

/-- An attempt ended unanswered; the last one sets DISC_STATE 0b11 and counts once (R59). -/
def State.discUnanswered (s : State) (p : Port) : State :=
  let s1 := s.pe p fun e => { e with await := .none }
  let s2 :=
    if s1.rd CC.DISC_STATE p = 1 ∧ nDiscoverIdentityCount ≤ s1.rd CC.DISC_COUNT p then
      (((s1.wr CC.DISC_STATE p 3).bump CC.CABLE_NOANS_CNT p).irq CC.page p CC.IRQ_CABLE_DONE)
    else s1
  s2.afterDiscovery p

/-- The cable's ACK qualifies it (R60) and sets its reservation (R56); after the first contract new capabilities are
sent, and an active cable with an SOP″ controller is asked on SOP″ too (R100). -/
def State.cableFound (s : State) (p : Port) (active soppp : Bool) (imax vmax : BitVec 2) (epr : Bool) : State :=
  let s1 := ((s.wr CC.DISC_STATE p 2).wr CC.CABLE_IMAX p imax.toNat).wr CC.CABLE_VMAX p vmax.toNat
  let s2 := ((s1.flag CC.EPR_CABLE p (epr && decide (vmax = 3))).flag CC.ACTIVE p active).irq CC.page p
    CC.IRQ_CABLE_DONE
  let s3 := if !active && s2.on CC.VCONN_ON p then s2.wr CC.VCONN_RES p 5 else s2
  let s4 := s3.pe p fun e => { e with await := .none }
  let s5 :=
    if active && soppp && s4.on PD.SOPPP_EN p then
      s4.sendFrame p ⟨.sop2, .vdm, 0, none, .vdm [0xFF008001]⟩ false
    else s4
  if (s5.port p).pe.epr = .discover then s5.eprConclude p
  else if s5.explicit p && s5.isSrc p then s5.readvertise p
  else s5

/-! ## Contracts (R103, R119 to R132) -/

/-- Loam's budget ceiling enters Marl: the port's offer (R27). -/
def State.applyCeil (s : State) (p : Port) : State :=
  (s.wr LOOP.I_CEIL p (min 6000 (s.iOff p))).wr LOOP.P_CEIL p (s.rd BUDGET.P_OFF p)

/-- Loam's own shed ceiling ends with the renegotiated contract (R150); a ceiling of an island stays (R185).
(DEDUCED, assumption 22) -/
def State.releaseOwnShed (s : State) (p : Port) : State :=
  if s.on BUDGET.VALID p ∧ s.rd BUDGET.SRC p = 1 ∧ (s.port p).swap.ceilinged = false then s.clearShed p
  else s

/-- The settling band of R121. -/
def inBand (c : Contract) (vbusMv : Nat) : Bool :=
  let d := if c.mv ≤ vbusMv then vbusMv - c.mv else c.mv - vbusMv
  if c.kind = .fixed then decide (d * 100 ≤ 3 * c.mv) else decide (d * 100 ≤ c.mv + 5000)

/-- An accepted request: TRANSITION is set in the cache, then Accept is sent (R120 step 1). -/
def State.acceptContract (s : State) (p : Port) (c : Contract) (r : Rdo) : State :=
  let s1 := (s.pe p fun e => { e with trans := some ⟨.accepted, s.rd LOOP.V_SP p, c, r⟩, nCaps := 0 }).setInflight p
    .transition
  (s1.wr PD.PD_STATE p pdTransition).send p .accept .none

/-- The Accept is acknowledged: a lower current limit is written at once (R120 step 2). -/
def State.acceptAcked (s : State) (p : Port) (t : Trans) : State :=
  let lim := s.contractLimit p t.next
  let s1 := s.pe p fun e => { e with trans := some { t with phase := .waiting } }
  if lim < s.rd LOOP.I_FWD_LIM p then s1.wr LOOP.I_FWD_LIM p lim else s1

/-- The new level is settled: a higher current limit is written, PS_RDY is sent, Loam's ceiling enters, unless it has fallen
below the contract just confirmed, and its own shed ceiling is released (R120 step 5, R27, R150). -/
def State.sendPsRdy (s : State) (p : Port) (t : Trans) : State :=
  let lim := s.contractLimit p t.next
  let s1 := if s.rd LOOP.I_FWD_LIM p < lim then s.wr LOOP.I_FWD_LIM p lim else s
  let s2 := s1.pe p fun e => { e with trans := some { t with phase := .psRdy } }
  let s3 := s2.send p .psRdy .none
  (if s.pOff p * 1000 < t.next.mv * t.next.ma ∨ s.iOff p < t.next.ma then s3 else s3.applyCeil p).releaseOwnShed p

/-- A session is opened on the port at the first contract's PS_RDY (R329 step 1); one that ended and still
waits is closed first. -/
def State.openSession (s : State) (p : Port) : State :=
  if (s.port p).sess.isOpen then s
  else
    let s1 := if (s.port p).sess.ended then s.closeSession p else s
    (s1.sess p fun _ => { Session.closed with
      isOpen := true, seenAt := s.up, keptAt := s.up, battAt := s.up, skip := s.gained p }).flag LEDGER.SESSION p true

/-- The level of the CC line. -/
def State.ccLine (s : State) (p : Port) : Nat := if s.on CC.ORIENT p then s.rd CC.CC2_LVL p else s.rd CC.CC1_LVL p

/-- An explicit contract comes into force.  A sink at Revision 3.x then reads SinkTxOK or SinkTxNG from the line (R87). -/
def State.contractMade (s : State) (p : Port) (t : Trans) : State :=
  let c := t.next
  let s1 := s.pe p fun e => { e with
    contract := some c, trans := none, rdo := some t.rdo, hrCount := 0, ppsTimer := decide (c.kind = .pps) }
  let s2 := ((s1.wr PD.CONTRACT p 2).flag GUARD.PPS_EXEMPT p (decide (c.kind = .pps))).wr PD.PD_STATE p (s1.pdReady p)
  let s2 := if s2.isSnk p && s2.avoiding p then s2.flag PD.RP_TXNG p (decide (s.ccLine p ≠ 5)) else s2
  let s3 := s2.event EV.CONTRACT_MADE p (c.pos + 256 * c.kind.code) c.mv c.ma (c.mv * c.ma / 1000)
  ((s3.irq PD.page p PD.IRQ_CONTRACT).sendCache p).openSession p

/-- Get_Sink_Cap begins an AMS (R178). -/
def State.askSinkCap (s : State) (p : Port) : State :=
  (s.pe p fun e => { e with await := .sinkCap, sinkCapDue := false }).sendAms p .getSinkCap .none

/-- PS_RDY of a source's transition is acknowledged: TRANSITION clears, and after the first explicit contract at
Revision 3.x Get_Sink_Cap is sent (R103, R120, R178). -/
def State.psRdyAcked (s : State) (p : Port) (t : Trans) : State :=
  let first := !(s.port p).pe.firstDone
  let s1 := (s.setInflight p .none).contractMade p t
  let s2 := s1.amsEnd p
  let s3 := s2.pe p fun e => { e with firstDone := true }
  let s4 :=
    if first && s3.rev3 p then s3.askSinkCap p else s3
  if (s4.port p).pe.eprLeaving && !s4.inEprObject p then s4.eprAutoExit p else s4

/-! ## Roles and islanding (R165, R166, R180, R182) -/

/-- The contract in force ends with a swap of power roles. -/
def State.contractGone (s : State) (p : Port) : State :=
  let s1 := s.pe p fun e => { e with contract := none, trans := none, ppsTimer := false, eprTimer := false, readvWant := false }
  ((s1.wr PD.CONTRACT p 1).flag GUARD.PPS_EXEMPT p false).flag PD.RP_TXNG p false

/-- The port becomes sink: it presents Rd. -/
def State.becomeSink (s : State) (p : Port) : State :=
  (((((s.contractGone p).wr CC.PWR_ROLE p 2).wr CC.TC_STATE p tcAttachedSnk).wr PD.HDR_PWR_ROLE p 0).present p .rd).sendCache p

/-- The port becomes source: it presents an Rp. -/
def State.becomeSource (s : State) (p : Port) (rp : Pres) : State :=
  (((((s.contractGone p).wr CC.PWR_ROLE p 1).wr CC.TC_STATE p tcAttachedSrc).wr PD.HDR_PWR_ROLE p 1).present p rp).sendCache p

/-- Current in mA that FRS_CURRENT codes (R106, R179). -/
def frsMa : Nat → Nat
  | 1 => 500 | 2 => 1500 | 3 => 3000 | _ => 0

/-- A sink joins bus-forming mode: V_ISL, DROOP_PCT and P_CON come from the role policy and the contract (R182, R200). -/
def State.busForm (s : State) (p : Port) : State :=
  let pc := match (s.port p).pe.contract with
    | some c => c.mv * c.ma / 100000
    | none => 50 * frsMa (s.rd PD.FRS_CURRENT p) / 1000
  (((s.wr LOOP.V_ISL p s.islRole.vIsl).wr LOOP.DROOP_PCT p s.islRole.droop).wr LOOP.P_CON p pc).setMode p mBusForm

/-- The ceiling of R180 on an attached source that does not island. -/
def State.islandCeiling (s : State) (p : Port) : State :=
  ((((s.flag BUDGET.VALID p true).wr BUDGET.SRC p 1).wr BUDGET.I_SHED p (100 * s.islRole.islShed.get p)).wr
    BUDGET.P_SHED p 240).swp p fun w => { w with ceilinged := true }

/-- A port that finishes its swap on an island joins as sink, or receives the ceiling as source (R180). -/
def State.islandJoin (s : State) (p : Port) : State :=
  if s.island.isNone then s
  else if s.isSnk p then s.busForm p
  else if s.isSrc p then s.islandCeiling p
  else s

/-- Ports `a` and `b` in grant order: CLASS ascending, SHED_RANK descending, port number ascending (R143). -/
def State.grantsBefore (s : State) (a b : Port) : Bool :=
  let (ca, cb) := (s.act BUDGET.CLASS a, s.act BUDGET.CLASS b)
  let (ra, rb) := (s.act BUDGET.SHED_RANK a, s.act BUDGET.SHED_RANK b)
  decide (ca < cb ∨ (ca = cb ∧ (rb < ra ∨ (ra = rb ∧ a.val < b.val))))

/-- Insert a port in grant order. -/
def State.grantInsert (s : State) (p : Port) : List Port → List Port
  | [] => [p]
  | q :: t => if s.grantsBefore p q then p :: q :: t else q :: s.grantInsert p t

/-- Ports that meet `f`, in grant order. -/
def State.grantOrder (s : State) (f : Port → Bool) : List Port :=
  (allPorts.filter f).foldr (fun p l => s.grantInsert p l) []

/-! ## Detach (R30 step 10, R52, R58, R137, R139) -/

/-- A detach in PD_TRANSITION writes DETACH_IN_TRANSITION, with the set-point that the ramp had reached when the switch opened
(R137, R139, R140). -/
def State.detachEvent (s : State) (p : Port) : State :=
  match (s.port p).pe.trans with
  | some t =>
    if s.pastAccept p then
      let c := (s.port p).cc
      s.event EV.DETACH_IN_TRANSITION p t.fromMv t.next.mv (if c.fastOpened then c.openSp else s.rd LOOP.V_SP p)
        (if s.isSrc p then 1 else 2)
    else s
  | none => s

/-- Detach completes: MODE 0, the session is to be closed, CAB_FAULT clears (R253), and the port passes through
UnattachedWait.SRC while its VCONN pin is still charged (R58). -/
def State.detach (s : State) (p : Port) : State :=
  let src := s.isSrc p
  let s1 := (((s.detachEvent p).openPlanned p).setMode p 0).endAttachment p
  let s2 := ((s1.bump CC.DETACH_CNT p).irq CC.page p CC.IRQ_DETACH).flag LOOP.CAB_FAULT p false
  let s3 := (s2.flag LOOP.FROZEN p false)
  if src && (s3.port p).cc.vconnHigh then
    (s3.wr CC.TC_STATE p tcUnattachedWaitSrc).present p .open_
  else s3.enterUnattached p

/-- The owning Twill takes a port to Disabled at once, from any state and without any PD message (R370).
(DEDUCED, assumption 70) -/
def State.disable (s : State) (p : Port) : State :=
  let s1 := ((((s.wrBit SYS.EN 0 p false).openPlanned p).setMode p 0).endAttachment p).flag LOOP.FROZEN p false
  if s1.gst p = gRetired ∨ s1.tc p = tcOvpHold then s1
  else (s1.wr CC.TC_STATE p tcDisabled).present p (s.safeTerm p)

end Sys2Proof.Machine
end

