-- ==== Sys2Proof/Machine/Twill.lean ====
section
/-! DEFINITION. What a Twill does with the messages that reach it (chapters 3, 4, 6): the order in which it takes them, the
protocol-error rules, frames of its own that fail, the answers that have no command of their own, and the swap
operations those answers end. -/

namespace Sys2Proof.Machine

/-! ## Requests of the port's own (R163, R170) -/

/-- Kind code of SWAP_FAILED, and the message of a swap. -/
def swapCode : SwapKind → Nat
  | .pr => 0 | .dr => 1 | .vconn => 2

def swapMsg : SwapKind → PdMsg
  | .pr => .prSwap | .dr => .drSwap | .vconn => .vconnSwap

/-- SWAP_POL bits of a port (R160): PR_ACCEPT, PR_INIT, DR_ACCEPT, VCONN_ACCEPT, FRS_ISLAND, FRS_SINK. -/
def State.pol (s : State) (p : Port) (b : Nat) : Bool := (s.role.pol.get p).getLsbD b

/-- The wanted request of a kind and reason. -/
def Wanted.is (k : SwapKind) (why : SwapWant) (x : Wanted) : Bool := x.kind == k && x.why == why

/-- Twill submits a swap request: SWAP is set in the cache before a PR_Swap leaves (R103). -/
def State.sendOwnSwap (s : State) (p : Port) (k : SwapKind) (why : SwapWant) : State :=
  let s1 := if k = .pr then s.setInflight p .swap else s
  let s2 := s1.swp p fun w => { w with
    step := .requested, kind := k, why := why, byDev := true, acked := false
    want := if w.want.any (Wanted.is k why) then w.want else w.want ++ [⟨k, why, 0⟩] }
  (s2.pe p fun e => { e with await := .swap }).sendAms p (swapMsg k) .none

/-- A request is no longer wanted. -/
def SwapSt.dropWant (w : SwapSt) (k : SwapKind) (why : SwapWant) : SwapSt :=
  { w with want := w.want.filter fun x => !Wanted.is k why x }

/-- An own request was abandoned or answered with Wait: it is wanted again while a host command or a return asks, three
times at most (R170); a return is then given up.  SWAP_FAILED gives reason 3 whatever the answers were. (DESIGN CHOICE,
assumption 183) -/
def State.swapDeferred (s : State) (p : Port) : State :=
  let w := (s.port p).swap
  let s1 := (s.swapEnd p).pe p fun e => { e with await := .none }
  let drop := s1.swp p fun y => y.dropWant w.kind w.why
  match w.want.find? (Wanted.is w.kind w.why) with
  | some x =>
    if w.why = .init then drop
    else if 3 ≤ x.repeats then
      (drop.event EV.SWAP_FAILED p (swapCode w.kind) 3 0 0).swp p fun y => { y with islanded := y.islanded && w.why != .ret }
    else s1
  | none => s1

/-- An own request was rejected: a return is tried again after RETURN_RETRY, a host command is not (R170, R186).
(DEDUCED, assumption 19) -/
def State.swapRejected (s : State) (p : Port) : State :=
  let w := (s.port p).swap
  let s1 := ((s.swapEnd p).pe p fun e => { e with await := .none }).event EV.SWAP_FAILED p (swapCode w.kind) 1 0 0
  s1.swp p fun x => { x.dropWant w.kind w.why with
    retryAt := if w.why = .ret then s.up + s.role.retRetry * 10 ^ 9 else x.retryAt }

/-- A swap of one kind has begun or ended: a request of that kind is no longer wanted, one of another kind still is (R170). -/
def SwapSt.served (w : SwapSt) (k : SwapKind) : SwapSt :=
  { w with want := w.want.filter fun x => x.kind != k }

/-! ## The ends of DR_Swap and VCONN_Swap (R171, R172) -/

/-- The claim of R56 before an Accept: the reservation is taken, the switch not yet closed. -/
def State.vconnReserve (s : State) (p : Port) : Option State :=
  let c := (s.port p).cc
  if !s.on CC.VCONN_ALLOW p || !c.ra || s.on CC.VCONN_FORCE_OFF p || c.rev || decide (2 ≤ c.ocpTrips)
      || s.supply.vconnInOut || decide (s.act BUDGET.POOL_MA 0 < s.vconnSum + 300) then none
  else some (s.wr CC.VCONN_RES p 30)

/-- The data role changes (R171). -/
def State.drSwapDone (s : State) (p : Port) : State :=
  let n := 1 - s.rd PD.HDR_DATA_ROLE p
  let dev := (s.port p).swap.byDev
  let s1 := (s.wr PD.HDR_DATA_ROLE p n).event EV.DR_SWAP_DONE p (if n = 1 then 1 else 2) (if dev then 1 else 2) 0 0
  (((s1.sendCache p).swapEnd p).swp p fun w => w.served .dr).amsEnd p

/-- The Accept of a VCONN_Swap is acknowledged: a new VCONN source closes its switch, and waits for the pin to rise; the old
one waits for the partner's PS_RDY (R172). -/
def State.vconnSwapAccepted (s : State) (p : Port) : State :=
  if s.on PD.VCONN_SRC p then s.swp p fun w => { w with step := .vconnOff }
  else
    let s1 := (((s.flag CC.VCONN_ON p true).wr CC.VCONN_RES p 30).wr CC.VCONN_PIN p (1 - s.rd CC.ORIENT p)).cc p fun c =>
      { c with vconnHigh := true }
    s1.swp p fun w => { w with step := .vconnOn }

/-- The VCONN pin of a new VCONN source is above 4.75 V: PS_RDY (R172). -/
def State.vconnRisen (s : State) (p : Port) : State :=
  if (s.port p).swap.step = .vconnOn then (s.send p .psRdy .none).swp p fun w => { w with step := .vconnPsRdy } else s

/-- A VCONN_Swap is complete. -/
def State.vconnSwapDone (s : State) (p : Port) (now : Bool) : State :=
  let dev := (s.port p).swap.byDev
  let s1 := ((if now then s else s.vconnLost p).flag PD.VCONN_SRC p now).sendCache p
  let s2 := s1.event EV.VCONN_SWAP_DONE p (if now then 1 else 2) (if dev then 1 else 2) 0 0
  ((s2.swapEnd p).swp p fun w => w.served .vconn).amsEnd p

/-! ## The ends of power swaps (R166, R176, R179) -/

/-- PS_RDY of a new source is acknowledged: SWAP clears (R166 step 4). -/
def State.newSourceDone (s : State) (p : Port) : State :=
  let dev := (s.port p).swap.byDev
  let s1 := (s.setInflight p .none).event EV.PR_SWAP_DONE p 1 (if dev then 1 else 2) 0 0
  ((s1.swp p fun w => { w with step := .snkDone, islanded := false, acked := false }).amsEnd p).islandJoin p

/-- The pack's PS_RDY: SWAP clears and the port forms the bus (R179 step 5). -/
def State.frsSourceDone (s : State) (p : Port) : State :=
  let s1 := ((s.swapEnd p).swp p fun w => { w with islanded := true }).wr PD.PD_STATE p pdWaitCaps
  s1.busForm p

/-- The partner's PS_RDY to a port that took over: Rp 3.0 A and PS_RDY (R176 step 4), and the reverse limit of a source (R600). -/
def State.frsSinkDone (s : State) (p : Port) : State :=
  (((s.becomeSource p .rp30).wr LOOP.I_REV_LIM p 2000).send p .psRdy .none).swp p fun w => { w with step := .frsSinkPsRdy }

/-- No Accept has answered FR_Swap (R176). (DESIGN CHOICE, assumption 149) -/
def State.frsNoAccept (s : State) (p : Port) : State :=
  ((s.pe p fun e => { e with await := .none }).event EV.FRS_FAILED p 2 0 0 0).errorRecovery p

/-! ## Protocol errors (R97, R116, R127) -/

/-- A PR_Swap or FR_Swap of the port has passed its Accept (R116). -/
def State.powerSwapping (s : State) (p : Port) : Bool :=
  decide ((s.port p).swap.step ∉ [.none, .requested, .accepting, .vconnOn, .vconnPsRdy, .vconnOff, .frsSink, .frsSrc])

/-- A message that the standard does not expect: Hard Reset during a transition or a power swap after its Accept, otherwise
Soft_Reset (R97, R116, R127). -/
def State.protocolError (s : State) (p : Port) : State :=
  if s.powerSwapping p then s.sendHardReset p else s.sendSoftReset p

/-- Messages refused at any revision (R97). (PRESUMED, assumption 6) -/
def PdMsg.refused : List PdMsg :=
  [.gotoMin, .dataReset, .dataResetComplete, .getCountryCodes, .bistShared, .enterUsb, .getCountryInfo,
    .unstructuredVdm, .securityRequest, .fwUpdateRequest, .fwUpdateResponse, .countryInfo, .countryCodes, .vdmExt]

/-- Messages that the standard defines only at Revision 3.x (R93; assumption 6). -/
def PdMsg.rev3Only : List PdMsg :=
  [.notSupported, .getSourceCapExt, .getStatus, .frSwap, .getPpsStatus, .getSinkCapExt, .getSourceInfo, .getRevision,
    .batteryStatus, .alert, .eprRequest, .eprMode, .sourceInfo, .revision, .sourceCapsExt, .status, .getBatteryCap,
    .getBatteryStatus, .batteryCaps, .getManufacturerInfo, .manufacturerInfo, .securityResponse, .ppsStatus,
    .sinkCapsExt, .extControl, .eprSourceCaps, .eprSinkCaps]

/-- The device refuses this message on this port. -/
def State.refuses (s : State) (p : Port) (m : PdMsg) : Bool :=
  PdMsg.refused.contains m || (s.rev2 p && PdMsg.rev3Only.contains m)

/-! ## Frames of the port's own that fail (R59, R76, R103, R133, R373) -/

/-- A frame of the port's own has failed after its last retry (R59, R76, R103, R133, R373). -/
def State.txFailed (s : State) (p : Port) (f : Frame) : State :=
  let x := s.port p
  match f.msg with
  | .accept =>
    let s1 := (s.setInflight p .none).pe p fun e => { e with trans := none }
    let s2 := if x.swap.step = .accepting then
        (if x.swap.kind = .vconn ∧ s.on CC.VCONN_ON p = false then s1.wr CC.VCONN_RES p 0 else s1).swapEnd p
      else s1
    let s3 := (s2.wr PD.PD_STATE p (s2.pdReady p)).sendSoftReset p
    if x.swap.step = .accepting then s3.islandJoin p else s3
  | .reject | .wait => s.sendSoftReset p
  | .psRdy | .softReset => s.sendHardReset p
  | .prSwap | .drSwap | .vconnSwap => (s.swapRejected p).sendSoftReset p
  | .extControl => if f.body = .ext .keepAlive then s.sendAms p .extControl f.body else s
  | .frSwap => s.frsNoAccept p
  | .request | .eprRequest =>
    if s.isSnk p = true ∧ s.explicit p = true ∧ x.pe.contract = (x.pe.trans.map Trans.next) then
      s.sendAms p f.msg f.body
    else (s.pe p fun e => { e with trans := none, await := .none }).sendSoftReset p
  | .vdm =>
    match x.pe.await with
    | .cableId => s.discUnanswered p
    | .hostVdm _ => (s.endVdm p stABORTED []).amsEnd p
    | _ => s
  | _ => (s.pe p fun e => { e with await := .none }).amsEnd p

/-- The partner does not take the message in chunks: no further chunk goes out, and what the message was for has failed
(R96). -/
def State.chunkFailed (s : State) (p : Port) : State :=
  match (s.port p).phy.chunkTx with
  | some f => (s.phy p fun y => { y with chunkTx := none }).txFailed p f
  | none => s

/-! ## Messages that have no command of their own -/

/-- Twill waits for the answer to a request as sink. -/
def State.sinkAwaits (s : State) (p : Port) : Bool :=
  s.isSnk p && (match (s.port p).pe.trans with
    | some t => t.phase == .accepted
    | none => false)

/-- An own Soft_Reset has been accepted: a source advertises, and its supervision timers restart (R104, R132); a sink
waits for capabilities (R131, R134). -/
def State.softResetDone (s : State) (p : Port) : State :=
  let src := s.isSrc p
  let epr := s.on PD.EPR_MODE p
  let s1 := s.pe p fun e => { e with
    softResetSent := false, await := .none, nCaps := 0, trans := none
    ppsTimer := src && (e.contract.any fun c => c.kind == .pps)
    eprTimer := src && epr }
  if s.isSrc p then s1.sendCaps p else s1.wr PD.PD_STATE p pdWaitCaps

/-- Accept. -/
def State.onAccept (s : State) (p : Port) : State :=
  let w := (s.port p).swap
  let s1 := s.pe p fun e => { e with await := .none }
  if (s.port p).pe.softResetSent then s.softResetDone p
  else if w.step = .frsSink then s1.swp p fun w => { w with step := .frsSinkAcc }
  else if w.step = .requested ∧ w.acked = true ∧ w.kind = .dr then s1.drSwapDone p
  else if w.step = .requested ∧ w.acked = true ∧ w.kind = .vconn then
    if s1.on PD.VCONN_SRC p then s1.vconnSwapAccepted p
    else match s1.vconnReserve p with
      | some s2 => s2.vconnSwapAccepted p
      | none =>
        (((s1.flag CC.VCONN_DENIED p true).bump CC.VCONN_DENIED_CNT p).irq CC.page p CC.IRQ_VCONN_FAULT).sendSoftReset p
  else s.protocolError p

/-- Get_Sink_Cap was refused or not answered: the partner declares no Fast Role Swap current, and counts as not dual-role
(R163, R178). -/
def State.noSinkCap (s : State) (p : Port) : State :=
  ((s.wr PD.FRS_CURRENT p 0).sendCache p).swp p fun w => { w with partnerDrp := false }

/-- Reject, Wait or Not_Supported to a request of the port's own.  A Wait to a Request is to be followed by another Request
(R117), and a refused Get_Sink_Cap leaves nothing known of the partner (R163, R178). -/
def State.onRefusal (s : State) (p : Port) (m : PdMsg) : State :=
  let w := (s.port p).swap
  let s0 := if m = .notSupported then s.irq PD.page p PD.IRQ_NOT_SUPPORTED else s
  if w.step = .frsSink then s0.frsNoAccept p
  else if w.step = .requested ∧ w.acked = true then
    (if m = .wait then s0.swapDeferred p else s0.swapRejected p).amsEnd p
  else if s.sinkAwaits p then
    let s1 := s0.pe p fun e => { e with 
      trans := none, await := .none, askAt := if m = .wait then some (s.up + 100000000) else e.askAt }
    s1.wr PD.PD_STATE p (if s.explicit p then s1.pdReady p else pdWaitCaps)
  else match (s.port p).pe.await with
    | .none => if m = .notSupported then s0 else s0.protocolError p
    | .hostVdm _ | .cableId => s0
    | .sinkCap => ((s0.pe p fun e => { e with await := .none }).noSinkCap p).amsEnd p
    | _ => (s0.pe p fun e => { e with await := .none }).amsEnd p

/-- PS_RDY. -/
def State.onPsRdy (s : State) (p : Port) : State :=
  match (s.port p).swap.step with
  | .vconnOff => s.vconnSwapDone p false
  | .frsSrcPsRdy => s.frsSourceDone p
  | .frsSinkAcc => s.frsSinkDone p
  | _ => s.protocolError p

/-- The partner's sink capabilities: Fast Role Swap current and Dual-Role Power of the 5 V object (R178). -/
def State.onSinkCaps (s : State) (p : Port) (b : Body) : State :=
  if (s.port p).pe.await = .sinkCap then
    let s1 := s.pe p fun e => { e with await := .none }
    (match b with
    | .caps _ f => ((s1.wr PD.FRS_CURRENT p f.frs.toNat).sendCache p).swp p fun w => { w with partnerDrp := f.drp }
    | _ => s1.noSinkCap p).amsEnd p
  else s.protocolError p

/-- SOP type that a PORT_SEND_VDM names. -/
def vdmSop (k : Packet) : Sop := match k.ar % 4 with
  | 1 => .sop1 | 2 => .sop2 | _ => .sop

/-- Command type of a VDM's header: 0 a request, 1 to 3 an answer. (PRESUMED, assumption 6) -/
def vdmType (f : Frame) : Nat :=
  match f.body with
  | .vdm (h :: _) => h.toNat / 64 % 4
  | _ => 0

/-- An answer to a PORT_SEND_VDM (R373); any other answer without a command of its own was not asked for (R97). -/
def State.onVdm (s : State) (p : Port) (f : Frame) : State :=
  match (s.port p).pe.await, f.body with
  | .hostVdm k, .vdm ws =>
    if f.sop = vdmSop k then (s.endVdm p stOK (ws.flatMap fun w => leBytes 4 w.toNat)).amsEnd p else s.protocolError p
  | _, _ => s.protocolError p

/-- EPR_Mode messages that answer a sink's own Enter (R118). (PRESUMED, assumption 148) -/
def State.onEprAnswer (s : State) (p : Port) (a : EprAction) : State :=
  if (s.port p).pe.await ≠ .eprEnter then s.protocolError p
  else match a with
    | .enterAck => s
    | .enterOk =>
      let s1 := ((s.flag PD.EPR_MODE p true).pe p fun e => { e with await := .none }).sendCache p
      (s1.wr PD.PD_STATE p pdReadyEpr).amsEnd p
    | _ => (s.pe p fun e => { e with await := .none, eprCapRdo := false }).amsEnd p

/-- BIST (R97): Carrier Mode and Test Data are taken in an explicit SPR contract at vSafe5V, and refused otherwise. -/
def State.onBist (s : State) (p : Port) : State :=
  match (s.port p).pe.contract with
  | some c => if s.explicit p && !s.on PD.EPR_MODE p && c.mv == 5000 then s else s.refuseMsg p
  | none => s.refuseMsg p

/-- The message that an answer waited for. -/
def Await.answers : Await → PdMsg → Bool
  | .sinkCapExt, .sinkCapsExt => true
  | .status, .status => true
  | .batteryStatus, .batteryStatus => true
  | .batteryCap, .batteryCaps => true
  | .manufInfo, .manufacturerInfo => true
  | .revision, .revision => true
  | .extCaps, .sourceCapsExt => true
  | .extCaps, .sinkCapsExt => true
  | .digests, .securityResponse => true
  | .certificate, .securityResponse => true
  | .challenge, .securityResponse => true
  | _, _ => false

/-- A received frame waits in the queue for the command of its own that handles it. -/
def State.hasCommand (s : State) (p : Port) (f : Frame) : Bool :=
  let x := s.port p
  if s.refuses p f.msg then true
  else match f.msg with
    | .accept => s.sinkAwaits p || (x.swap.step == .requested && x.swap.acked && x.swap.kind == .pr)
    | .psRdy =>
      decide (x.swap.step ∈ [.snkIdle, .srcPsRdy]) || (s.isSnk p && x.pe.trans.any fun t => t.phase == .waiting)
    | .reject | .wait | .notSupported | .sinkCaps | .ping | .alert | .bist | .sourceInfo | .ppsStatus | .eprSinkCaps => false
    | .vdm => (f.sop == .sop && vdmType f == 0) || x.pe.await == .cableId || x.pe.await == .discoverId
    | .extControl => decide (f.body ≠ .ext .keepAliveAck)
    | .eprMode => decide (f.body ∈ [Body.epr .enter, Body.epr .exit])
    | .sinkCapsExt | .status | .batteryStatus | .batteryCaps | .manufacturerInfo | .revision | .sourceCapsExt
    | .securityResponse => x.pe.await.answers f.msg
    | _ => true

/-- Twill handles a frame that has no command of its own; during a transition every such message leads to Hard Reset (R127),
and a message in place of a Chunk Request ends what was being sent in chunks (R96). -/
def State.twillHandles (s0 : State) (p : Port) (f : Frame) : State :=
  let s := s0.chunkFailed p
  if s.pastAccept p then s.sendHardReset p
  else match f.msg with
    | .accept => s.onAccept p
    | .reject | .wait | .notSupported => s.onRefusal p f.msg
    | .psRdy => s.onPsRdy p
    | .sinkCaps => s.onSinkCaps p f.body
    | .vdm => s.onVdm p f
    | .extControl =>
      if (s.port p).pe.await = .keepAliveAck then s.pe p fun e => { e with await := .none } else s.protocolError p
    | .eprMode =>
      match f.body with
      | .epr a => s.onEprAnswer p a
      | _ => s.protocolError p
    | .bist => s.onBist p
    | .ping | .alert => if s.powerSwapping p then s.sendHardReset p else s
    | _ => s.protocolError p

/-! ## The order in which messages are taken (R68, R82, R83) -/

/-- Twill works for the port: a Twill that runs carries it, and the port is not held in shadow listening. -/
def State.twillOn (s : State) (p : Port) : Bool := s.carriedByTwill p && !s.on PD.SHADOW p

/-- Messages at the head of the queue that have no command of their own are handled, in arrival order. -/
def State.drainRx (s : State) (p : Port) (n : Nat) : State :=
  match n with
  | 0 => s
  | n + 1 =>
    match (s.port p).phy.rx with
    | x :: _ =>
      if x.frame.chunk.isSome || s.hasCommand p x.frame || !s.twillOn p then s
      else ((s.take p x.frame.msg).twillHandles p x.frame).drainRx p n
    | [] => s

/-- Nothing is in progress that Twill began or answers, and no message waits for it (R86). -/
def State.pdQuiet (s : State) (p : Port) : Bool :=
  let x := s.port p
  x.pe.trans.isNone && x.swap.step == .none && x.pe.epr == .none && x.pe.hr == .none && x.pe.await == .none
    && (x.pe.nCaps == 0 || x.pe.capsDone) && x.phy.tx.isNone && x.phy.outbox.isEmpty && x.phy.chunkTx.isNone
    && x.phy.rx.isEmpty && !x.phy.hrPending

/-- With nothing in progress Twill ends the AMS (R68, R85), and a re-advertisement that waited goes out (R126, R149). -/
def State.amsSettle (s : State) (p : Port) : State :=
  if s.twillOn p && s.pdQuiet p then
    let s1 := if s.on PD.AMS_ACTIVE p then s.amsEnd p else s
    if (s.port p).pe.sinkCapDue && s.isSrc p && s.explicit p then s1.askSinkCap p else s1.readvIfWanted p
  else s

/-- All that can be handled of the receive slots, five at most (R81). -/
def State.drain (s : State) (p : Port) : State := (s.drainRx p 5).amsSettle p

/-- The message is next: it heads the receive queue, or the queue is empty and the command itself brings it (R82).
(DESIGN CHOICE, assumption 150) -/
def State.isNext (s : State) (p : Port) (m : PdMsg) : Bool :=
  match (s.port p).phy.rx with
  | x :: _ => x.frame.msg == m
  | [] => true

/-- A message with a command of its own can be handled now: the port is attached, speaks PD, its Twill works, no Hard Reset is
waited out (R72, R92, R105), and the message is next. -/
def State.takes (s : State) (p : Port) (m : PdMsg) : Bool :=
  s.on CC.ATTACHED p && s.on PD.PD_EN p && s.twillOn p
    && !((s.port p).phy.hrOnly && (m != .sourceCaps || s.isSrc p)) && s.isNext p m

/-- Twill takes a received message from the queue and handles it; during a transition or power swap after its Accept
it is a protocol error that leads to Hard Reset (R116, R127). -/
def State.onMsg (s : State) (p : Port) (m : PdMsg) (f : State → State) : State :=
  if !s.takes p m then s
  else
    let s1 := (s.take p m).chunkFailed p
    (if s1.pastAccept p || s1.powerSwapping p then s1.sendHardReset p else f s1).drain p

end Sys2Proof.Machine
end

