-- ==== Sys2Proof/Machine/Attach.lean ====
section
/-! DEFINITION. Attach, orientation and the CC front end (chapter 2): detection, debounce, toggling and Try states, the
qualified CC-open signal, VCONN, cable discovery and CC overvoltage. -/

namespace Sys2Proof.Machine

/-! ## Levels (R35, R41 to R43) -/

/-- *CC detection thresholds* (R35): the level code of a pin at `mv` under its own presentation. (DESIGN CHOICE,
assumption 146) -/
def pinLevel (x : Pres) (mv : Nat) : Nat :=
  match x with
  | .rpDefault => if mv < 200 then 1 else if mv < 1600 then 2 else 0
  | .rp15 => if mv < 400 then 1 else if mv < 1600 then 2 else 0
  | .rp30 => if mv < 800 then 1 else if mv < 2600 then 2 else 0
  | .rd => if mv < 200 then 0 else if mv < 660 then 3 else if mv < 1230 then 4 else 5
  | .open_ => 0

/-- A pin that presents Open reads 0, or 6 under CC_OVP (R35). -/
def State.readLevel (s : State) (p : Port) (mv : Nat) : Nat :=
  if (s.port p).cc.pres = .open_ ∧ s.on CC.CC_OVP p = true then 6 else pinLevel (s.port p).cc.pres mv

/-- The levels of both pins are reported; with both below 5.5 V no overvoltage stands at them (R62). -/
def State.setLevels (s : State) (p : Port) (mv1 mv2 : Nat) : State :=
  ((s.wr CC.CC1_LVL p (s.readLevel p mv1)).wr CC.CC2_LVL p (s.readLevel p mv2)).cc p fun c =>
    { c with ovpStands := c.ovpStands && !(decide (mv1 < 5500) && decide (mv2 < 5500)) }

/-- Levels reported for CC1 and CC2. -/
def State.lvl (s : State) (p : Port) : Nat × Nat := (s.rd CC.CC1_LVL p, s.rd CC.CC2_LVL p)

/-- One pin reads Rd and the other Open or Ra (R41); the Bool is true when CC2 reads Rd. -/
def attachPin : Nat × Nat → Option Bool
  | (2, 0) | (2, 1) => some false
  | (0, 2) | (1, 2) => some true
  | _ => none

/-- A pin reads an Rp level (R43); the Bool is true when it is CC2. -/
def rpPin : Nat × Nat → Option Bool
  | (a, b) => if 3 ≤ a ∧ a ≤ 5 then some false else if 3 ≤ b ∧ b ≤ 5 then some true else none

/-- Ra on the other pin. -/
def raOther (l : Nat × Nat) (cc2 : Bool) : Bool := (if cc2 then l.1 else l.2) == 1

/-- The port may take part in an attach: enabled, driven by this member (R32), and not held or tripped. -/
def State.canAttach (s : State) (p : Port) : Bool := s.enabled p && s.drives p && !s.heldSafe p && !s.tripStands p

/-- During a PR_Swap CC_OPEN_Q has no action on an initial source once its switch has opened, and none on an initial
sink (R167); during a Fast Role Swap the detach consequence is suspended (R174, R176). -/
def State.ccOpenIgnored (s : State) (p : Port) : Bool :=
  decide ((s.port p).swap.step ∈ [.srcOff, .srcPsRdy, .srcMatch, .srcClosed, .snkIdle, .snkStart, .snkPsRdy, .snkDone,
    .frsSink, .frsSinkAcc, .frsSinkPsRdy])

/-- RD_DETECTED: the CC pins stand at `mv1` and `mv2` on a port that presents Rp (R3, R35, R41, R42).
(DEDUCED, assumption 11) -/
def execRdDetected (p : Port) (mv1 mv2 : Nat) (s : State) : Host.Outcome State Fault Refusal :=
  .next (
    let s1 := s.setLevels p mv1 mv2
    match attachPin (s1.lvl p) with
    | some cc2 =>
      let s2 := s1.cc p fun c => { c with pin := cc2, ra := raOther (s1.lvl p) cc2 }
      if s.tc p = tcUnattachedSrc ∧ s.canAttach p = true then s2.wr CC.TC_STATE p tcAttachWaitSrc
      else if s.tc p ∈ [tcAttachWaitSrc, tcTrySrc, tcTryWaitSrc] then s2
      else s1
    | none => s1)

/-- RP_DETECTED: the CC pins stand at `mv1` and `mv2` on a port that presents Rd; one may read an Rp level (R35, R43). -/
def execRpDetected (p : Port) (mv1 mv2 : Nat) (s : State) : Host.Outcome State Fault Refusal :=
  .next (
    let s1 := s.setLevels p mv1 mv2
    match rpPin (s1.lvl p) with
    | some cc2 =>
      let s2 := s1.cc p fun c => { c with pin := cc2, ra := false }
      if s.tc p = tcUnattachedSnk ∧ s.canAttach p = true then s2.wr CC.TC_STATE p tcAttachWaitSnk
      else if s.tc p ∈ [tcAttachWaitSnk, tcTrySnk, tcTryWaitSnk] then s2
      else s1
    | none => s1)

/-! ## Attaching (R30, R40, R41, R43, R44, R58) -/

/-- What both attached states share: orientation, flags, interrupt. -/
def State.attach (s : State) (p : Port) (state role : Nat) : State :=
  let s1 := ((s.flag CC.ORIENT p (s.port p).cc.pin).flag CC.ATTACHED p true).wr CC.PWR_ROLE p role
  let s2 := ((s1.wr CC.TC_STATE p state).bump CC.ATTACH_CNT p).irq CC.page p CC.IRQ_ATTACH
  let s3 := (s2.wr PD.HDR_PWR_ROLE p (if role = 1 then 1 else 0)).wr PD.HDR_DATA_ROLE p (if role = 1 then 1 else 0)
  ((s3.cc p fun c => { c with
    ocpTrips := 0, rev := false, claim := false, fastOpened := false, want5v := role == 1 }).seedAtAttach p).sendCache p

/-- Attached.SRC is entered: VCONN closes where Ra was read, and 5 V is requested of the next tick (R30 step 2). -/
def State.attachSrc (s : State) (p : Port) : State := (s.attach p tcAttachedSrc 1).vconnClaim p

/-- Attached.SNK is entered: the draw is limited to the Rp current until an explicit contract (R45); capabilities are
awaited under tTypeCSinkWaitCap. -/
def State.attachSnk (s : State) (p : Port) : State :=
  let l := s.lvl p
  let a := if (s.port p).cc.pin then l.2 else l.1
  let s1 := ((s.adopt p).attach p tcAttachedSnk 2).wr LOOP.I_REV_LIM p (rpMa (a - 3))
  if s1.on PD.PD_EN p then (s1.wr PD.CONTRACT p 1).wr PD.PD_STATE p pdWaitCaps else s1.wr PD.CONTRACT p 1

/-- T_CCDEBOUNCE_EXPIRY: the condition has held unchanged for tCCDebounce, with VBUS at `vbusMv` (R41, R43).  A DRP port
with a Try preference passes through its Try state (R40). (DEDUCED, assumption 11) -/
def execTCcdebounceExpiry (p : Port) (vbusMv : Nat) (s : State) : Host.Outcome State Fault Refusal :=
  .next (
    let c := (s.port p).cc
    if s.drives p = false then s
    else if s.tc p = tcAttachWaitSrc ∧ (attachPin (s.lvl p)).isSome = true then
      if c.role = 3 ∧ c.try_ = 2 then (s.wr CC.TC_STATE p tcTrySnk).present p .rd
      else s.attachSrc p
    else if s.tc p = tcAttachWaitSnk ∧ (rpPin (s.lvl p)).isSome = true ∧ 4750 ≤ vbusMv then
      if c.role = 3 ∧ c.try_ = 1 then (s.wr CC.TC_STATE p tcTrySrc).present p (rpOf (s.rd CC.RP_SEL p))
      else s.attachSnk p
    else if s.tc p = tcTryWaitSnk ∧ (rpPin (s.lvl p)).isSome = true ∧ 4750 ≤ vbusMv then s.attachSnk p
    else s)

/-- T_PDDEBOUNCE_EXPIRY: the pins have stood for tPDDebounce; where neither reads the partner's termination an AttachWait
state ends, and an attached port completes its detach (R30 step 10, R41, R43, R50, R52), but for the intervals of R167 and
R176. -/
def execTPddebounceExpiry (p : Port) (s : State) : Host.Outcome State Fault Refusal :=
  .next (
    let (l1, l2) := s.lvl p
    if s.tc p = tcAttachWaitSrc then (if l1 = 2 ∨ l2 = 2 then s else s.enterUnattachedAs p false)
    else if s.tc p = tcAttachWaitSnk ∨ s.tc p = tcTryWaitSnk then
      (if (rpPin (l1, l2)).isSome then s else s.enterUnattachedAs p true)
    else if s.on CC.ATTACHED p = true ∧ (s.on CC.CC_OPEN_Q p = true ∨ (s.port p).cc.fastOpened = true) then
      if s.ccOpenIgnored p then s else s.detach p
    else s)

/-- T_DRP_TOGGLE: a DRP port changes over between Unattached.SRC and Unattached.SNK (R39, R63). -/
def execTDrpToggle (p : Port) (s : State) : Host.Outcome State Fault Refusal :=
  .next (
    if (s.port p).cc.role ≠ 3 ∨ s.drives p = false then s
    else if s.tc p = tcUnattachedSrc then s.enterUnattachedAs p true
    else if s.tc p = tcUnattachedSnk then s.enterUnattachedAs p false
    else s)

/-- TRY_TIMER_EXPIRY: the standard's Try states with the timers of R38 (R40). (PRESUMED, assumption 7). -/
def execTryTimerExpiry (p : Port) (t : TryTimer) (vbusMv : Nat) (s : State) : Host.Outcome State Fault Refusal :=
  .next (
    let rd := (attachPin (s.lvl p)).isSome
    let rp := (rpPin (s.lvl p)).isSome
    let toTryWaitSnk := (s.wr CC.TC_STATE p tcTryWaitSnk).present p .rd
    if s.drives p = false then s
    else match s.tc p, t with
    | 0x08, .tryCcDebounce => if rd then s.attachSrc p else s
    | 0x08, .drpTry => if rd ∨ 800 ≤ vbusMv then s else toTryWaitSnk
    | 0x08, .tryTimeout => if rd then s else toTryWaitSnk
    | 0x0A, .tryCcDebounce =>
      if rp then (if 4750 ≤ vbusMv then s.attachSnk p else s)
      else (s.wr CC.TC_STATE p tcTryWaitSrc).present p (rpOf (s.rd CC.RP_SEL p))
    | 0x0B, .tryCcDebounce => if rd ∧ vbusMv < 800 then s.attachSrc p else s
    | 0x0B, .drpTryWait => if rd then s else s.enterUnattachedAs p true
    | 0x09, .drpTryWait => if rp then s else s.enterUnattachedAs p true
    | _, _ => s)

/-- T_ERROR_RECOVERY_EXPIRY: tErrorRecovery has elapsed; with no trip, stop or force standing the port starts a new
attach (R136, R281, R285, R375). -/
def execTErrorRecoveryExpiry (p : Port) (s : State) : Host.Outcome State Fault Refusal :=
  .next (
    if s.tc p ∈ [tcErrorRecovery, tcCcSafe, tcOvpHold] ∧ s.tripStands p = false
        ∧ s.heldSafe p = false ∧ s.on CC.CC_OVP p = false ∧ s.drives p = true then s.enterUnattached p
    else s)

/-- RP_VALUE_CHANGE: a sink's CC pin has stood at `mv` for tRpValueChange (R35, R45); in an explicit contract at Revision
3.x the level is SinkTxOK or SinkTxNG, and any level but Rp 3.0 A is read as SinkTxNG (R85, R87). -/
def execRpValueChange (p : Port) (mv : Nat) (s : State) : Host.Outcome State Fault Refusal :=
  .next (
    if s.isSnk p = false then s
    else
      let l := s.readLevel p mv
      let s1 := if s.on CC.ORIENT p then s.wr CC.CC2_LVL p l else s.wr CC.CC1_LVL p l
      let s2 := if 3 ≤ l ∧ l ≤ 5 then s1.irq CC.page p CC.IRQ_RP_CHANGE else s1
      if s.avoiding p then s2.flag PD.RP_TXNG p (decide (l ≠ 5))
      else if s.explicit p ∨ l < 3 ∨ 5 < l then s2
      else s2.wr LOOP.I_REV_LIM p (rpMa (l - 3)))

/-! ## The qualified CC-open signal (R46 to R52) -/

/-- The signal stands: its bit, its level and its interrupt (R49). -/
def State.ccOpen (s : State) (p : Port) (v : Bool) : State :=
  (s.flag CC.CC_OPEN_Q p v).level CC.page p CC.IRQ_CC_OPEN_Q v

/-- CC_OPEN_Q: the CC line of an attached port has read Open for its qualification; `own`: the port's own PHY transmits,
which holds the qualification counter at zero (R48).  On a source Marl holds the ramp (R50, R204). -/
def execCcOpenQ (x : CcSeen) (s : State) : Host.Outcome State Fault Refusal :=
  .next (
    if x.own ∨ s.on CC.ATTACHED x.port = false then s
    else
      let s1 := s.ccOpen x.port true
      if s.isSrc x.port = true ∧ s.ccOpenIgnored x.port = false ∧ s.on LOOP.FROZEN x.port = false ∧ s.running x.port = true
          ∧ (s.port x.port).cc.fastOpened = false then
        ((s1.flag LOOP.FROZEN x.port true).bump LOOP.FREEZE_CNT x.port).irq LOOP.page x.port LOOP.IRQ_FREEZE
      else s1)

/-- CC_OPEN_Q_RELEASE: before the switch opens, the ramp resumes and a PS_RDY that was held goes out (R51, R138). -/
def execCcOpenQRelease (p : Port) (s : State) : Host.Outcome State Fault Refusal :=
  .next (
    let s1 := s.ccOpen p false
    if (s.port p).cc.fastOpened then s1
    else
      let s2 := s1.flag LOOP.FROZEN p false
      match (s.port p).pe.trans with
      | some t => if t.phase = .held then s2.sendPsRdy p t else s2
      | none => s2)

/-- CC_GLITCH: an Open reading shorter than the qualification (R46); one that the port's own transmission cancelled is not
counted (R48). -/
def execCcGlitch (x : CcSeen) (s : State) : Host.Outcome State Fault Refusal :=
  .next (if s.on CC.ATTACHED x.port && !x.own then s.bump CC.CC_GLITCH_CNT x.port else s)

/-- FAST_DETACH_OPENING: IBUS below 50 mA for 200 µs, or CC_OPEN_Q for 1 ms, on a source (R50, R58, R265).  From the
opening Marl drives the converter output to 0 V, and a Power Role Swap whose switch had yet to open is over (R167). -/
def execFastDetachOpening (p : Port) (s : State) : Host.Outcome State Fault Refusal :=
  .next (
    if s.isSrc p = true ∧ s.on CC.CC_OPEN_Q p = true ∧ s.ccOpenIgnored p = false
        ∧ (s.port p).cc.fastOpened = false then
      let s1 := ((s.openPlanned p).bump CC.FAST_DETACH_CNT p).wr LOOP.V_TARGET p 0
      let s2 := ((s1.flag LOOP.FROZEN p false).vconnOff p).cc p fun c => { c with
        fastOpened := true, openSp := s.rd LOOP.V_SP p }
      if (s.port p).swap.step ∈ [.srcHold, .srcRamp] then s2.swp p fun w => { w with step := .none } else s2
    else s)

/-- SINK_CC_OPEN: CC_OPEN_Q on a sink sets the reverse current set-point to zero (R52, R139). -/
def execSinkCcOpen (p : Port) (s : State) : Host.Outcome State Fault Refusal :=
  .next (
    if s.isSnk p = true then
      let s1 := s.ccOpen p true
      if s.ccOpenIgnored p then s1 else s1.wr LOOP.I_REV_LIM p 0
    else s)

/-- SINK_VBUS_LOSS: VBUS falls away on an attached sink, which detaches (R52), but for the swaps of R167 and R176 and
the Hard Reset of R134. -/
def execSinkVbusLoss (p : Port) (s : State) : Host.Outcome State Fault Refusal :=
  .next (
    if s.isSnk p = true ∧ s.ccOpenIgnored p = false ∧ (s.port p).pe.hr = .none then s.detach p else s)

/-- SINK_VBUS_RETURN: VBUS returns above vSafe5V minimum after a Hard Reset: with Rp read, the port waits for
capabilities again; otherwise it detaches (R134). -/
def execSinkVbusReturn (p : Port) (vbusMv : Nat) (s : State) : Host.Outcome State Fault Refusal :=
  .next (
    if s.isSnk p = true ∧ (s.port p).pe.hr = .sinkWait ∧ 4750 ≤ vbusMv then
      if (rpPin (s.lvl p)).isSome ∧ s.on CC.CC_OPEN_Q p = false then
        let l := s.lvl p
        let a := if s.on CC.ORIENT p then l.2 else l.1
        (((s.wr LOOP.I_REV_LIM p (rpMa (a - 3))).wr PD.CONTRACT p 1).wr PD.PD_STATE p pdWaitCaps).pe p fun e =>
          { e with hr := .none }
      else s.detach p
    else s)

/-- SINK_HARD_RESET_TIMEOUT: VBUS has not returned in time (R134). -/
def execSinkHardResetTimeout (p : Port) (s : State) : Host.Outcome State Fault Refusal :=
  .next (if s.isSnk p = true ∧ (s.port p).pe.hr = .sinkWait then s.detach p else s)

/-! ## VCONN (R53 to R58) -/

/-- VCONN_OCP: the pin current exceeds the threshold (R53, R54). -/
def execVconnOcp (p : Port) (s : State) : Host.Outcome State Fault Refusal :=
  .next (
    if s.on CC.VCONN_ON p then
      ((((s.vconnLost p).flag CC.VCONN_OCP p true).bump CC.VCONN_OCP_CNT p).irq CC.page p CC.IRQ_VCONN_FAULT).cc p
        fun c => { c with ocpTrips := c.ocpTrips + 1 }
    else s)

/-- VCONN_RECLOSE: 100 ms after a first VCONN_OCP trip (R54). -/
def execVconnReclose (p : Port) (s : State) : Host.Outcome State Fault Refusal :=
  .next (if s.on CC.ATTACHED p = true ∧ (s.port p).cc.ocpTrips = 1 then s.vconnClaim p else s)

/-- VCONN_REV: the pin exceeds VCONN_IN by more than 150 mV (R55). -/
def execVconnRev (p : Port) (s : State) : Host.Outcome State Fault Refusal :=
  .next (
    if s.on CC.VCONN_ON p then
      (((s.vconnLost p).flag CC.VCONN_REV p true).irq CC.page p CC.IRQ_VCONN_FAULT).cc p fun c => { c with rev := true }
    else s)

/-- VCONN_CLAIM: Twill claims 300 mA for a port that may source VCONN: in Attached.SRC, or after a VCONN_Swap that made it
VCONN source (R53, R56, R57). -/
def execVconnClaim (p : Port) (s : State) : Host.Outcome State Fault Refusal :=
  .next (
    if (s.port p).cc.ocpTrips = 0 ∧ (s.isSrc p = true ∨ (s.on CC.ATTACHED p = true ∧ s.on PD.VCONN_SRC p = true)) then
      s.vconnClaim p
    else s)

/-- VCONN_CTL.VCONN_FORCE_OFF is written: setting it opens the VCONN switch (R54). -/
def State.vconnForce (s : State) (p : Port) (v : Bool) : State :=
  let s1 := s.flag CC.VCONN_FORCE_OFF p v
  if v then s1.vconnLost p else s1

/-- CC_CFG.VCONN_ALLOW is written: a port that may not source VCONN opens its switch (R53, R66). -/
def State.vconnAllow (s : State) (p : Port) (v : Bool) : State :=
  let s1 := s.flag CC.VCONN_ALLOW p v
  if v then s1 else s1.vconnLost p

/-- CC_CFG.RP_SEL is written: a source without an explicit contract presents the new value, and its current limit
follows (R66, R67, R123). -/
def State.rpSel (s : State) (p : Port) (v : Nat) : State :=
  let s1 := s.wr CC.RP_SEL p v
  if (s.port p).cc.pres ∈ [.rpDefault, .rp15, .rp30] ∧ s.explicit p = false then
    let s2 := s1.present p (s1.restRp p)
    if s.isSrc p then s2.wr LOOP.I_FWD_LIM p (s2.implicitLimit p) else s2
  else s1

/-- VCONN_FORCE_OFF: the bit is written; while set the switch is held open and the reservation returned (R67). -/
def execVconnForceOff (p : Port) (v : Bool) (s : State) : Host.Outcome State Fault Refusal := .next (s.vconnForce p v)

/-- VCONN_PIN_DISCHARGED: the VCONN pin reads `mv`.  Below 0.8 V the port may present Rp again (R58); a new VCONN source
sends PS_RDY once its pin is above 4.75 V (R172). -/
def execVconnPinDischarged (x : VconnPin) (s : State) : Host.Outcome State Fault Refusal :=
  .next (
    if 4750 < x.mv then s.vconnRisen x.port
    else if 800 ≤ x.mv then s
    else
    let s1 := if s.on CC.VCONN_ON x.port then s else s.cc x.port fun c => { c with vconnHigh := false }
    if s1.tc x.port = tcUnattachedWaitSrc ∧ s1.on CC.VCONN_ON x.port = false then s1.enterUnattached x.port else s1)

/-! ## Cable discovery (R59, R60) -/

/-- CABLE_DISCOVERY_ATTEMPT: with no answer given, an attempt starts; with one, the attempt ends and the cable is
classified (a NAK or BUSY counts as no answer). -/
def execCableDiscoveryAttempt (p : Port) (reply : Option CableReply) (s : State) : Host.Outcome State Fault Refusal :=
  .next (match reply with
    | none => s.discoverCable p
    | some r =>
      if (s.port p).pe.await = .cableId then
        match r with
        | .nak => s.discUnanswered p
        | .ack a k i v e => s.cableFound p a k i v e
      else s)

/-! ## CC overvoltage (R62, R67) -/

/-- CC_OVP: a CC pin above the threshold for 200 ns: isolation, VCONN and Rp open, and the guard trips. -/
def execCcOvp (p : Port) (ibusMa : Int) (vbusMv : Nat) (s : State) : Host.Outcome State Fault Refusal :=
  .next (
    let s1 := ((s.flag CC.CC_OVP p true).bump CC.CC_OVP_CNT p).irq CC.page p CC.IRQ_CC_OVP
    let s2 := ((s1.vconnOff p).cc p fun c => { c with ovpStands := true }).present p .open_
    s2.trip p .ccOvp [] ibusMa vbusMv)

/-- CC_OVP_CLEAR: writing 1 to CC_FLT.CC_OVP clears it only when both pins read below 5.5 V (R67). -/
def execCcOvpClear (p : Port) (cc1Mv cc2Mv : Nat) (s : State) : Host.Outcome State Fault Refusal :=
  .next (
    if cc1Mv < 5500 ∧ cc2Mv < 5500 then
      let s1 := (s.flag CC.CC_OVP p false).cc p fun c => { c with ovpStands := false }
      if (s.port p).cc.pres = .open_ then (s1.wr CC.CC1_LVL p 0).wr CC.CC2_LVL p 0 else s1
    else s)

end Sys2Proof.Machine
end

