-- ==== Sys2Proof/Machine/Contract.lean ====
section
/-! DEFINITION. Messages a partner sends and the device's answers (R97 to R100, R599), contracts as source and as sink,
EPR mode, supervision, Soft Reset and the power consequences of Hard Reset (chapters 3 and 4). -/

namespace Sys2Proof.Machine

/-- An answer that exists at Revision 3.x only: at 2.0 it is refused (R93). -/
def State.answer3 (s : State) (p : Port) (m : PdMsg) (b : Body) : State :=
  if s.rev2 p then s.refuseMsg p else s.send p m b

/-- REFUSED_MESSAGE: Not_Supported or Reject (R93, R97); Ping is ignored. -/
def execRefusedMessage (p : Port) (m : PdMsg) (s : State) : Host.Outcome State Fault Refusal :=
  .next (s.onMsg p m fun s => if s.refuses p m then s.refuseMsg p else s)

/-! ## Answers (R98, R99, R599) -/

/-- DISCOVER_IDENTITY_SOP: an ACK with Product Type (UFP) "Not a UFP", Product Type (DFP) "Power Brick", no USB
communication, and VID, PID, XID and bcdDevice of CONFIG. -/
def execDiscoverIdentitySop (p : Port) (s : State) : Host.Outcome State Fault Refusal :=
  .next (s.onMsg p .vdm fun s => s.send p .vdm (.fields [1, 0, 3, 0, 0, s.vid, s.pid, s.xid, s.bcdDevice]))

/-- STRUCTURED_VDM_REQUEST: NAK to every other structured request on SOP; Attention is ignored. (PRESUMED, assumption 6) -/
def execStructuredVdmRequest (p : Port) (attention : Bool) (s : State) : Host.Outcome State Fault Refusal :=
  .next (s.onMsg p .vdm fun s => if attention then s else s.send p .vdm (.fields [2]))

/-- GET_BATTERY_CAP, and Get_Battery_Status: Invalid Battery Reference (R99). -/
def execGetBatteryCap (p : Port) (status : Bool) (s : State) : Host.Outcome State Fault Refusal :=
  .next (
    if status then s.onMsg p .getBatteryStatus fun s => s.answer3 p .batteryStatus (.fields [1])
    else s.onMsg p .getBatteryCap fun s => s.answer3 p .batteryCaps (.fields [1]))

/-- GET_MANUFACTURER_INFO: the identity and an empty string (R99). -/
def execGetManufacturerInfo (p : Port) (s : State) : Host.Outcome State Fault Refusal :=
  .next (s.onMsg p .getManufacturerInfo fun s => s.answer3 p .manufacturerInfo (.fields [s.vid, s.pid]))

/-- The port can contract as sink (R599). -/
def State.canSink (s : State) (p : Port) : Bool := s.rd CC.ROLE p != 1 && (s.restrict (s.stored p)).snk

/-- The cabinet bus is within its window (R320). -/
def State.busOk (s : State) : Bool := !s.on FEED.BUS_LOSS 0 && !s.on FEED.BUS_OV 0

/-- Detection of the Fast Role Swap signal is active (R174). -/
def State.frsDetecting (s : State) (p : Port) : Bool :=
  s.on PD.FRS_DETECT_EN p && (s.role.pol.get p).getLsbD 5 && s.explicit p && s.rev3 p && !s.on PD.EPR_MODE p
    && s.isSnk p && s.busOk

/-- Objects of Sink_Capabilities: 5 V, then 9, 15 and 20 V within the sink profile (R599). -/
def State.sinkObjects (s : State) (p : Port) : List Pdo :=
  let f := s.restrict (s.stored p)
  let i := 10 * f.snkImax
  let fx (v top : Nat) : Option Pdo :=
    if 100 * f.snkVmin ≤ 1000 * v ∧ 1000 * v ≤ 100 * f.snkVmax then
      some (.fixed (1000 * v) (floor10 (min (min i (f.snkPdp * 1000 / v)) top)))
    else none
  .fixed 5000 (floor10 (min i 3000)) :: [fx 9 3000, fx 15 3000, fx 20 5000].filterMap id

/-- EPR objects of EPR_Sink_Capabilities. -/
def State.eprSinkObjects (s : State) (p : Port) : List Pdo :=
  let f := s.restrict (s.stored p)
  [28, 36, 48].filterMap fun v =>
    if 100 * f.snkVmin ≤ 1000 * v ∧ 1000 * v ≤ 100 * f.snkVmax then
      some (.fixed (1000 * v) (floor10 (min (min (10 * f.snkImax) (f.snkPdp * 1000 / v)) 5000)))
    else none

/-- Flags of the sink's 5 V object (R175, R599). -/
def State.sinkFlags (s : State) (p : Port) : CapFlags :=
  ⟨s.rd CC.ROLE p == 3, false, false, s.unconstrained, decide (15 < (s.restrict (s.stored p)).snkPdp),
    if s.frsDetecting p then 3 else 0⟩

/-- Firmware version VERSION[7:0] and hardware version SYS_ID.REV. -/
def State.versions (s : State) : List Nat := [s.rd SYS.FW_VER_LO 0 % 256, s.rd SYS.REV 0]

/-- GET_SINK_CAP: Sink_Capabilities, Sink_Capabilities_Extended or EPR_Sink_Capabilities, or Not_Supported on a port
that cannot contract as sink (R599). -/
def execGetSinkCap (p : Port) (q : CapQuery) (s : State) : Host.Outcome State Fault Refusal :=
  .next (match q with
    | .spr => s.onMsg p .getSinkCap fun s =>
      if s.canSink p then (s.adopt p).send p .sinkCaps (.caps (s.sinkObjects p) (s.sinkFlags p)) else s.refuseMsg p
    | .extended => s.onMsg p .getSinkCapExt fun s =>
      if s.canSink p then
        let f := s.restrict (s.stored p)
        let e := if 200 < f.snkVmax then f.snkPdp else 0
        s.answer3 p .sinkCapsExt (.fields ([s.vid, s.pid, s.xid] ++ s.versions ++
          [0, min f.snkPdp 100, min f.snkPdp 100, 0, e, e]))
      else s.refuseMsg p
    | .epr => s.onMsg p .extControl fun s =>
      if s.canSink p then
        (s.adopt p).answer3 p .eprSinkCaps (.caps (pad7 (s.sinkObjects p) ++ s.eprSinkObjects p) (s.sinkFlags p))
      else s.refuseMsg p)

/-- GET_SOURCE_CAP: the source resends its capabilities (R112); Get_Source_Cap_Extended and EPR_Get_Source_Cap are
answered by R599 and R110. -/
def execGetSourceCap (p : Port) (q : CapQuery) (s : State) : Host.Outcome State Fault Refusal :=
  .next (match q with
    | .spr => s.onMsg p .getSourceCap fun s =>
      if s.isSrc p then (s.pe p fun e => { e with nCaps := 0, capsDone := false }).sendCaps p
      else if s.rd CC.ROLE p = 2 then s.refuseMsg p
      else let s := s.adopt p; s.send p .sourceCaps (.caps (s.sprObjects p) (s.offerFlags p))
    | .extended => s.onMsg p .getSourceCapExt fun s =>
      let f := s.restrict (s.stored p)
      s.answer3 p .sourceCapsExt (.fields ([s.vid, s.pid, s.xid] ++ s.versions ++
        [1, if s.unconstrained then 1 else 0, min f.pdpMax 100, if f.epr then f.pdpMax else 0]))
    | .epr => s.onMsg p .extControl fun s =>
      let l := pad7 (s.sprObjects p) ++ s.eprObjects p (s.on CC.EPR_CABLE p)
      let f := s.offerFlags p
      if s.isSrc p ∧ s.on PD.EPR_MODE p = true then s.sendCaps p else s.answer3 p .eprSourceCaps (.caps l f))

/-- THERMAL_WARN stands (R547). -/
def State.thermalWarn (s : State) : Bool := s.bit (IRQ_RAW RST.page) 0 RST.IRQ_THERMAL_WARN

/-- The PPS current law is selected (R124). -/
def State.cfMode (s : State) (p : Port) : Bool :=
  (match (s.port p).pe.contract with
    | some c => c.kind == .pps
    | none => false) && s.rd LOOP.LAW p == 2

/-- Temperature Status and PTF coding. -/
def State.tempStatus (s : State) : Nat := if s.thermalWarn then 2 else 1

/-- GET_STATUS: Internal Temperature, Present Input, Present Battery Input, Event Flags, Temperature Status, Power
Status (R599). -/
def execGetStatus (p : Port) (s : State) : Host.Outcome State Fault Refusal :=
  .next (s.onMsg p .getStatus fun s =>
    let t := s.rdI ADC.T_DIE 0 / 10
    let cause := s.rd GUARD.CAUSE p
    let ev := (if cause ∈ [0x01, 0x04, 0x02, 0x03] then 2 else 0) + (if s.thermalWarn then 4 else 0)
      + (if cause = 0x08 then 8 else 0) + (if s.cfMode p then 16 else 0)
    let f := s.restrict (s.stored p)
    let cable := s.cableMv p * s.cableMa p / 1000
    let pw := (if cable < min (1000 * f.pdpMax) (s.pOff p) then 2 else 0)
      + (if s.pOff p < 1000 * f.pdpMax then 4 else 0)
    s.answer3 p .status (.fields [if t < 2 then 1 else t.toNat, 2, 0, ev, s.tempStatus, pw]))

/-- GET_PPS_STATUS: Output Voltage in 20 mV, Output Current in 50 mA, and the Real Time Flags; tPPSTimeout restarts
(R132, R599). -/
def execGetPpsStatus (p : Port) (s : State) : Host.Outcome State Fault Refusal :=
  .next (s.onMsg p .getPpsStatus fun s =>
    s.answer3 p .ppsStatus (.fields [s.rd LOOP.VBUS p / 20, ((s.rdI LOOP.I_AVG p) / 50).toNat,
      s.tempStatus, if s.cfMode p then 1 else 0]))

/-- GET_SOURCE_INFO: Port Type 0, Maximum, Present and Reported PDP (R599). -/
def execGetSourceInfo (p : Port) (s : State) : Host.Outcome State Fault Refusal :=
  .next (s.onMsg p .getSourceInfo fun s =>
    s.answer3 p .sourceInfo (.fields [0, (s.restrict (s.stored p)).pdpMax, (s.port p).pe.pdpTick / 1000, (s.port p).pe.pdpSent / 1000]))

/-- GET_REVISION: Revision 3.2, Version 1.0 (R599). -/
def execGetRevision (p : Port) (s : State) : Host.Outcome State Fault Refusal :=
  .next (s.onMsg p .getRevision fun s => s.answer3 p .revision (.fields [3, 2, 1, 0]))

/-! ## Advertising (R110, R112) -/

/-- SOURCE_CAPABILITIES_SENT: Twill builds and sends its capabilities on a source whose guard is on, once discovery has
ended, or `late`: 60 ms after vSafe5V, when an attempt still open is abandoned (R59, R110, R135). -/
def execSourceCapabilitiesSent (x : CapsDue) (s : State) : Host.Outcome State Fault Refusal :=
  .next (
    let asking := (s.port x.port).pe.await == .cableId
    if s.isSrc x.port = true ∧ s.on PD.PD_EN x.port = true ∧ s.gst x.port ∈ [gOn, gOpenWait] ∧ s.pastAccept x.port = false
        ∧ s.powerSwapping x.port = false ∧ (x.late = true ∨ (asking = false ∧ s.mayDiscover x.port = false)) then
      let s1 := s.pe x.port fun e => { e with
        hr := .none, nCaps := 0, capsDone := false, await := if asking then .none else e.await }
      (s1.phy x.port fun y => { y with hrOnly := false }).sendCaps x.port
    else s)

/-- T_SOURCE_CAPABILITY_EXPIRY: the capabilities are sent again every 150 ms, nCapsCount times at most, until a Request
arrives (R112). (DEDUCED, assumption 17) -/
def execTSourceCapabilityExpiry (p : Port) (s : State) : Host.Outcome State Fault Refusal :=
  .next (
    let e := (s.port p).pe
    if s.isSrc p = false ∨ s.rd PD.PD_STATE p ≠ pdNegotiating ∨ e.capsDone = true ∨ e.nCaps = 0 then s
    else if e.nCaps < nCapsCount then s.sendCaps p
    else s.pe p fun e => { e with capsDone := true })

/-! ## Requests (R113 to R116) -/

/-- REQUEST_REJECTED with its reason. -/
def State.rejected (s : State) (p : Port) (r : Rdo) (code : Nat) : State :=
  let o := s.asked p r
  s.event EV.REQUEST_REJECTED p r.pos (rdoMv r o) (rdoMa r o) code

/-- What follows an answer that leaves the contract as it was. -/
def State.afterAnswer (s : State) (p : Port) : State :=
  if s.explicit p then s.wr PD.PD_STATE p (s.pdReady p) else s

/-- A request that fits its object says whether the offer satisfies the partner (R113, R144). -/
def State.noteMismatch (s : State) (p : Port) (r : Rdo) (c : Contract) : State :=
  let s1 := s.pe p fun e => { e with mismatch := r.mismatch }
  if r.mismatch then s1.event EV.CAP_MISMATCH p r.pos c.mv c.ma 0 else s1

/-- A Request or EPR_Request is answered (R113, R114). -/
def State.answerRequest (s : State) (p : Port) (r : Rdo) (isEpr : Bool) (copy : Pdo) : State :=
  let s0 := ((((s.flag PD.UNCHUNKED_CAP p r.unchunked).flag PD.UNCHUNKED p
    (r.unchunked && s.on PD.UNCHUNKED_EN p && !s.rev2 p)).flag PD.EPR_CAP p r.eprCapable).pe p fun e => { e with
      nCaps := 0 }).sendCache p
  match s.evaluate p r isEpr copy with
  | .reject code => ((s0.send p .reject .none).rejected p r code).afterAnswer p
  | .softReset => s0.sendSoftReset p
  | .wait c => ((s0.noteMismatch p r c).send p .wait .none).afterAnswer p
  | .rejectReadv c =>
    ((((s0.noteMismatch p r c).send p .reject .none).rejected p r 2).afterAnswer p).pe p fun e =>
      { e with readvWant := true }
  | .accept c => ((s0.noteMismatch p r c).pe p fun e => { e with eprCapRdo := r.eprCapable }).acceptContract p c r

/-- A request that meets another exchange is a protocol error (R116): during EPR entry, an earlier request, a swap
request of the port's own or an accepted DR or VCONN swap, Soft_Reset. -/
def State.onRequest (s : State) (p : Port) (m : PdMsg) (r : Rdo) (isEpr : Bool) (copy : Pdo) : State :=
  s.onMsg p m fun s =>
    if !s.isSrc p then s.sendSoftReset p
    else if (s.port p).pe.epr ≠ .none ∨ (s.port p).pe.trans.isSome = true then s.sendSoftReset p
    else if (s.port p).swap.step ≠ .none then s.sendSoftReset p
    else s.answerRequest p r isEpr copy

/-- REQUEST. -/
def execRequest (p : Port) (r : Rdo) (s : State) : Host.Outcome State Fault Refusal :=
  .next (s.onRequest p .request r false .zero)

/-- EPR_REQUEST, with the copy of the object it names. -/
def execEprRequest (p : Port) (r : Rdo) (copy : Pdo) (s : State) : Host.Outcome State Fault Refusal :=
  .next (s.onRequest p .eprRequest r true copy)

/-! ## As sink (R117 to R119, R133) -/

/-- Twill requests a contract as sink, in answer to capabilities or in an AMS of its own. -/
def State.requestSink (s : State) (p : Port) (c : Contract) (ams : Bool) : State :=
  let r := s.sinkRdo p c
  let s1 := s.pe p fun e => { e with
    trans := some ⟨.accepted, s.rd LOOP.V_SP p, c, r⟩, await := .request, askAt := none }
  let s2 := s1.wr PD.PD_STATE p pdNegotiating
  let (m, copy) : PdMsg × Pdo := if s.on PD.EPR_MODE p then (.eprRequest, c.obj) else (.request, .zero)
  s2.sendFrame p ⟨.sop, m, 0, none, .rdo r copy⟩ ams

/-- The contract stays within the object in force, which new capabilities may have replaced, and its fixed voltage; before the first contract that is 5 V. -/
def State.sameObject (s : State) (p : Port) (c : Contract) : Bool :=
  match (s.port p).pe.contract with
  | some d =>
    d.pos == c.pos && d.kind == c.kind && (if c.kind = .fixed then d.mv == c.mv else decide (d.obj = c.obj))
  | none => decide (c.kind = .fixed ∧ c.mv = 5000)

/-- A request for another object or fixed voltage goes out on at most one port of an island at a time (R183). -/
def State.islandBusy (s : State) (p : Port) : Bool :=
  s.island.isSome && allPorts.any fun q => q != p && s.isSnk q && (s.port q).pe.trans.any fun t => !s.sameObject q t.next

/-- The contract in force asked for again: before the first one, 5 V. -/
def State.keepContract (s : State) (p : Port) (caps : List Pdo) : Contract :=
  match (s.port p).pe.contract with
  | some d => { d with obj := caps.getD (d.pos - 1) .zero }
  | none => s.sink5v p caps

/-- A sink answers capabilities (R117); while another port of the island changes its object it keeps to its own, and asks again
later (R183). -/
def State.askSink (s : State) (p : Port) (caps : List Pdo) : State :=
  let c := s.chooseSink p caps
  if s.islandBusy p && !s.sameObject p c then
    (s.requestSink p (s.keepContract p caps) false).pe p fun e => { e with askAt := some s.up }
  else s.requestSink p c false

/-- A management tick finds a sink that is to ask again: 100 ms after a Wait (R117), or once no other port of the island
changes its object (R183). -/
def State.askAgain (s : State) (p : Port) : State :=
  match (s.port p).pe.askAt with
  | some t =>
    let c := s.chooseSink p (s.port p).pe.caps
    if s.up < t ∨ s.isSnk p = false ∨ s.idlePd p = false ∨ s.twillOn p = false then s
    else if (s.port p).pe.contract = some c then s.pe p fun e => { e with askAt := none }
    else if s.islandBusy p && !s.sameObject p c then s
    else s.requestSink p c true
  | none => s

/-- SOURCE_CAPABILITIES_RECEIVED: the object of highest power within the sink profile is requested (R117, R179); in EPR mode
the message is EPR_Source_Capabilities. -/
def execSourceCapabilitiesReceived (p : Port) (caps : List Pdo) (f : CapFlags) (s : State) :
    Host.Outcome State Fault Refusal :=
  .next (
    s.onMsg p (if s.on PD.EPR_MODE p then .eprSourceCaps else .sourceCaps) fun s =>
      if !s.isSnk p then s.sendSoftReset p
      else
        let s1 := (s.pe p fun e => { e with caps := caps, capsFlags := f, hr := .none }).phy p fun y =>
          { y with hrOnly := false }
        let s2 := ((s1.flag PD.UNCHUNKED_CAP p f.unchunked).flag PD.UNCHUNKED p
          (f.unchunked && s.on PD.UNCHUNKED_EN p && !s.rev2 p)).sendCache p
        s2.askSink p caps)

/-- A sink sends Hard Reset, nHardResetCount times at most, then enters ErrorRecovery (R118). -/
def State.sinkHardReset (s : State) (p : Port) : State :=
  if nHardResetCount ≤ (s.port p).pe.hrCount then s.errorRecovery p else s.sendHardReset p

/-- T_TYPEC_SINK_WAIT_CAP_EXPIRY. -/
def execTTypecSinkWaitCapExpiry (p : Port) (s : State) : Host.Outcome State Fault Refusal :=
  .next (if s.isSnk p = true ∧ s.on PD.PD_EN p = true ∧ s.rd PD.PD_STATE p = pdWaitCaps then s.sinkHardReset p else s)

/-- T_PS_TRANSITION_EXPIRY: PS_RDY has not followed the Accept (R118). -/
def execTPsTransitionExpiry (p : Port) (vbusMv : Nat) (s : State) : Host.Outcome State Fault Refusal :=
  .next (match (s.port p).pe.trans with
    | some t =>
      if s.isSnk p = true ∧ t.phase = .waiting then
        (s.event EV.TRANSITION_FAIL p t.fromMv t.next.mv vbusMv 2).sinkHardReset p
      else s
    | none => s)

/-- The draw held until PS_RDY (R119): 2.5 W at the higher of the two voltages for another object or fixed voltage,
otherwise the lower of the two currents. -/
def State.standbyDraw (s : State) (p : Port) (c : Contract) : Nat :=
  let cur := match (s.port p).pe.contract with
    | some d => (d.mv, d.ma)
    | none => (5000, s.rd LOOP.I_REV_LIM p)
  if s.sameObject p c then min cur.2 c.ma else 2500000 / max 1 (max cur.1 c.mv)

/-- SINK_ACCEPT_RECEIVED: the draw falls before PS_RDY (R119). -/
def execSinkAcceptReceived (p : Port) (s : State) : Host.Outcome State Fault Refusal :=
  .next (match (s.port p).pe.trans with
    | some t =>
      if s.isSnk p = true ∧ t.phase = .accepted ∧ s.takes p .accept = true then
        let s1 := ((s.take p .accept).chunkFailed p).pe p fun e => { e with
          trans := some { t with phase := .waiting }, await := .none }
        ((s1.wr LOOP.I_REV_LIM p (s.standbyDraw p t.next)).wr PD.PD_STATE p pdTransition).drain p
      else s
    | none => s)

/-- A sink asks to enter EPR mode, once, after its first explicit contract, where the source offers it.
(PRESUMED, assumption 148) -/
def State.sinkEnterEpr (s : State) (p : Port) (first : Bool) : State :=
  if first && s.eprSink p && (s.port p).pe.capsFlags.epr && !s.on PD.EPR_MODE p then
    (s.pe p fun e => { e with await := .eprEnter }).sendAms p .eprMode (.epr .enter)
  else s

/-- SINK_PS_RDY_RECEIVED: the contract is in force and the draw ramps at 50 mA per inner period (R119). -/
def execSinkPsRdyReceived (p : Port) (s : State) : Host.Outcome State Fault Refusal :=
  .next (match (s.port p).pe.trans with
    | some t =>
      if s.isSnk p = true ∧ t.phase = .waiting ∧ s.takes p .psRdy = true then
        let first := !(s.port p).pe.firstDone
        let s1 := (((s.take p .psRdy).chunkFailed p).wr LOOP.I_STEP p 5).wr LOOP.I_REV_LIM p (min 6000 t.next.ma)
        let s2 := s1.wr LOOP.P_CON p (t.next.mv * t.next.ma / 100000)
        let s3 := ((s2.pe p fun e => { e with firstDone := true }).contractMade p t).amsEnd p
        (s3.sinkEnterEpr p first).drain p
      else s
    | none => s)

/-- The frame repeats the contract in force, or is an EPR_KeepAlive (R133). -/
def State.repetition (s : State) (p : Port) (f : Frame) : Bool :=
  match f.msg with
  | .extControl => decide (f.body = .ext .keepAlive)
  | .request | .eprRequest =>
    match (s.port p).pe.contract, (s.port p).pe.trans with
    | some c, some t => c == t.next
    | _, _ => false
  | _ => false

/-- A repetition that is still held is withdrawn, to be made again at the next interval (R133). -/
def State.withdraw (s : State) (p : Port) : State :=
  match (s.port p).phy.tx with
  | some f =>
    if s.rd PD.TX_RESULT p = txHeld ∧ s.repetition p f = true then
      ((s.cancelHeld p).pe p fun e => { e with trans := none, await := .none }).wr PD.PD_STATE p (s.pdReady p)
    else s
  | none => s

/-- SINK_KEEPALIVE_INTERVAL: every 375 ms in EPR mode EPR_KeepAlive, and every 8 s (`pps`) in a PPS contract, in EPR mode too, a
Request repeating the contract; one that has been held for 20 ms (`held20`) is cancelled (R133). -/
def execSinkKeepaliveInterval (x : KeepAliveDue) (s : State) : Host.Outcome State Fault Refusal :=
  .next (
    if s.isSnk x.port = false ∨ s.explicit x.port = false then s
    else
      let s0 := s.withdraw x.port
      if x.held20 then s0.pump x.port
      else if (s0.port x.port).pe.trans.isSome = true then s0
      else if x.pps then match (s.port x.port).pe.contract with
        | some c => if c.kind = .pps then s0.requestSink x.port c true else s0
        | none => s0
      else if s.on PD.EPR_MODE x.port then
        (s0.pe x.port fun e => { e with await := .keepAliveAck }).sendAms x.port .extControl (.ext .keepAlive)
      else s0)

/-! ## Transitions as source (R120 to R127) -/

/-- T_SRC_TRANSITION_EXPIRY: tSrcTransition after the Accept's GoodCRC the new set-point is written and Marl ramps; in a
PR_Swap as initial source the ramp goes down at 30 mV/µs (R120, R125, R165).  Once CC_OPEN_Q has opened the switch the target
stays 0 V (R50, R137). -/
def execTSrcTransitionExpiry (p : Port) (s : State) : Host.Outcome State Fault Refusal :=
  .next (
    if (s.port p).cc.fastOpened then s
    else if (s.port p).swap.step = .srcHold then
      (((s.wr LOOP.V_TARGET p 0).wr LOOP.SLEW p 30).openLow p).swp p fun w => { w with step := .srcRamp }
    else match (s.port p).pe.trans with
      | some t =>
        if s.isSrc p = true ∧ t.phase = .waiting then
          let s1 := ((s.setCdc p t.next).wr LOOP.SLEW p (s.prof p).slew).wr LOOP.V_TARGET p t.next.mv
          s1.pe p fun e => { e with trans := some { t with phase := .ramping } }
        else s
      | none => s)

/-- RAMP_COMPLETE: V_SP has reached V_TARGET (R120 step 4). (DEDUCED, assumption 11) -/
def execRampComplete (p : Port) (s : State) : Host.Outcome State Fault Refusal :=
  .next (match (s.port p).pe.trans with
    | some t =>
      if t.phase = .ramping ∧ s.isSrc p = true then
        s.pe p fun e => { e with trans := some { t with phase := .settling } }
      else s
    | none => s)

/-- VBUS_SETTLED: VBUS has been within the settling band for 200 µs (R120 step 5, R121); while CC_OPEN_Q stands PS_RDY is
held (R138). -/
def execVbusSettled (p : Port) (vbusMv : Nat) (s : State) : Host.Outcome State Fault Refusal :=
  .next (match (s.port p).pe.trans with
    | some t =>
      if s.isSrc p = true ∧ t.phase = .settling ∧ inBand t.next vbusMv = true then
        if s.on CC.CC_OPEN_Q p then s.pe p fun e => { e with trans := some { t with phase := .held } }
        else s.sendPsRdy p t
      else s
    | none => s)

/-- SETTLE_TIMEOUT: still outside the band 5 ms after the ramp, not counting a freeze (R121). -/
def execSettleTimeout (p : Port) (vbusMv : Nat) (s : State) : Host.Outcome State Fault Refusal :=
  .next (match (s.port p).pe.trans with
    | some t =>
      if s.isSrc p = true ∧ t.phase = .settling ∧ inBand t.next vbusMv = false ∧ s.on CC.CC_OPEN_Q p = false then
        (s.event EV.TRANSITION_FAIL p t.fromMv t.next.mv vbusMv 1).sendHardReset p
      else s
    | none => s)

/-- PPS_UNDERVOLTAGE: VBUS has stayed below the PPS object's minimum for 10 ms (R124). -/
def execPpsUndervoltage (p : Port) (vbusMv : Nat) (s : State) : Host.Outcome State Fault Refusal :=
  .next (match (s.port p).pe.contract with
    | some c => if s.isSrc p = true ∧ c.kind = .pps ∧ vbusMv < c.vmin then s.sendHardReset p else s
    | none => s)

/-! ## EPR mode (R128 to R130) -/

/-- EPR_MODE_ENTER: the checks of *EPR entry as source*; step 4 runs SOP′ discovery once where the cable is not
qualified, and awaits an attempt that is already open. -/
def execEprModeEnter (p : Port) (s : State) : Host.Outcome State Fault Refusal :=
  .next (s.onMsg p .eprMode fun s =>
    if s.rev2 p then s.refuseMsg p
    else if !s.isSrc p || !s.explicit p || s.on PD.EPR_MODE p || (s.port p).pe.epr != .none
        || (s.port p).swap.step != .none then s.sendSoftReset p
    else if !(s.port p).pe.eprCapRdo then s.eprFail p 3
    else
      let s1 := (s.send p .eprMode (.epr .enterAck)).pe p fun e => { e with epr := .acked }
      if !(s.prof p).epr || (s.eprObjects p true).isEmpty then s1.eprFail p 4
      else if !s.on PD.VCONN_SRC p then s1.eprFail p 2
      else if s.on CC.EPR_CABLE p then s1.eprConclude p
      else
        let s2 := s1.pe p fun e => { e with epr := .discover }
        if (s2.port p).pe.await = .cableId then s2
        else if s2.mayDiscover p then s2.discoverCable p else s2.eprConclude p)

/-- EPR_MODE_EXIT: in an SPR contract EPR mode ends; in a contract on an EPR object, Hard Reset (R129); on a sink likewise.
(PRESUMED, assumption 148) -/
def execEprModeExit (p : Port) (s : State) : Host.Outcome State Fault Refusal :=
  .next (s.onMsg p .eprMode fun s =>
    if s.rev2 p then s.refuseMsg p
    else if !s.on PD.EPR_MODE p then s.sendSoftReset p
    else if s.inEprObject p then s.sendHardReset p
    else if s.isSrc p then s.leaveEpr p 1
    else
      ((((s.flag PD.EPR_MODE p false).sendCache p).pe p fun e => { e with await := .none }).event EV.EPR_EXITED p 1 0 0 0).wr
        PD.PD_STATE p pdReadySpr)

/-- EPR_AUTO_EXIT: the cable, the profile or the offer no longer allows EPR mode (R130). -/
def execEprAutoExit (p : Port) (s : State) : Host.Outcome State Fault Refusal :=
  .next (
    if s.isSrc p = true ∧ s.on PD.EPR_MODE p = true ∧ s.idlePd p = true
        ∧ (s.on CC.EPR_CABLE p = false ∨ (s.stored p).epr = false ∨ (s.eprObjects p true).isEmpty = true) then
      s.eprAutoExit p
    else s)

/-- EPR_EXIT_TIMEOUT: 500 ms after positions 8 to 11 were emptied (R130). -/
def execEprExitTimeout (p : Port) (s : State) : Host.Outcome State Fault Refusal :=
  .next (
    if s.on PD.EPR_MODE p = true ∧ (s.port p).pe.eprLeaving = true ∧ s.inEprObject p = true then s.sendHardReset p
    else s)

/-- EPR_KEEPALIVE: answered in EPR mode, restarting tSourceEPRKeepAlive; outside it a protocol error (R132). -/
def execEprKeepalive (p : Port) (s : State) : Host.Outcome State Fault Refusal :=
  .next (s.onMsg p .extControl fun s =>
    if s.rev2 p then s.refuseMsg p
    else if s.on PD.EPR_MODE p = true ∧ s.isSrc p = true then s.send p .extControl (.ext .keepAliveAck)
    else s.sendSoftReset p)

/-! ## Supervision (R132) -/

/-- The supervision timers run: they are held during a transition and during a swap. -/
def State.supervising (s : State) (p : Port) : Bool :=
  s.isSrc p && (s.port p).pe.trans.isNone && decide ((s.port p).swap.step = .none)

/-- A supervision timer expires: its event, then Hard Reset. -/
def State.superviseExpire (s : State) (p : Port) (k : EvKind) : State :=
  match (s.port p).pe.contract with
  | some c => (s.event k p c.pos c.mv c.ma 0).sendHardReset p
  | none => s

/-- T_PPS_TIMEOUT_EXPIRY. -/
def execTPpsTimeoutExpiry (p : Port) (s : State) : Host.Outcome State Fault Refusal :=
  .next (if s.supervising p = true ∧ (s.port p).pe.ppsTimer = true then s.superviseExpire p EV.PPS_TIMEOUT else s)

/-- T_SOURCE_EPR_KEEPALIVE_EXPIRY. -/
def execTSourceEprKeepaliveExpiry (p : Port) (s : State) : Host.Outcome State Fault Refusal :=
  .next (
    if s.supervising p = true ∧ (s.port p).pe.eprTimer = true then s.superviseExpire p EV.EPR_KEEPALIVE_TIMEOUT else s)

/-! ## Soft Reset and Hard Reset (R79, R131, R134 to R136) -/

/-- SOFT_RESET_RECEIVED on a SOP type: its MessageIDs clear, unless the PHY has cleared them with its frame (R79); on SOP it is answered with Accept and the contract stays,
a source resending its capabilities and a sink waiting for them.  During a transition or a power swap after its Accept
it leads to Hard Reset (R127). -/
def execSoftResetReceived (p : Port) (k : Sop) (s : State) : Host.Outcome State Fault Refusal :=
  .next (
    if s.takes p .softReset = false ∨ s.hears p k = false then s
    else
      let sc := if (s.port p).phy.rx.isEmpty then s.clearIds p k else s
      let s0 := ((sc.releaseReasm p k).take p .softReset).chunkFailed p
      let s1 := (s0.bump PD.SOFT_RESET_CNT p).irq PD.page p PD.IRQ_SOFT_RESET
      if k ≠ .sop then s1
      else if s.pastAccept p || s.powerSwapping p then s1.sendHardReset p
      else
        let s2 := ((s1.endVdm p stABORTED []).swapEnd p).pe p fun e =>
          { e with epr := .none, trans := none, await := .none, nCaps := 0, softResetSent := false }
        let s3 := ((s2.phy p fun y => { y with outbox := [] }).wr PD.PD_STATE p pdSoftReset).send p .accept .none
        (if s.isSrc p then s3.sendCaps p else s3.wr PD.PD_STATE p pdWaitCaps).drain p)

/-- T_PS_HARD_RESET_EXPIRY: Marl ramps down at 30 mV/µs with VCONN opened, and Twill issues OPEN_LOW (R135 step 2, R264). -/
def execTPsHardResetExpiry (p : Port) (s : State) : Host.Outcome State Fault Refusal :=
  .next (
    if (s.port p).pe.hr = .hold then
      (((((s.wr LOOP.V_TARGET p 0).wr LOOP.SLEW p 30).openLow p).vconnOff p).unqualify p).pe p fun e => { e with hr := .ramp }
    else s)

/-- VBUS_BELOW_4V: the pass switch opens in a Hard Reset (source step 3, or sink), in a PR_Swap as initial source and on
a pending OPEN_LOW (R134, R135, R165, R264). -/
def execVbusBelow4v (p : Port) (s : State) : Host.Outcome State Fault Refusal :=
  .next (
    let s0 := s.noteVbus p 3999
    if (s.port p).pe.hr = .ramp then
      ((s0.pe p fun e => { e with hr := .open_ }).wr LOOP.V_TARGET p 0).openEnds p
    else if (s.port p).swap.step = .srcRamp then
      ((s0.swp p fun w => { w with step := .srcOff }).wr LOOP.V_TARGET p 0).openEnds p
    else if s.isSnk p = true ∧ (s.port p).pe.hr = .sinkWait then s0.openPlanned p
    else if s.gst p = gOpenWait ∧ (s.port p).guard.openWait = .low then s0.openPlanned p
    else s0)

/-- VBUS_AT_VSAFE0V: DSG turns off; a Hard Reset goes on to tSrcRecover (R50, R135 step 4). -/
def execVbusAtVsafe0v (p : Port) (s : State) : Host.Outcome State Fault Refusal :=
  .next (
    let s0 := s.noteVbus p 0
    let s1 := if s.gst p = gDischarge ∧ s.heldSafe p = false then
        ((s0.dsgOff p).flag GUARD.DSG_TIMEOUT p false).guardTo p gOff
      else s0
    if (s.port p).pe.hr = .open_ then s1.pe p fun e => { e with hr := .recover } else s1)

/-- T_SRC_RECOVER_EXPIRY: VCONN closes, then the 5 V ramp and soft start (R135 step 5); a port whose bank Fast Role Swap
failed stays idle until the island ends (R179). -/
def execTSrcRecoverExpiry (p : Port) (s : State) : Host.Outcome State Fault Refusal :=
  .next (
    if (s.port p).pe.hr = .recover ∧ (s.port p).swap.idle = false then
      let s1 := (s.pe p fun e => { e with hr := .restart }).vconnClaim p
      (s1.implicitSetpoint p).cmdSoftStart p
    else s)

/-- T_SAFE0V_EXPIRY: VBUS has not reached vSafe0V within tSafe0V of step 2 (R135). -/
def execTSafe0vExpiry (p : Port) (s : State) : Host.Outcome State Fault Refusal :=
  .next (if (s.port p).pe.hr ∈ [.ramp, .open_] then s.errorRecovery p else s)

/-- DETACH_IN_TRANSITION: CC has been open for tPDDebounce after a detach during a transition, as source or sink (R137
step 4, R139). -/
def execDetachInTransition (p : Port) (s : State) : Host.Outcome State Fault Refusal :=
  .next (
    if s.on CC.ATTACHED p = true ∧ (s.on CC.CC_OPEN_Q p = true ∨ (s.port p).cc.fastOpened = true)
        ∧ (s.port p).pe.trans.isSome = true then s.detach p
    else s)

/-! ## The guard reports GUARD_ON (R30 step 4) -/

/-- GUARD_ON: VG − VS reaches 7.0 V `us` µs after its start (R266 step 6, R268).  A new source of a PR_Swap sends PS_RDY
(R166 step 3); a new sink enters reverse mode at zero current and clears SWAP (R165 step 6); a source holds the
implicit contract, and its cable discovery begins (R59).  A gate that a new owner drives again only reads on (R477). -/
def execGuardOn (p : Port) (us : Nat) (s : State) : Host.Outcome State Fault Refusal :=
  .next (
    if (s.port p).guard.closing = .resumed then
      (s.flag GUARD.GATE_ON p true).grd p fun g => { g with closing := .none }
    else if (s.port p).guard.closing ∉ [.enhance, .matchedMarked] then s
    else
      let s1 := s.closed p us
      match (s.port p).swap.step with
      | .snkStart => (s1.send p .psRdy .none).swp p fun w => { w with step := .snkPsRdy }
      | .srcMatch =>
        let dev := (s.port p).swap.byDev
        let s2 := ((s1.wr LOOP.I_REV_LIM p 0).setMode p mSink).swapEnd p
        let s3 := (s2.event EV.PR_SWAP_DONE p 2 (if dev then 1 else 2) 0 0).wr PD.PD_STATE p pdWaitCaps
        (s3.amsEnd p).islandJoin p
      | _ =>
        if s.isSrc p && !s.explicit p then
          let s2 := s1.wr PD.CONTRACT p 1
          if s.on CC.CABLE_DISC_EN p && s.on CC.VCONN_ON p && s.on PD.PD_EN p && s.rd CC.DISC_STATE p == 0 then
            s2.wr CC.DISC_STATE p 1
          else s2
        else s1)

end Sys2Proof.Machine
end

