-- ==== Sys2Proof/Machine/Ledger.lean ====
section
/-! DEFINITION. The ledger's commands (chapter 13): identity gathering, authentication, session close, persistence, and
the ledger's command packets. -/

namespace Sys2Proof.Machine

/-! ## Identity gathering (R329 to R331) -/

/-- Get_Battery_Status, reference 0. -/
def State.askBattery (s : State) (p : Port) : State :=
  ((s.pe p fun e => { e with await := .batteryStatus }).sess p fun y => { y with battAt := s.up }).sendAms p
    .getBatteryStatus (.fields [0])

/-- A step of *Identity gathering* has ended: its AMS ends too. -/
def State.idAnswered (s : State) (p : Port) (m : PdMsg) : State :=
  ((s.take p m).pe p fun e => { e with await := .none }).amsEnd p

/-- Step 3, or step 6 with a partner at Revision 2.0. -/
def State.idThird (s : State) (p : Port) : State :=
  if s.rev3 p then
    ((s.sess p fun y => { y with idStep := 3 }).pe p fun e => { e with await := .manufInfo }).sendAms p
      .getManufacturerInfo (.fields [0, 0])
  else (s.sess p fun y => { y with idStep := 0 }).formKey p

/-- Step 2, which a port that is UFP skips. -/
def State.idSecond (s : State) (p : Port) : State :=
  if s.rd PD.HDR_DATA_ROLE p = 1 then
    ((s.sess p fun y => { y with idStep := 2 }).pe p fun e => { e with await := .discoverId }).sendAms p .vdm
      (.vdm [0xFF008001])
  else s.idThird p

/-- A Get_Battery_Status reply: the first of the session gives C0 and every one C1, with the energy credited so far (R337). -/
def State.battReply (s : State) (p : Port) (c : Nat) : State :=
  let s1 := s.sess p fun y => { y with
    c0 := some (y.c0.getD c), e0 := if y.c0.isSome then y.e0 else y.eOut, c1 := some c, e1 := y.eOut }
  match (s.port p).sess.slot with
  | some slot => s1.modRecord slot fun r => { r with lastCap := c % 2 ^ 16 }
  | none => s1

/-- IDENTITY_GATHERING: the steps of *Identity gathering*, and each later Get_Battery_Status reply. -/
def execIdentityGathering (p : Port) (e : IdEvent) (s : State) : Host.Outcome State Fault Refusal :=
  .next (
    let x := (s.port p).sess
    if !x.isOpen || s.standby || !s.carriedByTwill p then s
    else match e with
      | .start => if x.idStep = 0 ∧ x.known = false then s.idSecond p else s
      | .identity r =>
        if x.idStep = 2 then
          let s1 := s.idAnswered p .vdm
          match r with
          | some (v, d, c) => (s1.sess p fun y => { y with vid := v % 2 ^ 16, pid := d % 2 ^ 16, xid := c % 2 ^ 32 }).idThird p
          | none => s1.idThird p
        else s
      | .manufacturer r =>
        if x.idStep = 3 then
          let s1 := (s.idAnswered p .manufacturerInfo).sess p fun y => { y with
            idStep := 4, serial := serialDig (r.getD []) }
          (s1.pe p fun e => { e with await := .batteryCap }).sendAms p .getBatteryCap (.fields [0])
        else s
      | .battery r =>
        if x.idStep = 4 then
          let s1 := (s.idAnswered p .batteryCaps).sess p fun y => { y with
            idStep := 5, batt := match r with
              | some b => if b.invalid then none else some b
              | none => none }
          s1.askBattery p
        else s
      | .status r =>
        if x.idStep = 5 ∨ (x.idStep = 0 ∧ (s.port p).pe.await = .batteryStatus) then
          let s1 := s.idAnswered p .batteryStatus
          let s2 := match r with
            | some c => s1.battReply p c
            | none => s1
          if x.idStep = 5 then (s2.sess p fun y => { y with idStep := 0 }).formKey p else s2
        else s)

/-- BATTERY_STATUS_REFRESH: Twill asks again every 60 s of the session (R331). -/
def execBatteryStatusRefresh (p : Port) (s : State) : Host.Outcome State Fault Refusal :=
  .next (
    let x := (s.port p).sess
    if x.isOpen && x.idStep == 0 && x.known && s.rev3 p && !s.standby && s.carriedByTwill p then s.askBattery p else s)

/-- SESSION_CLOSE: Loam closes a session that has ended. -/
def execSessionClose (p : Port) (s : State) : Host.Outcome State Fault Refusal :=
  .next (if (s.port p).sess.ended && !(s.port p).sess.isOpen && !s.standby then s.closeSession p else s)

/-! ## Authentication (R333, R334) -/

/-- The procedure ends with a state. -/
def State.authEnds (s : State) (p : Port) (st : Nat) : State :=
  let x := (s.port p).sess
  let slot := x.slot.getD 0
  let s1 := s.sess p fun y => { y with authStep := 0, authDone := true, passed := st == 1 }
  let s2 := match s1.record slot with
    | some r =>
      let r1 : LedRec := { r with auth := st }
      s1.gradeRecord p slot (
        if st = 1 then { r1 with certDig := bytesAt x.digest 0 8, passAt := s.clock }
        else if st = 4 then r1
        else { r1 with faults := r1.faults.modify 4 fun n => min 65535 (n + 1) })
    | none => s1
  let s3 := (s2.wr LEDGER.AUTH_STATE p st).eventSev EV.AUTH_RESULT (if st = 1 then 0 else 1) p slot st
    (if x.chainRead then 1 else 0) 0
  if st = 1 then s3.bump LEDGER.AUTH_PASS_CNT 0
  else if st = 4 then s3
  else (s3.bump LEDGER.AUTH_FAIL_CNT 0).irq LEDGER.page 0 LEDGER.IRQ_AUTH_FAIL

/-- The request of a step: GET_DIGESTS for slot 0 (1); GET_CERTIFICATE (2) from an offset, at most 256 bytes; CHALLENGE. -/
def authRequest (x : Session) (step : Nat) : Body :=
  if step = 1 then .fields [1, 0]
  else if step = 3 then .fields [2, 0, x.chain.length, 256]
  else .raw x.nonce

/-- Loam asks the partner for a step's answer. (DESIGN CHOICE, assumption 5) -/
def State.authAsk (s : State) (p : Port) (step : Nat) (again : Bool) : State :=
  let s1 := s.sess p fun y => { y with authStep := step, resent := again }
  (s1.pe p fun e => { e with await := if step = 1 then .digests else if step = 3 then .certificate else .challenge }).sendAms
    p .securityRequest (authRequest (s1.port p).sess step)

/-- Step 5: CHALLENGE with a nonce from the random generator. -/
def State.authChallenge (s : State) (p : Port) : State :=
  let s1 := s.fresh.2.sess p fun y => { y with nonce := (Config.nonce s.freeCount).toList }
  s1.authAsk p 5 false

/-- The chain fetch may be skipped (R333 step 2). -/
def State.authSkips (s : State) (x : Session) (r : LedRec) (digest : List Byte) : Bool :=
  let days := s.act LEDGER.REAUTH 0
  !x.dup && x.authWas == 1 && s.on TIME.SET 0 && decide (days ≠ 0 ∧ s.clock ≤ r.passAt + days * 86400) &&
    bytesAt digest 0 8 == r.certDig

/-- Each certificate of a chain verifies under its issuer's key, the root under its own. (DESIGN CHOICE, assumption 5) -/
def chainVerifies (issuer : List Byte) : List (List Byte × List Byte × List Byte) → Bool
  | [] => true
  | (body, sig, key) :: t => ecdsaVerify issuer (sha256 body) sig && chainVerifies key t

/-- Step 4: the root is a trust anchor, and every signature verifies. -/
def State.chainGood (s : State) (chain : List Byte) : Bool :=
  let certs := Config.chainCerts chain
  match certs with
  | [] => false
  | (_, _, root) :: _ =>
    s.led.anchors.contains (sha256 (Config.rootCert chain)) && chainVerifies root certs

/-- The leaf key: of the chain read, or of the chain that the digest stands for. -/
def leafOf (x : Session) : List Byte :=
  if x.chainRead then (Config.chainCerts x.chain).getLast?.elim [] (·.2.2) else Config.leafKey x.digest

/-- AUTHENTICATION: the procedure of R333. -/
def execAuthentication (p : Port) (e : AuthEvent) (s : State) : Host.Outcome State Fault Refusal :=
  .next (
    let x := (s.port p).sess
    let s1 := ((s.take p .securityResponse).pe p fun e => { e with await := .none }).amsEnd p
    if !x.isOpen || s.standby then s
    else match e with
      | .start =>
        if x.known ∧ x.slot.isSome ∧ x.authStep = 0 ∧ x.authDone = false ∧ (s.authMode p = 1 ∨ s.authMode p = 2) then
          let slot := x.slot.getD 0
          let was := match s.record slot with
            | some r => r.auth
            | none => 0
          (((s.sess p fun y => { y with authWas := was }).modRecord slot fun r => { r with auth := 6 }).wr LEDGER.AUTH_STATE p
            6).authAsk p 1 false
        else s
      | .digest d =>
        if x.authStep ≠ 1 then s
        else
          let s2 := s1.sess p fun y => { y with digest := d, chain := [], chainRead := false }
          match x.slot.bind s.record with
          | some r => if s.authSkips x r d then s2.authChallenge p else s2.authAsk p 3 false
          | none => s2.authAsk p 3 false
      | .piece total l =>
        if x.authStep ≠ 3 then s
        else
          let chain := x.chain ++ l.take 256
          let s2 := s1.sess p fun y => { y with chain := chain, chainRead := true }
          if 4096 < total then s2.authEnds p 2
          else if chain.length < total ∧ l ≠ [] then s2.authAsk p 3 false
          else if sha256 chain ≠ x.digest ∨ s.chainGood chain = false then s2.authEnds p 2
          else s2.authChallenge p
      | .signature sig =>
        if x.authStep ≠ 5 then s
        else if ecdsaVerify (leafOf x) (sha256 (Config.challengeBytes x.nonce)) sig then s1.authEnds p 1
        else s1.authEnds p 3
      | .silent =>
        if x.authStep = 0 then s
        else if x.resent then s1.authEnds p 5
        else s1.authAsk p x.authStep true
      | .unsupported => if x.authStep = 0 then s else s1.authEnds p 4)

/-! ## Persistence (R340, R341) -/

/-- LEDGER_FLASH. -/
def State.ledgerFlash (s : State) (reason : Nat) : State :=
  (s.event EV.LEDGER_FLASH 0xFF reason 0 0 0).irq LEDGER.page 0 LEDGER.IRQ_FLASH

/-- Entries of 136 bytes that the journal's 512 KB hold. -/
abbrev journalSlots : Nat := 3855

/-- A port's open session holds the slot. -/
def State.slotHeld (s : State) (slot : Nat) (p : Port) : Bool :=
  (s.port p).sess.isOpen && (s.port p).sess.slot == some slot

/-- Loam writes a journal entry of a slot. -/
def State.journal (s : State) (slot : Nat) : State :=
  let r := s.record slot
  let n := match r with
    | some x => x.seq
    | none => s.rd LEDGER.SEQ_NOW 0
  let s1 : State := { s with
    led := { s.led with
      journal := s.led.journal ++ [(slot, n, r, true)]
      dirty := s.led.dirty.filter fun k => k != slot } }
  (s1.forPorts allPorts fun (t : State) (p : Port) =>
    if t.slotHeld slot p then t.sess p fun y => { y with keptAt := t.up } else t).bump LEDGER.JOURNAL_CNT 0

/-- LEDGER_JOURNAL: the entry of a changed record, or every PERSIST_T of a session's record, is written, or the write
fails; a journal without room takes none until a compaction. -/
def execLedgerJournal (slot : Fin 8192) (ok : Bool) (s : State) : Host.Outcome State Fault Refusal :=
  .next (
    if slot.val ∈ s.led.dirty ∨ allPorts.any (s.slotHeld slot) = true then
      if ok ∧ s.led.journal.length < journalSlots then s.journal slot else s.ledgerFlash 1
    else s)

/-- The bank with the higher header SEQ of those that are valid. -/
def baseBank (b : Vector (Option (Nat × List (Nat × LedRec))) 2) : Option (Fin 2) :=
  match b.get 0, b.get 1 with
  | some x, some y => if x.1 < y.1 then some 1 else some 0
  | some _, none => some 0
  | none, some _ => some 1
  | none, none => none

/-- LEDGER_COMPACTION: with the journal over 75 % full COMPACTING sets; once the whole ledger and then the header stand in
the bank that is not the base, the journal is erased. -/
def execLedgerCompaction (done : Bool) (s : State) : Host.Outcome State Fault Refusal :=
  .next (
    if done then
      if s.on LEDGER.COMPACTING 0 then
        let b : Fin 2 := if baseBank s.led.banks = some 0 then 1 else 0
        let s1 : State := { s with
          led := { s.led with
            banks := s.led.banks.set b (some (s.rd LEDGER.SEQ_NOW 0, s.led.recs)) b.isLt
            journal := [] } }
        (s1.flag LEDGER.COMPACTING 0 false).bump LEDGER.COMPACT_CNT 0
      else s
    else if 3 * journalSlots < 4 * s.led.journal.length then s.flag LEDGER.COMPACTING 0 true
    else s)

/-- Replay of one journal entry whose SEQ is above that of the base bank's header, if there is one. (DEDUCED, assumption 75) -/
def State.replay (base : Option Nat) (s : State) (e : Nat × Nat × Option LedRec × Bool) : State :=
  let (slot, n, r, good) := e
  if base.any fun b => n ≤ b then s
  else if !good then (s.bump LEDGER.FLASH_CRC_CNT 0).ledgerFlash 2
  else
    let recs := match r with
      | some x => putRec slot x s.led.recs
      | none => s.led.recs.filter fun y => y.1 != slot
    ({ s with led := { s.led with recs := recs } } : State).wr LEDGER.SEQ_NOW 0 (max n (s.rd LEDGER.SEQ_NOW 0))

/-- Cold start loads the ledger (R341). No session is open, so no record is ATTACHED. (DEDUCED, assumption 75) -/
def State.ledgerLoad (s : State) : State :=
  let s1 := match (baseBank s.led.banks).bind fun b => s.led.banks.get b with
    | some (n, recs) => ({ s with led := { s.led with recs := recs, dirty := [] } } : State).wr LEDGER.SEQ_NOW 0 n
    | none => (({ s with led := { s.led with recs := [], dirty := [] } } : State).flag LEDGER.FLASH_FAULT 0 true).ledgerFlash 3
  let s2 := s.led.journal.foldl (State.replay (((baseBank s.led.banks).bind fun b => s.led.banks.get b).map Prod.fst)) s1
  ({ s2 with
    led := { s2.led with
      recs := s2.led.recs.map fun x => (x.1, setRecFlag x.2 rfAttached false) } } : State).showUsed

/-! ## Commands (R343) -/

/-- LEDGER_READ (R343): served from the mirrored records on a standby. -/
def State.cmdLedgerRead (s : State) (k : Packet) : State :=
  s.formed k (decide (k.tgt < ledgerSlots) && k.plain) fun s =>
    s.respond k stOK (match s.record k.tgt with
      | some r => recBytes r
      | none => [])

/-- LEDGER_READ. -/
def execLedgerRead (k : Packet) (s : State) : Host.Outcome State Fault Refusal := .next (s.serve k (·.cmdLedgerRead k))

/-- LEDGER_FIND (R343). -/
def State.cmdLedgerFind (s : State) (k : Packet) : State :=
  s.offStandby k fun s =>
    let found : Option Nat → Word := fun x => BitVec.ofNat 32 (x.getD 0xFFFFFFFF)
    match k.portOf with
    | some p =>
      s.formed k k.plain fun s =>
        s.respondArg k stOK (found (if s.on LEDGER.SESSION p then (s.port p).sess.slot else none)) []
    | none =>
      s.formed k (k.chip && decide (k.len = 8) && k.arg == 0) fun s =>
        s.respondArg k stOK (found (s.findKey (leNat k.payload))) []

/-- LEDGER_FIND. -/
def execLedgerFind (k : Packet) (s : State) : Host.Outcome State Fault Refusal := .next (s.serve k (·.cmdLedgerFind k))

/-- LEDGER_WRITE_USER (R343). -/
def State.cmdLedgerWriteUser (s : State) (k : Packet) : State :=
  s.offStandby k fun s =>
    s.formed k (decide (k.tgt < ledgerSlots ∧ k.ar < 3 ∧ k.len = 16)) fun s =>
      match s.record k.tgt with
      | some r =>
        let r1 := if k.ar = 1 then setRecFlag r rfPinned true else if k.ar = 2 then setRecFlag r rfPinned false else r
        ((s.putRecord k.tgt { r1 with user := k.payload }).journalDue k.tgt).answer k stOK
      | none => s.answer k stBAD_ARG

/-- LEDGER_WRITE_USER. -/
def execLedgerWriteUser (k : Packet) (s : State) : Host.Outcome State Fault Refusal :=
  .next (s.serve k (·.cmdLedgerWriteUser k))

/-- An entry of LEDGER_EXPORT. -/
def exportEntry (x : Nat × LedRec) : List Byte := leBytes 2 x.1 ++ [0, 0] ++ recBytes x.2

/-- LEDGER_EXPORT (R343): at most 31 entries; the end sets EXPORT_MARK when asked. (DEDUCED, assumption 76) -/
def State.cmdLedgerExport (s : State) (k : Packet) : State :=
  s.offStandby k fun s =>
    s.formed k (k.chip && k.payload.isEmpty && bits k.ar 29 13 == 0) fun s =>
      let mark := s.rd LEDGER.MARK 0
      let l := s.led.recs.filter fun x =>
        decide (k.ar % 8192 ≤ x.1) && (!k.ar.testBit 31 || decide (mark < x.2.seq))
      let s1 := if (l.drop 31).isEmpty && k.ar.testBit 30 then s.wr LEDGER.MARK 0 (s.rd LEDGER.SEQ_NOW 0) else s
      s1.respondArg k stOK (match l.drop 31 with
        | x :: _ => BitVec.ofNat 32 x.1
        | [] => 0xFFFFFFFF) ((l.take 31).flatMap exportEntry)

/-- LEDGER_EXPORT. -/
def execLedgerExport (k : Packet) (s : State) : Host.Outcome State Fault Refusal := .next (s.serve k (·.cmdLedgerExport k))

/-- A record that PURGE skips. -/
def keepsPurge (r : LedRec) : Bool := recFlag r rfPinned || recFlag r rfAttached

/-- The slots that a PURGE of many removes: all, or those last seen more than the given days ago. (DEDUCED, assumption 77) -/
def State.purgeList (s : State) (k : Packet) : List Nat :=
  (s.led.recs.filter fun x => !keepsPurge x.2 &&
    (k.ar / 2 ^ 24 == 1 || decide (x.2.last + k.ar % 2 ^ 16 * 86400 < s.clock))).map (·.1)

/-- LEDGER_PURGE (R343). -/
def State.cmdLedgerPurge (s : State) (k : Packet) : State :=
  s.offStandby k fun s =>
    let kind := k.ar / 2 ^ 24
    let ok := k.payload.isEmpty && (
      if kind = 0 then decide (k.tgt < ledgerSlots ∧ k.ar = 0)
      else if kind = 1 then k.chip && k.ar % 2 ^ 24 == 0
      else decide (kind = 2) && k.chip && bits k.ar 23 16 == 0)
    s.formed k ok fun s =>
      if kind = 0 then
        match s.record k.tgt with
        | some r => if keepsPurge r then s.answer k stDENIED else (s.dropRecord k.tgt).respondArg k stOK 1 []
        | none => s.respondArg k stOK 0 []
      else
        let l := s.purgeList k
        (l.foldl State.dropRecord s).respondArg k stOK (BitVec.ofNat 32 l.length) []

/-- LEDGER_PURGE. -/
def execLedgerPurge (k : Packet) (s : State) : Host.Outcome State Fault Refusal := .next (s.serve k (·.cmdLedgerPurge k))

end Sys2Proof.Machine
end

