-- ==== Sys2Proof/Machine/Swap.lean ====
section
/-! DEFINITION. Role swaps, Fast Role Swap, bank Fast Role Swap and the return to the feeds (chapter 6). -/

namespace Sys2Proof.Machine

/-! ## Requests of the port's own (R163, R170) -/

/-- A partner's request meets a request of the port's own (R168, R169): the own one, if it has been acknowledged, makes
a source answer Wait and a sink send Soft_Reset; otherwise the own one is abandoned. -/
def State.contest (s : State) (p : Port) (f : State → State) : State :=
  let w := (s.port p).swap
  if w.step = .none then f s
  else if w.step = .requested then
    if w.acked then (if s.isSrc p then s.send p .wait .none else s.sendSoftReset p)
    else f ((s.cancelHeld p).swapDeferred p)
  else s.sendSoftReset p

/-- A request that arrives during EPR entry is a protocol error (R116, R161). -/
def State.onSwap (s : State) (p : Port) (m : PdMsg) (f : State → State) : State :=
  s.onMsg p m fun s => if (s.port p).pe.epr ≠ .none then s.sendSoftReset p else s.contest p f

/-- The device accepts a partner's swap. -/
def State.acceptSwap (s : State) (p : Port) (k : SwapKind) : State :=
  let s1 := if k = .pr then (s.setInflight p .swap).wr PD.PD_STATE p pdSwap else s
  (s1.swp p fun w => { w with step := .accepting, kind := k, byDev := false, acked := false }).send p .accept .none

/-- PR_SWAP: *Answers to a swap request* (R108, R161). -/
def execPrSwap (p : Port) (s : State) : Host.Outcome State Fault Refusal :=
  .next (s.onSwap p .prSwap fun s =>
    if s.on SYS.RESTRICTED 0 then s.send p .reject .none
    else if s.isSrc p then
      if s.pol p 0 && (s.prof p).snk && !s.on PD.EPR_MODE p then s.acceptSwap p .pr else s.send p .reject .none
    else if s.pol p 0 && !s.on PD.EPR_MODE p && s.rd FEED.SEL 0 != 0 && !s.on BUDGET.HOLD 0 then s.acceptSwap p .pr
    else if s.on BUDGET.HOLD 0 then s.send p .wait .none
    else s.send p .reject .none)

/-- DR_SWAP (R161, R171); the data role changes at the GoodCRC of the Accept. -/
def execDrSwap (p : Port) (s : State) : Host.Outcome State Fault Refusal :=
  .next (s.onSwap p .drSwap fun s =>
    if s.on SYS.RESTRICTED 0 || !s.pol p 2 then s.send p .reject .none else s.acceptSwap p .dr)

/-- VCONN_SWAP (R161, R172). -/
def execVconnSwap (p : Port) (s : State) : Host.Outcome State Fault Refusal :=
  .next (s.onSwap p .vconnSwap fun s =>
    if s.on SYS.RESTRICTED 0 || !s.pol p 3 then s.send p .reject .none
    else if s.on PD.VCONN_SRC p then
      if s.on PD.EPR_MODE p then s.send p .reject .none else s.acceptSwap p .vconn
    else match s.vconnReserve p with
      | some s1 => s1.acceptSwap p .vconn
      | none =>
        (((s.flag CC.VCONN_DENIED p true).bump CC.VCONN_DENIED_CNT p).irq CC.page p CC.IRQ_VCONN_FAULT).send p .reject
          .none)

/-- T_VCONN_SOURCE_TIMEOUT_EXPIRY: VCONN stays on and Hard Reset is sent (R172). -/
def execTVconnSourceTimeoutExpiry (p : Port) (s : State) : Host.Outcome State Fault Refusal :=
  .next (if (s.port p).swap.step = .vconnOff then s.sendHardReset p else s)

/-- A port that waits for its return swap, and can start one (R186). -/
def State.returns (s : State) (p : Port) : Bool :=
  let w := (s.port p).swap
  w.islanded && s.isSnk p && !w.want.any (Wanted.is .pr .ret) && decide (w.retryAt ≤ s.up) && s.explicit p && s.idlePd p && !s.on PD.EPR_MODE p

/-- The port whose return swap is next: the first in grant order, and one in a management tick (R186). -/
def State.nextReturn (s : State) : Option Port :=
  if s.role.returnEn = false ∨ s.island.isSome = true ∨ s.ownsPorts = false ∨ s.on SYS.RESTRICTED 0 = true
      ∨ s.returnTick = some (s.rd BUDGET.TICK_CNT 0) then none
  else (s.grantOrder s.returns).head?

/-- PR_Swap for the return of a port. -/
def State.sendReturn (s : State) (p : Port) : State :=
  { s.sendOwnSwap p .pr .ret with returnTick := some (s.rd BUDGET.TICK_CNT 0) }

/-- OWN_PR_SWAP: once in each attachment with PR_INIT, after the first explicit contract as source, where the partner's
5 V sink object shows Dual-Role Power; or for the return of an islanded port (R163). -/
def execOwnPrSwap (p : Port) (s : State) : Host.Outcome State Fault Refusal :=
  .next (
    let x := s.port p
    if s.ownsPorts = false ∨ s.idlePd p = false ∨ s.explicit p = false ∨ s.on SYS.RESTRICTED 0 = true then s
    else if s.isSrc p = true ∧ s.pol p 1 = true ∧ x.pe.firstDone = true ∧ x.swap.initDone = false
        ∧ x.swap.partnerDrp = true ∧ s.on PD.EPR_MODE p = false then
      (s.swp p fun w => { w with initDone := true }).sendOwnSwap p .pr .init
    else if s.nextReturn = some p then s.sendReturn p
    else s)

/-- SWAP_REPEAT: tPRSwapWait has elapsed on an idle port whose request is still wanted (R170). -/
def execSwapRepeat (p : Port) (s : State) : Host.Outcome State Fault Refusal :=
  .next (match (s.port p).swap.want.find? fun x => x.why != .init && decide (x.repeats < 3) with
    | some x =>
      if s.idlePd p = true ∧ s.explicit p = true then
        (s.swp p fun w => { w with
          want := w.want.map fun y => if Wanted.is x.kind x.why y then { y with repeats := y.repeats + 1 } else y }).sendOwnSwap
          p x.kind x.why
      else s
    | none => s)

/-! ## PR_Swap (R165, R166) -/

/-- The Accept of a PR_Swap is acknowledged, whichever end sent it; the partner's is next to be taken (R82). -/
def State.prAccepted (s : State) (p : Port) : Bool :=
  let w := (s.port p).swap
  w.kind == .pr && (w.step == .accepting || (w.step == .requested && w.acked && s.takes p .accept))

/-- Twill notes the accepted swap. -/
def State.prStart (s : State) (p : Port) (st : SwapStep) : State :=
  (((s.take p .accept).pe p fun e => { e with await := .none }).wr PD.PD_STATE p pdSwap).swp p fun w =>
    { w.served .pr with step := st }

/-- PR_SWAP_SOURCE_ACCEPTED: Marl holds the present set-point (R165 step 1). -/
def execPrSwapSourceAccepted (p : Port) (s : State) : Host.Outcome State Fault Refusal :=
  .next (
    if s.isSrc p = true ∧ s.prAccepted p = true then
      ((s.prStart p .srcHold).wr LOOP.V_TARGET p (s.rd LOOP.V_SP p)).drain p
    else s)

/-- PR_SWAP_SOURCE_OFF: VBUS at vSafe0V: DSG off, Rd, PS_RDY (R165 step 4). -/
def execPrSwapSourceOff (p : Port) (s : State) : Host.Outcome State Fault Refusal :=
  .next (
    if (s.port p).swap.step = .srcOff then
      let s1 := s.dsgOff p
      let s2 := if s.gst p = gDischarge then s1.guardTo p gOff else s1
      ((s2.becomeSink p).send p .psRdy .none).swp p fun w => { w with step := .srcPsRdy }
    else s)

/-- PR_SWAP_PARTNER_PS_RDY: with VBUS above 4.75 V Marl drives CSP to VBUS, and the guard closes the switch with its
gate-rise check; a match not reached sends the port to ErrorRecovery (R165 step 5). -/
def execPrSwapPartnerPsRdy (p : Port) (vconvMv vbusMv : Nat) (s : State) : Host.Outcome State Fault Refusal :=
  .next (
    if (s.port p).swap.step = .srcPsRdy ∧ 4750 < vbusMv ∧ s.takes p .psRdy = true then
      let s1 := ((s.take p .psRdy).wr LOOP.V_TARGET p vbusMv).cmdCloseMatched p vconvMv vbusMv
      if (s1.port p).guard.closing ∈ [.matched, .matchedCheck] then s1.swp p fun w => { w with step := .srcMatch }
      else (s1.event EV.PR_SWAP_FAILED p 5 2 0 0).errorRecovery p
    else s)

/-- PR_SWAP_SINK_ACCEPTED: reverse current to zero, and the pass switch opens once idle (R166 step 1). -/
def execPrSwapSinkAccepted (p : Port) (s : State) : Host.Outcome State Fault Refusal :=
  .next (
    if s.isSnk p = true ∧ s.prAccepted p = true then
      (((s.prStart p .snkIdle).wr LOOP.I_REV_LIM p 0).cmdOpenWait p 5 .idle).drain p
    else s)

/-- PR_SWAP_SINK_PS_RDY: the partner's PS_RDY: Rp at RP_SEL, and the 5 V soft start on the 2.5 W floor (R166 step 2). -/
def execPrSwapSinkPsRdy (p : Port) (s : State) : Host.Outcome State Fault Refusal :=
  .next (
    if (s.port p).swap.step = .snkIdle ∧ s.takes p .psRdy = true then
      let s1 := (((s.take p .psRdy).becomeSource p (rpOf (s.rd CC.RP_SEL p))).wr LOOP.I_CEIL p 500).wr LOOP.P_CEIL p 25
      ((s1.swp p fun w => { w with step := .snkStart }).implicitSetpoint p).cmdSoftStart p
    else s)

/-- T_PS_SOURCE_ON_EXPIRY: the partner's PS_RDY is missing (R165); so too in a bank Fast Role Swap.
(DESIGN CHOICE, assumption 164) -/
def execTPsSourceOnExpiry (p : Port) (s : State) : Host.Outcome State Fault Refusal :=
  .next (match (s.port p).swap.step with
    | .srcPsRdy => (s.event EV.PR_SWAP_FAILED p 4 1 0 0).errorRecovery p
    | .frsSrcPsRdy => (s.event EV.FRS_FAILED p 2 0 0 0).errorRecovery p
    | _ => s)

/-- T_PS_SOURCE_OFF_EXPIRY: the partner's PS_RDY is missing (R166); so too in a Fast Role Swap (R176). -/
def execTPsSourceOffExpiry (p : Port) (s : State) : Host.Outcome State Fault Refusal :=
  .next (match (s.port p).swap.step with
    | .snkIdle => (s.event EV.PR_SWAP_FAILED p 1 1 0 0).errorRecovery p
    | .frsSinkAcc => (s.event EV.FRS_FAILED p 2 0 0 0).errorRecovery p
    | _ => s)

/-- T_SWAP_SOURCE_START_EXPIRY: the new source advertises (R166 step 5, R176 step 5). -/
def execTSwapSourceStartExpiry (p : Port) (s : State) : Host.Outcome State Fault Refusal :=
  .next (
    if (s.port p).swap.step = .snkDone then
      ((s.swapEnd p).pe p fun e => { e with nCaps := 0, capsDone := false, firstDone := false }).sendCaps p
    else s)

/-! ## Fast Role Swap (R174, R176, R179) -/

/-- FRS_SIGNAL_DETECTED on a sink whose detection is active: Marl sources 5 V at up to 3.0 A, and FR_Swap is sent (R176
steps 1 to 3), whatever swap or contract was asked for; with detection inactive the signal is ignored (R174). -/
def execFrsSignalDetected (p : Port) (vbusMv : Nat) (s : State) : Host.Outcome State Fault Refusal :=
  .next (
    if s.frsDetecting p = true ∧ (s.port p).swap.step ∉ [.frsSink, .frsSinkAcc, .frsSinkPsRdy] then
      let s1 := (s.setInflight p .swap).event EV.FRS_RECEIVED p vbusMv 0 0 0
      let s2 := ((((s1.wr LOOP.V_TARGET p 5000).wr LOOP.I_FWD_LIM p 3000).wr LOOP.I_CEIL p 3000).wr LOOP.P_CEIL p 150).setMode p
        mSource
      let s3 := (s2.wr LOOP.I_REV_LIM p 0).wr PD.PD_STATE p pdSwap
      ((s3.swp p fun w => { w with step := .frsSink, kind := .pr, byDev := true, acked := false }).pe p fun e =>
        { e with await := .swap, trans := none }).send p .frSwap .none
    else s)

/-- FR_SWAP on an initial source that signalled: Accept, Rd, PS_RDY (R179 step 4); in any other state a protocol error. -/
def execFrSwap (p : Port) (s : State) : Host.Outcome State Fault Refusal :=
  .next (
    if (s.port p).swap.step = .frsSrc ∧ s.takes p .frSwap = true then
      let s1 := (((s.take p .frSwap).send p .accept .none).becomeSink p).send p .psRdy .none
      s1.swp p fun w => { w with step := .frsSrcPsRdy }
    else s.onMsg p .frSwap fun s => if s.rev2 p then s.refuseMsg p else s.sendSoftReset p)

/-- FRS_NO_FR_SWAP: no FR_Swap within 15 ms of the signal: Hard Reset, and the port stays idle until the island ends
(R179). -/
def execFrsNoFrSwap (p : Port) (s : State) : Host.Outcome State Fault Refusal :=
  .next (
    if (s.port p).swap.step = .frsSrc then
      let s1 := (s.sendHardReset p).wr LOOP.I_REV_LIM p 0
      (s1.event EV.FRS_FAILED p 1 0 0 0).swp p fun w => { w with step := .none, idle := true }
    else s)

/-! ## Bank Fast Role Swap and the island (R177 to R186) -/

/-- The port is eligible at the firing (R178). -/
def State.eligible (s : State) (p : Port) : Bool :=
  s.ownsPorts && s.isSrc p && s.explicit p && s.rev3 p && !s.on PD.EPR_MODE p && s.rd PD.PD_STATE p != pdSwap
    && s.rd PD.FRS_CURRENT p != 0 && s.on PD.FRS_SIGNAL_EN p && s.pol p 4 && (s.prof p).snk

/-- The signal starts on an eligible port; its ramp, if any, is abandoned (R178, R179 steps 1 and 2). -/
def State.signalPort (s : State) (p : Port) : State :=
  let ma := frsMa (s.rd PD.FRS_CURRENT p)
  let s1 := (s.event EV.FRS_SENT p (s.rd LOOP.VBUS p) ma 0 0).pe p fun e => { e with trans := none }
  let s2 := (((s1.wr LOOP.I_FWD_LIM p 0).wr LOOP.V_TARGET p 4000).wr LOOP.I_REV_LIM p ma).wr LOOP.SLEW p 30
  ((s2.setInflight p .swap).wr PD.PD_STATE p pdSwap).swp p fun w => { w with step := .frsSrc, kind := .pr, byDev := true }

/-- Loam holds all offers while the cabinet is islanded, during a switchover or insertion and after a bus loss (R115, R315,
R321). -/
def State.reHold (s : State) : State :=
  let v := s.island.isSome || s.feeds.holdFeed || s.feeds.holdBus
  (s.flag BUDGET.HOLD 0 v).level BUDGET.page 0 BUDGET.IRQ_HOLD v

/-- What one port does at the firing (R179, R180). -/
def State.firePort (s : State) (p : Port) : State :=
  if s.eligible p then s.signalPort p
  else if s.rd PD.PD_STATE p = pdSwap then s
  else if s.isSrc p then s.islandCeiling p
  else if s.isSnk p then s.busForm p
  else s

/-- Island state and SHED[n] of ports have changed: an owner tells its partner (R467, R472). -/
def State.tellIsland (s : State) : State :=
  if s.pairOwner then s.sendUrgent.selPeriodic (.state s.stateImg) else s

/-- The island starts: every port fires, and ISLAND_START says how many were eligible, and how many others were sinks and
sources. -/
def State.bankFires (s : State) : State :=
  let n1 := (allPorts.filter s.eligible).length
  let quiet := fun p => !s.eligible p && s.rd PD.PD_STATE p != pdSwap
  let n2 := (allPorts.filter fun p => quiet p && s.isSnk p).length
  let n3 := (allPorts.filter fun p => quiet p && s.isSrc p).length
  let s1 := s.forPorts allPorts State.firePort
  let s2 : State := { s1.flag FEED.ARMED 0 false with island := some s.up, islandE := 0 }
  (s2.reHold.event EV.ISLAND_START 0xFF n1 n2 n3 0).tellIsland

/-- The armed guard fires on a bus loss (R177): eligible ports signal, sinks form the bus, other sources are ceilinged, and
Loam holds all offers and writes ISLAND_START (R180). -/
def State.bankFire (s : State) : State :=
  if s.on FEED.ARMED 0 = false ∨ s.role.bankFrs = false then s
  else ({ s with islRole := s.role } : State).bankFires

/-- BANK_FRS_FIRE. -/
def execBankFrsFire (s : State) : Host.Outcome State Fault Refusal := .next s.bankFire

/-- The bank may be armed, but for the bus's second within its window. -/
def State.mayArm (s : State) : Bool :=
  s.role.bankFrs && s.rd FEED.SEL 0 != 0 && s.busOk && s.island.isNone && !(s.monFailed .busA && s.monFailed .busB)

/-- BANK_FRS_ARM: the bus has been within its window for 1 s (R177). -/
def execBankFrsArm (s : State) : Host.Outcome State Fault Refusal :=
  .next (if s.mayArm then s.flag FEED.ARMED 0 true else s)

/-- A ceiling of R180 that still stands is cleared, and a port that failed leaves idle (R153, R179, R185). -/
def State.islandClear (s : State) (p : Port) : State :=
  let s1 := if (s.port p).swap.ceilinged && s.on BUDGET.VALID p && s.rd BUDGET.SRC p == 1 then s.clearShed p else s
  s1.swp p fun w => { w with ceilinged := false, idle := false }

/-- ISLAND_END: a feed is back and the bus has held for RETURN_DELAY (R185, R187). -/
def execIslandEnd (s : State) : Host.Outcome State Fault Refusal :=
  .next (match s.island with
    | some t0 =>
      if s.rd FEED.SEL 0 = 0 ∨ s.busOk = false then s
      else
        let s1 := s.forPorts allPorts State.islandClear
        let s2 : State := ({ s1 with island := none } : State).reHold
        let s3 := if s2.mayArm then s2.flag FEED.ARMED 0 true else s2
        s3.tellIsland.event EV.ISLAND_END 0xFF ((s.up - t0) / 10 ^ 9) (s.islandE / 10 ^ 6) 0 0
    | none => s)

/-- RETURN_SWAP: PR_Swap on the first waiting port in grant order, one port per management tick (R186). -/
def execReturnSwap (s : State) : Host.Outcome State Fault Refusal :=
  .next (match s.nextReturn with
    | some p => s.sendReturn p
    | none => s)

end Sys2Proof.Machine
end

