-- ==== Sys2Proof/Machine/Phy.lean ====
section
/-! DEFINITION. The PHY of a port and the protocol layer above it (chapter 3): frames received and sent, GoodCRC,
retries, collision avoidance, Hard Reset and Cable Reset, chunking, and the answers Twill waits for. -/

namespace Sys2Proof.Machine

/-! ## What Twill does when a frame of its own ends -/

/-- A frame of the port's own is acknowledged (R103, R120, R166, R171, R172, R178). -/
def State.acked (s : State) (p : Port) (f : Frame) : State :=
  let x := s.port p
  match f.msg with
  | .accept =>
    match x.pe.trans with
    | some t => if t.phase = .accepted ∧ s.isSrc p = true then s.acceptAcked p t else s
    | none =>
      if x.swap.step = .accepting then
        match x.swap.kind with
        | .dr => s.drSwapDone p
        | .vconn => s.vconnSwapAccepted p
        | .pr => s
      else s
  | .psRdy =>
    match x.swap.step with
    | .snkPsRdy => s.newSourceDone p
    | .vconnPsRdy => s.vconnSwapDone p true
    | .frsSinkPsRdy =>
      (((s.setInflight p .none).swp p fun w => { w with step := .snkDone, acked := false }).amsEnd p).islandJoin p
    | _ =>
      match x.pe.trans with
      | some t => if t.phase = .psRdy then s.psRdyAcked p t else s
      | none => s
  | .prSwap | .drSwap | .vconnSwap => s.swp p fun w => { w with acked := w.step == .requested }
  | .eprMode =>
    if x.pe.epr = .succeeded ∧ f.body = .epr .enterOk then
      (s.pe p fun e => { e with epr := .none, nCaps := 0 }).sendCaps p
    else s
  | _ => s

/-- A frame of the port's own was abandoned for one that arrived (R77, R86): a swap request waits to be repeated
(R168 to R170), capabilities go out again, and Get_Sink_Cap once the AMS has ended (R178). -/
def State.ownDiscarded (s : State) (p : Port) (f : Frame) : State :=
  match f.msg with
  | .prSwap | .drSwap | .vconnSwap => s.swapDeferred p
  | .sourceCaps | .eprSourceCaps => s.pe p fun e => { e with readvWant := true }
  | .getSinkCap => if (s.port p).pe.await = .sinkCap then s.pe p fun e => { e with await := .none, sinkCapDue := true } else s
  | _ => s

/-! ## Reception (R71 to R83, R86, R105) -/

/-- A receive slot for a frame of `len` bytes is free: one long slot, four short ones (R81). -/
def State.slotFree (s : State) (p : Port) (len : Nat) : Bool :=
  let rx := (s.port p).phy.rx
  if 30 < len then !rx.any RxSlot.long else decide ((rx.filter fun x => !x.long).length < 4)

/-- The PHY is sending, or has sent and waits for GoodCRC, or waits tSinkTx. -/
def State.txPending (s : State) (p : Port) : Bool :=
  (s.port p).phy.tx.isSome && s.rd PD.TX_RESULT p == txBusy

/-- The pending frame ends with a result, and the buffer is free. -/
def State.endTx (s : State) (p : Port) (result : Nat) : State :=
  (s.wr PD.TX_RESULT p result).phy p fun y => { y with tx := none, waitSinkTx := false }

/-- An own frame is abandoned for one that arrives (R77, R86). -/
def State.discardOwn (s : State) (p : Port) : State :=
  match (s.port p).phy.tx with
  | some f =>
    if s.txPending p then
      let s1 := (s.endTx p txDiscarded).bump PD.TX_DISCARD_CNT p
      if s.twillOn p then s1.ownDiscarded p f else s1
    else s
  | none => s

/-- The revision on SOP is the lower of both (R93): fixed by the first message; 1 is 2.0, 2 is 3.x.  SOP′ and SOP″ have
their own, the lower of the device's and the cable's. -/
def State.negotiateRev (s : State) (p : Port) (k : Sop) (rev : Nat) : State :=
  let r := if 2 ≤ rev then 2 else 1
  if k = .sop then
    let s1 := s.wr PD.REV p r
    if s.rd PD.NEG_REV p = 0 then (s1.wr PD.NEG_REV p (min r (s.rd PD.MAX_REV p))).sendCache p else s1
  else s.phy p fun y => { y with cableRev := min r (s.rd PD.MAX_REV p) }

/-- The specification revision of a header the PHY sends (R74, R93): the negotiated one, or the device's own before it. -/
def State.headerRev (s : State) (p : Port) (k : Sop) : Nat :=
  let n := if k = .sop then s.rd PD.NEG_REV p else (s.port p).phy.cableRev
  if n = 0 then s.rd PD.MAX_REV p else n

/-- The GoodCRC that acknowledges a frame (R74): its MessageID and SOP type, the revision, and on SOP the roles. -/
def State.goodCrc (s : State) (p : Port) (f : Frame) : Ack :=
  let sop := decide (f.sop = .sop)
  ⟨f.sop, f.id, s.headerRev p f.sop, if sop then s.rd PD.HDR_PWR_ROLE p else 0,
    if sop then s.rd PD.HDR_DATA_ROLE p else 0, false⟩

/-- FRAME_RECEIVED: a frame of `len` bytes before CRC, how it arrives, and its header's revision; in shadow listening
`byOwner` tells who sent it (R71, R72, R74, R77 to R82, R86, R92, R105).  A Soft_Reset clears the MessageIDs of its SOP type
as it is accepted (R79); while a Hard Reset of the port's own is pending nothing is accepted, and so nothing acknowledged (R80,
R89). -/
def execFrameReceived (p : Port) (f : Frame) (check : FrameCheck) (len : Nat) (rev : BitVec 2) (byOwner : Bool) (s : State) :
    Host.Outcome State Fault Refusal :=
  .next (
    if s.phyOn p = false then s
    else if check = .damaged then s.bump PD.RX_CRC_ERR_CNT p
    else if check = .debug ∨ f.msg = .goodCrc then s
    else if s.on PD.SHADOW p then
      if f.sop = .sop then s.phy p fun y => { y with heard := some (⟨f, len, s.time % 2 ^ 32⟩, byOwner) } else s
    else if s.hears p f.sop = false ∨ (s.port p).phy.hrPending = true then s
    else if (s.port p).phy.hrOnly = true ∧ (f.msg ≠ .sourceCaps ∨ s.isSrc p = true) then s
    else if s.on (rxVld f.sop) p = true ∧ s.rd (rxId f.sop) p = f.id.toNat ∧ f.msg ≠ .softReset then
      (s.bump PD.RX_DUP_CNT p).phy p fun y => { y with ack := some (s.goodCrc p f) }
    else if s.slotFree p len = false then (s.bump PD.RX_OVF_CNT p).irq PD.page p PD.IRQ_RX_OVF
    else
      let s1 := s.discardOwn p
      let s1 := if f.msg = .softReset then s1.clearIds p f.sop else (s1.wr (rxId f.sop) p f.id.toNat).flag (rxVld f.sop) p true
      let s2 := (s1.bump PD.RX_MSG_CNT p).irq PD.page p PD.IRQ_MSG_RX
      let s3 := (s2.phy p fun y => { y with
        rx := y.rx ++ [⟨f, len, s.time % 2 ^ 32⟩], hrOnly := false }).negotiateRev p f.sop rev.toNat
      (s3.phy p fun y => { y with ack := some (s3.goodCrc p f) }).drain p)

/-! ## Transmission (R75 to R77, R84 to R88) -/

/-- The port may send frames of a SOP type (R72). -/
def State.maySend (s : State) (p : Port) (k : Sop) : Bool := s.phyOn p && !s.on PD.SHADOW p && s.hears p k

/-- FRAME_TRANSMIT: Twill submits a frame, beginning an AMS or inside one; while TX_RESULT is BUSY it is refused and
PD_TXSTAT left unchanged (R84), and so it is while another frame is held. (DESIGN CHOICE, assumption 153) -/
def execFrameTransmit (p : Port) (f : Frame) (ams : Bool) (s : State) : Host.Outcome State Fault Refusal :=
  .next (
    if s.maySend p f.sop = false ∨ (s.port p).phy.tx.isSome = true ∨ s.rd PD.TX_RESULT p = txBusy then s
    else s.sendFrame p f ams)

/-- In shadow listening a message counts as delivered once its GoodCRC follows, and moves this PHY's MessageIDs (R105): the
mirrored ones then no longer replace them (R478).  A partner's message stays until the owner answers. -/
def State.shadowDelivered (s : State) (p : Port) (k : Sop) (id : BitVec 3) : State :=
  match (s.port p).phy.heard with
  | some (x, byOwner) =>
    let f := x.frame
    if f.sop = k ∧ f.id = id then
      let s1 := s.phy p fun y => { y with
        heard := none, rx := if byOwner then [] else if s.slotFree p x.len then y.rx ++ [x] else y.rx }
      let s1 := if f.msg = .softReset then s1.clearIds p k else s1
      let s2 := if byOwner then s1.wr (txId k) p (f.id.toNat + 1)
        else if f.msg = .softReset then s1 else (s1.wr (rxId k) p f.id.toNat).flag (rxVld k) p true
      s2.modPort p fun x => { x with img := x.img.map fun i => { i with ids := s2.msgIds p } }
    else s
  | none => s

/-- GOODCRC_RECEIVED with a SOP type and MessageID: a match ends the frame with OK and moves the counter; any other is
ignored (R75, R76).  What the acknowledgement means for the policy engine is Twill's work, and waits for a Twill that runs (R68). -/
def execGoodcrcReceived (p : Port) (k : Sop) (id : BitVec 3) (s : State) : Host.Outcome State Fault Refusal :=
  .next (
    if s.phyOn p = false then s
    else if s.on PD.SHADOW p then s.shadowDelivered p k id
    else match (s.port p).phy.tx with
      | some f =>
        if s.txPending p = true ∧ (s.port p).phy.waitSinkTx = false ∧ f.sop = k ∧ f.id = id then
          let s1 := ((s.endTx p txOk).wr (txId k) p (s.rd (txId k) p + 1)).bump PD.TX_MSG_CNT p
          let s2 := if f.msg = .sourceCaps then s1.phy p fun y => { y with hrOnly := false } else s1
          let s3 := s2.irq PD.page p PD.IRQ_TX_DONE
          if s.twillOn p then ((s3.acked p f).pump p).amsSettle p else s3
        else s
      | none => s)

/-- nRetryCount by the revision negotiated on the SOP type (R73, R93). -/
def State.nRetry (s : State) (p : Port) (k : Sop) : Nat := if s.headerRev p k = 1 then 3 else 2

/-- T_RECEIVE_EXPIRY: no GoodCRC within tReceive: the frame is sent again, or ends with FAIL (R76); in shadow listening the
frame heard last was not delivered (R105). (DEDUCED, assumption 11) -/
def execTReceiveExpiry (p : Port) (s : State) : Host.Outcome State Fault Refusal :=
  .next (if s.on PD.SHADOW p then s.phy p fun y => { y with heard := none } else match (s.port p).phy.tx with
    | some f =>
      if s.txPending p = true ∧ (s.port p).phy.waitSinkTx = false then
        if s.rd PD.RETRIES p < s.nRetry p f.sop then
          (s.wr PD.RETRIES p (s.rd PD.RETRIES p + 1)).bump PD.TX_RETRY_CNT p
        else
          let s1 := ((s.endTx p txFail).bump PD.TX_FAIL_CNT p).irq PD.page p PD.IRQ_TX_FAIL
          if s.twillOn p then ((s1.txFailed p f).pump p).amsSettle p else s1
      else s
    | none => s)

/-- T_SINKTX_EXPIRY: the first message of the AMS goes out (R85). -/
def execTSinktxExpiry (p : Port) (s : State) : Host.Outcome State Fault Refusal :=
  .next (if (s.port p).phy.waitSinkTx then (s.phy p fun y => { y with waitSinkTx := false }).stamp p else s)

/-- SINKTXOK_READ: a sink reads SinkTxOK and sends the message it holds (R87). -/
def execSinktxokRead (p : Port) (s : State) : Host.Outcome State Fault Refusal :=
  .next (
    if s.isSnk p then
      let s1 := s.flag PD.RP_TXNG p false
      if s.rd PD.TX_RESULT p = txHeld ∧ (s.port p).phy.tx.isSome = true then
        (s1.wr PD.TX_RESULT p txBusy).stamp p
      else s1
    else s)

/-! ## Hard Reset and Cable Reset (R89 to R92, R106) -/

/-- HARD_RESET_RECEIVED, with VBUS at `vbusMv`: one that meets a Hard Reset of the port's own is only counted (R90).  The
result of a frame that was held stays HELD, though the buffer is emptied. (DESIGN CHOICE, assumption 154) -/
def execHardResetReceived (p : Port) (vbusMv : Nat) (s : State) : Host.Outcome State Fault Refusal :=
  .next (
    if s.phyOn p = false ∨ s.on PD.SHADOW p = true then s
    else
      let s1 := s.bump PD.HARD_RESET_RX_CNT p
      if (s.port p).phy.hrPending then s1
      else
        let s2 := if s.txPending p then s1.wr PD.TX_RESULT p txAborted else s1
        s2.hardResetTakes p false vbusMv)

/-- HARD_RESET_SENT: the ordered set has left the line, or tHardResetComplete has expired (R89). -/
def execHardResetSent (p : Port) (vbusMv : Nat) (s : State) : Host.Outcome State Fault Refusal :=
  .next (
    if (s.port p).phy.hrPending then
      ((s.bump PD.HARD_RESET_TX_CNT p).wr PD.TX_RESULT p txOk).hardResetTakes p true vbusMv
    else s)

/-- A host request on PD_CTL reaches the owning Twill (R106). -/
def State.pdCtl (s : State) (p : Port) (f : State) : State :=
  if s.on CC.ATTACHED p && s.on PD.PD_EN p && !s.on PD.SHADOW p then f else s

/-- HARD_RESET. -/
def execHardReset (p : Port) (s : State) : Host.Outcome State Fault Refusal :=
  .next (s.pdCtl p (if (s.port p).phy.hrPending then s else s.sendHardReset p))

/-- SOFT_RESET on SOP; after the Accept of a transition it is sent as Hard Reset (R127). -/
def execSoftReset (p : Port) (s : State) : Host.Outcome State Fault Refusal :=
  .next (s.pdCtl p (s.sendSoftReset p))

/-- Twill asks for Cable Reset, which waits its turn (R80).  Its end is no frame's: TX_RESULT stays as the last frame left it.
(DESIGN CHOICE, assumption 155) -/
def State.sendCableReset (s : State) (p : Port) : State :=
  if s.carriedByTwill p then (s.phy p fun y => { y with cableResetPending := true }).pumpCableReset p else s

/-- CABLE_RESET. -/
def execCableReset (p : Port) (s : State) : Host.Outcome State Fault Refusal :=
  .next (s.pdCtl p (if s.mayCableReset p then s.sendCableReset p else s))

/-! ## Chunking (R94 to R96) -/

/-- Twill sends chunk `n` of the message whose first chunk went out. -/
def State.sendChunk (s : State) (p : Port) (f : Frame) (n : Nat) : State :=
  let len := extBytes f
  let s1 := if len ≤ 26 * (n + 1) then s.phy p fun y => { y with chunkTx := none } else s
  let body := match f.body with
    | .raw l => .raw ((l.drop (26 * n)).take 26)
    | b => b
  if 26 * n < len then s1.sendFrame p { f with chunk := some ⟨n, false, len⟩, body := body } false else s1

/-- A complete message is handed to the policy engine; it is never handed over in part (R95). -/
def State.reassembled (s : State) (p : Port) (r : Reasm) : State :=
  let f : Frame := ⟨r.sop, r.msg, 0, none, .raw (r.bytes.take r.size)⟩
  let s1 := s.phy p fun y => { y with reasm := y.reasm.filter fun x => x.sop != r.sop }
  if s.hasCommand p f then s1 else s1.twillHandles p f

/-- A data chunk joins its buffer, and the next is asked for. -/
def State.addChunk (s : State) (p : Port) (r : Reasm) (data : List Byte) : State :=
  let r1 : Reasm := { r with next := r.next + 1, bytes := r.bytes ++ data }
  if r1.size ≤ r1.bytes.length then s.reassembled p r1
  else
    (s.phy p fun y => { y with reasm := r1 :: y.reasm.filter fun x => x.sop != r.sop }).sendFrame p
      ⟨r.sop, r.msg, 0, some ⟨r1.next, true, 0⟩, .none⟩ false

/-- CHUNK_RECEIVED: a Chunk Request for a message of the device's own, or a chunk of at most 26 bytes of the partner's
(R95).  A chunk out of sequence releases the buffer, the first chunk of another message too, which begins no new one.
(DESIGN CHOICE, assumption 156) -/
def execChunkReceived (p : Port) (k : Sop) (m : PdMsg) (c : Chunk) (data : List Byte) (s : State) :
    Host.Outcome State Fault Refusal :=
  .next (
    if s.phyOn p = false ∨ s.twillOn p = false ∨ s.hears p k = false ∨ (s.port p).phy.hrOnly = true
        ∨ s.isNext p m = false then s
    else
      let s0 := s.take p m
      if c.isReq then
        match (s.port p).phy.chunkTx with
        | some f => if f.msg = m ∧ f.sop = k then s0.sendChunk p f c.num else s0
        | none => s0
      else
        match (s.port p).phy.reasm.find? fun r => r.sop == k with
        | some r =>
          if r.msg = m ∧ c.num = r.next ∧ c.num ≠ 0 then (s0.chunkFailed p).addChunk p r (data.take 26)
          else (s0.chunkFailed p).releaseReasm p k
        | none =>
          if c.num = 0 ∧ c.size ≤ 260 then (s0.chunkFailed p).addChunk p ⟨k, m, 0, c.size, []⟩ (data.take 26)
          else s0.chunkFailed p)

/-- T_CHUNK_SENDER_RESPONSE_EXPIRY: the partial message is discarded (R95). -/
def execTChunkSenderResponseExpiry (p : Port) (k : Sop) (s : State) : Host.Outcome State Fault Refusal :=
  .next (s.releaseReasm p k)

/-- T_CHUNKING_NOT_SUPPORTED_EXPIRY: no further chunks, and the exchange has failed (R96). -/
def execTChunkingNotSupportedExpiry (p : Port) (s : State) : Host.Outcome State Fault Refusal :=
  .next (if s.twillOn p then s.chunkFailed p else s)

/-! ## Answers that do not come (R59, R73, R133, R178, R373) -/

/-- T_SENDER_RESPONSE_EXPIRY: what Twill waited for counts as unanswered (R73); so too a sink's own EPR entry at tEnterEPR
(R118). (DEDUCED, assumption 19; PRESUMED, assumption 148) -/
def execTSenderResponseExpiry (p : Port) (s : State) : Host.Outcome State Fault Refusal :=
  .next (
    let s0 := s.pe p fun e => { e with await := .none }
    match (s.port p).pe.await with
    | .swap =>
      if (s.port p).swap.step = .frsSink then s.frsNoAccept p else (s0.swapRejected p).amsEnd p
    | .keepAliveAck => (s0.pe p fun e => { e with await := .keepAliveAck }).sendAms p .extControl (.ext .keepAlive)
    | .softResetAccept => s0.sendHardReset p
    | .request => s0.sinkHardReset p
    | .eprEnter => s0.sendSoftReset p
    | .sinkCap => (s0.noSinkCap p).amsEnd p
    | .sinkCapExt | .status | .batteryStatus | .digests | .certificate | .challenge | .batteryCap
    | .manufInfo | .revision | .extCaps => s0.amsEnd p
    | .none | .cableId | .hostVdm _ | .discoverId => s)

/-- T_VDM_SENDER_RESPONSE_EXPIRY: a discovery attempt ends unanswered, a host VDM with TIMEOUT (R59, R373). -/
def execTVdmSenderResponseExpiry (p : Port) (s : State) : Host.Outcome State Fault Refusal :=
  .next (match (s.port p).pe.await with
    | .cableId => s.discUnanswered p
    | .hostVdm _ => (s.endVdm p stTIMEOUT []).amsEnd p
    | .discoverId => (s.pe p fun e => { e with await := .none }).amsEnd p
    | _ => s)

end Sys2Proof.Machine
end

