-- ==== Sys2Proof/Machine/StopLane.lean ====
section
/-! DEFINITION. Chapter 14's stop lane, event records and mailboxes: STOP, SHED_TO and RELEASE, the procedure by which
producers write event rings, and the commit, read and abort of mailboxes with their doorbells. -/

namespace Sys2Proof.Machine

/-! ## The stop lane (R374 to R376, R152, R153, R472) -/

/-- Stop-lane opcodes. -/
abbrev opStopPort : Nat := 0xF0
abbrev opStopGroup : Nat := 0xF1
abbrev opStopAll : Nat := 0xF2
abbrev opShedTo : Nat := 0xF3
abbrev opRelease : Nat := 0xF4

/-- The ports a TARGET of R152 covers. -/
def coveredPorts (t : Nat) : Option (List Port) :=
  if h : t < 32 then some [⟨t, h⟩]
  else if 0x80 ≤ t ∧ t ≤ 0x83 then some (groupPorts (t - 0x80))
  else if t = 0xFF then some allPorts
  else none

/-- The ports a stop-lane packet covers: none where TARGET or a SHED_TO's ARG does not fit the opcode (R374, R152). -/
def stopCovers (op t arg : Nat) : Option (List Port) :=
  if op = opStopPort then (if t < 32 then coveredPorts t else none)
  else if op = opStopGroup then (if 0x80 ≤ t ∧ t ≤ 0x83 then coveredPorts t else none)
  else if op = opStopAll then (if t = 0xFF then coveredPorts t else none)
  else if op = opShedTo then
    (if arg % 2 ^ 13 ≤ 5000 ∧ bits arg 15 13 = 0 ∧ bits arg 23 16 ≤ 240 ∧ bits arg 31 24 = 0 then coveredPorts t else none)
  else coveredPorts t

/-- Write STOP[n]. -/
def State.setStop (s : State) (p : Port) (v : Bool) : State :=
  { s with stop := if v then s.stop ||| BitVec.ofNat 32 (2 ^ p.val) else s.stop &&& ~~~(BitVec.ofNat 32 (2 ^ p.val)) }

/-- STOP[n] is set: the port goes to safe state (R375); a standby only keeps the bit (R472). -/
def State.stopPort (s : State) (p : Port) : State :=
  if s.stopped p then s
  else if s.standby then s.setStop p true
  else (s.setStop p true).safeState p 4

/-- A host's shed ceiling on a port (R152, R153). (DEDUCED, assumption 22) -/
def State.shedTo (s : State) (p : Port) (iShed pShed : Nat) : State :=
  ((((s.flag BUDGET.VALID p true).wr BUDGET.SRC p 0).wr BUDGET.I_SHED p iShed).wr BUDGET.P_SHED p pShed).swp p fun w => { w with
    ceilinged := false }

/-- RELEASE on a port: STOP[n] and SHED[n] clear (R153, R375, R287). -/
def State.releasePort (s : State) (p : Port) : State :=
  let s1 := (s.setStop p false).clearShed p
  if s.stopped p && !s.standby then s1.safeRelease p else s1

/-- The effect of a stop-lane opcode on the ports covered. -/
def State.stopEffect (s : State) (op arg : Nat) (l : List Port) : State :=
  if op = opShedTo then
    ((s.forPorts l fun t p => t.shedTo p (arg % 2 ^ 13) (bits arg 23 16)).bump BUDGET.SHED_TO_CNT 0).irq BUDGET.page 0
      BUDGET.IRQ_SHED_RX
  else if op = opRelease then (s.forPorts l State.releasePort).bump BUDGET.RELEASE_CNT 0
  else s.forPorts l State.stopPort

/-- A standby's stop-lane command while the link is DOWN is held there (R472). -/
def State.heldCount (s : State) : State :=
  if s.standby && !s.linkUp then s.bump PAIR.STOP_HELD_CNT 0 else s

/-- The stop-lane hardware acts on one command: STOP_LAST, STOP_LANE_CNT, STOP_DONE and the partner's URGENT frame
(R374, R376, R472). (DEDUCED, assumption 24) -/
def State.stopLane (s : State) (op t arg tag source : Nat) : State × Nat :=
  let (s1, st) := match stopCovers op t arg with
    | some l => ((s.stopEffect op arg l).heldCount.sendUrgent, stOK)
    | none => (s, stBAD_ARG)
  let s2 := (((s1.wr RING.TAG 0 tag).wr RING.OPCODE 0 op).wr RING.STATUS 0 st).wr RING.SOURCE 0 source
  ((s2.bump RING.STOP_LANE_CNT 0).irq RING.page 0 RING.IRQ_STOP_DONE, st)

/-- A stop-lane packet has arrived in ring 0, or in Weft's urgent class: neither is there during a warm reset (R23).
Loam writes an ordinary response where NO_RESP is 0 and ring 4 has room (R376). (DEDUCED, assumption 24, 25) -/
def State.stopPacket (s : State) (op : Nat) (k : Packet) (weft : Bool) : State :=
  if s.dev = .warmReset then s
  else
    let (s1, st) := s.stopLane op k.tgt k.ar k.tag.toNat (if weft then 4 else 1)
    let s2 := if weft then s1 else s1.setRing 0 { s1.ring 0 with seq := (s1.ring 0).seq + 1 }
    let r : Packet := { k with op := BitVec.ofNat 8 op, payload := [] }
    if weft || k.flags.toNat % 2 = 1 || !s2.serves || !s2.room4 false 0 then s2
    else
      let (v, s3) := s2.fresh
      match s3.pushPacket 4 { r with flags := BitVec.ofNat 8 st, arg := v.setWidth 32 } with
      | some s4 => s4.irq RING.page 0 RING.IRQ_RESP_READY
      | none => s2

/-- STOP_PORT (0xF0). -/
def execStopPort (k : Packet) (weft : Bool) (s : State) : Host.Outcome State Fault Refusal :=
  .next (s.stopPacket opStopPort k weft)

/-- STOP_GROUP (0xF1). -/
def execStopGroup (k : Packet) (weft : Bool) (s : State) : Host.Outcome State Fault Refusal :=
  .next (s.stopPacket opStopGroup k weft)

/-- STOP_ALL (0xF2). -/
def execStopAll (k : Packet) (weft : Bool) (s : State) : Host.Outcome State Fault Refusal :=
  .next (s.stopPacket opStopAll k weft)

/-- SHED_TO (0xF3). -/
def execShedTo (k : Packet) (weft : Bool) (s : State) : Host.Outcome State Fault Refusal :=
  .next (s.stopPacket opShedTo k weft)

/-- RELEASE (0xF4). -/
def execRelease (k : Packet) (weft : Bool) (s : State) : Host.Outcome State Fault Refusal :=
  .next (s.stopPacket opRelease k weft)

/-- The opcode that a STOP argument byte stands for (R393). -/
def stopByte (b : Nat) : Option Nat :=
  if b < 32 then some opStopPort else if 0x80 ≤ b ∧ b ≤ 0x83 then some opStopGroup
  else if b = 0xFF then some opStopAll else none

/-! ## Event rings (R360, R361) -/

/-- EVENT_RECORD_WRITE: a producer writes a record to event ring `q`. A coalescible record's word 7 starts at 0. -/
def execEventRecordWrite (q : Fin 40) (coal : Bool) (sev : Fin 4) (port code src : Byte) (d4 d5 d6 d7 : Word) (s : State) :
    Host.Outcome State Fault Refusal :=
  .next (
    if q.val < 5 ∨ q.val = 7 then s
    else s.writeRec q coal ⟨sev.val, port.toNat, code.toNat, src.toNat, s.time % 2 ^ 64, 0, d4.toNat, d5.toNat, d6.toNat,
      if coal then 0 else d7.toNat⟩)

/-- RING_THROTTLE_TICK: at a management tick COAL_WIN of a throttled ring at or above HWM doubles, up to COAL_CAP. -/
def execRingThrottleTick (q : Fin 40) (s : State) : Host.Outcome State Fault Refusal :=
  .next (
    let r := s.ring q
    if r.throttle && decide (s.rd RING.HWM q ≤ r.occ) then
      s.setRing q { r with coalS := min (r.coalS + 1) (s.rd RING.COAL_CAP q) }
    else s)

/-! ## Mailboxes (R348 to R354) -/

/-- A wake source is detected in WATCH: the wake to RUN starts (R543). (DEDUCED, assumption 28) -/
def State.wakeBy (s : State) (src : Nat) : State :=
  if s.dev = .watch then ({ s with dev := .waking } : State).wr RST.SRC 0 (2 ^ src) else s

/-- Mailbox `m`. -/
def State.box (s : State) (m : Fin 64) : Mbox := s.mbox.get m
/-- Replace mailbox `m`. -/
def State.setBox (s : State) (m : Fin 64) (b : Mbox) : State := { s with mbox := s.mbox.set m b m.isLt }

/-- The endpoint that owns a mailbox (R348). -/
def boxOwner (m : Fin 64) : Fin 16 := ⟨m.val / 4, by omega⟩

/-- The ABORTED notice: a bit of the sender's NOTICE register, its interrupt and ABORT_CNT (R353).
(DEDUCED, assumption 47) -/
def State.notify (s : State) (from_ : Fin 16) (m : Fin 64) : State :=
  let s1 : State := { s with
    notice := s.notice.set from_ (s.notice.get from_ ||| BitVec.ofNat 64 (2 ^ m.val)) from_.isLt }
  (s1.irq MBX.page 0 MBX.IRQ_ABORTED).bump MBX.ABORT_CNT 0

/-- A doorbell: it wakes a receiver in SLEEP, and powers up one that WATCH has gated (R352). (DEDUCED, assumption 47) -/
def State.doorbell (s : State) (e : Fin 16) : State :=
  if s.dev = .watch ∧ e.val < 12 then (s.wakeBy 6).bump MBX.WAKE_CNT 0
  else if e.val < 12 ∧ s.rd CORE.STATE e = enSleep then (s.wr CORE.STATE e enRun).bump MBX.WAKE_CNT 0
  else s

/-- The receiver of mailboxes of endpoint `e` is in RESET or RELOADING. -/
def State.boxDead (s : State) (e : Fin 16) : Bool :=
  decide (e.val < 12 ∧ (s.rd CORE.STATE e = enReset ∨ s.rd CORE.STATE e = enReloading))

/-- A sender writes words 1 to 7 of its staging buffer, the words given, and then word 0. (DESIGN CHOICE, assumption 27) -/
def State.commitBox (s : State) (from_ : Fin 16) (m : Fin 64) (w0 : BitVec 27) (staged : List Word) : State :=
  let st := (staged ++ (s.staging.get from_).drop staged.length).take 7
  let s1 : State := { s with staging := s.staging.set from_ st from_.isLt }
  if s.boxDead (boxOwner m) then s1.notify from_ m
  else
    let b := s1.box m
    let w : Word := BitVec.ofNat 32 (from_.val * 2 ^ 28 + 2 ^ 27 + w0.toNat)
    let b1 : Mbox := { b with
      words := w :: (st ++ List.replicate (7 - st.length) 0), full := true, collide := b.collide || b.full, src := from_
      lost := if b.full then b.src else b.lost }
    let s2 := (s1.setBox m b1).bump MBX.MSG_CNT 0
    let s3 := if b.full then (s2.bump MBX.COLLIDE_CNT 0).irq MBX.page 0 MBX.IRQ_COLLIDE else s2
    let s4 := if (boxOwner m).val = 12 then s3.irq MBX.page 0 MBX.IRQ_HOST_MSG else s3
    s4.doorbell (boxOwner m)

/-- MAILBOX_COMMIT: endpoint `from_` commits to mailbox `m`.  The host, endpoint 12, sends none (R354).
(DESIGN CHOICE, assumption 27) -/
def execMailboxCommit (from_ : Fin 16) (m : Fin 64) (w0 : BitVec 27) (staged : List Word) (s : State) :
    Host.Outcome State Fault Refusal :=
  .next (if from_.val = 12 then s else s.commitBox from_ m w0 staged)

/-- The receiver's read of word 0: the message moves to the holding buffer; an empty mailbox keeps it (R351). -/
def State.readBox (s : State) (m : Fin 64) : State :=
  let b := s.box m
  if b.full then s.setBox m { b with hold := b.words, full := false } else s

/-- MAILBOX_READ. -/
def execMailboxRead (m : Fin 64) (s : State) : Host.Outcome State Fault Refusal := .next (s.readBox m)

/-- The message unread in mailbox `m` is lost to its receiver's core reset. -/
def State.abortBox (s : State) (m : Fin 64) : State :=
  let b := s.box m
  let s1 := s.setBox m { b with full := false, collide := false, hold := [] }
  if b.full then s1.notify (Fin.ofNat 16 b.src) m else s1

/-- A core reset of endpoint `e`: its four mailboxes and its staging buffer are cleared (R349, R353). -/
def State.resetBoxes (s : State) (e : Fin 16) : State :=
  let s1 : State := { s with staging := s.staging.set e [] e.isLt }
  [0, 1, 2, 3].foldl (fun t j => t.abortBox (Fin.ofNat 64 (4 * e.val + j))) s1

/-- MAILBOX_ABORTED. -/
def execMailboxAborted (e : Fin 16) (s : State) : Host.Outcome State Fault Refusal := .next (s.resetBoxes e)

/-- DOORBELL_WAKE. (DEDUCED, assumption 28) -/
def execDoorbellWake (e : Fin 16) (s : State) : Host.Outcome State Fault Refusal := .next (s.doorbell e)

end Sys2Proof.Machine
end

