-- ==== Sys2Proof/Machine/Fixed.lean ====
section
/-! DEFINITION. Marl's fixed-point arithmetic (R189 to R191): rounding half up, saturating accumulation, narrowing,
and the judgement of a coefficient table (R207, R208). -/

namespace Sys2Proof.Machine

/-- Round half up: add half of the lowest kept bit and shift right by `n` (R190). (DESIGN CHOICE, assumption 13) -/
def rsh (n : Nat) (x : Int) : Int := if n = 0 then x else (x + 2 ^ (n - 1)) / 2 ^ n

/-- Saturate at `w` signed bits; the flag tells whether it did. -/
def satW (w : Nat) (x : Int) : Int × Bool :=
  let y := clampI (-2 ^ (w - 1)) (2 ^ (w - 1) - 1) x
  (y, decide (y ≠ x))

/-- A 48-bit accumulation of terms, every addition saturating (R190). -/
def accum (l : List Int) : Int × Bool :=
  l.foldl (fun (a, f) x => let (y, g) := satW 48 (a + x); (y, f || g)) (0, false)

/-- Narrow an accumulator by `n` bits of fraction to a 32-bit state format (R190). (DESIGN CHOICE, assumption 13) -/
def narrow (n : Nat) (x : Int) : Int × Bool := satW 32 (rsh n x)

/-- A division rounds toward zero, with a voltage divisor of at least 1 V in Q8.24 (R190). -/
def divV (num den : Int) : Int := num.tdiv (max den (2 ^ 24))

/-! ## Coefficient tables (R207, R208) -/

/-- Word at a byte offset of a table. -/
def tblWord (t : List Byte) (off : Nat) : Nat := bytesAt t off 4

/-- A coefficient, Q4.20: bits [23:0], signed. -/
def coef (t : List Byte) (set off : Nat) : Int := sext 24 (tblWord t (0x10 + 0x40 * set + off))

/-- M_MIN and M_MAX, Q4.28. -/
def mMin (t : List Byte) : Int := sext 32 (tblWord t 8)
def mMax (t : List Byte) : Int := sext 32 (tblWord t 12)

/-- FORM and DLOG of a set. -/
def form (t : List Byte) (set : Nat) : Nat := bits (tblWord t (0x10 + 0x40 * set)) 7 7
def dlog (t : List Byte) (set : Nat) : Nat := bits (tblWord t (0x10 + 0x40 * set)) 2 0

/-- KEEP_HIST and SEQ. -/
def keepHist (t : List Byte) : Bool := (tblWord t 0).testBit 8
def tblSeq (t : List Byte) : Nat := tblWord t 4

/-- A coefficient word repeats bit 23 in bits [31:24]. -/
def signExtended (w : Nat) : Bool := decide (w / 2 ^ 24 = if w.testBit 23 then 255 else 0)

/-- Coefficient words of a set, by offset. -/
def coefOffsets : List Nat :=
  [0x04, 0x08, 0x0C, 0x10, 0x14, 0x18, 0x1C, 0x20, 0x24, 0x28, 0x2C, 0x30, 0x34, 0x38]

/-- The reserved fields of a set are 0, and A3 and B3 are 0 where FORM is 1. -/
def setReservedOk (t : List Byte) (set : Nat) : Bool :=
  let b := 0x10 + 0x40 * set
  let ctl := tblWord t b
  decide (ctl / 256 = 0 ∧ bits ctl 6 3 = 0 ∧ tblWord t (b + 0x3C) = 0) &&
    (form t set == 0 || decide (tblWord t (b + 0x0C) = 0 ∧ tblWord t (b + 0x1C) = 0))

/-- The reason of R208 for which Loam rejects a 256-byte table for `port` (0xFF: a broadcast table); 0 when it is
accepted. -/
def tableReject (t : List Byte) (port : Nat) : Nat :=
  let hdr := tblWord t 0
  if crc32 (t.take 0xFC) ≠ tblWord t 0xFC then 1
  else if hdr / 2 ^ 24 ≠ 1 then 2
  else if !([0, 1].all fun s => coefOffsets.all fun o => signExtended (tblWord t (0x10 + 0x40 * s + o))) then 3
  else if 6 < dlog t 0 ∨ 6 < dlog t 1 then 4
  else if mMin t < 0 ∨ 4 * 2 ^ 28 < mMax t ∨ mMax t ≤ mMin t then 5
  else if bits hdr 23 16 ≠ port then 6
  else if !(decide (bits hdr 15 9 = 0 ∧ bits hdr 7 0 = 0) && setReservedOk t 0 && setReservedOk t 1
      && ((t.drop 0x90).take 0x6C).all (· == 0)) then 7
  else 0

end Sys2Proof.Machine
end

