-- ==== Sys2Proof/Machine/Loop.lean ====
section
/-! DEFINITION. The Marl loop engines (chapter 7): one inner update, the outer laws and their selector, coefficient
tables, and the fallback from one engine to the other. -/

namespace Sys2Proof.Machine

/-! ## Rates and carriers (R12, R19, R20, R218) -/

/-- N under a cap of 500 kHz, or 250 kHz when one engine carries all ports: PERIOD counts of 2.5 ns (R20). -/
def rateN (period : Nat) (single : Bool) : Nat := max 1 (cdiv (if single then 1600 else 800) (max 1 period))

/-- SMP_POS that the hardware sets with SMP_AUTO (R225). -/
def autoPos (p : Port) (n : Nat) : Nat := (128 + (p.val % 4) * (64 * n - 8) / n) % 256

/-- SET_IN_USE: SET_FORCE, or set 1 while the rate is below the normal-service rate (R218). -/
def State.setFor (s : State) (p : Port) (n : Nat) : Nat :=
  match s.rd LOOP.SET_FORCE p with
  | 1 => 0
  | 2 => 1
  | _ => if rateN (s.rd PWM.PERIOD p) false < n then 1 else 0

/-- Past outputs are set to the last u_c and past errors to 0 (R210). -/
def LoopSt.reseed (l : LoopSt) : LoopSt := { l with u2 := l.u1, u3 := l.u1, e1 := 0, e2 := 0, e3 := 0 }

/-- An inner period starts: SMP_POS follows N with SMP_AUTO, and takes a written value otherwise (R225). -/
def State.placeBurst (s : State) (p : Port) : State :=
  let due := (s.port p).loop.smpDue
  let s1 := s.loop p fun l => { l with smpDue := none }
  s1.wr ADC.SMP_POS p (if s.on ADC.SMP_AUTO p then autoPos p (s.rd LOOP.N p) else due.getD (s.rd ADC.SMP_POS p))

/-- N and the set in use follow PERIOD, the carrier and SET_FORCE; at a change of rate the inner history is re-seeded and k restarts at 0 (R218), and the model is blanked (R246). -/
def State.rerate (s : State) (p : Port) : State :=
  let n := rateN (s.rd PWM.PERIOD p) (s.on MARL.SINGLE 0)
  let set := s.setFor p n
  let s1 := (s.wr LOOP.SET_IN_USE p set).wr LOOP.DLOG p (dlog (s.port p).loop.table set)
  if s.rd LOOP.N p = n then s1
  else ((s1.wr LOOP.N p n).loop p fun l => { l.reseed with k := 0 }).blank2ms p

/-- A change of rate or set reaches a port in HALT at once, and a running one at its next boundary (R25, R217, R225). -/
def State.rateNow (s : State) (p : Port) : State := if s.running p then s else s.rerate p

/-- The port is carried by engine `e` from now on; the model's filtered residuals restart at 0 (R217, R246, R247). -/
def State.carryBy (s : State) (p : Port) (e : Nat) : State :=
  if s.rd LOOP.ENGINE p = e then s
  else ((s.wr LOOP.ENGINE p e).blank2ms p).model p fun m => { m with fc := 0, fp := 0 }

/-- CARRIER_LO, CARRIER_HI and SINGLE, with every port's engine and rate following. -/
def State.setCarriers (s : State) (lo hi : Nat) : State :=
  let s1 := ((s.wr MARL.CARRIER_LO 0 lo).wr MARL.CARRIER_HI 0 hi).flag MARL.SINGLE 0 (lo == hi)
  s1.forPorts allPorts fun s p => (s.carryBy p (if p.val < 16 then lo else hi)).rateNow p

/-- The engine that CARRIER_LO or CARRIER_HI names for a port. -/
def State.defaultCarrier (s : State) (p : Port) : Nat := if p.val < 16 then s.rd MARL.CARRIER_LO 0 else s.rd MARL.CARRIER_HI 0

/-- Every port goes to the engine that its CARRIER field names (R219): a port in HALT at once, a running one at its next outer
step, when its rate follows too. -/
def State.moveOuter (s : State) : State :=
  let s1 := s.flag MARL.SINGLE 0 (s.rd MARL.CARRIER_LO 0 == s.rd MARL.CARRIER_HI 0)
  s1.forPorts allPorts fun s p =>
    if s.running p then s.loop p fun l => { l with moveDue := true } else (s.carryBy p (s.defaultCarrier p)).rerate p

/-- Engine `e` takes its default ports back (R219). -/
def State.handBack (s : State) (e : Fin 2) : State :=
  (s.wr (if e.val = 0 then MARL.CARRIER_LO else MARL.CARRIER_HI) 0 e.val).moveOuter

/-- ENG0_STATE or ENG1_STATE. -/
def engState (e : Fin 2) : Field := if e.val = 0 then MARL.ENG0_STATE else MARL.ENG1_STATE

/-- Ports that engine `e` carries. -/
def State.carried (s : State) (e : Fin 2) : List Port := allPorts.filter fun p => s.rd LOOP.ENGINE p == e.val

/-! ## MODE, flags -/

/-- MODE is written (R200, R600): codes from 4 on are reserved. -/
def State.modeWrite (s : State) (p : Port) (m : Nat) : State :=
  if 4 ≤ m then s.errF LOOP.MODE p stBAD_ARG
  else if m = mSource then (s.wr LOOP.I_REV_LIM p 2000).setMode p mSource
  else s.setMode p m

/-- MODE_WRITE: the owning Twill writes LOOP_CTL.MODE (R196, R206, R212); SOURCE keeps I_REV_LIM at 2,000 mA (R600). -/
def execModeWrite (p : Port) (m : Fin 8) (s : State) : Host.Outcome State Fault Refusal := .next (s.modeWrite p m.val)

/-- SAT_FLAGS_CLEAR: each flag written with 1 clears (R192). -/
def execSatFlagsClear (p : Port) (mask : Fin 16) (s : State) : Host.Outcome State Fault Refusal :=
  .next (([(0, LOOP.SAT_ACC), (1, LOOP.SAT_INNER), (2, LOOP.SAT_OUTER), (3, LOOP.SAT_DUTY)].foldl
    (fun t (b, F) => if mask.val.testBit b then t.flag F p false else t) s))

/-! ## Effective limits (R199) -/

/-- The terms that bound one direction beside the contract limit: I_SH and the foldback, Q8.24 A. -/
def State.shedTerms (s : State) (p : Port) : Int :=
  let vb := (s.port p).loop.vbus
  let sh := if s.on BUDGET.VALID p then
      min (q24 (s.rd BUDGET.I_SHED p)) (divV ((s.rd BUDGET.P_SHED p : Int) * 2 ^ 48) vb)
    else q24 65535
  if s.on LOOP.FOLD p then min sh (q24 (50 * s.rd LOOP.I_FOLD p)) else sh

/-- The reverse limit that a bus overvoltage leaves (R322). -/
def State.ovZero (s : State) (x : Int) : Int := if s.supply.busOvHold then 0 else x

/-- I_FWD_EFF and I_REV_EFF, Q8.24 A; `ramp` is I_REV_RAMP less the probe's cut. -/
def State.limits (s : State) (p : Port) (ramp : Int) : Int × Int :=
  let sh := s.shedTerms p
  let ce := q24 (s.rd LOOP.I_CEIL p)
  if s.rd LOOP.MODE p = mSource then
    (min (min (q24 (s.rd LOOP.I_FWD_LIM p)) ce) sh, s.ovZero (min (q24 (s.rd LOOP.I_REV_LIM p)) sh))
  else (0, s.ovZero (min (min ramp ce) sh))

/-- P_EFF, Q12.20 W, rounded half up from units of 100 mW; 0 for none. (DESIGN CHOICE, assumption 13) -/
def State.pEff (s : State) (p : Port) : Int :=
  let a := s.rd LOOP.P_LIM p
  let b := s.rd LOOP.P_CEIL p
  let u := if a = 0 then b else if b = 0 then a else min a b
  ((u : Int) * 2 ^ 20 + 5) / 10

/-! ## Ramps (R202 to R205) -/

/-- The largest step of V_SP in one update, Q8.24 V: min(SLEW, 30 mV/µs) × T_IN. -/
def State.vStep (s : State) (p : Port) : Int :=
  (min (s.rd LOOP.SLEW p) 30 * s.tIn p : Nat) * 2 ^ 24 / 400000

/-- `x` moved toward `y` by at most `d`. -/
def toward (x y d : Int) : Int := if x ≤ y then min y (x + d) else max y (x - d)

/-- V_SP after one update: held while FROZEN. -/
def State.nextVsp (s : State) (p : Port) : Int :=
  let l := (s.port p).loop
  if s.on LOOP.FROZEN p then l.vsp else toward l.vsp (q24 (s.rd LOOP.V_TARGET p)) (s.vStep p)

/-- V_SP_EFF, with R_EST as the last outer step read it (R205). -/
def State.vspEff (s : State) (p : Port) (vsp : Int) : Int :=
  if s.on LOOP.CDC_EN p && s.rd LOOP.MODE p == mSource then
    vsp + min ((((s.port p).loop.rEst : Int) * max (s.port p).loop.iAvg 0).tdiv 10000) (q24 (s.rd LOOP.CDC_MAX p))
  else vsp

/-- I_REV_RAMP after one update: in SINK and BUS_FORM up by at most I_STEP, down at once (R203); in SOURCE it stays.
(DESIGN CHOICE, assumption 169) -/
def State.nextRamp (s : State) (p : Port) : Int :=
  let l := (s.port p).loop
  if s.rd LOOP.MODE p = mSource then l.revRamp
  else min (q24 (s.rd LOOP.I_REV_LIM p)) (l.revRamp + q24 (10 * s.rd LOOP.I_STEP p))

/-- The cut that the probe makes in the second half of its window, in SINK only and while the draw, with what is cut of it, is
at least 400 mA (R255). (DEDUCED, assumption 193) -/
def State.probeCut (s : State) (p : Port) : Int :=
  let m := (s.port p).model
  let half := 2 ^ (s.rd LOOP.WLOG p - 1)
  match m.probe with
  | some c =>
    let draw := (if half < m.n then c else 0) - (s.port p).loop.iAvg
    if half ≤ m.n ∧ s.rd LOOP.MODE p = mSink ∧ q24 400 ≤ draw then c else 0
  | none => 0

/-! ## The outer laws (R197, R198, R200, R201) -/

/-- One law's inputs: which law, its error and the fraction bits its product loses, gains, integrator, feedforward
(Q8.24 A) and bounds. -/
structure LawIn where
  law : Law
  e : Int
  sh : Nat
  kp : Int
  ki : Int
  x : Int
  ff : Int
  lo : Int
  hi : Int
  deriving DecidableEq, Repr

/-- I_HW, Q8.24 A (R191). -/
def iHw : Int := 6 * 2 ^ 24

/-- y of a law, with SAT_ACC and SAT_OUTER. -/
def LawIn.y (l : LawIn) : Int × Bool × Bool :=
  let (a, f) := accum [rsh l.sh (l.kp * l.e), l.x * 256, rsh l.sh (l.ki * l.e), l.ff * 256]
  let (n, g) := narrow 8 a
  (clampI l.lo l.hi n, f, g)

/-- The integrator after an outer step with demand `dem` (R198). -/
def LawIn.track (l : LawIn) (dem : Int) : Int × Bool × Bool :=
  let (a, f) := accum [dem * 256, -rsh l.sh (l.kp * l.e), -(l.ff * 256)]
  let (n, g) := narrow 8 a
  (clampI l.lo l.hi n, f, g)

/-- The least of the law outputs; on a tie the law selected last keeps it, and where none of them was, the first in the mode's
list. (DESIGN CHOICE, assumption 162) -/
def pickLaw (last : Law) : List (Law × Int) → Law × Int
  | [] => (.none, 0)
  | [a] => a
  | a :: t =>
    let b := pickLaw last t
    if a.2 < b.2 then a else if b.2 < a.2 then b else if b.1 = last then b else a

/-- Integrator of a law. -/
def LoopSt.integ (l : LoopSt) : Law → Int
  | .v => l.xV | .p => l.xP | .floor => l.xFl | .ceil => l.xCe | .droop => l.xDr | _ => 0

/-- Write an integrator. -/
def LoopSt.setInteg (l : LoopSt) (k : Law) (x : Int) : LoopSt :=
  match k with
  | .v => { l with xV := x }
  | .p => { l with xP := x }
  | .floor => { l with xFl := x }
  | .ceil => { l with xCe := x }
  | .droop => { l with xDr := x }
  | _ => l

/-- V_FB: VBUS while the pass switch is closed, VCONV while it is open (R197). -/
def State.vFb (s : State) (p : Port) : Int :=
  let l := (s.port p).loop
  if s.switchOn p then l.vbus else l.vconv

/-- I_AVG at an outer step: the mean of the IBUS samples of the last D updates (R201), or of as many as there have been since
HALT. (DESIGN CHOICE, assumption 166) -/
def meanOf (d : Nat) (l : List Int) : Int :=
  let x := l.drop (l.length - d)
  (x.foldl (· + ·) 0).tdiv (max 1 x.length)

/-- The present power term p, Q12.20 W (R197). -/
def State.pTerm (s : State) (p : Port) (iAvg : Int) : Int :=
  if s.rd LOOP.MODE p = mSource then (satW 32 (rsh 28 (s.vFb p * iAvg))).1
  else (satW 32 (rsh 28 ((s.port p).loop.vbus * -iAvg))).1

/-- P_AVG after an outer step (R201), with SAT_ACC; its narrowing is no point of *Saturation points and flags* (R191). -/
def filterP (alpha pAvg p : Int) : Int × Bool :=
  let (a, f) := accum [pAvg * 2 ^ 12, rsh 8 (alpha * (p - pAvg))]
  ((narrow 12 a).1, f)

/-- V_REF_D of the droop law, Q8.24 V (R200); the spec states none where P_CON is 0 (assumption 3). -/
def State.vRefD (s : State) (p : Port) (pAvg : Int) : Int :=
  let v := q24 (100 * s.rd LOOP.V_ISL p)
  let pc : Int := (s.rd LOOP.P_CON p : Int) * 2 ^ 20 / 10
  if pc = 0 then sext 32 (Config.freeValue s.freeCount).toNat
  else v - (v * (s.rd LOOP.DROOP_PCT p : Int) * min pAvg pc).tdiv (100 * pc)

/-- The laws of the mode, with their inputs at an outer step (R196, R197). -/
def State.laws (s : State) (p : Port) (vspEff pAvg iRev : Int) : List LawIn :=
  let l := (s.port p).loop
  let t := l.table
  let u := s.rd LOOP.SET_IN_USE p
  let pe := s.pEff p
  let vl (k : Law) (e lo : Int) : LawIn := ⟨k, (satW 32 e).1, 12, coef t u 0x20, coef t u 0x24, l.integ k, 0, lo, iHw⟩
  let busMax := q24 (s.rd MARL.BUS_MAX 0)
  let sink := [vl .floor (l.vbus - q24 (s.rd LOOP.V_FLOOR p)) 0, vl .ceil (busMax - s.busV) 0]
  match s.rd LOOP.MODE p with
  | 1 =>
    let v := vl .v (vspEff - s.vFb p) (-iRev)
    if pe = 0 then [v]
    else [v, ⟨.p, (satW 32 (pe - pAvg)).1, 8, coef t u 0x28, coef t u 0x2C, l.xP,
      (satW 32 (divV (pe * 2 ^ 28) (s.vFb p))).1, 0, iHw⟩]
  | 2 => sink
  | 3 => sink ++ [⟨.droop, (satW 32 (s.vRefD p pAvg - s.busV)).1, 12, coef t u 0x30, coef t u 0x34, l.xDr, 0, 0, iHw⟩]
  | _ => []

/-- What an outer step leaves (R198): the record, LAW, SAT_ACC and SAT_OUTER. -/
def outerStep (l : LoopSt) (ins : List LawIn) (lo hi : Int) : LoopSt × Bool × Bool :=
  let ys := ins.map fun i => (i.law, i.y)
  let (sel, ySel) := pickLaw l.sel (ys.map fun (k, y) => (k, y.1))
  let dem := clampI lo hi ySel
  let l1 := { l with ySel := ySel, sel := sel, law := if dem ≠ ySel then .limit else sel }
  let l2 := ins.foldl (fun (t : LoopSt) i => t.setInteg i.law (i.track dem).1) l1
  (l2, ys.any (fun (_, _, f, _) => f) || ins.any (fun i => (i.track dem).2.1),
    ys.any (fun (_, _, _, g) => g) || ins.any (fun i => (i.track dem).2.2))

/-! ## The inner compensator (R193 to R195) -/

/-- ff, Q4.28 (R195). -/
def feedForward (on : Bool) (vconv vbus mx : Int) : Int :=
  if on then clampI 0 mx (divV (vconv * 2 ^ 28) vbus) else 0

/-- u, with SAT_ACC and SAT_INNER (R194). -/
def innerU (l : LoopSt) (t : List Byte) (set : Nat) (e : Int) : Int × Bool × Bool :=
  let c := coef t set
  let three := form t set = 0
  let us := [rsh 12 (c 0x04 * l.u1), rsh 12 (c 0x08 * l.u2)] ++ (if three then [rsh 12 (c 0x0C * l.u3)] else [])
  let es := [rsh 8 (c 0x10 * e), rsh 8 (c 0x14 * l.e1), rsh 8 (c 0x18 * l.e2)]
    ++ (if three then [rsh 8 (c 0x1C * l.e3)] else [])
  let (a, f) := accum (us ++ es)
  let (n, g) := narrow 8 a
  (n, f, g)

/-! ## Saturation flags (R191, R192) -/

/-- One flag: its sticky bit, its counter and its condition in the last and in this update. -/
structure SatPt where
  flag : Field
  cnt : Field
  was : Bool
  now : Bool
  bitNo : Nat

/-- The flags of an update: sticky bits, counters, one LOOP_SATURATED event for the bits newly set. -/
def State.satFlags (s : State) (p : Port) (pts : List SatPt) : State :=
  let newly := pts.foldl (fun m x => if x.now && !s.on x.flag p then m + 2 ^ x.bitNo else m) 0
  let s1 := pts.foldl (fun t x =>
    let t1 := if x.now then t.flag x.flag p true else t
    if x.now && !x.was then t1.bump x.cnt p else t1) s
  if newly = 0 then s1
  else
    let l := (s1.port p).loop
    (s1.event EV.LOOP_SATURATED p newly (wd l.d) (wd (milliS l.iSet)) 0).irq LOOP.page p LOOP.IRQ_SAT

/-! ## Swapping a table (R210) -/

/-- The active table of a port is `t`: its status fields follow. -/
def State.loadTable (s : State) (p : Port) (t : List Byte) : State :=
  let s1 := (((s.loop p fun l => { l with table := t, pending := none }).flag LOOP.VALID p true).wr LOOP.ACTIVE_SEQ p
    (tblSeq t)).flag LOOP.PENDING p false
  (s1.wrBit MARL.PEND 0 p false).wr LOOP.DLOG p (dlog t (s.rd LOOP.SET_IN_USE p))

/-- The pending table is swapped in; limits that exclude the present d are noted for SAT_DUTY. -/
def State.swapTable (s : State) (p : Port) : State :=
  let l := (s.port p).loop
  match l.pending with
  | none => s
  | some t =>
    let u := s.rd LOOP.SET_IN_USE p
    let keep := keepHist t && form t u == form l.table u
    let out := decide (l.d < mMin t ∨ mMax t < l.d)
    let s1 := (s.loadTable p t).loop p fun l => { (if keep then l else l.reseed) with excl := out }
    let s2 := (s1.event EV.TABLE_SWAPPED p (tblSeq t) u (if keep then 1 else 0) 0).bump LOOP.TBL_SWAP_CNT p
    (s2.irq LOOP.page p LOOP.IRQ_TBL_SWAP).blank2ms p

/-- D of a table's set. -/
def outerDiv (t : List Byte) (set : Nat) : Nat := 2 ^ dlog t set

/-- The next update of a port is an outer step. -/
def State.outerDue (s : State) (p : Port) : Bool :=
  let l := (s.port p).loop
  decide (l.k % outerDiv l.table (s.rd LOOP.SET_IN_USE p) = 0)

/-- COEFFICIENT_SWAP at the port's first outer step after both engines hold the pending table (R210). -/
def execCoefficientSwap (p : Port) (s : State) : Host.Outcome State Fault Refusal :=
  .next (if s.running p && s.outerDue p then s.swapTable p else s)

/-! ## Tracking windows (R291, R292) -/

/-- OFS(W). -/
def monOfs (ref w : Nat) : Nat := if w = 0 then 0 else max 2 (ref * w / 128)
/-- Upper and lower threshold codes of a window. -/
def monHi (ref whi : Nat) : Nat := min 1023 (ref + monOfs ref whi)
def monLo (ref wlo : Nat) : Nat := ref - monOfs ref wlo

/-- The value that a tracking window follows, mV. -/
def State.trackMv (s : State) (p : Port) : Nat :=
  let m := s.rd LOOP.MODE p
  if s.running p && (m == mSink || m == mBusForm) then s.rd LOOP.V_TARGET p else s.rd LOOP.V_SP_EFF p

/-- With TRACK the windows' references follow at each inner-loop boundary; on a ramp the comparator on its far side keeps
its code. -/
def State.track (s : State) (p : Port) : State :=
  let ref := min 1023 ((2 * s.trackMv p + 60) / 120)
  let s1 := if s.on GUARD.VMON_CFG_TRACK p then s.wr GUARD.VMON_CFG_REF p ref else s
  let s2 := if s.on GUARD.CMON_CFG_TRACK p then s1.wr GUARD.CMON_CFG_REF p ref else s1
  let r := s2.rd GUARD.VMON_CFG_REF p
  let ramping := s.on LOOP.RAMPING p && s.on GUARD.VMON_CFG_TRACK p
  let rising := s.rd LOOP.V_SP p < s.rd LOOP.V_TARGET p
  let s3 := if ramping ∧ ¬rising then s2 else s2.wr GUARD.THR_HI p (monHi r (s.rd GUARD.VMON_CFG_WHI p))
  let s4 := if ramping ∧ rising then s3 else s3.wr GUARD.THR_LO p (monLo r (s.rd GUARD.VMON_CFG_WLO p))
  let c := s4.rd GUARD.CMON_CFG_REF p
  let onRamp := s.on LOOP.RAMPING p && s.on GUARD.CMON_CFG_TRACK p
  s4.grd p fun g => { g with
    cHi := if onRamp ∧ ¬rising then g.cHi else monHi c (s.rd GUARD.CMON_CFG_WHI p)
    cLo := if onRamp ∧ rising then g.cLo else monLo c (s.rd GUARD.CMON_CFG_WLO p) }

/-! ## Table faults (R211) -/

/-- The port records TABLE_REPAIRED: the engine copied the other engine's table. -/
def State.tableRepaired (s : State) (p : Port) (e : Fin 2) : State :=
  let s1 := s.event EV.TABLE_REPAIRED p e.val (tblSeq (s.port p).loop.table) 0 0
  ((s1.wrBit MARL.REPAIRED 0 p true).bump MARL.TBL_REPAIR_CNT 0).irq MARL.page 0 MARL.IRQ_TBL_REPAIR

/-- Chalk forces a port to safe state for a cause: 1 table fault, 2 no carrier, 3 state block lost (R557, R565). -/
def State.chalkForce (s : State) (p : Port) (cause halt : Nat) : State :=
  if s.bit CHALK.FORCED 0 p then s
  else
    let s1 := ((s.wrBit CHALK.FORCED 0 p true).wr CHALK.LAST 0 cause).bump CHALK.FORCE_CNT 0
    let s2 := (s1.event EV.CHALK_FORCED p cause 1 0 0).irq CHALK.page 0 CHALK.IRQ_FORCED
    (s2.grd p fun g => { g with forced := true, forceCause := cause }).safeState p halt

/-- Chalk releases a port whose cause has cleared (R557); the owning Twill then starts a new attach. -/
def State.chalkRelease (s : State) (p : Port) : State :=
  let s1 := if s.bit CHALK.FORCED 0 p then
      (((s.wrBit CHALK.FORCED 0 p false).event EV.CHALK_FORCED p (s.port p).guard.forceCause 2 0 0).irq CHALK.page 0
        CHALK.IRQ_RELEASED)
    else s
  (s1.grd p fun g => { g with forced := false }).safeRelease p

/-- No matching copy exists: the port records TABLE_FAULT and Chalk forces it to safe state. -/
def State.tableFault (s : State) (p : Port) (e : Fin 2) : State :=
  let s1 := s.event EV.TABLE_FAULT p e.val (tblSeq (s.port p).loop.table) 0 0
  let s2 := ((s1.wrBit MARL.FAULT 0 p true).bump MARL.TBL_FAULT_CNT 0).irq MARL.page 0 MARL.IRQ_TBL_FAULT
  ((s2.flag LOOP.VALID p false).loop p fun l => { l with repair := 0 }).chalkForce p 1 6

/-- A bank that fails its check is to be copied from the other engine's, which matches, at the port's next outer step; where
none matches, the table is at fault.  Until then the model goes on with the table that matches.
(DESIGN CHOICE, assumption 168) -/
def State.bankBad (s : State) (bad : List (Fin 2 × Port)) (e : Fin 2) (p : Port) : State :=
  if bad.contains (1 - e, p) || (s.port p).loop.repair.getLsbD (1 - e).val then s.tableFault p e
  else s.loop p fun l => { l with repair := l.repair ||| BitVec.ofNat 2 (2 ^ e.val) }

/-- At an outer step the copies that have failed are repaired (R211). -/
def State.repairTables (s : State) (p : Port) : State :=
  let r := (s.port p).loop.repair
  let s1 := s.loop p fun l => { l with repair := 0 }
  let s2 := if r.getLsbD 0 then s1.tableRepaired p 0 else s1
  if r.getLsbD 1 then s2.tableRepaired p 1 else s2

/-- A valid table is loaded for a port that TABLE_FAULT holds: it is active at once, and the port is released (R211). -/
def State.tableGood (s : State) (p : Port) : State :=
  if s.bit MARL.FAULT 0 p then (s.wrBit MARL.FAULT 0 p false).chalkRelease p else s

/-- Both engines hold a table in the port's pending bank (R209). -/
def State.pendOne (s : State) (p : Port) (t : List Byte) : State :=
  if s.bit MARL.FAULT 0 p then (s.loadTable p t).tableGood p
  else ((s.loop p fun x => { x with pending := some t }).flag LOOP.PENDING p true).wrBit MARL.PEND 0 p true

/-! ## Tables at a start (R212) -/

/-- A stored policy object: its first copy, or the other one where that fails its CRC-32 (R366). -/
def State.policyOf (s : State) (k : Nat) : Option (List Byte) := (s.polFlash.lookup k).bind fun x => x.1.orElse fun _ => x.2

/-- The coefficient table that a start gives a port. (DESIGN CHOICE, assumption 4) -/
def State.startTable (s : State) (p : Port) : List Byte :=
  match s.policyOf (0x100 + p.val) with
  | some t => if tableReject t p = 0 ∨ tableReject t 0xFF = 0 then t else Config.imageTable p
  | none => Config.imageTable p

/-- Loam loads all 32 tables into both engines at the start of one engine (R212): where a port's active table is another, the
new one is swapped in as any other (R210). -/
def State.reloadTables (s : State) : State :=
  s.forPorts allPorts fun t p => if (t.port p).loop.table = t.startTable p then t else t.pendOne p (t.startTable p)

/-- A Marl engine has been restarted: its tables are loaded, and it serves again once they check (R212, R219). -/
def State.marlStarts (s : State) (e : Fin 2) : State := (s.reloadTables).wr (engState e) 0 3

/-! ## One update (R188) -/

/-- Steps 2 to 4 of an update: ramps, outer laws when due, set-point clamp.  The flags are SAT_ACC and SAT_OUTER. -/
def State.setPoint (s : State) (p : Port) : LoopSt × Bool × Bool :=
  let l0 := (s.port p).loop
  let vsp := s.nextVsp p
  let ramp := s.nextRamp p
  let ibs := (l0.acc ++ [l0.ibus]).drop (l0.acc.length + 1 - 64)
  let (iFwd, iRev) := s.limits p (max 0 (ramp - s.probeCut p))
  let src := s.rd LOOP.MODE p = mSource
  let lo := if src then -iRev else 0
  let hi := if src then iFwd else iRev
  let l1 : LoopSt := { l0 with vsp := vsp, revRamp := ramp, acc := ibs }
  let (l2, fa, fo) :=
    if s.outerDue p then
      let ia := meanOf (outerDiv l0.table (s.rd LOOP.SET_IN_USE p)) ibs
      let (pa, f1) := filterP (coef l0.table (s.rd LOOP.SET_IN_USE p) 0x38) l0.pAvg (s.pTerm p ia)
      let s1 := s.loop p fun _ => { l1 with iAvg := ia, pAvg := pa, rEst := s.rd LOOP.R_EST p }
      let (l2, f2, g2) := outerStep (s1.port p).loop (s1.laws p (s1.vspEff p vsp) pa iRev) lo hi
      (l2, f1 || f2, g2)
    else (l1, false, false)
  let g := clampI lo hi l2.ySel
  let i := if src then g else -g
  let ih := clampI (-iHw) iHw i
  ({ l2 with iSet := ih }, fa, fo || decide (ih ≠ i))

/-- Step 5: the inner compensator and the duty; the first update after HALT gives d = ff (R206).
(DEDUCED, assumption 167) -/
def State.duty (s : State) (p : Port) (l : LoopSt) : LoopSt × Bool × Bool × Bool :=
  let t := l.table
  let (e, _) := satW 32 (l.iSet - l.ibus)
  let (u, fa, fi) := if l.first then (0, false, false) else innerU l t (s.rd LOOP.SET_IN_USE p) e
  let ff := feedForward (s.on LOOP.FF_EN p) l.vconv s.busV (mMax t)
  let d := clampI (mMin t) (mMax t) (u + ff)
  ({ l with
            d := d, u1 := d - ff, u2 := l.u1, u3 := l.u2, e1 := e, e2 := l.e1, e3 := l.e2, k := l.k + 1, first := false,
            excl := false },
    fa, fi, decide (d ≠ u + ff) || l.excl)

/-- The step's sums for the model: an update whose burst is invalid or whose IBUS is clipped is left out (R246).
(DESIGN CHOICE, assumption 20) -/
def State.sumStep (s : State) (p : Port) : State :=
  let l := (s.port p).loop
  if l.good then s.model p fun m => { m with
    nUpd := m.nUpd + 1, sumI := m.sumI + l.ibus, sumDV := m.sumDV + l.d * s.busV, sumC := m.sumC + l.vconv, sumP := m.sumP + l.vbus }
  else s

/-- LOOP_STAT, V_SP, I_SP and DUTY follow the record; a change of LAW is counted (R198). -/
def State.showLoop (s : State) (p : Port) : State :=
  let l := (s.port p).loop
  let s1 := ((s.wr LOOP.V_SP p (milliU l.vsp)).wr LOOP.V_SP_EFF p (milliU (s.vspEff p l.vsp))).flag LOOP.RAMPING p
    (decide (l.vsp ≠ q24 (s.rd LOOP.V_TARGET p)))
  let s2 := ((s1.wrI LOOP.I_SET p (milliS l.iSet)).wrI LOOP.I_AVG p (milliS l.iAvg)).wrI LOOP.D p l.d
  if s.rd LOOP.LAW p = l.law.code then s2 else (s2.wr LOOP.LAW p l.law.code).bump LOOP.LAW_SWITCH_CNT p

/-- What an outer step does before the update: a copy of the table that had failed is repaired (R211), and a port whose
default engine is back returns to it (R219). -/
def State.outerFirst (s : State) (p : Port) : State :=
  let s1 := s.repairTables p
  if (s1.port p).loop.moveDue then
    ((s1.loop p fun l => { l with moveDue := false }).carryBy p (s1.defaultCarrier p)).rerate p
  else s1

/-- Step 1 of an update: what was written before the boundary is latched (R25, R188), and a rate that has changed applies. -/
def State.latch (s : State) (p : Port) : State :=
  let s1 := s.latchMode p
  if s1.running p && s1.outerDue p then s1.outerFirst p |>.rerate p
  else if (s1.port p).loop.moveDue then s1
  else s1.rerate p

/-- An engine has computed an update (R215). -/
def State.countUpdate (s : State) (p : Port) : State :=
  let e : Fin 2 := if s.on LOOP.ENGINE p then 1 else 0
  { s with updates := s.updates.set e (s.updates.get e + 1) e.isLt }

/-- INNER_LOOP_BOUNDARY: the carrying engine's update of a port (R188).  In HALT Marl computes no d (R206). -/
def execInnerLoopBoundary (p : Port) (s0 : State) : Host.Outcome State Fault Refusal :=
  .next (
    let s := s0.latch p
    if s.running p = false then
      (s.flag LOOP.RAMPING p (decide ((s.port p).loop.vsp ≠ q24 (s.rd LOOP.V_TARGET p)))).track p
    else
      let s1 := (if s.outerDue p then s.swapTable p else s).countUpdate p
      let old := (s1.port p).loop
      let due := s1.outerDue p && s1.rd LOOP.MODE p == mBusForm && s1.rd LOOP.P_CON p == 0
      let (l1, a1, o1) := s1.setPoint p
      let (l2, a2, i2, d2) := s1.duty p l1
      let s2 := if due then { s1 with freeCount := s1.freeCount + 1 } else s1
      let s3 := s2.loop p fun _ => { l2 with satAcc := a1 || a2, satIn := i2, satOut := o1, satDuty := d2 }
      let s4 := s3.satFlags p
        [⟨LOOP.SAT_ACC, LOOP.SAT_ACC_CNT, old.satAcc, a1 || a2, 0⟩,
         ⟨LOOP.SAT_INNER, LOOP.SAT_INNER_CNT, old.satIn, i2, 1⟩,
         ⟨LOOP.SAT_OUTER, LOOP.SAT_OUTER_CNT, old.satOut, o1, 2⟩,
         ⟨LOOP.SAT_DUTY, LOOP.SAT_DUTY_CNT, old.satDuty, d2, 3⟩]
      ((s4.sumStep p).showLoop p).track p)

/-! ## TABLE_CRC_CHECK (R211) -/

/-- TABLE_CRC_CHECK of a management tick: `bad` are the active banks, by engine and port, whose CRC-32 does not match
their table (R211). -/
def execTableCrcCheck (bad : List (Fin 2 × Port)) (s : State) : Host.Outcome State Fault Refusal :=
  .next (bad.foldl (fun t b => if t.bit MARL.FAULT 0 b.2 then t else t.bankBad bad b.1 b.2) s)

/-! ## One engine for all ports (R217 to R220) -/

/-- A failed engine's ports go into HALT with cause 7 and to safe state, which holds until the engine that carries them runs
(R220). -/
def State.engineDown (s : State) (e : Fin 2) : State :=
  let s1 := (s.wr (engState e) 0 2).engineFailed (9 + e.val)
  s1.forPorts (s1.carried e) fun s p => (s.grd p fun g => { g with engine := true }).safeState p 7

/-- Ports held for an engine's failure whose carrying engine runs are released; what else holds them stays (R220, R26). -/
def State.engineFrees (s : State) : State :=
  s.forPorts (allPorts.filter fun p => (s.port p).guard.engine && s.engineRuns p) fun s p =>
    (s.grd p fun g => { g with engine := false }).safeRelease p

/-- An engine is lost: with FALLBACK_EN the other one, where it runs, carries its ports (R217, R220); `missed` is word 6 of
ENGINE_FALLBACK. (DESIGN CHOICE, assumption 112) -/
def State.engineLost (s : State) (e : Fin 2) (missed : Nat) : State :=
  if s.on MARL.FALLBACK_EN 0 = true ∧ s.rd (engState (1 - e)) 0 = 1 then
    let n := (s.carried e).length
    let s1 := ((s.wr (engState e) 0 2).engineFailed (9 + e.val)).setCarriers (1 - e).val (1 - e).val
    ((s1.bump MARL.FALLBACK_CNT 0).event EV.ENGINE_FALLBACK 0xFF e.val n missed 0).irq MARL.page 0 MARL.IRQ_FALLBACK
  else s.engineDown e

/-- DEADLINE_MISS: the duty write of `missed` by the engine that carries it missed its deadline (R217, R220). -/
def execDeadlineMiss (missed : Port) (s : State) : Host.Outcome State Fault Refusal :=
  .next (
    let e : Fin 2 := if s.on LOOP.ENGINE missed then 1 else 0
    let s1 := (s.bump MARL.DEADLINE_MISS_CNT 0).irq MARL.page 0 MARL.IRQ_DEADLINE_MISS
    if s.rd (engState e) 0 = 2 then s1 else s1.engineLost e missed.val)

/-- An engine that was lost starts, with its tables loaded if its reload has not (R212). -/
def State.engineStarts (s : State) (e : Fin 2) : State :=
  if s.engineOut (9 + e.val) then
    (if s.rd (engState e) 0 = 3 then s else s.reloadTables).engineRestarted (9 + e.val) lcMissed
  else s

/-- An engine serves again, with all 32 tables loaded at its start (R212): ports held for its failure are released, and with
RESTORE_AUTO its default ports return to it (R219). -/
def State.engineBack (s : State) (e : Fin 2) : State :=
  let planned := s.planned.getLsbD e
  let s0 := s.engineStarts e
  let s1 := { s0.wr (engState e) 0 1 with planned := s.planned &&& ~~~(BitVec.ofNat 2 (2 ^ e.val)) }
  let s2 := s1.engineFrees
  if s.on MARL.RESTORE_AUTO 0 then
    let s3 := (s2.handBack e).bump MARL.RESTORE_CNT 0
    (s3.event EV.ENGINE_RESTORED 0xFF e.val 16 (if planned then 1 else 0) 0).irq MARL.page 0 MARL.IRQ_RESTORED
  else s2

/-- Loam reloads the image of an engine whose ports have moved, and loads all 32 tables (R217, R212); the engine is LOADING until
it serves again (R347). (DESIGN CHOICE, assumption 185) -/
def State.marlReloads (s : State) (e : Fin 2) : State :=
  if s.rd (engState e) 0 = 2 ∧ s.rd CORE.STATE (9 + e.val) = enFailed ∧ s.on MARL.FALLBACK_EN 0 = true
      ∧ s.rd (engState (1 - e)) 0 = 1 then
    (s.marlStarts e).wr CORE.STATE (9 + e.val) enLoading
  else s

/-- ENG0_LOAD and ENG1_LOAD at a management tick: 0.1 % of 20,000 updates in its 2.5 ms, rounded down (R215).
(DESIGN CHOICE, assumption 170) -/
def State.showLoad (s : State) : State :=
  let l (e : Fin 2) : Nat := s.updates.get e * 1000 / 20000
  { (s.wr MARL.ENG0_LOAD 0 (min 65535 (l 0))).wr MARL.ENG1_LOAD 0 (min 65535 (l 1)) with updates := Vector.replicate 2 0 }

/-- ENGINE_RESTORED: a restarted engine has reported matching CRCs for all 32 tables in one management tick (R219). -/
def execEngineRestored (e : Fin 2) (s : State) : Host.Outcome State Fault Refusal :=
  .next (
    if (s.rd (engState e) 0 = 2 ∨ s.rd (engState e) 0 = 3) ∧ s.rd CORE.STATE (9 + e.val) ≠ enRetired then s.engineBack e
    else s)

end Sys2Proof.Machine
end

