-- ==== Sys2Proof/Machine/Sense.lean ====
section
/-! DEFINITION. Sensing, sampling and PWM (chapter 8): bursts and their scaling, calibration by the rotating spare,
housekeeping, periods, regions and edges, and the driver enables. -/

namespace Sys2Proof.Machine

/-! ## Scaling (R222) -/

/-- (code − OFFSET_k) × (1 + GAIN_k), in units of 1 / 1,600,000 LSB. -/
def State.calCode (s : State) (k : Nat) (code : Int) : Int :=
  (16 * code - s.rdI ADC.OFFSET k) * (100000 + s.rdI ADC.GAIN k)

/-- A voltage channel: 15 mV for each code, Q8.24 V. -/
def State.voltQ (s : State) (k : Nat) (code : Nat) : Int :=
  (satW 32 (ratRound (s.calCode k code * 15 * 2 ^ 24) 1600000000)).1

/-- Half the full scale of a port's IBUS channel, mV, by CS_RANGE. -/
def csRange : Nat → Int
  | 0 => 20 | 1 => 40 | _ => 80

/-- IBUS, Q8.24 A: (2 × range / 4,096) / SHUNT for each code. -/
def State.ibusQ (s : State) (k : Nat) (p : Port) (code : Int) : Int :=
  (satW 32 (ratRound (s.calCode k code * csRange (s.rd ADC.CS_RANGE p) * 200 * 2 ^ 24)
    (1600000 * 4096 * max 1 (s.rd ADC.SHUNT p)))).1

/-- A feed current, mA: ±80 mV over the feed's shunt. -/
def State.feedMa (s : State) (k : Nat) (f : Feed) (code : Int) : Int :=
  ratRound (s.calCode k code * 160000000) (1600000 * 4096 * max 1 (s.rd FEED.FD_SHUNT f))

/-! ## Bursts (R221, R224 to R228) -/

/-- The converter that carries a port's group. -/
def State.adcOf (s : State) (p : Port) : Nat := if s.rd ADC.COVERED 0 = p.val / 4 then 8 else p.val / 4

/-- An invalid burst: Marl repeats the last samples, STALE and SENSE_STALE; the third in a row trips SENSE_LOST (R228). -/
def State.burstInvalid (s : State) (p : Port) : State :=
  let n := (s.port p).loop.stale + 1
  let s1 := (s.loop p fun l => { l with stale := n, good := false }).wrBit ADC.STALE 0 p true
  let s2 := ((s1.bump ADC.STALE_CNT 0).event EV.SENSE_STALE p n (s.adcOf p) 0 0).irq ADC.page 0 ADC.IRQ_STALE
  if n ≠ 3 then s2
  else (s2.grd p fun g => { g with senseLost := true }).trip p .senseLost [] (milliS (s.port p).loop.ibus)
    (s.rd LOOP.VBUS p)

/-- How many of a burst's codes stand at an end of their scale (R224). -/
def clips (i : Int) (vbus vconv : Nat) : Nat :=
  ([decide (i ≤ -2048 ∨ 2047 ≤ i), decide (vbus = 0 ∨ 4095 ≤ vbus), decide (vconv = 0 ∨ 4095 ≤ vconv)].filter id).length

/-- A port's next burst takes the next 4-bit sequence number (R227). -/
def State.nextBurst (s : State) (p : Port) : State := s.loop p fun l => { l with burst := l.burst + 1 }

/-- ADC_BURST: a port's IBUS, VBUS and VCONV codes; `late`, more than 125 ns after the request; `dropped`, how many of the
three results found the queue full (R226, R227). The power-path accumulator takes VBUS times IBUS over the inner period
(R22, R336). (DESIGN CHOICE, assumption 180) -/
def execAdcBurst (p : Port) (i : BitVec 12) (vbus vconv : BitVec 12) (late : Bool) (dropped : Fin 4) (s : State) :
    Host.Outcome State Fault Refusal :=
  .next (
    let k := s.adcOf p
    let clip := clips i.toInt vbus.toNat vconv.toNat
    let s0 := (if late then s.bump ADC.BURST_LATE_CNT 0 else s).nextBurst p
    let s1 := if clip = 0 then s0 else (s0.wrBit ADC.CLIP 0 p true).bumpBy ADC.CLIP_CNT 0 clip
    if dropped ≠ 0 then (s1.bumpBy ADC.Q_OVF_CNT 0 dropped.val).burstInvalid p
    else if s.bit ADC.FAILED 0 k then s1.burstInvalid p
    else
      let ib := s.ibusQ k p i.toInt
      let vb := s.voltQ k vbus.toNat
      let vc := s.voltQ k vconv.toNat
      let s2 := ((s1.wrBit ADC.STALE 0 p false).loop p fun l => { l with
        ibus := ib, vbus := vb, vconv := vc, stale := 0,
        good := !decide (i.toInt ≤ -2048 ∨ 2047 ≤ i.toInt) }).grd p fun g => { g with senseLost := false }
      let s3 := s2.modPort p fun x => { x with
        bud := { x.bud with energy := x.bud.energy + vb * ib * (2500 * s.tIn p : Nat) } }
      (((s3.wr LOOP.VBUS p (milliU vb)).wr LOOP.VCONV p (milliU vc)).noteVbus p (milliU vb)).standIn p)

/-- SENSE_STALE: a burst with a result missing, or under sequence number `seq`, reaches Marl: it is invalid unless it is whole
and carries the number that is due (R227, R228). -/
def execSenseStale (x : BurstRead) (s : State) : Host.Outcome State Fault Refusal :=
  .next (
    if x.missing ∨ x.seq ≠ (s.port x.port).loop.burst then (s.nextBurst x.port).burstInvalid x.port else s)

/-! ## The rotating spare (R229 to R231) -/

/-- The first recording of a die loss: an OTP SERVICE raise is due (R563). Units: engine endpoint e, converter 16 + k,
monitor 64 + its
index, block 1000 + b. -/
def State.noteLoss (s : State) (unit : Nat) : State :=
  if unit ∈ s.svc.seen then s
  else { s with svc := { s.svc with due := s.svc.due + 1, seen := s.svc.seen ++ [unit] } }

/-- The lowest-numbered group converter that is not FAILED; 8 when none is left. -/
def State.hkSpare (s : State) : Nat :=
  ((List.range 8).find? fun k => !s.bit ADC.FAILED 0 k).getD 8

/-- A rotation step of converter `k` is over; the next is the turn of the one after it. -/
def State.stepDone (s : State) (k : Nat) : State :=
  { s with calNext := (k + 1) % 9, adcRepeat := 0, adcCal := none }

/-- The outcome of a port's test (R558): the packet is answered, TEST_DONE written. -/
def State.endTest (s : State) (p : Port) (status result : Nat) : State :=
  match (s.port p).test with
  | none => s
  | some t =>
    let ms := (s.up - t.since) / 1000000
    let s1 := ((s.modPort p fun x => { x with test := none }).wrBit TEST.PEND 0 p false).bump TEST.PORT_TEST_CNT 0
    let s2 := (s1.eventSev EV.TEST_DONE (if status = stOK then 0 else 1) 0xFF t.kind status p 0).irq TEST.page 0
      TEST.IRQ_TEST_DONE
    s2.respond t.pkt status (leBytes 1 t.kind ++ leBytes 1 result ++ leBytes 2 0 ++ leBytes 4 ms)

/-- A test of this kind waits on the port. -/
def State.testWaits (s : State) (p : Port) (kind : Nat) : Bool :=
  match (s.port p).test with
  | some t => t.kind == kind
  | none => false

/-- The group converter that a PORT_TEST of kind 3 asks for comes first (R558, R560). -/
def State.calTurn (s : State) : Nat :=
  match allPorts.find? fun p => s.testWaits p 3 with
  | some p => p.val / 4
  | none => s.calNext

/-- Tests of kind 3 on the ports of group `k` end. -/
def State.endCalTests (s : State) (k status result : Nat) : State :=
  s.forPorts (allPorts.filter fun p => p.val / 4 == k && s.testWaits p 3) fun t p => t.endTest p status result

/-- CALIBRATION_STEP: the converter whose turn it is compares with ADC 8 (largest difference `diff1`), calibrates to
`offset` and `gain`, and compares again (`diff4`); a difference above 6 LSB leads to the mid-scale check, after which step 4
alone repeats if it was step 4 (R229 to R231).  ADC 8 itself is only measured, while a group converter carries housekeeping. -/
def execCalibrationStep (diff1 : Nat) (offset gain : BitVec 16) (diff4 : Nat) (s : State) :
    Host.Outcome State Fault Refusal :=
  .next (
    let k := s.calTurn
    if s.on ADC.ROT_LOST 0 = true ∨ s.bit ADC.FAILED 0 8 = true ∨ s.adcCal.isSome = true
        ∨ (s.on ADC.ROT_EN 0 = false ∧ k = s.calNext) then s
    else
      let done (t : State) : State := ((t.bump ADC.ROTATION_CNT 0).irq ADC.page 0 ADC.IRQ_CAL_DONE).stepDone k
      let load (t : State) : State := (t.wr ADC.OFFSET k offset.toNat).wr ADC.GAIN k gain.toNat
      let again := s.adcRepeat == 4
      if k = 8 then done (load s)
      else if 6 < diff1 ∧ again = false then { s.bump ADC.MISMATCH_CNT 0 with adcCal := some (k, diff1) }
      else
        let s1 := if again then s else load (s.wr ADC.COVERED 0 k)
        if 6 < diff4 then { s1.bump ADC.MISMATCH_CNT 0 with adcCal := some (k, diff4) }
        else (done (s1.wr ADC.COVERED 0 15)).endCalTests k stOK 0)

/-- A converter is marked FAILED; rotation stops (R231). -/
def State.adcFail (s : State) (k : Nat) (err : Int) (carrier : Nat) : State :=
  let s1 := (s.wrBit ADC.FAILED 0 k true).flag ADC.ROT_LOST 0 true
  (((s1.event EV.ADC_FAILED 0xFF k (wd err) carrier 0).irq ADC.page 0 ADC.IRQ_FAILED).noteLoss (16 + k)).sendMarks

/-- Foldback for one residual, 1 converter or 2 path: I_FOLD joins the limits (R248). -/
def State.foldback (s : State) (p : Port) (kind : Nat) (f : Int) : State :=
  if (if kind = 1 then (s.port p).model.foldC else (s.port p).model.foldP) then s
  else
    let s1 := ((s.model p fun m => { m with foldC := m.foldC || kind == 1, foldP := m.foldP || kind == 2 }).flag LOOP.FOLD p
      true).bump LOOP.PLAUS_ACTION_CNT p
    (s1.event EV.PLAUS_ACTION p kind 1 (wd (milliS f)) 0).showREst p

/-- The action of a SENSE_FLT finding (R252): ACT_C of the port. -/
def State.senseAct (s : State) (p : Port) : State :=
  let s0 := s.model p fun m => { m with senseDue := false }
  match s.rd LOOP.ACT_C p with
  | 1 =>
    s0.foldback p 1 (s.port p).model.fc
  | 2 =>
    let s1 := (s0.bump LOOP.PLAUS_ACTION_CNT p).event EV.PLAUS_ACTION p 1 2 (wd (milliS (s.port p).model.fc)) 0
    s1.trip p .plaus [] (milliS (s.port p).loop.ibus) (s.rd LOOP.VBUS p)
  | _ => s0

/-- The end of a management tick for a sense fault found in it (R252): three or more ports of one group have their converter
checked first; otherwise each acts. -/
def State.senseTick (s : State) (k : Fin 8) : State :=
  let l := allPorts.filter fun p => p.val / 4 == k.val && (s.port p).model.senseDue
  if s.adcCheck.getLsbD k then s
  else if 3 ≤ l.length then { s with adcCheck := s.adcCheck ||| BitVec.ofNat 9 (2 ^ k.val) }
  else s.forPorts l State.senseAct

/-- After the mid-scale check that R252 asked for: the ports of the group act only if it marked the converter FAILED. -/
def State.senseChecked (s : State) (k : Nat) : State :=
  let l := allPorts.filter fun p => p.val / 4 == k && (s.port p).model.senseDue
  if s.bit ADC.FAILED 0 k then s.forPorts l State.senseAct
  else s.forPorts l fun t p => t.model p fun m => { m with senseDue := false }

/-- The converter that waits for the mid-scale check, and the largest difference seen. -/
def State.checkTurn (s : State) : Option (Nat × Nat) :=
  match s.adcCal with
  | some x => some x
  | none => ((List.range 8).find? fun k => s.adcCheck.getLsbD k).map fun k => (k, 0)

/-- ADC 8 already carries the group of another FAILED converter for good (R31, R231). (DESIGN CHOICE, assumption 181) -/
def State.keptGroup (s : State) (k : Nat) : Bool :=
  let c := s.rd ADC.COVERED 0
  decide (c < 8 ∧ c ≠ k) && s.bit ADC.FAILED 0 c

/-- ADC_MISMATCH: both converters have converted the mid-scale reference, with errors in LSB against their calibrated
values (R231, R252). -/
def execAdcMismatch (errK err8 : Int) (s : State) : Host.Outcome State Fault Refusal :=
  .next (match s.checkTurn with
    | none => s
    | some (k, diff) =>
      let step := s.adcCal.isSome
      let nth := if s.rd ADC.COVERED 0 = k then 4 else 1
      let kept := s.keptGroup k
      let badK := 4 < errK.natAbs
      let bad8 := 4 < err8.natAbs
      let s0 := { s with adcCal := none, adcCheck := s.adcCheck &&& ~~~(BitVec.ofNat 9 (2 ^ k)) }
      let s1 :=
        if badK && bad8 then
          let t := ((s0.adcFail k errK 15).adcFail 8 err8 15).wr ADC.COVERED 0 15
          ((t.wr ADC.HK_ADC 0 t.hkSpare).stepDone k).endCalTests k stINTEGRITY 1
        else if badK then
          (((s0.adcFail k errK (if kept then k else 8)).wr ADC.COVERED 0 (if kept then s.rd ADC.COVERED 0 else k)).stepDone
            k).endCalTests k stINTEGRITY 1
        else if bad8 then
          let t := (s0.adcFail 8 err8 k).wr ADC.COVERED 0 15
          ((t.wr ADC.HK_ADC 0 t.hkSpare).stepDone k).endCalTests k stINTEGRITY 1
        else if step && s.adcRepeat != nth then { s0 with adcRepeat := nth }
        else if step then
          let t := ((s0.wr ADC.COVERED 0 15).event EV.ADC_MISMATCH 0xFF k diff 0 0).irq ADC.page 0 ADC.IRQ_MISMATCH
          (t.stepDone k).endCalTests k stINTEGRITY 1
        else s0
      s1.senseChecked k)

/-- ADC_REQUALIFICATION (TEST_CTL.KIND 2): `ok` are the converters within ±4 LSB at every one of 32 codes; their FAILED
marks clear, and rotation resumes when none remains (R561). -/
def State.requalify (s : State) (ok : BitVec 9) : State :=
  let left := (BitVec.ofNat 9 (s.rd ADC.FAILED 0) &&& ~~~ok).toNat
  let s1 := (s.wr ADC.FAILED 0 left).sendMarks
  if left = 0 then ((s1.flag ADC.ROT_LOST 0 false).wr ADC.COVERED 0 15).wr ADC.HK_ADC 0 8 else s1

/-! ## Periods and phases (R234 to R236) -/

/-- A PERIOD refused outside HALT (R234). -/
def State.periodDenied (s : State) (p : Port) : State :=
  (s.err PWM.page 0 stDENIED (PWM.PERIOD.off + 4 * p.val)).irq PWM.page 0 PWM.IRQ_PERIOD_DENIED

/-- A PERIOD that is accepted: the port's rates follow it (R204). -/
def State.setPeriod (s : State) (p : Port) (v : Nat) : State := (s.wr PWM.PERIOD p v).rerate p

/-- PERIOD_WRITE: accepted only in HALT (R234); a value outside 400 to 4,000 is BAD_ARG (R244). -/
def execPeriodWrite (p : Port) (v : Nat) (s : State) : Host.Outcome State Fault Refusal :=
  .next (
    if v < 400 ∨ 4000 < v then s.err PWM.page 0 stBAD_ARG (PWM.PERIOD.off + 4 * p.val)
    else if s.running p then s.periodDenied p
    else s.setPeriod p v)

/-- A PHASE written takes effect at the port's next period start (R235). -/
def State.setPhase (s : State) (p : Port) (v : Nat) : State :=
  s.modPort p fun x => { x with pwm := { x.pwm with phase := some v } }

/-- PHASE_WRITE. -/
def execPhaseWrite (p : Port) (v : BitVec 8) (s : State) : Host.Outcome State Fault Refusal :=
  .next (s.setPhase p v.toNat)

/-! ## Regions and edges (R236 to R239) -/

/-- PWM_STAT.REGION coding. -/
abbrev rBuck : Nat := 0
abbrev rBuckBoost : Nat := 1
abbrev rBoost : Nat := 2
abbrev rHalt : Nat := 3

/-- M reaches M_LO = DA_MAX / 256; M in Q4.28. -/
def reachesLo (m : Int) (da : Nat) : Bool := decide ((da : Int) * 2 ^ 20 ≤ m)
/-- M reaches M_HI = 256 / (256 − DB_MIN). -/
def reachesHi (m : Int) (db : Nat) : Bool := decide ((2 : Int) ^ 36 ≤ m * (256 - db))

/-- The region of the next period (R238). -/
def nextRegion (cur : Nat) (m : Int) (da db hyst : Nat) : Nat :=
  let h := (hyst : Int) * 2 ^ 20
  match cur with
  | 0 => if reachesLo m da then 1 else 0
  | 1 => if reachesHi m db then 2 else if reachesLo (m + h) da then 1 else 0
  | 2 => if reachesHi (m + h) db then 2 else 1
  | _ => if reachesHi m db then 2 else if reachesLo m da then 1 else 0

/-- Fraction `num / den` of a period of `steps` steps of 312.5 ps, to the nearest step. -/
def edge (num den : Int) (steps : Nat) : Nat :=
  if den ≤ 0 then 0 else (clampI 0 steps (ratRound (num * steps) den)).toNat

/-- dA and dB of a region, as fractions (R237). -/
def legDuties (r : Nat) (m : Int) (da db : Nat) : (Int × Int) × (Int × Int) :=
  let q : Int := 256 - db
  match r with
  | 0 => ((m, 2 ^ 28), (0, 1))
  | 2 => ((1, 1), (m - 2 ^ 28, max 1 m))
  | _ =>
    let den : Int := 2 ^ 28 * (65536 - da * q)
    let num := clampI 0 den ((m - da * 2 ^ 20) * 256 * q)
    ((m * (256 * den - db * num), 2 ^ 28 * 256 * den), (db * num, 256 * den))

/-- How a leg runs in a period: its high time in steps, whether it is held, and whether that is a substitution (R239). -/
structure Leg where
  on : Nat
  held : Bool
  subst : Bool
  deriving DecidableEq, Repr

/-- The input leg, and the output leg, in a period of `len` steps: a modulated leg too close to its ends runs as held; the
refresh pulse of a held leg ends the period, and only PWMA held low has none. -/
def legA (on len tMin tRef : Nat) (held : Bool) : Leg :=
  if held then ⟨len - tRef, true, false⟩
  else if on < tMin then ⟨0, true, true⟩
  else if len < on + tMin then ⟨len - tRef, true, true⟩
  else ⟨on, false, false⟩

def legB (on len tMin tRef : Nat) (held : Bool) : Leg :=
  if held then ⟨tRef, true, false⟩
  else if on < tMin then ⟨tRef, true, true⟩
  else if len < on + tMin then ⟨len - tRef, true, true⟩
  else ⟨on, false, false⟩

/-- A pending phase applies, and the period's length in steps follows (R235). -/
def State.applyPhase (s : State) (p : Port) : State :=
  let per := s.rd PWM.PERIOD p
  match (s.port p).pwm.phase with
  | none => s.modPort p fun x => { x with pwm := { x.pwm with len := 8 * per } }
  | some v =>
    let d := (v + 256 - s.rd PWM.PHASE p) % 256
    ((s.wr PWM.PHASE p v).bump PWM.PHASE_CHANGE_CNT 0).modPort p fun x =>
      { x with pwm := { x.pwm with phase := none, len := 8 * per + 8 * per * d / 256 } }

/-- Every N-th period start begins an inner period, and the sample position follows (R19, R225). -/
def State.innerStart (s : State) (p : Port) : State :=
  let left := (s.port p).pwm.left
  if left = 0 then (s.placeBurst p).modPort p fun x => { x with pwm := { x.pwm with left := s.rd LOOP.N p - 1 } }
  else s.modPort p fun x => { x with pwm := { x.pwm with left := left - 1 } }

/-- PERIOD_START: the PWM block applies a pending phase, the duty, the region and the edges; in HALT both outputs stay
low (R235 to R239). -/
def execPeriodStart (p : Port) (s : State) : Host.Outcome State Fault Refusal :=
  .next (
    let s0 := ((s.applyPhase p).innerStart p).unlatch p
    if s.running p = false then
      (((s0.wr PWM.REGION p rHalt).flag PWM.A_HELD p false).flag PWM.B_HELD p false).modPort p fun x =>
        { x with pwm := { x.pwm with onA := 0, onB := 0 } }
    else
      let m := (s.port p).loop.d
      let da := s.rd PWM.DA_MAX 0
      let db := s.rd PWM.DB_MIN 0
      let cur := s.rd PWM.REGION p
      let r := nextRegion cur m da db (s.rd PWM.HYST 0)
      let steps := 8 * s.rd PWM.PERIOD p
      let (a, b) := legDuties r m da db
      let tMin := 8 * s.rd PWM.T_MIN 0
      let tRef := 8 * s.rd PWM.T_REF 0
      let len := (s0.port p).pwm.len
      let la := legA (edge a.1 a.2 steps) len tMin tRef (r == rBoost)
      let lb := legB (edge b.1 b.2 steps) len tMin tRef (r == rBuck)
      let w := (s.port p).pwm.wait
      let s1 := ((s0.wr PWM.REGION p r).flag PWM.A_HELD p la.held).flag PWM.B_HELD p lb.held
      let s2 := if cur ≠ r ∧ cur ≠ rHalt then s1.bump PWM.REGION_CHANGE_CNT 0 else s1
      let s3 := s2.bumpBy PWM.HELD_SUBST_CNT 0 ((if la.subst then 1 else 0) + (if lb.subst then 1 else 0))
      s3.modPort p fun x => { x with pwm := { x.pwm with
        onA := if w then 0 else la.on, onB := if w then 0 else lb.on } })

/-! ## Driver enables (R241) -/

/-- Ports of a driver group that run. -/
def State.groupRuns (s : State) (g : Fin 4) : Bool := allPorts.any fun p => drvGroup p == g.val && s.running p

/-- DRV_EN_FALL: 1 µs after the last running port of the group has entered HALT. -/
def execDrvEnFall (g : Fin 4) (s : State) : Host.Outcome State Fault Refusal :=
  .next (
    if s.bit PWM.DRV_EN 0 g = true ∧ s.groupRuns g = false then
      (s.wrBit PWM.DRV_EN 0 g false).irq PWM.page 0 PWM.IRQ_DRV_CHANGE
    else s)

/-- DRV_SETUP_EXPIRY: DRV_SETUP has elapsed from the rising edge of DRV_EN: the outputs are released. -/
def execDrvSetupExpiry (g : Fin 4) (s : State) : Host.Outcome State Fault Refusal :=
  .next (s.forPorts (allPorts.filter fun p => drvGroup p == g.val) fun t p =>
    t.modPort p fun x => { x with pwm := { x.pwm with wait := false } })

end Sys2Proof.Machine
end

