-- ==== Sys2Proof/Machine/Model.lean ====
section
/-! DEFINITION. Plausibility models and cable estimation (chapter 9): the model's outer step, alarms and actions, and the
learning of the resistance beyond the connector. -/

namespace Sys2Proof.Machine

/-! ## Sense findings (R251, R252) -/

/-- SENSE_FLT latches, with SENSE_IMPLAUS; its action waits for the end of the management tick (R252). -/
def State.senseFault (s : State) (p : Port) (reason : Nat) (value : Int) : State :=
  if s.on LOOP.SENSE_FLT p then s
  else
    let s1 := (s.flag LOOP.SENSE_FLT p true).event EV.SENSE_IMPLAUS p reason (wd (milliS value)) 0 0
    (s1.model p fun m => { m with senseDue := true }).showREst p

/-- PATH_HIGH by R_INT (R251). -/
def State.pathHigh (s : State) (p : Port) : State :=
  let r := s.rd LOOP.R_INT p
  let mx := s.rd LOOP.R_INT_MAX p
  if mx < r ∧ s.on LOOP.PATH_HIGH p = false then
    (s.flag LOOP.PATH_HIGH p true).event EV.PATH_RES_HIGH p r mx 0 0
  else if r * 10 < mx * 9 then s.flag LOOP.PATH_HIGH p false
  else s

/-! ## One outer step (R245, R246, R248) -/

/-- Duration of an outer step, ns: D × T_IN. -/
def State.outerNs (s : State) (p : Port) : Nat := 2 ^ s.rd LOOP.DLOG p * s.tIn p * 5 / 2

/-- The port is blanked at this step (R246). -/
def State.blanked (s : State) (p : Port) : Bool :=
  s.on LOOP.RAMPING p || s.on LOOP.FROZEN p || !s.running p || decide (0 < (s.port p).model.blank)
    || (s.port p).model.nUpd == 0

/-- TH_C and TH_P, Q8.24 V, at the present step (R248). -/
def State.thC (s : State) (p : Port) : Int :=
  q24 (10 * s.rd LOOP.TH_C_ABS p) + (s.rd LOOP.TH_C_REL p : Int) * (s.port p).loop.vconv / 1000
def State.thP (s : State) (p : Port) : Int :=
  q24 (10 * s.rd LOOP.TH_P_ABS p) + (s.rd LOOP.TH_P_REL p : Int) * (s.port p).loop.vbus / 1000

/-- `x + 2^-n × dx`, rounded half up (R190). -/
def learn (n : Nat) (x dx : Int) : Int := (satW 32 (x + rsh n dx)).1

/-- Persistence counters of one residual: steps over TH and 2 TH, ns below TH / 2. -/
def persist (f th : Int) (o1 o2 u ns : Nat) : Nat × Nat × Nat :=
  let a : Int := f.natAbs
  (if th < a then o1 + 1 else 0, if 2 * th < a then o2 + 1 else 0, if 2 * a < th then u + ns else 0)

/-- i_avg of the model's step: I_AVG, or where updates are left out the mean of the others (R245, R246). -/
def State.stepI (s : State) (p : Port) : Int :=
  let m := (s.port p).model
  if m.nUpd = 0 ∨ m.nUpd = 2 ^ s.rd LOOP.DLOG p then (s.port p).loop.iAvg else m.sumI.tdiv m.nUpd

/-- The converter residual before its bias, and the path residual (R245). -/
def State.rawC (s : State) (p : Port) : Int :=
  let m := (s.port p).model
  let i := s.stepI p
  let n : Int := max 1 m.nUpd
  let cnt : Int := max 1 (2 ^ s.rd LOOP.DLOG p * s.tIn p)
  (rsh 28 m.sumDV).tdiv n - m.sumC.tdiv n - ((s.rd LOOP.R_CONV p : Int) * i).tdiv 10000
    - ((s.rd LOOP.L_CONV p : Int) * (i - m.lastI) * 40).tdiv cnt
def State.rawP (s : State) (p : Port) : Int :=
  let m := (s.port p).model
  let n : Int := max 1 m.nUpd
  m.sumC.tdiv n - m.sumP.tdiv n

/-- The model of a step that is not blanked. -/
def State.modelStep (s : State) (p : Port) : ModelSt :=
  let m := (s.port p).model
  let i := s.stepI p
  let ns := s.outerNs p
  let learnEn := s.on LOOP.LEARN_EN p
  let path := decide (1000000 ≤ m.closedNs)
  let rawP := s.rawP p
  let small := decide ((i.natAbs : Int) < q24 200)
  let vofs := if path && small then learn 16 m.vofs (rawP - m.vofs) else m.vofs
  let rint :=
    if path && !small && decide (q24 500 ≤ (i.natAbs : Int)) && learnEn then
      learn 16 m.rint (((rawP - m.vofs) * 2 ^ 24).tdiv i - m.rint)
    else m.rint
  let rp := rawP - vofs - rsh 24 (rint * i)
  let rc := s.rawC p - m.bc
  let bc := if learnEn && !s.on LOOP.ALARM_C p && !s.on LOOP.ALARM_P p then learn 16 m.bc rc else m.bc
  let fc := (satW 32 (m.fc + (rc - m.fc).tdiv 16)).1
  let fp := if path then (satW 32 (m.fp + (rp - m.fp).tdiv 16)).1 else m.fp
  let (oc, o2c, uc) := persist fc (s.thC p) m.overC m.over2C m.underC ns
  let (op, o2p, up) := if path then persist fp (s.thP p) m.overP m.over2P m.underP ns else (m.overP, m.over2P, m.underP)
  { m with
         bc := bc, vofs := vofs, rint := rint, fc := fc, fp := fp, overC := oc, over2C := o2c, underC := uc,
         overP := op, over2P := o2p, underP := up }

/-- A learning window is open: SINK, LEARN_EN, an explicit contract (R254). -/
def State.learning (s : State) (p : Port) : Bool :=
  s.rd LOOP.MODE p == mSink && s.on LOOP.LEARN_EN p && s.explicit p

/-- The window's sums take one step (R254). -/
def ModelSt.addWindow (m : ModelSt) (size : Nat) (g h : Int) : ModelSt :=
  if size ≤ m.n then m
  else { m with n := m.n + 1, sg := m.sg + g, sh := m.sh + h, sgg := m.sgg + g * g, sgh := m.sgh + g * h }

/-- The model's registers follow its record. -/
def State.showModel (s : State) (p : Port) : State :=
  let m := (s.port p).model
  let s1 := (s.wr LOOP.R_INT p (tenths m.rint)).wrI LOOP.V_OFS p (clampI (-32768) 32767 (ratRound (m.vofs * 10000) (2 ^ 24)))
  (s1.wrI LOOP.F_C p (milliS m.fc)).wrI LOOP.F_P p (milliS m.fp)

/-- Mean VBUS of the step. -/
def State.sumMeanVbus (s : State) (p : Port) : Int :=
  (s.port p).model.sumP.tdiv (max 1 (s.port p).model.nUpd)

/-- Blanking and the time the pass switch has been closed move on by a step; the step's sums start afresh. -/
def State.stepTimes (s : State) (p : Port) : State :=
  let ns := s.outerNs p
  s.model p fun m => { m with
    blank := m.blank - ns, closedNs := if s.gst p ∈ [gOn, gOpenWait] then m.closedNs + ns else 0, lastI := s.stepI p,
    nUpd := 0, sumI := 0, sumDV := 0, sumC := 0, sumP := 0 }

/-- MODEL_OUTER_STEP (R245, R246, R254), with the findings of R251, a standing alarm that meets a low current among them. -/
def execModelOuterStep (p : Port) (s : State) : Host.Outcome State Fault Refusal :=
  .next (
    if s.on LOOP.MODEL_EN p = false then s.stepTimes p
    else if s.blanked p then (s.flag LOOP.BLANKED p true).stepTimes p
    else
      let h := s.sumMeanVbus p
      let s1 := (s.flag LOOP.BLANKED p false).model p fun _ => s.modelStep p
      let s2 := if s.learning p then
          (s1.flag LOOP.LEARNING p true).model p fun m =>
            m.addWindow (2 ^ s.rd LOOP.WLOG p) (-(s.stepI p)) h
        else s1
      let s3 := (s2.showModel p).pathHigh p
      let m := (s3.port p).model
      let s4 := if q24 (10 * s.rd LOOP.TH_P_ABS p) < m.vofs.natAbs then s3.senseFault p 2 m.vofs else s3
      let s5 := if s.busV < 50 * m.bc.natAbs then s4.senseFault p 3 m.bc else s4
      let s6 := if s5.on LOOP.ALARM_C p ∧ ((s.port p).loop.iAvg.natAbs : Int) < q24 200 then s5.senseFault p 1 m.fc else s5
      s6.stepTimes p)

/-! ## Alarms and actions (R248, R250 to R252) -/

/-- One residual's alarm is raised. -/
def State.raiseAlarm (s : State) (p : Port) (flag : Field) (kind : Nat) (f : Int) : State :=
  let i := (s.port p).loop.iAvg
  let s1 := ((s.flag flag p true).bump LOOP.PLAUS_ALARM_CNT p).event EV.PLAUS_ALARM p kind (wd (milliS f)) (wd (milliS i)) 0
  s1.showREst p

/-- PLAUS_ALARM: a residual has stood over its threshold for 16 consecutive outer steps (R248); a converter residual at
low current is a sense fault (R251). -/
def execPlausAlarm (p : Port) (s : State) : Host.Outcome State Fault Refusal :=
  .next (
    let m := (s.port p).model
    let s1 :=
      if 16 ≤ m.overC ∧ s.on LOOP.ALARM_C p = false then
        let t := s.raiseAlarm p LOOP.ALARM_C 1 m.fc
        if ((s.port p).loop.iAvg.natAbs : Int) < q24 200 then t.senseFault p 1 m.fc else t
      else s
    if 16 ≤ m.overP ∧ s.on LOOP.ALARM_P p = false then s1.raiseAlarm p LOOP.ALARM_P 2 m.fp else s1)

/-- PLAUS_ALARM_RELEASE: below half the threshold for 1 s (R248). -/
def execPlausAlarmRelease (p : Port) (s : State) : Host.Outcome State Fault Refusal :=
  .next (
    let m := (s.port p).model
    let s1 := if 1000000000 ≤ m.underC then s.flag LOOP.ALARM_C p false else s
    let s2 := if 1000000000 ≤ m.underP then s1.flag LOOP.ALARM_P p false else s1
    s2.showREst p)

/-- The guard trips the port with cause PLAUS (R248); a trip of another cause that stands keeps its record (R250). -/
def State.plausTrip (s : State) (p : Port) (kind : Nat) (f : Int) : State :=
  let s1 := (s.bump LOOP.PLAUS_ACTION_CNT p).event EV.PLAUS_ACTION p kind 2 (wd (milliS f)) 0
  if s.tripStands p then s1 else s1.trip p .plaus [] (milliS (s.port p).loop.ibus) (s.rd LOOP.VBUS p)

/-- PLAUS_ACTION: a residual has stood over twice its threshold for 64 consecutive outer steps; of two the higher ACT applies
(R248, R250). The action of a SENSE_FLT comes at the end of the management tick (R252). -/
def execPlausAction (p : Port) (s : State) : Host.Outcome State Fault Refusal :=
  .next (
    let m := (s.port p).model
    let ac := if 64 ≤ m.over2C then s.rd LOOP.ACT_C p else 0
    let ap := if 64 ≤ m.over2P then s.rd LOOP.ACT_P p else 0
    let s1 := s.model p fun m => { m with
      over2C := if 64 ≤ m.over2C then 0 else m.over2C, over2P := if 64 ≤ m.over2P then 0 else m.over2P }
    if ac = 2 then s1.plausTrip p 1 m.fc
    else if ap = 2 then s1.plausTrip p 2 m.fp
    else
      let s2 := if ac = 1 then s1.foldback p 1 m.fc else s1
      if ap = 1 then s2.foldback p 2 m.fp else s2)

/-- FOLDBACK_CLEAR: a filtered residual has stayed below half its threshold for 10 s, which ends its foldback (R248). -/
def execFoldbackClear (p : Port) (s : State) : Host.Outcome State Fault Refusal :=
  .next (
    let m := (s.port p).model
    let c := m.foldC && decide (m.underC < 10000000000)
    let k := m.foldP && decide (m.underP < 10000000000)
    ((s.model p fun m => { m with foldC := c, foldP := k }).flag LOOP.FOLD p (c || k)).showREst p)

/-! ## Learning (R254, R255) -/

/-- n² var(g) and n² cov(VBUS, g) of a window. -/
def ModelSt.varN (m : ModelSt) : Int := m.n * m.sgg - m.sg * m.sg
def ModelSt.covN (m : ModelSt) : Int := m.n * m.sgh - m.sg * m.sh

/-- R_win, Q8.24 ohms. -/
def ModelSt.rWin (m : ModelSt) : Int := if m.varN ≤ 0 then 0 else (-m.covN * 2 ^ 24).tdiv m.varN

/-- The window passes: √var(g) at least 200 mA, R_win from 0 to 1 Ω, the intercept within ±10 % of the contract voltage. -/
def ModelSt.windowOk (m : ModelSt) (contract : Int) : Bool :=
  let n : Int := m.n
  let icpt := m.sh.tdiv (max 1 n) + rsh 24 (m.rWin * (m.sg.tdiv (max 1 n)))
  decide (n * n * (q24 200 * q24 200) ≤ m.varN ∧ m.covN ≤ 0 ∧ -m.covN ≤ m.varN ∧
    10 * (icpt - contract).natAbs ≤ contract.natAbs)

/-- √var(g), mA. -/
def ModelSt.devMa (m : ModelSt) : Nat :=
  Nat.sqrt (m.varN.toNat * 1000000) / max 1 (m.n * 2 ^ 24)

/-- CAB_WARN and CAB_FAULT by a newly learned R_EXT (R251, R253). -/
def State.cableFlags (s : State) (p : Port) (r : Nat) : State :=
  let w := s.rd LOOP.R_EXT_WARN p
  let f := s.rd LOOP.R_EXT_FAULT p
  let s0 := if w ≤ r ∧ (s.port p).model.worn = false then s.event EV.CABLE_WORN p r w 1 0 else s
  let s1 := s0.model p fun m => { m with worn := decide (w ≤ r) }
  let s2 := s1.flag LOOP.CAB_WARN p (decide (w ≤ r))
  let s3 := if f ≤ r ∧ s.on LOOP.CAB_FAULT p = false then s2.event EV.CABLE_WORN p r f 2 0 else s2
  let s4 := if f ≤ r then s3.flag LOOP.CAB_FAULT p true else if r < w then s3.flag LOOP.CAB_FAULT p false else s3
  s4.showREst p

/-- A new window opens. -/
def ModelSt.reopen (m : ModelSt) : ModelSt := { m with n := 0, sg := 0, sh := 0, sgg := 0, sgh := 0, probe := none }

/-- LEARNING_WINDOW_END: the window of 2^WLOG outer steps is full (R254). -/
def execLearningWindowEnd (p : Port) (s : State) : Host.Outcome State Fault Refusal :=
  .next (
    let m := (s.port p).model
    if m.n < 2 ^ s.rd LOOP.WLOG p then s
    else
      let s0 := (s.model p ModelSt.reopen).flag LOOP.LEARNING p false
      let v := match (s.port p).pe.contract with
        | some c => q24 c.mv
        | none => 0
      if m.windowOk v = false then s0.bump LOOP.LEARN_REJECT_CNT p
      else
        let r := m.rext + (m.rWin - m.rext).tdiv 4
        let s1 := (s0.model p fun m => { m with rext := r, accepted := m.accepted + 1 }).wr LOOP.R_EXT p (tenths r)
        let s2 := (s1.bump LOOP.LEARN_ACCEPT_CNT p).event EV.CABLE_LEARNED p (tenths r) (tenths m.rWin) m.devMa 0
        s2.cableFlags p (tenths r))

/-- PROBE_START: 60 s without an accepted window in a sink session; the probe takes the second half of a fresh window
(R255). -/
def execProbeStart (p : Port) (s : State) : Host.Outcome State Fault Refusal :=
  .next (
    let draw := -(s.port p).loop.iAvg
    if s.on LOOP.PROBE_EN p = true ∧ s.learning p = true ∧ s.running p = true ∧ q24 400 ≤ draw then
      s.model p fun m => { m.reopen with probe := some (max (q24 400) (draw.tdiv 3)) }
    else s)

end Sys2Proof.Machine
end

