-- ==== Sys2Proof/Machine/Monitors.lean ====
section
/-! DEFINITION. Window monitors and comparators (chapter 11): crossings, self-checks, failed checks and their effects. -/

namespace Sys2Proof.Machine

/-! ## Crossings (R291 to R296) -/

/-- MONITOR_CROSSING: the input of a window stands at `mv`, qualified and not blanked (R293 to R296); in WATCH the monitors
are only sampled (R306). -/
def execMonitorCrossing (p : Port) (c : Crossing) (mv : Nat) (ibusMa : Int) (vbusMv : Nat) (s : State) :
    Host.Outcome State Fault Refusal :=
  .next (if s.dev ≠ .watch ∧ s.crossed p c mv = true then s.crossing p c ibusMa vbusMv else s)

/-! ## Self-checks (R299) -/

/-- The first failed step of *Self-check steps* for a window with codes `hi` and `lo`, MODE `mode` and its live input at
code `live`; the swap step is skipped within 2 codes of a threshold.  0 when all pass. -/
def checkFails (r : CheckRead) (mode hi lo live : Nat) : Nat :=
  let h := actsHi mode
  let l := actsLo mode
  let near (c : Nat) : Bool := decide (c ≤ live + 2 ∧ live ≤ c + 2)
  let skip := (h && near hi) || (l && near lo)
  if !skip && ((h && r.swapHi == decide (hi < live)) || (l && r.swapLo == decide (lo ≤ live))) then 1
  else if (h && r.zeroHi) || (l && lo != 0 && r.zeroLo) then 2
  else if (h && (!r.mid510Hi || r.mid514Hi)) || (l && (!r.mid510Lo || r.mid514Lo)) then 3
  else if (h && !r.fullHi) || (l && !r.fullLo) then 4
  else 0

/-- The swap step is skipped. -/
def checkSkips (mode hi lo live : Nat) : Bool :=
  let near (c : Nat) : Bool := decide (c ≤ live + 2 ∧ live ≤ c + 2)
  (actsHi mode && near hi) || (actsLo mode && near lo)

/-! ## Failed checks (R303, R324) -/

/-- The port of a monitor. -/
def monPort : Mon → Option Port
  | .vbusA p | .vbusB p | .csp p | .ifast p => some p
  | _ => none

/-- Both VBUS windows, or IFAST, of a port are FAILED. -/
def State.portUnwatched (s : State) (p : Port) : Bool :=
  (s.on GUARD.A_FAILED p && s.on GUARD.B_FAILED p) || s.on GUARD.IFAST_FAILED p

/-- Unit number of a monitor in the record of die losses (R563). -/
def monUnit (m : Mon) : Nat := 64 + m.index

/-- Effect code of MON_FAILED, with its mark set: 1 degraded, 2 port disabled, 3 stand-in (R303, R308, R324). -/
def State.monEffect (s : State) (m : Mon) : Nat :=
  match m with
  | .vbusA p | .vbusB p => if s.portUnwatched p then 2 else 1
  | .csp _ => 3
  | .ifast _ => 2
  | .busA | .busB => if s.monFailed .busA && s.monFailed .busB then 3 else 1
  | .feedCur _ => 1
  | .feed _ | .vcp | .vconnIn => 3

/-- What a failed monitor retires, after its mark is set (R303, R324). -/
def State.monRetires (s : State) (m : Mon) : State :=
  match m with
  | .vbusA p =>
    let t := (s.flag GUARD.DEGRADED p true).wr GUARD.PRIMARY p 1
    if s.portUnwatched p then t.disable p else t
  | .vbusB p =>
    let t := (s.flag GUARD.DEGRADED p true).wr GUARD.PRIMARY p 0
    if s.portUnwatched p then t.disable p else t
  | .csp p => s.flag GUARD.STANDIN p true
  | .ifast p => s.disable p
  | .busA =>
    let t := (s.flag FEED.BUS_DEGRADED 0 true).wr FEED.BUS_PRIMARY 0 1
    if s.monFailed .busB then t.flag FEED.ARMED 0 false else t
  | .busB =>
    let t := (s.flag FEED.BUS_DEGRADED 0 true).wr FEED.BUS_PRIMARY 0 0
    if s.monFailed .busA then t.flag FEED.ARMED 0 false else t
  | .feed _ | .feedCur _ | .vcp | .vconnIn => s

/-- The event of a monitor: port monitors on their port's ring, chip monitors on ring 5 as port 0xFF with the FEED page as
source. (DESIGN CHOICE, assumption 189) -/
def State.monEvent (s : State) (k : EvKind) (m : Mon) (d5 d6 : Nat) : State :=
  match monPort m with
  | some p => s.event k p m.index d5 d6 0
  | none => s.event { k with src := FEED.page, ring := .sys } 0xFF m.index d5 d6 0

/-- CHK_STAT of a port's monitor (R307). -/
def State.noteCheck (s : State) (m : Mon) (step : Nat) : State :=
  match monPort m with
  | some p => (s.wr GUARD.LAST_FAIL_MON p (m.index % 4)).wr GUARD.LAST_FAIL_STEP p step
  | none => s

/-- The monitor is marked FAILED (R303, R304): its mark is kept in flash, its OTP SERVICE raise is due (R563). -/
def State.markFailed (s : State) (m : Mon) (step : Nat) : State :=
  let s1 := match monMark m with
    | some (F, p) => (s.flag F p true).bump GUARD.CHK_FAIL_CNT p
    | none => { s with chipFailed := s.chipFailed ||| BitVec.ofNat 8 (2 ^ (m.index - 128)) }
  let s2 := if (monPort m).isNone then s1.irq FEED.page 0 FEED.IRQ_MON_FAILED else s1
  (((s2.monEvent EV.MON_FAILED m step (s1.monEffect m)).noteLoss (monUnit m)).monRetires m).sendMarks

/-- The bit of a port's monitor. -/
def monBit (m : Mon) : BitVec 4 := BitVec.ofNat 4 (2 ^ (m.index % 4))

/-- The check of `m` waits for its repeat. -/
def State.repeating (s : State) (m : Mon) : Bool :=
  match monPort m with
  | some p => (s.port p).guard.chk.getLsbD (m.index % 4)
  | none => s.monRepeat.any fun x => x.1 == m.index

/-- The check of `m` is to be repeated at once: CHK_STEP shows the first step of the repeat, and Marl stands in for a CSP
window meanwhile (R300, R303, R307). (DESIGN CHOICE, assumption 187) -/
def State.awaitRepeat (s : State) (m : Mon) (step : Nat) : State :=
  match monPort m with
  | some p =>
    let s1 := (s.flag GUARD.CHECKING p true).wr GUARD.CHK_STEP p (if m.index % 4 = 3 then 0x11 else 1)
    let s2 := if m.index % 4 = 2 then s1.flag GUARD.STANDIN p true else s1
    s2.grd p fun g => { g with chk := g.chk ||| monBit m }
  | none => { s with monRepeat := s.monRepeat ++ [(m.index, step)] }

/-- The check of `m` is over, its repeat with it: a CSP window that is not FAILED watches again (R300). -/
def State.repeated (s : State) (m : Mon) : State :=
  match monPort m with
  | some p =>
    let s1 := s.grd p fun g => { g with chk := g.chk &&& ~~~(monBit m) }
    if (s1.port p).guard.chk = 0 then s1.checksIdle p
    else if m.index % 4 = 2 then s1.flag GUARD.STANDIN p (s1.on GUARD.C_FAILED p) else s1
  | none => { s with monRepeat := s.monRepeat.filter fun x => x.1 != m.index }

/-- The first closure after FAILED marks were cleared has still to check `m`, which fails without a repeat (R304). -/
def State.rechecks (s : State) (m : Mon) : Bool :=
  match monPort m with
  | some p => (s.port p).guard.recheck.getLsbD (m.index % 4) && s.gst p == gPrecheck
  | none => false

/-- A check of `m` fails at a step: the first failure is repeated at once, the second marks the monitor (R303), as does the
first of the checks of R304. -/
def State.checkFailed (s : State) (m : Mon) (step : Nat) : State :=
  let s1 := (s.monEvent EV.MON_CHECK_FAIL m step (if s.repeating m then 2 else 1)).noteCheck m step
  if s.repeating m || s.rechecks m then (s1.repeated m).markFailed m step else s1.awaitRepeat m step

/-- A monitor that the closure had to check first has been checked; where one VBUS window has FAILED, alternation has stopped
(R303, R304). -/
def State.rechecked (s : State) (m : Mon) : State :=
  match monPort m with
  | some p =>
    let done : BitVec 4 := monBit m ||| (if s.on GUARD.DEGRADED p then 3 else 0)
    if s.gst p = gPrecheck then s.grd p fun g => { g with recheck := g.recheck &&& ~~~done } else s
  | none => s

/-- A closure by CLOSE_MATCHED that waited for the checks of R304 goes on once they have run. -/
def State.closureGoesOn (s : State) (p : Port) : State :=
  if (s.port p).guard.closing = .matchedCheck ∧ (s.port p).guard.recheck = 0 then s.driveMatched p else s

/-- After a check of a port's monitor. -/
def State.afterCheck (s : State) (m : Mon) : State :=
  match monPort m with
  | some p => (s.rechecked m).closureGoesOn p
  | none => s

/-- A port's tests are deferred (R559). -/
def State.deferred (s : State) (p : Port) : Bool :=
  decide (s.rd PD.PD_STATE p ∈ [pdTransition, pdSwap, pdHardReset, pdSoftReset, pdResync])
    || s.on LOOP.RAMPING p || s.on LOOP.FROZEN p
    || decide (s.gst p ∈ [gPrecheck, gRamp, gEnhance, gOpenWait, gDischarge, gTripped])
    || s.tc p == tcErrorRecovery

/-- The checks of a port's tests of a kind end with the outcome of a check (R558, R560); that of IFAST runs at a closure or a
planned opening, where a port's other tests are deferred. -/
def State.checkEndsTest (s : State) (m : Mon) (kind : Nat) (failed again : Bool) : State :=
  match monPort m with
  | some p =>
    if !s.testWaits p kind || (kind != 2 && s.deferred p) then s
    else if failed && again then s.endTest p stINTEGRITY 2
    else if failed then s
    else s.endTest p stOK (if again then 1 else 0)
  | none => s

/-- A check of `m` is complete. -/
def State.checkRan (s : State) (m : Mon) : State :=
  match monPort m with
  | some p => s.bump GUARD.CHK_RUN_CNT p
  | none => s

/-! ## Alternation (R297, R298) -/

/-- The check window of a port, and of the bus. -/
def State.checkWindow (s : State) (p : Port) : Mon := if s.on GUARD.PRIMARY p then .vbusA p else .vbusB p
def State.busCheck (s : State) : Mon := if s.on FEED.BUS_PRIMARY 0 then .busA else .busB

/-- Self-checks run: they are suspended in WATCH (R306). -/
def State.checksRun (s : State) : Bool := decide (s.dev ≠ .watch)

/-- A port may alternate: GUARD_ON or GUARD_OFF, neither window FAILED, and CHK_EN, a check out of turn (R302)
or a PORT_TEST of kind 0; or the checks of R304. -/
def State.mayAlternate (s : State) (p : Port) : Bool :=
  ((s.on GUARD.CHK_EN p || (s.port p).guard.dueV || (s.testWaits p 0 && !s.deferred p)) && (s.gst p == gOn || s.gst p == gOff)
    || s.rechecks (s.checkWindow p)) && !s.on GUARD.DEGRADED p && s.checksRun

/-- MONITOR_ALTERNATION of a port's VBUS windows, or (none) of the bus windows: the check window's readings; all steps
passed, the duties exchange (R298, R320). -/
def execMonitorAlternation (at_ : Option Port) (r : CheckRead) (s : State) : Host.Outcome State Fault Refusal :=
  .next (match at_ with
    | some p =>
      if s.mayAlternate p = false then s
      else
        let m := s.checkWindow p
        let (hi, lo) := s.thrV p
        let mode := s.rd GUARD.VMON_CFG_MODE p
        let live := s.rd LOOP.VBUS p / 60
        let k := checkFails r mode hi lo live
        let again := s.repeating m
        let s0 := if checkSkips mode hi lo live then s.bump GUARD.SKIP_CNT p else s
        let s1 := (s0.checkRan m).grd p fun g => { g with dueV := false }
        if k ≠ 0 then ((s1.checkFailed m k).checkEndsTest m 0 true again).afterCheck m
        else
          let s2 := ((s1.repeated m).wr GUARD.PRIMARY p (1 - s.rd GUARD.PRIMARY p)).bump GUARD.SWAP_CNT p
          (s2.checkEndsTest m 0 false again).afterCheck m
    | none =>
      if s.on FEED.CHK_EN 0 = false ∨ s.on FEED.BUS_DEGRADED 0 = true ∨ s.checksRun = false then s
      else
        let m := s.busCheck
        let ref := s.rd FEED.BUS_MON_REF 0
        let k := checkFails r (s.rd FEED.BUS_MON_MODE 0) (monHi ref (s.rd FEED.BUS_MON_WHI 0))
          (monLo ref (s.rd FEED.BUS_MON_WLO 0)) (s.rd ADC.BUS_SNS 0 / 60)
        if k ≠ 0 then s.checkFailed m k
        else ((s.repeated m).wr FEED.BUS_PRIMARY 0 (1 - s.rd FEED.BUS_PRIMARY 0)).bump FEED.BUS_SWAP_CNT 0)

/-! ## CSP, feed and supply windows (R300) -/

/-- The threshold DAC step of a window, in µV (R290). -/
def monStepUv (m : Mon) : Nat :=
  match m with
  | .vcp => 15000
  | .vconnIn => 7500
  | _ => 60000

/-- MODE, codes and live code of a window that has no partner; that of a supply is its last sample's (R232, R290). -/
def State.windowOf (s : State) (m : Mon) : Option (Nat × Nat × Nat × Nat) :=
  match m with
  | .csp p => some (s.rd GUARD.CMON_CFG_MODE p, (s.thrC p).1, (s.thrC p).2, s.rd LOOP.VCONV p / 60)
  | .feed f =>
    let (r, a, b, md) := if f.val = 0
      then (FEED.FA_MON_REF, FEED.FA_MON_WHI, FEED.FA_MON_WLO, FEED.FA_MON_MODE)
      else (FEED.FB_MON_REF, FEED.FB_MON_WHI, FEED.FB_MON_WLO, FEED.FB_MON_MODE)
    some (s.rd md 0, monHi (s.rd r 0) (s.rd a 0), monLo (s.rd r 0) (s.rd b 0),
      s.rd (if f.val = 0 then ADC.FA_VIN else ADC.FB_VIN) 0 / 60)
  | .vcp =>
    let r := s.rd FEED.VCP_REF 0
    some (1, monHi r (s.rd FEED.VCP_W 0), monLo r (s.rd FEED.VCP_W 0), s.supply.vcp / monStepUv m)
  | .vconnIn =>
    let r := s.rd FEED.VCONN_REF 0
    some (1, monHi r (s.rd FEED.VCONN_W 0), monLo r (s.rd FEED.VCONN_W 0), s.supply.vconnIn / monStepUv m)
  | _ => none

/-- The check of such a window may run. -/
def State.mayCheck (s : State) (m : Mon) : Bool :=
  match m with
  | .csp p => ((s.on GUARD.CHK_EN p || (s.port p).guard.dueC || (s.testWaits p 1 && !s.deferred p))
      && (s.gst p == gOn || s.gst p == gOff) || s.rechecks m) && !s.monFailed m && s.checksRun
  | .feed _ | .vcp | .vconnIn => s.on FEED.CHK_EN 0 && !s.monFailed m && s.checksRun
  | _ => false

/-- CSP_WINDOW_CHECK: a CSP, feed or supply window runs its self-check steps while Marl, or housekeeping, stands in. -/
def execCspWindowCheck (m : Mon) (r : CheckRead) (s : State) : Host.Outcome State Fault Refusal :=
  .next (match s.windowOf m with
    | none => s
    | some (mode, hi, lo, live) =>
      if s.mayCheck m = false then s
      else
        let k := checkFails r mode hi lo live
        let again := s.repeating m
        let s0 := match m with
          | .csp p => (if checkSkips mode hi lo live then s.bump GUARD.SKIP_CNT p else s).grd p fun g => { g with dueC := false }
          | _ => s
        let s1 := s0.checkRan m
        if k ≠ 0 then ((s1.checkFailed m k).checkEndsTest m 1 true again).afterCheck m
        else ((s1.repeated m).checkEndsTest m 1 false again).afterCheck m)

/-! ## IFAST (R301) -/

/-- The first failed IFAST step, 0x11 to 0x14, from what the comparator fired at 0 mV, +(E+8), −(E+8) and +(E−8). -/
def ifastFails (zero pos neg below : Bool) : Nat :=
  if zero then 0x11 else if !pos then 0x12 else if !neg then 0x13 else if below then 0x14 else 0

/-- The check of IFAST, or of a feed's current comparator, may run: its gate reads off, of a port in GUARD_PRECHECK or in the
GUARD_DISCHARGE of a planned opening (R301). -/
def State.mayIfast (s : State) (m : Mon) : Bool :=
  match m with
  | .ifast p => (s.gst p == gPrecheck || (s.gst p == gDischarge && (s.port p).guard.planned)) && !s.switchOn p
      && !s.monFailed m && s.checksRun
  | .feedCur f => s.on FEED.FD_GATE_OFF f && !s.monFailed m && s.checksRun
  | _ => false

/-- IFAST of a port has passed the check of its closure (R301). -/
def State.ifastChecked (s : State) (m : Mon) : State :=
  match m with
  | .ifast p => s.grd p fun g => { g with ifastRan := true }
  | _ => s

/-- A check of IFAST, or of a feed's current comparator, ends at its first failed step `k`, or with 0 passed: a port's closure
goes on only once IFAST has passed (R301, R303, R304). -/
def State.ifastResult (s : State) (m : Mon) (k : Nat) : State :=
  let again := s.repeating m
  let s1 := s.checkRan m
  let s2 := match m with
    | .ifast p => s1.wr GUARD.IFAST_AGE p 0
    | _ => s1
  if k ≠ 0 then ((s2.checkFailed m k).checkEndsTest m 2 true again).afterCheck m
  else (((s2.repeated m).checkEndsTest m 2 false again).ifastChecked m).afterCheck m

/-! ## Cross-check and age (R302, R305) -/

/-- The sample of a port's VBUS primary or CSP window disagrees with its comparator (R302): `reads` is whether the
comparator reads outside. -/
def disagrees (mode hi lo mv : Nat) (reads : Bool) : Bool :=
  let out := (actsHi mode && decide (hi * 60 + 240 < mv)) || (actsLo mode && decide (mv + 240 < lo * 60))
  let inside := (!actsHi mode || decide (mv + 240 < hi * 60)) && (!actsLo mode || decide (lo * 60 + 240 < mv))
  (out && !reads) || (inside && reads)

/-- MON_DISAGREE: the eighth consecutive disagreement on the VBUS primary (`csp` false) or the CSP window, at a sample of
`mv` (R302): for a VBUS primary the duties are exchanged first, so that the former primary is checked next,
out of turn.  The exchange counts in SWAP_CNT as the alternation it is, and word 6 names the upper threshold where it acts and
the sample does not lie below the lower one. (DESIGN CHOICE, assumption 188) -/
def execMonDisagree (p : Port) (csp : Bool) (mv : Nat) (reads : Bool) (s : State) : Host.Outcome State Fault Refusal :=
  .next (
    let (hi, lo) := if csp then s.thrC p else s.thrV p
    let mode := s.rd (if csp then GUARD.CMON_CFG_MODE else GUARD.VMON_CFG_MODE) p
    if s.on GUARD.XCHK_EN p = false ∨ s.checksRun = false ∨ disagrees mode hi lo mv reads = false then s
    else
      let m : Mon := if csp then .csp p else if s.on GUARD.PRIMARY p then .vbusB p else .vbusA p
      let th := if hi * 60 < mv ∨ (actsHi mode = true ∧ lo * 60 ≤ mv) then hi else lo
      let s1 := (s.event EV.MON_DISAGREE p m.index mv (th * 60) 0).bump GUARD.XCHK_DISAGREE_CNT p
      if csp then s1.grd p fun g => { g with dueC := true }
      else if s.on GUARD.DEGRADED p then s1
      else ((s1.wr GUARD.PRIMARY p (1 - s.rd GUARD.PRIMARY p)).bump GUARD.SWAP_CNT p).grd p fun g => { g with dueV := true })

/-- A day has passed: IFAST_AGE counts it; each DUE_T days with the switch closed write MON_CHECK_DUE (R305). -/
def execMonCheckDue (p : Port) (s : State) : Host.Outcome State Fault Refusal :=
  .next (
    let a := min 65535 (s.rd GUARD.IFAST_AGE p + 1)
    let s1 := s.wr GUARD.IFAST_AGE p a
    if s.gst p = gOn ∧ a % max 1 (s.rd GUARD.DUE_T p) = 0 then
      s1.event EV.MON_CHECK_DUE p (Mon.ifast p).index a 0 0
    else s1)

end Sys2Proof.Machine
end

