-- ==== Sys2Proof/Machine/Feed.lean ====
section
/-! DEFINITION. Cabinet feeds and hot insertion (chapter 12), with the housekeeping frame whose samples the feed breaker
and the bus watch use (R232). -/

namespace Sys2Proof.Machine

/-! ## Codes and reading -/

/-- FEED_STAT.STATE coding (R327). -/
abbrev fAbsent : Nat := 0
abbrev fReady : Nat := 1
abbrev fRamp : Nat := 2
abbrev fEnhance : Nat := 3
abbrev fOn : Nat := 4
abbrev fTripped : Nat := 5
abbrev fLatched : Nat := 6
abbrev fRetired : Nat := 7
abbrev fYielded : Nat := 8

/-- A feed's record, and changing it. -/
def State.feed (s : State) (f : Feed) : FeedOne := s.feeds.one.get f
def State.modFeed (s : State) (f : Feed) (g : FeedOne → FeedOne) : State :=
  { s with feeds := { s.feeds with one := s.feeds.one.set f (g (s.feeds.one.get f)) f.isLt } }

/-- The state of a feed, or of a yielded one that which it keeps meanwhile (R317). -/
def State.feedLatch (s : State) (f : Feed) : Nat :=
  if s.rd FEED.FD_STATE f = fYielded then (s.feed f).held else s.rd FEED.FD_STATE f

/-- The feed's latch stands. -/
def State.feedStands (s : State) (f : Feed) : Bool := decide (s.feedLatch f ∈ [fTripped, fLatched, fRetired])

/-- The feed's latch is lifted: its health is judged afresh (R317). -/
def State.feedLift (s : State) (f : Feed) : State :=
  let s1 := s.wr FEED.FD_CAUSE f 0
  if s.rd FEED.FD_STATE f = fYielded then s1.modFeed f fun x => { x with held := 0 } else s1.wr FEED.FD_STATE f fAbsent

/-- SEL names the feed. -/
def State.selected (s : State) (f : Feed) : Bool := s.rd FEED.SEL 0 == f.val + 1

/-- The feed whose EN bit it is. -/
def enField (f : Feed) : Field := if f.val = 0 then FEED.EN_A else FEED.EN_B

/-- The feed that PREF names. -/
def State.prefFeed (s : State) : Feed := if s.on FEED.PREF 0 then 1 else 0

/-- A FEED event: port 0xFF on ring 5 (R328). -/
def State.feedEvent (s : State) (k : EvKind) (d4 d5 d6 : Nat) : State := s.event k 0xFF d4 d5 d6 0

/-- The state of a feed whose gate is off: READY when healthy, ABSENT otherwise; a yielded feed stays so. -/
def State.restFeed (s : State) (f : Feed) : State :=
  if s.feedStands f || s.rd FEED.FD_STATE f == fYielded then s
  else s.wr FEED.FD_STATE f (if s.on FEED.FD_HEALTHY f then fReady else fAbsent)

/-- The gate is pulled down and reads off. -/
def State.feedGateOff (s : State) (f : Feed) : State :=
  (((s.modFeed f fun x => { x with step := .none }).flag FEED.FD_GATE_ON f false).flag FEED.FD_GATE_OFF f true).flag
    FEED.FD_AT_LIMIT f false

/-- A planned opening of a feed. -/
def State.feedOpen (s : State) (f : Feed) : State :=
  let s1 := s.feedGateOff f
  (if s1.selected f then s1.wr FEED.SEL 0 0 else s1).restFeed f

/-! ## Starting a closure (R312 to R315) -/

/-- Loam holds every offer from the start of a switchover or insertion (R315). -/
def State.feedHold (s : State) (v : Bool) : State := ({ s with feeds := { s.feeds with holdFeed := v } } : State).reHold

/-- The feed may be chosen: it is healthy, and one whose current comparator is FAILED only while the other, watched, feed is
not healthy (R311, R324); with both comparators FAILED both stay usable, and FORCE is not held to this.
(DESIGN CHOICE, assumption 190) -/
def State.usable (s : State) (f : Feed) : Bool :=
  s.on FEED.FD_HEALTHY f
    && !(s.monFailed (.feedCur f) && s.on FEED.FD_HEALTHY (1 - f) && !s.monFailed (.feedCur (1 - f)))

/-- No closure of a feed may start while VCP is out (R323), or by a member that does not drive the gates (R461). -/
def State.mayInsert (s : State) (f : Feed) : Bool :=
  s.vcpReady && s.ownsPorts && s.on FEED.FD_HEALTHY f && s.on FEED.FD_GATE_OFF (1 - f)

/-- A switchover or an insertion of feed `f` begins, and makes it the selected feed (R312). -/
def State.beginSwitch (s : State) (f : Feed) (cause : Nat) (inserting : Bool) : State :=
  let s1 : State := { s with feeds := { s.feeds with
    cause := cause, busLow := s.rd ADC.BUS_SNS 0, inserting := inserting } }
  ((s1.wr FEED.SEL 0 (f.val + 1)).flag FEED.SWITCHING 0 true).feedHold true

/-- The gate of a feed is charged. -/
def State.chargeGate (s : State) (f : Feed) (step : FeedStep) : State :=
  ((s.modFeed f fun x => { x with step := step }).wr FEED.FD_STATE f fRamp).flag FEED.FD_GATE_OFF f false

/-- Hot insertion of a feed starts (R314): its current comparator is checked before step 1, unless that is FAILED already. -/
def State.insert (s : State) (f : Feed) (cause : Nat) : State :=
  if s.mayInsert f then
    let s1 := s.beginSwitch f cause true
    if s.monFailed (.feedCur f) then s1.chargeGate f .gate else s1.modFeed f fun x => { x with step := .check }
  else s

/-- A switchover to feed `f` starts (R313 step 1): the outgoing gate is pulled down, the incoming one charged. -/
def State.switchTo (s : State) (f : Feed) (cause : Nat) : State :=
  if !s.vcpReady || !s.ownsPorts then s
  else
    ((s.flag FEED.FD_GATE_ON (1 - f) false).beginSwitch f cause false).chargeGate f .charge

/-- The feed to insert when none is selected: PREF's if it is usable, otherwise the other (R312). -/
def State.bestFeed (s : State) : Option Feed :=
  let p := s.prefFeed
  if s.usable p then some p else if s.usable (1 - p) then some (1 - p) else none

/-- Both feeds open (R312). -/
def State.openBoth (s : State) : State := (s.feedOpen 0).feedOpen 1

/-- AUTO_RETURN is met: the PREF feed is usable while the other is selected (R312). -/
def State.returnsFeed (s : State) : Bool :=
  s.on FEED.AUTO_RET 0 && s.rd FEED.FORCE 0 == 0 && s.usable s.prefFeed && s.selected (1 - s.prefFeed)

/-- *Feed selection*: what the state of the feeds asks for now; an event during a switchover or insertion waits until
that ends (R312).  A selected feed that has lost health gives way to the other one also when that becomes healthy later.
(DESIGN CHOICE, assumption 191) -/
def State.select (s0 : State) (cause : Nat) : State :=
  let s : State := if s0.on FEED.SWITCHING 0 then s0 else { s0 with feeds := { s0.feeds with returnDue := false } }
  if s.on FEED.SWITCHING 0 then s
  else if s0.feeds.returnDue && s.returnsFeed then s.switchTo s.prefFeed 3
  else match s.rd FEED.FORCE 0 with
    | 0 =>
      if s.rd FEED.SEL 0 = 0 then
        match s.bestFeed with
        | some f => s.insert f cause
        | none => s
      else
        let f : Feed := if s.rd FEED.SEL 0 = 1 then 0 else 1
        if !s.usable f && s.usable (1 - f) then s.switchTo (1 - f) 1 else s
    | 3 => s.openBoth
    | n =>
      let f : Feed := if n = 1 then 0 else 1
      if s.selected f then s
      else if s.rd FEED.SEL 0 = 0 then s.insert f 4
      else if s.on FEED.FD_HEALTHY f then s.switchTo f 4
      else s

/-- A forced feed that trips or loses health sets FORCE back to 0 (R312). -/
def State.unforce (s : State) (f : Feed) : State :=
  if s.rd FEED.FORCE 0 = f.val + 1 then s.wr FEED.FORCE 0 0 else s

/-- The switchover or insertion is over. -/
def State.endSwitch (s : State) : State := s.flag FEED.SWITCHING 0 false

/-! ## Trips (R316, R317) -/

/-- Retire-class cause. -/
def feedRetires : FeedCause → Bool
  | .fetShorted | .fetDamaged => true
  | _ => false

/-- A feed trips.  `gateOff` tells whether its gate reads off: a gate that does not keeps the other feed from closing
(R313). -/
def State.feedTripped (s : State) (f : Feed) (c : FeedCause) (gateOff : Bool) (iFeed : Int) : State :=
  let ts := s.up :: recentTrips s.up (s.feed f).trips
  let old := s.rd FEED.FD_STATE f
  let new := if feedRetires c || old == fRetired then fRetired
    else if old == fLatched || decide (s.rd FEED.FD_RETRY_MAX f < ts.length) then fLatched else fTripped
  let closing := (s.feed f).step != .none
  let s1 := (s.feedGateOff f).flag FEED.FD_GATE_OFF f gateOff
  let s2 := ((s1.wr FEED.FD_STATE f new).wr FEED.FD_CAUSE f c.code).wr FEED.FD_RETRIES f (min 15 ts.length)
  let s3 := (s2.flag FEED.FD_HEALTHY f false).modFeed f fun x =>
    { x with trips := ts, retryRun := new == fTripped, retryElapsed := false }
  let s4 := ((s3.bump FEED.FEED_TRIP_CNT 0).eventSev EV.FEED_TRIP (if feedRetires c then 3 else 2) 0xFF (f.val + 1) c.code
    (wd iFeed) 0).irq FEED.page 0 FEED.IRQ_FEED_TRIP
  let s5 := if new = fLatched ∧ old ≠ fLatched then s4.irq FEED.page 0 FEED.IRQ_FEED_LATCHED
    else if new = fRetired ∧ old ≠ fRetired then
      { s4.irq FEED.page 0 FEED.IRQ_FEED_RETIRED with retiredFeeds := s4.retiredFeeds ||| BitVec.ofNat 2 (2 ^ f.val) }
    else s4
  let s6 := if s5.selected f then s5.wr FEED.SEL 0 0 else s5
  let s7 := if closing then s6.endSwitch else s6
  (s7.unforce f).select 2

/-- A trip, which a member that does not drive the gates has none of (R26, R461). -/
def State.feedTrip (s : State) (f : Feed) (c : FeedCause) (gateOff : Bool) (iFeed : Int) : State :=
  if s.rd FEED.FD_STATE f = fYielded then s else s.feedTripped f c gateOff iFeed

/-! ## Commands of FEED_CTL (R312, R317, R318) -/

/-- Staged curve point of the feeds; no staging word of them has a reserved bit set (R278). -/
def State.feedStage (s : State) (k : Nat) : Nat × Nat × Nat :=
  (s.rd FEED.FCURVE_STG_I k, s.rd FEED.FCURVE_STG_E k, s.rd FEED.FCURVE_STG_M k)

/-- COMMIT_A or COMMIT_B of the FEED page: the check of R278 on the staging words. -/
def State.feedCommit (s : State) (fi fe fm : Field) : State :=
  let pts := (List.range 8).map fun k => (k, s.feedStage k)
  if curveOk (pts.map (·.2)) && s.feeds.stgRsv == 0 then
    pts.foldl (fun t (k, i, e, m) => ((t.wr fi k i).wr fe k e).wr fm k m) s
  else (s.irq FEED.page 0 FEED.IRQ_CURVE_REJECT).errF FEED.COMMIT_A 0 stBAD_ARG

/-- FEED_COMMIT_A. -/
def execFeedCommitA (s : State) : Host.Outcome State Fault Refusal :=
  .next (s.feedCommit FEED.FCURVE_A_I FEED.FCURVE_A_E FEED.FCURVE_A_M)

/-- FEED_COMMIT_B. -/
def execFeedCommitB (s : State) : Host.Outcome State Fault Refusal :=
  .next (s.feedCommit FEED.FCURVE_B_I FEED.FCURVE_B_E FEED.FCURVE_B_M)

/-- A latch, or with REPAIRED a retirement, is cleared; health is then judged afresh (R317). -/
def State.feedClear (s : State) (f : Feed) (repaired : Bool) : State :=
  let st := s.feedLatch f
  if st = fLatched ∨ (st = fRetired ∧ repaired = true) then
    let s1 : State := { s with retiredFeeds := s.retiredFeeds &&& ~~~(BitVec.ofNat 2 (2 ^ f.val)) }
    (s1.feedLift f).flag FEED.FD_GATE_OFF f true
  else s

/-- CLEAR_A. -/
def execClearA (repaired : Bool) (s : State) : Host.Outcome State Fault Refusal := .next (s.feedClear 0 repaired)

/-- CLEAR_B. -/
def execClearB (repaired : Bool) (s : State) : Host.Outcome State Fault Refusal := .next (s.feedClear 1 repaired)

/-- FORCE is written: a value that names an unhealthy feed is refused (R312). -/
def State.feedForce (s : State) (v : Nat) : State :=
  if (v = 1 ∧ s.on FEED.FD_HEALTHY 0 = false) ∨ (v = 2 ∧ s.on FEED.FD_HEALTHY 1 = false) then
    s.errF FEED.FORCE 0 stDENIED
  else (s.wr FEED.FORCE 0 v).select 5

/-- FORCE: a write that names an unhealthy feed is ignored with DENIED (R312). -/
def execForceCmd (v : Fin 4) (s : State) : Host.Outcome State Fault Refusal := .next (s.feedForce v.val)

/-! ## Health (R311, R312) -/

/-- A feed gains health. -/
def State.gainHealth (s : State) (f : Feed) : State :=
  if s.on (enField f) 0 && !s.feedStands f then
    let s1 := (s.flag FEED.FD_HEALTHY f true).modFeed f fun x => { x with inWindow := true }
    if s1.on FEED.FD_GATE_OFF f then s1.restFeed f else s1
  else s

/-- FEED_HEALTHY: the feed, or with `both` each feed, has met R311 for INS_DEB. -/
def execFeedHealthy (f : Feed) (both : Bool) (s : State) : Host.Outcome State Fault Refusal :=
  .next (
    let s1 := s.gainHealth f
    (if both then s1.gainHealth (1 - f) else s1).select 5)

/-- A feed loses health by its window. -/
def State.loseHealth (s : State) (f : Feed) : State :=
  let s0 : State := if f = s.prefFeed then { s with feeds := { s.feeds with returnDue := false } } else s
  let s1 := (s0.flag FEED.FD_HEALTHY f false).modFeed f fun x => { x with inWindow := false }
  let s2 := if s1.on FEED.FD_GATE_OFF f then s1.restFeed f else s1
  (s2.unforce f).select 1

/-- FEED_WINDOW_LOSS: the first qualified crossing of either threshold of a feed's window. -/
def execFeedWindowLoss (f : Feed) (s : State) : Host.Outcome State Fault Refusal := .next (s.loseHealth f)

/-! ## Switchover and insertion (R313, R314) -/

/-- The feed that is being switched in or inserted. -/
def State.incoming (s : State) : Option Feed :=
  if s.on FEED.SWITCHING 0 then if s.rd FEED.SEL 0 = 1 then some 0 else if s.rd FEED.SEL 0 = 2 then some 1 else none
  else none

/-- SWITCHOVER: within GATE_RISE_TMAX of step 1 the outgoing gate reads off, or does not; and the incoming gate has met its
mark, or has not (R313). -/
def execSwitchover (outOff markMet : Bool) (s : State) : Host.Outcome State Fault Refusal :=
  .next (match s.incoming with
    | none => s
    | some f =>
      if (s.feed f).step ≠ .charge then s
      else if outOff = false then
        let s1 := ((s.feedGateOff f).endSwitch).wr FEED.SEL 0 0
        (s1.restFeed f).feedTrip (1 - f) .fetDamaged false (s.rdI FEED.FD_I_FEED (1 - f))
      else
        let s1 := (s.feedGateOff (1 - f)).restFeed (1 - f)
        if markMet = false then s1.feedTrip f .fetDamaged true (s.rdI FEED.FD_I_FEED f)
        else s1.modFeed f fun x => { x with step := .gap })

/-- GAP_EXPIRY: GAP elapsed with the incoming gate at its mark: the closure goes on at step 2 of *Hot insertion*. -/
def execGapExpiry (s : State) : Host.Outcome State Fault Refusal :=
  .next (match s.incoming with
    | none => s
    | some f => if (s.feed f).step = .gap then s.modFeed f fun x => { x with step := .ramp } else s)

/-- HOT_INSERTION: the closure of the incoming feed moves on (R314). -/
def execHotInsertion (e : InsertEv) (s : State) : Host.Outcome State Fault Refusal :=
  .next (match s.incoming with
    | none => s
    | some f =>
      let i := s.rdI FEED.FD_I_FEED f
      match (s.feed f).step, e with
      | .gate, .mark => s.modFeed f fun x => { x with step := .ramp }
      | .gate, .markMissed => s.feedTrip f .fetDamaged true i
      | .ramp, .busUp bus vin =>
        if vin ≤ bus + 1000 then (s.modFeed f fun x => { x with step := .enhance }).wr FEED.FD_STATE f fEnhance else s
      | .ramp, .rampOut => s.feedTrip f .rampFail true i
      | .enhance, .gateMissed => s.feedTrip f .fetDamaged true i
      | _, _ => s)

/-- FEED_ON: the gate reaches 7.0 V (R314 step 4). -/
def execFeedOn (s : State) : Host.Outcome State Fault Refusal :=
  .next (match s.incoming with
    | none => s
    | some f =>
      if (s.feed f).step ≠ .enhance then s
      else
        let s1 := ((s.modFeed f fun x => { x with step := .none }).wr FEED.FD_STATE f fOn).flag FEED.FD_GATE_ON f true
        let s2 := (s1.flag FEED.FD_AT_LIMIT f false).endSwitch
        let s3 := if s.feeds.inserting then s2.bump FEED.INSERT_CNT 0 else s2.bump FEED.SWITCH_CNT 0
        let s4 := (s3.feedEvent EV.FEED_SWITCH (f.val + 1) s.feeds.cause s.feeds.busLow).irq FEED.page 0 FEED.IRQ_SWITCH
        s4.select 1)

/-- The selected feed's P_MAX, in W (R141). -/
def State.pMax (s : State) : Nat :=
  match s.rd FEED.SEL 0 with
  | 1 => s.act BUDGET.PA_MAX 0
  | 2 => s.act BUDGET.PB_MAX 0
  | _ => 0

/-- OFFER_HOLD_RELEASE: the new feed has been in FEED_ON for 1 s: the hold ends and CAP is seeded (R315). -/
def execOfferHoldRelease (s : State) : Host.Outcome State Fault Refusal :=
  .next (
    if s.feeds.holdFeed = true ∧ s.on FEED.SWITCHING 0 = false ∧ s.rd FEED.SEL 0 ≠ 0 then
      (s.setCap (s.pMax * 10 ^ 6)).feedHold false
    else s)

/-- AUTO_RETURN: the PREF feed has been healthy for RET_T while the other is selected; during a switchover or insertion it waits
until that ends (R312). -/
def execAutoReturn (s : State) : Host.Outcome State Fault Refusal :=
  .next (
    if s.returnsFeed = false then s
    else if s.on FEED.SWITCHING 0 then { s with feeds := { s.feeds with returnDue := true } }
    else s.switchTo s.prefFeed 3)

/-! ## Breaker (R316, R317, R319) -/

/-- A cause of FEED_TRIP is met: the current comparator's at a feed current, in 100 mA units and known to half a unit, above
IFAST_TH (R290, R316). -/
def State.feedCauseMet (s : State) (f : Feed) (iFeed : Int) (c : FeedCause) : Bool :=
  c != .ifast || decide (s.rd FEED.FD_IFAST_TH f * 156250 < (iFeed.natAbs * 100 + 50) * s.rd FEED.FD_SHUNT f)

/-- FEED_TRIP: the causes met in one cycle, `iFeed` in 100 mA units; the one highest in the table is recorded. -/
def execFeedTrip (f : Feed) (c : FeedCause) (others : List FeedCause) (iFeed : Int) (s : State) :
    Host.Outcome State Fault Refusal :=
  .next (match (c :: others).filter (s.feedCauseMet f iFeed) with
    | [] => s
    | d :: l => s.feedTrip f (l.foldl (fun (m : FeedCause) x => if x.order < m.order then x else m) d) true iFeed)

/-- A Retry-class trip clears; the feed's health is judged afresh. -/
def State.feedRetry (s : State) (f : Feed) : State :=
  (s.modFeed f fun x => { x with retryRun := false, retryElapsed := false }).feedLift f

/-- FEED_RETRY_EXPIRY: RETRY_T has elapsed; CURVE waits until H is below 50 % (R316, R317). -/
def execFeedRetryExpiry (f : Feed) (s : State) : Host.Outcome State Fault Refusal :=
  .next (
    if s.feedLatch f ≠ fTripped then s
    else if s.rd FEED.FD_CAUSE f = FeedCause.curve.code ∧ 2 ^ 31 ≤ (s.feed f).heat then
      s.modFeed f fun x => { x with retryElapsed := true }
    else s.feedRetry f)

/-- FEED_REVERSE: the selected feed's current has stayed at or below −REV_TH for REV_T (R319); `iFeed` in 100 mA units. -/
def execFeedReverse (f : Feed) (iFeed : Int) (s : State) : Host.Outcome State Fault Refusal :=
  .next (
    if s.selected f = true ∧ iFeed ≤ -(10 * s.rd FEED.FD_REV_TH f : Int) then
      let s1 := if (s.feed f).step = .none then s else s.endSwitch
      let s2 := ((s1.flag FEED.FD_HEALTHY f false).feedOpen f).bump FEED.REVERSE_CNT 0
      ((s2.feedEvent EV.FEED_REVERSE (f.val + 1) (wd iFeed) 0).unforce f).select 1
    else s)

/-! ## Checks of IFAST and of the feeds' current comparators (R301, R303, R324) -/

/-- After a check of a feed's current comparator before its insertion: the gate is charged once it has passed; where it has
FAILED, only a feed with no better one goes on (R314, R324). -/
def State.insertionGoesOn (s : State) (f : Feed) : State :=
  if (s.feed f).step ≠ .check ∨ s.repeating (.feedCur f) = true then s
  else if s.monFailed (.feedCur f) && s.on FEED.FD_HEALTHY (1 - f) && !s.monFailed (.feedCur (1 - f)) then
    let s1 := ((s.modFeed f fun x => { x with step := .none }).endSwitch).wr FEED.SEL 0 0
    (s1.restFeed f).select s.feeds.cause
  else s.chargeGate f .gate

/-- After a check of a feed's current comparator. -/
def State.feedChecked (s : State) (m : Mon) : State :=
  match m with
  | .feedCur f => s.insertionGoesOn f
  | _ => s

/-- IFAST_CHECK: the four steps of a closure's or a planned opening's check. -/
def execIfastCheck (m : Mon) (zero pos neg below : Bool) (s : State) : Host.Outcome State Fault Refusal :=
  .next (if s.mayIfast m then (s.ifastResult m (ifastFails zero pos neg below)).feedChecked m else s)

/-- MON_FAILED: the repeat of a failed check has failed at a step (R303). -/
def execMonFailed (m : Mon) (step : Nat) (s : State) : Host.Outcome State Fault Refusal :=
  .next (if s.repeating m then ((s.checkFailed m step).afterCheck m).feedChecked m else s)

/-! ## The bus (R320 to R322, R324) -/

/-- A bus loss (R321). -/
def State.busLoss (s : State) (mv : Nat) : State :=
  let armed := s.on FEED.ARMED 0
  let s1 := ((s.flag FEED.BUS_LOSS 0 true).bump FEED.BUS_LOSS_CNT 0).irq FEED.page 0 FEED.IRQ_BUS_LOSS
  let s2 := s1.feedEvent EV.BUS_LOSS mv (if armed then 1 else 0) 0
  if armed then s2.bankFire
  else
    let s3 := ({ s2 with islRole := s2.role } : State).forPorts (allPorts.filter s2.isSrc) State.islandCeiling
    ({ s3 with feeds := { s3.feeds with holdBus := true } } : State).reHold

/-- A bus overvoltage (R322). -/
def State.busOv (s : State) (mv : Nat) : State :=
  let s1 := ((s.flag FEED.BUS_OV 0 true).bump FEED.BUS_OV_CNT 0).irq FEED.page 0 FEED.IRQ_BUS_OV
  let s2 : State := { s1 with supply := { s1.supply with busOvHold := true } }
  s2.feedEvent EV.BUS_OV mv 0 0

/-- Thresholds of the bus windows, mV. -/
def State.busHi (s : State) : Nat := 60 * monHi (s.rd FEED.BUS_MON_REF 0) (s.rd FEED.BUS_MON_WHI 0)
def State.busLo (s : State) : Nat := 60 * monLo (s.rd FEED.BUS_MON_REF 0) (s.rd FEED.BUS_MON_WLO 0)

/-- BUS_LOSS: BUS_SNS stands at `mv`, qualified, below the lower threshold of a watching window. -/
def execBusLoss (mv : Nat) (s : State) : Host.Outcome State Fault Refusal :=
  .next (if mv < s.busLo ∧ actsLo (s.rd FEED.BUS_MON_MODE 0) = true ∧ s.on FEED.BUS_LOSS 0 = false then s.busLoss mv else s)

/-- BUS_OV: BUS_SNS stands at `mv`, qualified, above the upper threshold. -/
def execBusOv (mv : Nat) (s : State) : Host.Outcome State Fault Refusal :=
  .next (if s.busHi < mv ∧ actsHi (s.rd FEED.BUS_MON_MODE 0) = true ∧ s.on FEED.BUS_OV 0 = false then s.busOv mv else s)

/-- BUS_OV_CLEARED: 1 ms after BUS_OV has cleared (R322). -/
def execBusOvCleared (s : State) : Host.Outcome State Fault Refusal :=
  .next { s.flag FEED.BUS_OV 0 false with supply := { s.supply with busOvHold := false } }

/-- BUS_RECOVERED: after a bus loss that did not fire the bus has been within its window for 1 s (R321); the ceilings it
brought are cleared with the hold. (DESIGN CHOICE, assumption 192) -/
def execBusRecovered (s : State) : Host.Outcome State Fault Refusal :=
  .next (
    let s1 := s.flag FEED.BUS_LOSS 0 false
    if s.feeds.holdBus then
      let s2 : State := { s1 with feeds := { s1.feeds with holdBus := false } }
      (if s.island.isNone then s2.forPorts allPorts State.islandClear else s2).reHold
    else s1)

/-! ## Supplies (R323, R533) -/

/-- VCP or VCONN_IN leaves its window, at `mv`. -/
def State.supplyLost (s : State) (x : Supply) (mv : Nat) : State :=
  let s1 := (s.bump FEED.SUPPLY_FAULT_CNT 0).irq FEED.page 0 FEED.IRQ_SUPPLY
  match x with
  | .vcp => ({ s1 with supply := { s1.supply with vcpOut := true } } : State).feedEvent EV.SUPPLY_FAULT 1 mv 0
  | .vconnIn =>
    let s2 : State := { s1 with supply := { s1.supply with vconnInOut := true } }
    (s2.forPorts (allPorts.filter fun p => s2.on CC.VCONN_ON p) State.vconnLost).feedEvent EV.SUPPLY_FAULT 2 mv 0

/-- `x` µV lies beyond an acting threshold of a window: its MODE, upper and lower code, live code. -/
def beyond (w : Nat × Nat × Nat × Nat) (step x : Nat) : Bool :=
  (actsHi w.1 && decide (w.2.1 * step < x)) || (actsLo w.1 && decide (x < w.2.2.1 * step))

/-- The monitor of a supply. -/
def supplyMon (x : Supply) : Mon := match x with | .vcp => .vcp | .vconnIn => .vconnIn

/-- A supply at a level, in µV, is out of its window (R290). -/
def State.supplyOut (s : State) (x : Supply) (uv : Nat) : Bool :=
  match s.windowOf (supplyMon x) with
  | some w => beyond w (monStepUv (supplyMon x)) uv
  | none => false

/-- SUPPLY_FAULT: VCP or VCONN_IN has left its window, at `mv`. -/
def execSupplyFault (x : Supply) (mv : Nat) (s : State) : Host.Outcome State Fault Refusal :=
  .next (if s.supplyOut x (mv * 1000) then s.supplyLost x mv else s)

/-- SUPPLY_RECOVERED: VCP back for 1 ms, VCONN_IN back for 10 ms. -/
def execSupplyRecovered (x : Supply) (s : State) : Host.Outcome State Fault Refusal :=
  .next (match x with
    | .vcp => ({ s with supply := { s.supply with vcpOut := false } } : State).select 5
    | .vconnIn => { s with supply := { s.supply with vconnInOut := false } })

/-! ## Housekeeping (R232) -/

/-- A feed's curve point: current in 100 mA units and time in µs. -/
def State.feedPoint (s : State) (f : Feed) (k : Nat) : CurvePoint :=
  if f.val = 0 then ⟨s.rd FEED.FCURVE_A_I k, s.rd FEED.FCURVE_A_M k * 2 ^ s.rd FEED.FCURVE_A_E k⟩
  else ⟨s.rd FEED.FCURVE_B_I k, s.rd FEED.FCURVE_B_M k * 2 ^ s.rd FEED.FCURVE_B_E k⟩

/-- One feed current sample, mA, 8 µs after the last: accumulator, linear limit and limit counter (R316). -/
def State.feedSample (s : State) (f : Feed) (ma : Int) : State :=
  let x := s.feed f
  let on := !s.on FEED.FD_GATE_OFF f
  let i := if on then ma.natAbs else 0
  let h := heatNext x.heat 3200 (s.rd FEED.FD_T_COOL f)
    (curveRate (i * 2 ^ 24 / 100) ((List.range 8).map (s.feedPoint f)))
  let at_ := x.step == .ramp && decide ((1000 * s.rd FEED.FD_ILIM f : Nat) ≤ ma.natAbs)
  let c := if at_ then x.limit + 8 else x.limit - 1
  let s0 := s.wr FEED.FD_RETRIES f (min 15 (recentTrips s.up x.trips).length)
  let s1 := ((s0.modFeed f fun x => { x with heat := h, limit := c }).wrSat FEED.FD_HEAT f (h / 2 ^ 16)).wrSat
    FEED.FD_LIMIT_CNT f c
  let s2 := s1.flag FEED.FD_AT_LIMIT f at_
  let dA := ratRound ma 100
  if on ∧ 2 ^ 32 ≤ h then s2.feedTrip f .curve true dA
  else if on ∧ at_ = true ∧ s.rd FEED.FD_LIM_T f * 1000 ≤ c then s2.feedTrip f .limit true dA
  else if x.retryElapsed ∧ s.feedLatch f = fTripped ∧ h < 2 ^ 31 then s2.feedRetry f
  else s2

/-- One BUS_SNS sample, mV: the live bits clear within the window, and with both windows FAILED the samples stand in for
them (R320, R324). -/
def State.busSample (s : State) (mv : Nat) : State :=
  let s0 : State := { s with feeds := { s.feeds with busLow := min s.feeds.busLow mv } }
  let s1 := if s.busLo ≤ mv then s0.flag FEED.BUS_LOSS 0 false else s0
  let s2 := if mv ≤ s.busHi then s1.flag FEED.BUS_OV 0 false else s1
  if s.monFailed .busA && s.monFailed .busB then
    let md := s.rd FEED.BUS_MON_MODE 0
    if mv < s.busLo ∧ actsLo md = true ∧ s.on FEED.BUS_LOSS 0 = false then s2.busLoss mv
    else if s.busHi < mv ∧ actsHi md = true ∧ s.on FEED.BUS_OV 0 = false then s2.busOv mv
    else s2
  else s2

/-- Housekeeping samples stand in for a window that is in check or FAILED (R300, R324). -/
def State.stoodIn (s : State) (m : Mon) : Bool := s.monFailed m || s.repeating m

/-- A feed voltage sample, mV, stands in for a feed window (R300, R324). -/
def State.feedStandIn (s : State) (f : Feed) (mv : Nat) : State :=
  match s.windowOf (.feed f) with
  | some w => if s.stoodIn (.feed f) && s.on FEED.FD_HEALTHY f && beyond w 60000 (mv * 1000) then s.loseHealth f else s
  | none => s

/-- A sample of a supply is kept, in µV (R232). -/
def State.keepSupply (s : State) (x : Supply) (uv : Nat) : State :=
  match x with
  | .vcp => { s with supply := { s.supply with vcp := uv } }
  | .vconnIn => { s with supply := { s.supply with vconnIn := uv } }

/-- A sample of VDD_CORE or VDDA is kept, in µV (R232). -/
def State.keepCore (s : State) (x : CoreRail) (uv : Nat) : State :=
  match x with
  | .vddCore => { s with supply := { s.supply with vddCore := uv } }
  | .vdda => { s with supply := { s.supply with vdda := uv } }

/-- A supply sample, in µV, stands in for the window of VCP or VCONN_IN (R300, R324, R327). -/
def State.supplyStandIn (s : State) (x : Supply) (uv : Nat) : State :=
  let out := match x with | .vcp => s.supply.vcpOut | .vconnIn => s.supply.vconnInOut
  if s.stoodIn (supplyMon x) && !out && s.supplyOut x uv then s.supplyLost x (uv / 1000) else s

/-- A sample of BUS_SNS, Q8.24 V, shows in HK_V and is what the loops read (R189, R232). -/
def State.busShow (s : State) (bq : Int) : State := { s.wr ADC.BUS_SNS 0 (milliU bq) with busV := bq }

/-- A frame's readings go into the ADC and FEED pages: feed inputs, feed currents in 100 mA units and temperatures. -/
def State.frameShow (s : State) (va vb : Nat) (ma mb : Int) (tDie tExt : Nat) : State :=
  let s2 := (((s.wr ADC.FA_VIN 0 va).wr ADC.FB_VIN 0 vb).wr FEED.FD_VIN 0 va).wr FEED.FD_VIN 1 vb
  let s3 := (s2.wr ADC.T_DIE 0 tDie).wr ADC.T_EXT 0 tExt
  let dA (x : Int) : Int := clampI (-32768) 32767 (ratRound x 100)
  (s3.wrI FEED.FD_I_FEED 0 (dA ma)).wrI FEED.FD_I_FEED 1 (dA mb)

/-- A frame's readings act in their order: the first bus sample, the feeds, the windows they stand in for, the second bus
sample. -/
def State.frameFeeds (s : State) (bus0 bus1 : Int) (va vb : Nat) (ma mb : Int) : State :=
  let s1 := (s.busShow bus0).busSample (milliU bus0)
  let s2 := (((s1.feedSample 0 ma).feedSample 1 mb).feedStandIn 0 va).feedStandIn 1 vb
  (s2.busShow bus1).busSample (milliU bus1)

/-- The supplies sampled in a frame: each is kept, and stands in for its window once that has FAILED. -/
def State.frameRails (s : State) (r : RailRead) : State :=
  let s1 := r.supplies.foldl (fun (t : State) (x : Supply × Nat) => (t.keepSupply x.1 x.2).supplyStandIn x.1 x.2) s
  r.cores.foldl (fun (t : State) (x : CoreRail × Nat) => t.keepCore x.1 x.2) s1

/-- A VCONN current of a frame, in mA, counts towards the tick's mean (R67). -/
def State.addMa (s : State) (p : Port) (ma : Nat) : State :=
  s.cc p fun c => { c with maSum := c.maSum + ma, maN := c.maN + 1 }

/-- The VCONN currents of a frame. -/
def State.frameVconn (s : State) (l : List (Port × Nat)) : State :=
  l.foldl (fun (t : State) (x : Port × Nat) => t.addMa x.1 x.2) s

/-- HOUSEKEEPING_FRAME: the two codes of BUS_SNS, 4 µs apart, those of FA_VIN, FB_VIN and the two feed currents, the die and
external temperatures in 0.1 °C, and from the rotating slots the VCONN currents in mA and the supplies in µV. -/
def execHousekeepingFrame (bus : BusRead) (fa fb : BitVec 12) (ia ib : BitVec 12) (tDie tExt : BitVec 16)
    (rails : RailRead) (s : State) : Host.Outcome State Fault Refusal :=
  .next (
    let k := s.rd ADC.HK_ADC 0
    let bq := s.voltQ k bus.now.toNat
    let va := milliU (s.voltQ k fa.toNat)
    let vb := milliU (s.voltQ k fb.toNat)
    let ma := s.feedMa k 0 ia.toInt
    let mb := s.feedMa k 1 ib.toInt
    let s1 := s.frameShow va vb ma mb tDie.toNat tExt.toNat
    ((s1.frameFeeds (s.voltQ k bus.before.toNat) bq va vb ma mb).frameRails rails).frameVconn rails.vconn)

end Sys2Proof.Machine
end

