-- ==== Sys2Proof/Machine/Words.lean ====
section
/-! DEFINITION. The register space as words (chapter 17): which page and register an address names, whether it is mapped,
what a word reads, with the registers whose value other state gives, the pins IRQ_N and FAULT_N, and the status word. -/

namespace Sys2Proof.Machine

/-! ## Addresses (R420, R421) -/

/-- The page of an address: its type, its instance, and the offset in the page. -/
def pageOf (a : Nat) : Option (Nat × Nat × Nat) :=
  if a < 0x5800 then some (a / 0x400, 0, a % 0x400)
  else if 0x10000 ≤ a ∧ a < 0x30000 then
    some (0x100 + a % 0x1000 / 0x400, (a - 0x10000) / 0x1000, a % 0x400)
  else none

/-- The base address of a page. -/
def pageBase (pg inst : Nat) : Nat := if pg < 0x100 then pg * 0x400 else 0x10000 + inst * 0x1000 + (pg - 0x100) * 0x400

/-- The stored fields of a page type. -/
def pageFields (pg : Nat) : List Field :=
  if pg = 0x100 then CC.fields else if pg = 0x101 then PD.fields else if pg = 0x102 then LOOP.fields
  else if pg = 0x103 then GUARD.fields
  else [SYS.fields, CLK.fields, RST.fields, OTP.fields, BOOT.fields, MBX.fields, RING.fields, HSPI.fields, SMB.fields,
    WEFT.fields, TIME.fields, PAIR.fields, LEDGER.fields, FEED.fields, ADC.fields, BUDGET.fields, TEST.fields,
    CHALK.fields, CORE.fields, IRQ.fields, MARL.fields, PWM.fields].getD pg []

/-- The instance that a field has in the register at offset `off` of a page: none when it is not there. -/
def Field.instAt (F : Field) (pg inst off : Nat) : Option Nat :=
  if F.stride = 0 then (if off = F.off then some inst else none)
  else if F.off ≤ off ∧ (off - F.off) % F.stride = 0 ∧ (off - F.off) / F.stride < F.count then
    some (if pg < 0x100 then (off - F.off) / F.stride else pidx inst ((off - F.off) / F.stride))
  else none

/-- Registers named in a page's tables that hold no stored field: first and last offset. -/
def namedRanges (pg : Nat) : List (Nat × Nat) :=
  if pg = 5 then [(0x40, 0x4C), (0x60, 0x7C), (0x80, 0xFC), (0x100, 0x17C)]
  else if pg = 6 then [(0x48, 0x4C), (0x80, 0x11C)]
  else if pg = 7 then [(0x50, 0x50)]
  else if pg = 9 then [(0x54, 0x54)]
  else if pg = 0xB then [(0x4C, 0x4C)]
  else if pg = 0xA then [(0x48, 0x4C)]
  else if pg = 0xD then [(0x60, 0x60)]
  else if pg = 0xF then [(0x64, 0x7C)]
  else if pg = 0x13 then [(0x40, 0x54)]
  else if pg = 0x101 then [(0x50, 0x50)]
  else []

/-- The register at offset `off` is named in the page's tables. -/
def namedReg (pg off : Nat) : Bool :=
  (pageFields pg).any (fun F => (F.instAt pg 0 off).isSome)
    || (namedRanges pg).any fun r => decide (r.1 ≤ off ∧ off ≤ r.2)

/-- Offsets of *Compatibility window*. -/
def windowMapped (o : Nat) : Bool :=
  decide (o ∈ [0x000, 0x004, 0x008, 0x00C])
    || (decide (0x100 ≤ o ∧ o < 0x900) && decide (o % 0x100 ∈ [0x00, 0x04, 0x08, 0x0C, 0x10, 0x14, 0x18, 0x1C]))

/-- The address, a multiple of 4, is mapped (R421). -/
def addrMapped (a : Nat) : Bool :=
  match pageOf a with
  | some (pg, _, off) => decide (off < 0x40 ∨ 0x200 ≤ off) || namedReg pg off
  | none => decide (0x30000 ≤ a ∧ a < 0x31000) && windowMapped (a - 0x30000)

/-! ## Pins and status (R325, R389, R394, R400, R427) -/

/-- DEV_STATE (R389). -/
def DevState.code : DevState → Nat
  | .boot => 0 | .run => 1 | .watch => 2 | .waking => 3 | .warmReset => 4 | .recovery => 5 | .safe => 6

/-- DEV_STATE reads WARM_RESET while a warm reset runs into SAFE as well (R538). -/
def State.devCode (s : State) : Nat := s.dev.code

/-- Bits of a list of flags, the first lowest. -/
def bitsOf : List Bool → Nat
  | [] => 0
  | b :: t => (if b then 1 else 0) + 2 * bitsOf t

/-- A page's summary: IRQ_STAT AND IRQ_EN (R426). The IRQ page has none. -/
def State.summary (s : State) (pg inst : Nat) : Bool :=
  pg != 0x13 && (s.rd (IRQ_STAT pg) inst &&& s.rd (IRQ_EN pg) inst) != 0

/-- SYS_SUM, and the summaries of one type of port page. -/
def State.sysSum (s : State) : Nat := bitsOf ((List.range 22).map fun t => s.summary t 0)
def State.portSum (s : State) (pg : Nat) : Nat := bitsOf (allPorts.map fun p => s.summary pg p)

/-- IRQ_N is asserted (R427). (DEDUCED, assumption 31) -/
def State.irqN (s : State) : Bool :=
  (s.sysSum &&& s.rd IRQ.SYS_MASK 0) != 0 || (s.portSum 0x100 &&& s.rd IRQ.CC_MASK 0) != 0
    || (s.portSum 0x101 &&& s.rd IRQ.PD_MASK 0) != 0 || (s.portSum 0x102 &&& s.rd IRQ.LOOP_MASK 0) != 0
    || (s.portSum 0x103 &&& s.rd IRQ.GUARD_MASK 0) != 0

/-- A monitor of a port is marked FAILED. -/
def State.portMonFailed (s : State) (p : Port) : Bool :=
  s.on GUARD.A_FAILED p || s.on GUARD.B_FAILED p || s.on GUARD.C_FAILED p || s.on GUARD.IFAST_FAILED p

/-- FAULT_STAT.CAUSES (R327, R286). -/
def State.faultCauses (s : State) : Nat :=
  bitsOf [allPorts.any fun p => s.gst p == gLatched || s.gst p == gRetired,
    [0, 1].any fun f => s.rd FEED.FD_STATE f == fLatched,
    [0, 1].any fun f => s.rd FEED.FD_STATE f == fRetired,
    (s.on FEED.EN_A 0 || s.on FEED.EN_B 0) && !([0, 1].any fun f => s.rd FEED.FD_STATE f == fOn),
    s.on FEED.BUS_OV 0, s.supply.vcpOut || s.supply.vconnInOut,
    s.chipFailed != 0 || allPorts.any s.portMonFailed, s.on FEED.BUS_DEGRADED 0]

/-- FAULT_N is asserted: on a standby only MON_FAILED and SUPPLY drive it (R325). -/
def State.faultN (s : State) : Bool :=
  let c := s.faultCauses - (s.faultCauses &&& (s.rd FEED.MASK 0 * 8))
  (if s.standby then c &&& 0x60 else c) != 0

/-- Some event ring holds a record. -/
def State.hasEvents (s : State) : Bool :=
  (List.finRange 40).any fun q => decide (q.val = 5 ∨ q.val = 6 ∨ 8 ≤ q.val) && !(s.ring q).entries.isEmpty

/-- The SPI status word (R389). -/
def State.statusWord (s : State) : Nat :=
  s.devCode * 2 ^ 28 + s.rd HSPI.LAST_ERR 0 * 2 ^ 16 + s.rd RING.EPOCH 0 % 256
    + bitsOf [s.on HSPI.CRC_EN 0, s.stop != 0, !(s.ring 7).entries.isEmpty, s.hasEvents, !(s.ring 4).entries.isEmpty] * 2 ^ 11
    + bitsOf [s.on HSPI.ERR 0, s.faultN, s.irqN, s.on SYS.READY 0] * 2 ^ 24

/-- DEV_STATUS of SMBus (R400). -/
def State.devStatus (s : State) : Nat :=
  s.rd RING.EPOCH 0 % 16 + s.devCode * 2 ^ 12
    + bitsOf [s.on SMB.ERR 0, !(s.ring 7).entries.isEmpty, s.hasEvents, !(s.ring 4).entries.isEmpty, s.stop != 0,
        s.faultN, s.irqN, s.on SYS.READY 0] * 2 ^ 4

/-! ## Reading words -/

/-- The stored fields at an offset, over a table: WO fields read 0 (R10). -/
def wordOf (t : RegTable) (pg inst off : Nat) : Nat :=
  ((pageFields pg).map fun F =>
    match F.instAt pg inst off with
    | some i => if F.access = .wo then 0 else t.get (F.key i) (F.reset.at i) * 2 ^ F.lo
    | none => 0).sum

/-- The bank that 0x300 to 0x3FF present (R452). -/
def State.shownBank (s : State) : Nat := if s.on TIME.VIEW_AUTO 0 then s.rd TIME.NEWER 0 else s.rd TIME.VIEW 0

/-- A shadow bank. -/
def State.bank (s : State) (b : Nat) : Bank := if b = 0 then s.snap.banks.get 0 else s.snap.banks.get 1

/-- A page's key in a bank. -/
def pageKey (pg inst : Nat) : Nat := pg * 64 + inst

/-- SNAP_INFO of a page (R422). -/
def State.snapInfo (s : State) (pg inst : Nat) : Nat :=
  let b := s.shownBank
  b * 2 ^ 23 + (match (s.bank b).ids.lookup (pageKey pg inst) with
    | some id => 2 ^ 22 + id % 2 ^ 22
    | none => 0)

/-- Number of Weft links in UP. -/
def State.linksUp (s : State) : Nat :=
  (if s.rd WEFT.W0_STATE 0 = lkUp then 1 else 0) + (if s.rd WEFT.W1_STATE 0 = lkUp then 1 else 0)

/-- PAGE_STAT.STATE of a page, as its chapter gives it; 0 where the chapter gives none (DEDUCED, assumption 30).  MARL reads 0x01
while one engine has FAILED and the other serves only its own ports. (DESIGN CHOICE, assumption 195) -/
def State.pageState (s : State) (pg inst : Nat) : Nat :=
  let p : Port := Fin.ofNat 32 inst
  match pg with
  | 0x0 | 0x2 | 0x7 => s.devCode
  | 0x1 =>
    if s.dev = .safe ∧ s.rd RST.SAFE_CAUSE 0 = 1 then 3 else if s.on CLK.GUARD_RC 0 then 2
    else if s.on CLK.CORE_LOCK 0 && s.on CLK.PWM_LOCK 0 then 1 else 0
  | 0x4 => s.rd BOOT.STATE 0
  | 0x8 => if s.smb.recover then 3 else if s.smb.notifying then 2 else 0
  | 0x9 => s.linksUp
  | 0xA => s.rd TIME.STATE 0
  | 0xB => s.rd PAIR.PAIR_STATE 0
  | 0xC => if s.on LEDGER.FLASH_FAULT 0 then 3 else if s.on LEDGER.COMPACTING 0 then 2 else 1
  | 0xD => if s.on FEED.SWITCHING 0 then 3 else s.rd FEED.SEL 0
  | 0xE => if s.on ADC.ROT_LOST 0 then 2 else if s.on ADC.ROT_EN 0 then 1 else 0
  | 0xF => if s.on BUDGET.HOLD 0 then 2 else 1
  | 0x10 => s.rd TEST.STATE 0
  | 0x11 => if s.rd CORE.STATE 11 = 4 then 2 else 1
  | 0x12 => ((List.range 12).filter fun e => s.rd CORE.STATE e == 2 || s.rd CORE.STATE e == 3).length
  | 0x14 =>
    if s.rd MARL.ENG0_STATE 0 ≠ 1 ∧ s.rd MARL.ENG1_STATE 0 ≠ 1 then 3 else if s.on MARL.SINGLE 0 then 2 else 1
  | 0x15 => s.rd PWM.DRV_EN 0
  | 0x100 => s.tc p
  | 0x101 => s.rd PD.PD_STATE p
  | 0x102 => if s.running p then s.rd LOOP.MODE p else 0
  | 0x103 => s.gst p
  | _ => 0

/-- PAGE_STAT.FAULT: a latched fault of the block stands. (DEDUCED, assumption 30) -/
def State.pageFault (s : State) (pg inst : Nat) : Bool :=
  let p : Port := Fin.ofNat 32 inst
  match pg with
  | 0x3 => [OTP.REG_FACTORY_ID, OTP.REG_TRIM, OTP.REG_KEYS, OTP.REG_CONFIG, OTP.REG_CUSTOMER].any (fun F => s.rd F 0 == 3)
      || s.on OTP.COUNTERS_FAIL 0
  | 0x7 => s.on HSPI.ERR 0
  | 0x8 => s.on SMB.ERR 0
  | 0xC => s.on LEDGER.FLASH_FAULT 0
  | 0xD => [0, 1].any fun f => decide (s.rd FEED.FD_STATE f ∈ [fTripped, fLatched, fRetired])
  | 0xE => s.on ADC.FAILED 0
  | 0x11 => s.on CHALK.FORCED 0
  | 0x14 => s.on MARL.FAULT 0
  | 0x100 => s.on CC.CC_OVP p
  | 0x103 => s.tripStands p
  | _ => false

/-- PAGE_STAT.READY: the compute and link pages are served with READY, the others always. (DEDUCED, assumption 30) -/
def State.pageReady (s : State) (pg : Nat) : Bool :=
  s.on SYS.READY 0 || decide (pg ∈ [1, 2, 3, 8, 0xA, 0xD, 0xE, 0x11, 0x14, 0x15, 0x102, 0x103])

/-- The common registers (R422). -/
def State.commonWord (s : State) (pg inst off : Nat) : Nat :=
  if off = 0x000 then pg * 2 ^ 16 + inst * 2 ^ 8 + 1
  else if off = 0x004 then s.rd (EN pg) inst + 4 * s.rd (LOCK pg) inst + 8 * s.rd (SNAP_EXCLUDE pg) inst
  else if off = 0x008 then
    s.pageState pg inst * 2 ^ 8 + bitsOf [s.pageReady pg, false, s.pageFault pg inst]
  else if off = 0x00C then s.rd (IRQ_RAW pg) inst
  else if off = 0x010 then s.rd (IRQ_EN pg) inst
  else if off = 0x014 then s.rd (IRQ_STAT pg) inst
  else if off = 0x01C then
    s.rd (ERR_SEQ pg) inst * 2 ^ 24 + s.rd (ERR_CODE pg) inst * 2 ^ 16 + s.rd (ERR_OFFSET pg) inst * 16
  else if off = 0x020 then s.snapInfo pg inst
  else 0

/-- Bit `k` onward of 32 mailboxes' flags. -/
def State.boxBits (s : State) (hi : Bool) (f : Mbox → Bool) : Nat :=
  bitsOf ((List.range 32).map fun k => f (s.mbox.get (Fin.ofNat 64 (k + if hi then 32 else 0))))

/-- Registers of the MBX page (R378). Words 1 to 7 of a host mailbox come from its holding buffer; word 0 shows the message
that a read would take. -/
def State.mbxWord (s : State) (off : Nat) : Nat :=
  if off = 0x40 ∨ off = 0x44 then s.boxBits (off == 0x44) (·.full)
  else if off = 0x48 ∨ off = 0x4C then s.boxBits (off == 0x4C) (·.collide)
  else if 0x60 ≤ off ∧ off < 0x80 then
    ((List.range 8).map fun j => (s.mbox.get (Fin.ofNat 64 (8 * ((off - 0x60) / 4) + j))).lost * 2 ^ (4 * j)).sum
  else if 0x80 ≤ off ∧ off < 0x100 then
    let b := s.mbox.get (Fin.ofNat 64 (48 + (off - 0x80) / 32))
    let w := (off - 0x80) % 32 / 4
    if w = 0 then (if b.full then (b.words.getD 0 0).toNat else 0) else (b.hold.getD w 0).toNat
  else if 0x100 ≤ off ∧ off < 0x180 then
    let n := (s.notice.get (Fin.ofNat 16 ((off - 0x100) / 8))).toNat
    if (off - 0x100) % 8 = 0 then n % 2 ^ 32 else n / 2 ^ 32
  else 0

/-- MIRROR_AGE.MAX_AGE (R484): age of the oldest LOOP group, µs; the largest value before every group has come. -/
def State.mirrorAge (s : State) : Nat :=
  [0, 1, 2, 3].foldl (fun m g => match s.pair.groupAt.get (Fin.ofNat 4 g) with
    | some t => max m (min 65535 ((s.up - t) / 1000))
    | none => if s.rd PAIR.PAIR_STATE 0 = psStandby then 65535 else m) 0

/-- Values that other state gives, to be added to the stored fields of the register. -/
def State.viewWord (s : State) (pg inst off : Nat) : Nat :=
  let p : Port := Fin.ofNat 32 inst
  if pg = 5 then s.mbxWord off
  else if pg = 6 then
    if off = 0x48 then bitsOf ((List.range 32).map fun q => !(s.ring (Fin.ofNat 40 q)).entries.isEmpty)
    else if off = 0x4C then bitsOf ((List.range 8).map fun q => !(s.ring (Fin.ofNat 40 (32 + q))).entries.isEmpty)
    else if 0x80 ≤ off ∧ off < 0x120 then
      let r := s.ring (Fin.ofNat 40 ((off - 0x80) / 4))
      r.occ * 2 ^ 20 + (if r.throttle then 16 else 0) + r.coalS
    else 0
  else if pg = 0 ∧ off = 0x58 then s.devCode * 2 ^ 28
  else if pg = 2 ∧ off = 0x50 then s.devCode * 2 ^ 28
  else if pg = 7 ∧ off = 0x50 then s.statusWord
  else if pg = 9 ∧ off = 0x54 then (s.weft.asm.filter fun x => x.kind == 0).length
  else if pg = 0xA ∧ off = 0x48 then s.time % 2 ^ 32
  else if pg = 0xA ∧ off = 0x4C then s.tim.hi
  else if pg = 0xA ∧ off = 0x68 then s.snap.pend.length * 2 ^ 8
  else if pg = 0xB ∧ off = 0x4C then s.mirrorAge * 2 ^ 16
  else if pg = 0xD ∧ off = 0x5C then s.rd FEED.FD_STATE 0 * 2 ^ 8 + s.rd FEED.FD_STATE 1 * 2 ^ 12
  else if pg = 0xD ∧ off = 0x60 then s.faultCauses
  else if pg = 0xF ∧ 0x80 ≤ off ∧ off < 0x100 then s.rd BUDGET.VALID ((off - 0x80) / 4) * 2 ^ 15
  else if pg = 0x13 then
    (if off = 0x40 then s.sysSum else if off = 0x44 then s.portSum 0x100 else if off = 0x48 then s.portSum 0x101
    else if off = 0x4C then s.portSum 0x102 else if off = 0x50 then s.portSum 0x103
    else if off = 0x54 then s.portSum 0x100 ||| s.portSum 0x101 ||| s.portSum 0x102 ||| s.portSum 0x103 else 0)
  else if pg = 0x101 ∧ off = 0x50 then
    let rx := (s.port p).phy.rx
    (rx.filter fun x => !x.long).length + (if rx.any (·.long) then 8 else 0)
  else 0

/-- The word at offset `off` of a page, as a read returns it. -/
def State.pageWord (s : State) (pg inst off : Nat) : Nat :=
  if off < 0x40 then s.commonWord pg inst off
  else if 0x300 ≤ off then wordOf (s.bank s.shownBank).data pg inst (off - 0x100)
  else wordOf s.regs pg inst off + s.viewWord pg inst off

/-! ## The compatibility window (R431) -/

/-- Contract of a port, mV and mA: 0 without an explicit contract. -/
def State.contractNow (s : State) (p : Port) : Nat × Nat :=
  match (s.port p).pe.contract with
  | some c => (c.mv, c.ma)
  | none => (0, 0)

/-- The window's word at an offset. (DEDUCED, assumption 31) -/
def State.windowWord (s : State) (o : Nat) : Nat :=
  let ps : List Port := allPorts.filter fun q => q.val < 8
  if o = 0x000 then 0x32480820
  else if o = 0x004 then
    bitsOf (ps.map fun q => s.on CC.ATTACHED q) + 2 ^ 8 * bitsOf (ps.map s.tripStands)
  else if o = 0x008 then
    (s.portSum 0x100 ||| s.portSum 0x101 ||| s.portSum 0x102 ||| s.portSum 0x103) % 256
  else if o = 0x00C then
    (s.rd IRQ.CC_MASK 0 &&& s.rd IRQ.PD_MASK 0 &&& s.rd IRQ.LOOP_MASK 0 &&& s.rd IRQ.GUARD_MASK 0) % 256
  else if o < 0x100 then 0
  else
    let p : Port := Fin.ofNat 32 (o / 0x100 - 1)
    let f := (s.port p).nextProfile.getD (s.port p).profile
    match o % 0x100 with
    | 0x00 => bitsOf [s.enabled p] + 2 * s.rd CC.ROLE p + (if f.pps then 8 else 0)
    | 0x04 => bitsOf [s.on CC.ATTACHED p, s.explicit p] + 4 * s.rd CC.PWR_ROLE p + 2 ^ 8 * s.tc p
    | 0x08 => f.fixedMask % 8
    | 0x0C => f.imax
    | 0x10 => (s.contractNow p).1 / 10 + 2 ^ 16 * ((s.contractNow p).2 / 10)
    | 0x14 => s.rd LOOP.VBUS p
    | 0x18 => s.rd LOOP.I_AVG p
    | 0x1C =>
      bitsOf [decide (s.rd GUARD.CAUSE p ∈ [1, 2, 3, 4]), decide (s.rd GUARD.CAUSE p = 8), s.on CC.CC_OVP p]
    | _ => 0

/-- The word at an address, 0 where nothing is mapped. -/
def State.wordAt (s : State) (a : Nat) : Nat :=
  if !addrMapped a then 0
  else match pageOf a with
    | some (pg, inst, off) => s.pageWord pg inst off
    | none => s.windowWord (a - 0x30000)

/-- A read of TIME_LO latches the matching TIME_HI (R457). -/
def State.latchTime (s : State) : State := { s with tim := { s.tim with hi := s.time / 2 ^ 32 % 2 ^ 32 } }

/-- A host's read of one word: what it returns, and its side effects (R351, R457). (DESIGN CHOICE, assumption 125) -/
def State.hostRead (s : State) (a : Nat) : Nat × State :=
  let v := s.wordAt a
  if a = 0x2848 then (v, s.latchTime)
  else if 0x1480 ≤ a ∧ a < 0x1500 ∧ (a - 0x1480) % 32 = 0 then
    let m : Fin 64 := Fin.ofNat 64 (48 + (a - 0x1480) / 32)
    let b := s.mbox.get m
    (v, if b.full then { s with mbox := s.mbox.set m { b with hold := b.words, full := false } m.isLt } else s)
  else (v, s)

/-- TIME_LO_READ. -/
def execTimeLoRead (s : State) : Host.Outcome State Fault Refusal := .next s.latchTime

end Sys2Proof.Machine
end

