-- ==== Sys2Proof/Machine/Snap.lean ====
section
/-! DEFINITION. Snapshots and the time commands (R448 to R455): requests, boundaries, the two shadow banks, SNAPSHOT,
READ_SNAP, TIME_SET and TIME_GET. -/

namespace Sys2Proof.Machine

/-! ## Boundaries -/

/-- Distance of boundaries, ns (R449). -/
def State.grid (s : State) : Nat := max 1 (s.rd TIME.SNAP_GRID 0) * 10000

/-- The first boundary at or after `t`. -/
def State.boundary (s : State) (t : Nat) : Nat := cdiv t s.grid * s.grid

/-- Change the snapshot record. -/
def State.snapRec (s : State) (f : SnapSt → SnapSt) : State := { s with snap := f s.snap }

/-- Two requests for one boundary merge: the scheduled ID goes before the first one (R450). (DEDUCED, assumption 34) -/
def SnapReq.merge (x r : SnapReq) : SnapReq :=
  { x with
    id := if r.sched && !x.sched then r.id else x.id, sched := x.sched || r.sched, flags := x.flags ||| r.flags
    waiters := x.waiters ++ r.waiters }

/-- Add a request to those pending, merging on its boundary. -/
def addReq (r : SnapReq) : List SnapReq → List SnapReq
  | [] => [r]
  | x :: t => if x.at_ = r.at_ then x.merge r :: t else x :: addReq r t

/-- A request is taken; none when it would make a fifth pending boundary (R450). -/
def State.addSnap (s : State) (r : SnapReq) : Option State :=
  let l := addReq r s.snap.pend
  if 4 < l.length then none else some (s.snapRec fun x => { x with pend := l })

/-- A local request at this moment, with its waiting commands (R449, R450). (DEDUCED, assumption 34) -/
def State.snapLocal (s : State) (w : List Packet) : Option State :=
  (s.addSnap ⟨s.boundary s.time, 2 ^ 31 + (s.snap.count + 1) % 2 ^ 31, false, 0, w⟩).map fun t =>
    t.snapRec fun x => { x with count := x.count + 1 }

/-- A scheduled request (R453): LATE when its boundary has passed. -/
def State.snapAt (s : State) (t id : Nat) : Option State :=
  if s.boundary t < s.time then
    (s.addSnap ⟨s.boundary s.time, id, true, 1, []⟩).map fun u => u.bump TIME.SNAP_LATE_CNT 0
  else s.addSnap ⟨s.boundary t, id, true, 0, []⟩

/-- A request refused for want of room: its commands get NO_SPACE, a register request records it. -/
def State.snapFull (s : State) (w : List (Option Packet)) : State :=
  w.foldl (fun t k => match k with
    | some k => t.answer k stNO_SPACE
    | none => t.errF TIME.REQ 0 stNO_SPACE) s

/-- A request that is not scheduled, by a register or a command: with PIN_DRIVE it waits for the pin (R454). -/
def State.snapRequest (s : State) (k : Option Packet) : State :=
  if s.on TIME.PIN_DRIVE 0 then s.snapRec fun x => { x with drive := x.drive ++ [k] }
  else match s.snapLocal k.toList with
    | some t => t
    | none => s.snapFull [k]

/-- REQ: SNAP_CTL.REQ is written 1. -/
def execReq (s : State) : Host.Outcome State Fault Refusal := .next (s.snapRequest none)

/-- SNAP_PIN_EDGE: SNAP falls and stays low for `lowNs`. (DEDUCED, assumption 36) -/
def execSnapPinEdge (lowNs : Nat) (s : State) : Host.Outcome State Fault Refusal :=
  .next (
    if lowNs < 50 || !s.on TIME.PIN_IN_EN 0 then s
    else
      let s1 := s.wakeBy 4
      (s1.snapLocal []).getD s1)

/-- Device time runs on to `t` when `t` lies ahead: an event that names its instant. (DESIGN CHOICE, assumption 32) -/
def State.runTo (s : State) (t : Nat) : State := { s with time := max s.time t, up := s.up + (t - s.time) }

/-- SNAP_PIN_DRIVE: halfway between two boundaries the device pulls SNAP low and takes its own request from that edge.
(DESIGN CHOICE, assumption 32; DEDUCED, assumption 36) -/
def execSnapPinDrive (s : State) : Host.Outcome State Fault Refusal :=
  .next (
    if s.snap.drive.isEmpty then s
    else
      let g := s.grid
      let s1 := (s.runTo (cdiv (s.time + g - g / 2) g * g - (g - g / 2))).snapRec fun x => { x with drive := [] }
      match s1.snapLocal (s.snap.drive.filterMap id) with
      | some t => t
      | none => s1.snapFull s.snap.drive)

/-! ## Latching (R451, R452) -/

/-- Every page of the map: type and instance. -/
def allPages : List (Nat × Nat) :=
  (List.range 22).map (fun t => (t, 0)) ++ [0x100, 0x101, 0x102, 0x103].flatMap fun t => (List.range 32).map fun i => (t, i)

/-- A page of the compute or the link domain. -/
def computePage (pg : Nat) : Bool := !decide (pg ∈ [1, 2, 3, 8, 0xA, 0xD, 0xE, 0x11, 0x14, 0x15, 0x102, 0x103])

/-- The page is latched at a boundary. -/
def State.latches (s : State) (pg inst : Nat) : Bool :=
  !s.on (SNAP_EXCLUDE pg) inst && !(decide (s.dev = .warmReset) && computePage pg)

/-- Page and instance of a stored field's key. -/
def keyPage (k : Nat) : Nat × Nat := let pg := k / 2 ^ 25; (pg, if pg < 0x100 then 0 else k % 1024)

/-- The key is a counter's: offsets 0x200 to 0x2FF. -/
def isCounter (k : Nat) : Bool := k / 2 ^ 15 % 1024 / 256 == 2

/-- A bank loaded at a boundary: counters of the pages latched, and what it held of the others. -/
def State.loadBank (s : State) (b : Bank) (id : Nat) : Bank :=
  let old := b.data.filter fun e => !s.latches (keyPage e.1).1 (keyPage e.1).2
  let new := s.regs.filter fun e => isCounter e.1 && s.latches (keyPage e.1).1 (keyPage e.1).2
  { data := new.foldl (fun t e => RegTable.insert t e.1 e.2) old
    ids := allPages.filterMap fun x =>
      if s.latches x.1 x.2 then some (pageKey x.1 x.2, id)
      else (b.ids.lookup (pageKey x.1 x.2)).map fun i => (pageKey x.1 x.2, i) }

/-- Bank flags field. -/
def bankFlags (b : Nat) : Field := if b = 0 then TIME.BANK_FLAGS_A else TIME.BANK_FLAGS_B

/-- The bank a snapshot loads: the older when it is not held, else the newer when that is not held.
(DESIGN CHOICE, assumption 33) -/
def State.freeBank (s : State) : Option Nat :=
  let new := s.rd TIME.NEWER 0
  if !s.bit TIME.HOLD 0 (1 - new) then some (1 - new) else if !s.bit TIME.HOLD 0 new then some new else none

/-- A snapshot's command is answered. -/
def State.snapAnswer (s : State) (w : List Packet) (status id : Nat) : State :=
  w.foldl (fun t k => t.respondArg k status (BitVec.ofNat 32 id) []) s

/-- A snapshot takes effect at its boundary, or is refused. (DESIGN CHOICE, assumption 33) -/
def State.takeSnap (s : State) (r : SnapReq) : State :=
  match s.freeBank with
  | none =>
    (((s.event EV.SNAP_REFUSED 0xFF r.id (r.at_ % 2 ^ 32) 0 0).bump TIME.SNAP_REFUSED_CNT 0).irq TIME.page 0
      TIME.IRQ_SNAP_REFUSED).snapAnswer r.waiters stBUSY r.id
  | some b =>
    let bk := s.loadBank (s.bank b) r.id
    let fl := r.flags ||| (if s.dev = .warmReset then 4 else 0)
    let s1 := s.snapRec fun x => { x with banks := x.banks.set! b bk }
    let s2 := ((s1.wr TIME.BANK_ID b r.id).wr TIME.BANK_TIME_LO b r.at_).wr TIME.BANK_TIME_HI b (r.at_ / 2 ^ 32)
    let s3 := ((s2.wr (bankFlags b) 0 fl).wrBit TIME.VALID 0 b true).wr TIME.NEWER 0 b
    let s4 := ((s3.event EV.SNAP_TAKEN 0xFF r.id (r.at_ % 2 ^ 32) fl (1 + b)).bump TIME.SNAP_CNT 0).irq TIME.page 0
      TIME.IRQ_SNAP_TAKEN
    s4.snapAnswer r.waiters stOK r.id

/-- The request with the earliest boundary. -/
def earliest : List SnapReq → Option SnapReq
  | [] => none
  | x :: t =>
    match earliest t with
    | some y => if y.at_ < x.at_ then some y else some x
    | none => some x

/-- SNAP_BOUNDARY: device time has reached the earliest boundary that a snapshot waits for. (DESIGN CHOICE, assumption 32) -/
def execSnapBoundary (s : State) : Host.Outcome State Fault Refusal :=
  .next (
    match earliest s.snap.pend with
    | none => s
    | some r => ((s.runTo r.at_).snapRec fun x => { x with pend := x.pend.filter fun y => y.at_ != r.at_ }).takeSnap r)

/-- HOLD_EXPIRED: bank `b` has been held by the host for longer than HOLD_MAX. -/
def execHoldExpired (b : Fin 2) (s : State) : Host.Outcome State Fault Refusal :=
  .next (
    if s.bit TIME.HOLD 0 b then
      (((s.wrBit TIME.HOLD 0 b false).wrBit TIME.HELD 0 b false).bump TIME.HOLD_EXPIRED_CNT 0).irq TIME.page 0
        TIME.IRQ_HOLD_EXPIRED
    else s)

/-! ## Commands -/

/-- SNAPSHOT (R455): at once, or scheduled and perhaps broadcast (R453). (DEDUCED, assumption 35) -/
def State.cmdSnapshot (s : State) (k : Packet) : State :=
  s.formed k (k.chip && (k.plain || (decide (k.ar = 1 ∨ k.ar = 3) && k.len == 12 && decide (bytesAt k.payload 8 4 < 2 ^ 31))))
    fun s =>
      if k.ar = 0 then s.snapRequest (some k)
      else match s.snapAt (bytesAt k.payload 0 8) (bytesAt k.payload 8 4) with
        | none => s.answer k stNO_SPACE
        | some t =>
          let t1 := if k.ar = 3 ∧ t.on WEFT.ID_VALID 0 = true then
              (t.originate t.bcastLinks 1 0 true ctSnap t.weft.nextId k.payload).weftRec fun w =>
                { w with nextId := (w.nextId + 1) % 2 ^ 16 }
            else t
          t1.answer k stOK

/-- SNAPSHOT. -/
def execSnapshot (k : Packet) (s : State) : Host.Outcome State Fault Refusal := .next (s.serve k (·.cmdSnapshot k))

/-- The bank that holds a snapshot ID. -/
def State.bankOf (s : State) (id : Nat) : Option Nat :=
  [s.rd TIME.NEWER 0, 1 - s.rd TIME.NEWER 0].find? fun b => s.bit TIME.VALID 0 b && s.rd TIME.BANK_ID b == id

/-- Page bases of a READ_SNAP payload. -/
def pageBases : Nat → List Byte → List Nat
  | 0, _ => []
  | n + 1, l => bytesAt l 0 4 :: pageBases n (l.drop 4)

/-- A page's 256 bytes of shadows in a bank, after its base. -/
def shadowBytes (b : Bank) (base : Nat) : List Byte :=
  leBytes 4 base ++ match pageOf base with
    | some (pg, inst, _) => (List.range 64).flatMap fun j => leBytes 4 (wordOf b.data pg inst (0x200 + 4 * j))
    | none => []

/-- READ_SNAP (R455). -/
def State.cmdReadSnap (s : State) (k : Packet) : State :=
  let n := k.len / 4
  let l := pageBases n k.payload
  s.formed k (decide (k.len % 4 = 0 ∧ 1 ≤ n ∧ n ≤ 15) && l.all fun a => a % 0x400 == 0 && (pageOf a).isSome) fun s =>
    match s.bankOf k.ar with
    | none => s.answer k stBAD_ARG
    | some b =>
      s.respond k stOK (leBytes 4 k.ar ++ leBytes 4 (s.rd TIME.BANK_TIME_LO b) ++ leBytes 4 (s.rd TIME.BANK_TIME_HI b)
        ++ leBytes 4 (s.rd (bankFlags b) 0) ++ l.flatMap (shadowBytes (s.bank b)))

/-- READ_SNAP. -/
def execReadSnap (k : Packet) (s : State) : Host.Outcome State Fault Refusal := .next (s.serve k (·.cmdReadSnap k))

/-- Device time steps to `t` (R453): a boundary jumped over moves to the first one after the step, flagged STEPPED. -/
def State.stepTime (s : State) (t : Nat) : State :=
  let old := s.snap.pend
  let pend := old.foldl (fun l r => addReq (if r.at_ < t then { r with at_ := s.boundary t, flags := r.flags ||| 2 } else r) l) []
  (({ s with time := t % 2 ^ 64 } : State).snapRec fun x => { x with pend := pend }).bump TIME.STEP_CNT 0 |>.irq TIME.page 0
    TIME.IRQ_STEP

/-- Rounded to 5 ns. -/
def round5 (t : Nat) : Nat := (t + 2) / 5 * 5

/-- TIME_SET (R448). (DEDUCED, assumption 37) -/
def State.cmdTimeSet (s : State) (k : Packet) : State :=
  s.offStandby k fun s => s.formed k (k.len == 8) fun s =>
    if s.rd TIME.ROLE 0 = 0 then s.answer k stDENIED
    else ((s.stepTime (round5 (bytesAt k.payload 0 8))).flag TIME.SET 0 true).answer k stOK

/-- TIME_SET. -/
def execTimeSet (k : Packet) (s : State) : Host.Outcome State Fault Refusal := .next (s.serve k (·.cmdTimeSet k))

/-- TIME_GET (R448): device time, TIME_STAT and OFFSET. -/
def State.cmdTimeGet (s : State) (k : Packet) : State :=
  s.respond k stOK (leBytes 8 s.time ++ leBytes 4 (s.pageWord 0xA 0 0x44) ++ leBytes 4 (s.rd TIME.OFFSET 0))

/-- TIME_GET. -/
def execTimeGet (k : Packet) (s : State) : Host.Outcome State Fault Refusal := .next (s.serve k (·.cmdTimeGet k))

end Sys2Proof.Machine
end

