-- ==== Sys2Proof/Machine/Fabric.lean ====
section
/-! DEFINITION. The Weft fabric and device time (chapter 18): link training, cells received, forwarded and delivered,
credits, the fabric commands, and time distribution. -/

namespace Sys2Proof.Machine

/-! ## Links (R435) -/

/-- A link changes state at its end of training or its loss: event and state. (DEDUCED, assumption 42) -/
def State.linkEvent (s : State) (l : Link) (st : Nat) : State :=
  (s.wr (linkState l) 0 st).event EV.WEFT_LINK 0xFF l st (s.rd (linkPeer l) 0) 0

/-- A link reaches UP with full credits (R440). -/
def State.linkToUp (s : State) (l : Link) : State :=
  (([0, 1, 2].foldl (fun (t : State) (c : CellClass) => (t.wr (linkCredit l c) 0 (fullCredit c)).weftRec fun w =>
    { w with given := w.given.set (creditSlot l c) 0 (creditSlot l c).isLt }) s).linkEvent l lkUp).irq WEFT.page 0 WEFT.IRQ_LINK_UP

/-- A link may train: enabled, and its domain out of reset. -/
def State.linkMay (s : State) (l : Link) : Bool :=
  s.on (linkEn l) 0 && s.on (EN WEFT.page) 0 && decide (s.dev ≠ .warmReset)

/-- LINK_TRAINING. -/
def execLinkTraining (l : Link) (e : LinkEvent) (s : State) : Host.Outcome State Fault Refusal :=
  .next (
    let st := s.rd (linkState l) 0
    if !s.linkMay l then s
    else match e with
      | .signal => if st = lkDown then s.wr (linkState l) 0 lkAlign else s
      | .aligned => if st = lkAlign then s.wr (linkState l) 0 lkTrain else s
      | .trained => if st = lkTrain then s.linkToUp l else s)

/-- WEFT_SEND commands whose cells a link has lost end with ABORTED; the others stay (R442). -/
def State.sendsAborted (s : State) (ids : List Nat) : State :=
  let dead := s.weft.sending.filter fun x => ids.contains x.2
  dead.foldl (fun t x => t.answer x.1 stABORTED) (s.weftRec fun w =>
    { w with sending := w.sending.filter fun x => !ids.contains x.2 })

/-- A link leaves UP, or its training, for the state given: cells that wait for it are dropped.
(DEDUCED, assumption 42, 52) -/
def State.linkLost (s : State) (l : Link) (st : Nat) : State :=
  if s.rd (linkState l) 0 = lkUp then
    let lost := s.weft.out.filter fun x => x.1 == l
    let s1 := s.weftRec fun w => { w with out := w.out.filter fun x => x.1 != l }
    let s2 := lost.foldl (fun t x => (t.forwardLeft l x.2.1 x.2.2).dropCell) s1
    let s3 := s2.sendsAborted (lost.filterMap fun x => if x.2.2.kind = 1 then none else some x.2.2.msgId.toNat)
    let s4 : State := { s3 with tim := { s3.tim with shown := s3.tim.shown.set l none l.isLt } }
    ((s4.linkEvent l st).bump WEFT.LINK_DOWN_CNT 0).irq WEFT.page 0 WEFT.IRQ_LINK_DOWN
  else s.wr (linkState l) 0 st

/-- A fabric link goes down for a reason (R435). (DESIGN CHOICE, assumption 46) -/
def State.weftDown (s : State) (l : Link) (w : LinkLoss) : State :=
  if s.rd (linkState l) 0 = lkDown ∨ s.rd (linkState l) 0 = lkDisabled then s
  else (if w = .codeErrors then s.bumpBy WEFT.CODE_ERR_CNT 0 4 else s).linkLost l lkDown

/-- LINK_CTL of a link, or the page's EN, is written: without an enable the link is disabled, with both it starts from
DOWN. -/
def State.linkEnabled (s : State) (l : Link) : State :=
  if s.on (linkEn l) 0 && s.on (EN WEFT.page) 0 then
    (if s.rd (linkState l) 0 = lkDisabled then s.wr (linkState l) 0 lkDown else s)
  else if s.rd (linkState l) 0 = lkDisabled then s
  else s.linkLost l lkDisabled

/-- HELLO: a neighbour's ID, or a conflict with the device's own. -/
def execHello (l : Link) (id : BitVec 12) (valid : Bool) (s : State) : Host.Outcome State Fault Refusal :=
  .next (
    if !decide (s.rd (linkState l) 0 ∈ [lkAlign, lkTrain, lkUp]) then s
    else
      let s1 := s.wr (linkPeer l) 0 id.toNat
      if valid && id.toNat == s.rd WEFT.DEV_ID 0 then
        (s1.event EV.WEFT_ID_CONFLICT 0xFF l id.toNat 0 0).irq WEFT.page 0 WEFT.IRQ_ID_CONFLICT
      else s1)

/-! ## Credits (R440) -/

/-- Remove the first `n` entries that meet `f`. -/
def removeN {α : Type} (f : α → Bool) : Nat → List α → List α
  | 0, l => l
  | _, [] => []
  | n + 1, x :: t => if f x then removeN f n t else x :: removeN f (n + 1) t

/-- WEFT_SEND commands whose last cell has left are answered OK (R442). -/
def State.sendsDone (s : State) : State :=
  let waits := fun (x : Packet × Nat) => s.weft.out.any fun y => y.2.2.kind != 1 && y.2.2.msgId.toNat == x.2
  (s.weft.sending.filter fun x => !waits x).foldl (fun t x => t.answer x.1 stOK) (s.weftRec fun w =>
    { w with sending := w.sending.filter waits })

/-- CREDIT: the receiver returns credits of a class, and cells that waited for them leave. -/
def execCredit (l : Link) (c : CellClass) (n : Byte) (s : State) : Host.Outcome State Fault Refusal :=
  .next (
    if !s.weftUp l then s
    else
      let have_ := min (fullCredit c) (s.rd (linkCredit l c) 0 + n.toNat)
      let go := (s.weft.out.filter (waitsFor l c)).take have_
      let s1 := (s.wr (linkCredit l c) 0 have_).weftRec fun w => { w with out := removeN (waitsFor l c) go.length w.out }
      (go.foldl (fun t x => t.transmit l c x.2.2) s1).sendsDone)

/-! ## Receiving and forwarding (R437 to R439) -/

/-- Where a cell that is not for this device, or a broadcast, goes on. -/
def State.forwardLink (s : State) (arrival : Link) (x : Cell) : Option Link :=
  let o := if x.bcast then (if s.weftUp (otherLink arrival) then some (otherLink arrival) else none) else s.outLink x.dst.toNat
  if o = some arrival then none else o

/-- A cell is forwarded, or dropped. (DEDUCED, assumption 39, 40) -/
def State.forward (s : State) (arrival : Link) (c : CellClass) (x : Cell) : State :=
  let drop := fun (t : State) => if x.bcast then t else (t.freeBuffer arrival c).dropCell
  if !s.on WEFT.FWD_EN 0 then drop s
  else if x.hops.toNat + 1 > 4095 then (if x.bcast then s.dropCell else drop s)
  else match s.forwardLink arrival x with
    | some o => (s.sendCell o c { x with hops := x.hops + 1 }).bump WEFT.FWD_CNT 0
    | none => drop s

/-- A cell for this device waits in its link buffer; it wakes the device (R443). -/
def State.deliver (s : State) (l : Link) (c : CellClass) (x : Cell) : State :=
  (s.weftRec fun w => { w with waiting := w.waiting ++ [(l, c, x)] }).wakeBy 5

/-- CELL_RECEIVED: a cell of class `c` arrives on link `l`; `good` is whether its CRC-32 agrees.
(DEDUCED, assumption 40, 41) -/
def execCellReceived (l : Link) (c : CellClass) (x : Cell) (good : Bool) (s : State) : Host.Outcome State Fault Refusal :=
  .next (
    if !s.weftUp l then s
    else
      let s1 := s.bump (linkRx l) 0
      let s2 := if c.val = 0 then s1.bump WEFT.URGENT_RX_CNT 0 else s1
      let own := s2.on WEFT.ID_VALID 0
      if !good then ((s2.freeBuffer l c).bump WEFT.CRC_ERR_CNT 0).irq WEFT.page 0 WEFT.IRQ_CRC_ERR
      else if x.bcast then
        if own && x.src.toNat == s2.rd WEFT.DEV_ID 0 then s2.freeBuffer l c else (s2.deliver l c x).forward l c x
      else if own && x.dst.toNat == s2.rd WEFT.DEV_ID 0 then s2.deliver l c x
      else s2.forward l c x)

/-! ## Delivery by type (R441) -/

/-- An assembly that this cell goes on with. -/
def WeftAsm.takes (a : WeftAsm) (l : Link) (c : CellClass) (x : Cell) : Bool :=
  !a.whole && a.kind == x.kind.toNat && a.src == x.src.toNat && a.msgId == x.msgId.toNat && a.link == l.val && a.cls == c.val

/-- Granules of ring 7 kept for RSP and DATA messages still being assembled: room for the largest each. -/
def State.ring7Kept (s : State) : Nat := (s.weft.asm.filter fun a => a.kind != 0).length * 130

/-- A fabric message as a packet of ring 7: OPCODE 0x70, TARGET the source, ARG the type. Its TAG is a free value.
(DEDUCED, assumption 25; DESIGN CHOICE, assumption 45) -/
def State.toRing7 (s : State) (kind src : Nat) (l : List Byte) : State :=
  let (v, s1) := s.fresh
  match s1.pushPacket 7 ⟨v.setWidth 16, 0, 0x70, BitVec.ofNat 16 src, BitVec.ofNat 32 kind, l, none⟩ with
  | some t => t
  | none => s1.pushRefused 7

/-- A message is complete: a CMD is announced to Loam through endpoint 13, RSP and DATA go to ring 7. -/
def State.asmDone (s : State) (a : WeftAsm) : State :=
  if a.kind = ctCmd then
    (s.weftRec fun w => { w with asm := w.asm ++ [{ a with whole := true }] }).doorbell 0
  else s.toRing7 a.kind a.src a.bytes

/-- Room for a FIRST cell: a CMD slot of the seven, or ring 7's space for the whole packet. -/
def State.asmRoom (s : State) (x : Cell) : Bool :=
  if x.kind.toNat = ctCmd then decide ((s.weft.asm.filter fun a => a.kind == 0).length < 7)
  else
    let need := if x.last then cdiv (packetSize x.payload.length) 32 else 130
    decide ((s.ring 7).occ + s.ring7Kept + need ≤ ringSize 7)

/-- A cell of a CMD, RSP or DATA message: none when it has to wait in its link buffer. -/
def State.asmCell (s : State) (l : Link) (c : CellClass) (x : Cell) : Option State :=
  if x.first then
    if !s.asmRoom x then none
    else
      let a : WeftAsm := ⟨x.kind.toNat, x.src.toNat, x.msgId.toNat, l, c, 1, x.payload, false⟩
      some (if x.last then s.asmDone a else s.weftRec fun w => { w with asm := w.asm ++ [a] })
  else
    match s.weft.asm.find? fun a => a.takes l c x && a.next == x.seq.toNat with
    | none => some s.dropCell
    | some a =>
      let b : WeftAsm := { a with next := a.next + 1, bytes := a.bytes ++ x.payload }
      let s1 := s.weftRec fun w => { w with asm := w.asm.erase a }
      some (if x.last then s1.asmDone b else s1.weftRec fun w => { w with asm := w.asm ++ [b] })

/-- A STOP cell: the stop lane takes it in the urgent class alone (R15). A packet that fails the packet checks is answered with
their status. (DEDUCED, assumption 172) -/
def State.stopCell (s : State) (c : CellClass) (x : Cell) : State :=
  let st := packetCheck x.payload true
  if c.val ≠ 0 then s.dropCell
  else if st = stOK then s.stopPacket (bytesAt x.payload 3 1) (packetOf x.payload none) true
  else if s.serves then s.answer (packetOf x.payload (some ⟨x.src, x.msgId, false⟩)) st
  else s

/-- What a local cell does: none when it has to wait. -/
def State.handOn (s : State) (l : Link) (c : CellClass) (x : Cell) : Option State :=
  if x.kind.toNat = ctStop then some (s.stopCell c x)
  else if x.kind.toNat = ctSnap then
    some (if x.payload.length = 12 then (s.snapAt (bytesAt x.payload 0 8) (bytesAt x.payload 8 4)).getD s else s)
  else if x.kind.toNat ≤ 2 then s.asmCell l c x
  else some s.dropCell

/-- CELL_DELIVERED: the oldest cell in a link buffer is handed on, and its credit is returned. -/
def execCellDelivered (l : Link) (c : CellClass) (s : State) : Host.Outcome State Fault Refusal :=
  .next (
    match s.weft.waiting.find? (waitsFor l c) with
    | none => s
    | some x =>
      match s.handOn l c x.2.2 with
      | none => s
      | some t => (t.weftRec fun w => { w with waiting := removeN (waitsFor l c) 1 w.waiting }).freeBuffer l c)

/-- ASSEMBLY_TIMEOUT: a message is missing a cell for 10 ms. -/
def execAssemblyTimeout (src : BitVec 12) (msgId : BitVec 16) (s : State) : Host.Outcome State Fault Refusal :=
  .next (
    match s.weft.asm.find? fun a => !a.whole && a.src == src.toNat && a.msgId == msgId.toNat with
    | none => s
    | some a => (s.weftRec fun w => { w with asm := w.asm.erase a }).dropCell)

/-! ## Fabric commands (R442) -/

/-- Bytes of `n` words of a page from offset `off`, as reads return them. -/
def State.pageImage (s : State) (pg inst off n : Nat) : List Byte :=
  (List.range n).flatMap fun j => leBytes 4 (s.pageWord pg inst (off + 4 * j))

/-- A fabric command off a standby, with a valid ID. -/
def State.fabric (s : State) (k : Packet) (f : State → State) : State :=
  s.offStandby k fun s => if s.on WEFT.ID_VALID 0 then f s else s.answer k stDENIED

/-- The carried bytes are one packet of a consistent size. (DESIGN CHOICE, assumption 45) -/
def onePacket (l : List Byte) : Bool := decide (20 ≤ l.length ∧ packetSize (bytesAt l 6 2) = l.length)

/-- A WEFT_SEND is well formed. -/
def weftSendOk (k : Packet) : Bool :=
  decide ((k.tgt < 4096 ∨ k.tgt = 0xFFFF) ∧ k.ar ≤ 0x1FF ∧ bits k.ar 7 2 = 0) &&
    (match k.ar % 4 with
      | 0 => onePacket k.payload && k.tgt != 0xFFFF
      | 2 => decide (1 ≤ k.len)
      | 3 => onePacket k.payload && k.len == 20 && stopOp (bytesAt k.payload 3 1)
      | _ => false)

/-- WEFT_SEND. (DEDUCED, assumption 53) -/
def State.cmdWeftSend (s : State) (k : Packet) : State :=
  s.fabric k fun s => s.formed k (weftSendOk k) fun s =>
    let b := k.tgt == 0xFFFF
    let ls := if b then s.bcastLinks else (s.outLink k.tgt).toList
    if ls.isEmpty then s.answer k stABORTED
    else
      let kind := k.ar % 4
      let c : CellClass := if kind = 3 then 0 else if k.ar.testBit 8 then 2 else 1
      let id := s.weft.nextId
      ((s.originate ls c k.tgt b kind id k.payload).weftRec fun w =>
        { w with nextId := (id + 1) % 2 ^ 16, sending := w.sending ++ [(k, id)] }).sendsDone

/-- WEFT_SEND. -/
def execWeftSend (k : Packet) (s : State) : Host.Outcome State Fault Refusal := .next (s.serve k (·.cmdWeftSend k))

/-- Write ROUTE[i] from a word. -/
def State.writeRoute (s : State) (i w : Nat) : State :=
  (((s.wr WEFT.VALID i (w / 2 ^ 31)).wr WEFT.LINK i (bits w 24 24)).wr WEFT.HI i (bits w 23 12)).wr WEFT.LO i (w % 2 ^ 12)

/-- WEFT_ROUTE. -/
def State.cmdWeftRoute (s : State) (k : Packet) : State :=
  s.fabric k fun s =>
    let ws := (List.range 16).map fun i => bytesAt k.payload (4 * i) 4
    s.formed k (k.chip && k.arg == 0 && k.len == 64 && ws.all fun w => bits w 30 25 == 0) fun s =>
      ((List.range 16).foldl (fun t i => t.writeRoute i (ws.getD i 0)) s).answer k stOK

/-- WEFT_ROUTE. -/
def execWeftRoute (k : Packet) (s : State) : Host.Outcome State Fault Refusal := .next (s.serve k (·.cmdWeftRoute k))

/-- WEFT_STATUS. -/
def State.cmdWeftStatus (s : State) (k : Packet) : State :=
  s.fabric k fun s => s.formed k (k.chip && k.plain) fun s => s.respond k stOK (s.pageImage 9 0 0x40 48)

/-- WEFT_STATUS. -/
def execWeftStatus (k : Packet) (s : State) : Host.Outcome State Fault Refusal := .next (s.serve k (·.cmdWeftStatus k))

/-! ## Device time (R444 to R447) -/

/-- TIME_STAT.STATE codes. -/
abbrev tsFree : Nat := 0
abbrev tsAcquire : Nat := 1
abbrev tsLocked : Nat := 2
abbrev tsHoldover : Nat := 3

/-- TIME_STAT.STATE changes: its event, and the interrupts of LOCKED and HOLDOVER. -/
def State.timeState (s : State) (st : Nat) : State :=
  if s.rd TIME.STATE 0 = st then s
  else
    let s1 := (s.wr TIME.STATE 0 st).event EV.TIME_STATE 0xFF st (s.rd TIME.MASTER_ID 0) (s.rd TIME.OFFSET 0) 0
    if st = tsLocked then s1.irq TIME.page 0 TIME.IRQ_LOCKED
    else if st = tsHoldover then s1.irq TIME.page 0 TIME.IRQ_HOLDOVER else s1

/-- The upstream link: the lowest master ID shown, then the fewest HOPS, then W0 (R445). -/
def upstream (sh : Vector (Option (Nat × Nat)) 2) : Option Link :=
  match sh.get 0, sh.get 1 with
  | none, none => none
  | some _, none => some 0
  | none, some _ => some 1
  | some a, some b => if b.1 < a.1 ∨ (b.1 = a.1 ∧ b.2 < a.2) then some 1 else some 0

/-- A new RATE within ±200,000 ppb: how a follower slews a smaller offset is not stated, so the value is free.
(DESIGN CHOICE, assumption 49) -/
def State.slew (s : State) : State :=
  let (v, s1) := s.fresh
  s1.wrI TIME.RATE 0 ((v.toNat % 400001 : Nat) - 200000)

/-- A follower disciplines its time by an offset of `o` sixteenths of a nanosecond, master less own (R447). -/
def State.discipline (s : State) (o : Int) : State :=
  let ns := (o + 8) / 16
  let s1 := s.wrI TIME.OFFSET 0 ns
  let s2 :=
    if (s.rd TIME.STEP_TH 0 * 100 * 16 : Nat) < o.natAbs then
      let t := (round5 ((s.time : Int) + ns).toNat)
      (s1.stepTime t).event EV.TIME_STEP 0xFF (wd ((t : Int) - s.time)) 0 0 0
    else s1.slew
  let n := if o.natAbs < 20 * 16 then s.tim.consec + 1 else 0
  let s3 : State := { s2 with tim := { s2.tim with consec := n } }
  s3.timeState (if 16 ≤ n then tsLocked else tsAcquire)

/-- A follower takes a SYNC of its upstream link (R445) and forwards it. (DEDUCED, assumption 48, 50) -/
def State.followSync (s : State) (l : Link) (y : SyncSet) : State :=
  let m16 : Nat := 16 * y.time.toNat + 5 * s.rd (linkDly l) 0
  let s1 := ((s.bump TIME.SYNC_RX_CNT 0).wr TIME.MASTER_ID 0 y.master.toNat).wr TIME.HOPS 0 (y.hops.toNat + 1)
  let s2 := ((s1.wr TIME.UPSTREAM 0 l).flag TIME.SET 0 y.set).discipline ((m16 : Int) - 16 * s.time)
  let o := otherLink l
  if s2.weftUp o then
    { s2 with tim := { s2.tim with sent := s2.tim.sent.set o (some { y with
        time := BitVec.ofNat 64 ((m16 + 8) / 16), hops := y.hops + 1 }) o.isLt } }
  else s2

/-- SYNC: a SYNC set arrives on a link. -/
def execSync (l : Link) (y : SyncSet) (s : State) : Host.Outcome State Fault Refusal :=
  .next (
    if !s.weftUp l then s
    else if s.rd TIME.ROLE 0 = 1 then
      if y.master.toNat = s.rd WEFT.DEV_ID 0 then s
      else (s.flag TIME.CONFLICT 0 true).irq TIME.page 0 TIME.IRQ_CONFLICT
    else if s.rd TIME.ROLE 0 = 0 then
      let s1 : State := { s with tim := { s.tim with
        shown := s.tim.shown.set l (some (y.master.toNat, y.hops.toNat)) l.isLt } }
      if upstream s1.tim.shown = some l then s1.followSync l y else s1
    else s)

/-- SYNC_SEND: a master sends SYNC on every UP link. (DEDUCED, assumption 50) -/
def execSyncSend (s : State) : Host.Outcome State Fault Refusal :=
  .next (
    if s.rd TIME.ROLE 0 ≠ 1 then s
    else
      let y : SyncSet := ⟨BitVec.ofNat 64 s.time, BitVec.ofNat 12 (s.rd WEFT.DEV_ID 0), s.on TIME.SET 0, 0⟩
      [0, 1].foldl (fun (t : State) (l : Link) =>
        if t.weftUp l then { t with tim := { t.tim with sent := t.tim.sent.set l (some y) l.isLt } } else t) s)

/-- DELAY_REQ: an exchange has measured a link's delay, in 312.5 ps: the mean of the last 16 is kept (R445). -/
def execDelayReq (l : Link) (d : BitVec 16) (s : State) : Host.Outcome State Fault Refusal :=
  .next (
    if !decide (s.rd (linkState l) 0 ∈ [lkTrain, lkUp]) then s
    else
      let ds := (d.toNat :: s.tim.delays.get l).take 16
      let s1 : State := { s with tim := { s.tim with delays := s.tim.delays.set l ds l.isLt } }
      s1.wr (linkDly l) 0 ((2 * ds.sum + ds.length) / (2 * ds.length)))

/-- HOLDOVER: four SYNC_INT have passed without an upstream SYNC; RATE is held, and what the links have shown is forgotten, so
that the next SYNC names the upstream link. (DEDUCED, assumption 51) -/
def execHoldover (s : State) : Host.Outcome State Fault Refusal :=
  .next (
    if s.rd TIME.ROLE 0 = 0 ∧ (s.rd TIME.STATE 0 = tsAcquire ∨ s.rd TIME.STATE 0 = tsLocked) then
      ({ s with tim := { s.tim with consec := 0, shown := Vector.replicate 2 none } } : State).bumpBy TIME.SYNC_MISS_CNT 0 4 |>.timeState tsHoldover
    else s)

/-- TIME_CFG.ROLE is written: a follower starts in ACQUIRE (R447); a device that is no follower is FREE, and follows no link.
(DEDUCED, assumption 50) -/
def State.timeRole (s : State) : State :=
  if s.rd TIME.ROLE 0 = 0 then s.timeState tsAcquire
  else ({ s with tim := { s.tim with consec := 0, shown := Vector.replicate 2 none } } : State).timeState tsFree

end Sys2Proof.Machine
end

