-- ==== Sys2Proof/Machine/Otp.lean ====
section
/-! DEFINITION. The one-time-programmable memory (chapter 21): locks, counters, the checks at start, and its commands. -/

namespace Sys2Proof.Machine

/-- Change the OTP record. -/
def State.otpRec (s : State) (f : OtpSt → OtpSt) : State := { s with otp := f s.otp }

/-- An OTP event: ring 5, port 0xFF. -/
def State.otpEvent (s : State) (k : EvKind) (d4 d5 d6 : Nat) : State := s.event k 0xFF d4 d5 d6 0

/-! ## Triplicated regions (R516 to R518) -/

/-- Majority of three copies. -/
def maj3 {n : Nat} : List (BitVec n) → BitVec n
  | [a, b, c] => (a &&& b) ||| (a &&& c) ||| (b &&& c)
  | _ => 0

/-- A bit of the lock word, by majority. -/
def State.otpLock (s : State) (b : Nat) : Bool := (maj3 s.otp.lock).getLsbD b

/-- Some copy of a lock bit is set. -/
def State.otpLockAny (s : State) (b : Nat) : Bool := s.otp.lock.any fun w => w.getLsbD b

/-- Program a lock bit in all three copies. -/
def State.setOtpLock (s : State) (b : Nat) : State :=
  s.otpRec fun x => { x with lock := x.lock.map fun w => w ||| BitVec.ofNat 32 (2 ^ b) }

/-- Copies of counter `i`: 0 LOAM_ARB, 1 BUNDLE_ARB, 2 SERVICE. -/
def State.otpCopies (s : State) (i : Nat) : List (BitVec 256) := s.otp.cnt.getD i []

/-- Bits set from bit 0 upward, up to `n`. -/
def thermo (w : BitVec 256) : Nat → Nat → Nat
  | 0, k => k
  | n + 1, k => if w.getLsbD k then thermo w n (k + 1) else k

/-- A counter's value in the majority. -/
def State.otpCount (s : State) (i : Nat) : Nat := thermo (maj3 (s.otpCopies i)) 256 0

/-- Some counter's majority has a set bit above a clear one (R517). -/
def State.otpCntBad (s : State) : Bool :=
  [0, 1, 2].any fun i => (maj3 (s.otpCopies i)).toNat != 2 ^ s.otpCount i - 1

/-- A counter as it reads: 256 when COUNTERS failed majority. -/
def State.otpCounter (s : State) (i : Nat) : Nat := if s.otpCntBad then 256 else s.otpCount i

/-- CNT_VAL and ARB_STAT. -/
def State.showCounters (s : State) : State :=
  let s1 := ((s.wr OTP.LOAM_ARB 0 (s.otpCounter 0)).wr OTP.BUNDLE_ARB 0 (s.otpCounter 1)).wr OTP.SERVICE 0 (s.otpCounter 2)
  ((s1.wr BOOT.LOAM_ARB 0 (s.otpCounter 0)).wr BOOT.BUNDLE_ARB 0 (s.otpCounter 1)).flag BOOT.ARB_FAIL 0 s.otpCntBad

/-- Raise a counter to `v`: bits below `v` are programmed in each copy (R518). -/
def State.raiseCounter (s : State) (i v : Nat) : State :=
  (s.otpRec fun x => { x with
    cnt := x.cnt.set i ((x.cnt.getD i []).map fun w => w ||| BitVec.ofNat 256 (2 ^ v - 1)) }).showCounters

/-- At a start the copies that lack a bit below the majority value get it (R518). -/
def State.fixCounter (s : State) (i : Nat) : State :=
  let v := s.otpCount i
  let lacks := ((s.otpCopies i).map fun w => ((List.range v).filter fun k => !w.getLsbD k).length).sum
  (s.otpRec fun x => { x with
    cnt := x.cnt.set i ((x.cnt.getD i []).map fun w => w ||| BitVec.ofNat 256 (2 ^ v - 1)) }).bumpBy OTP.MAJ_FIX_CNT 0 lacks

/-! ## Regions (R509 to R520) -/

/-- The region code of a word: 0 for the triplicated regions. -/
def otpCode (w : Nat) : Nat :=
  if w < 4 then 0 else if w < 64 then 1 else if w < 192 then 2 else if w < 224 then 3 else if w < 288 then 4
  else if w < 384 then 0 else 5

/-- Lock bit of a region. -/
def otpLockBit (code : Nat) : Nat := code - 1

/-- Words of a region. -/
def regionWords (code : Nat) : List Nat := (List.range (otpRegion code).2).map (· + (otpRegion code).1)

/-- The two digest words. -/
def digestWords (code : Nat) : Nat × Nat :=
  let (b, n) := otpRegion code
  (b + n - 2, b + n - 1)

/-- The digest of a region's words: the first 64 bits of SHA-256 (R513). -/
def State.otpDigest (s : State) (code : Nat) : Nat × Nat :=
  let h := sha256 (((regionWords code).take ((otpRegion code).2 - 2)).flatMap fun w => leBytes 4 (s.otpWord w).value)
  (bytesAt h 0 4, bytesAt h 4 4)

/-- Both digest words are written and match; and whether either is written or partial. -/
def State.digestOk (s : State) (code : Nat) : Bool :=
  let (a, b) := digestWords code
  let d := s.otpDigest code
  (s.otpWord a).written && (s.otpWord b).written && (s.otpWord a).value == d.1 && (s.otpWord b).value == d.2
def State.digestTouched (s : State) (code : Nat) : Bool :=
  let (a, b) := digestWords code
  [a, b].any fun w => (s.otpWord w).written || (s.otpWord w).part

/-- Region states (R519). -/
abbrev rgBlank : Nat := 0
abbrev rgOpen : Nat := 1
abbrev rgLocked : Nat := 2
abbrev rgFailed : Nat := 3
abbrev rgLockBroken : Nat := 4

/-- The header's validity. -/
def State.headerValid (s : State) (code : Nat) : Bool :=
  let (b, n) := otpRegion code
  (s.otpWord b).written && headerOk (s.otpWord b).value code n

/-- An uncorrectable written word of a region. -/
def State.uncorrectable (s : State) (code : Nat) : Option Nat :=
  (regionWords code).find? fun w => (s.otpWord w).written && (s.otpWord w).err == 2

/-- A region's state, with the reason of OTP_INTEGRITY and the word where it is FAILED. (DEDUCED, assumption 61) -/
def State.judgeRegion (s : State) (code : Nat) : Nat × Nat × Nat :=
  let b := (otpRegion code).1
  match s.uncorrectable code with
  | some w => (rgFailed, 1, w)
  | none =>
    if !(s.otpWord b).written then
      if (regionWords code).all (fun w => !(s.otpWord w).written && !(s.otpWord w).part) then (rgBlank, 4, b)
      else (rgFailed, 2, b)
    else if !s.headerValid code then (rgFailed, 2, b)
    else if s.otpLock (otpLockBit code) then
      if s.digestOk code then (rgLocked, 0, 0) else (rgFailed, 3, (digestWords code).1)
    else if s.digestTouched code && !s.digestOk code then (rgLockBroken, 0, 0)
    else (rgOpen, 0, 0)

/-- The state field of a region. -/
def regField (code : Nat) : Field :=
  if code = 1 then OTP.REG_FACTORY_ID else if code = 2 then OTP.REG_TRIM else if code = 3 then OTP.REG_KEYS
  else if code = 4 then OTP.REG_CONFIG else OTP.REG_CUSTOMER

/-- Words 0 to `n` less 1 of a region are all written and below its declared count. -/
def State.otpHas (s : State) (code lo hi : Nat) : Bool :=
  let b := (otpRegion code).1
  (List.range (hi + 1)).all fun i =>
    decide (i < lo) || ((s.otpWord (b + i)).written && decide (i < (s.otpWord b).value % 2 ^ 16))

/-- A region fails at this start, with the reason and the word (R520). -/
def State.regionFails (s : State) (code : Nat) : Option (Nat × Nat) :=
  let (st, why, w) := s.judgeRegion code
  let b := (otpRegion code).1
  if st = rgFailed then some (why, w)
  else if code = 1 ∧ st = rgBlank then some (4, b)
  else if code = 2 ∧ (st ≠ rgLocked ∨ s.otpHas 2 0 ((s.otpWord b).value % 2 ^ 16 - 1) = false) then some (4, b)
  else if code = 3 ∧ (st = rgBlank ∨ s.otpHas 3 1 8 = false) then some (4, b + 1)
  else none

/-- An interrupted lock is completed at a start (R515, R516). -/
def State.completeLock (s : State) (code : Nat) : State :=
  let b := otpLockBit code
  if s.otpLockAny b && s.digestOk code && !(s.otp.lock.all fun w => w.getLsbD b) then
    (s.setOtpLock b).otpEvent EV.OTP_LOCKED code 2 0
  else s

/-- DEBUG_LOCK or TEST_LOCK with a copy set is completed at a start (R516). -/
def State.completeBit (s : State) (b target : Nat) : State :=
  if s.otpLockAny b && !(s.otp.lock.all fun w => w.getLsbD b) then (s.setOtpLock b).otpEvent EV.OTP_LOCKED target 2 0 else s

/-- A region is judged: its state, and OTP_INTEGRITY where it fails. -/
def State.checkRegion (s : State) (code : Nat) : State :=
  let s1 := s.wr (regField code) 0 (s.judgeRegion code).1
  match s.regionFails code with
  | some (why, w) =>
    let s2 := if why = 1 then (s1.wr OTP.LAST_UNCORR 0 w).bump OTP.ECC_UNCORR_CNT 0 else s1
    (s2.otpEvent EV.OTP_INTEGRITY code why w).irq OTP.page 0 OTP.IRQ_INTEGRITY
  | none => s1

/-- Corrected words that a read of all words finds (R510). -/
def State.countCorrected (s : State) : State :=
  s.otp.words.foldl (fun t x => if x.2.written && x.2.err == 1 then
    (t.wr OTP.LAST_CORR 0 x.1).bump OTP.ECC_CORR_CNT 0 else t) s

/-- OTP_WEAK is written from the margin reads (R519, R521). -/
def State.scanWeak (s : State) : State :=
  let ecc := s.otp.words.filterMap fun x => if x.2.weak then some x.1 else none
  let weak := ecc.filter (fun w => decide (w < 288)) ++ s.otp.weakCnt ++ ecc.filter fun w => decide (288 ≤ w)
  let s1 := (List.range 16).foldl (fun t i =>
    t.wr OTP.WEAK i ((weak.filter fun w => w / 32 == i).map fun w => 2 ^ (w % 32)).sum) s
  let s2 := s1.wr OTP.WEAK_WORDS 0 weak.length
  match weak with
  | [] => s2
  | w :: _ => (s2.otpEvent EV.OTP_WEAK_FOUND weak.length w 0).irq OTP.page 0 OTP.IRQ_WEAK

/-- CONFIG failed (R520). (DEDUCED, assumption 64) -/
def State.configFailed (s : State) : Bool := s.rd OTP.REG_CONFIG 0 == rgFailed
/-- KEYS failed. -/
def State.keysFailed (s : State) : Bool := (s.regionFails 3).isSome
/-- A KEYS field of eight words, used only while KEYS is locked (R512): none where it is zero.
(DESIGN CHOICE, assumption 9) -/
def State.keyHash (s : State) (first : Nat) : Option (List Byte) :=
  let h := (List.range 8).flatMap fun i => leBytes 4 (s.otpField 3 (first + i))
  if s.rd OTP.REG_KEYS 0 = rgLocked ∧ h.any (· != 0) = true then some h else none
/-- The Octif root hash. (DESIGN CHOICE, assumption 9) -/
def State.octifHash (s : State) : List Byte := (List.range 8).flatMap fun i => leBytes 4 (s.otpField 3 (1 + i))
/-- CONFIG flags. -/
def State.configFlag (s : State) (b : Nat) : Bool := !s.configFailed && (s.otpField 4 1).testBit b

/-- Step 2 of *Cold start*: the OTP is read, interrupted locks and raises are completed, every region is judged, and the
values read are in use from now on. (DEDUCED, assumption 61, 64) -/
def State.otpStart (s : State) : State :=
  let s1 := [1, 2, 3, 4, 5].foldl State.completeLock s
  let s2 := (s1.completeBit 8 0x100).completeBit 9 0x101
  let s3 := if s2.otpCntBad then
      (s2.otpEvent EV.OTP_INTEGRITY 0x10 5 288).irq OTP.page 0 OTP.IRQ_INTEGRITY
    else [0, 1, 2].foldl State.fixCounter s2
  let s4 := (s3.flag OTP.COUNTERS_FAIL 0 s3.otpCntBad).showCounters
  let s5 := [1, 2, 3, 4, 5].foldl State.checkRegion (s4.otpRec fun x => { x with used := x.words })
  let s6 := s5.countCorrected.scanWeak
  let s7 := (s6.flag OTP.TEST_LOCK 0 (s6.otpLock 9)).flag OTP.DEBUG_LOCK 0 (s6.otpLock 8 || s6.configFailed)
  let s8 := (s7.flag OTP.RESTRICTED 0 s7.configFailed).flag SYS.RESTRICTED 0 s7.configFailed
  let s9 := (s8.flag SYS.TRIM_FAIL 0 (s8.regionFails 2).isSome).flag SYS.ID_VALID 0 (s8.regionFails 1).isNone
  let serial := if (s9.regionFails 1).isSome then 0 else s9.otpField 1 1 + 2 ^ 32 * s9.otpField 1 2
  let s10 := (s9.wr SYS.SERIAL_LO 0 serial).wr SYS.SERIAL_HI 0 (serial / 2 ^ 32)
  let s10 := s10.wr SYS.REV 0 (if (s9.regionFails 1).isSome then 0 else s9.otpField 1 6 % 256)
  let s11 := (s10.flag BOOT.UPD_CHECK 0 (s10.configFailed || s10.configFlag 1)).flag BOOT.CUST_SIG_REQ 0 (s10.configFlag 2)
  s11.forPorts allPorts fun t p => t.flag CC.SAFE_RD p (!t.configFailed && (t.otpField 4 2).testBit p)

/-! ## Commands -/

/-- Loam or the recovery ROM serves OTP reads (R506). -/
def State.serveRom (s : State) (k : Packet) (f : State → State) : State :=
  if s.dev = .recovery then f s else s.serve k f

/-- A physical word as a normal read gives it, with its flags (OTP_READ). -/
def State.otpRaw (s : State) (w : Nat) : Nat × Nat :=
  let x := s.otpWord w
  let weak := if s.bit OTP.WEAK (w / 32) (w % 32) then 16 else 0
  if w < 4 then (((s.otp.lock.getD w 0)).toNat, weak)
  else if 288 ≤ w ∧ w < 384 then
    let i := (w - 288) / 32
    let j := (w - 288) % 32
    (if j < 24 then ((s.otpCopies i).getD (j / 8) 0).toNat / 2 ^ (32 * (j % 8)) % 2 ^ 32 else 0, weak)
  else
    let code := otpCode w
    (x.data.toNat, bitsOf [x.written, x.part, x.written && x.err == 1, x.written && x.err == 2] + weak
      + (if s.otpLock (otpLockBit code) then 32 else 0) + code * 2 ^ 8)

/-- OTP_READ. -/
def State.cmdOtpRead (s : State) (k : Packet) : State :=
  s.offStandby k fun s =>
    let n := k.ar
    s.formed k (k.payload.isEmpty && decide (k.tgt < 512 ∧ 1 ≤ n ∧ n ≤ 128 ∧ k.tgt + n ≤ 512)) fun s =>
      let ws := (List.range n).map (· + k.tgt)
      if s.rd OTP.REG_CUSTOMER 0 = rgFailed ∧ ws.any (fun w => decide (384 ≤ w)) = true then s.answer k stINTEGRITY
      else
        let s1 := ws.foldl (fun t w => if (t.otpWord w).written && (t.otpWord w).err == 1 then
          (t.wr OTP.LAST_CORR 0 w).bump OTP.ECC_CORR_CNT 0 else t) s
        s1.respond k stOK (ws.flatMap fun w => leBytes 4 (s.otpRaw w).1 ++ leBytes 4 (s.otpRaw w).2)

/-- OTP_READ. -/
def execOtpRead (k : Packet) (s : State) : Host.Outcome State Fault Refusal := .next (s.serveRom k (·.cmdOtpRead k))

/-- OTP_MARGIN_SCAN (R521). -/
def State.cmdOtpMarginScan (s : State) (k : Packet) : State :=
  s.offStandby k fun s => s.formed k (k.chip && k.plain) fun s =>
    let s1 := s.scanWeak.bump OTP.SCAN_CNT 0
    s1.respond k stOK (((List.range 16).flatMap fun i => leBytes 4 (s1.rd OTP.WEAK i)) ++ leBytes 4 (s1.rd OTP.WEAK_WORDS 0))

/-- OTP_MARGIN_SCAN. -/
def execOtpMarginScan (k : Packet) (s : State) : Host.Outcome State Fault Refusal :=
  .next (s.serveRom k (·.cmdOtpMarginScan k))

/-- PROG_STAT records a request. -/
def State.progStat (s : State) (word status : Nat) : State :=
  (s.wr OTP.LAST_WORD 0 word).wr OTP.LAST_STATUS 0 status

/-- A request refused by *Programming checks* or by a lock's checks. -/
def State.progRefused (s : State) (k : Packet) (word status : Nat) : State :=
  (((s.progStat word status).bump OTP.REFUSED_CNT 0).irq OTP.page 0 OTP.IRQ_REFUSED).answer k status

/-- A programming has ended. -/
def State.progDone (s : State) (k : Packet) (word status : Nat) : State :=
  let s1 := ((s.progStat word status).otpEvent EV.OTP_PROGRAMMED k.tgt status 0).irq OTP.page 0 OTP.IRQ_PROG_DONE
  (if status = stOK then s1.bump OTP.PROG_CNT 0 else s1.bump OTP.PROG_FAIL_CNT 0).answer k status

/-- Put an ECC word in the list of words, in order. -/
def putWord (w : Nat) (x : OtpWord) : List (Nat × OtpWord) → List (Nat × OtpWord)
  | [] => [(w, x)]
  | (v, y) :: t => if w < v then (w, x) :: (v, y) :: t else if v = w then (w, x) :: t else (v, y) :: putWord w x t

/-- Program an ECC word. -/
def State.setOtpWord (s : State) (w : Nat) (v : BitVec 32) (weak : Bool) : State :=
  (s.otpRec fun x => { x with words := putWord w ⟨v, true, false, 0, weak⟩ x.words }).wrBit OTP.WEAK (w / 32) (w % 32) weak

/-- Die temperature from -10 °C to 85 °C and VDD_IO18 in range (R522 check 3). -/
def State.otpMayProgram (s : State) (e : OtpEnv) : Bool :=
  e.vddOk && decide (-100 ≤ s.rdI ADC.T_DIE 0 ∧ s.rdI ADC.T_DIE 0 ≤ 850)

/-- A word that OTP_PROGRAM may name: no LOCK_TABLE, COUNTERS or digest word. -/
def otpNameable (w : Nat) : Bool :=
  decide (4 ≤ w ∧ w < 512) && otpCode w != 0 && w != (digestWords (otpCode w)).1 && w != (digestWords (otpCode w)).2

/-- An ECC word takes this value (R522 check 5). Which check bits a partial word already has is not stated. -/
def State.otpFits (s : State) (w : Nat) (v : BitVec 32) : Bool × State :=
  let x := s.otpWord w
  if x.written then (decide (x.data = v), s)
  else if x.part then
    let (f, s1) := s.fresh
    (decide (x.data &&& v = x.data) && f.getLsbD 0, s1)
  else (true, s)

/-- OTP_PROGRAM of a word (R522, R523). -/
def State.programWord (s : State) (k : Packet) (e : OtpEnv) : State :=
  let w := k.tgt
  let v := BitVec.ofNat 32 (bytesAt k.payload 0 4)
  if s.standby then s.progRefused k w stDENIED
  else if !s.otpMayProgram e then s.progRefused k w stNOT_READY
  else if s.otpLock (otpLockBit (otpCode w)) then s.progRefused k w stLOCKED
  else
    let (ok, s1) := s.otpFits w v
    if !ok then s1.progRefused k w stDENIED
    else (s1.setOtpWord w v e.weak).progDone k w (if e.weak then stINTEGRITY else stOK)

/-- The words that hold logical bits `lo` to `hi` less 1 of counter `i`, in its three copies (R517). -/
def counterWords (i lo hi : Nat) : List Nat :=
  (List.range 24).filterMap fun j =>
    let g := j % 8
    if lo < 32 * (g + 1) ∧ 32 * g < hi then some (288 + 32 * i + j) else none

/-- The margin reads after programming words of COUNTERS: they are weak, or weak no more (R523). (DEDUCED, assumption 178) -/
def State.weakCounter (s : State) (l : List Nat) (weak : Bool) : State :=
  let s1 := s.otpRec fun x => { x with
    weakCnt := (List.range 512).filter fun w => if decide (w ∈ l) then weak else decide (w ∈ x.weakCnt) }
  l.foldl (fun (t : State) w => t.wrBit OTP.WEAK (w / 32) (w % 32) weak) s1

/-- OTP_PROGRAM of a counter. -/
def State.programCounter (s : State) (k : Packet) (e : OtpEnv) : State :=
  let i := k.tgt - 0x200
  let w := 288 + 32 * i
  if s.standby then s.progRefused k w stDENIED
  else if !s.otpMayProgram e then s.progRefused k w stNOT_READY
  else if k.ar < s.otpCounter i then s.progRefused k w stDENIED
  else if k.ar = s.otpCounter i then (s.progStat w stOK).answer k stOK
  else ((s.raiseCounter i k.ar).weakCounter (counterWords i (s.otpCounter i) k.ar) e.weak).progDone k w
    (if e.weak then stINTEGRITY else stOK)

/-- OTP_PROGRAM. -/
def State.cmdOtpProgram (s : State) (k : Packet) (e : OtpEnv) : State :=
  if otpNameable k.tgt && k.len == 4 then s.programWord k e
  else if decide (0x200 ≤ k.tgt ∧ k.tgt ≤ 0x202 ∧ k.ar ≤ 256) && k.payload.isEmpty then s.programCounter k e
  else s.progRefused k (k.tgt % 512) stBAD_ARG

/-- OTP_PROGRAM. -/
def execOtpProgram (k : Packet) (e : OtpEnv) (s : State) : Host.Outcome State Fault Refusal :=
  .next (s.serve k (·.cmdOtpProgram k e))

/-- A region may not be locked yet (R513 step 2). (DEDUCED, assumption 62) -/
def State.lockRefused (s : State) (code : Nat) : Bool :=
  let (b, n) := otpRegion code
  !s.headerValid code
    || decide (((regionWords code).take (n - 2)).countP (fun w => (s.otpWord w).written) < (s.otpWord b).value % 2 ^ 16)
    || s.digestTouched code

/-- A lock bit has been programmed by command. -/
def State.lockDone (s : State) (k : Packet) : State :=
  (((s.otpEvent EV.OTP_LOCKED k.tgt 1 0).bump OTP.LOCK_CNT 0).irq OTP.page 0 OTP.IRQ_PROG_DONE).answer k stOK

/-- OTP_LOCK (R513, R516). -/
def State.cmdOtpLock (s : State) (k : Packet) : State :=
  s.formed k (k.plain && decide ((1 ≤ k.tgt ∧ k.tgt ≤ 5) ∨ k.tgt = 0x100 ∨ k.tgt = 0x101)) fun s =>
    s.offStandby k fun s =>
      let b := if 0x100 ≤ k.tgt then k.tgt - 0x100 + 8 else otpLockBit k.tgt
      if s.otpLock b then s.progRefused k 0 stLOCKED
      else if 0x100 ≤ k.tgt then (s.setOtpLock b).lockDone k
      else if s.lockRefused k.tgt then s.progRefused k (otpRegion k.tgt).1 stLOCKED_REFUSED
      else
        let d := s.otpDigest k.tgt
        let (a, c) := digestWords k.tgt
        (((s.setOtpWord a (BitVec.ofNat 32 d.1) false).setOtpWord c (BitVec.ofNat 32 d.2) false).setOtpLock b).lockDone k

/-- OTP_LOCK. -/
def execOtpLock (k : Packet) (s : State) : Host.Outcome State Fault Refusal := .next (s.serve k (·.cmdOtpLock k))

end Sys2Proof.Machine
end

