-- ==== Sys2Proof/Machine/PairLogic.lean ====
section
/-! DEFINITION. The pair logic (chapter 19): who drives the shared outputs, the OWN heartbeat, claims, yields and the
veto, taking the ports over, planned hand-over, and the Selvedge link. -/

namespace Sys2Proof.Machine

/-- The member is a pair member: neither alone, nor refused, nor gone. -/
def State.pairMember (s : State) : Bool := decide (s.rd PAIR.PAIR_STATE 0 ∉ [psSolo, psRefused, psLeft])

/-- PAIR_STATE. -/
def State.pairState (s : State) (n : Nat) : State := s.wr PAIR.PAIR_STATE 0 n

/-- PAIR_ROLE is secondary. -/
def State.secondary (s : State) : Bool := s.on PAIR.ROLE 0

/-! ## Releasing and driving the shared outputs (R461, R471) -/

/-- A port of a member that does not drive: gate, PWM, CC and VCONN at high impedance, Marl in HALT, PHY in shadow
listening. (DEDUCED, assumption 58) -/
def State.yieldPort (s : State) (p : Port) : State :=
  let s1 := ((((s.endVdm p stABORTED []).gateOff p).dsgOff p).guardTo p gYielded).halt p 5
  let s2 := ((s1.vconnOff p).flag PD.SHADOW p true).wr PD.PD_STATE p pdShadow
  ((s2.cc p fun c => { c with pres := .open_, want5v := false }).phy p fun _ => PhySt.reset).pe p (fun e =>
    { e with await := .none, trans := none, epr := .none, hr := .none }) |>.swp p fun w =>
      { w with step := .none, want := [], acked := false }

/-- A feed of a member that does not drive; a switchover or insertion of its own ends.  A latch that stands is kept (R317). -/
def State.yieldFeed (s : State) (f : Feed) : State :=
  let s1 := (s.feedGateOff f).flag FEED.SWITCHING 0 false
  (s1.modFeed f fun x => { x with held := if s.feedStands f then s.feedLatch f else 0 }).wr FEED.FD_STATE f fYielded

/-- The driver enables are at high impedance: none is driven high (R242, R461). -/
def State.yieldDrivers (s : State) : State :=
  if s.rd PWM.DRV_EN 0 = 0 then s else (s.wr PWM.DRV_EN 0 0).irq PWM.page 0 PWM.IRQ_DRV_CHANGE

/-- MIRROR_OK: its fall raises MIRROR_LOST and lets guarded messages go (R469, R470). -/
def State.setMirror (s : State) (v : Bool) : State :=
  let s1 := (s.flag PAIR.MIRROR_OK 0 v).flag LEDGER.MIRROR 0 v
  if s.on PAIR.MIRROR_OK 0 && !v then (s1.irq PAIR.page 0 PAIR.IRQ_MIRROR_LOST).forPorts allPorts State.pump else s1

/-- The member releases its shared outputs; its mirror is to be loaded anew (R479). (DEDUCED, assumption 58) -/
def State.releaseOutputs (s : State) : State :=
  let s1 := (((s.forPorts allPorts State.yieldPort).yieldFeed 0).yieldFeed 1).yieldDrivers
  let s2 := ((s1.flag PAIR.OWNER 0 false).wr PAIR.STALE 0 0xFFFFFFFF).setMirror false
  (s2.pr fun x => { x with groupAt := Vector.replicate 4 none, taking := false, epochAt := none }).forPorts allPorts fun t p =>
    t.modPort p fun x => { x with img := none }

/-- The member becomes standby. (DEDUCED, assumption 91) -/
def State.toStandby (s : State) : State := s.releaseOutputs.pairState psStandby

/-- A yield (R475, R480): 1 to a claim, 2 planned. -/
def State.yieldTo (s : State) (why : Nat) : State :=
  ((s.toStandby.event EV.PAIR_YIELDED 0xFF why 0 0 0).bump PAIR.YIELD_CNT 0).irq PAIR.page 0 PAIR.IRQ_YIELDED

/-! ## Resuming a port (R477, R478) -/

/-- The guard goes on from its mirrored state. -/
def State.resumeGuard (s : State) (p : Port) (i : LoopImg) : State :=
  let s1 := s.grd p fun g => { g with
    heat := i.heat, limit := i.limit, closing := .none, openWait := .none, retryRun := decide (i.guard = gTripped)
    retryElapsed := false, trips := List.replicate i.retries s.up }
  let s2 := (s1.wr GUARD.RETRIES p i.retries).flag GUARD.DSG_ON p i.dsg
  if i.guard = gOn then
    ((s2.guardTo p gOn).flag GUARD.GATE_OFF p false).grd p fun g => { g with closing := .resumed }
  else if i.guard ∈ [gPrecheck, gRamp, gEnhance, gOpenWait] then
    (s2.toDischarge p).cc p fun c => { c with want5v := decide (i.guard ≠ gOpenWait) }
  else s2.guardTo p (if i.guard = gYielded then gOff else i.guard)

/-- Marl goes on: past outputs at the last d less ff, past errors 0, the rest from the mirror, k at 0. -/
def State.resumeLoop (s : State) (p : Port) (i : LoopImg) : State :=
  let s1 := s.loop p fun l =>
    let u := i.d - feedForward (s.on LOOP.FF_EN p) l.vconv s.busV (mMax l.table)
    { l with
      u1 := u, u2 := u, u3 := u, e1 := 0, e2 := 0, e3 := 0, xV := i.xV, xP := i.xP, xFl := i.xFl, xCe := i.xCe
      xDr := i.xDr, iAvg := i.iAvg, pAvg := i.pAvg, vsp := i.vsp, law := Law.ofCode i.law, sel := Law.ofCode i.law
      k := 0, acc := [], d := i.d, first := false }
  ((s1.wr LOOP.V_TARGET p i.vTarget).flag LOOP.FROZEN p i.frozen).wr LOOP.SET_IN_USE p i.set

/-- Marl re-seeded from the port's own samples: V_SP at the measured VCONV and d at ff. -/
def State.reseedLoop (s : State) (p : Port) : State :=
  s.loop p fun l =>
    let ff := feedForward (s.on LOOP.FF_EN p) l.vconv s.busV (mMax l.table)
    { l.cleared with d := ff }

/-- Limits of the port's contract, as its Twill writes them. -/
def State.resumeLimits (s : State) (p : Port) : State :=
  match (s.port p).pe.contract with
  | some c =>
    if s.rd CC.PWR_ROLE p = 2 then s.wr LOOP.I_REV_LIM p c.ma
    else (s.wr LOOP.I_FWD_LIM p (s.contractLimit p c)).wr LOOP.I_REV_LIM p 2000
  | none =>
    if s.rd CC.PWR_ROLE p = 1 then (s.wr LOOP.I_FWD_LIM p (s.implicitLimit p)).wr LOOP.I_REV_LIM p 2000 else s

/-- Marl starts in a mode; DRV_SETUP is waived (R476). -/
def State.resumeMode (s : State) (p : Port) (m : Nat) : State :=
  let s1 := s.wr LOOP.HALT_CAUSE p (if s.tripStands p then 2 else if s.heldSafe p then 4 else 1)
  if m = 0 then (s1.wr LOOP.MODE p 0).loop p fun l => { l with modeDue := false }
  else ((s1.setMode p m).latchMode p).modPort p fun x => { x with pwm := { x.pwm with wait := false } }

/-- Twill leaves PD_SHADOW for the state of its cache entry. -/
def State.resumeTwill (s : State) (p : Port) (pres : Pres) : State :=
  let att := s.on CC.ATTACHED p
  let src := s.rd CC.PWR_ROLE p = 1
  let tc := if att then (if src then tcAttachedSrc else tcAttachedSnk)
    else match pres with
      | .open_ => tcDisabled
      | .rd => tcUnattachedSnk
      | _ => tcUnattachedSrc
  let pd := if !att || !s.on PD.PD_EN p then pdOff
    else if s.explicit p then s.pdReady p else if src then pdNegotiating else pdWaitCaps
  let s1 := ((s.flag PD.SHADOW p false).wr CC.TC_STATE p tc).wr PD.PD_STATE p pd
  (if att || pres ≠ .open_ then s1.wrBit SYS.EN 0 p true else s1).present p pres

/-- The in-flight flag decides: SWAP leads to Hard Reset, TRANSITION goes on from the ramp (R477). -/
def State.resumeInflight (s : State) (p : Port) (planned : Bool) : State :=
  let e := (s.port p).pe
  match e.inflight, e.contract, e.rdo with
  | .none, _, _ => s
  | .swap, _, _ => if planned then s else s.sendHardReset p
  | .transition, some c, some r =>
    (s.pe p fun e => { e with trans := some ⟨.ramping, milliU (s.port p).loop.vsp, c, r⟩ }).wr PD.PD_STATE p pdTransition
  | .transition, _, _ => s

/-- PD_MSGID of the port is written as a word (R478). -/
def State.setMsgIds (s : State) (p : Port) (w : Nat) : State :=
  [PD.TX_SOP, PD.TX_SOPP, PD.TX_SOPPP, PD.RX_SOP, PD.RX_SOP_VLD, PD.RX_SOPP, PD.RX_SOPP_VLD, PD.RX_SOPPP,
    PD.RX_SOPPP_VLD].foldl (fun t F => t.wr F p (w / 2 ^ F.lo)) s

/-- A partner's message still unanswered is answered within its deadline of 10 ms (R73, R478). (DEDUCED, assumption 60) -/
def State.answerHeld (s : State) (p : Port) : State :=
  let live := fun (x : RxSlot) => decide ((s.time + 2 ^ 32 - x.time) % 2 ^ 32 ≤ 10000000)
  (s.phy p fun y => { y with rx := y.rx.filter live }).drain p

/-- The new owner resumes a port (R477). In a planned hand-over no Hard Reset is sent (R480). (DEDUCED, assumption 59) -/
def State.resumePort (planned : Bool) (s : State) (p : Port) : State :=
  let x := s.port p
  let stale := s.bit PAIR.STALE 0 p
  let fresh := x.img.isSome && !stale
  if s.on GUARD.RETIRE p then (((s.flag PD.SHADOW p false).guardTo p gOff).retirePort p).resumeMode p 0
  else if x.pe.cacheOk = false ∨ (fresh = false ∧ s.heldSafe p = true) then
    (((s.flag PD.SHADOW p false).toDischarge p).resumeMode p 0).safeState p 4
  else match x.img, stale with
    | some i, false =>
      let s1 := (((s.resumeGuard p i).resumeLoop p i).resumeLimits p).setMsgIds p i.ids
      let s2 := ((s1.flag CC.VCONN_ON p i.vconn).resumeTwill p i.pres).resumeMode p i.mode
      let s3 := if s2.heldSafe p then s2.safeState p 4 else (s2.answerHeld p).resumeInflight p planned
      s3.modPort p fun y => { y with img := none }
    | _, _ =>
      if !s.on CC.ATTACHED p then (((s.flag PD.SHADOW p false).toDischarge p).resumeMode p 0).enterUnattached p
      else
        let src := s.rd CC.PWR_ROLE p = 1
        let s1 := ((s.guardTo p gOn).flag GUARD.GATE_OFF p false).grd p fun g => { g with closing := .resumed }
        let s2 := ((s1.reseedLoop p).resumeLimits p).resumeTwill p (if src then rpOf (s.rd CC.RP_SEL p) else .rd)
        let s3 := s2.resumeMode p (if src then mSource else if s.island.isSome then mBusForm else mSink)
        if planned then s3 else s3.sendHardReset p

/-- The feed that SEL names conducts again; the other rests, RETIRED if it is in the retired mask, TRIPPED or LATCHED if it was
when the member yielded (R317). -/
def State.resumeFeed (s : State) (f : Feed) : State :=
  if s.retiredFeeds.getLsbD f.val then s.wr FEED.FD_STATE f fRetired
  else if (s.feed f).held = fTripped ∨ (s.feed f).held = fLatched then s.wr FEED.FD_STATE f (s.feed f).held
  else if s.selected f then
    ((s.wr FEED.FD_STATE f fOn).flag FEED.FD_GATE_OFF f false).flag FEED.FD_GATE_ON f true
  else (s.wr FEED.FD_STATE f fAbsent).restFeed f

/-- The member drives its shared outputs. (DEDUCED, assumption 59) -/
def State.drive (s : State) : State :=
  let s1 := ((s.flag PAIR.OWNER 0 true).pairState psOwner).pr fun x => { x with taking := true }
  (s1.resumeFeed 0).resumeFeed 1

/-- The session of a port goes on at the new owner: in the mirrored record that the port's session had attached, or with its
key still to be formed (R342). (DEDUCED, assumption 59) -/
def State.resumeSession (s : State) (p : Port) : State :=
  if s.explicit p = false ∨ (s.port p).sess.isOpen = true then s
  else
    let s1 := s.openSession p
    match s.led.recs.find? fun x => recFlag x.2 rfAttached && x.2.lastPort == p.val with
    | some (slot, r) =>
      let s2 := s1.sess p fun y => { y with slot := some slot, known := true, order := s1.nextOrder p slot }
      ((s2.wr LEDGER.SLOT p slot).wr LEDGER.EOL p r.eol).wr LEDGER.AUTH_STATE p r.auth
    | none => s1

/-- Every port goes on; energy is credited from the last mirrored reading (R342). -/
def State.resumeAll (s : State) (planned : Bool) : State :=
  let s1 := s.pr fun x => { x with taking := false }
  s1.forPorts allPorts fun t p => ((t.resumePort planned p).modPort p fun x =>
    let e : Int := (s.pair.accum[p.val]?).getD 0
    { x with bud := { x.bud with energy := e * 2 ^ 48 * 10 ^ 6, seen := e } }) |>.resumeSession p

/-! ## Heartbeat, claims, yields, veto (R473 to R475) -/

/-- OWN_OUT_TOGGLE: OWN_OUT toggles every 50 µs while HB_ENABLE is set; `edge` says whether OWN_IN has shown an edge since
the last one. (DESIGN CHOICE, assumption 54) -/
def execOwnOutToggle (edge : Bool) (s : State) : Host.Outcome State Fault Refusal :=
  .next (
    let s1 := if s.on PAIR.HB_ENABLE 0 then s.pr fun x => { x with ownOut := !x.ownOut } else s
    if edge && s.pairMember then
      ((s1.flag PAIR.OWN_IN_OK 0 true).flag PAIR.PARTNER_GONE 0 false).pr fun x =>
        { x with seen := true, blocked := false, edgeAt := s.up }
    else s1)

/-- A standby may claim: its heartbeat enabled, its key valid, no vetoed claim standing, and a secondary only after it
has seen OWN_IN toggle or waited 5 s (R474). -/
def State.mayClaim (s : State) : Bool :=
  s.standby && s.on PAIR.HB_ENABLE 0 && s.pair.key.isSome && !s.pair.blocked && !s.pair.left
    && (!s.secondary || s.pair.seen || s.pair.waited)

/-- A claim starts: YIELD_OUT is asserted. (DEDUCED, assumption 91) -/
def State.startClaim (s : State) : State :=
  if s.mayClaim then
    (((s.flag PAIR.YIELD_OUT 0 true).flag PAIR.VETOED 0 false).pairState psClaiming).pr fun x =>
      { x with claimAt := some s.up, veto := false }
  else s

/-- OWN_IN_LOSS: no edge of OWN_IN for 200 µs. (DEDUCED, assumption 55) -/
def execOwnInLoss (s : State) : Host.Outcome State Fault Refusal :=
  .next (
    if !s.pairMember then s
    else
      let s1 := s.flag PAIR.OWN_IN_OK 0 false
      if s1.pairOwner then s1.flag PAIR.PARTNER_GONE 0 true else s1.startClaim)

/-- SECONDARY_CLAIM_WAIT: a secondary in STANDBY has seen no toggle for 5 s. -/
def execSecondaryClaimWait (s : State) : Host.Outcome State Fault Refusal :=
  .next (
    if s.standby && s.secondary && !s.pair.seen then
      let s1 := s.pr fun x => { x with waited := true }
      if s1.on PAIR.OWN_IN_OK 0 then s1 else s1.startClaim
    else s)

/-- CLAIM_COMPLETE: 20 µs after YIELD_OUT the claimer owns and drives; `us` is the time from the last OWN_IN edge. -/
def execClaimComplete (us : BitVec 16) (s : State) : Host.Outcome State Fault Refusal :=
  .next (if s.rd PAIR.PAIR_STATE 0 = psClaiming then s.drive.wr PAIR.DRIVE_US 0 us.toNat else s)

/-- YIELD_OUT_RELEASE: 120 µs after a claim's assertion, or at the end of a veto's pulse. -/
def execYieldOutRelease (s : State) : Host.Outcome State Fault Refusal :=
  .next (
    if s.rd PAIR.PAIR_STATE 0 = psClaiming then s
    else (s.flag PAIR.YIELD_OUT 0 false).pr fun x => { x with claimAt := none, veto := false })

/-- A hand-over under way is abandoned: the member keeps its role (R480). -/
def State.handoverEnds (s : State) (status : Nat) : State :=
  match s.pair.handover with
  | some h => ((s.pr fun x => { x with handover := none }).pairState psOwner).answer h.pkt status |>.forPorts allPorts State.pump
  | none => s

/-- A veto is recorded: 1 here, 2 by the partner. -/
def State.vetoEvent (s : State) (who : Nat) : State :=
  ((s.event EV.PAIR_VETO 0xFF who 0 0 0).bump PAIR.VETO_CNT 0).irq PAIR.page 0 PAIR.IRQ_VETO

/-- YIELD_IN changes its level: a claiming secondary ends its claim, an owner yields (a hand-over of its own is then
abandoned), and a primary owner with VETO_ARM vetoes (R474, R475, R480). -/
def execYieldIn (level : Bool) (s : State) : Host.Outcome State Fault Refusal :=
  .next (
    let s1 := s.flag PAIR.YIELD_IN 0 level
    if !level then s1
    else if s1.rd PAIR.PAIR_STATE 0 = psClaiming then
      if s1.secondary then
        (((s1.flag PAIR.YIELD_OUT 0 false).flag PAIR.VETOED 0 true).pairState psStandby).pr (fun x =>
          { x with claimAt := none, blocked := true }) |>.vetoEvent 2
      else s1
    else if !s1.pairOwner then s1
    else if !s1.secondary && s1.on PAIR.VETO_ARM 0 then
      ((s1.flag PAIR.YIELD_OUT 0 true).pr fun x => { x with veto := true }).vetoEvent 1
    else (s1.handoverEnds stABORTED).yieldTo 1)

/-- TAKEOVER: the new owner has resumed every port `us` after the last OWN_IN edge (R477 to R479). -/
def execTakeover (us : BitVec 16) (s : State) : Host.Outcome State Fault Refusal :=
  .next (
    if !s.pair.taking then s
    else
      let st := s.rd PAIR.STALE 0
      let s1 := (s.resumeAll false).wr PAIR.DONE_US 0 us.toNat
      ((s1.event EV.PAIR_TAKEOVER 0xFF (s.rd PAIR.DRIVE_US 0) us.toNat st 0).bump PAIR.TAKEOVER_CNT 0).irq PAIR.page 0
        PAIR.IRQ_TAKEOVER)

/-! ## The Selvedge link (R465, R466) -/

/-- LINK_STATE of Selvedge. -/
def State.selState (s : State) (st : Nat) : State := s.wr PAIR.LINK_STATE 0 st

/-- PAIR_LINK. -/
def State.selEvent (s : State) : State :=
  s.event EV.PAIR_LINK 0xFF (s.rd PAIR.LINK_STATE 0) (s.rd PAIR.RETX_CNT 0) 0 0

/-- Selvedge goes DOWN. -/
def State.selDown (s : State) : State :=
  if s.rd PAIR.LINK_STATE 0 = lkDown then s
  else
    let up := s.linkUp
    let s1 := (s.selState lkDown).pr fun x => { x with
      unacked := [], resends := 0, hellos := 0, proved := false, coming := none, heard := (0, []) }
    let s2 := (s1.setMirror false).handoverEnds stABORTED
    if up then (s2.selEvent.bump PAIR.LINK_DOWN_CNT 0).irq PAIR.page 0 PAIR.IRQ_LINK_DOWN else s2

/-- LINK_DOWN: a fabric link, or Selvedge, is lost (R435). -/
def execLinkDown (k : AnyLink) (w : LinkLoss) (s : State) : Host.Outcome State Fault Refusal :=
  .next (match k with
    | .weft l => s.weftDown l w
    | .selvedge => s.selDown)

/-- The owner sends a full mirror: LOOP, CACHE, STATE and TABLE (R479). (DEDUCED, assumption 56) -/
def State.fullMirror (s : State) : State :=
  let s1 := s.forPorts allPorts fun t p => (t.sendCache p).selReliable (.table p (t.port p).loop.table)
  let s2 := ([0, 1, 2, 3].foldl (fun (t : State) (g : Fin 4) => (t.sendLoop g false).pr fun x =>
    { x with groupAt := x.groupAt.set g (some s.up) g.isLt }) s1).selPeriodic (.state s1.stateImg)
  s2.setMirror true

/-- Selvedge may train: a pair member with a valid key, out of reset (R464, R481). -/
def State.selMay (s : State) : Bool :=
  s.pairMember && s.pair.key.isSome && decide (s.dev ≠ .warmReset)

/-! HELLO (R463) -/

/-- The first 16 bytes of HMAC-SHA-256 over both nonces under the pair key, as the holder of the nonce `own` forms it.
(DESIGN CHOICE, assumption 5) -/
def State.proofOf (s : State) (own other : List Byte) : List Byte :=
  match s.pair.key with
  | some k => (hmacSha256 k (Config.proofBytes own other)).take 16
  | none => []

/-- The member sends a HELLO frame, with its proof once it has the other's nonce. (DEDUCED, assumption 117) -/
def State.sendHello (s : State) : State :=
  let x := s.pair
  let h : Hello :=
    { role := s.rd PAIR.ROLE 0, owner := s.pairOwner, serial := s.rd SYS.SERIAL_LO 0 + 2 ^ 32 * s.rd SYS.SERIAL_HI 0
      nonce := x.nonce, proof := if x.theirs.isEmpty then [] else s.proofOf x.nonce x.theirs }
  s.pr fun y => { y with sent := some (.hello h), hellos := y.hellos + 1 }

/-- SELVEDGE_TRAINING: UP needs 16 HELLO frames and the partner's proof (R465). (DEDUCED, assumption 117) -/
def execSelvedgeTraining (e : LinkEvent) (s : State) : Host.Outcome State Fault Refusal :=
  .next (
    let st := s.rd PAIR.LINK_STATE 0
    if !s.selMay then s
    else match e with
      | .signal =>
        if st = lkDown then (s.fresh.2.selState lkAlign).pr fun x => { x with
          nonce := (Config.nonce s.freeCount).toList.take 16, theirs := [], hellos := 0, proved := false, seq := 0, rxSeq := 0, unacked := [] }
        else s
      | .aligned => if st = lkAlign then (s.selState lkTrain).sendHello else s
      | .trained =>
        if st = lkTrain ∧ s.pair.proved = true ∧ 16 ≤ s.pair.hellos then
          let s1 := (s.selState lkUp).selEvent
          if s1.pairOwner then s1.fullMirror else s1
        else s)

/-- SELVEDGE_RETRANSMIT: an unacknowledged frame is sent again after 20 µs; the eighth time takes the link DOWN. -/
def execSelvedgeRetransmit (s : State) : Host.Outcome State Fault Refusal :=
  .next (
    if !s.linkUp || s.pair.unacked.isEmpty then s
    else
      let s1 := (s.bump PAIR.RETX_CNT 0).pr fun x => { x with resends := x.resends + 1 }
      if 8 ≤ s1.pair.resends then s1.selDown else s1)

/-- Every LOOP group is within 2 × MIRROR_INT (R470). -/
def State.groupsFresh (s : State) : Bool :=
  s.pair.groupAt.toList.all fun x => match x with
    | some t => decide (s.up ≤ t + 2000 * s.rd PAIR.MIRROR_INT 0)
    | none => false

/-- LOOP_FRAME_SEND: the owner sends a group's frame every MIRROR_INT. -/
def execLoopFrameSend (g : Fin 4) (s : State) : Host.Outcome State Fault Refusal :=
  .next (
    if s.pairOwner && s.linkUp then
      let s1 := (s.sendLoop g false).pr fun x => { x with groupAt := x.groupAt.set g (some s.up) g.isLt }
      s1.setMirror s1.groupsFresh
    else s)

/-- MIRROR_LOST: a LOOP group has not arrived within 2 × MIRROR_INT. -/
def execMirrorLost (s : State) : Host.Outcome State Fault Refusal :=
  .next (if s.on PAIR.MIRROR_OK 0 then s.setMirror false else s)

/-- LOOP_DATA_STALE: a standby's LOOP data of a port is more than 10 ms old. -/
def execLoopDataStale (p : Port) (s : State) : Host.Outcome State Fault Refusal :=
  .next (if s.standby then s.wrBit PAIR.STALE 0 p true else s)

/-! ## URGENT (R472) -/

/-- STOP[n] of the partner's frame: a set bit stops the port, and a bit that falls is the partner's RELEASE. -/
def State.urgentStop (s : State) (p : Port) (now was : Bool) : State :=
  if now then s.stopPort p
  else if was && s.stopped p then
    let s1 := s.setStop p false
    if s.standby then s1 else s1.safeRelease p
  else s

/-- SHED[n] of the partner's frame, where the partner has changed it. -/
def State.urgentShed (s : State) (p : Port) (now was : Bool × Nat × Nat × Nat) : State :=
  if now = was then s
  else (((s.flag BUDGET.VALID p now.1).wr BUDGET.SRC p now.2.1).wr BUDGET.P_SHED p now.2.2.1).wr BUDGET.I_SHED p now.2.2.2

/-- STOP[n] and SHED[n] as the partner sends them join the member's own, so that both members hold the union; a change goes
back to the partner. (DEDUCED, assumption 177) -/
def State.applyUrgent (s : State) (stop : Word) (shed : List (Bool × Nat × Nat × Nat)) : State :=
  let was := s.pair.heard
  let s1 := s.forPorts allPorts fun t p =>
    (t.urgentStop p (stop.getLsbD p) (was.1.getLsbD p)).urgentShed p (shed.getD p (was.2.getD p (false, 0, 0, 0)))
      (was.2.getD p (false, 0, 0, 0))
  let s2 := s1.pr fun x => { x with heard := (stop, shed) }
  if s2.urgentImg = s.urgentImg then s2 else s2.sendUrgent

/-- URGENT: the partner's stop-lane change is applied within 10 µs. -/
def execUrgent (stop : Word) (shed : List (Bool × Nat × Nat × Nat)) (s : State) : Host.Outcome State Fault Refusal :=
  .next (if s.linkUp then s.applyUrgent stop shed else s)

/-! ## Planned hand-over (R480, R481) -/

/-- A port shows SWAP, TRANSITION or an EPR entry. -/
def State.handoverBusy (s : State) : Bool :=
  allPorts.any fun p => let e := (s.port p).pe; e.inflight != .none || e.trans.isSome || e.epr != .none

/-- A HANDOVER frame. -/
def selIsHandover : SelBody → Bool
  | .handover _ _ => true
  | _ => false

/-- PAIR_HANDOVER_DONE in both members, with the new owner's ROLE. -/
def State.handoverDone (s : State) (role : Nat) : State :=
  ((s.event EV.PAIR_HANDOVER_DONE 0xFF role 0 0 0).bump PAIR.HANDOVER_CNT 0).irq PAIR.page 0 PAIR.IRQ_HANDOVER_DONE

/-- A member leaves the pair (R481). -/
def State.leavePair (s : State) (persist : Bool) : State :=
  let s1 := ((s.releaseOutputs.flag PAIR.HB_ENABLE 0 false).flag PAIR.VETO_ARM 0 false).pairState psLeft
  (s1.pr fun x => { x with left := persist, key := none }).selDown

/-- T_H at the owner: it releases its outputs, or abandons the hand-over. -/
def State.handoverInstant (s : State) (h : HoSt) : State :=
  if h.final && !s.handoverBusy && !(s.pair.unacked.any fun x => selIsHandover x.2) then
    let s1 := (s.pr fun x => { x with handover := none }).yieldTo 2 |>.handoverDone (1 - s.rd PAIR.ROLE 0)
    (if h.leave then s1.leavePair h.persist else s1).answer h.pkt stOK
  else s.handoverEnds stABORTED

/-- HANDOVER: the steps of *Planned hand-over*, and at T_H + 0.5 µs the former standby's drive. -/
def execHandover (e : HoEvent) (s : State) : Host.Outcome State Fault Refusal :=
  .next (
    match s.pair.handover with
    | some h =>
      match e with
      | .start t =>
        if s.handoverBusy ∨ h.at_.isSome then s
        else (s.pr fun x => { x with handover := some { h with at_ := some t } }).selReliable (.handover t false)
      | .finalFrames =>
        match h.at_ with
        | some t =>
          let s1 := [0, 1, 2, 3].foldl (fun (u : State) (g : Fin 4) => u.sendLoop g true) s
          (s1.pr fun x => { x with handover := some { h with final := true } }).selReliable (.handover t true)
        | none => s
      | .instant => if h.at_.isSome then s.handoverInstant h else s
      | .timeout => if s.handoverBusy && h.at_.isNone then s.handoverEnds stBUSY else s
    | none =>
      match e, s.pair.coming with
      | .instant, some (_, true) =>
        if s.standby then
          (((s.pr fun x => { x with coming := none }).drive).resumeAll true).handoverDone (s.rd PAIR.ROLE 0)
        else s
      | _, _ => s)

/-- A hand-over begins: its command waits (R480). -/
def State.beginHandover (s : State) (k : Packet) (leave persist : Bool) : State :=
  if !s.pairOwner || !s.on PAIR.MIRROR_OK 0 then s.answer k stDENIED
  else if s.pair.handover.isSome then s.answer k stBUSY
  else (s.pr fun x => { x with handover := some ⟨k, s.up, leave, persist, none, false⟩ }).pairState psHandover

/-- PAIR_HANDOVER (R480). -/
def State.cmdPairHandover (s : State) (k : Packet) : State :=
  s.formed k (k.chip && k.plain) fun s => s.beginHandover k false false

/-- PAIR_HANDOVER. -/
def execPairHandover (k : Packet) (s : State) : Host.Outcome State Fault Refusal := .next (s.serve k (·.cmdPairHandover k))

/-- PAIR_LEAVE (R481): an owner first hands over; a member that neither owns nor stands by leaves at once.
(DEDUCED, assumption 57) -/
def State.cmdPairLeave (s : State) (k : Packet) : State :=
  s.offStandby k fun s => s.formed k (k.payload.isEmpty && decide (k.ar ≤ 1)) fun s =>
    if !s.pairMember then s.answer k stDENIED
    else if s.pairOwner then s.beginHandover k true (k.ar == 1)
    else (s.leavePair (k.ar == 1)).answer k stOK

/-- PAIR_LEAVE. -/
def execPairLeave (k : Packet) (s : State) : Host.Outcome State Fault Refusal := .next (s.serve k (·.cmdPairLeave k))

/-- PAIR_STATUS (R484): the image of PAIR offsets 0x040 to 0x13F, in every state. -/
def State.cmdPairStatus (s : State) (k : Packet) : State := s.respond k stOK (s.pageImage 0xB 0 0x40 64)

/-- PAIR_STATUS. -/
def execPairStatus (k : Packet) (s : State) : Host.Outcome State Fault Refusal := .next (s.serve k (·.cmdPairStatus k))

end Sys2Proof.Machine
end

