-- ==== Sys2Proof/Machine/PowerOps.lean ====
section
/-! DEFINITION. Resets and power states as shared operations (chapters 1, 20, 22): the start of a warm reset, entering and
leaving SAFE, a cold reset, enabling a port, and loading tables, marks and masks at a start. -/

namespace Sys2Proof.Machine

/-! ## Enabling a port (R369, R214) -/

/-- The port's LOOP registers that a host wrote while it was disabled return to the writer's own values, with MODE 0. -/
def State.restoreWriters (s : State) (p : Port) : State :=
  let s1 := (s.port p).overrides.foldl (fun t x => if t.rd x.1 p = x.2.2 then t.wr x.1 p x.2.1 else t) s
  let s2 := (s1.modPort p fun x => { x with overrides := [] }).rateNow p
  if s.rd LOOP.MODE p = 0 then s2 else s2.setMode p 0

/-- The conditions under which PORT_ENABLE is OK (R369).  A member whose pair mode is refused is held while OWN_IN
toggles, and may serve its ports once it does not (R461, R520).  The scrub pass, KIND 3, is no disruptive test
(R561). (DEDUCED, assumption 73) -/
def State.mayEnable (s : State) (p : Port) : Bool :=
  s.ownsPorts && !s.on SYS.TRIM_FAIL 0 && decide (s.dev ≠ .safe) && !s.pow.intoSafe
    && !(s.rd TEST.STATE 0 == 1 && s.rd TEST.LAST_KIND 0 != 3) && s.gst p != gRetired && !s.portUnwatched p && s.rd CC.ROLE p != 0

/-- PORT_EN is set: the owning Twill leaves Disabled for the Unattached state of the port's ROLE; a stopped, forced or
latched port stays in ErrorRecovery; a member that drives no outputs only keeps the bit. (DEDUCED, assumption 73) -/
def State.portEnable (s : State) (p : Port) : State :=
  if s.enabled p then s
  else
    let s1 := (s.restoreWriters p).wrBit SYS.EN 0 p true
    if s1.gst p = gYielded then s1
    else if s1.heldSafe p || s1.tripStands p then
      (s1.wr CC.TC_STATE p tcErrorRecovery).present p (if s1.heldSafe p then s1.safeTerm p else .open_)
    else s1.enterUnattached p

/-- Ports of the CONFIG AUTO_EN mask are enabled as if by PORT_ENABLE (R157, R369). -/
def State.autoEnable (s : State) : State :=
  s.forPorts allPorts fun t p =>
    if !t.configFailed && (t.otpField 4 3).testBit p && t.mayEnable p then t.portEnable p else t

/-! ## Tables, masks and marks (R212, R284, R304, R317) -/

/-- Loam loads all 32 tables into both engines, while neither runs a port. -/
def State.loadTables (s : State) : State :=
  s.forPorts allPorts fun t p => ((t.loadTable p (t.startTable p)).tableGood p).rerate p

/-- The retired masks of the flash policy area are in force. -/
def State.restoreRetired (s : State) : State :=
  let s1 := s.forPorts (allPorts.filter fun p => s.retiredMask.getLsbD p) State.retirePort
  ([0, 1] : List Feed).foldl (fun t f => if s.retiredFeeds.getLsbD f then t.wr FEED.FD_STATE f fRetired else t) s1

/-- Housekeeping moves to the converter that spares it, for good (R231). -/
def State.hkMoves (s : State) : State := (s.wr ADC.HK_ADC 0 s.hkSpare).wr ADC.COVERED 0 15

/-- A FAILED mark is restored. -/
def State.restoreMark (s : State) (i : Nat) : State :=
  if 136 ≤ i then
    let k := i - 136
    let s1 := (s.wrBit ADC.FAILED 0 k true).flag ADC.ROT_LOST 0 true
    if k = 8 then s1.hkMoves
    else if s1.keptGroup k then s1 else s1.wr ADC.COVERED 0 k
  else
    let m := monOf i
    let s1 : State := match monMark m with
      | some (F, p) => s.flag F p true
      | none => { s with chipFailed := s.chipFailed ||| BitVec.ofNat 8 (2 ^ (i - 128)) }
    s1.monRetires m

/-- The FAILED marks kept in flash are restored (R304). -/
def State.restoreMarks (s : State) : State :=
  { s.marks.foldl State.restoreMark s with marks := [] }

/-! ## Warm reset (R536 to R539) -/

/-- RST_CAUSE bits (R549). -/
abbrev rcPor : Nat := 0
abbrev rcPin : Nat := 1
abbrev rcBrownout : Nat := 2
abbrev rcCmd : Nat := 3
abbrev rcHeartbeat : Nat := 4
abbrev rcWdog : Nat := 5
abbrev rcCorePll : Nat := 6
abbrev rcUpdate : Nat := 7

/-- Engines of the compute domain: Loam, Twill 0 to 7, Chalk. -/
def computeCores : List Nat := [0, 1, 2, 3, 4, 5, 6, 7, 8, 11]

/-- An engine is held in reset, which clears its mailboxes (R353); one that is out of service stays so. (DEDUCED, assumption 66) -/
def State.holdCore (s : State) (e : Nat) : State :=
  if s.rd CORE.STATE e = enOff ∨ s.rd CORE.STATE e = enRetired then s
  else (s.wr CORE.STATE e enReset).resetBoxes (Fin.ofNat 16 e)

/-- What a warm reset clears of a key: IRQ_STAT and ERR_CODE of compute and link pages (R429). -/
def clearedByWarm (k : Nat) : Bool :=
  computePage (k / 2 ^ 25) && decide (k / 2 ^ 15 % 1024 = 0x14 ∨ k / 2 ^ 15 % 1024 = 0x1C)

/-- A port whose Twill is gone: what that Twill was doing is lost, the power path goes on, and the retained cache entry
says how the port resynchronises (R22, R104). -/
def State.twillLost (s : State) (p : Port) : State :=
  let due := s.on CC.ATTACHED p
  let s1 := s.pe p fun e => { e with
    await := .none, trans := none, epr := .none, eprLeaving := false, hr := .none, ppsTimer := false, eprTimer := false
    softResetSent := false, resyncDue := due }
  let s2 := (s1.swp p fun w => { w with step := .none, want := [], acked := false }).phy p fun y => { y with outbox := [] }
  if due then s2.wr PD.PD_STATE p pdResync else s2

/-- A port through the reset of the compute domain: the PHY's message logic is gone too (R65, R539). -/
def State.warmPort (s : State) (p : Port) : State :=
  let s1 := (s.twillLost p).modPort p fun x => { x with phy := .reset, test := none }
  (s1.flag PD.AMS_ACTIVE p false).wr PD.TX_RESULT p txIdle

/-- Rings emptied by a warm reset: 0 to 4 and 7 (R358). -/
def ringLost (q : Nat) : Bool := decide (q < 5 ∨ q = 7)

/-- The compute and link domains are held in reset. (DEDUCED, assumption 67) -/
def State.holdCompute (s : State) : State :=
  let s1 := computeCores.foldl State.holdCore s
  let s2 := (List.finRange 40).foldl (fun (t : State) (q : Fin 40) =>
    if ringLost q then t.setRing q { RingSt.reset with seq := (t.ring q).seq } else t) s1
  let s3 := (s2.wr RING.EPOCH 0 (s.rd RING.EPOCH 0 + 1)).forPorts allPorts State.warmPort
  let s4 : State := { s3 with
    regs := s3.regs.filter fun x => !clearedByWarm x.1
    mbox := Vector.replicate 64 .reset, staging := Vector.replicate 16 [], notice := Vector.replicate 16 0
    spi := { s3.spi with held := s3.spi.held.filter fun q => !ringLost q }
    smb := { s3.smb with del := s3.smb.del.filter fun d => !ringLost d.ring }
    weft := .reset, served2 := 0, bud := { s3.bud with seed := true }
    snap := { s3.snap with
      pend := s3.snap.pend.map fun r => { r with waiters := [] }
      drive := s3.snap.drive.map fun _ => none } }
  let s5 := ([0, 1] : List Link).foldl (fun t l =>
    if t.on (linkEn l) 0 then (t.wr (linkState l) 0 lkDown).wr (linkPeer l) 0 0 else t) s4
  let s6 := (s5.pr fun x => { x with
    unacked := [], resends := 0, hellos := 0, proved := false, coming := none, handover := none, heard := (0, []) }).selState lkDown
  let s7 := if s.rd PAIR.PAIR_STATE 0 = psHandover then s6.pairState psOwner else s6
  let s8 := (s7.setMirror false).wr TEST.PEND 0 0
  if s8.rd TEST.STATE 0 = 1 then (s8.wr TEST.STATE 0 3).wr TEST.RESULT 0 stABORTED else s8

/-- A warm reset starts (step 1 of *Warm reset*); one that runs already takes the new one in (R538).  A cold start in
progress has not yet released the domains, and takes it in as well. (DEDUCED, assumption 65) -/
def State.warmGo (s : State) : State :=
  if s.dev = .warmReset ∨ s.dev = .boot then s
  else
    let s2 := { s.holdCompute with
      dev := .warmReset, pow := { s.pow with intoSafe := s.pow.intoSafe || decide (s.dev = DevState.safe) } }
    let under := decide (s.rd BOOT.STATE 0 ∈ [1, 2, 3])
    let s3 : State := { s2 with boot := { s2.boot with exam := s2.boot.exam || under } }
    (s3.flag SYS.READY 0 false).bump RST.WARM_CNT 0

/-- A warm reset whose cause RST_CAUSE names. (DEDUCED, assumption 65) -/
def State.warmBegin (s : State) (cause : Nat) : State := (s.wrBit RST.CAUSE 0 cause true).warmGo

/-! ## SAFE (R544 to R546) -/

/-- SAFE_CAUSE codes (R549). -/
abbrev scClock : Nat := 1
abbrev scStorm : Nat := 2
abbrev scTsd : Nat := 3
abbrev scCmd : Nat := 4

/-- Configuration and status of a power-path page, which the hold of the power path clears: not its counters, its common
registers, nor the FAILED marks, which the flash keeps (R304, R428); of the TIME page neither SET nor the snapshot banks.
(DEDUCED, assumption 69) -/
def clearedBySafe (k : Nat) : Bool :=
  let off := k / 2 ^ 15 % 1024
  decide (k / 2 ^ 25 ∈ [0xD, 0xE, 0x14, 0x15, 0x102, 0x103]) && decide (0x40 ≤ off ∧ off < 0x200)
    && !decide (k / 2 ^ 25 = 0x103 ∧ off = 0x110) && !decide (k / 2 ^ 25 = 0xE ∧ off = 0x44)
  || decide (k / 2 ^ 25 = 0xA ∧ 0x40 ≤ off ∧ off < 0x68) && !decide (k = TIME.SET.key 0)

/-- Event rings, whose retention the power path holds (R21, R358). -/
def ringKept (q : Nat) : Bool := decide (q = 5 ∨ q = 6 ∨ 8 ≤ q)

/-- The power path is held in reset: its registers and state return to their reset values (R21, R544). -/
def State.holdPower (s : State) : State :=
  let s1 := s.forPorts allPorts fun t p => t.modPort p fun x => { x with
    loop := .reset, pwm := .reset, guard := .reset, bud := { x.bud with energy := 0, seen := 0 }, overrides := []
    model := { ModelSt.reset with rPrev := x.model.rPrev, trend := x.model.trend } }
  let s1 := (List.finRange 40).foldl (fun (t : State) (q : Fin 40) =>
    if ringKept q then t.setRing q { RingSt.reset with seq := (t.ring q).seq } else t) s1
  { s1 with
    regs := s1.regs.filter fun x => !clearedBySafe x.1
    tim := { TimeSt.reset with hi := s1.tim.hi }
    feeds := ⟨Vector.replicate 2 .reset, 0, 0, false, false, false, false, 0⟩, monRepeat := [], adcCheck := 0, adcRepeat := 0
    calNext := 0, adcCal := none, planned := 0, island := none, islandE := 0, returnTick := none }

/-- SAFE is entered with a cause: once, and every port and both feeds are in safe state; a pair member releases its
shared outputs (R545).  In a warm reset the reset completes into SAFE (R538). (DEDUCED, assumption 69, 70, 71) -/
def State.safeEntry (s : State) (cause : Nat) : State :=
  if s.dev = .safe ∨ s.pow.intoSafe = true then s
  else
    let m := s.pairMember
    let s1 := ((s.handoverEnds stABORTED).forPorts allPorts State.disable).holdPower
    let s2 := ([9, 10] : List Nat).foldl State.holdCore s1
    let s3 := if m then
        (((s2.flag PAIR.HB_ENABLE 0 false).flag PAIR.VETO_ARM 0 false).flag PAIR.YIELD_OUT 0 false).toStandby
      else if s2.rd PAIR.PAIR_STATE 0 = psLeft then s2.releaseOutputs
      else (s2.forPorts allPorts fun t p => t.present p (t.safeTerm p))
    let s4 := (s3.wr RST.SAFE_CAUSE 0 cause).wrBit RST.CAUSE 0
      (if cause = scTsd then 8 else if cause = scClock then 9 else 10) true
    let s5 := ((s4.event EV.SAFE_ENTERED 0xFF cause (wd (s.rdI ADC.T_DIE 0)) 0 0).bump RST.SAFE_CNT 0).irq RST.page 0
      RST.IRQ_SAFE
    let s6 : State := { s5 with pow := { s5.pow with safeAt := s.up, intoSafe := decide (s.dev = .warmReset ∨ s.dev = .boot) } }
    if s.dev = .warmReset ∨ s.dev = .boot then s6
    else if s.dev = .recovery then { s6 with dev := .safe }
    else { s6.flag SYS.READY 0 true with dev := .safe }

/-- The cause of SAFE has cleared (R546). -/
def State.safeCleared (s : State) : Bool :=
  let c := s.rd RST.SAFE_CAUSE 0
  if c = scClock then s.on CLK.CORE_LOCK 0 && s.on CLK.PWM_LOCK 0 && s.on CLK.XIN_OK 0
  else if c = scTsd then decide (s.rdI ADC.T_DIE 0 < ((s.rd RST.TSD 0 : Nat) - 20) * 10)
  else true

/-- A Marl engine starts, unless it is out of service. -/
def State.startMarl (s : State) (e : Fin 2) : State :=
  if s.rd CORE.STATE (9 + e.val) = enRetired ∨ s.engineOut (9 + e.val) = true then s.wr (engState e) 0 2
  else (s.wr CORE.STATE (9 + e.val) enRun).wr (engState e) 0 1

/-- Both Marl engines start, and carry their default ports, or all 32 where only one runs. -/
def State.startMarls (s : State) : State :=
  let s1 := (s.startMarl 0).startMarl 1
  let a := s1.rd MARL.ENG0_STATE 0 == 1
  let b := s1.rd MARL.ENG1_STATE 0 == 1
  s1.setCarriers (if a || !b then 0 else 1) (if b || !a then 1 else 0)

/-- SAFE is left (R546): the power path is released, tables, masks and marks are restored, then ports are enabled by the
AUTO_EN mask; a pair member leaves as a standby (R545). -/
def State.safeLeave (s : State) : State :=
  let s1 := ({ s with dev := .run } : State).wr RST.SAFE_CAUSE 0 0
  let s2 := ((s1.event EV.SAFE_EXITED 0xFF ((s.up - s.pow.safeAt) / 10 ^ 9) 0 0 0).irq RST.page 0 RST.IRQ_SAFE_EXIT).startMarls
  let s3 := s2.loadTables.restoreRetired
  let s4 := (s.failedMarks).foldl State.restoreMark s3
  if s4.pairMember then (s4.flag PAIR.HB_ENABLE 0 true).flag PAIR.VETO_ARM 0 true
  else if s4.rd PAIR.PAIR_STATE 0 = psLeft then s4 else s4.autoEnable

/-- RST_CTL.SAFE_EXIT. -/
def State.safeExit (s : State) : State :=
  if s.dev ≠ .safe then s
  else if !s.safeCleared then s.errF RST.SAFE_EXIT 0 stDENIED
  else s.safeLeave

/-- A warm reset that Chalk or the clock monitor asks for: the fourth within 600 s of the first leads to SAFE instead
(R537).  One that merges into a reset in progress (R538) starts none, and is not counted. (DEDUCED, assumption 68) -/
def State.supervised (s : State) (cause : Nat) : State :=
  let old := s.pow.storms.filter fun t => decide (s.up ≤ t + 600000000000)
  if s.dev = .warmReset ∨ s.dev = .boot then s.warmBegin cause
  else if 3 ≤ old.length then s.safeEntry scStorm
  else
    let s1 : State := { s with pow := { s.pow with storms := old ++ [s.up] }, boot := { s.boot with forced := true } }
    s1.warmBegin cause

/-- RST_CTL.WARM, and WARM_RESET, are refused while an update is in APPLYING or ROLLING (R535, R549). -/
def State.warmRefused (s : State) : Bool := decide (s.rd BOOT.STATE 0 = 3 ∨ s.rd BOOT.STATE 0 = 6)

/-! ## Cold reset (R21, R532, R534) -/

/-- Everything but the flash, the OTP and SOLO_HOLD returns to reset values; `cause` is RST_CAUSE.
(DEDUCED, assumption 72, 74) -/
def State.coldReset (s : State) (cause : Nat) : State :=
  let under := decide (s.rd BOOT.STATE 0 ∈ [1, 2, 3])
  let s1 : State := { State.reset with
    otp := s.otp
    polFlash := s.polFlash, retiredMask := s.retiredMask, retiredFeeds := s.retiredFeeds
    marks := s.marks ++ s.failedMarks
    svc := { State.reset.svc with due := s.svc.due, seen := s.svc.seen, remap := s.svc.remap }
    led := { State.reset.led with banks := s.led.banks, journal := s.led.journal }
    pair := { PairSt.reset with keyFlash := s.pair.keyFlash, left := s.pair.left }
    flash := s.flash
    boot := { State.reset.boot with exam := s.boot.exam || under }
    pow := { State.reset.pow with solo := s.pow.solo }
    ports := s.ports.map fun x => { PortSt.reset with
      model := { ModelSt.reset with rPrev := x.model.rPrev, trend := x.model.trend } }
    freeCount := s.freeCount, pending := s.pending }
  s1.wr RST.CAUSE 0 (2 ^ cause)

/-- The straps are sampled (R397, R490, R581). -/
def State.sampleStraps (s : State) (boot saddr : BitVec 2) : State :=
  (s.wr BOOT.BOOT_PINS 0 boot.toNat).wr SMB.ADDR 0 (0x2C + saddr.toNat)

/-- Both PLLs lock on XIN. -/
def State.locked (s : State) : State :=
  ((s.flag CLK.CORE_LOCK 0 true).flag CLK.PWM_LOCK 0 true).flag CLK.XIN_OK 0 true

end Sys2Proof.Machine
end

