-- ==== Sys2Proof/Machine/RegWrite.lean ====
section
/-! DEFINITION. Writes of the register space (chapter 17): how a word is judged, which fields it changes, and what the
writer of each field does on a host's request (R10, R18, R386, R420 to R425, R431, R432). -/

namespace Sys2Proof.Machine

/-! ## Fields of a word -/

/-- The stored fields of the register at an offset of a page, with their instances. -/
def fieldsAt (pg inst off : Nat) : List (Field × Nat) :=
  (pageFields pg).filterMap fun F => (F.instAt pg inst off).map fun i => (F, i)

/-- The part of a word that belongs to a field. -/
def Field.cut (F : Field) (v : Nat) : Nat := v / 2 ^ F.lo % 2 ^ F.width

/-- Read and write, until LOCK for RWL. -/
def Field.rw (F : Field) : Bool := F.access == .rw || F.access == .rwl

/-- Each read-write field of the word lies in its range. -/
def rangesOk (pg inst off v : Nat) : Bool :=
  (fieldsAt pg inst off).all fun x => !x.1.rw || (decide (x.1.rmin ≤ x.1.cut v) && decide (x.1.cut v ≤ x.1.rmax))

/-- Two-bit lanes of AUTH_MODE none of which is the reserved 3. -/
def lanesOk (v : Nat) : Bool := (List.range 16).all fun k => v / 4 ^ k % 4 != 3

/-- The gate ramp bound leaves room for two gate rises: RAMP_TMAX in ms against GATE_RISE_TMAX in 50 µs (R265, R309). -/
def rampOk (F G : Field) (v : Nat) : Bool := decide (G.cut v * 2 * 50 ≤ F.cut v * 1000)

/-- 6.5 A across the shunt stays inside the range (R224): SHUNT in 10 µΩ, CS_RANGE 20, 40 or 80 mV. -/
def shuntOk (v : Nat) : Bool :=
  decide (65 * ADC.SHUNT.cut v ≤ 20000 * 2 ^ ADC.CS_RANGE.cut v)

/-- Checks of a word that tie its fields to one another. -/
def crossOk (pg off v : Nat) : Bool :=
  if pg = 2 ∧ off = 0x4C then decide (RST.TWARN.cut v + 5 ≤ RST.TSD.cut v)
  else if pg = 6 ∧ 0x120 ≤ off then
    let size := ringSize ((off - 0x120) / 4)
    decide (RING.LWM.cut v < RING.HWM.cut v ∧ RING.HWM.cut v ≤ size)
  else if pg = 0xA ∧ off = 0x54 then decide (-200000 ≤ sext 32 v ∧ sext 32 v ≤ 200000)
  else if pg = 0xC ∧ off = 0x48 then decide (LEDGER.EOL_LIMIT.cut v ≤ LEDGER.EOL_WARN.cut v)
  else if pg = 0xC ∧ (off = 0x4C ∨ off = 0x50) then lanesOk v
  else if pg = 0xD ∧ (off = 0x80 ∨ off = 0xA0) then rampOk FEED.FD_RAMP_TMAX FEED.FD_GATE_RISE_TMAX v
  else if pg = 0xE ∧ 0x100 ≤ off ∧ off < 0x180 then shuntOk v
  else if pg = 0xF ∧ off = 0x48 then decide (BUDGET.V_KNEE_LO.cut v ≤ BUDGET.V_KNEE_HI.cut v)
  else if pg = 0x15 ∧ off = 0x44 then decide (PWM.T_MIN.cut v ≤ PWM.T_REF.cut v)
  else if pg = 0x102 ∧ off = 0x40 then decide (LOOP.MODE.cut v < 4)
  else if pg = 0x102 ∧ off = 0x90 then
    decide (LOOP.R_EXT_WARN.cut v < LOOP.R_EXT_FAULT.cut v)
  else if pg = 0x103 ∧ off = 0x44 then rampOk GUARD.RAMP_TMAX GUARD.GATE_RISE_TMAX v
  else true

/-- The word passes its page's range rules. -/
def wordOk (pg inst off v : Nat) : Bool := rangesOk pg inst off v && crossOk pg off v

/-- A write that the writer refuses as the state stands (R214, R234, R447, R530). (DEDUCED, assumption 79) -/
def State.writeDenied (s : State) (pg inst off v : Nat) : Bool :=
  let p : Port := Fin.ofNat 32 inst
  if pg = 1 ∧ off = 0x40 then
    ([CLK.SSC_EN, CLK.SSC_DEPTH, CLK.SSC_FREQ].any fun F => F.cut v != s.rd F 0)
      && (allPorts.any (fun q => s.rd LOOP.MODE q != 0) || s.pairMember)
  else if pg = 0xA ∧ off = 0x54 then s.rd TIME.ROLE 0 == 0
  else if pg = 0x15 ∧ 0x80 ≤ off ∧ off < 0x100 then
    let q : Port := Fin.ofNat 32 ((off - 0x80) / 4)
    PWM.PERIOD.cut v != s.rd PWM.PERIOD q && s.running q
  else if pg = 0x102 ∧ off < 0x60 then s.enabled p
  else false

/-! ## What a field's writer does -/

/-- The enable of a feed is written: a feed that is not enabled is not healthy (R311, R312). (DEDUCED, assumption 82) -/
def State.feedEnable (s : State) (f : Feed) (v : Bool) : State :=
  let s1 := s.flag (enField f) 0 v
  if v then s1
  else
    let s2 := s1.flag FEED.FD_HEALTHY f false
    let s3 := if s2.on FEED.FD_GATE_OFF f then s2.restFeed f else s2
    (s3.unforce f).select 1

/-- A LOOP register of the port's writers is written on a host's request while the port is disabled: the writer keeps its
own value (R214). -/
def State.overrideField (s : State) (p : Port) (F : Field) (v : Nat) : State :=
  let old := (s.port p).overrides
  let own := match old.find? fun x => x.1 == F with
    | some x => if s.rd F p = x.2.2 then x.2.1 else s.rd F p
    | none => s.rd F p
  s.modPort p fun x => { x with overrides := (old.filter fun y => y.1 != F) ++ [(F, own, v)] }

/-- One read-write field takes its value, and what follows from it. (DEDUCED, assumption 80) -/
def State.writeField (s : State) (F : Field) (i v : Nat) : State :=
  let p : Port := Fin.ofNat 32 i
  let s0 := s.wr F i v
  if F = FEED.EN_A then s.feedEnable 0 (v == 1)
  else if F = FEED.EN_B then s.feedEnable 1 (v == 1)
  else if F = FEED.FORCE then (if v = s.rd F 0 then s else s.feedForce v)
  else if F = TIME.ROLE then (if v = s.rd F 0 then s else s0.timeRole)
  else if F = TIME.HOLD then s0.wr TIME.HELD 0 v
  else if F = WEFT.W0_EN then s0.linkEnabled 0
  else if F = WEFT.W1_EN then s0.linkEnabled 1
  else if F = PWM.PERIOD then (if v = s.rd F i then s else s.setPeriod p v)
  else if F = PWM.PHASE then (if v = s.rd F i ∧ (s.port p).pwm.phase = none then s else s.setPhase p v)
  else if F = ADC.SMP_POS then s.loop p fun l => { l with smpDue := some v }
  else if F = CC.VCONN_FORCE_OFF then (if v = s.rd F i then s else s.vconnForce p (v == 1))
  else if F = CC.ROLE ∨ F = CC.TRY then s0.roleWritten p
  else if F = CC.VCONN_ALLOW then (if v = s.rd F i then s else s.vconnAllow p (v == 1))
  else if F = CC.RP_SEL then (if v = s.rd F i then s else s.rpSel p v)
  else if F = LOOP.MODE then (s.overrideField p F v).modeWrite p v
  else if F = LOOP.SET_FORCE then ((s.overrideField p F v).wr F i v).rateNow p
  else if F.page = 0x102 ∧ F.off < 0x60 then (s.overrideField p F v).wr F i v
  else if F = LOOP.R_EXT then s.seedRext p v
  else if F = LOOP.R_EXT_WARN then s0.flag LOOP.CAB_WARN p (decide (v ≤ s.rd LOOP.R_EXT p))
  else if F.page = 0x103 ∧ (F.off = 0x100 ∨ F.off = 0x104) then s0.track p
  else s0

/-- Of a curve staging word, whether a reserved bit is set (R278). -/
def State.stageRsv (s : State) (pg inst off v : Nat) : State :=
  if pg = 0x103 ∧ 0xC0 ≤ off ∧ off < 0xE0 then
    s.modPort (Fin.ofNat 32 inst) fun x =>
      let b : BitVec 8 := BitVec.ofNat 8 (2 ^ ((off - 0xC0) / 4))
      { x with guard := { x.guard with
        stgRsv := if bits v 19 16 = 0 then x.guard.stgRsv &&& ~~~b else x.guard.stgRsv ||| b } }
  else if pg = 0xD ∧ 0x100 ≤ off ∧ off < 0x120 then
    let b : BitVec 8 := BitVec.ofNat 8 (2 ^ ((off - 0x100) / 4))
    { s with feeds := { s.feeds with
      stgRsv := if bits v 19 16 = 0 then s.feeds.stgRsv &&& ~~~b else s.feeds.stgRsv ||| b } }
  else s

/-- The read-write fields of a word, the last of a register first where another depends on it: TRACK before REF (R292). -/
def State.writeFields (s : State) (pg inst off v : Nat) : State :=
  let l := (fieldsAt pg inst off).filter fun x => x.1.rw
  let l := if pg = 0xE ∨ (pg = 0x102 ∧ off = 0x40) ∨ (pg = 0x103 ∧ (off = 0x100 ∨ off = 0x104)) then l.reverse else l
  l.foldl (fun t x => t.writeField x.1 x.2 (x.1.cut v)) (s.stageRsv pg inst off v)

/-- The write-one-to-clear fields of a word. -/
def State.clearFields (s : State) (pg inst off v : Nat) : State :=
  let l := (fieldsAt pg inst off).filter fun x => x.1.access == .w1c && x.1.cut v != 0
  l.foldl (fun t x =>
    if x.1 = CC.CC_OVP && (t.port (Fin.ofNat 32 inst)).cc.ovpStands then t
    else
      let t1 := t.wr x.1 x.2 (t.rd x.1 x.2 - (t.rd x.1 x.2 &&& x.1.cut v))
      if x.1 = HSPI.ERR then { t1 with spi := { t1.spi with addrHeld := false } }
      else if x.1 = CC.CC_OVP then t1.openLevels (Fin.ofNat 32 inst) else t1) s

/-- COLLIDE and NOTICE: the host clears those of its own mailboxes, 48 to 51, and of its own NOTICE register (R353, R378). -/
def State.mbxClear (s : State) (off v : Nat) : State :=
  if off = 0x4C then
    ([48, 49, 50, 51] : List (Fin 64)).foldl (fun (t : State) m =>
      if v.testBit (m.val - 32) then
        let b := t.mbox.get m
        { t with mbox := t.mbox.set m { b with collide := false } m.isLt }
      else t) s
  else if off = 0x160 ∨ off = 0x164 then
    let k := if off = 0x160 then v else v * 2 ^ 32
    { s with notice := s.notice.set 12 (s.notice.get 12 &&& ~~~(BitVec.ofNat 64 k)) (by decide) }
  else s

/-! ## Disruptive tests (R561) -/

/-- A disruptive test is refused. -/
def State.testRefused (s : State) : Bool :=
  (allPorts.any fun p => !decide (s.tc p = tcDisabled ∨ s.tc p = tcCcSafe) || !decide (s.gst p ∈ [gOff, gLatched, gRetired]))
    || !decide (s.rd PAIR.PAIR_STATE 0 = psSolo ∨ s.rd PAIR.PAIR_STATE 0 = psLeft) || s.rd BOOT.STATE 0 != 0

/-- TEST_CTL.KIND starts a test. (DEDUCED, assumption 83) -/
def State.testStart (s : State) (k : Nat) : State :=
  if k = 0 ∨ 4 ≤ k then s.errF TEST.KIND 0 stBAD_ARG
  else if k ≠ 3 ∧ s.testRefused = true then (s.errF TEST.KIND 0 stDENIED).bump TEST.DENIED_CNT 0
  else if s.on (EN TEST.page) 0 = false then s.errF TEST.KIND 0 stDENIED
  else if s.rd TEST.STATE 0 = 1 then s.errF TEST.KIND 0 stBUSY
  else
    let s1 := (s.wr TEST.STATE 0 1).wr TEST.LAST_KIND 0 k
    if k = 1 then
      let s2 := s1.led.dirty.foldl State.journal s1
      ((List.range 10).map (· + 1)).foldl (fun t e =>
        if t.rd CORE.STATE e = enRun ∨ t.rd CORE.STATE e = enSleep then
          (t.wr CORE.STATE e enReset).resetBoxes (Fin.ofNat 16 e) else t)
        ((s2.wr MARL.ENG0_STATE 0 0).wr MARL.ENG1_STATE 0 0)
    else s1

/-- Engines that an MBIST stopped run again, with their tables (step 5 of *Cold start*). -/
def State.testRestart (s : State) : State :=
  let s1 := ((List.range 8).map (· + 1)).foldl (fun t e =>
    if t.rd CORE.STATE e = enReset then t.wr CORE.STATE e enRun else t) s
  s1.startMarls.loadTables

/-- A disruptive test ends with a status. -/
def State.testEnds (s : State) (status : Nat) : State :=
  let k := s.rd TEST.LAST_KIND 0
  let s1 := (s.wr TEST.STATE 0 (if status = stABORTED then 3 else 2)).wr TEST.RESULT 0 status
  let s2 := if k = 1 then s1.testRestart else s1
  (s2.eventSev EV.TEST_DONE (if status = stOK then 0 else 1) 0xFF (0x10 + k) status 0xFF 0).irq TEST.page 0
    TEST.IRQ_TEST_DONE

/-- TEST's EN = 0 ends a running test as ABORTED (R423). -/
def State.testAbort (s : State) : State := if s.rd TEST.STATE 0 = 1 then s.testEnds stABORTED else s

/-! ## SMBus controls (R406, R414, R419) -/

/-- The open assembly, as STAT and ASM_STAT show it. -/
def State.setAsm (s : State) (a : Option SmbAsm) : State :=
  let s1 := ({ s with smb := { s.smb with asm := a } } : State).flag SMB.ASM_OPEN 0 a.isSome
  let (r, n, b) := match a with
    | some x => (x.ring, x.next, x.bytes.length)
    | none => (0, 0, 0)
  ((s1.wr SMB.ASM_STAT_RING 0 r).wr SMB.NEXT_SEQ 0 n).wr SMB.BYTES 0 b

/-- The open assembly is discarded and counted. -/
def State.dropAsm (s : State) : State :=
  if s.smb.asm.isSome then (s.setAsm none).bump SMB.FRAG_ABORT_CNT 0 else s

/-! ## Write-only fields -/

/-- RST_CTL (R549). -/
def State.rstCtl (s : State) (v : Nat) : State :=
  if RST.KEY.cut v ≠ 0xA5 ∨ ¬ (v % 8 ∈ [1, 2, 4]) then s.errF RST.KEY 0 stBAD_ARG
  else if v % 8 = 1 then (if s.warmRefused then s.errF RST.WARM 0 stDENIED else s.warmBegin rcCmd)
  else if v % 8 = 2 then s.safeEntry scCmd
  else s.safeExit

/-- The write-only fields of a word. -/
def State.commandFields (s : State) (pg inst off v : Nat) : State :=
  let p : Port := Fin.ofNat 32 inst
  if pg = 2 ∧ off = 0x40 then s.rstCtl v
  else if pg = 8 ∧ off = 0x44 then
    let s1 := if v.testBit 0 then { s with smb := { s.smb with recover := true } } else s
    if v.testBit 1 then s1.dropAsm else s1
  else if pg = 0xA ∧ off = 0x64 then (if v.testBit 0 then s.snapRequest none else s)
  else if pg = 0xD ∧ off = 0x40 then
    let s1 := if v.testBit 4 then s.feedCommit FEED.FCURVE_A_I FEED.FCURVE_A_E FEED.FCURVE_A_M else s
    let s2 := if v.testBit 5 then s1.feedCommit FEED.FCURVE_B_I FEED.FCURVE_B_E FEED.FCURVE_B_M else s1
    let s3 := if v.testBit 6 then s2.feedClear 0 (v.testBit 8) else s2
    if v.testBit 7 then s3.feedClear 1 (v.testBit 8) else s3
  else if pg = 0x10 ∧ off = 0x40 then s.testStart (TEST.KIND.cut v)
  else if pg = 0x101 ∧ off = 0x60 then
    let s1 := if v.testBit 1 then s.pdCtl p (if (s.port p).phy.hrPending then s else s.sendHardReset p) else s
    let s2 := if v.testBit 0 then s1.pdCtl p (s1.sendSoftReset p) else s1
    if v.testBit 2 then s2.pdCtl p (if s2.mayCableReset p then s2.sendCableReset p else s2) else s2
  else if pg = 0x103 ∧ off = 0x54 then
    let s1 := if v.testBit 0 then s.commitCurve p GUARD.CURVE_A_I GUARD.CURVE_A_E GUARD.CURVE_A_M else s
    if v.testBit 1 then s1.commitCurve p GUARD.CURVE_B_I GUARD.CURVE_B_E GUARD.CURVE_B_M else s1
  else s

/-! ## Common registers (R422 to R426) -/

/-- The read-write fields of 0x040 to 0x1FF of a page at their reset values. -/
def State.defaultFields (s : State) (pg : Nat) : State :=
  ((pageFields pg).filter fun F => F.access == .rw).foldl (fun t F =>
    (List.range (max 1 F.count)).foldl (fun u i => u.wr F i (F.reset.at i)) t) s

/-- A ring's tail is no longer locked by a pull. -/
def State.unlockRing (s : State) (q : Fin 40) : State := s.setRing q { s.ring q with locked := false }

/-- BLOCK_RESET of HSPI, SMB or WEFT (R425): protocol logic and RW fields; counters, IRQ_EN and LOCK stay.
(DEDUCED, assumption 81) -/
def State.blockReset (s : State) (pg : Nat) : State :=
  let s1 := s.defaultFields pg
  if pg = 7 then
    let s2 := s1.spi.held.foldl (fun t q => t.unlockRing (Fin.ofNat 40 q)) s1
    { s2 with spi := { s2.spi with held := [] } }
  else if pg = 8 then
    let s2 := match s1.smb.del with
      | some d => s1.unlockRing (Fin.ofNat 40 d.ring)
      | none => s1
    ({ s2 with smb := ⟨s2.smb.tx, none, none, false, false, false, false⟩ } : State).setAsm none
  else
    let s2 := ([0, 1] : List Link).foldl (fun t l => t.linkLost l (if t.on (EN WEFT.page) 0 then lkDown else lkDisabled)) s1
    s2.weftRec fun w => { w with waiting := [], out := [], asm := [] }

/-- PAGE_CTL. -/
def State.pageCtl (s : State) (pg inst v : Nat) : State :=
  let locked := s.on (LOCK pg) inst
  let s1 := s.wr (SNAP_EXCLUDE pg) inst (v / 8 % 2)
  let s2 := if v.testBit 1 then
      (if decide (pg ∈ [7, 8, 9]) && !locked then s1.blockReset pg else s1.err pg inst stDENIED 4)
    else s1
  let s3 :=
    if pg = WEFT.page then ((s2.wr (EN pg) 0 (v % 2)).linkEnabled 0).linkEnabled 1
    else if pg = TEST.page then (let t := s2.wr (EN pg) 0 (v % 2)
      if v.testBit 0 then t else t.testAbort)
    else s2
  if v.testBit 2 then s3.flag (LOCK pg) inst true else s3

/-- A host's clear of IRQ_STAT bits: a level cause that stands keeps its bit (R426). -/
def State.irqClear (s : State) (pg inst v : Nat) : State :=
  let st := s.rd (IRQ_STAT pg) inst
  s.wr (IRQ_STAT pg) inst (st - (st &&& (v - (v &&& s.rd (IRQ_RAW pg) inst))))

/-- After a host's write to an IRQ_STAT that leaves IRQ_N asserted the pin is to be pulsed (R394). -/
def State.repulseDue (s : State) : State :=
  if s.irqN && s.on HSPI.IRQ_REPULSE 0 then { s with spi := { s.spi with repulse := true } } else s

/-- The common registers. (DEDUCED, assumption 80) -/
def State.writeCommon (s : State) (pg inst off v : Nat) : State :=
  if off = 0x04 then s.pageCtl pg inst v
  else if off = 0x10 then s.wr (IRQ_EN pg) inst (v &&& irqDefined pg)
  else if off = 0x14 then (s.irqClear pg inst v).repulseDue
  else if off = 0x18 then s.wr (IRQ_STAT pg) inst (s.rd (IRQ_STAT pg) inst ||| (v &&& irqDefined pg))
  else s

/-! ## A word of a page -/

/-- A word of 0x040 to 0x1FF (R10, R18, R424): its range, then refusal and LOCK for the RW fields, then the others. -/
def State.writeBlock (s : State) (pg inst off v : Nat) : State :=
  let rws := (fieldsAt pg inst off).any fun x => x.1.rw
  if !wordOk pg inst off v then
    (if s.on (LOCK pg) inst then s.err pg inst stLOCKED off else s.err pg inst stBAD_ARG off)
  else
    let s1 :=
      if !rws then s
      else if s.on (LOCK pg) inst then s.err pg inst stLOCKED off
      else if s.writeDenied pg inst off v then
        let t := s.err pg inst stDENIED off
        if pg = 0x15 then t.irq PWM.page 0 PWM.IRQ_PERIOD_DENIED else t
      else s.writeFields pg inst off v
    let s2 := s1.clearFields pg inst off v
    let s3 := if pg = 5 then s2.mbxClear off v else s2
    s3.commandFields pg inst off v

/-- The word belongs to another writer than the host (R18): GUARD_CMD, and the words of the mailboxes that the host reads. -/
def foreignWord (pg off : Nat) : Bool :=
  decide (pg = 0x103 ∧ off = 0x40) || decide (pg = 5 ∧ 0x80 ≤ off ∧ off < 0x100)

/-! ## The compatibility window (R431, R432) -/

/-- The first write of the window to a profile register places the port's profile under window management. -/
def State.manage (s : State) (p : Port) (f : Profile → Profile) : State :=
  s.modPort p fun x => { x with
    windowed := true
    nextProfile := let g := f (x.nextProfile.getD x.profile)
      some { g with sprAvs := false, epr := false, eprAvs := false, fixedMask := g.fixedMask % 8, pdpMax := min 100 g.pdpMax } }

/-- A retirement, latch or trip is cleared by PORT_CLEAR_FAULT (R285): its status. -/
def State.clearRefused (s : State) (p : Port) (repaired : Bool) : Bool :=
  ((s.port p).cc.ovpStands && s.on CC.CC_OVP p) || (s.port p).guard.senseLost || (s.gst p == gRetired && !repaired)

/-- REPAIRED: the port's FAILED marks and its retirement are lifted, and its windows are to be checked again. -/
def State.repairMarks (s : State) (p : Port) : State :=
  let s1 := (((s.flag GUARD.A_FAILED p false).flag GUARD.B_FAILED p false).flag GUARD.C_FAILED p false).flag GUARD.IFAST_FAILED p false
  let s2 := (((s1.flag GUARD.DEGRADED p false).flag GUARD.STANDIN p false).flag GUARD.RETIRE p false).grd p fun g =>
    { g with recheck := 15 }
  { s2 with retiredMask := s2.retiredMask &&& ~~~(BitVec.ofNat 32 (2 ^ p.val)) }

/-- What PORT_CLEAR_FAULT does on OK (R285); REPAIRED clears the port's FAILED marks too (R304). -/
def State.clearFault (s : State) (p : Port) (repaired : Bool) : State :=
  let was := s.gst p
  let s1 := if was = gTripped ∨ was = gLatched ∨ (was = gRetired ∧ repaired = true) then s.toDischarge p else s
  let s2 := ((s1.clearCause p).wr GUARD.RETRIES p 0).grd p fun g => { g with trips := [], retryRun := false, retryElapsed := false }
  let s3 := (((s2.flag CC.CC_OVP p false).openLevels p).flag LOOP.SENSE_FLT p false).showREst p
  let s4 := if repaired then (s3.repairMarks p).sendMarks else s3
  let s5 := s4.event EV.GUARD_CLEARED p was (if repaired then 1 else 0) 0 0
  if s5.tc p = tcOvpHold ∨ s5.tc p = tcCcSafe then
    if s5.enabled p then (s5.wr CC.TC_STATE p tcErrorRecovery).errorRecovery p
    else
      let s6 := s5.wr CC.TC_STATE p tcDisabled
      s6.present p (s6.safeTerm p)
  else s5

/-- A window write records a status in the port's PD page. -/
def State.windowErr (s : State) (p : Port) (code o : Nat) : State := s.err PD.page p code o

/-- A window word, as Loam applies it; LOCK holds the requests that it relays (R424). -/
def State.windowWrite (s : State) (o v : Nat) : State :=
  let ps : List Port := allPorts.filter fun q => decide (q.val < 8)
  if o < 0x100 then
    if !s.ownsPorts then s
    else if o = 0x008 then
      (ps.foldl (fun (t : State) (q : Port) =>
        if v.testBit q.val then ([0x100, 0x101, 0x102, 0x103] : List Nat).foldl (fun u pg => u.irqClear pg q 0xFFFFFFFF) t
        else t) s).repulseDue
    else if o = 0x00C then
      if s.on (LOCK IRQ.page) 0 then s.err IRQ.page 0 stLOCKED 0x64
      else ps.foldl (fun (t : State) (q : Port) =>
        [IRQ.CC_MASK, IRQ.PD_MASK, IRQ.LOOP_MASK, IRQ.GUARD_MASK].foldl (fun u F => u.wrBit F 0 q (v.testBit q.val)) t) s
    else s
  else
    let p : Port := Fin.ofNat 32 (o / 0x100 - 1)
    let r := o % 0x100
    if !decide (r ∈ [0x00, 0x08, 0x0C, 0x1C]) then s
    else if !s.ownsPorts then s.windowErr p stDENIED o
    else if r = 0x00 then
      let s0 := if s.on (LOCK CC.page) p then s.err CC.page p stLOCKED 0x40 else (s.wr CC.ROLE p (v / 2 % 4)).roleWritten p
      let s1 := s0.manage p fun f => { f with pps := v.testBit 3 }
      if v.testBit 0 then (if s1.mayEnable p then s1.portEnable p else s1.windowErr p stDENIED o)
      else s1.disable p
    else if r = 0x08 then s.manage p fun f => { f with fixedMask := v % 8 }
    else if r = 0x0C then
      if v % 512 < 50 ∨ 500 < v % 512 then s.windowErr p stBAD_ARG o else s.manage p fun f => { f with imax := v % 512 }
    else
      if v % 8 = 0 then s
      else if s.clearRefused p false then s.windowErr p stDENIED o
      else s.clearFault p false

/-! ## An address -/

/-- A host's write of one word: the state, and whether the access is BAD_ACCESS (R386). -/
def State.hostWrite (s : State) (a v : Nat) : State × Bool :=
  if a % 4 ≠ 0 ∨ addrMapped a = false then (s, true)
  else match pageOf a with
    | some (pg, inst, off) =>
      if off < 0x40 then (s.writeCommon pg inst off v, false)
      else if 0x200 ≤ off then (s, false)
      else if foreignWord pg off then (s.err pg inst stBAD_ACCESS off, true)
      else (s.writeBlock pg inst off v, false)
    | none => (s.windowWrite (a - 0x30000) v, false)

/-- A failed SPI transaction (R386, R389). (DEDUCED, assumption 141) -/
def State.spiErr (s : State) (code op : Nat) : State :=
  ((s.flag HSPI.ERR 0 true).wr HSPI.LAST_ERR 0 code).wr HSPI.LAST_OPCODE 0 op

/-- BAD_ACCESS over SPI: the first offending address is held. (DEDUCED, assumption 141) -/
def State.spiBad (s : State) (op a : Nat) : State :=
  let s1 := ((s.spiErr stBAD_ACCESS op).bump HSPI.BAD_ACCESS_CNT 0).irq HSPI.page 0 HSPI.IRQ_BAD_ACCESS
  if s1.spi.addrHeld then s1
  else ({ s1 with spi := { s1.spi with addrHeld := true } } : State).wr HSPI.ADDR 0 a

/-- A failed SMBus transaction (R399, R404). -/
def State.smbErr (s : State) (code cmd : Nat) : State :=
  ((s.flag SMB.ERR 0 true).wr SMB.LAST_ERR 0 code).wr SMB.LAST_CMD 0 cmd

/-- A host's write of a word over one of its interfaces. -/
def State.writeVia (s : State) (h : HostIf) (op a v : Nat) : State :=
  match s.hostWrite a v, h with
  | (t, false), _ => t
  | (t, true), .spi => t.spiBad op a
  | (t, true), .smb => t.smbErr stBAD_ACCESS op

/-- The back end serves registers (R389, R397). (DEDUCED, assumption 84) -/
def State.readyFor (s : State) (f : State → State) : State := if s.on SYS.READY 0 then f s else s

/-! ## The rows -/

/-- The code of a write of one word: WRITE (0x02) of SPI, WRITE_REG of SMBus. -/
def writeCode : HostIf → Nat
  | .spi => 0x02
  | .smb => 0x12

/-- REGISTER_WRITE: a write of one word over SPI (WRITE, 0x02) or SMBus (WRITE_REG). (DEDUCED, assumption 84) -/
def execRegisterWrite (h : HostIf) (a : BitVec 24) (v : Word) (s : State) : Host.Outcome State Fault Refusal :=
  .next (s.readyFor fun t => t.writeVia h (writeCode h) a.toNat v.toNat)

/-- A host's write of a common register. -/
def State.commonWrite (s : State) (g : PageRef) (off v : Nat) : State :=
  s.readyFor fun t => t.writeCommon g.type g.inst off v

/-- IRQ_STAT_CLEAR. -/
def execIrqStatClear (g : PageRef) (mask : Word) (s : State) : Host.Outcome State Fault Refusal :=
  .next (s.commonWrite g 0x14 mask.toNat)

/-- IRQ_FORCE. -/
def execIrqForce (g : PageRef) (mask : Word) (s : State) : Host.Outcome State Fault Refusal :=
  .next (s.commonWrite g 0x18 mask.toNat)

/-- The present PAGE_CTL with bits added. -/
def State.pageCtlNow (s : State) (g : PageRef) (b : Nat) : Nat :=
  s.rd (EN g.type) g.inst + 8 * s.rd (SNAP_EXCLUDE g.type) g.inst + b

/-- PAGE_LOCK. -/
def execPageLock (g : PageRef) (s : State) : Host.Outcome State Fault Refusal :=
  .next (s.commonWrite g 0x04 (s.pageCtlNow g 4))

/-- BLOCK_RESET. -/
def execBlockReset (g : PageRef) (s : State) : Host.Outcome State Fault Refusal :=
  .next (s.commonWrite g 0x04 (s.pageCtlNow g 2))

/-- PAGE_ENABLE_WRITE. -/
def execPageEnableWrite (g : PageRef) (en : Bool) (s : State) : Host.Outcome State Fault Refusal :=
  .next (s.commonWrite g 0x04 (8 * s.rd (SNAP_EXCLUDE g.type) g.inst + if en then 1 else 0))

/-- WINDOW_WRITE: a write at an offset of the window, over SPI (WRITE) or SMBus (WRITE_REG). -/
def execWindowWrite (a : WindowAt) (v : Word) (s : State) : Host.Outcome State Fault Refusal :=
  .next (s.readyFor fun t => t.writeVia a.host (writeCode a.host) (0x30000 + a.off.toNat) v.toNat)

/-- IRQ_REPULSE: IRQ_N was released for 1 µs to 2 µs and is asserted again. -/
def execIrqRepulse (s : State) : Host.Outcome State Fault Refusal :=
  .next { s with spi := { s.spi with repulse := false } }

/-- WARM: RST_CTL with KEY and WARM. -/
def execWarm (s : State) : Host.Outcome State Fault Refusal := .next (s.readyFor fun t => t.rstCtl 0xA5000001)

/-- SAFE_ENTER. -/
def execSafeEnter (s : State) : Host.Outcome State Fault Refusal := .next (s.readyFor fun t => t.rstCtl 0xA5000002)

/-- SAFE_EXIT. -/
def execSafeExit (s : State) : Host.Outcome State Fault Refusal := .next (s.readyFor fun t => t.rstCtl 0xA5000004)

end Sys2Proof.Machine
end

