-- ==== Sys2Proof/Machine/Objects.lean ====
section
/-! DEFINITION. Policy objects and the port commands (chapters 4 to 6, 14): NOP, GET_INFO, SET_POLICY and GET_POLICY with
their objects, PORT_ENABLE to PORT_TEST. -/

namespace Sys2Proof.Machine

/-! ## Register images (R326, R344, R366 to R368, R442) -/

/-- A word of an image: its byte offset in the object, and the page, instance and offset of its register. -/
structure ImgWord where
  at_ : Nat
  pg : Nat
  inst : Nat
  off : Nat
  deriving DecidableEq, Repr

/-- *Port configuration image*, for a port. -/
def portImage (n : Nat) : List ImgWord :=
  [⟨4, 0x100, n, 0x40⟩, ⟨8, 0x100, n, 0x44⟩, ⟨12, 0x100, n, 0x48⟩, ⟨16, 0x100, n, 0x4C⟩, ⟨20, 0x101, n, 0x40⟩,
   ⟨24, 0x101, n, 0x4C⟩, ⟨28, 0x101, n, 0x5C⟩, ⟨32, 0xE, 0, 0x100 + 4 * n⟩, ⟨36, 0x15, 0, 0x80 + 4 * n⟩] ++
  [⟨40, 0x102, n, 0x80⟩, ⟨44, 0x102, n, 0x84⟩, ⟨48, 0x102, n, 0x88⟩, ⟨52, 0x102, n, 0x8C⟩, ⟨56, 0x102, n, 0x90⟩,
   ⟨60, 0x103, n, 0x44⟩, ⟨64, 0x103, n, 0x48⟩, ⟨68, 0x103, n, 0x4C⟩, ⟨72, 0x103, n, 0x50⟩, ⟨76, 0x103, n, 0x100⟩,
   ⟨80, 0x103, n, 0x104⟩, ⟨84, 0x103, n, 0x108⟩, ⟨88, 0x103, n, 0x10C⟩]

/-- *Device configuration image*. -/
def deviceImage : List ImgWord :=
  [⟨4, 0xE, 0, 0x40⟩, ⟨8, 0x15, 0, 0x40⟩, ⟨12, 0x15, 0, 0x44⟩, ⟨16, 0x15, 0, 0x48⟩, ⟨20, 0x14, 0, 0x40⟩,
   ⟨24, 0x14, 0, 0x4C⟩, ⟨28, 1, 0, 0x40⟩, ⟨32, 2, 0, 0x48⟩, ⟨36, 2, 0, 0x4C⟩] ++
  [⟨40, 0x11, 0, 0x40⟩, ⟨44, 0x11, 0, 0x44⟩, ⟨48, 0x10, 0, 0x48⟩, ⟨52, 0xA, 0, 0x40⟩, ⟨56, 0xA, 0, 0x60⟩,
   ⟨60, 4, 0, 0x6C⟩, ⟨64, 0xB, 0, 0x40⟩, ⟨68, 7, 0, 0x40⟩, ⟨72, 8, 0, 0x40⟩]

/-- A run of `n` words of a system page from offset `off`, from byte `at_` of the object. -/
def imageRun (at_ pg off n : Nat) : List ImgWord := (List.range n).map fun j => ⟨at_ + 4 * j, pg, 0, off + 4 * j⟩

/-- The register words of an object; `n` is the port of a port image. -/
def objWords (tgt n : Nat) : List ImgWord :=
  if tgt = 3 then imageRun 0 0xD 0x40 32
  else if tgt = 4 then imageRun 0 0xC 0x40 5
  else if tgt = 5 then imageRun 0 9 0x40 48
  else if tgt = 6 then deviceImage
  else if tgt = 7 then imageRun 4 6 0x124 39
  else if 0x200 ≤ tgt then portImage n
  else []

/-- Bytes of an object, none for an unknown one. -/
def objLen (tgt : Nat) : Option Nat :=
  if tgt = 1 then some 160 else if tgt = 2 then some 80 else if tgt = 3 then some 192 else if tgt = 4 then some 288
  else if tgt = 5 then some 192 else if tgt = 6 then some 96 else if tgt = 7 then some 160
  else if (0x100 ≤ tgt ∧ tgt < 0x120) ∨ tgt = 0x1FF then some 256
  else if (0x200 ≤ tgt ∧ tgt < 0x220) ∨ tgt = 0x2FF then some 192
  else none

/-- The ports that an object names: one, or all 32. -/
def objPorts (tgt : Nat) : List Port :=
  if tgt = 0x1FF ∨ tgt = 0x2FF then allPorts
  else if 0x100 ≤ tgt then [Fin.ofNat 32 tgt]
  else []

/-- Bits of a register that views of other state give. -/
def viewBits (pg off : Nat) : Nat :=
  if pg = 0xD ∧ off = 0x5C then 0xFF00 else if pg = 0xD ∧ off = 0x60 then 0xFF else if pg = 9 ∧ off = 0x54 then 0xF else 0

/-- A word with its reserved bits cleared. -/
def assigned (pg inst off v : Nat) : Nat :=
  ((fieldsAt pg inst off).map fun x => x.1.cut v * 2 ^ x.1.lo).sum + (v &&& viewBits pg off)

/-- The read-write fields of a word alone. -/
def rwPart (pg inst off v : Nat) : Nat :=
  (((fieldsAt pg inst off).filter fun x => x.1.rw).map fun x => x.1.cut v * 2 ^ x.1.lo).sum

/-- The word that an object gives a register; a port image for all ports keeps each port's PHASE. -/
def State.objWord (s : State) (tgt : Nat) (l : List Byte) (w : ImgWord) : Nat :=
  let v := bytesAt l w.at_ 4
  if tgt = 0x2FF ∧ w.pg = 0x15 then
    v - PWM.PHASE.cut v * 2 ^ PWM.PHASE.lo + s.rd PWM.PHASE ((w.off - 0x80) / 4) * 2 ^ PWM.PHASE.lo
  else v

/-- A curve of eight words: all zero, or one that passes the check of R278. -/
def curveWordsOk (ws : List Nat) : Bool :=
  ws.all (· == 0) || (ws.all (fun w => bits w 19 16 == 0) &&
    curveOk (ws.map fun w => (bits w 31 20, bits w 15 12, bits w 11 0)))

/-- Eight words of an object. -/
def eightWords (l : List Byte) (at_ : Nat) : List Nat := (List.range 8).map fun k => bytesAt l (at_ + 4 * k) 4

/-- Bytes of an object that must be as given: its version word, and those that must be 0. -/
def objFixedOk (tgt : Nat) (l : List Byte) : Bool :=
  let zero := fun (a n : Nat) => ((l.drop a).take n).all (· == 0)
  if tgt = 4 then zero 20 12
  else if tgt = 6 then bytesAt l 0 4 == 1 && zero 76 20
  else if tgt = 7 then zero 0 4
  else if 0x200 ≤ tgt then bytesAt l 0 4 == 1 && zero 92 4 && zero 160 32
  else true

/-- The two curves of an object, with their places. -/
def objCurves (tgt : Nat) (l : List Byte) : List (List Nat) :=
  if tgt = 3 then [eightWords l 128, eightWords l 160]
  else if 0x200 ≤ tgt then [eightWords l 96, eightWords l 128]
  else []

/-- A word of an image is in order: reserved bits 0 and every field in range. (DEDUCED, assumption 85) -/
def State.imgWordOk (s : State) (tgt : Nat) (l : List Byte) (w : ImgWord) : Bool :=
  let v := s.objWord tgt l w
  assigned w.pg w.inst w.off v == v && wordOk w.pg w.inst w.off v

/-- The images of an object: one, or one per port. -/
def imagesOf (tgt : Nat) : List (List ImgWord) :=
  if 0x200 ≤ tgt then (objPorts tgt).map fun p => objWords tgt p else [objWords tgt 0]

/-- Every word and curve of an object passes. (DEDUCED, assumption 85) -/
def State.imageOk (s : State) (tgt : Nat) (l : List Byte) : Bool :=
  objFixedOk tgt l && (objCurves tgt l).all curveWordsOk && (imagesOf tgt).all fun ws => ws.all (s.imgWordOk tgt l)

/-- Some word would be refused now. -/
def State.imageDenied (s : State) (tgt : Nat) (l : List Byte) : Bool :=
  (imagesOf tgt).any fun ws => ws.any fun w => s.writeDenied w.pg w.inst w.off (s.objWord tgt l w)

/-- A curve word is staged on a port's GUARD page. -/
def State.stagePort (s : State) (p : Port) (k : Fin 8) (w : Nat) : State :=
  let s1 := s.stageRsv 0x103 p (0xC0 + 4 * k) w
  ((s1.wr GUARD.CURVE_STG_I (pidx p k) (bits w 31 20)).wr GUARD.CURVE_STG_E (pidx p k) (bits w 15 12)).wr
    GUARD.CURVE_STG_M (pidx p k) (bits w 11 0)

/-- A curve word is staged on the FEED page. -/
def State.stageFeed (s : State) (k w : Nat) : State :=
  let s1 := s.stageRsv 0xD 0 (0x100 + 4 * k) w
  ((s1.wr FEED.FCURVE_STG_I k (bits w 31 20)).wr FEED.FCURVE_STG_E k (bits w 15 12)).wr FEED.FCURVE_STG_M k (bits w 11 0)

/-- A port's or the feeds' curve is loaded through the staging words and COMMIT; all zero leaves it unchanged. -/
def State.loadPortCurve (s : State) (p : Port) (b : Bool) (ws : List Nat) : State :=
  if ws.all (· == 0) then s
  else
    let s1 := (List.finRange 8).foldl (fun t k => t.stagePort p k (ws.getD k 0)) s
    if b then s1.commitCurve p GUARD.CURVE_B_I GUARD.CURVE_B_E GUARD.CURVE_B_M
    else s1.commitCurve p GUARD.CURVE_A_I GUARD.CURVE_A_E GUARD.CURVE_A_M

/-- The same for the feeds. -/
def State.loadFeedCurve (s : State) (b : Bool) (ws : List Nat) : State :=
  if ws.all (· == 0) then s
  else
    let s1 := (List.range 8).foldl (fun t k => t.stageFeed k (ws.getD k 0)) s
    if b then s1.feedCommit FEED.FCURVE_B_I FEED.FCURVE_B_E FEED.FCURVE_B_M
    else s1.feedCommit FEED.FCURVE_A_I FEED.FCURVE_A_E FEED.FCURVE_A_M

/-- The words of an object are written in order, by the path of host writes (R367); LOCK does not hold Loam (R424). -/
def State.applyImage (s : State) (tgt : Nat) (l : List Byte) : State :=
  let s1 := (imagesOf tgt).foldl (fun t ws => ws.foldl (fun u w =>
    let v := rwPart w.pg w.inst w.off (u.objWord tgt l w)
    if u.writeDenied w.pg w.inst w.off v then u.err w.pg w.inst stDENIED w.off
    else u.writeFields w.pg w.inst w.off v) t) s
  if tgt = 3 then (s1.loadFeedCurve false (eightWords l 128)).loadFeedCurve true (eightWords l 160)
  else if 0x200 ≤ tgt then
    s1.forPorts (objPorts tgt) fun t p => (t.loadPortCurve p false (eightWords l 96)).loadPortCurve p true (eightWords l 128)
  else s1

/-! ## Budget and role policy (R156, R160) -/

/-- The 2-byte fields of the budget table, by byte. -/
def budgetWords : List (Nat × Field) :=
  [(4, BUDGET.PA_MAX), (6, BUDGET.PB_MAX), (8, BUDGET.V_KNEE_HI), (10, BUDGET.V_KNEE_LO), (12, BUDGET.SOLAR_STEP),
   (14, BUDGET.SINK_ACCEPT), (16, BUDGET.READV_MIN), (22, BUDGET.SHED_EXPIRY), (24, BUDGET.POOL_MA)]

/-- The 1-byte fields. -/
def budgetBytes : List (Nat × Field) :=
  [(2, BUDGET.ETA), (3, BUDGET.MARGIN), (18, BUDGET.READV_DELTA), (19, BUDGET.HEADROOM), (20, BUDGET.OVL_PCT),
   (21, BUDGET.OVL_TICKS)]

/-- The flags of byte 1. -/
def budgetFlags : List Field := [BUDGET.SELF_SHED_EN, BUDGET.SOLAR_A, BUDGET.SOLAR_B, BUDGET.REV_CREDIT]

/-- A value lies in a field's range. -/
def Field.holds (F : Field) (v : Nat) : Bool := decide (F.rmin ≤ v ∧ v ≤ F.rmax)

/-- The budget table's fields are in range and its reserved bytes 0. -/
def budgetOk (l : List Byte) : Bool :=
  bytesAt l 0 1 == 1 && decide (bytesAt l 1 1 < 16) && budgetBytes.all (fun x => x.2.holds (bytesAt l x.1 1)) &&
    budgetWords.all (fun x => x.2.holds (bytesAt l x.1 2)) && decide (bytesAt l 10 2 ≤ bytesAt l 8 2) &&
    ((l.drop 26).take 6).all (· == 0) &&
    (List.range 32).all fun n => decide (bytesAt l (32 + 4 * n) 1 ≤ 3) && decide (bytesAt l (34 + 4 * n) 1 ≤ 240)
      && bytesAt l (35 + 4 * n) 1 == 0

/-- The table goes into the BUDGET page's RW fields, and applies from the next tick, which clears DEFAULTS. (DEDUCED, assumption 86) -/
def State.applyBudget (s : State) (l : List Byte) : State :=
  let s1 := budgetFlags.zipIdx.foldl (fun t x => t.wr x.1 0 (bytesAt l 1 1 / 2 ^ x.2 % 2)) s
  let s2 := budgetBytes.foldl (fun t x => t.wr x.2 0 (bytesAt l x.1 1)) s1
  let s3 := budgetWords.foldl (fun t x => t.wr x.2 0 (bytesAt l x.1 2)) s2
  ((List.range 32).foldl (fun t n => ((t.wr BUDGET.CLASS n (bytesAt l (32 + 4 * n) 1)).wr BUDGET.SHED_RANK n
    (bytesAt l (33 + 4 * n) 1)).wr BUDGET.G_MIN n (bytesAt l (34 + 4 * n) 1))
    { s3 with bud := { s3.bud with given := true } })

/-- The budget table in force. (DEDUCED, assumption 86) -/
def State.budgetTable (s : State) : List Byte :=
  let b := fun (F : Field) => leBytes 1 (s.act F 0)
  let w := fun (F : Field) => leBytes 2 (s.act F 0)
  [1] ++ leBytes 1 (bitsOf (budgetFlags.map fun F => s.act F 0 != 0)) ++ b BUDGET.ETA ++ b BUDGET.MARGIN ++
    w BUDGET.PA_MAX ++ w BUDGET.PB_MAX ++ w BUDGET.V_KNEE_HI ++ w BUDGET.V_KNEE_LO ++ w BUDGET.SOLAR_STEP ++
    w BUDGET.SINK_ACCEPT ++ w BUDGET.READV_MIN ++ b BUDGET.READV_DELTA ++ b BUDGET.HEADROOM ++ b BUDGET.OVL_PCT ++
    b BUDGET.OVL_TICKS ++ w BUDGET.SHED_EXPIRY ++ w BUDGET.POOL_MA ++ List.replicate 6 0 ++
    (List.range 32).flatMap fun n => leBytes 1 (s.act BUDGET.CLASS n) ++ leBytes 1 (s.act BUDGET.SHED_RANK n) ++
      leBytes 1 (s.act BUDGET.G_MIN n) ++ [0]

/-- The role policy table's fields are in range and its reserved bits 0. -/
def roleOk (l : List Byte) : Bool :=
  bytesAt l 0 1 == 1 && decide (bytesAt l 1 1 < 4) && decide (300 ≤ bytesAt l 2 2 ∧ bytesAt l 2 2 ≤ 600) &&
    decide (1 ≤ bytesAt l 4 1 ∧ bytesAt l 4 1 ≤ 10) && decide (1 ≤ bytesAt l 5 1) && decide (5 ≤ bytesAt l 6 1) &&
    ((l.drop 7).take 9).all (· == 0) &&
    (List.range 32).all fun n => decide (bytesAt l (16 + 2 * n) 1 < 64 ∧ bytesAt l (17 + 2 * n) 1 ≤ 50)

/-- The role policy that a table gives. -/
def roleOf (l : List Byte) : RolePolicy where
  bankFrs := (bytesAt l 1 1).testBit 0
  returnEn := (bytesAt l 1 1).testBit 1
  vIsl := bytesAt l 2 2
  droop := bytesAt l 4 1
  retDelay := bytesAt l 5 1
  retRetry := bytesAt l 6 1
  pol := Vector.ofFn fun n => BitVec.ofNat 8 (bytesAt l (16 + 2 * n.val) 1)
  islShed := Vector.ofFn fun n => bytesAt l (17 + 2 * n.val) 1

/-- The role policy table in force. -/
def State.roleTable (s : State) : List Byte :=
  let r := s.role
  [1] ++ leBytes 1 (bitsOf [r.bankFrs, r.returnEn]) ++ leBytes 2 r.vIsl ++ leBytes 1 r.droop ++ leBytes 1 r.retDelay ++
    leBytes 1 r.retRetry ++ List.replicate 9 0 ++
    allPorts.flatMap fun p => [r.pol.get p] ++ leBytes 1 (r.islShed.get p)

/-! ## Coefficient tables (R208, R209) -/

/-- The port field that a table of this object must carry. -/
def tablePort (tgt : Nat) : Nat := if tgt = 0x1FF then 0xFF else tgt % 32

/-- A table is rejected with a reason on the ports it names. (DEDUCED, assumption 87) -/
def State.rejectTable (s : State) (tgt reason : Nat) (l : List Byte) : State :=
  s.forPorts (objPorts tgt) fun (t : State) (p : Port) =>
    ((t.wr LOOP.LAST_REJECT p reason).event EV.TABLE_REJECTED p reason (tblSeq l) 0 0).irq LOOP.page p LOOP.IRQ_TBL_REJECT

/-- Both engines hold the table in the pending bank of each port it names; the owner of a pair mirrors it.
(DEDUCED, assumption 87) -/
def State.pendTable (s : State) (tgt : Nat) (l : List Byte) : State :=
  s.forPorts (objPorts tgt) fun (t : State) (p : Port) =>
    let t1 := t.pendOne p l
    if t1.pairOwner then t1.selReliable (.table p l) else t1

/-! ## Ledger policy (R344) -/

/-- The trust anchors of a ledger policy: those that are not empty. -/
def anchorsOf (l : List Byte) : List (List Byte) := (List.range 8).map fun j => (l.drop (32 + 32 * j)).take 32

/-! ## SET_POLICY and GET_POLICY (R366) -/

/-- The pages whose registers an object writes. -/
def objPages (tgt : Nat) : List (Nat × Nat) :=
  if tgt = 1 then [(BUDGET.page, 0)]
  else ((imagesOf tgt).flatMap fun ws => ws.map fun w => (w.pg, w.inst))

/-- The object's own rule: its status. -/
def State.objStatus (s : State) (tgt : Nat) (l : List Byte) : Nat :=
  if tgt = 1 then (if budgetOk l then stOK else stBAD_ARG)
  else if tgt = 2 then (if roleOk l then stOK else stBAD_ARG)
  else if 0x100 ≤ tgt ∧ tgt < 0x200 then
    (match tableReject l (tablePort tgt) with
      | 0 => stOK
      | 1 => stCRC
      | _ => stBAD_ARG)
  else if !s.imageOk tgt l then stBAD_ARG
  else if s.imageDenied tgt l then stDENIED
  else stOK

/-- An object becomes active. -/
def State.objApply (s : State) (tgt : Nat) (l : List Byte) : State :=
  if tgt = 1 then s.applyBudget l
  else if tgt = 2 then
    let s1 : State := { s with role := roleOf l }
    if s1.role.bankFrs then s1 else s1.flag FEED.ARMED 0 false
  else if 0x100 ≤ tgt ∧ tgt < 0x200 then s.pendTable tgt l
  else if tgt = 4 then
    let s1 := s.applyImage 4 l
    { s1 with led := { s1.led with anchors := anchorsOf l } }
  else s.applyImage tgt l

/-- Put an object into the flash policy area. -/
def State.putPol (s : State) (k : Nat) (l : List Byte) : State :=
  { s with polFlash := s.polFlash.filter (fun x => x.1 != k) ++ [(k, some l, some l)] }

/-- An object for all ports is kept as each port's own; a port image keeps the port's PHASE (R367). -/
def State.persistObj (s : State) (tgt : Nat) (l : List Byte) : State :=
  if tgt = 0x1FF then allPorts.foldl (fun (t : State) (p : Port) => t.putPol (0x100 + p.val) l) s
  else if tgt = 0x2FF then allPorts.foldl (fun (t : State) (p : Port) =>
    t.putPol (0x200 + p.val) (l.take 37 ++ leBytes 1 (t.rd PWM.PHASE p) ++ l.drop 38)) s
  else s.putPol tgt l

/-- The owner of a pair sends a payload it has accepted (R467). (DEDUCED, assumption 88) -/
def State.sendPolicy (s : State) (tgt : Nat) (l : List Byte) : State :=
  if s.pairOwner then s.selReliable (.policy tgt 0 l) else s

/-- SET_POLICY. -/
def State.cmdSetPolicy (s : State) (k : Packet) : State :=
  if objLen k.tgt ≠ some k.len ∨ 1 < k.ar then s.answer k stBAD_ARG
  else s.offStandby k fun s =>
    if (objPages k.tgt).any (fun x => s.on (LOCK x.1) x.2) then s.answer k stLOCKED
    else
      let st := s.objStatus k.tgt k.payload
      if st ≠ stOK then
        (if 0x100 ≤ k.tgt ∧ k.tgt < 0x200 then
          s.rejectTable k.tgt (tableReject k.payload (tablePort k.tgt)) k.payload
        else s).answer k st
      else
        let s1 := (s.objApply k.tgt k.payload).sendPolicy k.tgt k.payload
        (if k.ar = 1 then s1.persistObj k.tgt k.payload else s1).answer k stOK

/-- SET_POLICY. -/
def execSetPolicy (k : Packet) (s : State) : Host.Outcome State Fault Refusal := .next (s.serve k (·.cmdSetPolicy k))

/-- Present register words of an image, at their places in an object of `n` bytes. -/
def State.imageNow (s : State) (ws : List ImgWord) (n : Nat) : List Byte :=
  (List.range (n / 4)).flatMap fun j => leBytes 4 (match ws.find? fun w => w.at_ == 4 * j with
    | some w => s.pageWord w.pg w.inst w.off
    | none => 0)

/-- A port's curve in force, in the format of CURVE_STG. -/
def State.curveNow (s : State) (p : Port) (fi fe fm : Field) : List Byte :=
  (List.range 8).flatMap fun k =>
    leBytes 4 (s.rd fi (pidx p k) * 2 ^ 20 + s.rd fe (pidx p k) * 2 ^ 12 + s.rd fm (pidx p k))

/-- The active object. -/
def State.objNow (s : State) (tgt : Nat) : List Byte :=
  if tgt = 1 then s.budgetTable
  else if tgt = 2 then s.roleTable
  else if tgt = 3 then s.pageImage 0xD 0 0x40 48
  else if tgt = 4 then
    s.pageImage 0xC 0 0x40 5 ++ List.replicate 12 0 ++
      (List.range 8).flatMap fun j => s.led.anchors.getD j (List.replicate 32 0)
  else if tgt = 5 then s.pageImage 9 0 0x40 48
  else if tgt = 6 then 1 :: (s.imageNow deviceImage 96).drop 1
  else if tgt = 7 then s.imageNow (imageRun 4 6 0x124 39) 160
  else
    let p : Port := Fin.ofNat 32 tgt
    if tgt < 0x200 then (s.port p).loop.table
    else 1 :: ((s.imageNow (portImage p) 96).drop 1 ++ s.curveNow p GUARD.CURVE_A_I GUARD.CURVE_A_E GUARD.CURVE_A_M ++
      s.curveNow p GUARD.CURVE_B_I GUARD.CURVE_B_E GUARD.CURVE_B_M ++ List.replicate 32 0)

/-- GET_POLICY: served on a standby too (R471). -/
def State.cmdGetPolicy (s : State) (k : Packet) : State :=
  s.formed k (k.plain && (objLen k.tgt).isSome && k.tgt != 0x1FF && k.tgt != 0x2FF) fun s =>
    s.respond k stOK (s.objNow k.tgt)

/-- GET_POLICY. -/
def execGetPolicy (k : Packet) (s : State) : Host.Outcome State Fault Refusal := .next (s.serve k (·.cmdGetPolicy k))

/-- The flash policy area is applied at a start, each object whose words are in order; a word that is refused at that
moment keeps its value (R157, R326, R366). -/
def State.applyPolicies (s : State) : State :=
  let s1 := if (s.policyOf 1).isSome then s else s.flag BUDGET.DEFAULTS 0 true
  let s2 := if (s.policyOf 3).isSome then s1 else (s1.feedEnable 0 true).feedEnable 1 true
  s2.polFlash.foldl (fun t x => match s2.policyOf x.1 with
    | some l => if x.1 < 0x100 ∨ (0x200 ≤ x.1 ∧ x.1 < 0x300) then t.objApply x.1 l else t
    | none => t) s2

/-! ## Port profiles (R107, R432) -/

/-- The profile of a payload, if it is in order. -/
def profileOf (l : List Byte) : Option Profile :=
  let b := fun i => bytesAt l i 1
  let w := fun i => bytesAt l i 2
  if b 0 = 1 ∧ b 1 < 32 ∧ b 2 < 64 ∧ 1 ≤ b 3 ∧ b 3 ≤ 30 ∧ 1 ≤ w 4 ∧ w 4 ≤ 240 ∧ 50 ≤ w 6 ∧ w 6 ≤ 500 ∧ 50 ≤ w 8 ∧ w 8 ≤ 480
      ∧ w 8 ≤ w 10 ∧ w 10 ≤ 480 ∧ 50 ≤ w 12 ∧ w 12 ≤ 500 ∧ 1 ≤ w 14 ∧ w 14 ≤ 240 ∧ (l.drop 16).all (· == 0) then
    let f := b 1
    some ⟨f.testBit 0, f.testBit 1, f.testBit 2, f.testBit 3, f.testBit 4, b 2, b 3, w 4, w 6, w 8, w 10, w 12, w 14⟩
  else none

/-- A port command to a member that does not own its ports is answered DENIED (R33). (DEDUCED, assumption 57) -/
def State.onOwner (s : State) (k : Packet) (f : State → State) : State :=
  if s.ownsPorts then f s else s.answer k stDENIED

/-- A profile takes the port out of window management. It is stored at once, and in force with the port's next capabilities
(R107). (DEDUCED, assumption 157) -/
def State.setProfile (s : State) (p : Port) (f : Profile) : State :=
  s.modPort p fun x => { x with nextProfile := some f, windowed := false }

/-- PORT_SET_PROFILE: the profile is stored, and kept with the site policy. -/
def State.cmdPortSetProfile (s : State) (k : Packet) : State :=
  s.onOwner k fun s =>
    match k.portOf, (if k.len = 32 then profileOf k.payload else none) with
    | some p, some f =>
      let s1 := s.setProfile p f
      let s2 := s1.putPol (0x10000 + p.val) k.payload
      (s2.sendPolicy (0x10000 + p.val) k.payload).answer k stOK
    | _, _ => s.answer k stBAD_ARG

/-- PORT_SET_PROFILE. -/
def execPortSetProfile (k : Packet) (s : State) : Host.Outcome State Fault Refusal :=
  .next (s.serve k (·.cmdPortSetProfile k))

/-- Stored profiles are in force at a start (R157). -/
def State.applyProfiles (s : State) : State :=
  s.forPorts allPorts fun t p => match (t.policyOf (0x10000 + p.val)).bind profileOf with
    | some f => (t.setProfile p f).modPort p fun x => { x with profile := f, nextProfile := none }
    | none => t

/-! ## NOP and GET_INFO (R364, R365) -/

/-- NOP: TARGET, ARG and payload come back, from a standby too (R364). (DEDUCED, assumption 144) -/
def State.cmdNop (s : State) (k : Packet) : State := s.respondArg k stOK k.arg k.payload

/-- NOP. -/
def execNop (k : Packet) (s : State) : Host.Outcome State Fault Refusal := .next (s.serve k (·.cmdNop k))

/-- The 64 bytes of *GET_INFO response*. -/
def State.info (s : State) : List Byte :=
  let w := fun pg off => leBytes 4 (s.pageWord pg 0 off)
  w 0 0x40 ++ w 0 0x44 ++ w 0 0x48 ++ w 0 0x4C ++ w 0 0x50 ++ w 0 0x54 ++ w 0 0x58 ++ w 0 0x5C ++ w 4 0x40 ++ w 3 0x40 ++
    w 3 0x44 ++ w 9 0x40 ++ w 0xB 0x44 ++ w 0xA 0x44 ++ List.replicate 8 0

/-- GET_INFO. -/
def State.cmdGetInfo (s : State) (k : Packet) : State :=
  s.formed k (k.chip && k.plain) fun s => s.respond k stOK s.info

/-- GET_INFO: in every state that serves packets, the recovery ROM among them. -/
def execGetInfo (k : Packet) (s : State) : Host.Outcome State Fault Refusal := .next (s.serveInfo (·.cmdGetInfo k))

/-! ## Port commands (R162, R285, R369 to R373, R558) -/

/-- A port command of the right form; any other gets BAD_ARG. -/
def State.onPort (s : State) (k : Packet) (ok : Bool) (f : State → Port → State) : State :=
  match k.portOf with
  | some p => if ok then f s p else s.answer k stBAD_ARG
  | none => s.answer k stBAD_ARG

/-- PORT_ENABLE (R369). -/
def State.cmdPortEnable (s : State) (k : Packet) : State :=
  s.onPort k k.plain fun s p => if s.mayEnable p then (s.portEnable p).answer k stOK else s.answer k stDENIED

/-- PORT_ENABLE. -/
def execPortEnable (k : Packet) (s : State) : Host.Outcome State Fault Refusal := .next (s.serve k (·.cmdPortEnable k))

/-- PORT_DISABLE (R370). -/
def State.cmdPortDisable (s : State) (k : Packet) : State :=
  s.onPort k k.plain fun s p => if !s.ownsPorts then s.answer k stDENIED else (s.disable p).answer k stOK

/-- PORT_DISABLE. -/
def execPortDisable (k : Packet) (s : State) : Host.Outcome State Fault Refusal := .next (s.serve k (·.cmdPortDisable k))

/-- The 48 bytes of *PORT_GET_STATE response* (R371). -/
def State.portState (s : State) (p : Port) : List Byte :=
  let w := fun pg inst off => leBytes 4 (s.pageWord pg inst off)
  let c := (s.port p).pe.contract
  let flags := bitsOf [s.enabled p, s.on SYS.RESTRICTED 0, (s.port p).windowed, s.stopped p, s.on BUDGET.VALID p,
    s.gst p == gRetired, s.tc p == tcErrorRecovery]
  leBytes 1 flags ++ leBytes 1 (s.tc p) ++ leBytes 1 (s.rd PD.PD_STATE p) ++ leBytes 1 (s.gst p) ++ w 0x102 p 0x60 ++
    (match c with
      | some x =>
        leBytes 2 x.mv ++ leBytes 2 x.ma ++ leBytes 4 (x.pos + 2 ^ 8 * x.kind.code + 2 ^ 11 * s.rd PD.EPR_MODE p
          + 2 ^ 12 * s.rd CC.PWR_ROLE p)
      | none => leBytes 4 0 ++ leBytes 4 (2 ^ 11 * s.rd PD.EPR_MODE p + 2 ^ 12 * s.rd CC.PWR_ROLE p)) ++
    w 0x102 p 0x70 ++ w 0x102 p 0x68 ++ w 0xF 0 (0x80 + 4 * p.val) ++ w 0xF 0 (0x100 + 4 * p.val) ++ w 0x103 p 0x60 ++
    w 0x100 p 0x54 ++ w 0xC 0 (0x80 + 4 * p.val) ++ List.replicate 4 0

/-- PORT_GET_STATE (R371). -/
def State.cmdPortGetState (s : State) (k : Packet) : State :=
  s.onOwner k fun s => s.onPort k k.plain fun s p => s.respond k stOK (s.portState p)

/-- PORT_GET_STATE. -/
def execPortGetState (k : Packet) (s : State) : Host.Outcome State Fault Refusal :=
  .next (s.serve k (·.cmdPortGetState k))

/-- The swap kind of a code. -/
def swapOf : Nat → SwapKind
  | 0 => .pr
  | 1 => .dr
  | _ => .vconn

/-- PORT_SWAP (R162). -/
def State.cmdPortSwap (s : State) (k : Packet) : State :=
  s.onPort k (k.payload.isEmpty && decide (k.ar < 3)) fun s p =>
    if !s.ownsPorts || s.on SYS.RESTRICTED 0 || !s.explicit p || (k.ar == 0 && s.on PD.EPR_MODE p) then s.answer k stDENIED
    else if s.on PD.AMS_ACTIVE p || !s.pdQuiet p then s.answer k stBUSY
    else (s.sendOwnSwap p (swapOf k.ar) .host).answer k stOK

/-- PORT_SWAP. -/
def execPortSwap (k : Packet) (s : State) : Host.Outcome State Fault Refusal := .next (s.serve k (·.cmdPortSwap k))

/-- PORT_HARD_RESET (R372). -/
def State.cmdPortHardReset (s : State) (k : Packet) : State :=
  s.onPort k (k.payload.isEmpty && decide (k.ar < 2)) fun s p =>
    if !s.ownsPorts || !s.on CC.ATTACHED p || !s.on PD.PD_EN p || (k.ar == 1 && !s.mayCableReset p) then s.answer k stDENIED
    else if (s.port p).phy.hrPending || (s.port p).phy.cableResetPending then s.answer k stBUSY
    else (if k.ar = 1 then s.sendCableReset p else s.sendHardReset p).answer k stOK

/-- PORT_HARD_RESET. -/
def execPortHardReset (k : Packet) (s : State) : Host.Outcome State Fault Refusal :=
  .next (s.serve k (·.cmdPortHardReset k))

/-- The VDM of a payload may be sent: a structured VDM of command type REQ, not Enter Mode, Exit Mode or Attention (R373). -/
def vdmAllowed (l : List Byte) : Bool :=
  let h := bytesAt l 0 4
  decide (4 ≤ l.length ∧ l.length ≤ 28 ∧ l.length % 4 = 0) && h.testBit 15 && bits h 7 6 == 0
    && !decide (h % 32 ∈ [4, 5, 6])

/-- PORT_SEND_VDM (R373): the answer comes when the AMS ends. -/
def State.cmdPortSendVdm (s : State) (k : Packet) : State :=
  s.onPort k (decide (k.ar < 3) && vdmAllowed k.payload) fun s p =>
    if k.ar ≠ 0 ∧ s.on PD.VCONN_SRC p = false then s.answer k stBAD_ARG
    else if !s.ownsPorts || !s.explicit p then s.answer k stDENIED
    else if s.on PD.AMS_ACTIVE p || (s.port p).pe.await != .none then s.answer k stBUSY
    else
      let ws := (List.range (k.len / 4)).map fun j => BitVec.ofNat 32 (bytesAt k.payload (4 * j) 4)
      (s.pe p fun e => { e with await := .hostVdm k }).sendFrame p ⟨vdmSop k, .vdm, 0, none, .vdm ws⟩ true

/-- PORT_SEND_VDM. -/
def execPortSendVdm (k : Packet) (s : State) : Host.Outcome State Fault Refusal := .next (s.serve k (·.cmdPortSendVdm k))

/-- PORT_CLEAR_FAULT (R285). -/
def State.cmdPortClearFault (s : State) (k : Packet) : State :=
  s.onOwner k fun s => s.onPort k (k.payload.isEmpty && decide (k.ar < 2)) fun s p =>
    if s.clearRefused p (k.ar == 1) then s.answer k stDENIED
    else (s.clearFault p (k.ar == 1)).answer k stOK

/-- PORT_CLEAR_FAULT. -/
def execPortClearFault (k : Packet) (s : State) : Host.Outcome State Fault Refusal :=
  .next (s.serve k (·.cmdPortClearFault k))

/-- The resource of a PORT_TEST kind is FAILED already (R558). (DEDUCED, assumption 89) -/
def State.testFailed (s : State) (p : Port) (kind : Nat) : Bool :=
  match kind with
  | 0 => s.on GUARD.A_FAILED p && s.on GUARD.B_FAILED p
  | 1 => s.on GUARD.C_FAILED p
  | 2 => s.on GUARD.IFAST_FAILED p
  | _ => s.bit ADC.FAILED 0 (p.val / 4)

/-- PORT_TEST (R558): the answer comes when the test ends. (DEDUCED, assumption 89) -/
def State.cmdPortTest (s : State) (k : Packet) : State :=
  s.onPort k (k.payload.isEmpty && decide (k.ar < 4)) fun s p =>
    if !s.ownsPorts || s.gst p == gRetired || s.testFailed p k.ar then s.answer k stDENIED
    else if (s.port p).test.isSome then s.answer k stBUSY
    else (s.modPort p fun x => { x with test := some ⟨k, k.ar, s.up⟩ }).wrBit TEST.PEND 0 p true

/-- PORT_TEST. -/
def execPortTest (k : Packet) (s : State) : Host.Outcome State Fault Refusal := .next (s.serve k (·.cmdPortTest k))

end Sys2Proof.Machine
end

