-- ==== Sys2Proof/Machine/Cores.lean ====
section
/-! DEFINITION. Engines that are lost, moved, reloaded and retired (chapters 1, 3, 14, 20, 23): resynchronisation, a Twill's
ports at its buddy, components of an image, and what the commands and rows of reloading share. -/

namespace Sys2Proof.Machine

/-! ## Resynchronisation (R104) -/

/-- What the cache entry of a port brings back (R104 step 2): revision, roles, contract, EPR mode, capabilities and the
partner's Fast Role Swap current; a failing entry brings nothing. -/
def State.restoreCache (s : State) (p : Port) : State :=
  let e := (s.port p).pe
  let i := e.cache
  if !e.cacheOk || e.cache = CacheImg.reset then s
  else
    let s1 := (((s.wr PD.NEG_REV p i.rev).flag PD.UNCHUNKED p i.unchunked).wr PD.HDR_PWR_ROLE p (if i.src = 1 then 1 else 0)).wr
      PD.HDR_DATA_ROLE p i.data
    let s2 := ((s1.flag PD.VCONN_SRC p i.vconnSrc).flag PD.EPR_MODE p i.epr).wr PD.FRS_CURRENT p i.frs
    let s3 := s2.pe p fun e => { e with contract := i.contract, rdo := i.rdo, caps := i.caps, capsFlags := i.capsFlags }
    s3.wr PD.CONTRACT p (if i.contract.isSome then 2 else s.rd PD.CONTRACT p)

/-- A Twill that took a port over resynchronises it: Hard Reset where the cache entry fails or shows a swap or a
transition, Soft Reset otherwise. (DEDUCED, assumption 105) -/
def State.resync (s : State) (p : Port) : State :=
  let e := (s.port p).pe
  if !e.resyncDue then s
  else if !s.on CC.ATTACHED p then s.pe p fun e => { e with resyncDue := false }
  else
    let s1 := (((s.pe p fun e => { e with resyncDue := false }).restoreCache p).phy p fun y =>
      { y with rx := [], reasm := [] }).bump PD.RESYNC_CNT p
    if e.cache.inflight != .none || !e.cacheOk then s1.sendHardReset p
    else (s1.sendSoftReset p).wr PD.PD_STATE p pdResync

/-! ## A Twill's ports (R12, R28, R504) -/

/-- The Twill that stands in for Twill `k`. -/
def buddy (k : Fin 8) : Fin 8 := Fin.ofNat 8 (k.val ^^^ 1)

/-- The ports that a Twill carries. -/
def State.twillPorts (s : State) (k : Fin 8) : List Port := allPorts.filter fun p => s.bit CORE.PORTS k p.val

/-- Ports change Twills: what was under way on each is lost, and each is to be resynchronised. -/
def State.portsLost (s : State) (l : List Port) : State :=
  s.forPorts l fun t p => (t.endVdm p stABORTED []).twillLost p

/-- The ports of Twill `k` go to its buddy. -/
def State.toBuddy (s : State) (k : Fin 8) : State :=
  let l := s.twillPorts k
  let b := buddy k
  let s1 := (s.wr CORE.PORTS b (s.rd CORE.PORTS b ||| s.rd CORE.PORTS k)).wr CORE.PORTS k 0
  (s1.bump CORE.BUDDY_CNT 0).portsLost l

/-- The four ports of R12 go back to Twill `k`. (DEDUCED, assumption 105) -/
def State.fromBuddy (s : State) (k : Fin 8) : State :=
  let b := buddy k
  let own := CORE.PORTS.reset.at k
  let s1 := (s.wr CORE.PORTS b (s.rd CORE.PORTS b &&& (2 ^ 32 - 1 - own))).wr CORE.PORTS k own
  s1.portsLost (s1.twillPorts k)

/-- A core reset of an engine: it is counted, and its mailboxes and staging buffer are cleared (R349, R353). -/
def State.coreReset (s : State) (e : Fin 16) : State := (s.bump CORE.CORE_RESET_CNT 0).resetBoxes e

/-! ## The engine's carrier (R504) -/

/-- The engine that carries the ports of engine `e`; Chalk and Loam have none. -/
def carrierOf (e : Nat) : Option Nat :=
  if 1 ≤ e ∧ e ≤ 8 then some ((buddy (Fin.ofNat 8 (e - 1))).val + 1)
  else if e = 9 then some 10
  else if e = 10 then some 9
  else none

/-- The Twill of an endpoint. -/
def twillAt (e : Nat) : Fin 8 := Fin.ofNat 8 (e - 1)
/-- The Marl engine of an endpoint. -/
def marlAt (e : Nat) : Fin 2 := if e = 10 then 1 else 0

/-- The planned move of a Marl engine's ports to the other one: each port at its next outer step (R219).
(DESIGN CHOICE, assumption 185) -/
def State.planMove (s : State) (e : Fin 2) (st : Nat) : State :=
  let s1 : State := { s with planned := s.planned ||| BitVec.ofNat 2 (2 ^ e.val) }
  let s2 := (s1.wr MARL.CARRIER_LO 0 (1 - e).val).wr MARL.CARRIER_HI 0 (1 - e).val
  (s2.moveOuter).wr (engState e) 0 st

/-! ## Images and their components (R488, R489) -/

/-- Bytes of an image's header. -/
def imgSize (l : List Byte) : Nat := bytesAt l 12 4
def imgLoamArb (l : List Byte) : Nat := bytesAt l 8 2
def imgBundleArb (l : List Byte) : Nat := bytesAt l 10 2
def imgIface (l : List Byte) : Nat := bytesAt l 24 4

/-- DIRECTORY entry `c` (0 Loam, 1 Chalk, 2 Twill, 3 Marl, 4 defaults): the component's bytes, and its hash's first 24
bytes.  Offsets count from the image's first byte. -/
def component (l : List Byte) (c : Nat) : List Byte := (l.drop (bytesAt l (64 + 32 * c) 4)).take (bytesAt l (68 + 32 * c) 4)
def dirHash (l : List Byte) (c : Nat) : List Byte := (l.drop (72 + 32 * c)).take 24

/-- A component matches its DIRECTORY hash. -/
def componentOk (l : List Byte) (c : Nat) : Bool := (sha256 (component l c)).take 24 == dirHash l c

/-- The component that an engine runs. -/
def componentOf (e : Nat) : Nat := if e = 0 then 0 else if e = 11 then 1 else if e ≤ 8 then 2 else 3

/-- An image of a source: slot 0 or 1, or 2 for the one a host has pushed. (DEDUCED, assumption 92) -/
def State.imageAt (s : State) (i : Nat) : List Byte :=
  if i = 0 then s.flash.slots.get 0 else if i = 1 then s.flash.slots.get 1 else s.boot.host

/-- The running image. -/
def State.runningImage (s : State) : List Byte := s.imageAt s.boot.run

/-! ## Loading (R494, R495, R504) -/

/-- An engine's component of source `i` failed its hash twice: CORE_LOAD_FAIL, and the engine is FAILED with its ports carried
(R495).
What a failed Chalk leads to is left to the caller. -/
def State.loadFails (s : State) (e i : Nat) : State :=
  let s1 := ((s.event EV.CORE_LOAD_FAIL 0xFF e i 0 0).bump BOOT.LOAD_FAIL_CNT 0).irq BOOT.page 0 BOOT.IRQ_LOAD_FAIL
  let s2 := s1.engineFailed e
  if 1 ≤ e ∧ e ≤ 8 then
    (if s2.rd CORE.PORTS (twillAt e) = 0 then s2 else s2.toBuddy (twillAt e))
  else if e = 9 ∨ e = 10 then
    let m := marlAt e
    if s2.rd (engState (1 - m)) 0 = 1 then s2.planMove m 2 else s2.engineDown m
  else s2

/-- What a Marl engine runs. -/
def State.setMarlCode (s : State) (m : Fin 2) (l : List Byte) : State :=
  { s with boot := { s.boot with marl := s.boot.marl.set m l m.isLt } }

/-- The reload of an engine ends: it runs the component of source `i`, a Twill's ports come back, a Marl's once its tables have
checked (R219), and CORE_RELOADED says why: 1 command, 2 rolling, 3 start. -/
def State.reloadDone (s : State) (e i why : Nat) : State :=
  let s1 := s.engineRestarted e lcReload
  let s2 :=
    if 1 ≤ e ∧ e ≤ 8 then s1.fromBuddy (twillAt e)
    else if e = 9 ∨ e = 10 then (s1.setMarlCode (marlAt e) (component (s1.imageAt i) 3)).marlStarts (marlAt e)
    else s1
  (s2.bump BOOT.RELOAD_CNT 0).event EV.CORE_RELOADED 0xFF e i why 0

/-- An engine is put out of service, with its ports carried: a state of R347 and a cause. -/
def State.takeOut (s : State) (e : Nat) (st cause : Nat) : State :=
  let s1 := ((s.wr CORE.STATE e st).wr CORE.LAST_CAUSE e cause).coreReset (Fin.ofNat 16 e)
  if 1 ≤ e ∧ e ≤ 8 then
    let k := twillAt e
    let l := s1.twillPorts k
    if l.isEmpty then s1 else (s1.toBuddy k).forPorts l State.resync
  else if e = 9 ∨ e = 10 then s1.planMove (marlAt e) (if st = enRetired then 2 else 3)
  else s1

/-- An engine is reloaded from a source: its component is checked, its ports are carried meanwhile, and it runs again. -/
def State.reloadEngine (s : State) (e i why : Nat) : State × Bool :=
  let s1 := if s.rd CORE.STATE e = enRetired then s.wr CORE.LAST_CAUSE e lcReload else s.takeOut e enReloading lcReload
  if componentOk (s.imageAt i) (componentOf e) then (s1.reloadDone e i why, true) else (s1.loadFails e i, false)

/-- The engine that carries `e` meanwhile runs, and a buddy Twill would carry no more than eight ports. -/
def State.carried1 (s : State) (e : Nat) : Bool :=
  match carrierOf e with
  | some c =>
    s.coreRuns c && (!(decide (1 ≤ e ∧ e ≤ 8)) ||
      decide ((s.twillPorts (twillAt e)).length + (s.twillPorts (buddy (twillAt e))).length ≤ 8))
  | none => true

end Sys2Proof.Machine
end

