-- ==== Sys2Proof/Machine/Boot.lean ====
section
/-! DEFINITION. Start-up (chapter 20): the slot directory, the checks of an image, the choice of a slot, cold and warm
starts, and the reload and retirement of engines. -/

namespace Sys2Proof.Machine

/-- Change the flash. -/
def State.flashRec (s : State) (f : FlashSt → FlashSt) : State := { s with flash := f s.flash }
/-- Change the boot record. -/
def State.bootRec (s : State) (f : BootSt → BootSt) : State := { s with boot := f s.boot }

/-! ## The slot directory (R487) -/

/-- Slot states (R507). -/
abbrev slEmpty : Nat := 0
abbrev slWriting : Nat := 1
abbrev slValid : Nat := 2
abbrev slPending : Nat := 3
abbrev slTrial : Nat := 4
abbrev slBad : Nat := 5

/-- Which copy of the directory is in use: the valid one of the higher sequence number. -/
def State.dirCopy (s : State) : Fin 2 :=
  match s.flash.dir.get 0, s.flash.dir.get 1 with
  | some a, some b => if a.seq < b.seq then 1 else 0
  | none, some _ => 1
  | _, none => 0

/-- The directory in use; with no valid copy both slots are EMPTY and slot A is active. -/
def State.dir (s : State) : DirCopy := (s.flash.dir.get s.dirCopy).getD ⟨0, 0, slEmpty, slEmpty⟩

/-- The state of a slot. -/
def DirCopy.of (d : DirCopy) (i : Nat) : Nat := if i = 0 then d.a else d.b
/-- The directory with another state for a slot. -/
def DirCopy.put (d : DirCopy) (i v : Nat) : DirCopy := if i = 0 then { d with a := v } else { d with b := v }

/-- SLOT_A, SLOT_B, their versions and ACTIVE_SLOT show the directory and the images' headers. -/
def State.showSlots (s : State) : State :=
  let d := s.dir
  let s1 := [0, 1].foldl (fun (t : State) i =>
    let l := t.imageAt i
    let t1 := ((t.wr BOOT.SLOT_STATE i (d.of i)).wr BOOT.SLOT_LOAM_ARB i (imgLoamArb l)).wr BOOT.SLOT_BUNDLE_ARB i (imgBundleArb l)
    (t1.wr BOOT.VER_LO i (bytesAt l 16 4)).wr BOOT.VER_HI i (bytesAt l 20 4)) s
  s1.wr BOOT.ACTIVE_SLOT 0 d.active

/-- A directory change writes the other copy with the sequence number raised by one. -/
def State.setDir (s : State) (f : DirCopy → DirCopy) : State :=
  let d := s.dir
  let i : Fin 2 := if (s.flash.dir.get s.dirCopy).isNone then 0 else 1 - s.dirCopy
  (s.flashRec fun x => { x with dir := x.dir.set i (some { f d with seq := (d.seq + 1) % 2 ^ 32 }) i.isLt }).showSlots

/-- A slot takes a state. -/
def State.markSlot (s : State) (i v : Nat) : State := s.setDir fun d => d.put i v

/-- The slot that is not active. -/
def State.inactive (s : State) : Nat := 1 - s.dir.active

/-! ## An image's checks (R489, R493) -/

/-- A signature over a message under the key whose hash stands in KEYS. (DESIGN CHOICE, assumption 9) -/
def sigOk (hash msg sig : List Byte) : Bool := ecdsaVerify (Config.keyWithHash hash) (sha256 msg) sig

/-- CUST_SIG verifies where CUST_SIG_REQ asks for it. -/
def State.custOk (s : State) (msg sig : List Byte) : Bool :=
  !s.on BOOT.CUST_SIG_REQ 0 || (match s.keyHash 9 with
    | some h => sigOk h msg sig
    | none => false)

/-- MAGIC, FORMAT and PART. (DEDUCED, assumption 93) -/
def headOk (magic l : List Byte) : Bool := l.take 4 == magic && bytesAt l 4 1 == 1 && bytesAt l 6 2 == 0x3248

/-- "SWIM" and "SWPK". -/
def swim : List Byte := [0x53, 0x57, 0x49, 0x4D]
def swpk : List Byte := [0x53, 0x57, 0x50, 0x4B]

/-- The indices are each at least the OTP counter. -/
def State.arbOk (s : State) (loam bundle : Nat) : Bool := decide (s.otpCounter 0 ≤ loam ∧ s.otpCounter 1 ≤ bundle)

/-- The status of the first check that an image fails, OK where it is valid.  A warm start checks the Loam component's hash
in place of BODY_HASH. (DEDUCED, assumption 93) -/
def State.imageFault (s : State) (l : List Byte) (warm : Bool) : Nat :=
  if !headOk swim l || decide (l.length < imgSize l) then stBAD_ARG
  else if !sigOk s.octifHash (l.take 320) ((l.drop 320).take 64) then stINTEGRITY
  else if !s.custOk (l.take 320) ((l.drop 384).take 64) then stINTEGRITY
  else if warm && !componentOk l 0 then stINTEGRITY
  else if !warm && sha256 ((l.take (imgSize l)).drop 512) != (l.drop 32).take 32 then stINTEGRITY
  else if !s.arbOk (imgLoamArb l) (imgBundleArb l) then stDENIED
  else stOK

/-! ## Update states (R500, R507) -/

/-- UPD_STAT.STATE codes. -/
abbrev upIdle : Nat := 0
abbrev upReceiving : Nat := 1
abbrev upStaged : Nat := 2
abbrev upApplying : Nat := 3
abbrev upApplied : Nat := 4
abbrev upCommitted : Nat := 5
abbrev upRolling : Nat := 6
abbrev upTrial : Nat := 7
abbrev upInterrupted : Nat := 8
abbrev upFailed : Nat := 9

/-- UPD_STAT.STATE changes: UPD_STATE is written. -/
def State.updState (s : State) (n : Nat) : State :=
  if s.rd BOOT.STATE 0 = n then s
  else
    let s1 := s.wr BOOT.STATE 0 n
    (s1.eventSev EV.UPD_STATE (if n = upFailed then 2 else 0) 0xFF n (s1.rd BOOT.LAST_STATUS 0) (s1.rd BOOT.DONE 0) 0).irq
      BOOT.page 0 BOOT.IRQ_UPD_STATE

/-- A failed check ends the update. -/
def State.updFails (s : State) (status : Nat) : State :=
  ((s.wr BOOT.LAST_STATUS 0 status).updState upFailed).bump BOOT.UPD_FAIL_CNT 0

/-! ## The choice of a slot (R492) -/

/-- What a choice has found so far: slots abandoned, each with its reason, and the slot started. -/
structure Choice where
  left : List (Nat × Nat)
  slot : Option Nat

/-- A slot is rejected: BAD, and BOOT_ERR says why where a check failed. -/
def State.reject (s : State) (i status : Nat) : State :=
  let s1 := s.markSlot i slBad
  if status = stOK then s1 else s1.wr BOOT.BOOT_ERR 0 status

/-- Rule 3: the active slot, or else the other one, which becomes active. (DEDUCED, assumption 95) -/
def State.chooseActive (s : State) (warm : Bool) (left : List (Nat × Nat)) : State × Choice :=
  let a := s.dir.active
  let fa := s.imageFault (s.imageAt a) warm
  if s.dir.of a = slValid ∧ fa = stOK then (s, ⟨left, some a⟩)
  else
    let s1 := s.reject a fa
    let o := 1 - a
    let left1 := left ++ [(a, 1)]
    if s1.dir.of o = slValid then
      let fo := s1.imageFault (s1.imageAt o) warm
      if fo = stOK then (s1.setDir fun d => { d with active := o }, ⟨left1, some o⟩)
      else (s1.wr BOOT.BOOT_ERR 0 fo, ⟨left1, none⟩)
    else (s1, ⟨left1, none⟩)

/-- A slot in a state. -/
def State.slotIn (s : State) (v : Nat) : Option Nat := [0, 1].find? fun i => s.dir.of i == v

/-- The whole choice. -/
def State.choose (s : State) (warm : Bool) : State × Choice :=
  match s.slotIn slTrial with
  | some i => (s.markSlot i slBad).chooseActive warm [(i, 2)]
  | none =>
    match s.slotIn slPending with
    | some i =>
      let f := s.imageFault (s.imageAt i) warm
      if f = stOK then (s.markSlot i slTrial, ⟨[], some i⟩)
      else
        let s1 := s.reject i f
        (if s.rd BOOT.STATE 0 = upCommitted then s1.updFails f else s1).chooseActive warm [(i, 1)]
    | none => s.chooseActive warm []

/-- UPD_FALLBACK: the slot abandoned, why, and the slot started; with none started that word is open.
(DEDUCED, assumption 94) -/
def State.fellBack (s : State) (slot why : Nat) (now : Option Nat) : State :=
  let (v, s1) : Nat × State := match now with
    | some i => (i, s)
    | none => (s.fresh.1.toNat % 2 ^ 32, s.fresh.2)
  ((s1.event EV.UPD_FALLBACK 0xFF slot why v 0).bump BOOT.FALLBACK_CNT 0).irq BOOT.page 0 BOOT.IRQ_FALLBACK

/-- The choice is made and reported. (DEDUCED, assumption 94) -/
def State.chooseSlot (s : State) (warm : Bool) : State × Option Nat :=
  let (s1, c) := s.choose warm
  let s2 := c.left.foldl (fun t x => t.fellBack x.1 x.2 c.slot) s1
  let s3 := if s.rd BOOT.STATE 0 = upTrial ∧ c.left.any (fun x => x.2 == 2) = true then s2.updState upIdle else s2
  ((s3.flag BOOT.FALLBACK 0 (!c.left.isEmpty)).flag BOOT.TRIAL 0 false, c.slot)

/-! ## What cold and warm starts share (R491, R493, R494, R550) -/

/-- The recovery ROM takes over (R506): every port in safe state, DEV_STATE RECOVERY. (DESIGN CHOICE, assumption 29) -/
def State.toRecovery (s : State) : State :=
  let s1 := ({ s with dev := .recovery } : State).flag SYS.READY 0 false
  (s1.wr BOOT.SOURCE 0 2).forPorts allPorts fun t p => t.present p (t.safeTerm p)

/-- One engine of the compute domain starts from the running image. -/
def State.startCore (s : State) (cause e : Nat) : State :=
  if s.rd CORE.STATE e = enRetired then s
  else if e ≠ 0 ∧ componentOk s.runningImage (componentOf e) = false then s.loadFails e s.boot.run
  else s.engineRestarted e cause

/-- Loam, Chalk and the Twills start; each Twill in RUN carries its own ports, and a buddy those of one that is not. -/
def State.startCores (s : State) (cause : Nat) : State :=
  let s1 := (List.finRange 8).foldl (fun (t : State) (k : Fin 8) => t.wr CORE.PORTS k (CORE.PORTS.reset.at k)) s
  let s2 := (0 :: 11 :: [1, 2, 3, 4, 5, 6, 7, 8]).foldl (fun t e => t.startCore cause e) s1
  (List.finRange 8).foldl (fun (t : State) (k : Fin 8) =>
    if t.rd CORE.STATE (k.val + 1) = enRetired && t.coreRuns ((buddy k).val + 1) then t.toBuddy k else t) s2

/-- The running image is set: its version and interface words, and whether its slot is in TRIAL. -/
def State.runFrom (s : State) (i : Nat) : State :=
  let s1 := s.bootRec fun b => { b with run := i, forced := false, early := false }
  let l := s1.runningImage
  let s2 := ((s1.wr SYS.FW_VER_LO 0 (bytesAt l 16 4)).wr SYS.FW_VER_HI 0 (bytesAt l 20 4)).wr SYS.IFACE 0 (imgIface l)
  let trial := decide (i < 2) && s.dir.of i == slTrial
  let s3 := (s2.flag BOOT.TRIAL 0 trial).wr BOOT.SOURCE 0 (if i = 2 then 1 else 0)
  if trial then s3.updState upTrial else s3

/-- RESET_CAUSE, written at READY. -/
def State.resetCause (s : State) : State :=
  let c := s.rd RST.CAUSE 0
  let bad := c.testBit rcBrownout || c.testBit rcHeartbeat || c.testBit rcWdog
  s.eventSev EV.RESET_CAUSE (if bad then 2 else 0) 0xFF c (s.rd RING.EPOCH 0) 0 0

/-- READY: MS, BOOTED and RESET_CAUSE; SAFE where it was entered meanwhile (R538). -/
def State.ready (s : State) (start ms : Nat) : State :=
  let s1 := ((s.flag SYS.READY 0 true).wr BOOT.START 0 start).wrSat BOOT.MS 0 ms
  let s2 := (s1.event EV.BOOTED 0xFF s1.boot.run start ms 0).resetCause
  { s2 with dev := if s2.pow.intoSafe then .safe else .run, pow := { s2.pow with intoSafe := false } }

/-- Chalk's component failed at the start: the running slot is BAD and a warm reset falls back (R495).  No bit of RST_CAUSE
names it. (DEDUCED, assumption 103) -/
def State.chalkFallback (s : State) : State :=
  if s.rd CORE.STATE 11 ≠ enFailed then s
  else (if s.boot.run < 2 then s.markSlot s.boot.run slBad else s).warmGo

/-- Each running Marl engine whose code differs from the running image's is reloaded by the planned move, one at a time
(R494). -/
def State.refreshMarls (s : State) : State :=
  [9, 10].foldl (fun (t : State) e =>
    let code := t.boot.marl.get (marlAt e)
    if t.rd CORE.STATE e = enRun && (sha256 code).take 24 != dirHash t.runningImage 3 then (t.reloadEngine e t.boot.run 3).1
    else t) s

/-! ## Pair mode at a cold start (R461, R462, R464, R580) -/

/-- CONFIG and KEYS put the device into pair mode. -/
def State.pairMode (s : State) : Bool := s.configFlag 0 && (s.keyHash 17).isSome

/-- The pair decision: SOLO_HOLD, PAIR_MODE, ROLE and PAIR_STATE; a member whose stored key matches the OTP hash is a
standby, one without a valid key enrols, and a refused or lone device drives its own outputs. -/
def State.startPair (s : State) : State :=
  let on := s.pairMode && s.rd BOOT.BOOT_PINS 0 != 2
  let s1 : State := { s with pow := { s.pow with solo := !on } }
  let s2 := (s1.flag SYS.PAIR_MODE 0 on).wr PAIR.ROLE 0 (if s.rd BOOT.BOOT_PINS 0 = 3 then 1 else 0)
  if !on then s2.pairState (if s.configFailed || s.configFlag 0 then psRefused else psSolo)
  else if s.pair.left then s2.releaseOutputs.pairState psLeft
  else
    match s.pair.keyFlash with
    | some k =>
      if some (sha256 k) = s.keyHash 17 then (s2.pr fun x => { x with key := some k }).toStandby
      else s2.releaseOutputs.pairState psEnrolling
    | none => s2.releaseOutputs.pairState psEnrolling

/-- A member that is fit to own its ports toggles OWN_OUT and arms its veto (R473). -/
def State.pairFit (s : State) : State :=
  if s.standby then (s.flag PAIR.HB_ENABLE 0 true).flag PAIR.VETO_ARM 0 true else s

/-- A device that drives its outputs keeps each port in safe state with DSG on until the port is used (R287). -/
def State.startPorts (s : State) : State :=
  s.forPorts allPorts fun t p =>
    if t.gst p = gRetired ∨ t.gst p = gYielded then t
    else (t.toDischarge p).present p (t.safeTerm p)

/-! ## The OTP SERVICE counter (R563) -/

/-- One raise that is due; at 256 the counter stays and SERVICE_FULL is written. (DEDUCED, assumption 111) -/
def State.raiseService (s : State) : State :=
  let v := s.otpCounter 2
  let s1 : State := { s with svc := { s.svc with due := s.svc.due - 1 } }
  if 256 ≤ v then s1.event EV.SERVICE_FULL 0xFF 256 0 0 0 else s1.raiseCounter 2 (v + 1)

/-- Every raise that is due is completed. (DEDUCED, assumption 111) -/
def State.raiseAll (s : State) : State := (List.range s.svc.due).foldl (fun t _ => t.raiseService) s

/-! ## COLD_START (R491) -/

/-- Steps 5 to 7: engines, tables, policy, masks and marks, the ledger, READY, and AUTO_EN. -/
def State.bringUp (s : State) (i ms : Nat) : State :=
  let s1 := (s.runFrom i).startCores lcCold
  let img := s1.runningImage
  let s2 := ([9, 10] : List Nat).foldl (fun (t : State) e =>
    if componentOk img 3 then (t.engineRestarted e lcCold).setMarlCode (marlAt e) (component img 3) else t.loadFails e i) s1
  let s3 := s2.startMarls.loadTables.applyPolicies.applyProfiles
  let s4 := s3.restoreRetired.restoreMarks.ledgerLoad
  let s5 := (if s4.pairMember || s4.rd PAIR.PAIR_STATE 0 == psLeft then s4 else s4.startPorts).raiseAll.ready 1 ms
  (if s5.pairMember || s5.rd PAIR.PAIR_STATE 0 == psLeft then s5 else s5.autoEnable).pairFit.chalkFallback

/-- Copies and entries that a cold start finds failing their CRC-32 count as absent, or are skipped (R157, R341, R366). -/
def State.crcFound (s : State) (x : ColdFound) : State :=
  { s with
    polFlash := s.polFlash.map fun y => (y.1, if (y.1, false) ∈ x.polBad then none else y.2.1,
      if (y.1, true) ∈ x.polBad then none else y.2.2)
    led := { s.led with
      journal := s.led.journal.zipIdx.map fun y => if y.2 ∈ x.journalBad then (y.1.1, y.1.2.1, y.1.2.2.1, false) else y.1 } }

/-- Steps 1 to 4 of *Cold start*. -/
def State.coldStart (s : State) (x : ColdFound) : State :=
  let t0 := s.crcFound x
  let s0 := t0.otpStart.wr TEST.USED 0 s.svc.remap.length
  let s1 := (((s0.bump BOOT.BOOT_CNT 0).wr BOOT.START 0 1).showSlots.startPair).forPorts allPorts fun t p =>
    t.present p (t.safeTerm p)
  let pins := s.rd BOOT.BOOT_PINS 0
  if s1.keysFailed || pins == 2 then s1.toRecovery
  else if pins = 1 then s1.wr BOOT.SOURCE 0 1
  else
    match s1.chooseSlot false with
    | (s2, some i) => s2.bringUp i x.ms
    | (s2, none) => s2.toRecovery

/-- COLD_START: reset has been released and both PLLs are locked; `x` gives the time from the release to READY and
what fails its CRC-32.  A host boot
waits for its package (R505). -/
def execColdStart (x : ColdFound) (s : State) : Host.Outcome State Fault Refusal :=
  .next (
    if s.dev = .boot ∧ s.on CLK.CORE_LOCK 0 ∧ s.on CLK.PWM_LOCK 0 ∧ s.rd BOOT.SOURCE 0 ≠ 1 then s.coldStart x else s)

/-! ## WARM_START (R493, R536) -/

/-- Interrupts whose condition still stands are raised again on compute and link pages, which the reset has cleared (R429). -/
def State.reraise (s : State) : State :=
  allPages.foldl (fun t x => if computePage x.1 then
    t.wr (IRQ_STAT x.1) x.2 (t.rd (IRQ_STAT x.1) x.2 ||| t.rd (IRQ_RAW x.1) x.2) else t) s

/-- The ledger partition has failed its CRC-32: it is loaded from flash again (R22), and records of open sessions are ATTACHED.
(DEDUCED, assumption 173) -/
def State.ledgerAgain (s : State) : State :=
  allPorts.foldl (fun (t : State) (p : Port) =>
    match (t.port p).sess.isOpen, (t.port p).sess.slot with
    | true, some i => { t with led := { t.led with
        recs := t.led.recs.map fun (x : Nat × LedRec) => if x.1 = i then (x.1, setRecFlag x.2 rfAttached true) else x } }
    | _, _ => t) s.ledgerLoad

/-- Step 3 of *Cold start* onward, without the OTP and without the power path. (DEDUCED, assumption 96) -/
def State.warmStart (s : State) (ms : Nat) (ledgerBad : Bool) (cacheBad : List Port) : State :=
  let s0 := (if ledgerBad then s.ledgerAgain else s).forPorts cacheBad fun t p => t.pe p fun e => { e with cacheOk := false }
  let s1 := s0.bump BOOT.WARM_BOOT_CNT 0
  match (if s1.boot.run = 2 then (s1, some 2) else s1.chooseSlot true) with
  | (s2, none) => (s2.wr BOOT.START 0 2).toRecovery
  | (s2, some i) =>
    let s3 := (s2.runFrom i).startCores lcWarm
    let s4 := ([9, 10] : List Nat).foldl (fun (t : State) e =>
      if t.engineOut e = true ∧ componentOk t.runningImage 3 = true then
        ((t.engineRestarted e lcWarm).setMarlCode (marlAt e) (component t.runningImage 3)).marlStarts (marlAt e)
      else t) s3
    (s4.catchUp.refreshMarls.reraise.ready 2 ms).chalkFallback

/-- WARM_START: a warm reset that UPD_COMMIT has asked for begins; one in progress is released once PLL_CORE is locked, and
ends with READY, `ms` after its start. `ledgerBad` is whether the ledger partition fails its CRC-32, `cacheBad` the ports whose
cache entry does (R22). -/
def execWarmStart (x : WarmFound) (s : State) : Host.Outcome State Fault Refusal :=
  .next (
    if s.boot.warmDue = true ∧ s.dev ≠ .warmReset then
      (s.bootRec fun b => { b with warmDue := false }).warmBegin rcUpdate
    else if s.dev = .warmReset ∧ s.on CLK.CORE_LOCK 0 then
      (s.bootRec fun b => { b with warmDue := false }).warmStart x.ms x.ledgerBad x.cacheBad
    else s)

/-- WARM_RESET (R535): it starts the reset and writes no response.  A standby answers DENIED (R471). -/
def State.cmdWarmReset (s : State) (k : Packet) : State :=
  s.offStandby k fun s => s.formed k (k.chip && k.plain) fun s =>
    if s.warmRefused then s.answer k stDENIED else s.warmBegin rcCmd

/-- WARM_RESET. -/
def execWarmReset (k : Packet) (s : State) : Host.Outcome State Fault Refusal := .next (s.serve k (·.cmdWarmReset k))

/-! ## CORE_LOAD_FAIL (R495) -/

/-- CORE_LOAD_FAIL: the component of an engine that is being loaded has failed its hash twice. -/
def execCoreLoadFail (e : Fin 12) (s : State) : Host.Outcome State Fault Refusal :=
  .next (
    if e.val = 0 ∨ s.serves = false ∨ s.rd CORE.STATE e = enRetired then s
    else (s.loadFails e s.boot.run).chalkFallback)

/-! ## CORE_RELOAD and CORE_RETIRE (R504) -/

/-- Where the request comes from Loam's rules: endpoint 0, a carrier that is not in RUN or would carry too much. -/
def State.coreDenied (s : State) (e : Nat) : Bool := s.standby || e == 0 || !s.carried1 e

/-- The source of a reload: the active slot (R504), or the image that a host has booted. (DEDUCED, assumption 92) -/
def State.reloadSlot (s : State) : Nat := if s.boot.run = 2 then 2 else s.dir.active

/-- CORE_RELOAD. -/
def State.cmdCoreReload (s : State) (k : Packet) : State :=
  s.formed k (k.plain && decide (k.tgt ≤ 11)) fun s =>
    if s.coreDenied k.tgt then s.answer k stDENIED
    else
      match s.reloadEngine k.tgt s.reloadSlot 1 with
      | (s1, true) => s1.answer k stOK
      | (s1, false) => (s1.answer k stINTEGRITY).chalkFallback

/-- CORE_RELOAD. -/
def execCoreReload (k : Packet) (s : State) : Host.Outcome State Fault Refusal := .next (s.serve k (·.cmdCoreReload k))

/-- CORE_RETIRE: Chalk is never retired; an engine that is retired already stays so. -/
def State.cmdCoreRetire (s : State) (k : Packet) : State :=
  s.formed k (k.plain && decide (k.tgt ≤ 11)) fun s =>
    if s.coreDenied k.tgt || k.tgt == 11 then s.answer k stDENIED
    else (if s.rd CORE.STATE k.tgt = enRetired then s else s.takeOut k.tgt enRetired lcRetire).answer k stOK

/-- CORE_RETIRE. -/
def execCoreRetire (k : Packet) (s : State) : Host.Outcome State Fault Refusal := .next (s.serve k (·.cmdCoreRetire k))

end Sys2Proof.Machine
end

