-- ==== Sys2Proof/Machine/Budget.lean ====
section
/-! DEFINITION. Loam's management tick, the sharing of the feed's capacity, re-advertisement and Loam's own shed ceilings
(chapter 5). -/

namespace Sys2Proof.Machine

/-! ## Capacity (R141, R142, R158) -/

/-- The budget estimates feed `sel` as solar. -/
def State.solar (s : State) (sel : Nat) : Bool :=
  if sel = 1 then s.act BUDGET.SOLAR_A 0 == 1 else s.act BUDGET.SOLAR_B 0 == 1

/-- CAP in µW after a tick that measured `v` mV and `pMeas` µW; a cabinet without a selected feed has none. -/
def State.capacity (s : State) (v pMeas : Nat) : Nat :=
  let sel := s.rd FEED.SEL 0
  let top := s.pMax * 10 ^ 6
  let cap := if s.bud.seed then pMeas else s.bud.cap
  if sel = 0 then 0
  else if !s.solar sel then top
  else if 100 * s.act BUDGET.V_KNEE_HI 0 ≤ v then min top (max cap pMeas + s.act BUDGET.SOLAR_STEP 0 * 10 ^ 6)
  else if v < 100 * s.act BUDGET.V_KNEE_LO 0 then pMeas
  else cap

/-- Power in mW that sink ports returned, and that source ports drew, in the tick's interval. -/
def State.returned (s : State) : Nat := (allPorts.map fun p => if s.isSnk p then (-(s.port p).bud.mw).toNat else 0).sum
def State.drawn (s : State) : Nat := (allPorts.map fun p => if s.isSrc p then (s.port p).bud.mw.toNat else 0).sum

/-- AVAIL in W. (DESIGN CHOICE, assumption 21) -/
def State.avail (s : State) (cap : Nat) : Nat :=
  let eta := s.act BUDGET.ETA 0
  let credit := if s.act BUDGET.REV_CREDIT 0 = 1 then s.returned * eta * 10 else 0
  (cap * (100 - s.act BUDGET.MARGIN 0) * eta / 10000 + credit) / 10 ^ 6

/-! ## Demand and allocation (R143 to R146), in µW -/

/-- The caps of R334 and R338, and the shed ceiling of R144, on a demand. -/
def State.demandCap (s : State) (p : Port) (d : Nat) : Nat :=
  let x := (s.port p).sess
  let a := if s.authMode p = 2 ∧ x.isOpen = true ∧ x.passed = false then min d (s.act LEDGER.UNAUTH_PDP 0 * 10 ^ 6) else d
  let b := if s.act LEDGER.EOL_CAP_EN 0 = 1 ∧ x.isOpen = true ∧ s.rd LEDGER.EOL p = 3 then
      min a (s.act LEDGER.EOL_PDP 0 * 10 ^ 6) else a
  if s.on BUDGET.VALID p then min b (s.rd BUDGET.P_SHED p * 10 ^ 6) else b

/-- DEM of a port (R144). -/
def State.demand (s : State) (p : Port) : Nat :=
  let top := (s.prof p).pdpMax * 10 ^ 6
  s.demandCap p (
    if s.explicit p = false ∨ (s.port p).pe.mismatch = true then top
    else min top (s.contractPower p + s.act BUDGET.HEADROOM 0 * 10 ^ 6))

/-- The floor of every port, 2.5 W. -/
abbrev floorUw : Nat := 2500000

/-- What is shared out: each port's allocation so far, and what is left. -/
structure Share where
  alloc : List (Port × Nat)
  left : Nat
  deriving DecidableEq, Repr

/-- The allocation of a port. -/
def Share.of (x : Share) (p : Port) : Nat := (x.alloc.lookup p).getD 0

/-- A port is given `w`. -/
def Share.give (x : Share) (p : Port) (w : Nat) : Share :=
  ⟨x.alloc.map fun y => if y.1 = p then (y.1, y.2 + w) else y, x.left - w⟩

/-- The guaranteed minimum of a port. -/
def State.giveMin (s : State) (x : Share) (p : Port) : Share :=
  x.give p (min (min (s.act BUDGET.G_MIN p * 10 ^ 6) (s.demand p) - x.of p) x.left)

/-- Insert in rising order. -/
def insertNat (n : Nat) : List Nat → List Nat
  | [] => [n]
  | m :: t => if n ≤ m then n :: m :: t else m :: insertNat n t

/-- The level that `left` reaches when it is shared equally among needs in rising order, each up to itself; none when every
need is met. -/
def fillLevel (lvl left : Nat) : List Nat → Option Nat
  | [] => none
  | d :: t =>
    let n := t.length + 1
    if left ≤ (d - lvl) * n then some (lvl + left / n) else fillLevel d (left - (d - lvl) * n) t

/-- The water-fill of one class: equal shares, up to each port's demand. -/
def State.fillClass (s : State) (order : List Port) (x : Share) (c : Nat) : Share :=
  let l := (order.filter fun (p : Port) => s.act BUDGET.CLASS p == c).filterMap fun (p : Port) =>
    let need := s.demand p - x.of p
    if need = 0 then none else some (p, need)
  let needs := l.foldl (fun t y => insertNat y.2 t) []
  match fillLevel 0 x.left needs with
  | some v => { l.foldl (fun (t : Share) y => t.give y.1 (min y.2 v)) x with left := 0 }
  | none => l.foldl (fun (t : Share) y => t.give y.1 y.2) x

/-- The port has its share as a source: one that a Power Role Swap makes source, from the acknowledgement of its PS_RDY on
(R166). -/
def State.budgetSrc (s : State) (p : Port) : Bool :=
  s.isSrc p && !decide ((s.port p).swap.step ∈ [SwapStep.snkStart, SwapStep.snkPsRdy])

/-- All allocations, and whether the floors alone exceed AVAIL. A shed ceiling below the floor leaves the floor.
(DESIGN CHOICE, assumptions 21, 160) -/
def State.allocate (s : State) (availW : Nat) : List (Port × Nat) × Bool :=
  let order := s.grantOrder s.budgetSrc
  let x0 : Share := ⟨order.map fun p => (p, floorUw), availW * 10 ^ 6 - floorUw * order.length⟩
  let x1 := order.foldl s.giveMin x0
  (((List.range 4).foldl (s.fillClass order) x1).alloc, decide (availW * 10 ^ 6 < floorUw * order.length))

/-! ## Offers and ceilings -/

/-- A port's offer is written (R145, R253). -/
def State.writeOffer (s : State) (p : Port) (uw : Nat) : State :=
  let pOff := uw / 100000
  let i := min 500 (max 50 (pOff * 2))
  let i1 := if s.on LOOP.CAB_FAULT p then min i (5 * s.rd LOOP.I_FOLD p) else i
  (s.wrSat BUDGET.P_OFF p pOff).wr BUDGET.I_OFF p i1

/-- A budget ceiling enters Marl at once unless it lies below the present contract or a transition runs (R27, R126). -/
def State.enterCeil (s : State) (p : Port) : State :=
  let c := (s.port p).pe.contract
  let ma := match c with
    | some x => x.ma
    | none => rpMa (s.shownRp p)
  if (s.port p).pe.trans.isSome ∨ s.pOff p * 1000 < s.contractPower p ∨ s.iOff p < ma then s else s.applyCeil p

/-- One port's part of the offers: a source's allocation, held while offers are held but for a port that has none yet; no
allocation for the others (R115, R145). -/
def State.offerPort (s : State) (alloc : List (Port × Nat)) (p : Port) : State :=
  if s.budgetSrc p then
    let s1 :=
      if s.on BUDGET.HOLD 0 then (if s.rd BUDGET.P_OFF p = 0 then s.writeOffer p floorUw else s)
      else s.writeOffer p ((alloc.lookup p).getD floorUw)
    (s1.pe p fun e => { e with pdpTick := s1.pdp p }).enterCeil p
  else (s.wr BUDGET.P_OFF p 0).wr BUDGET.I_OFF p 0

/-- A sink port's ceiling (R147), SNK_IMAX in place of the pool's share for a bus-forming port of an island (R183). -/
def State.sinkCeil (s : State) (pool n : Nat) (p : Port) : State :=
  if !s.isSnk p then s
  else if s.island.isSome && s.rd LOOP.MODE p == mBusForm then
    (s.wr LOOP.I_CEIL p (min 6000 (10 * (s.prof p).snkImax))).wr LOOP.P_CEIL p 0
  else
    let mw := min (1000 * (s.prof p).snkPdp) (pool / max 1 n)
    (s.wr LOOP.I_CEIL p (min 6000 (mw * 1000 / max 1 (s.rd LOOP.VBUS p)))).wrSat LOOP.P_CEIL p (mw / 100)

/-- 5 V that an attached source has asked for is granted: the converter starts at 5 V, and the guard closes the switch by
SOFT_START (R30 step 3). -/
def State.grant5v (s : State) (p : Port) : State :=
  if (s.port p).cc.want5v && s.isSrc p then
    (((s.cc p fun c => { c with want5v := false }).implicitSetpoint p).cmdSoftStart p)
  else s

/-- DRP and EPR_SEEN of an open session's record follow what the port has seen, and LAST_SEEN is set every 60 s (R335,
R336). -/
def State.tickRecord (s : State) (p : Port) : State :=
  let x := (s.port p).sess
  if !x.isOpen then s
  else match x.slot with
    | none => s
    | some slot =>
      let s0 := s.flushFaults p
      match s0.record slot with
      | none => s0
      | some r =>
        let due := decide (x.seenAt + 60000000000 ≤ s.up)
        let r1 := if (s.port p).swap.partnerDrp then setRecFlag r rfDrp true else r
        let r2 : LedRec := { (if s.on PD.EPR_MODE p then setRecFlag r1 rfEprSeen true else r1) with
          frs := s.rd PD.FRS_CURRENT p }
        let r3 := if due then s.stamped { r2 with last := s.clock } else r2
        let s1 := if r3 = r then s0 else s0.putRecord slot r3
        if due then s1.sess p fun y => { y with seenAt := s.up } else s1

/-! ## The tick -/

/-- Whether a port's P_OFF moved by READV_DELTA between two states. -/
def offerMoved (s t : State) : Bool :=
  allPorts.any fun p =>
    let a := s.rd BUDGET.P_OFF p
    let b := t.rd BUDGET.P_OFF p
    decide (10 * s.act BUDGET.READV_DELTA 0 ≤ max a b - min a b)

/-- The fields of the BUDGET and LEDGER pages as they stand: the policies from this tick on (R159, R345).
(DEDUCED, assumption 176) -/
def State.budgetImage (s : State) : RegTable :=
  s.regs.filter fun x => (BUDGET.page * 1024 * 32 * 1024 ≤ x.1 && x.1 < (BUDGET.page + 1) * 1024 * 32 * 1024)
    || (LEDGER.page * 1024 * 32 * 1024 ≤ x.1 && x.1 < (LEDGER.page + 1) * 1024 * 32 * 1024)

/-- VCONN_MA: the mean of the tick's samples, halves up (R67). (DESIGN CHOICE, assumption 171) -/
def State.showVconn (s : State) (p : Port) : State :=
  let c := (s.port p).cc
  if c.maN = 0 then s
  else (s.wrSat CC.VCONN_MA p ((2 * c.maSum + c.maN) / (2 * c.maN))).cc p fun c => { c with maSum := 0, maN := 0 }

/-- The start of a tick: the policy taken (R159), the accumulators read, the energy an island returned added up: that of its sink
ports at VBUS, which ISLAND_END gives as word 5. (DESIGN CHOICE, assumption 197) -/
def State.tickHead (s0 : State) : State :=
  let s1 : State := ({ s0 with bud := { s0.bud with act := s0.budgetImage, given := false } } : State).flag BUDGET.DEFAULTS 0
    (s0.on BUDGET.DEFAULTS 0 && !s0.bud.given)
  let s2 := (s1.forPorts allPorts State.readAccum).bump BUDGET.TICK_CNT 0
  if s2.island.isSome then { s2 with islandE := s2.islandE + s2.returned * 5 / 2 } else s2

/-- What a tick shows of the input's capacity and of its measured power, in W and µW. -/
def State.tickSupply (s : State) (pMeas cap : Nat) : State :=
  (({ s with bud := { s.bud with seed := false } } : State).setCap cap).wrSat BUDGET.P_MEAS 0 (pMeas / 10 ^ 6)

/-- What a tick shows of the allocation: AVAIL and the deficit. -/
def State.tickDeficit (s : State) (av : Nat) (deficit : Bool) : State :=
  let s5 := ((s.wrSat BUDGET.AVAIL 0 av).flag BUDGET.DEFICIT 0 deficit).level BUDGET.page 0 BUDGET.IRQ_DEFICIT deficit
  if deficit then s5.bump BUDGET.DEFICIT_TICKS 0 else s5

/-- What a tick shows of an overload, and how many ticks one has stood. -/
def State.tickOverload (s : State) (ovl : Bool) : State :=
  let s7 := (s.flag BUDGET.OVERLOAD 0 ovl).level BUDGET.page 0 BUDGET.IRQ_OVERLOAD ovl
  let s8 := if ovl then s7.bump BUDGET.OVERLOAD_TICKS 0 else s7
  { s8 with bud := { s8.bud with ovl := if ovl then s8.bud.ovl + 1 else 0 } }

/-- The ports' part of a tick: offers from the allocation, sink ceilings, VCONN claims, 5 V grants, the sense check's action,
VCONN_MA, requests of sinks that are due, and the ledger records. -/
def State.tickPorts (s : State) (alloc : List (Port × Nat)) : State :=
  let t1 := s.forPorts allPorts fun t p => t.offerPort alloc p
  let t2 := if offerMoved s t1 then t1.irq BUDGET.page 0 BUDGET.IRQ_OFFER_CHANGE else t1
  let n := (allPorts.filter t2.isSnk).length
  let pool := t2.drawn + 1000 * t2.act BUDGET.SINK_ACCEPT 0
  let t3 := t2.forPorts allPorts fun t p => t.sinkCeil pool n p
  let t4 := t3.forPorts allPorts fun t p => if (t.port p).cc.claim then t.vconnClaim p else t
  let t5 := t4.forPorts allPorts State.grant5v
  let t6 := (List.finRange 8).foldl State.senseTick t5
  let t7 := (t6.forPorts allPorts State.showVconn).forPorts allPorts State.askAgain
  t7.forPorts allPorts State.tickRecord

/-- What the pair's owner sends after a tick. -/
def State.tickPair (s : State) : State :=
  if s.pairOwner then (s.selPeriodic (.state s.stateImg)).selPeriodic (.accum (allPorts.map s.microJ)) else s

/-- What a tick does for the engines: their load is shown, and the image of one that has failed is reloaded (R215, R217). -/
def State.tickEngines (s : State) : State := ((s.showLoad.marlReloads 0).marlReloads 1)

/-- HB_AGE of a running engine, in units of 100 µs: its heartbeat is younger than what loses it, 3 ms for a Twill and 7.5 ms
for Loam (R28). (DESIGN CHOICE, assumption 106) -/
def State.showAge (s : State) (e : Nat) : State :=
  if s.coreRuns e then
    let (v, s1) := s.fresh
    s1.wr CORE.HB_AGE e (v.toNat % (if e = 0 then 75 else if e ≤ 8 then 30 else 256))
  else s

/-- HB_AGE of every engine at a tick. -/
def State.showAges (s : State) : State := (List.range 12).foldl State.showAge s

/-- RC_KHZ: the RC oscillator's frequency as measured against XIN, within ±3 % of 16 MHz, or ±1 % where the trims are in use
(R526, R548). (DESIGN CHOICE, assumption 3) -/
def State.tickClock (s : State) : State :=
  if s.on CLK.XIN_OK 0 then
    let (v, s1) := s.fresh
    s1.wr CLK.RC_KHZ 0 (if s.on SYS.TRIM_FAIL 0 then 15520 + v.toNat % 961 else 15840 + v.toNat % 321)
  else s

/-- MANAGEMENT_TICK, with the selected feed's voltage in mV and current in mA, averaged over the tick. -/
def State.tick (s0 : State) (v : Nat) (i : Int) : State :=
  let s3 := s0.tickHead
  let pMeas := ((v : Int) * i).toNat
  let cap := s3.capacity v pMeas
  let s4 := s3.tickSupply pMeas cap
  let av := s4.avail cap
  let alloc := s4.allocate av
  let s6 := s4.tickDeficit av alloc.2
  let ovl := decide (cap * s6.act BUDGET.OVL_PCT 0 < pMeas * 100)
  ((s6.tickOverload ovl).tickPorts alloc.1).tickEngines.showAges.tickPair.tickClock

/-- MANAGEMENT_TICK (R141 to R149, R30, R56, R154, R158, R183, R252, R253, R325, R331, R336, R467): Loam runs it in RUN; a
standby runs none (R471). -/
def execManagementTick (feedMv : Nat) (feedMa : Int) (s : State) : Host.Outcome State Fault Refusal :=
  .next (if s.serves = true ∧ s.standby = false then s.tick feedMv feedMa else s)

/-! ## Re-advertisement (R149) -/

/-- The identity of an object, without its currents. -/
def objKind : Pdo → Nat × Nat
  | .zero => (0, 0)
  | .fixed v _ => (1, v)
  | .pps _ hi _ _ => (2, hi)
  | .sprAvs _ _ => (3, 0)
  | .eprAvs _ _ _ => (4, 0)

/-- The offer has fallen below the contract (forced). -/
def State.belowContract (s : State) (p : Port) : Bool :=
  match (s.port p).pe.contract with
  | some c => decide (s.pOff p * 1000 < c.mv * c.ma ∨ s.iOff p < c.ma)
  | none => false

/-- OFFER_READVERTISE (R126, R149): forced when the offer has fallen below the contract and what was sent last says
otherwise; voluntary, once per READV_MIN, when the set of objects has changed or PDP has moved by READV_DELTA. -/
def execOfferReadvertise (p : Port) (s : State) : Host.Outcome State Fault Refusal :=
  .next (
    let e := (s.port p).pe
    if s.isSrc p = false ∨ s.on BUDGET.HOLD 0 = true ∨ e.caps = [] ∨ s.carriedByTwill p = false then s
    else if e.readvWant then s.readvIfWanted p
    else
      let s0 := if s.belowContract p then s else s.modPort p fun x => { x with bud := { x.bud with forced := false } }
      let l := s0.offerObjects p
      if s0.belowContract p = true ∧ e.caps ≠ l then
        ((s0.bump BUDGET.FORCED_READV_CNT 0).modPort p fun x => { x with bud := { x.bud with forced := true } }).readvertise
          p
      else
        let a := s0.pdp p
        let far := decide (1000 * s0.act BUDGET.READV_DELTA 0 ≤ max a e.pdpSent - min a e.pdpSent)
        if (l.map objKind ≠ e.caps.map objKind ∨ far = true) ∧ (s0.port p).bud.readvAt ≤ s0.up then
          ((s0.bump BUDGET.READV_CNT 0).modPort p fun x => { x with
            bud := { x.bud with readvAt := s0.up + s0.act BUDGET.READV_MIN 0 * 10 ^ 6 } }).readvertise p
        else s0)

/-! ## Loam's own ceilings (R150, R151, R155) -/

/-- The port is under no ceiling, or under one above its P_OFF. (DEDUCED, assumption 174) -/
def State.aboveOffer (s : State) (p : Port) : Bool :=
  !s.on BUDGET.VALID p || decide (s.rd BUDGET.P_OFF p / 10 < s.rd BUDGET.P_SHED p)

/-- A shed ceiling of Loam's at the port's P_OFF, rounded down to 1 W; its current bound is that of the ceiling it replaces,
if any. (DEDUCED, assumption 174) -/
def State.loamShed (s : State) (p : Port) : State :=
  let ma := if s.on BUDGET.VALID p then s.rd BUDGET.I_SHED p else 5000
  let s1 := (((s.flag BUDGET.VALID p true).wr BUDGET.SRC p 1).wr BUDGET.I_SHED p ma).wr BUDGET.P_SHED p
    (min 255 (s.rd BUDGET.P_OFF p / 10))
  ((s1.bump BUDGET.SELF_SHED_CNT 0).irq BUDGET.page 0 BUDGET.IRQ_SELF_SHED)

/-- Power in mW that a port counts for in R150: its ceiling, or what it draws. -/
def State.shedLoad (s : State) (p : Port) : Nat :=
  if s.on BUDGET.VALID p then 1000 * s.rd BUDGET.P_SHED p else (s.port p).bud.mw.toNat

/-- Shed ports one after the other until the sum falls within CAP. -/
def State.shedInOrder (s : State) (order : List Port) : List Port → State
  | [] => s
  | p :: t =>
    if (order.map s.shedLoad).sum * 1000 ≤ s.bud.cap then s
    else if !s.aboveOffer p then s.shedInOrder order t
    else (s.loamShed p).shedInOrder order t

/-- SELF_SHED: the overload has stood for OVL_TICKS ticks (R150). -/
def execSelfShed (s : State) : Host.Outcome State Fault Refusal :=
  .next (
    if s.serves = true ∧ s.act BUDGET.SELF_SHED_EN 0 = 1 ∧ s.act BUDGET.OVL_TICKS 0 ≤ s.bud.ovl ∧ s.on BUDGET.OVERLOAD 0 = true
        ∧ s.standby = false then
      let order := s.grantOrder s.isSrc
      (s.shedInOrder order order.reverse).sendUrgent
    else s)

/-- FORCED_READV_SHED: 3 s after a forced re-advertisement the contract still exceeds its offer (R151).
(DEDUCED, assumption 23) -/
def execForcedReadvShed (p : Port) (s : State) : Host.Outcome State Fault Refusal :=
  .next (
    if s.serves = true ∧ (s.port p).bud.forced = true ∧ s.isSrc p = true ∧ s.belowContract p = true ∧ s.aboveOffer p = true then
      (s.loamShed p).sendUrgent
    else s)

/-- SHED_EXPIRY: a host ceiling has been valid for SHED_EXPIRY seconds; 0 disables expiry (R155). -/
def execShedExpiry (p : Port) (s : State) : Host.Outcome State Fault Refusal :=
  .next (
    if s.serves = true ∧ s.on BUDGET.VALID p = true ∧ s.rd BUDGET.SRC p = 0 ∧ s.act BUDGET.SHED_EXPIRY 0 ≠ 0 then
      (((s.clearShed p).bump BUDGET.SHED_EXPIRED_CNT 0).irq BUDGET.page 0 BUDGET.IRQ_SHED_EXPIRED).sendUrgent
    else s)

end Sys2Proof.Machine
end

