-- ==== Sys2Proof/Machine/Pair.lean ====
section
/-! DEFINITION. What a pair member does with a received Selvedge frame (R463, R466 to R472), and PAIR_ENROL (R463). -/

namespace Sys2Proof.Machine

/-! ## HELLO (R463, R474) -/

/-- A proof that does not check: the link stays in TRAIN. -/
def State.authFail (s : State) (serial : Nat) : State :=
  ((s.event EV.PAIR_AUTH_FAIL 0xFF (serial % 2 ^ 32) 0 0 0).bump PAIR.AUTH_FAIL_CNT 0).irq PAIR.page 0 PAIR.IRQ_AUTH_FAIL

/-- A proof that checks: a primary claims when both members are standby. -/
def State.authPass (s : State) (h : Hello) : State :=
  let s1 := s.pr fun x => { x with proved := true, otherStandby := !h.owner }
  if !h.owner && s1.standby && !s1.secondary then s1.startClaim else s1

/-- A HELLO in TRAIN: the nonce is kept, a proof is checked, and the member answers with its own.
(DEDUCED, assumption 117) -/
def State.rxHello (s : State) (h : Hello) : State :=
  if s.rd PAIR.LINK_STATE 0 ≠ lkTrain then s
  else
    let s1 := (s.pr fun x => { x with theirs := h.nonce }).wr PAIR.PARTNER_SN_LO 0 (h.serial % 2 ^ 32)
    let s2 := s1.wr PAIR.PARTNER_SN_HI 0 (h.serial / 2 ^ 32)
    let s3 := if h.proof.isEmpty then s2
      else if h.proof = s2.proofOf h.nonce s2.pair.nonce then s2.authPass h
      else s2.authFail h.serial
    s3.sendHello

/-! ## The mirror (R467, R470, R471) -/

/-- Reliable types. -/
def selIsReliable : SelBody → Bool
  | .cache _ _ | .urgent _ _ | .record _ _ | .table _ _ | .policy _ _ _ | .marks _ _ | .handover _ _ => true
  | .hello _ | .loop _ _ _ | .state _ | .accum _ | .time _ | .ack _ => false

/-- A standby keeps a port's PHASE and PERIOD equal to the owner's (R468). (DEDUCED, assumption 179) -/
def State.followPwm (s : State) (p : Port) (i : LoopImg) : State :=
  let s1 := if s.rd PWM.PHASE p = i.phase then s else s.wr PWM.PHASE p i.phase
  if s.rd PWM.PERIOD p = i.period then s1 else s1.setPeriod p i.period

/-- A LOOP frame: the group's images are kept, and its ports are no longer STALE. -/
def State.rxLoop (s : State) (g : Fin 4) (l : List LoopImg) : State :=
  let s1 := ((groupPorts g).zip l).foldl (fun (t : State) (x : Port × LoopImg) =>
    ((t.modPort x.1 fun y => { y with img := some x.2 }).followPwm x.1 x.2).wrBit PAIR.STALE 0 x.1 false) s
  let s2 := s1.pr fun x => { x with groupAt := x.groupAt.set g (some s.up) g.isLt }
  s2.setMirror s2.groupsFresh

/-- A CACHE frame: the port's retained contract cache entry (R102). (DEDUCED, assumption 122) -/
def State.rxCache (s : State) (p : Port) (e : CacheImg) : State :=
  let s1 := ((s.wr PD.NEG_REV p e.rev).flag PD.UNCHUNKED p e.unchunked).wr CC.PWR_ROLE p e.src
  let s2 := ((s1.flag CC.ATTACHED p (e.src != 0)).wr PD.HDR_DATA_ROLE p e.data).wr PD.HDR_PWR_ROLE p (if e.src = 1 then 1 else 0)
  let s3 := ((s2.flag PD.VCONN_SRC p e.vconnSrc).flag PD.EPR_MODE p e.epr).wr PD.FRS_CURRENT p e.frs
  let s4 := s3.wr PD.CONTRACT p (if e.contract.isSome then 2 else if e.src ≠ 0 then 1 else 0)
  s4.pe p fun x => { x with
    contract := e.contract, rdo := e.rdo, caps := e.caps, capsFlags := e.capsFlags, inflight := e.inflight
    cache := e, cacheOk := e.ok }

/-- A STATE frame. -/
def State.rxState (s : State) (x : StateImg) : State :=
  let s1 := s.forPorts allPorts fun (t : State) (p : Port) =>
    let o := x.offers.getD p (0, 0)
    let m := x.model.getD p (0, 0, 0, 0)
    let t1 := (((t.wr BUDGET.P_OFF p o.1).wr BUDGET.I_OFF p o.2).wr CC.VCONN_RES p (x.vconn.getD p 0 / 10)).model p fun y =>
      { y with bc := m.1, vofs := m.2.1, rint := m.2.2.1, rext := m.2.2.2 }
    match x.isl[p.val]? with
    | some i =>
      (((t1.wr LOOP.V_ISL p i.vIsl).wr LOOP.DROOP_PCT p i.droop).wr LOOP.P_CON p i.pCon).swp p fun w => { w with
        islanded := i.islanded, ceilinged := i.ceilinged, idle := i.idle }
    | none => t1
  let s2 := ((s1.flag BUDGET.HOLD 0 x.hold).setCap x.cap).wr FEED.SEL 0 x.sel
  { s2 with island := if x.island then some (s.island.getD s.up) else none }

/-- A RECORD frame: the record is stored and journalled (R342). (DEDUCED, assumption 119) -/
def State.rxRecord (s : State) (slot : Nat) (r : Option LedRec) : State :=
  let l := match r with
    | some x => putRec slot x s.led.recs
    | none => s.led.recs.filter fun x => x.1 != slot
  let s1 := (({ s with led := { s.led with recs := l } } : State).showUsed).journalDue slot
  match r with
  | some x => s1.wr LEDGER.SEQ_NOW 0 (max x.seq (s1.rd LEDGER.SEQ_NOW 0))
  | none => s1

/-- A TABLE frame: the port's pending bank. -/
def State.rxTable (s : State) (p : Port) (l : List Byte) : State :=
  s.pendOne p l

/-- A POLICY frame: the object is in force and kept; a profile goes under 0x10000 + n. (DEDUCED, assumption 119) -/
def State.rxPolicy (s : State) (tgt : Nat) (l : List Byte) : State :=
  if 0x10000 ≤ tgt then
    let p : Port := Fin.ofNat 32 (tgt - 0x10000)
    let s1 := match profileOf l with
      | some f => s.setProfile p f
      | none => s
    s1.putPol tgt l
  else (s.objApply tgt l).persistObj tgt l

/-- The retired mask and the owner's FAILED marks. (DEDUCED, assumption 121) -/
def State.rxMarks (s : State) (m : Word) (failed : List Nat) : State :=
  let s1 := s.forPorts allPorts fun (t : State) (p : Port) => t.flag GUARD.RETIRE p (m.getLsbD p)
  ({ s1 with retiredMask := m } : State).pr fun x => { x with failed := failed }

/-- What a frame from the owner does at the other member. -/
def State.rxMirror (s : State) (b : SelBody) : State :=
  match b with
  | .loop g _ l => s.rxLoop g l
  | .cache p e => s.rxCache p e
  | .state x => s.rxState x
  | .record slot r => s.rxRecord slot r
  | .accum l => s.pr fun x => { x with accum := l }
  | .table p l => s.rxTable p l
  | .policy t _ l => s.rxPolicy t l
  | .marks m l => s.rxMarks m l
  | .handover t f => s.pr fun x => { x with coming := some (t, f) }
  | .time n => s.pr fun x => { x with epochAt := some (n, s.up) }
  | .hello _ | .urgent _ _ | .ack _ => s

/-- A frame's effect: URGENT travels both ways, every other type from owner to standby. (DEDUCED, assumption 120) -/
def State.rxBody (s : State) (b : SelBody) : State :=
  match b with
  | .urgent m l => s.applyUrgent m l
  | b => if s.pairOwner then s else s.rxMirror b

/-! ## Acknowledgement (R466) -/

/-- Frames up to and including SEQ `n` are acknowledged. -/
def ackedOff (n : Nat) (l : List (Nat × SelBody)) : List (Nat × SelBody) :=
  if l.any fun x => x.1 == n then (l.dropWhile fun x => x.1 != n).drop 1 else l

/-- An ACK: guarded messages may go (R469). (DEDUCED, assumption 118) -/
def State.rxAck (s : State) (n : Nat) : State :=
  let l := ackedOff n s.pair.unacked
  if l.length = s.pair.unacked.length then s
  else (s.pr fun x => { x with unacked := l, resends := 0 }).forPorts allPorts State.pump

/-- A reliable frame is taken in order, and the highest SEQ received in order is acknowledged. (DEDUCED, assumption 118) -/
def State.rxReliable (s : State) (seq : Nat) (b : SelBody) : State :=
  let s1 := if seq = s.pair.rxSeq then (s.pr fun x => { x with rxSeq := (x.rxSeq + 1) % 2 ^ 32 }).rxBody b else s
  s1.pr fun x => { x with sent := some (.ack ((x.rxSeq + 2 ^ 32 - 1) % 2 ^ 32)) }

/-- SELVEDGE_FRAME: a frame arrives, its CRC good or not. HELLO counts in TRAIN, every other type with the link UP. -/
def execSelvedgeFrame (good : Bool) (seq : Word) (b : SelBody) (s : State) : Host.Outcome State Fault Refusal :=
  .next (
    if s.rd PAIR.LINK_STATE 0 ≠ lkTrain ∧ s.linkUp = false then s
    else if !good then s.bump PAIR.CRC_ERR_CNT 0
    else match b with
      | .hello h => s.rxHello h
      | .ack n => if s.linkUp then s.rxAck n else s
      | b => if !s.linkUp then s else if selIsReliable b then s.rxReliable seq.toNat b else s.rxBody b)

/-! ## PAIR_ENROL (R463, R464) -/

/-- The key is accepted: it is kept when asked for, and training starts; a member without a role becomes standby. -/
def State.enrol (s : State) (key : List Byte) (persist : Bool) : State :=
  let s1 := s.pr fun x => { x with
    key := some key, left := false, keyFlash := if persist then some key else x.keyFlash }
  if s1.rd PAIR.PAIR_STATE 0 = psEnrolling ∨ s1.rd PAIR.PAIR_STATE 0 = psLeft then s1.toStandby.pairFit else s1.selDown

/-- PAIR_ENROL. -/
def State.cmdPairEnrol (s : State) (k : Packet) : State :=
  s.offStandby k fun s => s.formed k (k.chip && decide (k.ar ≤ 1) && decide (k.len = 32)) fun s =>
    match s.keyHash 17 with
    | some h =>
      if sha256 k.payload ≠ h then s.answer k stINTEGRITY
      else if s.rd PAIR.PAIR_STATE 0 = psRefused ∨ s.rd PAIR.PAIR_STATE 0 = psSolo then s.answer k stDENIED
      else (s.enrol k.payload (k.ar == 1)).answer k stOK
    | none => s.answer k stDENIED

/-- PAIR_ENROL. -/
def execPairEnrol (k : Packet) (s : State) : Host.Outcome State Fault Refusal := .next (s.serve k (·.cmdPairEnrol k))

end Sys2Proof.Machine
end

