-- ==== Sys2Proof/Machine/Update.lean ====
section
/-! DEFINITION. Field update (chapter 20): the package and its checks, the update commands, applying a delta block by block,
resuming after a reset, confirmation, and what the ROM does with a package in host boot and in recovery. -/

namespace Sys2Proof.Machine

/-! ## The package header (R497) -/

/-- Fields of a package header. -/
def pkLoamArb (h : List Byte) : Nat := bytesAt h 8 2
def pkBundleArb (h : List Byte) : Nat := bytesAt h 10 2
def pkSize (h : List Byte) : Nat := bytesAt h 12 4
def pkBlocks (h : List Byte) : Nat := bytesAt h 16 4
def pkBody (h : List Byte) : Nat := bytesAt h 20 4
def pkDelta (h : List Byte) : Bool := (bytesAt h 5 1).testBit 0
def pkCheck (h : List Byte) : Bool := (bytesAt h 5 1).testBit 1
def pkSetArb (h : List Byte) : Bool := (bytesAt h 5 1).testBit 3
def pkBaseHash (h : List Byte) : List Byte := (h.drop 32).take 32
def pkResultHash (h : List Byte) : List Byte := (h.drop 64).take 32
def pkBodyHash (h : List Byte) : List Byte := (h.drop 96).take 32

/-- 3 MB, the largest image and body; 4 KB, a block. -/
abbrev maxImage : Nat := 0x300000
abbrev blockSize : Nat := 4096

/-- MAGIC, FORMAT, PART and sizes within limits; reserved flags 0, and a full package's BASE_HASH all zeros. -/
def packageForm (h : List Byte) : Bool :=
  headOk swpk h && decide (bytesAt h 5 1 < 16 ∧ pkSize h ≤ maxImage ∧ pkBody h ≤ maxImage
    ∧ pkBlocks h = cdiv (pkSize h) blockSize) && (pkDelta h || (pkBaseHash h).all (· == 0))

/-- The checking mode in force (R499). -/
def State.checkMode (s : State) (h : List Byte) : Nat := if s.on BOOT.UPD_CHECK 0 || pkCheck h then 1 else 0

/-- OCTIF_SIG, CUST_SIG and the indices of a package: the checks of mode 1. -/
def State.packageFault (s : State) (h : List Byte) : Nat :=
  if !sigOk s.octifHash (h.take 128) ((h.drop 128).take 64) then stINTEGRITY
  else if !s.custOk (h.take 128) ((h.drop 192).take 64) then stINTEGRITY
  else if !s.arbOk (pkLoamArb h) (pkBundleArb h) then stDENIED
  else stOK

/-- BASE_HASH against the active slot. -/
def State.baseOk (s : State) (h : List Byte) : Bool :=
  let l := s.imageAt s.dir.active
  !pkDelta h || sha256 (l.take (imgSize l)) == pkBaseHash h

/-- *Checks by mode* at UPD_BEGIN: the status of the first check that fails. (DEDUCED, assumption 97) -/
def State.beginFault (s : State) (h : List Byte) : Nat :=
  if !packageForm h then stBAD_ARG
  else if s.checkMode h = 0 then stOK
  else
    let f := s.packageFault h
    if f ≠ stOK then f else if s.baseOk h then stOK else stINTEGRITY

/-! ## UPD_BEGIN to UPD_END, UPD_STATUS, UPD_ABORT (R500) -/

/-- The staged package: header, body so far, marked complete. -/
def State.stage (s : State) : List Byte × List Byte × Bool := s.flash.stage.getD ([], [], false)

/-- The journal is erased, and nothing is staged. -/
def State.clearStage (s : State) : State := s.flashRec fun x => { x with stage := none, journal := [] }

/-- Staging of a package begins. (DEDUCED, assumption 102) -/
def State.stagePackage (s : State) (h : List Byte) (mode : Nat) : State :=
  let s1 := s.flashRec fun x => { x with stage := some (h, [], false), journal := [] }
  let s2 := (((s1.wr BOOT.MODE 0 mode).wr BOOT.BYTES 0 0).wr BOOT.TOTAL 0 (pkBlocks h)).wr BOOT.DONE 0 0
  (s2.bootRec fun b => { b with piece := 0 }).updState upReceiving

/-- UPD_BEGIN by Loam. (DEDUCED, assumption 97) -/
def State.cmdUpdBegin (s : State) (k : Packet) : State :=
  s.offStandby k fun s => s.formed k (k.chip && k.ar == 0 && k.len == 256) fun s =>
    if s.boot.exam || !decide (s.rd BOOT.STATE 0 ∈ [upIdle, upApplied, upInterrupted, upFailed]) then s.answer k stBUSY
    else
      let f := s.beginFault k.payload
      let s1 := s.clearStage
      if f ≠ stOK then
        ((if s.rd BOOT.STATE 0 = upApplied then s1.markSlot s1.inactive slEmpty else s1).updFails f).answer k f
      else ((s1.markSlot s1.inactive slWriting).stagePackage k.payload (s.checkMode k.payload)).answer k stOK

/-- A piece of the body may be taken: new at the offset reached, or the last piece once more. -/
def State.pieceNext (s : State) (k : Packet) : Bool :=
  let (h, b, _) := s.stage
  k.ar == b.length && decide (b.length + k.len ≤ pkBody h)
def State.pieceAgain (s : State) (k : Packet) : Bool :=
  let (_, b, _) := s.stage
  s.boot.piece == k.len && k.ar + k.len == b.length && b.drop k.ar == k.payload

/-- UPD_DATA into staging. (DEDUCED, assumption 98) -/
def State.updData (s : State) (k : Packet) : State :=
  if s.rd BOOT.STATE 0 ≠ upReceiving then s.answer k stDENIED
  else if s.pieceNext k then
    let (h, b, c) := s.stage
    let s1 := (s.flashRec fun x => { x with stage := some (h, b ++ k.payload, c) }).bootRec fun x => { x with piece := k.len }
    (s1.wr BOOT.BYTES 0 (k.ar + k.len)).answer k stOK
  else s.answer k (if s.pieceAgain k then stOK else stBAD_ARG)

/-- UPD_DATA's form. -/
def dataForm (k : Packet) : Bool := k.chip && decide (1 ≤ k.len ∧ k.len ≤ 4096)

/-- UPD_DATA by Loam. -/
def State.cmdUpdData (s : State) (k : Packet) : State := s.offStandby k fun s => s.formed k (dataForm k) fun s => s.updData k

/-- UPD_END by Loam: BODY_HASH in mode 1, then STAGED, and application starts. -/
def State.cmdUpdEnd (s : State) (k : Packet) : State :=
  s.offStandby k fun s => s.formed k (k.chip && k.plain) fun s =>
    let (h, b, _) := s.stage
    if s.rd BOOT.STATE 0 ≠ upReceiving then s.answer k stDENIED
    else if b.length ≠ pkBody h then s.answer k stBAD_ARG
    else if s.on BOOT.MODE 0 && sha256 b != pkBodyHash h then (s.updFails stINTEGRITY).answer k stINTEGRITY
    else
      let s1 := s.flashRec fun x => { x with stage := some (h, b, true) }
      ((s1.updState upStaged).updState upApplying).answer k stOK

/-- UPD_STATUS: 16 bytes. -/
def State.cmdUpdStatus (s : State) (k : Packet) : State :=
  s.offStandby k fun s => s.formed k (k.chip && k.plain) fun s =>
    let w := fun (F : Field) n => leBytes n (s.rd F 0)
    s.respond k stOK (w BOOT.STATE 1 ++ w BOOT.LAST_STATUS 1 ++ [0, 0] ++ w BOOT.BYTES 4 ++ w BOOT.DONE 4 ++ w BOOT.TOTAL 4)

/-- UPD_ABORT: the slot that was being written is EMPTY, the journal is erased. -/
def State.updAbort (s : State) (k : Packet) (slot : Nat) : State :=
  if upReceiving ≤ s.rd BOOT.STATE 0 ∧ s.rd BOOT.STATE 0 ≤ upApplied then
    ((s.markSlot slot slEmpty).clearStage.updState upIdle).answer k stOK
  else s.answer k stDENIED

/-- UPD_ABORT by Loam. (DEDUCED, assumption 99) -/
def State.cmdUpdAbort (s : State) (k : Packet) : State :=
  s.offStandby k fun s => s.formed k (k.chip && k.plain) fun s => s.updAbort k s.inactive

/-! ## Confirmation (R496) -/

/-- A counter is raised to the image's index, where programming conditions hold. (DEDUCED, assumption 101) -/
def State.raiseArb (s : State) (e : OtpEnv) (i v : Nat) : State :=
  if s.otpCounter i < v ∧ s.otpMayProgram e = true then
    (((s.raiseCounter i v).event EV.ARB_RAISED 0xFF (i + 1) v 0 0).irq BOOT.page 0 BOOT.IRQ_ARB)
  else s

/-- The trial is confirmed: its slot is active and VALID; a package with SET_ARB raises the counters to the image's
indices. (DEDUCED, assumption 95) -/
def State.confirm (s : State) (e : OtpEnv) : State :=
  let i := s.boot.run
  let s1 := s.setDir fun d => { d.put i slValid with active := i }
  let s2 := ((s1.flag BOOT.TRIAL 0 false).bump BOOT.UPD_DONE_CNT 0).updState upIdle
  if pkSetArb s.stage.1 then
    let l := s2.imageAt i
    (s2.raiseArb e 0 (imgLoamArb l)).raiseArb e 1 (imgBundleArb l)
  else s2

/-- AUTO_CONFIRM: CONFIRM_T seconds have passed in RUN; all twelve engines run and Chalk has forced no reset.
(DEDUCED, assumption 95) -/
def execAutoConfirm (e : OtpEnv) (s : State) : Host.Outcome State Fault Refusal :=
  .next (
    if s.dev = .run ∧ s.on SYS.READY 0 ∧ s.on BOOT.AUTO_CONFIRM 0 ∧ s.rd BOOT.STATE 0 = upTrial
        ∧ (List.range 12).all s.coreRuns ∧ s.boot.forced = false then s.confirm e
    else s)

/-! ## UPD_COMMIT (R503) -/

/-- The running image allows a rolling change to the new slot. -/
def State.rollsTo (s : State) (i : Nat) : Bool :=
  let new := s.imageAt i
  dirHash new 0 == dirHash s.runningImage 0 && imgIface new == imgIface s.runningImage

/-- The engines of a rolling change, in order; retired ones stay out of service. -/
def State.rollOrder (s : State) : List Nat :=
  (11 :: [1, 2, 3, 4, 5, 6, 7, 8, 9, 10]).filter fun e => s.rd CORE.STATE e != enRetired

/-- Engines are reloaded in turn from slot `i` until one fails; `rolled` holds those moved. -/
def State.rollOn (s : State) (i : Nat) : List Nat → State × Bool
  | [] => (s, true)
  | e :: t =>
    if !s.carried1 e then (s, false)
    else
      match s.reloadEngine e i 2 with
      | (s1, true) => (s1.bootRec fun b => { b with rolled := b.rolled ++ [e] }).rollOn i t
      | (s1, false) => (s1.bootRec fun b => { b with rolled := b.rolled ++ [e] }, false)

/-- The rolling reload, to its end: TRIAL, or back to the former slot. (DEDUCED, assumption 100) -/
def State.roll (s : State) : State :=
  let i := s.inactive
  let old := s.boot.run
  match (s.bootRec fun b => { b with rolled := [] }).rollOn i s.rollOrder with
  | (s1, true) =>
    let s2 := s1.setDir fun d => { d.put i slTrial with active := i }
    ((s2.bootRec fun b => { b with run := i }).flag BOOT.TRIAL 0 true).updState upTrial
  | (s1, false) =>
    let s2 := s1.boot.rolled.foldl (fun (t : State) e => (t.reloadEngine e old 2).1) s1
    ((s2.markSlot i slBad).fellBack i 3 (some old)).updFails stINTEGRITY

/-- UPD_COMMIT by Loam. (DEDUCED, assumption 100) -/
def State.cmdUpdCommit (s : State) (k : Packet) (e : OtpEnv) : State :=
  s.offStandby k fun s => s.formed k (k.chip && k.payload.isEmpty && decide (k.ar ≤ 3)) fun s =>
    let st := s.rd BOOT.STATE 0
    if k.ar = 3 then (if st = upTrial then (s.answer k stOK).confirm e else s.answer k stDENIED)
    else if st ≠ upApplied then s.answer k stDENIED
    else if k.ar = 2 then
      (if s.rollsTo s.inactive then ((s.answer k stOK).updState upRolling).roll else s.answer k stDENIED)
    else
      let s1 := ((s.markSlot s.inactive slPending).updState upCommitted).answer k stOK
      if k.ar = 1 then s1.bootRec fun b => { b with warmDue := true } else s1

/-! ## Applying a delta (R498, R501) -/

/-- One operation at the head of the list: its output and the rest. -/
def deltaOp (src : List Byte) (limit : Nat) (delta : Bool) (l : List Byte) : Option (List Byte × List Byte) :=
  let n := bytesAt l 1 2
  let off := bytesAt l 3 4
  let from_ := (src.drop off).take n
  if l.length < 3 ∨ bytesAt l 0 1 % 64 ≠ 0 ∨ n = 0 ∨ blockSize < n then none
  else match bytesAt l 0 1 / 64 with
    | 0 => if !delta || decide (l.length < 7 ∨ limit < off + n) then none else some (from_, l.drop 7)
    | 1 =>
      if !delta || decide (l.length < 7 + n ∨ limit < off + n) then none
      else some (List.zipWith (· + ·) from_ ((l.drop 7).take n), l.drop (7 + n))
    | 2 => if l.length < 3 + n then none else some ((l.drop 3).take n, l.drop (3 + n))
    | _ => if l.length < 4 then none else some (List.replicate n (l.getD 3 0), l.drop 4)

/-- The output of a block's operations; `fuel` is at least their number. -/
def deltaOps (src : List Byte) (limit : Nat) (delta : Bool) : Nat → List Byte → Option (List Byte)
  | _, [] => some []
  | 0, _ => none
  | fuel + 1, l => do
    let (out, rest) ← deltaOp src limit delta l
    let more ← deltaOps src limit delta fuel rest
    pure (out ++ more)

/-- The body from its `n`-th record on. -/
def recordsFrom : Nat → List Byte → List Byte
  | 0, l => l
  | n + 1, l => recordsFrom n (l.drop (12 + bytesAt l 2 2))

/-- Bytes that block `i` puts out. -/
def blockBytes (h : List Byte) (i : Nat) : Nat :=
  if i + 1 = pkBlocks h ∧ pkSize h % blockSize ≠ 0 then pkSize h % blockSize else blockSize

/-- Block `i` of a package: its output, or the status of what is wrong with its record. -/
def blockOf (src h body : List Byte) (i : Nat) : Except Nat (List Byte) :=
  let l := recordsFrom i body
  let n := bytesAt l 2 2
  if l.length < 12 + n ∨ bytesAt l 0 2 ≠ 1 ∨ bytesAt l 4 4 ≠ i then .error stBAD_ARG
  else
    let ops := (l.drop 8).take n
    match deltaOps src (imgSize src) (pkDelta h) ops.length ops with
    | none => .error stBAD_ARG
    | some out =>
      if out.length ≠ blockBytes h i then .error stBAD_ARG
      else if crc32 out ≠ bytesAt l (8 + n) 4 then .error stCRC
      else .ok out

/-- The END record closes the body. -/
def endOk (h body : List Byte) : Bool :=
  let l := recordsFrom (pkBlocks h) body
  l == [2, 0, 0, 0] ++ leBytes 4 (pkBlocks h) ++ [0, 0, 0, 0]

/-- Bytes are programmed into a slot at a sector, the sector's rest at 0xFF. -/
def slotPut (l : List Byte) (at_ : Nat) (b : List Byte) : List Byte :=
  let pre := l.take at_
  pre ++ List.replicate (at_ - pre.length) 0xFF ++ b ++ List.replicate (blockSize - b.length) 0xFF ++ l.drop (at_ + blockSize)

/-- A slot's bytes change. -/
def State.setSlot (s : State) (i : Nat) (f : List Byte → List Byte) : State :=
  let j : Fin 2 := if i = 0 then 0 else 1
  s.flashRec fun x => { x with slots := x.slots.set j (f (x.slots.get j)) j.isLt }

/-- After the last block: END record, RESULT_HASH in mode 1, then VALID and APPLIED. -/
def State.applied (s : State) : State :=
  let (h, b, _) := s.stage
  let i := s.inactive
  if !endOk h b then s.updFails stBAD_ARG
  else if s.on BOOT.MODE 0 && sha256 ((s.imageAt i).take (pkSize h)) != pkResultHash h then s.updFails stINTEGRITY
  else (s.markSlot i slValid).updState upApplied

/-- DELTA_BLOCK: the next block is decoded, programmed, read back (`good`), and journalled. -/
def State.deltaBlock (s : State) (good : Bool) : State :=
  let (h, b, _) := s.stage
  let i := s.rd BOOT.DONE 0
  if pkBlocks h ≤ i then s.applied
  else match blockOf (s.imageAt s.dir.active) h b i with
    | .error f => s.updFails f
    | .ok out =>
      let s1 := s.setSlot s.inactive fun l => slotPut l (blockSize * i) out
      if !good then s1.updFails stCRC
      else
        let entry := (i, crc32 out, bytesAt (pkBodyHash h) 0 4)
        let s2 := (s1.flashRec fun x => { x with journal := x.journal ++ [entry] }).wr BOOT.DONE 0 (i + 1)
        if i + 1 = pkBlocks h then s2.applied else s2

/-- DELTA_BLOCK. -/
def execDeltaBlock (good : Bool) (s : State) : Host.Outcome State Fault Refusal :=
  .next (if s.serves && s.rd BOOT.STATE 0 == upApplying && !s.boot.exam then s.deltaBlock good else s)

/-! ## After a reset (R502) -/

/-- Staging is complete for the package that the journal names: its last entry. -/
def State.heldWhole (s : State) : Option Nat :=
  match s.flash.stage, s.flash.journal.getLast? with
  | some (h, _, true), some (i, _, m) => if m = bytesAt (pkBodyHash h) 0 4 then some i else none
  | _, _ => none

/-- UPD_RESUMED: Loam examines the update that was under way; `readOk` is whether the last committed block reads back
against its entry. -/
def State.examine (s : State) (readOk : Bool) : State :=
  let s1 := s.bootRec fun b => { b with exam := false }
  match s.heldWhole with
  | some last =>
    let (h, b, _) := s.stage
    let first := if readOk then last + 1 else last
    let s2 := ((s1.wr BOOT.MODE 0 (s.checkMode h)).wr BOOT.BYTES 0 b.length).wr BOOT.TOTAL 0 (pkBlocks h)
    let s3 := ((s2.wr BOOT.DONE 0 first).updState upApplying).event EV.UPD_RESUMED 0xFF first (pkBlocks h) 0 0
    s3.bump BOOT.RESUME_CNT 0
  | none => (s1.markSlot s1.inactive slEmpty).updState upInterrupted

/-- UPD_RESUMED. -/
def execUpdResumed (readOk : Bool) (s : State) : Host.Outcome State Fault Refusal :=
  .next (if s.serves && s.boot.exam then s.examine readOk else s)

/-! ## The ROM's updates (R505, R506) -/

/-- The slot that recovery writes: the one that is not VALID; of two VALID ones the one not active; of none slot A. -/
def State.romSlot (s : State) : Nat :=
  let d := s.dir
  if d.a = slValid ∧ d.b = slValid then 1 - d.active
  else if d.a = slValid then 1
  else 0

/-- 1,280 KB, the largest body of a host boot. -/
abbrev hostBody : Nat := 1310720

/-- UPD_BEGIN by the ROM: full packages only, in mode 1; `slot` none in host boot. -/
def State.romBegin (s : State) (k : Packet) (slot : Option Nat) : State :=
  s.formed k (k.chip && k.ar == 0 && k.len == 256) fun s =>
    let h := k.payload
    if s.keysFailed then s.answer k stINTEGRITY
    else if !decide (s.rd BOOT.STATE 0 ∈ [upIdle, upApplied, upInterrupted, upFailed]) then s.answer k stBUSY
    else
      let f :=
        if !packageForm h || pkDelta h || (slot.isNone && decide (hostBody < pkBody h)) then stBAD_ARG else s.packageFault h
      if f ≠ stOK then (s.clearStage.updFails f).answer k f
      else
        let s1 := match slot with
          | some i => s.clearStage.markSlot i slWriting
          | none => s
        (s1.stagePackage h 1).answer k stOK

/-- The whole image of a full package: its blocks in order. -/
def buildImage (h body : List Byte) : Nat → Except Nat (List Byte)
  | 0 => .ok []
  | n + 1 => do
    let l ← buildImage h body n
    let b ← blockOf [] h body n
    pure (l ++ b)

/-- The image of the staged package, fully checked in mode 1, or what is wrong. -/
def State.romImage (s : State) : Except Nat (List Byte) :=
  let (h, b, _) := s.stage
  if sha256 b ≠ pkBodyHash h then .error stINTEGRITY
  else do
    let l ← buildImage h b (pkBlocks h)
    if !endOk h b then .error stBAD_ARG
    else if sha256 l ≠ pkResultHash h then .error stINTEGRITY
    else pure l

/-- UPD_END by the recovery ROM: the image goes into its slot, which is then PENDING. -/
def State.recoveryEnd (s : State) (k : Packet) : State :=
  let (h, b, _) := s.stage
  if s.rd BOOT.STATE 0 ≠ upReceiving then s.answer k stDENIED
  else if b.length ≠ pkBody h then s.answer k stBAD_ARG
  else match s.romImage with
    | .error f => (s.updFails f).answer k f
    | .ok l =>
      let i := s.romSlot
      let s1 := ((s.setSlot i fun _ => l).markSlot i slPending).wr BOOT.DONE 0 (pkBlocks h)
      (((s1.updState upStaged).updState upApplying).updState upApplied).answer k stOK

/-- UPD_COMMIT by the recovery ROM: a cold restart. (DEDUCED, assumption 102) -/
def State.recoveryCommit (s : State) (k : Packet) : State :=
  s.formed k (k.chip && k.payload.isEmpty && decide (k.ar ≤ 3)) fun s =>
    if s.rd BOOT.STATE 0 ≠ upApplied then s.answer k stDENIED
    else
      let t := (s.answer k stOK).coldReset rcUpdate
      (t.sampleStraps (BitVec.ofNat 2 (s.rd BOOT.BOOT_PINS 0)) (BitVec.ofNat 2 (s.rd SMB.ADDR 0 - 0x2C))).locked

/-- A command of the recovery ROM (R506); every other command gets DENIED. (DEDUCED, assumption 102) -/
def State.recoveryRom (s : State) (k : Packet) : State :=
  match k.op.toNat with
  | 0x01 => s.cmdGetInfo k
  | 0x40 => s.romBegin k (some s.romSlot)
  | 0x41 => s.formed k (dataForm k) fun s => s.updData k
  | 0x42 => s.formed k (k.chip && k.plain) fun s => s.recoveryEnd k
  | 0x43 => s.cmdUpdStatus k
  | 0x44 => s.recoveryCommit k
  | 0x45 => s.formed k (k.chip && k.plain) fun s => s.updAbort k s.romSlot
  | 0x50 => s.cmdOtpRead k
  | 0x53 => s.cmdOtpMarginScan k
  | _ => s.answer k stDENIED

/-- UPD_END in host boot: the image is loaded and start-up goes on at step 5; with an earlier UPD_COMMIT Loam also writes
it to the inactive slot as PENDING. (DEDUCED, assumption 96) -/
def State.hostEnd (s : State) (k : Packet) (ms : Nat) : State :=
  let (h, b, _) := s.stage
  if s.rd BOOT.STATE 0 ≠ upReceiving then s.answer k stDENIED
  else if b.length ≠ pkBody h then s.answer k stBAD_ARG
  else match s.romImage with
    | .error f => (s.updFails f).answer k f
    | .ok l =>
      let f := s.imageFault l false
      if f ≠ stOK then (s.updFails f).answer k f
      else
        let early := s.boot.early
        let s1 := ((s.bootRec fun x => { x with host := l }).updState upIdle).answer k stOK
        let s2 := s1.bringUp 2 ms
        if early then
          ((s2.setSlot s2.inactive fun _ => l).markSlot s2.inactive slPending).updState upCommitted
        else s2

/-- UPD_COMMIT in host boot: ACTIVATE 1, before UPD_END. (DEDUCED, assumption 96) -/
def State.hostCommit (s : State) (k : Packet) : State :=
  s.formed k (k.chip && k.payload.isEmpty && decide (k.ar ≤ 3)) fun s =>
    if k.ar = 1 ∧ s.rd BOOT.STATE 0 = upReceiving then (s.bootRec fun x => { x with early := true }).answer k stOK
    else s.answer k stDENIED

/-- A command of the ROM in host boot (R505); every other opcode gets DENIED. (DEDUCED, assumption 102) -/
def State.hostRom (s : State) (k : Packet) (ms : Nat) : State :=
  match k.op.toNat with
  | 0x01 => s.cmdGetInfo k
  | 0x40 => s.romBegin k none
  | 0x41 => s.formed k (dataForm k) fun s => s.updData k
  | 0x42 => s.formed k (k.chip && k.plain) fun s => s.hostEnd k ms
  | 0x43 => s.cmdUpdStatus k
  | 0x44 => s.hostCommit k
  | _ => s.answer k stDENIED

/-- A command of the update group: Loam serves it, or the ROM in host boot and in recovery. -/
def State.serveUpd (s : State) (k : Packet) (ms : Nat) (f : State → State) : State :=
  if s.serves then f s
  else if s.dev = .recovery then s.recoveryRom k
  else if s.hostBoots then s.hostRom k ms
  else s

/-- UPD_BEGIN. -/
def execUpdBegin (k : Packet) (s : State) : Host.Outcome State Fault Refusal :=
  .next (s.serveUpd { k with op := 0x40 } 0 (·.cmdUpdBegin k))

/-- UPD_DATA. -/
def execUpdData (k : Packet) (s : State) : Host.Outcome State Fault Refusal :=
  .next (s.serveUpd { k with op := 0x41 } 0 (·.cmdUpdData k))

/-- UPD_END; `ms` is the time to READY where a host boot goes on. -/
def execUpdEnd (k : Packet) (ms : Nat) (s : State) : Host.Outcome State Fault Refusal :=
  .next (s.serveUpd { k with op := 0x42 } ms (·.cmdUpdEnd k))

/-- UPD_STATUS. -/
def execUpdStatus (k : Packet) (s : State) : Host.Outcome State Fault Refusal :=
  .next (s.serveUpd { k with op := 0x43 } 0 (·.cmdUpdStatus k))

/-- UPD_COMMIT. -/
def execUpdCommit (k : Packet) (e : OtpEnv) (s : State) : Host.Outcome State Fault Refusal :=
  .next (s.serveUpd { k with op := 0x44 } 0 (·.cmdUpdCommit k e))

/-- UPD_ABORT. -/
def execUpdAbort (k : Packet) (s : State) : Host.Outcome State Fault Refusal :=
  .next (s.serveUpd { k with op := 0x45 } 0 (·.cmdUpdAbort k))

end Sys2Proof.Machine
end

