-- ==== Sys2Proof/Machine/Transport.lean ====
section
/-! DEFINITION. What SPI and SMBus share: records and packets as bytes on a wire, the judgement of a pushed packet, the tail
of a ring under a pull, and CRC-16 and PEC. -/

namespace Sys2Proof.Machine

/-! ## Bytes -/

/-- *Event record* (R360). -/
def recordBytes (r : EvRec) : List Byte :=
  leBytes 1 r.sev ++ leBytes 1 r.port ++ leBytes 1 r.code ++ leBytes 1 r.src ++ leBytes 8 r.time ++ leBytes 4 r.seq ++
    leBytes 4 r.d4 ++ leBytes 4 r.d5 ++ leBytes 4 r.d6 ++ leBytes 4 r.d7

/-- A ring's entry as it travels. -/
def entryBytes : Entry → List Byte
  | .ev r => recordBytes r
  | .pkt k _ => packetBytes k

/-- One bit of CRC-16/CCITT, polynomial 0x1021. -/
def crc16Bit (c : Nat) : Nat := if 0x8000 ≤ c then (2 * c ^^^ 0x1021) % 2 ^ 16 else 2 * c

/-- One byte of it. -/
def crc16Byte (c : Nat) (b : Byte) : Nat :=
  crc16Bit (crc16Bit (crc16Bit (crc16Bit (crc16Bit (crc16Bit (crc16Bit (crc16Bit (c ^^^ b.toNat * 256))))))))

/-- CRC-16/CCITT with initial value 0xFFFF, not reflected, no final XOR (R388). -/
def crc16 (l : List Byte) : Nat := l.foldl crc16Byte 0xFFFF

/-- One bit of the SMBus PEC, polynomial 0x07. -/
def pecBit (c : Nat) : Nat := if 0x80 ≤ c then (2 * c ^^^ 0x07) % 2 ^ 8 else 2 * c

/-- One byte of it. -/
def pecByte (c : Nat) (b : Byte) : Nat :=
  pecBit (pecBit (pecBit (pecBit (pecBit (pecBit (pecBit (pecBit (c ^^^ b.toNat))))))))

/-- The PEC of SMBus 3.2 over every byte of a transaction (R401). -/
def pecOf (l : List Byte) : Byte := BitVec.ofNat 8 (l.foldl pecByte 0)

/-! ## Pushing a packet (R356, R363, R390, R407) -/

/-- A ring by its number. -/
def ringNo (n : Nat) : Fin 40 := Fin.ofNat 40 n

/-- A failure of *Packet checks* is answered in ring 4 when it has room, with the packet's TAG, OPCODE and TARGET.
(DEDUCED, assumption 130) -/
def State.answerCheck (s : State) (ring st : Nat) (l : List Byte) : State :=
  if s.room4 (ring == 1) 0 then s.answer (packetOf l none) st else s

/-- A packet that has passed its checks enters its ring; on ring 0 the stop lane takes it at once. `busy` is whether both
assembly buffers still await commit. -/
def State.commitPush (s : State) (ring : Nat) (l : List Byte) (busy : Bool) : State × Nat :=
  let k := packetOf l none
  if ring = 0 then (if busy then (s, stBUSY) else (s.stopPacket k.op.toNat k false, stOK))
  else match s.pushPacket (ringNo ring) k with
    | none => (s.pushRefused (ringNo ring), stNO_SPACE)
    | some t => if busy then (s, stBUSY) else (t.ringFilled (ringNo ring), stOK)

/-- The outcome of a pushed packet, in the order of R390; `trailer` is whether its trailer checks.
(DEDUCED, assumption 130) -/
def State.judgePush (s : State) (ring : Nat) (l : List Byte) (trailer busy : Bool) : State × Nat :=
  if 39 < ring then (s, stBAD_ARG)
  else if 4 ≤ ring then (s, stDENIED)
  else if !trailer then (s, stCRC)
  else
    let st := packetCheck l (ring == 0)
    if st ≠ stOK then (s.answerCheck ring st l, st) else s.commitPush ring l busy

/-- The ROM serves the transports of R505: in host boot and in recovery, PUSH to ring 2 and PULL from ring 4.
(DEDUCED, assumption 138) -/
def State.romServes (s : State) (ring only : Nat) : Bool :=
  s.inRom && ring == only

/-! ## The tail of a ring under a pull (R356, R361, R391, R392, R408) -/

/-- The tail's bytes: none when the ring is empty. (DEDUCED, assumption 133) -/
def State.tailBytes (s : State) (q : Fin 40) : List Byte :=
  match (s.ring q).entries with
  | [] => []
  | e :: _ => entryBytes e

/-- The tail is locked while an unconfirmed PULL or the SMBus delivery holds it. (DEDUCED, assumption 133) -/
def State.relock (s : State) (q : Fin 40) : State :=
  let r := s.ring q
  let smb := match s.smb.del with
    | some d => d.ring == q.val
    | none => false
  s.setRing q { r with locked := !r.entries.isEmpty && (s.spi.held.contains q.val || smb) }

/-- The record at the tail leaves the ring; space in ring 7 goes back to Weft by the cells that wait for it.
(DEDUCED, assumption 133) -/
def State.removeTail (s : State) (q : Fin 40) : State :=
  let r := s.ring q
  (s.setRing q { r with entries := r.entries.drop 1, locked := false }).ringDrained q

end Sys2Proof.Machine
end

