-- ==== Sys2Proof/Machine/Commands.lean ====
section
/-! DEFINITION. How Loam, or the ROM, takes its next command from the rings and from the fabric (R357, R441, R505, R506),
and the command that an opcode names (R15). -/

namespace Sys2Proof.Machine

/-! ## Opcodes -/

/-- System commands. -/
def State.systemCommand (s : State) (k : Packet) : State :=
  match k.op.toNat with
  | 0x00 => s.cmdNop k
  | 0x01 => s.cmdGetInfo k
  | 0x02 => s.cmdSetPolicy k
  | 0x03 => s.cmdGetPolicy k
  | 0x04 => s.cmdSnapshot k
  | 0x05 => s.cmdReadSnap k
  | 0x06 => s.cmdTimeSet k
  | 0x07 => s.cmdTimeGet k
  | 0x08 => s.cmdWarmReset k
  | _ => s

/-- Port commands. -/
def State.portCommand (s : State) (k : Packet) : State :=
  match k.op.toNat with
  | 0x10 => s.cmdPortEnable k
  | 0x11 => s.cmdPortDisable k
  | 0x12 => s.cmdPortSetProfile k
  | 0x13 => s.cmdPortGetState k
  | 0x14 => s.cmdPortSwap k
  | 0x15 => s.cmdPortHardReset k
  | 0x16 => s.cmdPortSendVdm k
  | 0x17 => s.cmdPortClearFault k
  | 0x18 => s.cmdPortTest k
  | _ => s

/-- Ledger commands. -/
def State.ledgerCommand (s : State) (k : Packet) : State :=
  match k.op.toNat with
  | 0x30 => s.cmdLedgerRead k
  | 0x31 => s.cmdLedgerFind k
  | 0x32 => s.cmdLedgerWriteUser k
  | 0x33 => s.cmdLedgerExport k
  | 0x34 => s.cmdLedgerPurge k
  | _ => s

/-- Update commands. -/
def State.updateCommand (s : State) (k : Packet) (e : OtpEnv) : State :=
  match k.op.toNat with
  | 0x40 => s.cmdUpdBegin k
  | 0x41 => s.cmdUpdData k
  | 0x42 => s.cmdUpdEnd k
  | 0x43 => s.cmdUpdStatus k
  | 0x44 => s.cmdUpdCommit k e
  | 0x45 => s.cmdUpdAbort k
  | 0x46 => s.cmdCoreReload k
  | 0x47 => s.cmdCoreRetire k
  | _ => s

/-- OTP, pair and fabric commands. -/
def State.otherCommand (s : State) (k : Packet) (e : OtpEnv) : State :=
  match k.op.toNat with
  | 0x50 => s.cmdOtpRead k
  | 0x51 => s.cmdOtpProgram k e
  | 0x52 => s.cmdOtpLock k
  | 0x53 => s.cmdOtpMarginScan k
  | 0x60 => s.cmdPairEnrol k
  | 0x61 => s.cmdPairStatus k
  | 0x62 => s.cmdPairHandover k
  | 0x63 => s.cmdPairLeave k
  | 0x70 => s.cmdWeftSend k
  | 0x71 => s.cmdWeftRoute k
  | 0x72 => s.cmdWeftStatus k
  | _ => s

/-- The command that a packet's OPCODE names. -/
def State.command (s : State) (k : Packet) (e : OtpEnv) : State :=
  let op := k.op.toNat
  if op < 0x10 then s.systemCommand k
  else if op < 0x30 then s.portCommand k
  else if op < 0x40 then s.ledgerCommand k
  else if op < 0x50 then s.updateCommand k e
  else s.otherCommand k e

/-- Payload bytes of a command's largest response. (DESIGN CHOICE, assumption 140) -/
def largestResponse (k : Packet) : Nat :=
  match k.op.toNat with
  | 0x00 => k.len
  | 0x01 => 64
  | 0x03 => (objLen k.tgt).getD 0
  | 0x05 => 4096
  | 0x07 => 16
  | 0x13 => 48
  | 0x16 => 28
  | 0x18 => 8
  | 0x30 => 128
  | 0x33 => 4096
  | 0x43 => 16
  | 0x50 => 1024
  | 0x53 => 68
  | 0x61 => 256
  | 0x72 => 192
  | _ => 0

/-! ## Which command is next (R357, R441) -/

/-- The packet at the tail of a command ring. -/
def State.ringHead (s : State) (q : Fin 40) : Option Packet :=
  match (s.ring q).entries with
  | .pkt k _ :: _ => some k
  | _ => none

/-- The packet at the tail of ring `q` may start: ring 4 has room for its largest response. -/
def State.mayStart (s : State) (q : Fin 40) : Bool :=
  match s.ringHead q with
  | some k => s.room4 (q.val == 1) (largestResponse k)
  | none => false

/-- A fabric command of a class that is whole: the oldest. -/
def State.fabricHead (s : State) (cls : Nat) : Option WeftAsm :=
  s.weft.asm.find? fun a => a.whole && a.kind == ctCmd && a.cls == cls

/-- Loam serves the packet at the tail of ring `q`. -/
def State.serveRing (s : State) (q : Fin 40) (e : OtpEnv) : State :=
  match s.ringHead q with
  | some k => (s.removeTail q).command k e
  | none => s

/-- Loam serves a fabric command: the slot is free again, and a packet that fails its checks is answered (R363).
(DEDUCED, assumption 139) -/
def State.serveFabric (s : State) (a : WeftAsm) (e : OtpEnv) : State :=
  let k := packetOf a.bytes (some ⟨BitVec.ofNat 12 a.src, BitVec.ofNat 16 a.msgId, a.cls == 2⟩)
  let s1 := s.weftRec fun w => { w with asm := w.asm.erase a }
  let st := packetCheck a.bytes false
  if st ≠ stOK then s1.answer k st else s1.command k e

/-- Whose turn it is in a lane: the fabric's. -/
def State.fabricTurn (s : State) (i : Fin 2) : Bool := s.weft.turn.get i

/-- The next turn in a lane. -/
def State.setTurn (s : State) (i : Fin 2) (b : Bool) : State :=
  s.weftRec fun w => { w with turn := w.turn.set i b i.isLt }

/-- One of the two lanes: ring 2 with class M, or ring 3 with class B. Host and fabric take turns while both wait. -/
def State.serveLane (s : State) (i : Fin 2) (e : OtpEnv) : State :=
  let q : Fin 40 := if i.val = 0 then 2 else 3
  let host := s.mayStart q
  match s.fabricHead (i.val + 1) with
  | none => if host then s.serveRing q e else s
  | some a =>
    if host && !s.fabricTurn i then (s.setTurn i true).serveRing q e
    else (s.setTurn i false).serveFabric a e

/-- A lane holds a command. (DEDUCED, assumption 139) -/
def State.laneHolds (s : State) (i : Fin 2) : Bool :=
  !(s.ring (if i.val = 0 then 2 else 3)).entries.isEmpty || (s.fabricHead (i.val + 1)).isSome

/-- A lane's command may start. (DEDUCED, assumption 139) -/
def State.laneReady (s : State) (i : Fin 2) : Bool :=
  s.mayStart (if i.val = 0 then 2 else 3) || (s.fabricHead (i.val + 1)).isSome

/-- Loam takes its next command. (DEDUCED, assumption 139) -/
def State.dispatchNext (s : State) (e : OtpEnv) : State :=
  if !(s.ring 1).entries.isEmpty then (if s.mayStart 1 then s.serveRing 1 e else s)
  else if s.laneHolds 0 && s.laneHolds 1 then
    if s.served2 < 4 then (if s.laneReady 0 then ({ s with served2 := s.served2 + 1 } : State).serveLane 0 e else s)
    else if s.laneReady 1 then ({ s with served2 := 0 } : State).serveLane 1 e
    else s
  else if s.laneHolds 0 then s.serveLane 0 e
  else s.serveLane 1 e

/-- COMMAND_DISPATCH: `e` is what a command that programs OTP words meets. -/
def execCommandDispatch (e : OtpEnv) (s : State) : Host.Outcome State Fault Refusal :=
  .next (if s.serves then s.dispatchNext e else s)

/-! ## The ROM (R505, R506) -/

/-- The ROM takes the packet at the tail of ring 2. -/
def State.romTake (s : State) (f : State → Packet → State) : State :=
  match s.ringHead 2 with
  | some k => if s.mayStart 2 then f (s.removeTail 2) k else s
  | none => s

/-- HOST_BOOT: the ROM serves its next command; `ms` is the time to READY once UPD_END has loaded the image. -/
def execHostBoot (ms : Nat) (s : State) : Host.Outcome State Fault Refusal :=
  .next (if s.hostBoots then s.romTake fun t k => t.hostRom k ms else s)

/-- RECOVERY_ROM: the ROM serves its next command. -/
def execRecoveryRom (s : State) : Host.Outcome State Fault Refusal :=
  .next (if s.dev = .recovery then s.romTake State.recoveryRom else s)

end Sys2Proof.Machine
end

