-- ==== Sys2Proof/Machine/Power.lean ====
section
/-! DEFINITION. Clocks, resets and power states (chapter 22): power-on, brownout, RESET_N, clock loss, spread spectrum,
WATCH, SAFE and the die temperature. -/

namespace Sys2Proof.Machine

/-! ## Cold resets (R528, R532, R534, R580) -/

/-- POWER_ON_RESET_RELEASE: every supply has been above its threshold for 2 ms, XIN is there and both PLLs lock; the straps
are sampled. -/
def execPowerOnResetRelease (boot saddr : BitVec 2) (s : State) : Host.Outcome State Fault Refusal :=
  .next (if s.dev = .boot ∧ s.on CLK.CORE_LOCK 0 = false then (s.sampleStraps boot saddr).locked else s)

/-- Until CONFIG has been read, SOLO_HOLD keeps each DSG on (R579, R580). -/
def State.soloHold (s : State) : State := if s.pow.solo then s.forPorts allPorts fun t p => t.flag GUARD.DSG_ON p true else s

/-- RESET_N_LOW: a low pulse of `lowNs`; below 100 ns it is ignored, and otherwise it is a whole cold reset.  Where XIN is
there both PLLs are locked again at its end. -/
def execResetNLow (lowNs : Nat) (boot saddr : BitVec 2) (s : State) : Host.Outcome State Fault Refusal :=
  .next (
    if lowNs < 100 then s
    else
      let s1 := ((s.coldReset rcPin).sampleStraps boot saddr).soloHold
      if s.on CLK.XIN_OK 0 then s1.locked else s1)

/-- BROWNOUT: a supply has been below its falling threshold for 2 µs; a fall of VDD_IO33 clears SOLO_HOLD. -/
def execBrownout (rail : Rail) (s : State) : Host.Outcome State Fault Refusal :=
  .next (
    let s1 : State := if rail = .io33 then { s with pow := { s.pow with solo := false } } else s
    (s1.coldReset rcBrownout).soloHold)

/-! ## Clocks (R529 to R531) -/

/-- A PLL_PWM or XIN loss: the guard runs on the RC clock, every port and both feeds open, and SAFE is entered. -/
def State.pwmClockLost (s : State) : State := (s.flag CLK.GUARD_RC 0 true).safeEntry scClock

/-- A watched clock is lost; PLL_CORE is not running in WATCH. (DESIGN CHOICE, assumption 107) -/
def State.clockLost (s : State) (c : ClockSrc) : State :=
  let lost := fun (t : State) (F cnt : Field) (b : Nat) =>
    (((t.flag F 0 false).bump cnt 0).irq CLK.page 0 b).event EV.CLOCK_LOSS 0xFF c.code 0 0 0
  match c with
  | .pllCore =>
    if s.on CLK.CORE_LOCK 0 then (lost s CLK.CORE_LOCK CLK.CORE_UNLOCK_CNT CLK.IRQ_CORE_UNLOCK).supervised rcCorePll else s
  | .pllPwm =>
    if s.on CLK.PWM_LOCK 0 then (lost s CLK.PWM_LOCK CLK.PWM_UNLOCK_CNT CLK.IRQ_PWM_UNLOCK).pwmClockLost else s
  | .xin =>
    if s.on CLK.XIN_OK 0 then
      (lost s CLK.XIN_OK CLK.XIN_LOSS_CNT CLK.IRQ_XIN_LOSS).pwmClockLost.flag CLK.CORE_LOCK 0 false
    else s

/-- A watched clock is back, or locked again; with PLL_PWM and XIN the guard leaves the RC clock.
(DESIGN CHOICE, assumption 107; DEDUCED, assumption 108) -/
def State.clockBack (s : State) (c : ClockSrc) : State :=
  let s1 := match c with
    | .pllCore => if s.on CLK.XIN_OK 0 then s.flag CLK.CORE_LOCK 0 true else s
    | .pllPwm => if s.on CLK.XIN_OK 0 then s.flag CLK.PWM_LOCK 0 true else s
    | .xin => s.flag CLK.XIN_OK 0 true
  if s1.on CLK.PWM_LOCK 0 && s1.on CLK.XIN_OK 0 then s1.flag CLK.GUARD_RC 0 false else s1

/-- CLOCK_LOSS: a watched clock is lost, or is back.  Before power-on reset is released nothing is watched.
(DESIGN CHOICE, assumption 107) -/
def execClockLoss (c : ClockSrc) (back : Bool) (s : State) : Host.Outcome State Fault Refusal :=
  .next (if back then (if s.dev = .boot ∨ s.dev = .watch then s else s.clockBack c) else s.clockLost c)

/-- SSC_CHANGE: the next period of the modulation starts, and the settings in the registers take effect. -/
def execSscChange (s : State) : Host.Outcome State Fault Refusal :=
  .next (
    let d := if s.on CLK.SSC_EN 0 then s.rd CLK.SSC_DEPTH 0 else 0
    let s1 : State := { s with pow := { s.pow with ssc := d } }
    if s.on CLK.PWM_LOCK 0 then (s1.flag CLK.SSC_ACTIVE 0 (d != 0)).irq CLK.page 0 CLK.IRQ_SSC_CHANGE else s)

/-- WARM_STORM: a supervised warm reset is asked for; the fourth within 600 s of the first enters SAFE instead (R537).
(DEDUCED, assumption 68) -/
def execWarmStorm (s : State) : Host.Outcome State Fault Refusal :=
  .next (if 3 ≤ (s.pow.storms.filter fun t => decide (s.up ≤ t + 600000000000)).length then s.safeEntry scStorm else s)

/-! ## WATCH (R63, R64, R541 to R543) -/

/-- A port that lets the device enter WATCH: disabled, or enabled with nothing attached. -/
def State.portQuiet (s : State) (p : Port) : Bool := decide (s.tc p ∈ [tcDisabled, tcUnattachedSrc, tcUnattachedSnk, tcCcSafe])

/-- WATCH_BLOCK: the conditions that are not met; `idle` is whether every port has been quiet for WATCH_IDLE. -/
def State.watchBlock (s : State) (idle : Bool) : Nat :=
  bitsOf [!(idle && allPorts.all s.portQuiet), s.pairMember, s.rd BOOT.STATE 0 != upIdle || s.boot.exam,
    !s.led.dirty.isEmpty,
    (List.range 12).any fun e => decide (s.rd CORE.STATE e = enLoading ∨ s.rd CORE.STATE e = enReloading),
    !s.on RST.WATCH_EN 0]

/-- What the sequencer presents in WATCH: a Source port Rp Default, a Sink port Rd (R63). -/
def State.watchPres (s : State) (p : Port) : State :=
  if s.tc p = tcUnattachedSrc then s.present p .rpDefault else s

/-- WATCH_ENTRY: Loam judges the conditions, and enters WATCH when all hold. (DEDUCED, assumption 109) -/
def execWatchEntry (idle : Bool) (s : State) : Host.Outcome State Fault Refusal :=
  .next (
    if s.dev ≠ .run ∨ s.on SYS.READY 0 = false then s
    else
      let b := s.watchBlock idle
      let s1 := s.wr RST.WATCH_BLOCK 0 b
      if b ≠ 0 then s1
      else
        let s2 := (s1.event EV.WATCH_ENTRY 0xFF (s.rd RST.WATCH_TICK 0) 0 0 0).bump RST.WATCH_ENTRY_CNT 0
        let s3 := ((s2.flag SYS.READY 0 false).flag CLK.CORE_LOCK 0 false).forPorts allPorts State.watchPres
        { s3 with dev := .watch })

/-- RUN entry: each accumulator takes the cooling of the interval in one step (R276), and each source port presents its
own Rp again. (DESIGN CHOICE, assumption 110) -/
def State.runEntry (s : State) (us sleptNs : Nat) : State :=
  let tin := sleptNs * 2 / 5
  let s1 := s.forPorts allPorts fun t p =>
    let h := heatNext (t.port p).guard.heat tin (t.rd GUARD.T_COOL p) none
    let t1 := (t.grd p fun g => { g with heat := h }).wrSat GUARD.HEAT p (h / 2 ^ 16)
    if t1.tc p = tcUnattachedSrc then t1.present p (rpOf (t1.rd CC.RP_SEL p)) else t1
  let s2 := ([0, 1] : List Feed).foldl (fun t f =>
    let h := heatNext (t.feed f).heat tin (t.rd FEED.FD_T_COOL f) none
    (t.modFeed f fun x => { x with heat := h }).wrSat FEED.FD_HEAT f (h / 2 ^ 16)) s1
  let s3 := ((s2.flag CLK.CORE_LOCK 0 true).flag SYS.READY 0 true).wr RST.US 0 us
  { (s3.bump RST.WATCH_WAKE_CNT 0).irq RST.page 0 RST.IRQ_WAKE with dev := .run }

/-- WAKE: a wake source of *Wake sources* brings the device to RUN `us` after its detection, `sleptNs` after WATCH was
entered.  A wake that another command has begun keeps the source that it recorded. (DESIGN CHOICE, assumption 110) -/
def execWake (src : Fin 8) (us : BitVec 16) (sleptNs : Nat) (s : State) : Host.Outcome State Fault Refusal :=
  .next (
    let s1 := s.wakeBy src.val
    if s1.dev = .waking then s1.runEntry us.toNat sleptNs else s1)

/-- WAKE_TIMER: WAKE_INT has passed in WATCH. -/
def execWakeTimer (s : State) : Host.Outcome State Fault Refusal :=
  .next (if s.on RST.WAKE_INT 0 then s.wakeBy 7 else s)

/-- V_HI of a port on which a VBUS appears in WATCH. -/
def State.crossFlagged (s : State) (p : Port) : State := (s.flag GUARD.V_HI p true).bump GUARD.MON_FLAG_CNT p

/-- A monitor of *Monitors sampled in WATCH* reads `mv`: the flag of an acting threshold that it is beyond (R306). -/
def State.watchMon (s : State) (m : Mon) (mv : Nat) : State × Bool :=
  match m with
  | .vbusA p => if 840 < mv then (s.crossFlagged p, true) else (s, false)
  | .busA | .busB =>
    if mv < s.busLo ∧ actsLo (s.rd FEED.BUS_MON_MODE 0) = true then (s.flag FEED.BUS_LOSS 0 true, true)
    else if s.busHi < mv ∧ actsHi (s.rd FEED.BUS_MON_MODE 0) = true then (s.flag FEED.BUS_OV 0 true, true)
    else (s, false)
  | .feed _ | .vcp | .vconnIn =>
    match s.windowOf m with
    | some w => (s, beyond w (monStepUv m) (mv * 1000))
    | none => (s, false)
  | _ => (s, false)

/-- A port's CC pins read a valid attach condition for what it presents (R41, R43). -/
def State.watchAttach (s : State) (p : Port) (mv1 mv2 : Nat) : Bool :=
  let l := (s.readLevel p mv1, s.readLevel p mv2)
  s.canAttach p && (match (s.port p).cc.pres with
    | .open_ => false
    | .rd => (rpPin l).isSome
    | _ => (attachPin l).isSome)

/-- WATCH_SAMPLE: one WATCH tick samples the CC comparators (pin voltages in mV) and the monitors; a finding wakes the
device. -/
def execWatchSample (cc : List (Port × Nat × Nat)) (mons : List (Mon × Nat)) (s : State) :
    Host.Outcome State Fault Refusal :=
  .next (
    if s.dev ≠ .watch then s
    else
      let r := mons.foldl (fun (a : State × Bool) x => let b := a.1.watchMon x.1 x.2; (b.1, a.2 || b.2)) (s, false)
      if cc.any fun x => s.watchAttach x.1 x.2.1 x.2.2 then r.1.wakeBy 0
      else if r.2 then r.1.wakeBy 1
      else r.1)

/-! ## SAFE and the die temperature (R544, R547) -/

/-- SAFE_ENTRY: one of the causes of R544 has arisen. (DEDUCED, assumption 113) -/
def execSafeEntry (c : SafeCause) (s : State) : Host.Outcome State Fault Refusal := .next (s.safeEntry c.code)

/-- THERMAL_WARN: a sample of the die temperature, 0.1 °C, against TWARN, with a hysteresis of 5 °C. -/
def execThermalWarn (tDie : BitVec 16) (s : State) : Host.Outcome State Fault Refusal :=
  .next (
    if s.dev = .watch then s
    else
      let s1 := s.wr ADC.T_DIE 0 tDie.toNat
      let warn := s.rd RST.TWARN 0
      let mark := fun (t : State) (b : Bool) => { t with pow := { t.pow with warned := b } }
      if tDie.toInt < 10 * ((warn : Int) - 5) then mark s1 false
      else if s.pow.warned = false ∧ 10 * (warn : Int) ≤ tDie.toInt then
        (((mark s1 true).event EV.THERMAL_WARN 0xFF (wd tDie.toInt) warn 0 0).bump RST.THERMAL_WARN_CNT 0).irq RST.page 0
          RST.IRQ_THERMAL_WARN
      else s1)

/-- THERMAL_SHUTDOWN: a sample of the die temperature against TSD; the third in a row at or above it enters SAFE. -/
def execThermalShutdown (tDie : BitVec 16) (s : State) : Host.Outcome State Fault Refusal :=
  .next (
    if s.dev = .watch then s
    else
      let s1 := s.wr ADC.T_DIE 0 tDie.toNat
      let n := if 10 * (s.rd RST.TSD 0 : Int) ≤ tDie.toInt then s.pow.hot + 1 else 0
      let s2 : State := { s1 with pow := { s1.pow with hot := min n 3 } }
      if 3 ≤ n then s2.safeEntry scTsd else s2)

end Sys2Proof.Machine
end

