-- ==== Sys2Proof/Machine/Service.lean ====
section
/-! DEFINITION. Self-test and in-service repair (chapters 1, 23): lost heartbeats, resynchronisation, scrubbing, double-bit
errors, remapping, Chalk, the watchdog, auto-retirement, the SERVICE counter, and how tests end. -/

namespace Sys2Proof.Machine

/-! ## Heartbeats and Twills (R28, R104) -/

/-- A Twill is lost: its core is reset, and its buddy, where that runs, carries its ports. -/
def State.twillDown (s : State) (k : Fin 8) : State :=
  let s1 := (s.engineFailed (k.val + 1)).coreReset (Fin.ofNat 16 (k.val + 1))
  if s1.coreRuns ((buddy k).val + 1) then s1.toBuddy k else s1.portsLost (s1.twillPorts k)

/-- TWILL_HEARTBEAT_LOSS: 3 ms without a heartbeat of a running Twill; its clock is stopped in SLEEP and in WATCH. -/
def execTwillHeartbeatLoss (k : Fin 8) (s : State) : Host.Outcome State Fault Refusal :=
  .next (
    if s.serves = false ∨ s.rd CORE.STATE (k.val + 1) ≠ enRun then s
    else (((s.bump CORE.HB_LOSS_CNT 0).wr CORE.LAST_CAUSE (k.val + 1) lcHeartbeat).wr CORE.HB_AGE (k.val + 1) 30).twillDown k)

/-- LOAM_HEARTBEAT_LOSS: 7.5 ms without a heartbeat of Loam; Chalk issues a warm reset. -/
def execLoamHeartbeatLoss (s : State) : Host.Outcome State Fault Refusal :=
  .next (
    if s.serves then (((s.bump CORE.HB_LOSS_CNT 0).wr CORE.LAST_CAUSE 0 lcHeartbeat).wr CORE.HB_AGE 0 75).supervised rcHeartbeat else s)

/-- TWILL_RESYNC: the Twill that carries the port now resynchronises it, if it has still to. (DEDUCED, assumption 105) -/
def execTwillResync (p : Port) (s : State) : Host.Outcome State Fault Refusal :=
  .next (if s.serves && s.carriedByTwill p then s.resync p else s)

/-! ## Scrubbing (R552, R561) -/

/-- One full pass has corrected `n` single-bit errors. -/
def State.scrubbed (s : State) (n : Nat) : State := (s.bump TEST.SCRUB_PASS_CNT 0).bumpBy TEST.ECC_CORR_CNT 0 n

/-- SCRUB: a pass ends, in RUN, in SAFE or in a warm reset. -/
def execScrub (corrected : Nat) (s : State) : Host.Outcome State Fault Refusal :=
  .next (if s.dev = .run ∨ s.dev = .safe ∨ s.dev = .warmReset then s.scrubbed corrected else s)

/-- A test of TEST_CTL runs. -/
def State.testRuns (s : State) (kind : Nat) : Bool := s.rd TEST.STATE 0 == 1 && s.rd TEST.LAST_KIND 0 == kind

/-- SCRUB_PASS: the pass that TEST_CTL asked for ends. -/
def execScrubPass (corrected : Nat) (s : State) : Host.Outcome State Fault Refusal :=
  .next (if s.testRuns 3 then (s.scrubbed corrected).testEnds stOK else s)

/-- A block has a hard fault (R554). (DEDUCED, assumption 74) -/
def State.hardFault (s : State) (block : Nat) : State :=
  if block ∈ s.svc.hard ∨ (s.svc.remap.any fun x => x.1 == block) = true then s
  else { s with svc := { s.svc with hard := s.svc.hard ++ [block] } }

/-- MBIST ends with the blocks that have failed: the engines it stopped run again, and the ledger is loaded from flash.
(DEDUCED, assumption 83) -/
def execMbist (failed : List (Fin 3072)) (s : State) : Host.Outcome State Fault Refusal :=
  .next (
    if s.testRuns 1 then
      ((failed.foldl (fun (t : State) b => t.hardFault b.val) s).testEnds
        (if failed.isEmpty then stOK else stINTEGRITY)).ledgerLoad
    else s)

/-- ADC_REQUALIFICATION ends with the converters that are within ±4 LSB at every code. -/
def execAdcRequalification (ok : BitVec 9) (s : State) : Host.Outcome State Fault Refusal :=
  .next (if s.testRuns 2 then (s.requalify ok).testEnds (if ok = 0x1FF then stOK else stINTEGRITY) else s)

/-! ## Double-bit errors (R553, R554) -/

/-- A ledger record is reloaded from flash (R341). -/
def State.reloadRecord (s : State) (slot : Nat) : State :=
  let kept := s.ledgerLoad.led.recs.lookup slot
  let s1 : State := { s with led := { s.led with
    recs := (match kept with
      | some r => s.led.recs.map fun x =>
        if x.1 = slot then (slot, setRecFlag r rfAttached (allPorts.any (s.slotHeld slot))) else x
      | none => s.led.recs.filter fun x => x.1 != slot)
    dirty := s.led.dirty.filter fun i => i != slot } }
  s1.showUsed

/-- An entry of a ring is removed and counted as dropped. -/
def State.loseEntry (s : State) (q : Fin 40) (i : Nat) : State :=
  let r := s.ring q
  if i < r.entries.length then
    (s.setRing q { r with entries := r.entries.eraseIdx i, locked := r.locked && i != 0 }).bump RING.CNT q
  else s

/-- *Double-bit errors by partition*.  A Marl's table or state block is written over from the other engine's copy, and
staging is rebuilt at its next write. (DEDUCED, assumption 103) -/
def State.eccAction (s : State) (a : EccAt) : State :=
  match a with
  | .loam => s.warmGo
  | .twill k bad =>
    (s.forPorts bad fun t p => t.pe p fun e => { e with cacheOk := false }).twillDown k
  | .chalk => (s.reloadEngine 11 s.reloadSlot 1).1.chalkFallback
  | .marlData _ _ => s
  | .marlStore e =>
    let (v, s1) := s.fresh
    if s.rd (engState e) 0 = 2 then s else s1.engineLost e (v.toNat % 32)
  | .ledger slot => s.reloadRecord slot
  | .ring q i => s.loseEntry q i
  | .staging => s
  | .reserve b => { s with svc := { s.svc with unusable := s.svc.unusable ++ [b.val] } }

/-- ECC_UNCORR: a double-bit error of a word in a 1 KB block; a word that shows one again has a hard fault.
(DEDUCED, assumption 103) -/
def execEccUncorr (word : BitVec 22) (block : Fin 3072) (a : EccAt) (s : State) : Host.Outcome State Fault Refusal :=
  .next (
    if s.dev = .boot ∨ s.dev = .watch then s
    else
      let s1 := (s.bump TEST.ECC_UNCORR_CNT 0).wr TEST.ADDR 0 word.toNat
      let s2 := (s1.event EV.ECC_UNCORR 0xFF word.toNat a.partition 0 0).irq TEST.page 0 TEST.IRQ_ECC_UNCORR
      let s3 := if word.toNat ∈ s.svc.hits then s2.hardFault block.val
        else { s2 with svc := { s2.svc with hits := s2.svc.hits ++ [word.toNat] } }
      s3.eccAction a)

/-- The lowest reserve block that is free. (DESIGN CHOICE, assumption 143) -/
def State.freeReserve (s : State) : Option Nat :=
  (List.range 128).find? fun b => !s.svc.unusable.contains b && !(s.svc.remap.any fun x => x.2 == b)

/-- BLOCK_REMAPPED: Loam maps a block with a hard fault onto a free reserve block; with none free the fault is only
reported. -/
def execBlockRemapped (block : Fin 3072) (s : State) : Host.Outcome State Fault Refusal :=
  .next (
    if s.serves = false ∨ s.svc.hard.contains block.val = false then s
    else
      match s.freeReserve with
      | none => s.flag TEST.REMAP_FULL 0 true
      | some b =>
        let s1 : State := { s with svc := { s.svc with
          hard := s.svc.hard.filter fun x => x != block.val, remap := s.svc.remap ++ [(block.val, b)] } }
        let n := s1.svc.remap.length
        let s2 := ((s1.wr TEST.USED 0 n).bump TEST.REMAP_CNT 0).event EV.BLOCK_REMAPPED 0xFF block.val b n 0
        (s2.irq TEST.page 0 TEST.IRQ_REMAP).noteLoss (1000 + block.val))

/-! ## Chalk (R555 to R557) -/

/-- CHALK_LOCKSTEP: a mismatch resets Chalk, which then runs on; forced safe states stay in the guard. -/
def execChalkLockstep (s : State) : Host.Outcome State Fault Refusal :=
  .next (
    if s.rd CORE.STATE 11 ≠ enRun then s
    else
      let s1 := (s.bump CHALK.LOCKSTEP_CNT 0).flag CHALK.LOCKSTEP_ERR 0 true
      let s2 := (s1.event EV.CHALK_LOCKSTEP 0xFF (s1.rd CHALK.LOCKSTEP_CNT 0) 0 0 0).irq CHALK.page 0 CHALK.IRQ_LOCKSTEP
      (s2.coreReset 11).bump CORE.RESTARTS 11)

/-- WATCHDOG_EXPIRY: WDOG_T without a refresh by Chalk. -/
def execWatchdogExpiry (s : State) : Host.Outcome State Fault Refusal :=
  .next (
    if s.serves = false then s
    else
      let s1 := (s.flag PAIR.HB_ENABLE 0 false).flag PAIR.VETO_ARM 0 false
      ((s1.bump CHALK.WDOG_EXPIRY_CNT 0).bump RST.WDOG_CNT 0).supervised rcWdog)

/-- The cause for which Chalk forces a port stands, as far as the block's state shows it: a table fault; no Twill in RUN
that carries the port; a lost state block is known to Chalk alone. -/
def State.forceStands (s : State) (p : Port) : ForceCause → Bool
  | .tableFault => s.bit MARL.FAULT 0 p
  | .noCarrier => !s.carriedByTwill p
  | .stateLost => true

/-- CHALK_FORCED: Chalk forces a port to safe state for a cause that stands; or releases one that it has forced, once the
cause has cleared. -/
def execChalkForced (p : Port) (c : ForceCause) (release : Bool) (s : State) : Host.Outcome State Fault Refusal :=
  .next (
    if !s.coreRuns 11 then s
    else if release then
      (if s.bit CHALK.FORCED 0 p = true ∧ (s.port p).guard.forceCause = c.code
          ∧ (c = .stateLost ∨ s.forceStands p c = false) then
        s.chalkRelease p
      else s)
    else if s.forceStands p c then s.chalkForce p c.code (if c = .tableFault then 6 else 3)
    else s)

/-! ## Auto-retirement and the SERVICE counter (R562, R563) -/

/-- Failures of an engine within AUTO_WIN. (DEDUCED, assumption 104) -/
def State.failures (s : State) (e : Nat) : Nat :=
  s.svc.fails.countP fun x => x.1 == e && decide (s.up ≤ x.2 + s.rd CHALK.AUTO_WIN 0 * 1000000000)

/-- ENGINE_AUTO_RETIRED: an engine with three failures within AUTO_WIN, whose carrier runs, is retired.
(DEDUCED, assumption 104) -/
def execEngineAutoRetired (e : Fin 12) (s : State) : Host.Outcome State Fault Refusal :=
  .next (
    let n := s.failures e
    if n < 3 ∨ e.val = 0 ∨ e.val = 11 ∨ s.carried1 e = false ∨ s.rd CORE.STATE e = enRetired ∨ s.coreRuns 11 = false then s
    else
      let s1 := s.takeOut e enRetired (s.rd CORE.LAST_CAUSE e)
      let s2 : State := { s1 with svc := { s1.svc with fails := s1.svc.fails.filter fun x => x.1 != e.val } }
      let s3 := (s2.event EV.ENGINE_AUTO_RETIRED 0xFF e.val n 0 0).bump CHALK.AUTO_RETIRE_CNT 0
      (s3.irq CHALK.page 0 CHALK.IRQ_AUTO_RETIRE).noteLoss e.val)

/-- SERVICE_RAISE: a raise that is due, where programming conditions hold. -/
def execServiceRaise (e : OtpEnv) (s : State) : Host.Outcome State Fault Refusal :=
  .next (if s.serves && s.svc.due != 0 && s.otpMayProgram e then s.raiseService else s)

/-! ## Deferred tests (R558, R559) -/

/-- A port's test ends DEFERRED_EXPIRED; the result byte of a test that did not run is open.
(DESIGN CHOICE, assumption 112) -/
def State.testExpires (s : State) (p : Port) : State :=
  let (v, s1) := s.fresh
  ((s1.bump TEST.DEFER_EXPIRED_CNT 0).irq TEST.page 0 TEST.IRQ_DEFER_EXPIRED).endTest p stDEFERRED_EXPIRED (v.toNat % 256)

/-- A window check that runs whatever the port's state, and ends the test of its kind. -/
def State.forcedCheck (s : State) (p : Port) (m : Mon) (mode hi lo live : Nat) (r : CheckRead) : State :=
  let k := checkFails r mode hi lo live
  let again := s.repeating m
  let s1 := (if checkSkips mode hi lo live then s.bump GUARD.SKIP_CNT p else s).checkRan m
  if k ≠ 0 then
    (let s2 := s1.checkFailed m k
     if again then s2.endTest p stINTEGRITY 2 else s2)
  else (s1.repeated m).endTest p stOK (if again then 1 else 0)

/-- TEST_DEFERRAL_EXPIRY: a PORT_TEST has been deferred for 10 s; `r` is what the window reads where it is checked now.
(DESIGN CHOICE, assumption 112) -/
def execTestDeferralExpiry (p : Port) (r : CheckRead) (s : State) : Host.Outcome State Fault Refusal :=
  .next (match (s.port p).test with
    | none => s
    | some t =>
      match t.kind with
      | 0 =>
        if s.on GUARD.DEGRADED p then s.testExpires p
        else
          let (hi, lo) := s.thrV p
          s.forcedCheck p (s.checkWindow p) (s.rd GUARD.VMON_CFG_MODE p) hi lo (s.rd LOOP.VBUS p / 60) r
      | 1 =>
        let (hi, lo) := s.thrC p
        s.forcedCheck p (.csp p) (s.rd GUARD.CMON_CFG_MODE p) hi lo (s.rd LOOP.VCONV p / 60) r
      | 2 => s.testExpires p
      | _ => if s.bit ADC.FAILED 0 8 || s.on ADC.ROT_LOST 0 then s.testExpires p else s)

end Sys2Proof.Machine
end

