-- ==== Sys2Proof/Machine/Smb.lean ====
section
/-! DEFINITION. The SMBus target and its Host Notify at transaction level (chapter 16): status commands, register access
through the pointer, packets in fragments, STOP, protocol errors, time-outs, recovery and notification. -/

namespace Sys2Proof.Machine

/-! ## Transactions (R397, R399 to R401, R418) -/

/-- A transaction addressed to the device: in WATCH the device does not recognise its address. (DEDUCED, assumption 137) -/
def State.smbHears (s : State) (f : State → State) : State := if s.dev = .watch then s else f (s.bump SMB.TXN_CNT 0)

/-- A command that READY serves; otherwise its command byte gets NACK. -/
def State.smbServed (s : State) (cmd : Nat) (rom : Bool) (f : State → State) : State :=
  s.smbHears fun s => if s.on SYS.READY 0 || rom then f s else s.smbErr stNOT_READY cmd

/-- A write without its PEC, or with a bad one. -/
def State.pecErr (s : State) (cmd : Nat) : State :=
  ((s.smbErr stCRC cmd).bump SMB.PEC_ERR_CNT 0).irq SMB.page 0 SMB.IRQ_PEC_ERR

/-- The PEC is as it has to be. -/
def State.pecOk (s : State) (p : Pec) : Bool :=
  match p with
  | .good => true
  | .bad => false
  | .none => !s.on SMB.PEC_REQ 0

/-- A block write takes effect at its STOP: its count in range, as many bytes as it says, and its PEC (R399, R401, R411). -/
def State.blockWrite (s : State) (cmd : Nat) (count : Byte) (l : List Byte) (pec : Pec) (inRange : Nat → Bool)
    (f : State → State) : State :=
  if !inRange count.toNat then s.smbErr stBAD_ARG cmd
  else if l.length ≠ count.toNat then s
  else if s.pecOk pec then f s else s.pecErr cmd

/-- The device's address byte. -/
def State.smbAddr (s : State) (read : Bool) : Byte := BitVec.ofNat 8 (2 * s.rd SMB.ADDR 0 + if read then 1 else 0)

/-- The bytes the device returns, with their PEC; `sent` are the bytes the host sent after the address. -/
def State.smbReturns (s : State) (sent l : List Byte) : State :=
  let pec := pecOf ([s.smbAddr false] ++ sent ++ [s.smbAddr true] ++ l)
  { s with smb := { s.smb with tx := l ++ [pec] } }

/-- A block: its count and its bytes. -/
def smbBlock (l : List Byte) : List Byte := leBytes 1 l.length ++ l

/-! ## Status commands (R400) -/

/-- DEV_STATUS (0x01). -/
def execDevStatus (s : State) : Host.Outcome State Fault Refusal :=
  .next (s.smbHears fun s => s.smbReturns [0x01] (leBytes 2 s.devStatus))

/-- Code of a port in *PORT_SUMMARY coding*. -/
def State.portCode (s : State) (p : Port) : Nat :=
  if s.gst p = gTripped ∨ s.gst p = gLatched ∨ s.gst p = gRetired ∨ s.tc p = tcOvpHold ∨ s.stop.getLsbD p = true then 3
  else if !s.on CC.ATTACHED p then 0
  else if s.rd CC.PWR_ROLE p = 1 then 1
  else if s.rd CC.PWR_ROLE p = 2 then 2 else 0

/-- The 8 bytes of PORT_SUMMARY. -/
def State.portSummary (s : State) : List Byte := leBytes 8 ((allPorts.map fun p => s.portCode p * 4 ^ p.val).sum)

/-- PORT_SUMMARY (0x02). -/
def execPortSummary (s : State) : Host.Outcome State Fault Refusal :=
  .next (s.smbHears fun s => s.smbReturns [0x02] (smbBlock s.portSummary))

/-- The 8 bytes of *FAULT_SUMMARY layout*. -/
def State.faultSummary (s : State) : List Byte :=
  leBytes 4 (bitsOf (allPorts.map fun p => decide (s.gst p ∈ [gTripped, gLatched, gRetired]))) ++
    leBytes 1 s.faultCauses ++ leBytes 1 (s.rd FEED.FD_STATE 0 + 16 * s.rd FEED.FD_STATE 1) ++
    leBytes 1 (bitsOf [s.stop != 0, s.on ADC.ROT_LOST 0, s.on MARL.SINGLE 0, s.on LEDGER.FLASH_FAULT 0]) ++
    leBytes 1 (allPorts.filter fun p => s.stop.getLsbD p).length

/-- FAULT_SUMMARY (0x03). -/
def execFaultSummary (s : State) : Host.Outcome State Fault Refusal :=
  .next (s.smbHears fun s => s.smbReturns [0x03] (smbBlock s.faultSummary))

/-! ## Register access (R403 to R405) -/

/-- SET_PTR (0x10). -/
def execSetPtr (count : Byte) (l : List Byte) (pec : Pec) (s : State) : Host.Outcome State Fault Refusal :=
  .next (s.smbServed 0x10 false fun s => s.blockWrite 0x10 count l pec (· == 3) fun s =>
    if leNat l % 4 ≠ 0 then s.smbErr stBAD_ACCESS 0x10 else s.wr SMB.PTR 0 (leNat l))

/-- The words of a READ_REG, fetched in address order with their side effects. -/
def State.smbWords : Nat → Nat → List Byte → State → State × List Byte
  | 0, _, l, s => (s, l)
  | n + 1, a, l, s =>
    let (v, s1) := s.hostRead a
    State.smbWords n ((a + 4) % 2 ^ 24) (l ++ leBytes 4 v) (if addrMapped a then s1 else s1.smbErr stBAD_ACCESS 0x11)

/-- READ_REG: the pointer advances when the host has read every data byte, and the PEC where it is required. -/
def State.readReg (s : State) (all pecRead : Bool) : State :=
  let n := s.rd SMB.RD_WORDS 0
  let a := s.rd SMB.PTR 0
  let (s1, l) := State.smbWords n a [] s
  let s2 := s1.smbReturns [0x11] (smbBlock l)
  if all && (pecRead || !s.on SMB.PEC_REQ 0) then s2.wr SMB.PTR 0 (a + 4 * n) else s2

/-- READ_REG (0x11). -/
def execReadReg (all pecRead : Bool) (s : State) : Host.Outcome State Fault Refusal :=
  .next (s.smbServed 0x11 false fun s => s.readReg all pecRead)

/-- Words of a byte list. -/
def wordsOf (l : List Byte) : List Word := (List.range (l.length / 4)).map fun i => BitVec.ofNat 32 (bytesAt l (4 * i) 4)

/-- Words applied at the STOP, in address order. -/
def State.smbWrites : Nat → List Word → State → State
  | _, [], s => s
  | a, w :: t, s => State.smbWrites ((a + 4) % 2 ^ 24) t (s.writeVia .smb 0x12 a w.toNat)

/-- BLOCK_RESET of the SMB page in a WRITE_REG takes effect after the STOP (R425). -/
def State.smbReset (s : State) (a : Nat) (ws : List Word) : State :=
  if s.on (LOCK SMB.page) 0 then s
  else match ws[(0x2004 - a) / 4]? with
    | some w => if a ≤ 0x2004 ∧ w.getLsbD 1 = true then s.blockReset SMB.page else s
    | none => s

/-- WRITE_REG (0x12). -/
def execWriteReg (count : Byte) (l : List Byte) (pec : Pec) (s : State) : Host.Outcome State Fault Refusal :=
  .next (s.smbServed 0x12 false fun s =>
    s.blockWrite 0x12 count l pec (fun n => decide (4 ≤ n ∧ n ≤ 32 ∧ n % 4 = 0)) fun s =>
      let a := s.rd SMB.PTR 0
      ((State.smbWrites a (wordsOf l) s).wr SMB.PTR 0 (a + count.toNat)).smbReset a (wordsOf l))

/-! ## Pushing fragments (R406, R407) -/

/-- The assembled packet is judged, and SMB.PUSH_STAT shows the outcome. -/
def State.fragPush (s : State) (ring : Nat) (l : List Byte) : State :=
  let (s1, st) := s.judgePush ring l true false
  let s2 := ((s1.wr SMB.TAG 0 (bytesAt l 0 2)).wr SMB.STATUS 0 st).wr SMB.PUSH_STAT_RING 0 ring
  if st = stOK then s2
  else ((s2.smbErr st 0x20).bump SMB.PUSH_REFUSED_CNT 0).irq SMB.page 0 SMB.IRQ_PUSH_REFUSED

/-- An assembly goes on with a fragment; LAST ends it. -/
def State.fragTaken (s : State) (a : SmbAsm) (isLast : Bool) : State :=
  if isLast then (s.setAsm none).fragPush a.ring a.bytes else s.setAsm (some a)

/-- A fragment that fits nowhere. (DEDUCED, assumption 131) -/
def State.fragBad (s : State) : State := ((s.setAsm none).bump SMB.FRAG_ABORT_CNT 0).smbErr stBAD_ARG 0x20

/-- Bytes that the assembly buffer holds. -/
abbrev asmBytes : Nat := 4128

/-- A valid PUSH_FRAG: header, SEQ and data. (DEDUCED, assumption 131) -/
def State.pushFrag (s : State) (l : List Byte) : State :=
  let h := bytesAt l 0 1
  let seq := bytesAt l 1 1
  let ring := h % 64
  let data := l.drop 2
  let last := h.testBit 6
  if h.testBit 7 then
    if seq ≠ 0 then s.fragBad else s.dropAsm.fragTaken ⟨ring, data, 1, l⟩ last
  else match s.smb.asm with
    | some a =>
      if l = a.last then s.bump SMB.DUP_FRAG_CNT 0
      else if a.ring = ring ∧ a.next = seq ∧ a.bytes.length + data.length ≤ asmBytes then
        s.fragTaken ⟨ring, a.bytes ++ data, (seq + 1) % 256, l⟩ last
      else s.fragBad
    | none => s.fragBad

/-- PUSH_FRAG (0x20). -/
def execPushFrag (count : Byte) (l : List Byte) (pec : Pec) (s : State) : Host.Outcome State Fault Refusal :=
  .next (s.smbServed 0x20 (s.romServes (bytesAt l 0 1 % 64) 2) fun s =>
    s.blockWrite 0x20 count l pec (fun n => decide (3 ≤ n ∧ n ≤ s.rd SMB.FRAG_MAX 0 + 2)) fun s => s.pushFrag l)

/-- FRAG_ASSEMBLY_TIMEOUT: no fragment for 1 s. -/
def execFragAssemblyTimeout (s : State) : Host.Outcome State Fault Refusal := .next s.dropAsm

/-- CLEAR_ASM: SMB.CTL.CLEAR_ASM is written. -/
def execClearAsm (s : State) : Host.Outcome State Fault Refusal := .next (s.readyFor State.dropAsm)

/-! ## Pulling fragments (R408, R409) -/

/-- The delivery in progress is abandoned: its record stays, its lock is released. -/
def State.abandon (s : State) : State :=
  match s.smb.del with
  | some d => ({ s with smb := { s.smb with del := none } } : State).relock (ringNo d.ring)
  | none => s

/-- Action byte of a PULL_FRAG. -/
def actionByte (ring act : Nat) : Byte := BitVec.ofNat 8 (ring % 64 + 64 * act)

/-- The answer for an empty ring. -/
def State.fragEmpty (s : State) (ring act : Nat) : State :=
  s.smbReturns [0x21, 1, actionByte ring act] [2, BitVec.ofNat 8 (ring % 64), 0]

/-- A fragment of the tail is delivered. -/
def State.fragSend (s : State) (ring act off len seq : Nat) : State :=
  let l := s.tailBytes (ringNo ring)
  let h := ring % 64 + (if off = 0 then 128 else 0) + (if l.length ≤ off + len then 64 else 0)
  let s1 := ({ s with smb := { s.smb with del := some ⟨ring, off, len, seq⟩ } } : State).relock (ringNo ring)
  s1.smbReturns [0x21, 1, actionByte ring act]
    (smbBlock (leBytes 1 h ++ leBytes 1 seq ++ (l.drop off).take len))

/-- The tail's first fragment, or the answer for an empty ring. (DEDUCED, assumption 132) -/
def State.fragFirst (s : State) (ring act : Nat) : State :=
  let l := s.tailBytes (ringNo ring)
  if l.isEmpty then ({ s with smb := { s.smb with del := none } } : State).fragEmpty ring act
  else s.fragSend ring act 0 (min (s.rd SMB.FRAG_MAX 0) l.length) 0

/-- The delivered record leaves its ring. -/
def State.fragDone (s : State) (ring : Nat) : State :=
  let s1 := s.removeTail (ringNo ring)
  { s1 with smb := { s1.smb with del := none }, spi := { s1.spi with held := s1.spi.held.filter fun x => x != ring } }

/-- PULL_FRAG on a ring: 0 NEXT, 1 AGAIN, 2 RESTART, 3 reserved. (DEDUCED, assumption 132) -/
def State.pullFrag (s : State) (ring act : Nat) : State :=
  if ring < 4 ∨ 39 < ring ∨ act = 3 then (s.smbErr stBAD_ARG 0x21).fragEmpty ring act
  else match s.smb.del with
    | none => s.fragFirst ring act
    | some d =>
      if d.ring ≠ ring then s.abandon.fragFirst ring act
      else
        let n := (s.tailBytes (ringNo ring)).length
        match act with
        | 0 =>
          if n ≤ d.off + d.len then (s.fragDone ring).fragFirst ring act
          else
            s.fragSend ring act (d.off + d.len) (min (s.rd SMB.FRAG_MAX 0) (n - d.off - d.len)) ((d.seq + 1) % 256)
        | 1 => s.fragSend ring act d.off d.len d.seq
        | _ => s.fragFirst ring act

/-- A PULL_FRAG transaction: its count is 1. -/
def State.pullTxn (s : State) (count : Byte) (ring act : Nat) : State :=
  s.smbServed 0x21 (s.romServes ring 4) fun s =>
    if count.toNat ≠ 1 then s.smbErr stBAD_ARG 0x21 else s.pullFrag ring act

/-- PULL_FRAG_NEXT (0x21); `reserved` when the action bits are 0b11 instead. -/
def execPullFragNext (count : Byte) (ring : BitVec 6) (reserved : Bool) (s : State) : Host.Outcome State Fault Refusal :=
  .next (s.pullTxn count ring.toNat (if reserved then 3 else 0))

/-- PULL_FRAG_AGAIN (0x21). (DEDUCED, assumption 132) -/
def execPullFragAgain (count : Byte) (ring : BitVec 6) (s : State) : Host.Outcome State Fault Refusal :=
  .next (s.pullTxn count ring.toNat 1)

/-- PULL_FRAG_RESTART (0x21). -/
def execPullFragRestart (count : Byte) (ring : BitVec 6) (s : State) : Host.Outcome State Fault Refusal :=
  .next (s.pullTxn count ring.toNat 2)

/-- FRAG_DELIVERY_TIMEOUT: no PULL_FRAG for 1 s. -/
def execFragDeliveryTimeout (s : State) : Host.Outcome State Fault Refusal := .next s.abandon

/-! ## STOP and errors (R402, R399, R410, R412, R413) -/

/-- SMB_STOP (0x7E): it acts without waiting for PEC. (DEDUCED, assumption 134) -/
def execSmbStop (b : Byte) (pec : Pec) (s : State) : Host.Outcome State Fault Refusal :=
  .next (s.smbHears fun s =>
    let s1 := match stopByte b.toNat with
      | some op => (s.stopLane op b.toNat 0 0 3).1
      | none => s.smbErr stBAD_ARG 0x7E
    if s.pecOk pec then s1 else s1.pecErr 0x7E)

/-- The command bytes of *SMBus commands*. -/
def smbCommands : List Nat := [0x01, 0x02, 0x03, 0x10, 0x11, 0x12, 0x20, 0x21, 0x7E]

/-- SMB_UNKNOWN_COMMAND: a command byte that is not listed gets NACK. -/
def execSmbUnknownCommand (cmd : Byte) (s : State) : Host.Outcome State Fault Refusal :=
  .next (if cmd.toNat ∈ smbCommands then s else s.smbHears fun s => s.smbErr stBAD_ARG cmd.toNat)

/-- SMB_PROTOCOL_ERROR: a START or STOP where none may be; the transaction in progress is aborted and applies nothing.
(DEDUCED, assumption 134) -/
def execSmbProtocolError (s : State) : Host.Outcome State Fault Refusal :=
  .next ((s.bump SMB.SMB_PROTO_ERR 0).irq SMB.page 0 SMB.IRQ_PROTO_ERR)

/-- SMB_SCL_TIMEOUT: SCL has been low for more than 35 ms; configuration, pointer, assembly and delivery stay. -/
def execSmbSclTimeout (s : State) : Host.Outcome State Fault Refusal :=
  .next ((s.bump SMB.TIMEOUT_CNT 0).irq SMB.page 0 SMB.IRQ_TIMEOUT)

/-- What goes out when only the first `ready` bytes were ready: 0x00 for the others, and the complement of the correct PEC.
(DEDUCED, assumption 136) -/
def State.smbLate (s : State) (sent : List Byte) (ready : Nat) : State :=
  let n := s.smb.tx.length - 1
  let s1 := s.smbReturns sent (s.smb.tx.take (min ready n) ++ List.replicate (n - ready) 0)
  let tx := s1.smb.tx
  { s1 with smb := { s1.smb with tx := tx.take n ++ (tx.drop n).map fun b => ~~~b } }

/-- SMB_STRETCH_LIMIT: a READ_REG, or a PULL_FRAG with an action byte, whose bytes past `ready` were not ready after 25 ms of
stretching. (DEDUCED, assumption 136) -/
def execSmbStretchLimit (pull : Option Byte) (ready : Nat) (s : State) : Host.Outcome State Fault Refusal :=
  .next (
    match pull with
    | none =>
      s.smbServed 0x11 false fun s => ((s.readReg true true).smbLate [0x11] ready).smbErr stNOT_READY 0x11
    | some b =>
      let ring := b.toNat % 64
      s.smbServed 0x21 (s.romServes ring 4) fun s =>
        ((s.pullFrag ring (b.toNat / 64)).smbLate [0x21, 1, b] ready).smbErr stNOT_READY 0x21)

/-! ## Bus recovery (R414) -/

/-- RECOVER: up to nine pulses on SCL, then STOP; `freed` is whether SDA went high. (DEDUCED, assumption 137) -/
def execRecover (freed : Bool) (s : State) : Host.Outcome State Fault Refusal :=
  .next (
    let s1 := ({ s with smb := { s.smb with recover := false } } : State).bump SMB.RECOVERY_CNT 0
    if freed then s1 else (s1.flag SMB.BUS_STUCK 0 true).irq SMB.page 0 SMB.IRQ_BUS_STUCK)

/-! ## Host Notify (R415 to R417) -/

/-- Attempts at one notification. -/
abbrev notifyTries : Nat := 8

/-- An attempt ends: the frame is sent, or it is to be tried again, or the notification is dropped after the eighth.
(DEDUCED, assumption 135) -/
def State.notifyTry (s : State) (r : NotifyTry) : State :=
  let n := s.rd SMB.ATTEMPTS 0 + 1
  let s1 := s.wr SMB.ATTEMPTS 0 n
  let s2 := if r = .lost then (s1.bump SMB.ARB_LOST 0).irq SMB.page 0 SMB.IRQ_ARB_LOST else s1
  match r with
  | .sent =>
    let s3 : State := { s2 with smb := { s2.smb with
      notifying := false, quiet := true, tx := [0x10, s2.smbAddr false] ++ leBytes 2 s2.devStatus } }
    (s3.bump SMB.NOTIFY_CNT 0).wr SMB.RESULT 0 1
  | .lost | .nack =>
    if n < notifyTries then s2
    else
      let s3 := ({ s2 with smb := { s2.smb with notifying := false } } : State).flag SMB.NOTIFY_FAIL 0 true
      ((s3.bump SMB.NOTIFY_FAIL_CNT 0).irq SMB.page 0 SMB.IRQ_NOTIFY_FAIL).wr SMB.RESULT 0 2

/-- A notification starts with its first attempt. (DEDUCED, assumption 135) -/
def State.notifyStart (s : State) (r : NotifyTry) : State :=
  (({ s with smb := { s.smb with notifying := true, heldBack := false } } : State).wr SMB.ATTEMPTS 0 0).notifyTry r

/-- HOST_NOTIFY: IRQ_N has fallen; `r` is how the first attempt ends. In NOTIFY_MIN the cause is held back. -/
def execHostNotify (r : NotifyTry) (s : State) : Host.Outcome State Fault Refusal :=
  .next (
    if !s.on SMB.NOTIFY_EN 0 || !s.irqN || s.smb.notifying then s
    else if s.smb.quiet then { s with smb := { s.smb with heldBack := true } }
    else s.notifyStart r)

/-- NOTIFY_RETRY: the bus has been idle for tBUF and the backoff. -/
def execNotifyRetry (r : NotifyTry) (s : State) : Host.Outcome State Fault Refusal :=
  .next (if s.smb.notifying then s.notifyTry r else s)

/-- NOTIFY_MIN_EXPIRY: a cause held back is notified if IRQ_N is still asserted. (DEDUCED, assumption 135) -/
def execNotifyMinExpiry (r : NotifyTry) (s : State) : Host.Outcome State Fault Refusal :=
  .next (
    let s1 : State := { s with smb := { s.smb with quiet := false } }
    if s.smb.heldBack && s.on SMB.NOTIFY_EN 0 && s.irqN then s1.notifyStart r
    else { s1 with smb := { s1.smb with heldBack := false } })

/-! ## WATCH (R418) -/

/-- SMB_WATCH_WAKE: a START in WATCH wakes the interface; the first address gets NACK. (DEDUCED, assumption 137) -/
def execSmbWatchWake (s : State) : Host.Outcome State Fault Refusal :=
  .next (if s.dev = .watch then (s.bump SMB.WAKE_NACK_CNT 0).wakeBy 3 else s)

end Sys2Proof.Machine
end

