-- ==== Sys2Proof/Machine/Spi.lean ====
section
/-! DEFINITION. The host SPI target at transaction level (chapter 15): register bursts, STATUS, PUSH, PULL, STOP, undefined
opcodes and the wake on HCS_N. -/

namespace Sys2Proof.Machine

/-! ## Transactions (R380, R384, R388) -/

/-- A transaction is counted. -/
def State.spiCount (s : State) : State := s.bump HSPI.TXN_CNT 0

/-- The bytes the device has sent. -/
def State.spiSends (s : State) (l : List Byte) : State := { s with spi := { s.spi with tx := l } }

/-- NOT_READY: an opcode that is not served now, or a word that was not ready in time (R380, R385). -/
def State.spiNotReady (s : State) (op : Nat) : State :=
  ((s.spiErr stNOT_READY op).bump HSPI.NOT_READY_CNT 0).irq HSPI.page 0 HSPI.IRQ_NOT_READY

/-- A trailer that fails (R388). (DEDUCED, assumption 142) -/
def State.spiCrc (s : State) (op : Nat) : State :=
  ((s.spiErr stCRC op).bump HSPI.CRC_ERR_CNT 0).irq HSPI.page 0 HSPI.IRQ_CRC_ERR

/-- A transaction while READY is 0 is ignored, and 0x00 goes out on its `n` data bytes; otherwise it runs. -/
def State.spiServed (s : State) (op n : Nat) (f : State → State) : State :=
  let s1 := s.spiCount
  if s.on SYS.READY 0 then f s1 else (s1.spiNotReady op).spiSends (List.replicate n 0)

/-- The CRC-16 trailer, high byte first, when CRC_EN is set. (DEDUCED, assumption 142) -/
def State.trailer (s : State) (l : List Byte) : List Byte := if s.on HSPI.CRC_EN 0 then beBytes 2 (crc16 l) else []

/-- Opcode and address as sent. -/
def spiHead (op a : Nat) : List Byte := leBytes 1 op ++ beBytes 3 a

/-! ## Register bursts (R385 to R387) -/

/-- Longest fetch of a word, ns: the always-on pages take longer (R385, R420). (DEDUCED, assumption 123) -/
def fetchNs (a : Nat) : Nat :=
  match pageOf a with
  | some (pg, _, _) => if pg ∈ [1, 2, 3, 8, 0x11] then 375 else 150
  | none => 150

/-- Clocks that cover the fetch of word `i`: DUMMY for the first, the shift of the word before for the others. -/
def State.fetchClocks (s : State) (quad : Bool) (i : Nat) : Nat :=
  let crc := if s.on HSPI.CRC_EN 0 then 1 else 0
  if i = 0 then s.rd HSPI.DUMMY 0 else if quad then 8 + 4 * crc else 32 + 16 * crc

/-- Words of a read burst: `late` holds the words whose fetch took its full time, `sck` is the clock period in ps. A word not
ready in time goes out as 0. (DEDUCED, assumption 123) -/
def State.spiWords (op : Nat) (quad : Bool) (sck : Nat) (late : List Nat) :
    Nat → Nat → Nat → List Byte → List Byte → State → State × List Byte
  | 0, _, _, _, sent, s => (s, sent)
  | n + 1, i, a, data, sent, s =>
    let (v, s1) := s.hostRead a
    let s2 := if addrMapped a then s1 else s1.spiBad op a
    let slow := decide (i ∈ late ∧ s.fetchClocks quad i * sck < fetchNs a * 1000)
    let w := leBytes 4 (if slow then 0 else v)
    let s3 := if slow then s2.spiNotReady op else s2
    let data1 := data ++ w
    State.spiWords op quad sck late n (i + 1) ((a + 4) % 2 ^ 24) data1 (sent ++ w ++ s.trailer data1) s3

/-- A read burst of `n` words; `cut` when HCS_N rises within the last, which is then not read. A misaligned address reads no word: what goes out then is
left open (assumption 3). (DEDUCED, assumption 124; DESIGN CHOICE, assumption 125) -/
def State.spiRead (s : State) (op : Nat) (quad : Bool) (a n : Nat) (sck : Nat) (late : List Nat) (cut : Bool) : State :=
  s.spiServed op (4 * n) fun s =>
    if a % 4 ≠ 0 then
      let (v, s1) := s.fresh
      (s1.spiBad op a).spiSends (List.replicate (4 * n) (v.setWidth 8))
    else
      let (s1, l) := State.spiWords op quad sck late (if cut then n - 1 else n) 0 a (spiHead op a) [] s
      let last := (a + 4 * (n - 1)) % 2 ^ 24
      if cut && decide (0 < n) then (s1.spiBad op last).spiSends l else s1.spiSends l

/-- SPI_READ (0x0B): a burst of `n` words. -/
def execSpiRead (a : BitVec 24) (n sck : Nat) (late : List Nat) (cut : Bool) (s : State) :
    Host.Outcome State Fault Refusal :=
  .next (s.spiRead 0x0B false a.toNat n sck late cut)

/-- QREAD (0x6B): a burst on four lanes. -/
def execQread (a : BitVec 24) (n sck : Nat) (late : List Nat) (cut : Bool) (s : State) :
    Host.Outcome State Fault Refusal :=
  .next (s.spiRead 0x6B true a.toNat n sck late cut)

/-- Words written in address order. -/
def State.writeWords (h : HostIf) (op : Nat) : Nat → List Word → State → State
  | _, [], s => s
  | a, w :: t, s => State.writeWords h op ((a + 4) % 2 ^ 24) t (s.writeVia h op a w.toNat)

/-- A burst writes BLOCK_RESET of the page of its own interface: it takes effect at the end of the transaction (R425).
(DEDUCED, assumption 129) -/
def State.ownReset (s : State) (pg a : Nat) (ws : List Word) : State :=
  if s.on (LOCK pg) 0 then s
  else match ws[(pg * 0x400 + 4 - a) / 4]? with
    | some w => if a ≤ pg * 0x400 + 4 ∧ w.getLsbD 1 = true then s.blockReset pg else s
    | none => s

/-- A write burst; `cut` when HCS_N rises within a further word, `ok` is whether the trailer checks.
(DEDUCED, assumption 126) -/
def State.spiWrite (s : State) (op a : Nat) (ws : List Word) (cut ok : Bool) : State :=
  s.spiServed op 0 fun s =>
    let crc := s.on HSPI.CRC_EN 0
    let s1 := s.spiSends []
    if a % 4 ≠ 0 then s1.spiBad op a
    else if crc && decide (64 < ws.length) then s1.spiErr stBAD_ARG op
    else
      let partAt := (a + 4 * ws.length) % 2 ^ 24
      if crc && cut then s1.spiBad op partAt
      else if crc && !ok then s1.spiCrc op
      else
        let s2 := (State.writeWords .spi op a ws s1).ownReset HSPI.page a ws
        if cut then s2.spiBad op partAt else s2

/-- SPI_WRITE (0x02). -/
def execSpiWrite (a : BitVec 24) (ws : List Word) (cut ok : Bool) (s : State) : Host.Outcome State Fault Refusal :=
  .next (s.spiWrite 0x02 a.toNat ws cut ok)

/-- QWRITE (0x32): a burst on four lanes. -/
def execQwrite (a : BitVec 24) (ws : List Word) (cut ok : Bool) (s : State) : Host.Outcome State Fault Refusal :=
  .next (s.spiWrite 0x32 a.toNat ws cut ok)

/-! ## STATUS (R389) -/

/-- SPI_STATUS (0x05): the status word as at the falling edge of HCS_N, in every state. -/
def execSpiStatus (s : State) : Host.Outcome State Fault Refusal :=
  let w := leBytes 4 s.statusWord
  .next (s.spiCount.spiSends (w ++ s.trailer (0x05 :: w)))

/-! ## PUSH (R390) -/

/-- PUSH_STAT shows a packet's outcome; a failure is counted. (DEDUCED, assumption 130) -/
def State.pushOutcome (s : State) (ring st : Nat) (l : List Byte) : State :=
  let s1 := ((s.wr HSPI.TAG 0 (bytesAt l 0 2)).wr HSPI.STATUS 0 st).wr HSPI.RING 0 ring
  if st = stOK then s1.bump HSPI.PUSH_CNT 0
  else ((s1.spiErr st 0x20).bump HSPI.PUSH_REFUSED_CNT 0).irq HSPI.page 0 HSPI.IRQ_PUSH_REFUSED

/-- PUSH (0x20): a ring byte and a packet; `ok` is whether the trailer, where one is due, checks, `busy` whether both assembly
buffers still await commit. -/
def execPush (ring : Byte) (l : List Byte) (ok busy : Bool) (s : State) : Host.Outcome State Fault Refusal :=
  .next (
    let s1 := s.spiCount.spiSends []
    if !s.on SYS.READY 0 && !s.romServes ring.toNat 2 then s1.spiNotReady 0x20
    else
      let bad := s.on HSPI.CRC_EN 0 && !ok
      let (s2, st) := s1.judgePush ring.toNat l (!bad) busy
      let s3 := s2.pushOutcome (ring.toNat % 64) st l
      if bad && decide (ring.toNat < 4) then s3.spiCrc 0x20 else s3)

/-! ## PULL (R391, R392) -/

/-- A record or packet has left its ring by a PULL: an SMBus delivery of it ends (R409). (DEDUCED, assumption 128) -/
def State.pulled (s : State) (q : Fin 40) : State :=
  let s1 := (s.removeTail q).bump HSPI.PULL_CNT 0
  let s2 : State := { s1 with spi := { s1.spi with held := s1.spi.held.filter fun x => x != q.val } }
  match s2.smb.del with
  | some d =>
    if d.ring = q.val then
      ({ s2 with smb := { s2.smb with del := none } } : State).bump SMB.FRAG_LOST_CNT 0
    else s2
  | none => s2

/-- The header and what follows it, with the trailer. (DEDUCED, assumption 128) -/
def State.pullSends (s : State) (ring : Byte) (l : List Byte) : State :=
  let out := leBytes 2 l.length ++ leBytes 2 (ring.toNat % 64) ++ l
  s.spiSends (out ++ s.trailer (0x21 :: ring :: out))

/-- The tail is delivered; `whole` is whether it was clocked out to the end, with its trailer. -/
def State.pullDeliver (s : State) (q : Fin 40) (ring : Byte) (whole : Bool) : State :=
  let l := s.tailBytes q
  let s1 := s.pullSends ring l
  if l.isEmpty then s1
  else if !whole then
    ({ s1 with spi := { s1.spi with held := s1.spi.held.filter fun x => x != q.val } } : State).relock q
  else if s.on HSPI.PULL_CONFIRM 0 then
    ({ s1 with spi := { s1.spi with held := q.val :: s1.spi.held.filter fun x => x != q.val } } : State).relock q
  else s1.pulled q

/-- PULL (0x21): ring number in [5:0], ACK in [7]. (DEDUCED, assumption 128) -/
def execPull (ring : Byte) (whole : Bool) (s : State) : Host.Outcome State Fault Refusal :=
  .next (
    let n := ring.toNat % 64
    let s1 := s.spiCount
    if !s.on SYS.READY 0 && !s.romServes n 4 then (s1.spiNotReady 0x21).spiSends [0, 0, 0, 0]
    else if ring.getLsbD 6 = true ∨ n < 4 ∨ 39 < n then (s1.spiErr stBAD_ARG 0x21).pullSends ring []
    else
      let q := ringNo n
      let s2 := if s1.on HSPI.PULL_CONFIRM 0 && ring.getLsbD 7 && s1.spi.held.contains n then s1.pulled q else s1
      s2.pullDeliver q ring whole)

/-! ## STOP, undefined opcodes, wake (R381, R384, R393) -/

/-- SPI_STOP (0x3F), in every state. -/
def execSpiStop (b : Byte) (s : State) : Host.Outcome State Fault Refusal :=
  .next (
    let s1 := s.spiCount.spiSends []
    match stopByte b.toNat with
    | some op => (s1.stopLane op b.toNat 0 0 2).1
    | none => (s1.spiErr stBAD_ARG 0x3F).bump HSPI.STOP_BAD_CNT 0)

/-- The opcodes of *SPI transactions*. -/
def spiOpcodes : List Nat := [0x0B, 0x6B, 0x02, 0x32, 0x05, 0x20, 0x21, 0x3F]

/-- SPI_UNKNOWN_OPCODE: the rest of the transaction is ignored. (DEDUCED, assumption 127) -/
def execSpiUnknownOpcode (op : Byte) (s : State) : Host.Outcome State Fault Refusal :=
  .next (if op.toNat ∈ spiOpcodes then s else (s.spiCount.spiErr stBAD_ARG op.toNat).spiSends [])

/-- SPI_WAKE: HCS_N falls in WATCH. -/
def execSpiWake (s : State) : Host.Outcome State Fault Refusal := .next (s.wakeBy 2)

end Sys2Proof.Machine
end

