-- ==== Sys2Proof/Machine/Dispatch.lean ====
section
/-! DEFINITION. What each command does: one arm per constructor of Instr. -/

namespace Sys2Proof.Machine

/-- The command's effect on everything but the queue. -/
def exec (i : Instr) (s : State) : Host.Outcome State Fault Refusal :=
  match i with
  | .nop k => Sys2Proof.Machine.execNop k s
  | .getInfo k => Sys2Proof.Machine.execGetInfo k s
  | .setPolicy k => Sys2Proof.Machine.execSetPolicy k s
  | .getPolicy k => Sys2Proof.Machine.execGetPolicy k s
  | .snapshot k => Sys2Proof.Machine.execSnapshot k s
  | .readSnap k => Sys2Proof.Machine.execReadSnap k s
  | .timeSet k => Sys2Proof.Machine.execTimeSet k s
  | .timeGet k => Sys2Proof.Machine.execTimeGet k s
  | .warmReset k => Sys2Proof.Machine.execWarmReset k s
  | .portEnable k => Sys2Proof.Machine.execPortEnable k s
  | .portDisable k => Sys2Proof.Machine.execPortDisable k s
  | .portSetProfile k => Sys2Proof.Machine.execPortSetProfile k s
  | .portGetState k => Sys2Proof.Machine.execPortGetState k s
  | .portSwap k => Sys2Proof.Machine.execPortSwap k s
  | .portHardReset k => Sys2Proof.Machine.execPortHardReset k s
  | .portSendVdm k => Sys2Proof.Machine.execPortSendVdm k s
  | .portClearFault k => Sys2Proof.Machine.execPortClearFault k s
  | .portTest k => Sys2Proof.Machine.execPortTest k s
  | .ledgerRead k => Sys2Proof.Machine.execLedgerRead k s
  | .ledgerFind k => Sys2Proof.Machine.execLedgerFind k s
  | .ledgerWriteUser k => Sys2Proof.Machine.execLedgerWriteUser k s
  | .ledgerExport k => Sys2Proof.Machine.execLedgerExport k s
  | .ledgerPurge k => Sys2Proof.Machine.execLedgerPurge k s
  | .updBegin k => Sys2Proof.Machine.execUpdBegin k s
  | .updData k => Sys2Proof.Machine.execUpdData k s
  | .updEnd k ms => Sys2Proof.Machine.execUpdEnd k ms s
  | .updStatus k => Sys2Proof.Machine.execUpdStatus k s
  | .updCommit k e => Sys2Proof.Machine.execUpdCommit k e s
  | .updAbort k => Sys2Proof.Machine.execUpdAbort k s
  | .coreReload k => Sys2Proof.Machine.execCoreReload k s
  | .coreRetire k => Sys2Proof.Machine.execCoreRetire k s
  | .otpRead k => Sys2Proof.Machine.execOtpRead k s
  | .otpProgram k e => Sys2Proof.Machine.execOtpProgram k e s
  | .otpLock k => Sys2Proof.Machine.execOtpLock k s
  | .otpMarginScan k => Sys2Proof.Machine.execOtpMarginScan k s
  | .pairEnrol k => Sys2Proof.Machine.execPairEnrol k s
  | .pairStatus k => Sys2Proof.Machine.execPairStatus k s
  | .pairHandover k => Sys2Proof.Machine.execPairHandover k s
  | .pairLeave k => Sys2Proof.Machine.execPairLeave k s
  | .weftSend k => Sys2Proof.Machine.execWeftSend k s
  | .weftRoute k => Sys2Proof.Machine.execWeftRoute k s
  | .weftStatus k => Sys2Proof.Machine.execWeftStatus k s
  | .stopPort k weft => Sys2Proof.Machine.execStopPort k weft s
  | .stopGroup k weft => Sys2Proof.Machine.execStopGroup k weft s
  | .stopAll k weft => Sys2Proof.Machine.execStopAll k weft s
  | .shedTo k weft => Sys2Proof.Machine.execShedTo k weft s
  | .release k weft => Sys2Proof.Machine.execRelease k weft s
  | .spiRead a n sck late cut => Sys2Proof.Machine.execSpiRead a n sck late cut s
  | .qread a n sck late cut => Sys2Proof.Machine.execQread a n sck late cut s
  | .spiWrite a ws cut ok => Sys2Proof.Machine.execSpiWrite a ws cut ok s
  | .qwrite a ws cut ok => Sys2Proof.Machine.execQwrite a ws cut ok s
  | .spiStatus => Sys2Proof.Machine.execSpiStatus s
  | .push ring l ok busy => Sys2Proof.Machine.execPush ring l ok busy s
  | .pull ring whole => Sys2Proof.Machine.execPull ring whole s
  | .spiStop b => Sys2Proof.Machine.execSpiStop b s
  | .spiUnknownOpcode op => Sys2Proof.Machine.execSpiUnknownOpcode op s
  | .devStatus => Sys2Proof.Machine.execDevStatus s
  | .portSummary => Sys2Proof.Machine.execPortSummary s
  | .faultSummary => Sys2Proof.Machine.execFaultSummary s
  | .setPtr count l pec => Sys2Proof.Machine.execSetPtr count l pec s
  | .readReg all pecRead => Sys2Proof.Machine.execReadReg all pecRead s
  | .writeReg count l pec => Sys2Proof.Machine.execWriteReg count l pec s
  | .pushFrag count l pec => Sys2Proof.Machine.execPushFrag count l pec s
  | .pullFragNext count ring reserved => Sys2Proof.Machine.execPullFragNext count ring reserved s
  | .pullFragAgain count ring => Sys2Proof.Machine.execPullFragAgain count ring s
  | .pullFragRestart count ring => Sys2Proof.Machine.execPullFragRestart count ring s
  | .smbStop b pec => Sys2Proof.Machine.execSmbStop b pec s
  | .smbUnknownCommand cmd => Sys2Proof.Machine.execSmbUnknownCommand cmd s
  | .smbProtocolError => Sys2Proof.Machine.execSmbProtocolError s
  | .smbSclTimeout => Sys2Proof.Machine.execSmbSclTimeout s
  | .smbStretchLimit pull ready => Sys2Proof.Machine.execSmbStretchLimit pull ready s
  | .fragAssemblyTimeout => Sys2Proof.Machine.execFragAssemblyTimeout s
  | .fragDeliveryTimeout => Sys2Proof.Machine.execFragDeliveryTimeout s
  | .recover freed => Sys2Proof.Machine.execRecover freed s
  | .clearAsm => Sys2Proof.Machine.execClearAsm s
  | .hostNotify r => Sys2Proof.Machine.execHostNotify r s
  | .notifyRetry r => Sys2Proof.Machine.execNotifyRetry r s
  | .smbWatchWake => Sys2Proof.Machine.execSmbWatchWake s
  | .spiWake => Sys2Proof.Machine.execSpiWake s
  | .irqRepulse => Sys2Proof.Machine.execIrqRepulse s
  | .registerWrite h a v => Sys2Proof.Machine.execRegisterWrite h a v s
  | .irqStatClear g mask => Sys2Proof.Machine.execIrqStatClear g mask s
  | .irqForce g mask => Sys2Proof.Machine.execIrqForce g mask s
  | .pageLock g => Sys2Proof.Machine.execPageLock g s
  | .blockReset g => Sys2Proof.Machine.execBlockReset g s
  | .pageEnableWrite g en => Sys2Proof.Machine.execPageEnableWrite g en s
  | .modeWrite p m => Sys2Proof.Machine.execModeWrite p m s
  | .periodWrite p v => Sys2Proof.Machine.execPeriodWrite p v s
  | .phaseWrite p v => Sys2Proof.Machine.execPhaseWrite p v s
  | .satFlagsClear p mask => Sys2Proof.Machine.execSatFlagsClear p mask s
  | .softStart p byTwill => Sys2Proof.Machine.execSoftStart p byTwill s
  | .closeMatched p byTwill vconvMv vbusMv => Sys2Proof.Machine.execCloseMatched p byTwill vconvMv vbusMv s
  | .openCmd p byTwill => Sys2Proof.Machine.execOpenCmd p byTwill s
  | .openLow p byTwill => Sys2Proof.Machine.execOpenLow p byTwill s
  | .openIdle p byTwill => Sys2Proof.Machine.execOpenIdle p byTwill s
  | .commitA p => Sys2Proof.Machine.execCommitA p s
  | .commitB p => Sys2Proof.Machine.execCommitB p s
  | .feedCommitA => Sys2Proof.Machine.execFeedCommitA s
  | .feedCommitB => Sys2Proof.Machine.execFeedCommitB s
  | .clearA repaired => Sys2Proof.Machine.execClearA repaired s
  | .clearB repaired => Sys2Proof.Machine.execClearB repaired s
  | .forceCmd v => Sys2Proof.Machine.execForceCmd v s
  | .cableReset p => Sys2Proof.Machine.execCableReset p s
  | .hardReset p => Sys2Proof.Machine.execHardReset p s
  | .softReset p => Sys2Proof.Machine.execSoftReset p s
  | .warm => Sys2Proof.Machine.execWarm s
  | .safeEnter => Sys2Proof.Machine.execSafeEnter s
  | .safeExit => Sys2Proof.Machine.execSafeExit s
  | .req => Sys2Proof.Machine.execReq s
  | .mbist failed => Sys2Proof.Machine.execMbist failed s
  | .adcRequalification ok => Sys2Proof.Machine.execAdcRequalification ok s
  | .scrubPass corrected => Sys2Proof.Machine.execScrubPass corrected s
  | .mailboxCommit from_ m w0 staged => Sys2Proof.Machine.execMailboxCommit from_ m w0 staged s
  | .mailboxRead m => Sys2Proof.Machine.execMailboxRead m s
  | .timeLoRead => Sys2Proof.Machine.execTimeLoRead s
  | .ccOvpClear p cc1Mv cc2Mv => Sys2Proof.Machine.execCcOvpClear p cc1Mv cc2Mv s
  | .vconnForceOff p v => Sys2Proof.Machine.execVconnForceOff p v s
  | .windowWrite a v => Sys2Proof.Machine.execWindowWrite a v s
  | .commandDispatch e => Sys2Proof.Machine.execCommandDispatch e s
  | .eventRecordWrite q coal sev port code src d4 d5 d6 d7 => Sys2Proof.Machine.execEventRecordWrite q coal sev port code src d4 d5 d6 d7 s
  | .ringThrottleTick q => Sys2Proof.Machine.execRingThrottleTick q s
  | .mailboxAborted e => Sys2Proof.Machine.execMailboxAborted e s
  | .doorbellWake e => Sys2Proof.Machine.execDoorbellWake e s
  | .rdDetected p mv1 mv2 => Sys2Proof.Machine.execRdDetected p mv1 mv2 s
  | .rpDetected p mv1 mv2 => Sys2Proof.Machine.execRpDetected p mv1 mv2 s
  | .tCcdebounceExpiry p vbusMv => Sys2Proof.Machine.execTCcdebounceExpiry p vbusMv s
  | .tPddebounceExpiry p => Sys2Proof.Machine.execTPddebounceExpiry p s
  | .tDrpToggle p => Sys2Proof.Machine.execTDrpToggle p s
  | .tryTimerExpiry p t vbusMv => Sys2Proof.Machine.execTryTimerExpiry p t vbusMv s
  | .tErrorRecoveryExpiry p => Sys2Proof.Machine.execTErrorRecoveryExpiry p s
  | .rpValueChange p mv => Sys2Proof.Machine.execRpValueChange p mv s
  | .ccOpenQ x => Sys2Proof.Machine.execCcOpenQ x s
  | .ccOpenQRelease p => Sys2Proof.Machine.execCcOpenQRelease p s
  | .ccGlitch x => Sys2Proof.Machine.execCcGlitch x s
  | .fastDetachOpening p => Sys2Proof.Machine.execFastDetachOpening p s
  | .sinkCcOpen p => Sys2Proof.Machine.execSinkCcOpen p s
  | .vconnOcp p => Sys2Proof.Machine.execVconnOcp p s
  | .vconnReclose p => Sys2Proof.Machine.execVconnReclose p s
  | .vconnRev p => Sys2Proof.Machine.execVconnRev p s
  | .vconnClaim p => Sys2Proof.Machine.execVconnClaim p s
  | .cableDiscoveryAttempt p reply => Sys2Proof.Machine.execCableDiscoveryAttempt p reply s
  | .ccOvp p ibusMa vbusMv => Sys2Proof.Machine.execCcOvp p ibusMa vbusMv s
  | .watchSample cc mons => Sys2Proof.Machine.execWatchSample cc mons s
  | .frameReceived p f check len rev byOwner => Sys2Proof.Machine.execFrameReceived p f check len rev byOwner s
  | .frameTransmit p f ams => Sys2Proof.Machine.execFrameTransmit p f ams s
  | .goodcrcReceived p k id => Sys2Proof.Machine.execGoodcrcReceived p k id s
  | .tReceiveExpiry p => Sys2Proof.Machine.execTReceiveExpiry p s
  | .tSinktxExpiry p => Sys2Proof.Machine.execTSinktxExpiry p s
  | .sinktxokRead p => Sys2Proof.Machine.execSinktxokRead p s
  | .hardResetReceived p vbusMv => Sys2Proof.Machine.execHardResetReceived p vbusMv s
  | .hardResetSent p vbusMv => Sys2Proof.Machine.execHardResetSent p vbusMv s
  | .chunkReceived p k m c data => Sys2Proof.Machine.execChunkReceived p k m c data s
  | .tChunkSenderResponseExpiry p k => Sys2Proof.Machine.execTChunkSenderResponseExpiry p k s
  | .tChunkingNotSupportedExpiry p => Sys2Proof.Machine.execTChunkingNotSupportedExpiry p s
  | .refusedMessage p m => Sys2Proof.Machine.execRefusedMessage p m s
  | .discoverIdentitySop p => Sys2Proof.Machine.execDiscoverIdentitySop p s
  | .structuredVdmRequest p attention => Sys2Proof.Machine.execStructuredVdmRequest p attention s
  | .getBatteryCap p status => Sys2Proof.Machine.execGetBatteryCap p status s
  | .getManufacturerInfo p => Sys2Proof.Machine.execGetManufacturerInfo p s
  | .getSinkCap p q => Sys2Proof.Machine.execGetSinkCap p q s
  | .getSourceCap p q => Sys2Proof.Machine.execGetSourceCap p q s
  | .getStatus p => Sys2Proof.Machine.execGetStatus p s
  | .getPpsStatus p => Sys2Proof.Machine.execGetPpsStatus p s
  | .getSourceInfo p => Sys2Proof.Machine.execGetSourceInfo p s
  | .getRevision p => Sys2Proof.Machine.execGetRevision p s
  | .sourceCapabilitiesSent x => Sys2Proof.Machine.execSourceCapabilitiesSent x s
  | .tSourceCapabilityExpiry p => Sys2Proof.Machine.execTSourceCapabilityExpiry p s
  | .request p r => Sys2Proof.Machine.execRequest p r s
  | .eprRequest p r copy => Sys2Proof.Machine.execEprRequest p r copy s
  | .sourceCapabilitiesReceived p caps f => Sys2Proof.Machine.execSourceCapabilitiesReceived p caps f s
  | .tTypecSinkWaitCapExpiry p => Sys2Proof.Machine.execTTypecSinkWaitCapExpiry p s
  | .tPsTransitionExpiry p vbusMv => Sys2Proof.Machine.execTPsTransitionExpiry p vbusMv s
  | .sinkAcceptReceived p => Sys2Proof.Machine.execSinkAcceptReceived p s
  | .sinkPsRdyReceived p => Sys2Proof.Machine.execSinkPsRdyReceived p s
  | .tSrcTransitionExpiry p => Sys2Proof.Machine.execTSrcTransitionExpiry p s
  | .rampComplete p => Sys2Proof.Machine.execRampComplete p s
  | .vbusSettled p vbusMv => Sys2Proof.Machine.execVbusSettled p vbusMv s
  | .settleTimeout p vbusMv => Sys2Proof.Machine.execSettleTimeout p vbusMv s
  | .ppsUndervoltage p vbusMv => Sys2Proof.Machine.execPpsUndervoltage p vbusMv s
  | .eprModeEnter p => Sys2Proof.Machine.execEprModeEnter p s
  | .eprModeExit p => Sys2Proof.Machine.execEprModeExit p s
  | .eprAutoExit p => Sys2Proof.Machine.execEprAutoExit p s
  | .eprExitTimeout p => Sys2Proof.Machine.execEprExitTimeout p s
  | .eprKeepalive p => Sys2Proof.Machine.execEprKeepalive p s
  | .tPpsTimeoutExpiry p => Sys2Proof.Machine.execTPpsTimeoutExpiry p s
  | .tSourceEprKeepaliveExpiry p => Sys2Proof.Machine.execTSourceEprKeepaliveExpiry p s
  | .sinkKeepaliveInterval x => Sys2Proof.Machine.execSinkKeepaliveInterval x s
  | .softResetReceived p k => Sys2Proof.Machine.execSoftResetReceived p k s
  | .tPsHardResetExpiry p => Sys2Proof.Machine.execTPsHardResetExpiry p s
  | .vbusBelow4v p => Sys2Proof.Machine.execVbusBelow4v p s
  | .vbusAtVsafe0v p => Sys2Proof.Machine.execVbusAtVsafe0v p s
  | .tSrcRecoverExpiry p => Sys2Proof.Machine.execTSrcRecoverExpiry p s
  | .tSafe0vExpiry p => Sys2Proof.Machine.execTSafe0vExpiry p s
  | .detachInTransition p => Sys2Proof.Machine.execDetachInTransition p s
  | .prSwap p => Sys2Proof.Machine.execPrSwap p s
  | .drSwap p => Sys2Proof.Machine.execDrSwap p s
  | .vconnSwap p => Sys2Proof.Machine.execVconnSwap p s
  | .tVconnSourceTimeoutExpiry p => Sys2Proof.Machine.execTVconnSourceTimeoutExpiry p s
  | .ownPrSwap p => Sys2Proof.Machine.execOwnPrSwap p s
  | .swapRepeat p => Sys2Proof.Machine.execSwapRepeat p s
  | .prSwapSourceAccepted p => Sys2Proof.Machine.execPrSwapSourceAccepted p s
  | .prSwapSourceOff p => Sys2Proof.Machine.execPrSwapSourceOff p s
  | .prSwapPartnerPsRdy p vconvMv vbusMv => Sys2Proof.Machine.execPrSwapPartnerPsRdy p vconvMv vbusMv s
  | .prSwapSinkAccepted p => Sys2Proof.Machine.execPrSwapSinkAccepted p s
  | .prSwapSinkPsRdy p => Sys2Proof.Machine.execPrSwapSinkPsRdy p s
  | .tPsSourceOnExpiry p => Sys2Proof.Machine.execTPsSourceOnExpiry p s
  | .tPsSourceOffExpiry p => Sys2Proof.Machine.execTPsSourceOffExpiry p s
  | .tSwapSourceStartExpiry p => Sys2Proof.Machine.execTSwapSourceStartExpiry p s
  | .frsSignalDetected p vbusMv => Sys2Proof.Machine.execFrsSignalDetected p vbusMv s
  | .frSwap p => Sys2Proof.Machine.execFrSwap p s
  | .frsNoFrSwap p => Sys2Proof.Machine.execFrsNoFrSwap p s
  | .bankFrsFire => Sys2Proof.Machine.execBankFrsFire s
  | .bankFrsArm => Sys2Proof.Machine.execBankFrsArm s
  | .islandEnd => Sys2Proof.Machine.execIslandEnd s
  | .returnSwap => Sys2Proof.Machine.execReturnSwap s
  | .identityGathering p e => Sys2Proof.Machine.execIdentityGathering p e s
  | .authentication p e => Sys2Proof.Machine.execAuthentication p e s
  | .batteryStatusRefresh p => Sys2Proof.Machine.execBatteryStatusRefresh p s
  | .sessionClose p => Sys2Proof.Machine.execSessionClose p s
  | .ledgerJournal slot ok => Sys2Proof.Machine.execLedgerJournal slot ok s
  | .ledgerCompaction done => Sys2Proof.Machine.execLedgerCompaction done s
  | .managementTick feedMv feedMa => Sys2Proof.Machine.execManagementTick feedMv feedMa s
  | .offerReadvertise p => Sys2Proof.Machine.execOfferReadvertise p s
  | .selfShed => Sys2Proof.Machine.execSelfShed s
  | .forcedReadvShed p => Sys2Proof.Machine.execForcedReadvShed p s
  | .shedExpiry p => Sys2Proof.Machine.execShedExpiry p s
  | .innerLoopBoundary p => Sys2Proof.Machine.execInnerLoopBoundary p s
  | .coefficientSwap p => Sys2Proof.Machine.execCoefficientSwap p s
  | .tableCrcCheck bad => Sys2Proof.Machine.execTableCrcCheck bad s
  | .deadlineMiss missed => Sys2Proof.Machine.execDeadlineMiss missed s
  | .engineRestored e => Sys2Proof.Machine.execEngineRestored e s
  | .modelOuterStep p => Sys2Proof.Machine.execModelOuterStep p s
  | .plausAlarm p => Sys2Proof.Machine.execPlausAlarm p s
  | .plausAction p => Sys2Proof.Machine.execPlausAction p s
  | .plausAlarmRelease p => Sys2Proof.Machine.execPlausAlarmRelease p s
  | .foldbackClear p => Sys2Proof.Machine.execFoldbackClear p s
  | .learningWindowEnd p => Sys2Proof.Machine.execLearningWindowEnd p s
  | .probeStart p => Sys2Proof.Machine.execProbeStart p s
  | .adcBurst p i0 vbus vconv late dropped => Sys2Proof.Machine.execAdcBurst p i0 vbus vconv late dropped s
  | .senseStale x => Sys2Proof.Machine.execSenseStale x s
  | .calibrationStep diff1 offset gain diff4 => Sys2Proof.Machine.execCalibrationStep diff1 offset gain diff4 s
  | .adcMismatch errK err8 => Sys2Proof.Machine.execAdcMismatch errK err8 s
  | .housekeepingFrame bus fa fb ia ib tDie tExt rails => Sys2Proof.Machine.execHousekeepingFrame bus fa fb ia ib tDie tExt rails s
  | .periodStart p => Sys2Proof.Machine.execPeriodStart p s
  | .drvEnFall g => Sys2Proof.Machine.execDrvEnFall g s
  | .drvSetupExpiry g => Sys2Proof.Machine.execDrvSetupExpiry g s
  | .forwardCheck p vbusMv ibusMa => Sys2Proof.Machine.execForwardCheck p vbusMv ibusMa s
  | .vconvNotReady p => Sys2Proof.Machine.execVconvNotReady p s
  | .firstGateMark p us => Sys2Proof.Machine.execFirstGateMark p us s
  | .vbusAbove475 p => Sys2Proof.Machine.execVbusAbove475 p s
  | .guardOn p us => Sys2Proof.Machine.execGuardOn p us s
  | .rampFail p ibusMa vbusMv => Sys2Proof.Machine.execRampFail p ibusMa vbusMv s
  | .fetDamaged p ibusMa vbusMv => Sys2Proof.Machine.execFetDamaged p ibusMa vbusMv s
  | .ifast p uv nsFromGate ibusMa vbusMv => Sys2Proof.Machine.execIfast p uv nsFromGate ibusMa vbusMv s
  | .monitorCrossing p c mv ibusMa vbusMv => Sys2Proof.Machine.execMonitorCrossing p c mv ibusMa vbusMv s
  | .limitCounterUpdate p => Sys2Proof.Machine.execLimitCounterUpdate p s
  | .curveUpdate p => Sys2Proof.Machine.execCurveUpdate p s
  | .fetShorted p c ibusMa vbusMv vconvMv => Sys2Proof.Machine.execFetShorted p c ibusMa vbusMv vconvMv s
  | .revChkDone p vbusMv vconvMv => Sys2Proof.Machine.execRevChkDone p vbusMv vconvMv s
  | .trip p c others ibusMa vbusMv => Sys2Proof.Machine.execTrip p c others ibusMa vbusMv s
  | .retryTExpiry p => Sys2Proof.Machine.execRetryTExpiry p s
  | .dischargeDone p => Sys2Proof.Machine.execDischargeDone p s
  | .dischargeFail p vbusMv => Sys2Proof.Machine.execDischargeFail p vbusMv s
  | .monitorAlternation at_ r => Sys2Proof.Machine.execMonitorAlternation at_ r s
  | .cspWindowCheck m r => Sys2Proof.Machine.execCspWindowCheck m r s
  | .ifastCheck m zero pos neg below => Sys2Proof.Machine.execIfastCheck m zero pos neg below s
  | .monDisagree p csp mv reads => Sys2Proof.Machine.execMonDisagree p csp mv reads s
  | .monFailed m step => Sys2Proof.Machine.execMonFailed m step s
  | .monCheckDue p => Sys2Proof.Machine.execMonCheckDue p s
  | .feedHealthy f both => Sys2Proof.Machine.execFeedHealthy f both s
  | .feedWindowLoss f => Sys2Proof.Machine.execFeedWindowLoss f s
  | .switchover outOff markMet => Sys2Proof.Machine.execSwitchover outOff markMet s
  | .gapExpiry => Sys2Proof.Machine.execGapExpiry s
  | .hotInsertion e => Sys2Proof.Machine.execHotInsertion e s
  | .feedOn => Sys2Proof.Machine.execFeedOn s
  | .offerHoldRelease => Sys2Proof.Machine.execOfferHoldRelease s
  | .autoReturn => Sys2Proof.Machine.execAutoReturn s
  | .feedTrip f c others iFeed => Sys2Proof.Machine.execFeedTrip f c others iFeed s
  | .feedRetryExpiry f => Sys2Proof.Machine.execFeedRetryExpiry f s
  | .feedReverse f iFeed => Sys2Proof.Machine.execFeedReverse f iFeed s
  | .busLoss mv => Sys2Proof.Machine.execBusLoss mv s
  | .busOv mv => Sys2Proof.Machine.execBusOv mv s
  | .supplyFault x mv => Sys2Proof.Machine.execSupplyFault x mv s
  | .snapPinEdge lowNs => Sys2Proof.Machine.execSnapPinEdge lowNs s
  | .snapBoundary => Sys2Proof.Machine.execSnapBoundary s
  | .snapPinDrive => Sys2Proof.Machine.execSnapPinDrive s
  | .holdExpired b => Sys2Proof.Machine.execHoldExpired b s
  | .linkTraining l e => Sys2Proof.Machine.execLinkTraining l e s
  | .linkDown k w => Sys2Proof.Machine.execLinkDown k w s
  | .cellReceived l c x good => Sys2Proof.Machine.execCellReceived l c x good s
  | .cellDelivered l c => Sys2Proof.Machine.execCellDelivered l c s
  | .credit l c n => Sys2Proof.Machine.execCredit l c n s
  | .assemblyTimeout src msgId => Sys2Proof.Machine.execAssemblyTimeout src msgId s
  | .sync l y => Sys2Proof.Machine.execSync l y s
  | .syncSend => Sys2Proof.Machine.execSyncSend s
  | .delayReq l d => Sys2Proof.Machine.execDelayReq l d s
  | .holdover => Sys2Proof.Machine.execHoldover s
  | .hello l id valid => Sys2Proof.Machine.execHello l id valid s
  | .ownInLoss => Sys2Proof.Machine.execOwnInLoss s
  | .claimComplete us => Sys2Proof.Machine.execClaimComplete us s
  | .yieldOutRelease => Sys2Proof.Machine.execYieldOutRelease s
  | .yieldIn level => Sys2Proof.Machine.execYieldIn level s
  | .takeover us => Sys2Proof.Machine.execTakeover us s
  | .ownOutToggle edge => Sys2Proof.Machine.execOwnOutToggle edge s
  | .selvedgeTraining e => Sys2Proof.Machine.execSelvedgeTraining e s
  | .selvedgeFrame good seq b => Sys2Proof.Machine.execSelvedgeFrame good seq b s
  | .selvedgeRetransmit => Sys2Proof.Machine.execSelvedgeRetransmit s
  | .loopFrameSend g => Sys2Proof.Machine.execLoopFrameSend g s
  | .urgent stop shed => Sys2Proof.Machine.execUrgent stop shed s
  | .handover e => Sys2Proof.Machine.execHandover e s
  | .coldStart x => Sys2Proof.Machine.execColdStart x s
  | .warmStart x => Sys2Proof.Machine.execWarmStart x s
  | .coreLoadFail e => Sys2Proof.Machine.execCoreLoadFail e s
  | .autoConfirm e => Sys2Proof.Machine.execAutoConfirm e s
  | .deltaBlock good => Sys2Proof.Machine.execDeltaBlock good s
  | .updResumed readOk => Sys2Proof.Machine.execUpdResumed readOk s
  | .hostBoot ms => Sys2Proof.Machine.execHostBoot ms s
  | .recoveryRom => Sys2Proof.Machine.execRecoveryRom s
  | .powerOnResetRelease boot saddr => Sys2Proof.Machine.execPowerOnResetRelease boot saddr s
  | .brownout rail => Sys2Proof.Machine.execBrownout rail s
  | .resetNLow lowNs boot saddr => Sys2Proof.Machine.execResetNLow lowNs boot saddr s
  | .clockLoss c back => Sys2Proof.Machine.execClockLoss c back s
  | .sscChange => Sys2Proof.Machine.execSscChange s
  | .warmStorm => Sys2Proof.Machine.execWarmStorm s
  | .watchEntry idle => Sys2Proof.Machine.execWatchEntry idle s
  | .wake src us sleptNs => Sys2Proof.Machine.execWake src us sleptNs s
  | .wakeTimer => Sys2Proof.Machine.execWakeTimer s
  | .safeEntry c => Sys2Proof.Machine.execSafeEntry c s
  | .thermalWarn tDie => Sys2Proof.Machine.execThermalWarn tDie s
  | .thermalShutdown tDie => Sys2Proof.Machine.execThermalShutdown tDie s
  | .twillHeartbeatLoss k => Sys2Proof.Machine.execTwillHeartbeatLoss k s
  | .loamHeartbeatLoss => Sys2Proof.Machine.execLoamHeartbeatLoss s
  | .twillResync p => Sys2Proof.Machine.execTwillResync p s
  | .scrub corrected => Sys2Proof.Machine.execScrub corrected s
  | .eccUncorr word block a => Sys2Proof.Machine.execEccUncorr word block a s
  | .blockRemapped block => Sys2Proof.Machine.execBlockRemapped block s
  | .chalkLockstep => Sys2Proof.Machine.execChalkLockstep s
  | .watchdogExpiry => Sys2Proof.Machine.execWatchdogExpiry s
  | .chalkForced p c release => Sys2Proof.Machine.execChalkForced p c release s
  | .engineAutoRetired e => Sys2Proof.Machine.execEngineAutoRetired e s
  | .serviceRaise e => Sys2Proof.Machine.execServiceRaise e s
  | .testDeferralExpiry p r => Sys2Proof.Machine.execTestDeferralExpiry p r s
  | .tSenderResponseExpiry p => Sys2Proof.Machine.execTSenderResponseExpiry p s
  | .tVdmSenderResponseExpiry p => Sys2Proof.Machine.execTVdmSenderResponseExpiry p s
  | .supplyRecovered x => Sys2Proof.Machine.execSupplyRecovered x s
  | .busOvCleared => Sys2Proof.Machine.execBusOvCleared s
  | .busRecovered => Sys2Proof.Machine.execBusRecovered s
  | .mirrorLost => Sys2Proof.Machine.execMirrorLost s
  | .loopDataStale p => Sys2Proof.Machine.execLoopDataStale p s
  | .openIdleMet p => Sys2Proof.Machine.execOpenIdleMet p s
  | .vconnPinDischarged x => Sys2Proof.Machine.execVconnPinDischarged x s
  | .sinkVbusLoss p => Sys2Proof.Machine.execSinkVbusLoss p s
  | .sinkVbusReturn p vbusMv => Sys2Proof.Machine.execSinkVbusReturn p vbusMv s
  | .sinkHardResetTimeout p => Sys2Proof.Machine.execSinkHardResetTimeout p s
  | .notifyMinExpiry r => Sys2Proof.Machine.execNotifyMinExpiry r s
  | .secondaryClaimWait => Sys2Proof.Machine.execSecondaryClaimWait s

end Sys2Proof.Machine
end

