-- ==== Sys2Proof/WellFormed.lean ====
section
/-! DEFINITION. Which commands are well formed: what the transports and the standard allow an operand to be, beyond what its
type says. -/

namespace Sys2Proof

/-- A packet carries at most 4,096 bytes (R362). -/
def Packet.wf (k : Packet) : Bool := decide (k.payload.length ≤ 4096)

/-- A cell carries at most 256 bytes (R436). -/
def Cell.wf (x : Cell) : Bool := decide (x.payload.length ≤ 256)

/-- A request names an object by four bits. -/
def Rdo.wf (r : Rdo) : Bool := decide (r.pos < 16)

/-- A chunk number has four bits, and a chunked message at most 260 bytes (R95). -/
def Chunk.wf (c : Chunk) : Bool := decide (c.num < 16 ∧ c.size ≤ 260)

/-- The content of a frame fits into a message: seven words or objects, eleven in an EPR message, 260 bytes (R95, R110). -/
def Body.wf : Body → Bool
  | .none | .epr _ | .ext _ => true
  | .caps l _ => decide (l.length ≤ 11)
  | .rdo r _ => r.wf
  | .vdm l => decide (l.length ≤ 7)
  | .fields l => decide (l.length ≤ 64)
  | .raw l => decide (l.length ≤ 260)

/-- A frame. -/
def Frame.wf (f : Frame) : Bool := f.body.wf && (match f.chunk with
  | some c => c.wf
  | none => true)

/-- A Selvedge frame carries what its type says, in at most 1,024 bytes (R466, R467). -/
def SelBody.wf : SelBody → Bool
  | .hello h => decide (h.nonce.length = 16 ∧ (h.proof.length = 0 ∨ h.proof.length = 16))
  | .loop _ _ l => decide (l.length = 8)
  | .cache _ _ => true
  | .urgent _ l => decide (l.length = 32)
  | .state x => decide (x.offers.length = 32 ∧ x.isl.length = 32 ∧ x.model.length = 32 ∧ x.vconn.length = 32)
  | .record slot _ => decide (slot < 8192)
  | .accum l => decide (l.length = 32)
  | .table _ l => decide (l.length = 256)
  | .policy _ _ l => decide (l.length ≤ 1024)
  | .marks _ l => l.all fun i => decide (i < 145)
  | .handover _ _ | .time _ => true
  | .ack n => decide (n < 2 ^ 32)

/-- The command is well formed. -/
def Instr.wf : Instr → Bool
  | .nop k => k.wf
  | .getInfo k => k.wf
  | .setPolicy k => k.wf
  | .getPolicy k => k.wf
  | .snapshot k => k.wf
  | .readSnap k => k.wf
  | .timeSet k => k.wf
  | .timeGet k => k.wf
  | .warmReset k => k.wf
  | .portEnable k => k.wf
  | .portDisable k => k.wf
  | .portSetProfile k => k.wf
  | .portGetState k => k.wf
  | .portSwap k => k.wf
  | .portHardReset k => k.wf
  | .portSendVdm k => k.wf
  | .portClearFault k => k.wf
  | .portTest k => k.wf
  | .ledgerRead k => k.wf
  | .ledgerFind k => k.wf
  | .ledgerWriteUser k => k.wf
  | .ledgerExport k => k.wf
  | .ledgerPurge k => k.wf
  | .updBegin k => k.wf
  | .updData k => k.wf
  | .updEnd k _ => k.wf
  | .updStatus k => k.wf
  | .updCommit k _ => k.wf
  | .updAbort k => k.wf
  | .coreReload k => k.wf
  | .coreRetire k => k.wf
  | .otpRead k => k.wf
  | .otpProgram k _ => k.wf
  | .otpLock k => k.wf
  | .otpMarginScan k => k.wf
  | .pairEnrol k => k.wf
  | .pairStatus k => k.wf
  | .pairHandover k => k.wf
  | .pairLeave k => k.wf
  | .weftSend k => k.wf
  | .weftRoute k => k.wf
  | .weftStatus k => k.wf
  | .stopPort k _ => k.wf
  | .stopGroup k _ => k.wf
  | .stopAll k _ => k.wf
  | .shedTo k _ => k.wf
  | .release k _ => k.wf
  | .spiRead _ _ _ _ _ => true
  | .qread _ _ _ _ _ => true
  | .spiWrite _ _ _ _ => true
  | .qwrite _ _ _ _ => true
  | .spiStatus => true
  | .push _ l _ _ => decide (l.length ≤ 4128)
  | .pull _ _ => true
  | .spiStop _ => true
  | .spiUnknownOpcode _ => true
  | .devStatus => true
  | .portSummary => true
  | .faultSummary => true
  | .setPtr _ l _ => decide (l.length ≤ 255)
  | .readReg _ _ => true
  | .writeReg _ l _ => decide (l.length ≤ 255)
  | .pushFrag _ l _ => decide (l.length ≤ 255)
  | .pullFragNext _ _ _ => true
  | .pullFragAgain _ _ => true
  | .pullFragRestart _ _ => true
  | .smbStop _ _ => true
  | .smbUnknownCommand _ => true
  | .smbProtocolError => true
  | .smbSclTimeout => true
  | .smbStretchLimit _ _ => true
  | .fragAssemblyTimeout => true
  | .fragDeliveryTimeout => true
  | .recover _ => true
  | .clearAsm => true
  | .hostNotify _ => true
  | .notifyRetry _ => true
  | .smbWatchWake => true
  | .spiWake => true
  | .irqRepulse => true
  | .registerWrite _ _ _ => true
  | .irqStatClear _ _ => true
  | .irqForce _ _ => true
  | .pageLock _ => true
  | .blockReset _ => true
  | .pageEnableWrite _ _ => true
  | .modeWrite _ _ => true
  | .periodWrite _ _ => true
  | .phaseWrite _ _ => true
  | .satFlagsClear _ _ => true
  | .softStart _ _ => true
  | .closeMatched _ _ _ _ => true
  | .openCmd _ _ => true
  | .openLow _ _ => true
  | .openIdle _ _ => true
  | .commitA _ => true
  | .commitB _ => true
  | .feedCommitA => true
  | .feedCommitB => true
  | .clearA _ => true
  | .clearB _ => true
  | .forceCmd _ => true
  | .cableReset _ => true
  | .hardReset _ => true
  | .softReset _ => true
  | .warm => true
  | .safeEnter => true
  | .safeExit => true
  | .req => true
  | .mbist _ => true
  | .adcRequalification _ => true
  | .scrubPass _ => true
  | .mailboxCommit _ _ _ _ => true
  | .mailboxRead _ => true
  | .timeLoRead => true
  | .ccOvpClear _ _ _ => true
  | .vconnForceOff _ _ => true
  | .windowWrite _ _ => true
  | .commandDispatch _ => true
  | .eventRecordWrite _ _ _ _ _ _ _ _ _ _ => true
  | .ringThrottleTick _ => true
  | .mailboxAborted _ => true
  | .doorbellWake _ => true
  | .rdDetected _ _ _ => true
  | .rpDetected _ _ _ => true
  | .tCcdebounceExpiry _ _ => true
  | .tPddebounceExpiry _ => true
  | .tDrpToggle _ => true
  | .tryTimerExpiry _ _ _ => true
  | .tErrorRecoveryExpiry _ => true
  | .rpValueChange _ _ => true
  | .ccOpenQ _ => true
  | .ccOpenQRelease _ => true
  | .ccGlitch _ => true
  | .fastDetachOpening _ => true
  | .sinkCcOpen _ => true
  | .vconnOcp _ => true
  | .vconnReclose _ => true
  | .vconnRev _ => true
  | .vconnClaim _ => true
  | .cableDiscoveryAttempt _ _ => true
  | .ccOvp _ _ _ => true
  | .watchSample _ _ => true
  | .frameReceived _ f _ _ _ _ => f.wf
  | .frameTransmit _ f _ => f.wf
  | .goodcrcReceived _ _ _ => true
  | .tReceiveExpiry _ => true
  | .tSinktxExpiry _ => true
  | .sinktxokRead _ => true
  | .hardResetReceived _ _ => true
  | .hardResetSent _ _ => true
  | .chunkReceived _ _ _ c data => c.wf && decide (data.length ≤ 26)
  | .tChunkSenderResponseExpiry _ _ => true
  | .tChunkingNotSupportedExpiry _ => true
  | .refusedMessage _ _ => true
  | .discoverIdentitySop _ => true
  | .structuredVdmRequest _ _ => true
  | .getBatteryCap _ _ => true
  | .getManufacturerInfo _ => true
  | .getSinkCap _ _ => true
  | .getSourceCap _ _ => true
  | .getStatus _ => true
  | .getPpsStatus _ => true
  | .getSourceInfo _ => true
  | .getRevision _ => true
  | .sourceCapabilitiesSent _ => true
  | .tSourceCapabilityExpiry _ => true
  | .request _ r => r.wf
  | .eprRequest _ r _ => r.wf
  | .sourceCapabilitiesReceived _ caps _ => decide (caps.length ≤ 11)
  | .tTypecSinkWaitCapExpiry _ => true
  | .tPsTransitionExpiry _ _ => true
  | .sinkAcceptReceived _ => true
  | .sinkPsRdyReceived _ => true
  | .tSrcTransitionExpiry _ => true
  | .rampComplete _ => true
  | .vbusSettled _ _ => true
  | .settleTimeout _ _ => true
  | .ppsUndervoltage _ _ => true
  | .eprModeEnter _ => true
  | .eprModeExit _ => true
  | .eprAutoExit _ => true
  | .eprExitTimeout _ => true
  | .eprKeepalive _ => true
  | .tPpsTimeoutExpiry _ => true
  | .tSourceEprKeepaliveExpiry _ => true
  | .sinkKeepaliveInterval _ => true
  | .softResetReceived _ _ => true
  | .tPsHardResetExpiry _ => true
  | .vbusBelow4v _ => true
  | .vbusAtVsafe0v _ => true
  | .tSrcRecoverExpiry _ => true
  | .tSafe0vExpiry _ => true
  | .detachInTransition _ => true
  | .prSwap _ => true
  | .drSwap _ => true
  | .vconnSwap _ => true
  | .tVconnSourceTimeoutExpiry _ => true
  | .ownPrSwap _ => true
  | .swapRepeat _ => true
  | .prSwapSourceAccepted _ => true
  | .prSwapSourceOff _ => true
  | .prSwapPartnerPsRdy _ _ _ => true
  | .prSwapSinkAccepted _ => true
  | .prSwapSinkPsRdy _ => true
  | .tPsSourceOnExpiry _ => true
  | .tPsSourceOffExpiry _ => true
  | .tSwapSourceStartExpiry _ => true
  | .frsSignalDetected _ _ => true
  | .frSwap _ => true
  | .frsNoFrSwap _ => true
  | .bankFrsFire => true
  | .bankFrsArm => true
  | .islandEnd => true
  | .returnSwap => true
  | .identityGathering _ _ => true
  | .authentication _ _ => true
  | .batteryStatusRefresh _ => true
  | .sessionClose _ => true
  | .ledgerJournal _ _ => true
  | .ledgerCompaction _ => true
  | .managementTick _ _ => true
  | .offerReadvertise _ => true
  | .selfShed => true
  | .forcedReadvShed _ => true
  | .shedExpiry _ => true
  | .innerLoopBoundary _ => true
  | .coefficientSwap _ => true
  | .tableCrcCheck _ => true
  | .deadlineMiss _ => true
  | .engineRestored _ => true
  | .modelOuterStep _ => true
  | .plausAlarm _ => true
  | .plausAction _ => true
  | .plausAlarmRelease _ => true
  | .foldbackClear _ => true
  | .learningWindowEnd _ => true
  | .probeStart _ => true
  | .adcBurst _ _ _ _ _ _ => true
  | .senseStale _ => true
  | .calibrationStep _ _ _ _ => true
  | .adcMismatch _ _ => true
  | .housekeepingFrame _ _ _ _ _ _ _ _ => true
  | .periodStart _ => true
  | .drvEnFall _ => true
  | .drvSetupExpiry _ => true
  | .forwardCheck _ _ _ => true
  | .vconvNotReady _ => true
  | .firstGateMark _ _ => true
  | .vbusAbove475 _ => true
  | .guardOn _ _ => true
  | .rampFail _ _ _ => true
  | .fetDamaged _ _ _ => true
  | .ifast _ _ _ _ _ => true
  | .monitorCrossing _ _ _ _ _ => true
  | .limitCounterUpdate _ => true
  | .curveUpdate _ => true
  | .fetShorted _ _ _ _ _ => true
  | .revChkDone _ _ _ => true
  | .trip _ _ _ _ _ => true
  | .retryTExpiry _ => true
  | .dischargeDone _ => true
  | .dischargeFail _ _ => true
  | .monitorAlternation _ _ => true
  | .cspWindowCheck _ _ => true
  | .ifastCheck _ _ _ _ _ => true
  | .monDisagree _ _ _ _ => true
  | .monFailed _ _ => true
  | .monCheckDue _ => true
  | .feedHealthy _ _ => true
  | .feedWindowLoss _ => true
  | .switchover _ _ => true
  | .gapExpiry => true
  | .hotInsertion _ => true
  | .feedOn => true
  | .offerHoldRelease => true
  | .autoReturn => true
  | .feedTrip _ _ _ _ => true
  | .feedRetryExpiry _ => true
  | .feedReverse _ _ => true
  | .busLoss _ => true
  | .busOv _ => true
  | .supplyFault _ _ => true
  | .snapPinEdge _ => true
  | .snapBoundary => true
  | .snapPinDrive => true
  | .holdExpired _ => true
  | .linkTraining _ _ => true
  | .linkDown _ _ => true
  | .cellReceived _ _ x _ => x.wf
  | .cellDelivered _ _ => true
  | .credit _ _ _ => true
  | .assemblyTimeout _ _ => true
  | .sync _ _ => true
  | .syncSend => true
  | .delayReq _ _ => true
  | .holdover => true
  | .hello _ _ _ => true
  | .ownInLoss => true
  | .claimComplete _ => true
  | .yieldOutRelease => true
  | .yieldIn _ => true
  | .takeover _ => true
  | .ownOutToggle _ => true
  | .selvedgeTraining _ => true
  | .selvedgeFrame _ _ b => b.wf
  | .selvedgeRetransmit => true
  | .loopFrameSend _ => true
  | .urgent _ shed => decide (shed.length = 32)
  | .handover _ => true
  | .coldStart _ => true
  | .warmStart _ => true
  | .coreLoadFail _ => true
  | .autoConfirm _ => true
  | .deltaBlock _ => true
  | .updResumed _ => true
  | .hostBoot _ => true
  | .recoveryRom => true
  | .powerOnResetRelease _ _ => true
  | .brownout _ => true
  | .resetNLow _ _ _ => true
  | .clockLoss _ _ => true
  | .sscChange => true
  | .warmStorm => true
  | .watchEntry _ => true
  | .wake _ _ _ => true
  | .wakeTimer => true
  | .safeEntry _ => true
  | .thermalWarn _ => true
  | .thermalShutdown _ => true
  | .twillHeartbeatLoss _ => true
  | .loamHeartbeatLoss => true
  | .twillResync _ => true
  | .scrub _ => true
  | .eccUncorr _ _ _ => true
  | .blockRemapped _ => true
  | .chalkLockstep => true
  | .watchdogExpiry => true
  | .chalkForced _ _ _ => true
  | .engineAutoRetired _ => true
  | .serviceRaise _ => true
  | .testDeferralExpiry _ _ => true
  | .tSenderResponseExpiry _ => true
  | .tVdmSenderResponseExpiry _ => true
  | .supplyRecovered _ => true
  | .busOvCleared => true
  | .busRecovered => true
  | .mirrorLost => true
  | .loopDataStale _ => true
  | .openIdleMet _ => true
  | .vconnPinDischarged _ => true
  | .sinkVbusLoss _ => true
  | .sinkVbusReturn _ _ => true
  | .sinkHardResetTimeout _ => true
  | .notifyMinExpiry _ => true
  | .secondaryClaimWait => true

end Sys2Proof
end

