-- ==== Sys2Proof/Safety.lean ====
section
/-! DEFINITION. What claims mean by a state in order, by what a command may change, and by a run that keeps to it. -/

namespace Sys2Proof.Machine

/-- The register table is in its one form: keys strictly rising, so that equal tables are equal lists. -/
def State.tableOk (s : State) : Prop := (s.regs.map Prod.fst).Pairwise (· < ·)

/-- No ring of packets or event records holds more than its size (R355, R356); ring 0 is decoded as it arrives. -/
def State.ringsOk (s : State) : Prop := ∀ q : Fin 40, q ≠ 0 → (s.ring q).occ ≤ ringSize q

/-- The invariant: both. -/
def State.Inv (s : State) : Prop := s.tableOk ∧ s.ringsOk

/-! ## Areas: what a command may change

A register belongs to its page and, in the page, to the common registers (below offset 0x40), the block's registers, or
the live counters (from offset 0x200): R421, R422, R428.  A port page's register belongs to its port. -/

/-- The three parts of a page. -/
inductive RegClass where
  | common | block | counter
  deriving DecidableEq, Repr

/-- The part of a page that an offset lies in. -/
def regClass (off : Nat) : RegClass := if off < 0x40 then .common else if off < 0x200 then .block else .counter

/-- Number of a part. -/
def RegClass.num : RegClass → Nat
  | .common => 0 | .block => 1 | .counter => 2

/-- The pieces of the state that are neither registers nor port records. -/
inductive Part where
  | dev | rings | mbox | staging | notice | stop | role | island | islandE | returnTick | supply
  | feeds | monRepeat | chipFailed | otp | busV | adcCheck | adcRepeat | calNext | adcCal | svc | planned
  | bud | led | pair | spi | smb | weft | tim | snap | flash | boot | pow
  | polFlash | retiredMask | retiredFeeds | marks | time | frac | up | served2 | freeCount
  /-- rings 0 to 4 and their entries, which are part of `rings` as well -/
  | lowRings
  | islRole | updates
  deriving DecidableEq, Repr

/-- Number of a piece. -/
def Part.num : Part → Nat
  | .dev => 0 | .rings => 1 | .mbox => 2 | .staging => 3 | .notice => 4 | .stop => 5 | .role => 6 | .island => 7
  | .islandE => 8 | .returnTick => 9 | .supply => 10 | .feeds => 11 | .monRepeat => 12 | .chipFailed => 13
  | .otp => 14 | .busV => 15 | .adcCheck => 16 | .adcRepeat => 17 | .calNext => 18 | .adcCal => 19 | .svc => 20
  | .planned => 21 | .bud => 22 | .led => 23 | .pair => 24 | .spi => 25 | .smb => 26 | .weft => 27 | .tim => 28
  | .snap => 29 | .flash => 30 | .boot => 31 | .pow => 32 | .polFlash => 33 | .retiredMask => 34
  | .retiredFeeds => 35 | .marks => 36 | .time => 37 | .frac => 38 | .up => 39 | .served2 => 40 | .freeCount => 41
  | .lowRings => 42 | .islRole => 43 | .updates => 44

/-- An area of the state: registers of a system page; registers of a port page, the command's own port's or any port's; any
register; the own port's record, or any port's; a piece of the rest. -/
inductive Area where
  | sys (page : Nat) (c : RegClass)
  | own (page : Nat) (c : RegClass)
  | all (page : Nat) (c : RegClass)
  | anyReg
  | ownPort
  | allPorts
  | part (x : Part)
  deriving DecidableEq, Repr

abbrev areaAnyReg : Nat := 90
abbrev areaOwnRec : Nat := 91
abbrev areaAllRec : Nat := 92

/-- The area number of a register at an offset of a page. -/
def regArea (own : Bool) (pg off : Nat) : Nat :=
  if pg < 22 then 3 * pg + (regClass off).num
  else if 0x100 ≤ pg ∧ pg < 0x104 then (if own then 66 else 78) + 3 * (pg - 0x100) + (regClass off).num
  else areaAnyReg

/-- The number of an area. -/
def Area.num : Area → Nat
  | .sys pg c => 3 * pg + c.num
  | .own pg c => 66 + 3 * (pg - 0x100) + c.num
  | .all pg c => 78 + 3 * (pg - 0x100) + c.num
  | .anyReg => areaAnyReg
  | .ownPort => areaOwnRec
  | .allPorts => areaAllRec
  | .part x => 93 + x.num

/-- A list of areas as a mask. -/
def areaMask (l : List Area) : Nat := l.foldl (fun m a => m ||| 2 ^ a.num) 0

/-- The field is one of the current curves, an array inside a port page. -/
def fieldArr (F : Field) : Bool := decide (F.page = 0x103 ∧ 0x80 ≤ F.off ∧ F.off < 0xE0)

/-- The mask of a field's registers. -/
def fieldMask (own : Bool) (F : Field) : Nat :=
  if F.off < 1024 ∧ F.lo < 32 then 2 ^ regArea own F.page F.off else 2 ^ areaAnyReg

/-- The port of a key of a port page. -/
def keyPort (k : Nat) : Nat :=
  if k / 2 ^ 25 = 0x103 ∧ 0x80 ≤ k / 2 ^ 15 % 1024 ∧ k / 2 ^ 15 % 1024 < 0xE0 then k % 1024 / 16 else k % 1024

/-- A mask lets the register of a key change, for a command whose own port is `p`. -/
def touch (m p k : Nat) : Bool :=
  m.testBit areaAnyReg || m.testBit (regArea false (k / 2 ^ 25) (k / 2 ^ 15 % 1024))
    || (keyPort k == p && m.testBit (regArea true (k / 2 ^ 25) (k / 2 ^ 15 % 1024)))

/-- What changed from `s0` to `s` lies within the areas of mask `m`, `p` being the command's own port; the register table and
the rings stay in order, and the queue is as it was. -/
structure Within (m p : Nat) (s0 s : State) : Prop where
  table : s0.tableOk → s.tableOk
  ringsFit : s0.ringsOk → s.ringsOk
  queue : s.pending = s0.pending
  regs : ∀ k d, touch m p k = false → s.regs.get k d = s0.regs.get k d
  ports : ∀ q : Port, m.testBit areaAllRec = false → (m.testBit areaOwnRec = false ∨ q.val ≠ p) → s.port q = s0.port q
  dev : m.testBit 93 = false → s.dev = s0.dev
  rings : m.testBit 94 = false → s.rings = s0.rings
  mbox : m.testBit 95 = false → s.mbox = s0.mbox
  staging : m.testBit 96 = false → s.staging = s0.staging
  notice : m.testBit 97 = false → s.notice = s0.notice
  stop : m.testBit 98 = false → s.stop = s0.stop
  role : m.testBit 99 = false → s.role = s0.role
  island : m.testBit 100 = false → s.island = s0.island
  islandE : m.testBit 101 = false → s.islandE = s0.islandE
  returnTick : m.testBit 102 = false → s.returnTick = s0.returnTick
  supply : m.testBit 103 = false → s.supply = s0.supply
  feeds : m.testBit 104 = false → s.feeds = s0.feeds
  monRepeat : m.testBit 105 = false → s.monRepeat = s0.monRepeat
  chipFailed : m.testBit 106 = false → s.chipFailed = s0.chipFailed
  otp : m.testBit 107 = false → s.otp = s0.otp
  busV : m.testBit 108 = false → s.busV = s0.busV
  adcCheck : m.testBit 109 = false → s.adcCheck = s0.adcCheck
  adcRepeat : m.testBit 110 = false → s.adcRepeat = s0.adcRepeat
  calNext : m.testBit 111 = false → s.calNext = s0.calNext
  adcCal : m.testBit 112 = false → s.adcCal = s0.adcCal
  svc : m.testBit 113 = false → s.svc = s0.svc
  planned : m.testBit 114 = false → s.planned = s0.planned
  bud : m.testBit 115 = false → s.bud = s0.bud
  led : m.testBit 116 = false → s.led = s0.led
  pair : m.testBit 117 = false → s.pair = s0.pair
  spi : m.testBit 118 = false → s.spi = s0.spi
  smb : m.testBit 119 = false → s.smb = s0.smb
  weft : m.testBit 120 = false → s.weft = s0.weft
  tim : m.testBit 121 = false → s.tim = s0.tim
  snap : m.testBit 122 = false → s.snap = s0.snap
  flash : m.testBit 123 = false → s.flash = s0.flash
  boot : m.testBit 124 = false → s.boot = s0.boot
  pow : m.testBit 125 = false → s.pow = s0.pow
  polFlash : m.testBit 126 = false → s.polFlash = s0.polFlash
  retiredMask : m.testBit 127 = false → s.retiredMask = s0.retiredMask
  retiredFeeds : m.testBit 128 = false → s.retiredFeeds = s0.retiredFeeds
  marks : m.testBit 129 = false → s.marks = s0.marks
  time : m.testBit 130 = false → s.time = s0.time
  frac : m.testBit 131 = false → s.frac = s0.frac
  up : m.testBit 132 = false → s.up = s0.up
  served2 : m.testBit 133 = false → s.served2 = s0.served2
  freeCount : m.testBit 134 = false → s.freeCount = s0.freeCount
  islRole : m.testBit 136 = false → s.islRole = s0.islRole
  updates : m.testBit 137 = false → s.updates = s0.updates
  lowRings : m.testBit 135 = false → ∀ q : Fin 40, q.val < 5 → s.ring q = s0.ring q

/-! ## Answers -/

/-- The port answers its partner and may send at once: attached, with PD on, its Twill at work, nothing of its own waiting or
being sent, and no transition or power swap past its Accept (R68, R81, R84, R92, R99). -/
def State.listens (s : State) (p : Port) : Bool :=
  let y := (s.port p).phy
  s.on CC.ATTACHED p && s.on PD.PD_EN p && s.twillOn p && !y.hrOnly && y.tx.isNone && y.outbox.isEmpty && y.chunkTx.isNone
    && !y.hrPending && !y.cableResetPending && !s.cacheWaits p && !s.pastAccept p && !s.powerSwapping p

/-- The message is the one that the port has yet to handle: alone in its receive slots, or brought by the command (R82). -/
def State.unread (s : State) (p : Port) (m : PdMsg) : Bool :=
  match (s.port p).phy.rx with
  | [] => true
  | [x] => x.frame.msg == m
  | _ => false

/-- The state from which the port starts a new attach, as sink or as source where its role leaves the choice (R37, R39). -/
def State.startState (s : State) (p : Port) (snk : Bool) : Nat :=
  if !s.enabled p || s.rd CC.ROLE p == 0 then tcDisabled
  else if s.rd CC.ROLE p = 2 ∨ (s.rd CC.ROLE p = 3 ∧ snk = true) then tcUnattachedSnk else tcUnattachedSrc

/-- From `s` to `t` the port has put message `m` with body `b` into its transmit buffer, under the next MessageID of SOP
(R81, R84). -/
def Sends (p : Port) (m : PdMsg) (b : Body) (s t : State) : Prop :=
  (t.port p).phy.tx = some ⟨.sop, m, BitVec.ofNat 3 (s.rd (txId .sop) p), none, b⟩

/-- From `s` to `t` the port has refused a message: Not_Supported at Revision 3.x, Reject at 2.0, and counted it (R93, R97). -/
def Refuses (p : Port) (s t : State) : Prop :=
  Sends p (if s.rev3 p then .notSupported else .reject) .none s t ∧
    t.rd PD.NOT_SUPPORTED_CNT p = min (s.rd PD.NOT_SUPPORTED_CNT p + 1) (2 ^ 32 - 1)

/-- From `s` to `t` the port has answered a query that exists at Revision 3.x only: at 2.0 it refuses (R93). -/
def Answers3 (p : Port) (m : PdMsg) (b : Body) (s t : State) : Prop :=
  (s.rev2 p = true → Refuses p s t) ∧ (s.rev2 p = false → Sends p m b s t)

/-- The packet asks for its response, over this device's own rings, and ring 4 has room for one with that payload (R356,
R363). -/
def AwaitsResponse (k : Packet) (payload : List Byte) (s : State) : Prop :=
  k.origin = none ∧ k.flags.toNat % 2 = 0 ∧ (s.ring 4).occ + packetGranules { k with payload := payload } ≤ ringSize 4

/-- From `s` to `t` ring 4 has gained the response to packet `k`: same tag, opcode and target, the status, the payload
(R363). The ARG word and the sequence number are left open. -/
def Responded (k : Packet) (status : Nat) (payload : List Byte) (s t : State) : Prop :=
  ∃ (a : Word) (n : Nat), (t.ring 4).entries =
    (s.ring 4).entries ++ [.pkt { k with flags := BitVec.ofNat 8 status, arg := a, payload := payload } n]

/-- The command that a packet's OPCODE names (R15); `e` is what a command that programs OTP words meets. -/
def commandOf (k : Packet) (e : OtpEnv) : Option Instr :=
  match k.op.toNat with
  | 0x00 => some (.nop k)
  | 0x01 => some (.getInfo k)
  | 0x02 => some (.setPolicy k)
  | 0x03 => some (.getPolicy k)
  | 0x04 => some (.snapshot k)
  | 0x05 => some (.readSnap k)
  | 0x06 => some (.timeSet k)
  | 0x07 => some (.timeGet k)
  | 0x08 => some (.warmReset k)
  | 0x10 => some (.portEnable k)
  | 0x11 => some (.portDisable k)
  | 0x12 => some (.portSetProfile k)
  | 0x13 => some (.portGetState k)
  | 0x14 => some (.portSwap k)
  | 0x15 => some (.portHardReset k)
  | 0x16 => some (.portSendVdm k)
  | 0x17 => some (.portClearFault k)
  | 0x18 => some (.portTest k)
  | 0x30 => some (.ledgerRead k)
  | 0x31 => some (.ledgerFind k)
  | 0x32 => some (.ledgerWriteUser k)
  | 0x33 => some (.ledgerExport k)
  | 0x34 => some (.ledgerPurge k)
  | 0x40 => some (.updBegin k)
  | 0x41 => some (.updData k)
  | 0x42 => some (.updEnd k 0)
  | 0x43 => some (.updStatus k)
  | 0x44 => some (.updCommit k e)
  | 0x45 => some (.updAbort k)
  | 0x46 => some (.coreReload k)
  | 0x47 => some (.coreRetire k)
  | 0x50 => some (.otpRead k)
  | 0x51 => some (.otpProgram k e)
  | 0x52 => some (.otpLock k)
  | 0x53 => some (.otpMarginScan k)
  | 0x60 => some (.pairEnrol k)
  | 0x61 => some (.pairStatus k)
  | 0x62 => some (.pairHandover k)
  | 0x63 => some (.pairLeave k)
  | 0x70 => some (.weftSend k)
  | 0x71 => some (.weftRoute k)
  | 0x72 => some (.weftStatus k)
  | _ => none

/-! ## What each command may change -/

/-- Registers of the system pages given by number (R420): of their common part, of their block part, and counters. -/
def onSys (c b n : List Nat) : List Area := c.map (.sys · .common) ++ b.map (.sys · .block) ++ n.map (.sys · .counter)

/-- The same of the command's own port's pages. -/
def onOwn (c b n : List Nat) : List Area := c.map (.own · .common) ++ b.map (.own · .block) ++ n.map (.own · .counter)

/-- The same of every port's pages. -/
def onAll (c b n : List Nat) : List Area := c.map (.all · .common) ++ b.map (.all · .block) ++ n.map (.all · .counter)

/-- Pieces that are neither registers nor port records. -/
def onRest (l : List Part) : List Area := l.map .part

/-- Several lists as one. -/
def those (l : List (List Area)) : List Area := l.flatten

/-- The areas outside which a command changes nothing. -/
def changes : Instr → List Area
  | .nop .. | .getInfo .. | .getPolicy .. | .readSnap .. | .timeGet .. | .portGetState .. | .ledgerRead ..
  | .pairStatus .. | .weftSend .. | .weftRoute .. | .weftStatus .. =>
    those [onSys [6, 9] [9] [6, 9], onRest [.rings, .weft, .freeCount, .lowRings]]
  | .setPolicy .. =>
    those [onSys [6, 9, 10, 13, 15, 17] [9, 10, 13, 15, 17, 20, 21] [6, 9],
      onAll [0x101, 0x102, 0x103] [0x100, 0x101, 0x102, 0x103] [0x101], [.anyReg, .allPorts], onRest [.rings, .role,
      .feeds, .bud, .led, .pair, .weft, .tim, .polFlash, .freeCount, .lowRings]]
  | .snapshot .. =>
    those [onSys [6, 9, 10] [9] [6, 9, 10], onRest [.rings, .weft, .snap, .freeCount, .lowRings]]
  | .timeSet .. =>
    those [onSys [6, 9, 10] [9, 10] [6, 9, 10], onRest [.rings, .weft, .snap, .time, .freeCount, .lowRings]]
  | .warmReset .. =>
    those [onSys [5, 6, 9, 11] [0, 2, 6, 9, 11, 12, 13, 16, 18] [2, 5, 6, 9], onAll [0x101] [0x100, 0x101] [0x101],
      [.anyReg, .allPorts], onRest [.dev, .rings, .mbox, .staging, .notice, .bud, .pair, .spi, .smb, .weft, .snap,
      .boot, .pow, .served2, .freeCount, .lowRings]]
  | .portEnable .. =>
    those [onSys [6, 9] [0, 9] [6, 9], onAll [0x102] [0x100, 0x102] [], [.anyReg, .allPorts], onRest [.rings, .weft,
      .freeCount, .lowRings]]
  | .portDisable .. =>
    those [onSys [6, 9] [0, 9] [6, 9], onAll [0x100, 0x102, 0x103] [0x100, 0x101, 0x102, 0x103] [], [.allPorts], onRest
      [.rings, .pair, .weft, .freeCount, .lowRings]]
  | .portSetProfile .. =>
    those [onSys [6, 9] [9] [6, 9], [.allPorts], onRest [.rings, .pair, .weft, .polFlash, .freeCount, .lowRings]]
  | .portSwap .. =>
    those [onSys [6, 9] [9] [6, 9], onAll [0x101] [0x100, 0x101] [0x101], [.allPorts], onRest [.rings, .pair, .weft,
      .freeCount, .lowRings]]
  | .portHardReset .. =>
    those [onSys [6, 9] [9] [6, 9], onAll [] [0x101] [0x101], [.allPorts], onRest [.rings, .weft, .freeCount,
      .lowRings]]
  | .portSendVdm .. =>
    those [onSys [6, 9] [9] [6, 9], onAll [0x101] [0x100, 0x101] [0x101], [.allPorts], onRest [.rings, .weft,
      .freeCount, .lowRings]]
  | .portClearFault .. =>
    those [onSys [6, 9] [9] [6, 9], onAll [0x100, 0x102, 0x103] [0x100, 0x101, 0x102, 0x103] [], [.allPorts], onRest
      [.rings, .pair, .weft, .retiredMask, .freeCount, .lowRings]]
  | .portTest .. =>
    those [onSys [6, 9] [9, 16] [6, 9], [.allPorts], onRest [.rings, .weft, .freeCount, .lowRings]]
  | .ledgerFind .. | .credit .. =>
    those [onSys [6, 9] [9] [6, 9], [.allPorts], onRest [.rings, .weft, .freeCount, .lowRings]]
  | .ledgerWriteUser .. | .ledgerPurge .. =>
    those [onSys [6, 9] [9, 12] [6, 9], onRest [.rings, .led, .pair, .weft, .freeCount, .lowRings]]
  | .ledgerExport .. =>
    those [onSys [6, 9] [9, 12] [6, 9], [.allPorts], onRest [.rings, .weft, .freeCount, .lowRings]]
  | .updBegin .. | .updData .. | .updEnd .. | .updStatus .. | .updCommit .. | .updAbort .. | .recoveryRom ..
  | .brownout .. | .resetNLow .. =>
    those [onSys [0, 1, 2, 3, 4, 5, 6, 7, 8, 9, 10, 11, 12, 13, 14, 15, 16, 17, 18, 19, 20, 21] [0, 1, 2, 3, 4, 5, 6, 7, 8, 9, 10, 11, 12, 13, 14, 15, 16, 17, 18, 19, 20, 21] [0, 1, 2, 3, 4, 5, 6, 7, 8, 9, 10, 11, 12, 13, 14, 15, 16, 17, 18, 19, 20, 21],
      onOwn [0x100, 0x101, 0x102, 0x103] [0x100, 0x101, 0x102, 0x103] [0x100, 0x101, 0x102, 0x103],
      onAll [0x100, 0x101, 0x102, 0x103] [0x100, 0x101, 0x102, 0x103] [0x100, 0x101, 0x102, 0x103], [.anyReg, .ownPort,
      .allPorts], onRest [.dev, .rings, .mbox, .staging, .notice, .stop, .role, .island, .islandE, .returnTick,
      .supply, .feeds, .monRepeat, .chipFailed, .otp, .busV, .adcCheck, .adcRepeat, .calNext, .adcCal, .svc, .planned,
      .bud, .led, .pair, .spi, .smb, .weft, .tim, .snap, .flash, .boot, .pow, .polFlash, .retiredMask, .retiredFeeds,
      .marks, .time, .frac, .up, .served2, .freeCount, .lowRings, .islRole, .updates]]
  | .coreReload .. =>
    those [onSys [4, 5, 6, 9, 11, 17] [0, 4, 6, 9, 11, 12, 13, 16, 17, 18, 20, 21] [2, 4, 5, 6, 9, 18],
      onAll [0x100, 0x101, 0x102, 0x103] [0x100, 0x101, 0x102, 0x103] [0x101, 0x102], [.anyReg, .allPorts], onRest
      [.dev, .rings, .mbox, .staging, .notice, .svc, .planned, .bud, .pair, .spi, .smb, .weft, .snap, .flash, .boot,
      .pow, .served2, .freeCount, .lowRings]]
  | .coreRetire .. =>
    those [onSys [5, 6, 9] [9, 18, 20] [5, 6, 9, 18], onAll [0x101] [0x100, 0x101, 0x102] [0x101], [.allPorts], onRest
      [.rings, .mbox, .staging, .notice, .planned, .weft, .freeCount, .lowRings]]
  | .otpRead .. =>
    those [onSys [6, 9] [3, 9] [3, 6, 9], onRest [.rings, .weft, .freeCount, .lowRings]]
  | .otpProgram .. =>
    those [onSys [3, 6, 9] [3, 4, 9] [3, 6, 9], [.allPorts], onRest [.rings, .otp, .weft, .freeCount, .lowRings]]
  | .otpLock .. =>
    those [onSys [3, 6, 9] [3, 9] [3, 6, 9], [.allPorts], onRest [.rings, .otp, .weft, .freeCount, .lowRings]]
  | .otpMarginScan .. =>
    those [onSys [3, 6, 9] [3, 9] [3, 6, 9], [.allPorts], onRest [.rings, .weft, .freeCount, .lowRings]]
  | .pairEnrol .. | .pairLeave .. | .yieldIn .. =>
    those [onSys [6, 9, 11, 21] [9, 11, 12, 13, 21] [6, 9, 11],
      onAll [0x101, 0x102] [0x100, 0x101, 0x102, 0x103] [0x101, 0x102], [.allPorts], onRest [.rings, .feeds, .pair,
      .weft, .freeCount, .lowRings]]
  | .pairHandover .. =>
    those [onSys [6, 9] [9, 11] [6, 9], onRest [.rings, .pair, .weft, .freeCount, .lowRings]]
  | .stopPort .. | .stopGroup .. | .stopAll .. | .shedTo .. | .release .. =>
    those [onSys [6, 9, 15] [6, 9, 15, 21] [6, 9, 11, 15],
      onAll [0x100, 0x102, 0x103] [0x100, 0x101, 0x102, 0x103] [0x102], [.allPorts], onRest [.rings, .stop, .pair,
      .weft, .freeCount, .lowRings]]
  | .spiRead .. | .qread .. =>
    those [onSys [7] [7] [7], onRest [.mbox, .spi, .tim, .freeCount]]
  | .spiWrite .. | .qwrite .. | .registerWrite .. | .windowWrite .. =>
    those [onSys [2, 5, 6, 7, 9, 10, 11, 13, 15, 16, 17, 19, 21] [0, 2, 6, 7, 8, 9, 10, 11, 12, 13, 14, 15, 16, 17, 18, 20, 21] [2, 5, 6, 7, 8, 9, 12, 16],
      onAll [0x100, 0x101, 0x102, 0x103] [0x100, 0x101, 0x102, 0x103] [0x101, 0x102], [.anyReg, .allPorts], onRest
      [.dev, .rings, .mbox, .staging, .notice, .island, .islandE, .returnTick, .feeds, .monRepeat, .chipFailed,
      .adcCheck, .adcRepeat, .calNext, .adcCal, .planned, .bud, .led, .pair, .spi, .smb, .weft, .tim, .snap, .boot,
      .pow, .retiredMask, .retiredFeeds, .served2, .freeCount, .lowRings]]
  | .spiStatus .. =>
    those [onSys [] [] [7], onRest [.spi]]
  | .push .. =>
    those [onSys [6, 7, 9, 15] [6, 7, 9, 15, 21] [6, 7, 9, 11, 15],
      onAll [0x100, 0x102, 0x103] [0x100, 0x101, 0x102, 0x103] [0x102], [.allPorts], onRest [.rings, .stop, .pair,
      .spi, .weft, .freeCount, .lowRings]]
  | .pull .. =>
    those [onSys [6, 7] [7] [6, 7, 8], onRest [.rings, .spi, .smb, .lowRings]]
  | .spiStop .. =>
    those [onSys [6, 9, 15] [6, 7, 9, 15, 21] [6, 7, 9, 11, 15],
      onAll [0x100, 0x102, 0x103] [0x100, 0x101, 0x102, 0x103] [0x102], [.allPorts], onRest [.rings, .stop, .pair,
      .spi, .weft, .freeCount, .lowRings]]
  | .spiUnknownOpcode .. =>
    those [onSys [] [7] [7], onRest [.spi]]
  | .devStatus .. | .portSummary .. | .faultSummary .. =>
    those [onSys [] [] [8], onRest [.smb]]
  | .setPtr .. =>
    those [onSys [8] [8] [8]]
  | .readReg .. =>
    those [onSys [] [8] [8], onRest [.mbox, .smb, .tim]]
  | .writeReg .. =>
    those [onSys [2, 5, 6, 7, 8, 9, 10, 11, 13, 15, 16, 17, 19, 21] [0, 2, 6, 7, 8, 9, 10, 11, 12, 13, 14, 15, 16, 17, 18, 20, 21] [2, 5, 6, 7, 8, 9, 12, 16],
      onAll [0x100, 0x101, 0x102, 0x103] [0x100, 0x101, 0x102, 0x103] [0x101, 0x102], [.anyReg, .allPorts], onRest
      [.dev, .rings, .mbox, .staging, .notice, .island, .islandE, .returnTick, .feeds, .monRepeat, .chipFailed,
      .adcCheck, .adcRepeat, .calNext, .adcCal, .planned, .bud, .led, .pair, .spi, .smb, .weft, .tim, .snap, .boot,
      .pow, .retiredMask, .retiredFeeds, .served2, .freeCount, .lowRings]]
  | .pushFrag .. =>
    those [onSys [6, 8, 9, 15] [6, 8, 9, 15, 21] [6, 8, 9, 11, 15],
      onAll [0x100, 0x102, 0x103] [0x100, 0x101, 0x102, 0x103] [0x102], [.allPorts], onRest [.rings, .stop, .pair,
      .smb, .weft, .freeCount, .lowRings]]
  | .pullFragNext .. | .pullFragAgain .. | .pullFragRestart .. =>
    those [onSys [6] [8] [6, 8], [.allPorts], onRest [.rings, .spi, .smb, .lowRings]]
  | .smbStop .. =>
    those [onSys [6, 8, 9, 15] [6, 8, 9, 15, 21] [6, 8, 9, 11, 15],
      onAll [0x100, 0x102, 0x103] [0x100, 0x101, 0x102, 0x103] [0x102], [.allPorts], onRest [.rings, .stop, .pair,
      .weft, .freeCount, .lowRings]]
  | .smbUnknownCommand .. =>
    those [onSys [] [8] [8]]
  | .smbProtocolError .. | .smbSclTimeout .. =>
    those [onSys [8] [] [8]]
  | .smbStretchLimit .. =>
    those [onSys [6] [8] [6, 8], [.allPorts], onRest [.rings, .mbox, .spi, .smb, .tim, .lowRings]]
  | .fragAssemblyTimeout .. | .clearAsm .. =>
    those [onSys [] [8] [8], onRest [.smb]]
  | .fragDeliveryTimeout .. =>
    those [onRest [.rings, .smb, .lowRings]]
  | .recover .. | .hostNotify .. | .notifyRetry .. | .notifyMinExpiry .. =>
    those [onSys [8] [8] [8], onRest [.smb]]
  | .smbWatchWake .. =>
    those [onSys [] [2] [8], onRest [.dev]]
  | .spiWake .. | .wakeTimer .. =>
    those [onSys [] [2] [], onRest [.dev]]
  | .irqRepulse .. =>
    those [onRest [.spi]]
  | .irqStatClear .. | .irqForce .. | .pageLock .. | .blockReset .. | .pageEnableWrite .. =>
    those [onSys [6, 9, 16, 17] [8, 9, 16, 17, 18, 20] [6, 9], onAll [] [0x102, 0x103] [], [.anyReg, .allPorts], onRest
      [.rings, .spi, .smb, .weft, .tim, .freeCount, .lowRings]]
  | .modeWrite .. =>
    those [onOwn [0x102] [0x102] [], [.ownPort]]
  | .periodWrite .. =>
    those [onSys [21] [21] [], onOwn [] [0x102] [], [.ownPort]]
  | .phaseWrite .. | .tSinktxExpiry .. | .rampComplete .. | .probeStart .. =>
    those [[.ownPort]]
  | .satFlagsClear .. | .plausAlarmRelease .. =>
    those [onOwn [] [0x102] []]
  | .softStart .. | .openCmd .. | .prSwapPartnerPsRdy .. | .prSwapSinkPsRdy .. | .vconvNotReady .. =>
    those [onSys [6, 9] [9] [6, 9], onOwn [0x100, 0x102, 0x103] [0x100, 0x101, 0x102, 0x103] [0x103], [.ownPort],
      onRest [.rings, .pair, .weft, .freeCount, .lowRings]]
  | .closeMatched .. =>
    those [onSys [6] [] [6], onOwn [0x103] [0x103] [0x103], [.ownPort], onRest [.rings, .freeCount]]
  | .openLow .. | .openIdle .. | .dischargeFail .. =>
    those [onSys [6] [] [6], onOwn [0x103] [0x103] [0x103], [.ownPort], onRest [.rings]]
  | .commitA .. | .commitB .. =>
    those [onOwn [0x103] [0x103] []]
  | .feedCommitA .. | .feedCommitB .. =>
    those [onSys [13] [13] []]
  | .clearA .. | .clearB .. =>
    those [onSys [] [13] [], onRest [.feeds, .retiredFeeds]]
  | .forceCmd .. =>
    those [onSys [13, 15] [13, 15] [], onRest [.feeds]]
  | .cableReset .. =>
    those [onOwn [] [0x101] [0x101], [.ownPort]]
  | .hardReset .. | .sinktxokRead .. | .ppsUndervoltage .. | .eprExitTimeout .. | .tVconnSourceTimeoutExpiry .. =>
    those [onOwn [] [0x101] [], [.ownPort]]
  | .softReset .. | .twillResync .. =>
    those [onSys [6, 9] [9] [6, 9], onOwn [0x101] [0x100, 0x101] [0x101], [.ownPort, .allPorts], onRest [.rings, .weft,
      .freeCount, .lowRings]]
  | .warm .. | .safeEnter .. | .safeExit .. =>
    those [onSys [2, 5, 6, 9, 11, 17, 21] [0, 2, 6, 9, 11, 12, 13, 14, 16, 17, 18, 20, 21] [2, 5, 6, 9],
      onAll [0x100, 0x101, 0x102, 0x103] [0x100, 0x101, 0x102, 0x103] [0x101, 0x102], [.anyReg, .allPorts], onRest
      [.dev, .rings, .mbox, .staging, .notice, .island, .islandE, .returnTick, .feeds, .monRepeat, .chipFailed,
      .adcCheck, .adcRepeat, .calNext, .adcCal, .planned, .bud, .pair, .spi, .smb, .weft, .tim, .snap, .boot, .pow,
      .served2, .freeCount, .lowRings]]
  | .req .. =>
    those [onSys [6, 9, 10] [9] [6, 9], onRest [.rings, .weft, .snap, .freeCount, .lowRings]]
  | .mbist .. =>
    those [onSys [6, 12, 16, 17] [12, 16, 17, 18, 20] [6, 12], onAll [] [0x102, 0x103] [], [.allPorts], onRest [.rings,
      .svc, .led]]
  | .adcRequalification .. =>
    those [onSys [6, 16, 17] [14, 16, 17, 18, 20] [6], onAll [] [0x102, 0x103] [], [.allPorts], onRest [.rings, .pair]]
  | .scrubPass .. =>
    those [onSys [6, 16, 17] [16, 17, 18, 20] [6, 16], onAll [] [0x102, 0x103] [], [.allPorts], onRest [.rings]]
  | .mailboxCommit .. =>
    those [onSys [5] [2, 18] [5], [.allPorts], onRest [.dev, .mbox, .staging, .notice]]
  | .mailboxRead .. =>
    those [onRest [.mbox]]
  | .timeLoRead .. | .syncSend .. =>
    those [onRest [.tim]]
  | .ccOvpClear .. | .rdDetected .. | .rpDetected .. | .tDrpToggle .. | .tErrorRecoveryExpiry .. =>
    those [onOwn [] [0x100] [], [.ownPort]]
  | .vconnForceOff .. | .sourceCapabilitiesSent .. | .tSourceCapabilityExpiry .. | .swapRepeat ..
  | .tSwapSourceStartExpiry .. =>
    those [onOwn [0x101] [0x100, 0x101] [0x101], [.ownPort, .allPorts], onRest [.pair]]
  | .commandDispatch .. =>
    those [onSys [3, 4, 5, 6, 9, 10, 11, 13, 15, 17, 21] [0, 2, 3, 4, 6, 9, 10, 11, 12, 13, 15, 16, 17, 18, 20, 21] [2, 3, 4, 5, 6, 9, 10, 11, 18],
      onAll [0x100, 0x101, 0x102, 0x103] [0x100, 0x101, 0x102, 0x103] [0x101, 0x102], [.anyReg, .allPorts], onRest
      [.dev, .rings, .mbox, .staging, .notice, .role, .feeds, .otp, .svc, .planned, .bud, .led, .pair, .spi, .smb,
      .weft, .tim, .snap, .flash, .boot, .pow, .polFlash, .retiredMask, .time, .served2, .freeCount, .lowRings]]
  | .eventRecordWrite .. =>
    those [onSys [6] [] [6], onRest [.rings, .lowRings]]
  | .ringThrottleTick .. =>
    those [onRest [.rings, .lowRings]]
  | .mailboxAborted .. =>
    those [onSys [5] [] [5], onRest [.mbox, .staging, .notice]]
  | .doorbellWake .. =>
    those [onSys [] [2, 18] [5], onRest [.dev]]
  | .tCcdebounceExpiry .. | .tryTimerExpiry .. =>
    those [onOwn [0x100] [0x100, 0x101, 0x102] [0x100], [.ownPort], onRest [.pair]]
  | .tPddebounceExpiry .. | .detachInTransition .. | .sinkVbusLoss .. | .sinkVbusReturn ..
  | .sinkHardResetTimeout .. =>
    those [onSys [6, 9] [9] [6, 9], onOwn [0x100, 0x102, 0x103] [0x100, 0x101, 0x102, 0x103] [0x100], [.ownPort,
      .allPorts], onRest [.rings, .pair, .weft, .freeCount, .lowRings]]
  | .rpValueChange .. =>
    those [onOwn [0x100] [0x100, 0x101, 0x102] []]
  | .ccOpenQ .. =>
    those [onOwn [0x100, 0x102] [0x100, 0x102] [0x102]]
  | .ccOpenQRelease .. =>
    those [onSys [] [15] [], onOwn [0x100, 0x101] [0x100, 0x101, 0x102] [0x101], [.ownPort, .allPorts]]
  | .ccGlitch .. =>
    those [onOwn [] [] [0x100]]
  | .fastDetachOpening .. =>
    those [onOwn [0x103] [0x100, 0x102, 0x103] [0x100], [.ownPort]]
  | .sinkCcOpen .. =>
    those [onOwn [0x100] [0x100, 0x102] []]
  | .vconnOcp .. =>
    those [onOwn [0x100, 0x101] [0x100, 0x101] [0x100, 0x101], [.ownPort, .allPorts], onRest [.pair]]
  | .vconnReclose .. | .vconnClaim .. =>
    those [onOwn [0x100] [0x100, 0x101] [0x100], [.ownPort], onRest [.pair]]
  | .vconnRev .. =>
    those [onOwn [0x100, 0x101] [0x100, 0x101] [0x101], [.ownPort, .allPorts], onRest [.pair]]
  | .cableDiscoveryAttempt .. =>
    those [onSys [6] [] [6], onOwn [0x100, 0x101] [0x100, 0x101] [0x100, 0x101], [.ownPort, .allPorts], onRest [.rings,
      .pair]]
  | .ccOvp .. =>
    those [onSys [6, 9] [9, 21] [6, 9], onOwn [0x100, 0x102, 0x103] [0x100, 0x101, 0x102, 0x103] [0x100, 0x102, 0x103],
      [.ownPort], onRest [.rings, .pair, .weft, .retiredMask, .freeCount, .lowRings]]
  | .watchSample .. =>
    those [onSys [] [2, 13] [], onAll [] [0x103] [0x103], onRest [.dev]]
  | .frameReceived .. | .tReceiveExpiry .. | .chunkReceived .. | .tChunkingNotSupportedExpiry ..
  | .refusedMessage .. | .discoverIdentitySop .. | .structuredVdmRequest .. | .getBatteryCap ..
  | .getManufacturerInfo .. | .getSinkCap .. | .getSourceCap .. | .getStatus .. | .getPpsStatus ..
  | .getSourceInfo .. | .getRevision .. | .request .. | .eprRequest .. | .sourceCapabilitiesReceived ..
  | .sinkAcceptReceived .. | .eprModeEnter .. | .eprModeExit .. | .eprKeepalive .. | .softResetReceived ..
  | .prSwap .. | .drSwap .. | .vconnSwap .. | .prSwapSourceAccepted .. | .frSwap .. =>
    those [onSys [6, 9] [9, 15] [6, 9], onOwn [0x100, 0x101, 0x102, 0x103] [0x100, 0x101, 0x102, 0x103] [0x100, 0x101],
      [.ownPort, .allPorts], onRest [.rings, .pair, .weft, .freeCount, .lowRings]]
  | .frameTransmit .. | .sinkKeepaliveInterval .. | .batteryStatusRefresh .. | .vconnPinDischarged .. =>
    those [onOwn [0x101] [0x100, 0x101] [0x101], [.ownPort, .allPorts]]
  | .goodcrcReceived .. =>
    those [onSys [6, 12] [12, 15] [6, 12], onOwn [0x101, 0x102] [0x100, 0x101, 0x102, 0x103] [0x101], [.ownPort,
      .allPorts], onRest [.rings, .led, .pair]]
  | .hardResetReceived .. | .hardResetSent .. | .tSenderResponseExpiry .. =>
    those [onSys [6, 9] [9] [6, 9], onOwn [0x100, 0x101, 0x102, 0x103] [0x100, 0x101, 0x102, 0x103] [0x101], [.ownPort,
      .allPorts], onRest [.rings, .pair, .weft, .freeCount, .lowRings]]
  | .tChunkSenderResponseExpiry .. =>
    those [onOwn [0x101] [] [0x101], [.ownPort, .allPorts]]
  | .tTypecSinkWaitCapExpiry .. | .tPsTransitionExpiry .. | .vbusBelow4v .. | .tSafe0vExpiry ..
  | .tPsSourceOnExpiry .. | .tPsSourceOffExpiry .. =>
    those [onSys [6, 9] [9] [6, 9], onOwn [0x100, 0x102, 0x103] [0x100, 0x101, 0x102, 0x103] [], [.ownPort], onRest
      [.rings, .pair, .weft, .freeCount, .lowRings]]
  | .sinkPsRdyReceived .. =>
    those [onSys [6, 9, 12] [9, 12, 15] [6, 9, 12],
      onOwn [0x100, 0x101, 0x102, 0x103] [0x100, 0x101, 0x102, 0x103] [0x100, 0x101], [.ownPort, .allPorts], onRest
      [.rings, .led, .pair, .weft, .freeCount, .lowRings]]
  | .tSrcTransitionExpiry .. =>
    those [onSys [6] [] [6], onOwn [0x103] [0x102, 0x103] [0x103], [.ownPort], onRest [.rings]]
  | .vbusSettled .. =>
    those [onSys [] [15] [], onOwn [0x101] [0x100, 0x101, 0x102] [0x101], [.ownPort, .allPorts]]
  | .settleTimeout .. | .tPpsTimeoutExpiry .. | .tSourceEprKeepaliveExpiry .. =>
    those [onSys [6] [] [6], onOwn [] [0x101] [], [.ownPort], onRest [.rings]]
  | .eprAutoExit .. =>
    those [onSys [6] [] [6], onOwn [0x101] [0x100, 0x101] [0x101], [.ownPort, .allPorts], onRest [.rings, .pair]]
  | .tPsHardResetExpiry .. =>
    those [onSys [6] [] [6], onOwn [0x103] [0x100, 0x102, 0x103] [0x103], [.ownPort], onRest [.rings]]
  | .vbusAtVsafe0v .. | .firstGateMark .. | .vbusAbove475 .. | .dischargeDone .. =>
    those [onOwn [] [0x103] [], [.ownPort]]
  | .tSrcRecoverExpiry .. =>
    those [onSys [6, 9] [9] [6, 9], onOwn [0x100, 0x102, 0x103] [0x100, 0x101, 0x102, 0x103] [0x100, 0x103],
      [.ownPort], onRest [.rings, .pair, .weft, .freeCount, .lowRings]]
  | .ownPrSwap .. =>
    those [onOwn [0x101] [0x100, 0x101] [0x101], [.ownPort, .allPorts], onRest [.returnTick, .pair]]
  | .prSwapSourceOff .. =>
    those [onOwn [0x101] [0x100, 0x101, 0x103] [0x101], [.ownPort, .allPorts], onRest [.pair]]
  | .prSwapSinkAccepted .. =>
    those [onSys [6, 9] [9, 15] [6, 9],
      onOwn [0x100, 0x101, 0x102, 0x103] [0x100, 0x101, 0x102, 0x103] [0x100, 0x101, 0x103], [.ownPort, .allPorts],
      onRest [.rings, .pair, .weft, .freeCount, .lowRings]]
  | .frsSignalDetected .. =>
    those [onSys [6] [] [6], onOwn [0x101, 0x102] [0x100, 0x101, 0x102] [0x101], [.ownPort, .allPorts], onRest [.rings,
      .pair]]
  | .frsNoFrSwap .. =>
    those [onSys [6] [] [6], onOwn [] [0x101, 0x102] [], [.ownPort], onRest [.rings]]
  | .bankFrsFire .. =>
    those [onSys [6, 15] [13, 15] [6], onAll [0x102] [0x101, 0x102] [], [.allPorts], onRest [.rings, .island, .islandE,
      .pair, .islRole]]
  | .bankFrsArm .. =>
    those [onSys [] [13] []]
  | .islandEnd .. =>
    those [onSys [6, 15] [13, 15] [6], [.allPorts], onRest [.rings, .island, .pair]]
  | .returnSwap .. =>
    those [onAll [0x101] [0x100, 0x101] [0x101], [.allPorts], onRest [.returnTick, .pair]]
  | .identityGathering .. =>
    those [onSys [6, 12] [12] [6, 12], onOwn [0x101] [0x100, 0x101, 0x102] [0x101], [.ownPort, .allPorts], onRest
      [.rings, .led, .pair]]
  | .authentication .. =>
    those [onSys [6, 12] [12] [6, 12], onOwn [0x101] [0x100, 0x101] [0x101], [.ownPort, .allPorts], onRest [.rings,
      .led, .pair, .freeCount]]
  | .sessionClose .. =>
    those [onSys [6, 12] [12] [6, 12], [.ownPort, .allPorts], onRest [.rings, .led, .pair]]
  | .ledgerJournal .. =>
    those [onSys [6, 12] [] [6, 12], [.allPorts], onRest [.rings, .led]]
  | .ledgerCompaction .. =>
    those [onSys [] [12] [12], [.allPorts], onRest [.led]]
  | .managementTick .. =>
    those [onSys [6, 9, 15, 17] [1, 9, 12, 15, 17, 18, 20, 21] [6, 9, 15],
      onAll [0x100, 0x101, 0x102, 0x103] [0x100, 0x101, 0x102, 0x103] [0x100, 0x101, 0x102, 0x103], [.allPorts], onRest
      [.rings, .islandE, .adcCheck, .bud, .led, .pair, .weft, .retiredMask, .freeCount, .lowRings, .updates]]
  | .offerReadvertise .. =>
    those [onSys [] [] [15], onOwn [0x101] [0x100, 0x101] [0x101], [.ownPort, .allPorts], onRest [.pair]]
  | .selfShed .. | .forcedReadvShed .. =>
    those [onSys [15] [15] [15], onRest [.pair]]
  | .shedExpiry .. =>
    those [onSys [15] [15] [15], [.ownPort], onRest [.pair]]
  | .innerLoopBoundary .. =>
    those [onSys [6, 20, 21] [20, 21] [6, 20, 21], onOwn [0x102] [0x102, 0x103] [0x102], [.ownPort], onRest [.rings,
      .freeCount, .updates]]
  | .coefficientSwap .. =>
    those [onSys [6] [20] [6], onOwn [0x102] [0x102] [0x102], [.ownPort], onRest [.rings]]
  | .tableCrcCheck .. =>
    those [onSys [6, 9, 17, 20] [9, 17, 20, 21] [6, 9, 17, 20],
      onAll [0x100, 0x102, 0x103] [0x100, 0x101, 0x102, 0x103] [0x102], [.allPorts], onRest [.rings, .pair, .weft,
      .freeCount, .lowRings]]
  | .deadlineMiss .. =>
    those [onSys [6, 9, 20] [9, 18, 20, 21] [6, 9, 20],
      onAll [0x100, 0x102, 0x103] [0x100, 0x101, 0x102, 0x103] [0x102], [.allPorts], onRest [.rings, .svc, .pair,
      .weft, .freeCount, .lowRings]]
  | .engineRestored .. =>
    those [onSys [6, 17, 20] [17, 18, 20] [6, 20], onAll [] [0x102, 0x103] [], [.anyReg, .allPorts], onRest [.rings,
      .planned]]
  | .modelOuterStep .. =>
    those [onSys [6] [] [6], onOwn [] [0x102] [], [.ownPort], onRest [.rings]]
  | .plausAlarm .. | .learningWindowEnd .. =>
    those [onSys [6] [] [6], onOwn [] [0x102] [0x102], [.ownPort], onRest [.rings]]
  | .plausAction .. | .forwardCheck .. | .rampFail .. | .fetDamaged .. | .ifast .. | .monitorCrossing ..
  | .limitCounterUpdate .. | .curveUpdate .. | .fetShorted .. | .trip .. =>
    those [onSys [6, 9] [9, 21] [6, 9], onOwn [0x100, 0x102, 0x103] [0x100, 0x101, 0x102, 0x103] [0x102, 0x103],
      [.ownPort], onRest [.rings, .pair, .weft, .retiredMask, .freeCount, .lowRings]]
  | .foldbackClear .. =>
    those [onOwn [] [0x102] [], [.ownPort]]
  | .adcBurst .. =>
    those [onSys [6, 9, 14] [9, 14, 21] [6, 9, 14],
      onOwn [0x100, 0x102, 0x103] [0x100, 0x101, 0x102, 0x103] [0x102, 0x103], [.ownPort], onRest [.rings, .pair,
      .weft, .retiredMask, .freeCount, .lowRings]]
  | .senseStale .. =>
    those [onSys [6, 9, 14] [9, 14, 21] [6, 9, 14],
      onAll [0x100, 0x102, 0x103] [0x100, 0x101, 0x102, 0x103] [0x102, 0x103], [.allPorts], onRest [.rings, .pair,
      .weft, .retiredMask, .freeCount, .lowRings]]
  | .calibrationStep .. =>
    those [onSys [6, 9, 14, 16] [9, 14, 16] [6, 9, 14, 16], [.allPorts], onRest [.rings, .adcRepeat, .calNext, .adcCal,
      .weft, .freeCount, .lowRings]]
  | .adcMismatch .. =>
    those [onSys [6, 9, 14, 16] [9, 14, 16, 21] [6, 9, 16],
      onAll [0x100, 0x102, 0x103] [0x100, 0x101, 0x102, 0x103] [0x102, 0x103], [.allPorts], onRest [.rings, .adcCheck,
      .adcRepeat, .calNext, .adcCal, .svc, .pair, .weft, .retiredMask, .freeCount, .lowRings]]
  | .housekeepingFrame .. =>
    those [onSys [6, 13, 15] [13, 14, 15] [6, 13], onAll [0x101, 0x102] [0x100, 0x101, 0x102] [0x101], [.allPorts],
      onRest [.rings, .island, .islandE, .supply, .feeds, .busV, .pair, .retiredFeeds, .islRole]]
  | .periodStart .. =>
    those [onSys [] [14, 21] [21], onOwn [] [0x103] [], [.ownPort]]
  | .drvEnFall .. =>
    those [onSys [21] [21] []]
  | .drvSetupExpiry .. =>
    those [[.allPorts]]
  | .guardOn .. =>
    those [onSys [6] [15] [6], onOwn [0x101, 0x102, 0x103] [0x100, 0x101, 0x102, 0x103] [0x101, 0x103], [.ownPort,
      .allPorts], onRest [.rings, .pair]]
  | .revChkDone .. =>
    those [onOwn [] [0x103] []]
  | .retryTExpiry .. =>
    those [onSys [6] [] [6], onOwn [] [0x100, 0x103] [0x103], [.ownPort], onRest [.rings]]
  | .monitorAlternation .. =>
    those [onSys [6, 9, 13, 16] [0, 9, 13, 16] [6, 9, 13, 16],
      onAll [0x100, 0x102, 0x103] [0x100, 0x101, 0x102, 0x103] [0x103], [.allPorts], onRest [.rings, .monRepeat,
      .chipFailed, .svc, .pair, .weft, .freeCount, .lowRings]]
  | .cspWindowCheck .. =>
    those [onSys [6, 9, 13, 16] [0, 9, 13, 16] [6, 9, 16],
      onAll [0x100, 0x102, 0x103] [0x100, 0x101, 0x102, 0x103] [0x103], [.allPorts], onRest [.rings, .monRepeat,
      .chipFailed, .svc, .pair, .weft, .freeCount, .lowRings]]
  | .ifastCheck .. =>
    those [onSys [6, 9, 13, 15, 16] [0, 9, 13, 15, 16] [6, 9, 16],
      onAll [0x100, 0x102, 0x103] [0x100, 0x101, 0x102, 0x103] [0x103], [.allPorts], onRest [.rings, .feeds,
      .monRepeat, .chipFailed, .svc, .pair, .weft, .freeCount, .lowRings]]
  | .monDisagree .. =>
    those [onSys [6] [] [6], onOwn [] [0x103] [0x103], [.ownPort], onRest [.rings]]
  | .monFailed .. =>
    those [onSys [6, 9, 13, 15] [0, 9, 13, 15] [6, 9],
      onAll [0x100, 0x102, 0x103] [0x100, 0x101, 0x102, 0x103] [0x103], [.allPorts], onRest [.rings, .feeds,
      .monRepeat, .chipFailed, .svc, .pair, .weft, .freeCount, .lowRings]]
  | .monCheckDue .. =>
    those [onSys [6] [] [6], onOwn [] [0x103] [], [.ownPort], onRest [.rings]]
  | .feedHealthy .. | .feedWindowLoss .. | .autoReturn .. =>
    those [onSys [15] [13, 15] [], onRest [.feeds]]
  | .switchover .. | .hotInsertion .. | .feedTrip .. =>
    those [onSys [6, 13, 15] [13, 15] [6, 13], onRest [.rings, .feeds, .retiredFeeds]]
  | .gapExpiry .. =>
    those [onRest [.feeds]]
  | .feedOn .. =>
    those [onSys [6, 13, 15] [13, 15] [6, 13], [.allPorts], onRest [.rings, .feeds]]
  | .offerHoldRelease .. =>
    those [onSys [15] [15] [], onRest [.feeds, .bud]]
  | .feedRetryExpiry .. =>
    those [onSys [] [13] [], onRest [.feeds]]
  | .feedReverse .. =>
    those [onSys [6, 15] [13, 15] [6, 13], [.allPorts], onRest [.rings, .feeds]]
  | .busLoss .. =>
    those [onSys [6, 13, 15] [13, 15] [6, 13], onAll [0x102] [0x101, 0x102] [], [.allPorts], onRest [.rings, .island,
      .islandE, .feeds, .pair, .islRole]]
  | .busOv .. =>
    those [onSys [6, 13] [13] [6, 13], [.allPorts], onRest [.rings, .supply]]
  | .supplyFault .. =>
    those [onSys [6, 13] [] [6, 13], onAll [0x101] [0x100, 0x101] [0x101], [.allPorts], onRest [.rings, .supply,
      .pair]]
  | .snapPinEdge .. =>
    those [onSys [] [2] [], onRest [.dev, .snap]]
  | .snapBoundary .. =>
    those [onSys [6, 9, 10] [9, 10] [6, 9, 10], onRest [.rings, .weft, .snap, .time, .up, .lowRings]]
  | .snapPinDrive .. =>
    those [onSys [6, 9, 10] [9] [6, 9], onRest [.rings, .weft, .snap, .time, .up, .freeCount, .lowRings]]
  | .holdExpired .. =>
    those [onSys [10] [10] [10]]
  | .linkTraining .. =>
    those [onSys [6, 9] [9] [6], onRest [.rings, .weft]]
  | .linkDown .. =>
    those [onSys [6, 9, 11] [9, 11, 12] [6, 9, 11], onAll [0x101] [0x100, 0x101] [0x101], [.allPorts], onRest [.rings,
      .pair, .weft, .tim, .freeCount, .lowRings]]
  | .cellReceived .. =>
    those [onSys [9] [2, 9] [9], onRest [.dev, .weft]]
  | .cellDelivered .. =>
    those [onSys [6, 9, 15] [2, 6, 9, 15, 18, 21] [5, 6, 9, 10, 11, 15],
      onAll [0x100, 0x102, 0x103] [0x100, 0x101, 0x102, 0x103] [0x102], [.allPorts], onRest [.dev, .rings, .stop,
      .pair, .weft, .snap, .freeCount, .lowRings]]
  | .assemblyTimeout .. =>
    those [onSys [9] [] [9], onRest [.weft]]
  | .sync .. =>
    those [onSys [6, 10] [10] [6, 10], onRest [.rings, .tim, .snap, .time, .freeCount]]
  | .delayReq .. =>
    those [onSys [] [9] [], [.allPorts], onRest [.tim]]
  | .holdover .. =>
    those [onSys [6, 10] [10] [6, 10], onRest [.rings, .tim]]
  | .hello .. =>
    those [onSys [6, 9] [9] [6], onRest [.rings]]
  | .ownInLoss .. | .yieldOutRelease .. | .ownOutToggle .. | .secondaryClaimWait .. =>
    those [onSys [] [11] [], onRest [.pair]]
  | .claimComplete .. =>
    those [onSys [] [11, 13] [], onRest [.pair]]
  | .takeover .. =>
    those [onSys [6, 9, 11, 12, 21] [0, 9, 11, 12, 15, 21] [6, 9, 11, 12, 21],
      onAll [0x100, 0x101, 0x102, 0x103] [0x100, 0x101, 0x102, 0x103] [0x100, 0x101, 0x102], [.allPorts], onRest
      [.rings, .led, .pair, .weft, .freeCount, .lowRings]]
  | .selvedgeTraining .. =>
    those [onSys [6, 11] [11, 12] [6], onAll [0x101] [0x100, 0x101] [0x101], [.allPorts], onRest [.rings, .pair,
      .freeCount]]
  | .selvedgeFrame .. =>
    those [onSys [6, 9, 10, 11, 13, 15, 17] [9, 10, 11, 12, 13, 15, 17, 20, 21] [6, 9, 11],
      onAll [0x100, 0x101, 0x102, 0x103] [0x100, 0x101, 0x102, 0x103] [0x101, 0x102], [.anyReg, .allPorts], onRest
      [.rings, .stop, .role, .island, .feeds, .bud, .led, .pair, .weft, .tim, .polFlash, .retiredMask, .freeCount,
      .lowRings]]
  | .selvedgeRetransmit .. =>
    those [onSys [6, 9, 11] [9, 11, 12] [6, 9, 11], onAll [0x101] [0x100, 0x101] [0x101], [.allPorts], onRest [.rings,
      .pair, .weft, .freeCount, .lowRings]]
  | .loopFrameSend .. =>
    those [onSys [11] [11, 12] [], onAll [0x101] [0x100, 0x101] [0x101], [.allPorts], onRest [.pair]]
  | .urgent .. =>
    those [onSys [6, 9] [9, 15, 21] [6, 9], onAll [0x100, 0x102, 0x103] [0x100, 0x101, 0x102, 0x103] [0x102],
      [.allPorts], onRest [.rings, .stop, .pair, .weft, .freeCount, .lowRings]]
  | .handover .. =>
    those [onSys [6, 9, 11, 12, 21] [0, 9, 11, 12, 13, 15, 21] [6, 9, 11, 12, 21],
      onAll [0x100, 0x101, 0x102, 0x103] [0x100, 0x101, 0x102, 0x103] [0x100, 0x101, 0x102], [.allPorts], onRest
      [.rings, .feeds, .led, .pair, .weft, .freeCount, .lowRings]]
  | .coldStart .. =>
    those [onSys [3, 4, 5, 6, 9, 10, 11, 12, 13, 15, 17, 21] [0, 3, 4, 6, 9, 10, 11, 12, 13, 14, 15, 16, 17, 18, 20, 21] [2, 3, 4, 5, 6, 9, 12, 18],
      onAll [0x100, 0x101, 0x102, 0x103] [0x100, 0x101, 0x102, 0x103] [0x101, 0x102], [.anyReg, .allPorts], onRest
      [.dev, .rings, .mbox, .staging, .notice, .role, .feeds, .chipFailed, .otp, .svc, .planned, .bud, .led, .pair,
      .spi, .smb, .weft, .tim, .snap, .flash, .boot, .pow, .polFlash, .marks, .served2, .freeCount, .lowRings]]
  | .warmStart .. =>
    those [onSys [4, 5, 6, 9, 11, 12, 17] [0, 2, 4, 6, 9, 11, 12, 13, 16, 17, 18, 20, 21] [2, 4, 5, 6, 9, 12, 18],
      onAll [0x100, 0x101, 0x102, 0x103] [0x100, 0x101, 0x102, 0x103] [0x101, 0x102], [.anyReg, .allPorts], onRest
      [.dev, .rings, .mbox, .staging, .notice, .svc, .planned, .bud, .led, .pair, .spi, .smb, .weft, .snap, .flash,
      .boot, .pow, .served2, .freeCount, .lowRings]]
  | .coreLoadFail .. =>
    those [onSys [4, 5, 6, 9, 11] [0, 4, 6, 9, 11, 12, 13, 16, 18, 20, 21] [2, 4, 5, 6, 9, 18],
      onAll [0x100, 0x101, 0x102, 0x103] [0x100, 0x101, 0x102, 0x103] [0x101, 0x102], [.anyReg, .allPorts], onRest
      [.dev, .rings, .mbox, .staging, .notice, .svc, .planned, .bud, .pair, .spi, .smb, .weft, .snap, .flash, .boot,
      .pow, .served2, .freeCount, .lowRings]]
  | .autoConfirm .. =>
    those [onSys [4, 6] [3, 4] [4, 6], onRest [.rings, .otp, .flash]]
  | .deltaBlock .. =>
    those [onSys [4, 6] [4] [4, 6, 12], [.allPorts], onRest [.rings, .led, .flash]]
  | .updResumed .. =>
    those [onSys [4, 6] [4] [4, 6], onRest [.rings, .flash, .boot]]
  | .hostBoot .. =>
    those [onSys [4, 5, 6, 9, 10, 11, 12, 13, 15, 17] [0, 3, 4, 6, 9, 10, 11, 12, 13, 14, 15, 16, 17, 18, 20, 21] [2, 4, 5, 6, 9, 12, 18],
      onAll [0x100, 0x101, 0x102, 0x103] [0x100, 0x101, 0x102, 0x103] [0x101, 0x102], [.anyReg, .allPorts], onRest
      [.dev, .rings, .mbox, .staging, .notice, .role, .feeds, .chipFailed, .otp, .svc, .planned, .bud, .led, .pair,
      .spi, .smb, .weft, .tim, .snap, .flash, .boot, .pow, .marks, .served2, .freeCount, .lowRings]]
  | .powerOnResetRelease .. =>
    those [onSys [] [1, 4, 8] []]
  | .clockLoss .. =>
    those [onSys [1, 2, 5, 6, 9, 11, 21] [0, 1, 2, 6, 9, 11, 12, 13, 16, 18, 21] [2, 5, 6, 9],
      onAll [0x100, 0x101, 0x102, 0x103] [0x100, 0x101, 0x102, 0x103] [0x101, 0x102], [.anyReg, .allPorts], onRest
      [.dev, .rings, .mbox, .staging, .notice, .island, .islandE, .returnTick, .feeds, .monRepeat, .adcCheck,
      .adcRepeat, .calNext, .adcCal, .planned, .bud, .pair, .spi, .smb, .weft, .tim, .snap, .boot, .pow, .served2,
      .freeCount, .lowRings]]
  | .sscChange .. =>
    those [onSys [1] [1] [], onRest [.pow]]
  | .warmStorm .. | .safeEntry .. =>
    those [onSys [2, 5, 6, 9, 11, 21] [0, 2, 9, 11, 12, 13, 18, 21] [2, 5, 6, 9],
      onAll [0x100, 0x101, 0x102, 0x103] [0x100, 0x101, 0x102, 0x103] [0x101, 0x102], [.anyReg, .allPorts], onRest
      [.dev, .rings, .mbox, .staging, .notice, .island, .islandE, .returnTick, .feeds, .monRepeat, .adcCheck,
      .adcRepeat, .calNext, .adcCal, .planned, .pair, .weft, .tim, .pow, .freeCount, .lowRings]]
  | .watchEntry .. =>
    those [onSys [6] [0, 1, 2] [2, 6], onAll [] [0x100] [], [.allPorts], onRest [.dev, .rings]]
  | .wake .. =>
    those [onSys [2] [0, 1, 2, 13] [2], onAll [] [0x100, 0x103] [], [.allPorts], onRest [.dev, .feeds]]
  | .thermalWarn .. =>
    those [onSys [2, 6] [14] [2, 6], onRest [.rings, .pow]]
  | .thermalShutdown .. =>
    those [onSys [2, 5, 6, 9, 11, 21] [0, 2, 9, 11, 12, 13, 14, 18, 21] [2, 5, 6, 9],
      onAll [0x100, 0x101, 0x102, 0x103] [0x100, 0x101, 0x102, 0x103] [0x101, 0x102], [.anyReg, .allPorts], onRest
      [.dev, .rings, .mbox, .staging, .notice, .island, .islandE, .returnTick, .feeds, .monRepeat, .adcCheck,
      .adcRepeat, .calNext, .adcCal, .planned, .pair, .weft, .tim, .pow, .freeCount, .lowRings]]
  | .twillHeartbeatLoss .. =>
    those [onSys [5, 6, 9] [9, 18] [5, 6, 9, 18], onAll [] [0x101] [], [.allPorts], onRest [.rings, .mbox, .staging,
      .notice, .svc, .weft, .freeCount, .lowRings]]
  | .loamHeartbeatLoss .. =>
    those [onSys [2, 5, 6, 9, 11, 21] [0, 2, 6, 9, 11, 12, 13, 16, 18, 21] [2, 5, 6, 9, 18],
      onAll [0x100, 0x101, 0x102, 0x103] [0x100, 0x101, 0x102, 0x103] [0x101, 0x102], [.anyReg, .allPorts], onRest
      [.dev, .rings, .mbox, .staging, .notice, .island, .islandE, .returnTick, .feeds, .monRepeat, .adcCheck,
      .adcRepeat, .calNext, .adcCal, .planned, .bud, .pair, .spi, .smb, .weft, .tim, .snap, .boot, .pow, .served2,
      .freeCount, .lowRings]]
  | .scrub .. =>
    those [onSys [] [] [16]]
  | .eccUncorr .. =>
    those [onSys [4, 5, 6, 9, 11, 12, 16, 17, 20] [0, 1, 4, 6, 9, 11, 12, 13, 16, 17, 18, 20, 21] [2, 4, 5, 6, 9, 12, 16, 18, 20],
      onAll [0x100, 0x101, 0x102, 0x103] [0x100, 0x101, 0x102, 0x103] [0x101, 0x102], [.anyReg, .allPorts], onRest
      [.dev, .rings, .mbox, .staging, .notice, .svc, .planned, .bud, .led, .pair, .spi, .smb, .weft, .snap, .flash,
      .boot, .pow, .served2, .freeCount, .lowRings]]
  | .blockRemapped .. =>
    those [onSys [6, 16] [16] [6, 16], onRest [.rings, .svc]]
  | .chalkLockstep .. =>
    those [onSys [5, 6, 17] [17, 18] [5, 6, 17, 18], onRest [.rings, .mbox, .staging, .notice]]
  | .watchdogExpiry .. =>
    those [onSys [2, 5, 6, 9, 11, 21] [0, 2, 6, 9, 11, 12, 13, 16, 18, 21] [2, 5, 6, 9, 17],
      onAll [0x100, 0x101, 0x102, 0x103] [0x100, 0x101, 0x102, 0x103] [0x101, 0x102], [.anyReg, .allPorts], onRest
      [.dev, .rings, .mbox, .staging, .notice, .island, .islandE, .returnTick, .feeds, .monRepeat, .adcCheck,
      .adcRepeat, .calNext, .adcCal, .planned, .bud, .pair, .spi, .smb, .weft, .tim, .snap, .boot, .pow, .served2,
      .freeCount, .lowRings]]
  | .chalkForced .. =>
    those [onSys [6, 9, 17] [9, 17, 21] [6, 9, 17], onOwn [0x100, 0x102, 0x103] [0x100, 0x101, 0x102, 0x103] [0x102],
      [.ownPort], onRest [.rings, .pair, .weft, .freeCount, .lowRings]]
  | .engineAutoRetired .. =>
    those [onSys [5, 6, 9, 17] [9, 18, 20] [5, 6, 9, 17, 18], onAll [0x101] [0x100, 0x101, 0x102] [0x101], [.allPorts],
      onRest [.rings, .mbox, .staging, .notice, .svc, .planned, .weft, .freeCount, .lowRings]]
  | .serviceRaise .. =>
    those [onSys [6] [3, 4] [6], onRest [.rings, .otp, .svc]]
  | .testDeferralExpiry .. =>
    those [onSys [6, 9, 13, 16] [0, 9, 13, 16] [6, 9, 16], onOwn [] [] [0x103],
      onAll [0x100, 0x102, 0x103] [0x100, 0x101, 0x102, 0x103] [0x103], [.ownPort, .allPorts], onRest [.rings,
      .monRepeat, .chipFailed, .svc, .pair, .weft, .freeCount, .lowRings]]
  | .tVdmSenderResponseExpiry .. =>
    those [onSys [6, 9] [9] [6, 9], onOwn [0x100, 0x101] [0x100, 0x101] [0x100, 0x101], [.ownPort, .allPorts], onRest
      [.rings, .pair, .weft, .freeCount, .lowRings]]
  | .supplyRecovered .. =>
    those [onSys [15] [13, 15] [], onRest [.supply, .feeds]]
  | .busOvCleared .. =>
    those [onSys [] [13] [], onRest [.supply]]
  | .busRecovered .. =>
    those [onSys [15] [13, 15] [], [.allPorts], onRest [.feeds]]
  | .mirrorLost .. =>
    those [onSys [11] [11, 12] [], onAll [0x101] [0x100, 0x101] [0x101], [.allPorts]]
  | .loopDataStale .. =>
    those [onSys [] [11] []]
  | .openIdleMet .. =>
    those [onOwn [0x102, 0x103] [0x102, 0x103] [], [.ownPort]]

/-- The number of the command's own port; without one, no area of `changes` speaks of an own port. -/
def ownPortOf : Instr → Nat
  | .modeWrite p _ => p.val
  | .periodWrite p _ => p.val
  | .phaseWrite p _ => p.val
  | .satFlagsClear p _ => p.val
  | .softStart p _ => p.val
  | .closeMatched p _ _ _ => p.val
  | .openCmd p _ => p.val
  | .openLow p _ => p.val
  | .openIdle p _ => p.val
  | .commitA p => p.val
  | .commitB p => p.val
  | .cableReset p => p.val
  | .hardReset p => p.val
  | .softReset p => p.val
  | .ccOvpClear p _ _ => p.val
  | .vconnForceOff p _ => p.val
  | .rdDetected p _ _ => p.val
  | .rpDetected p _ _ => p.val
  | .tCcdebounceExpiry p _ => p.val
  | .tPddebounceExpiry p => p.val
  | .tDrpToggle p => p.val
  | .tryTimerExpiry p _ _ => p.val
  | .tErrorRecoveryExpiry p => p.val
  | .rpValueChange p _ => p.val
  | .ccOpenQ x => x.port.val
  | .ccOpenQRelease p => p.val
  | .ccGlitch x => x.port.val
  | .fastDetachOpening p => p.val
  | .sinkCcOpen p => p.val
  | .vconnOcp p => p.val
  | .vconnReclose p => p.val
  | .vconnRev p => p.val
  | .vconnClaim p => p.val
  | .cableDiscoveryAttempt p _ => p.val
  | .ccOvp p _ _ => p.val
  | .frameReceived p _ _ _ _ _ => p.val
  | .frameTransmit p _ _ => p.val
  | .goodcrcReceived p _ _ => p.val
  | .tReceiveExpiry p => p.val
  | .tSinktxExpiry p => p.val
  | .sinktxokRead p => p.val
  | .hardResetReceived p _ => p.val
  | .hardResetSent p _ => p.val
  | .chunkReceived p _ _ _ _ => p.val
  | .tChunkSenderResponseExpiry p _ => p.val
  | .tChunkingNotSupportedExpiry p => p.val
  | .refusedMessage p _ => p.val
  | .discoverIdentitySop p => p.val
  | .structuredVdmRequest p _ => p.val
  | .getBatteryCap p _ => p.val
  | .getManufacturerInfo p => p.val
  | .getSinkCap p _ => p.val
  | .getSourceCap p _ => p.val
  | .getStatus p => p.val
  | .getPpsStatus p => p.val
  | .getSourceInfo p => p.val
  | .getRevision p => p.val
  | .sourceCapabilitiesSent x => x.port.val
  | .tSourceCapabilityExpiry p => p.val
  | .request p _ => p.val
  | .eprRequest p _ _ => p.val
  | .sourceCapabilitiesReceived p _ _ => p.val
  | .tTypecSinkWaitCapExpiry p => p.val
  | .tPsTransitionExpiry p _ => p.val
  | .sinkAcceptReceived p => p.val
  | .sinkPsRdyReceived p => p.val
  | .tSrcTransitionExpiry p => p.val
  | .rampComplete p => p.val
  | .vbusSettled p _ => p.val
  | .settleTimeout p _ => p.val
  | .ppsUndervoltage p _ => p.val
  | .eprModeEnter p => p.val
  | .eprModeExit p => p.val
  | .eprAutoExit p => p.val
  | .eprExitTimeout p => p.val
  | .eprKeepalive p => p.val
  | .tPpsTimeoutExpiry p => p.val
  | .tSourceEprKeepaliveExpiry p => p.val
  | .sinkKeepaliveInterval x => x.port.val
  | .softResetReceived p _ => p.val
  | .tPsHardResetExpiry p => p.val
  | .vbusBelow4v p => p.val
  | .vbusAtVsafe0v p => p.val
  | .tSrcRecoverExpiry p => p.val
  | .tSafe0vExpiry p => p.val
  | .detachInTransition p => p.val
  | .prSwap p => p.val
  | .drSwap p => p.val
  | .vconnSwap p => p.val
  | .tVconnSourceTimeoutExpiry p => p.val
  | .ownPrSwap p => p.val
  | .swapRepeat p => p.val
  | .prSwapSourceAccepted p => p.val
  | .prSwapSourceOff p => p.val
  | .prSwapPartnerPsRdy p _ _ => p.val
  | .prSwapSinkAccepted p => p.val
  | .prSwapSinkPsRdy p => p.val
  | .tPsSourceOnExpiry p => p.val
  | .tPsSourceOffExpiry p => p.val
  | .tSwapSourceStartExpiry p => p.val
  | .frsSignalDetected p _ => p.val
  | .frSwap p => p.val
  | .frsNoFrSwap p => p.val
  | .identityGathering p _ => p.val
  | .authentication p _ => p.val
  | .batteryStatusRefresh p => p.val
  | .sessionClose p => p.val
  | .offerReadvertise p => p.val
  | .forcedReadvShed p => p.val
  | .shedExpiry p => p.val
  | .innerLoopBoundary p => p.val
  | .coefficientSwap p => p.val
  | .deadlineMiss missed => missed.val
  | .modelOuterStep p => p.val
  | .plausAlarm p => p.val
  | .plausAction p => p.val
  | .plausAlarmRelease p => p.val
  | .foldbackClear p => p.val
  | .learningWindowEnd p => p.val
  | .probeStart p => p.val
  | .adcBurst p _ _ _ _ _ => p.val
  | .periodStart p => p.val
  | .forwardCheck p _ _ => p.val
  | .vconvNotReady p => p.val
  | .firstGateMark p _ => p.val
  | .vbusAbove475 p => p.val
  | .guardOn p _ => p.val
  | .rampFail p _ _ => p.val
  | .fetDamaged p _ _ => p.val
  | .ifast p _ _ _ _ => p.val
  | .monitorCrossing p _ _ _ _ => p.val
  | .limitCounterUpdate p => p.val
  | .curveUpdate p => p.val
  | .fetShorted p _ _ _ _ => p.val
  | .revChkDone p _ _ => p.val
  | .trip p _ _ _ _ => p.val
  | .retryTExpiry p => p.val
  | .dischargeDone p => p.val
  | .dischargeFail p _ => p.val
  | .monDisagree p _ _ _ => p.val
  | .monCheckDue p => p.val
  | .twillResync p => p.val
  | .chalkForced p _ _ => p.val
  | .testDeferralExpiry p _ => p.val
  | .tSenderResponseExpiry p => p.val
  | .tVdmSenderResponseExpiry p => p.val
  | .loopDataStale p => p.val
  | .openIdleMet p => p.val
  | .vconnPinDischarged x => x.port.val
  | .sinkVbusLoss p => p.val
  | .sinkVbusReturn p _ => p.val
  | .sinkHardResetTimeout p => p.val
  | .nop .. | .getInfo .. | .setPolicy .. | .getPolicy .. | .snapshot .. | .readSnap .. | .timeSet .. | .timeGet ..
  | .warmReset .. | .portEnable .. | .portDisable .. | .portSetProfile .. | .portGetState .. | .portSwap ..
  | .portHardReset .. | .portSendVdm .. | .portClearFault .. | .portTest .. | .ledgerRead .. | .ledgerFind ..
  | .ledgerWriteUser .. | .ledgerExport .. | .ledgerPurge .. | .updBegin .. | .updData .. | .updEnd ..
  | .updStatus .. | .updCommit .. | .updAbort .. | .coreReload .. | .coreRetire .. | .otpRead .. | .otpProgram ..
  | .otpLock .. | .otpMarginScan .. | .pairEnrol .. | .pairStatus .. | .pairHandover .. | .pairLeave ..
  | .weftSend .. | .weftRoute .. | .weftStatus .. | .stopPort .. | .stopGroup .. | .stopAll .. | .shedTo ..
  | .release .. | .spiRead .. | .qread .. | .spiWrite .. | .qwrite .. | .spiStatus .. | .push .. | .pull ..
  | .spiStop .. | .spiUnknownOpcode .. | .devStatus .. | .portSummary .. | .faultSummary .. | .setPtr ..
  | .readReg .. | .writeReg .. | .pushFrag .. | .pullFragNext .. | .pullFragAgain .. | .pullFragRestart ..
  | .smbStop .. | .smbUnknownCommand .. | .smbProtocolError .. | .smbSclTimeout .. | .smbStretchLimit ..
  | .fragAssemblyTimeout .. | .fragDeliveryTimeout .. | .recover .. | .clearAsm .. | .hostNotify ..
  | .notifyRetry .. | .smbWatchWake .. | .spiWake .. | .irqRepulse .. | .registerWrite .. | .irqStatClear ..
  | .irqForce .. | .pageLock .. | .blockReset .. | .pageEnableWrite .. | .feedCommitA .. | .feedCommitB ..
  | .clearA .. | .clearB .. | .forceCmd .. | .warm .. | .safeEnter .. | .safeExit .. | .req .. | .mbist ..
  | .adcRequalification .. | .scrubPass .. | .mailboxCommit .. | .mailboxRead .. | .timeLoRead .. | .windowWrite ..
  | .commandDispatch .. | .eventRecordWrite .. | .ringThrottleTick .. | .mailboxAborted .. | .doorbellWake ..
  | .watchSample .. | .bankFrsFire .. | .bankFrsArm .. | .islandEnd .. | .returnSwap .. | .ledgerJournal ..
  | .ledgerCompaction .. | .managementTick .. | .selfShed .. | .tableCrcCheck .. | .engineRestored ..
  | .senseStale .. | .calibrationStep .. | .adcMismatch .. | .housekeepingFrame .. | .drvEnFall ..
  | .drvSetupExpiry .. | .monitorAlternation .. | .cspWindowCheck .. | .ifastCheck .. | .monFailed ..
  | .feedHealthy .. | .feedWindowLoss .. | .switchover .. | .gapExpiry .. | .hotInsertion .. | .feedOn ..
  | .offerHoldRelease .. | .autoReturn .. | .feedTrip .. | .feedRetryExpiry .. | .feedReverse .. | .busLoss ..
  | .busOv .. | .supplyFault .. | .snapPinEdge .. | .snapBoundary .. | .snapPinDrive .. | .holdExpired ..
  | .linkTraining .. | .linkDown .. | .cellReceived .. | .cellDelivered .. | .credit .. | .assemblyTimeout ..
  | .sync .. | .syncSend .. | .delayReq .. | .holdover .. | .hello .. | .ownInLoss .. | .claimComplete ..
  | .yieldOutRelease .. | .yieldIn .. | .takeover .. | .ownOutToggle .. | .selvedgeTraining .. | .selvedgeFrame ..
  | .selvedgeRetransmit .. | .loopFrameSend .. | .urgent .. | .handover .. | .coldStart .. | .warmStart ..
  | .coreLoadFail .. | .autoConfirm .. | .deltaBlock .. | .updResumed .. | .hostBoot .. | .recoveryRom ..
  | .powerOnResetRelease .. | .brownout .. | .resetNLow .. | .clockLoss .. | .sscChange .. | .warmStorm ..
  | .watchEntry .. | .wake .. | .wakeTimer .. | .safeEntry .. | .thermalWarn .. | .thermalShutdown ..
  | .twillHeartbeatLoss .. | .loamHeartbeatLoss .. | .scrub .. | .eccUncorr .. | .blockRemapped ..
  | .chalkLockstep .. | .watchdogExpiry .. | .engineAutoRetired .. | .serviceRaise .. | .supplyRecovered ..
  | .busOvCleared .. | .busRecovered .. | .mirrorLost .. | .notifyMinExpiry .. | .secondaryClaimWait .. => 0

/-! ## Runs -/

/-- A step completes: it answers a next state. -/
def Completes (s : State) : Prop := ∃ t, step s = .next t

/-- A safe run of `k` steps: none of them stops. -/
def SafeRun (k : Nat) (s : State) : Prop := ∃ t, core.run k s = .next t

end Sys2Proof.Machine
end

