-- ==== Sys2Proof/Certificates/Slice0/Obligations.lean ====
section
/-! DEFINITION. The statements for the provers, one `def Obligations.<Name> : Prop` each. A clause of the form `∃ t, exec c s =
.next t ∧ …` says where a command completes and with what result. -/

section

open Sys2Proof Sys2Proof.Machine

/-- For every command c and state s, a step of s with c at the front of its queue is exec c on s with the queue's rest; with an empty queue it is one edge of device time. (R357) -/
def Obligations.StepRunsTheCommandInFront : Prop :=
  (∀ (c : Instr) (s : State), step { s with pending := c :: s.pending } = exec c s) ∧
  (∀ (c : Instr) (l : List Instr) (s : State), s.pending = c :: l → step s = exec c { s with pending := l }) ∧
  (∀ (s : State), s.pending = [] → step s = .next s.timeEdge)

/-- State.reset meets the invariant: an empty register table, no ring holding anything; DEV_STATE is BOOT and the queue is empty. (R422, R428, R491) -/
def Obligations.ResetIsInOrder : Prop :=
  (State.reset.Inv) ∧
  (State.reset.dev = .boot ∧ State.reset.pending = []) ∧
  (∀ (F : Field) (i : Nat), State.reset.rd F i = F.reset.at i)

/-- From every state whose register table is in its one form and whose rings hold no more than their size, a step that answers a next state answers one of which the same holds. (R355, R356, R421) -/
def Obligations.EveryStepKeepsOrder : Prop :=
  ∀ (s t : State), s.Inv → step s = .next t → t.Inv

/-- For every command and state exec answers a next state, with the queue as it was: nothing a command does is a fault or a refusal. (R357) -/
def Obligations.EveryCommandKeepsTheQueue : Prop :=
  ∀ (c : Instr) (s : State), ∃ t, exec c s = .next t ∧ t.pending = s.pending

/-- For every command and state: where exec answers a next state, every register, port record and other piece of the state outside the areas that changes names for the command is as it was; a port command leaves every other port's registers and record alone but where changes says so. The areas are those of the meanings, a page and part at a time (the model's own grouping, Safety.lean). (R18, R421, R422, R428) -/
def Obligations.EveryCommandStaysInItsAreas : Prop :=
  ∀ (c : Instr) (s t : State), exec c s = .next t → Within (areaMask (changes c)) (ownPortOf c) s t

/-- RD_DETECTED reports the level of both pins; with Rd on exactly one and Open or Ra on the other, an Unattached.SRC port that may attach enters AttachWait.SRC with that pin. RP_DETECTED does the same for Rp on a pin and an Unattached.SNK port. T_CCDEBOUNCE_EXPIRY on a port this member drives: AttachWait.SRC with Rd still there becomes Attached.SRC, or Try.SNK on a DRP that prefers the sink role; AttachWait.SNK with Rp and VBUS of 4.75 V or more becomes Attached.SNK, or Try.SRC on a DRP that prefers the source role; TryWait.SNK becomes Attached.SNK. T_PDDEBOUNCE_EXPIRY: an AttachWait or TryWait.SNK whose pins no longer read the partner goes to the state a new attach starts from; an attached port with CC_OPEN_Q whose detach is not suspended is detached. T_DRP_TOGGLE of a driven DRP changes Unattached.SRC for Unattached.SNK and back. TRY_TIMER_EXPIRY: in Try.SRC or TryWait.SRC the debounce with Rd (and VBUS below 0.8 V in TryWait.SRC) attaches as source, and without Rd tDRPTry (VBUS below 0.8 V) or tTryTimeout goes on to TryWait.SNK; in Try.SNK the debounce with Rp and VBUS of 4.75 V attaches as sink, without Rp it goes on to TryWait.SRC; tDRPTryWait with no partner ends both TryWait states. T_ERROR_RECOVERY_EXPIRY of a driven port that nothing holds or has tripped, with no CC_OVP, goes to the state a new attach starts from. (R35, R37, R38, R39, R40, R41, R42, R43, R50, R136) -/
def Obligations.AttachDetectsAndDebounces : Prop :=
  (∀ (p : Port) (v1 : Nat) (v2 : Nat) (s : State), ∃ t, exec (.rdDetected p v1 v2) s = .next t ∧ t.rd CC.CC1_LVL p = s.readLevel p v1 ∧ t.rd CC.CC2_LVL p = s.readLevel p v2) ∧
  (∀ (p : Port) (v1 : Nat) (v2 : Nat) (b : Bool) (s : State), s.tc p = tcUnattachedSrc → s.canAttach p = true → attachPin (s.readLevel p v1, s.readLevel p v2) = some b → ∃ t, exec (.rdDetected p v1 v2) s = .next t ∧ t.tc p = tcAttachWaitSrc ∧ (t.port p).cc.pin = b) ∧
  (∀ (p : Port) (v1 : Nat) (v2 : Nat) (s : State), ∃ t, exec (.rpDetected p v1 v2) s = .next t ∧ t.rd CC.CC1_LVL p = s.readLevel p v1 ∧ t.rd CC.CC2_LVL p = s.readLevel p v2) ∧
  (∀ (p : Port) (v1 : Nat) (v2 : Nat) (b : Bool) (s : State), s.tc p = tcUnattachedSnk → s.canAttach p = true → rpPin (s.readLevel p v1, s.readLevel p v2) = some b → ∃ t, exec (.rpDetected p v1 v2) s = .next t ∧ t.tc p = tcAttachWaitSnk ∧ (t.port p).cc.pin = b) ∧
  (∀ (p : Port) (v : Nat) (s : State), s.drives p = true → s.tc p = tcAttachWaitSrc → (attachPin (s.lvl p)).isSome = true → ¬((s.port p).cc.role = 3 ∧ (s.port p).cc.try_ = 2) → ∃ t, exec (.tCcdebounceExpiry p v) s = .next t ∧ t.on CC.ATTACHED p = true ∧ t.rd CC.PWR_ROLE p = 1 ∧ t.tc p = tcAttachedSrc ∧ t.rd CC.ATTACH_CNT p = min (s.rd CC.ATTACH_CNT p + 1) (2 ^ 32 - 1)) ∧
  (∀ (p : Port) (v : Nat) (s : State), s.drives p = true → s.tc p = tcAttachWaitSrc → (attachPin (s.lvl p)).isSome = true → (s.port p).cc.role = 3 → (s.port p).cc.try_ = 2 → ∃ t, exec (.tCcdebounceExpiry p v) s = .next t ∧ t.tc p = tcTrySnk ∧ (t.port p).cc.pres = .rd) ∧
  (∀ (p : Port) (v : Nat) (s : State), s.drives p = true → s.tc p = tcAttachWaitSnk → (rpPin (s.lvl p)).isSome = true → 4750 ≤ v → ¬((s.port p).cc.role = 3 ∧ (s.port p).cc.try_ = 1) → ∃ t, exec (.tCcdebounceExpiry p v) s = .next t ∧ t.on CC.ATTACHED p = true ∧ t.rd CC.PWR_ROLE p = 2 ∧ t.tc p = tcAttachedSnk ∧ t.rd PD.CONTRACT p = 1 ∧ t.rd CC.ATTACH_CNT p = min (s.rd CC.ATTACH_CNT p + 1) (2 ^ 32 - 1)) ∧
  (∀ (p : Port) (v : Nat) (s : State), s.drives p = true → s.tc p = tcAttachWaitSnk → (rpPin (s.lvl p)).isSome = true → 4750 ≤ v → (s.port p).cc.role = 3 → (s.port p).cc.try_ = 1 → ∃ t, exec (.tCcdebounceExpiry p v) s = .next t ∧ t.tc p = tcTrySrc ∧ (t.port p).cc.pres = rpOf (s.rd CC.RP_SEL p)) ∧
  (∀ (p : Port) (v : Nat) (s : State), s.drives p = true → s.tc p = tcTryWaitSnk → (rpPin (s.lvl p)).isSome = true → 4750 ≤ v → ∃ t, exec (.tCcdebounceExpiry p v) s = .next t ∧ t.on CC.ATTACHED p = true ∧ t.rd CC.PWR_ROLE p = 2 ∧ t.tc p = tcAttachedSnk ∧ t.rd PD.CONTRACT p = 1 ∧ t.rd CC.ATTACH_CNT p = min (s.rd CC.ATTACH_CNT p + 1) (2 ^ 32 - 1)) ∧
  (∀ (p : Port) (s : State), s.tc p = tcAttachWaitSrc → (s.lvl p).1 ≠ 2 → (s.lvl p).2 ≠ 2 → ∃ t, exec (.tPddebounceExpiry p) s = .next t ∧ t.tc p = s.startState p false) ∧
  (∀ (p : Port) (s : State), s.tc p = tcAttachWaitSnk ∨ s.tc p = tcTryWaitSnk → (rpPin (s.lvl p)).isSome = false → ∃ t, exec (.tPddebounceExpiry p) s = .next t ∧ t.tc p = s.startState p true) ∧
  (∀ (p : Port) (s : State), s.tc p = tcAttachedSrc ∨ s.tc p = tcAttachedSnk → s.on CC.ATTACHED p = true → s.on CC.CC_OPEN_Q p = true → s.ccOpenIgnored p = false → ∃ t, exec (.tPddebounceExpiry p) s = .next t ∧ t.on CC.ATTACHED p = false ∧ t.rd PD.CONTRACT p = 0 ∧ t.rd CC.DETACH_CNT p = min (s.rd CC.DETACH_CNT p + 1) (2 ^ 32 - 1)) ∧
  (∀ (p : Port) (s : State), (s.port p).cc.role = 3 → s.drives p = true → s.tc p = tcUnattachedSrc → ∃ t, exec (.tDrpToggle p) s = .next t ∧ t.tc p = s.startState p true) ∧
  (∀ (p : Port) (s : State), (s.port p).cc.role = 3 → s.drives p = true → s.tc p = tcUnattachedSnk → ∃ t, exec (.tDrpToggle p) s = .next t ∧ t.tc p = s.startState p false) ∧
  (∀ (p : Port) (v : Nat) (s : State), s.drives p = true → s.tc p = tcTrySrc ∨ (s.tc p = tcTryWaitSrc ∧ v < 800) → (attachPin (s.lvl p)).isSome = true → ∃ t, exec (.tryTimerExpiry p .tryCcDebounce v) s = .next t ∧ t.on CC.ATTACHED p = true ∧ t.rd CC.PWR_ROLE p = 1 ∧ t.tc p = tcAttachedSrc ∧ t.rd CC.ATTACH_CNT p = min (s.rd CC.ATTACH_CNT p + 1) (2 ^ 32 - 1)) ∧
  (∀ (p : Port) (x : TryTimer) (v : Nat) (s : State), s.drives p = true → s.tc p = tcTrySrc → (attachPin (s.lvl p)).isSome = false → (x = .drpTry ∧ v < 800) ∨ x = .tryTimeout → ∃ t, exec (.tryTimerExpiry p x v) s = .next t ∧ t.tc p = tcTryWaitSnk ∧ (t.port p).cc.pres = .rd) ∧
  (∀ (p : Port) (v : Nat) (s : State), s.drives p = true → s.tc p = tcTrySnk → (rpPin (s.lvl p)).isSome = true → 4750 ≤ v → ∃ t, exec (.tryTimerExpiry p .tryCcDebounce v) s = .next t ∧ t.on CC.ATTACHED p = true ∧ t.rd CC.PWR_ROLE p = 2 ∧ t.tc p = tcAttachedSnk ∧ t.rd PD.CONTRACT p = 1 ∧ t.rd CC.ATTACH_CNT p = min (s.rd CC.ATTACH_CNT p + 1) (2 ^ 32 - 1)) ∧
  (∀ (p : Port) (v : Nat) (s : State), s.drives p = true → s.tc p = tcTrySnk → (rpPin (s.lvl p)).isSome = false → ∃ t, exec (.tryTimerExpiry p .tryCcDebounce v) s = .next t ∧ t.tc p = tcTryWaitSrc ∧ (t.port p).cc.pres = rpOf (s.rd CC.RP_SEL p)) ∧
  (∀ (p : Port) (v : Nat) (s : State), s.drives p = true → (s.tc p = tcTryWaitSrc ∧ (attachPin (s.lvl p)).isSome = false) ∨ (s.tc p = tcTryWaitSnk ∧ (rpPin (s.lvl p)).isSome = false) → ∃ t, exec (.tryTimerExpiry p .drpTryWait v) s = .next t ∧ t.tc p = s.startState p true) ∧
  (∀ (p : Port) (s : State), s.tc p = tcErrorRecovery ∨ s.tc p = tcCcSafe ∨ s.tc p = tcOvpHold → s.tripStands p = false → s.heldSafe p = false → s.on CC.CC_OVP p = false → s.drives p = true → ∃ t, exec (.tErrorRecoveryExpiry p) s = .next t ∧ t.tc p = s.startState p false)

/-- CC_OPEN_Q on an attached port whose own PHY is silent sets the flag, and freezes the ramp of a running source (R50); while the own PHY transmits nothing happens. CC_OPEN_Q_RELEASE clears the flag, and before the switch has opened the freeze. CC_GLITCH of an attached port is counted, but one that the own transmission cancelled is not. FAST_DETACH_OPENING opens a source with CC_OPEN_Q once: V_TARGET 0, VCONN off, FAST_DETACH_CNT counted. SINK_CC_OPEN sets the flag and, unless a swap suspends it, the reverse current to 0. SINK_VBUS_LOSS outside swaps and Hard Resets, and SINK_HARD_RESET_TIMEOUT in the wait for VBUS, detach a sink. SINK_VBUS_RETURN at 4.75 V or more in that wait: with Rp read on a CC line that is not open the port waits for capabilities in the default contract at the Rp current; otherwise it detaches. RP_VALUE_CHANGE to an Rp level: a sink that avoids collisions takes it as SinkTxOK (3.0 A) or SinkTxNG (any other), one without an explicit contract draws that Rp's current. (R45, R46, R48, R50, R51, R52, R85, R134) -/
def Obligations.AttachWatchesTheAttachment : Prop :=
  (∀ (p : Port) (s : State), s.on CC.ATTACHED p = true → ∃ t, exec (.ccOpenQ ⟨p, false⟩) s = .next t ∧ t.on CC.CC_OPEN_Q p = true) ∧
  (∀ (p : Port) (s : State), s.on CC.ATTACHED p = true → s.isSrc p = true → s.ccOpenIgnored p = false → s.running p = true → (s.port p).cc.fastOpened = false → ∃ t, exec (.ccOpenQ ⟨p, false⟩) s = .next t ∧ t.on LOOP.FROZEN p = true) ∧
  (∀ (p : Port) (s : State), exec (.ccOpenQ ⟨p, true⟩) s = .next s) ∧
  (∀ (p : Port) (s : State), ∃ t, exec (.ccOpenQRelease p) s = .next t ∧ t.on CC.CC_OPEN_Q p = false) ∧
  (∀ (p : Port) (s : State), (s.port p).cc.fastOpened = false → ∃ t, exec (.ccOpenQRelease p) s = .next t ∧ t.on LOOP.FROZEN p = false) ∧
  (∀ (p : Port) (s : State), s.on CC.ATTACHED p = true → ∃ t, exec (.ccGlitch ⟨p, false⟩) s = .next t ∧ t.rd CC.CC_GLITCH_CNT p = min (s.rd CC.CC_GLITCH_CNT p + 1) (2 ^ 32 - 1)) ∧
  (∀ (p : Port) (s : State), exec (.ccGlitch ⟨p, true⟩) s = .next s) ∧
  (∀ (p : Port) (s : State), s.isSrc p = true → s.on CC.CC_OPEN_Q p = true → s.ccOpenIgnored p = false → (s.port p).cc.fastOpened = false → ∃ t, exec (.fastDetachOpening p) s = .next t ∧ t.rd LOOP.V_TARGET p = 0 ∧ t.on CC.VCONN_ON p = false ∧ (t.port p).cc.fastOpened = true ∧ t.rd CC.FAST_DETACH_CNT p = min (s.rd CC.FAST_DETACH_CNT p + 1) (2 ^ 32 - 1)) ∧
  (∀ (p : Port) (s : State), s.isSnk p = true → ∃ t, exec (.sinkCcOpen p) s = .next t ∧ t.on CC.CC_OPEN_Q p = true ∧ (s.ccOpenIgnored p = false → t.rd LOOP.I_REV_LIM p = 0)) ∧
  (∀ (p : Port) (s : State), s.isSnk p = true → s.ccOpenIgnored p = false → (s.port p).pe.hr = .none → ∃ t, exec (.sinkVbusLoss p) s = .next t ∧ t.on CC.ATTACHED p = false ∧ t.rd CC.DETACH_CNT p = min (s.rd CC.DETACH_CNT p + 1) (2 ^ 32 - 1)) ∧
  (∀ (p : Port) (s : State), s.isSnk p = true → (s.port p).pe.hr = .sinkWait → ∃ t, exec (.sinkHardResetTimeout p) s = .next t ∧ t.on CC.ATTACHED p = false ∧ t.rd CC.DETACH_CNT p = min (s.rd CC.DETACH_CNT p + 1) (2 ^ 32 - 1)) ∧
  (∀ (p : Port) (v : Nat) (s : State), s.isSnk p = true → (s.port p).pe.hr = .sinkWait → 4750 ≤ v → (rpPin (s.lvl p)).isSome = true → s.on CC.CC_OPEN_Q p = false → ∃ t, exec (.sinkVbusReturn p v) s = .next t ∧ t.rd PD.CONTRACT p = 1 ∧ t.rd PD.PD_STATE p = pdWaitCaps ∧ (t.port p).pe.hr = .none ∧ t.rd LOOP.I_REV_LIM p = rpMa ((if s.on CC.ORIENT p then (s.lvl p).2 else (s.lvl p).1) - 3)) ∧
  (∀ (p : Port) (v : Nat) (s : State), s.isSnk p = true → (s.port p).pe.hr = .sinkWait → 4750 ≤ v → (rpPin (s.lvl p)).isSome = false ∨ s.on CC.CC_OPEN_Q p = true → ∃ t, exec (.sinkVbusReturn p v) s = .next t ∧ t.on CC.ATTACHED p = false ∧ t.rd CC.DETACH_CNT p = min (s.rd CC.DETACH_CNT p + 1) (2 ^ 32 - 1)) ∧
  (∀ (p : Port) (v : Nat) (s : State), s.isSnk p = true → s.avoiding p = true → ∃ t, exec (.rpValueChange p v) s = .next t ∧ t.on PD.RP_TXNG p = decide (s.readLevel p v ≠ 5)) ∧
  (∀ (p : Port) (v : Nat) (s : State), s.isSnk p = true → s.avoiding p = false → s.explicit p = false → 3 ≤ s.readLevel p v → s.readLevel p v ≤ 5 → ∃ t, exec (.rpValueChange p v) s = .next t ∧ t.rd LOOP.I_REV_LIM p = rpMa (s.readLevel p v - 3))

/-- VCONN_OCP and VCONN_REV turn a VCONN that is on off, with their flag; the overcurrent is counted. VCONN_CLAIM of a source, or of a port that VCONN_Swap made VCONN source, with no overcurrent trip yet, and VCONN_RECLOSE after the first: where the switch may close (allowed, Ra read, not forced off, no reverse current seen) and the pool and VCONN_IN permit, VCONN is on with 300 mA reserved; where they do not, VCONN_DENIED is set and counted and the claim waits. VCONN_FORCE_OFF writes the bit; 1 opens the switch and 0 leaves it as it is. VCONN_PIN_DISCHARGED below 0.8 V with VCONN off says that the pin is low, and takes a port from UnattachedWait.SRC to the state a new attach starts from; above 4.75 V a port that has become VCONN source sends PS_RDY. CABLE_DISCOVERY_ATTEMPT: with no reply an attempt starts where one may, and DISC_COUNT counts; an ACK to it concludes discovery (DISC_STATE 2) with the cable's VBUS rating and kind; a NAK leaves it going, or ends it unanswered at the last attempt. CC_OVP sets the flag, opens the CC pins and trips the guard of a port that this member drives, under its cause. CC_OVP_CLEAR with both pins below 5.5 V clears the flag, and leaves it where one is not. (R53, R54, R55, R56, R57, R58, R59, R60, R62, R67, R172, R323) -/
def Obligations.VconnSwitchAndCcProtection : Prop :=
  (∀ (p : Port) (s : State), s.on CC.VCONN_ON p = true → ∃ t, exec (.vconnOcp p) s = .next t ∧ t.on CC.VCONN_ON p = false ∧ t.on CC.VCONN_OCP p = true ∧ (t.port p).cc.ocpTrips = (s.port p).cc.ocpTrips + 1 ∧ t.rd CC.VCONN_OCP_CNT p = min (s.rd CC.VCONN_OCP_CNT p + 1) (2 ^ 32 - 1)) ∧
  (∀ (p : Port) (s : State), s.on CC.VCONN_ON p = true → ∃ t, exec (.vconnRev p) s = .next t ∧ t.on CC.VCONN_ON p = false ∧ t.on CC.VCONN_REV p = true ∧ (t.port p).cc.rev = true) ∧
  (∀ (p : Port) (s : State), (s.port p).cc.ocpTrips = 0 → s.isSrc p = true ∨ (s.on CC.ATTACHED p = true ∧ s.on PD.VCONN_SRC p = true) → s.on CC.VCONN_ON p = false → s.on CC.VCONN_ALLOW p = true → (s.port p).cc.ra = true → s.on CC.VCONN_FORCE_OFF p = false → (s.port p).cc.rev = false → s.vconnSum + 300 ≤ s.act BUDGET.POOL_MA 0 → s.supply.vconnInOut = false → ∃ t, exec (.vconnClaim p) s = .next t ∧ t.on CC.VCONN_ON p = true ∧ t.rd CC.VCONN_RES p = 30 ∧ t.on PD.VCONN_SRC p = true) ∧
  (∀ (p : Port) (s : State), (s.port p).cc.ocpTrips = 0 → s.isSrc p = true ∨ (s.on CC.ATTACHED p = true ∧ s.on PD.VCONN_SRC p = true) → s.on CC.VCONN_ON p = false → s.on CC.VCONN_ALLOW p = true → (s.port p).cc.ra = true → s.on CC.VCONN_FORCE_OFF p = false → (s.port p).cc.rev = false → s.act BUDGET.POOL_MA 0 < s.vconnSum + 300 ∨ s.supply.vconnInOut = true → ∃ t, exec (.vconnClaim p) s = .next t ∧ t.on CC.VCONN_DENIED p = true ∧ (t.port p).cc.claim = true ∧ t.rd CC.VCONN_DENIED_CNT p = min (s.rd CC.VCONN_DENIED_CNT p + 1) (2 ^ 32 - 1)) ∧
  (∀ (p : Port) (s : State), s.on CC.ATTACHED p = true → (s.port p).cc.ocpTrips = 1 → s.on CC.VCONN_ON p = false → s.on CC.VCONN_ALLOW p = true → (s.port p).cc.ra = true → s.on CC.VCONN_FORCE_OFF p = false → (s.port p).cc.rev = false → s.vconnSum + 300 ≤ s.act BUDGET.POOL_MA 0 → s.supply.vconnInOut = false → ∃ t, exec (.vconnReclose p) s = .next t ∧ t.on CC.VCONN_ON p = true ∧ t.rd CC.VCONN_RES p = 30 ∧ t.on PD.VCONN_SRC p = true) ∧
  (∀ (p : Port) (s : State), s.on CC.ATTACHED p = true → (s.port p).cc.ocpTrips = 1 → s.on CC.VCONN_ON p = false → s.on CC.VCONN_ALLOW p = true → (s.port p).cc.ra = true → s.on CC.VCONN_FORCE_OFF p = false → (s.port p).cc.rev = false → s.act BUDGET.POOL_MA 0 < s.vconnSum + 300 ∨ s.supply.vconnInOut = true → ∃ t, exec (.vconnReclose p) s = .next t ∧ t.on CC.VCONN_DENIED p = true ∧ (t.port p).cc.claim = true ∧ t.rd CC.VCONN_DENIED_CNT p = min (s.rd CC.VCONN_DENIED_CNT p + 1) (2 ^ 32 - 1)) ∧
  (∀ (p : Port) (s : State), ∃ t, exec (.vconnForceOff p true) s = .next t ∧ t.on CC.VCONN_FORCE_OFF p = true ∧ t.on CC.VCONN_ON p = false) ∧
  (∀ (p : Port) (s : State), ∃ t, exec (.vconnForceOff p false) s = .next t ∧ t.on CC.VCONN_FORCE_OFF p = false ∧ t.on CC.VCONN_ON p = s.on CC.VCONN_ON p) ∧
  (∀ (p : Port) (v : Nat) (s : State), v < 800 → s.on CC.VCONN_ON p = false → ∃ t, exec (.vconnPinDischarged ⟨p, v⟩) s = .next t ∧ (t.port p).cc.vconnHigh = false ∧ (s.tc p = tcUnattachedWaitSrc → t.tc p = s.startState p false)) ∧
  (∀ (p : Port) (v : Nat) (s : State), 4750 < v → s.listens p = true → (s.port p).pe.await = .none → (s.port p).swap.kind = .vconn → (s.port p).swap.step = .vconnOn → ∃ t, exec (.vconnPinDischarged ⟨p, v⟩) s = .next t ∧ Sends p .psRdy .none s t) ∧
  (∀ (p : Port) (s : State), s.mayDiscover p = true → ∃ t, exec (.cableDiscoveryAttempt p none) s = .next t ∧ t.rd CC.DISC_STATE p = 1 ∧ t.rd CC.DISC_COUNT p = min (s.rd CC.DISC_COUNT p + 1) (2 ^ CC.DISC_COUNT.width - 1)) ∧
  (∀ (p : Port) (a : Bool) (k : Bool) (e : Bool) (i : BitVec 2) (v : BitVec 2) (s : State), (s.port p).pe.await = .cableId → ∃ t, exec (.cableDiscoveryAttempt p (some (.ack a k i v e))) s = .next t ∧ t.rd CC.DISC_STATE p = 2 ∧ t.rd CC.CABLE_VMAX p = v.toNat ∧ t.on CC.ACTIVE p = a) ∧
  (∀ (p : Port) (s : State), (s.port p).pe.await = .cableId → ∃ t, exec (.cableDiscoveryAttempt p (some .nak)) s = .next t ∧ t.rd CC.DISC_STATE p = (if s.rd CC.DISC_STATE p = 1 ∧ nDiscoverIdentityCount ≤ s.rd CC.DISC_COUNT p then 3 else s.rd CC.DISC_STATE p)) ∧
  (∀ (p : Port) (i : Int) (v : Nat) (s : State), s.drives p = true → ∃ t, exec (.ccOvp p i v) s = .next t ∧ t.on CC.CC_OVP p = true ∧ (t.port p).cc.pres = .open_ ∧ t.rd GUARD.CAUSE p = TripCause.ccOvp.code ∧ t.on GUARD.GATE_OFF p = true) ∧
  (∀ (p : Port) (a : Nat) (b : Nat) (s : State), a < 5500 → b < 5500 → ∃ t, exec (.ccOvpClear p a b) s = .next t ∧ t.on CC.CC_OVP p = false ∧ (t.port p).cc.ovpStands = false) ∧
  (∀ (p : Port) (a b : Nat) (s : State), 5500 ≤ a ∨ 5500 ≤ b → exec (.ccOvpClear p a b) s = .next s)

/-- FRAME_RECEIVED on a port whose PHY listens: a damaged frame is counted and dropped, a Debug ordered set and a GoodCRC change nothing; a shadow listener keeps what it hears on SOP. Any other frame, of a SOP type that is heard, with no own Hard Reset pending and not shut out after one: an exact repeat is counted and acknowledged again; with no free slot it is counted as overflow; otherwise it is acknowledged and counted, and its MessageID is stored where no earlier frame waits and Twill handles it by a command of its own; a Soft_Reset clears the MessageIDs of its SOP type instead. FRAME_TRANSMIT of a frame that needs no chunks, from a port that may send at once, puts it into the transmit buffer under the next MessageID: with collision avoidance the first message of an AMS waits tSinkTx behind SinkTxNG on a source, and is HELD on a sink that reads SinkTxNG; otherwise TX_RESULT is BUSY. A Soft_Reset goes under ID 0 and is counted; a longer extended message goes as its first chunk; while BUSY or with the buffer full nothing changes. GOODCRC_RECEIVED with the SOP type and ID of the frame sent counts it and moves the counter (but for PS_RDY, whose power swap may clear it); another ID changes nothing. T_RECEIVE_EXPIRY retries nRetryCount times, then counts the failure. T_SINKTX_EXPIRY ends the wait; SINKTXOK_READ sends what a sink holds; both stamp the frame with the present MessageID. (R71, R72, R74, R75, R76, R77, R78, R81, R84, R85, R87, R94) -/
def Obligations.PhySendsAndReceivesFrames : Prop :=
  (∀ (p : Port) (f : Frame) (n : Nat) (r : BitVec 2) (o : Bool) (s : State), s.phyOn p = true → ∃ t, exec (.frameReceived p f .damaged n r o) s = .next t ∧ (t.port p).phy = (s.port p).phy ∧ t.rd PD.RX_CRC_ERR_CNT p = min (s.rd PD.RX_CRC_ERR_CNT p + 1) (2 ^ 32 - 1)) ∧
  (∀ (p : Port) (f : Frame) (n : Nat) (r : BitVec 2) (o : Bool) (s : State), exec (.frameReceived p f .debug n r o) s = .next s) ∧
  (∀ (p : Port) (f : Frame) (n : Nat) (r : BitVec 2) (o : Bool) (s : State), f.msg = .goodCrc → exec (.frameReceived p f .good n r o) s = .next s) ∧
  (∀ (p : Port) (f : Frame) (n : Nat) (r : BitVec 2) (o : Bool) (s : State), s.phyOn p = true → s.on PD.SHADOW p = true → f.msg ≠ .goodCrc → f.sop = .sop → ∃ t, exec (.frameReceived p f .good n r o) s = .next t ∧ (t.port p).phy.heard = some (⟨f, n, s.time % 2 ^ 32⟩, o)) ∧
  (∀ (p : Port) (f : Frame) (n : Nat) (r : BitVec 2) (o : Bool) (s : State), s.phyOn p = true → s.on PD.SHADOW p = false → f.msg ≠ .goodCrc → s.hears p f.sop = true → (s.port p).phy.hrPending = false → (s.port p).phy.hrOnly = false ∨ (f.msg = .sourceCaps ∧ s.isSrc p = false) → s.on (rxVld f.sop) p = true → s.rd (rxId f.sop) p = f.id.toNat → f.msg ≠ .softReset → ∃ t, exec (.frameReceived p f .good n r o) s = .next t ∧ (t.port p).phy.ack = some (t.goodCrc p f) ∧ t.rd PD.RX_DUP_CNT p = min (s.rd PD.RX_DUP_CNT p + 1) (2 ^ 32 - 1)) ∧
  (∀ (p : Port) (f : Frame) (n : Nat) (r : BitVec 2) (o : Bool) (s : State), s.phyOn p = true → s.on PD.SHADOW p = false → f.msg ≠ .goodCrc → s.hears p f.sop = true → (s.port p).phy.hrPending = false → (s.port p).phy.hrOnly = false ∨ (f.msg = .sourceCaps ∧ s.isSrc p = false) → ¬(s.on (rxVld f.sop) p = true ∧ s.rd (rxId f.sop) p = f.id.toNat ∧ f.msg ≠ .softReset) → s.slotFree p n = false → ∃ t, exec (.frameReceived p f .good n r o) s = .next t ∧ t.rd PD.RX_OVF_CNT p = min (s.rd PD.RX_OVF_CNT p + 1) (2 ^ 32 - 1)) ∧
  (∀ (p : Port) (f : Frame) (n : Nat) (r : BitVec 2) (o : Bool) (s : State), s.phyOn p = true → s.on PD.SHADOW p = false → f.msg ≠ .goodCrc → s.hears p f.sop = true → (s.port p).phy.hrPending = false → (s.port p).phy.hrOnly = false ∨ (f.msg = .sourceCaps ∧ s.isSrc p = false) → ¬(s.on (rxVld f.sop) p = true ∧ s.rd (rxId f.sop) p = f.id.toNat ∧ f.msg ≠ .softReset) → s.slotFree p n = true → ∃ t, exec (.frameReceived p f .good n r o) s = .next t ∧ (t.port p).phy.ack = some (t.goodCrc p f) ∧ t.rd PD.RX_MSG_CNT p = min (s.rd PD.RX_MSG_CNT p + 1) (2 ^ 32 - 1)) ∧
  (∀ (p : Port) (f : Frame) (n : Nat) (r : BitVec 2) (o : Bool) (s : State), s.phyOn p = true → s.on PD.SHADOW p = false → f.msg ≠ .goodCrc → s.hears p f.sop = true → (s.port p).phy.hrPending = false → (s.port p).phy.hrOnly = false ∨ (f.msg = .sourceCaps ∧ s.isSrc p = false) → ¬(s.on (rxVld f.sop) p = true ∧ s.rd (rxId f.sop) p = f.id.toNat ∧ f.msg ≠ .softReset) → s.slotFree p n = true → f.msg ≠ .softReset → (s.port p).phy.rx = [] → s.twillOn p = false ∨ f.chunk.isSome = true → ∃ t, exec (.frameReceived p f .good n r o) s = .next t ∧ t.rd (rxId f.sop) p = f.id.toNat ∧ t.on (rxVld f.sop) p = true) ∧
  (∀ (p : Port) (f : Frame) (n : Nat) (r : BitVec 2) (o : Bool) (s : State), s.phyOn p = true → s.on PD.SHADOW p = false → f.msg ≠ .goodCrc → s.hears p f.sop = true → (s.port p).phy.hrPending = false → (s.port p).phy.hrOnly = false ∨ (f.msg = .sourceCaps ∧ s.isSrc p = false) → ¬(s.on (rxVld f.sop) p = true ∧ s.rd (rxId f.sop) p = f.id.toNat ∧ f.msg ≠ .softReset) → s.slotFree p n = true → f.msg = .softReset → (s.port p).phy.rx = [] → ∃ t, exec (.frameReceived p f .good n r o) s = .next t ∧ t.rd (txId f.sop) p = 0 ∧ t.on (rxVld f.sop) p = false) ∧
  (∀ (p : Port) (f : Frame) (a : Bool) (s : State), s.dev ≠ .warmReset → s.listens p = true → s.hears p f.sop = true → s.rd PD.TX_RESULT p ≠ txBusy → tooLong (extBytes f) f = false → s.firstChunk p f = none → f.msg ≠ .softReset → a = false ∨ s.rd PAIR.PAIR_STATE 0 ≠ psHandover → ∃ t, exec (.frameTransmit p f a) s = .next t ∧ (t.port p).phy.tx = some { f with id := BitVec.ofNat 3 (s.rd (txId f.sop) p) }) ∧
  (∀ (p : Port) (f : Frame) (a : Bool) (s : State), s.dev ≠ .warmReset → s.listens p = true → s.hears p f.sop = true → s.rd PD.TX_RESULT p ≠ txBusy → tooLong (extBytes f) f = false → s.firstChunk p f = none → f.msg ≠ .softReset → a = false ∨ (s.rd PAIR.PAIR_STATE 0 ≠ psHandover ∧ s.avoiding p = false) → ∃ t, exec (.frameTransmit p f a) s = .next t ∧ t.rd PD.TX_RESULT p = txBusy) ∧
  (∀ (p : Port) (f : Frame) (s : State), s.dev ≠ .warmReset → s.listens p = true → s.hears p f.sop = true → s.rd PD.TX_RESULT p ≠ txBusy → tooLong (extBytes f) f = false → s.firstChunk p f = none → f.msg ≠ .softReset → s.rd PAIR.PAIR_STATE 0 ≠ psHandover → s.avoiding p = true → s.isSrc p = true → ∃ t, exec (.frameTransmit p f true) s = .next t ∧ t.rd PD.TX_RESULT p = txBusy ∧ (t.port p).phy.waitSinkTx = true ∧ t.on PD.RP_TXNG p = true) ∧
  (∀ (p : Port) (f : Frame) (s : State), s.dev ≠ .warmReset → s.listens p = true → s.hears p f.sop = true → s.rd PD.TX_RESULT p ≠ txBusy → tooLong (extBytes f) f = false → s.firstChunk p f = none → f.msg ≠ .softReset → s.rd PAIR.PAIR_STATE 0 ≠ psHandover → s.avoiding p = true → s.isSnk p = true → s.on PD.RP_TXNG p = true → ∃ t, exec (.frameTransmit p f true) s = .next t ∧ t.rd PD.TX_RESULT p = txHeld) ∧
  (∀ (p : Port) (i : BitVec 3) (s : State), s.dev ≠ .warmReset → s.listens p = true → s.rd PD.TX_RESULT p ≠ txBusy → ∃ t, exec (.frameTransmit p ⟨.sop, .softReset, i, none, .none⟩ false) s = .next t ∧ (t.port p).phy.tx = some ⟨.sop, .softReset, 0, none, .none⟩ ∧ t.rd PD.SOFT_RESET_CNT p = min (s.rd PD.SOFT_RESET_CNT p + 1) (2 ^ 32 - 1)) ∧
  (∀ (p : Port) (m : PdMsg) (i : BitVec 3) (l : List Byte) (s : State), s.dev ≠ .warmReset → s.listens p = true → s.rd PD.TX_RESULT p ≠ txBusy → isExtended m = true → 26 < l.length → l.length ≤ 260 → s.on PD.UNCHUNKED p = false → ∃ t, exec (.frameTransmit p ⟨.sop, m, i, none, .raw l⟩ false) s = .next t ∧ (t.port p).phy.tx = some ⟨.sop, m, BitVec.ofNat 3 (s.rd (txId .sop) p), some ⟨0, false, l.length⟩, .raw (l.take 26)⟩ ∧ (t.port p).phy.chunkTx = some ⟨.sop, m, i, none, .raw l⟩) ∧
  (∀ (p : Port) (f : Frame) (a : Bool) (s : State), s.rd PD.TX_RESULT p = txBusy ∨ (s.port p).phy.tx.isSome = true → exec (.frameTransmit p f a) s = .next s) ∧
  (∀ (p : Port) (f : Frame) (s : State), s.phyOn p = true → s.on PD.SHADOW p = false → (s.port p).phy.tx = some f → s.rd PD.TX_RESULT p = txBusy → (s.port p).phy.waitSinkTx = false → ∃ t, exec (.goodcrcReceived p f.sop f.id) s = .next t ∧ t.rd PD.TX_MSG_CNT p = min (s.rd PD.TX_MSG_CNT p + 1) (2 ^ 32 - 1)) ∧
  (∀ (p : Port) (f : Frame) (s : State), s.phyOn p = true → s.on PD.SHADOW p = false → (s.port p).phy.tx = some f → s.rd PD.TX_RESULT p = txBusy → (s.port p).phy.waitSinkTx = false → f.msg ≠ .psRdy → (s.port p).phy.outbox = [] → ∃ t, exec (.goodcrcReceived p f.sop f.id) s = .next t ∧ t.rd (txId f.sop) p = (s.rd (txId f.sop) p + 1) % 8) ∧
  (∀ (p : Port) (f : Frame) (k : Sop) (i : BitVec 3) (s : State), s.on PD.SHADOW p = false → (s.port p).phy.tx = some f → f.sop ≠ k ∨ f.id ≠ i → exec (.goodcrcReceived p k i) s = .next s) ∧
  (∀ (p : Port) (f : Frame) (s : State), s.phyOn p = true → s.on PD.SHADOW p = false → (s.port p).phy.tx = some f → s.rd PD.TX_RESULT p = txBusy → (s.port p).phy.waitSinkTx = false → s.rd PD.RETRIES p < s.nRetry p f.sop → ∃ t, exec (.tReceiveExpiry p) s = .next t ∧ t.rd PD.RETRIES p = s.rd PD.RETRIES p + 1 ∧ (t.port p).phy.tx = some f ∧ t.rd PD.TX_RETRY_CNT p = min (s.rd PD.TX_RETRY_CNT p + 1) (2 ^ 32 - 1)) ∧
  (∀ (p : Port) (f : Frame) (s : State), s.phyOn p = true → s.on PD.SHADOW p = false → (s.port p).phy.tx = some f → s.rd PD.TX_RESULT p = txBusy → (s.port p).phy.waitSinkTx = false → s.nRetry p f.sop ≤ s.rd PD.RETRIES p → ∃ t, exec (.tReceiveExpiry p) s = .next t ∧ t.rd PD.TX_FAIL_CNT p = min (s.rd PD.TX_FAIL_CNT p + 1) (2 ^ 32 - 1)) ∧
  (∀ (p : Port) (s : State), (s.port p).phy.waitSinkTx = true → ∃ t, exec (.tSinktxExpiry p) s = .next t ∧ (t.port p).phy.waitSinkTx = false ∧ (t.port p).phy.tx = (s.port p).phy.tx.map fun g => { g with id := BitVec.ofNat 3 (s.rd (txId g.sop) p) }) ∧
  (∀ (p : Port) (f : Frame) (s : State), s.isSnk p = true → s.rd PD.TX_RESULT p = txHeld → (s.port p).phy.tx = some f → ∃ t, exec (.sinktxokRead p) s = .next t ∧ t.rd PD.TX_RESULT p = txBusy ∧ t.on PD.RP_TXNG p = false ∧ (t.port p).phy.tx = some { f with id := BitVec.ofNat 3 (s.rd (txId f.sop) p) })

/-- HARD_RESET_RECEIVED is counted; where none of the port's own is pending, and HARD_RESET_SENT of one that is, clears the transmit buffer, the receive queue and the MessageIDs, counts it for the port and leaves only Source_Capabilities acceptable; the one after nHardResetCount sends a source without explicit contract to ErrorRecovery, which ends its attachment. HARD_RESET on an attached port with PD on and its Twill at work stops what was being sent and makes Hard Reset pending. SOFT_RESET there waits for the Accept in PD_STATE Soft_Reset, and goes out under ID 0 where the port may send at once; past the Accept of a transition it is a Hard Reset. CABLE_RESET under the conditions of R91 goes out where the transmitter is free, clears the SOP' and SOP" IDs and is counted; else it waits. CHUNK_RECEIVED of a message that is next: chunk 0 of a message of 27 to 260 bytes opens a reassembly and asks for chunk 1; the next chunk in sequence that does not complete it joins it; the last releases the buffer; one out of sequence releases it and is counted; a Chunk Request gets the chunk it names. T_CHUNK_SENDER_RESPONSE_EXPIRY releases the reassembly of its SOP type; T_CHUNKING_NOT_SUPPORTED_EXPIRY sends no further chunks. T_SENDER_RESPONSE_EXPIRY: an unanswered swap request ends, a Soft_Reset leads to Hard Reset, a sink's request to Hard Reset while hrCount allows, EPR entry to Soft_Reset, another request just ends. T_VDM_SENDER_RESPONSE_EXPIRY ends a discovery attempt, a host's VDM with TIMEOUT, and Discover Identity. (R73, R79, R80, R89, R90, R91, R92, R95, R96, R127, R136, R373) -/
def Obligations.PhyResetsAndChunks : Prop :=
  (∀ (p : Port) (v : Nat) (s : State), s.phyOn p = true → s.on PD.SHADOW p = false → ∃ t, exec (.hardResetReceived p v) s = .next t ∧ t.rd PD.HARD_RESET_RX_CNT p = min (s.rd PD.HARD_RESET_RX_CNT p + 1) (2 ^ 32 - 1)) ∧
  (∀ (p : Port) (v : Nat) (s : State), s.phyOn p = true → s.on PD.SHADOW p = false → (s.port p).phy.hrPending = false → s.isSrc p = false ∨ (s.port p).pe.hrCount < nHardResetCount → ∃ t, exec (.hardResetReceived p v) s = .next t ∧ (t.port p).phy.tx = none ∧ (t.port p).phy.rx = [] ∧ (t.port p).phy.hrOnly = true ∧ (t.port p).pe.hrCount = (s.port p).pe.hrCount + 1 ∧ t.rd (txId .sop) p = 0) ∧
  (∀ (p : Port) (v : Nat) (s : State), s.phyOn p = true → s.on PD.SHADOW p = false → (s.port p).phy.hrPending = false → s.isSrc p = true → nHardResetCount ≤ (s.port p).pe.hrCount → ∃ t, exec (.hardResetReceived p v) s = .next t ∧ t.on CC.ATTACHED p = false) ∧
  (∀ (p : Port) (v : Nat) (s : State), (s.port p).phy.hrPending = true → ∃ t, exec (.hardResetSent p v) s = .next t ∧ t.rd PD.HARD_RESET_TX_CNT p = min (s.rd PD.HARD_RESET_TX_CNT p + 1) (2 ^ 32 - 1)) ∧
  (∀ (p : Port) (v : Nat) (s : State), (s.port p).phy.hrPending = true → s.isSrc p = false ∨ (s.port p).pe.hrCount < nHardResetCount → ∃ t, exec (.hardResetSent p v) s = .next t ∧ (t.port p).phy.tx = none ∧ (t.port p).phy.rx = [] ∧ (t.port p).phy.hrOnly = true ∧ (t.port p).phy.hrPending = false ∧ (t.port p).pe.hrCount = (s.port p).pe.hrCount + 1 ∧ t.rd (txId .sop) p = 0) ∧
  (∀ (p : Port) (v : Nat) (s : State), (s.port p).phy.hrPending = true → s.isSrc p = true → nHardResetCount ≤ (s.port p).pe.hrCount → ∃ t, exec (.hardResetSent p v) s = .next t ∧ t.on CC.ATTACHED p = false) ∧
  (∀ (p : Port) (s : State), s.on CC.ATTACHED p = true → s.on PD.PD_EN p = true → s.on PD.SHADOW p = false → s.carriedByTwill p = true → (s.port p).phy.hrPending = false → ∃ t, exec (.hardReset p) s = .next t ∧ (t.port p).phy.hrPending = true ∧ (t.port p).phy.tx = none ∧ (t.port p).phy.rx = [] ∧ t.rd PD.LAST_KIND p = 3 ∧ t.rd PD.TX_RESULT p = txBusy) ∧
  (∀ (p : Port) (s : State), s.on CC.ATTACHED p = true → s.on PD.PD_EN p = true → s.on PD.SHADOW p = false → s.carriedByTwill p = true → s.pastAccept p = false → ∃ t, exec (.softReset p) s = .next t ∧ t.rd PD.PD_STATE p = pdSoftReset ∧ (t.port p).pe.await = .softResetAccept) ∧
  (∀ (p : Port) (s : State), s.dev ≠ .warmReset → s.listens p = true → (s.port p).pe.await = .none → ∃ t, exec (.softReset p) s = .next t ∧ (t.port p).phy.tx = some ⟨.sop, .softReset, 0, none, .none⟩ ∧ t.rd PD.SOFT_RESET_CNT p = min (s.rd PD.SOFT_RESET_CNT p + 1) (2 ^ 32 - 1)) ∧
  (∀ (p : Port) (s : State), s.on CC.ATTACHED p = true → s.on PD.PD_EN p = true → s.on PD.SHADOW p = false → s.carriedByTwill p = true → s.pastAccept p = true → ∃ t, exec (.softReset p) s = .next t ∧ (t.port p).phy.hrPending = true) ∧
  (∀ (p : Port) (s : State), s.on CC.ATTACHED p = true → s.on PD.PD_EN p = true → s.on PD.SHADOW p = false → s.carriedByTwill p = true → s.mayCableReset p = true → (s.port p).phy.tx = none → (s.port p).phy.hrPending = false → ∃ t, exec (.cableReset p) s = .next t ∧ t.rd PD.LAST_KIND p = 4 ∧ t.rd (txId .sop1) p = 0 ∧ t.rd (txId .sop2) p = 0 ∧ t.rd PD.CABLE_RESET_TX_CNT p = min (s.rd PD.CABLE_RESET_TX_CNT p + 1) (2 ^ 32 - 1)) ∧
  (∀ (p : Port) (s : State), s.on CC.ATTACHED p = true → s.on PD.PD_EN p = true → s.on PD.SHADOW p = false → s.carriedByTwill p = true → s.mayCableReset p = true → (s.port p).phy.hrPending = true → ∃ t, exec (.cableReset p) s = .next t ∧ (t.port p).phy.cableResetPending = true) ∧
  (∀ (p : Port) (k : Sop) (m : PdMsg) (n : Nat) (d : List Byte) (s : State), s.phyOn p = true → s.twillOn p = true → s.hears p k = true → (s.port p).phy.hrOnly = false → s.isNext p m = true → (s.port p).phy.chunkTx = none → (s.port p).phy.reasm = [] → 26 < n → n ≤ 260 → d.length = 26 → ∃ t, exec (.chunkReceived p k m ⟨0, false, n⟩ d) s = .next t ∧ (t.port p).phy.reasm = [⟨k, m, 1, n, d⟩]) ∧
  (∀ (p : Port) (k : Sop) (m : PdMsg) (n : Nat) (q : Nat) (l : List Byte) (d : List Byte) (y : Nat) (s : State), s.phyOn p = true → s.twillOn p = true → s.hears p k = true → (s.port p).phy.hrOnly = false → s.isNext p m = true → (s.port p).phy.chunkTx = none → (s.port p).phy.reasm = [⟨k, m, n, q, l⟩] → 0 < n → d.length ≤ 26 → l.length + d.length < q → ∃ t, exec (.chunkReceived p k m ⟨n, false, y⟩ d) s = .next t ∧ (t.port p).phy.reasm = [⟨k, m, n + 1, q, l ++ d⟩]) ∧
  (∀ (p : Port) (k : Sop) (m : PdMsg) (n : Nat) (q : Nat) (l : List Byte) (d : List Byte) (y : Nat) (s : State), s.phyOn p = true → s.twillOn p = true → s.hears p k = true → (s.port p).phy.hrOnly = false → s.isNext p m = true → (s.port p).phy.chunkTx = none → (s.port p).phy.reasm = [⟨k, m, n, q, l⟩] → 0 < n → d.length ≤ 26 → q ≤ l.length + d.length → ∃ t, exec (.chunkReceived p k m ⟨n, false, y⟩ d) s = .next t ∧ (t.port p).phy.reasm = []) ∧
  (∀ (p : Port) (k : Sop) (m : PdMsg) (n : Nat) (q : Nat) (l : List Byte) (d : List Byte) (y : Nat) (x : Nat) (s : State), s.phyOn p = true → s.twillOn p = true → s.hears p k = true → (s.port p).phy.hrOnly = false → s.isNext p m = true → (s.port p).phy.chunkTx = none → (s.port p).phy.reasm = [⟨k, m, n, q, l⟩] → x ≠ n → ∃ t, exec (.chunkReceived p k m ⟨x, false, y⟩ d) s = .next t ∧ (t.port p).phy.reasm = [] ∧ t.rd PD.CHUNK_ABORT_CNT p = min (s.rd PD.CHUNK_ABORT_CNT p + 1) (2 ^ 32 - 1)) ∧
  (∀ (p : Port) (f : Frame) (l : List Byte) (n : Nat) (s : State), s.phyOn p = true → s.twillOn p = true → s.hears p f.sop = true → (s.port p).phy.hrOnly = false → s.isNext p f.msg = true → (s.port p).phy.chunkTx = some f → f.body = .raw l → (s.port p).phy.tx = none → (s.port p).phy.outbox = [] → (s.port p).phy.hrPending = false → (s.port p).phy.cableResetPending = false → s.cacheWaits p = false → f.msg ≠ .softReset → f.chunk = none → 26 * n < l.length → l.length ≤ 260 → ∃ t, exec (.chunkReceived p f.sop f.msg ⟨n, true, 0⟩ []) s = .next t ∧ (t.port p).phy.tx = some { f with id := BitVec.ofNat 3 (s.rd (txId f.sop) p), chunk := some ⟨n, false, l.length⟩, body := .raw ((l.drop (26 * n)).take 26) }) ∧
  (∀ (p : Port) (k : Sop) (s : State), ∃ t, exec (.tChunkSenderResponseExpiry p k) s = .next t ∧ ∀ r ∈ (t.port p).phy.reasm, r.sop ≠ k) ∧
  (∀ (p : Port) (s : State), s.twillOn p = true → (s.port p).phy.chunkTx.isSome = true → ∃ t, exec (.tChunkingNotSupportedExpiry p) s = .next t ∧ (t.port p).phy.chunkTx = none) ∧
  (∀ (p : Port) (s : State), (s.port p).pe.await = .swap → (s.port p).swap.step ≠ .frsSink → ∃ t, exec (.tSenderResponseExpiry p) s = .next t ∧ (t.port p).pe.await = .none ∧ (t.port p).swap.step = .none) ∧
  (∀ (p : Port) (s : State), s.on CC.ATTACHED p = true → s.on PD.PD_EN p = true → s.on PD.SHADOW p = false → s.carriedByTwill p = true → (s.port p).pe.await = .softResetAccept → ∃ t, exec (.tSenderResponseExpiry p) s = .next t ∧ (t.port p).pe.await = .none ∧ (t.port p).phy.hrPending = true) ∧
  (∀ (p : Port) (s : State), s.on CC.ATTACHED p = true → s.on PD.PD_EN p = true → s.on PD.SHADOW p = false → s.carriedByTwill p = true → (s.port p).pe.await = .request → (s.port p).pe.hrCount < nHardResetCount → ∃ t, exec (.tSenderResponseExpiry p) s = .next t ∧ (t.port p).pe.await = .none ∧ (t.port p).phy.hrPending = true) ∧
  (∀ (p : Port) (s : State), s.on CC.ATTACHED p = true → s.on PD.PD_EN p = true → s.on PD.SHADOW p = false → s.carriedByTwill p = true → (s.port p).pe.await = .eprEnter → s.pastAccept p = false → ∃ t, exec (.tSenderResponseExpiry p) s = .next t ∧ t.rd PD.PD_STATE p = pdSoftReset ∧ (t.port p).pe.await = .softResetAccept) ∧
  (∀ (p : Port) (w : Await) (s : State), (s.port p).pe.await = w → w = .sinkCap ∨ w = .sinkCapExt ∨ w = .status ∨ w = .batteryStatus ∨ w = .digests ∨ w = .certificate ∨ w = .challenge ∨ w = .batteryCap ∨ w = .manufInfo ∨ w = .revision ∨ w = .extCaps → ∃ t, exec (.tSenderResponseExpiry p) s = .next t ∧ (t.port p).pe.await = .none ∧ t.on PD.AMS_ACTIVE p = false) ∧
  (∀ (p : Port) (s : State), (s.port p).pe.await = .cableId → ∃ t, exec (.tVdmSenderResponseExpiry p) s = .next t ∧ t.rd CC.DISC_STATE p = (if s.rd CC.DISC_STATE p = 1 ∧ nDiscoverIdentityCount ≤ s.rd CC.DISC_COUNT p then 3 else s.rd CC.DISC_STATE p)) ∧
  (∀ (p : Port) (k : Packet) (s : State), (s.port p).pe.await = .hostVdm k → AwaitsResponse k [] s → ∃ t, exec (.tVdmSenderResponseExpiry p) s = .next t ∧ (t.port p).pe.await = .none ∧ Responded k stTIMEOUT [] s t) ∧
  (∀ (p : Port) (s : State), (s.port p).pe.await = .discoverId → ∃ t, exec (.tVdmSenderResponseExpiry p) s = .next t ∧ (t.port p).pe.await = .none ∧ t.on PD.AMS_ACTIVE p = false)

/-- A port that listens answers each query of its partner with the message and the fields its rule gives. REFUSED_MESSAGE is answered Not_Supported at Revision 3.x and Reject at 2.0, and counted (so are, at Revision 2.0, the queries that exist at 3.x only). DISCOVER_IDENTITY_SOP gets the ACK with the identity of CONFIG; any other structured request on SOP a NAK, Attention no answer. GET_BATTERY_CAP and Get_Battery_Status: invalid reference. GET_MANUFACTURER_INFO: VID and PID. GET_SINK_CAP in its three forms: the sink objects and flags of the profile, the extended fields, the EPR sink objects; a port that cannot contract as sink refuses. GET_SOURCE_CAP: a source starts its advertising anew with the objects of its present offer, a sink that may become source shows its SPR objects, a sink-only port refuses; the extended form gives identity, versions, PDP; the EPR form outside EPR mode the SPR objects, padded, and the EPR ones. GET_STATUS: temperature, input, event flags, temperature status, power status. GET_PPS_STATUS: VBUS in 20 mV and current in 50 mA. GET_SOURCE_INFO: the PDPs. GET_REVISION: Revision 3.2, Version 1.0. (R93, R97, R98, R99, R110, R112, R599) -/
def Obligations.MessagesAreAnswered : Prop :=
  (∀ (p : Port) (m : PdMsg) (s : State), s.listens p = true → s.unread p m = true → s.refuses p m = true → ∃ t, exec (.refusedMessage p m) s = .next t ∧ Refuses p s t) ∧
  (∀ (p : Port) (s : State), s.listens p = true → s.unread p .vdm = true → ∃ t, exec (.discoverIdentitySop p) s = .next t ∧ Sends p .vdm (.fields [1, 0, 3, 0, 0, s.vid, s.pid, s.xid, s.bcdDevice]) s t) ∧
  (∀ (p : Port) (s : State), s.listens p = true → s.unread p .vdm = true → ∃ t, exec (.structuredVdmRequest p false) s = .next t ∧ Sends p .vdm (.fields [2]) s t) ∧
  (∀ (p : Port) (s : State), s.listens p = true → s.unread p .vdm = true → (s.port p).pe.readvWant = false → (s.port p).pe.sinkCapDue = false → ∃ t, exec (.structuredVdmRequest p true) s = .next t ∧ (t.port p).phy.tx = none) ∧
  (∀ (p : Port) (s : State), s.listens p = true → s.unread p .getBatteryCap = true → ∃ t, exec (.getBatteryCap p false) s = .next t ∧ Answers3 p .batteryCaps (.fields [1]) s t) ∧
  (∀ (p : Port) (s : State), s.listens p = true → s.unread p .getBatteryStatus = true → ∃ t, exec (.getBatteryCap p true) s = .next t ∧ Answers3 p .batteryStatus (.fields [1]) s t) ∧
  (∀ (p : Port) (s : State), s.listens p = true → s.unread p .getManufacturerInfo = true → ∃ t, exec (.getManufacturerInfo p) s = .next t ∧ Answers3 p .manufacturerInfo (.fields [s.vid, s.pid]) s t) ∧
  (∀ (p : Port) (s : State), s.listens p = true → s.unread p .getSourceCapExt = true → ∃ t, exec (.getSourceCap p .extended) s = .next t ∧ Answers3 p .sourceCapsExt (.fields ([s.vid, s.pid, s.xid] ++ s.versions ++ [1, if s.unconstrained then 1 else 0, min (s.restrict (s.stored p)).pdpMax 100, if (s.restrict (s.stored p)).epr then (s.restrict (s.stored p)).pdpMax else 0])) s t) ∧
  (∀ (p : Port) (s : State), s.listens p = true → s.unread p .getPpsStatus = true → ∃ t, exec (.getPpsStatus p) s = .next t ∧ Answers3 p .ppsStatus (.fields [s.rd LOOP.VBUS p / 20, (s.rdI LOOP.I_AVG p / 50).toNat, s.tempStatus, if s.cfMode p then 1 else 0]) s t) ∧
  (∀ (p : Port) (s : State), s.listens p = true → s.unread p .getSourceInfo = true → ∃ t, exec (.getSourceInfo p) s = .next t ∧ Answers3 p .sourceInfo (.fields [0, (s.restrict (s.stored p)).pdpMax, (s.port p).pe.pdpTick / 1000, (s.port p).pe.pdpSent / 1000]) s t) ∧
  (∀ (p : Port) (s : State), s.listens p = true → s.unread p .getRevision = true → ∃ t, exec (.getRevision p) s = .next t ∧ Answers3 p .revision (.fields [3, 2, 1, 0]) s t) ∧
  (∀ (p : Port) (s : State), s.listens p = true → s.unread p .getStatus = true → ∃ t, exec (.getStatus p) s = .next t ∧ Answers3 p .status (.fields [if s.rdI ADC.T_DIE 0 / 10 < 2 then 1 else (s.rdI ADC.T_DIE 0 / 10).toNat, 2, 0,
      (if s.rd GUARD.CAUSE p ∈ [0x01, 0x04, 0x02, 0x03] then 2 else 0) + (if s.thermalWarn then 4 else 0) + (if s.rd GUARD.CAUSE p = 0x08 then 8 else 0) + (if s.cfMode p then 16 else 0),
      s.tempStatus, (if s.cableMv p * s.cableMa p / 1000 < min (1000 * (s.restrict (s.stored p)).pdpMax) (s.pOff p) then 2 else 0) + (if s.pOff p < 1000 * (s.restrict (s.stored p)).pdpMax then 4 else 0)]) s t) ∧
  (∀ (p : Port) (s : State), s.listens p = true → s.unread p .getSinkCap = true → s.canSink p = true → ∃ t, exec (.getSinkCap p .spr) s = .next t ∧ Sends p .sinkCaps (.caps (s.sinkObjects p) (s.sinkFlags p)) s t) ∧
  (∀ (p : Port) (s : State), s.listens p = true → s.unread p .getSinkCapExt = true → s.canSink p = true → ∃ t, exec (.getSinkCap p .extended) s = .next t ∧ Answers3 p .sinkCapsExt (.fields ([s.vid, s.pid, s.xid] ++ s.versions ++ [0, min (s.restrict (s.stored p)).snkPdp 100, min (s.restrict (s.stored p)).snkPdp 100, 0, if 200 < (s.restrict (s.stored p)).snkVmax then (s.restrict (s.stored p)).snkPdp else 0, if 200 < (s.restrict (s.stored p)).snkVmax then (s.restrict (s.stored p)).snkPdp else 0])) s t) ∧
  (∀ (p : Port) (s : State), s.listens p = true → s.unread p .extControl = true → s.canSink p = true → ∃ t, exec (.getSinkCap p .epr) s = .next t ∧ (s.rev2 p = true → Refuses p s t) ∧ (s.rev2 p = false → (t.port p).phy.tx.map (fun f => (f.msg, f.body)) = some (.eprSinkCaps, .caps (pad7 (s.sinkObjects p) ++ s.eprSinkObjects p) (s.sinkFlags p)))) ∧
  (∀ (p : Port) (q : CapQuery) (s : State), s.listens p = true → s.unread p (match q with | .spr => .getSinkCap | .extended => .getSinkCapExt | .epr => .extControl) = true → s.canSink p = false → ∃ t, exec (.getSinkCap p q) s = .next t ∧ Refuses p s t) ∧
  (∀ (p : Port) (s : State), s.listens p = true → s.unread p .getSourceCap = true → s.isSrc p = true → ∃ t, exec (.getSourceCap p .spr) s = .next t ∧ (t.port p).pe.nCaps = 1 ∧ (t.port p).pe.caps = (s.adopt p).offerObjects p) ∧
  (∀ (p : Port) (s : State), s.listens p = true → s.unread p .getSourceCap = true → s.isSrc p = false → s.rd CC.ROLE p = 2 → ∃ t, exec (.getSourceCap p .spr) s = .next t ∧ Refuses p s t) ∧
  (∀ (p : Port) (s : State), s.listens p = true → s.unread p .getSourceCap = true → s.isSrc p = false → s.rd CC.ROLE p ≠ 2 → ∃ t, exec (.getSourceCap p .spr) s = .next t ∧ Sends p .sourceCaps (.caps ((s.adopt p).sprObjects p) ((s.adopt p).offerFlags p)) s t) ∧
  (∀ (p : Port) (s : State), s.listens p = true → s.unread p .extControl = true → s.isSrc p = false ∨ s.on PD.EPR_MODE p = false → ∃ t, exec (.getSourceCap p .epr) s = .next t ∧ (s.rev2 p = true → Refuses p s t) ∧ (s.rev2 p = false → (t.port p).phy.tx.map (fun f => (f.msg, f.body)) = some (.eprSourceCaps, .caps (pad7 (s.sprObjects p) ++ s.eprObjects p (s.on CC.EPR_CABLE p)) (s.offerFlags p)))) ∧
  (∀ (p : Port) (s : State), s.listens p = true → s.unread p .extControl = true → s.isSrc p = true → s.on PD.EPR_MODE p = true → ∃ t, exec (.getSourceCap p .epr) s = .next t ∧ (t.port p).pe.caps = (s.adopt p).offerObjects p)

/-- SOURCE_CAPABILITIES_SENT on a source with PD and its guard on, outside transitions and power swaps, once discovery has ended or is late: the first advertisement, of the objects of the present offer. T_SOURCE_CAPABILITY_EXPIRY before a Request: the next one, up to nCapsCount; then no more. REQUEST and EPR_REQUEST on a source that listens, outside EPR entry, by the verdict of R113 (evaluate): accepted, the transition to the contract asked for begins; rejected, or rejected with new capabilities to follow, Reject; Wait while a hold stands; in the wrong mode Soft_Reset; during EPR entry Soft_Reset too. T_SRC_TRANSITION_EXPIRY of an accepted source transition writes the contract's voltage and the profile's slew, and the ramp begins; in a PR_Swap as initial source it ramps to 0 at 30 mV/us; after a fast detach opening it changes nothing. RAMP_COMPLETE goes on to settling. VBUS_SETTLED inside the band sends PS_RDY, or holds it while CC_OPEN_Q stands. SETTLE_TIMEOUT outside the band (without CC_OPEN_Q), PPS_UNDERVOLTAGE below a PPS contract's minimum, and the expiry of a supervision timer that runs in a contract, lead to Hard Reset on a port with PD on and its Twill at work. (R110, R112, R113, R114, R116, R120, R121, R124, R125, R132, R137, R138) -/
def Obligations.SourceContractsAreMade : Prop :=
  (∀ (p : Port) (b : Bool) (s : State), s.isSrc p = true → s.on PD.PD_EN p = true → s.gst p = gOn ∨ s.gst p = gOpenWait → s.pastAccept p = false → s.powerSwapping p = false → b = true ∨ ((s.port p).pe.await ≠ .cableId ∧ s.mayDiscover p = false) → ∃ t, exec (.sourceCapabilitiesSent ⟨p, b⟩) s = .next t ∧ (t.port p).pe.nCaps = 1 ∧ (t.port p).pe.caps = (s.adopt p).offerObjects p) ∧
  (∀ (p : Port) (s : State), s.isSrc p = true → s.rd PD.PD_STATE p = pdNegotiating → (s.port p).pe.capsDone = false → 0 < (s.port p).pe.nCaps → (s.port p).pe.nCaps < nCapsCount → ∃ t, exec (.tSourceCapabilityExpiry p) s = .next t ∧ (t.port p).pe.nCaps = (s.port p).pe.nCaps + 1) ∧
  (∀ (p : Port) (s : State), s.isSrc p = true → s.rd PD.PD_STATE p = pdNegotiating → (s.port p).pe.capsDone = false → 0 < (s.port p).pe.nCaps → nCapsCount ≤ (s.port p).pe.nCaps → ∃ t, exec (.tSourceCapabilityExpiry p) s = .next t ∧ (t.port p).pe.capsDone = true) ∧
  (∀ (p : Port) (r : Rdo) (c : Contract) (s : State), s.listens p = true → s.unread p .request = true → s.isSrc p = true → (s.port p).pe.epr = .none → s.evaluate p r false .zero = .accept c → ∃ t, exec (.request p r) s = .next t ∧ (t.port p).pe.trans = some ⟨.accepted, s.rd LOOP.V_SP p, c, r⟩ ∧ t.rd PD.PD_STATE p = pdTransition) ∧
  (∀ (p : Port) (r : Rdo) (n : Nat) (s : State), s.listens p = true → s.unread p .request = true → s.isSrc p = true → (s.port p).pe.epr = .none → s.evaluate p r false .zero = .reject n → ∃ t, exec (.request p r) s = .next t ∧ Sends p .reject .none s t) ∧
  (∀ (p : Port) (r : Rdo) (c : Contract) (s : State), s.listens p = true → s.unread p .request = true → s.isSrc p = true → (s.port p).pe.epr = .none → s.evaluate p r false .zero = .rejectReadv c → ∃ t, exec (.request p r) s = .next t ∧ Sends p .reject .none s t) ∧
  (∀ (p : Port) (r : Rdo) (c : Contract) (s : State), s.listens p = true → s.unread p .request = true → s.isSrc p = true → (s.port p).pe.epr = .none → s.evaluate p r false .zero = .wait c → ∃ t, exec (.request p r) s = .next t ∧ Sends p .wait .none s t) ∧
  (∀ (p : Port) (r : Rdo) (s : State), s.listens p = true → s.unread p .request = true → s.isSrc p = true → (s.port p).pe.epr = .none → s.evaluate p r false .zero = .softReset → ∃ t, exec (.request p r) s = .next t ∧ t.rd PD.PD_STATE p = pdSoftReset) ∧
  (∀ (p : Port) (r : Rdo) (o : Pdo) (c : Contract) (s : State), s.listens p = true → s.unread p .eprRequest = true → s.isSrc p = true → (s.port p).pe.epr = .none → s.evaluate p r true o = .accept c → ∃ t, exec (.eprRequest p r o) s = .next t ∧ (t.port p).pe.trans = some ⟨.accepted, s.rd LOOP.V_SP p, c, r⟩ ∧ t.rd PD.PD_STATE p = pdTransition) ∧
  (∀ (p : Port) (r : Rdo) (o : Pdo) (n : Nat) (s : State), s.listens p = true → s.unread p .eprRequest = true → s.isSrc p = true → (s.port p).pe.epr = .none → s.evaluate p r true o = .reject n → ∃ t, exec (.eprRequest p r o) s = .next t ∧ Sends p .reject .none s t) ∧
  (∀ (p : Port) (r : Rdo) (o : Pdo) (c : Contract) (s : State), s.listens p = true → s.unread p .eprRequest = true → s.isSrc p = true → (s.port p).pe.epr = .none → s.evaluate p r true o = .rejectReadv c → ∃ t, exec (.eprRequest p r o) s = .next t ∧ Sends p .reject .none s t) ∧
  (∀ (p : Port) (r : Rdo) (o : Pdo) (c : Contract) (s : State), s.listens p = true → s.unread p .eprRequest = true → s.isSrc p = true → (s.port p).pe.epr = .none → s.evaluate p r true o = .wait c → ∃ t, exec (.eprRequest p r o) s = .next t ∧ Sends p .wait .none s t) ∧
  (∀ (p : Port) (r : Rdo) (o : Pdo) (s : State), s.listens p = true → s.unread p .eprRequest = true → s.isSrc p = true → (s.port p).pe.epr = .none → s.evaluate p r true o = .softReset → ∃ t, exec (.eprRequest p r o) s = .next t ∧ t.rd PD.PD_STATE p = pdSoftReset) ∧
  (∀ (p : Port) (r : Rdo) (s : State), s.listens p = true → s.unread p .request = true → s.isSrc p = true → (s.port p).pe.epr ≠ .none → ∃ t, exec (.request p r) s = .next t ∧ t.rd PD.PD_STATE p = pdSoftReset) ∧
  (∀ (p : Port) (r : Rdo) (o : Pdo) (s : State), s.listens p = true → s.unread p .eprRequest = true → s.isSrc p = true → (s.port p).pe.epr ≠ .none → ∃ t, exec (.eprRequest p r o) s = .next t ∧ t.rd PD.PD_STATE p = pdSoftReset) ∧
  (∀ (p : Port) (x : Trans) (s : State), (s.port p).cc.fastOpened = false → (s.port p).swap.step ≠ .srcHold → (s.port p).pe.trans = some x → s.isSrc p = true → x.phase = .waiting → x.next.mv < 65536 → ∃ t, exec (.tSrcTransitionExpiry p) s = .next t ∧ t.rd LOOP.V_TARGET p = x.next.mv ∧ t.rd LOOP.SLEW p = (s.prof p).slew % 2 ^ LOOP.SLEW.width ∧ (t.port p).pe.trans = some { x with phase := .ramping }) ∧
  (∀ (p : Port) (s : State), (s.port p).cc.fastOpened = false → (s.port p).swap.step = .srcHold → ∃ t, exec (.tSrcTransitionExpiry p) s = .next t ∧ t.rd LOOP.V_TARGET p = 0 ∧ t.rd LOOP.SLEW p = 30 ∧ (t.port p).swap.step = .srcRamp) ∧
  (∀ (p : Port) (s : State), (s.port p).cc.fastOpened = true → exec (.tSrcTransitionExpiry p) s = .next s) ∧
  (∀ (p : Port) (x : Trans) (s : State), (s.port p).pe.trans = some x → s.isSrc p = true → x.phase = .ramping → ∃ t, exec (.rampComplete p) s = .next t ∧ (t.port p).pe.trans = some { x with phase := .settling }) ∧
  (∀ (p : Port) (x : Trans) (v : Nat) (s : State), (s.port p).pe.trans = some x → s.isSrc p = true → x.phase = .settling → inBand x.next v = true → s.on CC.CC_OPEN_Q p = true → ∃ t, exec (.vbusSettled p v) s = .next t ∧ (t.port p).pe.trans = some { x with phase := .held }) ∧
  (∀ (p : Port) (x : Trans) (v : Nat) (s : State), (s.port p).pe.trans = some x → s.isSrc p = true → x.phase = .settling → inBand x.next v = true → s.on CC.CC_OPEN_Q p = false → ∃ t, exec (.vbusSettled p v) s = .next t ∧ (t.port p).pe.trans = some { x with phase := .psRdy }) ∧
  (∀ (p : Port) (x : Trans) (v : Nat) (s : State), (s.port p).pe.trans = some x → s.isSrc p = true → x.phase = .settling → inBand x.next v = false → s.on CC.CC_OPEN_Q p = false → s.on PD.PD_EN p = true → s.on PD.SHADOW p = false → s.carriedByTwill p = true → ∃ t, exec (.settleTimeout p v) s = .next t ∧ (t.port p).phy.hrPending = true) ∧
  (∀ (p : Port) (c : Contract) (v : Nat) (s : State), (s.port p).pe.contract = some c → s.isSrc p = true → c.kind = .pps → v < c.vmin → s.on PD.PD_EN p = true → s.on PD.SHADOW p = false → s.carriedByTwill p = true → ∃ t, exec (.ppsUndervoltage p v) s = .next t ∧ (t.port p).phy.hrPending = true) ∧
  (∀ (p : Port) (c : Contract) (s : State), (s.port p).pe.contract = some c → s.supervising p = true → (s.port p).pe.ppsTimer = true → s.on PD.PD_EN p = true → s.on PD.SHADOW p = false → s.carriedByTwill p = true → ∃ t, exec (.tPpsTimeoutExpiry p) s = .next t ∧ (t.port p).phy.hrPending = true) ∧
  (∀ (p : Port) (c : Contract) (s : State), (s.port p).pe.contract = some c → s.supervising p = true → (s.port p).pe.eprTimer = true → s.on PD.PD_EN p = true → s.on PD.SHADOW p = false → s.carriedByTwill p = true → ∃ t, exec (.tSourceEprKeepaliveExpiry p) s = .next t ∧ (t.port p).phy.hrPending = true)

/-- SOURCE_CAPABILITIES_RECEIVED (EPR_Source_Capabilities in EPR mode) on a sink that listens: the capabilities and flags are kept and a request awaits its answer; outside an island it asks for the object that chooseSink finds; a port that is no sink answers with Soft_Reset. T_TYPEC_SINK_WAIT_CAP_EXPIRY while waiting for capabilities, and T_PS_TRANSITION_EXPIRY while waiting for PS_RDY, lead to Hard Reset, and after nHardResetCount of them to ErrorRecovery, which ends the attachment. SINK_ACCEPT_RECEIVED on an accepted request begins the transition at the standby draw of R119. SINK_PS_RDY_RECEIVED puts the contract in force with its current limit and steps of 50 mA. SINK_KEEPALIVE_INTERVAL on a sink in an explicit contract with nothing held and no request open: EPR_KeepAlive in EPR mode; for the 8 s interval of a PPS contract, in EPR mode too, its request again. (R116, R117, R118, R119, R133) -/
def Obligations.SinkContractsAreMade : Prop :=
  (∀ (p : Port) (l : List Pdo) (f : CapFlags) (s : State), s.listens p = true → s.unread p (if s.on PD.EPR_MODE p then .eprSourceCaps else .sourceCaps) = true → s.isSnk p = true → ∃ t, exec (.sourceCapabilitiesReceived p l f) s = .next t ∧ (t.port p).pe.caps = l ∧ (t.port p).pe.capsFlags = f ∧ (t.port p).pe.await = .request ∧ t.rd PD.PD_STATE p = pdNegotiating ∧ t.on PD.UNCHUNKED_CAP p = f.unchunked) ∧
  (∀ (p : Port) (l : List Pdo) (f : CapFlags) (s : State), s.listens p = true → s.unread p (if s.on PD.EPR_MODE p then .eprSourceCaps else .sourceCaps) = true → s.isSnk p = true → s.island = none → ∃ t, exec (.sourceCapabilitiesReceived p l f) s = .next t ∧ (t.port p).pe.trans.map Trans.next = some (s.chooseSink p l)) ∧
  (∀ (p : Port) (l : List Pdo) (f : CapFlags) (s : State), s.listens p = true → s.unread p (if s.on PD.EPR_MODE p then .eprSourceCaps else .sourceCaps) = true → s.isSnk p = false → ∃ t, exec (.sourceCapabilitiesReceived p l f) s = .next t ∧ t.rd PD.PD_STATE p = pdSoftReset) ∧
  (∀ (p : Port) (s : State), s.isSnk p = true → s.rd PD.PD_STATE p = pdWaitCaps → s.on PD.PD_EN p = true → s.on PD.SHADOW p = false → s.carriedByTwill p = true → (s.port p).pe.hrCount < nHardResetCount → ∃ t, exec (.tTypecSinkWaitCapExpiry p) s = .next t ∧ (t.port p).phy.hrPending = true) ∧
  (∀ (p : Port) (s : State), s.isSnk p = true → s.rd PD.PD_STATE p = pdWaitCaps → s.on PD.PD_EN p = true → nHardResetCount ≤ (s.port p).pe.hrCount → ∃ t, exec (.tTypecSinkWaitCapExpiry p) s = .next t ∧ t.on CC.ATTACHED p = false) ∧
  (∀ (p : Port) (x : Trans) (v : Nat) (s : State), s.isSnk p = true → (s.port p).pe.trans = some x → x.phase = .waiting → s.on PD.PD_EN p = true → s.on PD.SHADOW p = false → s.carriedByTwill p = true → (s.port p).pe.hrCount < nHardResetCount → ∃ t, exec (.tPsTransitionExpiry p v) s = .next t ∧ (t.port p).phy.hrPending = true) ∧
  (∀ (p : Port) (x : Trans) (v : Nat) (s : State), s.isSnk p = true → (s.port p).pe.trans = some x → x.phase = .waiting → nHardResetCount ≤ (s.port p).pe.hrCount → ∃ t, exec (.tPsTransitionExpiry p v) s = .next t ∧ t.on CC.ATTACHED p = false) ∧
  (∀ (p : Port) (x : Trans) (s : State), s.isSnk p = true → (s.port p).pe.trans = some x → x.phase = .accepted → s.takes p .accept = true → s.unread p .accept = true → (s.port p).phy.chunkTx = none → ∃ t, exec (.sinkAcceptReceived p) s = .next t ∧ (t.port p).pe.trans = some { x with phase := .waiting } ∧ (t.port p).pe.await = .none ∧ t.rd PD.PD_STATE p = pdTransition ∧ t.rd LOOP.I_REV_LIM p = s.standbyDraw p x.next % 2 ^ LOOP.I_REV_LIM.width) ∧
  (∀ (p : Port) (x : Trans) (s : State), s.isSnk p = true → (s.port p).pe.trans = some x → x.phase = .waiting → s.takes p .psRdy = true → s.unread p .psRdy = true → (s.port p).phy.chunkTx = none → ∃ t, exec (.sinkPsRdyReceived p) s = .next t ∧ (t.port p).pe.contract = some x.next ∧ t.rd PD.CONTRACT p = 2 ∧ (t.port p).pe.trans = none ∧ t.rd LOOP.I_STEP p = 5 ∧ t.rd LOOP.I_REV_LIM p = min 6000 x.next.ma % 2 ^ LOOP.I_REV_LIM.width) ∧
  (∀ (p : Port) (s : State), s.isSnk p = true → s.explicit p = true → (s.port p).pe.trans = none → s.rd PD.TX_RESULT p ≠ txHeld → s.on PD.EPR_MODE p = true → ∃ t, exec (.sinkKeepaliveInterval ⟨p, false, false⟩) s = .next t ∧ (t.port p).pe.await = .keepAliveAck) ∧
  (∀ (p : Port) (c : Contract) (s : State), s.isSnk p = true → s.explicit p = true → (s.port p).pe.trans = none → s.rd PD.TX_RESULT p ≠ txHeld → (s.port p).pe.contract = some c → c.kind = .pps → ∃ t, exec (.sinkKeepaliveInterval ⟨p, true, false⟩) s = .next t ∧ (t.port p).pe.await = .request ∧ (t.port p).pe.trans.map Trans.next = some c)

/-- EPR_MODE_ENTER on a source that listens, at Revision 3.x, in an explicit contract outside EPR mode: a partner whose Request did not show EPR capability gets Enter Failed 3; else Enter Acknowledged is sent, and without an EPR profile or objects, or without VCONN, entry fails; with a qualified EPR cable EPR mode is entered; otherwise the cable is discovered first, and an attempt that is open is awaited. Outside these conditions it is a protocol error, Soft_Reset, and at Revision 2.0 refused. EPR_MODE_EXIT in EPR mode on an SPR object leaves EPR mode, a source advertising anew; on an EPR object it leads to Hard Reset; outside EPR mode to Soft_Reset. EPR_AUTO_EXIT with PD idle on a source in EPR mode whose cable, profile or offer no longer allows it: leaves EPR mode in an SPR contract; in an EPR contract new capabilities without EPR objects come first. EPR_EXIT_TIMEOUT then leads to Hard Reset while the contract is still an EPR object. EPR_KEEPALIVE is acknowledged by a source in EPR mode; elsewhere it is a protocol error, Soft_Reset. (R93, R116, R128, R129, R130, R132) -/
def Obligations.EprModeIsEnteredAndLeft : Prop :=
  (∀ (p : Port) (s : State), s.listens p = true → s.unread p .eprMode = true → s.rev2 p = false → s.isSrc p = true → s.explicit p = true → s.on PD.EPR_MODE p = false → (s.port p).pe.epr = .none → (s.port p).pe.eprCapRdo = false → ∃ t, exec (.eprModeEnter p) s = .next t ∧ Sends p .eprMode (.epr (.enterFailed 3)) s t ∧ (t.port p).pe.epr = .none) ∧
  (∀ (p : Port) (s : State), s.listens p = true → s.unread p .eprMode = true → s.rev2 p = false → s.isSrc p = true → s.explicit p = true → s.on PD.EPR_MODE p = false → (s.port p).pe.epr = .none → (s.port p).pe.eprCapRdo = true → ∃ t, exec (.eprModeEnter p) s = .next t ∧ Sends p .eprMode (.epr .enterAck) s t) ∧
  (∀ (p : Port) (s : State), s.listens p = true → s.unread p .eprMode = true → s.rev2 p = false → s.isSrc p = true → s.explicit p = true → s.on PD.EPR_MODE p = false → (s.port p).pe.epr = .none → (s.port p).pe.eprCapRdo = true → (s.prof p).epr = false ∨ (s.eprObjects p true).isEmpty = true ∨ s.on PD.VCONN_SRC p = false → ∃ t, exec (.eprModeEnter p) s = .next t ∧ (t.port p).pe.epr = .none ∧ t.on PD.EPR_MODE p = false) ∧
  (∀ (p : Port) (s : State), s.listens p = true → s.unread p .eprMode = true → s.rev2 p = false → s.isSrc p = true → s.explicit p = true → s.on PD.EPR_MODE p = false → (s.port p).pe.epr = .none → (s.port p).pe.eprCapRdo = true → (s.prof p).epr = true → (s.eprObjects p true).isEmpty = false → s.on PD.VCONN_SRC p = true → s.on CC.EPR_CABLE p = true → ∃ t, exec (.eprModeEnter p) s = .next t ∧ t.on PD.EPR_MODE p = true ∧ (t.port p).pe.epr = .succeeded) ∧
  (∀ (p : Port) (s : State), s.listens p = true → s.unread p .eprMode = true → s.rev2 p = false → s.isSrc p = true → s.explicit p = true → s.on PD.EPR_MODE p = false → (s.port p).pe.epr = .none → (s.port p).pe.eprCapRdo = true → (s.prof p).epr = true → (s.eprObjects p true).isEmpty = false → s.on PD.VCONN_SRC p = true → s.on CC.EPR_CABLE p = false → (s.port p).pe.await = .cableId → ∃ t, exec (.eprModeEnter p) s = .next t ∧ (t.port p).pe.epr = .discover) ∧
  (∀ (p : Port) (s : State), s.listens p = true → s.unread p .eprMode = true → s.rev2 p = false → s.isSrc p = false ∨ s.explicit p = false ∨ s.on PD.EPR_MODE p = true ∨ (s.port p).pe.epr ≠ .none → ∃ t, exec (.eprModeEnter p) s = .next t ∧ t.rd PD.PD_STATE p = pdSoftReset) ∧
  (∀ (p : Port) (s : State), s.listens p = true → s.unread p .eprMode = true → s.rev2 p = true → ∃ t, exec (.eprModeEnter p) s = .next t ∧ Refuses p s t) ∧
  (∀ (p : Port) (s : State), s.listens p = true → s.unread p .eprMode = true → s.rev2 p = false → s.on PD.EPR_MODE p = true → s.inEprObject p = false → ∃ t, exec (.eprModeExit p) s = .next t ∧ t.on PD.EPR_MODE p = false ∧ (s.isSrc p = true → (t.port p).pe.nCaps = 1)) ∧
  (∀ (p : Port) (s : State), s.listens p = true → s.unread p .eprMode = true → s.rev2 p = false → s.on PD.EPR_MODE p = true → s.inEprObject p = true → ∃ t, exec (.eprModeExit p) s = .next t ∧ (t.port p).phy.hrPending = true) ∧
  (∀ (p : Port) (s : State), s.listens p = true → s.unread p .eprMode = true → s.rev2 p = false → s.on PD.EPR_MODE p = false → ∃ t, exec (.eprModeExit p) s = .next t ∧ t.rd PD.PD_STATE p = pdSoftReset) ∧
  (∀ (p : Port) (s : State), s.isSrc p = true → s.on PD.EPR_MODE p = true → s.idlePd p = true → s.on CC.EPR_CABLE p = false ∨ (s.stored p).epr = false ∨ (s.eprObjects p true).isEmpty = true → s.inEprObject p = false → ∃ t, exec (.eprAutoExit p) s = .next t ∧ t.on PD.EPR_MODE p = false) ∧
  (∀ (p : Port) (s : State), s.isSrc p = true → s.on PD.EPR_MODE p = true → s.idlePd p = true → s.on CC.EPR_CABLE p = false ∨ (s.stored p).epr = false ∨ (s.eprObjects p true).isEmpty = true → s.inEprObject p = true → ∃ t, exec (.eprAutoExit p) s = .next t ∧ (t.port p).pe.eprLeaving = true ∧ t.on PD.EPR_MODE p = true) ∧
  (∀ (p : Port) (s : State), s.on PD.EPR_MODE p = true → (s.port p).pe.eprLeaving = true → s.inEprObject p = true → s.on CC.ATTACHED p = true → s.on PD.PD_EN p = true → s.on PD.SHADOW p = false → s.carriedByTwill p = true → ∃ t, exec (.eprExitTimeout p) s = .next t ∧ (t.port p).phy.hrPending = true) ∧
  (∀ (p : Port) (s : State), s.listens p = true → s.unread p .extControl = true → s.rev2 p = false → s.on PD.EPR_MODE p = true → s.isSrc p = true → ∃ t, exec (.eprKeepalive p) s = .next t ∧ Sends p .extControl (.ext .keepAliveAck) s t) ∧
  (∀ (p : Port) (s : State), s.listens p = true → s.unread p .extControl = true → s.rev2 p = false → s.on PD.EPR_MODE p = false ∨ s.isSrc p = false → ∃ t, exec (.eprKeepalive p) s = .next t ∧ t.rd PD.PD_STATE p = pdSoftReset)

/-- SOFT_RESET_RECEIVED of any SOP type is counted; of SOP' and SOP" it changes no contract; on SOP, where the port may send at once, Accept is sent, the contract stays, a source advertises anew and a sink waits for capabilities; past the Accept of a transition or power swap it leads to Hard Reset. T_PS_HARD_RESET_EXPIRY in the hold of a Hard Reset starts the ramp to 0 at 30 mV/us with VCONN off and the cable no longer qualified. VBUS_BELOW_4V in that ramp, in a PR_Swap's ramp as initial source, and on a sink in the wait of a Hard Reset, opens a switch that is on. VBUS_AT_VSAFE0V ends the discharge of a port that nothing holds, and takes a Hard Reset on to tSrcRecover. T_SRC_RECOVER_EXPIRY restarts a source that is not kept idle: soft start of a guard that may start. T_SAFE0V_EXPIRY in the ramp or the opening is ErrorRecovery. DETACH_IN_TRANSITION with CC open in a transition ends the attachment. GUARD_ON of a closing switch is GUARD_ON, counted; a source without explicit contract is then in the implicit one; a new source of a PR_Swap goes on to PS_RDY; the initial source is now sink, its swap over. (R30, R79, R127, R131, R134, R135, R137, R139, R165, R166, R264) -/
def Obligations.ResetsMoveTheSupply : Prop :=
  (∀ (p : Port) (k : Sop) (s : State), s.takes p .softReset = true → s.hears p k = true → ∃ t, exec (.softResetReceived p k) s = .next t ∧ t.rd PD.SOFT_RESET_CNT p = min (s.rd PD.SOFT_RESET_CNT p + 1) (2 ^ 32 - 1)) ∧
  (∀ (p : Port) (k : Sop) (s : State), s.takes p .softReset = true → s.hears p k = true → k ≠ .sop → (s.port p).phy.chunkTx = none → ∃ t, exec (.softResetReceived p k) s = .next t ∧ (t.port p).pe.contract = (s.port p).pe.contract) ∧
  (∀ (p : Port) (s : State), s.listens p = true → s.unread p .softReset = true → (s.port p).pe.await = .none → ∃ t, exec (.softResetReceived p .sop) s = .next t ∧ (t.port p).phy.tx.map Frame.msg = some .accept ∧ (t.port p).pe.contract = (s.port p).pe.contract ∧ (t.port p).pe.trans = none ∧ (t.port p).pe.nCaps = (if s.isSrc p then 1 else 0)) ∧
  (∀ (p : Port) (s : State), s.takes p .softReset = true → s.hears p .sop = true → s.on PD.SHADOW p = false → s.pastAccept p = true ∨ s.powerSwapping p = true → (s.port p).phy.chunkTx = none → ∃ t, exec (.softResetReceived p .sop) s = .next t ∧ (t.port p).phy.hrPending = true) ∧
  (∀ (p : Port) (s : State), (s.port p).pe.hr = .hold → ∃ t, exec (.tPsHardResetExpiry p) s = .next t ∧ t.rd LOOP.V_TARGET p = 0 ∧ t.rd LOOP.SLEW p = 30 ∧ t.on CC.VCONN_ON p = false ∧ t.on CC.EPR_CABLE p = false ∧ (t.port p).pe.hr = .ramp) ∧
  (∀ (p : Port) (s : State), (s.port p).pe.hr = .ramp → s.switchOn p = true → ∃ t, exec (.vbusBelow4v p) s = .next t ∧ (t.port p).pe.hr = .open_ ∧ t.on GUARD.GATE_OFF p = true ∧ t.rd LOOP.V_TARGET p = 0) ∧
  (∀ (p : Port) (s : State), (s.port p).pe.hr ≠ .ramp → (s.port p).swap.step = .srcRamp → s.switchOn p = true → ∃ t, exec (.vbusBelow4v p) s = .next t ∧ (t.port p).swap.step = .srcOff ∧ t.on GUARD.GATE_OFF p = true ∧ t.rd LOOP.V_TARGET p = 0) ∧
  (∀ (p : Port) (s : State), (s.port p).pe.hr = .sinkWait → (s.port p).swap.step ≠ .srcRamp → s.isSnk p = true → s.switchOn p = true → ∃ t, exec (.vbusBelow4v p) s = .next t ∧ t.on GUARD.GATE_OFF p = true) ∧
  (∀ (p : Port) (s : State), s.gst p = gDischarge → s.heldSafe p = false → ∃ t, exec (.vbusAtVsafe0v p) s = .next t ∧ t.gst p = gOff ∧ t.on GUARD.DSG_ON p = false) ∧
  (∀ (p : Port) (s : State), (s.port p).pe.hr = .open_ → ∃ t, exec (.vbusAtVsafe0v p) s = .next t ∧ (t.port p).pe.hr = .recover) ∧
  (∀ (p : Port) (s : State), (s.port p).pe.hr = .recover → (s.port p).swap.idle = false → ∃ t, exec (.tSrcRecoverExpiry p) s = .next t ∧ (t.port p).pe.hr = .restart ∧ (s.gst p = gOff → s.heldSafe p = false → s.supply.vcpOut = false → t.gst p = gPrecheck)) ∧
  (∀ (p : Port) (s : State), (s.port p).pe.hr = .ramp ∨ (s.port p).pe.hr = .open_ → s.gst p ≠ gRetired → s.tc p ≠ tcOvpHold → ∃ t, exec (.tSafe0vExpiry p) s = .next t ∧ t.on CC.ATTACHED p = false ∧ t.tc p = tcErrorRecovery) ∧
  (∀ (p : Port) (x : Trans) (s : State), s.on CC.ATTACHED p = true → s.on CC.CC_OPEN_Q p = true ∨ (s.port p).cc.fastOpened = true → (s.port p).pe.trans = some x → ∃ t, exec (.detachInTransition p) s = .next t ∧ t.on CC.ATTACHED p = false ∧ t.rd CC.DETACH_CNT p = min (s.rd CC.DETACH_CNT p + 1) (2 ^ 32 - 1)) ∧
  (∀ (p : Port) (n : Nat) (s : State), (s.port p).guard.closing = .enhance ∨ (s.port p).guard.closing = .matchedMarked → ∃ t, exec (.guardOn p n) s = .next t ∧ t.gst p = gOn ∧ t.on GUARD.GATE_ON p = true ∧ t.rd GUARD.CLOSE_CNT p = min (s.rd GUARD.CLOSE_CNT p + 1) (2 ^ 32 - 1)) ∧
  (∀ (p : Port) (n : Nat) (s : State), (s.port p).guard.closing = .enhance ∨ (s.port p).guard.closing = .matchedMarked → (s.port p).swap.step = .none → s.isSrc p = true → s.explicit p = false → ∃ t, exec (.guardOn p n) s = .next t ∧ t.rd PD.CONTRACT p = 1) ∧
  (∀ (p : Port) (n : Nat) (s : State), (s.port p).guard.closing = .enhance ∨ (s.port p).guard.closing = .matchedMarked → (s.port p).swap.step = .snkStart → ∃ t, exec (.guardOn p n) s = .next t ∧ (t.port p).swap.step = .snkPsRdy) ∧
  (∀ (p : Port) (n : Nat) (s : State), (s.port p).guard.closing = .enhance ∨ (s.port p).guard.closing = .matchedMarked → (s.port p).swap.step = .srcMatch → ∃ t, exec (.guardOn p n) s = .next t ∧ (t.port p).swap.step = .none ∧ t.rd LOOP.I_REV_LIM p = 0 ∧ t.rd PD.PD_STATE p = pdWaitCaps) ∧
  (∀ (p : Port) (n : Nat) (s : State), (s.port p).guard.closing = .resumed → ∃ t, exec (.guardOn p n) s = .next t ∧ t.on GUARD.GATE_ON p = true ∧ (t.port p).guard.closing = .none)

/-- MANAGEMENT_TICK of an owner that serves is counted, and the policy of the tick becomes the one staged. OFFER_READVERTISE on a source carried by a Twill that has advertised, while no hold stands: one wanted before goes out where PD is idle and the capabilities were answered; a contract above its offer, where the objects have changed, is a forced re-advertisement, counted; otherwise changed object kinds or a PDP moved by READV_DELTA give a voluntary one once per READV_MIN, counted. SELF_SHED of an owner that serves, with shedding enabled and the overload standing for OVL_TICKS: the last source in grant order, where the shed loads exceed CAP and it is under no ceiling at or below its offer, gets a Loam ceiling at its P_OFF. FORCED_READV_SHED: a source whose contract still exceeds its offer after a forced re-advertisement gets that ceiling, counted, with 5 A where it had none. SHED_EXPIRY with expiry enabled lifts a host's ceiling and counts it; a ceiling of Loam's it leaves. (R126, R141, R149, R150, R151, R153, R155, R156, R159) -/
def Obligations.BudgetShedsAndReadvertises : Prop :=
  (∀ (v : Nat) (i : Int) (s : State), s.serves = true → s.standby = false → ∃ t, exec (.managementTick v i) s = .next t ∧ t.rd BUDGET.TICK_CNT 0 = min (s.rd BUDGET.TICK_CNT 0 + 1) (2 ^ 32 - 1) ∧ t.bud.act = s.budgetImage ∧ t.bud.seed = false) ∧
  (∀ (p : Port) (s : State), s.isSrc p = true → s.carriedByTwill p = true → s.on BUDGET.HOLD 0 = false → (s.port p).pe.caps ≠ [] → (s.port p).pe.readvWant = true → (s.port p).pe.capsDone = false → s.idlePd p = true → ∃ t, exec (.offerReadvertise p) s = .next t ∧ (t.port p).pe.readvWant = false ∧ (t.port p).pe.nCaps = 1) ∧
  (∀ (p : Port) (s : State), s.isSrc p = true → s.carriedByTwill p = true → s.on BUDGET.HOLD 0 = false → (s.port p).pe.caps ≠ [] → (s.port p).pe.readvWant = false → s.belowContract p = true → (s.port p).pe.caps ≠ s.offerObjects p → ∃ t, exec (.offerReadvertise p) s = .next t ∧ t.rd BUDGET.FORCED_READV_CNT 0 = min (s.rd BUDGET.FORCED_READV_CNT 0 + 1) (2 ^ 32 - 1) ∧ (t.port p).bud.forced = true) ∧
  (∀ (p : Port) (s : State), s.isSrc p = true → s.carriedByTwill p = true → s.on BUDGET.HOLD 0 = false → (s.port p).pe.caps ≠ [] → (s.port p).pe.readvWant = false → s.belowContract p = false → (s.offerObjects p).map objKind ≠ (s.port p).pe.caps.map objKind → (s.port p).bud.readvAt ≤ s.up → ∃ t, exec (.offerReadvertise p) s = .next t ∧ t.rd BUDGET.READV_CNT 0 = min (s.rd BUDGET.READV_CNT 0 + 1) (2 ^ 32 - 1) ∧ (t.port p).bud.readvAt = s.up + s.act BUDGET.READV_MIN 0 * 10 ^ 6) ∧
  (∀ (p : Port) (s : State), s.isSrc p = true → s.carriedByTwill p = true → s.on BUDGET.HOLD 0 = false → (s.port p).pe.caps ≠ [] → (s.port p).pe.readvWant = false → s.belowContract p = false → 1000 * s.act BUDGET.READV_DELTA 0 + (s.port p).pe.pdpSent ≤ s.pdp p ∨ 1000 * s.act BUDGET.READV_DELTA 0 + s.pdp p ≤ (s.port p).pe.pdpSent → (s.port p).bud.readvAt ≤ s.up → ∃ t, exec (.offerReadvertise p) s = .next t ∧ t.rd BUDGET.READV_CNT 0 = min (s.rd BUDGET.READV_CNT 0 + 1) (2 ^ 32 - 1) ∧ (t.port p).bud.readvAt = s.up + s.act BUDGET.READV_MIN 0 * 10 ^ 6) ∧
  (∀ (p : Port) (l : List Port) (s : State), s.serves = true → s.standby = false → s.act BUDGET.SELF_SHED_EN 0 = 1 → s.act BUDGET.OVL_TICKS 0 ≤ s.bud.ovl → s.on BUDGET.OVERLOAD 0 = true → (s.grantOrder s.isSrc).reverse = p :: l → s.bud.cap < ((s.grantOrder s.isSrc).map s.shedLoad).sum * 1000 → s.aboveOffer p = true → ∃ t, exec (.selfShed) s = .next t ∧ t.on BUDGET.VALID p = true ∧ t.rd BUDGET.SRC p = 1 ∧ t.rd BUDGET.P_SHED p = min 255 (s.rd BUDGET.P_OFF p / 10)) ∧
  (∀ (p : Port) (s : State), s.serves = true → (s.port p).bud.forced = true → s.isSrc p = true → s.belowContract p = true → s.aboveOffer p = true → ∃ t, exec (.forcedReadvShed p) s = .next t ∧ t.on BUDGET.VALID p = true ∧ t.rd BUDGET.SRC p = 1 ∧ t.rd BUDGET.P_SHED p = min 255 (s.rd BUDGET.P_OFF p / 10) ∧ t.rd BUDGET.I_SHED p = (if s.on BUDGET.VALID p then s.rd BUDGET.I_SHED p else 5000) ∧ t.rd BUDGET.SELF_SHED_CNT 0 = min (s.rd BUDGET.SELF_SHED_CNT 0 + 1) (2 ^ 32 - 1)) ∧
  (∀ (p : Port) (s : State), s.serves = true → s.on BUDGET.VALID p = true → s.rd BUDGET.SRC p = 0 → s.act BUDGET.SHED_EXPIRY 0 ≠ 0 → ∃ t, exec (.shedExpiry p) s = .next t ∧ t.on BUDGET.VALID p = false ∧ t.rd BUDGET.I_SHED p = 0 ∧ t.rd BUDGET.P_SHED p = 0 ∧ t.rd BUDGET.SHED_EXPIRED_CNT 0 = min (s.rd BUDGET.SHED_EXPIRED_CNT 0 + 1) (2 ^ 32 - 1)) ∧
  (∀ (p : Port) (s : State), s.rd BUDGET.SRC p ≠ 0 → exec (.shedExpiry p) s = .next s)

/-- On a port that listens, with no EPR entry and no swap in progress: PR_SWAP is accepted by a source outside EPR mode whose policy bit 0 and sink profile allow it, and by a sink outside EPR mode whose policy allows it while a feed is selected and no hold stands; a sink that a hold stops answers Wait; otherwise Reject. DR_SWAP is accepted with policy bit 2, else rejected. VCONN_SWAP with policy bit 3 is accepted by a VCONN source outside EPR mode and rejected in it, and accepted by the other end where it may claim VCONN from the pool, whose 300 mA it reserves; with the bit clear it is rejected. A restricted device rejects all three. During EPR entry each is a protocol error, answered with Soft_Reset. T_VCONN_SOURCE_TIMEOUT_EXPIRY of a port that waits to turn its VCONN off sends Hard Reset on an attached port with PD on and its Twill at work. (R56, R108, R116, R161, R162, R164, R171, R172) -/
def Obligations.SwapsAreAnswered : Prop :=
  (∀ (p : Port) (s : State), s.listens p = true → s.unread p .prSwap = true → (s.port p).pe.epr = .none → (s.port p).swap.step = .none → s.on SYS.RESTRICTED 0 = false → s.isSrc p = true → s.pol p 0 = true → (s.prof p).snk = true → s.on PD.EPR_MODE p = false → ∃ t, exec (.prSwap p) s = .next t ∧ (t.port p).swap.step = .accepting ∧ (t.port p).swap.kind = .pr ∧ (t.port p).swap.byDev = false) ∧
  (∀ (p : Port) (s : State), s.listens p = true → s.unread p .prSwap = true → (s.port p).pe.epr = .none → (s.port p).swap.step = .none → s.on SYS.RESTRICTED 0 = false → s.isSrc p = true → s.pol p 0 = false ∨ (s.prof p).snk = false ∨ s.on PD.EPR_MODE p = true → ∃ t, exec (.prSwap p) s = .next t ∧ Sends p .reject .none s t) ∧
  (∀ (p : Port) (s : State), s.listens p = true → s.unread p .prSwap = true → (s.port p).pe.epr = .none → (s.port p).swap.step = .none → s.on SYS.RESTRICTED 0 = false → s.isSrc p = false → s.pol p 0 = true → s.on PD.EPR_MODE p = false → s.rd FEED.SEL 0 ≠ 0 → s.on BUDGET.HOLD 0 = false → ∃ t, exec (.prSwap p) s = .next t ∧ (t.port p).swap.step = .accepting ∧ (t.port p).swap.kind = .pr ∧ (t.port p).swap.byDev = false) ∧
  (∀ (p : Port) (s : State), s.listens p = true → s.unread p .prSwap = true → (s.port p).pe.epr = .none → (s.port p).swap.step = .none → s.on SYS.RESTRICTED 0 = false → s.isSrc p = false → s.on BUDGET.HOLD 0 = true → ∃ t, exec (.prSwap p) s = .next t ∧ Sends p .wait .none s t) ∧
  (∀ (p : Port) (s : State), s.listens p = true → s.unread p .prSwap = true → (s.port p).pe.epr = .none → (s.port p).swap.step = .none → s.on SYS.RESTRICTED 0 = false → s.isSrc p = false → s.pol p 0 = false ∨ s.on PD.EPR_MODE p = true ∨ s.rd FEED.SEL 0 = 0 → s.on BUDGET.HOLD 0 = false → ∃ t, exec (.prSwap p) s = .next t ∧ Sends p .reject .none s t) ∧
  (∀ (p : Port) (s : State), s.listens p = true → s.unread p .drSwap = true → (s.port p).pe.epr = .none → (s.port p).swap.step = .none → s.on SYS.RESTRICTED 0 = false → s.pol p 2 = true → ∃ t, exec (.drSwap p) s = .next t ∧ (t.port p).swap.step = .accepting ∧ (t.port p).swap.kind = .dr ∧ (t.port p).swap.byDev = false) ∧
  (∀ (p : Port) (s : State), s.listens p = true → s.unread p .drSwap = true → (s.port p).pe.epr = .none → (s.port p).swap.step = .none → s.on SYS.RESTRICTED 0 = false → s.pol p 2 = false → ∃ t, exec (.drSwap p) s = .next t ∧ Sends p .reject .none s t) ∧
  (∀ (p : Port) (s : State), s.listens p = true → s.unread p .vconnSwap = true → (s.port p).pe.epr = .none → (s.port p).swap.step = .none → s.on SYS.RESTRICTED 0 = false → s.pol p 3 = true → s.on PD.VCONN_SRC p = true → s.on PD.EPR_MODE p = false → ∃ t, exec (.vconnSwap p) s = .next t ∧ (t.port p).swap.step = .accepting ∧ (t.port p).swap.kind = .vconn ∧ (t.port p).swap.byDev = false) ∧
  (∀ (p : Port) (s : State), s.listens p = true → s.unread p .vconnSwap = true → (s.port p).pe.epr = .none → (s.port p).swap.step = .none → s.on SYS.RESTRICTED 0 = false → s.pol p 3 = true → s.on PD.VCONN_SRC p = true → s.on PD.EPR_MODE p = true → ∃ t, exec (.vconnSwap p) s = .next t ∧ Sends p .reject .none s t) ∧
  (∀ (p : Port) (s : State), s.listens p = true → s.unread p .vconnSwap = true → (s.port p).pe.epr = .none → (s.port p).swap.step = .none → s.on SYS.RESTRICTED 0 = false → s.pol p 3 = true → s.on PD.VCONN_SRC p = false → s.on CC.VCONN_ALLOW p = true → (s.port p).cc.ra = true → s.on CC.VCONN_FORCE_OFF p = false → (s.port p).cc.rev = false → (s.port p).cc.ocpTrips < 2 → s.supply.vconnInOut = false → s.vconnSum + 300 ≤ s.act BUDGET.POOL_MA 0 → ∃ t, exec (.vconnSwap p) s = .next t ∧ (t.port p).swap.step = .accepting ∧ (t.port p).swap.kind = .vconn ∧ (t.port p).swap.byDev = false ∧ t.rd CC.VCONN_RES p = 30) ∧
  (∀ (p : Port) (s : State), s.listens p = true → s.unread p .vconnSwap = true → (s.port p).pe.epr = .none → (s.port p).swap.step = .none → s.on SYS.RESTRICTED 0 = false → s.pol p 3 = false → ∃ t, exec (.vconnSwap p) s = .next t ∧ Sends p .reject .none s t) ∧
  (∀ (p : Port) (s : State), s.listens p = true → s.unread p .prSwap = true → (s.port p).pe.epr = .none → (s.port p).swap.step = .none → s.on SYS.RESTRICTED 0 = true → ∃ t, exec (.prSwap p) s = .next t ∧ Sends p .reject .none s t) ∧
  (∀ (p : Port) (s : State), s.listens p = true → s.unread p .drSwap = true → (s.port p).pe.epr = .none → (s.port p).swap.step = .none → s.on SYS.RESTRICTED 0 = true → ∃ t, exec (.drSwap p) s = .next t ∧ Sends p .reject .none s t) ∧
  (∀ (p : Port) (s : State), s.listens p = true → s.unread p .vconnSwap = true → (s.port p).pe.epr = .none → (s.port p).swap.step = .none → s.on SYS.RESTRICTED 0 = true → ∃ t, exec (.vconnSwap p) s = .next t ∧ Sends p .reject .none s t) ∧
  (∀ (p : Port) (s : State), s.listens p = true → s.unread p .prSwap = true → (s.port p).pe.epr ≠ .none → ∃ t, exec (.prSwap p) s = .next t ∧ t.rd PD.PD_STATE p = pdSoftReset) ∧
  (∀ (p : Port) (s : State), s.listens p = true → s.unread p .drSwap = true → (s.port p).pe.epr ≠ .none → ∃ t, exec (.drSwap p) s = .next t ∧ t.rd PD.PD_STATE p = pdSoftReset) ∧
  (∀ (p : Port) (s : State), s.listens p = true → s.unread p .vconnSwap = true → (s.port p).pe.epr ≠ .none → ∃ t, exec (.vconnSwap p) s = .next t ∧ t.rd PD.PD_STATE p = pdSoftReset) ∧
  (∀ (p : Port) (s : State), (s.port p).swap.step = .vconnOff → s.on CC.ATTACHED p = true → s.on PD.PD_EN p = true → s.on PD.SHADOW p = false → s.carriedByTwill p = true → ∃ t, exec (.tVconnSourceTimeoutExpiry p) s = .next t ∧ (t.port p).phy.hrPending = true)

/-- OWN_PR_SWAP on an idle port of this owner in an explicit contract, device not restricted: once in an attachment a source with PR_INIT, after its first contract, asks a dual-role partner outside EPR mode; else the port whose return is next asks for it. SWAP_REPEAT on an idle port in an explicit contract asks again for the first request that is still wanted by a host command or a return and has been repeated less than three times, counting the repeat. PR_SWAP_SOURCE_ACCEPTED: after its Accept a source holds its set-point. PR_SWAP_SOURCE_OFF: its switch open, it becomes sink, presents Rd and goes on to PS_RDY, its discharge over. PR_SWAP_PARTNER_PS_RDY with VBUS above 4.75 V within 0.5 V of VCONV, on a guard that may close: the switch closes matched; a match that is refused is ErrorRecovery. PR_SWAP_SINK_ACCEPTED: reverse current 0, and an on switch opens once idle. PR_SWAP_SINK_PS_RDY: the sink becomes source on the 2.5 W floor and its guard starts softly where it may. T_PS_SOURCE_ON_EXPIRY and T_PS_SOURCE_OFF_EXPIRY, of power and Fast Role Swaps, are ErrorRecovery. T_SWAP_SOURCE_START_EXPIRY: the new source advertises for the first time. (R163, R165, R166, R167, R168, R170, R176, R179, R186) -/
def Obligations.PowerSwapsChangeTheRoles : Prop :=
  (∀ (p : Port) (s : State), s.ownsPorts = true → s.idlePd p = true → s.explicit p = true → s.on SYS.RESTRICTED 0 = false → s.isSrc p = true → s.pol p 1 = true → (s.port p).pe.firstDone = true → (s.port p).swap.initDone = false → (s.port p).swap.partnerDrp = true → s.on PD.EPR_MODE p = false → ∃ t, exec (.ownPrSwap p) s = .next t ∧ (t.port p).swap.step = .requested ∧ (t.port p).swap.kind = .pr ∧ (t.port p).swap.byDev = true ∧ (t.port p).pe.await = .swap ∧ (t.port p).swap.initDone = true) ∧
  (∀ (p : Port) (s : State), s.ownsPorts = true → s.idlePd p = true → s.explicit p = true → s.on SYS.RESTRICTED 0 = false → s.isSrc p = false → s.nextReturn = some p → ∃ t, exec (.ownPrSwap p) s = .next t ∧ (t.port p).swap.step = .requested ∧ (t.port p).swap.kind = .pr ∧ (t.port p).swap.byDev = true ∧ (t.port p).pe.await = .swap ∧ (t.port p).swap.why = .ret ∧ t.returnTick = some (s.rd BUDGET.TICK_CNT 0)) ∧
  (∀ (p : Port) (k : SwapKind) (w : SwapWant) (n : Nat) (l : List Wanted) (s : State), (s.port p).swap.want = ⟨k, w, n⟩ :: l → w ≠ .init → n < 3 → s.idlePd p = true → s.explicit p = true → ∃ t, exec (.swapRepeat p) s = .next t ∧ (t.port p).swap.step = .requested ∧ (t.port p).swap.kind = k ∧ (t.port p).swap.byDev = true ∧ (t.port p).pe.await = .swap ∧ (t.port p).swap.why = w ∧ ⟨k, w, n + 1⟩ ∈ (t.port p).swap.want) ∧
  (∀ (p : Port) (s : State), s.isSrc p = true → s.prAccepted p = true → ∃ t, exec (.prSwapSourceAccepted p) s = .next t ∧ (t.port p).swap.step = .srcHold ∧ t.rd LOOP.V_TARGET p = s.rd LOOP.V_SP p % 2 ^ LOOP.V_TARGET.width ∧ t.rd PD.PD_STATE p = pdSwap ∧ (t.port p).swap.want.all (fun x => x.kind != .pr) = true) ∧
  (∀ (p : Port) (s : State), (s.port p).swap.step = .srcOff → ∃ t, exec (.prSwapSourceOff p) s = .next t ∧ (t.port p).swap.step = .srcPsRdy ∧ t.rd CC.PWR_ROLE p = 2 ∧ t.tc p = tcAttachedSnk ∧ t.on GUARD.DSG_ON p = false ∧ (s.gst p = gDischarge → t.gst p = gOff)) ∧
  (∀ (p : Port) (c : Nat) (v : Nat) (s : State), (s.port p).swap.step = .srcPsRdy → 4750 < v → s.takes p .psRdy = true → s.mayClose p = true → s.vcpReady = true → v ≤ c + 500 → c ≤ v + 500 → s.on GUARD.REV_CHK_DONE p = true → ∃ t, exec (.prSwapPartnerPsRdy p c v) s = .next t ∧ (t.port p).swap.step = .srcMatch) ∧
  (∀ (p : Port) (c : Nat) (v : Nat) (s : State), (s.port p).swap.step = .srcPsRdy → 4750 < v → s.takes p .psRdy = true → s.mayClose p = false ∨ c + 500 < v ∨ v + 500 < c → s.gst p ≠ gRetired → s.tc p ≠ tcOvpHold → ∃ t, exec (.prSwapPartnerPsRdy p c v) s = .next t ∧ t.on CC.ATTACHED p = false ∧ t.tc p = tcErrorRecovery) ∧
  (∀ (p : Port) (s : State), s.isSnk p = true → s.prAccepted p = true → ∃ t, exec (.prSwapSinkAccepted p) s = .next t ∧ (t.port p).swap.step = .snkIdle ∧ t.rd LOOP.I_REV_LIM p = 0 ∧ t.rd PD.PD_STATE p = pdSwap ∧ (s.gst p = gOn → t.gst p = gOpenWait ∧ (t.port p).guard.openWait = .idle)) ∧
  (∀ (p : Port) (s : State), (s.port p).swap.step = .snkIdle → s.takes p .psRdy = true → s.mayClose p = true → s.vcpReady = true → ∃ t, exec (.prSwapSinkPsRdy p) s = .next t ∧ (t.port p).swap.step = .snkStart ∧ t.rd CC.PWR_ROLE p = 1 ∧ t.tc p = tcAttachedSrc ∧ t.gst p = gPrecheck ∧ t.rd LOOP.I_CEIL p = 500 ∧ t.rd LOOP.P_CEIL p = 25) ∧
  (∀ (p : Port) (s : State), (s.port p).swap.step = .srcPsRdy ∨ (s.port p).swap.step = .frsSrcPsRdy → s.gst p ≠ gRetired → s.tc p ≠ tcOvpHold → ∃ t, exec (.tPsSourceOnExpiry p) s = .next t ∧ t.on CC.ATTACHED p = false ∧ t.tc p = tcErrorRecovery) ∧
  (∀ (p : Port) (s : State), (s.port p).swap.step = .snkIdle ∨ (s.port p).swap.step = .frsSinkAcc → s.gst p ≠ gRetired → s.tc p ≠ tcOvpHold → ∃ t, exec (.tPsSourceOffExpiry p) s = .next t ∧ t.on CC.ATTACHED p = false ∧ t.tc p = tcErrorRecovery) ∧
  (∀ (p : Port) (s : State), (s.port p).swap.step = .snkDone → ∃ t, exec (.tSwapSourceStartExpiry p) s = .next t ∧ (t.port p).swap.step = .none ∧ (t.port p).pe.nCaps = 1 ∧ (t.port p).pe.firstDone = false)

/-- FRS_SIGNAL_DETECTED on a sink whose detection is active and no Fast Role Swap begun: the port sources 5 V at up to 3 A and FR_Swap awaits its Accept; with detection inactive nothing happens. FR_SWAP on a source that signalled: Accept, the port is sink and goes on to PS_RDY; on any other port that listens, outside transitions and power swaps, Soft_Reset, and a refusal at Revision 2.0. FRS_NO_FR_SWAP on such a source: reverse current 0, its swap over, idle until the island ends, and Hard Reset where it is attached with PD on and its Twill at work. BANK_FRS_FIRE of an armed bank with Fast Role Swap enabled disarms and starts the island: an eligible port signals, at 4 V and 30 mV/us with its current for the partner, an attached source that is not eligible and not in a swap is put under its ceiling; not armed or not enabled it does nothing. BANK_FRS_ARM arms where it may. ISLAND_END with a feed selected and the bus in order ends the island. RETURN_SWAP sends the request of the first waiting port in grant order, one in a tick. (R93, R174, R176, R177, R178, R179, R180, R185, R186) -/
def Obligations.BusLossIslandsThePorts : Prop :=
  (∀ (p : Port) (v : Nat) (s : State), s.frsDetecting p = true → (s.port p).swap.step = .none ∨ (s.port p).swap.step = .requested → ∃ t, exec (.frsSignalDetected p v) s = .next t ∧ (t.port p).swap.step = .frsSink ∧ (t.port p).pe.await = .swap ∧ t.rd PD.PD_STATE p = pdSwap ∧ t.rd LOOP.V_TARGET p = 5000 ∧ t.rd LOOP.I_FWD_LIM p = 3000 ∧ t.rd LOOP.I_REV_LIM p = 0) ∧
  (∀ (p : Port) (v : Nat) (s : State), s.frsDetecting p = false → exec (.frsSignalDetected p v) s = .next s) ∧
  (∀ (p : Port) (s : State), (s.port p).swap.step = .frsSrc → s.takes p .frSwap = true → ∃ t, exec (.frSwap p) s = .next t ∧ (t.port p).swap.step = .frsSrcPsRdy ∧ t.rd CC.PWR_ROLE p = 2 ∧ t.tc p = tcAttachedSnk) ∧
  (∀ (p : Port) (s : State), s.listens p = true → s.unread p .frSwap = true → (s.port p).swap.step ≠ .frsSrc → ∃ t, exec (.frSwap p) s = .next t ∧ (s.rev2 p = true → Refuses p s t) ∧ (s.rev2 p = false → t.rd PD.PD_STATE p = pdSoftReset)) ∧
  (∀ (p : Port) (s : State), (s.port p).swap.step = .frsSrc → ∃ t, exec (.frsNoFrSwap p) s = .next t ∧ (t.port p).swap.step = .none ∧ (t.port p).swap.idle = true ∧ t.rd LOOP.I_REV_LIM p = 0) ∧
  (∀ (p : Port) (s : State), (s.port p).swap.step = .frsSrc → s.on CC.ATTACHED p = true → s.on PD.PD_EN p = true → s.on PD.SHADOW p = false → s.carriedByTwill p = true → ∃ t, exec (.frsNoFrSwap p) s = .next t ∧ (t.port p).phy.hrPending = true) ∧
  (∀ (s : State), s.on FEED.ARMED 0 = true → s.role.bankFrs = true → ∃ t, exec .bankFrsFire s = .next t ∧ t.on FEED.ARMED 0 = false ∧ t.island = some s.up ∧ t.islandE = 0 ∧ t.islRole = s.role) ∧
  (∀ (p : Port) (s : State), s.on FEED.ARMED 0 = true → s.role.bankFrs = true → s.eligible p = true → ∃ t, exec (.bankFrsFire) s = .next t ∧ (t.port p).swap.step = .frsSrc ∧ t.rd LOOP.V_TARGET p = 4000 ∧ t.rd LOOP.SLEW p = 30 ∧ t.rd LOOP.I_FWD_LIM p = 0 ∧ t.rd LOOP.I_REV_LIM p = frsMa (s.rd PD.FRS_CURRENT p)) ∧
  (∀ (p : Port) (s : State), s.on FEED.ARMED 0 = true → s.role.bankFrs = true → s.eligible p = false → s.rd PD.PD_STATE p ≠ pdSwap → s.isSrc p = true → ∃ t, exec (.bankFrsFire) s = .next t ∧ t.on BUDGET.VALID p = true ∧ t.rd BUDGET.SRC p = 1 ∧ t.rd BUDGET.I_SHED p = 100 * s.role.islShed.get p % 2 ^ BUDGET.I_SHED.width ∧ (t.port p).swap.ceilinged = true) ∧
  (∀ (s : State), s.on FEED.ARMED 0 = false ∨ s.role.bankFrs = false → exec .bankFrsFire s = .next s) ∧
  (∀ (s : State), s.mayArm = true → ∃ t, exec .bankFrsArm s = .next t ∧ t.on FEED.ARMED 0 = true) ∧
  (∀ (x : Nat) (s : State), s.island = some x → s.rd FEED.SEL 0 ≠ 0 → s.busOk = true → ∃ t, exec (.islandEnd) s = .next t ∧ t.island = none) ∧
  (∀ (p : Port) (s : State), s.nextReturn = some p → ∃ t, exec (.returnSwap) s = .next t ∧ (t.port p).swap.step = .requested ∧ (t.port p).swap.kind = .pr ∧ (t.port p).swap.byDev = true ∧ (t.port p).pe.await = .swap ∧ (t.port p).swap.why = .ret ∧ t.returnTick = some (s.rd BUDGET.TICK_CNT 0))

/-- MODE_WRITE: 0 waits for the next inner boundary; 1 to 3 with nothing standing and a valid table wait too, SOURCE writing I_REV_LIM 2,000 mA; while a halt cause stands DENIED is recorded, else without a valid table NOT_READY (DENIED first is the model's choice, assumption 194), MODE keeps the value and waits for nothing; 4 and above are BAD_ARG and MODE is kept. INNER_LOOP_BOUNDARY takes a waiting MODE: 0 halts a running port with cause 1, another clears HALT with nothing standing (that a running port keeps its law output until its next outer step is the model's choice, assumption 161). Between outer steps an update of a running port advances its count and gives the duty of the compensator (State.setPoint, State.duty); in HALT the window thresholds follow their references, off a ramp. SAT_FLAGS_CLEAR clears exactly the flags whose bit is 1. COEFFICIENT_SWAP at an outer boundary of a running port takes the pending table and counts it; with none it changes nothing. TABLE_CRC_CHECK: one bad copy of a port's table is marked for repair from the other and is no fault; both bad are a table fault, counted; none bad changes nothing. (R25, R26, R188, R192, R195, R196, R200, R206, R210, R211, R212, R600) -/
def Obligations.LoopEngineModesAndTables : Prop :=
  (∀ (p : Port) (s : State), ∃ t, exec (.modeWrite p 0) s = .next t ∧ t.rd LOOP.MODE p = 0 ∧ (t.port p).loop.modeDue = true ∧ t.rd LOOP.HALT_CAUSE p = s.rd LOOP.HALT_CAUSE p) ∧
  (∀ (p : Port) (m : Fin 8) (s : State), 1 ≤ m.val → m.val < 4 → s.haltStands p = false → s.on LOOP.VALID p = true → ∃ t, exec (.modeWrite p m) s = .next t ∧ t.rd LOOP.MODE p = m.val ∧ (t.port p).loop.modeDue = true ∧ (m.val = mSource → t.rd LOOP.I_REV_LIM p = 2000)) ∧
  (∀ (p : Port) (m : Fin 8) (s : State), 1 ≤ m.val → m.val < 4 → s.haltStands p = true → ∃ t, exec (.modeWrite p m) s = .next t ∧ t.rd LOOP.MODE p = m.val ∧ (t.port p).loop.modeDue = false ∧ t.rd (ERR_CODE LOOP.page) p = stDENIED) ∧
  (∀ (p : Port) (m : Fin 8) (s : State), 1 ≤ m.val → m.val < 4 → s.haltStands p = false → s.on LOOP.VALID p = false → ∃ t, exec (.modeWrite p m) s = .next t ∧ t.rd LOOP.MODE p = m.val ∧ (t.port p).loop.modeDue = false ∧ t.rd (ERR_CODE LOOP.page) p = stNOT_READY) ∧
  (∀ (p : Port) (m : Fin 8) (s : State), 4 ≤ m.val → ∃ t, exec (.modeWrite p m) s = .next t ∧ t.rd LOOP.MODE p = s.rd LOOP.MODE p ∧ (t.port p).loop.modeDue = (s.port p).loop.modeDue ∧ t.rd (ERR_CODE LOOP.page) p = stBAD_ARG) ∧
  (∀ (p : Port) (s : State), (s.port p).loop.modeDue = true → s.rd LOOP.MODE p = 0 → s.rd LOOP.HALT_CAUSE p = 0 → ∃ t, exec (.innerLoopBoundary p) s = .next t ∧ t.rd LOOP.HALT_CAUSE p = 1 ∧ t.rd PWM.REGION p = 3 ∧ (t.port p).loop.modeDue = false ∧ t.rd LOOP.HALT_CNT p = min (s.rd LOOP.HALT_CNT p + 1) (2 ^ 32 - 1)) ∧
  (∀ (p : Port) (s : State), (s.port p).loop.modeDue = true → s.rd LOOP.MODE p ≠ 0 → s.rd LOOP.HALT_CAUSE p ≠ 0 → s.haltStands p = false → ∃ t, exec (.innerLoopBoundary p) s = .next t ∧ t.rd LOOP.HALT_CAUSE p = 0 ∧ (t.port p).loop.modeDue = false) ∧
  (∀ (p : Port) (s : State), (s.latch p).running p = true → (s.latch p).outerDue p = false → ∃ t, exec (.innerLoopBoundary p) s = .next t ∧ (t.port p).loop.k = ((s.latch p).port p).loop.k + 1 ∧ (t.port p).loop.d = (((s.latch p).countUpdate p).duty p (((s.latch p).countUpdate p).setPoint p).1).1.d) ∧
  (∀ (p : Port) (s : State), s.running p = false → (s.port p).loop.modeDue = false → (s.port p).loop.vsp = q24 (s.rd LOOP.V_TARGET p) → ∃ t, exec (.innerLoopBoundary p) s = .next t ∧ t.on LOOP.RAMPING p = false) ∧
  (∀ (p : Port) (s : State), s.running p = false → (s.port p).loop.modeDue = false → s.on GUARD.VMON_CFG_TRACK p = false → s.on LOOP.RAMPING p = false → ∃ t, exec (.innerLoopBoundary p) s = .next t ∧ t.rd GUARD.THR_HI p = monHi (s.rd GUARD.VMON_CFG_REF p) (s.rd GUARD.VMON_CFG_WHI p) % 2 ^ GUARD.THR_HI.width ∧ t.rd GUARD.THR_LO p = monLo (s.rd GUARD.VMON_CFG_REF p) (s.rd GUARD.VMON_CFG_WLO p) % 2 ^ GUARD.THR_LO.width) ∧
  (∀ (p : Port) (m : Fin 16) (s : State), ∃ t, exec (.satFlagsClear p m) s = .next t ∧ t.on LOOP.SAT_ACC p = (s.on LOOP.SAT_ACC p && !m.val.testBit 0) ∧ t.on LOOP.SAT_INNER p = (s.on LOOP.SAT_INNER p && !m.val.testBit 1) ∧ t.on LOOP.SAT_OUTER p = (s.on LOOP.SAT_OUTER p && !m.val.testBit 2) ∧ t.on LOOP.SAT_DUTY p = (s.on LOOP.SAT_DUTY p && !m.val.testBit 3)) ∧
  (∀ (p : Port) (l : List Byte) (s : State), s.running p = true → s.outerDue p = true → (s.port p).loop.pending = some l → ∃ t, exec (.coefficientSwap p) s = .next t ∧ (t.port p).loop.table = l ∧ t.on LOOP.VALID p = true ∧ t.on LOOP.PENDING p = false ∧ t.rd LOOP.TBL_SWAP_CNT p = min (s.rd LOOP.TBL_SWAP_CNT p + 1) (2 ^ 32 - 1)) ∧
  (∀ (p : Port) (s : State), (s.port p).loop.pending = none → exec (.coefficientSwap p) s = .next s) ∧
  (∀ (p : Port) (e : Fin 2) (s : State), s.bit MARL.FAULT 0 p = false → (s.port p).loop.repair.getLsbD (1 - e).val = false → ∃ t, exec (.tableCrcCheck [(e, p)]) s = .next t ∧ (t.port p).loop.repair.getLsbD e.val = true ∧ t.bit MARL.FAULT 0 p = false) ∧
  (∀ (p : Port) (e : Fin 2) (s : State), s.bit MARL.FAULT 0 p = false → (s.port p).loop.repair.getLsbD (1 - e).val = true → ∃ t, exec (.tableCrcCheck [(e, p)]) s = .next t ∧ t.bit MARL.FAULT 0 p = true ∧ t.rd MARL.TBL_FAULT_CNT 0 = min (s.rd MARL.TBL_FAULT_CNT 0 + 1) (2 ^ 32 - 1)) ∧
  (∀ (p : Port) (s : State), s.bit MARL.FAULT 0 p = false → ∃ t, exec (.tableCrcCheck [(0, p), (1, p)]) s = .next t ∧ t.bit MARL.FAULT 0 p = true ∧ t.rd MARL.TBL_FAULT_CNT 0 = min (s.rd MARL.TBL_FAULT_CNT 0 + 1) (2 ^ 32 - 1)) ∧
  (∀ (s : State), exec (.tableCrcCheck []) s = .next s)

/-- DEADLINE_MISS on a port is counted, and marks the engine that carries the port failed; with FALLBACK_EN and the other engine running that engine takes over its ports and the fallback is counted; otherwise every port the failed engine carries goes into HALT, cause 7, and to safe state; an engine that has failed already is only counted. ENGINE_RESTORED of a failed or restarting engine whose core is not retired: the engine reads running again, and with RESTORE_AUTO its return is counted and its default ports are to move back to it, each at its next outer step; of an engine in any other state nothing happens. (R212, R217, R218, R219, R220) -/
def Obligations.MarlEnginesFailAndReturn : Prop :=
  (∀ (p : Port) (s : State), ∃ t, exec (.deadlineMiss p) s = .next t ∧ t.rd MARL.DEADLINE_MISS_CNT 0 = min (s.rd MARL.DEADLINE_MISS_CNT 0 + 1) (2 ^ 32 - 1)) ∧
  (∀ (p : Port) (e : Fin 2) (s : State), s.on LOOP.ENGINE p = decide (e = 1) → s.rd (engState e) 0 ≠ 2 → s.on MARL.FALLBACK_EN 0 = true → s.rd (engState (1 - e)) 0 = 1 → ∃ t, exec (.deadlineMiss p) s = .next t ∧ t.rd (engState e) 0 = 2 ∧ t.rd (engState (1 - e)) 0 = 1 ∧ t.on LOOP.ENGINE p = decide (e = 0) ∧ t.rd MARL.FALLBACK_CNT 0 = min (s.rd MARL.FALLBACK_CNT 0 + 1) (2 ^ 32 - 1)) ∧
  (∀ (p : Port) (e : Fin 2) (s : State), s.on LOOP.ENGINE p = decide (e = 1) → s.rd (engState e) 0 ≠ 2 → s.on MARL.FALLBACK_EN 0 = false ∨ s.rd (engState (1 - e)) 0 ≠ 1 → s.drives p = true → ∃ t, exec (.deadlineMiss p) s = .next t ∧ t.rd (engState e) 0 = 2 ∧ t.rd LOOP.HALT_CAUSE p = 7 ∧ (t.port p).guard.engine = true) ∧
  (∀ (e : Fin 2) (s : State), s.rd (engState e) 0 = 2 ∨ s.rd (engState e) 0 = 3 → s.rd CORE.STATE (9 + e.val) ≠ enRetired → ∃ t, exec (.engineRestored e) s = .next t ∧ t.rd (engState e) 0 = 1) ∧
  (∀ (e : Fin 2) (s : State), s.rd (engState e) 0 = 2 ∨ s.rd (engState e) 0 = 3 → s.rd CORE.STATE (9 + e.val) ≠ enRetired → s.on MARL.RESTORE_AUTO 0 = true → ∃ t, exec (.engineRestored e) s = .next t ∧ t.rd MARL.RESTORE_CNT 0 = min (s.rd MARL.RESTORE_CNT 0 + 1) (2 ^ 32 - 1)) ∧
  (∀ (e : Fin 2) (s : State), s.rd (engState e) 0 ≠ 2 → s.rd (engState e) 0 ≠ 3 → exec (.engineRestored e) s = .next s)

/-- ADC_BURST of three results from a converter that is not FAILED writes the port's scaled current and voltages and clears its stale count; one with a result dropped by the full queue, which Q_OVF_CNT counts, or from a FAILED converter, is invalid: the port is stale, counted, and keeps its last samples. A late burst is counted, and an end-of-scale code sets CLIP, whichever it is. SENSE_STALE of a burst with a result missing or out of sequence is invalid too; of one that is whole and in sequence nothing happens. CALIBRATION_STEP while rotation runs and no check is open: ADC 8's own step loads its offset and gain; a group converter that differs by more than 6 LSB at step 1 waits for the mid-scale check, counted; else it is loaded, and waits for that check too if it still differs at step 4, or its step is over, ROTATION_CNT counts and the next converter follows; step 4 alone repeats without loading. ADC_MISMATCH of a waiting converter: one off by more than 4 LSB is FAILED and stops rotation, ADC 8 carrying its group unless ADC 8 failed too or keeps another failed group (the last is the model's choice, assumption 181); with neither off the step repeats once, and a second time it is over. (R221, R224, R226, R227, R228, R229, R230, R231) -/
def Obligations.SamplesReachTheLoops : Prop :=
  (∀ (p : Port) (i : BitVec 12) (b : BitVec 12) (c : BitVec 12) (l : Bool) (d : Fin 4) (s : State), d = 0 → s.bit ADC.FAILED 0 (s.adcOf p) = false → ∃ t, exec (.adcBurst p i b c l d) s = .next t ∧ (t.port p).loop.ibus = s.ibusQ (s.adcOf p) p i.toInt ∧ (t.port p).loop.vbus = s.voltQ (s.adcOf p) b.toNat ∧ (t.port p).loop.vconv = s.voltQ (s.adcOf p) c.toNat ∧ (t.port p).loop.stale = 0 ∧ t.bit ADC.STALE 0 p = false) ∧
  (∀ (p : Port) (i : BitVec 12) (b : BitVec 12) (c : BitVec 12) (l : Bool) (d : Fin 4) (s : State), d ≠ 0 ∨ s.bit ADC.FAILED 0 (s.adcOf p) = true → (s.port p).loop.stale ≠ 2 → ∃ t, exec (.adcBurst p i b c l d) s = .next t ∧ t.bit ADC.STALE 0 p = true ∧ t.rd ADC.STALE_CNT 0 = min (s.rd ADC.STALE_CNT 0 + 1) (2 ^ 32 - 1) ∧ (t.port p).loop.stale = (s.port p).loop.stale + 1 ∧ (t.port p).loop.good = false ∧ (t.port p).loop.ibus = (s.port p).loop.ibus ∧ (t.port p).loop.vbus = (s.port p).loop.vbus) ∧
  (∀ (p : Port) (i : BitVec 12) (b : BitVec 12) (c : BitVec 12) (l : Bool) (d : Fin 4) (s : State), d ≠ 0 → ∃ t, exec (.adcBurst p i b c l d) s = .next t ∧ t.rd ADC.Q_OVF_CNT 0 = min (s.rd ADC.Q_OVF_CNT 0 + d.val) (2 ^ 32 - 1)) ∧
  (∀ (p : Port) (i : BitVec 12) (b : BitVec 12) (c : BitVec 12) (l : Bool) (d : Fin 4) (s : State), l = true → ∃ t, exec (.adcBurst p i b c l d) s = .next t ∧ t.rd ADC.BURST_LATE_CNT 0 = min (s.rd ADC.BURST_LATE_CNT 0 + 1) (2 ^ 32 - 1)) ∧
  (∀ (p : Port) (i : BitVec 12) (b : BitVec 12) (c : BitVec 12) (l : Bool) (d : Fin 4) (s : State), clips i.toInt b.toNat c.toNat ≠ 0 → ∃ t, exec (.adcBurst p i b c l d) s = .next t ∧ t.bit ADC.CLIP 0 p = true ∧ t.rd ADC.CLIP_CNT 0 = min (s.rd ADC.CLIP_CNT 0 + clips i.toInt b.toNat c.toNat) (2 ^ 32 - 1)) ∧
  (∀ (x : BurstRead) (s : State), x.missing = true ∨ x.seq ≠ (s.port x.port).loop.burst → (s.port x.port).loop.stale ≠ 2 → ∃ t, exec (.senseStale x) s = .next t ∧ t.bit ADC.STALE 0 x.port = true ∧ t.rd ADC.STALE_CNT 0 = min (s.rd ADC.STALE_CNT 0 + 1) (2 ^ 32 - 1) ∧ (t.port x.port).loop.stale = (s.port x.port).loop.stale + 1 ∧ (t.port x.port).loop.good = false) ∧
  (∀ (x : BurstRead) (s : State), x.missing = false → x.seq = (s.port x.port).loop.burst → exec (.senseStale x) s = .next s) ∧
  (∀ (d : Nat) (o : BitVec 16) (g : BitVec 16) (e : Nat) (s : State), s.on ADC.ROT_LOST 0 = false → s.bit ADC.FAILED 0 8 = false → s.adcCal = none → s.on ADC.ROT_EN 0 = true ∨ s.calTurn ≠ s.calNext → s.calTurn = 8 → ∃ t, exec (.calibrationStep d o g e) s = .next t ∧ t.rd ADC.OFFSET 8 = o.toNat ∧ t.rd ADC.GAIN 8 = g.toNat ∧ t.calNext = 0 ∧ t.rd ADC.ROTATION_CNT 0 = min (s.rd ADC.ROTATION_CNT 0 + 1) (2 ^ 32 - 1)) ∧
  (∀ (d : Nat) (o : BitVec 16) (g : BitVec 16) (e : Nat) (s : State), s.on ADC.ROT_LOST 0 = false → s.bit ADC.FAILED 0 8 = false → s.adcCal = none → s.on ADC.ROT_EN 0 = true ∨ s.calTurn ≠ s.calNext → s.calTurn ≠ 8 → s.adcRepeat ≠ 4 → 6 < d → ∃ t, exec (.calibrationStep d o g e) s = .next t ∧ t.adcCal = some (s.calTurn, d) ∧ t.rd ADC.MISMATCH_CNT 0 = min (s.rd ADC.MISMATCH_CNT 0 + 1) (2 ^ 32 - 1)) ∧
  (∀ (d : Nat) (o : BitVec 16) (g : BitVec 16) (e : Nat) (s : State), s.on ADC.ROT_LOST 0 = false → s.bit ADC.FAILED 0 8 = false → s.adcCal = none → s.on ADC.ROT_EN 0 = true ∨ s.calTurn ≠ s.calNext → s.calTurn < 8 → s.adcRepeat ≠ 4 → d ≤ 6 → ∃ t, exec (.calibrationStep d o g e) s = .next t ∧ t.rd ADC.OFFSET s.calTurn = o.toNat ∧ t.rd ADC.GAIN s.calTurn = g.toNat) ∧
  (∀ (d : Nat) (o : BitVec 16) (g : BitVec 16) (e : Nat) (s : State), s.on ADC.ROT_LOST 0 = false → s.bit ADC.FAILED 0 8 = false → s.adcCal = none → s.on ADC.ROT_EN 0 = true ∨ s.calTurn ≠ s.calNext → s.calTurn < 8 → s.adcRepeat = 4 ∨ d ≤ 6 → e ≤ 6 → ∃ t, exec (.calibrationStep d o g e) s = .next t ∧ t.calNext = (s.calTurn + 1) % 9 ∧ t.adcCal = none ∧ t.rd ADC.ROTATION_CNT 0 = min (s.rd ADC.ROTATION_CNT 0 + 1) (2 ^ 32 - 1)) ∧
  (∀ (d : Nat) (o : BitVec 16) (g : BitVec 16) (e : Nat) (s : State), s.on ADC.ROT_LOST 0 = false → s.bit ADC.FAILED 0 8 = false → s.adcCal = none → s.on ADC.ROT_EN 0 = true ∨ s.calTurn ≠ s.calNext → s.calTurn < 8 → s.adcRepeat = 4 ∨ d ≤ 6 → 6 < e → ∃ t, exec (.calibrationStep d o g e) s = .next t ∧ t.adcCal = some (s.calTurn, e) ∧ t.rd ADC.MISMATCH_CNT 0 = min (s.rd ADC.MISMATCH_CNT 0 + 1) (2 ^ 32 - 1)) ∧
  (∀ (k : Nat) (d : Nat) (e : Int) (f : Int) (s : State), s.checkTurn = some (k, d) → k < 8 → 4 < e.natAbs → ∃ t, exec (.adcMismatch e f) s = .next t ∧ t.bit ADC.FAILED 0 k = true ∧ t.on ADC.ROT_LOST 0 = true) ∧
  (∀ (k : Nat) (d : Nat) (e : Int) (f : Int) (s : State), s.checkTurn = some (k, d) → k < 8 → 4 < e.natAbs → f.natAbs ≤ 4 → s.keptGroup k = false → ∃ t, exec (.adcMismatch e f) s = .next t ∧ t.rd ADC.COVERED 0 = k) ∧
  (∀ (k : Nat) (d : Nat) (e : Int) (f : Int) (s : State), s.checkTurn = some (k, d) → k < 8 → 4 < e.natAbs → f.natAbs ≤ 4 → s.keptGroup k = true → ∃ t, exec (.adcMismatch e f) s = .next t ∧ t.rd ADC.COVERED 0 = s.rd ADC.COVERED 0) ∧
  (∀ (k : Nat) (d : Nat) (e : Int) (f : Int) (s : State), s.checkTurn = some (k, d) → k < 8 → 4 < f.natAbs → ∃ t, exec (.adcMismatch e f) s = .next t ∧ t.bit ADC.FAILED 0 8 = true ∧ t.on ADC.ROT_LOST 0 = true ∧ t.rd ADC.COVERED 0 = 15) ∧
  (∀ (k : Nat) (d : Nat) (e : Int) (f : Int) (s : State), s.adcCal = some (k, d) → k < 8 → e.natAbs ≤ 4 → f.natAbs ≤ 4 → s.adcRepeat = 0 → ∃ t, exec (.adcMismatch e f) s = .next t ∧ t.adcCal = none ∧ t.calNext = s.calNext ∧ t.adcRepeat = (if s.rd ADC.COVERED 0 = k then 4 else 1)) ∧
  (∀ (k : Nat) (d : Nat) (e : Int) (f : Int) (s : State), s.adcCal = some (k, d) → k < 8 → e.natAbs ≤ 4 → f.natAbs ≤ 4 → s.adcRepeat = (if s.rd ADC.COVERED 0 = k then 4 else 1) → ∃ t, exec (.adcMismatch e f) s = .next t ∧ t.adcCal = none ∧ t.calNext = (k + 1) % 9 ∧ t.rd ADC.COVERED 0 = 15)

/-- PERIOD_WRITE of 400 to 4,000 is taken on a port in HALT, recorded as DENIED on a running one, which keeps its period; a value outside is recorded as BAD_ARG and ignored. PHASE_WRITE waits for the next period start. PERIOD_START applies a phase that waits; in HALT both legs stay off and REGION reads the halt code; on a running port REGION is that of the present duty by the thresholds and hysteresis, and both legs stay off until the driver set-up has ended. DRV_EN_FALL takes a group's driver enable away when none of its ports runs, and leaves it while one runs. DRV_SETUP_EXPIRY releases the outputs of every port of its group. (R234, R235, R236, R237, R238, R240, R241, R244) -/
def Obligations.PeriodsPhasesAndDrivers : Prop :=
  (∀ (p : Port) (v : Nat) (s : State), 400 ≤ v → v ≤ 4000 → s.running p = false → ∃ t, exec (.periodWrite p v) s = .next t ∧ t.rd PWM.PERIOD p = v) ∧
  (∀ (p : Port) (v : Nat) (s : State), 400 ≤ v → v ≤ 4000 → s.running p = true → ∃ t, exec (.periodWrite p v) s = .next t ∧ t.rd PWM.PERIOD p = s.rd PWM.PERIOD p ∧ t.rd (ERR_CODE PWM.page) 0 = stDENIED) ∧
  (∀ (p : Port) (v : Nat) (s : State), v < 400 ∨ 4000 < v → ∃ t, exec (.periodWrite p v) s = .next t ∧ t.rd PWM.PERIOD p = s.rd PWM.PERIOD p ∧ t.rd (ERR_CODE PWM.page) 0 = stBAD_ARG) ∧
  (∀ (p : Port) (v : BitVec 8) (s : State), ∃ t, exec (.phaseWrite p v) s = .next t ∧ (t.port p).pwm.phase = some v.toNat ∧ t.rd PWM.PHASE p = s.rd PWM.PHASE p) ∧
  (∀ (p : Port) (v : Nat) (s : State), (s.port p).pwm.phase = some v → v < 256 → ∃ t, exec (.periodStart p) s = .next t ∧ t.rd PWM.PHASE p = v ∧ (t.port p).pwm.phase = none) ∧
  (∀ (p : Port) (s : State), s.running p = false → ∃ t, exec (.periodStart p) s = .next t ∧ t.rd PWM.REGION p = rHalt ∧ t.on PWM.A_HELD p = false ∧ t.on PWM.B_HELD p = false ∧ (t.port p).pwm.onA = 0 ∧ (t.port p).pwm.onB = 0) ∧
  (∀ (p : Port) (s : State), s.running p = true → ∃ t, exec (.periodStart p) s = .next t ∧ t.rd PWM.REGION p = nextRegion (s.rd PWM.REGION p) (s.port p).loop.d (s.rd PWM.DA_MAX 0) (s.rd PWM.DB_MIN 0) (s.rd PWM.HYST 0)) ∧
  (∀ (p : Port) (s : State), s.running p = true → (s.port p).pwm.wait = true → ∃ t, exec (.periodStart p) s = .next t ∧ (t.port p).pwm.onA = 0 ∧ (t.port p).pwm.onB = 0) ∧
  (∀ (g : Fin 4) (s : State), s.bit PWM.DRV_EN 0 g = true → s.groupRuns g = false → ∃ t, exec (.drvEnFall g) s = .next t ∧ t.bit PWM.DRV_EN 0 g = false ∧ t.bit (IRQ_STAT PWM.page) 0 PWM.IRQ_DRV_CHANGE = true) ∧
  (∀ (g : Fin 4) (s : State), s.groupRuns g = true → exec (.drvEnFall g) s = .next s) ∧
  (∀ (g : Fin 4) (p : Port) (s : State), drvGroup p = g.val → ∃ t, exec (.drvSetupExpiry g) s = .next t ∧ (t.port p).pwm.wait = false)

/-- MODEL_OUTER_STEP: with MODEL_EN clear, or while the port is blanked, the filtered residuals stay and only the step's sums start afresh; otherwise the residuals, B_C and the learned terms are those of State.modelStep. PLAUS_ALARM: either residual over its threshold for 16 outer steps raises its own alarm, and each that is newly raised counts. PLAUS_ALARM_RELEASE: either below half its threshold for 1 s clears its own. PLAUS_ACTION, after 64 outer steps over twice a threshold: with ACT 2 of either the guard of a port this member drives, with no trip standing, trips with cause PLAUS; with ACT 1 and no ACT 2 its foldback begins. FOLDBACK_CLEAR: a foldback ends with its residual below half the threshold for 10 s, and FOLD with the last. LEARNING_WINDOW_END of a full window: a good one is counted and moves R_EXT by a quarter of the difference, any other is counted as rejected. PROBE_START on a running sink that learns, with PROBE_EN and a draw of 400 mA or more: the probe is a third of the draw, at least 400 mA; otherwise nothing happens. (R245, R246, R247, R248, R250, R254, R255, R256) -/
def Obligations.PlausibilityModelsJudgeThePorts : Prop :=
  (∀ (p : Port) (s : State), s.on LOOP.MODEL_EN p = false ∨ s.blanked p = true → ∃ t, exec (.modelOuterStep p) s = .next t ∧ (t.port p).model.fc = (s.port p).model.fc ∧ (t.port p).model.fp = (s.port p).model.fp ∧ (t.port p).model.lastI = s.stepI p ∧ (t.port p).model.nUpd = 0) ∧
  (∀ (p : Port) (s : State), s.on LOOP.MODEL_EN p = true → s.blanked p = false → ∃ t, exec (.modelOuterStep p) s = .next t ∧ (t.port p).model.fc = (s.modelStep p).fc ∧ (t.port p).model.fp = (s.modelStep p).fp ∧ (t.port p).model.bc = (s.modelStep p).bc ∧ (t.port p).model.vofs = (s.modelStep p).vofs ∧ (t.port p).model.rint = (s.modelStep p).rint) ∧
  (∀ (p : Port) (s : State), 16 ≤ (s.port p).model.overC → s.on LOOP.ALARM_C p = false → (s.port p).model.overP < 16 ∨ s.on LOOP.ALARM_P p = true → ∃ t, exec (.plausAlarm p) s = .next t ∧ t.on LOOP.ALARM_C p = true ∧ t.rd LOOP.PLAUS_ALARM_CNT p = min (s.rd LOOP.PLAUS_ALARM_CNT p + 1) (2 ^ 32 - 1)) ∧
  (∀ (p : Port) (s : State), 16 ≤ (s.port p).model.overP → s.on LOOP.ALARM_P p = false → (s.port p).model.overC < 16 ∨ s.on LOOP.ALARM_C p = true → ∃ t, exec (.plausAlarm p) s = .next t ∧ t.on LOOP.ALARM_P p = true ∧ t.rd LOOP.PLAUS_ALARM_CNT p = min (s.rd LOOP.PLAUS_ALARM_CNT p + 1) (2 ^ 32 - 1)) ∧
  (∀ (p : Port) (s : State), 16 ≤ (s.port p).model.overC → s.on LOOP.ALARM_C p = false → 16 ≤ (s.port p).model.overP → s.on LOOP.ALARM_P p = false → ∃ t, exec (.plausAlarm p) s = .next t ∧ t.on LOOP.ALARM_C p = true ∧ t.on LOOP.ALARM_P p = true ∧ t.rd LOOP.PLAUS_ALARM_CNT p = min (s.rd LOOP.PLAUS_ALARM_CNT p + 2) (2 ^ 32 - 1)) ∧
  (∀ (p : Port) (s : State), ∃ t, exec (.plausAlarmRelease p) s = .next t ∧ t.on LOOP.ALARM_C p = (s.on LOOP.ALARM_C p && decide ((s.port p).model.underC < 1000000000)) ∧ t.on LOOP.ALARM_P p = (s.on LOOP.ALARM_P p && decide ((s.port p).model.underP < 1000000000))) ∧
  (∀ (p : Port) (s : State), s.drives p = true → s.tripStands p = false → (64 ≤ (s.port p).model.over2C ∧ s.rd LOOP.ACT_C p = 2) ∨ (64 ≤ (s.port p).model.over2P ∧ s.rd LOOP.ACT_P p = 2) → ∃ t, exec (.plausAction p) s = .next t ∧ t.on GUARD.GATE_OFF p = true ∧ t.rd GUARD.CAUSE p = TripCause.plaus.code ∧ t.rd LOOP.PLAUS_ACTION_CNT p = min (s.rd LOOP.PLAUS_ACTION_CNT p + 1) (2 ^ 32 - 1)) ∧
  (∀ (p : Port) (s : State), 64 ≤ (s.port p).model.over2C → s.rd LOOP.ACT_C p = 1 → (s.port p).model.over2P < 64 ∨ s.rd LOOP.ACT_P p ≠ 2 → ∃ t, exec (.plausAction p) s = .next t ∧ t.on LOOP.FOLD p = true ∧ (t.port p).model.foldC = true) ∧
  (∀ (p : Port) (s : State), 64 ≤ (s.port p).model.over2P → s.rd LOOP.ACT_P p = 1 → (s.port p).model.over2C < 64 ∨ s.rd LOOP.ACT_C p ≠ 2 → ∃ t, exec (.plausAction p) s = .next t ∧ t.on LOOP.FOLD p = true ∧ (t.port p).model.foldP = true) ∧
  (∀ (p : Port) (s : State), ∃ t, exec (.foldbackClear p) s = .next t ∧ (t.port p).model.foldC = ((s.port p).model.foldC && decide ((s.port p).model.underC < 10000000000)) ∧ (t.port p).model.foldP = ((s.port p).model.foldP && decide ((s.port p).model.underP < 10000000000)) ∧ t.on LOOP.FOLD p = ((t.port p).model.foldC || (t.port p).model.foldP)) ∧
  (∀ (p : Port) (c : Contract) (s : State), 2 ^ s.rd LOOP.WLOG p ≤ (s.port p).model.n → (s.port p).pe.contract = some c → (s.port p).model.windowOk (q24 c.mv) = true → ∃ t, exec (.learningWindowEnd p) s = .next t ∧ t.rd LOOP.LEARN_ACCEPT_CNT p = min (s.rd LOOP.LEARN_ACCEPT_CNT p + 1) (2 ^ 32 - 1) ∧ (t.port p).model.rext = (s.port p).model.rext + ((s.port p).model.rWin - (s.port p).model.rext).tdiv 4 ∧ (t.port p).model.accepted = (s.port p).model.accepted + 1 ∧ (t.port p).model.n = 0) ∧
  (∀ (p : Port) (c : Contract) (s : State), 2 ^ s.rd LOOP.WLOG p ≤ (s.port p).model.n → (s.port p).pe.contract = some c → (s.port p).model.windowOk (q24 c.mv) = false → ∃ t, exec (.learningWindowEnd p) s = .next t ∧ t.rd LOOP.LEARN_REJECT_CNT p = min (s.rd LOOP.LEARN_REJECT_CNT p + 1) (2 ^ 32 - 1) ∧ (t.port p).model.rext = (s.port p).model.rext ∧ (t.port p).model.n = 0) ∧
  (∀ (p : Port) (s : State), s.on LOOP.PROBE_EN p = true → s.learning p = true → s.running p = true → q24 400 ≤ -(s.port p).loop.iAvg → ∃ t, exec (.probeStart p) s = .next t ∧ (t.port p).model.probe = some (max (q24 400) ((-(s.port p).loop.iAvg).tdiv 3)) ∧ (t.port p).model.n = 0) ∧
  (∀ (p : Port) (s : State), s.on LOOP.PROBE_EN p = false ∨ s.learning p = false ∨ s.running p = false ∨ -(s.port p).loop.iAvg < q24 400 → exec (.probeStart p) s = .next s)

/-- MONITOR_CROSSING beyond a threshold that acts, outside WATCH, sets its flag and counts, and trips with its cause where that acts (on a port this member drives); otherwise nothing happens. MONITOR_ALTERNATION that may run: the check window passed, the primary changes and SWAP_CNT (BUS_SWAP_CNT) counts; the first failure leaves the primary and awaits the repeat; the failed repeat, or a failure of the checks after cleared marks, marks the check window FAILED. CSP_WINDOW_CHECK of a CSP, feed or supply window and IFAST_CHECK of a port's or a feed's comparator judge the same way, and an IFAST check made clears IFAST_AGE. Where such a check may not run nothing happens. MON_DISAGREE beyond 240 mV on an enabled port is counted: on the VBUS primary the duties exchange (counted in SWAP_CNT, the model's choice, assumption 188) and the check falls due, in a degraded pair the primary stays, of the CSP window its check falls due; otherwise nothing happens. MON_FAILED marks a monitor whose check awaits its repeat; of any other nothing happens. MON_CHECK_DUE counts the day in IFAST_AGE, saturating. (R280, R294, R295, R297, R298, R299, R300, R301, R302, R303, R305, R306) -/
def Obligations.MonitorsCrossAndAreChecked : Prop :=
  (∀ (p : Port) (c : Crossing) (v : Nat) (i : Int) (w : Nat) (s : State), s.dev ≠ .watch → s.crossed p c v = true → (crossCause c).any (s.causeTrips p) = false → ∃ t, exec (.monitorCrossing p c v i w) s = .next t ∧ t.on (crossFlag c) p = true ∧ t.rd GUARD.MON_FLAG_CNT p = min (s.rd GUARD.MON_FLAG_CNT p + 1) (2 ^ 32 - 1) ∧ t.gst p = s.gst p) ∧
  (∀ (p : Port) (c : Crossing) (x : TripCause) (v : Nat) (i : Int) (w : Nat) (s : State), s.dev ≠ .watch → s.drives p = true → s.crossed p c v = true → crossCause c = some x → s.causeTrips p x = true → ∃ t, exec (.monitorCrossing p c v i w) s = .next t ∧ t.on (crossFlag c) p = true ∧ t.rd GUARD.CAUSE p = x.code ∧ t.on GUARD.GATE_OFF p = true) ∧
  (∀ (p : Port) (c : Crossing) (v : Nat) (i : Int) (w : Nat) (s : State), s.dev = .watch ∨ s.crossed p c v = false → exec (.monitorCrossing p c v i w) s = .next s) ∧
  (∀ (p : Port) (r : CheckRead) (s : State), s.mayAlternate p = true → checkFails r (s.rd GUARD.VMON_CFG_MODE p) (s.thrV p).1 (s.thrV p).2 (s.rd LOOP.VBUS p / 60) = 0 → ∃ t, exec (.monitorAlternation (some p) r) s = .next t ∧ t.rd GUARD.PRIMARY p = 1 - s.rd GUARD.PRIMARY p ∧ t.rd GUARD.SWAP_CNT p = min (s.rd GUARD.SWAP_CNT p + 1) (2 ^ 32 - 1)) ∧
  (∀ (p : Port) (r : CheckRead) (s : State), s.mayAlternate p = true → checkFails r (s.rd GUARD.VMON_CFG_MODE p) (s.thrV p).1 (s.thrV p).2 (s.rd LOOP.VBUS p / 60) ≠ 0 → s.repeating (s.checkWindow p) = false → s.rechecks (s.checkWindow p) = false → ∃ t, exec (.monitorAlternation (some p) r) s = .next t ∧ t.rd GUARD.PRIMARY p = s.rd GUARD.PRIMARY p ∧ t.repeating (s.checkWindow p) = true) ∧
  (∀ (p : Port) (r : CheckRead) (s : State), s.mayAlternate p = true → checkFails r (s.rd GUARD.VMON_CFG_MODE p) (s.thrV p).1 (s.thrV p).2 (s.rd LOOP.VBUS p / 60) ≠ 0 → s.repeating (s.checkWindow p) = true ∨ s.rechecks (s.checkWindow p) = true → ∃ t, exec (.monitorAlternation (some p) r) s = .next t ∧ t.monFailed (s.checkWindow p) = true ∧ t.on GUARD.DEGRADED p = true ∧ t.rd GUARD.PRIMARY p = s.rd GUARD.PRIMARY p) ∧
  (∀ (p : Port) (r : CheckRead) (s : State), s.mayAlternate p = false → exec (.monitorAlternation (some p) r) s = .next s) ∧
  (∀ (r : CheckRead) (s : State), s.on FEED.CHK_EN 0 = true → s.on FEED.BUS_DEGRADED 0 = false → s.dev ≠ .watch → checkFails r (s.rd FEED.BUS_MON_MODE 0) (monHi (s.rd FEED.BUS_MON_REF 0) (s.rd FEED.BUS_MON_WHI 0)) (monLo (s.rd FEED.BUS_MON_REF 0) (s.rd FEED.BUS_MON_WLO 0)) (s.rd ADC.BUS_SNS 0 / 60) = 0 → ∃ t, exec (.monitorAlternation none r) s = .next t ∧ t.rd FEED.BUS_PRIMARY 0 = 1 - s.rd FEED.BUS_PRIMARY 0 ∧ t.rd FEED.BUS_SWAP_CNT 0 = min (s.rd FEED.BUS_SWAP_CNT 0 + 1) (2 ^ 32 - 1)) ∧
  (∀ (r : CheckRead) (s : State), s.on FEED.CHK_EN 0 = true → s.on FEED.BUS_DEGRADED 0 = false → s.dev ≠ .watch → checkFails r (s.rd FEED.BUS_MON_MODE 0) (monHi (s.rd FEED.BUS_MON_REF 0) (s.rd FEED.BUS_MON_WHI 0)) (monLo (s.rd FEED.BUS_MON_REF 0) (s.rd FEED.BUS_MON_WLO 0)) (s.rd ADC.BUS_SNS 0 / 60) ≠ 0 → s.repeating s.busCheck = false → ∃ t, exec (.monitorAlternation none r) s = .next t ∧ t.rd FEED.BUS_PRIMARY 0 = s.rd FEED.BUS_PRIMARY 0 ∧ t.repeating s.busCheck = true) ∧
  (∀ (r : CheckRead) (s : State), s.on FEED.CHK_EN 0 = true → s.on FEED.BUS_DEGRADED 0 = false → s.dev ≠ .watch → checkFails r (s.rd FEED.BUS_MON_MODE 0) (monHi (s.rd FEED.BUS_MON_REF 0) (s.rd FEED.BUS_MON_WHI 0)) (monLo (s.rd FEED.BUS_MON_REF 0) (s.rd FEED.BUS_MON_WLO 0)) (s.rd ADC.BUS_SNS 0 / 60) ≠ 0 → s.repeating s.busCheck = true → ∃ t, exec (.monitorAlternation none r) s = .next t ∧ t.monFailed s.busCheck = true ∧ t.on FEED.BUS_DEGRADED 0 = true) ∧
  (∀ (r : CheckRead) (s : State), s.on FEED.CHK_EN 0 = false ∨ s.on FEED.BUS_DEGRADED 0 = true ∨ s.dev = .watch → exec (.monitorAlternation none r) s = .next s) ∧
  (∀ (m : Mon) (r : CheckRead) (s : State), s.mayCheck m = true → (s.windowOf m).any (fun w => checkFails r w.1 w.2.1 w.2.2.1 w.2.2.2 == 0) = true → ∃ t, exec (.cspWindowCheck m r) s = .next t ∧ t.repeating m = false) ∧
  (∀ (m : Mon) (r : CheckRead) (s : State), s.mayCheck m = true → (s.windowOf m).any (fun w => checkFails r w.1 w.2.1 w.2.2.1 w.2.2.2 == 0) = false → s.repeating (m) = false → s.rechecks (m) = false → ∃ t, exec (.cspWindowCheck m r) s = .next t ∧ t.repeating m = true ∧ t.monFailed m = false) ∧
  (∀ (m : Mon) (r : CheckRead) (s : State), s.mayCheck m = true → (s.windowOf m).any (fun w => checkFails r w.1 w.2.1 w.2.2.1 w.2.2.2 == 0) = false → s.repeating (m) = true ∨ s.rechecks (m) = true → ∃ t, exec (.cspWindowCheck m r) s = .next t ∧ t.monFailed m = true) ∧
  (∀ (m : Mon) (r : CheckRead) (s : State), s.mayCheck m = false → exec (.cspWindowCheck m r) s = .next s) ∧
  (∀ (m : Mon) (a : Bool) (b : Bool) (c : Bool) (d : Bool) (s : State), s.mayIfast m = true → ifastFails a b c d = 0 → ∃ t, exec (.ifastCheck m a b c d) s = .next t ∧ t.repeating m = false ∧ t.monFailed m = false) ∧
  (∀ (p : Port) (a : Bool) (b : Bool) (c : Bool) (d : Bool) (s : State), s.mayIfast (.ifast p) = true → ∃ t, exec (.ifastCheck (.ifast p) a b c d) s = .next t ∧ t.rd GUARD.IFAST_AGE p = 0) ∧
  (∀ (m : Mon) (a : Bool) (b : Bool) (c : Bool) (d : Bool) (s : State), s.mayIfast m = true → ifastFails a b c d ≠ 0 → s.repeating (m) = false → s.rechecks (m) = false → ∃ t, exec (.ifastCheck m a b c d) s = .next t ∧ t.repeating m = true ∧ t.monFailed m = false) ∧
  (∀ (m : Mon) (a : Bool) (b : Bool) (c : Bool) (d : Bool) (s : State), s.mayIfast m = true → ifastFails a b c d ≠ 0 → s.repeating (m) = true ∨ s.rechecks (m) = true → ∃ t, exec (.ifastCheck m a b c d) s = .next t ∧ t.monFailed m = true) ∧
  (∀ (m : Mon) (a : Bool) (b : Bool) (c : Bool) (d : Bool) (s : State), s.mayIfast m = false → exec (.ifastCheck m a b c d) s = .next s) ∧
  (∀ (p : Port) (v : Nat) (b : Bool) (s : State), s.dev ≠ .watch → s.on GUARD.XCHK_EN p = true → disagrees (s.rd GUARD.VMON_CFG_MODE p) (s.thrV p).1 (s.thrV p).2 v b = true → s.on GUARD.DEGRADED p = false → ∃ t, exec (.monDisagree p false v b) s = .next t ∧ t.rd GUARD.PRIMARY p = 1 - s.rd GUARD.PRIMARY p ∧ (t.port p).guard.dueV = true ∧ t.rd GUARD.SWAP_CNT p = min (s.rd GUARD.SWAP_CNT p + 1) (2 ^ 32 - 1) ∧ t.rd GUARD.XCHK_DISAGREE_CNT p = min (s.rd GUARD.XCHK_DISAGREE_CNT p + 1) (2 ^ 32 - 1)) ∧
  (∀ (p : Port) (v : Nat) (b : Bool) (s : State), s.dev ≠ .watch → s.on GUARD.XCHK_EN p = true → disagrees (s.rd GUARD.VMON_CFG_MODE p) (s.thrV p).1 (s.thrV p).2 v b = true → s.on GUARD.DEGRADED p = true → ∃ t, exec (.monDisagree p false v b) s = .next t ∧ t.rd GUARD.PRIMARY p = s.rd GUARD.PRIMARY p ∧ t.rd GUARD.XCHK_DISAGREE_CNT p = min (s.rd GUARD.XCHK_DISAGREE_CNT p + 1) (2 ^ 32 - 1)) ∧
  (∀ (p : Port) (v : Nat) (b : Bool) (s : State), s.dev ≠ .watch → s.on GUARD.XCHK_EN p = true → disagrees (s.rd GUARD.CMON_CFG_MODE p) (s.thrC p).1 (s.thrC p).2 v b = true → ∃ t, exec (.monDisagree p true v b) s = .next t ∧ t.rd GUARD.PRIMARY p = s.rd GUARD.PRIMARY p ∧ (t.port p).guard.dueC = true ∧ t.rd GUARD.XCHK_DISAGREE_CNT p = min (s.rd GUARD.XCHK_DISAGREE_CNT p + 1) (2 ^ 32 - 1)) ∧
  (∀ (p : Port) (v : Nat) (b : Bool) (s : State), s.on GUARD.XCHK_EN p = false ∨ s.dev = .watch ∨ disagrees (s.rd GUARD.VMON_CFG_MODE p) (s.thrV p).1 (s.thrV p).2 v b = false → exec (.monDisagree p false v b) s = .next s) ∧
  (∀ (p : Port) (v : Nat) (b : Bool) (s : State), s.on GUARD.XCHK_EN p = false ∨ s.dev = .watch ∨ disagrees (s.rd GUARD.CMON_CFG_MODE p) (s.thrC p).1 (s.thrC p).2 v b = false → exec (.monDisagree p true v b) s = .next s) ∧
  (∀ (m : Mon) (k : Nat) (s : State), s.repeating m = true → ∃ t, exec (.monFailed m k) s = .next t ∧ t.monFailed m = true ∧ t.repeating m = false) ∧
  (∀ (m : Mon) (k : Nat) (s : State), s.repeating m = false → exec (.monFailed m k) s = .next s) ∧
  (∀ (p : Port) (s : State), ∃ t, exec (.monCheckDue p) s = .next t ∧ t.rd GUARD.IFAST_AGE p = min 65535 (s.rd GUARD.IFAST_AGE p + 1))

/-- SOFT_START by the owning Twill: a guard in GUARD_OFF that nothing holds, with VCP in its window, turns DSG off and goes to GUARD_PRECHECK with no gate mark; any other is refused and counted. CLOSE_MATCHED by Twill on such a guard with VCONV and VBUS within 0.5 V, and above 4 V the reverse check done: GUARD_ENHANCE with the gate driven, or GUARD_PRECHECK where the checks of cleared FAILED marks come first; any other is refused, counted. From another writer both record BAD_ACCESS and change nothing else. FORWARD_CHECK, the monitor checks done: VBUS below 1.5 V starts the gate (GUARD_RAMP, limit counter 0), VBUS above trips FET_SHORTED. VCONV_NOT_READY in GUARD_PRECHECK: refused, counted, GUARD_OFF. FIRST_GATE_MARK records its time, saturating, in a soft start and in a matched closure. VBUS_ABOVE_4V75 after the mark: GUARD_ENHANCE. REV_CHK_DONE in GUARD_OFF with the switch off, VBUS at 4 V or more and over 1.5 V above VCONV, and Marl in HALT or below 1 V, sets its flag; else nothing happens. (R18, R263, R264, R266, R268, R279, R288, R301, R304, R323) -/
def Obligations.GuardClosesBySoftStartAndMatched : Prop :=
  (∀ (p : Port) (s : State), s.mayClose p = true → s.vcpReady = true → ∃ t, exec (.softStart p true) s = .next t ∧ t.gst p = gPrecheck ∧ t.on GUARD.DSG_ON p = false ∧ (t.port p).guard.closing = .precheck ∧ t.rd GUARD.T_MARK1 p = 0xFFFF ∧ t.rd GUARD.T_MARK2 p = 0xFFFF) ∧
  (∀ (p : Port) (s : State), s.mayClose p = false ∨ s.vcpReady = false → ∃ t, exec (.softStart p true) s = .next t ∧ t.rd GUARD.CMD_REFUSED_CNT p = min (s.rd GUARD.CMD_REFUSED_CNT p + 1) (2 ^ 32 - 1)) ∧
  (∀ (p : Port) (s : State), ∃ t, exec (.softStart p false) s = .next t ∧ t.rd (ERR_CODE GUARD.page) p = stBAD_ACCESS ∧ t.gst p = s.gst p ∧ t.port p = s.port p) ∧
  (∀ (p : Port) (v : Nat) (w : Nat) (s : State), s.mayClose p = true → v ≤ w + 500 → w ≤ v + 500 → w < 4000 ∨ s.on GUARD.REV_CHK_DONE p = true → s.vcpReady = true → (s.port p).guard.recheck = 0 → ∃ t, exec (.closeMatched p true v w) s = .next t ∧ t.gst p = gEnhance ∧ t.on GUARD.GATE_OFF p = false ∧ (t.port p).guard.closing = .matched) ∧
  (∀ (p : Port) (v : Nat) (w : Nat) (s : State), s.mayClose p = true → v ≤ w + 500 → w ≤ v + 500 → w < 4000 ∨ s.on GUARD.REV_CHK_DONE p = true → s.vcpReady = true → (s.port p).guard.recheck ≠ 0 → ∃ t, exec (.closeMatched p true v w) s = .next t ∧ t.gst p = gPrecheck ∧ (t.port p).guard.closing = .matchedCheck) ∧
  (∀ (p : Port) (v : Nat) (w : Nat) (s : State), s.mayClose p = false ∨ v + 500 < w ∨ w + 500 < v ∨ (4000 ≤ w ∧ s.on GUARD.REV_CHK_DONE p = false) ∨ s.vcpReady = false → ∃ t, exec (.closeMatched p true v w) s = .next t ∧ t.rd GUARD.CMD_REFUSED_CNT p = min (s.rd GUARD.CMD_REFUSED_CNT p + 1) (2 ^ 32 - 1) ∧ t.on GUARD.GATE_OFF p = s.on GUARD.GATE_OFF p) ∧
  (∀ (p : Port) (v : Nat) (w : Nat) (s : State), ∃ t, exec (.closeMatched p false v w) s = .next t ∧ t.rd (ERR_CODE GUARD.page) p = stBAD_ACCESS ∧ t.gst p = s.gst p ∧ t.port p = s.port p) ∧
  (∀ (p : Port) (v : Nat) (i : Int) (s : State), (s.port p).guard.closing = .precheck → s.checksDone p = true → v < 1500 → ∃ t, exec (.forwardCheck p v i) s = .next t ∧ t.gst p = gRamp ∧ t.on GUARD.GATE_OFF p = false ∧ t.rd GUARD.LIMIT_CNT p = 0 ∧ (t.port p).guard.closing = .ramp ∧ (t.port p).guard.limit = 0) ∧
  (∀ (p : Port) (v : Nat) (i : Int) (s : State), s.drives p = true → (s.port p).guard.closing = .precheck → s.checksDone p = true → 1500 ≤ v → ∃ t, exec (.forwardCheck p v i) s = .next t ∧ t.rd GUARD.CAUSE p = TripCause.fetShorted.code ∧ t.on GUARD.GATE_OFF p = true) ∧
  (∀ (p : Port) (s : State), (s.port p).guard.closing = .precheck → s.isSrc p = false → ∃ t, exec (.vconvNotReady p) s = .next t ∧ t.gst p = gOff ∧ (t.port p).guard.closing = .none) ∧
  (∀ (p : Port) (s : State), (s.port p).guard.closing = .precheck → ∃ t, exec (.vconvNotReady p) s = .next t ∧ t.rd GUARD.CMD_REFUSED_CNT p = min (s.rd GUARD.CMD_REFUSED_CNT p + 1) (2 ^ 32 - 1)) ∧
  (∀ (p : Port) (n : Nat) (s : State), (s.port p).guard.closing = .ramp → ∃ t, exec (.firstGateMark p n) s = .next t ∧ t.rd GUARD.T_MARK1 p = min n 65535 ∧ (t.port p).guard.closing = .marked) ∧
  (∀ (p : Port) (n : Nat) (s : State), (s.port p).guard.closing = .matched → ∃ t, exec (.firstGateMark p n) s = .next t ∧ t.rd GUARD.T_MARK1 p = min n 65535 ∧ (t.port p).guard.closing = .matchedMarked) ∧
  (∀ (p : Port) (s : State), (s.port p).guard.closing = .marked → ∃ t, exec (.vbusAbove475 p) s = .next t ∧ t.gst p = gEnhance ∧ (t.port p).guard.closing = .enhance) ∧
  (∀ (p : Port) (w : Nat) (v : Nat) (s : State), s.gst p = gOff → s.switchOn p = false → 4000 ≤ w → v + 1500 < w → s.running p = false ∨ s.rd LOOP.V_TARGET p < 1000 → ∃ t, exec (.revChkDone p w v) s = .next t ∧ t.on GUARD.REV_CHK_DONE p = true) ∧
  (∀ (p : Port) (w v : Nat) (s : State), s.gst p ≠ gOff ∨ s.switchOn p = true ∨ w < 4000 ∨ w ≤ v + 1500 ∨ (s.running p = true ∧ 1000 ≤ s.rd LOOP.V_TARGET p) → exec (.revChkDone p w v) s = .next s)

/-- OPEN_CMD by the owning Twill in any state with the switch on or closing opens the switch into GUARD_DISCHARGE with DSG on (a source whose closure it abandons goes to ErrorRecovery); in any other state it is refused and counted. OPEN_LOW and OPEN_IDLE by Twill wait in GUARD_OPEN_WAIT from GUARD_ON, and are refused and counted elsewhere. From another writer the three record BAD_ACCESS and change nothing else. OPEN_IDLE_MET opens a switch that waits for it; in a PR_Swap as initial sink Marl then goes on as source towards 0 V. DISCHARGE_DONE of a discharge that nothing holds: GUARD_OFF with DSG off; under a stop or a force, and in a tripped, latched or retired guard, DSG stays or turns on. DISCHARGE_FAIL with DSG on and VBUS at 0.8 V or more: DSG off, DSG_TIMEOUT set and counted; else nothing happens. (R18, R166, R263, R264, R265, R287) -/
def Obligations.GuardOpensWhenCommanded : Prop :=
  (∀ (p : Port) (s : State), s.gst p = gPrecheck ∨ s.gst p = gRamp ∨ s.gst p = gEnhance ∨ s.gst p = gOn ∨ s.gst p = gOpenWait → s.switchOn p = true ∨ (s.port p).guard.closing ≠ .none → ∃ t, exec (.openCmd p true) s = .next t ∧ t.gst p = gDischarge ∧ t.on GUARD.GATE_OFF p = true ∧ t.on GUARD.DSG_ON p = true) ∧
  (∀ (p : Port) (s : State), s.gst p = gPrecheck ∨ s.gst p = gRamp ∨ s.gst p = gEnhance ∨ s.gst p = gOn ∨ s.gst p = gOpenWait → (s.port p).guard.closing ≠ .none → s.isSrc p = true → ∃ t, exec (.openCmd p true) s = .next t ∧ t.on CC.ATTACHED p = false) ∧
  (∀ (p : Port) (s : State), s.gst p ≠ gPrecheck → s.gst p ≠ gRamp → s.gst p ≠ gEnhance → s.gst p ≠ gOn → s.gst p ≠ gOpenWait → ∃ t, exec (.openCmd p true) s = .next t ∧ t.rd GUARD.CMD_REFUSED_CNT p = min (s.rd GUARD.CMD_REFUSED_CNT p + 1) (2 ^ 32 - 1) ∧ t.gst p = s.gst p) ∧
  (∀ (p : Port) (s : State), ∃ t, exec (.openCmd p false) s = .next t ∧ t.rd (ERR_CODE GUARD.page) p = stBAD_ACCESS ∧ t.gst p = s.gst p ∧ t.port p = s.port p) ∧
  (∀ (p : Port) (s : State), s.gst p = gOn → ∃ t, exec (.openLow p true) s = .next t ∧ t.gst p = gOpenWait ∧ (t.port p).guard.openWait = .low) ∧
  (∀ (p : Port) (s : State), s.gst p ≠ gOn → ∃ t, exec (.openLow p true) s = .next t ∧ t.rd GUARD.CMD_REFUSED_CNT p = min (s.rd GUARD.CMD_REFUSED_CNT p + 1) (2 ^ 32 - 1) ∧ t.gst p = s.gst p) ∧
  (∀ (p : Port) (s : State), ∃ t, exec (.openLow p false) s = .next t ∧ t.rd (ERR_CODE GUARD.page) p = stBAD_ACCESS ∧ t.gst p = s.gst p ∧ t.port p = s.port p) ∧
  (∀ (p : Port) (s : State), s.gst p = gOn → ∃ t, exec (.openIdle p true) s = .next t ∧ t.gst p = gOpenWait ∧ (t.port p).guard.openWait = .idle) ∧
  (∀ (p : Port) (s : State), s.gst p ≠ gOn → ∃ t, exec (.openIdle p true) s = .next t ∧ t.rd GUARD.CMD_REFUSED_CNT p = min (s.rd GUARD.CMD_REFUSED_CNT p + 1) (2 ^ 32 - 1) ∧ t.gst p = s.gst p) ∧
  (∀ (p : Port) (s : State), ∃ t, exec (.openIdle p false) s = .next t ∧ t.rd (ERR_CODE GUARD.page) p = stBAD_ACCESS ∧ t.gst p = s.gst p ∧ t.port p = s.port p) ∧
  (∀ (p : Port) (s : State), s.gst p = gOpenWait → (s.port p).guard.openWait = .idle → s.switchOn p = true → ∃ t, exec (.openIdleMet p) s = .next t ∧ t.gst p = gDischarge ∧ t.on GUARD.GATE_OFF p = true ∧ t.on GUARD.DSG_ON p = true) ∧
  (∀ (p : Port) (s : State), s.gst p = gOpenWait → (s.port p).guard.openWait = .idle → (s.port p).swap.step = .snkIdle → ∃ t, exec (.openIdleMet p) s = .next t ∧ t.rd LOOP.MODE p = mSource ∧ t.rd LOOP.V_TARGET p = 0) ∧
  (∀ (p : Port) (s : State), s.gst p = gDischarge → s.heldSafe p = false → ∃ t, exec (.dischargeDone p) s = .next t ∧ t.gst p = gOff ∧ t.on GUARD.DSG_ON p = false ∧ t.on GUARD.DSG_TIMEOUT p = false) ∧
  (∀ (p : Port) (s : State), (s.gst p = gDischarge ∧ s.heldSafe p = true) ∨ s.tripStands p = true → ∃ t, exec (.dischargeDone p) s = .next t ∧ t.gst p = s.gst p ∧ t.on GUARD.DSG_ON p = true) ∧
  (∀ (p : Port) (v : Nat) (s : State), s.on GUARD.DSG_ON p = true → 800 ≤ v → ∃ t, exec (.dischargeFail p v) s = .next t ∧ t.on GUARD.DSG_TIMEOUT p = true ∧ t.on GUARD.DSG_ON p = false ∧ t.rd GUARD.DSG_TIMEOUT_CNT p = min (s.rd GUARD.DSG_TIMEOUT_CNT p + 1) (2 ^ 32 - 1)) ∧
  (∀ (p : Port) (v : Nat) (s : State), s.on GUARD.DSG_ON p = false ∨ v < 800 → exec (.dischargeFail p v) s = .next s)

/-- On a port that this member drives: TRIP with several causes records the first in the order of R280 of those that act (a window monitor's acts by its enable, its guard state and not in WATCH), turns the pass switch off, and gives the state that the cause, the retries and the old state give; where none acts nothing happens. RAMP_FAIL during the ramp, FET_DAMAGED before a gate mark, IFAST at the effective threshold (outside the 200 ns blanking of a closure), and FET_SHORTED whose check fails, each trip with their cause; below the threshold, in the blanking, and with the check passed nothing happens. LIMIT_COUNTER_UPDATE shows AT_LIMIT and CEIL_BINDS; on a running port in SOURCE the counter moves as R274 says, and trips LIMIT at LIM_T where no ceiling binds, LIMIT_CEIL at LIM_T_CEIL where one binds; below it the guard stays (that a counter already there trips at the next update is the model's choice, assumption 196). (R269, R270, R271, R272, R273, R274, R276, R279, R280, R281, R283, R295) -/
def Obligations.GuardTripsOpenTheSwitch : Prop :=
  (∀ (p : Port) (c : TripCause) (o : List TripCause) (v : Nat) (i : Int) (s : State), s.drives p = true → s.causeTrips p c = true → o.all (fun x => decide (c.order ≤ x.order)) = true → ∃ t, exec (.trip p c o i v) s = .next t ∧ t.rd GUARD.CAUSE p = c.code ∧ t.on GUARD.GATE_OFF p = true ∧ t.gst p = tripState (s.gst p) c (min 15 (s.up :: recentTrips s.up (s.port p).guard.trips).length) (s.rd GUARD.RETRY_MAX p)) ∧
  (∀ (p : Port) (c : TripCause) (o : List TripCause) (d : TripCause) (v : Nat) (i : Int) (s : State), s.drives p = true → s.causeTrips p c = false → s.causeTrips p d = true → o = [d] → ∃ t, exec (.trip p c o i v) s = .next t ∧ t.rd GUARD.CAUSE p = d.code ∧ t.on GUARD.GATE_OFF p = true) ∧
  (∀ (p : Port) (c : TripCause) (o : List TripCause) (v : Nat) (i : Int) (s : State), (c :: o).all (fun x => !s.causeTrips p x) = true → exec (.trip p c o i v) s = .next s) ∧
  (∀ (p : Port) (v : Nat) (i : Int) (s : State), s.drives p = true → (s.port p).guard.closing = .ramp ∨ (s.port p).guard.closing = .marked → ∃ t, exec (.rampFail p i v) s = .next t ∧ t.rd GUARD.CAUSE p = TripCause.rampFail.code ∧ t.on GUARD.GATE_OFF p = true) ∧
  (∀ (p : Port) (v : Nat) (i : Int) (s : State), s.drives p = true → (s.port p).guard.closing = .ramp ∨ (s.port p).guard.closing = .enhance ∨ (s.port p).guard.closing = .matched ∨ (s.port p).guard.closing = .matchedMarked ∨ (s.port p).guard.closing = .resumed → ∃ t, exec (.fetDamaged p i v) s = .next t ∧ t.rd GUARD.CAUSE p = TripCause.fetDamaged.code ∧ t.on GUARD.GATE_OFF p = true) ∧
  (∀ (p : Port) (u : Int) (n : Nat) (v : Nat) (i : Int) (s : State), s.drives p = true → s.ifastCode p * 15625 ≤ u.natAbs * 100 → 200 ≤ n ∨ (s.port p).guard.closing = .none → ∃ t, exec (.ifast p u n i v) s = .next t ∧ t.rd GUARD.CAUSE p = TripCause.ifast.code ∧ t.on GUARD.GATE_OFF p = true ∧ t.on GUARD.IFAST p = true) ∧
  (∀ (p : Port) (u : Int) (n v : Nat) (i : Int) (s : State), u.natAbs * 100 < s.ifastCode p * 15625 ∨ (n < 200 ∧ (s.port p).guard.closing = .ramp) → exec (.ifast p u n i v) s = .next s) ∧
  (∀ (p : Port) (c : ShortCheck) (i : Int) (v : Nat) (w : Nat) (s : State), s.drives p = true → s.shortFails p c i v w = true → ∃ t, exec (.fetShorted p c i v w) s = .next t ∧ t.rd GUARD.CAUSE p = TripCause.fetShorted.code ∧ t.on GUARD.GATE_OFF p = true) ∧
  (∀ (p : Port) (c : ShortCheck) (i : Int) (v w : Nat) (s : State), s.shortFails p c i v w = false → exec (.fetShorted p c i v w) s = .next s) ∧
  (∀ (p : Port) (s : State), s.rd LOOP.MODE p ≠ mSource ∨ s.running p = false → ∃ t, exec (.limitCounterUpdate p) s = .next t ∧ t.on GUARD.AT_LIMIT p = s.atLimit p ∧ t.on GUARD.CEIL_BINDS p = s.ceilBinds p ∧ t.gst p = s.gst p ∧ (t.port p).guard.limit = (s.port p).guard.limit) ∧
  (∀ (p : Port) (n : Nat) (s : State), s.rd LOOP.MODE p = mSource → s.running p = true → n = limitNext (s.port p).guard.limit (s.tIn p) (s.atLimit p) (s.on GUARD.PPS_EXEMPT p) (s.ceilBinds p) → n < (if s.ceilBinds p then s.rd GUARD.LIM_T_CEIL p * 1000 else s.rd GUARD.LIM_T p) * 3200000 → ∃ t, exec (.limitCounterUpdate p) s = .next t ∧ (t.port p).guard.limit = n ∧ t.gst p = s.gst p) ∧
  (∀ (p : Port) (s : State), s.drives p = true → s.rd LOOP.MODE p = mSource → s.running p = true → s.ceilBinds p = false → s.rd GUARD.LIM_T p * 3200000 ≤ limitNext (s.port p).guard.limit (s.tIn p) (s.atLimit p) (s.on GUARD.PPS_EXEMPT p) false → ∃ t, exec (.limitCounterUpdate p) s = .next t ∧ t.rd GUARD.CAUSE p = TripCause.limit.code ∧ t.on GUARD.GATE_OFF p = true) ∧
  (∀ (p : Port) (s : State), s.drives p = true → s.rd LOOP.MODE p = mSource → s.running p = true → s.ceilBinds p = true → s.rd GUARD.LIM_T_CEIL p * 1000 * 3200000 ≤ limitNext (s.port p).guard.limit (s.tIn p) (s.atLimit p) (s.on GUARD.PPS_EXEMPT p) true → ∃ t, exec (.limitCounterUpdate p) s = .next t ∧ t.rd GUARD.CAUSE p = TripCause.limitCeil.code ∧ t.on GUARD.GATE_OFF p = true)

/-- CURVE_UPDATE: each inner period the accumulator becomes what R276 gives for the curve in use and the current of a switch that is on; on a port this member drives it trips with cause CURVE when it reaches 1; below 1 a guard that is not tripped stays as it is. COMMIT_A and COMMIT_B take a staged curve that passes R278 with no reserved bit set, point by point, and clear LAST_ERR; any other sets LAST_ERR, records BAD_ARG and leaves the curve. RETRY_T_EXPIRY of a tripped guard whose retry time runs, once the accumulator is below one half where the cause was CURVE: the cause clears, the retry is counted and the guard goes to GUARD_DISCHARGE; with a hot accumulator it waits for CURVE_UPDATE, which then does the same. (R276, R277, R278, R280, R283, R287) -/
def Obligations.GuardHeatAndCurves : Prop :=
  (∀ (p : Port) (n : Nat) (s : State), n = heatNext (s.port p).guard.heat (s.tIn p) (s.rd GUARD.T_COOL p) (curveRate ((if s.switchOn p then (s.port p).loop.ibus.natAbs else 0) * 100) ((List.range 8).map (s.curvePoint p (s.curveB p)))) → n < 2 ^ 32 → s.gst p ≠ gTripped → ∃ t, exec (.curveUpdate p) s = .next t ∧ (t.port p).guard.heat = n ∧ t.gst p = s.gst p ∧ t.on GUARD.CURVE_IN_USE p = s.curveB p) ∧
  (∀ (p : Port) (s : State), s.drives p = true → 2 ^ 32 ≤ heatNext (s.port p).guard.heat (s.tIn p) (s.rd GUARD.T_COOL p) (curveRate ((if s.switchOn p then (s.port p).loop.ibus.natAbs else 0) * 100) ((List.range 8).map (s.curvePoint p (s.curveB p)))) → ∃ t, exec (.curveUpdate p) s = .next t ∧ t.rd GUARD.CAUSE p = TripCause.curve.code ∧ t.on GUARD.GATE_OFF p = true) ∧
  (∀ (p : Port) (s : State), curveOk ((List.range 8).map fun k => s.stgPoint p k) = true → (s.port p).guard.stgRsv = 0 → ∃ t, exec (.commitA p) s = .next t ∧ t.on GUARD.LAST_ERR p = false ∧ ∀ k, k < 8 → t.curvePoint p false k = ⟨s.rd GUARD.CURVE_STG_I (pidx p k), s.rd GUARD.CURVE_STG_M (pidx p k) * 2 ^ s.rd GUARD.CURVE_STG_E (pidx p k)⟩) ∧
  (∀ (p : Port) (s : State), curveOk ((List.range 8).map fun k => s.stgPoint p k) = false ∨ (s.port p).guard.stgRsv ≠ 0 → ∃ t, exec (.commitA p) s = .next t ∧ t.on GUARD.LAST_ERR p = true ∧ t.rd (ERR_CODE GUARD.page) p = stBAD_ARG ∧ ∀ k, k < 8 → t.curvePoint p false k = s.curvePoint p false k) ∧
  (∀ (p : Port) (s : State), curveOk ((List.range 8).map fun k => s.stgPoint p k) = true → (s.port p).guard.stgRsv = 0 → ∃ t, exec (.commitB p) s = .next t ∧ t.on GUARD.LAST_ERR p = false ∧ ∀ k, k < 8 → t.curvePoint p true k = ⟨s.rd GUARD.CURVE_STG_I (pidx p k), s.rd GUARD.CURVE_STG_M (pidx p k) * 2 ^ s.rd GUARD.CURVE_STG_E (pidx p k)⟩) ∧
  (∀ (p : Port) (s : State), curveOk ((List.range 8).map fun k => s.stgPoint p k) = false ∨ (s.port p).guard.stgRsv ≠ 0 → ∃ t, exec (.commitB p) s = .next t ∧ t.on GUARD.LAST_ERR p = true ∧ t.rd (ERR_CODE GUARD.page) p = stBAD_ARG ∧ ∀ k, k < 8 → t.curvePoint p true k = s.curvePoint p true k) ∧
  (∀ (p : Port) (s : State), s.gst p = gTripped → (s.port p).guard.retryRun = true → s.rd GUARD.CAUSE p ≠ TripCause.curve.code ∨ (s.port p).guard.heat < 2 ^ 31 → ∃ t, exec (.retryTExpiry p) s = .next t ∧ t.gst p = gDischarge ∧ t.rd GUARD.CAUSE p = 0 ∧ (t.port p).guard.retryRun = false ∧ t.rd GUARD.RETRY_CNT p = min (s.rd GUARD.RETRY_CNT p + 1) (2 ^ 32 - 1)) ∧
  (∀ (p : Port) (s : State), s.gst p = gTripped → (s.port p).guard.retryRun = true → s.rd GUARD.CAUSE p = TripCause.curve.code → 2 ^ 31 ≤ (s.port p).guard.heat → ∃ t, exec (.retryTExpiry p) s = .next t ∧ (t.port p).guard.retryElapsed = true ∧ t.gst p = gTripped) ∧
  (∀ (p : Port) (s : State), s.gst p = gTripped → (s.port p).guard.retryElapsed = true → s.rd GUARD.CAUSE p = TripCause.curve.code → heatNext (s.port p).guard.heat (s.tIn p) (s.rd GUARD.T_COOL p) (curveRate ((if s.switchOn p then (s.port p).loop.ibus.natAbs else 0) * 100) ((List.range 8).map (s.curvePoint p (s.curveB p)))) < 2 ^ 31 → ∃ t, exec (.curveUpdate p) s = .next t ∧ t.gst p = gDischarge ∧ t.rd GUARD.CAUSE p = 0 ∧ t.rd GUARD.RETRY_CNT p = min (s.rd GUARD.RETRY_CNT p + 1) (2 ^ 32 - 1))

/-- FEED_COMMIT_A and FEED_COMMIT_B copy the eight staged curve points of a feed where the curve is valid and no staged word had a reserved bit set; otherwise the curve stays, CURVE_REJECT is raised and BAD_ARG recorded. CLEAR_A and CLEAR_B lift a latched feed, and with REPAIRED a retired one; otherwise nothing happens. FORCE that names an unhealthy feed is denied and stays as it was; any other value is taken: 3 opens both feeds outside a switchover, and a healthy feed that is not selected is switched to, or inserted where none is selected (its current comparator is checked first, unless FAILED). FEED_HEALTHY marks an enabled feed that no trip holds, with both also the other; one not enabled or held by a trip keeps its mark. FEED_WINDOW_LOSS clears the mark and a FORCE of that feed, and a selected feed gives way to the usable other one. AUTO_RETURN, met, switches to the preferred feed, or waits for the end of a switchover; unmet, nothing happens. (R278, R301, R311, R312, R313, R314, R317, R318) -/
def Obligations.FeedsAreCommandedAndHealthy : Prop :=
  (∀ (k : Nat) (s : State), curveOk ((List.range 8).map s.feedStage) = true → s.feeds.stgRsv = 0 → k < 8 → ∃ t, exec (.feedCommitA) s = .next t ∧ t.rd FEED.FCURVE_A_I k = s.rd FEED.FCURVE_STG_I k % 2 ^ FEED.FCURVE_A_I.width ∧ t.rd FEED.FCURVE_A_E k = s.rd FEED.FCURVE_STG_E k % 2 ^ FEED.FCURVE_A_E.width ∧ t.rd FEED.FCURVE_A_M k = s.rd FEED.FCURVE_STG_M k % 2 ^ FEED.FCURVE_A_M.width) ∧
  (∀ (s : State), curveOk ((List.range 8).map s.feedStage) = false ∨ s.feeds.stgRsv ≠ 0 → ∃ t, exec .feedCommitA s = .next t ∧ t.bit (IRQ_STAT FEED.page) 0 FEED.IRQ_CURVE_REJECT = true ∧ t.rd (ERR_CODE FEED.page) 0 = stBAD_ARG ∧ t.rd FEED.FCURVE_A_I 0 = s.rd FEED.FCURVE_A_I 0) ∧
  (∀ (k : Nat) (s : State), curveOk ((List.range 8).map s.feedStage) = true → s.feeds.stgRsv = 0 → k < 8 → ∃ t, exec (.feedCommitB) s = .next t ∧ t.rd FEED.FCURVE_B_I k = s.rd FEED.FCURVE_STG_I k % 2 ^ FEED.FCURVE_B_I.width ∧ t.rd FEED.FCURVE_B_E k = s.rd FEED.FCURVE_STG_E k % 2 ^ FEED.FCURVE_B_E.width ∧ t.rd FEED.FCURVE_B_M k = s.rd FEED.FCURVE_STG_M k % 2 ^ FEED.FCURVE_B_M.width) ∧
  (∀ (s : State), curveOk ((List.range 8).map s.feedStage) = false ∨ s.feeds.stgRsv ≠ 0 → ∃ t, exec .feedCommitB s = .next t ∧ t.bit (IRQ_STAT FEED.page) 0 FEED.IRQ_CURVE_REJECT = true ∧ t.rd (ERR_CODE FEED.page) 0 = stBAD_ARG ∧ t.rd FEED.FCURVE_B_I 0 = s.rd FEED.FCURVE_B_I 0) ∧
  (∀ (b : Bool) (s : State), s.feedLatch 0 = fLatched ∨ (s.feedLatch 0 = fRetired ∧ b = true) → ∃ t, exec (.clearA b) s = .next t ∧ t.feedLatch 0 = fAbsent ∧ t.rd FEED.FD_CAUSE 0 = 0 ∧ t.on FEED.FD_GATE_OFF 0 = true) ∧
  (∀ (b : Bool) (s : State), s.feedLatch 0 ≠ fLatched → s.feedLatch 0 ≠ fRetired ∨ b = false → exec (.clearA b) s = .next s) ∧
  (∀ (b : Bool) (s : State), s.feedLatch 1 = fLatched ∨ (s.feedLatch 1 = fRetired ∧ b = true) → ∃ t, exec (.clearB b) s = .next t ∧ t.feedLatch 1 = fAbsent ∧ t.rd FEED.FD_CAUSE 1 = 0 ∧ t.on FEED.FD_GATE_OFF 1 = true) ∧
  (∀ (b : Bool) (s : State), s.feedLatch 1 ≠ fLatched → s.feedLatch 1 ≠ fRetired ∨ b = false → exec (.clearB b) s = .next s) ∧
  (∀ (f : Feed) (v : Fin 4) (s : State), v.val = f.val + 1 → s.on FEED.FD_HEALTHY f = false → ∃ t, exec (.forceCmd v) s = .next t ∧ t.rd FEED.FORCE 0 = s.rd FEED.FORCE 0 ∧ t.rd (ERR_CODE FEED.page) 0 = stDENIED) ∧
  (∀ (f : Feed) (v : Fin 4) (s : State), v.val = f.val + 1 → s.on FEED.FD_HEALTHY f = true → ∃ t, exec (.forceCmd v) s = .next t ∧ t.rd FEED.FORCE 0 = v.val) ∧
  (∀ (v : Fin 4) (s : State), v = 0 ∨ v = 3 → ∃ t, exec (.forceCmd v) s = .next t ∧ t.rd FEED.FORCE 0 = v.val) ∧
  (∀ (s : State), s.on FEED.SWITCHING 0 = false → ∃ t, exec (.forceCmd 3) s = .next t ∧ t.on FEED.FD_GATE_OFF 0 = true ∧ t.on FEED.FD_GATE_OFF 1 = true ∧ s.selected 0 = true ∨ s.selected 1 = true → t.rd FEED.SEL 0 = 0) ∧
  (∀ (f : Feed) (v : Fin 4) (s : State), v.val = f.val + 1 → s.on FEED.FD_HEALTHY f = true → s.on FEED.SWITCHING 0 = false → s.vcpReady = true → s.ownsPorts = true → s.selected f = false → s.rd FEED.SEL 0 ≠ 0 → ∃ t, exec (.forceCmd v) s = .next t ∧ t.on FEED.SWITCHING 0 = true ∧ t.rd FEED.SEL 0 = f.val + 1 ∧ t.on FEED.FD_GATE_ON (1 - f).val = false ∧ (t.feed f).step = .charge) ∧
  (∀ (f : Feed) (v : Fin 4) (s : State), v.val = f.val + 1 → s.on FEED.FD_HEALTHY f = true → s.on FEED.SWITCHING 0 = false → s.vcpReady = true → s.ownsPorts = true → s.rd FEED.SEL 0 = 0 → s.on FEED.FD_GATE_OFF (1 - f).val = true → ∃ t, exec (.forceCmd v) s = .next t ∧ t.on FEED.SWITCHING 0 = true ∧ t.rd FEED.SEL 0 = f.val + 1 ∧ t.feeds.inserting = true ∧ (t.feed f).step = (if s.monFailed (.feedCur f) then .gate else .check)) ∧
  (∀ (f : Feed) (b : Bool) (s : State), s.on (enField f) 0 = true → s.feedStands f = false → ∃ t, exec (.feedHealthy f b) s = .next t ∧ t.on FEED.FD_HEALTHY f = true) ∧
  (∀ (f : Feed) (s : State), s.on (enField (1 - f)) 0 = true → s.feedStands (1 - f) = false → ∃ t, exec (.feedHealthy f true) s = .next t ∧ t.on FEED.FD_HEALTHY (1 - f).val = true) ∧
  (∀ (f : Feed) (b : Bool) (s : State), s.on (enField f) 0 = false ∨ s.feedStands f = true → ∃ t, exec (.feedHealthy f b) s = .next t ∧ t.on FEED.FD_HEALTHY f = s.on FEED.FD_HEALTHY f) ∧
  (∀ (f : Feed) (s : State), ∃ t, exec (.feedWindowLoss f) s = .next t ∧ t.on FEED.FD_HEALTHY f = false ∧ t.rd FEED.FORCE 0 ≠ f.val + 1) ∧
  (∀ (f : Feed) (s : State), s.selected f = true → s.on FEED.FD_HEALTHY (1 - f).val = true → s.rd FEED.FORCE 0 = 0 ∨ s.rd FEED.FORCE 0 = f.val + 1 → s.feeds.returnDue = false → s.on FEED.SWITCHING 0 = false → s.vcpReady = true → s.ownsPorts = true → ∃ t, exec (.feedWindowLoss f) s = .next t ∧ t.on FEED.SWITCHING 0 = true ∧ t.rd FEED.SEL 0 = (1 - f).val + 1) ∧
  (∀ (s : State), s.returnsFeed = true → s.on FEED.SWITCHING 0 = false → s.vcpReady = true → s.ownsPorts = true → ∃ t, exec .autoReturn s = .next t ∧ t.on FEED.SWITCHING 0 = true ∧ t.rd FEED.SEL 0 = s.prefFeed.val + 1 ∧ t.on FEED.FD_GATE_ON (1 - s.prefFeed).val = false) ∧
  (∀ (s : State), s.returnsFeed = true → s.on FEED.SWITCHING 0 = true → ∃ t, exec .autoReturn s = .next t ∧ t.feeds.returnDue = true ∧ t.rd FEED.SEL 0 = s.rd FEED.SEL 0) ∧
  (∀ (s : State), s.returnsFeed = false → exec .autoReturn s = .next s)

/-- In step charge of a switchover, SWITCHOVER with the outgoing gate off marks it off, and the incoming gate waits for the gap, or trips FET_DAMAGED where it missed its mark; with the outgoing gate still on, that feed trips FET_DAMAGED. GAP_EXPIRY then lets the ramp run. HOT_INSERTION: the 2.0 V mark moves step gate to the ramp, and the bus within 1.0 V of the feed's input moves the ramp to FEED_ENHANCE; a missed mark and a missed 7.0 V gate trip FET_DAMAGED, a ramp that runs out trips RAMP_FAIL; with the bus further off nothing happens. FEED_ON in the last step: the feed is on, an insertion counts in INSERT_CNT, a switchover in SWITCH_CNT. Each of these does nothing where no feed is incoming or it is in another step. OFFER_HOLD_RELEASE ends the hold of a switch that is over and seeds CAP with P_MAX; else nothing happens. HOUSEKEEPING_FRAME puts the second bus code, the feed inputs and the temperatures into their registers. (Trips are those of a feed not yielded.) (R189, R232, R313, R314, R315, R316) -/
def Obligations.FeedsSwitchWithoutAGap : Prop :=
  (∀ (f : Feed) (s : State), s.incoming = some f → (s.feed f).step = .charge → ∃ t, exec (.switchover true true) s = .next t ∧ t.on FEED.FD_GATE_OFF (1 - f).val = true ∧ t.on FEED.FD_GATE_ON (1 - f).val = false ∧ (t.feed f).step = .gap) ∧
  (∀ (f : Feed) (s : State), s.incoming = some f → (s.feed f).step = .charge → s.rd FEED.FD_STATE f ≠ fYielded → ∃ t, exec (.switchover true false) s = .next t ∧ t.rd FEED.FD_CAUSE f = FeedCause.fetDamaged.code ∧ t.on FEED.FD_HEALTHY f = false ∧ t.rd FEED.FEED_TRIP_CNT 0 = min (s.rd FEED.FEED_TRIP_CNT 0 + 1) (2 ^ 32 - 1)) ∧
  (∀ (f : Feed) (b : Bool) (s : State), s.incoming = some f → (s.feed f).step = .charge → s.rd FEED.FD_STATE (1 - f).val ≠ fYielded → ∃ t, exec (.switchover false b) s = .next t ∧ t.rd FEED.FD_CAUSE (1 - f).val = FeedCause.fetDamaged.code ∧ t.on FEED.FD_HEALTHY (1 - f).val = false ∧ t.rd FEED.FEED_TRIP_CNT 0 = min (s.rd FEED.FEED_TRIP_CNT 0 + 1) (2 ^ 32 - 1)) ∧
  (∀ (f : Feed) (s : State), s.incoming = some f → (s.feed f).step = .gap → ∃ t, exec (.gapExpiry) s = .next t ∧ (t.feed f).step = .ramp ∧ t.rd FEED.SEL 0 = s.rd FEED.SEL 0) ∧
  (∀ (f : Feed) (s : State), s.incoming = some f → (s.feed f).step = .gate → ∃ t, exec (.hotInsertion .mark) s = .next t ∧ (t.feed f).step = .ramp) ∧
  (∀ (f : Feed) (s : State), s.incoming = some f → (s.feed f).step = .gate → s.rd FEED.FD_STATE f ≠ fYielded → ∃ t, exec (.hotInsertion .markMissed) s = .next t ∧ t.rd FEED.FD_CAUSE f = FeedCause.fetDamaged.code ∧ t.on FEED.FD_HEALTHY f = false ∧ t.rd FEED.FEED_TRIP_CNT 0 = min (s.rd FEED.FEED_TRIP_CNT 0 + 1) (2 ^ 32 - 1)) ∧
  (∀ (f : Feed) (b : Nat) (v : Nat) (s : State), s.incoming = some f → (s.feed f).step = .ramp → v ≤ b + 1000 → ∃ t, exec (.hotInsertion (.busUp b v)) s = .next t ∧ (t.feed f).step = .enhance ∧ t.rd FEED.FD_STATE f = fEnhance) ∧
  (∀ (f : Feed) (b v : Nat) (s : State), b + 1000 < v → exec (.hotInsertion (.busUp b v)) s = .next s) ∧
  (∀ (f : Feed) (s : State), s.incoming = some f → (s.feed f).step = .ramp → s.rd FEED.FD_STATE f ≠ fYielded → ∃ t, exec (.hotInsertion .rampOut) s = .next t ∧ t.rd FEED.FD_CAUSE f = FeedCause.rampFail.code ∧ t.on FEED.FD_HEALTHY f = false ∧ t.rd FEED.FEED_TRIP_CNT 0 = min (s.rd FEED.FEED_TRIP_CNT 0 + 1) (2 ^ 32 - 1)) ∧
  (∀ (f : Feed) (s : State), s.incoming = some f → (s.feed f).step = .enhance → s.rd FEED.FD_STATE f ≠ fYielded → ∃ t, exec (.hotInsertion .gateMissed) s = .next t ∧ t.rd FEED.FD_CAUSE f = FeedCause.fetDamaged.code ∧ t.on FEED.FD_HEALTHY f = false ∧ t.rd FEED.FEED_TRIP_CNT 0 = min (s.rd FEED.FEED_TRIP_CNT 0 + 1) (2 ^ 32 - 1)) ∧
  (∀ (f : Feed) (s : State), s.incoming = some f → (s.feed f).step = .enhance → s.rd FEED.FORCE 0 = 0 → s.on FEED.FD_HEALTHY f = true → ∃ t, exec (.feedOn) s = .next t ∧ t.rd FEED.FD_STATE f = fOn ∧ t.on FEED.FD_AT_LIMIT f = false ∧ (t.feed f).step = .none) ∧
  (∀ (f : Feed) (s : State), s.incoming = some f → (s.feed f).step = .enhance → s.feeds.inserting = true → ∃ t, exec (.feedOn) s = .next t ∧ t.rd FEED.INSERT_CNT 0 = min (s.rd FEED.INSERT_CNT 0 + 1) (2 ^ 32 - 1) ∧ t.rd FEED.SWITCH_CNT 0 = s.rd FEED.SWITCH_CNT 0) ∧
  (∀ (f : Feed) (s : State), s.incoming = some f → (s.feed f).step = .enhance → s.feeds.inserting = false → ∃ t, exec (.feedOn) s = .next t ∧ t.rd FEED.SWITCH_CNT 0 = min (s.rd FEED.SWITCH_CNT 0 + 1) (2 ^ 32 - 1) ∧ t.rd FEED.INSERT_CNT 0 = s.rd FEED.INSERT_CNT 0) ∧
  (∀ (a : Bool) (b : Bool) (s : State), s.incoming = none → exec (.switchover a b) s = .next s) ∧
  (∀ (s : State), s.incoming = none → exec .gapExpiry s = .next s) ∧
  (∀ (e : InsertEv) (s : State), s.incoming = none → exec (.hotInsertion e) s = .next s) ∧
  (∀ (s : State), s.incoming = none → exec .feedOn s = .next s) ∧
  (∀ (f : Feed) (a : Bool) (b : Bool) (s : State), s.incoming = some f → (s.feed f).step ≠ .charge → exec (.switchover a b) s = .next s) ∧
  (∀ (f : Feed) (s : State), s.incoming = some f → (s.feed f).step ≠ .gap → exec .gapExpiry s = .next s) ∧
  (∀ (f : Feed) (e : InsertEv) (s : State), s.incoming = some f → (s.feed f).step ≠ .gate → (s.feed f).step ≠ .ramp → (s.feed f).step ≠ .enhance → exec (.hotInsertion e) s = .next s) ∧
  (∀ (f : Feed) (s : State), s.incoming = some f → (s.feed f).step ≠ .enhance → exec .feedOn s = .next s) ∧
  (∀ (s : State), s.feeds.holdFeed = true → s.on FEED.SWITCHING 0 = false → s.rd FEED.SEL 0 ≠ 0 → ∃ t, exec .offerHoldRelease s = .next t ∧ t.feeds.holdFeed = false ∧ t.bud.cap = s.pMax * 10 ^ 6) ∧
  (∀ (s : State), s.feeds.holdFeed = false ∨ s.on FEED.SWITCHING 0 = true ∨ s.rd FEED.SEL 0 = 0 → exec .offerHoldRelease s = .next s) ∧
  (∀ (a : BitVec 12) (b : BitVec 12) (fa : BitVec 12) (fb : BitVec 12) (ia : BitVec 12) (ib : BitVec 12) (d : BitVec 16) (e : BitVec 16) (r : RailRead) (s : State), ∃ t, exec (.housekeepingFrame ⟨a, b⟩ fa fb ia ib d e r) s = .next t ∧ t.busV = s.voltQ (s.rd ADC.HK_ADC 0) b.toNat ∧ t.rd FEED.FD_VIN 0 = milliU (s.voltQ (s.rd ADC.HK_ADC 0) fa.toNat) % 2 ^ 16 ∧ t.rd FEED.FD_VIN 1 = milliU (s.voltQ (s.rd ADC.HK_ADC 0) fb.toNat) % 2 ^ 16 ∧ t.rd ADC.T_DIE 0 = d.toNat ∧ t.rd ADC.T_EXT 0 = e.toNat)

/-- FEED_TRIP records, of the causes met (IFAST only above its threshold), the one first in the table of R316: the feed is unhealthy, tripped, latched past RETRY_MAX or retired, and the trip is counted; where no cause is met, and on a yielded feed, nothing happens. FEED_RETRY_EXPIRY of a tripped feed: it is judged afresh, unless the cause was CURVE and its heat is 50 % or more, when it waits for that; of any other feed nothing happens. FEED_REVERSE of the selected feed at -REV_TH or below: the feed is unhealthy, open and counted; otherwise nothing happens. BUS_LOSS below, and BUS_OV above, a threshold that watches, not seen yet: the flag is set and counted; an unarmed loss puts R180's ceiling on every attached source and holds the offers; otherwise nothing happens. BUS_OV_CLEARED and BUS_RECOVERED clear the flags; the hold of an unfired loss ends with its ceilings (the model's choice, assumption 192). SUPPLY_FAULT outside the window of VCP or VCONN_IN is counted and stands, inside it nothing happens; SUPPLY_RECOVERED ends it. (R180, R290, R312, R316, R317, R319, R320, R321, R322, R323) -/
def Obligations.FeedsTripAndTheBusIsGuarded : Prop :=
  (∀ (f : Feed) (c : FeedCause) (o : List FeedCause) (i : Int) (s : State), s.rd FEED.FD_STATE f ≠ fYielded → s.feedCauseMet f i c = true → o.all (fun x => decide (c.order ≤ x.order)) = true → ∃ t, exec (.feedTrip f c o i) s = .next t ∧ t.rd FEED.FD_CAUSE f = c.code ∧ t.on FEED.FD_HEALTHY f = false ∧ t.on FEED.FD_GATE_ON f = false ∧ t.rd FEED.FEED_TRIP_CNT 0 = min (s.rd FEED.FEED_TRIP_CNT 0 + 1) (2 ^ 32 - 1)) ∧
  (∀ (f : Feed) (c : FeedCause) (d : FeedCause) (i : Int) (s : State), s.rd FEED.FD_STATE f ≠ fYielded → s.feedCauseMet f i c = false → s.feedCauseMet f i d = true → ∃ t, exec (.feedTrip f c [d] i) s = .next t ∧ t.rd FEED.FD_CAUSE f = d.code ∧ t.on FEED.FD_HEALTHY f = false) ∧
  (∀ (f : Feed) (c : FeedCause) (o : List FeedCause) (i : Int) (s : State), (c :: o).all (fun x => !s.feedCauseMet f i x) = true → exec (.feedTrip f c o i) s = .next s) ∧
  (∀ (f : Feed) (c : FeedCause) (o : List FeedCause) (i : Int) (s : State), s.rd FEED.FD_STATE f = fYielded → exec (.feedTrip f c o i) s = .next s) ∧
  (∀ (f : Feed) (s : State), s.feedLatch f = fTripped → s.rd FEED.FD_CAUSE f ≠ FeedCause.curve.code ∨ (s.feed f).heat < 2 ^ 31 → ∃ t, exec (.feedRetryExpiry f) s = .next t ∧ t.feedLatch f = fAbsent ∧ t.rd FEED.FD_CAUSE f = 0) ∧
  (∀ (f : Feed) (s : State), s.feedLatch f = fTripped → s.rd FEED.FD_CAUSE f = FeedCause.curve.code → 2 ^ 31 ≤ (s.feed f).heat → ∃ t, exec (.feedRetryExpiry f) s = .next t ∧ (t.feed f).retryElapsed = true ∧ t.feedLatch f = fTripped) ∧
  (∀ (f : Feed) (s : State), s.feedLatch f ≠ fTripped → exec (.feedRetryExpiry f) s = .next s) ∧
  (∀ (f : Feed) (i : Int) (s : State), s.selected f = true → i ≤ -(10 * s.rd FEED.FD_REV_TH f : Int) → ∃ t, exec (.feedReverse f i) s = .next t ∧ t.on FEED.FD_HEALTHY f = false ∧ t.on FEED.FD_GATE_ON f = false ∧ t.rd FEED.REVERSE_CNT 0 = min (s.rd FEED.REVERSE_CNT 0 + 1) (2 ^ 32 - 1)) ∧
  (∀ (f : Feed) (i : Int) (s : State), s.selected f = false ∨ -(10 * s.rd FEED.FD_REV_TH f : Int) < i → exec (.feedReverse f i) s = .next s) ∧
  (∀ (v : Nat) (s : State), v < s.busLo → actsLo (s.rd FEED.BUS_MON_MODE 0) = true → s.on FEED.BUS_LOSS 0 = false → ∃ t, exec (.busLoss v) s = .next t ∧ t.on FEED.BUS_LOSS 0 = true ∧ t.rd FEED.BUS_LOSS_CNT 0 = min (s.rd FEED.BUS_LOSS_CNT 0 + 1) (2 ^ 32 - 1)) ∧
  (∀ (v : Nat) (p : Port) (s : State), v < s.busLo → actsLo (s.rd FEED.BUS_MON_MODE 0) = true → s.on FEED.BUS_LOSS 0 = false → s.on FEED.ARMED 0 = false → s.isSrc p = true → ∃ t, exec (.busLoss v) s = .next t ∧ t.feeds.holdBus = true ∧ t.on BUDGET.VALID p = true ∧ t.rd BUDGET.I_SHED p = 100 * s.role.islShed.get p % 2 ^ BUDGET.I_SHED.width) ∧
  (∀ (v : Nat) (s : State), v < s.busLo → actsLo (s.rd FEED.BUS_MON_MODE 0) = true → s.on FEED.BUS_LOSS 0 = false → s.on FEED.ARMED 0 = true → s.role.bankFrs = true → ∃ t, exec (.busLoss v) s = .next t ∧ t.island ≠ none ∧ t.on BUDGET.HOLD 0 = true) ∧
  (∀ (v : Nat) (s : State), s.busLo ≤ v ∨ actsLo (s.rd FEED.BUS_MON_MODE 0) = false ∨ s.on FEED.BUS_LOSS 0 = true → exec (.busLoss v) s = .next s) ∧
  (∀ (v : Nat) (s : State), s.busHi < v → actsHi (s.rd FEED.BUS_MON_MODE 0) = true → s.on FEED.BUS_OV 0 = false → ∃ t, exec (.busOv v) s = .next t ∧ t.on FEED.BUS_OV 0 = true ∧ t.supply.busOvHold = true ∧ t.rd FEED.BUS_OV_CNT 0 = min (s.rd FEED.BUS_OV_CNT 0 + 1) (2 ^ 32 - 1)) ∧
  (∀ (v : Nat) (s : State), v ≤ s.busHi ∨ actsHi (s.rd FEED.BUS_MON_MODE 0) = false ∨ s.on FEED.BUS_OV 0 = true → exec (.busOv v) s = .next s) ∧
  (∀ (s : State), ∃ t, exec .busOvCleared s = .next t ∧ t.on FEED.BUS_OV 0 = false ∧ t.supply.busOvHold = false) ∧
  (∀ (s : State), ∃ t, exec .busRecovered s = .next t ∧ t.on FEED.BUS_LOSS 0 = false ∧ t.feeds.holdBus = false) ∧
  (∀ (p : Port) (s : State), s.feeds.holdBus = true → s.island = none → (s.port p).swap.ceilinged = true → s.on BUDGET.VALID p = true → s.rd BUDGET.SRC p = 1 → ∃ t, exec (.busRecovered) s = .next t ∧ t.on BUDGET.VALID p = false ∧ (t.port p).swap.ceilinged = false) ∧
  (∀ (x : Supply) (v : Nat) (s : State), s.supplyOut x (v * 1000) = true → ∃ t, exec (.supplyFault x v) s = .next t ∧ (match x with | .vcp => t.supply.vcpOut | .vconnIn => t.supply.vconnInOut) = true ∧ t.rd FEED.SUPPLY_FAULT_CNT 0 = min (s.rd FEED.SUPPLY_FAULT_CNT 0 + 1) (2 ^ 32 - 1)) ∧
  (∀ (x : Supply) (v : Nat) (s : State), s.supplyOut x (v * 1000) = false → exec (.supplyFault x v) s = .next s) ∧
  (∀ (x : Supply) (s : State), ∃ t, exec (.supplyRecovered x) s = .next t ∧ (match x with | .vcp => t.supply.vcpOut | .vconnIn => t.supply.vconnInOut) = false)

/-- On a device that serves, every well formed command answers as said and every other BAD_ARG; a standby serves LEDGER_READ only and answers the rest DENIED. LEDGER_READ answers the bytes of a record, of an empty slot no bytes. LEDGER_FIND of a port answers the slot of its session, of a key (8 bytes, TARGET 0xFFFF) the slot that holds it, 0xFFFFFFFF where there is none. LEDGER_WRITE_USER writes the 16 user bytes; ARG 1 sets PINNED, ARG 2 clears it; an empty slot answers BAD_ARG. LEDGER_EXPORT answers at most 31 entries from the slot of ARG on (bit 31: only those changed since EXPORT_MARK), with the next slot, or 0xFFFFFFFF at the end, when bit 30 moves EXPORT_MARK to SEQ_NOW. LEDGER_PURGE of one slot removes a record neither pinned nor attached (answer 1), leaves one that is (DENIED), and answers 0 for an empty slot; of many (ARG kind 1 or 2) it removes those of the list and answers how many. (R329, R335, R343, R344, R363, R471) -/
def Obligations.LedgerCommandsAnswer : Prop :=
  (∀ (k : Packet) (r : LedRec) (s : State), s.serves = true → k.tgt < ledgerSlots → k.plain = true → s.record k.tgt = some r → AwaitsResponse k ((recBytes r)) s → ∃ t, exec (.ledgerRead k) s = .next t ∧ Responded k stOK ((recBytes r)) s t) ∧
  (∀ (k : Packet) (s : State), s.serves = true → k.tgt < ledgerSlots → k.plain = true → s.record k.tgt = none → AwaitsResponse k [] s → ∃ t, exec (.ledgerRead k) s = .next t ∧ Responded k stOK [] s t) ∧
  (∀ (k : Packet) (s : State), s.serves = true → ledgerSlots ≤ k.tgt ∨ k.plain = false → AwaitsResponse k [] s → ∃ t, exec (.ledgerRead k) s = .next t ∧ Responded k stBAD_ARG [] s t) ∧
  (∀ (k : Packet) (s : State), s.serves = true → s.standby = false → k.portOf = none → k.chip = true → k.len = 8 → k.arg = 0 → AwaitsResponse k [] s → ∃ t n, exec (.ledgerFind k) s = .next t ∧ (t.ring 4).entries = (s.ring 4).entries ++ [.pkt { k with flags := 0, arg := BitVec.ofNat 32 ((s.findKey (leNat k.payload)).getD 0xFFFFFFFF), payload := [] } n]) ∧
  (∀ (k : Packet) (p : Port) (s : State), s.serves = true → s.standby = false → k.portOf = some p → k.plain = true → AwaitsResponse k [] s → ∃ t n, exec (.ledgerFind k) s = .next t ∧ (t.ring 4).entries = (s.ring 4).entries ++ [.pkt { k with flags := 0, arg := BitVec.ofNat 32 ((if s.on LEDGER.SESSION p then (s.port p).sess.slot else none).getD 0xFFFFFFFF), payload := [] } n]) ∧
  (∀ (k : Packet) (p : Port) (s : State), s.serves = true → s.standby = false → k.portOf = some p → k.plain = false → AwaitsResponse k [] s → ∃ t, exec (.ledgerFind k) s = .next t ∧ Responded k stBAD_ARG [] s t) ∧
  (∀ (k : Packet) (s : State), s.serves = true → s.standby = false → k.portOf = none → k.chip = false ∨ k.len ≠ 8 ∨ k.arg ≠ 0 → AwaitsResponse k [] s → ∃ t, exec (.ledgerFind k) s = .next t ∧ Responded k stBAD_ARG [] s t) ∧
  (∀ (k : Packet) (s : State), s.serves = true → s.standby = true → AwaitsResponse k [] s → ∃ t, exec (.ledgerFind k) s = .next t ∧ Responded k stDENIED [] s t) ∧
  (∀ (k : Packet) (r : LedRec) (s : State), s.serves = true → s.standby = false → k.tgt < ledgerSlots → k.ar < 3 → k.len = 16 → s.record k.tgt = some r → AwaitsResponse k [] s → ∃ t, exec (.ledgerWriteUser k) s = .next t ∧ Responded k stOK [] s t ∧ (t.record k.tgt).map (·.user) = some k.payload ∧ (t.record k.tgt).map (recFlag · rfPinned) = some (if k.ar = 1 then true else if k.ar = 2 then false else recFlag r rfPinned)) ∧
  (∀ (k : Packet) (s : State), s.serves = true → s.standby = false → k.tgt < ledgerSlots → k.ar < 3 → k.len = 16 → s.record k.tgt = none → AwaitsResponse k [] s → ∃ t, exec (.ledgerWriteUser k) s = .next t ∧ Responded k stBAD_ARG [] s t) ∧
  (∀ (k : Packet) (s : State), s.serves = true → s.standby = false → ledgerSlots ≤ k.tgt ∨ 3 ≤ k.ar ∨ k.len ≠ 16 → AwaitsResponse k [] s → ∃ t, exec (.ledgerWriteUser k) s = .next t ∧ Responded k stBAD_ARG [] s t) ∧
  (∀ (k : Packet) (s : State), s.serves = true → s.standby = true → AwaitsResponse k [] s → ∃ t, exec (.ledgerWriteUser k) s = .next t ∧ Responded k stDENIED [] s t) ∧
  (∀ (k : Packet) (s : State), s.serves = true → s.standby = false → k.chip = true → k.payload = [] → bits k.ar 29 13 = 0 → AwaitsResponse k (((s.led.recs.filter fun x => decide (k.ar % 8192 ≤ x.1) && (!k.ar.testBit 31 || decide (s.rd LEDGER.MARK 0 < x.2.seq))).take 31).flatMap exportEntry) s → ∃ t n, exec (.ledgerExport k) s = .next t ∧ (t.ring 4).entries = (s.ring 4).entries ++ [.pkt { k with flags := 0, arg := (match (s.led.recs.filter fun x => decide (k.ar % 8192 ≤ x.1) && (!k.ar.testBit 31 || decide (s.rd LEDGER.MARK 0 < x.2.seq))).drop 31 with | x :: _ => BitVec.ofNat 32 x.1 | [] => 0xFFFFFFFF), payload := ((s.led.recs.filter fun x => decide (k.ar % 8192 ≤ x.1) && (!k.ar.testBit 31 || decide (s.rd LEDGER.MARK 0 < x.2.seq))).take 31).flatMap exportEntry } n]) ∧
  (∀ (k : Packet) (s : State), s.serves = true → s.standby = false → k.chip = true → k.payload = [] → bits k.ar 29 13 = 0 → k.ar.testBit 30 = true → ((s.led.recs.filter fun x => decide (k.ar % 8192 ≤ x.1) && (!k.ar.testBit 31 || decide (s.rd LEDGER.MARK 0 < x.2.seq))).drop 31).isEmpty = true → ∃ t, exec (.ledgerExport k) s = .next t ∧ t.rd LEDGER.MARK 0 = s.rd LEDGER.SEQ_NOW 0 % 2 ^ LEDGER.MARK.width) ∧
  (∀ (k : Packet) (s : State), s.serves = true → s.standby = false → k.chip = false ∨ k.payload ≠ [] ∨ bits k.ar 29 13 ≠ 0 → AwaitsResponse k [] s → ∃ t, exec (.ledgerExport k) s = .next t ∧ Responded k stBAD_ARG [] s t) ∧
  (∀ (k : Packet) (s : State), s.serves = true → s.standby = true → AwaitsResponse k [] s → ∃ t, exec (.ledgerExport k) s = .next t ∧ Responded k stDENIED [] s t) ∧
  (∀ (k : Packet) (s : State), s.serves = true → s.standby = false → k.payload.isEmpty = true → k.ar = 0 → k.tgt < ledgerSlots → s.record k.tgt = none → AwaitsResponse k [] s → ∃ t n, exec (.ledgerPurge k) s = .next t ∧ (t.ring 4).entries = (s.ring 4).entries ++ [.pkt { k with flags := 0, arg := 0, payload := [] } n]) ∧
  (∀ (k : Packet) (r : LedRec) (s : State), s.serves = true → s.standby = false → k.payload.isEmpty = true → k.ar = 0 → k.tgt < ledgerSlots → s.record k.tgt = some r → keepsPurge r = false → AwaitsResponse k [] s → ∃ t n, exec (.ledgerPurge k) s = .next t ∧ (t.ring 4).entries = (s.ring 4).entries ++ [.pkt { k with flags := 0, arg := 1, payload := [] } n] ∧ t.record k.tgt = none) ∧
  (∀ (k : Packet) (r : LedRec) (s : State), s.serves = true → s.standby = false → k.payload.isEmpty = true → k.ar = 0 → k.tgt < ledgerSlots → s.record k.tgt = some r → keepsPurge r = true → AwaitsResponse k [] s → ∃ t, exec (.ledgerPurge k) s = .next t ∧ Responded k stDENIED [] s t) ∧
  (∀ (k : Packet) (s : State), s.serves = true → s.standby = false → k.payload.isEmpty = true → k.chip = true → (k.ar / 2 ^ 24 = 1 ∧ k.ar % 2 ^ 24 = 0) ∨ (k.ar / 2 ^ 24 = 2 ∧ bits k.ar 23 16 = 0) → AwaitsResponse k [] s → ∃ t n, exec (.ledgerPurge k) s = .next t ∧ (t.ring 4).entries = (s.ring 4).entries ++ [.pkt { k with flags := 0, arg := BitVec.ofNat 32 (s.purgeList k).length, payload := [] } n] ∧ (s.purgeList k).all (fun i => (t.record i).isNone) = true) ∧
  (∀ (k : Packet) (s : State), s.serves = true → s.standby = false → k.payload.isEmpty = false ∨ 3 ≤ k.ar / 2 ^ 24 ∨ (k.ar / 2 ^ 24 = 0 ∧ (ledgerSlots ≤ k.tgt ∨ k.ar ≠ 0)) ∨ (k.ar / 2 ^ 24 = 1 ∧ (k.chip = false ∨ k.ar % 2 ^ 24 ≠ 0)) ∨ (k.ar / 2 ^ 24 = 2 ∧ (k.chip = false ∨ bits k.ar 23 16 ≠ 0)) → AwaitsResponse k [] s → ∃ t, exec (.ledgerPurge k) s = .next t ∧ Responded k stBAD_ARG [] s t) ∧
  (∀ (k : Packet) (s : State), s.serves = true → s.standby = true → AwaitsResponse k [] s → ∃ t, exec (.ledgerPurge k) s = .next t ∧ Responded k stDENIED [] s t)

/-- On the owner, in an open session of a port that a Twill carries, IDENTITY_GATHERING starts with Discover Identity on a DFP, on a UFP with Get_Manufacturer_Info, or with the key where the partner is at Revision 2.0; each step's end, answered or not, keeps its answer and goes on: to the Manufacturer String (or the key), the battery capabilities, the battery status, and the key; a later status reply ends its wait. Without such a session nothing happens. BATTERY_STATUS_REFRESH asks for the status in a session whose key is known; else nothing happens. AUTHENTICATION starts with the digest request; the digest skips to the challenge or fetches the chain; pieces are gathered, and the whole chain good goes on to the challenge, too long or bad ends in state 2; the signature ends it in 1 or 3; silence repeats the request once, then ends it in 5; Not_Supported ends it in 4. SESSION_CLOSE closes a session that has ended. LEDGER_JOURNAL of a changed record writes one entry, or reports LEDGER_FLASH where the write fails or the journal is full. LEDGER_COMPACTION starts over 75 %, and done moves the records and empties the journal. In any other step nothing happens. (R329, R330, R331, R332, R333, R336, R338, R339, R340) -/
def Obligations.SessionsGatherAndClose : Prop :=
  (∀ (p : Port) (s : State), (s.port p).sess.isOpen = true → s.standby = false → s.carriedByTwill p = true → (s.port p).sess.idStep = 0 → (s.port p).sess.known = false → s.rd PD.HDR_DATA_ROLE p = 1 → ∃ t, exec (.identityGathering p .start) s = .next t ∧ (t.port p).sess.idStep = 2 ∧ (t.port p).pe.await = .discoverId) ∧
  (∀ (p : Port) (s : State), (s.port p).sess.isOpen = true → s.standby = false → s.carriedByTwill p = true → (s.port p).sess.idStep = 0 → (s.port p).sess.known = false → s.rd PD.HDR_DATA_ROLE p ≠ 1 → s.rev3 p = true → ∃ t, exec (.identityGathering p .start) s = .next t ∧ (t.port p).sess.idStep = 3 ∧ (t.port p).pe.await = .manufInfo) ∧
  (∀ (p : Port) (s : State), (s.port p).sess.isOpen = true → s.standby = false → s.carriedByTwill p = true → (s.port p).sess.idStep = 0 → (s.port p).sess.known = false → s.rd PD.HDR_DATA_ROLE p ≠ 1 → s.rev3 p = false → ∃ t, exec (.identityGathering p .start) s = .next t ∧ (t.port p).sess.idStep = 0 ∧ (t.port p).sess.known = true) ∧
  (∀ (p : Port) (s : State), (s.port p).sess.idStep ≠ 0 ∨ (s.port p).sess.known = true → exec (.identityGathering p .start) s = .next s) ∧
  (∀ (p : Port) (v : Nat) (d : Nat) (c : Nat) (s : State), (s.port p).sess.isOpen = true → s.standby = false → s.carriedByTwill p = true → (s.port p).sess.idStep = 2 → s.rev3 p = true → ∃ t, exec (.identityGathering p (.identity (some (v, d, c)))) s = .next t ∧ (t.port p).sess.vid = v % 2 ^ 16 ∧ (t.port p).sess.pid = d % 2 ^ 16 ∧ (t.port p).sess.xid = c % 2 ^ 32 ∧ (t.port p).sess.idStep = 3 ∧ (t.port p).pe.await = .manufInfo) ∧
  (∀ (p : Port) (s : State), (s.port p).sess.isOpen = true → s.standby = false → s.carriedByTwill p = true → (s.port p).sess.idStep = 2 → s.rev3 p = true → ∃ t, exec (.identityGathering p (.identity none)) s = .next t ∧ (t.port p).sess.idStep = 3 ∧ (t.port p).pe.await = .manufInfo ∧ (t.port p).sess.vid = (s.port p).sess.vid) ∧
  (∀ (p : Port) (r : Option (Nat × Nat × Nat)) (s : State), (s.port p).sess.isOpen = true → s.standby = false → s.carriedByTwill p = true → (s.port p).sess.idStep = 2 → s.rev3 p = false → ∃ t, exec (.identityGathering p (.identity r)) s = .next t ∧ (t.port p).sess.idStep = 0 ∧ (t.port p).sess.known = true) ∧
  (∀ (p : Port) (r : Option (Nat × Nat × Nat)) (s : State), (s.port p).sess.idStep ≠ 2 → exec (.identityGathering p (.identity r)) s = .next s) ∧
  (∀ (p : Port) (r : Option (List Byte)) (s : State), (s.port p).sess.isOpen = true → s.standby = false → s.carriedByTwill p = true → (s.port p).sess.idStep = 3 → ∃ t, exec (.identityGathering p (.manufacturer r)) s = .next t ∧ (t.port p).sess.idStep = 4 ∧ (t.port p).sess.serial = serialDig (r.getD []) ∧ (t.port p).pe.await = .batteryCap) ∧
  (∀ (p : Port) (r : Option (List Byte)) (s : State), (s.port p).sess.idStep ≠ 3 → exec (.identityGathering p (.manufacturer r)) s = .next s) ∧
  (∀ (p : Port) (r : Option BatCap) (s : State), (s.port p).sess.isOpen = true → s.standby = false → s.carriedByTwill p = true → (s.port p).sess.idStep = 4 → ∃ t, exec (.identityGathering p (.battery r)) s = .next t ∧ (t.port p).sess.idStep = 5 ∧ (t.port p).sess.batt = r.filter (fun b => !b.invalid) ∧ (t.port p).pe.await = .batteryStatus) ∧
  (∀ (p : Port) (r : Option BatCap) (s : State), (s.port p).sess.idStep ≠ 4 → exec (.identityGathering p (.battery r)) s = .next s) ∧
  (∀ (p : Port) (r : Option Nat) (s : State), (s.port p).sess.isOpen = true → s.standby = false → s.carriedByTwill p = true → (s.port p).sess.idStep = 5 → ∃ t, exec (.identityGathering p (.status r)) s = .next t ∧ (t.port p).sess.idStep = 0 ∧ (t.port p).sess.known = true) ∧
  (∀ (p : Port) (r : Option Nat) (s : State), (s.port p).sess.isOpen = true → s.standby = false → s.carriedByTwill p = true → (s.port p).sess.idStep = 0 → (s.port p).pe.await = .batteryStatus → ∃ t, exec (.identityGathering p (.status r)) s = .next t ∧ (t.port p).pe.await = .none ∧ (t.port p).sess.idStep = 0) ∧
  (∀ (p : Port) (e : IdEvent) (s : State), (s.port p).sess.isOpen = false ∨ s.standby = true ∨ s.carriedByTwill p = false → exec (.identityGathering p e) s = .next s) ∧
  (∀ (p : Port) (s : State), (s.port p).sess.isOpen = true → s.standby = false → s.carriedByTwill p = true → (s.port p).sess.idStep = 0 → (s.port p).sess.known = true → s.rev3 p = true → ∃ t, exec (.batteryStatusRefresh p) s = .next t ∧ (t.port p).pe.await = .batteryStatus ∧ (t.port p).sess.battAt = s.up) ∧
  (∀ (p : Port) (s : State), (s.port p).sess.isOpen = false ∨ s.standby = true ∨ s.carriedByTwill p = false ∨ (s.port p).sess.idStep ≠ 0 ∨ (s.port p).sess.known = false ∨ s.rev3 p = false → exec (.batteryStatusRefresh p) s = .next s) ∧
  (∀ (p : Port) (s : State), (s.port p).sess.isOpen = true → s.standby = false → (s.port p).sess.known = true → (s.port p).sess.slot.isSome = true → (s.port p).sess.authStep = 0 → (s.port p).sess.authDone = false → s.authMode p = 1 ∨ s.authMode p = 2 → ∃ t, exec (.authentication p .start) s = .next t ∧ t.rd LEDGER.AUTH_STATE p = 6 ∧ (t.port p).sess.authStep = 1 ∧ (t.port p).pe.await = .digests) ∧
  (∀ (p : Port) (d : List Byte) (r : LedRec) (s : State), (s.port p).sess.isOpen = true → s.standby = false → (s.port p).sess.authStep = 1 → (s.port p).sess.slot.bind s.record = some r → s.authSkips (s.port p).sess r d = true → ∃ t, exec (.authentication p (.digest d)) s = .next t ∧ (t.port p).sess.authStep = 5 ∧ (t.port p).pe.await = .challenge ∧ (t.port p).sess.digest = d) ∧
  (∀ (p : Port) (d : List Byte) (s : State), (s.port p).sess.isOpen = true → s.standby = false → (s.port p).sess.authStep = 1 → (s.port p).sess.slot.bind s.record = none → ∃ t, exec (.authentication p (.digest d)) s = .next t ∧ (t.port p).sess.authStep = 3 ∧ (t.port p).pe.await = .certificate ∧ (t.port p).sess.digest = d ∧ (t.port p).sess.chain = []) ∧
  (∀ (p : Port) (d : List Byte) (r : LedRec) (s : State), (s.port p).sess.isOpen = true → s.standby = false → (s.port p).sess.authStep = 1 → (s.port p).sess.slot.bind s.record = some r → s.authSkips (s.port p).sess r d = false → ∃ t, exec (.authentication p (.digest d)) s = .next t ∧ (t.port p).sess.authStep = 3 ∧ (t.port p).pe.await = .certificate ∧ (t.port p).sess.digest = d ∧ (t.port p).sess.chain = []) ∧
  (∀ (p : Port) (n : Nat) (l : List Byte) (s : State), (s.port p).sess.isOpen = true → s.standby = false → (s.port p).sess.authStep = 3 → 4096 < n → ∃ t, exec (.authentication p (.piece n l)) s = .next t ∧ t.rd LEDGER.AUTH_STATE p = 2 ∧ (t.port p).sess.authStep = 0 ∧ (t.port p).sess.authDone = true) ∧
  (∀ (p : Port) (n : Nat) (l : List Byte) (s : State), (s.port p).sess.isOpen = true → s.standby = false → (s.port p).sess.authStep = 3 → n ≤ 4096 → ((s.port p).sess.chain ++ l.take 256).length < n → l ≠ [] → ∃ t, exec (.authentication p (.piece n l)) s = .next t ∧ (t.port p).sess.authStep = 3 ∧ (t.port p).pe.await = .certificate ∧ (t.port p).sess.chain = (s.port p).sess.chain ++ l.take 256) ∧
  (∀ (p : Port) (n : Nat) (l : List Byte) (s : State), (s.port p).sess.isOpen = true → s.standby = false → (s.port p).sess.authStep = 3 → n ≤ 4096 → n ≤ ((s.port p).sess.chain ++ l.take 256).length ∨ l = [] → ∃ t, exec (.authentication p (.piece n l)) s = .next t ∧ (if sha256 ((s.port p).sess.chain ++ l.take 256) = (s.port p).sess.digest ∧ s.chainGood ((s.port p).sess.chain ++ l.take 256) = true then (t.port p).sess.authStep = 5 ∧ (t.port p).pe.await = .challenge else t.rd LEDGER.AUTH_STATE p = 2 ∧ (t.port p).sess.authStep = 0 ∧ (t.port p).sess.authDone = true)) ∧
  (∀ (p : Port) (d : List Byte) (s : State), (s.port p).sess.isOpen = true → s.standby = false → (s.port p).sess.authStep = 5 → ∃ t, exec (.authentication p (.signature d)) s = .next t ∧ t.rd LEDGER.AUTH_STATE p = (if ecdsaVerify (leafOf (s.port p).sess) (sha256 (Config.challengeBytes (s.port p).sess.nonce)) d then 1 else 3) ∧ (t.port p).sess.authStep = 0 ∧ (t.port p).sess.authDone = true) ∧
  (∀ (p : Port) (s : State), (s.port p).sess.isOpen = true → s.standby = false → (s.port p).sess.authStep ≠ 0 → (s.port p).sess.resent = true → ∃ t, exec (.authentication p .silent) s = .next t ∧ t.rd LEDGER.AUTH_STATE p = 5 ∧ (t.port p).sess.authStep = 0 ∧ (t.port p).sess.authDone = true) ∧
  (∀ (p : Port) (s : State), (s.port p).sess.isOpen = true → s.standby = false → (s.port p).sess.authStep ≠ 0 → (s.port p).sess.resent = false → ∃ t, exec (.authentication p .silent) s = .next t ∧ (t.port p).sess.authStep = (s.port p).sess.authStep ∧ (t.port p).sess.resent = true) ∧
  (∀ (p : Port) (s : State), (s.port p).sess.isOpen = true → s.standby = false → (s.port p).sess.authStep ≠ 0 → ∃ t, exec (.authentication p .unsupported) s = .next t ∧ t.rd LEDGER.AUTH_STATE p = 4 ∧ (t.port p).sess.authStep = 0 ∧ (t.port p).sess.authDone = true) ∧
  (∀ (p : Port) (e : AuthEvent) (s : State), (s.port p).sess.isOpen = false ∨ s.standby = true → exec (.authentication p e) s = .next s) ∧
  (∀ (p : Port) (s : State), (s.port p).sess.ended = true → (s.port p).sess.isOpen = false → s.standby = false → ∃ t, exec (.sessionClose p) s = .next t ∧ (t.port p).sess = Session.closed ∧ t.on LEDGER.SESSION p = false ∧ t.rd LEDGER.SLOT p = 0) ∧
  (∀ (p : Port) (s : State), (s.port p).sess.ended = false ∨ (s.port p).sess.isOpen = true ∨ s.standby = true → exec (.sessionClose p) s = .next s) ∧
  (∀ (i : Fin 8192) (s : State), i.val ∈ s.led.dirty ∨ allPorts.any (s.slotHeld i) = true → s.led.journal.length < journalSlots → ∃ t, exec (.ledgerJournal i true) s = .next t ∧ t.led.journal.length = s.led.journal.length + 1 ∧ i.val ∉ t.led.dirty ∧ t.rd LEDGER.JOURNAL_CNT 0 = min (s.rd LEDGER.JOURNAL_CNT 0 + 1) (2 ^ 32 - 1)) ∧
  (∀ (i : Fin 8192) (b : Bool) (s : State), i.val ∈ s.led.dirty ∨ allPorts.any (s.slotHeld i) = true → b = false ∨ journalSlots ≤ s.led.journal.length → ∃ t, exec (.ledgerJournal i b) s = .next t ∧ t.led = s.led ∧ t.bit (IRQ_STAT LEDGER.page) 0 LEDGER.IRQ_FLASH = true) ∧
  (∀ (i : Fin 8192) (b : Bool) (s : State), i.val ∉ s.led.dirty → allPorts.any (s.slotHeld i) = false → exec (.ledgerJournal i b) s = .next s) ∧
  (∀ (s : State), 3 * journalSlots < 4 * s.led.journal.length → ∃ t, exec (.ledgerCompaction false) s = .next t ∧ t.on LEDGER.COMPACTING 0 = true ∧ t.led = s.led) ∧
  (∀ (s : State), 4 * s.led.journal.length ≤ 3 * journalSlots → exec (.ledgerCompaction false) s = .next s) ∧
  (∀ (s : State), s.on LEDGER.COMPACTING 0 = true → ∃ t, exec (.ledgerCompaction true) s = .next t ∧ t.led.journal = [] ∧ t.on LEDGER.COMPACTING 0 = false ∧ t.rd LEDGER.COMPACT_CNT 0 = min (s.rd LEDGER.COMPACT_CNT 0 + 1) (2 ^ 32 - 1) ∧ t.led.recs = s.led.recs) ∧
  (∀ (s : State), s.on LEDGER.COMPACTING 0 = false → exec (.ledgerCompaction true) s = .next s)

/-- OTP_PROGRAM of four bytes to a nameable word of a region whose lock bit is set, on a serving owner within the temperature and supply range, answers LOCKED, records it and counts the refusal, with whatever value. And in every state, served or not, whatever the packet's length and value, OTP_PROGRAM of such a word leaves every OTP word and lock bit as it was. (R514, R522) -/
def Obligations.LockedOtpWordsAreNotProgrammed : Prop :=
  (∀ (k : Packet) (e : OtpEnv) (s : State), s.serves = true → s.standby = false → otpNameable k.tgt = true → k.len = 4 → s.otpMayProgram e = true → s.otpLock (otpLockBit (otpCode k.tgt)) = true → AwaitsResponse k [] s → ∃ t, exec (.otpProgram k e) s = .next t ∧ Responded k stLOCKED [] s t ∧ t.otp = s.otp ∧ t.rd OTP.REFUSED_CNT 0 = min (s.rd OTP.REFUSED_CNT 0 + 1) (2 ^ 32 - 1) ∧ t.rd OTP.LAST_STATUS 0 = stLOCKED) ∧
  (∀ (k : Packet) (e : OtpEnv) (s : State), otpNameable k.tgt = true → s.otpLock (otpLockBit (otpCode k.tgt)) = true → ∃ t, exec (.otpProgram k e) s = .next t ∧ t.otp = s.otp)

/-- On a serving device: OTP_READ of 1 to 128 words inside the array answers each with its data and check, or INTEGRITY where a word of a FAILED customer region is among them. OTP_PROGRAM of a word: DENIED on a standby, then NOT_READY out of range, LOCKED, DENIED where the programmed word differs, in that order; a word not yet programmed takes the value, answered OK and counted, or INTEGRITY where a cell stays weak; the value it already holds answers OK (INTEGRITY) too. Of a monotonic counter: DENIED below its value, OK at it, else the counter is raised. Any other form records BAD_ARG. OTP_LOCK of a Pair lock bit sets it, counts and answers OK, of a set bit LOCKED, of a region that may not be locked yet LOCKED_REFUSED, else it programs the digest and the bit. OTP_MARGIN_SCAN is counted and answered. A form no rule lists gets BAD_ARG; a standby answers DENIED. (R511, R512, R513, R515, R518, R521, R522, R523, R471) -/
def Obligations.OtpIsReadProgrammedAndLocked : Prop :=
  (∀ (k : Packet) (s : State), s.serves = true → s.standby = false → k.payload = [] → k.tgt < 512 → 1 ≤ k.ar → k.ar ≤ 128 → k.tgt + k.ar ≤ 512 → s.rd OTP.REG_CUSTOMER 0 ≠ rgFailed → AwaitsResponse k ((((List.range k.ar).map (· + k.tgt)).flatMap fun w => leBytes 4 (s.otpRaw w).1 ++ leBytes 4 (s.otpRaw w).2)) s → ∃ t, exec (.otpRead k) s = .next t ∧ Responded k stOK ((((List.range k.ar).map (· + k.tgt)).flatMap fun w => leBytes 4 (s.otpRaw w).1 ++ leBytes 4 (s.otpRaw w).2)) s t) ∧
  (∀ (k : Packet) (s : State), s.serves = true → s.standby = false → k.payload = [] → k.tgt < 512 → 1 ≤ k.ar → k.ar ≤ 128 → k.tgt + k.ar ≤ 512 → k.tgt + k.ar ≤ 384 → AwaitsResponse k ((((List.range k.ar).map (· + k.tgt)).flatMap fun w => leBytes 4 (s.otpRaw w).1 ++ leBytes 4 (s.otpRaw w).2)) s → ∃ t, exec (.otpRead k) s = .next t ∧ Responded k stOK ((((List.range k.ar).map (· + k.tgt)).flatMap fun w => leBytes 4 (s.otpRaw w).1 ++ leBytes 4 (s.otpRaw w).2)) s t) ∧
  (∀ (k : Packet) (s : State), s.serves = true → s.standby = false → k.payload = [] → k.tgt < 512 → 1 ≤ k.ar → k.ar ≤ 128 → k.tgt + k.ar ≤ 512 → s.rd OTP.REG_CUSTOMER 0 = rgFailed → 384 < k.tgt + k.ar → AwaitsResponse k [] s → ∃ t, exec (.otpRead k) s = .next t ∧ Responded k stINTEGRITY [] s t) ∧
  (∀ (k : Packet) (s : State), s.serves = true → s.standby = false → k.payload ≠ [] ∨ 512 ≤ k.tgt ∨ k.ar = 0 ∨ 128 < k.ar ∨ 512 < k.tgt + k.ar → AwaitsResponse k [] s → ∃ t, exec (.otpRead k) s = .next t ∧ Responded k stBAD_ARG [] s t) ∧
  (∀ (k : Packet) (s : State), s.serves = true → s.standby = true → AwaitsResponse k [] s → ∃ t, exec (.otpRead k) s = .next t ∧ Responded k stDENIED [] s t) ∧
  (∀ (k : Packet) (e : OtpEnv) (s : State), s.serves = true → s.standby = true → otpNameable k.tgt = true → k.len = 4 → AwaitsResponse k [] s → ∃ t, exec (.otpProgram k e) s = .next t ∧ Responded k stDENIED [] s t ∧ t.otp = s.otp ∧ t.rd OTP.REFUSED_CNT 0 = min (s.rd OTP.REFUSED_CNT 0 + 1) (2 ^ 32 - 1) ∧ t.rd OTP.LAST_STATUS 0 = stDENIED) ∧
  (∀ (k : Packet) (e : OtpEnv) (s : State), s.serves = true → s.standby = false → otpNameable k.tgt = true → k.len = 4 → s.otpMayProgram e = false → AwaitsResponse k [] s → ∃ t, exec (.otpProgram k e) s = .next t ∧ Responded k stNOT_READY [] s t ∧ t.otp = s.otp ∧ t.rd OTP.REFUSED_CNT 0 = min (s.rd OTP.REFUSED_CNT 0 + 1) (2 ^ 32 - 1) ∧ t.rd OTP.LAST_STATUS 0 = stNOT_READY) ∧
  (∀ (k : Packet) (e : OtpEnv) (s : State), s.serves = true → s.standby = false → otpNameable k.tgt = true → k.len = 4 → s.otpMayProgram e = true → s.otpLock (otpLockBit (otpCode k.tgt)) = false → (s.otpWord k.tgt).written = true → (s.otpWord k.tgt).data ≠ BitVec.ofNat 32 (bytesAt k.payload 0 4) → AwaitsResponse k [] s → ∃ t, exec (.otpProgram k e) s = .next t ∧ Responded k stDENIED [] s t ∧ (t.otpWord k.tgt).data = (s.otpWord k.tgt).data ∧ t.rd OTP.REFUSED_CNT 0 = min (s.rd OTP.REFUSED_CNT 0 + 1) (2 ^ 32 - 1) ∧ t.rd OTP.LAST_STATUS 0 = stDENIED) ∧
  (∀ (k : Packet) (e : OtpEnv) (s : State), s.serves = true → s.standby = false → otpNameable k.tgt = true → k.len = 4 → s.otpMayProgram e = true → s.otpLock (otpLockBit (otpCode k.tgt)) = false → (s.otpWord k.tgt).written = false → (s.otpWord k.tgt).part = false → ∃ t, exec (.otpProgram k e) s = .next t ∧ (t.otpWord k.tgt).data = BitVec.ofNat 32 (bytesAt k.payload 0 4) ∧ (t.otpWord k.tgt).written = true ∧ t.rd OTP.LAST_STATUS 0 = (if e.weak then stINTEGRITY else stOK)) ∧
  (∀ (k : Packet) (v : Bool) (s : State), s.serves = true → s.standby = false → otpNameable k.tgt = true → k.len = 4 → s.otpMayProgram ⟨v, false⟩ = true → s.otpLock (otpLockBit (otpCode k.tgt)) = false → (s.otpWord k.tgt).written = false ∧ (s.otpWord k.tgt).part = false ∨ (s.otpWord k.tgt).written = true ∧ (s.otpWord k.tgt).data = BitVec.ofNat 32 (bytesAt k.payload 0 4) → AwaitsResponse k [] s → ∃ t, exec (.otpProgram k ⟨v, false⟩) s = .next t ∧ Responded k stOK [] s t ∧ (t.otpWord k.tgt).data = BitVec.ofNat 32 (bytesAt k.payload 0 4) ∧ t.rd OTP.PROG_CNT 0 = min (s.rd OTP.PROG_CNT 0 + 1) (2 ^ 32 - 1)) ∧
  (∀ (k : Packet) (v : Bool) (s : State), s.serves = true → s.standby = false → otpNameable k.tgt = true → k.len = 4 → s.otpMayProgram ⟨v, true⟩ = true → s.otpLock (otpLockBit (otpCode k.tgt)) = false → (s.otpWord k.tgt).written = false ∧ (s.otpWord k.tgt).part = false ∨ (s.otpWord k.tgt).written = true ∧ (s.otpWord k.tgt).data = BitVec.ofNat 32 (bytesAt k.payload 0 4) → AwaitsResponse k [] s → ∃ t, exec (.otpProgram k ⟨v, true⟩) s = .next t ∧ Responded k stINTEGRITY [] s t ∧ t.rd OTP.PROG_FAIL_CNT 0 = min (s.rd OTP.PROG_FAIL_CNT 0 + 1) (2 ^ 32 - 1)) ∧
  (∀ (k : Packet) (e : OtpEnv) (s : State), s.serves = true → s.standby = true → 0x200 ≤ k.tgt → k.tgt ≤ 0x202 → k.ar ≤ 256 → k.payload = [] → AwaitsResponse k [] s → ∃ t, exec (.otpProgram k e) s = .next t ∧ Responded k stDENIED [] s t ∧ t.otp = s.otp) ∧
  (∀ (k : Packet) (e : OtpEnv) (s : State), s.serves = true → s.standby = false → 0x200 ≤ k.tgt → k.tgt ≤ 0x202 → k.ar ≤ 256 → k.payload = [] → s.otpMayProgram e = false → AwaitsResponse k [] s → ∃ t, exec (.otpProgram k e) s = .next t ∧ Responded k stNOT_READY [] s t ∧ t.otp = s.otp) ∧
  (∀ (k : Packet) (e : OtpEnv) (s : State), s.serves = true → s.standby = false → 0x200 ≤ k.tgt → k.tgt ≤ 0x202 → k.ar ≤ 256 → k.payload = [] → s.otpMayProgram e = true → k.ar < s.otpCounter (k.tgt - 0x200) → AwaitsResponse k [] s → ∃ t, exec (.otpProgram k e) s = .next t ∧ Responded k stDENIED [] s t ∧ t.otp = s.otp) ∧
  (∀ (k : Packet) (e : OtpEnv) (s : State), s.serves = true → s.standby = false → 0x200 ≤ k.tgt → k.tgt ≤ 0x202 → k.ar ≤ 256 → k.payload = [] → s.otpMayProgram e = true → k.ar = s.otpCounter (k.tgt - 0x200) → AwaitsResponse k [] s → ∃ t, exec (.otpProgram k e) s = .next t ∧ Responded k stOK [] s t ∧ t.otp = s.otp) ∧
  (∀ (k : Packet) (v : Bool) (s : State), s.serves = true → s.standby = false → 0x200 ≤ k.tgt → k.tgt ≤ 0x202 → k.ar ≤ 256 → k.payload = [] → s.otpMayProgram ⟨v, false⟩ = true → s.otpCounter (k.tgt - 0x200) < k.ar → AwaitsResponse k [] s → ∃ t, exec (.otpProgram k ⟨v, false⟩) s = .next t ∧ Responded k stOK [] s t ∧ t.otpCounter (k.tgt - 0x200) = k.ar ∧ t.rd OTP.PROG_CNT 0 = min (s.rd OTP.PROG_CNT 0 + 1) (2 ^ 32 - 1)) ∧
  (∀ (k : Packet) (e : OtpEnv) (s : State), s.serves = true → otpNameable k.tgt = false ∨ k.len ≠ 4 → k.tgt < 0x200 ∨ 0x202 < k.tgt ∨ 256 < k.ar ∨ k.payload ≠ [] → AwaitsResponse k [] s → ∃ t, exec (.otpProgram k e) s = .next t ∧ Responded k stBAD_ARG [] s t ∧ t.otp = s.otp ∧ t.rd OTP.REFUSED_CNT 0 = min (s.rd OTP.REFUSED_CNT 0 + 1) (2 ^ 32 - 1) ∧ t.rd OTP.LAST_STATUS 0 = stBAD_ARG) ∧
  (∀ (k : Packet) (s : State), s.serves = true → s.standby = false → k.plain = true → k.tgt = 0x100 ∨ k.tgt = 0x101 → s.otpLock (k.tgt - 0x100 + 8) = false → AwaitsResponse k [] s → ∃ t, exec (.otpLock k) s = .next t ∧ Responded k stOK [] s t ∧ t.otpLock (k.tgt - 0x100 + 8) = true ∧ t.rd OTP.LOCK_CNT 0 = min (s.rd OTP.LOCK_CNT 0 + 1) (2 ^ 32 - 1)) ∧
  (∀ (k : Packet) (s : State), s.serves = true → s.standby = false → k.plain = true → k.tgt = 0x100 ∨ k.tgt = 0x101 → s.otpLock (k.tgt - 0x100 + 8) = true → AwaitsResponse k [] s → ∃ t, exec (.otpLock k) s = .next t ∧ Responded k stLOCKED [] s t ∧ t.otp = s.otp ∧ t.rd OTP.REFUSED_CNT 0 = min (s.rd OTP.REFUSED_CNT 0 + 1) (2 ^ 32 - 1)) ∧
  (∀ (k : Packet) (s : State), s.serves = true → s.standby = false → k.plain = true → 1 ≤ k.tgt → k.tgt ≤ 5 → s.otpLock (otpLockBit k.tgt) = true → AwaitsResponse k [] s → ∃ t, exec (.otpLock k) s = .next t ∧ Responded k stLOCKED [] s t ∧ t.otp = s.otp) ∧
  (∀ (k : Packet) (s : State), s.serves = true → s.standby = false → k.plain = true → 1 ≤ k.tgt → k.tgt ≤ 5 → s.otpLock (otpLockBit k.tgt) = false → s.lockRefused k.tgt = true → AwaitsResponse k [] s → ∃ t, exec (.otpLock k) s = .next t ∧ Responded k stLOCKED_REFUSED [] s t ∧ t.otp = s.otp) ∧
  (∀ (k : Packet) (s : State), s.serves = true → s.standby = false → k.plain = true → 1 ≤ k.tgt → k.tgt ≤ 5 → s.otpLock (otpLockBit k.tgt) = false → s.lockRefused k.tgt = false → AwaitsResponse k [] s → ∃ t, exec (.otpLock k) s = .next t ∧ Responded k stOK [] s t ∧ t.otpLock (otpLockBit k.tgt) = true ∧ (t.otpWord (digestWords k.tgt).1).data = BitVec.ofNat 32 (s.otpDigest k.tgt).1 ∧ (t.otpWord (digestWords k.tgt).2).data = BitVec.ofNat 32 (s.otpDigest k.tgt).2 ∧ t.rd OTP.LOCK_CNT 0 = min (s.rd OTP.LOCK_CNT 0 + 1) (2 ^ 32 - 1)) ∧
  (∀ (k : Packet) (s : State), s.serves = true → k.plain = false ∨ k.tgt = 0 ∨ (5 < k.tgt ∧ k.tgt ≠ 0x100 ∧ k.tgt ≠ 0x101) → AwaitsResponse k [] s → ∃ t, exec (.otpLock k) s = .next t ∧ Responded k stBAD_ARG [] s t) ∧
  (∀ (k : Packet) (s : State), s.serves = true → s.standby = true → k.plain = true → (1 ≤ k.tgt ∧ k.tgt ≤ 5) ∨ k.tgt = 0x100 ∨ k.tgt = 0x101 → AwaitsResponse k [] s → ∃ t, exec (.otpLock k) s = .next t ∧ Responded k stDENIED [] s t) ∧
  (∀ (k : Packet) (s : State), s.serves = true → s.standby = false → k.chip = true → k.plain = true → ∃ t, exec (.otpMarginScan k) s = .next t ∧ t.rd OTP.SCAN_CNT 0 = min (s.rd OTP.SCAN_CNT 0 + 1) (2 ^ 32 - 1) ∧ (AwaitsResponse k (List.replicate 68 0) s → Responded k stOK (((List.range 16).flatMap fun i => leBytes 4 (t.rd OTP.WEAK i)) ++ leBytes 4 (t.rd OTP.WEAK_WORDS 0)) s t)) ∧
  (∀ (k : Packet) (s : State), s.serves = true → s.standby = false → k.chip = false ∨ k.plain = false → AwaitsResponse k [] s → ∃ t, exec (.otpMarginScan k) s = .next t ∧ Responded k stBAD_ARG [] s t) ∧
  (∀ (k : Packet) (s : State), s.serves = true → s.standby = true → AwaitsResponse k [] s → ∃ t, exec (.otpMarginScan k) s = .next t ∧ Responded k stDENIED [] s t)

/-- While READY is clear the ten commands of a page word, window word or reset word do nothing. REGISTER_WRITE: at an unmapped or unaligned address BAD_ACCESS, over SPI counted, over SMBus in LAST_ERR; IRQ_EN takes its defined bits; of a word of RW and RO fields, locked records LOCKED, out of range BAD_ARG, and each leaves the RW fields; unlocked, in range and not denied, every RW field of such a word of the IRQ, LEDGER, BUDGET, HSPI and SMB pages takes its value. IRQ_STAT_CLEAR clears the written bits whose condition has ended, IRQ_FORCE sets defined bits, PAGE_LOCK sets LOCK. PAGE_ENABLE_WRITE sets EN of WEFT and TEST and leaves it on other pages. BLOCK_RESET of the unlocked HSPI, SMB or WEFT page gives its RW fields their reset values; else DENIED. IRQ_REPULSE ends the pulse. WINDOW_WRITE of a port word: DENIED on a member that does not own its ports; IMAX is stored, out of range BAD_ARG; the fixed mask is stored; EN disables or enables the port; at an offset that is not mapped BAD_ACCESS. WARM starts a warm reset (DENIED while an update applies or rolls); SAFE_ENTER enters SAFE; SAFE_EXIT leaves it once its cause has cleared, before DENIED. (R10, R18, R386, R394, R420, R421, R423, R424, R425, R426, R431, R549) -/
def Obligations.RegisterWritesTakeEffect : Prop :=
  (∀ (h : HostIf) (a : BitVec 24) (v : Word) (s : State), s.on SYS.READY 0 = false → exec (.registerWrite h a v) s = .next s) ∧
  (∀ (g : PageRef) (v : Word) (s : State), s.on SYS.READY 0 = false → exec (.irqStatClear g v) s = .next s) ∧
  (∀ (g : PageRef) (v : Word) (s : State), s.on SYS.READY 0 = false → exec (.irqForce g v) s = .next s) ∧
  (∀ (g : PageRef) (s : State), s.on SYS.READY 0 = false → exec (.pageLock g) s = .next s) ∧
  (∀ (g : PageRef) (s : State), s.on SYS.READY 0 = false → exec (.blockReset g) s = .next s) ∧
  (∀ (g : PageRef) (e : Bool) (s : State), s.on SYS.READY 0 = false → exec (.pageEnableWrite g e) s = .next s) ∧
  (∀ (a : WindowAt) (v : Word) (s : State), s.on SYS.READY 0 = false → exec (.windowWrite a v) s = .next s) ∧
  (∀ (s : State), s.on SYS.READY 0 = false → exec .warm s = .next s) ∧
  (∀ (s : State), s.on SYS.READY 0 = false → exec .safeEnter s = .next s) ∧
  (∀ (s : State), s.on SYS.READY 0 = false → exec .safeExit s = .next s) ∧
  (∀ (a : BitVec 24) (v : Word) (s : State), s.on SYS.READY 0 = true → a.toNat % 4 ≠ 0 ∨ addrMapped a.toNat = false → ∃ t, exec (.registerWrite .spi a v) s = .next t ∧ t.rd HSPI.BAD_ACCESS_CNT 0 = min (s.rd HSPI.BAD_ACCESS_CNT 0 + 1) (2 ^ 32 - 1) ∧ t.bit (IRQ_STAT HSPI.page) 0 HSPI.IRQ_BAD_ACCESS = true) ∧
  (∀ (a : BitVec 24) (v : Word) (s : State), s.on SYS.READY 0 = true → a.toNat % 4 ≠ 0 ∨ addrMapped a.toNat = false → ∃ t, exec (.registerWrite .smb a v) s = .next t ∧ t.on SMB.ERR 0 = true ∧ t.rd SMB.LAST_ERR 0 = stBAD_ACCESS) ∧
  (∀ (h : HostIf) (a : BitVec 24) (v : Word) (g : PageRef) (s : State), s.on SYS.READY 0 = true → pageOf a.toNat = some (g.type, g.inst, 0x10) → a.toNat % 4 = 0 → addrMapped a.toNat = true → ∃ t, exec (.registerWrite h a v) s = .next t ∧ t.rd (IRQ_EN g.type) g.inst = v.toNat &&& irqDefined g.type) ∧
  (∀ (h : HostIf) (a : BitVec 24) (v : Word) (g : PageRef) (o : Nat) (s : State), s.on SYS.READY 0 = true → pageOf a.toNat = some (g.type, g.inst, o) → a.toNat % 4 = 0 → addrMapped a.toNat = true → 0x40 ≤ o → o < 0x200 → foreignWord g.type o = false → (fieldsAt g.type g.inst o).all (fun x => x.1.rw || x.1.access == .ro) = true → (fieldsAt g.type g.inst o).any (fun x => x.1.rw) = true → g.type ≠ MBX.page → wordOk g.type g.inst o v.toNat = true → s.on (LOCK g.type) g.inst = true → ∃ t, exec (.registerWrite h a v) s = .next t ∧ t.rd (ERR_CODE g.type) g.inst = stLOCKED ∧ (fieldsAt g.type g.inst o).all (fun x => !x.1.rw || t.rd x.1 x.2 == s.rd x.1 x.2) = true) ∧
  (∀ (h : HostIf) (a : BitVec 24) (v : Word) (g : PageRef) (o : Nat) (s : State), s.on SYS.READY 0 = true → pageOf a.toNat = some (g.type, g.inst, o) → a.toNat % 4 = 0 → addrMapped a.toNat = true → 0x40 ≤ o → o < 0x200 → foreignWord g.type o = false → (fieldsAt g.type g.inst o).all (fun x => x.1.rw || x.1.access == .ro) = true → (fieldsAt g.type g.inst o).any (fun x => x.1.rw) = true → g.type ≠ MBX.page → wordOk g.type g.inst o v.toNat = false → s.on (LOCK g.type) g.inst = false → ∃ t, exec (.registerWrite h a v) s = .next t ∧ t.rd (ERR_CODE g.type) g.inst = stBAD_ARG ∧ (fieldsAt g.type g.inst o).all (fun x => !x.1.rw || t.rd x.1 x.2 == s.rd x.1 x.2) = true) ∧
  (∀ (h : HostIf) (a : BitVec 24) (v : Word) (g : PageRef) (o : Nat) (s : State), s.on SYS.READY 0 = true → pageOf a.toNat = some (g.type, g.inst, o) → a.toNat % 4 = 0 → addrMapped a.toNat = true → 0x40 ≤ o → o < 0x200 → foreignWord g.type o = false → (fieldsAt g.type g.inst o).all (fun x => x.1.rw || x.1.access == .ro) = true → (fieldsAt g.type g.inst o).any (fun x => x.1.rw) = true → g.type ≠ MBX.page → g.type ∈ [IRQ.page, LEDGER.page, BUDGET.page, HSPI.page, SMB.page] → wordOk g.type g.inst o v.toNat = true → s.on (LOCK g.type) g.inst = false → s.writeDenied g.type g.inst o v.toNat = false → ∃ t, exec (.registerWrite h a v) s = .next t ∧ (fieldsAt g.type g.inst o).all (fun x => !x.1.rw || t.rd x.1 x.2 == x.1.cut v.toNat) = true) ∧
  (∀ (g : PageRef) (v : Word) (s : State), s.on SYS.READY 0 = true → ∃ t, exec (.irqStatClear g v) s = .next t ∧ t.rd (IRQ_STAT g.type) g.inst = (s.rd (IRQ_STAT g.type) g.inst - (s.rd (IRQ_STAT g.type) g.inst &&& (v.toNat - (v.toNat &&& s.rd (IRQ_RAW g.type) g.inst)))) % 2 ^ 32) ∧
  (∀ (g : PageRef) (v : Word) (s : State), s.on SYS.READY 0 = true → ∃ t, exec (.irqForce g v) s = .next t ∧ t.rd (IRQ_STAT g.type) g.inst = (s.rd (IRQ_STAT g.type) g.inst ||| (v.toNat &&& irqDefined g.type)) % 2 ^ 32) ∧
  (∀ (g : PageRef) (s : State), s.on SYS.READY 0 = true → s.rd (EN g.type) g.inst < 2 → ∃ t, exec (.pageLock g) s = .next t ∧ t.on (LOCK g.type) g.inst = true) ∧
  (∀ (g : PageRef) (b : Bool) (s : State), s.on SYS.READY 0 = true → s.rd (EN g.type) g.inst < 2 → s.rd (SNAP_EXCLUDE g.type) g.inst < 2 → g = .sys 9 ∨ g = .sys 16 → ∃ t, exec (.pageEnableWrite g b) s = .next t ∧ t.rd (EN g.type) 0 = if b then 1 else 0) ∧
  (∀ (g : PageRef) (b : Bool) (s : State), s.on SYS.READY 0 = true → g ≠ .sys 9 → g ≠ .sys 16 → ∃ t, exec (.pageEnableWrite g b) s = .next t ∧ t.rd (EN g.type) g.inst = s.rd (EN g.type) g.inst) ∧
  (∀ (g : PageRef) (s : State), s.on SYS.READY 0 = true → s.rd (EN g.type) g.inst < 2 → g = .sys 7 ∨ g = .sys 8 ∨ g = .sys 9 → s.on (LOCK g.type) 0 = false → ∃ t, exec (.blockReset g) s = .next t ∧ (pageFields g.type).all (fun F => F.access != .rw || decide (1 < F.count) || t.rd F 0 == F.reset.at 0) = true) ∧
  (∀ (g : PageRef) (s : State), s.on SYS.READY 0 = true → s.rd (EN g.type) g.inst < 2 → (g ≠ .sys 7 ∧ g ≠ .sys 8 ∧ g ≠ .sys 9) ∨ s.on (LOCK g.type) g.inst = true → ∃ t, exec (.blockReset g) s = .next t ∧ t.rd (ERR_CODE g.type) g.inst = stDENIED) ∧
  (∀ (s : State), ∃ t, exec .irqRepulse s = .next t ∧ t.spi.repulse = false ∧ t.spi.tx = s.spi.tx ∧ t.spi.held = s.spi.held) ∧
  (∀ (p : Port) (h : HostIf) (o : BitVec 12) (v : Word) (s : State), s.on SYS.READY 0 = true → s.ownsPorts = true → p.val < 8 → o.toNat = 0x100 * (p.val + 1) + 0x0C → 50 ≤ v.toNat % 512 → v.toNat % 512 ≤ 500 → ∃ t, exec (.windowWrite ⟨h, o⟩ v) s = .next t ∧ (t.port p).windowed = true ∧ (t.stored p).imax = v.toNat % 512) ∧
  (∀ (p : Port) (h : HostIf) (o : BitVec 12) (v : Word) (s : State), s.on SYS.READY 0 = true → s.ownsPorts = true → p.val < 8 → o.toNat = 0x100 * (p.val + 1) + 0x0C → v.toNat % 512 < 50 ∨ 500 < v.toNat % 512 → ∃ t, exec (.windowWrite ⟨h, o⟩ v) s = .next t ∧ t.rd (ERR_CODE PD.page) p = stBAD_ARG ∧ (t.stored p).imax = (s.stored p).imax) ∧
  (∀ (p : Port) (h : HostIf) (o : BitVec 12) (v : Word) (s : State), s.on SYS.READY 0 = true → s.ownsPorts = true → p.val < 8 → o.toNat = 0x100 * (p.val + 1) + 8 → ∃ t, exec (.windowWrite ⟨h, o⟩ v) s = .next t ∧ (t.stored p).fixedMask = v.toNat % 8) ∧
  (∀ (p : Port) (h : HostIf) (o : BitVec 12) (v : Word) (s : State), s.on SYS.READY 0 = true → s.ownsPorts = true → p.val < 8 → o.toNat = 0x100 * (p.val + 1) → v.toNat % 2 = 0 → ∃ t, exec (.windowWrite ⟨h, o⟩ v) s = .next t ∧ t.enabled p = false) ∧
  (∀ (p : Port) (h : HostIf) (o : BitVec 12) (v : Word) (s : State), s.on SYS.READY 0 = true → s.mayEnable p = true → p.val < 8 → o.toNat = 0x100 * (p.val + 1) → v.toNat % 2 = 1 → v.toNat / 2 % 4 ≠ 0 → ∃ t, exec (.windowWrite ⟨h, o⟩ v) s = .next t ∧ t.enabled p = true) ∧
  (∀ (p : Port) (h : HostIf) (o : BitVec 12) (v : Word) (s : State), s.on SYS.READY 0 = true → s.ownsPorts = false → p.val < 8 → o.toNat / 0x100 = p.val + 1 → o.toNat % 0x100 ∈ [0x00, 0x08, 0x0C, 0x1C] → ∃ t, exec (.windowWrite ⟨h, o⟩ v) s = .next t ∧ t.rd (ERR_CODE PD.page) p = stDENIED ∧ t.stored p = s.stored p ∧ t.enabled p = s.enabled p) ∧
  (∀ (o : BitVec 12) (v : Word) (s : State), s.on SYS.READY 0 = true → windowMapped o.toNat = false → ∃ t, exec (.windowWrite ⟨.spi, o⟩ v) s = .next t ∧ t.rd HSPI.BAD_ACCESS_CNT 0 = min (s.rd HSPI.BAD_ACCESS_CNT 0 + 1) (2 ^ 32 - 1)) ∧
  (∀ (o : BitVec 12) (v : Word) (s : State), s.on SYS.READY 0 = true → windowMapped o.toNat = false → ∃ t, exec (.windowWrite ⟨.smb, o⟩ v) s = .next t ∧ t.on SMB.ERR 0 = true ∧ t.rd SMB.LAST_ERR 0 = stBAD_ACCESS) ∧
  (∀ (s : State), s.on SYS.READY 0 = true → s.dev ≠ .warmReset → s.dev ≠ .boot → s.warmRefused = false → ∃ t, exec .warm s = .next t ∧ t.dev = .warmReset ∧ t.on SYS.READY 0 = false ∧ (t.rd RST.CAUSE 0).testBit rcCmd = true ∧ t.rd RST.WARM_CNT 0 = min (s.rd RST.WARM_CNT 0 + 1) (2 ^ 32 - 1)) ∧
  (∀ (s : State), s.on SYS.READY 0 = true → s.warmRefused = true → ∃ t, exec .warm s = .next t ∧ t.rd (ERR_CODE RST.page) 0 = stDENIED ∧ t.dev = s.dev) ∧
  (∀ (s : State), s.on SYS.READY 0 = true → s.dev = .run → s.pow.intoSafe = false → ∃ t, exec .safeEnter s = .next t ∧ t.dev = .safe ∧ t.rd RST.SAFE_CAUSE 0 = scCmd ∧ t.on SYS.READY 0 = true) ∧
  (∀ (s : State), s.on SYS.READY 0 = true → s.dev = .safe → s.safeCleared = true → ∃ t, exec .safeExit s = .next t ∧ t.dev = .run ∧ t.rd RST.SAFE_CAUSE 0 = 0) ∧
  (∀ (s : State), s.on SYS.READY 0 = true → s.dev = .safe → s.safeCleared = false → ∃ t, exec .safeExit s = .next t ∧ t.rd (ERR_CODE RST.page) 0 = stDENIED ∧ t.dev = .safe)

/-- REQ, and SNAPSHOT without an argument, add a request at the next boundary (merged with one pending there), or answer NO_SPACE where it would be a fifth; with PIN_DRIVE they wait for the pin. SNAPSHOT with a time and ID (ARG 1 or 3) schedules it and answers OK, or NO_SPACE; other forms BAD_ARG. SNAP_PIN_EDGE of 50 ns with PIN_IN_EN adds a request (and wakes a device in WATCH); else nothing happens. SNAP_PIN_DRIVE empties the requests that wait for the pin and makes theirs; with none nothing happens. SNAP_BOUNDARY takes the earliest request into the free bank: ID, time, VALID and NEWER; with no free bank it is refused, counted; with no request nothing happens. HOLD_EXPIRED clears HOLD of a held bank and counts; else nothing. READ_SNAP answers the bank that holds the ID, with the shadows of the pages named; an unknown ID or another form BAD_ARG. TIME_SET: DENIED in ROLE 0, else device time steps and SET sets; other forms BAD_ARG, a standby DENIED. TIME_GET answers device time, TIME_STAT and OFFSET. TIME_LO_READ latches the high word. (R448, R449, R450, R451, R452, R453, R454, R455, R457, R543) -/
def Obligations.SnapshotsLoadABank : Prop :=
  (∀ (s : State), s.on TIME.PIN_DRIVE 0 = false → (addReq ⟨s.boundary s.time, 2 ^ 31 + (s.snap.count + 1) % 2 ^ 31, false, 0, []⟩ s.snap.pend).length ≤ 4 → ∃ t, exec .req s = .next t ∧ t.snap.count = s.snap.count + 1 ∧ t.snap.pend = addReq ⟨s.boundary s.time, 2 ^ 31 + (s.snap.count + 1) % 2 ^ 31, false, 0, []⟩ s.snap.pend) ∧
  (∀ (s : State), s.on TIME.PIN_DRIVE 0 = false → 4 < (addReq ⟨s.boundary s.time, 2 ^ 31 + (s.snap.count + 1) % 2 ^ 31, false, 0, []⟩ s.snap.pend).length → ∃ t, exec .req s = .next t ∧ t.snap = s.snap ∧ t.rd (ERR_CODE TIME.page) 0 = stNO_SPACE) ∧
  (∀ (s : State), s.on TIME.PIN_DRIVE 0 = true → ∃ t, exec .req s = .next t ∧ t.snap.drive = s.snap.drive ++ [none] ∧ t.snap.pend = s.snap.pend) ∧
  (∀ (k : Packet) (s : State), s.serves = true → k.chip = true → k.plain = true → s.on TIME.PIN_DRIVE 0 = false → (addReq ⟨s.boundary s.time, 2 ^ 31 + (s.snap.count + 1) % 2 ^ 31, false, 0, [k]⟩ s.snap.pend).length ≤ 4 → ∃ t, exec (.snapshot k) s = .next t ∧ t.snap.count = s.snap.count + 1 ∧ t.snap.pend = addReq ⟨s.boundary s.time, 2 ^ 31 + (s.snap.count + 1) % 2 ^ 31, false, 0, [k]⟩ s.snap.pend) ∧
  (∀ (k : Packet) (s : State), s.serves = true → k.chip = true → k.plain = true → s.on TIME.PIN_DRIVE 0 = false → 4 < (addReq ⟨s.boundary s.time, 2 ^ 31 + (s.snap.count + 1) % 2 ^ 31, false, 0, [k]⟩ s.snap.pend).length → AwaitsResponse k [] s → ∃ t, exec (.snapshot k) s = .next t ∧ Responded k stNO_SPACE [] s t ∧ t.snap = s.snap) ∧
  (∀ (k : Packet) (s : State), s.serves = true → k.chip = true → k.plain = true → s.on TIME.PIN_DRIVE 0 = true → ∃ t, exec (.snapshot k) s = .next t ∧ t.snap.drive = s.snap.drive ++ [some k]) ∧
  (∀ (k : Packet) (s : State), s.serves = true → k.chip = true → k.ar = 1 ∨ k.ar = 3 → k.len = 12 → bytesAt k.payload 8 4 < 2 ^ 31 → (s.snapAt (bytesAt k.payload 0 8) (bytesAt k.payload 8 4)).isSome = true → AwaitsResponse k [] s → ∃ t, exec (.snapshot k) s = .next t ∧ Responded k stOK [] s t ∧ some t.snap = (s.snapAt (bytesAt k.payload 0 8) (bytesAt k.payload 8 4)).map (·.snap)) ∧
  (∀ (k : Packet) (s : State), s.serves = true → k.chip = true → k.ar = 1 ∨ k.ar = 3 → k.len = 12 → bytesAt k.payload 8 4 < 2 ^ 31 → s.snapAt (bytesAt k.payload 0 8) (bytesAt k.payload 8 4) = none → AwaitsResponse k [] s → ∃ t, exec (.snapshot k) s = .next t ∧ Responded k stNO_SPACE [] s t ∧ t.snap = s.snap) ∧
  (∀ (k : Packet) (s : State), s.serves = true → k.chip = false ∨ (k.plain = false ∧ ((k.ar ≠ 1 ∧ k.ar ≠ 3) ∨ k.len ≠ 12 ∨ 2 ^ 31 ≤ bytesAt k.payload 8 4)) → AwaitsResponse k [] s → ∃ t, exec (.snapshot k) s = .next t ∧ Responded k stBAD_ARG [] s t) ∧
  (∀ (n : Nat) (s : State), 50 ≤ n → s.on TIME.PIN_IN_EN 0 = true → (addReq ⟨s.boundary s.time, 2 ^ 31 + (s.snap.count + 1) % 2 ^ 31, false, 0, []⟩ s.snap.pend).length ≤ 4 → ∃ t, exec (.snapPinEdge n) s = .next t ∧ t.snap.count = s.snap.count + 1 ∧ t.snap.pend = addReq ⟨s.boundary s.time, 2 ^ 31 + (s.snap.count + 1) % 2 ^ 31, false, 0, []⟩ s.snap.pend) ∧
  (∀ (n : Nat) (s : State), 50 ≤ n → s.on TIME.PIN_IN_EN 0 = true → s.dev = .watch → ∃ t, exec (.snapPinEdge n) s = .next t ∧ t.dev = .waking) ∧
  (∀ (n : Nat) (s : State), n < 50 ∨ s.on TIME.PIN_IN_EN 0 = false → exec (.snapPinEdge n) s = .next s) ∧
  (∀ (s : State), s.snap.drive ≠ [] → ∃ t, exec .snapPinDrive s = .next t ∧ t.snap.drive = [] ∧ s.time ≤ t.time) ∧
  (∀ (s : State), s.snap.drive ≠ [] → s.snap.pend.length < 4 → ∃ t, exec .snapPinDrive s = .next t ∧ t.snap.count = s.snap.count + 1) ∧
  (∀ (s : State), s.snap.drive = [] → exec .snapPinDrive s = .next s) ∧
  (∀ (r : SnapReq) (b : Nat) (s : State), earliest s.snap.pend = some r → s.freeBank = some b → b < 2 → ∃ t, exec (.snapBoundary) s = .next t ∧ t.rd TIME.BANK_ID b = r.id % 2 ^ 32 ∧ t.rd TIME.BANK_TIME_LO b = r.at_ % 2 ^ 32 ∧ t.bit TIME.VALID 0 b = true ∧ t.rd TIME.NEWER 0 = b ∧ t.rd TIME.SNAP_CNT 0 = min (s.rd TIME.SNAP_CNT 0 + 1) (2 ^ 32 - 1)) ∧
  (∀ (r : SnapReq) (s : State), earliest s.snap.pend = some r → s.freeBank = none → ∃ t, exec (.snapBoundary) s = .next t ∧ t.snap.banks = s.snap.banks ∧ t.rd TIME.SNAP_REFUSED_CNT 0 = min (s.rd TIME.SNAP_REFUSED_CNT 0 + 1) (2 ^ 32 - 1)) ∧
  (∀ (s : State), s.snap.pend = [] → exec .snapBoundary s = .next s) ∧
  (∀ (b : Fin 2) (s : State), s.bit TIME.HOLD 0 b = true → ∃ t, exec (.holdExpired b) s = .next t ∧ t.bit TIME.HOLD 0 b = false ∧ t.rd TIME.HOLD_EXPIRED_CNT 0 = min (s.rd TIME.HOLD_EXPIRED_CNT 0 + 1) (2 ^ 32 - 1)) ∧
  (∀ (b : Fin 2) (s : State), s.bit TIME.HOLD 0 b = false → exec (.holdExpired b) s = .next s) ∧
  (∀ (k : Packet) (b : Nat) (s : State), s.serves = true → k.len % 4 = 0 → 4 ≤ k.len → k.len ≤ 60 → ((pageBases (k.len / 4) k.payload).all fun a => a % 0x400 == 0 && (pageOf a).isSome) = true → s.bankOf k.ar = some b → AwaitsResponse k ((leBytes 4 k.ar ++ leBytes 4 (s.rd TIME.BANK_TIME_LO b) ++ leBytes 4 (s.rd TIME.BANK_TIME_HI b) ++ leBytes 4 (s.rd (bankFlags b) 0) ++ (pageBases (k.len / 4) k.payload).flatMap (shadowBytes (s.bank b)))) s → ∃ t, exec (.readSnap k) s = .next t ∧ Responded k stOK ((leBytes 4 k.ar ++ leBytes 4 (s.rd TIME.BANK_TIME_LO b) ++ leBytes 4 (s.rd TIME.BANK_TIME_HI b) ++ leBytes 4 (s.rd (bankFlags b) 0) ++ (pageBases (k.len / 4) k.payload).flatMap (shadowBytes (s.bank b)))) s t) ∧
  (∀ (k : Packet) (s : State), s.serves = true → k.len % 4 = 0 → 4 ≤ k.len → k.len ≤ 60 → ((pageBases (k.len / 4) k.payload).all fun a => a % 0x400 == 0 && (pageOf a).isSome) = true → s.bankOf k.ar = none → AwaitsResponse k [] s → ∃ t, exec (.readSnap k) s = .next t ∧ Responded k stBAD_ARG [] s t) ∧
  (∀ (k : Packet) (s : State), s.serves = true → k.len % 4 ≠ 0 ∨ k.len < 4 ∨ 60 < k.len ∨ ((pageBases (k.len / 4) k.payload).all fun a => a % 0x400 == 0 && (pageOf a).isSome) = false → AwaitsResponse k [] s → ∃ t, exec (.readSnap k) s = .next t ∧ Responded k stBAD_ARG [] s t) ∧
  (∀ (k : Packet) (s : State), s.serves = true → s.standby = false → k.len = 8 → s.rd TIME.ROLE 0 ≠ 0 → AwaitsResponse k [] s → ∃ t, exec (.timeSet k) s = .next t ∧ Responded k stOK [] s t ∧ t.time = round5 (bytesAt k.payload 0 8) % 2 ^ 64 ∧ t.on TIME.SET 0 = true) ∧
  (∀ (k : Packet) (s : State), s.serves = true → s.standby = false → k.len = 8 → s.rd TIME.ROLE 0 = 0 → AwaitsResponse k [] s → ∃ t, exec (.timeSet k) s = .next t ∧ Responded k stDENIED [] s t ∧ t.time = s.time) ∧
  (∀ (k : Packet) (s : State), s.serves = true → s.standby = false → k.len ≠ 8 → AwaitsResponse k [] s → ∃ t, exec (.timeSet k) s = .next t ∧ Responded k stBAD_ARG [] s t) ∧
  (∀ (k : Packet) (s : State), s.serves = true → s.standby = true → AwaitsResponse k [] s → ∃ t, exec (.timeSet k) s = .next t ∧ Responded k stDENIED [] s t) ∧
  (∀ (k : Packet) (s : State), s.serves = true → AwaitsResponse k ((leBytes 8 s.time ++ leBytes 4 (s.pageWord 0xA 0 0x44) ++ leBytes 4 (s.rd TIME.OFFSET 0))) s → ∃ t, exec (.timeGet k) s = .next t ∧ Responded k stOK ((leBytes 8 s.time ++ leBytes 4 (s.pageWord 0xA 0 0x44) ++ leBytes 4 (s.rd TIME.OFFSET 0))) s t) ∧
  (∀ (s : State), ∃ t, exec .timeLoRead s = .next t ∧ t.tim.hi = s.time / 2 ^ 32 % 2 ^ 32)

/-- LINK_TRAINING of an enabled link out of warm reset: its event takes it from DOWN to ALIGN, TRAIN and UP (full credits); in another state, and on a link that may not train, nothing happens. LINK_DOWN takes a link that was up or training DOWN, counted from UP, and Selvedge too. CELL_RECEIVED on an UP link is counted; a bad CRC is counted and the cell is gone, as is a broadcast of its own; one for this device, or a broadcast of another, waits for delivery; one for another is forwarded, or dropped and counted with FWD_EN 0. CELL_DELIVERED hands the oldest waiting cell on, or leaves it where it has to wait; with none nothing happens. A cell that is gone, dropped with FWD_EN 0 or handed on has its credit returned. HELLO on a link with signal names the peer; its own valid ID is a conflict. CREDIT on an UP link adds, up to the full count. ASSEMBLY_TIMEOUT drops the assembly, counted. On other links, or with none, nothing happens. WEFT_SEND well formed takes the next message ID, or answers ABORTED with no link to go by; WEFT_ROUTE writes the 16 routes and answers OK; WEFT_STATUS answers the status words; without a valid ID the three answer DENIED, like on a standby, and other forms BAD_ARG. (R433, R434, R435, R436, R438, R439, R440, R441, R442, R443) -/
def Obligations.FabricCellsAndCredits : Prop :=
  (∀ (l : Link) (s : State), s.linkMay l = true → s.rd (linkState l) 0 = lkDown → ∃ t, exec (.linkTraining l .signal) s = .next t ∧ t.rd (linkState l) 0 = lkAlign) ∧
  (∀ (l : Link) (s : State), s.linkMay l = true → s.rd (linkState l) 0 = lkAlign → ∃ t, exec (.linkTraining l .aligned) s = .next t ∧ t.rd (linkState l) 0 = lkTrain) ∧
  (∀ (l : Link) (c : CellClass) (s : State), s.linkMay l = true → s.rd (linkState l) 0 = lkTrain → ∃ t, exec (.linkTraining l .trained) s = .next t ∧ t.rd (linkState l) 0 = lkUp ∧ t.rd (linkCredit l c) 0 = fullCredit c ∧ t.bit (IRQ_STAT WEFT.page) 0 WEFT.IRQ_LINK_UP = true) ∧
  (∀ (l : Link) (e : LinkEvent) (s : State), s.linkMay l = false → exec (.linkTraining l e) s = .next s) ∧
  (∀ (l : Link) (e : LinkEvent) (s : State), s.rd (linkState l) 0 ≠ (match e with | .signal => lkDown | .aligned => lkAlign | .trained => lkTrain) → exec (.linkTraining l e) s = .next s) ∧
  (∀ (l : Link) (w : LinkLoss) (s : State), s.rd (linkState l) 0 = lkUp → ∃ t, exec (.linkDown (.weft l) w) s = .next t ∧ t.rd (linkState l) 0 = lkDown ∧ t.rd WEFT.LINK_DOWN_CNT 0 = min (s.rd WEFT.LINK_DOWN_CNT 0 + 1) (2 ^ 32 - 1) ∧ t.bit (IRQ_STAT WEFT.page) 0 WEFT.IRQ_LINK_DOWN = true) ∧
  (∀ (l : Link) (w : LinkLoss) (s : State), s.rd (linkState l) 0 = lkAlign ∨ s.rd (linkState l) 0 = lkTrain → ∃ t, exec (.linkDown (.weft l) w) s = .next t ∧ t.rd (linkState l) 0 = lkDown ∧ t.rd WEFT.LINK_DOWN_CNT 0 = s.rd WEFT.LINK_DOWN_CNT 0) ∧
  (∀ (l : Link) (w : LinkLoss) (s : State), s.rd (linkState l) 0 = lkDown ∨ s.rd (linkState l) 0 = lkDisabled → exec (.linkDown (.weft l) w) s = .next s) ∧
  (∀ (w : LinkLoss) (s : State), s.rd PAIR.LINK_STATE 0 ≠ lkDown → ∃ t, exec (.linkDown .selvedge w) s = .next t ∧ t.rd PAIR.LINK_STATE 0 = lkDown ∧ t.pair.unacked = []) ∧
  (∀ (w : LinkLoss) (s : State), s.linkUp = true → ∃ t, exec (.linkDown .selvedge w) s = .next t ∧ t.rd PAIR.LINK_STATE 0 = lkDown ∧ t.rd PAIR.LINK_DOWN_CNT 0 = min (s.rd PAIR.LINK_DOWN_CNT 0 + 1) (2 ^ 32 - 1)) ∧
  (∀ (w : LinkLoss) (s : State), s.rd PAIR.LINK_STATE 0 = lkDown → exec (.linkDown .selvedge w) s = .next s) ∧
  (∀ (l : Link) (c : CellClass) (x : Cell) (s : State), s.weftUp l = true → ∃ t, exec (.cellReceived l c x false) s = .next t ∧ t.rd WEFT.CRC_ERR_CNT 0 = min (s.rd WEFT.CRC_ERR_CNT 0 + 1) (2 ^ 32 - 1) ∧ t.weft.waiting = s.weft.waiting ∧ t.weft.out = s.weft.out ∧ t.weft.given.get (creditSlot l c) = s.weft.given.get (creditSlot l c) + 1) ∧
  (∀ (l : Link) (c : CellClass) (x : Cell) (b : Bool) (s : State), s.weftUp l = true → ∃ t, exec (.cellReceived l c x b) s = .next t ∧ t.rd (linkRx l) 0 = min (s.rd (linkRx l) 0 + 1) (2 ^ 32 - 1)) ∧
  (∀ (l : Link) (c : CellClass) (x : Cell) (s : State), s.weftUp l = true → x.bcast = false → s.on WEFT.ID_VALID 0 = true → x.dst.toNat = s.rd WEFT.DEV_ID 0 → ∃ t, exec (.cellReceived l c x true) s = .next t ∧ t.weft.waiting = s.weft.waiting ++ [(l, c, x)]) ∧
  (∀ (l : Link) (c : CellClass) (x : Cell) (s : State), s.weftUp l = true → x.bcast = true → s.on WEFT.ID_VALID 0 = false ∨ x.src.toNat ≠ s.rd WEFT.DEV_ID 0 → ∃ t, exec (.cellReceived l c x true) s = .next t ∧ t.weft.waiting = s.weft.waiting ++ [(l, c, x)]) ∧
  (∀ (l : Link) (c : CellClass) (x : Cell) (s : State), s.weftUp l = true → x.bcast = true → s.on WEFT.ID_VALID 0 = true → x.src.toNat = s.rd WEFT.DEV_ID 0 → ∃ t, exec (.cellReceived l c x true) s = .next t ∧ t.weft.waiting = s.weft.waiting ∧ t.weft.out = s.weft.out ∧ t.weft.given.get (creditSlot l c) = s.weft.given.get (creditSlot l c) + 1) ∧
  (∀ (l : Link) (c : CellClass) (x : Cell) (s : State), s.weftUp l = true → x.bcast = false → s.on WEFT.ID_VALID 0 = false ∨ x.dst.toNat ≠ s.rd WEFT.DEV_ID 0 → s.on WEFT.FWD_EN 0 = false → ∃ t, exec (.cellReceived l c x true) s = .next t ∧ t.weft.waiting = s.weft.waiting ∧ t.weft.out = s.weft.out ∧ t.weft.given.get (creditSlot l c) = s.weft.given.get (creditSlot l c) + 1 ∧ t.rd WEFT.DROP_CNT 0 = min (s.rd WEFT.DROP_CNT 0 + 1) (2 ^ 32 - 1)) ∧
  (∀ (l : Link) (c : CellClass) (x : Cell) (s : State), s.weftUp l = true → x.bcast = false → s.on WEFT.ID_VALID 0 = false ∨ x.dst.toNat ≠ s.rd WEFT.DEV_ID 0 → s.on WEFT.FWD_EN 0 = true → x.hops.toNat < 4095 → (s.forwardLink l x).isSome = true → ∃ t, exec (.cellReceived l c x true) s = .next t ∧ t.rd WEFT.FWD_CNT 0 = min (s.rd WEFT.FWD_CNT 0 + 1) (2 ^ 32 - 1) ∧ t.weft.waiting = s.weft.waiting) ∧
  (∀ (l : Link) (c : CellClass) (x : Cell) (b : Bool) (s : State), s.weftUp l = false → exec (.cellReceived l c x b) s = .next s) ∧
  (∀ (l : Link) (c : CellClass) (x : Link × CellClass × Cell) (s : State), s.weft.waiting.find? (waitsFor l c) = some x → (s.handOn l c x.2.2).isSome = true → ∃ t, exec (.cellDelivered l c) s = .next t ∧ t.weft.waiting = removeN (waitsFor l c) 1 s.weft.waiting ∧ t.weft.given.get (creditSlot l c) = s.weft.given.get (creditSlot l c) + 1) ∧
  (∀ (l : Link) (c : CellClass) (s : State), ((s.weft.waiting.find? (waitsFor l c)).bind fun x => s.handOn l c x.2.2) = none → exec (.cellDelivered l c) s = .next s) ∧
  (∀ (l : Link) (i : BitVec 12) (b : Bool) (s : State), s.rd (linkState l) 0 ∈ [lkAlign, lkTrain, lkUp] → ∃ t, exec (.hello l i b) s = .next t ∧ t.rd (linkPeer l) 0 = i.toNat) ∧
  (∀ (l : Link) (i : BitVec 12) (s : State), s.rd (linkState l) 0 ∈ [lkAlign, lkTrain, lkUp] → i.toNat = s.rd WEFT.DEV_ID 0 → ∃ t, exec (.hello l i true) s = .next t ∧ t.bit (IRQ_STAT WEFT.page) 0 WEFT.IRQ_ID_CONFLICT = true) ∧
  (∀ (l : Link) (i : BitVec 12) (b : Bool) (s : State), s.rd (linkState l) 0 ∉ [lkAlign, lkTrain, lkUp] → exec (.hello l i b) s = .next s) ∧
  (∀ (l : Link) (c : CellClass) (n : Byte) (s : State), s.weftUp l = true → s.weft.out.filter (waitsFor l c) = [] → ∃ t, exec (.credit l c n) s = .next t ∧ t.rd (linkCredit l c) 0 = min (fullCredit c) (s.rd (linkCredit l c) 0 + n.toNat)) ∧
  (∀ (l : Link) (c : CellClass) (n : Byte) (s : State), s.weftUp l = true → ∃ t, exec (.credit l c n) s = .next t ∧ t.weft.out = removeN (waitsFor l c) (min (fullCredit c) (s.rd (linkCredit l c) 0 + n.toNat)) s.weft.out) ∧
  (∀ (l : Link) (c : CellClass) (n : Byte) (s : State), s.weftUp l = false → exec (.credit l c n) s = .next s) ∧
  (∀ (src : BitVec 12) (m : BitVec 16) (a : WeftAsm) (s : State), (s.weft.asm.find? fun a => !a.whole && a.src == src.toNat && a.msgId == m.toNat) = some a → ∃ t, exec (.assemblyTimeout src m) s = .next t ∧ t.weft.asm = s.weft.asm.erase a ∧ t.rd WEFT.DROP_CNT 0 = min (s.rd WEFT.DROP_CNT 0 + 1) (2 ^ 32 - 1)) ∧
  (∀ (src : BitVec 12) (m : BitVec 16) (s : State), (s.weft.asm.find? fun a => !a.whole && a.src == src.toNat && a.msgId == m.toNat) = none → exec (.assemblyTimeout src m) s = .next s) ∧
  (∀ (k : Packet) (s : State), s.serves = true → s.standby = false → s.on WEFT.ID_VALID 0 = true → weftSendOk k = true → (if k.tgt = 0xFFFF then s.bcastLinks else (s.outLink k.tgt).toList) ≠ [] → ∃ t, exec (.weftSend k) s = .next t ∧ t.weft.nextId = (s.weft.nextId + 1) % 2 ^ 16) ∧
  (∀ (k : Packet) (s : State), s.serves = true → s.standby = false → s.on WEFT.ID_VALID 0 = true → weftSendOk k = true → (if k.tgt = 0xFFFF then s.bcastLinks else (s.outLink k.tgt).toList) = [] → AwaitsResponse k [] s → ∃ t, exec (.weftSend k) s = .next t ∧ Responded k stABORTED [] s t) ∧
  (∀ (k : Packet) (s : State), s.serves = true → s.standby = false → s.on WEFT.ID_VALID 0 = true → weftSendOk k = false → AwaitsResponse k [] s → ∃ t, exec (.weftSend k) s = .next t ∧ Responded k stBAD_ARG [] s t) ∧
  (∀ (k : Packet) (s : State), s.serves = true → s.standby = false → s.on WEFT.ID_VALID 0 = false → AwaitsResponse k [] s → ∃ t, exec (.weftSend k) s = .next t ∧ Responded k stDENIED [] s t) ∧
  (∀ (k : Packet) (s : State), s.serves = true → s.standby = true → AwaitsResponse k [] s → ∃ t, exec (.weftSend k) s = .next t ∧ Responded k stDENIED [] s t) ∧
  (∀ (k : Packet) (s : State), s.serves = true → s.standby = false → s.on WEFT.ID_VALID 0 = true → k.chip = true → k.plain = true → AwaitsResponse k ((s.pageImage 9 0 0x40 48)) s → ∃ t, exec (.weftStatus k) s = .next t ∧ Responded k stOK ((s.pageImage 9 0 0x40 48)) s t) ∧
  (∀ (k : Packet) (s : State), s.serves = true → s.standby = false → s.on WEFT.ID_VALID 0 = true → k.chip = false ∨ k.plain = false → AwaitsResponse k [] s → ∃ t, exec (.weftStatus k) s = .next t ∧ Responded k stBAD_ARG [] s t) ∧
  (∀ (k : Packet) (s : State), s.serves = true → s.standby = false → s.on WEFT.ID_VALID 0 = false → AwaitsResponse k [] s → ∃ t, exec (.weftStatus k) s = .next t ∧ Responded k stDENIED [] s t) ∧
  (∀ (k : Packet) (s : State), s.serves = true → s.standby = true → AwaitsResponse k [] s → ∃ t, exec (.weftStatus k) s = .next t ∧ Responded k stDENIED [] s t) ∧
  (∀ (k : Packet) (i : Nat) (s : State), s.serves = true → s.standby = false → s.on WEFT.ID_VALID 0 = true → k.chip = true → k.arg = 0 → k.len = 64 → ((List.range 16).map fun i => bytesAt k.payload (4 * i) 4).all (fun w => bits w 30 25 == 0) = true → i < 16 → AwaitsResponse k [] s → ∃ t, exec (.weftRoute k) s = .next t ∧ Responded k stOK [] s t ∧ t.rd WEFT.VALID i = bytesAt k.payload (4 * i) 4 / 2 ^ 31 % 2 ^ WEFT.VALID.width ∧ t.rd WEFT.HI i = bits (bytesAt k.payload (4 * i) 4) 23 12 % 2 ^ WEFT.HI.width ∧ t.rd WEFT.LO i = bytesAt k.payload (4 * i) 4 % 2 ^ 12) ∧
  (∀ (k : Packet) (s : State), s.serves = true → s.standby = false → s.on WEFT.ID_VALID 0 = true → k.chip = false ∨ k.arg ≠ 0 ∨ k.len ≠ 64 ∨ ((List.range 16).map fun i => bytesAt k.payload (4 * i) 4).all (fun w => bits w 30 25 == 0) = false → AwaitsResponse k [] s → ∃ t, exec (.weftRoute k) s = .next t ∧ Responded k stBAD_ARG [] s t) ∧
  (∀ (k : Packet) (s : State), s.serves = true → s.standby = false → s.on WEFT.ID_VALID 0 = false → AwaitsResponse k [] s → ∃ t, exec (.weftRoute k) s = .next t ∧ Responded k stDENIED [] s t) ∧
  (∀ (k : Packet) (s : State), s.serves = true → s.standby = true → AwaitsResponse k [] s → ∃ t, exec (.weftRoute k) s = .next t ∧ Responded k stDENIED [] s t)

/-- SYNC on an UP link: at a master, one of another master sets CONFLICT, its own is ignored; a follower takes the master, the hop count and SET of its upstream link and counts, of another link it only notes what the link shows; in the other roles, and on a link not UP, nothing happens. SYNC_SEND: a master sends its time on each UP link, another role sends nothing. DELAY_REQ on a link in TRAIN or UP averages the last 16 delays; on another link nothing happens. HOLDOVER of a follower that acquires or is locked counts four missed SYNCs and enters HOLDOVER; else nothing happens. (R445, R446, R447, R448) -/
def Obligations.DeviceTimeIsDistributed : Prop :=
  (∀ (l : Link) (y : SyncSet) (s : State), s.weftUp l = true → s.rd TIME.ROLE 0 = 1 → y.master.toNat ≠ s.rd WEFT.DEV_ID 0 → ∃ t, exec (.sync l y) s = .next t ∧ t.on TIME.CONFLICT 0 = true ∧ t.time = s.time) ∧
  (∀ (l : Link) (y : SyncSet) (s : State), s.weftUp l = false ∨ (s.rd TIME.ROLE 0 = 1 ∧ y.master.toNat = s.rd WEFT.DEV_ID 0) ∨ 1 < s.rd TIME.ROLE 0 → exec (.sync l y) s = .next s) ∧
  (∀ (l : Link) (y : SyncSet) (s : State), s.weftUp l = true → s.rd TIME.ROLE 0 = 0 → upstream (s.tim.shown.set l (some (y.master.toNat, y.hops.toNat)) l.isLt) = some l → ∃ t, exec (.sync l y) s = .next t ∧ t.rd TIME.SYNC_RX_CNT 0 = min (s.rd TIME.SYNC_RX_CNT 0 + 1) (2 ^ 32 - 1) ∧ t.rd TIME.MASTER_ID 0 = y.master.toNat ∧ t.rd TIME.HOPS 0 = (y.hops.toNat + 1) % 2 ^ TIME.HOPS.width ∧ t.on TIME.SET 0 = y.set ∧ t.rd TIME.UPSTREAM 0 = l.val) ∧
  (∀ (l : Link) (y : SyncSet) (s : State), s.weftUp l = true → s.rd TIME.ROLE 0 = 0 → upstream (s.tim.shown.set l (some (y.master.toNat, y.hops.toNat)) l.isLt) ≠ some l → ∃ t, exec (.sync l y) s = .next t ∧ t.tim.shown.get l = some (y.master.toNat, y.hops.toNat) ∧ t.time = s.time ∧ t.rd TIME.MASTER_ID 0 = s.rd TIME.MASTER_ID 0) ∧
  (∀ (l : Link) (s : State), s.rd TIME.ROLE 0 = 1 → s.weftUp l = true → ∃ t, exec (.syncSend) s = .next t ∧ t.tim.sent.get l = some ⟨BitVec.ofNat 64 s.time, BitVec.ofNat 12 (s.rd WEFT.DEV_ID 0), s.on TIME.SET 0, 0⟩) ∧
  (∀ (s : State), s.rd TIME.ROLE 0 ≠ 1 → exec .syncSend s = .next s) ∧
  (∀ (l : Link) (d : BitVec 16) (s : State), s.rd (linkState l) 0 = lkUp ∨ s.rd (linkState l) 0 = lkTrain → ∃ t, exec (.delayReq l d) s = .next t ∧ t.tim.delays.get l = (d.toNat :: s.tim.delays.get l).take 16 ∧ t.rd (linkDly l) 0 = (2 * ((d.toNat :: s.tim.delays.get l).take 16).sum + ((d.toNat :: s.tim.delays.get l).take 16).length) / (2 * ((d.toNat :: s.tim.delays.get l).take 16).length) % 2 ^ (linkDly l).width) ∧
  (∀ (l : Link) (d : BitVec 16) (s : State), s.rd (linkState l) 0 ≠ lkUp → s.rd (linkState l) 0 ≠ lkTrain → exec (.delayReq l d) s = .next s) ∧
  (∀ (s : State), s.rd TIME.ROLE 0 = 0 → s.rd TIME.STATE 0 = tsLocked ∨ s.rd TIME.STATE 0 = tsAcquire → ∃ t, exec .holdover s = .next t ∧ t.rd TIME.SYNC_MISS_CNT 0 = min (s.rd TIME.SYNC_MISS_CNT 0 + 4) (2 ^ 32 - 1) ∧ t.tim.consec = 0 ∧ t.rd TIME.STATE 0 = tsHoldover) ∧
  (∀ (s : State), s.rd TIME.ROLE 0 ≠ 0 ∨ (s.rd TIME.STATE 0 ≠ tsLocked ∧ s.rd TIME.STATE 0 ≠ tsAcquire) → exec .holdover s = .next s)

/-- OWN_OUT_TOGGLE toggles OWN_OUT while HB_ENABLE is set; an edge at a member sets OWN_IN_OK and ends PARTNER_GONE. OWN_IN_LOSS: an owner marks PARTNER_GONE, a member that may claims; outside a pair nothing. SECONDARY_CLAIM_WAIT lets a secondary standby that never saw the partner claim; else nothing. CLAIM_COMPLETE makes a claimer the owner; else nothing. YIELD_OUT_RELEASE releases YIELD_OUT outside a claim; in one nothing. YIELD_IN shows its level: a claiming secondary ends its claim, an armed primary owner vetoes, any other owner yields to standby, with a hand-over of its own abandoned. TAKEOVER under way resumes every port and counts; else nothing. PAIR_HANDOVER, and PAIR_LEAVE of an owner, begin a hand-over (DENIED without ownership or mirror, BUSY while one runs); a member that does not own leaves at once, a device in no pair is DENIED. HANDOVER: the start sets T_H unless ports are busy; the instant yields where the final frames are acknowledged and no port is busy, else ABORTED; the timeout answers BUSY. PAIR_STATUS answers the page. PAIR_ENROL keeps a key whose digest matches; another is INTEGRITY, a solo or refused device and one with no digest DENIED. Other forms BAD_ARG; a standby DENIED. (R463, R473, R474, R475, R477, R478, R479, R480, R481, R484) -/
def Obligations.PairOwnershipMoves : Prop :=
  (∀ (b : Bool) (s : State), ∃ t, exec (.ownOutToggle b) s = .next t ∧ t.pair.ownOut = (if s.on PAIR.HB_ENABLE 0 then !s.pair.ownOut else s.pair.ownOut)) ∧
  (∀ (s : State), s.pairMember = true → ∃ t, exec (.ownOutToggle true) s = .next t ∧ t.on PAIR.OWN_IN_OK 0 = true ∧ t.on PAIR.PARTNER_GONE 0 = false ∧ t.pair.seen = true ∧ t.pair.edgeAt = s.up) ∧
  (∀ (s : State), s.pairMember = true → s.pairOwner = true → ∃ t, exec .ownInLoss s = .next t ∧ t.on PAIR.OWN_IN_OK 0 = false ∧ t.on PAIR.PARTNER_GONE 0 = true ∧ t.rd PAIR.PAIR_STATE 0 = s.rd PAIR.PAIR_STATE 0) ∧
  (∀ (s : State), s.pairMember = true → s.pairOwner = false → s.mayClaim = true → ∃ t, exec .ownInLoss s = .next t ∧ t.on PAIR.OWN_IN_OK 0 = false ∧ t.rd PAIR.PAIR_STATE 0 = psClaiming ∧ t.on PAIR.YIELD_OUT 0 = true ∧ t.pair.claimAt = some s.up) ∧
  (∀ (s : State), s.pairMember = true → s.pairOwner = false → s.mayClaim = false → ∃ t, exec .ownInLoss s = .next t ∧ t.on PAIR.OWN_IN_OK 0 = false ∧ t.rd PAIR.PAIR_STATE 0 = s.rd PAIR.PAIR_STATE 0) ∧
  (∀ (s : State), s.pairMember = false → exec .ownInLoss s = .next s) ∧
  (∀ (s : State), s.standby = true → s.secondary = true → s.pair.seen = false → ∃ t, exec .secondaryClaimWait s = .next t ∧ t.pair.waited = true) ∧
  (∀ (s : State), s.standby = true → s.secondary = true → s.pair.seen = false → s.on PAIR.OWN_IN_OK 0 = false → s.on PAIR.HB_ENABLE 0 = true → s.pair.key.isSome = true → s.pair.blocked = false → s.pair.left = false → ∃ t, exec .secondaryClaimWait s = .next t ∧ t.rd PAIR.PAIR_STATE 0 = psClaiming ∧ t.on PAIR.YIELD_OUT 0 = true ∧ t.pair.claimAt = some s.up) ∧
  (∀ (s : State), s.standby = false ∨ s.secondary = false ∨ s.pair.seen = true → exec .secondaryClaimWait s = .next s) ∧
  (∀ (us : BitVec 16) (s : State), s.rd PAIR.PAIR_STATE 0 = psClaiming → ∃ t, exec (.claimComplete us) s = .next t ∧ t.pairOwner = true ∧ t.rd PAIR.PAIR_STATE 0 = psOwner ∧ t.rd PAIR.DRIVE_US 0 = us.toNat ∧ t.pair.taking = true) ∧
  (∀ (us : BitVec 16) (s : State), s.rd PAIR.PAIR_STATE 0 ≠ psClaiming → exec (.claimComplete us) s = .next s) ∧
  (∀ (s : State), s.rd PAIR.PAIR_STATE 0 ≠ psClaiming → ∃ t, exec .yieldOutRelease s = .next t ∧ t.on PAIR.YIELD_OUT 0 = false ∧ t.pair.claimAt = none ∧ t.pair.veto = false) ∧
  (∀ (s : State), s.rd PAIR.PAIR_STATE 0 = psClaiming → exec .yieldOutRelease s = .next s) ∧
  (∀ (b : Bool) (s : State), ∃ t, exec (.yieldIn b) s = .next t ∧ t.on PAIR.YIELD_IN 0 = b) ∧
  (∀ (s : State), s.rd PAIR.PAIR_STATE 0 = psClaiming → s.secondary = true → ∃ t, exec (.yieldIn true) s = .next t ∧ t.standby = true ∧ t.on PAIR.YIELD_OUT 0 = false ∧ t.on PAIR.VETOED 0 = true ∧ t.pair.claimAt = none ∧ t.pair.blocked = true) ∧
  (∀ (s : State), s.rd PAIR.PAIR_STATE 0 ≠ psClaiming → s.pairOwner = true → s.secondary = false → s.on PAIR.VETO_ARM 0 = true → ∃ t, exec (.yieldIn true) s = .next t ∧ t.pairOwner = true ∧ t.on PAIR.YIELD_OUT 0 = true ∧ t.pair.veto = true) ∧
  (∀ (s : State), s.rd PAIR.PAIR_STATE 0 ≠ psClaiming → s.pairOwner = true → s.secondary = true ∨ s.on PAIR.VETO_ARM 0 = false → ∃ t, exec (.yieldIn true) s = .next t ∧ t.standby = true ∧ t.pairOwner = false ∧ t.rd PAIR.YIELD_CNT 0 = min (s.rd PAIR.YIELD_CNT 0 + 1) (2 ^ 32 - 1) ∧ t.pair.handover = none) ∧
  (∀ (us : BitVec 16) (s : State), s.pair.taking = true → ∃ t, exec (.takeover us) s = .next t ∧ t.rd PAIR.DONE_US 0 = us.toNat ∧ t.pair.taking = false ∧ t.rd PAIR.TAKEOVER_CNT 0 = min (s.rd PAIR.TAKEOVER_CNT 0 + 1) (2 ^ 32 - 1)) ∧
  (∀ (us : BitVec 16) (s : State), s.pair.taking = false → exec (.takeover us) s = .next s) ∧
  (∀ (i : Nat) (h : HoSt) (s : State), s.pair.handover = some h → s.handoverBusy = false → h.at_ = none → ∃ t, exec (.handover (.start i)) s = .next t ∧ t.pair.handover = some { h with at_ := some i }) ∧
  (∀ (i : Nat) (h : HoSt) (s : State), s.pair.handover = some h → s.handoverBusy = true ∨ h.at_ ≠ none → exec (.handover (.start i)) s = .next s) ∧
  (∀ (h : HoSt) (s : State), s.pair.handover = some h → h.at_ ≠ none → ∃ t, exec (.handover .finalFrames) s = .next t ∧ t.pair.handover = some { h with final := true }) ∧
  (∀ (h : HoSt) (s : State), s.pair.handover = some h → h.at_ = none → exec (.handover .instant) s = .next s) ∧
  (∀ (h : HoSt) (s : State), s.pair.handover = some h → h.at_ = none → exec (.handover .finalFrames) s = .next s) ∧
  (∀ (h : HoSt) (s : State), s.pair.handover = some h → h.at_ ≠ none → h.leave = false → h.final = true → s.handoverBusy = false → (s.pair.unacked.any fun x => selIsHandover x.2) = false → ∃ t, exec (.handover .instant) s = .next t ∧ t.standby = true ∧ t.pairOwner = false ∧ t.pair.handover = none ∧ t.rd PAIR.HANDOVER_CNT 0 = min (s.rd PAIR.HANDOVER_CNT 0 + 1) (2 ^ 32 - 1) ∧ t.rd PAIR.YIELD_CNT 0 = min (s.rd PAIR.YIELD_CNT 0 + 1) (2 ^ 32 - 1)) ∧
  (∀ (h : HoSt) (s : State), s.pair.handover = some h → h.at_ ≠ none → h.leave = true → h.final = true → s.handoverBusy = false → (s.pair.unacked.any fun x => selIsHandover x.2) = false → ∃ t, exec (.handover .instant) s = .next t ∧ t.rd PAIR.PAIR_STATE 0 = psLeft ∧ t.pairOwner = false ∧ t.pair.handover = none ∧ t.rd PAIR.HANDOVER_CNT 0 = min (s.rd PAIR.HANDOVER_CNT 0 + 1) (2 ^ 32 - 1)) ∧
  (∀ (h : HoSt) (s : State), s.pair.handover = some h → h.at_ ≠ none → h.final = false ∨ s.handoverBusy = true ∨ (s.pair.unacked.any fun x => selIsHandover x.2) = true → ∃ t, exec (.handover .instant) s = .next t ∧ t.pair.handover = none ∧ t.rd PAIR.PAIR_STATE 0 = psOwner ∧ t.pairOwner = s.pairOwner ∧ t.rd PAIR.HANDOVER_CNT 0 = s.rd PAIR.HANDOVER_CNT 0) ∧
  (∀ (h : HoSt) (s : State), s.pair.handover = some h → h.at_ = none → s.handoverBusy = true → ∃ t, exec (.handover .timeout) s = .next t ∧ t.pair.handover = none ∧ t.rd PAIR.PAIR_STATE 0 = psOwner) ∧
  (∀ (h : HoSt) (s : State), s.pair.handover = some h → h.at_ ≠ none ∨ s.handoverBusy = false → exec (.handover .timeout) s = .next s) ∧
  (∀ (n : Nat) (s : State), s.pair.handover = none → s.pair.coming = some (n, true) → s.standby = true → ∃ t, exec (.handover .instant) s = .next t ∧ t.pairOwner = true ∧ t.rd PAIR.PAIR_STATE 0 = psOwner ∧ t.pair.coming = none ∧ t.rd PAIR.HANDOVER_CNT 0 = min (s.rd PAIR.HANDOVER_CNT 0 + 1) (2 ^ 32 - 1)) ∧
  (∀ (e : HoEvent) (s : State), s.pair.handover = none → s.pair.coming = none ∨ s.standby = false → exec (.handover e) s = .next s) ∧
  (∀ (k : Packet) (s : State), s.serves = true → k.chip = true → k.plain = true → s.pairOwner = true → s.on PAIR.MIRROR_OK 0 = true → s.pair.handover = none → ∃ t, exec (.pairHandover k) s = .next t ∧ t.rd PAIR.PAIR_STATE 0 = psHandover ∧ t.pair.handover = some ⟨k, s.up, false, false, none, false⟩) ∧
  (∀ (k : Packet) (s : State), s.serves = true → k.chip = true → k.plain = true → s.pairOwner = false ∨ s.on PAIR.MIRROR_OK 0 = false → AwaitsResponse k [] s → ∃ t, exec (.pairHandover k) s = .next t ∧ Responded k stDENIED [] s t ∧ t.pair.handover = s.pair.handover) ∧
  (∀ (k : Packet) (s : State), s.serves = true → k.chip = true → k.plain = true → s.pairOwner = true → s.on PAIR.MIRROR_OK 0 = true → s.pair.handover ≠ none → AwaitsResponse k [] s → ∃ t, exec (.pairHandover k) s = .next t ∧ Responded k stBUSY [] s t ∧ t.pair.handover = s.pair.handover) ∧
  (∀ (k : Packet) (s : State), s.serves = true → k.chip = false ∨ k.plain = false → AwaitsResponse k [] s → ∃ t, exec (.pairHandover k) s = .next t ∧ Responded k stBAD_ARG [] s t) ∧
  (∀ (k : Packet) (s : State), s.serves = true → s.standby = false → k.payload.isEmpty = true → k.ar ≤ 1 → s.pairMember = true → s.pairOwner = true → s.on PAIR.MIRROR_OK 0 = true → s.pair.handover = none → ∃ t, exec (.pairLeave k) s = .next t ∧ t.rd PAIR.PAIR_STATE 0 = psHandover ∧ t.pair.handover = some ⟨k, s.up, true, k.ar == 1, none, false⟩) ∧
  (∀ (k : Packet) (s : State), s.serves = true → s.standby = false → k.payload.isEmpty = true → k.ar ≤ 1 → s.pairMember = true → s.pairOwner = true → s.on PAIR.MIRROR_OK 0 = false → AwaitsResponse k [] s → ∃ t, exec (.pairLeave k) s = .next t ∧ Responded k stDENIED [] s t ∧ t.pair.handover = s.pair.handover) ∧
  (∀ (k : Packet) (s : State), s.serves = true → s.standby = false → k.payload.isEmpty = true → k.ar ≤ 1 → s.pairMember = true → s.pairOwner = true → s.on PAIR.MIRROR_OK 0 = true → s.pair.handover ≠ none → AwaitsResponse k [] s → ∃ t, exec (.pairLeave k) s = .next t ∧ Responded k stBUSY [] s t ∧ t.pair.handover = s.pair.handover) ∧
  (∀ (k : Packet) (s : State), s.serves = true → s.standby = false → k.payload.isEmpty = true → k.ar ≤ 1 → s.pairMember = true → s.pairOwner = false → AwaitsResponse k [] s → ∃ t, exec (.pairLeave k) s = .next t ∧ Responded k stOK [] s t ∧ t.rd PAIR.PAIR_STATE 0 = psLeft ∧ t.pair.key = none ∧ t.pair.left = (k.ar == 1)) ∧
  (∀ (k : Packet) (s : State), s.serves = true → s.standby = false → k.payload.isEmpty = true → k.ar ≤ 1 → s.pairMember = false → AwaitsResponse k [] s → ∃ t, exec (.pairLeave k) s = .next t ∧ Responded k stDENIED [] s t ∧ t.pair = s.pair) ∧
  (∀ (k : Packet) (s : State), s.serves = true → s.standby = false → k.payload.isEmpty = false ∨ 1 < k.ar → AwaitsResponse k [] s → ∃ t, exec (.pairLeave k) s = .next t ∧ Responded k stBAD_ARG [] s t) ∧
  (∀ (k : Packet) (s : State), s.serves = true → s.standby = true → AwaitsResponse k [] s → ∃ t, exec (.pairLeave k) s = .next t ∧ Responded k stDENIED [] s t) ∧
  (∀ (k : Packet) (s : State), s.serves = true → AwaitsResponse k ((s.pageImage 0xB 0 0x40 64)) s → ∃ t, exec (.pairStatus k) s = .next t ∧ Responded k stOK ((s.pageImage 0xB 0 0x40 64)) s t) ∧
  (∀ (k : Packet) (s : State), s.serves = true → s.standby = false → k.chip = true → k.ar ≤ 1 → k.len = 32 → s.keyHash 17 = some (sha256 k.payload) → s.rd PAIR.PAIR_STATE 0 ≠ psRefused → s.rd PAIR.PAIR_STATE 0 ≠ psSolo → AwaitsResponse k [] s → ∃ t, exec (.pairEnrol k) s = .next t ∧ Responded k stOK [] s t ∧ t.pair.key = some k.payload) ∧
  (∀ (k : Packet) (s : State), s.serves = true → s.standby = false → k.chip = true → k.ar ≤ 1 → k.len = 32 → s.keyHash 17 = some (sha256 k.payload) → s.rd PAIR.PAIR_STATE 0 = psRefused ∨ s.rd PAIR.PAIR_STATE 0 = psSolo → AwaitsResponse k [] s → ∃ t, exec (.pairEnrol k) s = .next t ∧ Responded k stDENIED [] s t ∧ t.pair.key = s.pair.key) ∧
  (∀ (k : Packet) (d : List Byte) (s : State), s.serves = true → s.standby = false → k.chip = true → k.ar ≤ 1 → k.len = 32 → s.keyHash 17 = some d → sha256 k.payload ≠ d → AwaitsResponse k [] s → ∃ t, exec (.pairEnrol k) s = .next t ∧ Responded k stINTEGRITY [] s t ∧ t.pair.key = s.pair.key) ∧
  (∀ (k : Packet) (s : State), s.serves = true → s.standby = false → k.chip = true → k.ar ≤ 1 → k.len = 32 → s.keyHash 17 = none → AwaitsResponse k [] s → ∃ t, exec (.pairEnrol k) s = .next t ∧ Responded k stDENIED [] s t ∧ t.pair.key = s.pair.key) ∧
  (∀ (k : Packet) (s : State), s.serves = true → s.standby = false → k.chip = false ∨ 1 < k.ar ∨ k.len ≠ 32 → AwaitsResponse k [] s → ∃ t, exec (.pairEnrol k) s = .next t ∧ Responded k stBAD_ARG [] s t) ∧
  (∀ (k : Packet) (s : State), s.serves = true → s.standby = true → AwaitsResponse k [] s → ∃ t, exec (.pairEnrol k) s = .next t ∧ Responded k stDENIED [] s t)

/-- SELVEDGE_TRAINING of a member that may train: the signal starts alignment with no frame outstanding, alignment the exchange of HELLO, and the proof with 16 HELLOs takes the link UP; in another state, and of a member that may not, nothing happens. SELVEDGE_FRAME: a bad CRC is counted; HELLO in TRAIN gives the partner's nonce and serial; ACK drops the acknowledged frames; at a member that does not own, LOOP stamps its group and clears STALE of its ports, CACHE keeps the entry, STATE the island and SEL, RECORD the record, ACCUM the readings, MARKS the marks, HANDOVER and TIME their times; an owner ignores LOOP, STATE and ACCUM; a reliable frame counts its SEQ where it is the one expected and is acknowledged; URGENT, also as its own command, gives the union of both members' stops (how a falling bit is taken is the model's reading, assumption 177); with the link neither UP nor in TRAIN a frame does nothing. SELVEDGE_RETRANSMIT of an outstanding frame counts; the eighth takes the link DOWN; LOOP_FRAME_SEND of an owner stamps the group; MIRROR_LOST clears MIRROR_OK in both pages; LOOP_DATA_STALE marks a port at a standby; each otherwise does nothing. (R464, R465, R466, R467, R468, R470, R472, R476) -/
def Obligations.PairLinkMirrors : Prop :=
  (∀ (s : State), s.selMay = true → s.rd PAIR.LINK_STATE 0 = lkDown → ∃ t, exec (.selvedgeTraining .signal) s = .next t ∧ t.rd PAIR.LINK_STATE 0 = lkAlign ∧ t.pair.unacked = [] ∧ t.pair.seq = 0 ∧ t.pair.proved = false) ∧
  (∀ (s : State), s.selMay = true → s.rd PAIR.LINK_STATE 0 = lkAlign → ∃ t, exec (.selvedgeTraining .aligned) s = .next t ∧ t.rd PAIR.LINK_STATE 0 = lkTrain) ∧
  (∀ (s : State), s.selMay = true → s.rd PAIR.LINK_STATE 0 = lkTrain → s.pair.proved = true → 16 ≤ s.pair.hellos → ∃ t, exec (.selvedgeTraining .trained) s = .next t ∧ t.linkUp = true) ∧
  (∀ (e : LinkEvent) (s : State), s.selMay = false → exec (.selvedgeTraining e) s = .next s) ∧
  (∀ (e : LinkEvent) (s : State), s.rd PAIR.LINK_STATE 0 ≠ (match e with | .signal => lkDown | .aligned => lkAlign | .trained => lkTrain) → exec (.selvedgeTraining e) s = .next s) ∧
  (∀ (s : State), s.pair.proved = false ∨ s.pair.hellos < 16 → exec (.selvedgeTraining .trained) s = .next s) ∧
  (∀ (q : Word) (b : SelBody) (s : State), s.rd PAIR.LINK_STATE 0 = lkTrain ∨ s.linkUp = true → ∃ t, exec (.selvedgeFrame false q b) s = .next t ∧ t.rd PAIR.CRC_ERR_CNT 0 = min (s.rd PAIR.CRC_ERR_CNT 0 + 1) (2 ^ 32 - 1) ∧ t.pair = s.pair) ∧
  (∀ (q : Word) (h : Hello) (s : State), s.rd PAIR.LINK_STATE 0 = lkTrain → h.proof = [] → ∃ t, exec (.selvedgeFrame true q (.hello h)) s = .next t ∧ t.pair.theirs = h.nonce ∧ t.rd PAIR.PARTNER_SN_LO 0 = h.serial % 2 ^ 32 ∧ t.rd PAIR.PARTNER_SN_HI 0 = h.serial / 2 ^ 32 % 2 ^ 32 ∧ t.pair.hellos = s.pair.hellos + 1) ∧
  (∀ (n : Nat) (q : Word) (s : State), s.linkUp = true → ∃ t, exec (.selvedgeFrame true q (.ack n)) s = .next t ∧ t.pair.unacked = ackedOff n s.pair.unacked) ∧
  (∀ (g : Fin 4) (l : List LoopImg) (q : Word) (s : State), s.linkUp = true → s.pairOwner = false → ∃ t, exec (.selvedgeFrame true q (.loop g false l)) s = .next t ∧ t.pair.groupAt.get g = some s.up) ∧
  (∀ (g : Fin 4) (l : List LoopImg) (p : Port) (q : Word) (s : State), s.linkUp = true → s.pairOwner = false → ((groupPorts g).zip l).any (fun x => x.1 == p) = true → ∃ t, exec (.selvedgeFrame true q (.loop g false l)) s = .next t ∧ t.bit PAIR.STALE 0 p = false) ∧
  (∀ (p : Port) (e : CacheImg) (q : Word) (s : State), s.linkUp = true → s.pairOwner = false → q.toNat = s.pair.rxSeq → ∃ t, exec (.selvedgeFrame true q (.cache p e)) s = .next t ∧ (t.port p).pe.cache = e ∧ (t.port p).pe.contract = e.contract ∧ t.rd CC.PWR_ROLE p = e.src % 2 ^ CC.PWR_ROLE.width) ∧
  (∀ (x : StateImg) (q : Word) (s : State), s.linkUp = true → s.pairOwner = false → ∃ t, exec (.selvedgeFrame true q (.state x)) s = .next t ∧ t.rd FEED.SEL 0 = x.sel % 2 ^ FEED.SEL.width ∧ t.island.isSome = x.island ∧ t.on BUDGET.HOLD 0 = x.hold) ∧
  (∀ (n : Nat) (r : Option LedRec) (q : Word) (s : State), s.linkUp = true → s.pairOwner = false → q.toNat = s.pair.rxSeq → ∃ t, exec (.selvedgeFrame true q (.record n r)) s = .next t ∧ t.record n = r) ∧
  (∀ (l : List Int) (q : Word) (s : State), s.linkUp = true → s.pairOwner = false → ∃ t, exec (.selvedgeFrame true q (.accum l)) s = .next t ∧ t.pair.accum = l) ∧
  (∀ (m : Word) (l : List Nat) (q : Word) (s : State), s.linkUp = true → s.pairOwner = false → q.toNat = s.pair.rxSeq → ∃ t, exec (.selvedgeFrame true q (.marks m l)) s = .next t ∧ t.retiredMask = m ∧ t.pair.failed = l) ∧
  (∀ (b : SelBody) (q : Word) (s : State), s.linkUp = true → q.toNat = s.pair.rxSeq → selIsReliable b = true → ∃ t, exec (.selvedgeFrame true q b) s = .next t ∧ t.pair.rxSeq = (s.pair.rxSeq + 1) % 2 ^ 32 ∧ t.pair.sent = some (.ack ((t.pair.rxSeq + 2 ^ 32 - 1) % 2 ^ 32))) ∧
  (∀ (b : SelBody) (q : Word) (s : State), s.linkUp = true → q.toNat ≠ s.pair.rxSeq → selIsReliable b = true → ∃ t, exec (.selvedgeFrame true q b) s = .next t ∧ t.retiredMask = s.retiredMask ∧ t.pair.rxSeq = s.pair.rxSeq ∧ t.pair.sent = some (.ack ((s.pair.rxSeq + 2 ^ 32 - 1) % 2 ^ 32))) ∧
  (∀ (x : StateImg) (q : Word) (s : State), s.linkUp = true → s.pairOwner = true → exec (.selvedgeFrame true q (.state x)) s = .next s) ∧
  (∀ (l : List Int) (q : Word) (s : State), s.linkUp = true → s.pairOwner = true → exec (.selvedgeFrame true q (.accum l)) s = .next s) ∧
  (∀ (g : Fin 4) (b : Bool) (l : List LoopImg) (q : Word) (s : State), s.linkUp = true → s.pairOwner = true → exec (.selvedgeFrame true q (.loop g b l)) s = .next s) ∧
  (∀ (n : Nat) (b : Bool) (q : Word) (s : State), s.linkUp = true → s.pairOwner = false → q.toNat = s.pair.rxSeq → ∃ t, exec (.selvedgeFrame true q (.handover n b)) s = .next t ∧ t.pair.coming = some (n, b)) ∧
  (∀ (n : Nat) (q : Word) (s : State), s.linkUp = true → s.pairOwner = false → ∃ t, exec (.selvedgeFrame true q (.time n)) s = .next t ∧ t.pair.epochAt = some (n, s.up)) ∧
  (∀ (m : Word) (l : List (Bool × Nat × Nat × Nat)) (q : Word) (s : State), s.linkUp = true → s.standby = true → q.toNat = s.pair.rxSeq → ∃ t, exec (.selvedgeFrame true q (.urgent m l)) s = .next t ∧ ∀ p : Port, t.stopped p = (m.getLsbD p || (s.stopped p && !s.pair.heard.1.getLsbD p))) ∧
  (∀ (g : Bool) (q : Word) (b : SelBody) (s : State), s.rd PAIR.LINK_STATE 0 ≠ lkTrain → s.linkUp = false → exec (.selvedgeFrame g q b) s = .next s) ∧
  (∀ (m : Word) (l : List (Bool × Nat × Nat × Nat)) (s : State), s.linkUp = true → s.standby = true → ∃ t, exec (.urgent m l) s = .next t ∧ ∀ p : Port, t.stopped p = (m.getLsbD p || (s.stopped p && !s.pair.heard.1.getLsbD p))) ∧
  (∀ (m : Word) (l : List (Bool × Nat × Nat × Nat)) (s : State), s.linkUp = true → ∃ t, exec (.urgent m l) s = .next t ∧ t.pair.heard = (m, l)) ∧
  (∀ (m : Word) (l : List (Bool × Nat × Nat × Nat)) (s : State), s.linkUp = false → exec (.urgent m l) s = .next s) ∧
  (∀ (s : State), s.linkUp = true → s.pair.unacked ≠ [] → s.pair.resends < 7 → ∃ t, exec .selvedgeRetransmit s = .next t ∧ t.pair.resends = s.pair.resends + 1 ∧ t.rd PAIR.RETX_CNT 0 = min (s.rd PAIR.RETX_CNT 0 + 1) (2 ^ 32 - 1)) ∧
  (∀ (s : State), s.linkUp = true → s.pair.unacked ≠ [] → 7 ≤ s.pair.resends → ∃ t, exec .selvedgeRetransmit s = .next t ∧ t.rd PAIR.LINK_STATE 0 = lkDown ∧ t.pair.unacked = [] ∧ t.rd PAIR.RETX_CNT 0 = min (s.rd PAIR.RETX_CNT 0 + 1) (2 ^ 32 - 1)) ∧
  (∀ (s : State), s.linkUp = false ∨ s.pair.unacked = [] → exec .selvedgeRetransmit s = .next s) ∧
  (∀ (g : Fin 4) (s : State), s.pairOwner = true → s.linkUp = true → ∃ t, exec (.loopFrameSend g) s = .next t ∧ t.pair.groupAt.get g = some s.up) ∧
  (∀ (g : Fin 4) (s : State), s.pairOwner = false ∨ s.linkUp = false → exec (.loopFrameSend g) s = .next s) ∧
  (∀ (s : State), s.on PAIR.MIRROR_OK 0 = true → ∃ t, exec .mirrorLost s = .next t ∧ t.on PAIR.MIRROR_OK 0 = false ∧ t.on LEDGER.MIRROR 0 = false ∧ t.bit (IRQ_STAT PAIR.page) 0 PAIR.IRQ_MIRROR_LOST = true) ∧
  (∀ (s : State), s.on PAIR.MIRROR_OK 0 = false → exec .mirrorLost s = .next s) ∧
  (∀ (p : Port) (s : State), s.standby = true → ∃ t, exec (.loopDataStale p) s = .next t ∧ t.bit PAIR.STALE 0 p = true) ∧
  (∀ (p : Port) (s : State), s.standby = false → exec (.loopDataStale p) s = .next s)

/-- A cold start is counted and goes to the recovery ROM under the BOOT pins; a warm start is counted; WARM_RESET begins a warm reset under its cause; a failed component load is counted and fails its Twill; CORE_RELOAD reloads an engine whose component is sound; CORE_RETIRE takes the engine out under its cause. (R491, R493, R495, R504, R535, R536) -/
def Obligations.StartsAndEngineReloads : Prop :=
  (∀ (ms : Nat) (b : List (Nat × Bool)) (j : List Nat) (s : State), s.dev = .boot → s.on CLK.CORE_LOCK 0 = true → s.on CLK.PWM_LOCK 0 = true → s.rd BOOT.SOURCE 0 ≠ 1 → s.rd BOOT.BOOT_PINS 0 = 2 →
    ∃ t, exec (.coldStart ⟨ms, b, j⟩) s = .next t ∧ t.dev = .recovery ∧ t.rd BOOT.SOURCE 0 = 2 ∧ t.on SYS.READY 0 = false ∧ t.rd BOOT.BOOT_CNT 0 = min (s.rd BOOT.BOOT_CNT 0 + 1) (2 ^ 32 - 1)) ∧
  (∀ (ms : Nat) (b : Bool) (c : List Port) (s : State), s.boot.warmDue = true → s.dev = .run →
    ∃ t, exec (.warmStart ⟨ms, b, c⟩) s = .next t ∧ t.dev = .warmReset ∧ t.boot.warmDue = false ∧ (t.rd RST.CAUSE 0).testBit rcUpdate = true) ∧
  (∀ (ms : Nat) (b : Bool) (c : List Port) (s : State), s.boot.warmDue = false → s.dev = .warmReset → s.on CLK.CORE_LOCK 0 = true →
    ∃ t, exec (.warmStart ⟨ms, b, c⟩) s = .next t ∧ t.rd BOOT.WARM_BOOT_CNT 0 = min (s.rd BOOT.WARM_BOOT_CNT 0 + 1) (2 ^ 32 - 1)) ∧
  (∀ (k : Packet) (s : State), s.serves = true → s.standby = false → k.chip = true → k.plain = true → s.warmRefused = false →
    ∃ t, exec (.warmReset k) s = .next t ∧ t.dev = .warmReset ∧ t.on SYS.READY 0 = false ∧ (t.rd RST.CAUSE 0).testBit rcCmd = true ∧ t.rd RST.WARM_CNT 0 = min (s.rd RST.WARM_CNT 0 + 1) (2 ^ 32 - 1)) ∧
  (∀ (e : Fin 12) (s : State), 1 ≤ e.val → e.val ≤ 8 → s.serves = true → s.rd CORE.STATE e ≠ enRetired →
    ∃ t, exec (.coreLoadFail e) s = .next t ∧ t.rd CORE.STATE e = enFailed ∧ t.rd BOOT.LOAD_FAIL_CNT 0 = min (s.rd BOOT.LOAD_FAIL_CNT 0 + 1) (2 ^ 32 - 1)) ∧
  (∀ (k : Packet) (s : State), s.serves = true → k.plain = true → 1 ≤ k.tgt → k.tgt ≤ 8 → s.coreDenied k.tgt = false → componentOk (s.imageAt s.reloadSlot) (componentOf k.tgt) = true → AwaitsResponse k [] s →
    ∃ t, exec (.coreReload k) s = .next t ∧ Responded k stOK [] s t ∧ t.rd CORE.STATE k.tgt = enRun) ∧
  (∀ (k : Packet) (s : State), s.serves = true → k.plain = true → 1 ≤ k.tgt → k.tgt ≤ 8 → s.coreDenied k.tgt = false → s.rd CORE.STATE k.tgt ≠ enRetired → AwaitsResponse k [] s →
    ∃ t, exec (.coreRetire k) s = .next t ∧ Responded k stOK [] s t ∧ t.rd CORE.STATE k.tgt = enRetired ∧ t.rd CORE.LAST_CAUSE k.tgt = lcRetire)

/-- On a serving owner: UPD_BEGIN in IDLE, APPLIED, INTERRUPTED or FAILED starts RECEIVING with nothing received, or fails with the status of its first failing check; in another state or while an update is examined it answers BUSY. UPD_DATA in RECEIVING appends the next piece; the last piece again answers OK, any other BAD_ARG; else DENIED. UPD_END of a complete body goes to APPLYING; a short one BAD_ARG, in mode 1 a wrong BODY_HASH fails with INTEGRITY; else DENIED. UPD_STATUS answers the progress. UPD_COMMIT of an applied image goes to COMMITTED (ARG 1: a warm reset becomes due), ARG 2 rolls to TRIAL or FAILED where the image allows it, ARG 3 confirms a trial; else DENIED. UPD_ABORT returns to IDLE with nothing staged; else DENIED. Other forms BAD_ARG; a standby DENIED. AUTO_CONFIRM, its conditions met, confirms the trial and counts. DELTA_BLOCK: a good block advances DONE, the last one and none left end in APPLIED or FAILED; a bad record or read-back fails. UPD_RESUMED takes a whole update up, counted; another becomes INTERRUPTED. Where their conditions are not met these three do nothing. (R497, R499, R500, R501, R502, R503, R471) -/
def Obligations.UpdateMovesThroughItsStates : Prop :=
  (∀ (k : Packet) (s : State), s.serves = true → s.standby = false → k.chip = true → k.ar = 0 → k.len = 256 → s.boot.exam = false → s.rd BOOT.STATE 0 ∈ [upIdle, upApplied, upInterrupted, upFailed] → s.beginFault k.payload = stOK → AwaitsResponse k [] s → ∃ t, exec (.updBegin k) s = .next t ∧ Responded k stOK [] s t ∧ t.rd BOOT.STATE 0 = upReceiving ∧ t.rd BOOT.BYTES 0 = 0 ∧ t.rd BOOT.DONE 0 = 0 ∧ t.flash.stage = some (k.payload, [], false)) ∧
  (∀ (k : Packet) (f : Nat) (s : State), s.serves = true → s.standby = false → k.chip = true → k.ar = 0 → k.len = 256 → s.boot.exam = false → s.rd BOOT.STATE 0 ∈ [upIdle, upApplied, upInterrupted, upFailed] → s.beginFault k.payload = f → f ≠ stOK → AwaitsResponse k [] s → ∃ t, exec (.updBegin k) s = .next t ∧ Responded k f [] s t ∧ t.rd BOOT.LAST_STATUS 0 = f % 2 ^ BOOT.LAST_STATUS.width ∧ t.rd BOOT.STATE 0 = upFailed ∧ t.rd BOOT.UPD_FAIL_CNT 0 = min (s.rd BOOT.UPD_FAIL_CNT 0 + 1) (2 ^ 32 - 1) ∧ t.flash.stage = none) ∧
  (∀ (k : Packet) (s : State), s.serves = true → s.standby = false → k.chip = true → k.ar = 0 → k.len = 256 → s.boot.exam = true ∨ s.rd BOOT.STATE 0 ∉ [upIdle, upApplied, upInterrupted, upFailed] → AwaitsResponse k [] s → ∃ t, exec (.updBegin k) s = .next t ∧ Responded k stBUSY [] s t ∧ t.rd BOOT.STATE 0 = s.rd BOOT.STATE 0 ∧ t.flash = s.flash) ∧
  (∀ (k : Packet) (s : State), s.serves = true → s.standby = false → k.chip = false ∨ k.ar ≠ 0 ∨ k.len ≠ 256 → AwaitsResponse k [] s → ∃ t, exec (.updBegin k) s = .next t ∧ Responded k stBAD_ARG [] s t) ∧
  (∀ (k : Packet) (s : State), s.serves = true → s.standby = true → AwaitsResponse k [] s → ∃ t, exec (.updBegin k) s = .next t ∧ Responded k stDENIED [] s t) ∧
  (∀ (k : Packet) (s : State), s.serves = true → s.standby = false → dataForm k = true → s.rd BOOT.STATE 0 = upReceiving → s.pieceNext k = true → AwaitsResponse k [] s → ∃ t, exec (.updData k) s = .next t ∧ Responded k stOK [] s t ∧ t.rd BOOT.BYTES 0 = (k.ar + k.len) % 2 ^ 32 ∧ t.boot.piece = k.len ∧ t.flash.stage = some (s.stage.1, s.stage.2.1 ++ k.payload, s.stage.2.2)) ∧
  (∀ (k : Packet) (s : State), s.serves = true → s.standby = false → dataForm k = true → s.rd BOOT.STATE 0 = upReceiving → s.pieceNext k = false → AwaitsResponse k [] s → ∃ t, exec (.updData k) s = .next t ∧ Responded k (if s.pieceAgain k then stOK else stBAD_ARG) [] s t ∧ t.flash = s.flash ∧ t.rd BOOT.BYTES 0 = s.rd BOOT.BYTES 0) ∧
  (∀ (k : Packet) (s : State), s.serves = true → s.standby = false → dataForm k = true → s.rd BOOT.STATE 0 ≠ upReceiving → AwaitsResponse k [] s → ∃ t, exec (.updData k) s = .next t ∧ Responded k stDENIED [] s t ∧ t.flash = s.flash) ∧
  (∀ (k : Packet) (s : State), s.serves = true → s.standby = false → dataForm k = false → AwaitsResponse k [] s → ∃ t, exec (.updData k) s = .next t ∧ Responded k stBAD_ARG [] s t) ∧
  (∀ (k : Packet) (s : State), s.serves = true → s.standby = true → AwaitsResponse k [] s → ∃ t, exec (.updData k) s = .next t ∧ Responded k stDENIED [] s t) ∧
  (∀ (k : Packet) (m : Nat) (s : State), s.serves = true → s.standby = false → k.chip = true → k.plain = true → s.rd BOOT.STATE 0 = upReceiving → s.stage.2.1.length = pkBody s.stage.1 → s.on BOOT.MODE 0 = false ∨ sha256 s.stage.2.1 = pkBodyHash s.stage.1 → AwaitsResponse k [] s → ∃ t, exec (.updEnd k m) s = .next t ∧ Responded k stOK [] s t ∧ t.rd BOOT.STATE 0 = upApplying ∧ t.flash.stage = some (s.stage.1, s.stage.2.1, true)) ∧
  (∀ (k : Packet) (m : Nat) (s : State), s.serves = true → s.standby = false → k.chip = true → k.plain = true → s.rd BOOT.STATE 0 = upReceiving → s.stage.2.1.length = pkBody s.stage.1 → s.on BOOT.MODE 0 = true → sha256 s.stage.2.1 ≠ pkBodyHash s.stage.1 → AwaitsResponse k [] s → ∃ t, exec (.updEnd k m) s = .next t ∧ Responded k stINTEGRITY [] s t ∧ t.rd BOOT.LAST_STATUS 0 = stINTEGRITY % 2 ^ BOOT.LAST_STATUS.width ∧ t.rd BOOT.STATE 0 = upFailed ∧ t.rd BOOT.UPD_FAIL_CNT 0 = min (s.rd BOOT.UPD_FAIL_CNT 0 + 1) (2 ^ 32 - 1)) ∧
  (∀ (k : Packet) (m : Nat) (s : State), s.serves = true → s.standby = false → k.chip = true → k.plain = true → s.rd BOOT.STATE 0 = upReceiving → s.stage.2.1.length ≠ pkBody s.stage.1 → AwaitsResponse k [] s → ∃ t, exec (.updEnd k m) s = .next t ∧ Responded k stBAD_ARG [] s t ∧ t.flash = s.flash ∧ t.rd BOOT.STATE 0 = upReceiving) ∧
  (∀ (k : Packet) (m : Nat) (s : State), s.serves = true → s.standby = false → k.chip = true → k.plain = true → s.rd BOOT.STATE 0 ≠ upReceiving → AwaitsResponse k [] s → ∃ t, exec (.updEnd k m) s = .next t ∧ Responded k stDENIED [] s t ∧ t.flash = s.flash) ∧
  (∀ (k : Packet) (m : Nat) (s : State), s.serves = true → s.standby = false → k.chip = false ∨ k.plain = false → AwaitsResponse k [] s → ∃ t, exec (.updEnd k m) s = .next t ∧ Responded k stBAD_ARG [] s t) ∧
  (∀ (k : Packet) (m : Nat) (s : State), s.serves = true → s.standby = true → AwaitsResponse k [] s → ∃ t, exec (.updEnd k m) s = .next t ∧ Responded k stDENIED [] s t) ∧
  (∀ (k : Packet) (s : State), s.serves = true → s.standby = false → k.chip = true → k.plain = true → AwaitsResponse k (List.replicate 16 0) s → ∃ t, exec (.updStatus k) s = .next t ∧ Responded k stOK (leBytes 1 (s.rd BOOT.STATE 0) ++ leBytes 1 (s.rd BOOT.LAST_STATUS 0) ++ [0, 0] ++ leBytes 4 (s.rd BOOT.BYTES 0) ++ leBytes 4 (s.rd BOOT.DONE 0) ++ leBytes 4 (s.rd BOOT.TOTAL 0)) s t) ∧
  (∀ (k : Packet) (s : State), s.serves = true → s.standby = false → k.chip = false ∨ k.plain = false → AwaitsResponse k [] s → ∃ t, exec (.updStatus k) s = .next t ∧ Responded k stBAD_ARG [] s t) ∧
  (∀ (k : Packet) (s : State), s.serves = true → s.standby = true → AwaitsResponse k [] s → ∃ t, exec (.updStatus k) s = .next t ∧ Responded k stDENIED [] s t) ∧
  (∀ (k : Packet) (e : OtpEnv) (s : State), s.serves = true → s.standby = false → k.chip = true → k.payload = [] → k.ar ≤ 1 → s.rd BOOT.STATE 0 = upApplied → AwaitsResponse k [] s → ∃ t, exec (.updCommit k e) s = .next t ∧ Responded k stOK [] s t ∧ t.rd BOOT.STATE 0 = upCommitted ∧ t.boot.warmDue = (k.ar == 1 || s.boot.warmDue)) ∧
  (∀ (k : Packet) (e : OtpEnv) (s : State), s.serves = true → s.standby = false → k.chip = true → k.payload = [] → k.ar = 2 → s.rd BOOT.STATE 0 = upApplied → s.rollsTo s.inactive = true → ∃ t, exec (.updCommit k e) s = .next t ∧ t.rd BOOT.STATE 0 ∈ [upTrial, upFailed]) ∧
  (∀ (k : Packet) (e : OtpEnv) (s : State), s.serves = true → s.standby = false → k.chip = true → k.payload = [] → k.ar = 2 → s.rd BOOT.STATE 0 = upApplied → s.rollsTo s.inactive = false → AwaitsResponse k [] s → ∃ t, exec (.updCommit k e) s = .next t ∧ Responded k stDENIED [] s t ∧ t.rd BOOT.STATE 0 = upApplied) ∧
  (∀ (k : Packet) (e : OtpEnv) (s : State), s.serves = true → s.standby = false → k.chip = true → k.payload = [] → k.ar = 3 → s.rd BOOT.STATE 0 = upTrial → AwaitsResponse k [] s → ∃ t, exec (.updCommit k e) s = .next t ∧ Responded k stOK [] s t ∧ t.rd BOOT.STATE 0 = upIdle ∧ t.on BOOT.TRIAL 0 = false ∧ t.rd BOOT.UPD_DONE_CNT 0 = min (s.rd BOOT.UPD_DONE_CNT 0 + 1) (2 ^ 32 - 1)) ∧
  (∀ (k : Packet) (e : OtpEnv) (s : State), s.serves = true → s.standby = false → k.chip = true → k.payload = [] → (k.ar ≤ 2 ∧ s.rd BOOT.STATE 0 ≠ upApplied) ∨ (k.ar = 3 ∧ s.rd BOOT.STATE 0 ≠ upTrial) → AwaitsResponse k [] s → ∃ t, exec (.updCommit k e) s = .next t ∧ Responded k stDENIED [] s t ∧ t.rd BOOT.STATE 0 = s.rd BOOT.STATE 0) ∧
  (∀ (k : Packet) (e : OtpEnv) (s : State), s.serves = true → s.standby = false → k.chip = false ∨ k.payload.isEmpty = false ∨ 3 < k.ar → AwaitsResponse k [] s → ∃ t, exec (.updCommit k e) s = .next t ∧ Responded k stBAD_ARG [] s t) ∧
  (∀ (k : Packet) (e : OtpEnv) (s : State), s.serves = true → s.standby = true → AwaitsResponse k [] s → ∃ t, exec (.updCommit k e) s = .next t ∧ Responded k stDENIED [] s t) ∧
  (∀ (k : Packet) (s : State), s.serves = true → s.standby = false → k.chip = true → k.plain = true → upReceiving ≤ s.rd BOOT.STATE 0 → s.rd BOOT.STATE 0 ≤ upApplied → AwaitsResponse k [] s → ∃ t, exec (.updAbort k) s = .next t ∧ Responded k stOK [] s t ∧ t.rd BOOT.STATE 0 = upIdle ∧ t.flash.stage = none ∧ t.flash.journal = []) ∧
  (∀ (k : Packet) (s : State), s.serves = true → s.standby = false → k.chip = true → k.plain = true → s.rd BOOT.STATE 0 < upReceiving ∨ upApplied < s.rd BOOT.STATE 0 → AwaitsResponse k [] s → ∃ t, exec (.updAbort k) s = .next t ∧ Responded k stDENIED [] s t ∧ t.flash = s.flash) ∧
  (∀ (k : Packet) (s : State), s.serves = true → s.standby = false → k.chip = false ∨ k.plain = false → AwaitsResponse k [] s → ∃ t, exec (.updAbort k) s = .next t ∧ Responded k stBAD_ARG [] s t) ∧
  (∀ (k : Packet) (s : State), s.serves = true → s.standby = true → AwaitsResponse k [] s → ∃ t, exec (.updAbort k) s = .next t ∧ Responded k stDENIED [] s t) ∧
  (∀ (e : OtpEnv) (s : State), s.dev = .run → s.on SYS.READY 0 = true → s.on BOOT.AUTO_CONFIRM 0 = true → s.rd BOOT.STATE 0 = upTrial → (List.range 12).all s.coreRuns = true → s.boot.forced = false → ∃ t, exec (.autoConfirm e) s = .next t ∧ t.rd BOOT.STATE 0 = upIdle ∧ t.on BOOT.TRIAL 0 = false ∧ t.rd BOOT.UPD_DONE_CNT 0 = min (s.rd BOOT.UPD_DONE_CNT 0 + 1) (2 ^ 32 - 1)) ∧
  (∀ (e : OtpEnv) (s : State), s.dev ≠ .run ∨ s.on SYS.READY 0 = false ∨ s.on BOOT.AUTO_CONFIRM 0 = false ∨ s.rd BOOT.STATE 0 ≠ upTrial ∨ (List.range 12).all s.coreRuns = false ∨ s.boot.forced = true → exec (.autoConfirm e) s = .next s) ∧
  (∀ (out : List Byte) (s : State), s.serves = true → s.rd BOOT.STATE 0 = upApplying → s.boot.exam = false → s.rd BOOT.DONE 0 + 1 < pkBlocks s.stage.1 → blockOf (s.imageAt s.dir.active) s.stage.1 s.stage.2.1 (s.rd BOOT.DONE 0) = .ok out → ∃ t, exec (.deltaBlock true) s = .next t ∧ t.rd BOOT.DONE 0 = (s.rd BOOT.DONE 0 + 1) % 2 ^ 32 ∧ t.flash.journal.length = s.flash.journal.length + 1 ∧ t.rd BOOT.STATE 0 = upApplying) ∧
  (∀ (s : State), s.serves = true → s.rd BOOT.STATE 0 = upApplying → s.boot.exam = false → s.rd BOOT.DONE 0 + 1 = pkBlocks s.stage.1 → ∃ t, exec (.deltaBlock true) s = .next t ∧ t.rd BOOT.STATE 0 ∈ [upApplied, upFailed]) ∧
  (∀ (b : Bool) (s : State), s.serves = true → s.rd BOOT.STATE 0 = upApplying → s.boot.exam = false → pkBlocks s.stage.1 ≤ s.rd BOOT.DONE 0 → ∃ t, exec (.deltaBlock b) s = .next t ∧ t.rd BOOT.STATE 0 ∈ [upApplied, upFailed] ∧ t.rd BOOT.DONE 0 = s.rd BOOT.DONE 0) ∧
  (∀ (f : Nat) (b : Bool) (s : State), s.serves = true → s.rd BOOT.STATE 0 = upApplying → s.boot.exam = false → s.rd BOOT.DONE 0 < pkBlocks s.stage.1 → blockOf (s.imageAt s.dir.active) s.stage.1 s.stage.2.1 (s.rd BOOT.DONE 0) = .error f → ∃ t, exec (.deltaBlock b) s = .next t ∧ t.rd BOOT.LAST_STATUS 0 = f % 2 ^ BOOT.LAST_STATUS.width ∧ t.rd BOOT.STATE 0 = upFailed ∧ t.rd BOOT.UPD_FAIL_CNT 0 = min (s.rd BOOT.UPD_FAIL_CNT 0 + 1) (2 ^ 32 - 1)) ∧
  (∀ (out : List Byte) (s : State), s.serves = true → s.rd BOOT.STATE 0 = upApplying → s.boot.exam = false → s.rd BOOT.DONE 0 < pkBlocks s.stage.1 → blockOf (s.imageAt s.dir.active) s.stage.1 s.stage.2.1 (s.rd BOOT.DONE 0) = .ok out → ∃ t, exec (.deltaBlock false) s = .next t ∧ t.rd BOOT.LAST_STATUS 0 = stCRC % 2 ^ BOOT.LAST_STATUS.width ∧ t.rd BOOT.STATE 0 = upFailed ∧ t.rd BOOT.UPD_FAIL_CNT 0 = min (s.rd BOOT.UPD_FAIL_CNT 0 + 1) (2 ^ 32 - 1)) ∧
  (∀ (b : Bool) (s : State), s.serves = false ∨ s.rd BOOT.STATE 0 ≠ upApplying ∨ s.boot.exam = true → exec (.deltaBlock b) s = .next s) ∧
  (∀ (n : Nat) (b : Bool) (s : State), s.serves = true → s.boot.exam = true → s.heldWhole = some n → ∃ t, exec (.updResumed b) s = .next t ∧ t.boot.exam = false ∧ t.rd BOOT.STATE 0 = upApplying ∧ t.rd BOOT.DONE 0 = (if b then n + 1 else n) % 2 ^ 32 ∧ t.rd BOOT.RESUME_CNT 0 = min (s.rd BOOT.RESUME_CNT 0 + 1) (2 ^ 32 - 1)) ∧
  (∀ (b : Bool) (s : State), s.serves = true → s.boot.exam = true → s.heldWhole = none → ∃ t, exec (.updResumed b) s = .next t ∧ t.boot.exam = false ∧ t.rd BOOT.STATE 0 = upInterrupted) ∧
  (∀ (b : Bool) (s : State), s.serves = false ∨ s.boot.exam = false → exec (.updResumed b) s = .next s)

/-- COMMAND_DISPATCH on a serving device takes the front packet out of its ring and does exactly what the command its OPCODE names does: from ring 1 first; where ring 1 is empty, from ring 2 or ring 3 where only that lane holds a command, and where both do, and no fabric command waits, from ring 2 four times for each time from ring 3. A packet whose largest response has no room in ring 4 waits in ring 1, and with nothing waiting nothing happens; nor does anything on a device that does not serve. In host boot HOST_BOOT, and in recovery RECOVERY_ROM, take the front packet of ring 2: UPD_STATUS is answered with the progress, UPD_DATA in RECEIVING appends the next piece, UPD_COMMIT in another state than RECEIVING and an opcode the ROM does not serve are DENIED; with no packet that may start, and out of that state, nothing happens. (R15, R357, R441, R505, R506) -/
def Obligations.CommandRingsAreServedInOrder : Prop :=
  (∀ (k : Packet) (e : OtpEnv) (c : Instr) (s : State), s.serves = true → s.ringHead 1 = some k → s.mayStart 1 = true → commandOf k e = some c → ∃ t, exec (.commandDispatch e) s = .next t ∧ exec c (s.removeTail 1) = .next t) ∧
  (∀ (e : OtpEnv) (s : State), (s.ring 1).entries ≠ [] → s.mayStart 1 = false → exec (.commandDispatch e) s = .next s) ∧
  (∀ (k : Packet) (e : OtpEnv) (c : Instr) (s : State), s.serves = true → (s.ring 1).entries = [] → s.ringHead 2 = some k → s.mayStart 2 = true → s.fabricHead 1 = none → (s.ring 3).entries = [] → s.fabricHead 2 = none → commandOf k e = some c → ∃ t, exec (.commandDispatch e) s = .next t ∧ exec c (s.removeTail 2) = .next t) ∧
  (∀ (k : Packet) (e : OtpEnv) (c : Instr) (s : State), s.serves = true → (s.ring 1).entries = [] → s.ringHead 3 = some k → s.mayStart 3 = true → s.fabricHead 1 = none → (s.ring 2).entries = [] → s.fabricHead 2 = none → commandOf k e = some c → ∃ t, exec (.commandDispatch e) s = .next t ∧ exec c (s.removeTail 3) = .next t) ∧
  (∀ (k : Packet) (e : OtpEnv) (c : Instr) (s : State), s.serves = true → (s.ring 1).entries = [] → s.ringHead 2 = some k → s.mayStart 2 = true → s.fabricHead 1 = none → (s.ring 3).entries ≠ [] → s.fabricHead 2 = none → s.served2 < 4 → commandOf k e = some c → ∃ t, exec (.commandDispatch e) s = .next t ∧ exec c (({ s with served2 := s.served2 + 1 } : State).removeTail 2) = .next t) ∧
  (∀ (k : Packet) (e : OtpEnv) (c : Instr) (s : State), s.serves = true → (s.ring 1).entries = [] → s.ringHead 3 = some k → s.mayStart 3 = true → s.fabricHead 1 = none → (s.ring 2).entries ≠ [] → s.fabricHead 2 = none → 4 ≤ s.served2 → commandOf k e = some c → ∃ t, exec (.commandDispatch e) s = .next t ∧ exec c (({ s with served2 := 0 } : State).removeTail 3) = .next t) ∧
  (∀ (e : OtpEnv) (s : State), s.serves = true → (s.ring 1).entries = [] → (s.ring 2).entries = [] → (s.ring 3).entries = [] → s.fabricHead 1 = none → s.fabricHead 2 = none → exec (.commandDispatch e) s = .next s) ∧
  (∀ (e : OtpEnv) (s : State), s.serves = false → exec (.commandDispatch e) s = .next s) ∧
  (∀ (k : Packet) (m : Nat) (s : State), s.hostBoots = true → s.ringHead 2 = some k → s.mayStart 2 = true → s.standby = false → k.op = 0x43 → k.chip = true → k.plain = true → AwaitsResponse k (List.replicate 16 0) s → ∃ t, exec (.hostBoot m) s = .next t ∧ (t.ring 2).entries = (s.ring 2).entries.drop 1 ∧ Responded k stOK (leBytes 1 (s.rd BOOT.STATE 0) ++ leBytes 1 (s.rd BOOT.LAST_STATUS 0) ++ [0, 0] ++ leBytes 4 (s.rd BOOT.BYTES 0) ++ leBytes 4 (s.rd BOOT.DONE 0) ++ leBytes 4 (s.rd BOOT.TOTAL 0)) s t) ∧
  (∀ (k : Packet) (m : Nat) (s : State), s.hostBoots = true → s.ringHead 2 = some k → s.mayStart 2 = true → k.op = 0x41 → dataForm k = true → s.rd BOOT.STATE 0 = upReceiving → s.pieceNext k = true → ∃ t, exec (.hostBoot m) s = .next t ∧ (t.ring 2).entries = (s.ring 2).entries.drop 1 ∧ t.flash.stage = some (s.stage.1, s.stage.2.1 ++ k.payload, s.stage.2.2)) ∧
  (∀ (k : Packet) (m : Nat) (s : State), s.hostBoots = true → s.ringHead 2 = some k → s.mayStart 2 = true → k.op.toNat ∉ [0x01, 0x40, 0x41, 0x42, 0x43, 0x44] → AwaitsResponse k [] s → ∃ t, exec (.hostBoot m) s = .next t ∧ (t.ring 2).entries = (s.ring 2).entries.drop 1 ∧ Responded k stDENIED [] s t) ∧
  (∀ (k : Packet) (m : Nat) (s : State), s.hostBoots = true → s.ringHead 2 = some k → s.mayStart 2 = true → k.op = 0x44 → k.chip = true → k.payload = [] → k.ar ≤ 3 → k.ar ≠ 1 ∨ s.rd BOOT.STATE 0 ≠ upReceiving → AwaitsResponse k [] s → ∃ t, exec (.hostBoot m) s = .next t ∧ (t.ring 2).entries = (s.ring 2).entries.drop 1 ∧ Responded k stDENIED [] s t) ∧
  (∀ (m : Nat) (s : State), s.hostBoots = false ∨ s.mayStart 2 = false → exec (.hostBoot m) s = .next s) ∧
  (∀ (k : Packet) (s : State), s.dev = .recovery → s.ringHead 2 = some k → s.mayStart 2 = true → s.standby = false → k.op = 0x43 → k.chip = true → k.plain = true → AwaitsResponse k (List.replicate 16 0) s → ∃ t, exec (.recoveryRom) s = .next t ∧ (t.ring 2).entries = (s.ring 2).entries.drop 1 ∧ Responded k stOK (leBytes 1 (s.rd BOOT.STATE 0) ++ leBytes 1 (s.rd BOOT.LAST_STATUS 0) ++ [0, 0] ++ leBytes 4 (s.rd BOOT.BYTES 0) ++ leBytes 4 (s.rd BOOT.DONE 0) ++ leBytes 4 (s.rd BOOT.TOTAL 0)) s t) ∧
  (∀ (k : Packet) (s : State), s.dev = .recovery → s.ringHead 2 = some k → s.mayStart 2 = true → k.op = 0x41 → dataForm k = true → s.rd BOOT.STATE 0 = upReceiving → s.pieceNext k = true → ∃ t, exec (.recoveryRom) s = .next t ∧ (t.ring 2).entries = (s.ring 2).entries.drop 1 ∧ t.flash.stage = some (s.stage.1, s.stage.2.1 ++ k.payload, s.stage.2.2)) ∧
  (∀ (k : Packet) (s : State), s.dev = .recovery → s.ringHead 2 = some k → s.mayStart 2 = true → k.op.toNat ∉ [0x01, 0x40, 0x41, 0x42, 0x43, 0x44, 0x45, 0x50, 0x53] → AwaitsResponse k [] s → ∃ t, exec (.recoveryRom) s = .next t ∧ (t.ring 2).entries = (s.ring 2).entries.drop 1 ∧ Responded k stDENIED [] s t) ∧
  (∀ (s : State), s.dev ≠ .recovery ∨ s.mayStart 2 = false → exec .recoveryRom s = .next s)

/-- POWER_ON_RESET_RELEASE in boot with PLL_CORE not locked samples both straps and locks the clocks; else nothing. A RESET_N pulse below 100 ns is ignored; from 100 ns on it is a whole cold reset under its cause that samples the straps and, with XIN there, locks both PLLs. A brownout of any rail is a cold reset under its cause, READY 0, OTP and flash kept; of VDD_IO33 it clears SOLO_HOLD. A loss of PLL_CORE clears its flag, counts and, with no supervised reset before it, begins a warm reset under CORE_PLL; a loss of PLL_PWM or XIN counts and in RUN enters SAFE under CLOCK (XIN stops PLL_CORE too); the loss of a clock whose flag is clear does nothing. A clock that is back sets its flag (a PLL only with XIN there), and with PLL_PWM and XIN both there the guard leaves the RC clock; before the boot and in WATCH nothing happens. A spread-spectrum change with PWM_LOCK takes SSC_DEPTH (0 without SSC_EN) into effect and shows SSC_ACTIVE; without PWM_LOCK nothing. (R490, R528, R529, R530, R534) -/
def Obligations.ResetsClocksAndStraps : Prop :=
  (∀ (b : BitVec 2) (a : BitVec 2) (s : State), s.dev = .boot → s.on CLK.CORE_LOCK 0 = false → ∃ t, exec (.powerOnResetRelease b a) s = .next t ∧ t.rd BOOT.BOOT_PINS 0 = b.toNat ∧ t.rd SMB.ADDR 0 = 0x2C + a.toNat ∧ t.on CLK.CORE_LOCK 0 = true ∧ t.on CLK.PWM_LOCK 0 = true ∧ t.on CLK.XIN_OK 0 = true) ∧
  (∀ (b a : BitVec 2) (s : State), s.dev ≠ .boot ∨ s.on CLK.CORE_LOCK 0 = true → exec (.powerOnResetRelease b a) s = .next s) ∧
  (∀ (n : Nat) (b a : BitVec 2) (s : State), n < 100 → exec (.resetNLow n b a) s = .next s) ∧
  (∀ (n : Nat) (b : BitVec 2) (a : BitVec 2) (s : State), 100 ≤ n → ∃ t, exec (.resetNLow n b a) s = .next t ∧ t.dev = .boot ∧ t.rd RST.CAUSE 0 = 2 ^ rcPin ∧ t.rd BOOT.BOOT_PINS 0 = b.toNat ∧ t.rd SMB.ADDR 0 = 0x2C + a.toNat ∧ (s.on CLK.XIN_OK 0 = true → t.on CLK.CORE_LOCK 0 = true ∧ t.on CLK.PWM_LOCK 0 = true) ∧ t.otp = s.otp ∧ t.flash = s.flash ∧ t.pending = s.pending) ∧
  (∀ (r : Rail) (s : State), ∃ t, exec (.brownout r) s = .next t ∧ t.dev = .boot ∧ t.rd RST.CAUSE 0 = 2 ^ rcBrownout ∧ t.on SYS.READY 0 = false ∧ t.otp = s.otp ∧ t.flash = s.flash ∧ t.pending = s.pending ∧ t.pow.solo = (decide (r ≠ .io33) && s.pow.solo)) ∧
  (∀ (s : State), s.on CLK.CORE_LOCK 0 = true → s.dev = .run → s.pow.storms = [] → ∃ t, exec (.clockLoss .pllCore false) s = .next t ∧ t.rd CLK.CORE_UNLOCK_CNT 0 = min (s.rd CLK.CORE_UNLOCK_CNT 0 + 1) (2 ^ 32 - 1) ∧ t.on CLK.CORE_LOCK 0 = false ∧ t.dev = .warmReset ∧ (t.rd RST.CAUSE 0).testBit rcCorePll = true) ∧
  (∀ (s : State), s.on CLK.PWM_LOCK 0 = true → s.dev = .run → s.pow.intoSafe = false → ∃ t, exec (.clockLoss .pllPwm false) s = .next t ∧ t.rd CLK.PWM_UNLOCK_CNT 0 = min (s.rd CLK.PWM_UNLOCK_CNT 0 + 1) (2 ^ 32 - 1) ∧ t.on CLK.PWM_LOCK 0 = false ∧ t.on CLK.GUARD_RC 0 = true ∧ t.dev = .safe ∧ t.rd RST.SAFE_CAUSE 0 = scClock) ∧
  (∀ (s : State), s.on CLK.XIN_OK 0 = true → s.dev = .run → s.pow.intoSafe = false → ∃ t, exec (.clockLoss .xin false) s = .next t ∧ t.rd CLK.XIN_LOSS_CNT 0 = min (s.rd CLK.XIN_LOSS_CNT 0 + 1) (2 ^ 32 - 1) ∧ t.on CLK.XIN_OK 0 = false ∧ t.on CLK.CORE_LOCK 0 = false ∧ t.on CLK.GUARD_RC 0 = true ∧ t.dev = .safe ∧ t.rd RST.SAFE_CAUSE 0 = scClock) ∧
  (∀ (s : State), s.on CLK.CORE_LOCK 0 = false → exec (.clockLoss .pllCore false) s = .next s) ∧
  (∀ (s : State), s.on CLK.PWM_LOCK 0 = false → exec (.clockLoss .pllPwm false) s = .next s) ∧
  (∀ (s : State), s.on CLK.XIN_OK 0 = false → exec (.clockLoss .xin false) s = .next s) ∧
  (∀ (s : State), s.dev ≠ .boot → s.dev ≠ .watch → s.on CLK.XIN_OK 0 = true → ∃ t, exec (.clockLoss .pllCore true) s = .next t ∧ t.on CLK.CORE_LOCK 0 = true) ∧
  (∀ (s : State), s.dev ≠ .boot → s.dev ≠ .watch → s.on CLK.XIN_OK 0 = true → ∃ t, exec (.clockLoss .pllPwm true) s = .next t ∧ t.on CLK.PWM_LOCK 0 = true ∧ t.on CLK.GUARD_RC 0 = false) ∧
  (∀ (s : State), s.dev ≠ .boot → s.dev ≠ .watch → s.on CLK.PWM_LOCK 0 = true → ∃ t, exec (.clockLoss .xin true) s = .next t ∧ t.on CLK.XIN_OK 0 = true ∧ t.on CLK.GUARD_RC 0 = false) ∧
  (∀ (s : State), s.dev ≠ .boot → s.dev ≠ .watch → s.on CLK.PWM_LOCK 0 = false → ∃ t, exec (.clockLoss .xin true) s = .next t ∧ t.on CLK.XIN_OK 0 = true ∧ t.on CLK.GUARD_RC 0 = s.on CLK.GUARD_RC 0) ∧
  (∀ (c : ClockSrc) (s : State), s.dev = .boot ∨ s.dev = .watch ∨ (s.on CLK.XIN_OK 0 = false ∧ c ≠ .xin) → exec (.clockLoss c true) s = .next s) ∧
  (∀ (s : State), s.on CLK.PWM_LOCK 0 = true → s.on CLK.SSC_EN 0 = true → ∃ t, exec .sscChange s = .next t ∧ t.pow.ssc = s.rd CLK.SSC_DEPTH 0 ∧ t.on CLK.SSC_ACTIVE 0 = (s.rd CLK.SSC_DEPTH 0 != 0)) ∧
  (∀ (s : State), s.on CLK.PWM_LOCK 0 = true → s.on CLK.SSC_EN 0 = false → ∃ t, exec .sscChange s = .next t ∧ t.pow.ssc = 0 ∧ t.on CLK.SSC_ACTIVE 0 = false) ∧
  (∀ (s : State), s.on CLK.PWM_LOCK 0 = false → exec .sscChange s = .next s)

/-- WATCH_ENTRY in RUN with READY enters WATCH and counts when no condition stands against it, else only shows WATCH_BLOCK; otherwise nothing. A wake from WATCH, or one that another command began, reaches RUN with READY and its time, counted (from WATCH its source is recorded); otherwise nothing. The wake timer leaves WATCH where WAKE_INT is set. A WATCH sample with an attach condition wakes with source 0, else with a monitor beyond a threshold with source 1, else WATCH stays; outside WATCH nothing. WARM_STORM enters SAFE only with three supervised resets in the last 600 s. A SAFE cause enters SAFE under its code, counted; during a boot or a warm reset SAFE waits for its end; in SAFE, or once it waits, nothing. A die sample outside WATCH is shown: THERMAL_WARN marks and counts it once at TWARN or above, and takes the mark back more than 5 °C below; for THERMAL_SHUTDOWN one below TSD starts the count of hot samples again, and the third hot one in a row enters SAFE under TSD; in WATCH nothing. (R537, R541, R542, R543, R544, R547) -/
def Obligations.PowerStatesFollowTheirCauses : Prop :=
  (∀ (idle : Bool) (s : State), s.dev = .run → s.on SYS.READY 0 = true → s.watchBlock idle = 0 → ∃ t, exec (.watchEntry idle) s = .next t ∧ t.dev = .watch ∧ t.on SYS.READY 0 = false ∧ t.on CLK.CORE_LOCK 0 = false ∧ t.rd RST.WATCH_BLOCK 0 = 0 ∧ t.rd RST.WATCH_ENTRY_CNT 0 = min (s.rd RST.WATCH_ENTRY_CNT 0 + 1) (2 ^ 32 - 1)) ∧
  (∀ (idle : Bool) (s : State), s.dev = .run → s.on SYS.READY 0 = true → s.watchBlock idle ≠ 0 → ∃ t, exec (.watchEntry idle) s = .next t ∧ t.dev = .run ∧ t.on SYS.READY 0 = true ∧ t.rd RST.WATCH_BLOCK 0 = s.watchBlock idle % 2 ^ RST.WATCH_BLOCK.width) ∧
  (∀ (idle : Bool) (s : State), s.dev ≠ .run ∨ s.on SYS.READY 0 = false → exec (.watchEntry idle) s = .next s) ∧
  (∀ (c : Fin 8) (us : BitVec 16) (n : Nat) (s : State), s.dev = .watch → ∃ t, exec (.wake c us n) s = .next t ∧ t.dev = .run ∧ t.on SYS.READY 0 = true ∧ t.rd RST.SRC 0 = 2 ^ c.val ∧ t.rd RST.US 0 = us.toNat ∧ t.rd RST.WATCH_WAKE_CNT 0 = min (s.rd RST.WATCH_WAKE_CNT 0 + 1) (2 ^ 32 - 1)) ∧
  (∀ (c : Fin 8) (us : BitVec 16) (n : Nat) (s : State), s.dev = .waking → ∃ t, exec (.wake c us n) s = .next t ∧ t.dev = .run ∧ t.on SYS.READY 0 = true ∧ t.rd RST.SRC 0 = s.rd RST.SRC 0 ∧ t.rd RST.US 0 = us.toNat ∧ t.rd RST.WATCH_WAKE_CNT 0 = min (s.rd RST.WATCH_WAKE_CNT 0 + 1) (2 ^ 32 - 1)) ∧
  (∀ (c : Fin 8) (us : BitVec 16) (n : Nat) (s : State), s.dev ≠ .watch → s.dev ≠ .waking → exec (.wake c us n) s = .next s) ∧
  (∀ (s : State), s.dev = .watch → s.on RST.WAKE_INT 0 = true → ∃ t, exec .wakeTimer s = .next t ∧ t.dev = .waking ∧ t.rd RST.SRC 0 = 2 ^ 7) ∧
  (∀ (s : State), s.dev ≠ .watch ∨ s.on RST.WAKE_INT 0 = false → exec .wakeTimer s = .next s) ∧
  (∀ (cc : List (Port × Nat × Nat)) (s : State), s.dev = .watch → (cc.any fun x => s.watchAttach x.1 x.2.1 x.2.2) = true → ∃ t, exec (.watchSample cc []) s = .next t ∧ t.dev = .waking ∧ t.rd RST.SRC 0 = 2 ^ 0) ∧
  (∀ (p : Port) (v : Nat) (cc : List (Port × Nat × Nat)) (s : State), s.dev = .watch → (cc.any fun x => s.watchAttach x.1 x.2.1 x.2.2) = false → 840 < v → ∃ t, exec (.watchSample cc [(.vbusA p, v)]) s = .next t ∧ t.dev = .waking ∧ t.rd RST.SRC 0 = 2 ^ 1 ∧ t = ((s.crossFlagged p).wakeBy 1)) ∧
  (∀ (cc : List (Port × Nat × Nat)) (mons : List (Mon × Nat)) (s : State), s.dev = .watch → (cc.any fun x => s.watchAttach x.1 x.2.1 x.2.2) = false → (mons.foldl (fun (a : State × Bool) x => ((a.1.watchMon x.1 x.2).1, a.2 || (a.1.watchMon x.1 x.2).2)) (s, false)).2 = false → ∃ t, exec (.watchSample cc mons) s = .next t ∧ t = (mons.foldl (fun (a : State × Bool) x => ((a.1.watchMon x.1 x.2).1, a.2 || (a.1.watchMon x.1 x.2).2)) (s, false)).1) ∧
  (∀ (cc : List (Port × Nat × Nat)) (mons : List (Mon × Nat)) (s : State), s.dev = .watch → (cc.any fun x => s.watchAttach x.1 x.2.1 x.2.2) = true → ∃ t, exec (.watchSample cc mons) s = .next t ∧ t = (mons.foldl (fun (a : State × Bool) x => ((a.1.watchMon x.1 x.2).1, a.2 || (a.1.watchMon x.1 x.2).2)) (s, false)).1.wakeBy 0) ∧
  (∀ (cc : List (Port × Nat × Nat)) (mons : List (Mon × Nat)) (s : State), s.dev = .watch → (cc.any fun x => s.watchAttach x.1 x.2.1 x.2.2) = false → (mons.foldl (fun (a : State × Bool) x => ((a.1.watchMon x.1 x.2).1, a.2 || (a.1.watchMon x.1 x.2).2)) (s, false)).2 = true → ∃ t, exec (.watchSample cc mons) s = .next t ∧ t = (mons.foldl (fun (a : State × Bool) x => ((a.1.watchMon x.1 x.2).1, a.2 || (a.1.watchMon x.1 x.2).2)) (s, false)).1.wakeBy 1) ∧
  (∀ (cc : List (Port × Nat × Nat)) (mons : List (Mon × Nat)) (s : State), s.dev ≠ .watch → exec (.watchSample cc mons) s = .next s) ∧
  (∀ (s : State), s.dev = .run → s.pow.intoSafe = false → 3 ≤ (s.pow.storms.filter fun t => decide (s.up ≤ t + 600000000000)).length → ∃ t, exec .warmStorm s = .next t ∧ t.dev = .safe ∧ t.rd RST.SAFE_CAUSE 0 = scStorm ∧ t.rd RST.SAFE_CNT 0 = min (s.rd RST.SAFE_CNT 0 + 1) (2 ^ 32 - 1)) ∧
  (∀ (s : State), (s.pow.storms.filter fun t => decide (s.up ≤ t + 600000000000)).length < 3 → exec .warmStorm s = .next s) ∧
  (∀ (c : SafeCause) (s : State), s.dev = .run → s.pow.intoSafe = false → ∃ t, exec (.safeEntry c) s = .next t ∧ t.dev = .safe ∧ t.rd RST.SAFE_CAUSE 0 = c.code ∧ t.rd RST.SAFE_CNT 0 = min (s.rd RST.SAFE_CNT 0 + 1) (2 ^ 32 - 1)) ∧
  (∀ (c : SafeCause) (s : State), s.dev = .watch ∨ s.dev = .waking ∨ s.dev = .recovery → s.pow.intoSafe = false → ∃ t, exec (.safeEntry c) s = .next t ∧ t.dev = .safe ∧ t.rd RST.SAFE_CAUSE 0 = c.code ∧ t.rd RST.SAFE_CNT 0 = min (s.rd RST.SAFE_CNT 0 + 1) (2 ^ 32 - 1)) ∧
  (∀ (c : SafeCause) (s : State), s.dev = .boot ∨ s.dev = .warmReset → s.pow.intoSafe = false → ∃ t, exec (.safeEntry c) s = .next t ∧ t.dev = s.dev ∧ t.pow.intoSafe = true ∧ t.rd RST.SAFE_CAUSE 0 = c.code ∧ t.rd RST.SAFE_CNT 0 = min (s.rd RST.SAFE_CNT 0 + 1) (2 ^ 32 - 1)) ∧
  (∀ (c : SafeCause) (s : State), s.dev = .safe ∨ s.pow.intoSafe = true → exec (.safeEntry c) s = .next s) ∧
  (∀ (d : BitVec 16) (s : State), s.dev ≠ .watch → s.pow.warned = false → 10 * (s.rd RST.TWARN 0 : Int) ≤ d.toInt → ∃ t, exec (.thermalWarn d) s = .next t ∧ t.pow.warned = true ∧ t.rd ADC.T_DIE 0 = d.toNat ∧ t.rd RST.THERMAL_WARN_CNT 0 = min (s.rd RST.THERMAL_WARN_CNT 0 + 1) (2 ^ 32 - 1)) ∧
  (∀ (d : BitVec 16) (s : State), s.dev ≠ .watch → d.toInt < 10 * ((s.rd RST.TWARN 0 : Int) - 5) → ∃ t, exec (.thermalWarn d) s = .next t ∧ t.pow.warned = false ∧ t.rd ADC.T_DIE 0 = d.toNat ∧ t.rd RST.THERMAL_WARN_CNT 0 = s.rd RST.THERMAL_WARN_CNT 0) ∧
  (∀ (d : BitVec 16) (s : State), s.dev ≠ .watch → 10 * ((s.rd RST.TWARN 0 : Int) - 5) ≤ d.toInt → s.pow.warned = true ∨ d.toInt < 10 * (s.rd RST.TWARN 0 : Int) → ∃ t, exec (.thermalWarn d) s = .next t ∧ t.pow.warned = s.pow.warned ∧ t.rd ADC.T_DIE 0 = d.toNat ∧ t.rd RST.THERMAL_WARN_CNT 0 = s.rd RST.THERMAL_WARN_CNT 0) ∧
  (∀ (d : BitVec 16) (s : State), s.dev = .watch → exec (.thermalWarn d) s = .next s) ∧
  (∀ (d : BitVec 16) (s : State), s.dev = .run → s.pow.intoSafe = false → 2 ≤ s.pow.hot → 10 * (s.rd RST.TSD 0 : Int) ≤ d.toInt → ∃ t, exec (.thermalShutdown d) s = .next t ∧ t.dev = .safe ∧ t.rd RST.SAFE_CAUSE 0 = scTsd ∧ t.rd RST.SAFE_CNT 0 = min (s.rd RST.SAFE_CNT 0 + 1) (2 ^ 32 - 1)) ∧
  (∀ (d : BitVec 16) (s : State), s.dev ≠ .watch → s.pow.hot < 2 → 10 * (s.rd RST.TSD 0 : Int) ≤ d.toInt → ∃ t, exec (.thermalShutdown d) s = .next t ∧ t.dev = s.dev ∧ t.pow.hot = s.pow.hot + 1 ∧ t.rd ADC.T_DIE 0 = d.toNat) ∧
  (∀ (d : BitVec 16) (s : State), s.dev ≠ .watch → d.toInt < 10 * (s.rd RST.TSD 0 : Int) → ∃ t, exec (.thermalShutdown d) s = .next t ∧ t.dev = s.dev ∧ t.pow.hot = 0 ∧ t.rd ADC.T_DIE 0 = d.toNat) ∧
  (∀ (d : BitVec 16) (s : State), s.dev = .watch → exec (.thermalShutdown d) s = .next s)

/-- A serving device that loses a running Twill fails it under its cause, counted; where the buddy runs the buddy takes all its ports, else the ports keep their Twill; of another engine state, or not serving, nothing. A silent Loam and an expired watchdog (which also clears HB_ENABLE and VETO_ARM) are counted and bring a warm reset under their cause, or, after three supervised resets within 600 s, SAFE under WARM_STORM; not serving, nothing. A Twill resynchronises an attached port that it carries and has yet to resynchronise, counted, an unattached one without counting; where nothing is due, or it does not carry the port, nothing. A lockstep mismatch of a running Chalk is counted and Chalk restarts; else nothing. A running Chalk forces a port for a cause that stands, counted once, the gate off where the device drives the port, and releases one that it forced for that cause once it has cleared; otherwise nothing. An engine 1 to 10 that failed three times, its carrier running, is retired and counted; Loam, Chalk and any other engine are not. (R555, R556, R557, R562, R104, R537) -/
def Obligations.EngineFailuresAreContained : Prop :=
  (∀ (k : Fin 8) (s : State), s.serves = true → s.rd CORE.STATE (k.val + 1) = enRun → ∃ t, exec (.twillHeartbeatLoss k) s = .next t ∧ t.rd CORE.STATE (k.val + 1) = enFailed ∧ t.rd CORE.LAST_CAUSE (k.val + 1) = lcHeartbeat ∧ t.rd CORE.PORTS k = (if s.coreRuns ((buddy k).val + 1) then 0 else s.rd CORE.PORTS k) ∧ t.rd CORE.HB_LOSS_CNT 0 = min (s.rd CORE.HB_LOSS_CNT 0 + 1) (2 ^ 32 - 1)) ∧
  (∀ (k : Fin 8) (s : State), s.serves = true → s.rd CORE.STATE (k.val + 1) = enRun → s.coreRuns ((buddy k).val + 1) = true → ∃ t, exec (.twillHeartbeatLoss k) s = .next t ∧ t.rd CORE.PORTS (buddy k) = (s.rd CORE.PORTS (buddy k) ||| s.rd CORE.PORTS k) % 2 ^ CORE.PORTS.width ∧ t.rd CORE.BUDDY_CNT 0 = min (s.rd CORE.BUDDY_CNT 0 + 1) (2 ^ 32 - 1)) ∧
  (∀ (k : Fin 8) (s : State), s.serves = false ∨ s.rd CORE.STATE (k.val + 1) ≠ enRun → exec (.twillHeartbeatLoss k) s = .next s) ∧
  (∀ (s : State), s.dev = .run → s.on SYS.READY 0 = true → s.pow.intoSafe = false → s.pow.storms = [] → ∃ t, exec .loamHeartbeatLoss s = .next t ∧ t.dev = .warmReset ∧ (t.rd RST.CAUSE 0).testBit rcHeartbeat = true ∧ t.boot.forced = true ∧ t.rd CORE.HB_LOSS_CNT 0 = min (s.rd CORE.HB_LOSS_CNT 0 + 1) (2 ^ 32 - 1)) ∧
  (∀ (s : State), s.dev = .run → s.on SYS.READY 0 = true → s.pow.intoSafe = false → 3 ≤ (s.pow.storms.filter fun t => decide (s.up ≤ t + 600000000000)).length → ∃ t, exec .loamHeartbeatLoss s = .next t ∧ t.dev = .safe ∧ t.rd RST.SAFE_CAUSE 0 = scStorm ∧ t.rd CORE.HB_LOSS_CNT 0 = min (s.rd CORE.HB_LOSS_CNT 0 + 1) (2 ^ 32 - 1)) ∧
  (∀ (s : State), s.serves = false → exec .loamHeartbeatLoss s = .next s) ∧
  (∀ (s : State), s.dev = .run → s.on SYS.READY 0 = true → s.pow.intoSafe = false → s.pow.storms = [] → ∃ t, exec .watchdogExpiry s = .next t ∧ t.dev = .warmReset ∧ (t.rd RST.CAUSE 0).testBit rcWdog = true ∧ t.boot.forced = true ∧ t.on PAIR.HB_ENABLE 0 = false ∧ t.on PAIR.VETO_ARM 0 = false ∧ t.rd CHALK.WDOG_EXPIRY_CNT 0 = min (s.rd CHALK.WDOG_EXPIRY_CNT 0 + 1) (2 ^ 32 - 1)) ∧
  (∀ (s : State), s.dev = .run → s.on SYS.READY 0 = true → s.pow.intoSafe = false → 3 ≤ (s.pow.storms.filter fun t => decide (s.up ≤ t + 600000000000)).length → ∃ t, exec .watchdogExpiry s = .next t ∧ t.dev = .safe ∧ t.rd RST.SAFE_CAUSE 0 = scStorm ∧ t.on PAIR.HB_ENABLE 0 = false ∧ t.on PAIR.VETO_ARM 0 = false ∧ t.rd CHALK.WDOG_EXPIRY_CNT 0 = min (s.rd CHALK.WDOG_EXPIRY_CNT 0 + 1) (2 ^ 32 - 1)) ∧
  (∀ (s : State), s.serves = false → exec .watchdogExpiry s = .next s) ∧
  (∀ (p : Port) (s : State), s.serves = true → s.carriedByTwill p = true → (s.port p).pe.resyncDue = true → s.on CC.ATTACHED p = true → ∃ t, exec (.twillResync p) s = .next t ∧ (t.port p).pe.resyncDue = false ∧ t.rd PD.RESYNC_CNT p = min (s.rd PD.RESYNC_CNT p + 1) (2 ^ 32 - 1)) ∧
  (∀ (p : Port) (s : State), s.serves = true → s.carriedByTwill p = true → (s.port p).pe.resyncDue = true → s.on CC.ATTACHED p = false → ∃ t, exec (.twillResync p) s = .next t ∧ (t.port p).pe.resyncDue = false ∧ t.rd PD.RESYNC_CNT p = s.rd PD.RESYNC_CNT p) ∧
  (∀ (p : Port) (s : State), s.serves = false ∨ s.carriedByTwill p = false ∨ (s.port p).pe.resyncDue = false → exec (.twillResync p) s = .next s) ∧
  (∀ (s : State), s.rd CORE.STATE 11 = enRun → ∃ t, exec .chalkLockstep s = .next t ∧ t.on CHALK.LOCKSTEP_ERR 0 = true ∧ t.rd CORE.STATE 11 = enRun ∧ t.rd CHALK.FORCED 0 = s.rd CHALK.FORCED 0 ∧ t.rd CHALK.LOCKSTEP_CNT 0 = min (s.rd CHALK.LOCKSTEP_CNT 0 + 1) (2 ^ 32 - 1) ∧ t.rd CORE.RESTARTS 11 = min (s.rd CORE.RESTARTS 11 + 1) (2 ^ 32 - 1)) ∧
  (∀ (s : State), s.rd CORE.STATE 11 ≠ enRun → exec .chalkLockstep s = .next s) ∧
  (∀ (p : Port) (c : ForceCause) (s : State), s.coreRuns 11 = true → s.forceStands p c = true → s.bit CHALK.FORCED 0 p = false → ∃ t, exec (.chalkForced p c false) s = .next t ∧ t.bit CHALK.FORCED 0 p = true ∧ t.rd CHALK.LAST 0 = c.code ∧ (t.port p).guard.forced = true ∧ (t.port p).guard.forceCause = c.code ∧ (s.drives p = true → t.on GUARD.GATE_OFF p = true) ∧ t.rd CHALK.FORCE_CNT 0 = min (s.rd CHALK.FORCE_CNT 0 + 1) (2 ^ 32 - 1)) ∧
  (∀ (p : Port) (c : ForceCause) (s : State), s.coreRuns 11 = true → s.bit CHALK.FORCED 0 p = true → (s.port p).guard.forceCause = c.code → c = .stateLost ∨ s.forceStands p c = false → ∃ t, exec (.chalkForced p c true) s = .next t ∧ t.bit CHALK.FORCED 0 p = false ∧ (t.port p).guard.forced = false) ∧
  (∀ (p : Port) (c : ForceCause) (s : State), s.coreRuns 11 = false ∨ s.forceStands p c = false ∨ s.bit CHALK.FORCED 0 p = true → exec (.chalkForced p c false) s = .next s) ∧
  (∀ (p : Port) (c : ForceCause) (s : State), s.coreRuns 11 = false ∨ s.bit CHALK.FORCED 0 p = false ∨ (s.port p).guard.forceCause ≠ c.code ∨ (c ≠ .stateLost ∧ s.forceStands p c = true) → exec (.chalkForced p c true) s = .next s) ∧
  (∀ (e : Fin 12) (s : State), 3 ≤ s.failures e → 1 ≤ e.val → e.val ≤ 10 → s.carried1 e = true → s.rd CORE.STATE e ≠ enRetired → s.coreRuns 11 = true → ∃ t, exec (.engineAutoRetired e) s = .next t ∧ t.rd CORE.STATE e = enRetired ∧ t.rd CHALK.AUTO_RETIRE_CNT 0 = min (s.rd CHALK.AUTO_RETIRE_CNT 0 + 1) (2 ^ 32 - 1)) ∧
  (∀ (e : Fin 12) (s : State), s.failures e < 3 ∨ e = 0 ∨ e = 11 ∨ s.carried1 e = false ∨ s.rd CORE.STATE e = enRetired ∨ s.coreRuns 11 = false → exec (.engineAutoRetired e) s = .next s)

/-- A scrub pass in RUN, SAFE or a warm reset, and the pass, MBIST and ADC test that TEST_CTL runs, count and end with their result (a bad block or converter: INTEGRITY; each bad block, not known yet, is hard); with no such test running nothing. A double-bit error is counted with its address, kept for its word, and hard for its block where the word showed one before: in Loam it brings a warm reset, in a Twill fails it, in Chalk reloads it (or, with a bad component, brings a warm reset), in a Marl store loses that engine, in a ring removes the entry, in the reserve marks the block; before the boot and in WATCH nothing. A hard block is remapped to the free reserve block and counted; with none free only REMAP_FULL is set; a block not hard is left. A deferred test that expires: kind 0 of a degraded port, kind 2 and kind 3 without its converters end counted as expired; kinds 0 and 1 are checked there and end with OK, or at a second failure INTEGRITY; without a test nothing. A due SERVICE raise is taken where programming conditions hold, the counter going up by one; else nothing. (R552, R553, R554, R558, R559, R561, R563) -/
def Obligations.ChecksAndRepairs : Prop :=
  (∀ (n : Nat) (s : State), s.dev = .run ∨ s.dev = .safe ∨ s.dev = .warmReset → ∃ t, exec (.scrub n) s = .next t ∧ t.rd TEST.SCRUB_PASS_CNT 0 = min (s.rd TEST.SCRUB_PASS_CNT 0 + 1) (2 ^ 32 - 1) ∧ t.rd TEST.ECC_CORR_CNT 0 = min (s.rd TEST.ECC_CORR_CNT 0 + n) (2 ^ 32 - 1)) ∧
  (∀ (n : Nat) (s : State), s.dev ≠ .run → s.dev ≠ .safe → s.dev ≠ .warmReset → exec (.scrub n) s = .next s) ∧
  (∀ (n : Nat) (s : State), s.testRuns 3 = true → ∃ t, exec (.scrubPass n) s = .next t ∧ t.rd TEST.STATE 0 = 2 ∧ t.rd TEST.RESULT 0 = stOK ∧ t.rd TEST.SCRUB_PASS_CNT 0 = min (s.rd TEST.SCRUB_PASS_CNT 0 + 1) (2 ^ 32 - 1) ∧ t.rd TEST.ECC_CORR_CNT 0 = min (s.rd TEST.ECC_CORR_CNT 0 + n) (2 ^ 32 - 1)) ∧
  (∀ (n : Nat) (s : State), s.testRuns 3 = false → exec (.scrubPass n) s = .next s) ∧
  (∀ (l : List (Fin 3072)) (s : State), s.testRuns 1 = true → ∃ t, exec (.mbist l) s = .next t ∧ t.rd TEST.STATE 0 = 2 ∧ t.rd TEST.RESULT 0 = (if l = [] then stOK else stINTEGRITY) ∧ (∀ b ∈ l, b.val ∈ s.svc.remap.map Prod.fst ∨ b.val ∈ t.svc.hard)) ∧
  (∀ (l : List (Fin 3072)) (s : State), s.testRuns 1 = false → exec (.mbist l) s = .next s) ∧
  (∀ (s : State), s.testRuns 2 = true → ∃ t, exec (.adcRequalification 0x1FF) s = .next t ∧ t.rd TEST.STATE 0 = 2 ∧ t.rd TEST.RESULT 0 = stOK ∧ t.rd ADC.FAILED 0 = 0 ∧ t.on ADC.ROT_LOST 0 = false ∧ t.rd ADC.COVERED 0 = 15) ∧
  (∀ (ok : BitVec 9) (s : State), s.testRuns 2 = true → ok ≠ 0x1FF → ∃ t, exec (.adcRequalification ok) s = .next t ∧ t.rd TEST.STATE 0 = 2 ∧ t.rd TEST.RESULT 0 = stINTEGRITY ∧ t.rd ADC.FAILED 0 = (BitVec.ofNat 9 (s.rd ADC.FAILED 0) &&& ~~~ok).toNat) ∧
  (∀ (ok : BitVec 9) (s : State), s.testRuns 2 = false → exec (.adcRequalification ok) s = .next s) ∧
  (∀ (w : BitVec 22) (b : Fin 3072) (s : State), s.dev = .run → ∃ t, exec (.eccUncorr w b .staging) s = .next t ∧ t.rd TEST.ADDR 0 = w.toNat ∧ t.rd TEST.ECC_UNCORR_CNT 0 = min (s.rd TEST.ECC_UNCORR_CNT 0 + 1) (2 ^ 32 - 1) ∧ (w.toNat ∉ s.svc.hits → t.svc.hits = s.svc.hits ++ [w.toNat] ∧ t.svc.hard = s.svc.hard) ∧ (w.toNat ∈ s.svc.hits → b.val ∉ s.svc.remap.map Prod.fst → b.val ∈ t.svc.hard)) ∧
  (∀ (w : BitVec 22) (b : Fin 3072) (s : State), s.dev = .run → ∃ t, exec (.eccUncorr w b .loam) s = .next t ∧ t.rd TEST.ADDR 0 = w.toNat ∧ t.rd TEST.ECC_UNCORR_CNT 0 = min (s.rd TEST.ECC_UNCORR_CNT 0 + 1) (2 ^ 32 - 1) ∧ t.dev = .warmReset) ∧
  (∀ (w : BitVec 22) (b : Fin 3072) (k : Fin 8) (l : List Port) (s : State), s.dev = .run → ∃ t, exec (.eccUncorr w b (.twill k l)) s = .next t ∧ t.rd TEST.ADDR 0 = w.toNat ∧ t.rd TEST.ECC_UNCORR_CNT 0 = min (s.rd TEST.ECC_UNCORR_CNT 0 + 1) (2 ^ 32 - 1) ∧ t.rd CORE.STATE (k.val + 1) = enFailed) ∧
  (∀ (w : BitVec 22) (b : Fin 3072) (s : State), s.dev = .run → componentOk (s.imageAt s.reloadSlot) (componentOf 11) = true → ∃ t, exec (.eccUncorr w b .chalk) s = .next t ∧ t.rd CORE.STATE 11 = enRun ∧ t.rd TEST.ADDR 0 = w.toNat ∧ t.rd TEST.ECC_UNCORR_CNT 0 = min (s.rd TEST.ECC_UNCORR_CNT 0 + 1) (2 ^ 32 - 1)) ∧
  (∀ (w : BitVec 22) (b : Fin 3072) (s : State), s.dev = .run → componentOk (s.imageAt s.reloadSlot) (componentOf 11) = false → s.rd CORE.STATE 11 ≠ enRetired → ∃ t, exec (.eccUncorr w b .chalk) s = .next t ∧ t.dev = .warmReset ∧ t.rd TEST.ADDR 0 = w.toNat ∧ t.rd TEST.ECC_UNCORR_CNT 0 = min (s.rd TEST.ECC_UNCORR_CNT 0 + 1) (2 ^ 32 - 1)) ∧
  (∀ (w : BitVec 22) (b : Fin 3072) (e : Fin 2) (p : Port) (s : State), s.dev = .run → ∃ t, exec (.eccUncorr w b (.marlData e p)) s = .next t ∧ t.rd TEST.ADDR 0 = w.toNat ∧ t.rd TEST.ECC_UNCORR_CNT 0 = min (s.rd TEST.ECC_UNCORR_CNT 0 + 1) (2 ^ 32 - 1)) ∧
  (∀ (w : BitVec 22) (b : Fin 3072) (e : Fin 2) (s : State), s.dev = .run → s.rd (engState e) 0 ≠ 2 → ∃ t, exec (.eccUncorr w b (.marlStore e)) s = .next t ∧ t.rd TEST.ADDR 0 = w.toNat ∧ t.rd TEST.ECC_UNCORR_CNT 0 = min (s.rd TEST.ECC_UNCORR_CNT 0 + 1) (2 ^ 32 - 1) ∧ t.rd CORE.STATE (9 + e.val) = enFailed) ∧
  (∀ (w : BitVec 22) (b : Fin 3072) (e : Fin 2) (s : State), s.dev = .run → s.rd (engState e) 0 = 2 → ∃ t, exec (.eccUncorr w b (.marlStore e)) s = .next t ∧ t.rd TEST.ADDR 0 = w.toNat ∧ t.rd TEST.ECC_UNCORR_CNT 0 = min (s.rd TEST.ECC_UNCORR_CNT 0 + 1) (2 ^ 32 - 1) ∧ t.rd CORE.STATE (9 + e.val) = s.rd CORE.STATE (9 + e.val)) ∧
  (∀ (w : BitVec 22) (b : Fin 3072) (x : Fin 8192) (s : State), s.dev = .run → ∃ t, exec (.eccUncorr w b (.ledger x)) s = .next t ∧ t.rd TEST.ADDR 0 = w.toNat ∧ t.rd TEST.ECC_UNCORR_CNT 0 = min (s.rd TEST.ECC_UNCORR_CNT 0 + 1) (2 ^ 32 - 1) ∧ x.val ∉ t.led.dirty) ∧
  (∀ (w : BitVec 22) (b : Fin 3072) (q : Fin 40) (i : Nat) (s : State), s.dev = .run → 5 ≠ q.val → i < (s.ring q).entries.length → ∃ t, exec (.eccUncorr w b (.ring q i)) s = .next t ∧ t.rd TEST.ADDR 0 = w.toNat ∧ t.rd TEST.ECC_UNCORR_CNT 0 = min (s.rd TEST.ECC_UNCORR_CNT 0 + 1) (2 ^ 32 - 1) ∧ (t.ring q).entries = (s.ring q).entries.eraseIdx i ∧ t.rd RING.CNT q = min (s.rd RING.CNT q + 1) (2 ^ 32 - 1)) ∧
  (∀ (w : BitVec 22) (b : Fin 3072) (r : Fin 128) (s : State), s.dev = .run → ∃ t, exec (.eccUncorr w b (.reserve r)) s = .next t ∧ t.rd TEST.ADDR 0 = w.toNat ∧ t.rd TEST.ECC_UNCORR_CNT 0 = min (s.rd TEST.ECC_UNCORR_CNT 0 + 1) (2 ^ 32 - 1) ∧ t.svc.unusable = s.svc.unusable ++ [r.val]) ∧
  (∀ (w : BitVec 22) (b : Fin 3072) (a : EccAt) (s : State), s.dev = .boot ∨ s.dev = .watch → exec (.eccUncorr w b a) s = .next s) ∧
  (∀ (b : Fin 3072) (n : Nat) (s : State), s.serves = true → s.svc.hard.contains b.val = true → s.freeReserve = some n → ∃ t, exec (.blockRemapped b) s = .next t ∧ t.svc.remap = s.svc.remap ++ [(b.val, n)] ∧ t.svc.hard.contains b.val = false ∧ t.rd TEST.REMAP_CNT 0 = min (s.rd TEST.REMAP_CNT 0 + 1) (2 ^ 32 - 1)) ∧
  (∀ (b : Fin 3072) (s : State), s.serves = true → s.svc.hard.contains b.val = true → s.freeReserve = none → ∃ t, exec (.blockRemapped b) s = .next t ∧ t.on TEST.REMAP_FULL 0 = true ∧ t.svc = s.svc) ∧
  (∀ (b : Fin 3072) (s : State), s.serves = false ∨ s.svc.hard.contains b.val = false → exec (.blockRemapped b) s = .next s) ∧
  (∀ (p : Port) (r : CheckRead) (x : PTest) (s : State), (s.port p).test = some x → x.kind = 0 → s.on GUARD.DEGRADED p = true → ∃ t, exec (.testDeferralExpiry p r) s = .next t ∧ (t.port p).test = none ∧ t.bit TEST.PEND 0 p = false ∧ t.rd TEST.PORT_TEST_CNT 0 = min (s.rd TEST.PORT_TEST_CNT 0 + 1) (2 ^ 32 - 1) ∧ t.rd TEST.DEFER_EXPIRED_CNT 0 = min (s.rd TEST.DEFER_EXPIRED_CNT 0 + 1) (2 ^ 32 - 1)) ∧
  (∀ (p : Port) (r : CheckRead) (x : PTest) (s : State), (s.port p).test = some x → x.kind = 0 → s.on GUARD.DEGRADED p = false → checkFails r (s.rd GUARD.VMON_CFG_MODE p) (s.thrV p).1 (s.thrV p).2 (s.rd LOOP.VBUS p / 60) = 0 → ∃ t, exec (.testDeferralExpiry p r) s = .next t ∧ (t.port p).test = none ∧ t.bit TEST.PEND 0 p = false ∧ t.rd TEST.PORT_TEST_CNT 0 = min (s.rd TEST.PORT_TEST_CNT 0 + 1) (2 ^ 32 - 1)) ∧
  (∀ (p : Port) (r : CheckRead) (x : PTest) (s : State), (s.port p).test = some x → x.kind = 0 → s.on GUARD.DEGRADED p = false → checkFails r (s.rd GUARD.VMON_CFG_MODE p) (s.thrV p).1 (s.thrV p).2 (s.rd LOOP.VBUS p / 60) ≠ 0 → s.repeating (s.checkWindow p) = true → ∃ t, exec (.testDeferralExpiry p r) s = .next t ∧ (t.port p).test = none ∧ t.bit TEST.PEND 0 p = false ∧ t.rd TEST.PORT_TEST_CNT 0 = min (s.rd TEST.PORT_TEST_CNT 0 + 1) (2 ^ 32 - 1)) ∧
  (∀ (p : Port) (r : CheckRead) (x : PTest) (s : State), (s.port p).test = some x → x.kind = 1 → checkFails r (s.rd GUARD.CMON_CFG_MODE p) (s.thrC p).1 (s.thrC p).2 (s.rd LOOP.VCONV p / 60) = 0 → ∃ t, exec (.testDeferralExpiry p r) s = .next t ∧ (t.port p).test = none ∧ t.bit TEST.PEND 0 p = false ∧ t.rd TEST.PORT_TEST_CNT 0 = min (s.rd TEST.PORT_TEST_CNT 0 + 1) (2 ^ 32 - 1)) ∧
  (∀ (p : Port) (r : CheckRead) (x : PTest) (s : State), (s.port p).test = some x → x.kind = 1 → checkFails r (s.rd GUARD.CMON_CFG_MODE p) (s.thrC p).1 (s.thrC p).2 (s.rd LOOP.VCONV p / 60) ≠ 0 → s.repeating (.csp p) = true → ∃ t, exec (.testDeferralExpiry p r) s = .next t ∧ (t.port p).test = none ∧ t.bit TEST.PEND 0 p = false ∧ t.rd TEST.PORT_TEST_CNT 0 = min (s.rd TEST.PORT_TEST_CNT 0 + 1) (2 ^ 32 - 1)) ∧
  (∀ (p : Port) (r : CheckRead) (x : PTest) (s : State), (s.port p).test = some x → x.kind = 2 → ∃ t, exec (.testDeferralExpiry p r) s = .next t ∧ (t.port p).test = none ∧ t.bit TEST.PEND 0 p = false ∧ t.rd TEST.PORT_TEST_CNT 0 = min (s.rd TEST.PORT_TEST_CNT 0 + 1) (2 ^ 32 - 1) ∧ t.rd TEST.DEFER_EXPIRED_CNT 0 = min (s.rd TEST.DEFER_EXPIRED_CNT 0 + 1) (2 ^ 32 - 1)) ∧
  (∀ (p : Port) (r : CheckRead) (x : PTest) (s : State), (s.port p).test = some x → 2 < x.kind → s.bit ADC.FAILED 0 8 = true ∨ s.on ADC.ROT_LOST 0 = true → ∃ t, exec (.testDeferralExpiry p r) s = .next t ∧ (t.port p).test = none ∧ t.bit TEST.PEND 0 p = false ∧ t.rd TEST.PORT_TEST_CNT 0 = min (s.rd TEST.PORT_TEST_CNT 0 + 1) (2 ^ 32 - 1) ∧ t.rd TEST.DEFER_EXPIRED_CNT 0 = min (s.rd TEST.DEFER_EXPIRED_CNT 0 + 1) (2 ^ 32 - 1)) ∧
  (∀ (p : Port) (r : CheckRead) (x : PTest) (s : State), (s.port p).test = some x → 2 < x.kind → s.bit ADC.FAILED 0 8 = false → s.on ADC.ROT_LOST 0 = false → exec (.testDeferralExpiry p r) s = .next s) ∧
  (∀ (p : Port) (r : CheckRead) (s : State), (s.port p).test = none → exec (.testDeferralExpiry p r) s = .next s) ∧
  (∀ (e : OtpEnv) (s : State), s.serves = true → s.svc.due ≠ 0 → s.otpMayProgram e = true → s.otpCounter 2 < 256 → ∃ t, exec (.serviceRaise e) s = .next t ∧ t.svc.due = s.svc.due - 1 ∧ t = ({ s with svc := { s.svc with due := s.svc.due - 1 } } : State).raiseCounter 2 (s.otpCounter 2 + 1)) ∧
  (∀ (e : OtpEnv) (s : State), s.serves = true → s.svc.due ≠ 0 → s.otpMayProgram e = true → 256 ≤ s.otpCounter 2 → ∃ t, exec (.serviceRaise e) s = .next t ∧ t.svc.due = s.svc.due - 1 ∧ t.otp = s.otp) ∧
  (∀ (e : OtpEnv) (s : State), s.serves = false ∨ s.svc.due = 0 ∨ s.otpMayProgram e = false → exec (.serviceRaise e) s = .next s)

/-- A served NOP echoes TARGET, ARG and payload; GET_INFO answers the device's information; SET_POLICY of a valid role table makes it active; GET_POLICY answers the active object; PORT_SET_PROFILE of a valid payload stores it for the port's next capabilities. (R107, R160, R364, R366) -/
def Obligations.PolicyObjectsAreSetAndRead : Prop :=
  (∀ (k : Packet) (s : State), s.serves = true → AwaitsResponse k k.payload s →
    ∃ t n, exec (.nop k) s = .next t ∧ (t.ring 4).entries = (s.ring 4).entries ++ [.pkt { k with flags := 0 } n]) ∧
  (∀ (k : Packet) (s : State), s.serves = true → k.chip = true → k.plain = true → AwaitsResponse k s.info s →
    ∃ t, exec (.getInfo k) s = .next t ∧ Responded k stOK s.info s t) ∧
  (∀ (k : Packet) (s : State), s.serves = true → k.tgt = 2 → k.len = 80 → k.ar = 0 → roleOk k.payload = true → s.standby = false → AwaitsResponse k [] s →
    ((objPages 2).any fun x => s.on (LOCK x.1) x.2) = false →
    ∃ t, exec (.setPolicy k) s = .next t ∧ Responded k stOK [] s t ∧ t.role = roleOf k.payload) ∧
  (∀ (k : Packet) (s : State), s.serves = true → k.plain = true → (objLen k.tgt).isSome = true → k.tgt ≠ 0x1FF → k.tgt ≠ 0x2FF → AwaitsResponse k (s.objNow k.tgt) s →
    ∃ t, exec (.getPolicy k) s = .next t ∧ Responded k stOK (s.objNow k.tgt) s t) ∧
  (∀ (k : Packet) (p : Port) (f : Profile) (s : State), s.serves = true → s.ownsPorts = true → k.portOf = some p → k.len = 32 → profileOf k.payload = some f → AwaitsResponse k [] s →
    ∃ t, exec (.portSetProfile k) s = .next t ∧ Responded k stOK [] s t ∧ (t.port p).nextProfile = some f)

/-- On a serving member that owns its ports: PORT_ENABLE where the port may be enabled answers OK and sets its bit of PORT_EN (a port enabled already is not touched), else DENIED; PORT_DISABLE answers OK, clears the bit and takes an attachment away; PORT_GET_STATE answers the 48 bytes of the port's state; PORT_SWAP in an explicit contract with nothing under way answers OK and requests the swap of its kind, answers BUSY while an AMS or other work runs, and DENIED without a contract, restricted, or for PR in EPR mode; PORT_HARD_RESET of an attached port with PD answers OK and, its Twill running, asks for Hard Reset (ARG 0) or, where the port may, Cable Reset (ARG 1), BUSY while one waits, else DENIED; PORT_SEND_VDM of an allowed VDM in a contract is under way until its answer, BUSY while other work runs, DENIED without a contract, BAD_ARG for a cable that the port does not supply; PORT_CLEAR_FAULT clears RETRIES and CC_OVP where nothing refuses it, else DENIED; PORT_TEST of a resource not failed and a port not retired waits until it ends, BUSY while a test waits, else DENIED. A TARGET that is no port or another form is BAD_ARG; a member that does not own its ports answers DENIED. (R168, R285, R367, R368, R369, R370, R371, R372, R373, R558, R33) -/
def Obligations.PortCommandsAct : Prop :=
  (∀ (k : Packet) (p : Port) (s : State), s.serves = true → s.ownsPorts = true → k.portOf = some p → k.plain = true → s.mayEnable p = true → s.enabled p = true → AwaitsResponse k [] s → ∃ t, exec (.portEnable k) s = .next t ∧ Responded k stOK [] s t ∧ t.enabled p = true ∧ t.tc p = s.tc p) ∧
  (∀ (k : Packet) (p : Port) (s : State), s.serves = true → s.ownsPorts = true → k.portOf = some p → k.plain = true → s.mayEnable p = true → s.enabled p = false → AwaitsResponse k [] s → ∃ t, exec (.portEnable k) s = .next t ∧ Responded k stOK [] s t ∧ t.enabled p = true) ∧
  (∀ (k : Packet) (p : Port) (s : State), s.serves = true → k.portOf = some p → k.plain = true → s.mayEnable p = false → AwaitsResponse k [] s → ∃ t, exec (.portEnable k) s = .next t ∧ Responded k stDENIED [] s t ∧ t.enabled p = s.enabled p ∧ t.tc p = s.tc p) ∧
  (∀ (k : Packet) (s : State), s.serves = true → k.portOf = none ∨ k.plain = false → AwaitsResponse k [] s → ∃ t, exec (.portEnable k) s = .next t ∧ Responded k stBAD_ARG [] s t) ∧
  (∀ (k : Packet) (p : Port) (s : State), s.serves = true → s.ownsPorts = true → k.portOf = some p → k.plain = true → AwaitsResponse k [] s → ∃ t, exec (.portDisable k) s = .next t ∧ Responded k stOK [] s t ∧ t.enabled p = false ∧ t.on CC.ATTACHED p = false) ∧
  (∀ (k : Packet) (p : Port) (s : State), s.serves = true → s.ownsPorts = false → k.portOf = some p → k.plain = true → AwaitsResponse k [] s → ∃ t, exec (.portDisable k) s = .next t ∧ Responded k stDENIED [] s t ∧ t.enabled p = s.enabled p) ∧
  (∀ (k : Packet) (s : State), s.serves = true → k.portOf = none ∨ k.plain = false → AwaitsResponse k [] s → ∃ t, exec (.portDisable k) s = .next t ∧ Responded k stBAD_ARG [] s t) ∧
  (∀ (k : Packet) (p : Port) (s : State), s.serves = true → s.ownsPorts = true → k.portOf = some p → k.plain = true → AwaitsResponse k (s.portState p) s → ∃ t, exec (.portGetState k) s = .next t ∧ Responded k stOK (s.portState p) s t) ∧
  (∀ (k : Packet) (s : State), s.serves = true → s.ownsPorts = false → AwaitsResponse k [] s → ∃ t, exec (.portGetState k) s = .next t ∧ Responded k stDENIED [] s t) ∧
  (∀ (k : Packet) (s : State), s.serves = true → s.ownsPorts = true → k.portOf = none ∨ k.plain = false → AwaitsResponse k [] s → ∃ t, exec (.portGetState k) s = .next t ∧ Responded k stBAD_ARG [] s t) ∧
  (∀ (k : Packet) (p : Port) (s : State), s.serves = true → s.ownsPorts = true → k.portOf = some p → k.payload.isEmpty = true → k.ar < 3 → s.on SYS.RESTRICTED 0 = false → s.explicit p = true → k.ar ≠ 0 ∨ s.on PD.EPR_MODE p = false → s.on PD.AMS_ACTIVE p = false → s.pdQuiet p = true → AwaitsResponse k [] s → ∃ t, exec (.portSwap k) s = .next t ∧ Responded k stOK [] s t ∧ (t.port p).swap.step = .requested ∧ (t.port p).swap.kind = swapOf k.ar ∧ (t.port p).pe.await = .swap) ∧
  (∀ (k : Packet) (p : Port) (s : State), s.serves = true → s.ownsPorts = true → k.portOf = some p → k.payload.isEmpty = true → k.ar < 3 → s.on SYS.RESTRICTED 0 = false → s.explicit p = true → k.ar ≠ 0 ∨ s.on PD.EPR_MODE p = false → s.on PD.AMS_ACTIVE p = true ∨ s.pdQuiet p = false → AwaitsResponse k [] s → ∃ t, exec (.portSwap k) s = .next t ∧ Responded k stBUSY [] s t ∧ (t.port p).swap.step = (s.port p).swap.step) ∧
  (∀ (k : Packet) (p : Port) (s : State), s.serves = true → s.ownsPorts = true → k.portOf = some p → k.payload.isEmpty = true → k.ar < 3 → s.on SYS.RESTRICTED 0 = true ∨ s.explicit p = false ∨ (k.ar = 0 ∧ s.on PD.EPR_MODE p = true) → AwaitsResponse k [] s → ∃ t, exec (.portSwap k) s = .next t ∧ Responded k stDENIED [] s t ∧ (t.port p).swap.step = (s.port p).swap.step) ∧
  (∀ (k : Packet) (p : Port) (s : State), s.serves = true → s.ownsPorts = false → k.portOf = some p → k.payload.isEmpty = true → k.ar < 3 → AwaitsResponse k [] s → ∃ t, exec (.portSwap k) s = .next t ∧ Responded k stDENIED [] s t) ∧
  (∀ (k : Packet) (s : State), s.serves = true → k.portOf = none ∨ k.payload.isEmpty = false ∨ 3 ≤ k.ar → AwaitsResponse k [] s → ∃ t, exec (.portSwap k) s = .next t ∧ Responded k stBAD_ARG [] s t) ∧
  (∀ (k : Packet) (p : Port) (s : State), s.serves = true → s.ownsPorts = true → k.portOf = some p → k.payload.isEmpty = true → k.ar = 0 → s.on CC.ATTACHED p = true → s.on PD.PD_EN p = true → (s.port p).phy.hrPending = false → (s.port p).phy.cableResetPending = false → AwaitsResponse k [] s → ∃ t, exec (.portHardReset k) s = .next t ∧ Responded k stOK [] s t ∧ ((s.carriedByTwill p = true ∧ s.on PD.SHADOW p = false) → (t.port p).phy.hrPending = true ∧ (t.port p).phy.outbox = [])) ∧
  (∀ (k : Packet) (p : Port) (s : State), s.serves = true → s.ownsPorts = true → k.portOf = some p → k.payload.isEmpty = true → k.ar = 1 → s.on CC.ATTACHED p = true → s.on PD.PD_EN p = true → (s.port p).phy.hrPending = false → (s.port p).phy.cableResetPending = false → s.mayCableReset p = true → s.carriedByTwill p = true → (s.port p).phy.tx ≠ none → AwaitsResponse k [] s → ∃ t, exec (.portHardReset k) s = .next t ∧ Responded k stOK [] s t ∧ (t.port p).phy.cableResetPending = true) ∧
  (∀ (k : Packet) (p : Port) (s : State), s.serves = true → s.ownsPorts = true → k.portOf = some p → k.payload.isEmpty = true → k.ar = 1 → s.on CC.ATTACHED p = true → s.on PD.PD_EN p = true → (s.port p).phy.hrPending = false → (s.port p).phy.cableResetPending = false → s.mayCableReset p = true → AwaitsResponse k [] s → ∃ t, exec (.portHardReset k) s = .next t ∧ Responded k stOK [] s t) ∧
  (∀ (k : Packet) (p : Port) (s : State), s.serves = true → s.ownsPorts = true → k.portOf = some p → k.payload.isEmpty = true → k.ar < 2 → s.on CC.ATTACHED p = true → s.on PD.PD_EN p = true → s.mayCableReset p = true ∨ k.ar = 0 → (s.port p).phy.hrPending = true ∨ (s.port p).phy.cableResetPending = true → AwaitsResponse k [] s → ∃ t, exec (.portHardReset k) s = .next t ∧ Responded k stBUSY [] s t ∧ t.port p = s.port p) ∧
  (∀ (k : Packet) (p : Port) (s : State), s.serves = true → s.ownsPorts = true → k.portOf = some p → k.payload.isEmpty = true → k.ar < 2 → s.on CC.ATTACHED p = false ∨ s.on PD.PD_EN p = false ∨ (k.ar = 1 ∧ s.mayCableReset p = false) → AwaitsResponse k [] s → ∃ t, exec (.portHardReset k) s = .next t ∧ Responded k stDENIED [] s t ∧ t.port p = s.port p) ∧
  (∀ (k : Packet) (p : Port) (s : State), s.serves = true → s.ownsPorts = false → k.portOf = some p → k.payload.isEmpty = true → k.ar < 2 → AwaitsResponse k [] s → ∃ t, exec (.portHardReset k) s = .next t ∧ Responded k stDENIED [] s t) ∧
  (∀ (k : Packet) (s : State), s.serves = true → k.portOf = none ∨ k.payload.isEmpty = false ∨ 2 ≤ k.ar → AwaitsResponse k [] s → ∃ t, exec (.portHardReset k) s = .next t ∧ Responded k stBAD_ARG [] s t) ∧
  (∀ (k : Packet) (p : Port) (s : State), s.serves = true → s.ownsPorts = true → k.portOf = some p → k.ar < 3 → vdmAllowed k.payload = true → s.on PD.VCONN_SRC p = true ∨ k.ar = 0 → s.explicit p = true → s.on PD.AMS_ACTIVE p = false → (s.port p).pe.await = .none → ∃ t, exec (.portSendVdm k) s = .next t ∧ (t.port p).pe.await = .hostVdm k) ∧
  (∀ (k : Packet) (p : Port) (s : State), s.serves = true → s.ownsPorts = true → k.portOf = some p → k.ar < 3 → vdmAllowed k.payload = true → s.on PD.VCONN_SRC p = true ∨ k.ar = 0 → s.explicit p = true → s.on PD.AMS_ACTIVE p = true ∨ (s.port p).pe.await ≠ .none → AwaitsResponse k [] s → ∃ t, exec (.portSendVdm k) s = .next t ∧ Responded k stBUSY [] s t ∧ (t.port p).pe.await = (s.port p).pe.await) ∧
  (∀ (k : Packet) (p : Port) (s : State), s.serves = true → s.ownsPorts = true → k.portOf = some p → k.ar < 3 → vdmAllowed k.payload = true → s.on PD.VCONN_SRC p = true ∨ k.ar = 0 → s.explicit p = false → AwaitsResponse k [] s → ∃ t, exec (.portSendVdm k) s = .next t ∧ Responded k stDENIED [] s t ∧ (t.port p).pe.await = (s.port p).pe.await) ∧
  (∀ (k : Packet) (p : Port) (s : State), s.serves = true → k.portOf = some p → k.ar < 3 → vdmAllowed k.payload = true → k.ar ≠ 0 → s.on PD.VCONN_SRC p = false → AwaitsResponse k [] s → ∃ t, exec (.portSendVdm k) s = .next t ∧ Responded k stBAD_ARG [] s t) ∧
  (∀ (k : Packet) (p : Port) (s : State), s.serves = true → s.ownsPorts = false → k.portOf = some p → k.ar < 3 → vdmAllowed k.payload = true → s.on PD.VCONN_SRC p = true ∨ k.ar = 0 → AwaitsResponse k [] s → ∃ t, exec (.portSendVdm k) s = .next t ∧ Responded k stDENIED [] s t) ∧
  (∀ (k : Packet) (s : State), s.serves = true → k.portOf = none ∨ 3 ≤ k.ar ∨ vdmAllowed k.payload = false → AwaitsResponse k [] s → ∃ t, exec (.portSendVdm k) s = .next t ∧ Responded k stBAD_ARG [] s t) ∧
  (∀ (k : Packet) (p : Port) (s : State), s.serves = true → s.ownsPorts = true → k.portOf = some p → k.payload.isEmpty = true → k.ar < 2 → s.clearRefused p (k.ar == 1) = false → AwaitsResponse k [] s → ∃ t, exec (.portClearFault k) s = .next t ∧ Responded k stOK [] s t ∧ t.rd GUARD.RETRIES p = 0 ∧ t.on CC.CC_OVP p = false ∧ (t.port p).guard.trips = []) ∧
  (∀ (k : Packet) (p : Port) (s : State), s.serves = true → s.ownsPorts = true → k.portOf = some p → k.payload.isEmpty = true → k.ar < 2 → s.clearRefused p (k.ar == 1) = true → AwaitsResponse k [] s → ∃ t, exec (.portClearFault k) s = .next t ∧ Responded k stDENIED [] s t ∧ t.rd GUARD.RETRIES p = s.rd GUARD.RETRIES p ∧ t.gst p = s.gst p) ∧
  (∀ (k : Packet) (s : State), s.serves = true → s.ownsPorts = false → AwaitsResponse k [] s → ∃ t, exec (.portClearFault k) s = .next t ∧ Responded k stDENIED [] s t) ∧
  (∀ (k : Packet) (s : State), s.serves = true → s.ownsPorts = true → k.portOf = none ∨ k.payload.isEmpty = false ∨ 2 ≤ k.ar → AwaitsResponse k [] s → ∃ t, exec (.portClearFault k) s = .next t ∧ Responded k stBAD_ARG [] s t) ∧
  (∀ (k : Packet) (p : Port) (s : State), s.serves = true → s.ownsPorts = true → k.portOf = some p → k.payload.isEmpty = true → k.ar < 4 → s.gst p ≠ gRetired → s.testFailed p k.ar = false → (s.port p).test = none → ∃ t, exec (.portTest k) s = .next t ∧ (t.port p).test = some ⟨k, k.ar, s.up⟩ ∧ t.bit TEST.PEND 0 p = true ∧ (t.ring 4).entries = (s.ring 4).entries) ∧
  (∀ (k : Packet) (p : Port) (s : State), s.serves = true → s.ownsPorts = true → k.portOf = some p → k.payload.isEmpty = true → k.ar < 4 → s.gst p ≠ gRetired → s.testFailed p k.ar = false → (s.port p).test ≠ none → AwaitsResponse k [] s → ∃ t, exec (.portTest k) s = .next t ∧ Responded k stBUSY [] s t ∧ (t.port p).test = (s.port p).test) ∧
  (∀ (k : Packet) (p : Port) (s : State), s.serves = true → s.ownsPorts = true → k.portOf = some p → k.payload.isEmpty = true → k.ar < 4 → s.gst p = gRetired ∨ s.testFailed p k.ar = true → AwaitsResponse k [] s → ∃ t, exec (.portTest k) s = .next t ∧ Responded k stDENIED [] s t ∧ (t.port p).test = (s.port p).test) ∧
  (∀ (k : Packet) (p : Port) (s : State), s.serves = true → s.ownsPorts = false → k.portOf = some p → k.payload.isEmpty = true → k.ar < 4 → AwaitsResponse k [] s → ∃ t, exec (.portTest k) s = .next t ∧ Responded k stDENIED [] s t) ∧
  (∀ (k : Packet) (s : State), s.serves = true → k.portOf = none ∨ k.payload.isEmpty = false ∨ 4 ≤ k.ar → AwaitsResponse k [] s → ∃ t, exec (.portTest k) s = .next t ∧ Responded k stBAD_ARG [] s t)

/-- A commit of an endpoint but the host to a mailbox whose receiver is not in reset or reloading fills it with word 0 and the staged words, remembers its sender, marks COLLIDE over an unread message and counts both; to one that is, it leaves the mailbox and raises the sender's ABORTED notice, counted; the host commits nothing. A read of a full mailbox moves the words to the holding buffer; of an empty one nothing. A core reset clears the four mailboxes and the staging buffer of its endpoint and no other mailbox. A doorbell wakes a receiver in SLEEP, or the device from WATCH, and is counted; else nothing. A record for an event ring that repeats the newest record as R361 says raises its word 7 and is counted; any other is appended under the next sequence number where there is room; in a full ring it takes the place of the oldest unlocked severity 0, else 1, record; with none of those one of severity 0 or 1 is dropped and one of severity 2 or 3 replaces the record that R361 names; each loss is counted. A command ring, or ring 7, takes no record. At a tick a throttled ring at HWM doubles its window up to COAL_CAP; no other ring changes. (R348, R349, R350, R351, R352, R353, R354, R359, R360, R361) -/
def Obligations.MailboxesAndEventRings : Prop :=
  (∀ (f : Fin 16) (m : Fin 64) (w : BitVec 27) (l : List Word) (s : State), f.val ≠ 12 → s.boxDead (boxOwner m) = false → ∃ t, exec (.mailboxCommit f m w l) s = .next t ∧ (t.box m).full = true ∧ (t.box m).src = f.val ∧ (t.box m).words = BitVec.ofNat 32 (f.val * 2 ^ 28 + 2 ^ 27 + w.toNat) :: (((l ++ (s.staging.get f).drop l.length).take 7) ++ List.replicate (7 - ((l ++ (s.staging.get f).drop l.length).take 7).length) 0) ∧ (t.box m).collide = ((s.box m).collide || (s.box m).full) ∧ (t.box m).hold = (s.box m).hold ∧ (∀ k, k ≠ m → t.box k = s.box k) ∧ t.rd MBX.MSG_CNT 0 = min (s.rd MBX.MSG_CNT 0 + 1) (2 ^ 32 - 1) ∧ t.rd MBX.COLLIDE_CNT 0 = (if (s.box m).full then min (s.rd MBX.COLLIDE_CNT 0 + 1) (2 ^ 32 - 1) else s.rd MBX.COLLIDE_CNT 0)) ∧
  (∀ (f : Fin 16) (m : Fin 64) (w : BitVec 27) (l : List Word) (s : State), f.val ≠ 12 → s.boxDead (boxOwner m) = true → ∃ t, exec (.mailboxCommit f m w l) s = .next t ∧ (∀ k, t.box k = s.box k) ∧ (t.notice.get f).getLsbD m.val = true ∧ t.rd MBX.ABORT_CNT 0 = min (s.rd MBX.ABORT_CNT 0 + 1) (2 ^ 32 - 1)) ∧
  (∀ (m : Fin 64) (w : BitVec 27) (l : List Word) (s : State), exec (.mailboxCommit 12 m w l) s = .next s) ∧
  (∀ (m : Fin 64) (s : State), (s.box m).full = true → ∃ t, exec (.mailboxRead m) s = .next t ∧ t.box m = { s.box m with hold := (s.box m).words, full := false } ∧ (∀ k, k ≠ m → t.box k = s.box k)) ∧
  (∀ (m : Fin 64) (s : State), (s.box m).full = false → exec (.mailboxRead m) s = .next s) ∧
  (∀ (e : Fin 16) (m : Fin 64) (s : State), boxOwner m = e → ∃ t, exec (.mailboxAborted e) s = .next t ∧ (t.box m).full = false ∧ (t.box m).collide = false ∧ (t.box m).hold = [] ∧ t.staging.get e = []) ∧
  (∀ (e : Fin 16) (m : Fin 64) (s : State), boxOwner m ≠ e → ∃ t, exec (.mailboxAborted e) s = .next t ∧ t.box m = s.box m) ∧
  (∀ (e : Fin 16) (s : State), s.dev ≠ .watch → e.val < 12 → s.rd CORE.STATE e = enSleep → ∃ t, exec (.doorbellWake e) s = .next t ∧ t.rd CORE.STATE e = enRun ∧ t.rd MBX.WAKE_CNT 0 = min (s.rd MBX.WAKE_CNT 0 + 1) (2 ^ 32 - 1)) ∧
  (∀ (e : Fin 16) (s : State), s.dev = .watch → e.val < 12 → ∃ t, exec (.doorbellWake e) s = .next t ∧ t.dev = .waking ∧ t.rd MBX.WAKE_CNT 0 = min (s.rd MBX.WAKE_CNT 0 + 1) (2 ^ 32 - 1)) ∧
  (∀ (e : Fin 16) (s : State), 12 ≤ e.val ∨ (s.dev ≠ .watch ∧ s.rd CORE.STATE e ≠ enSleep) → exec (.doorbellWake e) s = .next s) ∧
  (∀ (q : Fin 40) (c : Bool) (sev : Fin 4) (port code src : Byte) (d4 d5 d6 d7 : Word) (s : State), q.val < 5 ∨ q.val = 7 → exec (.eventRecordWrite q c sev port code src d4 d5 d6 d7) s = .next s) ∧
  (∀ (q : Fin 40) (c : Bool) (sev : Fin 4) (port : Byte) (code : Byte) (src : Byte) (d4 : Word) (d5 : Word) (d6 : Word) (d7 : Word) (e : EvRec) (s : State), e = ⟨sev.val, port.toNat, code.toNat, src.toNat, s.time % 2 ^ 64, 0, d4.toNat, d5.toNat, d6.toNat, if c then 0 else d7.toNat⟩ → 5 ≤ q.val → q.val ≠ 7 → s.coalesce q c e = none → (s.ring q).occ < ringSize q → ∃ t, exec (.eventRecordWrite q c sev port code src d4 d5 d6 d7) s = .next t ∧ (t.ring q).seq = (s.ring q).seq + 1 ∧ (t.ring q).entries = (s.ring q).entries ++ [.ev { e with seq := (s.ring q).seq % 2 ^ 32 }]) ∧
  (∀ (q : Fin 40) (c : Bool) (sev : Fin 4) (port : Byte) (code : Byte) (src : Byte) (d4 : Word) (d5 : Word) (d6 : Word) (d7 : Word) (e : EvRec) (i : Nat) (w : EvRec) (s : State), e = ⟨sev.val, port.toNat, code.toNat, src.toNat, s.time % 2 ^ 64, 0, d4.toNat, d5.toNat, d6.toNat, if c then 0 else d7.toNat⟩ → 5 ≤ q.val → q.val ≠ 7 → c = true → newestAt ((s.ring q).seq % 2 ^ 32) 0 none (s.ring q).entries = some i → (s.ring q).entries[i]? = some (.ev w) → ((s.ring q).locked && i == 0) = false → 0 < s.rd RING.COAL_BASE q → w.same0 e = true → (s.ring q).throttle = true ∨ (w.d4 = e.d4 ∧ w.d5 = e.d5 ∧ w.d6 = e.d6) → e.time - w.time ≤ s.coalWin q → ∃ t, exec (.eventRecordWrite q c sev port code src d4 d5 d6 d7) s = .next t ∧ (t.ring q).entries = (s.ring q).entries.set i (.ev { w with d7 := min (w.d7 + 1) 0xFFFFFFFF }) ∧ (t.ring q).seq = (s.ring q).seq ∧ t.rd RING.COAL_CNT 0 = min (s.rd RING.COAL_CNT 0 + 1) (2 ^ 32 - 1)) ∧
  (∀ (q : Fin 40) (c : Bool) (sev : Fin 4) (port : Byte) (code : Byte) (src : Byte) (d4 : Word) (d5 : Word) (d6 : Word) (d7 : Word) (e : EvRec) (i : Nat) (s : State), e = ⟨sev.val, port.toNat, code.toNat, src.toNat, s.time % 2 ^ 64, 0, d4.toNat, d5.toNat, d6.toNat, if c then 0 else d7.toNat⟩ → 5 ≤ q.val → q.val ≠ 7 → s.coalesce q c e = none → ringSize q ≤ (s.ring q).occ → (s.ring q).oldest (Entry.hasSev 0) = some i → ∃ t, exec (.eventRecordWrite q c sev port code src d4 d5 d6 d7) s = .next t ∧ (t.ring q).entries = (s.ring q).entries.eraseIdx i ++ [.ev { e with seq := (s.ring q).seq % 2 ^ 32 }] ∧ t.rd RING.CNT q = min (s.rd RING.CNT q + 1) (2 ^ 32 - 1)) ∧
  (∀ (q : Fin 40) (c : Bool) (sev : Fin 4) (port : Byte) (code : Byte) (src : Byte) (d4 : Word) (d5 : Word) (d6 : Word) (d7 : Word) (e : EvRec) (i : Nat) (s : State), e = ⟨sev.val, port.toNat, code.toNat, src.toNat, s.time % 2 ^ 64, 0, d4.toNat, d5.toNat, d6.toNat, if c then 0 else d7.toNat⟩ → 5 ≤ q.val → q.val ≠ 7 → s.coalesce q c e = none → ringSize q ≤ (s.ring q).occ → (s.ring q).oldest (Entry.hasSev 0) = none → (s.ring q).oldest (Entry.hasSev 1) = some i → ∃ t, exec (.eventRecordWrite q c sev port code src d4 d5 d6 d7) s = .next t ∧ (t.ring q).entries = (s.ring q).entries.eraseIdx i ++ [.ev { e with seq := (s.ring q).seq % 2 ^ 32 }] ∧ t.rd RING.CNT q = min (s.rd RING.CNT q + 1) (2 ^ 32 - 1)) ∧
  (∀ (q : Fin 40) (c : Bool) (sev : Fin 4) (port : Byte) (code : Byte) (src : Byte) (d4 : Word) (d5 : Word) (d6 : Word) (d7 : Word) (e : EvRec) (s : State), e = ⟨sev.val, port.toNat, code.toNat, src.toNat, s.time % 2 ^ 64, 0, d4.toNat, d5.toNat, d6.toNat, if c then 0 else d7.toNat⟩ → 5 ≤ q.val → q.val ≠ 7 → s.coalesce q c e = none → ringSize q ≤ (s.ring q).occ → (s.ring q).oldest (Entry.hasSev 0) = none → (s.ring q).oldest (Entry.hasSev 1) = none → sev.val ≤ 1 → ∃ t, exec (.eventRecordWrite q c sev port code src d4 d5 d6 d7) s = .next t ∧ (t.ring q).entries = (s.ring q).entries ∧ t.rd RING.CNT q = min (s.rd RING.CNT q + 1) (2 ^ 32 - 1)) ∧
  (∀ (q : Fin 40) (c : Bool) (sev : Fin 4) (port : Byte) (code : Byte) (src : Byte) (d4 : Word) (d5 : Word) (d6 : Word) (d7 : Word) (e : EvRec) (i : Nat) (s : State), e = ⟨sev.val, port.toNat, code.toNat, src.toNat, s.time % 2 ^ 64, 0, d4.toNat, d5.toNat, d6.toNat, if c then 0 else d7.toNat⟩ → 5 ≤ q.val → q.val ≠ 7 → s.coalesce q c e = none → ringSize q ≤ (s.ring q).occ → (s.ring q).oldest (Entry.hasSev 0) = none → (s.ring q).oldest (Entry.hasSev 1) = none → 1 < sev.val → (s.ring q).oldest (Entry.hasKind e.src e.code) = some i → ∃ t, exec (.eventRecordWrite q c sev port code src d4 d5 d6 d7) s = .next t ∧ (t.ring q).entries = (s.ring q).entries.set i (.ev { e with seq := (s.ring q).seq % 2 ^ 32 }) ∧ t.rd RING.MERGE_CNT 0 = min (s.rd RING.MERGE_CNT 0 + 1) (2 ^ 32 - 1)) ∧
  (∀ (q : Fin 40) (c : Bool) (sev : Fin 4) (port : Byte) (code : Byte) (src : Byte) (d4 : Word) (d5 : Word) (d6 : Word) (d7 : Word) (e : EvRec) (i : Nat) (s : State), e = ⟨sev.val, port.toNat, code.toNat, src.toNat, s.time % 2 ^ 64, 0, d4.toNat, d5.toNat, d6.toNat, if c then 0 else d7.toNat⟩ → 5 ≤ q.val → q.val ≠ 7 → s.coalesce q c e = none → ringSize q ≤ (s.ring q).occ → (s.ring q).oldest (Entry.hasSev 0) = none → (s.ring q).oldest (Entry.hasSev 1) = none → 1 < sev.val → (s.ring q).oldest (Entry.hasKind e.src e.code) = none → (s.ring q).oldest (Entry.paired (s.ring q).entries) = some i → ∃ t, exec (.eventRecordWrite q c sev port code src d4 d5 d6 d7) s = .next t ∧ (t.ring q).entries = (s.ring q).entries.set i (.ev { e with seq := (s.ring q).seq % 2 ^ 32 }) ∧ t.rd RING.MERGE_CNT 0 = min (s.rd RING.MERGE_CNT 0 + 1) (2 ^ 32 - 1)) ∧
  (∀ (q : Fin 40) (c : Bool) (sev : Fin 4) (port : Byte) (code : Byte) (src : Byte) (d4 : Word) (d5 : Word) (d6 : Word) (d7 : Word) (e : EvRec) (s : State), e = ⟨sev.val, port.toNat, code.toNat, src.toNat, s.time % 2 ^ 64, 0, d4.toNat, d5.toNat, d6.toNat, if c then 0 else d7.toNat⟩ → 5 ≤ q.val → q.val ≠ 7 → s.coalesce q c e = none → ringSize q ≤ (s.ring q).occ → (s.ring q).oldest (Entry.hasSev 0) = none → (s.ring q).oldest (Entry.hasSev 1) = none → (s.ring q).oldest (Entry.hasKind e.src e.code) = none → (s.ring q).oldest (Entry.paired (s.ring q).entries) = none → ∃ t, exec (.eventRecordWrite q c sev port code src d4 d5 d6 d7) s = .next t ∧ (t.ring q).entries = (s.ring q).entries ∧ t.rd RING.CNT q = min (s.rd RING.CNT q + 1) (2 ^ 32 - 1)) ∧
  (∀ (q : Fin 40) (s : State), (s.ring q).throttle = true → s.rd RING.HWM q ≤ (s.ring q).occ → ∃ t, exec (.ringThrottleTick q) s = .next t ∧ t.ring q = { s.ring q with coalS := min ((s.ring q).coalS + 1) (s.rd RING.COAL_CAP q) } ∧ (∀ k, k ≠ q → t.ring k = s.ring k)) ∧
  (∀ (q : Fin 40) (s : State), (s.ring q).throttle = false ∨ (s.ring q).occ < s.rd RING.HWM q → exec (.ringThrottleTick q) s = .next s)

/-- Outside WATCH each transaction is counted; in WATCH none does anything. DEV_STATUS, PORT_SUMMARY and FAULT_SUMMARY return their bytes and the PEC in every such state. With READY, READ_REG returns the RD_WORDS words from PTR as a block with its PEC, and PTR advances only when the host has read every byte, and the PEC where PEC_REQ asks for it. WRITE_REG with a count of 4 to 32, a multiple of 4, applies its words from PTR on and advances it by the count; another count is BAD_ARG, fewer bytes than the count or a missing or bad PEC (CRC, counted) applies nothing and keeps PTR. SMB_STOP stops the ports that its byte names, another byte is BAD_ARG, and a bad PEC is counted while the stop stands. An unlisted command byte is BAD_ARG. Without READY, READ_REG and WRITE_REG are NOT_READY. A stretch that ends without its data returns zeros for the bytes not ready and the complement of the PEC, under NOT_READY. Protocol errors and clock timeouts are counted, and keep pointer, assembly and delivery. (R397, R399, R400, R401, R402, R404, R405, R410, R412, R413, R418) -/
def Obligations.SmbusReadsAndWrites : Prop :=
  (∀ (s : State), s.dev ≠ .watch → ∃ t, exec .devStatus s = .next t ∧ t.smb.tx = leBytes 2 (s.bump SMB.TXN_CNT 0).devStatus ++ [pecOf ([s.smbAddr false] ++ [0x01] ++ [s.smbAddr true] ++ leBytes 2 (s.bump SMB.TXN_CNT 0).devStatus)] ∧ t.rd SMB.TXN_CNT 0 = min (s.rd SMB.TXN_CNT 0 + 1) (2 ^ 32 - 1)) ∧
  (∀ (s : State), s.dev ≠ .watch → ∃ t, exec .portSummary s = .next t ∧ t.smb.tx = smbBlock (s.bump SMB.TXN_CNT 0).portSummary ++ [pecOf ([s.smbAddr false] ++ [0x02] ++ [s.smbAddr true] ++ smbBlock (s.bump SMB.TXN_CNT 0).portSummary)] ∧ t.rd SMB.TXN_CNT 0 = min (s.rd SMB.TXN_CNT 0 + 1) (2 ^ 32 - 1)) ∧
  (∀ (s : State), s.dev ≠ .watch → ∃ t, exec .faultSummary s = .next t ∧ t.smb.tx = smbBlock (s.bump SMB.TXN_CNT 0).faultSummary ++ [pecOf ([s.smbAddr false] ++ [0x03] ++ [s.smbAddr true] ++ smbBlock (s.bump SMB.TXN_CNT 0).faultSummary)] ∧ t.rd SMB.TXN_CNT 0 = min (s.rd SMB.TXN_CNT 0 + 1) (2 ^ 32 - 1)) ∧
  (∀ (s : State), s.dev = .watch → exec (.devStatus) s = .next s) ∧
  (∀ (s : State), s.dev = .watch → exec (.portSummary) s = .next s) ∧
  (∀ (s : State), s.dev = .watch → exec (.faultSummary) s = .next s) ∧
  (∀ (s : State), s.dev ≠ .watch → s.on SYS.READY 0 = true → s.on SMB.PEC_REQ 0 = false → ∃ t, exec (.readReg true false) s = .next t ∧ t.smb.tx = smbBlock (State.smbWords (s.rd SMB.RD_WORDS 0) (s.rd SMB.PTR 0) [] (s.bump SMB.TXN_CNT 0)).2 ++ [pecOf ([s.smbAddr false] ++ [0x11] ++ [s.smbAddr true] ++ smbBlock (State.smbWords (s.rd SMB.RD_WORDS 0) (s.rd SMB.PTR 0) [] (s.bump SMB.TXN_CNT 0)).2)] ∧ t.rd SMB.PTR 0 = (s.rd SMB.PTR 0 + 4 * s.rd SMB.RD_WORDS 0) % 2 ^ 24 ∧ t.rd SMB.TXN_CNT 0 = min (s.rd SMB.TXN_CNT 0 + 1) (2 ^ 32 - 1)) ∧
  (∀ (s : State), s.dev ≠ .watch → s.on SYS.READY 0 = true → ∃ t, exec (.readReg true true) s = .next t ∧ t.smb.tx = smbBlock (State.smbWords (s.rd SMB.RD_WORDS 0) (s.rd SMB.PTR 0) [] (s.bump SMB.TXN_CNT 0)).2 ++ [pecOf ([s.smbAddr false] ++ [0x11] ++ [s.smbAddr true] ++ smbBlock (State.smbWords (s.rd SMB.RD_WORDS 0) (s.rd SMB.PTR 0) [] (s.bump SMB.TXN_CNT 0)).2)] ∧ t.rd SMB.PTR 0 = (s.rd SMB.PTR 0 + 4 * s.rd SMB.RD_WORDS 0) % 2 ^ 24 ∧ t.rd SMB.TXN_CNT 0 = min (s.rd SMB.TXN_CNT 0 + 1) (2 ^ 32 - 1)) ∧
  (∀ (x : Bool) (s : State), s.dev ≠ .watch → s.on SYS.READY 0 = true → ∃ t, exec (.readReg false x) s = .next t ∧ t.smb.tx = smbBlock (State.smbWords (s.rd SMB.RD_WORDS 0) (s.rd SMB.PTR 0) [] (s.bump SMB.TXN_CNT 0)).2 ++ [pecOf ([s.smbAddr false] ++ [0x11] ++ [s.smbAddr true] ++ smbBlock (State.smbWords (s.rd SMB.RD_WORDS 0) (s.rd SMB.PTR 0) [] (s.bump SMB.TXN_CNT 0)).2)] ∧ t.rd SMB.PTR 0 = s.rd SMB.PTR 0 ∧ t.rd SMB.TXN_CNT 0 = min (s.rd SMB.TXN_CNT 0 + 1) (2 ^ 32 - 1)) ∧
  (∀ (s : State), s.dev ≠ .watch → s.on SYS.READY 0 = true → s.on SMB.PEC_REQ 0 = true → ∃ t, exec (.readReg true false) s = .next t ∧ t.smb.tx = smbBlock (State.smbWords (s.rd SMB.RD_WORDS 0) (s.rd SMB.PTR 0) [] (s.bump SMB.TXN_CNT 0)).2 ++ [pecOf ([s.smbAddr false] ++ [0x11] ++ [s.smbAddr true] ++ smbBlock (State.smbWords (s.rd SMB.RD_WORDS 0) (s.rd SMB.PTR 0) [] (s.bump SMB.TXN_CNT 0)).2)] ∧ t.rd SMB.PTR 0 = s.rd SMB.PTR 0 ∧ t.rd SMB.TXN_CNT 0 = min (s.rd SMB.TXN_CNT 0 + 1) (2 ^ 32 - 1)) ∧
  (∀ (i : Fin 22) (s : State), s.dev ≠ .watch → s.on SYS.READY 0 = true → s.rd SMB.RD_WORDS 0 = 1 → s.rd SMB.PTR 0 = i.val * 0x400 + 0x10 → ∃ t, exec (.readReg true true) s = .next t ∧ t.rd SMB.PTR 0 = i.val * 0x400 + 0x14 ∧ t.smb.tx.dropLast = smbBlock (leBytes 4 (s.rd (IRQ_EN i.val) 0))) ∧
  (∀ (a : Bool) (b : Bool) (s : State), s.dev ≠ .watch → s.on SYS.READY 0 = false → ∃ t, exec (.readReg a b) s = .next t ∧ t.on SMB.ERR 0 = true ∧ t.rd SMB.LAST_ERR 0 = stNOT_READY ∧ t.rd SMB.LAST_CMD 0 = 0x11 ∧ t.rd SMB.TXN_CNT 0 = min (s.rd SMB.TXN_CNT 0 + 1) (2 ^ 32 - 1)) ∧
  (∀ (a b : Bool) (s : State), s.dev = .watch → exec (.readReg a b) s = .next s) ∧
  (∀ (n : Byte) (l : List Byte) (x : Pec) (s : State), s.dev ≠ .watch → s.on SYS.READY 0 = true → 4 ≤ n.toNat → n.toNat ≤ 32 → n.toNat % 4 = 0 → l.length = n.toNat → s.pecOk x = true → ∃ t, exec (.writeReg n l x) s = .next t ∧ t = ((State.smbWrites (s.rd SMB.PTR 0) (wordsOf l) (s.bump SMB.TXN_CNT 0)).wr SMB.PTR 0 (s.rd SMB.PTR 0 + n.toNat)).smbReset (s.rd SMB.PTR 0) (wordsOf l)) ∧
  (∀ (n : Byte) (l : List Byte) (x : Pec) (s : State), s.dev ≠ .watch → s.on SYS.READY 0 = true → 4 ≤ n.toNat → n.toNat ≤ 32 → n.toNat % 4 = 0 → l.length = n.toNat → s.pecOk x = true → 0x2004 < s.rd SMB.PTR 0 → ∃ t, exec (.writeReg n l x) s = .next t ∧ t.rd SMB.PTR 0 = (s.rd SMB.PTR 0 + n.toNat) % 2 ^ 24 ∧ t.rd SMB.TXN_CNT 0 = min (s.rd SMB.TXN_CNT 0 + 1) (2 ^ 32 - 1)) ∧
  (∀ (i : Fin 22) (l : List Byte) (s : State), s.dev ≠ .watch → s.on SYS.READY 0 = true → s.rd SMB.PTR 0 = i.val * 0x400 + 0x10 → l.length = 4 → ∃ t, exec (.writeReg 4 l .good) s = .next t ∧ t.rd SMB.PTR 0 = i.val * 0x400 + 0x14 ∧ t.rd (IRQ_EN i.val) 0 = bytesAt l 0 4 % 2 ^ 32 &&& irqDefined i.val) ∧
  (∀ (n : Byte) (l : List Byte) (x : Pec) (s : State), s.dev ≠ .watch → s.on SYS.READY 0 = true → 4 ≤ n.toNat → n.toNat ≤ 32 → n.toNat % 4 = 0 → l.length = n.toNat → s.pecOk x = false → ∃ t, exec (.writeReg n l x) s = .next t ∧ t.on SMB.ERR 0 = true ∧ t.rd SMB.LAST_ERR 0 = stCRC ∧ t.rd SMB.LAST_CMD 0 = 0x12 ∧ t.rd SMB.PTR 0 = s.rd SMB.PTR 0 ∧ t.rd SMB.PEC_ERR_CNT 0 = min (s.rd SMB.PEC_ERR_CNT 0 + 1) (2 ^ 32 - 1) ∧ t.rd SMB.TXN_CNT 0 = min (s.rd SMB.TXN_CNT 0 + 1) (2 ^ 32 - 1)) ∧
  (∀ (n : Byte) (l : List Byte) (x : Pec) (s : State), s.dev ≠ .watch → s.on SYS.READY 0 = true → 4 ≤ n.toNat → n.toNat ≤ 32 → n.toNat % 4 = 0 → l.length ≠ n.toNat → ∃ t, exec (.writeReg n l x) s = .next t ∧ t = (s.bump SMB.TXN_CNT 0)) ∧
  (∀ (n : Byte) (l : List Byte) (x : Pec) (s : State), s.dev ≠ .watch → s.on SYS.READY 0 = true → n.toNat < 4 ∨ 32 < n.toNat ∨ n.toNat % 4 ≠ 0 → ∃ t, exec (.writeReg n l x) s = .next t ∧ t.on SMB.ERR 0 = true ∧ t.rd SMB.LAST_ERR 0 = stBAD_ARG ∧ t.rd SMB.LAST_CMD 0 = 0x12 ∧ t.rd SMB.PTR 0 = s.rd SMB.PTR 0 ∧ t.rd SMB.TXN_CNT 0 = min (s.rd SMB.TXN_CNT 0 + 1) (2 ^ 32 - 1)) ∧
  (∀ (n : Byte) (l : List Byte) (x : Pec) (s : State), s.dev ≠ .watch → s.on SYS.READY 0 = false → ∃ t, exec (.writeReg n l x) s = .next t ∧ t.on SMB.ERR 0 = true ∧ t.rd SMB.LAST_ERR 0 = stNOT_READY ∧ t.rd SMB.LAST_CMD 0 = 0x12 ∧ t.rd SMB.TXN_CNT 0 = min (s.rd SMB.TXN_CNT 0 + 1) (2 ^ 32 - 1)) ∧
  (∀ (n : Byte) (l : List Byte) (x : Pec) (s : State), s.dev = .watch → exec (.writeReg n l x) s = .next s) ∧
  (∀ (b : Byte) (x : Pec) (o : Nat) (l : List Port) (s : State), s.dev ≠ .watch → stopByte b.toNat = some o → coveredPorts b.toNat = some l → s.pecOk x = true → ∃ t, exec (.smbStop b x) s = .next t ∧ (∀ q, t.stopped q = (s.stopped q || decide (q ∈ l))) ∧ t.rd RING.OPCODE 0 = o ∧ t.rd RING.STATUS 0 = stOK ∧ t.rd RING.SOURCE 0 = 3 ∧ t.rd SMB.PEC_ERR_CNT 0 = s.rd SMB.PEC_ERR_CNT 0 ∧ t.rd SMB.TXN_CNT 0 = min (s.rd SMB.TXN_CNT 0 + 1) (2 ^ 32 - 1)) ∧
  (∀ (b : Byte) (x : Pec) (o : Nat) (l : List Port) (s : State), s.dev ≠ .watch → stopByte b.toNat = some o → coveredPorts b.toNat = some l → s.pecOk x = false → ∃ t, exec (.smbStop b x) s = .next t ∧ (∀ q, t.stopped q = (s.stopped q || decide (q ∈ l))) ∧ t.rd RING.OPCODE 0 = o ∧ t.rd RING.STATUS 0 = stOK ∧ t.on SMB.ERR 0 = true ∧ t.rd SMB.LAST_ERR 0 = stCRC ∧ t.rd SMB.LAST_CMD 0 = 0x7E ∧ t.rd SMB.PEC_ERR_CNT 0 = min (s.rd SMB.PEC_ERR_CNT 0 + 1) (2 ^ 32 - 1) ∧ t.rd SMB.TXN_CNT 0 = min (s.rd SMB.TXN_CNT 0 + 1) (2 ^ 32 - 1)) ∧
  (∀ (b : Byte) (x : Pec) (s : State), s.dev ≠ .watch → stopByte b.toNat = none → s.pecOk x = true → ∃ t, exec (.smbStop b x) s = .next t ∧ t.stop = s.stop ∧ t.on SMB.ERR 0 = true ∧ t.rd SMB.LAST_ERR 0 = stBAD_ARG ∧ t.rd SMB.LAST_CMD 0 = 0x7E ∧ t.rd SMB.TXN_CNT 0 = min (s.rd SMB.TXN_CNT 0 + 1) (2 ^ 32 - 1)) ∧
  (∀ (b : Byte) (x : Pec) (s : State), s.dev ≠ .watch → stopByte b.toNat = none → s.pecOk x = false → ∃ t, exec (.smbStop b x) s = .next t ∧ t.stop = s.stop ∧ t.on SMB.ERR 0 = true ∧ t.rd SMB.LAST_ERR 0 = stCRC ∧ t.rd SMB.LAST_CMD 0 = 0x7E ∧ t.rd SMB.PEC_ERR_CNT 0 = min (s.rd SMB.PEC_ERR_CNT 0 + 1) (2 ^ 32 - 1) ∧ t.rd SMB.TXN_CNT 0 = min (s.rd SMB.TXN_CNT 0 + 1) (2 ^ 32 - 1)) ∧
  (∀ (b : Byte) (x : Pec) (s : State), s.dev = .watch → exec (.smbStop b x) s = .next s) ∧
  (∀ (c : Byte) (s : State), s.dev ≠ .watch → c.toNat ∉ smbCommands → ∃ t, exec (.smbUnknownCommand c) s = .next t ∧ t.on SMB.ERR 0 = true ∧ t.rd SMB.LAST_ERR 0 = stBAD_ARG ∧ t.rd SMB.LAST_CMD 0 = c.toNat ∧ t.rd SMB.TXN_CNT 0 = min (s.rd SMB.TXN_CNT 0 + 1) (2 ^ 32 - 1)) ∧
  (∀ (c : Byte) (s : State), s.dev = .watch ∨ c.toNat ∈ smbCommands → exec (.smbUnknownCommand c) s = .next s) ∧
  (∀ (s : State), ∃ t, exec .smbProtocolError s = .next t ∧ t.rd SMB.SMB_PROTO_ERR 0 = min (s.rd SMB.SMB_PROTO_ERR 0 + 1) (2 ^ 32 - 1) ∧ t.rd SMB.PTR 0 = s.rd SMB.PTR 0 ∧ t.smb = s.smb) ∧
  (∀ (s : State), ∃ t, exec .smbSclTimeout s = .next t ∧ t.rd SMB.TIMEOUT_CNT 0 = min (s.rd SMB.TIMEOUT_CNT 0 + 1) (2 ^ 32 - 1) ∧ t.rd SMB.PTR 0 = s.rd SMB.PTR 0 ∧ t.smb = s.smb) ∧
  (∀ (n : Nat) (X : List Byte) (s : State), s.dev ≠ .watch → s.on SYS.READY 0 = true → X = smbBlock (State.smbWords (s.rd SMB.RD_WORDS 0) (s.rd SMB.PTR 0) [] (s.bump SMB.TXN_CNT 0)).2 → ∃ t, exec (.smbStretchLimit none n) s = .next t ∧ t.smb.tx = X.take (min n X.length) ++ List.replicate (X.length - n) 0 ++ [~~~ pecOf ([s.smbAddr false] ++ [0x11] ++ [s.smbAddr true] ++ (X.take (min n X.length) ++ List.replicate (X.length - n) 0))] ∧ t.on SMB.ERR 0 = true ∧ t.rd SMB.LAST_ERR 0 = stNOT_READY ∧ t.rd SMB.LAST_CMD 0 = 0x11) ∧
  (∀ (b : Byte) (n : Nat) (X : List Byte) (e : Byte) (s : State), s.dev ≠ .watch → s.on SYS.READY 0 = true → ((s.bump SMB.TXN_CNT 0).pullFrag (b.toNat % 64) (b.toNat / 64)).smb.tx = X ++ [e] → ∃ t, exec (.smbStretchLimit (some b) n) s = .next t ∧ t.smb.tx = X.take (min n X.length) ++ List.replicate (X.length - n) 0 ++ [~~~ pecOf ([s.smbAddr false] ++ [0x21, 1, b] ++ [s.smbAddr true] ++ (X.take (min n X.length) ++ List.replicate (X.length - n) 0))] ∧ t.on SMB.ERR 0 = true ∧ t.rd SMB.LAST_ERR 0 = stNOT_READY ∧ t.rd SMB.LAST_CMD 0 = 0x21) ∧
  (∀ (n : Nat) (s : State), s.dev ≠ .watch → s.on SYS.READY 0 = false → ∃ t, exec (.smbStretchLimit none n) s = .next t ∧ t.on SMB.ERR 0 = true ∧ t.rd SMB.LAST_ERR 0 = stNOT_READY ∧ t.rd SMB.LAST_CMD 0 = 0x11 ∧ t.rd SMB.TXN_CNT 0 = min (s.rd SMB.TXN_CNT 0 + 1) (2 ^ 32 - 1)) ∧
  (∀ (n : Nat) (b : Byte) (s : State), s.dev ≠ .watch → s.on SYS.READY 0 = false → s.romServes (b.toNat % 64) 4 = false → ∃ t, exec (.smbStretchLimit (some b) n) s = .next t ∧ t.on SMB.ERR 0 = true ∧ t.rd SMB.LAST_ERR 0 = stNOT_READY ∧ t.rd SMB.LAST_CMD 0 = 0x21 ∧ t.rd SMB.TXN_CNT 0 = min (s.rd SMB.TXN_CNT 0 + 1) (2 ^ 32 - 1)) ∧
  (∀ (b : Option Byte) (n : Nat) (s : State), s.dev = .watch → exec (.smbStretchLimit b n) s = .next s)

/-- PUSH_FRAG with READY, a count of 3 to FRAG_MAX + 2 and its PEC: FIRST with SEQ 0 opens an assembly in place of any other, the next SEQ of its ring is appended, the last fragment again is dropped as a duplicate, any other ends it as BAD_ARG; with LAST the packet is judged and PUSH_STAT shows its status, a refusal counted; a bad count is BAD_ARG, a bad PEC CRC. An assembly that times out or is cleared is dropped and counted. PULL_FRAG delivers on rings 4 to 39: with none under delivery, or one of another ring, each action delivers the tail from its first fragment and keeps it; NEXT goes on, and after the last fragment removes the record; AGAIN repeats and RESTART begins again; an empty ring gets the empty answer; another ring, the reserved action or count is BAD_ARG. Without READY both are NOT_READY; in WATCH nothing. A delivery that times out is forgotten. RECOVER is counted, a held SDA marks BUS_STUCK. HOST_NOTIFY with NOTIFY_EN and IRQ_N sends, or keeps trying and at the eighth failure gives up, counted; inside NOTIFY_MIN the cause is held back; otherwise nothing; NOTIFY_MIN's end sends a cause held back if IRQ_N still stands. A START in WATCH wakes the device, counted. (R406, R407, R408, R409, R411, R414, R415, R416, R417, R418, R399, R401) -/
def Obligations.SmbusFragmentsAndNotify : Prop :=
  (∀ (n : Byte) (l : List Byte) (x : Pec) (s : State), s.dev ≠ .watch → s.on SYS.READY 0 = true → l.length = n.toNat → 3 ≤ n.toNat → n.toNat ≤ s.rd SMB.FRAG_MAX 0 + 2 → s.pecOk x = true → (bytesAt l 0 1).testBit 7 = true → (bytesAt l 0 1).testBit 6 = false → bytesAt l 1 1 = 0 → ∃ t, exec (.pushFrag n l x) s = .next t ∧ t.smb.asm = some ⟨(bytesAt l 0 1) % 64, l.drop 2, 1, l⟩ ∧ t.on SMB.ASM_OPEN 0 = true ∧ t.rd SMB.FRAG_ABORT_CNT 0 = (if s.smb.asm = none then s.rd SMB.FRAG_ABORT_CNT 0 else min (s.rd SMB.FRAG_ABORT_CNT 0 + 1) (2 ^ 32 - 1))) ∧
  (∀ (n : Byte) (l : List Byte) (x : Pec) (st : Nat) (s : State), s.dev ≠ .watch → s.on SYS.READY 0 = true → l.length = n.toNat → 3 ≤ n.toNat → n.toNat ≤ s.rd SMB.FRAG_MAX 0 + 2 → s.pecOk x = true → (bytesAt l 0 1).testBit 7 = true → (bytesAt l 0 1).testBit 6 = true → bytesAt l 1 1 = 0 → (((s.bump SMB.TXN_CNT 0).dropAsm.setAsm none).judgePush ((bytesAt l 0 1) % 64) (l.drop 2) true false).2 = st → ∃ t, exec (.pushFrag n l x) s = .next t ∧ t.smb.asm = none ∧ t.rd SMB.STATUS 0 = st % 2 ^ SMB.STATUS.width ∧ t.rd SMB.PUSH_STAT_RING 0 = (bytesAt l 0 1) % 64 ∧ t.rd SMB.PUSH_REFUSED_CNT 0 = (if st = stOK then s.rd SMB.PUSH_REFUSED_CNT 0 else min (s.rd SMB.PUSH_REFUSED_CNT 0 + 1) (2 ^ 32 - 1))) ∧
  (∀ (n : Byte) (l : List Byte) (x : Pec) (s : State), s.dev ≠ .watch → s.on SYS.READY 0 = true → l.length = n.toNat → 3 ≤ n.toNat → n.toNat ≤ s.rd SMB.FRAG_MAX 0 + 2 → s.pecOk x = true → (bytesAt l 0 1).testBit 7 = true → bytesAt l 1 1 ≠ 0 → ∃ t, exec (.pushFrag n l x) s = .next t ∧ t.smb.asm = none ∧ t.on SMB.ERR 0 = true ∧ t.rd SMB.LAST_ERR 0 = stBAD_ARG ∧ t.rd SMB.LAST_CMD 0 = 0x20 ∧ t.rd SMB.FRAG_ABORT_CNT 0 = min (s.rd SMB.FRAG_ABORT_CNT 0 + 1) (2 ^ 32 - 1)) ∧
  (∀ (n : Byte) (l : List Byte) (x : Pec) (a : SmbAsm) (s : State), s.dev ≠ .watch → s.on SYS.READY 0 = true → l.length = n.toNat → 3 ≤ n.toNat → n.toNat ≤ s.rd SMB.FRAG_MAX 0 + 2 → s.pecOk x = true → (bytesAt l 0 1).testBit 7 = false → (bytesAt l 0 1).testBit 6 = false → s.smb.asm = some a → a.ring = (bytesAt l 0 1) % 64 → a.next = bytesAt l 1 1 → a.bytes.length + (l.drop 2).length ≤ asmBytes → l ≠ a.last → ∃ t, exec (.pushFrag n l x) s = .next t ∧ t.smb.asm = some ⟨a.ring, a.bytes ++ l.drop 2, (bytesAt l 1 1 + 1) % 256, l⟩ ∧ t.on SMB.ASM_OPEN 0 = true) ∧
  (∀ (n : Byte) (l : List Byte) (x : Pec) (a : SmbAsm) (st : Nat) (s : State), s.dev ≠ .watch → s.on SYS.READY 0 = true → l.length = n.toNat → 3 ≤ n.toNat → n.toNat ≤ s.rd SMB.FRAG_MAX 0 + 2 → s.pecOk x = true → (bytesAt l 0 1).testBit 7 = false → (bytesAt l 0 1).testBit 6 = true → s.smb.asm = some a → a.ring = (bytesAt l 0 1) % 64 → a.next = bytesAt l 1 1 → a.bytes.length + (l.drop 2).length ≤ asmBytes → l ≠ a.last → (((s.bump SMB.TXN_CNT 0).setAsm none).judgePush ((bytesAt l 0 1) % 64) (a.bytes ++ l.drop 2) true false).2 = st → ∃ t, exec (.pushFrag n l x) s = .next t ∧ t.smb.asm = none ∧ t.rd SMB.STATUS 0 = st % 2 ^ SMB.STATUS.width ∧ t.rd SMB.PUSH_STAT_RING 0 = (bytesAt l 0 1) % 64 ∧ t.rd SMB.PUSH_REFUSED_CNT 0 = (if st = stOK then s.rd SMB.PUSH_REFUSED_CNT 0 else min (s.rd SMB.PUSH_REFUSED_CNT 0 + 1) (2 ^ 32 - 1))) ∧
  (∀ (n : Byte) (l : List Byte) (x : Pec) (a : SmbAsm) (s : State), s.dev ≠ .watch → s.on SYS.READY 0 = true → l.length = n.toNat → 3 ≤ n.toNat → n.toNat ≤ s.rd SMB.FRAG_MAX 0 + 2 → s.pecOk x = true → (bytesAt l 0 1).testBit 7 = false → s.smb.asm = some a → l = a.last → ∃ t, exec (.pushFrag n l x) s = .next t ∧ t.smb = s.smb ∧ t.rd SMB.DUP_FRAG_CNT 0 = min (s.rd SMB.DUP_FRAG_CNT 0 + 1) (2 ^ 32 - 1)) ∧
  (∀ (n : Byte) (l : List Byte) (x : Pec) (a : SmbAsm) (s : State), s.dev ≠ .watch → s.on SYS.READY 0 = true → l.length = n.toNat → 3 ≤ n.toNat → n.toNat ≤ s.rd SMB.FRAG_MAX 0 + 2 → s.pecOk x = true → (bytesAt l 0 1).testBit 7 = false → s.smb.asm = some a → l ≠ a.last → a.ring ≠ (bytesAt l 0 1) % 64 ∨ a.next ≠ bytesAt l 1 1 ∨ asmBytes < a.bytes.length + (l.drop 2).length → ∃ t, exec (.pushFrag n l x) s = .next t ∧ t.smb.asm = none ∧ t.on SMB.ERR 0 = true ∧ t.rd SMB.LAST_ERR 0 = stBAD_ARG ∧ t.rd SMB.LAST_CMD 0 = 0x20 ∧ t.rd SMB.FRAG_ABORT_CNT 0 = min (s.rd SMB.FRAG_ABORT_CNT 0 + 1) (2 ^ 32 - 1)) ∧
  (∀ (n : Byte) (l : List Byte) (x : Pec) (s : State), s.dev ≠ .watch → s.on SYS.READY 0 = true → l.length = n.toNat → 3 ≤ n.toNat → n.toNat ≤ s.rd SMB.FRAG_MAX 0 + 2 → s.pecOk x = true → (bytesAt l 0 1).testBit 7 = false → s.smb.asm = none → ∃ t, exec (.pushFrag n l x) s = .next t ∧ t.smb.asm = none ∧ t.on SMB.ERR 0 = true ∧ t.rd SMB.LAST_ERR 0 = stBAD_ARG ∧ t.rd SMB.LAST_CMD 0 = 0x20 ∧ t.rd SMB.FRAG_ABORT_CNT 0 = min (s.rd SMB.FRAG_ABORT_CNT 0 + 1) (2 ^ 32 - 1)) ∧
  (∀ (n : Byte) (l : List Byte) (x : Pec) (s : State), s.dev ≠ .watch → s.on SYS.READY 0 = true → n.toNat < 3 ∨ s.rd SMB.FRAG_MAX 0 + 2 < n.toNat → ∃ t, exec (.pushFrag n l x) s = .next t ∧ t.on SMB.ERR 0 = true ∧ t.rd SMB.LAST_ERR 0 = stBAD_ARG ∧ t.rd SMB.LAST_CMD 0 = 0x20 ∧ t.smb = s.smb ∧ t.rd SMB.TXN_CNT 0 = min (s.rd SMB.TXN_CNT 0 + 1) (2 ^ 32 - 1)) ∧
  (∀ (n : Byte) (l : List Byte) (x : Pec) (s : State), s.dev ≠ .watch → s.on SYS.READY 0 = true → 3 ≤ n.toNat → n.toNat ≤ s.rd SMB.FRAG_MAX 0 + 2 → l.length ≠ n.toNat → ∃ t, exec (.pushFrag n l x) s = .next t ∧ t = (s.bump SMB.TXN_CNT 0)) ∧
  (∀ (n : Byte) (l : List Byte) (x : Pec) (s : State), s.dev ≠ .watch → s.on SYS.READY 0 = true → l.length = n.toNat → 3 ≤ n.toNat → n.toNat ≤ s.rd SMB.FRAG_MAX 0 + 2 → s.pecOk x = false → ∃ t, exec (.pushFrag n l x) s = .next t ∧ t.on SMB.ERR 0 = true ∧ t.rd SMB.LAST_ERR 0 = stCRC ∧ t.rd SMB.LAST_CMD 0 = 0x20 ∧ t.smb = s.smb ∧ t.rd SMB.PEC_ERR_CNT 0 = min (s.rd SMB.PEC_ERR_CNT 0 + 1) (2 ^ 32 - 1) ∧ t.rd SMB.TXN_CNT 0 = min (s.rd SMB.TXN_CNT 0 + 1) (2 ^ 32 - 1)) ∧
  (∀ (n : Byte) (l : List Byte) (x : Pec) (s : State), s.dev ≠ .watch → s.on SYS.READY 0 = false → s.romServes ((bytesAt l 0 1) % 64) 2 = false → ∃ t, exec (.pushFrag n l x) s = .next t ∧ t.on SMB.ERR 0 = true ∧ t.rd SMB.LAST_ERR 0 = stNOT_READY ∧ t.rd SMB.LAST_CMD 0 = 0x20 ∧ t.rd SMB.TXN_CNT 0 = min (s.rd SMB.TXN_CNT 0 + 1) (2 ^ 32 - 1)) ∧
  (∀ (n : Byte) (l : List Byte) (x : Pec) (s : State), s.dev = .watch → exec (.pushFrag n l x) s = .next s) ∧
  (∀ (a : SmbAsm) (s : State), s.smb.asm = some a → ∃ t, exec (.fragAssemblyTimeout) s = .next t ∧ t.smb.asm = none ∧ t.on SMB.ASM_OPEN 0 = false ∧ t.rd SMB.FRAG_ABORT_CNT 0 = min (s.rd SMB.FRAG_ABORT_CNT 0 + 1) (2 ^ 32 - 1)) ∧
  (∀ (s : State), s.smb.asm = none → exec .fragAssemblyTimeout s = .next s) ∧
  (∀ (a : SmbAsm) (s : State), s.on SYS.READY 0 = true → s.smb.asm = some a → ∃ t, exec (.clearAsm) s = .next t ∧ t.smb.asm = none ∧ t.on SMB.ASM_OPEN 0 = false ∧ t.rd SMB.FRAG_ABORT_CNT 0 = min (s.rd SMB.FRAG_ABORT_CNT 0 + 1) (2 ^ 32 - 1)) ∧
  (∀ (s : State), s.on SYS.READY 0 = false ∨ s.smb.asm = none → exec .clearAsm s = .next s) ∧
  (∀ (q : Fin 40) (r : BitVec 6) (s : State), s.dev ≠ .watch → s.on SYS.READY 0 = true → q.val = r.toNat → 4 ≤ q.val → (s.tailBytes q) ≠ [] → s.smb.del = none → ∃ t, exec (.pullFragNext 1 r false) s = .next t ∧ t.smb.del = some ⟨q.val, 0, (min (s.rd SMB.FRAG_MAX 0) (s.tailBytes q).length), 0⟩ ∧ (t.ring q).entries = (s.ring q).entries ∧ t.smb.tx = smbBlock (leBytes 1 (q.val % 64 + (if 0 = 0 then 128 else 0) + (if (s.tailBytes q).length ≤ 0 + (min (s.rd SMB.FRAG_MAX 0) (s.tailBytes q).length) then 64 else 0)) ++ leBytes 1 (0) ++ ((s.tailBytes q).drop (0)).take ((min (s.rd SMB.FRAG_MAX 0) (s.tailBytes q).length))) ++ [pecOf ([s.smbAddr false] ++ [0x21, 1, actionByte q.val 0] ++ [s.smbAddr true] ++ smbBlock (leBytes 1 (q.val % 64 + (if 0 = 0 then 128 else 0) + (if (s.tailBytes q).length ≤ 0 + (min (s.rd SMB.FRAG_MAX 0) (s.tailBytes q).length) then 64 else 0)) ++ leBytes 1 (0) ++ ((s.tailBytes q).drop (0)).take ((min (s.rd SMB.FRAG_MAX 0) (s.tailBytes q).length))))]) ∧
  (∀ (q : Fin 40) (r : BitVec 6) (d : SmbDel) (s : State), s.dev ≠ .watch → s.on SYS.READY 0 = true → q.val = r.toNat → 4 ≤ q.val → (s.tailBytes q) ≠ [] → s.smb.del = some d → d.ring ≠ q.val → ∃ t, exec (.pullFragNext 1 r false) s = .next t ∧ t.smb.del = some ⟨q.val, 0, (min (s.rd SMB.FRAG_MAX 0) (s.tailBytes q).length), 0⟩ ∧ (t.ring q).entries = (s.ring q).entries ∧ t.smb.tx = smbBlock (leBytes 1 (q.val % 64 + (if 0 = 0 then 128 else 0) + (if (s.tailBytes q).length ≤ 0 + (min (s.rd SMB.FRAG_MAX 0) (s.tailBytes q).length) then 64 else 0)) ++ leBytes 1 (0) ++ ((s.tailBytes q).drop (0)).take ((min (s.rd SMB.FRAG_MAX 0) (s.tailBytes q).length))) ++ [pecOf ([s.smbAddr false] ++ [0x21, 1, actionByte q.val 0] ++ [s.smbAddr true] ++ smbBlock (leBytes 1 (q.val % 64 + (if 0 = 0 then 128 else 0) + (if (s.tailBytes q).length ≤ 0 + (min (s.rd SMB.FRAG_MAX 0) (s.tailBytes q).length) then 64 else 0)) ++ leBytes 1 (0) ++ ((s.tailBytes q).drop (0)).take ((min (s.rd SMB.FRAG_MAX 0) (s.tailBytes q).length))))]) ∧
  (∀ (q : Fin 40) (r : BitVec 6) (s : State), s.dev ≠ .watch → s.on SYS.READY 0 = true → q.val = r.toNat → 4 ≤ q.val → (s.tailBytes q) = [] → s.smb.del = none → ∃ t, exec (.pullFragNext 1 r false) s = .next t ∧ t.smb.del = none ∧ (t.ring q).entries = (s.ring q).entries ∧ t.smb.tx = [2, BitVec.ofNat 8 (q.val % 64), 0] ++ [pecOf ([s.smbAddr false] ++ [0x21, 1, actionByte q.val 0] ++ [s.smbAddr true] ++ [2, BitVec.ofNat 8 (q.val % 64), 0])]) ∧
  (∀ (q : Fin 40) (r : BitVec 6) (s : State), s.dev ≠ .watch → s.on SYS.READY 0 = true → q.val = r.toNat → 4 ≤ q.val → (s.tailBytes q) ≠ [] → s.smb.del = none → ∃ t, exec (.pullFragAgain 1 r) s = .next t ∧ t.smb.del = some ⟨q.val, 0, (min (s.rd SMB.FRAG_MAX 0) (s.tailBytes q).length), 0⟩ ∧ (t.ring q).entries = (s.ring q).entries ∧ t.smb.tx = smbBlock (leBytes 1 (q.val % 64 + (if 0 = 0 then 128 else 0) + (if (s.tailBytes q).length ≤ 0 + (min (s.rd SMB.FRAG_MAX 0) (s.tailBytes q).length) then 64 else 0)) ++ leBytes 1 (0) ++ ((s.tailBytes q).drop (0)).take ((min (s.rd SMB.FRAG_MAX 0) (s.tailBytes q).length))) ++ [pecOf ([s.smbAddr false] ++ [0x21, 1, actionByte q.val 1] ++ [s.smbAddr true] ++ smbBlock (leBytes 1 (q.val % 64 + (if 0 = 0 then 128 else 0) + (if (s.tailBytes q).length ≤ 0 + (min (s.rd SMB.FRAG_MAX 0) (s.tailBytes q).length) then 64 else 0)) ++ leBytes 1 (0) ++ ((s.tailBytes q).drop (0)).take ((min (s.rd SMB.FRAG_MAX 0) (s.tailBytes q).length))))]) ∧
  (∀ (q : Fin 40) (r : BitVec 6) (d : SmbDel) (s : State), s.dev ≠ .watch → s.on SYS.READY 0 = true → q.val = r.toNat → 4 ≤ q.val → (s.tailBytes q) ≠ [] → s.smb.del = some d → d.ring ≠ q.val → ∃ t, exec (.pullFragAgain 1 r) s = .next t ∧ t.smb.del = some ⟨q.val, 0, (min (s.rd SMB.FRAG_MAX 0) (s.tailBytes q).length), 0⟩ ∧ (t.ring q).entries = (s.ring q).entries ∧ t.smb.tx = smbBlock (leBytes 1 (q.val % 64 + (if 0 = 0 then 128 else 0) + (if (s.tailBytes q).length ≤ 0 + (min (s.rd SMB.FRAG_MAX 0) (s.tailBytes q).length) then 64 else 0)) ++ leBytes 1 (0) ++ ((s.tailBytes q).drop (0)).take ((min (s.rd SMB.FRAG_MAX 0) (s.tailBytes q).length))) ++ [pecOf ([s.smbAddr false] ++ [0x21, 1, actionByte q.val 1] ++ [s.smbAddr true] ++ smbBlock (leBytes 1 (q.val % 64 + (if 0 = 0 then 128 else 0) + (if (s.tailBytes q).length ≤ 0 + (min (s.rd SMB.FRAG_MAX 0) (s.tailBytes q).length) then 64 else 0)) ++ leBytes 1 (0) ++ ((s.tailBytes q).drop (0)).take ((min (s.rd SMB.FRAG_MAX 0) (s.tailBytes q).length))))]) ∧
  (∀ (q : Fin 40) (r : BitVec 6) (s : State), s.dev ≠ .watch → s.on SYS.READY 0 = true → q.val = r.toNat → 4 ≤ q.val → (s.tailBytes q) = [] → s.smb.del = none → ∃ t, exec (.pullFragAgain 1 r) s = .next t ∧ t.smb.del = none ∧ (t.ring q).entries = (s.ring q).entries ∧ t.smb.tx = [2, BitVec.ofNat 8 (q.val % 64), 0] ++ [pecOf ([s.smbAddr false] ++ [0x21, 1, actionByte q.val 1] ++ [s.smbAddr true] ++ [2, BitVec.ofNat 8 (q.val % 64), 0])]) ∧
  (∀ (q : Fin 40) (r : BitVec 6) (s : State), s.dev ≠ .watch → s.on SYS.READY 0 = true → q.val = r.toNat → 4 ≤ q.val → (s.tailBytes q) ≠ [] → s.smb.del = none → ∃ t, exec (.pullFragRestart 1 r) s = .next t ∧ t.smb.del = some ⟨q.val, 0, (min (s.rd SMB.FRAG_MAX 0) (s.tailBytes q).length), 0⟩ ∧ (t.ring q).entries = (s.ring q).entries ∧ t.smb.tx = smbBlock (leBytes 1 (q.val % 64 + (if 0 = 0 then 128 else 0) + (if (s.tailBytes q).length ≤ 0 + (min (s.rd SMB.FRAG_MAX 0) (s.tailBytes q).length) then 64 else 0)) ++ leBytes 1 (0) ++ ((s.tailBytes q).drop (0)).take ((min (s.rd SMB.FRAG_MAX 0) (s.tailBytes q).length))) ++ [pecOf ([s.smbAddr false] ++ [0x21, 1, actionByte q.val 2] ++ [s.smbAddr true] ++ smbBlock (leBytes 1 (q.val % 64 + (if 0 = 0 then 128 else 0) + (if (s.tailBytes q).length ≤ 0 + (min (s.rd SMB.FRAG_MAX 0) (s.tailBytes q).length) then 64 else 0)) ++ leBytes 1 (0) ++ ((s.tailBytes q).drop (0)).take ((min (s.rd SMB.FRAG_MAX 0) (s.tailBytes q).length))))]) ∧
  (∀ (q : Fin 40) (r : BitVec 6) (d : SmbDel) (s : State), s.dev ≠ .watch → s.on SYS.READY 0 = true → q.val = r.toNat → 4 ≤ q.val → (s.tailBytes q) ≠ [] → s.smb.del = some d → d.ring ≠ q.val → ∃ t, exec (.pullFragRestart 1 r) s = .next t ∧ t.smb.del = some ⟨q.val, 0, (min (s.rd SMB.FRAG_MAX 0) (s.tailBytes q).length), 0⟩ ∧ (t.ring q).entries = (s.ring q).entries ∧ t.smb.tx = smbBlock (leBytes 1 (q.val % 64 + (if 0 = 0 then 128 else 0) + (if (s.tailBytes q).length ≤ 0 + (min (s.rd SMB.FRAG_MAX 0) (s.tailBytes q).length) then 64 else 0)) ++ leBytes 1 (0) ++ ((s.tailBytes q).drop (0)).take ((min (s.rd SMB.FRAG_MAX 0) (s.tailBytes q).length))) ++ [pecOf ([s.smbAddr false] ++ [0x21, 1, actionByte q.val 2] ++ [s.smbAddr true] ++ smbBlock (leBytes 1 (q.val % 64 + (if 0 = 0 then 128 else 0) + (if (s.tailBytes q).length ≤ 0 + (min (s.rd SMB.FRAG_MAX 0) (s.tailBytes q).length) then 64 else 0)) ++ leBytes 1 (0) ++ ((s.tailBytes q).drop (0)).take ((min (s.rd SMB.FRAG_MAX 0) (s.tailBytes q).length))))]) ∧
  (∀ (q : Fin 40) (r : BitVec 6) (s : State), s.dev ≠ .watch → s.on SYS.READY 0 = true → q.val = r.toNat → 4 ≤ q.val → (s.tailBytes q) = [] → s.smb.del = none → ∃ t, exec (.pullFragRestart 1 r) s = .next t ∧ t.smb.del = none ∧ (t.ring q).entries = (s.ring q).entries ∧ t.smb.tx = [2, BitVec.ofNat 8 (q.val % 64), 0] ++ [pecOf ([s.smbAddr false] ++ [0x21, 1, actionByte q.val 2] ++ [s.smbAddr true] ++ [2, BitVec.ofNat 8 (q.val % 64), 0])]) ∧
  (∀ (q : Fin 40) (r : BitVec 6) (d : SmbDel) (s : State), s.dev ≠ .watch → s.on SYS.READY 0 = true → q.val = r.toNat → 4 ≤ q.val → s.smb.del = some d → d.ring = q.val → d.off + d.len < (s.tailBytes q).length → ∃ t, exec (.pullFragNext 1 r false) s = .next t ∧ t.smb.del = some ⟨q.val, d.off + d.len, (min (s.rd SMB.FRAG_MAX 0) ((s.tailBytes q).length - d.off - d.len)), (d.seq + 1) % 256⟩ ∧ (t.ring q).entries = (s.ring q).entries ∧ t.smb.tx = smbBlock (leBytes 1 (q.val % 64 + (if (d.off + d.len) = 0 then 128 else 0) + (if (s.tailBytes q).length ≤ (d.off + d.len) + (min (s.rd SMB.FRAG_MAX 0) ((s.tailBytes q).length - d.off - d.len)) then 64 else 0)) ++ leBytes 1 ((d.seq + 1) % 256) ++ ((s.tailBytes q).drop ((d.off + d.len))).take ((min (s.rd SMB.FRAG_MAX 0) ((s.tailBytes q).length - d.off - d.len)))) ++ [pecOf ([s.smbAddr false] ++ [0x21, 1, actionByte q.val 0] ++ [s.smbAddr true] ++ smbBlock (leBytes 1 (q.val % 64 + (if (d.off + d.len) = 0 then 128 else 0) + (if (s.tailBytes q).length ≤ (d.off + d.len) + (min (s.rd SMB.FRAG_MAX 0) ((s.tailBytes q).length - d.off - d.len)) then 64 else 0)) ++ leBytes 1 ((d.seq + 1) % 256) ++ ((s.tailBytes q).drop ((d.off + d.len))).take ((min (s.rd SMB.FRAG_MAX 0) ((s.tailBytes q).length - d.off - d.len)))))]) ∧
  (∀ (q : Fin 40) (r : BitVec 6) (d : SmbDel) (s : State), s.dev ≠ .watch → s.on SYS.READY 0 = true → q.val = r.toNat → 4 ≤ q.val → s.smb.del = some d → d.ring = q.val → (s.tailBytes q).length ≤ d.off + d.len → ∃ t, exec (.pullFragNext 1 r false) s = .next t ∧ (t.ring q).entries = (s.removeTail q |>.ring q).entries ∧ (t.smb.del = none ∨ t.smb.del = some ⟨q.val, 0, min (s.rd SMB.FRAG_MAX 0) ((s.removeTail q).tailBytes q).length, 0⟩)) ∧
  (∀ (q : Fin 40) (r : BitVec 6) (d : SmbDel) (s : State), s.dev ≠ .watch → s.on SYS.READY 0 = true → q.val = r.toNat → 4 ≤ q.val → s.smb.del = some d → d.ring = q.val → ∃ t, exec (.pullFragAgain 1 r) s = .next t ∧ t.smb.del = some d ∧ (t.ring q).entries = (s.ring q).entries ∧ t.smb.tx = smbBlock (leBytes 1 (q.val % 64 + (if d.off = 0 then 128 else 0) + (if (s.tailBytes q).length ≤ d.off + d.len then 64 else 0)) ++ leBytes 1 (d.seq) ++ ((s.tailBytes q).drop (d.off)).take (d.len)) ++ [pecOf ([s.smbAddr false] ++ [0x21, 1, actionByte q.val 1] ++ [s.smbAddr true] ++ smbBlock (leBytes 1 (q.val % 64 + (if d.off = 0 then 128 else 0) + (if (s.tailBytes q).length ≤ d.off + d.len then 64 else 0)) ++ leBytes 1 (d.seq) ++ ((s.tailBytes q).drop (d.off)).take (d.len)))]) ∧
  (∀ (q : Fin 40) (r : BitVec 6) (d : SmbDel) (s : State), s.dev ≠ .watch → s.on SYS.READY 0 = true → q.val = r.toNat → 4 ≤ q.val → s.smb.del = some d → d.ring = q.val → (s.tailBytes q) ≠ [] → ∃ t, exec (.pullFragRestart 1 r) s = .next t ∧ t.smb.del = some ⟨q.val, 0, (min (s.rd SMB.FRAG_MAX 0) (s.tailBytes q).length), 0⟩ ∧ (t.ring q).entries = (s.ring q).entries ∧ t.smb.tx = smbBlock (leBytes 1 (q.val % 64 + (if 0 = 0 then 128 else 0) + (if (s.tailBytes q).length ≤ 0 + (min (s.rd SMB.FRAG_MAX 0) (s.tailBytes q).length) then 64 else 0)) ++ leBytes 1 (0) ++ ((s.tailBytes q).drop (0)).take ((min (s.rd SMB.FRAG_MAX 0) (s.tailBytes q).length))) ++ [pecOf ([s.smbAddr false] ++ [0x21, 1, actionByte q.val 2] ++ [s.smbAddr true] ++ smbBlock (leBytes 1 (q.val % 64 + (if 0 = 0 then 128 else 0) + (if (s.tailBytes q).length ≤ 0 + (min (s.rd SMB.FRAG_MAX 0) (s.tailBytes q).length) then 64 else 0)) ++ leBytes 1 (0) ++ ((s.tailBytes q).drop (0)).take ((min (s.rd SMB.FRAG_MAX 0) (s.tailBytes q).length))))]) ∧
  (∀ (q : Fin 40) (r : BitVec 6) (x : Bool) (s : State), s.dev ≠ .watch → s.on SYS.READY 0 = true → q.val = r.toNat → q.val < 4 ∨ x = true → ∃ t, exec (.pullFragNext 1 r x) s = .next t ∧ t.on SMB.ERR 0 = true ∧ t.rd SMB.LAST_ERR 0 = stBAD_ARG ∧ t.rd SMB.LAST_CMD 0 = 0x21 ∧ t.smb.del = s.smb.del ∧ (t.ring q).entries = (s.ring q).entries) ∧
  (∀ (q : Fin 40) (r : BitVec 6) (s : State), s.dev ≠ .watch → s.on SYS.READY 0 = true → q.val = r.toNat → q.val < 4 → ∃ t, exec (.pullFragAgain 1 r) s = .next t ∧ t.on SMB.ERR 0 = true ∧ t.rd SMB.LAST_ERR 0 = stBAD_ARG ∧ t.rd SMB.LAST_CMD 0 = 0x21 ∧ t.smb.del = s.smb.del ∧ (t.ring q).entries = (s.ring q).entries) ∧
  (∀ (r : BitVec 6) (s : State), s.dev ≠ .watch → s.on SYS.READY 0 = true → r.toNat < 4 ∨ 39 < r.toNat → ∃ t, exec (.pullFragRestart 1 r) s = .next t ∧ t.on SMB.ERR 0 = true ∧ t.rd SMB.LAST_ERR 0 = stBAD_ARG ∧ t.rd SMB.LAST_CMD 0 = 0x21 ∧ t.smb.del = s.smb.del) ∧
  (∀ (n : Byte) (r : BitVec 6) (x : Bool) (s : State), s.dev ≠ .watch → s.on SYS.READY 0 = true → n.toNat ≠ 1 → ∃ t, exec (.pullFragNext n r x) s = .next t ∧ t.on SMB.ERR 0 = true ∧ t.rd SMB.LAST_ERR 0 = stBAD_ARG ∧ t.rd SMB.LAST_CMD 0 = 0x21 ∧ t.smb.del = s.smb.del ∧ t.rd SMB.TXN_CNT 0 = min (s.rd SMB.TXN_CNT 0 + 1) (2 ^ 32 - 1)) ∧
  (∀ (n : Byte) (r : BitVec 6) (x : Bool) (s : State), s.dev ≠ .watch → s.on SYS.READY 0 = false → s.romServes r.toNat 4 = false → ∃ t, exec (.pullFragNext n r x) s = .next t ∧ t.on SMB.ERR 0 = true ∧ t.rd SMB.LAST_ERR 0 = stNOT_READY ∧ t.rd SMB.LAST_CMD 0 = 0x21 ∧ t.rd SMB.TXN_CNT 0 = min (s.rd SMB.TXN_CNT 0 + 1) (2 ^ 32 - 1)) ∧
  (∀ (n : Byte) (r : BitVec 6) (x : Bool) (s : State), s.dev = .watch → exec (.pullFragNext n r x) s = .next s) ∧
  (∀ (n : Byte) (r : BitVec 6) (s : State), s.dev ≠ .watch → s.on SYS.READY 0 = true → n.toNat ≠ 1 → ∃ t, exec (.pullFragAgain n r) s = .next t ∧ t.on SMB.ERR 0 = true ∧ t.rd SMB.LAST_ERR 0 = stBAD_ARG ∧ t.rd SMB.LAST_CMD 0 = 0x21 ∧ t.smb.del = s.smb.del ∧ t.rd SMB.TXN_CNT 0 = min (s.rd SMB.TXN_CNT 0 + 1) (2 ^ 32 - 1)) ∧
  (∀ (n : Byte) (r : BitVec 6) (s : State), s.dev ≠ .watch → s.on SYS.READY 0 = false → s.romServes r.toNat 4 = false → ∃ t, exec (.pullFragAgain n r) s = .next t ∧ t.on SMB.ERR 0 = true ∧ t.rd SMB.LAST_ERR 0 = stNOT_READY ∧ t.rd SMB.LAST_CMD 0 = 0x21 ∧ t.rd SMB.TXN_CNT 0 = min (s.rd SMB.TXN_CNT 0 + 1) (2 ^ 32 - 1)) ∧
  (∀ (n : Byte) (r : BitVec 6) (s : State), s.dev = .watch → exec (.pullFragAgain n r) s = .next s) ∧
  (∀ (n : Byte) (r : BitVec 6) (s : State), s.dev ≠ .watch → s.on SYS.READY 0 = true → n.toNat ≠ 1 → ∃ t, exec (.pullFragRestart n r) s = .next t ∧ t.on SMB.ERR 0 = true ∧ t.rd SMB.LAST_ERR 0 = stBAD_ARG ∧ t.rd SMB.LAST_CMD 0 = 0x21 ∧ t.smb.del = s.smb.del ∧ t.rd SMB.TXN_CNT 0 = min (s.rd SMB.TXN_CNT 0 + 1) (2 ^ 32 - 1)) ∧
  (∀ (n : Byte) (r : BitVec 6) (s : State), s.dev ≠ .watch → s.on SYS.READY 0 = false → s.romServes r.toNat 4 = false → ∃ t, exec (.pullFragRestart n r) s = .next t ∧ t.on SMB.ERR 0 = true ∧ t.rd SMB.LAST_ERR 0 = stNOT_READY ∧ t.rd SMB.LAST_CMD 0 = 0x21 ∧ t.rd SMB.TXN_CNT 0 = min (s.rd SMB.TXN_CNT 0 + 1) (2 ^ 32 - 1)) ∧
  (∀ (n : Byte) (r : BitVec 6) (s : State), s.dev = .watch → exec (.pullFragRestart n r) s = .next s) ∧
  (∀ (d : SmbDel) (s : State), s.smb.del = some d → ∃ t, exec (.fragDeliveryTimeout) s = .next t ∧ t.smb.del = none ∧ (∀ q, (t.ring q).entries = (s.ring q).entries)) ∧
  (∀ (s : State), s.smb.del = none → exec .fragDeliveryTimeout s = .next s) ∧
  (∀ (f : Bool) (s : State), ∃ t, exec (.recover f) s = .next t ∧ t.smb.recover = false ∧ t.on SMB.BUS_STUCK 0 = (!f || s.on SMB.BUS_STUCK 0) ∧ t.rd SMB.RECOVERY_CNT 0 = min (s.rd SMB.RECOVERY_CNT 0 + 1) (2 ^ 32 - 1)) ∧
  (∀ (s : State), s.on SMB.NOTIFY_EN 0 = true → s.irqN = true → s.smb.notifying = false → s.smb.quiet = false → ∃ t, exec (.hostNotify .sent) s = .next t ∧ t.rd SMB.RESULT 0 = 1 ∧ t.smb.quiet = true ∧ t.smb.notifying = false ∧ t.rd SMB.NOTIFY_CNT 0 = min (s.rd SMB.NOTIFY_CNT 0 + 1) (2 ^ 32 - 1) ∧ t.rd SMB.ATTEMPTS 0 = 1) ∧
  (∀ (r : NotifyTry) (s : State), s.on SMB.NOTIFY_EN 0 = true → s.irqN = true → s.smb.notifying = false → s.smb.quiet = false → r ≠ .sent → ∃ t, exec (.hostNotify r) s = .next t ∧ t.smb.notifying = true ∧ t.rd SMB.ATTEMPTS 0 = 1 ∧ t.rd SMB.ARB_LOST 0 = (if r = .lost then min (s.rd SMB.ARB_LOST 0 + 1) (2 ^ 32 - 1) else s.rd SMB.ARB_LOST 0)) ∧
  (∀ (r : NotifyTry) (s : State), s.on SMB.NOTIFY_EN 0 = true → s.irqN = true → s.smb.notifying = false → s.smb.quiet = true → ∃ t, exec (.hostNotify r) s = .next t ∧ t = { s with smb := { s.smb with heldBack := true } }) ∧
  (∀ (r : NotifyTry) (s : State), s.on SMB.NOTIFY_EN 0 = false ∨ s.irqN = false ∨ s.smb.notifying = true → exec (.hostNotify r) s = .next s) ∧
  (∀ (s : State), s.smb.notifying = true → ∃ t, exec (.notifyRetry .sent) s = .next t ∧ t.rd SMB.RESULT 0 = 1 ∧ t.smb.quiet = true ∧ t.smb.notifying = false ∧ t.rd SMB.NOTIFY_CNT 0 = min (s.rd SMB.NOTIFY_CNT 0 + 1) (2 ^ 32 - 1) ∧ t.rd SMB.ATTEMPTS 0 = (s.rd SMB.ATTEMPTS 0 + 1) % 2 ^ SMB.ATTEMPTS.width) ∧
  (∀ (r : NotifyTry) (s : State), s.smb.notifying = true → r ≠ .sent → s.rd SMB.ATTEMPTS 0 + 1 < 8 → ∃ t, exec (.notifyRetry r) s = .next t ∧ t.smb.notifying = true ∧ t.rd SMB.ATTEMPTS 0 = s.rd SMB.ATTEMPTS 0 + 1 ∧ t.rd SMB.ARB_LOST 0 = (if r = .lost then min (s.rd SMB.ARB_LOST 0 + 1) (2 ^ 32 - 1) else s.rd SMB.ARB_LOST 0)) ∧
  (∀ (r : NotifyTry) (s : State), s.smb.notifying = true → r ≠ .sent → 8 ≤ s.rd SMB.ATTEMPTS 0 + 1 → ∃ t, exec (.notifyRetry r) s = .next t ∧ t.smb.notifying = false ∧ t.on SMB.NOTIFY_FAIL 0 = true ∧ t.rd SMB.RESULT 0 = 2 ∧ t.rd SMB.ARB_LOST 0 = (if r = .lost then min (s.rd SMB.ARB_LOST 0 + 1) (2 ^ 32 - 1) else s.rd SMB.ARB_LOST 0) ∧ t.rd SMB.NOTIFY_FAIL_CNT 0 = min (s.rd SMB.NOTIFY_FAIL_CNT 0 + 1) (2 ^ 32 - 1)) ∧
  (∀ (r : NotifyTry) (s : State), s.smb.notifying = false → exec (.notifyRetry r) s = .next s) ∧
  (∀ (s : State), s.smb.heldBack = true → s.on SMB.NOTIFY_EN 0 = true → s.irqN = true → ∃ t, exec (.notifyMinExpiry .sent) s = .next t ∧ t.rd SMB.RESULT 0 = 1 ∧ t.smb.quiet = true ∧ t.smb.notifying = false ∧ t.rd SMB.NOTIFY_CNT 0 = min (s.rd SMB.NOTIFY_CNT 0 + 1) (2 ^ 32 - 1) ∧ t.rd SMB.ATTEMPTS 0 = 1) ∧
  (∀ (r : NotifyTry) (s : State), s.smb.heldBack = true → s.on SMB.NOTIFY_EN 0 = true → s.irqN = true → r ≠ .sent → ∃ t, exec (.notifyMinExpiry r) s = .next t ∧ t.smb.notifying = true ∧ t.smb.quiet = false ∧ t.rd SMB.ATTEMPTS 0 = 1 ∧ t.rd SMB.ARB_LOST 0 = (if r = .lost then min (s.rd SMB.ARB_LOST 0 + 1) (2 ^ 32 - 1) else s.rd SMB.ARB_LOST 0)) ∧
  (∀ (r : NotifyTry) (s : State), s.smb.heldBack = false ∨ s.on SMB.NOTIFY_EN 0 = false ∨ s.irqN = false → ∃ t, exec (.notifyMinExpiry r) s = .next t ∧ t.smb.quiet = false ∧ t.smb.heldBack = false ∧ t.rd SMB.NOTIFY_CNT 0 = s.rd SMB.NOTIFY_CNT 0) ∧
  (∀ (s : State), s.dev = .watch → ∃ t, exec .smbWatchWake s = .next t ∧ t.dev = .waking ∧ t.rd RST.SRC 0 = 8 ∧ t.rd SMB.WAKE_NACK_CNT 0 = min (s.rd SMB.WAKE_NACK_CNT 0 + 1) (2 ^ 32 - 1)) ∧
  (∀ (s : State), s.dev ≠ .watch → exec .smbWatchWake s = .next s)

/-- Every transaction is counted. With READY, READ and QREAD of an aligned address send the words from it on (each with its trailer under CRC_EN, 0 for a word not ready), one cut short sends the whole ones as BAD_ACCESS; WRITE and QWRITE apply their words in order, a partial word is BAD_ACCESS; under CRC_EN a failed trailer (CRC, counted), a cut one and one of more than 64 words apply nothing; a misaligned address is BAD_ACCESS and neither reads nor writes. Without READY these are NOT_READY, counted, and zeros go out. STATUS sends the status word in every state. A served PUSH shows tag, ring and the status of the first failing check in PUSH_STAT and counts it as pushed or refused; a good one appends the packet; a ring above 39 is BAD_ARG, 4 to 39 DENIED, a bad trailer CRC. A served PULL of rings 4 to 39 sends the oldest record behind its length and ring: clocked out whole it is removed (an SMBus delivery of it is lost, counted), or under PULL_CONFIRM held until a PULL with ACK removes it; cut short it stays; an empty ring sends an empty header; another ring byte is BAD_ARG. PUSH and PULL not served are NOT_READY. STOP stops the ports its byte names, in every state; another byte is BAD_ARG, counted. An undefined opcode is BAD_ARG. A chip select wakes WATCH. (R380, R381, R384, R385, R386, R387, R388, R389, R390, R391, R392, R393) -/
def Obligations.SpiTransactions : Prop :=
  (∀ (a : BitVec 24) (n : Nat) (k : Nat) (l : List Nat) (s : State), s.on SYS.READY 0 = true → a.toNat % 4 = 0 → n = 0 → ∃ t, exec (.spiRead a n k l true) s = .next t ∧ t.spi.tx = [] ∧ t.rd HSPI.TXN_CNT 0 = min (s.rd HSPI.TXN_CNT 0 + 1) (2 ^ 32 - 1)) ∧
  (∀ (a : BitVec 24) (n : Nat) (k : Nat) (l : List Nat) (s : State), s.on SYS.READY 0 = true → a.toNat % 4 = 0 → ∃ t, exec (.spiRead a n k l false) s = .next t ∧ t.spi.tx = (State.spiWords 0x0B false k l n 0 a.toNat (spiHead 0x0B a.toNat) [] (s.bump HSPI.TXN_CNT 0)).2 ∧ t.rd HSPI.TXN_CNT 0 = min (s.rd HSPI.TXN_CNT 0 + 1) (2 ^ 32 - 1)) ∧
  (∀ (a : BitVec 24) (n : Nat) (k : Nat) (l : List Nat) (s : State), s.on SYS.READY 0 = true → a.toNat % 4 = 0 → 0 < n → ∃ t, exec (.spiRead a n k l true) s = .next t ∧ t.spi.tx = (State.spiWords 0x0B false k l (n - 1) 0 a.toNat (spiHead 0x0B a.toNat) [] (s.bump HSPI.TXN_CNT 0)).2 ∧ t.on HSPI.ERR 0 = true ∧ t.rd HSPI.LAST_ERR 0 = stBAD_ACCESS ∧ t.rd HSPI.LAST_OPCODE 0 = 0x0B ∧ t.rd HSPI.TXN_CNT 0 = min (s.rd HSPI.TXN_CNT 0 + 1) (2 ^ 32 - 1)) ∧
  (∀ (a : BitVec 24) (n : Nat) (k : Nat) (l : List Nat) (c : Bool) (s : State), s.on SYS.READY 0 = true → a.toNat % 4 ≠ 0 → ∃ t, exec (.spiRead a n k l c) s = .next t ∧ t.on HSPI.ERR 0 = true ∧ t.rd HSPI.LAST_ERR 0 = stBAD_ACCESS ∧ t.rd HSPI.LAST_OPCODE 0 = 0x0B ∧ t.rd HSPI.TXN_CNT 0 = min (s.rd HSPI.TXN_CNT 0 + 1) (2 ^ 32 - 1) ∧ t.spi.tx.length = 4 * n ∧ t.rd HSPI.BAD_ACCESS_CNT 0 = min (s.rd HSPI.BAD_ACCESS_CNT 0 + 1) (2 ^ 32 - 1)) ∧
  (∀ (a : BitVec 24) (n : Nat) (k : Nat) (l : List Nat) (c : Bool) (s : State), s.on SYS.READY 0 = false → ∃ t, exec (.spiRead a n k l c) s = .next t ∧ t.spi.tx = List.replicate (4 * n) 0 ∧ t.on HSPI.ERR 0 = true ∧ t.rd HSPI.LAST_ERR 0 = stNOT_READY ∧ t.rd HSPI.LAST_OPCODE 0 = 0x0B ∧ t.rd HSPI.NOT_READY_CNT 0 = min (s.rd HSPI.NOT_READY_CNT 0 + 1) (2 ^ 32 - 1) ∧ t.rd HSPI.TXN_CNT 0 = min (s.rd HSPI.TXN_CNT 0 + 1) (2 ^ 32 - 1)) ∧
  (∀ (i : Fin 22) (a : BitVec 24) (k : Nat) (s : State), s.on SYS.READY 0 = true → s.on HSPI.CRC_EN 0 = false → a.toNat = i.val * 0x400 + 0x10 → ∃ t, exec (.spiRead a 1 k [] false) s = .next t ∧ t.spi.tx = leBytes 4 (s.rd (IRQ_EN i.val) 0) ∧ t.rd HSPI.TXN_CNT 0 = min (s.rd HSPI.TXN_CNT 0 + 1) (2 ^ 32 - 1)) ∧
  (∀ (a : BitVec 24) (n : Nat) (k : Nat) (l : List Nat) (s : State), s.on SYS.READY 0 = true → a.toNat % 4 = 0 → n = 0 → ∃ t, exec (.qread a n k l true) s = .next t ∧ t.spi.tx = [] ∧ t.rd HSPI.TXN_CNT 0 = min (s.rd HSPI.TXN_CNT 0 + 1) (2 ^ 32 - 1)) ∧
  (∀ (a : BitVec 24) (n : Nat) (k : Nat) (l : List Nat) (s : State), s.on SYS.READY 0 = true → a.toNat % 4 = 0 → ∃ t, exec (.qread a n k l false) s = .next t ∧ t.spi.tx = (State.spiWords 0x6B true k l n 0 a.toNat (spiHead 0x6B a.toNat) [] (s.bump HSPI.TXN_CNT 0)).2 ∧ t.rd HSPI.TXN_CNT 0 = min (s.rd HSPI.TXN_CNT 0 + 1) (2 ^ 32 - 1)) ∧
  (∀ (a : BitVec 24) (n : Nat) (k : Nat) (l : List Nat) (s : State), s.on SYS.READY 0 = true → a.toNat % 4 = 0 → 0 < n → ∃ t, exec (.qread a n k l true) s = .next t ∧ t.spi.tx = (State.spiWords 0x6B true k l (n - 1) 0 a.toNat (spiHead 0x6B a.toNat) [] (s.bump HSPI.TXN_CNT 0)).2 ∧ t.on HSPI.ERR 0 = true ∧ t.rd HSPI.LAST_ERR 0 = stBAD_ACCESS ∧ t.rd HSPI.LAST_OPCODE 0 = 0x6B ∧ t.rd HSPI.TXN_CNT 0 = min (s.rd HSPI.TXN_CNT 0 + 1) (2 ^ 32 - 1)) ∧
  (∀ (a : BitVec 24) (n : Nat) (k : Nat) (l : List Nat) (c : Bool) (s : State), s.on SYS.READY 0 = true → a.toNat % 4 ≠ 0 → ∃ t, exec (.qread a n k l c) s = .next t ∧ t.on HSPI.ERR 0 = true ∧ t.rd HSPI.LAST_ERR 0 = stBAD_ACCESS ∧ t.rd HSPI.LAST_OPCODE 0 = 0x6B ∧ t.rd HSPI.TXN_CNT 0 = min (s.rd HSPI.TXN_CNT 0 + 1) (2 ^ 32 - 1) ∧ t.spi.tx.length = 4 * n ∧ t.rd HSPI.BAD_ACCESS_CNT 0 = min (s.rd HSPI.BAD_ACCESS_CNT 0 + 1) (2 ^ 32 - 1)) ∧
  (∀ (a : BitVec 24) (n : Nat) (k : Nat) (l : List Nat) (c : Bool) (s : State), s.on SYS.READY 0 = false → ∃ t, exec (.qread a n k l c) s = .next t ∧ t.spi.tx = List.replicate (4 * n) 0 ∧ t.on HSPI.ERR 0 = true ∧ t.rd HSPI.LAST_ERR 0 = stNOT_READY ∧ t.rd HSPI.LAST_OPCODE 0 = 0x6B ∧ t.rd HSPI.NOT_READY_CNT 0 = min (s.rd HSPI.NOT_READY_CNT 0 + 1) (2 ^ 32 - 1) ∧ t.rd HSPI.TXN_CNT 0 = min (s.rd HSPI.TXN_CNT 0 + 1) (2 ^ 32 - 1)) ∧
  (∀ (i : Fin 22) (a : BitVec 24) (k : Nat) (s : State), s.on SYS.READY 0 = true → s.on HSPI.CRC_EN 0 = false → a.toNat = i.val * 0x400 + 0x10 → ∃ t, exec (.qread a 1 k [] false) s = .next t ∧ t.spi.tx = leBytes 4 (s.rd (IRQ_EN i.val) 0) ∧ t.rd HSPI.TXN_CNT 0 = min (s.rd HSPI.TXN_CNT 0 + 1) (2 ^ 32 - 1)) ∧
  (∀ (a : BitVec 24) (ws : List Word) (k : Bool) (s : State), s.on SYS.READY 0 = true → a.toNat % 4 = 0 → s.on HSPI.CRC_EN 0 = false → ∃ t, exec (.spiWrite a ws false k) s = .next t ∧ t = ((State.writeWords .spi 0x02 a.toNat ws ((s.bump HSPI.TXN_CNT 0).spiSends [])).ownReset HSPI.page a.toNat ws)) ∧
  (∀ (a : BitVec 24) (ws : List Word) (k : Bool) (s : State), s.on SYS.READY 0 = true → a.toNat % 4 = 0 → s.on HSPI.CRC_EN 0 = false → ∃ t, exec (.spiWrite a ws true k) s = .next t ∧ t = ((State.writeWords .spi 0x02 a.toNat ws ((s.bump HSPI.TXN_CNT 0).spiSends [])).ownReset HSPI.page a.toNat ws).spiBad 0x02 ((a.toNat + 4 * ws.length) % 2 ^ 24) ∧ t.on HSPI.ERR 0 = true ∧ t.rd HSPI.LAST_ERR 0 = stBAD_ACCESS ∧ t.rd HSPI.LAST_OPCODE 0 = 0x02) ∧
  (∀ (a : BitVec 24) (ws : List Word) (s : State), s.on SYS.READY 0 = true → a.toNat % 4 = 0 → s.on HSPI.CRC_EN 0 = true → ws.length ≤ 64 → ∃ t, exec (.spiWrite a ws false true) s = .next t ∧ t = ((State.writeWords .spi 0x02 a.toNat ws ((s.bump HSPI.TXN_CNT 0).spiSends [])).ownReset HSPI.page a.toNat ws)) ∧
  (∀ (a : BitVec 24) (ws : List Word) (s : State), s.on SYS.READY 0 = true → a.toNat % 4 = 0 → s.on HSPI.CRC_EN 0 = true → ws.length ≤ 64 → ∃ t, exec (.spiWrite a ws false false) s = .next t ∧ t.on HSPI.ERR 0 = true ∧ t.rd HSPI.LAST_ERR 0 = stCRC ∧ t.rd HSPI.LAST_OPCODE 0 = 0x02 ∧ t.rd HSPI.CRC_ERR_CNT 0 = min (s.rd HSPI.CRC_ERR_CNT 0 + 1) (2 ^ 32 - 1) ∧ t.rd HSPI.TXN_CNT 0 = min (s.rd HSPI.TXN_CNT 0 + 1) (2 ^ 32 - 1) ∧ (∀ i : Fin 22, t.rd (IRQ_EN i.val) 0 = s.rd (IRQ_EN i.val) 0)) ∧
  (∀ (a : BitVec 24) (ws : List Word) (k : Bool) (s : State), s.on SYS.READY 0 = true → a.toNat % 4 = 0 → s.on HSPI.CRC_EN 0 = true → ws.length ≤ 64 → ∃ t, exec (.spiWrite a ws true k) s = .next t ∧ t.on HSPI.ERR 0 = true ∧ t.rd HSPI.LAST_ERR 0 = stBAD_ACCESS ∧ t.rd HSPI.LAST_OPCODE 0 = 0x02 ∧ t.rd HSPI.TXN_CNT 0 = min (s.rd HSPI.TXN_CNT 0 + 1) (2 ^ 32 - 1) ∧ (∀ i : Fin 22, t.rd (IRQ_EN i.val) 0 = s.rd (IRQ_EN i.val) 0)) ∧
  (∀ (a : BitVec 24) (ws : List Word) (c : Bool) (k : Bool) (s : State), s.on SYS.READY 0 = true → a.toNat % 4 = 0 → s.on HSPI.CRC_EN 0 = true → 64 < ws.length → ∃ t, exec (.spiWrite a ws c k) s = .next t ∧ t.on HSPI.ERR 0 = true ∧ t.rd HSPI.LAST_ERR 0 = stBAD_ARG ∧ t.rd HSPI.LAST_OPCODE 0 = 0x02 ∧ t.rd HSPI.TXN_CNT 0 = min (s.rd HSPI.TXN_CNT 0 + 1) (2 ^ 32 - 1) ∧ (∀ i : Fin 22, t.rd (IRQ_EN i.val) 0 = s.rd (IRQ_EN i.val) 0)) ∧
  (∀ (a : BitVec 24) (ws : List Word) (c : Bool) (k : Bool) (s : State), s.on SYS.READY 0 = true → a.toNat % 4 ≠ 0 → ∃ t, exec (.spiWrite a ws c k) s = .next t ∧ t.on HSPI.ERR 0 = true ∧ t.rd HSPI.LAST_ERR 0 = stBAD_ACCESS ∧ t.rd HSPI.LAST_OPCODE 0 = 0x02 ∧ t.rd HSPI.TXN_CNT 0 = min (s.rd HSPI.TXN_CNT 0 + 1) (2 ^ 32 - 1) ∧ (∀ i : Fin 22, t.rd (IRQ_EN i.val) 0 = s.rd (IRQ_EN i.val) 0)) ∧
  (∀ (a : BitVec 24) (ws : List Word) (c : Bool) (k : Bool) (s : State), s.on SYS.READY 0 = false → ∃ t, exec (.spiWrite a ws c k) s = .next t ∧ t.spi.tx = [] ∧ t.on HSPI.ERR 0 = true ∧ t.rd HSPI.LAST_ERR 0 = stNOT_READY ∧ t.rd HSPI.LAST_OPCODE 0 = 0x02 ∧ t.rd HSPI.NOT_READY_CNT 0 = min (s.rd HSPI.NOT_READY_CNT 0 + 1) (2 ^ 32 - 1) ∧ t.rd HSPI.TXN_CNT 0 = min (s.rd HSPI.TXN_CNT 0 + 1) (2 ^ 32 - 1) ∧ (∀ i : Fin 22, t.rd (IRQ_EN i.val) 0 = s.rd (IRQ_EN i.val) 0)) ∧
  (∀ (i : Fin 22) (a : BitVec 24) (v : Word) (ok : Bool) (s : State), s.on SYS.READY 0 = true → s.on HSPI.CRC_EN 0 = false → a.toNat = i.val * 0x400 + 0x10 → ∃ t, exec (.spiWrite a [v] false ok) s = .next t ∧ t.rd (IRQ_EN i.val) 0 = v.toNat &&& irqDefined i.val ∧ t.rd HSPI.TXN_CNT 0 = min (s.rd HSPI.TXN_CNT 0 + 1) (2 ^ 32 - 1)) ∧
  (∀ (a : BitVec 24) (ws : List Word) (k : Bool) (s : State), s.on SYS.READY 0 = true → a.toNat % 4 = 0 → s.on HSPI.CRC_EN 0 = false → ∃ t, exec (.qwrite a ws false k) s = .next t ∧ t = ((State.writeWords .spi 0x32 a.toNat ws ((s.bump HSPI.TXN_CNT 0).spiSends [])).ownReset HSPI.page a.toNat ws)) ∧
  (∀ (a : BitVec 24) (ws : List Word) (k : Bool) (s : State), s.on SYS.READY 0 = true → a.toNat % 4 = 0 → s.on HSPI.CRC_EN 0 = false → ∃ t, exec (.qwrite a ws true k) s = .next t ∧ t = ((State.writeWords .spi 0x32 a.toNat ws ((s.bump HSPI.TXN_CNT 0).spiSends [])).ownReset HSPI.page a.toNat ws).spiBad 0x32 ((a.toNat + 4 * ws.length) % 2 ^ 24) ∧ t.on HSPI.ERR 0 = true ∧ t.rd HSPI.LAST_ERR 0 = stBAD_ACCESS ∧ t.rd HSPI.LAST_OPCODE 0 = 0x32) ∧
  (∀ (a : BitVec 24) (ws : List Word) (s : State), s.on SYS.READY 0 = true → a.toNat % 4 = 0 → s.on HSPI.CRC_EN 0 = true → ws.length ≤ 64 → ∃ t, exec (.qwrite a ws false true) s = .next t ∧ t = ((State.writeWords .spi 0x32 a.toNat ws ((s.bump HSPI.TXN_CNT 0).spiSends [])).ownReset HSPI.page a.toNat ws)) ∧
  (∀ (a : BitVec 24) (ws : List Word) (s : State), s.on SYS.READY 0 = true → a.toNat % 4 = 0 → s.on HSPI.CRC_EN 0 = true → ws.length ≤ 64 → ∃ t, exec (.qwrite a ws false false) s = .next t ∧ t.on HSPI.ERR 0 = true ∧ t.rd HSPI.LAST_ERR 0 = stCRC ∧ t.rd HSPI.LAST_OPCODE 0 = 0x32 ∧ t.rd HSPI.CRC_ERR_CNT 0 = min (s.rd HSPI.CRC_ERR_CNT 0 + 1) (2 ^ 32 - 1) ∧ t.rd HSPI.TXN_CNT 0 = min (s.rd HSPI.TXN_CNT 0 + 1) (2 ^ 32 - 1) ∧ (∀ i : Fin 22, t.rd (IRQ_EN i.val) 0 = s.rd (IRQ_EN i.val) 0)) ∧
  (∀ (a : BitVec 24) (ws : List Word) (k : Bool) (s : State), s.on SYS.READY 0 = true → a.toNat % 4 = 0 → s.on HSPI.CRC_EN 0 = true → ws.length ≤ 64 → ∃ t, exec (.qwrite a ws true k) s = .next t ∧ t.on HSPI.ERR 0 = true ∧ t.rd HSPI.LAST_ERR 0 = stBAD_ACCESS ∧ t.rd HSPI.LAST_OPCODE 0 = 0x32 ∧ t.rd HSPI.TXN_CNT 0 = min (s.rd HSPI.TXN_CNT 0 + 1) (2 ^ 32 - 1) ∧ (∀ i : Fin 22, t.rd (IRQ_EN i.val) 0 = s.rd (IRQ_EN i.val) 0)) ∧
  (∀ (a : BitVec 24) (ws : List Word) (c : Bool) (k : Bool) (s : State), s.on SYS.READY 0 = true → a.toNat % 4 = 0 → s.on HSPI.CRC_EN 0 = true → 64 < ws.length → ∃ t, exec (.qwrite a ws c k) s = .next t ∧ t.on HSPI.ERR 0 = true ∧ t.rd HSPI.LAST_ERR 0 = stBAD_ARG ∧ t.rd HSPI.LAST_OPCODE 0 = 0x32 ∧ t.rd HSPI.TXN_CNT 0 = min (s.rd HSPI.TXN_CNT 0 + 1) (2 ^ 32 - 1) ∧ (∀ i : Fin 22, t.rd (IRQ_EN i.val) 0 = s.rd (IRQ_EN i.val) 0)) ∧
  (∀ (a : BitVec 24) (ws : List Word) (c : Bool) (k : Bool) (s : State), s.on SYS.READY 0 = true → a.toNat % 4 ≠ 0 → ∃ t, exec (.qwrite a ws c k) s = .next t ∧ t.on HSPI.ERR 0 = true ∧ t.rd HSPI.LAST_ERR 0 = stBAD_ACCESS ∧ t.rd HSPI.LAST_OPCODE 0 = 0x32 ∧ t.rd HSPI.TXN_CNT 0 = min (s.rd HSPI.TXN_CNT 0 + 1) (2 ^ 32 - 1) ∧ (∀ i : Fin 22, t.rd (IRQ_EN i.val) 0 = s.rd (IRQ_EN i.val) 0)) ∧
  (∀ (a : BitVec 24) (ws : List Word) (c : Bool) (k : Bool) (s : State), s.on SYS.READY 0 = false → ∃ t, exec (.qwrite a ws c k) s = .next t ∧ t.spi.tx = [] ∧ t.on HSPI.ERR 0 = true ∧ t.rd HSPI.LAST_ERR 0 = stNOT_READY ∧ t.rd HSPI.LAST_OPCODE 0 = 0x32 ∧ t.rd HSPI.NOT_READY_CNT 0 = min (s.rd HSPI.NOT_READY_CNT 0 + 1) (2 ^ 32 - 1) ∧ t.rd HSPI.TXN_CNT 0 = min (s.rd HSPI.TXN_CNT 0 + 1) (2 ^ 32 - 1) ∧ (∀ i : Fin 22, t.rd (IRQ_EN i.val) 0 = s.rd (IRQ_EN i.val) 0)) ∧
  (∀ (i : Fin 22) (a : BitVec 24) (v : Word) (ok : Bool) (s : State), s.on SYS.READY 0 = true → s.on HSPI.CRC_EN 0 = false → a.toNat = i.val * 0x400 + 0x10 → ∃ t, exec (.qwrite a [v] false ok) s = .next t ∧ t.rd (IRQ_EN i.val) 0 = v.toNat &&& irqDefined i.val ∧ t.rd HSPI.TXN_CNT 0 = min (s.rd HSPI.TXN_CNT 0 + 1) (2 ^ 32 - 1)) ∧
  (∀ (s : State), s.on HSPI.CRC_EN 0 = false → ∃ t, exec .spiStatus s = .next t ∧ t.spi.tx = leBytes 4 s.statusWord ∧ t.rd HSPI.TXN_CNT 0 = min (s.rd HSPI.TXN_CNT 0 + 1) (2 ^ 32 - 1)) ∧
  (∀ (s : State), s.on HSPI.CRC_EN 0 = true → ∃ t, exec .spiStatus s = .next t ∧ t.spi.tx = leBytes 4 s.statusWord ++ beBytes 2 (crc16 (0x05 :: leBytes 4 s.statusWord)) ∧ t.rd HSPI.TXN_CNT 0 = min (s.rd HSPI.TXN_CNT 0 + 1) (2 ^ 32 - 1)) ∧
  (∀ (r : Byte) (q : Fin 40) (l : List Byte) (k : Bool) (s : State), s.on SYS.READY 0 = true → s.on HSPI.CRC_EN 0 = false ∨ k = true → q.val = r.toNat → 1 ≤ q.val → q.val ≤ 3 → packetCheck l false = stOK → (s.ring q).occ + packetGranules (packetOf l none) ≤ ringSize q → ∃ t, exec (.push r l k false) s = .next t ∧ (t.ring q).entries = (s.ring q).entries ++ [.pkt (packetOf l none) ((s.ring q).seq % 2 ^ 32)] ∧ t.rd HSPI.STATUS 0 = stOK ∧ t.rd HSPI.RING 0 = r.toNat ∧ t.rd HSPI.PUSH_CNT 0 = min (s.rd HSPI.PUSH_CNT 0 + 1) (2 ^ 32 - 1)) ∧
  (∀ (r : Byte) (l : List Byte) (k : Bool) (b : Bool) (st : Nat) (s : State), s.on SYS.READY 0 = true ∨ s.romServes r.toNat 2 = true → s.on HSPI.CRC_EN 0 = false ∨ k = true → (((s.bump HSPI.TXN_CNT 0).spiSends []).judgePush r.toNat l true b).2 = st → ∃ t, exec (.push r l k b) s = .next t ∧ t.rd HSPI.STATUS 0 = st % 2 ^ HSPI.STATUS.width ∧ t.rd HSPI.RING 0 = r.toNat % 64 ∧ t.rd HSPI.TAG 0 = bytesAt l 0 2 % 2 ^ 16 ∧ t.rd HSPI.PUSH_CNT 0 = (if st = stOK then min (s.rd HSPI.PUSH_CNT 0 + 1) (2 ^ 32 - 1) else s.rd HSPI.PUSH_CNT 0) ∧ t.rd HSPI.PUSH_REFUSED_CNT 0 = (if st = stOK then s.rd HSPI.PUSH_REFUSED_CNT 0 else min (s.rd HSPI.PUSH_REFUSED_CNT 0 + 1) (2 ^ 32 - 1)) ∧ t.rd HSPI.TXN_CNT 0 = min (s.rd HSPI.TXN_CNT 0 + 1) (2 ^ 32 - 1)) ∧
  (∀ (r : Byte) (l : List Byte) (k : Bool) (b : Bool) (s : State), s.on SYS.READY 0 = true ∨ s.romServes r.toNat 2 = true → s.on HSPI.CRC_EN 0 = true → k = false → r.toNat < 4 → ∃ t, exec (.push r l k b) s = .next t ∧ t.on HSPI.ERR 0 = true ∧ t.rd HSPI.LAST_ERR 0 = stCRC ∧ t.rd HSPI.LAST_OPCODE 0 = 0x20 ∧ t.rd HSPI.STATUS 0 = stCRC ∧ t.rd HSPI.CRC_ERR_CNT 0 = min (s.rd HSPI.CRC_ERR_CNT 0 + 1) (2 ^ 32 - 1) ∧ t.rd HSPI.PUSH_REFUSED_CNT 0 = min (s.rd HSPI.PUSH_REFUSED_CNT 0 + 1) (2 ^ 32 - 1) ∧ (∀ q, (t.ring q).entries = (s.ring q).entries) ∧ t.rd HSPI.TXN_CNT 0 = min (s.rd HSPI.TXN_CNT 0 + 1) (2 ^ 32 - 1)) ∧
  (∀ (r : Byte) (l : List Byte) (k : Bool) (b : Bool) (s : State), s.on SYS.READY 0 = true ∨ s.romServes r.toNat 2 = true → 4 ≤ r.toNat → ∃ t, exec (.push r l k b) s = .next t ∧ t.rd HSPI.STATUS 0 = (if 39 < r.toNat then stBAD_ARG else stDENIED) ∧ t.on HSPI.ERR 0 = true ∧ (∀ q, (t.ring q).entries = (s.ring q).entries) ∧ t.rd HSPI.PUSH_REFUSED_CNT 0 = min (s.rd HSPI.PUSH_REFUSED_CNT 0 + 1) (2 ^ 32 - 1) ∧ t.rd HSPI.TXN_CNT 0 = min (s.rd HSPI.TXN_CNT 0 + 1) (2 ^ 32 - 1)) ∧
  (∀ (r : Byte) (l : List Byte) (k : Bool) (b : Bool) (s : State), s.on SYS.READY 0 = false → s.romServes r.toNat 2 = false → ∃ t, exec (.push r l k b) s = .next t ∧ t.on HSPI.ERR 0 = true ∧ t.rd HSPI.LAST_ERR 0 = stNOT_READY ∧ t.rd HSPI.LAST_OPCODE 0 = 0x20 ∧ t.rd HSPI.NOT_READY_CNT 0 = min (s.rd HSPI.NOT_READY_CNT 0 + 1) (2 ^ 32 - 1) ∧ t.rd HSPI.TXN_CNT 0 = min (s.rd HSPI.TXN_CNT 0 + 1) (2 ^ 32 - 1) ∧ (∀ q, (t.ring q).entries = (s.ring q).entries)) ∧
  (∀ (q : Fin 40) (r : Byte) (s : State), s.on SYS.READY 0 = true ∨ s.romServes (r.toNat % 64) 4 = true → q.val = r.toNat % 64 → 4 ≤ q.val → r.getLsbD 6 = false → s.on HSPI.PULL_CONFIRM 0 = false → (s.tailBytes q) ≠ [] → s.smb.del = none → ∃ t, exec (.pull r true) s = .next t ∧ (t.ring q).entries = (s.ring q).entries.drop 1 ∧ t.rd HSPI.PULL_CNT 0 = min (s.rd HSPI.PULL_CNT 0 + 1) (2 ^ 32 - 1) ∧ t.spi.tx = leBytes 2 (s.tailBytes q).length ++ leBytes 2 q.val ++ (s.tailBytes q) ++ s.trailer (0x21 :: r :: (leBytes 2 (s.tailBytes q).length ++ leBytes 2 q.val ++ (s.tailBytes q)))) ∧
  (∀ (q : Fin 40) (r : Byte) (d : SmbDel) (s : State), s.on SYS.READY 0 = true ∨ s.romServes (r.toNat % 64) 4 = true → q.val = r.toNat % 64 → 4 ≤ q.val → r.getLsbD 6 = false → s.on HSPI.PULL_CONFIRM 0 = false → (s.tailBytes q) ≠ [] → s.smb.del = some d → d.ring = q.val → ∃ t, exec (.pull r true) s = .next t ∧ (t.ring q).entries = (s.ring q).entries.drop 1 ∧ t.rd HSPI.PULL_CNT 0 = min (s.rd HSPI.PULL_CNT 0 + 1) (2 ^ 32 - 1) ∧ t.smb.del = none ∧ t.rd SMB.FRAG_LOST_CNT 0 = min (s.rd SMB.FRAG_LOST_CNT 0 + 1) (2 ^ 32 - 1)) ∧
  (∀ (q : Fin 40) (r : Byte) (s : State), s.on SYS.READY 0 = true ∨ s.romServes (r.toNat % 64) 4 = true → q.val = r.toNat % 64 → 4 ≤ q.val → r.getLsbD 6 = false → s.on HSPI.PULL_CONFIRM 0 = false → (s.tailBytes q) ≠ [] → ∃ t, exec (.pull r false) s = .next t ∧ (t.ring q).entries = (s.ring q).entries ∧ q.val ∉ t.spi.held ∧ t.spi.tx = leBytes 2 (s.tailBytes q).length ++ leBytes 2 q.val ++ (s.tailBytes q) ++ s.trailer (0x21 :: r :: (leBytes 2 (s.tailBytes q).length ++ leBytes 2 q.val ++ (s.tailBytes q)))) ∧
  (∀ (q : Fin 40) (r : Byte) (s : State), s.on SYS.READY 0 = true ∨ s.romServes (r.toNat % 64) 4 = true → q.val = r.toNat % 64 → 4 ≤ q.val → r.getLsbD 6 = false → s.on HSPI.PULL_CONFIRM 0 = true → (s.tailBytes q) ≠ [] → r.getLsbD 7 = false ∨ q.val ∉ s.spi.held → ∃ t, exec (.pull r true) s = .next t ∧ (t.ring q).entries = (s.ring q).entries ∧ q.val ∈ t.spi.held ∧ (t.ring q).locked = true ∧ t.spi.tx = leBytes 2 (s.tailBytes q).length ++ leBytes 2 q.val ++ (s.tailBytes q) ++ s.trailer (0x21 :: r :: (leBytes 2 (s.tailBytes q).length ++ leBytes 2 q.val ++ (s.tailBytes q)))) ∧
  (∀ (q : Fin 40) (r : Byte) (s : State), s.on SYS.READY 0 = true ∨ s.romServes (r.toNat % 64) 4 = true → q.val = r.toNat % 64 → 4 ≤ q.val → r.getLsbD 6 = false → s.on HSPI.PULL_CONFIRM 0 = true → (s.tailBytes q) ≠ [] → r.getLsbD 7 = false ∨ q.val ∉ s.spi.held → ∃ t, exec (.pull r false) s = .next t ∧ (t.ring q).entries = (s.ring q).entries ∧ q.val ∉ t.spi.held ∧ t.spi.tx = leBytes 2 (s.tailBytes q).length ++ leBytes 2 q.val ++ (s.tailBytes q) ++ s.trailer (0x21 :: r :: (leBytes 2 (s.tailBytes q).length ++ leBytes 2 q.val ++ (s.tailBytes q)))) ∧
  (∀ (q : Fin 40) (r : Byte) (w : Bool) (s : State), s.on SYS.READY 0 = true ∨ s.romServes (r.toNat % 64) 4 = true → q.val = r.toNat % 64 → 4 ≤ q.val → r.getLsbD 6 = false → s.on HSPI.PULL_CONFIRM 0 = true → (s.tailBytes q) ≠ [] → r.getLsbD 7 = true → q.val ∈ s.spi.held → ∃ t, exec (.pull r w) s = .next t ∧ (t.ring q).entries = (s.ring q).entries.drop 1 ∧ t.rd HSPI.PULL_CNT 0 = min (s.rd HSPI.PULL_CNT 0 + 1) (2 ^ 32 - 1)) ∧
  (∀ (q : Fin 40) (r : Byte) (w : Bool) (s : State), s.on SYS.READY 0 = true ∨ s.romServes (r.toNat % 64) 4 = true → q.val = r.toNat % 64 → 4 ≤ q.val → r.getLsbD 6 = false → (s.tailBytes q) = [] → q.val ∉ s.spi.held → ∃ t, exec (.pull r w) s = .next t ∧ (t.ring q).entries = (s.ring q).entries ∧ t.spi.tx = leBytes 2 ([] : List Byte).length ++ leBytes 2 q.val ++ ([] : List Byte) ++ s.trailer (0x21 :: r :: (leBytes 2 ([] : List Byte).length ++ leBytes 2 q.val ++ ([] : List Byte)))) ∧
  (∀ (r : Byte) (w : Bool) (s : State), s.on SYS.READY 0 = true ∨ s.romServes (r.toNat % 64) 4 = true → r.getLsbD 6 = true ∨ r.toNat % 64 < 4 ∨ 39 < r.toNat % 64 → ∃ t, exec (.pull r w) s = .next t ∧ t.on HSPI.ERR 0 = true ∧ t.rd HSPI.LAST_ERR 0 = stBAD_ARG ∧ t.rd HSPI.LAST_OPCODE 0 = 0x21 ∧ (∀ q, (t.ring q).entries = (s.ring q).entries) ∧ t.rd HSPI.TXN_CNT 0 = min (s.rd HSPI.TXN_CNT 0 + 1) (2 ^ 32 - 1)) ∧
  (∀ (r : Byte) (w : Bool) (s : State), s.on SYS.READY 0 = false → s.romServes (r.toNat % 64) 4 = false → ∃ t, exec (.pull r w) s = .next t ∧ t.spi.tx = [0, 0, 0, 0] ∧ t.on HSPI.ERR 0 = true ∧ t.rd HSPI.LAST_ERR 0 = stNOT_READY ∧ t.rd HSPI.LAST_OPCODE 0 = 0x21 ∧ t.rd HSPI.NOT_READY_CNT 0 = min (s.rd HSPI.NOT_READY_CNT 0 + 1) (2 ^ 32 - 1) ∧ t.rd HSPI.TXN_CNT 0 = min (s.rd HSPI.TXN_CNT 0 + 1) (2 ^ 32 - 1) ∧ (∀ q, (t.ring q).entries = (s.ring q).entries)) ∧
  (∀ (b : Byte) (o : Nat) (l : List Port) (s : State), stopByte b.toNat = some o → coveredPorts b.toNat = some l → ∃ t, exec (.spiStop b) s = .next t ∧ (∀ q, t.stopped q = (s.stopped q || decide (q ∈ l))) ∧ t.rd RING.OPCODE 0 = o ∧ t.rd RING.STATUS 0 = stOK ∧ t.rd RING.TAG 0 = 0 ∧ t.rd RING.SOURCE 0 = 2 ∧ t.rd HSPI.TXN_CNT 0 = min (s.rd HSPI.TXN_CNT 0 + 1) (2 ^ 32 - 1)) ∧
  (∀ (b : Byte) (s : State), stopByte b.toNat = none → ∃ t, exec (.spiStop b) s = .next t ∧ t.stop = s.stop ∧ t.on HSPI.ERR 0 = true ∧ t.rd HSPI.LAST_ERR 0 = stBAD_ARG ∧ t.rd HSPI.LAST_OPCODE 0 = 0x3F ∧ t.rd HSPI.STOP_BAD_CNT 0 = min (s.rd HSPI.STOP_BAD_CNT 0 + 1) (2 ^ 32 - 1) ∧ t.rd HSPI.TXN_CNT 0 = min (s.rd HSPI.TXN_CNT 0 + 1) (2 ^ 32 - 1)) ∧
  (∀ (op : Byte) (s : State), op.toNat ∉ spiOpcodes → ∃ t, exec (.spiUnknownOpcode op) s = .next t ∧ t.on HSPI.ERR 0 = true ∧ t.rd HSPI.LAST_ERR 0 = stBAD_ARG ∧ t.rd HSPI.LAST_OPCODE 0 = op.toNat ∧ t.spi.tx = [] ∧ t.rd HSPI.TXN_CNT 0 = min (s.rd HSPI.TXN_CNT 0 + 1) (2 ^ 32 - 1)) ∧
  (∀ (op : Byte) (s : State), op.toNat ∈ spiOpcodes → exec (.spiUnknownOpcode op) s = .next s) ∧
  (∀ (s : State), s.dev = .watch → ∃ t, exec .spiWake s = .next t ∧ t.dev = .waking ∧ t.rd RST.SRC 0 = 4) ∧
  (∀ (s : State), s.dev ≠ .watch → exec .spiWake s = .next s)

/-- A valid SET_PTR with an aligned pointer loads SMB.PTR; one whose bits [1:0] are not 0 is refused with BAD_ACCESS and leaves the pointer. (R403) -/
def Obligations.SetPtrLoadsAlignedPointers : Prop :=
  (∀ (l : List Byte) (s : State), s.dev ≠ .watch → s.on SYS.READY 0 = true → l.length = 3 → leNat l % 4 = 0 → leNat l < 2 ^ 24 →
    ∃ t, exec (.setPtr 3 l .good) s = .next t ∧ t.rd SMB.PTR 0 = leNat l) ∧
  (∀ (l : List Byte) (s : State), s.dev ≠ .watch → s.on SYS.READY 0 = true → l.length = 3 → leNat l % 4 ≠ 0 →
    ∃ t, exec (.setPtr 3 l .good) s = .next t ∧ t.rd SMB.PTR 0 = s.rd SMB.PTR 0 ∧ t.rd SMB.LAST_ERR 0 = stBAD_ACCESS ∧ t.rd SMB.LAST_CMD 0 = 0x10)

/-- A PHASE write leaves PHASE as it was until the port's next period start; that period is lengthened by ((new - old) mod 256) / 256 of PERIOD, in steps of 1/8 clock, so that it is never shorter than PERIOD. (R235) -/
def Obligations.PhaseWritesLengthenOnePeriod : Prop :=
  (∀ (p : Port) (v : BitVec 8) (s : State),
    ∃ t, exec (.phaseWrite p v) s = .next t ∧ t.rd PWM.PHASE p = s.rd PWM.PHASE p ∧ (t.port p).pwm.phase = some v.toNat) ∧
  (∀ (p : Port) (v : BitVec 8) (s : State), s.running p = false → (s.port p).pwm.phase = some v.toNat →
    ∃ t, exec (.periodStart p) s = .next t ∧ t.rd PWM.PHASE p = v.toNat ∧ (t.port p).pwm.phase = none ∧
      (t.port p).pwm.len = 8 * s.rd PWM.PERIOD p + 8 * s.rd PWM.PERIOD p * ((v.toNat + 256 - s.rd PWM.PHASE p) % 256) / 256 ∧
      8 * s.rd PWM.PERIOD p ≤ (t.port p).pwm.len) ∧
  (∀ (p : Port) (v : BitVec 8) (s : State), s.running p = true → (s.port p).pwm.phase = some v.toNat →
    ∃ t, exec (.periodStart p) s = .next t ∧ t.rd PWM.PHASE p = v.toNat ∧ (t.port p).pwm.phase = none ∧
      (t.port p).pwm.len = 8 * s.rd PWM.PERIOD p + 8 * s.rd PWM.PERIOD p * ((v.toNat + 256 - s.rd PWM.PHASE p) % 256) / 256)

/-- Outside a warm reset STOP_PORT, STOP_GROUP and STOP_ALL with a TARGET that fits the opcode mark every covered port stopped and no other; SHED_TO with ceilings in range and reserved bits 0 stages them on every covered port; RELEASE clears the mark and the shed of every covered port. A TARGET that does not fit, and for SHED_TO an ARG that does not, is BAD_ARG and changes no mark and no shed. Each leaves its tag, opcode, status and source in STOP_LAST and is counted; from ring 0 on a serving device, with a response wanted and room for it, that status is also answered in ring 4. During a warm reset such a packet does nothing. (R374, R375, R376, R152, R153, R23) -/
def Obligations.StopLaneActsOnEveryCoveredPort : Prop :=
  (∀ (k : Packet) (w : Bool) (l : List Port) (s : State), s.dev ≠ .warmReset → coveredPorts k.tgt = some l → k.tgt < 32 → ∃ t, exec (.stopPort k w) s = .next t ∧ (∀ q, t.stopped q = (s.stopped q || decide (q ∈ l))) ∧ t.rd RING.OPCODE 0 = opStopPort ∧ t.rd RING.STATUS 0 = stOK ∧ t.rd RING.TAG 0 = k.tag.toNat ∧ t.rd RING.SOURCE 0 = (if w then 4 else 1) ∧ t.rd RING.STOP_LANE_CNT 0 = min (s.rd RING.STOP_LANE_CNT 0 + 1) (2 ^ 32 - 1)) ∧
  (∀ (k : Packet) (w : Bool) (s : State), s.dev ≠ .warmReset → 32 ≤ k.tgt → ∃ t, exec (.stopPort k w) s = .next t ∧ (∀ q, t.stopped q = s.stopped q ∧ t.on BUDGET.VALID q = s.on BUDGET.VALID q) ∧ t.rd RING.OPCODE 0 = opStopPort ∧ t.rd RING.STATUS 0 = stBAD_ARG ∧ t.rd RING.TAG 0 = k.tag.toNat ∧ t.rd RING.SOURCE 0 = (if w then 4 else 1) ∧ t.rd RING.STOP_LANE_CNT 0 = min (s.rd RING.STOP_LANE_CNT 0 + 1) (2 ^ 32 - 1)) ∧
  (∀ (k : Packet) (s : State), s.dev ≠ .warmReset → s.serves = true → s.room4 false 0 = true → (coveredPorts k.tgt).isSome = true → k.tgt < 32 → AwaitsResponse k [] s → ∃ t, exec (.stopPort k false) s = .next t ∧ Responded { k with op := BitVec.ofNat 8 opStopPort } stOK [] s t) ∧
  (∀ (k : Packet) (s : State), s.dev ≠ .warmReset → s.serves = true → s.room4 false 0 = true → 32 ≤ k.tgt → AwaitsResponse k [] s → ∃ t, exec (.stopPort k false) s = .next t ∧ Responded { k with op := BitVec.ofNat 8 opStopPort } stBAD_ARG [] s t) ∧
  (∀ (k : Packet) (w : Bool) (s : State), s.dev = .warmReset → exec (.stopPort k w) s = .next s) ∧
  (∀ (k : Packet) (w : Bool) (l : List Port) (s : State), s.dev ≠ .warmReset → coveredPorts k.tgt = some l → 0x80 ≤ k.tgt → k.tgt ≤ 0x83 → ∃ t, exec (.stopGroup k w) s = .next t ∧ (∀ q, t.stopped q = (s.stopped q || decide (q ∈ l))) ∧ t.rd RING.OPCODE 0 = opStopGroup ∧ t.rd RING.STATUS 0 = stOK ∧ t.rd RING.TAG 0 = k.tag.toNat ∧ t.rd RING.SOURCE 0 = (if w then 4 else 1) ∧ t.rd RING.STOP_LANE_CNT 0 = min (s.rd RING.STOP_LANE_CNT 0 + 1) (2 ^ 32 - 1)) ∧
  (∀ (k : Packet) (w : Bool) (s : State), s.dev ≠ .warmReset → k.tgt < 0x80 ∨ 0x83 < k.tgt → ∃ t, exec (.stopGroup k w) s = .next t ∧ (∀ q, t.stopped q = s.stopped q ∧ t.on BUDGET.VALID q = s.on BUDGET.VALID q) ∧ t.rd RING.OPCODE 0 = opStopGroup ∧ t.rd RING.STATUS 0 = stBAD_ARG ∧ t.rd RING.TAG 0 = k.tag.toNat ∧ t.rd RING.SOURCE 0 = (if w then 4 else 1) ∧ t.rd RING.STOP_LANE_CNT 0 = min (s.rd RING.STOP_LANE_CNT 0 + 1) (2 ^ 32 - 1)) ∧
  (∀ (k : Packet) (s : State), s.dev ≠ .warmReset → s.serves = true → s.room4 false 0 = true → (coveredPorts k.tgt).isSome = true → 0x80 ≤ k.tgt → k.tgt ≤ 0x83 → AwaitsResponse k [] s → ∃ t, exec (.stopGroup k false) s = .next t ∧ Responded { k with op := BitVec.ofNat 8 opStopGroup } stOK [] s t) ∧
  (∀ (k : Packet) (s : State), s.dev ≠ .warmReset → s.serves = true → s.room4 false 0 = true → k.tgt < 0x80 ∨ 0x83 < k.tgt → AwaitsResponse k [] s → ∃ t, exec (.stopGroup k false) s = .next t ∧ Responded { k with op := BitVec.ofNat 8 opStopGroup } stBAD_ARG [] s t) ∧
  (∀ (k : Packet) (w : Bool) (s : State), s.dev = .warmReset → exec (.stopGroup k w) s = .next s) ∧
  (∀ (k : Packet) (w : Bool) (l : List Port) (s : State), s.dev ≠ .warmReset → coveredPorts k.tgt = some l → k.tgt = 0xFF → ∃ t, exec (.stopAll k w) s = .next t ∧ (∀ q, t.stopped q = (s.stopped q || decide (q ∈ l))) ∧ t.rd RING.OPCODE 0 = opStopAll ∧ t.rd RING.STATUS 0 = stOK ∧ t.rd RING.TAG 0 = k.tag.toNat ∧ t.rd RING.SOURCE 0 = (if w then 4 else 1) ∧ t.rd RING.STOP_LANE_CNT 0 = min (s.rd RING.STOP_LANE_CNT 0 + 1) (2 ^ 32 - 1)) ∧
  (∀ (k : Packet) (w : Bool) (s : State), s.dev ≠ .warmReset → k.tgt ≠ 0xFF → ∃ t, exec (.stopAll k w) s = .next t ∧ (∀ q, t.stopped q = s.stopped q ∧ t.on BUDGET.VALID q = s.on BUDGET.VALID q) ∧ t.rd RING.OPCODE 0 = opStopAll ∧ t.rd RING.STATUS 0 = stBAD_ARG ∧ t.rd RING.TAG 0 = k.tag.toNat ∧ t.rd RING.SOURCE 0 = (if w then 4 else 1) ∧ t.rd RING.STOP_LANE_CNT 0 = min (s.rd RING.STOP_LANE_CNT 0 + 1) (2 ^ 32 - 1)) ∧
  (∀ (k : Packet) (s : State), s.dev ≠ .warmReset → s.serves = true → s.room4 false 0 = true → (coveredPorts k.tgt).isSome = true → k.tgt = 0xFF → AwaitsResponse k [] s → ∃ t, exec (.stopAll k false) s = .next t ∧ Responded { k with op := BitVec.ofNat 8 opStopAll } stOK [] s t) ∧
  (∀ (k : Packet) (s : State), s.dev ≠ .warmReset → s.serves = true → s.room4 false 0 = true → k.tgt ≠ 0xFF → AwaitsResponse k [] s → ∃ t, exec (.stopAll k false) s = .next t ∧ Responded { k with op := BitVec.ofNat 8 opStopAll } stBAD_ARG [] s t) ∧
  (∀ (k : Packet) (w : Bool) (s : State), s.dev = .warmReset → exec (.stopAll k w) s = .next s) ∧
  (∀ (k : Packet) (w : Bool) (l : List Port) (s : State), s.dev ≠ .warmReset → coveredPorts k.tgt = some l → k.ar % 2 ^ 13 ≤ 5000 → bits k.ar 15 13 = 0 → bits k.ar 23 16 ≤ 240 → bits k.ar 31 24 = 0 → ∃ t, exec (.shedTo k w) s = .next t ∧ (∀ q ∈ l, t.on BUDGET.VALID q = true ∧ t.rd BUDGET.I_SHED q = k.ar % 2 ^ 13 ∧ t.rd BUDGET.P_SHED q = bits k.ar 23 16) ∧ t.rd RING.OPCODE 0 = opShedTo ∧ t.rd RING.STATUS 0 = stOK ∧ t.rd RING.TAG 0 = k.tag.toNat ∧ t.rd RING.SOURCE 0 = (if w then 4 else 1) ∧ t.rd RING.STOP_LANE_CNT 0 = min (s.rd RING.STOP_LANE_CNT 0 + 1) (2 ^ 32 - 1)) ∧
  (∀ (k : Packet) (w : Bool) (s : State), s.dev ≠ .warmReset → coveredPorts k.tgt = none → ∃ t, exec (.shedTo k w) s = .next t ∧ (∀ q, t.stopped q = s.stopped q ∧ t.on BUDGET.VALID q = s.on BUDGET.VALID q) ∧ t.rd RING.OPCODE 0 = opShedTo ∧ t.rd RING.STATUS 0 = stBAD_ARG ∧ t.rd RING.TAG 0 = k.tag.toNat ∧ t.rd RING.SOURCE 0 = (if w then 4 else 1) ∧ t.rd RING.STOP_LANE_CNT 0 = min (s.rd RING.STOP_LANE_CNT 0 + 1) (2 ^ 32 - 1)) ∧
  (∀ (k : Packet) (w : Bool) (s : State), s.dev ≠ .warmReset → 5000 < k.ar % 2 ^ 13 ∨ bits k.ar 15 13 ≠ 0 ∨ 240 < bits k.ar 23 16 ∨ bits k.ar 31 24 ≠ 0 → ∃ t, exec (.shedTo k w) s = .next t ∧ (∀ q, t.stopped q = s.stopped q ∧ t.on BUDGET.VALID q = s.on BUDGET.VALID q) ∧ t.rd RING.OPCODE 0 = opShedTo ∧ t.rd RING.STATUS 0 = stBAD_ARG ∧ t.rd RING.TAG 0 = k.tag.toNat ∧ t.rd RING.SOURCE 0 = (if w then 4 else 1) ∧ t.rd RING.STOP_LANE_CNT 0 = min (s.rd RING.STOP_LANE_CNT 0 + 1) (2 ^ 32 - 1)) ∧
  (∀ (k : Packet) (s : State), s.dev ≠ .warmReset → s.serves = true → s.room4 false 0 = true → (coveredPorts k.tgt).isSome = true → k.ar % 2 ^ 13 ≤ 5000 → bits k.ar 15 13 = 0 → bits k.ar 23 16 ≤ 240 → bits k.ar 31 24 = 0 → AwaitsResponse k [] s → ∃ t, exec (.shedTo k false) s = .next t ∧ Responded { k with op := BitVec.ofNat 8 opShedTo } stOK [] s t) ∧
  (∀ (k : Packet) (s : State), s.dev ≠ .warmReset → s.serves = true → s.room4 false 0 = true → coveredPorts k.tgt = none → AwaitsResponse k [] s → ∃ t, exec (.shedTo k false) s = .next t ∧ Responded { k with op := BitVec.ofNat 8 opShedTo } stBAD_ARG [] s t) ∧
  (∀ (k : Packet) (w : Bool) (s : State), s.dev = .warmReset → exec (.shedTo k w) s = .next s) ∧
  (∀ (k : Packet) (w : Bool) (l : List Port) (s : State), s.dev ≠ .warmReset → coveredPorts k.tgt = some l → ∃ t, exec (.release k w) s = .next t ∧ (∀ q, t.stopped q = (s.stopped q && !decide (q ∈ l))) ∧ (∀ q ∈ l, t.on BUDGET.VALID q = false) ∧ t.rd RING.OPCODE 0 = opRelease ∧ t.rd RING.STATUS 0 = stOK ∧ t.rd RING.TAG 0 = k.tag.toNat ∧ t.rd RING.SOURCE 0 = (if w then 4 else 1) ∧ t.rd RING.STOP_LANE_CNT 0 = min (s.rd RING.STOP_LANE_CNT 0 + 1) (2 ^ 32 - 1)) ∧
  (∀ (k : Packet) (w : Bool) (s : State), s.dev ≠ .warmReset → coveredPorts k.tgt = none → ∃ t, exec (.release k w) s = .next t ∧ (∀ q, t.stopped q = s.stopped q ∧ t.on BUDGET.VALID q = s.on BUDGET.VALID q) ∧ t.rd RING.OPCODE 0 = opRelease ∧ t.rd RING.STATUS 0 = stBAD_ARG ∧ t.rd RING.TAG 0 = k.tag.toNat ∧ t.rd RING.SOURCE 0 = (if w then 4 else 1) ∧ t.rd RING.STOP_LANE_CNT 0 = min (s.rd RING.STOP_LANE_CNT 0 + 1) (2 ^ 32 - 1)) ∧
  (∀ (k : Packet) (s : State), s.dev ≠ .warmReset → s.serves = true → s.room4 false 0 = true → (coveredPorts k.tgt).isSome = true → AwaitsResponse k [] s → ∃ t, exec (.release k false) s = .next t ∧ Responded { k with op := BitVec.ofNat 8 opRelease } stOK [] s t) ∧
  (∀ (k : Packet) (s : State), s.dev ≠ .warmReset → s.serves = true → s.room4 false 0 = true → coveredPorts k.tgt = none → AwaitsResponse k [] s → ∃ t, exec (.release k false) s = .next t ∧ Responded { k with op := BitVec.ofNat 8 opRelease } stBAD_ARG [] s t) ∧
  (∀ (k : Packet) (w : Bool) (s : State), s.dev = .warmReset → exec (.release k w) s = .next s)

/-- While the device does not serve packets (out of RUN and SAFE, or READY 0) and no ROM serves them either, each of NOP, GET_INFO, the policy, port, core, snapshot, time, fabric, ledger, OTP_PROGRAM and OTP_LOCK, pair and update commands leaves the state as it is. In host boot and in the recovery ROM each of them but GET_INFO and the update commands is answered DENIED; GET_INFO is answered with the device's information, and BAD_ARG with another TARGET or form. (R365, R380, R505, R506) -/
def Obligations.PacketCommandsNeedAServingDevice : Prop :=
  (∀ (k : Packet) (s : State), s.serves = false → s.inRom = false → exec (.nop k) s = .next s) ∧
  (∀ (k : Packet) (s : State), s.serves = false → s.inRom = true → AwaitsResponse k [] s → ∃ t, exec (.nop k) s = .next t ∧ Responded k stDENIED [] s t) ∧
  (∀ (k : Packet) (s : State), s.serves = false → s.inRom = false → exec (.setPolicy k) s = .next s) ∧
  (∀ (k : Packet) (s : State), s.serves = false → s.inRom = true → AwaitsResponse k [] s → ∃ t, exec (.setPolicy k) s = .next t ∧ Responded k stDENIED [] s t) ∧
  (∀ (k : Packet) (s : State), s.serves = false → s.inRom = false → exec (.getPolicy k) s = .next s) ∧
  (∀ (k : Packet) (s : State), s.serves = false → s.inRom = true → AwaitsResponse k [] s → ∃ t, exec (.getPolicy k) s = .next t ∧ Responded k stDENIED [] s t) ∧
  (∀ (k : Packet) (s : State), s.serves = false → s.inRom = false → exec (.portEnable k) s = .next s) ∧
  (∀ (k : Packet) (s : State), s.serves = false → s.inRom = true → AwaitsResponse k [] s → ∃ t, exec (.portEnable k) s = .next t ∧ Responded k stDENIED [] s t) ∧
  (∀ (k : Packet) (s : State), s.serves = false → s.inRom = false → exec (.portDisable k) s = .next s) ∧
  (∀ (k : Packet) (s : State), s.serves = false → s.inRom = true → AwaitsResponse k [] s → ∃ t, exec (.portDisable k) s = .next t ∧ Responded k stDENIED [] s t) ∧
  (∀ (k : Packet) (s : State), s.serves = false → s.inRom = false → exec (.portGetState k) s = .next s) ∧
  (∀ (k : Packet) (s : State), s.serves = false → s.inRom = true → AwaitsResponse k [] s → ∃ t, exec (.portGetState k) s = .next t ∧ Responded k stDENIED [] s t) ∧
  (∀ (k : Packet) (s : State), s.serves = false → s.inRom = false → exec (.portSwap k) s = .next s) ∧
  (∀ (k : Packet) (s : State), s.serves = false → s.inRom = true → AwaitsResponse k [] s → ∃ t, exec (.portSwap k) s = .next t ∧ Responded k stDENIED [] s t) ∧
  (∀ (k : Packet) (s : State), s.serves = false → s.inRom = false → exec (.portHardReset k) s = .next s) ∧
  (∀ (k : Packet) (s : State), s.serves = false → s.inRom = true → AwaitsResponse k [] s → ∃ t, exec (.portHardReset k) s = .next t ∧ Responded k stDENIED [] s t) ∧
  (∀ (k : Packet) (s : State), s.serves = false → s.inRom = false → exec (.portSendVdm k) s = .next s) ∧
  (∀ (k : Packet) (s : State), s.serves = false → s.inRom = true → AwaitsResponse k [] s → ∃ t, exec (.portSendVdm k) s = .next t ∧ Responded k stDENIED [] s t) ∧
  (∀ (k : Packet) (s : State), s.serves = false → s.inRom = false → exec (.portClearFault k) s = .next s) ∧
  (∀ (k : Packet) (s : State), s.serves = false → s.inRom = true → AwaitsResponse k [] s → ∃ t, exec (.portClearFault k) s = .next t ∧ Responded k stDENIED [] s t) ∧
  (∀ (k : Packet) (s : State), s.serves = false → s.inRom = false → exec (.portSetProfile k) s = .next s) ∧
  (∀ (k : Packet) (s : State), s.serves = false → s.inRom = true → AwaitsResponse k [] s → ∃ t, exec (.portSetProfile k) s = .next t ∧ Responded k stDENIED [] s t) ∧
  (∀ (k : Packet) (s : State), s.serves = false → s.inRom = false → exec (.portTest k) s = .next s) ∧
  (∀ (k : Packet) (s : State), s.serves = false → s.inRom = true → AwaitsResponse k [] s → ∃ t, exec (.portTest k) s = .next t ∧ Responded k stDENIED [] s t) ∧
  (∀ (k : Packet) (s : State), s.serves = false → s.inRom = false → exec (.warmReset k) s = .next s) ∧
  (∀ (k : Packet) (s : State), s.serves = false → s.inRom = true → AwaitsResponse k [] s → ∃ t, exec (.warmReset k) s = .next t ∧ Responded k stDENIED [] s t) ∧
  (∀ (k : Packet) (s : State), s.serves = false → s.inRom = false → exec (.coreReload k) s = .next s) ∧
  (∀ (k : Packet) (s : State), s.serves = false → s.inRom = true → AwaitsResponse k [] s → ∃ t, exec (.coreReload k) s = .next t ∧ Responded k stDENIED [] s t) ∧
  (∀ (k : Packet) (s : State), s.serves = false → s.inRom = false → exec (.coreRetire k) s = .next s) ∧
  (∀ (k : Packet) (s : State), s.serves = false → s.inRom = true → AwaitsResponse k [] s → ∃ t, exec (.coreRetire k) s = .next t ∧ Responded k stDENIED [] s t) ∧
  (∀ (k : Packet) (s : State), s.serves = false → s.inRom = false → exec (.snapshot k) s = .next s) ∧
  (∀ (k : Packet) (s : State), s.serves = false → s.inRom = true → AwaitsResponse k [] s → ∃ t, exec (.snapshot k) s = .next t ∧ Responded k stDENIED [] s t) ∧
  (∀ (k : Packet) (s : State), s.serves = false → s.inRom = false → exec (.readSnap k) s = .next s) ∧
  (∀ (k : Packet) (s : State), s.serves = false → s.inRom = true → AwaitsResponse k [] s → ∃ t, exec (.readSnap k) s = .next t ∧ Responded k stDENIED [] s t) ∧
  (∀ (k : Packet) (s : State), s.serves = false → s.inRom = false → exec (.timeSet k) s = .next s) ∧
  (∀ (k : Packet) (s : State), s.serves = false → s.inRom = true → AwaitsResponse k [] s → ∃ t, exec (.timeSet k) s = .next t ∧ Responded k stDENIED [] s t) ∧
  (∀ (k : Packet) (s : State), s.serves = false → s.inRom = false → exec (.timeGet k) s = .next s) ∧
  (∀ (k : Packet) (s : State), s.serves = false → s.inRom = true → AwaitsResponse k [] s → ∃ t, exec (.timeGet k) s = .next t ∧ Responded k stDENIED [] s t) ∧
  (∀ (k : Packet) (s : State), s.serves = false → s.inRom = false → exec (.weftSend k) s = .next s) ∧
  (∀ (k : Packet) (s : State), s.serves = false → s.inRom = true → AwaitsResponse k [] s → ∃ t, exec (.weftSend k) s = .next t ∧ Responded k stDENIED [] s t) ∧
  (∀ (k : Packet) (s : State), s.serves = false → s.inRom = false → exec (.weftRoute k) s = .next s) ∧
  (∀ (k : Packet) (s : State), s.serves = false → s.inRom = true → AwaitsResponse k [] s → ∃ t, exec (.weftRoute k) s = .next t ∧ Responded k stDENIED [] s t) ∧
  (∀ (k : Packet) (s : State), s.serves = false → s.inRom = false → exec (.weftStatus k) s = .next s) ∧
  (∀ (k : Packet) (s : State), s.serves = false → s.inRom = true → AwaitsResponse k [] s → ∃ t, exec (.weftStatus k) s = .next t ∧ Responded k stDENIED [] s t) ∧
  (∀ (k : Packet) (s : State), s.serves = false → s.inRom = false → exec (.ledgerRead k) s = .next s) ∧
  (∀ (k : Packet) (s : State), s.serves = false → s.inRom = true → AwaitsResponse k [] s → ∃ t, exec (.ledgerRead k) s = .next t ∧ Responded k stDENIED [] s t) ∧
  (∀ (k : Packet) (s : State), s.serves = false → s.inRom = false → exec (.ledgerFind k) s = .next s) ∧
  (∀ (k : Packet) (s : State), s.serves = false → s.inRom = true → AwaitsResponse k [] s → ∃ t, exec (.ledgerFind k) s = .next t ∧ Responded k stDENIED [] s t) ∧
  (∀ (k : Packet) (s : State), s.serves = false → s.inRom = false → exec (.ledgerWriteUser k) s = .next s) ∧
  (∀ (k : Packet) (s : State), s.serves = false → s.inRom = true → AwaitsResponse k [] s → ∃ t, exec (.ledgerWriteUser k) s = .next t ∧ Responded k stDENIED [] s t) ∧
  (∀ (k : Packet) (s : State), s.serves = false → s.inRom = false → exec (.ledgerExport k) s = .next s) ∧
  (∀ (k : Packet) (s : State), s.serves = false → s.inRom = true → AwaitsResponse k [] s → ∃ t, exec (.ledgerExport k) s = .next t ∧ Responded k stDENIED [] s t) ∧
  (∀ (k : Packet) (s : State), s.serves = false → s.inRom = false → exec (.ledgerPurge k) s = .next s) ∧
  (∀ (k : Packet) (s : State), s.serves = false → s.inRom = true → AwaitsResponse k [] s → ∃ t, exec (.ledgerPurge k) s = .next t ∧ Responded k stDENIED [] s t) ∧
  (∀ (k : Packet) (s : State), s.serves = false → s.inRom = false → exec (.otpLock k) s = .next s) ∧
  (∀ (k : Packet) (s : State), s.serves = false → s.inRom = true → AwaitsResponse k [] s → ∃ t, exec (.otpLock k) s = .next t ∧ Responded k stDENIED [] s t) ∧
  (∀ (k : Packet) (s : State), s.serves = false → s.inRom = false → exec (.pairEnrol k) s = .next s) ∧
  (∀ (k : Packet) (s : State), s.serves = false → s.inRom = true → AwaitsResponse k [] s → ∃ t, exec (.pairEnrol k) s = .next t ∧ Responded k stDENIED [] s t) ∧
  (∀ (k : Packet) (s : State), s.serves = false → s.inRom = false → exec (.pairHandover k) s = .next s) ∧
  (∀ (k : Packet) (s : State), s.serves = false → s.inRom = true → AwaitsResponse k [] s → ∃ t, exec (.pairHandover k) s = .next t ∧ Responded k stDENIED [] s t) ∧
  (∀ (k : Packet) (s : State), s.serves = false → s.inRom = false → exec (.pairLeave k) s = .next s) ∧
  (∀ (k : Packet) (s : State), s.serves = false → s.inRom = true → AwaitsResponse k [] s → ∃ t, exec (.pairLeave k) s = .next t ∧ Responded k stDENIED [] s t) ∧
  (∀ (k : Packet) (s : State), s.serves = false → s.inRom = false → exec (.pairStatus k) s = .next s) ∧
  (∀ (k : Packet) (s : State), s.serves = false → s.inRom = true → AwaitsResponse k [] s → ∃ t, exec (.pairStatus k) s = .next t ∧ Responded k stDENIED [] s t) ∧
  (∀ (k : Packet) (e : OtpEnv) (s : State), s.serves = false → s.inRom = false → exec (.otpProgram k e) s = .next s) ∧
  (∀ (k : Packet) (e : OtpEnv) (s : State), s.serves = false → s.inRom = true → AwaitsResponse k [] s → ∃ t, exec (.otpProgram k e) s = .next t ∧ Responded k stDENIED [] s t) ∧
  (∀ (k : Packet) (s : State), s.serves = false → s.inRom = false → exec (.getInfo k) s = .next s) ∧
  (∀ (k : Packet) (s : State), s.inRom = true → k.chip = true → k.plain = true → AwaitsResponse k s.info s → ∃ t, exec (.getInfo k) s = .next t ∧ Responded k stOK s.info s t) ∧
  (∀ (k : Packet) (s : State), s.serves = true ∨ s.inRom = true → k.chip = false ∨ k.plain = false → AwaitsResponse k [] s → ∃ t, exec (.getInfo k) s = .next t ∧ Responded k stBAD_ARG [] s t) ∧
  (∀ (k : Packet) (s : State), s.serves = false → s.inRom = false → exec (.updBegin k) s = .next s) ∧
  (∀ (k : Packet) (s : State), s.serves = false → s.inRom = false → exec (.updData k) s = .next s) ∧
  (∀ (k : Packet) (m : Nat) (s : State), s.serves = false → s.inRom = false → exec (.updEnd k m) s = .next s) ∧
  (∀ (k : Packet) (s : State), s.serves = false → s.inRom = false → exec (.updStatus k) s = .next s) ∧
  (∀ (k : Packet) (e : OtpEnv) (s : State), s.serves = false → s.inRom = false → exec (.updCommit k e) s = .next s) ∧
  (∀ (k : Packet) (s : State), s.serves = false → s.inRom = false → exec (.updAbort k) s = .next s)

end
end

