-- ==== Sys2Proof/Laws/Areas.lean ====
section
/-! SUPPORT. The register table, the rings, and what a command may change: the lemmas of the operations that every meaning is
built from. -/

set_option linter.all false

namespace Sys2Proof.Machine

/-! ## The register table -/

theorem mem_insert (l : RegTable) (k v : Nat) (x : Nat) :
    x ∈ (l.insert k v).map Prod.fst → x = k ∨ x ∈ l.map Prod.fst := by
  induction l with
  | nil => simp [RegTable.insert]
  | cons p l ih =>
    obtain ⟨a, b⟩ := p
    unfold RegTable.insert
    split
    · simp
    · split
      · simp; tauto
      · simp only [List.map_cons, List.mem_cons]; intro h; rcases h with h | h
        · tauto
        · have := ih h; tauto

theorem sorted_insert (l : RegTable) (k v : Nat) (h : (l.map Prod.fst).Pairwise (· < ·)) :
    ((l.insert k v).map Prod.fst).Pairwise (· < ·) := by
  induction l with
  | nil => simp [RegTable.insert]
  | cons p l ih =>
    obtain ⟨a, b⟩ := p
    rw [List.map_cons, List.pairwise_cons] at h
    unfold RegTable.insert
    split
    · rename_i hk
      rw [List.map_cons, List.pairwise_cons]
      refine ⟨?_, by rw [List.map_cons, List.pairwise_cons]; exact h⟩
      intro x hx
      simp only [List.map_cons, List.mem_cons] at hx
      rcases hx with rfl | hx
      · exact hk
      · exact lt_trans hk (h.1 x hx)
    · split
      · rename_i _ hk
        subst hk
        rw [List.map_cons, List.pairwise_cons]; exact h
      · rename_i h1 h2
        rw [List.map_cons, List.pairwise_cons]
        refine ⟨?_, ih h.2⟩
        intro x hx
        rcases mem_insert l k v x hx with rfl | hx
        · omega
        · exact h.1 x hx

theorem erase_sublist (l : RegTable) (k : Nat) : (l.erase k).Sublist l := by
  induction l with
  | nil => exact List.Sublist.refl _
  | cons p l ih =>
    obtain ⟨a, b⟩ := p
    unfold RegTable.erase
    split
    · exact ih.cons _
    · exact ih.cons_cons _

theorem sorted_put (l : RegTable) (k d v : Nat) (h : (l.map Prod.fst).Pairwise (· < ·)) :
    ((l.put k d v).map Prod.fst).Pairwise (· < ·) := by
  unfold RegTable.put
  split
  · exact h.sublist ((erase_sublist l k).map _)
  · exact sorted_insert l k v h

theorem sorted_filter (l : RegTable) (f : Nat × Nat → Bool) (h : (l.map Prod.fst).Pairwise (· < ·)) :
    ((l.filter f).map Prod.fst).Pairwise (· < ·) := h.sublist (List.filter_sublist.map _)

theorem get_insert_ne (l : RegTable) (k v x d : Nat) (h : x ≠ k) : (l.insert k v).get x d = l.get x d := by
  induction l with
  | nil => simp [RegTable.insert, RegTable.get, Ne.symm h]
  | cons a l ih =>
    obtain ⟨a, b⟩ := a
    unfold RegTable.insert
    split
    · simp [RegTable.get, Ne.symm h]
    · split
      · rename_i e; subst e; simp [RegTable.get, Ne.symm h]
      · simp only [RegTable.get, ih]

theorem get_insert_self (l : RegTable) (k v d : Nat) : (l.insert k v).get k d = v := by
  induction l with
  | nil => simp [RegTable.insert, RegTable.get]
  | cons a l ih =>
    obtain ⟨a, b⟩ := a
    unfold RegTable.insert
    split
    · simp [RegTable.get]
    · split
      · simp [RegTable.get]
      · rename_i h; simp only [RegTable.get, if_neg h, ih]

theorem get_erase_ne (l : RegTable) (k x d : Nat) (h : x ≠ k) : (l.erase k).get x d = l.get x d := by
  induction l with
  | nil => rfl
  | cons a l ih =>
    obtain ⟨a, b⟩ := a
    unfold RegTable.erase
    split
    · rename_i e; subst e; simp only [RegTable.get, if_neg (Ne.symm h), ih]
    · simp only [RegTable.get, ih]

theorem get_erase_self (l : RegTable) (k d : Nat) : (l.erase k).get k d = d := by
  induction l with
  | nil => rfl
  | cons a l ih =>
    obtain ⟨a, b⟩ := a
    unfold RegTable.erase
    split
    · exact ih
    · rename_i h; simp only [RegTable.get, if_neg h, ih]

theorem get_put_ne (l : RegTable) (k e v x d : Nat) (h : x ≠ k) : (l.put k e v).get x d = l.get x d := by
  unfold RegTable.put; split
  · exact get_erase_ne l k x d h
  · exact get_insert_ne l k v x d h

theorem get_put_self (l : RegTable) (k d v : Nat) : (l.put k d v).get k d = v := by
  unfold RegTable.put; split
  · rename_i e; rw [get_erase_self, e]
  · exact get_insert_self l k v d

/-! ## Rings -/

theorem granules_pos (e : Entry) : 1 ≤ e.granules := by
  cases e with
  | ev r => exact le_refl 1
  | pkt p k => simp only [Entry.granules, packetGranules, cdiv]; omega

theorem occ_set (l : List Entry) (i : Nat) (e : EvRec) :
    ((l.set i (.ev e)).map Entry.granules).sum ≤ (l.map Entry.granules).sum := by
  induction l generalizing i with
  | nil => simp
  | cons a l ih =>
    cases i with
    | zero => simp only [List.set_cons_zero, List.map_cons, List.sum_cons]; have := granules_pos a; show 1 + _ ≤ _; omega
    | succ i => simp only [List.set_cons_succ, List.map_cons, List.sum_cons]; have := ih i; omega

theorem occ_erase (l : List Entry) (i : Nat) (h : i < l.length) :
    ((l.eraseIdx i).map Entry.granules).sum + 1 ≤ (l.map Entry.granules).sum := by
  induction l generalizing i with
  | nil => simp at h
  | cons a l ih =>
    cases i with
    | zero => simp only [List.eraseIdx_cons_zero, List.map_cons, List.sum_cons]; have := granules_pos a; omega
    | succ i =>
      simp only [List.eraseIdx_cons_succ, List.map_cons, List.sum_cons]
      have := ih i (by simpa using h); omega

theorem occ_drop (l : List Entry) (n : Nat) :
    ((l.drop n).map Entry.granules).sum ≤ (l.map Entry.granules).sum := by
  induction l generalizing n with
  | nil => simp
  | cons a l ih =>
    cases n with
    | zero => simp
    | succ n => simp only [List.drop_succ_cons, List.map_cons, List.sum_cons]; have := ih n; omega

theorem occ_eraseIdx_le (l : List Entry) (i : Nat) :
    ((l.eraseIdx i).map Entry.granules).sum ≤ (l.map Entry.granules).sum := by
  by_cases h : i < l.length
  · have := occ_erase l i h; omega
  · rw [List.eraseIdx_of_length_le (by omega)]

theorem ite_some {α : Type} {c : Prop} [Decidable c] {y x : α} {o : Option α} (h : (if c then some y else o) = some x) :
    x = y ∨ o = some x := by
  by_cases hc : c
  · rw [if_pos hc] at h; cases h; exact .inl rfl
  · rw [if_neg hc] at h; exact .inr h

theorem oldestAt_lt (n : Nat) (f : Entry → Bool) (l : List Entry) :
    ∀ (i : Nat) (best : Option (Nat × Nat)) (m : Nat), (∀ x, best = some x → x.1 < i) →
      oldestAt n f i best l = some m → m < i + l.length := by
  induction l with
  | nil =>
    intro i best m hb h
    cases best with
    | none => simp [oldestAt] at h
    | some x => simp [oldestAt] at h; have := hb x rfl; simp; omega
  | cons e l ih =>
    intro i best m hb h
    unfold oldestAt at h
    have := ih (i + 1) _ m ?_ h
    · simp only [List.length_cons]; omega
    · intro x hx
      rcases ite_some hx with rfl | hx
      · simp
      · have := hb x hx; omega

theorem oldest_lt (r : RingSt) (f : Entry → Bool) (i : Nat) (h : r.oldest f = some i) : i < r.entries.length := by
  unfold RingSt.oldest at h
  simp only [Option.map_eq_some_iff] at h
  obtain ⟨a, ha, rfl⟩ := h
  have := oldestAt_lt _ _ _ _ _ _ (by simp) ha
  simp only [List.length_drop] at this
  split at this <;> split <;> simp_all <;> omega

/-! ## Areas -/

theorem Within.refl (m p : Nat) (s : State) : Within m p s s :=
  ⟨id, id, rfl, fun _ _ _ => rfl, fun _ _ _ => rfl, fun _ => rfl, fun _ => rfl, fun _ => rfl, fun _ => rfl, fun _ => rfl, fun _ => rfl, fun _ => rfl, fun _ => rfl, fun _ => rfl, fun _ => rfl, fun _ => rfl, fun _ => rfl, fun _ => rfl, fun _ => rfl, fun _ => rfl, fun _ => rfl, fun _ => rfl, fun _ => rfl, fun _ => rfl, fun _ => rfl, fun _ => rfl, fun _ => rfl, fun _ => rfl, fun _ => rfl, fun _ => rfl, fun _ => rfl, fun _ => rfl, fun _ => rfl, fun _ => rfl, fun _ => rfl, fun _ => rfl, fun _ => rfl, fun _ => rfl, fun _ => rfl, fun _ => rfl, fun _ => rfl, fun _ => rfl, fun _ => rfl, fun _ => rfl, fun _ => rfl, fun _ => rfl, fun _ => rfl, fun _ => rfl, fun _ => rfl, fun _ _ _ => rfl⟩

theorem bitOf {m a n : Nat} (h : m ||| a = m) (b : a.testBit n = true) : m.testBit n = true := by
  rw [← h, Nat.testBit_or, b, Bool.or_true]

theorem sub {m a b : Nat} (h : m ||| a = m) (e : a ||| b = a) : m ||| b = m := by
  rw [← h, Nat.or_assoc, e]

theorem pow_bit {m n : Nat} (h : m ||| 2 ^ n = m) : m.testBit n = true := by
  refine bitOf h ?_
  rw [Nat.testBit_two_pow]; simp

theorem key_page (F : Field) (i : Nat) (a : F.off < 1024) (b : F.lo < 32) : F.key i / 2 ^ 25 = F.page := by
  unfold Field.key; have := Nat.mod_lt i (show 0 < 1024 by decide); omega

theorem key_off (F : Field) (i : Nat) (a : F.off < 1024) (b : F.lo < 32) : F.key i / 2 ^ 15 % 1024 = F.off := by
  unfold Field.key; have := Nat.mod_lt i (show 0 < 1024 by decide); omega

theorem key_inst (F : Field) (i : Nat) : F.key i % 1024 = i % 1024 := by
  unfold Field.key; omega

theorem touch_any {m : Nat} {F : Field} (p i : Nat) (hm : m ||| fieldMask false F = m) : touch m p (F.key i) = true := by
  unfold fieldMask at hm
  unfold touch
  split at hm
  · rename_i h
    rw [key_page F i h.1 h.2, key_off F i h.1 h.2, pow_bit hm]; simp
  · rw [pow_bit hm]; simp

theorem touch_own {m : Nat} {F : Field} (p : Port) (hm : m ||| fieldMask true F = m) (ha : fieldArr F = false) :
    touch m p (F.key p) = true := by
  unfold fieldMask at hm
  unfold touch
  split at hm
  · rename_i h
    have hk : keyPort (F.key p) = p.val := by
      unfold keyPort
      rw [key_page F _ h.1 h.2, key_off F _ h.1 h.2, key_inst]
      unfold fieldArr at ha
      rw [if_neg (by simpa using ha)]
      omega
    rw [key_page F _ h.1 h.2, key_off F _ h.1 h.2, pow_bit hm, hk]; simp
  · rw [pow_bit hm]; simp

theorem touch_arr {m : Nat} {F : Field} (p : Port) (k : Nat) (hm : m ||| fieldMask true F = m) (ha : fieldArr F = true)
    (hk : k < 16) : touch m p (F.key (pidx p k)) = true := by
  unfold fieldMask at hm
  unfold touch
  split at hm
  · rename_i h
    have hk : keyPort (F.key (pidx p k)) = p.val := by
      unfold keyPort
      rw [key_page F _ h.1 h.2, key_off F _ h.1 h.2, key_inst]
      unfold fieldArr at ha
      rw [if_pos (by simpa using ha)]
      unfold pidx; omega
    rw [key_page F _ h.1 h.2, key_off F _ h.1 h.2, pow_bit hm, hk]; simp
  · rw [pow_bit hm]; simp

theorem within_regs {m p : Nat} {s0 s : State} (F : Field) (i v : Nat) (ht : touch m p (F.key i) = true)
    (h : Within m p s0 s) : Within m p s0 (s.wr F i v) :=
  ⟨fun a => sorted_put _ _ _ _ (h.table a), h.ringsFit, h.queue,
   fun k d hk => (by
     unfold State.wr
     dsimp only
     rw [get_put_ne _ _ _ _ _ _ (by rintro rfl; rw [ht] at hk; cases hk)]
     exact h.regs k d hk),
   h.ports, h.dev, h.rings, h.mbox, h.staging, h.notice, h.stop, h.role, h.island, h.islandE, h.returnTick, h.supply, h.feeds, h.monRepeat, h.chipFailed, h.otp, h.busV, h.adcCheck, h.adcRepeat, h.calNext, h.adcCal, h.svc, h.planned, h.bud, h.led, h.pair, h.spi, h.smb, h.weft, h.tim, h.snap, h.flash, h.boot, h.pow, h.polFlash, h.retiredMask, h.retiredFeeds, h.marks, h.time, h.frac, h.up, h.served2, h.freeCount, h.islRole, h.updates, h.lowRings⟩

theorem State.wr_within {m p : Nat} {s0 : State} (s : State) (F : Field) (i v : Nat) (hm : m ||| fieldMask false F = m)
    (h : Within m p s0 s) : Within m p s0 (s.wr F i v) := within_regs F i v (touch_any p i hm) h

theorem State.wr_own {m : Nat} {p : Port} {s0 : State} (s : State) (F : Field) (v : Nat) (hm : m ||| fieldMask true F = m)
    (ha : fieldArr F = false) (h : Within m p s0 s) : Within m p s0 (s.wr F p v) :=
  within_regs F p v (touch_own p hm ha) h

theorem State.wr_arr {m : Nat} {p : Port} {s0 : State} (s : State) (F : Field) (k v : Nat) (hm : m ||| fieldMask true F = m)
    (ha : fieldArr F = true) (hk : k < 16) (h : Within m p s0 s) : Within m p s0 (s.wr F (pidx p k) v) :=
  within_regs F _ v (touch_arr p k hm ha hk) h

theorem State.wrI_within {m p : Nat} {s0 : State} (s : State) (F : Field) (i : Nat) (v : Int) (hm : m ||| fieldMask false F = m)
    (h : Within m p s0 s) : Within m p s0 (s.wrI F i v) := State.wr_within _ _ _ _ hm h
theorem State.wrI_own {m : Nat} {p : Port} {s0 : State} (s : State) (F : Field) (v : Int) (hm : m ||| fieldMask true F = m)
    (ha : fieldArr F = false) (h : Within m p s0 s) : Within m p s0 (s.wrI F p v) := State.wr_own _ _ _ hm ha h

theorem State.flag_within {m p : Nat} {s0 : State} (s : State) (F : Field) (i : Nat) (b : Bool) (hm : m ||| fieldMask false F = m)
    (h : Within m p s0 s) : Within m p s0 (s.flag F i b) := State.wr_within _ _ _ _ hm h
theorem State.flag_own {m : Nat} {p : Port} {s0 : State} (s : State) (F : Field) (b : Bool) (hm : m ||| fieldMask true F = m)
    (ha : fieldArr F = false) (h : Within m p s0 s) : Within m p s0 (s.flag F p b) := State.wr_own _ _ _ hm ha h

theorem State.bumpBy_within {m p : Nat} {s0 : State} (s : State) (F : Field) (i : Nat) (n : Nat) (hm : m ||| fieldMask false F = m)
    (h : Within m p s0 s) : Within m p s0 (s.bumpBy F i n) := State.wr_within _ _ _ _ hm h
theorem State.bumpBy_own {m : Nat} {p : Port} {s0 : State} (s : State) (F : Field) (n : Nat) (hm : m ||| fieldMask true F = m)
    (ha : fieldArr F = false) (h : Within m p s0 s) : Within m p s0 (s.bumpBy F p n) := State.wr_own _ _ _ hm ha h

theorem State.wrSat_within {m p : Nat} {s0 : State} (s : State) (F : Field) (i : Nat) (v : Nat) (hm : m ||| fieldMask false F = m)
    (h : Within m p s0 s) : Within m p s0 (s.wrSat F i v) := State.wr_within _ _ _ _ hm h
theorem State.wrSat_own {m : Nat} {p : Port} {s0 : State} (s : State) (F : Field) (v : Nat) (hm : m ||| fieldMask true F = m)
    (ha : fieldArr F = false) (h : Within m p s0 s) : Within m p s0 (s.wrSat F p v) := State.wr_own _ _ _ hm ha h

theorem State.bump_within {m p : Nat} {s0 : State} (s : State) (F : Field) (i : Nat) (hm : m ||| fieldMask false F = m)
    (h : Within m p s0 s) : Within m p s0 (s.bump F i) := State.wr_within _ _ _ _ hm h
theorem State.bump_own {m : Nat} {p : Port} {s0 : State} (s : State) (F : Field) (hm : m ||| fieldMask true F = m)
    (ha : fieldArr F = false) (h : Within m p s0 s) : Within m p s0 (s.bump F p) := State.wr_own _ _ _ hm ha h
theorem State.wrBit_within {m p : Nat} {s0 : State} (s : State) (F : Field) (i n : Nat) (b : Bool)
    (hm : m ||| fieldMask false F = m) (h : Within m p s0 s) : Within m p s0 (s.wrBit F i n b) :=
  State.wr_within _ _ _ _ hm h
theorem State.wrBit_own {m : Nat} {p : Port} {s0 : State} (s : State) (F : Field) (n : Nat) (b : Bool)
    (hm : m ||| fieldMask true F = m) (ha : fieldArr F = false) (h : Within m p s0 s) : Within m p s0 (s.wrBit F p n b) :=
  State.wr_own _ _ _ hm ha h
theorem State.irq_within {m p : Nat} {s0 : State} (s : State) (pg i b : Nat) (hm : m ||| fieldMask false (IRQ_STAT pg) = m)
    (h : Within m p s0 s) : Within m p s0 (s.irq pg i b) := State.wr_within _ _ _ _ hm h
theorem State.irq_own {m : Nat} {p : Port} {s0 : State} (s : State) (pg b : Nat) (hm : m ||| fieldMask true (IRQ_STAT pg) = m)
    (ha : fieldArr (IRQ_STAT pg) = false) (h : Within m p s0 s) : Within m p s0 (s.irq pg p b) :=
  State.wr_own _ _ _ hm ha h
theorem State.level_within {m p : Nat} {s0 : State} (s : State) (pg i b : Nat) (v : Bool)
    (hm : m ||| fieldMask false (IRQ_STAT pg) = m) (h : Within m p s0 s) : Within m p s0 (s.level pg i b v) := by
  unfold State.level
  dsimp only
  have h1 := State.wrBit_within s (IRQ_RAW pg) i b v (by exact hm) h
  split
  · exact State.irq_within _ _ _ _ hm h1
  · exact h1
theorem State.level_own {m : Nat} {p : Port} {s0 : State} (s : State) (pg b : Nat) (v : Bool)
    (hm : m ||| fieldMask true (IRQ_STAT pg) = m) (ha : fieldArr (IRQ_STAT pg) = false) (h : Within m p s0 s) :
    Within m p s0 (s.level pg p b v) := by
  unfold State.level
  dsimp only
  have h1 := State.wrBit_own s (IRQ_RAW pg) b v (by exact hm) (by unfold fieldArr at *; simp only [IRQ_RAW, IRQ_STAT] at *; simp) h
  split
  · exact State.irq_own _ _ _ hm ha h1
  · exact h1
theorem State.err_within {m p : Nat} {s0 : State} (s : State) (pg i code off : Nat)
    (hm : m ||| fieldMask false (IRQ_STAT pg) = m) (h : Within m p s0 s) : Within m p s0 (s.err pg i code off) :=
  State.wr_within _ _ _ _ (by exact hm) (State.wr_within _ _ _ _ (by exact hm) (State.wr_within _ _ _ _ (by exact hm) h))
theorem State.err_own {m : Nat} {p : Port} {s0 : State} (s : State) (pg code off : Nat)
    (hm : m ||| fieldMask true (IRQ_STAT pg) = m) (h : Within m p s0 s) : Within m p s0 (s.err pg p code off) := by
  have a : fieldArr (ERR_SEQ pg) = false ∧ fieldArr (ERR_CODE pg) = false ∧ fieldArr (ERR_OFFSET pg) = false := by
    unfold fieldArr; simp only [ERR_SEQ, ERR_CODE, ERR_OFFSET]; simp
  exact State.wr_own _ _ _ (by exact hm) a.2.2 (State.wr_own _ _ _ (by exact hm) a.2.1 (State.wr_own _ _ _ (by exact hm) a.1 h))
theorem State.errF_within {m p : Nat} {s0 : State} (s : State) (F : Field) (i code : Nat)
    (hm : m ||| fieldMask false (IRQ_STAT F.page) = m) (h : Within m p s0 s) : Within m p s0 (s.errF F i code) :=
  State.err_within _ _ _ _ _ hm h
theorem State.errF_own {m : Nat} {p : Port} {s0 : State} (s : State) (F : Field) (code : Nat)
    (hm : m ||| fieldMask true (IRQ_STAT F.page) = m) (h : Within m p s0 s) : Within m p s0 (s.errF F p code) :=
  State.err_own _ _ _ _ hm h

theorem State.modPort_within {m p : Nat} {s0 : State} (s : State) (q : Port) (f : PortSt → PortSt)
    (hm : m ||| 2 ^ areaAllRec = m) (h : Within m p s0 s) : Within m p s0 (s.modPort q f) :=
  ⟨h.table, h.ringsFit, h.queue, h.regs, fun q hq _ => (by rw [pow_bit hm] at hq; cases hq), h.dev, h.rings, h.mbox, h.staging, h.notice, h.stop, h.role, h.island, h.islandE, h.returnTick, h.supply, h.feeds, h.monRepeat, h.chipFailed, h.otp, h.busV, h.adcCheck, h.adcRepeat, h.calNext, h.adcCal, h.svc, h.planned, h.bud, h.led, h.pair, h.spi, h.smb, h.weft, h.tim, h.snap, h.flash, h.boot, h.pow, h.polFlash, h.retiredMask, h.retiredFeeds, h.marks, h.time, h.frac, h.up, h.served2, h.freeCount, h.islRole, h.updates, h.lowRings⟩

theorem State.modPort_own {m : Nat} {p : Port} {s0 : State} (s : State) (f : PortSt → PortSt)
    (hm : m ||| 2 ^ areaOwnRec = m) (h : Within m p s0 s) : Within m p s0 (s.modPort p f) :=
  ⟨h.table, h.ringsFit, h.queue, h.regs, fun q hq ho => (by
    have : q.val ≠ p.val := by
      rcases ho with ho | ho
      · rw [pow_bit hm] at ho; cases ho
      · exact ho
    rw [← h.ports q hq (.inr this)]
    unfold State.port State.modPort
    simp only [Vector.get_eq_getElem]
    rw [Vector.getElem_set_ne _ _ (Ne.symm this)]), h.dev, h.rings, h.mbox, h.staging, h.notice, h.stop, h.role, h.island, h.islandE, h.returnTick, h.supply, h.feeds, h.monRepeat, h.chipFailed, h.otp, h.busV, h.adcCheck, h.adcRepeat, h.calNext, h.adcCal, h.svc, h.planned, h.bud, h.led, h.pair, h.spi, h.smb, h.weft, h.tim, h.snap, h.flash, h.boot, h.pow, h.polFlash, h.retiredMask, h.retiredFeeds, h.marks, h.time, h.frac, h.up, h.served2, h.freeCount, h.islRole, h.updates, h.lowRings⟩

theorem setRing_within {m p : Nat} {s0 : State} (s : State) (q : Fin 40) (r : RingSt) (hm : m ||| 2 ^ 94 = m)
    (hl : 5 ≤ q.val ∨ m ||| 2 ^ 135 = m) (hr : (q ≠ 0 → (s.ring q).occ ≤ ringSize q) → q ≠ 0 → r.occ ≤ ringSize q) (h : Within m p s0 s) :
    Within m p s0 (s.setRing q r) :=
  ⟨h.table, fun a => (by
    intro q' hq'
    have hs := h.ringsFit a
    unfold State.ring State.setRing
    have := hs q' hq'
    unfold State.ring at this
    simp only [Vector.get_eq_getElem] at *
    rw [Vector.getElem_set]
    split
    · rename_i e
      have : q = q' := by ext; simpa using e
      subst this
      exact hr (hs q) hq'
    · exact this), h.queue, h.regs, h.ports, h.dev, fun b => (by rw [pow_bit hm] at b; cases b), h.mbox, h.staging, h.notice, h.stop, h.role, h.island, h.islandE, h.returnTick, h.supply, h.feeds, h.monRepeat, h.chipFailed, h.otp, h.busV, h.adcCheck, h.adcRepeat, h.calNext, h.adcCal, h.svc, h.planned, h.bud, h.led, h.pair, h.spi, h.smb, h.weft, h.tim, h.snap, h.flash, h.boot, h.pow, h.polFlash, h.retiredMask, h.retiredFeeds, h.marks, h.time, h.frac, h.up, h.served2, h.freeCount, h.islRole, h.updates, fun b q2 hq2 => (by
     have hne : q.val ≠ q2.val := by
       rcases hl with e | e
       · omega
       · rw [pow_bit e] at b; cases b
     rw [← h.lowRings b q2 hq2]
     unfold State.ring State.setRing
     simp only [Vector.get_eq_getElem]
     rw [Vector.getElem_set_ne _ _ hne])⟩

theorem within_mk {m p : Nat} {s0 s : State} {x_ports : Vector PortSt 32} {x_dev : DevState} {x_mbox : Vector Mbox 64} {x_staging : Vector (List Word) 16} {x_notice : Vector (BitVec 64) 16} {x_stop : BitVec 32} {x_role : RolePolicy} {x_island : Option Nat} {x_islandE : Nat} {x_returnTick : Option Nat} {x_supply : SupplySt} {x_feeds : FeedsSt} {x_monRepeat : List (Nat × Nat)} {x_chipFailed : BitVec 8} {x_otp : OtpSt} {x_busV : Int} {x_adcCheck : BitVec 9} {x_adcRepeat : Nat} {x_calNext : Nat} {x_adcCal : Option (Nat × Nat)} {x_svc : SvcSt} {x_planned : BitVec 2} {x_bud : BudSt} {x_led : LedSt} {x_pair : PairSt} {x_spi : SpiSt} {x_smb : SmbSt} {x_weft : WeftSt} {x_tim : TimeSt} {x_snap : SnapSt} {x_flash : FlashSt} {x_boot : BootSt} {x_pow : PowSt} {x_polFlash : List (Nat × Option (List Byte) × Option (List Byte))} {x_retiredMask : BitVec 32} {x_retiredFeeds : BitVec 2} {x_marks : List Nat} {x_time : Nat} {x_frac : Int} {x_up : Nat} {x_served2 : Nat} {x_freeCount : Nat} {x_islRole : RolePolicy} {x_updates : Vector Nat 2}
    (h_ports : m.testBit areaAllRec = true ∨ x_ports = s.ports) (h_dev : m.testBit 93 = true ∨ x_dev = s.dev) (h_mbox : m.testBit 95 = true ∨ x_mbox = s.mbox) (h_staging : m.testBit 96 = true ∨ x_staging = s.staging) (h_notice : m.testBit 97 = true ∨ x_notice = s.notice) (h_stop : m.testBit 98 = true ∨ x_stop = s.stop) (h_role : m.testBit 99 = true ∨ x_role = s.role) (h_island : m.testBit 100 = true ∨ x_island = s.island) (h_islandE : m.testBit 101 = true ∨ x_islandE = s.islandE) (h_returnTick : m.testBit 102 = true ∨ x_returnTick = s.returnTick) (h_supply : m.testBit 103 = true ∨ x_supply = s.supply) (h_feeds : m.testBit 104 = true ∨ x_feeds = s.feeds) (h_monRepeat : m.testBit 105 = true ∨ x_monRepeat = s.monRepeat) (h_chipFailed : m.testBit 106 = true ∨ x_chipFailed = s.chipFailed) (h_otp : m.testBit 107 = true ∨ x_otp = s.otp) (h_busV : m.testBit 108 = true ∨ x_busV = s.busV) (h_adcCheck : m.testBit 109 = true ∨ x_adcCheck = s.adcCheck) (h_adcRepeat : m.testBit 110 = true ∨ x_adcRepeat = s.adcRepeat) (h_calNext : m.testBit 111 = true ∨ x_calNext = s.calNext) (h_adcCal : m.testBit 112 = true ∨ x_adcCal = s.adcCal) (h_svc : m.testBit 113 = true ∨ x_svc = s.svc) (h_planned : m.testBit 114 = true ∨ x_planned = s.planned) (h_bud : m.testBit 115 = true ∨ x_bud = s.bud) (h_led : m.testBit 116 = true ∨ x_led = s.led) (h_pair : m.testBit 117 = true ∨ x_pair = s.pair) (h_spi : m.testBit 118 = true ∨ x_spi = s.spi) (h_smb : m.testBit 119 = true ∨ x_smb = s.smb) (h_weft : m.testBit 120 = true ∨ x_weft = s.weft) (h_tim : m.testBit 121 = true ∨ x_tim = s.tim) (h_snap : m.testBit 122 = true ∨ x_snap = s.snap) (h_flash : m.testBit 123 = true ∨ x_flash = s.flash) (h_boot : m.testBit 124 = true ∨ x_boot = s.boot) (h_pow : m.testBit 125 = true ∨ x_pow = s.pow) (h_polFlash : m.testBit 126 = true ∨ x_polFlash = s.polFlash) (h_retiredMask : m.testBit 127 = true ∨ x_retiredMask = s.retiredMask) (h_retiredFeeds : m.testBit 128 = true ∨ x_retiredFeeds = s.retiredFeeds) (h_marks : m.testBit 129 = true ∨ x_marks = s.marks) (h_time : m.testBit 130 = true ∨ x_time = s.time) (h_frac : m.testBit 131 = true ∨ x_frac = s.frac) (h_up : m.testBit 132 = true ∨ x_up = s.up) (h_served2 : m.testBit 133 = true ∨ x_served2 = s.served2) (h_freeCount : m.testBit 134 = true ∨ x_freeCount = s.freeCount) (h_islRole : m.testBit 136 = true ∨ x_islRole = s.islRole) (h_updates : m.testBit 137 = true ∨ x_updates = s.updates)
    (h : Within m p s0 s) : Within m p s0 { dev := x_dev, regs := s.regs, ports := x_ports, rings := s.rings, mbox := x_mbox, staging := x_staging, notice := x_notice, stop := x_stop, role := x_role, island := x_island, islandE := x_islandE, returnTick := x_returnTick, supply := x_supply, feeds := x_feeds, monRepeat := x_monRepeat, chipFailed := x_chipFailed, otp := x_otp, busV := x_busV, adcCheck := x_adcCheck, adcRepeat := x_adcRepeat, calNext := x_calNext, adcCal := x_adcCal, svc := x_svc, planned := x_planned, bud := x_bud, led := x_led, pair := x_pair, spi := x_spi, smb := x_smb, weft := x_weft, tim := x_tim, snap := x_snap, flash := x_flash, boot := x_boot, pow := x_pow, polFlash := x_polFlash, retiredMask := x_retiredMask, retiredFeeds := x_retiredFeeds, marks := x_marks, time := x_time, frac := x_frac, up := x_up, served2 := x_served2, freeCount := x_freeCount, islRole := x_islRole, updates := x_updates, pending := s.pending } :=
  ⟨h.table, h.ringsFit, h.queue, h.regs, fun q a b => (by
     rcases h_ports with e | e
     · rw [e] at a; cases a
     · rw [← h.ports q a b]; unfold State.port; rw [e]),
   fun a => (by rcases h_dev with e | e; (rw [e] at a; cases a); (exact e.trans (h.dev a))), h.rings, fun a => (by rcases h_mbox with e | e; (rw [e] at a; cases a); (exact e.trans (h.mbox a))), fun a => (by rcases h_staging with e | e; (rw [e] at a; cases a); (exact e.trans (h.staging a))), fun a => (by rcases h_notice with e | e; (rw [e] at a; cases a); (exact e.trans (h.notice a))), fun a => (by rcases h_stop with e | e; (rw [e] at a; cases a); (exact e.trans (h.stop a))), fun a => (by rcases h_role with e | e; (rw [e] at a; cases a); (exact e.trans (h.role a))), fun a => (by rcases h_island with e | e; (rw [e] at a; cases a); (exact e.trans (h.island a))), fun a => (by rcases h_islandE with e | e; (rw [e] at a; cases a); (exact e.trans (h.islandE a))), fun a => (by rcases h_returnTick with e | e; (rw [e] at a; cases a); (exact e.trans (h.returnTick a))), fun a => (by rcases h_supply with e | e; (rw [e] at a; cases a); (exact e.trans (h.supply a))), fun a => (by rcases h_feeds with e | e; (rw [e] at a; cases a); (exact e.trans (h.feeds a))), fun a => (by rcases h_monRepeat with e | e; (rw [e] at a; cases a); (exact e.trans (h.monRepeat a))), fun a => (by rcases h_chipFailed with e | e; (rw [e] at a; cases a); (exact e.trans (h.chipFailed a))), fun a => (by rcases h_otp with e | e; (rw [e] at a; cases a); (exact e.trans (h.otp a))), fun a => (by rcases h_busV with e | e; (rw [e] at a; cases a); (exact e.trans (h.busV a))), fun a => (by rcases h_adcCheck with e | e; (rw [e] at a; cases a); (exact e.trans (h.adcCheck a))), fun a => (by rcases h_adcRepeat with e | e; (rw [e] at a; cases a); (exact e.trans (h.adcRepeat a))), fun a => (by rcases h_calNext with e | e; (rw [e] at a; cases a); (exact e.trans (h.calNext a))), fun a => (by rcases h_adcCal with e | e; (rw [e] at a; cases a); (exact e.trans (h.adcCal a))), fun a => (by rcases h_svc with e | e; (rw [e] at a; cases a); (exact e.trans (h.svc a))), fun a => (by rcases h_planned with e | e; (rw [e] at a; cases a); (exact e.trans (h.planned a))), fun a => (by rcases h_bud with e | e; (rw [e] at a; cases a); (exact e.trans (h.bud a))), fun a => (by rcases h_led with e | e; (rw [e] at a; cases a); (exact e.trans (h.led a))), fun a => (by rcases h_pair with e | e; (rw [e] at a; cases a); (exact e.trans (h.pair a))), fun a => (by rcases h_spi with e | e; (rw [e] at a; cases a); (exact e.trans (h.spi a))), fun a => (by rcases h_smb with e | e; (rw [e] at a; cases a); (exact e.trans (h.smb a))), fun a => (by rcases h_weft with e | e; (rw [e] at a; cases a); (exact e.trans (h.weft a))), fun a => (by rcases h_tim with e | e; (rw [e] at a; cases a); (exact e.trans (h.tim a))), fun a => (by rcases h_snap with e | e; (rw [e] at a; cases a); (exact e.trans (h.snap a))), fun a => (by rcases h_flash with e | e; (rw [e] at a; cases a); (exact e.trans (h.flash a))), fun a => (by rcases h_boot with e | e; (rw [e] at a; cases a); (exact e.trans (h.boot a))), fun a => (by rcases h_pow with e | e; (rw [e] at a; cases a); (exact e.trans (h.pow a))), fun a => (by rcases h_polFlash with e | e; (rw [e] at a; cases a); (exact e.trans (h.polFlash a))), fun a => (by rcases h_retiredMask with e | e; (rw [e] at a; cases a); (exact e.trans (h.retiredMask a))), fun a => (by rcases h_retiredFeeds with e | e; (rw [e] at a; cases a); (exact e.trans (h.retiredFeeds a))), fun a => (by rcases h_marks with e | e; (rw [e] at a; cases a); (exact e.trans (h.marks a))), fun a => (by rcases h_time with e | e; (rw [e] at a; cases a); (exact e.trans (h.time a))), fun a => (by rcases h_frac with e | e; (rw [e] at a; cases a); (exact e.trans (h.frac a))), fun a => (by rcases h_up with e | e; (rw [e] at a; cases a); (exact e.trans (h.up a))), fun a => (by rcases h_served2 with e | e; (rw [e] at a; cases a); (exact e.trans (h.served2 a))), fun a => (by rcases h_freeCount with e | e; (rw [e] at a; cases a); (exact e.trans (h.freeCount a))), fun a => (by rcases h_islRole with e | e; (rw [e] at a; cases a); (exact e.trans (h.islRole a))), fun a => (by rcases h_updates with e | e; (rw [e] at a; cases a); (exact e.trans (h.updates a))), h.lowRings⟩

theorem within_filter {m p : Nat} {s0 s : State} {x_ports : Vector PortSt 32} {x_dev : DevState} {x_mbox : Vector Mbox 64} {x_staging : Vector (List Word) 16} {x_notice : Vector (BitVec 64) 16} {x_stop : BitVec 32} {x_role : RolePolicy} {x_island : Option Nat} {x_islandE : Nat} {x_returnTick : Option Nat} {x_supply : SupplySt} {x_feeds : FeedsSt} {x_monRepeat : List (Nat × Nat)} {x_chipFailed : BitVec 8} {x_otp : OtpSt} {x_busV : Int} {x_adcCheck : BitVec 9} {x_adcRepeat : Nat} {x_calNext : Nat} {x_adcCal : Option (Nat × Nat)} {x_svc : SvcSt} {x_planned : BitVec 2} {x_bud : BudSt} {x_led : LedSt} {x_pair : PairSt} {x_spi : SpiSt} {x_smb : SmbSt} {x_weft : WeftSt} {x_tim : TimeSt} {x_snap : SnapSt} {x_flash : FlashSt} {x_boot : BootSt} {x_pow : PowSt} {x_polFlash : List (Nat × Option (List Byte) × Option (List Byte))} {x_retiredMask : BitVec 32} {x_retiredFeeds : BitVec 2} {x_marks : List Nat} {x_time : Nat} {x_frac : Int} {x_up : Nat} {x_served2 : Nat} {x_freeCount : Nat} {x_islRole : RolePolicy} {x_updates : Vector Nat 2}
    {g : Nat × Nat → Bool} (hg : m ||| 2 ^ areaAnyReg = m) (h_ports : m.testBit areaAllRec = true ∨ x_ports = s.ports) (h_dev : m.testBit 93 = true ∨ x_dev = s.dev) (h_mbox : m.testBit 95 = true ∨ x_mbox = s.mbox) (h_staging : m.testBit 96 = true ∨ x_staging = s.staging) (h_notice : m.testBit 97 = true ∨ x_notice = s.notice) (h_stop : m.testBit 98 = true ∨ x_stop = s.stop) (h_role : m.testBit 99 = true ∨ x_role = s.role) (h_island : m.testBit 100 = true ∨ x_island = s.island) (h_islandE : m.testBit 101 = true ∨ x_islandE = s.islandE) (h_returnTick : m.testBit 102 = true ∨ x_returnTick = s.returnTick) (h_supply : m.testBit 103 = true ∨ x_supply = s.supply) (h_feeds : m.testBit 104 = true ∨ x_feeds = s.feeds) (h_monRepeat : m.testBit 105 = true ∨ x_monRepeat = s.monRepeat) (h_chipFailed : m.testBit 106 = true ∨ x_chipFailed = s.chipFailed) (h_otp : m.testBit 107 = true ∨ x_otp = s.otp) (h_busV : m.testBit 108 = true ∨ x_busV = s.busV) (h_adcCheck : m.testBit 109 = true ∨ x_adcCheck = s.adcCheck) (h_adcRepeat : m.testBit 110 = true ∨ x_adcRepeat = s.adcRepeat) (h_calNext : m.testBit 111 = true ∨ x_calNext = s.calNext) (h_adcCal : m.testBit 112 = true ∨ x_adcCal = s.adcCal) (h_svc : m.testBit 113 = true ∨ x_svc = s.svc) (h_planned : m.testBit 114 = true ∨ x_planned = s.planned) (h_bud : m.testBit 115 = true ∨ x_bud = s.bud) (h_led : m.testBit 116 = true ∨ x_led = s.led) (h_pair : m.testBit 117 = true ∨ x_pair = s.pair) (h_spi : m.testBit 118 = true ∨ x_spi = s.spi) (h_smb : m.testBit 119 = true ∨ x_smb = s.smb) (h_weft : m.testBit 120 = true ∨ x_weft = s.weft) (h_tim : m.testBit 121 = true ∨ x_tim = s.tim) (h_snap : m.testBit 122 = true ∨ x_snap = s.snap) (h_flash : m.testBit 123 = true ∨ x_flash = s.flash) (h_boot : m.testBit 124 = true ∨ x_boot = s.boot) (h_pow : m.testBit 125 = true ∨ x_pow = s.pow) (h_polFlash : m.testBit 126 = true ∨ x_polFlash = s.polFlash) (h_retiredMask : m.testBit 127 = true ∨ x_retiredMask = s.retiredMask) (h_retiredFeeds : m.testBit 128 = true ∨ x_retiredFeeds = s.retiredFeeds) (h_marks : m.testBit 129 = true ∨ x_marks = s.marks) (h_time : m.testBit 130 = true ∨ x_time = s.time) (h_frac : m.testBit 131 = true ∨ x_frac = s.frac) (h_up : m.testBit 132 = true ∨ x_up = s.up) (h_served2 : m.testBit 133 = true ∨ x_served2 = s.served2) (h_freeCount : m.testBit 134 = true ∨ x_freeCount = s.freeCount) (h_islRole : m.testBit 136 = true ∨ x_islRole = s.islRole) (h_updates : m.testBit 137 = true ∨ x_updates = s.updates)
    (h : Within m p s0 s) : Within m p s0 { dev := x_dev, regs := s.regs.filter g, ports := x_ports, rings := s.rings, mbox := x_mbox, staging := x_staging, notice := x_notice, stop := x_stop, role := x_role, island := x_island, islandE := x_islandE, returnTick := x_returnTick, supply := x_supply, feeds := x_feeds, monRepeat := x_monRepeat, chipFailed := x_chipFailed, otp := x_otp, busV := x_busV, adcCheck := x_adcCheck, adcRepeat := x_adcRepeat, calNext := x_calNext, adcCal := x_adcCal, svc := x_svc, planned := x_planned, bud := x_bud, led := x_led, pair := x_pair, spi := x_spi, smb := x_smb, weft := x_weft, tim := x_tim, snap := x_snap, flash := x_flash, boot := x_boot, pow := x_pow, polFlash := x_polFlash, retiredMask := x_retiredMask, retiredFeeds := x_retiredFeeds, marks := x_marks, time := x_time, frac := x_frac, up := x_up, served2 := x_served2, freeCount := x_freeCount, islRole := x_islRole, updates := x_updates, pending := s.pending } :=
  ⟨fun a => sorted_filter _ _ (h.table a), h.ringsFit, h.queue, fun k d hk => (by unfold touch at hk; rw [pow_bit hg] at hk; simp at hk), fun q a b => (by
     rcases h_ports with e | e
     · rw [e] at a; cases a
     · rw [← h.ports q a b]; unfold State.port; rw [e]),
   fun a => (by rcases h_dev with e | e; (rw [e] at a; cases a); (exact e.trans (h.dev a))), h.rings, fun a => (by rcases h_mbox with e | e; (rw [e] at a; cases a); (exact e.trans (h.mbox a))), fun a => (by rcases h_staging with e | e; (rw [e] at a; cases a); (exact e.trans (h.staging a))), fun a => (by rcases h_notice with e | e; (rw [e] at a; cases a); (exact e.trans (h.notice a))), fun a => (by rcases h_stop with e | e; (rw [e] at a; cases a); (exact e.trans (h.stop a))), fun a => (by rcases h_role with e | e; (rw [e] at a; cases a); (exact e.trans (h.role a))), fun a => (by rcases h_island with e | e; (rw [e] at a; cases a); (exact e.trans (h.island a))), fun a => (by rcases h_islandE with e | e; (rw [e] at a; cases a); (exact e.trans (h.islandE a))), fun a => (by rcases h_returnTick with e | e; (rw [e] at a; cases a); (exact e.trans (h.returnTick a))), fun a => (by rcases h_supply with e | e; (rw [e] at a; cases a); (exact e.trans (h.supply a))), fun a => (by rcases h_feeds with e | e; (rw [e] at a; cases a); (exact e.trans (h.feeds a))), fun a => (by rcases h_monRepeat with e | e; (rw [e] at a; cases a); (exact e.trans (h.monRepeat a))), fun a => (by rcases h_chipFailed with e | e; (rw [e] at a; cases a); (exact e.trans (h.chipFailed a))), fun a => (by rcases h_otp with e | e; (rw [e] at a; cases a); (exact e.trans (h.otp a))), fun a => (by rcases h_busV with e | e; (rw [e] at a; cases a); (exact e.trans (h.busV a))), fun a => (by rcases h_adcCheck with e | e; (rw [e] at a; cases a); (exact e.trans (h.adcCheck a))), fun a => (by rcases h_adcRepeat with e | e; (rw [e] at a; cases a); (exact e.trans (h.adcRepeat a))), fun a => (by rcases h_calNext with e | e; (rw [e] at a; cases a); (exact e.trans (h.calNext a))), fun a => (by rcases h_adcCal with e | e; (rw [e] at a; cases a); (exact e.trans (h.adcCal a))), fun a => (by rcases h_svc with e | e; (rw [e] at a; cases a); (exact e.trans (h.svc a))), fun a => (by rcases h_planned with e | e; (rw [e] at a; cases a); (exact e.trans (h.planned a))), fun a => (by rcases h_bud with e | e; (rw [e] at a; cases a); (exact e.trans (h.bud a))), fun a => (by rcases h_led with e | e; (rw [e] at a; cases a); (exact e.trans (h.led a))), fun a => (by rcases h_pair with e | e; (rw [e] at a; cases a); (exact e.trans (h.pair a))), fun a => (by rcases h_spi with e | e; (rw [e] at a; cases a); (exact e.trans (h.spi a))), fun a => (by rcases h_smb with e | e; (rw [e] at a; cases a); (exact e.trans (h.smb a))), fun a => (by rcases h_weft with e | e; (rw [e] at a; cases a); (exact e.trans (h.weft a))), fun a => (by rcases h_tim with e | e; (rw [e] at a; cases a); (exact e.trans (h.tim a))), fun a => (by rcases h_snap with e | e; (rw [e] at a; cases a); (exact e.trans (h.snap a))), fun a => (by rcases h_flash with e | e; (rw [e] at a; cases a); (exact e.trans (h.flash a))), fun a => (by rcases h_boot with e | e; (rw [e] at a; cases a); (exact e.trans (h.boot a))), fun a => (by rcases h_pow with e | e; (rw [e] at a; cases a); (exact e.trans (h.pow a))), fun a => (by rcases h_polFlash with e | e; (rw [e] at a; cases a); (exact e.trans (h.polFlash a))), fun a => (by rcases h_retiredMask with e | e; (rw [e] at a; cases a); (exact e.trans (h.retiredMask a))), fun a => (by rcases h_retiredFeeds with e | e; (rw [e] at a; cases a); (exact e.trans (h.retiredFeeds a))), fun a => (by rcases h_marks with e | e; (rw [e] at a; cases a); (exact e.trans (h.marks a))), fun a => (by rcases h_time with e | e; (rw [e] at a; cases a); (exact e.trans (h.time a))), fun a => (by rcases h_frac with e | e; (rw [e] at a; cases a); (exact e.trans (h.frac a))), fun a => (by rcases h_up with e | e; (rw [e] at a; cases a); (exact e.trans (h.up a))), fun a => (by rcases h_served2 with e | e; (rw [e] at a; cases a); (exact e.trans (h.served2 a))), fun a => (by rcases h_freeCount with e | e; (rw [e] at a; cases a); (exact e.trans (h.freeCount a))), fun a => (by rcases h_islRole with e | e; (rw [e] at a; cases a); (exact e.trans (h.islRole a))), fun a => (by rcases h_updates with e | e; (rw [e] at a; cases a); (exact e.trans (h.updates a))), h.lowRings⟩

theorem Within.trans {m p : Nat} {s t u : State} (a : Within m p s t) (b : Within m p t u) : Within m p s u :=
  ⟨fun h => b.table (a.table h), fun h => b.ringsFit (a.ringsFit h), b.queue.trans a.queue,
   fun k d h => (b.regs k d h).trans (a.regs k d h), fun q h k => (b.ports q h k).trans (a.ports q h k), fun h => (b.dev h).trans (a.dev h), fun h => (b.rings h).trans (a.rings h), fun h => (b.mbox h).trans (a.mbox h), fun h => (b.staging h).trans (a.staging h), fun h => (b.notice h).trans (a.notice h), fun h => (b.stop h).trans (a.stop h), fun h => (b.role h).trans (a.role h), fun h => (b.island h).trans (a.island h), fun h => (b.islandE h).trans (a.islandE h), fun h => (b.returnTick h).trans (a.returnTick h), fun h => (b.supply h).trans (a.supply h), fun h => (b.feeds h).trans (a.feeds h), fun h => (b.monRepeat h).trans (a.monRepeat h), fun h => (b.chipFailed h).trans (a.chipFailed h), fun h => (b.otp h).trans (a.otp h), fun h => (b.busV h).trans (a.busV h), fun h => (b.adcCheck h).trans (a.adcCheck h), fun h => (b.adcRepeat h).trans (a.adcRepeat h), fun h => (b.calNext h).trans (a.calNext h), fun h => (b.adcCal h).trans (a.adcCal h), fun h => (b.svc h).trans (a.svc h), fun h => (b.planned h).trans (a.planned h), fun h => (b.bud h).trans (a.bud h), fun h => (b.led h).trans (a.led h), fun h => (b.pair h).trans (a.pair h), fun h => (b.spi h).trans (a.spi h), fun h => (b.smb h).trans (a.smb h), fun h => (b.weft h).trans (a.weft h), fun h => (b.tim h).trans (a.tim h), fun h => (b.snap h).trans (a.snap h), fun h => (b.flash h).trans (a.flash h), fun h => (b.boot h).trans (a.boot h), fun h => (b.pow h).trans (a.pow h), fun h => (b.polFlash h).trans (a.polFlash h), fun h => (b.retiredMask h).trans (a.retiredMask h), fun h => (b.retiredFeeds h).trans (a.retiredFeeds h), fun h => (b.marks h).trans (a.marks h), fun h => (b.time h).trans (a.time h), fun h => (b.frac h).trans (a.frac h), fun h => (b.up h).trans (a.up h), fun h => (b.served2 h).trans (a.served2 h), fun h => (b.freeCount h).trans (a.freeCount h), fun h => (b.islRole h).trans (a.islRole h), fun h => (b.updates h).trans (a.updates h), fun h q k => (b.lowRings h q k).trans (a.lowRings h q k)⟩


/-! ## Any register -/

theorem touch_wild {m : Nat} (p k : Nat) (hm : m ||| 2 ^ areaAnyReg = m) : touch m p k = true := by
  unfold touch; rw [pow_bit hm]; simp

theorem State.wr_any {m p : Nat} {s0 : State} (s : State) (F : Field) (i v : Nat) (hm : m ||| 2 ^ areaAnyReg = m)
    (h : Within m p s0 s) : Within m p s0 (s.wr F i v) := within_regs F _ _ (touch_wild _ _ hm) h
theorem State.wrI_any {m p : Nat} {s0 : State} (s : State) (F : Field) (i : Nat) (v : Int) (hm : m ||| 2 ^ areaAnyReg = m)
    (h : Within m p s0 s) : Within m p s0 (s.wrI F i v) := within_regs F _ _ (touch_wild _ _ hm) h
theorem State.flag_any {m p : Nat} {s0 : State} (s : State) (F : Field) (i : Nat) (b : Bool) (hm : m ||| 2 ^ areaAnyReg = m)
    (h : Within m p s0 s) : Within m p s0 (s.flag F i b) := within_regs F _ _ (touch_wild _ _ hm) h
theorem State.bump_any {m p : Nat} {s0 : State} (s : State) (F : Field) (i : Nat) (hm : m ||| 2 ^ areaAnyReg = m)
    (h : Within m p s0 s) : Within m p s0 (s.bump F i) := within_regs F _ _ (touch_wild _ _ hm) h
theorem State.bumpBy_any {m p : Nat} {s0 : State} (s : State) (F : Field) (i n : Nat) (hm : m ||| 2 ^ areaAnyReg = m)
    (h : Within m p s0 s) : Within m p s0 (s.bumpBy F i n) := within_regs F _ _ (touch_wild _ _ hm) h
theorem State.wrSat_any {m p : Nat} {s0 : State} (s : State) (F : Field) (i v : Nat) (hm : m ||| 2 ^ areaAnyReg = m)
    (h : Within m p s0 s) : Within m p s0 (s.wrSat F i v) := within_regs F _ _ (touch_wild _ _ hm) h
theorem State.wrBit_any {m p : Nat} {s0 : State} (s : State) (F : Field) (i n : Nat) (b : Bool) (hm : m ||| 2 ^ areaAnyReg = m)
    (h : Within m p s0 s) : Within m p s0 (s.wrBit F i n b) := within_regs F _ _ (touch_wild _ _ hm) h
theorem State.irq_any {m p : Nat} {s0 : State} (s : State) (pg i b : Nat) (hm : m ||| 2 ^ areaAnyReg = m)
    (h : Within m p s0 s) : Within m p s0 (s.irq pg i b) := State.wrBit_any _ _ _ _ _ hm h
theorem State.level_any {m p : Nat} {s0 : State} (s : State) (pg i b : Nat) (v : Bool) (hm : m ||| 2 ^ areaAnyReg = m)
    (h : Within m p s0 s) : Within m p s0 (s.level pg i b v) := by
  unfold State.level
  dsimp only
  split
  · exact State.irq_any _ _ _ _ hm (State.wrBit_any _ _ _ _ _ hm h)
  · exact State.wrBit_any _ _ _ _ _ hm h
theorem State.err_any {m p : Nat} {s0 : State} (s : State) (pg i code off : Nat) (hm : m ||| 2 ^ areaAnyReg = m)
    (h : Within m p s0 s) : Within m p s0 (s.err pg i code off) :=
  State.wr_any _ _ _ _ hm (State.wr_any _ _ _ _ hm (State.wr_any _ _ _ _ hm h))
theorem State.errF_any {m p : Nat} {s0 : State} (s : State) (F : Field) (i code : Nat) (hm : m ||| 2 ^ areaAnyReg = m)
    (h : Within m p s0 s) : Within m p s0 (s.errF F i code) := State.err_any _ _ _ _ _ hm h

/-! ## Control structure -/

theorem ite_within {m p : Nat} {s0 : State} {c : Prop} [Decidable c] {a b : State} (ha : Within m p s0 a)
    (hb : Within m p s0 b) : Within m p s0 (if c then a else b) := by split <;> assumption

theorem foldl_within {m p : Nat} {s0 : State} {α : Type} (f : State → α → State) (l : List α) (s : State)
    (hf : ∀ t a, Within m p s0 t → Within m p s0 (f t a)) (h : Within m p s0 s) : Within m p s0 (l.foldl f s) := by
  induction l generalizing s with
  | nil => exact h
  | cons a l ih => exact ih _ (hf _ _ h)

theorem State.forPorts_within {m p : Nat} {s0 : State} (s : State) (l : List Port) (f : State → Port → State)
    (hf : ∀ t a, Within m p s0 t → Within m p s0 (f t a)) (h : Within m p s0 s) : Within m p s0 (s.forPorts l f) :=
  foldl_within f l s hf h

theorem getD_within {m p : Nat} {s0 : State} (o : Option State) (d : State) (hd : Within m p s0 d)
    (ho : ∀ u, o = some u → Within m p s0 u) : Within m p s0 (o.getD d) := by
  cases o with
  | none => exact hd
  | some u => exact ho u rfl

/-! ## Rings (R356 to R361) -/

variable {m p : Nat} {s0 : State}

theorem setRing_entries_within (s : State) (q : Fin 40) (r : RingSt) (e : r.entries = (s.ring q).entries)
    (hl : 5 ≤ q.val ∨ m ||| 2 ^ 135 = m) (hm : m ||| 0x400000000000000000000000 = m) (h : Within m p s0 s) : Within m p s0 (s.setRing q r) :=
  setRing_within _ _ _ (sub hm rfl) hl (fun g hq => by unfold RingSt.occ at *; rw [e]; exact g hq) h

theorem setRing_erase_within (s : State) (q : Fin 40) (r : RingSt) (i : Nat) (e : r.entries = (s.ring q).entries.eraseIdx i)
    (hl : 5 ≤ q.val ∨ m ||| 2 ^ 135 = m) (hm : m ||| 0x400000000000000000000000 = m) (h : Within m p s0 s) : Within m p s0 (s.setRing q r) :=
  setRing_within _ _ _ (sub hm rfl) hl (fun g hq => by
    unfold RingSt.occ at *; rw [e]; exact le_trans (occ_eraseIdx_le _ _) (g hq)) h

theorem setRing_drop_within (s : State) (q : Fin 40) (r : RingSt) (i : Nat) (e : r.entries = (s.ring q).entries.drop i)
    (hl : 5 ≤ q.val ∨ m ||| 2 ^ 135 = m) (hm : m ||| 0x400000000000000000000000 = m) (h : Within m p s0 s) : Within m p s0 (s.setRing q r) :=
  setRing_within _ _ _ (sub hm rfl) hl (fun g hq => by
    unfold RingSt.occ at *; rw [e]; exact le_trans (occ_drop _ _) (g hq)) h

theorem setRing_empty_within (s : State) (q : Fin 40) (r : RingSt) (e : r.entries = [])
    (hl : 5 ≤ q.val ∨ m ||| 2 ^ 135 = m) (hm : m ||| 0x400000000000000000000000 = m) (h : Within m p s0 s) : Within m p s0 (s.setRing q r) :=
  setRing_within _ _ _ (sub hm rfl) hl (fun _ _ => by unfold RingSt.occ; rw [e]; exact Nat.zero_le _) h

theorem State.coalesce_within {s t : State} {q : Fin 40} {coal : Bool} {e : EvRec} (hl : 5 ≤ q.val ∨ m ||| 2 ^ 135 = m) (hm : m ||| 0x400000000000000000140000 = m) (h : Within m p s0 s)
    (he : s.coalesce q coal e = some t) : Within m p s0 t := by
  unfold State.coalesce at he
  dsimp only at he
  repeat' split at he
  all_goals try cases he
  refine State.bump_within _ _ _ (sub hm (by decide)) (setRing_within _ _ _ (sub hm (by decide)) hl (fun g hq => ?_) h)
  exact le_trans (occ_set _ _ _) (g hq)

theorem State.ringFilled_within (s : State) (q : Fin 40) (hl : 5 ≤ q.val ∨ m ||| 2 ^ 135 = m) (hm : m ||| 0x400000000000000000140000 = m) (h : Within m p s0 s) :
    Within m p s0 (s.ringFilled q) := by
  unfold State.ringFilled
  dsimp only
  split
  · exact State.irq_within _ _ _ _ (sub hm (by decide)) (State.bump_within _ _ _ (sub hm (by decide))
      (setRing_entries_within _ _ _ rfl hl (sub hm (by decide)) h))
  · exact h

theorem State.ringDrained_within (s : State) (q : Fin 40) (hl : 5 ≤ q.val ∨ m ||| 2 ^ 135 = m) (hm : m ||| 0x400000000000000000140000 = m) (h : Within m p s0 s) :
    Within m p s0 (s.ringDrained q) := by
  unfold State.ringDrained
  dsimp only
  have h1 := setRing_entries_within s q { s.ring q with throttle := false, coalS := 0, refused := false } rfl hl
    (sub hm (by decide)) h
  split
  · split
    · exact State.irq_within _ _ _ _ (sub hm (by decide)) h1
    · exact h1
  · exact h

theorem State.dropped_within (s : State) (q : Fin 40) (hm : m ||| 0x400000000000000000140000 = m) (h : Within m p s0 s) :
    Within m p s0 (s.dropped q) :=
  State.irq_within _ _ _ _ (sub hm (by decide)) (State.bump_within _ _ _ (sub hm (by decide)) h)

theorem State.eventReady_within (s : State) (hm : m ||| 0x400000000000000000140000 = m) (h : Within m p s0 s) : Within m p s0 s.eventReady :=
  State.irq_within _ _ _ _ (sub hm (by decide)) h

theorem State.pushFull_within (s : State) (q : Fin 40) (e : EvRec) (hl : 5 ≤ q.val ∨ m ||| 2 ^ 135 = m) (hm : m ||| 0x400000000000000000140000 = m) (h : Within m p s0 s) :
    Within m p s0 (s.pushFull q e) := by
  unfold State.pushFull
  dsimp only
  split
  · rename_i i hi
    refine State.eventReady_within _ hm (State.dropped_within _ _ hm (setRing_within _ _ _ (sub hm (by decide)) hl
      (fun g hq => ?_) h))
    have hl : i < (s.ring q).entries.length := by
      split at hi
      · cases hi; exact oldest_lt _ _ _ ‹_›
      · exact oldest_lt _ _ _ hi
    have h1 := occ_erase _ _ hl
    have h2 := g hq
    simp only [RingSt.append, RingSt.occ, List.map_append, List.sum_append, List.map_cons, List.map_nil, List.sum_cons,
      List.sum_nil, Entry.granules] at *
    omega
  · split
    · exact State.dropped_within _ _ hm h
    · split
      · refine State.eventReady_within _ hm (State.irq_within _ _ _ _ (sub hm (by decide)) (State.bump_within _ _ _
          (sub hm (by decide)) (setRing_within _ _ _ (sub hm (by decide)) hl (fun g hq => ?_) h)))
        exact le_trans (occ_set _ _ _) (g hq)
      · exact State.dropped_within _ _ hm h

theorem State.writeRec_within (s : State) (q : Fin 40) (coal : Bool) (e : EvRec) (hl : 5 ≤ q.val ∨ m ||| 2 ^ 135 = m) (hm : m ||| 0x400000000000000000140000 = m) (h : Within m p s0 s) :
    Within m p s0 (s.writeRec q coal e) := by
  unfold State.writeRec
  split
  · exact State.coalesce_within hl hm h ‹_›
  · split
    · exact State.pushFull_within _ _ _ hl hm h
    · refine State.eventReady_within _ hm (State.ringFilled_within _ _ hl hm (setRing_within _ _ _ (sub hm (by decide)) hl
        (fun g hq => ?_) h))
      rename_i hn
      have := g hq
      simp only [RingSt.append, RingSt.occ, List.map_append, List.sum_append, List.map_cons, List.map_nil, List.sum_cons,
        List.sum_nil, Entry.granules] at *
      omega

theorem State.pushPacket_within {s t : State} {q : Fin 40} {k : Packet} (hm : m ||| 0x8000000000400000000000000000140000 = m) (h : Within m p s0 s)
    (he : s.pushPacket q k = some t) : Within m p s0 t := by
  unfold State.pushPacket at he
  dsimp only at he
  by_cases hn : ringSize q < (s.ring q).occ + (if q.val = 0 then 1 else packetGranules k)
  · rw [if_pos hn] at he; cases he
  · rw [if_neg hn] at he; cases he
    refine setRing_within _ _ _ (sub hm (by decide)) (.inr (sub hm (by decide))) (fun _ hq => ?_) h
    have : q.val ≠ 0 := fun e => hq (Fin.ext e)
    simp only [RingSt.occ, List.map_append, List.sum_append, List.map_cons, List.map_nil, List.sum_cons, List.sum_nil,
      Entry.granules, this, if_false] at *
    omega

theorem State.pushRefused_within (s : State) (q : Fin 40) (hm : m ||| 0x8000000000400000000000000000140000 = m) (h : Within m p s0 s) :
    Within m p s0 (s.pushRefused q) :=
  State.bump_within _ _ _ (sub hm (by decide)) (setRing_entries_within _ _ _ rfl (.inr (sub hm (by decide))) (sub hm (by decide)) h)

/-! ## Events -/

theorem EvKind.ringOf_ge (k : EvKind) (port : Nat) : 5 ≤ (k.ringOf port).val := by
  unfold EvKind.ringOf
  split
  · decide
  · decide
  · split
    · exact Nat.le_trans (by decide) (Nat.le_add_right 8 port)
    · decide

theorem State.eventSev_all (s : State) (k : EvKind) (sev port d4 d5 d6 d7 : Nat) (hm : m ||| 0x500000000000000000140000 = m) (h : Within m p s0 s) :
    Within m p s0 (s.eventSev k sev port d4 d5 d6 d7) := by
  unfold State.eventSev
  dsimp only
  refine State.writeRec_within _ _ _ _ (.inl (EvKind.ringOf_ge _ _)) (sub hm (by decide)) ?_
  split
  · split
    · exact State.modPort_within _ _ _ (sub hm (by decide)) h
    · exact h
  · exact h

theorem State.eventSev_sys (s : State) (k : EvKind) (sev port d4 d5 d6 d7 : Nat) (hk : k.ring ≠ .port) (hm : m ||| 0x400000000000000000140000 = m)
    (h : Within m p s0 s) : Within m p s0 (s.eventSev k sev port d4 d5 d6 d7) := by
  unfold State.eventSev
  dsimp only
  refine State.writeRec_within _ _ _ _ (.inl (EvKind.ringOf_ge _ _)) (sub hm (by decide)) ?_
  split
  · exact absurd ‹_› hk
  · exact h

theorem State.eventSev_own {p : Port} (s : State) (k : EvKind) (sev d4 d5 d6 d7 : Nat) (hm : m ||| 0x480000000000000000140000 = m)
    (h : Within m p s0 s) : Within m p s0 (s.eventSev k sev p d4 d5 d6 d7) := by
  unfold State.eventSev
  dsimp only
  refine State.writeRec_within _ _ _ _ (.inl (EvKind.ringOf_ge _ _)) (sub hm (by decide)) ?_
  split
  · split
    · exact State.modPort_own _ _ (sub hm (by decide)) h
    · exact h
  · exact h

theorem State.event_all (s : State) (k : EvKind) (port d4 d5 d6 d7 : Nat) (hm : m ||| 0x500000000000000000140000 = m) (h : Within m p s0 s) :
    Within m p s0 (s.event k port d4 d5 d6 d7) := State.eventSev_all _ _ _ _ _ _ _ _ hm h
theorem State.event_sys (s : State) (k : EvKind) (port d4 d5 d6 d7 : Nat) (hk : k.ring ≠ .port) (hm : m ||| 0x400000000000000000140000 = m)
    (h : Within m p s0 s) : Within m p s0 (s.event k port d4 d5 d6 d7) := State.eventSev_sys _ _ _ _ _ _ _ _ hk hm h
theorem State.event_own {p : Port} (s : State) (k : EvKind) (d4 d5 d6 d7 : Nat) (hm : m ||| 0x480000000000000000140000 = m)
    (h : Within m p s0 s) : Within m p s0 (s.event k p d4 d5 d6 d7) := State.eventSev_own _ _ _ _ _ _ _ hm h

end Sys2Proof.Machine
end

