-- ==== Sys2Proof/Laws/FootPort.lean ====
section
/-! SUPPORT. What the block's operations may change (Safety.lean says what `Within` is), one lemma for each: port operations, guard, offers, the ledger's operations, the policy engine, Twill, the CC front end.
`f_within` is for the command's own port, `f_all` for any port; each is proved from the lemmas of what its definition calls. -/

set_option linter.all false
set_option maxRecDepth 4000

namespace Sys2Proof.Machine
open State

variable {mm : Nat} {s00 : State}

/-! ## Machine/Ops.lean -/

theorem State.cc_within (s : State) (p : Port) (f : CcSt → CcSt) (hM : mm ||| 0x80000000000000000000000 = mm) (hW : Within mm p s00 s) :
    Within mm p s00 (State.cc s p f) := by
  unfold State.cc
  try dsimp only
  repeat' with_reducible
    first | assumption | apply modPort_own | split | (intro _ _ _) | (intro _ _) | exact sub hM (by decide)
          | decide | dsimp only

theorem State.cc_all {pp : Nat} (s : State) (p : Port) (f : CcSt → CcSt) (hM : mm ||| 0x100000000000000000000000 = mm) (hW : Within mm pp s00 s) :
    Within mm pp s00 (State.cc s p f) := by
  unfold State.cc
  try dsimp only
  repeat' with_reducible
    first | assumption | apply modPort_within | split | (intro _ _ _) | (intro _ _) | exact sub hM (by decide)
          | dsimp only

theorem State.phy_within (s : State) (p : Port) (f : PhySt → PhySt) (hM : mm ||| 0x80000000000000000000000 = mm) (hW : Within mm p s00 s) :
    Within mm p s00 (State.phy s p f) := by
  unfold State.phy
  try dsimp only
  repeat' with_reducible
    first | assumption | apply modPort_own | split | (intro _ _ _) | (intro _ _) | exact sub hM (by decide)
          | decide | dsimp only

theorem State.phy_all {pp : Nat} (s : State) (p : Port) (f : PhySt → PhySt) (hM : mm ||| 0x100000000000000000000000 = mm) (hW : Within mm pp s00 s) :
    Within mm pp s00 (State.phy s p f) := by
  unfold State.phy
  try dsimp only
  repeat' with_reducible
    first | assumption | apply modPort_within | split | (intro _ _ _) | (intro _ _) | exact sub hM (by decide)
          | dsimp only

theorem State.pe_within (s : State) (p : Port) (f : PeSt → PeSt) (hM : mm ||| 0x80000000000000000000000 = mm) (hW : Within mm p s00 s) :
    Within mm p s00 (State.pe s p f) := by
  unfold State.pe
  try dsimp only
  repeat' with_reducible
    first | assumption | apply modPort_own | split | (intro _ _ _) | (intro _ _) | exact sub hM (by decide)
          | decide | dsimp only

theorem State.pe_all {pp : Nat} (s : State) (p : Port) (f : PeSt → PeSt) (hM : mm ||| 0x100000000000000000000000 = mm) (hW : Within mm pp s00 s) :
    Within mm pp s00 (State.pe s p f) := by
  unfold State.pe
  try dsimp only
  repeat' with_reducible
    first | assumption | apply modPort_within | split | (intro _ _ _) | (intro _ _) | exact sub hM (by decide)
          | dsimp only

theorem State.swp_within (s : State) (p : Port) (f : SwapSt → SwapSt) (hM : mm ||| 0x80000000000000000000000 = mm) (hW : Within mm p s00 s) :
    Within mm p s00 (State.swp s p f) := by
  unfold State.swp
  try dsimp only
  repeat' with_reducible
    first | assumption | apply modPort_own | split | (intro _ _ _) | (intro _ _) | exact sub hM (by decide)
          | decide | dsimp only

theorem State.swp_all {pp : Nat} (s : State) (p : Port) (f : SwapSt → SwapSt) (hM : mm ||| 0x100000000000000000000000 = mm) (hW : Within mm pp s00 s) :
    Within mm pp s00 (State.swp s p f) := by
  unfold State.swp
  try dsimp only
  repeat' with_reducible
    first | assumption | apply modPort_within | split | (intro _ _ _) | (intro _ _) | exact sub hM (by decide)
          | dsimp only

theorem State.loop_within (s : State) (p : Port) (f : LoopSt → LoopSt) (hM : mm ||| 0x80000000000000000000000 = mm) (hW : Within mm p s00 s) :
    Within mm p s00 (State.loop s p f) := by
  unfold State.loop
  try dsimp only
  repeat' with_reducible
    first | assumption | apply modPort_own | split | (intro _ _ _) | (intro _ _) | exact sub hM (by decide)
          | decide | dsimp only

theorem State.loop_all {pp : Nat} (s : State) (p : Port) (f : LoopSt → LoopSt) (hM : mm ||| 0x100000000000000000000000 = mm) (hW : Within mm pp s00 s) :
    Within mm pp s00 (State.loop s p f) := by
  unfold State.loop
  try dsimp only
  repeat' with_reducible
    first | assumption | apply modPort_within | split | (intro _ _ _) | (intro _ _) | exact sub hM (by decide)
          | dsimp only

theorem State.model_within (s : State) (p : Port) (f : ModelSt → ModelSt) (hM : mm ||| 0x80000000000000000000000 = mm) (hW : Within mm p s00 s) :
    Within mm p s00 (State.model s p f) := by
  unfold State.model
  try dsimp only
  repeat' with_reducible
    first | assumption | apply modPort_own | split | (intro _ _ _) | (intro _ _) | exact sub hM (by decide)
          | decide | dsimp only

theorem State.model_all {pp : Nat} (s : State) (p : Port) (f : ModelSt → ModelSt) (hM : mm ||| 0x100000000000000000000000 = mm) (hW : Within mm pp s00 s) :
    Within mm pp s00 (State.model s p f) := by
  unfold State.model
  try dsimp only
  repeat' with_reducible
    first | assumption | apply modPort_within | split | (intro _ _ _) | (intro _ _) | exact sub hM (by decide)
          | dsimp only

theorem State.grd_within (s : State) (p : Port) (f : GuardSt → GuardSt) (hM : mm ||| 0x80000000000000000000000 = mm) (hW : Within mm p s00 s) :
    Within mm p s00 (State.grd s p f) := by
  unfold State.grd
  try dsimp only
  repeat' with_reducible
    first | assumption | apply modPort_own | split | (intro _ _ _) | (intro _ _) | exact sub hM (by decide)
          | decide | dsimp only

theorem State.grd_all {pp : Nat} (s : State) (p : Port) (f : GuardSt → GuardSt) (hM : mm ||| 0x100000000000000000000000 = mm) (hW : Within mm pp s00 s) :
    Within mm pp s00 (State.grd s p f) := by
  unfold State.grd
  try dsimp only
  repeat' with_reducible
    first | assumption | apply modPort_within | split | (intro _ _ _) | (intro _ _) | exact sub hM (by decide)
          | dsimp only

theorem State.setCap_within {pp : Nat} (s : State) (uw : Nat) (hM : mm ||| 0x80000000000000000400000000000 = mm) (hW : Within mm pp s00 s) :
    Within mm pp s00 (State.setCap s uw) := by
  unfold State.setCap
  try dsimp only
  repeat' with_reducible
    first | assumption | apply wrSat_within | apply within_mk | exact Or.inr rfl
          | exact Or.inl (bitOf hM (by decide)) | exact sub hM (by decide) | dsimp only

theorem State.fresh_within1 {pp : Nat} (s : State) (hM : mm ||| 0x4000000000000000000000000000000000 = mm) (hW : Within mm pp s00 s) :
    Within mm pp s00 (State.fresh s).2 := by
  unfold State.fresh
  try dsimp only
  repeat' with_reducible
    first | assumption | apply within_mk | exact Or.inr rfl | exact Or.inl (bitOf hM (by decide))
          | exact sub hM (by decide) | dsimp only
theorem State.fresh_within {pp : Nat} {s : State} {ss xx} (hM : mm ||| 0x4000000000000000000000000000000000 = mm) (hW : Within mm pp s00 s)
    (he : State.fresh s = (xx, ss)) : Within mm pp s00 ss := by
  have := State.fresh_within1 s hM hW; rw [he] at this; exact this

theorem State.noteFail_within {pp : Nat} (s : State) (e : Nat) (hM : mm ||| 0x20000000000000000000000000000 = mm) (hW : Within mm pp s00 s) :
    Within mm pp s00 (State.noteFail s e) := by
  unfold State.noteFail
  try dsimp only
  repeat' with_reducible
    first | assumption | apply within_mk | exact Or.inr rfl | exact Or.inl (bitOf hM (by decide))
          | exact sub hM (by decide) | dsimp only

theorem State.engineFailed_within {pp : Nat} (s : State) (e : Nat) (hM : mm ||| 0x20000000000000080000000000000 = mm) (hW : Within mm pp s00 s) :
    Within mm pp s00 (State.engineFailed s e) := by
  unfold State.engineFailed
  try dsimp only
  repeat' with_reducible
    first | assumption | apply wr_within | apply noteFail_within | exact sub hM (by decide) | dsimp only

theorem State.engineRestarted_within {pp : Nat} (s : State) (e cause : Nat) (hM : mm ||| 0x80000000000000 = mm) (hW : Within mm pp s00 s) :
    Within mm pp s00 (State.engineRestarted s e cause) := by
  unfold State.engineRestarted
  try dsimp only
  repeat' with_reducible
    first | assumption | apply bump_within | apply wr_within | exact sub hM (by decide) | dsimp only

theorem State.timeEdge_within {pp : Nat} (s : State) (hM : mm ||| 0x1C00000000000000000000000000000000 = mm) (hW : Within mm pp s00 s) :
    Within mm pp s00 (State.timeEdge s) := by
  unfold State.timeEdge
  try dsimp only
  repeat' with_reducible
    first | assumption | apply ite_within | split | apply within_mk | exact Or.inr rfl
          | exact Or.inl (bitOf hM (by decide)) | exact sub hM (by decide) | dsimp only

/-! ## Machine/WeftOps.lean -/

theorem linkState_mask (l : Link) (o : Bool) : fieldMask o (linkState l) = if o then 0x10000000 else 0x10000000 := by
  unfold linkState
  repeat' split
  all_goals (cases o <;> rfl)

theorem linkState_arr (l : Link) : fieldArr (linkState l) = false := by
  unfold linkState
  repeat' split
  all_goals rfl

theorem linkPeer_mask (l : Link) (o : Bool) : fieldMask o (linkPeer l) = if o then 0x10000000 else 0x10000000 := by
  unfold linkPeer
  repeat' split
  all_goals (cases o <;> rfl)

theorem linkPeer_arr (l : Link) : fieldArr (linkPeer l) = false := by
  unfold linkPeer
  repeat' split
  all_goals rfl

theorem linkDly_mask (l : Link) (o : Bool) : fieldMask o (linkDly l) = if o then 0x10000000 else 0x10000000 := by
  unfold linkDly
  repeat' split
  all_goals (cases o <;> rfl)

theorem linkDly_arr (l : Link) : fieldArr (linkDly l) = false := by
  unfold linkDly
  repeat' split
  all_goals rfl

theorem linkEn_mask (l : Link) (o : Bool) : fieldMask o (linkEn l) = if o then 0x10000000 else 0x10000000 := by
  unfold linkEn
  repeat' split
  all_goals (cases o <;> rfl)

theorem linkEn_arr (l : Link) : fieldArr (linkEn l) = false := by
  unfold linkEn
  repeat' split
  all_goals rfl

theorem linkRx_mask (l : Link) (o : Bool) : fieldMask o (linkRx l) = if o then 0x20000000 else 0x20000000 := by
  unfold linkRx
  repeat' split
  all_goals (cases o <;> rfl)

theorem linkRx_arr (l : Link) : fieldArr (linkRx l) = false := by
  unfold linkRx
  repeat' split
  all_goals rfl

theorem linkTx_mask (l : Link) (o : Bool) : fieldMask o (linkTx l) = if o then 0x20000000 else 0x20000000 := by
  unfold linkTx
  repeat' split
  all_goals (cases o <;> rfl)

theorem linkTx_arr (l : Link) : fieldArr (linkTx l) = false := by
  unfold linkTx
  repeat' split
  all_goals rfl

theorem linkCredit_mask (l : Link) (c : CellClass) (o : Bool) : fieldMask o (linkCredit l c) = if o then 0x10000000 else 0x10000000 := by
  unfold linkCredit
  repeat' split
  all_goals (cases o <;> rfl)

theorem linkCredit_arr (l : Link) (c : CellClass) : fieldArr (linkCredit l c) = false := by
  unfold linkCredit
  repeat' split
  all_goals rfl

theorem State.weftRec_within {pp : Nat} (s : State) (f : WeftSt → WeftSt) (hM : mm ||| 0x1000000000000000000000000000000 = mm) (hW : Within mm pp s00 s) :
    Within mm pp s00 (State.weftRec s f) := by
  unfold State.weftRec
  try dsimp only
  repeat' with_reducible
    first | assumption | apply within_mk | exact Or.inr rfl | exact Or.inl (bitOf hM (by decide))
          | exact sub hM (by decide) | dsimp only

theorem State.dropCell_within {pp : Nat} (s : State) (hM : mm ||| 0x28000000 = mm) (hW : Within mm pp s00 s) :
    Within mm pp s00 (State.dropCell s) := by
  unfold State.dropCell
  try dsimp only
  repeat' with_reducible
    first | assumption | apply bump_within | apply irq_within | exact sub hM (by decide) | dsimp only

theorem State.freeBuffer_within {pp : Nat} (s : State) (l : Link) (c : CellClass) (hM : mm ||| 0x1000000000000000000000000000000 = mm) (hW : Within mm pp s00 s) :
    Within mm pp s00 (State.freeBuffer s l c) := by
  unfold State.freeBuffer
  try dsimp only
  repeat' with_reducible
    first | assumption | apply weftRec_within | split | (intro _ _ _) | (intro _ _) | exact sub hM (by decide)
          | dsimp only

theorem State.forwardLeft_within {pp : Nat} (s : State) (l : Link) (c : CellClass) (x : Cell) (hM : mm ||| 0x1000000000000000000000000000000 = mm) (hW : Within mm pp s00 s) :
    Within mm pp s00 (State.forwardLeft s l c x) := by
  unfold State.forwardLeft
  try dsimp only
  repeat' with_reducible
    first | assumption | apply freeBuffer_within | apply ite_within | split | exact sub hM (by decide)
          | dsimp only

theorem State.transmit_within {pp : Nat} (s : State) (l : Link) (c : CellClass) (x : Cell) (hM : mm ||| 0x1000000000000000000000030000000 = mm) (hW : Within mm pp s00 s) :
    Within mm pp s00 (State.transmit s l c x) := by
  unfold State.transmit
  try dsimp only
  repeat' with_reducible
    first | assumption | apply bump_within | apply wr_within | apply forwardLeft_within
          | apply weftRec_within | split | (intro _ _ _) | (intro _ _) | exact sub hM (by decide)
          | exact sub hM (by simp only [linkCredit_mask, linkTx_mask]; decide)
          | (simp only [linkCredit_arr, linkTx_arr]; done) | dsimp only

theorem State.sendCell_within {pp : Nat} (s : State) (l : Link) (c : CellClass) (x : Cell) (hM : mm ||| 0x1000000000000000000000030000000 = mm) (hW : Within mm pp s00 s) :
    Within mm pp s00 (State.sendCell s l c x) := by
  unfold State.sendCell
  try dsimp only
  repeat' with_reducible
    first | assumption | apply transmit_within | apply weftRec_within | apply ite_within | split
          | (intro _ _ _) | (intro _ _) | exact sub hM (by decide) | dsimp only

theorem State.originate_within {pp : Nat} (s : State) (ls : List Link) (c : CellClass) (dst : Nat) (bcast : Bool) (kind msgId : Nat) (l : List Byte) (hM : mm ||| 0x1000000000000000000000030000000 = mm) (hW : Within mm pp s00 s) :
    Within mm pp s00 (State.originate s ls c dst bcast kind msgId l) := by
  unfold State.originate
  try dsimp only
  repeat' with_reducible
    first | assumption | apply sendCell_within | apply foldl_within | split | (intro _ _ _) | (intro _ _)
          | exact sub hM (by decide) | dsimp only

theorem State.sendRsp_within {pp : Nat} (s : State) (o : Origin) (k : Packet) (hM : mm ||| 0x1000000000000000000000038000000 = mm) (hW : Within mm pp s00 s) :
    Within mm pp s00 (State.sendRsp s o k) := by
  unfold State.sendRsp
  try dsimp only
  repeat' with_reducible
    first | assumption | apply dropCell_within | apply originate_within | apply ite_within | split
          | exact sub hM (by decide) | dsimp only

theorem State.respondArg_within {pp : Nat} (s : State) (k : Packet) (status : Nat) (arg : Word) (payload : List Byte) (hM : mm ||| 0x8001000000400000000000000038140000 = mm) (hW : Within mm pp s00 s) :
    Within mm pp s00 (State.respondArg s k status arg payload) := by
  unfold State.respondArg
  try dsimp only
  repeat' with_reducible
    first | assumption | apply irq_within | (refine State.pushPacket_within ?_ ?_ ‹_›)
          | apply pushRefused_within | apply sendRsp_within | apply ite_within | split
          | exact sub hM (by decide) | dsimp only

theorem State.respond_within {pp : Nat} (s : State) (k : Packet) (status : Nat) (payload : List Byte) (hM : mm ||| 0xC001000000400000000000000038140000 = mm) (hW : Within mm pp s00 s) :
    Within mm pp s00 (State.respond s k status payload) := by
  unfold State.respond
  try dsimp only
  repeat' with_reducible
    first | assumption | apply fresh_within1 | (refine State.fresh_within ?_ ?_ ‹_›)
          | apply respondArg_within | split | exact sub hM (by decide) | dsimp only

theorem State.answer_within {pp : Nat} (s : State) (k : Packet) (status : Nat) (hM : mm ||| 0xC001000000400000000000000038140000 = mm) (hW : Within mm pp s00 s) :
    Within mm pp s00 (State.answer s k status) := by
  unfold State.answer
  try dsimp only
  repeat' with_reducible
    first | assumption | apply respond_within | exact sub hM (by decide) | dsimp only

/-! ## Machine/PairOps.lean -/

theorem State.pr_within {pp : Nat} (s : State) (f : PairSt → PairSt) (hM : mm ||| 0x200000000000000000000000000000 = mm) (hW : Within mm pp s00 s) :
    Within mm pp s00 (State.pr s f) := by
  unfold State.pr
  try dsimp only
  repeat' with_reducible
    first | assumption | apply within_mk | exact Or.inr rfl | exact Or.inl (bitOf hM (by decide))
          | exact sub hM (by decide) | dsimp only

theorem State.selReliable_within {pp : Nat} (s : State) (b : SelBody) (hM : mm ||| 0x200000000000000000000000000000 = mm) (hW : Within mm pp s00 s) :
    Within mm pp s00 (State.selReliable s b) := by
  unfold State.selReliable
  try dsimp only
  repeat' with_reducible
    first | assumption | apply pr_within | apply ite_within | split | (intro _ _ _) | (intro _ _)
          | exact sub hM (by decide) | dsimp only

theorem State.selPeriodic_within {pp : Nat} (s : State) (b : SelBody) (hM : mm ||| 0x200000000000000000000000000000 = mm) (hW : Within mm pp s00 s) :
    Within mm pp s00 (State.selPeriodic s b) := by
  unfold State.selPeriodic
  try dsimp only
  repeat' with_reducible
    first | assumption | apply pr_within | apply ite_within | split | (intro _ _ _) | (intro _ _)
          | exact sub hM (by decide) | dsimp only

theorem State.sendUrgent_within {pp : Nat} (s : State) (hM : mm ||| 0x200000000000000000000000000000 = mm) (hW : Within mm pp s00 s) :
    Within mm pp s00 (State.sendUrgent s) := by
  unfold State.sendUrgent
  try dsimp only
  repeat' with_reducible
    first | assumption | apply selReliable_within | exact sub hM (by decide) | dsimp only

theorem State.sendCache_within (s : State) (p : Port) (hM : mm ||| 0x200000080000000000000000000000 = mm) (hW : Within mm p s00 s) :
    Within mm p s00 (State.sendCache s p) := by
  unfold State.sendCache
  try dsimp only
  repeat' with_reducible
    first | assumption | apply pe_within | apply selReliable_within | apply ite_within | split
          | (intro _ _ _) | (intro _ _) | exact sub hM (by decide) | dsimp only

theorem State.sendCache_all {pp : Nat} (s : State) (p : Port) (hM : mm ||| 0x200000100000000000000000000000 = mm) (hW : Within mm pp s00 s) :
    Within mm pp s00 (State.sendCache s p) := by
  unfold State.sendCache
  try dsimp only
  repeat' with_reducible
    first | assumption | apply selReliable_within | apply pe_all | apply ite_within | split
          | (intro _ _ _) | (intro _ _) | exact sub hM (by decide) | dsimp only

theorem State.sendLoop_within {pp : Nat} (s : State) (g : Fin 4) (final : Bool) (hM : mm ||| 0x200000000000000000000000000000 = mm) (hW : Within mm pp s00 s) :
    Within mm pp s00 (State.sendLoop s g final) := by
  unfold State.sendLoop
  try dsimp only
  repeat' with_reducible
    first | assumption | apply selPeriodic_within | exact sub hM (by decide) | dsimp only

theorem State.sendMarks_within {pp : Nat} (s : State) (hM : mm ||| 0x200000000000000000000000000000 = mm) (hW : Within mm pp s00 s) :
    Within mm pp s00 (State.sendMarks s) := by
  unfold State.sendMarks
  try dsimp only
  repeat' with_reducible
    first | assumption | apply selReliable_within | apply ite_within | split | exact sub hM (by decide)
          | dsimp only

/-! ## Machine/PortOps.lean -/

theorem State.openLevels_within (s : State) (p : Port) (hM : mm ||| 0x80000000000000000 = mm) (hW : Within mm p s00 s) :
    Within mm p s00 (State.openLevels s p) := by
  unfold State.openLevels
  try dsimp only
  repeat' with_reducible
    first | assumption | apply wr_own | apply ite_within | split | exact sub hM (by decide) | decide
          | dsimp only

theorem State.openLevels_all {pp : Nat} (s : State) (p : Port) (hM : mm ||| 0x80000000000000000000 = mm) (hW : Within mm pp s00 s) :
    Within mm pp s00 (State.openLevels s p) := by
  unfold State.openLevels
  try dsimp only
  repeat' with_reducible
    first | assumption | apply wr_within | apply ite_within | split | exact sub hM (by decide) | dsimp only

theorem State.present_within (s : State) (p : Port) (x : Pres) (hM : mm ||| 0x80000080000000000000000 = mm) (hW : Within mm p s00 s) :
    Within mm p s00 (State.present s p x) := by
  unfold State.present
  try dsimp only
  repeat' with_reducible
    first | assumption | apply cc_within | apply openLevels_within | apply ite_within | split
          | (intro _ _ _) | (intro _ _) | exact sub hM (by decide) | dsimp only

theorem State.present_all {pp : Nat} (s : State) (p : Port) (x : Pres) (hM : mm ||| 0x100080000000000000000000 = mm) (hW : Within mm pp s00 s) :
    Within mm pp s00 (State.present s p x) := by
  unfold State.present
  try dsimp only
  repeat' with_reducible
    first | assumption | apply cc_all | apply openLevels_all | apply ite_within | split | (intro _ _ _)
          | (intro _ _) | exact sub hM (by decide) | dsimp only

theorem State.halt_within (s : State) (p : Port) (cause : Nat) (hM : mm ||| 0x480007010000000000140000 = mm) (hW : Within mm p s00 s) :
    Within mm p s00 (State.halt s p cause) := by
  unfold State.halt
  try dsimp only
  repeat' with_reducible
    first | assumption | apply bump_own | apply event_own | apply flag_own | apply irq_own
          | apply modPort_own | apply wr_own | apply loop_within | apply ite_within | split
          | (intro _ _ _) | (intro _ _) | exact sub hM (by decide) | decide | dsimp only

theorem State.halt_all {pp : Nat} (s : State) (p : Port) (cause : Nat) (hM : mm ||| 0x507000010000000000140000 = mm) (hW : Within mm pp s00 s) :
    Within mm pp s00 (State.halt s p cause) := by
  unfold State.halt
  try dsimp only
  repeat' with_reducible
    first | assumption | apply bump_within | apply flag_within | apply irq_within
          | apply modPort_within | apply wr_within | apply event_all | apply loop_all
          | apply ite_within | split | (intro _ _ _) | (intro _ _) | exact sub hM (by decide) | dsimp only

theorem State.driveOn_within (s : State) (p : Port) (hM : mm ||| 0x80000038000000000000000 = mm) (hW : Within mm p s00 s) :
    Within mm p s00 (State.driveOn s p) := by
  unfold State.driveOn
  try dsimp only
  repeat' with_reducible
    first | assumption | apply modPort_own | apply bump_within | apply irq_within
          | apply wrBit_within | apply ite_within | split | (intro _ _ _) | (intro _ _)
          | exact sub hM (by decide) | decide | dsimp only

theorem State.driveOn_all {pp : Nat} (s : State) (p : Port) (hM : mm ||| 0x100000038000000000000000 = mm) (hW : Within mm pp s00 s) :
    Within mm pp s00 (State.driveOn s p) := by
  unfold State.driveOn
  try dsimp only
  repeat' with_reducible
    first | assumption | apply bump_within | apply irq_within | apply modPort_within
          | apply wrBit_within | apply ite_within | split | (intro _ _ _) | (intro _ _)
          | exact sub hM (by decide) | dsimp only

theorem State.blank2ms_within (s : State) (p : Port) (hM : mm ||| 0x80002000000000000000000 = mm) (hW : Within mm p s00 s) :
    Within mm p s00 (State.blank2ms s p) := by
  unfold State.blank2ms
  try dsimp only
  repeat' with_reducible
    first | assumption | apply flag_own | apply model_within | split | (intro _ _ _) | (intro _ _)
          | exact sub hM (by decide) | decide | dsimp only

theorem State.blank2ms_all {pp : Nat} (s : State) (p : Port) (hM : mm ||| 0x102000000000000000000000 = mm) (hW : Within mm pp s00 s) :
    Within mm pp s00 (State.blank2ms s p) := by
  unfold State.blank2ms
  try dsimp only
  repeat' with_reducible
    first | assumption | apply flag_within | apply model_all | split | (intro _ _ _) | (intro _ _)
          | exact sub hM (by decide) | dsimp only

theorem State.setMode_within (s : State) (p : Port) (m : Nat) (hM : mm ||| 0x80003000000000000000000 = mm) (hW : Within mm p s00 s) :
    Within mm p s00 (State.setMode s p m) := by
  unfold State.setMode
  try dsimp only
  repeat' with_reducible
    first | assumption | apply errF_own | apply wr_own | apply loop_within | apply ite_within
          | split | (intro _ _ _) | (intro _ _) | exact sub hM (by decide) | decide | dsimp only

theorem State.setMode_all {pp : Nat} (s : State) (p : Port) (m : Nat) (hM : mm ||| 0x103000000000000000000000 = mm) (hW : Within mm pp s00 s) :
    Within mm pp s00 (State.setMode s p m) := by
  unfold State.setMode
  try dsimp only
  repeat' with_reducible
    first | assumption | apply errF_within | apply wr_within | apply loop_all | apply ite_within
          | split | (intro _ _ _) | (intro _ _) | exact sub hM (by decide) | dsimp only

theorem State.latchMode_within (s : State) (p : Port) (hM : mm ||| 0x480007038000000000140000 = mm) (hW : Within mm p s00 s) :
    Within mm p s00 (State.latchMode s p) := by
  unfold State.latchMode
  try dsimp only
  repeat' with_reducible
    first | assumption | apply wr_own | apply blank2ms_within | apply driveOn_within
          | apply halt_within | apply loop_within | apply ite_within | split | (intro _ _ _) | (intro _ _)
          | exact sub hM (by decide) | decide | dsimp only

theorem State.latchMode_all {pp : Nat} (s : State) (p : Port) (hM : mm ||| 0x507000038000000000140000 = mm) (hW : Within mm pp s00 s) :
    Within mm pp s00 (State.latchMode s p) := by
  unfold State.latchMode
  try dsimp only
  repeat' with_reducible
    first | assumption | apply wr_within | apply blank2ms_all | apply driveOn_all
          | apply halt_all | apply loop_all | apply ite_within | split | (intro _ _ _) | (intro _ _)
          | exact sub hM (by decide) | dsimp only

theorem State.sourceMode_within (s : State) (p : Port) (vTarget iFwd : Nat) (hM : mm ||| 0x80003000000000000000000 = mm) (hW : Within mm p s00 s) :
    Within mm p s00 (State.sourceMode s p vTarget iFwd) := by
  unfold State.sourceMode
  try dsimp only
  repeat' with_reducible
    first | assumption | apply wr_own | apply setMode_within | exact sub hM (by decide) | decide
          | dsimp only

theorem State.sourceMode_all {pp : Nat} (s : State) (p : Port) (vTarget iFwd : Nat) (hM : mm ||| 0x103000000000000000000000 = mm) (hW : Within mm pp s00 s) :
    Within mm pp s00 (State.sourceMode s p vTarget iFwd) := by
  unfold State.sourceMode
  try dsimp only
  repeat' with_reducible
    first | assumption | apply wr_within | apply setMode_all | exact sub hM (by decide) | dsimp only

theorem State.checksIdle_within (s : State) (p : Port) (hM : mm ||| 0x10000000000000000000 = mm) (hW : Within mm p s00 s) :
    Within mm p s00 (State.checksIdle s p) := by
  unfold State.checksIdle
  try dsimp only
  repeat' with_reducible
    first | assumption | apply flag_own | apply wr_own | exact sub hM (by decide) | decide | dsimp only

theorem State.checksIdle_all {pp : Nat} (s : State) (p : Port) (hM : mm ||| 0x10000000000000000000000 = mm) (hW : Within mm pp s00 s) :
    Within mm pp s00 (State.checksIdle s p) := by
  unfold State.checksIdle
  try dsimp only
  repeat' with_reducible
    first | assumption | apply flag_within | apply wr_within | exact sub hM (by decide) | dsimp only

theorem State.guardTo_within (s : State) (p : Port) (st : Nat) (hM : mm ||| 0x80010000000000000000000 = mm) (hW : Within mm p s00 s) :
    Within mm p s00 (State.guardTo s p st) := by
  unfold State.guardTo
  try dsimp only
  repeat' with_reducible
    first | assumption | apply wr_own | apply checksIdle_within | apply grd_within
          | apply ite_within | split | (intro _ _ _) | (intro _ _) | exact sub hM (by decide) | decide | dsimp only

theorem State.guardTo_all {pp : Nat} (s : State) (p : Port) (st : Nat) (hM : mm ||| 0x110000000000000000000000 = mm) (hW : Within mm pp s00 s) :
    Within mm pp s00 (State.guardTo s p st) := by
  unfold State.guardTo
  try dsimp only
  repeat' with_reducible
    first | assumption | apply wr_within | apply checksIdle_all | apply grd_all | apply ite_within
          | split | (intro _ _ _) | (intro _ _) | exact sub hM (by decide) | dsimp only

theorem State.gateOff_within (s : State) (p : Port) (hM : mm ||| 0x80010000000000000000000 = mm) (hW : Within mm p s00 s) :
    Within mm p s00 (State.gateOff s p) := by
  unfold State.gateOff
  try dsimp only
  repeat' with_reducible
    first | assumption | apply flag_own | apply grd_within | split | (intro _ _ _) | (intro _ _)
          | exact sub hM (by decide) | decide | dsimp only

theorem State.gateOff_all {pp : Nat} (s : State) (p : Port) (hM : mm ||| 0x110000000000000000000000 = mm) (hW : Within mm pp s00 s) :
    Within mm pp s00 (State.gateOff s p) := by
  unfold State.gateOff
  try dsimp only
  repeat' with_reducible
    first | assumption | apply flag_within | apply grd_all | split | (intro _ _ _) | (intro _ _)
          | exact sub hM (by decide) | dsimp only

theorem State.dsgOn_within (s : State) (p : Port) (hM : mm ||| 0x10000000000000000000 = mm) (hW : Within mm p s00 s) :
    Within mm p s00 (State.dsgOn s p) := by
  unfold State.dsgOn
  try dsimp only
  repeat' with_reducible
    first | assumption | apply flag_own | exact sub hM (by decide) | decide | dsimp only

theorem State.dsgOn_all {pp : Nat} (s : State) (p : Port) (hM : mm ||| 0x10000000000000000000000 = mm) (hW : Within mm pp s00 s) :
    Within mm pp s00 (State.dsgOn s p) := by
  unfold State.dsgOn
  try dsimp only
  repeat' with_reducible
    first | assumption | apply flag_within | exact sub hM (by decide) | dsimp only

theorem State.dsgAgain_within (s : State) (p : Port) (hM : mm ||| 0x10000000000000000000 = mm) (hW : Within mm p s00 s) :
    Within mm p s00 (State.dsgAgain s p) := by
  unfold State.dsgAgain
  try dsimp only
  repeat' with_reducible
    first | assumption | apply dsgOn_within | apply ite_within | split | exact sub hM (by decide) | dsimp only

theorem State.dsgAgain_all {pp : Nat} (s : State) (p : Port) (hM : mm ||| 0x10000000000000000000000 = mm) (hW : Within mm pp s00 s) :
    Within mm pp s00 (State.dsgAgain s p) := by
  unfold State.dsgAgain
  try dsimp only
  repeat' with_reducible
    first | assumption | apply dsgOn_all | apply ite_within | split | exact sub hM (by decide) | dsimp only

theorem State.dsgOff_within (s : State) (p : Port) (hM : mm ||| 0x10000000000000000000 = mm) (hW : Within mm p s00 s) :
    Within mm p s00 (State.dsgOff s p) := by
  unfold State.dsgOff
  try dsimp only
  repeat' with_reducible
    first | assumption | apply flag_own | exact sub hM (by decide) | decide | dsimp only

theorem State.dsgOff_all {pp : Nat} (s : State) (p : Port) (hM : mm ||| 0x10000000000000000000000 = mm) (hW : Within mm pp s00 s) :
    Within mm pp s00 (State.dsgOff s p) := by
  unfold State.dsgOff
  try dsimp only
  repeat' with_reducible
    first | assumption | apply flag_within | exact sub hM (by decide) | dsimp only

theorem State.openPlanned_within (s : State) (p : Port) (hM : mm ||| 0x80018000000000000000000 = mm) (hW : Within mm p s00 s) :
    Within mm p s00 (State.openPlanned s p) := by
  unfold State.openPlanned
  try dsimp only
  repeat' with_reducible
    first | assumption | apply irq_own | apply dsgOn_within | apply gateOff_within
          | apply grd_within | apply guardTo_within | apply ite_within | split | (intro _ _ _)
          | (intro _ _) | exact sub hM (by decide) | decide | dsimp only

theorem State.openPlanned_all {pp : Nat} (s : State) (p : Port) (hM : mm ||| 0x118000000000000000000000 = mm) (hW : Within mm pp s00 s) :
    Within mm pp s00 (State.openPlanned s p) := by
  unfold State.openPlanned
  try dsimp only
  repeat' with_reducible
    first | assumption | apply irq_within | apply dsgOn_all | apply gateOff_all
          | apply grd_all | apply guardTo_all | apply ite_within | split | (intro _ _ _) | (intro _ _)
          | exact sub hM (by decide) | dsimp only

theorem State.refuseCmd_within (s : State) (p : Port) (cmd reason : Nat) (hM : mm ||| 0x480028000000000000140000 = mm) (hW : Within mm p s00 s) :
    Within mm p s00 (State.refuseCmd s p cmd reason) := by
  unfold State.refuseCmd
  try dsimp only
  repeat' with_reducible
    first | assumption | apply bump_own | apply event_own | apply irq_own | exact sub hM (by decide)
          | decide | dsimp only

theorem State.refuseCmd_all {pp : Nat} (s : State) (p : Port) (cmd reason : Nat) (hM : mm ||| 0x528000000000000000140000 = mm) (hW : Within mm pp s00 s) :
    Within mm pp s00 (State.refuseCmd s p cmd reason) := by
  unfold State.refuseCmd
  try dsimp only
  repeat' with_reducible
    first | assumption | apply bump_within | apply irq_within | apply event_all
          | exact sub hM (by decide) | dsimp only

theorem State.unqualify_within (s : State) (p : Port) (hM : mm ||| 0x80000000000000000 = mm) (hW : Within mm p s00 s) :
    Within mm p s00 (State.unqualify s p) := by
  unfold State.unqualify
  try dsimp only
  repeat' with_reducible
    first | assumption | apply flag_own | apply wr_own | apply ite_within | split
          | exact sub hM (by decide) | decide | dsimp only

theorem State.unqualify_all {pp : Nat} (s : State) (p : Port) (hM : mm ||| 0x80000000000000000000 = mm) (hW : Within mm pp s00 s) :
    Within mm pp s00 (State.unqualify s p) := by
  unfold State.unqualify
  try dsimp only
  repeat' with_reducible
    first | assumption | apply flag_within | apply wr_within | apply ite_within | split
          | exact sub hM (by decide) | dsimp only

theorem State.vconnOff_within (s : State) (p : Port) (hM : mm ||| 0x80000080000000000000000 = mm) (hW : Within mm p s00 s) :
    Within mm p s00 (State.vconnOff s p) := by
  unfold State.vconnOff
  try dsimp only
  repeat' with_reducible
    first | assumption | apply flag_own | apply wr_own | apply cc_within | split | (intro _ _ _)
          | (intro _ _) | exact sub hM (by decide) | decide | dsimp only

theorem State.vconnOff_all {pp : Nat} (s : State) (p : Port) (hM : mm ||| 0x100080000000000000000000 = mm) (hW : Within mm pp s00 s) :
    Within mm pp s00 (State.vconnOff s p) := by
  unfold State.vconnOff
  try dsimp only
  repeat' with_reducible
    first | assumption | apply flag_within | apply wr_within | apply cc_all | split | (intro _ _ _)
          | (intro _ _) | exact sub hM (by decide) | dsimp only

theorem State.clearShed_within (s : State) (p : Port) (hM : mm ||| 0x80000000000400000000000 = mm) (hW : Within mm p s00 s) :
    Within mm p s00 (State.clearShed s p) := by
  unfold State.clearShed
  try dsimp only
  repeat' with_reducible
    first | assumption | apply flag_own | apply wr_own | apply swp_within | split | (intro _ _ _)
          | (intro _ _) | exact sub hM (by decide) | decide | dsimp only

theorem State.clearShed_all {pp : Nat} (s : State) (p : Port) (hM : mm ||| 0x100000000000400000000000 = mm) (hW : Within mm pp s00 s) :
    Within mm pp s00 (State.clearShed s p) := by
  unfold State.clearShed
  try dsimp only
  repeat' with_reducible
    first | assumption | apply flag_within | apply wr_within | apply swp_all | split | (intro _ _ _)
          | (intro _ _) | exact sub hM (by decide) | dsimp only

theorem txId_mask (k : Sop) (o : Bool) : fieldMask o (txId k) = if o then 0x400000000000000000 else 0x400000000000000000000 := by
  cases k
  all_goals (cases o <;> rfl)

theorem txId_arr (k : Sop) : fieldArr (txId k) = false := by
  cases k
  all_goals rfl

theorem rxId_mask (k : Sop) (o : Bool) : fieldMask o (rxId k) = if o then 0x400000000000000000 else 0x400000000000000000000 := by
  cases k
  all_goals (cases o <;> rfl)

theorem rxId_arr (k : Sop) : fieldArr (rxId k) = false := by
  cases k
  all_goals rfl

theorem rxVld_mask (k : Sop) (o : Bool) : fieldMask o (rxVld k) = if o then 0x400000000000000000 else 0x400000000000000000000 := by
  cases k
  all_goals (cases o <;> rfl)

theorem rxVld_arr (k : Sop) : fieldArr (rxVld k) = false := by
  cases k
  all_goals rfl

theorem State.clearIds_within (s : State) (p : Port) (k : Sop) (hM : mm ||| 0x400000000000000000 = mm) (hW : Within mm p s00 s) :
    Within mm p s00 (State.clearIds s p k) := by
  unfold State.clearIds
  try dsimp only
  repeat' with_reducible
    first | assumption | apply flag_own | apply wr_own | exact sub hM (by decide)
          | exact sub hM (by simp only [txId_mask, rxId_mask, rxVld_mask]; decide) | decide
          | (simp only [txId_arr, rxId_arr, rxVld_arr]; done) | dsimp only

theorem State.clearIds_all {pp : Nat} (s : State) (p : Port) (k : Sop) (hM : mm ||| 0x400000000000000000000 = mm) (hW : Within mm pp s00 s) :
    Within mm pp s00 (State.clearIds s p k) := by
  unfold State.clearIds
  try dsimp only
  repeat' with_reducible
    first | assumption | apply flag_within | apply wr_within | exact sub hM (by decide)
          | exact sub hM (by simp only [txId_mask, rxId_mask, rxVld_mask]; decide)
          | (simp only [txId_arr, rxId_arr, rxVld_arr]; done) | dsimp only

theorem State.clearAllIds_within (s : State) (p : Port) (hM : mm ||| 0x400000000000000000 = mm) (hW : Within mm p s00 s) :
    Within mm p s00 (State.clearAllIds s p) := by
  unfold State.clearAllIds
  try dsimp only
  repeat' with_reducible
    first | assumption | apply clearIds_within | exact sub hM (by decide) | dsimp only

theorem State.clearAllIds_all {pp : Nat} (s : State) (p : Port) (hM : mm ||| 0x400000000000000000000 = mm) (hW : Within mm pp s00 s) :
    Within mm pp s00 (State.clearAllIds s p) := by
  unfold State.clearAllIds
  try dsimp only
  repeat' with_reducible
    first | assumption | apply clearIds_all | exact sub hM (by decide) | dsimp only

theorem State.pumpCableReset_within (s : State) (p : Port) (hM : mm ||| 0x80000C00000000000000000 = mm) (hW : Within mm p s00 s) :
    Within mm p s00 (State.pumpCableReset s p) := by
  unfold State.pumpCableReset
  try dsimp only
  repeat' with_reducible
    first | assumption | apply bump_own | apply wr_own | apply clearIds_within
          | apply phy_within | apply ite_within | split | (intro _ _ _) | (intro _ _) | exact sub hM (by decide)
          | decide | dsimp only

theorem State.pumpCableReset_all {pp : Nat} (s : State) (p : Port) (hM : mm ||| 0x100C00000000000000000000 = mm) (hW : Within mm pp s00 s) :
    Within mm pp s00 (State.pumpCableReset s p) := by
  unfold State.pumpCableReset
  try dsimp only
  repeat' with_reducible
    first | assumption | apply bump_within | apply wr_within | apply clearIds_all
          | apply phy_all | apply ite_within | split | (intro _ _ _) | (intro _ _) | exact sub hM (by decide)
          | dsimp only

theorem State.amsBegin_within (s : State) (p : Port) (hM : mm ||| 0x80000480000000000000000 = mm) (hW : Within mm p s00 s) :
    Within mm p s00 (State.amsBegin s p) := by
  unfold State.amsBegin
  try dsimp only
  repeat' with_reducible
    first | assumption | apply flag_own | apply present_within | apply ite_within | split
          | exact sub hM (by decide) | decide | dsimp only

theorem State.amsBegin_all {pp : Nat} (s : State) (p : Port) (hM : mm ||| 0x100480000000000000000000 = mm) (hW : Within mm pp s00 s) :
    Within mm pp s00 (State.amsBegin s p) := by
  unfold State.amsBegin
  try dsimp only
  repeat' with_reducible
    first | assumption | apply flag_within | apply present_all | apply ite_within | split
          | exact sub hM (by decide) | dsimp only

theorem State.releaseReasm_within (s : State) (p : Port) (k : Sop) (hM : mm ||| 0x180000A00000000000000000 = mm) (hW : Within mm p s00 s) :
    Within mm p s00 (State.releaseReasm s p k) := by
  unfold State.releaseReasm
  try dsimp only
  repeat' with_reducible
    first | assumption | apply bump_own | apply irq_own | apply phy_within | apply phy_all
          | apply ite_within | split | (intro _ _ _) | (intro _ _) | exact sub hM (by decide) | decide | dsimp only

theorem State.releaseReasm_all {pp : Nat} (s : State) (p : Port) (k : Sop) (hM : mm ||| 0x100A00000000000000000000 = mm) (hW : Within mm pp s00 s) :
    Within mm pp s00 (State.releaseReasm s p k) := by
  unfold State.releaseReasm
  try dsimp only
  repeat' with_reducible
    first | assumption | apply bump_within | apply irq_within | apply phy_all | apply ite_within
          | split | (intro _ _ _) | (intro _ _) | exact sub hM (by decide) | dsimp only

theorem State.softResetGoes_within (s : State) (p : Port) (k : Sop) (hM : mm ||| 0x180000E00000000000000000 = mm) (hW : Within mm p s00 s) :
    Within mm p s00 (State.softResetGoes s p k) := by
  unfold State.softResetGoes
  try dsimp only
  repeat' with_reducible
    first | assumption | apply bump_own | apply irq_own | apply clearIds_within
          | apply releaseReasm_within | exact sub hM (by decide) | decide | dsimp only

theorem State.softResetGoes_all {pp : Nat} (s : State) (p : Port) (k : Sop) (hM : mm ||| 0x100E00000000000000000000 = mm) (hW : Within mm pp s00 s) :
    Within mm pp s00 (State.softResetGoes s p k) := by
  unfold State.softResetGoes
  try dsimp only
  repeat' with_reducible
    first | assumption | apply bump_within | apply irq_within | apply clearIds_all
          | apply releaseReasm_all | exact sub hM (by decide) | dsimp only

theorem State.withdrawHeld_within (s : State) (p : Port) (hM : mm ||| 0x80000400000000000000000 = mm) (hW : Within mm p s00 s) :
    Within mm p s00 (State.withdrawHeld s p) := by
  unfold State.withdrawHeld
  try dsimp only
  repeat' with_reducible
    first | assumption | apply wr_own | apply phy_within | apply ite_within | split | (intro _ _ _)
          | (intro _ _) | exact sub hM (by decide) | decide | dsimp only

theorem State.withdrawHeld_all {pp : Nat} (s : State) (p : Port) (hM : mm ||| 0x100400000000000000000000 = mm) (hW : Within mm pp s00 s) :
    Within mm pp s00 (State.withdrawHeld s p) := by
  unfold State.withdrawHeld
  try dsimp only
  repeat' with_reducible
    first | assumption | apply wr_within | apply phy_all | apply ite_within | split | (intro _ _ _)
          | (intro _ _) | exact sub hM (by decide) | dsimp only

theorem State.stamp_within (s : State) (p : Port) (hM : mm ||| 0x80000000000000000000000 = mm) (hW : Within mm p s00 s) :
    Within mm p s00 (State.stamp s p) := by
  unfold State.stamp
  try dsimp only
  repeat' with_reducible
    first | assumption | apply phy_within | split | (intro _ _ _) | (intro _ _) | exact sub hM (by decide)
          | dsimp only

theorem State.stamp_all {pp : Nat} (s : State) (p : Port) (hM : mm ||| 0x100000000000000000000000 = mm) (hW : Within mm pp s00 s) :
    Within mm pp s00 (State.stamp s p) := by
  unfold State.stamp
  try dsimp only
  repeat' with_reducible
    first | assumption | apply phy_all | split | (intro _ _ _) | (intro _ _) | exact sub hM (by decide)
          | dsimp only

theorem State.pump_within (s0 : State) (p : Port) (hM : mm ||| 0x180000E80000000000000000 = mm) (hW : Within mm p s00 s0) :
    Within mm p s00 (State.pump s0 p) := by
  unfold State.pump
  try dsimp only
  repeat' with_reducible
    first | assumption | apply flag_own | apply wr_own | apply amsBegin_within
          | apply phy_within | apply present_within | apply pumpCableReset_within
          | apply softResetGoes_within | apply withdrawHeld_within | apply ite_within | split
          | (intro _ _ _) | (intro _ _) | exact sub hM (by decide) | decide | dsimp only

theorem State.pump_all {pp : Nat} (s0 : State) (p : Port) (hM : mm ||| 0x100E80000000000000000000 = mm) (hW : Within mm pp s00 s0) :
    Within mm pp s00 (State.pump s0 p) := by
  unfold State.pump
  try dsimp only
  repeat' with_reducible
    first | assumption | apply flag_within | apply wr_within | apply amsBegin_all
          | apply phy_all | apply present_all | apply pumpCableReset_all
          | apply softResetGoes_all | apply withdrawHeld_all | apply ite_within | split | (intro _ _ _)
          | (intro _ _) | exact sub hM (by decide) | dsimp only

theorem State.sendFrame_within (s : State) (p : Port) (f : Frame) (ams : Bool) (hM : mm ||| 0x180000E80000000000000000 = mm) (hW : Within mm p s00 s) :
    Within mm p s00 (State.sendFrame s p f ams) := by
  unfold State.sendFrame
  try dsimp only
  repeat' with_reducible
    first | assumption | apply phy_within | apply pump_within | apply ite_within | apply getD_within
          | split | (intro _ _ _) | (intro _ _) | exact sub hM (by decide) | dsimp only

theorem State.sendFrame_all {pp : Nat} (s : State) (p : Port) (f : Frame) (ams : Bool) (hM : mm ||| 0x100E80000000000000000000 = mm) (hW : Within mm pp s00 s) :
    Within mm pp s00 (State.sendFrame s p f ams) := by
  unfold State.sendFrame
  try dsimp only
  repeat' with_reducible
    first | assumption | apply phy_all | apply pump_all | apply ite_within | apply getD_within | split
          | (intro _ _ _) | (intro _ _) | exact sub hM (by decide) | dsimp only

theorem State.send_within (s : State) (p : Port) (m : PdMsg) (b : Body) (hM : mm ||| 0x180000E80000000000000000 = mm) (hW : Within mm p s00 s) :
    Within mm p s00 (State.send s p m b) := by
  unfold State.send
  try dsimp only
  repeat' with_reducible
    first | assumption | apply sendFrame_within | exact sub hM (by decide) | dsimp only

theorem State.send_all {pp : Nat} (s : State) (p : Port) (m : PdMsg) (b : Body) (hM : mm ||| 0x100E80000000000000000000 = mm) (hW : Within mm pp s00 s) :
    Within mm pp s00 (State.send s p m b) := by
  unfold State.send
  try dsimp only
  repeat' with_reducible
    first | assumption | apply sendFrame_all | exact sub hM (by decide) | dsimp only

theorem State.sendAms_within (s : State) (p : Port) (m : PdMsg) (b : Body) (hM : mm ||| 0x180000E80000000000000000 = mm) (hW : Within mm p s00 s) :
    Within mm p s00 (State.sendAms s p m b) := by
  unfold State.sendAms
  try dsimp only
  repeat' with_reducible
    first | assumption | apply sendFrame_within | exact sub hM (by decide) | dsimp only

theorem State.sendAms_all {pp : Nat} (s : State) (p : Port) (m : PdMsg) (b : Body) (hM : mm ||| 0x100E80000000000000000000 = mm) (hW : Within mm pp s00 s) :
    Within mm pp s00 (State.sendAms s p m b) := by
  unfold State.sendAms
  try dsimp only
  repeat' with_reducible
    first | assumption | apply sendFrame_all | exact sub hM (by decide) | dsimp only

theorem State.amsEnd_within (s : State) (p : Port) (hM : mm ||| 0x80000480000000000000000 = mm) (hW : Within mm p s00 s) :
    Within mm p s00 (State.amsEnd s p) := by
  unfold State.amsEnd
  try dsimp only
  repeat' with_reducible
    first | assumption | apply flag_own | apply phy_within | apply present_within | apply ite_within
          | split | (intro _ _ _) | (intro _ _) | exact sub hM (by decide) | decide | dsimp only

theorem State.amsEnd_all {pp : Nat} (s : State) (p : Port) (hM : mm ||| 0x100480000000000000000000 = mm) (hW : Within mm pp s00 s) :
    Within mm pp s00 (State.amsEnd s p) := by
  unfold State.amsEnd
  try dsimp only
  repeat' with_reducible
    first | assumption | apply flag_within | apply phy_all | apply present_all | apply ite_within
          | split | (intro _ _ _) | (intro _ _) | exact sub hM (by decide) | dsimp only

theorem State.refuseMsg_within (s : State) (p : Port) (hM : mm ||| 0x180000E80000000000000000 = mm) (hW : Within mm p s00 s) :
    Within mm p s00 (State.refuseMsg s p) := by
  unfold State.refuseMsg
  try dsimp only
  repeat' with_reducible
    first | assumption | apply bump_own | apply irq_own | apply send_within | apply ite_within
          | split | exact sub hM (by decide) | decide | dsimp only

theorem State.refuseMsg_all {pp : Nat} (s : State) (p : Port) (hM : mm ||| 0x100E80000000000000000000 = mm) (hW : Within mm pp s00 s) :
    Within mm pp s00 (State.refuseMsg s p) := by
  unfold State.refuseMsg
  try dsimp only
  repeat' with_reducible
    first | assumption | apply bump_within | apply irq_within | apply send_all | apply ite_within
          | split | exact sub hM (by decide) | dsimp only

theorem State.take_within (s : State) (p : Port) (m : PdMsg) (hM : mm ||| 0x80000000000000000000000 = mm) (hW : Within mm p s00 s) :
    Within mm p s00 (State.take s p m) := by
  unfold State.take
  try dsimp only
  repeat' with_reducible
    first | assumption | apply phy_within | split | (intro _ _ _) | (intro _ _) | exact sub hM (by decide)
          | dsimp only

theorem State.take_all {pp : Nat} (s : State) (p : Port) (m : PdMsg) (hM : mm ||| 0x100000000000000000000000 = mm) (hW : Within mm pp s00 s) :
    Within mm pp s00 (State.take s p m) := by
  unfold State.take
  try dsimp only
  repeat' with_reducible
    first | assumption | apply phy_all | split | (intro _ _ _) | (intro _ _) | exact sub hM (by decide)
          | dsimp only

theorem State.endVdm_within (s : State) (p : Port) (status : Nat) (payload : List Byte) (hM : mm ||| 0xC001000000480000000000000038140000 = mm) (hW : Within mm p s00 s) :
    Within mm p s00 (State.endVdm s p status payload) := by
  unfold State.endVdm
  try dsimp only
  repeat' with_reducible
    first | assumption | apply pe_within | apply respond_within | split | (intro _ _ _) | (intro _ _)
          | exact sub hM (by decide) | dsimp only

theorem State.endVdm_all {pp : Nat} (s : State) (p : Port) (status : Nat) (payload : List Byte) (hM : mm ||| 0xC001000000500000000000000038140000 = mm) (hW : Within mm pp s00 s) :
    Within mm pp s00 (State.endVdm s p status payload) := by
  unfold State.endVdm
  try dsimp only
  repeat' with_reducible
    first | assumption | apply respond_within | apply pe_all | split | (intro _ _ _) | (intro _ _)
          | exact sub hM (by decide) | dsimp only

theorem State.clearContract_within (s : State) (p : Port) (hM : mm ||| 0xC001200000480010400000000038140000 = mm) (hW : Within mm p s00 s) :
    Within mm p s00 (State.clearContract s p) := by
  unfold State.clearContract
  try dsimp only
  repeat' with_reducible
    first | assumption | apply flag_own | apply wr_own | apply endVdm_within | apply pe_within
          | apply phy_within | apply sendCache_within | split | (intro _ _ _) | (intro _ _)
          | exact sub hM (by decide) | decide | dsimp only

theorem State.clearContract_all {pp : Nat} (s : State) (p : Port) (hM : mm ||| 0xC001200000510400000000000038140000 = mm) (hW : Within mm pp s00 s) :
    Within mm pp s00 (State.clearContract s p) := by
  unfold State.clearContract
  try dsimp only
  repeat' with_reducible
    first | assumption | apply flag_within | apply wr_within | apply endVdm_all | apply pe_all
          | apply phy_all | apply sendCache_all | split | (intro _ _ _) | (intro _ _)
          | exact sub hM (by decide) | dsimp only

theorem State.swapEnd_within (s : State) (p : Port) (hM : mm ||| 0x200000080000000000000000000000 = mm) (hW : Within mm p s00 s) :
    Within mm p s00 (State.swapEnd s p) := by
  unfold State.swapEnd
  try dsimp only
  repeat' with_reducible
    first | assumption | apply pe_within | apply sendCache_within | apply swp_within
          | apply ite_within | split | (intro _ _ _) | (intro _ _) | exact sub hM (by decide) | dsimp only

theorem State.swapEnd_all {pp : Nat} (s : State) (p : Port) (hM : mm ||| 0x200000100000000000000000000000 = mm) (hW : Within mm pp s00 s) :
    Within mm pp s00 (State.swapEnd s p) := by
  unfold State.swapEnd
  try dsimp only
  repeat' with_reducible
    first | assumption | apply pe_all | apply sendCache_all | apply swp_all | apply ite_within
          | split | (intro _ _ _) | (intro _ _) | exact sub hM (by decide) | dsimp only

theorem State.swapTripped_within (s : State) (p : Port) (step : SwapStep) (hM : mm ||| 0x480000000000000000140000 = mm) (hW : Within mm p s00 s) :
    Within mm p s00 (State.swapTripped s p step) := by
  unfold State.swapTripped
  try dsimp only
  repeat' with_reducible
    first | assumption | apply event_own | split | exact sub hM (by decide) | decide | dsimp only

theorem State.swapTripped_all {pp : Nat} (s : State) (p : Port) (step : SwapStep) (hM : mm ||| 0x500000000000000000140000 = mm) (hW : Within mm pp s00 s) :
    Within mm pp s00 (State.swapTripped s p step) := by
  unfold State.swapTripped
  try dsimp only
  repeat' with_reducible
    first | assumption | apply event_all | split | exact sub hM (by decide) | dsimp only

theorem State.showREst_within (s : State) (p : Port) (hM : mm ||| 0x2000000000000000000 = mm) (hW : Within mm p s00 s) :
    Within mm p s00 (State.showREst s p) := by
  unfold State.showREst
  try dsimp only
  repeat' with_reducible
    first | assumption | apply wr_own | apply ite_within | split | exact sub hM (by decide) | decide
          | dsimp only

theorem State.showREst_all {pp : Nat} (s : State) (p : Port) (hM : mm ||| 0x2000000000000000000000 = mm) (hW : Within mm pp s00 s) :
    Within mm pp s00 (State.showREst s p) := by
  unfold State.showREst
  try dsimp only
  repeat' with_reducible
    first | assumption | apply wr_within | apply ite_within | split | exact sub hM (by decide) | dsimp only

theorem State.seedRext_within (s : State) (p : Port) (r : Nat) (hM : mm ||| 0x80002000000000000000000 = mm) (hW : Within mm p s00 s) :
    Within mm p s00 (State.seedRext s p r) := by
  unfold State.seedRext
  try dsimp only
  repeat' with_reducible
    first | assumption | apply flag_own | apply wr_own | apply model_within
          | apply showREst_within | split | (intro _ _ _) | (intro _ _) | exact sub hM (by decide) | decide
          | dsimp only

theorem State.seedRext_all {pp : Nat} (s : State) (p : Port) (r : Nat) (hM : mm ||| 0x102000000000000000000000 = mm) (hW : Within mm pp s00 s) :
    Within mm pp s00 (State.seedRext s p r) := by
  unfold State.seedRext
  try dsimp only
  repeat' with_reducible
    first | assumption | apply flag_within | apply wr_within | apply model_all
          | apply showREst_all | split | (intro _ _ _) | (intro _ _) | exact sub hM (by decide) | dsimp only

theorem State.seedAtAttach_within (s : State) (p : Port) (hM : mm ||| 0x80002000000000000000000 = mm) (hW : Within mm p s00 s) :
    Within mm p s00 (State.seedAtAttach s p) := by
  unfold State.seedAtAttach
  try dsimp only
  repeat' with_reducible
    first | assumption | apply model_within | apply seedRext_within | apply ite_within | split
          | (intro _ _ _) | (intro _ _) | exact sub hM (by decide) | dsimp only

theorem State.seedAtAttach_all {pp : Nat} (s : State) (p : Port) (hM : mm ||| 0x102000000000000000000000 = mm) (hW : Within mm pp s00 s) :
    Within mm pp s00 (State.seedAtAttach s p) := by
  unfold State.seedAtAttach
  try dsimp only
  repeat' with_reducible
    first | assumption | apply model_all | apply seedRext_all | apply ite_within | split | (intro _ _ _)
          | (intro _ _) | exact sub hM (by decide) | dsimp only

theorem State.keepRext_within (s : State) (p : Port) (hM : mm ||| 0x80000000000000000000000 = mm) (hW : Within mm p s00 s) :
    Within mm p s00 (State.keepRext s p) := by
  unfold State.keepRext
  try dsimp only
  repeat' with_reducible
    first | assumption | apply modPort_own | apply model_within | apply ite_within | split | (intro _ _ _)
          | (intro _ _) | exact sub hM (by decide) | decide | dsimp only

theorem State.keepRext_all {pp : Nat} (s : State) (p : Port) (hM : mm ||| 0x100000000000000000000000 = mm) (hW : Within mm pp s00 s) :
    Within mm pp s00 (State.keepRext s p) := by
  unfold State.keepRext
  try dsimp only
  repeat' with_reducible
    first | assumption | apply modPort_within | apply model_all | apply ite_within | split | (intro _ _ _)
          | (intro _ _) | exact sub hM (by decide) | dsimp only

theorem State.endAttachment_within (s : State) (p : Port) (hM : mm ||| 0xC0012000004800124C0000000038140000 = mm) (hW : Within mm p s00 s) :
    Within mm p s00 (State.endAttachment s p) := by
  unfold State.endAttachment
  try dsimp only
  repeat' with_reducible
    first | assumption | apply flag_own | apply irq_own | apply level_own | apply modPort_own
          | apply wr_own | apply cc_within | apply clearAllIds_within
          | apply clearContract_within | apply keepRext_within | apply model_within
          | apply pe_within | apply phy_within | apply sendCache_within | apply swapEnd_within
          | apply swp_within | apply vconnOff_within | apply ite_within | split | (intro _ _ _)
          | (intro _ _) | exact sub hM (by decide) | decide | dsimp only

theorem State.endAttachment_all {pp : Nat} (s : State) (p : Port) (hM : mm ||| 0xC0012000005124C0000000000038140000 = mm) (hW : Within mm pp s00 s) :
    Within mm pp s00 (State.endAttachment s p) := by
  unfold State.endAttachment
  try dsimp only
  repeat' with_reducible
    first | assumption | apply flag_within | apply irq_within | apply level_within
          | apply modPort_within | apply wr_within | apply cc_all | apply clearAllIds_all
          | apply clearContract_all | apply keepRext_all | apply model_all | apply pe_all
          | apply phy_all | apply sendCache_all | apply swapEnd_all | apply swp_all
          | apply vconnOff_all | apply ite_within | split | (intro _ _ _) | (intro _ _)
          | exact sub hM (by decide) | dsimp only

theorem State.errorRecovery_within (s : State) (p : Port) (hM : mm ||| 0xC00120000048001B4C0000000038140000 = mm) (hW : Within mm p s00 s) :
    Within mm p s00 (State.errorRecovery s p) := by
  unfold State.errorRecovery
  try dsimp only
  repeat' with_reducible
    first | assumption | apply wr_own | apply endAttachment_within | apply openPlanned_within
          | apply present_within | apply setMode_within | apply ite_within | split
          | exact sub hM (by decide) | decide | dsimp only

theorem State.errorRecovery_all {pp : Nat} (s : State) (p : Port) (hM : mm ||| 0xC00120000051B4C0000000000038140000 = mm) (hW : Within mm pp s00 s) :
    Within mm pp s00 (State.errorRecovery s p) := by
  unfold State.errorRecovery
  try dsimp only
  repeat' with_reducible
    first | assumption | apply wr_within | apply endAttachment_all | apply openPlanned_all
          | apply present_all | apply setMode_all | apply ite_within | split | exact sub hM (by decide)
          | dsimp only

theorem State.countTrip_within (s : State) (p : Port) (c : TripCause) (hM : mm ||| 0x20000000000000000000 = mm) (hW : Within mm p s00 s) :
    Within mm p s00 (State.countTrip s p c) := by
  unfold State.countTrip
  try dsimp only
  repeat' with_reducible
    first | assumption | apply bump_own | split | exact sub hM (by decide) | decide | dsimp only

theorem State.countTrip_all {pp : Nat} (s : State) (p : Port) (c : TripCause) (hM : mm ||| 0x20000000000000000000000 = mm) (hW : Within mm pp s00 s) :
    Within mm pp s00 (State.countTrip s p c) := by
  unfold State.countTrip
  try dsimp only
  repeat' with_reducible
    first | assumption | apply bump_within | split | exact sub hM (by decide) | dsimp only

theorem State.tripEntered_within (s : State) (p : Port) (old new : Nat) (c : TripCause) (hM : mm ||| 0x80200000480018000000000000140000 = mm) (hW : Within mm p s00 s) :
    Within mm p s00 (State.tripEntered s p old new c) := by
  unfold State.tripEntered
  try dsimp only
  repeat' with_reducible
    first | assumption | apply event_own | apply flag_own | apply irq_own
          | apply sendMarks_within | apply ite_within | split | apply within_mk | exact Or.inr rfl
          | exact Or.inl (bitOf hM (by decide)) | exact sub hM (by decide) | decide | dsimp only

theorem State.tripEntered_all {pp : Nat} (s : State) (p : Port) (old new : Nat) (c : TripCause) (hM : mm ||| 0x80200000518000000000000000140000 = mm) (hW : Within mm pp s00 s) :
    Within mm pp s00 (State.tripEntered s p old new c) := by
  unfold State.tripEntered
  try dsimp only
  repeat' with_reducible
    first | assumption | apply flag_within | apply irq_within | apply sendMarks_within
          | apply event_all | apply ite_within | split | apply within_mk | exact Or.inr rfl
          | exact Or.inl (bitOf hM (by decide)) | exact sub hM (by decide) | dsimp only

theorem State.trip_within (s : State) (p : Port) (c : TripCause) (srcs : List TripCause) (ibusMa : Int) (vbusMv : Nat) (hM : mm ||| 0xC08120000048003F4D0000000038140000 = mm) (hW : Within mm p s00 s) :
    Within mm p s00 (State.trip s p c srcs ibusMa vbusMv) := by
  unfold State.trip
  try dsimp only
  repeat' with_reducible
    first | assumption | apply eventSev_own | apply irq_own | apply wr_own
          | apply countTrip_within | apply dsgOn_within | apply errorRecovery_within
          | apply gateOff_within | apply grd_within | apply guardTo_within | apply halt_within
          | apply present_within | apply swapTripped_within | apply tripEntered_within
          | apply foldl_within | apply ite_within | split | (intro _ _ _) | (intro _ _) | exact sub hM (by decide)
          | decide | dsimp only

theorem State.trip_all {pp : Nat} (s : State) (p : Port) (c : TripCause) (srcs : List TripCause) (ibusMa : Int) (vbusMv : Nat) (hM : mm ||| 0xC08120000053F4C0010000000038140000 = mm) (hW : Within mm pp s00 s) :
    Within mm pp s00 (State.trip s p c srcs ibusMa vbusMv) := by
  unfold State.trip
  try dsimp only
  repeat' with_reducible
    first | assumption | apply irq_within | apply wr_within | apply eventSev_all
          | apply countTrip_all | apply dsgOn_all | apply errorRecovery_all
          | apply gateOff_all | apply grd_all | apply guardTo_all | apply halt_all
          | apply present_all | apply swapTripped_all | apply tripEntered_all | apply foldl_within
          | apply ite_within | split | (intro _ _ _) | (intro _ _) | exact sub hM (by decide) | dsimp only

theorem State.toDischarge_within (s : State) (p : Port) (hM : mm ||| 0x80010000000000000000000 = mm) (hW : Within mm p s00 s) :
    Within mm p s00 (State.toDischarge s p) := by
  unfold State.toDischarge
  try dsimp only
  repeat' with_reducible
    first | assumption | apply dsgAgain_within | apply guardTo_within | exact sub hM (by decide)
          | dsimp only

theorem State.toDischarge_all {pp : Nat} (s : State) (p : Port) (hM : mm ||| 0x110000000000000000000000 = mm) (hW : Within mm pp s00 s) :
    Within mm pp s00 (State.toDischarge s p) := by
  unfold State.toDischarge
  try dsimp only
  repeat' with_reducible
    first | assumption | apply dsgAgain_all | apply guardTo_all | exact sub hM (by decide) | dsimp only

theorem State.safeState_within (s : State) (p : Port) (haltCause : Nat) (hM : mm ||| 0xC00120000048001F4D0000000038140000 = mm) (hW : Within mm p s00 s) :
    Within mm p s00 (State.safeState s p haltCause) := by
  unfold State.safeState
  try dsimp only
  repeat' with_reducible
    first | assumption | apply dsgAgain_within | apply dsgOn_within | apply errorRecovery_within
          | apply gateOff_within | apply guardTo_within | apply halt_within
          | apply present_within | apply ite_within | split | exact sub hM (by decide) | dsimp only

theorem State.safeState_all {pp : Nat} (s : State) (p : Port) (haltCause : Nat) (hM : mm ||| 0xC00120000051F4C0010000000038140000 = mm) (hW : Within mm pp s00 s) :
    Within mm pp s00 (State.safeState s p haltCause) := by
  unfold State.safeState
  try dsimp only
  repeat' with_reducible
    first | assumption | apply dsgAgain_all | apply dsgOn_all | apply errorRecovery_all
          | apply gateOff_all | apply guardTo_all | apply halt_all | apply present_all
          | apply ite_within | split | exact sub hM (by decide) | dsimp only

theorem State.safeRelease_within (s : State) (p : Port) (hM : mm ||| 0x80010000000000000000000 = mm) (hW : Within mm p s00 s) :
    Within mm p s00 (State.safeRelease s p) := by
  unfold State.safeRelease
  try dsimp only
  repeat' with_reducible
    first | assumption | apply toDischarge_within | apply ite_within | split | exact sub hM (by decide)
          | dsimp only

theorem State.safeRelease_all {pp : Nat} (s : State) (p : Port) (hM : mm ||| 0x110000000000000000000000 = mm) (hW : Within mm pp s00 s) :
    Within mm pp s00 (State.safeRelease s p) := by
  unfold State.safeRelease
  try dsimp only
  repeat' with_reducible
    first | assumption | apply toDischarge_all | apply ite_within | split | exact sub hM (by decide)
          | dsimp only

theorem State.enterUnattachedAs_within (s : State) (p : Port) (snk : Bool) (hM : mm ||| 0x80000080000000000000000 = mm) (hW : Within mm p s00 s) :
    Within mm p s00 (State.enterUnattachedAs s p snk) := by
  unfold State.enterUnattachedAs
  try dsimp only
  repeat' with_reducible
    first | assumption | apply wr_own | apply cc_within | apply present_within | apply ite_within
          | split | (intro _ _ _) | (intro _ _) | exact sub hM (by decide) | decide | dsimp only

theorem State.enterUnattachedAs_all {pp : Nat} (s : State) (p : Port) (snk : Bool) (hM : mm ||| 0x100080000000000000000000 = mm) (hW : Within mm pp s00 s) :
    Within mm pp s00 (State.enterUnattachedAs s p snk) := by
  unfold State.enterUnattachedAs
  try dsimp only
  repeat' with_reducible
    first | assumption | apply wr_within | apply cc_all | apply present_all | apply ite_within
          | split | (intro _ _ _) | (intro _ _) | exact sub hM (by decide) | dsimp only

theorem State.retirePort_within (s : State) (p : Port) (hM : mm ||| 0x80010080000000000000000 = mm) (hW : Within mm p s00 s) :
    Within mm p s00 (State.retirePort s p) := by
  unfold State.retirePort
  try dsimp only
  repeat' with_reducible
    first | assumption | apply flag_own | apply wr_own | apply dsgOn_within
          | apply guardTo_within | apply present_within | apply ite_within | split
          | exact sub hM (by decide) | decide | dsimp only

theorem State.retirePort_all {pp : Nat} (s : State) (p : Port) (hM : mm ||| 0x110080000000000000000000 = mm) (hW : Within mm pp s00 s) :
    Within mm pp s00 (State.retirePort s p) := by
  unfold State.retirePort
  try dsimp only
  repeat' with_reducible
    first | assumption | apply flag_within | apply wr_within | apply dsgOn_all
          | apply guardTo_all | apply present_all | apply ite_within | split | exact sub hM (by decide)
          | dsimp only

theorem State.enterUnattached_within (s : State) (p : Port) (hM : mm ||| 0x80000080000000000000000 = mm) (hW : Within mm p s00 s) :
    Within mm p s00 (State.enterUnattached s p) := by
  unfold State.enterUnattached
  try dsimp only
  repeat' with_reducible
    first | assumption | apply enterUnattachedAs_within | exact sub hM (by decide) | dsimp only

theorem State.enterUnattached_all {pp : Nat} (s : State) (p : Port) (hM : mm ||| 0x100080000000000000000000 = mm) (hW : Within mm pp s00 s) :
    Within mm pp s00 (State.enterUnattached s p) := by
  unfold State.enterUnattached
  try dsimp only
  repeat' with_reducible
    first | assumption | apply enterUnattachedAs_all | exact sub hM (by decide) | dsimp only

theorem State.roleWritten_within (s : State) (p : Port) (hM : mm ||| 0x80000080000000000000000 = mm) (hW : Within mm p s00 s) :
    Within mm p s00 (State.roleWritten s p) := by
  unfold State.roleWritten
  try dsimp only
  repeat' with_reducible
    first | assumption | apply cc_within | apply enterUnattachedAs_within | apply ite_within | split
          | (intro _ _ _) | (intro _ _) | exact sub hM (by decide) | dsimp only

theorem State.roleWritten_all {pp : Nat} (s : State) (p : Port) (hM : mm ||| 0x100080000000000000000000 = mm) (hW : Within mm pp s00 s) :
    Within mm pp s00 (State.roleWritten s p) := by
  unfold State.roleWritten
  try dsimp only
  repeat' with_reducible
    first | assumption | apply cc_all | apply enterUnattachedAs_all | apply ite_within | split
          | (intro _ _ _) | (intro _ _) | exact sub hM (by decide) | dsimp only

theorem State.clearCause_within (s : State) (p : Port) (hM : mm ||| 0x10000000000000000000 = mm) (hW : Within mm p s00 s) :
    Within mm p s00 (State.clearCause s p) := by
  unfold State.clearCause
  try dsimp only
  repeat' with_reducible
    first | assumption | apply wr_own | exact sub hM (by decide) | decide | dsimp only

theorem State.clearCause_all {pp : Nat} (s : State) (p : Port) (hM : mm ||| 0x10000000000000000000000 = mm) (hW : Within mm pp s00 s) :
    Within mm pp s00 (State.clearCause s p) := by
  unfold State.clearCause
  try dsimp only
  repeat' with_reducible
    first | assumption | apply wr_within | exact sub hM (by decide) | dsimp only

theorem State.noteVbus_within (s : State) (p : Port) (mv : Nat) (hM : mm ||| 0x10000000000000000000 = mm) (hW : Within mm p s00 s) :
    Within mm p s00 (State.noteVbus s p mv) := by
  unfold State.noteVbus
  try dsimp only
  repeat' with_reducible
    first | assumption | apply flag_own | apply ite_within | split | exact sub hM (by decide) | decide
          | dsimp only

theorem State.noteVbus_all {pp : Nat} (s : State) (p : Port) (mv : Nat) (hM : mm ||| 0x10000000000000000000000 = mm) (hW : Within mm pp s00 s) :
    Within mm pp s00 (State.noteVbus s p mv) := by
  unfold State.noteVbus
  try dsimp only
  repeat' with_reducible
    first | assumption | apply flag_within | apply ite_within | split | exact sub hM (by decide) | dsimp only

theorem State.serve_within {pp : Nat} (s : State) (k : Packet) (f : State → State) (h_f : ∀ t, Within mm pp s00 t → Within mm pp s00 (f t)) (hM : mm ||| 0xC001000000400000000000000038140000 = mm) (hW : Within mm pp s00 s) :
    Within mm pp s00 (State.serve s k f) := by
  unfold State.serve
  try dsimp only
  repeat' with_reducible
    first | assumption | apply h_f | apply answer_within | apply ite_within | split | exact sub hM (by decide)
          | dsimp only

theorem State.serveInfo_within {pp : Nat} (s : State) (f : State → State) (h_f : ∀ t, Within mm pp s00 t → Within mm pp s00 (f t)) (hM : mm ||| 0x0 = mm) (hW : Within mm pp s00 s) :
    Within mm pp s00 (State.serveInfo s f) := by
  unfold State.serveInfo
  try dsimp only
  repeat' with_reducible
    first | assumption | apply h_f | apply ite_within | split | exact sub hM (by decide) | dsimp only

theorem State.offStandby_within {pp : Nat} (s : State) (k : Packet) (f : State → State) (h_f : ∀ t, Within mm pp s00 t → Within mm pp s00 (f t)) (hM : mm ||| 0xC001000000400000000000000038140000 = mm) (hW : Within mm pp s00 s) :
    Within mm pp s00 (State.offStandby s k f) := by
  unfold State.offStandby
  try dsimp only
  repeat' with_reducible
    first | assumption | apply h_f | apply answer_within | apply ite_within | split | exact sub hM (by decide)
          | dsimp only

theorem State.formed_within {pp : Nat} (s : State) (k : Packet) (ok : Bool) (f : State → State) (h_f : ∀ t, Within mm pp s00 t → Within mm pp s00 (f t)) (hM : mm ||| 0xC001000000400000000000000038140000 = mm) (hW : Within mm pp s00 s) :
    Within mm pp s00 (State.formed s k ok f) := by
  unfold State.formed
  try dsimp only
  repeat' with_reducible
    first | assumption | apply h_f | apply answer_within | apply ite_within | split | exact sub hM (by decide)
          | dsimp only

/-! ## Machine/Guard.lean -/

theorem State.guardWriter_within (s : State) (p : Port) (byTwill : Bool) (f : State) (h_f : Within mm p s00 f) (hM : mm ||| 0x8000000000000000000 = mm) (hW : Within mm p s00 s) :
    Within mm p s00 (State.guardWriter s p byTwill f) := by
  unfold State.guardWriter
  try dsimp only
  repeat' with_reducible
    first | assumption | apply errF_own | apply ite_within | split | exact sub hM (by decide) | decide
          | dsimp only

theorem State.guardWriter_all {pp : Nat} (s : State) (p : Port) (byTwill : Bool) (f : State) (h_f : Within mm pp s00 f) (hM : mm ||| 0x8000000000000000000000 = mm) (hW : Within mm pp s00 s) :
    Within mm pp s00 (State.guardWriter s p byTwill f) := by
  unfold State.guardWriter
  try dsimp only
  repeat' with_reducible
    first | assumption | apply errF_within | apply ite_within | split | exact sub hM (by decide) | dsimp only

theorem State.closeFailed_within (s : State) (p : Port) (hM : mm ||| 0xC00120000048001B4C0000000038140000 = mm) (hW : Within mm p s00 s) :
    Within mm p s00 (State.closeFailed s p) := by
  unfold State.closeFailed
  try dsimp only
  repeat' with_reducible
    first | assumption | apply errorRecovery_within | apply ite_within | split | exact sub hM (by decide)
          | dsimp only

theorem State.closeFailed_all {pp : Nat} (s : State) (p : Port) (hM : mm ||| 0xC00120000051B4C0000000000038140000 = mm) (hW : Within mm pp s00 s) :
    Within mm pp s00 (State.closeFailed s p) := by
  unfold State.closeFailed
  try dsimp only
  repeat' with_reducible
    first | assumption | apply errorRecovery_all | apply ite_within | split | exact sub hM (by decide)
          | dsimp only

theorem State.marksOpen_within (s : State) (p : Port) (hM : mm ||| 0x10000000000000000000 = mm) (hW : Within mm p s00 s) :
    Within mm p s00 (State.marksOpen s p) := by
  unfold State.marksOpen
  try dsimp only
  repeat' with_reducible
    first | assumption | apply wr_own | exact sub hM (by decide) | decide | dsimp only

theorem State.marksOpen_all {pp : Nat} (s : State) (p : Port) (hM : mm ||| 0x10000000000000000000000 = mm) (hW : Within mm pp s00 s) :
    Within mm pp s00 (State.marksOpen s p) := by
  unfold State.marksOpen
  try dsimp only
  repeat' with_reducible
    first | assumption | apply wr_within | exact sub hM (by decide) | dsimp only

theorem State.softStart_within (s : State) (p : Port) (hM : mm ||| 0x80010000000000000000000 = mm) (hW : Within mm p s00 s) :
    Within mm p s00 (State.softStart s p) := by
  unfold State.softStart
  try dsimp only
  repeat' with_reducible
    first | assumption | apply dsgOff_within | apply grd_within | apply guardTo_within
          | apply marksOpen_within | split | (intro _ _ _) | (intro _ _) | exact sub hM (by decide) | dsimp only

theorem State.softStart_all {pp : Nat} (s : State) (p : Port) (hM : mm ||| 0x110000000000000000000000 = mm) (hW : Within mm pp s00 s) :
    Within mm pp s00 (State.softStart s p) := by
  unfold State.softStart
  try dsimp only
  repeat' with_reducible
    first | assumption | apply dsgOff_all | apply grd_all | apply guardTo_all
          | apply marksOpen_all | split | (intro _ _ _) | (intro _ _) | exact sub hM (by decide) | dsimp only

theorem State.driveMatched_within (s : State) (p : Port) (hM : mm ||| 0x80010000000000000000000 = mm) (hW : Within mm p s00 s) :
    Within mm p s00 (State.driveMatched s p) := by
  unfold State.driveMatched
  try dsimp only
  repeat' with_reducible
    first | assumption | apply flag_own | apply grd_within | apply guardTo_within | split
          | (intro _ _ _) | (intro _ _) | exact sub hM (by decide) | decide | dsimp only

theorem State.driveMatched_all {pp : Nat} (s : State) (p : Port) (hM : mm ||| 0x110000000000000000000000 = mm) (hW : Within mm pp s00 s) :
    Within mm pp s00 (State.driveMatched s p) := by
  unfold State.driveMatched
  try dsimp only
  repeat' with_reducible
    first | assumption | apply flag_within | apply grd_all | apply guardTo_all | split
          | (intro _ _ _) | (intro _ _) | exact sub hM (by decide) | dsimp only

theorem State.closeMatched_within (s : State) (p : Port) (hM : mm ||| 0x80010000000000000000000 = mm) (hW : Within mm p s00 s) :
    Within mm p s00 (State.closeMatched s p) := by
  unfold State.closeMatched
  try dsimp only
  repeat' with_reducible
    first | assumption | apply driveMatched_within | apply dsgOff_within | apply grd_within
          | apply guardTo_within | apply marksOpen_within | apply ite_within | split | (intro _ _ _)
          | (intro _ _) | exact sub hM (by decide) | dsimp only

theorem State.closeMatched_all {pp : Nat} (s : State) (p : Port) (hM : mm ||| 0x110000000000000000000000 = mm) (hW : Within mm pp s00 s) :
    Within mm pp s00 (State.closeMatched s p) := by
  unfold State.closeMatched
  try dsimp only
  repeat' with_reducible
    first | assumption | apply driveMatched_all | apply dsgOff_all | apply grd_all
          | apply guardTo_all | apply marksOpen_all | apply ite_within | split | (intro _ _ _)
          | (intro _ _) | exact sub hM (by decide) | dsimp only

theorem State.cmdSoftStart_within (s : State) (p : Port) (hM : mm ||| 0xC00120000048003B4C0000000038140000 = mm) (hW : Within mm p s00 s) :
    Within mm p s00 (State.cmdSoftStart s p) := by
  unfold State.cmdSoftStart
  try dsimp only
  repeat' with_reducible
    first | assumption | apply closeFailed_within | apply fresh_within1
          | (refine State.fresh_within ?_ ?_ ‹_›) | apply refuseCmd_within | apply softStart_within
          | apply ite_within | split | exact sub hM (by decide) | dsimp only

theorem State.cmdSoftStart_all {pp : Nat} (s : State) (p : Port) (hM : mm ||| 0xC00120000053B4C0000000000038140000 = mm) (hW : Within mm pp s00 s) :
    Within mm pp s00 (State.cmdSoftStart s p) := by
  unfold State.cmdSoftStart
  try dsimp only
  repeat' with_reducible
    first | assumption | apply fresh_within1 | (refine State.fresh_within ?_ ?_ ‹_›)
          | apply closeFailed_all | apply refuseCmd_all | apply softStart_all | apply ite_within
          | split | exact sub hM (by decide) | dsimp only

theorem execSoftStart_within (p : Port) (byTwill : Bool) (s : State) :
    ∀ u, execSoftStart p byTwill s = .next u → Within 0xC00120000048003B4C0000000038140000 p s u := by
  intro u hu
  cases hu
  have hM : 0xC00120000048003B4C0000000038140000 ||| 0xC00120000048003B4C0000000038140000 = 0xC00120000048003B4C0000000038140000 := rfl
  have hW := Within.refl 0xC00120000048003B4C0000000038140000 p s
  try dsimp only
  repeat' with_reducible
    first | assumption | apply cmdSoftStart_within | apply guardWriter_within | exact sub hM (by decide)
          | dsimp only

theorem State.cmdCloseMatched_within (s : State) (p : Port) (vconvMv vbusMv : Nat) (hM : mm ||| 0x4000000000480038000000000000140000 = mm) (hW : Within mm p s00 s) :
    Within mm p s00 (State.cmdCloseMatched s p vconvMv vbusMv) := by
  unfold State.cmdCloseMatched
  try dsimp only
  repeat' with_reducible
    first | assumption | apply closeMatched_within | apply fresh_within1
          | (refine State.fresh_within ?_ ?_ ‹_›) | apply refuseCmd_within | apply ite_within | split
          | exact sub hM (by decide) | dsimp only

theorem State.cmdCloseMatched_all {pp : Nat} (s : State) (p : Port) (vconvMv vbusMv : Nat) (hM : mm ||| 0x4000000000538000000000000000140000 = mm) (hW : Within mm pp s00 s) :
    Within mm pp s00 (State.cmdCloseMatched s p vconvMv vbusMv) := by
  unfold State.cmdCloseMatched
  try dsimp only
  repeat' with_reducible
    first | assumption | apply fresh_within1 | (refine State.fresh_within ?_ ?_ ‹_›)
          | apply closeMatched_all | apply refuseCmd_all | apply ite_within | split
          | exact sub hM (by decide) | dsimp only

theorem execCloseMatched_within (p : Port) (byTwill : Bool) (vconvMv vbusMv : Nat) (s : State) :
    ∀ u, execCloseMatched p byTwill vconvMv vbusMv s = .next u → Within 0x4000000000480038000000000000140000 p s u := by
  intro u hu
  cases hu
  have hM : 0x4000000000480038000000000000140000 ||| 0x4000000000480038000000000000140000 = 0x4000000000480038000000000000140000 := rfl
  have hW := Within.refl 0x4000000000480038000000000000140000 p s
  try dsimp only
  repeat' with_reducible
    first | assumption | apply cmdCloseMatched_within | apply guardWriter_within
          | exact sub hM (by decide) | dsimp only

theorem State.openEnds_within (s : State) (p : Port) (hM : mm ||| 0xC00120000048001B4C0000000038140000 = mm) (hW : Within mm p s00 s) :
    Within mm p s00 (State.openEnds s p) := by
  unfold State.openEnds
  try dsimp only
  repeat' with_reducible
    first | assumption | apply closeFailed_within | apply openPlanned_within | apply ite_within | split
          | exact sub hM (by decide) | dsimp only

theorem State.openEnds_all {pp : Nat} (s : State) (p : Port) (hM : mm ||| 0xC00120000051B4C0000000000038140000 = mm) (hW : Within mm pp s00 s) :
    Within mm pp s00 (State.openEnds s p) := by
  unfold State.openEnds
  try dsimp only
  repeat' with_reducible
    first | assumption | apply closeFailed_all | apply openPlanned_all | apply ite_within | split
          | exact sub hM (by decide) | dsimp only

theorem State.cmdOpen_within (s : State) (p : Port) (hM : mm ||| 0xC00120000048003B4C0000000038140000 = mm) (hW : Within mm p s00 s) :
    Within mm p s00 (State.cmdOpen s p) := by
  unfold State.cmdOpen
  try dsimp only
  repeat' with_reducible
    first | assumption | apply openEnds_within | apply refuseCmd_within | apply ite_within | split
          | exact sub hM (by decide) | dsimp only

theorem State.cmdOpen_all {pp : Nat} (s : State) (p : Port) (hM : mm ||| 0xC00120000053B4C0000000000038140000 = mm) (hW : Within mm pp s00 s) :
    Within mm pp s00 (State.cmdOpen s p) := by
  unfold State.cmdOpen
  try dsimp only
  repeat' with_reducible
    first | assumption | apply openEnds_all | apply refuseCmd_all | apply ite_within | split
          | exact sub hM (by decide) | dsimp only

theorem execOpenCmd_within (p : Port) (byTwill : Bool) (s : State) :
    ∀ u, execOpenCmd p byTwill s = .next u → Within 0xC00120000048003B4C0000000038140000 p s u := by
  intro u hu
  cases hu
  have hM : 0xC00120000048003B4C0000000038140000 ||| 0xC00120000048003B4C0000000038140000 = 0xC00120000048003B4C0000000038140000 := rfl
  have hW := Within.refl 0xC00120000048003B4C0000000038140000 p s
  try dsimp only
  repeat' with_reducible
    first | assumption | apply cmdOpen_within | apply guardWriter_within | exact sub hM (by decide)
          | dsimp only

theorem State.cmdOpenWait_within (s : State) (p : Port) (cmd : Nat) (w : OpenWait) (hM : mm ||| 0x480038000000000000140000 = mm) (hW : Within mm p s00 s) :
    Within mm p s00 (State.cmdOpenWait s p cmd w) := by
  unfold State.cmdOpenWait
  try dsimp only
  repeat' with_reducible
    first | assumption | apply grd_within | apply guardTo_within | apply refuseCmd_within
          | apply ite_within | split | (intro _ _ _) | (intro _ _) | exact sub hM (by decide) | dsimp only

theorem State.cmdOpenWait_all {pp : Nat} (s : State) (p : Port) (cmd : Nat) (w : OpenWait) (hM : mm ||| 0x538000000000000000140000 = mm) (hW : Within mm pp s00 s) :
    Within mm pp s00 (State.cmdOpenWait s p cmd w) := by
  unfold State.cmdOpenWait
  try dsimp only
  repeat' with_reducible
    first | assumption | apply grd_all | apply guardTo_all | apply refuseCmd_all | apply ite_within
          | split | (intro _ _ _) | (intro _ _) | exact sub hM (by decide) | dsimp only

theorem State.openLow_within (s : State) (p : Port) (hM : mm ||| 0x480038000000000000140000 = mm) (hW : Within mm p s00 s) :
    Within mm p s00 (State.openLow s p) := by
  unfold State.openLow
  try dsimp only
  repeat' with_reducible
    first | assumption | apply cmdOpenWait_within | apply ite_within | split | exact sub hM (by decide)
          | dsimp only

theorem State.openLow_all {pp : Nat} (s : State) (p : Port) (hM : mm ||| 0x538000000000000000140000 = mm) (hW : Within mm pp s00 s) :
    Within mm pp s00 (State.openLow s p) := by
  unfold State.openLow
  try dsimp only
  repeat' with_reducible
    first | assumption | apply cmdOpenWait_all | apply ite_within | split | exact sub hM (by decide)
          | dsimp only

theorem execOpenLow_within (p : Port) (byTwill : Bool) (s : State) :
    ∀ u, execOpenLow p byTwill s = .next u → Within 0x480038000000000000140000 p s u := by
  intro u hu
  cases hu
  have hM : 0x480038000000000000140000 ||| 0x480038000000000000140000 = 0x480038000000000000140000 := rfl
  have hW := Within.refl 0x480038000000000000140000 p s
  try dsimp only
  repeat' with_reducible
    first | assumption | apply cmdOpenWait_within | apply guardWriter_within | exact sub hM (by decide)
          | dsimp only

theorem execOpenIdle_within (p : Port) (byTwill : Bool) (s : State) :
    ∀ u, execOpenIdle p byTwill s = .next u → Within 0x480038000000000000140000 p s u := by
  intro u hu
  cases hu
  have hM : 0x480038000000000000140000 ||| 0x480038000000000000140000 = 0x480038000000000000140000 := rfl
  have hW := Within.refl 0x480038000000000000140000 p s
  try dsimp only
  repeat' with_reducible
    first | assumption | apply cmdOpenWait_within | apply guardWriter_within | exact sub hM (by decide)
          | dsimp only

theorem execOpenIdleMet_within (p : Port) (s : State) :
    ∀ u, execOpenIdleMet p s = .next u → Within 0x8001B000000000000000000 p s u := by
  intro u hu
  cases hu
  have hM : 0x8001B000000000000000000 ||| 0x8001B000000000000000000 = 0x8001B000000000000000000 := rfl
  have hW := Within.refl 0x8001B000000000000000000 p s
  try dsimp only
  repeat' with_reducible
    first | assumption | apply openPlanned_within | apply sourceMode_within | apply ite_within | split
          | exact sub hM (by decide) | dsimp only

theorem execForwardCheck_within (p : Port) (vbusMv : Nat) (ibusMa : Int) (s : State) :
    ∀ u, execForwardCheck p vbusMv ibusMa s = .next u → Within 0xC08120000048003F4D0000000038140000 p s u := by
  intro u hu
  cases hu
  have hM : 0xC08120000048003F4D0000000038140000 ||| 0xC08120000048003F4D0000000038140000 = 0xC08120000048003F4D0000000038140000 := rfl
  have hW := Within.refl 0xC08120000048003F4D0000000038140000 p s
  try dsimp only
  repeat' with_reducible
    first | assumption | apply flag_own | apply wr_own | apply grd_within
          | apply guardTo_within | apply trip_within | apply ite_within | split | (intro _ _ _)
          | (intro _ _) | exact sub hM (by decide) | decide | dsimp only

theorem execVconvNotReady_within (p : Port) (s : State) :
    ∀ u, execVconvNotReady p s = .next u → Within 0xC00120000048003B4C0000000038140000 p s u := by
  intro u hu
  cases hu
  have hM : 0xC00120000048003B4C0000000038140000 ||| 0xC00120000048003B4C0000000038140000 = 0xC00120000048003B4C0000000038140000 := rfl
  have hW := Within.refl 0xC00120000048003B4C0000000038140000 p s
  try dsimp only
  repeat' with_reducible
    first | assumption | apply closeFailed_within | apply grd_within | apply guardTo_within
          | apply refuseCmd_within | apply ite_within | split | (intro _ _ _) | (intro _ _)
          | exact sub hM (by decide) | dsimp only

theorem execFirstGateMark_within (p : Port) (us : Nat) (s : State) :
    ∀ u, execFirstGateMark p us s = .next u → Within 0x80010000000000000000000 p s u := by
  intro u hu
  cases hu
  have hM : 0x80010000000000000000000 ||| 0x80010000000000000000000 = 0x80010000000000000000000 := rfl
  have hW := Within.refl 0x80010000000000000000000 p s
  try dsimp only
  repeat' with_reducible
    first | assumption | apply wrSat_own | apply grd_within | split | (intro _ _ _) | (intro _ _)
          | exact sub hM (by decide) | decide | dsimp only

theorem execVbusAbove475_within (p : Port) (s : State) :
    ∀ u, execVbusAbove475 p s = .next u → Within 0x80010000000000000000000 p s u := by
  intro u hu
  cases hu
  have hM : 0x80010000000000000000000 ||| 0x80010000000000000000000 = 0x80010000000000000000000 := rfl
  have hW := Within.refl 0x80010000000000000000000 p s
  try dsimp only
  repeat' with_reducible
    first | assumption | apply grd_within | apply guardTo_within | apply ite_within | split
          | (intro _ _ _) | (intro _ _) | exact sub hM (by decide) | dsimp only

theorem State.closed_within (s : State) (p : Port) (us : Nat) (hM : mm ||| 0x80038000000000000000000 = mm) (hW : Within mm p s00 s) :
    Within mm p s00 (State.closed s p us) := by
  unfold State.closed
  try dsimp only
  repeat' with_reducible
    first | assumption | apply bump_own | apply flag_own | apply irq_own | apply wrSat_own
          | apply grd_within | apply guardTo_within | split | (intro _ _ _) | (intro _ _)
          | exact sub hM (by decide) | decide | dsimp only

theorem State.closed_all {pp : Nat} (s : State) (p : Port) (us : Nat) (hM : mm ||| 0x138000000000000000000000 = mm) (hW : Within mm pp s00 s) :
    Within mm pp s00 (State.closed s p us) := by
  unfold State.closed
  try dsimp only
  repeat' with_reducible
    first | assumption | apply bump_within | apply flag_within | apply irq_within
          | apply wrSat_within | apply grd_all | apply guardTo_all | split | (intro _ _ _)
          | (intro _ _) | exact sub hM (by decide) | dsimp only

theorem execRampFail_within (p : Port) (ibusMa : Int) (vbusMv : Nat) (s : State) :
    ∀ u, execRampFail p ibusMa vbusMv s = .next u → Within 0xC08120000048003F4D0000000038140000 p s u := by
  intro u hu
  cases hu
  have hM : 0xC08120000048003F4D0000000038140000 ||| 0xC08120000048003F4D0000000038140000 = 0xC08120000048003F4D0000000038140000 := rfl
  have hW := Within.refl 0xC08120000048003F4D0000000038140000 p s
  try dsimp only
  repeat' with_reducible
    first | assumption | apply trip_within | apply ite_within | split | exact sub hM (by decide) | dsimp only

theorem execFetDamaged_within (p : Port) (ibusMa : Int) (vbusMv : Nat) (s : State) :
    ∀ u, execFetDamaged p ibusMa vbusMv s = .next u → Within 0xC08120000048003F4D0000000038140000 p s u := by
  intro u hu
  cases hu
  have hM : 0xC08120000048003F4D0000000038140000 ||| 0xC08120000048003F4D0000000038140000 = 0xC08120000048003F4D0000000038140000 := rfl
  have hW := Within.refl 0xC08120000048003F4D0000000038140000 p s
  try dsimp only
  repeat' with_reducible
    first | assumption | apply trip_within | apply ite_within | split | exact sub hM (by decide) | dsimp only

theorem execIfast_within (p : Port) (uv : Int) (nsFromGate : Nat) (ibusMa : Int) (vbusMv : Nat) (s : State) :
    ∀ u, execIfast p uv nsFromGate ibusMa vbusMv s = .next u → Within 0xC08120000048003F4D0000000038140000 p s u := by
  intro u hu
  cases hu
  have hM : 0xC08120000048003F4D0000000038140000 ||| 0xC08120000048003F4D0000000038140000 = 0xC08120000048003F4D0000000038140000 := rfl
  have hW := Within.refl 0xC08120000048003F4D0000000038140000 p s
  try dsimp only
  repeat' with_reducible
    first | assumption | apply bump_own | apply flag_own | apply trip_within | apply ite_within
          | split | exact sub hM (by decide) | decide | dsimp only

theorem execLimitCounterUpdate_within (p : Port) (s : State) :
    ∀ u, execLimitCounterUpdate p s = .next u → Within 0xC08120000048003F4D0000000038140000 p s u := by
  intro u hu
  cases hu
  have hM : 0xC08120000048003F4D0000000038140000 ||| 0xC08120000048003F4D0000000038140000 = 0xC08120000048003F4D0000000038140000 := rfl
  have hW := Within.refl 0xC08120000048003F4D0000000038140000 p s
  try dsimp only
  repeat' with_reducible
    first | assumption | apply flag_own | apply wrSat_own | apply grd_within
          | apply trip_within | apply ite_within | split | (intro _ _ _) | (intro _ _)
          | exact sub hM (by decide) | decide | dsimp only

theorem State.retryClear_within (s : State) (p : Port) (hM : mm ||| 0x480030080000000000140000 = mm) (hW : Within mm p s00 s) :
    Within mm p s00 (State.retryClear s p) := by
  unfold State.retryClear
  try dsimp only
  repeat' with_reducible
    first | assumption | apply bump_own | apply event_own | apply clearCause_within
          | apply enterUnattached_within | apply grd_within | apply toDischarge_within
          | apply ite_within | split | (intro _ _ _) | (intro _ _) | exact sub hM (by decide) | decide | dsimp only

theorem State.retryClear_all {pp : Nat} (s : State) (p : Port) (hM : mm ||| 0x530080000000000000140000 = mm) (hW : Within mm pp s00 s) :
    Within mm pp s00 (State.retryClear s p) := by
  unfold State.retryClear
  try dsimp only
  repeat' with_reducible
    first | assumption | apply bump_within | apply event_all | apply clearCause_all
          | apply enterUnattached_all | apply grd_all | apply toDischarge_all | apply ite_within
          | split | (intro _ _ _) | (intro _ _) | exact sub hM (by decide) | dsimp only

theorem execCurveUpdate_within (p : Port) (s : State) :
    ∀ u, execCurveUpdate p s = .next u → Within 0xC08120000048003F4D0000000038140000 p s u := by
  intro u hu
  cases hu
  have hM : 0xC08120000048003F4D0000000038140000 ||| 0xC08120000048003F4D0000000038140000 = 0xC08120000048003F4D0000000038140000 := rfl
  have hW := Within.refl 0xC08120000048003F4D0000000038140000 p s
  try dsimp only
  repeat' with_reducible
    first | assumption | apply flag_own | apply wr_own | apply wrSat_own | apply grd_within
          | apply retryClear_within | apply trip_within | apply ite_within | split | (intro _ _ _)
          | (intro _ _) | exact sub hM (by decide) | decide | dsimp only

theorem commit_mono' {α : Type} {P : State → Prop} (l : List α) (f : State → α → State) (hf : ∀ x ∈ l, ∀ t, P t → P (f t x)) :
    ∀ s, P s → P (l.foldl f s) := by
  induction l with
  | nil => exact fun s hs => hs
  | cons x l ih => exact fun s hs => ih (fun y hy => hf y (.tail _ hy)) _ (hf x (.head _) _ hs)
theorem commit_mono {mm : Nat} {s00 : State} {P : State → Prop} (l : List (Nat × Nat × Nat × Nat)) (f : State → Nat × Nat × Nat × Nat → State)
    (hk : ∀ x ∈ l, x.1 < 16) (hf : ∀ t x, x.1 < 16 → P t → P (f t x)) : ∀ s, P s → P (l.foldl f s) := by
  induction l with
  | nil => exact fun s hs => hs
  | cons x l ih => exact fun s hs => ih (fun y hy => hk y (.tail _ hy)) _ (hf _ _ (hk x (.head _)) hs)
theorem State.commitCurve_within (s : State) (p : Port) (fi fe fm : Field) (hi : mm ||| fieldMask true fi = mm) (ai : fieldArr fi = true)
    (he : mm ||| fieldMask true fe = mm) (ae : fieldArr fe = true) (hm : mm ||| fieldMask true fm = mm) (am : fieldArr fm = true)
    (hM : mm ||| 0x18000000000000000000 = mm) (hW : Within mm p s00 s) : Within mm p s00 (s.commitCurve p fi fe fm) := by
  unfold State.commitCurve
  dsimp only
  split
  · refine State.flag_own _ _ _ (sub hM (by decide)) (by decide) ?_
    refine commit_mono (P := Within mm p s00) (mm := mm) (s00 := s00) _ _ (fun x hx => ?_) (fun t x hx ht => ?_) _ hW
    · simp only [List.mem_map, List.mem_range] at hx
      obtain ⟨k, hk, rfl⟩ := hx
      show k < 16; omega
    · exact State.wr_arr _ _ _ _ hm am hx (State.wr_arr _ _ _ _ he ae hx (State.wr_arr _ _ _ _ hi ai hx ht))
  · exact State.errF_own _ _ _ (sub hM (by decide)) (State.irq_own _ _ _ (sub hM (by decide)) (by decide)
      (State.flag_own _ _ _ (sub hM (by decide)) (by decide) hW))

theorem State.commitCurve_all {pp : Nat} (s : State) (p : Port) (fi fe fm : Field) (hi : mm ||| fieldMask false fi = mm)
    (he : mm ||| fieldMask false fe = mm) (hm : mm ||| fieldMask false fm = mm)
    (hM : mm ||| 0x18000000000000000000000 = mm) (hW : Within mm pp s00 s) : Within mm pp s00 (s.commitCurve p fi fe fm) := by
  unfold State.commitCurve
  dsimp only
  split
  · refine State.flag_within _ _ _ _ (sub hM (by decide)) ?_
    exact foldl_within _ _ _ (fun t x ht => State.wr_within _ _ _ _ hm (State.wr_within _ _ _ _ he (State.wr_within _ _ _ _ hi ht))) hW
  · exact State.errF_within _ _ _ _ (sub hM (by decide)) (State.irq_within _ _ _ _ (sub hM (by decide))
      (State.flag_within _ _ _ _ (sub hM (by decide)) hW))

theorem execCommitA_within (p : Port) (s : State) :
    ∀ u, execCommitA p s = .next u → Within 0x18000000000000000000 p s u := by
  intro u hu
  cases hu
  have hM : 0x18000000000000000000 ||| 0x18000000000000000000 = 0x18000000000000000000 := rfl
  have hW := Within.refl 0x18000000000000000000 p s
  try dsimp only
  repeat' with_reducible
    first | assumption | apply commitCurve_within | exact sub hM (by decide) | decide | dsimp only

theorem execCommitB_within (p : Port) (s : State) :
    ∀ u, execCommitB p s = .next u → Within 0x18000000000000000000 p s u := by
  intro u hu
  cases hu
  have hM : 0x18000000000000000000 ||| 0x18000000000000000000 = 0x18000000000000000000 := rfl
  have hW := Within.refl 0x18000000000000000000 p s
  try dsimp only
  repeat' with_reducible
    first | assumption | apply commitCurve_within | exact sub hM (by decide) | decide | dsimp only

theorem execFetShorted_within (p : Port) (c : ShortCheck) (ibusMa : Int) (vbusMv vconvMv : Nat) (s : State) :
    ∀ u, execFetShorted p c ibusMa vbusMv vconvMv s = .next u → Within 0xC08120000048003F4D0000000038140000 p s u := by
  intro u hu
  cases hu
  have hM : 0xC08120000048003F4D0000000038140000 ||| 0xC08120000048003F4D0000000038140000 = 0xC08120000048003F4D0000000038140000 := rfl
  have hW := Within.refl 0xC08120000048003F4D0000000038140000 p s
  try dsimp only
  repeat' with_reducible
    first | assumption | apply flag_own | apply trip_within | apply ite_within | split
          | exact sub hM (by decide) | decide | dsimp only

theorem execRevChkDone_within (p : Port) (vbusMv vconvMv : Nat) (s : State) :
    ∀ u, execRevChkDone p vbusMv vconvMv s = .next u → Within 0x10000000000000000000 p s u := by
  intro u hu
  cases hu
  have hM : 0x10000000000000000000 ||| 0x10000000000000000000 = 0x10000000000000000000 := rfl
  have hW := Within.refl 0x10000000000000000000 p s
  try dsimp only
  repeat' with_reducible
    first | assumption | apply flag_own | apply ite_within | split | exact sub hM (by decide) | decide
          | dsimp only

theorem execTrip_within (p : Port) (c : TripCause) (others : List TripCause) (ibusMa : Int) (vbusMv : Nat) (s : State) :
    ∀ u, execTrip p c others ibusMa vbusMv s = .next u → Within 0xC08120000048003F4D0000000038140000 p s u := by
  intro u hu
  cases hu
  have hM : 0xC08120000048003F4D0000000038140000 ||| 0xC08120000048003F4D0000000038140000 = 0xC08120000048003F4D0000000038140000 := rfl
  have hW := Within.refl 0xC08120000048003F4D0000000038140000 p s
  try dsimp only
  repeat' with_reducible
    first | assumption | apply trip_within | apply foldl_within | apply ite_within | split | (intro _ _ _)
          | (intro _ _) | exact sub hM (by decide) | dsimp only

theorem execRetryTExpiry_within (p : Port) (s : State) :
    ∀ u, execRetryTExpiry p s = .next u → Within 0x480030080000000000140000 p s u := by
  intro u hu
  cases hu
  have hM : 0x480030080000000000140000 ||| 0x480030080000000000140000 = 0x480030080000000000140000 := rfl
  have hW := Within.refl 0x480030080000000000140000 p s
  try dsimp only
  repeat' with_reducible
    first | assumption | apply grd_within | apply retryClear_within | apply ite_within | split
          | (intro _ _ _) | (intro _ _) | exact sub hM (by decide) | dsimp only

theorem execDischargeDone_within (p : Port) (s : State) :
    ∀ u, execDischargeDone p s = .next u → Within 0x80010000000000000000000 p s u := by
  intro u hu
  cases hu
  have hM : 0x80010000000000000000000 ||| 0x80010000000000000000000 = 0x80010000000000000000000 := rfl
  have hW := Within.refl 0x80010000000000000000000 p s
  try dsimp only
  repeat' with_reducible
    first | assumption | apply flag_own | apply dsgOff_within | apply dsgOn_within
          | apply guardTo_within | apply ite_within | split | exact sub hM (by decide) | decide | dsimp only

theorem execDischargeFail_within (p : Port) (vbusMv : Nat) (s : State) :
    ∀ u, execDischargeFail p vbusMv s = .next u → Within 0x480038000000000000140000 p s u := by
  intro u hu
  cases hu
  have hM : 0x480038000000000000140000 ||| 0x480038000000000000140000 = 0x480038000000000000140000 := rfl
  have hW := Within.refl 0x480038000000000000140000 p s
  try dsimp only
  repeat' with_reducible
    first | assumption | apply bump_own | apply event_own | apply flag_own | apply irq_own
          | apply dsgOff_within | apply ite_within | split | exact sub hM (by decide) | decide | dsimp only

theorem crossFlag_mask (k : Crossing) (o : Bool) : fieldMask o (crossFlag k) = if o then 0x10000000000000000000 else 0x10000000000000000000000 := by
  cases k
  all_goals (cases o <;> rfl)

theorem crossFlag_arr (k : Crossing) : fieldArr (crossFlag k) = false := by
  cases k
  all_goals rfl

theorem State.crossing_within (s : State) (p : Port) (c : Crossing) (ibusMa : Int) (vbusMv : Nat) (hM : mm ||| 0xC08120000048003F4D0000000038140000 = mm) (hW : Within mm p s00 s) :
    Within mm p s00 (State.crossing s p c ibusMa vbusMv) := by
  unfold State.crossing
  try dsimp only
  repeat' with_reducible
    first | assumption | apply bump_own | apply flag_own | apply trip_within | apply ite_within
          | split | exact sub hM (by decide) | exact sub hM (by simp only [crossFlag_mask]; decide) | decide
          | (simp only [crossFlag_arr]; done) | dsimp only

theorem State.crossing_all {pp : Nat} (s : State) (p : Port) (c : Crossing) (ibusMa : Int) (vbusMv : Nat) (hM : mm ||| 0xC08120000053F4C0010000000038140000 = mm) (hW : Within mm pp s00 s) :
    Within mm pp s00 (State.crossing s p c ibusMa vbusMv) := by
  unfold State.crossing
  try dsimp only
  repeat' with_reducible
    first | assumption | apply bump_within | apply flag_within | apply trip_all | apply ite_within
          | split | exact sub hM (by decide) | exact sub hM (by simp only [crossFlag_mask]; decide)
          | (simp only [crossFlag_arr]; done) | dsimp only

theorem State.unlatch_within (s : State) (p : Port) (hM : mm ||| 0x10000000000000000000 = mm) (hW : Within mm p s00 s) :
    Within mm p s00 (State.unlatch s p) := by
  unfold State.unlatch
  try dsimp only
  repeat' with_reducible
    first | assumption | apply flag_own | apply foldl_within | apply ite_within | split | (intro _ _ _)
          | (intro _ _) | exact sub hM (by decide) | exact sub hM (by simp only [crossFlag_mask]; decide) | decide
          | (simp only [crossFlag_arr]; done) | dsimp only

theorem State.unlatch_all {pp : Nat} (s : State) (p : Port) (hM : mm ||| 0x10000000000000000000000 = mm) (hW : Within mm pp s00 s) :
    Within mm pp s00 (State.unlatch s p) := by
  unfold State.unlatch
  try dsimp only
  repeat' with_reducible
    first | assumption | apply flag_within | apply foldl_within | apply ite_within | split | (intro _ _ _)
          | (intro _ _) | exact sub hM (by decide) | exact sub hM (by simp only [crossFlag_mask]; decide)
          | (simp only [crossFlag_arr]; done) | dsimp only

theorem State.standIn_within (s : State) (p : Port) (hM : mm ||| 0xC08120000048003F4D0000000038140000 = mm) (hW : Within mm p s00 s) :
    Within mm p s00 (State.standIn s p) := by
  unfold State.standIn
  try dsimp only
  repeat' with_reducible
    first | assumption | apply crossing_within | apply ite_within | split | exact sub hM (by decide)
          | dsimp only

theorem State.standIn_all {pp : Nat} (s : State) (p : Port) (hM : mm ||| 0xC08120000053F4C0010000000038140000 = mm) (hW : Within mm pp s00 s) :
    Within mm pp s00 (State.standIn s p) := by
  unfold State.standIn
  try dsimp only
  repeat' with_reducible
    first | assumption | apply crossing_all | apply ite_within | split | exact sub hM (by decide) | dsimp only

/-! ## Machine/Offer.lean -/

theorem State.adopt_within (s : State) (p : Port) (hM : mm ||| 0x80000000000000000000000 = mm) (hW : Within mm p s00 s) :
    Within mm p s00 (State.adopt s p) := by
  unfold State.adopt
  try dsimp only
  repeat' with_reducible
    first | assumption | apply modPort_own | apply getD_within | split | (intro _ _ _) | (intro _ _)
          | exact sub hM (by decide) | decide | dsimp only

theorem State.adopt_all {pp : Nat} (s : State) (p : Port) (hM : mm ||| 0x100000000000000000000000 = mm) (hW : Within mm pp s00 s) :
    Within mm pp s00 (State.adopt s p) := by
  unfold State.adopt
  try dsimp only
  repeat' with_reducible
    first | assumption | apply modPort_within | apply getD_within | split | (intro _ _ _) | (intro _ _)
          | exact sub hM (by decide) | dsimp only

theorem State.sendCaps_within (s0 : State) (p : Port) (hM : mm ||| 0x200000180000E80000000000000000 = mm) (hW : Within mm p s00 s0) :
    Within mm p s00 (State.sendCaps s0 p) := by
  unfold State.sendCaps
  try dsimp only
  repeat' with_reducible
    first | assumption | apply wr_own | apply adopt_within | apply pe_within
          | apply sendAms_within | apply sendCache_within | apply ite_within | split | (intro _ _ _)
          | (intro _ _) | exact sub hM (by decide) | decide | dsimp only

theorem State.sendCaps_all {pp : Nat} (s0 : State) (p : Port) (hM : mm ||| 0x200000100E80000000000000000000 = mm) (hW : Within mm pp s00 s0) :
    Within mm pp s00 (State.sendCaps s0 p) := by
  unfold State.sendCaps
  try dsimp only
  repeat' with_reducible
    first | assumption | apply wr_within | apply adopt_all | apply pe_all | apply sendAms_all
          | apply sendCache_all | apply ite_within | split | (intro _ _ _) | (intro _ _)
          | exact sub hM (by decide) | dsimp only

theorem State.setCdc_within (s : State) (p : Port) (c : Contract) (hM : mm ||| 0x2000000000000000000 = mm) (hW : Within mm p s00 s) :
    Within mm p s00 (State.setCdc s p c) := by
  unfold State.setCdc
  try dsimp only
  repeat' with_reducible
    first | assumption | apply flag_own | apply wr_own | split | exact sub hM (by decide) | decide
          | dsimp only

theorem State.setCdc_all {pp : Nat} (s : State) (p : Port) (c : Contract) (hM : mm ||| 0x2000000000000000000000 = mm) (hW : Within mm pp s00 s) :
    Within mm pp s00 (State.setCdc s p c) := by
  unfold State.setCdc
  try dsimp only
  repeat' with_reducible
    first | assumption | apply flag_within | apply wr_within | split | exact sub hM (by decide)
          | dsimp only

theorem State.implicitSetpoint_within (s : State) (p : Port) (hM : mm ||| 0x80003000000000000000000 = mm) (hW : Within mm p s00 s) :
    Within mm p s00 (State.implicitSetpoint s p) := by
  unfold State.implicitSetpoint
  try dsimp only
  repeat' with_reducible
    first | assumption | apply flag_own | apply wr_own | apply sourceMode_within
          | exact sub hM (by decide) | decide | dsimp only

theorem State.implicitSetpoint_all {pp : Nat} (s : State) (p : Port) (hM : mm ||| 0x103000000000000000000000 = mm) (hW : Within mm pp s00 s) :
    Within mm pp s00 (State.implicitSetpoint s p) := by
  unfold State.implicitSetpoint
  try dsimp only
  repeat' with_reducible
    first | assumption | apply flag_within | apply wr_within | apply sourceMode_all
          | exact sub hM (by decide) | dsimp only

/-! ## Machine/LedgerOps.lean -/

theorem State.showUsed_within {pp : Nat} (s : State) (hM : mm ||| 0x2000000000 = mm) (hW : Within mm pp s00 s) :
    Within mm pp s00 (State.showUsed s) := by
  unfold State.showUsed
  try dsimp only
  repeat' with_reducible
    first | assumption | apply wr_within | exact sub hM (by decide) | dsimp only

theorem State.journalDue_within {pp : Nat} (s : State) (slot : Nat) (hM : mm ||| 0x100000000000000000000000000000 = mm) (hW : Within mm pp s00 s) :
    Within mm pp s00 (State.journalDue s slot) := by
  unfold State.journalDue
  try dsimp only
  repeat' with_reducible
    first | assumption | apply ite_within | split | apply within_mk | exact Or.inr rfl
          | exact Or.inl (bitOf hM (by decide)) | exact sub hM (by decide) | dsimp only

theorem State.mirrorRecord_within {pp : Nat} (s : State) (slot : Nat) (hM : mm ||| 0x200000000000000000000000000000 = mm) (hW : Within mm pp s00 s) :
    Within mm pp s00 (State.mirrorRecord s slot) := by
  unfold State.mirrorRecord
  try dsimp only
  repeat' with_reducible
    first | assumption | apply selReliable_within | apply ite_within | split | exact sub hM (by decide)
          | dsimp only

theorem State.putRecord_within {pp : Nat} (s : State) (slot : Nat) (r : LedRec) (hM : mm ||| 0x300000000000000000002000000000 = mm) (hW : Within mm pp s00 s) :
    Within mm pp s00 (State.putRecord s slot r) := by
  unfold State.putRecord
  try dsimp only
  repeat' with_reducible
    first | assumption | apply wr_within | apply mirrorRecord_within | apply showUsed_within
          | apply within_mk | exact Or.inr rfl | exact Or.inl (bitOf hM (by decide)) | exact sub hM (by decide)
          | dsimp only

theorem State.dropRecord_within {pp : Nat} (s : State) (slot : Nat) (hM : mm ||| 0x300000000000000000002000000000 = mm) (hW : Within mm pp s00 s) :
    Within mm pp s00 (State.dropRecord s slot) := by
  unfold State.dropRecord
  try dsimp only
  repeat' with_reducible
    first | assumption | apply flag_within | apply wr_within | apply journalDue_within
          | apply mirrorRecord_within | apply showUsed_within | split | (intro _ _ _) | (intro _ _)
          | apply within_mk | exact Or.inr rfl | exact Or.inl (bitOf hM (by decide)) | exact sub hM (by decide)
          | dsimp only

theorem State.modRecord_within {pp : Nat} (s : State) (slot : Nat) (f : LedRec → LedRec) (hM : mm ||| 0x300000000000000000002000000000 = mm) (hW : Within mm pp s00 s) :
    Within mm pp s00 (State.modRecord s slot f) := by
  unfold State.modRecord
  try dsimp only
  repeat' with_reducible
    first | assumption | apply putRecord_within | split | exact sub hM (by decide) | dsimp only

theorem State.gradeRecord_within {pp : Nat} (s : State) (port slot : Nat) (r0 : LedRec) (hM : mm ||| 0x300000400000000000003000140000 = mm) (hW : Within mm pp s00 s) :
    Within mm pp s00 (State.gradeRecord s port slot r0) := by
  unfold State.gradeRecord
  try dsimp only
  repeat' with_reducible
    first | assumption | apply event_sys | apply irq_within | apply wr_within
          | apply forPorts_within | apply putRecord_within | apply ite_within | split | (intro _ _ _)
          | (intro _ _) | exact sub hM (by decide) | decide | dsimp only

theorem State.sess_within (s : State) (p : Port) (f : Session → Session) (hM : mm ||| 0x80000000000000000000000 = mm) (hW : Within mm p s00 s) :
    Within mm p s00 (State.sess s p f) := by
  unfold State.sess
  try dsimp only
  repeat' with_reducible
    first | assumption | apply modPort_own | split | (intro _ _ _) | (intro _ _) | exact sub hM (by decide)
          | decide | dsimp only

theorem State.sess_all {pp : Nat} (s : State) (p : Port) (f : Session → Session) (hM : mm ||| 0x100000000000000000000000 = mm) (hW : Within mm pp s00 s) :
    Within mm pp s00 (State.sess s p f) := by
  unfold State.sess
  try dsimp only
  repeat' with_reducible
    first | assumption | apply modPort_within | split | (intro _ _ _) | (intro _ _) | exact sub hM (by decide)
          | dsimp only

theorem State.flushFaults_within (s : State) (p : Port) (hM : mm ||| 0x300000080000000000002000000000 = mm) (hW : Within mm p s00 s) :
    Within mm p s00 (State.flushFaults s p) := by
  unfold State.flushFaults
  try dsimp only
  repeat' with_reducible
    first | assumption | apply modRecord_within | apply sess_within | apply ite_within | split
          | (intro _ _ _) | (intro _ _) | exact sub hM (by decide) | dsimp only

theorem State.flushFaults_all {pp : Nat} (s : State) (p : Port) (hM : mm ||| 0x300000100000000000002000000000 = mm) (hW : Within mm pp s00 s) :
    Within mm pp s00 (State.flushFaults s p) := by
  unfold State.flushFaults
  try dsimp only
  repeat' with_reducible
    first | assumption | apply modRecord_within | apply sess_all | apply ite_within | split
          | (intro _ _ _) | (intro _ _) | exact sub hM (by decide) | dsimp only

theorem State.credit_within (s : State) (p : Port) (out inn : Nat) (hM : mm ||| 0x300000180000000000002000000000 = mm) (hW : Within mm p s00 s) :
    Within mm p s00 (State.credit s p out inn) := by
  unfold State.credit
  try dsimp only
  repeat' with_reducible
    first | assumption | apply modRecord_within | apply sess_within | apply sess_all
          | apply ite_within | split | (intro _ _ _) | (intro _ _) | exact sub hM (by decide) | dsimp only

theorem State.credit_all {pp : Nat} (s : State) (p : Port) (out inn : Nat) (hM : mm ||| 0x300000100000000000002000000000 = mm) (hW : Within mm pp s00 s) :
    Within mm pp s00 (State.credit s p out inn) := by
  unfold State.credit
  try dsimp only
  repeat' with_reducible
    first | assumption | apply modRecord_within | apply sess_all | apply ite_within | split
          | (intro _ _ _) | (intro _ _) | exact sub hM (by decide) | dsimp only

theorem State.creditGain_within (s : State) (p : Port) (skip : Int) (hM : mm ||| 0x300000180000000000002000000000 = mm) (hW : Within mm p s00 s) :
    Within mm p s00 (State.creditGain s p skip) := by
  unfold State.creditGain
  try dsimp only
  repeat' with_reducible
    first | assumption | apply credit_within | apply sess_within | apply ite_within | split
          | (intro _ _ _) | (intro _ _) | exact sub hM (by decide) | dsimp only

theorem State.creditGain_all {pp : Nat} (s : State) (p : Port) (skip : Int) (hM : mm ||| 0x300000100000000000002000000000 = mm) (hW : Within mm pp s00 s) :
    Within mm pp s00 (State.creditGain s p skip) := by
  unfold State.creditGain
  try dsimp only
  repeat' with_reducible
    first | assumption | apply credit_all | apply sess_all | apply ite_within | split | (intro _ _ _)
          | (intro _ _) | exact sub hM (by decide) | dsimp only

theorem State.readAccum_within (s : State) (p : Port) (hM : mm ||| 0x300000180000000000002000000000 = mm) (hW : Within mm p s00 s) :
    Within mm p s00 (State.readAccum s p) := by
  unfold State.readAccum
  try dsimp only
  repeat' with_reducible
    first | assumption | apply modPort_own | apply creditGain_within | split | (intro _ _ _) | (intro _ _)
          | exact sub hM (by decide) | decide | dsimp only

theorem State.readAccum_all {pp : Nat} (s : State) (p : Port) (hM : mm ||| 0x300000100000000000002000000000 = mm) (hW : Within mm pp s00 s) :
    Within mm pp s00 (State.readAccum s p) := by
  unfold State.readAccum
  try dsimp only
  repeat' with_reducible
    first | assumption | apply modPort_within | apply creditGain_all | split | (intro _ _ _) | (intro _ _)
          | exact sub hM (by decide) | dsimp only

theorem State.catchUp_within {pp : Nat} (s : State) (hM : mm ||| 0x300000100000000000002000000000 = mm) (hW : Within mm pp s00 s) :
    Within mm pp s00 (State.catchUp s) := by
  unfold State.catchUp
  try dsimp only
  repeat' with_reducible
    first | assumption | apply modPort_within | apply forPorts_within | apply readAccum_all | split
          | (intro _ _ _) | (intro _ _) | exact sub hM (by decide) | dsimp only

theorem State.closeSession_within (s : State) (p : Port) (hM : mm ||| 0x300000580000000000007000140000 = mm) (hW : Within mm p s00 s) :
    Within mm p s00 (State.closeSession s p) := by
  unfold State.closeSession
  try dsimp only
  repeat' with_reducible
    first | assumption | apply flag_own | apply wr_own | apply bump_within
          | apply bumpBy_within | apply event_sys | apply creditGain_within
          | apply flushFaults_within | apply gradeRecord_within | apply journalDue_within
          | apply sess_within | split | (intro _ _ _) | (intro _ _) | exact sub hM (by decide) | decide
          | dsimp only

theorem State.closeSession_all {pp : Nat} (s : State) (p : Port) (hM : mm ||| 0x300000500000000000007000140000 = mm) (hW : Within mm pp s00 s) :
    Within mm pp s00 (State.closeSession s p) := by
  unfold State.closeSession
  try dsimp only
  repeat' with_reducible
    first | assumption | apply bump_within | apply bumpBy_within | apply event_sys
          | apply flag_within | apply wr_within | apply gradeRecord_within
          | apply journalDue_within | apply creditGain_all | apply flushFaults_all
          | apply sess_all | split | (intro _ _ _) | (intro _ _) | exact sub hM (by decide) | decide
          | dsimp only

theorem State.newSlot_within1 (s : State) (p : Port) (hM : mm ||| 0x300000400000000000007000140000 = mm) (hW : Within mm p s00 s) :
    Within mm p s00 (State.newSlot s p).2 := by
  unfold State.newSlot
  try dsimp only
  repeat' with_reducible
    first | assumption | apply bump_within | apply event_sys | apply flag_within
          | apply irq_within | apply dropRecord_within | apply ite_within | split
          | exact sub hM (by decide) | decide | dsimp only
theorem State.newSlot_within {s : State} {p : Port} {ss xx} (hM : mm ||| 0x300000400000000000007000140000 = mm) (hW : Within mm p s00 s)
    (he : State.newSlot s p = (xx, ss)) : Within mm p s00 ss := by
  have := State.newSlot_within1 s p hM hW; rw [he] at this; exact this

theorem State.newSlot_all1 {pp : Nat} (s : State) (p : Port) (hM : mm ||| 0x300000400000000000007000140000 = mm) (hW : Within mm pp s00 s) :
    Within mm pp s00 (State.newSlot s p).2 := by
  unfold State.newSlot
  try dsimp only
  repeat' with_reducible
    first | assumption | apply bump_within | apply event_sys | apply flag_within
          | apply irq_within | apply dropRecord_within | apply ite_within | split
          | exact sub hM (by decide) | decide | dsimp only
theorem State.newSlot_all {pp : Nat} {s : State} {p : Port} {ss xx} (hM : mm ||| 0x300000400000000000007000140000 = mm) (hW : Within mm pp s00 s)
    (he : State.newSlot s p = (xx, ss)) : Within mm pp s00 ss := by
  have := State.newSlot_all1 s p hM hW; rw [he] at this; exact this

theorem State.takeRecord_within (s : State) (p : Port) (slot : Nat) (r : LedRec) (hM : mm ||| 0x300000480002000000003000140000 = mm) (hW : Within mm p s00 s) :
    Within mm p s00 (State.takeRecord s p slot r) := by
  unfold State.takeRecord
  try dsimp only
  repeat' with_reducible
    first | assumption | apply wr_own | apply gradeRecord_within | apply seedRext_within
          | apply sess_within | apply ite_within | split | (intro _ _ _) | (intro _ _)
          | exact sub hM (by decide) | decide | dsimp only

theorem State.takeRecord_all {pp : Nat} (s : State) (p : Port) (slot : Nat) (r : LedRec) (hM : mm ||| 0x300000502000000000003000140000 = mm) (hW : Within mm pp s00 s) :
    Within mm pp s00 (State.takeRecord s p slot r) := by
  unfold State.takeRecord
  try dsimp only
  repeat' with_reducible
    first | assumption | apply wr_within | apply gradeRecord_within | apply seedRext_all
          | apply sess_all | apply ite_within | split | (intro _ _ _) | (intro _ _) | exact sub hM (by decide)
          | dsimp only

theorem State.anonymous_within (s : State) (p : Port) (hM : mm ||| 0x80000000000002000000000 = mm) (hW : Within mm p s00 s) :
    Within mm p s00 (State.anonymous s p) := by
  unfold State.anonymous
  try dsimp only
  repeat' with_reducible
    first | assumption | apply flag_own | apply sess_within | split | (intro _ _ _) | (intro _ _)
          | exact sub hM (by decide) | decide | dsimp only

theorem State.anonymous_all {pp : Nat} (s : State) (p : Port) (hM : mm ||| 0x100000000000002000000000 = mm) (hW : Within mm pp s00 s) :
    Within mm pp s00 (State.anonymous s p) := by
  unfold State.anonymous
  try dsimp only
  repeat' with_reducible
    first | assumption | apply flag_within | apply sess_all | split | (intro _ _ _) | (intro _ _)
          | exact sub hM (by decide) | dsimp only

theorem State.formKey_within (s : State) (p : Port) (hM : mm ||| 0x300000480002000000007000140000 = mm) (hW : Within mm p s00 s) :
    Within mm p s00 (State.formKey s p) := by
  unfold State.formKey
  try dsimp only
  repeat' with_reducible
    first | assumption | apply flag_own | apply bump_within | apply event_sys
          | apply irq_within | apply anonymous_within | apply journalDue_within
          | apply newSlot_within1 | (refine State.newSlot_within ?_ ?_ ‹_›) | apply sess_within
          | apply takeRecord_within | apply ite_within | split | (intro _ _ _) | (intro _ _)
          | exact sub hM (by decide) | decide | dsimp only

theorem State.formKey_all {pp : Nat} (s : State) (p : Port) (hM : mm ||| 0x300000502000000000007000140000 = mm) (hW : Within mm pp s00 s) :
    Within mm pp s00 (State.formKey s p) := by
  unfold State.formKey
  try dsimp only
  repeat' with_reducible
    first | assumption | apply bump_within | apply event_sys | apply flag_within
          | apply irq_within | apply journalDue_within | apply anonymous_all
          | apply newSlot_all1 | (refine State.newSlot_all ?_ ?_ ‹_›) | apply sess_all
          | apply takeRecord_all | apply ite_within | split | (intro _ _ _) | (intro _ _)
          | exact sub hM (by decide) | decide | dsimp only

/-! ## Machine/Policy.lean -/

theorem State.setInflight_within (s : State) (p : Port) (f : Inflight) (hM : mm ||| 0x200000080000000000000000000000 = mm) (hW : Within mm p s00 s) :
    Within mm p s00 (State.setInflight s p f) := by
  unfold State.setInflight
  try dsimp only
  repeat' with_reducible
    first | assumption | apply pe_within | apply sendCache_within | split | (intro _ _ _) | (intro _ _)
          | exact sub hM (by decide) | dsimp only

theorem State.setInflight_all {pp : Nat} (s : State) (p : Port) (f : Inflight) (hM : mm ||| 0x200000100000000000000000000000 = mm) (hW : Within mm pp s00 s) :
    Within mm pp s00 (State.setInflight s p f) := by
  unfold State.setInflight
  try dsimp only
  repeat' with_reducible
    first | assumption | apply pe_all | apply sendCache_all | split | (intro _ _ _) | (intro _ _)
          | exact sub hM (by decide) | dsimp only

theorem State.vconnClaim_within (s : State) (p : Port) (hM : mm ||| 0x2000000800005C0000000000000000 = mm) (hW : Within mm p s00 s) :
    Within mm p s00 (State.vconnClaim s p) := by
  unfold State.vconnClaim
  try dsimp only
  repeat' with_reducible
    first | assumption | apply bump_own | apply flag_own | apply irq_own | apply wr_own
          | apply cc_within | apply sendCache_within | apply ite_within | split | (intro _ _ _)
          | (intro _ _) | exact sub hM (by decide) | decide | dsimp only

theorem State.vconnClaim_all {pp : Nat} (s : State) (p : Port) (hM : mm ||| 0x2000001005C0000000000000000000 = mm) (hW : Within mm pp s00 s) :
    Within mm pp s00 (State.vconnClaim s p) := by
  unfold State.vconnClaim
  try dsimp only
  repeat' with_reducible
    first | assumption | apply bump_within | apply flag_within | apply irq_within
          | apply wr_within | apply cc_all | apply sendCache_all | apply ite_within | split
          | (intro _ _ _) | (intro _ _) | exact sub hM (by decide) | dsimp only

theorem State.sendHardReset_within (s : State) (p : Port) (hM : mm ||| 0x80000400000000000000000 = mm) (hW : Within mm p s00 s) :
    Within mm p s00 (State.sendHardReset s p) := by
  unfold State.sendHardReset
  try dsimp only
  repeat' with_reducible
    first | assumption | apply wr_own | apply phy_within | apply ite_within | split | (intro _ _ _)
          | (intro _ _) | exact sub hM (by decide) | decide | dsimp only

theorem State.sendHardReset_all {pp : Nat} (s : State) (p : Port) (hM : mm ||| 0x100400000000000000000000 = mm) (hW : Within mm pp s00 s) :
    Within mm pp s00 (State.sendHardReset s p) := by
  unfold State.sendHardReset
  try dsimp only
  repeat' with_reducible
    first | assumption | apply wr_within | apply phy_all | apply ite_within | split | (intro _ _ _)
          | (intro _ _) | exact sub hM (by decide) | dsimp only

theorem State.cancelHeld_within (s : State) (p : Port) (hM : mm ||| 0x80000400000000000000000 = mm) (hW : Within mm p s00 s) :
    Within mm p s00 (State.cancelHeld s p) := by
  unfold State.cancelHeld
  try dsimp only
  repeat' with_reducible
    first | assumption | apply wr_own | apply phy_within | apply ite_within | split | (intro _ _ _)
          | (intro _ _) | exact sub hM (by decide) | decide | dsimp only

theorem State.cancelHeld_all {pp : Nat} (s : State) (p : Port) (hM : mm ||| 0x100400000000000000000000 = mm) (hW : Within mm pp s00 s) :
    Within mm pp s00 (State.cancelHeld s p) := by
  unfold State.cancelHeld
  try dsimp only
  repeat' with_reducible
    first | assumption | apply wr_within | apply phy_all | apply ite_within | split | (intro _ _ _)
          | (intro _ _) | exact sub hM (by decide) | dsimp only

theorem State.sendSoftReset_within (s : State) (p : Port) (hM : mm ||| 0xC001000000580000E80000000038140000 = mm) (hW : Within mm p s00 s) :
    Within mm p s00 (State.sendSoftReset s p) := by
  unfold State.sendSoftReset
  try dsimp only
  repeat' with_reducible
    first | assumption | apply wr_own | apply cancelHeld_within | apply endVdm_within
          | apply pe_within | apply phy_within | apply send_within
          | apply sendHardReset_within | apply swp_within | apply ite_within | split | (intro _ _ _)
          | (intro _ _) | exact sub hM (by decide) | decide | dsimp only

theorem State.sendSoftReset_all {pp : Nat} (s : State) (p : Port) (hM : mm ||| 0xC001000000500E80000000000038140000 = mm) (hW : Within mm pp s00 s) :
    Within mm pp s00 (State.sendSoftReset s p) := by
  unfold State.sendSoftReset
  try dsimp only
  repeat' with_reducible
    first | assumption | apply wr_within | apply cancelHeld_all | apply endVdm_all
          | apply pe_all | apply phy_all | apply send_all | apply sendHardReset_all
          | apply swp_all | apply ite_within | split | (intro _ _ _) | (intro _ _) | exact sub hM (by decide)
          | dsimp only

theorem State.hardResetTakes_within (s : State) (p : Port) (sent : Bool) (vbusMv : Nat) (hM : mm ||| 0xC00120000058001BEC0000000038140000 = mm) (hW : Within mm p s00 s) :
    Within mm p s00 (State.hardResetTakes s p sent vbusMv) := by
  unfold State.hardResetTakes
  try dsimp only
  repeat' with_reducible
    first | assumption | apply event_own | apply irq_own | apply wr_own
          | apply clearAllIds_within | apply clearContract_within | apply errorRecovery_within
          | apply pe_within | apply phy_within | apply present_within
          | apply releaseReasm_within | apply swapEnd_within | apply swp_within | apply ite_within
          | split | (intro _ _ _) | (intro _ _) | exact sub hM (by decide) | decide | dsimp only

theorem State.hardResetTakes_all {pp : Nat} (s : State) (p : Port) (sent : Bool) (vbusMv : Nat) (hM : mm ||| 0xC00120000051BEC0000000000038140000 = mm) (hW : Within mm pp s00 s) :
    Within mm pp s00 (State.hardResetTakes s p sent vbusMv) := by
  unfold State.hardResetTakes
  try dsimp only
  repeat' with_reducible
    first | assumption | apply irq_within | apply wr_within | apply event_all
          | apply clearAllIds_all | apply clearContract_all | apply errorRecovery_all
          | apply pe_all | apply phy_all | apply present_all | apply releaseReasm_all
          | apply swapEnd_all | apply swp_all | apply ite_within | split | (intro _ _ _) | (intro _ _)
          | exact sub hM (by decide) | dsimp only

theorem State.readvertise_within (s : State) (p : Port) (hM : mm ||| 0x200000180000E80000000000000000 = mm) (hW : Within mm p s00 s) :
    Within mm p s00 (State.readvertise s p) := by
  unfold State.readvertise
  try dsimp only
  repeat' with_reducible
    first | assumption | apply pe_within | apply sendCaps_within | apply ite_within | split
          | (intro _ _ _) | (intro _ _) | exact sub hM (by decide) | dsimp only

theorem State.readvertise_all {pp : Nat} (s : State) (p : Port) (hM : mm ||| 0x200000100E80000000000000000000 = mm) (hW : Within mm pp s00 s) :
    Within mm pp s00 (State.readvertise s p) := by
  unfold State.readvertise
  try dsimp only
  repeat' with_reducible
    first | assumption | apply pe_all | apply sendCaps_all | apply ite_within | split | (intro _ _ _)
          | (intro _ _) | exact sub hM (by decide) | dsimp only

theorem State.vconnLost_within (s : State) (p : Port) (hM : mm ||| 0x200000180000E80000000000000000 = mm) (hW : Within mm p s00 s) :
    Within mm p s00 (State.vconnLost s p) := by
  unfold State.vconnLost
  try dsimp only
  repeat' with_reducible
    first | assumption | apply readvertise_within | apply unqualify_within | apply vconnOff_within
          | apply ite_within | split | exact sub hM (by decide) | dsimp only

theorem State.vconnLost_all {pp : Nat} (s : State) (p : Port) (hM : mm ||| 0x200000100E80000000000000000000 = mm) (hW : Within mm pp s00 s) :
    Within mm pp s00 (State.vconnLost s p) := by
  unfold State.vconnLost
  try dsimp only
  repeat' with_reducible
    first | assumption | apply readvertise_all | apply unqualify_all | apply vconnOff_all
          | apply ite_within | split | exact sub hM (by decide) | dsimp only

theorem State.readvIfWanted_within (s : State) (p : Port) (hM : mm ||| 0x200000180000E80000000000000000 = mm) (hW : Within mm p s00 s) :
    Within mm p s00 (State.readvIfWanted s p) := by
  unfold State.readvIfWanted
  try dsimp only
  repeat' with_reducible
    first | assumption | apply readvertise_within | apply ite_within | split | exact sub hM (by decide)
          | dsimp only

theorem State.readvIfWanted_all {pp : Nat} (s : State) (p : Port) (hM : mm ||| 0x200000100E80000000000000000000 = mm) (hW : Within mm pp s00 s) :
    Within mm pp s00 (State.readvIfWanted s p) := by
  unfold State.readvIfWanted
  try dsimp only
  repeat' with_reducible
    first | assumption | apply readvertise_all | apply ite_within | split | exact sub hM (by decide)
          | dsimp only

theorem State.eprFail_within (s : State) (p : Port) (reason : Nat) (hM : mm ||| 0x580000E80000000000140000 = mm) (hW : Within mm p s00 s) :
    Within mm p s00 (State.eprFail s p reason) := by
  unfold State.eprFail
  try dsimp only
  repeat' with_reducible
    first | assumption | apply event_own | apply pe_within | apply send_within | split
          | (intro _ _ _) | (intro _ _) | exact sub hM (by decide) | decide | dsimp only

theorem State.eprFail_all {pp : Nat} (s : State) (p : Port) (reason : Nat) (hM : mm ||| 0x500E80000000000000140000 = mm) (hW : Within mm pp s00 s) :
    Within mm pp s00 (State.eprFail s p reason) := by
  unfold State.eprFail
  try dsimp only
  repeat' with_reducible
    first | assumption | apply event_all | apply pe_all | apply send_all | split | (intro _ _ _)
          | (intro _ _) | exact sub hM (by decide) | dsimp only

theorem State.eprConclude_within (s : State) (p : Port) (hM : mm ||| 0x200000580000E80000000000140000 = mm) (hW : Within mm p s00 s) :
    Within mm p s00 (State.eprConclude s p) := by
  unfold State.eprConclude
  try dsimp only
  repeat' with_reducible
    first | assumption | apply event_own | apply flag_own | apply wr_own
          | apply eprFail_within | apply pe_within | apply send_within
          | apply sendCache_within | apply ite_within | split | (intro _ _ _) | (intro _ _)
          | exact sub hM (by decide) | decide | dsimp only

theorem State.eprConclude_all {pp : Nat} (s : State) (p : Port) (hM : mm ||| 0x200000500E80000000000000140000 = mm) (hW : Within mm pp s00 s) :
    Within mm pp s00 (State.eprConclude s p) := by
  unfold State.eprConclude
  try dsimp only
  repeat' with_reducible
    first | assumption | apply flag_within | apply wr_within | apply event_all
          | apply eprFail_all | apply pe_all | apply send_all | apply sendCache_all
          | apply ite_within | split | (intro _ _ _) | (intro _ _) | exact sub hM (by decide) | dsimp only

theorem State.leaveEpr_within (s : State) (p : Port) (who : Nat) (hM : mm ||| 0x200000580000E80000000000140000 = mm) (hW : Within mm p s00 s) :
    Within mm p s00 (State.leaveEpr s p who) := by
  unfold State.leaveEpr
  try dsimp only
  repeat' with_reducible
    first | assumption | apply event_own | apply flag_own | apply wr_own | apply pe_within
          | apply sendCache_within | apply sendCaps_within | split | (intro _ _ _) | (intro _ _)
          | exact sub hM (by decide) | decide | dsimp only

theorem State.leaveEpr_all {pp : Nat} (s : State) (p : Port) (who : Nat) (hM : mm ||| 0x200000500E80000000000000140000 = mm) (hW : Within mm pp s00 s) :
    Within mm pp s00 (State.leaveEpr s p who) := by
  unfold State.leaveEpr
  try dsimp only
  repeat' with_reducible
    first | assumption | apply flag_within | apply wr_within | apply event_all | apply pe_all
          | apply sendCache_all | apply sendCaps_all | split | (intro _ _ _) | (intro _ _)
          | exact sub hM (by decide) | dsimp only

theorem State.eprAutoExit_within (s : State) (p : Port) (hM : mm ||| 0x200000580000E80000000000140000 = mm) (hW : Within mm p s00 s) :
    Within mm p s00 (State.eprAutoExit s p) := by
  unfold State.eprAutoExit
  try dsimp only
  repeat' with_reducible
    first | assumption | apply leaveEpr_within | apply pe_within | apply send_within
          | apply sendCaps_within | apply ite_within | split | (intro _ _ _) | (intro _ _)
          | exact sub hM (by decide) | dsimp only

theorem State.eprAutoExit_all {pp : Nat} (s : State) (p : Port) (hM : mm ||| 0x200000500E80000000000000140000 = mm) (hW : Within mm pp s00 s) :
    Within mm pp s00 (State.eprAutoExit s p) := by
  unfold State.eprAutoExit
  try dsimp only
  repeat' with_reducible
    first | assumption | apply leaveEpr_all | apply pe_all | apply send_all
          | apply sendCaps_all | apply ite_within | split | (intro _ _ _) | (intro _ _)
          | exact sub hM (by decide) | dsimp only

theorem State.discoverCable_within (s : State) (p : Port) (hM : mm ||| 0x180000E80000000000000000 = mm) (hW : Within mm p s00 s) :
    Within mm p s00 (State.discoverCable s p) := by
  unfold State.discoverCable
  try dsimp only
  repeat' with_reducible
    first | assumption | apply bump_own | apply wr_own | apply pe_within
          | apply sendFrame_within | apply ite_within | split | (intro _ _ _) | (intro _ _)
          | exact sub hM (by decide) | decide | dsimp only

theorem State.discoverCable_all {pp : Nat} (s : State) (p : Port) (hM : mm ||| 0x100E80000000000000000000 = mm) (hW : Within mm pp s00 s) :
    Within mm pp s00 (State.discoverCable s p) := by
  unfold State.discoverCable
  try dsimp only
  repeat' with_reducible
    first | assumption | apply bump_within | apply wr_within | apply pe_all
          | apply sendFrame_all | apply ite_within | split | (intro _ _ _) | (intro _ _)
          | exact sub hM (by decide) | dsimp only

theorem State.afterDiscovery_within (s : State) (p : Port) (hM : mm ||| 0x200000580000E80000000000140000 = mm) (hW : Within mm p s00 s) :
    Within mm p s00 (State.afterDiscovery s p) := by
  unfold State.afterDiscovery
  try dsimp only
  repeat' with_reducible
    first | assumption | apply eprConclude_within | apply ite_within | split | exact sub hM (by decide)
          | dsimp only

theorem State.afterDiscovery_all {pp : Nat} (s : State) (p : Port) (hM : mm ||| 0x200000500E80000000000000140000 = mm) (hW : Within mm pp s00 s) :
    Within mm pp s00 (State.afterDiscovery s p) := by
  unfold State.afterDiscovery
  try dsimp only
  repeat' with_reducible
    first | assumption | apply eprConclude_all | apply ite_within | split | exact sub hM (by decide)
          | dsimp only

theorem State.discUnanswered_within (s : State) (p : Port) (hM : mm ||| 0x200000580000FC0000000000140000 = mm) (hW : Within mm p s00 s) :
    Within mm p s00 (State.discUnanswered s p) := by
  unfold State.discUnanswered
  try dsimp only
  repeat' with_reducible
    first | assumption | apply bump_own | apply irq_own | apply wr_own
          | apply afterDiscovery_within | apply pe_within | apply ite_within | split | (intro _ _ _)
          | (intro _ _) | exact sub hM (by decide) | decide | dsimp only

theorem State.discUnanswered_all {pp : Nat} (s : State) (p : Port) (hM : mm ||| 0x200000500FC0000000000000140000 = mm) (hW : Within mm pp s00 s) :
    Within mm pp s00 (State.discUnanswered s p) := by
  unfold State.discUnanswered
  try dsimp only
  repeat' with_reducible
    first | assumption | apply bump_within | apply irq_within | apply wr_within
          | apply afterDiscovery_all | apply pe_all | apply ite_within | split | (intro _ _ _)
          | (intro _ _) | exact sub hM (by decide) | dsimp only

theorem State.cableFound_within (s : State) (p : Port) (active soppp : Bool) (imax vmax : BitVec 2) (epr : Bool) (hM : mm ||| 0x200000580000EC0000000000140000 = mm) (hW : Within mm p s00 s) :
    Within mm p s00 (State.cableFound s p active soppp imax vmax epr) := by
  unfold State.cableFound
  try dsimp only
  repeat' with_reducible
    first | assumption | apply flag_own | apply irq_own | apply wr_own
          | apply eprConclude_within | apply pe_within | apply readvertise_within
          | apply sendFrame_within | apply ite_within | split | (intro _ _ _) | (intro _ _)
          | exact sub hM (by decide) | decide | dsimp only

theorem State.cableFound_all {pp : Nat} (s : State) (p : Port) (active soppp : Bool) (imax vmax : BitVec 2) (epr : Bool) (hM : mm ||| 0x200000500EC0000000000000140000 = mm) (hW : Within mm pp s00 s) :
    Within mm pp s00 (State.cableFound s p active soppp imax vmax epr) := by
  unfold State.cableFound
  try dsimp only
  repeat' with_reducible
    first | assumption | apply flag_within | apply irq_within | apply wr_within
          | apply eprConclude_all | apply pe_all | apply readvertise_all | apply sendFrame_all
          | apply ite_within | split | (intro _ _ _) | (intro _ _) | exact sub hM (by decide) | dsimp only

theorem State.applyCeil_within (s : State) (p : Port) (hM : mm ||| 0x2000000000000000000 = mm) (hW : Within mm p s00 s) :
    Within mm p s00 (State.applyCeil s p) := by
  unfold State.applyCeil
  try dsimp only
  repeat' with_reducible
    first | assumption | apply wr_own | exact sub hM (by decide) | decide | dsimp only

theorem State.applyCeil_all {pp : Nat} (s : State) (p : Port) (hM : mm ||| 0x2000000000000000000000 = mm) (hW : Within mm pp s00 s) :
    Within mm pp s00 (State.applyCeil s p) := by
  unfold State.applyCeil
  try dsimp only
  repeat' with_reducible
    first | assumption | apply wr_within | exact sub hM (by decide) | dsimp only

theorem State.releaseOwnShed_within (s : State) (p : Port) (hM : mm ||| 0x80000000000400000000000 = mm) (hW : Within mm p s00 s) :
    Within mm p s00 (State.releaseOwnShed s p) := by
  unfold State.releaseOwnShed
  try dsimp only
  repeat' with_reducible
    first | assumption | apply clearShed_within | apply ite_within | split | exact sub hM (by decide)
          | dsimp only

theorem State.releaseOwnShed_all {pp : Nat} (s : State) (p : Port) (hM : mm ||| 0x100000000000400000000000 = mm) (hW : Within mm pp s00 s) :
    Within mm pp s00 (State.releaseOwnShed s p) := by
  unfold State.releaseOwnShed
  try dsimp only
  repeat' with_reducible
    first | assumption | apply clearShed_all | apply ite_within | split | exact sub hM (by decide) | dsimp only

theorem State.acceptContract_within (s : State) (p : Port) (c : Contract) (r : Rdo) (hM : mm ||| 0x200000180000E80000000000000000 = mm) (hW : Within mm p s00 s) :
    Within mm p s00 (State.acceptContract s p c r) := by
  unfold State.acceptContract
  try dsimp only
  repeat' with_reducible
    first | assumption | apply wr_own | apply pe_within | apply send_within
          | apply setInflight_within | split | (intro _ _ _) | (intro _ _) | exact sub hM (by decide) | decide
          | dsimp only

theorem State.acceptContract_all {pp : Nat} (s : State) (p : Port) (c : Contract) (r : Rdo) (hM : mm ||| 0x200000100E80000000000000000000 = mm) (hW : Within mm pp s00 s) :
    Within mm pp s00 (State.acceptContract s p c r) := by
  unfold State.acceptContract
  try dsimp only
  repeat' with_reducible
    first | assumption | apply wr_within | apply pe_all | apply send_all
          | apply setInflight_all | split | (intro _ _ _) | (intro _ _) | exact sub hM (by decide) | dsimp only

theorem State.acceptAcked_within (s : State) (p : Port) (t : Trans) (hM : mm ||| 0x80002000000000000000000 = mm) (hW : Within mm p s00 s) :
    Within mm p s00 (State.acceptAcked s p t) := by
  unfold State.acceptAcked
  try dsimp only
  repeat' with_reducible
    first | assumption | apply wr_own | apply pe_within | apply ite_within | split | (intro _ _ _)
          | (intro _ _) | exact sub hM (by decide) | decide | dsimp only

theorem State.acceptAcked_all {pp : Nat} (s : State) (p : Port) (t : Trans) (hM : mm ||| 0x102000000000000000000000 = mm) (hW : Within mm pp s00 s) :
    Within mm pp s00 (State.acceptAcked s p t) := by
  unfold State.acceptAcked
  try dsimp only
  repeat' with_reducible
    first | assumption | apply wr_within | apply pe_all | apply ite_within | split | (intro _ _ _)
          | (intro _ _) | exact sub hM (by decide) | dsimp only

theorem State.sendPsRdy_within (s : State) (p : Port) (t : Trans) (hM : mm ||| 0x180002E80000400000000000 = mm) (hW : Within mm p s00 s) :
    Within mm p s00 (State.sendPsRdy s p t) := by
  unfold State.sendPsRdy
  try dsimp only
  repeat' with_reducible
    first | assumption | apply wr_own | apply applyCeil_within | apply pe_within
          | apply releaseOwnShed_within | apply send_within | apply ite_within | split | (intro _ _ _)
          | (intro _ _) | exact sub hM (by decide) | decide | dsimp only

theorem State.sendPsRdy_all {pp : Nat} (s : State) (p : Port) (t : Trans) (hM : mm ||| 0x102E80000000400000000000 = mm) (hW : Within mm pp s00 s) :
    Within mm pp s00 (State.sendPsRdy s p t) := by
  unfold State.sendPsRdy
  try dsimp only
  repeat' with_reducible
    first | assumption | apply wr_within | apply applyCeil_all | apply pe_all
          | apply releaseOwnShed_all | apply send_all | apply ite_within | split | (intro _ _ _)
          | (intro _ _) | exact sub hM (by decide) | dsimp only

theorem State.openSession_within (s : State) (p : Port) (hM : mm ||| 0x300000580000000000007000140000 = mm) (hW : Within mm p s00 s) :
    Within mm p s00 (State.openSession s p) := by
  unfold State.openSession
  try dsimp only
  repeat' with_reducible
    first | assumption | apply flag_own | apply closeSession_within | apply sess_within
          | apply sess_all | apply ite_within | split | (intro _ _ _) | (intro _ _) | exact sub hM (by decide)
          | decide | dsimp only

theorem State.openSession_all {pp : Nat} (s : State) (p : Port) (hM : mm ||| 0x300000500000000000007000140000 = mm) (hW : Within mm pp s00 s) :
    Within mm pp s00 (State.openSession s p) := by
  unfold State.openSession
  try dsimp only
  repeat' with_reducible
    first | assumption | apply flag_within | apply closeSession_all | apply sess_all
          | apply ite_within | split | (intro _ _ _) | (intro _ _) | exact sub hM (by decide) | dsimp only

theorem State.contractMade_within (s : State) (p : Port) (t : Trans) (hM : mm ||| 0x300000580010600000007000140000 = mm) (hW : Within mm p s00 s) :
    Within mm p s00 (State.contractMade s p t) := by
  unfold State.contractMade
  try dsimp only
  repeat' with_reducible
    first | assumption | apply event_own | apply flag_own | apply irq_own | apply wr_own
          | apply openSession_within | apply pe_within | apply sendCache_within | apply ite_within
          | split | (intro _ _ _) | (intro _ _) | exact sub hM (by decide) | decide | dsimp only

theorem State.contractMade_all {pp : Nat} (s : State) (p : Port) (t : Trans) (hM : mm ||| 0x300000510600000000007000140000 = mm) (hW : Within mm pp s00 s) :
    Within mm pp s00 (State.contractMade s p t) := by
  unfold State.contractMade
  try dsimp only
  repeat' with_reducible
    first | assumption | apply flag_within | apply irq_within | apply wr_within
          | apply event_all | apply openSession_all | apply pe_all | apply sendCache_all
          | apply ite_within | split | (intro _ _ _) | (intro _ _) | exact sub hM (by decide) | dsimp only

theorem State.askSinkCap_within (s : State) (p : Port) (hM : mm ||| 0x180000E80000000000000000 = mm) (hW : Within mm p s00 s) :
    Within mm p s00 (State.askSinkCap s p) := by
  unfold State.askSinkCap
  try dsimp only
  repeat' with_reducible
    first | assumption | apply pe_within | apply sendAms_within | split | (intro _ _ _) | (intro _ _)
          | exact sub hM (by decide) | dsimp only

theorem State.askSinkCap_all {pp : Nat} (s : State) (p : Port) (hM : mm ||| 0x100E80000000000000000000 = mm) (hW : Within mm pp s00 s) :
    Within mm pp s00 (State.askSinkCap s p) := by
  unfold State.askSinkCap
  try dsimp only
  repeat' with_reducible
    first | assumption | apply pe_all | apply sendAms_all | split | (intro _ _ _) | (intro _ _)
          | exact sub hM (by decide) | dsimp only

theorem State.psRdyAcked_within (s : State) (p : Port) (t : Trans) (hM : mm ||| 0x300000580010E80000007000140000 = mm) (hW : Within mm p s00 s) :
    Within mm p s00 (State.psRdyAcked s p t) := by
  unfold State.psRdyAcked
  try dsimp only
  repeat' with_reducible
    first | assumption | apply amsEnd_within | apply askSinkCap_within | apply contractMade_within
          | apply eprAutoExit_within | apply pe_within | apply setInflight_within | apply ite_within
          | split | (intro _ _ _) | (intro _ _) | exact sub hM (by decide) | dsimp only

theorem State.psRdyAcked_all {pp : Nat} (s : State) (p : Port) (t : Trans) (hM : mm ||| 0x300000510E80000000007000140000 = mm) (hW : Within mm pp s00 s) :
    Within mm pp s00 (State.psRdyAcked s p t) := by
  unfold State.psRdyAcked
  try dsimp only
  repeat' with_reducible
    first | assumption | apply amsEnd_all | apply askSinkCap_all | apply contractMade_all
          | apply eprAutoExit_all | apply pe_all | apply setInflight_all | apply ite_within | split
          | (intro _ _ _) | (intro _ _) | exact sub hM (by decide) | dsimp only

theorem State.contractGone_within (s : State) (p : Port) (hM : mm ||| 0x80010400000000000000000 = mm) (hW : Within mm p s00 s) :
    Within mm p s00 (State.contractGone s p) := by
  unfold State.contractGone
  try dsimp only
  repeat' with_reducible
    first | assumption | apply flag_own | apply wr_own | apply pe_within | split | (intro _ _ _)
          | (intro _ _) | exact sub hM (by decide) | decide | dsimp only

theorem State.contractGone_all {pp : Nat} (s : State) (p : Port) (hM : mm ||| 0x110400000000000000000000 = mm) (hW : Within mm pp s00 s) :
    Within mm pp s00 (State.contractGone s p) := by
  unfold State.contractGone
  try dsimp only
  repeat' with_reducible
    first | assumption | apply flag_within | apply wr_within | apply pe_all | split | (intro _ _ _)
          | (intro _ _) | exact sub hM (by decide) | dsimp only

theorem State.becomeSink_within (s : State) (p : Port) (hM : mm ||| 0x200000080010480000000000000000 = mm) (hW : Within mm p s00 s) :
    Within mm p s00 (State.becomeSink s p) := by
  unfold State.becomeSink
  try dsimp only
  repeat' with_reducible
    first | assumption | apply wr_own | apply contractGone_within | apply present_within
          | apply sendCache_within | exact sub hM (by decide) | decide | dsimp only

theorem State.becomeSink_all {pp : Nat} (s : State) (p : Port) (hM : mm ||| 0x200000110480000000000000000000 = mm) (hW : Within mm pp s00 s) :
    Within mm pp s00 (State.becomeSink s p) := by
  unfold State.becomeSink
  try dsimp only
  repeat' with_reducible
    first | assumption | apply wr_within | apply contractGone_all | apply present_all
          | apply sendCache_all | exact sub hM (by decide) | dsimp only

theorem State.becomeSource_within (s : State) (p : Port) (rp : Pres) (hM : mm ||| 0x200000080010480000000000000000 = mm) (hW : Within mm p s00 s) :
    Within mm p s00 (State.becomeSource s p rp) := by
  unfold State.becomeSource
  try dsimp only
  repeat' with_reducible
    first | assumption | apply wr_own | apply contractGone_within | apply present_within
          | apply sendCache_within | exact sub hM (by decide) | decide | dsimp only

theorem State.becomeSource_all {pp : Nat} (s : State) (p : Port) (rp : Pres) (hM : mm ||| 0x200000110480000000000000000000 = mm) (hW : Within mm pp s00 s) :
    Within mm pp s00 (State.becomeSource s p rp) := by
  unfold State.becomeSource
  try dsimp only
  repeat' with_reducible
    first | assumption | apply wr_within | apply contractGone_all | apply present_all
          | apply sendCache_all | exact sub hM (by decide) | dsimp only

theorem State.busForm_within (s : State) (p : Port) (hM : mm ||| 0x80003000000000000000000 = mm) (hW : Within mm p s00 s) :
    Within mm p s00 (State.busForm s p) := by
  unfold State.busForm
  try dsimp only
  repeat' with_reducible
    first | assumption | apply wr_own | apply setMode_within | split | exact sub hM (by decide) | decide
          | dsimp only

theorem State.busForm_all {pp : Nat} (s : State) (p : Port) (hM : mm ||| 0x103000000000000000000000 = mm) (hW : Within mm pp s00 s) :
    Within mm pp s00 (State.busForm s p) := by
  unfold State.busForm
  try dsimp only
  repeat' with_reducible
    first | assumption | apply wr_within | apply setMode_all | split | exact sub hM (by decide)
          | dsimp only

theorem State.islandCeiling_within (s : State) (p : Port) (hM : mm ||| 0x80000000000400000000000 = mm) (hW : Within mm p s00 s) :
    Within mm p s00 (State.islandCeiling s p) := by
  unfold State.islandCeiling
  try dsimp only
  repeat' with_reducible
    first | assumption | apply flag_own | apply wr_own | apply swp_within | split | (intro _ _ _)
          | (intro _ _) | exact sub hM (by decide) | decide | dsimp only

theorem State.islandCeiling_all {pp : Nat} (s : State) (p : Port) (hM : mm ||| 0x100000000000400000000000 = mm) (hW : Within mm pp s00 s) :
    Within mm pp s00 (State.islandCeiling s p) := by
  unfold State.islandCeiling
  try dsimp only
  repeat' with_reducible
    first | assumption | apply flag_within | apply wr_within | apply swp_all | split | (intro _ _ _)
          | (intro _ _) | exact sub hM (by decide) | dsimp only

theorem State.islandJoin_within (s : State) (p : Port) (hM : mm ||| 0x80003000000400000000000 = mm) (hW : Within mm p s00 s) :
    Within mm p s00 (State.islandJoin s p) := by
  unfold State.islandJoin
  try dsimp only
  repeat' with_reducible
    first | assumption | apply busForm_within | apply islandCeiling_within | apply ite_within | split
          | exact sub hM (by decide) | dsimp only

theorem State.islandJoin_all {pp : Nat} (s : State) (p : Port) (hM : mm ||| 0x103000000000400000000000 = mm) (hW : Within mm pp s00 s) :
    Within mm pp s00 (State.islandJoin s p) := by
  unfold State.islandJoin
  try dsimp only
  repeat' with_reducible
    first | assumption | apply busForm_all | apply islandCeiling_all | apply ite_within | split
          | exact sub hM (by decide) | dsimp only

theorem State.detachEvent_within (s : State) (p : Port) (hM : mm ||| 0x580000000000000000140000 = mm) (hW : Within mm p s00 s) :
    Within mm p s00 (State.detachEvent s p) := by
  unfold State.detachEvent
  try dsimp only
  repeat' with_reducible
    first | assumption | apply event_own | apply cc_all | apply ite_within | split | (intro _ _ _)
          | (intro _ _) | exact sub hM (by decide) | decide | dsimp only

theorem State.detachEvent_all {pp : Nat} (s : State) (p : Port) (hM : mm ||| 0x500000000000000000140000 = mm) (hW : Within mm pp s00 s) :
    Within mm pp s00 (State.detachEvent s p) := by
  unfold State.detachEvent
  try dsimp only
  repeat' with_reducible
    first | assumption | apply event_all | apply cc_all | apply ite_within | split | (intro _ _ _)
          | (intro _ _) | exact sub hM (by decide) | dsimp only

theorem State.detach_within (s : State) (p : Port) (hM : mm ||| 0xC00120000058001B5C0000000038140000 = mm) (hW : Within mm p s00 s) :
    Within mm p s00 (State.detach s p) := by
  unfold State.detach
  try dsimp only
  repeat' with_reducible
    first | assumption | apply bump_own | apply flag_own | apply irq_own | apply wr_own
          | apply detachEvent_within | apply endAttachment_within | apply enterUnattached_within
          | apply openPlanned_within | apply present_within | apply setMode_within
          | apply ite_within | split | exact sub hM (by decide) | decide | dsimp only

theorem State.detach_all {pp : Nat} (s : State) (p : Port) (hM : mm ||| 0xC00120000051B5C0000000000038140000 = mm) (hW : Within mm pp s00 s) :
    Within mm pp s00 (State.detach s p) := by
  unfold State.detach
  try dsimp only
  repeat' with_reducible
    first | assumption | apply bump_within | apply flag_within | apply irq_within
          | apply wr_within | apply detachEvent_all | apply endAttachment_all
          | apply enterUnattached_all | apply openPlanned_all | apply present_all
          | apply setMode_all | apply ite_within | split | exact sub hM (by decide) | dsimp only

theorem State.disable_within (s : State) (p : Port) (hM : mm ||| 0xC00120000048001B4C0000000038140002 = mm) (hW : Within mm p s00 s) :
    Within mm p s00 (State.disable s p) := by
  unfold State.disable
  try dsimp only
  repeat' with_reducible
    first | assumption | apply flag_own | apply wr_own | apply wrBit_within
          | apply endAttachment_within | apply openPlanned_within | apply present_within
          | apply setMode_within | apply ite_within | split | exact sub hM (by decide) | decide | dsimp only

theorem State.disable_all {pp : Nat} (s : State) (p : Port) (hM : mm ||| 0xC00120000051B4C0000000000038140002 = mm) (hW : Within mm pp s00 s) :
    Within mm pp s00 (State.disable s p) := by
  unfold State.disable
  try dsimp only
  repeat' with_reducible
    first | assumption | apply flag_within | apply wr_within | apply wrBit_within
          | apply endAttachment_all | apply openPlanned_all | apply present_all
          | apply setMode_all | apply ite_within | split | exact sub hM (by decide) | dsimp only

/-! ## Machine/Twill.lean -/

theorem State.sendOwnSwap_within (s : State) (p : Port) (k : SwapKind) (why : SwapWant) (hM : mm ||| 0x200000180000E80000000000000000 = mm) (hW : Within mm p s00 s) :
    Within mm p s00 (State.sendOwnSwap s p k why) := by
  unfold State.sendOwnSwap
  try dsimp only
  repeat' with_reducible
    first | assumption | apply pe_within | apply pr_within | apply sendAms_within
          | apply setInflight_within | apply swp_within | apply ite_within | split | (intro _ _ _)
          | (intro _ _) | exact sub hM (by decide) | dsimp only

theorem State.sendOwnSwap_all {pp : Nat} (s : State) (p : Port) (k : SwapKind) (why : SwapWant) (hM : mm ||| 0x200000100E80000000000000000000 = mm) (hW : Within mm pp s00 s) :
    Within mm pp s00 (State.sendOwnSwap s p k why) := by
  unfold State.sendOwnSwap
  try dsimp only
  repeat' with_reducible
    first | assumption | apply pr_within | apply pe_all | apply sendAms_all
          | apply setInflight_all | apply swp_all | apply ite_within | split | (intro _ _ _) | (intro _ _)
          | exact sub hM (by decide) | dsimp only

theorem State.swapDeferred_within (s : State) (p : Port) (hM : mm ||| 0x200000480000000000000000140000 = mm) (hW : Within mm p s00 s) :
    Within mm p s00 (State.swapDeferred s p) := by
  unfold State.swapDeferred
  try dsimp only
  repeat' with_reducible
    first | assumption | apply event_own | apply pe_within | apply swapEnd_within
          | apply swp_within | apply ite_within | split | (intro _ _ _) | (intro _ _) | exact sub hM (by decide)
          | decide | dsimp only

theorem State.swapDeferred_all {pp : Nat} (s : State) (p : Port) (hM : mm ||| 0x200000500000000000000000140000 = mm) (hW : Within mm pp s00 s) :
    Within mm pp s00 (State.swapDeferred s p) := by
  unfold State.swapDeferred
  try dsimp only
  repeat' with_reducible
    first | assumption | apply event_all | apply pe_all | apply swapEnd_all | apply swp_all
          | apply ite_within | split | (intro _ _ _) | (intro _ _) | exact sub hM (by decide) | dsimp only

theorem State.swapRejected_within (s : State) (p : Port) (hM : mm ||| 0x200000480000000000000000140000 = mm) (hW : Within mm p s00 s) :
    Within mm p s00 (State.swapRejected s p) := by
  unfold State.swapRejected
  try dsimp only
  repeat' with_reducible
    first | assumption | apply event_own | apply pe_within | apply swapEnd_within
          | apply swp_within | apply ite_within | split | (intro _ _ _) | (intro _ _) | exact sub hM (by decide)
          | decide | dsimp only

theorem State.swapRejected_all {pp : Nat} (s : State) (p : Port) (hM : mm ||| 0x200000500000000000000000140000 = mm) (hW : Within mm pp s00 s) :
    Within mm pp s00 (State.swapRejected s p) := by
  unfold State.swapRejected
  try dsimp only
  repeat' with_reducible
    first | assumption | apply event_all | apply pe_all | apply swapEnd_all | apply swp_all
          | apply ite_within | split | (intro _ _ _) | (intro _ _) | exact sub hM (by decide) | dsimp only

theorem State.vconnReserve_within {s : State} {p : Port} {ss : State} (hM : mm ||| 0x80000000000000000 = mm) (hW : Within mm p s00 s)
    (he : State.vconnReserve s p = some ss) : Within mm p s00 ss := by
  unfold State.vconnReserve at he
  try dsimp only at he
  repeat' split at he
  all_goals try simp only [Option.some.injEq, reduceCtorEq] at he
  all_goals try subst he
  repeat' with_reducible
    first | assumption | apply wr_own | apply ite_within | split | exact sub hM (by decide) | decide
          | dsimp only

theorem State.vconnReserve_all {pp : Nat} {s : State} {p : Port} {ss : State} (hM : mm ||| 0x80000000000000000000 = mm) (hW : Within mm pp s00 s)
    (he : State.vconnReserve s p = some ss) : Within mm pp s00 ss := by
  unfold State.vconnReserve at he
  try dsimp only at he
  repeat' split at he
  all_goals try simp only [Option.some.injEq, reduceCtorEq] at he
  all_goals try subst he
  repeat' with_reducible
    first | assumption | apply wr_within | apply ite_within | split | exact sub hM (by decide) | dsimp only

theorem State.drSwapDone_within (s : State) (p : Port) (hM : mm ||| 0x200000480000480000000000140000 = mm) (hW : Within mm p s00 s) :
    Within mm p s00 (State.drSwapDone s p) := by
  unfold State.drSwapDone
  try dsimp only
  repeat' with_reducible
    first | assumption | apply event_own | apply wr_own | apply amsEnd_within
          | apply sendCache_within | apply swapEnd_within | apply swp_within | apply ite_within
          | split | (intro _ _ _) | (intro _ _) | exact sub hM (by decide) | decide | dsimp only

theorem State.drSwapDone_all {pp : Nat} (s : State) (p : Port) (hM : mm ||| 0x200000500480000000000000140000 = mm) (hW : Within mm pp s00 s) :
    Within mm pp s00 (State.drSwapDone s p) := by
  unfold State.drSwapDone
  try dsimp only
  repeat' with_reducible
    first | assumption | apply wr_within | apply event_all | apply amsEnd_all
          | apply sendCache_all | apply swapEnd_all | apply swp_all | apply ite_within | split
          | (intro _ _ _) | (intro _ _) | exact sub hM (by decide) | dsimp only

theorem State.vconnSwapAccepted_within (s : State) (p : Port) (hM : mm ||| 0x80000080000000000000000 = mm) (hW : Within mm p s00 s) :
    Within mm p s00 (State.vconnSwapAccepted s p) := by
  unfold State.vconnSwapAccepted
  try dsimp only
  repeat' with_reducible
    first | assumption | apply flag_own | apply wr_own | apply cc_within | apply swp_within
          | apply ite_within | split | (intro _ _ _) | (intro _ _) | exact sub hM (by decide) | decide | dsimp only

theorem State.vconnSwapAccepted_all {pp : Nat} (s : State) (p : Port) (hM : mm ||| 0x100080000000000000000000 = mm) (hW : Within mm pp s00 s) :
    Within mm pp s00 (State.vconnSwapAccepted s p) := by
  unfold State.vconnSwapAccepted
  try dsimp only
  repeat' with_reducible
    first | assumption | apply flag_within | apply wr_within | apply cc_all | apply swp_all
          | apply ite_within | split | (intro _ _ _) | (intro _ _) | exact sub hM (by decide) | dsimp only

theorem State.vconnRisen_within (s : State) (p : Port) (hM : mm ||| 0x180000E80000000000000000 = mm) (hW : Within mm p s00 s) :
    Within mm p s00 (State.vconnRisen s p) := by
  unfold State.vconnRisen
  try dsimp only
  repeat' with_reducible
    first | assumption | apply send_within | apply swp_within | apply ite_within | split | (intro _ _ _)
          | (intro _ _) | exact sub hM (by decide) | dsimp only

theorem State.vconnSwapDone_within (s : State) (p : Port) (now : Bool) (hM : mm ||| 0x200000580000E80000000000140000 = mm) (hW : Within mm p s00 s) :
    Within mm p s00 (State.vconnSwapDone s p now) := by
  unfold State.vconnSwapDone
  try dsimp only
  repeat' with_reducible
    first | assumption | apply event_own | apply flag_own | apply amsEnd_within
          | apply sendCache_within | apply swapEnd_within | apply swp_within
          | apply vconnLost_within | apply ite_within | split | (intro _ _ _) | (intro _ _)
          | exact sub hM (by decide) | decide | dsimp only

theorem State.vconnSwapDone_all {pp : Nat} (s : State) (p : Port) (now : Bool) (hM : mm ||| 0x200000500E80000000000000140000 = mm) (hW : Within mm pp s00 s) :
    Within mm pp s00 (State.vconnSwapDone s p now) := by
  unfold State.vconnSwapDone
  try dsimp only
  repeat' with_reducible
    first | assumption | apply flag_within | apply event_all | apply amsEnd_all
          | apply sendCache_all | apply swapEnd_all | apply swp_all | apply vconnLost_all
          | apply ite_within | split | (intro _ _ _) | (intro _ _) | exact sub hM (by decide) | dsimp only

theorem State.newSourceDone_within (s : State) (p : Port) (hM : mm ||| 0x200000480003480000400000140000 = mm) (hW : Within mm p s00 s) :
    Within mm p s00 (State.newSourceDone s p) := by
  unfold State.newSourceDone
  try dsimp only
  repeat' with_reducible
    first | assumption | apply event_own | apply amsEnd_within | apply islandJoin_within
          | apply setInflight_within | apply swp_within | apply ite_within | split | (intro _ _ _)
          | (intro _ _) | exact sub hM (by decide) | decide | dsimp only

theorem State.newSourceDone_all {pp : Nat} (s : State) (p : Port) (hM : mm ||| 0x200000503480000000400000140000 = mm) (hW : Within mm pp s00 s) :
    Within mm pp s00 (State.newSourceDone s p) := by
  unfold State.newSourceDone
  try dsimp only
  repeat' with_reducible
    first | assumption | apply event_all | apply amsEnd_all | apply islandJoin_all
          | apply setInflight_all | apply swp_all | apply ite_within | split | (intro _ _ _) | (intro _ _)
          | exact sub hM (by decide) | dsimp only

theorem State.frsSourceDone_within (s : State) (p : Port) (hM : mm ||| 0x200000080003400000000000000000 = mm) (hW : Within mm p s00 s) :
    Within mm p s00 (State.frsSourceDone s p) := by
  unfold State.frsSourceDone
  try dsimp only
  repeat' with_reducible
    first | assumption | apply wr_own | apply busForm_within | apply swapEnd_within
          | apply swp_within | split | (intro _ _ _) | (intro _ _) | exact sub hM (by decide) | decide
          | dsimp only

theorem State.frsSourceDone_all {pp : Nat} (s : State) (p : Port) (hM : mm ||| 0x200000103400000000000000000000 = mm) (hW : Within mm pp s00 s) :
    Within mm pp s00 (State.frsSourceDone s p) := by
  unfold State.frsSourceDone
  try dsimp only
  repeat' with_reducible
    first | assumption | apply wr_within | apply busForm_all | apply swapEnd_all
          | apply swp_all | split | (intro _ _ _) | (intro _ _) | exact sub hM (by decide) | dsimp only

theorem State.frsSinkDone_within (s : State) (p : Port) (hM : mm ||| 0x200000180012E80000000000000000 = mm) (hW : Within mm p s00 s) :
    Within mm p s00 (State.frsSinkDone s p) := by
  unfold State.frsSinkDone
  try dsimp only
  repeat' with_reducible
    first | assumption | apply wr_own | apply becomeSource_within | apply send_within
          | apply swp_within | split | (intro _ _ _) | (intro _ _) | exact sub hM (by decide) | decide
          | dsimp only

theorem State.frsSinkDone_all {pp : Nat} (s : State) (p : Port) (hM : mm ||| 0x200000112E80000000000000000000 = mm) (hW : Within mm pp s00 s) :
    Within mm pp s00 (State.frsSinkDone s p) := by
  unfold State.frsSinkDone
  try dsimp only
  repeat' with_reducible
    first | assumption | apply wr_within | apply becomeSource_all | apply send_all
          | apply swp_all | split | (intro _ _ _) | (intro _ _) | exact sub hM (by decide) | dsimp only

theorem State.frsNoAccept_within (s : State) (p : Port) (hM : mm ||| 0xC00120000048001B4C0000000038140000 = mm) (hW : Within mm p s00 s) :
    Within mm p s00 (State.frsNoAccept s p) := by
  unfold State.frsNoAccept
  try dsimp only
  repeat' with_reducible
    first | assumption | apply event_own | apply errorRecovery_within | apply pe_within | split
          | (intro _ _ _) | (intro _ _) | exact sub hM (by decide) | decide | dsimp only

theorem State.frsNoAccept_all {pp : Nat} (s : State) (p : Port) (hM : mm ||| 0xC00120000051B4C0000000000038140000 = mm) (hW : Within mm pp s00 s) :
    Within mm pp s00 (State.frsNoAccept s p) := by
  unfold State.frsNoAccept
  try dsimp only
  repeat' with_reducible
    first | assumption | apply event_all | apply errorRecovery_all | apply pe_all | split
          | (intro _ _ _) | (intro _ _) | exact sub hM (by decide) | dsimp only

theorem State.protocolError_within (s : State) (p : Port) (hM : mm ||| 0xC001000000580000E80000000038140000 = mm) (hW : Within mm p s00 s) :
    Within mm p s00 (State.protocolError s p) := by
  unfold State.protocolError
  try dsimp only
  repeat' with_reducible
    first | assumption | apply sendHardReset_within | apply sendSoftReset_within | apply ite_within
          | split | exact sub hM (by decide) | dsimp only

theorem State.protocolError_all {pp : Nat} (s : State) (p : Port) (hM : mm ||| 0xC001000000500E80000000000038140000 = mm) (hW : Within mm pp s00 s) :
    Within mm pp s00 (State.protocolError s p) := by
  unfold State.protocolError
  try dsimp only
  repeat' with_reducible
    first | assumption | apply sendHardReset_all | apply sendSoftReset_all | apply ite_within | split
          | exact sub hM (by decide) | dsimp only

theorem State.txFailed_within (s : State) (p : Port) (f : Frame) (hM : mm ||| 0xC00120000058001BFC0000400038140000 = mm) (hW : Within mm p s00 s) :
    Within mm p s00 (State.txFailed s p f) := by
  unfold State.txFailed
  try dsimp only
  repeat' with_reducible
    first | assumption | apply wr_own | apply amsEnd_within | apply discUnanswered_within
          | apply endVdm_within | apply frsNoAccept_within | apply islandJoin_within
          | apply pe_within | apply sendAms_within | apply sendHardReset_within
          | apply sendSoftReset_within | apply setInflight_within | apply swapEnd_within
          | apply swapRejected_within | apply pe_all | apply ite_within | split | (intro _ _ _)
          | (intro _ _) | exact sub hM (by decide) | decide | dsimp only

theorem State.txFailed_all {pp : Nat} (s : State) (p : Port) (f : Frame) (hM : mm ||| 0xC00120000051BFC0000000400038140000 = mm) (hW : Within mm pp s00 s) :
    Within mm pp s00 (State.txFailed s p f) := by
  unfold State.txFailed
  try dsimp only
  repeat' with_reducible
    first | assumption | apply wr_within | apply amsEnd_all | apply discUnanswered_all
          | apply endVdm_all | apply frsNoAccept_all | apply islandJoin_all | apply pe_all
          | apply sendAms_all | apply sendHardReset_all | apply sendSoftReset_all
          | apply setInflight_all | apply swapEnd_all | apply swapRejected_all | apply ite_within
          | split | (intro _ _ _) | (intro _ _) | exact sub hM (by decide) | dsimp only

theorem State.chunkFailed_within (s : State) (p : Port) (hM : mm ||| 0xC00120000058001BFC0000400038140000 = mm) (hW : Within mm p s00 s) :
    Within mm p s00 (State.chunkFailed s p) := by
  unfold State.chunkFailed
  try dsimp only
  repeat' with_reducible
    first | assumption | apply phy_within | apply txFailed_within | split | (intro _ _ _) | (intro _ _)
          | exact sub hM (by decide) | dsimp only

theorem State.chunkFailed_all {pp : Nat} (s : State) (p : Port) (hM : mm ||| 0xC00120000051BFC0000000400038140000 = mm) (hW : Within mm pp s00 s) :
    Within mm pp s00 (State.chunkFailed s p) := by
  unfold State.chunkFailed
  try dsimp only
  repeat' with_reducible
    first | assumption | apply phy_all | apply txFailed_all | split | (intro _ _ _) | (intro _ _)
          | exact sub hM (by decide) | dsimp only

theorem State.softResetDone_within (s : State) (p : Port) (hM : mm ||| 0x200000180000E80000000000000000 = mm) (hW : Within mm p s00 s) :
    Within mm p s00 (State.softResetDone s p) := by
  unfold State.softResetDone
  try dsimp only
  repeat' with_reducible
    first | assumption | apply wr_own | apply pe_within | apply sendCaps_within | apply ite_within
          | split | (intro _ _ _) | (intro _ _) | exact sub hM (by decide) | decide | dsimp only

theorem State.softResetDone_all {pp : Nat} (s : State) (p : Port) (hM : mm ||| 0x200000100E80000000000000000000 = mm) (hW : Within mm pp s00 s) :
    Within mm pp s00 (State.softResetDone s p) := by
  unfold State.softResetDone
  try dsimp only
  repeat' with_reducible
    first | assumption | apply wr_within | apply pe_all | apply sendCaps_all | apply ite_within
          | split | (intro _ _ _) | (intro _ _) | exact sub hM (by decide) | dsimp only

theorem State.onAccept_within (s : State) (p : Port) (hM : mm ||| 0xC001200000580000FC0000000038140000 = mm) (hW : Within mm p s00 s) :
    Within mm p s00 (State.onAccept s p) := by
  unfold State.onAccept
  try dsimp only
  repeat' with_reducible
    first | assumption | apply bump_own | apply flag_own | apply irq_own
          | apply drSwapDone_within | apply pe_within | apply protocolError_within
          | apply sendSoftReset_within | apply softResetDone_within | apply swp_within
          | (refine State.vconnReserve_within ?_ ?_ ‹_›) | apply vconnSwapAccepted_within | apply ite_within
          | split | (intro _ _ _) | (intro _ _) | exact sub hM (by decide) | decide | dsimp only

theorem State.onAccept_all {pp : Nat} (s : State) (p : Port) (hM : mm ||| 0xC001200000500FC0000000000038140000 = mm) (hW : Within mm pp s00 s) :
    Within mm pp s00 (State.onAccept s p) := by
  unfold State.onAccept
  try dsimp only
  repeat' with_reducible
    first | assumption | apply bump_within | apply flag_within | apply irq_within
          | apply drSwapDone_all | apply pe_all | apply protocolError_all
          | apply sendSoftReset_all | apply softResetDone_all | apply swp_all
          | (refine State.vconnReserve_all ?_ ?_ ‹_›) | apply vconnSwapAccepted_all | apply ite_within | split
          | (intro _ _ _) | (intro _ _) | exact sub hM (by decide) | dsimp only

theorem State.noSinkCap_within (s : State) (p : Port) (hM : mm ||| 0x200000080000400000000000000000 = mm) (hW : Within mm p s00 s) :
    Within mm p s00 (State.noSinkCap s p) := by
  unfold State.noSinkCap
  try dsimp only
  repeat' with_reducible
    first | assumption | apply wr_own | apply sendCache_within | apply swp_within | split
          | (intro _ _ _) | (intro _ _) | exact sub hM (by decide) | decide | dsimp only

theorem State.noSinkCap_all {pp : Nat} (s : State) (p : Port) (hM : mm ||| 0x200000100400000000000000000000 = mm) (hW : Within mm pp s00 s) :
    Within mm pp s00 (State.noSinkCap s p) := by
  unfold State.noSinkCap
  try dsimp only
  repeat' with_reducible
    first | assumption | apply wr_within | apply sendCache_all | apply swp_all | split
          | (intro _ _ _) | (intro _ _) | exact sub hM (by decide) | dsimp only

theorem State.onRefusal_within (s : State) (p : Port) (m : PdMsg) (hM : mm ||| 0xC00120000058001BEC0000000038140000 = mm) (hW : Within mm p s00 s) :
    Within mm p s00 (State.onRefusal s p m) := by
  unfold State.onRefusal
  try dsimp only
  repeat' with_reducible
    first | assumption | apply irq_own | apply wr_own | apply amsEnd_within
          | apply frsNoAccept_within | apply noSinkCap_within | apply pe_within
          | apply protocolError_within | apply swapDeferred_within | apply swapRejected_within
          | apply ite_within | split | (intro _ _ _) | (intro _ _) | exact sub hM (by decide) | decide | dsimp only

theorem State.onRefusal_all {pp : Nat} (s : State) (p : Port) (m : PdMsg) (hM : mm ||| 0xC00120000051BEC0000000000038140000 = mm) (hW : Within mm pp s00 s) :
    Within mm pp s00 (State.onRefusal s p m) := by
  unfold State.onRefusal
  try dsimp only
  repeat' with_reducible
    first | assumption | apply irq_within | apply wr_within | apply amsEnd_all
          | apply frsNoAccept_all | apply noSinkCap_all | apply pe_all
          | apply protocolError_all | apply swapDeferred_all | apply swapRejected_all
          | apply ite_within | split | (intro _ _ _) | (intro _ _) | exact sub hM (by decide) | dsimp only

theorem State.onPsRdy_within (s : State) (p : Port) (hM : mm ||| 0xC001200000580013E80000000038140000 = mm) (hW : Within mm p s00 s) :
    Within mm p s00 (State.onPsRdy s p) := by
  unfold State.onPsRdy
  try dsimp only
  repeat' with_reducible
    first | assumption | apply frsSinkDone_within | apply frsSourceDone_within
          | apply protocolError_within | apply vconnSwapDone_within | split | exact sub hM (by decide)
          | dsimp only

theorem State.onPsRdy_all {pp : Nat} (s : State) (p : Port) (hM : mm ||| 0xC001200000513E80000000000038140000 = mm) (hW : Within mm pp s00 s) :
    Within mm pp s00 (State.onPsRdy s p) := by
  unfold State.onPsRdy
  try dsimp only
  repeat' with_reducible
    first | assumption | apply frsSinkDone_all | apply frsSourceDone_all | apply protocolError_all
          | apply vconnSwapDone_all | split | exact sub hM (by decide) | dsimp only

theorem State.onSinkCaps_within (s : State) (p : Port) (b : Body) (hM : mm ||| 0xC001200000580000E80000000038140000 = mm) (hW : Within mm p s00 s) :
    Within mm p s00 (State.onSinkCaps s p b) := by
  unfold State.onSinkCaps
  try dsimp only
  repeat' with_reducible
    first | assumption | apply wr_own | apply amsEnd_within | apply noSinkCap_within
          | apply pe_within | apply protocolError_within | apply sendCache_within
          | apply swp_within | apply ite_within | split | (intro _ _ _) | (intro _ _) | exact sub hM (by decide)
          | decide | dsimp only

theorem State.onSinkCaps_all {pp : Nat} (s : State) (p : Port) (b : Body) (hM : mm ||| 0xC001200000500E80000000000038140000 = mm) (hW : Within mm pp s00 s) :
    Within mm pp s00 (State.onSinkCaps s p b) := by
  unfold State.onSinkCaps
  try dsimp only
  repeat' with_reducible
    first | assumption | apply wr_within | apply amsEnd_all | apply noSinkCap_all
          | apply pe_all | apply protocolError_all | apply sendCache_all | apply swp_all
          | apply ite_within | split | (intro _ _ _) | (intro _ _) | exact sub hM (by decide) | dsimp only

theorem State.onVdm_within (s : State) (p : Port) (f : Frame) (hM : mm ||| 0xC001000000580000E80000000038140000 = mm) (hW : Within mm p s00 s) :
    Within mm p s00 (State.onVdm s p f) := by
  unfold State.onVdm
  try dsimp only
  repeat' with_reducible
    first | assumption | apply amsEnd_within | apply endVdm_within | apply protocolError_within
          | apply ite_within | split | (intro _ _ _) | (intro _ _) | exact sub hM (by decide) | dsimp only

theorem State.onVdm_all {pp : Nat} (s : State) (p : Port) (f : Frame) (hM : mm ||| 0xC001000000500E80000000000038140000 = mm) (hW : Within mm pp s00 s) :
    Within mm pp s00 (State.onVdm s p f) := by
  unfold State.onVdm
  try dsimp only
  repeat' with_reducible
    first | assumption | apply amsEnd_all | apply endVdm_all | apply protocolError_all
          | apply ite_within | split | (intro _ _ _) | (intro _ _) | exact sub hM (by decide) | dsimp only

theorem State.onEprAnswer_within (s : State) (p : Port) (a : EprAction) (hM : mm ||| 0xC001200000580000E80000000038140000 = mm) (hW : Within mm p s00 s) :
    Within mm p s00 (State.onEprAnswer s p a) := by
  unfold State.onEprAnswer
  try dsimp only
  repeat' with_reducible
    first | assumption | apply flag_own | apply wr_own | apply amsEnd_within | apply pe_within
          | apply protocolError_within | apply sendCache_within | apply ite_within | split | (intro _ _ _)
          | (intro _ _) | exact sub hM (by decide) | decide | dsimp only

theorem State.onEprAnswer_all {pp : Nat} (s : State) (p : Port) (a : EprAction) (hM : mm ||| 0xC001200000500E80000000000038140000 = mm) (hW : Within mm pp s00 s) :
    Within mm pp s00 (State.onEprAnswer s p a) := by
  unfold State.onEprAnswer
  try dsimp only
  repeat' with_reducible
    first | assumption | apply flag_within | apply wr_within | apply amsEnd_all | apply pe_all
          | apply protocolError_all | apply sendCache_all | apply ite_within | split | (intro _ _ _)
          | (intro _ _) | exact sub hM (by decide) | dsimp only

theorem State.onBist_within (s : State) (p : Port) (hM : mm ||| 0x180000E80000000000000000 = mm) (hW : Within mm p s00 s) :
    Within mm p s00 (State.onBist s p) := by
  unfold State.onBist
  try dsimp only
  repeat' with_reducible
    first | assumption | apply refuseMsg_within | apply ite_within | split | exact sub hM (by decide)
          | dsimp only

theorem State.onBist_all {pp : Nat} (s : State) (p : Port) (hM : mm ||| 0x100E80000000000000000000 = mm) (hW : Within mm pp s00 s) :
    Within mm pp s00 (State.onBist s p) := by
  unfold State.onBist
  try dsimp only
  repeat' with_reducible
    first | assumption | apply refuseMsg_all | apply ite_within | split | exact sub hM (by decide) | dsimp only

theorem State.twillHandles_within (s0 : State) (p : Port) (f : Frame) (hM : mm ||| 0xC00120000058001BFC0000400038140000 = mm) (hW : Within mm p s00 s0) :
    Within mm p s00 (State.twillHandles s0 p f) := by
  unfold State.twillHandles
  try dsimp only
  repeat' with_reducible
    first | assumption | apply chunkFailed_within | apply onAccept_within | apply onBist_within
          | apply onEprAnswer_within | apply onPsRdy_within | apply onRefusal_within
          | apply onSinkCaps_within | apply onVdm_within | apply pe_within
          | apply protocolError_within | apply sendHardReset_within | apply ite_within | split
          | (intro _ _ _) | (intro _ _) | exact sub hM (by decide) | dsimp only

theorem State.twillHandles_all {pp : Nat} (s0 : State) (p : Port) (f : Frame) (hM : mm ||| 0xC00120000051BFC0000000400038140000 = mm) (hW : Within mm pp s00 s0) :
    Within mm pp s00 (State.twillHandles s0 p f) := by
  unfold State.twillHandles
  try dsimp only
  repeat' with_reducible
    first | assumption | apply chunkFailed_all | apply onAccept_all | apply onBist_all
          | apply onEprAnswer_all | apply onPsRdy_all | apply onRefusal_all
          | apply onSinkCaps_all | apply onVdm_all | apply pe_all | apply protocolError_all
          | apply sendHardReset_all | apply ite_within | split | (intro _ _ _) | (intro _ _)
          | exact sub hM (by decide) | dsimp only

theorem State.drainRx_within (s : State) (p : Port) (n : Nat) (hM : mm ||| 0xC00120000058001BFC0000400038140000 = mm) (hW : Within mm p s00 s) :
    Within mm p s00 (State.drainRx s p n) := by
  induction n generalizing s with
  | zero => exact hW
  | succ n ih =>
    unfold State.drainRx
    split
    · split
      · exact hW
      · exact ih _ (State.twillHandles_within _ _ _ (sub hM (by decide)) (State.take_within _ _ _ (sub hM (by decide)) hW))
    · exact hW
theorem State.drainRx_all {pp : Nat} (s : State) (p : Port) (n : Nat) (hM : mm ||| 0xC00120000051BFC0000000400038140000 = mm) (hW : Within mm pp s00 s) :
    Within mm pp s00 (State.drainRx s p n) := by
  induction n generalizing s with
  | zero => exact hW
  | succ n ih =>
    unfold State.drainRx
    split
    · split
      · exact hW
      · exact ih _ (State.twillHandles_all _ _ _ (sub hM (by decide)) (State.take_all _ _ _ (sub hM (by decide)) hW))
    · exact hW

theorem State.amsSettle_within (s : State) (p : Port) (hM : mm ||| 0x200000180000E80000000000000000 = mm) (hW : Within mm p s00 s) :
    Within mm p s00 (State.amsSettle s p) := by
  unfold State.amsSettle
  try dsimp only
  repeat' with_reducible
    first | assumption | apply amsEnd_within | apply askSinkCap_within | apply readvIfWanted_within
          | apply ite_within | split | exact sub hM (by decide) | dsimp only

theorem State.amsSettle_all {pp : Nat} (s : State) (p : Port) (hM : mm ||| 0x200000100E80000000000000000000 = mm) (hW : Within mm pp s00 s) :
    Within mm pp s00 (State.amsSettle s p) := by
  unfold State.amsSettle
  try dsimp only
  repeat' with_reducible
    first | assumption | apply amsEnd_all | apply askSinkCap_all | apply readvIfWanted_all
          | apply ite_within | split | exact sub hM (by decide) | dsimp only

theorem State.drain_within (s : State) (p : Port) (hM : mm ||| 0xC00120000058001BFC0000400038140000 = mm) (hW : Within mm p s00 s) :
    Within mm p s00 (State.drain s p) := by
  unfold State.drain
  try dsimp only
  repeat' with_reducible
    first | assumption | apply amsSettle_within | apply drainRx_within | exact sub hM (by decide)
          | dsimp only

theorem State.drain_all {pp : Nat} (s : State) (p : Port) (hM : mm ||| 0xC00120000051BFC0000000400038140000 = mm) (hW : Within mm pp s00 s) :
    Within mm pp s00 (State.drain s p) := by
  unfold State.drain
  try dsimp only
  repeat' with_reducible
    first | assumption | apply amsSettle_all | apply drainRx_all | exact sub hM (by decide) | dsimp only

theorem State.onMsg_within (s : State) (p : Port) (m : PdMsg) (f : State → State) (h_f : ∀ t, Within mm p s00 t → Within mm p s00 (f t)) (hM : mm ||| 0xC00120000058001BFC0000400038140000 = mm) (hW : Within mm p s00 s) :
    Within mm p s00 (State.onMsg s p m f) := by
  unfold State.onMsg
  try dsimp only
  repeat' with_reducible
    first | assumption | apply h_f | apply chunkFailed_within | apply drain_within
          | apply sendHardReset_within | apply take_within | apply ite_within | split
          | exact sub hM (by decide) | dsimp only

theorem State.onMsg_all {pp : Nat} (s : State) (p : Port) (m : PdMsg) (f : State → State) (h_f : ∀ t, Within mm pp s00 t → Within mm pp s00 (f t)) (hM : mm ||| 0xC00120000051BFC0000000400038140000 = mm) (hW : Within mm pp s00 s) :
    Within mm pp s00 (State.onMsg s p m f) := by
  unfold State.onMsg
  try dsimp only
  repeat' with_reducible
    first | assumption | apply h_f | apply chunkFailed_all | apply drain_all
          | apply sendHardReset_all | apply take_all | apply ite_within | split | exact sub hM (by decide)
          | dsimp only

/-! ## Machine/Attach.lean -/

theorem State.setLevels_within (s : State) (p : Port) (mv1 mv2 : Nat) (hM : mm ||| 0x80000080000000000000000 = mm) (hW : Within mm p s00 s) :
    Within mm p s00 (State.setLevels s p mv1 mv2) := by
  unfold State.setLevels
  try dsimp only
  repeat' with_reducible
    first | assumption | apply wr_own | apply cc_within | split | (intro _ _ _) | (intro _ _)
          | exact sub hM (by decide) | decide | dsimp only

theorem State.setLevels_all {pp : Nat} (s : State) (p : Port) (mv1 mv2 : Nat) (hM : mm ||| 0x100080000000000000000000 = mm) (hW : Within mm pp s00 s) :
    Within mm pp s00 (State.setLevels s p mv1 mv2) := by
  unfold State.setLevels
  try dsimp only
  repeat' with_reducible
    first | assumption | apply wr_within | apply cc_all | split | (intro _ _ _) | (intro _ _)
          | exact sub hM (by decide) | dsimp only

theorem execRdDetected_within (p : Port) (mv1 mv2 : Nat) (s : State) :
    ∀ u, execRdDetected p mv1 mv2 s = .next u → Within 0x80000080000000000000000 p s u := by
  intro u hu
  cases hu
  have hM : 0x80000080000000000000000 ||| 0x80000080000000000000000 = 0x80000080000000000000000 := rfl
  have hW := Within.refl 0x80000080000000000000000 p s
  try dsimp only
  repeat' with_reducible
    first | assumption | apply wr_own | apply cc_within | apply setLevels_within | apply ite_within
          | split | (intro _ _ _) | (intro _ _) | exact sub hM (by decide) | decide | dsimp only

theorem execRpDetected_within (p : Port) (mv1 mv2 : Nat) (s : State) :
    ∀ u, execRpDetected p mv1 mv2 s = .next u → Within 0x80000080000000000000000 p s u := by
  intro u hu
  cases hu
  have hM : 0x80000080000000000000000 ||| 0x80000080000000000000000 = 0x80000080000000000000000 := rfl
  have hW := Within.refl 0x80000080000000000000000 p s
  try dsimp only
  repeat' with_reducible
    first | assumption | apply wr_own | apply cc_within | apply setLevels_within | apply ite_within
          | split | (intro _ _ _) | (intro _ _) | exact sub hM (by decide) | decide | dsimp only

theorem State.attach_within (s : State) (p : Port) (state role : Nat) (hM : mm ||| 0x2000000800025C0000000000000000 = mm) (hW : Within mm p s00 s) :
    Within mm p s00 (State.attach s p state role) := by
  unfold State.attach
  try dsimp only
  repeat' with_reducible
    first | assumption | apply bump_own | apply flag_own | apply irq_own | apply wr_own
          | apply cc_within | apply seedAtAttach_within | apply sendCache_within | apply ite_within
          | split | (intro _ _ _) | (intro _ _) | exact sub hM (by decide) | decide | dsimp only

theorem State.attach_all {pp : Nat} (s : State) (p : Port) (state role : Nat) (hM : mm ||| 0x2000001025C0000000000000000000 = mm) (hW : Within mm pp s00 s) :
    Within mm pp s00 (State.attach s p state role) := by
  unfold State.attach
  try dsimp only
  repeat' with_reducible
    first | assumption | apply bump_within | apply flag_within | apply irq_within
          | apply wr_within | apply cc_all | apply seedAtAttach_all | apply sendCache_all
          | apply ite_within | split | (intro _ _ _) | (intro _ _) | exact sub hM (by decide) | dsimp only

theorem State.attachSrc_within (s : State) (p : Port) (hM : mm ||| 0x2000000800025C0000000000000000 = mm) (hW : Within mm p s00 s) :
    Within mm p s00 (State.attachSrc s p) := by
  unfold State.attachSrc
  try dsimp only
  repeat' with_reducible
    first | assumption | apply attach_within | apply vconnClaim_within | exact sub hM (by decide)
          | dsimp only

theorem State.attachSrc_all {pp : Nat} (s : State) (p : Port) (hM : mm ||| 0x2000001025C0000000000000000000 = mm) (hW : Within mm pp s00 s) :
    Within mm pp s00 (State.attachSrc s p) := by
  unfold State.attachSrc
  try dsimp only
  repeat' with_reducible
    first | assumption | apply attach_all | apply vconnClaim_all | exact sub hM (by decide) | dsimp only

theorem State.attachSnk_within (s : State) (p : Port) (hM : mm ||| 0x2000000800025C0000000000000000 = mm) (hW : Within mm p s00 s) :
    Within mm p s00 (State.attachSnk s p) := by
  unfold State.attachSnk
  try dsimp only
  repeat' with_reducible
    first | assumption | apply wr_own | apply adopt_within | apply attach_within | apply ite_within
          | split | exact sub hM (by decide) | decide | dsimp only

theorem State.attachSnk_all {pp : Nat} (s : State) (p : Port) (hM : mm ||| 0x2000001025C0000000000000000000 = mm) (hW : Within mm pp s00 s) :
    Within mm pp s00 (State.attachSnk s p) := by
  unfold State.attachSnk
  try dsimp only
  repeat' with_reducible
    first | assumption | apply wr_within | apply adopt_all | apply attach_all | apply ite_within
          | split | exact sub hM (by decide) | dsimp only

theorem execTCcdebounceExpiry_within (p : Port) (vbusMv : Nat) (s : State) :
    ∀ u, execTCcdebounceExpiry p vbusMv s = .next u → Within 0x2000000800025C0000000000000000 p s u := by
  intro u hu
  cases hu
  have hM : 0x2000000800025C0000000000000000 ||| 0x2000000800025C0000000000000000 = 0x2000000800025C0000000000000000 := rfl
  have hW := Within.refl 0x2000000800025C0000000000000000 p s
  try dsimp only
  repeat' with_reducible
    first | assumption | apply wr_own | apply attachSnk_within | apply attachSrc_within
          | apply present_within | apply ite_within | split | exact sub hM (by decide) | decide | dsimp only

theorem execTPddebounceExpiry_within (p : Port) (s : State) :
    ∀ u, execTPddebounceExpiry p s = .next u → Within 0xC00120000058001B5C0000000038140000 p s u := by
  intro u hu
  cases hu
  have hM : 0xC00120000058001B5C0000000038140000 ||| 0xC00120000058001B5C0000000038140000 = 0xC00120000058001B5C0000000038140000 := rfl
  have hW := Within.refl 0xC00120000058001B5C0000000038140000 p s
  try dsimp only
  repeat' with_reducible
    first | assumption | apply detach_within | apply enterUnattachedAs_within | apply ite_within | split
          | exact sub hM (by decide) | dsimp only

theorem execTDrpToggle_within (p : Port) (s : State) :
    ∀ u, execTDrpToggle p s = .next u → Within 0x80000080000000000000000 p s u := by
  intro u hu
  cases hu
  have hM : 0x80000080000000000000000 ||| 0x80000080000000000000000 = 0x80000080000000000000000 := rfl
  have hW := Within.refl 0x80000080000000000000000 p s
  try dsimp only
  repeat' with_reducible
    first | assumption | apply enterUnattachedAs_within | apply ite_within | split | exact sub hM (by decide)
          | dsimp only

theorem execTryTimerExpiry_within (p : Port) (t : TryTimer) (vbusMv : Nat) (s : State) :
    ∀ u, execTryTimerExpiry p t vbusMv s = .next u → Within 0x2000000800025C0000000000000000 p s u := by
  intro u hu
  cases hu
  have hM : 0x2000000800025C0000000000000000 ||| 0x2000000800025C0000000000000000 = 0x2000000800025C0000000000000000 := rfl
  have hW := Within.refl 0x2000000800025C0000000000000000 p s
  try dsimp only
  repeat' with_reducible
    first | assumption | apply wr_own | apply attachSnk_within | apply attachSrc_within
          | apply enterUnattachedAs_within | apply present_within | apply ite_within | split
          | exact sub hM (by decide) | decide | dsimp only

theorem execTErrorRecoveryExpiry_within (p : Port) (s : State) :
    ∀ u, execTErrorRecoveryExpiry p s = .next u → Within 0x80000080000000000000000 p s u := by
  intro u hu
  cases hu
  have hM : 0x80000080000000000000000 ||| 0x80000080000000000000000 = 0x80000080000000000000000 := rfl
  have hW := Within.refl 0x80000080000000000000000 p s
  try dsimp only
  repeat' with_reducible
    first | assumption | apply enterUnattached_within | apply ite_within | split | exact sub hM (by decide)
          | dsimp only

theorem execRpValueChange_within (p : Port) (mv : Nat) (s : State) :
    ∀ u, execRpValueChange p mv s = .next u → Within 0x24C0000000000000000 p s u := by
  intro u hu
  cases hu
  have hM : 0x24C0000000000000000 ||| 0x24C0000000000000000 = 0x24C0000000000000000 := rfl
  have hW := Within.refl 0x24C0000000000000000 p s
  try dsimp only
  repeat' with_reducible
    first | assumption | apply flag_own | apply irq_own | apply wr_own | apply ite_within | split
          | exact sub hM (by decide) | decide | dsimp only

theorem State.ccOpen_within (s : State) (p : Port) (v : Bool) (hM : mm ||| 0xC0000000000000000 = mm) (hW : Within mm p s00 s) :
    Within mm p s00 (State.ccOpen s p v) := by
  unfold State.ccOpen
  try dsimp only
  repeat' with_reducible
    first | assumption | apply flag_own | apply level_own | exact sub hM (by decide) | decide | dsimp only

theorem State.ccOpen_all {pp : Nat} (s : State) (p : Port) (v : Bool) (hM : mm ||| 0xC0000000000000000000 = mm) (hW : Within mm pp s00 s) :
    Within mm pp s00 (State.ccOpen s p v) := by
  unfold State.ccOpen
  try dsimp only
  repeat' with_reducible
    first | assumption | apply flag_within | apply level_within | exact sub hM (by decide) | dsimp only

theorem execCcOpenQ_within (x : CcSeen) (s : State) :
    ∀ u, execCcOpenQ x s = .next u → Within 0x70C0000000000000000 x.port s u := by
  intro u hu
  cases hu
  have hM : 0x70C0000000000000000 ||| 0x70C0000000000000000 = 0x70C0000000000000000 := rfl
  have hW := Within.refl 0x70C0000000000000000 x.port s
  try dsimp only
  repeat' with_reducible
    first | assumption | apply bump_own | apply flag_own | apply irq_own | apply ccOpen_within
          | apply ite_within | split | exact sub hM (by decide) | decide | dsimp only

theorem execCcOpenQRelease_within (p : Port) (s : State) :
    ∀ u, execCcOpenQRelease p s = .next u → Within 0x180002EC0000400000000000 p s u := by
  intro u hu
  cases hu
  have hM : 0x180002EC0000400000000000 ||| 0x180002EC0000400000000000 = 0x180002EC0000400000000000 := rfl
  have hW := Within.refl 0x180002EC0000400000000000 p s
  try dsimp only
  repeat' with_reducible
    first | assumption | apply flag_own | apply ccOpen_within | apply sendPsRdy_within
          | apply ite_within | split | exact sub hM (by decide) | decide | dsimp only

theorem execCcGlitch_within (x : CcSeen) (s : State) :
    ∀ u, execCcGlitch x s = .next u → Within 0x100000000000000000 x.port s u := by
  intro u hu
  cases hu
  have hM : 0x100000000000000000 ||| 0x100000000000000000 = 0x100000000000000000 := rfl
  have hW := Within.refl 0x100000000000000000 x.port s
  try dsimp only
  repeat' with_reducible
    first | assumption | apply bump_own | apply ite_within | split | exact sub hM (by decide) | decide
          | dsimp only

theorem execFastDetachOpening_within (p : Port) (s : State) :
    ∀ u, execFastDetachOpening p s = .next u → Within 0x8001A180000000000000000 p s u := by
  intro u hu
  cases hu
  have hM : 0x8001A180000000000000000 ||| 0x8001A180000000000000000 = 0x8001A180000000000000000 := rfl
  have hW := Within.refl 0x8001A180000000000000000 p s
  try dsimp only
  repeat' with_reducible
    first | assumption | apply bump_own | apply flag_own | apply wr_own | apply cc_within
          | apply openPlanned_within | apply swp_within | apply vconnOff_within | apply ite_within
          | split | (intro _ _ _) | (intro _ _) | exact sub hM (by decide) | decide | dsimp only

theorem execSinkCcOpen_within (p : Port) (s : State) :
    ∀ u, execSinkCcOpen p s = .next u → Within 0x20C0000000000000000 p s u := by
  intro u hu
  cases hu
  have hM : 0x20C0000000000000000 ||| 0x20C0000000000000000 = 0x20C0000000000000000 := rfl
  have hW := Within.refl 0x20C0000000000000000 p s
  try dsimp only
  repeat' with_reducible
    first | assumption | apply wr_own | apply ccOpen_within | apply ite_within | split
          | exact sub hM (by decide) | decide | dsimp only

theorem execSinkVbusLoss_within (p : Port) (s : State) :
    ∀ u, execSinkVbusLoss p s = .next u → Within 0xC00120000058001B5C0000000038140000 p s u := by
  intro u hu
  cases hu
  have hM : 0xC00120000058001B5C0000000038140000 ||| 0xC00120000058001B5C0000000038140000 = 0xC00120000058001B5C0000000038140000 := rfl
  have hW := Within.refl 0xC00120000058001B5C0000000038140000 p s
  try dsimp only
  repeat' with_reducible
    first | assumption | apply detach_within | apply ite_within | split | exact sub hM (by decide) | dsimp only

theorem execSinkVbusReturn_within (p : Port) (vbusMv : Nat) (s : State) :
    ∀ u, execSinkVbusReturn p vbusMv s = .next u → Within 0xC00120000058001B5C0000000038140000 p s u := by
  intro u hu
  cases hu
  have hM : 0xC00120000058001B5C0000000038140000 ||| 0xC00120000058001B5C0000000038140000 = 0xC00120000058001B5C0000000038140000 := rfl
  have hW := Within.refl 0xC00120000058001B5C0000000038140000 p s
  try dsimp only
  repeat' with_reducible
    first | assumption | apply wr_own | apply detach_within | apply pe_within | apply ite_within
          | split | (intro _ _ _) | (intro _ _) | exact sub hM (by decide) | decide | dsimp only

theorem execSinkHardResetTimeout_within (p : Port) (s : State) :
    ∀ u, execSinkHardResetTimeout p s = .next u → Within 0xC00120000058001B5C0000000038140000 p s u := by
  intro u hu
  cases hu
  have hM : 0xC00120000058001B5C0000000038140000 ||| 0xC00120000058001B5C0000000038140000 = 0xC00120000058001B5C0000000038140000 := rfl
  have hW := Within.refl 0xC00120000058001B5C0000000038140000 p s
  try dsimp only
  repeat' with_reducible
    first | assumption | apply detach_within | apply ite_within | split | exact sub hM (by decide) | dsimp only

theorem execVconnOcp_within (p : Port) (s : State) :
    ∀ u, execVconnOcp p s = .next u → Within 0x200000180000FC0000000000000000 p s u := by
  intro u hu
  cases hu
  have hM : 0x200000180000FC0000000000000000 ||| 0x200000180000FC0000000000000000 = 0x200000180000FC0000000000000000 := rfl
  have hW := Within.refl 0x200000180000FC0000000000000000 p s
  try dsimp only
  repeat' with_reducible
    first | assumption | apply bump_own | apply flag_own | apply irq_own | apply cc_within
          | apply vconnLost_within | apply ite_within | split | (intro _ _ _) | (intro _ _)
          | exact sub hM (by decide) | decide | dsimp only

theorem execVconnReclose_within (p : Port) (s : State) :
    ∀ u, execVconnReclose p s = .next u → Within 0x2000000800005C0000000000000000 p s u := by
  intro u hu
  cases hu
  have hM : 0x2000000800005C0000000000000000 ||| 0x2000000800005C0000000000000000 = 0x2000000800005C0000000000000000 := rfl
  have hW := Within.refl 0x2000000800005C0000000000000000 p s
  try dsimp only
  repeat' with_reducible
    first | assumption | apply vconnClaim_within | apply ite_within | split | exact sub hM (by decide)
          | dsimp only

theorem execVconnRev_within (p : Port) (s : State) :
    ∀ u, execVconnRev p s = .next u → Within 0x200000180000EC0000000000000000 p s u := by
  intro u hu
  cases hu
  have hM : 0x200000180000EC0000000000000000 ||| 0x200000180000EC0000000000000000 = 0x200000180000EC0000000000000000 := rfl
  have hW := Within.refl 0x200000180000EC0000000000000000 p s
  try dsimp only
  repeat' with_reducible
    first | assumption | apply flag_own | apply irq_own | apply cc_within
          | apply vconnLost_within | apply ite_within | split | (intro _ _ _) | (intro _ _)
          | exact sub hM (by decide) | decide | dsimp only

theorem execVconnClaim_within (p : Port) (s : State) :
    ∀ u, execVconnClaim p s = .next u → Within 0x2000000800005C0000000000000000 p s u := by
  intro u hu
  cases hu
  have hM : 0x2000000800005C0000000000000000 ||| 0x2000000800005C0000000000000000 = 0x2000000800005C0000000000000000 := rfl
  have hW := Within.refl 0x2000000800005C0000000000000000 p s
  try dsimp only
  repeat' with_reducible
    first | assumption | apply vconnClaim_within | apply ite_within | split | exact sub hM (by decide)
          | dsimp only

theorem State.vconnForce_within (s : State) (p : Port) (v : Bool) (hM : mm ||| 0x200000180000E80000000000000000 = mm) (hW : Within mm p s00 s) :
    Within mm p s00 (State.vconnForce s p v) := by
  unfold State.vconnForce
  try dsimp only
  repeat' with_reducible
    first | assumption | apply flag_own | apply vconnLost_within | apply ite_within | split
          | exact sub hM (by decide) | decide | dsimp only

theorem State.vconnForce_all {pp : Nat} (s : State) (p : Port) (v : Bool) (hM : mm ||| 0x200000100E80000000000000000000 = mm) (hW : Within mm pp s00 s) :
    Within mm pp s00 (State.vconnForce s p v) := by
  unfold State.vconnForce
  try dsimp only
  repeat' with_reducible
    first | assumption | apply flag_within | apply vconnLost_all | apply ite_within | split
          | exact sub hM (by decide) | dsimp only

theorem State.vconnAllow_within (s : State) (p : Port) (v : Bool) (hM : mm ||| 0x200000180000E80000000000000000 = mm) (hW : Within mm p s00 s) :
    Within mm p s00 (State.vconnAllow s p v) := by
  unfold State.vconnAllow
  try dsimp only
  repeat' with_reducible
    first | assumption | apply flag_own | apply vconnLost_within | apply ite_within | split
          | exact sub hM (by decide) | decide | dsimp only

theorem State.vconnAllow_all {pp : Nat} (s : State) (p : Port) (v : Bool) (hM : mm ||| 0x200000100E80000000000000000000 = mm) (hW : Within mm pp s00 s) :
    Within mm pp s00 (State.vconnAllow s p v) := by
  unfold State.vconnAllow
  try dsimp only
  repeat' with_reducible
    first | assumption | apply flag_within | apply vconnLost_all | apply ite_within | split
          | exact sub hM (by decide) | dsimp only

theorem State.rpSel_within (s : State) (p : Port) (v : Nat) (hM : mm ||| 0x80002080000000000000000 = mm) (hW : Within mm p s00 s) :
    Within mm p s00 (State.rpSel s p v) := by
  unfold State.rpSel
  try dsimp only
  repeat' with_reducible
    first | assumption | apply wr_own | apply present_within | apply ite_within | split
          | exact sub hM (by decide) | decide | dsimp only

theorem State.rpSel_all {pp : Nat} (s : State) (p : Port) (v : Nat) (hM : mm ||| 0x102080000000000000000000 = mm) (hW : Within mm pp s00 s) :
    Within mm pp s00 (State.rpSel s p v) := by
  unfold State.rpSel
  try dsimp only
  repeat' with_reducible
    first | assumption | apply wr_within | apply present_all | apply ite_within | split
          | exact sub hM (by decide) | dsimp only

theorem execVconnForceOff_within (p : Port) (v : Bool) (s : State) :
    ∀ u, execVconnForceOff p v s = .next u → Within 0x200000180000E80000000000000000 p s u := by
  intro u hu
  cases hu
  have hM : 0x200000180000E80000000000000000 ||| 0x200000180000E80000000000000000 = 0x200000180000E80000000000000000 := rfl
  have hW := Within.refl 0x200000180000E80000000000000000 p s
  try dsimp only
  repeat' with_reducible
    first | assumption | apply vconnForce_within | exact sub hM (by decide) | dsimp only

theorem execVconnPinDischarged_within (x : VconnPin) (s : State) :
    ∀ u, execVconnPinDischarged x s = .next u → Within 0x180000E80000000000000000 x.port s u := by
  intro u hu
  cases hu
  have hM : 0x180000E80000000000000000 ||| 0x180000E80000000000000000 = 0x180000E80000000000000000 := rfl
  have hW := Within.refl 0x180000E80000000000000000 x.port s
  try dsimp only
  repeat' with_reducible
    first | assumption | apply cc_within | apply enterUnattached_within | apply vconnRisen_within
          | apply ite_within | split | (intro _ _ _) | (intro _ _) | exact sub hM (by decide) | dsimp only

theorem execCableDiscoveryAttempt_within (p : Port) (reply : Option CableReply) (s : State) :
    ∀ u, execCableDiscoveryAttempt p reply s = .next u → Within 0x200000580000FC0000000000140000 p s u := by
  intro u hu
  cases hu
  have hM : 0x200000580000FC0000000000140000 ||| 0x200000580000FC0000000000140000 = 0x200000580000FC0000000000140000 := rfl
  have hW := Within.refl 0x200000580000FC0000000000140000 p s
  try dsimp only
  repeat' with_reducible
    first | assumption | apply cableFound_within | apply discUnanswered_within
          | apply discoverCable_within | apply ite_within | split | exact sub hM (by decide) | dsimp only

theorem execCcOvp_within (p : Port) (ibusMa : Int) (vbusMv : Nat) (s : State) :
    ∀ u, execCcOvp p ibusMa vbusMv s = .next u → Within 0xC08120000048003F5D0000000038140000 p s u := by
  intro u hu
  cases hu
  have hM : 0xC08120000048003F5D0000000038140000 ||| 0xC08120000048003F5D0000000038140000 = 0xC08120000048003F5D0000000038140000 := rfl
  have hW := Within.refl 0xC08120000048003F5D0000000038140000 p s
  try dsimp only
  repeat' with_reducible
    first | assumption | apply bump_own | apply flag_own | apply irq_own | apply cc_within
          | apply present_within | apply trip_within | apply vconnOff_within | split | (intro _ _ _)
          | (intro _ _) | exact sub hM (by decide) | decide | dsimp only

theorem execCcOvpClear_within (p : Port) (cc1Mv cc2Mv : Nat) (s : State) :
    ∀ u, execCcOvpClear p cc1Mv cc2Mv s = .next u → Within 0x80000080000000000000000 p s u := by
  intro u hu
  cases hu
  have hM : 0x80000080000000000000000 ||| 0x80000080000000000000000 = 0x80000080000000000000000 := rfl
  have hW := Within.refl 0x80000080000000000000000 p s
  try dsimp only
  repeat' with_reducible
    first | assumption | apply flag_own | apply wr_own | apply cc_within | apply ite_within | split
          | (intro _ _ _) | (intro _ _) | exact sub hM (by decide) | decide | dsimp only

end Sys2Proof.Machine
end

