-- ==== Sys2Proof/Laws/FootLoop.lean ====
section
/-! SUPPORT. What the block's operations may change (Safety.lean says what `Within` is), one lemma for each: loop engines, sensing and the plausibility models.
`f_within` is for the command's own port, `f_all` for any port; each is proved from the lemmas of what its definition calls. -/

set_option linter.all false
set_option maxRecDepth 4000

namespace Sys2Proof.Machine
open State

variable {mm : Nat} {s00 : State}

/-! ## Machine/Loop.lean -/

theorem State.placeBurst_within (s : State) (p : Port) (hM : mm ||| 0x80000000000080000000000 = mm) (hW : Within mm p s00 s) :
    Within mm p s00 (State.placeBurst s p) := by
  unfold State.placeBurst
  try dsimp only
  repeat' with_reducible
    first | assumption | apply wr_own | apply loop_within | apply ite_within | apply getD_within | split
          | (intro _ _ _) | (intro _ _) | exact sub hM (by decide) | decide | dsimp only

theorem State.placeBurst_all {pp : Nat} (s : State) (p : Port) (hM : mm ||| 0x100000000000080000000000 = mm) (hW : Within mm pp s00 s) :
    Within mm pp s00 (State.placeBurst s p) := by
  unfold State.placeBurst
  try dsimp only
  repeat' with_reducible
    first | assumption | apply wr_within | apply loop_all | apply ite_within | apply getD_within | split
          | (intro _ _ _) | (intro _ _) | exact sub hM (by decide) | dsimp only

theorem State.rerate_within (s : State) (p : Port) (hM : mm ||| 0x80002000000000000000000 = mm) (hW : Within mm p s00 s) :
    Within mm p s00 (State.rerate s p) := by
  unfold State.rerate
  try dsimp only
  repeat' with_reducible
    first | assumption | apply wr_own | apply blank2ms_within | apply loop_within | apply ite_within
          | split | (intro _ _ _) | (intro _ _) | exact sub hM (by decide) | decide | dsimp only

theorem State.rerate_all {pp : Nat} (s : State) (p : Port) (hM : mm ||| 0x102000000000000000000000 = mm) (hW : Within mm pp s00 s) :
    Within mm pp s00 (State.rerate s p) := by
  unfold State.rerate
  try dsimp only
  repeat' with_reducible
    first | assumption | apply wr_within | apply blank2ms_all | apply loop_all | apply ite_within
          | split | (intro _ _ _) | (intro _ _) | exact sub hM (by decide) | dsimp only

theorem State.rateNow_within (s : State) (p : Port) (hM : mm ||| 0x80002000000000000000000 = mm) (hW : Within mm p s00 s) :
    Within mm p s00 (State.rateNow s p) := by
  unfold State.rateNow
  try dsimp only
  repeat' with_reducible
    first | assumption | apply rerate_within | apply ite_within | split | exact sub hM (by decide) | dsimp only

theorem State.rateNow_all {pp : Nat} (s : State) (p : Port) (hM : mm ||| 0x102000000000000000000000 = mm) (hW : Within mm pp s00 s) :
    Within mm pp s00 (State.rateNow s p) := by
  unfold State.rateNow
  try dsimp only
  repeat' with_reducible
    first | assumption | apply rerate_all | apply ite_within | split | exact sub hM (by decide) | dsimp only

theorem State.carryBy_within (s : State) (p : Port) (e : Nat) (hM : mm ||| 0x80002000000000000000000 = mm) (hW : Within mm p s00 s) :
    Within mm p s00 (State.carryBy s p e) := by
  unfold State.carryBy
  try dsimp only
  repeat' with_reducible
    first | assumption | apply wr_own | apply blank2ms_within | apply model_within
          | apply ite_within | split | (intro _ _ _) | (intro _ _) | exact sub hM (by decide) | decide | dsimp only

theorem State.carryBy_all {pp : Nat} (s : State) (p : Port) (e : Nat) (hM : mm ||| 0x102000000000000000000000 = mm) (hW : Within mm pp s00 s) :
    Within mm pp s00 (State.carryBy s p e) := by
  unfold State.carryBy
  try dsimp only
  repeat' with_reducible
    first | assumption | apply wr_within | apply blank2ms_all | apply model_all | apply ite_within
          | split | (intro _ _ _) | (intro _ _) | exact sub hM (by decide) | dsimp only

theorem State.setCarriers_within {pp : Nat} (s : State) (lo hi : Nat) (hM : mm ||| 0x102000002000000000000000 = mm) (hW : Within mm pp s00 s) :
    Within mm pp s00 (State.setCarriers s lo hi) := by
  unfold State.setCarriers
  try dsimp only
  repeat' with_reducible
    first | assumption | apply flag_within | apply wr_within | apply forPorts_within
          | apply carryBy_all | apply rateNow_all | apply ite_within | split | (intro _ _ _) | (intro _ _)
          | exact sub hM (by decide) | dsimp only

theorem State.moveOuter_within {pp : Nat} (s : State) (hM : mm ||| 0x102000002000000000000000 = mm) (hW : Within mm pp s00 s) :
    Within mm pp s00 (State.moveOuter s) := by
  unfold State.moveOuter
  try dsimp only
  repeat' with_reducible
    first | assumption | apply flag_within | apply forPorts_within | apply carryBy_all
          | apply loop_all | apply rerate_all | apply ite_within | split | (intro _ _ _) | (intro _ _)
          | exact sub hM (by decide) | dsimp only

theorem State.handBack_within {pp : Nat} (s : State) (e : Fin 2) (hM : mm ||| 0x142000002000000000000000 = mm) (hW : Within mm pp s00 s) :
    Within mm pp s00 (State.handBack s e) := by
  unfold State.handBack
  try dsimp only
  repeat' with_reducible
    first | assumption | apply wr_any | apply moveOuter_within | apply ite_within | split
          | exact sub hM (by decide) | dsimp only

theorem engState_mask (e : Fin 2) (o : Bool) : fieldMask o (engState e) = if o then 0x2000000000000000 else 0x2000000000000000 := by
  unfold engState
  repeat' split
  all_goals (cases o <;> rfl)

theorem engState_arr (e : Fin 2) : fieldArr (engState e) = false := by
  unfold engState
  repeat' split
  all_goals rfl

theorem State.modeWrite_within (s : State) (p : Port) (m : Nat) (hM : mm ||| 0x80003000000000000000000 = mm) (hW : Within mm p s00 s) :
    Within mm p s00 (State.modeWrite s p m) := by
  unfold State.modeWrite
  try dsimp only
  repeat' with_reducible
    first | assumption | apply errF_own | apply wr_own | apply setMode_within | apply ite_within
          | split | exact sub hM (by decide) | decide | dsimp only

theorem State.modeWrite_all {pp : Nat} (s : State) (p : Port) (m : Nat) (hM : mm ||| 0x103000000000000000000000 = mm) (hW : Within mm pp s00 s) :
    Within mm pp s00 (State.modeWrite s p m) := by
  unfold State.modeWrite
  try dsimp only
  repeat' with_reducible
    first | assumption | apply errF_within | apply wr_within | apply setMode_all | apply ite_within
          | split | exact sub hM (by decide) | dsimp only

theorem execModeWrite_within (p : Port) (m : Fin 8) (s : State) :
    ∀ u, execModeWrite p m s = .next u → Within 0x80003000000000000000000 p s u := by
  intro u hu
  cases hu
  have hM : 0x80003000000000000000000 ||| 0x80003000000000000000000 = 0x80003000000000000000000 := rfl
  have hW := Within.refl 0x80003000000000000000000 p s
  try dsimp only
  repeat' with_reducible
    first | assumption | apply modeWrite_within | exact sub hM (by decide) | dsimp only

theorem execSatFlagsClear_within (p : Port) (mask : Fin 16) (s : State) :
    ∀ u, execSatFlagsClear p mask s = .next u → Within 0x2000000000000000000 p s u := by
  intro u hu
  cases hu
  have hM : 0x2000000000000000000 ||| 0x2000000000000000000 = 0x2000000000000000000 := rfl
  have hW := Within.refl 0x2000000000000000000 p s
  simp only [List.foldl]
  repeat (first | assumption | (refine State.flag_own _ _ _ (sub hM (by decide)) (by decide) ?_) | split)

theorem State.satFlags_of (s : State) (p : Port) (pts : List SatPt)
    (hp : ∀ x ∈ pts, mm ||| fieldMask true x.flag = mm ∧ mm ||| fieldMask true x.cnt = mm ∧ fieldArr x.flag = false ∧ fieldArr x.cnt = false)
    (hM : mm ||| 0x480007000000000000140000 = mm) (hW : Within mm p s00 s) : Within mm p s00 (s.satFlags p pts) := by
  have h1 : ∀ (l : List SatPt), (∀ x ∈ l, x ∈ pts) → ∀ t, Within mm p s00 t → Within mm p s00 (l.foldl (fun t x =>
      let t1 := if x.now then t.flag x.flag p true else t
      if x.now && !x.was then t1.bump x.cnt p else t1) t) := by
    intro l
    induction l with
    | nil => exact fun _ t ht => ht
    | cons x l ih =>
      intro hl t ht
      refine ih (fun y hy => hl y (.tail _ hy)) _ ?_
      obtain ⟨a, b, c, d⟩ := hp x (hl x (.head _))
      have h2 : Within mm p s00 (if x.now then t.flag x.flag p true else t) := by
        split
        · exact State.flag_own _ _ _ a c ht
        · exact ht
      dsimp only
      split
      · exact State.bump_own _ _ b d h2
      · exact h2
  have h3 := h1 pts (fun _ h => h) s hW
  unfold State.satFlags
  dsimp only at h3 ⊢
  split
  · exact h3
  · exact State.irq_own _ _ _ (sub hM (by decide)) (by decide) (State.event_own _ _ _ _ _ _ (sub hM (by decide)) h3)
theorem State.satFlags_within (s : State) (p : Port) (a1 a2 b1 b2 c1 c2 d1 d2 : Bool) (hM : mm ||| 0x480007000000000000140000 = mm) (hW : Within mm p s00 s) :
    Within mm p s00 (s.satFlags p [⟨LOOP.SAT_ACC, LOOP.SAT_ACC_CNT, a1, a2, 0⟩, ⟨LOOP.SAT_INNER, LOOP.SAT_INNER_CNT, b1, b2, 1⟩,
      ⟨LOOP.SAT_OUTER, LOOP.SAT_OUTER_CNT, c1, c2, 2⟩, ⟨LOOP.SAT_DUTY, LOOP.SAT_DUTY_CNT, d1, d2, 3⟩]) := by
  refine State.satFlags_of s p _ (fun x hx => ?_) hM hW
  simp only [List.mem_cons, List.not_mem_nil, or_false] at hx
  rcases hx with rfl | rfl | rfl | rfl
  · exact (⟨sub hM (by decide), sub hM (by decide), by decide, by decide⟩ : mm ||| fieldMask true LOOP.SAT_ACC = mm ∧
      mm ||| fieldMask true LOOP.SAT_ACC_CNT = mm ∧ fieldArr LOOP.SAT_ACC = false ∧ fieldArr LOOP.SAT_ACC_CNT = false)
  · exact (⟨sub hM (by decide), sub hM (by decide), by decide, by decide⟩ : mm ||| fieldMask true LOOP.SAT_INNER = mm ∧
      mm ||| fieldMask true LOOP.SAT_INNER_CNT = mm ∧ fieldArr LOOP.SAT_INNER = false ∧ fieldArr LOOP.SAT_INNER_CNT = false)
  · exact (⟨sub hM (by decide), sub hM (by decide), by decide, by decide⟩ : mm ||| fieldMask true LOOP.SAT_OUTER = mm ∧
      mm ||| fieldMask true LOOP.SAT_OUTER_CNT = mm ∧ fieldArr LOOP.SAT_OUTER = false ∧ fieldArr LOOP.SAT_OUTER_CNT = false)
  · exact (⟨sub hM (by decide), sub hM (by decide), by decide, by decide⟩ : mm ||| fieldMask true LOOP.SAT_DUTY = mm ∧
      mm ||| fieldMask true LOOP.SAT_DUTY_CNT = mm ∧ fieldArr LOOP.SAT_DUTY = false ∧ fieldArr LOOP.SAT_DUTY_CNT = false)

theorem State.loadTable_within (s : State) (p : Port) (t : List Byte) (hM : mm ||| 0x80002002000000000000000 = mm) (hW : Within mm p s00 s) :
    Within mm p s00 (State.loadTable s p t) := by
  unfold State.loadTable
  try dsimp only
  repeat' with_reducible
    first | assumption | apply flag_own | apply wr_own | apply wrBit_within
          | apply loop_within | split | (intro _ _ _) | (intro _ _) | exact sub hM (by decide) | decide
          | dsimp only

theorem State.loadTable_all {pp : Nat} (s : State) (p : Port) (t : List Byte) (hM : mm ||| 0x102000002000000000000000 = mm) (hW : Within mm pp s00 s) :
    Within mm pp s00 (State.loadTable s p t) := by
  unfold State.loadTable
  try dsimp only
  repeat' with_reducible
    first | assumption | apply flag_within | apply wr_within | apply wrBit_within
          | apply loop_all | split | (intro _ _ _) | (intro _ _) | exact sub hM (by decide) | dsimp only

theorem State.swapTable_within (s : State) (p : Port) (hM : mm ||| 0x480007002000000000140000 = mm) (hW : Within mm p s00 s) :
    Within mm p s00 (State.swapTable s p) := by
  unfold State.swapTable
  try dsimp only
  repeat' with_reducible
    first | assumption | apply bump_own | apply event_own | apply irq_own
          | apply blank2ms_within | apply loadTable_within | apply loop_within | apply ite_within
          | split | (intro _ _ _) | (intro _ _) | exact sub hM (by decide) | decide | dsimp only

theorem State.swapTable_all {pp : Nat} (s : State) (p : Port) (hM : mm ||| 0x507000002000000000140000 = mm) (hW : Within mm pp s00 s) :
    Within mm pp s00 (State.swapTable s p) := by
  unfold State.swapTable
  try dsimp only
  repeat' with_reducible
    first | assumption | apply bump_within | apply irq_within | apply event_all
          | apply blank2ms_all | apply loadTable_all | apply loop_all | apply ite_within | split
          | (intro _ _ _) | (intro _ _) | exact sub hM (by decide) | dsimp only

theorem execCoefficientSwap_within (p : Port) (s : State) :
    ∀ u, execCoefficientSwap p s = .next u → Within 0x480007002000000000140000 p s u := by
  intro u hu
  cases hu
  have hM : 0x480007002000000000140000 ||| 0x480007002000000000140000 = 0x480007002000000000140000 := rfl
  have hW := Within.refl 0x480007002000000000140000 p s
  try dsimp only
  repeat' with_reducible
    first | assumption | apply swapTable_within | apply ite_within | split | exact sub hM (by decide)
          | dsimp only

theorem State.track_within (s : State) (p : Port) (hM : mm ||| 0x80010000000000000000000 = mm) (hW : Within mm p s00 s) :
    Within mm p s00 (State.track s p) := by
  unfold State.track
  try dsimp only
  repeat' with_reducible
    first | assumption | apply wr_own | apply grd_within | apply ite_within | split | (intro _ _ _)
          | (intro _ _) | exact sub hM (by decide) | decide | dsimp only

theorem State.track_all {pp : Nat} (s : State) (p : Port) (hM : mm ||| 0x110000000000000000000000 = mm) (hW : Within mm pp s00 s) :
    Within mm pp s00 (State.track s p) := by
  unfold State.track
  try dsimp only
  repeat' with_reducible
    first | assumption | apply wr_within | apply grd_all | apply ite_within | split | (intro _ _ _)
          | (intro _ _) | exact sub hM (by decide) | dsimp only

theorem State.tableRepaired_within (s : State) (p : Port) (e : Fin 2) (hM : mm ||| 0x480000007000000000140000 = mm) (hW : Within mm p s00 s) :
    Within mm p s00 (State.tableRepaired s p e) := by
  unfold State.tableRepaired
  try dsimp only
  repeat' with_reducible
    first | assumption | apply event_own | apply bump_within | apply irq_within
          | apply wrBit_within | exact sub hM (by decide) | decide | dsimp only

theorem State.tableRepaired_all {pp : Nat} (s : State) (p : Port) (e : Fin 2) (hM : mm ||| 0x500000007000000000140000 = mm) (hW : Within mm pp s00 s) :
    Within mm pp s00 (State.tableRepaired s p e) := by
  unfold State.tableRepaired
  try dsimp only
  repeat' with_reducible
    first | assumption | apply bump_within | apply irq_within | apply wrBit_within
          | apply event_all | exact sub hM (by decide) | dsimp only

theorem State.chalkForce_within (s : State) (p : Port) (cause halt : Nat) (hM : mm ||| 0xC00120000048001F4D0038000038140000 = mm) (hW : Within mm p s00 s) :
    Within mm p s00 (State.chalkForce s p cause halt) := by
  unfold State.chalkForce
  try dsimp only
  repeat' with_reducible
    first | assumption | apply event_own | apply bump_within | apply irq_within
          | apply wr_within | apply wrBit_within | apply grd_within | apply safeState_within
          | apply ite_within | split | (intro _ _ _) | (intro _ _) | exact sub hM (by decide) | decide | dsimp only

theorem State.chalkForce_all {pp : Nat} (s : State) (p : Port) (cause halt : Nat) (hM : mm ||| 0xC00120000051F4C0010038000038140000 = mm) (hW : Within mm pp s00 s) :
    Within mm pp s00 (State.chalkForce s p cause halt) := by
  unfold State.chalkForce
  try dsimp only
  repeat' with_reducible
    first | assumption | apply bump_within | apply irq_within | apply wr_within
          | apply wrBit_within | apply event_all | apply grd_all | apply safeState_all
          | apply ite_within | split | (intro _ _ _) | (intro _ _) | exact sub hM (by decide) | dsimp only

theorem State.chalkRelease_within (s : State) (p : Port) (hM : mm ||| 0x480010000018000000140000 = mm) (hW : Within mm p s00 s) :
    Within mm p s00 (State.chalkRelease s p) := by
  unfold State.chalkRelease
  try dsimp only
  repeat' with_reducible
    first | assumption | apply event_own | apply irq_within | apply wrBit_within
          | apply grd_within | apply safeRelease_within | apply ite_within | split | (intro _ _ _)
          | (intro _ _) | exact sub hM (by decide) | decide | dsimp only

theorem State.chalkRelease_all {pp : Nat} (s : State) (p : Port) (hM : mm ||| 0x510000000018000000140000 = mm) (hW : Within mm pp s00 s) :
    Within mm pp s00 (State.chalkRelease s p) := by
  unfold State.chalkRelease
  try dsimp only
  repeat' with_reducible
    first | assumption | apply irq_within | apply wrBit_within | apply event_all
          | apply grd_all | apply safeRelease_all | apply ite_within | split | (intro _ _ _) | (intro _ _)
          | exact sub hM (by decide) | dsimp only

theorem State.tableFault_within (s : State) (p : Port) (e : Fin 2) (hM : mm ||| 0xC00120000048001F4D7038000038140000 = mm) (hW : Within mm p s00 s) :
    Within mm p s00 (State.tableFault s p e) := by
  unfold State.tableFault
  try dsimp only
  repeat' with_reducible
    first | assumption | apply event_own | apply flag_own | apply bump_within
          | apply irq_within | apply wrBit_within | apply chalkForce_within
          | apply loop_within | split | (intro _ _ _) | (intro _ _) | exact sub hM (by decide) | decide
          | dsimp only

theorem State.tableFault_all {pp : Nat} (s : State) (p : Port) (e : Fin 2) (hM : mm ||| 0xC00120000051F4C0017038000038140000 = mm) (hW : Within mm pp s00 s) :
    Within mm pp s00 (State.tableFault s p e) := by
  unfold State.tableFault
  try dsimp only
  repeat' with_reducible
    first | assumption | apply bump_within | apply flag_within | apply irq_within
          | apply wrBit_within | apply event_all | apply chalkForce_all | apply loop_all
          | split | (intro _ _ _) | (intro _ _) | exact sub hM (by decide) | dsimp only

theorem State.bankBad_within (s : State) (bad : List (Fin 2 × Port)) (e : Fin 2) (p : Port) (hM : mm ||| 0xC00120000058001F4D7038000038140000 = mm) (hW : Within mm p s00 s) :
    Within mm p s00 (State.bankBad s bad e p) := by
  unfold State.bankBad
  try dsimp only
  repeat' with_reducible
    first | assumption | apply loop_within | apply tableFault_within | apply loop_all
          | apply ite_within | split | (intro _ _ _) | (intro _ _) | exact sub hM (by decide) | dsimp only

theorem State.bankBad_all {pp : Nat} (s : State) (bad : List (Fin 2 × Port)) (e : Fin 2) (p : Port) (hM : mm ||| 0xC00120000051F4C0017038000038140000 = mm) (hW : Within mm pp s00 s) :
    Within mm pp s00 (State.bankBad s bad e p) := by
  unfold State.bankBad
  try dsimp only
  repeat' with_reducible
    first | assumption | apply loop_all | apply tableFault_all | apply ite_within | split | (intro _ _ _)
          | (intro _ _) | exact sub hM (by decide) | dsimp only

theorem State.repairTables_within (s : State) (p : Port) (hM : mm ||| 0x480000007000000000140000 = mm) (hW : Within mm p s00 s) :
    Within mm p s00 (State.repairTables s p) := by
  unfold State.repairTables
  try dsimp only
  repeat' with_reducible
    first | assumption | apply loop_within | apply tableRepaired_within | apply ite_within | split
          | (intro _ _ _) | (intro _ _) | exact sub hM (by decide) | dsimp only

theorem State.repairTables_all {pp : Nat} (s : State) (p : Port) (hM : mm ||| 0x500000007000000000140000 = mm) (hW : Within mm pp s00 s) :
    Within mm pp s00 (State.repairTables s p) := by
  unfold State.repairTables
  try dsimp only
  repeat' with_reducible
    first | assumption | apply loop_all | apply tableRepaired_all | apply ite_within | split
          | (intro _ _ _) | (intro _ _) | exact sub hM (by decide) | dsimp only

theorem State.tableGood_within (s : State) (p : Port) (hM : mm ||| 0x480010002018000000140000 = mm) (hW : Within mm p s00 s) :
    Within mm p s00 (State.tableGood s p) := by
  unfold State.tableGood
  try dsimp only
  repeat' with_reducible
    first | assumption | apply wrBit_within | apply chalkRelease_within | apply ite_within | split
          | exact sub hM (by decide) | dsimp only

theorem State.tableGood_all {pp : Nat} (s : State) (p : Port) (hM : mm ||| 0x510000002018000000140000 = mm) (hW : Within mm pp s00 s) :
    Within mm pp s00 (State.tableGood s p) := by
  unfold State.tableGood
  try dsimp only
  repeat' with_reducible
    first | assumption | apply wrBit_within | apply chalkRelease_all | apply ite_within | split
          | exact sub hM (by decide) | dsimp only

theorem State.pendOne_within (s : State) (p : Port) (t : List Byte) (hM : mm ||| 0x480012002018000000140000 = mm) (hW : Within mm p s00 s) :
    Within mm p s00 (State.pendOne s p t) := by
  unfold State.pendOne
  try dsimp only
  repeat' with_reducible
    first | assumption | apply flag_own | apply wrBit_within | apply loadTable_within
          | apply loop_within | apply tableGood_within | apply ite_within | split | (intro _ _ _)
          | (intro _ _) | exact sub hM (by decide) | decide | dsimp only

theorem State.pendOne_all {pp : Nat} (s : State) (p : Port) (t : List Byte) (hM : mm ||| 0x512000002018000000140000 = mm) (hW : Within mm pp s00 s) :
    Within mm pp s00 (State.pendOne s p t) := by
  unfold State.pendOne
  try dsimp only
  repeat' with_reducible
    first | assumption | apply flag_within | apply wrBit_within | apply loadTable_all
          | apply loop_all | apply tableGood_all | apply ite_within | split | (intro _ _ _) | (intro _ _)
          | exact sub hM (by decide) | dsimp only

theorem State.reloadTables_within {pp : Nat} (s : State) (hM : mm ||| 0x512000002018000000140000 = mm) (hW : Within mm pp s00 s) :
    Within mm pp s00 (State.reloadTables s) := by
  unfold State.reloadTables
  try dsimp only
  repeat' with_reducible
    first | assumption | apply forPorts_within | apply pendOne_all | apply ite_within | split
          | (intro _ _ _) | (intro _ _) | exact sub hM (by decide) | dsimp only

theorem State.marlStarts_within {pp : Nat} (s : State) (e : Fin 2) (hM : mm ||| 0x512000002018000000140000 = mm) (hW : Within mm pp s00 s) :
    Within mm pp s00 (State.marlStarts s e) := by
  unfold State.marlStarts
  try dsimp only
  repeat' with_reducible
    first | assumption | apply wr_within | apply reloadTables_within | exact sub hM (by decide)
          | exact sub hM (by simp only [engState_mask]; decide) | (simp only [engState_arr]; done) | dsimp only

theorem State.sumStep_within (s : State) (p : Port) (hM : mm ||| 0x80000000000000000000000 = mm) (hW : Within mm p s00 s) :
    Within mm p s00 (State.sumStep s p) := by
  unfold State.sumStep
  try dsimp only
  repeat' with_reducible
    first | assumption | apply model_within | apply ite_within | split | (intro _ _ _) | (intro _ _)
          | exact sub hM (by decide) | dsimp only

theorem State.sumStep_all {pp : Nat} (s : State) (p : Port) (hM : mm ||| 0x100000000000000000000000 = mm) (hW : Within mm pp s00 s) :
    Within mm pp s00 (State.sumStep s p) := by
  unfold State.sumStep
  try dsimp only
  repeat' with_reducible
    first | assumption | apply model_all | apply ite_within | split | (intro _ _ _) | (intro _ _)
          | exact sub hM (by decide) | dsimp only

theorem State.showLoop_within (s : State) (p : Port) (hM : mm ||| 0x6000000000000000000 = mm) (hW : Within mm p s00 s) :
    Within mm p s00 (State.showLoop s p) := by
  unfold State.showLoop
  try dsimp only
  repeat' with_reducible
    first | assumption | apply bump_own | apply flag_own | apply wr_own | apply wrI_own
          | apply ite_within | split | exact sub hM (by decide) | decide | dsimp only

theorem State.showLoop_all {pp : Nat} (s : State) (p : Port) (hM : mm ||| 0x6000000000000000000000 = mm) (hW : Within mm pp s00 s) :
    Within mm pp s00 (State.showLoop s p) := by
  unfold State.showLoop
  try dsimp only
  repeat' with_reducible
    first | assumption | apply bump_within | apply flag_within | apply wr_within
          | apply wrI_within | apply ite_within | split | exact sub hM (by decide) | dsimp only

theorem State.outerFirst_within (s : State) (p : Port) (hM : mm ||| 0x480002007000000000140000 = mm) (hW : Within mm p s00 s) :
    Within mm p s00 (State.outerFirst s p) := by
  unfold State.outerFirst
  try dsimp only
  repeat' with_reducible
    first | assumption | apply carryBy_within | apply loop_within | apply repairTables_within
          | apply rerate_within | apply ite_within | split | (intro _ _ _) | (intro _ _)
          | exact sub hM (by decide) | dsimp only

theorem State.outerFirst_all {pp : Nat} (s : State) (p : Port) (hM : mm ||| 0x502000007000000000140000 = mm) (hW : Within mm pp s00 s) :
    Within mm pp s00 (State.outerFirst s p) := by
  unfold State.outerFirst
  try dsimp only
  repeat' with_reducible
    first | assumption | apply carryBy_all | apply loop_all | apply repairTables_all
          | apply rerate_all | apply ite_within | split | (intro _ _ _) | (intro _ _) | exact sub hM (by decide)
          | dsimp only

theorem State.latch_within (s : State) (p : Port) (hM : mm ||| 0x48000703F000000000140000 = mm) (hW : Within mm p s00 s) :
    Within mm p s00 (State.latch s p) := by
  unfold State.latch
  try dsimp only
  repeat' with_reducible
    first | assumption | apply latchMode_within | apply outerFirst_within | apply rerate_within
          | apply ite_within | split | exact sub hM (by decide) | dsimp only

theorem State.latch_all {pp : Nat} (s : State) (p : Port) (hM : mm ||| 0x50700003F000000000140000 = mm) (hW : Within mm pp s00 s) :
    Within mm pp s00 (State.latch s p) := by
  unfold State.latch
  try dsimp only
  repeat' with_reducible
    first | assumption | apply latchMode_all | apply outerFirst_all | apply rerate_all
          | apply ite_within | split | exact sub hM (by decide) | dsimp only

theorem State.countUpdate_within (s : State) (p : Port) (hM : mm ||| 0x20000000000000000000000000000000000 = mm) (hW : Within mm p s00 s) :
    Within mm p s00 (State.countUpdate s p) := by
  unfold State.countUpdate
  try dsimp only
  repeat' with_reducible
    first | assumption | apply ite_within | split | apply within_mk | exact Or.inr rfl
          | exact Or.inl (bitOf hM (by decide)) | exact sub hM (by decide) | dsimp only

theorem State.countUpdate_all {pp : Nat} (s : State) (p : Port) (hM : mm ||| 0x20000000000000000000000000000000000 = mm) (hW : Within mm pp s00 s) :
    Within mm pp s00 (State.countUpdate s p) := by
  unfold State.countUpdate
  try dsimp only
  repeat' with_reducible
    first | assumption | apply ite_within | split | apply within_mk | exact Or.inr rfl
          | exact Or.inl (bitOf hM (by decide)) | exact sub hM (by decide) | dsimp only

theorem execInnerLoopBoundary_within (p : Port) (s0 : State) :
    ∀ u, execInnerLoopBoundary p s0 = .next u → Within 0x2400000000048001703F000000000140000 p s0 u := by
  intro u hu
  cases hu
  have hM : 0x2400000000048001703F000000000140000 ||| 0x2400000000048001703F000000000140000 = 0x2400000000048001703F000000000140000 := rfl
  have hW := Within.refl 0x2400000000048001703F000000000140000 p s0
  try dsimp only
  repeat' with_reducible
    first | assumption | apply flag_own | apply countUpdate_within | apply latch_within
          | apply loop_within | apply satFlags_within | apply showLoop_within
          | apply sumStep_within | apply swapTable_within | apply track_within | apply ite_within
          | split | (intro _ _ _) | (intro _ _) | apply within_mk | exact Or.inr rfl
          | exact Or.inl (bitOf hM (by decide)) | exact sub hM (by decide) | decide | dsimp only

theorem execTableCrcCheck_within (pp : Nat) (bad : List (Fin 2 × Port)) (s : State) :
    ∀ u, execTableCrcCheck bad s = .next u → Within 0xC00120000051F4C0017038000038140000 pp s u := by
  intro u hu
  cases hu
  have hM : 0xC00120000051F4C0017038000038140000 ||| 0xC00120000051F4C0017038000038140000 = 0xC00120000051F4C0017038000038140000 := rfl
  have hW := Within.refl 0xC00120000051F4C0017038000038140000 pp s
  try dsimp only
  repeat' with_reducible
    first | assumption | apply bankBad_all | apply foldl_within | apply ite_within | split | (intro _ _ _)
          | (intro _ _) | exact sub hM (by decide) | dsimp only

theorem State.engineDown_within {pp : Nat} (s : State) (e : Fin 2) (hM : mm ||| 0xC00122000051F4C0012080000038140000 = mm) (hW : Within mm pp s00 s) :
    Within mm pp s00 (State.engineDown s e) := by
  unfold State.engineDown
  try dsimp only
  repeat' with_reducible
    first | assumption | apply wr_within | apply engineFailed_within | apply forPorts_within
          | apply grd_all | apply safeState_all | split | (intro _ _ _) | (intro _ _)
          | exact sub hM (by decide) | exact sub hM (by simp only [engState_mask]; decide)
          | (simp only [engState_arr]; done) | dsimp only

theorem State.engineFrees_within {pp : Nat} (s : State) (hM : mm ||| 0x110000000000000000000000 = mm) (hW : Within mm pp s00 s) :
    Within mm pp s00 (State.engineFrees s) := by
  unfold State.engineFrees
  try dsimp only
  repeat' with_reducible
    first | assumption | apply forPorts_within | apply grd_all | apply safeRelease_all | split
          | (intro _ _ _) | (intro _ _) | exact sub hM (by decide) | dsimp only

theorem State.engineLost_within {pp : Nat} (s : State) (e : Fin 2) (missed : Nat) (hM : mm ||| 0xC00122000051F4C0017080000038140000 = mm) (hW : Within mm pp s00 s) :
    Within mm pp s00 (State.engineLost s e missed) := by
  unfold State.engineLost
  try dsimp only
  repeat' with_reducible
    first | assumption | apply bump_within | apply event_sys | apply irq_within
          | apply wr_within | apply engineDown_within | apply engineFailed_within
          | apply setCarriers_within | apply ite_within | split | exact sub hM (by decide)
          | exact sub hM (by simp only [engState_mask]; decide) | decide | (simp only [engState_arr]; done)
          | dsimp only

theorem execDeadlineMiss_within (missed : Port) (s : State) :
    ∀ u, execDeadlineMiss missed s = .next u → Within 0xC00122000051F4C0017080000038140000 missed s u := by
  intro u hu
  cases hu
  have hM : 0xC00122000051F4C0017080000038140000 ||| 0xC00122000051F4C0017080000038140000 = 0xC00122000051F4C0017080000038140000 := rfl
  have hW := Within.refl 0xC00122000051F4C0017080000038140000 missed s
  try dsimp only
  repeat' with_reducible
    first | assumption | apply bump_within | apply irq_within | apply engineLost_within
          | apply ite_within | split | exact sub hM (by decide) | dsimp only

theorem State.engineStarts_within {pp : Nat} (s : State) (e : Fin 2) (hM : mm ||| 0x512000002098000000140000 = mm) (hW : Within mm pp s00 s) :
    Within mm pp s00 (State.engineStarts s e) := by
  unfold State.engineStarts
  try dsimp only
  repeat' with_reducible
    first | assumption | apply engineRestarted_within | apply reloadTables_within | apply ite_within
          | split | exact sub hM (by decide) | dsimp only

theorem State.engineBack_within {pp : Nat} (s : State) (e : Fin 2) (hM : mm ||| 0x40000552000007098000000140000 = mm) (hW : Within mm pp s00 s) :
    Within mm pp s00 (State.engineBack s e) := by
  unfold State.engineBack
  try dsimp only
  repeat' with_reducible
    first | assumption | apply bump_within | apply event_sys | apply irq_within
          | apply wr_within | apply engineFrees_within | apply engineStarts_within
          | apply handBack_within | apply ite_within | split | apply within_mk | exact Or.inr rfl
          | exact Or.inl (bitOf hM (by decide)) | exact sub hM (by decide)
          | exact sub hM (by simp only [engState_mask]; decide) | decide | (simp only [engState_arr]; done)
          | dsimp only

theorem State.marlReloads_within {pp : Nat} (s : State) (e : Fin 2) (hM : mm ||| 0x512000002098000000140000 = mm) (hW : Within mm pp s00 s) :
    Within mm pp s00 (State.marlReloads s e) := by
  unfold State.marlReloads
  try dsimp only
  repeat' with_reducible
    first | assumption | apply wr_within | apply marlStarts_within | apply ite_within | split
          | exact sub hM (by decide) | dsimp only

theorem State.showLoad_within {pp : Nat} (s : State) (hM : mm ||| 0x20000000000000000002000000000000000 = mm) (hW : Within mm pp s00 s) :
    Within mm pp s00 (State.showLoad s) := by
  unfold State.showLoad
  try dsimp only
  repeat' with_reducible
    first | assumption | apply wr_within | apply within_mk | exact Or.inr rfl
          | exact Or.inl (bitOf hM (by decide)) | exact sub hM (by decide) | dsimp only

theorem execEngineRestored_within (pp : Nat) (e : Fin 2) (s : State) :
    ∀ u, execEngineRestored e s = .next u → Within 0x40000552000007098000000140000 pp s u := by
  intro u hu
  cases hu
  have hM : 0x40000552000007098000000140000 ||| 0x40000552000007098000000140000 = 0x40000552000007098000000140000 := rfl
  have hW := Within.refl 0x40000552000007098000000140000 pp s
  try dsimp only
  repeat' with_reducible
    first | assumption | apply engineBack_within | apply ite_within | split | exact sub hM (by decide)
          | dsimp only

/-! ## Machine/Sense.lean -/

theorem State.burstInvalid_within (s : State) (p : Port) (hM : mm ||| 0xC08120000048003F4D00001C0038140000 = mm) (hW : Within mm p s00 s) :
    Within mm p s00 (State.burstInvalid s p) := by
  unfold State.burstInvalid
  try dsimp only
  repeat' with_reducible
    first | assumption | apply event_own | apply bump_within | apply irq_within
          | apply wrBit_within | apply grd_within | apply loop_within | apply trip_within
          | apply ite_within | split | (intro _ _ _) | (intro _ _) | exact sub hM (by decide) | decide | dsimp only

theorem State.burstInvalid_all {pp : Nat} (s : State) (p : Port) (hM : mm ||| 0xC08120000053F4C00100001C0038140000 = mm) (hW : Within mm pp s00 s) :
    Within mm pp s00 (State.burstInvalid s p) := by
  unfold State.burstInvalid
  try dsimp only
  repeat' with_reducible
    first | assumption | apply bump_within | apply irq_within | apply wrBit_within
          | apply event_all | apply grd_all | apply loop_all | apply trip_all
          | apply ite_within | split | (intro _ _ _) | (intro _ _) | exact sub hM (by decide) | dsimp only

theorem State.nextBurst_within (s : State) (p : Port) (hM : mm ||| 0x80000000000000000000000 = mm) (hW : Within mm p s00 s) :
    Within mm p s00 (State.nextBurst s p) := by
  unfold State.nextBurst
  try dsimp only
  repeat' with_reducible
    first | assumption | apply loop_within | split | (intro _ _ _) | (intro _ _) | exact sub hM (by decide)
          | dsimp only

theorem State.nextBurst_all {pp : Nat} (s : State) (p : Port) (hM : mm ||| 0x100000000000000000000000 = mm) (hW : Within mm pp s00 s) :
    Within mm pp s00 (State.nextBurst s p) := by
  unfold State.nextBurst
  try dsimp only
  repeat' with_reducible
    first | assumption | apply loop_all | split | (intro _ _ _) | (intro _ _) | exact sub hM (by decide)
          | dsimp only

theorem execAdcBurst_within (p : Port) (i : BitVec 12) (vbus vconv : BitVec 12) (late : Bool) (dropped : Fin 4) (s : State) :
    ∀ u, execAdcBurst p i vbus vconv late dropped s = .next u → Within 0xC08120000048003F4D00001C0038140000 p s u := by
  intro u hu
  cases hu
  have hM : 0xC08120000048003F4D00001C0038140000 ||| 0xC08120000048003F4D00001C0038140000 = 0xC08120000048003F4D00001C0038140000 := rfl
  have hW := Within.refl 0xC08120000048003F4D00001C0038140000 p s
  try dsimp only
  repeat' with_reducible
    first | assumption | apply modPort_own | apply wr_own | apply bump_within
          | apply bumpBy_within | apply wrBit_within | apply burstInvalid_within
          | apply grd_within | apply loop_within | apply nextBurst_within
          | apply noteVbus_within | apply standIn_within | apply ite_within | split | (intro _ _ _)
          | (intro _ _) | exact sub hM (by decide) | decide | dsimp only

theorem execSenseStale_within (pp : Nat) (x : BurstRead) (s : State) :
    ∀ u, execSenseStale x s = .next u → Within 0xC08120000053F4C00100001C0038140000 pp s u := by
  intro u hu
  cases hu
  have hM : 0xC08120000053F4C00100001C0038140000 ||| 0xC08120000053F4C00100001C0038140000 = 0xC08120000053F4C00100001C0038140000 := rfl
  have hW := Within.refl 0xC08120000053F4C00100001C0038140000 pp s
  try dsimp only
  repeat' with_reducible
    first | assumption | apply burstInvalid_all | apply nextBurst_all | apply ite_within | split
          | exact sub hM (by decide) | dsimp only

theorem State.noteLoss_within {pp : Nat} (s : State) (unit : Nat) (hM : mm ||| 0x20000000000000000000000000000 = mm) (hW : Within mm pp s00 s) :
    Within mm pp s00 (State.noteLoss s unit) := by
  unfold State.noteLoss
  try dsimp only
  repeat' with_reducible
    first | assumption | apply ite_within | split | apply within_mk | exact Or.inr rfl
          | exact Or.inl (bitOf hM (by decide)) | exact sub hM (by decide) | dsimp only

theorem State.stepDone_within {pp : Nat} (s : State) (k : Nat) (hM : mm ||| 0x1C000000000000000000000000000 = mm) (hW : Within mm pp s00 s) :
    Within mm pp s00 (State.stepDone s k) := by
  unfold State.stepDone
  try dsimp only
  repeat' with_reducible
    first | assumption | apply within_mk | exact Or.inr rfl | exact Or.inl (bitOf hM (by decide))
          | exact sub hM (by decide) | dsimp only

theorem State.endTest_within (s : State) (p : Port) (status result : Nat) (hM : mm ||| 0xC001000000480000000007000038140000 = mm) (hW : Within mm p s00 s) :
    Within mm p s00 (State.endTest s p status result) := by
  unfold State.endTest
  try dsimp only
  repeat' with_reducible
    first | assumption | apply modPort_own | apply bump_within | apply eventSev_sys
          | apply irq_within | apply wrBit_within | apply respond_within | apply ite_within | split
          | (intro _ _ _) | (intro _ _) | exact sub hM (by decide) | decide | dsimp only

theorem State.endTest_all {pp : Nat} (s : State) (p : Port) (status result : Nat) (hM : mm ||| 0xC001000000500000000007000038140000 = mm) (hW : Within mm pp s00 s) :
    Within mm pp s00 (State.endTest s p status result) := by
  unfold State.endTest
  try dsimp only
  repeat' with_reducible
    first | assumption | apply bump_within | apply eventSev_sys | apply irq_within
          | apply modPort_within | apply wrBit_within | apply respond_within | apply ite_within
          | split | (intro _ _ _) | (intro _ _) | exact sub hM (by decide) | decide | dsimp only

theorem State.endCalTests_within {pp : Nat} (s : State) (k status result : Nat) (hM : mm ||| 0xC001000000500000000007000038140000 = mm) (hW : Within mm pp s00 s) :
    Within mm pp s00 (State.endCalTests s k status result) := by
  unfold State.endCalTests
  try dsimp only
  repeat' with_reducible
    first | assumption | apply forPorts_within | apply endTest_all | split | (intro _ _ _) | (intro _ _)
          | exact sub hM (by decide) | dsimp only

theorem execCalibrationStep_within (pp : Nat) (diff1 : Nat) (offset gain : BitVec 16) (diff4 : Nat) (s : State) :
    ∀ u, execCalibrationStep diff1 offset gain diff4 s = .next u → Within 0xC00101C0005000000000071C0038140000 pp s u := by
  intro u hu
  cases hu
  have hM : 0xC00101C0005000000000071C0038140000 ||| 0xC00101C0005000000000071C0038140000 = 0xC00101C0005000000000071C0038140000 := rfl
  have hW := Within.refl 0xC00101C0005000000000071C0038140000 pp s
  try dsimp only
  repeat' with_reducible
    first | assumption | apply bump_within | apply irq_within | apply wr_within
          | apply endCalTests_within | apply stepDone_within | apply ite_within | split | apply within_mk
          | exact Or.inr rfl | exact Or.inl (bitOf hM (by decide)) | exact sub hM (by decide) | dsimp only

theorem State.adcFail_within {pp : Nat} (s : State) (k : Nat) (err : Int) (carrier : Nat) (hM : mm ||| 0x2200004000000000000C0000140000 = mm) (hW : Within mm pp s00 s) :
    Within mm pp s00 (State.adcFail s k err carrier) := by
  unfold State.adcFail
  try dsimp only
  repeat' with_reducible
    first | assumption | apply event_sys | apply flag_within | apply irq_within
          | apply wrBit_within | apply noteLoss_within | apply sendMarks_within
          | exact sub hM (by decide) | decide | dsimp only

theorem State.foldback_within (s : State) (p : Port) (kind : Nat) (f : Int) (hM : mm ||| 0x480006000000000000140000 = mm) (hW : Within mm p s00 s) :
    Within mm p s00 (State.foldback s p kind f) := by
  unfold State.foldback
  try dsimp only
  repeat' with_reducible
    first | assumption | apply bump_own | apply event_own | apply flag_own
          | apply model_within | apply showREst_within | apply ite_within | split | (intro _ _ _)
          | (intro _ _) | exact sub hM (by decide) | decide | dsimp only

theorem State.foldback_all {pp : Nat} (s : State) (p : Port) (kind : Nat) (f : Int) (hM : mm ||| 0x506000000000000000140000 = mm) (hW : Within mm pp s00 s) :
    Within mm pp s00 (State.foldback s p kind f) := by
  unfold State.foldback
  try dsimp only
  repeat' with_reducible
    first | assumption | apply bump_within | apply flag_within | apply event_all
          | apply model_all | apply showREst_all | apply ite_within | split | (intro _ _ _) | (intro _ _)
          | exact sub hM (by decide) | dsimp only

theorem State.senseAct_within (s : State) (p : Port) (hM : mm ||| 0xC08120000048003F4D0000000038140000 = mm) (hW : Within mm p s00 s) :
    Within mm p s00 (State.senseAct s p) := by
  unfold State.senseAct
  try dsimp only
  repeat' with_reducible
    first | assumption | apply bump_own | apply event_own | apply foldback_within
          | apply model_within | apply trip_within | split | (intro _ _ _) | (intro _ _)
          | exact sub hM (by decide) | decide | dsimp only

theorem State.senseAct_all {pp : Nat} (s : State) (p : Port) (hM : mm ||| 0xC08120000053F4C0010000000038140000 = mm) (hW : Within mm pp s00 s) :
    Within mm pp s00 (State.senseAct s p) := by
  unfold State.senseAct
  try dsimp only
  repeat' with_reducible
    first | assumption | apply bump_within | apply event_all | apply foldback_all
          | apply model_all | apply trip_all | split | (intro _ _ _) | (intro _ _)
          | exact sub hM (by decide) | dsimp only

theorem State.senseTick_within {pp : Nat} (s : State) (k : Fin 8) (hM : mm ||| 0xC08120200053F4C0010000000038140000 = mm) (hW : Within mm pp s00 s) :
    Within mm pp s00 (State.senseTick s k) := by
  unfold State.senseTick
  try dsimp only
  repeat' with_reducible
    first | assumption | apply forPorts_within | apply senseAct_all | apply ite_within | split
          | (intro _ _ _) | (intro _ _) | apply within_mk | exact Or.inr rfl | exact Or.inl (bitOf hM (by decide))
          | exact sub hM (by decide) | dsimp only

theorem State.senseChecked_within {pp : Nat} (s : State) (k : Nat) (hM : mm ||| 0xC08120000053F4C0010000000038140000 = mm) (hW : Within mm pp s00 s) :
    Within mm pp s00 (State.senseChecked s k) := by
  unfold State.senseChecked
  try dsimp only
  repeat' with_reducible
    first | assumption | apply forPorts_within | apply model_all | apply senseAct_all
          | apply ite_within | split | (intro _ _ _) | (intro _ _) | exact sub hM (by decide) | dsimp only

theorem execAdcMismatch_within (pp : Nat) (errK err8 : Int) (s : State) :
    ∀ u, execAdcMismatch errK err8 s = .next u → Within 0xC08123E00053F4C00100070C0038140000 pp s u := by
  intro u hu
  cases hu
  have hM : 0xC08123E00053F4C00100070C0038140000 ||| 0xC08123E00053F4C00100070C0038140000 = 0xC08123E00053F4C00100070C0038140000 := rfl
  have hW := Within.refl 0xC08123E00053F4C00100070C0038140000 pp s
  try dsimp only
  repeat' with_reducible
    first | assumption | apply event_sys | apply irq_within | apply wr_within
          | apply adcFail_within | apply endCalTests_within | apply senseChecked_within
          | apply stepDone_within | apply ite_within | split | apply within_mk | exact Or.inr rfl
          | exact Or.inl (bitOf hM (by decide)) | exact sub hM (by decide) | decide | dsimp only

theorem State.requalify_within {pp : Nat} (s : State) (ok : BitVec 9) (hM : mm ||| 0x200000000000000000080000000000 = mm) (hW : Within mm pp s00 s) :
    Within mm pp s00 (State.requalify s ok) := by
  unfold State.requalify
  try dsimp only
  repeat' with_reducible
    first | assumption | apply flag_within | apply wr_within | apply sendMarks_within
          | apply ite_within | split | exact sub hM (by decide) | dsimp only

theorem State.periodDenied_within (s : State) (p : Port) (hM : mm ||| 0x8000000000000000 = mm) (hW : Within mm p s00 s) :
    Within mm p s00 (State.periodDenied s p) := by
  unfold State.periodDenied
  try dsimp only
  repeat' with_reducible
    first | assumption | apply err_within | apply irq_within | exact sub hM (by decide) | dsimp only

theorem State.periodDenied_all {pp : Nat} (s : State) (p : Port) (hM : mm ||| 0x8000000000000000 = mm) (hW : Within mm pp s00 s) :
    Within mm pp s00 (State.periodDenied s p) := by
  unfold State.periodDenied
  try dsimp only
  repeat' with_reducible
    first | assumption | apply err_within | apply irq_within | exact sub hM (by decide) | dsimp only

theorem State.setPeriod_within (s : State) (p : Port) (v : Nat) (hM : mm ||| 0x80002010000000000000000 = mm) (hW : Within mm p s00 s) :
    Within mm p s00 (State.setPeriod s p v) := by
  unfold State.setPeriod
  try dsimp only
  repeat' with_reducible
    first | assumption | apply wr_own | apply rerate_within | exact sub hM (by decide) | decide
          | dsimp only

theorem State.setPeriod_all {pp : Nat} (s : State) (p : Port) (v : Nat) (hM : mm ||| 0x102000010000000000000000 = mm) (hW : Within mm pp s00 s) :
    Within mm pp s00 (State.setPeriod s p v) := by
  unfold State.setPeriod
  try dsimp only
  repeat' with_reducible
    first | assumption | apply wr_within | apply rerate_all | exact sub hM (by decide) | dsimp only

theorem execPeriodWrite_within (p : Port) (v : Nat) (s : State) :
    ∀ u, execPeriodWrite p v s = .next u → Within 0x80002018000000000000000 p s u := by
  intro u hu
  cases hu
  have hM : 0x80002018000000000000000 ||| 0x80002018000000000000000 = 0x80002018000000000000000 := rfl
  have hW := Within.refl 0x80002018000000000000000 p s
  try dsimp only
  repeat' with_reducible
    first | assumption | apply err_within | apply periodDenied_within | apply setPeriod_within
          | apply ite_within | split | exact sub hM (by decide) | dsimp only

theorem State.setPhase_within (s : State) (p : Port) (v : Nat) (hM : mm ||| 0x80000000000000000000000 = mm) (hW : Within mm p s00 s) :
    Within mm p s00 (State.setPhase s p v) := by
  unfold State.setPhase
  try dsimp only
  repeat' with_reducible
    first | assumption | apply modPort_own | split | (intro _ _ _) | (intro _ _) | exact sub hM (by decide)
          | decide | dsimp only

theorem State.setPhase_all {pp : Nat} (s : State) (p : Port) (v : Nat) (hM : mm ||| 0x100000000000000000000000 = mm) (hW : Within mm pp s00 s) :
    Within mm pp s00 (State.setPhase s p v) := by
  unfold State.setPhase
  try dsimp only
  repeat' with_reducible
    first | assumption | apply modPort_within | split | (intro _ _ _) | (intro _ _) | exact sub hM (by decide)
          | dsimp only

theorem execPhaseWrite_within (p : Port) (v : BitVec 8) (s : State) :
    ∀ u, execPhaseWrite p v s = .next u → Within 0x80000000000000000000000 p s u := by
  intro u hu
  cases hu
  have hM : 0x80000000000000000000000 ||| 0x80000000000000000000000 = 0x80000000000000000000000 := rfl
  have hW := Within.refl 0x80000000000000000000000 p s
  try dsimp only
  repeat' with_reducible
    first | assumption | apply setPhase_within | exact sub hM (by decide) | dsimp only

theorem State.applyPhase_within (s : State) (p : Port) (hM : mm ||| 0x80000030000000000000000 = mm) (hW : Within mm p s00 s) :
    Within mm p s00 (State.applyPhase s p) := by
  unfold State.applyPhase
  try dsimp only
  repeat' with_reducible
    first | assumption | apply modPort_own | apply wr_own | apply bump_within | split
          | (intro _ _ _) | (intro _ _) | exact sub hM (by decide) | decide | dsimp only

theorem State.applyPhase_all {pp : Nat} (s : State) (p : Port) (hM : mm ||| 0x100000030000000000000000 = mm) (hW : Within mm pp s00 s) :
    Within mm pp s00 (State.applyPhase s p) := by
  unfold State.applyPhase
  try dsimp only
  repeat' with_reducible
    first | assumption | apply bump_within | apply modPort_within | apply wr_within | split
          | (intro _ _ _) | (intro _ _) | exact sub hM (by decide) | dsimp only

theorem State.innerStart_within (s : State) (p : Port) (hM : mm ||| 0x80000000000080000000000 = mm) (hW : Within mm p s00 s) :
    Within mm p s00 (State.innerStart s p) := by
  unfold State.innerStart
  try dsimp only
  repeat' with_reducible
    first | assumption | apply modPort_own | apply placeBurst_within | apply ite_within | split
          | (intro _ _ _) | (intro _ _) | exact sub hM (by decide) | decide | dsimp only

theorem State.innerStart_all {pp : Nat} (s : State) (p : Port) (hM : mm ||| 0x100000000000080000000000 = mm) (hW : Within mm pp s00 s) :
    Within mm pp s00 (State.innerStart s p) := by
  unfold State.innerStart
  try dsimp only
  repeat' with_reducible
    first | assumption | apply modPort_within | apply placeBurst_all | apply ite_within | split
          | (intro _ _ _) | (intro _ _) | exact sub hM (by decide) | dsimp only

theorem execPeriodStart_within (p : Port) (s : State) :
    ∀ u, execPeriodStart p s = .next u → Within 0x80010030000080000000000 p s u := by
  intro u hu
  cases hu
  have hM : 0x80010030000080000000000 ||| 0x80010030000080000000000 = 0x80010030000080000000000 := rfl
  have hW := Within.refl 0x80010030000080000000000 p s
  try dsimp only
  repeat' with_reducible
    first | assumption | apply flag_own | apply modPort_own | apply wr_own | apply bump_within
          | apply bumpBy_within | apply applyPhase_within | apply innerStart_within
          | apply unlatch_within | apply ite_within | split | (intro _ _ _) | (intro _ _)
          | exact sub hM (by decide) | decide | dsimp only

theorem execDrvEnFall_within (pp : Nat) (g : Fin 4) (s : State) :
    ∀ u, execDrvEnFall g s = .next u → Within 0x18000000000000000 pp s u := by
  intro u hu
  cases hu
  have hM : 0x18000000000000000 ||| 0x18000000000000000 = 0x18000000000000000 := rfl
  have hW := Within.refl 0x18000000000000000 pp s
  try dsimp only
  repeat' with_reducible
    first | assumption | apply irq_within | apply wrBit_within | apply ite_within | split
          | exact sub hM (by decide) | dsimp only

theorem execDrvSetupExpiry_within (pp : Nat) (g : Fin 4) (s : State) :
    ∀ u, execDrvSetupExpiry g s = .next u → Within 0x100000000000000000000000 pp s u := by
  intro u hu
  cases hu
  have hM : 0x100000000000000000000000 ||| 0x100000000000000000000000 = 0x100000000000000000000000 := rfl
  have hW := Within.refl 0x100000000000000000000000 pp s
  try dsimp only
  repeat' with_reducible
    first | assumption | apply modPort_within | apply forPorts_within | split | (intro _ _ _)
          | (intro _ _) | exact sub hM (by decide) | dsimp only

/-! ## Machine/Model.lean -/

theorem State.senseFault_within (s : State) (p : Port) (reason : Nat) (value : Int) (hM : mm ||| 0x480002000000000000140000 = mm) (hW : Within mm p s00 s) :
    Within mm p s00 (State.senseFault s p reason value) := by
  unfold State.senseFault
  try dsimp only
  repeat' with_reducible
    first | assumption | apply event_own | apply flag_own | apply model_within
          | apply showREst_within | apply ite_within | split | (intro _ _ _) | (intro _ _)
          | exact sub hM (by decide) | decide | dsimp only

theorem State.senseFault_all {pp : Nat} (s : State) (p : Port) (reason : Nat) (value : Int) (hM : mm ||| 0x502000000000000000140000 = mm) (hW : Within mm pp s00 s) :
    Within mm pp s00 (State.senseFault s p reason value) := by
  unfold State.senseFault
  try dsimp only
  repeat' with_reducible
    first | assumption | apply flag_within | apply event_all | apply model_all
          | apply showREst_all | apply ite_within | split | (intro _ _ _) | (intro _ _)
          | exact sub hM (by decide) | dsimp only

theorem State.pathHigh_within (s : State) (p : Port) (hM : mm ||| 0x480002000000000000140000 = mm) (hW : Within mm p s00 s) :
    Within mm p s00 (State.pathHigh s p) := by
  unfold State.pathHigh
  try dsimp only
  repeat' with_reducible
    first | assumption | apply event_own | apply flag_own | apply ite_within | split
          | exact sub hM (by decide) | decide | dsimp only

theorem State.pathHigh_all {pp : Nat} (s : State) (p : Port) (hM : mm ||| 0x502000000000000000140000 = mm) (hW : Within mm pp s00 s) :
    Within mm pp s00 (State.pathHigh s p) := by
  unfold State.pathHigh
  try dsimp only
  repeat' with_reducible
    first | assumption | apply flag_within | apply event_all | apply ite_within | split
          | exact sub hM (by decide) | dsimp only

theorem State.showModel_within (s : State) (p : Port) (hM : mm ||| 0x2000000000000000000 = mm) (hW : Within mm p s00 s) :
    Within mm p s00 (State.showModel s p) := by
  unfold State.showModel
  try dsimp only
  repeat' with_reducible
    first | assumption | apply wr_own | apply wrI_own | exact sub hM (by decide) | decide | dsimp only

theorem State.showModel_all {pp : Nat} (s : State) (p : Port) (hM : mm ||| 0x2000000000000000000000 = mm) (hW : Within mm pp s00 s) :
    Within mm pp s00 (State.showModel s p) := by
  unfold State.showModel
  try dsimp only
  repeat' with_reducible
    first | assumption | apply wr_within | apply wrI_within | exact sub hM (by decide) | dsimp only

theorem State.stepTimes_within (s : State) (p : Port) (hM : mm ||| 0x80000000000000000000000 = mm) (hW : Within mm p s00 s) :
    Within mm p s00 (State.stepTimes s p) := by
  unfold State.stepTimes
  try dsimp only
  repeat' with_reducible
    first | assumption | apply model_within | apply ite_within | split | (intro _ _ _) | (intro _ _)
          | exact sub hM (by decide) | dsimp only

theorem State.stepTimes_all {pp : Nat} (s : State) (p : Port) (hM : mm ||| 0x100000000000000000000000 = mm) (hW : Within mm pp s00 s) :
    Within mm pp s00 (State.stepTimes s p) := by
  unfold State.stepTimes
  try dsimp only
  repeat' with_reducible
    first | assumption | apply model_all | apply ite_within | split | (intro _ _ _) | (intro _ _)
          | exact sub hM (by decide) | dsimp only

theorem execModelOuterStep_within (p : Port) (s : State) :
    ∀ u, execModelOuterStep p s = .next u → Within 0x480002000000000000140000 p s u := by
  intro u hu
  cases hu
  have hM : 0x480002000000000000140000 ||| 0x480002000000000000140000 = 0x480002000000000000140000 := rfl
  have hW := Within.refl 0x480002000000000000140000 p s
  try dsimp only
  repeat' with_reducible
    first | assumption | apply flag_own | apply model_within | apply pathHigh_within
          | apply senseFault_within | apply showModel_within | apply stepTimes_within
          | apply ite_within | split | (intro _ _ _) | (intro _ _) | exact sub hM (by decide) | decide | dsimp only

theorem State.raiseAlarm_within (s : State) (p : Port) (flag : Field) (kind : Nat) (f : Int) (hf : mm ||| fieldMask true flag = mm)
    (ha : fieldArr flag = false) (hM : mm ||| 0x480006000000000000140000 = mm) (hW : Within mm p s00 s) : Within mm p s00 (s.raiseAlarm p flag kind f) := by
  unfold State.raiseAlarm
  exact State.showREst_within _ _ (sub hM (by decide)) (State.event_own _ _ _ _ _ _ (sub hM (by decide))
    (State.bump_own _ _ (sub hM (by decide)) (by decide) (State.flag_own _ _ _ hf ha hW)))

theorem State.raiseAlarm_all {pp : Nat} (s : State) (p : Port) (flag : Field) (kind : Nat) (f : Int) (hf : mm ||| fieldMask false flag = mm)
    (hM : mm ||| 0x506000000000000000140000 = mm) (hW : Within mm pp s00 s) : Within mm pp s00 (s.raiseAlarm p flag kind f) := by
  unfold State.raiseAlarm
  exact State.showREst_all _ _ (sub hM (by decide)) (State.event_all _ _ _ _ _ _ _ (sub hM (by decide))
    (State.bump_within _ _ _ (sub hM (by decide)) (State.flag_within _ _ _ _ hf hW)))

theorem execPlausAlarm_within (p : Port) (s : State) :
    ∀ u, execPlausAlarm p s = .next u → Within 0x480006000000000000140000 p s u := by
  intro u hu
  cases hu
  have hM : 0x480006000000000000140000 ||| 0x480006000000000000140000 = 0x480006000000000000140000 := rfl
  have hW := Within.refl 0x480006000000000000140000 p s
  try dsimp only
  repeat' with_reducible
    first | assumption | apply raiseAlarm_within | apply senseFault_within | apply ite_within | split
          | exact sub hM (by decide) | decide | dsimp only

theorem execPlausAlarmRelease_within (p : Port) (s : State) :
    ∀ u, execPlausAlarmRelease p s = .next u → Within 0x2000000000000000000 p s u := by
  intro u hu
  cases hu
  have hM : 0x2000000000000000000 ||| 0x2000000000000000000 = 0x2000000000000000000 := rfl
  have hW := Within.refl 0x2000000000000000000 p s
  try dsimp only
  repeat' with_reducible
    first | assumption | apply flag_own | apply showREst_within | apply ite_within | split
          | exact sub hM (by decide) | decide | dsimp only

theorem State.plausTrip_within (s : State) (p : Port) (kind : Nat) (f : Int) (hM : mm ||| 0xC08120000048003F4D0000000038140000 = mm) (hW : Within mm p s00 s) :
    Within mm p s00 (State.plausTrip s p kind f) := by
  unfold State.plausTrip
  try dsimp only
  repeat' with_reducible
    first | assumption | apply bump_own | apply event_own | apply trip_within | apply ite_within
          | split | exact sub hM (by decide) | decide | dsimp only

theorem State.plausTrip_all {pp : Nat} (s : State) (p : Port) (kind : Nat) (f : Int) (hM : mm ||| 0xC08120000053F4C0010000000038140000 = mm) (hW : Within mm pp s00 s) :
    Within mm pp s00 (State.plausTrip s p kind f) := by
  unfold State.plausTrip
  try dsimp only
  repeat' with_reducible
    first | assumption | apply bump_within | apply event_all | apply trip_all | apply ite_within
          | split | exact sub hM (by decide) | dsimp only

theorem execPlausAction_within (p : Port) (s : State) :
    ∀ u, execPlausAction p s = .next u → Within 0xC08120000048003F4D0000000038140000 p s u := by
  intro u hu
  cases hu
  have hM : 0xC08120000048003F4D0000000038140000 ||| 0xC08120000048003F4D0000000038140000 = 0xC08120000048003F4D0000000038140000 := rfl
  have hW := Within.refl 0xC08120000048003F4D0000000038140000 p s
  try dsimp only
  repeat' with_reducible
    first | assumption | apply foldback_within | apply model_within | apply plausTrip_within
          | apply ite_within | split | (intro _ _ _) | (intro _ _) | exact sub hM (by decide) | dsimp only

theorem execFoldbackClear_within (p : Port) (s : State) :
    ∀ u, execFoldbackClear p s = .next u → Within 0x80002000000000000000000 p s u := by
  intro u hu
  cases hu
  have hM : 0x80002000000000000000000 ||| 0x80002000000000000000000 = 0x80002000000000000000000 := rfl
  have hW := Within.refl 0x80002000000000000000000 p s
  try dsimp only
  repeat' with_reducible
    first | assumption | apply flag_own | apply model_within | apply showREst_within | split
          | (intro _ _ _) | (intro _ _) | exact sub hM (by decide) | decide | dsimp only

theorem State.cableFlags_within (s : State) (p : Port) (r : Nat) (hM : mm ||| 0x480002000000000000140000 = mm) (hW : Within mm p s00 s) :
    Within mm p s00 (State.cableFlags s p r) := by
  unfold State.cableFlags
  try dsimp only
  repeat' with_reducible
    first | assumption | apply event_own | apply flag_own | apply model_within
          | apply showREst_within | apply ite_within | split | (intro _ _ _) | (intro _ _)
          | exact sub hM (by decide) | decide | dsimp only

theorem State.cableFlags_all {pp : Nat} (s : State) (p : Port) (r : Nat) (hM : mm ||| 0x502000000000000000140000 = mm) (hW : Within mm pp s00 s) :
    Within mm pp s00 (State.cableFlags s p r) := by
  unfold State.cableFlags
  try dsimp only
  repeat' with_reducible
    first | assumption | apply flag_within | apply event_all | apply model_all
          | apply showREst_all | apply ite_within | split | (intro _ _ _) | (intro _ _)
          | exact sub hM (by decide) | dsimp only

theorem execLearningWindowEnd_within (p : Port) (s : State) :
    ∀ u, execLearningWindowEnd p s = .next u → Within 0x480006000000000000140000 p s u := by
  intro u hu
  cases hu
  have hM : 0x480006000000000000140000 ||| 0x480006000000000000140000 = 0x480006000000000000140000 := rfl
  have hW := Within.refl 0x480006000000000000140000 p s
  try dsimp only
  repeat' with_reducible
    first | assumption | apply bump_own | apply event_own | apply flag_own | apply wr_own
          | apply cableFlags_within | apply model_within | apply ite_within | split | (intro _ _ _)
          | (intro _ _) | exact sub hM (by decide) | decide | dsimp only

theorem execProbeStart_within (p : Port) (s : State) :
    ∀ u, execProbeStart p s = .next u → Within 0x80000000000000000000000 p s u := by
  intro u hu
  cases hu
  have hM : 0x80000000000000000000000 ||| 0x80000000000000000000000 = 0x80000000000000000000000 := rfl
  have hW := Within.refl 0x80000000000000000000000 p s
  try dsimp only
  repeat' with_reducible
    first | assumption | apply model_within | apply ite_within | split | (intro _ _ _) | (intro _ _)
          | exact sub hM (by decide) | dsimp only

end Sys2Proof.Machine
end

