-- ==== Sys2Proof/Laws/FootContract.lean ====
section
/-! SUPPORT. What the block's operations may change (Safety.lean says what `Within` is), one lemma for each: contracts and swaps.
`f_within` is for the command's own port, `f_all` for any port; each is proved from the lemmas of what its definition calls. -/

set_option linter.all false
set_option maxRecDepth 4000

namespace Sys2Proof.Machine
open State

variable {mm : Nat} {s00 : State}

/-! ## Machine/Contract.lean -/

theorem State.answer3_within (s : State) (p : Port) (m : PdMsg) (b : Body) (hM : mm ||| 0x180000E80000000000000000 = mm) (hW : Within mm p s00 s) :
    Within mm p s00 (State.answer3 s p m b) := by
  unfold State.answer3
  try dsimp only
  repeat' with_reducible
    first | assumption | apply refuseMsg_within | apply send_within | apply ite_within | split
          | exact sub hM (by decide) | dsimp only

theorem State.answer3_all {pp : Nat} (s : State) (p : Port) (m : PdMsg) (b : Body) (hM : mm ||| 0x100E80000000000000000000 = mm) (hW : Within mm pp s00 s) :
    Within mm pp s00 (State.answer3 s p m b) := by
  unfold State.answer3
  try dsimp only
  repeat' with_reducible
    first | assumption | apply refuseMsg_all | apply send_all | apply ite_within | split
          | exact sub hM (by decide) | dsimp only

theorem execRefusedMessage_within (p : Port) (m : PdMsg) (s : State) :
    ∀ u, execRefusedMessage p m s = .next u → Within 0xC00120000058001BFC0000400038140000 p s u := by
  intro u hu
  cases hu
  have hM : 0xC00120000058001BFC0000400038140000 ||| 0xC00120000058001BFC0000400038140000 = 0xC00120000058001BFC0000400038140000 := rfl
  have hW := Within.refl 0xC00120000058001BFC0000400038140000 p s
  try dsimp only
  repeat' with_reducible
    first | assumption | apply onMsg_within | apply refuseMsg_within | apply ite_within | split
          | (intro _ _ _) | (intro _ _) | exact sub hM (by decide) | dsimp only

theorem execDiscoverIdentitySop_within (p : Port) (s : State) :
    ∀ u, execDiscoverIdentitySop p s = .next u → Within 0xC00120000058001BFC0000400038140000 p s u := by
  intro u hu
  cases hu
  have hM : 0xC00120000058001BFC0000400038140000 ||| 0xC00120000058001BFC0000400038140000 = 0xC00120000058001BFC0000400038140000 := rfl
  have hW := Within.refl 0xC00120000058001BFC0000400038140000 p s
  try dsimp only
  repeat' with_reducible
    first | assumption | apply onMsg_within | apply send_within | split | (intro _ _ _) | (intro _ _)
          | exact sub hM (by decide) | dsimp only

theorem execStructuredVdmRequest_within (p : Port) (attention : Bool) (s : State) :
    ∀ u, execStructuredVdmRequest p attention s = .next u → Within 0xC00120000058001BFC0000400038140000 p s u := by
  intro u hu
  cases hu
  have hM : 0xC00120000058001BFC0000400038140000 ||| 0xC00120000058001BFC0000400038140000 = 0xC00120000058001BFC0000400038140000 := rfl
  have hW := Within.refl 0xC00120000058001BFC0000400038140000 p s
  try dsimp only
  repeat' with_reducible
    first | assumption | apply onMsg_within | apply send_within | apply ite_within | split | (intro _ _ _)
          | (intro _ _) | exact sub hM (by decide) | dsimp only

theorem execGetBatteryCap_within (p : Port) (status : Bool) (s : State) :
    ∀ u, execGetBatteryCap p status s = .next u → Within 0xC00120000058001BFC0000400038140000 p s u := by
  intro u hu
  cases hu
  have hM : 0xC00120000058001BFC0000400038140000 ||| 0xC00120000058001BFC0000400038140000 = 0xC00120000058001BFC0000400038140000 := rfl
  have hW := Within.refl 0xC00120000058001BFC0000400038140000 p s
  try dsimp only
  repeat' with_reducible
    first | assumption | apply answer3_within | apply onMsg_within | apply ite_within | split
          | (intro _ _ _) | (intro _ _) | exact sub hM (by decide) | dsimp only

theorem execGetManufacturerInfo_within (p : Port) (s : State) :
    ∀ u, execGetManufacturerInfo p s = .next u → Within 0xC00120000058001BFC0000400038140000 p s u := by
  intro u hu
  cases hu
  have hM : 0xC00120000058001BFC0000400038140000 ||| 0xC00120000058001BFC0000400038140000 = 0xC00120000058001BFC0000400038140000 := rfl
  have hW := Within.refl 0xC00120000058001BFC0000400038140000 p s
  try dsimp only
  repeat' with_reducible
    first | assumption | apply answer3_within | apply onMsg_within | split | (intro _ _ _) | (intro _ _)
          | exact sub hM (by decide) | dsimp only

theorem execGetSinkCap_within (p : Port) (q : CapQuery) (s : State) :
    ∀ u, execGetSinkCap p q s = .next u → Within 0xC00120000058001BFC0000400038140000 p s u := by
  intro u hu
  cases hu
  have hM : 0xC00120000058001BFC0000400038140000 ||| 0xC00120000058001BFC0000400038140000 = 0xC00120000058001BFC0000400038140000 := rfl
  have hW := Within.refl 0xC00120000058001BFC0000400038140000 p s
  try dsimp only
  repeat' with_reducible
    first | assumption | apply adopt_within | apply answer3_within | apply onMsg_within
          | apply refuseMsg_within | apply send_within | apply ite_within | split | (intro _ _ _)
          | (intro _ _) | exact sub hM (by decide) | dsimp only

theorem execGetSourceCap_within (p : Port) (q : CapQuery) (s : State) :
    ∀ u, execGetSourceCap p q s = .next u → Within 0xC00120000058001BFC0000400038140000 p s u := by
  intro u hu
  cases hu
  have hM : 0xC00120000058001BFC0000400038140000 ||| 0xC00120000058001BFC0000400038140000 = 0xC00120000058001BFC0000400038140000 := rfl
  have hW := Within.refl 0xC00120000058001BFC0000400038140000 p s
  try dsimp only
  repeat' with_reducible
    first | assumption | apply adopt_within | apply answer3_within | apply onMsg_within
          | apply pe_within | apply refuseMsg_within | apply send_within
          | apply sendCaps_within | apply ite_within | split | (intro _ _ _) | (intro _ _)
          | exact sub hM (by decide) | dsimp only

theorem execGetStatus_within (p : Port) (s : State) :
    ∀ u, execGetStatus p s = .next u → Within 0xC00120000058001BFC0000400038140000 p s u := by
  intro u hu
  cases hu
  have hM : 0xC00120000058001BFC0000400038140000 ||| 0xC00120000058001BFC0000400038140000 = 0xC00120000058001BFC0000400038140000 := rfl
  have hW := Within.refl 0xC00120000058001BFC0000400038140000 p s
  try dsimp only
  repeat' with_reducible
    first | assumption | apply answer3_within | apply onMsg_within | apply ite_within | split
          | (intro _ _ _) | (intro _ _) | exact sub hM (by decide) | dsimp only

theorem execGetPpsStatus_within (p : Port) (s : State) :
    ∀ u, execGetPpsStatus p s = .next u → Within 0xC00120000058001BFC0000400038140000 p s u := by
  intro u hu
  cases hu
  have hM : 0xC00120000058001BFC0000400038140000 ||| 0xC00120000058001BFC0000400038140000 = 0xC00120000058001BFC0000400038140000 := rfl
  have hW := Within.refl 0xC00120000058001BFC0000400038140000 p s
  try dsimp only
  repeat' with_reducible
    first | assumption | apply answer3_within | apply onMsg_within | apply ite_within | split
          | (intro _ _ _) | (intro _ _) | exact sub hM (by decide) | dsimp only

theorem execGetSourceInfo_within (p : Port) (s : State) :
    ∀ u, execGetSourceInfo p s = .next u → Within 0xC00120000058001BFC0000400038140000 p s u := by
  intro u hu
  cases hu
  have hM : 0xC00120000058001BFC0000400038140000 ||| 0xC00120000058001BFC0000400038140000 = 0xC00120000058001BFC0000400038140000 := rfl
  have hW := Within.refl 0xC00120000058001BFC0000400038140000 p s
  try dsimp only
  repeat' with_reducible
    first | assumption | apply answer3_within | apply onMsg_within | split | (intro _ _ _) | (intro _ _)
          | exact sub hM (by decide) | dsimp only

theorem execGetRevision_within (p : Port) (s : State) :
    ∀ u, execGetRevision p s = .next u → Within 0xC00120000058001BFC0000400038140000 p s u := by
  intro u hu
  cases hu
  have hM : 0xC00120000058001BFC0000400038140000 ||| 0xC00120000058001BFC0000400038140000 = 0xC00120000058001BFC0000400038140000 := rfl
  have hW := Within.refl 0xC00120000058001BFC0000400038140000 p s
  try dsimp only
  repeat' with_reducible
    first | assumption | apply answer3_within | apply onMsg_within | split | (intro _ _ _) | (intro _ _)
          | exact sub hM (by decide) | dsimp only

theorem execSourceCapabilitiesSent_within (x : CapsDue) (s : State) :
    ∀ u, execSourceCapabilitiesSent x s = .next u → Within 0x200000180000E80000000000000000 x.port s u := by
  intro u hu
  cases hu
  have hM : 0x200000180000E80000000000000000 ||| 0x200000180000E80000000000000000 = 0x200000180000E80000000000000000 := rfl
  have hW := Within.refl 0x200000180000E80000000000000000 x.port s
  try dsimp only
  repeat' with_reducible
    first | assumption | apply pe_within | apply phy_within | apply sendCaps_within
          | apply ite_within | split | (intro _ _ _) | (intro _ _) | exact sub hM (by decide) | dsimp only

theorem execTSourceCapabilityExpiry_within (p : Port) (s : State) :
    ∀ u, execTSourceCapabilityExpiry p s = .next u → Within 0x200000180000E80000000000000000 p s u := by
  intro u hu
  cases hu
  have hM : 0x200000180000E80000000000000000 ||| 0x200000180000E80000000000000000 = 0x200000180000E80000000000000000 := rfl
  have hW := Within.refl 0x200000180000E80000000000000000 p s
  try dsimp only
  repeat' with_reducible
    first | assumption | apply pe_within | apply sendCaps_within | apply ite_within | split
          | (intro _ _ _) | (intro _ _) | exact sub hM (by decide) | dsimp only

theorem State.rejected_within (s : State) (p : Port) (r : Rdo) (code : Nat) (hM : mm ||| 0x480000000000000000140000 = mm) (hW : Within mm p s00 s) :
    Within mm p s00 (State.rejected s p r code) := by
  unfold State.rejected
  try dsimp only
  repeat' with_reducible
    first | assumption | apply event_own | exact sub hM (by decide) | decide | dsimp only

theorem State.rejected_all {pp : Nat} (s : State) (p : Port) (r : Rdo) (code : Nat) (hM : mm ||| 0x500000000000000000140000 = mm) (hW : Within mm pp s00 s) :
    Within mm pp s00 (State.rejected s p r code) := by
  unfold State.rejected
  try dsimp only
  repeat' with_reducible
    first | assumption | apply event_all | exact sub hM (by decide) | dsimp only

theorem State.afterAnswer_within (s : State) (p : Port) (hM : mm ||| 0x400000000000000000 = mm) (hW : Within mm p s00 s) :
    Within mm p s00 (State.afterAnswer s p) := by
  unfold State.afterAnswer
  try dsimp only
  repeat' with_reducible
    first | assumption | apply wr_own | apply ite_within | split | exact sub hM (by decide) | decide
          | dsimp only

theorem State.afterAnswer_all {pp : Nat} (s : State) (p : Port) (hM : mm ||| 0x400000000000000000000 = mm) (hW : Within mm pp s00 s) :
    Within mm pp s00 (State.afterAnswer s p) := by
  unfold State.afterAnswer
  try dsimp only
  repeat' with_reducible
    first | assumption | apply wr_within | apply ite_within | split | exact sub hM (by decide) | dsimp only

theorem State.noteMismatch_within (s : State) (p : Port) (r : Rdo) (c : Contract) (hM : mm ||| 0x480000000000000000140000 = mm) (hW : Within mm p s00 s) :
    Within mm p s00 (State.noteMismatch s p r c) := by
  unfold State.noteMismatch
  try dsimp only
  repeat' with_reducible
    first | assumption | apply event_own | apply pe_within | apply ite_within | split | (intro _ _ _)
          | (intro _ _) | exact sub hM (by decide) | decide | dsimp only

theorem State.noteMismatch_all {pp : Nat} (s : State) (p : Port) (r : Rdo) (c : Contract) (hM : mm ||| 0x500000000000000000140000 = mm) (hW : Within mm pp s00 s) :
    Within mm pp s00 (State.noteMismatch s p r c) := by
  unfold State.noteMismatch
  try dsimp only
  repeat' with_reducible
    first | assumption | apply event_all | apply pe_all | apply ite_within | split | (intro _ _ _)
          | (intro _ _) | exact sub hM (by decide) | dsimp only

theorem State.answerRequest_within (s : State) (p : Port) (r : Rdo) (isEpr : Bool) (copy : Pdo) (hM : mm ||| 0xC001200000580000E80000000038140000 = mm) (hW : Within mm p s00 s) :
    Within mm p s00 (State.answerRequest s p r isEpr copy) := by
  unfold State.answerRequest
  try dsimp only
  repeat' with_reducible
    first | assumption | apply flag_own | apply acceptContract_within | apply afterAnswer_within
          | apply noteMismatch_within | apply pe_within | apply rejected_within
          | apply send_within | apply sendCache_within | apply sendSoftReset_within | split
          | (intro _ _ _) | (intro _ _) | exact sub hM (by decide) | decide | dsimp only

theorem State.answerRequest_all {pp : Nat} (s : State) (p : Port) (r : Rdo) (isEpr : Bool) (copy : Pdo) (hM : mm ||| 0xC001200000500E80000000000038140000 = mm) (hW : Within mm pp s00 s) :
    Within mm pp s00 (State.answerRequest s p r isEpr copy) := by
  unfold State.answerRequest
  try dsimp only
  repeat' with_reducible
    first | assumption | apply flag_within | apply acceptContract_all | apply afterAnswer_all
          | apply noteMismatch_all | apply pe_all | apply rejected_all | apply send_all
          | apply sendCache_all | apply sendSoftReset_all | split | (intro _ _ _) | (intro _ _)
          | exact sub hM (by decide) | dsimp only

theorem State.onRequest_within (s : State) (p : Port) (m : PdMsg) (r : Rdo) (isEpr : Bool) (copy : Pdo) (hM : mm ||| 0xC00120000058001BFC0000400038140000 = mm) (hW : Within mm p s00 s) :
    Within mm p s00 (State.onRequest s p m r isEpr copy) := by
  unfold State.onRequest
  try dsimp only
  repeat' with_reducible
    first | assumption | apply answerRequest_within | apply onMsg_within
          | apply sendSoftReset_within | apply ite_within | split | (intro _ _ _) | (intro _ _)
          | exact sub hM (by decide) | dsimp only

theorem State.onRequest_all {pp : Nat} (s : State) (p : Port) (m : PdMsg) (r : Rdo) (isEpr : Bool) (copy : Pdo) (hM : mm ||| 0xC00120000051BFC0000000400038140000 = mm) (hW : Within mm pp s00 s) :
    Within mm pp s00 (State.onRequest s p m r isEpr copy) := by
  unfold State.onRequest
  try dsimp only
  repeat' with_reducible
    first | assumption | apply answerRequest_all | apply onMsg_all | apply sendSoftReset_all
          | apply ite_within | split | (intro _ _ _) | (intro _ _) | exact sub hM (by decide) | dsimp only

theorem execRequest_within (p : Port) (r : Rdo) (s : State) :
    ∀ u, execRequest p r s = .next u → Within 0xC00120000058001BFC0000400038140000 p s u := by
  intro u hu
  cases hu
  have hM : 0xC00120000058001BFC0000400038140000 ||| 0xC00120000058001BFC0000400038140000 = 0xC00120000058001BFC0000400038140000 := rfl
  have hW := Within.refl 0xC00120000058001BFC0000400038140000 p s
  try dsimp only
  repeat' with_reducible
    first | assumption | apply onRequest_within | exact sub hM (by decide) | dsimp only

theorem execEprRequest_within (p : Port) (r : Rdo) (copy : Pdo) (s : State) :
    ∀ u, execEprRequest p r copy s = .next u → Within 0xC00120000058001BFC0000400038140000 p s u := by
  intro u hu
  cases hu
  have hM : 0xC00120000058001BFC0000400038140000 ||| 0xC00120000058001BFC0000400038140000 = 0xC00120000058001BFC0000400038140000 := rfl
  have hW := Within.refl 0xC00120000058001BFC0000400038140000 p s
  try dsimp only
  repeat' with_reducible
    first | assumption | apply onRequest_within | exact sub hM (by decide) | dsimp only

theorem State.requestSink_within (s : State) (p : Port) (c : Contract) (ams : Bool) (hM : mm ||| 0x180000E80000000000000000 = mm) (hW : Within mm p s00 s) :
    Within mm p s00 (State.requestSink s p c ams) := by
  unfold State.requestSink
  try dsimp only
  repeat' with_reducible
    first | assumption | apply wr_own | apply pe_within | apply sendFrame_within | apply ite_within
          | split | (intro _ _ _) | (intro _ _) | exact sub hM (by decide) | decide | dsimp only

theorem State.requestSink_all {pp : Nat} (s : State) (p : Port) (c : Contract) (ams : Bool) (hM : mm ||| 0x100E80000000000000000000 = mm) (hW : Within mm pp s00 s) :
    Within mm pp s00 (State.requestSink s p c ams) := by
  unfold State.requestSink
  try dsimp only
  repeat' with_reducible
    first | assumption | apply wr_within | apply pe_all | apply sendFrame_all | apply ite_within
          | split | (intro _ _ _) | (intro _ _) | exact sub hM (by decide) | dsimp only

theorem State.askSink_within (s : State) (p : Port) (caps : List Pdo) (hM : mm ||| 0x180000E80000000000000000 = mm) (hW : Within mm p s00 s) :
    Within mm p s00 (State.askSink s p caps) := by
  unfold State.askSink
  try dsimp only
  repeat' with_reducible
    first | assumption | apply pe_within | apply requestSink_within | apply ite_within | split
          | (intro _ _ _) | (intro _ _) | exact sub hM (by decide) | dsimp only

theorem State.askSink_all {pp : Nat} (s : State) (p : Port) (caps : List Pdo) (hM : mm ||| 0x100E80000000000000000000 = mm) (hW : Within mm pp s00 s) :
    Within mm pp s00 (State.askSink s p caps) := by
  unfold State.askSink
  try dsimp only
  repeat' with_reducible
    first | assumption | apply pe_all | apply requestSink_all | apply ite_within | split | (intro _ _ _)
          | (intro _ _) | exact sub hM (by decide) | dsimp only

theorem State.askAgain_within (s : State) (p : Port) (hM : mm ||| 0x180000E80000000000000000 = mm) (hW : Within mm p s00 s) :
    Within mm p s00 (State.askAgain s p) := by
  unfold State.askAgain
  try dsimp only
  repeat' with_reducible
    first | assumption | apply pe_within | apply requestSink_within | apply ite_within | split
          | (intro _ _ _) | (intro _ _) | exact sub hM (by decide) | dsimp only

theorem State.askAgain_all {pp : Nat} (s : State) (p : Port) (hM : mm ||| 0x100E80000000000000000000 = mm) (hW : Within mm pp s00 s) :
    Within mm pp s00 (State.askAgain s p) := by
  unfold State.askAgain
  try dsimp only
  repeat' with_reducible
    first | assumption | apply pe_all | apply requestSink_all | apply ite_within | split | (intro _ _ _)
          | (intro _ _) | exact sub hM (by decide) | dsimp only

theorem execSourceCapabilitiesReceived_within (p : Port) (caps : List Pdo) (f : CapFlags) (s : State) :
    ∀ u, execSourceCapabilitiesReceived p caps f s = .next u → Within 0xC00120000058001BFC0000400038140000 p s u := by
  intro u hu
  cases hu
  have hM : 0xC00120000058001BFC0000400038140000 ||| 0xC00120000058001BFC0000400038140000 = 0xC00120000058001BFC0000400038140000 := rfl
  have hW := Within.refl 0xC00120000058001BFC0000400038140000 p s
  try dsimp only
  repeat' with_reducible
    first | assumption | apply flag_own | apply askSink_within | apply onMsg_within
          | apply pe_within | apply phy_within | apply sendCache_within
          | apply sendSoftReset_within | apply ite_within | split | (intro _ _ _) | (intro _ _)
          | exact sub hM (by decide) | decide | dsimp only

theorem State.sinkHardReset_within (s : State) (p : Port) (hM : mm ||| 0xC00120000048001B4C0000000038140000 = mm) (hW : Within mm p s00 s) :
    Within mm p s00 (State.sinkHardReset s p) := by
  unfold State.sinkHardReset
  try dsimp only
  repeat' with_reducible
    first | assumption | apply errorRecovery_within | apply sendHardReset_within | apply ite_within
          | split | exact sub hM (by decide) | dsimp only

theorem State.sinkHardReset_all {pp : Nat} (s : State) (p : Port) (hM : mm ||| 0xC00120000051B4C0000000000038140000 = mm) (hW : Within mm pp s00 s) :
    Within mm pp s00 (State.sinkHardReset s p) := by
  unfold State.sinkHardReset
  try dsimp only
  repeat' with_reducible
    first | assumption | apply errorRecovery_all | apply sendHardReset_all | apply ite_within | split
          | exact sub hM (by decide) | dsimp only

theorem execTTypecSinkWaitCapExpiry_within (p : Port) (s : State) :
    ∀ u, execTTypecSinkWaitCapExpiry p s = .next u → Within 0xC00120000048001B4C0000000038140000 p s u := by
  intro u hu
  cases hu
  have hM : 0xC00120000048001B4C0000000038140000 ||| 0xC00120000048001B4C0000000038140000 = 0xC00120000048001B4C0000000038140000 := rfl
  have hW := Within.refl 0xC00120000048001B4C0000000038140000 p s
  try dsimp only
  repeat' with_reducible
    first | assumption | apply sinkHardReset_within | apply ite_within | split | exact sub hM (by decide)
          | dsimp only

theorem execTPsTransitionExpiry_within (p : Port) (vbusMv : Nat) (s : State) :
    ∀ u, execTPsTransitionExpiry p vbusMv s = .next u → Within 0xC00120000048001B4C0000000038140000 p s u := by
  intro u hu
  cases hu
  have hM : 0xC00120000048001B4C0000000038140000 ||| 0xC00120000048001B4C0000000038140000 = 0xC00120000048001B4C0000000038140000 := rfl
  have hW := Within.refl 0xC00120000048001B4C0000000038140000 p s
  try dsimp only
  repeat' with_reducible
    first | assumption | apply event_own | apply sinkHardReset_within | apply ite_within | split
          | exact sub hM (by decide) | decide | dsimp only

theorem execSinkAcceptReceived_within (p : Port) (s : State) :
    ∀ u, execSinkAcceptReceived p s = .next u → Within 0xC00120000058001BFC0000400038140000 p s u := by
  intro u hu
  cases hu
  have hM : 0xC00120000058001BFC0000400038140000 ||| 0xC00120000058001BFC0000400038140000 = 0xC00120000058001BFC0000400038140000 := rfl
  have hW := Within.refl 0xC00120000058001BFC0000400038140000 p s
  try dsimp only
  repeat' with_reducible
    first | assumption | apply wr_own | apply chunkFailed_within | apply drain_within
          | apply pe_within | apply take_within | apply ite_within | split | (intro _ _ _) | (intro _ _)
          | exact sub hM (by decide) | decide | dsimp only

theorem State.sinkEnterEpr_within (s : State) (p : Port) (first : Bool) (hM : mm ||| 0x180000E80000000000000000 = mm) (hW : Within mm p s00 s) :
    Within mm p s00 (State.sinkEnterEpr s p first) := by
  unfold State.sinkEnterEpr
  try dsimp only
  repeat' with_reducible
    first | assumption | apply pe_within | apply sendAms_within | apply ite_within | split | (intro _ _ _)
          | (intro _ _) | exact sub hM (by decide) | dsimp only

theorem State.sinkEnterEpr_all {pp : Nat} (s : State) (p : Port) (first : Bool) (hM : mm ||| 0x100E80000000000000000000 = mm) (hW : Within mm pp s00 s) :
    Within mm pp s00 (State.sinkEnterEpr s p first) := by
  unfold State.sinkEnterEpr
  try dsimp only
  repeat' with_reducible
    first | assumption | apply pe_all | apply sendAms_all | apply ite_within | split | (intro _ _ _)
          | (intro _ _) | exact sub hM (by decide) | dsimp only

theorem execSinkPsRdyReceived_within (p : Port) (s : State) :
    ∀ u, execSinkPsRdyReceived p s = .next u → Within 0xC00130000058001BFC0000407038140000 p s u := by
  intro u hu
  cases hu
  have hM : 0xC00130000058001BFC0000407038140000 ||| 0xC00130000058001BFC0000407038140000 = 0xC00130000058001BFC0000407038140000 := rfl
  have hW := Within.refl 0xC00130000058001BFC0000407038140000 p s
  try dsimp only
  repeat' with_reducible
    first | assumption | apply wr_own | apply amsEnd_within | apply chunkFailed_within
          | apply contractMade_within | apply drain_within | apply pe_within
          | apply sinkEnterEpr_within | apply take_within | apply ite_within | split | (intro _ _ _)
          | (intro _ _) | exact sub hM (by decide) | decide | dsimp only

theorem State.withdraw_within (s : State) (p : Port) (hM : mm ||| 0x80000400000000000000000 = mm) (hW : Within mm p s00 s) :
    Within mm p s00 (State.withdraw s p) := by
  unfold State.withdraw
  try dsimp only
  repeat' with_reducible
    first | assumption | apply wr_own | apply cancelHeld_within | apply pe_within | apply ite_within
          | split | (intro _ _ _) | (intro _ _) | exact sub hM (by decide) | decide | dsimp only

theorem execSinkKeepaliveInterval_within (x : KeepAliveDue) (s : State) :
    ∀ u, execSinkKeepaliveInterval x s = .next u → Within 0x180000E80000000000000000 x.port s u := by
  intro u hu
  cases hu
  have hM : 0x180000E80000000000000000 ||| 0x180000E80000000000000000 = 0x180000E80000000000000000 := rfl
  have hW := Within.refl 0x180000E80000000000000000 x.port s
  try dsimp only
  repeat' with_reducible
    first | assumption | apply pe_within | apply pump_within | apply requestSink_within
          | apply sendAms_within | apply withdraw_within | apply ite_within | split | (intro _ _ _)
          | (intro _ _) | exact sub hM (by decide) | dsimp only

theorem execTSrcTransitionExpiry_within (p : Port) (s : State) :
    ∀ u, execTSrcTransitionExpiry p s = .next u → Within 0x48003A000000000000140000 p s u := by
  intro u hu
  cases hu
  have hM : 0x48003A000000000000140000 ||| 0x48003A000000000000140000 = 0x48003A000000000000140000 := rfl
  have hW := Within.refl 0x48003A000000000000140000 p s
  try dsimp only
  repeat' with_reducible
    first | assumption | apply wr_own | apply openLow_within | apply pe_within
          | apply setCdc_within | apply swp_within | apply ite_within | split | (intro _ _ _)
          | (intro _ _) | exact sub hM (by decide) | decide | dsimp only

theorem execRampComplete_within (p : Port) (s : State) :
    ∀ u, execRampComplete p s = .next u → Within 0x80000000000000000000000 p s u := by
  intro u hu
  cases hu
  have hM : 0x80000000000000000000000 ||| 0x80000000000000000000000 = 0x80000000000000000000000 := rfl
  have hW := Within.refl 0x80000000000000000000000 p s
  try dsimp only
  repeat' with_reducible
    first | assumption | apply pe_within | apply ite_within | split | (intro _ _ _) | (intro _ _)
          | exact sub hM (by decide) | dsimp only

theorem execVbusSettled_within (p : Port) (vbusMv : Nat) (s : State) :
    ∀ u, execVbusSettled p vbusMv s = .next u → Within 0x180002E80000400000000000 p s u := by
  intro u hu
  cases hu
  have hM : 0x180002E80000400000000000 ||| 0x180002E80000400000000000 = 0x180002E80000400000000000 := rfl
  have hW := Within.refl 0x180002E80000400000000000 p s
  try dsimp only
  repeat' with_reducible
    first | assumption | apply pe_within | apply sendPsRdy_within | apply ite_within | split
          | (intro _ _ _) | (intro _ _) | exact sub hM (by decide) | dsimp only

theorem execSettleTimeout_within (p : Port) (vbusMv : Nat) (s : State) :
    ∀ u, execSettleTimeout p vbusMv s = .next u → Within 0x480000400000000000140000 p s u := by
  intro u hu
  cases hu
  have hM : 0x480000400000000000140000 ||| 0x480000400000000000140000 = 0x480000400000000000140000 := rfl
  have hW := Within.refl 0x480000400000000000140000 p s
  try dsimp only
  repeat' with_reducible
    first | assumption | apply event_own | apply sendHardReset_within | apply ite_within | split
          | exact sub hM (by decide) | decide | dsimp only

theorem execPpsUndervoltage_within (p : Port) (vbusMv : Nat) (s : State) :
    ∀ u, execPpsUndervoltage p vbusMv s = .next u → Within 0x80000400000000000000000 p s u := by
  intro u hu
  cases hu
  have hM : 0x80000400000000000000000 ||| 0x80000400000000000000000 = 0x80000400000000000000000 := rfl
  have hW := Within.refl 0x80000400000000000000000 p s
  try dsimp only
  repeat' with_reducible
    first | assumption | apply sendHardReset_within | apply ite_within | split | exact sub hM (by decide)
          | dsimp only

theorem execEprModeEnter_within (p : Port) (s : State) :
    ∀ u, execEprModeEnter p s = .next u → Within 0xC00120000058001BFC0000400038140000 p s u := by
  intro u hu
  cases hu
  have hM : 0xC00120000058001BFC0000400038140000 ||| 0xC00120000058001BFC0000400038140000 = 0xC00120000058001BFC0000400038140000 := rfl
  have hW := Within.refl 0xC00120000058001BFC0000400038140000 p s
  try dsimp only
  repeat' with_reducible
    first | assumption | apply discoverCable_within | apply eprConclude_within
          | apply eprFail_within | apply onMsg_within | apply pe_within
          | apply refuseMsg_within | apply send_within | apply sendSoftReset_within
          | apply ite_within | split | (intro _ _ _) | (intro _ _) | exact sub hM (by decide) | dsimp only

theorem execEprModeExit_within (p : Port) (s : State) :
    ∀ u, execEprModeExit p s = .next u → Within 0xC00120000058001BFC0000400038140000 p s u := by
  intro u hu
  cases hu
  have hM : 0xC00120000058001BFC0000400038140000 ||| 0xC00120000058001BFC0000400038140000 = 0xC00120000058001BFC0000400038140000 := rfl
  have hW := Within.refl 0xC00120000058001BFC0000400038140000 p s
  try dsimp only
  repeat' with_reducible
    first | assumption | apply event_own | apply flag_own | apply wr_own
          | apply leaveEpr_within | apply onMsg_within | apply pe_within
          | apply refuseMsg_within | apply sendCache_within | apply sendHardReset_within
          | apply sendSoftReset_within | apply ite_within | split | (intro _ _ _) | (intro _ _)
          | exact sub hM (by decide) | decide | dsimp only

theorem execEprAutoExit_within (p : Port) (s : State) :
    ∀ u, execEprAutoExit p s = .next u → Within 0x200000580000E80000000000140000 p s u := by
  intro u hu
  cases hu
  have hM : 0x200000580000E80000000000140000 ||| 0x200000580000E80000000000140000 = 0x200000580000E80000000000140000 := rfl
  have hW := Within.refl 0x200000580000E80000000000140000 p s
  try dsimp only
  repeat' with_reducible
    first | assumption | apply eprAutoExit_within | apply ite_within | split | exact sub hM (by decide)
          | dsimp only

theorem execEprExitTimeout_within (p : Port) (s : State) :
    ∀ u, execEprExitTimeout p s = .next u → Within 0x80000400000000000000000 p s u := by
  intro u hu
  cases hu
  have hM : 0x80000400000000000000000 ||| 0x80000400000000000000000 = 0x80000400000000000000000 := rfl
  have hW := Within.refl 0x80000400000000000000000 p s
  try dsimp only
  repeat' with_reducible
    first | assumption | apply sendHardReset_within | apply ite_within | split | exact sub hM (by decide)
          | dsimp only

theorem execEprKeepalive_within (p : Port) (s : State) :
    ∀ u, execEprKeepalive p s = .next u → Within 0xC00120000058001BFC0000400038140000 p s u := by
  intro u hu
  cases hu
  have hM : 0xC00120000058001BFC0000400038140000 ||| 0xC00120000058001BFC0000400038140000 = 0xC00120000058001BFC0000400038140000 := rfl
  have hW := Within.refl 0xC00120000058001BFC0000400038140000 p s
  try dsimp only
  repeat' with_reducible
    first | assumption | apply onMsg_within | apply refuseMsg_within | apply send_within
          | apply sendSoftReset_within | apply ite_within | split | (intro _ _ _) | (intro _ _)
          | exact sub hM (by decide) | dsimp only

theorem State.superviseExpire_within (s : State) (p : Port) (k : EvKind) (hM : mm ||| 0x480000400000000000140000 = mm) (hW : Within mm p s00 s) :
    Within mm p s00 (State.superviseExpire s p k) := by
  unfold State.superviseExpire
  try dsimp only
  repeat' with_reducible
    first | assumption | apply event_own | apply sendHardReset_within | split | exact sub hM (by decide)
          | decide | dsimp only

theorem State.superviseExpire_all {pp : Nat} (s : State) (p : Port) (k : EvKind) (hM : mm ||| 0x500400000000000000140000 = mm) (hW : Within mm pp s00 s) :
    Within mm pp s00 (State.superviseExpire s p k) := by
  unfold State.superviseExpire
  try dsimp only
  repeat' with_reducible
    first | assumption | apply event_all | apply sendHardReset_all | split | exact sub hM (by decide)
          | dsimp only

theorem execTPpsTimeoutExpiry_within (p : Port) (s : State) :
    ∀ u, execTPpsTimeoutExpiry p s = .next u → Within 0x480000400000000000140000 p s u := by
  intro u hu
  cases hu
  have hM : 0x480000400000000000140000 ||| 0x480000400000000000140000 = 0x480000400000000000140000 := rfl
  have hW := Within.refl 0x480000400000000000140000 p s
  try dsimp only
  repeat' with_reducible
    first | assumption | apply superviseExpire_within | apply ite_within | split | exact sub hM (by decide)
          | dsimp only

theorem execTSourceEprKeepaliveExpiry_within (p : Port) (s : State) :
    ∀ u, execTSourceEprKeepaliveExpiry p s = .next u → Within 0x480000400000000000140000 p s u := by
  intro u hu
  cases hu
  have hM : 0x480000400000000000140000 ||| 0x480000400000000000140000 = 0x480000400000000000140000 := rfl
  have hW := Within.refl 0x480000400000000000140000 p s
  try dsimp only
  repeat' with_reducible
    first | assumption | apply superviseExpire_within | apply ite_within | split | exact sub hM (by decide)
          | dsimp only

theorem execSoftResetReceived_within (p : Port) (k : Sop) (s : State) :
    ∀ u, execSoftResetReceived p k s = .next u → Within 0xC00120000058001BFC0000400038140000 p s u := by
  intro u hu
  cases hu
  have hM : 0xC00120000058001BFC0000400038140000 ||| 0xC00120000058001BFC0000400038140000 = 0xC00120000058001BFC0000400038140000 := rfl
  have hW := Within.refl 0xC00120000058001BFC0000400038140000 p s
  try dsimp only
  repeat' with_reducible
    first | assumption | apply bump_own | apply irq_own | apply wr_own
          | apply chunkFailed_within | apply clearIds_within | apply drain_within
          | apply endVdm_within | apply pe_within | apply phy_within
          | apply releaseReasm_within | apply send_within | apply sendCaps_within
          | apply sendHardReset_within | apply swapEnd_within | apply take_within | apply ite_within
          | split | (intro _ _ _) | (intro _ _) | exact sub hM (by decide) | decide | dsimp only

theorem execTPsHardResetExpiry_within (p : Port) (s : State) :
    ∀ u, execTPsHardResetExpiry p s = .next u → Within 0x48003A080000000000140000 p s u := by
  intro u hu
  cases hu
  have hM : 0x48003A080000000000140000 ||| 0x48003A080000000000140000 = 0x48003A080000000000140000 := rfl
  have hW := Within.refl 0x48003A080000000000140000 p s
  try dsimp only
  repeat' with_reducible
    first | assumption | apply wr_own | apply openLow_within | apply pe_within
          | apply unqualify_within | apply vconnOff_within | apply ite_within | split | (intro _ _ _)
          | (intro _ _) | exact sub hM (by decide) | decide | dsimp only

theorem execVbusBelow4v_within (p : Port) (s : State) :
    ∀ u, execVbusBelow4v p s = .next u → Within 0xC00120000048001B4C0000000038140000 p s u := by
  intro u hu
  cases hu
  have hM : 0xC00120000048001B4C0000000038140000 ||| 0xC00120000048001B4C0000000038140000 = 0xC00120000048001B4C0000000038140000 := rfl
  have hW := Within.refl 0xC00120000048001B4C0000000038140000 p s
  try dsimp only
  repeat' with_reducible
    first | assumption | apply wr_own | apply noteVbus_within | apply openEnds_within
          | apply openPlanned_within | apply pe_within | apply swp_within | apply ite_within | split
          | (intro _ _ _) | (intro _ _) | exact sub hM (by decide) | decide | dsimp only

theorem execVbusAtVsafe0v_within (p : Port) (s : State) :
    ∀ u, execVbusAtVsafe0v p s = .next u → Within 0x80010000000000000000000 p s u := by
  intro u hu
  cases hu
  have hM : 0x80010000000000000000000 ||| 0x80010000000000000000000 = 0x80010000000000000000000 := rfl
  have hW := Within.refl 0x80010000000000000000000 p s
  try dsimp only
  repeat' with_reducible
    first | assumption | apply flag_own | apply dsgOff_within | apply guardTo_within
          | apply noteVbus_within | apply pe_within | apply ite_within | split | (intro _ _ _)
          | (intro _ _) | exact sub hM (by decide) | decide | dsimp only

theorem execTSrcRecoverExpiry_within (p : Port) (s : State) :
    ∀ u, execTSrcRecoverExpiry p s = .next u → Within 0xC00120000048003B5C0000000038140000 p s u := by
  intro u hu
  cases hu
  have hM : 0xC00120000048003B5C0000000038140000 ||| 0xC00120000048003B5C0000000038140000 = 0xC00120000048003B5C0000000038140000 := rfl
  have hW := Within.refl 0xC00120000048003B5C0000000038140000 p s
  try dsimp only
  repeat' with_reducible
    first | assumption | apply cmdSoftStart_within | apply implicitSetpoint_within | apply pe_within
          | apply vconnClaim_within | apply ite_within | split | (intro _ _ _) | (intro _ _)
          | exact sub hM (by decide) | dsimp only

theorem execTSafe0vExpiry_within (p : Port) (s : State) :
    ∀ u, execTSafe0vExpiry p s = .next u → Within 0xC00120000048001B4C0000000038140000 p s u := by
  intro u hu
  cases hu
  have hM : 0xC00120000048001B4C0000000038140000 ||| 0xC00120000048001B4C0000000038140000 = 0xC00120000048001B4C0000000038140000 := rfl
  have hW := Within.refl 0xC00120000048001B4C0000000038140000 p s
  try dsimp only
  repeat' with_reducible
    first | assumption | apply errorRecovery_within | apply ite_within | split | exact sub hM (by decide)
          | dsimp only

theorem execDetachInTransition_within (p : Port) (s : State) :
    ∀ u, execDetachInTransition p s = .next u → Within 0xC00120000058001B5C0000000038140000 p s u := by
  intro u hu
  cases hu
  have hM : 0xC00120000058001B5C0000000038140000 ||| 0xC00120000058001B5C0000000038140000 = 0xC00120000058001B5C0000000038140000 := rfl
  have hW := Within.refl 0xC00120000058001B5C0000000038140000 p s
  try dsimp only
  repeat' with_reducible
    first | assumption | apply detach_within | apply ite_within | split | exact sub hM (by decide) | dsimp only

theorem execGuardOn_within (p : Port) (us : Nat) (s : State) :
    ∀ u, execGuardOn p us s = .next u → Within 0x20000058003BE80000400000140000 p s u := by
  intro u hu
  cases hu
  have hM : 0x20000058003BE80000400000140000 ||| 0x20000058003BE80000400000140000 = 0x20000058003BE80000400000140000 := rfl
  have hW := Within.refl 0x20000058003BE80000400000140000 p s
  try dsimp only
  repeat' with_reducible
    first | assumption | apply event_own | apply flag_own | apply wr_own | apply amsEnd_within
          | apply closed_within | apply grd_within | apply islandJoin_within
          | apply send_within | apply setMode_within | apply swapEnd_within | apply swp_within
          | apply ite_within | split | (intro _ _ _) | (intro _ _) | exact sub hM (by decide) | decide | dsimp only

/-! ## Machine/Swap.lean -/

theorem State.contest_within (s : State) (p : Port) (f : State → State) (h_f : ∀ t, Within mm p s00 t → Within mm p s00 (f t)) (hM : mm ||| 0xC001200000580000E80000000038140000 = mm) (hW : Within mm p s00 s) :
    Within mm p s00 (State.contest s p f) := by
  unfold State.contest
  try dsimp only
  repeat' with_reducible
    first | assumption | apply h_f | apply cancelHeld_within | apply send_within
          | apply sendSoftReset_within | apply swapDeferred_within | apply ite_within | split
          | exact sub hM (by decide) | dsimp only

theorem State.contest_all {pp : Nat} (s : State) (p : Port) (f : State → State) (h_f : ∀ t, Within mm pp s00 t → Within mm pp s00 (f t)) (hM : mm ||| 0xC001200000500E80000000000038140000 = mm) (hW : Within mm pp s00 s) :
    Within mm pp s00 (State.contest s p f) := by
  unfold State.contest
  try dsimp only
  repeat' with_reducible
    first | assumption | apply h_f | apply cancelHeld_all | apply send_all | apply sendSoftReset_all
          | apply swapDeferred_all | apply ite_within | split | exact sub hM (by decide) | dsimp only

theorem State.onSwap_within (s : State) (p : Port) (m : PdMsg) (f : State → State) (h_f : ∀ t, Within mm p s00 t → Within mm p s00 (f t)) (hM : mm ||| 0xC00120000058001BFC0000400038140000 = mm) (hW : Within mm p s00 s) :
    Within mm p s00 (State.onSwap s p m f) := by
  unfold State.onSwap
  try dsimp only
  repeat' with_reducible
    first | assumption | apply h_f | apply contest_within | apply onMsg_within
          | apply sendSoftReset_within | apply ite_within | split | (intro _ _ _) | (intro _ _)
          | exact sub hM (by decide) | dsimp only

theorem State.onSwap_all {pp : Nat} (s : State) (p : Port) (m : PdMsg) (f : State → State) (h_f : ∀ t, Within mm pp s00 t → Within mm pp s00 (f t)) (hM : mm ||| 0xC00120000051BFC0000000400038140000 = mm) (hW : Within mm pp s00 s) :
    Within mm pp s00 (State.onSwap s p m f) := by
  unfold State.onSwap
  try dsimp only
  repeat' with_reducible
    first | assumption | apply h_f | apply contest_all | apply onMsg_all | apply sendSoftReset_all
          | apply ite_within | split | (intro _ _ _) | (intro _ _) | exact sub hM (by decide) | dsimp only

theorem State.acceptSwap_within (s : State) (p : Port) (k : SwapKind) (hM : mm ||| 0x200000180000E80000000000000000 = mm) (hW : Within mm p s00 s) :
    Within mm p s00 (State.acceptSwap s p k) := by
  unfold State.acceptSwap
  try dsimp only
  repeat' with_reducible
    first | assumption | apply wr_own | apply pr_within | apply send_within
          | apply setInflight_within | apply swp_within | apply ite_within | split | (intro _ _ _)
          | (intro _ _) | exact sub hM (by decide) | decide | dsimp only

theorem State.acceptSwap_all {pp : Nat} (s : State) (p : Port) (k : SwapKind) (hM : mm ||| 0x200000100E80000000000000000000 = mm) (hW : Within mm pp s00 s) :
    Within mm pp s00 (State.acceptSwap s p k) := by
  unfold State.acceptSwap
  try dsimp only
  repeat' with_reducible
    first | assumption | apply wr_within | apply pr_within | apply send_all
          | apply setInflight_all | apply swp_all | apply ite_within | split | (intro _ _ _) | (intro _ _)
          | exact sub hM (by decide) | dsimp only

theorem execPrSwap_within (p : Port) (s : State) :
    ∀ u, execPrSwap p s = .next u → Within 0xC00120000058001BFC0000400038140000 p s u := by
  intro u hu
  cases hu
  have hM : 0xC00120000058001BFC0000400038140000 ||| 0xC00120000058001BFC0000400038140000 = 0xC00120000058001BFC0000400038140000 := rfl
  have hW := Within.refl 0xC00120000058001BFC0000400038140000 p s
  try dsimp only
  repeat' with_reducible
    first | assumption | apply acceptSwap_within | apply onSwap_within | apply pr_within
          | apply send_within | apply ite_within | split | (intro _ _ _) | (intro _ _)
          | exact sub hM (by decide) | dsimp only

theorem execDrSwap_within (p : Port) (s : State) :
    ∀ u, execDrSwap p s = .next u → Within 0xC00120000058001BFC0000400038140000 p s u := by
  intro u hu
  cases hu
  have hM : 0xC00120000058001BFC0000400038140000 ||| 0xC00120000058001BFC0000400038140000 = 0xC00120000058001BFC0000400038140000 := rfl
  have hW := Within.refl 0xC00120000058001BFC0000400038140000 p s
  try dsimp only
  repeat' with_reducible
    first | assumption | apply acceptSwap_within | apply onSwap_within | apply send_within
          | apply ite_within | split | (intro _ _ _) | (intro _ _) | exact sub hM (by decide) | dsimp only

theorem execVconnSwap_within (p : Port) (s : State) :
    ∀ u, execVconnSwap p s = .next u → Within 0xC00120000058001BFC0000400038140000 p s u := by
  intro u hu
  cases hu
  have hM : 0xC00120000058001BFC0000400038140000 ||| 0xC00120000058001BFC0000400038140000 = 0xC00120000058001BFC0000400038140000 := rfl
  have hW := Within.refl 0xC00120000058001BFC0000400038140000 p s
  try dsimp only
  repeat' with_reducible
    first | assumption | apply bump_own | apply flag_own | apply irq_own
          | apply acceptSwap_within | apply onSwap_within | apply send_within
          | (refine State.vconnReserve_within ?_ ?_ ‹_›) | apply ite_within | split | (intro _ _ _) | (intro _ _)
          | exact sub hM (by decide) | decide | dsimp only

theorem execTVconnSourceTimeoutExpiry_within (p : Port) (s : State) :
    ∀ u, execTVconnSourceTimeoutExpiry p s = .next u → Within 0x80000400000000000000000 p s u := by
  intro u hu
  cases hu
  have hM : 0x80000400000000000000000 ||| 0x80000400000000000000000 = 0x80000400000000000000000 := rfl
  have hW := Within.refl 0x80000400000000000000000 p s
  try dsimp only
  repeat' with_reducible
    first | assumption | apply sendHardReset_within | apply ite_within | split | exact sub hM (by decide)
          | dsimp only

theorem State.sendReturn_within (s : State) (p : Port) (hM : mm ||| 0x200040180000E80000000000000000 = mm) (hW : Within mm p s00 s) :
    Within mm p s00 (State.sendReturn s p) := by
  unfold State.sendReturn
  try dsimp only
  repeat' with_reducible
    first | assumption | apply pr_within | apply sendOwnSwap_within | (intro _ _ _) | (intro _ _)
          | apply within_mk | exact Or.inr rfl | exact Or.inl (bitOf hM (by decide)) | exact sub hM (by decide)
          | dsimp only

theorem State.sendReturn_all {pp : Nat} (s : State) (p : Port) (hM : mm ||| 0x200040100E80000000000000000000 = mm) (hW : Within mm pp s00 s) :
    Within mm pp s00 (State.sendReturn s p) := by
  unfold State.sendReturn
  try dsimp only
  repeat' with_reducible
    first | assumption | apply pr_within | apply sendOwnSwap_all | (intro _ _ _) | (intro _ _)
          | apply within_mk | exact Or.inr rfl | exact Or.inl (bitOf hM (by decide)) | exact sub hM (by decide)
          | dsimp only

theorem execOwnPrSwap_within (p : Port) (s : State) :
    ∀ u, execOwnPrSwap p s = .next u → Within 0x200040180000E80000000000000000 p s u := by
  intro u hu
  cases hu
  have hM : 0x200040180000E80000000000000000 ||| 0x200040180000E80000000000000000 = 0x200040180000E80000000000000000 := rfl
  have hW := Within.refl 0x200040180000E80000000000000000 p s
  try dsimp only
  repeat' with_reducible
    first | assumption | apply pr_within | apply sendOwnSwap_within | apply sendReturn_within
          | apply swp_within | apply ite_within | split | (intro _ _ _) | (intro _ _) | exact sub hM (by decide)
          | dsimp only

theorem execSwapRepeat_within (p : Port) (s : State) :
    ∀ u, execSwapRepeat p s = .next u → Within 0x200000180000E80000000000000000 p s u := by
  intro u hu
  cases hu
  have hM : 0x200000180000E80000000000000000 ||| 0x200000180000E80000000000000000 = 0x200000180000E80000000000000000 := rfl
  have hW := Within.refl 0x200000180000E80000000000000000 p s
  try dsimp only
  repeat' with_reducible
    first | assumption | apply sendOwnSwap_within | apply swp_within | apply ite_within | split
          | (intro _ _ _) | (intro _ _) | exact sub hM (by decide) | dsimp only

theorem State.prStart_within (s : State) (p : Port) (st : SwapStep) (hM : mm ||| 0x200000080000400000000000000000 = mm) (hW : Within mm p s00 s) :
    Within mm p s00 (State.prStart s p st) := by
  unfold State.prStart
  try dsimp only
  repeat' with_reducible
    first | assumption | apply wr_own | apply pe_within | apply pr_within | apply swp_within
          | apply take_within | split | (intro _ _ _) | (intro _ _) | exact sub hM (by decide) | decide
          | dsimp only

theorem State.prStart_all {pp : Nat} (s : State) (p : Port) (st : SwapStep) (hM : mm ||| 0x200000100400000000000000000000 = mm) (hW : Within mm pp s00 s) :
    Within mm pp s00 (State.prStart s p st) := by
  unfold State.prStart
  try dsimp only
  repeat' with_reducible
    first | assumption | apply wr_within | apply pr_within | apply pe_all | apply swp_all
          | apply take_all | split | (intro _ _ _) | (intro _ _) | exact sub hM (by decide) | dsimp only

theorem execPrSwapSourceAccepted_within (p : Port) (s : State) :
    ∀ u, execPrSwapSourceAccepted p s = .next u → Within 0xC00120000058001BFC0000400038140000 p s u := by
  intro u hu
  cases hu
  have hM : 0xC00120000058001BFC0000400038140000 ||| 0xC00120000058001BFC0000400038140000 = 0xC00120000058001BFC0000400038140000 := rfl
  have hW := Within.refl 0xC00120000058001BFC0000400038140000 p s
  try dsimp only
  repeat' with_reducible
    first | assumption | apply wr_own | apply drain_within | apply prStart_within | apply ite_within
          | split | exact sub hM (by decide) | decide | dsimp only

theorem execPrSwapSourceOff_within (p : Port) (s : State) :
    ∀ u, execPrSwapSourceOff p s = .next u → Within 0x200000180010E80000000000000000 p s u := by
  intro u hu
  cases hu
  have hM : 0x200000180010E80000000000000000 ||| 0x200000180010E80000000000000000 = 0x200000180010E80000000000000000 := rfl
  have hW := Within.refl 0x200000180010E80000000000000000 p s
  try dsimp only
  repeat' with_reducible
    first | assumption | apply becomeSink_within | apply dsgOff_within | apply guardTo_within
          | apply send_within | apply swp_within | apply ite_within | split | (intro _ _ _) | (intro _ _)
          | exact sub hM (by decide) | dsimp only

theorem execPrSwapPartnerPsRdy_within (p : Port) (vconvMv vbusMv : Nat) (s : State) :
    ∀ u, execPrSwapPartnerPsRdy p vconvMv vbusMv s = .next u → Within 0xC00120000048003B4C0000000038140000 p s u := by
  intro u hu
  cases hu
  have hM : 0xC00120000048003B4C0000000038140000 ||| 0xC00120000048003B4C0000000038140000 = 0xC00120000048003B4C0000000038140000 := rfl
  have hW := Within.refl 0xC00120000048003B4C0000000038140000 p s
  try dsimp only
  repeat' with_reducible
    first | assumption | apply event_own | apply wr_own | apply cmdCloseMatched_within
          | apply errorRecovery_within | apply swp_within | apply take_within | apply ite_within
          | split | (intro _ _ _) | (intro _ _) | exact sub hM (by decide) | decide | dsimp only

theorem execPrSwapSinkAccepted_within (p : Port) (s : State) :
    ∀ u, execPrSwapSinkAccepted p s = .next u → Within 0xC00120000058003BFC0000400038140000 p s u := by
  intro u hu
  cases hu
  have hM : 0xC00120000058003BFC0000400038140000 ||| 0xC00120000058003BFC0000400038140000 = 0xC00120000058003BFC0000400038140000 := rfl
  have hW := Within.refl 0xC00120000058003BFC0000400038140000 p s
  try dsimp only
  repeat' with_reducible
    first | assumption | apply wr_own | apply cmdOpenWait_within | apply drain_within
          | apply prStart_within | apply ite_within | split | exact sub hM (by decide) | decide | dsimp only

theorem execPrSwapSinkPsRdy_within (p : Port) (s : State) :
    ∀ u, execPrSwapSinkPsRdy p s = .next u → Within 0xC00120000048003B4C0000000038140000 p s u := by
  intro u hu
  cases hu
  have hM : 0xC00120000048003B4C0000000038140000 ||| 0xC00120000048003B4C0000000038140000 = 0xC00120000048003B4C0000000038140000 := rfl
  have hW := Within.refl 0xC00120000048003B4C0000000038140000 p s
  try dsimp only
  repeat' with_reducible
    first | assumption | apply wr_own | apply becomeSource_within | apply cmdSoftStart_within
          | apply implicitSetpoint_within | apply swp_within | apply take_within | apply ite_within
          | split | (intro _ _ _) | (intro _ _) | exact sub hM (by decide) | decide | dsimp only

theorem execTPsSourceOnExpiry_within (p : Port) (s : State) :
    ∀ u, execTPsSourceOnExpiry p s = .next u → Within 0xC00120000048001B4C0000000038140000 p s u := by
  intro u hu
  cases hu
  have hM : 0xC00120000048001B4C0000000038140000 ||| 0xC00120000048001B4C0000000038140000 = 0xC00120000048001B4C0000000038140000 := rfl
  have hW := Within.refl 0xC00120000048001B4C0000000038140000 p s
  try dsimp only
  repeat' with_reducible
    first | assumption | apply event_own | apply errorRecovery_within | split | exact sub hM (by decide)
          | decide | dsimp only

theorem execTPsSourceOffExpiry_within (p : Port) (s : State) :
    ∀ u, execTPsSourceOffExpiry p s = .next u → Within 0xC00120000048001B4C0000000038140000 p s u := by
  intro u hu
  cases hu
  have hM : 0xC00120000048001B4C0000000038140000 ||| 0xC00120000048001B4C0000000038140000 = 0xC00120000048001B4C0000000038140000 := rfl
  have hW := Within.refl 0xC00120000048001B4C0000000038140000 p s
  try dsimp only
  repeat' with_reducible
    first | assumption | apply event_own | apply errorRecovery_within | split | exact sub hM (by decide)
          | decide | dsimp only

theorem execTSwapSourceStartExpiry_within (p : Port) (s : State) :
    ∀ u, execTSwapSourceStartExpiry p s = .next u → Within 0x200000180000E80000000000000000 p s u := by
  intro u hu
  cases hu
  have hM : 0x200000180000E80000000000000000 ||| 0x200000180000E80000000000000000 = 0x200000180000E80000000000000000 := rfl
  have hW := Within.refl 0x200000180000E80000000000000000 p s
  try dsimp only
  repeat' with_reducible
    first | assumption | apply pe_within | apply sendCaps_within | apply swapEnd_within
          | apply ite_within | split | (intro _ _ _) | (intro _ _) | exact sub hM (by decide) | dsimp only

theorem execFrsSignalDetected_within (p : Port) (vbusMv : Nat) (s : State) :
    ∀ u, execFrsSignalDetected p vbusMv s = .next u → Within 0x200000580003E80000000000140000 p s u := by
  intro u hu
  cases hu
  have hM : 0x200000580003E80000000000140000 ||| 0x200000580003E80000000000140000 = 0x200000580003E80000000000140000 := rfl
  have hW := Within.refl 0x200000580003E80000000000140000 p s
  try dsimp only
  repeat' with_reducible
    first | assumption | apply event_own | apply wr_own | apply pe_within | apply pr_within
          | apply send_within | apply setInflight_within | apply setMode_within
          | apply swp_within | apply ite_within | split | (intro _ _ _) | (intro _ _) | exact sub hM (by decide)
          | decide | dsimp only

theorem execFrSwap_within (p : Port) (s : State) :
    ∀ u, execFrSwap p s = .next u → Within 0xC00120000058001BFC0000400038140000 p s u := by
  intro u hu
  cases hu
  have hM : 0xC00120000058001BFC0000400038140000 ||| 0xC00120000058001BFC0000400038140000 = 0xC00120000058001BFC0000400038140000 := rfl
  have hW := Within.refl 0xC00120000058001BFC0000400038140000 p s
  try dsimp only
  repeat' with_reducible
    first | assumption | apply becomeSink_within | apply onMsg_within | apply refuseMsg_within
          | apply send_within | apply sendSoftReset_within | apply swp_within
          | apply take_within | apply ite_within | split | (intro _ _ _) | (intro _ _)
          | exact sub hM (by decide) | dsimp only

theorem execFrsNoFrSwap_within (p : Port) (s : State) :
    ∀ u, execFrsNoFrSwap p s = .next u → Within 0x480002400000000000140000 p s u := by
  intro u hu
  cases hu
  have hM : 0x480002400000000000140000 ||| 0x480002400000000000140000 = 0x480002400000000000140000 := rfl
  have hW := Within.refl 0x480002400000000000140000 p s
  try dsimp only
  repeat' with_reducible
    first | assumption | apply event_own | apply wr_own | apply sendHardReset_within
          | apply swp_within | apply ite_within | split | (intro _ _ _) | (intro _ _) | exact sub hM (by decide)
          | decide | dsimp only

theorem State.signalPort_within (s : State) (p : Port) (hM : mm ||| 0x200000480002400000000000140000 = mm) (hW : Within mm p s00 s) :
    Within mm p s00 (State.signalPort s p) := by
  unfold State.signalPort
  try dsimp only
  repeat' with_reducible
    first | assumption | apply event_own | apply wr_own | apply pe_within | apply pr_within
          | apply setInflight_within | apply swp_within | split | (intro _ _ _) | (intro _ _)
          | exact sub hM (by decide) | decide | dsimp only

theorem State.signalPort_all {pp : Nat} (s : State) (p : Port) (hM : mm ||| 0x200000502400000000000000140000 = mm) (hW : Within mm pp s00 s) :
    Within mm pp s00 (State.signalPort s p) := by
  unfold State.signalPort
  try dsimp only
  repeat' with_reducible
    first | assumption | apply wr_within | apply pr_within | apply event_all | apply pe_all
          | apply setInflight_all | apply swp_all | split | (intro _ _ _) | (intro _ _)
          | exact sub hM (by decide) | dsimp only

theorem State.reHold_within {pp : Nat} (s : State) (hM : mm ||| 0x600000000000 = mm) (hW : Within mm pp s00 s) :
    Within mm pp s00 (State.reHold s) := by
  unfold State.reHold
  try dsimp only
  repeat' with_reducible
    first | assumption | apply flag_within | apply level_within | exact sub hM (by decide) | dsimp only

theorem State.firePort_within (s : State) (p : Port) (hM : mm ||| 0x200000480003400000400000140000 = mm) (hW : Within mm p s00 s) :
    Within mm p s00 (State.firePort s p) := by
  unfold State.firePort
  try dsimp only
  repeat' with_reducible
    first | assumption | apply busForm_within | apply islandCeiling_within | apply signalPort_within
          | apply ite_within | split | exact sub hM (by decide) | dsimp only

theorem State.firePort_all {pp : Nat} (s : State) (p : Port) (hM : mm ||| 0x200000503400000000400000140000 = mm) (hW : Within mm pp s00 s) :
    Within mm pp s00 (State.firePort s p) := by
  unfold State.firePort
  try dsimp only
  repeat' with_reducible
    first | assumption | apply busForm_all | apply islandCeiling_all | apply signalPort_all
          | apply ite_within | split | exact sub hM (by decide) | dsimp only

theorem State.tellIsland_within {pp : Nat} (s : State) (hM : mm ||| 0x200000000000000000000000000000 = mm) (hW : Within mm pp s00 s) :
    Within mm pp s00 (State.tellIsland s) := by
  unfold State.tellIsland
  try dsimp only
  repeat' with_reducible
    first | assumption | apply selPeriodic_within | apply sendUrgent_within | apply ite_within | split
          | exact sub hM (by decide) | dsimp only

theorem State.bankFires_within {pp : Nat} (s : State) (hM : mm ||| 0x200030503400000000610000140000 = mm) (hW : Within mm pp s00 s) :
    Within mm pp s00 (State.bankFires s) := by
  unfold State.bankFires
  extract_lets n1 quiet n2 n3 s1 _src s2
  have h1 : Within mm pp s00 s1 := by
    unfold s1
    repeat' with_reducible
      first | assumption | apply event_sys | apply flag_within | apply forPorts_within
            | apply reHold_within | apply tellIsland_within | apply firePort_all | split
            | (intro _ _ _) | (intro _ _) | apply within_mk | exact Or.inr rfl | exact Or.inl (bitOf hM (by decide))
            | exact sub hM (by decide) | decide | dsimp only
  clear_value s1
  have h2 : Within mm pp s00 s2 := by
    unfold s2
    repeat' with_reducible
      first | assumption | apply event_sys | apply flag_within | apply forPorts_within
            | apply reHold_within | apply tellIsland_within | apply firePort_all | split
            | (intro _ _ _) | (intro _ _) | apply within_mk | exact Or.inr rfl | exact Or.inl (bitOf hM (by decide))
            | exact sub hM (by decide) | decide | dsimp only
  clear_value s2
  repeat' with_reducible
    first | assumption | apply event_sys | apply flag_within | apply forPorts_within
          | apply reHold_within | apply tellIsland_within | apply firePort_all | split | (intro _ _ _)
          | (intro _ _) | apply within_mk | exact Or.inr rfl | exact Or.inl (bitOf hM (by decide))
          | exact sub hM (by decide) | decide | dsimp only

theorem State.bankFire_within {pp : Nat} (s : State) (hM : mm ||| 0x10000200030503400000000610000140000 = mm) (hW : Within mm pp s00 s) :
    Within mm pp s00 (State.bankFire s) := by
  unfold State.bankFire
  try dsimp only
  repeat' with_reducible
    first | assumption | apply bankFires_within | apply ite_within | split | apply within_mk | exact Or.inr rfl
          | exact Or.inl (bitOf hM (by decide)) | exact sub hM (by decide) | dsimp only

theorem execBankFrsFire_within (pp : Nat) (s : State) :
    ∀ u, execBankFrsFire s = .next u → Within 0x10000200030503400000000610000140000 pp s u := by
  intro u hu
  cases hu
  have hM : 0x10000200030503400000000610000140000 ||| 0x10000200030503400000000610000140000 = 0x10000200030503400000000610000140000 := rfl
  have hW := Within.refl 0x10000200030503400000000610000140000 pp s
  try dsimp only
  repeat' with_reducible
    first | assumption | apply bankFire_within | exact sub hM (by decide) | dsimp only

theorem execBankFrsArm_within (pp : Nat) (s : State) :
    ∀ u, execBankFrsArm s = .next u → Within 0x10000000000 pp s u := by
  intro u hu
  cases hu
  have hM : 0x10000000000 ||| 0x10000000000 = 0x10000000000 := rfl
  have hW := Within.refl 0x10000000000 pp s
  try dsimp only
  repeat' with_reducible
    first | assumption | apply flag_within | apply ite_within | split | exact sub hM (by decide) | dsimp only

theorem State.islandClear_within (s : State) (p : Port) (hM : mm ||| 0x80000000000400000000000 = mm) (hW : Within mm p s00 s) :
    Within mm p s00 (State.islandClear s p) := by
  unfold State.islandClear
  try dsimp only
  repeat' with_reducible
    first | assumption | apply clearShed_within | apply swp_within | apply ite_within | split
          | (intro _ _ _) | (intro _ _) | exact sub hM (by decide) | dsimp only

theorem State.islandClear_all {pp : Nat} (s : State) (p : Port) (hM : mm ||| 0x100000000000400000000000 = mm) (hW : Within mm pp s00 s) :
    Within mm pp s00 (State.islandClear s p) := by
  unfold State.islandClear
  try dsimp only
  repeat' with_reducible
    first | assumption | apply clearShed_all | apply swp_all | apply ite_within | split | (intro _ _ _)
          | (intro _ _) | exact sub hM (by decide) | dsimp only

theorem execIslandEnd_within (pp : Nat) (s : State) :
    ∀ u, execIslandEnd s = .next u → Within 0x200010500000000000610000140000 pp s u := by
  intro u hu
  cases hu
  have hM : 0x200010500000000000610000140000 ||| 0x200010500000000000610000140000 = 0x200010500000000000610000140000 := rfl
  have hW := Within.refl 0x200010500000000000610000140000 pp s
  split
  · split
    · exact hW
    · extract_lets s1 s2 s3
      have h1 : Within 0x200010500000000000610000140000 pp s s1 := by
        unfold s1
        repeat' with_reducible
          first | assumption | apply event_sys | apply flag_within | apply forPorts_within
                | apply reHold_within | apply tellIsland_within | apply islandClear_all
                | apply ite_within | split | (intro _ _ _) | (intro _ _) | apply within_mk | exact Or.inr rfl
                | exact Or.inl (bitOf hM (by decide)) | exact sub hM (by decide) | decide | dsimp only
      clear_value s1
      have h2 : Within 0x200010500000000000610000140000 pp s s2 := by
        unfold s2
        repeat' with_reducible
          first | assumption | apply event_sys | apply flag_within | apply forPorts_within
                | apply reHold_within | apply tellIsland_within | apply islandClear_all
                | apply ite_within | split | (intro _ _ _) | (intro _ _) | apply within_mk | exact Or.inr rfl
                | exact Or.inl (bitOf hM (by decide)) | exact sub hM (by decide) | decide | dsimp only
      clear_value s2
      repeat' with_reducible
        first | assumption | apply event_sys | apply flag_within | apply forPorts_within
              | apply reHold_within | apply tellIsland_within | apply islandClear_all
              | apply ite_within | split | (intro _ _ _) | (intro _ _) | apply within_mk | exact Or.inr rfl
              | exact Or.inl (bitOf hM (by decide)) | exact sub hM (by decide) | decide | dsimp only
  · exact hW

theorem execReturnSwap_within (pp : Nat) (s : State) :
    ∀ u, execReturnSwap s = .next u → Within 0x200040100E80000000000000000000 pp s u := by
  intro u hu
  cases hu
  have hM : 0x200040100E80000000000000000000 ||| 0x200040100E80000000000000000000 = 0x200040100E80000000000000000000 := rfl
  have hW := Within.refl 0x200040100E80000000000000000000 pp s
  try dsimp only
  repeat' with_reducible
    first | assumption | apply sendReturn_all | split | exact sub hM (by decide) | dsimp only

end Sys2Proof.Machine
end

