-- ==== Sys2Proof/Laws/FootSystem.lean ====
section
/-! SUPPORT. What the block's operations may change (Safety.lean says what `Within` is), one lemma for each: monitors, feeds, words, the stop lane, snapshots, the fabric and OTP.
`f_within` is for the command's own port, `f_all` for any port; each is proved from the lemmas of what its definition calls. -/

set_option linter.all false
set_option maxRecDepth 4000

namespace Sys2Proof.Machine
open State

variable {mm : Nat} {s00 : State}

/-! ## Machine/Monitors.lean -/

theorem execMonitorCrossing_within (p : Port) (c : Crossing) (mv : Nat) (ibusMa : Int) (vbusMv : Nat) (s : State) :
    ∀ u, execMonitorCrossing p c mv ibusMa vbusMv s = .next u → Within 0xC08120000048003F4D0000000038140000 p s u := by
  intro u hu
  cases hu
  have hM : 0xC08120000048003F4D0000000038140000 ||| 0xC08120000048003F4D0000000038140000 = 0xC08120000048003F4D0000000038140000 := rfl
  have hW := Within.refl 0xC08120000048003F4D0000000038140000 p s
  try dsimp only
  repeat' with_reducible
    first | assumption | apply crossing_within | apply ite_within | split | exact sub hM (by decide)
          | dsimp only

theorem State.monRetires_within {pp : Nat} (s : State) (m : Mon) (hM : mm ||| 0xC00120000051B4C0000000010038140002 = mm) (hW : Within mm pp s00 s) :
    Within mm pp s00 (State.monRetires s m) := by
  unfold State.monRetires
  try dsimp only
  repeat' with_reducible
    first | assumption | apply flag_within | apply wr_within | apply disable_all | apply ite_within
          | split | exact sub hM (by decide) | dsimp only

theorem State.monEvent_within {pp : Nat} (s : State) (k : EvKind) (m : Mon) (d5 d6 : Nat) (hM : mm ||| 0x500000000000000000140000 = mm) (hW : Within mm pp s00 s) :
    Within mm pp s00 (State.monEvent s k m d5 d6) := by
  unfold State.monEvent
  try dsimp only
  repeat' with_reducible
    first | assumption | apply event_all | split | exact sub hM (by decide) | dsimp only

theorem State.noteCheck_within {pp : Nat} (s : State) (m : Mon) (step : Nat) (hM : mm ||| 0x10000000000000000000000 = mm) (hW : Within mm pp s00 s) :
    Within mm pp s00 (State.noteCheck s m step) := by
  unfold State.noteCheck
  try dsimp only
  repeat' with_reducible
    first | assumption | apply wr_within | split | exact sub hM (by decide) | dsimp only

theorem monMark_mask {m : Mon} {F : Field} {p : Port} (h : monMark m = some (F, p)) : fieldMask false F = 0x10000000000000000000000 := by
  unfold monMark at h
  split at h <;> first | (injection h with h; injection h with h1 _; subst h1; rfl) | cases h
theorem State.markFailed_within {pp : Nat} (s : State) (m : Mon) (step : Nat) (hM : mm ||| 0xC00122040053B4C0000000018038140002 = mm) (hW : Within mm pp s00 s) :
    Within mm pp s00 (s.markFailed m step) := by
  unfold State.markFailed
  extract_lets s1 s2
  have h1 : Within mm pp s00 s1 := by
    unfold s1
    split
    · rename_i F q h
      exact State.bump_within _ _ _ (sub hM (by decide)) (State.flag_within _ _ _ _ (sub hM (by rw [monMark_mask h]; decide)) hW)
    · apply within_mk <;> first | exact Or.inr rfl | exact Or.inl (bitOf hM (by decide)) | exact hW
  clear_value s1
  have h2 : Within mm pp s00 s2 := by
    unfold s2
    split
    · exact State.irq_within _ _ _ _ (sub hM (by decide)) h1
    · exact h1
  clear_value s2
  exact State.sendMarks_within _ (sub hM (by decide)) (State.monRetires_within _ _ (sub hM (by decide))
    (State.noteLoss_within _ _ (sub hM (by decide)) (State.monEvent_within _ _ _ _ _ (sub hM (by decide)) h2)))

theorem State.awaitRepeat_within {pp : Nat} (s : State) (m : Mon) (step : Nat) (hM : mm ||| 0x200110000000000000000000000 = mm) (hW : Within mm pp s00 s) :
    Within mm pp s00 (State.awaitRepeat s m step) := by
  unfold State.awaitRepeat
  try dsimp only
  repeat' with_reducible
    first | assumption | apply flag_within | apply wr_within | apply grd_all | apply ite_within
          | split | (intro _ _ _) | (intro _ _) | apply within_mk | exact Or.inr rfl
          | exact Or.inl (bitOf hM (by decide)) | exact sub hM (by decide) | dsimp only

theorem State.repeated_within {pp : Nat} (s : State) (m : Mon) (hM : mm ||| 0x200110000000000000000000000 = mm) (hW : Within mm pp s00 s) :
    Within mm pp s00 (State.repeated s m) := by
  unfold State.repeated
  try dsimp only
  repeat' with_reducible
    first | assumption | apply flag_within | apply checksIdle_all | apply grd_all | apply ite_within
          | split | (intro _ _ _) | (intro _ _) | apply within_mk | exact Or.inr rfl
          | exact Or.inl (bitOf hM (by decide)) | exact sub hM (by decide) | dsimp only

theorem State.checkFailed_within {pp : Nat} (s : State) (m : Mon) (step : Nat) (hM : mm ||| 0xC00122060053B4C0000000018038140002 = mm) (hW : Within mm pp s00 s) :
    Within mm pp s00 (State.checkFailed s m step) := by
  unfold State.checkFailed
  try dsimp only
  repeat' with_reducible
    first | assumption | apply awaitRepeat_within | apply markFailed_within | apply monEvent_within
          | apply noteCheck_within | apply repeated_within | apply ite_within | split
          | exact sub hM (by decide) | dsimp only

theorem State.rechecked_within {pp : Nat} (s : State) (m : Mon) (hM : mm ||| 0x100000000000000000000000 = mm) (hW : Within mm pp s00 s) :
    Within mm pp s00 (State.rechecked s m) := by
  unfold State.rechecked
  try dsimp only
  repeat' with_reducible
    first | assumption | apply grd_all | apply ite_within | split | (intro _ _ _) | (intro _ _)
          | exact sub hM (by decide) | dsimp only

theorem State.closureGoesOn_within (s : State) (p : Port) (hM : mm ||| 0x80010000000000000000000 = mm) (hW : Within mm p s00 s) :
    Within mm p s00 (State.closureGoesOn s p) := by
  unfold State.closureGoesOn
  try dsimp only
  repeat' with_reducible
    first | assumption | apply driveMatched_within | apply ite_within | split | exact sub hM (by decide)
          | dsimp only

theorem State.closureGoesOn_all {pp : Nat} (s : State) (p : Port) (hM : mm ||| 0x110000000000000000000000 = mm) (hW : Within mm pp s00 s) :
    Within mm pp s00 (State.closureGoesOn s p) := by
  unfold State.closureGoesOn
  try dsimp only
  repeat' with_reducible
    first | assumption | apply driveMatched_all | apply ite_within | split | exact sub hM (by decide)
          | dsimp only

theorem State.afterCheck_within {pp : Nat} (s : State) (m : Mon) (hM : mm ||| 0x110000000000000000000000 = mm) (hW : Within mm pp s00 s) :
    Within mm pp s00 (State.afterCheck s m) := by
  unfold State.afterCheck
  try dsimp only
  repeat' with_reducible
    first | assumption | apply rechecked_within | apply closureGoesOn_all | split
          | exact sub hM (by decide) | dsimp only

theorem State.checkEndsTest_within {pp : Nat} (s : State) (m : Mon) (kind : Nat) (failed again : Bool) (hM : mm ||| 0xC001000000500000000007000038140000 = mm) (hW : Within mm pp s00 s) :
    Within mm pp s00 (State.checkEndsTest s m kind failed again) := by
  unfold State.checkEndsTest
  try dsimp only
  repeat' with_reducible
    first | assumption | apply endTest_all | apply ite_within | split | exact sub hM (by decide) | dsimp only

theorem State.checkRan_within {pp : Nat} (s : State) (m : Mon) (hM : mm ||| 0x20000000000000000000000 = mm) (hW : Within mm pp s00 s) :
    Within mm pp s00 (State.checkRan s m) := by
  unfold State.checkRan
  try dsimp only
  repeat' with_reducible
    first | assumption | apply bump_within | split | exact sub hM (by decide) | dsimp only

theorem execMonitorAlternation_within (pp : Nat) (at_ : Option Port) (r : CheckRead) (s : State) :
    ∀ u, execMonitorAlternation at_ r s = .next u → Within 0xC00122060053B4C0000007038038140002 pp s u := by
  intro u hu
  cases hu
  have hM : 0xC00122060053B4C0000007038038140002 ||| 0xC00122060053B4C0000007038038140002 = 0xC00122060053B4C0000007038038140002 := rfl
  have hW := Within.refl 0xC00122060053B4C0000007038038140002 pp s
  try dsimp only
  repeat' with_reducible
    first | assumption | apply bump_within | apply wr_within | apply afterCheck_within
          | apply checkEndsTest_within | apply checkFailed_within | apply checkRan_within
          | apply repeated_within | apply grd_all | apply ite_within | split | (intro _ _ _) | (intro _ _)
          | exact sub hM (by decide) | dsimp only

theorem execCspWindowCheck_within (pp : Nat) (m : Mon) (r : CheckRead) (s : State) :
    ∀ u, execCspWindowCheck m r s = .next u → Within 0xC00122060053B4C0000007018038140002 pp s u := by
  intro u hu
  cases hu
  have hM : 0xC00122060053B4C0000007018038140002 ||| 0xC00122060053B4C0000007018038140002 = 0xC00122060053B4C0000007018038140002 := rfl
  have hW := Within.refl 0xC00122060053B4C0000007018038140002 pp s
  try dsimp only
  repeat' with_reducible
    first | assumption | apply bump_within | apply afterCheck_within | apply checkEndsTest_within
          | apply checkFailed_within | apply checkRan_within | apply repeated_within
          | apply grd_all | apply ite_within | split | (intro _ _ _) | (intro _ _) | exact sub hM (by decide)
          | dsimp only

theorem State.ifastChecked_within {pp : Nat} (s : State) (m : Mon) (hM : mm ||| 0x100000000000000000000000 = mm) (hW : Within mm pp s00 s) :
    Within mm pp s00 (State.ifastChecked s m) := by
  unfold State.ifastChecked
  try dsimp only
  repeat' with_reducible
    first | assumption | apply grd_all | split | (intro _ _ _) | (intro _ _) | exact sub hM (by decide)
          | dsimp only

theorem State.ifastResult_within {pp : Nat} (s : State) (m : Mon) (k : Nat) (hM : mm ||| 0xC00122060053B4C0000007018038140002 = mm) (hW : Within mm pp s00 s) :
    Within mm pp s00 (State.ifastResult s m k) := by
  unfold State.ifastResult
  try dsimp only
  repeat' with_reducible
    first | assumption | apply wr_within | apply afterCheck_within | apply checkEndsTest_within
          | apply checkFailed_within | apply checkRan_within | apply ifastChecked_within
          | apply repeated_within | apply ite_within | split | exact sub hM (by decide) | dsimp only

theorem execMonDisagree_within (p : Port) (csp : Bool) (mv : Nat) (reads : Bool) (s : State) :
    ∀ u, execMonDisagree p csp mv reads s = .next u → Within 0x480030000000000000140000 p s u := by
  intro u hu
  cases hu
  have hM : 0x480030000000000000140000 ||| 0x480030000000000000140000 = 0x480030000000000000140000 := rfl
  have hW := Within.refl 0x480030000000000000140000 p s
  try dsimp only
  repeat' with_reducible
    first | assumption | apply bump_own | apply event_own | apply wr_own | apply grd_within
          | apply ite_within | split | (intro _ _ _) | (intro _ _) | exact sub hM (by decide) | decide | dsimp only

theorem execMonCheckDue_within (p : Port) (s : State) :
    ∀ u, execMonCheckDue p s = .next u → Within 0x480010000000000000140000 p s u := by
  intro u hu
  cases hu
  have hM : 0x480010000000000000140000 ||| 0x480010000000000000140000 = 0x480010000000000000140000 := rfl
  have hW := Within.refl 0x480010000000000000140000 p s
  try dsimp only
  repeat' with_reducible
    first | assumption | apply event_own | apply wr_own | apply ite_within | split
          | exact sub hM (by decide) | decide | dsimp only

/-! ## Machine/Feed.lean -/

theorem State.modFeed_within {pp : Nat} (s : State) (f : Feed) (g : FeedOne → FeedOne) (hM : mm ||| 0x100000000000000000000000000 = mm) (hW : Within mm pp s00 s) :
    Within mm pp s00 (State.modFeed s f g) := by
  unfold State.modFeed
  try dsimp only
  repeat' with_reducible
    first | assumption | apply within_mk | exact Or.inr rfl | exact Or.inl (bitOf hM (by decide))
          | exact sub hM (by decide) | dsimp only

theorem State.feedLift_within {pp : Nat} (s : State) (f : Feed) (hM : mm ||| 0x100000000000000010000000000 = mm) (hW : Within mm pp s00 s) :
    Within mm pp s00 (State.feedLift s f) := by
  unfold State.feedLift
  try dsimp only
  repeat' with_reducible
    first | assumption | apply wr_within | apply modFeed_within | apply ite_within | split | (intro _ _ _)
          | (intro _ _) | exact sub hM (by decide) | dsimp only

theorem enField_mask (f : Feed) (o : Bool) : fieldMask o (enField f) = if o then 0x10000000000 else 0x10000000000 := by
  unfold enField
  repeat' split
  all_goals (cases o <;> rfl)

theorem enField_arr (f : Feed) : fieldArr (enField f) = false := by
  unfold enField
  repeat' split
  all_goals rfl

theorem State.feedEvent_within {pp : Nat} (s : State) (k : EvKind) (d4 d5 d6 : Nat) (hM : mm ||| 0x500000000000000000140000 = mm) (hW : Within mm pp s00 s) :
    Within mm pp s00 (State.feedEvent s k d4 d5 d6) := by
  unfold State.feedEvent
  try dsimp only
  repeat' with_reducible
    first | assumption | apply event_all | exact sub hM (by decide) | dsimp only

theorem State.restFeed_within {pp : Nat} (s : State) (f : Feed) (hM : mm ||| 0x10000000000 = mm) (hW : Within mm pp s00 s) :
    Within mm pp s00 (State.restFeed s f) := by
  unfold State.restFeed
  try dsimp only
  repeat' with_reducible
    first | assumption | apply wr_within | apply ite_within | split | exact sub hM (by decide) | dsimp only

theorem State.feedGateOff_within {pp : Nat} (s : State) (f : Feed) (hM : mm ||| 0x100000000000000010000000000 = mm) (hW : Within mm pp s00 s) :
    Within mm pp s00 (State.feedGateOff s f) := by
  unfold State.feedGateOff
  try dsimp only
  repeat' with_reducible
    first | assumption | apply flag_within | apply modFeed_within | split | (intro _ _ _) | (intro _ _)
          | exact sub hM (by decide) | dsimp only

theorem State.feedOpen_within {pp : Nat} (s : State) (f : Feed) (hM : mm ||| 0x100000000000000010000000000 = mm) (hW : Within mm pp s00 s) :
    Within mm pp s00 (State.feedOpen s f) := by
  unfold State.feedOpen
  try dsimp only
  repeat' with_reducible
    first | assumption | apply wr_within | apply feedGateOff_within | apply restFeed_within
          | apply ite_within | split | exact sub hM (by decide) | dsimp only

theorem State.feedHold_within {pp : Nat} (s : State) (v : Bool) (hM : mm ||| 0x100000000000000600000000000 = mm) (hW : Within mm pp s00 s) :
    Within mm pp s00 (State.feedHold s v) := by
  unfold State.feedHold
  try dsimp only
  repeat' with_reducible
    first | assumption | apply reHold_within | apply within_mk | exact Or.inr rfl
          | exact Or.inl (bitOf hM (by decide)) | exact sub hM (by decide) | dsimp only

theorem State.beginSwitch_within {pp : Nat} (s : State) (f : Feed) (cause : Nat) (inserting : Bool) (hM : mm ||| 0x100000000000000610000000000 = mm) (hW : Within mm pp s00 s) :
    Within mm pp s00 (State.beginSwitch s f cause inserting) := by
  unfold State.beginSwitch
  try dsimp only
  repeat' with_reducible
    first | assumption | apply flag_within | apply wr_within | apply feedHold_within
          | apply within_mk | exact Or.inr rfl | exact Or.inl (bitOf hM (by decide)) | exact sub hM (by decide)
          | dsimp only

theorem State.chargeGate_within {pp : Nat} (s : State) (f : Feed) (step : FeedStep) (hM : mm ||| 0x100000000000000010000000000 = mm) (hW : Within mm pp s00 s) :
    Within mm pp s00 (State.chargeGate s f step) := by
  unfold State.chargeGate
  try dsimp only
  repeat' with_reducible
    first | assumption | apply flag_within | apply wr_within | apply modFeed_within | split
          | (intro _ _ _) | (intro _ _) | exact sub hM (by decide) | dsimp only

theorem State.insert_within {pp : Nat} (s : State) (f : Feed) (cause : Nat) (hM : mm ||| 0x100000000000000610000000000 = mm) (hW : Within mm pp s00 s) :
    Within mm pp s00 (State.insert s f cause) := by
  unfold State.insert
  try dsimp only
  repeat' with_reducible
    first | assumption | apply beginSwitch_within | apply chargeGate_within | apply modFeed_within
          | apply ite_within | split | (intro _ _ _) | (intro _ _) | exact sub hM (by decide) | dsimp only

theorem State.switchTo_within {pp : Nat} (s : State) (f : Feed) (cause : Nat) (hM : mm ||| 0x100000000000000610000000000 = mm) (hW : Within mm pp s00 s) :
    Within mm pp s00 (State.switchTo s f cause) := by
  unfold State.switchTo
  try dsimp only
  repeat' with_reducible
    first | assumption | apply flag_within | apply beginSwitch_within | apply chargeGate_within
          | apply ite_within | split | exact sub hM (by decide) | dsimp only

theorem State.openBoth_within {pp : Nat} (s : State) (hM : mm ||| 0x100000000000000010000000000 = mm) (hW : Within mm pp s00 s) :
    Within mm pp s00 (State.openBoth s) := by
  unfold State.openBoth
  try dsimp only
  repeat' with_reducible
    first | assumption | apply feedOpen_within | exact sub hM (by decide) | dsimp only

theorem State.select_within {pp : Nat} (s0 : State) (cause : Nat) (hM : mm ||| 0x100000000000000610000000000 = mm) (hW : Within mm pp s00 s0) :
    Within mm pp s00 (State.select s0 cause) := by
  unfold State.select
  try dsimp only
  repeat' with_reducible
    first | assumption | apply insert_within | apply openBoth_within | apply switchTo_within
          | apply ite_within | split | apply within_mk | exact Or.inr rfl | exact Or.inl (bitOf hM (by decide))
          | exact sub hM (by decide) | dsimp only

theorem State.unforce_within {pp : Nat} (s : State) (f : Feed) (hM : mm ||| 0x10000000000 = mm) (hW : Within mm pp s00 s) :
    Within mm pp s00 (State.unforce s f) := by
  unfold State.unforce
  try dsimp only
  repeat' with_reducible
    first | assumption | apply wr_within | apply ite_within | split | exact sub hM (by decide) | dsimp only

theorem State.endSwitch_within {pp : Nat} (s : State) (hM : mm ||| 0x10000000000 = mm) (hW : Within mm pp s00 s) :
    Within mm pp s00 (State.endSwitch s) := by
  unfold State.endSwitch
  try dsimp only
  repeat' with_reducible
    first | assumption | apply flag_within | exact sub hM (by decide) | dsimp only

theorem State.feedTripped_within {pp : Nat} (s : State) (f : Feed) (c : FeedCause) (gateOff : Bool) (iFeed : Int) (hM : mm ||| 0x100000100400000000000638000140000 = mm) (hW : Within mm pp s00 s) :
    Within mm pp s00 (State.feedTripped s f c gateOff iFeed) := by
  unfold State.feedTripped
  try dsimp only
  repeat' with_reducible
    first | assumption | apply bump_within | apply eventSev_sys | apply flag_within
          | apply irq_within | apply wr_within | apply endSwitch_within
          | apply feedGateOff_within | apply modFeed_within | apply select_within
          | apply unforce_within | apply ite_within | split | (intro _ _ _) | (intro _ _) | apply within_mk
          | exact Or.inr rfl | exact Or.inl (bitOf hM (by decide)) | exact sub hM (by decide) | decide | dsimp only

theorem State.feedTrip_within {pp : Nat} (s : State) (f : Feed) (c : FeedCause) (gateOff : Bool) (iFeed : Int) (hM : mm ||| 0x100000100400000000000638000140000 = mm) (hW : Within mm pp s00 s) :
    Within mm pp s00 (State.feedTrip s f c gateOff iFeed) := by
  unfold State.feedTrip
  try dsimp only
  repeat' with_reducible
    first | assumption | apply feedTripped_within | apply ite_within | split | exact sub hM (by decide)
          | dsimp only

theorem State.feedCommit_within {pp : Nat} (s : State) (fi fe fm : Field) (hi : mm ||| fieldMask false fi = mm)
    (he : mm ||| fieldMask false fe = mm) (hm : mm ||| fieldMask false fm = mm)
    (hM : mm ||| 0x18000000000 = mm) (hW : Within mm pp s00 s) : Within mm pp s00 (s.feedCommit fi fe fm) := by
  unfold State.feedCommit
  dsimp only
  split
  · exact foldl_within _ _ _ (fun t x ht => State.wr_within _ _ _ _ hm (State.wr_within _ _ _ _ he (State.wr_within _ _ _ _ hi ht))) hW
  · exact State.errF_within _ _ _ _ (sub hM (by decide)) (State.irq_within _ _ _ _ (sub hM (by decide)) hW)

theorem execFeedCommitA_within (pp : Nat) (s : State) :
    ∀ u, execFeedCommitA s = .next u → Within 0x18000000000 pp s u := by
  intro u hu
  cases hu
  have hM : 0x18000000000 ||| 0x18000000000 = 0x18000000000 := rfl
  have hW := Within.refl 0x18000000000 pp s
  try dsimp only
  repeat' with_reducible
    first | assumption | apply feedCommit_within | exact sub hM (by decide) | dsimp only

theorem execFeedCommitB_within (pp : Nat) (s : State) :
    ∀ u, execFeedCommitB s = .next u → Within 0x18000000000 pp s u := by
  intro u hu
  cases hu
  have hM : 0x18000000000 ||| 0x18000000000 = 0x18000000000 := rfl
  have hW := Within.refl 0x18000000000 pp s
  try dsimp only
  repeat' with_reducible
    first | assumption | apply feedCommit_within | exact sub hM (by decide) | dsimp only

theorem State.feedClear_within {pp : Nat} (s : State) (f : Feed) (repaired : Bool) (hM : mm ||| 0x100000100000000000000010000000000 = mm) (hW : Within mm pp s00 s) :
    Within mm pp s00 (State.feedClear s f repaired) := by
  unfold State.feedClear
  try dsimp only
  repeat' with_reducible
    first | assumption | apply flag_within | apply feedLift_within | apply ite_within | split
          | apply within_mk | exact Or.inr rfl | exact Or.inl (bitOf hM (by decide)) | exact sub hM (by decide)
          | dsimp only

theorem execClearA_within (pp : Nat) (repaired : Bool) (s : State) :
    ∀ u, execClearA repaired s = .next u → Within 0x100000100000000000000010000000000 pp s u := by
  intro u hu
  cases hu
  have hM : 0x100000100000000000000010000000000 ||| 0x100000100000000000000010000000000 = 0x100000100000000000000010000000000 := rfl
  have hW := Within.refl 0x100000100000000000000010000000000 pp s
  try dsimp only
  repeat' with_reducible
    first | assumption | apply feedClear_within | exact sub hM (by decide) | dsimp only

theorem execClearB_within (pp : Nat) (repaired : Bool) (s : State) :
    ∀ u, execClearB repaired s = .next u → Within 0x100000100000000000000010000000000 pp s u := by
  intro u hu
  cases hu
  have hM : 0x100000100000000000000010000000000 ||| 0x100000100000000000000010000000000 = 0x100000100000000000000010000000000 := rfl
  have hW := Within.refl 0x100000100000000000000010000000000 pp s
  try dsimp only
  repeat' with_reducible
    first | assumption | apply feedClear_within | exact sub hM (by decide) | dsimp only

theorem State.feedForce_within {pp : Nat} (s : State) (v : Nat) (hM : mm ||| 0x100000000000000618000000000 = mm) (hW : Within mm pp s00 s) :
    Within mm pp s00 (State.feedForce s v) := by
  unfold State.feedForce
  try dsimp only
  repeat' with_reducible
    first | assumption | apply errF_within | apply wr_within | apply select_within
          | apply ite_within | split | exact sub hM (by decide) | dsimp only

theorem execForceCmd_within (pp : Nat) (v : Fin 4) (s : State) :
    ∀ u, execForceCmd v s = .next u → Within 0x100000000000000618000000000 pp s u := by
  intro u hu
  cases hu
  have hM : 0x100000000000000618000000000 ||| 0x100000000000000618000000000 = 0x100000000000000618000000000 := rfl
  have hW := Within.refl 0x100000000000000618000000000 pp s
  try dsimp only
  repeat' with_reducible
    first | assumption | apply feedForce_within | exact sub hM (by decide) | dsimp only

theorem State.gainHealth_within {pp : Nat} (s : State) (f : Feed) (hM : mm ||| 0x100000000000000010000000000 = mm) (hW : Within mm pp s00 s) :
    Within mm pp s00 (State.gainHealth s f) := by
  unfold State.gainHealth
  try dsimp only
  repeat' with_reducible
    first | assumption | apply flag_within | apply modFeed_within | apply restFeed_within
          | apply ite_within | split | (intro _ _ _) | (intro _ _) | exact sub hM (by decide) | dsimp only

theorem execFeedHealthy_within (pp : Nat) (f : Feed) (both : Bool) (s : State) :
    ∀ u, execFeedHealthy f both s = .next u → Within 0x100000000000000610000000000 pp s u := by
  intro u hu
  cases hu
  have hM : 0x100000000000000610000000000 ||| 0x100000000000000610000000000 = 0x100000000000000610000000000 := rfl
  have hW := Within.refl 0x100000000000000610000000000 pp s
  try dsimp only
  repeat' with_reducible
    first | assumption | apply gainHealth_within | apply select_within | apply ite_within | split
          | exact sub hM (by decide) | dsimp only

theorem State.loseHealth_within {pp : Nat} (s : State) (f : Feed) (hM : mm ||| 0x100000000000000610000000000 = mm) (hW : Within mm pp s00 s) :
    Within mm pp s00 (State.loseHealth s f) := by
  unfold State.loseHealth
  try dsimp only
  repeat' with_reducible
    first | assumption | apply flag_within | apply modFeed_within | apply restFeed_within
          | apply select_within | apply unforce_within | apply ite_within | split | (intro _ _ _)
          | (intro _ _) | apply within_mk | exact Or.inr rfl | exact Or.inl (bitOf hM (by decide))
          | exact sub hM (by decide) | dsimp only

theorem execFeedWindowLoss_within (pp : Nat) (f : Feed) (s : State) :
    ∀ u, execFeedWindowLoss f s = .next u → Within 0x100000000000000610000000000 pp s u := by
  intro u hu
  cases hu
  have hM : 0x100000000000000610000000000 ||| 0x100000000000000610000000000 = 0x100000000000000610000000000 := rfl
  have hW := Within.refl 0x100000000000000610000000000 pp s
  try dsimp only
  repeat' with_reducible
    first | assumption | apply loseHealth_within | exact sub hM (by decide) | dsimp only

theorem execSwitchover_within (pp : Nat) (outOff markMet : Bool) (s : State) :
    ∀ u, execSwitchover outOff markMet s = .next u → Within 0x100000100400000000000638000140000 pp s u := by
  intro u hu
  cases hu
  have hM : 0x100000100400000000000638000140000 ||| 0x100000100400000000000638000140000 = 0x100000100400000000000638000140000 := rfl
  have hW := Within.refl 0x100000100400000000000638000140000 pp s
  try dsimp only
  repeat' with_reducible
    first | assumption | apply wr_within | apply endSwitch_within | apply feedGateOff_within
          | apply feedTrip_within | apply modFeed_within | apply restFeed_within | apply ite_within
          | split | (intro _ _ _) | (intro _ _) | exact sub hM (by decide) | dsimp only

theorem execGapExpiry_within (pp : Nat) (s : State) :
    ∀ u, execGapExpiry s = .next u → Within 0x100000000000000000000000000 pp s u := by
  intro u hu
  cases hu
  have hM : 0x100000000000000000000000000 ||| 0x100000000000000000000000000 = 0x100000000000000000000000000 := rfl
  have hW := Within.refl 0x100000000000000000000000000 pp s
  try dsimp only
  repeat' with_reducible
    first | assumption | apply modFeed_within | apply ite_within | split | (intro _ _ _) | (intro _ _)
          | exact sub hM (by decide) | dsimp only

theorem execHotInsertion_within (pp : Nat) (e : InsertEv) (s : State) :
    ∀ u, execHotInsertion e s = .next u → Within 0x100000100400000000000638000140000 pp s u := by
  intro u hu
  cases hu
  have hM : 0x100000100400000000000638000140000 ||| 0x100000100400000000000638000140000 = 0x100000100400000000000638000140000 := rfl
  have hW := Within.refl 0x100000100400000000000638000140000 pp s
  try dsimp only
  repeat' with_reducible
    first | assumption | apply wr_within | apply feedTrip_within | apply modFeed_within
          | apply ite_within | split | (intro _ _ _) | (intro _ _) | exact sub hM (by decide) | dsimp only

theorem execFeedOn_within (pp : Nat) (s : State) :
    ∀ u, execFeedOn s = .next u → Within 0x100500000000000638000140000 pp s u := by
  intro u hu
  cases hu
  have hM : 0x100500000000000638000140000 ||| 0x100500000000000638000140000 = 0x100500000000000638000140000 := rfl
  have hW := Within.refl 0x100500000000000638000140000 pp s
  try dsimp only
  repeat' with_reducible
    first | assumption | apply bump_within | apply flag_within | apply irq_within
          | apply wr_within | apply endSwitch_within | apply feedEvent_within
          | apply modFeed_within | apply select_within | apply ite_within | split | (intro _ _ _)
          | (intro _ _) | exact sub hM (by decide) | dsimp only

theorem execOfferHoldRelease_within (pp : Nat) (s : State) :
    ∀ u, execOfferHoldRelease s = .next u → Within 0x80100000000000000600000000000 pp s u := by
  intro u hu
  cases hu
  have hM : 0x80100000000000000600000000000 ||| 0x80100000000000000600000000000 = 0x80100000000000000600000000000 := rfl
  have hW := Within.refl 0x80100000000000000600000000000 pp s
  try dsimp only
  repeat' with_reducible
    first | assumption | apply feedHold_within | apply setCap_within | apply ite_within | split
          | exact sub hM (by decide) | dsimp only

theorem execAutoReturn_within (pp : Nat) (s : State) :
    ∀ u, execAutoReturn s = .next u → Within 0x100000000000000610000000000 pp s u := by
  intro u hu
  cases hu
  have hM : 0x100000000000000610000000000 ||| 0x100000000000000610000000000 = 0x100000000000000610000000000 := rfl
  have hW := Within.refl 0x100000000000000610000000000 pp s
  try dsimp only
  repeat' with_reducible
    first | assumption | apply switchTo_within | apply ite_within | split | apply within_mk | exact Or.inr rfl
          | exact Or.inl (bitOf hM (by decide)) | exact sub hM (by decide) | dsimp only

theorem execFeedTrip_within (pp : Nat) (f : Feed) (c : FeedCause) (others : List FeedCause) (iFeed : Int) (s : State) :
    ∀ u, execFeedTrip f c others iFeed s = .next u → Within 0x100000100400000000000638000140000 pp s u := by
  intro u hu
  cases hu
  have hM : 0x100000100400000000000638000140000 ||| 0x100000100400000000000638000140000 = 0x100000100400000000000638000140000 := rfl
  have hW := Within.refl 0x100000100400000000000638000140000 pp s
  try dsimp only
  repeat' with_reducible
    first | assumption | apply feedTrip_within | apply foldl_within | apply ite_within | split | (intro _ _ _)
          | (intro _ _) | exact sub hM (by decide) | dsimp only

theorem State.feedRetry_within {pp : Nat} (s : State) (f : Feed) (hM : mm ||| 0x100000000000000010000000000 = mm) (hW : Within mm pp s00 s) :
    Within mm pp s00 (State.feedRetry s f) := by
  unfold State.feedRetry
  try dsimp only
  repeat' with_reducible
    first | assumption | apply feedLift_within | apply modFeed_within | split | (intro _ _ _)
          | (intro _ _) | exact sub hM (by decide) | dsimp only

theorem execFeedRetryExpiry_within (pp : Nat) (f : Feed) (s : State) :
    ∀ u, execFeedRetryExpiry f s = .next u → Within 0x100000000000000010000000000 pp s u := by
  intro u hu
  cases hu
  have hM : 0x100000000000000010000000000 ||| 0x100000000000000010000000000 = 0x100000000000000010000000000 := rfl
  have hW := Within.refl 0x100000000000000010000000000 pp s
  try dsimp only
  repeat' with_reducible
    first | assumption | apply feedRetry_within | apply modFeed_within | apply ite_within | split
          | (intro _ _ _) | (intro _ _) | exact sub hM (by decide) | dsimp only

theorem execFeedReverse_within (pp : Nat) (f : Feed) (iFeed : Int) (s : State) :
    ∀ u, execFeedReverse f iFeed s = .next u → Within 0x100500000000000630000140000 pp s u := by
  intro u hu
  cases hu
  have hM : 0x100500000000000630000140000 ||| 0x100500000000000630000140000 = 0x100500000000000630000140000 := rfl
  have hW := Within.refl 0x100500000000000630000140000 pp s
  try dsimp only
  repeat' with_reducible
    first | assumption | apply bump_within | apply flag_within | apply endSwitch_within
          | apply feedEvent_within | apply feedOpen_within | apply select_within
          | apply unforce_within | apply ite_within | split | exact sub hM (by decide) | dsimp only

theorem State.insertionGoesOn_within {pp : Nat} (s : State) (f : Feed) (hM : mm ||| 0x100000000000000610000000000 = mm) (hW : Within mm pp s00 s) :
    Within mm pp s00 (State.insertionGoesOn s f) := by
  unfold State.insertionGoesOn
  try dsimp only
  repeat' with_reducible
    first | assumption | apply wr_within | apply chargeGate_within | apply endSwitch_within
          | apply modFeed_within | apply restFeed_within | apply select_within | apply ite_within
          | split | (intro _ _ _) | (intro _ _) | exact sub hM (by decide) | dsimp only

theorem State.feedChecked_within {pp : Nat} (s : State) (m : Mon) (hM : mm ||| 0x100000000000000610000000000 = mm) (hW : Within mm pp s00 s) :
    Within mm pp s00 (State.feedChecked s m) := by
  unfold State.feedChecked
  try dsimp only
  repeat' with_reducible
    first | assumption | apply insertionGoesOn_within | split | exact sub hM (by decide) | dsimp only

theorem execIfastCheck_within (pp : Nat) (m : Mon) (zero pos neg below : Bool) (s : State) :
    ∀ u, execIfastCheck m zero pos neg below s = .next u → Within 0xC00122070053B4C0000007618038140002 pp s u := by
  intro u hu
  cases hu
  have hM : 0xC00122070053B4C0000007618038140002 ||| 0xC00122070053B4C0000007618038140002 = 0xC00122070053B4C0000007618038140002 := rfl
  have hW := Within.refl 0xC00122070053B4C0000007618038140002 pp s
  try dsimp only
  repeat' with_reducible
    first | assumption | apply feedChecked_within | apply ifastResult_within | apply ite_within | split
          | exact sub hM (by decide) | dsimp only

theorem execMonFailed_within (pp : Nat) (m : Mon) (step : Nat) (s : State) :
    ∀ u, execMonFailed m step s = .next u → Within 0xC00122070053B4C0000000618038140002 pp s u := by
  intro u hu
  cases hu
  have hM : 0xC00122070053B4C0000000618038140002 ||| 0xC00122070053B4C0000000618038140002 = 0xC00122070053B4C0000000618038140002 := rfl
  have hW := Within.refl 0xC00122070053B4C0000000618038140002 pp s
  try dsimp only
  repeat' with_reducible
    first | assumption | apply afterCheck_within | apply checkFailed_within
          | apply feedChecked_within | apply ite_within | split | exact sub hM (by decide) | dsimp only

theorem State.busLoss_within {pp : Nat} (s : State) (mv : Nat) (hM : mm ||| 0x10000200130503400000000638000140000 = mm) (hW : Within mm pp s00 s) :
    Within mm pp s00 (State.busLoss s mv) := by
  unfold State.busLoss
  try dsimp only
  repeat' with_reducible
    first | assumption | apply bump_within | apply flag_within | apply irq_within
          | apply bankFire_within | apply feedEvent_within | apply forPorts_within
          | apply reHold_within | apply islandCeiling_all | apply ite_within | split | (intro _ _ _)
          | (intro _ _) | apply within_mk | exact Or.inr rfl | exact Or.inl (bitOf hM (by decide))
          | exact sub hM (by decide) | dsimp only

theorem State.busOv_within {pp : Nat} (s : State) (mv : Nat) (hM : mm ||| 0x80500000000000038000140000 = mm) (hW : Within mm pp s00 s) :
    Within mm pp s00 (State.busOv s mv) := by
  unfold State.busOv
  try dsimp only
  repeat' with_reducible
    first | assumption | apply bump_within | apply flag_within | apply irq_within
          | apply feedEvent_within | apply within_mk | exact Or.inr rfl | exact Or.inl (bitOf hM (by decide))
          | exact sub hM (by decide) | dsimp only

theorem execBusLoss_within (pp : Nat) (mv : Nat) (s : State) :
    ∀ u, execBusLoss mv s = .next u → Within 0x10000200130503400000000638000140000 pp s u := by
  intro u hu
  cases hu
  have hM : 0x10000200130503400000000638000140000 ||| 0x10000200130503400000000638000140000 = 0x10000200130503400000000638000140000 := rfl
  have hW := Within.refl 0x10000200130503400000000638000140000 pp s
  try dsimp only
  repeat' with_reducible
    first | assumption | apply busLoss_within | apply ite_within | split | exact sub hM (by decide) | dsimp only

theorem execBusOv_within (pp : Nat) (mv : Nat) (s : State) :
    ∀ u, execBusOv mv s = .next u → Within 0x80500000000000038000140000 pp s u := by
  intro u hu
  cases hu
  have hM : 0x80500000000000038000140000 ||| 0x80500000000000038000140000 = 0x80500000000000038000140000 := rfl
  have hW := Within.refl 0x80500000000000038000140000 pp s
  try dsimp only
  repeat' with_reducible
    first | assumption | apply busOv_within | apply ite_within | split | exact sub hM (by decide) | dsimp only

theorem execBusOvCleared_within (pp : Nat) (s : State) :
    ∀ u, execBusOvCleared s = .next u → Within 0x80000000000000010000000000 pp s u := by
  intro u hu
  cases hu
  have hM : 0x80000000000000010000000000 ||| 0x80000000000000010000000000 = 0x80000000000000010000000000 := rfl
  have hW := Within.refl 0x80000000000000010000000000 pp s
  try dsimp only
  repeat' with_reducible
    first | assumption | apply flag_within | apply within_mk | exact Or.inr rfl
          | exact Or.inl (bitOf hM (by decide)) | exact sub hM (by decide) | dsimp only

theorem execBusRecovered_within (pp : Nat) (s : State) :
    ∀ u, execBusRecovered s = .next u → Within 0x100100000000000610000000000 pp s u := by
  intro u hu
  cases hu
  have hM : 0x100100000000000610000000000 ||| 0x100100000000000610000000000 = 0x100100000000000610000000000 := rfl
  have hW := Within.refl 0x100100000000000610000000000 pp s
  try dsimp only
  repeat' with_reducible
    first | assumption | apply flag_within | apply forPorts_within | apply reHold_within
          | apply islandClear_all | apply ite_within | split | (intro _ _ _) | (intro _ _) | apply within_mk
          | exact Or.inr rfl | exact Or.inl (bitOf hM (by decide)) | exact sub hM (by decide) | dsimp only

theorem State.supplyLost_within {pp : Nat} (s : State) (x : Supply) (mv : Nat) (hM : mm ||| 0x200080500E80000000028000140000 = mm) (hW : Within mm pp s00 s) :
    Within mm pp s00 (State.supplyLost s x mv) := by
  unfold State.supplyLost
  try dsimp only
  repeat' with_reducible
    first | assumption | apply bump_within | apply irq_within | apply feedEvent_within
          | apply forPorts_within | apply vconnLost_all | split | (intro _ _ _) | (intro _ _)
          | apply within_mk | exact Or.inr rfl | exact Or.inl (bitOf hM (by decide)) | exact sub hM (by decide)
          | dsimp only

theorem execSupplyFault_within (pp : Nat) (x : Supply) (mv : Nat) (s : State) :
    ∀ u, execSupplyFault x mv s = .next u → Within 0x200080500E80000000028000140000 pp s u := by
  intro u hu
  cases hu
  have hM : 0x200080500E80000000028000140000 ||| 0x200080500E80000000028000140000 = 0x200080500E80000000028000140000 := rfl
  have hW := Within.refl 0x200080500E80000000028000140000 pp s
  try dsimp only
  repeat' with_reducible
    first | assumption | apply supplyLost_within | apply ite_within | split | exact sub hM (by decide)
          | dsimp only

theorem execSupplyRecovered_within (pp : Nat) (x : Supply) (s : State) :
    ∀ u, execSupplyRecovered x s = .next u → Within 0x180000000000000610000000000 pp s u := by
  intro u hu
  cases hu
  have hM : 0x180000000000000610000000000 ||| 0x180000000000000610000000000 = 0x180000000000000610000000000 := rfl
  have hW := Within.refl 0x180000000000000610000000000 pp s
  try dsimp only
  repeat' with_reducible
    first | assumption | apply select_within | split | apply within_mk | exact Or.inr rfl
          | exact Or.inl (bitOf hM (by decide)) | exact sub hM (by decide) | dsimp only

theorem State.feedSample_within {pp : Nat} (s : State) (f : Feed) (ma : Int) (hM : mm ||| 0x100000100400000000000638000140000 = mm) (hW : Within mm pp s00 s) :
    Within mm pp s00 (State.feedSample s f ma) := by
  unfold State.feedSample
  try dsimp only
  repeat' with_reducible
    first | assumption | apply flag_within | apply wr_within | apply wrSat_within
          | apply feedRetry_within | apply feedTrip_within | apply modFeed_within | apply ite_within
          | split | (intro _ _ _) | (intro _ _) | exact sub hM (by decide) | dsimp only

theorem State.busSample_within {pp : Nat} (s : State) (mv : Nat) (hM : mm ||| 0x100002001B0503400000000638000140000 = mm) (hW : Within mm pp s00 s) :
    Within mm pp s00 (State.busSample s mv) := by
  unfold State.busSample
  try dsimp only
  repeat' with_reducible
    first | assumption | apply flag_within | apply busLoss_within | apply busOv_within
          | apply ite_within | split | apply within_mk | exact Or.inr rfl | exact Or.inl (bitOf hM (by decide))
          | exact sub hM (by decide) | dsimp only

theorem State.feedStandIn_within {pp : Nat} (s : State) (f : Feed) (mv : Nat) (hM : mm ||| 0x100000000000000610000000000 = mm) (hW : Within mm pp s00 s) :
    Within mm pp s00 (State.feedStandIn s f mv) := by
  unfold State.feedStandIn
  try dsimp only
  repeat' with_reducible
    first | assumption | apply loseHealth_within | apply ite_within | split | exact sub hM (by decide)
          | dsimp only

theorem State.keepSupply_within {pp : Nat} (s : State) (x : Supply) (uv : Nat) (hM : mm ||| 0x80000000000000000000000000 = mm) (hW : Within mm pp s00 s) :
    Within mm pp s00 (State.keepSupply s x uv) := by
  unfold State.keepSupply
  try dsimp only
  repeat' with_reducible
    first | assumption | split | apply within_mk | exact Or.inr rfl | exact Or.inl (bitOf hM (by decide))
          | exact sub hM (by decide) | dsimp only

theorem State.keepCore_within {pp : Nat} (s : State) (x : CoreRail) (uv : Nat) (hM : mm ||| 0x80000000000000000000000000 = mm) (hW : Within mm pp s00 s) :
    Within mm pp s00 (State.keepCore s x uv) := by
  unfold State.keepCore
  try dsimp only
  repeat' with_reducible
    first | assumption | split | apply within_mk | exact Or.inr rfl | exact Or.inl (bitOf hM (by decide))
          | exact sub hM (by decide) | dsimp only

theorem State.supplyStandIn_within {pp : Nat} (s : State) (x : Supply) (uv : Nat) (hM : mm ||| 0x200080500E80000000028000140000 = mm) (hW : Within mm pp s00 s) :
    Within mm pp s00 (State.supplyStandIn s x uv) := by
  unfold State.supplyStandIn
  try dsimp only
  repeat' with_reducible
    first | assumption | apply supplyLost_within | apply ite_within | split | exact sub hM (by decide)
          | dsimp only

theorem State.busShow_within {pp : Nat} (s : State) (bq : Int) (hM : mm ||| 0x1000000000000000080000000000 = mm) (hW : Within mm pp s00 s) :
    Within mm pp s00 (State.busShow s bq) := by
  unfold State.busShow
  try dsimp only
  repeat' with_reducible
    first | assumption | apply wr_within | apply within_mk | exact Or.inr rfl
          | exact Or.inl (bitOf hM (by decide)) | exact sub hM (by decide) | dsimp only

theorem State.frameShow_within {pp : Nat} (s : State) (va vb : Nat) (ma mb : Int) (tDie tExt : Nat) (hM : mm ||| 0x90000000000 = mm) (hW : Within mm pp s00 s) :
    Within mm pp s00 (State.frameShow s va vb ma mb tDie tExt) := by
  unfold State.frameShow
  try dsimp only
  repeat' with_reducible
    first | assumption | apply wr_within | apply wrI_within | exact sub hM (by decide) | dsimp only

theorem State.frameFeeds_within {pp : Nat} (s : State) (bus0 bus1 : Int) (va vb : Nat) (ma mb : Int) (hM : mm ||| 0x101002011B05034000000006B8000140000 = mm) (hW : Within mm pp s00 s) :
    Within mm pp s00 (State.frameFeeds s bus0 bus1 va vb ma mb) := by
  unfold State.frameFeeds
  try dsimp only
  repeat' with_reducible
    first | assumption | apply busSample_within | apply busShow_within | apply feedSample_within
          | apply feedStandIn_within | exact sub hM (by decide) | dsimp only

theorem State.frameRails_within {pp : Nat} (s : State) (r : RailRead) (hM : mm ||| 0x200080500E80000000028000140000 = mm) (hW : Within mm pp s00 s) :
    Within mm pp s00 (State.frameRails s r) := by
  unfold State.frameRails
  try dsimp only
  repeat' with_reducible
    first | assumption | apply keepCore_within | apply keepSupply_within
          | apply supplyStandIn_within | apply foldl_within | split | (intro _ _ _) | (intro _ _)
          | exact sub hM (by decide) | dsimp only

theorem State.addMa_within (s : State) (p : Port) (ma : Nat) (hM : mm ||| 0x80000000000000000000000 = mm) (hW : Within mm p s00 s) :
    Within mm p s00 (State.addMa s p ma) := by
  unfold State.addMa
  try dsimp only
  repeat' with_reducible
    first | assumption | apply cc_within | split | (intro _ _ _) | (intro _ _) | exact sub hM (by decide)
          | dsimp only

theorem State.addMa_all {pp : Nat} (s : State) (p : Port) (ma : Nat) (hM : mm ||| 0x100000000000000000000000 = mm) (hW : Within mm pp s00 s) :
    Within mm pp s00 (State.addMa s p ma) := by
  unfold State.addMa
  try dsimp only
  repeat' with_reducible
    first | assumption | apply cc_all | split | (intro _ _ _) | (intro _ _) | exact sub hM (by decide)
          | dsimp only

theorem State.frameVconn_within {pp : Nat} (s : State) (l : List (Port × Nat)) (hM : mm ||| 0x100000000000000000000000 = mm) (hW : Within mm pp s00 s) :
    Within mm pp s00 (State.frameVconn s l) := by
  unfold State.frameVconn
  try dsimp only
  repeat' with_reducible
    first | assumption | apply addMa_all | apply foldl_within | split | (intro _ _ _) | (intro _ _)
          | exact sub hM (by decide) | dsimp only

theorem execHousekeepingFrame_within (pp : Nat) (bus : BusRead) (fa fb : BitVec 12) (ia ib : BitVec 12) (tDie tExt : BitVec 16) (rails : RailRead) (s : State) :
    ∀ u, execHousekeepingFrame bus fa fb ia ib tDie tExt rails s = .next u → Within 0x101002011B0503E800000006B8000140000 pp s u := by
  intro u hu
  cases hu
  have hM : 0x101002011B0503E800000006B8000140000 ||| 0x101002011B0503E800000006B8000140000 = 0x101002011B0503E800000006B8000140000 := rfl
  have hW := Within.refl 0x101002011B0503E800000006B8000140000 pp s
  try dsimp only
  repeat' with_reducible
    first | assumption | apply frameFeeds_within | apply frameRails_within | apply frameShow_within
          | apply frameVconn_within | exact sub hM (by decide) | dsimp only

/-! ## Machine/Words.lean -/

theorem State.latchTime_within {pp : Nat} (s : State) (hM : mm ||| 0x2000000000000000000000000000000 = mm) (hW : Within mm pp s00 s) :
    Within mm pp s00 (State.latchTime s) := by
  unfold State.latchTime
  try dsimp only
  repeat' with_reducible
    first | assumption | apply within_mk | exact Or.inr rfl | exact Or.inl (bitOf hM (by decide))
          | exact sub hM (by decide) | dsimp only

theorem State.hostRead_within1 {pp : Nat} (s : State) (a : Nat) (hM : mm ||| 0x2000000800000000000000000000000 = mm) (hW : Within mm pp s00 s) :
    Within mm pp s00 (State.hostRead s a).2 := by
  unfold State.hostRead
  try dsimp only
  repeat' with_reducible
    first | assumption | apply latchTime_within | apply ite_within | split | apply within_mk | exact Or.inr rfl
          | exact Or.inl (bitOf hM (by decide)) | exact sub hM (by decide) | dsimp only
theorem State.hostRead_within {pp : Nat} {s : State} {a : Nat} {ss xx} (hM : mm ||| 0x2000000800000000000000000000000 = mm) (hW : Within mm pp s00 s)
    (he : State.hostRead s a = (xx, ss)) : Within mm pp s00 ss := by
  have := State.hostRead_within1 s a hM hW; rw [he] at this; exact this

theorem execTimeLoRead_within (pp : Nat) (s : State) :
    ∀ u, execTimeLoRead s = .next u → Within 0x2000000000000000000000000000000 pp s u := by
  intro u hu
  cases hu
  have hM : 0x2000000000000000000000000000000 ||| 0x2000000000000000000000000000000 = 0x2000000000000000000000000000000 := rfl
  have hW := Within.refl 0x2000000000000000000000000000000 pp s
  try dsimp only
  repeat' with_reducible
    first | assumption | apply latchTime_within | exact sub hM (by decide) | dsimp only

/-! ## Machine/StopLane.lean -/

theorem State.setStop_within (s : State) (p : Port) (v : Bool) (hM : mm ||| 0x4000000000000000000000000 = mm) (hW : Within mm p s00 s) :
    Within mm p s00 (State.setStop s p v) := by
  unfold State.setStop
  try dsimp only
  repeat' with_reducible
    first | assumption | apply ite_within | split | apply within_mk | exact Or.inr rfl
          | exact Or.inl (bitOf hM (by decide)) | exact sub hM (by decide) | dsimp only

theorem State.setStop_all {pp : Nat} (s : State) (p : Port) (v : Bool) (hM : mm ||| 0x4000000000000000000000000 = mm) (hW : Within mm pp s00 s) :
    Within mm pp s00 (State.setStop s p v) := by
  unfold State.setStop
  try dsimp only
  repeat' with_reducible
    first | assumption | apply ite_within | split | apply within_mk | exact Or.inr rfl
          | exact Or.inl (bitOf hM (by decide)) | exact sub hM (by decide) | dsimp only

theorem State.stopPort_within (s : State) (p : Port) (hM : mm ||| 0xC00120000448001F4D0000000038140000 = mm) (hW : Within mm p s00 s) :
    Within mm p s00 (State.stopPort s p) := by
  unfold State.stopPort
  try dsimp only
  repeat' with_reducible
    first | assumption | apply safeState_within | apply setStop_within | apply ite_within | split
          | exact sub hM (by decide) | dsimp only

theorem State.stopPort_all {pp : Nat} (s : State) (p : Port) (hM : mm ||| 0xC00120000451F4C0010000000038140000 = mm) (hW : Within mm pp s00 s) :
    Within mm pp s00 (State.stopPort s p) := by
  unfold State.stopPort
  try dsimp only
  repeat' with_reducible
    first | assumption | apply safeState_all | apply setStop_all | apply ite_within | split
          | exact sub hM (by decide) | dsimp only

theorem State.shedTo_within (s : State) (p : Port) (iShed pShed : Nat) (hM : mm ||| 0x80000000000400000000000 = mm) (hW : Within mm p s00 s) :
    Within mm p s00 (State.shedTo s p iShed pShed) := by
  unfold State.shedTo
  try dsimp only
  repeat' with_reducible
    first | assumption | apply flag_own | apply wr_own | apply swp_within | split | (intro _ _ _)
          | (intro _ _) | exact sub hM (by decide) | decide | dsimp only

theorem State.shedTo_all {pp : Nat} (s : State) (p : Port) (iShed pShed : Nat) (hM : mm ||| 0x100000000000400000000000 = mm) (hW : Within mm pp s00 s) :
    Within mm pp s00 (State.shedTo s p iShed pShed) := by
  unfold State.shedTo
  try dsimp only
  repeat' with_reducible
    first | assumption | apply flag_within | apply wr_within | apply swp_all | split | (intro _ _ _)
          | (intro _ _) | exact sub hM (by decide) | dsimp only

theorem State.releasePort_within (s : State) (p : Port) (hM : mm ||| 0x4080010000000400000000000 = mm) (hW : Within mm p s00 s) :
    Within mm p s00 (State.releasePort s p) := by
  unfold State.releasePort
  try dsimp only
  repeat' with_reducible
    first | assumption | apply clearShed_within | apply safeRelease_within | apply setStop_within
          | apply ite_within | split | exact sub hM (by decide) | dsimp only

theorem State.releasePort_all {pp : Nat} (s : State) (p : Port) (hM : mm ||| 0x4110000000000400000000000 = mm) (hW : Within mm pp s00 s) :
    Within mm pp s00 (State.releasePort s p) := by
  unfold State.releasePort
  try dsimp only
  repeat' with_reducible
    first | assumption | apply clearShed_all | apply safeRelease_all | apply setStop_all
          | apply ite_within | split | exact sub hM (by decide) | dsimp only

theorem State.stopEffect_within {pp : Nat} (s : State) (op arg : Nat) (l : List Port) (hM : mm ||| 0xC00120000451F4C0010000E00038140000 = mm) (hW : Within mm pp s00 s) :
    Within mm pp s00 (State.stopEffect s op arg l) := by
  unfold State.stopEffect
  try dsimp only
  repeat' with_reducible
    first | assumption | apply bump_within | apply irq_within | apply forPorts_within
          | apply releasePort_all | apply shedTo_all | apply stopPort_all | apply ite_within | split
          | (intro _ _ _) | (intro _ _) | exact sub hM (by decide) | dsimp only

theorem State.heldCount_within {pp : Nat} (s : State) (hM : mm ||| 0x800000000 = mm) (hW : Within mm pp s00 s) :
    Within mm pp s00 (State.heldCount s) := by
  unfold State.heldCount
  try dsimp only
  repeat' with_reducible
    first | assumption | apply bump_within | apply ite_within | split | exact sub hM (by decide) | dsimp only

theorem State.stopLane_within1 {pp : Nat} (s : State) (op t arg tag source : Nat) (hM : mm ||| 0xC00120000451F4C0010000E008381C0000 = mm) (hW : Within mm pp s00 s) :
    Within mm pp s00 (State.stopLane s op t arg tag source).1 := by
  unfold State.stopLane
  try dsimp only
  repeat' with_reducible
    first | assumption | apply bump_within | apply irq_within | apply wr_within
          | apply heldCount_within | apply sendUrgent_within | apply stopEffect_within | split
          | exact sub hM (by decide) | dsimp only
theorem State.stopLane_within {pp : Nat} {s : State} {op : Nat} {t : Nat} {arg : Nat} {tag : Nat} {source : Nat} {ss xx} (hM : mm ||| 0xC00120000451F4C0010000E008381C0000 = mm) (hW : Within mm pp s00 s)
    (he : State.stopLane s op t arg tag source = (ss, xx)) : Within mm pp s00 ss := by
  have := State.stopLane_within1 s op t arg tag source hM hW; rw [he] at this; exact this

theorem State.stopPacket_within {pp : Nat} (s : State) (op : Nat) (k : Packet) (weft : Bool) (hM : mm ||| 0xC00120000451F4C0010000E008381C0000 = mm) (hW : Within mm pp s00 s) :
    Within mm pp s00 (State.stopPacket s op k weft) := by
  unfold State.stopPacket
  try dsimp only
  repeat' with_reducible
    first | assumption | apply irq_within
          | (refine setRing_entries_within _ _ _ rfl (.inr (sub hM (by decide))) ?_ ?_)
          | (refine setRing_erase_within _ _ _ _ rfl (.inr (sub hM (by decide))) ?_ ?_)
          | (refine setRing_drop_within _ _ _ _ rfl (.inr (sub hM (by decide))) ?_ ?_)
          | (refine setRing_empty_within _ _ _ rfl (.inr (sub hM (by decide))) ?_ ?_) | apply fresh_within1
          | (refine State.fresh_within ?_ ?_ ‹_›) | (refine State.pushPacket_within ?_ ?_ ‹_›)
          | apply stopLane_within1 | (refine State.stopLane_within ?_ ?_ ‹_›) | apply ite_within | split
          | exact sub hM (by decide) | dsimp only

theorem execStopPort_within (pp : Nat) (k : Packet) (weft : Bool) (s : State) :
    ∀ u, execStopPort k weft s = .next u → Within 0xC00120000451F4C0010000E008381C0000 pp s u := by
  intro u hu
  cases hu
  have hM : 0xC00120000451F4C0010000E008381C0000 ||| 0xC00120000451F4C0010000E008381C0000 = 0xC00120000451F4C0010000E008381C0000 := rfl
  have hW := Within.refl 0xC00120000451F4C0010000E008381C0000 pp s
  try dsimp only
  repeat' with_reducible
    first | assumption | apply stopPacket_within | exact sub hM (by decide) | dsimp only

theorem execStopGroup_within (pp : Nat) (k : Packet) (weft : Bool) (s : State) :
    ∀ u, execStopGroup k weft s = .next u → Within 0xC00120000451F4C0010000E008381C0000 pp s u := by
  intro u hu
  cases hu
  have hM : 0xC00120000451F4C0010000E008381C0000 ||| 0xC00120000451F4C0010000E008381C0000 = 0xC00120000451F4C0010000E008381C0000 := rfl
  have hW := Within.refl 0xC00120000451F4C0010000E008381C0000 pp s
  try dsimp only
  repeat' with_reducible
    first | assumption | apply stopPacket_within | exact sub hM (by decide) | dsimp only

theorem execStopAll_within (pp : Nat) (k : Packet) (weft : Bool) (s : State) :
    ∀ u, execStopAll k weft s = .next u → Within 0xC00120000451F4C0010000E008381C0000 pp s u := by
  intro u hu
  cases hu
  have hM : 0xC00120000451F4C0010000E008381C0000 ||| 0xC00120000451F4C0010000E008381C0000 = 0xC00120000451F4C0010000E008381C0000 := rfl
  have hW := Within.refl 0xC00120000451F4C0010000E008381C0000 pp s
  try dsimp only
  repeat' with_reducible
    first | assumption | apply stopPacket_within | exact sub hM (by decide) | dsimp only

theorem execShedTo_within (pp : Nat) (k : Packet) (weft : Bool) (s : State) :
    ∀ u, execShedTo k weft s = .next u → Within 0xC00120000451F4C0010000E008381C0000 pp s u := by
  intro u hu
  cases hu
  have hM : 0xC00120000451F4C0010000E008381C0000 ||| 0xC00120000451F4C0010000E008381C0000 = 0xC00120000451F4C0010000E008381C0000 := rfl
  have hW := Within.refl 0xC00120000451F4C0010000E008381C0000 pp s
  try dsimp only
  repeat' with_reducible
    first | assumption | apply stopPacket_within | exact sub hM (by decide) | dsimp only

theorem execRelease_within (pp : Nat) (k : Packet) (weft : Bool) (s : State) :
    ∀ u, execRelease k weft s = .next u → Within 0xC00120000451F4C0010000E008381C0000 pp s u := by
  intro u hu
  cases hu
  have hM : 0xC00120000451F4C0010000E008381C0000 ||| 0xC00120000451F4C0010000E008381C0000 = 0xC00120000451F4C0010000E008381C0000 := rfl
  have hW := Within.refl 0xC00120000451F4C0010000E008381C0000 pp s
  try dsimp only
  repeat' with_reducible
    first | assumption | apply stopPacket_within | exact sub hM (by decide) | dsimp only

theorem execEventRecordWrite_within (pp : Nat) (q : Fin 40) (coal : Bool) (sev : Fin 4) (port code src : Byte) (d4 d5 d6 d7 : Word) (s : State) :
    ∀ u, execEventRecordWrite q coal sev port code src d4 d5 d6 d7 s = .next u → Within 0x8000000000400000000000000000140000 pp s u := by
  intro u hu
  cases hu
  have hM : 0x8000000000400000000000000000140000 ||| 0x8000000000400000000000000000140000 = 0x8000000000400000000000000000140000 := rfl
  have hW := Within.refl 0x8000000000400000000000000000140000 pp s
  try dsimp only
  repeat' with_reducible
    first | assumption | exact Or.inr (sub hM (by decide)) | apply writeRec_within | apply ite_within | split
          | exact sub hM (by decide) | dsimp only

theorem execRingThrottleTick_within (pp : Nat) (q : Fin 40) (s : State) :
    ∀ u, execRingThrottleTick q s = .next u → Within 0x8000000000400000000000000000000000 pp s u := by
  intro u hu
  cases hu
  have hM : 0x8000000000400000000000000000000000 ||| 0x8000000000400000000000000000000000 = 0x8000000000400000000000000000000000 := rfl
  have hW := Within.refl 0x8000000000400000000000000000000000 pp s
  try dsimp only
  repeat' with_reducible
    first | assumption | (refine setRing_entries_within _ _ _ rfl (.inr (sub hM (by decide))) ?_ ?_)
          | (refine setRing_erase_within _ _ _ _ rfl (.inr (sub hM (by decide))) ?_ ?_)
          | (refine setRing_drop_within _ _ _ _ rfl (.inr (sub hM (by decide))) ?_ ?_)
          | (refine setRing_empty_within _ _ _ rfl (.inr (sub hM (by decide))) ?_ ?_) | apply ite_within | split
          | exact sub hM (by decide) | dsimp only

theorem State.wakeBy_within {pp : Nat} (s : State) (src : Nat) (hM : mm ||| 0x200000000000000000000080 = mm) (hW : Within mm pp s00 s) :
    Within mm pp s00 (State.wakeBy s src) := by
  unfold State.wakeBy
  try dsimp only
  repeat' with_reducible
    first | assumption | apply wr_within | apply ite_within | split | apply within_mk | exact Or.inr rfl
          | exact Or.inl (bitOf hM (by decide)) | exact sub hM (by decide) | dsimp only

theorem State.setBox_within {pp : Nat} (s : State) (m : Fin 64) (b : Mbox) (hM : mm ||| 0x800000000000000000000000 = mm) (hW : Within mm pp s00 s) :
    Within mm pp s00 (State.setBox s m b) := by
  unfold State.setBox
  try dsimp only
  repeat' with_reducible
    first | assumption | apply within_mk | exact Or.inr rfl | exact Or.inl (bitOf hM (by decide))
          | exact sub hM (by decide) | dsimp only

theorem State.notify_within {pp : Nat} (s : State) (from_ : Fin 16) (m : Fin 64) (hM : mm ||| 0x2000000000000000000028000 = mm) (hW : Within mm pp s00 s) :
    Within mm pp s00 (State.notify s from_ m) := by
  unfold State.notify
  try dsimp only
  repeat' with_reducible
    first | assumption | apply bump_within | apply irq_within | apply within_mk | exact Or.inr rfl
          | exact Or.inl (bitOf hM (by decide)) | exact sub hM (by decide) | dsimp only

theorem State.doorbell_within {pp : Nat} (s : State) (e : Fin 16) (hM : mm ||| 0x200000000080000000020080 = mm) (hW : Within mm pp s00 s) :
    Within mm pp s00 (State.doorbell s e) := by
  unfold State.doorbell
  try dsimp only
  repeat' with_reducible
    first | assumption | apply bump_within | apply wr_within | apply wakeBy_within
          | apply ite_within | split | exact sub hM (by decide) | dsimp only

theorem State.commitBox_within {pp : Nat} (s : State) (from_ : Fin 16) (m : Fin 64) (w0 : BitVec 27) (staged : List Word) (hM : mm ||| 0x3B00000000080000000028080 = mm) (hW : Within mm pp s00 s) :
    Within mm pp s00 (State.commitBox s from_ m w0 staged) := by
  unfold State.commitBox
  try dsimp only
  repeat' with_reducible
    first | assumption | apply bump_within | apply irq_within | apply doorbell_within
          | apply notify_within | apply setBox_within | apply take_all | apply ite_within | split
          | apply within_mk | exact Or.inr rfl | exact Or.inl (bitOf hM (by decide)) | exact sub hM (by decide)
          | dsimp only

theorem execMailboxCommit_within (pp : Nat) (from_ : Fin 16) (m : Fin 64) (w0 : BitVec 27) (staged : List Word) (s : State) :
    ∀ u, execMailboxCommit from_ m w0 staged s = .next u → Within 0x3B00000000080000000028080 pp s u := by
  intro u hu
  cases hu
  have hM : 0x3B00000000080000000028080 ||| 0x3B00000000080000000028080 = 0x3B00000000080000000028080 := rfl
  have hW := Within.refl 0x3B00000000080000000028080 pp s
  try dsimp only
  repeat' with_reducible
    first | assumption | apply commitBox_within | apply ite_within | split | exact sub hM (by decide)
          | dsimp only

theorem State.readBox_within {pp : Nat} (s : State) (m : Fin 64) (hM : mm ||| 0x800000000000000000000000 = mm) (hW : Within mm pp s00 s) :
    Within mm pp s00 (State.readBox s m) := by
  unfold State.readBox
  try dsimp only
  repeat' with_reducible
    first | assumption | apply setBox_within | apply ite_within | split | exact sub hM (by decide) | dsimp only

theorem execMailboxRead_within (pp : Nat) (m : Fin 64) (s : State) :
    ∀ u, execMailboxRead m s = .next u → Within 0x800000000000000000000000 pp s u := by
  intro u hu
  cases hu
  have hM : 0x800000000000000000000000 ||| 0x800000000000000000000000 = 0x800000000000000000000000 := rfl
  have hW := Within.refl 0x800000000000000000000000 pp s
  try dsimp only
  repeat' with_reducible
    first | assumption | apply readBox_within | exact sub hM (by decide) | dsimp only

theorem State.abortBox_within {pp : Nat} (s : State) (m : Fin 64) (hM : mm ||| 0x2800000000000000000028000 = mm) (hW : Within mm pp s00 s) :
    Within mm pp s00 (State.abortBox s m) := by
  unfold State.abortBox
  try dsimp only
  repeat' with_reducible
    first | assumption | apply notify_within | apply setBox_within | apply ite_within | split
          | exact sub hM (by decide) | dsimp only

theorem State.resetBoxes_within {pp : Nat} (s : State) (e : Fin 16) (hM : mm ||| 0x3800000000000000000028000 = mm) (hW : Within mm pp s00 s) :
    Within mm pp s00 (State.resetBoxes s e) := by
  unfold State.resetBoxes
  try dsimp only
  repeat' with_reducible
    first | assumption | apply abortBox_within | apply foldl_within | split | (intro _ _ _) | (intro _ _)
          | apply within_mk | exact Or.inr rfl | exact Or.inl (bitOf hM (by decide)) | exact sub hM (by decide)
          | dsimp only

theorem execMailboxAborted_within (pp : Nat) (e : Fin 16) (s : State) :
    ∀ u, execMailboxAborted e s = .next u → Within 0x3800000000000000000028000 pp s u := by
  intro u hu
  cases hu
  have hM : 0x3800000000000000000028000 ||| 0x3800000000000000000028000 = 0x3800000000000000000028000 := rfl
  have hW := Within.refl 0x3800000000000000000028000 pp s
  try dsimp only
  repeat' with_reducible
    first | assumption | apply resetBoxes_within | exact sub hM (by decide) | dsimp only

theorem execDoorbellWake_within (pp : Nat) (e : Fin 16) (s : State) :
    ∀ u, execDoorbellWake e s = .next u → Within 0x200000000080000000020080 pp s u := by
  intro u hu
  cases hu
  have hM : 0x200000000080000000020080 ||| 0x200000000080000000020080 = 0x200000000080000000020080 := rfl
  have hW := Within.refl 0x200000000080000000020080 pp s
  try dsimp only
  repeat' with_reducible
    first | assumption | apply doorbell_within | exact sub hM (by decide) | dsimp only

/-! ## Machine/Snap.lean -/

theorem State.snapRec_within {pp : Nat} (s : State) (f : SnapSt → SnapSt) (hM : mm ||| 0x4000000000000000000000000000000 = mm) (hW : Within mm pp s00 s) :
    Within mm pp s00 (State.snapRec s f) := by
  unfold State.snapRec
  try dsimp only
  repeat' with_reducible
    first | assumption | apply within_mk | exact Or.inr rfl | exact Or.inl (bitOf hM (by decide))
          | exact sub hM (by decide) | dsimp only

theorem State.addSnap_within {pp : Nat} {s : State} {r : SnapReq} {ss : State} (hM : mm ||| 0x4000000000000000000000000000000 = mm) (hW : Within mm pp s00 s)
    (he : State.addSnap s r = some ss) : Within mm pp s00 ss := by
  unfold State.addSnap at he
  try dsimp only at he
  repeat' split at he
  all_goals try simp only [Option.some.injEq, reduceCtorEq] at he
  all_goals try subst he
  repeat' with_reducible
    first | assumption | apply snapRec_within | apply ite_within | split | (intro _ _ _) | (intro _ _)
          | exact sub hM (by decide) | dsimp only

theorem State.snapLocal_within {pp : Nat} {s : State} {w : List Packet} {ss : State} (hM : mm ||| 0x4000000000000000000000000000000 = mm) (hW : Within mm pp s00 s)
    (e : s.snapLocal w = some ss) : Within mm pp s00 ss := by
  unfold State.snapLocal at e
  obtain ⟨t, ht, rfl⟩ := Option.map_eq_some_iff.mp e
  exact State.snapRec_within _ _ (sub hM (by decide)) (State.addSnap_within (sub hM (by decide)) hW ht)

theorem State.snapAt_within {pp : Nat} {s : State} {t id : Nat} {ss : State} (hM : mm ||| 0x4000000000000000000000100000000 = mm) (hW : Within mm pp s00 s)
    (e : s.snapAt t id = some ss) : Within mm pp s00 ss := by
  unfold State.snapAt at e
  split at e
  · obtain ⟨t, ht, rfl⟩ := Option.map_eq_some_iff.mp e
    exact State.bump_within _ _ _ (sub hM (by decide)) (State.addSnap_within (sub hM (by decide)) hW ht)
  · exact State.addSnap_within (sub hM (by decide)) hW e

theorem State.snapFull_within {pp : Nat} (s : State) (w : List (Option Packet)) (hM : mm ||| 0xC001000000400000000000000078140000 = mm) (hW : Within mm pp s00 s) :
    Within mm pp s00 (State.snapFull s w) := by
  unfold State.snapFull
  try dsimp only
  repeat' with_reducible
    first | assumption | apply errF_within | apply answer_within | apply foldl_within | split
          | (intro _ _ _) | (intro _ _) | exact sub hM (by decide) | dsimp only

theorem State.snapRequest_within {pp : Nat} (s : State) (k : Option Packet) (hM : mm ||| 0xC005000000400000000000000078140000 = mm) (hW : Within mm pp s00 s) :
    Within mm pp s00 (State.snapRequest s k) := by
  unfold State.snapRequest
  try dsimp only
  repeat' with_reducible
    first | assumption | apply snapFull_within | (refine State.snapLocal_within ?_ ?_ ‹_›)
          | apply snapRec_within | apply ite_within | split | (intro _ _ _) | (intro _ _)
          | exact sub hM (by decide) | dsimp only

theorem execReq_within (pp : Nat) (s : State) :
    ∀ u, execReq s = .next u → Within 0xC005000000400000000000000078140000 pp s u := by
  intro u hu
  cases hu
  have hM : 0xC005000000400000000000000078140000 ||| 0xC005000000400000000000000078140000 = 0xC005000000400000000000000078140000 := rfl
  have hW := Within.refl 0xC005000000400000000000000078140000 pp s
  try dsimp only
  repeat' with_reducible
    first | assumption | apply snapRequest_within | exact sub hM (by decide) | dsimp only

theorem execSnapPinEdge_within (pp : Nat) (lowNs : Nat) (s : State) :
    ∀ u, execSnapPinEdge lowNs s = .next u → Within 0x4000000200000000000000000000080 pp s u := by
  intro u hu
  cases hu
  have hM : 0x4000000200000000000000000000080 ||| 0x4000000200000000000000000000080 = 0x4000000200000000000000000000080 := rfl
  have hW := Within.refl 0x4000000200000000000000000000080 pp s
  try dsimp only
  repeat' with_reducible
    first | assumption | (refine State.snapLocal_within ?_ ?_ ‹_›) | apply wakeBy_within | apply ite_within
          | apply getD_within | split | (intro _ _ _) | (intro _ _) | exact sub hM (by decide) | dsimp only

theorem State.runTo_within {pp : Nat} (s : State) (t : Nat) (hM : mm ||| 0x1400000000000000000000000000000000 = mm) (hW : Within mm pp s00 s) :
    Within mm pp s00 (State.runTo s t) := by
  unfold State.runTo
  try dsimp only
  repeat' with_reducible
    first | assumption | apply within_mk | exact Or.inr rfl | exact Or.inl (bitOf hM (by decide))
          | exact sub hM (by decide) | dsimp only

theorem execSnapPinDrive_within (pp : Nat) (s : State) :
    ∀ u, execSnapPinDrive s = .next u → Within 0xD405000000400000000000000078140000 pp s u := by
  intro u hu
  cases hu
  have hM : 0xD405000000400000000000000078140000 ||| 0xD405000000400000000000000078140000 = 0xD405000000400000000000000078140000 := rfl
  have hW := Within.refl 0xD405000000400000000000000078140000 pp s
  try dsimp only
  repeat' with_reducible
    first | assumption | apply runTo_within | apply snapFull_within
          | (refine State.snapLocal_within ?_ ?_ ‹_›) | apply snapRec_within | apply ite_within | split
          | (intro _ _ _) | (intro _ _) | exact sub hM (by decide) | dsimp only

theorem bankFlags_mask (b : Nat) (o : Bool) : fieldMask o (bankFlags b) = if o then 0x80000000 else 0x80000000 := by
  unfold bankFlags
  repeat' split
  all_goals (cases o <;> rfl)

theorem bankFlags_arr (b : Nat) : fieldArr (bankFlags b) = false := by
  unfold bankFlags
  repeat' split
  all_goals rfl

theorem State.snapAnswer_within {pp : Nat} (s : State) (w : List Packet) (status id : Nat) (hM : mm ||| 0x8001000000400000000000000038140000 = mm) (hW : Within mm pp s00 s) :
    Within mm pp s00 (State.snapAnswer s w status id) := by
  unfold State.snapAnswer
  try dsimp only
  repeat' with_reducible
    first | assumption | apply respondArg_within | apply foldl_within | split | (intro _ _ _) | (intro _ _)
          | exact sub hM (by decide) | dsimp only

theorem State.takeSnap_within {pp : Nat} (s : State) (r : SnapReq) (hM : mm ||| 0x80050000004000000000000001F8140000 = mm) (hW : Within mm pp s00 s) :
    Within mm pp s00 (State.takeSnap s r) := by
  unfold State.takeSnap
  try dsimp only
  repeat' with_reducible
    first | assumption | apply bump_within | apply event_sys | apply irq_within
          | apply wr_within | apply wrBit_within | apply snapAnswer_within
          | apply snapRec_within | apply ite_within | split | (intro _ _ _) | (intro _ _)
          | exact sub hM (by decide) | exact sub hM (by simp only [bankFlags_mask]; decide) | decide
          | (simp only [bankFlags_arr]; done) | dsimp only

theorem execSnapBoundary_within (pp : Nat) (s : State) :
    ∀ u, execSnapBoundary s = .next u → Within 0x94050000004000000000000001F8140000 pp s u := by
  intro u hu
  cases hu
  have hM : 0x94050000004000000000000001F8140000 ||| 0x94050000004000000000000001F8140000 = 0x94050000004000000000000001F8140000 := rfl
  have hW := Within.refl 0x94050000004000000000000001F8140000 pp s
  try dsimp only
  repeat' with_reducible
    first | assumption | apply runTo_within | apply snapRec_within | apply takeSnap_within | split
          | (intro _ _ _) | (intro _ _) | exact sub hM (by decide) | dsimp only

theorem execHoldExpired_within (pp : Nat) (b : Fin 2) (s : State) :
    ∀ u, execHoldExpired b s = .next u → Within 0x1C0000000 pp s u := by
  intro u hu
  cases hu
  have hM : 0x1C0000000 ||| 0x1C0000000 = 0x1C0000000 := rfl
  have hW := Within.refl 0x1C0000000 pp s
  try dsimp only
  repeat' with_reducible
    first | assumption | apply bump_within | apply irq_within | apply wrBit_within
          | apply ite_within | split | exact sub hM (by decide) | dsimp only

theorem State.cmdSnapshot_within {pp : Nat} (s : State) (k : Packet) (hM : mm ||| 0xC005000000400000000000000178140000 = mm) (hW : Within mm pp s00 s) :
    Within mm pp s00 (State.cmdSnapshot s k) := by
  unfold State.cmdSnapshot
  try dsimp only
  repeat' with_reducible
    first | assumption | apply answer_within | apply formed_within | apply originate_within
          | (refine State.snapAt_within ?_ ?_ ‹_›) | apply snapRequest_within | apply weftRec_within
          | apply ite_within | split | (intro _ _ _) | (intro _ _) | exact sub hM (by decide) | dsimp only

theorem execSnapshot_within (pp : Nat) (k : Packet) (s : State) :
    ∀ u, execSnapshot k s = .next u → Within 0xC005000000400000000000000178140000 pp s u := by
  intro u hu
  cases hu
  have hM : 0xC005000000400000000000000178140000 ||| 0xC005000000400000000000000178140000 = 0xC005000000400000000000000178140000 := rfl
  have hW := Within.refl 0xC005000000400000000000000178140000 pp s
  try dsimp only
  repeat' with_reducible
    first | assumption | apply cmdSnapshot_within | apply serve_within | (intro _ _ _) | (intro _ _)
          | exact sub hM (by decide) | dsimp only

theorem State.cmdReadSnap_within {pp : Nat} (s : State) (k : Packet) (hM : mm ||| 0xC001000000400000000000000038140000 = mm) (hW : Within mm pp s00 s) :
    Within mm pp s00 (State.cmdReadSnap s k) := by
  unfold State.cmdReadSnap
  try dsimp only
  repeat' with_reducible
    first | assumption | apply answer_within | apply formed_within | apply respond_within | split
          | (intro _ _ _) | (intro _ _) | exact sub hM (by decide) | dsimp only

theorem execReadSnap_within (pp : Nat) (k : Packet) (s : State) :
    ∀ u, execReadSnap k s = .next u → Within 0xC001000000400000000000000038140000 pp s u := by
  intro u hu
  cases hu
  have hM : 0xC001000000400000000000000038140000 ||| 0xC001000000400000000000000038140000 = 0xC001000000400000000000000038140000 := rfl
  have hW := Within.refl 0xC001000000400000000000000038140000 pp s
  try dsimp only
  repeat' with_reducible
    first | assumption | apply cmdReadSnap_within | apply serve_within | (intro _ _ _) | (intro _ _)
          | exact sub hM (by decide) | dsimp only

theorem State.stepTime_within {pp : Nat} (s : State) (t : Nat) (hM : mm ||| 0x404000000000000000000000140000000 = mm) (hW : Within mm pp s00 s) :
    Within mm pp s00 (State.stepTime s t) := by
  unfold State.stepTime
  try dsimp only
  repeat' with_reducible
    first | assumption | apply bump_within | apply irq_within | apply snapRec_within
          | apply foldl_within | apply ite_within | split | (intro _ _ _) | (intro _ _) | apply within_mk
          | exact Or.inr rfl | exact Or.inl (bitOf hM (by decide)) | exact sub hM (by decide) | dsimp only

theorem State.cmdTimeSet_within {pp : Nat} (s : State) (k : Packet) (hM : mm ||| 0xC4050000004000000000000001F8140000 = mm) (hW : Within mm pp s00 s) :
    Within mm pp s00 (State.cmdTimeSet s k) := by
  unfold State.cmdTimeSet
  try dsimp only
  repeat' with_reducible
    first | assumption | apply flag_within | apply answer_within | apply formed_within
          | apply offStandby_within | apply stepTime_within | apply ite_within | split | (intro _ _ _)
          | (intro _ _) | exact sub hM (by decide) | dsimp only

theorem execTimeSet_within (pp : Nat) (k : Packet) (s : State) :
    ∀ u, execTimeSet k s = .next u → Within 0xC4050000004000000000000001F8140000 pp s u := by
  intro u hu
  cases hu
  have hM : 0xC4050000004000000000000001F8140000 ||| 0xC4050000004000000000000001F8140000 = 0xC4050000004000000000000001F8140000 := rfl
  have hW := Within.refl 0xC4050000004000000000000001F8140000 pp s
  try dsimp only
  repeat' with_reducible
    first | assumption | apply cmdTimeSet_within | apply serve_within | (intro _ _ _) | (intro _ _)
          | exact sub hM (by decide) | dsimp only

theorem State.cmdTimeGet_within {pp : Nat} (s : State) (k : Packet) (hM : mm ||| 0xC001000000400000000000000038140000 = mm) (hW : Within mm pp s00 s) :
    Within mm pp s00 (State.cmdTimeGet s k) := by
  unfold State.cmdTimeGet
  try dsimp only
  repeat' with_reducible
    first | assumption | apply respond_within | exact sub hM (by decide) | dsimp only

theorem execTimeGet_within (pp : Nat) (k : Packet) (s : State) :
    ∀ u, execTimeGet k s = .next u → Within 0xC001000000400000000000000038140000 pp s u := by
  intro u hu
  cases hu
  have hM : 0xC001000000400000000000000038140000 ||| 0xC001000000400000000000000038140000 = 0xC001000000400000000000000038140000 := rfl
  have hW := Within.refl 0xC001000000400000000000000038140000 pp s
  try dsimp only
  repeat' with_reducible
    first | assumption | apply cmdTimeGet_within | apply serve_within | (intro _ _ _) | (intro _ _)
          | exact sub hM (by decide) | dsimp only

/-! ## Machine/Fabric.lean -/

theorem State.linkEvent_within {pp : Nat} (s : State) (l : Link) (st : Nat) (hM : mm ||| 0x400000000000000010140000 = mm) (hW : Within mm pp s00 s) :
    Within mm pp s00 (State.linkEvent s l st) := by
  unfold State.linkEvent
  try dsimp only
  repeat' with_reducible
    first | assumption | apply event_sys | apply wr_within | exact sub hM (by decide)
          | exact sub hM (by simp only [linkState_mask]; decide) | decide | (simp only [linkState_arr]; done)
          | dsimp only

theorem State.linkToUp_within {pp : Nat} (s : State) (l : Link) (hM : mm ||| 0x1000000400000000000000018140000 = mm) (hW : Within mm pp s00 s) :
    Within mm pp s00 (State.linkToUp s l) := by
  unfold State.linkToUp
  try dsimp only
  repeat' with_reducible
    first | assumption | apply irq_within | apply wr_within | apply linkEvent_within
          | apply weftRec_within | apply foldl_within | split | (intro _ _ _) | (intro _ _)
          | exact sub hM (by decide) | exact sub hM (by simp only [linkCredit_mask]; decide)
          | (simp only [linkCredit_arr]; done) | dsimp only

theorem execLinkTraining_within (pp : Nat) (l : Link) (e : LinkEvent) (s : State) :
    ∀ u, execLinkTraining l e s = .next u → Within 0x1000000400000000000000018140000 pp s u := by
  intro u hu
  cases hu
  have hM : 0x1000000400000000000000018140000 ||| 0x1000000400000000000000018140000 = 0x1000000400000000000000018140000 := rfl
  have hW := Within.refl 0x1000000400000000000000018140000 pp s
  try dsimp only
  repeat' with_reducible
    first | assumption | apply wr_within | apply linkToUp_within | apply ite_within | split
          | exact sub hM (by decide) | exact sub hM (by simp only [linkState_mask]; decide)
          | (simp only [linkState_arr]; done) | dsimp only

theorem State.sendsAborted_within {pp : Nat} (s : State) (ids : List Nat) (hM : mm ||| 0xC001000000400000000000000038140000 = mm) (hW : Within mm pp s00 s) :
    Within mm pp s00 (State.sendsAborted s ids) := by
  unfold State.sendsAborted
  try dsimp only
  repeat' with_reducible
    first | assumption | apply answer_within | apply weftRec_within | apply foldl_within | split
          | (intro _ _ _) | (intro _ _) | exact sub hM (by decide) | dsimp only

theorem State.linkLost_within {pp : Nat} (s : State) (l : Link) (st : Nat) (hM : mm ||| 0xC003000000400000000000000038140000 = mm) (hW : Within mm pp s00 s) :
    Within mm pp s00 (State.linkLost s l st) := by
  unfold State.linkLost
  try dsimp only
  repeat' with_reducible
    first | assumption | apply bump_within | apply irq_within | apply wr_within
          | apply dropCell_within | apply forwardLeft_within | apply linkEvent_within
          | apply sendsAborted_within | apply weftRec_within | apply foldl_within | apply ite_within
          | split | (intro _ _ _) | (intro _ _) | apply within_mk | exact Or.inr rfl
          | exact Or.inl (bitOf hM (by decide)) | exact sub hM (by decide)
          | exact sub hM (by simp only [linkState_mask]; decide) | (simp only [linkState_arr]; done) | dsimp only

theorem State.weftDown_within {pp : Nat} (s : State) (l : Link) (w : LinkLoss) (hM : mm ||| 0xC003000000400000000000000038140000 = mm) (hW : Within mm pp s00 s) :
    Within mm pp s00 (State.weftDown s l w) := by
  unfold State.weftDown
  try dsimp only
  repeat' with_reducible
    first | assumption | apply bumpBy_within | apply linkLost_within | apply ite_within | split
          | exact sub hM (by decide) | dsimp only

theorem State.linkEnabled_within {pp : Nat} (s : State) (l : Link) (hM : mm ||| 0xC003000000400000000000000038140000 = mm) (hW : Within mm pp s00 s) :
    Within mm pp s00 (State.linkEnabled s l) := by
  unfold State.linkEnabled
  try dsimp only
  repeat' with_reducible
    first | assumption | apply wr_within | apply linkLost_within | apply ite_within | split
          | exact sub hM (by decide) | exact sub hM (by simp only [linkState_mask]; decide)
          | (simp only [linkState_arr]; done) | dsimp only

theorem execHello_within (pp : Nat) (l : Link) (id : BitVec 12) (valid : Bool) (s : State) :
    ∀ u, execHello l id valid s = .next u → Within 0x400000000000000018140000 pp s u := by
  intro u hu
  cases hu
  have hM : 0x400000000000000018140000 ||| 0x400000000000000018140000 = 0x400000000000000018140000 := rfl
  have hW := Within.refl 0x400000000000000018140000 pp s
  try dsimp only
  repeat' with_reducible
    first | assumption | apply event_sys | apply irq_within | apply wr_within | apply ite_within
          | split | exact sub hM (by decide) | exact sub hM (by simp only [linkPeer_mask]; decide) | decide
          | (simp only [linkPeer_arr]; done) | dsimp only

theorem State.sendsDone_within {pp : Nat} (s : State) (hM : mm ||| 0xC001000000400000000000000038140000 = mm) (hW : Within mm pp s00 s) :
    Within mm pp s00 (State.sendsDone s) := by
  unfold State.sendsDone
  try dsimp only
  repeat' with_reducible
    first | assumption | apply answer_within | apply weftRec_within | apply foldl_within | split
          | (intro _ _ _) | (intro _ _) | exact sub hM (by decide) | dsimp only

theorem execCredit_within (pp : Nat) (l : Link) (c : CellClass) (n : Byte) (s : State) :
    ∀ u, execCredit l c n s = .next u → Within 0xC001000000500000000000000038140000 pp s u := by
  intro u hu
  cases hu
  have hM : 0xC001000000500000000000000038140000 ||| 0xC001000000500000000000000038140000 = 0xC001000000500000000000000038140000 := rfl
  have hW := Within.refl 0xC001000000500000000000000038140000 pp s
  try dsimp only
  repeat' with_reducible
    first | assumption | apply wr_within | apply sendsDone_within | apply transmit_within
          | apply weftRec_within | apply take_all | apply foldl_within | apply ite_within | split
          | (intro _ _ _) | (intro _ _) | exact sub hM (by decide)
          | exact sub hM (by simp only [linkCredit_mask]; decide) | (simp only [linkCredit_arr]; done) | dsimp only

theorem State.forward_within {pp : Nat} (s : State) (arrival : Link) (c : CellClass) (x : Cell) (hM : mm ||| 0x1000000000000000000000038000000 = mm) (hW : Within mm pp s00 s) :
    Within mm pp s00 (State.forward s arrival c x) := by
  unfold State.forward
  try dsimp only
  repeat' with_reducible
    first | assumption | apply bump_within | apply dropCell_within | apply freeBuffer_within
          | apply sendCell_within | apply ite_within | split | (intro _ _ _) | (intro _ _)
          | exact sub hM (by decide) | dsimp only

theorem State.deliver_within {pp : Nat} (s : State) (l : Link) (c : CellClass) (x : Cell) (hM : mm ||| 0x1000000200000000000000000000080 = mm) (hW : Within mm pp s00 s) :
    Within mm pp s00 (State.deliver s l c x) := by
  unfold State.deliver
  try dsimp only
  repeat' with_reducible
    first | assumption | apply wakeBy_within | apply weftRec_within | split | (intro _ _ _) | (intro _ _)
          | exact sub hM (by decide) | dsimp only

theorem execCellReceived_within (pp : Nat) (l : Link) (c : CellClass) (x : Cell) (good : Bool) (s : State) :
    ∀ u, execCellReceived l c x good s = .next u → Within 0x1000000200000000000000038000080 pp s u := by
  intro u hu
  cases hu
  have hM : 0x1000000200000000000000038000080 ||| 0x1000000200000000000000038000080 = 0x1000000200000000000000038000080 := rfl
  have hW := Within.refl 0x1000000200000000000000038000080 pp s
  try dsimp only
  repeat' with_reducible
    first | assumption | apply bump_within | apply irq_within | apply deliver_within
          | apply forward_within | apply freeBuffer_within | apply ite_within | split
          | exact sub hM (by decide) | exact sub hM (by simp only [linkRx_mask]; decide)
          | (simp only [linkRx_arr]; done) | dsimp only

theorem State.toRing7_within {pp : Nat} (s : State) (kind src : Nat) (l : List Byte) (hM : mm ||| 0xC000000000400000000000000000140000 = mm) (hW : Within mm pp s00 s) :
    Within mm pp s00 (State.toRing7 s kind src l) := by
  unfold State.toRing7
  try dsimp only
  repeat' with_reducible
    first | assumption | apply fresh_within1 | (refine State.fresh_within ?_ ?_ ‹_›)
          | (refine State.pushPacket_within ?_ ?_ ‹_›) | apply pushRefused_within | split
          | exact sub hM (by decide) | dsimp only

theorem State.asmDone_within {pp : Nat} (s : State) (a : WeftAsm) (hM : mm ||| 0xC001000000600000000080000000160080 = mm) (hW : Within mm pp s00 s) :
    Within mm pp s00 (State.asmDone s a) := by
  unfold State.asmDone
  try dsimp only
  repeat' with_reducible
    first | assumption | apply doorbell_within | apply toRing7_within | apply weftRec_within
          | apply ite_within | split | (intro _ _ _) | (intro _ _) | exact sub hM (by decide) | dsimp only

theorem State.asmCell_within {pp : Nat} {s : State} {l : Link} {c : CellClass} {x : Cell} {ss : State} (hM : mm ||| 0xC001000000600000000080000028160080 = mm) (hW : Within mm pp s00 s)
    (he : State.asmCell s l c x = some ss) : Within mm pp s00 ss := by
  unfold State.asmCell at he
  try dsimp only at he
  repeat' split at he
  all_goals try simp only [Option.some.injEq, reduceCtorEq] at he
  all_goals try subst he
  repeat' with_reducible
    first | assumption | apply asmDone_within | apply dropCell_within | apply weftRec_within
          | apply ite_within | split | (intro _ _ _) | (intro _ _) | exact sub hM (by decide) | dsimp only

theorem State.stopCell_within {pp : Nat} (s : State) (c : CellClass) (x : Cell) (hM : mm ||| 0xC00120000451F4C0010000E008381C0000 = mm) (hW : Within mm pp s00 s) :
    Within mm pp s00 (State.stopCell s c x) := by
  unfold State.stopCell
  try dsimp only
  repeat' with_reducible
    first | assumption | apply answer_within | apply dropCell_within | apply stopPacket_within
          | apply ite_within | split | exact sub hM (by decide) | dsimp only

theorem State.handOn_within {pp : Nat} {s : State} {l : Link} {c : CellClass} {x : Cell} {ss : State} (hM : mm ||| 0xC00520000471F4C0010080E009381E0080 = mm) (hW : Within mm pp s00 s)
    (he : State.handOn s l c x = some ss) : Within mm pp s00 ss := by
  unfold State.handOn at he
  try dsimp only at he
  repeat' split at he
  all_goals try simp only [Option.some.injEq, reduceCtorEq] at he
  all_goals try subst he
  repeat' with_reducible
    first | assumption | (refine State.asmCell_within ?_ ?_ ‹_›) | apply dropCell_within
          | (refine State.snapAt_within ?_ ?_ ‹_›) | apply stopCell_within | apply ite_within
          | apply getD_within | split | (intro _ _ _) | (intro _ _) | exact sub hM (by decide) | dsimp only

theorem execCellDelivered_within (pp : Nat) (l : Link) (c : CellClass) (s : State) :
    ∀ u, execCellDelivered l c s = .next u → Within 0xC00520000471F4C0010080E009381E0080 pp s u := by
  intro u hu
  cases hu
  have hM : 0xC00520000471F4C0010080E009381E0080 ||| 0xC00520000471F4C0010080E009381E0080 = 0xC00520000471F4C0010080E009381E0080 := rfl
  have hW := Within.refl 0xC00520000471F4C0010080E009381E0080 pp s
  try dsimp only
  repeat' with_reducible
    first | assumption | apply freeBuffer_within | (refine State.handOn_within ?_ ?_ ‹_›)
          | apply weftRec_within | split | (intro _ _ _) | (intro _ _) | exact sub hM (by decide) | dsimp only

theorem execAssemblyTimeout_within (pp : Nat) (src : BitVec 12) (msgId : BitVec 16) (s : State) :
    ∀ u, execAssemblyTimeout src msgId s = .next u → Within 0x1000000000000000000000028000000 pp s u := by
  intro u hu
  cases hu
  have hM : 0x1000000000000000000000028000000 ||| 0x1000000000000000000000028000000 = 0x1000000000000000000000028000000 := rfl
  have hW := Within.refl 0x1000000000000000000000028000000 pp s
  try dsimp only
  repeat' with_reducible
    first | assumption | apply dropCell_within | apply weftRec_within | split | (intro _ _ _)
          | (intro _ _) | exact sub hM (by decide) | dsimp only

theorem State.fabric_within {pp : Nat} (s : State) (k : Packet) (f : State → State) (h_f : ∀ t, Within mm pp s00 t → Within mm pp s00 (f t)) (hM : mm ||| 0xC001000000400000000000000038140000 = mm) (hW : Within mm pp s00 s) :
    Within mm pp s00 (State.fabric s k f) := by
  unfold State.fabric
  try dsimp only
  repeat' with_reducible
    first | assumption | apply h_f | apply answer_within | apply offStandby_within | apply ite_within
          | split | (intro _ _ _) | (intro _ _) | exact sub hM (by decide) | dsimp only

theorem State.cmdWeftSend_within {pp : Nat} (s : State) (k : Packet) (hM : mm ||| 0xC001000000400000000000000038140000 = mm) (hW : Within mm pp s00 s) :
    Within mm pp s00 (State.cmdWeftSend s k) := by
  unfold State.cmdWeftSend
  try dsimp only
  repeat' with_reducible
    first | assumption | apply answer_within | apply fabric_within | apply formed_within
          | apply originate_within | apply sendsDone_within | apply weftRec_within
          | apply ite_within | split | (intro _ _ _) | (intro _ _) | exact sub hM (by decide) | dsimp only

theorem execWeftSend_within (pp : Nat) (k : Packet) (s : State) :
    ∀ u, execWeftSend k s = .next u → Within 0xC001000000400000000000000038140000 pp s u := by
  intro u hu
  cases hu
  have hM : 0xC001000000400000000000000038140000 ||| 0xC001000000400000000000000038140000 = 0xC001000000400000000000000038140000 := rfl
  have hW := Within.refl 0xC001000000400000000000000038140000 pp s
  try dsimp only
  repeat' with_reducible
    first | assumption | apply cmdWeftSend_within | apply serve_within | (intro _ _ _) | (intro _ _)
          | exact sub hM (by decide) | dsimp only

theorem State.writeRoute_within {pp : Nat} (s : State) (i w : Nat) (hM : mm ||| 0x10000000 = mm) (hW : Within mm pp s00 s) :
    Within mm pp s00 (State.writeRoute s i w) := by
  unfold State.writeRoute
  try dsimp only
  repeat' with_reducible
    first | assumption | apply wr_within | exact sub hM (by decide) | dsimp only

theorem State.cmdWeftRoute_within {pp : Nat} (s : State) (k : Packet) (hM : mm ||| 0xC001000000400000000000000038140000 = mm) (hW : Within mm pp s00 s) :
    Within mm pp s00 (State.cmdWeftRoute s k) := by
  unfold State.cmdWeftRoute
  try dsimp only
  repeat' with_reducible
    first | assumption | apply answer_within | apply fabric_within | apply formed_within
          | apply writeRoute_within | apply foldl_within | apply getD_within | split | (intro _ _ _)
          | (intro _ _) | exact sub hM (by decide) | dsimp only

theorem execWeftRoute_within (pp : Nat) (k : Packet) (s : State) :
    ∀ u, execWeftRoute k s = .next u → Within 0xC001000000400000000000000038140000 pp s u := by
  intro u hu
  cases hu
  have hM : 0xC001000000400000000000000038140000 ||| 0xC001000000400000000000000038140000 = 0xC001000000400000000000000038140000 := rfl
  have hW := Within.refl 0xC001000000400000000000000038140000 pp s
  try dsimp only
  repeat' with_reducible
    first | assumption | apply cmdWeftRoute_within | apply serve_within | (intro _ _ _) | (intro _ _)
          | exact sub hM (by decide) | dsimp only

theorem State.cmdWeftStatus_within {pp : Nat} (s : State) (k : Packet) (hM : mm ||| 0xC001000000400000000000000038140000 = mm) (hW : Within mm pp s00 s) :
    Within mm pp s00 (State.cmdWeftStatus s k) := by
  unfold State.cmdWeftStatus
  try dsimp only
  repeat' with_reducible
    first | assumption | apply fabric_within | apply formed_within | apply respond_within | split
          | (intro _ _ _) | (intro _ _) | exact sub hM (by decide) | dsimp only

theorem execWeftStatus_within (pp : Nat) (k : Packet) (s : State) :
    ∀ u, execWeftStatus k s = .next u → Within 0xC001000000400000000000000038140000 pp s u := by
  intro u hu
  cases hu
  have hM : 0xC001000000400000000000000038140000 ||| 0xC001000000400000000000000038140000 = 0xC001000000400000000000000038140000 := rfl
  have hW := Within.refl 0xC001000000400000000000000038140000 pp s
  try dsimp only
  repeat' with_reducible
    first | assumption | apply cmdWeftStatus_within | apply serve_within | (intro _ _ _) | (intro _ _)
          | exact sub hM (by decide) | dsimp only

theorem State.timeState_within {pp : Nat} (s : State) (st : Nat) (hM : mm ||| 0x4000000000000000C0140000 = mm) (hW : Within mm pp s00 s) :
    Within mm pp s00 (State.timeState s st) := by
  unfold State.timeState
  try dsimp only
  repeat' with_reducible
    first | assumption | apply event_sys | apply irq_within | apply wr_within | apply ite_within
          | split | exact sub hM (by decide) | decide | dsimp only

theorem State.slew_within {pp : Nat} (s : State) (hM : mm ||| 0x4000000000000000000000000080000000 = mm) (hW : Within mm pp s00 s) :
    Within mm pp s00 (State.slew s) := by
  unfold State.slew
  try dsimp only
  repeat' with_reducible
    first | assumption | apply wrI_within | apply fresh_within1 | (refine State.fresh_within ?_ ?_ ‹_›)
          | split | exact sub hM (by decide) | dsimp only

theorem State.discipline_within {pp : Nat} (s : State) (o : Int) (hM : mm ||| 0x44060000004000000000000001C0140000 = mm) (hW : Within mm pp s00 s) :
    Within mm pp s00 (State.discipline s o) := by
  unfold State.discipline
  try dsimp only
  repeat' with_reducible
    first | assumption | apply event_sys | apply wrI_within | apply slew_within
          | apply stepTime_within | apply timeState_within | apply ite_within | split | apply within_mk
          | exact Or.inr rfl | exact Or.inl (bitOf hM (by decide)) | exact sub hM (by decide) | decide | dsimp only

theorem State.followSync_within {pp : Nat} (s : State) (l : Link) (y : SyncSet) (hM : mm ||| 0x44060000004000000000000001C0140000 = mm) (hW : Within mm pp s00 s) :
    Within mm pp s00 (State.followSync s l y) := by
  unfold State.followSync
  try dsimp only
  repeat' with_reducible
    first | assumption | apply bump_within | apply flag_within | apply wr_within
          | apply discipline_within | apply ite_within | split | apply within_mk | exact Or.inr rfl
          | exact Or.inl (bitOf hM (by decide)) | exact sub hM (by decide) | dsimp only

theorem execSync_within (pp : Nat) (l : Link) (y : SyncSet) (s : State) :
    ∀ u, execSync l y s = .next u → Within 0x44060000004000000000000001C0140000 pp s u := by
  intro u hu
  cases hu
  have hM : 0x44060000004000000000000001C0140000 ||| 0x44060000004000000000000001C0140000 = 0x44060000004000000000000001C0140000 := rfl
  have hW := Within.refl 0x44060000004000000000000001C0140000 pp s
  try dsimp only
  repeat' with_reducible
    first | assumption | apply flag_within | apply irq_within | apply followSync_within
          | apply ite_within | split | apply within_mk | exact Or.inr rfl | exact Or.inl (bitOf hM (by decide))
          | exact sub hM (by decide) | dsimp only

theorem execSyncSend_within (pp : Nat) (s : State) :
    ∀ u, execSyncSend s = .next u → Within 0x2000000000000000000000000000000 pp s u := by
  intro u hu
  cases hu
  have hM : 0x2000000000000000000000000000000 ||| 0x2000000000000000000000000000000 = 0x2000000000000000000000000000000 := rfl
  have hW := Within.refl 0x2000000000000000000000000000000 pp s
  try dsimp only
  repeat' with_reducible
    first | assumption | apply foldl_within | apply ite_within | split | (intro _ _ _) | (intro _ _) | apply within_mk
          | exact Or.inr rfl | exact Or.inl (bitOf hM (by decide)) | exact sub hM (by decide) | dsimp only

theorem execDelayReq_within (pp : Nat) (l : Link) (d : BitVec 16) (s : State) :
    ∀ u, execDelayReq l d s = .next u → Within 0x2000000100000000000000010000000 pp s u := by
  intro u hu
  cases hu
  have hM : 0x2000000100000000000000010000000 ||| 0x2000000100000000000000010000000 = 0x2000000100000000000000010000000 := rfl
  have hW := Within.refl 0x2000000100000000000000010000000 pp s
  try dsimp only
  repeat' with_reducible
    first | assumption | apply wr_within | apply take_all | apply ite_within | split | apply within_mk
          | exact Or.inr rfl | exact Or.inl (bitOf hM (by decide)) | exact sub hM (by decide)
          | exact sub hM (by simp only [linkDly_mask]; decide) | (simp only [linkDly_arr]; done) | dsimp only

theorem execHoldover_within (pp : Nat) (s : State) :
    ∀ u, execHoldover s = .next u → Within 0x20000004000000000000001C0140000 pp s u := by
  intro u hu
  cases hu
  have hM : 0x20000004000000000000001C0140000 ||| 0x20000004000000000000001C0140000 = 0x20000004000000000000001C0140000 := rfl
  have hW := Within.refl 0x20000004000000000000001C0140000 pp s
  try dsimp only
  repeat' with_reducible
    first | assumption | apply bumpBy_within | apply timeState_within | apply ite_within | split
          | apply within_mk | exact Or.inr rfl | exact Or.inl (bitOf hM (by decide)) | exact sub hM (by decide)
          | dsimp only

theorem State.timeRole_within {pp : Nat} (s : State) (hM : mm ||| 0x20000004000000000000000C0140000 = mm) (hW : Within mm pp s00 s) :
    Within mm pp s00 (State.timeRole s) := by
  unfold State.timeRole
  try dsimp only
  repeat' with_reducible
    first | assumption | apply timeState_within | apply ite_within | split | apply within_mk | exact Or.inr rfl
          | exact Or.inl (bitOf hM (by decide)) | exact sub hM (by decide) | dsimp only

/-! ## Machine/Otp.lean -/

theorem State.otpRec_within {pp : Nat} (s : State) (f : OtpSt → OtpSt) (hM : mm ||| 0x800000000000000000000000000 = mm) (hW : Within mm pp s00 s) :
    Within mm pp s00 (State.otpRec s f) := by
  unfold State.otpRec
  try dsimp only
  repeat' with_reducible
    first | assumption | apply within_mk | exact Or.inr rfl | exact Or.inl (bitOf hM (by decide))
          | exact sub hM (by decide) | dsimp only

theorem State.otpEvent_within {pp : Nat} (s : State) (k : EvKind) (d4 d5 d6 : Nat) (hM : mm ||| 0x500000000000000000140000 = mm) (hW : Within mm pp s00 s) :
    Within mm pp s00 (State.otpEvent s k d4 d5 d6) := by
  unfold State.otpEvent
  try dsimp only
  repeat' with_reducible
    first | assumption | apply event_all | exact sub hM (by decide) | dsimp only

theorem State.setOtpLock_within {pp : Nat} (s : State) (b : Nat) (hM : mm ||| 0x800000000000000000000000000 = mm) (hW : Within mm pp s00 s) :
    Within mm pp s00 (State.setOtpLock s b) := by
  unfold State.setOtpLock
  try dsimp only
  repeat' with_reducible
    first | assumption | apply otpRec_within | split | (intro _ _ _) | (intro _ _) | exact sub hM (by decide)
          | dsimp only

theorem State.showCounters_within {pp : Nat} (s : State) (hM : mm ||| 0x2400 = mm) (hW : Within mm pp s00 s) :
    Within mm pp s00 (State.showCounters s) := by
  unfold State.showCounters
  try dsimp only
  repeat' with_reducible
    first | assumption | apply flag_within | apply wr_within | exact sub hM (by decide) | dsimp only

theorem State.raiseCounter_within {pp : Nat} (s : State) (i v : Nat) (hM : mm ||| 0x800000000000000000000002400 = mm) (hW : Within mm pp s00 s) :
    Within mm pp s00 (State.raiseCounter s i v) := by
  unfold State.raiseCounter
  try dsimp only
  repeat' with_reducible
    first | assumption | apply otpRec_within | apply showCounters_within | apply getD_within | split
          | (intro _ _ _) | (intro _ _) | exact sub hM (by decide) | dsimp only

theorem State.fixCounter_within {pp : Nat} (s : State) (i : Nat) (hM : mm ||| 0x800000000000000000000000800 = mm) (hW : Within mm pp s00 s) :
    Within mm pp s00 (State.fixCounter s i) := by
  unfold State.fixCounter
  try dsimp only
  repeat' with_reducible
    first | assumption | apply bumpBy_within | apply otpRec_within | apply getD_within | split
          | (intro _ _ _) | (intro _ _) | exact sub hM (by decide) | dsimp only

theorem regField_mask (code : Nat) (o : Bool) : fieldMask o (regField code) = if o then 0x400 else 0x400 := by
  unfold regField
  repeat' split
  all_goals (cases o <;> rfl)

theorem regField_arr (code : Nat) : fieldArr (regField code) = false := by
  unfold regField
  repeat' split
  all_goals rfl

theorem State.completeLock_within {pp : Nat} (s : State) (code : Nat) (hM : mm ||| 0x800500000000000000000140000 = mm) (hW : Within mm pp s00 s) :
    Within mm pp s00 (State.completeLock s code) := by
  unfold State.completeLock
  try dsimp only
  repeat' with_reducible
    first | assumption | apply otpEvent_within | apply setOtpLock_within | apply ite_within | split
          | (intro _ _ _) | (intro _ _) | exact sub hM (by decide) | dsimp only

theorem State.completeBit_within {pp : Nat} (s : State) (b target : Nat) (hM : mm ||| 0x800500000000000000000140000 = mm) (hW : Within mm pp s00 s) :
    Within mm pp s00 (State.completeBit s b target) := by
  unfold State.completeBit
  try dsimp only
  repeat' with_reducible
    first | assumption | apply otpEvent_within | apply setOtpLock_within | apply ite_within | split
          | (intro _ _ _) | (intro _ _) | exact sub hM (by decide) | dsimp only

theorem State.checkRegion_within {pp : Nat} (s : State) (code : Nat) (hM : mm ||| 0x500000000000000000140E00 = mm) (hW : Within mm pp s00 s) :
    Within mm pp s00 (State.checkRegion s code) := by
  unfold State.checkRegion
  try dsimp only
  repeat' with_reducible
    first | assumption | apply bump_within | apply irq_within | apply wr_within
          | apply otpEvent_within | apply ite_within | split | exact sub hM (by decide)
          | exact sub hM (by simp only [regField_mask]; decide) | (simp only [regField_arr]; done) | dsimp only

theorem State.countCorrected_within {pp : Nat} (s : State) (hM : mm ||| 0xC00 = mm) (hW : Within mm pp s00 s) :
    Within mm pp s00 (State.countCorrected s) := by
  unfold State.countCorrected
  try dsimp only
  repeat' with_reducible
    first | assumption | apply bump_within | apply wr_within | apply foldl_within | apply ite_within
          | split | (intro _ _ _) | (intro _ _) | exact sub hM (by decide) | dsimp only

theorem State.scanWeak_within {pp : Nat} (s : State) (hM : mm ||| 0x500000000000000000140600 = mm) (hW : Within mm pp s00 s) :
    Within mm pp s00 (State.scanWeak s) := by
  unfold State.scanWeak
  try dsimp only
  repeat' with_reducible
    first | assumption | apply irq_within | apply wr_within | apply otpEvent_within
          | apply foldl_within | apply ite_within | split | (intro _ _ _) | (intro _ _) | exact sub hM (by decide)
          | dsimp only

theorem State.otpStart_within {pp : Nat} (s : State) (hM : mm ||| 0x800500080000000000000142E02 = mm) (hW : Within mm pp s00 s) :
    Within mm pp s00 (State.otpStart s) := by
  unfold State.otpStart
  try dsimp only
  repeat' with_reducible
    first | assumption | apply flag_within | apply irq_within | apply wr_within
          | apply checkRegion_within | apply completeBit_within | apply completeLock_within
          | apply countCorrected_within | apply fixCounter_within | apply forPorts_within
          | apply otpEvent_within | apply otpRec_within | apply scanWeak_within
          | apply showCounters_within | apply foldl_within | apply ite_within | split | (intro _ _ _)
          | (intro _ _) | exact sub hM (by decide) | dsimp only

theorem State.serveRom_within {pp : Nat} (s : State) (k : Packet) (f : State → State) (h_f : ∀ t, Within mm pp s00 t → Within mm pp s00 (f t)) (hM : mm ||| 0xC001000000400000000000000038140000 = mm) (hW : Within mm pp s00 s) :
    Within mm pp s00 (State.serveRom s k f) := by
  unfold State.serveRom
  try dsimp only
  repeat' with_reducible
    first | assumption | apply h_f | apply serve_within | apply ite_within | split | (intro _ _ _) | (intro _ _)
          | exact sub hM (by decide) | dsimp only

theorem State.cmdOtpRead_within {pp : Nat} (s : State) (k : Packet) (hM : mm ||| 0xC001000000400000000000000038140C00 = mm) (hW : Within mm pp s00 s) :
    Within mm pp s00 (State.cmdOtpRead s k) := by
  unfold State.cmdOtpRead
  try dsimp only
  repeat' with_reducible
    first | assumption | apply bump_within | apply wr_within | apply answer_within
          | apply formed_within | apply offStandby_within | apply respond_within
          | apply foldl_within | apply ite_within | split | (intro _ _ _) | (intro _ _) | exact sub hM (by decide)
          | dsimp only

theorem execOtpRead_within (pp : Nat) (k : Packet) (s : State) :
    ∀ u, execOtpRead k s = .next u → Within 0xC001000000400000000000000038140C00 pp s u := by
  intro u hu
  cases hu
  have hM : 0xC001000000400000000000000038140C00 ||| 0xC001000000400000000000000038140C00 = 0xC001000000400000000000000038140C00 := rfl
  have hW := Within.refl 0xC001000000400000000000000038140C00 pp s
  try dsimp only
  repeat' with_reducible
    first | assumption | apply cmdOtpRead_within | apply serveRom_within | (intro _ _ _) | (intro _ _)
          | exact sub hM (by decide) | dsimp only

theorem State.cmdOtpMarginScan_within {pp : Nat} (s : State) (k : Packet) (hM : mm ||| 0xC001000000500000000000000038140E00 = mm) (hW : Within mm pp s00 s) :
    Within mm pp s00 (State.cmdOtpMarginScan s k) := by
  unfold State.cmdOtpMarginScan
  try dsimp only
  repeat' with_reducible
    first | assumption | apply bump_within | apply formed_within | apply offStandby_within
          | apply respond_within | apply scanWeak_within | split | (intro _ _ _) | (intro _ _)
          | exact sub hM (by decide) | dsimp only

theorem execOtpMarginScan_within (pp : Nat) (k : Packet) (s : State) :
    ∀ u, execOtpMarginScan k s = .next u → Within 0xC001000000500000000000000038140E00 pp s u := by
  intro u hu
  cases hu
  have hM : 0xC001000000500000000000000038140E00 ||| 0xC001000000500000000000000038140E00 = 0xC001000000500000000000000038140E00 := rfl
  have hW := Within.refl 0xC001000000500000000000000038140E00 pp s
  try dsimp only
  repeat' with_reducible
    first | assumption | apply cmdOtpMarginScan_within | apply serveRom_within | (intro _ _ _)
          | (intro _ _) | exact sub hM (by decide) | dsimp only

theorem State.progStat_within {pp : Nat} (s : State) (word status : Nat) (hM : mm ||| 0x400 = mm) (hW : Within mm pp s00 s) :
    Within mm pp s00 (State.progStat s word status) := by
  unfold State.progStat
  try dsimp only
  repeat' with_reducible
    first | assumption | apply wr_within | exact sub hM (by decide) | dsimp only

theorem State.progRefused_within {pp : Nat} (s : State) (k : Packet) (word status : Nat) (hM : mm ||| 0xC001000000400000000000000038140E00 = mm) (hW : Within mm pp s00 s) :
    Within mm pp s00 (State.progRefused s k word status) := by
  unfold State.progRefused
  try dsimp only
  repeat' with_reducible
    first | assumption | apply bump_within | apply irq_within | apply answer_within
          | apply progStat_within | exact sub hM (by decide) | dsimp only

theorem State.progDone_within {pp : Nat} (s : State) (k : Packet) (word status : Nat) (hM : mm ||| 0xC001000000500000000000000038140E00 = mm) (hW : Within mm pp s00 s) :
    Within mm pp s00 (State.progDone s k word status) := by
  unfold State.progDone
  try dsimp only
  repeat' with_reducible
    first | assumption | apply bump_within | apply irq_within | apply answer_within
          | apply otpEvent_within | apply progStat_within | apply ite_within | split
          | exact sub hM (by decide) | dsimp only

theorem State.setOtpWord_within {pp : Nat} (s : State) (w : Nat) (v : BitVec 32) (weak : Bool) (hM : mm ||| 0x800000000000000000000000400 = mm) (hW : Within mm pp s00 s) :
    Within mm pp s00 (State.setOtpWord s w v weak) := by
  unfold State.setOtpWord
  try dsimp only
  repeat' with_reducible
    first | assumption | apply wrBit_within | apply otpRec_within | split | (intro _ _ _) | (intro _ _)
          | exact sub hM (by decide) | dsimp only

theorem State.otpFits_within1 {pp : Nat} (s : State) (w : Nat) (v : BitVec 32) (hM : mm ||| 0x4000000000000000000000000000000000 = mm) (hW : Within mm pp s00 s) :
    Within mm pp s00 (State.otpFits s w v).2 := by
  unfold State.otpFits
  try dsimp only
  repeat' with_reducible
    first | assumption | apply fresh_within1 | (refine State.fresh_within ?_ ?_ ‹_›) | apply ite_within | split
          | exact sub hM (by decide) | dsimp only
theorem State.otpFits_within {pp : Nat} {s : State} {w : Nat} {v : BitVec 32} {ss xx} (hM : mm ||| 0x4000000000000000000000000000000000 = mm) (hW : Within mm pp s00 s)
    (he : State.otpFits s w v = (xx, ss)) : Within mm pp s00 ss := by
  have := State.otpFits_within1 s w v hM hW; rw [he] at this; exact this

theorem State.programWord_within {pp : Nat} (s : State) (k : Packet) (e : OtpEnv) (hM : mm ||| 0xC001000800500000000000000038140E00 = mm) (hW : Within mm pp s00 s) :
    Within mm pp s00 (State.programWord s k e) := by
  unfold State.programWord
  try dsimp only
  repeat' with_reducible
    first | assumption | apply otpFits_within1 | (refine State.otpFits_within ?_ ?_ ‹_›)
          | apply progDone_within | apply progRefused_within | apply setOtpWord_within
          | apply ite_within | split | exact sub hM (by decide) | dsimp only

theorem State.weakCounter_within {pp : Nat} (s : State) (l : List Nat) (weak : Bool) (hM : mm ||| 0x800000000000000000000000400 = mm) (hW : Within mm pp s00 s) :
    Within mm pp s00 (State.weakCounter s l weak) := by
  unfold State.weakCounter
  try dsimp only
  repeat' with_reducible
    first | assumption | apply wrBit_within | apply otpRec_within | apply foldl_within | apply ite_within
          | split | (intro _ _ _) | (intro _ _) | exact sub hM (by decide) | dsimp only

theorem State.programCounter_within {pp : Nat} (s : State) (k : Packet) (e : OtpEnv) (hM : mm ||| 0xC001000800500000000000000038142E00 = mm) (hW : Within mm pp s00 s) :
    Within mm pp s00 (State.programCounter s k e) := by
  unfold State.programCounter
  try dsimp only
  repeat' with_reducible
    first | assumption | apply answer_within | apply progDone_within | apply progRefused_within
          | apply progStat_within | apply raiseCounter_within | apply weakCounter_within
          | apply ite_within | split | exact sub hM (by decide) | dsimp only

theorem State.cmdOtpProgram_within {pp : Nat} (s : State) (k : Packet) (e : OtpEnv) (hM : mm ||| 0xC001000800500000000000000038142E00 = mm) (hW : Within mm pp s00 s) :
    Within mm pp s00 (State.cmdOtpProgram s k e) := by
  unfold State.cmdOtpProgram
  try dsimp only
  repeat' with_reducible
    first | assumption | apply progRefused_within | apply programCounter_within
          | apply programWord_within | apply ite_within | split | exact sub hM (by decide) | dsimp only

theorem execOtpProgram_within (pp : Nat) (k : Packet) (e : OtpEnv) (s : State) :
    ∀ u, execOtpProgram k e s = .next u → Within 0xC001000800500000000000000038142E00 pp s u := by
  intro u hu
  cases hu
  have hM : 0xC001000800500000000000000038142E00 ||| 0xC001000800500000000000000038142E00 = 0xC001000800500000000000000038142E00 := rfl
  have hW := Within.refl 0xC001000800500000000000000038142E00 pp s
  try dsimp only
  repeat' with_reducible
    first | assumption | apply cmdOtpProgram_within | apply serve_within | (intro _ _ _) | (intro _ _)
          | exact sub hM (by decide) | dsimp only

theorem State.lockDone_within {pp : Nat} (s : State) (k : Packet) (hM : mm ||| 0xC001000000500000000000000038140A00 = mm) (hW : Within mm pp s00 s) :
    Within mm pp s00 (State.lockDone s k) := by
  unfold State.lockDone
  try dsimp only
  repeat' with_reducible
    first | assumption | apply bump_within | apply irq_within | apply answer_within
          | apply otpEvent_within | exact sub hM (by decide) | dsimp only

theorem State.cmdOtpLock_within {pp : Nat} (s : State) (k : Packet) (hM : mm ||| 0xC001000800500000000000000038140E00 = mm) (hW : Within mm pp s00 s) :
    Within mm pp s00 (State.cmdOtpLock s k) := by
  unfold State.cmdOtpLock
  try dsimp only
  repeat' with_reducible
    first | assumption | apply formed_within | apply lockDone_within | apply offStandby_within
          | apply progRefused_within | apply setOtpLock_within | apply setOtpWord_within
          | apply ite_within | split | (intro _ _ _) | (intro _ _) | exact sub hM (by decide) | dsimp only

theorem execOtpLock_within (pp : Nat) (k : Packet) (s : State) :
    ∀ u, execOtpLock k s = .next u → Within 0xC001000800500000000000000038140E00 pp s u := by
  intro u hu
  cases hu
  have hM : 0xC001000800500000000000000038140E00 ||| 0xC001000800500000000000000038140E00 = 0xC001000800500000000000000038140E00 := rfl
  have hW := Within.refl 0xC001000800500000000000000038140E00 pp s
  try dsimp only
  repeat' with_reducible
    first | assumption | apply cmdOtpLock_within | apply serve_within | (intro _ _ _) | (intro _ _)
          | exact sub hM (by decide) | dsimp only

end Sys2Proof.Machine
end

