-- ==== Sys2Proof/Laws/FootPair.lean ====
section
/-! SUPPORT. What the block's operations may change (Safety.lean says what `Within` is), one lemma for each: the PHY and the pair's logic.
`f_within` is for the command's own port, `f_all` for any port; each is proved from the lemmas of what its definition calls. -/

set_option linter.all false
set_option maxRecDepth 4000

namespace Sys2Proof.Machine
open State

variable {mm : Nat} {s00 : State}

/-! ## Machine/Phy.lean -/

theorem State.acked_within (s : State) (p : Port) (f : Frame) (hM : mm ||| 0x300000580013E80000407000140000 = mm) (hW : Within mm p s00 s) :
    Within mm p s00 (State.acked s p f) := by
  unfold State.acked
  try dsimp only
  repeat' with_reducible
    first | assumption | apply acceptAcked_within | apply amsEnd_within | apply drSwapDone_within
          | apply islandJoin_within | apply newSourceDone_within | apply pe_within
          | apply pr_within | apply psRdyAcked_within | apply sendCaps_within
          | apply setInflight_within | apply swp_within | apply vconnSwapAccepted_within
          | apply vconnSwapDone_within | apply ite_within | split | (intro _ _ _) | (intro _ _)
          | exact sub hM (by decide) | dsimp only

theorem State.acked_all {pp : Nat} (s : State) (p : Port) (f : Frame) (hM : mm ||| 0x300000513E80000000407000140000 = mm) (hW : Within mm pp s00 s) :
    Within mm pp s00 (State.acked s p f) := by
  unfold State.acked
  try dsimp only
  repeat' with_reducible
    first | assumption | apply pr_within | apply acceptAcked_all | apply amsEnd_all
          | apply drSwapDone_all | apply islandJoin_all | apply newSourceDone_all
          | apply pe_all | apply psRdyAcked_all | apply sendCaps_all | apply setInflight_all
          | apply swp_all | apply vconnSwapAccepted_all | apply vconnSwapDone_all | apply ite_within
          | split | (intro _ _ _) | (intro _ _) | exact sub hM (by decide) | dsimp only

theorem State.ownDiscarded_within (s : State) (p : Port) (f : Frame) (hM : mm ||| 0x200000480000000000000000140000 = mm) (hW : Within mm p s00 s) :
    Within mm p s00 (State.ownDiscarded s p f) := by
  unfold State.ownDiscarded
  try dsimp only
  repeat' with_reducible
    first | assumption | apply pe_within | apply swapDeferred_within | apply ite_within | split
          | (intro _ _ _) | (intro _ _) | exact sub hM (by decide) | dsimp only

theorem State.ownDiscarded_all {pp : Nat} (s : State) (p : Port) (f : Frame) (hM : mm ||| 0x200000500000000000000000140000 = mm) (hW : Within mm pp s00 s) :
    Within mm pp s00 (State.ownDiscarded s p f) := by
  unfold State.ownDiscarded
  try dsimp only
  repeat' with_reducible
    first | assumption | apply pe_all | apply swapDeferred_all | apply ite_within | split | (intro _ _ _)
          | (intro _ _) | exact sub hM (by decide) | dsimp only

theorem State.endTx_within (s : State) (p : Port) (result : Nat) (hM : mm ||| 0x80000400000000000000000 = mm) (hW : Within mm p s00 s) :
    Within mm p s00 (State.endTx s p result) := by
  unfold State.endTx
  try dsimp only
  repeat' with_reducible
    first | assumption | apply wr_own | apply phy_within | split | (intro _ _ _) | (intro _ _)
          | exact sub hM (by decide) | decide | dsimp only

theorem State.endTx_all {pp : Nat} (s : State) (p : Port) (result : Nat) (hM : mm ||| 0x100400000000000000000000 = mm) (hW : Within mm pp s00 s) :
    Within mm pp s00 (State.endTx s p result) := by
  unfold State.endTx
  try dsimp only
  repeat' with_reducible
    first | assumption | apply wr_within | apply phy_all | split | (intro _ _ _) | (intro _ _)
          | exact sub hM (by decide) | dsimp only

theorem State.discardOwn_within (s : State) (p : Port) (hM : mm ||| 0x200000480000C00000000000140000 = mm) (hW : Within mm p s00 s) :
    Within mm p s00 (State.discardOwn s p) := by
  unfold State.discardOwn
  try dsimp only
  repeat' with_reducible
    first | assumption | apply bump_own | apply endTx_within | apply ownDiscarded_within
          | apply ite_within | split | exact sub hM (by decide) | decide | dsimp only

theorem State.discardOwn_all {pp : Nat} (s : State) (p : Port) (hM : mm ||| 0x200000500C00000000000000140000 = mm) (hW : Within mm pp s00 s) :
    Within mm pp s00 (State.discardOwn s p) := by
  unfold State.discardOwn
  try dsimp only
  repeat' with_reducible
    first | assumption | apply bump_within | apply endTx_all | apply ownDiscarded_all
          | apply ite_within | split | exact sub hM (by decide) | dsimp only

theorem State.negotiateRev_within (s : State) (p : Port) (k : Sop) (rev : Nat) (hM : mm ||| 0x200000080000400000000000000000 = mm) (hW : Within mm p s00 s) :
    Within mm p s00 (State.negotiateRev s p k rev) := by
  unfold State.negotiateRev
  try dsimp only
  repeat' with_reducible
    first | assumption | apply wr_own | apply phy_within | apply sendCache_within | apply ite_within
          | split | (intro _ _ _) | (intro _ _) | exact sub hM (by decide) | decide | dsimp only

theorem State.negotiateRev_all {pp : Nat} (s : State) (p : Port) (k : Sop) (rev : Nat) (hM : mm ||| 0x200000100400000000000000000000 = mm) (hW : Within mm pp s00 s) :
    Within mm pp s00 (State.negotiateRev s p k rev) := by
  unfold State.negotiateRev
  try dsimp only
  repeat' with_reducible
    first | assumption | apply wr_within | apply phy_all | apply sendCache_all | apply ite_within
          | split | (intro _ _ _) | (intro _ _) | exact sub hM (by decide) | dsimp only

theorem execFrameReceived_within (p : Port) (f : Frame) (check : FrameCheck) (len : Nat) (rev : BitVec 2) (byOwner : Bool) (s : State) :
    ∀ u, execFrameReceived p f check len rev byOwner s = .next u → Within 0xC00120000058001BFC0000400038140000 p s u := by
  intro u hu
  cases hu
  have hM : 0xC00120000058001BFC0000400038140000 ||| 0xC00120000058001BFC0000400038140000 = 0xC00120000058001BFC0000400038140000 := rfl
  have hW := Within.refl 0xC00120000058001BFC0000400038140000 p s
  try dsimp only
  repeat' with_reducible
    first | assumption | apply bump_own | apply flag_own | apply irq_own | apply wr_own
          | apply clearIds_within | apply discardOwn_within | apply drain_within
          | apply negotiateRev_within | apply phy_within | apply ite_within | split | (intro _ _ _)
          | (intro _ _) | exact sub hM (by decide) | exact sub hM (by simp only [rxId_mask, rxVld_mask]; decide)
          | decide | (simp only [rxId_arr, rxVld_arr]; done) | dsimp only

theorem execFrameTransmit_within (p : Port) (f : Frame) (ams : Bool) (s : State) :
    ∀ u, execFrameTransmit p f ams s = .next u → Within 0x180000E80000000000000000 p s u := by
  intro u hu
  cases hu
  have hM : 0x180000E80000000000000000 ||| 0x180000E80000000000000000 = 0x180000E80000000000000000 := rfl
  have hW := Within.refl 0x180000E80000000000000000 p s
  try dsimp only
  repeat' with_reducible
    first | assumption | apply sendFrame_within | apply ite_within | split | exact sub hM (by decide)
          | dsimp only

theorem State.shadowDelivered_within (s : State) (p : Port) (k : Sop) (id : BitVec 3) (hM : mm ||| 0x80000400000000000000000 = mm) (hW : Within mm p s00 s) :
    Within mm p s00 (State.shadowDelivered s p k id) := by
  unfold State.shadowDelivered
  try dsimp only
  repeat' with_reducible
    first | assumption | apply flag_own | apply modPort_own | apply wr_own
          | apply clearIds_within | apply phy_within | apply ite_within | split | (intro _ _ _)
          | (intro _ _) | exact sub hM (by decide)
          | exact sub hM (by simp only [txId_mask, rxId_mask, rxVld_mask]; decide) | decide
          | (simp only [txId_arr, rxId_arr, rxVld_arr]; done) | dsimp only

theorem State.shadowDelivered_all {pp : Nat} (s : State) (p : Port) (k : Sop) (id : BitVec 3) (hM : mm ||| 0x100400000000000000000000 = mm) (hW : Within mm pp s00 s) :
    Within mm pp s00 (State.shadowDelivered s p k id) := by
  unfold State.shadowDelivered
  try dsimp only
  repeat' with_reducible
    first | assumption | apply flag_within | apply modPort_within | apply wr_within
          | apply clearIds_all | apply phy_all | apply ite_within | split | (intro _ _ _) | (intro _ _)
          | exact sub hM (by decide) | exact sub hM (by simp only [txId_mask, rxId_mask, rxVld_mask]; decide)
          | (simp only [txId_arr, rxId_arr, rxVld_arr]; done) | dsimp only

theorem execGoodcrcReceived_within (p : Port) (k : Sop) (id : BitVec 3) (s : State) :
    ∀ u, execGoodcrcReceived p k id s = .next u → Within 0x300000580013E80000407000140000 p s u := by
  intro u hu
  cases hu
  have hM : 0x300000580013E80000407000140000 ||| 0x300000580013E80000407000140000 = 0x300000580013E80000407000140000 := rfl
  have hW := Within.refl 0x300000580013E80000407000140000 p s
  try dsimp only
  repeat' with_reducible
    first | assumption | apply bump_own | apply irq_own | apply wr_own | apply acked_within
          | apply amsSettle_within | apply endTx_within | apply phy_within | apply pump_within
          | apply shadowDelivered_within | apply ite_within | split | (intro _ _ _) | (intro _ _)
          | exact sub hM (by decide) | exact sub hM (by simp only [txId_mask]; decide) | decide
          | (simp only [txId_arr]; done) | dsimp only

theorem execTReceiveExpiry_within (p : Port) (s : State) :
    ∀ u, execTReceiveExpiry p s = .next u → Within 0xC00120000058001BFC0000400038140000 p s u := by
  intro u hu
  cases hu
  have hM : 0xC00120000058001BFC0000400038140000 ||| 0xC00120000058001BFC0000400038140000 = 0xC00120000058001BFC0000400038140000 := rfl
  have hW := Within.refl 0xC00120000058001BFC0000400038140000 p s
  try dsimp only
  repeat' with_reducible
    first | assumption | apply bump_own | apply irq_own | apply wr_own
          | apply amsSettle_within | apply endTx_within | apply phy_within | apply pump_within
          | apply txFailed_within | apply ite_within | split | (intro _ _ _) | (intro _ _)
          | exact sub hM (by decide) | decide | dsimp only

theorem execTSinktxExpiry_within (p : Port) (s : State) :
    ∀ u, execTSinktxExpiry p s = .next u → Within 0x80000000000000000000000 p s u := by
  intro u hu
  cases hu
  have hM : 0x80000000000000000000000 ||| 0x80000000000000000000000 = 0x80000000000000000000000 := rfl
  have hW := Within.refl 0x80000000000000000000000 p s
  try dsimp only
  repeat' with_reducible
    first | assumption | apply phy_within | apply stamp_within | apply ite_within | split | (intro _ _ _)
          | (intro _ _) | exact sub hM (by decide) | dsimp only

theorem execSinktxokRead_within (p : Port) (s : State) :
    ∀ u, execSinktxokRead p s = .next u → Within 0x80000400000000000000000 p s u := by
  intro u hu
  cases hu
  have hM : 0x80000400000000000000000 ||| 0x80000400000000000000000 = 0x80000400000000000000000 := rfl
  have hW := Within.refl 0x80000400000000000000000 p s
  try dsimp only
  repeat' with_reducible
    first | assumption | apply flag_own | apply wr_own | apply stamp_within | apply ite_within
          | split | exact sub hM (by decide) | decide | dsimp only

theorem execHardResetReceived_within (p : Port) (vbusMv : Nat) (s : State) :
    ∀ u, execHardResetReceived p vbusMv s = .next u → Within 0xC00120000058001BEC0000000038140000 p s u := by
  intro u hu
  cases hu
  have hM : 0xC00120000058001BEC0000000038140000 ||| 0xC00120000058001BEC0000000038140000 = 0xC00120000058001BEC0000000038140000 := rfl
  have hW := Within.refl 0xC00120000058001BEC0000000038140000 p s
  try dsimp only
  repeat' with_reducible
    first | assumption | apply bump_own | apply wr_own | apply hardResetTakes_within
          | apply ite_within | split | exact sub hM (by decide) | decide | dsimp only

theorem execHardResetSent_within (p : Port) (vbusMv : Nat) (s : State) :
    ∀ u, execHardResetSent p vbusMv s = .next u → Within 0xC00120000058001BEC0000000038140000 p s u := by
  intro u hu
  cases hu
  have hM : 0xC00120000058001BEC0000000038140000 ||| 0xC00120000058001BEC0000000038140000 = 0xC00120000058001BEC0000000038140000 := rfl
  have hW := Within.refl 0xC00120000058001BEC0000000038140000 p s
  try dsimp only
  repeat' with_reducible
    first | assumption | apply bump_own | apply wr_own | apply hardResetTakes_within
          | apply ite_within | split | exact sub hM (by decide) | decide | dsimp only

theorem State.pdCtl_within (s : State) (p : Port) (f : State) (h_f : Within mm p s00 f) (hM : mm ||| 0x0 = mm) (hW : Within mm p s00 s) :
    Within mm p s00 (State.pdCtl s p f) := by
  unfold State.pdCtl
  try dsimp only
  repeat' with_reducible
    first | assumption | apply ite_within | split | exact sub hM (by decide) | dsimp only

theorem State.pdCtl_all {pp : Nat} (s : State) (p : Port) (f : State) (h_f : Within mm pp s00 f) (hM : mm ||| 0x0 = mm) (hW : Within mm pp s00 s) :
    Within mm pp s00 (State.pdCtl s p f) := by
  unfold State.pdCtl
  try dsimp only
  repeat' with_reducible
    first | assumption | apply ite_within | split | exact sub hM (by decide) | dsimp only

theorem execHardReset_within (p : Port) (s : State) :
    ∀ u, execHardReset p s = .next u → Within 0x80000400000000000000000 p s u := by
  intro u hu
  cases hu
  have hM : 0x80000400000000000000000 ||| 0x80000400000000000000000 = 0x80000400000000000000000 := rfl
  have hW := Within.refl 0x80000400000000000000000 p s
  try dsimp only
  repeat' with_reducible
    first | assumption | apply pdCtl_within | apply sendHardReset_within | apply ite_within | split
          | exact sub hM (by decide) | dsimp only

theorem execSoftReset_within (p : Port) (s : State) :
    ∀ u, execSoftReset p s = .next u → Within 0xC001000000580000E80000000038140000 p s u := by
  intro u hu
  cases hu
  have hM : 0xC001000000580000E80000000038140000 ||| 0xC001000000580000E80000000038140000 = 0xC001000000580000E80000000038140000 := rfl
  have hW := Within.refl 0xC001000000580000E80000000038140000 p s
  try dsimp only
  repeat' with_reducible
    first | assumption | apply pdCtl_within | apply sendSoftReset_within | exact sub hM (by decide)
          | dsimp only

theorem State.sendCableReset_within (s : State) (p : Port) (hM : mm ||| 0x80000C00000000000000000 = mm) (hW : Within mm p s00 s) :
    Within mm p s00 (State.sendCableReset s p) := by
  unfold State.sendCableReset
  try dsimp only
  repeat' with_reducible
    first | assumption | apply phy_within | apply pumpCableReset_within | apply ite_within | split
          | (intro _ _ _) | (intro _ _) | exact sub hM (by decide) | dsimp only

theorem State.sendCableReset_all {pp : Nat} (s : State) (p : Port) (hM : mm ||| 0x100C00000000000000000000 = mm) (hW : Within mm pp s00 s) :
    Within mm pp s00 (State.sendCableReset s p) := by
  unfold State.sendCableReset
  try dsimp only
  repeat' with_reducible
    first | assumption | apply phy_all | apply pumpCableReset_all | apply ite_within | split
          | (intro _ _ _) | (intro _ _) | exact sub hM (by decide) | dsimp only

theorem execCableReset_within (p : Port) (s : State) :
    ∀ u, execCableReset p s = .next u → Within 0x80000C00000000000000000 p s u := by
  intro u hu
  cases hu
  have hM : 0x80000C00000000000000000 ||| 0x80000C00000000000000000 = 0x80000C00000000000000000 := rfl
  have hW := Within.refl 0x80000C00000000000000000 p s
  try dsimp only
  repeat' with_reducible
    first | assumption | apply pdCtl_within | apply sendCableReset_within | apply ite_within | split
          | exact sub hM (by decide) | dsimp only

theorem State.sendChunk_within (s : State) (p : Port) (f : Frame) (n : Nat) (hM : mm ||| 0x180000E80000000000000000 = mm) (hW : Within mm p s00 s) :
    Within mm p s00 (State.sendChunk s p f n) := by
  unfold State.sendChunk
  try dsimp only
  repeat' with_reducible
    first | assumption | apply phy_within | apply sendFrame_within | apply take_all
          | apply ite_within | split | (intro _ _ _) | (intro _ _) | exact sub hM (by decide) | dsimp only

theorem State.sendChunk_all {pp : Nat} (s : State) (p : Port) (f : Frame) (n : Nat) (hM : mm ||| 0x100E80000000000000000000 = mm) (hW : Within mm pp s00 s) :
    Within mm pp s00 (State.sendChunk s p f n) := by
  unfold State.sendChunk
  try dsimp only
  repeat' with_reducible
    first | assumption | apply phy_all | apply sendFrame_all | apply take_all | apply ite_within
          | split | (intro _ _ _) | (intro _ _) | exact sub hM (by decide) | dsimp only

theorem State.reassembled_within (s : State) (p : Port) (r : Reasm) (hM : mm ||| 0xC00120000058001BFC0000400038140000 = mm) (hW : Within mm p s00 s) :
    Within mm p s00 (State.reassembled s p r) := by
  unfold State.reassembled
  try dsimp only
  repeat' with_reducible
    first | assumption | apply phy_within | apply twillHandles_within | apply take_all
          | apply ite_within | split | (intro _ _ _) | (intro _ _) | exact sub hM (by decide) | dsimp only

theorem State.reassembled_all {pp : Nat} (s : State) (p : Port) (r : Reasm) (hM : mm ||| 0xC00120000051BFC0000000400038140000 = mm) (hW : Within mm pp s00 s) :
    Within mm pp s00 (State.reassembled s p r) := by
  unfold State.reassembled
  try dsimp only
  repeat' with_reducible
    first | assumption | apply phy_all | apply take_all | apply twillHandles_all | apply ite_within
          | split | (intro _ _ _) | (intro _ _) | exact sub hM (by decide) | dsimp only

theorem State.addChunk_within (s : State) (p : Port) (r : Reasm) (data : List Byte) (hM : mm ||| 0xC00120000058001BFC0000400038140000 = mm) (hW : Within mm p s00 s) :
    Within mm p s00 (State.addChunk s p r data) := by
  unfold State.addChunk
  try dsimp only
  repeat' with_reducible
    first | assumption | apply phy_within | apply reassembled_within | apply sendFrame_within
          | apply ite_within | split | (intro _ _ _) | (intro _ _) | exact sub hM (by decide) | dsimp only

theorem State.addChunk_all {pp : Nat} (s : State) (p : Port) (r : Reasm) (data : List Byte) (hM : mm ||| 0xC00120000051BFC0000000400038140000 = mm) (hW : Within mm pp s00 s) :
    Within mm pp s00 (State.addChunk s p r data) := by
  unfold State.addChunk
  try dsimp only
  repeat' with_reducible
    first | assumption | apply phy_all | apply reassembled_all | apply sendFrame_all
          | apply ite_within | split | (intro _ _ _) | (intro _ _) | exact sub hM (by decide) | dsimp only

theorem execChunkReceived_within (p : Port) (k : Sop) (m : PdMsg) (c : Chunk) (data : List Byte) (s : State) :
    ∀ u, execChunkReceived p k m c data s = .next u → Within 0xC00120000058001BFC0000400038140000 p s u := by
  intro u hu
  cases hu
  have hM : 0xC00120000058001BFC0000400038140000 ||| 0xC00120000058001BFC0000400038140000 = 0xC00120000058001BFC0000400038140000 := rfl
  have hW := Within.refl 0xC00120000058001BFC0000400038140000 p s
  try dsimp only
  repeat' with_reducible
    first | assumption | apply addChunk_within | apply chunkFailed_within
          | apply releaseReasm_within | apply sendChunk_within | apply take_within
          | apply take_all | apply ite_within | split | (intro _ _ _) | (intro _ _) | exact sub hM (by decide)
          | dsimp only

theorem execTChunkSenderResponseExpiry_within (p : Port) (k : Sop) (s : State) :
    ∀ u, execTChunkSenderResponseExpiry p k s = .next u → Within 0x180000A00000000000000000 p s u := by
  intro u hu
  cases hu
  have hM : 0x180000A00000000000000000 ||| 0x180000A00000000000000000 = 0x180000A00000000000000000 := rfl
  have hW := Within.refl 0x180000A00000000000000000 p s
  try dsimp only
  repeat' with_reducible
    first | assumption | apply releaseReasm_within | exact sub hM (by decide) | dsimp only

theorem execTChunkingNotSupportedExpiry_within (p : Port) (s : State) :
    ∀ u, execTChunkingNotSupportedExpiry p s = .next u → Within 0xC00120000058001BFC0000400038140000 p s u := by
  intro u hu
  cases hu
  have hM : 0xC00120000058001BFC0000400038140000 ||| 0xC00120000058001BFC0000400038140000 = 0xC00120000058001BFC0000400038140000 := rfl
  have hW := Within.refl 0xC00120000058001BFC0000400038140000 p s
  try dsimp only
  repeat' with_reducible
    first | assumption | apply chunkFailed_within | apply ite_within | split | exact sub hM (by decide)
          | dsimp only

theorem execTSenderResponseExpiry_within (p : Port) (s : State) :
    ∀ u, execTSenderResponseExpiry p s = .next u → Within 0xC00120000058001BEC0000000038140000 p s u := by
  intro u hu
  cases hu
  have hM : 0xC00120000058001BEC0000000038140000 ||| 0xC00120000058001BEC0000000038140000 = 0xC00120000058001BEC0000000038140000 := rfl
  have hW := Within.refl 0xC00120000058001BEC0000000038140000 p s
  try dsimp only
  repeat' with_reducible
    first | assumption | apply amsEnd_within | apply frsNoAccept_within | apply noSinkCap_within
          | apply pe_within | apply sendAms_within | apply sendHardReset_within
          | apply sendSoftReset_within | apply sinkHardReset_within | apply swapRejected_within
          | apply ite_within | split | (intro _ _ _) | (intro _ _) | exact sub hM (by decide) | dsimp only

theorem execTVdmSenderResponseExpiry_within (p : Port) (s : State) :
    ∀ u, execTVdmSenderResponseExpiry p s = .next u → Within 0xC001200000580000FC0000000038140000 p s u := by
  intro u hu
  cases hu
  have hM : 0xC001200000580000FC0000000038140000 ||| 0xC001200000580000FC0000000038140000 = 0xC001200000580000FC0000000038140000 := rfl
  have hW := Within.refl 0xC001200000580000FC0000000038140000 p s
  try dsimp only
  repeat' with_reducible
    first | assumption | apply amsEnd_within | apply discUnanswered_within | apply endVdm_within
          | apply pe_within | split | (intro _ _ _) | (intro _ _) | exact sub hM (by decide) | dsimp only

/-! ## Machine/PairLogic.lean -/

theorem State.pairState_within {pp : Nat} (s : State) (n : Nat) (hM : mm ||| 0x400000000 = mm) (hW : Within mm pp s00 s) :
    Within mm pp s00 (State.pairState s n) := by
  unfold State.pairState
  try dsimp only
  repeat' with_reducible
    first | assumption | apply wr_within | exact sub hM (by decide) | dsimp only

theorem State.yieldPort_within (s : State) (p : Port) (hM : mm ||| 0xC001000000480017490000000038140000 = mm) (hW : Within mm p s00 s) :
    Within mm p s00 (State.yieldPort s p) := by
  unfold State.yieldPort
  try dsimp only
  repeat' with_reducible
    first | assumption | apply flag_own | apply wr_own | apply cc_within | apply dsgOff_within
          | apply endVdm_within | apply gateOff_within | apply guardTo_within
          | apply halt_within | apply pe_within | apply phy_within | apply swp_within
          | apply vconnOff_within | split | (intro _ _ _) | (intro _ _) | exact sub hM (by decide) | decide
          | dsimp only

theorem State.yieldPort_all {pp : Nat} (s : State) (p : Port) (hM : mm ||| 0xC001000000517480010000000038140000 = mm) (hW : Within mm pp s00 s) :
    Within mm pp s00 (State.yieldPort s p) := by
  unfold State.yieldPort
  try dsimp only
  repeat' with_reducible
    first | assumption | apply flag_within | apply wr_within | apply cc_all | apply dsgOff_all
          | apply endVdm_all | apply gateOff_all | apply guardTo_all | apply halt_all
          | apply pe_all | apply phy_all | apply swp_all | apply vconnOff_all | split
          | (intro _ _ _) | (intro _ _) | exact sub hM (by decide) | dsimp only

theorem State.yieldFeed_within {pp : Nat} (s : State) (f : Feed) (hM : mm ||| 0x100000000000000010000000000 = mm) (hW : Within mm pp s00 s) :
    Within mm pp s00 (State.yieldFeed s f) := by
  unfold State.yieldFeed
  try dsimp only
  repeat' with_reducible
    first | assumption | apply flag_within | apply wr_within | apply feedGateOff_within
          | apply modFeed_within | apply ite_within | split | (intro _ _ _) | (intro _ _)
          | exact sub hM (by decide) | dsimp only

theorem State.yieldDrivers_within {pp : Nat} (s : State) (hM : mm ||| 0x18000000000000000 = mm) (hW : Within mm pp s00 s) :
    Within mm pp s00 (State.yieldDrivers s) := by
  unfold State.yieldDrivers
  try dsimp only
  repeat' with_reducible
    first | assumption | apply irq_within | apply wr_within | apply ite_within | split
          | exact sub hM (by decide) | dsimp only

theorem State.setMirror_within {pp : Nat} (s : State) (v : Bool) (hM : mm ||| 0x100E80000000002600000000 = mm) (hW : Within mm pp s00 s) :
    Within mm pp s00 (State.setMirror s v) := by
  unfold State.setMirror
  try dsimp only
  repeat' with_reducible
    first | assumption | apply flag_within | apply irq_within | apply forPorts_within
          | apply pump_all | apply ite_within | split | (intro _ _ _) | (intro _ _) | exact sub hM (by decide)
          | dsimp only

theorem State.releaseOutputs_within {pp : Nat} (s : State) (hM : mm ||| 0xC001200100517E80018000012638140000 = mm) (hW : Within mm pp s00 s) :
    Within mm pp s00 (State.releaseOutputs s) := by
  unfold State.releaseOutputs
  try dsimp only
  repeat' with_reducible
    first | assumption | apply flag_within | apply modPort_within | apply wr_within
          | apply forPorts_within | apply pr_within | apply setMirror_within
          | apply yieldDrivers_within | apply yieldFeed_within | apply yieldPort_all | split
          | (intro _ _ _) | (intro _ _) | exact sub hM (by decide) | dsimp only

theorem State.toStandby_within {pp : Nat} (s : State) (hM : mm ||| 0xC001200100517E80018000012638140000 = mm) (hW : Within mm pp s00 s) :
    Within mm pp s00 (State.toStandby s) := by
  unfold State.toStandby
  try dsimp only
  repeat' with_reducible
    first | assumption | apply pairState_within | apply releaseOutputs_within | exact sub hM (by decide)
          | dsimp only

theorem State.yieldTo_within {pp : Nat} (s : State) (why : Nat) (hM : mm ||| 0xC001200100517E80018000012E38140000 = mm) (hW : Within mm pp s00 s) :
    Within mm pp s00 (State.yieldTo s why) := by
  unfold State.yieldTo
  try dsimp only
  repeat' with_reducible
    first | assumption | apply bump_within | apply event_sys | apply irq_within
          | apply toStandby_within | exact sub hM (by decide) | decide | dsimp only

theorem State.resumeGuard_within (s : State) (p : Port) (i : LoopImg) (hM : mm ||| 0x80010000000000000000000 = mm) (hW : Within mm p s00 s) :
    Within mm p s00 (State.resumeGuard s p i) := by
  unfold State.resumeGuard
  try dsimp only
  repeat' with_reducible
    first | assumption | apply flag_own | apply wr_own | apply cc_within | apply grd_within
          | apply guardTo_within | apply toDischarge_within | apply ite_within | split | (intro _ _ _)
          | (intro _ _) | exact sub hM (by decide) | decide | dsimp only

theorem State.resumeGuard_all {pp : Nat} (s : State) (p : Port) (i : LoopImg) (hM : mm ||| 0x110000000000000000000000 = mm) (hW : Within mm pp s00 s) :
    Within mm pp s00 (State.resumeGuard s p i) := by
  unfold State.resumeGuard
  try dsimp only
  repeat' with_reducible
    first | assumption | apply flag_within | apply wr_within | apply cc_all | apply grd_all
          | apply guardTo_all | apply toDischarge_all | apply ite_within | split | (intro _ _ _)
          | (intro _ _) | exact sub hM (by decide) | dsimp only

theorem State.resumeLoop_within (s : State) (p : Port) (i : LoopImg) (hM : mm ||| 0x80002000000000000000000 = mm) (hW : Within mm p s00 s) :
    Within mm p s00 (State.resumeLoop s p i) := by
  unfold State.resumeLoop
  try dsimp only
  repeat' with_reducible
    first | assumption | apply flag_own | apply wr_own | apply loop_within | split | (intro _ _ _)
          | (intro _ _) | exact sub hM (by decide) | decide | dsimp only

theorem State.resumeLoop_all {pp : Nat} (s : State) (p : Port) (i : LoopImg) (hM : mm ||| 0x102000000000000000000000 = mm) (hW : Within mm pp s00 s) :
    Within mm pp s00 (State.resumeLoop s p i) := by
  unfold State.resumeLoop
  try dsimp only
  repeat' with_reducible
    first | assumption | apply flag_within | apply wr_within | apply loop_all | split
          | (intro _ _ _) | (intro _ _) | exact sub hM (by decide) | dsimp only

theorem State.reseedLoop_within (s : State) (p : Port) (hM : mm ||| 0x80000000000000000000000 = mm) (hW : Within mm p s00 s) :
    Within mm p s00 (State.reseedLoop s p) := by
  unfold State.reseedLoop
  try dsimp only
  repeat' with_reducible
    first | assumption | apply loop_within | split | (intro _ _ _) | (intro _ _) | exact sub hM (by decide)
          | dsimp only

theorem State.reseedLoop_all {pp : Nat} (s : State) (p : Port) (hM : mm ||| 0x100000000000000000000000 = mm) (hW : Within mm pp s00 s) :
    Within mm pp s00 (State.reseedLoop s p) := by
  unfold State.reseedLoop
  try dsimp only
  repeat' with_reducible
    first | assumption | apply loop_all | split | (intro _ _ _) | (intro _ _) | exact sub hM (by decide)
          | dsimp only

theorem State.resumeLimits_within (s : State) (p : Port) (hM : mm ||| 0x2000000000000000000 = mm) (hW : Within mm p s00 s) :
    Within mm p s00 (State.resumeLimits s p) := by
  unfold State.resumeLimits
  try dsimp only
  repeat' with_reducible
    first | assumption | apply wr_own | apply ite_within | split | exact sub hM (by decide) | decide
          | dsimp only

theorem State.resumeLimits_all {pp : Nat} (s : State) (p : Port) (hM : mm ||| 0x2000000000000000000000 = mm) (hW : Within mm pp s00 s) :
    Within mm pp s00 (State.resumeLimits s p) := by
  unfold State.resumeLimits
  try dsimp only
  repeat' with_reducible
    first | assumption | apply wr_within | apply ite_within | split | exact sub hM (by decide) | dsimp only

theorem State.resumeMode_within (s : State) (p : Port) (m : Nat) (hM : mm ||| 0x480007038000000000140000 = mm) (hW : Within mm p s00 s) :
    Within mm p s00 (State.resumeMode s p m) := by
  unfold State.resumeMode
  try dsimp only
  repeat' with_reducible
    first | assumption | apply modPort_own | apply wr_own | apply latchMode_within
          | apply loop_within | apply setMode_within | apply ite_within | split | (intro _ _ _)
          | (intro _ _) | exact sub hM (by decide) | decide | dsimp only

theorem State.resumeMode_all {pp : Nat} (s : State) (p : Port) (m : Nat) (hM : mm ||| 0x507000038000000000140000 = mm) (hW : Within mm pp s00 s) :
    Within mm pp s00 (State.resumeMode s p m) := by
  unfold State.resumeMode
  try dsimp only
  repeat' with_reducible
    first | assumption | apply modPort_within | apply wr_within | apply latchMode_all
          | apply loop_all | apply setMode_all | apply ite_within | split | (intro _ _ _) | (intro _ _)
          | exact sub hM (by decide) | dsimp only

theorem State.resumeTwill_within (s : State) (p : Port) (pres : Pres) (hM : mm ||| 0x80000480000000000000002 = mm) (hW : Within mm p s00 s) :
    Within mm p s00 (State.resumeTwill s p pres) := by
  unfold State.resumeTwill
  try dsimp only
  repeat' with_reducible
    first | assumption | apply flag_own | apply wr_own | apply wrBit_within
          | apply present_within | apply ite_within | split | exact sub hM (by decide) | decide | dsimp only

theorem State.resumeTwill_all {pp : Nat} (s : State) (p : Port) (pres : Pres) (hM : mm ||| 0x100480000000000000000002 = mm) (hW : Within mm pp s00 s) :
    Within mm pp s00 (State.resumeTwill s p pres) := by
  unfold State.resumeTwill
  try dsimp only
  repeat' with_reducible
    first | assumption | apply flag_within | apply wr_within | apply wrBit_within
          | apply present_all | apply ite_within | split | exact sub hM (by decide) | dsimp only

theorem State.resumeInflight_within (s : State) (p : Port) (planned : Bool) (hM : mm ||| 0x80000400000000000000000 = mm) (hW : Within mm p s00 s) :
    Within mm p s00 (State.resumeInflight s p planned) := by
  unfold State.resumeInflight
  try dsimp only
  repeat' with_reducible
    first | assumption | apply wr_own | apply pe_within | apply sendHardReset_within
          | apply ite_within | split | (intro _ _ _) | (intro _ _) | exact sub hM (by decide) | decide | dsimp only

theorem State.resumeInflight_all {pp : Nat} (s : State) (p : Port) (planned : Bool) (hM : mm ||| 0x100400000000000000000000 = mm) (hW : Within mm pp s00 s) :
    Within mm pp s00 (State.resumeInflight s p planned) := by
  unfold State.resumeInflight
  try dsimp only
  repeat' with_reducible
    first | assumption | apply wr_within | apply pe_all | apply sendHardReset_all | apply ite_within
          | split | (intro _ _ _) | (intro _ _) | exact sub hM (by decide) | dsimp only

theorem State.setMsgIds_within (s : State) (p : Port) (w : Nat) (hM : mm ||| 0x400000000000000000 = mm) (hW : Within mm p s00 s) :
    Within mm p s00 (State.setMsgIds s p w) := by
  unfold State.setMsgIds
  simp only [List.foldl]
  repeat (first | assumption | (refine State.wr_own _ _ _ (sub hM (by decide)) (by decide) ?_) | (refine State.wr_within _ _ _ _ (sub hM (by decide)) ?_))

theorem State.setMsgIds_all {pp : Nat} (s : State) (p : Port) (w : Nat) (hM : mm ||| 0x400000000000000000000 = mm) (hW : Within mm pp s00 s) :
    Within mm pp s00 (State.setMsgIds s p w) := by
  unfold State.setMsgIds
  simp only [List.foldl]
  repeat (first | assumption | (refine State.wr_own _ _ _ (sub hM (by decide)) (by decide) ?_) | (refine State.wr_within _ _ _ _ (sub hM (by decide)) ?_))

theorem State.answerHeld_within (s : State) (p : Port) (hM : mm ||| 0xC00120000058001BFC0000400038140000 = mm) (hW : Within mm p s00 s) :
    Within mm p s00 (State.answerHeld s p) := by
  unfold State.answerHeld
  try dsimp only
  repeat' with_reducible
    first | assumption | apply drain_within | apply phy_within | split | (intro _ _ _) | (intro _ _)
          | exact sub hM (by decide) | dsimp only

theorem State.answerHeld_all {pp : Nat} (s : State) (p : Port) (hM : mm ||| 0xC00120000051BFC0000000400038140000 = mm) (hW : Within mm pp s00 s) :
    Within mm pp s00 (State.answerHeld s p) := by
  unfold State.answerHeld
  try dsimp only
  repeat' with_reducible
    first | assumption | apply drain_all | apply phy_all | split | (intro _ _ _) | (intro _ _)
          | exact sub hM (by decide) | dsimp only

theorem State.resumePort_within (planned : Bool) (s : State) (p : Port) (hM : mm ||| 0xC00120000058001FFF8000400038140002 = mm) (hW : Within mm p s00 s) :
    Within mm p s00 (State.resumePort planned s p) := by
  unfold State.resumePort
  try dsimp only
  repeat' with_reducible
    first | assumption | apply flag_own | apply modPort_own | apply answerHeld_within
          | apply enterUnattached_within | apply grd_within | apply guardTo_within
          | apply reseedLoop_within | apply resumeGuard_within | apply resumeInflight_within
          | apply resumeLimits_within | apply resumeLoop_within | apply resumeMode_within
          | apply resumeTwill_within | apply retirePort_within | apply safeState_within
          | apply sendHardReset_within | apply setMsgIds_within | apply toDischarge_within
          | apply ite_within | split | (intro _ _ _) | (intro _ _) | exact sub hM (by decide) | decide | dsimp only

theorem State.resumePort_all {pp : Nat} (planned : Bool) (s : State) (p : Port) (hM : mm ||| 0xC00120000051FFC0038000400038140002 = mm) (hW : Within mm pp s00 s) :
    Within mm pp s00 (State.resumePort planned s p) := by
  unfold State.resumePort
  try dsimp only
  repeat' with_reducible
    first | assumption | apply flag_within | apply modPort_within | apply answerHeld_all
          | apply enterUnattached_all | apply grd_all | apply guardTo_all
          | apply reseedLoop_all | apply resumeGuard_all | apply resumeInflight_all
          | apply resumeLimits_all | apply resumeLoop_all | apply resumeMode_all
          | apply resumeTwill_all | apply retirePort_all | apply safeState_all
          | apply sendHardReset_all | apply setMsgIds_all | apply toDischarge_all | apply ite_within
          | split | (intro _ _ _) | (intro _ _) | exact sub hM (by decide) | dsimp only

theorem State.resumeFeed_within {pp : Nat} (s : State) (f : Feed) (hM : mm ||| 0x10000000000 = mm) (hW : Within mm pp s00 s) :
    Within mm pp s00 (State.resumeFeed s f) := by
  unfold State.resumeFeed
  try dsimp only
  repeat' with_reducible
    first | assumption | apply flag_within | apply wr_within | apply restFeed_within
          | apply ite_within | split | exact sub hM (by decide) | dsimp only

theorem State.drive_within {pp : Nat} (s : State) (hM : mm ||| 0x200000000000000000010400000000 = mm) (hW : Within mm pp s00 s) :
    Within mm pp s00 (State.drive s) := by
  unfold State.drive
  try dsimp only
  repeat' with_reducible
    first | assumption | apply flag_within | apply pairState_within | apply pr_within
          | apply resumeFeed_within | split | (intro _ _ _) | (intro _ _) | exact sub hM (by decide)
          | dsimp only

theorem State.resumeSession_within (s : State) (p : Port) (hM : mm ||| 0x300000580000000000007000140000 = mm) (hW : Within mm p s00 s) :
    Within mm p s00 (State.resumeSession s p) := by
  unfold State.resumeSession
  try dsimp only
  repeat' with_reducible
    first | assumption | apply wr_own | apply openSession_within | apply sess_within
          | apply sess_all | apply ite_within | split | (intro _ _ _) | (intro _ _) | exact sub hM (by decide)
          | decide | dsimp only

theorem State.resumeSession_all {pp : Nat} (s : State) (p : Port) (hM : mm ||| 0x300000500000000000007000140000 = mm) (hW : Within mm pp s00 s) :
    Within mm pp s00 (State.resumeSession s p) := by
  unfold State.resumeSession
  try dsimp only
  repeat' with_reducible
    first | assumption | apply wr_within | apply openSession_all | apply sess_all | apply ite_within
          | split | (intro _ _ _) | (intro _ _) | exact sub hM (by decide) | dsimp only

theorem State.resumeAll_within {pp : Nat} (s : State) (planned : Bool) (hM : mm ||| 0xC00130000051FFC0038000407038140002 = mm) (hW : Within mm pp s00 s) :
    Within mm pp s00 (State.resumeAll s planned) := by
  unfold State.resumeAll
  try dsimp only
  repeat' with_reducible
    first | assumption | apply modPort_within | apply forPorts_within | apply pr_within
          | apply resumePort_all | apply resumeSession_all | apply getD_within | split | (intro _ _ _)
          | (intro _ _) | exact sub hM (by decide) | dsimp only

theorem execOwnOutToggle_within (pp : Nat) (edge : Bool) (s : State) :
    ∀ u, execOwnOutToggle edge s = .next u → Within 0x200000000000000000000400000000 pp s u := by
  intro u hu
  cases hu
  have hM : 0x200000000000000000000400000000 ||| 0x200000000000000000000400000000 = 0x200000000000000000000400000000 := rfl
  have hW := Within.refl 0x200000000000000000000400000000 pp s
  try dsimp only
  repeat' with_reducible
    first | assumption | apply flag_within | apply pr_within | apply ite_within | split | (intro _ _ _)
          | (intro _ _) | exact sub hM (by decide) | dsimp only

theorem State.startClaim_within {pp : Nat} (s : State) (hM : mm ||| 0x200000000000000000000400000000 = mm) (hW : Within mm pp s00 s) :
    Within mm pp s00 (State.startClaim s) := by
  unfold State.startClaim
  try dsimp only
  repeat' with_reducible
    first | assumption | apply flag_within | apply pairState_within | apply pr_within
          | apply ite_within | split | (intro _ _ _) | (intro _ _) | exact sub hM (by decide) | dsimp only

theorem execOwnInLoss_within (pp : Nat) (s : State) :
    ∀ u, execOwnInLoss s = .next u → Within 0x200000000000000000000400000000 pp s u := by
  intro u hu
  cases hu
  have hM : 0x200000000000000000000400000000 ||| 0x200000000000000000000400000000 = 0x200000000000000000000400000000 := rfl
  have hW := Within.refl 0x200000000000000000000400000000 pp s
  try dsimp only
  repeat' with_reducible
    first | assumption | apply flag_within | apply startClaim_within | apply ite_within | split
          | exact sub hM (by decide) | dsimp only

theorem execSecondaryClaimWait_within (pp : Nat) (s : State) :
    ∀ u, execSecondaryClaimWait s = .next u → Within 0x200000000000000000000400000000 pp s u := by
  intro u hu
  cases hu
  have hM : 0x200000000000000000000400000000 ||| 0x200000000000000000000400000000 = 0x200000000000000000000400000000 := rfl
  have hW := Within.refl 0x200000000000000000000400000000 pp s
  try dsimp only
  repeat' with_reducible
    first | assumption | apply pr_within | apply startClaim_within | apply ite_within | split
          | (intro _ _ _) | (intro _ _) | exact sub hM (by decide) | dsimp only

theorem execClaimComplete_within (pp : Nat) (us : BitVec 16) (s : State) :
    ∀ u, execClaimComplete us s = .next u → Within 0x200000000000000000010400000000 pp s u := by
  intro u hu
  cases hu
  have hM : 0x200000000000000000010400000000 ||| 0x200000000000000000010400000000 = 0x200000000000000000010400000000 := rfl
  have hW := Within.refl 0x200000000000000000010400000000 pp s
  try dsimp only
  repeat' with_reducible
    first | assumption | apply wr_within | apply drive_within | apply ite_within | split
          | exact sub hM (by decide) | dsimp only

theorem execYieldOutRelease_within (pp : Nat) (s : State) :
    ∀ u, execYieldOutRelease s = .next u → Within 0x200000000000000000000400000000 pp s u := by
  intro u hu
  cases hu
  have hM : 0x200000000000000000000400000000 ||| 0x200000000000000000000400000000 = 0x200000000000000000000400000000 := rfl
  have hW := Within.refl 0x200000000000000000000400000000 pp s
  try dsimp only
  repeat' with_reducible
    first | assumption | apply flag_within | apply pr_within | apply ite_within | split | (intro _ _ _)
          | (intro _ _) | exact sub hM (by decide) | dsimp only

theorem State.handoverEnds_within {pp : Nat} (s : State) (status : Nat) (hM : mm ||| 0xC001200000500E80000000000438140000 = mm) (hW : Within mm pp s00 s) :
    Within mm pp s00 (State.handoverEnds s status) := by
  unfold State.handoverEnds
  try dsimp only
  repeat' with_reducible
    first | assumption | apply answer_within | apply forPorts_within | apply pairState_within
          | apply pr_within | apply pump_all | split | (intro _ _ _) | (intro _ _)
          | exact sub hM (by decide) | dsimp only

theorem State.vetoEvent_within {pp : Nat} (s : State) (who : Nat) (hM : mm ||| 0x400000000000000A00140000 = mm) (hW : Within mm pp s00 s) :
    Within mm pp s00 (State.vetoEvent s who) := by
  unfold State.vetoEvent
  try dsimp only
  repeat' with_reducible
    first | assumption | apply bump_within | apply event_sys | apply irq_within
          | exact sub hM (by decide) | decide | dsimp only

theorem execYieldIn_within (pp : Nat) (level : Bool) (s : State) :
    ∀ u, execYieldIn level s = .next u → Within 0xC001200100517E80018000012E38140000 pp s u := by
  intro u hu
  cases hu
  have hM : 0xC001200100517E80018000012E38140000 ||| 0xC001200100517E80018000012E38140000 = 0xC001200100517E80018000012E38140000 := rfl
  have hW := Within.refl 0xC001200100517E80018000012E38140000 pp s
  try dsimp only
  repeat' with_reducible
    first | assumption | apply flag_within | apply handoverEnds_within | apply pairState_within
          | apply pr_within | apply vetoEvent_within | apply yieldTo_within | apply ite_within
          | split | (intro _ _ _) | (intro _ _) | exact sub hM (by decide) | dsimp only

theorem execTakeover_within (pp : Nat) (us : BitVec 16) (s : State) :
    ∀ u, execTakeover us s = .next u → Within 0xC00130000051FFC0038000407E38140002 pp s u := by
  intro u hu
  cases hu
  have hM : 0xC00130000051FFC0038000407E38140002 ||| 0xC00130000051FFC0038000407E38140002 = 0xC00130000051FFC0038000407E38140002 := rfl
  have hW := Within.refl 0xC00130000051FFC0038000407E38140002 pp s
  try dsimp only
  repeat' with_reducible
    first | assumption | apply bump_within | apply event_sys | apply irq_within
          | apply wr_within | apply resumeAll_within | apply ite_within | split | exact sub hM (by decide)
          | decide | dsimp only

theorem State.selState_within {pp : Nat} (s : State) (st : Nat) (hM : mm ||| 0x400000000 = mm) (hW : Within mm pp s00 s) :
    Within mm pp s00 (State.selState s st) := by
  unfold State.selState
  try dsimp only
  repeat' with_reducible
    first | assumption | apply wr_within | exact sub hM (by decide) | dsimp only

theorem State.selEvent_within {pp : Nat} (s : State) (hM : mm ||| 0x400000000000000000140000 = mm) (hW : Within mm pp s00 s) :
    Within mm pp s00 (State.selEvent s) := by
  unfold State.selEvent
  try dsimp only
  repeat' with_reducible
    first | assumption | apply event_sys | exact sub hM (by decide) | decide | dsimp only

theorem State.selDown_within {pp : Nat} (s : State) (hM : mm ||| 0xC001200000500E80000000002E38140000 = mm) (hW : Within mm pp s00 s) :
    Within mm pp s00 (State.selDown s) := by
  unfold State.selDown
  try dsimp only
  repeat' with_reducible
    first | assumption | apply bump_within | apply irq_within | apply handoverEnds_within
          | apply pr_within | apply selEvent_within | apply selState_within
          | apply setMirror_within | apply ite_within | split | (intro _ _ _) | (intro _ _)
          | exact sub hM (by decide) | dsimp only

theorem execLinkDown_within (pp : Nat) (k : AnyLink) (w : LinkLoss) (s : State) :
    ∀ u, execLinkDown k w s = .next u → Within 0xC003200000500E80000000002E38140000 pp s u := by
  intro u hu
  cases hu
  have hM : 0xC003200000500E80000000002E38140000 ||| 0xC003200000500E80000000002E38140000 = 0xC003200000500E80000000002E38140000 := rfl
  have hW := Within.refl 0xC003200000500E80000000002E38140000 pp s
  try dsimp only
  repeat' with_reducible
    first | assumption | apply selDown_within | apply weftDown_within | split | exact sub hM (by decide)
          | dsimp only

theorem State.fullMirror_within {pp : Nat} (s : State) (hM : mm ||| 0x200000100E80000000002600000000 = mm) (hW : Within mm pp s00 s) :
    Within mm pp s00 (State.fullMirror s) := by
  unfold State.fullMirror
  try dsimp only
  repeat' with_reducible
    first | assumption | apply forPorts_within | apply pr_within | apply selPeriodic_within
          | apply selReliable_within | apply sendLoop_within | apply setMirror_within
          | apply sendCache_all | apply foldl_within | split | (intro _ _ _) | (intro _ _)
          | exact sub hM (by decide) | dsimp only

theorem State.sendHello_within {pp : Nat} (s : State) (hM : mm ||| 0x200000000000000000000000000000 = mm) (hW : Within mm pp s00 s) :
    Within mm pp s00 (State.sendHello s) := by
  unfold State.sendHello
  try dsimp only
  repeat' with_reducible
    first | assumption | apply pr_within | apply ite_within | split | (intro _ _ _) | (intro _ _)
          | exact sub hM (by decide) | dsimp only

theorem execSelvedgeTraining_within (pp : Nat) (e : LinkEvent) (s : State) :
    ∀ u, execSelvedgeTraining e s = .next u → Within 0x4000200000500E80000000002600140000 pp s u := by
  intro u hu
  cases hu
  have hM : 0x4000200000500E80000000002600140000 ||| 0x4000200000500E80000000002600140000 = 0x4000200000500E80000000002600140000 := rfl
  have hW := Within.refl 0x4000200000500E80000000002600140000 pp s
  try dsimp only
  repeat' with_reducible
    first | assumption | apply fresh_within1 | (refine State.fresh_within ?_ ?_ ‹_›)
          | apply fullMirror_within | apply pr_within | apply selEvent_within
          | apply selState_within | apply sendHello_within | apply take_all | apply ite_within
          | split | (intro _ _ _) | (intro _ _) | exact sub hM (by decide) | dsimp only

theorem execSelvedgeRetransmit_within (pp : Nat) (s : State) :
    ∀ u, execSelvedgeRetransmit s = .next u → Within 0xC001200000500E80000000002E38140000 pp s u := by
  intro u hu
  cases hu
  have hM : 0xC001200000500E80000000002E38140000 ||| 0xC001200000500E80000000002E38140000 = 0xC001200000500E80000000002E38140000 := rfl
  have hW := Within.refl 0xC001200000500E80000000002E38140000 pp s
  try dsimp only
  repeat' with_reducible
    first | assumption | apply bump_within | apply pr_within | apply selDown_within
          | apply ite_within | split | (intro _ _ _) | (intro _ _) | exact sub hM (by decide) | dsimp only

theorem execLoopFrameSend_within (pp : Nat) (g : Fin 4) (s : State) :
    ∀ u, execLoopFrameSend g s = .next u → Within 0x200000100E80000000002600000000 pp s u := by
  intro u hu
  cases hu
  have hM : 0x200000100E80000000002600000000 ||| 0x200000100E80000000002600000000 = 0x200000100E80000000002600000000 := rfl
  have hW := Within.refl 0x200000100E80000000002600000000 pp s
  try dsimp only
  repeat' with_reducible
    first | assumption | apply pr_within | apply sendLoop_within | apply setMirror_within
          | apply ite_within | split | (intro _ _ _) | (intro _ _) | exact sub hM (by decide) | dsimp only

theorem execMirrorLost_within (pp : Nat) (s : State) :
    ∀ u, execMirrorLost s = .next u → Within 0x100E80000000002600000000 pp s u := by
  intro u hu
  cases hu
  have hM : 0x100E80000000002600000000 ||| 0x100E80000000002600000000 = 0x100E80000000002600000000 := rfl
  have hW := Within.refl 0x100E80000000002600000000 pp s
  try dsimp only
  repeat' with_reducible
    first | assumption | apply setMirror_within | apply ite_within | split | exact sub hM (by decide)
          | dsimp only

theorem execLoopDataStale_within (p : Port) (s : State) :
    ∀ u, execLoopDataStale p s = .next u → Within 0x400000000 p s u := by
  intro u hu
  cases hu
  have hM : 0x400000000 ||| 0x400000000 = 0x400000000 := rfl
  have hW := Within.refl 0x400000000 p s
  try dsimp only
  repeat' with_reducible
    first | assumption | apply wrBit_within | apply ite_within | split | exact sub hM (by decide) | dsimp only

theorem State.urgentStop_within (s : State) (p : Port) (now was : Bool) (hM : mm ||| 0xC00120000448001F4D0000000038140000 = mm) (hW : Within mm p s00 s) :
    Within mm p s00 (State.urgentStop s p now was) := by
  unfold State.urgentStop
  try dsimp only
  repeat' with_reducible
    first | assumption | apply safeRelease_within | apply setStop_within | apply stopPort_within
          | apply ite_within | split | exact sub hM (by decide) | dsimp only

theorem State.urgentStop_all {pp : Nat} (s : State) (p : Port) (now was : Bool) (hM : mm ||| 0xC00120000451F4C0010000000038140000 = mm) (hW : Within mm pp s00 s) :
    Within mm pp s00 (State.urgentStop s p now was) := by
  unfold State.urgentStop
  try dsimp only
  repeat' with_reducible
    first | assumption | apply safeRelease_all | apply setStop_all | apply stopPort_all
          | apply ite_within | split | exact sub hM (by decide) | dsimp only

theorem State.urgentShed_within (s : State) (p : Port) (now was : Bool × Nat × Nat × Nat) (hM : mm ||| 0x400000000000 = mm) (hW : Within mm p s00 s) :
    Within mm p s00 (State.urgentShed s p now was) := by
  unfold State.urgentShed
  try dsimp only
  repeat' with_reducible
    first | assumption | apply flag_own | apply wr_own | apply ite_within | split
          | exact sub hM (by decide) | decide | dsimp only

theorem State.urgentShed_all {pp : Nat} (s : State) (p : Port) (now was : Bool × Nat × Nat × Nat) (hM : mm ||| 0x400000000000 = mm) (hW : Within mm pp s00 s) :
    Within mm pp s00 (State.urgentShed s p now was) := by
  unfold State.urgentShed
  try dsimp only
  repeat' with_reducible
    first | assumption | apply flag_within | apply wr_within | apply ite_within | split
          | exact sub hM (by decide) | dsimp only

theorem State.applyUrgent_within {pp : Nat} (s : State) (stop : Word) (shed : List (Bool × Nat × Nat × Nat)) (hM : mm ||| 0xC00120000451F4C0010000400038140000 = mm) (hW : Within mm pp s00 s) :
    Within mm pp s00 (State.applyUrgent s stop shed) := by
  unfold State.applyUrgent
  try dsimp only
  repeat' with_reducible
    first | assumption | apply forPorts_within | apply pr_within | apply sendUrgent_within
          | apply urgentShed_all | apply urgentStop_all | apply ite_within | apply getD_within | split
          | (intro _ _ _) | (intro _ _) | exact sub hM (by decide) | dsimp only

theorem execUrgent_within (pp : Nat) (stop : Word) (shed : List (Bool × Nat × Nat × Nat)) (s : State) :
    ∀ u, execUrgent stop shed s = .next u → Within 0xC00120000451F4C0010000400038140000 pp s u := by
  intro u hu
  cases hu
  have hM : 0xC00120000451F4C0010000400038140000 ||| 0xC00120000451F4C0010000400038140000 = 0xC00120000451F4C0010000400038140000 := rfl
  have hW := Within.refl 0xC00120000451F4C0010000400038140000 pp s
  try dsimp only
  repeat' with_reducible
    first | assumption | apply applyUrgent_within | apply ite_within | split | exact sub hM (by decide)
          | dsimp only

theorem State.handoverDone_within {pp : Nat} (s : State) (role : Nat) (hM : mm ||| 0x400000000000000A00140000 = mm) (hW : Within mm pp s00 s) :
    Within mm pp s00 (State.handoverDone s role) := by
  unfold State.handoverDone
  try dsimp only
  repeat' with_reducible
    first | assumption | apply bump_within | apply event_sys | apply irq_within
          | exact sub hM (by decide) | decide | dsimp only

theorem State.leavePair_within {pp : Nat} (s : State) (persist : Bool) (hM : mm ||| 0xC001200100517E80018000012E38140000 = mm) (hW : Within mm pp s00 s) :
    Within mm pp s00 (State.leavePair s persist) := by
  unfold State.leavePair
  try dsimp only
  repeat' with_reducible
    first | assumption | apply flag_within | apply pairState_within | apply pr_within
          | apply releaseOutputs_within | apply selDown_within | split | (intro _ _ _) | (intro _ _)
          | exact sub hM (by decide) | dsimp only

theorem State.handoverInstant_within {pp : Nat} (s : State) (h : HoSt) (hM : mm ||| 0xC001200100517E80018000012E38140000 = mm) (hW : Within mm pp s00 s) :
    Within mm pp s00 (State.handoverInstant s h) := by
  unfold State.handoverInstant
  try dsimp only
  repeat' with_reducible
    first | assumption | apply answer_within | apply handoverDone_within | apply handoverEnds_within
          | apply leavePair_within | apply pr_within | apply yieldTo_within | apply ite_within
          | split | (intro _ _ _) | (intro _ _) | exact sub hM (by decide) | dsimp only

theorem execHandover_within (pp : Nat) (e : HoEvent) (s : State) :
    ∀ u, execHandover e s = .next u → Within 0xC00130010051FFC0038000417E38140002 pp s u := by
  intro u hu
  cases hu
  have hM : 0xC00130010051FFC0038000417E38140002 ||| 0xC00130010051FFC0038000417E38140002 = 0xC00130010051FFC0038000417E38140002 := rfl
  have hW := Within.refl 0xC00130010051FFC0038000417E38140002 pp s
  try dsimp only
  repeat' with_reducible
    first | assumption | apply drive_within | apply handoverDone_within | apply handoverEnds_within
          | apply handoverInstant_within | apply pr_within | apply resumeAll_within
          | apply selReliable_within | apply sendLoop_within | apply foldl_within | apply ite_within
          | split | (intro _ _ _) | (intro _ _) | exact sub hM (by decide) | dsimp only

theorem State.beginHandover_within {pp : Nat} (s : State) (k : Packet) (leave persist : Bool) (hM : mm ||| 0xC001200000400000000000000438140000 = mm) (hW : Within mm pp s00 s) :
    Within mm pp s00 (State.beginHandover s k leave persist) := by
  unfold State.beginHandover
  try dsimp only
  repeat' with_reducible
    first | assumption | apply answer_within | apply pairState_within | apply pr_within
          | apply ite_within | split | (intro _ _ _) | (intro _ _) | exact sub hM (by decide) | dsimp only

theorem State.cmdPairHandover_within {pp : Nat} (s : State) (k : Packet) (hM : mm ||| 0xC001200000400000000000000438140000 = mm) (hW : Within mm pp s00 s) :
    Within mm pp s00 (State.cmdPairHandover s k) := by
  unfold State.cmdPairHandover
  try dsimp only
  repeat' with_reducible
    first | assumption | apply beginHandover_within | apply formed_within | split | (intro _ _ _)
          | (intro _ _) | exact sub hM (by decide) | dsimp only

theorem execPairHandover_within (pp : Nat) (k : Packet) (s : State) :
    ∀ u, execPairHandover k s = .next u → Within 0xC001200000400000000000000438140000 pp s u := by
  intro u hu
  cases hu
  have hM : 0xC001200000400000000000000438140000 ||| 0xC001200000400000000000000438140000 = 0xC001200000400000000000000438140000 := rfl
  have hW := Within.refl 0xC001200000400000000000000438140000 pp s
  try dsimp only
  repeat' with_reducible
    first | assumption | apply cmdPairHandover_within | apply serve_within | (intro _ _ _) | (intro _ _)
          | exact sub hM (by decide) | dsimp only

theorem State.cmdPairLeave_within {pp : Nat} (s : State) (k : Packet) (hM : mm ||| 0xC001200100517E80018000012E38140000 = mm) (hW : Within mm pp s00 s) :
    Within mm pp s00 (State.cmdPairLeave s k) := by
  unfold State.cmdPairLeave
  try dsimp only
  repeat' with_reducible
    first | assumption | apply answer_within | apply beginHandover_within | apply formed_within
          | apply leavePair_within | apply offStandby_within | apply ite_within | split | (intro _ _ _)
          | (intro _ _) | exact sub hM (by decide) | dsimp only

theorem execPairLeave_within (pp : Nat) (k : Packet) (s : State) :
    ∀ u, execPairLeave k s = .next u → Within 0xC001200100517E80018000012E38140000 pp s u := by
  intro u hu
  cases hu
  have hM : 0xC001200100517E80018000012E38140000 ||| 0xC001200100517E80018000012E38140000 = 0xC001200100517E80018000012E38140000 := rfl
  have hW := Within.refl 0xC001200100517E80018000012E38140000 pp s
  try dsimp only
  repeat' with_reducible
    first | assumption | apply cmdPairLeave_within | apply serve_within | (intro _ _ _) | (intro _ _)
          | exact sub hM (by decide) | dsimp only

theorem State.cmdPairStatus_within {pp : Nat} (s : State) (k : Packet) (hM : mm ||| 0xC001000000400000000000000038140000 = mm) (hW : Within mm pp s00 s) :
    Within mm pp s00 (State.cmdPairStatus s k) := by
  unfold State.cmdPairStatus
  try dsimp only
  repeat' with_reducible
    first | assumption | apply respond_within | exact sub hM (by decide) | dsimp only

theorem execPairStatus_within (pp : Nat) (k : Packet) (s : State) :
    ∀ u, execPairStatus k s = .next u → Within 0xC001000000400000000000000038140000 pp s u := by
  intro u hu
  cases hu
  have hM : 0xC001000000400000000000000038140000 ||| 0xC001000000400000000000000038140000 = 0xC001000000400000000000000038140000 := rfl
  have hW := Within.refl 0xC001000000400000000000000038140000 pp s
  try dsimp only
  repeat' with_reducible
    first | assumption | apply cmdPairStatus_within | apply serve_within | (intro _ _ _) | (intro _ _)
          | exact sub hM (by decide) | dsimp only

end Sys2Proof.Machine
end

