-- ==== Sys2Proof/Laws/FootPower.lean ====
section
/-! SUPPORT. What the block's operations may change (Safety.lean says what `Within` is), one lemma for each: resets and power, the ledger, register writes and objects.
`f_within` is for the command's own port, `f_all` for any port; each is proved from the lemmas of what its definition calls. -/

set_option linter.all false
set_option maxRecDepth 4000

namespace Sys2Proof.Machine
open State

variable {mm : Nat} {s00 : State}

/-! ## Machine/PowerOps.lean -/

theorem State.restoreWriters_within (s : State) (p : Port) (hM : mm ||| 0xC0003000000000000000000 = mm) (hW : Within mm p s00 s) :
    Within mm p s00 (State.restoreWriters s p) := by
  unfold State.restoreWriters
  try dsimp only
  repeat' with_reducible
    first | assumption | apply modPort_own | apply wr_any | apply rateNow_within
          | apply setMode_within | apply foldl_within | apply ite_within | split | (intro _ _ _) | (intro _ _)
          | exact sub hM (by decide) | decide | dsimp only

theorem State.restoreWriters_all {pp : Nat} (s : State) (p : Port) (hM : mm ||| 0x143000000000000000000000 = mm) (hW : Within mm pp s00 s) :
    Within mm pp s00 (State.restoreWriters s p) := by
  unfold State.restoreWriters
  try dsimp only
  repeat' with_reducible
    first | assumption | apply modPort_within | apply wr_any | apply rateNow_all
          | apply setMode_all | apply foldl_within | apply ite_within | split | (intro _ _ _) | (intro _ _)
          | exact sub hM (by decide) | dsimp only

theorem State.portEnable_within (s : State) (p : Port) (hM : mm ||| 0xC0003080000000000000002 = mm) (hW : Within mm p s00 s) :
    Within mm p s00 (State.portEnable s p) := by
  unfold State.portEnable
  try dsimp only
  repeat' with_reducible
    first | assumption | apply wr_own | apply wrBit_within | apply enterUnattached_within
          | apply present_within | apply restoreWriters_within | apply ite_within | split
          | exact sub hM (by decide) | decide | dsimp only

theorem State.portEnable_all {pp : Nat} (s : State) (p : Port) (hM : mm ||| 0x143080000000000000000002 = mm) (hW : Within mm pp s00 s) :
    Within mm pp s00 (State.portEnable s p) := by
  unfold State.portEnable
  try dsimp only
  repeat' with_reducible
    first | assumption | apply wr_within | apply wrBit_within | apply enterUnattached_all
          | apply present_all | apply restoreWriters_all | apply ite_within | split
          | exact sub hM (by decide) | dsimp only

theorem State.autoEnable_within {pp : Nat} (s : State) (hM : mm ||| 0x143080000000000000000002 = mm) (hW : Within mm pp s00 s) :
    Within mm pp s00 (State.autoEnable s) := by
  unfold State.autoEnable
  try dsimp only
  repeat' with_reducible
    first | assumption | apply forPorts_within | apply portEnable_all | apply ite_within | split
          | (intro _ _ _) | (intro _ _) | exact sub hM (by decide) | dsimp only

theorem State.loadTables_within {pp : Nat} (s : State) (hM : mm ||| 0x512000002018000000140000 = mm) (hW : Within mm pp s00 s) :
    Within mm pp s00 (State.loadTables s) := by
  unfold State.loadTables
  try dsimp only
  repeat' with_reducible
    first | assumption | apply forPorts_within | apply loadTable_all | apply rerate_all
          | apply tableGood_all | split | (intro _ _ _) | (intro _ _) | exact sub hM (by decide) | dsimp only

theorem State.restoreRetired_within {pp : Nat} (s : State) (hM : mm ||| 0x110080000000010000000000 = mm) (hW : Within mm pp s00 s) :
    Within mm pp s00 (State.restoreRetired s) := by
  unfold State.restoreRetired
  try dsimp only
  repeat' with_reducible
    first | assumption | apply wr_within | apply forPorts_within | apply retirePort_all
          | apply foldl_within | apply ite_within | split | (intro _ _ _) | (intro _ _) | exact sub hM (by decide)
          | dsimp only

theorem State.hkMoves_within {pp : Nat} (s : State) (hM : mm ||| 0x80000000000 = mm) (hW : Within mm pp s00 s) :
    Within mm pp s00 (State.hkMoves s) := by
  unfold State.hkMoves
  try dsimp only
  repeat' with_reducible
    first | assumption | apply wr_within | exact sub hM (by decide) | dsimp only

theorem State.restoreMark_within {pp : Nat} (s : State) (i : Nat) (hM : mm ||| 0xC00120040051B4C0000000090038140002 = mm) (hW : Within mm pp s00 s) :
    Within mm pp s00 (s.restoreMark i) := by
  unfold State.restoreMark
  split
  · dsimp only
    have h1 := State.flag_within _ ADC.ROT_LOST 0 true (sub hM (by decide)) (State.wrBit_within s ADC.FAILED 0 (i - 136) true (sub hM (by decide)) hW)
    split
    · exact State.hkMoves_within _ (sub hM (by decide)) h1
    · split
      · exact h1
      · exact State.wr_within _ _ _ _ (sub hM (by decide)) h1
  · refine State.monRetires_within _ _ (sub hM (by decide)) ?_
    split
    · rename_i F q h
      exact State.flag_within _ _ _ _ (sub hM (by rw [monMark_mask h]; decide)) hW
    · apply within_mk <;> first | exact Or.inr rfl | exact Or.inl (bitOf hM (by decide)) | exact hW

theorem State.restoreMarks_within {pp : Nat} (s : State) (hM : mm ||| 0xC20120040051B4C0000000090038140002 = mm) (hW : Within mm pp s00 s) :
    Within mm pp s00 (State.restoreMarks s) := by
  unfold State.restoreMarks
  try dsimp only
  repeat' with_reducible
    first | assumption | apply restoreMark_within | apply foldl_within | (intro _ _ _) | (intro _ _)
          | apply within_mk | exact Or.inr rfl | exact Or.inl (bitOf hM (by decide)) | exact sub hM (by decide)
          | dsimp only

theorem State.holdCore_within {pp : Nat} (s : State) (e : Nat) (hM : mm ||| 0x3800000000080000000028000 = mm) (hW : Within mm pp s00 s) :
    Within mm pp s00 (State.holdCore s e) := by
  unfold State.holdCore
  try dsimp only
  repeat' with_reducible
    first | assumption | apply wr_within | apply resetBoxes_within | apply ite_within | split
          | exact sub hM (by decide) | dsimp only

theorem State.twillLost_within (s : State) (p : Port) (hM : mm ||| 0x80000400000000000000000 = mm) (hW : Within mm p s00 s) :
    Within mm p s00 (State.twillLost s p) := by
  unfold State.twillLost
  try dsimp only
  repeat' with_reducible
    first | assumption | apply wr_own | apply pe_within | apply phy_within | apply swp_within
          | apply ite_within | split | (intro _ _ _) | (intro _ _) | exact sub hM (by decide) | decide | dsimp only

theorem State.twillLost_all {pp : Nat} (s : State) (p : Port) (hM : mm ||| 0x100400000000000000000000 = mm) (hW : Within mm pp s00 s) :
    Within mm pp s00 (State.twillLost s p) := by
  unfold State.twillLost
  try dsimp only
  repeat' with_reducible
    first | assumption | apply wr_within | apply pe_all | apply phy_all | apply swp_all
          | apply ite_within | split | (intro _ _ _) | (intro _ _) | exact sub hM (by decide) | dsimp only

theorem State.warmPort_within (s : State) (p : Port) (hM : mm ||| 0x80000400000000000000000 = mm) (hW : Within mm p s00 s) :
    Within mm p s00 (State.warmPort s p) := by
  unfold State.warmPort
  try dsimp only
  repeat' with_reducible
    first | assumption | apply flag_own | apply modPort_own | apply wr_own
          | apply twillLost_within | split | (intro _ _ _) | (intro _ _) | exact sub hM (by decide) | decide
          | dsimp only

theorem State.warmPort_all {pp : Nat} (s : State) (p : Port) (hM : mm ||| 0x100400000000000000000000 = mm) (hW : Within mm pp s00 s) :
    Within mm pp s00 (State.warmPort s p) := by
  unfold State.warmPort
  try dsimp only
  repeat' with_reducible
    first | assumption | apply flag_within | apply modPort_within | apply wr_within
          | apply twillLost_all | split | (intro _ _ _) | (intro _ _) | exact sub hM (by decide) | dsimp only

theorem State.holdCompute_within {pp : Nat} (s : State) (hM : mm ||| 0xA005E80003D40E800000820126100A8000 = mm) (hW : Within mm pp s00 s) :
    Within mm pp s00 (State.holdCompute s) := by
  unfold State.holdCompute
  extract_lets +onlyGivenNames -underBinder s1 s2 s3 _b _spi _smb _snap s4 s5 s6 s7 s8
  have h1 : Within mm pp s00 s1 := foldl_within _ _ _ (fun t a ht => State.holdCore_within _ _ (sub hM (by decide)) ht) hW
  clear_value s1
  have h2 : Within mm pp s00 s2 := by
    refine foldl_within _ _ _ (fun t a ht => ?_) h1
    split
    · exact setRing_empty_within _ _ _ rfl (.inr (sub hM (by decide))) (sub hM (by decide)) ht
    · exact ht
  clear_value s2
  have h3 : Within mm pp s00 s3 :=
    State.forPorts_within _ _ _ (fun t a ht => State.warmPort_all _ _ (sub hM (by decide)) ht) (State.wr_within _ _ _ _ (sub hM (by decide)) h2)
  clear_value s3
  have h4 : Within mm pp s00 s4 := by
    apply within_filter <;> first | exact Or.inr rfl | exact Or.inl (bitOf hM (by decide)) | exact sub hM (by decide) | exact h3
  clear_value s4
  have h5 : Within mm pp s00 s5 := by
    unfold s5
    repeat' with_reducible
      first | assumption | (refine setRing_entries_within _ _ _ rfl (.inr (sub hM (by decide))) ?_ ?_)
            | (refine setRing_erase_within _ _ _ _ rfl (.inr (sub hM (by decide))) ?_ ?_)
            | (refine setRing_drop_within _ _ _ _ rfl (.inr (sub hM (by decide))) ?_ ?_)
            | (refine setRing_empty_within _ _ _ rfl (.inr (sub hM (by decide))) ?_ ?_) | apply wr_within
            | apply drive_within | apply forPorts_within | apply holdCore_within
            | apply pairState_within | apply pr_within | apply selState_within
            | apply setMirror_within | apply warmPort_all | apply foldl_within | apply ite_within | split
            | (intro _ _ _) | (intro _ _) | apply within_filter | exact Or.inr rfl | exact Or.inl (bitOf hM (by decide))
            | exact sub hM (by decide) | exact sub hM (by simp only [linkState_mask, linkPeer_mask]; decide)
            | (simp only [linkState_arr, linkPeer_arr]; done) | dsimp only
  clear_value s5
  have h6 : Within mm pp s00 s6 := State.selState_within _ _ (sub hM (by decide)) (State.pr_within _ _ (sub hM (by decide)) h5)
  clear_value s6
  have h7 : Within mm pp s00 s7 := by
    unfold s7
    split
    · exact State.pairState_within _ _ (sub hM (by decide)) h6
    · exact h6
  clear_value s7
  have h8 : Within mm pp s00 s8 := State.wr_within _ _ _ _ (sub hM (by decide)) (State.setMirror_within _ _ (sub hM (by decide)) h7)
  clear_value s8
  repeat' with_reducible
    first | assumption | (refine setRing_entries_within _ _ _ rfl (.inr (sub hM (by decide))) ?_ ?_)
          | (refine setRing_erase_within _ _ _ _ rfl (.inr (sub hM (by decide))) ?_ ?_)
          | (refine setRing_drop_within _ _ _ _ rfl (.inr (sub hM (by decide))) ?_ ?_)
          | (refine setRing_empty_within _ _ _ rfl (.inr (sub hM (by decide))) ?_ ?_) | apply wr_within
          | apply drive_within | apply forPorts_within | apply holdCore_within
          | apply pairState_within | apply pr_within | apply selState_within
          | apply setMirror_within | apply warmPort_all | apply foldl_within | apply ite_within | split
          | (intro _ _ _) | (intro _ _) | apply within_filter | exact Or.inr rfl | exact Or.inl (bitOf hM (by decide))
          | exact sub hM (by decide) | exact sub hM (by simp only [linkState_mask, linkPeer_mask]; decide)
          | (simp only [linkState_arr, linkPeer_arr]; done) | dsimp only

theorem State.warmGo_within {pp : Nat} (s : State) (hM : mm ||| 0xA035E80003F40E800000820126100A8102 = mm) (hW : Within mm pp s00 s) :
    Within mm pp s00 (State.warmGo s) := by
  unfold State.warmGo
  try dsimp only
  repeat' with_reducible
    first | assumption | apply bump_within | apply flag_within | apply holdCompute_within
          | apply ite_within | split | apply within_mk | exact Or.inr rfl | exact Or.inl (bitOf hM (by decide))
          | exact sub hM (by decide) | dsimp only

theorem State.warmBegin_within {pp : Nat} (s : State) (cause : Nat) (hM : mm ||| 0xA035E80003F40E800000820126100A8182 = mm) (hW : Within mm pp s00 s) :
    Within mm pp s00 (State.warmBegin s cause) := by
  unfold State.warmBegin
  try dsimp only
  repeat' with_reducible
    first | assumption | apply wrBit_within | apply warmGo_within | exact sub hM (by decide) | dsimp only

theorem State.holdPower_within {pp : Nat} (s : State) (hM : mm ||| 0x800205E370540000000000000000000000 = mm) (hW : Within mm pp s00 s) :
    Within mm pp s00 (State.holdPower s) := by
  unfold State.holdPower
  try dsimp only
  repeat' with_reducible
    first | assumption | apply modPort_within
          | (refine setRing_entries_within _ _ _ rfl (.inr (sub hM (by decide))) ?_ ?_)
          | (refine setRing_erase_within _ _ _ _ rfl (.inr (sub hM (by decide))) ?_ ?_)
          | (refine setRing_drop_within _ _ _ _ rfl (.inr (sub hM (by decide))) ?_ ?_)
          | (refine setRing_empty_within _ _ _ rfl (.inr (sub hM (by decide))) ?_ ?_) | apply forPorts_within
          | apply foldl_within | apply ite_within | split | (intro _ _ _) | (intro _ _) | apply within_filter
          | exact Or.inr rfl | exact Or.inl (bitOf hM (by decide)) | exact sub hM (by decide) | dsimp only

theorem State.safeEntry_within {pp : Nat} (s : State) (cause : Nat) (hM : mm ||| 0xC02325E373F5FEC00180800126381681C2 = mm) (hW : Within mm pp s00 s) :
    Within mm pp s00 (State.safeEntry s cause) := by
  unfold State.safeEntry
  split
  · exact hW
  · extract_lets m s1 s2 s3 s4 s5 _p s6
    have h_s1 : Within mm pp s00 s1 := by
      unfold s1
      repeat' with_reducible
        first | assumption | apply bump_within | apply event_sys | apply flag_within
              | apply irq_within | apply wr_within | apply wrBit_within | apply forPorts_within
              | apply handoverEnds_within | apply holdCore_within | apply holdPower_within
              | apply releaseOutputs_within | apply toStandby_within | apply disable_all
              | apply present_all | apply foldl_within | apply ite_within | split | (intro _ _ _) | (intro _ _)
              | apply within_mk | exact Or.inr rfl | exact Or.inl (bitOf hM (by decide)) | exact sub hM (by decide)
              | decide | dsimp only
    clear_value s1
    have h_s2 : Within mm pp s00 s2 := by
      unfold s2
      repeat' with_reducible
        first | assumption | apply bump_within | apply event_sys | apply flag_within
              | apply irq_within | apply wr_within | apply wrBit_within | apply forPorts_within
              | apply handoverEnds_within | apply holdCore_within | apply holdPower_within
              | apply releaseOutputs_within | apply toStandby_within | apply disable_all
              | apply present_all | apply foldl_within | apply ite_within | split | (intro _ _ _) | (intro _ _)
              | apply within_mk | exact Or.inr rfl | exact Or.inl (bitOf hM (by decide)) | exact sub hM (by decide)
              | decide | dsimp only
    clear_value s2
    have h_s3 : Within mm pp s00 s3 := by
      unfold s3
      repeat' with_reducible
        first | assumption | apply bump_within | apply event_sys | apply flag_within
              | apply irq_within | apply wr_within | apply wrBit_within | apply forPorts_within
              | apply handoverEnds_within | apply holdCore_within | apply holdPower_within
              | apply releaseOutputs_within | apply toStandby_within | apply disable_all
              | apply present_all | apply foldl_within | apply ite_within | split | (intro _ _ _) | (intro _ _)
              | apply within_mk | exact Or.inr rfl | exact Or.inl (bitOf hM (by decide)) | exact sub hM (by decide)
              | decide | dsimp only
    clear_value s3
    have h_s4 : Within mm pp s00 s4 := by
      unfold s4
      repeat' with_reducible
        first | assumption | apply bump_within | apply event_sys | apply flag_within
              | apply irq_within | apply wr_within | apply wrBit_within | apply forPorts_within
              | apply handoverEnds_within | apply holdCore_within | apply holdPower_within
              | apply releaseOutputs_within | apply toStandby_within | apply disable_all
              | apply present_all | apply foldl_within | apply ite_within | split | (intro _ _ _) | (intro _ _)
              | apply within_mk | exact Or.inr rfl | exact Or.inl (bitOf hM (by decide)) | exact sub hM (by decide)
              | decide | dsimp only
    clear_value s4
    have h_s5 : Within mm pp s00 s5 := by
      unfold s5
      repeat' with_reducible
        first | assumption | apply bump_within | apply event_sys | apply flag_within
              | apply irq_within | apply wr_within | apply wrBit_within | apply forPorts_within
              | apply handoverEnds_within | apply holdCore_within | apply holdPower_within
              | apply releaseOutputs_within | apply toStandby_within | apply disable_all
              | apply present_all | apply foldl_within | apply ite_within | split | (intro _ _ _) | (intro _ _)
              | apply within_mk | exact Or.inr rfl | exact Or.inl (bitOf hM (by decide)) | exact sub hM (by decide)
              | decide | dsimp only
    clear_value s5
    have h_s6 : Within mm pp s00 s6 := by
      unfold s6
      repeat' with_reducible
        first | assumption | apply bump_within | apply event_sys | apply flag_within
              | apply irq_within | apply wr_within | apply wrBit_within | apply forPorts_within
              | apply handoverEnds_within | apply holdCore_within | apply holdPower_within
              | apply releaseOutputs_within | apply toStandby_within | apply disable_all
              | apply present_all | apply foldl_within | apply ite_within | split | (intro _ _ _) | (intro _ _)
              | apply within_mk | exact Or.inr rfl | exact Or.inl (bitOf hM (by decide)) | exact sub hM (by decide)
              | decide | dsimp only
    clear_value s6
    repeat' with_reducible
      first | assumption | apply bump_within | apply event_sys | apply flag_within
            | apply irq_within | apply wr_within | apply wrBit_within | apply forPorts_within
            | apply handoverEnds_within | apply holdCore_within | apply holdPower_within
            | apply releaseOutputs_within | apply toStandby_within | apply disable_all
            | apply present_all | apply foldl_within | apply ite_within | split | (intro _ _ _) | (intro _ _)
            | apply within_mk | exact Or.inr rfl | exact Or.inl (bitOf hM (by decide)) | exact sub hM (by decide)
            | decide | dsimp only

theorem State.startMarl_within {pp : Nat} (s : State) (e : Fin 2) (hM : mm ||| 0x2080000000000000 = mm) (hW : Within mm pp s00 s) :
    Within mm pp s00 (State.startMarl s e) := by
  unfold State.startMarl
  try dsimp only
  repeat' with_reducible
    first | assumption | apply wr_within | apply ite_within | split | exact sub hM (by decide)
          | exact sub hM (by simp only [engState_mask]; decide) | (simp only [engState_arr]; done) | dsimp only

theorem State.startMarls_within {pp : Nat} (s : State) (hM : mm ||| 0x102000002080000000000000 = mm) (hW : Within mm pp s00 s) :
    Within mm pp s00 (State.startMarls s) := by
  unfold State.startMarls
  try dsimp only
  repeat' with_reducible
    first | assumption | apply setCarriers_within | apply startMarl_within | apply ite_within | split
          | exact sub hM (by decide) | dsimp only

theorem State.safeLeave_within {pp : Nat} (s : State) (hM : mm ||| 0xC00120040075B4C00020980904381400C2 = mm) (hW : Within mm pp s00 s) :
    Within mm pp s00 (State.safeLeave s) := by
  unfold State.safeLeave
  try dsimp only
  repeat' with_reducible
    first | assumption | apply event_sys | apply flag_within | apply irq_within
          | apply wr_within | apply autoEnable_within | apply loadTables_within
          | apply restoreMark_within | apply restoreRetired_within | apply startMarls_within
          | apply foldl_within | apply ite_within | split | (intro _ _ _) | (intro _ _) | apply within_mk
          | exact Or.inr rfl | exact Or.inl (bitOf hM (by decide)) | exact sub hM (by decide) | decide | dsimp only

theorem State.safeExit_within {pp : Nat} (s : State) (hM : mm ||| 0xC00120040075B4C00020980904381400C2 = mm) (hW : Within mm pp s00 s) :
    Within mm pp s00 (State.safeExit s) := by
  unfold State.safeExit
  try dsimp only
  repeat' with_reducible
    first | assumption | apply errF_within | apply safeLeave_within | apply ite_within | split
          | exact sub hM (by decide) | dsimp only

theorem State.supervised_within {pp : Nat} (s : State) (cause : Nat) (hM : mm ||| 0xE037EDE373F5FEC00180820126381E81C2 = mm) (hW : Within mm pp s00 s) :
    Within mm pp s00 (State.supervised s cause) := by
  unfold State.supervised
  try dsimp only
  repeat' with_reducible
    first | assumption | apply safeEntry_within | apply warmBegin_within | apply ite_within | split
          | (intro _ _ _) | (intro _ _) | apply within_mk | exact Or.inr rfl | exact Or.inl (bitOf hM (by decide))
          | exact sub hM (by decide) | dsimp only

theorem State.coldReset_within {pp : Nat} (s : State) (cause : Nat) (hM : mm ||| 0x3FFFFFFFFFFFFFFFFFFFFFFFFFFFFFFFFFF = mm) (hW : Within mm pp s00 s) :
    Within mm pp s00 (s.coldReset cause) := by
  unfold State.coldReset
  refine State.wr_within _ _ _ _ (sub hM (by decide)) ?_
  refine ⟨fun _ => List.Pairwise.nil, fun _ q _ => ?_, hW.queue, fun k d h => ?_, fun q h _ => ?_, fun a => Bool.noConfusion (a.symm.trans (bitOf hM (by decide))), fun a => Bool.noConfusion (a.symm.trans (bitOf hM (by decide))), fun a => Bool.noConfusion (a.symm.trans (bitOf hM (by decide))), fun a => Bool.noConfusion (a.symm.trans (bitOf hM (by decide))), fun a => Bool.noConfusion (a.symm.trans (bitOf hM (by decide))), fun a => Bool.noConfusion (a.symm.trans (bitOf hM (by decide))), fun a => Bool.noConfusion (a.symm.trans (bitOf hM (by decide))), fun a => Bool.noConfusion (a.symm.trans (bitOf hM (by decide))), fun a => Bool.noConfusion (a.symm.trans (bitOf hM (by decide))), fun a => Bool.noConfusion (a.symm.trans (bitOf hM (by decide))), fun a => Bool.noConfusion (a.symm.trans (bitOf hM (by decide))), fun a => Bool.noConfusion (a.symm.trans (bitOf hM (by decide))), fun a => Bool.noConfusion (a.symm.trans (bitOf hM (by decide))), fun a => Bool.noConfusion (a.symm.trans (bitOf hM (by decide))), fun a => Bool.noConfusion (a.symm.trans (bitOf hM (by decide))), fun a => Bool.noConfusion (a.symm.trans (bitOf hM (by decide))), fun a => Bool.noConfusion (a.symm.trans (bitOf hM (by decide))), fun a => Bool.noConfusion (a.symm.trans (bitOf hM (by decide))), fun a => Bool.noConfusion (a.symm.trans (bitOf hM (by decide))), fun a => Bool.noConfusion (a.symm.trans (bitOf hM (by decide))), fun a => Bool.noConfusion (a.symm.trans (bitOf hM (by decide))), fun a => Bool.noConfusion (a.symm.trans (bitOf hM (by decide))), fun a => Bool.noConfusion (a.symm.trans (bitOf hM (by decide))), fun a => Bool.noConfusion (a.symm.trans (bitOf hM (by decide))), fun a => Bool.noConfusion (a.symm.trans (bitOf hM (by decide))), fun a => Bool.noConfusion (a.symm.trans (bitOf hM (by decide))), fun a => Bool.noConfusion (a.symm.trans (bitOf hM (by decide))), fun a => Bool.noConfusion (a.symm.trans (bitOf hM (by decide))), fun a => Bool.noConfusion (a.symm.trans (bitOf hM (by decide))), fun a => Bool.noConfusion (a.symm.trans (bitOf hM (by decide))), fun a => Bool.noConfusion (a.symm.trans (bitOf hM (by decide))), fun a => Bool.noConfusion (a.symm.trans (bitOf hM (by decide))), fun a => Bool.noConfusion (a.symm.trans (bitOf hM (by decide))), fun a => Bool.noConfusion (a.symm.trans (bitOf hM (by decide))), fun a => Bool.noConfusion (a.symm.trans (bitOf hM (by decide))), fun a => Bool.noConfusion (a.symm.trans (bitOf hM (by decide))), fun a => Bool.noConfusion (a.symm.trans (bitOf hM (by decide))), fun a => Bool.noConfusion (a.symm.trans (bitOf hM (by decide))), fun a => Bool.noConfusion (a.symm.trans (bitOf hM (by decide))), fun a => Bool.noConfusion (a.symm.trans (bitOf hM (by decide))), fun a => Bool.noConfusion (a.symm.trans (bitOf hM (by decide))), fun a => Bool.noConfusion (a.symm.trans (bitOf hM (by decide))), fun a => Bool.noConfusion (a.symm.trans (bitOf hM (by decide))), fun a => Bool.noConfusion (a.symm.trans (bitOf hM (by decide))), fun a _ _ => Bool.noConfusion (a.symm.trans (bitOf hM (by decide)))⟩
  · unfold State.ring
    show ((Vector.replicate 40 RingSt.reset).get q).occ ≤ _
    simp [Vector.get_eq_getElem, RingSt.reset, RingSt.occ]
  · unfold touch at h; rw [bitOf (n := 90) hM (by decide)] at h; simp at h
  · rw [bitOf (n := 92) hM (by decide)] at h; cases h

theorem State.sampleStraps_within {pp : Nat} (s : State) (boot saddr : BitVec 2) (hM : mm ||| 0x2002000 = mm) (hW : Within mm pp s00 s) :
    Within mm pp s00 (State.sampleStraps s boot saddr) := by
  unfold State.sampleStraps
  try dsimp only
  repeat' with_reducible
    first | assumption | apply wr_within | exact sub hM (by decide) | dsimp only

theorem State.locked_within {pp : Nat} (s : State) (hM : mm ||| 0x10 = mm) (hW : Within mm pp s00 s) :
    Within mm pp s00 (State.locked s) := by
  unfold State.locked
  try dsimp only
  repeat' with_reducible
    first | assumption | apply flag_within | exact sub hM (by decide) | dsimp only

/-! ## Machine/Ledger.lean -/

theorem State.askBattery_within (s : State) (p : Port) (hM : mm ||| 0x180000E80000000000000000 = mm) (hW : Within mm p s00 s) :
    Within mm p s00 (State.askBattery s p) := by
  unfold State.askBattery
  try dsimp only
  repeat' with_reducible
    first | assumption | apply pe_within | apply sendAms_within | apply sess_within | split
          | (intro _ _ _) | (intro _ _) | exact sub hM (by decide) | dsimp only

theorem State.askBattery_all {pp : Nat} (s : State) (p : Port) (hM : mm ||| 0x100E80000000000000000000 = mm) (hW : Within mm pp s00 s) :
    Within mm pp s00 (State.askBattery s p) := by
  unfold State.askBattery
  try dsimp only
  repeat' with_reducible
    first | assumption | apply pe_all | apply sendAms_all | apply sess_all | split | (intro _ _ _)
          | (intro _ _) | exact sub hM (by decide) | dsimp only

theorem State.idAnswered_within (s : State) (p : Port) (m : PdMsg) (hM : mm ||| 0x80000480000000000000000 = mm) (hW : Within mm p s00 s) :
    Within mm p s00 (State.idAnswered s p m) := by
  unfold State.idAnswered
  try dsimp only
  repeat' with_reducible
    first | assumption | apply amsEnd_within | apply pe_within | apply take_within | split
          | (intro _ _ _) | (intro _ _) | exact sub hM (by decide) | dsimp only

theorem State.idAnswered_all {pp : Nat} (s : State) (p : Port) (m : PdMsg) (hM : mm ||| 0x100480000000000000000000 = mm) (hW : Within mm pp s00 s) :
    Within mm pp s00 (State.idAnswered s p m) := by
  unfold State.idAnswered
  try dsimp only
  repeat' with_reducible
    first | assumption | apply amsEnd_all | apply pe_all | apply take_all | split | (intro _ _ _)
          | (intro _ _) | exact sub hM (by decide) | dsimp only

theorem State.idThird_within (s : State) (p : Port) (hM : mm ||| 0x300000580002E80000007000140000 = mm) (hW : Within mm p s00 s) :
    Within mm p s00 (State.idThird s p) := by
  unfold State.idThird
  try dsimp only
  repeat' with_reducible
    first | assumption | apply formKey_within | apply pe_within | apply sendAms_within
          | apply sess_within | apply ite_within | split | (intro _ _ _) | (intro _ _)
          | exact sub hM (by decide) | dsimp only

theorem State.idThird_all {pp : Nat} (s : State) (p : Port) (hM : mm ||| 0x300000502E80000000007000140000 = mm) (hW : Within mm pp s00 s) :
    Within mm pp s00 (State.idThird s p) := by
  unfold State.idThird
  try dsimp only
  repeat' with_reducible
    first | assumption | apply formKey_all | apply pe_all | apply sendAms_all | apply sess_all
          | apply ite_within | split | (intro _ _ _) | (intro _ _) | exact sub hM (by decide) | dsimp only

theorem State.idSecond_within (s : State) (p : Port) (hM : mm ||| 0x300000580002E80000007000140000 = mm) (hW : Within mm p s00 s) :
    Within mm p s00 (State.idSecond s p) := by
  unfold State.idSecond
  try dsimp only
  repeat' with_reducible
    first | assumption | apply idThird_within | apply pe_within | apply sendAms_within
          | apply sess_within | apply ite_within | split | (intro _ _ _) | (intro _ _)
          | exact sub hM (by decide) | dsimp only

theorem State.idSecond_all {pp : Nat} (s : State) (p : Port) (hM : mm ||| 0x300000502E80000000007000140000 = mm) (hW : Within mm pp s00 s) :
    Within mm pp s00 (State.idSecond s p) := by
  unfold State.idSecond
  try dsimp only
  repeat' with_reducible
    first | assumption | apply idThird_all | apply pe_all | apply sendAms_all | apply sess_all
          | apply ite_within | split | (intro _ _ _) | (intro _ _) | exact sub hM (by decide) | dsimp only

theorem State.battReply_within (s : State) (p : Port) (c : Nat) (hM : mm ||| 0x300000180000000000002000000000 = mm) (hW : Within mm p s00 s) :
    Within mm p s00 (State.battReply s p c) := by
  unfold State.battReply
  try dsimp only
  repeat' with_reducible
    first | assumption | apply modRecord_within | apply sess_within | apply sess_all
          | apply ite_within | apply getD_within | split | (intro _ _ _) | (intro _ _) | exact sub hM (by decide)
          | dsimp only

theorem State.battReply_all {pp : Nat} (s : State) (p : Port) (c : Nat) (hM : mm ||| 0x300000100000000000002000000000 = mm) (hW : Within mm pp s00 s) :
    Within mm pp s00 (State.battReply s p c) := by
  unfold State.battReply
  try dsimp only
  repeat' with_reducible
    first | assumption | apply modRecord_within | apply sess_all | apply ite_within | apply getD_within
          | split | (intro _ _ _) | (intro _ _) | exact sub hM (by decide) | dsimp only

theorem execIdentityGathering_within (p : Port) (e : IdEvent) (s : State) :
    ∀ u, execIdentityGathering p e s = .next u → Within 0x300000580002E80000007000140000 p s u := by
  intro u hu
  cases hu
  have hM : 0x300000580002E80000007000140000 ||| 0x300000580002E80000007000140000 = 0x300000580002E80000007000140000 := rfl
  have hW := Within.refl 0x300000580002E80000007000140000 p s
  try dsimp only
  repeat' with_reducible
    first | assumption | apply askBattery_within | apply battReply_within | apply formKey_within
          | apply idAnswered_within | apply idSecond_within | apply idThird_within
          | apply pe_within | apply sendAms_within | apply sess_within | apply ite_within
          | apply getD_within | split | (intro _ _ _) | (intro _ _) | exact sub hM (by decide) | dsimp only

theorem execBatteryStatusRefresh_within (p : Port) (s : State) :
    ∀ u, execBatteryStatusRefresh p s = .next u → Within 0x180000E80000000000000000 p s u := by
  intro u hu
  cases hu
  have hM : 0x180000E80000000000000000 ||| 0x180000E80000000000000000 = 0x180000E80000000000000000 := rfl
  have hW := Within.refl 0x180000E80000000000000000 p s
  try dsimp only
  repeat' with_reducible
    first | assumption | apply askBattery_within | apply ite_within | split | exact sub hM (by decide)
          | dsimp only

theorem execSessionClose_within (p : Port) (s : State) :
    ∀ u, execSessionClose p s = .next u → Within 0x300000580000000000007000140000 p s u := by
  intro u hu
  cases hu
  have hM : 0x300000580000000000007000140000 ||| 0x300000580000000000007000140000 = 0x300000580000000000007000140000 := rfl
  have hW := Within.refl 0x300000580000000000007000140000 p s
  try dsimp only
  repeat' with_reducible
    first | assumption | apply closeSession_within | apply sess_all | apply ite_within | split
          | (intro _ _ _) | (intro _ _) | exact sub hM (by decide) | dsimp only

theorem State.authEnds_within (s : State) (p : Port) (st : Nat) (hM : mm ||| 0x300000480000000000007000140000 = mm) (hW : Within mm p s00 s) :
    Within mm p s00 (State.authEnds s p st) := by
  unfold State.authEnds
  try dsimp only
  repeat' with_reducible
    first | assumption | apply wr_own | apply bump_within | apply eventSev_sys
          | apply irq_within | apply gradeRecord_within | apply sess_within | apply ite_within
          | apply getD_within | split | (intro _ _ _) | (intro _ _) | exact sub hM (by decide) | decide | dsimp only

theorem State.authEnds_all {pp : Nat} (s : State) (p : Port) (st : Nat) (hM : mm ||| 0x300000500000000000007000140000 = mm) (hW : Within mm pp s00 s) :
    Within mm pp s00 (State.authEnds s p st) := by
  unfold State.authEnds
  try dsimp only
  repeat' with_reducible
    first | assumption | apply bump_within | apply eventSev_sys | apply irq_within
          | apply wr_within | apply gradeRecord_within | apply sess_all | apply ite_within
          | apply getD_within | split | (intro _ _ _) | (intro _ _) | exact sub hM (by decide) | decide | dsimp only

theorem State.authAsk_within (s : State) (p : Port) (step : Nat) (again : Bool) (hM : mm ||| 0x180000E80000000000000000 = mm) (hW : Within mm p s00 s) :
    Within mm p s00 (State.authAsk s p step again) := by
  unfold State.authAsk
  try dsimp only
  repeat' with_reducible
    first | assumption | apply pe_within | apply sendAms_within | apply sess_within
          | apply sess_all | apply ite_within | split | (intro _ _ _) | (intro _ _) | exact sub hM (by decide)
          | dsimp only

theorem State.authAsk_all {pp : Nat} (s : State) (p : Port) (step : Nat) (again : Bool) (hM : mm ||| 0x100E80000000000000000000 = mm) (hW : Within mm pp s00 s) :
    Within mm pp s00 (State.authAsk s p step again) := by
  unfold State.authAsk
  try dsimp only
  repeat' with_reducible
    first | assumption | apply pe_all | apply sendAms_all | apply sess_all | apply ite_within
          | split | (intro _ _ _) | (intro _ _) | exact sub hM (by decide) | dsimp only

theorem State.authChallenge_within (s : State) (p : Port) (hM : mm ||| 0x4000000000180000E80000000000000000 = mm) (hW : Within mm p s00 s) :
    Within mm p s00 (State.authChallenge s p) := by
  unfold State.authChallenge
  try dsimp only
  repeat' with_reducible
    first | assumption | apply authAsk_within | apply fresh_within1
          | (refine State.fresh_within ?_ ?_ ‹_›) | apply sess_within | split | (intro _ _ _) | (intro _ _)
          | exact sub hM (by decide) | dsimp only

theorem State.authChallenge_all {pp : Nat} (s : State) (p : Port) (hM : mm ||| 0x4000000000100E80000000000000000000 = mm) (hW : Within mm pp s00 s) :
    Within mm pp s00 (State.authChallenge s p) := by
  unfold State.authChallenge
  try dsimp only
  repeat' with_reducible
    first | assumption | apply fresh_within1 | (refine State.fresh_within ?_ ?_ ‹_›) | apply authAsk_all
          | apply sess_all | split | (intro _ _ _) | (intro _ _) | exact sub hM (by decide) | dsimp only

theorem execAuthentication_within (p : Port) (e : AuthEvent) (s : State) :
    ∀ u, execAuthentication p e s = .next u → Within 0x4000300000580000E80000007000140000 p s u := by
  intro u hu
  cases hu
  have hM : 0x4000300000580000E80000007000140000 ||| 0x4000300000580000E80000007000140000 = 0x4000300000580000E80000007000140000 := rfl
  have hW := Within.refl 0x4000300000580000E80000007000140000 p s
  try dsimp only
  repeat' with_reducible
    first | assumption | apply wr_own | apply amsEnd_within | apply authAsk_within
          | apply authChallenge_within | apply authEnds_within | apply modRecord_within
          | apply pe_within | apply sess_within | apply take_within | apply take_all
          | apply ite_within | apply getD_within | split | (intro _ _ _) | (intro _ _) | exact sub hM (by decide)
          | decide | dsimp only

theorem State.ledgerFlash_within {pp : Nat} (s : State) (reason : Nat) (hM : mm ||| 0x400000000000001000140000 = mm) (hW : Within mm pp s00 s) :
    Within mm pp s00 (State.ledgerFlash s reason) := by
  unfold State.ledgerFlash
  try dsimp only
  repeat' with_reducible
    first | assumption | apply event_sys | apply irq_within | exact sub hM (by decide) | decide
          | dsimp only

theorem State.journal_within {pp : Nat} (s : State) (slot : Nat) (hM : mm ||| 0x100000100000000000004000000000 = mm) (hW : Within mm pp s00 s) :
    Within mm pp s00 (State.journal s slot) := by
  unfold State.journal
  try dsimp only
  repeat' with_reducible
    first | assumption | apply bump_within | apply forPorts_within | apply sess_all
          | apply ite_within | split | (intro _ _ _) | (intro _ _) | apply within_mk | exact Or.inr rfl
          | exact Or.inl (bitOf hM (by decide)) | exact sub hM (by decide) | dsimp only

theorem execLedgerJournal_within (pp : Nat) (slot : Fin 8192) (ok : Bool) (s : State) :
    ∀ u, execLedgerJournal slot ok s = .next u → Within 0x100000500000000000005000140000 pp s u := by
  intro u hu
  cases hu
  have hM : 0x100000500000000000005000140000 ||| 0x100000500000000000005000140000 = 0x100000500000000000005000140000 := rfl
  have hW := Within.refl 0x100000500000000000005000140000 pp s
  try dsimp only
  repeat' with_reducible
    first | assumption | apply journal_within | apply ledgerFlash_within | apply ite_within | split
          | exact sub hM (by decide) | dsimp only

theorem execLedgerCompaction_within (pp : Nat) (done : Bool) (s : State) :
    ∀ u, execLedgerCompaction done s = .next u → Within 0x100000100000000000006000000000 pp s u := by
  intro u hu
  cases hu
  have hM : 0x100000100000000000006000000000 ||| 0x100000100000000000006000000000 = 0x100000100000000000006000000000 := rfl
  have hW := Within.refl 0x100000100000000000006000000000 pp s
  try dsimp only
  repeat' with_reducible
    first | assumption | apply bump_within | apply flag_within | apply journal_within
          | apply ite_within | split | apply within_mk | exact Or.inr rfl | exact Or.inl (bitOf hM (by decide))
          | exact sub hM (by decide) | dsimp only

theorem State.replay_within {pp : Nat} (base : Option Nat) (s : State) (e : Nat × Nat × Option LedRec × Bool) (hM : mm ||| 0x100000400000000000007000140000 = mm) (hW : Within mm pp s00 s) :
    Within mm pp s00 (State.replay base s e) := by
  unfold State.replay
  try dsimp only
  repeat' with_reducible
    first | assumption | apply bump_within | apply wr_within | apply ledgerFlash_within
          | apply ite_within | split | (intro _ _ _) | (intro _ _) | apply within_mk | exact Or.inr rfl
          | exact Or.inl (bitOf hM (by decide)) | exact sub hM (by decide) | dsimp only

theorem State.ledgerLoad_within {pp : Nat} (s : State) (hM : mm ||| 0x100000500000000000007000140000 = mm) (hW : Within mm pp s00 s) :
    Within mm pp s00 (State.ledgerLoad s) := by
  unfold State.ledgerLoad
  try dsimp only
  repeat' with_reducible
    first | assumption | apply flag_within | apply wr_within | apply journal_within
          | apply ledgerFlash_within | apply replay_within | apply showUsed_within
          | apply foldl_within | split | (intro _ _ _) | (intro _ _) | apply within_mk | exact Or.inr rfl
          | exact Or.inl (bitOf hM (by decide)) | exact sub hM (by decide) | dsimp only

theorem State.cmdLedgerRead_within {pp : Nat} (s : State) (k : Packet) (hM : mm ||| 0xC001000000400000000000000038140000 = mm) (hW : Within mm pp s00 s) :
    Within mm pp s00 (State.cmdLedgerRead s k) := by
  unfold State.cmdLedgerRead
  try dsimp only
  repeat' with_reducible
    first | assumption | apply formed_within | apply respond_within | split | (intro _ _ _) | (intro _ _)
          | exact sub hM (by decide) | dsimp only

theorem execLedgerRead_within (pp : Nat) (k : Packet) (s : State) :
    ∀ u, execLedgerRead k s = .next u → Within 0xC001000000400000000000000038140000 pp s u := by
  intro u hu
  cases hu
  have hM : 0xC001000000400000000000000038140000 ||| 0xC001000000400000000000000038140000 = 0xC001000000400000000000000038140000 := rfl
  have hW := Within.refl 0xC001000000400000000000000038140000 pp s
  try dsimp only
  repeat' with_reducible
    first | assumption | apply cmdLedgerRead_within | apply serve_within | (intro _ _ _) | (intro _ _)
          | exact sub hM (by decide) | dsimp only

theorem State.cmdLedgerFind_within {pp : Nat} (s : State) (k : Packet) (hM : mm ||| 0xC001000000500000000000000038140000 = mm) (hW : Within mm pp s00 s) :
    Within mm pp s00 (State.cmdLedgerFind s k) := by
  unfold State.cmdLedgerFind
  try dsimp only
  repeat' with_reducible
    first | assumption | apply formed_within | apply offStandby_within | apply respondArg_within
          | apply sess_all | apply ite_within | apply getD_within | split | (intro _ _ _) | (intro _ _)
          | exact sub hM (by decide) | dsimp only

theorem execLedgerFind_within (pp : Nat) (k : Packet) (s : State) :
    ∀ u, execLedgerFind k s = .next u → Within 0xC001000000500000000000000038140000 pp s u := by
  intro u hu
  cases hu
  have hM : 0xC001000000500000000000000038140000 ||| 0xC001000000500000000000000038140000 = 0xC001000000500000000000000038140000 := rfl
  have hW := Within.refl 0xC001000000500000000000000038140000 pp s
  try dsimp only
  repeat' with_reducible
    first | assumption | apply cmdLedgerFind_within | apply serve_within | (intro _ _ _) | (intro _ _)
          | exact sub hM (by decide) | dsimp only

theorem State.cmdLedgerWriteUser_within {pp : Nat} (s : State) (k : Packet) (hM : mm ||| 0xC001300000400000000000002038140000 = mm) (hW : Within mm pp s00 s) :
    Within mm pp s00 (State.cmdLedgerWriteUser s k) := by
  unfold State.cmdLedgerWriteUser
  try dsimp only
  repeat' with_reducible
    first | assumption | apply answer_within | apply formed_within | apply journalDue_within
          | apply offStandby_within | apply putRecord_within | apply ite_within | split | (intro _ _ _)
          | (intro _ _) | exact sub hM (by decide) | dsimp only

theorem execLedgerWriteUser_within (pp : Nat) (k : Packet) (s : State) :
    ∀ u, execLedgerWriteUser k s = .next u → Within 0xC001300000400000000000002038140000 pp s u := by
  intro u hu
  cases hu
  have hM : 0xC001300000400000000000002038140000 ||| 0xC001300000400000000000002038140000 = 0xC001300000400000000000002038140000 := rfl
  have hW := Within.refl 0xC001300000400000000000002038140000 pp s
  try dsimp only
  repeat' with_reducible
    first | assumption | apply cmdLedgerWriteUser_within | apply serve_within | (intro _ _ _)
          | (intro _ _) | exact sub hM (by decide) | dsimp only

theorem State.cmdLedgerExport_within {pp : Nat} (s : State) (k : Packet) (hM : mm ||| 0xC001000000500000000000002038140000 = mm) (hW : Within mm pp s00 s) :
    Within mm pp s00 (State.cmdLedgerExport s k) := by
  unfold State.cmdLedgerExport
  try dsimp only
  repeat' with_reducible
    first | assumption | apply wr_within | apply formed_within | apply offStandby_within
          | apply respondArg_within | apply take_all | apply ite_within | split | (intro _ _ _)
          | (intro _ _) | exact sub hM (by decide) | dsimp only

theorem execLedgerExport_within (pp : Nat) (k : Packet) (s : State) :
    ∀ u, execLedgerExport k s = .next u → Within 0xC001000000500000000000002038140000 pp s u := by
  intro u hu
  cases hu
  have hM : 0xC001000000500000000000002038140000 ||| 0xC001000000500000000000002038140000 = 0xC001000000500000000000002038140000 := rfl
  have hW := Within.refl 0xC001000000500000000000002038140000 pp s
  try dsimp only
  repeat' with_reducible
    first | assumption | apply cmdLedgerExport_within | apply serve_within | (intro _ _ _) | (intro _ _)
          | exact sub hM (by decide) | dsimp only

theorem State.cmdLedgerPurge_within {pp : Nat} (s : State) (k : Packet) (hM : mm ||| 0xC001300000400000000000002038140000 = mm) (hW : Within mm pp s00 s) :
    Within mm pp s00 (State.cmdLedgerPurge s k) := by
  unfold State.cmdLedgerPurge
  try dsimp only
  repeat' with_reducible
    first | assumption | apply answer_within | apply dropRecord_within | apply formed_within
          | apply offStandby_within | apply respondArg_within | apply foldl_within | apply ite_within
          | split | (intro _ _ _) | (intro _ _) | exact sub hM (by decide) | dsimp only

theorem execLedgerPurge_within (pp : Nat) (k : Packet) (s : State) :
    ∀ u, execLedgerPurge k s = .next u → Within 0xC001300000400000000000002038140000 pp s u := by
  intro u hu
  cases hu
  have hM : 0xC001300000400000000000002038140000 ||| 0xC001300000400000000000002038140000 = 0xC001300000400000000000002038140000 := rfl
  have hW := Within.refl 0xC001300000400000000000002038140000 pp s
  try dsimp only
  repeat' with_reducible
    first | assumption | apply cmdLedgerPurge_within | apply serve_within | (intro _ _ _) | (intro _ _)
          | exact sub hM (by decide) | dsimp only

/-! ## Machine/RegWrite.lean -/

theorem State.feedEnable_within {pp : Nat} (s : State) (f : Feed) (v : Bool) (hM : mm ||| 0x100000000000000610000000000 = mm) (hW : Within mm pp s00 s) :
    Within mm pp s00 (State.feedEnable s f v) := by
  unfold State.feedEnable
  try dsimp only
  repeat' with_reducible
    first | assumption | apply flag_within | apply restFeed_within | apply select_within
          | apply unforce_within | apply ite_within | split | exact sub hM (by decide)
          | exact sub hM (by simp only [enField_mask]; decide) | (simp only [enField_arr]; done) | dsimp only

theorem State.overrideField_within (s : State) (p : Port) (F : Field) (v : Nat) (hM : mm ||| 0x80000000000000000000000 = mm) (hW : Within mm p s00 s) :
    Within mm p s00 (State.overrideField s p F v) := by
  unfold State.overrideField
  try dsimp only
  repeat' with_reducible
    first | assumption | apply modPort_own | apply ite_within | split | (intro _ _ _) | (intro _ _)
          | exact sub hM (by decide) | decide | dsimp only

theorem State.overrideField_all {pp : Nat} (s : State) (p : Port) (F : Field) (v : Nat) (hM : mm ||| 0x100000000000000000000000 = mm) (hW : Within mm pp s00 s) :
    Within mm pp s00 (State.overrideField s p F v) := by
  unfold State.overrideField
  try dsimp only
  repeat' with_reducible
    first | assumption | apply modPort_within | apply ite_within | split | (intro _ _ _) | (intro _ _)
          | exact sub hM (by decide) | dsimp only

theorem State.writeField_within {pp : Nat} (s : State) (F : Field) (i v : Nat) (hM : mm ||| 0xC003200100553E800100006180F8140000 = mm) (hW : Within mm pp s00 s) :
    Within mm pp s00 (State.writeField s F i v) := by
  unfold State.writeField
  try dsimp only
  repeat' with_reducible
    first | assumption | apply flag_within | apply wr_any | apply wr_within
          | apply feedEnable_within | apply feedForce_within | apply linkEnabled_within
          | apply timeRole_within | apply loop_all | apply modeWrite_all
          | apply overrideField_all | apply rateNow_all | apply roleWritten_all
          | apply rpSel_all | apply seedRext_all | apply setPeriod_all | apply setPhase_all
          | apply track_all | apply vconnAllow_all | apply vconnForce_all | apply ite_within | split
          | (intro _ _ _) | (intro _ _) | exact sub hM (by decide) | dsimp only

theorem State.stageRsv_within {pp : Nat} (s : State) (pg inst off v : Nat) (hM : mm ||| 0x100100000000000000000000000 = mm) (hW : Within mm pp s00 s) :
    Within mm pp s00 (State.stageRsv s pg inst off v) := by
  unfold State.stageRsv
  try dsimp only
  repeat' with_reducible
    first | assumption | apply modPort_within | apply ite_within | split | (intro _ _ _) | (intro _ _)
          | apply within_mk | exact Or.inr rfl | exact Or.inl (bitOf hM (by decide)) | exact sub hM (by decide)
          | dsimp only

theorem State.writeFields_within {pp : Nat} (s : State) (pg inst off v : Nat) (hM : mm ||| 0xC003200100553E800100006180F8140000 = mm) (hW : Within mm pp s00 s) :
    Within mm pp s00 (State.writeFields s pg inst off v) := by
  unfold State.writeFields
  try dsimp only
  repeat' with_reducible
    first | assumption | apply stageRsv_within | apply writeField_within | apply foldl_within
          | apply ite_within | split | (intro _ _ _) | (intro _ _) | exact sub hM (by decide) | dsimp only

theorem State.clearFields_within {pp : Nat} (s : State) (pg inst off v : Nat) (hM : mm ||| 0x400000040080000000000000000000 = mm) (hW : Within mm pp s00 s) :
    Within mm pp s00 (State.clearFields s pg inst off v) := by
  unfold State.clearFields
  try dsimp only
  repeat' with_reducible
    first | assumption | apply wr_any | apply openLevels_all | apply foldl_within | apply ite_within
          | split | (intro _ _ _) | (intro _ _) | apply within_mk | exact Or.inr rfl
          | exact Or.inl (bitOf hM (by decide)) | exact sub hM (by decide) | dsimp only

theorem State.mbxClear_within {pp : Nat} (s : State) (off v : Nat) (hM : mm ||| 0x2800000000000000000000000 = mm) (hW : Within mm pp s00 s) :
    Within mm pp s00 (State.mbxClear s off v) := by
  unfold State.mbxClear
  try dsimp only
  repeat' with_reducible
    first | assumption | apply foldl_within | apply ite_within | split | (intro _ _ _) | (intro _ _) | apply within_mk
          | exact Or.inr rfl | exact Or.inl (bitOf hM (by decide)) | exact sub hM (by decide) | dsimp only

theorem State.testStart_within {pp : Nat} (s : State) (k : Nat) (hM : mm ||| 0x100003900000002087004000028000 = mm) (hW : Within mm pp s00 s) :
    Within mm pp s00 (State.testStart s k) := by
  unfold State.testStart
  try dsimp only
  repeat' with_reducible
    first | assumption | apply bump_within | apply errF_within | apply wr_within
          | apply journal_within | apply resetBoxes_within | apply foldl_within | apply ite_within | split
          | (intro _ _ _) | (intro _ _) | exact sub hM (by decide) | dsimp only

theorem State.testRestart_within {pp : Nat} (s : State) (hM : mm ||| 0x512000002098000000140000 = mm) (hW : Within mm pp s00 s) :
    Within mm pp s00 (State.testRestart s) := by
  unfold State.testRestart
  try dsimp only
  repeat' with_reducible
    first | assumption | apply wr_within | apply loadTables_within | apply startMarls_within
          | apply foldl_within | apply ite_within | split | (intro _ _ _) | (intro _ _) | exact sub hM (by decide)
          | dsimp only

theorem State.testEnds_within {pp : Nat} (s : State) (status : Nat) (hM : mm ||| 0x51200000209B000000140000 = mm) (hW : Within mm pp s00 s) :
    Within mm pp s00 (State.testEnds s status) := by
  unfold State.testEnds
  try dsimp only
  repeat' with_reducible
    first | assumption | apply eventSev_sys | apply irq_within | apply wr_within
          | apply testRestart_within | apply ite_within | split | exact sub hM (by decide) | decide | dsimp only

theorem State.testAbort_within {pp : Nat} (s : State) (hM : mm ||| 0x51200000209B000000140000 = mm) (hW : Within mm pp s00 s) :
    Within mm pp s00 (State.testAbort s) := by
  unfold State.testAbort
  try dsimp only
  repeat' with_reducible
    first | assumption | apply testEnds_within | apply ite_within | split | exact sub hM (by decide)
          | dsimp only

theorem State.setAsm_within {pp : Nat} (s : State) (a : Option SmbAsm) (hM : mm ||| 0x800000000000000000000002000000 = mm) (hW : Within mm pp s00 s) :
    Within mm pp s00 (State.setAsm s a) := by
  unfold State.setAsm
  try dsimp only
  repeat' with_reducible
    first | assumption | apply flag_within | apply wr_within | split | apply within_mk | exact Or.inr rfl
          | exact Or.inl (bitOf hM (by decide)) | exact sub hM (by decide) | dsimp only

theorem State.dropAsm_within {pp : Nat} (s : State) (hM : mm ||| 0x800000000000000000000006000000 = mm) (hW : Within mm pp s00 s) :
    Within mm pp s00 (State.dropAsm s) := by
  unfold State.dropAsm
  try dsimp only
  repeat' with_reducible
    first | assumption | apply bump_within | apply setAsm_within | apply ite_within | split
          | exact sub hM (by decide) | dsimp only

theorem State.rstCtl_within {pp : Nat} (s : State) (v : Nat) (hM : mm ||| 0xE037EDE773F5FEC001A09A0926381E81C2 = mm) (hW : Within mm pp s00 s) :
    Within mm pp s00 (State.rstCtl s v) := by
  unfold State.rstCtl
  try dsimp only
  repeat' with_reducible
    first | assumption | apply errF_within | apply safeEntry_within | apply safeExit_within
          | apply warmBegin_within | apply ite_within | split | exact sub hM (by decide) | dsimp only

theorem State.commandFields_within {pp : Nat} (s : State) (pg inst off v : Nat) (hM : mm ||| 0xE137FDE773F5FEC001A09F09E67E1E81C2 = mm) (hW : Within mm pp s00 s) :
    Within mm pp s00 (State.commandFields s pg inst off v) := by
  unfold State.commandFields
  try dsimp only
  repeat' with_reducible
    first | assumption | apply dropAsm_within | apply feedClear_within | apply feedCommit_within
          | apply rstCtl_within | apply snapRequest_within | apply testStart_within
          | apply commitCurve_all | apply pdCtl_all | apply sendCableReset_all
          | apply sendHardReset_all | apply sendSoftReset_all | apply ite_within | split | apply within_mk
          | exact Or.inr rfl | exact Or.inl (bitOf hM (by decide)) | exact sub hM (by decide) | decide | dsimp only

theorem State.defaultFields_within {pp : Nat} (s : State) (pg : Nat) (hM : mm ||| 0x40000000000000000000000 = mm) (hW : Within mm pp s00 s) :
    Within mm pp s00 (State.defaultFields s pg) := by
  unfold State.defaultFields
  try dsimp only
  repeat' with_reducible
    first | assumption | apply wr_any | apply foldl_within | split | (intro _ _ _) | (intro _ _)
          | exact sub hM (by decide) | dsimp only

theorem State.unlockRing_within {pp : Nat} (s : State) (q : Fin 40) (hM : mm ||| 0x8000000000400000000000000000000000 = mm) (hW : Within mm pp s00 s) :
    Within mm pp s00 (State.unlockRing s q) := by
  unfold State.unlockRing
  try dsimp only
  repeat' with_reducible
    first | assumption | (refine setRing_entries_within _ _ _ rfl (.inr (sub hM (by decide))) ?_ ?_)
          | (refine setRing_erase_within _ _ _ _ rfl (.inr (sub hM (by decide))) ?_ ?_)
          | (refine setRing_drop_within _ _ _ _ rfl (.inr (sub hM (by decide))) ?_ ?_)
          | (refine setRing_empty_within _ _ _ rfl (.inr (sub hM (by decide))) ?_ ?_) | exact sub hM (by decide)
          | dsimp only

theorem State.blockReset_within {pp : Nat} (s : State) (pg : Nat) (hM : mm ||| 0xC003C0000044000000000000003A140000 = mm) (hW : Within mm pp s00 s) :
    Within mm pp s00 (State.blockReset s pg) := by
  unfold State.blockReset
  try dsimp only
  repeat' with_reducible
    first | assumption | apply defaultFields_within | apply linkLost_within | apply setAsm_within
          | apply unlockRing_within | apply weftRec_within | apply foldl_within | apply ite_within | split
          | (intro _ _ _) | (intro _ _) | apply within_mk | exact Or.inr rfl | exact Or.inl (bitOf hM (by decide))
          | exact sub hM (by decide) | dsimp only

theorem State.pageCtl_within {pp : Nat} (s : State) (pg inst v : Nat) (hM : mm ||| 0xC003C0000055200000209B00003A140000 = mm) (hW : Within mm pp s00 s) :
    Within mm pp s00 (State.pageCtl s pg inst v) := by
  unfold State.pageCtl
  try dsimp only
  repeat' with_reducible
    first | assumption | apply err_any | apply flag_any | apply wr_any
          | apply blockReset_within | apply linkEnabled_within | apply testAbort_within
          | apply ite_within | split | exact sub hM (by decide) | dsimp only

theorem State.irqClear_within {pp : Nat} (s : State) (pg inst v : Nat) (hM : mm ||| 0x40000000000000000000000 = mm) (hW : Within mm pp s00 s) :
    Within mm pp s00 (State.irqClear s pg inst v) := by
  unfold State.irqClear
  try dsimp only
  repeat' with_reducible
    first | assumption | apply wr_any | exact sub hM (by decide) | dsimp only

theorem State.repulseDue_within {pp : Nat} (s : State) (hM : mm ||| 0x400000000000000000000000000000 = mm) (hW : Within mm pp s00 s) :
    Within mm pp s00 (State.repulseDue s) := by
  unfold State.repulseDue
  try dsimp only
  repeat' with_reducible
    first | assumption | apply ite_within | split | apply within_mk | exact Or.inr rfl
          | exact Or.inl (bitOf hM (by decide)) | exact sub hM (by decide) | dsimp only

theorem State.writeCommon_within {pp : Nat} (s : State) (pg inst off v : Nat) (hM : mm ||| 0xC003C0000055200000209B00003A140000 = mm) (hW : Within mm pp s00 s) :
    Within mm pp s00 (State.writeCommon s pg inst off v) := by
  unfold State.writeCommon
  try dsimp only
  repeat' with_reducible
    first | assumption | apply wr_any | apply irqClear_within | apply pageCtl_within
          | apply repulseDue_within | apply ite_within | split | exact sub hM (by decide) | dsimp only

theorem State.writeBlock_within {pp : Nat} (s : State) (pg inst off v : Nat) (hM : mm ||| 0xE137FDE773F5FEC001A09F69E6FE1E81C2 = mm) (hW : Within mm pp s00 s) :
    Within mm pp s00 (State.writeBlock s pg inst off v) := by
  unfold State.writeBlock
  try dsimp only
  repeat' with_reducible
    first | assumption | apply err_any | apply irq_within | apply clearFields_within
          | apply commandFields_within | apply mbxClear_within | apply writeFields_within
          | apply ite_within | split | (intro _ _ _) | (intro _ _) | exact sub hM (by decide) | dsimp only

theorem State.manage_within (s : State) (p : Port) (f : Profile → Profile) (hM : mm ||| 0x80000000000000000000000 = mm) (hW : Within mm p s00 s) :
    Within mm p s00 (State.manage s p f) := by
  unfold State.manage
  try dsimp only
  repeat' with_reducible
    first | assumption | apply modPort_own | apply getD_within | split | (intro _ _ _) | (intro _ _)
          | exact sub hM (by decide) | decide | dsimp only

theorem State.manage_all {pp : Nat} (s : State) (p : Port) (f : Profile → Profile) (hM : mm ||| 0x100000000000000000000000 = mm) (hW : Within mm pp s00 s) :
    Within mm pp s00 (State.manage s p f) := by
  unfold State.manage
  try dsimp only
  repeat' with_reducible
    first | assumption | apply modPort_within | apply getD_within | split | (intro _ _ _) | (intro _ _)
          | exact sub hM (by decide) | dsimp only

theorem State.repairMarks_within (s : State) (p : Port) (hM : mm ||| 0x80000000080010000000000000000000 = mm) (hW : Within mm p s00 s) :
    Within mm p s00 (State.repairMarks s p) := by
  unfold State.repairMarks
  try dsimp only
  repeat' with_reducible
    first | assumption | apply flag_own | apply grd_within | split | (intro _ _ _) | (intro _ _)
          | apply within_mk | exact Or.inr rfl | exact Or.inl (bitOf hM (by decide)) | exact sub hM (by decide)
          | decide | dsimp only

theorem State.repairMarks_all {pp : Nat} (s : State) (p : Port) (hM : mm ||| 0x80000000110000000000000000000000 = mm) (hW : Within mm pp s00 s) :
    Within mm pp s00 (State.repairMarks s p) := by
  unfold State.repairMarks
  try dsimp only
  repeat' with_reducible
    first | assumption | apply flag_within | apply grd_all | split | (intro _ _ _) | (intro _ _)
          | apply within_mk | exact Or.inr rfl | exact Or.inl (bitOf hM (by decide)) | exact sub hM (by decide)
          | dsimp only

theorem State.clearFault_within (s : State) (p : Port) (repaired : Bool) (hM : mm ||| 0xC08120000048001B4C0000000038140000 = mm) (hW : Within mm p s00 s) :
    Within mm p s00 (State.clearFault s p repaired) := by
  unfold State.clearFault
  try dsimp only
  repeat' with_reducible
    first | assumption | apply event_own | apply flag_own | apply wr_own
          | apply clearCause_within | apply errorRecovery_within | apply grd_within
          | apply openLevels_within | apply present_within | apply repairMarks_within
          | apply sendMarks_within | apply showREst_within | apply toDischarge_within
          | apply ite_within | split | (intro _ _ _) | (intro _ _) | exact sub hM (by decide) | decide | dsimp only

theorem State.clearFault_all {pp : Nat} (s : State) (p : Port) (repaired : Bool) (hM : mm ||| 0xC08120000051B4C0000000000038140000 = mm) (hW : Within mm pp s00 s) :
    Within mm pp s00 (State.clearFault s p repaired) := by
  unfold State.clearFault
  try dsimp only
  repeat' with_reducible
    first | assumption | apply flag_within | apply wr_within | apply sendMarks_within
          | apply event_all | apply clearCause_all | apply errorRecovery_all | apply grd_all
          | apply openLevels_all | apply present_all | apply repairMarks_all
          | apply showREst_all | apply toDischarge_all | apply ite_within | split | (intro _ _ _)
          | (intro _ _) | exact sub hM (by decide) | dsimp only

theorem State.windowErr_within (s : State) (p : Port) (code o : Nat) (hM : mm ||| 0x200000000000000000 = mm) (hW : Within mm p s00 s) :
    Within mm p s00 (State.windowErr s p code o) := by
  unfold State.windowErr
  try dsimp only
  repeat' with_reducible
    first | assumption | apply err_own | exact sub hM (by decide) | decide | dsimp only

theorem State.windowErr_all {pp : Nat} (s : State) (p : Port) (code o : Nat) (hM : mm ||| 0x200000000000000000000 = mm) (hW : Within mm pp s00 s) :
    Within mm pp s00 (State.windowErr s p code o) := by
  unfold State.windowErr
  try dsimp only
  repeat' with_reducible
    first | assumption | apply err_within | exact sub hM (by decide) | dsimp only

theorem State.windowWrite_within {pp : Nat} (s : State) (o v : Nat) (hM : mm ||| 0xC08160000055B6C0000200000038140002 = mm) (hW : Within mm pp s00 s) :
    Within mm pp s00 (State.windowWrite s o v) := by
  unfold State.windowWrite
  try dsimp only
  repeat' with_reducible
    first | assumption | apply err_within | apply wr_within | apply wrBit_any
          | apply irqClear_within | apply repulseDue_within | apply clearFault_all
          | apply disable_all | apply manage_all | apply portEnable_all
          | apply roleWritten_all | apply windowErr_all | apply foldl_within | apply ite_within | split
          | (intro _ _ _) | (intro _ _) | exact sub hM (by decide) | dsimp only

theorem State.hostWrite_within1 {pp : Nat} (s : State) (a v : Nat) (hM : mm ||| 0xE1B7FDE773F5FEC001A29F69E6FE1E81C2 = mm) (hW : Within mm pp s00 s) :
    Within mm pp s00 (State.hostWrite s a v).1 := by
  unfold State.hostWrite
  try dsimp only
  repeat' with_reducible
    first | assumption | apply err_any | apply windowWrite_within | apply writeBlock_within
          | apply writeCommon_within | apply ite_within | split | exact sub hM (by decide) | dsimp only
theorem State.hostWrite_within {pp : Nat} {s : State} {a : Nat} {v : Nat} {ss xx} (hM : mm ||| 0xE1B7FDE773F5FEC001A29F69E6FE1E81C2 = mm) (hW : Within mm pp s00 s)
    (he : State.hostWrite s a v = (ss, xx)) : Within mm pp s00 ss := by
  have := State.hostWrite_within1 s a v hM hW; rw [he] at this; exact this

theorem State.spiErr_within {pp : Nat} (s : State) (code op : Nat) (hM : mm ||| 0x400000 = mm) (hW : Within mm pp s00 s) :
    Within mm pp s00 (State.spiErr s code op) := by
  unfold State.spiErr
  try dsimp only
  repeat' with_reducible
    first | assumption | apply flag_within | apply wr_within | exact sub hM (by decide) | dsimp only

theorem State.spiBad_within {pp : Nat} (s : State) (op a : Nat) (hM : mm ||| 0x400000000000000000000000E00000 = mm) (hW : Within mm pp s00 s) :
    Within mm pp s00 (State.spiBad s op a) := by
  unfold State.spiBad
  try dsimp only
  repeat' with_reducible
    first | assumption | apply bump_within | apply irq_within | apply wr_within
          | apply spiErr_within | apply ite_within | split | apply within_mk | exact Or.inr rfl
          | exact Or.inl (bitOf hM (by decide)) | exact sub hM (by decide) | dsimp only

theorem State.smbErr_within {pp : Nat} (s : State) (code cmd : Nat) (hM : mm ||| 0x2000000 = mm) (hW : Within mm pp s00 s) :
    Within mm pp s00 (State.smbErr s code cmd) := by
  unfold State.smbErr
  try dsimp only
  repeat' with_reducible
    first | assumption | apply flag_within | apply wr_within | exact sub hM (by decide) | dsimp only

theorem State.writeVia_within {pp : Nat} (s : State) (h : HostIf) (op a v : Nat) (hM : mm ||| 0xE1B7FDE773F5FEC001A29F69E6FEFE81C2 = mm) (hW : Within mm pp s00 s) :
    Within mm pp s00 (State.writeVia s h op a v) := by
  unfold State.writeVia
  try dsimp only
  repeat' with_reducible
    first | assumption | apply hostWrite_within1 | (refine State.hostWrite_within ?_ ?_ ‹_›)
          | apply smbErr_within | apply spiBad_within | split | exact sub hM (by decide) | dsimp only

theorem State.readyFor_within {pp : Nat} (s : State) (f : State → State) (h_f : ∀ t, Within mm pp s00 t → Within mm pp s00 (f t)) (hM : mm ||| 0x0 = mm) (hW : Within mm pp s00 s) :
    Within mm pp s00 (State.readyFor s f) := by
  unfold State.readyFor
  try dsimp only
  repeat' with_reducible
    first | assumption | apply h_f | apply ite_within | split | exact sub hM (by decide) | dsimp only

theorem execRegisterWrite_within (pp : Nat) (h : HostIf) (a : BitVec 24) (v : Word) (s : State) :
    ∀ u, execRegisterWrite h a v s = .next u → Within 0xE1B7FDE773F5FEC001A29F69E6FEFE81C2 pp s u := by
  intro u hu
  cases hu
  have hM : 0xE1B7FDE773F5FEC001A29F69E6FEFE81C2 ||| 0xE1B7FDE773F5FEC001A29F69E6FEFE81C2 = 0xE1B7FDE773F5FEC001A29F69E6FEFE81C2 := rfl
  have hW := Within.refl 0xE1B7FDE773F5FEC001A29F69E6FEFE81C2 pp s
  try dsimp only
  repeat' with_reducible
    first | assumption | apply readyFor_within | apply writeVia_within | split | (intro _ _ _)
          | (intro _ _) | exact sub hM (by decide) | dsimp only

theorem State.commonWrite_within {pp : Nat} (s : State) (g : PageRef) (off v : Nat) (hM : mm ||| 0xC003C0000055200000209B00003A140000 = mm) (hW : Within mm pp s00 s) :
    Within mm pp s00 (State.commonWrite s g off v) := by
  unfold State.commonWrite
  try dsimp only
  repeat' with_reducible
    first | assumption | apply readyFor_within | apply writeCommon_within | split | (intro _ _ _)
          | (intro _ _) | exact sub hM (by decide) | dsimp only

theorem execIrqStatClear_within (pp : Nat) (g : PageRef) (mask : Word) (s : State) :
    ∀ u, execIrqStatClear g mask s = .next u → Within 0xC003C0000055200000209B00003A140000 pp s u := by
  intro u hu
  cases hu
  have hM : 0xC003C0000055200000209B00003A140000 ||| 0xC003C0000055200000209B00003A140000 = 0xC003C0000055200000209B00003A140000 := rfl
  have hW := Within.refl 0xC003C0000055200000209B00003A140000 pp s
  try dsimp only
  repeat' with_reducible
    first | assumption | apply commonWrite_within | exact sub hM (by decide) | dsimp only

theorem execIrqForce_within (pp : Nat) (g : PageRef) (mask : Word) (s : State) :
    ∀ u, execIrqForce g mask s = .next u → Within 0xC003C0000055200000209B00003A140000 pp s u := by
  intro u hu
  cases hu
  have hM : 0xC003C0000055200000209B00003A140000 ||| 0xC003C0000055200000209B00003A140000 = 0xC003C0000055200000209B00003A140000 := rfl
  have hW := Within.refl 0xC003C0000055200000209B00003A140000 pp s
  try dsimp only
  repeat' with_reducible
    first | assumption | apply commonWrite_within | exact sub hM (by decide) | dsimp only

theorem execPageLock_within (pp : Nat) (g : PageRef) (s : State) :
    ∀ u, execPageLock g s = .next u → Within 0xC003C0000055200000209B00003A140000 pp s u := by
  intro u hu
  cases hu
  have hM : 0xC003C0000055200000209B00003A140000 ||| 0xC003C0000055200000209B00003A140000 = 0xC003C0000055200000209B00003A140000 := rfl
  have hW := Within.refl 0xC003C0000055200000209B00003A140000 pp s
  try dsimp only
  repeat' with_reducible
    first | assumption | apply commonWrite_within | exact sub hM (by decide) | dsimp only

theorem execBlockReset_within (pp : Nat) (g : PageRef) (s : State) :
    ∀ u, execBlockReset g s = .next u → Within 0xC003C0000055200000209B00003A140000 pp s u := by
  intro u hu
  cases hu
  have hM : 0xC003C0000055200000209B00003A140000 ||| 0xC003C0000055200000209B00003A140000 = 0xC003C0000055200000209B00003A140000 := rfl
  have hW := Within.refl 0xC003C0000055200000209B00003A140000 pp s
  try dsimp only
  repeat' with_reducible
    first | assumption | apply commonWrite_within | exact sub hM (by decide) | dsimp only

theorem execPageEnableWrite_within (pp : Nat) (g : PageRef) (en : Bool) (s : State) :
    ∀ u, execPageEnableWrite g en s = .next u → Within 0xC003C0000055200000209B00003A140000 pp s u := by
  intro u hu
  cases hu
  have hM : 0xC003C0000055200000209B00003A140000 ||| 0xC003C0000055200000209B00003A140000 = 0xC003C0000055200000209B00003A140000 := rfl
  have hW := Within.refl 0xC003C0000055200000209B00003A140000 pp s
  try dsimp only
  repeat' with_reducible
    first | assumption | apply commonWrite_within | apply ite_within | split | exact sub hM (by decide)
          | dsimp only

theorem execWindowWrite_within (pp : Nat) (a : WindowAt) (v : Word) (s : State) :
    ∀ u, execWindowWrite a v s = .next u → Within 0xE1B7FDE773F5FEC001A29F69E6FEFE81C2 pp s u := by
  intro u hu
  cases hu
  have hM : 0xE1B7FDE773F5FEC001A29F69E6FEFE81C2 ||| 0xE1B7FDE773F5FEC001A29F69E6FEFE81C2 = 0xE1B7FDE773F5FEC001A29F69E6FEFE81C2 := rfl
  have hW := Within.refl 0xE1B7FDE773F5FEC001A29F69E6FEFE81C2 pp s
  try dsimp only
  repeat' with_reducible
    first | assumption | apply readyFor_within | apply writeVia_within | split | (intro _ _ _)
          | (intro _ _) | exact sub hM (by decide) | dsimp only

theorem execIrqRepulse_within (pp : Nat) (s : State) :
    ∀ u, execIrqRepulse s = .next u → Within 0x400000000000000000000000000000 pp s u := by
  intro u hu
  cases hu
  have hM : 0x400000000000000000000000000000 ||| 0x400000000000000000000000000000 = 0x400000000000000000000000000000 := rfl
  have hW := Within.refl 0x400000000000000000000000000000 pp s
  try dsimp only
  repeat' with_reducible
    first | assumption | apply within_mk | exact Or.inr rfl | exact Or.inl (bitOf hM (by decide))
          | exact sub hM (by decide) | dsimp only

theorem execWarm_within (pp : Nat) (s : State) :
    ∀ u, execWarm s = .next u → Within 0xE037EDE773F5FEC001A09A0926381E81C2 pp s u := by
  intro u hu
  cases hu
  have hM : 0xE037EDE773F5FEC001A09A0926381E81C2 ||| 0xE037EDE773F5FEC001A09A0926381E81C2 = 0xE037EDE773F5FEC001A09A0926381E81C2 := rfl
  have hW := Within.refl 0xE037EDE773F5FEC001A09A0926381E81C2 pp s
  try dsimp only
  repeat' with_reducible
    first | assumption | apply readyFor_within | apply rstCtl_within | split | (intro _ _ _) | (intro _ _)
          | exact sub hM (by decide) | dsimp only

theorem execSafeEnter_within (pp : Nat) (s : State) :
    ∀ u, execSafeEnter s = .next u → Within 0xE037EDE773F5FEC001A09A0926381E81C2 pp s u := by
  intro u hu
  cases hu
  have hM : 0xE037EDE773F5FEC001A09A0926381E81C2 ||| 0xE037EDE773F5FEC001A09A0926381E81C2 = 0xE037EDE773F5FEC001A09A0926381E81C2 := rfl
  have hW := Within.refl 0xE037EDE773F5FEC001A09A0926381E81C2 pp s
  try dsimp only
  repeat' with_reducible
    first | assumption | apply readyFor_within | apply rstCtl_within | split | (intro _ _ _) | (intro _ _)
          | exact sub hM (by decide) | dsimp only

theorem execSafeExit_within (pp : Nat) (s : State) :
    ∀ u, execSafeExit s = .next u → Within 0xE037EDE773F5FEC001A09A0926381E81C2 pp s u := by
  intro u hu
  cases hu
  have hM : 0xE037EDE773F5FEC001A09A0926381E81C2 ||| 0xE037EDE773F5FEC001A09A0926381E81C2 = 0xE037EDE773F5FEC001A09A0926381E81C2 := rfl
  have hW := Within.refl 0xE037EDE773F5FEC001A09A0926381E81C2 pp s
  try dsimp only
  repeat' with_reducible
    first | assumption | apply readyFor_within | apply rstCtl_within | split | (intro _ _ _) | (intro _ _)
          | exact sub hM (by decide) | dsimp only

/-! ## Machine/Objects.lean -/

theorem State.stagePort_within (s : State) (p : Port) (k : Fin 8) (w : Nat) (hM : mm ||| 0x100100010000000000000000000 = mm) (hW : Within mm p s00 s) :
    Within mm p s00 (State.stagePort s p k w) := by
  unfold State.stagePort
  have hk : k.val < 16 := Nat.lt_of_lt_of_le k.isLt (by decide)
  repeat' with_reducible
    first | assumption | exact hk | apply wr_own | apply wr_arr | apply wr_within | apply stageRsv_within
          | apply stageRsv_all | exact sub hM (by decide) | decide | dsimp only

theorem State.stagePort_all {pp : Nat} (s : State) (p : Port) (k : Fin 8) (w : Nat) (hM : mm ||| 0x100110000000000000000000000 = mm) (hW : Within mm pp s00 s) :
    Within mm pp s00 (State.stagePort s p k w) := by
  unfold State.stagePort
  have hk : k.val < 16 := Nat.lt_of_lt_of_le k.isLt (by decide)
  repeat' with_reducible
    first | assumption | exact hk | apply wr_own | apply wr_arr | apply wr_within | apply stageRsv_within
          | apply stageRsv_all | exact sub hM (by decide) | decide | dsimp only

theorem State.stageFeed_within {pp : Nat} (s : State) (k w : Nat) (hM : mm ||| 0x100100000000000010000000000 = mm) (hW : Within mm pp s00 s) :
    Within mm pp s00 (State.stageFeed s k w) := by
  unfold State.stageFeed
  try dsimp only
  repeat' with_reducible
    first | assumption | apply wr_within | apply stageRsv_within | exact sub hM (by decide) | dsimp only

theorem State.loadPortCurve_within (s : State) (p : Port) (b : Bool) (ws : List Nat) (hM : mm ||| 0x100100018000000000000000000 = mm) (hW : Within mm p s00 s) :
    Within mm p s00 (State.loadPortCurve s p b ws) := by
  unfold State.loadPortCurve
  try dsimp only
  repeat' with_reducible
    first | assumption | apply commitCurve_within | apply stagePort_within | apply foldl_within
          | apply ite_within | apply getD_within | split | (intro _ _ _) | (intro _ _) | exact sub hM (by decide)
          | decide | dsimp only

theorem State.loadPortCurve_all {pp : Nat} (s : State) (p : Port) (b : Bool) (ws : List Nat) (hM : mm ||| 0x100118000000000000000000000 = mm) (hW : Within mm pp s00 s) :
    Within mm pp s00 (State.loadPortCurve s p b ws) := by
  unfold State.loadPortCurve
  try dsimp only
  repeat' with_reducible
    first | assumption | apply commitCurve_all | apply stagePort_all | apply foldl_within
          | apply ite_within | apply getD_within | split | (intro _ _ _) | (intro _ _) | exact sub hM (by decide)
          | decide | dsimp only

theorem State.loadFeedCurve_within {pp : Nat} (s : State) (b : Bool) (ws : List Nat) (hM : mm ||| 0x100100000000000018000000000 = mm) (hW : Within mm pp s00 s) :
    Within mm pp s00 (State.loadFeedCurve s b ws) := by
  unfold State.loadFeedCurve
  try dsimp only
  repeat' with_reducible
    first | assumption | apply feedCommit_within | apply stageFeed_within | apply foldl_within
          | apply ite_within | apply getD_within | split | (intro _ _ _) | (intro _ _) | exact sub hM (by decide)
          | dsimp only

theorem State.applyImage_within {pp : Nat} (s : State) (tgt : Nat) (l : List Byte) (hM : mm ||| 0xC00320010055BE800100006180F8140000 = mm) (hW : Within mm pp s00 s) :
    Within mm pp s00 (State.applyImage s tgt l) := by
  unfold State.applyImage
  try dsimp only
  repeat' with_reducible
    first | assumption | apply err_any | apply forPorts_within | apply loadFeedCurve_within
          | apply writeFields_within | apply loadPortCurve_all | apply foldl_within | apply ite_within
          | split | (intro _ _ _) | (intro _ _) | exact sub hM (by decide) | dsimp only

theorem foldl_wr_within {mm pp : Nat} {s00 : State} {α : Type} (l : List α) (F : α → Field) (v : α → Nat) (hl : ∀ x ∈ l, mm ||| fieldMask false (F x) = mm) :
    ∀ s, Within mm pp s00 s → Within mm pp s00 (l.foldl (fun t x => t.wr (F x) 0 (v x)) s) := by
  induction l with
  | nil => exact fun s hs => hs
  | cons x l ih => exact fun s hs => ih (fun y hy => hl y (.tail _ hy)) _ (State.wr_within _ _ _ _ (hl x (.head _)) hs)
theorem State.applyBudget_within {pp : Nat} (s : State) (l : List Byte) (hM : mm ||| 0x80000000000000000400000000000 = mm) (hW : Within mm pp s00 s) :
    Within mm pp s00 (s.applyBudget l) := by
  unfold State.applyBudget
  dsimp only
  refine foldl_within _ _ _ (fun t x ht => State.wr_within _ _ _ _ (sub hM (by decide)) (State.wr_within _ _ _ _ (sub hM (by decide))
    (State.wr_within _ _ _ _ (sub hM (by decide)) ht))) ?_
  have hb : ∀ (u : State) (x : BudSt), Within mm pp s00 u → Within mm pp s00 ({ u with bud := x } : State) := fun u x hu => by
    apply within_mk <;> first | exact Or.inr rfl | exact Or.inl (bitOf hM (by decide)) | exact hu
  refine hb _ _ ?_
  refine foldl_wr_within budgetWords (fun x => x.2) _ (fun x hx => sub hM (?_ : 0x80000000000000000400000000000 ||| fieldMask false x.2 = 0x80000000000000000400000000000)) _ ?_
  · revert x hx; decide
  refine foldl_wr_within budgetBytes (fun x => x.2) _ (fun x hx => sub hM (?_ : 0x80000000000000000400000000000 ||| fieldMask false x.2 = 0x80000000000000000400000000000)) _ ?_
  · revert x hx; decide
  refine foldl_wr_within budgetFlags.zipIdx (fun x => x.1) _ (fun x hx => sub hM (?_ : 0x80000000000000000400000000000 ||| fieldMask false x.1 = 0x80000000000000000400000000000)) _ hW
  · revert x hx; decide

theorem State.rejectTable_within {pp : Nat} (s : State) (tgt reason : Nat) (l : List Byte) (hM : mm ||| 0x503000000000000000140000 = mm) (hW : Within mm pp s00 s) :
    Within mm pp s00 (State.rejectTable s tgt reason l) := by
  unfold State.rejectTable
  try dsimp only
  repeat' with_reducible
    first | assumption | apply irq_within | apply wr_within | apply forPorts_within
          | apply event_all | split | (intro _ _ _) | (intro _ _) | exact sub hM (by decide) | dsimp only

theorem State.pendTable_within {pp : Nat} (s : State) (tgt : Nat) (l : List Byte) (hM : mm ||| 0x200000512000002018000000140000 = mm) (hW : Within mm pp s00 s) :
    Within mm pp s00 (State.pendTable s tgt l) := by
  unfold State.pendTable
  try dsimp only
  repeat' with_reducible
    first | assumption | apply forPorts_within | apply selReliable_within | apply pendOne_all
          | apply ite_within | split | (intro _ _ _) | (intro _ _) | exact sub hM (by decide) | dsimp only

theorem State.objApply_within {pp : Nat} (s : State) (tgt : Nat) (l : List Byte) (hM : mm ||| 0xC00338010855BE800120186180F8140000 = mm) (hW : Within mm pp s00 s) :
    Within mm pp s00 (State.objApply s tgt l) := by
  unfold State.objApply
  try dsimp only
  repeat' with_reducible
    first | assumption | apply flag_within | apply applyBudget_within | apply applyImage_within
          | apply pendTable_within | apply ite_within | split | apply within_mk | exact Or.inr rfl
          | exact Or.inl (bitOf hM (by decide)) | exact sub hM (by decide) | dsimp only

theorem State.putPol_within {pp : Nat} (s : State) (k : Nat) (l : List Byte) (hM : mm ||| 0x40000000000000000000000000000000 = mm) (hW : Within mm pp s00 s) :
    Within mm pp s00 (State.putPol s k l) := by
  unfold State.putPol
  try dsimp only
  repeat' with_reducible
    first | assumption | split | (intro _ _ _) | (intro _ _) | apply within_mk | exact Or.inr rfl
          | exact Or.inl (bitOf hM (by decide)) | exact sub hM (by decide) | dsimp only

theorem State.persistObj_within {pp : Nat} (s : State) (tgt : Nat) (l : List Byte) (hM : mm ||| 0x40000000100000000000000000000000 = mm) (hW : Within mm pp s00 s) :
    Within mm pp s00 (State.persistObj s tgt l) := by
  unfold State.persistObj
  try dsimp only
  repeat' with_reducible
    first | assumption | apply putPol_within | apply take_all | apply foldl_within | apply ite_within
          | split | (intro _ _ _) | (intro _ _) | exact sub hM (by decide) | dsimp only

theorem State.sendPolicy_within {pp : Nat} (s : State) (tgt : Nat) (l : List Byte) (hM : mm ||| 0x200000000000000000000000000000 = mm) (hW : Within mm pp s00 s) :
    Within mm pp s00 (State.sendPolicy s tgt l) := by
  unfold State.sendPolicy
  try dsimp only
  repeat' with_reducible
    first | assumption | apply selReliable_within | apply ite_within | split | exact sub hM (by decide)
          | dsimp only

theorem State.cmdSetPolicy_within {pp : Nat} (s : State) (k : Packet) (hM : mm ||| 0xC04338010855BE800120186180F8140000 = mm) (hW : Within mm pp s00 s) :
    Within mm pp s00 (State.cmdSetPolicy s k) := by
  unfold State.cmdSetPolicy
  try dsimp only
  repeat' with_reducible
    first | assumption | apply answer_within | apply objApply_within | apply offStandby_within
          | apply persistObj_within | apply rejectTable_within | apply sendPolicy_within
          | apply ite_within | split | (intro _ _ _) | (intro _ _) | exact sub hM (by decide) | dsimp only

theorem execSetPolicy_within (pp : Nat) (k : Packet) (s : State) :
    ∀ u, execSetPolicy k s = .next u → Within 0xC04338010855BE800120186180F8140000 pp s u := by
  intro u hu
  cases hu
  have hM : 0xC04338010855BE800120186180F8140000 ||| 0xC04338010855BE800120186180F8140000 = 0xC04338010855BE800120186180F8140000 := rfl
  have hW := Within.refl 0xC04338010855BE800120186180F8140000 pp s
  try dsimp only
  repeat' with_reducible
    first | assumption | apply cmdSetPolicy_within | apply serve_within | (intro _ _ _) | (intro _ _)
          | exact sub hM (by decide) | dsimp only

theorem State.cmdGetPolicy_within {pp : Nat} (s : State) (k : Packet) (hM : mm ||| 0xC001000000400000000000000038140000 = mm) (hW : Within mm pp s00 s) :
    Within mm pp s00 (State.cmdGetPolicy s k) := by
  unfold State.cmdGetPolicy
  try dsimp only
  repeat' with_reducible
    first | assumption | apply formed_within | apply respond_within | split | (intro _ _ _) | (intro _ _)
          | exact sub hM (by decide) | dsimp only

theorem execGetPolicy_within (pp : Nat) (k : Packet) (s : State) :
    ∀ u, execGetPolicy k s = .next u → Within 0xC001000000400000000000000038140000 pp s u := by
  intro u hu
  cases hu
  have hM : 0xC001000000400000000000000038140000 ||| 0xC001000000400000000000000038140000 = 0xC001000000400000000000000038140000 := rfl
  have hW := Within.refl 0xC001000000400000000000000038140000 pp s
  try dsimp only
  repeat' with_reducible
    first | assumption | apply cmdGetPolicy_within | apply serve_within | (intro _ _ _) | (intro _ _)
          | exact sub hM (by decide) | dsimp only

theorem State.applyPolicies_within {pp : Nat} (s : State) (hM : mm ||| 0xC00338010855BE800120186180F8140000 = mm) (hW : Within mm pp s00 s) :
    Within mm pp s00 (State.applyPolicies s) := by
  unfold State.applyPolicies
  try dsimp only
  repeat' with_reducible
    first | assumption | apply flag_within | apply feedEnable_within | apply objApply_within
          | apply foldl_within | apply ite_within | split | (intro _ _ _) | (intro _ _) | exact sub hM (by decide)
          | dsimp only

theorem State.onOwner_within {pp : Nat} (s : State) (k : Packet) (f : State → State) (h_f : ∀ t, Within mm pp s00 t → Within mm pp s00 (f t)) (hM : mm ||| 0xC001000000400000000000000038140000 = mm) (hW : Within mm pp s00 s) :
    Within mm pp s00 (State.onOwner s k f) := by
  unfold State.onOwner
  try dsimp only
  repeat' with_reducible
    first | assumption | apply h_f | apply answer_within | apply ite_within | split | exact sub hM (by decide)
          | dsimp only

theorem State.setProfile_within (s : State) (p : Port) (f : Profile) (hM : mm ||| 0x80000000000000000000000 = mm) (hW : Within mm p s00 s) :
    Within mm p s00 (State.setProfile s p f) := by
  unfold State.setProfile
  try dsimp only
  repeat' with_reducible
    first | assumption | apply modPort_own | split | (intro _ _ _) | (intro _ _) | exact sub hM (by decide)
          | decide | dsimp only

theorem State.setProfile_all {pp : Nat} (s : State) (p : Port) (f : Profile) (hM : mm ||| 0x100000000000000000000000 = mm) (hW : Within mm pp s00 s) :
    Within mm pp s00 (State.setProfile s p f) := by
  unfold State.setProfile
  try dsimp only
  repeat' with_reducible
    first | assumption | apply modPort_within | split | (intro _ _ _) | (intro _ _) | exact sub hM (by decide)
          | dsimp only

theorem State.cmdPortSetProfile_within {pp : Nat} (s : State) (k : Packet) (hM : mm ||| 0xC041200000500000000000000038140000 = mm) (hW : Within mm pp s00 s) :
    Within mm pp s00 (State.cmdPortSetProfile s k) := by
  unfold State.cmdPortSetProfile
  try dsimp only
  repeat' with_reducible
    first | assumption | apply answer_within | apply onOwner_within | apply putPol_within
          | apply sendPolicy_within | apply setProfile_all | apply ite_within | split | (intro _ _ _)
          | (intro _ _) | exact sub hM (by decide) | dsimp only

theorem execPortSetProfile_within (pp : Nat) (k : Packet) (s : State) :
    ∀ u, execPortSetProfile k s = .next u → Within 0xC041200000500000000000000038140000 pp s u := by
  intro u hu
  cases hu
  have hM : 0xC041200000500000000000000038140000 ||| 0xC041200000500000000000000038140000 = 0xC041200000500000000000000038140000 := rfl
  have hW := Within.refl 0xC041200000500000000000000038140000 pp s
  try dsimp only
  repeat' with_reducible
    first | assumption | apply cmdPortSetProfile_within | apply serve_within | (intro _ _ _) | (intro _ _)
          | exact sub hM (by decide) | dsimp only

theorem State.applyProfiles_within {pp : Nat} (s : State) (hM : mm ||| 0x100000000000000000000000 = mm) (hW : Within mm pp s00 s) :
    Within mm pp s00 (State.applyProfiles s) := by
  unfold State.applyProfiles
  try dsimp only
  repeat' with_reducible
    first | assumption | apply modPort_within | apply forPorts_within | apply setProfile_all | split
          | (intro _ _ _) | (intro _ _) | exact sub hM (by decide) | dsimp only

theorem State.cmdNop_within {pp : Nat} (s : State) (k : Packet) (hM : mm ||| 0x8001000000400000000000000038140000 = mm) (hW : Within mm pp s00 s) :
    Within mm pp s00 (State.cmdNop s k) := by
  unfold State.cmdNop
  try dsimp only
  repeat' with_reducible
    first | assumption | apply respondArg_within | exact sub hM (by decide) | dsimp only

theorem execNop_within (pp : Nat) (k : Packet) (s : State) :
    ∀ u, execNop k s = .next u → Within 0xC001000000400000000000000038140000 pp s u := by
  intro u hu
  cases hu
  have hM : 0xC001000000400000000000000038140000 ||| 0xC001000000400000000000000038140000 = 0xC001000000400000000000000038140000 := rfl
  have hW := Within.refl 0xC001000000400000000000000038140000 pp s
  try dsimp only
  repeat' with_reducible
    first | assumption | apply cmdNop_within | apply serve_within | (intro _ _ _) | (intro _ _)
          | exact sub hM (by decide) | dsimp only

theorem State.cmdGetInfo_within {pp : Nat} (s : State) (k : Packet) (hM : mm ||| 0xC001000000400000000000000038140000 = mm) (hW : Within mm pp s00 s) :
    Within mm pp s00 (State.cmdGetInfo s k) := by
  unfold State.cmdGetInfo
  try dsimp only
  repeat' with_reducible
    first | assumption | apply formed_within | apply respond_within | split | (intro _ _ _) | (intro _ _)
          | exact sub hM (by decide) | dsimp only

theorem execGetInfo_within (pp : Nat) (k : Packet) (s : State) :
    ∀ u, execGetInfo k s = .next u → Within 0xC001000000400000000000000038140000 pp s u := by
  intro u hu
  cases hu
  have hM : 0xC001000000400000000000000038140000 ||| 0xC001000000400000000000000038140000 = 0xC001000000400000000000000038140000 := rfl
  have hW := Within.refl 0xC001000000400000000000000038140000 pp s
  try dsimp only
  repeat' with_reducible
    first | assumption | apply cmdGetInfo_within | apply serveInfo_within | (intro _ _ _) | (intro _ _)
          | exact sub hM (by decide) | dsimp only

theorem State.onPort_within {pp : Nat} (s : State) (k : Packet) (ok : Bool) (f : State → Port → State) (h_f : ∀ t a, Within mm pp s00 t → Within mm pp s00 (f t a)) (hM : mm ||| 0xC001000000400000000000000038140000 = mm) (hW : Within mm pp s00 s) :
    Within mm pp s00 (State.onPort s k ok f) := by
  unfold State.onPort
  try dsimp only
  repeat' with_reducible
    first | assumption | apply h_f | apply answer_within | apply ite_within | split | exact sub hM (by decide)
          | dsimp only

theorem State.cmdPortEnable_within {pp : Nat} (s : State) (k : Packet) (hM : mm ||| 0xC001000000543080000000000038140002 = mm) (hW : Within mm pp s00 s) :
    Within mm pp s00 (State.cmdPortEnable s k) := by
  unfold State.cmdPortEnable
  try dsimp only
  repeat' with_reducible
    first | assumption | apply answer_within | apply onPort_within | apply portEnable_all
          | apply ite_within | split | (intro _ _ _) | (intro _ _) | exact sub hM (by decide) | dsimp only

theorem execPortEnable_within (pp : Nat) (k : Packet) (s : State) :
    ∀ u, execPortEnable k s = .next u → Within 0xC001000000543080000000000038140002 pp s u := by
  intro u hu
  cases hu
  have hM : 0xC001000000543080000000000038140002 ||| 0xC001000000543080000000000038140002 = 0xC001000000543080000000000038140002 := rfl
  have hW := Within.refl 0xC001000000543080000000000038140002 pp s
  try dsimp only
  repeat' with_reducible
    first | assumption | apply cmdPortEnable_within | apply serve_within | (intro _ _ _) | (intro _ _)
          | exact sub hM (by decide) | dsimp only

theorem State.cmdPortDisable_within {pp : Nat} (s : State) (k : Packet) (hM : mm ||| 0xC00120000051B4C0000000000038140002 = mm) (hW : Within mm pp s00 s) :
    Within mm pp s00 (State.cmdPortDisable s k) := by
  unfold State.cmdPortDisable
  try dsimp only
  repeat' with_reducible
    first | assumption | apply answer_within | apply onPort_within | apply disable_all
          | apply ite_within | split | (intro _ _ _) | (intro _ _) | exact sub hM (by decide) | dsimp only

theorem execPortDisable_within (pp : Nat) (k : Packet) (s : State) :
    ∀ u, execPortDisable k s = .next u → Within 0xC00120000051B4C0000000000038140002 pp s u := by
  intro u hu
  cases hu
  have hM : 0xC00120000051B4C0000000000038140002 ||| 0xC00120000051B4C0000000000038140002 = 0xC00120000051B4C0000000000038140002 := rfl
  have hW := Within.refl 0xC00120000051B4C0000000000038140002 pp s
  try dsimp only
  repeat' with_reducible
    first | assumption | apply cmdPortDisable_within | apply serve_within | (intro _ _ _) | (intro _ _)
          | exact sub hM (by decide) | dsimp only

theorem State.cmdPortGetState_within {pp : Nat} (s : State) (k : Packet) (hM : mm ||| 0xC001000000400000000000000038140000 = mm) (hW : Within mm pp s00 s) :
    Within mm pp s00 (State.cmdPortGetState s k) := by
  unfold State.cmdPortGetState
  try dsimp only
  repeat' with_reducible
    first | assumption | apply onOwner_within | apply onPort_within | apply respond_within | split
          | (intro _ _ _) | (intro _ _) | exact sub hM (by decide) | dsimp only

theorem execPortGetState_within (pp : Nat) (k : Packet) (s : State) :
    ∀ u, execPortGetState k s = .next u → Within 0xC001000000400000000000000038140000 pp s u := by
  intro u hu
  cases hu
  have hM : 0xC001000000400000000000000038140000 ||| 0xC001000000400000000000000038140000 = 0xC001000000400000000000000038140000 := rfl
  have hW := Within.refl 0xC001000000400000000000000038140000 pp s
  try dsimp only
  repeat' with_reducible
    first | assumption | apply cmdPortGetState_within | apply serve_within | (intro _ _ _) | (intro _ _)
          | exact sub hM (by decide) | dsimp only

theorem State.cmdPortSwap_within {pp : Nat} (s : State) (k : Packet) (hM : mm ||| 0xC001200000500E80000000000038140000 = mm) (hW : Within mm pp s00 s) :
    Within mm pp s00 (State.cmdPortSwap s k) := by
  unfold State.cmdPortSwap
  try dsimp only
  repeat' with_reducible
    first | assumption | apply answer_within | apply onPort_within | apply sendOwnSwap_all
          | apply ite_within | split | (intro _ _ _) | (intro _ _) | exact sub hM (by decide) | dsimp only

theorem execPortSwap_within (pp : Nat) (k : Packet) (s : State) :
    ∀ u, execPortSwap k s = .next u → Within 0xC001200000500E80000000000038140000 pp s u := by
  intro u hu
  cases hu
  have hM : 0xC001200000500E80000000000038140000 ||| 0xC001200000500E80000000000038140000 = 0xC001200000500E80000000000038140000 := rfl
  have hW := Within.refl 0xC001200000500E80000000000038140000 pp s
  try dsimp only
  repeat' with_reducible
    first | assumption | apply cmdPortSwap_within | apply serve_within | (intro _ _ _) | (intro _ _)
          | exact sub hM (by decide) | dsimp only

theorem State.cmdPortHardReset_within {pp : Nat} (s : State) (k : Packet) (hM : mm ||| 0xC001000000500C00000000000038140000 = mm) (hW : Within mm pp s00 s) :
    Within mm pp s00 (State.cmdPortHardReset s k) := by
  unfold State.cmdPortHardReset
  try dsimp only
  repeat' with_reducible
    first | assumption | apply answer_within | apply onPort_within | apply sendCableReset_all
          | apply sendHardReset_all | apply ite_within | split | (intro _ _ _) | (intro _ _)
          | exact sub hM (by decide) | dsimp only

theorem execPortHardReset_within (pp : Nat) (k : Packet) (s : State) :
    ∀ u, execPortHardReset k s = .next u → Within 0xC001000000500C00000000000038140000 pp s u := by
  intro u hu
  cases hu
  have hM : 0xC001000000500C00000000000038140000 ||| 0xC001000000500C00000000000038140000 = 0xC001000000500C00000000000038140000 := rfl
  have hW := Within.refl 0xC001000000500C00000000000038140000 pp s
  try dsimp only
  repeat' with_reducible
    first | assumption | apply cmdPortHardReset_within | apply serve_within | (intro _ _ _) | (intro _ _)
          | exact sub hM (by decide) | dsimp only

theorem State.cmdPortSendVdm_within {pp : Nat} (s : State) (k : Packet) (hM : mm ||| 0xC001000000500E80000000000038140000 = mm) (hW : Within mm pp s00 s) :
    Within mm pp s00 (State.cmdPortSendVdm s k) := by
  unfold State.cmdPortSendVdm
  try dsimp only
  repeat' with_reducible
    first | assumption | apply answer_within | apply onPort_within | apply pe_all
          | apply sendFrame_all | apply ite_within | split | (intro _ _ _) | (intro _ _)
          | exact sub hM (by decide) | dsimp only

theorem execPortSendVdm_within (pp : Nat) (k : Packet) (s : State) :
    ∀ u, execPortSendVdm k s = .next u → Within 0xC001000000500E80000000000038140000 pp s u := by
  intro u hu
  cases hu
  have hM : 0xC001000000500E80000000000038140000 ||| 0xC001000000500E80000000000038140000 = 0xC001000000500E80000000000038140000 := rfl
  have hW := Within.refl 0xC001000000500E80000000000038140000 pp s
  try dsimp only
  repeat' with_reducible
    first | assumption | apply cmdPortSendVdm_within | apply serve_within | (intro _ _ _) | (intro _ _)
          | exact sub hM (by decide) | dsimp only

theorem State.cmdPortClearFault_within {pp : Nat} (s : State) (k : Packet) (hM : mm ||| 0xC08120000051B4C0000000000038140000 = mm) (hW : Within mm pp s00 s) :
    Within mm pp s00 (State.cmdPortClearFault s k) := by
  unfold State.cmdPortClearFault
  try dsimp only
  repeat' with_reducible
    first | assumption | apply answer_within | apply onOwner_within | apply onPort_within
          | apply clearFault_all | apply ite_within | split | (intro _ _ _) | (intro _ _)
          | exact sub hM (by decide) | dsimp only

theorem execPortClearFault_within (pp : Nat) (k : Packet) (s : State) :
    ∀ u, execPortClearFault k s = .next u → Within 0xC08120000051B4C0000000000038140000 pp s u := by
  intro u hu
  cases hu
  have hM : 0xC08120000051B4C0000000000038140000 ||| 0xC08120000051B4C0000000000038140000 = 0xC08120000051B4C0000000000038140000 := rfl
  have hW := Within.refl 0xC08120000051B4C0000000000038140000 pp s
  try dsimp only
  repeat' with_reducible
    first | assumption | apply cmdPortClearFault_within | apply serve_within | (intro _ _ _) | (intro _ _)
          | exact sub hM (by decide) | dsimp only

theorem State.cmdPortTest_within {pp : Nat} (s : State) (k : Packet) (hM : mm ||| 0xC001000000500000000002000038140000 = mm) (hW : Within mm pp s00 s) :
    Within mm pp s00 (State.cmdPortTest s k) := by
  unfold State.cmdPortTest
  try dsimp only
  repeat' with_reducible
    first | assumption | apply modPort_within | apply wrBit_within | apply answer_within
          | apply onPort_within | apply ite_within | split | (intro _ _ _) | (intro _ _)
          | exact sub hM (by decide) | dsimp only

theorem execPortTest_within (pp : Nat) (k : Packet) (s : State) :
    ∀ u, execPortTest k s = .next u → Within 0xC001000000500000000002000038140000 pp s u := by
  intro u hu
  cases hu
  have hM : 0xC001000000500000000002000038140000 ||| 0xC001000000500000000002000038140000 = 0xC001000000500000000002000038140000 := rfl
  have hW := Within.refl 0xC001000000500000000002000038140000 pp s
  try dsimp only
  repeat' with_reducible
    first | assumption | apply cmdPortTest_within | apply serve_within | (intro _ _ _) | (intro _ _)
          | exact sub hM (by decide) | dsimp only

end Sys2Proof.Machine
end

