-- ==== Sys2Proof/Laws/FootBoot.lean ====
section
/-! SUPPORT. What the block's operations may change (Safety.lean says what `Within` is), one lemma for each: engines, boot, budget, pair and update.
`f_within` is for the command's own port, `f_all` for any port; each is proved from the lemmas of what its definition calls. -/

set_option linter.all false
set_option maxRecDepth 4000

namespace Sys2Proof.Machine
open State

variable {mm : Nat} {s00 : State}

/-! ## Machine/Cores.lean -/

theorem State.restoreCache_within (s : State) (p : Port) (hM : mm ||| 0x80000400000000000000000 = mm) (hW : Within mm p s00 s) :
    Within mm p s00 (State.restoreCache s p) := by
  unfold State.restoreCache
  try dsimp only
  repeat' with_reducible
    first | assumption | apply flag_own | apply wr_own | apply pe_within | apply ite_within | split
          | (intro _ _ _) | (intro _ _) | exact sub hM (by decide) | decide | dsimp only

theorem State.restoreCache_all {pp : Nat} (s : State) (p : Port) (hM : mm ||| 0x100400000000000000000000 = mm) (hW : Within mm pp s00 s) :
    Within mm pp s00 (State.restoreCache s p) := by
  unfold State.restoreCache
  try dsimp only
  repeat' with_reducible
    first | assumption | apply flag_within | apply wr_within | apply pe_all | apply ite_within
          | split | (intro _ _ _) | (intro _ _) | exact sub hM (by decide) | dsimp only

theorem State.resync_within (s : State) (p : Port) (hM : mm ||| 0xC001000000580000E80000000038140000 = mm) (hW : Within mm p s00 s) :
    Within mm p s00 (State.resync s p) := by
  unfold State.resync
  try dsimp only
  repeat' with_reducible
    first | assumption | apply bump_own | apply wr_own | apply pe_within | apply phy_within
          | apply restoreCache_within | apply sendHardReset_within | apply sendSoftReset_within
          | apply ite_within | split | (intro _ _ _) | (intro _ _) | exact sub hM (by decide) | decide | dsimp only

theorem State.resync_all {pp : Nat} (s : State) (p : Port) (hM : mm ||| 0xC001000000500E80000000000038140000 = mm) (hW : Within mm pp s00 s) :
    Within mm pp s00 (State.resync s p) := by
  unfold State.resync
  try dsimp only
  repeat' with_reducible
    first | assumption | apply bump_within | apply wr_within | apply pe_all | apply phy_all
          | apply restoreCache_all | apply sendHardReset_all | apply sendSoftReset_all
          | apply ite_within | split | (intro _ _ _) | (intro _ _) | exact sub hM (by decide) | dsimp only

theorem State.portsLost_within {pp : Nat} (s : State) (l : List Port) (hM : mm ||| 0xC001000000500400000000000038140000 = mm) (hW : Within mm pp s00 s) :
    Within mm pp s00 (State.portsLost s l) := by
  unfold State.portsLost
  try dsimp only
  repeat' with_reducible
    first | assumption | apply forPorts_within | apply endVdm_all | apply twillLost_all | split
          | (intro _ _ _) | (intro _ _) | exact sub hM (by decide) | dsimp only

theorem State.toBuddy_within {pp : Nat} (s : State) (k : Fin 8) (hM : mm ||| 0xC001000000500400000180000038140000 = mm) (hW : Within mm pp s00 s) :
    Within mm pp s00 (State.toBuddy s k) := by
  unfold State.toBuddy
  try dsimp only
  repeat' with_reducible
    first | assumption | apply bump_within | apply wr_within | apply portsLost_within
          | exact sub hM (by decide) | dsimp only

theorem State.fromBuddy_within {pp : Nat} (s : State) (k : Fin 8) (hM : mm ||| 0xC001000000500400000080000038140000 = mm) (hW : Within mm pp s00 s) :
    Within mm pp s00 (State.fromBuddy s k) := by
  unfold State.fromBuddy
  try dsimp only
  repeat' with_reducible
    first | assumption | apply wr_within | apply portsLost_within | exact sub hM (by decide) | dsimp only

theorem State.coreReset_within {pp : Nat} (s : State) (e : Fin 16) (hM : mm ||| 0x3800000000100000000028000 = mm) (hW : Within mm pp s00 s) :
    Within mm pp s00 (State.coreReset s e) := by
  unfold State.coreReset
  try dsimp only
  repeat' with_reducible
    first | assumption | apply bump_within | apply resetBoxes_within | exact sub hM (by decide)
          | dsimp only

theorem State.planMove_within {pp : Nat} (s : State) (e : Fin 2) (st : Nat) (hM : mm ||| 0x40000102000002000000000000000 = mm) (hW : Within mm pp s00 s) :
    Within mm pp s00 (State.planMove s e st) := by
  unfold State.planMove
  try dsimp only
  repeat' with_reducible
    first | assumption | apply wr_within | apply moveOuter_within | apply within_mk | exact Or.inr rfl
          | exact Or.inl (bitOf hM (by decide)) | exact sub hM (by decide)
          | exact sub hM (by simp only [engState_mask]; decide) | (simp only [engState_arr]; done) | dsimp only

theorem State.loadFails_within {pp : Nat} (s : State) (e i : Nat) (hM : mm ||| 0xC00126000051F4C0012180000038145000 = mm) (hW : Within mm pp s00 s) :
    Within mm pp s00 (State.loadFails s e i) := by
  unfold State.loadFails
  try dsimp only
  repeat' with_reducible
    first | assumption | apply bump_within | apply event_sys | apply irq_within
          | apply engineDown_within | apply engineFailed_within | apply planMove_within
          | apply toBuddy_within | apply ite_within | split | exact sub hM (by decide) | decide | dsimp only

theorem State.setMarlCode_within {pp : Nat} (s : State) (m : Fin 2) (l : List Byte) (hM : mm ||| 0x10000000000000000000000000000000 = mm) (hW : Within mm pp s00 s) :
    Within mm pp s00 (State.setMarlCode s m l) := by
  unfold State.setMarlCode
  try dsimp only
  repeat' with_reducible
    first | assumption | apply within_mk | exact Or.inr rfl | exact Or.inl (bitOf hM (by decide))
          | exact sub hM (by decide) | dsimp only

theorem State.reloadDone_within {pp : Nat} (s : State) (e i why : Nat) (hM : mm ||| 0xC011000000512400002098000038144000 = mm) (hW : Within mm pp s00 s) :
    Within mm pp s00 (State.reloadDone s e i why) := by
  unfold State.reloadDone
  try dsimp only
  repeat' with_reducible
    first | assumption | apply bump_within | apply event_sys | apply engineRestarted_within
          | apply fromBuddy_within | apply marlStarts_within | apply setMarlCode_within
          | apply ite_within | split | exact sub hM (by decide) | decide | dsimp only

theorem State.takeOut_within {pp : Nat} (s : State) (e : Nat) (st cause : Nat) (hM : mm ||| 0xC001040003D02E80002180000038168000 = mm) (hW : Within mm pp s00 s) :
    Within mm pp s00 (State.takeOut s e st cause) := by
  unfold State.takeOut
  try dsimp only
  repeat' with_reducible
    first | assumption | apply wr_within | apply coreReset_within | apply forPorts_within
          | apply planMove_within | apply toBuddy_within | apply resync_all | apply ite_within
          | split | (intro _ _ _) | (intro _ _) | exact sub hM (by decide) | dsimp only

theorem State.reloadEngine_within1 {pp : Nat} (s : State) (e i why : Nat) (hM : mm ||| 0xC011260003D1FEC001219800003816D000 = mm) (hW : Within mm pp s00 s) :
    Within mm pp s00 (State.reloadEngine s e i why).1 := by
  unfold State.reloadEngine
  try dsimp only
  repeat' with_reducible
    first | assumption | apply wr_within | apply loadFails_within | apply reloadDone_within
          | apply takeOut_within | apply ite_within | split | exact sub hM (by decide) | dsimp only
theorem State.reloadEngine_within {pp : Nat} {s : State} {e : Nat} {i : Nat} {why : Nat} {ss xx} (hM : mm ||| 0xC011260003D1FEC001219800003816D000 = mm) (hW : Within mm pp s00 s)
    (he : State.reloadEngine s e i why = (ss, xx)) : Within mm pp s00 ss := by
  have := State.reloadEngine_within1 s e i why hM hW; rw [he] at this; exact this

/-! ## Machine/Boot.lean -/

theorem State.flashRec_within {pp : Nat} (s : State) (f : FlashSt → FlashSt) (hM : mm ||| 0x8000000000000000000000000000000 = mm) (hW : Within mm pp s00 s) :
    Within mm pp s00 (State.flashRec s f) := by
  unfold State.flashRec
  try dsimp only
  repeat' with_reducible
    first | assumption | apply within_mk | exact Or.inr rfl | exact Or.inl (bitOf hM (by decide))
          | exact sub hM (by decide) | dsimp only

theorem State.bootRec_within {pp : Nat} (s : State) (f : BootSt → BootSt) (hM : mm ||| 0x10000000000000000000000000000000 = mm) (hW : Within mm pp s00 s) :
    Within mm pp s00 (State.bootRec s f) := by
  unfold State.bootRec
  try dsimp only
  repeat' with_reducible
    first | assumption | apply within_mk | exact Or.inr rfl | exact Or.inl (bitOf hM (by decide))
          | exact sub hM (by decide) | dsimp only

theorem State.showSlots_within {pp : Nat} (s : State) (hM : mm ||| 0x2000 = mm) (hW : Within mm pp s00 s) :
    Within mm pp s00 (State.showSlots s) := by
  unfold State.showSlots
  try dsimp only
  repeat' with_reducible
    first | assumption | apply wr_within | apply foldl_within | split | (intro _ _ _) | (intro _ _)
          | exact sub hM (by decide) | dsimp only

theorem State.setDir_within {pp : Nat} (s : State) (f : DirCopy → DirCopy) (hM : mm ||| 0x8000000000000000000000000002000 = mm) (hW : Within mm pp s00 s) :
    Within mm pp s00 (State.setDir s f) := by
  unfold State.setDir
  try dsimp only
  repeat' with_reducible
    first | assumption | apply flashRec_within | apply showSlots_within | apply ite_within | split
          | (intro _ _ _) | (intro _ _) | exact sub hM (by decide) | dsimp only

theorem State.markSlot_within {pp : Nat} (s : State) (i v : Nat) (hM : mm ||| 0x8000000000000000000000000002000 = mm) (hW : Within mm pp s00 s) :
    Within mm pp s00 (State.markSlot s i v) := by
  unfold State.markSlot
  try dsimp only
  repeat' with_reducible
    first | assumption | apply setDir_within | split | (intro _ _ _) | (intro _ _) | exact sub hM (by decide)
          | dsimp only

theorem State.updState_within {pp : Nat} (s : State) (n : Nat) (hM : mm ||| 0x400000000000000000143000 = mm) (hW : Within mm pp s00 s) :
    Within mm pp s00 (State.updState s n) := by
  unfold State.updState
  try dsimp only
  repeat' with_reducible
    first | assumption | apply eventSev_sys | apply irq_within | apply wr_within | apply ite_within
          | split | exact sub hM (by decide) | decide | dsimp only

theorem State.updFails_within {pp : Nat} (s : State) (status : Nat) (hM : mm ||| 0x400000000000000000147000 = mm) (hW : Within mm pp s00 s) :
    Within mm pp s00 (State.updFails s status) := by
  unfold State.updFails
  try dsimp only
  repeat' with_reducible
    first | assumption | apply bump_within | apply wr_within | apply updState_within
          | exact sub hM (by decide) | dsimp only

theorem State.reject_within {pp : Nat} (s : State) (i status : Nat) (hM : mm ||| 0x8000000000000000000000000002000 = mm) (hW : Within mm pp s00 s) :
    Within mm pp s00 (State.reject s i status) := by
  unfold State.reject
  try dsimp only
  repeat' with_reducible
    first | assumption | apply wr_within | apply markSlot_within | apply ite_within | split
          | exact sub hM (by decide) | dsimp only

theorem State.chooseActive_within1 {pp : Nat} (s : State) (warm : Bool) (left : List (Nat × Nat)) (hM : mm ||| 0x8000000000000000000000000002000 = mm) (hW : Within mm pp s00 s) :
    Within mm pp s00 (State.chooseActive s warm left).1 := by
  unfold State.chooseActive
  try dsimp only
  repeat' with_reducible
    first | assumption | apply wr_within | apply reject_within | apply setDir_within
          | apply ite_within | split | (intro _ _ _) | (intro _ _) | exact sub hM (by decide) | dsimp only
theorem State.chooseActive_within {pp : Nat} {s : State} {warm : Bool} {left : List (Nat × Nat)} {ss xx} (hM : mm ||| 0x8000000000000000000000000002000 = mm) (hW : Within mm pp s00 s)
    (he : State.chooseActive s warm left = (ss, xx)) : Within mm pp s00 ss := by
  have := State.chooseActive_within1 s warm left hM hW; rw [he] at this; exact this

theorem State.choose_within1 {pp : Nat} (s : State) (warm : Bool) (hM : mm ||| 0x8000000400000000000000000147000 = mm) (hW : Within mm pp s00 s) :
    Within mm pp s00 (State.choose s warm).1 := by
  unfold State.choose
  try dsimp only
  repeat' with_reducible
    first | assumption | apply chooseActive_within1 | (refine State.chooseActive_within ?_ ?_ ‹_›)
          | apply markSlot_within | apply reject_within | apply updFails_within | apply ite_within
          | split | exact sub hM (by decide) | dsimp only
theorem State.choose_within {pp : Nat} {s : State} {warm : Bool} {ss xx} (hM : mm ||| 0x8000000400000000000000000147000 = mm) (hW : Within mm pp s00 s)
    (he : State.choose s warm = (ss, xx)) : Within mm pp s00 ss := by
  have := State.choose_within1 s warm hM hW; rw [he] at this; exact this

theorem State.fellBack_within {pp : Nat} (s : State) (slot why : Nat) (now : Option Nat) (hM : mm ||| 0x4000000000400000000000000000145000 = mm) (hW : Within mm pp s00 s) :
    Within mm pp s00 (State.fellBack s slot why now) := by
  unfold State.fellBack
  try dsimp only
  repeat' with_reducible
    first | assumption | apply bump_within | apply event_sys | apply irq_within
          | apply fresh_within1 | (refine State.fresh_within ?_ ?_ ‹_›) | split | exact sub hM (by decide)
          | decide | dsimp only

theorem State.chooseSlot_within1 {pp : Nat} (s : State) (warm : Bool) (hM : mm ||| 0x4008000000400000000000000000147000 = mm) (hW : Within mm pp s00 s) :
    Within mm pp s00 (State.chooseSlot s warm).1 := by
  unfold State.chooseSlot
  try dsimp only
  repeat' with_reducible
    first | assumption | apply flag_within | apply choose_within1 | (refine State.choose_within ?_ ?_ ‹_›)
          | apply fellBack_within | apply updState_within | apply foldl_within | apply ite_within | split
          | (intro _ _ _) | (intro _ _) | exact sub hM (by decide) | dsimp only
theorem State.chooseSlot_within {pp : Nat} {s : State} {warm : Bool} {ss xx} (hM : mm ||| 0x4008000000400000000000000000147000 = mm) (hW : Within mm pp s00 s)
    (he : State.chooseSlot s warm = (ss, xx)) : Within mm pp s00 ss := by
  have := State.chooseSlot_within1 s warm hM hW; rw [he] at this; exact this

theorem State.toRecovery_within {pp : Nat} (s : State) (hM : mm ||| 0x300080000000000000002002 = mm) (hW : Within mm pp s00 s) :
    Within mm pp s00 (State.toRecovery s) := by
  unfold State.toRecovery
  try dsimp only
  repeat' with_reducible
    first | assumption | apply flag_within | apply wr_within | apply forPorts_within
          | apply present_all | split | (intro _ _ _) | (intro _ _) | apply within_mk | exact Or.inr rfl
          | exact Or.inl (bitOf hM (by decide)) | exact sub hM (by decide) | dsimp only

theorem State.startCore_within {pp : Nat} (s : State) (cause e : Nat) (hM : mm ||| 0xC00126000051F4C0012180000038145000 = mm) (hW : Within mm pp s00 s) :
    Within mm pp s00 (State.startCore s cause e) := by
  unfold State.startCore
  try dsimp only
  repeat' with_reducible
    first | assumption | apply engineRestarted_within | apply loadFails_within | apply ite_within | split
          | exact sub hM (by decide) | dsimp only

theorem State.startCores_within {pp : Nat} (s : State) (cause : Nat) (hM : mm ||| 0xC00126000051F4C0012180000038145000 = mm) (hW : Within mm pp s00 s) :
    Within mm pp s00 (State.startCores s cause) := by
  unfold State.startCores
  try dsimp only
  repeat' with_reducible
    first | assumption | apply wr_within | apply startCore_within | apply toBuddy_within
          | apply foldl_within | apply ite_within | split | (intro _ _ _) | (intro _ _) | exact sub hM (by decide)
          | dsimp only

theorem State.runFrom_within {pp : Nat} (s : State) (i : Nat) (hM : mm ||| 0x10000000400000000000000000143002 = mm) (hW : Within mm pp s00 s) :
    Within mm pp s00 (State.runFrom s i) := by
  unfold State.runFrom
  try dsimp only
  repeat' with_reducible
    first | assumption | apply flag_within | apply wr_within | apply bootRec_within
          | apply updState_within | apply ite_within | split | (intro _ _ _) | (intro _ _)
          | exact sub hM (by decide) | dsimp only

theorem State.resetCause_within {pp : Nat} (s : State) (hM : mm ||| 0x400000000000000000140000 = mm) (hW : Within mm pp s00 s) :
    Within mm pp s00 (State.resetCause s) := by
  unfold State.resetCause
  try dsimp only
  repeat' with_reducible
    first | assumption | apply eventSev_sys | apply ite_within | split | exact sub hM (by decide) | decide
          | dsimp only

theorem State.ready_within {pp : Nat} (s : State) (start ms : Nat) (hM : mm ||| 0x20000000600000000000000000142002 = mm) (hW : Within mm pp s00 s) :
    Within mm pp s00 (State.ready s start ms) := by
  unfold State.ready
  try dsimp only
  repeat' with_reducible
    first | assumption | apply event_sys | apply flag_within | apply wr_within
          | apply wrSat_within | apply resetCause_within | apply ite_within | split | apply within_mk
          | exact Or.inr rfl | exact Or.inl (bitOf hM (by decide)) | exact sub hM (by decide) | decide | dsimp only

theorem State.chalkFallback_within {pp : Nat} (s : State) (hM : mm ||| 0xA03DE80003F40E800000820126100AA102 = mm) (hW : Within mm pp s00 s) :
    Within mm pp s00 (State.chalkFallback s) := by
  unfold State.chalkFallback
  try dsimp only
  repeat' with_reducible
    first | assumption | apply markSlot_within | apply warmGo_within | apply ite_within | split
          | exact sub hM (by decide) | dsimp only

theorem State.refreshMarls_within {pp : Nat} (s : State) (hM : mm ||| 0xC011260003D1FEC001219800003816D000 = mm) (hW : Within mm pp s00 s) :
    Within mm pp s00 (State.refreshMarls s) := by
  unfold State.refreshMarls
  try dsimp only
  repeat' with_reducible
    first | assumption | apply reloadEngine_within1 | (refine State.reloadEngine_within ?_ ?_ ‹_›)
          | apply take_all | apply foldl_within | apply ite_within | split | (intro _ _ _) | (intro _ _)
          | exact sub hM (by decide) | dsimp only

theorem State.startPair_within {pp : Nat} (s : State) (hM : mm ||| 0xC021200100517E80018000012638140002 = mm) (hW : Within mm pp s00 s) :
    Within mm pp s00 (State.startPair s) := by
  unfold State.startPair
  try dsimp only
  repeat' with_reducible
    first | assumption | apply flag_within | apply wr_within | apply pairState_within
          | apply pr_within | apply releaseOutputs_within | apply toStandby_within
          | apply ite_within | split | (intro _ _ _) | (intro _ _) | apply within_mk | exact Or.inr rfl
          | exact Or.inl (bitOf hM (by decide)) | exact sub hM (by decide) | dsimp only

theorem State.pairFit_within {pp : Nat} (s : State) (hM : mm ||| 0x400000000 = mm) (hW : Within mm pp s00 s) :
    Within mm pp s00 (State.pairFit s) := by
  unfold State.pairFit
  try dsimp only
  repeat' with_reducible
    first | assumption | apply flag_within | apply ite_within | split | exact sub hM (by decide) | dsimp only

theorem State.startPorts_within {pp : Nat} (s : State) (hM : mm ||| 0x110080000000000000000000 = mm) (hW : Within mm pp s00 s) :
    Within mm pp s00 (State.startPorts s) := by
  unfold State.startPorts
  try dsimp only
  repeat' with_reducible
    first | assumption | apply forPorts_within | apply present_all | apply toDischarge_all
          | apply ite_within | split | (intro _ _ _) | (intro _ _) | exact sub hM (by decide) | dsimp only

theorem State.raiseService_within {pp : Nat} (s : State) (hM : mm ||| 0x20800400000000000000000142400 = mm) (hW : Within mm pp s00 s) :
    Within mm pp s00 (State.raiseService s) := by
  unfold State.raiseService
  try dsimp only
  repeat' with_reducible
    first | assumption | apply event_sys | apply raiseCounter_within | apply ite_within | split
          | apply within_mk | exact Or.inr rfl | exact Or.inl (bitOf hM (by decide)) | exact sub hM (by decide)
          | decide | dsimp only

theorem State.raiseAll_within {pp : Nat} (s : State) (hM : mm ||| 0x20800400000000000000000142400 = mm) (hW : Within mm pp s00 s) :
    Within mm pp s00 (State.raiseAll s) := by
  unfold State.raiseAll
  try dsimp only
  repeat' with_reducible
    first | assumption | apply raiseService_within | apply foldl_within | split | (intro _ _ _) | (intro _ _)
          | exact sub hM (by decide) | dsimp only

theorem State.bringUp_within {pp : Nat} (s : State) (i ms : Nat) (hM : mm ||| 0xE23FFE0D0BF5FEC001219A69F6F81EF502 = mm) (hW : Within mm pp s00 s) :
    Within mm pp s00 (State.bringUp s i ms) := by
  unfold State.bringUp
  try dsimp only
  repeat' with_reducible
    first | assumption | apply applyPolicies_within | apply applyProfiles_within
          | apply autoEnable_within | apply chalkFallback_within | apply engineRestarted_within
          | apply ledgerLoad_within | apply loadFails_within | apply loadTables_within
          | apply pairFit_within | apply raiseAll_within | apply ready_within
          | apply restoreMarks_within | apply restoreRetired_within | apply runFrom_within
          | apply setMarlCode_within | apply startCores_within | apply startMarls_within
          | apply startPorts_within | apply foldl_within | apply ite_within | split | (intro _ _ _)
          | (intro _ _) | exact sub hM (by decide) | dsimp only

theorem State.crcFound_within {pp : Nat} (s : State) (x : ColdFound) (hM : mm ||| 0x40100000100000000000004000000000 = mm) (hW : Within mm pp s00 s) :
    Within mm pp s00 (State.crcFound s x) := by
  unfold State.crcFound
  try dsimp only
  repeat' with_reducible
    first | assumption | apply journal_within | apply ite_within | split | (intro _ _ _) | (intro _ _)
          | apply within_mk | exact Or.inr rfl | exact Or.inl (bitOf hM (by decide)) | exact sub hM (by decide)
          | dsimp only

theorem State.coldStart_within {pp : Nat} (s : State) (x : ColdFound) (hM : mm ||| 0xE27FFE0D0BF5FEC001A19A69F6F81EFF02 = mm) (hW : Within mm pp s00 s) :
    Within mm pp s00 (State.coldStart s x) := by
  unfold State.coldStart
  try dsimp only
  repeat' with_reducible
    first | assumption | apply bump_within | apply wr_within | apply bringUp_within
          | apply chooseSlot_within1 | (refine State.chooseSlot_within ?_ ?_ ‹_›) | apply crcFound_within
          | apply forPorts_within | apply otpStart_within | apply showSlots_within
          | apply startPair_within | apply toRecovery_within | apply present_all | apply ite_within
          | split | (intro _ _ _) | (intro _ _) | exact sub hM (by decide) | dsimp only

theorem execColdStart_within (pp : Nat) (x : ColdFound) (s : State) :
    ∀ u, execColdStart x s = .next u → Within 0xE27FFE0D0BF5FEC001A19A69F6F81EFF02 pp s u := by
  intro u hu
  cases hu
  have hM : 0xE27FFE0D0BF5FEC001A19A69F6F81EFF02 ||| 0xE27FFE0D0BF5FEC001A19A69F6F81EFF02 = 0xE27FFE0D0BF5FEC001A19A69F6F81EFF02 := rfl
  have hW := Within.refl 0xE27FFE0D0BF5FEC001A19A69F6F81EFF02 pp s
  try dsimp only
  repeat' with_reducible
    first | assumption | apply coldStart_within | apply ite_within | split | exact sub hM (by decide)
          | dsimp only

theorem State.reraise_within {pp : Nat} (s : State) (hM : mm ||| 0x40000000000000000000000 = mm) (hW : Within mm pp s00 s) :
    Within mm pp s00 (State.reraise s) := by
  unfold State.reraise
  try dsimp only
  repeat' with_reducible
    first | assumption | apply wr_any | apply foldl_within | apply ite_within | split | (intro _ _ _)
          | (intro _ _) | exact sub hM (by decide) | dsimp only

theorem State.ledgerAgain_within {pp : Nat} (s : State) (hM : mm ||| 0x100000500000000000007000140000 = mm) (hW : Within mm pp s00 s) :
    Within mm pp s00 (State.ledgerAgain s) := by
  unfold State.ledgerAgain
  try dsimp only
  repeat' with_reducible
    first | assumption | apply ledgerLoad_within | apply sess_all | apply foldl_within | apply ite_within
          | split | (intro _ _ _) | (intro _ _) | apply within_mk | exact Or.inr rfl
          | exact Or.inl (bitOf hM (by decide)) | exact sub hM (by decide) | dsimp only

theorem State.warmStart_within {pp : Nat} (s : State) (ms : Nat) (ledgerBad : Bool) (cacheBad : List Port) (hM : mm ||| 0xE03DFE0003F5FEC001219A0176381EF102 = mm) (hW : Within mm pp s00 s) :
    Within mm pp s00 (State.warmStart s ms ledgerBad cacheBad) := by
  unfold State.warmStart
  extract_lets s0 s1
  have h0 : Within mm pp s00 s0 := by
    unfold s0
    repeat' with_reducible
      first | assumption | apply bump_within | apply wr_within | apply catchUp_within
            | apply chalkFallback_within | apply chooseSlot_within1
            | (refine State.chooseSlot_within ?_ ?_ ‹_›) | apply engineRestarted_within
            | apply forPorts_within | apply ledgerAgain_within | apply marlStarts_within
            | apply ready_within | apply refreshMarls_within | apply reraise_within
            | apply runFrom_within | apply setMarlCode_within | apply startCores_within
            | apply toRecovery_within | apply pe_all | apply foldl_within | apply ite_within | split
            | (intro _ _ _) | (intro _ _) | exact sub hM (by decide) | dsimp only
  clear_value s0
  have h1 : Within mm pp s00 s1 := State.bump_within _ _ _ (sub hM (by decide)) h0
  clear_value s1
  have h2 : ∀ {t o}, (if s1.boot.run = 2 then (s1, some 2) else s1.chooseSlot true) = (t, o) → Within mm pp s00 t := by
    intro t o e
    split at e
    · cases e; exact h1
    · exact State.chooseSlot_within (sub hM (by decide)) h1 e
  split
  · have h3 := h2 ‹_›
    repeat' with_reducible
      first | assumption | apply bump_within | apply wr_within | apply catchUp_within
            | apply chalkFallback_within | apply chooseSlot_within1
            | (refine State.chooseSlot_within ?_ ?_ ‹_›) | apply engineRestarted_within
            | apply forPorts_within | apply ledgerAgain_within | apply marlStarts_within
            | apply ready_within | apply refreshMarls_within | apply reraise_within
            | apply runFrom_within | apply setMarlCode_within | apply startCores_within
            | apply toRecovery_within | apply pe_all | apply foldl_within | apply ite_within | split
            | (intro _ _ _) | (intro _ _) | exact sub hM (by decide) | dsimp only
  · have h3 := h2 ‹_›
    extract_lets s3 s4
    have h4 : Within mm pp s00 s3 := by
      unfold s3
      repeat' with_reducible
        first | assumption | apply bump_within | apply wr_within | apply catchUp_within
              | apply chalkFallback_within | apply chooseSlot_within1
              | (refine State.chooseSlot_within ?_ ?_ ‹_›) | apply engineRestarted_within
              | apply forPorts_within | apply ledgerAgain_within | apply marlStarts_within
              | apply ready_within | apply refreshMarls_within | apply reraise_within
              | apply runFrom_within | apply setMarlCode_within | apply startCores_within
              | apply toRecovery_within | apply pe_all | apply foldl_within | apply ite_within | split
              | (intro _ _ _) | (intro _ _) | exact sub hM (by decide) | dsimp only
    clear_value s3
    have h5 : Within mm pp s00 s4 := by
      unfold s4
      repeat' with_reducible
        first | assumption | apply bump_within | apply wr_within | apply catchUp_within
              | apply chalkFallback_within | apply chooseSlot_within1
              | (refine State.chooseSlot_within ?_ ?_ ‹_›) | apply engineRestarted_within
              | apply forPorts_within | apply ledgerAgain_within | apply marlStarts_within
              | apply ready_within | apply refreshMarls_within | apply reraise_within
              | apply runFrom_within | apply setMarlCode_within | apply startCores_within
              | apply toRecovery_within | apply pe_all | apply foldl_within | apply ite_within | split
              | (intro _ _ _) | (intro _ _) | exact sub hM (by decide) | dsimp only
    clear_value s4
    repeat' with_reducible
      first | assumption | apply bump_within | apply wr_within | apply catchUp_within
            | apply chalkFallback_within | apply chooseSlot_within1
            | (refine State.chooseSlot_within ?_ ?_ ‹_›) | apply engineRestarted_within
            | apply forPorts_within | apply ledgerAgain_within | apply marlStarts_within
            | apply ready_within | apply refreshMarls_within | apply reraise_within
            | apply runFrom_within | apply setMarlCode_within | apply startCores_within
            | apply toRecovery_within | apply pe_all | apply foldl_within | apply ite_within | split
            | (intro _ _ _) | (intro _ _) | exact sub hM (by decide) | dsimp only

theorem execWarmStart_within (pp : Nat) (x : WarmFound) (s : State) :
    ∀ u, execWarmStart x s = .next u → Within 0xE03DFE0003F5FEC001219A0176381EF182 pp s u := by
  intro u hu
  cases hu
  have hM : 0xE03DFE0003F5FEC001219A0176381EF182 ||| 0xE03DFE0003F5FEC001219A0176381EF182 = 0xE03DFE0003F5FEC001219A0176381EF182 := rfl
  have hW := Within.refl 0xE03DFE0003F5FEC001219A0176381EF182 pp s
  try dsimp only
  repeat' with_reducible
    first | assumption | apply bootRec_within | apply warmBegin_within | apply warmStart_within
          | apply ite_within | split | (intro _ _ _) | (intro _ _) | exact sub hM (by decide) | dsimp only

theorem State.cmdWarmReset_within {pp : Nat} (s : State) (k : Packet) (hM : mm ||| 0xE035E80003F40E800000820126381E8182 = mm) (hW : Within mm pp s00 s) :
    Within mm pp s00 (State.cmdWarmReset s k) := by
  unfold State.cmdWarmReset
  try dsimp only
  repeat' with_reducible
    first | assumption | apply answer_within | apply formed_within | apply offStandby_within
          | apply warmBegin_within | apply ite_within | split | (intro _ _ _) | (intro _ _)
          | exact sub hM (by decide) | dsimp only

theorem execWarmReset_within (pp : Nat) (k : Packet) (s : State) :
    ∀ u, execWarmReset k s = .next u → Within 0xE035E80003F40E800000820126381E8182 pp s u := by
  intro u hu
  cases hu
  have hM : 0xE035E80003F40E800000820126381E8182 ||| 0xE035E80003F40E800000820126381E8182 = 0xE035E80003F40E800000820126381E8182 := rfl
  have hW := Within.refl 0xE035E80003F40E800000820126381E8182 pp s
  try dsimp only
  repeat' with_reducible
    first | assumption | apply cmdWarmReset_within | apply serve_within | (intro _ _ _) | (intro _ _)
          | exact sub hM (by decide) | dsimp only

theorem execCoreLoadFail_within (pp : Nat) (e : Fin 12) (s : State) :
    ∀ u, execCoreLoadFail e s = .next u → Within 0xE03DEE0003F5FEC00121820126381EF102 pp s u := by
  intro u hu
  cases hu
  have hM : 0xE03DEE0003F5FEC00121820126381EF102 ||| 0xE03DEE0003F5FEC00121820126381EF102 = 0xE03DEE0003F5FEC00121820126381EF102 := rfl
  have hW := Within.refl 0xE03DEE0003F5FEC00121820126381EF102 pp s
  try dsimp only
  repeat' with_reducible
    first | assumption | apply chalkFallback_within | apply loadFails_within | apply ite_within | split
          | exact sub hM (by decide) | dsimp only

theorem State.cmdCoreReload_within {pp : Nat} (s : State) (k : Packet) (hM : mm ||| 0xE03DEE0003F5FEC001219A0126381EF102 = mm) (hW : Within mm pp s00 s) :
    Within mm pp s00 (State.cmdCoreReload s k) := by
  unfold State.cmdCoreReload
  try dsimp only
  repeat' with_reducible
    first | assumption | apply answer_within | apply chalkFallback_within | apply formed_within
          | apply reloadEngine_within1 | (refine State.reloadEngine_within ?_ ?_ ‹_›) | apply ite_within | split
          | (intro _ _ _) | (intro _ _) | exact sub hM (by decide) | dsimp only

theorem execCoreReload_within (pp : Nat) (k : Packet) (s : State) :
    ∀ u, execCoreReload k s = .next u → Within 0xE03DEE0003F5FEC001219A0126381EF102 pp s u := by
  intro u hu
  cases hu
  have hM : 0xE03DEE0003F5FEC001219A0126381EF102 ||| 0xE03DEE0003F5FEC001219A0126381EF102 = 0xE03DEE0003F5FEC001219A0126381EF102 := rfl
  have hW := Within.refl 0xE03DEE0003F5FEC001219A0126381EF102 pp s
  try dsimp only
  repeat' with_reducible
    first | assumption | apply cmdCoreReload_within | apply serve_within | (intro _ _ _) | (intro _ _)
          | exact sub hM (by decide) | dsimp only

theorem State.cmdCoreRetire_within {pp : Nat} (s : State) (k : Packet) (hM : mm ||| 0xC001040003D02E80002180000038168000 = mm) (hW : Within mm pp s00 s) :
    Within mm pp s00 (State.cmdCoreRetire s k) := by
  unfold State.cmdCoreRetire
  try dsimp only
  repeat' with_reducible
    first | assumption | apply answer_within | apply formed_within | apply takeOut_within
          | apply ite_within | split | (intro _ _ _) | (intro _ _) | exact sub hM (by decide) | dsimp only

theorem execCoreRetire_within (pp : Nat) (k : Packet) (s : State) :
    ∀ u, execCoreRetire k s = .next u → Within 0xC001040003D02E80002180000038168000 pp s u := by
  intro u hu
  cases hu
  have hM : 0xC001040003D02E80002180000038168000 ||| 0xC001040003D02E80002180000038168000 = 0xC001040003D02E80002180000038168000 := rfl
  have hW := Within.refl 0xC001040003D02E80002180000038168000 pp s
  try dsimp only
  repeat' with_reducible
    first | assumption | apply cmdCoreRetire_within | apply serve_within | (intro _ _ _) | (intro _ _)
          | exact sub hM (by decide) | dsimp only

/-! ## Machine/Budget.lean -/

theorem State.writeOffer_within (s : State) (p : Port) (uw : Nat) (hM : mm ||| 0x400000000000 = mm) (hW : Within mm p s00 s) :
    Within mm p s00 (State.writeOffer s p uw) := by
  unfold State.writeOffer
  try dsimp only
  repeat' with_reducible
    first | assumption | apply wr_own | apply wrSat_own | apply ite_within | split
          | exact sub hM (by decide) | decide | dsimp only

theorem State.writeOffer_all {pp : Nat} (s : State) (p : Port) (uw : Nat) (hM : mm ||| 0x400000000000 = mm) (hW : Within mm pp s00 s) :
    Within mm pp s00 (State.writeOffer s p uw) := by
  unfold State.writeOffer
  try dsimp only
  repeat' with_reducible
    first | assumption | apply wr_within | apply wrSat_within | apply ite_within | split
          | exact sub hM (by decide) | dsimp only

theorem State.enterCeil_within (s : State) (p : Port) (hM : mm ||| 0x2000000000000000000 = mm) (hW : Within mm p s00 s) :
    Within mm p s00 (State.enterCeil s p) := by
  unfold State.enterCeil
  try dsimp only
  repeat' with_reducible
    first | assumption | apply applyCeil_within | apply ite_within | split | exact sub hM (by decide)
          | dsimp only

theorem State.enterCeil_all {pp : Nat} (s : State) (p : Port) (hM : mm ||| 0x2000000000000000000000 = mm) (hW : Within mm pp s00 s) :
    Within mm pp s00 (State.enterCeil s p) := by
  unfold State.enterCeil
  try dsimp only
  repeat' with_reducible
    first | assumption | apply applyCeil_all | apply ite_within | split | exact sub hM (by decide) | dsimp only

theorem State.offerPort_within (s : State) (alloc : List (Port × Nat)) (p : Port) (hM : mm ||| 0x80002000000400000000000 = mm) (hW : Within mm p s00 s) :
    Within mm p s00 (State.offerPort s alloc p) := by
  unfold State.offerPort
  try dsimp only
  repeat' with_reducible
    first | assumption | apply wr_own | apply enterCeil_within | apply pe_within
          | apply writeOffer_within | apply ite_within | apply getD_within | split | (intro _ _ _) | (intro _ _)
          | exact sub hM (by decide) | decide | dsimp only

theorem State.offerPort_all {pp : Nat} (s : State) (alloc : List (Port × Nat)) (p : Port) (hM : mm ||| 0x102000000000400000000000 = mm) (hW : Within mm pp s00 s) :
    Within mm pp s00 (State.offerPort s alloc p) := by
  unfold State.offerPort
  try dsimp only
  repeat' with_reducible
    first | assumption | apply wr_within | apply enterCeil_all | apply pe_all
          | apply writeOffer_all | apply ite_within | apply getD_within | split | (intro _ _ _) | (intro _ _)
          | exact sub hM (by decide) | dsimp only

theorem State.sinkCeil_within (s : State) (pool n : Nat) (p : Port) (hM : mm ||| 0x2000000000000000000 = mm) (hW : Within mm p s00 s) :
    Within mm p s00 (State.sinkCeil s pool n p) := by
  unfold State.sinkCeil
  try dsimp only
  repeat' with_reducible
    first | assumption | apply wr_own | apply wrSat_own | apply ite_within | split
          | exact sub hM (by decide) | decide | dsimp only

theorem State.sinkCeil_all {pp : Nat} (s : State) (pool n : Nat) (p : Port) (hM : mm ||| 0x2000000000000000000000 = mm) (hW : Within mm pp s00 s) :
    Within mm pp s00 (State.sinkCeil s pool n p) := by
  unfold State.sinkCeil
  try dsimp only
  repeat' with_reducible
    first | assumption | apply wr_within | apply wrSat_within | apply ite_within | split
          | exact sub hM (by decide) | dsimp only

theorem State.grant5v_within (s : State) (p : Port) (hM : mm ||| 0xC00120000048003B4C0000000038140000 = mm) (hW : Within mm p s00 s) :
    Within mm p s00 (State.grant5v s p) := by
  unfold State.grant5v
  try dsimp only
  repeat' with_reducible
    first | assumption | apply cc_within | apply cmdSoftStart_within | apply implicitSetpoint_within
          | apply ite_within | split | (intro _ _ _) | (intro _ _) | exact sub hM (by decide) | dsimp only

theorem State.grant5v_all {pp : Nat} (s : State) (p : Port) (hM : mm ||| 0xC00120000053B4C0000000000038140000 = mm) (hW : Within mm pp s00 s) :
    Within mm pp s00 (State.grant5v s p) := by
  unfold State.grant5v
  try dsimp only
  repeat' with_reducible
    first | assumption | apply cc_all | apply cmdSoftStart_all | apply implicitSetpoint_all
          | apply ite_within | split | (intro _ _ _) | (intro _ _) | exact sub hM (by decide) | dsimp only

theorem State.tickRecord_within (s : State) (p : Port) (hM : mm ||| 0x300000080000000000002000000000 = mm) (hW : Within mm p s00 s) :
    Within mm p s00 (State.tickRecord s p) := by
  unfold State.tickRecord
  try dsimp only
  repeat' with_reducible
    first | assumption | apply flushFaults_within | apply putRecord_within | apply sess_within
          | apply ite_within | split | (intro _ _ _) | (intro _ _) | exact sub hM (by decide) | dsimp only

theorem State.tickRecord_all {pp : Nat} (s : State) (p : Port) (hM : mm ||| 0x300000100000000000002000000000 = mm) (hW : Within mm pp s00 s) :
    Within mm pp s00 (State.tickRecord s p) := by
  unfold State.tickRecord
  try dsimp only
  repeat' with_reducible
    first | assumption | apply putRecord_within | apply flushFaults_all | apply sess_all
          | apply ite_within | split | (intro _ _ _) | (intro _ _) | exact sub hM (by decide) | dsimp only

theorem State.showVconn_within (s : State) (p : Port) (hM : mm ||| 0x80000080000000000000000 = mm) (hW : Within mm p s00 s) :
    Within mm p s00 (State.showVconn s p) := by
  unfold State.showVconn
  try dsimp only
  repeat' with_reducible
    first | assumption | apply wrSat_own | apply cc_within | apply ite_within | split | (intro _ _ _)
          | (intro _ _) | exact sub hM (by decide) | decide | dsimp only

theorem State.showVconn_all {pp : Nat} (s : State) (p : Port) (hM : mm ||| 0x100080000000000000000000 = mm) (hW : Within mm pp s00 s) :
    Within mm pp s00 (State.showVconn s p) := by
  unfold State.showVconn
  try dsimp only
  repeat' with_reducible
    first | assumption | apply wrSat_within | apply cc_all | apply ite_within | split | (intro _ _ _)
          | (intro _ _) | exact sub hM (by decide) | dsimp only

theorem State.tickHead_within {pp : Nat} (s0 : State) (hM : mm ||| 0x380020100000000000C02000000000 = mm) (hW : Within mm pp s00 s0) :
    Within mm pp s00 (State.tickHead s0) := by
  unfold State.tickHead
  extract_lets _b1 s1 s2
  have h_s1 : Within mm pp s00 s1 := by
    unfold s1
    repeat' with_reducible
      first | assumption | apply bump_within | apply flag_within | apply forPorts_within
            | apply readAccum_all | apply ite_within | split | (intro _ _ _) | (intro _ _) | apply within_mk
            | exact Or.inr rfl | exact Or.inl (bitOf hM (by decide)) | exact sub hM (by decide) | dsimp only
  clear_value s1
  have h_s2 : Within mm pp s00 s2 := by
    unfold s2
    repeat' with_reducible
      first | assumption | apply bump_within | apply flag_within | apply forPorts_within
            | apply readAccum_all | apply ite_within | split | (intro _ _ _) | (intro _ _) | apply within_mk
            | exact Or.inr rfl | exact Or.inl (bitOf hM (by decide)) | exact sub hM (by decide) | dsimp only
  clear_value s2
  repeat' with_reducible
    first | assumption | apply bump_within | apply flag_within | apply forPorts_within
          | apply readAccum_all | apply ite_within | split | (intro _ _ _) | (intro _ _) | apply within_mk
          | exact Or.inr rfl | exact Or.inl (bitOf hM (by decide)) | exact sub hM (by decide) | dsimp only

theorem State.tickSupply_within {pp : Nat} (s : State) (pMeas cap : Nat) (hM : mm ||| 0x80000000000000000400000000000 = mm) (hW : Within mm pp s00 s) :
    Within mm pp s00 (State.tickSupply s pMeas cap) := by
  unfold State.tickSupply
  try dsimp only
  repeat' with_reducible
    first | assumption | apply wrSat_within | apply setCap_within | apply within_mk | exact Or.inr rfl
          | exact Or.inl (bitOf hM (by decide)) | exact sub hM (by decide) | dsimp only

theorem State.tickDeficit_within {pp : Nat} (s : State) (av : Nat) (deficit : Bool) (hM : mm ||| 0xE00000000000 = mm) (hW : Within mm pp s00 s) :
    Within mm pp s00 (State.tickDeficit s av deficit) := by
  unfold State.tickDeficit
  try dsimp only
  repeat' with_reducible
    first | assumption | apply bump_within | apply flag_within | apply level_within
          | apply wrSat_within | apply ite_within | split | exact sub hM (by decide) | dsimp only

theorem State.tickOverload_within {pp : Nat} (s : State) (ovl : Bool) (hM : mm ||| 0x80000000000000000E00000000000 = mm) (hW : Within mm pp s00 s) :
    Within mm pp s00 (State.tickOverload s ovl) := by
  unfold State.tickOverload
  try dsimp only
  repeat' with_reducible
    first | assumption | apply bump_within | apply flag_within | apply level_within
          | apply ite_within | split | apply within_mk | exact Or.inr rfl | exact Or.inl (bitOf hM (by decide))
          | exact sub hM (by decide) | dsimp only

theorem State.tickPorts_within {pp : Nat} (s : State) (alloc : List (Port × Nat)) (hM : mm ||| 0xC08130200053FFC0010000602038140000 = mm) (hW : Within mm pp s00 s) :
    Within mm pp s00 (State.tickPorts s alloc) := by
  unfold State.tickPorts
  try dsimp only
  repeat' with_reducible
    first | assumption | apply irq_within | apply forPorts_within | apply senseTick_within
          | apply askAgain_all | apply grant5v_all | apply offerPort_all | apply showVconn_all
          | apply sinkCeil_all | apply tickRecord_all | apply vconnClaim_all | apply foldl_within
          | apply ite_within | split | (intro _ _ _) | (intro _ _) | exact sub hM (by decide) | dsimp only

theorem State.tickPair_within {pp : Nat} (s : State) (hM : mm ||| 0x200000000000000000000000000000 = mm) (hW : Within mm pp s00 s) :
    Within mm pp s00 (State.tickPair s) := by
  unfold State.tickPair
  try dsimp only
  repeat' with_reducible
    first | assumption | apply selPeriodic_within | apply ite_within | split | exact sub hM (by decide)
          | dsimp only

theorem State.tickEngines_within {pp : Nat} (s : State) (hM : mm ||| 0x20000000000512000002098000000140000 = mm) (hW : Within mm pp s00 s) :
    Within mm pp s00 (State.tickEngines s) := by
  unfold State.tickEngines
  try dsimp only
  repeat' with_reducible
    first | assumption | apply marlReloads_within | apply showLoad_within | exact sub hM (by decide)
          | dsimp only

theorem State.showAge_within {pp : Nat} (s : State) (e : Nat) (hM : mm ||| 0x4000000000000000000080000000000000 = mm) (hW : Within mm pp s00 s) :
    Within mm pp s00 (State.showAge s e) := by
  unfold State.showAge
  try dsimp only
  repeat' with_reducible
    first | assumption | apply wr_within | apply fresh_within1 | (refine State.fresh_within ?_ ?_ ‹_›)
          | apply ite_within | split | exact sub hM (by decide) | dsimp only

theorem State.showAges_within {pp : Nat} (s : State) (hM : mm ||| 0x4000000000000000000080000000000000 = mm) (hW : Within mm pp s00 s) :
    Within mm pp s00 (State.showAges s) := by
  unfold State.showAges
  try dsimp only
  repeat' with_reducible
    first | assumption | apply showAge_within | apply foldl_within | (intro _ _ _) | (intro _ _)
          | exact sub hM (by decide) | dsimp only

theorem State.tickClock_within {pp : Nat} (s : State) (hM : mm ||| 0x4000000000000000000000000000000010 = mm) (hW : Within mm pp s00 s) :
    Within mm pp s00 (State.tickClock s) := by
  unfold State.tickClock
  try dsimp only
  repeat' with_reducible
    first | assumption | apply wr_within | apply fresh_within1 | (refine State.fresh_within ?_ ?_ ‹_›)
          | apply ite_within | split | exact sub hM (by decide) | dsimp only

theorem State.tick_within {pp : Nat} (s0 : State) (v : Nat) (i : Int) (hM : mm ||| 0x2C08138202053FFC0012098E02038140010 = mm) (hW : Within mm pp s00 s0) :
    Within mm pp s00 (State.tick s0 v i) := by
  unfold State.tick
  try dsimp only
  repeat' with_reducible
    first | assumption | apply showAges_within | apply tickClock_within | apply tickDeficit_within
          | apply tickEngines_within | apply tickHead_within | apply tickOverload_within
          | apply tickPair_within | apply tickPorts_within | apply tickSupply_within
          | exact sub hM (by decide) | dsimp only

theorem execManagementTick_within (pp : Nat) (feedMv : Nat) (feedMa : Int) (s : State) :
    ∀ u, execManagementTick feedMv feedMa s = .next u → Within 0x2C08138202053FFC0012098E02038140010 pp s u := by
  intro u hu
  cases hu
  have hM : 0x2C08138202053FFC0012098E02038140010 ||| 0x2C08138202053FFC0012098E02038140010 = 0x2C08138202053FFC0012098E02038140010 := rfl
  have hW := Within.refl 0x2C08138202053FFC0012098E02038140010 pp s
  try dsimp only
  repeat' with_reducible
    first | assumption | apply tick_within | apply ite_within | split | exact sub hM (by decide) | dsimp only

theorem execOfferReadvertise_within (p : Port) (s : State) :
    ∀ u, execOfferReadvertise p s = .next u → Within 0x200000180000E80000800000000000 p s u := by
  intro u hu
  cases hu
  have hM : 0x200000180000E80000800000000000 ||| 0x200000180000E80000800000000000 = 0x200000180000E80000800000000000 := rfl
  have hW := Within.refl 0x200000180000E80000800000000000 p s
  try dsimp only
  repeat' with_reducible
    first | assumption | apply modPort_own | apply bump_within | apply readvIfWanted_within
          | apply readvertise_within | apply ite_within | split | (intro _ _ _) | (intro _ _)
          | exact sub hM (by decide) | decide | dsimp only

theorem State.loamShed_within (s : State) (p : Port) (hM : mm ||| 0xE00000000000 = mm) (hW : Within mm p s00 s) :
    Within mm p s00 (State.loamShed s p) := by
  unfold State.loamShed
  try dsimp only
  repeat' with_reducible
    first | assumption | apply flag_own | apply wr_own | apply bump_within | apply irq_within
          | apply ite_within | split | exact sub hM (by decide) | decide | dsimp only

theorem State.loamShed_all {pp : Nat} (s : State) (p : Port) (hM : mm ||| 0xE00000000000 = mm) (hW : Within mm pp s00 s) :
    Within mm pp s00 (State.loamShed s p) := by
  unfold State.loamShed
  try dsimp only
  repeat' with_reducible
    first | assumption | apply bump_within | apply flag_within | apply irq_within
          | apply wr_within | apply ite_within | split | exact sub hM (by decide) | dsimp only

theorem State.shedInOrder_within {pp : Nat} (s : State) (order l : List Port) (hM : mm ||| 0xE00000000000 = mm) (hW : Within mm pp s00 s) :
    Within mm pp s00 (s.shedInOrder order l) := by
  induction l generalizing s with
  | nil => exact hW
  | cons p t ih =>
    unfold State.shedInOrder
    split
    · exact hW
    · split
      · exact ih _ hW
      · exact ih _ (State.loamShed_all _ _ (sub hM (by decide)) hW)

theorem execSelfShed_within (pp : Nat) (s : State) :
    ∀ u, execSelfShed s = .next u → Within 0x200000000000000000E00000000000 pp s u := by
  intro u hu
  cases hu
  have hM : 0x200000000000000000E00000000000 ||| 0x200000000000000000E00000000000 = 0x200000000000000000E00000000000 := rfl
  have hW := Within.refl 0x200000000000000000E00000000000 pp s
  try dsimp only
  repeat' with_reducible
    first | assumption | apply sendUrgent_within | apply shedInOrder_within | apply ite_within | split
          | exact sub hM (by decide) | dsimp only

theorem execForcedReadvShed_within (p : Port) (s : State) :
    ∀ u, execForcedReadvShed p s = .next u → Within 0x200000000000000000E00000000000 p s u := by
  intro u hu
  cases hu
  have hM : 0x200000000000000000E00000000000 ||| 0x200000000000000000E00000000000 = 0x200000000000000000E00000000000 := rfl
  have hW := Within.refl 0x200000000000000000E00000000000 p s
  try dsimp only
  repeat' with_reducible
    first | assumption | apply loamShed_within | apply sendUrgent_within | apply ite_within | split
          | exact sub hM (by decide) | dsimp only

theorem execShedExpiry_within (p : Port) (s : State) :
    ∀ u, execShedExpiry p s = .next u → Within 0x200000080000000000E00000000000 p s u := by
  intro u hu
  cases hu
  have hM : 0x200000080000000000E00000000000 ||| 0x200000080000000000E00000000000 = 0x200000080000000000E00000000000 := rfl
  have hW := Within.refl 0x200000080000000000E00000000000 p s
  try dsimp only
  repeat' with_reducible
    first | assumption | apply bump_within | apply irq_within | apply clearShed_within
          | apply sendUrgent_within | apply ite_within | split | exact sub hM (by decide) | dsimp only

/-! ## Machine/Pair.lean -/

theorem State.authFail_within {pp : Nat} (s : State) (serial : Nat) (hM : mm ||| 0x400000000000000A00140000 = mm) (hW : Within mm pp s00 s) :
    Within mm pp s00 (State.authFail s serial) := by
  unfold State.authFail
  try dsimp only
  repeat' with_reducible
    first | assumption | apply bump_within | apply event_sys | apply irq_within
          | exact sub hM (by decide) | decide | dsimp only

theorem State.authPass_within {pp : Nat} (s : State) (h : Hello) (hM : mm ||| 0x200000000000000000000400000000 = mm) (hW : Within mm pp s00 s) :
    Within mm pp s00 (State.authPass s h) := by
  unfold State.authPass
  try dsimp only
  repeat' with_reducible
    first | assumption | apply pr_within | apply startClaim_within | apply ite_within | split
          | (intro _ _ _) | (intro _ _) | exact sub hM (by decide) | dsimp only

theorem State.rxHello_within {pp : Nat} (s : State) (h : Hello) (hM : mm ||| 0x200000400000000000000E00140000 = mm) (hW : Within mm pp s00 s) :
    Within mm pp s00 (State.rxHello s h) := by
  unfold State.rxHello
  try dsimp only
  repeat' with_reducible
    first | assumption | apply wr_within | apply authFail_within | apply authPass_within
          | apply pr_within | apply sendHello_within | apply ite_within | split | (intro _ _ _)
          | (intro _ _) | exact sub hM (by decide) | dsimp only

theorem State.followPwm_within (s : State) (p : Port) (i : LoopImg) (hM : mm ||| 0x80002010000000000000000 = mm) (hW : Within mm p s00 s) :
    Within mm p s00 (State.followPwm s p i) := by
  unfold State.followPwm
  try dsimp only
  repeat' with_reducible
    first | assumption | apply wr_own | apply setPeriod_within | apply ite_within | split
          | exact sub hM (by decide) | decide | dsimp only

theorem State.followPwm_all {pp : Nat} (s : State) (p : Port) (i : LoopImg) (hM : mm ||| 0x102000010000000000000000 = mm) (hW : Within mm pp s00 s) :
    Within mm pp s00 (State.followPwm s p i) := by
  unfold State.followPwm
  try dsimp only
  repeat' with_reducible
    first | assumption | apply wr_within | apply setPeriod_all | apply ite_within | split
          | exact sub hM (by decide) | dsimp only

theorem State.rxLoop_within {pp : Nat} (s : State) (g : Fin 4) (l : List LoopImg) (hM : mm ||| 0x200000102E80010000002600000000 = mm) (hW : Within mm pp s00 s) :
    Within mm pp s00 (State.rxLoop s g l) := by
  unfold State.rxLoop
  try dsimp only
  repeat' with_reducible
    first | assumption | apply modPort_within | apply wrBit_within | apply pr_within
          | apply setMirror_within | apply followPwm_all | apply foldl_within | split | (intro _ _ _)
          | (intro _ _) | exact sub hM (by decide) | dsimp only

theorem State.rxCache_within (s : State) (p : Port) (e : CacheImg) (hM : mm ||| 0x80000480000000000000000 = mm) (hW : Within mm p s00 s) :
    Within mm p s00 (State.rxCache s p e) := by
  unfold State.rxCache
  try dsimp only
  repeat' with_reducible
    first | assumption | apply flag_own | apply wr_own | apply pe_within | apply ite_within | split
          | (intro _ _ _) | (intro _ _) | exact sub hM (by decide) | decide | dsimp only

theorem State.rxCache_all {pp : Nat} (s : State) (p : Port) (e : CacheImg) (hM : mm ||| 0x100480000000000000000000 = mm) (hW : Within mm pp s00 s) :
    Within mm pp s00 (State.rxCache s p e) := by
  unfold State.rxCache
  try dsimp only
  repeat' with_reducible
    first | assumption | apply flag_within | apply wr_within | apply pe_all | apply ite_within
          | split | (intro _ _ _) | (intro _ _) | exact sub hM (by decide) | dsimp only

theorem State.rxState_within {pp : Nat} (s : State) (x : StateImg) (hM : mm ||| 0x80010102080000000410000000000 = mm) (hW : Within mm pp s00 s) :
    Within mm pp s00 (State.rxState s x) := by
  unfold State.rxState
  try dsimp only
  repeat' with_reducible
    first | assumption | apply flag_within | apply wr_within | apply forPorts_within
          | apply setCap_within | apply model_all | apply swp_all | apply ite_within
          | apply getD_within | split | (intro _ _ _) | (intro _ _) | apply within_mk | exact Or.inr rfl
          | exact Or.inl (bitOf hM (by decide)) | exact sub hM (by decide) | dsimp only

theorem State.rxRecord_within {pp : Nat} (s : State) (slot : Nat) (r : Option LedRec) (hM : mm ||| 0x100000000000000000002000000000 = mm) (hW : Within mm pp s00 s) :
    Within mm pp s00 (State.rxRecord s slot r) := by
  unfold State.rxRecord
  try dsimp only
  repeat' with_reducible
    first | assumption | apply wr_within | apply journalDue_within | apply showUsed_within | split
          | (intro _ _ _) | (intro _ _) | apply within_mk | exact Or.inr rfl | exact Or.inl (bitOf hM (by decide))
          | exact sub hM (by decide) | dsimp only

theorem State.rxTable_within (s : State) (p : Port) (l : List Byte) (hM : mm ||| 0x480012002018000000140000 = mm) (hW : Within mm p s00 s) :
    Within mm p s00 (State.rxTable s p l) := by
  unfold State.rxTable
  try dsimp only
  repeat' with_reducible
    first | assumption | apply pendOne_within | exact sub hM (by decide) | dsimp only

theorem State.rxTable_all {pp : Nat} (s : State) (p : Port) (l : List Byte) (hM : mm ||| 0x512000002018000000140000 = mm) (hW : Within mm pp s00 s) :
    Within mm pp s00 (State.rxTable s p l) := by
  unfold State.rxTable
  try dsimp only
  repeat' with_reducible
    first | assumption | apply pendOne_all | exact sub hM (by decide) | dsimp only

theorem State.rxPolicy_within {pp : Nat} (s : State) (tgt : Nat) (l : List Byte) (hM : mm ||| 0xC04338010855BE800120186180F8140000 = mm) (hW : Within mm pp s00 s) :
    Within mm pp s00 (State.rxPolicy s tgt l) := by
  unfold State.rxPolicy
  try dsimp only
  repeat' with_reducible
    first | assumption | apply objApply_within | apply persistObj_within | apply putPol_within
          | apply setProfile_all | apply ite_within | split | exact sub hM (by decide) | dsimp only

theorem State.rxMarks_within {pp : Nat} (s : State) (m : Word) (failed : List Nat) (hM : mm ||| 0x80200000010000000000000000000000 = mm) (hW : Within mm pp s00 s) :
    Within mm pp s00 (State.rxMarks s m failed) := by
  unfold State.rxMarks
  try dsimp only
  repeat' with_reducible
    first | assumption | apply flag_within | apply forPorts_within | apply pr_within | split
          | (intro _ _ _) | (intro _ _) | apply within_mk | exact Or.inr rfl | exact Or.inl (bitOf hM (by decide))
          | exact sub hM (by decide) | dsimp only

theorem State.rxMirror_within {pp : Nat} (s : State) (b : SelBody) (hM : mm ||| 0xC0C338011855BE8001201861A6F8140000 = mm) (hW : Within mm pp s00 s) :
    Within mm pp s00 (State.rxMirror s b) := by
  unfold State.rxMirror
  try dsimp only
  repeat' with_reducible
    first | assumption | apply pr_within | apply rxLoop_within | apply rxMarks_within
          | apply rxPolicy_within | apply rxRecord_within | apply rxState_within
          | apply rxCache_all | apply rxTable_all | split | (intro _ _ _) | (intro _ _)
          | exact sub hM (by decide) | dsimp only

theorem State.rxBody_within {pp : Nat} (s : State) (b : SelBody) (hM : mm ||| 0xC0C338011C55FEC001201861A6F8140000 = mm) (hW : Within mm pp s00 s) :
    Within mm pp s00 (State.rxBody s b) := by
  unfold State.rxBody
  try dsimp only
  repeat' with_reducible
    first | assumption | apply applyUrgent_within | apply rxMirror_within | apply ite_within | split
          | exact sub hM (by decide) | dsimp only

theorem State.rxAck_within {pp : Nat} (s : State) (n : Nat) (hM : mm ||| 0x200000100E80000000000000000000 = mm) (hW : Within mm pp s00 s) :
    Within mm pp s00 (State.rxAck s n) := by
  unfold State.rxAck
  try dsimp only
  repeat' with_reducible
    first | assumption | apply forPorts_within | apply pr_within | apply pump_all | apply ite_within
          | split | (intro _ _ _) | (intro _ _) | exact sub hM (by decide) | dsimp only

theorem State.rxReliable_within {pp : Nat} (s : State) (seq : Nat) (b : SelBody) (hM : mm ||| 0xC0C338011C55FEC001201861A6F8140000 = mm) (hW : Within mm pp s00 s) :
    Within mm pp s00 (State.rxReliable s seq b) := by
  unfold State.rxReliable
  try dsimp only
  repeat' with_reducible
    first | assumption | apply pr_within | apply rxBody_within | apply ite_within | split | (intro _ _ _)
          | (intro _ _) | exact sub hM (by decide) | dsimp only

theorem execSelvedgeFrame_within (pp : Nat) (good : Bool) (seq : Word) (b : SelBody) (s : State) :
    ∀ u, execSelvedgeFrame good seq b s = .next u → Within 0xC0C338011C55FEC001201861AEF8140000 pp s u := by
  intro u hu
  cases hu
  have hM : 0xC0C338011C55FEC001201861AEF8140000 ||| 0xC0C338011C55FEC001201861AEF8140000 = 0xC0C338011C55FEC001201861AEF8140000 := rfl
  have hW := Within.refl 0xC0C338011C55FEC001201861AEF8140000 pp s
  try dsimp only
  repeat' with_reducible
    first | assumption | apply bump_within | apply rxAck_within | apply rxBody_within
          | apply rxHello_within | apply rxReliable_within | apply ite_within | split
          | exact sub hM (by decide) | dsimp only

theorem State.enrol_within {pp : Nat} (s : State) (key : List Byte) (persist : Bool) (hM : mm ||| 0xC001200100517E80018000012E38140000 = mm) (hW : Within mm pp s00 s) :
    Within mm pp s00 (State.enrol s key persist) := by
  unfold State.enrol
  try dsimp only
  repeat' with_reducible
    first | assumption | apply pairFit_within | apply pr_within | apply selDown_within
          | apply toStandby_within | apply ite_within | split | (intro _ _ _) | (intro _ _)
          | exact sub hM (by decide) | dsimp only

theorem State.cmdPairEnrol_within {pp : Nat} (s : State) (k : Packet) (hM : mm ||| 0xC001200100517E80018000012E38140000 = mm) (hW : Within mm pp s00 s) :
    Within mm pp s00 (State.cmdPairEnrol s k) := by
  unfold State.cmdPairEnrol
  try dsimp only
  repeat' with_reducible
    first | assumption | apply answer_within | apply enrol_within | apply formed_within
          | apply offStandby_within | apply ite_within | split | (intro _ _ _) | (intro _ _)
          | exact sub hM (by decide) | dsimp only

theorem execPairEnrol_within (pp : Nat) (k : Packet) (s : State) :
    ∀ u, execPairEnrol k s = .next u → Within 0xC001200100517E80018000012E38140000 pp s u := by
  intro u hu
  cases hu
  have hM : 0xC001200100517E80018000012E38140000 ||| 0xC001200100517E80018000012E38140000 = 0xC001200100517E80018000012E38140000 := rfl
  have hW := Within.refl 0xC001200100517E80018000012E38140000 pp s
  try dsimp only
  repeat' with_reducible
    first | assumption | apply cmdPairEnrol_within | apply serve_within | (intro _ _ _) | (intro _ _)
          | exact sub hM (by decide) | dsimp only

/-! ## Machine/Update.lean -/

theorem State.clearStage_within {pp : Nat} (s : State) (hM : mm ||| 0x8000000000000000000000000000000 = mm) (hW : Within mm pp s00 s) :
    Within mm pp s00 (State.clearStage s) := by
  unfold State.clearStage
  try dsimp only
  repeat' with_reducible
    first | assumption | apply flashRec_within | split | (intro _ _ _) | (intro _ _) | exact sub hM (by decide)
          | dsimp only

theorem State.stagePackage_within {pp : Nat} (s : State) (h : List Byte) (mode : Nat) (hM : mm ||| 0x18000000400000000000000000143000 = mm) (hW : Within mm pp s00 s) :
    Within mm pp s00 (State.stagePackage s h mode) := by
  unfold State.stagePackage
  try dsimp only
  repeat' with_reducible
    first | assumption | apply wr_within | apply bootRec_within | apply flashRec_within
          | apply updState_within | split | (intro _ _ _) | (intro _ _) | exact sub hM (by decide) | dsimp only

theorem State.cmdUpdBegin_within {pp : Nat} (s : State) (k : Packet) (hM : mm ||| 0xC019000000400000000000000038147000 = mm) (hW : Within mm pp s00 s) :
    Within mm pp s00 (State.cmdUpdBegin s k) := by
  unfold State.cmdUpdBegin
  try dsimp only
  repeat' with_reducible
    first | assumption | apply answer_within | apply clearStage_within | apply formed_within
          | apply markSlot_within | apply offStandby_within | apply stagePackage_within
          | apply updFails_within | apply ite_within | split | (intro _ _ _) | (intro _ _)
          | exact sub hM (by decide) | dsimp only

theorem State.updData_within {pp : Nat} (s : State) (k : Packet) (hM : mm ||| 0xC019000000400000000000000038142000 = mm) (hW : Within mm pp s00 s) :
    Within mm pp s00 (State.updData s k) := by
  unfold State.updData
  try dsimp only
  repeat' with_reducible
    first | assumption | apply wr_within | apply answer_within | apply bootRec_within
          | apply flashRec_within | apply ite_within | split | (intro _ _ _) | (intro _ _)
          | exact sub hM (by decide) | dsimp only

theorem State.cmdUpdData_within {pp : Nat} (s : State) (k : Packet) (hM : mm ||| 0xC019000000400000000000000038142000 = mm) (hW : Within mm pp s00 s) :
    Within mm pp s00 (State.cmdUpdData s k) := by
  unfold State.cmdUpdData
  try dsimp only
  repeat' with_reducible
    first | assumption | apply formed_within | apply offStandby_within | apply updData_within
          | split | (intro _ _ _) | (intro _ _) | exact sub hM (by decide) | dsimp only

theorem State.cmdUpdEnd_within {pp : Nat} (s : State) (k : Packet) (hM : mm ||| 0xC009000000400000000000000038147000 = mm) (hW : Within mm pp s00 s) :
    Within mm pp s00 (State.cmdUpdEnd s k) := by
  unfold State.cmdUpdEnd
  try dsimp only
  repeat' with_reducible
    first | assumption | apply answer_within | apply flashRec_within | apply formed_within
          | apply offStandby_within | apply updFails_within | apply updState_within
          | apply ite_within | split | (intro _ _ _) | (intro _ _) | exact sub hM (by decide) | dsimp only

theorem State.cmdUpdStatus_within {pp : Nat} (s : State) (k : Packet) (hM : mm ||| 0xC001000000400000000000000038140000 = mm) (hW : Within mm pp s00 s) :
    Within mm pp s00 (State.cmdUpdStatus s k) := by
  unfold State.cmdUpdStatus
  try dsimp only
  repeat' with_reducible
    first | assumption | apply formed_within | apply offStandby_within | apply respond_within
          | split | (intro _ _ _) | (intro _ _) | exact sub hM (by decide) | dsimp only

theorem State.updAbort_within {pp : Nat} (s : State) (k : Packet) (slot : Nat) (hM : mm ||| 0xC009000000400000000000000038143000 = mm) (hW : Within mm pp s00 s) :
    Within mm pp s00 (State.updAbort s k slot) := by
  unfold State.updAbort
  try dsimp only
  repeat' with_reducible
    first | assumption | apply answer_within | apply clearStage_within | apply markSlot_within
          | apply updState_within | apply ite_within | split | exact sub hM (by decide) | dsimp only

theorem State.cmdUpdAbort_within {pp : Nat} (s : State) (k : Packet) (hM : mm ||| 0xC009000000400000000000000038143000 = mm) (hW : Within mm pp s00 s) :
    Within mm pp s00 (State.cmdUpdAbort s k) := by
  unfold State.cmdUpdAbort
  try dsimp only
  repeat' with_reducible
    first | assumption | apply formed_within | apply offStandby_within | apply updAbort_within
          | split | (intro _ _ _) | (intro _ _) | exact sub hM (by decide) | dsimp only

theorem State.raiseArb_within {pp : Nat} (s : State) (e : OtpEnv) (i v : Nat) (hM : mm ||| 0x800400000000000000000143400 = mm) (hW : Within mm pp s00 s) :
    Within mm pp s00 (State.raiseArb s e i v) := by
  unfold State.raiseArb
  try dsimp only
  repeat' with_reducible
    first | assumption | apply event_sys | apply irq_within | apply raiseCounter_within
          | apply ite_within | split | exact sub hM (by decide) | decide | dsimp only

theorem State.confirm_within {pp : Nat} (s : State) (e : OtpEnv) (hM : mm ||| 0x8000800400000000000000000147400 = mm) (hW : Within mm pp s00 s) :
    Within mm pp s00 (State.confirm s e) := by
  unfold State.confirm
  try dsimp only
  repeat' with_reducible
    first | assumption | apply bump_within | apply flag_within | apply raiseArb_within
          | apply setDir_within | apply updState_within | apply ite_within | split | (intro _ _ _)
          | (intro _ _) | exact sub hM (by decide) | dsimp only

theorem execAutoConfirm_within (pp : Nat) (e : OtpEnv) (s : State) :
    ∀ u, execAutoConfirm e s = .next u → Within 0x8000800400000000000000000147400 pp s u := by
  intro u hu
  cases hu
  have hM : 0x8000800400000000000000000147400 ||| 0x8000800400000000000000000147400 = 0x8000800400000000000000000147400 := rfl
  have hW := Within.refl 0x8000800400000000000000000147400 pp s
  try dsimp only
  repeat' with_reducible
    first | assumption | apply confirm_within | apply ite_within | split | exact sub hM (by decide) | dsimp only

theorem State.rollOn_within1 {pp : Nat} (s : State) (i : Nat) (l : List Nat) (hM : mm ||| 0xC011260003D1FEC001219800003816D000 = mm) (hW : Within mm pp s00 s) :
    Within mm pp s00 (s.rollOn i l).1 := by
  induction l generalizing s with
  | nil => exact hW
  | cons e t ih =>
    unfold State.rollOn
    split
    · exact hW
    · split
      · exact ih _ (State.bootRec_within _ _ (sub hM (by decide)) (State.reloadEngine_within (sub hM (by decide)) hW ‹_›))
      · dsimp only
        exact State.bootRec_within _ _ (sub hM (by decide)) (State.reloadEngine_within (sub hM (by decide)) hW ‹_›)
theorem State.rollOn_within {pp i : Nat} {l : List Nat} {s ss : State} {xx} (hM : mm ||| 0xC011260003D1FEC001219800003816D000 = mm) (hW : Within mm pp s00 s)
    (he : s.rollOn i l = (ss, xx)) : Within mm pp s00 ss := by
  have := State.rollOn_within1 s i l hM hW; rw [he] at this; exact this

theorem State.roll_within {pp : Nat} (s : State) (hM : mm ||| 0xC019260003D1FEC001219800003816F000 = mm) (hW : Within mm pp s00 s) :
    Within mm pp s00 (State.roll s) := by
  unfold State.roll
  try dsimp only
  repeat' with_reducible
    first | assumption | apply flag_within | apply bootRec_within | apply fellBack_within
          | apply markSlot_within | apply reloadEngine_within1
          | (refine State.reloadEngine_within ?_ ?_ ‹_›) | apply rollOn_within1
          | (refine State.rollOn_within ?_ ?_ ‹_›) | apply setDir_within | apply updFails_within
          | apply updState_within | apply foldl_within | split | (intro _ _ _) | (intro _ _)
          | exact sub hM (by decide) | dsimp only

theorem State.cmdUpdCommit_within {pp : Nat} (s : State) (k : Packet) (e : OtpEnv) (hM : mm ||| 0xC019260803D1FEC001219800003816F400 = mm) (hW : Within mm pp s00 s) :
    Within mm pp s00 (State.cmdUpdCommit s k e) := by
  unfold State.cmdUpdCommit
  try dsimp only
  repeat' with_reducible
    first | assumption | apply answer_within | apply bootRec_within | apply confirm_within
          | apply formed_within | apply markSlot_within | apply offStandby_within
          | apply roll_within | apply updState_within | apply ite_within | split | (intro _ _ _)
          | (intro _ _) | exact sub hM (by decide) | dsimp only

theorem State.setSlot_within {pp : Nat} (s : State) (i : Nat) (f : List Byte → List Byte) (hM : mm ||| 0x8000000000000000000000000000000 = mm) (hW : Within mm pp s00 s) :
    Within mm pp s00 (State.setSlot s i f) := by
  unfold State.setSlot
  try dsimp only
  repeat' with_reducible
    first | assumption | apply flashRec_within | apply ite_within | split | (intro _ _ _) | (intro _ _)
          | exact sub hM (by decide) | dsimp only

theorem State.applied_within {pp : Nat} (s : State) (hM : mm ||| 0x8000000500000000000000000147000 = mm) (hW : Within mm pp s00 s) :
    Within mm pp s00 (State.applied s) := by
  unfold State.applied
  try dsimp only
  repeat' with_reducible
    first | assumption | apply markSlot_within | apply updFails_within | apply updState_within
          | apply take_all | apply ite_within | split | exact sub hM (by decide) | dsimp only

theorem State.deltaBlock_within {pp : Nat} (s : State) (good : Bool) (hM : mm ||| 0x8100000500000000000004000147000 = mm) (hW : Within mm pp s00 s) :
    Within mm pp s00 (State.deltaBlock s good) := by
  unfold State.deltaBlock
  try dsimp only
  repeat' with_reducible
    first | assumption | apply wr_within | apply applied_within | apply flashRec_within
          | apply journal_within | apply setSlot_within | apply updFails_within | apply ite_within
          | split | (intro _ _ _) | (intro _ _) | exact sub hM (by decide) | dsimp only

theorem execDeltaBlock_within (pp : Nat) (good : Bool) (s : State) :
    ∀ u, execDeltaBlock good s = .next u → Within 0x8100000500000000000004000147000 pp s u := by
  intro u hu
  cases hu
  have hM : 0x8100000500000000000004000147000 ||| 0x8100000500000000000004000147000 = 0x8100000500000000000004000147000 := rfl
  have hW := Within.refl 0x8100000500000000000004000147000 pp s
  try dsimp only
  repeat' with_reducible
    first | assumption | apply deltaBlock_within | apply ite_within | split | exact sub hM (by decide)
          | dsimp only

theorem State.examine_within {pp : Nat} (s : State) (readOk : Bool) (hM : mm ||| 0x18000000400000000000000000147000 = mm) (hW : Within mm pp s00 s) :
    Within mm pp s00 (State.examine s readOk) := by
  unfold State.examine
  try dsimp only
  repeat' with_reducible
    first | assumption | apply bump_within | apply event_sys | apply wr_within
          | apply bootRec_within | apply markSlot_within | apply updState_within | apply ite_within
          | split | (intro _ _ _) | (intro _ _) | exact sub hM (by decide) | decide | dsimp only

theorem execUpdResumed_within (pp : Nat) (readOk : Bool) (s : State) :
    ∀ u, execUpdResumed readOk s = .next u → Within 0x18000000400000000000000000147000 pp s u := by
  intro u hu
  cases hu
  have hM : 0x18000000400000000000000000147000 ||| 0x18000000400000000000000000147000 = 0x18000000400000000000000000147000 := rfl
  have hW := Within.refl 0x18000000400000000000000000147000 pp s
  try dsimp only
  repeat' with_reducible
    first | assumption | apply examine_within | apply ite_within | split | exact sub hM (by decide) | dsimp only

theorem State.romBegin_within {pp : Nat} (s : State) (k : Packet) (slot : Option Nat) (hM : mm ||| 0xC019000000400000000000000038147000 = mm) (hW : Within mm pp s00 s) :
    Within mm pp s00 (State.romBegin s k slot) := by
  unfold State.romBegin
  try dsimp only
  repeat' with_reducible
    first | assumption | apply answer_within | apply clearStage_within | apply formed_within
          | apply markSlot_within | apply stagePackage_within | apply updFails_within
          | apply ite_within | split | (intro _ _ _) | (intro _ _) | exact sub hM (by decide) | dsimp only

theorem State.recoveryEnd_within {pp : Nat} (s : State) (k : Packet) (hM : mm ||| 0xC009000000400000000000000038147000 = mm) (hW : Within mm pp s00 s) :
    Within mm pp s00 (State.recoveryEnd s k) := by
  unfold State.recoveryEnd
  try dsimp only
  repeat' with_reducible
    first | assumption | apply wr_within | apply answer_within | apply markSlot_within
          | apply setSlot_within | apply updFails_within | apply updState_within | apply ite_within
          | split | (intro _ _ _) | (intro _ _) | exact sub hM (by decide) | dsimp only

theorem State.recoveryCommit_within {pp : Nat} (s : State) (k : Packet) (hM : mm ||| 0x3FFFFFFFFFFFFFFFFFFFFFFFFFFFFFFFFFF = mm) (hW : Within mm pp s00 s) :
    Within mm pp s00 (State.recoveryCommit s k) := by
  unfold State.recoveryCommit
  try dsimp only
  repeat' with_reducible
    first | assumption | apply answer_within | apply coldReset_within | apply formed_within
          | apply locked_within | apply sampleStraps_within | apply ite_within | split | (intro _ _ _)
          | (intro _ _) | exact sub hM (by decide) | dsimp only

theorem State.recoveryRom_within {pp : Nat} (s : State) (k : Packet) (hM : mm ||| 0x3FFFFFFFFFFFFFFFFFFFFFFFFFFFFFFFFFF = mm) (hW : Within mm pp s00 s) :
    Within mm pp s00 (State.recoveryRom s k) := by
  unfold State.recoveryRom
  try dsimp only
  repeat' with_reducible
    first | assumption | apply answer_within | apply cmdGetInfo_within
          | apply cmdOtpMarginScan_within | apply cmdOtpRead_within | apply cmdUpdStatus_within
          | apply formed_within | apply recoveryCommit_within | apply recoveryEnd_within
          | apply romBegin_within | apply updAbort_within | apply updData_within | split
          | (intro _ _ _) | (intro _ _) | exact sub hM (by decide) | dsimp only

theorem State.hostEnd_within {pp : Nat} (s : State) (k : Packet) (ms : Nat) (hM : mm ||| 0xE23FFE0D0BF5FEC001219A69F6F81EF502 = mm) (hW : Within mm pp s00 s) :
    Within mm pp s00 (State.hostEnd s k ms) := by
  unfold State.hostEnd
  try dsimp only
  repeat' with_reducible
    first | assumption | apply answer_within | apply bootRec_within | apply bringUp_within
          | apply markSlot_within | apply setSlot_within | apply updFails_within
          | apply updState_within | apply ite_within | split | (intro _ _ _) | (intro _ _)
          | exact sub hM (by decide) | dsimp only

theorem State.hostCommit_within {pp : Nat} (s : State) (k : Packet) (hM : mm ||| 0xC011000000400000000000000038140000 = mm) (hW : Within mm pp s00 s) :
    Within mm pp s00 (State.hostCommit s k) := by
  unfold State.hostCommit
  try dsimp only
  repeat' with_reducible
    first | assumption | apply answer_within | apply bootRec_within | apply formed_within
          | apply ite_within | split | (intro _ _ _) | (intro _ _) | exact sub hM (by decide) | dsimp only

theorem State.hostRom_within {pp : Nat} (s : State) (k : Packet) (ms : Nat) (hM : mm ||| 0xE23FFE0D0BF5FEC001219A69F6F81EF502 = mm) (hW : Within mm pp s00 s) :
    Within mm pp s00 (State.hostRom s k ms) := by
  unfold State.hostRom
  try dsimp only
  repeat' with_reducible
    first | assumption | apply answer_within | apply cmdGetInfo_within | apply cmdUpdStatus_within
          | apply formed_within | apply hostCommit_within | apply hostEnd_within
          | apply romBegin_within | apply updData_within | split | (intro _ _ _) | (intro _ _)
          | exact sub hM (by decide) | dsimp only

theorem State.serveUpd_within {pp : Nat} (s : State) (k : Packet) (ms : Nat) (f : State → State) (h_f : ∀ t, Within mm pp s00 t → Within mm pp s00 (f t)) (hM : mm ||| 0x3FFFFFFFFFFFFFFFFFFFFFFFFFFFFFFFFFF = mm) (hW : Within mm pp s00 s) :
    Within mm pp s00 (State.serveUpd s k ms f) := by
  unfold State.serveUpd
  try dsimp only
  repeat' with_reducible
    first | assumption | apply h_f | apply hostRom_within | apply recoveryRom_within | apply ite_within
          | split | exact sub hM (by decide) | dsimp only

theorem execUpdBegin_within (pp : Nat) (k : Packet) (s : State) :
    ∀ u, execUpdBegin k s = .next u → Within 0x3FFFFFFFFFFFFFFFFFFFFFFFFFFFFFFFFFF pp s u := by
  intro u hu
  cases hu
  have hM : 0x3FFFFFFFFFFFFFFFFFFFFFFFFFFFFFFFFFF ||| 0x3FFFFFFFFFFFFFFFFFFFFFFFFFFFFFFFFFF = 0x3FFFFFFFFFFFFFFFFFFFFFFFFFFFFFFFFFF := rfl
  have hW := Within.refl 0x3FFFFFFFFFFFFFFFFFFFFFFFFFFFFFFFFFF pp s
  try dsimp only
  repeat' with_reducible
    first | assumption | apply cmdUpdBegin_within | apply serveUpd_within | (intro _ _ _) | (intro _ _)
          | exact sub hM (by decide) | dsimp only

theorem execUpdData_within (pp : Nat) (k : Packet) (s : State) :
    ∀ u, execUpdData k s = .next u → Within 0x3FFFFFFFFFFFFFFFFFFFFFFFFFFFFFFFFFF pp s u := by
  intro u hu
  cases hu
  have hM : 0x3FFFFFFFFFFFFFFFFFFFFFFFFFFFFFFFFFF ||| 0x3FFFFFFFFFFFFFFFFFFFFFFFFFFFFFFFFFF = 0x3FFFFFFFFFFFFFFFFFFFFFFFFFFFFFFFFFF := rfl
  have hW := Within.refl 0x3FFFFFFFFFFFFFFFFFFFFFFFFFFFFFFFFFF pp s
  try dsimp only
  repeat' with_reducible
    first | assumption | apply cmdUpdData_within | apply serveUpd_within | (intro _ _ _) | (intro _ _)
          | exact sub hM (by decide) | dsimp only

theorem execUpdEnd_within (pp : Nat) (k : Packet) (ms : Nat) (s : State) :
    ∀ u, execUpdEnd k ms s = .next u → Within 0x3FFFFFFFFFFFFFFFFFFFFFFFFFFFFFFFFFF pp s u := by
  intro u hu
  cases hu
  have hM : 0x3FFFFFFFFFFFFFFFFFFFFFFFFFFFFFFFFFF ||| 0x3FFFFFFFFFFFFFFFFFFFFFFFFFFFFFFFFFF = 0x3FFFFFFFFFFFFFFFFFFFFFFFFFFFFFFFFFF := rfl
  have hW := Within.refl 0x3FFFFFFFFFFFFFFFFFFFFFFFFFFFFFFFFFF pp s
  try dsimp only
  repeat' with_reducible
    first | assumption | apply cmdUpdEnd_within | apply serveUpd_within | (intro _ _ _) | (intro _ _)
          | exact sub hM (by decide) | dsimp only

theorem execUpdStatus_within (pp : Nat) (k : Packet) (s : State) :
    ∀ u, execUpdStatus k s = .next u → Within 0x3FFFFFFFFFFFFFFFFFFFFFFFFFFFFFFFFFF pp s u := by
  intro u hu
  cases hu
  have hM : 0x3FFFFFFFFFFFFFFFFFFFFFFFFFFFFFFFFFF ||| 0x3FFFFFFFFFFFFFFFFFFFFFFFFFFFFFFFFFF = 0x3FFFFFFFFFFFFFFFFFFFFFFFFFFFFFFFFFF := rfl
  have hW := Within.refl 0x3FFFFFFFFFFFFFFFFFFFFFFFFFFFFFFFFFF pp s
  try dsimp only
  repeat' with_reducible
    first | assumption | apply cmdUpdStatus_within | apply serveUpd_within | (intro _ _ _) | (intro _ _)
          | exact sub hM (by decide) | dsimp only

theorem execUpdCommit_within (pp : Nat) (k : Packet) (e : OtpEnv) (s : State) :
    ∀ u, execUpdCommit k e s = .next u → Within 0x3FFFFFFFFFFFFFFFFFFFFFFFFFFFFFFFFFF pp s u := by
  intro u hu
  cases hu
  have hM : 0x3FFFFFFFFFFFFFFFFFFFFFFFFFFFFFFFFFF ||| 0x3FFFFFFFFFFFFFFFFFFFFFFFFFFFFFFFFFF = 0x3FFFFFFFFFFFFFFFFFFFFFFFFFFFFFFFFFF := rfl
  have hW := Within.refl 0x3FFFFFFFFFFFFFFFFFFFFFFFFFFFFFFFFFF pp s
  try dsimp only
  repeat' with_reducible
    first | assumption | apply cmdUpdCommit_within | apply serveUpd_within | (intro _ _ _) | (intro _ _)
          | exact sub hM (by decide) | dsimp only

theorem execUpdAbort_within (pp : Nat) (k : Packet) (s : State) :
    ∀ u, execUpdAbort k s = .next u → Within 0x3FFFFFFFFFFFFFFFFFFFFFFFFFFFFFFFFFF pp s u := by
  intro u hu
  cases hu
  have hM : 0x3FFFFFFFFFFFFFFFFFFFFFFFFFFFFFFFFFF ||| 0x3FFFFFFFFFFFFFFFFFFFFFFFFFFFFFFFFFF = 0x3FFFFFFFFFFFFFFFFFFFFFFFFFFFFFFFFFF := rfl
  have hW := Within.refl 0x3FFFFFFFFFFFFFFFFFFFFFFFFFFFFFFFFFF pp s
  try dsimp only
  repeat' with_reducible
    first | assumption | apply cmdUpdAbort_within | apply serveUpd_within | (intro _ _ _) | (intro _ _)
          | exact sub hM (by decide) | dsimp only

end Sys2Proof.Machine
end

