-- ==== Sys2Proof/Laws/FootHost.lean ====
section
/-! SUPPORT. What the block's operations may change (Safety.lean says what `Within` is), one lemma for each: command dispatch, power states, service, SMBus and host SPI.
`f_within` is for the command's own port, `f_all` for any port; each is proved from the lemmas of what its definition calls. -/

set_option linter.all false
set_option maxRecDepth 4000

namespace Sys2Proof.Machine
open State

variable {mm : Nat} {s00 : State}

/-! ## Machine/Transport.lean -/

theorem State.answerCheck_within {pp : Nat} (s : State) (ring st : Nat) (l : List Byte) (hM : mm ||| 0xC001000000400000000000000038140000 = mm) (hW : Within mm pp s00 s) :
    Within mm pp s00 (State.answerCheck s ring st l) := by
  unfold State.answerCheck
  try dsimp only
  repeat' with_reducible
    first | assumption | apply answer_within | apply ite_within | split | exact sub hM (by decide) | dsimp only

theorem State.commitPush_within1 {pp : Nat} (s : State) (ring : Nat) (l : List Byte) (busy : Bool) (hM : mm ||| 0xC00120000451F4C0010000E008381C0000 = mm) (hW : Within mm pp s00 s) :
    Within mm pp s00 (State.commitPush s ring l busy).1 := by
  unfold State.commitPush
  try dsimp only
  repeat' with_reducible
    first | assumption | exact Or.inr (sub hM (by decide)) | (refine State.pushPacket_within ?_ ?_ ‹_›)
          | apply pushRefused_within | apply ringFilled_within | apply stopPacket_within
          | apply ite_within | split | exact sub hM (by decide) | dsimp only
theorem State.commitPush_within {pp : Nat} {s : State} {ring : Nat} {l : List Byte} {busy : Bool} {ss xx} (hM : mm ||| 0xC00120000451F4C0010000E008381C0000 = mm) (hW : Within mm pp s00 s)
    (he : State.commitPush s ring l busy = (ss, xx)) : Within mm pp s00 ss := by
  have := State.commitPush_within1 s ring l busy hM hW; rw [he] at this; exact this

theorem State.judgePush_within1 {pp : Nat} (s : State) (ring : Nat) (l : List Byte) (trailer busy : Bool) (hM : mm ||| 0xC00120000451F4C0010000E008381C0000 = mm) (hW : Within mm pp s00 s) :
    Within mm pp s00 (State.judgePush s ring l trailer busy).1 := by
  unfold State.judgePush
  try dsimp only
  repeat' with_reducible
    first | assumption | apply answerCheck_within | apply commitPush_within1
          | (refine State.commitPush_within ?_ ?_ ‹_›) | apply ite_within | split | exact sub hM (by decide)
          | dsimp only
theorem State.judgePush_within {pp : Nat} {s : State} {ring : Nat} {l : List Byte} {trailer : Bool} {busy : Bool} {ss xx} (hM : mm ||| 0xC00120000451F4C0010000E008381C0000 = mm) (hW : Within mm pp s00 s)
    (he : State.judgePush s ring l trailer busy = (ss, xx)) : Within mm pp s00 ss := by
  have := State.judgePush_within1 s ring l trailer busy hM hW; rw [he] at this; exact this

theorem State.relock_within {pp : Nat} (s : State) (q : Fin 40) (hM : mm ||| 0x8000000000400000000000000000000000 = mm) (hW : Within mm pp s00 s) :
    Within mm pp s00 (State.relock s q) := by
  unfold State.relock
  try dsimp only
  repeat' with_reducible
    first | assumption | (refine setRing_entries_within _ _ _ rfl (.inr (sub hM (by decide))) ?_ ?_)
          | (refine setRing_erase_within _ _ _ _ rfl (.inr (sub hM (by decide))) ?_ ?_)
          | (refine setRing_drop_within _ _ _ _ rfl (.inr (sub hM (by decide))) ?_ ?_)
          | (refine setRing_empty_within _ _ _ rfl (.inr (sub hM (by decide))) ?_ ?_) | split
          | exact sub hM (by decide) | dsimp only

theorem State.removeTail_within {pp : Nat} (s : State) (q : Fin 40) (hM : mm ||| 0x8000000000400000000000000000140000 = mm) (hW : Within mm pp s00 s) :
    Within mm pp s00 (State.removeTail s q) := by
  unfold State.removeTail
  try dsimp only
  repeat' with_reducible
    first | assumption | exact Or.inr (sub hM (by decide))
          | (refine setRing_entries_within _ _ _ rfl (.inr (sub hM (by decide))) ?_ ?_)
          | (refine setRing_erase_within _ _ _ _ rfl (.inr (sub hM (by decide))) ?_ ?_)
          | (refine setRing_drop_within _ _ _ _ rfl (.inr (sub hM (by decide))) ?_ ?_)
          | (refine setRing_empty_within _ _ _ rfl (.inr (sub hM (by decide))) ?_ ?_) | apply ringDrained_within
          | exact sub hM (by decide) | dsimp only

/-! ## Machine/Commands.lean -/

theorem State.systemCommand_within {pp : Nat} (s : State) (k : Packet) (hM : mm ||| 0xE477F8010BF5BE8001209A61A7F81E8182 = mm) (hW : Within mm pp s00 s) :
    Within mm pp s00 (State.systemCommand s k) := by
  unfold State.systemCommand
  try dsimp only
  repeat' with_reducible
    first | assumption | apply cmdGetInfo_within | apply cmdGetPolicy_within | apply cmdNop_within
          | apply cmdReadSnap_within | apply cmdSetPolicy_within | apply cmdSnapshot_within
          | apply cmdTimeGet_within | apply cmdTimeSet_within | apply cmdWarmReset_within | split
          | exact sub hM (by decide) | dsimp only

theorem State.portCommand_within {pp : Nat} (s : State) (k : Packet) (hM : mm ||| 0xC0C120000055BEC0000002000038140002 = mm) (hW : Within mm pp s00 s) :
    Within mm pp s00 (State.portCommand s k) := by
  unfold State.portCommand
  try dsimp only
  repeat' with_reducible
    first | assumption | apply cmdPortClearFault_within | apply cmdPortDisable_within
          | apply cmdPortEnable_within | apply cmdPortGetState_within
          | apply cmdPortHardReset_within | apply cmdPortSendVdm_within
          | apply cmdPortSetProfile_within | apply cmdPortSwap_within | apply cmdPortTest_within
          | split | exact sub hM (by decide) | dsimp only

theorem State.ledgerCommand_within {pp : Nat} (s : State) (k : Packet) (hM : mm ||| 0xC001300000500000000000002038140000 = mm) (hW : Within mm pp s00 s) :
    Within mm pp s00 (State.ledgerCommand s k) := by
  unfold State.ledgerCommand
  try dsimp only
  repeat' with_reducible
    first | assumption | apply cmdLedgerExport_within | apply cmdLedgerFind_within
          | apply cmdLedgerPurge_within | apply cmdLedgerRead_within
          | apply cmdLedgerWriteUser_within | split | exact sub hM (by decide) | dsimp only

theorem State.updateCommand_within {pp : Nat} (s : State) (k : Packet) (e : OtpEnv) (hM : mm ||| 0xE03DEE0803F5FEC001219A0126381EF502 = mm) (hW : Within mm pp s00 s) :
    Within mm pp s00 (State.updateCommand s k e) := by
  unfold State.updateCommand
  try dsimp only
  repeat' with_reducible
    first | assumption | apply cmdCoreReload_within | apply cmdCoreRetire_within
          | apply cmdUpdAbort_within | apply cmdUpdBegin_within | apply cmdUpdCommit_within
          | apply cmdUpdData_within | apply cmdUpdEnd_within | apply cmdUpdStatus_within | split
          | exact sub hM (by decide) | dsimp only

theorem State.otherCommand_within {pp : Nat} (s : State) (k : Packet) (e : OtpEnv) (hM : mm ||| 0xC001200900517E80018000012E38142E00 = mm) (hW : Within mm pp s00 s) :
    Within mm pp s00 (State.otherCommand s k e) := by
  unfold State.otherCommand
  try dsimp only
  repeat' with_reducible
    first | assumption | apply cmdOtpLock_within | apply cmdOtpMarginScan_within
          | apply cmdOtpProgram_within | apply cmdOtpRead_within | apply cmdPairEnrol_within
          | apply cmdPairHandover_within | apply cmdPairLeave_within | apply cmdPairStatus_within
          | apply cmdWeftRoute_within | apply cmdWeftSend_within | apply cmdWeftStatus_within
          | split | exact sub hM (by decide) | dsimp only

theorem State.command_within {pp : Nat} (s : State) (k : Packet) (e : OtpEnv) (hM : mm ||| 0xE4FFFE090BF5FEC001A19A61AFF81EFF82 = mm) (hW : Within mm pp s00 s) :
    Within mm pp s00 (State.command s k e) := by
  unfold State.command
  try dsimp only
  repeat' with_reducible
    first | assumption | apply ledgerCommand_within | apply otherCommand_within
          | apply portCommand_within | apply systemCommand_within | apply updateCommand_within
          | apply ite_within | split | exact sub hM (by decide) | dsimp only

theorem State.serveRing_within {pp : Nat} (s : State) (q : Fin 40) (e : OtpEnv) (hM : mm ||| 0xE4FFFE090BF5FEC001A19A61AFF81EFF82 = mm) (hW : Within mm pp s00 s) :
    Within mm pp s00 (State.serveRing s q e) := by
  unfold State.serveRing
  try dsimp only
  repeat' with_reducible
    first | assumption | apply command_within | apply removeTail_within | split | exact sub hM (by decide)
          | dsimp only

theorem State.serveFabric_within {pp : Nat} (s : State) (a : WeftAsm) (e : OtpEnv) (hM : mm ||| 0xE4FFFE090BF5FEC001A19A61AFF81EFF82 = mm) (hW : Within mm pp s00 s) :
    Within mm pp s00 (State.serveFabric s a e) := by
  unfold State.serveFabric
  try dsimp only
  repeat' with_reducible
    first | assumption | apply answer_within | apply command_within | apply weftRec_within
          | apply ite_within | split | (intro _ _ _) | (intro _ _) | exact sub hM (by decide) | dsimp only

theorem State.setTurn_within {pp : Nat} (s : State) (i : Fin 2) (b : Bool) (hM : mm ||| 0x1000000000000000000000000000000 = mm) (hW : Within mm pp s00 s) :
    Within mm pp s00 (State.setTurn s i b) := by
  unfold State.setTurn
  try dsimp only
  repeat' with_reducible
    first | assumption | apply weftRec_within | split | (intro _ _ _) | (intro _ _) | exact sub hM (by decide)
          | dsimp only

theorem State.serveLane_within {pp : Nat} (s : State) (i : Fin 2) (e : OtpEnv) (hM : mm ||| 0xE4FFFE090BF5FEC001A19A61AFF81EFF82 = mm) (hW : Within mm pp s00 s) :
    Within mm pp s00 (State.serveLane s i e) := by
  unfold State.serveLane
  try dsimp only
  repeat' with_reducible
    first | assumption | apply serveFabric_within | apply serveRing_within | apply setTurn_within
          | apply ite_within | split | exact sub hM (by decide) | dsimp only

theorem State.dispatchNext_within {pp : Nat} (s : State) (e : OtpEnv) (hM : mm ||| 0xE4FFFE090BF5FEC001A19A61AFF81EFF82 = mm) (hW : Within mm pp s00 s) :
    Within mm pp s00 (State.dispatchNext s e) := by
  unfold State.dispatchNext
  try dsimp only
  repeat' with_reducible
    first | assumption | apply serveLane_within | apply serveRing_within | apply ite_within | split
          | apply within_mk | exact Or.inr rfl | exact Or.inl (bitOf hM (by decide)) | exact sub hM (by decide)
          | dsimp only

theorem execCommandDispatch_within (pp : Nat) (e : OtpEnv) (s : State) :
    ∀ u, execCommandDispatch e s = .next u → Within 0xE4FFFE090BF5FEC001A19A61AFF81EFF82 pp s u := by
  intro u hu
  cases hu
  have hM : 0xE4FFFE090BF5FEC001A19A61AFF81EFF82 ||| 0xE4FFFE090BF5FEC001A19A61AFF81EFF82 = 0xE4FFFE090BF5FEC001A19A61AFF81EFF82 := rfl
  have hW := Within.refl 0xE4FFFE090BF5FEC001A19A61AFF81EFF82 pp s
  try dsimp only
  repeat' with_reducible
    first | assumption | apply dispatchNext_within | apply ite_within | split | exact sub hM (by decide)
          | dsimp only

theorem State.romTake_within {pp : Nat} (s : State) (f : State → Packet → State) (h_f : ∀ t a, Within mm pp s00 t → Within mm pp s00 (f t a)) (hM : mm ||| 0x8000000000400000000000000000140000 = mm) (hW : Within mm pp s00 s) :
    Within mm pp s00 (State.romTake s f) := by
  unfold State.romTake
  try dsimp only
  repeat' with_reducible
    first | assumption | apply h_f | apply removeTail_within | apply ite_within | split
          | exact sub hM (by decide) | dsimp only

theorem execHostBoot_within (pp : Nat) (ms : Nat) (s : State) :
    ∀ u, execHostBoot ms s = .next u → Within 0xE23FFE0D0BF5FEC001219A69F6F81EF502 pp s u := by
  intro u hu
  cases hu
  have hM : 0xE23FFE0D0BF5FEC001219A69F6F81EF502 ||| 0xE23FFE0D0BF5FEC001219A69F6F81EF502 = 0xE23FFE0D0BF5FEC001219A69F6F81EF502 := rfl
  have hW := Within.refl 0xE23FFE0D0BF5FEC001219A69F6F81EF502 pp s
  try dsimp only
  repeat' with_reducible
    first | assumption | apply hostRom_within | apply romTake_within | apply ite_within | split
          | (intro _ _ _) | (intro _ _) | exact sub hM (by decide) | dsimp only

theorem execRecoveryRom_within (pp : Nat) (s : State) :
    ∀ u, execRecoveryRom s = .next u → Within 0x3FFFFFFFFFFFFFFFFFFFFFFFFFFFFFFFFFF pp s u := by
  intro u hu
  cases hu
  have hM : 0x3FFFFFFFFFFFFFFFFFFFFFFFFFFFFFFFFFF ||| 0x3FFFFFFFFFFFFFFFFFFFFFFFFFFFFFFFFFF = 0x3FFFFFFFFFFFFFFFFFFFFFFFFFFFFFFFFFF := rfl
  have hW := Within.refl 0x3FFFFFFFFFFFFFFFFFFFFFFFFFFFFFFFFFF pp s
  try dsimp only
  repeat' with_reducible
    first | assumption | apply recoveryRom_within | apply romTake_within | apply ite_within | split
          | (intro _ _ _) | (intro _ _) | exact sub hM (by decide) | dsimp only

/-! ## Machine/Power.lean -/

theorem execPowerOnResetRelease_within (pp : Nat) (boot saddr : BitVec 2) (s : State) :
    ∀ u, execPowerOnResetRelease boot saddr s = .next u → Within 0x2002010 pp s u := by
  intro u hu
  cases hu
  have hM : 0x2002010 ||| 0x2002010 = 0x2002010 := rfl
  have hW := Within.refl 0x2002010 pp s
  try dsimp only
  repeat' with_reducible
    first | assumption | apply locked_within | apply sampleStraps_within | apply ite_within | split
          | exact sub hM (by decide) | dsimp only

theorem State.soloHold_within {pp : Nat} (s : State) (hM : mm ||| 0x10000000000000000000000 = mm) (hW : Within mm pp s00 s) :
    Within mm pp s00 (State.soloHold s) := by
  unfold State.soloHold
  try dsimp only
  repeat' with_reducible
    first | assumption | apply flag_within | apply forPorts_within | apply ite_within | split
          | (intro _ _ _) | (intro _ _) | exact sub hM (by decide) | dsimp only

theorem execResetNLow_within (pp : Nat) (lowNs : Nat) (boot saddr : BitVec 2) (s : State) :
    ∀ u, execResetNLow lowNs boot saddr s = .next u → Within 0x3FFFFFFFFFFFFFFFFFFFFFFFFFFFFFFFFFF pp s u := by
  intro u hu
  cases hu
  have hM : 0x3FFFFFFFFFFFFFFFFFFFFFFFFFFFFFFFFFF ||| 0x3FFFFFFFFFFFFFFFFFFFFFFFFFFFFFFFFFF = 0x3FFFFFFFFFFFFFFFFFFFFFFFFFFFFFFFFFF := rfl
  have hW := Within.refl 0x3FFFFFFFFFFFFFFFFFFFFFFFFFFFFFFFFFF pp s
  try dsimp only
  repeat' with_reducible
    first | assumption | apply coldReset_within | apply locked_within | apply sampleStraps_within
          | apply soloHold_within | apply ite_within | split | exact sub hM (by decide) | dsimp only

theorem execBrownout_within (pp : Nat) (rail : Rail) (s : State) :
    ∀ u, execBrownout rail s = .next u → Within 0x3FFFFFFFFFFFFFFFFFFFFFFFFFFFFFFFFFF pp s u := by
  intro u hu
  cases hu
  have hM : 0x3FFFFFFFFFFFFFFFFFFFFFFFFFFFFFFFFFF ||| 0x3FFFFFFFFFFFFFFFFFFFFFFFFFFFFFFFFFF = 0x3FFFFFFFFFFFFFFFFFFFFFFFFFFFFFFFFFF := rfl
  have hW := Within.refl 0x3FFFFFFFFFFFFFFFFFFFFFFFFFFFFFFFFFF pp s
  try dsimp only
  repeat' with_reducible
    first | assumption | apply coldReset_within | apply soloHold_within | apply ite_within | split
          | apply within_mk | exact Or.inr rfl | exact Or.inl (bitOf hM (by decide)) | exact sub hM (by decide)
          | dsimp only

theorem State.pwmClockLost_within {pp : Nat} (s : State) (hM : mm ||| 0xC02325E373F5FEC00180800126381681D2 = mm) (hW : Within mm pp s00 s) :
    Within mm pp s00 (State.pwmClockLost s) := by
  unfold State.pwmClockLost
  try dsimp only
  repeat' with_reducible
    first | assumption | apply flag_within | apply safeEntry_within | exact sub hM (by decide)
          | dsimp only

theorem State.clockLost_within {pp : Nat} (s : State) (c : ClockSrc) (hM : mm ||| 0xE037EDE373F5FEC00180820126381E81DA = mm) (hW : Within mm pp s00 s) :
    Within mm pp s00 (State.clockLost s c) := by
  unfold State.clockLost
  try dsimp only
  repeat' with_reducible
    first | assumption | apply bump_any | apply event_sys | apply flag_any | apply flag_within
          | apply irq_within | apply DevState.code_within | apply pwmClockLost_within
          | apply supervised_within | apply ite_within | split | (intro _ _ _) | (intro _ _)
          | exact sub hM (by decide) | decide | dsimp only

theorem State.clockBack_within {pp : Nat} (s : State) (c : ClockSrc) (hM : mm ||| 0x10 = mm) (hW : Within mm pp s00 s) :
    Within mm pp s00 (State.clockBack s c) := by
  unfold State.clockBack
  try dsimp only
  repeat' with_reducible
    first | assumption | apply flag_within | apply ite_within | split | exact sub hM (by decide) | dsimp only

theorem execClockLoss_within (pp : Nat) (c : ClockSrc) (back : Bool) (s : State) :
    ∀ u, execClockLoss c back s = .next u → Within 0xE037EDE373F5FEC00180820126381E81DA pp s u := by
  intro u hu
  cases hu
  have hM : 0xE037EDE373F5FEC00180820126381E81DA ||| 0xE037EDE373F5FEC00180820126381E81DA = 0xE037EDE373F5FEC00180820126381E81DA := rfl
  have hW := Within.refl 0xE037EDE373F5FEC00180820126381E81DA pp s
  try dsimp only
  repeat' with_reducible
    first | assumption | apply clockBack_within | apply clockLost_within | apply ite_within | split
          | exact sub hM (by decide) | dsimp only

theorem execSscChange_within (pp : Nat) (s : State) :
    ∀ u, execSscChange s = .next u → Within 0x20000000000000000000000000000018 pp s u := by
  intro u hu
  cases hu
  have hM : 0x20000000000000000000000000000018 ||| 0x20000000000000000000000000000018 = 0x20000000000000000000000000000018 := rfl
  have hW := Within.refl 0x20000000000000000000000000000018 pp s
  try dsimp only
  repeat' with_reducible
    first | assumption | apply flag_within | apply irq_within | apply ite_within | split | apply within_mk
          | exact Or.inr rfl | exact Or.inl (bitOf hM (by decide)) | exact sub hM (by decide) | dsimp only

theorem execWarmStorm_within (pp : Nat) (s : State) :
    ∀ u, execWarmStorm s = .next u → Within 0xC02325E373F5FEC00180800126381681C2 pp s u := by
  intro u hu
  cases hu
  have hM : 0xC02325E373F5FEC00180800126381681C2 ||| 0xC02325E373F5FEC00180800126381681C2 = 0xC02325E373F5FEC00180800126381681C2 := rfl
  have hW := Within.refl 0xC02325E373F5FEC00180800126381681C2 pp s
  try dsimp only
  repeat' with_reducible
    first | assumption | apply safeEntry_within | apply ite_within | split | (intro _ _ _) | (intro _ _)
          | exact sub hM (by decide) | dsimp only

theorem State.watchPres_within (s : State) (p : Port) (hM : mm ||| 0x80000080000000000000000 = mm) (hW : Within mm p s00 s) :
    Within mm p s00 (State.watchPres s p) := by
  unfold State.watchPres
  try dsimp only
  repeat' with_reducible
    first | assumption | apply present_within | apply ite_within | split | exact sub hM (by decide) | dsimp only

theorem State.watchPres_all {pp : Nat} (s : State) (p : Port) (hM : mm ||| 0x100080000000000000000000 = mm) (hW : Within mm pp s00 s) :
    Within mm pp s00 (State.watchPres s p) := by
  unfold State.watchPres
  try dsimp only
  repeat' with_reducible
    first | assumption | apply present_all | apply ite_within | split | exact sub hM (by decide) | dsimp only

theorem execWatchEntry_within (pp : Nat) (idle : Bool) (s : State) :
    ∀ u, execWatchEntry idle s = .next u → Within 0x700080000000000000140192 pp s u := by
  intro u hu
  cases hu
  have hM : 0x700080000000000000140192 ||| 0x700080000000000000140192 = 0x700080000000000000140192 := rfl
  have hW := Within.refl 0x700080000000000000140192 pp s
  split
  · exact hW
  · extract_lets b s1 s2 s3
    have h_s1 : Within 0x700080000000000000140192 pp s s1 := by
      unfold s1
      repeat' with_reducible
        first | assumption | apply bump_within | apply event_sys | apply flag_within
              | apply wr_within | apply forPorts_within | apply watchPres_all | apply ite_within
              | split | (intro _ _ _) | (intro _ _) | apply within_mk | exact Or.inr rfl
              | exact Or.inl (bitOf hM (by decide)) | exact sub hM (by decide) | decide | dsimp only
    clear_value s1
    split
    · exact h_s1
    · have h_s2 : Within 0x700080000000000000140192 pp s s2 := by
        unfold s2
        repeat' with_reducible
          first | assumption | apply bump_within | apply event_sys | apply flag_within
                | apply wr_within | apply forPorts_within | apply watchPres_all | apply ite_within
                | split | (intro _ _ _) | (intro _ _) | apply within_mk | exact Or.inr rfl
                | exact Or.inl (bitOf hM (by decide)) | exact sub hM (by decide) | decide | dsimp only
      clear_value s2
      have h_s3 : Within 0x700080000000000000140192 pp s s3 := by
        unfold s3
        repeat' with_reducible
          first | assumption | apply bump_within | apply event_sys | apply flag_within
                | apply wr_within | apply forPorts_within | apply watchPres_all | apply ite_within
                | split | (intro _ _ _) | (intro _ _) | apply within_mk | exact Or.inr rfl
                | exact Or.inl (bitOf hM (by decide)) | exact sub hM (by decide) | decide | dsimp only
      clear_value s3
      repeat' with_reducible
        first | assumption | apply bump_within | apply event_sys | apply flag_within
              | apply wr_within | apply forPorts_within | apply watchPres_all | apply ite_within
              | split | (intro _ _ _) | (intro _ _) | apply within_mk | exact Or.inr rfl
              | exact Or.inl (bitOf hM (by decide)) | exact sub hM (by decide) | decide | dsimp only

theorem State.runEntry_within {pp : Nat} (s : State) (us sleptNs : Nat) (hM : mm ||| 0x1003100800000000100000001D2 = mm) (hW : Within mm pp s00 s) :
    Within mm pp s00 (State.runEntry s us sleptNs) := by
  unfold State.runEntry
  try dsimp only
  repeat' with_reducible
    first | assumption | apply bump_within | apply flag_within | apply irq_within
          | apply wr_within | apply wrSat_within | apply forPorts_within
          | apply modFeed_within | apply grd_all | apply present_all | apply foldl_within
          | apply ite_within | split | (intro _ _ _) | (intro _ _) | apply within_mk | exact Or.inr rfl
          | exact Or.inl (bitOf hM (by decide)) | exact sub hM (by decide) | dsimp only

theorem execWake_within (pp : Nat) (src : Fin 8) (us : BitVec 16) (sleptNs : Nat) (s : State) :
    ∀ u, execWake src us sleptNs s = .next u → Within 0x1003100800000000100000001D2 pp s u := by
  intro u hu
  cases hu
  have hM : 0x1003100800000000100000001D2 ||| 0x1003100800000000100000001D2 = 0x1003100800000000100000001D2 := rfl
  have hW := Within.refl 0x1003100800000000100000001D2 pp s
  try dsimp only
  repeat' with_reducible
    first | assumption | apply runEntry_within | apply wakeBy_within | apply ite_within | split
          | exact sub hM (by decide) | dsimp only

theorem execWakeTimer_within (pp : Nat) (s : State) :
    ∀ u, execWakeTimer s = .next u → Within 0x200000000000000000000080 pp s u := by
  intro u hu
  cases hu
  have hM : 0x200000000000000000000080 ||| 0x200000000000000000000080 = 0x200000000000000000000080 := rfl
  have hW := Within.refl 0x200000000000000000000080 pp s
  try dsimp only
  repeat' with_reducible
    first | assumption | apply wakeBy_within | apply ite_within | split | exact sub hM (by decide) | dsimp only

theorem State.crossFlagged_within (s : State) (p : Port) (hM : mm ||| 0x30000000000000000000 = mm) (hW : Within mm p s00 s) :
    Within mm p s00 (State.crossFlagged s p) := by
  unfold State.crossFlagged
  try dsimp only
  repeat' with_reducible
    first | assumption | apply bump_own | apply flag_own | exact sub hM (by decide) | decide | dsimp only

theorem State.crossFlagged_all {pp : Nat} (s : State) (p : Port) (hM : mm ||| 0x30000000000000000000000 = mm) (hW : Within mm pp s00 s) :
    Within mm pp s00 (State.crossFlagged s p) := by
  unfold State.crossFlagged
  try dsimp only
  repeat' with_reducible
    first | assumption | apply bump_within | apply flag_within | exact sub hM (by decide) | dsimp only

theorem State.watchMon_within1 {pp : Nat} (s : State) (m : Mon) (mv : Nat) (hM : mm ||| 0x30000000000010000000000 = mm) (hW : Within mm pp s00 s) :
    Within mm pp s00 (State.watchMon s m mv).1 := by
  unfold State.watchMon
  try dsimp only
  repeat' with_reducible
    first | assumption | apply flag_within | apply crossFlagged_all | apply ite_within | split
          | exact sub hM (by decide) | dsimp only
theorem State.watchMon_within {pp : Nat} {s : State} {m : Mon} {mv : Nat} {ss xx} (hM : mm ||| 0x30000000000010000000000 = mm) (hW : Within mm pp s00 s)
    (he : State.watchMon s m mv = (ss, xx)) : Within mm pp s00 ss := by
  have := State.watchMon_within1 s m mv hM hW; rw [he] at this; exact this

theorem execWatchSample_within (pp : Nat) (cc : List (Port × Nat × Nat)) (mons : List (Mon × Nat)) (s : State) :
    ∀ u, execWatchSample cc mons s = .next u → Within 0x230000000000010000000080 pp s u := by
  intro u hu
  cases hu
  have hM : 0x230000000000010000000080 ||| 0x230000000000010000000080 = 0x230000000000010000000080 := rfl
  have hW := Within.refl 0x230000000000010000000080 pp s
  have hr : ∀ (l : List (Mon × Nat)) (a : State × Bool), Within 0x230000000000010000000080 pp s a.1 →
      Within 0x230000000000010000000080 pp s (l.foldl (fun (a : State × Bool) x => let b := a.1.watchMon x.1 x.2; (b.1, a.2 || b.2)) a).1 := by
    intro l
    induction l with
    | nil => intro a ha; exact ha
    | cons x l ih => intro a ha; exact ih _ (State.watchMon_within1 _ _ _ (sub hM (by decide)) ha)
  have h1 := hr mons (s, false) hW
  split
  · exact hW
  · extract_lets r
    have h2 : Within 0x230000000000010000000080 pp s r.1 := h1
    clear_value r
    repeat' with_reducible
      first | assumption | apply wakeBy_within | apply watchMon_within1
            | (refine State.watchMon_within ?_ ?_ ‹_›) | apply foldl_within | apply ite_within | split | (intro _ _ _)
            | (intro _ _) | exact sub hM (by decide) | dsimp only

theorem execSafeEntry_within (pp : Nat) (c : SafeCause) (s : State) :
    ∀ u, execSafeEntry c s = .next u → Within 0xC02325E373F5FEC00180800126381681C2 pp s u := by
  intro u hu
  cases hu
  have hM : 0xC02325E373F5FEC00180800126381681C2 ||| 0xC02325E373F5FEC00180800126381681C2 = 0xC02325E373F5FEC00180800126381681C2 := rfl
  have hW := Within.refl 0xC02325E373F5FEC00180800126381681C2 pp s
  try dsimp only
  repeat' with_reducible
    first | assumption | apply DevState.code_within | apply safeEntry_within | exact sub hM (by decide)
          | dsimp only

theorem execThermalWarn_within (pp : Nat) (tDie : BitVec 16) (s : State) :
    ∀ u, execThermalWarn tDie s = .next u → Within 0x20000000400000000000080000140140 pp s u := by
  intro u hu
  cases hu
  have hM : 0x20000000400000000000080000140140 ||| 0x20000000400000000000080000140140 = 0x20000000400000000000080000140140 := rfl
  have hW := Within.refl 0x20000000400000000000080000140140 pp s
  try dsimp only
  repeat' with_reducible
    first | assumption | apply bump_within | apply event_sys | apply irq_within
          | apply wr_within | apply ite_within | split | (intro _ _ _) | (intro _ _) | apply within_mk
          | exact Or.inr rfl | exact Or.inl (bitOf hM (by decide)) | exact sub hM (by decide) | decide | dsimp only

theorem execThermalShutdown_within (pp : Nat) (tDie : BitVec 16) (s : State) :
    ∀ u, execThermalShutdown tDie s = .next u → Within 0xC02325E373F5FEC00180800926381681C2 pp s u := by
  intro u hu
  cases hu
  have hM : 0xC02325E373F5FEC00180800926381681C2 ||| 0xC02325E373F5FEC00180800926381681C2 = 0xC02325E373F5FEC00180800926381681C2 := rfl
  have hW := Within.refl 0xC02325E373F5FEC00180800926381681C2 pp s
  try dsimp only
  repeat' with_reducible
    first | assumption | apply wr_within | apply safeEntry_within | apply ite_within | split
          | apply within_mk | exact Or.inr rfl | exact Or.inl (bitOf hM (by decide)) | exact sub hM (by decide)
          | dsimp only

/-! ## Machine/Service.lean -/

theorem State.twillDown_within {pp : Nat} (s : State) (k : Fin 8) (hM : mm ||| 0xC001020003D00400000180000038168000 = mm) (hW : Within mm pp s00 s) :
    Within mm pp s00 (State.twillDown s k) := by
  unfold State.twillDown
  try dsimp only
  repeat' with_reducible
    first | assumption | apply coreReset_within | apply engineFailed_within | apply portsLost_within
          | apply toBuddy_within | apply ite_within | split | exact sub hM (by decide) | dsimp only

theorem execTwillHeartbeatLoss_within (pp : Nat) (k : Fin 8) (s : State) :
    ∀ u, execTwillHeartbeatLoss k s = .next u → Within 0xC001020003D00400000180000038168000 pp s u := by
  intro u hu
  cases hu
  have hM : 0xC001020003D00400000180000038168000 ||| 0xC001020003D00400000180000038168000 = 0xC001020003D00400000180000038168000 := rfl
  have hW := Within.refl 0xC001020003D00400000180000038168000 pp s
  try dsimp only
  repeat' with_reducible
    first | assumption | apply bump_within | apply wr_within | apply twillDown_within
          | apply ite_within | split | exact sub hM (by decide) | dsimp only

theorem execLoamHeartbeatLoss_within (pp : Nat) (s : State) :
    ∀ u, execLoamHeartbeatLoss s = .next u → Within 0xE037EDE373F5FEC00181820126381E81C2 pp s u := by
  intro u hu
  cases hu
  have hM : 0xE037EDE373F5FEC00181820126381E81C2 ||| 0xE037EDE373F5FEC00181820126381E81C2 = 0xE037EDE373F5FEC00181820126381E81C2 := rfl
  have hW := Within.refl 0xE037EDE373F5FEC00181820126381E81C2 pp s
  try dsimp only
  repeat' with_reducible
    first | assumption | apply bump_within | apply wr_within | apply supervised_within
          | apply ite_within | split | exact sub hM (by decide) | dsimp only

theorem execTwillResync_within (p : Port) (s : State) :
    ∀ u, execTwillResync p s = .next u → Within 0xC001000000580000E80000000038140000 p s u := by
  intro u hu
  cases hu
  have hM : 0xC001000000580000E80000000038140000 ||| 0xC001000000580000E80000000038140000 = 0xC001000000580000E80000000038140000 := rfl
  have hW := Within.refl 0xC001000000580000E80000000038140000 p s
  try dsimp only
  repeat' with_reducible
    first | assumption | apply resync_within | apply ite_within | split | exact sub hM (by decide) | dsimp only

theorem State.scrubbed_within {pp : Nat} (s : State) (n : Nat) (hM : mm ||| 0x4000000000000 = mm) (hW : Within mm pp s00 s) :
    Within mm pp s00 (State.scrubbed s n) := by
  unfold State.scrubbed
  try dsimp only
  repeat' with_reducible
    first | assumption | apply bump_within | apply bumpBy_within | exact sub hM (by decide) | dsimp only

theorem execScrub_within (pp : Nat) (corrected : Nat) (s : State) :
    ∀ u, execScrub corrected s = .next u → Within 0x4000000000000 pp s u := by
  intro u hu
  cases hu
  have hM : 0x4000000000000 ||| 0x4000000000000 = 0x4000000000000 := rfl
  have hW := Within.refl 0x4000000000000 pp s
  try dsimp only
  repeat' with_reducible
    first | assumption | apply scrubbed_within | apply ite_within | split | exact sub hM (by decide)
          | dsimp only

theorem execScrubPass_within (pp : Nat) (corrected : Nat) (s : State) :
    ∀ u, execScrubPass corrected s = .next u → Within 0x51200000209F000000140000 pp s u := by
  intro u hu
  cases hu
  have hM : 0x51200000209F000000140000 ||| 0x51200000209F000000140000 = 0x51200000209F000000140000 := rfl
  have hW := Within.refl 0x51200000209F000000140000 pp s
  try dsimp only
  repeat' with_reducible
    first | assumption | apply scrubbed_within | apply testEnds_within | apply ite_within | split
          | exact sub hM (by decide) | dsimp only

theorem State.hardFault_within {pp : Nat} (s : State) (block : Nat) (hM : mm ||| 0x20000000000000000000000000000 = mm) (hW : Within mm pp s00 s) :
    Within mm pp s00 (State.hardFault s block) := by
  unfold State.hardFault
  try dsimp only
  repeat' with_reducible
    first | assumption | apply ite_within | split | (intro _ _ _) | (intro _ _) | apply within_mk | exact Or.inr rfl
          | exact Or.inl (bitOf hM (by decide)) | exact sub hM (by decide) | dsimp only

theorem execMbist_within (pp : Nat) (failed : List (Fin 3072)) (s : State) :
    ∀ u, execMbist failed s = .next u → Within 0x12000051200000209B007000140000 pp s u := by
  intro u hu
  cases hu
  have hM : 0x12000051200000209B007000140000 ||| 0x12000051200000209B007000140000 = 0x12000051200000209B007000140000 := rfl
  have hW := Within.refl 0x12000051200000209B007000140000 pp s
  try dsimp only
  repeat' with_reducible
    first | assumption | apply hardFault_within | apply ledgerLoad_within | apply testEnds_within
          | apply foldl_within | apply ite_within | split | (intro _ _ _) | (intro _ _) | exact sub hM (by decide)
          | dsimp only

theorem execAdcRequalification_within (pp : Nat) (ok : BitVec 9) (s : State) :
    ∀ u, execAdcRequalification ok s = .next u → Within 0x20000051200000209B080000140000 pp s u := by
  intro u hu
  cases hu
  have hM : 0x20000051200000209B080000140000 ||| 0x20000051200000209B080000140000 = 0x20000051200000209B080000140000 := rfl
  have hW := Within.refl 0x20000051200000209B080000140000 pp s
  try dsimp only
  repeat' with_reducible
    first | assumption | apply requalify_within | apply testEnds_within | apply ite_within | split
          | exact sub hM (by decide) | dsimp only

theorem State.reloadRecord_within {pp : Nat} (s : State) (slot : Nat) (hM : mm ||| 0x100000500000000000007000140000 = mm) (hW : Within mm pp s00 s) :
    Within mm pp s00 (State.reloadRecord s slot) := by
  unfold State.reloadRecord
  try dsimp only
  repeat' with_reducible
    first | assumption | apply ledgerLoad_within | apply showUsed_within | apply ite_within | split
          | (intro _ _ _) | (intro _ _) | apply within_mk | exact Or.inr rfl | exact Or.inl (bitOf hM (by decide))
          | exact sub hM (by decide) | dsimp only

theorem State.loseEntry_within {pp : Nat} (s : State) (q : Fin 40) (i : Nat) (hM : mm ||| 0x8000000000400000000000000000100010 = mm) (hW : Within mm pp s00 s) :
    Within mm pp s00 (State.loseEntry s q i) := by
  unfold State.loseEntry
  try dsimp only
  repeat' with_reducible
    first | assumption | apply bump_within
          | (refine setRing_entries_within _ _ _ rfl (.inr (sub hM (by decide))) ?_ ?_)
          | (refine setRing_erase_within _ _ _ _ rfl (.inr (sub hM (by decide))) ?_ ?_)
          | (refine setRing_drop_within _ _ _ _ rfl (.inr (sub hM (by decide))) ?_ ?_)
          | (refine setRing_empty_within _ _ _ rfl (.inr (sub hM (by decide))) ?_ ?_) | apply locked_within
          | apply ite_within | split | exact sub hM (by decide) | dsimp only

theorem State.eccAction_within {pp : Nat} (s : State) (a : EccAt) (hM : mm ||| 0xE03DFE0003F5FEC001719A0176381EF112 = mm) (hW : Within mm pp s00 s) :
    Within mm pp s00 (State.eccAction s a) := by
  unfold State.eccAction
  try dsimp only
  repeat' with_reducible
    first | assumption | apply chalkFallback_within | apply engineLost_within
          | apply forPorts_within | apply fresh_within1 | (refine State.fresh_within ?_ ?_ ‹_›)
          | apply loseEntry_within | apply reloadEngine_within1
          | (refine State.reloadEngine_within ?_ ?_ ‹_›) | apply reloadRecord_within
          | apply twillDown_within | apply warmGo_within | apply pe_all | apply ite_within | split
          | (intro _ _ _) | (intro _ _) | apply within_mk | exact Or.inr rfl | exact Or.inl (bitOf hM (by decide))
          | exact sub hM (by decide) | dsimp only

theorem execEccUncorr_within (pp : Nat) (word : BitVec 22) (block : Fin 3072) (a : EccAt) (s : State) :
    ∀ u, execEccUncorr word block a s = .next u → Within 0xE03DFE0003F5FEC001719F0176381EF112 pp s u := by
  intro u hu
  cases hu
  have hM : 0xE03DFE0003F5FEC001719F0176381EF112 ||| 0xE03DFE0003F5FEC001719F0176381EF112 = 0xE03DFE0003F5FEC001719F0176381EF112 := rfl
  have hW := Within.refl 0xE03DFE0003F5FEC001719F0176381EF112 pp s
  try dsimp only
  repeat' with_reducible
    first | assumption | apply bump_within | apply event_sys | apply irq_within
          | apply wr_within | apply eccAction_within | apply hardFault_within | apply ite_within
          | split | apply within_mk | exact Or.inr rfl | exact Or.inl (bitOf hM (by decide))
          | exact sub hM (by decide) | decide | dsimp only

theorem execBlockRemapped_within (pp : Nat) (block : Fin 3072) (s : State) :
    ∀ u, execBlockRemapped block s = .next u → Within 0x20000400000000007000000140000 pp s u := by
  intro u hu
  cases hu
  have hM : 0x20000400000000007000000140000 ||| 0x20000400000000007000000140000 = 0x20000400000000007000000140000 := rfl
  have hW := Within.refl 0x20000400000000007000000140000 pp s
  try dsimp only
  repeat' with_reducible
    first | assumption | apply bump_within | apply event_sys | apply flag_within
          | apply irq_within | apply wr_within | apply noteLoss_within | apply ite_within | split
          | (intro _ _ _) | (intro _ _) | apply within_mk | exact Or.inr rfl | exact Or.inl (bitOf hM (by decide))
          | exact sub hM (by decide) | decide | dsimp only

theorem execChalkLockstep_within (pp : Nat) (s : State) :
    ∀ u, execChalkLockstep s = .next u → Within 0x3C000000001B8000000168000 pp s u := by
  intro u hu
  cases hu
  have hM : 0x3C000000001B8000000168000 ||| 0x3C000000001B8000000168000 = 0x3C000000001B8000000168000 := rfl
  have hW := Within.refl 0x3C000000001B8000000168000 pp s
  try dsimp only
  repeat' with_reducible
    first | assumption | apply bump_within | apply event_sys | apply flag_within
          | apply irq_within | apply coreReset_within | apply ite_within | split
          | exact sub hM (by decide) | decide | dsimp only

theorem execWatchdogExpiry_within (pp : Nat) (s : State) :
    ∀ u, execWatchdogExpiry s = .next u → Within 0xE037EDE373F5FEC00180A20126381E81C2 pp s u := by
  intro u hu
  cases hu
  have hM : 0xE037EDE373F5FEC00180A20126381E81C2 ||| 0xE037EDE373F5FEC00180A20126381E81C2 = 0xE037EDE373F5FEC00180A20126381E81C2 := rfl
  have hW := Within.refl 0xE037EDE373F5FEC00180A20126381E81C2 pp s
  try dsimp only
  repeat' with_reducible
    first | assumption | apply bump_within | apply flag_within | apply supervised_within
          | apply ite_within | split | exact sub hM (by decide) | dsimp only

theorem execChalkForced_within (p : Port) (c : ForceCause) (release : Bool) (s : State) :
    ∀ u, execChalkForced p c release s = .next u → Within 0xC00120000048001F4D0038000038140000 p s u := by
  intro u hu
  cases hu
  have hM : 0xC00120000048001F4D0038000038140000 ||| 0xC00120000048001F4D0038000038140000 = 0xC00120000048001F4D0038000038140000 := rfl
  have hW := Within.refl 0xC00120000048001F4D0038000038140000 p s
  try dsimp only
  repeat' with_reducible
    first | assumption | apply DevState.code_within | apply chalkForce_within | apply chalkRelease_within
          | apply ite_within | split | exact sub hM (by decide) | dsimp only

theorem execEngineAutoRetired_within (pp : Nat) (e : Fin 12) (s : State) :
    ∀ u, execEngineAutoRetired e s = .next u → Within 0xC001060003D02E800021A8000038168000 pp s u := by
  intro u hu
  cases hu
  have hM : 0xC001060003D02E800021A8000038168000 ||| 0xC001060003D02E800021A8000038168000 = 0xC001060003D02E800021A8000038168000 := rfl
  have hW := Within.refl 0xC001060003D02E800021A8000038168000 pp s
  try dsimp only
  repeat' with_reducible
    first | assumption | apply bump_within | apply event_sys | apply irq_within
          | apply noteLoss_within | apply takeOut_within | apply ite_within | split | (intro _ _ _)
          | (intro _ _) | apply within_mk | exact Or.inr rfl | exact Or.inl (bitOf hM (by decide))
          | exact sub hM (by decide) | decide | dsimp only

theorem execServiceRaise_within (pp : Nat) (e : OtpEnv) (s : State) :
    ∀ u, execServiceRaise e s = .next u → Within 0x20800400000000000000000142400 pp s u := by
  intro u hu
  cases hu
  have hM : 0x20800400000000000000000142400 ||| 0x20800400000000000000000142400 = 0x20800400000000000000000142400 := rfl
  have hW := Within.refl 0x20800400000000000000000142400 pp s
  try dsimp only
  repeat' with_reducible
    first | assumption | apply raiseService_within | apply ite_within | split | exact sub hM (by decide)
          | dsimp only

theorem State.testExpires_within (s : State) (p : Port) (hM : mm ||| 0xC001000000480000000007000038140000 = mm) (hW : Within mm p s00 s) :
    Within mm p s00 (State.testExpires s p) := by
  unfold State.testExpires
  try dsimp only
  repeat' with_reducible
    first | assumption | apply bump_within | apply irq_within | apply endTest_within
          | apply fresh_within1 | (refine State.fresh_within ?_ ?_ ‹_›) | split | exact sub hM (by decide)
          | dsimp only

theorem State.testExpires_all {pp : Nat} (s : State) (p : Port) (hM : mm ||| 0xC001000000500000000007000038140000 = mm) (hW : Within mm pp s00 s) :
    Within mm pp s00 (State.testExpires s p) := by
  unfold State.testExpires
  try dsimp only
  repeat' with_reducible
    first | assumption | apply bump_within | apply irq_within | apply fresh_within1
          | (refine State.fresh_within ?_ ?_ ‹_›) | apply endTest_all | split | exact sub hM (by decide)
          | dsimp only

theorem State.forcedCheck_within (s : State) (p : Port) (m : Mon) (mode hi lo live : Nat) (r : CheckRead) (hM : mm ||| 0xC0012206005BB4E0000007018038140002 = mm) (hW : Within mm p s00 s) :
    Within mm p s00 (State.forcedCheck s p m mode hi lo live r) := by
  unfold State.forcedCheck
  try dsimp only
  repeat' with_reducible
    first | assumption | apply bump_own | apply checkFailed_within | apply checkRan_within
          | apply endTest_within | apply repeated_within | apply ite_within | split
          | exact sub hM (by decide) | decide | dsimp only

theorem State.forcedCheck_all {pp : Nat} (s : State) (p : Port) (m : Mon) (mode hi lo live : Nat) (r : CheckRead) (hM : mm ||| 0xC00122060053B4C0000007018038140002 = mm) (hW : Within mm pp s00 s) :
    Within mm pp s00 (State.forcedCheck s p m mode hi lo live r) := by
  unfold State.forcedCheck
  try dsimp only
  repeat' with_reducible
    first | assumption | apply bump_within | apply checkFailed_within | apply checkRan_within
          | apply repeated_within | apply endTest_all | apply ite_within | split
          | exact sub hM (by decide) | dsimp only

theorem execTestDeferralExpiry_within (p : Port) (r : CheckRead) (s : State) :
    ∀ u, execTestDeferralExpiry p r s = .next u → Within 0xC0012206005BB4E0000007018038140002 p s u := by
  intro u hu
  cases hu
  have hM : 0xC0012206005BB4E0000007018038140002 ||| 0xC0012206005BB4E0000007018038140002 = 0xC0012206005BB4E0000007018038140002 := rfl
  have hW := Within.refl 0xC0012206005BB4E0000007018038140002 p s
  try dsimp only
  repeat' with_reducible
    first | assumption | apply forcedCheck_within | apply testExpires_within | apply ite_within | split
          | exact sub hM (by decide) | dsimp only

/-! ## Machine/Smb.lean -/

theorem State.smbHears_within {pp : Nat} (s : State) (f : State → State) (h_f : ∀ t, Within mm pp s00 t → Within mm pp s00 (f t)) (hM : mm ||| 0x4000000 = mm) (hW : Within mm pp s00 s) :
    Within mm pp s00 (State.smbHears s f) := by
  unfold State.smbHears
  try dsimp only
  repeat' with_reducible
    first | assumption | apply h_f | apply bump_within | apply ite_within | split | exact sub hM (by decide)
          | dsimp only

theorem State.smbServed_within {pp : Nat} (s : State) (cmd : Nat) (rom : Bool) (f : State → State) (h_f : ∀ t, Within mm pp s00 t → Within mm pp s00 (f t)) (hM : mm ||| 0x6000000 = mm) (hW : Within mm pp s00 s) :
    Within mm pp s00 (State.smbServed s cmd rom f) := by
  unfold State.smbServed
  try dsimp only
  repeat' with_reducible
    first | assumption | apply h_f | apply smbErr_within | apply smbHears_within | apply ite_within
          | split | (intro _ _ _) | (intro _ _) | exact sub hM (by decide) | dsimp only

theorem State.pecErr_within {pp : Nat} (s : State) (cmd : Nat) (hM : mm ||| 0x7000000 = mm) (hW : Within mm pp s00 s) :
    Within mm pp s00 (State.pecErr s cmd) := by
  unfold State.pecErr
  try dsimp only
  repeat' with_reducible
    first | assumption | apply bump_within | apply irq_within | apply smbErr_within
          | exact sub hM (by decide) | dsimp only

theorem State.blockWrite_within {pp : Nat} (s : State) (cmd : Nat) (count : Byte) (l : List Byte) (pec : Pec) (inRange : Nat → Bool) (f : State → State) (h_f : ∀ t, Within mm pp s00 t → Within mm pp s00 (f t)) (hM : mm ||| 0x7000000 = mm) (hW : Within mm pp s00 s) :
    Within mm pp s00 (State.blockWrite s cmd count l pec inRange f) := by
  unfold State.blockWrite
  try dsimp only
  repeat' with_reducible
    first | assumption | apply h_f | apply pecErr_within | apply smbErr_within | apply ite_within | split
          | exact sub hM (by decide) | dsimp only

theorem State.smbReturns_within {pp : Nat} (s : State) (sent l : List Byte) (hM : mm ||| 0x800000000000000000000000000000 = mm) (hW : Within mm pp s00 s) :
    Within mm pp s00 (State.smbReturns s sent l) := by
  unfold State.smbReturns
  try dsimp only
  repeat' with_reducible
    first | assumption | apply within_mk | exact Or.inr rfl | exact Or.inl (bitOf hM (by decide))
          | exact sub hM (by decide) | dsimp only

theorem execDevStatus_within (pp : Nat) (s : State) :
    ∀ u, execDevStatus s = .next u → Within 0x800000000000000000000004000000 pp s u := by
  intro u hu
  cases hu
  have hM : 0x800000000000000000000004000000 ||| 0x800000000000000000000004000000 = 0x800000000000000000000004000000 := rfl
  have hW := Within.refl 0x800000000000000000000004000000 pp s
  try dsimp only
  repeat' with_reducible
    first | assumption | apply smbHears_within | apply smbReturns_within | split | (intro _ _ _)
          | (intro _ _) | exact sub hM (by decide) | dsimp only

theorem execPortSummary_within (pp : Nat) (s : State) :
    ∀ u, execPortSummary s = .next u → Within 0x800000000000000000000004000000 pp s u := by
  intro u hu
  cases hu
  have hM : 0x800000000000000000000004000000 ||| 0x800000000000000000000004000000 = 0x800000000000000000000004000000 := rfl
  have hW := Within.refl 0x800000000000000000000004000000 pp s
  try dsimp only
  repeat' with_reducible
    first | assumption | apply smbHears_within | apply smbReturns_within | split | (intro _ _ _)
          | (intro _ _) | exact sub hM (by decide) | dsimp only

theorem execFaultSummary_within (pp : Nat) (s : State) :
    ∀ u, execFaultSummary s = .next u → Within 0x800000000000000000000004000000 pp s u := by
  intro u hu
  cases hu
  have hM : 0x800000000000000000000004000000 ||| 0x800000000000000000000004000000 = 0x800000000000000000000004000000 := rfl
  have hW := Within.refl 0x800000000000000000000004000000 pp s
  try dsimp only
  repeat' with_reducible
    first | assumption | apply smbHears_within | apply smbReturns_within | split | (intro _ _ _)
          | (intro _ _) | exact sub hM (by decide) | dsimp only

theorem execSetPtr_within (pp : Nat) (count : Byte) (l : List Byte) (pec : Pec) (s : State) :
    ∀ u, execSetPtr count l pec s = .next u → Within 0x7000000 pp s u := by
  intro u hu
  cases hu
  have hM : 0x7000000 ||| 0x7000000 = 0x7000000 := rfl
  have hW := Within.refl 0x7000000 pp s
  try dsimp only
  repeat' with_reducible
    first | assumption | apply wr_within | apply blockWrite_within | apply smbErr_within
          | apply smbServed_within | apply ite_within | split | (intro _ _ _) | (intro _ _)
          | exact sub hM (by decide) | dsimp only

theorem State.smbWords_within1 {pp : Nat} (n a : Nat) (l : List Byte) (s : State) (hM : mm ||| 0x2000000800000000000000002000000 = mm) (hW : Within mm pp s00 s) :
    Within mm pp s00 (State.smbWords n a l s).1 := by
  induction n generalizing s a l with
  | zero => exact hW
  | succ n ih =>
    unfold State.smbWords
    refine ih _ _ _ ?_
    have h1 := State.hostRead_within1 s a (sub hM (by decide)) hW
    split
    · exact h1
    · exact State.smbErr_within _ _ _ (sub hM (by decide)) h1
theorem State.smbWords_within {pp n a : Nat} {l : List Byte} {s ss : State} {xx} (hM : mm ||| 0x2000000800000000000000002000000 = mm) (hW : Within mm pp s00 s)
    (he : State.smbWords n a l s = (ss, xx)) : Within mm pp s00 ss := by
  have := State.smbWords_within1 n a l s hM hW; rw [he] at this; exact this

theorem State.readReg_within {pp : Nat} (s : State) (all pecRead : Bool) (hM : mm ||| 0x2800000800000000000000002000000 = mm) (hW : Within mm pp s00 s) :
    Within mm pp s00 (State.readReg s all pecRead) := by
  unfold State.readReg
  try dsimp only
  repeat' with_reducible
    first | assumption | apply wr_within | apply smbReturns_within | apply smbWords_within1
          | (refine State.smbWords_within ?_ ?_ ‹_›) | apply ite_within | split | exact sub hM (by decide)
          | dsimp only

theorem execReadReg_within (pp : Nat) (all pecRead : Bool) (s : State) :
    ∀ u, execReadReg all pecRead s = .next u → Within 0x2800000800000000000000006000000 pp s u := by
  intro u hu
  cases hu
  have hM : 0x2800000800000000000000006000000 ||| 0x2800000800000000000000006000000 = 0x2800000800000000000000006000000 := rfl
  have hW := Within.refl 0x2800000800000000000000006000000 pp s
  try dsimp only
  repeat' with_reducible
    first | assumption | apply readReg_within | apply smbServed_within | split | (intro _ _ _)
          | (intro _ _) | exact sub hM (by decide) | dsimp only

theorem State.smbWrites_within {pp : Nat} (a : Nat) (l : List Word) (s : State) (hM : mm ||| 0xE1B7FDE773F5FEC001A29F69E6FEFE81C2 = mm)
    (hW : Within mm pp s00 s) : Within mm pp s00 (State.smbWrites a l s) := by
  induction l generalizing s a with
  | nil => exact hW
  | cons w t ih => exact ih _ _ (State.writeVia_within _ _ _ _ _ (sub hM (by decide)) hW)

theorem State.smbReset_within {pp : Nat} (s : State) (a : Nat) (ws : List Word) (hM : mm ||| 0xC003C0000044000000000000003A140000 = mm) (hW : Within mm pp s00 s) :
    Within mm pp s00 (State.smbReset s a ws) := by
  unfold State.smbReset
  try dsimp only
  repeat' with_reducible
    first | assumption | apply blockReset_within | apply ite_within | split | exact sub hM (by decide)
          | dsimp only

theorem execWriteReg_within (pp : Nat) (count : Byte) (l : List Byte) (pec : Pec) (s : State) :
    ∀ u, execWriteReg count l pec s = .next u → Within 0xE1B7FDE773F5FEC001A29F69E6FFFE81C2 pp s u := by
  intro u hu
  cases hu
  have hM : 0xE1B7FDE773F5FEC001A29F69E6FFFE81C2 ||| 0xE1B7FDE773F5FEC001A29F69E6FFFE81C2 = 0xE1B7FDE773F5FEC001A29F69E6FFFE81C2 := rfl
  have hW := Within.refl 0xE1B7FDE773F5FEC001A29F69E6FFFE81C2 pp s
  try dsimp only
  repeat' with_reducible
    first | assumption | apply wr_within | apply blockWrite_within | apply smbReset_within
          | apply smbServed_within | apply smbWrites_within | split | (intro _ _ _) | (intro _ _)
          | exact sub hM (by decide) | dsimp only

theorem State.fragPush_within {pp : Nat} (s : State) (ring : Nat) (l : List Byte) (hM : mm ||| 0xC00120000451F4C0010000E0083F1C0000 = mm) (hW : Within mm pp s00 s) :
    Within mm pp s00 (State.fragPush s ring l) := by
  unfold State.fragPush
  try dsimp only
  repeat' with_reducible
    first | assumption | apply bump_within | apply irq_within | apply wr_within
          | apply judgePush_within1 | (refine State.judgePush_within ?_ ?_ ‹_›) | apply smbErr_within
          | apply ite_within | split | exact sub hM (by decide) | dsimp only

theorem State.fragTaken_within {pp : Nat} (s : State) (a : SmbAsm) (isLast : Bool) (hM : mm ||| 0xC001A0000451F4C0010000E0083F1C0000 = mm) (hW : Within mm pp s00 s) :
    Within mm pp s00 (State.fragTaken s a isLast) := by
  unfold State.fragTaken
  try dsimp only
  repeat' with_reducible
    first | assumption | apply fragPush_within | apply setAsm_within | apply ite_within | split
          | exact sub hM (by decide) | dsimp only

theorem State.fragBad_within {pp : Nat} (s : State) (hM : mm ||| 0x800000000000000000000006000000 = mm) (hW : Within mm pp s00 s) :
    Within mm pp s00 (State.fragBad s) := by
  unfold State.fragBad
  try dsimp only
  repeat' with_reducible
    first | assumption | apply bump_within | apply setAsm_within | apply smbErr_within
          | exact sub hM (by decide) | dsimp only

theorem State.pushFrag_within {pp : Nat} (s : State) (l : List Byte) (hM : mm ||| 0xC001A0000451F4C0010000E0083F1C0000 = mm) (hW : Within mm pp s00 s) :
    Within mm pp s00 (State.pushFrag s l) := by
  unfold State.pushFrag
  try dsimp only
  repeat' with_reducible
    first | assumption | apply bump_within | apply dropAsm_within | apply fragBad_within
          | apply fragTaken_within | apply ite_within | split | exact sub hM (by decide) | dsimp only

theorem execPushFrag_within (pp : Nat) (count : Byte) (l : List Byte) (pec : Pec) (s : State) :
    ∀ u, execPushFrag count l pec s = .next u → Within 0xC001A0000451F4C0010000E0083F1C0000 pp s u := by
  intro u hu
  cases hu
  have hM : 0xC001A0000451F4C0010000E0083F1C0000 ||| 0xC001A0000451F4C0010000E0083F1C0000 = 0xC001A0000451F4C0010000E0083F1C0000 := rfl
  have hW := Within.refl 0xC001A0000451F4C0010000E0083F1C0000 pp s
  try dsimp only
  repeat' with_reducible
    first | assumption | apply blockWrite_within | apply pushFrag_within | apply smbServed_within
          | split | (intro _ _ _) | (intro _ _) | exact sub hM (by decide) | dsimp only

theorem execFragAssemblyTimeout_within (pp : Nat) (s : State) :
    ∀ u, execFragAssemblyTimeout s = .next u → Within 0x800000000000000000000006000000 pp s u := by
  intro u hu
  cases hu
  have hM : 0x800000000000000000000006000000 ||| 0x800000000000000000000006000000 = 0x800000000000000000000006000000 := rfl
  have hW := Within.refl 0x800000000000000000000006000000 pp s
  try dsimp only
  repeat' with_reducible
    first | assumption | apply dropAsm_within | exact sub hM (by decide) | dsimp only

theorem execClearAsm_within (pp : Nat) (s : State) :
    ∀ u, execClearAsm s = .next u → Within 0x800000000000000000000006000000 pp s u := by
  intro u hu
  cases hu
  have hM : 0x800000000000000000000006000000 ||| 0x800000000000000000000006000000 = 0x800000000000000000000006000000 := rfl
  have hW := Within.refl 0x800000000000000000000006000000 pp s
  try dsimp only
  repeat' with_reducible
    first | assumption | apply dropAsm_within | apply readyFor_within | (intro _ _ _) | (intro _ _)
          | exact sub hM (by decide) | dsimp only

theorem State.abandon_within {pp : Nat} (s : State) (hM : mm ||| 0x8000800000400000000000000000000000 = mm) (hW : Within mm pp s00 s) :
    Within mm pp s00 (State.abandon s) := by
  unfold State.abandon
  try dsimp only
  repeat' with_reducible
    first | assumption | apply relock_within | split | apply within_mk | exact Or.inr rfl
          | exact Or.inl (bitOf hM (by decide)) | exact sub hM (by decide) | dsimp only

theorem State.fragEmpty_within {pp : Nat} (s : State) (ring act : Nat) (hM : mm ||| 0x800000000000000000000000000000 = mm) (hW : Within mm pp s00 s) :
    Within mm pp s00 (State.fragEmpty s ring act) := by
  unfold State.fragEmpty
  try dsimp only
  repeat' with_reducible
    first | assumption | apply smbReturns_within | exact sub hM (by decide) | dsimp only

theorem State.fragSend_within {pp : Nat} (s : State) (ring act off len seq : Nat) (hM : mm ||| 0x8000800000500000000000000000000000 = mm) (hW : Within mm pp s00 s) :
    Within mm pp s00 (State.fragSend s ring act off len seq) := by
  unfold State.fragSend
  try dsimp only
  repeat' with_reducible
    first | assumption | apply relock_within | apply smbReturns_within | apply take_all
          | apply ite_within | split | apply within_mk | exact Or.inr rfl | exact Or.inl (bitOf hM (by decide))
          | exact sub hM (by decide) | dsimp only

theorem State.fragFirst_within {pp : Nat} (s : State) (ring act : Nat) (hM : mm ||| 0x8000800000500000000000000000000000 = mm) (hW : Within mm pp s00 s) :
    Within mm pp s00 (State.fragFirst s ring act) := by
  unfold State.fragFirst
  try dsimp only
  repeat' with_reducible
    first | assumption | apply fragEmpty_within | apply fragSend_within | apply ite_within | split
          | apply within_mk | exact Or.inr rfl | exact Or.inl (bitOf hM (by decide)) | exact sub hM (by decide)
          | dsimp only

theorem State.fragDone_within {pp : Nat} (s : State) (ring : Nat) (hM : mm ||| 0x8000C00000400000000000000000140000 = mm) (hW : Within mm pp s00 s) :
    Within mm pp s00 (State.fragDone s ring) := by
  unfold State.fragDone
  try dsimp only
  repeat' with_reducible
    first | assumption | apply removeTail_within | split | (intro _ _ _) | (intro _ _) | apply within_mk
          | exact Or.inr rfl | exact Or.inl (bitOf hM (by decide)) | exact sub hM (by decide) | dsimp only

theorem State.pullFrag_within {pp : Nat} (s : State) (ring act : Nat) (hM : mm ||| 0x8000C00000500000000000000002140000 = mm) (hW : Within mm pp s00 s) :
    Within mm pp s00 (State.pullFrag s ring act) := by
  unfold State.pullFrag
  try dsimp only
  repeat' with_reducible
    first | assumption | apply abandon_within | apply fragDone_within | apply fragEmpty_within
          | apply fragFirst_within | apply fragSend_within | apply smbErr_within | apply ite_within
          | split | exact sub hM (by decide) | dsimp only

theorem State.pullTxn_within {pp : Nat} (s : State) (count : Byte) (ring act : Nat) (hM : mm ||| 0x8000C00000500000000000000006140000 = mm) (hW : Within mm pp s00 s) :
    Within mm pp s00 (State.pullTxn s count ring act) := by
  unfold State.pullTxn
  try dsimp only
  repeat' with_reducible
    first | assumption | apply pullFrag_within | apply smbErr_within | apply smbServed_within
          | apply ite_within | split | (intro _ _ _) | (intro _ _) | exact sub hM (by decide) | dsimp only

theorem execPullFragNext_within (pp : Nat) (count : Byte) (ring : BitVec 6) (reserved : Bool) (s : State) :
    ∀ u, execPullFragNext count ring reserved s = .next u → Within 0x8000C00000500000000000000006140000 pp s u := by
  intro u hu
  cases hu
  have hM : 0x8000C00000500000000000000006140000 ||| 0x8000C00000500000000000000006140000 = 0x8000C00000500000000000000006140000 := rfl
  have hW := Within.refl 0x8000C00000500000000000000006140000 pp s
  try dsimp only
  repeat' with_reducible
    first | assumption | apply pullTxn_within | apply ite_within | split | exact sub hM (by decide) | dsimp only

theorem execPullFragAgain_within (pp : Nat) (count : Byte) (ring : BitVec 6) (s : State) :
    ∀ u, execPullFragAgain count ring s = .next u → Within 0x8000C00000500000000000000006140000 pp s u := by
  intro u hu
  cases hu
  have hM : 0x8000C00000500000000000000006140000 ||| 0x8000C00000500000000000000006140000 = 0x8000C00000500000000000000006140000 := rfl
  have hW := Within.refl 0x8000C00000500000000000000006140000 pp s
  try dsimp only
  repeat' with_reducible
    first | assumption | apply pullTxn_within | exact sub hM (by decide) | dsimp only

theorem execPullFragRestart_within (pp : Nat) (count : Byte) (ring : BitVec 6) (s : State) :
    ∀ u, execPullFragRestart count ring s = .next u → Within 0x8000C00000500000000000000006140000 pp s u := by
  intro u hu
  cases hu
  have hM : 0x8000C00000500000000000000006140000 ||| 0x8000C00000500000000000000006140000 = 0x8000C00000500000000000000006140000 := rfl
  have hW := Within.refl 0x8000C00000500000000000000006140000 pp s
  try dsimp only
  repeat' with_reducible
    first | assumption | apply pullTxn_within | exact sub hM (by decide) | dsimp only

theorem execFragDeliveryTimeout_within (pp : Nat) (s : State) :
    ∀ u, execFragDeliveryTimeout s = .next u → Within 0x8000800000400000000000000000000000 pp s u := by
  intro u hu
  cases hu
  have hM : 0x8000800000400000000000000000000000 ||| 0x8000800000400000000000000000000000 = 0x8000800000400000000000000000000000 := rfl
  have hW := Within.refl 0x8000800000400000000000000000000000 pp s
  try dsimp only
  repeat' with_reducible
    first | assumption | apply abandon_within | exact sub hM (by decide) | dsimp only

theorem execSmbStop_within (pp : Nat) (b : Byte) (pec : Pec) (s : State) :
    ∀ u, execSmbStop b pec s = .next u → Within 0xC00120000451F4C0010000E0083F1C0000 pp s u := by
  intro u hu
  cases hu
  have hM : 0xC00120000451F4C0010000E0083F1C0000 ||| 0xC00120000451F4C0010000E0083F1C0000 = 0xC00120000451F4C0010000E0083F1C0000 := rfl
  have hW := Within.refl 0xC00120000451F4C0010000E0083F1C0000 pp s
  try dsimp only
  repeat' with_reducible
    first | assumption | apply pecErr_within | apply smbErr_within | apply smbHears_within
          | apply stopLane_within1 | (refine State.stopLane_within ?_ ?_ ‹_›) | apply ite_within | split
          | (intro _ _ _) | (intro _ _) | exact sub hM (by decide) | dsimp only

theorem execSmbUnknownCommand_within (pp : Nat) (cmd : Byte) (s : State) :
    ∀ u, execSmbUnknownCommand cmd s = .next u → Within 0x6000000 pp s u := by
  intro u hu
  cases hu
  have hM : 0x6000000 ||| 0x6000000 = 0x6000000 := rfl
  have hW := Within.refl 0x6000000 pp s
  try dsimp only
  repeat' with_reducible
    first | assumption | apply smbErr_within | apply smbHears_within | apply ite_within | split
          | (intro _ _ _) | (intro _ _) | exact sub hM (by decide) | dsimp only

theorem execSmbProtocolError_within (pp : Nat) (s : State) :
    ∀ u, execSmbProtocolError s = .next u → Within 0x5000000 pp s u := by
  intro u hu
  cases hu
  have hM : 0x5000000 ||| 0x5000000 = 0x5000000 := rfl
  have hW := Within.refl 0x5000000 pp s
  try dsimp only
  repeat' with_reducible
    first | assumption | apply bump_within | apply irq_within | exact sub hM (by decide) | dsimp only

theorem execSmbSclTimeout_within (pp : Nat) (s : State) :
    ∀ u, execSmbSclTimeout s = .next u → Within 0x5000000 pp s u := by
  intro u hu
  cases hu
  have hM : 0x5000000 ||| 0x5000000 = 0x5000000 := rfl
  have hW := Within.refl 0x5000000 pp s
  try dsimp only
  repeat' with_reducible
    first | assumption | apply bump_within | apply irq_within | exact sub hM (by decide) | dsimp only

theorem State.smbLate_within {pp : Nat} (s : State) (sent : List Byte) (ready : Nat) (hM : mm ||| 0x800000100000000000000000000000 = mm) (hW : Within mm pp s00 s) :
    Within mm pp s00 (State.smbLate s sent ready) := by
  unfold State.smbLate
  try dsimp only
  repeat' with_reducible
    first | assumption | apply smbReturns_within | apply take_all | split | (intro _ _ _) | (intro _ _)
          | apply within_mk | exact Or.inr rfl | exact Or.inl (bitOf hM (by decide)) | exact sub hM (by decide)
          | dsimp only

theorem execSmbStretchLimit_within (pp : Nat) (pull : Option Byte) (ready : Nat) (s : State) :
    ∀ u, execSmbStretchLimit pull ready s = .next u → Within 0x8002C00000D00000000000000006140000 pp s u := by
  intro u hu
  cases hu
  have hM : 0x8002C00000D00000000000000006140000 ||| 0x8002C00000D00000000000000006140000 = 0x8002C00000D00000000000000006140000 := rfl
  have hW := Within.refl 0x8002C00000D00000000000000006140000 pp s
  try dsimp only
  repeat' with_reducible
    first | assumption | apply pullFrag_within | apply readReg_within | apply smbErr_within
          | apply smbLate_within | apply smbServed_within | split | (intro _ _ _) | (intro _ _)
          | exact sub hM (by decide) | dsimp only

theorem execRecover_within (pp : Nat) (freed : Bool) (s : State) :
    ∀ u, execRecover freed s = .next u → Within 0x800000000000000000000007000000 pp s u := by
  intro u hu
  cases hu
  have hM : 0x800000000000000000000007000000 ||| 0x800000000000000000000007000000 = 0x800000000000000000000007000000 := rfl
  have hW := Within.refl 0x800000000000000000000007000000 pp s
  try dsimp only
  repeat' with_reducible
    first | assumption | apply bump_within | apply flag_within | apply irq_within | apply ite_within
          | split | apply within_mk | exact Or.inr rfl | exact Or.inl (bitOf hM (by decide))
          | exact sub hM (by decide) | dsimp only

theorem State.notifyTry_within {pp : Nat} (s : State) (r : NotifyTry) (hM : mm ||| 0x800000000000000000000007000000 = mm) (hW : Within mm pp s00 s) :
    Within mm pp s00 (State.notifyTry s r) := by
  unfold State.notifyTry
  try dsimp only
  repeat' with_reducible
    first | assumption | apply bump_within | apply flag_within | apply irq_within
          | apply wr_within | apply ite_within | split | apply within_mk | exact Or.inr rfl
          | exact Or.inl (bitOf hM (by decide)) | exact sub hM (by decide) | dsimp only

theorem State.notifyStart_within {pp : Nat} (s : State) (r : NotifyTry) (hM : mm ||| 0x800000000000000000000007000000 = mm) (hW : Within mm pp s00 s) :
    Within mm pp s00 (State.notifyStart s r) := by
  unfold State.notifyStart
  try dsimp only
  repeat' with_reducible
    first | assumption | apply wr_within | apply notifyTry_within | apply within_mk | exact Or.inr rfl
          | exact Or.inl (bitOf hM (by decide)) | exact sub hM (by decide) | dsimp only

theorem execHostNotify_within (pp : Nat) (r : NotifyTry) (s : State) :
    ∀ u, execHostNotify r s = .next u → Within 0x800000000000000000000007000000 pp s u := by
  intro u hu
  cases hu
  have hM : 0x800000000000000000000007000000 ||| 0x800000000000000000000007000000 = 0x800000000000000000000007000000 := rfl
  have hW := Within.refl 0x800000000000000000000007000000 pp s
  try dsimp only
  repeat' with_reducible
    first | assumption | apply notifyStart_within | apply ite_within | split | apply within_mk
          | exact Or.inr rfl | exact Or.inl (bitOf hM (by decide)) | exact sub hM (by decide) | dsimp only

theorem execNotifyRetry_within (pp : Nat) (r : NotifyTry) (s : State) :
    ∀ u, execNotifyRetry r s = .next u → Within 0x800000000000000000000007000000 pp s u := by
  intro u hu
  cases hu
  have hM : 0x800000000000000000000007000000 ||| 0x800000000000000000000007000000 = 0x800000000000000000000007000000 := rfl
  have hW := Within.refl 0x800000000000000000000007000000 pp s
  try dsimp only
  repeat' with_reducible
    first | assumption | apply notifyTry_within | apply ite_within | split | exact sub hM (by decide)
          | dsimp only

theorem execNotifyMinExpiry_within (pp : Nat) (r : NotifyTry) (s : State) :
    ∀ u, execNotifyMinExpiry r s = .next u → Within 0x800000000000000000000007000000 pp s u := by
  intro u hu
  cases hu
  have hM : 0x800000000000000000000007000000 ||| 0x800000000000000000000007000000 = 0x800000000000000000000007000000 := rfl
  have hW := Within.refl 0x800000000000000000000007000000 pp s
  try dsimp only
  repeat' with_reducible
    first | assumption | apply notifyStart_within | apply ite_within | split | apply within_mk
          | exact Or.inr rfl | exact Or.inl (bitOf hM (by decide)) | exact sub hM (by decide) | dsimp only

theorem execSmbWatchWake_within (pp : Nat) (s : State) :
    ∀ u, execSmbWatchWake s = .next u → Within 0x200000000000000004000080 pp s u := by
  intro u hu
  cases hu
  have hM : 0x200000000000000004000080 ||| 0x200000000000000004000080 = 0x200000000000000004000080 := rfl
  have hW := Within.refl 0x200000000000000004000080 pp s
  try dsimp only
  repeat' with_reducible
    first | assumption | apply bump_within | apply wakeBy_within | apply ite_within | split
          | exact sub hM (by decide) | dsimp only

/-! ## Machine/Spi.lean -/

theorem State.spiCount_within {pp : Nat} (s : State) (hM : mm ||| 0x800000 = mm) (hW : Within mm pp s00 s) :
    Within mm pp s00 (State.spiCount s) := by
  unfold State.spiCount
  try dsimp only
  repeat' with_reducible
    first | assumption | apply bump_within | exact sub hM (by decide) | dsimp only

theorem State.spiSends_within {pp : Nat} (s : State) (l : List Byte) (hM : mm ||| 0x400000000000000000000000000000 = mm) (hW : Within mm pp s00 s) :
    Within mm pp s00 (State.spiSends s l) := by
  unfold State.spiSends
  try dsimp only
  repeat' with_reducible
    first | assumption | apply within_mk | exact Or.inr rfl | exact Or.inl (bitOf hM (by decide))
          | exact sub hM (by decide) | dsimp only

theorem State.spiNotReady_within {pp : Nat} (s : State) (op : Nat) (hM : mm ||| 0xE00000 = mm) (hW : Within mm pp s00 s) :
    Within mm pp s00 (State.spiNotReady s op) := by
  unfold State.spiNotReady
  try dsimp only
  repeat' with_reducible
    first | assumption | apply bump_within | apply irq_within | apply spiErr_within
          | exact sub hM (by decide) | dsimp only

theorem State.spiCrc_within {pp : Nat} (s : State) (op : Nat) (hM : mm ||| 0xE00000 = mm) (hW : Within mm pp s00 s) :
    Within mm pp s00 (State.spiCrc s op) := by
  unfold State.spiCrc
  try dsimp only
  repeat' with_reducible
    first | assumption | apply bump_within | apply irq_within | apply spiErr_within
          | exact sub hM (by decide) | dsimp only

theorem State.spiServed_within {pp : Nat} (s : State) (op n : Nat) (f : State → State) (h_f : ∀ t, Within mm pp s00 t → Within mm pp s00 (f t)) (hM : mm ||| 0x400000000000000000000000E00000 = mm) (hW : Within mm pp s00 s) :
    Within mm pp s00 (State.spiServed s op n f) := by
  unfold State.spiServed
  try dsimp only
  repeat' with_reducible
    first | assumption | apply h_f | apply spiCount_within | apply spiNotReady_within
          | apply spiSends_within | apply ite_within | split | exact sub hM (by decide) | dsimp only

theorem State.spiWords_within1 {pp : Nat} (op : Nat) (quad : Bool) (sck : Nat) (late : List Nat) (n i a : Nat)
    (data sent : List Byte) (s : State) (hM : mm ||| 0x2400000800000000000000000E00000 = mm) (hW : Within mm pp s00 s) :
    Within mm pp s00 (State.spiWords op quad sck late n i a data sent s).1 := by
  induction n generalizing s i a data sent with
  | zero => exact hW
  | succ n ih =>
    unfold State.spiWords
    refine ih _ _ _ _ _ ?_
    have h1 := State.hostRead_within1 s a (sub hM (by decide)) hW
    split <;> split
    · exact State.spiNotReady_within _ _ (sub hM (by decide)) h1
    · exact State.spiNotReady_within _ _ (sub hM (by decide)) (State.spiBad_within _ _ _ (sub hM (by decide)) h1)
    · exact h1
    · exact State.spiBad_within _ _ _ (sub hM (by decide)) h1
theorem State.spiWords_within {pp op : Nat} {quad : Bool} {sck : Nat} {late : List Nat} {n i a : Nat} {data sent : List Byte}
    {s ss : State} {xx} (hM : mm ||| 0x2400000800000000000000000E00000 = mm) (hW : Within mm pp s00 s)
    (he : State.spiWords op quad sck late n i a data sent s = (ss, xx)) : Within mm pp s00 ss := by
  have := State.spiWords_within1 op quad sck late n i a data sent s hM hW; rw [he] at this; exact this

theorem State.spiRead_within {pp : Nat} (s : State) (op : Nat) (quad : Bool) (a n : Nat) (sck : Nat) (late : List Nat) (cut : Bool) (hM : mm ||| 0x4002400000800000000000000000E00000 = mm) (hW : Within mm pp s00 s) :
    Within mm pp s00 (State.spiRead s op quad a n sck late cut) := by
  unfold State.spiRead
  try dsimp only
  repeat' with_reducible
    first | assumption | apply fresh_within1 | (refine State.fresh_within ?_ ?_ ‹_›) | apply spiBad_within
          | apply spiSends_within | apply spiServed_within | apply spiWords_within1
          | (refine State.spiWords_within ?_ ?_ ‹_›) | apply ite_within | split | (intro _ _ _) | (intro _ _)
          | exact sub hM (by decide) | dsimp only

theorem execSpiRead_within (pp : Nat) (a : BitVec 24) (n sck : Nat) (late : List Nat) (cut : Bool) (s : State) :
    ∀ u, execSpiRead a n sck late cut s = .next u → Within 0x4002400000800000000000000000E00000 pp s u := by
  intro u hu
  cases hu
  have hM : 0x4002400000800000000000000000E00000 ||| 0x4002400000800000000000000000E00000 = 0x4002400000800000000000000000E00000 := rfl
  have hW := Within.refl 0x4002400000800000000000000000E00000 pp s
  try dsimp only
  repeat' with_reducible
    first | assumption | apply spiRead_within | exact sub hM (by decide) | dsimp only

theorem execQread_within (pp : Nat) (a : BitVec 24) (n sck : Nat) (late : List Nat) (cut : Bool) (s : State) :
    ∀ u, execQread a n sck late cut s = .next u → Within 0x4002400000800000000000000000E00000 pp s u := by
  intro u hu
  cases hu
  have hM : 0x4002400000800000000000000000E00000 ||| 0x4002400000800000000000000000E00000 = 0x4002400000800000000000000000E00000 := rfl
  have hW := Within.refl 0x4002400000800000000000000000E00000 pp s
  try dsimp only
  repeat' with_reducible
    first | assumption | apply spiRead_within | exact sub hM (by decide) | dsimp only

theorem State.writeWords_within {pp : Nat} (hi : HostIf) (op a : Nat) (l : List Word) (s : State) (hM : mm ||| 0xE1B7FDE773F5FEC001A29F69E6FEFE81C2 = mm)
    (hW : Within mm pp s00 s) : Within mm pp s00 (State.writeWords hi op a l s) := by
  induction l generalizing s a with
  | nil => exact hW
  | cons w t ih => exact ih _ _ (State.writeVia_within _ _ _ _ _ (sub hM (by decide)) hW)

theorem State.ownReset_within {pp : Nat} (s : State) (pg a : Nat) (ws : List Word) (hM : mm ||| 0xC003C0000044000000000000003A140000 = mm) (hW : Within mm pp s00 s) :
    Within mm pp s00 (State.ownReset s pg a ws) := by
  unfold State.ownReset
  try dsimp only
  repeat' with_reducible
    first | assumption | apply blockReset_within | apply ite_within | split | exact sub hM (by decide)
          | dsimp only

theorem State.spiWrite_within {pp : Nat} (s : State) (op a : Nat) (ws : List Word) (cut ok : Bool) (hM : mm ||| 0xE1B7FDE773F5FEC001A29F69E6FEFE81C2 = mm) (hW : Within mm pp s00 s) :
    Within mm pp s00 (State.spiWrite s op a ws cut ok) := by
  unfold State.spiWrite
  try dsimp only
  repeat' with_reducible
    first | assumption | apply ownReset_within | apply spiBad_within | apply spiCrc_within
          | apply spiErr_within | apply spiSends_within | apply spiServed_within
          | apply writeWords_within | apply ite_within | split | (intro _ _ _) | (intro _ _)
          | exact sub hM (by decide) | dsimp only

theorem execSpiWrite_within (pp : Nat) (a : BitVec 24) (ws : List Word) (cut ok : Bool) (s : State) :
    ∀ u, execSpiWrite a ws cut ok s = .next u → Within 0xE1B7FDE773F5FEC001A29F69E6FEFE81C2 pp s u := by
  intro u hu
  cases hu
  have hM : 0xE1B7FDE773F5FEC001A29F69E6FEFE81C2 ||| 0xE1B7FDE773F5FEC001A29F69E6FEFE81C2 = 0xE1B7FDE773F5FEC001A29F69E6FEFE81C2 := rfl
  have hW := Within.refl 0xE1B7FDE773F5FEC001A29F69E6FEFE81C2 pp s
  try dsimp only
  repeat' with_reducible
    first | assumption | apply spiWrite_within | exact sub hM (by decide) | dsimp only

theorem execQwrite_within (pp : Nat) (a : BitVec 24) (ws : List Word) (cut ok : Bool) (s : State) :
    ∀ u, execQwrite a ws cut ok s = .next u → Within 0xE1B7FDE773F5FEC001A29F69E6FEFE81C2 pp s u := by
  intro u hu
  cases hu
  have hM : 0xE1B7FDE773F5FEC001A29F69E6FEFE81C2 ||| 0xE1B7FDE773F5FEC001A29F69E6FEFE81C2 = 0xE1B7FDE773F5FEC001A29F69E6FEFE81C2 := rfl
  have hW := Within.refl 0xE1B7FDE773F5FEC001A29F69E6FEFE81C2 pp s
  try dsimp only
  repeat' with_reducible
    first | assumption | apply spiWrite_within | exact sub hM (by decide) | dsimp only

theorem execSpiStatus_within (pp : Nat) (s : State) :
    ∀ u, execSpiStatus s = .next u → Within 0x400000000000000000000000800000 pp s u := by
  intro u hu
  cases hu
  have hM : 0x400000000000000000000000800000 ||| 0x400000000000000000000000800000 = 0x400000000000000000000000800000 := rfl
  have hW := Within.refl 0x400000000000000000000000800000 pp s
  try dsimp only
  repeat' with_reducible
    first | assumption | apply spiCount_within | apply spiSends_within | exact sub hM (by decide)
          | dsimp only

theorem State.pushOutcome_within {pp : Nat} (s : State) (ring st : Nat) (l : List Byte) (hM : mm ||| 0xE00000 = mm) (hW : Within mm pp s00 s) :
    Within mm pp s00 (State.pushOutcome s ring st l) := by
  unfold State.pushOutcome
  try dsimp only
  repeat' with_reducible
    first | assumption | apply bump_within | apply irq_within | apply wr_within
          | apply spiErr_within | apply ite_within | split | exact sub hM (by decide) | dsimp only

theorem execPush_within (pp : Nat) (ring : Byte) (l : List Byte) (ok busy : Bool) (s : State) :
    ∀ u, execPush ring l ok busy s = .next u → Within 0xC00160000451F4C0010000E00838FC0000 pp s u := by
  intro u hu
  cases hu
  have hM : 0xC00160000451F4C0010000E00838FC0000 ||| 0xC00160000451F4C0010000E00838FC0000 = 0xC00160000451F4C0010000E00838FC0000 := rfl
  have hW := Within.refl 0xC00160000451F4C0010000E00838FC0000 pp s
  try dsimp only
  repeat' with_reducible
    first | assumption | apply judgePush_within1 | (refine State.judgePush_within ?_ ?_ ‹_›)
          | apply pushOutcome_within | apply spiCount_within | apply spiCrc_within
          | apply spiNotReady_within | apply spiSends_within | apply ite_within | split
          | exact sub hM (by decide) | dsimp only

theorem State.pulled_within {pp : Nat} (s : State) (q : Fin 40) (hM : mm ||| 0x8000C00000400000000000000004940000 = mm) (hW : Within mm pp s00 s) :
    Within mm pp s00 (State.pulled s q) := by
  unfold State.pulled
  try dsimp only
  repeat' with_reducible
    first | assumption | apply bump_within | apply removeTail_within | apply ite_within | split
          | (intro _ _ _) | (intro _ _) | apply within_mk | exact Or.inr rfl | exact Or.inl (bitOf hM (by decide))
          | exact sub hM (by decide) | dsimp only

theorem State.pullSends_within {pp : Nat} (s : State) (ring : Byte) (l : List Byte) (hM : mm ||| 0x400000000000000000000000000000 = mm) (hW : Within mm pp s00 s) :
    Within mm pp s00 (State.pullSends s ring l) := by
  unfold State.pullSends
  try dsimp only
  repeat' with_reducible
    first | assumption | apply spiSends_within | exact sub hM (by decide) | dsimp only

theorem State.pullDeliver_within {pp : Nat} (s : State) (q : Fin 40) (ring : Byte) (whole : Bool) (hM : mm ||| 0x8000C00000400000000000000004940000 = mm) (hW : Within mm pp s00 s) :
    Within mm pp s00 (State.pullDeliver s q ring whole) := by
  unfold State.pullDeliver
  try dsimp only
  repeat' with_reducible
    first | assumption | apply pullSends_within | apply pulled_within | apply relock_within
          | apply ite_within | split | (intro _ _ _) | (intro _ _) | apply within_mk | exact Or.inr rfl
          | exact Or.inl (bitOf hM (by decide)) | exact sub hM (by decide) | dsimp only

theorem execPull_within (pp : Nat) (ring : Byte) (whole : Bool) (s : State) :
    ∀ u, execPull ring whole s = .next u → Within 0x8000C00000400000000000000004F40000 pp s u := by
  intro u hu
  cases hu
  have hM : 0x8000C00000400000000000000004F40000 ||| 0x8000C00000400000000000000004F40000 = 0x8000C00000400000000000000004F40000 := rfl
  have hW := Within.refl 0x8000C00000400000000000000004F40000 pp s
  try dsimp only
  repeat' with_reducible
    first | assumption | apply pullDeliver_within | apply pullSends_within | apply pulled_within
          | apply spiCount_within | apply spiErr_within | apply spiNotReady_within
          | apply spiSends_within | apply ite_within | split | exact sub hM (by decide) | dsimp only

theorem execSpiStop_within (pp : Nat) (b : Byte) (s : State) :
    ∀ u, execSpiStop b s = .next u → Within 0xC00160000451F4C0010000E00838DC0000 pp s u := by
  intro u hu
  cases hu
  have hM : 0xC00160000451F4C0010000E00838DC0000 ||| 0xC00160000451F4C0010000E00838DC0000 = 0xC00160000451F4C0010000E00838DC0000 := rfl
  have hW := Within.refl 0xC00160000451F4C0010000E00838DC0000 pp s
  try dsimp only
  repeat' with_reducible
    first | assumption | apply bump_within | apply spiCount_within | apply spiErr_within
          | apply spiSends_within | apply stopLane_within1 | (refine State.stopLane_within ?_ ?_ ‹_›)
          | split | exact sub hM (by decide) | dsimp only

theorem execSpiUnknownOpcode_within (pp : Nat) (op : Byte) (s : State) :
    ∀ u, execSpiUnknownOpcode op s = .next u → Within 0x400000000000000000000000C00000 pp s u := by
  intro u hu
  cases hu
  have hM : 0x400000000000000000000000C00000 ||| 0x400000000000000000000000C00000 = 0x400000000000000000000000C00000 := rfl
  have hW := Within.refl 0x400000000000000000000000C00000 pp s
  try dsimp only
  repeat' with_reducible
    first | assumption | apply spiCount_within | apply spiErr_within | apply spiSends_within
          | apply ite_within | split | exact sub hM (by decide) | dsimp only

theorem execSpiWake_within (pp : Nat) (s : State) :
    ∀ u, execSpiWake s = .next u → Within 0x200000000000000000000080 pp s u := by
  intro u hu
  cases hu
  have hM : 0x200000000000000000000080 ||| 0x200000000000000000000080 = 0x200000000000000000000080 := rfl
  have hW := Within.refl 0x200000000000000000000080 pp s
  try dsimp only
  repeat' with_reducible
    first | assumption | apply wakeBy_within | exact sub hM (by decide) | dsimp only

end Sys2Proof.Machine
end

