-- ==== Sys2Proof/Laws/State.lean ====
section
/-! SUPPORT. One lemma for each field of the state and each named update of it: what the update leaves, and what it sets. -/

set_option linter.all false

namespace Sys2Proof.Machine

/-! ## `State.wr` -/

@[simp] theorem State.wr_dev (s : State) (F : Field) (i v : Nat) : (s.wr F i v).dev = s.dev := rfl
@[simp] theorem State.wr_rings (s : State) (F : Field) (i v : Nat) : (s.wr F i v).rings = s.rings := rfl
@[simp] theorem State.wr_mbox (s : State) (F : Field) (i v : Nat) : (s.wr F i v).mbox = s.mbox := rfl
@[simp] theorem State.wr_staging (s : State) (F : Field) (i v : Nat) : (s.wr F i v).staging = s.staging := rfl
@[simp] theorem State.wr_notice (s : State) (F : Field) (i v : Nat) : (s.wr F i v).notice = s.notice := rfl
@[simp] theorem State.wr_stop (s : State) (F : Field) (i v : Nat) : (s.wr F i v).stop = s.stop := rfl
@[simp] theorem State.wr_role (s : State) (F : Field) (i v : Nat) : (s.wr F i v).role = s.role := rfl
@[simp] theorem State.wr_island (s : State) (F : Field) (i v : Nat) : (s.wr F i v).island = s.island := rfl
@[simp] theorem State.wr_islandE (s : State) (F : Field) (i v : Nat) : (s.wr F i v).islandE = s.islandE := rfl
@[simp] theorem State.wr_returnTick (s : State) (F : Field) (i v : Nat) : (s.wr F i v).returnTick = s.returnTick := rfl
@[simp] theorem State.wr_supply (s : State) (F : Field) (i v : Nat) : (s.wr F i v).supply = s.supply := rfl
@[simp] theorem State.wr_feeds (s : State) (F : Field) (i v : Nat) : (s.wr F i v).feeds = s.feeds := rfl
@[simp] theorem State.wr_monRepeat (s : State) (F : Field) (i v : Nat) : (s.wr F i v).monRepeat = s.monRepeat := rfl
@[simp] theorem State.wr_chipFailed (s : State) (F : Field) (i v : Nat) : (s.wr F i v).chipFailed = s.chipFailed := rfl
@[simp] theorem State.wr_otp (s : State) (F : Field) (i v : Nat) : (s.wr F i v).otp = s.otp := rfl
@[simp] theorem State.wr_busV (s : State) (F : Field) (i v : Nat) : (s.wr F i v).busV = s.busV := rfl
@[simp] theorem State.wr_adcCheck (s : State) (F : Field) (i v : Nat) : (s.wr F i v).adcCheck = s.adcCheck := rfl
@[simp] theorem State.wr_adcRepeat (s : State) (F : Field) (i v : Nat) : (s.wr F i v).adcRepeat = s.adcRepeat := rfl
@[simp] theorem State.wr_calNext (s : State) (F : Field) (i v : Nat) : (s.wr F i v).calNext = s.calNext := rfl
@[simp] theorem State.wr_adcCal (s : State) (F : Field) (i v : Nat) : (s.wr F i v).adcCal = s.adcCal := rfl
@[simp] theorem State.wr_svc (s : State) (F : Field) (i v : Nat) : (s.wr F i v).svc = s.svc := rfl
@[simp] theorem State.wr_planned (s : State) (F : Field) (i v : Nat) : (s.wr F i v).planned = s.planned := rfl
@[simp] theorem State.wr_bud (s : State) (F : Field) (i v : Nat) : (s.wr F i v).bud = s.bud := rfl
@[simp] theorem State.wr_led (s : State) (F : Field) (i v : Nat) : (s.wr F i v).led = s.led := rfl
@[simp] theorem State.wr_pair (s : State) (F : Field) (i v : Nat) : (s.wr F i v).pair = s.pair := rfl
@[simp] theorem State.wr_spi (s : State) (F : Field) (i v : Nat) : (s.wr F i v).spi = s.spi := rfl
@[simp] theorem State.wr_smb (s : State) (F : Field) (i v : Nat) : (s.wr F i v).smb = s.smb := rfl
@[simp] theorem State.wr_weft (s : State) (F : Field) (i v : Nat) : (s.wr F i v).weft = s.weft := rfl
@[simp] theorem State.wr_tim (s : State) (F : Field) (i v : Nat) : (s.wr F i v).tim = s.tim := rfl
@[simp] theorem State.wr_snap (s : State) (F : Field) (i v : Nat) : (s.wr F i v).snap = s.snap := rfl
@[simp] theorem State.wr_flash (s : State) (F : Field) (i v : Nat) : (s.wr F i v).flash = s.flash := rfl
@[simp] theorem State.wr_boot (s : State) (F : Field) (i v : Nat) : (s.wr F i v).boot = s.boot := rfl
@[simp] theorem State.wr_pow (s : State) (F : Field) (i v : Nat) : (s.wr F i v).pow = s.pow := rfl
@[simp] theorem State.wr_polFlash (s : State) (F : Field) (i v : Nat) : (s.wr F i v).polFlash = s.polFlash := rfl
@[simp] theorem State.wr_retiredMask (s : State) (F : Field) (i v : Nat) : (s.wr F i v).retiredMask = s.retiredMask := rfl
@[simp] theorem State.wr_retiredFeeds (s : State) (F : Field) (i v : Nat) : (s.wr F i v).retiredFeeds = s.retiredFeeds := rfl
@[simp] theorem State.wr_marks (s : State) (F : Field) (i v : Nat) : (s.wr F i v).marks = s.marks := rfl
@[simp] theorem State.wr_time (s : State) (F : Field) (i v : Nat) : (s.wr F i v).time = s.time := rfl
@[simp] theorem State.wr_frac (s : State) (F : Field) (i v : Nat) : (s.wr F i v).frac = s.frac := rfl
@[simp] theorem State.wr_up (s : State) (F : Field) (i v : Nat) : (s.wr F i v).up = s.up := rfl
@[simp] theorem State.wr_served2 (s : State) (F : Field) (i v : Nat) : (s.wr F i v).served2 = s.served2 := rfl
@[simp] theorem State.wr_freeCount (s : State) (F : Field) (i v : Nat) : (s.wr F i v).freeCount = s.freeCount := rfl
@[simp] theorem State.wr_islRole (s : State) (F : Field) (i v : Nat) : (s.wr F i v).islRole = s.islRole := rfl
@[simp] theorem State.wr_updates (s : State) (F : Field) (i v : Nat) : (s.wr F i v).updates = s.updates := rfl
@[simp] theorem State.wr_ports (s : State) (F : Field) (i v : Nat) : (s.wr F i v).ports = s.ports := rfl
@[simp] theorem State.wr_pending (s : State) (F : Field) (i v : Nat) : (s.wr F i v).pending = s.pending := rfl
@[simp] theorem State.wr_port (s : State) (F : Field) (i v : Nat) (q : Port) : (s.wr F i v).port q = s.port q := rfl
@[simp] theorem State.wr_ring (s : State) (F : Field) (i v : Nat) (q : Fin 40) : (s.wr F i v).ring q = s.ring q := rfl

/-! ## `State.wrI` -/

@[simp] theorem State.wrI_dev (s : State) (F : Field) (i : Nat) (v : Int) : (s.wrI F i v).dev = s.dev := rfl
@[simp] theorem State.wrI_rings (s : State) (F : Field) (i : Nat) (v : Int) : (s.wrI F i v).rings = s.rings := rfl
@[simp] theorem State.wrI_mbox (s : State) (F : Field) (i : Nat) (v : Int) : (s.wrI F i v).mbox = s.mbox := rfl
@[simp] theorem State.wrI_staging (s : State) (F : Field) (i : Nat) (v : Int) : (s.wrI F i v).staging = s.staging := rfl
@[simp] theorem State.wrI_notice (s : State) (F : Field) (i : Nat) (v : Int) : (s.wrI F i v).notice = s.notice := rfl
@[simp] theorem State.wrI_stop (s : State) (F : Field) (i : Nat) (v : Int) : (s.wrI F i v).stop = s.stop := rfl
@[simp] theorem State.wrI_role (s : State) (F : Field) (i : Nat) (v : Int) : (s.wrI F i v).role = s.role := rfl
@[simp] theorem State.wrI_island (s : State) (F : Field) (i : Nat) (v : Int) : (s.wrI F i v).island = s.island := rfl
@[simp] theorem State.wrI_islandE (s : State) (F : Field) (i : Nat) (v : Int) : (s.wrI F i v).islandE = s.islandE := rfl
@[simp] theorem State.wrI_returnTick (s : State) (F : Field) (i : Nat) (v : Int) : (s.wrI F i v).returnTick = s.returnTick := rfl
@[simp] theorem State.wrI_supply (s : State) (F : Field) (i : Nat) (v : Int) : (s.wrI F i v).supply = s.supply := rfl
@[simp] theorem State.wrI_feeds (s : State) (F : Field) (i : Nat) (v : Int) : (s.wrI F i v).feeds = s.feeds := rfl
@[simp] theorem State.wrI_monRepeat (s : State) (F : Field) (i : Nat) (v : Int) : (s.wrI F i v).monRepeat = s.monRepeat := rfl
@[simp] theorem State.wrI_chipFailed (s : State) (F : Field) (i : Nat) (v : Int) : (s.wrI F i v).chipFailed = s.chipFailed := rfl
@[simp] theorem State.wrI_otp (s : State) (F : Field) (i : Nat) (v : Int) : (s.wrI F i v).otp = s.otp := rfl
@[simp] theorem State.wrI_busV (s : State) (F : Field) (i : Nat) (v : Int) : (s.wrI F i v).busV = s.busV := rfl
@[simp] theorem State.wrI_adcCheck (s : State) (F : Field) (i : Nat) (v : Int) : (s.wrI F i v).adcCheck = s.adcCheck := rfl
@[simp] theorem State.wrI_adcRepeat (s : State) (F : Field) (i : Nat) (v : Int) : (s.wrI F i v).adcRepeat = s.adcRepeat := rfl
@[simp] theorem State.wrI_calNext (s : State) (F : Field) (i : Nat) (v : Int) : (s.wrI F i v).calNext = s.calNext := rfl
@[simp] theorem State.wrI_adcCal (s : State) (F : Field) (i : Nat) (v : Int) : (s.wrI F i v).adcCal = s.adcCal := rfl
@[simp] theorem State.wrI_svc (s : State) (F : Field) (i : Nat) (v : Int) : (s.wrI F i v).svc = s.svc := rfl
@[simp] theorem State.wrI_planned (s : State) (F : Field) (i : Nat) (v : Int) : (s.wrI F i v).planned = s.planned := rfl
@[simp] theorem State.wrI_bud (s : State) (F : Field) (i : Nat) (v : Int) : (s.wrI F i v).bud = s.bud := rfl
@[simp] theorem State.wrI_led (s : State) (F : Field) (i : Nat) (v : Int) : (s.wrI F i v).led = s.led := rfl
@[simp] theorem State.wrI_pair (s : State) (F : Field) (i : Nat) (v : Int) : (s.wrI F i v).pair = s.pair := rfl
@[simp] theorem State.wrI_spi (s : State) (F : Field) (i : Nat) (v : Int) : (s.wrI F i v).spi = s.spi := rfl
@[simp] theorem State.wrI_smb (s : State) (F : Field) (i : Nat) (v : Int) : (s.wrI F i v).smb = s.smb := rfl
@[simp] theorem State.wrI_weft (s : State) (F : Field) (i : Nat) (v : Int) : (s.wrI F i v).weft = s.weft := rfl
@[simp] theorem State.wrI_tim (s : State) (F : Field) (i : Nat) (v : Int) : (s.wrI F i v).tim = s.tim := rfl
@[simp] theorem State.wrI_snap (s : State) (F : Field) (i : Nat) (v : Int) : (s.wrI F i v).snap = s.snap := rfl
@[simp] theorem State.wrI_flash (s : State) (F : Field) (i : Nat) (v : Int) : (s.wrI F i v).flash = s.flash := rfl
@[simp] theorem State.wrI_boot (s : State) (F : Field) (i : Nat) (v : Int) : (s.wrI F i v).boot = s.boot := rfl
@[simp] theorem State.wrI_pow (s : State) (F : Field) (i : Nat) (v : Int) : (s.wrI F i v).pow = s.pow := rfl
@[simp] theorem State.wrI_polFlash (s : State) (F : Field) (i : Nat) (v : Int) : (s.wrI F i v).polFlash = s.polFlash := rfl
@[simp] theorem State.wrI_retiredMask (s : State) (F : Field) (i : Nat) (v : Int) : (s.wrI F i v).retiredMask = s.retiredMask := rfl
@[simp] theorem State.wrI_retiredFeeds (s : State) (F : Field) (i : Nat) (v : Int) : (s.wrI F i v).retiredFeeds = s.retiredFeeds := rfl
@[simp] theorem State.wrI_marks (s : State) (F : Field) (i : Nat) (v : Int) : (s.wrI F i v).marks = s.marks := rfl
@[simp] theorem State.wrI_time (s : State) (F : Field) (i : Nat) (v : Int) : (s.wrI F i v).time = s.time := rfl
@[simp] theorem State.wrI_frac (s : State) (F : Field) (i : Nat) (v : Int) : (s.wrI F i v).frac = s.frac := rfl
@[simp] theorem State.wrI_up (s : State) (F : Field) (i : Nat) (v : Int) : (s.wrI F i v).up = s.up := rfl
@[simp] theorem State.wrI_served2 (s : State) (F : Field) (i : Nat) (v : Int) : (s.wrI F i v).served2 = s.served2 := rfl
@[simp] theorem State.wrI_freeCount (s : State) (F : Field) (i : Nat) (v : Int) : (s.wrI F i v).freeCount = s.freeCount := rfl
@[simp] theorem State.wrI_islRole (s : State) (F : Field) (i : Nat) (v : Int) : (s.wrI F i v).islRole = s.islRole := rfl
@[simp] theorem State.wrI_updates (s : State) (F : Field) (i : Nat) (v : Int) : (s.wrI F i v).updates = s.updates := rfl
@[simp] theorem State.wrI_ports (s : State) (F : Field) (i : Nat) (v : Int) : (s.wrI F i v).ports = s.ports := rfl
@[simp] theorem State.wrI_pending (s : State) (F : Field) (i : Nat) (v : Int) : (s.wrI F i v).pending = s.pending := rfl
@[simp] theorem State.wrI_port (s : State) (F : Field) (i : Nat) (v : Int) (q : Port) : (s.wrI F i v).port q = s.port q := rfl
@[simp] theorem State.wrI_ring (s : State) (F : Field) (i : Nat) (v : Int) (q : Fin 40) : (s.wrI F i v).ring q = s.ring q := rfl

/-! ## `State.flag` -/

@[simp] theorem State.flag_dev (s : State) (F : Field) (i : Nat) (b : Bool) : (s.flag F i b).dev = s.dev := rfl
@[simp] theorem State.flag_rings (s : State) (F : Field) (i : Nat) (b : Bool) : (s.flag F i b).rings = s.rings := rfl
@[simp] theorem State.flag_mbox (s : State) (F : Field) (i : Nat) (b : Bool) : (s.flag F i b).mbox = s.mbox := rfl
@[simp] theorem State.flag_staging (s : State) (F : Field) (i : Nat) (b : Bool) : (s.flag F i b).staging = s.staging := rfl
@[simp] theorem State.flag_notice (s : State) (F : Field) (i : Nat) (b : Bool) : (s.flag F i b).notice = s.notice := rfl
@[simp] theorem State.flag_stop (s : State) (F : Field) (i : Nat) (b : Bool) : (s.flag F i b).stop = s.stop := rfl
@[simp] theorem State.flag_role (s : State) (F : Field) (i : Nat) (b : Bool) : (s.flag F i b).role = s.role := rfl
@[simp] theorem State.flag_island (s : State) (F : Field) (i : Nat) (b : Bool) : (s.flag F i b).island = s.island := rfl
@[simp] theorem State.flag_islandE (s : State) (F : Field) (i : Nat) (b : Bool) : (s.flag F i b).islandE = s.islandE := rfl
@[simp] theorem State.flag_returnTick (s : State) (F : Field) (i : Nat) (b : Bool) : (s.flag F i b).returnTick = s.returnTick := rfl
@[simp] theorem State.flag_supply (s : State) (F : Field) (i : Nat) (b : Bool) : (s.flag F i b).supply = s.supply := rfl
@[simp] theorem State.flag_feeds (s : State) (F : Field) (i : Nat) (b : Bool) : (s.flag F i b).feeds = s.feeds := rfl
@[simp] theorem State.flag_monRepeat (s : State) (F : Field) (i : Nat) (b : Bool) : (s.flag F i b).monRepeat = s.monRepeat := rfl
@[simp] theorem State.flag_chipFailed (s : State) (F : Field) (i : Nat) (b : Bool) : (s.flag F i b).chipFailed = s.chipFailed := rfl
@[simp] theorem State.flag_otp (s : State) (F : Field) (i : Nat) (b : Bool) : (s.flag F i b).otp = s.otp := rfl
@[simp] theorem State.flag_busV (s : State) (F : Field) (i : Nat) (b : Bool) : (s.flag F i b).busV = s.busV := rfl
@[simp] theorem State.flag_adcCheck (s : State) (F : Field) (i : Nat) (b : Bool) : (s.flag F i b).adcCheck = s.adcCheck := rfl
@[simp] theorem State.flag_adcRepeat (s : State) (F : Field) (i : Nat) (b : Bool) : (s.flag F i b).adcRepeat = s.adcRepeat := rfl
@[simp] theorem State.flag_calNext (s : State) (F : Field) (i : Nat) (b : Bool) : (s.flag F i b).calNext = s.calNext := rfl
@[simp] theorem State.flag_adcCal (s : State) (F : Field) (i : Nat) (b : Bool) : (s.flag F i b).adcCal = s.adcCal := rfl
@[simp] theorem State.flag_svc (s : State) (F : Field) (i : Nat) (b : Bool) : (s.flag F i b).svc = s.svc := rfl
@[simp] theorem State.flag_planned (s : State) (F : Field) (i : Nat) (b : Bool) : (s.flag F i b).planned = s.planned := rfl
@[simp] theorem State.flag_bud (s : State) (F : Field) (i : Nat) (b : Bool) : (s.flag F i b).bud = s.bud := rfl
@[simp] theorem State.flag_led (s : State) (F : Field) (i : Nat) (b : Bool) : (s.flag F i b).led = s.led := rfl
@[simp] theorem State.flag_pair (s : State) (F : Field) (i : Nat) (b : Bool) : (s.flag F i b).pair = s.pair := rfl
@[simp] theorem State.flag_spi (s : State) (F : Field) (i : Nat) (b : Bool) : (s.flag F i b).spi = s.spi := rfl
@[simp] theorem State.flag_smb (s : State) (F : Field) (i : Nat) (b : Bool) : (s.flag F i b).smb = s.smb := rfl
@[simp] theorem State.flag_weft (s : State) (F : Field) (i : Nat) (b : Bool) : (s.flag F i b).weft = s.weft := rfl
@[simp] theorem State.flag_tim (s : State) (F : Field) (i : Nat) (b : Bool) : (s.flag F i b).tim = s.tim := rfl
@[simp] theorem State.flag_snap (s : State) (F : Field) (i : Nat) (b : Bool) : (s.flag F i b).snap = s.snap := rfl
@[simp] theorem State.flag_flash (s : State) (F : Field) (i : Nat) (b : Bool) : (s.flag F i b).flash = s.flash := rfl
@[simp] theorem State.flag_boot (s : State) (F : Field) (i : Nat) (b : Bool) : (s.flag F i b).boot = s.boot := rfl
@[simp] theorem State.flag_pow (s : State) (F : Field) (i : Nat) (b : Bool) : (s.flag F i b).pow = s.pow := rfl
@[simp] theorem State.flag_polFlash (s : State) (F : Field) (i : Nat) (b : Bool) : (s.flag F i b).polFlash = s.polFlash := rfl
@[simp] theorem State.flag_retiredMask (s : State) (F : Field) (i : Nat) (b : Bool) : (s.flag F i b).retiredMask = s.retiredMask := rfl
@[simp] theorem State.flag_retiredFeeds (s : State) (F : Field) (i : Nat) (b : Bool) : (s.flag F i b).retiredFeeds = s.retiredFeeds := rfl
@[simp] theorem State.flag_marks (s : State) (F : Field) (i : Nat) (b : Bool) : (s.flag F i b).marks = s.marks := rfl
@[simp] theorem State.flag_time (s : State) (F : Field) (i : Nat) (b : Bool) : (s.flag F i b).time = s.time := rfl
@[simp] theorem State.flag_frac (s : State) (F : Field) (i : Nat) (b : Bool) : (s.flag F i b).frac = s.frac := rfl
@[simp] theorem State.flag_up (s : State) (F : Field) (i : Nat) (b : Bool) : (s.flag F i b).up = s.up := rfl
@[simp] theorem State.flag_served2 (s : State) (F : Field) (i : Nat) (b : Bool) : (s.flag F i b).served2 = s.served2 := rfl
@[simp] theorem State.flag_freeCount (s : State) (F : Field) (i : Nat) (b : Bool) : (s.flag F i b).freeCount = s.freeCount := rfl
@[simp] theorem State.flag_islRole (s : State) (F : Field) (i : Nat) (b : Bool) : (s.flag F i b).islRole = s.islRole := rfl
@[simp] theorem State.flag_updates (s : State) (F : Field) (i : Nat) (b : Bool) : (s.flag F i b).updates = s.updates := rfl
@[simp] theorem State.flag_ports (s : State) (F : Field) (i : Nat) (b : Bool) : (s.flag F i b).ports = s.ports := rfl
@[simp] theorem State.flag_pending (s : State) (F : Field) (i : Nat) (b : Bool) : (s.flag F i b).pending = s.pending := rfl
@[simp] theorem State.flag_port (s : State) (F : Field) (i : Nat) (b : Bool) (q : Port) : (s.flag F i b).port q = s.port q := rfl
@[simp] theorem State.flag_ring (s : State) (F : Field) (i : Nat) (b : Bool) (q : Fin 40) : (s.flag F i b).ring q = s.ring q := rfl

/-! ## `State.bump` -/

@[simp] theorem State.bump_dev (s : State) (F : Field) (i : Nat) : (s.bump F i).dev = s.dev := rfl
@[simp] theorem State.bump_rings (s : State) (F : Field) (i : Nat) : (s.bump F i).rings = s.rings := rfl
@[simp] theorem State.bump_mbox (s : State) (F : Field) (i : Nat) : (s.bump F i).mbox = s.mbox := rfl
@[simp] theorem State.bump_staging (s : State) (F : Field) (i : Nat) : (s.bump F i).staging = s.staging := rfl
@[simp] theorem State.bump_notice (s : State) (F : Field) (i : Nat) : (s.bump F i).notice = s.notice := rfl
@[simp] theorem State.bump_stop (s : State) (F : Field) (i : Nat) : (s.bump F i).stop = s.stop := rfl
@[simp] theorem State.bump_role (s : State) (F : Field) (i : Nat) : (s.bump F i).role = s.role := rfl
@[simp] theorem State.bump_island (s : State) (F : Field) (i : Nat) : (s.bump F i).island = s.island := rfl
@[simp] theorem State.bump_islandE (s : State) (F : Field) (i : Nat) : (s.bump F i).islandE = s.islandE := rfl
@[simp] theorem State.bump_returnTick (s : State) (F : Field) (i : Nat) : (s.bump F i).returnTick = s.returnTick := rfl
@[simp] theorem State.bump_supply (s : State) (F : Field) (i : Nat) : (s.bump F i).supply = s.supply := rfl
@[simp] theorem State.bump_feeds (s : State) (F : Field) (i : Nat) : (s.bump F i).feeds = s.feeds := rfl
@[simp] theorem State.bump_monRepeat (s : State) (F : Field) (i : Nat) : (s.bump F i).monRepeat = s.monRepeat := rfl
@[simp] theorem State.bump_chipFailed (s : State) (F : Field) (i : Nat) : (s.bump F i).chipFailed = s.chipFailed := rfl
@[simp] theorem State.bump_otp (s : State) (F : Field) (i : Nat) : (s.bump F i).otp = s.otp := rfl
@[simp] theorem State.bump_busV (s : State) (F : Field) (i : Nat) : (s.bump F i).busV = s.busV := rfl
@[simp] theorem State.bump_adcCheck (s : State) (F : Field) (i : Nat) : (s.bump F i).adcCheck = s.adcCheck := rfl
@[simp] theorem State.bump_adcRepeat (s : State) (F : Field) (i : Nat) : (s.bump F i).adcRepeat = s.adcRepeat := rfl
@[simp] theorem State.bump_calNext (s : State) (F : Field) (i : Nat) : (s.bump F i).calNext = s.calNext := rfl
@[simp] theorem State.bump_adcCal (s : State) (F : Field) (i : Nat) : (s.bump F i).adcCal = s.adcCal := rfl
@[simp] theorem State.bump_svc (s : State) (F : Field) (i : Nat) : (s.bump F i).svc = s.svc := rfl
@[simp] theorem State.bump_planned (s : State) (F : Field) (i : Nat) : (s.bump F i).planned = s.planned := rfl
@[simp] theorem State.bump_bud (s : State) (F : Field) (i : Nat) : (s.bump F i).bud = s.bud := rfl
@[simp] theorem State.bump_led (s : State) (F : Field) (i : Nat) : (s.bump F i).led = s.led := rfl
@[simp] theorem State.bump_pair (s : State) (F : Field) (i : Nat) : (s.bump F i).pair = s.pair := rfl
@[simp] theorem State.bump_spi (s : State) (F : Field) (i : Nat) : (s.bump F i).spi = s.spi := rfl
@[simp] theorem State.bump_smb (s : State) (F : Field) (i : Nat) : (s.bump F i).smb = s.smb := rfl
@[simp] theorem State.bump_weft (s : State) (F : Field) (i : Nat) : (s.bump F i).weft = s.weft := rfl
@[simp] theorem State.bump_tim (s : State) (F : Field) (i : Nat) : (s.bump F i).tim = s.tim := rfl
@[simp] theorem State.bump_snap (s : State) (F : Field) (i : Nat) : (s.bump F i).snap = s.snap := rfl
@[simp] theorem State.bump_flash (s : State) (F : Field) (i : Nat) : (s.bump F i).flash = s.flash := rfl
@[simp] theorem State.bump_boot (s : State) (F : Field) (i : Nat) : (s.bump F i).boot = s.boot := rfl
@[simp] theorem State.bump_pow (s : State) (F : Field) (i : Nat) : (s.bump F i).pow = s.pow := rfl
@[simp] theorem State.bump_polFlash (s : State) (F : Field) (i : Nat) : (s.bump F i).polFlash = s.polFlash := rfl
@[simp] theorem State.bump_retiredMask (s : State) (F : Field) (i : Nat) : (s.bump F i).retiredMask = s.retiredMask := rfl
@[simp] theorem State.bump_retiredFeeds (s : State) (F : Field) (i : Nat) : (s.bump F i).retiredFeeds = s.retiredFeeds := rfl
@[simp] theorem State.bump_marks (s : State) (F : Field) (i : Nat) : (s.bump F i).marks = s.marks := rfl
@[simp] theorem State.bump_time (s : State) (F : Field) (i : Nat) : (s.bump F i).time = s.time := rfl
@[simp] theorem State.bump_frac (s : State) (F : Field) (i : Nat) : (s.bump F i).frac = s.frac := rfl
@[simp] theorem State.bump_up (s : State) (F : Field) (i : Nat) : (s.bump F i).up = s.up := rfl
@[simp] theorem State.bump_served2 (s : State) (F : Field) (i : Nat) : (s.bump F i).served2 = s.served2 := rfl
@[simp] theorem State.bump_freeCount (s : State) (F : Field) (i : Nat) : (s.bump F i).freeCount = s.freeCount := rfl
@[simp] theorem State.bump_islRole (s : State) (F : Field) (i : Nat) : (s.bump F i).islRole = s.islRole := rfl
@[simp] theorem State.bump_updates (s : State) (F : Field) (i : Nat) : (s.bump F i).updates = s.updates := rfl
@[simp] theorem State.bump_ports (s : State) (F : Field) (i : Nat) : (s.bump F i).ports = s.ports := rfl
@[simp] theorem State.bump_pending (s : State) (F : Field) (i : Nat) : (s.bump F i).pending = s.pending := rfl
@[simp] theorem State.bump_port (s : State) (F : Field) (i : Nat) (q : Port) : (s.bump F i).port q = s.port q := rfl
@[simp] theorem State.bump_ring (s : State) (F : Field) (i : Nat) (q : Fin 40) : (s.bump F i).ring q = s.ring q := rfl

/-! ## `State.bumpBy` -/

@[simp] theorem State.bumpBy_dev (s : State) (F : Field) (i n : Nat) : (s.bumpBy F i n).dev = s.dev := rfl
@[simp] theorem State.bumpBy_rings (s : State) (F : Field) (i n : Nat) : (s.bumpBy F i n).rings = s.rings := rfl
@[simp] theorem State.bumpBy_mbox (s : State) (F : Field) (i n : Nat) : (s.bumpBy F i n).mbox = s.mbox := rfl
@[simp] theorem State.bumpBy_staging (s : State) (F : Field) (i n : Nat) : (s.bumpBy F i n).staging = s.staging := rfl
@[simp] theorem State.bumpBy_notice (s : State) (F : Field) (i n : Nat) : (s.bumpBy F i n).notice = s.notice := rfl
@[simp] theorem State.bumpBy_stop (s : State) (F : Field) (i n : Nat) : (s.bumpBy F i n).stop = s.stop := rfl
@[simp] theorem State.bumpBy_role (s : State) (F : Field) (i n : Nat) : (s.bumpBy F i n).role = s.role := rfl
@[simp] theorem State.bumpBy_island (s : State) (F : Field) (i n : Nat) : (s.bumpBy F i n).island = s.island := rfl
@[simp] theorem State.bumpBy_islandE (s : State) (F : Field) (i n : Nat) : (s.bumpBy F i n).islandE = s.islandE := rfl
@[simp] theorem State.bumpBy_returnTick (s : State) (F : Field) (i n : Nat) : (s.bumpBy F i n).returnTick = s.returnTick := rfl
@[simp] theorem State.bumpBy_supply (s : State) (F : Field) (i n : Nat) : (s.bumpBy F i n).supply = s.supply := rfl
@[simp] theorem State.bumpBy_feeds (s : State) (F : Field) (i n : Nat) : (s.bumpBy F i n).feeds = s.feeds := rfl
@[simp] theorem State.bumpBy_monRepeat (s : State) (F : Field) (i n : Nat) : (s.bumpBy F i n).monRepeat = s.monRepeat := rfl
@[simp] theorem State.bumpBy_chipFailed (s : State) (F : Field) (i n : Nat) : (s.bumpBy F i n).chipFailed = s.chipFailed := rfl
@[simp] theorem State.bumpBy_otp (s : State) (F : Field) (i n : Nat) : (s.bumpBy F i n).otp = s.otp := rfl
@[simp] theorem State.bumpBy_busV (s : State) (F : Field) (i n : Nat) : (s.bumpBy F i n).busV = s.busV := rfl
@[simp] theorem State.bumpBy_adcCheck (s : State) (F : Field) (i n : Nat) : (s.bumpBy F i n).adcCheck = s.adcCheck := rfl
@[simp] theorem State.bumpBy_adcRepeat (s : State) (F : Field) (i n : Nat) : (s.bumpBy F i n).adcRepeat = s.adcRepeat := rfl
@[simp] theorem State.bumpBy_calNext (s : State) (F : Field) (i n : Nat) : (s.bumpBy F i n).calNext = s.calNext := rfl
@[simp] theorem State.bumpBy_adcCal (s : State) (F : Field) (i n : Nat) : (s.bumpBy F i n).adcCal = s.adcCal := rfl
@[simp] theorem State.bumpBy_svc (s : State) (F : Field) (i n : Nat) : (s.bumpBy F i n).svc = s.svc := rfl
@[simp] theorem State.bumpBy_planned (s : State) (F : Field) (i n : Nat) : (s.bumpBy F i n).planned = s.planned := rfl
@[simp] theorem State.bumpBy_bud (s : State) (F : Field) (i n : Nat) : (s.bumpBy F i n).bud = s.bud := rfl
@[simp] theorem State.bumpBy_led (s : State) (F : Field) (i n : Nat) : (s.bumpBy F i n).led = s.led := rfl
@[simp] theorem State.bumpBy_pair (s : State) (F : Field) (i n : Nat) : (s.bumpBy F i n).pair = s.pair := rfl
@[simp] theorem State.bumpBy_spi (s : State) (F : Field) (i n : Nat) : (s.bumpBy F i n).spi = s.spi := rfl
@[simp] theorem State.bumpBy_smb (s : State) (F : Field) (i n : Nat) : (s.bumpBy F i n).smb = s.smb := rfl
@[simp] theorem State.bumpBy_weft (s : State) (F : Field) (i n : Nat) : (s.bumpBy F i n).weft = s.weft := rfl
@[simp] theorem State.bumpBy_tim (s : State) (F : Field) (i n : Nat) : (s.bumpBy F i n).tim = s.tim := rfl
@[simp] theorem State.bumpBy_snap (s : State) (F : Field) (i n : Nat) : (s.bumpBy F i n).snap = s.snap := rfl
@[simp] theorem State.bumpBy_flash (s : State) (F : Field) (i n : Nat) : (s.bumpBy F i n).flash = s.flash := rfl
@[simp] theorem State.bumpBy_boot (s : State) (F : Field) (i n : Nat) : (s.bumpBy F i n).boot = s.boot := rfl
@[simp] theorem State.bumpBy_pow (s : State) (F : Field) (i n : Nat) : (s.bumpBy F i n).pow = s.pow := rfl
@[simp] theorem State.bumpBy_polFlash (s : State) (F : Field) (i n : Nat) : (s.bumpBy F i n).polFlash = s.polFlash := rfl
@[simp] theorem State.bumpBy_retiredMask (s : State) (F : Field) (i n : Nat) : (s.bumpBy F i n).retiredMask = s.retiredMask := rfl
@[simp] theorem State.bumpBy_retiredFeeds (s : State) (F : Field) (i n : Nat) : (s.bumpBy F i n).retiredFeeds = s.retiredFeeds := rfl
@[simp] theorem State.bumpBy_marks (s : State) (F : Field) (i n : Nat) : (s.bumpBy F i n).marks = s.marks := rfl
@[simp] theorem State.bumpBy_time (s : State) (F : Field) (i n : Nat) : (s.bumpBy F i n).time = s.time := rfl
@[simp] theorem State.bumpBy_frac (s : State) (F : Field) (i n : Nat) : (s.bumpBy F i n).frac = s.frac := rfl
@[simp] theorem State.bumpBy_up (s : State) (F : Field) (i n : Nat) : (s.bumpBy F i n).up = s.up := rfl
@[simp] theorem State.bumpBy_served2 (s : State) (F : Field) (i n : Nat) : (s.bumpBy F i n).served2 = s.served2 := rfl
@[simp] theorem State.bumpBy_freeCount (s : State) (F : Field) (i n : Nat) : (s.bumpBy F i n).freeCount = s.freeCount := rfl
@[simp] theorem State.bumpBy_islRole (s : State) (F : Field) (i n : Nat) : (s.bumpBy F i n).islRole = s.islRole := rfl
@[simp] theorem State.bumpBy_updates (s : State) (F : Field) (i n : Nat) : (s.bumpBy F i n).updates = s.updates := rfl
@[simp] theorem State.bumpBy_ports (s : State) (F : Field) (i n : Nat) : (s.bumpBy F i n).ports = s.ports := rfl
@[simp] theorem State.bumpBy_pending (s : State) (F : Field) (i n : Nat) : (s.bumpBy F i n).pending = s.pending := rfl
@[simp] theorem State.bumpBy_port (s : State) (F : Field) (i n : Nat) (q : Port) : (s.bumpBy F i n).port q = s.port q := rfl
@[simp] theorem State.bumpBy_ring (s : State) (F : Field) (i n : Nat) (q : Fin 40) : (s.bumpBy F i n).ring q = s.ring q := rfl

/-! ## `State.wrSat` -/

@[simp] theorem State.wrSat_dev (s : State) (F : Field) (i v : Nat) : (s.wrSat F i v).dev = s.dev := rfl
@[simp] theorem State.wrSat_rings (s : State) (F : Field) (i v : Nat) : (s.wrSat F i v).rings = s.rings := rfl
@[simp] theorem State.wrSat_mbox (s : State) (F : Field) (i v : Nat) : (s.wrSat F i v).mbox = s.mbox := rfl
@[simp] theorem State.wrSat_staging (s : State) (F : Field) (i v : Nat) : (s.wrSat F i v).staging = s.staging := rfl
@[simp] theorem State.wrSat_notice (s : State) (F : Field) (i v : Nat) : (s.wrSat F i v).notice = s.notice := rfl
@[simp] theorem State.wrSat_stop (s : State) (F : Field) (i v : Nat) : (s.wrSat F i v).stop = s.stop := rfl
@[simp] theorem State.wrSat_role (s : State) (F : Field) (i v : Nat) : (s.wrSat F i v).role = s.role := rfl
@[simp] theorem State.wrSat_island (s : State) (F : Field) (i v : Nat) : (s.wrSat F i v).island = s.island := rfl
@[simp] theorem State.wrSat_islandE (s : State) (F : Field) (i v : Nat) : (s.wrSat F i v).islandE = s.islandE := rfl
@[simp] theorem State.wrSat_returnTick (s : State) (F : Field) (i v : Nat) : (s.wrSat F i v).returnTick = s.returnTick := rfl
@[simp] theorem State.wrSat_supply (s : State) (F : Field) (i v : Nat) : (s.wrSat F i v).supply = s.supply := rfl
@[simp] theorem State.wrSat_feeds (s : State) (F : Field) (i v : Nat) : (s.wrSat F i v).feeds = s.feeds := rfl
@[simp] theorem State.wrSat_monRepeat (s : State) (F : Field) (i v : Nat) : (s.wrSat F i v).monRepeat = s.monRepeat := rfl
@[simp] theorem State.wrSat_chipFailed (s : State) (F : Field) (i v : Nat) : (s.wrSat F i v).chipFailed = s.chipFailed := rfl
@[simp] theorem State.wrSat_otp (s : State) (F : Field) (i v : Nat) : (s.wrSat F i v).otp = s.otp := rfl
@[simp] theorem State.wrSat_busV (s : State) (F : Field) (i v : Nat) : (s.wrSat F i v).busV = s.busV := rfl
@[simp] theorem State.wrSat_adcCheck (s : State) (F : Field) (i v : Nat) : (s.wrSat F i v).adcCheck = s.adcCheck := rfl
@[simp] theorem State.wrSat_adcRepeat (s : State) (F : Field) (i v : Nat) : (s.wrSat F i v).adcRepeat = s.adcRepeat := rfl
@[simp] theorem State.wrSat_calNext (s : State) (F : Field) (i v : Nat) : (s.wrSat F i v).calNext = s.calNext := rfl
@[simp] theorem State.wrSat_adcCal (s : State) (F : Field) (i v : Nat) : (s.wrSat F i v).adcCal = s.adcCal := rfl
@[simp] theorem State.wrSat_svc (s : State) (F : Field) (i v : Nat) : (s.wrSat F i v).svc = s.svc := rfl
@[simp] theorem State.wrSat_planned (s : State) (F : Field) (i v : Nat) : (s.wrSat F i v).planned = s.planned := rfl
@[simp] theorem State.wrSat_bud (s : State) (F : Field) (i v : Nat) : (s.wrSat F i v).bud = s.bud := rfl
@[simp] theorem State.wrSat_led (s : State) (F : Field) (i v : Nat) : (s.wrSat F i v).led = s.led := rfl
@[simp] theorem State.wrSat_pair (s : State) (F : Field) (i v : Nat) : (s.wrSat F i v).pair = s.pair := rfl
@[simp] theorem State.wrSat_spi (s : State) (F : Field) (i v : Nat) : (s.wrSat F i v).spi = s.spi := rfl
@[simp] theorem State.wrSat_smb (s : State) (F : Field) (i v : Nat) : (s.wrSat F i v).smb = s.smb := rfl
@[simp] theorem State.wrSat_weft (s : State) (F : Field) (i v : Nat) : (s.wrSat F i v).weft = s.weft := rfl
@[simp] theorem State.wrSat_tim (s : State) (F : Field) (i v : Nat) : (s.wrSat F i v).tim = s.tim := rfl
@[simp] theorem State.wrSat_snap (s : State) (F : Field) (i v : Nat) : (s.wrSat F i v).snap = s.snap := rfl
@[simp] theorem State.wrSat_flash (s : State) (F : Field) (i v : Nat) : (s.wrSat F i v).flash = s.flash := rfl
@[simp] theorem State.wrSat_boot (s : State) (F : Field) (i v : Nat) : (s.wrSat F i v).boot = s.boot := rfl
@[simp] theorem State.wrSat_pow (s : State) (F : Field) (i v : Nat) : (s.wrSat F i v).pow = s.pow := rfl
@[simp] theorem State.wrSat_polFlash (s : State) (F : Field) (i v : Nat) : (s.wrSat F i v).polFlash = s.polFlash := rfl
@[simp] theorem State.wrSat_retiredMask (s : State) (F : Field) (i v : Nat) : (s.wrSat F i v).retiredMask = s.retiredMask := rfl
@[simp] theorem State.wrSat_retiredFeeds (s : State) (F : Field) (i v : Nat) : (s.wrSat F i v).retiredFeeds = s.retiredFeeds := rfl
@[simp] theorem State.wrSat_marks (s : State) (F : Field) (i v : Nat) : (s.wrSat F i v).marks = s.marks := rfl
@[simp] theorem State.wrSat_time (s : State) (F : Field) (i v : Nat) : (s.wrSat F i v).time = s.time := rfl
@[simp] theorem State.wrSat_frac (s : State) (F : Field) (i v : Nat) : (s.wrSat F i v).frac = s.frac := rfl
@[simp] theorem State.wrSat_up (s : State) (F : Field) (i v : Nat) : (s.wrSat F i v).up = s.up := rfl
@[simp] theorem State.wrSat_served2 (s : State) (F : Field) (i v : Nat) : (s.wrSat F i v).served2 = s.served2 := rfl
@[simp] theorem State.wrSat_freeCount (s : State) (F : Field) (i v : Nat) : (s.wrSat F i v).freeCount = s.freeCount := rfl
@[simp] theorem State.wrSat_islRole (s : State) (F : Field) (i v : Nat) : (s.wrSat F i v).islRole = s.islRole := rfl
@[simp] theorem State.wrSat_updates (s : State) (F : Field) (i v : Nat) : (s.wrSat F i v).updates = s.updates := rfl
@[simp] theorem State.wrSat_ports (s : State) (F : Field) (i v : Nat) : (s.wrSat F i v).ports = s.ports := rfl
@[simp] theorem State.wrSat_pending (s : State) (F : Field) (i v : Nat) : (s.wrSat F i v).pending = s.pending := rfl
@[simp] theorem State.wrSat_port (s : State) (F : Field) (i v : Nat) (q : Port) : (s.wrSat F i v).port q = s.port q := rfl
@[simp] theorem State.wrSat_ring (s : State) (F : Field) (i v : Nat) (q : Fin 40) : (s.wrSat F i v).ring q = s.ring q := rfl

/-! ## `State.wrBit` -/

@[simp] theorem State.wrBit_dev (s : State) (F : Field) (i n : Nat) (b : Bool) : (s.wrBit F i n b).dev = s.dev := rfl
@[simp] theorem State.wrBit_rings (s : State) (F : Field) (i n : Nat) (b : Bool) : (s.wrBit F i n b).rings = s.rings := rfl
@[simp] theorem State.wrBit_mbox (s : State) (F : Field) (i n : Nat) (b : Bool) : (s.wrBit F i n b).mbox = s.mbox := rfl
@[simp] theorem State.wrBit_staging (s : State) (F : Field) (i n : Nat) (b : Bool) : (s.wrBit F i n b).staging = s.staging := rfl
@[simp] theorem State.wrBit_notice (s : State) (F : Field) (i n : Nat) (b : Bool) : (s.wrBit F i n b).notice = s.notice := rfl
@[simp] theorem State.wrBit_stop (s : State) (F : Field) (i n : Nat) (b : Bool) : (s.wrBit F i n b).stop = s.stop := rfl
@[simp] theorem State.wrBit_role (s : State) (F : Field) (i n : Nat) (b : Bool) : (s.wrBit F i n b).role = s.role := rfl
@[simp] theorem State.wrBit_island (s : State) (F : Field) (i n : Nat) (b : Bool) : (s.wrBit F i n b).island = s.island := rfl
@[simp] theorem State.wrBit_islandE (s : State) (F : Field) (i n : Nat) (b : Bool) : (s.wrBit F i n b).islandE = s.islandE := rfl
@[simp] theorem State.wrBit_returnTick (s : State) (F : Field) (i n : Nat) (b : Bool) : (s.wrBit F i n b).returnTick = s.returnTick := rfl
@[simp] theorem State.wrBit_supply (s : State) (F : Field) (i n : Nat) (b : Bool) : (s.wrBit F i n b).supply = s.supply := rfl
@[simp] theorem State.wrBit_feeds (s : State) (F : Field) (i n : Nat) (b : Bool) : (s.wrBit F i n b).feeds = s.feeds := rfl
@[simp] theorem State.wrBit_monRepeat (s : State) (F : Field) (i n : Nat) (b : Bool) : (s.wrBit F i n b).monRepeat = s.monRepeat := rfl
@[simp] theorem State.wrBit_chipFailed (s : State) (F : Field) (i n : Nat) (b : Bool) : (s.wrBit F i n b).chipFailed = s.chipFailed := rfl
@[simp] theorem State.wrBit_otp (s : State) (F : Field) (i n : Nat) (b : Bool) : (s.wrBit F i n b).otp = s.otp := rfl
@[simp] theorem State.wrBit_busV (s : State) (F : Field) (i n : Nat) (b : Bool) : (s.wrBit F i n b).busV = s.busV := rfl
@[simp] theorem State.wrBit_adcCheck (s : State) (F : Field) (i n : Nat) (b : Bool) : (s.wrBit F i n b).adcCheck = s.adcCheck := rfl
@[simp] theorem State.wrBit_adcRepeat (s : State) (F : Field) (i n : Nat) (b : Bool) : (s.wrBit F i n b).adcRepeat = s.adcRepeat := rfl
@[simp] theorem State.wrBit_calNext (s : State) (F : Field) (i n : Nat) (b : Bool) : (s.wrBit F i n b).calNext = s.calNext := rfl
@[simp] theorem State.wrBit_adcCal (s : State) (F : Field) (i n : Nat) (b : Bool) : (s.wrBit F i n b).adcCal = s.adcCal := rfl
@[simp] theorem State.wrBit_svc (s : State) (F : Field) (i n : Nat) (b : Bool) : (s.wrBit F i n b).svc = s.svc := rfl
@[simp] theorem State.wrBit_planned (s : State) (F : Field) (i n : Nat) (b : Bool) : (s.wrBit F i n b).planned = s.planned := rfl
@[simp] theorem State.wrBit_bud (s : State) (F : Field) (i n : Nat) (b : Bool) : (s.wrBit F i n b).bud = s.bud := rfl
@[simp] theorem State.wrBit_led (s : State) (F : Field) (i n : Nat) (b : Bool) : (s.wrBit F i n b).led = s.led := rfl
@[simp] theorem State.wrBit_pair (s : State) (F : Field) (i n : Nat) (b : Bool) : (s.wrBit F i n b).pair = s.pair := rfl
@[simp] theorem State.wrBit_spi (s : State) (F : Field) (i n : Nat) (b : Bool) : (s.wrBit F i n b).spi = s.spi := rfl
@[simp] theorem State.wrBit_smb (s : State) (F : Field) (i n : Nat) (b : Bool) : (s.wrBit F i n b).smb = s.smb := rfl
@[simp] theorem State.wrBit_weft (s : State) (F : Field) (i n : Nat) (b : Bool) : (s.wrBit F i n b).weft = s.weft := rfl
@[simp] theorem State.wrBit_tim (s : State) (F : Field) (i n : Nat) (b : Bool) : (s.wrBit F i n b).tim = s.tim := rfl
@[simp] theorem State.wrBit_snap (s : State) (F : Field) (i n : Nat) (b : Bool) : (s.wrBit F i n b).snap = s.snap := rfl
@[simp] theorem State.wrBit_flash (s : State) (F : Field) (i n : Nat) (b : Bool) : (s.wrBit F i n b).flash = s.flash := rfl
@[simp] theorem State.wrBit_boot (s : State) (F : Field) (i n : Nat) (b : Bool) : (s.wrBit F i n b).boot = s.boot := rfl
@[simp] theorem State.wrBit_pow (s : State) (F : Field) (i n : Nat) (b : Bool) : (s.wrBit F i n b).pow = s.pow := rfl
@[simp] theorem State.wrBit_polFlash (s : State) (F : Field) (i n : Nat) (b : Bool) : (s.wrBit F i n b).polFlash = s.polFlash := rfl
@[simp] theorem State.wrBit_retiredMask (s : State) (F : Field) (i n : Nat) (b : Bool) : (s.wrBit F i n b).retiredMask = s.retiredMask := rfl
@[simp] theorem State.wrBit_retiredFeeds (s : State) (F : Field) (i n : Nat) (b : Bool) : (s.wrBit F i n b).retiredFeeds = s.retiredFeeds := rfl
@[simp] theorem State.wrBit_marks (s : State) (F : Field) (i n : Nat) (b : Bool) : (s.wrBit F i n b).marks = s.marks := rfl
@[simp] theorem State.wrBit_time (s : State) (F : Field) (i n : Nat) (b : Bool) : (s.wrBit F i n b).time = s.time := rfl
@[simp] theorem State.wrBit_frac (s : State) (F : Field) (i n : Nat) (b : Bool) : (s.wrBit F i n b).frac = s.frac := rfl
@[simp] theorem State.wrBit_up (s : State) (F : Field) (i n : Nat) (b : Bool) : (s.wrBit F i n b).up = s.up := rfl
@[simp] theorem State.wrBit_served2 (s : State) (F : Field) (i n : Nat) (b : Bool) : (s.wrBit F i n b).served2 = s.served2 := rfl
@[simp] theorem State.wrBit_freeCount (s : State) (F : Field) (i n : Nat) (b : Bool) : (s.wrBit F i n b).freeCount = s.freeCount := rfl
@[simp] theorem State.wrBit_islRole (s : State) (F : Field) (i n : Nat) (b : Bool) : (s.wrBit F i n b).islRole = s.islRole := rfl
@[simp] theorem State.wrBit_updates (s : State) (F : Field) (i n : Nat) (b : Bool) : (s.wrBit F i n b).updates = s.updates := rfl
@[simp] theorem State.wrBit_ports (s : State) (F : Field) (i n : Nat) (b : Bool) : (s.wrBit F i n b).ports = s.ports := rfl
@[simp] theorem State.wrBit_pending (s : State) (F : Field) (i n : Nat) (b : Bool) : (s.wrBit F i n b).pending = s.pending := rfl
@[simp] theorem State.wrBit_port (s : State) (F : Field) (i n : Nat) (b : Bool) (q : Port) : (s.wrBit F i n b).port q = s.port q := rfl
@[simp] theorem State.wrBit_ring (s : State) (F : Field) (i n : Nat) (b : Bool) (q : Fin 40) : (s.wrBit F i n b).ring q = s.ring q := rfl

/-! ## `State.irq` -/

@[simp] theorem State.irq_dev (s : State) (pg i b : Nat) : (s.irq pg i b).dev = s.dev := rfl
@[simp] theorem State.irq_rings (s : State) (pg i b : Nat) : (s.irq pg i b).rings = s.rings := rfl
@[simp] theorem State.irq_mbox (s : State) (pg i b : Nat) : (s.irq pg i b).mbox = s.mbox := rfl
@[simp] theorem State.irq_staging (s : State) (pg i b : Nat) : (s.irq pg i b).staging = s.staging := rfl
@[simp] theorem State.irq_notice (s : State) (pg i b : Nat) : (s.irq pg i b).notice = s.notice := rfl
@[simp] theorem State.irq_stop (s : State) (pg i b : Nat) : (s.irq pg i b).stop = s.stop := rfl
@[simp] theorem State.irq_role (s : State) (pg i b : Nat) : (s.irq pg i b).role = s.role := rfl
@[simp] theorem State.irq_island (s : State) (pg i b : Nat) : (s.irq pg i b).island = s.island := rfl
@[simp] theorem State.irq_islandE (s : State) (pg i b : Nat) : (s.irq pg i b).islandE = s.islandE := rfl
@[simp] theorem State.irq_returnTick (s : State) (pg i b : Nat) : (s.irq pg i b).returnTick = s.returnTick := rfl
@[simp] theorem State.irq_supply (s : State) (pg i b : Nat) : (s.irq pg i b).supply = s.supply := rfl
@[simp] theorem State.irq_feeds (s : State) (pg i b : Nat) : (s.irq pg i b).feeds = s.feeds := rfl
@[simp] theorem State.irq_monRepeat (s : State) (pg i b : Nat) : (s.irq pg i b).monRepeat = s.monRepeat := rfl
@[simp] theorem State.irq_chipFailed (s : State) (pg i b : Nat) : (s.irq pg i b).chipFailed = s.chipFailed := rfl
@[simp] theorem State.irq_otp (s : State) (pg i b : Nat) : (s.irq pg i b).otp = s.otp := rfl
@[simp] theorem State.irq_busV (s : State) (pg i b : Nat) : (s.irq pg i b).busV = s.busV := rfl
@[simp] theorem State.irq_adcCheck (s : State) (pg i b : Nat) : (s.irq pg i b).adcCheck = s.adcCheck := rfl
@[simp] theorem State.irq_adcRepeat (s : State) (pg i b : Nat) : (s.irq pg i b).adcRepeat = s.adcRepeat := rfl
@[simp] theorem State.irq_calNext (s : State) (pg i b : Nat) : (s.irq pg i b).calNext = s.calNext := rfl
@[simp] theorem State.irq_adcCal (s : State) (pg i b : Nat) : (s.irq pg i b).adcCal = s.adcCal := rfl
@[simp] theorem State.irq_svc (s : State) (pg i b : Nat) : (s.irq pg i b).svc = s.svc := rfl
@[simp] theorem State.irq_planned (s : State) (pg i b : Nat) : (s.irq pg i b).planned = s.planned := rfl
@[simp] theorem State.irq_bud (s : State) (pg i b : Nat) : (s.irq pg i b).bud = s.bud := rfl
@[simp] theorem State.irq_led (s : State) (pg i b : Nat) : (s.irq pg i b).led = s.led := rfl
@[simp] theorem State.irq_pair (s : State) (pg i b : Nat) : (s.irq pg i b).pair = s.pair := rfl
@[simp] theorem State.irq_spi (s : State) (pg i b : Nat) : (s.irq pg i b).spi = s.spi := rfl
@[simp] theorem State.irq_smb (s : State) (pg i b : Nat) : (s.irq pg i b).smb = s.smb := rfl
@[simp] theorem State.irq_weft (s : State) (pg i b : Nat) : (s.irq pg i b).weft = s.weft := rfl
@[simp] theorem State.irq_tim (s : State) (pg i b : Nat) : (s.irq pg i b).tim = s.tim := rfl
@[simp] theorem State.irq_snap (s : State) (pg i b : Nat) : (s.irq pg i b).snap = s.snap := rfl
@[simp] theorem State.irq_flash (s : State) (pg i b : Nat) : (s.irq pg i b).flash = s.flash := rfl
@[simp] theorem State.irq_boot (s : State) (pg i b : Nat) : (s.irq pg i b).boot = s.boot := rfl
@[simp] theorem State.irq_pow (s : State) (pg i b : Nat) : (s.irq pg i b).pow = s.pow := rfl
@[simp] theorem State.irq_polFlash (s : State) (pg i b : Nat) : (s.irq pg i b).polFlash = s.polFlash := rfl
@[simp] theorem State.irq_retiredMask (s : State) (pg i b : Nat) : (s.irq pg i b).retiredMask = s.retiredMask := rfl
@[simp] theorem State.irq_retiredFeeds (s : State) (pg i b : Nat) : (s.irq pg i b).retiredFeeds = s.retiredFeeds := rfl
@[simp] theorem State.irq_marks (s : State) (pg i b : Nat) : (s.irq pg i b).marks = s.marks := rfl
@[simp] theorem State.irq_time (s : State) (pg i b : Nat) : (s.irq pg i b).time = s.time := rfl
@[simp] theorem State.irq_frac (s : State) (pg i b : Nat) : (s.irq pg i b).frac = s.frac := rfl
@[simp] theorem State.irq_up (s : State) (pg i b : Nat) : (s.irq pg i b).up = s.up := rfl
@[simp] theorem State.irq_served2 (s : State) (pg i b : Nat) : (s.irq pg i b).served2 = s.served2 := rfl
@[simp] theorem State.irq_freeCount (s : State) (pg i b : Nat) : (s.irq pg i b).freeCount = s.freeCount := rfl
@[simp] theorem State.irq_islRole (s : State) (pg i b : Nat) : (s.irq pg i b).islRole = s.islRole := rfl
@[simp] theorem State.irq_updates (s : State) (pg i b : Nat) : (s.irq pg i b).updates = s.updates := rfl
@[simp] theorem State.irq_ports (s : State) (pg i b : Nat) : (s.irq pg i b).ports = s.ports := rfl
@[simp] theorem State.irq_pending (s : State) (pg i b : Nat) : (s.irq pg i b).pending = s.pending := rfl
@[simp] theorem State.irq_port (s : State) (pg i b : Nat) (q : Port) : (s.irq pg i b).port q = s.port q := rfl
@[simp] theorem State.irq_ring (s : State) (pg i b : Nat) (q : Fin 40) : (s.irq pg i b).ring q = s.ring q := rfl

/-! ## `State.err` -/

@[simp] theorem State.err_dev (s : State) (pg i c o : Nat) : (s.err pg i c o).dev = s.dev := rfl
@[simp] theorem State.err_rings (s : State) (pg i c o : Nat) : (s.err pg i c o).rings = s.rings := rfl
@[simp] theorem State.err_mbox (s : State) (pg i c o : Nat) : (s.err pg i c o).mbox = s.mbox := rfl
@[simp] theorem State.err_staging (s : State) (pg i c o : Nat) : (s.err pg i c o).staging = s.staging := rfl
@[simp] theorem State.err_notice (s : State) (pg i c o : Nat) : (s.err pg i c o).notice = s.notice := rfl
@[simp] theorem State.err_stop (s : State) (pg i c o : Nat) : (s.err pg i c o).stop = s.stop := rfl
@[simp] theorem State.err_role (s : State) (pg i c o : Nat) : (s.err pg i c o).role = s.role := rfl
@[simp] theorem State.err_island (s : State) (pg i c o : Nat) : (s.err pg i c o).island = s.island := rfl
@[simp] theorem State.err_islandE (s : State) (pg i c o : Nat) : (s.err pg i c o).islandE = s.islandE := rfl
@[simp] theorem State.err_returnTick (s : State) (pg i c o : Nat) : (s.err pg i c o).returnTick = s.returnTick := rfl
@[simp] theorem State.err_supply (s : State) (pg i c o : Nat) : (s.err pg i c o).supply = s.supply := rfl
@[simp] theorem State.err_feeds (s : State) (pg i c o : Nat) : (s.err pg i c o).feeds = s.feeds := rfl
@[simp] theorem State.err_monRepeat (s : State) (pg i c o : Nat) : (s.err pg i c o).monRepeat = s.monRepeat := rfl
@[simp] theorem State.err_chipFailed (s : State) (pg i c o : Nat) : (s.err pg i c o).chipFailed = s.chipFailed := rfl
@[simp] theorem State.err_otp (s : State) (pg i c o : Nat) : (s.err pg i c o).otp = s.otp := rfl
@[simp] theorem State.err_busV (s : State) (pg i c o : Nat) : (s.err pg i c o).busV = s.busV := rfl
@[simp] theorem State.err_adcCheck (s : State) (pg i c o : Nat) : (s.err pg i c o).adcCheck = s.adcCheck := rfl
@[simp] theorem State.err_adcRepeat (s : State) (pg i c o : Nat) : (s.err pg i c o).adcRepeat = s.adcRepeat := rfl
@[simp] theorem State.err_calNext (s : State) (pg i c o : Nat) : (s.err pg i c o).calNext = s.calNext := rfl
@[simp] theorem State.err_adcCal (s : State) (pg i c o : Nat) : (s.err pg i c o).adcCal = s.adcCal := rfl
@[simp] theorem State.err_svc (s : State) (pg i c o : Nat) : (s.err pg i c o).svc = s.svc := rfl
@[simp] theorem State.err_planned (s : State) (pg i c o : Nat) : (s.err pg i c o).planned = s.planned := rfl
@[simp] theorem State.err_bud (s : State) (pg i c o : Nat) : (s.err pg i c o).bud = s.bud := rfl
@[simp] theorem State.err_led (s : State) (pg i c o : Nat) : (s.err pg i c o).led = s.led := rfl
@[simp] theorem State.err_pair (s : State) (pg i c o : Nat) : (s.err pg i c o).pair = s.pair := rfl
@[simp] theorem State.err_spi (s : State) (pg i c o : Nat) : (s.err pg i c o).spi = s.spi := rfl
@[simp] theorem State.err_smb (s : State) (pg i c o : Nat) : (s.err pg i c o).smb = s.smb := rfl
@[simp] theorem State.err_weft (s : State) (pg i c o : Nat) : (s.err pg i c o).weft = s.weft := rfl
@[simp] theorem State.err_tim (s : State) (pg i c o : Nat) : (s.err pg i c o).tim = s.tim := rfl
@[simp] theorem State.err_snap (s : State) (pg i c o : Nat) : (s.err pg i c o).snap = s.snap := rfl
@[simp] theorem State.err_flash (s : State) (pg i c o : Nat) : (s.err pg i c o).flash = s.flash := rfl
@[simp] theorem State.err_boot (s : State) (pg i c o : Nat) : (s.err pg i c o).boot = s.boot := rfl
@[simp] theorem State.err_pow (s : State) (pg i c o : Nat) : (s.err pg i c o).pow = s.pow := rfl
@[simp] theorem State.err_polFlash (s : State) (pg i c o : Nat) : (s.err pg i c o).polFlash = s.polFlash := rfl
@[simp] theorem State.err_retiredMask (s : State) (pg i c o : Nat) : (s.err pg i c o).retiredMask = s.retiredMask := rfl
@[simp] theorem State.err_retiredFeeds (s : State) (pg i c o : Nat) : (s.err pg i c o).retiredFeeds = s.retiredFeeds := rfl
@[simp] theorem State.err_marks (s : State) (pg i c o : Nat) : (s.err pg i c o).marks = s.marks := rfl
@[simp] theorem State.err_time (s : State) (pg i c o : Nat) : (s.err pg i c o).time = s.time := rfl
@[simp] theorem State.err_frac (s : State) (pg i c o : Nat) : (s.err pg i c o).frac = s.frac := rfl
@[simp] theorem State.err_up (s : State) (pg i c o : Nat) : (s.err pg i c o).up = s.up := rfl
@[simp] theorem State.err_served2 (s : State) (pg i c o : Nat) : (s.err pg i c o).served2 = s.served2 := rfl
@[simp] theorem State.err_freeCount (s : State) (pg i c o : Nat) : (s.err pg i c o).freeCount = s.freeCount := rfl
@[simp] theorem State.err_islRole (s : State) (pg i c o : Nat) : (s.err pg i c o).islRole = s.islRole := rfl
@[simp] theorem State.err_updates (s : State) (pg i c o : Nat) : (s.err pg i c o).updates = s.updates := rfl
@[simp] theorem State.err_ports (s : State) (pg i c o : Nat) : (s.err pg i c o).ports = s.ports := rfl
@[simp] theorem State.err_pending (s : State) (pg i c o : Nat) : (s.err pg i c o).pending = s.pending := rfl
@[simp] theorem State.err_port (s : State) (pg i c o : Nat) (q : Port) : (s.err pg i c o).port q = s.port q := rfl
@[simp] theorem State.err_ring (s : State) (pg i c o : Nat) (q : Fin 40) : (s.err pg i c o).ring q = s.ring q := rfl

/-! ## `State.errF` -/

@[simp] theorem State.errF_dev (s : State) (F : Field) (i c : Nat) : (s.errF F i c).dev = s.dev := rfl
@[simp] theorem State.errF_rings (s : State) (F : Field) (i c : Nat) : (s.errF F i c).rings = s.rings := rfl
@[simp] theorem State.errF_mbox (s : State) (F : Field) (i c : Nat) : (s.errF F i c).mbox = s.mbox := rfl
@[simp] theorem State.errF_staging (s : State) (F : Field) (i c : Nat) : (s.errF F i c).staging = s.staging := rfl
@[simp] theorem State.errF_notice (s : State) (F : Field) (i c : Nat) : (s.errF F i c).notice = s.notice := rfl
@[simp] theorem State.errF_stop (s : State) (F : Field) (i c : Nat) : (s.errF F i c).stop = s.stop := rfl
@[simp] theorem State.errF_role (s : State) (F : Field) (i c : Nat) : (s.errF F i c).role = s.role := rfl
@[simp] theorem State.errF_island (s : State) (F : Field) (i c : Nat) : (s.errF F i c).island = s.island := rfl
@[simp] theorem State.errF_islandE (s : State) (F : Field) (i c : Nat) : (s.errF F i c).islandE = s.islandE := rfl
@[simp] theorem State.errF_returnTick (s : State) (F : Field) (i c : Nat) : (s.errF F i c).returnTick = s.returnTick := rfl
@[simp] theorem State.errF_supply (s : State) (F : Field) (i c : Nat) : (s.errF F i c).supply = s.supply := rfl
@[simp] theorem State.errF_feeds (s : State) (F : Field) (i c : Nat) : (s.errF F i c).feeds = s.feeds := rfl
@[simp] theorem State.errF_monRepeat (s : State) (F : Field) (i c : Nat) : (s.errF F i c).monRepeat = s.monRepeat := rfl
@[simp] theorem State.errF_chipFailed (s : State) (F : Field) (i c : Nat) : (s.errF F i c).chipFailed = s.chipFailed := rfl
@[simp] theorem State.errF_otp (s : State) (F : Field) (i c : Nat) : (s.errF F i c).otp = s.otp := rfl
@[simp] theorem State.errF_busV (s : State) (F : Field) (i c : Nat) : (s.errF F i c).busV = s.busV := rfl
@[simp] theorem State.errF_adcCheck (s : State) (F : Field) (i c : Nat) : (s.errF F i c).adcCheck = s.adcCheck := rfl
@[simp] theorem State.errF_adcRepeat (s : State) (F : Field) (i c : Nat) : (s.errF F i c).adcRepeat = s.adcRepeat := rfl
@[simp] theorem State.errF_calNext (s : State) (F : Field) (i c : Nat) : (s.errF F i c).calNext = s.calNext := rfl
@[simp] theorem State.errF_adcCal (s : State) (F : Field) (i c : Nat) : (s.errF F i c).adcCal = s.adcCal := rfl
@[simp] theorem State.errF_svc (s : State) (F : Field) (i c : Nat) : (s.errF F i c).svc = s.svc := rfl
@[simp] theorem State.errF_planned (s : State) (F : Field) (i c : Nat) : (s.errF F i c).planned = s.planned := rfl
@[simp] theorem State.errF_bud (s : State) (F : Field) (i c : Nat) : (s.errF F i c).bud = s.bud := rfl
@[simp] theorem State.errF_led (s : State) (F : Field) (i c : Nat) : (s.errF F i c).led = s.led := rfl
@[simp] theorem State.errF_pair (s : State) (F : Field) (i c : Nat) : (s.errF F i c).pair = s.pair := rfl
@[simp] theorem State.errF_spi (s : State) (F : Field) (i c : Nat) : (s.errF F i c).spi = s.spi := rfl
@[simp] theorem State.errF_smb (s : State) (F : Field) (i c : Nat) : (s.errF F i c).smb = s.smb := rfl
@[simp] theorem State.errF_weft (s : State) (F : Field) (i c : Nat) : (s.errF F i c).weft = s.weft := rfl
@[simp] theorem State.errF_tim (s : State) (F : Field) (i c : Nat) : (s.errF F i c).tim = s.tim := rfl
@[simp] theorem State.errF_snap (s : State) (F : Field) (i c : Nat) : (s.errF F i c).snap = s.snap := rfl
@[simp] theorem State.errF_flash (s : State) (F : Field) (i c : Nat) : (s.errF F i c).flash = s.flash := rfl
@[simp] theorem State.errF_boot (s : State) (F : Field) (i c : Nat) : (s.errF F i c).boot = s.boot := rfl
@[simp] theorem State.errF_pow (s : State) (F : Field) (i c : Nat) : (s.errF F i c).pow = s.pow := rfl
@[simp] theorem State.errF_polFlash (s : State) (F : Field) (i c : Nat) : (s.errF F i c).polFlash = s.polFlash := rfl
@[simp] theorem State.errF_retiredMask (s : State) (F : Field) (i c : Nat) : (s.errF F i c).retiredMask = s.retiredMask := rfl
@[simp] theorem State.errF_retiredFeeds (s : State) (F : Field) (i c : Nat) : (s.errF F i c).retiredFeeds = s.retiredFeeds := rfl
@[simp] theorem State.errF_marks (s : State) (F : Field) (i c : Nat) : (s.errF F i c).marks = s.marks := rfl
@[simp] theorem State.errF_time (s : State) (F : Field) (i c : Nat) : (s.errF F i c).time = s.time := rfl
@[simp] theorem State.errF_frac (s : State) (F : Field) (i c : Nat) : (s.errF F i c).frac = s.frac := rfl
@[simp] theorem State.errF_up (s : State) (F : Field) (i c : Nat) : (s.errF F i c).up = s.up := rfl
@[simp] theorem State.errF_served2 (s : State) (F : Field) (i c : Nat) : (s.errF F i c).served2 = s.served2 := rfl
@[simp] theorem State.errF_freeCount (s : State) (F : Field) (i c : Nat) : (s.errF F i c).freeCount = s.freeCount := rfl
@[simp] theorem State.errF_islRole (s : State) (F : Field) (i c : Nat) : (s.errF F i c).islRole = s.islRole := rfl
@[simp] theorem State.errF_updates (s : State) (F : Field) (i c : Nat) : (s.errF F i c).updates = s.updates := rfl
@[simp] theorem State.errF_ports (s : State) (F : Field) (i c : Nat) : (s.errF F i c).ports = s.ports := rfl
@[simp] theorem State.errF_pending (s : State) (F : Field) (i c : Nat) : (s.errF F i c).pending = s.pending := rfl
@[simp] theorem State.errF_port (s : State) (F : Field) (i c : Nat) (q : Port) : (s.errF F i c).port q = s.port q := rfl
@[simp] theorem State.errF_ring (s : State) (F : Field) (i c : Nat) (q : Fin 40) : (s.errF F i c).ring q = s.ring q := rfl

/-! ## `State.modPort` -/

@[simp] theorem State.modPort_regs (s : State) (p : Port) (f : PortSt → PortSt) : (s.modPort p f).regs = s.regs := rfl
@[simp] theorem State.modPort_dev (s : State) (p : Port) (f : PortSt → PortSt) : (s.modPort p f).dev = s.dev := rfl
@[simp] theorem State.modPort_rings (s : State) (p : Port) (f : PortSt → PortSt) : (s.modPort p f).rings = s.rings := rfl
@[simp] theorem State.modPort_mbox (s : State) (p : Port) (f : PortSt → PortSt) : (s.modPort p f).mbox = s.mbox := rfl
@[simp] theorem State.modPort_staging (s : State) (p : Port) (f : PortSt → PortSt) : (s.modPort p f).staging = s.staging := rfl
@[simp] theorem State.modPort_notice (s : State) (p : Port) (f : PortSt → PortSt) : (s.modPort p f).notice = s.notice := rfl
@[simp] theorem State.modPort_stop (s : State) (p : Port) (f : PortSt → PortSt) : (s.modPort p f).stop = s.stop := rfl
@[simp] theorem State.modPort_role (s : State) (p : Port) (f : PortSt → PortSt) : (s.modPort p f).role = s.role := rfl
@[simp] theorem State.modPort_island (s : State) (p : Port) (f : PortSt → PortSt) : (s.modPort p f).island = s.island := rfl
@[simp] theorem State.modPort_islandE (s : State) (p : Port) (f : PortSt → PortSt) : (s.modPort p f).islandE = s.islandE := rfl
@[simp] theorem State.modPort_returnTick (s : State) (p : Port) (f : PortSt → PortSt) : (s.modPort p f).returnTick = s.returnTick := rfl
@[simp] theorem State.modPort_supply (s : State) (p : Port) (f : PortSt → PortSt) : (s.modPort p f).supply = s.supply := rfl
@[simp] theorem State.modPort_feeds (s : State) (p : Port) (f : PortSt → PortSt) : (s.modPort p f).feeds = s.feeds := rfl
@[simp] theorem State.modPort_monRepeat (s : State) (p : Port) (f : PortSt → PortSt) : (s.modPort p f).monRepeat = s.monRepeat := rfl
@[simp] theorem State.modPort_chipFailed (s : State) (p : Port) (f : PortSt → PortSt) : (s.modPort p f).chipFailed = s.chipFailed := rfl
@[simp] theorem State.modPort_otp (s : State) (p : Port) (f : PortSt → PortSt) : (s.modPort p f).otp = s.otp := rfl
@[simp] theorem State.modPort_busV (s : State) (p : Port) (f : PortSt → PortSt) : (s.modPort p f).busV = s.busV := rfl
@[simp] theorem State.modPort_adcCheck (s : State) (p : Port) (f : PortSt → PortSt) : (s.modPort p f).adcCheck = s.adcCheck := rfl
@[simp] theorem State.modPort_adcRepeat (s : State) (p : Port) (f : PortSt → PortSt) : (s.modPort p f).adcRepeat = s.adcRepeat := rfl
@[simp] theorem State.modPort_calNext (s : State) (p : Port) (f : PortSt → PortSt) : (s.modPort p f).calNext = s.calNext := rfl
@[simp] theorem State.modPort_adcCal (s : State) (p : Port) (f : PortSt → PortSt) : (s.modPort p f).adcCal = s.adcCal := rfl
@[simp] theorem State.modPort_svc (s : State) (p : Port) (f : PortSt → PortSt) : (s.modPort p f).svc = s.svc := rfl
@[simp] theorem State.modPort_planned (s : State) (p : Port) (f : PortSt → PortSt) : (s.modPort p f).planned = s.planned := rfl
@[simp] theorem State.modPort_bud (s : State) (p : Port) (f : PortSt → PortSt) : (s.modPort p f).bud = s.bud := rfl
@[simp] theorem State.modPort_led (s : State) (p : Port) (f : PortSt → PortSt) : (s.modPort p f).led = s.led := rfl
@[simp] theorem State.modPort_pair (s : State) (p : Port) (f : PortSt → PortSt) : (s.modPort p f).pair = s.pair := rfl
@[simp] theorem State.modPort_spi (s : State) (p : Port) (f : PortSt → PortSt) : (s.modPort p f).spi = s.spi := rfl
@[simp] theorem State.modPort_smb (s : State) (p : Port) (f : PortSt → PortSt) : (s.modPort p f).smb = s.smb := rfl
@[simp] theorem State.modPort_weft (s : State) (p : Port) (f : PortSt → PortSt) : (s.modPort p f).weft = s.weft := rfl
@[simp] theorem State.modPort_tim (s : State) (p : Port) (f : PortSt → PortSt) : (s.modPort p f).tim = s.tim := rfl
@[simp] theorem State.modPort_snap (s : State) (p : Port) (f : PortSt → PortSt) : (s.modPort p f).snap = s.snap := rfl
@[simp] theorem State.modPort_flash (s : State) (p : Port) (f : PortSt → PortSt) : (s.modPort p f).flash = s.flash := rfl
@[simp] theorem State.modPort_boot (s : State) (p : Port) (f : PortSt → PortSt) : (s.modPort p f).boot = s.boot := rfl
@[simp] theorem State.modPort_pow (s : State) (p : Port) (f : PortSt → PortSt) : (s.modPort p f).pow = s.pow := rfl
@[simp] theorem State.modPort_polFlash (s : State) (p : Port) (f : PortSt → PortSt) : (s.modPort p f).polFlash = s.polFlash := rfl
@[simp] theorem State.modPort_retiredMask (s : State) (p : Port) (f : PortSt → PortSt) : (s.modPort p f).retiredMask = s.retiredMask := rfl
@[simp] theorem State.modPort_retiredFeeds (s : State) (p : Port) (f : PortSt → PortSt) : (s.modPort p f).retiredFeeds = s.retiredFeeds := rfl
@[simp] theorem State.modPort_marks (s : State) (p : Port) (f : PortSt → PortSt) : (s.modPort p f).marks = s.marks := rfl
@[simp] theorem State.modPort_time (s : State) (p : Port) (f : PortSt → PortSt) : (s.modPort p f).time = s.time := rfl
@[simp] theorem State.modPort_frac (s : State) (p : Port) (f : PortSt → PortSt) : (s.modPort p f).frac = s.frac := rfl
@[simp] theorem State.modPort_up (s : State) (p : Port) (f : PortSt → PortSt) : (s.modPort p f).up = s.up := rfl
@[simp] theorem State.modPort_served2 (s : State) (p : Port) (f : PortSt → PortSt) : (s.modPort p f).served2 = s.served2 := rfl
@[simp] theorem State.modPort_freeCount (s : State) (p : Port) (f : PortSt → PortSt) : (s.modPort p f).freeCount = s.freeCount := rfl
@[simp] theorem State.modPort_islRole (s : State) (p : Port) (f : PortSt → PortSt) : (s.modPort p f).islRole = s.islRole := rfl
@[simp] theorem State.modPort_updates (s : State) (p : Port) (f : PortSt → PortSt) : (s.modPort p f).updates = s.updates := rfl
@[simp] theorem State.modPort_pending (s : State) (p : Port) (f : PortSt → PortSt) : (s.modPort p f).pending = s.pending := rfl
@[simp] theorem State.modPort_rd (s : State) (p : Port) (f : PortSt → PortSt) (F : Field) (i : Nat) : (s.modPort p f).rd F i = s.rd F i := rfl
@[simp] theorem State.modPort_on (s : State) (p : Port) (f : PortSt → PortSt) (F : Field) (i : Nat) : (s.modPort p f).on F i = s.on F i := rfl
@[simp] theorem State.modPort_ring (s : State) (p : Port) (f : PortSt → PortSt) (q : Fin 40) : (s.modPort p f).ring q = s.ring q := rfl

/-! ## `State.cc` -/

@[simp] theorem State.cc_regs (s : State) (p : Port) (f : CcSt → CcSt) : (s.cc p f).regs = s.regs := rfl
@[simp] theorem State.cc_dev (s : State) (p : Port) (f : CcSt → CcSt) : (s.cc p f).dev = s.dev := rfl
@[simp] theorem State.cc_rings (s : State) (p : Port) (f : CcSt → CcSt) : (s.cc p f).rings = s.rings := rfl
@[simp] theorem State.cc_mbox (s : State) (p : Port) (f : CcSt → CcSt) : (s.cc p f).mbox = s.mbox := rfl
@[simp] theorem State.cc_staging (s : State) (p : Port) (f : CcSt → CcSt) : (s.cc p f).staging = s.staging := rfl
@[simp] theorem State.cc_notice (s : State) (p : Port) (f : CcSt → CcSt) : (s.cc p f).notice = s.notice := rfl
@[simp] theorem State.cc_stop (s : State) (p : Port) (f : CcSt → CcSt) : (s.cc p f).stop = s.stop := rfl
@[simp] theorem State.cc_role (s : State) (p : Port) (f : CcSt → CcSt) : (s.cc p f).role = s.role := rfl
@[simp] theorem State.cc_island (s : State) (p : Port) (f : CcSt → CcSt) : (s.cc p f).island = s.island := rfl
@[simp] theorem State.cc_islandE (s : State) (p : Port) (f : CcSt → CcSt) : (s.cc p f).islandE = s.islandE := rfl
@[simp] theorem State.cc_returnTick (s : State) (p : Port) (f : CcSt → CcSt) : (s.cc p f).returnTick = s.returnTick := rfl
@[simp] theorem State.cc_supply (s : State) (p : Port) (f : CcSt → CcSt) : (s.cc p f).supply = s.supply := rfl
@[simp] theorem State.cc_feeds (s : State) (p : Port) (f : CcSt → CcSt) : (s.cc p f).feeds = s.feeds := rfl
@[simp] theorem State.cc_monRepeat (s : State) (p : Port) (f : CcSt → CcSt) : (s.cc p f).monRepeat = s.monRepeat := rfl
@[simp] theorem State.cc_chipFailed (s : State) (p : Port) (f : CcSt → CcSt) : (s.cc p f).chipFailed = s.chipFailed := rfl
@[simp] theorem State.cc_otp (s : State) (p : Port) (f : CcSt → CcSt) : (s.cc p f).otp = s.otp := rfl
@[simp] theorem State.cc_busV (s : State) (p : Port) (f : CcSt → CcSt) : (s.cc p f).busV = s.busV := rfl
@[simp] theorem State.cc_adcCheck (s : State) (p : Port) (f : CcSt → CcSt) : (s.cc p f).adcCheck = s.adcCheck := rfl
@[simp] theorem State.cc_adcRepeat (s : State) (p : Port) (f : CcSt → CcSt) : (s.cc p f).adcRepeat = s.adcRepeat := rfl
@[simp] theorem State.cc_calNext (s : State) (p : Port) (f : CcSt → CcSt) : (s.cc p f).calNext = s.calNext := rfl
@[simp] theorem State.cc_adcCal (s : State) (p : Port) (f : CcSt → CcSt) : (s.cc p f).adcCal = s.adcCal := rfl
@[simp] theorem State.cc_svc (s : State) (p : Port) (f : CcSt → CcSt) : (s.cc p f).svc = s.svc := rfl
@[simp] theorem State.cc_planned (s : State) (p : Port) (f : CcSt → CcSt) : (s.cc p f).planned = s.planned := rfl
@[simp] theorem State.cc_bud (s : State) (p : Port) (f : CcSt → CcSt) : (s.cc p f).bud = s.bud := rfl
@[simp] theorem State.cc_led (s : State) (p : Port) (f : CcSt → CcSt) : (s.cc p f).led = s.led := rfl
@[simp] theorem State.cc_pair (s : State) (p : Port) (f : CcSt → CcSt) : (s.cc p f).pair = s.pair := rfl
@[simp] theorem State.cc_spi (s : State) (p : Port) (f : CcSt → CcSt) : (s.cc p f).spi = s.spi := rfl
@[simp] theorem State.cc_smb (s : State) (p : Port) (f : CcSt → CcSt) : (s.cc p f).smb = s.smb := rfl
@[simp] theorem State.cc_weft (s : State) (p : Port) (f : CcSt → CcSt) : (s.cc p f).weft = s.weft := rfl
@[simp] theorem State.cc_tim (s : State) (p : Port) (f : CcSt → CcSt) : (s.cc p f).tim = s.tim := rfl
@[simp] theorem State.cc_snap (s : State) (p : Port) (f : CcSt → CcSt) : (s.cc p f).snap = s.snap := rfl
@[simp] theorem State.cc_flash (s : State) (p : Port) (f : CcSt → CcSt) : (s.cc p f).flash = s.flash := rfl
@[simp] theorem State.cc_boot (s : State) (p : Port) (f : CcSt → CcSt) : (s.cc p f).boot = s.boot := rfl
@[simp] theorem State.cc_pow (s : State) (p : Port) (f : CcSt → CcSt) : (s.cc p f).pow = s.pow := rfl
@[simp] theorem State.cc_polFlash (s : State) (p : Port) (f : CcSt → CcSt) : (s.cc p f).polFlash = s.polFlash := rfl
@[simp] theorem State.cc_retiredMask (s : State) (p : Port) (f : CcSt → CcSt) : (s.cc p f).retiredMask = s.retiredMask := rfl
@[simp] theorem State.cc_retiredFeeds (s : State) (p : Port) (f : CcSt → CcSt) : (s.cc p f).retiredFeeds = s.retiredFeeds := rfl
@[simp] theorem State.cc_marks (s : State) (p : Port) (f : CcSt → CcSt) : (s.cc p f).marks = s.marks := rfl
@[simp] theorem State.cc_time (s : State) (p : Port) (f : CcSt → CcSt) : (s.cc p f).time = s.time := rfl
@[simp] theorem State.cc_frac (s : State) (p : Port) (f : CcSt → CcSt) : (s.cc p f).frac = s.frac := rfl
@[simp] theorem State.cc_up (s : State) (p : Port) (f : CcSt → CcSt) : (s.cc p f).up = s.up := rfl
@[simp] theorem State.cc_served2 (s : State) (p : Port) (f : CcSt → CcSt) : (s.cc p f).served2 = s.served2 := rfl
@[simp] theorem State.cc_freeCount (s : State) (p : Port) (f : CcSt → CcSt) : (s.cc p f).freeCount = s.freeCount := rfl
@[simp] theorem State.cc_islRole (s : State) (p : Port) (f : CcSt → CcSt) : (s.cc p f).islRole = s.islRole := rfl
@[simp] theorem State.cc_updates (s : State) (p : Port) (f : CcSt → CcSt) : (s.cc p f).updates = s.updates := rfl
@[simp] theorem State.cc_pending (s : State) (p : Port) (f : CcSt → CcSt) : (s.cc p f).pending = s.pending := rfl
@[simp] theorem State.cc_rd (s : State) (p : Port) (f : CcSt → CcSt) (F : Field) (i : Nat) : (s.cc p f).rd F i = s.rd F i := rfl
@[simp] theorem State.cc_on (s : State) (p : Port) (f : CcSt → CcSt) (F : Field) (i : Nat) : (s.cc p f).on F i = s.on F i := rfl
@[simp] theorem State.cc_ring (s : State) (p : Port) (f : CcSt → CcSt) (q : Fin 40) : (s.cc p f).ring q = s.ring q := rfl

/-! ## `State.phy` -/

@[simp] theorem State.phy_regs (s : State) (p : Port) (f : PhySt → PhySt) : (s.phy p f).regs = s.regs := rfl
@[simp] theorem State.phy_dev (s : State) (p : Port) (f : PhySt → PhySt) : (s.phy p f).dev = s.dev := rfl
@[simp] theorem State.phy_rings (s : State) (p : Port) (f : PhySt → PhySt) : (s.phy p f).rings = s.rings := rfl
@[simp] theorem State.phy_mbox (s : State) (p : Port) (f : PhySt → PhySt) : (s.phy p f).mbox = s.mbox := rfl
@[simp] theorem State.phy_staging (s : State) (p : Port) (f : PhySt → PhySt) : (s.phy p f).staging = s.staging := rfl
@[simp] theorem State.phy_notice (s : State) (p : Port) (f : PhySt → PhySt) : (s.phy p f).notice = s.notice := rfl
@[simp] theorem State.phy_stop (s : State) (p : Port) (f : PhySt → PhySt) : (s.phy p f).stop = s.stop := rfl
@[simp] theorem State.phy_role (s : State) (p : Port) (f : PhySt → PhySt) : (s.phy p f).role = s.role := rfl
@[simp] theorem State.phy_island (s : State) (p : Port) (f : PhySt → PhySt) : (s.phy p f).island = s.island := rfl
@[simp] theorem State.phy_islandE (s : State) (p : Port) (f : PhySt → PhySt) : (s.phy p f).islandE = s.islandE := rfl
@[simp] theorem State.phy_returnTick (s : State) (p : Port) (f : PhySt → PhySt) : (s.phy p f).returnTick = s.returnTick := rfl
@[simp] theorem State.phy_supply (s : State) (p : Port) (f : PhySt → PhySt) : (s.phy p f).supply = s.supply := rfl
@[simp] theorem State.phy_feeds (s : State) (p : Port) (f : PhySt → PhySt) : (s.phy p f).feeds = s.feeds := rfl
@[simp] theorem State.phy_monRepeat (s : State) (p : Port) (f : PhySt → PhySt) : (s.phy p f).monRepeat = s.monRepeat := rfl
@[simp] theorem State.phy_chipFailed (s : State) (p : Port) (f : PhySt → PhySt) : (s.phy p f).chipFailed = s.chipFailed := rfl
@[simp] theorem State.phy_otp (s : State) (p : Port) (f : PhySt → PhySt) : (s.phy p f).otp = s.otp := rfl
@[simp] theorem State.phy_busV (s : State) (p : Port) (f : PhySt → PhySt) : (s.phy p f).busV = s.busV := rfl
@[simp] theorem State.phy_adcCheck (s : State) (p : Port) (f : PhySt → PhySt) : (s.phy p f).adcCheck = s.adcCheck := rfl
@[simp] theorem State.phy_adcRepeat (s : State) (p : Port) (f : PhySt → PhySt) : (s.phy p f).adcRepeat = s.adcRepeat := rfl
@[simp] theorem State.phy_calNext (s : State) (p : Port) (f : PhySt → PhySt) : (s.phy p f).calNext = s.calNext := rfl
@[simp] theorem State.phy_adcCal (s : State) (p : Port) (f : PhySt → PhySt) : (s.phy p f).adcCal = s.adcCal := rfl
@[simp] theorem State.phy_svc (s : State) (p : Port) (f : PhySt → PhySt) : (s.phy p f).svc = s.svc := rfl
@[simp] theorem State.phy_planned (s : State) (p : Port) (f : PhySt → PhySt) : (s.phy p f).planned = s.planned := rfl
@[simp] theorem State.phy_bud (s : State) (p : Port) (f : PhySt → PhySt) : (s.phy p f).bud = s.bud := rfl
@[simp] theorem State.phy_led (s : State) (p : Port) (f : PhySt → PhySt) : (s.phy p f).led = s.led := rfl
@[simp] theorem State.phy_pair (s : State) (p : Port) (f : PhySt → PhySt) : (s.phy p f).pair = s.pair := rfl
@[simp] theorem State.phy_spi (s : State) (p : Port) (f : PhySt → PhySt) : (s.phy p f).spi = s.spi := rfl
@[simp] theorem State.phy_smb (s : State) (p : Port) (f : PhySt → PhySt) : (s.phy p f).smb = s.smb := rfl
@[simp] theorem State.phy_weft (s : State) (p : Port) (f : PhySt → PhySt) : (s.phy p f).weft = s.weft := rfl
@[simp] theorem State.phy_tim (s : State) (p : Port) (f : PhySt → PhySt) : (s.phy p f).tim = s.tim := rfl
@[simp] theorem State.phy_snap (s : State) (p : Port) (f : PhySt → PhySt) : (s.phy p f).snap = s.snap := rfl
@[simp] theorem State.phy_flash (s : State) (p : Port) (f : PhySt → PhySt) : (s.phy p f).flash = s.flash := rfl
@[simp] theorem State.phy_boot (s : State) (p : Port) (f : PhySt → PhySt) : (s.phy p f).boot = s.boot := rfl
@[simp] theorem State.phy_pow (s : State) (p : Port) (f : PhySt → PhySt) : (s.phy p f).pow = s.pow := rfl
@[simp] theorem State.phy_polFlash (s : State) (p : Port) (f : PhySt → PhySt) : (s.phy p f).polFlash = s.polFlash := rfl
@[simp] theorem State.phy_retiredMask (s : State) (p : Port) (f : PhySt → PhySt) : (s.phy p f).retiredMask = s.retiredMask := rfl
@[simp] theorem State.phy_retiredFeeds (s : State) (p : Port) (f : PhySt → PhySt) : (s.phy p f).retiredFeeds = s.retiredFeeds := rfl
@[simp] theorem State.phy_marks (s : State) (p : Port) (f : PhySt → PhySt) : (s.phy p f).marks = s.marks := rfl
@[simp] theorem State.phy_time (s : State) (p : Port) (f : PhySt → PhySt) : (s.phy p f).time = s.time := rfl
@[simp] theorem State.phy_frac (s : State) (p : Port) (f : PhySt → PhySt) : (s.phy p f).frac = s.frac := rfl
@[simp] theorem State.phy_up (s : State) (p : Port) (f : PhySt → PhySt) : (s.phy p f).up = s.up := rfl
@[simp] theorem State.phy_served2 (s : State) (p : Port) (f : PhySt → PhySt) : (s.phy p f).served2 = s.served2 := rfl
@[simp] theorem State.phy_freeCount (s : State) (p : Port) (f : PhySt → PhySt) : (s.phy p f).freeCount = s.freeCount := rfl
@[simp] theorem State.phy_islRole (s : State) (p : Port) (f : PhySt → PhySt) : (s.phy p f).islRole = s.islRole := rfl
@[simp] theorem State.phy_updates (s : State) (p : Port) (f : PhySt → PhySt) : (s.phy p f).updates = s.updates := rfl
@[simp] theorem State.phy_pending (s : State) (p : Port) (f : PhySt → PhySt) : (s.phy p f).pending = s.pending := rfl
@[simp] theorem State.phy_rd (s : State) (p : Port) (f : PhySt → PhySt) (F : Field) (i : Nat) : (s.phy p f).rd F i = s.rd F i := rfl
@[simp] theorem State.phy_on (s : State) (p : Port) (f : PhySt → PhySt) (F : Field) (i : Nat) : (s.phy p f).on F i = s.on F i := rfl
@[simp] theorem State.phy_ring (s : State) (p : Port) (f : PhySt → PhySt) (q : Fin 40) : (s.phy p f).ring q = s.ring q := rfl

/-! ## `State.pe` -/

@[simp] theorem State.pe_regs (s : State) (p : Port) (f : PeSt → PeSt) : (s.pe p f).regs = s.regs := rfl
@[simp] theorem State.pe_dev (s : State) (p : Port) (f : PeSt → PeSt) : (s.pe p f).dev = s.dev := rfl
@[simp] theorem State.pe_rings (s : State) (p : Port) (f : PeSt → PeSt) : (s.pe p f).rings = s.rings := rfl
@[simp] theorem State.pe_mbox (s : State) (p : Port) (f : PeSt → PeSt) : (s.pe p f).mbox = s.mbox := rfl
@[simp] theorem State.pe_staging (s : State) (p : Port) (f : PeSt → PeSt) : (s.pe p f).staging = s.staging := rfl
@[simp] theorem State.pe_notice (s : State) (p : Port) (f : PeSt → PeSt) : (s.pe p f).notice = s.notice := rfl
@[simp] theorem State.pe_stop (s : State) (p : Port) (f : PeSt → PeSt) : (s.pe p f).stop = s.stop := rfl
@[simp] theorem State.pe_role (s : State) (p : Port) (f : PeSt → PeSt) : (s.pe p f).role = s.role := rfl
@[simp] theorem State.pe_island (s : State) (p : Port) (f : PeSt → PeSt) : (s.pe p f).island = s.island := rfl
@[simp] theorem State.pe_islandE (s : State) (p : Port) (f : PeSt → PeSt) : (s.pe p f).islandE = s.islandE := rfl
@[simp] theorem State.pe_returnTick (s : State) (p : Port) (f : PeSt → PeSt) : (s.pe p f).returnTick = s.returnTick := rfl
@[simp] theorem State.pe_supply (s : State) (p : Port) (f : PeSt → PeSt) : (s.pe p f).supply = s.supply := rfl
@[simp] theorem State.pe_feeds (s : State) (p : Port) (f : PeSt → PeSt) : (s.pe p f).feeds = s.feeds := rfl
@[simp] theorem State.pe_monRepeat (s : State) (p : Port) (f : PeSt → PeSt) : (s.pe p f).monRepeat = s.monRepeat := rfl
@[simp] theorem State.pe_chipFailed (s : State) (p : Port) (f : PeSt → PeSt) : (s.pe p f).chipFailed = s.chipFailed := rfl
@[simp] theorem State.pe_otp (s : State) (p : Port) (f : PeSt → PeSt) : (s.pe p f).otp = s.otp := rfl
@[simp] theorem State.pe_busV (s : State) (p : Port) (f : PeSt → PeSt) : (s.pe p f).busV = s.busV := rfl
@[simp] theorem State.pe_adcCheck (s : State) (p : Port) (f : PeSt → PeSt) : (s.pe p f).adcCheck = s.adcCheck := rfl
@[simp] theorem State.pe_adcRepeat (s : State) (p : Port) (f : PeSt → PeSt) : (s.pe p f).adcRepeat = s.adcRepeat := rfl
@[simp] theorem State.pe_calNext (s : State) (p : Port) (f : PeSt → PeSt) : (s.pe p f).calNext = s.calNext := rfl
@[simp] theorem State.pe_adcCal (s : State) (p : Port) (f : PeSt → PeSt) : (s.pe p f).adcCal = s.adcCal := rfl
@[simp] theorem State.pe_svc (s : State) (p : Port) (f : PeSt → PeSt) : (s.pe p f).svc = s.svc := rfl
@[simp] theorem State.pe_planned (s : State) (p : Port) (f : PeSt → PeSt) : (s.pe p f).planned = s.planned := rfl
@[simp] theorem State.pe_bud (s : State) (p : Port) (f : PeSt → PeSt) : (s.pe p f).bud = s.bud := rfl
@[simp] theorem State.pe_led (s : State) (p : Port) (f : PeSt → PeSt) : (s.pe p f).led = s.led := rfl
@[simp] theorem State.pe_pair (s : State) (p : Port) (f : PeSt → PeSt) : (s.pe p f).pair = s.pair := rfl
@[simp] theorem State.pe_spi (s : State) (p : Port) (f : PeSt → PeSt) : (s.pe p f).spi = s.spi := rfl
@[simp] theorem State.pe_smb (s : State) (p : Port) (f : PeSt → PeSt) : (s.pe p f).smb = s.smb := rfl
@[simp] theorem State.pe_weft (s : State) (p : Port) (f : PeSt → PeSt) : (s.pe p f).weft = s.weft := rfl
@[simp] theorem State.pe_tim (s : State) (p : Port) (f : PeSt → PeSt) : (s.pe p f).tim = s.tim := rfl
@[simp] theorem State.pe_snap (s : State) (p : Port) (f : PeSt → PeSt) : (s.pe p f).snap = s.snap := rfl
@[simp] theorem State.pe_flash (s : State) (p : Port) (f : PeSt → PeSt) : (s.pe p f).flash = s.flash := rfl
@[simp] theorem State.pe_boot (s : State) (p : Port) (f : PeSt → PeSt) : (s.pe p f).boot = s.boot := rfl
@[simp] theorem State.pe_pow (s : State) (p : Port) (f : PeSt → PeSt) : (s.pe p f).pow = s.pow := rfl
@[simp] theorem State.pe_polFlash (s : State) (p : Port) (f : PeSt → PeSt) : (s.pe p f).polFlash = s.polFlash := rfl
@[simp] theorem State.pe_retiredMask (s : State) (p : Port) (f : PeSt → PeSt) : (s.pe p f).retiredMask = s.retiredMask := rfl
@[simp] theorem State.pe_retiredFeeds (s : State) (p : Port) (f : PeSt → PeSt) : (s.pe p f).retiredFeeds = s.retiredFeeds := rfl
@[simp] theorem State.pe_marks (s : State) (p : Port) (f : PeSt → PeSt) : (s.pe p f).marks = s.marks := rfl
@[simp] theorem State.pe_time (s : State) (p : Port) (f : PeSt → PeSt) : (s.pe p f).time = s.time := rfl
@[simp] theorem State.pe_frac (s : State) (p : Port) (f : PeSt → PeSt) : (s.pe p f).frac = s.frac := rfl
@[simp] theorem State.pe_up (s : State) (p : Port) (f : PeSt → PeSt) : (s.pe p f).up = s.up := rfl
@[simp] theorem State.pe_served2 (s : State) (p : Port) (f : PeSt → PeSt) : (s.pe p f).served2 = s.served2 := rfl
@[simp] theorem State.pe_freeCount (s : State) (p : Port) (f : PeSt → PeSt) : (s.pe p f).freeCount = s.freeCount := rfl
@[simp] theorem State.pe_islRole (s : State) (p : Port) (f : PeSt → PeSt) : (s.pe p f).islRole = s.islRole := rfl
@[simp] theorem State.pe_updates (s : State) (p : Port) (f : PeSt → PeSt) : (s.pe p f).updates = s.updates := rfl
@[simp] theorem State.pe_pending (s : State) (p : Port) (f : PeSt → PeSt) : (s.pe p f).pending = s.pending := rfl
@[simp] theorem State.pe_rd (s : State) (p : Port) (f : PeSt → PeSt) (F : Field) (i : Nat) : (s.pe p f).rd F i = s.rd F i := rfl
@[simp] theorem State.pe_on (s : State) (p : Port) (f : PeSt → PeSt) (F : Field) (i : Nat) : (s.pe p f).on F i = s.on F i := rfl
@[simp] theorem State.pe_ring (s : State) (p : Port) (f : PeSt → PeSt) (q : Fin 40) : (s.pe p f).ring q = s.ring q := rfl

/-! ## `State.swp` -/

@[simp] theorem State.swp_regs (s : State) (p : Port) (f : SwapSt → SwapSt) : (s.swp p f).regs = s.regs := rfl
@[simp] theorem State.swp_dev (s : State) (p : Port) (f : SwapSt → SwapSt) : (s.swp p f).dev = s.dev := rfl
@[simp] theorem State.swp_rings (s : State) (p : Port) (f : SwapSt → SwapSt) : (s.swp p f).rings = s.rings := rfl
@[simp] theorem State.swp_mbox (s : State) (p : Port) (f : SwapSt → SwapSt) : (s.swp p f).mbox = s.mbox := rfl
@[simp] theorem State.swp_staging (s : State) (p : Port) (f : SwapSt → SwapSt) : (s.swp p f).staging = s.staging := rfl
@[simp] theorem State.swp_notice (s : State) (p : Port) (f : SwapSt → SwapSt) : (s.swp p f).notice = s.notice := rfl
@[simp] theorem State.swp_stop (s : State) (p : Port) (f : SwapSt → SwapSt) : (s.swp p f).stop = s.stop := rfl
@[simp] theorem State.swp_role (s : State) (p : Port) (f : SwapSt → SwapSt) : (s.swp p f).role = s.role := rfl
@[simp] theorem State.swp_island (s : State) (p : Port) (f : SwapSt → SwapSt) : (s.swp p f).island = s.island := rfl
@[simp] theorem State.swp_islandE (s : State) (p : Port) (f : SwapSt → SwapSt) : (s.swp p f).islandE = s.islandE := rfl
@[simp] theorem State.swp_returnTick (s : State) (p : Port) (f : SwapSt → SwapSt) : (s.swp p f).returnTick = s.returnTick := rfl
@[simp] theorem State.swp_supply (s : State) (p : Port) (f : SwapSt → SwapSt) : (s.swp p f).supply = s.supply := rfl
@[simp] theorem State.swp_feeds (s : State) (p : Port) (f : SwapSt → SwapSt) : (s.swp p f).feeds = s.feeds := rfl
@[simp] theorem State.swp_monRepeat (s : State) (p : Port) (f : SwapSt → SwapSt) : (s.swp p f).monRepeat = s.monRepeat := rfl
@[simp] theorem State.swp_chipFailed (s : State) (p : Port) (f : SwapSt → SwapSt) : (s.swp p f).chipFailed = s.chipFailed := rfl
@[simp] theorem State.swp_otp (s : State) (p : Port) (f : SwapSt → SwapSt) : (s.swp p f).otp = s.otp := rfl
@[simp] theorem State.swp_busV (s : State) (p : Port) (f : SwapSt → SwapSt) : (s.swp p f).busV = s.busV := rfl
@[simp] theorem State.swp_adcCheck (s : State) (p : Port) (f : SwapSt → SwapSt) : (s.swp p f).adcCheck = s.adcCheck := rfl
@[simp] theorem State.swp_adcRepeat (s : State) (p : Port) (f : SwapSt → SwapSt) : (s.swp p f).adcRepeat = s.adcRepeat := rfl
@[simp] theorem State.swp_calNext (s : State) (p : Port) (f : SwapSt → SwapSt) : (s.swp p f).calNext = s.calNext := rfl
@[simp] theorem State.swp_adcCal (s : State) (p : Port) (f : SwapSt → SwapSt) : (s.swp p f).adcCal = s.adcCal := rfl
@[simp] theorem State.swp_svc (s : State) (p : Port) (f : SwapSt → SwapSt) : (s.swp p f).svc = s.svc := rfl
@[simp] theorem State.swp_planned (s : State) (p : Port) (f : SwapSt → SwapSt) : (s.swp p f).planned = s.planned := rfl
@[simp] theorem State.swp_bud (s : State) (p : Port) (f : SwapSt → SwapSt) : (s.swp p f).bud = s.bud := rfl
@[simp] theorem State.swp_led (s : State) (p : Port) (f : SwapSt → SwapSt) : (s.swp p f).led = s.led := rfl
@[simp] theorem State.swp_pair (s : State) (p : Port) (f : SwapSt → SwapSt) : (s.swp p f).pair = s.pair := rfl
@[simp] theorem State.swp_spi (s : State) (p : Port) (f : SwapSt → SwapSt) : (s.swp p f).spi = s.spi := rfl
@[simp] theorem State.swp_smb (s : State) (p : Port) (f : SwapSt → SwapSt) : (s.swp p f).smb = s.smb := rfl
@[simp] theorem State.swp_weft (s : State) (p : Port) (f : SwapSt → SwapSt) : (s.swp p f).weft = s.weft := rfl
@[simp] theorem State.swp_tim (s : State) (p : Port) (f : SwapSt → SwapSt) : (s.swp p f).tim = s.tim := rfl
@[simp] theorem State.swp_snap (s : State) (p : Port) (f : SwapSt → SwapSt) : (s.swp p f).snap = s.snap := rfl
@[simp] theorem State.swp_flash (s : State) (p : Port) (f : SwapSt → SwapSt) : (s.swp p f).flash = s.flash := rfl
@[simp] theorem State.swp_boot (s : State) (p : Port) (f : SwapSt → SwapSt) : (s.swp p f).boot = s.boot := rfl
@[simp] theorem State.swp_pow (s : State) (p : Port) (f : SwapSt → SwapSt) : (s.swp p f).pow = s.pow := rfl
@[simp] theorem State.swp_polFlash (s : State) (p : Port) (f : SwapSt → SwapSt) : (s.swp p f).polFlash = s.polFlash := rfl
@[simp] theorem State.swp_retiredMask (s : State) (p : Port) (f : SwapSt → SwapSt) : (s.swp p f).retiredMask = s.retiredMask := rfl
@[simp] theorem State.swp_retiredFeeds (s : State) (p : Port) (f : SwapSt → SwapSt) : (s.swp p f).retiredFeeds = s.retiredFeeds := rfl
@[simp] theorem State.swp_marks (s : State) (p : Port) (f : SwapSt → SwapSt) : (s.swp p f).marks = s.marks := rfl
@[simp] theorem State.swp_time (s : State) (p : Port) (f : SwapSt → SwapSt) : (s.swp p f).time = s.time := rfl
@[simp] theorem State.swp_frac (s : State) (p : Port) (f : SwapSt → SwapSt) : (s.swp p f).frac = s.frac := rfl
@[simp] theorem State.swp_up (s : State) (p : Port) (f : SwapSt → SwapSt) : (s.swp p f).up = s.up := rfl
@[simp] theorem State.swp_served2 (s : State) (p : Port) (f : SwapSt → SwapSt) : (s.swp p f).served2 = s.served2 := rfl
@[simp] theorem State.swp_freeCount (s : State) (p : Port) (f : SwapSt → SwapSt) : (s.swp p f).freeCount = s.freeCount := rfl
@[simp] theorem State.swp_islRole (s : State) (p : Port) (f : SwapSt → SwapSt) : (s.swp p f).islRole = s.islRole := rfl
@[simp] theorem State.swp_updates (s : State) (p : Port) (f : SwapSt → SwapSt) : (s.swp p f).updates = s.updates := rfl
@[simp] theorem State.swp_pending (s : State) (p : Port) (f : SwapSt → SwapSt) : (s.swp p f).pending = s.pending := rfl
@[simp] theorem State.swp_rd (s : State) (p : Port) (f : SwapSt → SwapSt) (F : Field) (i : Nat) : (s.swp p f).rd F i = s.rd F i := rfl
@[simp] theorem State.swp_on (s : State) (p : Port) (f : SwapSt → SwapSt) (F : Field) (i : Nat) : (s.swp p f).on F i = s.on F i := rfl
@[simp] theorem State.swp_ring (s : State) (p : Port) (f : SwapSt → SwapSt) (q : Fin 40) : (s.swp p f).ring q = s.ring q := rfl

/-! ## `State.loop` -/

@[simp] theorem State.loop_regs (s : State) (p : Port) (f : LoopSt → LoopSt) : (s.loop p f).regs = s.regs := rfl
@[simp] theorem State.loop_dev (s : State) (p : Port) (f : LoopSt → LoopSt) : (s.loop p f).dev = s.dev := rfl
@[simp] theorem State.loop_rings (s : State) (p : Port) (f : LoopSt → LoopSt) : (s.loop p f).rings = s.rings := rfl
@[simp] theorem State.loop_mbox (s : State) (p : Port) (f : LoopSt → LoopSt) : (s.loop p f).mbox = s.mbox := rfl
@[simp] theorem State.loop_staging (s : State) (p : Port) (f : LoopSt → LoopSt) : (s.loop p f).staging = s.staging := rfl
@[simp] theorem State.loop_notice (s : State) (p : Port) (f : LoopSt → LoopSt) : (s.loop p f).notice = s.notice := rfl
@[simp] theorem State.loop_stop (s : State) (p : Port) (f : LoopSt → LoopSt) : (s.loop p f).stop = s.stop := rfl
@[simp] theorem State.loop_role (s : State) (p : Port) (f : LoopSt → LoopSt) : (s.loop p f).role = s.role := rfl
@[simp] theorem State.loop_island (s : State) (p : Port) (f : LoopSt → LoopSt) : (s.loop p f).island = s.island := rfl
@[simp] theorem State.loop_islandE (s : State) (p : Port) (f : LoopSt → LoopSt) : (s.loop p f).islandE = s.islandE := rfl
@[simp] theorem State.loop_returnTick (s : State) (p : Port) (f : LoopSt → LoopSt) : (s.loop p f).returnTick = s.returnTick := rfl
@[simp] theorem State.loop_supply (s : State) (p : Port) (f : LoopSt → LoopSt) : (s.loop p f).supply = s.supply := rfl
@[simp] theorem State.loop_feeds (s : State) (p : Port) (f : LoopSt → LoopSt) : (s.loop p f).feeds = s.feeds := rfl
@[simp] theorem State.loop_monRepeat (s : State) (p : Port) (f : LoopSt → LoopSt) : (s.loop p f).monRepeat = s.monRepeat := rfl
@[simp] theorem State.loop_chipFailed (s : State) (p : Port) (f : LoopSt → LoopSt) : (s.loop p f).chipFailed = s.chipFailed := rfl
@[simp] theorem State.loop_otp (s : State) (p : Port) (f : LoopSt → LoopSt) : (s.loop p f).otp = s.otp := rfl
@[simp] theorem State.loop_busV (s : State) (p : Port) (f : LoopSt → LoopSt) : (s.loop p f).busV = s.busV := rfl
@[simp] theorem State.loop_adcCheck (s : State) (p : Port) (f : LoopSt → LoopSt) : (s.loop p f).adcCheck = s.adcCheck := rfl
@[simp] theorem State.loop_adcRepeat (s : State) (p : Port) (f : LoopSt → LoopSt) : (s.loop p f).adcRepeat = s.adcRepeat := rfl
@[simp] theorem State.loop_calNext (s : State) (p : Port) (f : LoopSt → LoopSt) : (s.loop p f).calNext = s.calNext := rfl
@[simp] theorem State.loop_adcCal (s : State) (p : Port) (f : LoopSt → LoopSt) : (s.loop p f).adcCal = s.adcCal := rfl
@[simp] theorem State.loop_svc (s : State) (p : Port) (f : LoopSt → LoopSt) : (s.loop p f).svc = s.svc := rfl
@[simp] theorem State.loop_planned (s : State) (p : Port) (f : LoopSt → LoopSt) : (s.loop p f).planned = s.planned := rfl
@[simp] theorem State.loop_bud (s : State) (p : Port) (f : LoopSt → LoopSt) : (s.loop p f).bud = s.bud := rfl
@[simp] theorem State.loop_led (s : State) (p : Port) (f : LoopSt → LoopSt) : (s.loop p f).led = s.led := rfl
@[simp] theorem State.loop_pair (s : State) (p : Port) (f : LoopSt → LoopSt) : (s.loop p f).pair = s.pair := rfl
@[simp] theorem State.loop_spi (s : State) (p : Port) (f : LoopSt → LoopSt) : (s.loop p f).spi = s.spi := rfl
@[simp] theorem State.loop_smb (s : State) (p : Port) (f : LoopSt → LoopSt) : (s.loop p f).smb = s.smb := rfl
@[simp] theorem State.loop_weft (s : State) (p : Port) (f : LoopSt → LoopSt) : (s.loop p f).weft = s.weft := rfl
@[simp] theorem State.loop_tim (s : State) (p : Port) (f : LoopSt → LoopSt) : (s.loop p f).tim = s.tim := rfl
@[simp] theorem State.loop_snap (s : State) (p : Port) (f : LoopSt → LoopSt) : (s.loop p f).snap = s.snap := rfl
@[simp] theorem State.loop_flash (s : State) (p : Port) (f : LoopSt → LoopSt) : (s.loop p f).flash = s.flash := rfl
@[simp] theorem State.loop_boot (s : State) (p : Port) (f : LoopSt → LoopSt) : (s.loop p f).boot = s.boot := rfl
@[simp] theorem State.loop_pow (s : State) (p : Port) (f : LoopSt → LoopSt) : (s.loop p f).pow = s.pow := rfl
@[simp] theorem State.loop_polFlash (s : State) (p : Port) (f : LoopSt → LoopSt) : (s.loop p f).polFlash = s.polFlash := rfl
@[simp] theorem State.loop_retiredMask (s : State) (p : Port) (f : LoopSt → LoopSt) : (s.loop p f).retiredMask = s.retiredMask := rfl
@[simp] theorem State.loop_retiredFeeds (s : State) (p : Port) (f : LoopSt → LoopSt) : (s.loop p f).retiredFeeds = s.retiredFeeds := rfl
@[simp] theorem State.loop_marks (s : State) (p : Port) (f : LoopSt → LoopSt) : (s.loop p f).marks = s.marks := rfl
@[simp] theorem State.loop_time (s : State) (p : Port) (f : LoopSt → LoopSt) : (s.loop p f).time = s.time := rfl
@[simp] theorem State.loop_frac (s : State) (p : Port) (f : LoopSt → LoopSt) : (s.loop p f).frac = s.frac := rfl
@[simp] theorem State.loop_up (s : State) (p : Port) (f : LoopSt → LoopSt) : (s.loop p f).up = s.up := rfl
@[simp] theorem State.loop_served2 (s : State) (p : Port) (f : LoopSt → LoopSt) : (s.loop p f).served2 = s.served2 := rfl
@[simp] theorem State.loop_freeCount (s : State) (p : Port) (f : LoopSt → LoopSt) : (s.loop p f).freeCount = s.freeCount := rfl
@[simp] theorem State.loop_islRole (s : State) (p : Port) (f : LoopSt → LoopSt) : (s.loop p f).islRole = s.islRole := rfl
@[simp] theorem State.loop_updates (s : State) (p : Port) (f : LoopSt → LoopSt) : (s.loop p f).updates = s.updates := rfl
@[simp] theorem State.loop_pending (s : State) (p : Port) (f : LoopSt → LoopSt) : (s.loop p f).pending = s.pending := rfl
@[simp] theorem State.loop_rd (s : State) (p : Port) (f : LoopSt → LoopSt) (F : Field) (i : Nat) : (s.loop p f).rd F i = s.rd F i := rfl
@[simp] theorem State.loop_on (s : State) (p : Port) (f : LoopSt → LoopSt) (F : Field) (i : Nat) : (s.loop p f).on F i = s.on F i := rfl
@[simp] theorem State.loop_ring (s : State) (p : Port) (f : LoopSt → LoopSt) (q : Fin 40) : (s.loop p f).ring q = s.ring q := rfl

/-! ## `State.model` -/

@[simp] theorem State.model_regs (s : State) (p : Port) (f : ModelSt → ModelSt) : (s.model p f).regs = s.regs := rfl
@[simp] theorem State.model_dev (s : State) (p : Port) (f : ModelSt → ModelSt) : (s.model p f).dev = s.dev := rfl
@[simp] theorem State.model_rings (s : State) (p : Port) (f : ModelSt → ModelSt) : (s.model p f).rings = s.rings := rfl
@[simp] theorem State.model_mbox (s : State) (p : Port) (f : ModelSt → ModelSt) : (s.model p f).mbox = s.mbox := rfl
@[simp] theorem State.model_staging (s : State) (p : Port) (f : ModelSt → ModelSt) : (s.model p f).staging = s.staging := rfl
@[simp] theorem State.model_notice (s : State) (p : Port) (f : ModelSt → ModelSt) : (s.model p f).notice = s.notice := rfl
@[simp] theorem State.model_stop (s : State) (p : Port) (f : ModelSt → ModelSt) : (s.model p f).stop = s.stop := rfl
@[simp] theorem State.model_role (s : State) (p : Port) (f : ModelSt → ModelSt) : (s.model p f).role = s.role := rfl
@[simp] theorem State.model_island (s : State) (p : Port) (f : ModelSt → ModelSt) : (s.model p f).island = s.island := rfl
@[simp] theorem State.model_islandE (s : State) (p : Port) (f : ModelSt → ModelSt) : (s.model p f).islandE = s.islandE := rfl
@[simp] theorem State.model_returnTick (s : State) (p : Port) (f : ModelSt → ModelSt) : (s.model p f).returnTick = s.returnTick := rfl
@[simp] theorem State.model_supply (s : State) (p : Port) (f : ModelSt → ModelSt) : (s.model p f).supply = s.supply := rfl
@[simp] theorem State.model_feeds (s : State) (p : Port) (f : ModelSt → ModelSt) : (s.model p f).feeds = s.feeds := rfl
@[simp] theorem State.model_monRepeat (s : State) (p : Port) (f : ModelSt → ModelSt) : (s.model p f).monRepeat = s.monRepeat := rfl
@[simp] theorem State.model_chipFailed (s : State) (p : Port) (f : ModelSt → ModelSt) : (s.model p f).chipFailed = s.chipFailed := rfl
@[simp] theorem State.model_otp (s : State) (p : Port) (f : ModelSt → ModelSt) : (s.model p f).otp = s.otp := rfl
@[simp] theorem State.model_busV (s : State) (p : Port) (f : ModelSt → ModelSt) : (s.model p f).busV = s.busV := rfl
@[simp] theorem State.model_adcCheck (s : State) (p : Port) (f : ModelSt → ModelSt) : (s.model p f).adcCheck = s.adcCheck := rfl
@[simp] theorem State.model_adcRepeat (s : State) (p : Port) (f : ModelSt → ModelSt) : (s.model p f).adcRepeat = s.adcRepeat := rfl
@[simp] theorem State.model_calNext (s : State) (p : Port) (f : ModelSt → ModelSt) : (s.model p f).calNext = s.calNext := rfl
@[simp] theorem State.model_adcCal (s : State) (p : Port) (f : ModelSt → ModelSt) : (s.model p f).adcCal = s.adcCal := rfl
@[simp] theorem State.model_svc (s : State) (p : Port) (f : ModelSt → ModelSt) : (s.model p f).svc = s.svc := rfl
@[simp] theorem State.model_planned (s : State) (p : Port) (f : ModelSt → ModelSt) : (s.model p f).planned = s.planned := rfl
@[simp] theorem State.model_bud (s : State) (p : Port) (f : ModelSt → ModelSt) : (s.model p f).bud = s.bud := rfl
@[simp] theorem State.model_led (s : State) (p : Port) (f : ModelSt → ModelSt) : (s.model p f).led = s.led := rfl
@[simp] theorem State.model_pair (s : State) (p : Port) (f : ModelSt → ModelSt) : (s.model p f).pair = s.pair := rfl
@[simp] theorem State.model_spi (s : State) (p : Port) (f : ModelSt → ModelSt) : (s.model p f).spi = s.spi := rfl
@[simp] theorem State.model_smb (s : State) (p : Port) (f : ModelSt → ModelSt) : (s.model p f).smb = s.smb := rfl
@[simp] theorem State.model_weft (s : State) (p : Port) (f : ModelSt → ModelSt) : (s.model p f).weft = s.weft := rfl
@[simp] theorem State.model_tim (s : State) (p : Port) (f : ModelSt → ModelSt) : (s.model p f).tim = s.tim := rfl
@[simp] theorem State.model_snap (s : State) (p : Port) (f : ModelSt → ModelSt) : (s.model p f).snap = s.snap := rfl
@[simp] theorem State.model_flash (s : State) (p : Port) (f : ModelSt → ModelSt) : (s.model p f).flash = s.flash := rfl
@[simp] theorem State.model_boot (s : State) (p : Port) (f : ModelSt → ModelSt) : (s.model p f).boot = s.boot := rfl
@[simp] theorem State.model_pow (s : State) (p : Port) (f : ModelSt → ModelSt) : (s.model p f).pow = s.pow := rfl
@[simp] theorem State.model_polFlash (s : State) (p : Port) (f : ModelSt → ModelSt) : (s.model p f).polFlash = s.polFlash := rfl
@[simp] theorem State.model_retiredMask (s : State) (p : Port) (f : ModelSt → ModelSt) : (s.model p f).retiredMask = s.retiredMask := rfl
@[simp] theorem State.model_retiredFeeds (s : State) (p : Port) (f : ModelSt → ModelSt) : (s.model p f).retiredFeeds = s.retiredFeeds := rfl
@[simp] theorem State.model_marks (s : State) (p : Port) (f : ModelSt → ModelSt) : (s.model p f).marks = s.marks := rfl
@[simp] theorem State.model_time (s : State) (p : Port) (f : ModelSt → ModelSt) : (s.model p f).time = s.time := rfl
@[simp] theorem State.model_frac (s : State) (p : Port) (f : ModelSt → ModelSt) : (s.model p f).frac = s.frac := rfl
@[simp] theorem State.model_up (s : State) (p : Port) (f : ModelSt → ModelSt) : (s.model p f).up = s.up := rfl
@[simp] theorem State.model_served2 (s : State) (p : Port) (f : ModelSt → ModelSt) : (s.model p f).served2 = s.served2 := rfl
@[simp] theorem State.model_freeCount (s : State) (p : Port) (f : ModelSt → ModelSt) : (s.model p f).freeCount = s.freeCount := rfl
@[simp] theorem State.model_islRole (s : State) (p : Port) (f : ModelSt → ModelSt) : (s.model p f).islRole = s.islRole := rfl
@[simp] theorem State.model_updates (s : State) (p : Port) (f : ModelSt → ModelSt) : (s.model p f).updates = s.updates := rfl
@[simp] theorem State.model_pending (s : State) (p : Port) (f : ModelSt → ModelSt) : (s.model p f).pending = s.pending := rfl
@[simp] theorem State.model_rd (s : State) (p : Port) (f : ModelSt → ModelSt) (F : Field) (i : Nat) : (s.model p f).rd F i = s.rd F i := rfl
@[simp] theorem State.model_on (s : State) (p : Port) (f : ModelSt → ModelSt) (F : Field) (i : Nat) : (s.model p f).on F i = s.on F i := rfl
@[simp] theorem State.model_ring (s : State) (p : Port) (f : ModelSt → ModelSt) (q : Fin 40) : (s.model p f).ring q = s.ring q := rfl

/-! ## `State.grd` -/

@[simp] theorem State.grd_regs (s : State) (p : Port) (f : GuardSt → GuardSt) : (s.grd p f).regs = s.regs := rfl
@[simp] theorem State.grd_dev (s : State) (p : Port) (f : GuardSt → GuardSt) : (s.grd p f).dev = s.dev := rfl
@[simp] theorem State.grd_rings (s : State) (p : Port) (f : GuardSt → GuardSt) : (s.grd p f).rings = s.rings := rfl
@[simp] theorem State.grd_mbox (s : State) (p : Port) (f : GuardSt → GuardSt) : (s.grd p f).mbox = s.mbox := rfl
@[simp] theorem State.grd_staging (s : State) (p : Port) (f : GuardSt → GuardSt) : (s.grd p f).staging = s.staging := rfl
@[simp] theorem State.grd_notice (s : State) (p : Port) (f : GuardSt → GuardSt) : (s.grd p f).notice = s.notice := rfl
@[simp] theorem State.grd_stop (s : State) (p : Port) (f : GuardSt → GuardSt) : (s.grd p f).stop = s.stop := rfl
@[simp] theorem State.grd_role (s : State) (p : Port) (f : GuardSt → GuardSt) : (s.grd p f).role = s.role := rfl
@[simp] theorem State.grd_island (s : State) (p : Port) (f : GuardSt → GuardSt) : (s.grd p f).island = s.island := rfl
@[simp] theorem State.grd_islandE (s : State) (p : Port) (f : GuardSt → GuardSt) : (s.grd p f).islandE = s.islandE := rfl
@[simp] theorem State.grd_returnTick (s : State) (p : Port) (f : GuardSt → GuardSt) : (s.grd p f).returnTick = s.returnTick := rfl
@[simp] theorem State.grd_supply (s : State) (p : Port) (f : GuardSt → GuardSt) : (s.grd p f).supply = s.supply := rfl
@[simp] theorem State.grd_feeds (s : State) (p : Port) (f : GuardSt → GuardSt) : (s.grd p f).feeds = s.feeds := rfl
@[simp] theorem State.grd_monRepeat (s : State) (p : Port) (f : GuardSt → GuardSt) : (s.grd p f).monRepeat = s.monRepeat := rfl
@[simp] theorem State.grd_chipFailed (s : State) (p : Port) (f : GuardSt → GuardSt) : (s.grd p f).chipFailed = s.chipFailed := rfl
@[simp] theorem State.grd_otp (s : State) (p : Port) (f : GuardSt → GuardSt) : (s.grd p f).otp = s.otp := rfl
@[simp] theorem State.grd_busV (s : State) (p : Port) (f : GuardSt → GuardSt) : (s.grd p f).busV = s.busV := rfl
@[simp] theorem State.grd_adcCheck (s : State) (p : Port) (f : GuardSt → GuardSt) : (s.grd p f).adcCheck = s.adcCheck := rfl
@[simp] theorem State.grd_adcRepeat (s : State) (p : Port) (f : GuardSt → GuardSt) : (s.grd p f).adcRepeat = s.adcRepeat := rfl
@[simp] theorem State.grd_calNext (s : State) (p : Port) (f : GuardSt → GuardSt) : (s.grd p f).calNext = s.calNext := rfl
@[simp] theorem State.grd_adcCal (s : State) (p : Port) (f : GuardSt → GuardSt) : (s.grd p f).adcCal = s.adcCal := rfl
@[simp] theorem State.grd_svc (s : State) (p : Port) (f : GuardSt → GuardSt) : (s.grd p f).svc = s.svc := rfl
@[simp] theorem State.grd_planned (s : State) (p : Port) (f : GuardSt → GuardSt) : (s.grd p f).planned = s.planned := rfl
@[simp] theorem State.grd_bud (s : State) (p : Port) (f : GuardSt → GuardSt) : (s.grd p f).bud = s.bud := rfl
@[simp] theorem State.grd_led (s : State) (p : Port) (f : GuardSt → GuardSt) : (s.grd p f).led = s.led := rfl
@[simp] theorem State.grd_pair (s : State) (p : Port) (f : GuardSt → GuardSt) : (s.grd p f).pair = s.pair := rfl
@[simp] theorem State.grd_spi (s : State) (p : Port) (f : GuardSt → GuardSt) : (s.grd p f).spi = s.spi := rfl
@[simp] theorem State.grd_smb (s : State) (p : Port) (f : GuardSt → GuardSt) : (s.grd p f).smb = s.smb := rfl
@[simp] theorem State.grd_weft (s : State) (p : Port) (f : GuardSt → GuardSt) : (s.grd p f).weft = s.weft := rfl
@[simp] theorem State.grd_tim (s : State) (p : Port) (f : GuardSt → GuardSt) : (s.grd p f).tim = s.tim := rfl
@[simp] theorem State.grd_snap (s : State) (p : Port) (f : GuardSt → GuardSt) : (s.grd p f).snap = s.snap := rfl
@[simp] theorem State.grd_flash (s : State) (p : Port) (f : GuardSt → GuardSt) : (s.grd p f).flash = s.flash := rfl
@[simp] theorem State.grd_boot (s : State) (p : Port) (f : GuardSt → GuardSt) : (s.grd p f).boot = s.boot := rfl
@[simp] theorem State.grd_pow (s : State) (p : Port) (f : GuardSt → GuardSt) : (s.grd p f).pow = s.pow := rfl
@[simp] theorem State.grd_polFlash (s : State) (p : Port) (f : GuardSt → GuardSt) : (s.grd p f).polFlash = s.polFlash := rfl
@[simp] theorem State.grd_retiredMask (s : State) (p : Port) (f : GuardSt → GuardSt) : (s.grd p f).retiredMask = s.retiredMask := rfl
@[simp] theorem State.grd_retiredFeeds (s : State) (p : Port) (f : GuardSt → GuardSt) : (s.grd p f).retiredFeeds = s.retiredFeeds := rfl
@[simp] theorem State.grd_marks (s : State) (p : Port) (f : GuardSt → GuardSt) : (s.grd p f).marks = s.marks := rfl
@[simp] theorem State.grd_time (s : State) (p : Port) (f : GuardSt → GuardSt) : (s.grd p f).time = s.time := rfl
@[simp] theorem State.grd_frac (s : State) (p : Port) (f : GuardSt → GuardSt) : (s.grd p f).frac = s.frac := rfl
@[simp] theorem State.grd_up (s : State) (p : Port) (f : GuardSt → GuardSt) : (s.grd p f).up = s.up := rfl
@[simp] theorem State.grd_served2 (s : State) (p : Port) (f : GuardSt → GuardSt) : (s.grd p f).served2 = s.served2 := rfl
@[simp] theorem State.grd_freeCount (s : State) (p : Port) (f : GuardSt → GuardSt) : (s.grd p f).freeCount = s.freeCount := rfl
@[simp] theorem State.grd_islRole (s : State) (p : Port) (f : GuardSt → GuardSt) : (s.grd p f).islRole = s.islRole := rfl
@[simp] theorem State.grd_updates (s : State) (p : Port) (f : GuardSt → GuardSt) : (s.grd p f).updates = s.updates := rfl
@[simp] theorem State.grd_pending (s : State) (p : Port) (f : GuardSt → GuardSt) : (s.grd p f).pending = s.pending := rfl
@[simp] theorem State.grd_rd (s : State) (p : Port) (f : GuardSt → GuardSt) (F : Field) (i : Nat) : (s.grd p f).rd F i = s.rd F i := rfl
@[simp] theorem State.grd_on (s : State) (p : Port) (f : GuardSt → GuardSt) (F : Field) (i : Nat) : (s.grd p f).on F i = s.on F i := rfl
@[simp] theorem State.grd_ring (s : State) (p : Port) (f : GuardSt → GuardSt) (q : Fin 40) : (s.grd p f).ring q = s.ring q := rfl

/-! ## `State.setRing` -/

@[simp] theorem State.setRing_regs (s : State) (q : Fin 40) (r : RingSt) : (s.setRing q r).regs = s.regs := rfl
@[simp] theorem State.setRing_ports (s : State) (q : Fin 40) (r : RingSt) : (s.setRing q r).ports = s.ports := rfl
@[simp] theorem State.setRing_dev (s : State) (q : Fin 40) (r : RingSt) : (s.setRing q r).dev = s.dev := rfl
@[simp] theorem State.setRing_mbox (s : State) (q : Fin 40) (r : RingSt) : (s.setRing q r).mbox = s.mbox := rfl
@[simp] theorem State.setRing_staging (s : State) (q : Fin 40) (r : RingSt) : (s.setRing q r).staging = s.staging := rfl
@[simp] theorem State.setRing_notice (s : State) (q : Fin 40) (r : RingSt) : (s.setRing q r).notice = s.notice := rfl
@[simp] theorem State.setRing_stop (s : State) (q : Fin 40) (r : RingSt) : (s.setRing q r).stop = s.stop := rfl
@[simp] theorem State.setRing_role (s : State) (q : Fin 40) (r : RingSt) : (s.setRing q r).role = s.role := rfl
@[simp] theorem State.setRing_island (s : State) (q : Fin 40) (r : RingSt) : (s.setRing q r).island = s.island := rfl
@[simp] theorem State.setRing_islandE (s : State) (q : Fin 40) (r : RingSt) : (s.setRing q r).islandE = s.islandE := rfl
@[simp] theorem State.setRing_returnTick (s : State) (q : Fin 40) (r : RingSt) : (s.setRing q r).returnTick = s.returnTick := rfl
@[simp] theorem State.setRing_supply (s : State) (q : Fin 40) (r : RingSt) : (s.setRing q r).supply = s.supply := rfl
@[simp] theorem State.setRing_feeds (s : State) (q : Fin 40) (r : RingSt) : (s.setRing q r).feeds = s.feeds := rfl
@[simp] theorem State.setRing_monRepeat (s : State) (q : Fin 40) (r : RingSt) : (s.setRing q r).monRepeat = s.monRepeat := rfl
@[simp] theorem State.setRing_chipFailed (s : State) (q : Fin 40) (r : RingSt) : (s.setRing q r).chipFailed = s.chipFailed := rfl
@[simp] theorem State.setRing_otp (s : State) (q : Fin 40) (r : RingSt) : (s.setRing q r).otp = s.otp := rfl
@[simp] theorem State.setRing_busV (s : State) (q : Fin 40) (r : RingSt) : (s.setRing q r).busV = s.busV := rfl
@[simp] theorem State.setRing_adcCheck (s : State) (q : Fin 40) (r : RingSt) : (s.setRing q r).adcCheck = s.adcCheck := rfl
@[simp] theorem State.setRing_adcRepeat (s : State) (q : Fin 40) (r : RingSt) : (s.setRing q r).adcRepeat = s.adcRepeat := rfl
@[simp] theorem State.setRing_calNext (s : State) (q : Fin 40) (r : RingSt) : (s.setRing q r).calNext = s.calNext := rfl
@[simp] theorem State.setRing_adcCal (s : State) (q : Fin 40) (r : RingSt) : (s.setRing q r).adcCal = s.adcCal := rfl
@[simp] theorem State.setRing_svc (s : State) (q : Fin 40) (r : RingSt) : (s.setRing q r).svc = s.svc := rfl
@[simp] theorem State.setRing_planned (s : State) (q : Fin 40) (r : RingSt) : (s.setRing q r).planned = s.planned := rfl
@[simp] theorem State.setRing_bud (s : State) (q : Fin 40) (r : RingSt) : (s.setRing q r).bud = s.bud := rfl
@[simp] theorem State.setRing_led (s : State) (q : Fin 40) (r : RingSt) : (s.setRing q r).led = s.led := rfl
@[simp] theorem State.setRing_pair (s : State) (q : Fin 40) (r : RingSt) : (s.setRing q r).pair = s.pair := rfl
@[simp] theorem State.setRing_spi (s : State) (q : Fin 40) (r : RingSt) : (s.setRing q r).spi = s.spi := rfl
@[simp] theorem State.setRing_smb (s : State) (q : Fin 40) (r : RingSt) : (s.setRing q r).smb = s.smb := rfl
@[simp] theorem State.setRing_weft (s : State) (q : Fin 40) (r : RingSt) : (s.setRing q r).weft = s.weft := rfl
@[simp] theorem State.setRing_tim (s : State) (q : Fin 40) (r : RingSt) : (s.setRing q r).tim = s.tim := rfl
@[simp] theorem State.setRing_snap (s : State) (q : Fin 40) (r : RingSt) : (s.setRing q r).snap = s.snap := rfl
@[simp] theorem State.setRing_flash (s : State) (q : Fin 40) (r : RingSt) : (s.setRing q r).flash = s.flash := rfl
@[simp] theorem State.setRing_boot (s : State) (q : Fin 40) (r : RingSt) : (s.setRing q r).boot = s.boot := rfl
@[simp] theorem State.setRing_pow (s : State) (q : Fin 40) (r : RingSt) : (s.setRing q r).pow = s.pow := rfl
@[simp] theorem State.setRing_polFlash (s : State) (q : Fin 40) (r : RingSt) : (s.setRing q r).polFlash = s.polFlash := rfl
@[simp] theorem State.setRing_retiredMask (s : State) (q : Fin 40) (r : RingSt) : (s.setRing q r).retiredMask = s.retiredMask := rfl
@[simp] theorem State.setRing_retiredFeeds (s : State) (q : Fin 40) (r : RingSt) : (s.setRing q r).retiredFeeds = s.retiredFeeds := rfl
@[simp] theorem State.setRing_marks (s : State) (q : Fin 40) (r : RingSt) : (s.setRing q r).marks = s.marks := rfl
@[simp] theorem State.setRing_time (s : State) (q : Fin 40) (r : RingSt) : (s.setRing q r).time = s.time := rfl
@[simp] theorem State.setRing_frac (s : State) (q : Fin 40) (r : RingSt) : (s.setRing q r).frac = s.frac := rfl
@[simp] theorem State.setRing_up (s : State) (q : Fin 40) (r : RingSt) : (s.setRing q r).up = s.up := rfl
@[simp] theorem State.setRing_served2 (s : State) (q : Fin 40) (r : RingSt) : (s.setRing q r).served2 = s.served2 := rfl
@[simp] theorem State.setRing_freeCount (s : State) (q : Fin 40) (r : RingSt) : (s.setRing q r).freeCount = s.freeCount := rfl
@[simp] theorem State.setRing_islRole (s : State) (q : Fin 40) (r : RingSt) : (s.setRing q r).islRole = s.islRole := rfl
@[simp] theorem State.setRing_updates (s : State) (q : Fin 40) (r : RingSt) : (s.setRing q r).updates = s.updates := rfl
@[simp] theorem State.setRing_pending (s : State) (q : Fin 40) (r : RingSt) : (s.setRing q r).pending = s.pending := rfl
@[simp] theorem State.setRing_rd (s : State) (q : Fin 40) (r : RingSt) (F : Field) (i : Nat) : (s.setRing q r).rd F i = s.rd F i := rfl
@[simp] theorem State.setRing_on (s : State) (q : Fin 40) (r : RingSt) (F : Field) (i : Nat) : (s.setRing q r).on F i = s.on F i := rfl
@[simp] theorem State.setRing_port (s : State) (q : Fin 40) (r : RingSt) (p : Port) : (s.setRing q r).port p = s.port p := rfl

end Sys2Proof.Machine
end

