-- ==== Sys2Proof/Laws/Registers.lean ====
section
/-! SUPPORT. Reading a register after a write, reading one outside a footprint, a port's record after a change of it, and the
ring that responses go to. -/

set_option linter.all false

namespace Sys2Proof.Machine

/-! ## Registers -/

/-- Two fields that share no bit of a register, whatever the instances. -/
def Field.apart (F G : Field) : Bool :=
  decide (F.off < 1024 ∧ F.lo < 32 ∧ G.off < 1024 ∧ G.lo < 32 ∧ ¬(F.page = G.page ∧ F.off = G.off ∧ F.lo = G.lo))

theorem key_ne {F G : Field} (h : F.apart G = true) (i j : Nat) : F.key i ≠ G.key j := by
  have h := of_decide_eq_true h
  unfold Field.key
  have := Nat.mod_lt i (show 0 < 1024 by decide)
  have := Nat.mod_lt j (show 0 < 1024 by decide)
  omega

theorem key_ne_inst (F : Field) {i j : Nat} (hi : i < 1024) (hj : j < 1024) (h : i ≠ j) : F.key i ≠ F.key j := by
  unfold Field.key
  rw [Nat.mod_eq_of_lt hi, Nat.mod_eq_of_lt hj]; omega

@[simp] theorem rd_wr_self (s : State) (F : Field) (i v : Nat) : (s.wr F i v).rd F i = v % 2 ^ F.width := by
  unfold State.rd State.wr; exact get_put_self _ _ _ _

theorem rd_wr_ne (s : State) (F G : Field) (i j v : Nat) (h : F.key i ≠ G.key j) : (s.wr G j v).rd F i = s.rd F i := by
  unfold State.rd State.wr; exact get_put_ne _ _ _ _ _ _ h

theorem rd_wr (s : State) (F G : Field) (i j v : Nat) (h : F.apart G = true) : (s.wr G j v).rd F i = s.rd F i :=
  rd_wr_ne s F G i j v (key_ne h i j)

theorem on_wr (s : State) (F G : Field) (i j v : Nat) (h : F.apart G = true) : (s.wr G j v).on F i = s.on F i := by
  unfold State.on; rw [rd_wr s F G i j v h]

theorem rd_flag_self (s : State) (F : Field) (i : Nat) (b : Bool) (h : 0 < F.width) :
    (s.flag F i b).rd F i = if b then 1 else 0 := by
  unfold State.flag
  rw [rd_wr_self]
  have : 1 < 2 ^ F.width := Nat.one_lt_two_pow (by omega)
  split
  · exact Nat.mod_eq_of_lt this
  · exact Nat.zero_mod _

theorem on_flag_self (s : State) (F : Field) (i : Nat) (b : Bool) (h : 0 < F.width) : (s.flag F i b).on F i = b := by
  unfold State.on; rw [rd_flag_self s F i b h]; cases b <;> rfl

theorem rd_bump_self (s : State) (F : Field) (i : Nat) :
    (s.bump F i).rd F i = min (s.rd F i + 1) (2 ^ F.width - 1) := by
  unfold State.bump
  rw [rd_wr_self]
  have : 0 < 2 ^ F.width := Nat.two_pow_pos _
  exact Nat.mod_eq_of_lt (by omega)

theorem rd_bumpBy_self (s : State) (F : Field) (i n : Nat) :
    (s.bumpBy F i n).rd F i = min (s.rd F i + n) (2 ^ F.width - 1) := by
  unfold State.bumpBy
  rw [rd_wr_self]
  have : 0 < 2 ^ F.width := Nat.two_pow_pos _
  exact Nat.mod_eq_of_lt (by omega)

theorem rd_wrSat_self (s : State) (F : Field) (i v : Nat) : (s.wrSat F i v).rd F i = min v (2 ^ F.width - 1) := by
  unfold State.wrSat
  rw [rd_wr_self]
  have : 0 < 2 ^ F.width := Nat.two_pow_pos _
  exact Nat.mod_eq_of_lt (by omega)

theorem rd_wrI (s : State) (F : Field) (i : Nat) (G : Field) (j : Nat) (v : Int) (h : F.apart G = true) :
    (s.wrI G j v).rd F i = s.rd F i := rd_wr _ _ _ _ _ _ h
theorem on_wrI (s : State) (F : Field) (i : Nat) (G : Field) (j : Nat) (v : Int) (h : F.apart G = true) :
    (s.wrI G j v).on F i = s.on F i := on_wr _ _ _ _ _ _ h
theorem rd_flag (s : State) (F : Field) (i : Nat) (G : Field) (j : Nat) (b : Bool) (h : F.apart G = true) :
    (s.flag G j b).rd F i = s.rd F i := rd_wr _ _ _ _ _ _ h
theorem on_flag (s : State) (F : Field) (i : Nat) (G : Field) (j : Nat) (b : Bool) (h : F.apart G = true) :
    (s.flag G j b).on F i = s.on F i := on_wr _ _ _ _ _ _ h
theorem rd_bump (s : State) (F : Field) (i : Nat) (G : Field) (j : Nat) (h : F.apart G = true) :
    (s.bump G j).rd F i = s.rd F i := rd_wr _ _ _ _ _ _ h
theorem on_bump (s : State) (F : Field) (i : Nat) (G : Field) (j : Nat) (h : F.apart G = true) :
    (s.bump G j).on F i = s.on F i := on_wr _ _ _ _ _ _ h
theorem rd_bumpBy (s : State) (F : Field) (i : Nat) (G : Field) (j n : Nat) (h : F.apart G = true) :
    (s.bumpBy G j n).rd F i = s.rd F i := rd_wr _ _ _ _ _ _ h
theorem on_bumpBy (s : State) (F : Field) (i : Nat) (G : Field) (j n : Nat) (h : F.apart G = true) :
    (s.bumpBy G j n).on F i = s.on F i := on_wr _ _ _ _ _ _ h
theorem rd_wrSat (s : State) (F : Field) (i : Nat) (G : Field) (j v : Nat) (h : F.apart G = true) :
    (s.wrSat G j v).rd F i = s.rd F i := rd_wr _ _ _ _ _ _ h
theorem on_wrSat (s : State) (F : Field) (i : Nat) (G : Field) (j v : Nat) (h : F.apart G = true) :
    (s.wrSat G j v).on F i = s.on F i := on_wr _ _ _ _ _ _ h
theorem rd_wrBit (s : State) (F : Field) (i : Nat) (G : Field) (j n : Nat) (b : Bool) (h : F.apart G = true) :
    (s.wrBit G j n b).rd F i = s.rd F i := rd_wr _ _ _ _ _ _ h
theorem on_wrBit (s : State) (F : Field) (i : Nat) (G : Field) (j n : Nat) (b : Bool) (h : F.apart G = true) :
    (s.wrBit G j n b).on F i = s.on F i := on_wr _ _ _ _ _ _ h

theorem rd_irq (s : State) (F : Field) (i pg j b : Nat) (h : F.apart (IRQ_STAT pg) = true) :
    (s.irq pg j b).rd F i = s.rd F i := rd_wr _ _ _ _ _ _ h
theorem on_irq (s : State) (F : Field) (i pg j b : Nat) (h : F.apart (IRQ_STAT pg) = true) :
    (s.irq pg j b).on F i = s.on F i := on_wr _ _ _ _ _ _ h

/-- Bit `b` of IRQ_STAT is set by its cause (R426). -/
theorem bit_irq_self (s : State) (pg i b : Nat) (h : b < 32) : (s.irq pg i b).bit (IRQ_STAT pg) i b = true := by
  unfold State.bit State.irq State.wrBit
  rw [rd_wr_self]
  show ((s.rd (IRQ_STAT pg) i ||| 2 ^ b) % 2 ^ 32).testBit b = true
  rw [Nat.testBit_mod_two_pow, Nat.testBit_or, Nat.testBit_two_pow_self]; simp [h]

/-! ## Outside a footprint -/

/-- No register of the field, of any port, lies in the mask. -/
def maskSkips (m : Nat) (F : Field) : Bool :=
  decide (F.off < 1024 ∧ F.lo < 32) && !m.testBit areaAnyReg && !m.testBit (regArea false F.page F.off)
    && !m.testBit (regArea true F.page F.off)

theorem touch_skips {m : Nat} {F : Field} (h : maskSkips m F = true) (p i : Nat) : touch m p (F.key i) = false := by
  unfold maskSkips at h
  simp only [Bool.and_eq_true, Bool.not_eq_true', decide_eq_true_eq] at h
  obtain ⟨⟨⟨⟨a, b⟩, c⟩, d⟩, e⟩ := h
  unfold touch
  rw [key_page F i a b, key_off F i a b, c, d, e]; simp

theorem Within.rd {m p : Nat} {s t : State} (w : Within m p s t) (F : Field) (i : Nat) (h : maskSkips m F = true) :
    t.rd F i = s.rd F i := w.regs _ _ (touch_skips h p i)

theorem Within.on {m p : Nat} {s t : State} (w : Within m p s t) (F : Field) (i : Nat) (h : maskSkips m F = true) :
    t.on F i = s.on F i := by
  unfold State.on; rw [w.rd F i h]

/-- No register of the field lies in the mask but the command's own port's. -/
def maskOthers (m : Nat) (F : Field) : Bool :=
  decide (F.off < 1024 ∧ F.lo < 32) && !m.testBit areaAnyReg && !m.testBit (regArea false F.page F.off) && !fieldArr F

theorem Within.rdOther {m p : Nat} {s t : State} (w : Within m p s t) (F : Field) (i : Nat) (h : maskOthers m F = true)
    (hi : i < 1024) (hp : i ≠ p) : t.rd F i = s.rd F i := by
  refine w.regs _ _ ?_
  unfold maskOthers at h
  simp only [Bool.and_eq_true, Bool.not_eq_true', decide_eq_true_eq] at h
  obtain ⟨⟨⟨⟨a, b⟩, c⟩, d⟩, e⟩ := h
  have hk : keyPort (F.key i) = i := by
    unfold keyPort
    rw [key_page F i a b, key_off F i a b, key_inst]
    unfold fieldArr at e
    rw [if_neg (by simpa using e), Nat.mod_eq_of_lt hi]
  unfold touch
  rw [key_page F i a b, key_off F i a b, c, d, hk]; simp [hp]

/-! ## Ports -/

@[simp] theorem port_modPort_self (s : State) (p : Port) (f : PortSt → PortSt) : (s.modPort p f).port p = f (s.port p) := by
  unfold State.port State.modPort
  simp only [Vector.get_eq_getElem]
  rw [Vector.getElem_set_self]

theorem port_modPort_ne (s : State) (p q : Port) (f : PortSt → PortSt) (h : q ≠ p) : (s.modPort p f).port q = s.port q := by
  unfold State.port State.modPort
  simp only [Vector.get_eq_getElem]
  rw [Vector.getElem_set_ne _ _ (fun e => h (Fin.ext e.symm))]

@[simp] theorem port_cc_self (s : State) (p : Port) (f : CcSt → CcSt) :
    (s.cc p f).port p = { s.port p with cc := f (s.port p).cc } := port_modPort_self _ _ _
@[simp] theorem port_phy_self (s : State) (p : Port) (f : PhySt → PhySt) :
    (s.phy p f).port p = { s.port p with phy := f (s.port p).phy } := port_modPort_self _ _ _
@[simp] theorem port_pe_self (s : State) (p : Port) (f : PeSt → PeSt) :
    (s.pe p f).port p = { s.port p with pe := f (s.port p).pe } := port_modPort_self _ _ _
@[simp] theorem port_swp_self (s : State) (p : Port) (f : SwapSt → SwapSt) :
    (s.swp p f).port p = { s.port p with swap := f (s.port p).swap } := port_modPort_self _ _ _
@[simp] theorem port_loop_self (s : State) (p : Port) (f : LoopSt → LoopSt) :
    (s.loop p f).port p = { s.port p with loop := f (s.port p).loop } := port_modPort_self _ _ _
@[simp] theorem port_model_self (s : State) (p : Port) (f : ModelSt → ModelSt) :
    (s.model p f).port p = { s.port p with model := f (s.port p).model } := port_modPort_self _ _ _
@[simp] theorem port_grd_self (s : State) (p : Port) (f : GuardSt → GuardSt) :
    (s.grd p f).port p = { s.port p with guard := f (s.port p).guard } := port_modPort_self _ _ _

/-! ## Rings -/

@[simp] theorem ring_setRing_self (s : State) (q : Fin 40) (r : RingSt) : (s.setRing q r).ring q = r := by
  unfold State.ring State.setRing
  simp only [Vector.get_eq_getElem]
  rw [Vector.getElem_set_self]

theorem ring_setRing_ne (s : State) (q a : Fin 40) (r : RingSt) (h : a ≠ q) : (s.setRing q r).ring a = s.ring a := by
  unfold State.ring State.setRing
  simp only [Vector.get_eq_getElem]
  rw [Vector.getElem_set_ne _ _ (fun e => h (Fin.ext e.symm))]

end Sys2Proof.Machine
end

