-- ==== Sys2Proof/Tests/Slice0.lean ====
section
/-! SUPPORT. The model's own tests: ill-formed commands that the checks refuse, and states and operands that meet the
statements' hypotheses. -/

set_option linter.all false
set_option maxRecDepth 20000
set_option Elab.async false

namespace Sys2Proof.Machine

/-! ## Ill-formed operands are refused -/

theorem test_packet_too_long : Packet.wf ⟨1, 0, 0, 0, 0, List.replicate 4097 0, none⟩ = false := by
  simp [Packet.wf]

theorem test_cell_too_long : Cell.wf ⟨0, false, 1, 2, 0, 0, true, true, 1, List.replicate 257 0⟩ = false := by
  simp [Cell.wf]

theorem test_request_position : Instr.wf (.request 0 ⟨16, 0, 0, false, false, false⟩) = false := by decide

theorem test_chunk_number : Instr.wf (.chunkReceived 0 .sop .vdm ⟨16, false, 26⟩ []) = false := by decide

theorem test_chunk_data : Instr.wf (.chunkReceived 0 .sop .vdm ⟨0, false, 100⟩ (List.replicate 27 0)) = false := by decide

theorem test_bodies : [Body.caps (List.replicate 12 .zero) ⟨true, false, false, false, false, 0⟩,
    Body.vdm (List.replicate 8 0), Body.fields (List.replicate 65 0), Body.raw (List.replicate 261 0),
    Body.rdo ⟨16, 0, 0, false, false, false⟩ .zero].all (fun b => !b.wf) = true := by decide +kernel

theorem test_frame_chunk : Frame.wf ⟨.sop, .vdm, 0, some ⟨0, false, 261⟩, .none⟩ = false := by decide

theorem test_selvedge_bodies : [SelBody.hello ⟨0, true, 5, [], []⟩, SelBody.loop 0 true [], SelBody.urgent 0 [],
    SelBody.state ⟨[], false, 0, 0, false, [], [], []⟩, SelBody.record 8192 none, SelBody.accum [], SelBody.table 0 [],
    SelBody.policy 2 0 (List.replicate 1025 0), SelBody.marks 0 [145], SelBody.ack (2 ^ 32)].all (fun b => !b.wf) = true := by
  decide +kernel

theorem test_capabilities_received : Instr.wf (.sourceCapabilitiesReceived 0 (List.replicate 12 .zero)
    ⟨true, false, false, false, false, 0⟩) = false := by decide +kernel

theorem test_urgent_list : Instr.wf (.urgent 0 []) = false := by decide

theorem test_push_too_long : Instr.wf (.push 0 (List.replicate 4129 0) true false) = false := by decide +kernel

theorem test_smbus_blocks : [Instr.setPtr 0 (List.replicate 256 0) .good, Instr.writeReg 0 (List.replicate 256 0) .good,
    Instr.pushFrag 0 (List.replicate 256 0) .good].all (fun i => !i.wf) = true := by decide +kernel

/-! ## Statements' hypotheses are met -/

/-- A device whose two Twills run. -/
def wbase : State := (State.reset.wr CORE.STATE 1 enRun).wr CORE.STATE 2 enRun

theorem test_every_step_keeps_order_witness : ∃ s t : State, s.Inv ∧ step s = .next t :=
  ⟨State.reset, _, ⟨List.Pairwise.nil, fun q _ => by revert q; decide +kernel⟩, rfl⟩

theorem test_every_command_stays_in_its_areas_witness : ∃ (c : Instr) (s t : State), exec c s = .next t :=
  ⟨.deadlineMiss 0, State.reset, _, rfl⟩


/-- States and operands that meet the hypotheses of AttachDetectsAndDebounces, clause by clause. -/
theorem test_attach_detects_and_debounces_witness :
    (∃ (p : Port) (v1 : Nat) (v2 : Nat) (b : Bool) (s : State), s.tc p = tcUnattachedSrc ∧ s.canAttach p = true ∧
      attachPin (s.readLevel p v1, s.readLevel p v2) = some b) ∧
    (∃ (p : Port) (v1 : Nat) (v2 : Nat) (b : Bool) (s : State), s.tc p = tcUnattachedSnk ∧ s.canAttach p = true ∧
      rpPin (s.readLevel p v1, s.readLevel p v2) = some b) ∧
    (∃ (p : Port) (s : State), s.drives p = true ∧ s.tc p = tcAttachWaitSrc ∧ (attachPin (s.lvl p)).isSome = true ∧
      ¬((s.port p).cc.role = 3 ∧ (s.port p).cc.try_ = 2)) ∧
    (∃ (p : Port) (s : State), s.drives p = true ∧ s.tc p = tcAttachWaitSrc ∧ (attachPin (s.lvl p)).isSome = true ∧
      (s.port p).cc.role = 3 ∧ (s.port p).cc.try_ = 2) ∧
    (∃ (p : Port) (v : Nat) (s : State), s.drives p = true ∧ s.tc p = tcAttachWaitSnk ∧ (rpPin (s.lvl p)).isSome =
      true ∧ 4750 ≤ v ∧ ¬((s.port p).cc.role = 3 ∧ (s.port p).cc.try_ = 1)) ∧
    (∃ (p : Port) (v : Nat) (s : State), s.drives p = true ∧ s.tc p = tcAttachWaitSnk ∧ (rpPin (s.lvl p)).isSome =
      true ∧ 4750 ≤ v ∧ (s.port p).cc.role = 3 ∧ (s.port p).cc.try_ = 1) ∧
    (∃ (p : Port) (v : Nat) (s : State), s.drives p = true ∧ s.tc p = tcTryWaitSnk ∧ (rpPin (s.lvl p)).isSome = true
      ∧ 4750 ≤ v) ∧
    (∃ (p : Port) (s : State), s.tc p = tcAttachWaitSrc ∧ (s.lvl p).1 ≠ 2 ∧ (s.lvl p).2 ≠ 2) ∧
    (∃ (p : Port) (s : State), (s.tc p = tcAttachWaitSnk ∨ s.tc p = tcTryWaitSnk) ∧ (rpPin (s.lvl p)).isSome = false) ∧
    (∃ (p : Port) (s : State), (s.tc p = tcAttachedSrc ∨ s.tc p = tcAttachedSnk) ∧ s.on CC.ATTACHED p = true ∧ s.on
      CC.CC_OPEN_Q p = true ∧ s.ccOpenIgnored p = false) ∧
    (∃ (p : Port) (s : State), (s.port p).cc.role = 3 ∧ s.drives p = true ∧ s.tc p = tcUnattachedSrc) ∧
    (∃ (p : Port) (s : State), (s.port p).cc.role = 3 ∧ s.drives p = true ∧ s.tc p = tcUnattachedSnk) ∧
    (∃ (p : Port) (v : Nat) (s : State), s.drives p = true ∧ (s.tc p = tcTrySrc ∨ (s.tc p = tcTryWaitSrc ∧ v < 800))
      ∧ (attachPin (s.lvl p)).isSome = true) ∧
    (∃ (p : Port) (x : TryTimer) (v : Nat) (s : State), s.drives p = true ∧ s.tc p = tcTrySrc ∧ (attachPin (s.lvl
      p)).isSome = false ∧ ((x = .drpTry ∧ v < 800) ∨ x = .tryTimeout)) ∧
    (∃ (p : Port) (v : Nat) (s : State), s.drives p = true ∧ s.tc p = tcTrySnk ∧ (rpPin (s.lvl p)).isSome = true ∧
      4750 ≤ v) ∧
    (∃ (p : Port) (s : State), s.drives p = true ∧ s.tc p = tcTrySnk ∧ (rpPin (s.lvl p)).isSome = false) ∧
    (∃ (p : Port) (s : State), s.drives p = true ∧ ((s.tc p = tcTryWaitSrc ∧ (attachPin (s.lvl p)).isSome = false) ∨
      (s.tc p = tcTryWaitSnk ∧ (rpPin (s.lvl p)).isSome = false))) ∧
    (∃ (p : Port) (s : State), (s.tc p = tcErrorRecovery ∨ s.tc p = tcCcSafe ∨ s.tc p = tcOvpHold) ∧ s.tripStands p =
      false ∧ s.heldSafe p = false ∧ s.on CC.CC_OVP p = false ∧ s.drives p = true) := by
  refine ⟨⟨0, 1000, 3000, false, (
      let p : Port := 0
      let s : State := wbase
      let s : State := s.wr CC.TC_STATE p tcUnattachedSrc
      let s : State := s.wrBit SYS.EN 0 p true
      let s : State := (s.modPort p fun z => { z with cc := { z.cc with pres := .rp30 } })
      s), ?_⟩,
    ⟨0, 900, 0, false, (
      let p : Port := 0
      let s : State := wbase
      let s : State := s.wr CC.TC_STATE p tcUnattachedSnk
      let s : State := s.wrBit SYS.EN 0 p true
      let s : State := (s.modPort p fun z => { z with cc := { z.cc with pres := .rd } })
      s), ?_⟩,
    ⟨0, (
      let p : Port := 0
      let s : State := wbase
      let s : State := s.wr CC.TC_STATE p tcAttachWaitSrc
      let s : State := s.wr CC.CC1_LVL p 2
      let s : State := s.wr CC.CC2_LVL p 0
      s), ?_⟩,
    ⟨0, (
      let p : Port := 0
      let s : State := wbase
      let s : State := s.wr CC.TC_STATE p tcAttachWaitSrc
      let s : State := s.wr CC.CC1_LVL p 2
      let s : State := s.wr CC.CC2_LVL p 0
      let s : State := (s.modPort (p) fun z => { z with cc := { z.cc with role := 3 } })
      let s : State := (s.modPort (p) fun z => { z with cc := { z.cc with try_ := 2 } })
      s), ?_⟩,
    ⟨0, 4750, (
      let p : Port := 0
      let s : State := wbase
      let s : State := s.wr CC.TC_STATE p tcAttachWaitSnk
      let s : State := s.wr CC.CC1_LVL p 4
      s), ?_⟩,
    ⟨0, 4750, (
      let p : Port := 0
      let s : State := wbase
      let s : State := s.wr CC.TC_STATE p tcAttachWaitSnk
      let s : State := s.wr CC.CC1_LVL p 4
      let s : State := (s.modPort (p) fun z => { z with cc := { z.cc with role := 3 } })
      let s : State := (s.modPort (p) fun z => { z with cc := { z.cc with try_ := 1 } })
      s), ?_⟩,
    ⟨0, 4750, (
      let p : Port := 0
      let s : State := wbase
      let s : State := s.wr CC.TC_STATE p tcTryWaitSnk
      let s : State := s.wr CC.CC1_LVL p 4
      s), ?_⟩,
    ⟨0, (
      let p : Port := 0
      let s : State := wbase
      let s : State := s.wr CC.TC_STATE p tcAttachWaitSrc
      s), ?_⟩,
    ⟨0, (
      let p : Port := 0
      let s : State := wbase
      let s : State := s.wr CC.TC_STATE p tcAttachWaitSnk
      let s : State := s.wr CC.CC1_LVL p 0
      let s : State := s.wr CC.CC2_LVL p 0
      s), ?_⟩,
    ⟨0, (
      let p : Port := 0
      let s : State := wbase
      let s : State := s.wr CC.TC_STATE p tcAttachedSrc
      let s : State := s.flag CC.ATTACHED p true
      let s : State := s.flag CC.CC_OPEN_Q p true
      s), ?_⟩,
    ⟨0, (
      let p : Port := 0
      let s : State := wbase
      let s : State := (s.modPort (p) fun z => { z with cc := { z.cc with role := 3 } })
      let s : State := s.wr CC.TC_STATE p tcUnattachedSrc
      s), ?_⟩,
    ⟨0, (
      let p : Port := 0
      let s : State := wbase
      let s : State := (s.modPort (p) fun z => { z with cc := { z.cc with role := 3 } })
      let s : State := s.wr CC.TC_STATE p tcUnattachedSnk
      s), ?_⟩,
    ⟨0, 0, (
      let p : Port := 0
      let s : State := wbase
      let s : State := s.wr CC.TC_STATE p tcTrySrc
      let s : State := s.wr CC.CC1_LVL p 2
      let s : State := s.wr CC.CC2_LVL p 0
      s), ?_⟩,
    ⟨0, .drpTry, 0, (
      let p : Port := 0
      let s : State := wbase
      let s : State := s.wr CC.TC_STATE p tcTrySrc
      let s : State := s.wr CC.CC1_LVL p 0
      let s : State := s.wr CC.CC2_LVL p 0
      s), ?_⟩,
    ⟨0, 4750, (
      let p : Port := 0
      let s : State := wbase
      let s : State := s.wr CC.TC_STATE p tcTrySnk
      let s : State := s.wr CC.CC1_LVL p 4
      s), ?_⟩,
    ⟨0, (
      let p : Port := 0
      let s : State := wbase
      let s : State := s.wr CC.TC_STATE p tcTrySnk
      let s : State := s.wr CC.CC1_LVL p 0
      let s : State := s.wr CC.CC2_LVL p 0
      s), ?_⟩,
    ⟨0, (
      let p : Port := 0
      let s : State := wbase
      let s : State := s.wr CC.TC_STATE p tcTryWaitSrc
      let s : State := s.wr CC.CC1_LVL p 0
      let s : State := s.wr CC.CC2_LVL p 0
      s), ?_⟩,
    ⟨0, (
      let p : Port := 0
      let s : State := wbase
      let s : State := s.wr CC.TC_STATE p tcErrorRecovery
      let s : State := s.flag CC.CC_OVP p false
      s), ?_⟩⟩
  all_goals first | decide +kernel | (unfold AwaitsResponse; decide +kernel)

/-- States and operands that meet the hypotheses of AttachWatchesTheAttachment, clause by clause. -/
theorem test_attach_watches_the_attachment_witness :
    (∃ (p : Port) (s : State), s.on CC.ATTACHED p = true) ∧
    (∃ (p : Port) (s : State), s.on CC.ATTACHED p = true ∧ s.isSrc p = true ∧ s.ccOpenIgnored p = false ∧ s.running p
      = true ∧ (s.port p).cc.fastOpened = false) ∧
    (∃ (p : Port) (s : State), (s.port p).cc.fastOpened = false) ∧
    (∃ (p : Port) (s : State), s.on CC.ATTACHED p = true) ∧
    (∃ (p : Port) (s : State), s.isSrc p = true ∧ s.on CC.CC_OPEN_Q p = true ∧ s.ccOpenIgnored p = false ∧ (s.port
      p).cc.fastOpened = false) ∧
    (∃ (p : Port) (s : State), s.isSnk p = true) ∧
    (∃ (p : Port) (s : State), s.isSnk p = true ∧ s.ccOpenIgnored p = false ∧ (s.port p).pe.hr = .none) ∧
    (∃ (p : Port) (s : State), s.isSnk p = true ∧ (s.port p).pe.hr = .sinkWait) ∧
    (∃ (p : Port) (v : Nat) (s : State), s.isSnk p = true ∧ (s.port p).pe.hr = .sinkWait ∧ 4750 ≤ v ∧ (rpPin (s.lvl
      p)).isSome = true ∧ s.on CC.CC_OPEN_Q p = false) ∧
    (∃ (p : Port) (v : Nat) (s : State), s.isSnk p = true ∧ (s.port p).pe.hr = .sinkWait ∧ 4750 ≤ v ∧ ((rpPin (s.lvl
      p)).isSome = false ∨ s.on CC.CC_OPEN_Q p = true)) ∧
    (∃ (p : Port) (s : State), s.isSnk p = true ∧ s.avoiding p = true) ∧
    (∃ (p : Port) (v : Nat) (s : State), s.isSnk p = true ∧ s.avoiding p = false ∧ s.explicit p = false ∧ 3 ≤
      s.readLevel p v ∧ s.readLevel p v ≤ 5) := by
  refine ⟨⟨0, (
      let p : Port := 0
      let s : State := wbase
      let s : State := s.flag CC.ATTACHED p true
      s), ?_⟩,
    ⟨0, (
      let p : Port := 0
      let s : State := wbase
      let s : State := s.flag CC.ATTACHED p true
      let s : State := s.flag CC.ATTACHED p true
      let s : State := s.wr CC.PWR_ROLE p 1
      let s : State := s.wr LOOP.HALT_CAUSE p 0
      let s : State := (s.modPort (p) fun z => { z with cc := { z.cc with fastOpened := false } })
      s), ?_⟩,
    ⟨0, (
      let p : Port := 0
      let s : State := wbase
      let s : State := (s.modPort (p) fun z => { z with cc := { z.cc with fastOpened := false } })
      s), ?_⟩,
    ⟨0, (
      let p : Port := 0
      let s : State := wbase
      let s : State := s.flag CC.ATTACHED p true
      s), ?_⟩,
    ⟨0, (
      let p : Port := 0
      let s : State := wbase
      let s : State := s.flag CC.ATTACHED p true
      let s : State := s.wr CC.PWR_ROLE p 1
      let s : State := s.flag CC.CC_OPEN_Q p true
      let s : State := (s.modPort (p) fun z => { z with cc := { z.cc with fastOpened := false } })
      s), ?_⟩,
    ⟨0, (
      let p : Port := 0
      let s : State := wbase
      let s : State := s.flag CC.ATTACHED p true
      let s : State := s.wr CC.PWR_ROLE p 2
      s), ?_⟩,
    ⟨0, (
      let p : Port := 0
      let s : State := wbase
      let s : State := s.flag CC.ATTACHED p true
      let s : State := s.wr CC.PWR_ROLE p 2
      let s : State := (s.modPort (p) fun z => { z with pe := { z.pe with hr := .none } })
      s), ?_⟩,
    ⟨0, (
      let p : Port := 0
      let s : State := wbase
      let s : State := s.flag CC.ATTACHED p true
      let s : State := s.wr CC.PWR_ROLE p 2
      let s : State := (s.modPort (p) fun z => { z with pe := { z.pe with hr := .sinkWait } })
      s), ?_⟩,
    ⟨0, 4750, (
      let p : Port := 0
      let s : State := wbase
      let s : State := s.flag CC.ATTACHED p true
      let s : State := s.wr CC.PWR_ROLE p 2
      let s : State := (s.modPort (p) fun z => { z with pe := { z.pe with hr := .sinkWait } })
      let s : State := s.wr CC.CC1_LVL p 4
      let s : State := s.flag CC.CC_OPEN_Q p false
      s), ?_⟩,
    ⟨0, 4750, (
      let p : Port := 0
      let s : State := wbase
      let s : State := s.flag CC.ATTACHED p true
      let s : State := s.wr CC.PWR_ROLE p 2
      let s : State := (s.modPort (p) fun z => { z with pe := { z.pe with hr := .sinkWait } })
      let s : State := s.wr CC.CC1_LVL p 0
      let s : State := s.wr CC.CC2_LVL p 0
      s), ?_⟩,
    ⟨0, (
      let p : Port := 0
      let s : State := wbase
      let s : State := s.flag CC.ATTACHED p true
      let s : State := s.wr CC.PWR_ROLE p 2
      let s : State := s.wr PD.CONTRACT p 2
      let s : State := s.wr PD.NEG_REV p 2
      s), ?_⟩,
    ⟨0, 900, (
      let p : Port := 0
      let s : State := wbase
      let s : State := s.flag CC.ATTACHED p true
      let s : State := s.wr CC.PWR_ROLE p 2
      let s : State := (s.modPort p fun z => { z with cc := { z.cc with pres := .rd } })
      s), ?_⟩⟩
  all_goals first | decide +kernel | (unfold AwaitsResponse; decide +kernel)

/-- States and operands that meet the hypotheses of VconnSwitchAndCcProtection, clause by clause. -/
theorem test_vconn_switch_and_cc_protection_witness :
    (∃ (p : Port) (s : State), s.on CC.VCONN_ON p = true) ∧
    (∃ (p : Port) (s : State), s.on CC.VCONN_ON p = true) ∧
    (∃ (p : Port) (s : State), (s.port p).cc.ocpTrips = 0 ∧ (s.isSrc p = true ∨ (s.on CC.ATTACHED p = true ∧ s.on
      PD.VCONN_SRC p = true)) ∧ s.on CC.VCONN_ON p = false ∧ s.on CC.VCONN_ALLOW p = true ∧ (s.port p).cc.ra = true ∧
      s.on CC.VCONN_FORCE_OFF p = false ∧ (s.port p).cc.rev = false ∧ s.vconnSum + 300 ≤ s.act BUDGET.POOL_MA 0 ∧
      s.supply.vconnInOut = false) ∧
    (∃ (p : Port) (s : State), (s.port p).cc.ocpTrips = 0 ∧ (s.isSrc p = true ∨ (s.on CC.ATTACHED p = true ∧ s.on
      PD.VCONN_SRC p = true)) ∧ s.on CC.VCONN_ON p = false ∧ s.on CC.VCONN_ALLOW p = true ∧ (s.port p).cc.ra = true ∧
      s.on CC.VCONN_FORCE_OFF p = false ∧ (s.port p).cc.rev = false ∧ (s.act BUDGET.POOL_MA 0 < s.vconnSum + 300 ∨
      s.supply.vconnInOut = true)) ∧
    (∃ (p : Port) (s : State), s.on CC.ATTACHED p = true ∧ (s.port p).cc.ocpTrips = 1 ∧ s.on CC.VCONN_ON p = false ∧
      s.on CC.VCONN_ALLOW p = true ∧ (s.port p).cc.ra = true ∧ s.on CC.VCONN_FORCE_OFF p = false ∧ (s.port p).cc.rev
      = false ∧ s.vconnSum + 300 ≤ s.act BUDGET.POOL_MA 0 ∧ s.supply.vconnInOut = false) ∧
    (∃ (p : Port) (s : State), s.on CC.ATTACHED p = true ∧ (s.port p).cc.ocpTrips = 1 ∧ s.on CC.VCONN_ON p = false ∧
      s.on CC.VCONN_ALLOW p = true ∧ (s.port p).cc.ra = true ∧ s.on CC.VCONN_FORCE_OFF p = false ∧ (s.port p).cc.rev
      = false ∧ (s.act BUDGET.POOL_MA 0 < s.vconnSum + 300 ∨ s.supply.vconnInOut = true)) ∧
    (∃ (p : Port) (v : Nat) (s : State), v < 800 ∧ s.on CC.VCONN_ON p = false) ∧
    (∃ (p : Port) (v : Nat) (s : State), 4750 < v ∧ s.listens p = true ∧ (s.port p).pe.await = .none ∧ (s.port
      p).swap.kind = .vconn ∧ (s.port p).swap.step = .vconnOn) ∧
    (∃ (p : Port) (s : State), s.mayDiscover p = true) ∧
    (∃ (p : Port) (s : State), (s.port p).pe.await = .cableId) ∧
    (∃ (p : Port) (s : State), (s.port p).pe.await = .cableId) ∧
    (∃ (p : Port) (s : State), s.drives p = true) ∧
    (∃ (a : Nat) (b : Nat) (s : State), a < 5500 ∧ b < 5500) ∧
    (∃ (a : Nat) (b : Nat) (s : State), (5500 ≤ a ∨ 5500 ≤ b)) := by
  refine ⟨⟨0, (
      let p : Port := 0
      let s : State := wbase
      let s : State := s.flag CC.VCONN_ON p true
      s), ?_⟩,
    ⟨0, (
      let p : Port := 0
      let s : State := wbase
      let s : State := s.flag CC.VCONN_ON p true
      s), ?_⟩,
    ⟨0, (
      let p : Port := 0
      let s : State := wbase
      let s : State := (s.modPort (p) fun z => { z with cc := { z.cc with ocpTrips := 0 } })
      let s : State := s.flag CC.ATTACHED p true
      let s : State := s.wr CC.PWR_ROLE p 1
      let s : State := s.flag CC.VCONN_ON p false
      let s : State := s.flag CC.VCONN_ALLOW p true
      let s : State := (s.modPort (p) fun z => { z with cc := { z.cc with ra := true } })
      let s : State := s.flag CC.VCONN_FORCE_OFF p false
      let s : State := (s.modPort (p) fun z => { z with cc := { z.cc with rev := false } })
      let s : State := { s with supply := { s.supply with vconnInOut := false } }
      s), ?_⟩,
    ⟨0, (
      let p : Port := 0
      let s : State := wbase
      let s : State := (s.modPort (p) fun z => { z with cc := { z.cc with ocpTrips := 0 } })
      let s : State := s.flag CC.ATTACHED p true
      let s : State := s.wr CC.PWR_ROLE p 1
      let s : State := s.flag CC.VCONN_ON p false
      let s : State := s.flag CC.VCONN_ALLOW p true
      let s : State := (s.modPort (p) fun z => { z with cc := { z.cc with ra := true } })
      let s : State := s.flag CC.VCONN_FORCE_OFF p false
      let s : State := (s.modPort (p) fun z => { z with cc := { z.cc with rev := false } })
      let s : State := { s with supply := { s.supply with vconnInOut := true } }
      s), ?_⟩,
    ⟨0, (
      let p : Port := 0
      let s : State := wbase
      let s : State := s.flag CC.ATTACHED p true
      let s : State := (s.modPort (p) fun z => { z with cc := { z.cc with ocpTrips := 1 } })
      let s : State := s.flag CC.VCONN_ON p false
      let s : State := s.flag CC.VCONN_ALLOW p true
      let s : State := (s.modPort (p) fun z => { z with cc := { z.cc with ra := true } })
      let s : State := s.flag CC.VCONN_FORCE_OFF p false
      let s : State := (s.modPort (p) fun z => { z with cc := { z.cc with rev := false } })
      let s : State := { s with supply := { s.supply with vconnInOut := false } }
      s), ?_⟩,
    ⟨0, (
      let p : Port := 0
      let s : State := wbase
      let s : State := s.flag CC.ATTACHED p true
      let s : State := (s.modPort (p) fun z => { z with cc := { z.cc with ocpTrips := 1 } })
      let s : State := s.flag CC.VCONN_ON p false
      let s : State := s.flag CC.VCONN_ALLOW p true
      let s : State := (s.modPort (p) fun z => { z with cc := { z.cc with ra := true } })
      let s : State := s.flag CC.VCONN_FORCE_OFF p false
      let s : State := (s.modPort (p) fun z => { z with cc := { z.cc with rev := false } })
      let s : State := { s with supply := { s.supply with vconnInOut := true } }
      s), ?_⟩,
    ⟨0, 0, (
      let p : Port := 0
      let s : State := wbase
      let s : State := s.flag CC.VCONN_ON p false
      s), ?_⟩,
    ⟨0, 4751, (
      let p : Port := 0
      let s : State := wbase
      let s : State := s.flag CC.ATTACHED p true
      let s : State := s.flag PD.PD_EN p true
      let s : State := s.flag PD.SHADOW p false
      let s : State := (s.modPort p fun z => { z with phy := PhySt.reset, pe := { z.pe with trans := none }, swap := { z.swap with step := .none } })
      let s : State := { s with pair := { s.pair with unacked := [] } }
      let s : State := (s.modPort (p) fun z => { z with pe := { z.pe with await := .none } })
      let s : State := (s.modPort (p) fun z => { z with swap := { z.swap with kind := .vconn } })
      let s : State := (s.modPort (p) fun z => { z with swap := { z.swap with step := .vconnOn } })
      s), ?_⟩,
    ⟨0, (
      let p : Port := 0
      let s : State := wbase
      let s : State := s.flag CC.ATTACHED p true
      let s : State := s.flag PD.VCONN_SRC p true
      let s : State := s.flag CC.VCONN_ON p true
      let s : State := s.flag CC.CABLE_DISC_EN p true
      let s : State := s.wr PD.HDR_DATA_ROLE p 1
      let s : State := s.wr CC.DISC_STATE p 0
      let s : State := s.wr CC.DISC_COUNT p 1
      let s : State := (s.modPort (p) fun z => { z with pe := { z.pe with await := .none } })
      s), ?_⟩,
    ⟨0, (
      let p : Port := 0
      let s : State := wbase
      let s : State := (s.modPort (p) fun z => { z with pe := { z.pe with await := .cableId } })
      s), ?_⟩,
    ⟨0, (
      let p : Port := 0
      let s : State := wbase
      let s : State := (s.modPort (p) fun z => { z with pe := { z.pe with await := .cableId } })
      s), ?_⟩,
    ⟨0, wbase, ?_⟩,
    ⟨0, 0, wbase, ?_⟩,
    ⟨5500, 0, wbase, ?_⟩⟩
  all_goals first | decide +kernel | (unfold AwaitsResponse; decide +kernel)

/-- States and operands that meet the hypotheses of StartsAndEngineReloads, clause by clause. -/
theorem test_starts_and_engine_reloads_witness :
    (∃ (s : State), s.dev = .boot ∧ s.on CLK.CORE_LOCK 0 = true ∧ s.on CLK.PWM_LOCK 0 = true ∧ s.rd BOOT.SOURCE 0 ≠ 1
      ∧ s.rd BOOT.BOOT_PINS 0 = 2) ∧
    (∃ (s : State), s.boot.warmDue = true ∧ s.dev = .run) ∧
    (∃ (s : State), s.boot.warmDue = false ∧ s.dev = .warmReset ∧ s.on CLK.CORE_LOCK 0 = true) ∧
    (∃ (k : Packet) (s : State), s.serves = true ∧ s.standby = false ∧ k.chip = true ∧ k.plain = true ∧ s.warmRefused
      = false) ∧
    (∃ (e : Fin 12) (s : State), 1 ≤ e.val ∧ e.val ≤ 8 ∧ s.serves = true ∧ s.rd CORE.STATE e ≠ enRetired) ∧
    (∃ (k : Packet) (s : State), s.serves = true ∧ k.plain = true ∧ 1 ≤ k.tgt ∧ k.tgt ≤ 8 ∧ s.coreDenied k.tgt =
      false ∧ componentOk (s.imageAt s.reloadSlot) (componentOf k.tgt) = true ∧ AwaitsResponse k [] s) ∧
    (∃ (k : Packet) (s : State), s.serves = true ∧ k.plain = true ∧ 1 ≤ k.tgt ∧ k.tgt ≤ 8 ∧ s.coreDenied k.tgt =
      false ∧ s.rd CORE.STATE k.tgt ≠ enRetired ∧ AwaitsResponse k [] s) := by
  refine ⟨⟨(
      let s : State := wbase
      let s : State := { s with dev := .boot }
      let s : State := s.flag CLK.CORE_LOCK 0 true
      let s : State := s.flag CLK.PWM_LOCK 0 true
      let s : State := s.wr BOOT.BOOT_PINS 0 (2)
      s), ?_⟩,
    ⟨(
      let s : State := wbase
      let s : State := { s with boot := { s.boot with warmDue := true } }
      let s : State := { s with dev := .run }
      s), ?_⟩,
    ⟨(
      let s : State := wbase
      let s : State := { s with boot := { s.boot with warmDue := false } }
      let s : State := { s with dev := .warmReset }
      let s : State := s.flag CLK.CORE_LOCK 0 true
      s), ?_⟩,
    ⟨(⟨1, 0, 0, 0xFFFF, 0, [], none⟩), (
      let s : State := wbase
      let s : State := { s with dev := .run }
      let s : State := s.flag SYS.READY 0 true
      s), ?_⟩,
    ⟨1, (
      let s : State := wbase
      let s : State := { s with dev := .run }
      let s : State := s.flag SYS.READY 0 true
      s), ?_⟩,
    ⟨(⟨1, 0, 0, 1, 0, [], none⟩), (
      let s : State := wbase
      let s : State := { s with dev := .run }
      let s : State := s.flag SYS.READY 0 true
      let s : State := s.wr CORE.STATE 1 enRun
      let s : State := s.wr CORE.STATE 2 enRun
      let s : State := { s with boot := { s.boot with run := 0 } }
      let s : State := { s with flash := { s.flash with slots := s.flash.slots.set 0 (List.replicate (72 + 32 * 2) 0 ++ (sha256 []).take 24) } }
      s), ?_⟩,
    ⟨(⟨1, 0, 0, 1, 0, [], none⟩), (
      let s : State := wbase
      let s : State := { s with dev := .run }
      let s : State := s.flag SYS.READY 0 true
      let s : State := s.wr CORE.STATE 1 enRun
      let s : State := s.wr CORE.STATE 2 enRun
      s), ?_⟩⟩
  all_goals first | decide +kernel | (unfold AwaitsResponse; decide +kernel)

/-- States and operands that meet the hypotheses of UpdateMovesThroughItsStates, clause by clause. -/
theorem test_update_moves_through_its_states_witness :
    (∃ (k : Packet) (s : State), s.serves = true ∧ s.standby = false ∧ k.chip = true ∧ k.ar = 0 ∧ k.len = 256 ∧
      s.boot.exam = false ∧ s.rd BOOT.STATE 0 ∈ [upIdle, upApplied, upInterrupted, upFailed] ∧ s.beginFault k.payload
      = stOK ∧ AwaitsResponse k [] s) ∧
    (∃ (k : Packet) (f : Nat) (s : State), s.serves = true ∧ s.standby = false ∧ k.chip = true ∧ k.ar = 0 ∧ k.len =
      256 ∧ s.boot.exam = false ∧ s.rd BOOT.STATE 0 ∈ [upIdle, upApplied, upInterrupted, upFailed] ∧ s.beginFault
      k.payload = f ∧ f ≠ stOK ∧ AwaitsResponse k [] s) ∧
    (∃ (k : Packet) (s : State), s.serves = true ∧ s.standby = false ∧ k.chip = true ∧ k.ar = 0 ∧ k.len = 256 ∧
      (s.boot.exam = true ∨ s.rd BOOT.STATE 0 ∉ [upIdle, upApplied, upInterrupted, upFailed]) ∧ AwaitsResponse k []
      s) ∧
    (∃ (k : Packet) (s : State), s.serves = true ∧ s.standby = false ∧ (k.chip = false ∨ k.ar ≠ 0 ∨ k.len ≠ 256) ∧
      AwaitsResponse k [] s) ∧
    (∃ (k : Packet) (s : State), s.serves = true ∧ s.standby = true ∧ AwaitsResponse k [] s) ∧
    (∃ (k : Packet) (s : State), s.serves = true ∧ s.standby = false ∧ dataForm k = true ∧ s.rd BOOT.STATE 0 =
      upReceiving ∧ s.pieceNext k = true ∧ AwaitsResponse k [] s) ∧
    (∃ (k : Packet) (s : State), s.serves = true ∧ s.standby = false ∧ dataForm k = true ∧ s.rd BOOT.STATE 0 =
      upReceiving ∧ s.pieceNext k = false ∧ AwaitsResponse k [] s) ∧
    (∃ (k : Packet) (s : State), s.serves = true ∧ s.standby = false ∧ dataForm k = true ∧ s.rd BOOT.STATE 0 ≠
      upReceiving ∧ AwaitsResponse k [] s) ∧
    (∃ (k : Packet) (s : State), s.serves = true ∧ s.standby = false ∧ dataForm k = false ∧ AwaitsResponse k [] s) ∧
    (∃ (k : Packet) (s : State), s.serves = true ∧ s.standby = true ∧ AwaitsResponse k [] s) ∧
    (∃ (k : Packet) (s : State), s.serves = true ∧ s.standby = false ∧ k.chip = true ∧ k.plain = true ∧ s.rd
      BOOT.STATE 0 = upReceiving ∧ s.stage.2.1.length = pkBody s.stage.1 ∧ (s.on BOOT.MODE 0 = false ∨ sha256
      s.stage.2.1 = pkBodyHash s.stage.1) ∧ AwaitsResponse k [] s) ∧
    (∃ (k : Packet) (s : State), s.serves = true ∧ s.standby = false ∧ k.chip = true ∧ k.plain = true ∧ s.rd
      BOOT.STATE 0 = upReceiving ∧ s.stage.2.1.length = pkBody s.stage.1 ∧ s.on BOOT.MODE 0 = true ∧ sha256
      s.stage.2.1 ≠ pkBodyHash s.stage.1 ∧ AwaitsResponse k [] s) ∧
    (∃ (k : Packet) (s : State), s.serves = true ∧ s.standby = false ∧ k.chip = true ∧ k.plain = true ∧ s.rd
      BOOT.STATE 0 = upReceiving ∧ s.stage.2.1.length ≠ pkBody s.stage.1 ∧ AwaitsResponse k [] s) ∧
    (∃ (k : Packet) (s : State), s.serves = true ∧ s.standby = false ∧ k.chip = true ∧ k.plain = true ∧ s.rd
      BOOT.STATE 0 ≠ upReceiving ∧ AwaitsResponse k [] s) ∧
    (∃ (k : Packet) (s : State), s.serves = true ∧ s.standby = false ∧ (k.chip = false ∨ k.plain = false) ∧
      AwaitsResponse k [] s) ∧
    (∃ (k : Packet) (s : State), s.serves = true ∧ s.standby = true ∧ AwaitsResponse k [] s) ∧
    (∃ (k : Packet) (s : State), s.serves = true ∧ s.standby = false ∧ k.chip = true ∧ k.plain = true ∧
      AwaitsResponse k (List.replicate 16 0) s) ∧
    (∃ (k : Packet) (s : State), s.serves = true ∧ s.standby = false ∧ (k.chip = false ∨ k.plain = false) ∧
      AwaitsResponse k [] s) ∧
    (∃ (k : Packet) (s : State), s.serves = true ∧ s.standby = true ∧ AwaitsResponse k [] s) ∧
    (∃ (k : Packet) (s : State), s.serves = true ∧ s.standby = false ∧ k.chip = true ∧ k.payload = [] ∧ k.ar ≤ 1 ∧
      s.rd BOOT.STATE 0 = upApplied ∧ AwaitsResponse k [] s) ∧
    (∃ (k : Packet) (s : State), s.serves = true ∧ s.standby = false ∧ k.chip = true ∧ k.payload = [] ∧ k.ar = 2 ∧
      s.rd BOOT.STATE 0 = upApplied ∧ s.rollsTo s.inactive = true) ∧
    (∃ (k : Packet) (s : State), s.serves = true ∧ s.standby = false ∧ k.chip = true ∧ k.payload = [] ∧ k.ar = 2 ∧
      s.rd BOOT.STATE 0 = upApplied ∧ s.rollsTo s.inactive = false ∧ AwaitsResponse k [] s) ∧
    (∃ (k : Packet) (s : State), s.serves = true ∧ s.standby = false ∧ k.chip = true ∧ k.payload = [] ∧ k.ar = 3 ∧
      s.rd BOOT.STATE 0 = upTrial ∧ AwaitsResponse k [] s) ∧
    (∃ (k : Packet) (s : State), s.serves = true ∧ s.standby = false ∧ k.chip = true ∧ k.payload = [] ∧ ((k.ar ≤ 2 ∧
      s.rd BOOT.STATE 0 ≠ upApplied) ∨ (k.ar = 3 ∧ s.rd BOOT.STATE 0 ≠ upTrial)) ∧ AwaitsResponse k [] s) ∧
    (∃ (k : Packet) (s : State), s.serves = true ∧ s.standby = false ∧ (k.chip = false ∨ k.payload.isEmpty = false ∨
      3 < k.ar) ∧ AwaitsResponse k [] s) ∧
    (∃ (k : Packet) (s : State), s.serves = true ∧ s.standby = true ∧ AwaitsResponse k [] s) ∧
    (∃ (k : Packet) (s : State), s.serves = true ∧ s.standby = false ∧ k.chip = true ∧ k.plain = true ∧ upReceiving ≤
      s.rd BOOT.STATE 0 ∧ s.rd BOOT.STATE 0 ≤ upApplied ∧ AwaitsResponse k [] s) ∧
    (∃ (k : Packet) (s : State), s.serves = true ∧ s.standby = false ∧ k.chip = true ∧ k.plain = true ∧ (s.rd
      BOOT.STATE 0 < upReceiving ∨ upApplied < s.rd BOOT.STATE 0) ∧ AwaitsResponse k [] s) ∧
    (∃ (k : Packet) (s : State), s.serves = true ∧ s.standby = false ∧ (k.chip = false ∨ k.plain = false) ∧
      AwaitsResponse k [] s) ∧
    (∃ (k : Packet) (s : State), s.serves = true ∧ s.standby = true ∧ AwaitsResponse k [] s) ∧
    (∃ (e : OtpEnv) (s : State), s.dev = .run ∧ s.on SYS.READY 0 = true ∧ s.on BOOT.AUTO_CONFIRM 0 = true ∧ s.rd
      BOOT.STATE 0 = upTrial ∧ (List.range 12).all s.coreRuns = true ∧ s.boot.forced = false) ∧
    (∃ (s : State), (s.dev ≠ .run ∨ s.on SYS.READY 0 = false ∨ s.on BOOT.AUTO_CONFIRM 0 = false ∨ s.rd BOOT.STATE 0 ≠
      upTrial ∨ (List.range 12).all s.coreRuns = false ∨ s.boot.forced = true)) ∧
    (∃ (out : List Byte) (s : State), s.serves = true ∧ s.rd BOOT.STATE 0 = upApplying ∧ s.boot.exam = false ∧ s.rd
      BOOT.DONE 0 + 1 < pkBlocks s.stage.1 ∧ blockOf (s.imageAt s.dir.active) s.stage.1 s.stage.2.1 (s.rd BOOT.DONE
      0) = .ok out) ∧
    (∃ (s : State), s.serves = true ∧ s.rd BOOT.STATE 0 = upApplying ∧ s.boot.exam = false ∧ s.rd BOOT.DONE 0 + 1 =
      pkBlocks s.stage.1) ∧
    (∃ (s : State), s.serves = true ∧ s.rd BOOT.STATE 0 = upApplying ∧ s.boot.exam = false ∧ pkBlocks s.stage.1 ≤
      s.rd BOOT.DONE 0) ∧
    (∃ (f : Nat) (s : State), s.serves = true ∧ s.rd BOOT.STATE 0 = upApplying ∧ s.boot.exam = false ∧ s.rd BOOT.DONE
      0 < pkBlocks s.stage.1 ∧ blockOf (s.imageAt s.dir.active) s.stage.1 s.stage.2.1 (s.rd BOOT.DONE 0) = .error f) ∧
    (∃ (out : List Byte) (s : State), s.serves = true ∧ s.rd BOOT.STATE 0 = upApplying ∧ s.boot.exam = false ∧ s.rd
      BOOT.DONE 0 < pkBlocks s.stage.1 ∧ blockOf (s.imageAt s.dir.active) s.stage.1 s.stage.2.1 (s.rd BOOT.DONE 0) =
      .ok out) ∧
    (∃ (s : State), (s.serves = false ∨ s.rd BOOT.STATE 0 ≠ upApplying ∨ s.boot.exam = true)) ∧
    (∃ (n : Nat) (s : State), s.serves = true ∧ s.boot.exam = true ∧ s.heldWhole = some n) ∧
    (∃ (s : State), s.serves = true ∧ s.boot.exam = true ∧ s.heldWhole = none) ∧
    (∃ (s : State), (s.serves = false ∨ s.boot.exam = false)) := by
  refine ⟨⟨(⟨1, 0, 0, 0xFFFF, BitVec.ofNat 32 (0), (swpk ++ [1, 0, 0x48, 0x32] ++ List.replicate 248 0), none⟩), (
      let s : State := wbase
      let s : State := { s with dev := .run }
      let s : State := s.flag SYS.READY 0 true
      let s : State := { s with boot := { s.boot with exam := false } }
      let s : State := s.flag BOOT.UPD_CHECK 0 false
      let s : State := s.wr BOOT.STATE 0 0
      s), ?_⟩,
    ⟨(⟨1, 0, 0, 0xFFFF, BitVec.ofNat 32 (0), List.replicate 256 0, none⟩), stBAD_ARG, (
      let s : State := wbase
      let s : State := { s with dev := .run }
      let s : State := s.flag SYS.READY 0 true
      let s : State := { s with boot := { s.boot with exam := false } }
      s), ?_⟩,
    ⟨(⟨1, 0, 0, 0xFFFF, BitVec.ofNat 32 (0), List.replicate 256 0, none⟩), (
      let s : State := wbase
      let s : State := { s with dev := .run }
      let s : State := s.flag SYS.READY 0 true
      let s : State := { s with boot := { s.boot with exam := true } }
      s), ?_⟩,
    ⟨(⟨1, 0, 0, 5, 0, [], none⟩), (
      let s : State := wbase
      let s : State := { s with dev := .run }
      let s : State := s.flag SYS.READY 0 true
      s), ?_⟩,
    ⟨(⟨1, 0, 0, 0xFFFF, 0, [], none⟩), (
      let s : State := wbase
      let s : State := { s with dev := .run }
      let s : State := s.flag SYS.READY 0 true
      let s : State := s.wr PAIR.PAIR_STATE 0 3
      s), ?_⟩,
    ⟨(⟨1, 0, 0, 0xFFFF, 0, [7], none⟩), (
      let s : State := wbase
      let s : State := { s with dev := .run }
      let s : State := s.flag SYS.READY 0 true
      let s : State := s.wr BOOT.STATE 0 (upReceiving)
      let s : State := { s with flash := { s.flash with stage := some ((List.replicate 16 0 ++ [2, 0, 0, 0, 1, 0, 0, 0]), [], false) } }
      s), ?_⟩,
    ⟨(⟨1, 0, 0, 0xFFFF, 9, [7], none⟩), (
      let s : State := wbase
      let s : State := { s with dev := .run }
      let s : State := s.flag SYS.READY 0 true
      let s : State := s.wr BOOT.STATE 0 (upReceiving)
      s), ?_⟩,
    ⟨(⟨1, 0, 0, 0xFFFF, 0, [7], none⟩), (
      let s : State := wbase
      let s : State := { s with dev := .run }
      let s : State := s.flag SYS.READY 0 true
      s), ?_⟩,
    ⟨(⟨1, 0, 0, 0xFFFF, 0, [], none⟩), (
      let s : State := wbase
      let s : State := { s with dev := .run }
      let s : State := s.flag SYS.READY 0 true
      s), ?_⟩,
    ⟨(⟨1, 0, 0, 0xFFFF, 0, [], none⟩), (
      let s : State := wbase
      let s : State := { s with dev := .run }
      let s : State := s.flag SYS.READY 0 true
      let s : State := s.wr PAIR.PAIR_STATE 0 3
      s), ?_⟩,
    ⟨(⟨1, 0, 0, 0xFFFF, 0, [], none⟩), (
      let s : State := wbase
      let s : State := { s with dev := .run }
      let s : State := s.flag SYS.READY 0 true
      let s : State := s.wr BOOT.STATE 0 (upReceiving)
      let s : State := s.flag BOOT.MODE 0 false
      s), ?_⟩,
    ⟨(⟨1, 0, 0, 0xFFFF, 0, [], none⟩), (
      let s : State := wbase
      let s : State := { s with dev := .run }
      let s : State := s.flag SYS.READY 0 true
      let s : State := s.wr BOOT.STATE 0 (upReceiving)
      let s : State := s.flag BOOT.MODE 0 true
      s), ?_⟩,
    ⟨(⟨1, 0, 0, 0xFFFF, 0, [], none⟩), (
      let s : State := wbase
      let s : State := { s with dev := .run }
      let s : State := s.flag SYS.READY 0 true
      let s : State := s.wr BOOT.STATE 0 (upReceiving)
      let s : State := { s with flash := { s.flash with stage := some ((List.replicate 16 0 ++ [2, 0, 0, 0, 1, 0, 0, 0]), [], false) } }
      s), ?_⟩,
    ⟨(⟨1, 0, 0, 0xFFFF, 0, [], none⟩), (
      let s : State := wbase
      let s : State := { s with dev := .run }
      let s : State := s.flag SYS.READY 0 true
      s), ?_⟩,
    ⟨(⟨1, 0, 0, 5, 0, [], none⟩), (
      let s : State := wbase
      let s : State := { s with dev := .run }
      let s : State := s.flag SYS.READY 0 true
      s), ?_⟩,
    ⟨(⟨1, 0, 0, 0xFFFF, 0, [], none⟩), (
      let s : State := wbase
      let s : State := { s with dev := .run }
      let s : State := s.flag SYS.READY 0 true
      let s : State := s.wr PAIR.PAIR_STATE 0 3
      s), ?_⟩,
    ⟨(⟨1, 0, 0, 0xFFFF, 0, [], none⟩), (
      let s : State := wbase
      let s : State := { s with dev := .run }
      let s : State := s.flag SYS.READY 0 true
      s), ?_⟩,
    ⟨(⟨1, 0, 0, 5, 0, [], none⟩), (
      let s : State := wbase
      let s : State := { s with dev := .run }
      let s : State := s.flag SYS.READY 0 true
      s), ?_⟩,
    ⟨(⟨1, 0, 0, 0xFFFF, 0, [], none⟩), (
      let s : State := wbase
      let s : State := { s with dev := .run }
      let s : State := s.flag SYS.READY 0 true
      let s : State := s.wr PAIR.PAIR_STATE 0 3
      s), ?_⟩,
    ⟨(⟨1, 0, 0, 0xFFFF, 0, [], none⟩), (
      let s : State := wbase
      let s : State := { s with dev := .run }
      let s : State := s.flag SYS.READY 0 true
      let s : State := s.wr BOOT.STATE 0 (upApplied)
      s), ?_⟩,
    ⟨(⟨1, 0, 0, 0xFFFF, BitVec.ofNat 32 (2), [], none⟩), (
      let s : State := wbase
      let s : State := { s with dev := .run }
      let s : State := s.flag SYS.READY 0 true
      let s : State := s.wr BOOT.STATE 0 (upApplied)
      s), ?_⟩,
    ⟨(⟨1, 0, 0, 0xFFFF, BitVec.ofNat 32 (2), [], none⟩), (
      let s : State := wbase
      let s : State := { s with dev := .run }
      let s : State := s.flag SYS.READY 0 true
      let s : State := s.wr BOOT.STATE 0 (upApplied)
      let s : State := { s with boot := { s.boot with run := 0 } }
      let s : State := { s with flash := { s.flash with slots := s.flash.slots.set 0 (List.range 400 |>.map fun i => BitVec.ofNat 8 i) } }
      s), ?_⟩,
    ⟨(⟨1, 0, 0, 0xFFFF, BitVec.ofNat 32 (3), [], none⟩), (
      let s : State := wbase
      let s : State := { s with dev := .run }
      let s : State := s.flag SYS.READY 0 true
      let s : State := s.wr BOOT.STATE 0 (upTrial)
      s), ?_⟩,
    ⟨(⟨1, 0, 0, 0xFFFF, 0, [], none⟩), (
      let s : State := wbase
      let s : State := { s with dev := .run }
      let s : State := s.flag SYS.READY 0 true
      s), ?_⟩,
    ⟨(⟨1, 0, 0, 5, 0, [], none⟩), (
      let s : State := wbase
      let s : State := { s with dev := .run }
      let s : State := s.flag SYS.READY 0 true
      s), ?_⟩,
    ⟨(⟨1, 0, 0, 0xFFFF, 0, [], none⟩), (
      let s : State := wbase
      let s : State := { s with dev := .run }
      let s : State := s.flag SYS.READY 0 true
      let s : State := s.wr PAIR.PAIR_STATE 0 3
      s), ?_⟩,
    ⟨(⟨1, 0, 0, 0xFFFF, 0, [], none⟩), (
      let s : State := wbase
      let s : State := { s with dev := .run }
      let s : State := s.flag SYS.READY 0 true
      let s : State := s.wr BOOT.STATE 0 1
      s), ?_⟩,
    ⟨(⟨1, 0, 0, 0xFFFF, 0, [], none⟩), (
      let s : State := wbase
      let s : State := { s with dev := .run }
      let s : State := s.flag SYS.READY 0 true
      let s : State := s.wr BOOT.STATE 0 0
      s), ?_⟩,
    ⟨(⟨1, 0, 0, 5, 0, [], none⟩), (
      let s : State := wbase
      let s : State := { s with dev := .run }
      let s : State := s.flag SYS.READY 0 true
      s), ?_⟩,
    ⟨(⟨1, 0, 0, 0xFFFF, 0, [], none⟩), (
      let s : State := wbase
      let s : State := { s with dev := .run }
      let s : State := s.flag SYS.READY 0 true
      let s : State := s.wr PAIR.PAIR_STATE 0 3
      s), ?_⟩,
    ⟨(⟨true, false⟩), (
      let e : OtpEnv := ⟨true, false⟩
      let s : State := wbase
      let s : State := { s with dev := .run }
      let s : State := s.flag SYS.READY 0 true
      let s : State := s.flag BOOT.AUTO_CONFIRM 0 true
      let s : State := s.wr BOOT.STATE 0 (upTrial)
      let s : State := { s with boot := { s.boot with forced := false } }
      let s : State := (List.range 12).foldl (fun (t : State) e => t.wr CORE.STATE e enRun) s
      s), ?_⟩,
    ⟨wbase, ?_⟩,
    ⟨(List.replicate 4096 0xAA), (
      let s : State := wbase
      let s : State := { s with dev := .run }
      let s : State := s.flag SYS.READY 0 true
      let s : State := s.wr BOOT.STATE 0 (upApplying)
      let s : State := { s with boot := { s.boot with exam := false } }
      let s : State := { s with flash := { s.flash with stage := some ((List.replicate 16 0 ++ [2, 0, 0, 0, 1, 0, 0, 0]), [1, 0, 4, 0, 0, 0, 0, 0, 0xC0, 0, 0x10, 0xAA] ++ leBytes 4 (crc32 (List.replicate 4096 0xAA)), true) } }
      s), ?_⟩,
    ⟨(
      let s : State := wbase
      let s : State := { s with dev := .run }
      let s : State := s.flag SYS.READY 0 true
      let s : State := s.wr BOOT.STATE 0 (upApplying)
      let s : State := { s with boot := { s.boot with exam := false } }
      let s : State := { s with flash := { s.flash with stage := some ((List.replicate 16 0 ++ [1, 0, 0, 0, 1, 0, 0, 0]), [], true) } }
      s), ?_⟩,
    ⟨(
      let s : State := wbase
      let s : State := { s with dev := .run }
      let s : State := s.flag SYS.READY 0 true
      let s : State := s.wr BOOT.STATE 0 (upApplying)
      let s : State := { s with boot := { s.boot with exam := false } }
      s), ?_⟩,
    ⟨stBAD_ARG, (
      let s : State := wbase
      let s : State := { s with dev := .run }
      let s : State := s.flag SYS.READY 0 true
      let s : State := s.wr BOOT.STATE 0 (upApplying)
      let s : State := { s with boot := { s.boot with exam := false } }
      let s : State := { s with flash := { s.flash with stage := some ((List.replicate 16 0 ++ [2, 0, 0, 0, 1, 0, 0, 0]), [], true) } }
      s), ?_⟩,
    ⟨(List.replicate 4096 0xAA), (
      let s : State := wbase
      let s : State := { s with dev := .run }
      let s : State := s.flag SYS.READY 0 true
      let s : State := s.wr BOOT.STATE 0 (upApplying)
      let s : State := { s with boot := { s.boot with exam := false } }
      let s : State := { s with flash := { s.flash with stage := some ((List.replicate 16 0 ++ [2, 0, 0, 0, 1, 0, 0, 0]), [1, 0, 4, 0, 0, 0, 0, 0, 0xC0, 0, 0x10, 0xAA] ++ leBytes 4 (crc32 (List.replicate 4096 0xAA)), true) } }
      s), ?_⟩,
    ⟨wbase, ?_⟩,
    ⟨0, (
      let s : State := wbase
      let s : State := { s with dev := .run }
      let s : State := s.flag SYS.READY 0 true
      let s : State := { s with boot := { s.boot with exam := true } }
      let s : State := { s with flash := { s.flash with stage := some ([], [], true), journal := [(0, 0, 0)] } }
      s), ?_⟩,
    ⟨(
      let s : State := wbase
      let s : State := { s with dev := .run }
      let s : State := s.flag SYS.READY 0 true
      let s : State := { s with boot := { s.boot with exam := true } }
      s), ?_⟩,
    ⟨wbase, ?_⟩⟩
  all_goals first | decide +kernel | (unfold AwaitsResponse; decide +kernel)

/-- States and operands that meet the hypotheses of CommandRingsAreServedInOrder, clause by clause. -/
theorem test_command_rings_are_served_in_order_witness :
    (∃ (k : Packet) (e : OtpEnv) (c : Instr) (s : State), s.serves = true ∧ s.ringHead 1 = some k ∧ s.mayStart 1 =
      true ∧ commandOf k e = some c) ∧
    (∃ (s : State), (s.ring 1).entries ≠ [] ∧ s.mayStart 1 = false) ∧
    (∃ (k : Packet) (e : OtpEnv) (c : Instr) (s : State), s.serves = true ∧ (s.ring 1).entries = [] ∧ s.ringHead 2 =
      some k ∧ s.mayStart 2 = true ∧ s.fabricHead 1 = none ∧ (s.ring 3).entries = [] ∧ s.fabricHead 2 = none ∧
      commandOf k e = some c) ∧
    (∃ (k : Packet) (e : OtpEnv) (c : Instr) (s : State), s.serves = true ∧ (s.ring 1).entries = [] ∧ s.ringHead 3 =
      some k ∧ s.mayStart 3 = true ∧ s.fabricHead 1 = none ∧ (s.ring 2).entries = [] ∧ s.fabricHead 2 = none ∧
      commandOf k e = some c) ∧
    (∃ (k : Packet) (e : OtpEnv) (c : Instr) (s : State), s.serves = true ∧ (s.ring 1).entries = [] ∧ s.ringHead 2 =
      some k ∧ s.mayStart 2 = true ∧ s.fabricHead 1 = none ∧ (s.ring 3).entries ≠ [] ∧ s.fabricHead 2 = none ∧
      s.served2 < 4 ∧ commandOf k e = some c) ∧
    (∃ (k : Packet) (e : OtpEnv) (c : Instr) (s : State), s.serves = true ∧ (s.ring 1).entries = [] ∧ s.ringHead 3 =
      some k ∧ s.mayStart 3 = true ∧ s.fabricHead 1 = none ∧ (s.ring 2).entries ≠ [] ∧ s.fabricHead 2 = none ∧ 4 ≤
      s.served2 ∧ commandOf k e = some c) ∧
    (∃ (s : State), s.serves = true ∧ (s.ring 1).entries = [] ∧ (s.ring 2).entries = [] ∧ (s.ring 3).entries = [] ∧
      s.fabricHead 1 = none ∧ s.fabricHead 2 = none) ∧
    (∃ (s : State), s.serves = false) ∧
    (∃ (k : Packet) (s : State), s.hostBoots = true ∧ s.ringHead 2 = some k ∧ s.mayStart 2 = true ∧ s.standby = false
      ∧ k.op = 0x43 ∧ k.chip = true ∧ k.plain = true ∧ AwaitsResponse k (List.replicate 16 0) s) ∧
    (∃ (k : Packet) (s : State), s.hostBoots = true ∧ s.ringHead 2 = some k ∧ s.mayStart 2 = true ∧ k.op = 0x41 ∧
      dataForm k = true ∧ s.rd BOOT.STATE 0 = upReceiving ∧ s.pieceNext k = true) ∧
    (∃ (k : Packet) (s : State), s.hostBoots = true ∧ s.ringHead 2 = some k ∧ s.mayStart 2 = true ∧ k.op.toNat ∉
      [0x01, 0x40, 0x41, 0x42, 0x43, 0x44] ∧ AwaitsResponse k [] s) ∧
    (∃ (k : Packet) (s : State), s.hostBoots = true ∧ s.ringHead 2 = some k ∧ s.mayStart 2 = true ∧ k.op = 0x44 ∧
      k.chip = true ∧ k.payload = [] ∧ k.ar ≤ 3 ∧ (k.ar ≠ 1 ∨ s.rd BOOT.STATE 0 ≠ upReceiving) ∧ AwaitsResponse k []
      s) ∧
    (∃ (s : State), (s.hostBoots = false ∨ s.mayStart 2 = false)) ∧
    (∃ (k : Packet) (s : State), s.dev = .recovery ∧ s.ringHead 2 = some k ∧ s.mayStart 2 = true ∧ s.standby = false
      ∧ k.op = 0x43 ∧ k.chip = true ∧ k.plain = true ∧ AwaitsResponse k (List.replicate 16 0) s) ∧
    (∃ (k : Packet) (s : State), s.dev = .recovery ∧ s.ringHead 2 = some k ∧ s.mayStart 2 = true ∧ k.op = 0x41 ∧
      dataForm k = true ∧ s.rd BOOT.STATE 0 = upReceiving ∧ s.pieceNext k = true) ∧
    (∃ (k : Packet) (s : State), s.dev = .recovery ∧ s.ringHead 2 = some k ∧ s.mayStart 2 = true ∧ k.op.toNat ∉
      [0x01, 0x40, 0x41, 0x42, 0x43, 0x44, 0x45, 0x50, 0x53] ∧ AwaitsResponse k [] s) ∧
    (∃ (s : State), (s.dev ≠ .recovery ∨ s.mayStart 2 = false)) := by
  refine ⟨⟨(⟨1, 0, 0, 0xFFFF, 0, [], none⟩), (⟨true, false⟩), (let k : Packet := ⟨1, 0, 0, 0xFFFF, 0, [], none⟩; let e : OtpEnv := ⟨true, false⟩; ((commandOf k e).getD (.nop k))), (
      let k : Packet := ⟨1, 0, 0, 0xFFFF, 0, [], none⟩
      let s : State := wbase
      let s : State := { s with dev := .run }
      let s : State := s.flag SYS.READY 0 true
      let s : State := s.setRing 1 { s.ring 1 with entries := [.pkt k 0] }
      s), ?_⟩,
    ⟨(
      let s : State := wbase
      let s : State := s.setRing 1 { s.ring 1 with entries := [.pkt ⟨1, 0, 0, 0xFFFF, 0, [], none⟩ 0] }
      let s : State := s.setRing 4 { s.ring 4 with entries := List.replicate 4096 (.pkt ⟨1, 0, 0, 0xFFFF, 0, [], none⟩ 0) }
      s), ?_⟩,
    ⟨(⟨1, 0, 0, 0xFFFF, 0, [], none⟩), (⟨true, false⟩), (let k : Packet := ⟨1, 0, 0, 0xFFFF, 0, [], none⟩; let e : OtpEnv := ⟨true, false⟩; ((commandOf k e).getD (.nop k))), (
      let k : Packet := ⟨1, 0, 0, 0xFFFF, 0, [], none⟩
      let s : State := wbase
      let s : State := { s with dev := .run }
      let s : State := s.flag SYS.READY 0 true
      let s : State := s.setRing 2 { s.ring 2 with entries := [.pkt k 0] }
      s), ?_⟩,
    ⟨(⟨1, 0, 0, 0xFFFF, 0, [], none⟩), (⟨true, false⟩), (let k : Packet := ⟨1, 0, 0, 0xFFFF, 0, [], none⟩; let e : OtpEnv := ⟨true, false⟩; ((commandOf k e).getD (.nop k))), (
      let k : Packet := ⟨1, 0, 0, 0xFFFF, 0, [], none⟩
      let s : State := wbase
      let s : State := { s with dev := .run }
      let s : State := s.flag SYS.READY 0 true
      let s : State := s.setRing 3 { s.ring 3 with entries := [.pkt k 0] }
      s), ?_⟩,
    ⟨(⟨1, 0, 0, 0xFFFF, 0, [], none⟩), (⟨true, false⟩), (let k : Packet := ⟨1, 0, 0, 0xFFFF, 0, [], none⟩; let e : OtpEnv := ⟨true, false⟩; ((commandOf k e).getD (.nop k))), (
      let k : Packet := ⟨1, 0, 0, 0xFFFF, 0, [], none⟩
      let s : State := wbase
      let s : State := { s with dev := .run }
      let s : State := s.flag SYS.READY 0 true
      let s : State := s.setRing 2 { s.ring 2 with entries := [.pkt k 0] }
      let s : State := s.setRing 3 { s.ring 3 with entries := [.pkt ⟨1, 0, 0, 0xFFFF, 0, [], none⟩ 0] }
      s), ?_⟩,
    ⟨(⟨1, 0, 0, 0xFFFF, 0, [], none⟩), (⟨true, false⟩), (let k : Packet := ⟨1, 0, 0, 0xFFFF, 0, [], none⟩; let e : OtpEnv := ⟨true, false⟩; ((commandOf k e).getD (.nop k))), (
      let k : Packet := ⟨1, 0, 0, 0xFFFF, 0, [], none⟩
      let s : State := wbase
      let s : State := { s with dev := .run }
      let s : State := s.flag SYS.READY 0 true
      let s : State := s.setRing 3 { s.ring 3 with entries := [.pkt k 0] }
      let s : State := s.setRing 2 { s.ring 2 with entries := [.pkt ⟨1, 0, 0, 0xFFFF, 0, [], none⟩ 0] }
      let s : State := { s with served2 := 4 }
      s), ?_⟩,
    ⟨(
      let s : State := wbase
      let s : State := { s with dev := .run }
      let s : State := s.flag SYS.READY 0 true
      s), ?_⟩,
    ⟨(
      let s : State := wbase
      let s : State := s.flag SYS.READY 0 false
      s), ?_⟩,
    ⟨(⟨1, 0, 0x43, 0xFFFF, 0, [], none⟩), (
      let k : Packet := ⟨1, 0, 0x43, 0xFFFF, 0, [], none⟩
      let s : State := wbase
      let s : State := s.setRing 2 { s.ring 2 with entries := [.pkt k 0] }
      let s : State := { s with dev := .boot }
      let s : State := s.wr BOOT.SOURCE 0 1
      s), ?_⟩,
    ⟨(⟨1, 0, 0x41, 0xFFFF, 0, [7], none⟩), (
      let k : Packet := ⟨1, 0, 0x41, 0xFFFF, 0, [7], none⟩
      let s : State := wbase
      let s : State := s.setRing 2 { s.ring 2 with entries := [.pkt k 0] }
      let s : State := s.wr BOOT.STATE 0 (upReceiving)
      let s : State := { s with dev := .boot }
      let s : State := s.wr BOOT.SOURCE 0 1
      let s : State := { s with flash := { s.flash with stage := some ((List.replicate 16 0 ++ [2, 0, 0, 0, 1, 0, 0, 0]), [], false) } }
      s), ?_⟩,
    ⟨(⟨1, 0, 0, 0xFFFF, 0, [], none⟩), (
      let k : Packet := ⟨1, 0, 0, 0xFFFF, 0, [], none⟩
      let s : State := wbase
      let s : State := s.setRing 2 { s.ring 2 with entries := [.pkt k 0] }
      let s : State := { s with dev := .boot }
      let s : State := s.wr BOOT.SOURCE 0 1
      s), ?_⟩,
    ⟨(⟨1, 0, 0x44, 0xFFFF, 0, [], none⟩), (
      let k : Packet := ⟨1, 0, 0x44, 0xFFFF, 0, [], none⟩
      let s : State := wbase
      let s : State := s.setRing 2 { s.ring 2 with entries := [.pkt k 0] }
      let s : State := { s with dev := .boot }
      let s : State := s.wr BOOT.SOURCE 0 1
      s), ?_⟩,
    ⟨wbase, ?_⟩,
    ⟨(⟨1, 0, 0x43, 0xFFFF, 0, [], none⟩), (
      let k : Packet := ⟨1, 0, 0x43, 0xFFFF, 0, [], none⟩
      let s : State := wbase
      let s : State := { s with dev := .recovery }
      let s : State := s.setRing 2 { s.ring 2 with entries := [.pkt k 0] }
      let s : State := { s with dev := .recovery }
      s), ?_⟩,
    ⟨(⟨1, 0, 0x41, 0xFFFF, 0, [7], none⟩), (
      let k : Packet := ⟨1, 0, 0x41, 0xFFFF, 0, [7], none⟩
      let s : State := wbase
      let s : State := { s with dev := .recovery }
      let s : State := s.setRing 2 { s.ring 2 with entries := [.pkt k 0] }
      let s : State := s.wr BOOT.STATE 0 (upReceiving)
      let s : State := { s with dev := .recovery }
      let s : State := { s with flash := { s.flash with stage := some ((List.replicate 16 0 ++ [2, 0, 0, 0, 1, 0, 0, 0]), [], false) } }
      s), ?_⟩,
    ⟨(⟨1, 0, 0x99, 0xFFFF, 0, [], none⟩), (
      let k : Packet := ⟨1, 0, 0x99, 0xFFFF, 0, [], none⟩
      let s : State := wbase
      let s : State := { s with dev := .recovery }
      let s : State := s.setRing 2 { s.ring 2 with entries := [.pkt k 0] }
      let s : State := { s with dev := .recovery }
      s), ?_⟩,
    ⟨wbase, ?_⟩⟩
  all_goals first | decide +kernel | (unfold AwaitsResponse; decide +kernel)

/-- States and operands that meet the hypotheses of BudgetShedsAndReadvertises, clause by clause. -/
theorem test_budget_sheds_and_readvertises_witness :
    (∃ (s : State), s.serves = true ∧ s.standby = false) ∧
    (∃ (p : Port) (s : State), s.isSrc p = true ∧ s.carriedByTwill p = true ∧ s.on BUDGET.HOLD 0 = false ∧ (s.port
      p).pe.caps ≠ [] ∧ (s.port p).pe.readvWant = true ∧ (s.port p).pe.capsDone = false ∧ s.idlePd p = true) ∧
    (∃ (p : Port) (s : State), s.isSrc p = true ∧ s.carriedByTwill p = true ∧ s.on BUDGET.HOLD 0 = false ∧ (s.port
      p).pe.caps ≠ [] ∧ (s.port p).pe.readvWant = false ∧ s.belowContract p = true ∧ (s.port p).pe.caps ≠
      s.offerObjects p) ∧
    (∃ (p : Port) (s : State), s.isSrc p = true ∧ s.carriedByTwill p = true ∧ s.on BUDGET.HOLD 0 = false ∧ (s.port
      p).pe.caps ≠ [] ∧ (s.port p).pe.readvWant = false ∧ s.belowContract p = false ∧ (s.offerObjects p).map objKind
      ≠ (s.port p).pe.caps.map objKind ∧ (s.port p).bud.readvAt ≤ s.up) ∧
    (∃ (p : Port) (s : State), s.isSrc p = true ∧ s.carriedByTwill p = true ∧ s.on BUDGET.HOLD 0 = false ∧ (s.port
      p).pe.caps ≠ [] ∧ (s.port p).pe.readvWant = false ∧ s.belowContract p = false ∧ (1000 * s.act
      BUDGET.READV_DELTA 0 + (s.port p).pe.pdpSent ≤ s.pdp p ∨ 1000 * s.act BUDGET.READV_DELTA 0 + s.pdp p ≤ (s.port
      p).pe.pdpSent) ∧ (s.port p).bud.readvAt ≤ s.up) ∧
    (∃ (p : Port) (l : List Port) (s : State), s.serves = true ∧ s.standby = false ∧ s.act BUDGET.SELF_SHED_EN 0 = 1
      ∧ s.act BUDGET.OVL_TICKS 0 ≤ s.bud.ovl ∧ s.on BUDGET.OVERLOAD 0 = true ∧ (s.grantOrder s.isSrc).reverse = p ::
      l ∧ s.bud.cap < ((s.grantOrder s.isSrc).map s.shedLoad).sum * 1000 ∧ s.aboveOffer p = true) ∧
    (∃ (p : Port) (s : State), s.serves = true ∧ (s.port p).bud.forced = true ∧ s.isSrc p = true ∧ s.belowContract p
      = true ∧ s.aboveOffer p = true) ∧
    (∃ (p : Port) (s : State), s.serves = true ∧ s.on BUDGET.VALID p = true ∧ s.rd BUDGET.SRC p = 0 ∧ s.act
      BUDGET.SHED_EXPIRY 0 ≠ 0) ∧
    (∃ (p : Port) (s : State), s.rd BUDGET.SRC p ≠ 0) := by
  refine ⟨⟨(
      let s : State := wbase
      let s : State := { s with dev := .run }
      let s : State := s.flag SYS.READY 0 true
      s), ?_⟩,
    ⟨0, (
      let p : Port := 0
      let s : State := wbase
      let s : State := s.flag CC.ATTACHED p true
      let s : State := s.wr CC.PWR_ROLE p 1
      let s : State := s.flag BUDGET.HOLD 0 false
      let s : State := (s.modPort (p) fun z => { z with pe := { z.pe with readvWant := true } })
      let s : State := (s.modPort (p) fun z => { z with pe := { z.pe with capsDone := false } })
      let s : State := (s.modPort p fun z => { z with pe := { z.pe with caps := [.fixed 5000 100] } })
      s), ?_⟩,
    ⟨0, (
      let p : Port := 0
      let s : State := wbase
      let s : State := s.flag CC.ATTACHED p true
      let s : State := s.wr CC.PWR_ROLE p 1
      let s : State := s.flag BUDGET.HOLD 0 false
      let s : State := (s.modPort (p) fun z => { z with pe := { z.pe with readvWant := false } })
      let s : State := (s.modPort p fun z => { z with pe := { z.pe with contract := some ⟨1, .fixed, 9000, 3000, 9000, .fixed 9000 3000⟩ } })
      let s : State := (s.modPort p fun z => { z with pe := { z.pe with caps := [.fixed 5000 100] } })
      s), ?_⟩,
    ⟨0, (
      let p : Port := 0
      let s : State := wbase
      let s : State := s.flag CC.ATTACHED p true
      let s : State := s.wr CC.PWR_ROLE p 1
      let s : State := s.flag BUDGET.HOLD 0 false
      let s : State := (s.modPort (p) fun z => { z with pe := { z.pe with readvWant := false } })
      let s : State := (s.modPort p fun z => { z with pe := { z.pe with contract := none } })
      let s : State := (s.modPort p fun z => { z with pe := { z.pe with caps := [.pps 1 2 3 false] } })
      let s : State := s.flag CC.CABLE_DISC_EN p true
      s), ?_⟩,
    ⟨0, (
      let p : Port := 0
      let s : State := wbase
      let s : State := s.flag CC.ATTACHED p true
      let s : State := s.wr CC.PWR_ROLE p 1
      let s : State := s.flag BUDGET.HOLD 0 false
      let s : State := (s.modPort (p) fun z => { z with pe := { z.pe with readvWant := false } })
      let s : State := (s.modPort p fun z => { z with pe := { z.pe with contract := none } })
      let s : State := (s.modPort p fun z => { z with pe := { z.pe with caps := [.pps 1 2 3 false] } })
      let s : State := (s.modPort p fun z => { z with pe := { z.pe with pdpSent := 10 ^ 9 } })
      s), ?_⟩,
    ⟨0, ([]), (
      let s : State := wbase
      let s : State := { s with dev := .run }
      let s : State := s.flag SYS.READY 0 true
      let s : State := s.flag BUDGET.OVERLOAD 0 true
      let s : State := s.flag CC.ATTACHED 0 true
      let s : State := s.wr CC.PWR_ROLE 0 1
      let s : State := { s with bud := { s.bud with ovl := 100, cap := 0 } }
      let s : State := (s.modPort 0 fun z => { z with bud := { z.bud with mw := 5000 } })
      let s : State := { s with bud := { s.bud with act := s.bud.act.put (BUDGET.SELF_SHED_EN.key 0) 0 1 } }
      s), ?_⟩,
    ⟨0, (
      let p : Port := 0
      let s : State := wbase
      let s : State := { s with dev := .run }
      let s : State := s.flag SYS.READY 0 true
      let s : State := (s.modPort (p) fun z => { z with bud := { z.bud with forced := true } })
      let s : State := s.flag CC.ATTACHED p true
      let s : State := s.wr CC.PWR_ROLE p 1
      let s : State := (s.modPort p fun z => { z with pe := { z.pe with contract := some ⟨1, .fixed, 9000, 3000, 9000, .fixed 9000 3000⟩ } })
      s), ?_⟩,
    ⟨0, (
      let p : Port := 0
      let s : State := wbase
      let s : State := { s with dev := .run }
      let s : State := s.flag SYS.READY 0 true
      let s : State := s.flag BUDGET.VALID p true
      let s : State := s.wr BUDGET.SRC p (0)
      let s : State := { s with bud := { s.bud with act := s.bud.act.put (BUDGET.SHED_EXPIRY.key 0) 0 5 } }
      s), ?_⟩,
    ⟨0, (
      let p : Port := 0
      let s : State := wbase
      let s : State := s.wr BUDGET.SRC p 1
      s), ?_⟩⟩
  all_goals first | decide +kernel | (unfold AwaitsResponse; decide +kernel)

/-- States and operands that meet the hypotheses of MessagesAreAnswered, clause by clause. -/
theorem test_messages_are_answered_witness :
    (∃ (p : Port) (m : PdMsg) (s : State), s.listens p = true ∧ s.unread p m = true ∧ s.refuses p m = true) ∧
    (∃ (p : Port) (s : State), s.listens p = true ∧ s.unread p .vdm = true) ∧
    (∃ (p : Port) (s : State), s.listens p = true ∧ s.unread p .vdm = true) ∧
    (∃ (p : Port) (s : State), s.listens p = true ∧ s.unread p .vdm = true ∧ (s.port p).pe.readvWant = false ∧
      (s.port p).pe.sinkCapDue = false) ∧
    (∃ (p : Port) (s : State), s.listens p = true ∧ s.unread p .getBatteryCap = true) ∧
    (∃ (p : Port) (s : State), s.listens p = true ∧ s.unread p .getBatteryStatus = true) ∧
    (∃ (p : Port) (s : State), s.listens p = true ∧ s.unread p .getManufacturerInfo = true) ∧
    (∃ (p : Port) (s : State), s.listens p = true ∧ s.unread p .getSourceCapExt = true) ∧
    (∃ (p : Port) (s : State), s.listens p = true ∧ s.unread p .getPpsStatus = true) ∧
    (∃ (p : Port) (s : State), s.listens p = true ∧ s.unread p .getSourceInfo = true) ∧
    (∃ (p : Port) (s : State), s.listens p = true ∧ s.unread p .getRevision = true) ∧
    (∃ (p : Port) (s : State), s.listens p = true ∧ s.unread p .getStatus = true) ∧
    (∃ (p : Port) (s : State), s.listens p = true ∧ s.unread p .getSinkCap = true ∧ s.canSink p = true) ∧
    (∃ (p : Port) (s : State), s.listens p = true ∧ s.unread p .getSinkCapExt = true ∧ s.canSink p = true) ∧
    (∃ (p : Port) (s : State), s.listens p = true ∧ s.unread p .extControl = true ∧ s.canSink p = true) ∧
    (∃ (p : Port) (q : CapQuery) (s : State), s.listens p = true ∧ s.unread p
      (match q with | .spr => .getSinkCap | .extended => .getSinkCapExt | .epr => .extControl) = true ∧ s.canSink p =
      false) ∧
    (∃ (p : Port) (s : State), s.listens p = true ∧ s.unread p .getSourceCap = true ∧ s.isSrc p = true) ∧
    (∃ (p : Port) (s : State), s.listens p = true ∧ s.unread p .getSourceCap = true ∧ s.isSrc p = false ∧ s.rd
      CC.ROLE p = 2) ∧
    (∃ (p : Port) (s : State), s.listens p = true ∧ s.unread p .getSourceCap = true ∧ s.isSrc p = false ∧ s.rd
      CC.ROLE p ≠ 2) ∧
    (∃ (p : Port) (s : State), s.listens p = true ∧ s.unread p .extControl = true ∧ (s.isSrc p = false ∨ s.on
      PD.EPR_MODE p = false)) ∧
    (∃ (p : Port) (s : State), s.listens p = true ∧ s.unread p .extControl = true ∧ s.isSrc p = true ∧ s.on
      PD.EPR_MODE p = true) := by
  refine ⟨⟨0, .gotoMin, (
      let p : Port := 0
      let s : State := wbase
      let s : State := s.flag CC.ATTACHED p true
      let s : State := s.flag PD.PD_EN p true
      let s : State := s.flag PD.SHADOW p false
      let s : State := (s.modPort p fun z => { z with phy := PhySt.reset, pe := { z.pe with trans := none }, swap := { z.swap with step := .none } })
      let s : State := { s with pair := { s.pair with unacked := [] } }
      s), ?_⟩,
    ⟨0, (
      let p : Port := 0
      let s : State := wbase
      let s : State := s.flag CC.ATTACHED p true
      let s : State := s.flag PD.PD_EN p true
      let s : State := s.flag PD.SHADOW p false
      let s : State := (s.modPort p fun z => { z with phy := PhySt.reset, pe := { z.pe with trans := none }, swap := { z.swap with step := .none } })
      let s : State := { s with pair := { s.pair with unacked := [] } }
      s), ?_⟩,
    ⟨0, (
      let p : Port := 0
      let s : State := wbase
      let s : State := s.flag CC.ATTACHED p true
      let s : State := s.flag PD.PD_EN p true
      let s : State := s.flag PD.SHADOW p false
      let s : State := (s.modPort p fun z => { z with phy := PhySt.reset, pe := { z.pe with trans := none }, swap := { z.swap with step := .none } })
      let s : State := { s with pair := { s.pair with unacked := [] } }
      s), ?_⟩,
    ⟨0, (
      let p : Port := 0
      let s : State := wbase
      let s : State := s.flag CC.ATTACHED p true
      let s : State := s.flag PD.PD_EN p true
      let s : State := s.flag PD.SHADOW p false
      let s : State := (s.modPort p fun z => { z with phy := PhySt.reset, pe := { z.pe with trans := none }, swap := { z.swap with step := .none } })
      let s : State := { s with pair := { s.pair with unacked := [] } }
      let s : State := (s.modPort (p) fun z => { z with pe := { z.pe with readvWant := false } })
      let s : State := (s.modPort (p) fun z => { z with pe := { z.pe with sinkCapDue := false } })
      s), ?_⟩,
    ⟨0, (
      let p : Port := 0
      let s : State := wbase
      let s : State := s.flag CC.ATTACHED p true
      let s : State := s.flag PD.PD_EN p true
      let s : State := s.flag PD.SHADOW p false
      let s : State := (s.modPort p fun z => { z with phy := PhySt.reset, pe := { z.pe with trans := none }, swap := { z.swap with step := .none } })
      let s : State := { s with pair := { s.pair with unacked := [] } }
      s), ?_⟩,
    ⟨0, (
      let p : Port := 0
      let s : State := wbase
      let s : State := s.flag CC.ATTACHED p true
      let s : State := s.flag PD.PD_EN p true
      let s : State := s.flag PD.SHADOW p false
      let s : State := (s.modPort p fun z => { z with phy := PhySt.reset, pe := { z.pe with trans := none }, swap := { z.swap with step := .none } })
      let s : State := { s with pair := { s.pair with unacked := [] } }
      s), ?_⟩,
    ⟨0, (
      let p : Port := 0
      let s : State := wbase
      let s : State := s.flag CC.ATTACHED p true
      let s : State := s.flag PD.PD_EN p true
      let s : State := s.flag PD.SHADOW p false
      let s : State := (s.modPort p fun z => { z with phy := PhySt.reset, pe := { z.pe with trans := none }, swap := { z.swap with step := .none } })
      let s : State := { s with pair := { s.pair with unacked := [] } }
      s), ?_⟩,
    ⟨0, (
      let p : Port := 0
      let s : State := wbase
      let s : State := s.flag CC.ATTACHED p true
      let s : State := s.flag PD.PD_EN p true
      let s : State := s.flag PD.SHADOW p false
      let s : State := (s.modPort p fun z => { z with phy := PhySt.reset, pe := { z.pe with trans := none }, swap := { z.swap with step := .none } })
      let s : State := { s with pair := { s.pair with unacked := [] } }
      s), ?_⟩,
    ⟨0, (
      let p : Port := 0
      let s : State := wbase
      let s : State := s.flag CC.ATTACHED p true
      let s : State := s.flag PD.PD_EN p true
      let s : State := s.flag PD.SHADOW p false
      let s : State := (s.modPort p fun z => { z with phy := PhySt.reset, pe := { z.pe with trans := none }, swap := { z.swap with step := .none } })
      let s : State := { s with pair := { s.pair with unacked := [] } }
      s), ?_⟩,
    ⟨0, (
      let p : Port := 0
      let s : State := wbase
      let s : State := s.flag CC.ATTACHED p true
      let s : State := s.flag PD.PD_EN p true
      let s : State := s.flag PD.SHADOW p false
      let s : State := (s.modPort p fun z => { z with phy := PhySt.reset, pe := { z.pe with trans := none }, swap := { z.swap with step := .none } })
      let s : State := { s with pair := { s.pair with unacked := [] } }
      s), ?_⟩,
    ⟨0, (
      let p : Port := 0
      let s : State := wbase
      let s : State := s.flag CC.ATTACHED p true
      let s : State := s.flag PD.PD_EN p true
      let s : State := s.flag PD.SHADOW p false
      let s : State := (s.modPort p fun z => { z with phy := PhySt.reset, pe := { z.pe with trans := none }, swap := { z.swap with step := .none } })
      let s : State := { s with pair := { s.pair with unacked := [] } }
      s), ?_⟩,
    ⟨0, (
      let p : Port := 0
      let s : State := wbase
      let s : State := s.flag CC.ATTACHED p true
      let s : State := s.flag PD.PD_EN p true
      let s : State := s.flag PD.SHADOW p false
      let s : State := (s.modPort p fun z => { z with phy := PhySt.reset, pe := { z.pe with trans := none }, swap := { z.swap with step := .none } })
      let s : State := { s with pair := { s.pair with unacked := [] } }
      s), ?_⟩,
    ⟨0, (
      let p : Port := 0
      let s : State := wbase
      let s : State := s.flag CC.ATTACHED p true
      let s : State := s.flag PD.PD_EN p true
      let s : State := s.flag PD.SHADOW p false
      let s : State := (s.modPort p fun z => { z with phy := PhySt.reset, pe := { z.pe with trans := none }, swap := { z.swap with step := .none } })
      let s : State := { s with pair := { s.pair with unacked := [] } }
      let s : State := s.wr CC.ROLE p 3
      let s : State := (s.modPort p fun z => { z with profile := { z.profile with snk := true } })
      s), ?_⟩,
    ⟨0, (
      let p : Port := 0
      let s : State := wbase
      let s : State := s.flag CC.ATTACHED p true
      let s : State := s.flag PD.PD_EN p true
      let s : State := s.flag PD.SHADOW p false
      let s : State := (s.modPort p fun z => { z with phy := PhySt.reset, pe := { z.pe with trans := none }, swap := { z.swap with step := .none } })
      let s : State := { s with pair := { s.pair with unacked := [] } }
      let s : State := s.wr CC.ROLE p 3
      let s : State := (s.modPort p fun z => { z with profile := { z.profile with snk := true } })
      s), ?_⟩,
    ⟨0, (
      let p : Port := 0
      let s : State := wbase
      let s : State := s.flag CC.ATTACHED p true
      let s : State := s.flag PD.PD_EN p true
      let s : State := s.flag PD.SHADOW p false
      let s : State := (s.modPort p fun z => { z with phy := PhySt.reset, pe := { z.pe with trans := none }, swap := { z.swap with step := .none } })
      let s : State := { s with pair := { s.pair with unacked := [] } }
      let s : State := s.wr CC.ROLE p 3
      let s : State := (s.modPort p fun z => { z with profile := { z.profile with snk := true } })
      s), ?_⟩,
    ⟨0, .spr, (
      let p : Port := 0
      let s : State := wbase
      let s : State := s.flag CC.ATTACHED p true
      let s : State := s.flag PD.PD_EN p true
      let s : State := s.flag PD.SHADOW p false
      let s : State := (s.modPort p fun z => { z with phy := PhySt.reset, pe := { z.pe with trans := none }, swap := { z.swap with step := .none } })
      let s : State := { s with pair := { s.pair with unacked := [] } }
      s), ?_⟩,
    ⟨0, (
      let p : Port := 0
      let s : State := wbase
      let s : State := s.flag CC.ATTACHED p true
      let s : State := s.flag PD.PD_EN p true
      let s : State := s.flag PD.SHADOW p false
      let s : State := (s.modPort p fun z => { z with phy := PhySt.reset, pe := { z.pe with trans := none }, swap := { z.swap with step := .none } })
      let s : State := { s with pair := { s.pair with unacked := [] } }
      let s : State := s.flag CC.ATTACHED p true
      let s : State := s.wr CC.PWR_ROLE p 1
      s), ?_⟩,
    ⟨0, (
      let p : Port := 0
      let s : State := wbase
      let s : State := s.flag CC.ATTACHED p true
      let s : State := s.flag PD.PD_EN p true
      let s : State := s.flag PD.SHADOW p false
      let s : State := (s.modPort p fun z => { z with phy := PhySt.reset, pe := { z.pe with trans := none }, swap := { z.swap with step := .none } })
      let s : State := { s with pair := { s.pair with unacked := [] } }
      let s : State := s.wr CC.ROLE p (2)
      s), ?_⟩,
    ⟨0, (
      let p : Port := 0
      let s : State := wbase
      let s : State := s.flag CC.ATTACHED p true
      let s : State := s.flag PD.PD_EN p true
      let s : State := s.flag PD.SHADOW p false
      let s : State := (s.modPort p fun z => { z with phy := PhySt.reset, pe := { z.pe with trans := none }, swap := { z.swap with step := .none } })
      let s : State := { s with pair := { s.pair with unacked := [] } }
      s), ?_⟩,
    ⟨0, (
      let p : Port := 0
      let s : State := wbase
      let s : State := s.flag CC.ATTACHED p true
      let s : State := s.flag PD.PD_EN p true
      let s : State := s.flag PD.SHADOW p false
      let s : State := (s.modPort p fun z => { z with phy := PhySt.reset, pe := { z.pe with trans := none }, swap := { z.swap with step := .none } })
      let s : State := { s with pair := { s.pair with unacked := [] } }
      s), ?_⟩,
    ⟨0, (
      let p : Port := 0
      let s : State := wbase
      let s : State := s.flag CC.ATTACHED p true
      let s : State := s.flag PD.PD_EN p true
      let s : State := s.flag PD.SHADOW p false
      let s : State := (s.modPort p fun z => { z with phy := PhySt.reset, pe := { z.pe with trans := none }, swap := { z.swap with step := .none } })
      let s : State := { s with pair := { s.pair with unacked := [] } }
      let s : State := s.flag CC.ATTACHED p true
      let s : State := s.wr CC.PWR_ROLE p 1
      let s : State := s.flag PD.EPR_MODE p true
      s), ?_⟩⟩
  all_goals first | decide +kernel | (unfold AwaitsResponse; decide +kernel)

/-- States and operands that meet the hypotheses of SourceContractsAreMade, clause by clause. -/
theorem test_source_contracts_are_made_witness :
    (∃ (p : Port) (b : Bool) (s : State), s.isSrc p = true ∧ s.on PD.PD_EN p = true ∧ (s.gst p = gOn ∨ s.gst p =
      gOpenWait) ∧ s.pastAccept p = false ∧ s.powerSwapping p = false ∧ (b = true ∨ ((s.port p).pe.await ≠ .cableId ∧
      s.mayDiscover p = false))) ∧
    (∃ (p : Port) (s : State), s.isSrc p = true ∧ s.rd PD.PD_STATE p = pdNegotiating ∧ (s.port p).pe.capsDone = false
      ∧ 0 < (s.port p).pe.nCaps ∧ (s.port p).pe.nCaps < nCapsCount) ∧
    (∃ (p : Port) (s : State), s.isSrc p = true ∧ s.rd PD.PD_STATE p = pdNegotiating ∧ (s.port p).pe.capsDone = false
      ∧ 0 < (s.port p).pe.nCaps ∧ nCapsCount ≤ (s.port p).pe.nCaps) ∧
    (∃ (p : Port) (r : Rdo) (c : Contract) (s : State), s.listens p = true ∧ s.unread p .request = true ∧ s.isSrc p =
      true ∧ (s.port p).pe.epr = .none ∧ s.evaluate p r false .zero = .accept c) ∧
    (∃ (p : Port) (r : Rdo) (n : Nat) (s : State), s.listens p = true ∧ s.unread p .request = true ∧ s.isSrc p = true
      ∧ (s.port p).pe.epr = .none ∧ s.evaluate p r false .zero = .reject n) ∧
    (∃ (p : Port) (r : Rdo) (c : Contract) (s : State), s.listens p = true ∧ s.unread p .request = true ∧ s.isSrc p =
      true ∧ (s.port p).pe.epr = .none ∧ s.evaluate p r false .zero = .rejectReadv c) ∧
    (∃ (p : Port) (r : Rdo) (c : Contract) (s : State), s.listens p = true ∧ s.unread p .request = true ∧ s.isSrc p =
      true ∧ (s.port p).pe.epr = .none ∧ s.evaluate p r false .zero = .wait c) ∧
    (∃ (p : Port) (r : Rdo) (s : State), s.listens p = true ∧ s.unread p .request = true ∧ s.isSrc p = true ∧ (s.port
      p).pe.epr = .none ∧ s.evaluate p r false .zero = .softReset) ∧
    (∃ (p : Port) (r : Rdo) (o : Pdo) (c : Contract) (s : State), s.listens p = true ∧ s.unread p .eprRequest = true
      ∧ s.isSrc p = true ∧ (s.port p).pe.epr = .none ∧ s.evaluate p r true o = .accept c) ∧
    (∃ (p : Port) (r : Rdo) (o : Pdo) (n : Nat) (s : State), s.listens p = true ∧ s.unread p .eprRequest = true ∧
      s.isSrc p = true ∧ (s.port p).pe.epr = .none ∧ s.evaluate p r true o = .reject n) ∧
    (∃ (p : Port) (r : Rdo) (o : Pdo) (c : Contract) (s : State), s.listens p = true ∧ s.unread p .eprRequest = true
      ∧ s.isSrc p = true ∧ (s.port p).pe.epr = .none ∧ s.evaluate p r true o = .rejectReadv c) ∧
    (∃ (p : Port) (r : Rdo) (o : Pdo) (c : Contract) (s : State), s.listens p = true ∧ s.unread p .eprRequest = true
      ∧ s.isSrc p = true ∧ (s.port p).pe.epr = .none ∧ s.evaluate p r true o = .wait c) ∧
    (∃ (p : Port) (r : Rdo) (o : Pdo) (s : State), s.listens p = true ∧ s.unread p .eprRequest = true ∧ s.isSrc p =
      true ∧ (s.port p).pe.epr = .none ∧ s.evaluate p r true o = .softReset) ∧
    (∃ (p : Port) (s : State), s.listens p = true ∧ s.unread p .request = true ∧ s.isSrc p = true ∧ (s.port p).pe.epr
      ≠ .none) ∧
    (∃ (p : Port) (s : State), s.listens p = true ∧ s.unread p .eprRequest = true ∧ s.isSrc p = true ∧ (s.port
      p).pe.epr ≠ .none) ∧
    (∃ (p : Port) (x : Trans) (s : State), (s.port p).cc.fastOpened = false ∧ (s.port p).swap.step ≠ .srcHold ∧
      (s.port p).pe.trans = some x ∧ s.isSrc p = true ∧ x.phase = .waiting ∧ x.next.mv < 65536) ∧
    (∃ (p : Port) (s : State), (s.port p).cc.fastOpened = false ∧ (s.port p).swap.step = .srcHold) ∧
    (∃ (p : Port) (s : State), (s.port p).cc.fastOpened = true) ∧
    (∃ (p : Port) (x : Trans) (s : State), (s.port p).pe.trans = some x ∧ s.isSrc p = true ∧ x.phase = .ramping) ∧
    (∃ (p : Port) (x : Trans) (v : Nat) (s : State), (s.port p).pe.trans = some x ∧ s.isSrc p = true ∧ x.phase =
      .settling ∧ inBand x.next v = true ∧ s.on CC.CC_OPEN_Q p = true) ∧
    (∃ (p : Port) (x : Trans) (v : Nat) (s : State), (s.port p).pe.trans = some x ∧ s.isSrc p = true ∧ x.phase =
      .settling ∧ inBand x.next v = true ∧ s.on CC.CC_OPEN_Q p = false) ∧
    (∃ (p : Port) (x : Trans) (v : Nat) (s : State), (s.port p).pe.trans = some x ∧ s.isSrc p = true ∧ x.phase =
      .settling ∧ inBand x.next v = false ∧ s.on CC.CC_OPEN_Q p = false ∧ s.on PD.PD_EN p = true ∧ s.on PD.SHADOW p =
      false ∧ s.carriedByTwill p = true) ∧
    (∃ (p : Port) (c : Contract) (v : Nat) (s : State), (s.port p).pe.contract = some c ∧ s.isSrc p = true ∧ c.kind =
      .pps ∧ v < c.vmin ∧ s.on PD.PD_EN p = true ∧ s.on PD.SHADOW p = false ∧ s.carriedByTwill p = true) ∧
    (∃ (p : Port) (c : Contract) (s : State), (s.port p).pe.contract = some c ∧ s.supervising p = true ∧ (s.port
      p).pe.ppsTimer = true ∧ s.on PD.PD_EN p = true ∧ s.on PD.SHADOW p = false ∧ s.carriedByTwill p = true) ∧
    (∃ (p : Port) (c : Contract) (s : State), (s.port p).pe.contract = some c ∧ s.supervising p = true ∧ (s.port
      p).pe.eprTimer = true ∧ s.on PD.PD_EN p = true ∧ s.on PD.SHADOW p = false ∧ s.carriedByTwill p = true) := by
  refine ⟨⟨0, true, (
      let p : Port := 0
      let s : State := wbase
      let s : State := s.flag CC.ATTACHED p true
      let s : State := s.wr CC.PWR_ROLE p 1
      let s : State := s.flag PD.PD_EN p true
      let s : State := s.wr GUARD.STATE p gOn
      s), ?_⟩,
    ⟨0, (
      let p : Port := 0
      let s : State := wbase
      let s : State := s.flag CC.ATTACHED p true
      let s : State := s.wr CC.PWR_ROLE p 1
      let s : State := s.wr PD.PD_STATE p (pdNegotiating)
      let s : State := (s.modPort (p) fun z => { z with pe := { z.pe with capsDone := false } })
      let s : State := (s.modPort p fun z => { z with pe := { z.pe with nCaps := 1 } })
      s), ?_⟩,
    ⟨0, (
      let p : Port := 0
      let s : State := wbase
      let s : State := s.flag CC.ATTACHED p true
      let s : State := s.wr CC.PWR_ROLE p 1
      let s : State := s.wr PD.PD_STATE p (pdNegotiating)
      let s : State := (s.modPort (p) fun z => { z with pe := { z.pe with capsDone := false } })
      let s : State := (s.modPort p fun z => { z with pe := { z.pe with nCaps := 99 } })
      s), ?_⟩,
    ⟨0, (⟨1, 0, 300, false, false, false⟩), (⟨1, .fixed, 9000, 3000, 9000, .fixed 9000 3000⟩), (
      let p : Port := 0
      let s : State := wbase
      let s : State := s.flag CC.ATTACHED p true
      let s : State := s.flag PD.PD_EN p true
      let s : State := s.flag PD.SHADOW p false
      let s : State := (s.modPort p fun z => { z with phy := PhySt.reset, pe := { z.pe with trans := none }, swap := { z.swap with step := .none } })
      let s : State := { s with pair := { s.pair with unacked := [] } }
      let s : State := s.flag CC.ATTACHED p true
      let s : State := s.wr CC.PWR_ROLE p 1
      let s : State := (s.modPort (p) fun z => { z with pe := { z.pe with epr := .none } })
      let s : State := s.wr BUDGET.P_OFF p 1000
      let s : State := s.wr BUDGET.I_OFF p 5000
      let s : State := (s.modPort p fun z => { z with pe := { z.pe with caps := [.fixed 9000 3000] } })
      s), ?_⟩,
    ⟨0, (⟨0, 0, 0, false, false, false⟩), 1, (
      let p : Port := 0
      let s : State := wbase
      let s : State := s.flag CC.ATTACHED p true
      let s : State := s.flag PD.PD_EN p true
      let s : State := s.flag PD.SHADOW p false
      let s : State := (s.modPort p fun z => { z with phy := PhySt.reset, pe := { z.pe with trans := none }, swap := { z.swap with step := .none } })
      let s : State := { s with pair := { s.pair with unacked := [] } }
      let s : State := s.flag CC.ATTACHED p true
      let s : State := s.wr CC.PWR_ROLE p 1
      let s : State := (s.modPort (p) fun z => { z with pe := { z.pe with epr := .none } })
      s), ?_⟩,
    ⟨0, (⟨1, 0, 300, false, false, false⟩), (⟨1, .fixed, 9000, 3000, 9000, .fixed 9000 3000⟩), (
      let p : Port := 0
      let s : State := wbase
      let s : State := s.flag CC.ATTACHED p true
      let s : State := s.flag PD.PD_EN p true
      let s : State := s.flag PD.SHADOW p false
      let s : State := (s.modPort p fun z => { z with phy := PhySt.reset, pe := { z.pe with trans := none }, swap := { z.swap with step := .none } })
      let s : State := { s with pair := { s.pair with unacked := [] } }
      let s : State := s.flag CC.ATTACHED p true
      let s : State := s.wr CC.PWR_ROLE p 1
      let s : State := (s.modPort (p) fun z => { z with pe := { z.pe with epr := .none } })
      let s : State := s.wr BUDGET.P_OFF p 1000
      let s : State := s.wr BUDGET.I_OFF p 5000
      let s : State := (s.modPort p fun z => { z with pe := { z.pe with caps := [.fixed 9000 3000] } })
      let s : State := s.wr BUDGET.P_OFF p 0
      s), ?_⟩,
    ⟨0, (⟨1, 0, 300, false, false, false⟩), (⟨1, .fixed, 9000, 3000, 9000, .fixed 9000 3000⟩), (
      let p : Port := 0
      let s : State := wbase
      let s : State := s.flag CC.ATTACHED p true
      let s : State := s.flag PD.PD_EN p true
      let s : State := s.flag PD.SHADOW p false
      let s : State := (s.modPort p fun z => { z with phy := PhySt.reset, pe := { z.pe with trans := none }, swap := { z.swap with step := .none } })
      let s : State := { s with pair := { s.pair with unacked := [] } }
      let s : State := s.flag CC.ATTACHED p true
      let s : State := s.wr CC.PWR_ROLE p 1
      let s : State := (s.modPort (p) fun z => { z with pe := { z.pe with epr := .none } })
      let s : State := s.wr BUDGET.P_OFF p 1000
      let s : State := s.wr BUDGET.I_OFF p 5000
      let s : State := (s.modPort p fun z => { z with pe := { z.pe with caps := [.fixed 9000 3000] } })
      let s : State := s.flag BUDGET.HOLD 0 true
      s), ?_⟩,
    ⟨0, (⟨1, 0, 300, false, false, false⟩), (
      let p : Port := 0
      let s : State := wbase
      let s : State := s.flag CC.ATTACHED p true
      let s : State := s.flag PD.PD_EN p true
      let s : State := s.flag PD.SHADOW p false
      let s : State := (s.modPort p fun z => { z with phy := PhySt.reset, pe := { z.pe with trans := none }, swap := { z.swap with step := .none } })
      let s : State := { s with pair := { s.pair with unacked := [] } }
      let s : State := s.flag CC.ATTACHED p true
      let s : State := s.wr CC.PWR_ROLE p 1
      let s : State := (s.modPort (p) fun z => { z with pe := { z.pe with epr := .none } })
      let s : State := s.wr BUDGET.P_OFF p 1000
      let s : State := s.wr BUDGET.I_OFF p 5000
      let s : State := (s.modPort p fun z => { z with pe := { z.pe with caps := [.fixed 9000 3000] } })
      let s : State := s.flag PD.EPR_MODE p true
      s), ?_⟩,
    ⟨0, (⟨1, 0, 300, false, false, false⟩), (.fixed 9000 3000), (⟨1, .fixed, 9000, 3000, 9000, .fixed 9000 3000⟩), (
      let p : Port := 0
      let s : State := wbase
      let s : State := s.flag CC.ATTACHED p true
      let s : State := s.flag PD.PD_EN p true
      let s : State := s.flag PD.SHADOW p false
      let s : State := (s.modPort p fun z => { z with phy := PhySt.reset, pe := { z.pe with trans := none }, swap := { z.swap with step := .none } })
      let s : State := { s with pair := { s.pair with unacked := [] } }
      let s : State := s.flag CC.ATTACHED p true
      let s : State := s.wr CC.PWR_ROLE p 1
      let s : State := (s.modPort (p) fun z => { z with pe := { z.pe with epr := .none } })
      let s : State := s.wr BUDGET.P_OFF p 1000
      let s : State := s.wr BUDGET.I_OFF p 5000
      let s : State := (s.modPort p fun z => { z with pe := { z.pe with caps := [.fixed 9000 3000] } })
      let s : State := s.flag PD.EPR_MODE p true
      s), ?_⟩,
    ⟨0, (⟨0, 0, 0, false, false, false⟩), (.fixed 9000 3000), 1, (
      let p : Port := 0
      let s : State := wbase
      let s : State := s.flag CC.ATTACHED p true
      let s : State := s.flag PD.PD_EN p true
      let s : State := s.flag PD.SHADOW p false
      let s : State := (s.modPort p fun z => { z with phy := PhySt.reset, pe := { z.pe with trans := none }, swap := { z.swap with step := .none } })
      let s : State := { s with pair := { s.pair with unacked := [] } }
      let s : State := s.flag CC.ATTACHED p true
      let s : State := s.wr CC.PWR_ROLE p 1
      let s : State := (s.modPort (p) fun z => { z with pe := { z.pe with epr := .none } })
      let s : State := s.flag PD.EPR_MODE p true
      s), ?_⟩,
    ⟨0, (⟨1, 0, 300, false, false, false⟩), (.fixed 9000 3000), (⟨1, .fixed, 9000, 3000, 9000, .fixed 9000 3000⟩), (
      let p : Port := 0
      let s : State := wbase
      let s : State := s.flag CC.ATTACHED p true
      let s : State := s.flag PD.PD_EN p true
      let s : State := s.flag PD.SHADOW p false
      let s : State := (s.modPort p fun z => { z with phy := PhySt.reset, pe := { z.pe with trans := none }, swap := { z.swap with step := .none } })
      let s : State := { s with pair := { s.pair with unacked := [] } }
      let s : State := s.flag CC.ATTACHED p true
      let s : State := s.wr CC.PWR_ROLE p 1
      let s : State := (s.modPort (p) fun z => { z with pe := { z.pe with epr := .none } })
      let s : State := s.wr BUDGET.P_OFF p 1000
      let s : State := s.wr BUDGET.I_OFF p 5000
      let s : State := (s.modPort p fun z => { z with pe := { z.pe with caps := [.fixed 9000 3000] } })
      let s : State := s.wr BUDGET.P_OFF p 0
      let s : State := s.flag PD.EPR_MODE p true
      s), ?_⟩,
    ⟨0, (⟨1, 0, 300, false, false, false⟩), (.fixed 9000 3000), (⟨1, .fixed, 9000, 3000, 9000, .fixed 9000 3000⟩), (
      let p : Port := 0
      let s : State := wbase
      let s : State := s.flag CC.ATTACHED p true
      let s : State := s.flag PD.PD_EN p true
      let s : State := s.flag PD.SHADOW p false
      let s : State := (s.modPort p fun z => { z with phy := PhySt.reset, pe := { z.pe with trans := none }, swap := { z.swap with step := .none } })
      let s : State := { s with pair := { s.pair with unacked := [] } }
      let s : State := s.flag CC.ATTACHED p true
      let s : State := s.wr CC.PWR_ROLE p 1
      let s : State := (s.modPort (p) fun z => { z with pe := { z.pe with epr := .none } })
      let s : State := s.wr BUDGET.P_OFF p 1000
      let s : State := s.wr BUDGET.I_OFF p 5000
      let s : State := (s.modPort p fun z => { z with pe := { z.pe with caps := [.fixed 9000 3000] } })
      let s : State := s.flag BUDGET.HOLD 0 true
      let s : State := s.flag PD.EPR_MODE p true
      s), ?_⟩,
    ⟨0, (⟨1, 0, 300, false, false, false⟩), (.fixed 9000 3000), (
      let p : Port := 0
      let s : State := wbase
      let s : State := s.flag CC.ATTACHED p true
      let s : State := s.flag PD.PD_EN p true
      let s : State := s.flag PD.SHADOW p false
      let s : State := (s.modPort p fun z => { z with phy := PhySt.reset, pe := { z.pe with trans := none }, swap := { z.swap with step := .none } })
      let s : State := { s with pair := { s.pair with unacked := [] } }
      let s : State := s.flag CC.ATTACHED p true
      let s : State := s.wr CC.PWR_ROLE p 1
      let s : State := (s.modPort (p) fun z => { z with pe := { z.pe with epr := .none } })
      let s : State := s.wr BUDGET.P_OFF p 1000
      let s : State := s.wr BUDGET.I_OFF p 5000
      let s : State := (s.modPort p fun z => { z with pe := { z.pe with caps := [.fixed 9000 3000] } })
      let s : State := s.flag PD.EPR_MODE p false
      s), ?_⟩,
    ⟨0, (
      let p : Port := 0
      let s : State := wbase
      let s : State := s.flag CC.ATTACHED p true
      let s : State := s.flag PD.PD_EN p true
      let s : State := s.flag PD.SHADOW p false
      let s : State := (s.modPort p fun z => { z with phy := PhySt.reset, pe := { z.pe with trans := none }, swap := { z.swap with step := .none } })
      let s : State := { s with pair := { s.pair with unacked := [] } }
      let s : State := s.flag CC.ATTACHED p true
      let s : State := s.wr CC.PWR_ROLE p 1
      let s : State := (s.modPort p fun z => { z with pe := { z.pe with epr := .acked } })
      s), ?_⟩,
    ⟨0, (
      let p : Port := 0
      let s : State := wbase
      let s : State := s.flag CC.ATTACHED p true
      let s : State := s.flag PD.PD_EN p true
      let s : State := s.flag PD.SHADOW p false
      let s : State := (s.modPort p fun z => { z with phy := PhySt.reset, pe := { z.pe with trans := none }, swap := { z.swap with step := .none } })
      let s : State := { s with pair := { s.pair with unacked := [] } }
      let s : State := s.flag CC.ATTACHED p true
      let s : State := s.wr CC.PWR_ROLE p 1
      let s : State := (s.modPort p fun z => { z with pe := { z.pe with epr := .acked } })
      s), ?_⟩,
    ⟨0, (⟨.waiting, 5000, ⟨1, .fixed, 9000, 3000, 9000, .fixed 9000 3000⟩, ⟨1, 0, 300, false, false, false⟩⟩), (
      let p : Port := 0
      let x : Trans := ⟨.waiting, 5000, ⟨1, .fixed, 9000, 3000, 9000, .fixed 9000 3000⟩, ⟨1, 0, 300, false, false, false⟩⟩
      let s : State := wbase
      let s : State := (s.modPort (p) fun z => { z with cc := { z.cc with fastOpened := false } })
      let s : State := (s.modPort (p) fun z => { z with pe := { z.pe with trans := some x } })
      let s : State := s.flag CC.ATTACHED p true
      let s : State := s.wr CC.PWR_ROLE p 1
      s), ?_⟩,
    ⟨0, (
      let p : Port := 0
      let s : State := wbase
      let s : State := (s.modPort (p) fun z => { z with cc := { z.cc with fastOpened := false } })
      let s : State := (s.modPort (p) fun z => { z with swap := { z.swap with step := .srcHold } })
      s), ?_⟩,
    ⟨0, (
      let p : Port := 0
      let s : State := wbase
      let s : State := (s.modPort (p) fun z => { z with cc := { z.cc with fastOpened := true } })
      s), ?_⟩,
    ⟨0, (⟨.ramping, 5000, ⟨1, .fixed, 9000, 3000, 9000, .fixed 9000 3000⟩, ⟨1, 0, 300, false, false, false⟩⟩), (
      let p : Port := 0
      let x : Trans := ⟨.ramping, 5000, ⟨1, .fixed, 9000, 3000, 9000, .fixed 9000 3000⟩, ⟨1, 0, 300, false, false, false⟩⟩
      let s : State := wbase
      let s : State := (s.modPort (p) fun z => { z with pe := { z.pe with trans := some x } })
      let s : State := s.flag CC.ATTACHED p true
      let s : State := s.wr CC.PWR_ROLE p 1
      s), ?_⟩,
    ⟨0, (⟨.settling, 5000, ⟨1, .fixed, 9000, 3000, 9000, .fixed 9000 3000⟩, ⟨1, 0, 300, false, false, false⟩⟩), 9000, (
      let p : Port := 0
      let x : Trans := ⟨.settling, 5000, ⟨1, .fixed, 9000, 3000, 9000, .fixed 9000 3000⟩, ⟨1, 0, 300, false, false, false⟩⟩
      let s : State := wbase
      let s : State := (s.modPort (p) fun z => { z with pe := { z.pe with trans := some x } })
      let s : State := s.flag CC.ATTACHED p true
      let s : State := s.wr CC.PWR_ROLE p 1
      let s : State := s.flag CC.CC_OPEN_Q p true
      s), ?_⟩,
    ⟨0, (⟨.settling, 5000, ⟨1, .fixed, 9000, 3000, 9000, .fixed 9000 3000⟩, ⟨1, 0, 300, false, false, false⟩⟩), 9000, (
      let p : Port := 0
      let x : Trans := ⟨.settling, 5000, ⟨1, .fixed, 9000, 3000, 9000, .fixed 9000 3000⟩, ⟨1, 0, 300, false, false, false⟩⟩
      let s : State := wbase
      let s : State := (s.modPort (p) fun z => { z with pe := { z.pe with trans := some x } })
      let s : State := s.flag CC.ATTACHED p true
      let s : State := s.wr CC.PWR_ROLE p 1
      let s : State := s.flag CC.CC_OPEN_Q p false
      s), ?_⟩,
    ⟨0, (⟨.settling, 5000, ⟨1, .fixed, 9000, 3000, 9000, .fixed 9000 3000⟩, ⟨1, 0, 300, false, false, false⟩⟩), 0, (
      let p : Port := 0
      let x : Trans := ⟨.settling, 5000, ⟨1, .fixed, 9000, 3000, 9000, .fixed 9000 3000⟩, ⟨1, 0, 300, false, false, false⟩⟩
      let s : State := wbase
      let s : State := (s.modPort (p) fun z => { z with pe := { z.pe with trans := some x } })
      let s : State := s.flag CC.ATTACHED p true
      let s : State := s.wr CC.PWR_ROLE p 1
      let s : State := s.flag CC.CC_OPEN_Q p false
      let s : State := s.flag PD.PD_EN p true
      let s : State := s.flag PD.SHADOW p false
      s), ?_⟩,
    ⟨0, (⟨1, .pps, 9000, 3000, 5000, .pps 5000 11000 3000 false⟩), 0, (
      let p : Port := 0
      let c : Contract := ⟨1, .pps, 9000, 3000, 5000, .pps 5000 11000 3000 false⟩
      let s : State := wbase
      let s : State := (s.modPort (p) fun z => { z with pe := { z.pe with contract := some c } })
      let s : State := s.flag CC.ATTACHED p true
      let s : State := s.wr CC.PWR_ROLE p 1
      let s : State := s.flag PD.PD_EN p true
      let s : State := s.flag PD.SHADOW p false
      s), ?_⟩,
    ⟨0, (⟨1, .fixed, 9000, 3000, 9000, .fixed 9000 3000⟩), (
      let p : Port := 0
      let c : Contract := ⟨1, .fixed, 9000, 3000, 9000, .fixed 9000 3000⟩
      let s : State := wbase
      let s : State := (s.modPort (p) fun z => { z with pe := { z.pe with contract := some c } })
      let s : State := s.flag CC.ATTACHED p true
      let s : State := s.wr CC.PWR_ROLE p 1
      let s : State := (s.modPort (p) fun z => { z with pe := { z.pe with ppsTimer := true } })
      let s : State := s.flag PD.PD_EN p true
      let s : State := s.flag PD.SHADOW p false
      s), ?_⟩,
    ⟨0, (⟨1, .fixed, 9000, 3000, 9000, .fixed 9000 3000⟩), (
      let p : Port := 0
      let c : Contract := ⟨1, .fixed, 9000, 3000, 9000, .fixed 9000 3000⟩
      let s : State := wbase
      let s : State := (s.modPort (p) fun z => { z with pe := { z.pe with contract := some c } })
      let s : State := s.flag CC.ATTACHED p true
      let s : State := s.wr CC.PWR_ROLE p 1
      let s : State := (s.modPort (p) fun z => { z with pe := { z.pe with eprTimer := true } })
      let s : State := s.flag PD.PD_EN p true
      let s : State := s.flag PD.SHADOW p false
      s), ?_⟩⟩
  all_goals first | decide +kernel | (unfold AwaitsResponse; decide +kernel)

/-- States and operands that meet the hypotheses of SinkContractsAreMade, clause by clause. -/
theorem test_sink_contracts_are_made_witness :
    (∃ (p : Port) (s : State), s.listens p = true ∧ s.unread p (if s.on PD.EPR_MODE p then .eprSourceCaps else
      .sourceCaps) = true ∧ s.isSnk p = true) ∧
    (∃ (p : Port) (s : State), s.listens p = true ∧ s.unread p (if s.on PD.EPR_MODE p then .eprSourceCaps else
      .sourceCaps) = true ∧ s.isSnk p = true ∧ s.island = none) ∧
    (∃ (p : Port) (s : State), s.listens p = true ∧ s.unread p (if s.on PD.EPR_MODE p then .eprSourceCaps else
      .sourceCaps) = true ∧ s.isSnk p = false) ∧
    (∃ (p : Port) (s : State), s.isSnk p = true ∧ s.rd PD.PD_STATE p = pdWaitCaps ∧ s.on PD.PD_EN p = true ∧ s.on
      PD.SHADOW p = false ∧ s.carriedByTwill p = true ∧ (s.port p).pe.hrCount < nHardResetCount) ∧
    (∃ (p : Port) (s : State), s.isSnk p = true ∧ s.rd PD.PD_STATE p = pdWaitCaps ∧ s.on PD.PD_EN p = true ∧
      nHardResetCount ≤ (s.port p).pe.hrCount) ∧
    (∃ (p : Port) (x : Trans) (s : State), s.isSnk p = true ∧ (s.port p).pe.trans = some x ∧ x.phase = .waiting ∧
      s.on PD.PD_EN p = true ∧ s.on PD.SHADOW p = false ∧ s.carriedByTwill p = true ∧ (s.port p).pe.hrCount <
      nHardResetCount) ∧
    (∃ (p : Port) (x : Trans) (s : State), s.isSnk p = true ∧ (s.port p).pe.trans = some x ∧ x.phase = .waiting ∧
      nHardResetCount ≤ (s.port p).pe.hrCount) ∧
    (∃ (p : Port) (x : Trans) (s : State), s.isSnk p = true ∧ (s.port p).pe.trans = some x ∧ x.phase = .accepted ∧
      s.takes p .accept = true ∧ s.unread p .accept = true ∧ (s.port p).phy.chunkTx = none) ∧
    (∃ (p : Port) (x : Trans) (s : State), s.isSnk p = true ∧ (s.port p).pe.trans = some x ∧ x.phase = .waiting ∧
      s.takes p .psRdy = true ∧ s.unread p .psRdy = true ∧ (s.port p).phy.chunkTx = none) ∧
    (∃ (p : Port) (s : State), s.isSnk p = true ∧ s.explicit p = true ∧ (s.port p).pe.trans = none ∧ s.rd
      PD.TX_RESULT p ≠ txHeld ∧ s.on PD.EPR_MODE p = true) ∧
    (∃ (p : Port) (c : Contract) (s : State), s.isSnk p = true ∧ s.explicit p = true ∧ (s.port p).pe.trans = none ∧
      s.rd PD.TX_RESULT p ≠ txHeld ∧ (s.port p).pe.contract = some c ∧ c.kind = .pps) := by
  refine ⟨⟨0, (
      let p : Port := 0
      let s : State := wbase
      let s : State := s.flag CC.ATTACHED p true
      let s : State := s.flag PD.PD_EN p true
      let s : State := s.flag PD.SHADOW p false
      let s : State := (s.modPort p fun z => { z with phy := PhySt.reset, pe := { z.pe with trans := none }, swap := { z.swap with step := .none } })
      let s : State := { s with pair := { s.pair with unacked := [] } }
      let s : State := s.flag CC.ATTACHED p true
      let s : State := s.wr CC.PWR_ROLE p 2
      s), ?_⟩,
    ⟨0, (
      let p : Port := 0
      let s : State := wbase
      let s : State := s.flag CC.ATTACHED p true
      let s : State := s.flag PD.PD_EN p true
      let s : State := s.flag PD.SHADOW p false
      let s : State := (s.modPort p fun z => { z with phy := PhySt.reset, pe := { z.pe with trans := none }, swap := { z.swap with step := .none } })
      let s : State := { s with pair := { s.pair with unacked := [] } }
      let s : State := s.flag CC.ATTACHED p true
      let s : State := s.wr CC.PWR_ROLE p 2
      s), ?_⟩,
    ⟨0, (
      let p : Port := 0
      let s : State := wbase
      let s : State := s.flag CC.ATTACHED p true
      let s : State := s.flag PD.PD_EN p true
      let s : State := s.flag PD.SHADOW p false
      let s : State := (s.modPort p fun z => { z with phy := PhySt.reset, pe := { z.pe with trans := none }, swap := { z.swap with step := .none } })
      let s : State := { s with pair := { s.pair with unacked := [] } }
      s), ?_⟩,
    ⟨0, (
      let p : Port := 0
      let s : State := wbase
      let s : State := s.flag CC.ATTACHED p true
      let s : State := s.wr CC.PWR_ROLE p 2
      let s : State := s.wr PD.PD_STATE p (pdWaitCaps)
      let s : State := s.flag PD.PD_EN p true
      let s : State := s.flag PD.SHADOW p false
      s), ?_⟩,
    ⟨0, (
      let p : Port := 0
      let s : State := wbase
      let s : State := s.flag CC.ATTACHED p true
      let s : State := s.wr CC.PWR_ROLE p 2
      let s : State := s.wr PD.PD_STATE p (pdWaitCaps)
      let s : State := s.flag PD.PD_EN p true
      let s : State := (s.modPort p fun z => { z with pe := { z.pe with hrCount := 9 } })
      s), ?_⟩,
    ⟨0, (⟨.waiting, 5000, ⟨1, .fixed, 9000, 3000, 9000, .fixed 9000 3000⟩, ⟨1, 0, 300, false, false, false⟩⟩), (
      let p : Port := 0
      let x : Trans := ⟨.waiting, 5000, ⟨1, .fixed, 9000, 3000, 9000, .fixed 9000 3000⟩, ⟨1, 0, 300, false, false, false⟩⟩
      let s : State := wbase
      let s : State := s.flag CC.ATTACHED p true
      let s : State := s.wr CC.PWR_ROLE p 2
      let s : State := (s.modPort (p) fun z => { z with pe := { z.pe with trans := some x } })
      let s : State := s.flag PD.PD_EN p true
      let s : State := s.flag PD.SHADOW p false
      s), ?_⟩,
    ⟨0, (⟨.waiting, 5000, ⟨1, .fixed, 9000, 3000, 9000, .fixed 9000 3000⟩, ⟨1, 0, 300, false, false, false⟩⟩), (
      let p : Port := 0
      let x : Trans := ⟨.waiting, 5000, ⟨1, .fixed, 9000, 3000, 9000, .fixed 9000 3000⟩, ⟨1, 0, 300, false, false, false⟩⟩
      let s : State := wbase
      let s : State := s.flag CC.ATTACHED p true
      let s : State := s.wr CC.PWR_ROLE p 2
      let s : State := (s.modPort (p) fun z => { z with pe := { z.pe with trans := some x } })
      let s : State := (s.modPort p fun z => { z with pe := { z.pe with hrCount := 9 } })
      s), ?_⟩,
    ⟨0, (⟨.accepted, 5000, ⟨1, .fixed, 9000, 3000, 9000, .fixed 9000 3000⟩, ⟨1, 0, 300, false, false, false⟩⟩), (
      let p : Port := 0
      let x : Trans := ⟨.accepted, 5000, ⟨1, .fixed, 9000, 3000, 9000, .fixed 9000 3000⟩, ⟨1, 0, 300, false, false, false⟩⟩
      let s : State := wbase
      let s : State := s.flag CC.ATTACHED p true
      let s : State := s.wr CC.PWR_ROLE p 2
      let s : State := (s.modPort (p) fun z => { z with pe := { z.pe with trans := some x } })
      let s : State := s.flag CC.ATTACHED p true
      let s : State := s.flag PD.PD_EN p true
      let s : State := (s.modPort (p) fun z => { z with phy := { z.phy with chunkTx := none } })
      s), ?_⟩,
    ⟨0, (⟨.waiting, 5000, ⟨1, .fixed, 9000, 3000, 9000, .fixed 9000 3000⟩, ⟨1, 0, 300, false, false, false⟩⟩), (
      let p : Port := 0
      let x : Trans := ⟨.waiting, 5000, ⟨1, .fixed, 9000, 3000, 9000, .fixed 9000 3000⟩, ⟨1, 0, 300, false, false, false⟩⟩
      let s : State := wbase
      let s : State := s.flag CC.ATTACHED p true
      let s : State := s.wr CC.PWR_ROLE p 2
      let s : State := (s.modPort (p) fun z => { z with pe := { z.pe with trans := some x } })
      let s : State := s.flag CC.ATTACHED p true
      let s : State := s.flag PD.PD_EN p true
      let s : State := (s.modPort (p) fun z => { z with phy := { z.phy with chunkTx := none } })
      s), ?_⟩,
    ⟨0, (
      let p : Port := 0
      let s : State := wbase
      let s : State := s.flag CC.ATTACHED p true
      let s : State := s.wr CC.PWR_ROLE p 2
      let s : State := s.wr PD.CONTRACT p 2
      let s : State := (s.modPort (p) fun z => { z with pe := { z.pe with trans := none } })
      let s : State := s.flag PD.EPR_MODE p true
      s), ?_⟩,
    ⟨0, (⟨1, .pps, 9000, 3000, 5000, .pps 5000 11000 3000 false⟩), (
      let p : Port := 0
      let c : Contract := ⟨1, .pps, 9000, 3000, 5000, .pps 5000 11000 3000 false⟩
      let s : State := wbase
      let s : State := s.flag CC.ATTACHED p true
      let s : State := s.wr CC.PWR_ROLE p 2
      let s : State := s.wr PD.CONTRACT p 2
      let s : State := (s.modPort (p) fun z => { z with pe := { z.pe with trans := none } })
      let s : State := (s.modPort (p) fun z => { z with pe := { z.pe with contract := some c } })
      s), ?_⟩⟩
  all_goals first | decide +kernel | (unfold AwaitsResponse; decide +kernel)

/-- States and operands that meet the hypotheses of EprModeIsEnteredAndLeft, clause by clause. -/
theorem test_epr_mode_is_entered_and_left_witness :
    (∃ (p : Port) (s : State), s.listens p = true ∧ s.unread p .eprMode = true ∧ s.rev2 p = false ∧ s.isSrc p = true
      ∧ s.explicit p = true ∧ s.on PD.EPR_MODE p = false ∧ (s.port p).pe.epr = .none ∧ (s.port p).pe.eprCapRdo =
      false) ∧
    (∃ (p : Port) (s : State), s.listens p = true ∧ s.unread p .eprMode = true ∧ s.rev2 p = false ∧ s.isSrc p = true
      ∧ s.explicit p = true ∧ s.on PD.EPR_MODE p = false ∧ (s.port p).pe.epr = .none ∧ (s.port p).pe.eprCapRdo =
      true) ∧
    (∃ (p : Port) (s : State), s.listens p = true ∧ s.unread p .eprMode = true ∧ s.rev2 p = false ∧ s.isSrc p = true
      ∧ s.explicit p = true ∧ s.on PD.EPR_MODE p = false ∧ (s.port p).pe.epr = .none ∧ (s.port p).pe.eprCapRdo = true
      ∧ ((s.prof p).epr = false ∨ (s.eprObjects p true).isEmpty = true ∨ s.on PD.VCONN_SRC p = false)) ∧
    (∃ (p : Port) (s : State), s.listens p = true ∧ s.unread p .eprMode = true ∧ s.rev2 p = false ∧ s.isSrc p = true
      ∧ s.explicit p = true ∧ s.on PD.EPR_MODE p = false ∧ (s.port p).pe.epr = .none ∧ (s.port p).pe.eprCapRdo = true
      ∧ (s.prof p).epr = true ∧ (s.eprObjects p true).isEmpty = false ∧ s.on PD.VCONN_SRC p = true ∧ s.on
      CC.EPR_CABLE p = true) ∧
    (∃ (p : Port) (s : State), s.listens p = true ∧ s.unread p .eprMode = true ∧ s.rev2 p = false ∧ s.isSrc p = true
      ∧ s.explicit p = true ∧ s.on PD.EPR_MODE p = false ∧ (s.port p).pe.epr = .none ∧ (s.port p).pe.eprCapRdo = true
      ∧ (s.prof p).epr = true ∧ (s.eprObjects p true).isEmpty = false ∧ s.on PD.VCONN_SRC p = true ∧ s.on
      CC.EPR_CABLE p = false ∧ (s.port p).pe.await = .cableId) ∧
    (∃ (p : Port) (s : State), s.listens p = true ∧ s.unread p .eprMode = true ∧ s.rev2 p = false ∧ (s.isSrc p =
      false ∨ s.explicit p = false ∨ s.on PD.EPR_MODE p = true ∨ (s.port p).pe.epr ≠ .none)) ∧
    (∃ (p : Port) (s : State), s.listens p = true ∧ s.unread p .eprMode = true ∧ s.rev2 p = true) ∧
    (∃ (p : Port) (s : State), s.listens p = true ∧ s.unread p .eprMode = true ∧ s.rev2 p = false ∧ s.on PD.EPR_MODE
      p = true ∧ s.inEprObject p = false) ∧
    (∃ (p : Port) (s : State), s.listens p = true ∧ s.unread p .eprMode = true ∧ s.rev2 p = false ∧ s.on PD.EPR_MODE
      p = true ∧ s.inEprObject p = true) ∧
    (∃ (p : Port) (s : State), s.listens p = true ∧ s.unread p .eprMode = true ∧ s.rev2 p = false ∧ s.on PD.EPR_MODE
      p = false) ∧
    (∃ (p : Port) (s : State), s.isSrc p = true ∧ s.on PD.EPR_MODE p = true ∧ s.idlePd p = true ∧ (s.on CC.EPR_CABLE
      p = false ∨ (s.stored p).epr = false ∨ (s.eprObjects p true).isEmpty = true) ∧ s.inEprObject p = false) ∧
    (∃ (p : Port) (s : State), s.isSrc p = true ∧ s.on PD.EPR_MODE p = true ∧ s.idlePd p = true ∧ (s.on CC.EPR_CABLE
      p = false ∨ (s.stored p).epr = false ∨ (s.eprObjects p true).isEmpty = true) ∧ s.inEprObject p = true) ∧
    (∃ (p : Port) (s : State), s.on PD.EPR_MODE p = true ∧ (s.port p).pe.eprLeaving = true ∧ s.inEprObject p = true ∧
      s.on CC.ATTACHED p = true ∧ s.on PD.PD_EN p = true ∧ s.on PD.SHADOW p = false ∧ s.carriedByTwill p = true) ∧
    (∃ (p : Port) (s : State), s.listens p = true ∧ s.unread p .extControl = true ∧ s.rev2 p = false ∧ s.on
      PD.EPR_MODE p = true ∧ s.isSrc p = true) ∧
    (∃ (p : Port) (s : State), s.listens p = true ∧ s.unread p .extControl = true ∧ s.rev2 p = false ∧ (s.on
      PD.EPR_MODE p = false ∨ s.isSrc p = false)) := by
  refine ⟨⟨0, (
      let p : Port := 0
      let s : State := wbase
      let s : State := s.flag CC.ATTACHED p true
      let s : State := s.flag PD.PD_EN p true
      let s : State := s.flag PD.SHADOW p false
      let s : State := (s.modPort p fun z => { z with phy := PhySt.reset, pe := { z.pe with trans := none }, swap := { z.swap with step := .none } })
      let s : State := { s with pair := { s.pair with unacked := [] } }
      let s : State := s.wr PD.NEG_REV p 2
      let s : State := s.flag CC.ATTACHED p true
      let s : State := s.wr CC.PWR_ROLE p 1
      let s : State := s.wr PD.CONTRACT p 2
      let s : State := s.flag PD.EPR_MODE p false
      let s : State := (s.modPort (p) fun z => { z with pe := { z.pe with epr := .none } })
      let s : State := (s.modPort (p) fun z => { z with pe := { z.pe with eprCapRdo := false } })
      s), ?_⟩,
    ⟨0, (
      let p : Port := 0
      let s : State := wbase
      let s : State := s.flag CC.ATTACHED p true
      let s : State := s.flag PD.PD_EN p true
      let s : State := s.flag PD.SHADOW p false
      let s : State := (s.modPort p fun z => { z with phy := PhySt.reset, pe := { z.pe with trans := none }, swap := { z.swap with step := .none } })
      let s : State := { s with pair := { s.pair with unacked := [] } }
      let s : State := s.wr PD.NEG_REV p 2
      let s : State := s.flag CC.ATTACHED p true
      let s : State := s.wr CC.PWR_ROLE p 1
      let s : State := s.wr PD.CONTRACT p 2
      let s : State := s.flag PD.EPR_MODE p false
      let s : State := (s.modPort (p) fun z => { z with pe := { z.pe with epr := .none } })
      let s : State := (s.modPort (p) fun z => { z with pe := { z.pe with eprCapRdo := true } })
      s), ?_⟩,
    ⟨0, (
      let p : Port := 0
      let s : State := wbase
      let s : State := s.flag CC.ATTACHED p true
      let s : State := s.flag PD.PD_EN p true
      let s : State := s.flag PD.SHADOW p false
      let s : State := (s.modPort p fun z => { z with phy := PhySt.reset, pe := { z.pe with trans := none }, swap := { z.swap with step := .none } })
      let s : State := { s with pair := { s.pair with unacked := [] } }
      let s : State := s.wr PD.NEG_REV p 2
      let s : State := s.flag CC.ATTACHED p true
      let s : State := s.wr CC.PWR_ROLE p 1
      let s : State := s.wr PD.CONTRACT p 2
      let s : State := s.flag PD.EPR_MODE p false
      let s : State := (s.modPort (p) fun z => { z with pe := { z.pe with epr := .none } })
      let s : State := (s.modPort (p) fun z => { z with pe := { z.pe with eprCapRdo := true } })
      let s : State := s.flag PD.VCONN_SRC p false
      s), ?_⟩,
    ⟨0, (
      let p : Port := 0
      let s : State := wbase
      let s : State := s.flag CC.ATTACHED p true
      let s : State := s.flag PD.PD_EN p true
      let s : State := s.flag PD.SHADOW p false
      let s : State := (s.modPort p fun z => { z with phy := PhySt.reset, pe := { z.pe with trans := none }, swap := { z.swap with step := .none } })
      let s : State := { s with pair := { s.pair with unacked := [] } }
      let s : State := s.wr PD.NEG_REV p 2
      let s : State := s.flag CC.ATTACHED p true
      let s : State := s.wr CC.PWR_ROLE p 1
      let s : State := s.wr PD.CONTRACT p 2
      let s : State := s.flag PD.EPR_MODE p false
      let s : State := (s.modPort (p) fun z => { z with pe := { z.pe with epr := .none } })
      let s : State := (s.modPort (p) fun z => { z with pe := { z.pe with eprCapRdo := true } })
      let s : State := s.flag PD.VCONN_SRC p true
      let s : State := s.flag CC.EPR_CABLE p true
      let s : State := (s.modPort p fun z => { z with profile := { z.profile with epr := true, pdpMax := 240, fixedMask := 0xFFFF, imax := 5000 }, nextProfile := none })
      let s : State := s.wr BUDGET.P_OFF p 2400
      let s : State := s.wr BUDGET.I_OFF p 5000
      let s : State := s.wr CC.CABLE_VMAX p 3
      let s : State := s.wr CC.CABLE_IMAX p 2
      s), ?_⟩,
    ⟨0, (
      let p : Port := 0
      let s : State := wbase
      let s : State := s.flag CC.ATTACHED p true
      let s : State := s.flag PD.PD_EN p true
      let s : State := s.flag PD.SHADOW p false
      let s : State := (s.modPort p fun z => { z with phy := PhySt.reset, pe := { z.pe with trans := none }, swap := { z.swap with step := .none } })
      let s : State := { s with pair := { s.pair with unacked := [] } }
      let s : State := s.wr PD.NEG_REV p 2
      let s : State := s.flag CC.ATTACHED p true
      let s : State := s.wr CC.PWR_ROLE p 1
      let s : State := s.wr PD.CONTRACT p 2
      let s : State := s.flag PD.EPR_MODE p false
      let s : State := (s.modPort (p) fun z => { z with pe := { z.pe with epr := .none } })
      let s : State := (s.modPort (p) fun z => { z with pe := { z.pe with eprCapRdo := true } })
      let s : State := s.flag PD.VCONN_SRC p true
      let s : State := s.flag CC.EPR_CABLE p false
      let s : State := (s.modPort (p) fun z => { z with pe := { z.pe with await := .cableId } })
      let s : State := (s.modPort p fun z => { z with profile := { z.profile with epr := true, pdpMax := 240, fixedMask := 0xFFFF, imax := 5000 }, nextProfile := none })
      let s : State := s.wr BUDGET.P_OFF p 2400
      let s : State := s.wr BUDGET.I_OFF p 5000
      let s : State := s.wr CC.CABLE_VMAX p 3
      let s : State := s.wr CC.CABLE_IMAX p 2
      s), ?_⟩,
    ⟨0, (
      let p : Port := 0
      let s : State := wbase
      let s : State := s.flag CC.ATTACHED p true
      let s : State := s.flag PD.PD_EN p true
      let s : State := s.flag PD.SHADOW p false
      let s : State := (s.modPort p fun z => { z with phy := PhySt.reset, pe := { z.pe with trans := none }, swap := { z.swap with step := .none } })
      let s : State := { s with pair := { s.pair with unacked := [] } }
      let s : State := s.wr PD.NEG_REV p 2
      s), ?_⟩,
    ⟨0, (
      let p : Port := 0
      let s : State := wbase
      let s : State := s.flag CC.ATTACHED p true
      let s : State := s.flag PD.PD_EN p true
      let s : State := s.flag PD.SHADOW p false
      let s : State := (s.modPort p fun z => { z with phy := PhySt.reset, pe := { z.pe with trans := none }, swap := { z.swap with step := .none } })
      let s : State := { s with pair := { s.pair with unacked := [] } }
      let s : State := s.wr PD.NEG_REV p 1
      s), ?_⟩,
    ⟨0, (
      let p : Port := 0
      let s : State := wbase
      let s : State := s.flag CC.ATTACHED p true
      let s : State := s.flag PD.PD_EN p true
      let s : State := s.flag PD.SHADOW p false
      let s : State := (s.modPort p fun z => { z with phy := PhySt.reset, pe := { z.pe with trans := none }, swap := { z.swap with step := .none } })
      let s : State := { s with pair := { s.pair with unacked := [] } }
      let s : State := s.wr PD.NEG_REV p 2
      let s : State := s.flag PD.EPR_MODE p true
      s), ?_⟩,
    ⟨0, (
      let p : Port := 0
      let s : State := wbase
      let s : State := s.flag CC.ATTACHED p true
      let s : State := s.flag PD.PD_EN p true
      let s : State := s.flag PD.SHADOW p false
      let s : State := (s.modPort p fun z => { z with phy := PhySt.reset, pe := { z.pe with trans := none }, swap := { z.swap with step := .none } })
      let s : State := { s with pair := { s.pair with unacked := [] } }
      let s : State := s.wr PD.NEG_REV p 2
      let s : State := s.flag PD.EPR_MODE p true
      let s : State := (s.modPort p fun z => { z with pe := { z.pe with contract := some ⟨8, .fixed, 28000, 3000, 28000, .fixed 28000 3000⟩ } })
      s), ?_⟩,
    ⟨0, (
      let p : Port := 0
      let s : State := wbase
      let s : State := s.flag CC.ATTACHED p true
      let s : State := s.flag PD.PD_EN p true
      let s : State := s.flag PD.SHADOW p false
      let s : State := (s.modPort p fun z => { z with phy := PhySt.reset, pe := { z.pe with trans := none }, swap := { z.swap with step := .none } })
      let s : State := { s with pair := { s.pair with unacked := [] } }
      let s : State := s.wr PD.NEG_REV p 2
      let s : State := s.flag PD.EPR_MODE p false
      s), ?_⟩,
    ⟨0, (
      let p : Port := 0
      let s : State := wbase
      let s : State := s.flag CC.ATTACHED p true
      let s : State := s.wr CC.PWR_ROLE p 1
      let s : State := s.flag PD.EPR_MODE p true
      let s : State := s.flag CC.EPR_CABLE p false
      s), ?_⟩,
    ⟨0, (
      let p : Port := 0
      let s : State := wbase
      let s : State := s.flag CC.ATTACHED p true
      let s : State := s.wr CC.PWR_ROLE p 1
      let s : State := s.flag PD.EPR_MODE p true
      let s : State := s.flag CC.EPR_CABLE p false
      let s : State := (s.modPort p fun z => { z with pe := { z.pe with contract := some ⟨8, .fixed, 28000, 3000, 28000, .fixed 28000 3000⟩ } })
      s), ?_⟩,
    ⟨0, (
      let p : Port := 0
      let s : State := wbase
      let s : State := s.flag PD.EPR_MODE p true
      let s : State := (s.modPort (p) fun z => { z with pe := { z.pe with eprLeaving := true } })
      let s : State := s.flag CC.ATTACHED p true
      let s : State := s.flag PD.PD_EN p true
      let s : State := s.flag PD.SHADOW p false
      let s : State := (s.modPort p fun z => { z with pe := { z.pe with contract := some ⟨8, .fixed, 28000, 3000, 28000, .fixed 28000 3000⟩ } })
      s), ?_⟩,
    ⟨0, (
      let p : Port := 0
      let s : State := wbase
      let s : State := s.flag CC.ATTACHED p true
      let s : State := s.flag PD.PD_EN p true
      let s : State := s.flag PD.SHADOW p false
      let s : State := (s.modPort p fun z => { z with phy := PhySt.reset, pe := { z.pe with trans := none }, swap := { z.swap with step := .none } })
      let s : State := { s with pair := { s.pair with unacked := [] } }
      let s : State := s.wr PD.NEG_REV p 2
      let s : State := s.flag PD.EPR_MODE p true
      let s : State := s.flag CC.ATTACHED p true
      let s : State := s.wr CC.PWR_ROLE p 1
      s), ?_⟩,
    ⟨0, (
      let p : Port := 0
      let s : State := wbase
      let s : State := s.flag CC.ATTACHED p true
      let s : State := s.flag PD.PD_EN p true
      let s : State := s.flag PD.SHADOW p false
      let s : State := (s.modPort p fun z => { z with phy := PhySt.reset, pe := { z.pe with trans := none }, swap := { z.swap with step := .none } })
      let s : State := { s with pair := { s.pair with unacked := [] } }
      let s : State := s.wr PD.NEG_REV p 2
      let s : State := s.flag PD.EPR_MODE p false
      s), ?_⟩⟩
  all_goals first | decide +kernel | (unfold AwaitsResponse; decide +kernel)

/-- States and operands that meet the hypotheses of ResetsMoveTheSupply, clause by clause. -/
theorem test_resets_move_the_supply_witness :
    (∃ (p : Port) (k : Sop) (s : State), s.takes p .softReset = true ∧ s.hears p k = true) ∧
    (∃ (p : Port) (k : Sop) (s : State), s.takes p .softReset = true ∧ s.hears p k = true ∧ k ≠ .sop ∧ (s.port
      p).phy.chunkTx = none) ∧
    (∃ (p : Port) (s : State), s.listens p = true ∧ s.unread p .softReset = true ∧ (s.port p).pe.await = .none) ∧
    (∃ (p : Port) (s : State), s.takes p .softReset = true ∧ s.hears p .sop = true ∧ s.on PD.SHADOW p = false ∧
      (s.pastAccept p = true ∨ s.powerSwapping p = true) ∧ (s.port p).phy.chunkTx = none) ∧
    (∃ (p : Port) (s : State), (s.port p).pe.hr = .hold) ∧
    (∃ (p : Port) (s : State), (s.port p).pe.hr = .ramp ∧ s.switchOn p = true) ∧
    (∃ (p : Port) (s : State), (s.port p).pe.hr ≠ .ramp ∧ (s.port p).swap.step = .srcRamp ∧ s.switchOn p = true) ∧
    (∃ (p : Port) (s : State), (s.port p).pe.hr = .sinkWait ∧ (s.port p).swap.step ≠ .srcRamp ∧ s.isSnk p = true ∧
      s.switchOn p = true) ∧
    (∃ (p : Port) (s : State), s.gst p = gDischarge ∧ s.heldSafe p = false) ∧
    (∃ (p : Port) (s : State), (s.port p).pe.hr = .open_) ∧
    (∃ (p : Port) (s : State), (s.port p).pe.hr = .recover ∧ (s.port p).swap.idle = false) ∧
    (∃ (p : Port) (s : State), ((s.port p).pe.hr = .ramp ∨ (s.port p).pe.hr = .open_) ∧ s.gst p ≠ gRetired ∧ s.tc p ≠
      tcOvpHold) ∧
    (∃ (p : Port) (x : Trans) (s : State), s.on CC.ATTACHED p = true ∧ (s.on CC.CC_OPEN_Q p = true ∨ (s.port
      p).cc.fastOpened = true) ∧ (s.port p).pe.trans = some x) ∧
    (∃ (p : Port) (s : State), ((s.port p).guard.closing = .enhance ∨ (s.port p).guard.closing = .matchedMarked)) ∧
    (∃ (p : Port) (s : State), ((s.port p).guard.closing = .enhance ∨ (s.port p).guard.closing = .matchedMarked) ∧
      (s.port p).swap.step = .none ∧ s.isSrc p = true ∧ s.explicit p = false) ∧
    (∃ (p : Port) (s : State), ((s.port p).guard.closing = .enhance ∨ (s.port p).guard.closing = .matchedMarked) ∧
      (s.port p).swap.step = .snkStart) ∧
    (∃ (p : Port) (s : State), ((s.port p).guard.closing = .enhance ∨ (s.port p).guard.closing = .matchedMarked) ∧
      (s.port p).swap.step = .srcMatch) ∧
    (∃ (p : Port) (s : State), (s.port p).guard.closing = .resumed) := by
  refine ⟨⟨0, .sop, (
      let p : Port := 0
      let s : State := wbase
      let s : State := s.flag CC.ATTACHED p true
      let s : State := s.flag PD.PD_EN p true
      s), ?_⟩,
    ⟨0, .sop1, (
      let p : Port := 0
      let s : State := wbase
      let s : State := s.flag CC.ATTACHED p true
      let s : State := s.flag PD.PD_EN p true
      let s : State := (s.modPort (p) fun z => { z with phy := { z.phy with chunkTx := none } })
      let s : State := s.flag PD.VCONN_SRC p true
      s), ?_⟩,
    ⟨0, (
      let p : Port := 0
      let s : State := wbase
      let s : State := s.flag CC.ATTACHED p true
      let s : State := s.flag PD.PD_EN p true
      let s : State := s.flag PD.SHADOW p false
      let s : State := (s.modPort p fun z => { z with phy := PhySt.reset, pe := { z.pe with trans := none }, swap := { z.swap with step := .none } })
      let s : State := { s with pair := { s.pair with unacked := [] } }
      let s : State := (s.modPort (p) fun z => { z with pe := { z.pe with await := .none } })
      s), ?_⟩,
    ⟨0, (
      let p : Port := 0
      let s : State := wbase
      let s : State := s.flag CC.ATTACHED p true
      let s : State := s.flag PD.PD_EN p true
      let s : State := s.flag PD.SHADOW p false
      let s : State := (s.modPort (p) fun z => { z with phy := { z.phy with chunkTx := none } })
      let s : State := (s.modPort p fun z => { z with pe := { z.pe with trans := some ⟨.waiting, 5000, ⟨1, .fixed, 9000, 3000, 9000, .fixed 9000 3000⟩, ⟨1, 0, 300, false, false, false⟩⟩ } })
      let s : State := s.wr CC.PWR_ROLE p 1
      s), ?_⟩,
    ⟨0, (
      let p : Port := 0
      let s : State := wbase
      let s : State := (s.modPort (p) fun z => { z with pe := { z.pe with hr := .hold } })
      s), ?_⟩,
    ⟨0, (
      let p : Port := 0
      let s : State := wbase
      let s : State := (s.modPort (p) fun z => { z with pe := { z.pe with hr := .ramp } })
      let s : State := s.flag GUARD.GATE_OFF p false
      s), ?_⟩,
    ⟨0, (
      let p : Port := 0
      let s : State := wbase
      let s : State := (s.modPort (p) fun z => { z with swap := { z.swap with step := .srcRamp } })
      let s : State := s.flag GUARD.GATE_OFF p false
      s), ?_⟩,
    ⟨0, (
      let p : Port := 0
      let s : State := wbase
      let s : State := (s.modPort (p) fun z => { z with pe := { z.pe with hr := .sinkWait } })
      let s : State := s.flag CC.ATTACHED p true
      let s : State := s.wr CC.PWR_ROLE p 2
      let s : State := s.flag GUARD.GATE_OFF p false
      s), ?_⟩,
    ⟨0, (
      let p : Port := 0
      let s : State := wbase
      let s : State := s.wr GUARD.STATE p gDischarge
      s), ?_⟩,
    ⟨0, (
      let p : Port := 0
      let s : State := wbase
      let s : State := (s.modPort (p) fun z => { z with pe := { z.pe with hr := .open_ } })
      s), ?_⟩,
    ⟨0, (
      let p : Port := 0
      let s : State := wbase
      let s : State := (s.modPort (p) fun z => { z with pe := { z.pe with hr := .recover } })
      let s : State := (s.modPort (p) fun z => { z with swap := { z.swap with idle := false } })
      s), ?_⟩,
    ⟨0, (
      let p : Port := 0
      let s : State := wbase
      let s : State := (s.modPort (p) fun z => { z with pe := { z.pe with hr := .ramp } })
      s), ?_⟩,
    ⟨0, (⟨.waiting, 5000, ⟨1, .fixed, 9000, 3000, 9000, .fixed 9000 3000⟩, ⟨1, 0, 300, false, false, false⟩⟩), (
      let p : Port := 0
      let x : Trans := ⟨.waiting, 5000, ⟨1, .fixed, 9000, 3000, 9000, .fixed 9000 3000⟩, ⟨1, 0, 300, false, false, false⟩⟩
      let s : State := wbase
      let s : State := s.flag CC.ATTACHED p true
      let s : State := s.flag CC.CC_OPEN_Q p true
      let s : State := (s.modPort (p) fun z => { z with pe := { z.pe with trans := some x } })
      s), ?_⟩,
    ⟨0, (
      let p : Port := 0
      let s : State := wbase
      let s : State := (s.modPort (p) fun z => { z with guard := { z.guard with closing := .enhance } })
      s), ?_⟩,
    ⟨0, (
      let p : Port := 0
      let s : State := wbase
      let s : State := (s.modPort (p) fun z => { z with guard := { z.guard with closing := .enhance } })
      let s : State := (s.modPort (p) fun z => { z with swap := { z.swap with step := .none } })
      let s : State := s.flag CC.ATTACHED p true
      let s : State := s.wr CC.PWR_ROLE p 1
      s), ?_⟩,
    ⟨0, (
      let p : Port := 0
      let s : State := wbase
      let s : State := (s.modPort (p) fun z => { z with guard := { z.guard with closing := .enhance } })
      let s : State := (s.modPort (p) fun z => { z with swap := { z.swap with step := .snkStart } })
      s), ?_⟩,
    ⟨0, (
      let p : Port := 0
      let s : State := wbase
      let s : State := (s.modPort (p) fun z => { z with guard := { z.guard with closing := .enhance } })
      let s : State := (s.modPort (p) fun z => { z with swap := { z.swap with step := .srcMatch } })
      s), ?_⟩,
    ⟨0, (
      let p : Port := 0
      let s : State := wbase
      let s : State := (s.modPort (p) fun z => { z with guard := { z.guard with closing := .resumed } })
      s), ?_⟩⟩
  all_goals first | decide +kernel | (unfold AwaitsResponse; decide +kernel)

/-- States and operands that meet the hypotheses of FeedsAreCommandedAndHealthy, clause by clause. -/
theorem test_feeds_are_commanded_and_healthy_witness :
    (∃ (k : Nat) (s : State), curveOk ((List.range 8).map s.feedStage) = true ∧ s.feeds.stgRsv = 0 ∧ k < 8) ∧
    (∃ (s : State), (curveOk ((List.range 8).map s.feedStage) = false ∨ s.feeds.stgRsv ≠ 0)) ∧
    (∃ (k : Nat) (s : State), curveOk ((List.range 8).map s.feedStage) = true ∧ s.feeds.stgRsv = 0 ∧ k < 8) ∧
    (∃ (s : State), (curveOk ((List.range 8).map s.feedStage) = false ∨ s.feeds.stgRsv ≠ 0)) ∧
    (∃ (b : Bool) (s : State), (s.feedLatch 0 = fLatched ∨ (s.feedLatch 0 = fRetired ∧ b = true))) ∧
    (∃ (b : Bool) (s : State), s.feedLatch 0 ≠ fLatched ∧ (s.feedLatch 0 ≠ fRetired ∨ b = false)) ∧
    (∃ (b : Bool) (s : State), (s.feedLatch 1 = fLatched ∨ (s.feedLatch 1 = fRetired ∧ b = true))) ∧
    (∃ (b : Bool) (s : State), s.feedLatch 1 ≠ fLatched ∧ (s.feedLatch 1 ≠ fRetired ∨ b = false)) ∧
    (∃ (f : Feed) (v : Fin 4) (s : State), v.val = f.val + 1 ∧ s.on FEED.FD_HEALTHY f = false) ∧
    (∃ (f : Feed) (v : Fin 4) (s : State), v.val = f.val + 1 ∧ s.on FEED.FD_HEALTHY f = true) ∧
    (∃ (v : Fin 4) (s : State), (v = 0 ∨ v = 3)) ∧
    (∃ (s : State), s.on FEED.SWITCHING 0 = false) ∧
    (∃ (f : Feed) (v : Fin 4) (s : State), v.val = f.val + 1 ∧ s.on FEED.FD_HEALTHY f = true ∧ s.on FEED.SWITCHING 0
      = false ∧ s.vcpReady = true ∧ s.ownsPorts = true ∧ s.selected f = false ∧ s.rd FEED.SEL 0 ≠ 0) ∧
    (∃ (f : Feed) (v : Fin 4) (s : State), v.val = f.val + 1 ∧ s.on FEED.FD_HEALTHY f = true ∧ s.on FEED.SWITCHING 0
      = false ∧ s.vcpReady = true ∧ s.ownsPorts = true ∧ s.rd FEED.SEL 0 = 0 ∧ s.on FEED.FD_GATE_OFF (1 - f).val =
      true) ∧
    (∃ (f : Feed) (s : State), s.on (enField f) 0 = true ∧ s.feedStands f = false) ∧
    (∃ (f : Feed) (s : State), s.on (enField (1 - f)) 0 = true ∧ s.feedStands (1 - f) = false) ∧
    (∃ (f : Feed) (s : State), (s.on (enField f) 0 = false ∨ s.feedStands f = true)) ∧
    (∃ (f : Feed) (s : State), s.selected f = true ∧ s.on FEED.FD_HEALTHY (1 - f).val = true ∧ (s.rd FEED.FORCE 0 = 0
      ∨ s.rd FEED.FORCE 0 = f.val + 1) ∧ s.feeds.returnDue = false ∧ s.on FEED.SWITCHING 0 = false ∧ s.vcpReady =
      true ∧ s.ownsPorts = true) ∧
    (∃ (s : State), s.returnsFeed = true ∧ s.on FEED.SWITCHING 0 = false ∧ s.vcpReady = true ∧ s.ownsPorts = true) ∧
    (∃ (s : State), s.returnsFeed = true ∧ s.on FEED.SWITCHING 0 = true) ∧
    (∃ (s : State), s.returnsFeed = false) := by
  refine ⟨⟨0, (
      let k : Nat := 0
      let s : State := wbase
      let s : State := { s with feeds := { s.feeds with stgRsv := 0 } }
      let s : State := (List.range 8).foldl (fun (t : State) k => ((t.wr FEED.FCURVE_STG_I (k) (10 + k)).wr FEED.FCURVE_STG_E (k) 0).wr FEED.FCURVE_STG_M (k) (100 - k)) s
      s), ?_⟩,
    ⟨(
      let s : State := wbase
      let s : State := { s with feeds := { s.feeds with stgRsv := 1 } }
      s), ?_⟩,
    ⟨0, (
      let k : Nat := 0
      let s : State := wbase
      let s : State := { s with feeds := { s.feeds with stgRsv := 0 } }
      let s : State := (List.range 8).foldl (fun (t : State) k => ((t.wr FEED.FCURVE_STG_I (k) (10 + k)).wr FEED.FCURVE_STG_E (k) 0).wr FEED.FCURVE_STG_M (k) (100 - k)) s
      s), ?_⟩,
    ⟨(
      let s : State := wbase
      let s : State := { s with feeds := { s.feeds with stgRsv := 1 } }
      s), ?_⟩,
    ⟨false, (
      let s : State := wbase
      let s : State := s.wr FEED.FD_STATE 0 fLatched
      s), ?_⟩,
    ⟨false, wbase, ?_⟩,
    ⟨false, (
      let s : State := wbase
      let s : State := s.wr FEED.FD_STATE 1 fLatched
      s), ?_⟩,
    ⟨false, wbase, ?_⟩,
    ⟨0, 1, (
      let f : Feed := 0
      let s : State := wbase
      let s : State := s.flag FEED.FD_HEALTHY f false
      s), ?_⟩,
    ⟨0, 1, (
      let f : Feed := 0
      let s : State := wbase
      let s : State := s.flag FEED.FD_HEALTHY f true
      s), ?_⟩,
    ⟨0, wbase, ?_⟩,
    ⟨(
      let s : State := wbase
      let s : State := s.flag FEED.SWITCHING 0 false
      let s : State := s.wr FEED.SEL 0 1
      s), ?_⟩,
    ⟨0, 1, (
      let f : Feed := 0
      let s : State := wbase
      let s : State := s.flag FEED.FD_HEALTHY f true
      let s : State := s.flag FEED.SWITCHING 0 false
      let s : State := s.wr FEED.SEL 0 2
      s), ?_⟩,
    ⟨0, 1, (
      let f : Feed := 0
      let s : State := wbase
      let s : State := s.flag FEED.FD_HEALTHY f true
      let s : State := s.flag FEED.SWITCHING 0 false
      let s : State := s.wr FEED.SEL 0 (0)
      s), ?_⟩,
    ⟨0, (
      let f : Feed := 0
      let s : State := wbase
      let s : State := s.flag (enField f) 0 true
      s), ?_⟩,
    ⟨0, (
      let f : Feed := 0
      let s : State := wbase
      let s : State := s.flag (enField (1 - f)) 0 true
      s), ?_⟩,
    ⟨0, (
      let f : Feed := 0
      let s : State := wbase
      let s : State := s.flag (enField f) 0 false
      s), ?_⟩,
    ⟨0, (
      let s : State := wbase
      let s : State := s.wr FEED.FORCE 0 (0)
      let s : State := { s with feeds := { s.feeds with returnDue := false } }
      let s : State := s.flag FEED.SWITCHING 0 false
      let s : State := s.wr FEED.SEL 0 1
      let s : State := s.flag FEED.FD_HEALTHY 1 true
      s), ?_⟩,
    ⟨(
      let s : State := wbase
      let s : State := s.flag FEED.SWITCHING 0 false
      let s : State := s.flag FEED.AUTO_RET 0 true
      let s : State := s.wr FEED.SEL 0 2
      let s : State := s.flag FEED.FD_HEALTHY 0 true
      s), ?_⟩,
    ⟨(
      let s : State := wbase
      let s : State := s.flag FEED.SWITCHING 0 true
      let s : State := s.flag FEED.AUTO_RET 0 true
      let s : State := s.wr FEED.SEL 0 2
      let s : State := s.flag FEED.FD_HEALTHY 0 true
      s), ?_⟩,
    ⟨wbase, ?_⟩⟩
  all_goals first | decide +kernel | (unfold AwaitsResponse; decide +kernel)

/-- States and operands that meet the hypotheses of FeedsSwitchWithoutAGap, clause by clause. -/
theorem test_feeds_switch_without_a_gap_witness :
    (∃ (f : Feed) (s : State), s.incoming = some f ∧ (s.feed f).step = .charge) ∧
    (∃ (f : Feed) (s : State), s.incoming = some f ∧ (s.feed f).step = .charge ∧ s.rd FEED.FD_STATE f ≠ fYielded) ∧
    (∃ (f : Feed) (s : State), s.incoming = some f ∧ (s.feed f).step = .charge ∧ s.rd FEED.FD_STATE (1 - f).val ≠
      fYielded) ∧
    (∃ (f : Feed) (s : State), s.incoming = some f ∧ (s.feed f).step = .gap) ∧
    (∃ (f : Feed) (s : State), s.incoming = some f ∧ (s.feed f).step = .gate) ∧
    (∃ (f : Feed) (s : State), s.incoming = some f ∧ (s.feed f).step = .gate ∧ s.rd FEED.FD_STATE f ≠ fYielded) ∧
    (∃ (f : Feed) (b : Nat) (v : Nat) (s : State), s.incoming = some f ∧ (s.feed f).step = .ramp ∧ v ≤ b + 1000) ∧
    (∃ (b : Nat) (v : Nat) (s : State), b + 1000 < v) ∧
    (∃ (f : Feed) (s : State), s.incoming = some f ∧ (s.feed f).step = .ramp ∧ s.rd FEED.FD_STATE f ≠ fYielded) ∧
    (∃ (f : Feed) (s : State), s.incoming = some f ∧ (s.feed f).step = .enhance ∧ s.rd FEED.FD_STATE f ≠ fYielded) ∧
    (∃ (f : Feed) (s : State), s.incoming = some f ∧ (s.feed f).step = .enhance ∧ s.rd FEED.FORCE 0 = 0 ∧ s.on
      FEED.FD_HEALTHY f = true) ∧
    (∃ (f : Feed) (s : State), s.incoming = some f ∧ (s.feed f).step = .enhance ∧ s.feeds.inserting = true) ∧
    (∃ (f : Feed) (s : State), s.incoming = some f ∧ (s.feed f).step = .enhance ∧ s.feeds.inserting = false) ∧
    (∃ (s : State), s.incoming = none) ∧
    (∃ (s : State), s.incoming = none) ∧
    (∃ (s : State), s.incoming = none) ∧
    (∃ (s : State), s.incoming = none) ∧
    (∃ (f : Feed) (s : State), s.incoming = some f ∧ (s.feed f).step ≠ .charge) ∧
    (∃ (f : Feed) (s : State), s.incoming = some f ∧ (s.feed f).step ≠ .gap) ∧
    (∃ (f : Feed) (s : State), s.incoming = some f ∧ (s.feed f).step ≠ .gate ∧ (s.feed f).step ≠ .ramp ∧ (s.feed
      f).step ≠ .enhance) ∧
    (∃ (f : Feed) (s : State), s.incoming = some f ∧ (s.feed f).step ≠ .enhance) ∧
    (∃ (s : State), s.feeds.holdFeed = true ∧ s.on FEED.SWITCHING 0 = false ∧ s.rd FEED.SEL 0 ≠ 0) ∧
    (∃ (s : State), (s.feeds.holdFeed = false ∨ s.on FEED.SWITCHING 0 = true ∨ s.rd FEED.SEL 0 = 0)) := by
  refine ⟨⟨0, (
      let f : Feed := 0
      let s : State := wbase
      let s : State := s.flag FEED.SWITCHING 0 true
      let s : State := s.wr FEED.SEL 0 (1 + (f : Feed).val)
      let s : State := s.modFeed 0 fun z => { z with step := .charge }
      s), ?_⟩,
    ⟨0, (
      let f : Feed := 0
      let s : State := wbase
      let s : State := s.flag FEED.SWITCHING 0 true
      let s : State := s.wr FEED.SEL 0 (1 + (f : Feed).val)
      let s : State := s.modFeed 0 fun z => { z with step := .charge }
      s), ?_⟩,
    ⟨0, (
      let f : Feed := 0
      let s : State := wbase
      let s : State := s.flag FEED.SWITCHING 0 true
      let s : State := s.wr FEED.SEL 0 (1 + (f : Feed).val)
      let s : State := s.modFeed 0 fun z => { z with step := .charge }
      s), ?_⟩,
    ⟨0, (
      let f : Feed := 0
      let s : State := wbase
      let s : State := s.flag FEED.SWITCHING 0 true
      let s : State := s.wr FEED.SEL 0 (1 + (f : Feed).val)
      let s : State := s.modFeed 0 fun z => { z with step := .gap }
      s), ?_⟩,
    ⟨0, (
      let f : Feed := 0
      let s : State := wbase
      let s : State := s.flag FEED.SWITCHING 0 true
      let s : State := s.wr FEED.SEL 0 (1 + (f : Feed).val)
      let s : State := s.modFeed 0 fun z => { z with step := .gate }
      s), ?_⟩,
    ⟨0, (
      let f : Feed := 0
      let s : State := wbase
      let s : State := s.flag FEED.SWITCHING 0 true
      let s : State := s.wr FEED.SEL 0 (1 + (f : Feed).val)
      let s : State := s.modFeed 0 fun z => { z with step := .gate }
      s), ?_⟩,
    ⟨0, 0, 0, (
      let f : Feed := 0
      let s : State := wbase
      let s : State := s.flag FEED.SWITCHING 0 true
      let s : State := s.wr FEED.SEL 0 (1 + (f : Feed).val)
      let s : State := s.modFeed 0 fun z => { z with step := .ramp }
      s), ?_⟩,
    ⟨0, 2000, wbase, ?_⟩,
    ⟨0, (
      let f : Feed := 0
      let s : State := wbase
      let s : State := s.flag FEED.SWITCHING 0 true
      let s : State := s.wr FEED.SEL 0 (1 + (f : Feed).val)
      let s : State := s.modFeed 0 fun z => { z with step := .ramp }
      s), ?_⟩,
    ⟨0, (
      let f : Feed := 0
      let s : State := wbase
      let s : State := s.flag FEED.SWITCHING 0 true
      let s : State := s.wr FEED.SEL 0 (1 + (f : Feed).val)
      let s : State := s.modFeed 0 fun z => { z with step := .enhance }
      s), ?_⟩,
    ⟨0, (
      let f : Feed := 0
      let s : State := wbase
      let s : State := s.flag FEED.SWITCHING 0 true
      let s : State := s.wr FEED.SEL 0 (1 + (f : Feed).val)
      let s : State := s.wr FEED.FORCE 0 (0)
      let s : State := s.flag FEED.FD_HEALTHY f true
      let s : State := s.modFeed 0 fun z => { z with step := .enhance }
      s), ?_⟩,
    ⟨0, (
      let f : Feed := 0
      let s : State := wbase
      let s : State := s.flag FEED.SWITCHING 0 true
      let s : State := s.wr FEED.SEL 0 (1 + (f : Feed).val)
      let s : State := { s with feeds := { s.feeds with inserting := true } }
      let s : State := s.modFeed 0 fun z => { z with step := .enhance }
      s), ?_⟩,
    ⟨0, (
      let f : Feed := 0
      let s : State := wbase
      let s : State := s.flag FEED.SWITCHING 0 true
      let s : State := s.wr FEED.SEL 0 (1 + (f : Feed).val)
      let s : State := { s with feeds := { s.feeds with inserting := false } }
      let s : State := s.modFeed 0 fun z => { z with step := .enhance }
      s), ?_⟩,
    ⟨wbase, ?_⟩,
    ⟨wbase, ?_⟩,
    ⟨wbase, ?_⟩,
    ⟨wbase, ?_⟩,
    ⟨0, (
      let f : Feed := 0
      let s : State := wbase
      let s : State := s.flag FEED.SWITCHING 0 true
      let s : State := s.wr FEED.SEL 0 (1 + (f : Feed).val)
      s), ?_⟩,
    ⟨0, (
      let f : Feed := 0
      let s : State := wbase
      let s : State := s.flag FEED.SWITCHING 0 true
      let s : State := s.wr FEED.SEL 0 (1 + (f : Feed).val)
      s), ?_⟩,
    ⟨0, (
      let f : Feed := 0
      let s : State := wbase
      let s : State := s.flag FEED.SWITCHING 0 true
      let s : State := s.wr FEED.SEL 0 (1 + (f : Feed).val)
      s), ?_⟩,
    ⟨0, (
      let f : Feed := 0
      let s : State := wbase
      let s : State := s.flag FEED.SWITCHING 0 true
      let s : State := s.wr FEED.SEL 0 (1 + (f : Feed).val)
      s), ?_⟩,
    ⟨(
      let s : State := wbase
      let s : State := { s with feeds := { s.feeds with holdFeed := true } }
      let s : State := s.flag FEED.SWITCHING 0 false
      let s : State := s.wr FEED.SEL 0 1
      s), ?_⟩,
    ⟨(
      let s : State := wbase
      let s : State := { s with feeds := { s.feeds with holdFeed := false } }
      s), ?_⟩⟩
  all_goals first | decide +kernel | (unfold AwaitsResponse; decide +kernel)

/-- States and operands that meet the hypotheses of FeedsTripAndTheBusIsGuarded, clause by clause. -/
theorem test_feeds_trip_and_the_bus_is_guarded_witness :
    (∃ (f : Feed) (c : FeedCause) (o : List FeedCause) (i : Int) (s : State), s.rd FEED.FD_STATE f ≠ fYielded ∧
      s.feedCauseMet f i c = true ∧ o.all (fun x => decide (c.order ≤ x.order)) = true) ∧
    (∃ (f : Feed) (c : FeedCause) (d : FeedCause) (i : Int) (s : State), s.rd FEED.FD_STATE f ≠ fYielded ∧
      s.feedCauseMet f i c = false ∧ s.feedCauseMet f i d = true) ∧
    (∃ (f : Feed) (c : FeedCause) (o : List FeedCause) (i : Int) (s : State), (c :: o).all (fun x => !s.feedCauseMet
      f i x) = true) ∧
    (∃ (f : Feed) (s : State), s.rd FEED.FD_STATE f = fYielded) ∧
    (∃ (f : Feed) (s : State), s.feedLatch f = fTripped ∧ (s.rd FEED.FD_CAUSE f ≠ FeedCause.curve.code ∨ (s.feed
      f).heat < 2 ^ 31)) ∧
    (∃ (f : Feed) (s : State), s.feedLatch f = fTripped ∧ s.rd FEED.FD_CAUSE f = FeedCause.curve.code ∧ 2 ^ 31 ≤
      (s.feed f).heat) ∧
    (∃ (f : Feed) (s : State), s.feedLatch f ≠ fTripped) ∧
    (∃ (f : Feed) (i : Int) (s : State), s.selected f = true ∧ i ≤ -(10 * s.rd FEED.FD_REV_TH f : Int)) ∧
    (∃ (f : Feed) (i : Int) (s : State), (s.selected f = false ∨ -(10 * s.rd FEED.FD_REV_TH f : Int) < i)) ∧
    (∃ (v : Nat) (s : State), v < s.busLo ∧ actsLo (s.rd FEED.BUS_MON_MODE 0) = true ∧ s.on FEED.BUS_LOSS 0 = false) ∧
    (∃ (v : Nat) (p : Port) (s : State), v < s.busLo ∧ actsLo (s.rd FEED.BUS_MON_MODE 0) = true ∧ s.on FEED.BUS_LOSS
      0 = false ∧ s.on FEED.ARMED 0 = false ∧ s.isSrc p = true) ∧
    (∃ (v : Nat) (s : State), v < s.busLo ∧ actsLo (s.rd FEED.BUS_MON_MODE 0) = true ∧ s.on FEED.BUS_LOSS 0 = false ∧
      s.on FEED.ARMED 0 = true ∧ s.role.bankFrs = true) ∧
    (∃ (v : Nat) (s : State), (s.busLo ≤ v ∨ actsLo (s.rd FEED.BUS_MON_MODE 0) = false ∨ s.on FEED.BUS_LOSS 0 =
      true)) ∧
    (∃ (v : Nat) (s : State), s.busHi < v ∧ actsHi (s.rd FEED.BUS_MON_MODE 0) = true ∧ s.on FEED.BUS_OV 0 = false) ∧
    (∃ (v : Nat) (s : State), (v ≤ s.busHi ∨ actsHi (s.rd FEED.BUS_MON_MODE 0) = false ∨ s.on FEED.BUS_OV 0 = true)) ∧
    (∃ (p : Port) (s : State), s.feeds.holdBus = true ∧ s.island = none ∧ (s.port p).swap.ceilinged = true ∧ s.on
      BUDGET.VALID p = true ∧ s.rd BUDGET.SRC p = 1) ∧
    (∃ (x : Supply) (v : Nat) (s : State), s.supplyOut x (v * 1000) = true) ∧
    (∃ (x : Supply) (v : Nat) (s : State), s.supplyOut x (v * 1000) = false) := by
  refine ⟨⟨0, .curve, ([.limit]), 0, wbase, ?_⟩,
    ⟨0, .ifast, .limit, 0, wbase, ?_⟩,
    ⟨0, .ifast, ([]), 0, wbase, ?_⟩,
    ⟨0, (
      let f : Feed := 0
      let s : State := wbase
      let s : State := s.wr FEED.FD_STATE f (fYielded)
      s), ?_⟩,
    ⟨0, (
      let s : State := wbase
      let s : State := s.wr FEED.FD_STATE 0 fTripped
      s), ?_⟩,
    ⟨0, (
      let f : Feed := 0
      let s : State := wbase
      let s : State := s.wr FEED.FD_CAUSE f (FeedCause.curve.code)
      let s : State := s.wr FEED.FD_STATE 0 fTripped
      let s : State := s.modFeed 0 fun z => { z with heat := 2 ^ 31 }
      s), ?_⟩,
    ⟨0, wbase, ?_⟩,
    ⟨0, (-100000), (
      let s : State := wbase
      let s : State := s.wr FEED.SEL 0 1
      s), ?_⟩,
    ⟨0, 0, wbase, ?_⟩,
    ⟨0, (
      let s : State := wbase
      let s : State := s.flag FEED.BUS_LOSS 0 false
      s), ?_⟩,
    ⟨0, 0, (
      let p : Port := 0
      let s : State := wbase
      let s : State := s.flag FEED.BUS_LOSS 0 false
      let s : State := s.flag FEED.ARMED 0 false
      let s : State := s.flag CC.ATTACHED p true
      let s : State := s.wr CC.PWR_ROLE p 1
      s), ?_⟩,
    ⟨0, (
      let s : State := wbase
      let s : State := s.flag FEED.BUS_LOSS 0 false
      let s : State := s.flag FEED.ARMED 0 true
      let s : State := { s with role := { s.role with bankFrs := true } }
      s), ?_⟩,
    ⟨60000, wbase, ?_⟩,
    ⟨70000, (
      let s : State := wbase
      let s : State := s.flag FEED.BUS_OV 0 false
      s), ?_⟩,
    ⟨0, wbase, ?_⟩,
    ⟨0, (
      let p : Port := 0
      let s : State := wbase
      let s : State := { s with feeds := { s.feeds with holdBus := true } }
      let s : State := (s.modPort (p) fun z => { z with swap := { z.swap with ceilinged := true } })
      let s : State := s.flag BUDGET.VALID p true
      let s : State := s.wr BUDGET.SRC p (1)
      s), ?_⟩,
    ⟨.vcp, 0, wbase, ?_⟩,
    ⟨.vcp, 11000, wbase, ?_⟩⟩
  all_goals first | decide +kernel | (unfold AwaitsResponse; decide +kernel)

/-- States and operands that meet the hypotheses of StepRunsTheCommandInFront, clause by clause. -/
theorem test_step_runs_the_command_in_front_witness :
    (∃ (c : Instr) (l : List Instr) (s : State), s.pending = c :: l) ∧
    (∃ (s : State), s.pending = []) := by
  refine ⟨⟨.spiWake, ([]), (
      let s : State := wbase
      let s : State := { s with pending := [.spiWake] }
      s), ?_⟩,
    ⟨wbase, ?_⟩⟩
  all_goals first | decide +kernel | (unfold AwaitsResponse; decide +kernel)

/-- States and operands that meet the hypotheses of GuardClosesBySoftStartAndMatched, clause by clause. -/
theorem test_guard_closes_by_soft_start_and_matched_witness :
    (∃ (p : Port) (s : State), s.mayClose p = true ∧ s.vcpReady = true) ∧
    (∃ (p : Port) (s : State), (s.mayClose p = false ∨ s.vcpReady = false)) ∧
    (∃ (p : Port) (v : Nat) (w : Nat) (s : State), s.mayClose p = true ∧ v ≤ w + 500 ∧ w ≤ v + 500 ∧ (w < 4000 ∨ s.on
      GUARD.REV_CHK_DONE p = true) ∧ s.vcpReady = true ∧ (s.port p).guard.recheck = 0) ∧
    (∃ (p : Port) (v : Nat) (w : Nat) (s : State), s.mayClose p = true ∧ v ≤ w + 500 ∧ w ≤ v + 500 ∧ (w < 4000 ∨ s.on
      GUARD.REV_CHK_DONE p = true) ∧ s.vcpReady = true ∧ (s.port p).guard.recheck ≠ 0) ∧
    (∃ (p : Port) (v : Nat) (w : Nat) (s : State), (s.mayClose p = false ∨ v + 500 < w ∨ w + 500 < v ∨ (4000 ≤ w ∧
      s.on GUARD.REV_CHK_DONE p = false) ∨ s.vcpReady = false)) ∧
    (∃ (p : Port) (v : Nat) (s : State), (s.port p).guard.closing = .precheck ∧ s.checksDone p = true ∧ v < 1500) ∧
    (∃ (p : Port) (v : Nat) (s : State), s.drives p = true ∧ (s.port p).guard.closing = .precheck ∧ s.checksDone p =
      true ∧ 1500 ≤ v) ∧
    (∃ (p : Port) (s : State), (s.port p).guard.closing = .precheck ∧ s.isSrc p = false) ∧
    (∃ (p : Port) (s : State), (s.port p).guard.closing = .precheck) ∧
    (∃ (p : Port) (s : State), (s.port p).guard.closing = .ramp) ∧
    (∃ (p : Port) (s : State), (s.port p).guard.closing = .matched) ∧
    (∃ (p : Port) (s : State), (s.port p).guard.closing = .marked) ∧
    (∃ (p : Port) (w : Nat) (v : Nat) (s : State), s.gst p = gOff ∧ s.switchOn p = false ∧ 4000 ≤ w ∧ v + 1500 < w ∧
      (s.running p = false ∨ s.rd LOOP.V_TARGET p < 1000)) ∧
    (∃ (p : Port) (w : Nat) (v : Nat) (s : State), (s.gst p ≠ gOff ∨ s.switchOn p = true ∨ w < 4000 ∨ w ≤ v + 1500 ∨
      (s.running p = true ∧ 1000 ≤ s.rd LOOP.V_TARGET p))) := by
  refine ⟨⟨0, (
      let p : Port := 0
      let s : State := wbase
      let s : State := s.wr GUARD.STATE p gOff
      let s : State := { s with supply := { s.supply with vcpOut := false } }
      s), ?_⟩,
    ⟨0, (
      let p : Port := 0
      let s : State := wbase
      let s : State := s.wr GUARD.STATE p gOn
      s), ?_⟩,
    ⟨0, 0, 0, (
      let p : Port := 0
      let s : State := wbase
      let s : State := (s.modPort (p) fun z => { z with guard := { z.guard with recheck := 0 } })
      let s : State := s.wr GUARD.STATE p gOff
      let s : State := { s with supply := { s.supply with vcpOut := false } }
      s), ?_⟩,
    ⟨0, 0, 0, (
      let p : Port := 0
      let s : State := wbase
      let s : State := s.wr GUARD.STATE p gOff
      let s : State := { s with supply := { s.supply with vcpOut := false } }
      let s : State := (s.modPort p fun z => { z with guard := { z.guard with recheck := 3 } })
      s), ?_⟩,
    ⟨0, 0, 0, (
      let p : Port := 0
      let s : State := wbase
      let s : State := s.wr GUARD.STATE p gOn
      s), ?_⟩,
    ⟨0, 0, (
      let p : Port := 0
      let s : State := wbase
      let s : State := (s.modPort (p) fun z => { z with guard := { z.guard with closing := .precheck } })
      let s : State := (s.modPort p fun z => { z with guard := { z.guard with ifastRan := true, recheck := 0 } })
      s), ?_⟩,
    ⟨0, 1500, (
      let p : Port := 0
      let s : State := wbase
      let s : State := (s.modPort (p) fun z => { z with guard := { z.guard with closing := .precheck } })
      let s : State := (s.modPort p fun z => { z with guard := { z.guard with ifastRan := true, recheck := 0 } })
      s), ?_⟩,
    ⟨0, (
      let p : Port := 0
      let s : State := wbase
      let s : State := (s.modPort (p) fun z => { z with guard := { z.guard with closing := .precheck } })
      s), ?_⟩,
    ⟨0, (
      let p : Port := 0
      let s : State := wbase
      let s : State := (s.modPort (p) fun z => { z with guard := { z.guard with closing := .precheck } })
      s), ?_⟩,
    ⟨0, (
      let p : Port := 0
      let s : State := wbase
      let s : State := (s.modPort (p) fun z => { z with guard := { z.guard with closing := .ramp } })
      s), ?_⟩,
    ⟨0, (
      let p : Port := 0
      let s : State := wbase
      let s : State := (s.modPort (p) fun z => { z with guard := { z.guard with closing := .matched } })
      s), ?_⟩,
    ⟨0, (
      let p : Port := 0
      let s : State := wbase
      let s : State := (s.modPort (p) fun z => { z with guard := { z.guard with closing := .marked } })
      s), ?_⟩,
    ⟨0, 5000, 0, (
      let p : Port := 0
      let s : State := wbase
      let s : State := s.wr GUARD.STATE p gOff
      let s : State := s.flag GUARD.GATE_OFF p true
      let s : State := s.wr LOOP.HALT_CAUSE p 1
      s), ?_⟩,
    ⟨0, 0, 0, (
      let p : Port := 0
      let s : State := wbase
      let s : State := s.wr GUARD.STATE p gOn
      s), ?_⟩⟩
  all_goals first | decide +kernel | (unfold AwaitsResponse; decide +kernel)

/-- States and operands that meet the hypotheses of GuardOpensWhenCommanded, clause by clause. -/
theorem test_guard_opens_when_commanded_witness :
    (∃ (p : Port) (s : State), (s.gst p = gPrecheck ∨ s.gst p = gRamp ∨ s.gst p = gEnhance ∨ s.gst p = gOn ∨ s.gst p
      = gOpenWait) ∧ (s.switchOn p = true ∨ (s.port p).guard.closing ≠ .none)) ∧
    (∃ (p : Port) (s : State), (s.gst p = gPrecheck ∨ s.gst p = gRamp ∨ s.gst p = gEnhance ∨ s.gst p = gOn ∨ s.gst p
      = gOpenWait) ∧ (s.port p).guard.closing ≠ .none ∧ s.isSrc p = true) ∧
    (∃ (p : Port) (s : State), s.gst p ≠ gPrecheck ∧ s.gst p ≠ gRamp ∧ s.gst p ≠ gEnhance ∧ s.gst p ≠ gOn ∧ s.gst p ≠
      gOpenWait) ∧
    (∃ (p : Port) (s : State), s.gst p = gOn) ∧
    (∃ (p : Port) (s : State), s.gst p ≠ gOn) ∧
    (∃ (p : Port) (s : State), s.gst p = gOn) ∧
    (∃ (p : Port) (s : State), s.gst p ≠ gOn) ∧
    (∃ (p : Port) (s : State), s.gst p = gOpenWait ∧ (s.port p).guard.openWait = .idle ∧ s.switchOn p = true) ∧
    (∃ (p : Port) (s : State), s.gst p = gOpenWait ∧ (s.port p).guard.openWait = .idle ∧ (s.port p).swap.step =
      .snkIdle) ∧
    (∃ (p : Port) (s : State), s.gst p = gDischarge ∧ s.heldSafe p = false) ∧
    (∃ (p : Port) (s : State), ((s.gst p = gDischarge ∧ s.heldSafe p = true) ∨ s.tripStands p = true)) ∧
    (∃ (p : Port) (v : Nat) (s : State), s.on GUARD.DSG_ON p = true ∧ 800 ≤ v) ∧
    (∃ (p : Port) (v : Nat) (s : State), (s.on GUARD.DSG_ON p = false ∨ v < 800)) := by
  refine ⟨⟨0, (
      let p : Port := 0
      let s : State := wbase
      let s : State := s.wr GUARD.STATE p gPrecheck
      let s : State := s.flag GUARD.GATE_OFF p false
      s), ?_⟩,
    ⟨0, (
      let p : Port := 0
      let s : State := wbase
      let s : State := s.wr GUARD.STATE p gPrecheck
      let s : State := s.flag CC.ATTACHED p true
      let s : State := s.wr CC.PWR_ROLE p 1
      let s : State := (s.modPort p fun z => { z with guard := { z.guard with closing := .ramp } })
      s), ?_⟩,
    ⟨0, wbase, ?_⟩,
    ⟨0, (
      let p : Port := 0
      let s : State := wbase
      let s : State := s.wr GUARD.STATE p gOn
      s), ?_⟩,
    ⟨0, wbase, ?_⟩,
    ⟨0, (
      let p : Port := 0
      let s : State := wbase
      let s : State := s.wr GUARD.STATE p gOn
      s), ?_⟩,
    ⟨0, wbase, ?_⟩,
    ⟨0, (
      let p : Port := 0
      let s : State := wbase
      let s : State := s.wr GUARD.STATE p gOpenWait
      let s : State := (s.modPort (p) fun z => { z with guard := { z.guard with openWait := .idle } })
      let s : State := s.flag GUARD.GATE_OFF p false
      s), ?_⟩,
    ⟨0, (
      let p : Port := 0
      let s : State := wbase
      let s : State := s.wr GUARD.STATE p gOpenWait
      let s : State := (s.modPort (p) fun z => { z with guard := { z.guard with openWait := .idle } })
      let s : State := (s.modPort (p) fun z => { z with swap := { z.swap with step := .snkIdle } })
      s), ?_⟩,
    ⟨0, (
      let p : Port := 0
      let s : State := wbase
      let s : State := s.wr GUARD.STATE p gDischarge
      s), ?_⟩,
    ⟨0, (
      let p : Port := 0
      let s : State := wbase
      let s : State := s.wr GUARD.STATE p gDischarge
      let s : State := s.wr GUARD.STATE p gLatched
      s), ?_⟩,
    ⟨0, 800, (
      let p : Port := 0
      let s : State := wbase
      let s : State := s.flag GUARD.DSG_ON p true
      s), ?_⟩,
    ⟨0, 0, (
      let p : Port := 0
      let s : State := wbase
      let s : State := s.flag GUARD.DSG_ON p false
      s), ?_⟩⟩
  all_goals first | decide +kernel | (unfold AwaitsResponse; decide +kernel)

/-- States and operands that meet the hypotheses of GuardTripsOpenTheSwitch, clause by clause. -/
theorem test_guard_trips_open_the_switch_witness :
    (∃ (p : Port) (c : TripCause) (o : List TripCause) (s : State), s.drives p = true ∧ s.causeTrips p c = true ∧
      o.all (fun x => decide (c.order ≤ x.order)) = true) ∧
    (∃ (p : Port) (c : TripCause) (o : List TripCause) (d : TripCause) (s : State), s.drives p = true ∧ s.causeTrips
      p c = false ∧ s.causeTrips p d = true ∧ o = [d]) ∧
    (∃ (p : Port) (c : TripCause) (o : List TripCause) (s : State), (c :: o).all (fun x => !s.causeTrips p x) = true) ∧
    (∃ (p : Port) (s : State), s.drives p = true ∧ ((s.port p).guard.closing = .ramp ∨ (s.port p).guard.closing =
      .marked)) ∧
    (∃ (p : Port) (s : State), s.drives p = true ∧ ((s.port p).guard.closing = .ramp ∨ (s.port p).guard.closing =
      .enhance ∨ (s.port p).guard.closing = .matched ∨ (s.port p).guard.closing = .matchedMarked ∨ (s.port
      p).guard.closing = .resumed)) ∧
    (∃ (p : Port) (u : Int) (n : Nat) (s : State), s.drives p = true ∧ s.ifastCode p * 15625 ≤ u.natAbs * 100 ∧ (200
      ≤ n ∨ (s.port p).guard.closing = .none)) ∧
    (∃ (p : Port) (u : Int) (n : Nat) (s : State), (u.natAbs * 100 < s.ifastCode p * 15625 ∨ (n < 200 ∧ (s.port
      p).guard.closing = .ramp))) ∧
    (∃ (p : Port) (c : ShortCheck) (i : Int) (v : Nat) (w : Nat) (s : State), s.drives p = true ∧ s.shortFails p c i
      v w = true) ∧
    (∃ (p : Port) (c : ShortCheck) (i : Int) (v : Nat) (w : Nat) (s : State), s.shortFails p c i v w = false) ∧
    (∃ (p : Port) (s : State), (s.rd LOOP.MODE p ≠ mSource ∨ s.running p = false)) ∧
    (∃ (p : Port) (n : Nat) (s : State), s.rd LOOP.MODE p = mSource ∧ s.running p = true ∧ n = limitNext (s.port
      p).guard.limit (s.tIn p) (s.atLimit p) (s.on GUARD.PPS_EXEMPT p) (s.ceilBinds p) ∧ n < (if s.ceilBinds p then
      s.rd GUARD.LIM_T_CEIL p * 1000 else s.rd GUARD.LIM_T p) * 3200000) ∧
    (∃ (p : Port) (s : State), s.drives p = true ∧ s.rd LOOP.MODE p = mSource ∧ s.running p = true ∧ s.ceilBinds p =
      false ∧ s.rd GUARD.LIM_T p * 3200000 ≤ limitNext (s.port p).guard.limit (s.tIn p) (s.atLimit p) (s.on
      GUARD.PPS_EXEMPT p) false) ∧
    (∃ (p : Port) (s : State), s.drives p = true ∧ s.rd LOOP.MODE p = mSource ∧ s.running p = true ∧ s.ceilBinds p =
      true ∧ s.rd GUARD.LIM_T_CEIL p * 1000 * 3200000 ≤ limitNext (s.port p).guard.limit (s.tIn p) (s.atLimit p)
      (s.on GUARD.PPS_EXEMPT p) true) := by
  refine ⟨⟨0, .ifast, ([.plaus]), wbase, ?_⟩,
    ⟨0, .vbusHi, ([.ifast]), .ifast, (
      let p : Port := 0
      let s : State := wbase
      let s : State := s.flag GUARD.MON_HI_EN p false
      s), ?_⟩,
    ⟨0, .vbusHi, ([.vbusHi]), (
      let p : Port := 0
      let s : State := wbase
      let s : State := s.flag GUARD.MON_HI_EN p false
      s), ?_⟩,
    ⟨0, (
      let p : Port := 0
      let s : State := wbase
      let s : State := (s.modPort (p) fun z => { z with guard := { z.guard with closing := .ramp } })
      s), ?_⟩,
    ⟨0, (
      let p : Port := 0
      let s : State := wbase
      let s : State := (s.modPort (p) fun z => { z with guard := { z.guard with closing := .ramp } })
      s), ?_⟩,
    ⟨0, 100000000, 200, wbase, ?_⟩,
    ⟨0, 0, 0, wbase, ?_⟩,
    ⟨0, .off, 500, 0, 0, (
      let p : Port := 0
      let s : State := wbase
      let s : State := s.flag GUARD.GATE_OFF p true
      let s : State := (s.modPort p fun z => { z with guard := { z.guard with opened := true } })
      s), ?_⟩,
    ⟨0, .off, 0, 0, 0, wbase, ?_⟩,
    ⟨0, (
      let p : Port := 0
      let s : State := wbase
      let s : State := s.wr LOOP.MODE p 0
      s), ?_⟩,
    ⟨0, ((limitNext (wbase.port 0).guard.limit (wbase.tIn 0) false false false)), (
      let p : Port := 0
      let s : State := wbase
      let s : State := s.wr LOOP.MODE p (mSource)
      let s : State := s.wr LOOP.HALT_CAUSE p 0
      let s : State := s.wr GUARD.LIM_T p 60000
      let s : State := s.wr GUARD.LIM_T_CEIL p 30
      s), ?_⟩,
    ⟨0, (
      let p : Port := 0
      let s : State := wbase
      let s : State := s.wr LOOP.MODE p (mSource)
      let s : State := s.wr LOOP.HALT_CAUSE p 0
      let s : State := s.wr GUARD.LIM_T p 0
      let s : State := s.wr LOOP.I_FWD_LIM p 0
      s), ?_⟩,
    ⟨0, (
      let p : Port := 0
      let s : State := wbase
      let s : State := s.wr LOOP.MODE p (mSource)
      let s : State := s.wr LOOP.HALT_CAUSE p 0
      let s : State := s.wr GUARD.LIM_T_CEIL p 0
      let s : State := s.wr LOOP.I_FWD_LIM p 5000
      let s : State := s.wr LOOP.I_CEIL p 10
      s), ?_⟩⟩
  all_goals first | decide +kernel | (unfold AwaitsResponse; decide +kernel)

/-- States and operands that meet the hypotheses of GuardHeatAndCurves, clause by clause. -/
theorem test_guard_heat_and_curves_witness :
    (∃ (p : Port) (n : Nat) (s : State), n = heatNext (s.port p).guard.heat (s.tIn p) (s.rd GUARD.T_COOL p)
      (curveRate ((if s.switchOn p then (s.port p).loop.ibus.natAbs else 0) * 100) ((List.range 8).map (s.curvePoint
      p (s.curveB p)))) ∧ n < 2 ^ 32 ∧ s.gst p ≠ gTripped) ∧
    (∃ (p : Port) (s : State), s.drives p = true ∧ 2 ^ 32 ≤ heatNext (s.port p).guard.heat (s.tIn p) (s.rd
      GUARD.T_COOL p) (curveRate ((if s.switchOn p then (s.port p).loop.ibus.natAbs else 0) * 100) ((List.range
      8).map (s.curvePoint p (s.curveB p))))) ∧
    (∃ (p : Port) (s : State), curveOk ((List.range 8).map fun k => s.stgPoint p k) = true ∧ (s.port p).guard.stgRsv
      = 0) ∧
    (∃ (p : Port) (s : State), (curveOk ((List.range 8).map fun k => s.stgPoint p k) = false ∨ (s.port
      p).guard.stgRsv ≠ 0)) ∧
    (∃ (p : Port) (s : State), curveOk ((List.range 8).map fun k => s.stgPoint p k) = true ∧ (s.port p).guard.stgRsv
      = 0) ∧
    (∃ (p : Port) (s : State), (curveOk ((List.range 8).map fun k => s.stgPoint p k) = false ∨ (s.port
      p).guard.stgRsv ≠ 0)) ∧
    (∃ (p : Port) (s : State), s.gst p = gTripped ∧ (s.port p).guard.retryRun = true ∧ (s.rd GUARD.CAUSE p ≠
      TripCause.curve.code ∨ (s.port p).guard.heat < 2 ^ 31)) ∧
    (∃ (p : Port) (s : State), s.gst p = gTripped ∧ (s.port p).guard.retryRun = true ∧ s.rd GUARD.CAUSE p =
      TripCause.curve.code ∧ 2 ^ 31 ≤ (s.port p).guard.heat) ∧
    (∃ (p : Port) (s : State), s.gst p = gTripped ∧ (s.port p).guard.retryElapsed = true ∧ s.rd GUARD.CAUSE p =
      TripCause.curve.code ∧ heatNext (s.port p).guard.heat (s.tIn p) (s.rd GUARD.T_COOL p) (curveRate ((if
      s.switchOn p then (s.port p).loop.ibus.natAbs else 0) * 100) ((List.range 8).map (s.curvePoint p (s.curveB
      p)))) < 2 ^ 31) := by
  refine ⟨⟨0, 0, wbase, ?_⟩,
    ⟨0, (
      let p : Port := 0
      let s : State := wbase
      let s : State := s.flag GUARD.GATE_OFF p false
      let s : State := (s.modPort p fun z => { z with guard := { z.guard with heat := 2 ^ 32 } })
      let s : State := s.wr GUARD.T_COOL p 0xFFFFFF
      let s : State := (s.modPort p fun z => { z with loop := { z.loop with ibus := 2 ^ 40 } })
      s), ?_⟩,
    ⟨0, (
      let p : Port := 0
      let s : State := wbase
      let s : State := (s.modPort (p) fun z => { z with guard := { z.guard with stgRsv := 0 } })
      let s : State := (List.range 8).foldl (fun (t : State) k => ((t.wr GUARD.CURVE_STG_I (pidx p k) (10 + k)).wr GUARD.CURVE_STG_E (pidx p k) 0).wr GUARD.CURVE_STG_M (pidx p k) (100 - k)) s
      let s : State := (s.modPort p fun z => { z with guard := { z.guard with stgRsv := 0 } })
      s), ?_⟩,
    ⟨0, wbase, ?_⟩,
    ⟨0, (
      let p : Port := 0
      let s : State := wbase
      let s : State := (s.modPort (p) fun z => { z with guard := { z.guard with stgRsv := 0 } })
      let s : State := (List.range 8).foldl (fun (t : State) k => ((t.wr GUARD.CURVE_STG_I (pidx p k) (10 + k)).wr GUARD.CURVE_STG_E (pidx p k) 0).wr GUARD.CURVE_STG_M (pidx p k) (100 - k)) s
      let s : State := (s.modPort p fun z => { z with guard := { z.guard with stgRsv := 0 } })
      s), ?_⟩,
    ⟨0, wbase, ?_⟩,
    ⟨0, (
      let p : Port := 0
      let s : State := wbase
      let s : State := s.wr GUARD.STATE p gTripped
      let s : State := (s.modPort (p) fun z => { z with guard := { z.guard with retryRun := true } })
      s), ?_⟩,
    ⟨0, (
      let p : Port := 0
      let s : State := wbase
      let s : State := s.wr GUARD.STATE p gTripped
      let s : State := (s.modPort (p) fun z => { z with guard := { z.guard with retryRun := true } })
      let s : State := s.wr GUARD.CAUSE p (TripCause.curve.code)
      let s : State := (s.modPort p fun z => { z with guard := { z.guard with heat := 2 ^ 31 } })
      s), ?_⟩,
    ⟨0, (
      let p : Port := 0
      let s : State := wbase
      let s : State := s.wr GUARD.STATE p gTripped
      let s : State := (s.modPort (p) fun z => { z with guard := { z.guard with retryElapsed := true } })
      let s : State := s.wr GUARD.CAUSE p (TripCause.curve.code)
      let s : State := (s.modPort p fun z => { z with guard := { z.guard with heat := 0 } })
      let s : State := (s.modPort p fun z => { z with loop := { z.loop with ibus := 0 } })
      s), ?_⟩⟩
  all_goals first | decide +kernel | (unfold AwaitsResponse; decide +kernel)

/-- States and operands that meet the hypotheses of RegisterWritesTakeEffect, clause by clause. -/
theorem test_register_writes_take_effect_witness :
    (∃ (s : State), s.on SYS.READY 0 = false) ∧
    (∃ (s : State), s.on SYS.READY 0 = false) ∧
    (∃ (s : State), s.on SYS.READY 0 = false) ∧
    (∃ (s : State), s.on SYS.READY 0 = false) ∧
    (∃ (s : State), s.on SYS.READY 0 = false) ∧
    (∃ (s : State), s.on SYS.READY 0 = false) ∧
    (∃ (s : State), s.on SYS.READY 0 = false) ∧
    (∃ (s : State), s.on SYS.READY 0 = false) ∧
    (∃ (s : State), s.on SYS.READY 0 = false) ∧
    (∃ (s : State), s.on SYS.READY 0 = false) ∧
    (∃ (a : BitVec 24) (s : State), s.on SYS.READY 0 = true ∧ (a.toNat % 4 ≠ 0 ∨ addrMapped a.toNat = false)) ∧
    (∃ (a : BitVec 24) (s : State), s.on SYS.READY 0 = true ∧ (a.toNat % 4 ≠ 0 ∨ addrMapped a.toNat = false)) ∧
    (∃ (a : BitVec 24) (g : PageRef) (s : State), s.on SYS.READY 0 = true ∧ pageOf a.toNat = some (g.type, g.inst,
      0x10) ∧ a.toNat % 4 = 0 ∧ addrMapped a.toNat = true) ∧
    (∃ (a : BitVec 24) (v : Word) (g : PageRef) (o : Nat) (s : State), s.on SYS.READY 0 = true ∧ pageOf a.toNat =
      some (g.type, g.inst, o) ∧ a.toNat % 4 = 0 ∧ addrMapped a.toNat = true ∧ 0x40 ≤ o ∧ o < 0x200 ∧ foreignWord
      g.type o = false ∧ (fieldsAt g.type g.inst o).all (fun x => x.1.rw || x.1.access == .ro) = true ∧ (fieldsAt
      g.type g.inst o).any (fun x => x.1.rw) = true ∧ g.type ≠ MBX.page ∧ wordOk g.type g.inst o v.toNat = true ∧
      s.on (LOCK g.type) g.inst = true) ∧
    (∃ (a : BitVec 24) (v : Word) (g : PageRef) (o : Nat) (s : State), s.on SYS.READY 0 = true ∧ pageOf a.toNat =
      some (g.type, g.inst, o) ∧ a.toNat % 4 = 0 ∧ addrMapped a.toNat = true ∧ 0x40 ≤ o ∧ o < 0x200 ∧ foreignWord
      g.type o = false ∧ (fieldsAt g.type g.inst o).all (fun x => x.1.rw || x.1.access == .ro) = true ∧ (fieldsAt
      g.type g.inst o).any (fun x => x.1.rw) = true ∧ g.type ≠ MBX.page ∧ wordOk g.type g.inst o v.toNat = false ∧
      s.on (LOCK g.type) g.inst = false) ∧
    (∃ (a : BitVec 24) (v : Word) (g : PageRef) (o : Nat) (s : State), s.on SYS.READY 0 = true ∧ pageOf a.toNat =
      some (g.type, g.inst, o) ∧ a.toNat % 4 = 0 ∧ addrMapped a.toNat = true ∧ 0x40 ≤ o ∧ o < 0x200 ∧ foreignWord
      g.type o = false ∧ (fieldsAt g.type g.inst o).all (fun x => x.1.rw || x.1.access == .ro) = true ∧ (fieldsAt
      g.type g.inst o).any (fun x => x.1.rw) = true ∧ g.type ≠ MBX.page ∧ g.type ∈ [IRQ.page, LEDGER.page,
      BUDGET.page, HSPI.page, SMB.page] ∧ wordOk g.type g.inst o v.toNat = true ∧ s.on (LOCK g.type) g.inst = false ∧
      s.writeDenied g.type g.inst o v.toNat = false) ∧
    (∃ (s : State), s.on SYS.READY 0 = true) ∧
    (∃ (s : State), s.on SYS.READY 0 = true) ∧
    (∃ (g : PageRef) (s : State), s.on SYS.READY 0 = true ∧ s.rd (EN g.type) g.inst < 2) ∧
    (∃ (g : PageRef) (s : State), s.on SYS.READY 0 = true ∧ s.rd (EN g.type) g.inst < 2 ∧ s.rd (SNAP_EXCLUDE g.type)
      g.inst < 2 ∧ (g = .sys 9 ∨ g = .sys 16)) ∧
    (∃ (g : PageRef) (s : State), s.on SYS.READY 0 = true ∧ g ≠ .sys 9 ∧ g ≠ .sys 16) ∧
    (∃ (g : PageRef) (s : State), s.on SYS.READY 0 = true ∧ s.rd (EN g.type) g.inst < 2 ∧ (g = .sys 7 ∨ g = .sys 8 ∨
      g = .sys 9) ∧ s.on (LOCK g.type) 0 = false) ∧
    (∃ (g : PageRef) (s : State), s.on SYS.READY 0 = true ∧ s.rd (EN g.type) g.inst < 2 ∧ ((g ≠ .sys 7 ∧ g ≠ .sys 8 ∧
      g ≠ .sys 9) ∨ s.on (LOCK g.type) g.inst = true)) ∧
    (∃ (p : Port) (o : BitVec 12) (v : Word) (s : State), s.on SYS.READY 0 = true ∧ s.ownsPorts = true ∧ p.val < 8 ∧
      o.toNat = 0x100 * (p.val + 1) + 0x0C ∧ 50 ≤ v.toNat % 512 ∧ v.toNat % 512 ≤ 500) ∧
    (∃ (p : Port) (o : BitVec 12) (v : Word) (s : State), s.on SYS.READY 0 = true ∧ s.ownsPorts = true ∧ p.val < 8 ∧
      o.toNat = 0x100 * (p.val + 1) + 0x0C ∧ (v.toNat % 512 < 50 ∨ 500 < v.toNat % 512)) ∧
    (∃ (p : Port) (o : BitVec 12) (s : State), s.on SYS.READY 0 = true ∧ s.ownsPorts = true ∧ p.val < 8 ∧ o.toNat =
      0x100 * (p.val + 1) + 8) ∧
    (∃ (p : Port) (o : BitVec 12) (v : Word) (s : State), s.on SYS.READY 0 = true ∧ s.ownsPorts = true ∧ p.val < 8 ∧
      o.toNat = 0x100 * (p.val + 1) ∧ v.toNat % 2 = 0) ∧
    (∃ (p : Port) (o : BitVec 12) (v : Word) (s : State), s.on SYS.READY 0 = true ∧ s.mayEnable p = true ∧ p.val < 8
      ∧ o.toNat = 0x100 * (p.val + 1) ∧ v.toNat % 2 = 1 ∧ v.toNat / 2 % 4 ≠ 0) ∧
    (∃ (p : Port) (o : BitVec 12) (s : State), s.on SYS.READY 0 = true ∧ s.ownsPorts = false ∧ p.val < 8 ∧ o.toNat /
      0x100 = p.val + 1 ∧ o.toNat % 0x100 ∈ [0x00, 0x08, 0x0C, 0x1C]) ∧
    (∃ (o : BitVec 12) (s : State), s.on SYS.READY 0 = true ∧ windowMapped o.toNat = false) ∧
    (∃ (o : BitVec 12) (s : State), s.on SYS.READY 0 = true ∧ windowMapped o.toNat = false) ∧
    (∃ (s : State), s.on SYS.READY 0 = true ∧ s.dev ≠ .warmReset ∧ s.dev ≠ .boot ∧ s.warmRefused = false) ∧
    (∃ (s : State), s.on SYS.READY 0 = true ∧ s.warmRefused = true) ∧
    (∃ (s : State), s.on SYS.READY 0 = true ∧ s.dev = .run ∧ s.pow.intoSafe = false) ∧
    (∃ (s : State), s.on SYS.READY 0 = true ∧ s.dev = .safe ∧ s.safeCleared = true) ∧
    (∃ (s : State), s.on SYS.READY 0 = true ∧ s.dev = .safe ∧ s.safeCleared = false) := by
  refine ⟨⟨(
      let s : State := wbase
      let s : State := s.flag SYS.READY 0 false
      let s : State := s.flag SYS.READY 0 false
      s), ?_⟩,
    ⟨(
      let s : State := wbase
      let s : State := s.flag SYS.READY 0 false
      let s : State := s.flag SYS.READY 0 false
      s), ?_⟩,
    ⟨(
      let s : State := wbase
      let s : State := s.flag SYS.READY 0 false
      let s : State := s.flag SYS.READY 0 false
      s), ?_⟩,
    ⟨(
      let s : State := wbase
      let s : State := s.flag SYS.READY 0 false
      let s : State := s.flag SYS.READY 0 false
      s), ?_⟩,
    ⟨(
      let s : State := wbase
      let s : State := s.flag SYS.READY 0 false
      let s : State := s.flag SYS.READY 0 false
      s), ?_⟩,
    ⟨(
      let s : State := wbase
      let s : State := s.flag SYS.READY 0 false
      let s : State := s.flag SYS.READY 0 false
      s), ?_⟩,
    ⟨(
      let s : State := wbase
      let s : State := s.flag SYS.READY 0 false
      let s : State := s.flag SYS.READY 0 false
      s), ?_⟩,
    ⟨(
      let s : State := wbase
      let s : State := s.flag SYS.READY 0 false
      let s : State := s.flag SYS.READY 0 false
      s), ?_⟩,
    ⟨(
      let s : State := wbase
      let s : State := s.flag SYS.READY 0 false
      let s : State := s.flag SYS.READY 0 false
      s), ?_⟩,
    ⟨(
      let s : State := wbase
      let s : State := s.flag SYS.READY 0 false
      let s : State := s.flag SYS.READY 0 false
      s), ?_⟩,
    ⟨1, (
      let s : State := wbase
      let s : State := s.flag SYS.READY 0 true
      s), ?_⟩,
    ⟨1, (
      let s : State := wbase
      let s : State := s.flag SYS.READY 0 true
      s), ?_⟩,
    ⟨0x10, ((.sys 0)), (
      let s : State := wbase
      let s : State := s.flag SYS.READY 0 true
      s), ?_⟩,
    ⟨0x3C44, 100, ((.sys 15)), 0x44, (
      let g : PageRef := (.sys 15)
      let s : State := wbase
      let s : State := s.flag SYS.READY 0 true
      let s : State := s.flag (LOCK g.type) g.inst true
      s), ?_⟩,
    ⟨0x3C40, 100, ((.sys 15)), 0x40, (
      let g : PageRef := (.sys 15)
      let s : State := wbase
      let s : State := s.flag SYS.READY 0 true
      let s : State := s.flag (LOCK g.type) g.inst false
      s), ?_⟩,
    ⟨0x3C44, 100, ((.sys 15)), 0x44, (
      let g : PageRef := (.sys 15)
      let s : State := wbase
      let s : State := s.flag SYS.READY 0 true
      let s : State := s.flag (LOCK g.type) g.inst false
      s), ?_⟩,
    ⟨(
      let s : State := wbase
      let s : State := s.flag SYS.READY 0 true
      s), ?_⟩,
    ⟨(
      let s : State := wbase
      let s : State := s.flag SYS.READY 0 true
      s), ?_⟩,
    ⟨((.sys 7)), (
      let s : State := wbase
      let s : State := s.flag SYS.READY 0 true
      s), ?_⟩,
    ⟨((.sys 9)), (
      let s : State := wbase
      let s : State := s.flag SYS.READY 0 true
      s), ?_⟩,
    ⟨((.sys 7)), (
      let s : State := wbase
      let s : State := s.flag SYS.READY 0 true
      s), ?_⟩,
    ⟨((.sys 7)), (
      let g : PageRef := (.sys 7)
      let s : State := wbase
      let s : State := s.flag SYS.READY 0 true
      let s : State := s.flag (LOCK g.type) 0 false
      s), ?_⟩,
    ⟨((.sys 0)), (
      let s : State := wbase
      let s : State := s.flag SYS.READY 0 true
      s), ?_⟩,
    ⟨0, 0x10C, 100, (
      let s : State := wbase
      let s : State := s.flag SYS.READY 0 true
      s), ?_⟩,
    ⟨0, 0x10C, 10, (
      let s : State := wbase
      let s : State := s.flag SYS.READY 0 true
      s), ?_⟩,
    ⟨0, 0x108, (
      let s : State := wbase
      let s : State := s.flag SYS.READY 0 true
      s), ?_⟩,
    ⟨0, 0x100, 6, (
      let s : State := wbase
      let s : State := s.flag SYS.READY 0 true
      s), ?_⟩,
    ⟨0, 0x100, 7, (
      let s : State := wbase
      let s : State := s.flag SYS.READY 0 true
      let s : State := s.wr CC.ROLE 0 3
      s), ?_⟩,
    ⟨0, 0x10C, (
      let s : State := wbase
      let s : State := s.flag SYS.READY 0 true
      let s : State := s.wr PAIR.PAIR_STATE 0 psLeft
      s), ?_⟩,
    ⟨0x20, (
      let s : State := wbase
      let s : State := s.flag SYS.READY 0 true
      s), ?_⟩,
    ⟨0x20, (
      let s : State := wbase
      let s : State := s.flag SYS.READY 0 true
      s), ?_⟩,
    ⟨(
      let s : State := wbase
      let s : State := s.flag SYS.READY 0 true
      let s : State := { s with dev := .run }
      s), ?_⟩,
    ⟨(
      let s : State := wbase
      let s : State := s.flag SYS.READY 0 true
      let s : State := s.wr BOOT.STATE 0 3
      s), ?_⟩,
    ⟨(
      let s : State := wbase
      let s : State := s.flag SYS.READY 0 true
      let s : State := { s with dev := .run }
      let s : State := { s with pow := { s.pow with intoSafe := false } }
      s), ?_⟩,
    ⟨(
      let s : State := wbase
      let s : State := s.flag SYS.READY 0 true
      let s : State := { s with dev := .safe }
      s), ?_⟩,
    ⟨(
      let s : State := wbase
      let s : State := s.flag SYS.READY 0 true
      let s : State := { s with dev := .safe }
      let s : State := s.wr RST.SAFE_CAUSE 0 scClock
      let s : State := s.flag CLK.XIN_OK 0 false
      s), ?_⟩⟩
  all_goals first | decide +kernel | (unfold AwaitsResponse; decide +kernel)

/-- States and operands that meet the hypotheses of LedgerCommandsAnswer, clause by clause. -/
theorem test_ledger_commands_answer_witness :
    (∃ (k : Packet) (r : LedRec) (s : State), s.serves = true ∧ k.tgt < ledgerSlots ∧ k.plain = true ∧ s.record k.tgt
      = some r ∧ AwaitsResponse k ((recBytes r)) s) ∧
    (∃ (k : Packet) (s : State), s.serves = true ∧ k.tgt < ledgerSlots ∧ k.plain = true ∧ s.record k.tgt = none ∧
      AwaitsResponse k [] s) ∧
    (∃ (k : Packet) (s : State), s.serves = true ∧ (ledgerSlots ≤ k.tgt ∨ k.plain = false) ∧ AwaitsResponse k [] s) ∧
    (∃ (k : Packet) (s : State), s.serves = true ∧ s.standby = false ∧ k.portOf = none ∧ k.chip = true ∧ k.len = 8 ∧
      k.arg = 0 ∧ AwaitsResponse k [] s) ∧
    (∃ (p : Port) (k : Packet) (s : State), s.serves = true ∧ s.standby = false ∧ k.portOf = some p ∧ k.plain = true
      ∧ AwaitsResponse k [] s) ∧
    (∃ (p : Port) (k : Packet) (s : State), s.serves = true ∧ s.standby = false ∧ k.portOf = some p ∧ k.plain = false
      ∧ AwaitsResponse k [] s) ∧
    (∃ (k : Packet) (s : State), s.serves = true ∧ s.standby = false ∧ k.portOf = none ∧ (k.chip = false ∨ k.len ≠ 8
      ∨ k.arg ≠ 0) ∧ AwaitsResponse k [] s) ∧
    (∃ (k : Packet) (s : State), s.serves = true ∧ s.standby = true ∧ AwaitsResponse k [] s) ∧
    (∃ (k : Packet) (r : LedRec) (s : State), s.serves = true ∧ s.standby = false ∧ k.tgt < ledgerSlots ∧ k.ar < 3 ∧
      k.len = 16 ∧ s.record k.tgt = some r ∧ AwaitsResponse k [] s) ∧
    (∃ (k : Packet) (s : State), s.serves = true ∧ s.standby = false ∧ k.tgt < ledgerSlots ∧ k.ar < 3 ∧ k.len = 16 ∧
      s.record k.tgt = none ∧ AwaitsResponse k [] s) ∧
    (∃ (k : Packet) (s : State), s.serves = true ∧ s.standby = false ∧ (ledgerSlots ≤ k.tgt ∨ 3 ≤ k.ar ∨ k.len ≠ 16)
      ∧ AwaitsResponse k [] s) ∧
    (∃ (k : Packet) (s : State), s.serves = true ∧ s.standby = true ∧ AwaitsResponse k [] s) ∧
    (∃ (k : Packet) (s : State), s.serves = true ∧ s.standby = false ∧ k.chip = true ∧ k.payload = [] ∧ bits k.ar 29
      13 = 0 ∧ AwaitsResponse k (((s.led.recs.filter fun x => decide (k.ar % 8192 ≤ x.1) && (!k.ar.testBit 31 ||
      decide (s.rd LEDGER.MARK 0 < x.2.seq))).take 31).flatMap exportEntry) s) ∧
    (∃ (k : Packet) (s : State), s.serves = true ∧ s.standby = false ∧ k.chip = true ∧ k.payload = [] ∧ bits k.ar 29
      13 = 0 ∧ k.ar.testBit 30 = true ∧ ((s.led.recs.filter fun x => decide (k.ar % 8192 ≤ x.1) && (!k.ar.testBit 31
      || decide (s.rd LEDGER.MARK 0 < x.2.seq))).drop 31).isEmpty = true) ∧
    (∃ (k : Packet) (s : State), s.serves = true ∧ s.standby = false ∧ (k.chip = false ∨ k.payload ≠ [] ∨ bits k.ar
      29 13 ≠ 0) ∧ AwaitsResponse k [] s) ∧
    (∃ (k : Packet) (s : State), s.serves = true ∧ s.standby = true ∧ AwaitsResponse k [] s) ∧
    (∃ (k : Packet) (s : State), s.serves = true ∧ s.standby = false ∧ k.payload.isEmpty = true ∧ k.ar = 0 ∧ k.tgt <
      ledgerSlots ∧ s.record k.tgt = none ∧ AwaitsResponse k [] s) ∧
    (∃ (k : Packet) (r : LedRec) (s : State), s.serves = true ∧ s.standby = false ∧ k.payload.isEmpty = true ∧ k.ar =
      0 ∧ k.tgt < ledgerSlots ∧ s.record k.tgt = some r ∧ keepsPurge r = false ∧ AwaitsResponse k [] s) ∧
    (∃ (k : Packet) (r : LedRec) (s : State), s.serves = true ∧ s.standby = false ∧ k.payload.isEmpty = true ∧ k.ar =
      0 ∧ k.tgt < ledgerSlots ∧ s.record k.tgt = some r ∧ keepsPurge r = true ∧ AwaitsResponse k [] s) ∧
    (∃ (k : Packet) (s : State), s.serves = true ∧ s.standby = false ∧ k.payload.isEmpty = true ∧ k.chip = true ∧
      ((k.ar / 2 ^ 24 = 1 ∧ k.ar % 2 ^ 24 = 0) ∨ (k.ar / 2 ^ 24 = 2 ∧ bits k.ar 23 16 = 0)) ∧ AwaitsResponse k [] s) ∧
    (∃ (k : Packet) (s : State), s.serves = true ∧ s.standby = false ∧ (k.payload.isEmpty = false ∨ 3 ≤ k.ar / 2 ^ 24
      ∨ (k.ar / 2 ^ 24 = 0 ∧ (ledgerSlots ≤ k.tgt ∨ k.ar ≠ 0)) ∨ (k.ar / 2 ^ 24 = 1 ∧ (k.chip = false ∨ k.ar % 2 ^ 24
      ≠ 0)) ∨ (k.ar / 2 ^ 24 = 2 ∧ (k.chip = false ∨ bits k.ar 23 16 ≠ 0))) ∧ AwaitsResponse k [] s) ∧
    (∃ (k : Packet) (s : State), s.serves = true ∧ s.standby = true ∧ AwaitsResponse k [] s) := by
  refine ⟨⟨(⟨1, 0, 0, 0, 0, [], none⟩), (⟨1, 0, 0, 0, 0, 0, 0, 0, 0, 0, 0, 0, 0, 0, 0, 0, 0, 0, 0, 0, 0, 0, 0, 0, [], 0, 0, 0, 0, [], 0⟩), (
      let s : State := wbase
      let s : State := { s with dev := .run }
      let s : State := s.flag SYS.READY 0 true
      let s : State := { s with led := { s.led with recs := [(0, ⟨1, 0, 0, 0, 0, 0, 0, 0, 0, 0, 0, 0, 0, 0, 0, 0, 0, 0, 0, 0, 0, 0, 0, 0, [], 0, 0, 0, 0, [], 0⟩)] } }
      s), ?_⟩,
    ⟨(⟨1, 0, 0, 5, 0, [], none⟩), (
      let s : State := wbase
      let s : State := { s with dev := .run }
      let s : State := s.flag SYS.READY 0 true
      let s : State := { s with led := { s.led with recs := [(0, ⟨1, 0, 0, 0, 0, 0, 0, 0, 0, 0, 0, 0, 0, 0, 0, 0, 0, 0, 0, 0, 0, 0, 0, 0, [], 0, 0, 0, 0, [], 0⟩)] } }
      s), ?_⟩,
    ⟨(⟨1, 0, 0, 0xFFFF, 0, [], none⟩), (
      let s : State := wbase
      let s : State := { s with dev := .run }
      let s : State := s.flag SYS.READY 0 true
      s), ?_⟩,
    ⟨(⟨1, 0, 0, 0xFFFF, BitVec.ofNat 32 (0), List.replicate 8 0, none⟩), (
      let s : State := wbase
      let s : State := { s with dev := .run }
      let s : State := s.flag SYS.READY 0 true
      s), ?_⟩,
    ⟨0, (let p : Port := 0; ⟨1, 0, 0, BitVec.ofNat 16 (p : Port).val, 0, [], none⟩), (
      let s : State := wbase
      let s : State := { s with dev := .run }
      let s : State := s.flag SYS.READY 0 true
      s), ?_⟩,
    ⟨0, (let p : Port := 0; ⟨1, 0, 0, BitVec.ofNat 16 (p : Port).val, 1, [], none⟩), (
      let s : State := wbase
      let s : State := { s with dev := .run }
      let s : State := s.flag SYS.READY 0 true
      s), ?_⟩,
    ⟨(⟨1, 0, 0, 0xFFFF, 0, [], none⟩), (
      let s : State := wbase
      let s : State := { s with dev := .run }
      let s : State := s.flag SYS.READY 0 true
      s), ?_⟩,
    ⟨(⟨1, 0, 0, 0xFFFF, 0, [], none⟩), (
      let s : State := wbase
      let s : State := { s with dev := .run }
      let s : State := s.flag SYS.READY 0 true
      let s : State := s.wr PAIR.PAIR_STATE 0 3
      s), ?_⟩,
    ⟨(⟨1, 0, 0, 0, 0, List.replicate 16 0, none⟩), (⟨1, 0, 0, 0, 0, 0, 0, 0, 0, 0, 0, 0, 0, 0, 0, 0, 0, 0, 0, 0, 0, 0, 0, 0, [], 0, 0, 0, 0, [], 0⟩), (
      let s : State := wbase
      let s : State := { s with dev := .run }
      let s : State := s.flag SYS.READY 0 true
      let s : State := { s with led := { s.led with recs := [(0, ⟨1, 0, 0, 0, 0, 0, 0, 0, 0, 0, 0, 0, 0, 0, 0, 0, 0, 0, 0, 0, 0, 0, 0, 0, [], 0, 0, 0, 0, [], 0⟩)] } }
      s), ?_⟩,
    ⟨(⟨1, 0, 0, 0, 0, List.replicate 16 0, none⟩), (
      let s : State := wbase
      let s : State := { s with dev := .run }
      let s : State := s.flag SYS.READY 0 true
      s), ?_⟩,
    ⟨(⟨1, 0, 0, 0xFFFF, 0, [], none⟩), (
      let s : State := wbase
      let s : State := { s with dev := .run }
      let s : State := s.flag SYS.READY 0 true
      s), ?_⟩,
    ⟨(⟨1, 0, 0, 0xFFFF, 0, [], none⟩), (
      let s : State := wbase
      let s : State := { s with dev := .run }
      let s : State := s.flag SYS.READY 0 true
      let s : State := s.wr PAIR.PAIR_STATE 0 3
      s), ?_⟩,
    ⟨(⟨1, 0, 0, 0xFFFF, 0, [], none⟩), (
      let s : State := wbase
      let s : State := { s with dev := .run }
      let s : State := s.flag SYS.READY 0 true
      let s : State := { s with led := { s.led with recs := [(0, ⟨1, 0, 0, 0, 0, 0, 0, 0, 0, 0, 0, 0, 0, 0, 0, 0, 0, 0, 0, 0, 0, 0, 0, 0, [], 0, 0, 0, 0, [], 0⟩)] } }
      s), ?_⟩,
    ⟨(⟨1, 0, 0, 0xFFFF, BitVec.ofNat 32 (2 ^ 30), [], none⟩), (
      let s : State := wbase
      let s : State := { s with dev := .run }
      let s : State := s.flag SYS.READY 0 true
      let s : State := s.wr LEDGER.SEQ_NOW 0 5
      s), ?_⟩,
    ⟨(⟨1, 0, 0, 5, 0, [], none⟩), (
      let s : State := wbase
      let s : State := { s with dev := .run }
      let s : State := s.flag SYS.READY 0 true
      s), ?_⟩,
    ⟨(⟨1, 0, 0, 0xFFFF, 0, [], none⟩), (
      let s : State := wbase
      let s : State := { s with dev := .run }
      let s : State := s.flag SYS.READY 0 true
      let s : State := s.wr PAIR.PAIR_STATE 0 3
      s), ?_⟩,
    ⟨(⟨1, 0, 0, 5, BitVec.ofNat 32 (0), [], none⟩), (
      let s : State := wbase
      let s : State := { s with dev := .run }
      let s : State := s.flag SYS.READY 0 true
      let s : State := { s with led := { s.led with recs := [(0, ⟨1, 0, 0, 0, 0, 0, 0, 0, 0, 0, 0, 0, 0, 0, 0, 0, 0, 0, 0, 0, 0, 0, 0, 0, [], 0, 0, 0, 0, [], 0⟩)] } }
      s), ?_⟩,
    ⟨(⟨1, 0, 0, 0, BitVec.ofNat 32 (0), [], none⟩), (⟨1, 0, 0, 0, 0, 0, 0, 0, 0, 0, 0, 0, 0, 0, 0, 0, 0, 0, 0, 0, 0, 0, 0, 0, [], 0, 0, 0, 0, [], 0⟩), (
      let s : State := wbase
      let s : State := { s with dev := .run }
      let s : State := s.flag SYS.READY 0 true
      let s : State := { s with led := { s.led with recs := [(0, ⟨1, 0, 0, 0, 0, 0, 0, 0, 0, 0, 0, 0, 0, 0, 0, 0, 0, 0, 0, 0, 0, 0, 0, 0, [], 0, 0, 0, 0, [], 0⟩)] } }
      s), ?_⟩,
    ⟨(⟨1, 0, 0, 0, BitVec.ofNat 32 (0), [], none⟩), (setRecFlag ⟨1, 0, 0, 0, 0, 0, 0, 0, 0, 0, 0, 0, 0, 0, 0, 0, 0, 0, 0, 0, 0, 0, 0, 0, [], 0, 0, 0, 0, [], 0⟩ rfPinned true), (
      let s : State := wbase
      let s : State := { s with dev := .run }
      let s : State := s.flag SYS.READY 0 true
      let s : State := { s with led := { s.led with recs := [(0, setRecFlag ⟨1, 0, 0, 0, 0, 0, 0, 0, 0, 0, 0, 0, 0, 0, 0, 0, 0, 0, 0, 0, 0, 0, 0, 0, [], 0, 0, 0, 0, [], 0⟩ rfPinned true)] } }
      s), ?_⟩,
    ⟨(⟨1, 0, 0, 0xFFFF, BitVec.ofNat 32 (2 ^ 24), [], none⟩), (
      let s : State := wbase
      let s : State := { s with dev := .run }
      let s : State := s.flag SYS.READY 0 true
      let s : State := { s with led := { s.led with recs := [(0, ⟨1, 0, 0, 0, 0, 0, 0, 0, 0, 0, 0, 0, 0, 0, 0, 0, 0, 0, 0, 0, 0, 0, 0, 0, [], 0, 0, 0, 0, [], 0⟩)] } }
      s), ?_⟩,
    ⟨(⟨1, 0, 0, 0xFFFF, 0, [1], none⟩), (
      let s : State := wbase
      let s : State := { s with dev := .run }
      let s : State := s.flag SYS.READY 0 true
      s), ?_⟩,
    ⟨(⟨1, 0, 0, 0xFFFF, 0, [], none⟩), (
      let s : State := wbase
      let s : State := { s with dev := .run }
      let s : State := s.flag SYS.READY 0 true
      let s : State := s.wr PAIR.PAIR_STATE 0 3
      s), ?_⟩⟩
  all_goals first | decide +kernel | (unfold AwaitsResponse; decide +kernel)

/-- States and operands that meet the hypotheses of SessionsGatherAndClose, clause by clause. -/
theorem test_sessions_gather_and_close_witness :
    (∃ (p : Port) (s : State), (s.port p).sess.isOpen = true ∧ s.standby = false ∧ s.carriedByTwill p = true ∧
      (s.port p).sess.idStep = 0 ∧ (s.port p).sess.known = false ∧ s.rd PD.HDR_DATA_ROLE p = 1) ∧
    (∃ (p : Port) (s : State), (s.port p).sess.isOpen = true ∧ s.standby = false ∧ s.carriedByTwill p = true ∧
      (s.port p).sess.idStep = 0 ∧ (s.port p).sess.known = false ∧ s.rd PD.HDR_DATA_ROLE p ≠ 1 ∧ s.rev3 p = true) ∧
    (∃ (p : Port) (s : State), (s.port p).sess.isOpen = true ∧ s.standby = false ∧ s.carriedByTwill p = true ∧
      (s.port p).sess.idStep = 0 ∧ (s.port p).sess.known = false ∧ s.rd PD.HDR_DATA_ROLE p ≠ 1 ∧ s.rev3 p = false) ∧
    (∃ (p : Port) (s : State), ((s.port p).sess.idStep ≠ 0 ∨ (s.port p).sess.known = true)) ∧
    (∃ (p : Port) (s : State), (s.port p).sess.isOpen = true ∧ s.standby = false ∧ s.carriedByTwill p = true ∧
      (s.port p).sess.idStep = 2 ∧ s.rev3 p = true) ∧
    (∃ (p : Port) (s : State), (s.port p).sess.isOpen = true ∧ s.standby = false ∧ s.carriedByTwill p = true ∧
      (s.port p).sess.idStep = 2 ∧ s.rev3 p = true) ∧
    (∃ (p : Port) (s : State), (s.port p).sess.isOpen = true ∧ s.standby = false ∧ s.carriedByTwill p = true ∧
      (s.port p).sess.idStep = 2 ∧ s.rev3 p = false) ∧
    (∃ (p : Port) (s : State), (s.port p).sess.idStep ≠ 2) ∧
    (∃ (p : Port) (s : State), (s.port p).sess.isOpen = true ∧ s.standby = false ∧ s.carriedByTwill p = true ∧
      (s.port p).sess.idStep = 3) ∧
    (∃ (p : Port) (s : State), (s.port p).sess.idStep ≠ 3) ∧
    (∃ (p : Port) (s : State), (s.port p).sess.isOpen = true ∧ s.standby = false ∧ s.carriedByTwill p = true ∧
      (s.port p).sess.idStep = 4) ∧
    (∃ (p : Port) (s : State), (s.port p).sess.idStep ≠ 4) ∧
    (∃ (p : Port) (s : State), (s.port p).sess.isOpen = true ∧ s.standby = false ∧ s.carriedByTwill p = true ∧
      (s.port p).sess.idStep = 5) ∧
    (∃ (p : Port) (s : State), (s.port p).sess.isOpen = true ∧ s.standby = false ∧ s.carriedByTwill p = true ∧
      (s.port p).sess.idStep = 0 ∧ (s.port p).pe.await = .batteryStatus) ∧
    (∃ (p : Port) (s : State), ((s.port p).sess.isOpen = false ∨ s.standby = true ∨ s.carriedByTwill p = false)) ∧
    (∃ (p : Port) (s : State), (s.port p).sess.isOpen = true ∧ s.standby = false ∧ s.carriedByTwill p = true ∧
      (s.port p).sess.idStep = 0 ∧ (s.port p).sess.known = true ∧ s.rev3 p = true) ∧
    (∃ (p : Port) (s : State), ((s.port p).sess.isOpen = false ∨ s.standby = true ∨ s.carriedByTwill p = false ∨
      (s.port p).sess.idStep ≠ 0 ∨ (s.port p).sess.known = false ∨ s.rev3 p = false)) ∧
    (∃ (p : Port) (s : State), (s.port p).sess.isOpen = true ∧ s.standby = false ∧ (s.port p).sess.known = true ∧
      (s.port p).sess.slot.isSome = true ∧ (s.port p).sess.authStep = 0 ∧ (s.port p).sess.authDone = false ∧
      (s.authMode p = 1 ∨ s.authMode p = 2)) ∧
    (∃ (p : Port) (d : List Byte) (r : LedRec) (s : State), (s.port p).sess.isOpen = true ∧ s.standby = false ∧
      (s.port p).sess.authStep = 1 ∧ (s.port p).sess.slot.bind s.record = some r ∧ s.authSkips (s.port p).sess r d =
      true) ∧
    (∃ (p : Port) (s : State), (s.port p).sess.isOpen = true ∧ s.standby = false ∧ (s.port p).sess.authStep = 1 ∧
      (s.port p).sess.slot.bind s.record = none) ∧
    (∃ (p : Port) (d : List Byte) (r : LedRec) (s : State), (s.port p).sess.isOpen = true ∧ s.standby = false ∧
      (s.port p).sess.authStep = 1 ∧ (s.port p).sess.slot.bind s.record = some r ∧ s.authSkips (s.port p).sess r d =
      false) ∧
    (∃ (p : Port) (n : Nat) (s : State), (s.port p).sess.isOpen = true ∧ s.standby = false ∧ (s.port p).sess.authStep
      = 3 ∧ 4096 < n) ∧
    (∃ (p : Port) (n : Nat) (l : List Byte) (s : State), (s.port p).sess.isOpen = true ∧ s.standby = false ∧ (s.port
      p).sess.authStep = 3 ∧ n ≤ 4096 ∧ ((s.port p).sess.chain ++ l.take 256).length < n ∧ l ≠ []) ∧
    (∃ (p : Port) (n : Nat) (l : List Byte) (s : State), (s.port p).sess.isOpen = true ∧ s.standby = false ∧ (s.port
      p).sess.authStep = 3 ∧ n ≤ 4096 ∧ (n ≤ ((s.port p).sess.chain ++ l.take 256).length ∨ l = [])) ∧
    (∃ (p : Port) (s : State), (s.port p).sess.isOpen = true ∧ s.standby = false ∧ (s.port p).sess.authStep = 5) ∧
    (∃ (p : Port) (s : State), (s.port p).sess.isOpen = true ∧ s.standby = false ∧ (s.port p).sess.authStep ≠ 0 ∧
      (s.port p).sess.resent = true) ∧
    (∃ (p : Port) (s : State), (s.port p).sess.isOpen = true ∧ s.standby = false ∧ (s.port p).sess.authStep ≠ 0 ∧
      (s.port p).sess.resent = false) ∧
    (∃ (p : Port) (s : State), (s.port p).sess.isOpen = true ∧ s.standby = false ∧ (s.port p).sess.authStep ≠ 0) ∧
    (∃ (p : Port) (s : State), ((s.port p).sess.isOpen = false ∨ s.standby = true)) ∧
    (∃ (p : Port) (s : State), (s.port p).sess.ended = true ∧ (s.port p).sess.isOpen = false ∧ s.standby = false) ∧
    (∃ (p : Port) (s : State), ((s.port p).sess.ended = false ∨ (s.port p).sess.isOpen = true ∨ s.standby = true)) ∧
    (∃ (i : Fin 8192) (s : State), (i.val ∈ s.led.dirty ∨ allPorts.any (s.slotHeld i) = true) ∧ s.led.journal.length
      < journalSlots) ∧
    (∃ (i : Fin 8192) (b : Bool) (s : State), (i.val ∈ s.led.dirty ∨ allPorts.any (s.slotHeld i) = true) ∧ (b = false
      ∨ journalSlots ≤ s.led.journal.length)) ∧
    (∃ (i : Fin 8192) (s : State), i.val ∉ s.led.dirty ∧ allPorts.any (s.slotHeld i) = false) ∧
    (∃ (s : State), 3 * journalSlots < 4 * s.led.journal.length) ∧
    (∃ (s : State), 4 * s.led.journal.length ≤ 3 * journalSlots) ∧
    (∃ (s : State), s.on LEDGER.COMPACTING 0 = true) ∧
    (∃ (s : State), s.on LEDGER.COMPACTING 0 = false) := by
  refine ⟨⟨0, (
      let p : Port := 0
      let s : State := wbase
      let s : State := (s.modPort (p) fun z => { z with sess := { z.sess with isOpen := true } })
      let s : State := (s.modPort (p) fun z => { z with sess := { z.sess with idStep := 0 } })
      let s : State := (s.modPort (p) fun z => { z with sess := { z.sess with known := false } })
      let s : State := s.wr PD.HDR_DATA_ROLE p (1)
      s), ?_⟩,
    ⟨0, (
      let p : Port := 0
      let s : State := wbase
      let s : State := (s.modPort (p) fun z => { z with sess := { z.sess with isOpen := true } })
      let s : State := (s.modPort (p) fun z => { z with sess := { z.sess with idStep := 0 } })
      let s : State := (s.modPort (p) fun z => { z with sess := { z.sess with known := false } })
      let s : State := s.wr PD.NEG_REV p 2
      s), ?_⟩,
    ⟨0, (
      let p : Port := 0
      let s : State := wbase
      let s : State := (s.modPort (p) fun z => { z with sess := { z.sess with isOpen := true } })
      let s : State := (s.modPort (p) fun z => { z with sess := { z.sess with idStep := 0 } })
      let s : State := (s.modPort (p) fun z => { z with sess := { z.sess with known := false } })
      let s : State := s.wr PD.NEG_REV p 1
      s), ?_⟩,
    ⟨0, (
      let p : Port := 0
      let s : State := wbase
      let s : State := (s.modPort p fun z => { z with sess := { z.sess with known := true } })
      s), ?_⟩,
    ⟨0, (
      let p : Port := 0
      let s : State := wbase
      let s : State := (s.modPort (p) fun z => { z with sess := { z.sess with isOpen := true } })
      let s : State := (s.modPort (p) fun z => { z with sess := { z.sess with idStep := 2 } })
      let s : State := s.wr PD.NEG_REV p 2
      s), ?_⟩,
    ⟨0, (
      let p : Port := 0
      let s : State := wbase
      let s : State := (s.modPort (p) fun z => { z with sess := { z.sess with isOpen := true } })
      let s : State := (s.modPort (p) fun z => { z with sess := { z.sess with idStep := 2 } })
      let s : State := s.wr PD.NEG_REV p 2
      s), ?_⟩,
    ⟨0, (
      let p : Port := 0
      let s : State := wbase
      let s : State := (s.modPort (p) fun z => { z with sess := { z.sess with isOpen := true } })
      let s : State := (s.modPort (p) fun z => { z with sess := { z.sess with idStep := 2 } })
      let s : State := s.wr PD.NEG_REV p 1
      s), ?_⟩,
    ⟨0, wbase, ?_⟩,
    ⟨0, (
      let p : Port := 0
      let s : State := wbase
      let s : State := (s.modPort (p) fun z => { z with sess := { z.sess with isOpen := true } })
      let s : State := (s.modPort (p) fun z => { z with sess := { z.sess with idStep := 3 } })
      s), ?_⟩,
    ⟨0, wbase, ?_⟩,
    ⟨0, (
      let p : Port := 0
      let s : State := wbase
      let s : State := (s.modPort (p) fun z => { z with sess := { z.sess with isOpen := true } })
      let s : State := (s.modPort (p) fun z => { z with sess := { z.sess with idStep := 4 } })
      s), ?_⟩,
    ⟨0, wbase, ?_⟩,
    ⟨0, (
      let p : Port := 0
      let s : State := wbase
      let s : State := (s.modPort (p) fun z => { z with sess := { z.sess with isOpen := true } })
      let s : State := (s.modPort (p) fun z => { z with sess := { z.sess with idStep := 5 } })
      s), ?_⟩,
    ⟨0, (
      let p : Port := 0
      let s : State := wbase
      let s : State := (s.modPort (p) fun z => { z with sess := { z.sess with isOpen := true } })
      let s : State := (s.modPort (p) fun z => { z with sess := { z.sess with idStep := 0 } })
      let s : State := (s.modPort (p) fun z => { z with pe := { z.pe with await := .batteryStatus } })
      s), ?_⟩,
    ⟨0, (
      let p : Port := 0
      let s : State := wbase
      let s : State := (s.modPort (p) fun z => { z with sess := { z.sess with isOpen := false } })
      s), ?_⟩,
    ⟨0, (
      let p : Port := 0
      let s : State := wbase
      let s : State := (s.modPort (p) fun z => { z with sess := { z.sess with isOpen := true } })
      let s : State := (s.modPort (p) fun z => { z with sess := { z.sess with idStep := 0 } })
      let s : State := (s.modPort (p) fun z => { z with sess := { z.sess with known := true } })
      let s : State := s.wr PD.NEG_REV p 2
      s), ?_⟩,
    ⟨0, (
      let p : Port := 0
      let s : State := wbase
      let s : State := (s.modPort (p) fun z => { z with sess := { z.sess with isOpen := false } })
      s), ?_⟩,
    ⟨0, (
      let p : Port := 0
      let s : State := wbase
      let s : State := (s.modPort (p) fun z => { z with sess := { z.sess with isOpen := true } })
      let s : State := (s.modPort (p) fun z => { z with sess := { z.sess with known := true } })
      let s : State := (s.modPort (p) fun z => { z with sess := { z.sess with authStep := 0 } })
      let s : State := (s.modPort (p) fun z => { z with sess := { z.sess with authDone := false } })
      let s : State := (s.modPort p fun z => { z with sess := { z.sess with slot := some 0 } })
      let s : State := { s with bud := { s.bud with act := s.bud.act.set (LEDGER.AUTH_MODE_LO.key 0) 0x55555555 } }
      s), ?_⟩,
    ⟨0, (List.replicate 32 0), ({ (⟨1, 0, 0, 0, 0, 0, 0, 0, 0, 0, 0, 0, 0, 0, 0, 0, 0, 0, 0, 0, 0, 0, 0, 0, [], 0, 0, 0, 0, [], 0⟩ : LedRec) with certDig := 0 }), (
      let p : Port := 0
      let s : State := wbase
      let s : State := (s.modPort (p) fun z => { z with sess := { z.sess with isOpen := true } })
      let s : State := (s.modPort (p) fun z => { z with sess := { z.sess with authStep := 1 } })
      let s : State := { s with led := { s.led with recs := [(0, { (⟨1, 0, 0, 0, 0, 0, 0, 0, 0, 0, 0, 0, 0, 0, 0, 0, 0, 0, 0, 0, 0, 0, 0, 0, [], 0, 0, 0, 0, [], 0⟩ : LedRec) with certDig := 0 })] } }
      let s : State := (s.modPort p fun z => { z with sess := { z.sess with slot := some 0, authWas := 1 } })
      let s : State := s.flag TIME.SET 0 true
      let s : State := { s with bud := { s.bud with act := s.bud.act.set (LEDGER.REAUTH.key 0) 9 } }
      s), ?_⟩,
    ⟨0, (
      let p : Port := 0
      let s : State := wbase
      let s : State := (s.modPort (p) fun z => { z with sess := { z.sess with isOpen := true } })
      let s : State := (s.modPort (p) fun z => { z with sess := { z.sess with authStep := 1 } })
      s), ?_⟩,
    ⟨0, ([]), (⟨1, 0, 0, 0, 0, 0, 0, 0, 0, 0, 0, 0, 0, 0, 0, 0, 0, 0, 0, 0, 0, 0, 0, 0, [], 0, 0, 0, 0, [], 0⟩), (
      let p : Port := 0
      let s : State := wbase
      let s : State := (s.modPort (p) fun z => { z with sess := { z.sess with isOpen := true } })
      let s : State := (s.modPort (p) fun z => { z with sess := { z.sess with authStep := 1 } })
      let s : State := { s with led := { s.led with recs := [(0, ⟨1, 0, 0, 0, 0, 0, 0, 0, 0, 0, 0, 0, 0, 0, 0, 0, 0, 0, 0, 0, 0, 0, 0, 0, [], 0, 0, 0, 0, [], 0⟩)] } }
      let s : State := (s.modPort p fun z => { z with sess := { z.sess with slot := some 0 } })
      s), ?_⟩,
    ⟨0, 4097, (
      let p : Port := 0
      let s : State := wbase
      let s : State := (s.modPort (p) fun z => { z with sess := { z.sess with isOpen := true } })
      let s : State := (s.modPort (p) fun z => { z with sess := { z.sess with authStep := 3 } })
      s), ?_⟩,
    ⟨0, 100, ([1]), (
      let p : Port := 0
      let s : State := wbase
      let s : State := (s.modPort (p) fun z => { z with sess := { z.sess with isOpen := true } })
      let s : State := (s.modPort (p) fun z => { z with sess := { z.sess with authStep := 3 } })
      s), ?_⟩,
    ⟨0, 0, ([]), (
      let p : Port := 0
      let s : State := wbase
      let s : State := (s.modPort (p) fun z => { z with sess := { z.sess with isOpen := true } })
      let s : State := (s.modPort (p) fun z => { z with sess := { z.sess with authStep := 3 } })
      s), ?_⟩,
    ⟨0, (
      let p : Port := 0
      let s : State := wbase
      let s : State := (s.modPort (p) fun z => { z with sess := { z.sess with isOpen := true } })
      let s : State := (s.modPort (p) fun z => { z with sess := { z.sess with authStep := 5 } })
      s), ?_⟩,
    ⟨0, (
      let p : Port := 0
      let s : State := wbase
      let s : State := (s.modPort (p) fun z => { z with sess := { z.sess with isOpen := true } })
      let s : State := (s.modPort (p) fun z => { z with sess := { z.sess with resent := true } })
      let s : State := (s.modPort p fun z => { z with sess := { z.sess with authStep := 1 } })
      s), ?_⟩,
    ⟨0, (
      let p : Port := 0
      let s : State := wbase
      let s : State := (s.modPort (p) fun z => { z with sess := { z.sess with isOpen := true } })
      let s : State := (s.modPort (p) fun z => { z with sess := { z.sess with resent := false } })
      let s : State := (s.modPort p fun z => { z with sess := { z.sess with authStep := 1 } })
      s), ?_⟩,
    ⟨0, (
      let p : Port := 0
      let s : State := wbase
      let s : State := (s.modPort (p) fun z => { z with sess := { z.sess with isOpen := true } })
      let s : State := (s.modPort p fun z => { z with sess := { z.sess with authStep := 1 } })
      s), ?_⟩,
    ⟨0, (
      let p : Port := 0
      let s : State := wbase
      let s : State := (s.modPort (p) fun z => { z with sess := { z.sess with isOpen := false } })
      s), ?_⟩,
    ⟨0, (
      let p : Port := 0
      let s : State := wbase
      let s : State := (s.modPort (p) fun z => { z with sess := { z.sess with ended := true } })
      let s : State := (s.modPort (p) fun z => { z with sess := { z.sess with isOpen := false } })
      s), ?_⟩,
    ⟨0, (
      let p : Port := 0
      let s : State := wbase
      let s : State := (s.modPort (p) fun z => { z with sess := { z.sess with ended := false } })
      s), ?_⟩,
    ⟨0, (
      let s : State := wbase
      let s : State := { s with led := { s.led with dirty := [0] } }
      s), ?_⟩,
    ⟨0, false, (
      let s : State := wbase
      let s : State := { s with led := { s.led with dirty := [0] } }
      s), ?_⟩,
    ⟨0, wbase, ?_⟩,
    ⟨(
      let s : State := wbase
      let s : State := { s with led := { s.led with journal := List.replicate 70000 (0, 0, none, true) } }
      s), ?_⟩,
    ⟨wbase, ?_⟩,
    ⟨(
      let s : State := wbase
      let s : State := s.flag LEDGER.COMPACTING 0 true
      s), ?_⟩,
    ⟨(
      let s : State := wbase
      let s : State := s.flag LEDGER.COMPACTING 0 false
      s), ?_⟩⟩
  all_goals first | decide +kernel | (unfold AwaitsResponse; decide +kernel)

/-- States and operands that meet the hypotheses of LockedOtpWordsAreNotProgrammed, clause by clause. -/
theorem test_locked_otp_words_are_not_programmed_witness :
    (∃ (k : Packet) (e : OtpEnv) (s : State), s.serves = true ∧ s.standby = false ∧ otpNameable k.tgt = true ∧ k.len
      = 4 ∧ s.otpMayProgram e = true ∧ s.otpLock (otpLockBit (otpCode k.tgt)) = true ∧ AwaitsResponse k [] s) ∧
    (∃ (k : Packet) (s : State), otpNameable k.tgt = true ∧ s.otpLock (otpLockBit (otpCode k.tgt)) = true) := by
  refine ⟨⟨(⟨1, 0, 0, 100, 0, List.replicate 4 0, none⟩), (⟨true, false⟩), (
      let s : State := wbase
      let s : State := { s with dev := .run }
      let s : State := s.flag SYS.READY 0 true
      let s : State := { s with otp := { s.otp with lock := [2, 2, 2] } }
      s), ?_⟩,
    ⟨(⟨1, 0, 0, 100, 0, [], none⟩), (
      let s : State := wbase
      let s : State := { s with otp := { s.otp with lock := [2, 2, 2] } }
      s), ?_⟩⟩
  all_goals first | decide +kernel | (unfold AwaitsResponse; decide +kernel)

/-- States and operands that meet the hypotheses of OtpIsReadProgrammedAndLocked, clause by clause. -/
theorem test_otp_is_read_programmed_and_locked_witness :
    (∃ (k : Packet) (s : State), s.serves = true ∧ s.standby = false ∧ k.payload = [] ∧ k.tgt < 512 ∧ 1 ≤ k.ar ∧ k.ar
      ≤ 128 ∧ k.tgt + k.ar ≤ 512 ∧ s.rd OTP.REG_CUSTOMER 0 ≠ rgFailed ∧ AwaitsResponse k ((((List.range k.ar).map (·
      + k.tgt)).flatMap fun w => leBytes 4 (s.otpRaw w).1 ++ leBytes 4 (s.otpRaw w).2)) s) ∧
    (∃ (k : Packet) (s : State), s.serves = true ∧ s.standby = false ∧ k.payload = [] ∧ k.tgt < 512 ∧ 1 ≤ k.ar ∧ k.ar
      ≤ 128 ∧ k.tgt + k.ar ≤ 512 ∧ k.tgt + k.ar ≤ 384 ∧ AwaitsResponse k ((((List.range k.ar).map (· +
      k.tgt)).flatMap fun w => leBytes 4 (s.otpRaw w).1 ++ leBytes 4 (s.otpRaw w).2)) s) ∧
    (∃ (k : Packet) (s : State), s.serves = true ∧ s.standby = false ∧ k.payload = [] ∧ k.tgt < 512 ∧ 1 ≤ k.ar ∧ k.ar
      ≤ 128 ∧ k.tgt + k.ar ≤ 512 ∧ s.rd OTP.REG_CUSTOMER 0 = rgFailed ∧ 384 < k.tgt + k.ar ∧ AwaitsResponse k [] s) ∧
    (∃ (k : Packet) (s : State), s.serves = true ∧ s.standby = false ∧ (k.payload ≠ [] ∨ 512 ≤ k.tgt ∨ k.ar = 0 ∨ 128
      < k.ar ∨ 512 < k.tgt + k.ar) ∧ AwaitsResponse k [] s) ∧
    (∃ (k : Packet) (s : State), s.serves = true ∧ s.standby = true ∧ AwaitsResponse k [] s) ∧
    (∃ (k : Packet) (s : State), s.serves = true ∧ s.standby = true ∧ otpNameable k.tgt = true ∧ k.len = 4 ∧
      AwaitsResponse k [] s) ∧
    (∃ (k : Packet) (e : OtpEnv) (s : State), s.serves = true ∧ s.standby = false ∧ otpNameable k.tgt = true ∧ k.len
      = 4 ∧ s.otpMayProgram e = false ∧ AwaitsResponse k [] s) ∧
    (∃ (k : Packet) (e : OtpEnv) (s : State), s.serves = true ∧ s.standby = false ∧ otpNameable k.tgt = true ∧ k.len
      = 4 ∧ s.otpMayProgram e = true ∧ s.otpLock (otpLockBit (otpCode k.tgt)) = false ∧ (s.otpWord k.tgt).written =
      true ∧ (s.otpWord k.tgt).data ≠ BitVec.ofNat 32 (bytesAt k.payload 0 4) ∧ AwaitsResponse k [] s) ∧
    (∃ (k : Packet) (e : OtpEnv) (s : State), s.serves = true ∧ s.standby = false ∧ otpNameable k.tgt = true ∧ k.len
      = 4 ∧ s.otpMayProgram e = true ∧ s.otpLock (otpLockBit (otpCode k.tgt)) = false ∧ (s.otpWord k.tgt).written =
      false ∧ (s.otpWord k.tgt).part = false) ∧
    (∃ (k : Packet) (v : Bool) (s : State), s.serves = true ∧ s.standby = false ∧ otpNameable k.tgt = true ∧ k.len =
      4 ∧ s.otpMayProgram ⟨v, false⟩ = true ∧ s.otpLock (otpLockBit (otpCode k.tgt)) = false ∧ ((s.otpWord
      k.tgt).written = false ∧ (s.otpWord k.tgt).part = false ∨ (s.otpWord k.tgt).written = true ∧ (s.otpWord
      k.tgt).data = BitVec.ofNat 32 (bytesAt k.payload 0 4)) ∧ AwaitsResponse k [] s) ∧
    (∃ (k : Packet) (v : Bool) (s : State), s.serves = true ∧ s.standby = false ∧ otpNameable k.tgt = true ∧ k.len =
      4 ∧ s.otpMayProgram ⟨v, true⟩ = true ∧ s.otpLock (otpLockBit (otpCode k.tgt)) = false ∧ ((s.otpWord
      k.tgt).written = false ∧ (s.otpWord k.tgt).part = false ∨ (s.otpWord k.tgt).written = true ∧ (s.otpWord
      k.tgt).data = BitVec.ofNat 32 (bytesAt k.payload 0 4)) ∧ AwaitsResponse k [] s) ∧
    (∃ (k : Packet) (s : State), s.serves = true ∧ s.standby = true ∧ 0x200 ≤ k.tgt ∧ k.tgt ≤ 0x202 ∧ k.ar ≤ 256 ∧
      k.payload = [] ∧ AwaitsResponse k [] s) ∧
    (∃ (k : Packet) (e : OtpEnv) (s : State), s.serves = true ∧ s.standby = false ∧ 0x200 ≤ k.tgt ∧ k.tgt ≤ 0x202 ∧
      k.ar ≤ 256 ∧ k.payload = [] ∧ s.otpMayProgram e = false ∧ AwaitsResponse k [] s) ∧
    (∃ (k : Packet) (e : OtpEnv) (s : State), s.serves = true ∧ s.standby = false ∧ 0x200 ≤ k.tgt ∧ k.tgt ≤ 0x202 ∧
      k.ar ≤ 256 ∧ k.payload = [] ∧ s.otpMayProgram e = true ∧ k.ar < s.otpCounter (k.tgt - 0x200) ∧ AwaitsResponse k
      [] s) ∧
    (∃ (k : Packet) (e : OtpEnv) (s : State), s.serves = true ∧ s.standby = false ∧ 0x200 ≤ k.tgt ∧ k.tgt ≤ 0x202 ∧
      k.ar ≤ 256 ∧ k.payload = [] ∧ s.otpMayProgram e = true ∧ k.ar = s.otpCounter (k.tgt - 0x200) ∧ AwaitsResponse k
      [] s) ∧
    (∃ (k : Packet) (v : Bool) (s : State), s.serves = true ∧ s.standby = false ∧ 0x200 ≤ k.tgt ∧ k.tgt ≤ 0x202 ∧
      k.ar ≤ 256 ∧ k.payload = [] ∧ s.otpMayProgram ⟨v, false⟩ = true ∧ s.otpCounter (k.tgt - 0x200) < k.ar ∧
      AwaitsResponse k [] s) ∧
    (∃ (k : Packet) (s : State), s.serves = true ∧ (otpNameable k.tgt = false ∨ k.len ≠ 4) ∧ (k.tgt < 0x200 ∨ 0x202 <
      k.tgt ∨ 256 < k.ar ∨ k.payload ≠ []) ∧ AwaitsResponse k [] s) ∧
    (∃ (k : Packet) (s : State), s.serves = true ∧ s.standby = false ∧ k.plain = true ∧ (k.tgt = 0x100 ∨ k.tgt =
      0x101) ∧ s.otpLock (k.tgt - 0x100 + 8) = false ∧ AwaitsResponse k [] s) ∧
    (∃ (k : Packet) (s : State), s.serves = true ∧ s.standby = false ∧ k.plain = true ∧ (k.tgt = 0x100 ∨ k.tgt =
      0x101) ∧ s.otpLock (k.tgt - 0x100 + 8) = true ∧ AwaitsResponse k [] s) ∧
    (∃ (k : Packet) (s : State), s.serves = true ∧ s.standby = false ∧ k.plain = true ∧ 1 ≤ k.tgt ∧ k.tgt ≤ 5 ∧
      s.otpLock (otpLockBit k.tgt) = true ∧ AwaitsResponse k [] s) ∧
    (∃ (k : Packet) (s : State), s.serves = true ∧ s.standby = false ∧ k.plain = true ∧ 1 ≤ k.tgt ∧ k.tgt ≤ 5 ∧
      s.otpLock (otpLockBit k.tgt) = false ∧ s.lockRefused k.tgt = true ∧ AwaitsResponse k [] s) ∧
    (∃ (k : Packet) (s : State), s.serves = true ∧ s.standby = false ∧ k.plain = true ∧ 1 ≤ k.tgt ∧ k.tgt ≤ 5 ∧
      s.otpLock (otpLockBit k.tgt) = false ∧ s.lockRefused k.tgt = false ∧ AwaitsResponse k [] s) ∧
    (∃ (k : Packet) (s : State), s.serves = true ∧ (k.plain = false ∨ k.tgt = 0 ∨ (5 < k.tgt ∧ k.tgt ≠ 0x100 ∧ k.tgt
      ≠ 0x101)) ∧ AwaitsResponse k [] s) ∧
    (∃ (k : Packet) (s : State), s.serves = true ∧ s.standby = true ∧ k.plain = true ∧ ((1 ≤ k.tgt ∧ k.tgt ≤ 5) ∨
      k.tgt = 0x100 ∨ k.tgt = 0x101) ∧ AwaitsResponse k [] s) ∧
    (∃ (k : Packet) (s : State), s.serves = true ∧ s.standby = false ∧ k.chip = true ∧ k.plain = true) ∧
    (∃ (k : Packet) (s : State), s.serves = true ∧ s.standby = false ∧ (k.chip = false ∨ k.plain = false) ∧
      AwaitsResponse k [] s) ∧
    (∃ (k : Packet) (s : State), s.serves = true ∧ s.standby = true ∧ AwaitsResponse k [] s) := by
  refine ⟨⟨(⟨1, 0, 0, 100, 1, [], none⟩), (
      let s : State := wbase
      let s : State := { s with dev := .run }
      let s : State := s.flag SYS.READY 0 true
      s), ?_⟩,
    ⟨(⟨1, 0, 0, 100, 1, [], none⟩), (
      let s : State := wbase
      let s : State := { s with dev := .run }
      let s : State := s.flag SYS.READY 0 true
      s), ?_⟩,
    ⟨(⟨1, 0, 0, 400, 1, [], none⟩), (
      let s : State := wbase
      let s : State := { s with dev := .run }
      let s : State := s.flag SYS.READY 0 true
      let s : State := s.wr OTP.REG_CUSTOMER 0 (rgFailed)
      s), ?_⟩,
    ⟨(⟨1, 0, 0, 0xFFFF, 0, [1], none⟩), (
      let s : State := wbase
      let s : State := { s with dev := .run }
      let s : State := s.flag SYS.READY 0 true
      s), ?_⟩,
    ⟨(⟨1, 0, 0, 0xFFFF, 0, [], none⟩), (
      let s : State := wbase
      let s : State := { s with dev := .run }
      let s : State := s.flag SYS.READY 0 true
      let s : State := s.wr PAIR.PAIR_STATE 0 3
      s), ?_⟩,
    ⟨(⟨1, 0, 0, 100, 0, List.replicate 4 0, none⟩), (
      let s : State := wbase
      let s : State := { s with dev := .run }
      let s : State := s.flag SYS.READY 0 true
      let s : State := s.wr PAIR.PAIR_STATE 0 3
      s), ?_⟩,
    ⟨(⟨1, 0, 0, 100, 0, List.replicate 4 0, none⟩), (⟨false, false⟩), (
      let s : State := wbase
      let s : State := { s with dev := .run }
      let s : State := s.flag SYS.READY 0 true
      s), ?_⟩,
    ⟨(⟨1, 0, 0, 100, 0, [1, 2, 3, 4], none⟩), (⟨true, false⟩), (
      let s : State := wbase
      let s : State := { s with dev := .run }
      let s : State := s.flag SYS.READY 0 true
      let s : State := s.setOtpWord 100 7 false
      s), ?_⟩,
    ⟨(⟨1, 0, 0, 100, 0, List.replicate 4 0, none⟩), (⟨true, false⟩), (
      let s : State := wbase
      let s : State := { s with dev := .run }
      let s : State := s.flag SYS.READY 0 true
      s), ?_⟩,
    ⟨(⟨1, 0, 0, 100, 0, List.replicate 4 0, none⟩), true, (
      let s : State := wbase
      let s : State := { s with dev := .run }
      let s : State := s.flag SYS.READY 0 true
      s), ?_⟩,
    ⟨(⟨1, 0, 0, 100, 0, List.replicate 4 0, none⟩), true, (
      let s : State := wbase
      let s : State := { s with dev := .run }
      let s : State := s.flag SYS.READY 0 true
      s), ?_⟩,
    ⟨(⟨1, 0, 0, 0x200, 0, [], none⟩), (
      let s : State := wbase
      let s : State := { s with dev := .run }
      let s : State := s.flag SYS.READY 0 true
      let s : State := s.wr PAIR.PAIR_STATE 0 3
      s), ?_⟩,
    ⟨(⟨1, 0, 0, 0x200, 0, [], none⟩), (⟨false, false⟩), (
      let s : State := wbase
      let s : State := { s with dev := .run }
      let s : State := s.flag SYS.READY 0 true
      s), ?_⟩,
    ⟨(⟨1, 0, 0, 0x200, 0, [], none⟩), (⟨true, false⟩), (
      let s : State := wbase
      let s : State := { s with dev := .run }
      let s : State := s.flag SYS.READY 0 true
      let s : State := s.raiseCounter 0 5
      s), ?_⟩,
    ⟨(⟨1, 0, 0, 0x200, 0, [], none⟩), (⟨true, false⟩), (
      let s : State := wbase
      let s : State := { s with dev := .run }
      let s : State := s.flag SYS.READY 0 true
      s), ?_⟩,
    ⟨(⟨1, 0, 0, 0x200, 3, [], none⟩), true, (
      let s : State := wbase
      let s : State := { s with dev := .run }
      let s : State := s.flag SYS.READY 0 true
      s), ?_⟩,
    ⟨(⟨1, 0, 0, 0, 0, [], none⟩), (
      let s : State := wbase
      let s : State := { s with dev := .run }
      let s : State := s.flag SYS.READY 0 true
      s), ?_⟩,
    ⟨(⟨1, 0, 0, 0x100, 0, [], none⟩), (
      let s : State := wbase
      let s : State := { s with dev := .run }
      let s : State := s.flag SYS.READY 0 true
      s), ?_⟩,
    ⟨(⟨1, 0, 0, 0x100, 0, [], none⟩), (
      let s : State := wbase
      let s : State := { s with dev := .run }
      let s : State := s.flag SYS.READY 0 true
      let s : State := s.setOtpLock 8
      s), ?_⟩,
    ⟨(⟨1, 0, 0, 1, 0, [], none⟩), (
      let s : State := wbase
      let s : State := { s with dev := .run }
      let s : State := s.flag SYS.READY 0 true
      let s : State := s.setOtpLock (otpLockBit 1)
      s), ?_⟩,
    ⟨(⟨1, 0, 0, 1, 0, [], none⟩), (
      let s : State := wbase
      let s : State := { s with dev := .run }
      let s : State := s.flag SYS.READY 0 true
      s), ?_⟩,
    ⟨(⟨1, 0, 0, 3, 0, [], none⟩), (
      let s : State := wbase
      let s : State := { s with dev := .run }
      let s : State := s.flag SYS.READY 0 true
      let s : State := { s with otp := { s.otp with words := [(192, ⟨BitVec.ofNat 32 (3 * 2 ^ 24 + 2 ^ 16 + 1), true, false, 0, false⟩)] } }
      s), ?_⟩,
    ⟨(⟨1, 0, 0, 0xFFFF, 1, [], none⟩), (
      let s : State := wbase
      let s : State := { s with dev := .run }
      let s : State := s.flag SYS.READY 0 true
      s), ?_⟩,
    ⟨(⟨1, 0, 0, 1, 0, [], none⟩), (
      let s : State := wbase
      let s : State := { s with dev := .run }
      let s : State := s.flag SYS.READY 0 true
      let s : State := s.wr PAIR.PAIR_STATE 0 3
      s), ?_⟩,
    ⟨(⟨1, 0, 0, 0xFFFF, 0, [], none⟩), (
      let s : State := wbase
      let s : State := { s with dev := .run }
      let s : State := s.flag SYS.READY 0 true
      s), ?_⟩,
    ⟨(⟨1, 0, 0, 5, 0, [], none⟩), (
      let s : State := wbase
      let s : State := { s with dev := .run }
      let s : State := s.flag SYS.READY 0 true
      s), ?_⟩,
    ⟨(⟨1, 0, 0, 0xFFFF, 0, [], none⟩), (
      let s : State := wbase
      let s : State := { s with dev := .run }
      let s : State := s.flag SYS.READY 0 true
      let s : State := s.wr PAIR.PAIR_STATE 0 3
      s), ?_⟩⟩
  all_goals first | decide +kernel | (unfold AwaitsResponse; decide +kernel)

/-- States and operands that meet the hypotheses of LoopEngineModesAndTables, clause by clause. -/
theorem test_loop_engine_modes_and_tables_witness :
    (∃ (p : Port) (m : Fin 8) (s : State), 1 ≤ m.val ∧ m.val < 4 ∧ s.haltStands p = false ∧ s.on LOOP.VALID p = true) ∧
    (∃ (p : Port) (m : Fin 8) (s : State), 1 ≤ m.val ∧ m.val < 4 ∧ s.haltStands p = true) ∧
    (∃ (p : Port) (m : Fin 8) (s : State), 1 ≤ m.val ∧ m.val < 4 ∧ s.haltStands p = false ∧ s.on LOOP.VALID p =
      false) ∧
    (∃ (m : Fin 8) (s : State), 4 ≤ m.val) ∧
    (∃ (p : Port) (s : State), (s.port p).loop.modeDue = true ∧ s.rd LOOP.MODE p = 0 ∧ s.rd LOOP.HALT_CAUSE p = 0) ∧
    (∃ (p : Port) (s : State), (s.port p).loop.modeDue = true ∧ s.rd LOOP.MODE p ≠ 0 ∧ s.rd LOOP.HALT_CAUSE p ≠ 0 ∧
      s.haltStands p = false) ∧
    (∃ (p : Port) (s : State), (s.latch p).running p = true ∧ (s.latch p).outerDue p = false) ∧
    (∃ (p : Port) (s : State), s.running p = false ∧ (s.port p).loop.modeDue = false ∧ (s.port p).loop.vsp = q24
      (s.rd LOOP.V_TARGET p)) ∧
    (∃ (p : Port) (s : State), s.running p = false ∧ (s.port p).loop.modeDue = false ∧ s.on GUARD.VMON_CFG_TRACK p =
      false ∧ s.on LOOP.RAMPING p = false) ∧
    (∃ (p : Port) (l : List Byte) (s : State), s.running p = true ∧ s.outerDue p = true ∧ (s.port p).loop.pending =
      some l) ∧
    (∃ (p : Port) (s : State), (s.port p).loop.pending = none) ∧
    (∃ (p : Port) (e : Fin 2) (s : State), s.bit MARL.FAULT 0 p = false ∧ (s.port p).loop.repair.getLsbD (1 - e).val
      = false) ∧
    (∃ (p : Port) (e : Fin 2) (s : State), s.bit MARL.FAULT 0 p = false ∧ (s.port p).loop.repair.getLsbD (1 - e).val
      = true) ∧
    (∃ (p : Port) (s : State), s.bit MARL.FAULT 0 p = false) := by
  refine ⟨⟨0, 2, (
      let p : Port := 0
      let s : State := wbase
      let s : State := s.flag LOOP.VALID p true
      s), ?_⟩,
    ⟨0, 2, (
      let p : Port := 0
      let s : State := wbase
      let s : State := s.wrBit MARL.FAULT 0 p true
      s), ?_⟩,
    ⟨0, 2, (
      let p : Port := 0
      let s : State := wbase
      let s : State := s.flag LOOP.VALID p false
      s), ?_⟩,
    ⟨5, wbase, ?_⟩,
    ⟨0, (
      let p : Port := 0
      let s : State := wbase
      let s : State := (s.modPort (p) fun z => { z with loop := { z.loop with modeDue := true } })
      let s : State := s.wr LOOP.MODE p (0)
      let s : State := s.wr LOOP.HALT_CAUSE p (0)
      s), ?_⟩,
    ⟨0, (
      let p : Port := 0
      let s : State := wbase
      let s : State := (s.modPort (p) fun z => { z with loop := { z.loop with modeDue := true } })
      let s : State := s.wr LOOP.MODE p 2
      let s : State := s.wr LOOP.HALT_CAUSE p 1
      s), ?_⟩,
    ⟨0, (
      let p : Port := 0
      let s : State := wbase
      let s : State := s.wr LOOP.HALT_CAUSE p 0
      let s : State := (s.modPort p fun z => { z with loop := { z.loop with k := 1, modeDue := false, moveDue := false, table := List.replicate 256 1 } })
      let s : State := s.wr LOOP.SET_IN_USE p 0
      s), ?_⟩,
    ⟨0, (
      let p : Port := 0
      let s : State := wbase
      let s : State := s.wr LOOP.HALT_CAUSE p 1
      let s : State := (s.modPort (p) fun z => { z with loop := { z.loop with modeDue := false } })
      let s : State := (s.modPort (p) fun z => { z with loop := { z.loop with vsp := q24 (s.rd LOOP.V_TARGET p) } })
      s), ?_⟩,
    ⟨0, (
      let p : Port := 0
      let s : State := wbase
      let s : State := s.wr LOOP.HALT_CAUSE p 1
      let s : State := (s.modPort (p) fun z => { z with loop := { z.loop with modeDue := false } })
      let s : State := s.flag GUARD.VMON_CFG_TRACK p false
      let s : State := s.flag LOOP.RAMPING p false
      s), ?_⟩,
    ⟨0, ([]), (
      let p : Port := 0
      let l : List Byte := []
      let s : State := wbase
      let s : State := s.wr LOOP.HALT_CAUSE p 0
      let s : State := (s.modPort (p) fun z => { z with loop := { z.loop with pending := some l } })
      s), ?_⟩,
    ⟨0, (
      let p : Port := 0
      let s : State := wbase
      let s : State := (s.modPort (p) fun z => { z with loop := { z.loop with pending := none } })
      s), ?_⟩,
    ⟨0, 0, (
      let p : Port := 0
      let s : State := wbase
      let s : State := s.wrBit MARL.FAULT 0 p false
      s), ?_⟩,
    ⟨0, 0, (
      let p : Port := 0
      let s : State := wbase
      let s : State := s.wrBit MARL.FAULT 0 p false
      let s : State := (s.modPort p fun x => { x with loop := { x.loop with repair := 3 } })
      s), ?_⟩,
    ⟨0, (
      let p : Port := 0
      let s : State := wbase
      let s : State := s.wrBit MARL.FAULT 0 p false
      s), ?_⟩⟩
  all_goals first | decide +kernel | (unfold AwaitsResponse; decide +kernel)

/-- States and operands that meet the hypotheses of MarlEnginesFailAndReturn, clause by clause. -/
theorem test_marl_engines_fail_and_return_witness :
    (∃ (p : Port) (e : Fin 2) (s : State), s.on LOOP.ENGINE p = decide (e = 1) ∧ s.rd (engState e) 0 ≠ 2 ∧ s.on
      MARL.FALLBACK_EN 0 = true ∧ s.rd (engState (1 - e)) 0 = 1) ∧
    (∃ (p : Port) (e : Fin 2) (s : State), s.on LOOP.ENGINE p = decide (e = 1) ∧ s.rd (engState e) 0 ≠ 2 ∧ (s.on
      MARL.FALLBACK_EN 0 = false ∨ s.rd (engState (1 - e)) 0 ≠ 1) ∧ s.drives p = true) ∧
    (∃ (e : Fin 2) (s : State), (s.rd (engState e) 0 = 2 ∨ s.rd (engState e) 0 = 3) ∧ s.rd CORE.STATE (9 + e.val) ≠
      enRetired) ∧
    (∃ (e : Fin 2) (s : State), (s.rd (engState e) 0 = 2 ∨ s.rd (engState e) 0 = 3) ∧ s.rd CORE.STATE (9 + e.val) ≠
      enRetired ∧ s.on MARL.RESTORE_AUTO 0 = true) ∧
    (∃ (e : Fin 2) (s : State), s.rd (engState e) 0 ≠ 2 ∧ s.rd (engState e) 0 ≠ 3) := by
  refine ⟨⟨0, 0, (
      let e : Fin 2 := 0
      let s : State := wbase
      let s : State := s.flag MARL.FALLBACK_EN 0 true
      let s : State := s.wr (engState (1 - e)) 0 (1)
      let s : State := s.wr MARL.ENG1_STATE 0 1
      let s : State := s.wr MARL.ENG0_STATE 0 1
      s), ?_⟩,
    ⟨0, 0, (
      let p : Port := 0
      let s : State := wbase
      let s : State := s.flag MARL.FALLBACK_EN 0 false
      let s : State := s.wr MARL.ENG0_STATE 0 1
      let s : State := s.flag MARL.FALLBACK_EN 0 false
      let s : State := s.flag LOOP.ENGINE p false
      s), ?_⟩,
    ⟨0, (
      let e : Fin 2 := 0
      let s : State := wbase
      let s : State := s.wr (engState e) 0 (2)
      s), ?_⟩,
    ⟨0, (
      let e : Fin 2 := 0
      let s : State := wbase
      let s : State := s.wr (engState e) 0 (2)
      let s : State := s.flag MARL.RESTORE_AUTO 0 true
      s), ?_⟩,
    ⟨0, wbase, ?_⟩⟩
  all_goals first | decide +kernel | (unfold AwaitsResponse; decide +kernel)

/-- States and operands that meet the hypotheses of MailboxesAndEventRings, clause by clause. -/
theorem test_mailboxes_and_event_rings_witness :
    (∃ (f : Fin 16) (m : Fin 64) (s : State), f.val ≠ 12 ∧ s.boxDead (boxOwner m) = false) ∧
    (∃ (f : Fin 16) (m : Fin 64) (s : State), f.val ≠ 12 ∧ s.boxDead (boxOwner m) = true) ∧
    (∃ (m : Fin 64) (s : State), (s.box m).full = true) ∧
    (∃ (m : Fin 64) (s : State), (s.box m).full = false) ∧
    (∃ (e : Fin 16) (m : Fin 64) (s : State), boxOwner m = e) ∧
    (∃ (e : Fin 16) (m : Fin 64) (s : State), boxOwner m ≠ e) ∧
    (∃ (e : Fin 16) (s : State), s.dev ≠ .watch ∧ e.val < 12 ∧ s.rd CORE.STATE e = enSleep) ∧
    (∃ (e : Fin 16) (s : State), s.dev = .watch ∧ e.val < 12) ∧
    (∃ (e : Fin 16) (s : State), (12 ≤ e.val ∨ (s.dev ≠ .watch ∧ s.rd CORE.STATE e ≠ enSleep))) ∧
    (∃ (q : Fin 40) (s : State), (q.val < 5 ∨ q.val = 7)) ∧
    (∃ (q : Fin 40) (c : Bool) (sev : Fin 4) (port : Byte) (code : Byte) (src : Byte) (d4 : Word) (d5 : Word) (d6 :
      Word) (d7 : Word) (e : EvRec) (s : State), e = ⟨sev.val, port.toNat, code.toNat, src.toNat, s.time % 2 ^ 64, 0,
      d4.toNat, d5.toNat, d6.toNat, if c then 0 else d7.toNat⟩ ∧ 5 ≤ q.val ∧ q.val ≠ 7 ∧ s.coalesce q c e = none ∧
      (s.ring q).occ < ringSize q) ∧
    (∃ (q : Fin 40) (c : Bool) (sev : Fin 4) (port : Byte) (code : Byte) (src : Byte) (d4 : Word) (d5 : Word) (d6 :
      Word) (d7 : Word) (e : EvRec) (i : Nat) (w : EvRec) (s : State), e = ⟨sev.val, port.toNat, code.toNat,
      src.toNat, s.time % 2 ^ 64, 0, d4.toNat, d5.toNat, d6.toNat, if c then 0 else d7.toNat⟩ ∧ 5 ≤ q.val ∧ q.val ≠ 7
      ∧ c = true ∧ newestAt ((s.ring q).seq % 2 ^ 32) 0 none (s.ring q).entries = some i ∧ (s.ring q).entries[i]? =
      some (.ev w) ∧ ((s.ring q).locked && i == 0) = false ∧ 0 < s.rd RING.COAL_BASE q ∧ w.same0 e = true ∧ ((s.ring
      q).throttle = true ∨ (w.d4 = e.d4 ∧ w.d5 = e.d5 ∧ w.d6 = e.d6)) ∧ e.time - w.time ≤ s.coalWin q) ∧
    (∃ (q : Fin 40) (c : Bool) (sev : Fin 4) (port : Byte) (code : Byte) (src : Byte) (d4 : Word) (d5 : Word) (d6 :
      Word) (d7 : Word) (e : EvRec) (i : Nat) (s : State), e = ⟨sev.val, port.toNat, code.toNat, src.toNat, s.time %
      2 ^ 64, 0, d4.toNat, d5.toNat, d6.toNat, if c then 0 else d7.toNat⟩ ∧ 5 ≤ q.val ∧ q.val ≠ 7 ∧ s.coalesce q c e
      = none ∧ ringSize q ≤ (s.ring q).occ ∧ (s.ring q).oldest (Entry.hasSev 0) = some i) ∧
    (∃ (q : Fin 40) (c : Bool) (sev : Fin 4) (port : Byte) (code : Byte) (src : Byte) (d4 : Word) (d5 : Word) (d6 :
      Word) (d7 : Word) (e : EvRec) (i : Nat) (s : State), e = ⟨sev.val, port.toNat, code.toNat, src.toNat, s.time %
      2 ^ 64, 0, d4.toNat, d5.toNat, d6.toNat, if c then 0 else d7.toNat⟩ ∧ 5 ≤ q.val ∧ q.val ≠ 7 ∧ s.coalesce q c e
      = none ∧ ringSize q ≤ (s.ring q).occ ∧ (s.ring q).oldest (Entry.hasSev 0) = none ∧ (s.ring q).oldest
      (Entry.hasSev 1) = some i) ∧
    (∃ (q : Fin 40) (c : Bool) (sev : Fin 4) (port : Byte) (code : Byte) (src : Byte) (d4 : Word) (d5 : Word) (d6 :
      Word) (d7 : Word) (e : EvRec) (s : State), e = ⟨sev.val, port.toNat, code.toNat, src.toNat, s.time % 2 ^ 64, 0,
      d4.toNat, d5.toNat, d6.toNat, if c then 0 else d7.toNat⟩ ∧ 5 ≤ q.val ∧ q.val ≠ 7 ∧ s.coalesce q c e = none ∧
      ringSize q ≤ (s.ring q).occ ∧ (s.ring q).oldest (Entry.hasSev 0) = none ∧ (s.ring q).oldest (Entry.hasSev 1) =
      none ∧ sev.val ≤ 1) ∧
    (∃ (q : Fin 40) (c : Bool) (sev : Fin 4) (port : Byte) (code : Byte) (src : Byte) (d4 : Word) (d5 : Word) (d6 :
      Word) (d7 : Word) (e : EvRec) (i : Nat) (s : State), e = ⟨sev.val, port.toNat, code.toNat, src.toNat, s.time %
      2 ^ 64, 0, d4.toNat, d5.toNat, d6.toNat, if c then 0 else d7.toNat⟩ ∧ 5 ≤ q.val ∧ q.val ≠ 7 ∧ s.coalesce q c e
      = none ∧ ringSize q ≤ (s.ring q).occ ∧ (s.ring q).oldest (Entry.hasSev 0) = none ∧ (s.ring q).oldest
      (Entry.hasSev 1) = none ∧ 1 < sev.val ∧ (s.ring q).oldest (Entry.hasKind e.src e.code) = some i) ∧
    (∃ (q : Fin 40) (c : Bool) (sev : Fin 4) (port : Byte) (code : Byte) (src : Byte) (d4 : Word) (d5 : Word) (d6 :
      Word) (d7 : Word) (e : EvRec) (i : Nat) (s : State), e = ⟨sev.val, port.toNat, code.toNat, src.toNat, s.time %
      2 ^ 64, 0, d4.toNat, d5.toNat, d6.toNat, if c then 0 else d7.toNat⟩ ∧ 5 ≤ q.val ∧ q.val ≠ 7 ∧ s.coalesce q c e
      = none ∧ ringSize q ≤ (s.ring q).occ ∧ (s.ring q).oldest (Entry.hasSev 0) = none ∧ (s.ring q).oldest
      (Entry.hasSev 1) = none ∧ 1 < sev.val ∧ (s.ring q).oldest (Entry.hasKind e.src e.code) = none ∧ (s.ring
      q).oldest (Entry.paired (s.ring q).entries) = some i) ∧
    (∃ (q : Fin 40) (c : Bool) (sev : Fin 4) (port : Byte) (code : Byte) (src : Byte) (d4 : Word) (d5 : Word) (d6 :
      Word) (d7 : Word) (e : EvRec) (s : State), e = ⟨sev.val, port.toNat, code.toNat, src.toNat, s.time % 2 ^ 64, 0,
      d4.toNat, d5.toNat, d6.toNat, if c then 0 else d7.toNat⟩ ∧ 5 ≤ q.val ∧ q.val ≠ 7 ∧ s.coalesce q c e = none ∧
      ringSize q ≤ (s.ring q).occ ∧ (s.ring q).oldest (Entry.hasSev 0) = none ∧ (s.ring q).oldest (Entry.hasSev 1) =
      none ∧ (s.ring q).oldest (Entry.hasKind e.src e.code) = none ∧ (s.ring q).oldest (Entry.paired (s.ring
      q).entries) = none) ∧
    (∃ (q : Fin 40) (s : State), (s.ring q).throttle = true ∧ s.rd RING.HWM q ≤ (s.ring q).occ) ∧
    (∃ (q : Fin 40) (s : State), ((s.ring q).throttle = false ∨ (s.ring q).occ < s.rd RING.HWM q)) := by
  refine ⟨⟨1, 0, wbase, ?_⟩,
    ⟨1, 4, (
      let s : State := wbase
      let s : State := s.wr CORE.STATE 1 enReset
      s), ?_⟩,
    ⟨0, (
      let s : State := wbase
      let s : State := s.setBox 0 { s.box 0 with full := true }
      s), ?_⟩,
    ⟨0, wbase, ?_⟩,
    ⟨1, 4, wbase, ?_⟩,
    ⟨2, 4, wbase, ?_⟩,
    ⟨1, (
      let e : Fin 16 := 1
      let s : State := wbase
      let s : State := s.wr CORE.STATE e (enSleep)
      s), ?_⟩,
    ⟨1, (
      let s : State := wbase
      let s : State := { s with dev := .watch }
      s), ?_⟩,
    ⟨12, wbase, ?_⟩,
    ⟨7, wbase, ?_⟩,
    ⟨5, false, 1, 0, 9, 7, 0, 0, 0, 0, (let c : Bool := false; let sev : Fin 4 := 1; let port : Byte := 0; let code : Byte := 9; let src : Byte := 7; let d4 : Word := 0; let d5 : Word := 0; let d6 : Word := 0; let d7 : Word := 0; ⟨sev.val, port.toNat, code.toNat, src.toNat, 0 % 2 ^ 64, 0, d4.toNat, d5.toNat, d6.toNat, if c then 0 else d7.toNat⟩), wbase, ?_⟩,
    ⟨5, true, 0, 0, 9, 7, 0, 0, 0, 0, (let c : Bool := true; let sev : Fin 4 := 0; let port : Byte := 0; let code : Byte := 9; let src : Byte := 7; let d4 : Word := 0; let d5 : Word := 0; let d6 : Word := 0; let d7 : Word := 0; ⟨sev.val, port.toNat, code.toNat, src.toNat, 0 % 2 ^ 64, 0, d4.toNat, d5.toNat, d6.toNat, if c then 0 else d7.toNat⟩), 0, (⟨0, 0, 9, 7, 0, 0, 0, 0, 0, 3⟩), (
      let w : EvRec := ⟨0, 0, 9, 7, 0, 0, 0, 0, 0, 3⟩
      let s : State := wbase
      let s : State := s.setRing 5 { s.ring 5 with entries := [.ev w], seq := 1 }
      let s : State := s.wr RING.COAL_BASE 5 4
      s), ?_⟩,
    ⟨5, false, 1, 0, 9, 7, 0, 0, 0, 0, (let c : Bool := false; let sev : Fin 4 := 1; let port : Byte := 0; let code : Byte := 9; let src : Byte := 7; let d4 : Word := 0; let d5 : Word := 0; let d6 : Word := 0; let d7 : Word := 0; ⟨sev.val, port.toNat, code.toNat, src.toNat, 0 % 2 ^ 64, 0, d4.toNat, d5.toNat, d6.toNat, if c then 0 else d7.toNat⟩), 0, (
      let i : Nat := 0
      let s : State := wbase
      let s : State := s.setRing 5 { s.ring 5 with entries := (List.range 256).map fun i => .ev ⟨0, 0, 7, 7, 0, i, 0, 0, 0, 0⟩, seq := 256 }
      s), ?_⟩,
    ⟨5, false, 1, 0, 9, 7, 0, 0, 0, 0, (let c : Bool := false; let sev : Fin 4 := 1; let port : Byte := 0; let code : Byte := 9; let src : Byte := 7; let d4 : Word := 0; let d5 : Word := 0; let d6 : Word := 0; let d7 : Word := 0; ⟨sev.val, port.toNat, code.toNat, src.toNat, 0 % 2 ^ 64, 0, d4.toNat, d5.toNat, d6.toNat, if c then 0 else d7.toNat⟩), 0, (
      let i : Nat := 0
      let s : State := wbase
      let s : State := s.setRing 5 { s.ring 5 with entries := (List.range 256).map fun i => .ev ⟨1, 0, 7, 7, 0, i, 0, 0, 0, 0⟩, seq := 256 }
      s), ?_⟩,
    ⟨5, false, 1, 0, 9, 7, 0, 0, 0, 0, (let c : Bool := false; let sev : Fin 4 := 1; let port : Byte := 0; let code : Byte := 9; let src : Byte := 7; let d4 : Word := 0; let d5 : Word := 0; let d6 : Word := 0; let d7 : Word := 0; ⟨sev.val, port.toNat, code.toNat, src.toNat, 0 % 2 ^ 64, 0, d4.toNat, d5.toNat, d6.toNat, if c then 0 else d7.toNat⟩), (
      let s : State := wbase
      let s : State := s.setRing 5 { s.ring 5 with entries := (List.range 256).map fun i => .ev ⟨2, 0, 7, 7, 0, i, 0, 0, 0, 0⟩, seq := 256 }
      s), ?_⟩,
    ⟨5, false, 2, 0, 9, 7, 0, 0, 0, 0, (let c : Bool := false; let sev : Fin 4 := 2; let port : Byte := 0; let code : Byte := 9; let src : Byte := 7; let d4 : Word := 0; let d5 : Word := 0; let d6 : Word := 0; let d7 : Word := 0; ⟨sev.val, port.toNat, code.toNat, src.toNat, 0 % 2 ^ 64, 0, d4.toNat, d5.toNat, d6.toNat, if c then 0 else d7.toNat⟩), 0, (
      let i : Nat := 0
      let s : State := wbase
      let s : State := s.setRing 5 { s.ring 5 with entries := (List.range 256).map fun i => .ev ⟨2, 0, 9, 7, 0, i, 0, 0, 0, 0⟩, seq := 256 }
      s), ?_⟩,
    ⟨5, false, 2, 0, 9, 7, 0, 0, 0, 0, (let c : Bool := false; let sev : Fin 4 := 2; let port : Byte := 0; let code : Byte := 9; let src : Byte := 7; let d4 : Word := 0; let d5 : Word := 0; let d6 : Word := 0; let d7 : Word := 0; ⟨sev.val, port.toNat, code.toNat, src.toNat, 0 % 2 ^ 64, 0, d4.toNat, d5.toNat, d6.toNat, if c then 0 else d7.toNat⟩), 0, (
      let i : Nat := 0
      let s : State := wbase
      let s : State := s.setRing 5 { s.ring 5 with entries := (List.range 256).map fun i => .ev ⟨2, 0, 8, 7, 0, i, 0, 0, 0, 0⟩, seq := 256 }
      s), ?_⟩,
    ⟨5, false, 2, 0, 9, 8, 0, 0, 0, 0, (let c : Bool := false; let sev : Fin 4 := 2; let port : Byte := 0; let code : Byte := 9; let src : Byte := 8; let d4 : Word := 0; let d5 : Word := 0; let d6 : Word := 0; let d7 : Word := 0; ⟨sev.val, port.toNat, code.toNat, src.toNat, 0 % 2 ^ 64, 0, d4.toNat, d5.toNat, d6.toNat, if c then 0 else d7.toNat⟩), (
      let s : State := wbase
      let s : State := s.setRing 5 { s.ring 5 with entries := (List.range 256).map fun i => .ev ⟨2, 0, i, 7, 0, i, 0, 0, 0, 0⟩ }
      s), ?_⟩,
    ⟨0, (
      let s : State := wbase
      let s : State := s.setRing 0 { s.ring 0 with throttle := true }
      s), ?_⟩,
    ⟨0, wbase, ?_⟩⟩
  all_goals first | decide +kernel | (unfold AwaitsResponse; decide +kernel)

/-- States and operands that meet the hypotheses of PolicyObjectsAreSetAndRead, clause by clause. -/
theorem test_policy_objects_are_set_and_read_witness :
    (∃ (k : Packet) (s : State), s.serves = true ∧ AwaitsResponse k k.payload s) ∧
    (∃ (k : Packet) (s : State), s.serves = true ∧ k.chip = true ∧ k.plain = true ∧ AwaitsResponse k s.info s) ∧
    (∃ (k : Packet) (s : State), s.serves = true ∧ k.tgt = 2 ∧ k.len = 80 ∧ k.ar = 0 ∧ roleOk k.payload = true ∧
      s.standby = false ∧ AwaitsResponse k [] s ∧ ((objPages 2).any fun x => s.on (LOCK x.1) x.2) = false) ∧
    (∃ (k : Packet) (s : State), s.serves = true ∧ k.plain = true ∧ (objLen k.tgt).isSome = true ∧ k.tgt ≠ 0x1FF ∧
      k.tgt ≠ 0x2FF ∧ AwaitsResponse k (s.objNow k.tgt) s) ∧
    (∃ (p : Port) (k : Packet) (f : Profile) (s : State), s.serves = true ∧ s.ownsPorts = true ∧ k.portOf = some p ∧
      k.len = 32 ∧ profileOf k.payload = some f ∧ AwaitsResponse k [] s) := by
  refine ⟨⟨(⟨1, 0, 0, 0xFFFF, 0, [], none⟩), (
      let s : State := wbase
      let s : State := { s with dev := .run }
      let s : State := s.flag SYS.READY 0 true
      s), ?_⟩,
    ⟨(⟨1, 0, 0, 0xFFFF, 0, [], none⟩), (
      let s : State := wbase
      let s : State := { s with dev := .run }
      let s : State := s.flag SYS.READY 0 true
      s), ?_⟩,
    ⟨(⟨1, 0, 0, BitVec.ofNat 16 (2), BitVec.ofNat 32 (0), ([1, 0, 0x2C, 1, 1, 1, 5] ++ List.replicate 73 0), none⟩), (
      let s : State := wbase
      let s : State := { s with dev := .run }
      let s : State := s.flag SYS.READY 0 true
      s), ?_⟩,
    ⟨(⟨1, 0, 0, 1, 0, [], none⟩), (
      let s : State := wbase
      let s : State := { s with dev := .run }
      let s : State := s.flag SYS.READY 0 true
      s), ?_⟩,
    ⟨0, (let p : Port := 0; ⟨1, 0, 0, BitVec.ofNat 16 (p : Port).val, 0, ([1, 0, 0, 1, 1, 0, 50, 0, 50, 0, 50, 0, 50, 0, 1, 0] ++ List.replicate 16 0), none⟩), (⟨false, false, false, false, false, 0, 1, 1, 50, 50, 50, 50, 1⟩), (
      let s : State := wbase
      let s : State := { s with dev := .run }
      let s : State := s.flag SYS.READY 0 true
      s), ?_⟩⟩
  all_goals first | decide +kernel | (unfold AwaitsResponse; decide +kernel)

/-- States and operands that meet the hypotheses of PortCommandsAct, clause by clause. -/
theorem test_port_commands_act_witness :
    (∃ (p : Port) (k : Packet) (s : State), s.serves = true ∧ s.ownsPorts = true ∧ k.portOf = some p ∧ k.plain = true
      ∧ s.mayEnable p = true ∧ s.enabled p = true ∧ AwaitsResponse k [] s) ∧
    (∃ (p : Port) (k : Packet) (s : State), s.serves = true ∧ s.ownsPorts = true ∧ k.portOf = some p ∧ k.plain = true
      ∧ s.mayEnable p = true ∧ s.enabled p = false ∧ AwaitsResponse k [] s) ∧
    (∃ (p : Port) (k : Packet) (s : State), s.serves = true ∧ k.portOf = some p ∧ k.plain = true ∧ s.mayEnable p =
      false ∧ AwaitsResponse k [] s) ∧
    (∃ (k : Packet) (s : State), s.serves = true ∧ (k.portOf = none ∨ k.plain = false) ∧ AwaitsResponse k [] s) ∧
    (∃ (p : Port) (k : Packet) (s : State), s.serves = true ∧ s.ownsPorts = true ∧ k.portOf = some p ∧ k.plain = true
      ∧ AwaitsResponse k [] s) ∧
    (∃ (p : Port) (k : Packet) (s : State), s.serves = true ∧ s.ownsPorts = false ∧ k.portOf = some p ∧ k.plain =
      true ∧ AwaitsResponse k [] s) ∧
    (∃ (k : Packet) (s : State), s.serves = true ∧ (k.portOf = none ∨ k.plain = false) ∧ AwaitsResponse k [] s) ∧
    (∃ (p : Port) (k : Packet) (s : State), s.serves = true ∧ s.ownsPorts = true ∧ k.portOf = some p ∧ k.plain = true
      ∧ AwaitsResponse k (s.portState p) s) ∧
    (∃ (k : Packet) (s : State), s.serves = true ∧ s.ownsPorts = false ∧ AwaitsResponse k [] s) ∧
    (∃ (k : Packet) (s : State), s.serves = true ∧ s.ownsPorts = true ∧ (k.portOf = none ∨ k.plain = false) ∧
      AwaitsResponse k [] s) ∧
    (∃ (p : Port) (k : Packet) (s : State), s.serves = true ∧ s.ownsPorts = true ∧ k.portOf = some p ∧
      k.payload.isEmpty = true ∧ k.ar < 3 ∧ s.on SYS.RESTRICTED 0 = false ∧ s.explicit p = true ∧ (k.ar ≠ 0 ∨ s.on
      PD.EPR_MODE p = false) ∧ s.on PD.AMS_ACTIVE p = false ∧ s.pdQuiet p = true ∧ AwaitsResponse k [] s) ∧
    (∃ (p : Port) (k : Packet) (s : State), s.serves = true ∧ s.ownsPorts = true ∧ k.portOf = some p ∧
      k.payload.isEmpty = true ∧ k.ar < 3 ∧ s.on SYS.RESTRICTED 0 = false ∧ s.explicit p = true ∧ (k.ar ≠ 0 ∨ s.on
      PD.EPR_MODE p = false) ∧ (s.on PD.AMS_ACTIVE p = true ∨ s.pdQuiet p = false) ∧ AwaitsResponse k [] s) ∧
    (∃ (p : Port) (k : Packet) (s : State), s.serves = true ∧ s.ownsPorts = true ∧ k.portOf = some p ∧
      k.payload.isEmpty = true ∧ k.ar < 3 ∧ (s.on SYS.RESTRICTED 0 = true ∨ s.explicit p = false ∨ (k.ar = 0 ∧ s.on
      PD.EPR_MODE p = true)) ∧ AwaitsResponse k [] s) ∧
    (∃ (p : Port) (k : Packet) (s : State), s.serves = true ∧ s.ownsPorts = false ∧ k.portOf = some p ∧
      k.payload.isEmpty = true ∧ k.ar < 3 ∧ AwaitsResponse k [] s) ∧
    (∃ (k : Packet) (s : State), s.serves = true ∧ (k.portOf = none ∨ k.payload.isEmpty = false ∨ 3 ≤ k.ar) ∧
      AwaitsResponse k [] s) ∧
    (∃ (p : Port) (k : Packet) (s : State), s.serves = true ∧ s.ownsPorts = true ∧ k.portOf = some p ∧
      k.payload.isEmpty = true ∧ k.ar = 0 ∧ s.on CC.ATTACHED p = true ∧ s.on PD.PD_EN p = true ∧ (s.port
      p).phy.hrPending = false ∧ (s.port p).phy.cableResetPending = false ∧ AwaitsResponse k [] s) ∧
    (∃ (p : Port) (k : Packet) (s : State), s.serves = true ∧ s.ownsPorts = true ∧ k.portOf = some p ∧
      k.payload.isEmpty = true ∧ k.ar = 1 ∧ s.on CC.ATTACHED p = true ∧ s.on PD.PD_EN p = true ∧ (s.port
      p).phy.hrPending = false ∧ (s.port p).phy.cableResetPending = false ∧ s.mayCableReset p = true ∧
      s.carriedByTwill p = true ∧ (s.port p).phy.tx ≠ none ∧ AwaitsResponse k [] s) ∧
    (∃ (p : Port) (k : Packet) (s : State), s.serves = true ∧ s.ownsPorts = true ∧ k.portOf = some p ∧
      k.payload.isEmpty = true ∧ k.ar = 1 ∧ s.on CC.ATTACHED p = true ∧ s.on PD.PD_EN p = true ∧ (s.port
      p).phy.hrPending = false ∧ (s.port p).phy.cableResetPending = false ∧ s.mayCableReset p = true ∧ AwaitsResponse
      k [] s) ∧
    (∃ (p : Port) (k : Packet) (s : State), s.serves = true ∧ s.ownsPorts = true ∧ k.portOf = some p ∧
      k.payload.isEmpty = true ∧ k.ar < 2 ∧ s.on CC.ATTACHED p = true ∧ s.on PD.PD_EN p = true ∧ (s.mayCableReset p =
      true ∨ k.ar = 0) ∧ ((s.port p).phy.hrPending = true ∨ (s.port p).phy.cableResetPending = true) ∧ AwaitsResponse
      k [] s) ∧
    (∃ (p : Port) (k : Packet) (s : State), s.serves = true ∧ s.ownsPorts = true ∧ k.portOf = some p ∧
      k.payload.isEmpty = true ∧ k.ar < 2 ∧ (s.on CC.ATTACHED p = false ∨ s.on PD.PD_EN p = false ∨ (k.ar = 1 ∧
      s.mayCableReset p = false)) ∧ AwaitsResponse k [] s) ∧
    (∃ (p : Port) (k : Packet) (s : State), s.serves = true ∧ s.ownsPorts = false ∧ k.portOf = some p ∧
      k.payload.isEmpty = true ∧ k.ar < 2 ∧ AwaitsResponse k [] s) ∧
    (∃ (k : Packet) (s : State), s.serves = true ∧ (k.portOf = none ∨ k.payload.isEmpty = false ∨ 2 ≤ k.ar) ∧
      AwaitsResponse k [] s) ∧
    (∃ (p : Port) (k : Packet) (s : State), s.serves = true ∧ s.ownsPorts = true ∧ k.portOf = some p ∧ k.ar < 3 ∧
      vdmAllowed k.payload = true ∧ (s.on PD.VCONN_SRC p = true ∨ k.ar = 0) ∧ s.explicit p = true ∧ s.on
      PD.AMS_ACTIVE p = false ∧ (s.port p).pe.await = .none) ∧
    (∃ (p : Port) (k : Packet) (s : State), s.serves = true ∧ s.ownsPorts = true ∧ k.portOf = some p ∧ k.ar < 3 ∧
      vdmAllowed k.payload = true ∧ (s.on PD.VCONN_SRC p = true ∨ k.ar = 0) ∧ s.explicit p = true ∧ (s.on
      PD.AMS_ACTIVE p = true ∨ (s.port p).pe.await ≠ .none) ∧ AwaitsResponse k [] s) ∧
    (∃ (p : Port) (k : Packet) (s : State), s.serves = true ∧ s.ownsPorts = true ∧ k.portOf = some p ∧ k.ar < 3 ∧
      vdmAllowed k.payload = true ∧ (s.on PD.VCONN_SRC p = true ∨ k.ar = 0) ∧ s.explicit p = false ∧ AwaitsResponse k
      [] s) ∧
    (∃ (p : Port) (k : Packet) (s : State), s.serves = true ∧ k.portOf = some p ∧ k.ar < 3 ∧ vdmAllowed k.payload =
      true ∧ k.ar ≠ 0 ∧ s.on PD.VCONN_SRC p = false ∧ AwaitsResponse k [] s) ∧
    (∃ (p : Port) (k : Packet) (s : State), s.serves = true ∧ s.ownsPorts = false ∧ k.portOf = some p ∧ k.ar < 3 ∧
      vdmAllowed k.payload = true ∧ (s.on PD.VCONN_SRC p = true ∨ k.ar = 0) ∧ AwaitsResponse k [] s) ∧
    (∃ (k : Packet) (s : State), s.serves = true ∧ (k.portOf = none ∨ 3 ≤ k.ar ∨ vdmAllowed k.payload = false) ∧
      AwaitsResponse k [] s) ∧
    (∃ (p : Port) (k : Packet) (s : State), s.serves = true ∧ s.ownsPorts = true ∧ k.portOf = some p ∧
      k.payload.isEmpty = true ∧ k.ar < 2 ∧ s.clearRefused p (k.ar == 1) = false ∧ AwaitsResponse k [] s) ∧
    (∃ (p : Port) (k : Packet) (s : State), s.serves = true ∧ s.ownsPorts = true ∧ k.portOf = some p ∧
      k.payload.isEmpty = true ∧ k.ar < 2 ∧ s.clearRefused p (k.ar == 1) = true ∧ AwaitsResponse k [] s) ∧
    (∃ (k : Packet) (s : State), s.serves = true ∧ s.ownsPorts = false ∧ AwaitsResponse k [] s) ∧
    (∃ (k : Packet) (s : State), s.serves = true ∧ s.ownsPorts = true ∧ (k.portOf = none ∨ k.payload.isEmpty = false
      ∨ 2 ≤ k.ar) ∧ AwaitsResponse k [] s) ∧
    (∃ (p : Port) (k : Packet) (s : State), s.serves = true ∧ s.ownsPorts = true ∧ k.portOf = some p ∧
      k.payload.isEmpty = true ∧ k.ar < 4 ∧ s.gst p ≠ gRetired ∧ s.testFailed p k.ar = false ∧ (s.port p).test =
      none) ∧
    (∃ (p : Port) (k : Packet) (s : State), s.serves = true ∧ s.ownsPorts = true ∧ k.portOf = some p ∧
      k.payload.isEmpty = true ∧ k.ar < 4 ∧ s.gst p ≠ gRetired ∧ s.testFailed p k.ar = false ∧ (s.port p).test ≠ none
      ∧ AwaitsResponse k [] s) ∧
    (∃ (p : Port) (k : Packet) (s : State), s.serves = true ∧ s.ownsPorts = true ∧ k.portOf = some p ∧
      k.payload.isEmpty = true ∧ k.ar < 4 ∧ (s.gst p = gRetired ∨ s.testFailed p k.ar = true) ∧ AwaitsResponse k []
      s) ∧
    (∃ (p : Port) (k : Packet) (s : State), s.serves = true ∧ s.ownsPorts = false ∧ k.portOf = some p ∧
      k.payload.isEmpty = true ∧ k.ar < 4 ∧ AwaitsResponse k [] s) ∧
    (∃ (k : Packet) (s : State), s.serves = true ∧ (k.portOf = none ∨ k.payload.isEmpty = false ∨ 4 ≤ k.ar) ∧
      AwaitsResponse k [] s) := by
  refine ⟨⟨0, (let p : Port := 0; ⟨1, 0, 0, BitVec.ofNat 16 (p : Port).val, 0, [], none⟩), (
      let p : Port := 0
      let s : State := wbase
      let s : State := { s with dev := .run }
      let s : State := s.flag SYS.READY 0 true
      let s : State := s.wrBit SYS.EN 0 p true
      let s : State := s.wrBit SYS.EN 0 0 true
      let s : State := s.wr CC.ROLE 0 1
      let s : State := s.flag GUARD.A_FAILED 0 false
      let s : State := { s with dev := .run }
      s), ?_⟩,
    ⟨0, (let p : Port := 0; ⟨1, 0, 0, BitVec.ofNat 16 (p : Port).val, 0, [], none⟩), (
      let s : State := wbase
      let s : State := { s with dev := .run }
      let s : State := s.flag SYS.READY 0 true
      let s : State := s.wrBit SYS.EN 0 0 false
      let s : State := s.wr CC.ROLE 0 1
      let s : State := s.flag GUARD.A_FAILED 0 false
      let s : State := { s with dev := .run }
      s), ?_⟩,
    ⟨0, (let p : Port := 0; ⟨1, 0, 0, BitVec.ofNat 16 (p : Port).val, 0, [], none⟩), (
      let s : State := wbase
      let s : State := { s with dev := .run }
      let s : State := s.flag SYS.READY 0 true
      let s : State := s.flag SYS.TRIM_FAIL 0 true
      s), ?_⟩,
    ⟨(⟨1, 0, 0, 99, 0, [], none⟩), (
      let s : State := wbase
      let s : State := { s with dev := .run }
      let s : State := s.flag SYS.READY 0 true
      s), ?_⟩,
    ⟨0, (let p : Port := 0; ⟨1, 0, 0, BitVec.ofNat 16 (p : Port).val, 0, [], none⟩), (
      let s : State := wbase
      let s : State := { s with dev := .run }
      let s : State := s.flag SYS.READY 0 true
      let s : State := s.wrBit SYS.EN 0 0 true
      s), ?_⟩,
    ⟨0, (let p : Port := 0; ⟨1, 0, 0, BitVec.ofNat 16 (p : Port).val, 0, [], none⟩), (
      let s : State := wbase
      let s : State := { s with dev := .run }
      let s : State := s.flag SYS.READY 0 true
      let s : State := s.wr PAIR.PAIR_STATE 0 psStandby
      s), ?_⟩,
    ⟨(⟨1, 0, 0, 99, 0, [], none⟩), (
      let s : State := wbase
      let s : State := { s with dev := .run }
      let s : State := s.flag SYS.READY 0 true
      s), ?_⟩,
    ⟨0, (let p : Port := 0; ⟨1, 0, 0, BitVec.ofNat 16 (p : Port).val, 0, [], none⟩), (
      let s : State := wbase
      let s : State := { s with dev := .run }
      let s : State := s.flag SYS.READY 0 true
      s), ?_⟩,
    ⟨(⟨1, 0, 0, 0xFFFF, 0, [], none⟩), (
      let s : State := wbase
      let s : State := { s with dev := .run }
      let s : State := s.flag SYS.READY 0 true
      let s : State := s.wr PAIR.PAIR_STATE 0 psStandby
      s), ?_⟩,
    ⟨(⟨1, 0, 0, 99, 0, [], none⟩), (
      let s : State := wbase
      let s : State := { s with dev := .run }
      let s : State := s.flag SYS.READY 0 true
      s), ?_⟩,
    ⟨0, (let p : Port := 0; ⟨1, 0, 0, BitVec.ofNat 16 (p : Port).val, 0, [], none⟩), (
      let p : Port := 0
      let s : State := wbase
      let s : State := { s with dev := .run }
      let s : State := s.flag SYS.READY 0 true
      let s : State := s.flag SYS.RESTRICTED 0 false
      let s : State := s.wr PD.CONTRACT p 2
      let s : State := s.flag PD.AMS_ACTIVE p false
      let s : State := s.wr PD.CONTRACT 0 2
      let s : State := s.pe 0 fun e => { e with contract := some ⟨1, .fixed, 9000, 3000, 9000, .fixed 9000 3000⟩ }
      let s : State := s.flag CC.ATTACHED 0 true
      s), ?_⟩,
    ⟨0, (let p : Port := 0; ⟨1, 0, 0, BitVec.ofNat 16 (p : Port).val, 0, [], none⟩), (
      let p : Port := 0
      let s : State := wbase
      let s : State := { s with dev := .run }
      let s : State := s.flag SYS.READY 0 true
      let s : State := s.flag SYS.RESTRICTED 0 false
      let s : State := s.wr PD.CONTRACT p 2
      let s : State := s.flag PD.AMS_ACTIVE p true
      let s : State := s.wr PD.CONTRACT 0 2
      let s : State := s.pe 0 fun e => { e with contract := some ⟨1, .fixed, 9000, 3000, 9000, .fixed 9000 3000⟩ }
      let s : State := s.flag CC.ATTACHED 0 true
      let s : State := s.flag PD.AMS_ACTIVE 0 true
      s), ?_⟩,
    ⟨0, (let p : Port := 0; ⟨1, 0, 0, BitVec.ofNat 16 (p : Port).val, 0, [], none⟩), (
      let s : State := wbase
      let s : State := { s with dev := .run }
      let s : State := s.flag SYS.READY 0 true
      let s : State := s.flag SYS.RESTRICTED 0 true
      s), ?_⟩,
    ⟨0, (let p : Port := 0; ⟨1, 0, 0, BitVec.ofNat 16 (p : Port).val, 0, [], none⟩), (
      let s : State := wbase
      let s : State := { s with dev := .run }
      let s : State := s.flag SYS.READY 0 true
      let s : State := s.wr PAIR.PAIR_STATE 0 psStandby
      s), ?_⟩,
    ⟨(⟨1, 0, 0, 99, 0, [], none⟩), (
      let s : State := wbase
      let s : State := { s with dev := .run }
      let s : State := s.flag SYS.READY 0 true
      s), ?_⟩,
    ⟨0, (let p : Port := 0; ⟨1, 0, 0, BitVec.ofNat 16 (p : Port).val, BitVec.ofNat 32 (0), [], none⟩), (
      let p : Port := 0
      let s : State := wbase
      let s : State := { s with dev := .run }
      let s : State := s.flag SYS.READY 0 true
      let s : State := s.flag CC.ATTACHED p true
      let s : State := s.flag PD.PD_EN p true
      let s : State := (s.modPort (p) fun z => { z with phy := { z.phy with hrPending := false } })
      let s : State := (s.modPort (p) fun z => { z with phy := { z.phy with cableResetPending := false } })
      let s : State := s.flag CC.ATTACHED 0 true
      let s : State := s.flag PD.PD_EN 0 true
      s), ?_⟩,
    ⟨0, (let p : Port := 0; ⟨1, 0, 0, BitVec.ofNat 16 (p : Port).val, BitVec.ofNat 32 (1), [], none⟩), (
      let p : Port := 0
      let s : State := wbase
      let s : State := { s with dev := .run }
      let s : State := s.flag SYS.READY 0 true
      let s : State := s.flag CC.ATTACHED p true
      let s : State := s.flag PD.PD_EN p true
      let s : State := (s.modPort (p) fun z => { z with phy := { z.phy with hrPending := false } })
      let s : State := (s.modPort (p) fun z => { z with phy := { z.phy with cableResetPending := false } })
      let s : State := s.flag CC.ATTACHED 0 true
      let s : State := s.flag PD.PD_EN 0 true
      let s : State := s.wr PD.CONTRACT 0 2
      let s : State := s.pe 0 fun e => { e with contract := some ⟨1, .fixed, 9000, 3000, 9000, .fixed 9000 3000⟩ }
      let s : State := s.flag CC.ATTACHED 0 true
      let s : State := s.flag PD.VCONN_SRC 0 true
      let s : State := s.wr PD.HDR_DATA_ROLE 0 1
      let s : State := s.phy 0 fun y => { y with tx := some ⟨.sop, .accept, 1, none, .none⟩ }
      s), ?_⟩,
    ⟨0, (let p : Port := 0; ⟨1, 0, 0, BitVec.ofNat 16 (p : Port).val, BitVec.ofNat 32 (1), [], none⟩), (
      let p : Port := 0
      let s : State := wbase
      let s : State := { s with dev := .run }
      let s : State := s.flag SYS.READY 0 true
      let s : State := s.flag CC.ATTACHED p true
      let s : State := s.flag PD.PD_EN p true
      let s : State := (s.modPort (p) fun z => { z with phy := { z.phy with hrPending := false } })
      let s : State := (s.modPort (p) fun z => { z with phy := { z.phy with cableResetPending := false } })
      let s : State := s.flag CC.ATTACHED 0 true
      let s : State := s.flag PD.PD_EN 0 true
      let s : State := s.wr PD.CONTRACT 0 2
      let s : State := s.pe 0 fun e => { e with contract := some ⟨1, .fixed, 9000, 3000, 9000, .fixed 9000 3000⟩ }
      let s : State := s.flag CC.ATTACHED 0 true
      let s : State := s.flag PD.VCONN_SRC 0 true
      let s : State := s.wr PD.HDR_DATA_ROLE 0 1
      s), ?_⟩,
    ⟨0, (let p : Port := 0; ⟨1, 0, 0, BitVec.ofNat 16 (p : Port).val, 0, [], none⟩), (
      let p : Port := 0
      let s : State := wbase
      let s : State := { s with dev := .run }
      let s : State := s.flag SYS.READY 0 true
      let s : State := s.flag CC.ATTACHED p true
      let s : State := s.flag PD.PD_EN p true
      let s : State := (s.modPort (p) fun z => { z with phy := { z.phy with hrPending := true } })
      let s : State := s.flag CC.ATTACHED 0 true
      let s : State := s.flag PD.PD_EN 0 true
      let s : State := s.phy 0 fun y => { y with hrPending := true }
      s), ?_⟩,
    ⟨0, (let p : Port := 0; ⟨1, 0, 0, BitVec.ofNat 16 (p : Port).val, 0, [], none⟩), (
      let p : Port := 0
      let s : State := wbase
      let s : State := { s with dev := .run }
      let s : State := s.flag SYS.READY 0 true
      let s : State := s.flag CC.ATTACHED p false
      s), ?_⟩,
    ⟨0, (let p : Port := 0; ⟨1, 0, 0, BitVec.ofNat 16 (p : Port).val, 0, [], none⟩), (
      let s : State := wbase
      let s : State := { s with dev := .run }
      let s : State := s.flag SYS.READY 0 true
      let s : State := s.wr PAIR.PAIR_STATE 0 psStandby
      s), ?_⟩,
    ⟨(⟨1, 0, 0, 99, 0, [], none⟩), (
      let s : State := wbase
      let s : State := { s with dev := .run }
      let s : State := s.flag SYS.READY 0 true
      s), ?_⟩,
    ⟨0, (let p : Port := 0; ⟨1, 0, 0, BitVec.ofNat 16 (p : Port).val, 0, [0x11, 0x80, 0, 0xFF], none⟩), (
      let p : Port := 0
      let s : State := wbase
      let s : State := { s with dev := .run }
      let s : State := s.flag SYS.READY 0 true
      let s : State := s.flag PD.VCONN_SRC p true
      let s : State := s.wr PD.CONTRACT p 2
      let s : State := s.flag PD.AMS_ACTIVE p false
      let s : State := (s.modPort (p) fun z => { z with pe := { z.pe with await := .none } })
      let s : State := s.wr PD.CONTRACT 0 2
      let s : State := s.pe 0 fun e => { e with contract := some ⟨1, .fixed, 9000, 3000, 9000, .fixed 9000 3000⟩ }
      let s : State := s.flag CC.ATTACHED 0 true
      s), ?_⟩,
    ⟨0, (let p : Port := 0; ⟨1, 0, 0, BitVec.ofNat 16 (p : Port).val, 0, [0x11, 0x80, 0, 0xFF], none⟩), (
      let p : Port := 0
      let s : State := wbase
      let s : State := { s with dev := .run }
      let s : State := s.flag SYS.READY 0 true
      let s : State := s.flag PD.VCONN_SRC p true
      let s : State := s.wr PD.CONTRACT p 2
      let s : State := s.flag PD.AMS_ACTIVE p true
      let s : State := s.wr PD.CONTRACT 0 2
      let s : State := s.pe 0 fun e => { e with contract := some ⟨1, .fixed, 9000, 3000, 9000, .fixed 9000 3000⟩ }
      let s : State := s.flag CC.ATTACHED 0 true
      let s : State := s.flag PD.AMS_ACTIVE 0 true
      s), ?_⟩,
    ⟨0, (let p : Port := 0; ⟨1, 0, 0, BitVec.ofNat 16 (p : Port).val, 0, [0x11, 0x80, 0, 0xFF], none⟩), (
      let p : Port := 0
      let s : State := wbase
      let s : State := { s with dev := .run }
      let s : State := s.flag SYS.READY 0 true
      let s : State := s.flag PD.VCONN_SRC p true
      s), ?_⟩,
    ⟨0, (let p : Port := 0; ⟨1, 0, 0, BitVec.ofNat 16 (p : Port).val, 1, [0x11, 0x80, 0, 0xFF], none⟩), (
      let p : Port := 0
      let s : State := wbase
      let s : State := { s with dev := .run }
      let s : State := s.flag SYS.READY 0 true
      let s : State := s.flag PD.VCONN_SRC p false
      s), ?_⟩,
    ⟨0, (let p : Port := 0; ⟨1, 0, 0, BitVec.ofNat 16 (p : Port).val, 0, [0x11, 0x80, 0, 0xFF], none⟩), (
      let p : Port := 0
      let s : State := wbase
      let s : State := { s with dev := .run }
      let s : State := s.flag SYS.READY 0 true
      let s : State := s.flag PD.VCONN_SRC p true
      let s : State := s.wr PAIR.PAIR_STATE 0 psStandby
      s), ?_⟩,
    ⟨(⟨1, 0, 0, 99, 0, [], none⟩), (
      let s : State := wbase
      let s : State := { s with dev := .run }
      let s : State := s.flag SYS.READY 0 true
      s), ?_⟩,
    ⟨0, (let p : Port := 0; ⟨1, 0, 0, BitVec.ofNat 16 (p : Port).val, 0, [], none⟩), (
      let s : State := wbase
      let s : State := { s with dev := .run }
      let s : State := s.flag SYS.READY 0 true
      s), ?_⟩,
    ⟨0, (let p : Port := 0; ⟨1, 0, 0, BitVec.ofNat 16 (p : Port).val, 0, [], none⟩), (
      let s : State := wbase
      let s : State := { s with dev := .run }
      let s : State := s.flag SYS.READY 0 true
      let s : State := s.wr GUARD.STATE 0 gRetired
      s), ?_⟩,
    ⟨(⟨1, 0, 0, 0xFFFF, 0, [], none⟩), (
      let s : State := wbase
      let s : State := { s with dev := .run }
      let s : State := s.flag SYS.READY 0 true
      let s : State := s.wr PAIR.PAIR_STATE 0 psStandby
      s), ?_⟩,
    ⟨(⟨1, 0, 0, 99, 0, [], none⟩), (
      let s : State := wbase
      let s : State := { s with dev := .run }
      let s : State := s.flag SYS.READY 0 true
      s), ?_⟩,
    ⟨0, (let p : Port := 0; ⟨1, 0, 0, BitVec.ofNat 16 (p : Port).val, 0, [], none⟩), (
      let p : Port := 0
      let s : State := wbase
      let s : State := { s with dev := .run }
      let s : State := s.flag SYS.READY 0 true
      let s : State := (s.modPort (p) fun z => { z with test := none })
      s), ?_⟩,
    ⟨0, (let p : Port := 0; ⟨1, 0, 0, BitVec.ofNat 16 (p : Port).val, 0, [], none⟩), (
      let p : Port := 0
      let k : Packet := ⟨1, 0, 0, BitVec.ofNat 16 (p : Port).val, 0, [], none⟩
      let s : State := wbase
      let s : State := { s with dev := .run }
      let s : State := s.flag SYS.READY 0 true
      let s : State := s.modPort 0 fun (y : PortSt) => { y with test := (some ⟨k, 2, 0⟩ : Option PTest) }
      s), ?_⟩,
    ⟨0, (let p : Port := 0; ⟨1, 0, 0, BitVec.ofNat 16 (p : Port).val, 0, [], none⟩), (
      let p : Port := 0
      let s : State := wbase
      let s : State := { s with dev := .run }
      let s : State := s.flag SYS.READY 0 true
      let s : State := s.wr GUARD.STATE p gRetired
      let s : State := s.wr GUARD.STATE 0 gRetired
      s), ?_⟩,
    ⟨0, (let p : Port := 0; ⟨1, 0, 0, BitVec.ofNat 16 (p : Port).val, 0, [], none⟩), (
      let s : State := wbase
      let s : State := { s with dev := .run }
      let s : State := s.flag SYS.READY 0 true
      let s : State := s.wr PAIR.PAIR_STATE 0 psStandby
      s), ?_⟩,
    ⟨(⟨1, 0, 0, 99, 0, [], none⟩), (
      let s : State := wbase
      let s : State := { s with dev := .run }
      let s : State := s.flag SYS.READY 0 true
      s), ?_⟩⟩
  all_goals first | decide +kernel | (unfold AwaitsResponse; decide +kernel)

/-- States and operands that meet the hypotheses of PairOwnershipMoves, clause by clause. -/
theorem test_pair_ownership_moves_witness :
    (∃ (s : State), s.pairMember = true) ∧
    (∃ (s : State), s.pairMember = true ∧ s.pairOwner = true) ∧
    (∃ (s : State), s.pairMember = true ∧ s.pairOwner = false ∧ s.mayClaim = true) ∧
    (∃ (s : State), s.pairMember = true ∧ s.pairOwner = false ∧ s.mayClaim = false) ∧
    (∃ (s : State), s.pairMember = false) ∧
    (∃ (s : State), s.standby = true ∧ s.secondary = true ∧ s.pair.seen = false) ∧
    (∃ (s : State), s.standby = true ∧ s.secondary = true ∧ s.pair.seen = false ∧ s.on PAIR.OWN_IN_OK 0 = false ∧
      s.on PAIR.HB_ENABLE 0 = true ∧ s.pair.key.isSome = true ∧ s.pair.blocked = false ∧ s.pair.left = false) ∧
    (∃ (s : State), (s.standby = false ∨ s.secondary = false ∨ s.pair.seen = true)) ∧
    (∃ (s : State), s.rd PAIR.PAIR_STATE 0 = psClaiming) ∧
    (∃ (s : State), s.rd PAIR.PAIR_STATE 0 ≠ psClaiming) ∧
    (∃ (s : State), s.rd PAIR.PAIR_STATE 0 ≠ psClaiming) ∧
    (∃ (s : State), s.rd PAIR.PAIR_STATE 0 = psClaiming) ∧
    (∃ (s : State), s.rd PAIR.PAIR_STATE 0 = psClaiming ∧ s.secondary = true) ∧
    (∃ (s : State), s.rd PAIR.PAIR_STATE 0 ≠ psClaiming ∧ s.pairOwner = true ∧ s.secondary = false ∧ s.on
      PAIR.VETO_ARM 0 = true) ∧
    (∃ (s : State), s.rd PAIR.PAIR_STATE 0 ≠ psClaiming ∧ s.pairOwner = true ∧ (s.secondary = true ∨ s.on
      PAIR.VETO_ARM 0 = false)) ∧
    (∃ (s : State), s.pair.taking = true) ∧
    (∃ (s : State), s.pair.taking = false) ∧
    (∃ (h : HoSt) (s : State), s.pair.handover = some h ∧ s.handoverBusy = false ∧ h.at_ = none) ∧
    (∃ (h : HoSt) (s : State), s.pair.handover = some h ∧ (s.handoverBusy = true ∨ h.at_ ≠ none)) ∧
    (∃ (h : HoSt) (s : State), s.pair.handover = some h ∧ h.at_ ≠ none) ∧
    (∃ (h : HoSt) (s : State), s.pair.handover = some h ∧ h.at_ = none) ∧
    (∃ (h : HoSt) (s : State), s.pair.handover = some h ∧ h.at_ = none) ∧
    (∃ (h : HoSt) (s : State), s.pair.handover = some h ∧ h.at_ ≠ none ∧ h.leave = false ∧ h.final = true ∧
      s.handoverBusy = false ∧ (s.pair.unacked.any fun x => selIsHandover x.2) = false) ∧
    (∃ (h : HoSt) (s : State), s.pair.handover = some h ∧ h.at_ ≠ none ∧ h.leave = true ∧ h.final = true ∧
      s.handoverBusy = false ∧ (s.pair.unacked.any fun x => selIsHandover x.2) = false) ∧
    (∃ (h : HoSt) (s : State), s.pair.handover = some h ∧ h.at_ ≠ none ∧ (h.final = false ∨ s.handoverBusy = true ∨
      (s.pair.unacked.any fun x => selIsHandover x.2) = true)) ∧
    (∃ (h : HoSt) (s : State), s.pair.handover = some h ∧ h.at_ = none ∧ s.handoverBusy = true) ∧
    (∃ (h : HoSt) (s : State), s.pair.handover = some h ∧ (h.at_ ≠ none ∨ s.handoverBusy = false)) ∧
    (∃ (n : Nat) (s : State), s.pair.handover = none ∧ s.pair.coming = some (n, true) ∧ s.standby = true) ∧
    (∃ (s : State), s.pair.handover = none ∧ (s.pair.coming = none ∨ s.standby = false)) ∧
    (∃ (k : Packet) (s : State), s.serves = true ∧ k.chip = true ∧ k.plain = true ∧ s.pairOwner = true ∧ s.on
      PAIR.MIRROR_OK 0 = true ∧ s.pair.handover = none) ∧
    (∃ (k : Packet) (s : State), s.serves = true ∧ k.chip = true ∧ k.plain = true ∧ (s.pairOwner = false ∨ s.on
      PAIR.MIRROR_OK 0 = false) ∧ AwaitsResponse k [] s) ∧
    (∃ (k : Packet) (s : State), s.serves = true ∧ k.chip = true ∧ k.plain = true ∧ s.pairOwner = true ∧ s.on
      PAIR.MIRROR_OK 0 = true ∧ s.pair.handover ≠ none ∧ AwaitsResponse k [] s) ∧
    (∃ (k : Packet) (s : State), s.serves = true ∧ (k.chip = false ∨ k.plain = false) ∧ AwaitsResponse k [] s) ∧
    (∃ (k : Packet) (s : State), s.serves = true ∧ s.standby = false ∧ k.payload.isEmpty = true ∧ k.ar ≤ 1 ∧
      s.pairMember = true ∧ s.pairOwner = true ∧ s.on PAIR.MIRROR_OK 0 = true ∧ s.pair.handover = none) ∧
    (∃ (k : Packet) (s : State), s.serves = true ∧ s.standby = false ∧ k.payload.isEmpty = true ∧ k.ar ≤ 1 ∧
      s.pairMember = true ∧ s.pairOwner = true ∧ s.on PAIR.MIRROR_OK 0 = false ∧ AwaitsResponse k [] s) ∧
    (∃ (k : Packet) (s : State), s.serves = true ∧ s.standby = false ∧ k.payload.isEmpty = true ∧ k.ar ≤ 1 ∧
      s.pairMember = true ∧ s.pairOwner = true ∧ s.on PAIR.MIRROR_OK 0 = true ∧ s.pair.handover ≠ none ∧
      AwaitsResponse k [] s) ∧
    (∃ (k : Packet) (s : State), s.serves = true ∧ s.standby = false ∧ k.payload.isEmpty = true ∧ k.ar ≤ 1 ∧
      s.pairMember = true ∧ s.pairOwner = false ∧ AwaitsResponse k [] s) ∧
    (∃ (k : Packet) (s : State), s.serves = true ∧ s.standby = false ∧ k.payload.isEmpty = true ∧ k.ar ≤ 1 ∧
      s.pairMember = false ∧ AwaitsResponse k [] s) ∧
    (∃ (k : Packet) (s : State), s.serves = true ∧ s.standby = false ∧ (k.payload.isEmpty = false ∨ 1 < k.ar) ∧
      AwaitsResponse k [] s) ∧
    (∃ (k : Packet) (s : State), s.serves = true ∧ s.standby = true ∧ AwaitsResponse k [] s) ∧
    (∃ (k : Packet) (s : State), s.serves = true ∧ AwaitsResponse k ((s.pageImage 0xB 0 0x40 64)) s) ∧
    (∃ (k : Packet) (s : State), s.serves = true ∧ s.standby = false ∧ k.chip = true ∧ k.ar ≤ 1 ∧ k.len = 32 ∧
      s.keyHash 17 = some (sha256 k.payload) ∧ s.rd PAIR.PAIR_STATE 0 ≠ psRefused ∧ s.rd PAIR.PAIR_STATE 0 ≠ psSolo ∧
      AwaitsResponse k [] s) ∧
    (∃ (k : Packet) (s : State), s.serves = true ∧ s.standby = false ∧ k.chip = true ∧ k.ar ≤ 1 ∧ k.len = 32 ∧
      s.keyHash 17 = some (sha256 k.payload) ∧ (s.rd PAIR.PAIR_STATE 0 = psRefused ∨ s.rd PAIR.PAIR_STATE 0 = psSolo)
      ∧ AwaitsResponse k [] s) ∧
    (∃ (k : Packet) (d : List Byte) (s : State), s.serves = true ∧ s.standby = false ∧ k.chip = true ∧ k.ar ≤ 1 ∧
      k.len = 32 ∧ s.keyHash 17 = some d ∧ sha256 k.payload ≠ d ∧ AwaitsResponse k [] s) ∧
    (∃ (k : Packet) (s : State), s.serves = true ∧ s.standby = false ∧ k.chip = true ∧ k.ar ≤ 1 ∧ k.len = 32 ∧
      s.keyHash 17 = none ∧ AwaitsResponse k [] s) ∧
    (∃ (k : Packet) (s : State), s.serves = true ∧ s.standby = false ∧ (k.chip = false ∨ 1 < k.ar ∨ k.len ≠ 32) ∧
      AwaitsResponse k [] s) ∧
    (∃ (k : Packet) (s : State), s.serves = true ∧ s.standby = true ∧ AwaitsResponse k [] s) := by
  refine ⟨⟨(
      let s : State := wbase
      let s : State := s.wr PAIR.PAIR_STATE 0 2
      s), ?_⟩,
    ⟨(
      let s : State := wbase
      let s : State := s.wr PAIR.PAIR_STATE 0 2
      let s : State := s.flag PAIR.OWNER 0 true
      s), ?_⟩,
    ⟨(
      let s : State := wbase
      let s : State := s.wr PAIR.PAIR_STATE 0 2
      let s : State := { s with pair := { s.pair with key := some [1] } }
      let s : State := s.wr PAIR.PAIR_STATE 0 psStandby
      let s : State := s.flag PAIR.HB_ENABLE 0 true
      s), ?_⟩,
    ⟨(
      let s : State := wbase
      let s : State := s.wr PAIR.PAIR_STATE 0 2
      s), ?_⟩,
    ⟨wbase, ?_⟩,
    ⟨(
      let s : State := wbase
      let s : State := s.wr PAIR.PAIR_STATE 0 3
      let s : State := s.flag PAIR.ROLE 0 true
      let s : State := { s with pair := { s.pair with seen := false } }
      s), ?_⟩,
    ⟨(
      let s : State := wbase
      let s : State := s.wr PAIR.PAIR_STATE 0 3
      let s : State := s.flag PAIR.ROLE 0 true
      let s : State := { s with pair := { s.pair with seen := false } }
      let s : State := s.flag PAIR.OWN_IN_OK 0 false
      let s : State := s.flag PAIR.HB_ENABLE 0 true
      let s : State := { s with pair := { s.pair with blocked := false } }
      let s : State := { s with pair := { s.pair with left := false } }
      let s : State := { s with pair := { s.pair with key := some [1] } }
      s), ?_⟩,
    ⟨wbase, ?_⟩,
    ⟨(
      let s : State := wbase
      let s : State := s.wr PAIR.PAIR_STATE 0 (psClaiming)
      s), ?_⟩,
    ⟨wbase, ?_⟩,
    ⟨wbase, ?_⟩,
    ⟨(
      let s : State := wbase
      let s : State := s.wr PAIR.PAIR_STATE 0 (psClaiming)
      s), ?_⟩,
    ⟨(
      let s : State := wbase
      let s : State := s.wr PAIR.PAIR_STATE 0 (psClaiming)
      let s : State := s.flag PAIR.ROLE 0 true
      s), ?_⟩,
    ⟨(
      let s : State := wbase
      let s : State := s.flag PAIR.OWNER 0 true
      let s : State := s.flag PAIR.VETO_ARM 0 true
      let s : State := s.flag PAIR.ROLE 0 false
      s), ?_⟩,
    ⟨(
      let s : State := wbase
      let s : State := s.flag PAIR.OWNER 0 true
      let s : State := s.flag PAIR.ROLE 0 true
      s), ?_⟩,
    ⟨(
      let s : State := wbase
      let s : State := { s with pair := { s.pair with taking := true } }
      s), ?_⟩,
    ⟨(
      let s : State := wbase
      let s : State := { s with pair := { s.pair with taking := false } }
      s), ?_⟩,
    ⟨(⟨⟨1, 0, 0, 0xFFFF, 0, [], none⟩, 0, false, false, none, false⟩), (
      let h : HoSt := ⟨⟨1, 0, 0, 0xFFFF, 0, [], none⟩, 0, false, false, none, false⟩
      let s : State := wbase
      let s : State := { s with pair := { s.pair with handover := some h } }
      let s : State := { s with pair := { s.pair with handover := some ⟨⟨1, 0, 0, 0xFFFF, 0, [], none⟩, 0, false, false, none, false⟩ } }
      s), ?_⟩,
    ⟨(⟨⟨1, 0, 0, 0xFFFF, 0, [], none⟩, 0, false, false, some 5, true⟩), (
      let h : HoSt := ⟨⟨1, 0, 0, 0xFFFF, 0, [], none⟩, 0, false, false, some 5, true⟩
      let s : State := wbase
      let s : State := { s with pair := { s.pair with handover := some h } }
      let s : State := { s with pair := { s.pair with handover := some ⟨⟨1, 0, 0, 0xFFFF, 0, [], none⟩, 0, false, false, some 5, true⟩ } }
      s), ?_⟩,
    ⟨(⟨⟨1, 0, 0, 0xFFFF, 0, [], none⟩, 0, false, false, some 5, true⟩), (
      let h : HoSt := ⟨⟨1, 0, 0, 0xFFFF, 0, [], none⟩, 0, false, false, some 5, true⟩
      let s : State := wbase
      let s : State := { s with pair := { s.pair with handover := some h } }
      let s : State := { s with pair := { s.pair with handover := some ⟨⟨1, 0, 0, 0xFFFF, 0, [], none⟩, 0, false, false, some 5, true⟩ } }
      s), ?_⟩,
    ⟨(⟨⟨1, 0, 0, 0xFFFF, 0, [], none⟩, 0, false, false, none, false⟩), (
      let h : HoSt := ⟨⟨1, 0, 0, 0xFFFF, 0, [], none⟩, 0, false, false, none, false⟩
      let s : State := wbase
      let s : State := { s with pair := { s.pair with handover := some h } }
      let s : State := { s with pair := { s.pair with handover := some ⟨⟨1, 0, 0, 0xFFFF, 0, [], none⟩, 0, false, false, none, false⟩ } }
      s), ?_⟩,
    ⟨(⟨⟨1, 0, 0, 0xFFFF, 0, [], none⟩, 0, false, false, none, false⟩), (
      let h : HoSt := ⟨⟨1, 0, 0, 0xFFFF, 0, [], none⟩, 0, false, false, none, false⟩
      let s : State := wbase
      let s : State := { s with pair := { s.pair with handover := some h } }
      let s : State := { s with pair := { s.pair with handover := some ⟨⟨1, 0, 0, 0xFFFF, 0, [], none⟩, 0, false, false, none, false⟩ } }
      s), ?_⟩,
    ⟨(⟨⟨1, 0, 0, 0xFFFF, 0, [], none⟩, 0, false, false, some 5, true⟩), (
      let h : HoSt := ⟨⟨1, 0, 0, 0xFFFF, 0, [], none⟩, 0, false, false, some 5, true⟩
      let s : State := wbase
      let s : State := { s with pair := { s.pair with handover := some h } }
      let s : State := { s with pair := { s.pair with handover := some ⟨⟨1, 0, 0, 0xFFFF, 0, [], none⟩, 0, false, false, some 5, true⟩ } }
      s), ?_⟩,
    ⟨(⟨⟨1, 0, 0, 0xFFFF, 0, [], none⟩, 0, true, false, some 5, true⟩), (
      let h : HoSt := ⟨⟨1, 0, 0, 0xFFFF, 0, [], none⟩, 0, true, false, some 5, true⟩
      let s : State := wbase
      let s : State := { s with pair := { s.pair with handover := some h } }
      let s : State := { s with pair := { s.pair with handover := some ⟨⟨1, 0, 0, 0xFFFF, 0, [], none⟩, 0, true, false, some 5, true⟩ } }
      s), ?_⟩,
    ⟨(⟨⟨1, 0, 0, 0xFFFF, 0, [], none⟩, 0, false, false, some 5, false⟩), (
      let h : HoSt := ⟨⟨1, 0, 0, 0xFFFF, 0, [], none⟩, 0, false, false, some 5, false⟩
      let s : State := wbase
      let s : State := { s with pair := { s.pair with handover := some h } }
      let s : State := { s with pair := { s.pair with handover := some ⟨⟨1, 0, 0, 0xFFFF, 0, [], none⟩, 0, false, false, some 5, false⟩ } }
      s), ?_⟩,
    ⟨(⟨⟨1, 0, 0, 0xFFFF, 0, [], none⟩, 0, false, false, none, false⟩), (
      let h : HoSt := ⟨⟨1, 0, 0, 0xFFFF, 0, [], none⟩, 0, false, false, none, false⟩
      let s : State := wbase
      let s : State := { s with pair := { s.pair with handover := some h } }
      let s : State := { s with pair := { s.pair with handover := some ⟨⟨1, 0, 0, 0xFFFF, 0, [], none⟩, 0, false, false, none, false⟩ } }
      let s : State := (s.modPort 0 fun z => { z with pe := { z.pe with inflight := .swap } })
      s), ?_⟩,
    ⟨(⟨⟨1, 0, 0, 0xFFFF, 0, [], none⟩, 0, false, false, some 5, true⟩), (
      let h : HoSt := ⟨⟨1, 0, 0, 0xFFFF, 0, [], none⟩, 0, false, false, some 5, true⟩
      let s : State := wbase
      let s : State := { s with pair := { s.pair with handover := some h } }
      let s : State := { s with pair := { s.pair with handover := some ⟨⟨1, 0, 0, 0xFFFF, 0, [], none⟩, 0, false, false, some 5, true⟩ } }
      s), ?_⟩,
    ⟨0, (
      let n : Nat := 0
      let s : State := wbase
      let s : State := { s with pair := { s.pair with handover := none } }
      let s : State := { s with pair := { s.pair with coming := some (n, true) } }
      let s : State := s.wr PAIR.PAIR_STATE 0 3
      let s : State := { s with pair := { s.pair with coming := some (0, true) } }
      s), ?_⟩,
    ⟨(
      let s : State := wbase
      let s : State := { s with pair := { s.pair with handover := none } }
      let s : State := { s with pair := { s.pair with coming := none } }
      s), ?_⟩,
    ⟨(⟨1, 0, 0, 0xFFFF, 0, [], none⟩), (
      let s : State := wbase
      let s : State := { s with dev := .run }
      let s : State := s.flag SYS.READY 0 true
      let s : State := s.flag PAIR.OWNER 0 true
      let s : State := s.flag PAIR.MIRROR_OK 0 true
      let s : State := { s with pair := { s.pair with handover := none } }
      s), ?_⟩,
    ⟨(⟨1, 0, 0, 0xFFFF, 0, [], none⟩), (
      let s : State := wbase
      let s : State := { s with dev := .run }
      let s : State := s.flag SYS.READY 0 true
      s), ?_⟩,
    ⟨(⟨1, 0, 0, 0xFFFF, 0, [], none⟩), (
      let s : State := wbase
      let s : State := { s with dev := .run }
      let s : State := s.flag SYS.READY 0 true
      let s : State := s.flag PAIR.OWNER 0 true
      let s : State := s.flag PAIR.MIRROR_OK 0 true
      let s : State := { s with pair := { s.pair with handover := some ⟨⟨1, 0, 0, 0xFFFF, 0, [], none⟩, 0, false, false, none, false⟩ } }
      s), ?_⟩,
    ⟨(⟨1, 0, 0, 5, 0, [], none⟩), (
      let s : State := wbase
      let s : State := { s with dev := .run }
      let s : State := s.flag SYS.READY 0 true
      s), ?_⟩,
    ⟨(⟨1, 0, 0, 0xFFFF, 0, [], none⟩), (
      let s : State := wbase
      let s : State := { s with dev := .run }
      let s : State := s.flag SYS.READY 0 true
      let s : State := s.wr PAIR.PAIR_STATE 0 2
      let s : State := s.flag PAIR.OWNER 0 true
      let s : State := s.flag PAIR.MIRROR_OK 0 true
      let s : State := { s with pair := { s.pair with handover := none } }
      s), ?_⟩,
    ⟨(⟨1, 0, 0, 0xFFFF, 0, [], none⟩), (
      let s : State := wbase
      let s : State := { s with dev := .run }
      let s : State := s.flag SYS.READY 0 true
      let s : State := s.wr PAIR.PAIR_STATE 0 2
      let s : State := s.flag PAIR.OWNER 0 true
      let s : State := s.flag PAIR.MIRROR_OK 0 false
      s), ?_⟩,
    ⟨(⟨1, 0, 0, 0xFFFF, 0, [], none⟩), (
      let s : State := wbase
      let s : State := { s with dev := .run }
      let s : State := s.flag SYS.READY 0 true
      let s : State := s.wr PAIR.PAIR_STATE 0 2
      let s : State := s.flag PAIR.OWNER 0 true
      let s : State := s.flag PAIR.MIRROR_OK 0 true
      let s : State := { s with pair := { s.pair with handover := some ⟨⟨1, 0, 0, 0xFFFF, 0, [], none⟩, 0, false, false, none, false⟩ } }
      s), ?_⟩,
    ⟨(⟨1, 0, 0, 0xFFFF, 0, [], none⟩), (
      let s : State := wbase
      let s : State := { s with dev := .run }
      let s : State := s.flag SYS.READY 0 true
      let s : State := s.wr PAIR.PAIR_STATE 0 2
      let s : State := s.wr PAIR.PAIR_STATE 0 psEnrolling
      s), ?_⟩,
    ⟨(⟨1, 0, 0, 0xFFFF, 0, [], none⟩), (
      let s : State := wbase
      let s : State := { s with dev := .run }
      let s : State := s.flag SYS.READY 0 true
      s), ?_⟩,
    ⟨(⟨1, 0, 0, 0xFFFF, 0, [1], none⟩), (
      let s : State := wbase
      let s : State := { s with dev := .run }
      let s : State := s.flag SYS.READY 0 true
      s), ?_⟩,
    ⟨(⟨1, 0, 0, 0xFFFF, 0, [], none⟩), (
      let s : State := wbase
      let s : State := { s with dev := .run }
      let s : State := s.flag SYS.READY 0 true
      let s : State := s.wr PAIR.PAIR_STATE 0 3
      s), ?_⟩,
    ⟨(⟨1, 0, 0, 0xFFFF, 0, [], none⟩), (
      let s : State := wbase
      let s : State := { s with dev := .run }
      let s : State := s.flag SYS.READY 0 true
      s), ?_⟩,
    ⟨(⟨1, 0, 0, 0xFFFF, 0, List.replicate 32 0, none⟩), (
      let k : Packet := ⟨1, 0, 0, 0xFFFF, 0, List.replicate 32 0, none⟩
      let s : State := wbase
      let s : State := { s with dev := .run }
      let s : State := s.flag SYS.READY 0 true
      let s : State := { s with otp := { s.otp with used := (192, ⟨BitVec.ofNat 32 (3 * 2 ^ 24 + 2 ^ 16 + 30), true, false, 0, false⟩) :: (List.range 8).map fun i => (209 + i, ⟨BitVec.ofNat 32 (bytesAt (sha256 k.payload) (4 * i) 4), true, false, 0, false⟩) } }
      let s : State := s.wr OTP.REG_KEYS 0 rgLocked
      let s : State := s.wr PAIR.PAIR_STATE 0 psEnrolling
      s), ?_⟩,
    ⟨(⟨1, 0, 0, 0xFFFF, 0, List.replicate 32 0, none⟩), (
      let k : Packet := ⟨1, 0, 0, 0xFFFF, 0, List.replicate 32 0, none⟩
      let s : State := wbase
      let s : State := { s with dev := .run }
      let s : State := s.flag SYS.READY 0 true
      let s : State := s.wr PAIR.PAIR_STATE 0 (psRefused)
      let s : State := { s with otp := { s.otp with used := (192, ⟨BitVec.ofNat 32 (3 * 2 ^ 24 + 2 ^ 16 + 30), true, false, 0, false⟩) :: (List.range 8).map fun i => (209 + i, ⟨BitVec.ofNat 32 (bytesAt (sha256 k.payload) (4 * i) 4), true, false, 0, false⟩) } }
      let s : State := s.wr OTP.REG_KEYS 0 rgLocked
      s), ?_⟩,
    ⟨(⟨1, 0, 0, 0xFFFF, 0, List.replicate 32 0, none⟩), ((sha256 [9])), (
      let s : State := wbase
      let s : State := { s with dev := .run }
      let s : State := s.flag SYS.READY 0 true
      let s : State := { s with otp := { s.otp with used := (192, ⟨BitVec.ofNat 32 (3 * 2 ^ 24 + 2 ^ 16 + 30), true, false, 0, false⟩) :: (List.range 8).map fun i => (209 + i, ⟨BitVec.ofNat 32 (bytesAt (sha256 [9]) (4 * i) 4), true, false, 0, false⟩) } }
      let s : State := s.wr OTP.REG_KEYS 0 rgLocked
      s), ?_⟩,
    ⟨(⟨1, 0, 0, 0xFFFF, 0, List.replicate 32 0, none⟩), (
      let s : State := wbase
      let s : State := { s with dev := .run }
      let s : State := s.flag SYS.READY 0 true
      s), ?_⟩,
    ⟨(⟨1, 0, 0, 5, 0, [], none⟩), (
      let s : State := wbase
      let s : State := { s with dev := .run }
      let s : State := s.flag SYS.READY 0 true
      s), ?_⟩,
    ⟨(⟨1, 0, 0, 0xFFFF, 0, [], none⟩), (
      let s : State := wbase
      let s : State := { s with dev := .run }
      let s : State := s.flag SYS.READY 0 true
      let s : State := s.wr PAIR.PAIR_STATE 0 3
      s), ?_⟩⟩
  all_goals first | decide +kernel | (unfold AwaitsResponse; decide +kernel)

/-- States and operands that meet the hypotheses of PairLinkMirrors, clause by clause. -/
theorem test_pair_link_mirrors_witness :
    (∃ (s : State), s.selMay = true ∧ s.rd PAIR.LINK_STATE 0 = lkDown) ∧
    (∃ (s : State), s.selMay = true ∧ s.rd PAIR.LINK_STATE 0 = lkAlign) ∧
    (∃ (s : State), s.selMay = true ∧ s.rd PAIR.LINK_STATE 0 = lkTrain ∧ s.pair.proved = true ∧ 16 ≤ s.pair.hellos) ∧
    (∃ (s : State), s.selMay = false) ∧
    (∃ (e : LinkEvent) (s : State), s.rd PAIR.LINK_STATE 0 ≠
      (match e with | .signal => lkDown | .aligned => lkAlign | .trained => lkTrain)) ∧
    (∃ (s : State), (s.pair.proved = false ∨ s.pair.hellos < 16)) ∧
    (∃ (s : State), (s.rd PAIR.LINK_STATE 0 = lkTrain ∨ s.linkUp = true)) ∧
    (∃ (h : Hello) (s : State), s.rd PAIR.LINK_STATE 0 = lkTrain ∧ h.proof = []) ∧
    (∃ (s : State), s.linkUp = true) ∧
    (∃ (s : State), s.linkUp = true ∧ s.pairOwner = false) ∧
    (∃ (g : Fin 4) (l : List LoopImg) (p : Port) (s : State), s.linkUp = true ∧ s.pairOwner = false ∧ ((groupPorts
      g).zip l).any (fun x => x.1 == p) = true) ∧
    (∃ (q : Word) (s : State), s.linkUp = true ∧ s.pairOwner = false ∧ q.toNat = s.pair.rxSeq) ∧
    (∃ (s : State), s.linkUp = true ∧ s.pairOwner = false) ∧
    (∃ (q : Word) (s : State), s.linkUp = true ∧ s.pairOwner = false ∧ q.toNat = s.pair.rxSeq) ∧
    (∃ (s : State), s.linkUp = true ∧ s.pairOwner = false) ∧
    (∃ (q : Word) (s : State), s.linkUp = true ∧ s.pairOwner = false ∧ q.toNat = s.pair.rxSeq) ∧
    (∃ (b : SelBody) (q : Word) (s : State), s.linkUp = true ∧ q.toNat = s.pair.rxSeq ∧ selIsReliable b = true) ∧
    (∃ (b : SelBody) (q : Word) (s : State), s.linkUp = true ∧ q.toNat ≠ s.pair.rxSeq ∧ selIsReliable b = true) ∧
    (∃ (s : State), s.linkUp = true ∧ s.pairOwner = true) ∧
    (∃ (s : State), s.linkUp = true ∧ s.pairOwner = true) ∧
    (∃ (s : State), s.linkUp = true ∧ s.pairOwner = true) ∧
    (∃ (q : Word) (s : State), s.linkUp = true ∧ s.pairOwner = false ∧ q.toNat = s.pair.rxSeq) ∧
    (∃ (s : State), s.linkUp = true ∧ s.pairOwner = false) ∧
    (∃ (q : Word) (s : State), s.linkUp = true ∧ s.standby = true ∧ q.toNat = s.pair.rxSeq) ∧
    (∃ (s : State), s.rd PAIR.LINK_STATE 0 ≠ lkTrain ∧ s.linkUp = false) ∧
    (∃ (s : State), s.linkUp = true ∧ s.standby = true) ∧
    (∃ (s : State), s.linkUp = true) ∧
    (∃ (s : State), s.linkUp = false) ∧
    (∃ (s : State), s.linkUp = true ∧ s.pair.unacked ≠ [] ∧ s.pair.resends < 7) ∧
    (∃ (s : State), s.linkUp = true ∧ s.pair.unacked ≠ [] ∧ 7 ≤ s.pair.resends) ∧
    (∃ (s : State), (s.linkUp = false ∨ s.pair.unacked = [])) ∧
    (∃ (s : State), s.pairOwner = true ∧ s.linkUp = true) ∧
    (∃ (s : State), (s.pairOwner = false ∨ s.linkUp = false)) ∧
    (∃ (s : State), s.on PAIR.MIRROR_OK 0 = true) ∧
    (∃ (s : State), s.on PAIR.MIRROR_OK 0 = false) ∧
    (∃ (s : State), s.standby = true) ∧
    (∃ (s : State), s.standby = false) := by
  refine ⟨⟨(
      let s : State := wbase
      let s : State := s.wr PAIR.LINK_STATE 0 (lkDown)
      let s : State := { s with pair := { s.pair with key := some [1] } }
      let s : State := s.wr PAIR.PAIR_STATE 0 psStandby
      let s : State := { s with dev := .run }
      s), ?_⟩,
    ⟨(
      let s : State := wbase
      let s : State := s.wr PAIR.LINK_STATE 0 (lkAlign)
      let s : State := { s with pair := { s.pair with key := some [1] } }
      let s : State := s.wr PAIR.PAIR_STATE 0 psStandby
      let s : State := { s with dev := .run }
      s), ?_⟩,
    ⟨(
      let s : State := wbase
      let s : State := s.wr PAIR.LINK_STATE 0 (lkTrain)
      let s : State := { s with pair := { s.pair with proved := true } }
      let s : State := { s with pair := { s.pair with key := some [1] } }
      let s : State := s.wr PAIR.PAIR_STATE 0 psStandby
      let s : State := { s with dev := .run, pair := { s.pair with hellos := 16 } }
      s), ?_⟩,
    ⟨wbase, ?_⟩,
    ⟨.aligned, wbase, ?_⟩,
    ⟨(
      let s : State := wbase
      let s : State := { s with pair := { s.pair with proved := false } }
      s), ?_⟩,
    ⟨(
      let s : State := wbase
      let s : State := s.wr PAIR.LINK_STATE 0 (lkTrain)
      s), ?_⟩,
    ⟨(⟨0, true, 5, [1], []⟩), (
      let s : State := wbase
      let s : State := s.wr PAIR.LINK_STATE 0 (lkTrain)
      s), ?_⟩,
    ⟨(
      let s : State := wbase
      let s : State := s.wr PAIR.LINK_STATE 0 lkUp
      s), ?_⟩,
    ⟨(
      let s : State := wbase
      let s : State := s.wr PAIR.LINK_STATE 0 lkUp
      s), ?_⟩,
    ⟨0, ([⟨0, 0, 0, 0, 0, 0, 0, 0, 0, 0, 0, 0, 0, 0, 0, 0, false, 0, 0, 0, 0, 0, 0, 0, .open_, false, false, 0, 0, 1000⟩]), 0, (
      let s : State := wbase
      let s : State := s.wr PAIR.LINK_STATE 0 lkUp
      s), ?_⟩,
    ⟨0, (
      let s : State := wbase
      let s : State := s.wr PAIR.LINK_STATE 0 lkUp
      s), ?_⟩,
    ⟨(
      let s : State := wbase
      let s : State := s.wr PAIR.LINK_STATE 0 lkUp
      s), ?_⟩,
    ⟨0, (
      let s : State := wbase
      let s : State := s.wr PAIR.LINK_STATE 0 lkUp
      s), ?_⟩,
    ⟨(
      let s : State := wbase
      let s : State := s.wr PAIR.LINK_STATE 0 lkUp
      s), ?_⟩,
    ⟨0, (
      let s : State := wbase
      let s : State := s.wr PAIR.LINK_STATE 0 lkUp
      s), ?_⟩,
    ⟨((.marks 5 [1])), 0, (
      let s : State := wbase
      let s : State := s.wr PAIR.LINK_STATE 0 lkUp
      s), ?_⟩,
    ⟨((.marks 5 [1])), 9, (
      let s : State := wbase
      let s : State := s.wr PAIR.LINK_STATE 0 lkUp
      s), ?_⟩,
    ⟨(
      let s : State := wbase
      let s : State := s.wr PAIR.LINK_STATE 0 lkUp
      let s : State := s.flag PAIR.OWNER 0 true
      s), ?_⟩,
    ⟨(
      let s : State := wbase
      let s : State := s.wr PAIR.LINK_STATE 0 lkUp
      let s : State := s.flag PAIR.OWNER 0 true
      s), ?_⟩,
    ⟨(
      let s : State := wbase
      let s : State := s.wr PAIR.LINK_STATE 0 lkUp
      let s : State := s.flag PAIR.OWNER 0 true
      s), ?_⟩,
    ⟨0, (
      let s : State := wbase
      let s : State := s.wr PAIR.LINK_STATE 0 lkUp
      s), ?_⟩,
    ⟨(
      let s : State := wbase
      let s : State := s.wr PAIR.LINK_STATE 0 lkUp
      s), ?_⟩,
    ⟨0, (
      let s : State := wbase
      let s : State := s.wr PAIR.LINK_STATE 0 lkUp
      let s : State := s.wr PAIR.PAIR_STATE 0 3
      s), ?_⟩,
    ⟨wbase, ?_⟩,
    ⟨(
      let s : State := wbase
      let s : State := s.wr PAIR.LINK_STATE 0 lkUp
      let s : State := s.wr PAIR.PAIR_STATE 0 3
      s), ?_⟩,
    ⟨(
      let s : State := wbase
      let s : State := s.wr PAIR.LINK_STATE 0 lkUp
      s), ?_⟩,
    ⟨wbase, ?_⟩,
    ⟨(
      let s : State := wbase
      let s : State := s.wr PAIR.LINK_STATE 0 lkUp
      let s : State := { s with pair := { s.pair with unacked := [(0, .ack 0)] } }
      s), ?_⟩,
    ⟨(
      let s : State := wbase
      let s : State := s.wr PAIR.LINK_STATE 0 lkUp
      let s : State := { s with pair := { s.pair with unacked := [(0, .ack 0)], resends := 7 } }
      s), ?_⟩,
    ⟨wbase, ?_⟩,
    ⟨(
      let s : State := wbase
      let s : State := s.flag PAIR.OWNER 0 true
      let s : State := s.wr PAIR.LINK_STATE 0 lkUp
      s), ?_⟩,
    ⟨wbase, ?_⟩,
    ⟨(
      let s : State := wbase
      let s : State := s.flag PAIR.MIRROR_OK 0 true
      s), ?_⟩,
    ⟨(
      let s : State := wbase
      let s : State := s.flag PAIR.MIRROR_OK 0 false
      s), ?_⟩,
    ⟨(
      let s : State := wbase
      let s : State := s.wr PAIR.PAIR_STATE 0 3
      s), ?_⟩,
    ⟨wbase, ?_⟩⟩
  all_goals first | decide +kernel | (unfold AwaitsResponse; decide +kernel)

/-- States and operands that meet the hypotheses of PhySendsAndReceivesFrames, clause by clause. -/
theorem test_phy_sends_and_receives_frames_witness :
    (∃ (p : Port) (s : State), s.phyOn p = true) ∧
    (∃ (f : Frame) (s : State), f.msg = .goodCrc) ∧
    (∃ (p : Port) (f : Frame) (s : State), s.phyOn p = true ∧ s.on PD.SHADOW p = true ∧ f.msg ≠ .goodCrc ∧ f.sop =
      .sop) ∧
    (∃ (p : Port) (f : Frame) (s : State), s.phyOn p = true ∧ s.on PD.SHADOW p = false ∧ f.msg ≠ .goodCrc ∧ s.hears p
      f.sop = true ∧ (s.port p).phy.hrPending = false ∧ ((s.port p).phy.hrOnly = false ∨ (f.msg = .sourceCaps ∧
      s.isSrc p = false)) ∧ s.on (rxVld f.sop) p = true ∧ s.rd (rxId f.sop) p = f.id.toNat ∧ f.msg ≠ .softReset) ∧
    (∃ (p : Port) (f : Frame) (n : Nat) (s : State), s.phyOn p = true ∧ s.on PD.SHADOW p = false ∧ f.msg ≠ .goodCrc ∧
      s.hears p f.sop = true ∧ (s.port p).phy.hrPending = false ∧ ((s.port p).phy.hrOnly = false ∨ (f.msg =
      .sourceCaps ∧ s.isSrc p = false)) ∧ ¬(s.on (rxVld f.sop) p = true ∧ s.rd (rxId f.sop) p = f.id.toNat ∧ f.msg ≠
      .softReset) ∧ s.slotFree p n = false) ∧
    (∃ (p : Port) (f : Frame) (n : Nat) (s : State), s.phyOn p = true ∧ s.on PD.SHADOW p = false ∧ f.msg ≠ .goodCrc ∧
      s.hears p f.sop = true ∧ (s.port p).phy.hrPending = false ∧ ((s.port p).phy.hrOnly = false ∨ (f.msg =
      .sourceCaps ∧ s.isSrc p = false)) ∧ ¬(s.on (rxVld f.sop) p = true ∧ s.rd (rxId f.sop) p = f.id.toNat ∧ f.msg ≠
      .softReset) ∧ s.slotFree p n = true) ∧
    (∃ (p : Port) (f : Frame) (n : Nat) (s : State), s.phyOn p = true ∧ s.on PD.SHADOW p = false ∧ f.msg ≠ .goodCrc ∧
      s.hears p f.sop = true ∧ (s.port p).phy.hrPending = false ∧ ((s.port p).phy.hrOnly = false ∨ (f.msg =
      .sourceCaps ∧ s.isSrc p = false)) ∧ ¬(s.on (rxVld f.sop) p = true ∧ s.rd (rxId f.sop) p = f.id.toNat ∧ f.msg ≠
      .softReset) ∧ s.slotFree p n = true ∧ f.msg ≠ .softReset ∧ (s.port p).phy.rx = [] ∧ (s.twillOn p = false ∨
      f.chunk.isSome = true)) ∧
    (∃ (p : Port) (f : Frame) (n : Nat) (s : State), s.phyOn p = true ∧ s.on PD.SHADOW p = false ∧ f.msg ≠ .goodCrc ∧
      s.hears p f.sop = true ∧ (s.port p).phy.hrPending = false ∧ ((s.port p).phy.hrOnly = false ∨ (f.msg =
      .sourceCaps ∧ s.isSrc p = false)) ∧ ¬(s.on (rxVld f.sop) p = true ∧ s.rd (rxId f.sop) p = f.id.toNat ∧ f.msg ≠
      .softReset) ∧ s.slotFree p n = true ∧ f.msg = .softReset ∧ (s.port p).phy.rx = []) ∧
    (∃ (p : Port) (f : Frame) (a : Bool) (s : State), s.dev ≠ .warmReset ∧ s.listens p = true ∧ s.hears p f.sop =
      true ∧ s.rd PD.TX_RESULT p ≠ txBusy ∧ tooLong (extBytes f) f = false ∧ s.firstChunk p f = none ∧ f.msg ≠
      .softReset ∧ (a = false ∨ s.rd PAIR.PAIR_STATE 0 ≠ psHandover)) ∧
    (∃ (p : Port) (f : Frame) (a : Bool) (s : State), s.dev ≠ .warmReset ∧ s.listens p = true ∧ s.hears p f.sop =
      true ∧ s.rd PD.TX_RESULT p ≠ txBusy ∧ tooLong (extBytes f) f = false ∧ s.firstChunk p f = none ∧ f.msg ≠
      .softReset ∧ (a = false ∨ (s.rd PAIR.PAIR_STATE 0 ≠ psHandover ∧ s.avoiding p = false))) ∧
    (∃ (p : Port) (f : Frame) (s : State), s.dev ≠ .warmReset ∧ s.listens p = true ∧ s.hears p f.sop = true ∧ s.rd
      PD.TX_RESULT p ≠ txBusy ∧ tooLong (extBytes f) f = false ∧ s.firstChunk p f = none ∧ f.msg ≠ .softReset ∧ s.rd
      PAIR.PAIR_STATE 0 ≠ psHandover ∧ s.avoiding p = true ∧ s.isSrc p = true) ∧
    (∃ (p : Port) (f : Frame) (s : State), s.dev ≠ .warmReset ∧ s.listens p = true ∧ s.hears p f.sop = true ∧ s.rd
      PD.TX_RESULT p ≠ txBusy ∧ tooLong (extBytes f) f = false ∧ s.firstChunk p f = none ∧ f.msg ≠ .softReset ∧ s.rd
      PAIR.PAIR_STATE 0 ≠ psHandover ∧ s.avoiding p = true ∧ s.isSnk p = true ∧ s.on PD.RP_TXNG p = true) ∧
    (∃ (p : Port) (s : State), s.dev ≠ .warmReset ∧ s.listens p = true ∧ s.rd PD.TX_RESULT p ≠ txBusy) ∧
    (∃ (p : Port) (m : PdMsg) (l : List Byte) (s : State), s.dev ≠ .warmReset ∧ s.listens p = true ∧ s.rd
      PD.TX_RESULT p ≠ txBusy ∧ isExtended m = true ∧ 26 < l.length ∧ l.length ≤ 260 ∧ s.on PD.UNCHUNKED p = false) ∧
    (∃ (p : Port) (s : State), (s.rd PD.TX_RESULT p = txBusy ∨ (s.port p).phy.tx.isSome = true)) ∧
    (∃ (p : Port) (f : Frame) (s : State), s.phyOn p = true ∧ s.on PD.SHADOW p = false ∧ (s.port p).phy.tx = some f ∧
      s.rd PD.TX_RESULT p = txBusy ∧ (s.port p).phy.waitSinkTx = false) ∧
    (∃ (p : Port) (f : Frame) (s : State), s.phyOn p = true ∧ s.on PD.SHADOW p = false ∧ (s.port p).phy.tx = some f ∧
      s.rd PD.TX_RESULT p = txBusy ∧ (s.port p).phy.waitSinkTx = false ∧ f.msg ≠ .psRdy ∧ (s.port p).phy.outbox = []) ∧
    (∃ (p : Port) (f : Frame) (k : Sop) (i : BitVec 3) (s : State), s.on PD.SHADOW p = false ∧ (s.port p).phy.tx =
      some f ∧ (f.sop ≠ k ∨ f.id ≠ i)) ∧
    (∃ (p : Port) (f : Frame) (s : State), s.phyOn p = true ∧ s.on PD.SHADOW p = false ∧ (s.port p).phy.tx = some f ∧
      s.rd PD.TX_RESULT p = txBusy ∧ (s.port p).phy.waitSinkTx = false ∧ s.rd PD.RETRIES p < s.nRetry p f.sop) ∧
    (∃ (p : Port) (f : Frame) (s : State), s.phyOn p = true ∧ s.on PD.SHADOW p = false ∧ (s.port p).phy.tx = some f ∧
      s.rd PD.TX_RESULT p = txBusy ∧ (s.port p).phy.waitSinkTx = false ∧ s.nRetry p f.sop ≤ s.rd PD.RETRIES p) ∧
    (∃ (p : Port) (s : State), (s.port p).phy.waitSinkTx = true) ∧
    (∃ (p : Port) (f : Frame) (s : State), s.isSnk p = true ∧ s.rd PD.TX_RESULT p = txHeld ∧ (s.port p).phy.tx = some
      f) := by
  refine ⟨⟨0, (
      let p : Port := 0
      let s : State := wbase
      let s : State := s.flag CC.ATTACHED p true
      let s : State := s.flag PD.PD_EN p true
      let s : State := { s with dev := .run }
      s), ?_⟩,
    ⟨(⟨.sop, .goodCrc, 1, none, .none⟩), wbase, ?_⟩,
    ⟨0, (⟨.sop, .accept, 1, none, .none⟩), (
      let p : Port := 0
      let s : State := wbase
      let s : State := s.flag CC.ATTACHED p true
      let s : State := s.flag PD.PD_EN p true
      let s : State := { s with dev := .run }
      let s : State := s.flag PD.SHADOW p true
      s), ?_⟩,
    ⟨0, (⟨.sop, .accept, 1, some ⟨0, false, 100⟩, .none⟩), (
      let p : Port := 0
      let f : Frame := ⟨.sop, .accept, 1, some ⟨0, false, 100⟩, .none⟩
      let s : State := wbase
      let s : State := s.flag CC.ATTACHED p true
      let s : State := s.flag PD.PD_EN p true
      let s : State := { s with dev := .run }
      let s : State := s.flag PD.SHADOW p false
      let s : State := (s.modPort (p) fun z => { z with phy := { z.phy with hrPending := false } })
      let s : State := (s.modPort (p) fun z => { z with phy := { z.phy with hrOnly := false } })
      let s : State := s.flag (rxVld f.sop) p true
      let s : State := s.wr (rxId f.sop) p (f.id.toNat)
      let s : State := s.wr (rxId f.sop) p f.id.toNat
      s), ?_⟩,
    ⟨0, (⟨.sop, .accept, 1, none, .none⟩), 0, (
      let p : Port := 0
      let f : Frame := ⟨.sop, .accept, 1, none, .none⟩
      let s : State := wbase
      let s : State := s.flag CC.ATTACHED p true
      let s : State := s.flag PD.PD_EN p true
      let s : State := { s with dev := .run }
      let s : State := s.flag PD.SHADOW p false
      let s : State := (s.modPort (p) fun z => { z with phy := { z.phy with hrPending := false } })
      let s : State := (s.modPort (p) fun z => { z with phy := { z.phy with hrOnly := false } })
      let s : State := (s.modPort p fun z => { z with phy := { z.phy with rx := List.replicate 4 ⟨f, 2, 0⟩ } })
      s), ?_⟩,
    ⟨0, (⟨.sop, .accept, 1, none, .none⟩), 0, (
      let p : Port := 0
      let s : State := wbase
      let s : State := s.flag CC.ATTACHED p true
      let s : State := s.flag PD.PD_EN p true
      let s : State := { s with dev := .run }
      let s : State := s.flag PD.SHADOW p false
      let s : State := (s.modPort (p) fun z => { z with phy := { z.phy with hrPending := false } })
      let s : State := (s.modPort (p) fun z => { z with phy := { z.phy with hrOnly := false } })
      s), ?_⟩,
    ⟨0, (⟨.sop, .accept, 1, some ⟨0, false, 100⟩, .none⟩), 0, (
      let p : Port := 0
      let s : State := wbase
      let s : State := s.flag CC.ATTACHED p true
      let s : State := s.flag PD.PD_EN p true
      let s : State := { s with dev := .run }
      let s : State := s.flag PD.SHADOW p false
      let s : State := (s.modPort (p) fun z => { z with phy := { z.phy with hrPending := false } })
      let s : State := (s.modPort (p) fun z => { z with phy := { z.phy with hrOnly := false } })
      let s : State := (s.modPort (p) fun z => { z with phy := { z.phy with rx := [] } })
      s), ?_⟩,
    ⟨0, (⟨.sop, .softReset, 1, none, .none⟩), 0, (
      let p : Port := 0
      let s : State := wbase
      let s : State := s.flag CC.ATTACHED p true
      let s : State := s.flag PD.PD_EN p true
      let s : State := { s with dev := .run }
      let s : State := s.flag PD.SHADOW p false
      let s : State := (s.modPort (p) fun z => { z with phy := { z.phy with hrPending := false } })
      let s : State := (s.modPort (p) fun z => { z with phy := { z.phy with hrOnly := false } })
      let s : State := (s.modPort (p) fun z => { z with phy := { z.phy with rx := [] } })
      s), ?_⟩,
    ⟨0, (⟨.sop, .accept, 1, none, .none⟩), false, (
      let p : Port := 0
      let s : State := wbase
      let s : State := s.flag CC.ATTACHED p true
      let s : State := s.flag PD.PD_EN p true
      let s : State := s.flag PD.SHADOW p false
      let s : State := (s.modPort p fun z => { z with phy := PhySt.reset, pe := { z.pe with trans := none }, swap := { z.swap with step := .none } })
      let s : State := { s with pair := { s.pair with unacked := [] } }
      s), ?_⟩,
    ⟨0, (⟨.sop, .accept, 1, none, .none⟩), false, (
      let p : Port := 0
      let s : State := wbase
      let s : State := s.flag CC.ATTACHED p true
      let s : State := s.flag PD.PD_EN p true
      let s : State := s.flag PD.SHADOW p false
      let s : State := (s.modPort p fun z => { z with phy := PhySt.reset, pe := { z.pe with trans := none }, swap := { z.swap with step := .none } })
      let s : State := { s with pair := { s.pair with unacked := [] } }
      s), ?_⟩,
    ⟨0, (⟨.sop, .accept, 1, none, .none⟩), (
      let p : Port := 0
      let s : State := wbase
      let s : State := s.flag CC.ATTACHED p true
      let s : State := s.flag PD.PD_EN p true
      let s : State := s.flag PD.SHADOW p false
      let s : State := (s.modPort p fun z => { z with phy := PhySt.reset, pe := { z.pe with trans := none }, swap := { z.swap with step := .none } })
      let s : State := { s with pair := { s.pair with unacked := [] } }
      let s : State := s.wr PD.CONTRACT p 2
      let s : State := s.wr PD.NEG_REV p 2
      let s : State := s.flag CC.ATTACHED p true
      let s : State := s.wr CC.PWR_ROLE p 1
      s), ?_⟩,
    ⟨0, (⟨.sop, .accept, 1, none, .none⟩), (
      let p : Port := 0
      let s : State := wbase
      let s : State := s.flag CC.ATTACHED p true
      let s : State := s.flag PD.PD_EN p true
      let s : State := s.flag PD.SHADOW p false
      let s : State := (s.modPort p fun z => { z with phy := PhySt.reset, pe := { z.pe with trans := none }, swap := { z.swap with step := .none } })
      let s : State := { s with pair := { s.pair with unacked := [] } }
      let s : State := s.wr PD.CONTRACT p 2
      let s : State := s.wr PD.NEG_REV p 2
      let s : State := s.flag CC.ATTACHED p true
      let s : State := s.wr CC.PWR_ROLE p 2
      let s : State := s.flag PD.RP_TXNG p true
      s), ?_⟩,
    ⟨0, (
      let p : Port := 0
      let s : State := wbase
      let s : State := s.flag CC.ATTACHED p true
      let s : State := s.flag PD.PD_EN p true
      let s : State := s.flag PD.SHADOW p false
      let s : State := (s.modPort p fun z => { z with phy := PhySt.reset, pe := { z.pe with trans := none }, swap := { z.swap with step := .none } })
      let s : State := { s with pair := { s.pair with unacked := [] } }
      s), ?_⟩,
    ⟨0, .status, (List.replicate 30 1), (
      let p : Port := 0
      let s : State := wbase
      let s : State := s.flag CC.ATTACHED p true
      let s : State := s.flag PD.PD_EN p true
      let s : State := s.flag PD.SHADOW p false
      let s : State := (s.modPort p fun z => { z with phy := PhySt.reset, pe := { z.pe with trans := none }, swap := { z.swap with step := .none } })
      let s : State := { s with pair := { s.pair with unacked := [] } }
      let s : State := s.flag PD.UNCHUNKED p false
      s), ?_⟩,
    ⟨0, (
      let p : Port := 0
      let s : State := wbase
      let s : State := s.wr PD.TX_RESULT p (txBusy)
      s), ?_⟩,
    ⟨0, (⟨.sop, .accept, 1, none, .none⟩), (
      let p : Port := 0
      let f : Frame := ⟨.sop, .accept, 1, none, .none⟩
      let s : State := wbase
      let s : State := s.flag CC.ATTACHED p true
      let s : State := s.flag PD.PD_EN p true
      let s : State := { s with dev := .run }
      let s : State := s.flag PD.SHADOW p false
      let s : State := (s.modPort (p) fun z => { z with phy := { z.phy with tx := some f } })
      let s : State := s.wr PD.TX_RESULT p (txBusy)
      let s : State := (s.modPort (p) fun z => { z with phy := { z.phy with waitSinkTx := false } })
      s), ?_⟩,
    ⟨0, (⟨.sop, .reject, 1, none, .none⟩), (
      let p : Port := 0
      let f : Frame := ⟨.sop, .reject, 1, none, .none⟩
      let s : State := wbase
      let s : State := s.flag CC.ATTACHED p true
      let s : State := s.flag PD.PD_EN p true
      let s : State := { s with dev := .run }
      let s : State := s.flag PD.SHADOW p false
      let s : State := (s.modPort (p) fun z => { z with phy := { z.phy with tx := some f } })
      let s : State := s.wr PD.TX_RESULT p (txBusy)
      let s : State := (s.modPort (p) fun z => { z with phy := { z.phy with waitSinkTx := false } })
      let s : State := (s.modPort (p) fun z => { z with phy := { z.phy with outbox := [] } })
      s), ?_⟩,
    ⟨0, (⟨.sop, .accept, 1, none, .none⟩), .sop1, 0, (
      let p : Port := 0
      let f : Frame := ⟨.sop, .accept, 1, none, .none⟩
      let s : State := wbase
      let s : State := s.flag PD.SHADOW p false
      let s : State := (s.modPort (p) fun z => { z with phy := { z.phy with tx := some f } })
      s), ?_⟩,
    ⟨0, (⟨.sop, .accept, 1, none, .none⟩), (
      let p : Port := 0
      let f : Frame := ⟨.sop, .accept, 1, none, .none⟩
      let s : State := wbase
      let s : State := s.flag CC.ATTACHED p true
      let s : State := s.flag PD.PD_EN p true
      let s : State := { s with dev := .run }
      let s : State := s.flag PD.SHADOW p false
      let s : State := (s.modPort (p) fun z => { z with phy := { z.phy with tx := some f } })
      let s : State := s.wr PD.TX_RESULT p (txBusy)
      let s : State := (s.modPort (p) fun z => { z with phy := { z.phy with waitSinkTx := false } })
      s), ?_⟩,
    ⟨0, (⟨.sop, .accept, 1, none, .none⟩), (
      let p : Port := 0
      let f : Frame := ⟨.sop, .accept, 1, none, .none⟩
      let s : State := wbase
      let s : State := s.flag CC.ATTACHED p true
      let s : State := s.flag PD.PD_EN p true
      let s : State := { s with dev := .run }
      let s : State := s.flag PD.SHADOW p false
      let s : State := (s.modPort (p) fun z => { z with phy := { z.phy with tx := some f } })
      let s : State := s.wr PD.TX_RESULT p (txBusy)
      let s : State := (s.modPort (p) fun z => { z with phy := { z.phy with waitSinkTx := false } })
      let s : State := s.wr PD.RETRIES p 7
      s), ?_⟩,
    ⟨0, (
      let p : Port := 0
      let s : State := wbase
      let s : State := (s.modPort (p) fun z => { z with phy := { z.phy with waitSinkTx := true } })
      s), ?_⟩,
    ⟨0, (⟨.sop, .accept, 1, none, .none⟩), (
      let p : Port := 0
      let f : Frame := ⟨.sop, .accept, 1, none, .none⟩
      let s : State := wbase
      let s : State := s.flag CC.ATTACHED p true
      let s : State := s.wr CC.PWR_ROLE p 2
      let s : State := s.wr PD.TX_RESULT p (txHeld)
      let s : State := (s.modPort (p) fun z => { z with phy := { z.phy with tx := some f } })
      s), ?_⟩⟩
  all_goals first | decide +kernel | (unfold AwaitsResponse; decide +kernel)

/-- States and operands that meet the hypotheses of PhyResetsAndChunks, clause by clause. -/
theorem test_phy_resets_and_chunks_witness :
    (∃ (p : Port) (s : State), s.phyOn p = true ∧ s.on PD.SHADOW p = false) ∧
    (∃ (p : Port) (s : State), s.phyOn p = true ∧ s.on PD.SHADOW p = false ∧ (s.port p).phy.hrPending = false ∧
      (s.isSrc p = false ∨ (s.port p).pe.hrCount < nHardResetCount)) ∧
    (∃ (p : Port) (s : State), s.phyOn p = true ∧ s.on PD.SHADOW p = false ∧ (s.port p).phy.hrPending = false ∧
      s.isSrc p = true ∧ nHardResetCount ≤ (s.port p).pe.hrCount) ∧
    (∃ (p : Port) (s : State), (s.port p).phy.hrPending = true) ∧
    (∃ (p : Port) (s : State), (s.port p).phy.hrPending = true ∧ (s.isSrc p = false ∨ (s.port p).pe.hrCount <
      nHardResetCount)) ∧
    (∃ (p : Port) (s : State), (s.port p).phy.hrPending = true ∧ s.isSrc p = true ∧ nHardResetCount ≤ (s.port
      p).pe.hrCount) ∧
    (∃ (p : Port) (s : State), s.on CC.ATTACHED p = true ∧ s.on PD.PD_EN p = true ∧ s.on PD.SHADOW p = false ∧
      s.carriedByTwill p = true ∧ (s.port p).phy.hrPending = false) ∧
    (∃ (p : Port) (s : State), s.on CC.ATTACHED p = true ∧ s.on PD.PD_EN p = true ∧ s.on PD.SHADOW p = false ∧
      s.carriedByTwill p = true ∧ s.pastAccept p = false) ∧
    (∃ (p : Port) (s : State), s.dev ≠ .warmReset ∧ s.listens p = true ∧ (s.port p).pe.await = .none) ∧
    (∃ (p : Port) (s : State), s.on CC.ATTACHED p = true ∧ s.on PD.PD_EN p = true ∧ s.on PD.SHADOW p = false ∧
      s.carriedByTwill p = true ∧ s.pastAccept p = true) ∧
    (∃ (p : Port) (s : State), s.on CC.ATTACHED p = true ∧ s.on PD.PD_EN p = true ∧ s.on PD.SHADOW p = false ∧
      s.carriedByTwill p = true ∧ s.mayCableReset p = true ∧ (s.port p).phy.tx = none ∧ (s.port p).phy.hrPending =
      false) ∧
    (∃ (p : Port) (s : State), s.on CC.ATTACHED p = true ∧ s.on PD.PD_EN p = true ∧ s.on PD.SHADOW p = false ∧
      s.carriedByTwill p = true ∧ s.mayCableReset p = true ∧ (s.port p).phy.hrPending = true) ∧
    (∃ (p : Port) (k : Sop) (m : PdMsg) (n : Nat) (d : List Byte) (s : State), s.phyOn p = true ∧ s.twillOn p = true
      ∧ s.hears p k = true ∧ (s.port p).phy.hrOnly = false ∧ s.isNext p m = true ∧ (s.port p).phy.chunkTx = none ∧
      (s.port p).phy.reasm = [] ∧ 26 < n ∧ n ≤ 260 ∧ d.length = 26) ∧
    (∃ (p : Port) (k : Sop) (m : PdMsg) (n : Nat) (q : Nat) (l : List Byte) (d : List Byte) (s : State), s.phyOn p =
      true ∧ s.twillOn p = true ∧ s.hears p k = true ∧ (s.port p).phy.hrOnly = false ∧ s.isNext p m = true ∧ (s.port
      p).phy.chunkTx = none ∧ (s.port p).phy.reasm = [⟨k, m, n, q, l⟩] ∧ 0 < n ∧ d.length ≤ 26 ∧ l.length + d.length
      < q) ∧
    (∃ (p : Port) (k : Sop) (m : PdMsg) (n : Nat) (q : Nat) (l : List Byte) (d : List Byte) (s : State), s.phyOn p =
      true ∧ s.twillOn p = true ∧ s.hears p k = true ∧ (s.port p).phy.hrOnly = false ∧ s.isNext p m = true ∧ (s.port
      p).phy.chunkTx = none ∧ (s.port p).phy.reasm = [⟨k, m, n, q, l⟩] ∧ 0 < n ∧ d.length ≤ 26 ∧ q ≤ l.length +
      d.length) ∧
    (∃ (p : Port) (k : Sop) (m : PdMsg) (n : Nat) (q : Nat) (l : List Byte) (x : Nat) (s : State), s.phyOn p = true ∧
      s.twillOn p = true ∧ s.hears p k = true ∧ (s.port p).phy.hrOnly = false ∧ s.isNext p m = true ∧ (s.port
      p).phy.chunkTx = none ∧ (s.port p).phy.reasm = [⟨k, m, n, q, l⟩] ∧ x ≠ n) ∧
    (∃ (p : Port) (f : Frame) (l : List Byte) (n : Nat) (s : State), s.phyOn p = true ∧ s.twillOn p = true ∧ s.hears
      p f.sop = true ∧ (s.port p).phy.hrOnly = false ∧ s.isNext p f.msg = true ∧ (s.port p).phy.chunkTx = some f ∧
      f.body = .raw l ∧ (s.port p).phy.tx = none ∧ (s.port p).phy.outbox = [] ∧ (s.port p).phy.hrPending = false ∧
      (s.port p).phy.cableResetPending = false ∧ s.cacheWaits p = false ∧ f.msg ≠ .softReset ∧ f.chunk = none ∧ 26 *
      n < l.length ∧ l.length ≤ 260) ∧
    (∃ (p : Port) (s : State), s.twillOn p = true ∧ (s.port p).phy.chunkTx.isSome = true) ∧
    (∃ (p : Port) (s : State), (s.port p).pe.await = .swap ∧ (s.port p).swap.step ≠ .frsSink) ∧
    (∃ (p : Port) (s : State), s.on CC.ATTACHED p = true ∧ s.on PD.PD_EN p = true ∧ s.on PD.SHADOW p = false ∧
      s.carriedByTwill p = true ∧ (s.port p).pe.await = .softResetAccept) ∧
    (∃ (p : Port) (s : State), s.on CC.ATTACHED p = true ∧ s.on PD.PD_EN p = true ∧ s.on PD.SHADOW p = false ∧
      s.carriedByTwill p = true ∧ (s.port p).pe.await = .request ∧ (s.port p).pe.hrCount < nHardResetCount) ∧
    (∃ (p : Port) (s : State), s.on CC.ATTACHED p = true ∧ s.on PD.PD_EN p = true ∧ s.on PD.SHADOW p = false ∧
      s.carriedByTwill p = true ∧ (s.port p).pe.await = .eprEnter ∧ s.pastAccept p = false) ∧
    (∃ (p : Port) (w : Await) (s : State), (s.port p).pe.await = w ∧ (w = .sinkCap ∨ w = .sinkCapExt ∨ w = .status ∨
      w = .batteryStatus ∨ w = .digests ∨ w = .certificate ∨ w = .challenge ∨ w = .batteryCap ∨ w = .manufInfo ∨ w =
      .revision ∨ w = .extCaps)) ∧
    (∃ (p : Port) (s : State), (s.port p).pe.await = .cableId) ∧
    (∃ (p : Port) (k : Packet) (s : State), (s.port p).pe.await = .hostVdm k ∧ AwaitsResponse k [] s) ∧
    (∃ (p : Port) (s : State), (s.port p).pe.await = .discoverId) := by
  refine ⟨⟨0, (
      let p : Port := 0
      let s : State := wbase
      let s : State := s.flag CC.ATTACHED p true
      let s : State := s.flag PD.PD_EN p true
      let s : State := { s with dev := .run }
      let s : State := s.flag PD.SHADOW p false
      s), ?_⟩,
    ⟨0, (
      let p : Port := 0
      let s : State := wbase
      let s : State := s.flag CC.ATTACHED p true
      let s : State := s.flag PD.PD_EN p true
      let s : State := { s with dev := .run }
      let s : State := s.flag PD.SHADOW p false
      let s : State := (s.modPort (p) fun z => { z with phy := { z.phy with hrPending := false } })
      let s : State := (s.modPort p fun z => { z with pe := { z.pe with hrCount := 0 } })
      s), ?_⟩,
    ⟨0, (
      let p : Port := 0
      let s : State := wbase
      let s : State := s.flag CC.ATTACHED p true
      let s : State := s.flag PD.PD_EN p true
      let s : State := { s with dev := .run }
      let s : State := s.flag PD.SHADOW p false
      let s : State := (s.modPort (p) fun z => { z with phy := { z.phy with hrPending := false } })
      let s : State := s.flag CC.ATTACHED p true
      let s : State := s.wr CC.PWR_ROLE p 1
      let s : State := (s.modPort p fun z => { z with pe := { z.pe with hrCount := 9 } })
      s), ?_⟩,
    ⟨0, (
      let p : Port := 0
      let s : State := wbase
      let s : State := (s.modPort (p) fun z => { z with phy := { z.phy with hrPending := true } })
      s), ?_⟩,
    ⟨0, (
      let p : Port := 0
      let s : State := wbase
      let s : State := (s.modPort (p) fun z => { z with phy := { z.phy with hrPending := true } })
      let s : State := (s.modPort p fun z => { z with pe := { z.pe with hrCount := 0 } })
      s), ?_⟩,
    ⟨0, (
      let p : Port := 0
      let s : State := wbase
      let s : State := (s.modPort (p) fun z => { z with phy := { z.phy with hrPending := true } })
      let s : State := s.flag CC.ATTACHED p true
      let s : State := s.wr CC.PWR_ROLE p 1
      let s : State := (s.modPort p fun z => { z with pe := { z.pe with hrCount := 9 } })
      s), ?_⟩,
    ⟨0, (
      let p : Port := 0
      let s : State := wbase
      let s : State := s.flag CC.ATTACHED p true
      let s : State := s.flag PD.PD_EN p true
      let s : State := s.flag PD.SHADOW p false
      let s : State := (s.modPort (p) fun z => { z with phy := { z.phy with hrPending := false } })
      s), ?_⟩,
    ⟨0, (
      let p : Port := 0
      let s : State := wbase
      let s : State := s.flag CC.ATTACHED p true
      let s : State := s.flag PD.PD_EN p true
      let s : State := s.flag PD.SHADOW p false
      s), ?_⟩,
    ⟨0, (
      let p : Port := 0
      let s : State := wbase
      let s : State := s.flag CC.ATTACHED p true
      let s : State := s.flag PD.PD_EN p true
      let s : State := s.flag PD.SHADOW p false
      let s : State := (s.modPort p fun z => { z with phy := PhySt.reset, pe := { z.pe with trans := none }, swap := { z.swap with step := .none } })
      let s : State := { s with pair := { s.pair with unacked := [] } }
      let s : State := (s.modPort (p) fun z => { z with pe := { z.pe with await := .none } })
      s), ?_⟩,
    ⟨0, (
      let p : Port := 0
      let s : State := wbase
      let s : State := s.flag CC.ATTACHED p true
      let s : State := s.flag PD.PD_EN p true
      let s : State := s.flag PD.SHADOW p false
      let s : State := (s.modPort p fun z => { z with pe := { z.pe with trans := some ⟨.waiting, 5000, ⟨1, .fixed, 9000, 3000, 9000, .fixed 9000 3000⟩, ⟨1, 0, 300, false, false, false⟩⟩ } })
      let s : State := s.wr CC.PWR_ROLE p 1
      s), ?_⟩,
    ⟨0, (
      let p : Port := 0
      let s : State := wbase
      let s : State := s.flag CC.ATTACHED p true
      let s : State := s.flag PD.PD_EN p true
      let s : State := s.flag PD.SHADOW p false
      let s : State := (s.modPort (p) fun z => { z with phy := { z.phy with tx := none } })
      let s : State := (s.modPort (p) fun z => { z with phy := { z.phy with hrPending := false } })
      let s : State := s.flag PD.VCONN_SRC p true
      let s : State := s.wr PD.HDR_DATA_ROLE p 1
      let s : State := s.wr PD.CONTRACT p 2
      s), ?_⟩,
    ⟨0, (
      let p : Port := 0
      let s : State := wbase
      let s : State := s.flag CC.ATTACHED p true
      let s : State := s.flag PD.PD_EN p true
      let s : State := s.flag PD.SHADOW p false
      let s : State := (s.modPort (p) fun z => { z with phy := { z.phy with hrPending := true } })
      let s : State := s.flag PD.VCONN_SRC p true
      let s : State := s.wr PD.HDR_DATA_ROLE p 1
      let s : State := s.wr PD.CONTRACT p 2
      s), ?_⟩,
    ⟨0, .sop, .accept, 100, (List.replicate 26 3), (
      let p : Port := 0
      let s : State := wbase
      let s : State := s.flag CC.ATTACHED p true
      let s : State := s.flag PD.PD_EN p true
      let s : State := { s with dev := .run }
      let s : State := (s.modPort (p) fun z => { z with phy := { z.phy with hrOnly := false } })
      let s : State := (s.modPort (p) fun z => { z with phy := { z.phy with chunkTx := none } })
      let s : State := (s.modPort (p) fun z => { z with phy := { z.phy with reasm := [] } })
      s), ?_⟩,
    ⟨0, .sop, .accept, 1, 100, ([]), (List.replicate 26 3), (
      let p : Port := 0
      let k : Sop := .sop
      let m : PdMsg := .accept
      let n : Nat := 1
      let q : Nat := 100
      let l : List Byte := []
      let s : State := wbase
      let s : State := s.flag CC.ATTACHED p true
      let s : State := s.flag PD.PD_EN p true
      let s : State := { s with dev := .run }
      let s : State := (s.modPort (p) fun z => { z with phy := { z.phy with hrOnly := false } })
      let s : State := (s.modPort (p) fun z => { z with phy := { z.phy with chunkTx := none } })
      let s : State := (s.modPort (p) fun z => { z with phy := { z.phy with reasm := [⟨k, m, n, q, l⟩] } })
      s), ?_⟩,
    ⟨0, .sop, .accept, 1, 20, ([]), (List.replicate 26 3), (
      let p : Port := 0
      let k : Sop := .sop
      let m : PdMsg := .accept
      let n : Nat := 1
      let q : Nat := 20
      let l : List Byte := []
      let s : State := wbase
      let s : State := s.flag CC.ATTACHED p true
      let s : State := s.flag PD.PD_EN p true
      let s : State := { s with dev := .run }
      let s : State := (s.modPort (p) fun z => { z with phy := { z.phy with hrOnly := false } })
      let s : State := (s.modPort (p) fun z => { z with phy := { z.phy with chunkTx := none } })
      let s : State := (s.modPort (p) fun z => { z with phy := { z.phy with reasm := [⟨k, m, n, q, l⟩] } })
      s), ?_⟩,
    ⟨0, .sop, .accept, 0, 0, ([]), 5, (
      let p : Port := 0
      let k : Sop := .sop
      let m : PdMsg := .accept
      let n : Nat := 0
      let q : Nat := 0
      let l : List Byte := []
      let s : State := wbase
      let s : State := s.flag CC.ATTACHED p true
      let s : State := s.flag PD.PD_EN p true
      let s : State := { s with dev := .run }
      let s : State := (s.modPort (p) fun z => { z with phy := { z.phy with hrOnly := false } })
      let s : State := (s.modPort (p) fun z => { z with phy := { z.phy with chunkTx := none } })
      let s : State := (s.modPort (p) fun z => { z with phy := { z.phy with reasm := [⟨k, m, n, q, l⟩] } })
      s), ?_⟩,
    ⟨0, (⟨.sop, .status, 0, none, .raw (List.replicate 30 1)⟩), (List.replicate 30 1), 0, (
      let p : Port := 0
      let f : Frame := ⟨.sop, .status, 0, none, .raw (List.replicate 30 1)⟩
      let s : State := wbase
      let s : State := s.flag CC.ATTACHED p true
      let s : State := s.flag PD.PD_EN p true
      let s : State := { s with dev := .run }
      let s : State := (s.modPort (p) fun z => { z with phy := { z.phy with hrOnly := false } })
      let s : State := (s.modPort (p) fun z => { z with phy := { z.phy with chunkTx := some f } })
      let s : State := (s.modPort (p) fun z => { z with phy := { z.phy with tx := none } })
      let s : State := (s.modPort (p) fun z => { z with phy := { z.phy with outbox := [] } })
      let s : State := (s.modPort (p) fun z => { z with phy := { z.phy with hrPending := false } })
      let s : State := (s.modPort (p) fun z => { z with phy := { z.phy with cableResetPending := false } })
      s), ?_⟩,
    ⟨0, (
      let p : Port := 0
      let s : State := wbase
      let s : State := (s.modPort p fun z => { z with phy := { z.phy with chunkTx := some ⟨.sop, .accept, 1, some ⟨0, false, 100⟩, .none⟩ } })
      s), ?_⟩,
    ⟨0, (
      let p : Port := 0
      let s : State := wbase
      let s : State := (s.modPort (p) fun z => { z with pe := { z.pe with await := .swap } })
      s), ?_⟩,
    ⟨0, (
      let p : Port := 0
      let s : State := wbase
      let s : State := s.flag CC.ATTACHED p true
      let s : State := s.flag PD.PD_EN p true
      let s : State := s.flag PD.SHADOW p false
      let s : State := (s.modPort (p) fun z => { z with pe := { z.pe with await := .softResetAccept } })
      s), ?_⟩,
    ⟨0, (
      let p : Port := 0
      let s : State := wbase
      let s : State := s.flag CC.ATTACHED p true
      let s : State := s.flag PD.PD_EN p true
      let s : State := s.flag PD.SHADOW p false
      let s : State := (s.modPort (p) fun z => { z with pe := { z.pe with await := .request } })
      let s : State := (s.modPort p fun z => { z with pe := { z.pe with hrCount := 0 } })
      s), ?_⟩,
    ⟨0, (
      let p : Port := 0
      let s : State := wbase
      let s : State := s.flag CC.ATTACHED p true
      let s : State := s.flag PD.PD_EN p true
      let s : State := s.flag PD.SHADOW p false
      let s : State := (s.modPort (p) fun z => { z with pe := { z.pe with await := .eprEnter } })
      s), ?_⟩,
    ⟨0, .status, (
      let p : Port := 0
      let w : Await := .status
      let s : State := wbase
      let s : State := (s.modPort (p) fun z => { z with pe := { z.pe with await := w } })
      s), ?_⟩,
    ⟨0, (
      let p : Port := 0
      let s : State := wbase
      let s : State := (s.modPort (p) fun z => { z with pe := { z.pe with await := .cableId } })
      s), ?_⟩,
    ⟨0, (⟨1, 0, 0, 0xFFFF, 0, [], none⟩), (
      let p : Port := 0
      let k : Packet := ⟨1, 0, 0, 0xFFFF, 0, [], none⟩
      let s : State := wbase
      let s : State := (s.modPort (p) fun z => { z with pe := { z.pe with await := .hostVdm k } })
      s), ?_⟩,
    ⟨0, (
      let p : Port := 0
      let s : State := wbase
      let s : State := (s.modPort (p) fun z => { z with pe := { z.pe with await := .discoverId } })
      s), ?_⟩⟩
  all_goals first | decide +kernel | (unfold AwaitsResponse; decide +kernel)

/-- States and operands that meet the hypotheses of ResetsClocksAndStraps, clause by clause. -/
theorem test_resets_clocks_and_straps_witness :
    (∃ (s : State), s.dev = .boot ∧ s.on CLK.CORE_LOCK 0 = false) ∧
    (∃ (s : State), (s.dev ≠ .boot ∨ s.on CLK.CORE_LOCK 0 = true)) ∧
    (∃ (n : Nat) (s : State), n < 100) ∧
    (∃ (n : Nat) (s : State), 100 ≤ n) ∧
    (∃ (s : State), s.on CLK.CORE_LOCK 0 = true ∧ s.dev = .run ∧ s.pow.storms = []) ∧
    (∃ (s : State), s.on CLK.PWM_LOCK 0 = true ∧ s.dev = .run ∧ s.pow.intoSafe = false) ∧
    (∃ (s : State), s.on CLK.XIN_OK 0 = true ∧ s.dev = .run ∧ s.pow.intoSafe = false) ∧
    (∃ (s : State), s.on CLK.CORE_LOCK 0 = false) ∧
    (∃ (s : State), s.on CLK.PWM_LOCK 0 = false) ∧
    (∃ (s : State), s.on CLK.XIN_OK 0 = false) ∧
    (∃ (s : State), s.dev ≠ .boot ∧ s.dev ≠ .watch ∧ s.on CLK.XIN_OK 0 = true) ∧
    (∃ (s : State), s.dev ≠ .boot ∧ s.dev ≠ .watch ∧ s.on CLK.XIN_OK 0 = true) ∧
    (∃ (s : State), s.dev ≠ .boot ∧ s.dev ≠ .watch ∧ s.on CLK.PWM_LOCK 0 = true) ∧
    (∃ (s : State), s.dev ≠ .boot ∧ s.dev ≠ .watch ∧ s.on CLK.PWM_LOCK 0 = false) ∧
    (∃ (c : ClockSrc) (s : State), (s.dev = .boot ∨ s.dev = .watch ∨ (s.on CLK.XIN_OK 0 = false ∧ c ≠ .xin))) ∧
    (∃ (s : State), s.on CLK.PWM_LOCK 0 = true ∧ s.on CLK.SSC_EN 0 = true) ∧
    (∃ (s : State), s.on CLK.PWM_LOCK 0 = true ∧ s.on CLK.SSC_EN 0 = false) ∧
    (∃ (s : State), s.on CLK.PWM_LOCK 0 = false) := by
  refine ⟨⟨(
      let s : State := wbase
      let s : State := { s with dev := .boot }
      let s : State := s.flag CLK.CORE_LOCK 0 false
      let s : State := { s with dev := .boot }
      let s : State := s.flag CLK.CORE_LOCK 0 false
      s), ?_⟩,
    ⟨(
      let s : State := wbase
      let s : State := { s with dev := .run }
      s), ?_⟩,
    ⟨99, wbase, ?_⟩,
    ⟨100, wbase, ?_⟩,
    ⟨(
      let s : State := wbase
      let s : State := s.flag CLK.CORE_LOCK 0 true
      let s : State := { s with dev := .run }
      let s : State := { s with pow := { s.pow with storms := [] } }
      let s : State := { s with dev := .run }
      let s : State := s.flag CLK.CORE_LOCK 0 true
      let s : State := s.flag CLK.PWM_LOCK 0 true
      let s : State := s.flag CLK.XIN_OK 0 true
      s), ?_⟩,
    ⟨(
      let s : State := wbase
      let s : State := s.flag CLK.PWM_LOCK 0 true
      let s : State := { s with dev := .run }
      let s : State := { s with pow := { s.pow with intoSafe := false } }
      let s : State := { s with dev := .run }
      let s : State := s.flag CLK.CORE_LOCK 0 true
      let s : State := s.flag CLK.PWM_LOCK 0 true
      let s : State := s.flag CLK.XIN_OK 0 true
      s), ?_⟩,
    ⟨(
      let s : State := wbase
      let s : State := s.flag CLK.XIN_OK 0 true
      let s : State := { s with dev := .run }
      let s : State := { s with pow := { s.pow with intoSafe := false } }
      let s : State := { s with dev := .run }
      let s : State := s.flag CLK.CORE_LOCK 0 true
      let s : State := s.flag CLK.PWM_LOCK 0 true
      let s : State := s.flag CLK.XIN_OK 0 true
      s), ?_⟩,
    ⟨(
      let s : State := wbase
      let s : State := s.flag CLK.CORE_LOCK 0 false
      let s : State := s.flag CLK.CORE_LOCK 0 false
      s), ?_⟩,
    ⟨(
      let s : State := wbase
      let s : State := s.flag CLK.PWM_LOCK 0 false
      let s : State := s.flag CLK.PWM_LOCK 0 false
      s), ?_⟩,
    ⟨(
      let s : State := wbase
      let s : State := s.flag CLK.XIN_OK 0 false
      let s : State := s.flag CLK.XIN_OK 0 false
      s), ?_⟩,
    ⟨(
      let s : State := wbase
      let s : State := s.flag CLK.XIN_OK 0 true
      let s : State := { s with dev := .run }
      let s : State := s.flag CLK.CORE_LOCK 0 true
      let s : State := s.flag CLK.PWM_LOCK 0 true
      let s : State := s.flag CLK.XIN_OK 0 true
      s), ?_⟩,
    ⟨(
      let s : State := wbase
      let s : State := s.flag CLK.XIN_OK 0 true
      let s : State := { s with dev := .run }
      let s : State := s.flag CLK.CORE_LOCK 0 true
      let s : State := s.flag CLK.PWM_LOCK 0 true
      let s : State := s.flag CLK.XIN_OK 0 true
      s), ?_⟩,
    ⟨(
      let s : State := wbase
      let s : State := s.flag CLK.PWM_LOCK 0 true
      let s : State := { s with dev := .run }
      let s : State := s.flag CLK.CORE_LOCK 0 true
      let s : State := s.flag CLK.PWM_LOCK 0 true
      let s : State := s.flag CLK.XIN_OK 0 true
      s), ?_⟩,
    ⟨(
      let s : State := wbase
      let s : State := s.flag CLK.PWM_LOCK 0 false
      let s : State := { s with dev := .run }
      let s : State := s.flag CLK.CORE_LOCK 0 true
      let s : State := s.flag CLK.PWM_LOCK 0 true
      let s : State := s.flag CLK.XIN_OK 0 true
      let s : State := s.flag CLK.PWM_LOCK 0 false
      s), ?_⟩,
    ⟨.xin, (
      let s : State := wbase
      let s : State := { s with dev := .boot }
      let s : State := { s with dev := .watch }
      s), ?_⟩,
    ⟨(
      let s : State := wbase
      let s : State := s.flag CLK.PWM_LOCK 0 true
      let s : State := s.flag CLK.SSC_EN 0 true
      let s : State := { s with dev := .run }
      let s : State := s.flag CLK.CORE_LOCK 0 true
      let s : State := s.flag CLK.PWM_LOCK 0 true
      let s : State := s.flag CLK.XIN_OK 0 true
      s), ?_⟩,
    ⟨(
      let s : State := wbase
      let s : State := s.flag CLK.PWM_LOCK 0 true
      let s : State := s.flag CLK.SSC_EN 0 false
      let s : State := { s with dev := .run }
      let s : State := s.flag CLK.CORE_LOCK 0 true
      let s : State := s.flag CLK.PWM_LOCK 0 true
      let s : State := s.flag CLK.XIN_OK 0 true
      let s : State := s.flag CLK.SSC_EN 0 false
      s), ?_⟩,
    ⟨(
      let s : State := wbase
      let s : State := s.flag CLK.PWM_LOCK 0 false
      let s : State := s.flag CLK.PWM_LOCK 0 false
      s), ?_⟩⟩
  all_goals first | decide +kernel | (unfold AwaitsResponse; decide +kernel)

/-- States and operands that meet the hypotheses of PowerStatesFollowTheirCauses, clause by clause. -/
theorem test_power_states_follow_their_causes_witness :
    (∃ (idle : Bool) (s : State), s.dev = .run ∧ s.on SYS.READY 0 = true ∧ s.watchBlock idle = 0) ∧
    (∃ (idle : Bool) (s : State), s.dev = .run ∧ s.on SYS.READY 0 = true ∧ s.watchBlock idle ≠ 0) ∧
    (∃ (s : State), (s.dev ≠ .run ∨ s.on SYS.READY 0 = false)) ∧
    (∃ (s : State), s.dev = .watch) ∧
    (∃ (s : State), s.dev = .waking) ∧
    (∃ (s : State), s.dev ≠ .watch ∧ s.dev ≠ .waking) ∧
    (∃ (s : State), s.dev = .watch ∧ s.on RST.WAKE_INT 0 = true) ∧
    (∃ (s : State), (s.dev ≠ .watch ∨ s.on RST.WAKE_INT 0 = false)) ∧
    (∃ (cc : List (Port × Nat × Nat)) (s : State), s.dev = .watch ∧ (cc.any fun x => s.watchAttach x.1 x.2.1 x.2.2) =
      true) ∧
    (∃ (v : Nat) (cc : List (Port × Nat × Nat)) (s : State), s.dev = .watch ∧ (cc.any fun x => s.watchAttach x.1
      x.2.1 x.2.2) = false ∧ 840 < v) ∧
    (∃ (cc : List (Port × Nat × Nat)) (mons : List (Mon × Nat)) (s : State), s.dev = .watch ∧ (cc.any fun x =>
      s.watchAttach x.1 x.2.1 x.2.2) = false ∧ (mons.foldl (fun (a : State × Bool) x => ((a.1.watchMon x.1 x.2).1,
      a.2 || (a.1.watchMon x.1 x.2).2)) (s, false)).2 = false) ∧
    (∃ (cc : List (Port × Nat × Nat)) (s : State), s.dev = .watch ∧ (cc.any fun x => s.watchAttach x.1 x.2.1 x.2.2) =
      true) ∧
    (∃ (cc : List (Port × Nat × Nat)) (mons : List (Mon × Nat)) (s : State), s.dev = .watch ∧ (cc.any fun x =>
      s.watchAttach x.1 x.2.1 x.2.2) = false ∧ (mons.foldl (fun (a : State × Bool) x => ((a.1.watchMon x.1 x.2).1,
      a.2 || (a.1.watchMon x.1 x.2).2)) (s, false)).2 = true) ∧
    (∃ (s : State), s.dev ≠ .watch) ∧
    (∃ (s : State), s.dev = .run ∧ s.pow.intoSafe = false ∧ 3 ≤ (s.pow.storms.filter fun t => decide (s.up ≤ t +
      600000000000)).length) ∧
    (∃ (s : State), (s.pow.storms.filter fun t => decide (s.up ≤ t + 600000000000)).length < 3) ∧
    (∃ (s : State), s.dev = .run ∧ s.pow.intoSafe = false) ∧
    (∃ (s : State), (s.dev = .watch ∨ s.dev = .waking ∨ s.dev = .recovery) ∧ s.pow.intoSafe = false) ∧
    (∃ (s : State), (s.dev = .boot ∨ s.dev = .warmReset) ∧ s.pow.intoSafe = false) ∧
    (∃ (s : State), (s.dev = .safe ∨ s.pow.intoSafe = true)) ∧
    (∃ (d : BitVec 16) (s : State), s.dev ≠ .watch ∧ s.pow.warned = false ∧ 10 * (s.rd RST.TWARN 0 : Int) ≤ d.toInt) ∧
    (∃ (d : BitVec 16) (s : State), s.dev ≠ .watch ∧ d.toInt < 10 * ((s.rd RST.TWARN 0 : Int) - 5)) ∧
    (∃ (d : BitVec 16) (s : State), s.dev ≠ .watch ∧ 10 * ((s.rd RST.TWARN 0 : Int) - 5) ≤ d.toInt ∧ (s.pow.warned =
      true ∨ d.toInt < 10 * (s.rd RST.TWARN 0 : Int))) ∧
    (∃ (s : State), s.dev = .watch) ∧
    (∃ (d : BitVec 16) (s : State), s.dev = .run ∧ s.pow.intoSafe = false ∧ 2 ≤ s.pow.hot ∧ 10 * (s.rd RST.TSD 0 :
      Int) ≤ d.toInt) ∧
    (∃ (d : BitVec 16) (s : State), s.dev ≠ .watch ∧ s.pow.hot < 2 ∧ 10 * (s.rd RST.TSD 0 : Int) ≤ d.toInt) ∧
    (∃ (d : BitVec 16) (s : State), s.dev ≠ .watch ∧ d.toInt < 10 * (s.rd RST.TSD 0 : Int)) ∧
    (∃ (s : State), s.dev = .watch) := by
  refine ⟨⟨true, (
      let s : State := wbase
      let s : State := { s with dev := .run }
      let s : State := s.flag SYS.READY 0 true
      let s : State := { s with dev := .run }
      let s : State := s.flag SYS.READY 0 true
      let s : State := s.wr BOOT.STATE 0 upIdle
      let s : State := s.flag RST.WATCH_EN 0 true
      let s : State := { s with led := { s.led with dirty := [] } }
      let s : State := s.wr PAIR.PAIR_STATE 0 0
      let s : State := allPorts.foldl (fun (t : State) p => t.wr CC.TC_STATE p tcUnattachedSnk) s
      let s : State := { s with boot := { s.boot with exam := false } }
      s), ?_⟩,
    ⟨false, (
      let s : State := wbase
      let s : State := { s with dev := .run }
      let s : State := s.flag SYS.READY 0 true
      let s : State := { s with dev := .run }
      let s : State := s.flag SYS.READY 0 true
      s), ?_⟩,
    ⟨wbase, ?_⟩,
    ⟨(
      let s : State := wbase
      let s : State := { s with dev := .watch }
      let s : State := { s with dev := .watch }
      s), ?_⟩,
    ⟨(
      let s : State := wbase
      let s : State := { s with dev := .waking }
      let s : State := { s with dev := .waking }
      s), ?_⟩,
    ⟨wbase, ?_⟩,
    ⟨(
      let s : State := wbase
      let s : State := { s with dev := .watch }
      let s : State := s.flag RST.WAKE_INT 0 true
      let s : State := { s with dev := .watch }
      s), ?_⟩,
    ⟨wbase, ?_⟩,
    ⟨([(0, 1200, 3000)]), (
      let cc : List (Port × Nat × Nat) := [(0, 1200, 3000)]
      let s : State := wbase
      let s : State := { s with dev := .watch }
      let s : State := s.wrBit SYS.EN 0 0 true
      let s : State := s.modPort 0 fun x => { x with cc := { x.cc with pres := .rp30 } }
      let s : State := { s with dev := .watch }
      s), ?_⟩,
    ⟨900, ([]), (
      let s : State := wbase
      let s : State := { s with dev := .watch }
      let s : State := { s with dev := .watch }
      s), ?_⟩,
    ⟨([]), ([]), (
      let s : State := wbase
      let s : State := { s with dev := .watch }
      let s : State := { s with dev := .watch }
      s), ?_⟩,
    ⟨([(0, 1200, 3000)]), (
      let cc : List (Port × Nat × Nat) := [(0, 1200, 3000)]
      let s : State := wbase
      let s : State := { s with dev := .watch }
      let s : State := s.wrBit SYS.EN 0 0 true
      let s : State := s.modPort 0 fun x => { x with cc := { x.cc with pres := .rp30 } }
      let s : State := { s with dev := .watch }
      s), ?_⟩,
    ⟨([]), ([(.vbusA 0, 900)]), (
      let s : State := wbase
      let s : State := { s with dev := .watch }
      let s : State := { s with dev := .watch }
      s), ?_⟩,
    ⟨wbase, ?_⟩,
    ⟨(
      let s : State := wbase
      let s : State := { s with dev := .run }
      let s : State := { s with pow := { s.pow with intoSafe := false } }
      let s : State := { s with dev := .run }
      let s : State := s.flag SYS.READY 0 true
      let s : State := { s with pow := { s.pow with storms := [0, 0, 0] } }
      s), ?_⟩,
    ⟨wbase, ?_⟩,
    ⟨(
      let s : State := wbase
      let s : State := { s with dev := .run }
      let s : State := { s with pow := { s.pow with intoSafe := false } }
      s), ?_⟩,
    ⟨(
      let s : State := wbase
      let s : State := { s with dev := .watch }
      let s : State := { s with pow := { s.pow with intoSafe := false } }
      let s : State := { s with dev := .watch }
      s), ?_⟩,
    ⟨(
      let s : State := wbase
      let s : State := { s with dev := .boot }
      let s : State := { s with pow := { s.pow with intoSafe := false } }
      let s : State := { s with dev := .warmReset }
      s), ?_⟩,
    ⟨(
      let s : State := wbase
      let s : State := { s with dev := .safe }
      let s : State := { s with dev := .safe }
      s), ?_⟩,
    ⟨1300, (
      let s : State := wbase
      let s : State := { s with pow := { s.pow with warned := false } }
      s), ?_⟩,
    ⟨0, wbase, ?_⟩,
    ⟨1300, (
      let s : State := wbase
      let s : State := { s with pow := { s.pow with warned := true } }
      let s : State := { s with pow := { s.pow with warned := true } }
      s), ?_⟩,
    ⟨(
      let s : State := wbase
      let s : State := { s with dev := .watch }
      s), ?_⟩,
    ⟨1700, (
      let s : State := wbase
      let s : State := { s with dev := .run }
      let s : State := { s with pow := { s.pow with intoSafe := false } }
      let s : State := { s with pow := { s.pow with hot := 2 } }
      s), ?_⟩,
    ⟨1700, wbase, ?_⟩,
    ⟨0, wbase, ?_⟩,
    ⟨(
      let s : State := wbase
      let s : State := { s with dev := .watch }
      s), ?_⟩⟩
  all_goals first | decide +kernel | (unfold AwaitsResponse; decide +kernel)

/-- States and operands that meet the hypotheses of SamplesReachTheLoops, clause by clause. -/
theorem test_samples_reach_the_loops_witness :
    (∃ (p : Port) (d : Fin 4) (s : State), d = 0 ∧ s.bit ADC.FAILED 0 (s.adcOf p) = false) ∧
    (∃ (p : Port) (d : Fin 4) (s : State), (d ≠ 0 ∨ s.bit ADC.FAILED 0 (s.adcOf p) = true) ∧ (s.port p).loop.stale ≠
      2) ∧
    (∃ (d : Fin 4) (s : State), d ≠ 0) ∧
    (∃ (l : Bool) (s : State), l = true) ∧
    (∃ (i : BitVec 12) (b : BitVec 12) (c : BitVec 12) (s : State), clips i.toInt b.toNat c.toNat ≠ 0) ∧
    (∃ (x : BurstRead) (s : State), (x.missing = true ∨ x.seq ≠ (s.port x.port).loop.burst) ∧ (s.port
      x.port).loop.stale ≠ 2) ∧
    (∃ (x : BurstRead) (s : State), x.missing = false ∧ x.seq = (s.port x.port).loop.burst) ∧
    (∃ (s : State), s.on ADC.ROT_LOST 0 = false ∧ s.bit ADC.FAILED 0 8 = false ∧ s.adcCal = none ∧ (s.on ADC.ROT_EN 0
      = true ∨ s.calTurn ≠ s.calNext) ∧ s.calTurn = 8) ∧
    (∃ (d : Nat) (s : State), s.on ADC.ROT_LOST 0 = false ∧ s.bit ADC.FAILED 0 8 = false ∧ s.adcCal = none ∧ (s.on
      ADC.ROT_EN 0 = true ∨ s.calTurn ≠ s.calNext) ∧ s.calTurn ≠ 8 ∧ s.adcRepeat ≠ 4 ∧ 6 < d) ∧
    (∃ (d : Nat) (s : State), s.on ADC.ROT_LOST 0 = false ∧ s.bit ADC.FAILED 0 8 = false ∧ s.adcCal = none ∧ (s.on
      ADC.ROT_EN 0 = true ∨ s.calTurn ≠ s.calNext) ∧ s.calTurn < 8 ∧ s.adcRepeat ≠ 4 ∧ d ≤ 6) ∧
    (∃ (d : Nat) (e : Nat) (s : State), s.on ADC.ROT_LOST 0 = false ∧ s.bit ADC.FAILED 0 8 = false ∧ s.adcCal = none
      ∧ (s.on ADC.ROT_EN 0 = true ∨ s.calTurn ≠ s.calNext) ∧ s.calTurn < 8 ∧ (s.adcRepeat = 4 ∨ d ≤ 6) ∧ e ≤ 6) ∧
    (∃ (d : Nat) (e : Nat) (s : State), s.on ADC.ROT_LOST 0 = false ∧ s.bit ADC.FAILED 0 8 = false ∧ s.adcCal = none
      ∧ (s.on ADC.ROT_EN 0 = true ∨ s.calTurn ≠ s.calNext) ∧ s.calTurn < 8 ∧ (s.adcRepeat = 4 ∨ d ≤ 6) ∧ 6 < e) ∧
    (∃ (k : Nat) (d : Nat) (e : Int) (s : State), s.checkTurn = some (k, d) ∧ k < 8 ∧ 4 < e.natAbs) ∧
    (∃ (k : Nat) (d : Nat) (e : Int) (f : Int) (s : State), s.checkTurn = some (k, d) ∧ k < 8 ∧ 4 < e.natAbs ∧
      f.natAbs ≤ 4 ∧ s.keptGroup k = false) ∧
    (∃ (k : Nat) (d : Nat) (e : Int) (f : Int) (s : State), s.checkTurn = some (k, d) ∧ k < 8 ∧ 4 < e.natAbs ∧
      f.natAbs ≤ 4 ∧ s.keptGroup k = true) ∧
    (∃ (k : Nat) (d : Nat) (f : Int) (s : State), s.checkTurn = some (k, d) ∧ k < 8 ∧ 4 < f.natAbs) ∧
    (∃ (k : Nat) (d : Nat) (e : Int) (f : Int) (s : State), s.adcCal = some (k, d) ∧ k < 8 ∧ e.natAbs ≤ 4 ∧ f.natAbs
      ≤ 4 ∧ s.adcRepeat = 0) ∧
    (∃ (k : Nat) (d : Nat) (e : Int) (f : Int) (s : State), s.adcCal = some (k, d) ∧ k < 8 ∧ e.natAbs ≤ 4 ∧ f.natAbs
      ≤ 4 ∧ s.adcRepeat = (if s.rd ADC.COVERED 0 = k then 4 else 1)) := by
  refine ⟨⟨0, 0, wbase, ?_⟩,
    ⟨0, 1, wbase, ?_⟩,
    ⟨1, wbase, ?_⟩,
    ⟨true, wbase, ?_⟩,
    ⟨0, 4095, 0, wbase, ?_⟩,
    ⟨(⟨3, true, 5⟩), wbase, ?_⟩,
    ⟨(⟨3, false, 0⟩), (
      let s : State := wbase
      let s : State := (s.modPort 3 fun z => { z with loop := { z.loop with burst := 0 } })
      s), ?_⟩,
    ⟨(
      let s : State := wbase
      let s : State := s.flag ADC.ROT_LOST 0 false
      let s : State := s.wrBit ADC.FAILED 0 8 false
      let s : State := s.flag ADC.ROT_EN 0 true
      let s : State := s.flag ADC.ROT_EN 0 true
      let s : State := { s with adcCal := none }
      let s : State := { s with calNext := 8 }
      s), ?_⟩,
    ⟨7, (
      let s : State := wbase
      let s : State := s.flag ADC.ROT_LOST 0 false
      let s : State := s.wrBit ADC.FAILED 0 8 false
      let s : State := s.flag ADC.ROT_EN 0 true
      let s : State := s.flag ADC.ROT_EN 0 true
      let s : State := { s with adcCal := none, adcRepeat := 0 }
      s), ?_⟩,
    ⟨0, (
      let s : State := wbase
      let s : State := s.flag ADC.ROT_LOST 0 false
      let s : State := s.wrBit ADC.FAILED 0 8 false
      let s : State := s.flag ADC.ROT_EN 0 true
      let s : State := s.flag ADC.ROT_EN 0 true
      let s : State := { s with adcCal := none, adcRepeat := 0, calNext := 3 }
      s), ?_⟩,
    ⟨0, 0, (
      let s : State := wbase
      let s : State := s.flag ADC.ROT_LOST 0 false
      let s : State := s.wrBit ADC.FAILED 0 8 false
      let s : State := s.flag ADC.ROT_EN 0 true
      let s : State := s.flag ADC.ROT_EN 0 true
      let s : State := { s with adcCal := none, adcRepeat := 4, calNext := 3 }
      s), ?_⟩,
    ⟨0, 7, (
      let s : State := wbase
      let s : State := s.flag ADC.ROT_LOST 0 false
      let s : State := s.wrBit ADC.FAILED 0 8 false
      let s : State := s.flag ADC.ROT_EN 0 true
      let s : State := s.flag ADC.ROT_EN 0 true
      let s : State := { s with adcCal := none, adcRepeat := 4, calNext := 3 }
      s), ?_⟩,
    ⟨0, 0, 5, (
      let k : Nat := 0
      let d : Nat := 0
      let s : State := wbase
      let s : State := { s with adcCal := some (k, d) }
      s), ?_⟩,
    ⟨0, 0, 5, 0, (
      let k : Nat := 0
      let d : Nat := 0
      let s : State := wbase
      let s : State := { s with adcCal := some (k, d) }
      let s : State := s.wr ADC.COVERED 0 15
      s), ?_⟩,
    ⟨0, 0, 5, 0, (
      let k : Nat := 0
      let d : Nat := 0
      let s : State := wbase
      let s : State := { s with adcCal := some (k, d) }
      let s : State := s.wr ADC.COVERED 0 5
      let s : State := s.wrBit ADC.FAILED 0 5 true
      s), ?_⟩,
    ⟨0, 0, 5, (
      let k : Nat := 0
      let d : Nat := 0
      let s : State := wbase
      let s : State := { s with adcCal := some (k, d) }
      s), ?_⟩,
    ⟨0, 0, 0, 0, (
      let k : Nat := 0
      let d : Nat := 0
      let s : State := wbase
      let s : State := { s with adcCal := some (k, d), adcRepeat := 0 }
      s), ?_⟩,
    ⟨0, 0, 0, 0, (
      let k : Nat := 0
      let d : Nat := 0
      let s : State := wbase
      let s : State := { s with adcCal := some (k, d), adcRepeat := if s.rd ADC.COVERED 0 = k then 4 else 1 }
      s), ?_⟩⟩
  all_goals first | decide +kernel | (unfold AwaitsResponse; decide +kernel)

/-- States and operands that meet the hypotheses of PeriodsPhasesAndDrivers, clause by clause. -/
theorem test_periods_phases_and_drivers_witness :
    (∃ (p : Port) (v : Nat) (s : State), 400 ≤ v ∧ v ≤ 4000 ∧ s.running p = false) ∧
    (∃ (p : Port) (v : Nat) (s : State), 400 ≤ v ∧ v ≤ 4000 ∧ s.running p = true) ∧
    (∃ (v : Nat) (s : State), (v < 400 ∨ 4000 < v)) ∧
    (∃ (p : Port) (v : Nat) (s : State), (s.port p).pwm.phase = some v ∧ v < 256) ∧
    (∃ (p : Port) (s : State), s.running p = false) ∧
    (∃ (p : Port) (s : State), s.running p = true) ∧
    (∃ (p : Port) (s : State), s.running p = true ∧ (s.port p).pwm.wait = true) ∧
    (∃ (g : Fin 4) (s : State), s.bit PWM.DRV_EN 0 g = true ∧ s.groupRuns g = false) ∧
    (∃ (g : Fin 4) (s : State), s.groupRuns g = true) ∧
    (∃ (g : Fin 4) (p : Port) (s : State), drvGroup p = g.val) := by
  refine ⟨⟨0, 400, (
      let p : Port := 0
      let s : State := wbase
      let s : State := s.wr LOOP.HALT_CAUSE p 1
      s), ?_⟩,
    ⟨0, 400, (
      let p : Port := 0
      let s : State := wbase
      let s : State := s.wr LOOP.HALT_CAUSE p 0
      s), ?_⟩,
    ⟨0, wbase, ?_⟩,
    ⟨0, 0, (
      let p : Port := 0
      let v : Nat := 0
      let s : State := wbase
      let s : State := (s.modPort (p) fun z => { z with pwm := { z.pwm with phase := some v } })
      s), ?_⟩,
    ⟨0, (
      let p : Port := 0
      let s : State := wbase
      let s : State := s.wr LOOP.HALT_CAUSE p 1
      s), ?_⟩,
    ⟨0, (
      let p : Port := 0
      let s : State := wbase
      let s : State := s.wr LOOP.HALT_CAUSE p 0
      s), ?_⟩,
    ⟨0, (
      let p : Port := 0
      let s : State := wbase
      let s : State := s.wr LOOP.HALT_CAUSE p 0
      let s : State := (s.modPort (p) fun z => { z with pwm := { z.pwm with wait := true } })
      s), ?_⟩,
    ⟨0, (
      let g : Fin 4 := 0
      let s : State := wbase
      let s : State := s.wrBit PWM.DRV_EN 0 g true
      let s : State := allPorts.foldl (fun u q => u.wr LOOP.HALT_CAUSE q 1) s
      s), ?_⟩,
    ⟨0, (
      let s : State := wbase
      let s : State := allPorts.foldl (fun u q => u.wr LOOP.HALT_CAUSE q 0) s
      s), ?_⟩,
    ⟨0, 0, wbase, ?_⟩⟩
  all_goals first | decide +kernel | (unfold AwaitsResponse; decide +kernel)

/-- States and operands that meet the hypotheses of PlausibilityModelsJudgeThePorts, clause by clause. -/
theorem test_plausibility_models_judge_the_ports_witness :
    (∃ (p : Port) (s : State), (s.on LOOP.MODEL_EN p = false ∨ s.blanked p = true)) ∧
    (∃ (p : Port) (s : State), s.on LOOP.MODEL_EN p = true ∧ s.blanked p = false) ∧
    (∃ (p : Port) (s : State), 16 ≤ (s.port p).model.overC ∧ s.on LOOP.ALARM_C p = false ∧ ((s.port p).model.overP <
      16 ∨ s.on LOOP.ALARM_P p = true)) ∧
    (∃ (p : Port) (s : State), 16 ≤ (s.port p).model.overP ∧ s.on LOOP.ALARM_P p = false ∧ ((s.port p).model.overC <
      16 ∨ s.on LOOP.ALARM_C p = true)) ∧
    (∃ (p : Port) (s : State), 16 ≤ (s.port p).model.overC ∧ s.on LOOP.ALARM_C p = false ∧ 16 ≤ (s.port
      p).model.overP ∧ s.on LOOP.ALARM_P p = false) ∧
    (∃ (p : Port) (s : State), s.drives p = true ∧ s.tripStands p = false ∧ ((64 ≤ (s.port p).model.over2C ∧ s.rd
      LOOP.ACT_C p = 2) ∨ (64 ≤ (s.port p).model.over2P ∧ s.rd LOOP.ACT_P p = 2))) ∧
    (∃ (p : Port) (s : State), 64 ≤ (s.port p).model.over2C ∧ s.rd LOOP.ACT_C p = 1 ∧ ((s.port p).model.over2P < 64 ∨
      s.rd LOOP.ACT_P p ≠ 2)) ∧
    (∃ (p : Port) (s : State), 64 ≤ (s.port p).model.over2P ∧ s.rd LOOP.ACT_P p = 1 ∧ ((s.port p).model.over2C < 64 ∨
      s.rd LOOP.ACT_C p ≠ 2)) ∧
    (∃ (p : Port) (c : Contract) (s : State), 2 ^ s.rd LOOP.WLOG p ≤ (s.port p).model.n ∧ (s.port p).pe.contract =
      some c ∧ (s.port p).model.windowOk (q24 c.mv) = true) ∧
    (∃ (p : Port) (c : Contract) (s : State), 2 ^ s.rd LOOP.WLOG p ≤ (s.port p).model.n ∧ (s.port p).pe.contract =
      some c ∧ (s.port p).model.windowOk (q24 c.mv) = false) ∧
    (∃ (p : Port) (s : State), s.on LOOP.PROBE_EN p = true ∧ s.learning p = true ∧ s.running p = true ∧ q24 400 ≤
      -(s.port p).loop.iAvg) ∧
    (∃ (p : Port) (s : State), (s.on LOOP.PROBE_EN p = false ∨ s.learning p = false ∨ s.running p = false ∨ -(s.port
      p).loop.iAvg < q24 400)) := by
  refine ⟨⟨0, (
      let p : Port := 0
      let s : State := wbase
      let s : State := s.flag LOOP.MODEL_EN p false
      s), ?_⟩,
    ⟨0, (
      let p : Port := 0
      let s : State := wbase
      let s : State := s.flag LOOP.MODEL_EN p true
      let s : State := s.wr LOOP.HALT_CAUSE p 0
      let s : State := s.flag LOOP.RAMPING p false
      let s : State := s.flag LOOP.FROZEN p false
      let s : State := (s.modPort p fun z => { z with model := { z.model with blank := 0, nUpd := 5 } })
      s), ?_⟩,
    ⟨0, (
      let p : Port := 0
      let s : State := wbase
      let s : State := s.flag LOOP.ALARM_C p false
      let s : State := (s.modPort p fun z => { z with model := { z.model with overC := 16, overP := 0 } })
      s), ?_⟩,
    ⟨0, (
      let p : Port := 0
      let s : State := wbase
      let s : State := s.flag LOOP.ALARM_P p false
      let s : State := (s.modPort p fun z => { z with model := { z.model with overP := 16, overC := 0 } })
      s), ?_⟩,
    ⟨0, (
      let p : Port := 0
      let s : State := wbase
      let s : State := s.flag LOOP.ALARM_C p false
      let s : State := s.flag LOOP.ALARM_P p false
      let s : State := (s.modPort p fun z => { z with model := { z.model with overP := 16, overC := 16 } })
      s), ?_⟩,
    ⟨0, (
      let p : Port := 0
      let s : State := wbase
      let s : State := s.wr LOOP.ACT_C p (2)
      let s : State := (s.modPort p fun z => { z with model := { z.model with over2C := 64 } })
      s), ?_⟩,
    ⟨0, (
      let p : Port := 0
      let s : State := wbase
      let s : State := s.wr LOOP.ACT_C p (1)
      let s : State := (s.modPort p fun z => { z with model := { z.model with over2C := 64, over2P := 0 } })
      s), ?_⟩,
    ⟨0, (
      let p : Port := 0
      let s : State := wbase
      let s : State := s.wr LOOP.ACT_P p (1)
      let s : State := (s.modPort p fun z => { z with model := { z.model with over2P := 64, over2C := 0 } })
      s), ?_⟩,
    ⟨0, (⟨1, .fixed, 9000, 3000, 9000, .fixed 9000 3000⟩), (
      let p : Port := 0
      let c : Contract := ⟨1, .fixed, 9000, 3000, 9000, .fixed 9000 3000⟩
      let s : State := wbase
      let s : State := (s.modPort (p) fun z => { z with pe := { z.pe with contract := some c } })
      let s : State := s.wr LOOP.WLOG p 0
      let s : State := (s.modPort p fun z => { z with model := { z.model with n := 2, sg := 0, sgg := 4 * q24 200 * q24 200, sgh := 0, sh := 2 * q24 9000 } })
      s), ?_⟩,
    ⟨0, (⟨1, .fixed, 9000, 3000, 9000, .fixed 9000 3000⟩), (
      let p : Port := 0
      let c : Contract := ⟨1, .fixed, 9000, 3000, 9000, .fixed 9000 3000⟩
      let s : State := wbase
      let s : State := (s.modPort (p) fun z => { z with pe := { z.pe with contract := some c } })
      let s : State := s.wr LOOP.WLOG p 0
      let s : State := (s.modPort p fun z => { z with model := { z.model with n := 2, sg := 0, sgg := 0, sgh := 0, sh := 0 } })
      s), ?_⟩,
    ⟨0, (
      let p : Port := 0
      let s : State := wbase
      let s : State := s.flag LOOP.PROBE_EN p true
      let s : State := s.wr LOOP.HALT_CAUSE p 0
      let s : State := s.wr LOOP.MODE p mSink
      let s : State := s.flag LOOP.LEARN_EN p true
      let s : State := s.wr PD.CONTRACT p 2
      let s : State := (s.modPort p fun z => { z with loop := { z.loop with iAvg := -q24 2000 } })
      s), ?_⟩,
    ⟨0, (
      let p : Port := 0
      let s : State := wbase
      let s : State := s.flag LOOP.PROBE_EN p false
      s), ?_⟩⟩
  all_goals first | decide +kernel | (unfold AwaitsResponse; decide +kernel)

/-- States and operands that meet the hypotheses of MonitorsCrossAndAreChecked, clause by clause. -/
theorem test_monitors_cross_and_are_checked_witness :
    (∃ (p : Port) (c : Crossing) (v : Nat) (s : State), s.dev ≠ .watch ∧ s.crossed p c v = true ∧ (crossCause c).any
      (s.causeTrips p) = false) ∧
    (∃ (p : Port) (c : Crossing) (x : TripCause) (v : Nat) (s : State), s.dev ≠ .watch ∧ s.drives p = true ∧
      s.crossed p c v = true ∧ crossCause c = some x ∧ s.causeTrips p x = true) ∧
    (∃ (p : Port) (c : Crossing) (v : Nat) (s : State), (s.dev = .watch ∨ s.crossed p c v = false)) ∧
    (∃ (p : Port) (r : CheckRead) (s : State), s.mayAlternate p = true ∧ checkFails r (s.rd GUARD.VMON_CFG_MODE p)
      (s.thrV p).1 (s.thrV p).2 (s.rd LOOP.VBUS p / 60) = 0) ∧
    (∃ (p : Port) (r : CheckRead) (s : State), s.mayAlternate p = true ∧ checkFails r (s.rd GUARD.VMON_CFG_MODE p)
      (s.thrV p).1 (s.thrV p).2 (s.rd LOOP.VBUS p / 60) ≠ 0 ∧ s.repeating (s.checkWindow p) = false ∧ s.rechecks
      (s.checkWindow p) = false) ∧
    (∃ (p : Port) (r : CheckRead) (s : State), s.mayAlternate p = true ∧ checkFails r (s.rd GUARD.VMON_CFG_MODE p)
      (s.thrV p).1 (s.thrV p).2 (s.rd LOOP.VBUS p / 60) ≠ 0 ∧ (s.repeating (s.checkWindow p) = true ∨ s.rechecks
      (s.checkWindow p) = true)) ∧
    (∃ (p : Port) (s : State), s.mayAlternate p = false) ∧
    (∃ (r : CheckRead) (s : State), s.on FEED.CHK_EN 0 = true ∧ s.on FEED.BUS_DEGRADED 0 = false ∧ s.dev ≠ .watch ∧
      checkFails r (s.rd FEED.BUS_MON_MODE 0) (monHi (s.rd FEED.BUS_MON_REF 0) (s.rd FEED.BUS_MON_WHI 0)) (monLo
      (s.rd FEED.BUS_MON_REF 0) (s.rd FEED.BUS_MON_WLO 0)) (s.rd ADC.BUS_SNS 0 / 60) = 0) ∧
    (∃ (r : CheckRead) (s : State), s.on FEED.CHK_EN 0 = true ∧ s.on FEED.BUS_DEGRADED 0 = false ∧ s.dev ≠ .watch ∧
      checkFails r (s.rd FEED.BUS_MON_MODE 0) (monHi (s.rd FEED.BUS_MON_REF 0) (s.rd FEED.BUS_MON_WHI 0)) (monLo
      (s.rd FEED.BUS_MON_REF 0) (s.rd FEED.BUS_MON_WLO 0)) (s.rd ADC.BUS_SNS 0 / 60) ≠ 0 ∧ s.repeating s.busCheck =
      false) ∧
    (∃ (r : CheckRead) (s : State), s.on FEED.CHK_EN 0 = true ∧ s.on FEED.BUS_DEGRADED 0 = false ∧ s.dev ≠ .watch ∧
      checkFails r (s.rd FEED.BUS_MON_MODE 0) (monHi (s.rd FEED.BUS_MON_REF 0) (s.rd FEED.BUS_MON_WHI 0)) (monLo
      (s.rd FEED.BUS_MON_REF 0) (s.rd FEED.BUS_MON_WLO 0)) (s.rd ADC.BUS_SNS 0 / 60) ≠ 0 ∧ s.repeating s.busCheck =
      true) ∧
    (∃ (s : State), (s.on FEED.CHK_EN 0 = false ∨ s.on FEED.BUS_DEGRADED 0 = true ∨ s.dev = .watch)) ∧
    (∃ (m : Mon) (r : CheckRead) (s : State), s.mayCheck m = true ∧ (s.windowOf m).any (fun w => checkFails r w.1
      w.2.1 w.2.2.1 w.2.2.2 == 0) = true) ∧
    (∃ (m : Mon) (r : CheckRead) (s : State), s.mayCheck m = true ∧ (s.windowOf m).any (fun w => checkFails r w.1
      w.2.1 w.2.2.1 w.2.2.2 == 0) = false ∧ s.repeating (m) = false ∧ s.rechecks (m) = false) ∧
    (∃ (m : Mon) (r : CheckRead) (s : State), s.mayCheck m = true ∧ (s.windowOf m).any (fun w => checkFails r w.1
      w.2.1 w.2.2.1 w.2.2.2 == 0) = false ∧ (s.repeating (m) = true ∨ s.rechecks (m) = true)) ∧
    (∃ (m : Mon) (s : State), s.mayCheck m = false) ∧
    (∃ (m : Mon) (a : Bool) (b : Bool) (c : Bool) (d : Bool) (s : State), s.mayIfast m = true ∧ ifastFails a b c d =
      0) ∧
    (∃ (p : Port) (s : State), s.mayIfast (.ifast p) = true) ∧
    (∃ (m : Mon) (a : Bool) (b : Bool) (c : Bool) (d : Bool) (s : State), s.mayIfast m = true ∧ ifastFails a b c d ≠
      0 ∧ s.repeating (m) = false ∧ s.rechecks (m) = false) ∧
    (∃ (m : Mon) (a : Bool) (b : Bool) (c : Bool) (d : Bool) (s : State), s.mayIfast m = true ∧ ifastFails a b c d ≠
      0 ∧ (s.repeating (m) = true ∨ s.rechecks (m) = true)) ∧
    (∃ (m : Mon) (s : State), s.mayIfast m = false) ∧
    (∃ (p : Port) (v : Nat) (b : Bool) (s : State), s.dev ≠ .watch ∧ s.on GUARD.XCHK_EN p = true ∧ disagrees (s.rd
      GUARD.VMON_CFG_MODE p) (s.thrV p).1 (s.thrV p).2 v b = true ∧ s.on GUARD.DEGRADED p = false) ∧
    (∃ (p : Port) (v : Nat) (b : Bool) (s : State), s.dev ≠ .watch ∧ s.on GUARD.XCHK_EN p = true ∧ disagrees (s.rd
      GUARD.VMON_CFG_MODE p) (s.thrV p).1 (s.thrV p).2 v b = true ∧ s.on GUARD.DEGRADED p = true) ∧
    (∃ (p : Port) (v : Nat) (b : Bool) (s : State), s.dev ≠ .watch ∧ s.on GUARD.XCHK_EN p = true ∧ disagrees (s.rd
      GUARD.CMON_CFG_MODE p) (s.thrC p).1 (s.thrC p).2 v b = true) ∧
    (∃ (p : Port) (v : Nat) (b : Bool) (s : State), (s.on GUARD.XCHK_EN p = false ∨ s.dev = .watch ∨ disagrees (s.rd
      GUARD.VMON_CFG_MODE p) (s.thrV p).1 (s.thrV p).2 v b = false)) ∧
    (∃ (p : Port) (v : Nat) (b : Bool) (s : State), (s.on GUARD.XCHK_EN p = false ∨ s.dev = .watch ∨ disagrees (s.rd
      GUARD.CMON_CFG_MODE p) (s.thrC p).1 (s.thrC p).2 v b = false)) ∧
    (∃ (m : Mon) (s : State), s.repeating m = true) ∧
    (∃ (m : Mon) (s : State), s.repeating m = false) := by
  refine ⟨⟨0, .vHi, 60000, wbase, ?_⟩,
    ⟨0, .vHi, .vbusHi, 60000, (
      let p : Port := 0
      let s : State := wbase
      let s : State := s.wr GUARD.STATE p gOn
      s), ?_⟩,
    ⟨0, .vHi, 0, (
      let s : State := wbase
      let s : State := { s with dev := .watch }
      s), ?_⟩,
    ⟨0, (⟨false, true, false, false, true, true, false, false, true, true⟩), (
      let p : Port := 0
      let s : State := wbase
      let s : State := s.wr GUARD.VMON_CFG_MODE p 0
      let s : State := s.wr GUARD.STATE p gOn
      let s : State := s.flag GUARD.CHK_EN p true
      s), ?_⟩,
    ⟨0, (⟨false, true, true, true, false, false, true, true, false, false⟩), (
      let p : Port := 0
      let s : State := wbase
      let s : State := s.wr GUARD.VMON_CFG_MODE p 1
      let s : State := s.wr GUARD.STATE p gOn
      let s : State := s.flag GUARD.CHK_EN p true
      s), ?_⟩,
    ⟨0, (⟨false, true, true, true, false, false, true, true, false, false⟩), (
      let p : Port := 0
      let s : State := wbase
      let s : State := s.wr GUARD.VMON_CFG_MODE p 1
      let s : State := s.wr GUARD.STATE p gOn
      let s : State := s.flag GUARD.CHK_EN p true
      let s : State := s.grd 0 fun z => { z with chk := 3 }
      s), ?_⟩,
    ⟨0, (
      let s : State := wbase
      let s : State := s.flag GUARD.CHK_EN 0 false
      s), ?_⟩,
    ⟨(⟨false, true, false, false, true, true, false, false, true, true⟩), (
      let s : State := wbase
      let s : State := s.flag FEED.CHK_EN 0 true
      let s : State := s.flag FEED.BUS_DEGRADED 0 false
      let s : State := s.wr FEED.BUS_MON_MODE 0 0
      s), ?_⟩,
    ⟨(⟨false, true, true, true, false, false, true, true, false, false⟩), (
      let s : State := wbase
      let s : State := s.flag FEED.CHK_EN 0 true
      let s : State := s.flag FEED.BUS_DEGRADED 0 false
      s), ?_⟩,
    ⟨(⟨false, true, true, true, false, false, true, true, false, false⟩), (
      let s : State := wbase
      let s : State := s.flag FEED.CHK_EN 0 true
      let s : State := s.flag FEED.BUS_DEGRADED 0 false
      let s : State := { s with monRepeat := [((.busA : Mon).index, 0), ((.busB : Mon).index, 0)] }
      s), ?_⟩,
    ⟨(
      let s : State := wbase
      let s : State := s.flag FEED.CHK_EN 0 false
      s), ?_⟩,
    ⟨((.csp 0)), (⟨false, true, false, false, true, true, false, false, true, true⟩), (
      let s : State := wbase
      let s : State := s.wr GUARD.CMON_CFG_MODE 0 0
      let s : State := s.wr GUARD.STATE 0 gOn
      let s : State := s.flag GUARD.CHK_EN 0 true
      s), ?_⟩,
    ⟨.vcp, (⟨false, true, true, true, false, false, true, true, false, false⟩), wbase, ?_⟩,
    ⟨.vcp, (⟨false, true, true, true, false, false, true, true, false, false⟩), (
      let s : State := wbase
      let s : State := { s with monRepeat := [((.vcp : Mon).index, 0)] }
      s), ?_⟩,
    ⟨.busA, wbase, ?_⟩,
    ⟨((.feedCur 0)), false, true, true, false, wbase, ?_⟩,
    ⟨0, (
      let p : Port := 0
      let s : State := wbase
      let s : State := s.wr GUARD.STATE p gPrecheck
      s), ?_⟩,
    ⟨((.feedCur 0)), false, false, false, false, wbase, ?_⟩,
    ⟨((.feedCur 0)), false, false, false, false, (
      let s : State := wbase
      let s : State := { s with monRepeat := [((.feedCur 0 : Mon).index, 0)] }
      s), ?_⟩,
    ⟨.vcp, wbase, ?_⟩,
    ⟨0, 60000, false, (
      let p : Port := 0
      let s : State := wbase
      let s : State := s.flag GUARD.XCHK_EN p true
      let s : State := s.flag GUARD.DEGRADED p false
      s), ?_⟩,
    ⟨0, 60000, false, (
      let p : Port := 0
      let s : State := wbase
      let s : State := s.flag GUARD.XCHK_EN p true
      let s : State := s.flag GUARD.DEGRADED p true
      s), ?_⟩,
    ⟨0, 60000, false, (
      let p : Port := 0
      let s : State := wbase
      let s : State := s.flag GUARD.XCHK_EN p true
      s), ?_⟩,
    ⟨0, 0, false, (
      let p : Port := 0
      let s : State := wbase
      let s : State := s.flag GUARD.XCHK_EN p false
      s), ?_⟩,
    ⟨0, 0, false, (
      let p : Port := 0
      let s : State := wbase
      let s : State := s.flag GUARD.XCHK_EN p false
      s), ?_⟩,
    ⟨.vcp, (
      let s : State := wbase
      let s : State := { s with monRepeat := [((.vcp : Mon).index, 0)] }
      s), ?_⟩,
    ⟨.vcp, wbase, ?_⟩⟩
  all_goals first | decide +kernel | (unfold AwaitsResponse; decide +kernel)

/-- States and operands that meet the hypotheses of EngineFailuresAreContained, clause by clause. -/
theorem test_engine_failures_are_contained_witness :
    (∃ (k : Fin 8) (s : State), s.serves = true ∧ s.rd CORE.STATE (k.val + 1) = enRun) ∧
    (∃ (k : Fin 8) (s : State), s.serves = true ∧ s.rd CORE.STATE (k.val + 1) = enRun ∧ s.coreRuns ((buddy k).val +
      1) = true) ∧
    (∃ (k : Fin 8) (s : State), (s.serves = false ∨ s.rd CORE.STATE (k.val + 1) ≠ enRun)) ∧
    (∃ (s : State), s.dev = .run ∧ s.on SYS.READY 0 = true ∧ s.pow.intoSafe = false ∧ s.pow.storms = []) ∧
    (∃ (s : State), s.dev = .run ∧ s.on SYS.READY 0 = true ∧ s.pow.intoSafe = false ∧ 3 ≤ (s.pow.storms.filter fun t
      => decide (s.up ≤ t + 600000000000)).length) ∧
    (∃ (s : State), s.serves = false) ∧
    (∃ (s : State), s.dev = .run ∧ s.on SYS.READY 0 = true ∧ s.pow.intoSafe = false ∧ s.pow.storms = []) ∧
    (∃ (s : State), s.dev = .run ∧ s.on SYS.READY 0 = true ∧ s.pow.intoSafe = false ∧ 3 ≤ (s.pow.storms.filter fun t
      => decide (s.up ≤ t + 600000000000)).length) ∧
    (∃ (s : State), s.serves = false) ∧
    (∃ (p : Port) (s : State), s.serves = true ∧ s.carriedByTwill p = true ∧ (s.port p).pe.resyncDue = true ∧ s.on
      CC.ATTACHED p = true) ∧
    (∃ (p : Port) (s : State), s.serves = true ∧ s.carriedByTwill p = true ∧ (s.port p).pe.resyncDue = true ∧ s.on
      CC.ATTACHED p = false) ∧
    (∃ (p : Port) (s : State), (s.serves = false ∨ s.carriedByTwill p = false ∨ (s.port p).pe.resyncDue = false)) ∧
    (∃ (s : State), s.rd CORE.STATE 11 = enRun) ∧
    (∃ (s : State), s.rd CORE.STATE 11 ≠ enRun) ∧
    (∃ (p : Port) (c : ForceCause) (s : State), s.coreRuns 11 = true ∧ s.forceStands p c = true ∧ s.bit CHALK.FORCED
      0 p = false) ∧
    (∃ (p : Port) (c : ForceCause) (s : State), s.coreRuns 11 = true ∧ s.bit CHALK.FORCED 0 p = true ∧ (s.port
      p).guard.forceCause = c.code ∧ (c = .stateLost ∨ s.forceStands p c = false)) ∧
    (∃ (p : Port) (c : ForceCause) (s : State), (s.coreRuns 11 = false ∨ s.forceStands p c = false ∨ s.bit
      CHALK.FORCED 0 p = true)) ∧
    (∃ (p : Port) (c : ForceCause) (s : State), (s.coreRuns 11 = false ∨ s.bit CHALK.FORCED 0 p = false ∨ (s.port
      p).guard.forceCause ≠ c.code ∨ (c ≠ .stateLost ∧ s.forceStands p c = true))) ∧
    (∃ (e : Fin 12) (s : State), 3 ≤ s.failures e ∧ 1 ≤ e.val ∧ e.val ≤ 10 ∧ s.carried1 e = true ∧ s.rd CORE.STATE e
      ≠ enRetired ∧ s.coreRuns 11 = true) ∧
    (∃ (e : Fin 12) (s : State), (s.failures e < 3 ∨ e = 0 ∨ e = 11 ∨ s.carried1 e = false ∨ s.rd CORE.STATE e =
      enRetired ∨ s.coreRuns 11 = false)) := by
  refine ⟨⟨0, (
      let k : Fin 8 := 0
      let s : State := wbase
      let s : State := { s with dev := .run }
      let s : State := s.flag SYS.READY 0 true
      let s : State := s.wr CORE.STATE (k.val + 1) (enRun)
      let s : State := (List.range 12).foldl (fun (t : State) e => t.wr CORE.STATE e enRun) s
      let s : State := s.wr MARL.ENG0_STATE 0 1
      let s : State := s.wr MARL.ENG1_STATE 0 1
      s), ?_⟩,
    ⟨0, (
      let k : Fin 8 := 0
      let s : State := wbase
      let s : State := { s with dev := .run }
      let s : State := s.flag SYS.READY 0 true
      let s : State := s.wr CORE.STATE (k.val + 1) (enRun)
      let s : State := (List.range 12).foldl (fun (t : State) e => t.wr CORE.STATE e enRun) s
      let s : State := s.wr MARL.ENG0_STATE 0 1
      let s : State := s.wr MARL.ENG1_STATE 0 1
      s), ?_⟩,
    ⟨0, (
      let s : State := wbase
      let s : State := s.wr CORE.STATE 1 enFailed
      let s : State := s.flag SYS.READY 0 false
      s), ?_⟩,
    ⟨(
      let s : State := wbase
      let s : State := { s with dev := .run }
      let s : State := s.flag SYS.READY 0 true
      let s : State := { s with pow := { s.pow with intoSafe := false } }
      let s : State := { s with pow := { s.pow with storms := [] } }
      let s : State := { s with dev := .run }
      let s : State := s.flag SYS.READY 0 true
      s), ?_⟩,
    ⟨(
      let s : State := wbase
      let s : State := { s with dev := .run }
      let s : State := s.flag SYS.READY 0 true
      let s : State := { s with pow := { s.pow with intoSafe := false } }
      let s : State := { s with dev := .run }
      let s : State := s.flag SYS.READY 0 true
      let s : State := { s with pow := { s.pow with storms := [0, 0, 0] } }
      s), ?_⟩,
    ⟨(
      let s : State := wbase
      let s : State := s.flag SYS.READY 0 false
      s), ?_⟩,
    ⟨(
      let s : State := wbase
      let s : State := { s with dev := .run }
      let s : State := s.flag SYS.READY 0 true
      let s : State := { s with pow := { s.pow with intoSafe := false } }
      let s : State := { s with pow := { s.pow with storms := [] } }
      let s : State := { s with dev := .run }
      let s : State := s.flag SYS.READY 0 true
      s), ?_⟩,
    ⟨(
      let s : State := wbase
      let s : State := { s with dev := .run }
      let s : State := s.flag SYS.READY 0 true
      let s : State := { s with pow := { s.pow with intoSafe := false } }
      let s : State := { s with dev := .run }
      let s : State := s.flag SYS.READY 0 true
      let s : State := { s with pow := { s.pow with storms := [0, 0, 0] } }
      s), ?_⟩,
    ⟨(
      let s : State := wbase
      let s : State := s.flag SYS.READY 0 false
      s), ?_⟩,
    ⟨0, (
      let p : Port := 0
      let s : State := wbase
      let s : State := { s with dev := .run }
      let s : State := s.flag SYS.READY 0 true
      let s : State := (s.modPort (p) fun z => { z with pe := { z.pe with resyncDue := true } })
      let s : State := s.flag CC.ATTACHED p true
      s), ?_⟩,
    ⟨0, (
      let p : Port := 0
      let s : State := wbase
      let s : State := { s with dev := .run }
      let s : State := s.flag SYS.READY 0 true
      let s : State := (s.modPort (p) fun z => { z with pe := { z.pe with resyncDue := true } })
      let s : State := s.flag CC.ATTACHED p false
      s), ?_⟩,
    ⟨0, wbase, ?_⟩,
    ⟨(
      let s : State := wbase
      let s : State := s.wr CORE.STATE 11 (enRun)
      let s : State := (List.range 12).foldl (fun (t : State) e => t.wr CORE.STATE e enRun) s
      let s : State := s.wr MARL.ENG0_STATE 0 1
      let s : State := s.wr MARL.ENG1_STATE 0 1
      s), ?_⟩,
    ⟨(
      let s : State := wbase
      let s : State := s.wr CORE.STATE 11 enFailed
      s), ?_⟩,
    ⟨0, .stateLost, (
      let p : Port := 0
      let s : State := wbase
      let s : State := s.wr CORE.STATE 11 enRun
      let s : State := s.wrBit CHALK.FORCED 0 p false
      let s : State := (List.range 12).foldl (fun (t : State) e => t.wr CORE.STATE e enRun) s
      let s : State := s.wr MARL.ENG0_STATE 0 1
      let s : State := s.wr MARL.ENG1_STATE 0 1
      s), ?_⟩,
    ⟨0, .stateLost, (
      let p : Port := 0
      let c : ForceCause := .stateLost
      let s : State := wbase
      let s : State := s.wr CORE.STATE 11 enRun
      let s : State := s.wrBit CHALK.FORCED 0 p true
      let s : State := (s.modPort (p) fun z => { z with guard := { z.guard with forceCause := c.code } })
      let s : State := (List.range 12).foldl (fun (t : State) e => t.wr CORE.STATE e enRun) s
      let s : State := s.wr MARL.ENG0_STATE 0 1
      let s : State := s.wr MARL.ENG1_STATE 0 1
      let s : State := s.wrBit CHALK.FORCED 0 0 true
      let s : State := s.grd 0 fun g => { g with forceCause := 3 }
      s), ?_⟩,
    ⟨0, .tableFault, (
      let s : State := wbase
      let s : State := s.wr CORE.STATE 11 enFailed
      s), ?_⟩,
    ⟨0, .tableFault, wbase, ?_⟩,
    ⟨9, (
      let e : Fin 12 := 9
      let s : State := wbase
      let s : State := s.wr CORE.STATE 11 enRun
      let s : State := (List.range 12).foldl (fun (t : State) e => t.wr CORE.STATE e enRun) s
      let s : State := s.wr MARL.ENG0_STATE 0 1
      let s : State := s.wr MARL.ENG1_STATE 0 1
      let s : State := { s with svc := { s.svc with fails := List.replicate 3 (e.val, s.up) } }
      s), ?_⟩,
    ⟨0, wbase, ?_⟩⟩
  all_goals first | decide +kernel | (unfold AwaitsResponse; decide +kernel)

/-- States and operands that meet the hypotheses of ChecksAndRepairs, clause by clause. -/
theorem test_checks_and_repairs_witness :
    (∃ (s : State), (s.dev = .run ∨ s.dev = .safe ∨ s.dev = .warmReset)) ∧
    (∃ (s : State), s.dev ≠ .run ∧ s.dev ≠ .safe ∧ s.dev ≠ .warmReset) ∧
    (∃ (s : State), s.testRuns 3 = true) ∧
    (∃ (s : State), s.testRuns 3 = false) ∧
    (∃ (s : State), s.testRuns 1 = true) ∧
    (∃ (s : State), s.testRuns 1 = false) ∧
    (∃ (s : State), s.testRuns 2 = true) ∧
    (∃ (ok : BitVec 9) (s : State), s.testRuns 2 = true ∧ ok ≠ 0x1FF) ∧
    (∃ (s : State), s.testRuns 2 = false) ∧
    (∃ (s : State), s.dev = .run) ∧
    (∃ (s : State), s.dev = .run) ∧
    (∃ (s : State), s.dev = .run) ∧
    (∃ (s : State), s.dev = .run ∧ componentOk (s.imageAt s.reloadSlot) (componentOf 11) = true) ∧
    (∃ (s : State), s.dev = .run ∧ componentOk (s.imageAt s.reloadSlot) (componentOf 11) = false ∧ s.rd CORE.STATE 11
      ≠ enRetired) ∧
    (∃ (s : State), s.dev = .run) ∧
    (∃ (e : Fin 2) (s : State), s.dev = .run ∧ s.rd (engState e) 0 ≠ 2) ∧
    (∃ (e : Fin 2) (s : State), s.dev = .run ∧ s.rd (engState e) 0 = 2) ∧
    (∃ (s : State), s.dev = .run) ∧
    (∃ (q : Fin 40) (i : Nat) (s : State), s.dev = .run ∧ 5 ≠ q.val ∧ i < (s.ring q).entries.length) ∧
    (∃ (s : State), s.dev = .run) ∧
    (∃ (s : State), (s.dev = .boot ∨ s.dev = .watch)) ∧
    (∃ (b : Fin 3072) (n : Nat) (s : State), s.serves = true ∧ s.svc.hard.contains b.val = true ∧ s.freeReserve =
      some n) ∧
    (∃ (b : Fin 3072) (s : State), s.serves = true ∧ s.svc.hard.contains b.val = true ∧ s.freeReserve = none) ∧
    (∃ (b : Fin 3072) (s : State), (s.serves = false ∨ s.svc.hard.contains b.val = false)) ∧
    (∃ (p : Port) (x : PTest) (s : State), (s.port p).test = some x ∧ x.kind = 0 ∧ s.on GUARD.DEGRADED p = true) ∧
    (∃ (p : Port) (r : CheckRead) (x : PTest) (s : State), (s.port p).test = some x ∧ x.kind = 0 ∧ s.on
      GUARD.DEGRADED p = false ∧ checkFails r (s.rd GUARD.VMON_CFG_MODE p) (s.thrV p).1 (s.thrV p).2 (s.rd LOOP.VBUS
      p / 60) = 0) ∧
    (∃ (p : Port) (r : CheckRead) (x : PTest) (s : State), (s.port p).test = some x ∧ x.kind = 0 ∧ s.on
      GUARD.DEGRADED p = false ∧ checkFails r (s.rd GUARD.VMON_CFG_MODE p) (s.thrV p).1 (s.thrV p).2 (s.rd LOOP.VBUS
      p / 60) ≠ 0 ∧ s.repeating (s.checkWindow p) = true) ∧
    (∃ (p : Port) (r : CheckRead) (x : PTest) (s : State), (s.port p).test = some x ∧ x.kind = 1 ∧ checkFails r (s.rd
      GUARD.CMON_CFG_MODE p) (s.thrC p).1 (s.thrC p).2 (s.rd LOOP.VCONV p / 60) = 0) ∧
    (∃ (p : Port) (r : CheckRead) (x : PTest) (s : State), (s.port p).test = some x ∧ x.kind = 1 ∧ checkFails r (s.rd
      GUARD.CMON_CFG_MODE p) (s.thrC p).1 (s.thrC p).2 (s.rd LOOP.VCONV p / 60) ≠ 0 ∧ s.repeating (.csp p) = true) ∧
    (∃ (p : Port) (x : PTest) (s : State), (s.port p).test = some x ∧ x.kind = 2) ∧
    (∃ (p : Port) (x : PTest) (s : State), (s.port p).test = some x ∧ 2 < x.kind ∧ (s.bit ADC.FAILED 0 8 = true ∨
      s.on ADC.ROT_LOST 0 = true)) ∧
    (∃ (p : Port) (x : PTest) (s : State), (s.port p).test = some x ∧ 2 < x.kind ∧ s.bit ADC.FAILED 0 8 = false ∧
      s.on ADC.ROT_LOST 0 = false) ∧
    (∃ (p : Port) (s : State), (s.port p).test = none) ∧
    (∃ (e : OtpEnv) (s : State), s.serves = true ∧ s.svc.due ≠ 0 ∧ s.otpMayProgram e = true ∧ s.otpCounter 2 < 256) ∧
    (∃ (e : OtpEnv) (s : State), s.serves = true ∧ s.svc.due ≠ 0 ∧ s.otpMayProgram e = true ∧ 256 ≤ s.otpCounter 2) ∧
    (∃ (e : OtpEnv) (s : State), (s.serves = false ∨ s.svc.due = 0 ∨ s.otpMayProgram e = false)) := by
  refine ⟨⟨(
      let s : State := wbase
      let s : State := { s with dev := .run }
      let s : State := { s with dev := .run }
      s), ?_⟩,
    ⟨wbase, ?_⟩,
    ⟨(
      let s : State := wbase
      let s : State := s.wr TEST.STATE 0 1
      let s : State := s.wr TEST.LAST_KIND 0 3
      let s : State := s.wr TEST.STATE 0 1
      let s : State := s.wr TEST.LAST_KIND 0 3
      s), ?_⟩,
    ⟨wbase, ?_⟩,
    ⟨(
      let s : State := wbase
      let s : State := s.wr TEST.STATE 0 1
      let s : State := s.wr TEST.LAST_KIND 0 1
      let s : State := s.wr TEST.STATE 0 1
      let s : State := s.wr TEST.LAST_KIND 0 1
      s), ?_⟩,
    ⟨wbase, ?_⟩,
    ⟨(
      let s : State := wbase
      let s : State := s.wr TEST.STATE 0 1
      let s : State := s.wr TEST.LAST_KIND 0 2
      let s : State := s.wr TEST.STATE 0 1
      let s : State := s.wr TEST.LAST_KIND 0 2
      s), ?_⟩,
    ⟨0x0FF, (
      let s : State := wbase
      let s : State := s.wr TEST.STATE 0 1
      let s : State := s.wr TEST.LAST_KIND 0 2
      let s : State := s.wr TEST.STATE 0 1
      let s : State := s.wr TEST.LAST_KIND 0 2
      s), ?_⟩,
    ⟨wbase, ?_⟩,
    ⟨(
      let s : State := wbase
      let s : State := { s with dev := .run }
      let s : State := { s with dev := .run }
      s), ?_⟩,
    ⟨(
      let s : State := wbase
      let s : State := { s with dev := .run }
      let s : State := { s with dev := .run }
      s), ?_⟩,
    ⟨(
      let s : State := wbase
      let s : State := { s with dev := .run }
      let s : State := { s with dev := .run }
      s), ?_⟩,
    ⟨(
      let s : State := wbase
      let s : State := { s with dev := .run }
      let s : State := { s with dev := .run }
      let s : State := { s with boot := { s.boot with run := 0 } }
      let s : State := { s with flash := { s.flash with slots := s.flash.slots.set 0 (List.replicate (72 + 32 * componentOf 11) 0 ++ (sha256 []).take 24) } }
      s), ?_⟩,
    ⟨(
      let s : State := wbase
      let s : State := { s with dev := .run }
      let s : State := { s with dev := .run }
      let s : State := { s with boot := { s.boot with run := 7 } }
      s), ?_⟩,
    ⟨(
      let s : State := wbase
      let s : State := { s with dev := .run }
      let s : State := { s with dev := .run }
      s), ?_⟩,
    ⟨0, (
      let s : State := wbase
      let s : State := { s with dev := .run }
      let s : State := { s with dev := .run }
      let s : State := s.wr MARL.ENG0_STATE 0 1
      s), ?_⟩,
    ⟨0, (
      let e : Fin 2 := 0
      let s : State := wbase
      let s : State := { s with dev := .run }
      let s : State := s.wr (engState e) 0 (2)
      let s : State := { s with dev := .run }
      let s : State := s.wr MARL.ENG0_STATE 0 2
      s), ?_⟩,
    ⟨(
      let s : State := wbase
      let s : State := { s with dev := .run }
      let s : State := { s with dev := .run }
      s), ?_⟩,
    ⟨1, 0, (
      let s : State := wbase
      let s : State := { s with dev := .run }
      let s : State := { s with dev := .run }
      let s : State := s.setRing 1 { s.ring 1 with entries := [.pkt ⟨1, 0, 0, 0xFFFF, 0, [], none⟩ 0] }
      s), ?_⟩,
    ⟨(
      let s : State := wbase
      let s : State := { s with dev := .run }
      let s : State := { s with dev := .run }
      s), ?_⟩,
    ⟨(
      let s : State := wbase
      let s : State := { s with dev := .boot }
      let s : State := { s with dev := .watch }
      s), ?_⟩,
    ⟨0, 0, (
      let b : Fin 3072 := 0
      let s : State := wbase
      let s : State := { s with dev := .run }
      let s : State := s.flag SYS.READY 0 true
      let s : State := { s with svc := { s.svc with hard := [b.val] } }
      s), ?_⟩,
    ⟨0, (
      let b : Fin 3072 := 0
      let s : State := wbase
      let s : State := { s with dev := .run }
      let s : State := s.flag SYS.READY 0 true
      let s : State := { s with svc := { s.svc with hard := [b.val], unusable := List.range 128 } }
      s), ?_⟩,
    ⟨0, wbase, ?_⟩,
    ⟨0, (⟨⟨1, 0, 0, 0xFFFF, 0, [], none⟩, 0, 0⟩), (
      let p : Port := 0
      let x : PTest := ⟨⟨1, 0, 0, 0xFFFF, 0, [], none⟩, 0, 0⟩
      let s : State := wbase
      let s : State := (s.modPort (p) fun z => { z with test := some x })
      let s : State := s.flag GUARD.DEGRADED p true
      let s : State := s.modPort 0 fun y => { y with test := some x }
      let s : State := s.grd 0 fun g => { g with chk := 15 }
      let s : State := s.flag GUARD.DEGRADED 0 true
      s), ?_⟩,
    ⟨0, (⟨false, false, false, false, true, true, false, false, true, true⟩), (⟨⟨1, 0, 0, 0xFFFF, 0, [], none⟩, 0, 0⟩), (
      let p : Port := 0
      let x : PTest := ⟨⟨1, 0, 0, 0xFFFF, 0, [], none⟩, 0, 0⟩
      let s : State := wbase
      let s : State := (s.modPort (p) fun z => { z with test := some x })
      let s : State := s.flag GUARD.DEGRADED p false
      let s : State := s.modPort 0 fun y => { y with test := some x }
      let s : State := s.grd 0 fun g => { g with chk := 15 }
      s), ?_⟩,
    ⟨0, (⟨false, false, false, false, false, false, false, false, false, false⟩), (⟨⟨1, 0, 0, 0xFFFF, 0, [], none⟩, 0, 0⟩), (
      let p : Port := 0
      let x : PTest := ⟨⟨1, 0, 0, 0xFFFF, 0, [], none⟩, 0, 0⟩
      let s : State := wbase
      let s : State := (s.modPort (p) fun z => { z with test := some x })
      let s : State := s.flag GUARD.DEGRADED p false
      let s : State := s.modPort 0 fun y => { y with test := some x }
      let s : State := s.grd 0 fun g => { g with chk := 15 }
      s), ?_⟩,
    ⟨0, (⟨false, false, false, false, true, true, false, false, true, true⟩), (⟨⟨1, 0, 0, 0xFFFF, 0, [], none⟩, 1, 0⟩), (
      let p : Port := 0
      let x : PTest := ⟨⟨1, 0, 0, 0xFFFF, 0, [], none⟩, 1, 0⟩
      let s : State := wbase
      let s : State := (s.modPort (p) fun z => { z with test := some x })
      let s : State := s.modPort 0 fun y => { y with test := some x }
      let s : State := s.grd 0 fun g => { g with chk := 15 }
      let s : State := s.wr GUARD.CMON_CFG_MODE 0 0
      s), ?_⟩,
    ⟨0, (⟨false, false, false, false, false, false, false, false, false, false⟩), (⟨⟨1, 0, 0, 0xFFFF, 0, [], none⟩, 1, 0⟩), (
      let p : Port := 0
      let x : PTest := ⟨⟨1, 0, 0, 0xFFFF, 0, [], none⟩, 1, 0⟩
      let s : State := wbase
      let s : State := (s.modPort (p) fun z => { z with test := some x })
      let s : State := s.modPort 0 fun y => { y with test := some x }
      let s : State := s.grd 0 fun g => { g with chk := 15 }
      s), ?_⟩,
    ⟨0, (⟨⟨1, 0, 0, 0xFFFF, 0, [], none⟩, 2, 0⟩), (
      let p : Port := 0
      let x : PTest := ⟨⟨1, 0, 0, 0xFFFF, 0, [], none⟩, 2, 0⟩
      let s : State := wbase
      let s : State := (s.modPort (p) fun z => { z with test := some x })
      let s : State := s.modPort 0 fun y => { y with test := some x }
      let s : State := s.grd 0 fun g => { g with chk := 15 }
      s), ?_⟩,
    ⟨0, (⟨⟨1, 0, 0, 0xFFFF, 0, [], none⟩, 3, 0⟩), (
      let p : Port := 0
      let x : PTest := ⟨⟨1, 0, 0, 0xFFFF, 0, [], none⟩, 3, 0⟩
      let s : State := wbase
      let s : State := (s.modPort (p) fun z => { z with test := some x })
      let s : State := s.wrBit ADC.FAILED 0 8 true
      let s : State := s.modPort 0 fun y => { y with test := some x }
      let s : State := s.grd 0 fun g => { g with chk := 15 }
      let s : State := s.flag ADC.ROT_LOST 0 true
      s), ?_⟩,
    ⟨0, (⟨⟨1, 0, 0, 0xFFFF, 0, [], none⟩, 3, 0⟩), (
      let p : Port := 0
      let x : PTest := ⟨⟨1, 0, 0, 0xFFFF, 0, [], none⟩, 3, 0⟩
      let s : State := wbase
      let s : State := (s.modPort (p) fun z => { z with test := some x })
      let s : State := s.wrBit ADC.FAILED 0 8 false
      let s : State := s.flag ADC.ROT_LOST 0 false
      let s : State := s.modPort 0 fun y => { y with test := some x }
      let s : State := s.grd 0 fun g => { g with chk := 15 }
      s), ?_⟩,
    ⟨0, (
      let p : Port := 0
      let s : State := wbase
      let s : State := (s.modPort (p) fun z => { z with test := none })
      s), ?_⟩,
    ⟨(⟨true, false⟩), (
      let s : State := wbase
      let s : State := { s with dev := .run }
      let s : State := s.flag SYS.READY 0 true
      let s : State := { s with svc := { s.svc with due := 2 } }
      s), ?_⟩,
    ⟨(⟨true, false⟩), (
      let s : State := wbase
      let s : State := { s with dev := .run }
      let s : State := s.flag SYS.READY 0 true
      let s : State := { s with svc := { s.svc with due := 2 } }
      let s : State := { s with otp := { s.otp with cnt := [[2, 2, 2]] } }
      s), ?_⟩,
    ⟨(⟨true, false⟩), wbase, ?_⟩⟩
  all_goals first | decide +kernel | (unfold AwaitsResponse; decide +kernel)

/-- States and operands that meet the hypotheses of SmbusReadsAndWrites, clause by clause. -/
theorem test_smbus_reads_and_writes_witness :
    (∃ (s : State), s.dev ≠ .watch) ∧
    (∃ (s : State), s.dev ≠ .watch) ∧
    (∃ (s : State), s.dev ≠ .watch) ∧
    (∃ (s : State), s.dev = .watch) ∧
    (∃ (s : State), s.dev = .watch) ∧
    (∃ (s : State), s.dev = .watch) ∧
    (∃ (s : State), s.dev ≠ .watch ∧ s.on SYS.READY 0 = true ∧ s.on SMB.PEC_REQ 0 = false) ∧
    (∃ (s : State), s.dev ≠ .watch ∧ s.on SYS.READY 0 = true) ∧
    (∃ (s : State), s.dev ≠ .watch ∧ s.on SYS.READY 0 = true) ∧
    (∃ (s : State), s.dev ≠ .watch ∧ s.on SYS.READY 0 = true ∧ s.on SMB.PEC_REQ 0 = true) ∧
    (∃ (i : Fin 22) (s : State), s.dev ≠ .watch ∧ s.on SYS.READY 0 = true ∧ s.rd SMB.RD_WORDS 0 = 1 ∧ s.rd SMB.PTR 0
      = i.val * 0x400 + 0x10) ∧
    (∃ (s : State), s.dev ≠ .watch ∧ s.on SYS.READY 0 = false) ∧
    (∃ (s : State), s.dev = .watch) ∧
    (∃ (n : Byte) (l : List Byte) (x : Pec) (s : State), s.dev ≠ .watch ∧ s.on SYS.READY 0 = true ∧ 4 ≤ n.toNat ∧
      n.toNat ≤ 32 ∧ n.toNat % 4 = 0 ∧ l.length = n.toNat ∧ s.pecOk x = true) ∧
    (∃ (n : Byte) (l : List Byte) (x : Pec) (s : State), s.dev ≠ .watch ∧ s.on SYS.READY 0 = true ∧ 4 ≤ n.toNat ∧
      n.toNat ≤ 32 ∧ n.toNat % 4 = 0 ∧ l.length = n.toNat ∧ s.pecOk x = true ∧ 0x2004 < s.rd SMB.PTR 0) ∧
    (∃ (i : Fin 22) (l : List Byte) (s : State), s.dev ≠ .watch ∧ s.on SYS.READY 0 = true ∧ s.rd SMB.PTR 0 = i.val *
      0x400 + 0x10 ∧ l.length = 4) ∧
    (∃ (n : Byte) (l : List Byte) (x : Pec) (s : State), s.dev ≠ .watch ∧ s.on SYS.READY 0 = true ∧ 4 ≤ n.toNat ∧
      n.toNat ≤ 32 ∧ n.toNat % 4 = 0 ∧ l.length = n.toNat ∧ s.pecOk x = false) ∧
    (∃ (n : Byte) (l : List Byte) (s : State), s.dev ≠ .watch ∧ s.on SYS.READY 0 = true ∧ 4 ≤ n.toNat ∧ n.toNat ≤ 32
      ∧ n.toNat % 4 = 0 ∧ l.length ≠ n.toNat) ∧
    (∃ (n : Byte) (s : State), s.dev ≠ .watch ∧ s.on SYS.READY 0 = true ∧ (n.toNat < 4 ∨ 32 < n.toNat ∨ n.toNat % 4 ≠
      0)) ∧
    (∃ (s : State), s.dev ≠ .watch ∧ s.on SYS.READY 0 = false) ∧
    (∃ (s : State), s.dev = .watch) ∧
    (∃ (b : Byte) (x : Pec) (o : Nat) (l : List Port) (s : State), s.dev ≠ .watch ∧ stopByte b.toNat = some o ∧
      coveredPorts b.toNat = some l ∧ s.pecOk x = true) ∧
    (∃ (b : Byte) (x : Pec) (o : Nat) (l : List Port) (s : State), s.dev ≠ .watch ∧ stopByte b.toNat = some o ∧
      coveredPorts b.toNat = some l ∧ s.pecOk x = false) ∧
    (∃ (b : Byte) (x : Pec) (s : State), s.dev ≠ .watch ∧ stopByte b.toNat = none ∧ s.pecOk x = true) ∧
    (∃ (b : Byte) (x : Pec) (s : State), s.dev ≠ .watch ∧ stopByte b.toNat = none ∧ s.pecOk x = false) ∧
    (∃ (s : State), s.dev = .watch) ∧
    (∃ (c : Byte) (s : State), s.dev ≠ .watch ∧ c.toNat ∉ smbCommands) ∧
    (∃ (c : Byte) (s : State), (s.dev = .watch ∨ c.toNat ∈ smbCommands)) ∧
    (∃ (X : List Byte) (s : State), s.dev ≠ .watch ∧ s.on SYS.READY 0 = true ∧ X = smbBlock (State.smbWords (s.rd
      SMB.RD_WORDS 0) (s.rd SMB.PTR 0) [] (s.bump SMB.TXN_CNT 0)).2) ∧
    (∃ (b : Byte) (X : List Byte) (e : Byte) (s : State), s.dev ≠ .watch ∧ s.on SYS.READY 0 = true ∧ ((s.bump
      SMB.TXN_CNT 0).pullFrag (b.toNat % 64) (b.toNat / 64)).smb.tx = X ++ [e]) ∧
    (∃ (s : State), s.dev ≠ .watch ∧ s.on SYS.READY 0 = false) ∧
    (∃ (b : Byte) (s : State), s.dev ≠ .watch ∧ s.on SYS.READY 0 = false ∧ s.romServes (b.toNat % 64) 4 = false) ∧
    (∃ (s : State), s.dev = .watch) := by
  refine ⟨⟨(
      let s : State := wbase
      let s : State := { s with dev := .run }
      s), ?_⟩,
    ⟨(
      let s : State := wbase
      let s : State := { s with dev := .run }
      s), ?_⟩,
    ⟨(
      let s : State := wbase
      let s : State := { s with dev := .run }
      s), ?_⟩,
    ⟨(
      let s : State := wbase
      let s : State := { s with dev := .watch }
      let s : State := { s with dev := .watch }
      s), ?_⟩,
    ⟨(
      let s : State := wbase
      let s : State := { s with dev := .watch }
      let s : State := { s with dev := .watch }
      s), ?_⟩,
    ⟨(
      let s : State := wbase
      let s : State := { s with dev := .watch }
      let s : State := { s with dev := .watch }
      s), ?_⟩,
    ⟨(
      let s : State := wbase
      let s : State := s.flag SYS.READY 0 true
      let s : State := s.flag SMB.PEC_REQ 0 false
      let s : State := { s with dev := .run }
      let s : State := s.flag SYS.READY 0 true
      s), ?_⟩,
    ⟨(
      let s : State := wbase
      let s : State := s.flag SYS.READY 0 true
      let s : State := { s with dev := .run }
      let s : State := s.flag SYS.READY 0 true
      s), ?_⟩,
    ⟨(
      let s : State := wbase
      let s : State := s.flag SYS.READY 0 true
      let s : State := { s with dev := .run }
      let s : State := s.flag SYS.READY 0 true
      s), ?_⟩,
    ⟨(
      let s : State := wbase
      let s : State := s.flag SYS.READY 0 true
      let s : State := s.flag SMB.PEC_REQ 0 true
      let s : State := { s with dev := .run }
      let s : State := s.flag SYS.READY 0 true
      let s : State := s.flag SMB.PEC_REQ 0 true
      s), ?_⟩,
    ⟨0, (
      let i : Fin 22 := 0
      let s : State := wbase
      let s : State := s.flag SYS.READY 0 true
      let s : State := s.wr SMB.RD_WORDS 0 (1)
      let s : State := s.wr SMB.PTR 0 (i.val * 0x400 + 0x10)
      let s : State := { s with dev := .run }
      let s : State := s.flag SYS.READY 0 true
      let s : State := s.wr SMB.PTR 0 0x10
      s), ?_⟩,
    ⟨(
      let s : State := wbase
      let s : State := s.flag SYS.READY 0 false
      let s : State := s.flag SYS.READY 0 false
      let s : State := { s with dev := .run }
      s), ?_⟩,
    ⟨(
      let s : State := wbase
      let s : State := { s with dev := .watch }
      let s : State := { s with dev := .watch }
      s), ?_⟩,
    ⟨4, ([1, 0, 0, 0]), .good, (
      let s : State := wbase
      let s : State := s.flag SYS.READY 0 true
      let s : State := { s with dev := .run }
      let s : State := s.flag SYS.READY 0 true
      s), ?_⟩,
    ⟨4, ([1, 0, 0, 0]), .good, (
      let s : State := wbase
      let s : State := s.flag SYS.READY 0 true
      let s : State := { s with dev := .run }
      let s : State := s.flag SYS.READY 0 true
      let s : State := s.wr SMB.PTR 0 0x2010
      s), ?_⟩,
    ⟨0, ([1, 0, 0, 0]), (
      let i : Fin 22 := 0
      let s : State := wbase
      let s : State := s.flag SYS.READY 0 true
      let s : State := s.wr SMB.PTR 0 (i.val * 0x400 + 0x10)
      let s : State := { s with dev := .run }
      let s : State := s.flag SYS.READY 0 true
      let s : State := s.wr SMB.PTR 0 0x10
      s), ?_⟩,
    ⟨4, ([1, 0, 0, 0]), .bad, (
      let s : State := wbase
      let s : State := s.flag SYS.READY 0 true
      let s : State := { s with dev := .run }
      let s : State := s.flag SYS.READY 0 true
      s), ?_⟩,
    ⟨4, ([]), (
      let s : State := wbase
      let s : State := s.flag SYS.READY 0 true
      let s : State := { s with dev := .run }
      let s : State := s.flag SYS.READY 0 true
      s), ?_⟩,
    ⟨5, (
      let s : State := wbase
      let s : State := s.flag SYS.READY 0 true
      let s : State := { s with dev := .run }
      let s : State := s.flag SYS.READY 0 true
      s), ?_⟩,
    ⟨(
      let s : State := wbase
      let s : State := s.flag SYS.READY 0 false
      let s : State := s.flag SYS.READY 0 false
      let s : State := { s with dev := .run }
      s), ?_⟩,
    ⟨(
      let s : State := wbase
      let s : State := { s with dev := .watch }
      let s : State := { s with dev := .watch }
      s), ?_⟩,
    ⟨0xFF, .good, opStopAll, allPorts, (
      let s : State := wbase
      let s : State := { s with dev := .run }
      s), ?_⟩,
    ⟨0xFF, .bad, opStopAll, allPorts, (
      let s : State := wbase
      let s : State := { s with dev := .run }
      s), ?_⟩,
    ⟨0x55, .good, (
      let s : State := wbase
      let s : State := { s with dev := .run }
      s), ?_⟩,
    ⟨0x55, .bad, (
      let s : State := wbase
      let s : State := { s with dev := .run }
      s), ?_⟩,
    ⟨(
      let s : State := wbase
      let s : State := { s with dev := .watch }
      let s : State := { s with dev := .watch }
      s), ?_⟩,
    ⟨0x55, (
      let s : State := wbase
      let s : State := { s with dev := .run }
      s), ?_⟩,
    ⟨0, (
      let s : State := wbase
      let s : State := { s with dev := .watch }
      let s : State := { s with dev := .watch }
      s), ?_⟩,
    ⟨([4, 1, 0, 0, 0]), (
      let s : State := wbase
      let s : State := s.flag SYS.READY 0 true
      let s : State := { s with dev := .run }
      let s : State := s.flag SYS.READY 0 true
      let s : State := s.wr SMB.PTR 0 0x10
      let s : State := s.wr (IRQ_EN 0) 0 1
      let s : State := s.wr SMB.RD_WORDS 0 1
      s), ?_⟩,
    ⟨5, ([2, 5, 0]), (pecOf [0x58, 0x21, 1, 5, 0x59, 2, 5, 0]), (
      let s : State := wbase
      let s : State := s.flag SYS.READY 0 true
      let s : State := { s with dev := .run }
      let s : State := s.flag SYS.READY 0 true
      s), ?_⟩,
    ⟨(
      let s : State := wbase
      let s : State := s.flag SYS.READY 0 false
      let s : State := s.flag SYS.READY 0 false
      let s : State := { s with dev := .run }
      s), ?_⟩,
    ⟨0, (
      let s : State := wbase
      let s : State := s.flag SYS.READY 0 false
      let s : State := s.flag SYS.READY 0 false
      let s : State := { s with dev := .run }
      s), ?_⟩,
    ⟨(
      let s : State := wbase
      let s : State := { s with dev := .watch }
      let s : State := { s with dev := .watch }
      s), ?_⟩⟩
  all_goals first | decide +kernel | (unfold AwaitsResponse; decide +kernel)

/-- States and operands that meet the hypotheses of SmbusFragmentsAndNotify, clause by clause. -/
theorem test_smbus_fragments_and_notify_witness :
    (∃ (n : Byte) (l : List Byte) (x : Pec) (s : State), s.dev ≠ .watch ∧ s.on SYS.READY 0 = true ∧ l.length =
      n.toNat ∧ 3 ≤ n.toNat ∧ n.toNat ≤ s.rd SMB.FRAG_MAX 0 + 2 ∧ s.pecOk x = true ∧ (bytesAt l 0 1).testBit 7 = true
      ∧ (bytesAt l 0 1).testBit 6 = false ∧ bytesAt l 1 1 = 0) ∧
    (∃ (n : Byte) (l : List Byte) (x : Pec) (st : Nat) (s : State), s.dev ≠ .watch ∧ s.on SYS.READY 0 = true ∧
      l.length = n.toNat ∧ 3 ≤ n.toNat ∧ n.toNat ≤ s.rd SMB.FRAG_MAX 0 + 2 ∧ s.pecOk x = true ∧ (bytesAt l 0
      1).testBit 7 = true ∧ (bytesAt l 0 1).testBit 6 = true ∧ bytesAt l 1 1 = 0 ∧ (((s.bump SMB.TXN_CNT
      0).dropAsm.setAsm none).judgePush ((bytesAt l 0 1) % 64) (l.drop 2) true false).2 = st) ∧
    (∃ (n : Byte) (l : List Byte) (x : Pec) (s : State), s.dev ≠ .watch ∧ s.on SYS.READY 0 = true ∧ l.length =
      n.toNat ∧ 3 ≤ n.toNat ∧ n.toNat ≤ s.rd SMB.FRAG_MAX 0 + 2 ∧ s.pecOk x = true ∧ (bytesAt l 0 1).testBit 7 = true
      ∧ bytesAt l 1 1 ≠ 0) ∧
    (∃ (n : Byte) (l : List Byte) (x : Pec) (a : SmbAsm) (s : State), s.dev ≠ .watch ∧ s.on SYS.READY 0 = true ∧
      l.length = n.toNat ∧ 3 ≤ n.toNat ∧ n.toNat ≤ s.rd SMB.FRAG_MAX 0 + 2 ∧ s.pecOk x = true ∧ (bytesAt l 0
      1).testBit 7 = false ∧ (bytesAt l 0 1).testBit 6 = false ∧ s.smb.asm = some a ∧ a.ring = (bytesAt l 0 1) % 64 ∧
      a.next = bytesAt l 1 1 ∧ a.bytes.length + (l.drop 2).length ≤ asmBytes ∧ l ≠ a.last) ∧
    (∃ (n : Byte) (l : List Byte) (x : Pec) (a : SmbAsm) (st : Nat) (s : State), s.dev ≠ .watch ∧ s.on SYS.READY 0 =
      true ∧ l.length = n.toNat ∧ 3 ≤ n.toNat ∧ n.toNat ≤ s.rd SMB.FRAG_MAX 0 + 2 ∧ s.pecOk x = true ∧ (bytesAt l 0
      1).testBit 7 = false ∧ (bytesAt l 0 1).testBit 6 = true ∧ s.smb.asm = some a ∧ a.ring = (bytesAt l 0 1) % 64 ∧
      a.next = bytesAt l 1 1 ∧ a.bytes.length + (l.drop 2).length ≤ asmBytes ∧ l ≠ a.last ∧ (((s.bump SMB.TXN_CNT
      0).setAsm none).judgePush ((bytesAt l 0 1) % 64) (a.bytes ++ l.drop 2) true false).2 = st) ∧
    (∃ (n : Byte) (l : List Byte) (x : Pec) (a : SmbAsm) (s : State), s.dev ≠ .watch ∧ s.on SYS.READY 0 = true ∧
      l.length = n.toNat ∧ 3 ≤ n.toNat ∧ n.toNat ≤ s.rd SMB.FRAG_MAX 0 + 2 ∧ s.pecOk x = true ∧ (bytesAt l 0
      1).testBit 7 = false ∧ s.smb.asm = some a ∧ l = a.last) ∧
    (∃ (n : Byte) (l : List Byte) (x : Pec) (a : SmbAsm) (s : State), s.dev ≠ .watch ∧ s.on SYS.READY 0 = true ∧
      l.length = n.toNat ∧ 3 ≤ n.toNat ∧ n.toNat ≤ s.rd SMB.FRAG_MAX 0 + 2 ∧ s.pecOk x = true ∧ (bytesAt l 0
      1).testBit 7 = false ∧ s.smb.asm = some a ∧ l ≠ a.last ∧ (a.ring ≠ (bytesAt l 0 1) % 64 ∨ a.next ≠ bytesAt l 1
      1 ∨ asmBytes < a.bytes.length + (l.drop 2).length)) ∧
    (∃ (n : Byte) (l : List Byte) (x : Pec) (s : State), s.dev ≠ .watch ∧ s.on SYS.READY 0 = true ∧ l.length =
      n.toNat ∧ 3 ≤ n.toNat ∧ n.toNat ≤ s.rd SMB.FRAG_MAX 0 + 2 ∧ s.pecOk x = true ∧ (bytesAt l 0 1).testBit 7 =
      false ∧ s.smb.asm = none) ∧
    (∃ (n : Byte) (s : State), s.dev ≠ .watch ∧ s.on SYS.READY 0 = true ∧ (n.toNat < 3 ∨ s.rd SMB.FRAG_MAX 0 + 2 <
      n.toNat)) ∧
    (∃ (n : Byte) (l : List Byte) (s : State), s.dev ≠ .watch ∧ s.on SYS.READY 0 = true ∧ 3 ≤ n.toNat ∧ n.toNat ≤
      s.rd SMB.FRAG_MAX 0 + 2 ∧ l.length ≠ n.toNat) ∧
    (∃ (n : Byte) (l : List Byte) (x : Pec) (s : State), s.dev ≠ .watch ∧ s.on SYS.READY 0 = true ∧ l.length =
      n.toNat ∧ 3 ≤ n.toNat ∧ n.toNat ≤ s.rd SMB.FRAG_MAX 0 + 2 ∧ s.pecOk x = false) ∧
    (∃ (l : List Byte) (s : State), s.dev ≠ .watch ∧ s.on SYS.READY 0 = false ∧ s.romServes ((bytesAt l 0 1) % 64) 2
      = false) ∧
    (∃ (s : State), s.dev = .watch) ∧
    (∃ (a : SmbAsm) (s : State), s.smb.asm = some a) ∧
    (∃ (s : State), s.smb.asm = none) ∧
    (∃ (a : SmbAsm) (s : State), s.on SYS.READY 0 = true ∧ s.smb.asm = some a) ∧
    (∃ (s : State), (s.on SYS.READY 0 = false ∨ s.smb.asm = none)) ∧
    (∃ (q : Fin 40) (r : BitVec 6) (s : State), s.dev ≠ .watch ∧ s.on SYS.READY 0 = true ∧ q.val = r.toNat ∧ 4 ≤
      q.val ∧ (s.tailBytes q) ≠ [] ∧ s.smb.del = none) ∧
    (∃ (q : Fin 40) (r : BitVec 6) (d : SmbDel) (s : State), s.dev ≠ .watch ∧ s.on SYS.READY 0 = true ∧ q.val =
      r.toNat ∧ 4 ≤ q.val ∧ (s.tailBytes q) ≠ [] ∧ s.smb.del = some d ∧ d.ring ≠ q.val) ∧
    (∃ (q : Fin 40) (r : BitVec 6) (s : State), s.dev ≠ .watch ∧ s.on SYS.READY 0 = true ∧ q.val = r.toNat ∧ 4 ≤
      q.val ∧ (s.tailBytes q) = [] ∧ s.smb.del = none) ∧
    (∃ (q : Fin 40) (r : BitVec 6) (s : State), s.dev ≠ .watch ∧ s.on SYS.READY 0 = true ∧ q.val = r.toNat ∧ 4 ≤
      q.val ∧ (s.tailBytes q) ≠ [] ∧ s.smb.del = none) ∧
    (∃ (q : Fin 40) (r : BitVec 6) (d : SmbDel) (s : State), s.dev ≠ .watch ∧ s.on SYS.READY 0 = true ∧ q.val =
      r.toNat ∧ 4 ≤ q.val ∧ (s.tailBytes q) ≠ [] ∧ s.smb.del = some d ∧ d.ring ≠ q.val) ∧
    (∃ (q : Fin 40) (r : BitVec 6) (s : State), s.dev ≠ .watch ∧ s.on SYS.READY 0 = true ∧ q.val = r.toNat ∧ 4 ≤
      q.val ∧ (s.tailBytes q) = [] ∧ s.smb.del = none) ∧
    (∃ (q : Fin 40) (r : BitVec 6) (s : State), s.dev ≠ .watch ∧ s.on SYS.READY 0 = true ∧ q.val = r.toNat ∧ 4 ≤
      q.val ∧ (s.tailBytes q) ≠ [] ∧ s.smb.del = none) ∧
    (∃ (q : Fin 40) (r : BitVec 6) (d : SmbDel) (s : State), s.dev ≠ .watch ∧ s.on SYS.READY 0 = true ∧ q.val =
      r.toNat ∧ 4 ≤ q.val ∧ (s.tailBytes q) ≠ [] ∧ s.smb.del = some d ∧ d.ring ≠ q.val) ∧
    (∃ (q : Fin 40) (r : BitVec 6) (s : State), s.dev ≠ .watch ∧ s.on SYS.READY 0 = true ∧ q.val = r.toNat ∧ 4 ≤
      q.val ∧ (s.tailBytes q) = [] ∧ s.smb.del = none) ∧
    (∃ (q : Fin 40) (r : BitVec 6) (d : SmbDel) (s : State), s.dev ≠ .watch ∧ s.on SYS.READY 0 = true ∧ q.val =
      r.toNat ∧ 4 ≤ q.val ∧ s.smb.del = some d ∧ d.ring = q.val ∧ d.off + d.len < (s.tailBytes q).length) ∧
    (∃ (q : Fin 40) (r : BitVec 6) (d : SmbDel) (s : State), s.dev ≠ .watch ∧ s.on SYS.READY 0 = true ∧ q.val =
      r.toNat ∧ 4 ≤ q.val ∧ s.smb.del = some d ∧ d.ring = q.val ∧ (s.tailBytes q).length ≤ d.off + d.len) ∧
    (∃ (q : Fin 40) (r : BitVec 6) (d : SmbDel) (s : State), s.dev ≠ .watch ∧ s.on SYS.READY 0 = true ∧ q.val =
      r.toNat ∧ 4 ≤ q.val ∧ s.smb.del = some d ∧ d.ring = q.val) ∧
    (∃ (q : Fin 40) (r : BitVec 6) (d : SmbDel) (s : State), s.dev ≠ .watch ∧ s.on SYS.READY 0 = true ∧ q.val =
      r.toNat ∧ 4 ≤ q.val ∧ s.smb.del = some d ∧ d.ring = q.val ∧ (s.tailBytes q) ≠ []) ∧
    (∃ (q : Fin 40) (r : BitVec 6) (x : Bool) (s : State), s.dev ≠ .watch ∧ s.on SYS.READY 0 = true ∧ q.val = r.toNat
      ∧ (q.val < 4 ∨ x = true)) ∧
    (∃ (q : Fin 40) (r : BitVec 6) (s : State), s.dev ≠ .watch ∧ s.on SYS.READY 0 = true ∧ q.val = r.toNat ∧ q.val <
      4) ∧
    (∃ (r : BitVec 6) (s : State), s.dev ≠ .watch ∧ s.on SYS.READY 0 = true ∧ (r.toNat < 4 ∨ 39 < r.toNat)) ∧
    (∃ (n : Byte) (s : State), s.dev ≠ .watch ∧ s.on SYS.READY 0 = true ∧ n.toNat ≠ 1) ∧
    (∃ (r : BitVec 6) (s : State), s.dev ≠ .watch ∧ s.on SYS.READY 0 = false ∧ s.romServes r.toNat 4 = false) ∧
    (∃ (s : State), s.dev = .watch) ∧
    (∃ (n : Byte) (s : State), s.dev ≠ .watch ∧ s.on SYS.READY 0 = true ∧ n.toNat ≠ 1) ∧
    (∃ (r : BitVec 6) (s : State), s.dev ≠ .watch ∧ s.on SYS.READY 0 = false ∧ s.romServes r.toNat 4 = false) ∧
    (∃ (s : State), s.dev = .watch) ∧
    (∃ (n : Byte) (s : State), s.dev ≠ .watch ∧ s.on SYS.READY 0 = true ∧ n.toNat ≠ 1) ∧
    (∃ (r : BitVec 6) (s : State), s.dev ≠ .watch ∧ s.on SYS.READY 0 = false ∧ s.romServes r.toNat 4 = false) ∧
    (∃ (s : State), s.dev = .watch) ∧
    (∃ (d : SmbDel) (s : State), s.smb.del = some d) ∧
    (∃ (s : State), s.smb.del = none) ∧
    (∃ (s : State), s.on SMB.NOTIFY_EN 0 = true ∧ s.irqN = true ∧ s.smb.notifying = false ∧ s.smb.quiet = false) ∧
    (∃ (r : NotifyTry) (s : State), s.on SMB.NOTIFY_EN 0 = true ∧ s.irqN = true ∧ s.smb.notifying = false ∧
      s.smb.quiet = false ∧ r ≠ .sent) ∧
    (∃ (s : State), s.on SMB.NOTIFY_EN 0 = true ∧ s.irqN = true ∧ s.smb.notifying = false ∧ s.smb.quiet = true) ∧
    (∃ (s : State), (s.on SMB.NOTIFY_EN 0 = false ∨ s.irqN = false ∨ s.smb.notifying = true)) ∧
    (∃ (s : State), s.smb.notifying = true) ∧
    (∃ (r : NotifyTry) (s : State), s.smb.notifying = true ∧ r ≠ .sent ∧ s.rd SMB.ATTEMPTS 0 + 1 < 8) ∧
    (∃ (r : NotifyTry) (s : State), s.smb.notifying = true ∧ r ≠ .sent ∧ 8 ≤ s.rd SMB.ATTEMPTS 0 + 1) ∧
    (∃ (s : State), s.smb.notifying = false) ∧
    (∃ (s : State), s.smb.heldBack = true ∧ s.on SMB.NOTIFY_EN 0 = true ∧ s.irqN = true) ∧
    (∃ (r : NotifyTry) (s : State), s.smb.heldBack = true ∧ s.on SMB.NOTIFY_EN 0 = true ∧ s.irqN = true ∧ r ≠ .sent) ∧
    (∃ (s : State), (s.smb.heldBack = false ∨ s.on SMB.NOTIFY_EN 0 = false ∨ s.irqN = false)) ∧
    (∃ (s : State), s.dev = .watch) ∧
    (∃ (s : State), s.dev ≠ .watch) := by
  refine ⟨⟨4, ([0x82, 0, 1, 2]), .good, (
      let s : State := wbase
      let s : State := s.flag SYS.READY 0 true
      let s : State := { s with dev := .run }
      let s : State := s.flag SYS.READY 0 true
      s), ?_⟩,
    ⟨4, ([0xFF, 0, 1, 2]), .good, stBAD_ARG, (
      let s : State := wbase
      let s : State := s.flag SYS.READY 0 true
      let s : State := { s with dev := .run }
      let s : State := s.flag SYS.READY 0 true
      s), ?_⟩,
    ⟨4, ([0x82, 1, 1, 2]), .good, (
      let s : State := wbase
      let s : State := s.flag SYS.READY 0 true
      let s : State := { s with dev := .run }
      let s : State := s.flag SYS.READY 0 true
      s), ?_⟩,
    ⟨4, ([0x02, 1, 1, 2]), .good, (⟨2, [1, 2, 3], 1, [0x82, 0, 1, 2, 3]⟩), (
      let a : SmbAsm := ⟨2, [1, 2, 3], 1, [0x82, 0, 1, 2, 3]⟩
      let s : State := wbase
      let s : State := s.flag SYS.READY 0 true
      let s : State := { s with smb := { s.smb with asm := some a } }
      let s : State := { s with dev := .run }
      let s : State := s.flag SYS.READY 0 true
      let s : State := { s with smb := { s.smb with asm := some a } }
      s), ?_⟩,
    ⟨4, ([0x7F, 1, 1, 2]), .good, (⟨63, [1, 2, 3], 1, [0xBF, 0, 1, 2, 3]⟩), stBAD_ARG, (
      let a : SmbAsm := ⟨63, [1, 2, 3], 1, [0xBF, 0, 1, 2, 3]⟩
      let s : State := wbase
      let s : State := s.flag SYS.READY 0 true
      let s : State := { s with smb := { s.smb with asm := some a } }
      let s : State := { s with dev := .run }
      let s : State := s.flag SYS.READY 0 true
      let s : State := { s with smb := { s.smb with asm := some a } }
      s), ?_⟩,
    ⟨4, ([0x02, 0, 1, 2]), .good, (⟨2, [1, 2], 1, [0x02, 0, 1, 2]⟩), (
      let a : SmbAsm := ⟨2, [1, 2], 1, [0x02, 0, 1, 2]⟩
      let s : State := wbase
      let s : State := s.flag SYS.READY 0 true
      let s : State := { s with smb := { s.smb with asm := some a } }
      let s : State := { s with dev := .run }
      let s : State := s.flag SYS.READY 0 true
      let s : State := { s with smb := { s.smb with asm := some a } }
      s), ?_⟩,
    ⟨4, ([0x02, 7, 1, 2]), .good, (⟨2, [1, 2, 3], 1, [0x82, 0, 1, 2, 3]⟩), (
      let a : SmbAsm := ⟨2, [1, 2, 3], 1, [0x82, 0, 1, 2, 3]⟩
      let s : State := wbase
      let s : State := s.flag SYS.READY 0 true
      let s : State := { s with smb := { s.smb with asm := some a } }
      let s : State := { s with dev := .run }
      let s : State := s.flag SYS.READY 0 true
      let s : State := { s with smb := { s.smb with asm := some a } }
      s), ?_⟩,
    ⟨4, ([0x02, 1, 1, 2]), .good, (
      let s : State := wbase
      let s : State := s.flag SYS.READY 0 true
      let s : State := { s with smb := { s.smb with asm := none } }
      let s : State := { s with dev := .run }
      let s : State := s.flag SYS.READY 0 true
      s), ?_⟩,
    ⟨2, (
      let s : State := wbase
      let s : State := s.flag SYS.READY 0 true
      let s : State := { s with dev := .run }
      let s : State := s.flag SYS.READY 0 true
      s), ?_⟩,
    ⟨4, ([]), (
      let s : State := wbase
      let s : State := s.flag SYS.READY 0 true
      let s : State := { s with dev := .run }
      let s : State := s.flag SYS.READY 0 true
      s), ?_⟩,
    ⟨4, ([0x82, 0, 1, 2]), .bad, (
      let s : State := wbase
      let s : State := s.flag SYS.READY 0 true
      let s : State := { s with dev := .run }
      let s : State := s.flag SYS.READY 0 true
      s), ?_⟩,
    ⟨([]), (
      let s : State := wbase
      let s : State := s.flag SYS.READY 0 false
      let s : State := s.flag SYS.READY 0 false
      let s : State := { s with dev := .run }
      s), ?_⟩,
    ⟨(
      let s : State := wbase
      let s : State := { s with dev := .watch }
      let s : State := { s with dev := .watch }
      s), ?_⟩,
    ⟨(⟨2, [1, 2, 3], 1, [0x82, 0, 1, 2, 3]⟩), (
      let a : SmbAsm := ⟨2, [1, 2, 3], 1, [0x82, 0, 1, 2, 3]⟩
      let s : State := wbase
      let s : State := { s with smb := { s.smb with asm := some a } }
      let s : State := { s with smb := { s.smb with asm := some a } }
      s), ?_⟩,
    ⟨(
      let s : State := wbase
      let s : State := { s with smb := { s.smb with asm := none } }
      s), ?_⟩,
    ⟨(⟨2, [1, 2, 3], 1, [0x82, 0, 1, 2, 3]⟩), (
      let a : SmbAsm := ⟨2, [1, 2, 3], 1, [0x82, 0, 1, 2, 3]⟩
      let s : State := wbase
      let s : State := s.flag SYS.READY 0 true
      let s : State := { s with smb := { s.smb with asm := some a } }
      let s : State := { s with dev := .run }
      let s : State := s.flag SYS.READY 0 true
      let s : State := { s with smb := { s.smb with asm := some a } }
      s), ?_⟩,
    ⟨(
      let s : State := wbase
      let s : State := s.flag SYS.READY 0 false
      s), ?_⟩,
    ⟨5, 5, (
      let s : State := wbase
      let s : State := s.flag SYS.READY 0 true
      let s : State := { s with smb := { s.smb with del := none } }
      let s : State := { s with dev := .run }
      let s : State := s.flag SYS.READY 0 true
      let s : State := s.setRing 5 { s.ring 5 with entries := [.ev ⟨1, 0, 9, 7, 0, 0, 0, 0, 0, 0⟩] }
      s), ?_⟩,
    ⟨5, 5, (⟨6, 0, 4, 0⟩), (
      let d : SmbDel := ⟨6, 0, 4, 0⟩
      let s : State := wbase
      let s : State := s.flag SYS.READY 0 true
      let s : State := { s with smb := { s.smb with del := some d } }
      let s : State := { s with dev := .run }
      let s : State := s.flag SYS.READY 0 true
      let s : State := s.setRing 5 { s.ring 5 with entries := [.ev ⟨1, 0, 9, 7, 0, 0, 0, 0, 0, 0⟩] }
      let s : State := { s with smb := { s.smb with del := some d } }
      s), ?_⟩,
    ⟨5, 5, (
      let s : State := wbase
      let s : State := s.flag SYS.READY 0 true
      let s : State := { s with smb := { s.smb with del := none } }
      let s : State := { s with dev := .run }
      let s : State := s.flag SYS.READY 0 true
      s), ?_⟩,
    ⟨5, 5, (
      let s : State := wbase
      let s : State := s.flag SYS.READY 0 true
      let s : State := { s with smb := { s.smb with del := none } }
      let s : State := { s with dev := .run }
      let s : State := s.flag SYS.READY 0 true
      let s : State := s.setRing 5 { s.ring 5 with entries := [.ev ⟨1, 0, 9, 7, 0, 0, 0, 0, 0, 0⟩] }
      s), ?_⟩,
    ⟨5, 5, (⟨6, 0, 4, 0⟩), (
      let d : SmbDel := ⟨6, 0, 4, 0⟩
      let s : State := wbase
      let s : State := s.flag SYS.READY 0 true
      let s : State := { s with smb := { s.smb with del := some d } }
      let s : State := { s with dev := .run }
      let s : State := s.flag SYS.READY 0 true
      let s : State := s.setRing 5 { s.ring 5 with entries := [.ev ⟨1, 0, 9, 7, 0, 0, 0, 0, 0, 0⟩] }
      let s : State := { s with smb := { s.smb with del := some d } }
      s), ?_⟩,
    ⟨5, 5, (
      let s : State := wbase
      let s : State := s.flag SYS.READY 0 true
      let s : State := { s with smb := { s.smb with del := none } }
      let s : State := { s with dev := .run }
      let s : State := s.flag SYS.READY 0 true
      s), ?_⟩,
    ⟨5, 5, (
      let s : State := wbase
      let s : State := s.flag SYS.READY 0 true
      let s : State := { s with smb := { s.smb with del := none } }
      let s : State := { s with dev := .run }
      let s : State := s.flag SYS.READY 0 true
      let s : State := s.setRing 5 { s.ring 5 with entries := [.ev ⟨1, 0, 9, 7, 0, 0, 0, 0, 0, 0⟩] }
      s), ?_⟩,
    ⟨5, 5, (⟨6, 0, 4, 0⟩), (
      let d : SmbDel := ⟨6, 0, 4, 0⟩
      let s : State := wbase
      let s : State := s.flag SYS.READY 0 true
      let s : State := { s with smb := { s.smb with del := some d } }
      let s : State := { s with dev := .run }
      let s : State := s.flag SYS.READY 0 true
      let s : State := s.setRing 5 { s.ring 5 with entries := [.ev ⟨1, 0, 9, 7, 0, 0, 0, 0, 0, 0⟩] }
      let s : State := { s with smb := { s.smb with del := some d } }
      s), ?_⟩,
    ⟨5, 5, (
      let s : State := wbase
      let s : State := s.flag SYS.READY 0 true
      let s : State := { s with smb := { s.smb with del := none } }
      let s : State := { s with dev := .run }
      let s : State := s.flag SYS.READY 0 true
      s), ?_⟩,
    ⟨5, 5, (⟨5, 0, 4, 0⟩), (
      let d : SmbDel := ⟨5, 0, 4, 0⟩
      let s : State := wbase
      let s : State := s.flag SYS.READY 0 true
      let s : State := { s with smb := { s.smb with del := some d } }
      let s : State := { s with dev := .run }
      let s : State := s.flag SYS.READY 0 true
      let s : State := s.setRing 5 { s.ring 5 with entries := [.ev ⟨1, 0, 9, 7, 0, 0, 0, 0, 0, 0⟩] }
      let s : State := { s with smb := { s.smb with del := some d } }
      s), ?_⟩,
    ⟨5, 5, (⟨5, 0, 400, 0⟩), (
      let d : SmbDel := ⟨5, 0, 400, 0⟩
      let s : State := wbase
      let s : State := s.flag SYS.READY 0 true
      let s : State := { s with smb := { s.smb with del := some d } }
      let s : State := { s with dev := .run }
      let s : State := s.flag SYS.READY 0 true
      let s : State := s.setRing 5 { s.ring 5 with entries := [.ev ⟨1, 0, 9, 7, 0, 0, 0, 0, 0, 0⟩] }
      let s : State := { s with smb := { s.smb with del := some d } }
      s), ?_⟩,
    ⟨5, 5, (⟨5, 0, 4, 0⟩), (
      let d : SmbDel := ⟨5, 0, 4, 0⟩
      let s : State := wbase
      let s : State := s.flag SYS.READY 0 true
      let s : State := { s with smb := { s.smb with del := some d } }
      let s : State := { s with dev := .run }
      let s : State := s.flag SYS.READY 0 true
      let s : State := s.setRing 5 { s.ring 5 with entries := [.ev ⟨1, 0, 9, 7, 0, 0, 0, 0, 0, 0⟩] }
      let s : State := { s with smb := { s.smb with del := some d } }
      s), ?_⟩,
    ⟨5, 5, (⟨5, 4, 4, 1⟩), (
      let d : SmbDel := ⟨5, 4, 4, 1⟩
      let s : State := wbase
      let s : State := s.flag SYS.READY 0 true
      let s : State := { s with smb := { s.smb with del := some d } }
      let s : State := { s with dev := .run }
      let s : State := s.flag SYS.READY 0 true
      let s : State := s.setRing 5 { s.ring 5 with entries := [.ev ⟨1, 0, 9, 7, 0, 0, 0, 0, 0, 0⟩] }
      let s : State := { s with smb := { s.smb with del := some d } }
      s), ?_⟩,
    ⟨5, 5, true, (
      let s : State := wbase
      let s : State := s.flag SYS.READY 0 true
      let s : State := { s with dev := .run }
      let s : State := s.flag SYS.READY 0 true
      s), ?_⟩,
    ⟨1, 1, (
      let s : State := wbase
      let s : State := s.flag SYS.READY 0 true
      let s : State := { s with dev := .run }
      let s : State := s.flag SYS.READY 0 true
      s), ?_⟩,
    ⟨50, (
      let s : State := wbase
      let s : State := s.flag SYS.READY 0 true
      let s : State := { s with dev := .run }
      let s : State := s.flag SYS.READY 0 true
      s), ?_⟩,
    ⟨2, (
      let s : State := wbase
      let s : State := s.flag SYS.READY 0 true
      let s : State := { s with dev := .run }
      let s : State := s.flag SYS.READY 0 true
      s), ?_⟩,
    ⟨5, (
      let s : State := wbase
      let s : State := s.flag SYS.READY 0 false
      let s : State := s.flag SYS.READY 0 false
      let s : State := { s with dev := .run }
      s), ?_⟩,
    ⟨(
      let s : State := wbase
      let s : State := { s with dev := .watch }
      let s : State := { s with dev := .watch }
      s), ?_⟩,
    ⟨2, (
      let s : State := wbase
      let s : State := s.flag SYS.READY 0 true
      let s : State := { s with dev := .run }
      let s : State := s.flag SYS.READY 0 true
      s), ?_⟩,
    ⟨5, (
      let s : State := wbase
      let s : State := s.flag SYS.READY 0 false
      let s : State := s.flag SYS.READY 0 false
      let s : State := { s with dev := .run }
      s), ?_⟩,
    ⟨(
      let s : State := wbase
      let s : State := { s with dev := .watch }
      let s : State := { s with dev := .watch }
      s), ?_⟩,
    ⟨2, (
      let s : State := wbase
      let s : State := s.flag SYS.READY 0 true
      let s : State := { s with dev := .run }
      let s : State := s.flag SYS.READY 0 true
      s), ?_⟩,
    ⟨5, (
      let s : State := wbase
      let s : State := s.flag SYS.READY 0 false
      let s : State := s.flag SYS.READY 0 false
      let s : State := { s with dev := .run }
      s), ?_⟩,
    ⟨(
      let s : State := wbase
      let s : State := { s with dev := .watch }
      let s : State := { s with dev := .watch }
      s), ?_⟩,
    ⟨(⟨5, 0, 4, 0⟩), (
      let d : SmbDel := ⟨5, 0, 4, 0⟩
      let s : State := wbase
      let s : State := { s with smb := { s.smb with del := some d } }
      let s : State := { s with smb := { s.smb with del := some d } }
      s), ?_⟩,
    ⟨(
      let s : State := wbase
      let s : State := { s with smb := { s.smb with del := none } }
      s), ?_⟩,
    ⟨(
      let s : State := wbase
      let s : State := s.flag SMB.NOTIFY_EN 0 true
      let s : State := { s with smb := { s.smb with notifying := false } }
      let s : State := { s with smb := { s.smb with quiet := false } }
      let s : State := s.flag SMB.NOTIFY_EN 0 true
      let s : State := s.flag CLK.PWM_LOCK 0 true
      let s : State := s.wr (IRQ_EN 1) 0 1
      let s : State := s.wr (IRQ_STAT 1) 0 1
      let s : State := s.wr IRQ.SYS_MASK 0 0xFFFFFFFF
      let s : State := { s with smb := { s.smb with notifying := false } }
      s), ?_⟩,
    ⟨.lost, (
      let s : State := wbase
      let s : State := s.flag SMB.NOTIFY_EN 0 true
      let s : State := { s with smb := { s.smb with notifying := false } }
      let s : State := { s with smb := { s.smb with quiet := false } }
      let s : State := s.flag SMB.NOTIFY_EN 0 true
      let s : State := s.flag CLK.PWM_LOCK 0 true
      let s : State := s.wr (IRQ_EN 1) 0 1
      let s : State := s.wr (IRQ_STAT 1) 0 1
      let s : State := s.wr IRQ.SYS_MASK 0 0xFFFFFFFF
      let s : State := { s with smb := { s.smb with notifying := false } }
      s), ?_⟩,
    ⟨(
      let s : State := wbase
      let s : State := s.flag SMB.NOTIFY_EN 0 true
      let s : State := { s with smb := { s.smb with notifying := false } }
      let s : State := { s with smb := { s.smb with quiet := true } }
      let s : State := s.flag SMB.NOTIFY_EN 0 true
      let s : State := s.flag CLK.PWM_LOCK 0 true
      let s : State := s.wr (IRQ_EN 1) 0 1
      let s : State := s.wr (IRQ_STAT 1) 0 1
      let s : State := s.wr IRQ.SYS_MASK 0 0xFFFFFFFF
      let s : State := { s with smb := { s.smb with notifying := false } }
      let s : State := { s with smb := { s.smb with quiet := true } }
      s), ?_⟩,
    ⟨(
      let s : State := wbase
      let s : State := s.flag SMB.NOTIFY_EN 0 false
      let s : State := { s with smb := { s.smb with notifying := true } }
      s), ?_⟩,
    ⟨(
      let s : State := wbase
      let s : State := { s with smb := { s.smb with notifying := true } }
      s), ?_⟩,
    ⟨.lost, (
      let s : State := wbase
      let s : State := { s with smb := { s.smb with notifying := true } }
      s), ?_⟩,
    ⟨.lost, (
      let s : State := wbase
      let s : State := { s with smb := { s.smb with notifying := true } }
      let s : State := s.wr SMB.ATTEMPTS 0 7
      s), ?_⟩,
    ⟨(
      let s : State := wbase
      let s : State := { s with smb := { s.smb with notifying := false } }
      s), ?_⟩,
    ⟨(
      let s : State := wbase
      let s : State := { s with smb := { s.smb with heldBack := true } }
      let s : State := s.flag SMB.NOTIFY_EN 0 true
      let s : State := s.flag SMB.NOTIFY_EN 0 true
      let s : State := s.flag CLK.PWM_LOCK 0 true
      let s : State := s.wr (IRQ_EN 1) 0 1
      let s : State := s.wr (IRQ_STAT 1) 0 1
      let s : State := s.wr IRQ.SYS_MASK 0 0xFFFFFFFF
      let s : State := { s with smb := { s.smb with notifying := false } }
      let s : State := { s with smb := { s.smb with heldBack := true } }
      s), ?_⟩,
    ⟨.lost, (
      let s : State := wbase
      let s : State := { s with smb := { s.smb with heldBack := true } }
      let s : State := s.flag SMB.NOTIFY_EN 0 true
      let s : State := s.flag SMB.NOTIFY_EN 0 true
      let s : State := s.flag CLK.PWM_LOCK 0 true
      let s : State := s.wr (IRQ_EN 1) 0 1
      let s : State := s.wr (IRQ_STAT 1) 0 1
      let s : State := s.wr IRQ.SYS_MASK 0 0xFFFFFFFF
      let s : State := { s with smb := { s.smb with notifying := false } }
      let s : State := { s with smb := { s.smb with heldBack := true } }
      s), ?_⟩,
    ⟨(
      let s : State := wbase
      let s : State := { s with smb := { s.smb with heldBack := false } }
      s), ?_⟩,
    ⟨(
      let s : State := wbase
      let s : State := { s with dev := .watch }
      let s : State := { s with dev := .watch }
      s), ?_⟩,
    ⟨wbase, ?_⟩⟩
  all_goals first | decide +kernel | (unfold AwaitsResponse; decide +kernel)

/-- States and operands that meet the hypotheses of SpiTransactions, clause by clause. -/
theorem test_spi_transactions_witness :
    (∃ (a : BitVec 24) (n : Nat) (s : State), s.on SYS.READY 0 = true ∧ a.toNat % 4 = 0 ∧ n = 0) ∧
    (∃ (a : BitVec 24) (s : State), s.on SYS.READY 0 = true ∧ a.toNat % 4 = 0) ∧
    (∃ (a : BitVec 24) (n : Nat) (s : State), s.on SYS.READY 0 = true ∧ a.toNat % 4 = 0 ∧ 0 < n) ∧
    (∃ (a : BitVec 24) (s : State), s.on SYS.READY 0 = true ∧ a.toNat % 4 ≠ 0) ∧
    (∃ (s : State), s.on SYS.READY 0 = false) ∧
    (∃ (i : Fin 22) (a : BitVec 24) (s : State), s.on SYS.READY 0 = true ∧ s.on HSPI.CRC_EN 0 = false ∧ a.toNat =
      i.val * 0x400 + 0x10) ∧
    (∃ (a : BitVec 24) (n : Nat) (s : State), s.on SYS.READY 0 = true ∧ a.toNat % 4 = 0 ∧ n = 0) ∧
    (∃ (a : BitVec 24) (s : State), s.on SYS.READY 0 = true ∧ a.toNat % 4 = 0) ∧
    (∃ (a : BitVec 24) (n : Nat) (s : State), s.on SYS.READY 0 = true ∧ a.toNat % 4 = 0 ∧ 0 < n) ∧
    (∃ (a : BitVec 24) (s : State), s.on SYS.READY 0 = true ∧ a.toNat % 4 ≠ 0) ∧
    (∃ (s : State), s.on SYS.READY 0 = false) ∧
    (∃ (i : Fin 22) (a : BitVec 24) (s : State), s.on SYS.READY 0 = true ∧ s.on HSPI.CRC_EN 0 = false ∧ a.toNat =
      i.val * 0x400 + 0x10) ∧
    (∃ (a : BitVec 24) (s : State), s.on SYS.READY 0 = true ∧ a.toNat % 4 = 0 ∧ s.on HSPI.CRC_EN 0 = false) ∧
    (∃ (a : BitVec 24) (s : State), s.on SYS.READY 0 = true ∧ a.toNat % 4 = 0 ∧ s.on HSPI.CRC_EN 0 = false) ∧
    (∃ (a : BitVec 24) (ws : List Word) (s : State), s.on SYS.READY 0 = true ∧ a.toNat % 4 = 0 ∧ s.on HSPI.CRC_EN 0 =
      true ∧ ws.length ≤ 64) ∧
    (∃ (a : BitVec 24) (ws : List Word) (s : State), s.on SYS.READY 0 = true ∧ a.toNat % 4 = 0 ∧ s.on HSPI.CRC_EN 0 =
      true ∧ ws.length ≤ 64) ∧
    (∃ (a : BitVec 24) (ws : List Word) (s : State), s.on SYS.READY 0 = true ∧ a.toNat % 4 = 0 ∧ s.on HSPI.CRC_EN 0 =
      true ∧ ws.length ≤ 64) ∧
    (∃ (a : BitVec 24) (ws : List Word) (s : State), s.on SYS.READY 0 = true ∧ a.toNat % 4 = 0 ∧ s.on HSPI.CRC_EN 0 =
      true ∧ 64 < ws.length) ∧
    (∃ (a : BitVec 24) (s : State), s.on SYS.READY 0 = true ∧ a.toNat % 4 ≠ 0) ∧
    (∃ (s : State), s.on SYS.READY 0 = false) ∧
    (∃ (i : Fin 22) (a : BitVec 24) (s : State), s.on SYS.READY 0 = true ∧ s.on HSPI.CRC_EN 0 = false ∧ a.toNat =
      i.val * 0x400 + 0x10) ∧
    (∃ (a : BitVec 24) (s : State), s.on SYS.READY 0 = true ∧ a.toNat % 4 = 0 ∧ s.on HSPI.CRC_EN 0 = false) ∧
    (∃ (a : BitVec 24) (s : State), s.on SYS.READY 0 = true ∧ a.toNat % 4 = 0 ∧ s.on HSPI.CRC_EN 0 = false) ∧
    (∃ (a : BitVec 24) (ws : List Word) (s : State), s.on SYS.READY 0 = true ∧ a.toNat % 4 = 0 ∧ s.on HSPI.CRC_EN 0 =
      true ∧ ws.length ≤ 64) ∧
    (∃ (a : BitVec 24) (ws : List Word) (s : State), s.on SYS.READY 0 = true ∧ a.toNat % 4 = 0 ∧ s.on HSPI.CRC_EN 0 =
      true ∧ ws.length ≤ 64) ∧
    (∃ (a : BitVec 24) (ws : List Word) (s : State), s.on SYS.READY 0 = true ∧ a.toNat % 4 = 0 ∧ s.on HSPI.CRC_EN 0 =
      true ∧ ws.length ≤ 64) ∧
    (∃ (a : BitVec 24) (ws : List Word) (s : State), s.on SYS.READY 0 = true ∧ a.toNat % 4 = 0 ∧ s.on HSPI.CRC_EN 0 =
      true ∧ 64 < ws.length) ∧
    (∃ (a : BitVec 24) (s : State), s.on SYS.READY 0 = true ∧ a.toNat % 4 ≠ 0) ∧
    (∃ (s : State), s.on SYS.READY 0 = false) ∧
    (∃ (i : Fin 22) (a : BitVec 24) (s : State), s.on SYS.READY 0 = true ∧ s.on HSPI.CRC_EN 0 = false ∧ a.toNat =
      i.val * 0x400 + 0x10) ∧
    (∃ (s : State), s.on HSPI.CRC_EN 0 = false) ∧
    (∃ (s : State), s.on HSPI.CRC_EN 0 = true) ∧
    (∃ (r : Byte) (q : Fin 40) (l : List Byte) (k : Bool) (s : State), s.on SYS.READY 0 = true ∧ (s.on HSPI.CRC_EN 0
      = false ∨ k = true) ∧ q.val = r.toNat ∧ 1 ≤ q.val ∧ q.val ≤ 3 ∧ packetCheck l false = stOK ∧ (s.ring q).occ +
      packetGranules (packetOf l none) ≤ ringSize q) ∧
    (∃ (r : Byte) (l : List Byte) (k : Bool) (b : Bool) (st : Nat) (s : State), (s.on SYS.READY 0 = true ∨
      s.romServes r.toNat 2 = true) ∧ (s.on HSPI.CRC_EN 0 = false ∨ k = true) ∧ (((s.bump HSPI.TXN_CNT 0).spiSends
      []).judgePush r.toNat l true b).2 = st) ∧
    (∃ (r : Byte) (k : Bool) (s : State), (s.on SYS.READY 0 = true ∨ s.romServes r.toNat 2 = true) ∧ s.on HSPI.CRC_EN
      0 = true ∧ k = false ∧ r.toNat < 4) ∧
    (∃ (r : Byte) (s : State), (s.on SYS.READY 0 = true ∨ s.romServes r.toNat 2 = true) ∧ 4 ≤ r.toNat) ∧
    (∃ (r : Byte) (s : State), s.on SYS.READY 0 = false ∧ s.romServes r.toNat 2 = false) ∧
    (∃ (q : Fin 40) (r : Byte) (s : State), (s.on SYS.READY 0 = true ∨ s.romServes (r.toNat % 64) 4 = true) ∧ q.val =
      r.toNat % 64 ∧ 4 ≤ q.val ∧ r.getLsbD 6 = false ∧ s.on HSPI.PULL_CONFIRM 0 = false ∧ (s.tailBytes q) ≠ [] ∧
      s.smb.del = none) ∧
    (∃ (q : Fin 40) (r : Byte) (d : SmbDel) (s : State), (s.on SYS.READY 0 = true ∨ s.romServes (r.toNat % 64) 4 =
      true) ∧ q.val = r.toNat % 64 ∧ 4 ≤ q.val ∧ r.getLsbD 6 = false ∧ s.on HSPI.PULL_CONFIRM 0 = false ∧
      (s.tailBytes q) ≠ [] ∧ s.smb.del = some d ∧ d.ring = q.val) ∧
    (∃ (q : Fin 40) (r : Byte) (s : State), (s.on SYS.READY 0 = true ∨ s.romServes (r.toNat % 64) 4 = true) ∧ q.val =
      r.toNat % 64 ∧ 4 ≤ q.val ∧ r.getLsbD 6 = false ∧ s.on HSPI.PULL_CONFIRM 0 = false ∧ (s.tailBytes q) ≠ []) ∧
    (∃ (q : Fin 40) (r : Byte) (s : State), (s.on SYS.READY 0 = true ∨ s.romServes (r.toNat % 64) 4 = true) ∧ q.val =
      r.toNat % 64 ∧ 4 ≤ q.val ∧ r.getLsbD 6 = false ∧ s.on HSPI.PULL_CONFIRM 0 = true ∧ (s.tailBytes q) ≠ [] ∧
      (r.getLsbD 7 = false ∨ q.val ∉ s.spi.held)) ∧
    (∃ (q : Fin 40) (r : Byte) (s : State), (s.on SYS.READY 0 = true ∨ s.romServes (r.toNat % 64) 4 = true) ∧ q.val =
      r.toNat % 64 ∧ 4 ≤ q.val ∧ r.getLsbD 6 = false ∧ s.on HSPI.PULL_CONFIRM 0 = true ∧ (s.tailBytes q) ≠ [] ∧
      (r.getLsbD 7 = false ∨ q.val ∉ s.spi.held)) ∧
    (∃ (q : Fin 40) (r : Byte) (s : State), (s.on SYS.READY 0 = true ∨ s.romServes (r.toNat % 64) 4 = true) ∧ q.val =
      r.toNat % 64 ∧ 4 ≤ q.val ∧ r.getLsbD 6 = false ∧ s.on HSPI.PULL_CONFIRM 0 = true ∧ (s.tailBytes q) ≠ [] ∧
      r.getLsbD 7 = true ∧ q.val ∈ s.spi.held) ∧
    (∃ (q : Fin 40) (r : Byte) (s : State), (s.on SYS.READY 0 = true ∨ s.romServes (r.toNat % 64) 4 = true) ∧ q.val =
      r.toNat % 64 ∧ 4 ≤ q.val ∧ r.getLsbD 6 = false ∧ (s.tailBytes q) = [] ∧ q.val ∉ s.spi.held) ∧
    (∃ (r : Byte) (s : State), (s.on SYS.READY 0 = true ∨ s.romServes (r.toNat % 64) 4 = true) ∧ (r.getLsbD 6 = true
      ∨ r.toNat % 64 < 4 ∨ 39 < r.toNat % 64)) ∧
    (∃ (r : Byte) (s : State), s.on SYS.READY 0 = false ∧ s.romServes (r.toNat % 64) 4 = false) ∧
    (∃ (b : Byte) (o : Nat) (l : List Port) (s : State), stopByte b.toNat = some o ∧ coveredPorts b.toNat = some l) ∧
    (∃ (b : Byte) (s : State), stopByte b.toNat = none) ∧
    (∃ (op : Byte) (s : State), op.toNat ∉ spiOpcodes) ∧
    (∃ (op : Byte) (s : State), op.toNat ∈ spiOpcodes) ∧
    (∃ (s : State), s.dev = .watch) ∧
    (∃ (s : State), s.dev ≠ .watch) := by
  refine ⟨⟨0x10, 0, (
      let s : State := wbase
      let s : State := s.flag SYS.READY 0 true
      let s : State := { s with dev := .run }
      let s : State := s.flag SYS.READY 0 true
      s), ?_⟩,
    ⟨0x10, (
      let s : State := wbase
      let s : State := s.flag SYS.READY 0 true
      let s : State := { s with dev := .run }
      let s : State := s.flag SYS.READY 0 true
      s), ?_⟩,
    ⟨0x10, 2, (
      let s : State := wbase
      let s : State := s.flag SYS.READY 0 true
      let s : State := { s with dev := .run }
      let s : State := s.flag SYS.READY 0 true
      s), ?_⟩,
    ⟨1, (
      let s : State := wbase
      let s : State := s.flag SYS.READY 0 true
      let s : State := { s with dev := .run }
      let s : State := s.flag SYS.READY 0 true
      s), ?_⟩,
    ⟨(
      let s : State := wbase
      let s : State := s.flag SYS.READY 0 false
      let s : State := s.flag SYS.READY 0 false
      let s : State := { s with dev := .run }
      s), ?_⟩,
    ⟨0, 0x10, (
      let s : State := wbase
      let s : State := s.flag SYS.READY 0 true
      let s : State := s.flag HSPI.CRC_EN 0 false
      let s : State := { s with dev := .run }
      let s : State := s.flag SYS.READY 0 true
      s), ?_⟩,
    ⟨0x10, 0, (
      let s : State := wbase
      let s : State := s.flag SYS.READY 0 true
      let s : State := { s with dev := .run }
      let s : State := s.flag SYS.READY 0 true
      s), ?_⟩,
    ⟨0x10, (
      let s : State := wbase
      let s : State := s.flag SYS.READY 0 true
      let s : State := { s with dev := .run }
      let s : State := s.flag SYS.READY 0 true
      s), ?_⟩,
    ⟨0x10, 2, (
      let s : State := wbase
      let s : State := s.flag SYS.READY 0 true
      let s : State := { s with dev := .run }
      let s : State := s.flag SYS.READY 0 true
      s), ?_⟩,
    ⟨1, (
      let s : State := wbase
      let s : State := s.flag SYS.READY 0 true
      let s : State := { s with dev := .run }
      let s : State := s.flag SYS.READY 0 true
      s), ?_⟩,
    ⟨(
      let s : State := wbase
      let s : State := s.flag SYS.READY 0 false
      let s : State := s.flag SYS.READY 0 false
      let s : State := { s with dev := .run }
      s), ?_⟩,
    ⟨0, 0x10, (
      let s : State := wbase
      let s : State := s.flag SYS.READY 0 true
      let s : State := s.flag HSPI.CRC_EN 0 false
      let s : State := { s with dev := .run }
      let s : State := s.flag SYS.READY 0 true
      s), ?_⟩,
    ⟨0x10, (
      let s : State := wbase
      let s : State := s.flag SYS.READY 0 true
      let s : State := s.flag HSPI.CRC_EN 0 false
      let s : State := { s with dev := .run }
      let s : State := s.flag SYS.READY 0 true
      s), ?_⟩,
    ⟨0x10, (
      let s : State := wbase
      let s : State := s.flag SYS.READY 0 true
      let s : State := s.flag HSPI.CRC_EN 0 false
      let s : State := { s with dev := .run }
      let s : State := s.flag SYS.READY 0 true
      s), ?_⟩,
    ⟨0x10, ([1]), (
      let s : State := wbase
      let s : State := s.flag SYS.READY 0 true
      let s : State := s.flag HSPI.CRC_EN 0 true
      let s : State := { s with dev := .run }
      let s : State := s.flag SYS.READY 0 true
      let s : State := s.flag HSPI.CRC_EN 0 true
      s), ?_⟩,
    ⟨0x10, ([1]), (
      let s : State := wbase
      let s : State := s.flag SYS.READY 0 true
      let s : State := s.flag HSPI.CRC_EN 0 true
      let s : State := { s with dev := .run }
      let s : State := s.flag SYS.READY 0 true
      let s : State := s.flag HSPI.CRC_EN 0 true
      s), ?_⟩,
    ⟨0x10, ([1]), (
      let s : State := wbase
      let s : State := s.flag SYS.READY 0 true
      let s : State := s.flag HSPI.CRC_EN 0 true
      let s : State := { s with dev := .run }
      let s : State := s.flag SYS.READY 0 true
      let s : State := s.flag HSPI.CRC_EN 0 true
      s), ?_⟩,
    ⟨0x10, (List.replicate 65 1), (
      let s : State := wbase
      let s : State := s.flag SYS.READY 0 true
      let s : State := s.flag HSPI.CRC_EN 0 true
      let s : State := { s with dev := .run }
      let s : State := s.flag SYS.READY 0 true
      let s : State := s.flag HSPI.CRC_EN 0 true
      s), ?_⟩,
    ⟨1, (
      let s : State := wbase
      let s : State := s.flag SYS.READY 0 true
      let s : State := { s with dev := .run }
      let s : State := s.flag SYS.READY 0 true
      s), ?_⟩,
    ⟨(
      let s : State := wbase
      let s : State := s.flag SYS.READY 0 false
      let s : State := s.flag SYS.READY 0 false
      let s : State := { s with dev := .run }
      s), ?_⟩,
    ⟨0, 0x10, (
      let s : State := wbase
      let s : State := s.flag SYS.READY 0 true
      let s : State := s.flag HSPI.CRC_EN 0 false
      let s : State := { s with dev := .run }
      let s : State := s.flag SYS.READY 0 true
      s), ?_⟩,
    ⟨0x10, (
      let s : State := wbase
      let s : State := s.flag SYS.READY 0 true
      let s : State := s.flag HSPI.CRC_EN 0 false
      let s : State := { s with dev := .run }
      let s : State := s.flag SYS.READY 0 true
      s), ?_⟩,
    ⟨0x10, (
      let s : State := wbase
      let s : State := s.flag SYS.READY 0 true
      let s : State := s.flag HSPI.CRC_EN 0 false
      let s : State := { s with dev := .run }
      let s : State := s.flag SYS.READY 0 true
      s), ?_⟩,
    ⟨0x10, ([1]), (
      let s : State := wbase
      let s : State := s.flag SYS.READY 0 true
      let s : State := s.flag HSPI.CRC_EN 0 true
      let s : State := { s with dev := .run }
      let s : State := s.flag SYS.READY 0 true
      let s : State := s.flag HSPI.CRC_EN 0 true
      s), ?_⟩,
    ⟨0x10, ([1]), (
      let s : State := wbase
      let s : State := s.flag SYS.READY 0 true
      let s : State := s.flag HSPI.CRC_EN 0 true
      let s : State := { s with dev := .run }
      let s : State := s.flag SYS.READY 0 true
      let s : State := s.flag HSPI.CRC_EN 0 true
      s), ?_⟩,
    ⟨0x10, ([1]), (
      let s : State := wbase
      let s : State := s.flag SYS.READY 0 true
      let s : State := s.flag HSPI.CRC_EN 0 true
      let s : State := { s with dev := .run }
      let s : State := s.flag SYS.READY 0 true
      let s : State := s.flag HSPI.CRC_EN 0 true
      s), ?_⟩,
    ⟨0x10, (List.replicate 65 1), (
      let s : State := wbase
      let s : State := s.flag SYS.READY 0 true
      let s : State := s.flag HSPI.CRC_EN 0 true
      let s : State := { s with dev := .run }
      let s : State := s.flag SYS.READY 0 true
      let s : State := s.flag HSPI.CRC_EN 0 true
      s), ?_⟩,
    ⟨1, (
      let s : State := wbase
      let s : State := s.flag SYS.READY 0 true
      let s : State := { s with dev := .run }
      let s : State := s.flag SYS.READY 0 true
      s), ?_⟩,
    ⟨(
      let s : State := wbase
      let s : State := s.flag SYS.READY 0 false
      let s : State := s.flag SYS.READY 0 false
      let s : State := { s with dev := .run }
      s), ?_⟩,
    ⟨0, 0x10, (
      let s : State := wbase
      let s : State := s.flag SYS.READY 0 true
      let s : State := s.flag HSPI.CRC_EN 0 false
      let s : State := { s with dev := .run }
      let s : State := s.flag SYS.READY 0 true
      s), ?_⟩,
    ⟨(
      let s : State := wbase
      let s : State := s.flag HSPI.CRC_EN 0 false
      s), ?_⟩,
    ⟨(
      let s : State := wbase
      let s : State := s.flag HSPI.CRC_EN 0 true
      let s : State := s.flag HSPI.CRC_EN 0 true
      s), ?_⟩,
    ⟨2, 2, ([42, 0, 0, 1, 255, 255, 0, 0, 0, 0, 0, 0, 0, 0, 0, 0, 78, 177, 131, 254]), true, (
      let s : State := wbase
      let s : State := s.flag SYS.READY 0 true
      let s : State := s.flag HSPI.CRC_EN 0 false
      let s : State := { s with dev := .run }
      let s : State := s.flag SYS.READY 0 true
      s), ?_⟩,
    ⟨2, ([42, 0, 0, 1, 255, 255, 0, 0, 0, 0, 0, 0, 0, 0, 0, 0, 78, 177, 131, 254]), true, false, stOK, (
      let s : State := wbase
      let s : State := s.flag SYS.READY 0 true
      let s : State := s.flag HSPI.CRC_EN 0 false
      let s : State := { s with dev := .run }
      let s : State := s.flag SYS.READY 0 true
      s), ?_⟩,
    ⟨2, false, (
      let s : State := wbase
      let s : State := s.flag SYS.READY 0 true
      let s : State := s.flag HSPI.CRC_EN 0 true
      let s : State := { s with dev := .run }
      let s : State := s.flag SYS.READY 0 true
      let s : State := s.flag HSPI.CRC_EN 0 true
      s), ?_⟩,
    ⟨5, (
      let s : State := wbase
      let s : State := s.flag SYS.READY 0 true
      let s : State := { s with dev := .run }
      let s : State := s.flag SYS.READY 0 true
      s), ?_⟩,
    ⟨2, (
      let s : State := wbase
      let s : State := s.flag SYS.READY 0 false
      let s : State := s.flag SYS.READY 0 false
      let s : State := { s with dev := .run }
      s), ?_⟩,
    ⟨5, 5, (
      let s : State := wbase
      let s : State := s.flag SYS.READY 0 true
      let s : State := s.flag HSPI.PULL_CONFIRM 0 false
      let s : State := { s with smb := { s.smb with del := none } }
      let s : State := { s with dev := .run }
      let s : State := s.flag SYS.READY 0 true
      let s : State := s.setRing 5 { s.ring 5 with entries := [.ev ⟨1, 0, 9, 7, 0, 0, 0, 0, 0, 0⟩] }
      s), ?_⟩,
    ⟨5, 5, (⟨5, 0, 4, 0⟩), (
      let d : SmbDel := ⟨5, 0, 4, 0⟩
      let s : State := wbase
      let s : State := s.flag SYS.READY 0 true
      let s : State := s.flag HSPI.PULL_CONFIRM 0 false
      let s : State := { s with smb := { s.smb with del := some d } }
      let s : State := { s with dev := .run }
      let s : State := s.flag SYS.READY 0 true
      let s : State := s.setRing 5 { s.ring 5 with entries := [.ev ⟨1, 0, 9, 7, 0, 0, 0, 0, 0, 0⟩] }
      let s : State := { s with smb := { s.smb with del := some d } }
      s), ?_⟩,
    ⟨5, 5, (
      let s : State := wbase
      let s : State := s.flag SYS.READY 0 true
      let s : State := s.flag HSPI.PULL_CONFIRM 0 false
      let s : State := { s with dev := .run }
      let s : State := s.flag SYS.READY 0 true
      let s : State := s.setRing 5 { s.ring 5 with entries := [.ev ⟨1, 0, 9, 7, 0, 0, 0, 0, 0, 0⟩] }
      s), ?_⟩,
    ⟨5, 5, (
      let s : State := wbase
      let s : State := s.flag SYS.READY 0 true
      let s : State := s.flag HSPI.PULL_CONFIRM 0 true
      let s : State := { s with dev := .run }
      let s : State := s.flag SYS.READY 0 true
      let s : State := s.setRing 5 { s.ring 5 with entries := [.ev ⟨1, 0, 9, 7, 0, 0, 0, 0, 0, 0⟩] }
      let s : State := s.flag HSPI.PULL_CONFIRM 0 true
      s), ?_⟩,
    ⟨5, 5, (
      let s : State := wbase
      let s : State := s.flag SYS.READY 0 true
      let s : State := s.flag HSPI.PULL_CONFIRM 0 true
      let s : State := { s with dev := .run }
      let s : State := s.flag SYS.READY 0 true
      let s : State := s.setRing 5 { s.ring 5 with entries := [.ev ⟨1, 0, 9, 7, 0, 0, 0, 0, 0, 0⟩] }
      let s : State := s.flag HSPI.PULL_CONFIRM 0 true
      s), ?_⟩,
    ⟨5, 0x85, (
      let s : State := wbase
      let s : State := s.flag SYS.READY 0 true
      let s : State := s.flag HSPI.PULL_CONFIRM 0 true
      let s : State := { s with dev := .run }
      let s : State := s.flag SYS.READY 0 true
      let s : State := s.setRing 5 { s.ring 5 with entries := [.ev ⟨1, 0, 9, 7, 0, 0, 0, 0, 0, 0⟩] }
      let s : State := s.flag HSPI.PULL_CONFIRM 0 true
      let s : State := { s with spi := { s.spi with held := [5] } }
      s), ?_⟩,
    ⟨5, 5, (
      let s : State := wbase
      let s : State := s.flag SYS.READY 0 true
      let s : State := { s with dev := .run }
      let s : State := s.flag SYS.READY 0 true
      s), ?_⟩,
    ⟨2, (
      let s : State := wbase
      let s : State := s.flag SYS.READY 0 true
      let s : State := { s with dev := .run }
      let s : State := s.flag SYS.READY 0 true
      s), ?_⟩,
    ⟨5, (
      let s : State := wbase
      let s : State := s.flag SYS.READY 0 false
      let s : State := s.flag SYS.READY 0 false
      let s : State := { s with dev := .run }
      s), ?_⟩,
    ⟨0xFF, opStopAll, allPorts, wbase, ?_⟩,
    ⟨0x55, wbase, ?_⟩,
    ⟨0x55, wbase, ?_⟩,
    ⟨0x05, wbase, ?_⟩,
    ⟨(
      let s : State := wbase
      let s : State := { s with dev := .watch }
      let s : State := { s with dev := .watch }
      s), ?_⟩,
    ⟨wbase, ?_⟩⟩
  all_goals first | decide +kernel | (unfold AwaitsResponse; decide +kernel)

/-- States and operands that meet the hypotheses of SetPtrLoadsAlignedPointers, clause by clause. -/
theorem test_set_ptr_loads_aligned_pointers_witness :
    (∃ (l : List Byte) (s : State), s.dev ≠ .watch ∧ s.on SYS.READY 0 = true ∧ l.length = 3 ∧ leNat l % 4 = 0 ∧ leNat
      l < 2 ^ 24) ∧
    (∃ (l : List Byte) (s : State), s.dev ≠ .watch ∧ s.on SYS.READY 0 = true ∧ l.length = 3 ∧ leNat l % 4 ≠ 0) := by
  refine ⟨⟨([4, 0, 0]), (
      let s : State := wbase
      let s : State := s.flag SYS.READY 0 true
      s), ?_⟩,
    ⟨([1, 0, 0]), (
      let s : State := wbase
      let s : State := s.flag SYS.READY 0 true
      s), ?_⟩⟩
  all_goals first | decide +kernel | (unfold AwaitsResponse; decide +kernel)

/-- States and operands that meet the hypotheses of PhaseWritesLengthenOnePeriod, clause by clause. -/
theorem test_phase_writes_lengthen_one_period_witness :
    (∃ (p : Port) (v : BitVec 8) (s : State), s.running p = false ∧ (s.port p).pwm.phase = some v.toNat) ∧
    (∃ (p : Port) (v : BitVec 8) (s : State), s.running p = true ∧ (s.port p).pwm.phase = some v.toNat) := by
  refine ⟨⟨0, 0, (
      let p : Port := 0
      let v : BitVec 8 := 0
      let s : State := wbase
      let s : State := s.wr LOOP.HALT_CAUSE p 1
      let s : State := (s.modPort (p) fun z => { z with pwm := { z.pwm with phase := some v.toNat } })
      s), ?_⟩,
    ⟨0, 0, (
      let p : Port := 0
      let v : BitVec 8 := 0
      let s : State := wbase
      let s : State := s.wr LOOP.HALT_CAUSE p 0
      let s : State := (s.modPort (p) fun z => { z with pwm := { z.pwm with phase := some v.toNat } })
      s), ?_⟩⟩
  all_goals first | decide +kernel | (unfold AwaitsResponse; decide +kernel)

/-- States and operands that meet the hypotheses of StopLaneActsOnEveryCoveredPort, clause by clause. -/
theorem test_stop_lane_acts_on_every_covered_port_witness :
    (∃ (k : Packet) (l : List Port) (s : State), s.dev ≠ .warmReset ∧ coveredPorts k.tgt = some l ∧ k.tgt < 32) ∧
    (∃ (k : Packet) (s : State), s.dev ≠ .warmReset ∧ 32 ≤ k.tgt) ∧
    (∃ (k : Packet) (s : State), s.dev ≠ .warmReset ∧ s.serves = true ∧ s.room4 false 0 = true ∧ (coveredPorts
      k.tgt).isSome = true ∧ k.tgt < 32 ∧ AwaitsResponse k [] s) ∧
    (∃ (k : Packet) (s : State), s.dev ≠ .warmReset ∧ s.serves = true ∧ s.room4 false 0 = true ∧ 32 ≤ k.tgt ∧
      AwaitsResponse k [] s) ∧
    (∃ (s : State), s.dev = .warmReset) ∧
    (∃ (k : Packet) (l : List Port) (s : State), s.dev ≠ .warmReset ∧ coveredPorts k.tgt = some l ∧ 0x80 ≤ k.tgt ∧
      k.tgt ≤ 0x83) ∧
    (∃ (k : Packet) (s : State), s.dev ≠ .warmReset ∧ (k.tgt < 0x80 ∨ 0x83 < k.tgt)) ∧
    (∃ (k : Packet) (s : State), s.dev ≠ .warmReset ∧ s.serves = true ∧ s.room4 false 0 = true ∧ (coveredPorts
      k.tgt).isSome = true ∧ 0x80 ≤ k.tgt ∧ k.tgt ≤ 0x83 ∧ AwaitsResponse k [] s) ∧
    (∃ (k : Packet) (s : State), s.dev ≠ .warmReset ∧ s.serves = true ∧ s.room4 false 0 = true ∧ (k.tgt < 0x80 ∨ 0x83
      < k.tgt) ∧ AwaitsResponse k [] s) ∧
    (∃ (s : State), s.dev = .warmReset) ∧
    (∃ (k : Packet) (l : List Port) (s : State), s.dev ≠ .warmReset ∧ coveredPorts k.tgt = some l ∧ k.tgt = 0xFF) ∧
    (∃ (k : Packet) (s : State), s.dev ≠ .warmReset ∧ k.tgt ≠ 0xFF) ∧
    (∃ (k : Packet) (s : State), s.dev ≠ .warmReset ∧ s.serves = true ∧ s.room4 false 0 = true ∧ (coveredPorts
      k.tgt).isSome = true ∧ k.tgt = 0xFF ∧ AwaitsResponse k [] s) ∧
    (∃ (k : Packet) (s : State), s.dev ≠ .warmReset ∧ s.serves = true ∧ s.room4 false 0 = true ∧ k.tgt ≠ 0xFF ∧
      AwaitsResponse k [] s) ∧
    (∃ (s : State), s.dev = .warmReset) ∧
    (∃ (k : Packet) (l : List Port) (s : State), s.dev ≠ .warmReset ∧ coveredPorts k.tgt = some l ∧ k.ar % 2 ^ 13 ≤
      5000 ∧ bits k.ar 15 13 = 0 ∧ bits k.ar 23 16 ≤ 240 ∧ bits k.ar 31 24 = 0) ∧
    (∃ (k : Packet) (s : State), s.dev ≠ .warmReset ∧ coveredPorts k.tgt = none) ∧
    (∃ (k : Packet) (s : State), s.dev ≠ .warmReset ∧ (5000 < k.ar % 2 ^ 13 ∨ bits k.ar 15 13 ≠ 0 ∨ 240 < bits k.ar
      23 16 ∨ bits k.ar 31 24 ≠ 0)) ∧
    (∃ (k : Packet) (s : State), s.dev ≠ .warmReset ∧ s.serves = true ∧ s.room4 false 0 = true ∧ (coveredPorts
      k.tgt).isSome = true ∧ k.ar % 2 ^ 13 ≤ 5000 ∧ bits k.ar 15 13 = 0 ∧ bits k.ar 23 16 ≤ 240 ∧ bits k.ar 31 24 = 0
      ∧ AwaitsResponse k [] s) ∧
    (∃ (k : Packet) (s : State), s.dev ≠ .warmReset ∧ s.serves = true ∧ s.room4 false 0 = true ∧ coveredPorts k.tgt =
      none ∧ AwaitsResponse k [] s) ∧
    (∃ (s : State), s.dev = .warmReset) ∧
    (∃ (k : Packet) (l : List Port) (s : State), s.dev ≠ .warmReset ∧ coveredPorts k.tgt = some l) ∧
    (∃ (k : Packet) (s : State), s.dev ≠ .warmReset ∧ coveredPorts k.tgt = none) ∧
    (∃ (k : Packet) (s : State), s.dev ≠ .warmReset ∧ s.serves = true ∧ s.room4 false 0 = true ∧ (coveredPorts
      k.tgt).isSome = true ∧ AwaitsResponse k [] s) ∧
    (∃ (k : Packet) (s : State), s.dev ≠ .warmReset ∧ s.serves = true ∧ s.room4 false 0 = true ∧ coveredPorts k.tgt =
      none ∧ AwaitsResponse k [] s) ∧
    (∃ (s : State), s.dev = .warmReset) := by
  refine ⟨⟨(⟨1, 0, 0, 3, 0, [], none⟩), (let k : Packet := ⟨1, 0, 0, 3, 0, [], none⟩; (coveredPorts k.tgt).getD []), (
      let s : State := wbase
      let s : State := { s with dev := .run }
      s), ?_⟩,
    ⟨(⟨1, 0, 0, 0xEE, 0, [], none⟩), (
      let s : State := wbase
      let s : State := { s with dev := .run }
      s), ?_⟩,
    ⟨(⟨1, 0, 0, 3, 0, [], none⟩), (
      let s : State := wbase
      let s : State := { s with dev := .run }
      let s : State := s.flag SYS.READY 0 true
      let s : State := { s with dev := .run }
      let s : State := s.flag SYS.READY 0 true
      s), ?_⟩,
    ⟨(⟨1, 0, 0, 0xEE, 0, [], none⟩), (
      let s : State := wbase
      let s : State := { s with dev := .run }
      let s : State := s.flag SYS.READY 0 true
      let s : State := { s with dev := .run }
      let s : State := s.flag SYS.READY 0 true
      s), ?_⟩,
    ⟨(
      let s : State := wbase
      let s : State := { s with dev := .warmReset }
      let s : State := { s with dev := .warmReset }
      s), ?_⟩,
    ⟨(⟨1, 0, 0, 0x81, 0, [], none⟩), (let k : Packet := ⟨1, 0, 0, 0x81, 0, [], none⟩; (coveredPorts k.tgt).getD []), (
      let s : State := wbase
      let s : State := { s with dev := .run }
      s), ?_⟩,
    ⟨(⟨1, 0, 0, 0xEE, 0, [], none⟩), (
      let s : State := wbase
      let s : State := { s with dev := .run }
      s), ?_⟩,
    ⟨(⟨1, 0, 0, 0x81, 0, [], none⟩), (
      let s : State := wbase
      let s : State := { s with dev := .run }
      let s : State := s.flag SYS.READY 0 true
      let s : State := { s with dev := .run }
      let s : State := s.flag SYS.READY 0 true
      s), ?_⟩,
    ⟨(⟨1, 0, 0, 0xEE, 0, [], none⟩), (
      let s : State := wbase
      let s : State := { s with dev := .run }
      let s : State := s.flag SYS.READY 0 true
      let s : State := { s with dev := .run }
      let s : State := s.flag SYS.READY 0 true
      s), ?_⟩,
    ⟨(
      let s : State := wbase
      let s : State := { s with dev := .warmReset }
      let s : State := { s with dev := .warmReset }
      s), ?_⟩,
    ⟨(⟨1, 0, 0, 0xFF, 0, [], none⟩), (let k : Packet := ⟨1, 0, 0, 0xFF, 0, [], none⟩; (coveredPorts k.tgt).getD []), (
      let s : State := wbase
      let s : State := { s with dev := .run }
      s), ?_⟩,
    ⟨(⟨1, 0, 0, 0xEE, 0, [], none⟩), (
      let s : State := wbase
      let s : State := { s with dev := .run }
      s), ?_⟩,
    ⟨(⟨1, 0, 0, 0xFF, 0, [], none⟩), (
      let s : State := wbase
      let s : State := { s with dev := .run }
      let s : State := s.flag SYS.READY 0 true
      let s : State := { s with dev := .run }
      let s : State := s.flag SYS.READY 0 true
      s), ?_⟩,
    ⟨(⟨1, 0, 0, 0xEE, 0, [], none⟩), (
      let s : State := wbase
      let s : State := { s with dev := .run }
      let s : State := s.flag SYS.READY 0 true
      let s : State := { s with dev := .run }
      let s : State := s.flag SYS.READY 0 true
      s), ?_⟩,
    ⟨(
      let s : State := wbase
      let s : State := { s with dev := .warmReset }
      let s : State := { s with dev := .warmReset }
      s), ?_⟩,
    ⟨(⟨1, 0, 0, 0xFF, 0, [], none⟩), (let k : Packet := ⟨1, 0, 0, 0xFF, 0, [], none⟩; (coveredPorts k.tgt).getD []), (
      let s : State := wbase
      let s : State := { s with dev := .run }
      s), ?_⟩,
    ⟨(⟨1, 0, 0, 0xEE, 0, [], none⟩), (
      let s : State := wbase
      let s : State := { s with dev := .run }
      s), ?_⟩,
    ⟨(⟨1, 0, 0, 0xFF, 0xFF000000, [], none⟩), (
      let s : State := wbase
      let s : State := { s with dev := .run }
      s), ?_⟩,
    ⟨(⟨1, 0, 0, 0xFF, 0, [], none⟩), (
      let s : State := wbase
      let s : State := { s with dev := .run }
      let s : State := s.flag SYS.READY 0 true
      let s : State := { s with dev := .run }
      let s : State := s.flag SYS.READY 0 true
      s), ?_⟩,
    ⟨(⟨1, 0, 0, 0xEE, 0, [], none⟩), (
      let s : State := wbase
      let s : State := { s with dev := .run }
      let s : State := s.flag SYS.READY 0 true
      let s : State := { s with dev := .run }
      let s : State := s.flag SYS.READY 0 true
      s), ?_⟩,
    ⟨(
      let s : State := wbase
      let s : State := { s with dev := .warmReset }
      let s : State := { s with dev := .warmReset }
      s), ?_⟩,
    ⟨(⟨1, 0, 0, 0xFF, 0, [], none⟩), (let k : Packet := ⟨1, 0, 0, 0xFF, 0, [], none⟩; (coveredPorts k.tgt).getD []), (
      let s : State := wbase
      let s : State := { s with dev := .run }
      s), ?_⟩,
    ⟨(⟨1, 0, 0, 0xEE, 0, [], none⟩), (
      let s : State := wbase
      let s : State := { s with dev := .run }
      s), ?_⟩,
    ⟨(⟨1, 0, 0, 0xFF, 0, [], none⟩), (
      let s : State := wbase
      let s : State := { s with dev := .run }
      let s : State := s.flag SYS.READY 0 true
      let s : State := { s with dev := .run }
      let s : State := s.flag SYS.READY 0 true
      s), ?_⟩,
    ⟨(⟨1, 0, 0, 0xEE, 0, [], none⟩), (
      let s : State := wbase
      let s : State := { s with dev := .run }
      let s : State := s.flag SYS.READY 0 true
      let s : State := { s with dev := .run }
      let s : State := s.flag SYS.READY 0 true
      s), ?_⟩,
    ⟨(
      let s : State := wbase
      let s : State := { s with dev := .warmReset }
      let s : State := { s with dev := .warmReset }
      s), ?_⟩⟩
  all_goals first | decide +kernel | (unfold AwaitsResponse; decide +kernel)

/-- States and operands that meet the hypotheses of SwapsAreAnswered, clause by clause. -/
theorem test_swaps_are_answered_witness :
    (∃ (p : Port) (s : State), s.listens p = true ∧ s.unread p .prSwap = true ∧ (s.port p).pe.epr = .none ∧ (s.port
      p).swap.step = .none ∧ s.on SYS.RESTRICTED 0 = false ∧ s.isSrc p = true ∧ s.pol p 0 = true ∧ (s.prof p).snk =
      true ∧ s.on PD.EPR_MODE p = false) ∧
    (∃ (p : Port) (s : State), s.listens p = true ∧ s.unread p .prSwap = true ∧ (s.port p).pe.epr = .none ∧ (s.port
      p).swap.step = .none ∧ s.on SYS.RESTRICTED 0 = false ∧ s.isSrc p = true ∧ (s.pol p 0 = false ∨ (s.prof p).snk =
      false ∨ s.on PD.EPR_MODE p = true)) ∧
    (∃ (p : Port) (s : State), s.listens p = true ∧ s.unread p .prSwap = true ∧ (s.port p).pe.epr = .none ∧ (s.port
      p).swap.step = .none ∧ s.on SYS.RESTRICTED 0 = false ∧ s.isSrc p = false ∧ s.pol p 0 = true ∧ s.on PD.EPR_MODE
      p = false ∧ s.rd FEED.SEL 0 ≠ 0 ∧ s.on BUDGET.HOLD 0 = false) ∧
    (∃ (p : Port) (s : State), s.listens p = true ∧ s.unread p .prSwap = true ∧ (s.port p).pe.epr = .none ∧ (s.port
      p).swap.step = .none ∧ s.on SYS.RESTRICTED 0 = false ∧ s.isSrc p = false ∧ s.on BUDGET.HOLD 0 = true) ∧
    (∃ (p : Port) (s : State), s.listens p = true ∧ s.unread p .prSwap = true ∧ (s.port p).pe.epr = .none ∧ (s.port
      p).swap.step = .none ∧ s.on SYS.RESTRICTED 0 = false ∧ s.isSrc p = false ∧ (s.pol p 0 = false ∨ s.on
      PD.EPR_MODE p = true ∨ s.rd FEED.SEL 0 = 0) ∧ s.on BUDGET.HOLD 0 = false) ∧
    (∃ (p : Port) (s : State), s.listens p = true ∧ s.unread p .drSwap = true ∧ (s.port p).pe.epr = .none ∧ (s.port
      p).swap.step = .none ∧ s.on SYS.RESTRICTED 0 = false ∧ s.pol p 2 = true) ∧
    (∃ (p : Port) (s : State), s.listens p = true ∧ s.unread p .drSwap = true ∧ (s.port p).pe.epr = .none ∧ (s.port
      p).swap.step = .none ∧ s.on SYS.RESTRICTED 0 = false ∧ s.pol p 2 = false) ∧
    (∃ (p : Port) (s : State), s.listens p = true ∧ s.unread p .vconnSwap = true ∧ (s.port p).pe.epr = .none ∧
      (s.port p).swap.step = .none ∧ s.on SYS.RESTRICTED 0 = false ∧ s.pol p 3 = true ∧ s.on PD.VCONN_SRC p = true ∧
      s.on PD.EPR_MODE p = false) ∧
    (∃ (p : Port) (s : State), s.listens p = true ∧ s.unread p .vconnSwap = true ∧ (s.port p).pe.epr = .none ∧
      (s.port p).swap.step = .none ∧ s.on SYS.RESTRICTED 0 = false ∧ s.pol p 3 = true ∧ s.on PD.VCONN_SRC p = true ∧
      s.on PD.EPR_MODE p = true) ∧
    (∃ (p : Port) (s : State), s.listens p = true ∧ s.unread p .vconnSwap = true ∧ (s.port p).pe.epr = .none ∧
      (s.port p).swap.step = .none ∧ s.on SYS.RESTRICTED 0 = false ∧ s.pol p 3 = true ∧ s.on PD.VCONN_SRC p = false ∧
      s.on CC.VCONN_ALLOW p = true ∧ (s.port p).cc.ra = true ∧ s.on CC.VCONN_FORCE_OFF p = false ∧ (s.port p).cc.rev
      = false ∧ (s.port p).cc.ocpTrips < 2 ∧ s.supply.vconnInOut = false ∧ s.vconnSum + 300 ≤ s.act BUDGET.POOL_MA 0) ∧
    (∃ (p : Port) (s : State), s.listens p = true ∧ s.unread p .vconnSwap = true ∧ (s.port p).pe.epr = .none ∧
      (s.port p).swap.step = .none ∧ s.on SYS.RESTRICTED 0 = false ∧ s.pol p 3 = false) ∧
    (∃ (p : Port) (s : State), s.listens p = true ∧ s.unread p .prSwap = true ∧ (s.port p).pe.epr = .none ∧ (s.port
      p).swap.step = .none ∧ s.on SYS.RESTRICTED 0 = true) ∧
    (∃ (p : Port) (s : State), s.listens p = true ∧ s.unread p .drSwap = true ∧ (s.port p).pe.epr = .none ∧ (s.port
      p).swap.step = .none ∧ s.on SYS.RESTRICTED 0 = true) ∧
    (∃ (p : Port) (s : State), s.listens p = true ∧ s.unread p .vconnSwap = true ∧ (s.port p).pe.epr = .none ∧
      (s.port p).swap.step = .none ∧ s.on SYS.RESTRICTED 0 = true) ∧
    (∃ (p : Port) (s : State), s.listens p = true ∧ s.unread p .prSwap = true ∧ (s.port p).pe.epr ≠ .none) ∧
    (∃ (p : Port) (s : State), s.listens p = true ∧ s.unread p .drSwap = true ∧ (s.port p).pe.epr ≠ .none) ∧
    (∃ (p : Port) (s : State), s.listens p = true ∧ s.unread p .vconnSwap = true ∧ (s.port p).pe.epr ≠ .none) ∧
    (∃ (p : Port) (s : State), (s.port p).swap.step = .vconnOff ∧ s.on CC.ATTACHED p = true ∧ s.on PD.PD_EN p = true
      ∧ s.on PD.SHADOW p = false ∧ s.carriedByTwill p = true) := by
  refine ⟨⟨0, (
      let p : Port := 0
      let s : State := wbase
      let s : State := s.flag CC.ATTACHED p true
      let s : State := s.flag PD.PD_EN p true
      let s : State := s.flag PD.SHADOW p false
      let s : State := (s.modPort p fun z => { z with phy := PhySt.reset, pe := { z.pe with trans := none }, swap := { z.swap with step := .none } })
      let s : State := { s with pair := { s.pair with unacked := [] } }
      let s : State := (s.modPort (p) fun z => { z with pe := { z.pe with epr := .none } })
      let s : State := (s.modPort (p) fun z => { z with swap := { z.swap with step := .none } })
      let s : State := s.flag SYS.RESTRICTED 0 false
      let s : State := s.flag CC.ATTACHED p true
      let s : State := s.wr CC.PWR_ROLE p 1
      let s : State := s.flag PD.EPR_MODE p false
      let s : State := (s.modPort p fun z => { z with profile := { z.profile with snk := true }, nextProfile := none })
      let s : State := { s with role := { s.role with pol := s.role.pol.set (p : Port).val (BitVec.ofNat _ 1) } }
      s), ?_⟩,
    ⟨0, (
      let p : Port := 0
      let s : State := wbase
      let s : State := s.flag CC.ATTACHED p true
      let s : State := s.flag PD.PD_EN p true
      let s : State := s.flag PD.SHADOW p false
      let s : State := (s.modPort p fun z => { z with phy := PhySt.reset, pe := { z.pe with trans := none }, swap := { z.swap with step := .none } })
      let s : State := { s with pair := { s.pair with unacked := [] } }
      let s : State := (s.modPort (p) fun z => { z with pe := { z.pe with epr := .none } })
      let s : State := (s.modPort (p) fun z => { z with swap := { z.swap with step := .none } })
      let s : State := s.flag SYS.RESTRICTED 0 false
      let s : State := s.flag CC.ATTACHED p true
      let s : State := s.wr CC.PWR_ROLE p 1
      let s : State := { s with role := { s.role with pol := s.role.pol.set (p : Port).val (BitVec.ofNat _ 0) } }
      s), ?_⟩,
    ⟨0, (
      let p : Port := 0
      let s : State := wbase
      let s : State := s.flag CC.ATTACHED p true
      let s : State := s.flag PD.PD_EN p true
      let s : State := s.flag PD.SHADOW p false
      let s : State := (s.modPort p fun z => { z with phy := PhySt.reset, pe := { z.pe with trans := none }, swap := { z.swap with step := .none } })
      let s : State := { s with pair := { s.pair with unacked := [] } }
      let s : State := (s.modPort (p) fun z => { z with pe := { z.pe with epr := .none } })
      let s : State := (s.modPort (p) fun z => { z with swap := { z.swap with step := .none } })
      let s : State := s.flag SYS.RESTRICTED 0 false
      let s : State := s.flag PD.EPR_MODE p false
      let s : State := s.flag BUDGET.HOLD 0 false
      let s : State := { s with role := { s.role with pol := s.role.pol.set (p : Port).val (BitVec.ofNat _ 1) } }
      let s : State := s.wr FEED.SEL 0 1
      s), ?_⟩,
    ⟨0, (
      let p : Port := 0
      let s : State := wbase
      let s : State := s.flag CC.ATTACHED p true
      let s : State := s.flag PD.PD_EN p true
      let s : State := s.flag PD.SHADOW p false
      let s : State := (s.modPort p fun z => { z with phy := PhySt.reset, pe := { z.pe with trans := none }, swap := { z.swap with step := .none } })
      let s : State := { s with pair := { s.pair with unacked := [] } }
      let s : State := (s.modPort (p) fun z => { z with pe := { z.pe with epr := .none } })
      let s : State := (s.modPort (p) fun z => { z with swap := { z.swap with step := .none } })
      let s : State := s.flag SYS.RESTRICTED 0 false
      let s : State := s.flag BUDGET.HOLD 0 true
      s), ?_⟩,
    ⟨0, (
      let p : Port := 0
      let s : State := wbase
      let s : State := s.flag CC.ATTACHED p true
      let s : State := s.flag PD.PD_EN p true
      let s : State := s.flag PD.SHADOW p false
      let s : State := (s.modPort p fun z => { z with phy := PhySt.reset, pe := { z.pe with trans := none }, swap := { z.swap with step := .none } })
      let s : State := { s with pair := { s.pair with unacked := [] } }
      let s : State := (s.modPort (p) fun z => { z with pe := { z.pe with epr := .none } })
      let s : State := (s.modPort (p) fun z => { z with swap := { z.swap with step := .none } })
      let s : State := s.flag SYS.RESTRICTED 0 false
      let s : State := s.flag BUDGET.HOLD 0 false
      let s : State := { s with role := { s.role with pol := s.role.pol.set (p : Port).val (BitVec.ofNat _ 0) } }
      s), ?_⟩,
    ⟨0, (
      let p : Port := 0
      let s : State := wbase
      let s : State := s.flag CC.ATTACHED p true
      let s : State := s.flag PD.PD_EN p true
      let s : State := s.flag PD.SHADOW p false
      let s : State := (s.modPort p fun z => { z with phy := PhySt.reset, pe := { z.pe with trans := none }, swap := { z.swap with step := .none } })
      let s : State := { s with pair := { s.pair with unacked := [] } }
      let s : State := (s.modPort (p) fun z => { z with pe := { z.pe with epr := .none } })
      let s : State := (s.modPort (p) fun z => { z with swap := { z.swap with step := .none } })
      let s : State := s.flag SYS.RESTRICTED 0 false
      let s : State := { s with role := { s.role with pol := s.role.pol.set (p : Port).val (BitVec.ofNat _ 4) } }
      s), ?_⟩,
    ⟨0, (
      let p : Port := 0
      let s : State := wbase
      let s : State := s.flag CC.ATTACHED p true
      let s : State := s.flag PD.PD_EN p true
      let s : State := s.flag PD.SHADOW p false
      let s : State := (s.modPort p fun z => { z with phy := PhySt.reset, pe := { z.pe with trans := none }, swap := { z.swap with step := .none } })
      let s : State := { s with pair := { s.pair with unacked := [] } }
      let s : State := (s.modPort (p) fun z => { z with pe := { z.pe with epr := .none } })
      let s : State := (s.modPort (p) fun z => { z with swap := { z.swap with step := .none } })
      let s : State := s.flag SYS.RESTRICTED 0 false
      let s : State := { s with role := { s.role with pol := s.role.pol.set (p : Port).val (BitVec.ofNat _ 0) } }
      s), ?_⟩,
    ⟨0, (
      let p : Port := 0
      let s : State := wbase
      let s : State := s.flag CC.ATTACHED p true
      let s : State := s.flag PD.PD_EN p true
      let s : State := s.flag PD.SHADOW p false
      let s : State := (s.modPort p fun z => { z with phy := PhySt.reset, pe := { z.pe with trans := none }, swap := { z.swap with step := .none } })
      let s : State := { s with pair := { s.pair with unacked := [] } }
      let s : State := (s.modPort (p) fun z => { z with pe := { z.pe with epr := .none } })
      let s : State := (s.modPort (p) fun z => { z with swap := { z.swap with step := .none } })
      let s : State := s.flag SYS.RESTRICTED 0 false
      let s : State := s.flag PD.VCONN_SRC p true
      let s : State := s.flag PD.EPR_MODE p false
      let s : State := { s with role := { s.role with pol := s.role.pol.set (p : Port).val (BitVec.ofNat _ 8) } }
      s), ?_⟩,
    ⟨0, (
      let p : Port := 0
      let s : State := wbase
      let s : State := s.flag CC.ATTACHED p true
      let s : State := s.flag PD.PD_EN p true
      let s : State := s.flag PD.SHADOW p false
      let s : State := (s.modPort p fun z => { z with phy := PhySt.reset, pe := { z.pe with trans := none }, swap := { z.swap with step := .none } })
      let s : State := { s with pair := { s.pair with unacked := [] } }
      let s : State := (s.modPort (p) fun z => { z with pe := { z.pe with epr := .none } })
      let s : State := (s.modPort (p) fun z => { z with swap := { z.swap with step := .none } })
      let s : State := s.flag SYS.RESTRICTED 0 false
      let s : State := s.flag PD.VCONN_SRC p true
      let s : State := s.flag PD.EPR_MODE p true
      let s : State := { s with role := { s.role with pol := s.role.pol.set (p : Port).val (BitVec.ofNat _ 8) } }
      s), ?_⟩,
    ⟨0, (
      let p : Port := 0
      let s : State := wbase
      let s : State := s.flag CC.ATTACHED p true
      let s : State := s.flag PD.PD_EN p true
      let s : State := s.flag PD.SHADOW p false
      let s : State := (s.modPort p fun z => { z with phy := PhySt.reset, pe := { z.pe with trans := none }, swap := { z.swap with step := .none } })
      let s : State := { s with pair := { s.pair with unacked := [] } }
      let s : State := (s.modPort (p) fun z => { z with pe := { z.pe with epr := .none } })
      let s : State := (s.modPort (p) fun z => { z with swap := { z.swap with step := .none } })
      let s : State := s.flag SYS.RESTRICTED 0 false
      let s : State := s.flag PD.VCONN_SRC p false
      let s : State := s.flag CC.VCONN_ALLOW p true
      let s : State := (s.modPort (p) fun z => { z with cc := { z.cc with ra := true } })
      let s : State := s.flag CC.VCONN_FORCE_OFF p false
      let s : State := (s.modPort (p) fun z => { z with cc := { z.cc with rev := false } })
      let s : State := { s with supply := { s.supply with vconnInOut := false } }
      let s : State := { s with role := { s.role with pol := s.role.pol.set (p : Port).val (BitVec.ofNat _ 8) } }
      let s : State := s.flag CC.VCONN_ALLOW p true
      let s : State := s.flag CC.VCONN_FORCE_OFF p false
      let s : State := (s.modPort p fun z => { z with cc := { z.cc with ra := true, rev := false, ocpTrips := 0 } })
      s), ?_⟩,
    ⟨0, (
      let p : Port := 0
      let s : State := wbase
      let s : State := s.flag CC.ATTACHED p true
      let s : State := s.flag PD.PD_EN p true
      let s : State := s.flag PD.SHADOW p false
      let s : State := (s.modPort p fun z => { z with phy := PhySt.reset, pe := { z.pe with trans := none }, swap := { z.swap with step := .none } })
      let s : State := { s with pair := { s.pair with unacked := [] } }
      let s : State := (s.modPort (p) fun z => { z with pe := { z.pe with epr := .none } })
      let s : State := (s.modPort (p) fun z => { z with swap := { z.swap with step := .none } })
      let s : State := s.flag SYS.RESTRICTED 0 false
      let s : State := { s with role := { s.role with pol := s.role.pol.set (p : Port).val (BitVec.ofNat _ 0) } }
      s), ?_⟩,
    ⟨0, (
      let p : Port := 0
      let s : State := wbase
      let s : State := s.flag CC.ATTACHED p true
      let s : State := s.flag PD.PD_EN p true
      let s : State := s.flag PD.SHADOW p false
      let s : State := (s.modPort p fun z => { z with phy := PhySt.reset, pe := { z.pe with trans := none }, swap := { z.swap with step := .none } })
      let s : State := { s with pair := { s.pair with unacked := [] } }
      let s : State := (s.modPort (p) fun z => { z with pe := { z.pe with epr := .none } })
      let s : State := (s.modPort (p) fun z => { z with swap := { z.swap with step := .none } })
      let s : State := s.flag SYS.RESTRICTED 0 true
      s), ?_⟩,
    ⟨0, (
      let p : Port := 0
      let s : State := wbase
      let s : State := s.flag CC.ATTACHED p true
      let s : State := s.flag PD.PD_EN p true
      let s : State := s.flag PD.SHADOW p false
      let s : State := (s.modPort p fun z => { z with phy := PhySt.reset, pe := { z.pe with trans := none }, swap := { z.swap with step := .none } })
      let s : State := { s with pair := { s.pair with unacked := [] } }
      let s : State := (s.modPort (p) fun z => { z with pe := { z.pe with epr := .none } })
      let s : State := (s.modPort (p) fun z => { z with swap := { z.swap with step := .none } })
      let s : State := s.flag SYS.RESTRICTED 0 true
      s), ?_⟩,
    ⟨0, (
      let p : Port := 0
      let s : State := wbase
      let s : State := s.flag CC.ATTACHED p true
      let s : State := s.flag PD.PD_EN p true
      let s : State := s.flag PD.SHADOW p false
      let s : State := (s.modPort p fun z => { z with phy := PhySt.reset, pe := { z.pe with trans := none }, swap := { z.swap with step := .none } })
      let s : State := { s with pair := { s.pair with unacked := [] } }
      let s : State := (s.modPort (p) fun z => { z with pe := { z.pe with epr := .none } })
      let s : State := (s.modPort (p) fun z => { z with swap := { z.swap with step := .none } })
      let s : State := s.flag SYS.RESTRICTED 0 true
      s), ?_⟩,
    ⟨0, (
      let p : Port := 0
      let s : State := wbase
      let s : State := s.flag CC.ATTACHED p true
      let s : State := s.flag PD.PD_EN p true
      let s : State := s.flag PD.SHADOW p false
      let s : State := (s.modPort p fun z => { z with phy := PhySt.reset, pe := { z.pe with trans := none }, swap := { z.swap with step := .none } })
      let s : State := { s with pair := { s.pair with unacked := [] } }
      let s : State := (s.modPort p fun z => { z with pe := { z.pe with epr := .acked } })
      s), ?_⟩,
    ⟨0, (
      let p : Port := 0
      let s : State := wbase
      let s : State := s.flag CC.ATTACHED p true
      let s : State := s.flag PD.PD_EN p true
      let s : State := s.flag PD.SHADOW p false
      let s : State := (s.modPort p fun z => { z with phy := PhySt.reset, pe := { z.pe with trans := none }, swap := { z.swap with step := .none } })
      let s : State := { s with pair := { s.pair with unacked := [] } }
      let s : State := (s.modPort p fun z => { z with pe := { z.pe with epr := .acked } })
      s), ?_⟩,
    ⟨0, (
      let p : Port := 0
      let s : State := wbase
      let s : State := s.flag CC.ATTACHED p true
      let s : State := s.flag PD.PD_EN p true
      let s : State := s.flag PD.SHADOW p false
      let s : State := (s.modPort p fun z => { z with phy := PhySt.reset, pe := { z.pe with trans := none }, swap := { z.swap with step := .none } })
      let s : State := { s with pair := { s.pair with unacked := [] } }
      let s : State := (s.modPort p fun z => { z with pe := { z.pe with epr := .acked } })
      s), ?_⟩,
    ⟨0, (
      let p : Port := 0
      let s : State := wbase
      let s : State := (s.modPort (p) fun z => { z with swap := { z.swap with step := .vconnOff } })
      let s : State := s.flag CC.ATTACHED p true
      let s : State := s.flag PD.PD_EN p true
      let s : State := s.flag PD.SHADOW p false
      s), ?_⟩⟩
  all_goals first | decide +kernel | (unfold AwaitsResponse; decide +kernel)

/-- States and operands that meet the hypotheses of PowerSwapsChangeTheRoles, clause by clause. -/
theorem test_power_swaps_change_the_roles_witness :
    (∃ (p : Port) (s : State), s.ownsPorts = true ∧ s.idlePd p = true ∧ s.explicit p = true ∧ s.on SYS.RESTRICTED 0 =
      false ∧ s.isSrc p = true ∧ s.pol p 1 = true ∧ (s.port p).pe.firstDone = true ∧ (s.port p).swap.initDone = false
      ∧ (s.port p).swap.partnerDrp = true ∧ s.on PD.EPR_MODE p = false) ∧
    (∃ (p : Port) (s : State), s.ownsPorts = true ∧ s.idlePd p = true ∧ s.explicit p = true ∧ s.on SYS.RESTRICTED 0 =
      false ∧ s.isSrc p = false ∧ s.nextReturn = some p) ∧
    (∃ (p : Port) (k : SwapKind) (w : SwapWant) (n : Nat) (l : List Wanted) (s : State), (s.port p).swap.want = ⟨k,
      w, n⟩ :: l ∧ w ≠ .init ∧ n < 3 ∧ s.idlePd p = true ∧ s.explicit p = true) ∧
    (∃ (p : Port) (s : State), s.isSrc p = true ∧ s.prAccepted p = true) ∧
    (∃ (p : Port) (s : State), (s.port p).swap.step = .srcOff) ∧
    (∃ (p : Port) (c : Nat) (v : Nat) (s : State), (s.port p).swap.step = .srcPsRdy ∧ 4750 < v ∧ s.takes p .psRdy =
      true ∧ s.mayClose p = true ∧ s.vcpReady = true ∧ v ≤ c + 500 ∧ c ≤ v + 500 ∧ s.on GUARD.REV_CHK_DONE p = true) ∧
    (∃ (p : Port) (c : Nat) (v : Nat) (s : State), (s.port p).swap.step = .srcPsRdy ∧ 4750 < v ∧ s.takes p .psRdy =
      true ∧ (s.mayClose p = false ∨ c + 500 < v ∨ v + 500 < c) ∧ s.gst p ≠ gRetired ∧ s.tc p ≠ tcOvpHold) ∧
    (∃ (p : Port) (s : State), s.isSnk p = true ∧ s.prAccepted p = true) ∧
    (∃ (p : Port) (s : State), (s.port p).swap.step = .snkIdle ∧ s.takes p .psRdy = true ∧ s.mayClose p = true ∧
      s.vcpReady = true) ∧
    (∃ (p : Port) (s : State), ((s.port p).swap.step = .srcPsRdy ∨ (s.port p).swap.step = .frsSrcPsRdy) ∧ s.gst p ≠
      gRetired ∧ s.tc p ≠ tcOvpHold) ∧
    (∃ (p : Port) (s : State), ((s.port p).swap.step = .snkIdle ∨ (s.port p).swap.step = .frsSinkAcc) ∧ s.gst p ≠
      gRetired ∧ s.tc p ≠ tcOvpHold) ∧
    (∃ (p : Port) (s : State), (s.port p).swap.step = .snkDone) := by
  refine ⟨⟨0, (
      let p : Port := 0
      let s : State := wbase
      let s : State := s.wr PD.CONTRACT p 2
      let s : State := s.flag SYS.RESTRICTED 0 false
      let s : State := s.flag CC.ATTACHED p true
      let s : State := s.wr CC.PWR_ROLE p 1
      let s : State := (s.modPort (p) fun z => { z with pe := { z.pe with firstDone := true } })
      let s : State := (s.modPort (p) fun z => { z with swap := { z.swap with initDone := false } })
      let s : State := (s.modPort (p) fun z => { z with swap := { z.swap with partnerDrp := true } })
      let s : State := s.flag PD.EPR_MODE p false
      let s : State := { s with role := { s.role with pol := s.role.pol.set (p : Port).val (BitVec.ofNat _ 63) } }
      s), ?_⟩,
    ⟨0, (
      let p : Port := 0
      let s : State := wbase
      let s : State := s.wr PD.CONTRACT p 2
      let s : State := s.flag SYS.RESTRICTED 0 false
      let s : State := { s with role := { s.role with returnEn := true }, island := none, returnTick := none }
      let s : State := (s.modPort p fun z => { z with swap := { z.swap with islanded := true, want := [], retryAt := 0 } })
      let s : State := s.flag CC.ATTACHED p true
      let s : State := s.wr CC.PWR_ROLE p 2
      let s : State := s.flag PD.EPR_MODE p false
      let s : State := (allPorts.filter (· != p)).foldl (fun (u : State) q => u.modPort q fun z => { z with swap := { z.swap with islanded := false } }) s
      s), ?_⟩,
    ⟨0, .dr, .ret, 0, ([]), (
      let p : Port := 0
      let k : SwapKind := .dr
      let w : SwapWant := .ret
      let n : Nat := 0
      let l : List Wanted := []
      let s : State := wbase
      let s : State := (s.modPort (p) fun z => { z with swap := { z.swap with want := ⟨k, w, n⟩ :: l } })
      let s : State := s.wr PD.CONTRACT p 2
      s), ?_⟩,
    ⟨0, (
      let p : Port := 0
      let s : State := wbase
      let s : State := s.flag CC.ATTACHED p true
      let s : State := s.wr CC.PWR_ROLE p 1
      let s : State := (s.modPort p fun z => { z with swap := { z.swap with kind := .pr, step := .accepting } })
      s), ?_⟩,
    ⟨0, (
      let p : Port := 0
      let s : State := wbase
      let s : State := (s.modPort (p) fun z => { z with swap := { z.swap with step := .srcOff } })
      s), ?_⟩,
    ⟨0, 5000, 5000, (
      let p : Port := 0
      let s : State := wbase
      let s : State := (s.modPort (p) fun z => { z with swap := { z.swap with step := .srcPsRdy } })
      let s : State := s.flag CC.ATTACHED p true
      let s : State := s.flag PD.PD_EN p true
      let s : State := s.flag GUARD.REV_CHK_DONE p true
      let s : State := s.wr GUARD.STATE p gOff
      s), ?_⟩,
    ⟨0, 9000, 5000, (
      let p : Port := 0
      let s : State := wbase
      let s : State := (s.modPort (p) fun z => { z with swap := { z.swap with step := .srcPsRdy } })
      let s : State := s.flag CC.ATTACHED p true
      let s : State := s.flag PD.PD_EN p true
      let s : State := s.wr GUARD.STATE p gOff
      s), ?_⟩,
    ⟨0, (
      let p : Port := 0
      let s : State := wbase
      let s : State := s.flag CC.ATTACHED p true
      let s : State := s.wr CC.PWR_ROLE p 2
      let s : State := (s.modPort p fun z => { z with swap := { z.swap with kind := .pr, step := .accepting } })
      s), ?_⟩,
    ⟨0, (
      let p : Port := 0
      let s : State := wbase
      let s : State := (s.modPort (p) fun z => { z with swap := { z.swap with step := .snkIdle } })
      let s : State := s.flag CC.ATTACHED p true
      let s : State := s.flag PD.PD_EN p true
      let s : State := s.wr GUARD.STATE p gOff
      s), ?_⟩,
    ⟨0, (
      let p : Port := 0
      let s : State := wbase
      let s : State := (s.modPort (p) fun z => { z with swap := { z.swap with step := .srcPsRdy } })
      s), ?_⟩,
    ⟨0, (
      let p : Port := 0
      let s : State := wbase
      let s : State := (s.modPort (p) fun z => { z with swap := { z.swap with step := .snkIdle } })
      s), ?_⟩,
    ⟨0, (
      let p : Port := 0
      let s : State := wbase
      let s : State := (s.modPort (p) fun z => { z with swap := { z.swap with step := .snkDone } })
      s), ?_⟩⟩
  all_goals first | decide +kernel | (unfold AwaitsResponse; decide +kernel)

/-- States and operands that meet the hypotheses of BusLossIslandsThePorts, clause by clause. -/
theorem test_bus_loss_islands_the_ports_witness :
    (∃ (p : Port) (s : State), s.frsDetecting p = true ∧ ((s.port p).swap.step = .none ∨ (s.port p).swap.step =
      .requested)) ∧
    (∃ (p : Port) (s : State), s.frsDetecting p = false) ∧
    (∃ (p : Port) (s : State), (s.port p).swap.step = .frsSrc ∧ s.takes p .frSwap = true) ∧
    (∃ (p : Port) (s : State), s.listens p = true ∧ s.unread p .frSwap = true ∧ (s.port p).swap.step ≠ .frsSrc) ∧
    (∃ (p : Port) (s : State), (s.port p).swap.step = .frsSrc) ∧
    (∃ (p : Port) (s : State), (s.port p).swap.step = .frsSrc ∧ s.on CC.ATTACHED p = true ∧ s.on PD.PD_EN p = true ∧
      s.on PD.SHADOW p = false ∧ s.carriedByTwill p = true) ∧
    (∃ (s : State), s.on FEED.ARMED 0 = true ∧ s.role.bankFrs = true) ∧
    (∃ (p : Port) (s : State), s.on FEED.ARMED 0 = true ∧ s.role.bankFrs = true ∧ s.eligible p = true) ∧
    (∃ (p : Port) (s : State), s.on FEED.ARMED 0 = true ∧ s.role.bankFrs = true ∧ s.eligible p = false ∧ s.rd
      PD.PD_STATE p ≠ pdSwap ∧ s.isSrc p = true) ∧
    (∃ (s : State), (s.on FEED.ARMED 0 = false ∨ s.role.bankFrs = false)) ∧
    (∃ (s : State), s.mayArm = true) ∧
    (∃ (x : Nat) (s : State), s.island = some x ∧ s.rd FEED.SEL 0 ≠ 0 ∧ s.busOk = true) ∧
    (∃ (p : Port) (s : State), s.nextReturn = some p) := by
  refine ⟨⟨0, (
      let p : Port := 0
      let s : State := wbase
      let s : State := (s.modPort (p) fun z => { z with swap := { z.swap with step := .none } })
      let s : State := s.flag PD.FRS_DETECT_EN p true
      let s : State := { s with role := { s.role with pol := s.role.pol.set (p : Port).val (BitVec.ofNat _ 63) } }
      let s : State := s.wr PD.CONTRACT p 2
      let s : State := s.wr PD.NEG_REV p 2
      let s : State := s.flag CC.ATTACHED p true
      let s : State := s.wr CC.PWR_ROLE p 2
      let s : State := s.flag PD.EPR_MODE p false
      let s : State := s.flag FEED.BUS_LOSS 0 false
      let s : State := s.flag FEED.BUS_OV 0 false
      s), ?_⟩,
    ⟨0, wbase, ?_⟩,
    ⟨0, (
      let p : Port := 0
      let s : State := wbase
      let s : State := (s.modPort (p) fun z => { z with swap := { z.swap with step := .frsSrc } })
      let s : State := s.flag CC.ATTACHED p true
      let s : State := s.flag PD.PD_EN p true
      s), ?_⟩,
    ⟨0, (
      let p : Port := 0
      let s : State := wbase
      let s : State := s.flag CC.ATTACHED p true
      let s : State := s.flag PD.PD_EN p true
      let s : State := s.flag PD.SHADOW p false
      let s : State := (s.modPort p fun z => { z with phy := PhySt.reset, pe := { z.pe with trans := none }, swap := { z.swap with step := .none } })
      let s : State := { s with pair := { s.pair with unacked := [] } }
      s), ?_⟩,
    ⟨0, (
      let p : Port := 0
      let s : State := wbase
      let s : State := (s.modPort (p) fun z => { z with swap := { z.swap with step := .frsSrc } })
      s), ?_⟩,
    ⟨0, (
      let p : Port := 0
      let s : State := wbase
      let s : State := (s.modPort (p) fun z => { z with swap := { z.swap with step := .frsSrc } })
      let s : State := s.flag CC.ATTACHED p true
      let s : State := s.flag PD.PD_EN p true
      let s : State := s.flag PD.SHADOW p false
      s), ?_⟩,
    ⟨(
      let s : State := wbase
      let s : State := s.flag FEED.ARMED 0 true
      let s : State := { s with role := { s.role with bankFrs := true } }
      s), ?_⟩,
    ⟨0, (
      let p : Port := 0
      let s : State := wbase
      let s : State := s.flag FEED.ARMED 0 true
      let s : State := { s with role := { s.role with bankFrs := true } }
      let s : State := s.flag CC.ATTACHED p true
      let s : State := s.wr CC.PWR_ROLE p 1
      let s : State := s.wr PD.CONTRACT p 2
      let s : State := s.wr PD.NEG_REV p 2
      let s : State := s.flag PD.EPR_MODE p false
      let s : State := s.wr PD.PD_STATE p 0
      let s : State := s.wr PD.FRS_CURRENT p 2
      let s : State := s.flag PD.FRS_SIGNAL_EN p true
      let s : State := { s with role := { s.role with pol := s.role.pol.set (p : Port).val (BitVec.ofNat _ 0x3F) } }
      let s : State := (s.modPort p fun z => { z with profile := { z.profile with snk := true }, nextProfile := none })
      let s : State := s.flag SYS.RESTRICTED 0 false
      s), ?_⟩,
    ⟨0, (
      let p : Port := 0
      let s : State := wbase
      let s : State := s.flag FEED.ARMED 0 true
      let s : State := { s with role := { s.role with bankFrs := true } }
      let s : State := s.flag CC.ATTACHED p true
      let s : State := s.wr CC.PWR_ROLE p 1
      s), ?_⟩,
    ⟨(
      let s : State := wbase
      let s : State := s.flag FEED.ARMED 0 false
      s), ?_⟩,
    ⟨(
      let s : State := wbase
      let s : State := { s with role := { s.role with bankFrs := true }, island := none }
      let s : State := s.wr FEED.SEL 0 1
      let s : State := s.flag FEED.BUS_LOSS 0 false
      let s : State := s.flag FEED.BUS_OV 0 false
      let s : State := s
      s), ?_⟩,
    ⟨0, (
      let x : Nat := 0
      let s : State := wbase
      let s : State := { s with island := some x }
      let s : State := s.wr FEED.SEL 0 1
      let s : State := s.flag FEED.BUS_LOSS 0 false
      let s : State := s.flag FEED.BUS_OV 0 false
      s), ?_⟩,
    ⟨0, (
      let p : Port := 0
      let s : State := wbase
      let s : State := { s with role := { s.role with returnEn := true }, island := none, returnTick := none }
      let s : State := (s.modPort p fun z => { z with swap := { z.swap with islanded := true, want := [], retryAt := 0, step := .none } })
      let s : State := s.flag CC.ATTACHED p true
      let s : State := s.wr CC.PWR_ROLE p 2
      let s : State := s.wr PD.CONTRACT p 2
      let s : State := s.flag PD.EPR_MODE p false
      let s : State := s.flag PD.AMS_ACTIVE p false
      let s : State := s.flag SYS.RESTRICTED 0 false
      let s : State := (s.modPort p fun z => { z with pe := { z.pe with trans := none, epr := .none, hr := .none } })
      let s : State := (allPorts.filter (· != p)).foldl (fun (u : State) q => u.modPort q fun z => { z with swap := { z.swap with islanded := false } }) s
      s), ?_⟩⟩
  all_goals first | decide +kernel | (unfold AwaitsResponse; decide +kernel)

/-- States and operands that meet the hypotheses of SnapshotsLoadABank, clause by clause. -/
theorem test_snapshots_load_a_bank_witness :
    (∃ (s : State), s.on TIME.PIN_DRIVE 0 = false ∧ (addReq ⟨s.boundary s.time, 2 ^ 31 + (s.snap.count + 1) % 2 ^ 31,
      false, 0, []⟩ s.snap.pend).length ≤ 4) ∧
    (∃ (s : State), s.on TIME.PIN_DRIVE 0 = false ∧ 4 < (addReq ⟨s.boundary s.time, 2 ^ 31 + (s.snap.count + 1) % 2 ^
      31, false, 0, []⟩ s.snap.pend).length) ∧
    (∃ (s : State), s.on TIME.PIN_DRIVE 0 = true) ∧
    (∃ (k : Packet) (s : State), s.serves = true ∧ k.chip = true ∧ k.plain = true ∧ s.on TIME.PIN_DRIVE 0 = false ∧
      (addReq ⟨s.boundary s.time, 2 ^ 31 + (s.snap.count + 1) % 2 ^ 31, false, 0, [k]⟩ s.snap.pend).length ≤ 4) ∧
    (∃ (k : Packet) (s : State), s.serves = true ∧ k.chip = true ∧ k.plain = true ∧ s.on TIME.PIN_DRIVE 0 = false ∧ 4
      < (addReq ⟨s.boundary s.time, 2 ^ 31 + (s.snap.count + 1) % 2 ^ 31, false, 0, [k]⟩ s.snap.pend).length ∧
      AwaitsResponse k [] s) ∧
    (∃ (k : Packet) (s : State), s.serves = true ∧ k.chip = true ∧ k.plain = true ∧ s.on TIME.PIN_DRIVE 0 = true) ∧
    (∃ (k : Packet) (s : State), s.serves = true ∧ k.chip = true ∧ (k.ar = 1 ∨ k.ar = 3) ∧ k.len = 12 ∧ bytesAt
      k.payload 8 4 < 2 ^ 31 ∧ (s.snapAt (bytesAt k.payload 0 8) (bytesAt k.payload 8 4)).isSome = true ∧
      AwaitsResponse k [] s) ∧
    (∃ (k : Packet) (s : State), s.serves = true ∧ k.chip = true ∧ (k.ar = 1 ∨ k.ar = 3) ∧ k.len = 12 ∧ bytesAt
      k.payload 8 4 < 2 ^ 31 ∧ s.snapAt (bytesAt k.payload 0 8) (bytesAt k.payload 8 4) = none ∧ AwaitsResponse k []
      s) ∧
    (∃ (k : Packet) (s : State), s.serves = true ∧ (k.chip = false ∨ (k.plain = false ∧ ((k.ar ≠ 1 ∧ k.ar ≠ 3) ∨
      k.len ≠ 12 ∨ 2 ^ 31 ≤ bytesAt k.payload 8 4))) ∧ AwaitsResponse k [] s) ∧
    (∃ (n : Nat) (s : State), 50 ≤ n ∧ s.on TIME.PIN_IN_EN 0 = true ∧ (addReq ⟨s.boundary s.time, 2 ^ 31 +
      (s.snap.count + 1) % 2 ^ 31, false, 0, []⟩ s.snap.pend).length ≤ 4) ∧
    (∃ (n : Nat) (s : State), 50 ≤ n ∧ s.on TIME.PIN_IN_EN 0 = true ∧ s.dev = .watch) ∧
    (∃ (n : Nat) (s : State), (n < 50 ∨ s.on TIME.PIN_IN_EN 0 = false)) ∧
    (∃ (s : State), s.snap.drive ≠ []) ∧
    (∃ (s : State), s.snap.drive ≠ [] ∧ s.snap.pend.length < 4) ∧
    (∃ (s : State), s.snap.drive = []) ∧
    (∃ (r : SnapReq) (b : Nat) (s : State), earliest s.snap.pend = some r ∧ s.freeBank = some b ∧ b < 2) ∧
    (∃ (r : SnapReq) (s : State), earliest s.snap.pend = some r ∧ s.freeBank = none) ∧
    (∃ (s : State), s.snap.pend = []) ∧
    (∃ (b : Fin 2) (s : State), s.bit TIME.HOLD 0 b = true) ∧
    (∃ (b : Fin 2) (s : State), s.bit TIME.HOLD 0 b = false) ∧
    (∃ (k : Packet) (b : Nat) (s : State), s.serves = true ∧ k.len % 4 = 0 ∧ 4 ≤ k.len ∧ k.len ≤ 60 ∧ ((pageBases
      (k.len / 4) k.payload).all fun a => a % 0x400 == 0 && (pageOf a).isSome) = true ∧ s.bankOf k.ar = some b ∧
      AwaitsResponse k ((leBytes 4 k.ar ++ leBytes 4 (s.rd TIME.BANK_TIME_LO b) ++ leBytes 4 (s.rd TIME.BANK_TIME_HI
      b) ++ leBytes 4 (s.rd (bankFlags b) 0) ++ (pageBases (k.len / 4) k.payload).flatMap (shadowBytes (s.bank b))))
      s) ∧
    (∃ (k : Packet) (s : State), s.serves = true ∧ k.len % 4 = 0 ∧ 4 ≤ k.len ∧ k.len ≤ 60 ∧ ((pageBases (k.len / 4)
      k.payload).all fun a => a % 0x400 == 0 && (pageOf a).isSome) = true ∧ s.bankOf k.ar = none ∧ AwaitsResponse k
      [] s) ∧
    (∃ (k : Packet) (s : State), s.serves = true ∧ (k.len % 4 ≠ 0 ∨ k.len < 4 ∨ 60 < k.len ∨ ((pageBases (k.len / 4)
      k.payload).all fun a => a % 0x400 == 0 && (pageOf a).isSome) = false) ∧ AwaitsResponse k [] s) ∧
    (∃ (k : Packet) (s : State), s.serves = true ∧ s.standby = false ∧ k.len = 8 ∧ s.rd TIME.ROLE 0 ≠ 0 ∧
      AwaitsResponse k [] s) ∧
    (∃ (k : Packet) (s : State), s.serves = true ∧ s.standby = false ∧ k.len = 8 ∧ s.rd TIME.ROLE 0 = 0 ∧
      AwaitsResponse k [] s) ∧
    (∃ (k : Packet) (s : State), s.serves = true ∧ s.standby = false ∧ k.len ≠ 8 ∧ AwaitsResponse k [] s) ∧
    (∃ (k : Packet) (s : State), s.serves = true ∧ s.standby = true ∧ AwaitsResponse k [] s) ∧
    (∃ (k : Packet) (s : State), s.serves = true ∧ AwaitsResponse k ((leBytes 8 s.time ++ leBytes 4 (s.pageWord 0xA 0
      0x44) ++ leBytes 4 (s.rd TIME.OFFSET 0))) s) := by
  refine ⟨⟨(
      let s : State := wbase
      let s : State := s.flag TIME.PIN_DRIVE 0 false
      s), ?_⟩,
    ⟨(
      let s : State := wbase
      let s : State := s.flag TIME.PIN_DRIVE 0 false
      let s : State := { s with snap := { s.snap with pend := [⟨1, 0, false, 0, []⟩, ⟨2, 0, false, 0, []⟩, ⟨3, 0, false, 0, []⟩, ⟨4, 0, false, 0, []⟩] } }
      let s : State := { s with time := 1000000 }
      s), ?_⟩,
    ⟨(
      let s : State := wbase
      let s : State := s.flag TIME.PIN_DRIVE 0 true
      s), ?_⟩,
    ⟨(⟨1, 0, 0, 0xFFFF, 0, [], none⟩), (
      let s : State := wbase
      let s : State := { s with dev := .run }
      let s : State := s.flag SYS.READY 0 true
      let s : State := s.flag TIME.PIN_DRIVE 0 false
      s), ?_⟩,
    ⟨(⟨1, 0, 0, 0xFFFF, 0, [], none⟩), (
      let s : State := wbase
      let s : State := { s with dev := .run }
      let s : State := s.flag SYS.READY 0 true
      let s : State := s.flag TIME.PIN_DRIVE 0 false
      let s : State := { s with snap := { s.snap with pend := [⟨1, 0, false, 0, []⟩, ⟨2, 0, false, 0, []⟩, ⟨3, 0, false, 0, []⟩, ⟨4, 0, false, 0, []⟩] } }
      let s : State := { s with time := 1000000 }
      s), ?_⟩,
    ⟨(⟨1, 0, 0, 0xFFFF, 0, [], none⟩), (
      let s : State := wbase
      let s : State := { s with dev := .run }
      let s : State := s.flag SYS.READY 0 true
      let s : State := s.flag TIME.PIN_DRIVE 0 true
      s), ?_⟩,
    ⟨(⟨1, 0, 0, 0xFFFF, 1, List.replicate 12 0, none⟩), (
      let s : State := wbase
      let s : State := { s with dev := .run }
      let s : State := s.flag SYS.READY 0 true
      s), ?_⟩,
    ⟨(⟨1, 0, 0, 0xFFFF, 1, List.replicate 12 0, none⟩), (
      let s : State := wbase
      let s : State := { s with dev := .run }
      let s : State := s.flag SYS.READY 0 true
      let s : State := { s with snap := { s.snap with pend := [⟨1, 0, false, 0, []⟩, ⟨2, 0, false, 0, []⟩, ⟨3, 0, false, 0, []⟩, ⟨4, 0, false, 0, []⟩] } }
      let s : State := { s with time := 1000000 }
      s), ?_⟩,
    ⟨(⟨1, 0, 0, 5, 0, [], none⟩), (
      let s : State := wbase
      let s : State := { s with dev := .run }
      let s : State := s.flag SYS.READY 0 true
      s), ?_⟩,
    ⟨50, (
      let s : State := wbase
      let s : State := s.flag TIME.PIN_IN_EN 0 true
      s), ?_⟩,
    ⟨50, (
      let s : State := wbase
      let s : State := s.flag TIME.PIN_IN_EN 0 true
      let s : State := { s with dev := .watch }
      s), ?_⟩,
    ⟨0, wbase, ?_⟩,
    ⟨(
      let s : State := wbase
      let s : State := { s with snap := { s.snap with drive := [none] } }
      s), ?_⟩,
    ⟨(
      let s : State := wbase
      let s : State := { s with snap := { s.snap with drive := [none] } }
      s), ?_⟩,
    ⟨(
      let s : State := wbase
      let s : State := { s with snap := { s.snap with drive := [] } }
      s), ?_⟩,
    ⟨(⟨5, 0, false, 0, []⟩), 1, (
      let s : State := wbase
      let s : State := { s with snap := { s.snap with pend := [⟨5, 0, false, 0, []⟩] } }
      s), ?_⟩,
    ⟨(⟨5, 0, false, 0, []⟩), (
      let s : State := wbase
      let s : State := { s with snap := { s.snap with pend := [⟨5, 0, false, 0, []⟩] } }
      let s : State := s.wr TIME.HOLD 0 3
      s), ?_⟩,
    ⟨(
      let s : State := wbase
      let s : State := { s with snap := { s.snap with pend := [] } }
      s), ?_⟩,
    ⟨0, (
      let b : Fin 2 := 0
      let s : State := wbase
      let s : State := s.wrBit TIME.HOLD 0 b true
      s), ?_⟩,
    ⟨0, (
      let b : Fin 2 := 0
      let s : State := wbase
      let s : State := s.wrBit TIME.HOLD 0 b false
      s), ?_⟩,
    ⟨(⟨1, 0, 0, 0xFFFF, 0, [0, 0x28, 0, 0, 0, 0, 1, 0], none⟩), 0, (
      let s : State := wbase
      let s : State := { s with dev := .run }
      let s : State := s.flag SYS.READY 0 true
      let s : State := s.wr TIME.NEWER 0 0
      let s : State := s.wrBit TIME.VALID 0 0 true
      let s : State := s.wr TIME.BANK_ID 0 0
      s), ?_⟩,
    ⟨(⟨1, 0, 0, 0xFFFF, 0, [0, 0x28, 0, 0], none⟩), (
      let s : State := wbase
      let s : State := { s with dev := .run }
      let s : State := s.flag SYS.READY 0 true
      s), ?_⟩,
    ⟨(⟨1, 0, 0, 0xFFFF, 0, [1], none⟩), (
      let s : State := wbase
      let s : State := { s with dev := .run }
      let s : State := s.flag SYS.READY 0 true
      s), ?_⟩,
    ⟨(⟨1, 0, 0, 0xFFFF, 0, List.replicate 8 0, none⟩), (
      let s : State := wbase
      let s : State := { s with dev := .run }
      let s : State := s.flag SYS.READY 0 true
      let s : State := s.wr TIME.ROLE 0 1
      s), ?_⟩,
    ⟨(⟨1, 0, 0, 0xFFFF, 0, List.replicate 8 0, none⟩), (
      let s : State := wbase
      let s : State := { s with dev := .run }
      let s : State := s.flag SYS.READY 0 true
      let s : State := s.wr TIME.ROLE 0 (0)
      s), ?_⟩,
    ⟨(⟨1, 0, 0, 0xFFFF, 0, [], none⟩), (
      let s : State := wbase
      let s : State := { s with dev := .run }
      let s : State := s.flag SYS.READY 0 true
      s), ?_⟩,
    ⟨(⟨1, 0, 0, 0xFFFF, 0, [], none⟩), (
      let s : State := wbase
      let s : State := { s with dev := .run }
      let s : State := s.flag SYS.READY 0 true
      let s : State := s.wr PAIR.PAIR_STATE 0 3
      s), ?_⟩,
    ⟨(⟨1, 0, 0, 0xFFFF, 0, [], none⟩), (
      let s : State := wbase
      let s : State := { s with dev := .run }
      let s : State := s.flag SYS.READY 0 true
      s), ?_⟩⟩
  all_goals first | decide +kernel | (unfold AwaitsResponse; decide +kernel)

/-- States and operands that meet the hypotheses of FabricCellsAndCredits, clause by clause. -/
theorem test_fabric_cells_and_credits_witness :
    (∃ (l : Link) (s : State), s.linkMay l = true ∧ s.rd (linkState l) 0 = lkDown) ∧
    (∃ (l : Link) (s : State), s.linkMay l = true ∧ s.rd (linkState l) 0 = lkAlign) ∧
    (∃ (l : Link) (s : State), s.linkMay l = true ∧ s.rd (linkState l) 0 = lkTrain) ∧
    (∃ (l : Link) (s : State), s.linkMay l = false) ∧
    (∃ (l : Link) (e : LinkEvent) (s : State), s.rd (linkState l) 0 ≠
      (match e with | .signal => lkDown | .aligned => lkAlign | .trained => lkTrain)) ∧
    (∃ (l : Link) (s : State), s.rd (linkState l) 0 = lkUp) ∧
    (∃ (l : Link) (s : State), (s.rd (linkState l) 0 = lkAlign ∨ s.rd (linkState l) 0 = lkTrain)) ∧
    (∃ (l : Link) (s : State), (s.rd (linkState l) 0 = lkDown ∨ s.rd (linkState l) 0 = lkDisabled)) ∧
    (∃ (s : State), s.rd PAIR.LINK_STATE 0 ≠ lkDown) ∧
    (∃ (s : State), s.linkUp = true) ∧
    (∃ (s : State), s.rd PAIR.LINK_STATE 0 = lkDown) ∧
    (∃ (l : Link) (s : State), s.weftUp l = true) ∧
    (∃ (l : Link) (s : State), s.weftUp l = true) ∧
    (∃ (l : Link) (x : Cell) (s : State), s.weftUp l = true ∧ x.bcast = false ∧ s.on WEFT.ID_VALID 0 = true ∧
      x.dst.toNat = s.rd WEFT.DEV_ID 0) ∧
    (∃ (l : Link) (x : Cell) (s : State), s.weftUp l = true ∧ x.bcast = true ∧ (s.on WEFT.ID_VALID 0 = false ∨
      x.src.toNat ≠ s.rd WEFT.DEV_ID 0)) ∧
    (∃ (l : Link) (x : Cell) (s : State), s.weftUp l = true ∧ x.bcast = true ∧ s.on WEFT.ID_VALID 0 = true ∧
      x.src.toNat = s.rd WEFT.DEV_ID 0) ∧
    (∃ (l : Link) (x : Cell) (s : State), s.weftUp l = true ∧ x.bcast = false ∧ (s.on WEFT.ID_VALID 0 = false ∨
      x.dst.toNat ≠ s.rd WEFT.DEV_ID 0) ∧ s.on WEFT.FWD_EN 0 = false) ∧
    (∃ (l : Link) (x : Cell) (s : State), s.weftUp l = true ∧ x.bcast = false ∧ (s.on WEFT.ID_VALID 0 = false ∨
      x.dst.toNat ≠ s.rd WEFT.DEV_ID 0) ∧ s.on WEFT.FWD_EN 0 = true ∧ x.hops.toNat < 4095 ∧ (s.forwardLink l
      x).isSome = true) ∧
    (∃ (l : Link) (s : State), s.weftUp l = false) ∧
    (∃ (l : Link) (c : CellClass) (x : Link × CellClass × Cell) (s : State), s.weft.waiting.find? (waitsFor l c) =
      some x ∧ (s.handOn l c x.2.2).isSome = true) ∧
    (∃ (l : Link) (c : CellClass) (s : State), ((s.weft.waiting.find? (waitsFor l c)).bind fun x => s.handOn l c
      x.2.2) = none) ∧
    (∃ (l : Link) (s : State), s.rd (linkState l) 0 ∈ [lkAlign, lkTrain, lkUp]) ∧
    (∃ (l : Link) (i : BitVec 12) (s : State), s.rd (linkState l) 0 ∈ [lkAlign, lkTrain, lkUp] ∧ i.toNat = s.rd
      WEFT.DEV_ID 0) ∧
    (∃ (l : Link) (s : State), s.rd (linkState l) 0 ∉ [lkAlign, lkTrain, lkUp]) ∧
    (∃ (l : Link) (c : CellClass) (s : State), s.weftUp l = true ∧ s.weft.out.filter (waitsFor l c) = []) ∧
    (∃ (l : Link) (s : State), s.weftUp l = true) ∧
    (∃ (l : Link) (s : State), s.weftUp l = false) ∧
    (∃ (src : BitVec 12) (m : BitVec 16) (a : WeftAsm) (s : State), (s.weft.asm.find? fun a => !a.whole && a.src ==
      src.toNat && a.msgId == m.toNat) = some a) ∧
    (∃ (src : BitVec 12) (m : BitVec 16) (s : State), (s.weft.asm.find? fun a => !a.whole && a.src == src.toNat &&
      a.msgId == m.toNat) = none) ∧
    (∃ (k : Packet) (s : State), s.serves = true ∧ s.standby = false ∧ s.on WEFT.ID_VALID 0 = true ∧ weftSendOk k =
      true ∧ (if k.tgt = 0xFFFF then s.bcastLinks else (s.outLink k.tgt).toList) ≠ []) ∧
    (∃ (k : Packet) (s : State), s.serves = true ∧ s.standby = false ∧ s.on WEFT.ID_VALID 0 = true ∧ weftSendOk k =
      true ∧ (if k.tgt = 0xFFFF then s.bcastLinks else (s.outLink k.tgt).toList) = [] ∧ AwaitsResponse k [] s) ∧
    (∃ (k : Packet) (s : State), s.serves = true ∧ s.standby = false ∧ s.on WEFT.ID_VALID 0 = true ∧ weftSendOk k =
      false ∧ AwaitsResponse k [] s) ∧
    (∃ (k : Packet) (s : State), s.serves = true ∧ s.standby = false ∧ s.on WEFT.ID_VALID 0 = false ∧ AwaitsResponse
      k [] s) ∧
    (∃ (k : Packet) (s : State), s.serves = true ∧ s.standby = true ∧ AwaitsResponse k [] s) ∧
    (∃ (k : Packet) (s : State), s.serves = true ∧ s.standby = false ∧ s.on WEFT.ID_VALID 0 = true ∧ k.chip = true ∧
      k.plain = true ∧ AwaitsResponse k ((s.pageImage 9 0 0x40 48)) s) ∧
    (∃ (k : Packet) (s : State), s.serves = true ∧ s.standby = false ∧ s.on WEFT.ID_VALID 0 = true ∧ (k.chip = false
      ∨ k.plain = false) ∧ AwaitsResponse k [] s) ∧
    (∃ (k : Packet) (s : State), s.serves = true ∧ s.standby = false ∧ s.on WEFT.ID_VALID 0 = false ∧ AwaitsResponse
      k [] s) ∧
    (∃ (k : Packet) (s : State), s.serves = true ∧ s.standby = true ∧ AwaitsResponse k [] s) ∧
    (∃ (k : Packet) (i : Nat) (s : State), s.serves = true ∧ s.standby = false ∧ s.on WEFT.ID_VALID 0 = true ∧ k.chip
      = true ∧ k.arg = 0 ∧ k.len = 64 ∧ ((List.range 16).map fun i => bytesAt k.payload (4 * i) 4).all (fun w => bits
      w 30 25 == 0) = true ∧ i < 16 ∧ AwaitsResponse k [] s) ∧
    (∃ (k : Packet) (s : State), s.serves = true ∧ s.standby = false ∧ s.on WEFT.ID_VALID 0 = true ∧ (k.chip = false
      ∨ k.arg ≠ 0 ∨ k.len ≠ 64 ∨ ((List.range 16).map fun i => bytesAt k.payload (4 * i) 4).all (fun w => bits w 30
      25 == 0) = false) ∧ AwaitsResponse k [] s) ∧
    (∃ (k : Packet) (s : State), s.serves = true ∧ s.standby = false ∧ s.on WEFT.ID_VALID 0 = false ∧ AwaitsResponse
      k [] s) ∧
    (∃ (k : Packet) (s : State), s.serves = true ∧ s.standby = true ∧ AwaitsResponse k [] s) := by
  refine ⟨⟨0, (
      let l : Link := 0
      let s : State := wbase
      let s : State := s.wr (linkState l) 0 (lkDown)
      s), ?_⟩,
    ⟨0, (
      let l : Link := 0
      let s : State := wbase
      let s : State := s.wr (linkState l) 0 (lkAlign)
      s), ?_⟩,
    ⟨0, (
      let l : Link := 0
      let s : State := wbase
      let s : State := s.wr (linkState l) 0 (lkTrain)
      s), ?_⟩,
    ⟨0, (
      let s : State := wbase
      let s : State := s.flag (linkEn 0) 0 false
      s), ?_⟩,
    ⟨0, .aligned, wbase, ?_⟩,
    ⟨0, (
      let l : Link := 0
      let s : State := wbase
      let s : State := s.wr (linkState l) 0 (lkUp)
      s), ?_⟩,
    ⟨0, (
      let l : Link := 0
      let s : State := wbase
      let s : State := s.wr (linkState l) 0 (lkAlign)
      s), ?_⟩,
    ⟨0, (
      let l : Link := 0
      let s : State := wbase
      let s : State := s.wr (linkState l) 0 (lkDown)
      s), ?_⟩,
    ⟨(
      let s : State := wbase
      let s : State := s.wr PAIR.LINK_STATE 0 lkUp
      s), ?_⟩,
    ⟨(
      let s : State := wbase
      let s : State := s.wr PAIR.LINK_STATE 0 lkUp
      s), ?_⟩,
    ⟨(
      let s : State := wbase
      let s : State := s.wr PAIR.LINK_STATE 0 (lkDown)
      s), ?_⟩,
    ⟨0, (
      let l : Link := 0
      let s : State := wbase
      let s : State := s.wr (linkState l) 0 lkUp
      s), ?_⟩,
    ⟨0, (
      let l : Link := 0
      let s : State := wbase
      let s : State := s.wr (linkState l) 0 lkUp
      s), ?_⟩,
    ⟨0, (⟨0, false, 1, 2, 0, 0, true, true, 1, []⟩), (
      let l : Link := 0
      let s : State := wbase
      let s : State := s.wr (linkState l) 0 lkUp
      let s : State := s.flag WEFT.ID_VALID 0 true
      let s : State := s.wr WEFT.DEV_ID 0 (⟨0, false, 1, 2, 0, 0, true, true, 1, []⟩ : Cell).dst.toNat
      s), ?_⟩,
    ⟨0, (⟨0, true, 1, 2, 0, 0, true, true, 1, []⟩), (
      let l : Link := 0
      let s : State := wbase
      let s : State := s.wr (linkState l) 0 lkUp
      let s : State := s.flag WEFT.ID_VALID 0 false
      s), ?_⟩,
    ⟨0, (⟨0, true, 1, 2, 0, 0, true, true, 1, []⟩), (
      let l : Link := 0
      let s : State := wbase
      let s : State := s.wr (linkState l) 0 lkUp
      let s : State := s.flag WEFT.ID_VALID 0 true
      let s : State := s.wr WEFT.DEV_ID 0 (⟨0, true, 1, 2, 0, 0, true, true, 1, []⟩ : Cell).src.toNat
      s), ?_⟩,
    ⟨0, (⟨0, false, 1, 2, 0, 0, true, true, 1, []⟩), (
      let l : Link := 0
      let s : State := wbase
      let s : State := s.wr (linkState l) 0 lkUp
      let s : State := s.flag WEFT.ID_VALID 0 false
      let s : State := s.flag WEFT.FWD_EN 0 false
      s), ?_⟩,
    ⟨0, (⟨0, false, 1, 2, 0, 0, true, true, 1, []⟩), (
      let l : Link := 0
      let s : State := wbase
      let s : State := s.wr (linkState l) 0 lkUp
      let s : State := s.flag WEFT.ID_VALID 0 false
      let s : State := s.flag WEFT.FWD_EN 0 true
      let s : State := s.wr WEFT.W0_STATE 0 lkUp
      let s : State := s.wr WEFT.W1_STATE 0 lkUp
      let s : State := s.wr WEFT.VALID 0 1
      let s : State := s.wr WEFT.LINK 0 1
      let s : State := s.wr WEFT.LO 0 0
      let s : State := s.wr WEFT.HI 0 4095
      s), ?_⟩,
    ⟨0, wbase, ?_⟩,
    ⟨0, 0, ((0, 0, ⟨0, false, 1, 9, 0, 0, true, true, 1, []⟩)), (
      let s : State := wbase
      let s : State := { s with weft := { s.weft with waiting := [(0, 0, ⟨0, false, 1, 9, 0, 0, true, true, 1, []⟩)] } }
      s), ?_⟩,
    ⟨0, 0, wbase, ?_⟩,
    ⟨0, (
      let s : State := wbase
      let s : State := s.wr WEFT.W0_STATE 0 lkUp
      s), ?_⟩,
    ⟨0, 0, (
      let s : State := wbase
      let s : State := s.wr WEFT.W0_STATE 0 lkUp
      let s : State := s.wr WEFT.DEV_ID 0 0
      s), ?_⟩,
    ⟨0, wbase, ?_⟩,
    ⟨0, 0, (
      let l : Link := 0
      let s : State := wbase
      let s : State := s.wr (linkState l) 0 lkUp
      s), ?_⟩,
    ⟨0, (
      let l : Link := 0
      let s : State := wbase
      let s : State := s.wr (linkState l) 0 lkUp
      s), ?_⟩,
    ⟨0, wbase, ?_⟩,
    ⟨1, 0, (⟨0, 1, 0, 0, 0, 1, [], false⟩), (
      let s : State := wbase
      let s : State := { s with weft := { s.weft with asm := [⟨0, 1, 0, 0, 0, 1, [], false⟩] } }
      s), ?_⟩,
    ⟨0, 0, wbase, ?_⟩,
    ⟨(⟨1, 0, 0, 0xFFFF, 2, [1], none⟩), (
      let s : State := wbase
      let s : State := { s with dev := .run }
      let s : State := s.flag SYS.READY 0 true
      let s : State := s.flag WEFT.ID_VALID 0 true
      let s : State := s.wr WEFT.W0_STATE 0 lkUp
      s), ?_⟩,
    ⟨(⟨1, 0, 0, 0xFFFF, 2, [1], none⟩), (
      let s : State := wbase
      let s : State := { s with dev := .run }
      let s : State := s.flag SYS.READY 0 true
      let s : State := s.flag WEFT.ID_VALID 0 true
      s), ?_⟩,
    ⟨(⟨1, 0, 0, 0xFFFF, 0, [], none⟩), (
      let s : State := wbase
      let s : State := { s with dev := .run }
      let s : State := s.flag SYS.READY 0 true
      let s : State := s.flag WEFT.ID_VALID 0 true
      s), ?_⟩,
    ⟨(⟨1, 0, 0, 0xFFFF, 0, [], none⟩), (
      let s : State := wbase
      let s : State := { s with dev := .run }
      let s : State := s.flag SYS.READY 0 true
      let s : State := s.flag WEFT.ID_VALID 0 false
      s), ?_⟩,
    ⟨(⟨1, 0, 0, 0xFFFF, 0, [], none⟩), (
      let s : State := wbase
      let s : State := { s with dev := .run }
      let s : State := s.flag SYS.READY 0 true
      let s : State := s.wr PAIR.PAIR_STATE 0 3
      s), ?_⟩,
    ⟨(⟨1, 0, 0, 0xFFFF, 0, [], none⟩), (
      let s : State := wbase
      let s : State := { s with dev := .run }
      let s : State := s.flag SYS.READY 0 true
      let s : State := s.flag WEFT.ID_VALID 0 true
      s), ?_⟩,
    ⟨(⟨1, 0, 0, 5, 0, [], none⟩), (
      let s : State := wbase
      let s : State := { s with dev := .run }
      let s : State := s.flag SYS.READY 0 true
      let s : State := s.flag WEFT.ID_VALID 0 true
      s), ?_⟩,
    ⟨(⟨1, 0, 0, 0xFFFF, 0, [], none⟩), (
      let s : State := wbase
      let s : State := { s with dev := .run }
      let s : State := s.flag SYS.READY 0 true
      let s : State := s.flag WEFT.ID_VALID 0 false
      s), ?_⟩,
    ⟨(⟨1, 0, 0, 0xFFFF, 0, [], none⟩), (
      let s : State := wbase
      let s : State := { s with dev := .run }
      let s : State := s.flag SYS.READY 0 true
      let s : State := s.wr PAIR.PAIR_STATE 0 3
      s), ?_⟩,
    ⟨(⟨1, 0, 0, 0xFFFF, BitVec.ofNat 32 (0), List.replicate 64 0, none⟩), 0, (
      let s : State := wbase
      let s : State := { s with dev := .run }
      let s : State := s.flag SYS.READY 0 true
      let s : State := s.flag WEFT.ID_VALID 0 true
      s), ?_⟩,
    ⟨(⟨1, 0, 0, 5, 0, [], none⟩), (
      let s : State := wbase
      let s : State := { s with dev := .run }
      let s : State := s.flag SYS.READY 0 true
      let s : State := s.flag WEFT.ID_VALID 0 true
      s), ?_⟩,
    ⟨(⟨1, 0, 0, 0xFFFF, 0, [], none⟩), (
      let s : State := wbase
      let s : State := { s with dev := .run }
      let s : State := s.flag SYS.READY 0 true
      let s : State := s.flag WEFT.ID_VALID 0 false
      s), ?_⟩,
    ⟨(⟨1, 0, 0, 0xFFFF, 0, [], none⟩), (
      let s : State := wbase
      let s : State := { s with dev := .run }
      let s : State := s.flag SYS.READY 0 true
      let s : State := s.wr PAIR.PAIR_STATE 0 3
      s), ?_⟩⟩
  all_goals first | decide +kernel | (unfold AwaitsResponse; decide +kernel)

/-- States and operands that meet the hypotheses of DeviceTimeIsDistributed, clause by clause. -/
theorem test_device_time_is_distributed_witness :
    (∃ (l : Link) (y : SyncSet) (s : State), s.weftUp l = true ∧ s.rd TIME.ROLE 0 = 1 ∧ y.master.toNat ≠ s.rd
      WEFT.DEV_ID 0) ∧
    (∃ (l : Link) (y : SyncSet) (s : State), (s.weftUp l = false ∨ (s.rd TIME.ROLE 0 = 1 ∧ y.master.toNat = s.rd
      WEFT.DEV_ID 0) ∨ 1 < s.rd TIME.ROLE 0)) ∧
    (∃ (l : Link) (y : SyncSet) (s : State), s.weftUp l = true ∧ s.rd TIME.ROLE 0 = 0 ∧ upstream (s.tim.shown.set l
      (some (y.master.toNat, y.hops.toNat)) l.isLt) = some l) ∧
    (∃ (l : Link) (y : SyncSet) (s : State), s.weftUp l = true ∧ s.rd TIME.ROLE 0 = 0 ∧ upstream (s.tim.shown.set l
      (some (y.master.toNat, y.hops.toNat)) l.isLt) ≠ some l) ∧
    (∃ (l : Link) (s : State), s.rd TIME.ROLE 0 = 1 ∧ s.weftUp l = true) ∧
    (∃ (s : State), s.rd TIME.ROLE 0 ≠ 1) ∧
    (∃ (l : Link) (s : State), (s.rd (linkState l) 0 = lkUp ∨ s.rd (linkState l) 0 = lkTrain)) ∧
    (∃ (l : Link) (s : State), s.rd (linkState l) 0 ≠ lkUp ∧ s.rd (linkState l) 0 ≠ lkTrain) ∧
    (∃ (s : State), s.rd TIME.ROLE 0 = 0 ∧ (s.rd TIME.STATE 0 = tsLocked ∨ s.rd TIME.STATE 0 = tsAcquire)) ∧
    (∃ (s : State), (s.rd TIME.ROLE 0 ≠ 0 ∨ (s.rd TIME.STATE 0 ≠ tsLocked ∧ s.rd TIME.STATE 0 ≠ tsAcquire))) := by
  refine ⟨⟨0, (⟨0, 1, true, 0⟩), (
      let l : Link := 0
      let s : State := wbase
      let s : State := s.wr (linkState l) 0 lkUp
      let s : State := s.wr TIME.ROLE 0 (1)
      let s : State := s.wr WEFT.DEV_ID 0 9
      s), ?_⟩,
    ⟨0, (⟨0, 1, true, 0⟩), wbase, ?_⟩,
    ⟨0, (⟨0, 1, true, 0⟩), (
      let l : Link := 0
      let s : State := wbase
      let s : State := s.wr (linkState l) 0 lkUp
      let s : State := s.wr TIME.ROLE 0 (0)
      s), ?_⟩,
    ⟨0, (⟨0, 1, true, 3⟩), (
      let l : Link := 0
      let s : State := wbase
      let s : State := s.wr (linkState l) 0 lkUp
      let s : State := s.wr TIME.ROLE 0 (0)
      let s : State := { s with tim := { s.tim with shown := s.tim.shown.set (1 : Link) (some (0, 0)) } }
      s), ?_⟩,
    ⟨0, (
      let l : Link := 0
      let s : State := wbase
      let s : State := s.wr TIME.ROLE 0 (1)
      let s : State := s.wr (linkState l) 0 lkUp
      s), ?_⟩,
    ⟨wbase, ?_⟩,
    ⟨0, (
      let l : Link := 0
      let s : State := wbase
      let s : State := s.wr (linkState l) 0 (lkUp)
      s), ?_⟩,
    ⟨0, wbase, ?_⟩,
    ⟨(
      let s : State := wbase
      let s : State := s.wr TIME.ROLE 0 (0)
      let s : State := s.wr TIME.STATE 0 (tsLocked)
      s), ?_⟩,
    ⟨wbase, ?_⟩⟩
  all_goals first | decide +kernel | (unfold AwaitsResponse; decide +kernel)

/-- States and operands that meet the hypotheses of PacketCommandsNeedAServingDevice, clause by clause. -/
theorem test_packet_commands_need_a_serving_device_witness :
    (∃ (s : State), s.serves = false ∧ s.inRom = false) ∧
    (∃ (k : Packet) (s : State), s.serves = false ∧ s.inRom = true ∧ AwaitsResponse k [] s) ∧
    (∃ (s : State), s.serves = false ∧ s.inRom = false) ∧
    (∃ (k : Packet) (s : State), s.serves = false ∧ s.inRom = true ∧ AwaitsResponse k [] s) ∧
    (∃ (s : State), s.serves = false ∧ s.inRom = false) ∧
    (∃ (k : Packet) (s : State), s.serves = false ∧ s.inRom = true ∧ AwaitsResponse k [] s) ∧
    (∃ (s : State), s.serves = false ∧ s.inRom = false) ∧
    (∃ (k : Packet) (s : State), s.serves = false ∧ s.inRom = true ∧ AwaitsResponse k [] s) ∧
    (∃ (s : State), s.serves = false ∧ s.inRom = false) ∧
    (∃ (k : Packet) (s : State), s.serves = false ∧ s.inRom = true ∧ AwaitsResponse k [] s) ∧
    (∃ (s : State), s.serves = false ∧ s.inRom = false) ∧
    (∃ (k : Packet) (s : State), s.serves = false ∧ s.inRom = true ∧ AwaitsResponse k [] s) ∧
    (∃ (s : State), s.serves = false ∧ s.inRom = false) ∧
    (∃ (k : Packet) (s : State), s.serves = false ∧ s.inRom = true ∧ AwaitsResponse k [] s) ∧
    (∃ (s : State), s.serves = false ∧ s.inRom = false) ∧
    (∃ (k : Packet) (s : State), s.serves = false ∧ s.inRom = true ∧ AwaitsResponse k [] s) ∧
    (∃ (s : State), s.serves = false ∧ s.inRom = false) ∧
    (∃ (k : Packet) (s : State), s.serves = false ∧ s.inRom = true ∧ AwaitsResponse k [] s) ∧
    (∃ (s : State), s.serves = false ∧ s.inRom = false) ∧
    (∃ (k : Packet) (s : State), s.serves = false ∧ s.inRom = true ∧ AwaitsResponse k [] s) ∧
    (∃ (s : State), s.serves = false ∧ s.inRom = false) ∧
    (∃ (k : Packet) (s : State), s.serves = false ∧ s.inRom = true ∧ AwaitsResponse k [] s) ∧
    (∃ (s : State), s.serves = false ∧ s.inRom = false) ∧
    (∃ (k : Packet) (s : State), s.serves = false ∧ s.inRom = true ∧ AwaitsResponse k [] s) ∧
    (∃ (s : State), s.serves = false ∧ s.inRom = false) ∧
    (∃ (k : Packet) (s : State), s.serves = false ∧ s.inRom = true ∧ AwaitsResponse k [] s) ∧
    (∃ (s : State), s.serves = false ∧ s.inRom = false) ∧
    (∃ (k : Packet) (s : State), s.serves = false ∧ s.inRom = true ∧ AwaitsResponse k [] s) ∧
    (∃ (s : State), s.serves = false ∧ s.inRom = false) ∧
    (∃ (k : Packet) (s : State), s.serves = false ∧ s.inRom = true ∧ AwaitsResponse k [] s) ∧
    (∃ (s : State), s.serves = false ∧ s.inRom = false) ∧
    (∃ (k : Packet) (s : State), s.serves = false ∧ s.inRom = true ∧ AwaitsResponse k [] s) ∧
    (∃ (s : State), s.serves = false ∧ s.inRom = false) ∧
    (∃ (k : Packet) (s : State), s.serves = false ∧ s.inRom = true ∧ AwaitsResponse k [] s) ∧
    (∃ (s : State), s.serves = false ∧ s.inRom = false) ∧
    (∃ (k : Packet) (s : State), s.serves = false ∧ s.inRom = true ∧ AwaitsResponse k [] s) ∧
    (∃ (s : State), s.serves = false ∧ s.inRom = false) ∧
    (∃ (k : Packet) (s : State), s.serves = false ∧ s.inRom = true ∧ AwaitsResponse k [] s) ∧
    (∃ (s : State), s.serves = false ∧ s.inRom = false) ∧
    (∃ (k : Packet) (s : State), s.serves = false ∧ s.inRom = true ∧ AwaitsResponse k [] s) ∧
    (∃ (s : State), s.serves = false ∧ s.inRom = false) ∧
    (∃ (k : Packet) (s : State), s.serves = false ∧ s.inRom = true ∧ AwaitsResponse k [] s) ∧
    (∃ (s : State), s.serves = false ∧ s.inRom = false) ∧
    (∃ (k : Packet) (s : State), s.serves = false ∧ s.inRom = true ∧ AwaitsResponse k [] s) ∧
    (∃ (s : State), s.serves = false ∧ s.inRom = false) ∧
    (∃ (k : Packet) (s : State), s.serves = false ∧ s.inRom = true ∧ AwaitsResponse k [] s) ∧
    (∃ (s : State), s.serves = false ∧ s.inRom = false) ∧
    (∃ (k : Packet) (s : State), s.serves = false ∧ s.inRom = true ∧ AwaitsResponse k [] s) ∧
    (∃ (s : State), s.serves = false ∧ s.inRom = false) ∧
    (∃ (k : Packet) (s : State), s.serves = false ∧ s.inRom = true ∧ AwaitsResponse k [] s) ∧
    (∃ (s : State), s.serves = false ∧ s.inRom = false) ∧
    (∃ (k : Packet) (s : State), s.serves = false ∧ s.inRom = true ∧ AwaitsResponse k [] s) ∧
    (∃ (s : State), s.serves = false ∧ s.inRom = false) ∧
    (∃ (k : Packet) (s : State), s.serves = false ∧ s.inRom = true ∧ AwaitsResponse k [] s) ∧
    (∃ (s : State), s.serves = false ∧ s.inRom = false) ∧
    (∃ (k : Packet) (s : State), s.serves = false ∧ s.inRom = true ∧ AwaitsResponse k [] s) ∧
    (∃ (s : State), s.serves = false ∧ s.inRom = false) ∧
    (∃ (k : Packet) (s : State), s.serves = false ∧ s.inRom = true ∧ AwaitsResponse k [] s) ∧
    (∃ (s : State), s.serves = false ∧ s.inRom = false) ∧
    (∃ (k : Packet) (s : State), s.serves = false ∧ s.inRom = true ∧ AwaitsResponse k [] s) ∧
    (∃ (s : State), s.serves = false ∧ s.inRom = false) ∧
    (∃ (k : Packet) (s : State), s.serves = false ∧ s.inRom = true ∧ AwaitsResponse k [] s) ∧
    (∃ (s : State), s.serves = false ∧ s.inRom = false) ∧
    (∃ (k : Packet) (s : State), s.serves = false ∧ s.inRom = true ∧ AwaitsResponse k [] s) ∧
    (∃ (s : State), s.serves = false ∧ s.inRom = false) ∧
    (∃ (k : Packet) (s : State), s.serves = false ∧ s.inRom = true ∧ AwaitsResponse k [] s) ∧
    (∃ (s : State), s.serves = false ∧ s.inRom = false) ∧
    (∃ (k : Packet) (s : State), s.inRom = true ∧ k.chip = true ∧ k.plain = true ∧ AwaitsResponse k s.info s) ∧
    (∃ (k : Packet) (s : State), (s.serves = true ∨ s.inRom = true) ∧ (k.chip = false ∨ k.plain = false) ∧
      AwaitsResponse k [] s) ∧
    (∃ (s : State), s.serves = false ∧ s.inRom = false) ∧
    (∃ (s : State), s.serves = false ∧ s.inRom = false) ∧
    (∃ (s : State), s.serves = false ∧ s.inRom = false) ∧
    (∃ (s : State), s.serves = false ∧ s.inRom = false) ∧
    (∃ (s : State), s.serves = false ∧ s.inRom = false) ∧
    (∃ (s : State), s.serves = false ∧ s.inRom = false) := by
  refine ⟨⟨(
      let s : State := wbase
      let s : State := s.flag SYS.READY 0 false
      let s : State := { s with dev := .warmReset }
      s), ?_⟩,
    ⟨(⟨1, 0, 0, 0xFFFF, 0, [], none⟩), (
      let s : State := wbase
      let s : State := { s with dev := .recovery }
      let s : State := s.flag SYS.READY 0 false
      s), ?_⟩,
    ⟨(
      let s : State := wbase
      let s : State := s.flag SYS.READY 0 false
      let s : State := { s with dev := .warmReset }
      s), ?_⟩,
    ⟨(⟨1, 0, 0, 0xFFFF, 0, [], none⟩), (
      let s : State := wbase
      let s : State := { s with dev := .recovery }
      let s : State := s.flag SYS.READY 0 false
      s), ?_⟩,
    ⟨(
      let s : State := wbase
      let s : State := s.flag SYS.READY 0 false
      let s : State := { s with dev := .warmReset }
      s), ?_⟩,
    ⟨(⟨1, 0, 0, 0xFFFF, 0, [], none⟩), (
      let s : State := wbase
      let s : State := { s with dev := .recovery }
      let s : State := s.flag SYS.READY 0 false
      s), ?_⟩,
    ⟨(
      let s : State := wbase
      let s : State := s.flag SYS.READY 0 false
      let s : State := { s with dev := .warmReset }
      s), ?_⟩,
    ⟨(⟨1, 0, 0, 0xFFFF, 0, [], none⟩), (
      let s : State := wbase
      let s : State := { s with dev := .recovery }
      let s : State := s.flag SYS.READY 0 false
      s), ?_⟩,
    ⟨(
      let s : State := wbase
      let s : State := s.flag SYS.READY 0 false
      let s : State := { s with dev := .warmReset }
      s), ?_⟩,
    ⟨(⟨1, 0, 0, 0xFFFF, 0, [], none⟩), (
      let s : State := wbase
      let s : State := { s with dev := .recovery }
      let s : State := s.flag SYS.READY 0 false
      s), ?_⟩,
    ⟨(
      let s : State := wbase
      let s : State := s.flag SYS.READY 0 false
      let s : State := { s with dev := .warmReset }
      s), ?_⟩,
    ⟨(⟨1, 0, 0, 0xFFFF, 0, [], none⟩), (
      let s : State := wbase
      let s : State := { s with dev := .recovery }
      let s : State := s.flag SYS.READY 0 false
      s), ?_⟩,
    ⟨(
      let s : State := wbase
      let s : State := s.flag SYS.READY 0 false
      let s : State := { s with dev := .warmReset }
      s), ?_⟩,
    ⟨(⟨1, 0, 0, 0xFFFF, 0, [], none⟩), (
      let s : State := wbase
      let s : State := { s with dev := .recovery }
      let s : State := s.flag SYS.READY 0 false
      s), ?_⟩,
    ⟨(
      let s : State := wbase
      let s : State := s.flag SYS.READY 0 false
      let s : State := { s with dev := .warmReset }
      s), ?_⟩,
    ⟨(⟨1, 0, 0, 0xFFFF, 0, [], none⟩), (
      let s : State := wbase
      let s : State := { s with dev := .recovery }
      let s : State := s.flag SYS.READY 0 false
      s), ?_⟩,
    ⟨(
      let s : State := wbase
      let s : State := s.flag SYS.READY 0 false
      let s : State := { s with dev := .warmReset }
      s), ?_⟩,
    ⟨(⟨1, 0, 0, 0xFFFF, 0, [], none⟩), (
      let s : State := wbase
      let s : State := { s with dev := .recovery }
      let s : State := s.flag SYS.READY 0 false
      s), ?_⟩,
    ⟨(
      let s : State := wbase
      let s : State := s.flag SYS.READY 0 false
      let s : State := { s with dev := .warmReset }
      s), ?_⟩,
    ⟨(⟨1, 0, 0, 0xFFFF, 0, [], none⟩), (
      let s : State := wbase
      let s : State := { s with dev := .recovery }
      let s : State := s.flag SYS.READY 0 false
      s), ?_⟩,
    ⟨(
      let s : State := wbase
      let s : State := s.flag SYS.READY 0 false
      let s : State := { s with dev := .warmReset }
      s), ?_⟩,
    ⟨(⟨1, 0, 0, 0xFFFF, 0, [], none⟩), (
      let s : State := wbase
      let s : State := { s with dev := .recovery }
      let s : State := s.flag SYS.READY 0 false
      s), ?_⟩,
    ⟨(
      let s : State := wbase
      let s : State := s.flag SYS.READY 0 false
      let s : State := { s with dev := .warmReset }
      s), ?_⟩,
    ⟨(⟨1, 0, 0, 0xFFFF, 0, [], none⟩), (
      let s : State := wbase
      let s : State := { s with dev := .recovery }
      let s : State := s.flag SYS.READY 0 false
      s), ?_⟩,
    ⟨(
      let s : State := wbase
      let s : State := s.flag SYS.READY 0 false
      let s : State := { s with dev := .warmReset }
      s), ?_⟩,
    ⟨(⟨1, 0, 0, 0xFFFF, 0, [], none⟩), (
      let s : State := wbase
      let s : State := { s with dev := .recovery }
      let s : State := s.flag SYS.READY 0 false
      s), ?_⟩,
    ⟨(
      let s : State := wbase
      let s : State := s.flag SYS.READY 0 false
      let s : State := { s with dev := .warmReset }
      s), ?_⟩,
    ⟨(⟨1, 0, 0, 0xFFFF, 0, [], none⟩), (
      let s : State := wbase
      let s : State := { s with dev := .recovery }
      let s : State := s.flag SYS.READY 0 false
      s), ?_⟩,
    ⟨(
      let s : State := wbase
      let s : State := s.flag SYS.READY 0 false
      let s : State := { s with dev := .warmReset }
      s), ?_⟩,
    ⟨(⟨1, 0, 0, 0xFFFF, 0, [], none⟩), (
      let s : State := wbase
      let s : State := { s with dev := .recovery }
      let s : State := s.flag SYS.READY 0 false
      s), ?_⟩,
    ⟨(
      let s : State := wbase
      let s : State := s.flag SYS.READY 0 false
      let s : State := { s with dev := .warmReset }
      s), ?_⟩,
    ⟨(⟨1, 0, 0, 0xFFFF, 0, [], none⟩), (
      let s : State := wbase
      let s : State := { s with dev := .recovery }
      let s : State := s.flag SYS.READY 0 false
      s), ?_⟩,
    ⟨(
      let s : State := wbase
      let s : State := s.flag SYS.READY 0 false
      let s : State := { s with dev := .warmReset }
      s), ?_⟩,
    ⟨(⟨1, 0, 0, 0xFFFF, 0, [], none⟩), (
      let s : State := wbase
      let s : State := { s with dev := .recovery }
      let s : State := s.flag SYS.READY 0 false
      s), ?_⟩,
    ⟨(
      let s : State := wbase
      let s : State := s.flag SYS.READY 0 false
      let s : State := { s with dev := .warmReset }
      s), ?_⟩,
    ⟨(⟨1, 0, 0, 0xFFFF, 0, [], none⟩), (
      let s : State := wbase
      let s : State := { s with dev := .recovery }
      let s : State := s.flag SYS.READY 0 false
      s), ?_⟩,
    ⟨(
      let s : State := wbase
      let s : State := s.flag SYS.READY 0 false
      let s : State := { s with dev := .warmReset }
      s), ?_⟩,
    ⟨(⟨1, 0, 0, 0xFFFF, 0, [], none⟩), (
      let s : State := wbase
      let s : State := { s with dev := .recovery }
      let s : State := s.flag SYS.READY 0 false
      s), ?_⟩,
    ⟨(
      let s : State := wbase
      let s : State := s.flag SYS.READY 0 false
      let s : State := { s with dev := .warmReset }
      s), ?_⟩,
    ⟨(⟨1, 0, 0, 0xFFFF, 0, [], none⟩), (
      let s : State := wbase
      let s : State := { s with dev := .recovery }
      let s : State := s.flag SYS.READY 0 false
      s), ?_⟩,
    ⟨(
      let s : State := wbase
      let s : State := s.flag SYS.READY 0 false
      let s : State := { s with dev := .warmReset }
      s), ?_⟩,
    ⟨(⟨1, 0, 0, 0xFFFF, 0, [], none⟩), (
      let s : State := wbase
      let s : State := { s with dev := .recovery }
      let s : State := s.flag SYS.READY 0 false
      s), ?_⟩,
    ⟨(
      let s : State := wbase
      let s : State := s.flag SYS.READY 0 false
      let s : State := { s with dev := .warmReset }
      s), ?_⟩,
    ⟨(⟨1, 0, 0, 0xFFFF, 0, [], none⟩), (
      let s : State := wbase
      let s : State := { s with dev := .recovery }
      let s : State := s.flag SYS.READY 0 false
      s), ?_⟩,
    ⟨(
      let s : State := wbase
      let s : State := s.flag SYS.READY 0 false
      let s : State := { s with dev := .warmReset }
      s), ?_⟩,
    ⟨(⟨1, 0, 0, 0xFFFF, 0, [], none⟩), (
      let s : State := wbase
      let s : State := { s with dev := .recovery }
      let s : State := s.flag SYS.READY 0 false
      s), ?_⟩,
    ⟨(
      let s : State := wbase
      let s : State := s.flag SYS.READY 0 false
      let s : State := { s with dev := .warmReset }
      s), ?_⟩,
    ⟨(⟨1, 0, 0, 0xFFFF, 0, [], none⟩), (
      let s : State := wbase
      let s : State := { s with dev := .recovery }
      let s : State := s.flag SYS.READY 0 false
      s), ?_⟩,
    ⟨(
      let s : State := wbase
      let s : State := s.flag SYS.READY 0 false
      let s : State := { s with dev := .warmReset }
      s), ?_⟩,
    ⟨(⟨1, 0, 0, 0xFFFF, 0, [], none⟩), (
      let s : State := wbase
      let s : State := { s with dev := .recovery }
      let s : State := s.flag SYS.READY 0 false
      s), ?_⟩,
    ⟨(
      let s : State := wbase
      let s : State := s.flag SYS.READY 0 false
      let s : State := { s with dev := .warmReset }
      s), ?_⟩,
    ⟨(⟨1, 0, 0, 0xFFFF, 0, [], none⟩), (
      let s : State := wbase
      let s : State := { s with dev := .recovery }
      let s : State := s.flag SYS.READY 0 false
      s), ?_⟩,
    ⟨(
      let s : State := wbase
      let s : State := s.flag SYS.READY 0 false
      let s : State := { s with dev := .warmReset }
      s), ?_⟩,
    ⟨(⟨1, 0, 0, 0xFFFF, 0, [], none⟩), (
      let s : State := wbase
      let s : State := { s with dev := .recovery }
      let s : State := s.flag SYS.READY 0 false
      s), ?_⟩,
    ⟨(
      let s : State := wbase
      let s : State := s.flag SYS.READY 0 false
      let s : State := { s with dev := .warmReset }
      s), ?_⟩,
    ⟨(⟨1, 0, 0, 0xFFFF, 0, [], none⟩), (
      let s : State := wbase
      let s : State := { s with dev := .recovery }
      let s : State := s.flag SYS.READY 0 false
      s), ?_⟩,
    ⟨(
      let s : State := wbase
      let s : State := s.flag SYS.READY 0 false
      let s : State := { s with dev := .warmReset }
      s), ?_⟩,
    ⟨(⟨1, 0, 0, 0xFFFF, 0, [], none⟩), (
      let s : State := wbase
      let s : State := { s with dev := .recovery }
      let s : State := s.flag SYS.READY 0 false
      s), ?_⟩,
    ⟨(
      let s : State := wbase
      let s : State := s.flag SYS.READY 0 false
      let s : State := { s with dev := .warmReset }
      s), ?_⟩,
    ⟨(⟨1, 0, 0, 0xFFFF, 0, [], none⟩), (
      let s : State := wbase
      let s : State := { s with dev := .recovery }
      let s : State := s.flag SYS.READY 0 false
      s), ?_⟩,
    ⟨(
      let s : State := wbase
      let s : State := s.flag SYS.READY 0 false
      let s : State := { s with dev := .warmReset }
      s), ?_⟩,
    ⟨(⟨1, 0, 0, 0xFFFF, 0, [], none⟩), (
      let s : State := wbase
      let s : State := { s with dev := .recovery }
      let s : State := s.flag SYS.READY 0 false
      s), ?_⟩,
    ⟨(
      let s : State := wbase
      let s : State := s.flag SYS.READY 0 false
      let s : State := { s with dev := .warmReset }
      s), ?_⟩,
    ⟨(⟨1, 0, 0, 0xFFFF, 0, [], none⟩), (
      let s : State := wbase
      let s : State := { s with dev := .recovery }
      let s : State := s.flag SYS.READY 0 false
      s), ?_⟩,
    ⟨(
      let s : State := wbase
      let s : State := s.flag SYS.READY 0 false
      let s : State := { s with dev := .warmReset }
      s), ?_⟩,
    ⟨(⟨1, 0, 0, 0xFFFF, 0, [], none⟩), (
      let s : State := wbase
      let s : State := { s with dev := .recovery }
      let s : State := s.flag SYS.READY 0 false
      s), ?_⟩,
    ⟨(
      let s : State := wbase
      let s : State := s.flag SYS.READY 0 false
      let s : State := { s with dev := .warmReset }
      s), ?_⟩,
    ⟨(⟨1, 0, 0, 0xFFFF, 0, [], none⟩), (
      let s : State := wbase
      let s : State := { s with dev := .recovery }
      let s : State := s.flag SYS.READY 0 false
      s), ?_⟩,
    ⟨(⟨1, 0, 0, 5, 0, [], none⟩), (
      let s : State := wbase
      let s : State := { s with dev := .run }
      let s : State := s.flag SYS.READY 0 true
      let s : State := { s with dev := .recovery }
      let s : State := s.flag SYS.READY 0 false
      s), ?_⟩,
    ⟨(
      let s : State := wbase
      let s : State := s.flag SYS.READY 0 false
      let s : State := { s with dev := .warmReset }
      s), ?_⟩,
    ⟨(
      let s : State := wbase
      let s : State := s.flag SYS.READY 0 false
      let s : State := { s with dev := .warmReset }
      s), ?_⟩,
    ⟨(
      let s : State := wbase
      let s : State := s.flag SYS.READY 0 false
      let s : State := { s with dev := .warmReset }
      s), ?_⟩,
    ⟨(
      let s : State := wbase
      let s : State := s.flag SYS.READY 0 false
      let s : State := { s with dev := .warmReset }
      s), ?_⟩,
    ⟨(
      let s : State := wbase
      let s : State := s.flag SYS.READY 0 false
      let s : State := { s with dev := .warmReset }
      s), ?_⟩,
    ⟨(
      let s : State := wbase
      let s : State := s.flag SYS.READY 0 false
      let s : State := { s with dev := .warmReset }
      s), ?_⟩⟩
  all_goals first | decide +kernel | (unfold AwaitsResponse; decide +kernel)

end Sys2Proof.Machine
end

section
/-! PROOFS. Command packets (chapter 14): taking the tail of a ring, responses over ring 4, the command that an opcode names, how
Loam and the ROM choose their next command, and O45. -/
set_option linter.all false

namespace Sys2Proof.Machine

/-! ## The tail of a ring leaves it (R356) -/

/-- The areas that taking a ring's tail may change: the rings and the RING page's common registers and counters. -/
theorem removeTail_footprint (s : State) (q : Fin 40) (p : Nat) :
    Within 0x8000000000400000000000000000140000 p s (s.removeTail q) :=
  State.removeTail_within s q rfl (Within.refl _ p s)

theorem ringDrained_entries (s : State) (q a : Fin 40) : ((s.ringDrained q).ring a).entries = (s.ring a).entries := by
  unfold State.ringDrained
  dsimp only
  by_cases h : a = q
  · subst h; split
    · split <;> simp
    · rfl
  · split
    · split <;> simp [ring_setRing_ne _ _ _ _ h]
    · rfl

theorem removeTail_entries_self (s : State) (q : Fin 40) :
    ((s.removeTail q).ring q).entries = (s.ring q).entries.drop 1 := by
  unfold State.removeTail
  rw [ringDrained_entries, ring_setRing_self]

theorem removeTail_entries_ne (s : State) (q a : Fin 40) (h : a ≠ q) :
    ((s.removeTail q).ring a).entries = (s.ring a).entries := by
  unfold State.removeTail
  rw [ringDrained_entries, ring_setRing_ne _ _ _ _ h]

@[simp] theorem removeTail_dev (s : State) (q : Fin 40) : (s.removeTail q).dev = s.dev :=
  (removeTail_footprint s q 0).dev rfl

@[simp] theorem removeTail_flash (s : State) (q : Fin 40) : (s.removeTail q).flash = s.flash :=
  (removeTail_footprint s q 0).flash rfl

@[simp] theorem removeTail_serves (s : State) (q : Fin 40) : (s.removeTail q).serves = s.serves := by
  unfold State.serves
  rw [removeTail_dev, (removeTail_footprint s q 0).on SYS.READY 0 (by decide)]

theorem removeTail_rd (s : State) (q : Fin 40) (F : Field) (i : Nat)
    (h : maskSkips 0x8000000000400000000000000000140000 F = true) : (s.removeTail q).rd F i = s.rd F i :=
  (removeTail_footprint s q 0).rd F i h

@[simp] theorem removeTail_standby (s : State) (q : Fin 40) : (s.removeTail q).standby = s.standby := by
  unfold State.standby
  rw [removeTail_rd s q PAIR.PAIR_STATE 0 (by decide)]

/-! ## The command that an opcode names (R15) -/

theorem serve_of_serves (s : State) (k : Packet) (f : State → State) (h : s.serves = true) : s.serve k f = f s := by
  unfold State.serve; rw [if_pos h]

theorem serveInfo_of_serves (s : State) (f : State → State) (h : s.serves = true) : s.serveInfo f = f s := by
  unfold State.serveInfo; rw [h]; rfl

theorem serveUpd_of_serves (s : State) (k : Packet) (ms : Nat) (f : State → State) (h : s.serves = true) :
    s.serveUpd k ms f = f s := by
  unfold State.serveUpd; rw [if_pos h]

theorem serveRom_of_serves (s : State) (k : Packet) (f : State → State) (h : s.serves = true) :
    s.serveRom k f = f s := by
  unfold State.serveRom
  split
  · rfl
  · exact serve_of_serves s k f h

/-- On a serving device the instruction that an OPCODE names does what Loam does for a packet with that OPCODE. -/
theorem exec_of_commandOf (k : Packet) (e : OtpEnv) (c : Instr) (s : State) (hs : s.serves = true)
    (hc : commandOf k e = some c) : exec c s = .next (s.command k e) := by
  unfold commandOf at hc
  split at hc
  case h_43 => cases hc
  all_goals
    rename_i h
    cases hc
    refine congrArg Host.Outcome.next ?_
    simp only [serve_of_serves _ _ _ hs, serveInfo_of_serves _ _ hs, serveUpd_of_serves _ _ _ _ hs,
      serveRom_of_serves _ _ _ hs, State.command, State.systemCommand, State.portCommand, State.ledgerCommand,
      State.updateCommand, State.otherCommand, h, Nat.reduceLT, if_true, if_false]

/-! ## Responses over ring 4 (R356, R363) -/

/-- The areas that a response may change. -/
theorem respond_footprint (s : State) (k : Packet) (st : Nat) (l : List Byte) (p : Nat) :
    Within 0xC001000000400000000000000038140000 p s (s.respond k st l) :=
  State.respond_within s k st l rfl (Within.refl _ p s)

@[simp] theorem respond_flash (s : State) (k : Packet) (st : Nat) (l : List Byte) : (s.respond k st l).flash = s.flash :=
  (respond_footprint s k st l 0).flash rfl

theorem sendRsp_rings (s : State) (o : Origin) (k : Packet) : (s.sendRsp o k).rings = s.rings :=
  (State.sendRsp_within s o k (mm := 0x1000000000000000000000038000000) (pp := 0) rfl (Within.refl _ 0 s)).rings rfl

/-- A push that is not refused appends the packet with the next sequence number (R356). -/
theorem pushPacket_eq (s : State) (q : Fin 40) (k : Packet)
    (h : ¬ ringSize q < (s.ring q).occ + (if q.val = 0 then 1 else packetGranules k)) :
    s.pushPacket q k = some (s.setRing q { s.ring q with
      entries := (s.ring q).entries ++ [.pkt k ((s.ring q).seq % 2 ^ 32)], seq := (s.ring q).seq + 1 }) :=
  if_neg h

theorem pushPacket_ring_ne {s t : State} {q a : Fin 40} {k : Packet} (he : s.pushPacket q k = some t) (h : a ≠ q) :
    t.ring a = s.ring a := by
  by_cases hr : ringSize q < (s.ring q).occ + (if q.val = 0 then 1 else packetGranules k)
  · cases (if_pos hr).symm.trans he
  · rw [pushPacket_eq s q k hr] at he
    cases he
    exact ring_setRing_ne s q a _ h

theorem respondArg_ring_ne (s : State) (k : Packet) (st : Nat) (a : Word) (l : List Byte) (q : Fin 40) (h : q ≠ 4) :
    (s.respondArg k st a l).ring q = s.ring q := by
  unfold State.respondArg
  dsimp only
  split
  · rfl
  · split
    · unfold State.ring; rw [sendRsp_rings]
    · split
      · rename_i he
        exact (State.irq_ring _ _ _ _ _).trans (pushPacket_ring_ne he h)
      · exact ring_setRing_ne s 4 q _ h

theorem respond_ring_ne (s : State) (k : Packet) (st : Nat) (l : List Byte) (q : Fin 40) (h : q ≠ 4) :
    (s.respond k st l).ring q = s.ring q :=
  respondArg_ring_ne _ k st _ l q h

/-- A packet that awaits a response of this length gets the response into ring 4. -/
theorem respond_responded (s : State) (k : Packet) (st : Nat) (l l' : List Byte) (h : AwaitsResponse k l' s)
    (hl : l.length = l'.length) : Responded k st l s (s.respond k st l) := by
  obtain ⟨ho, hf, hroom⟩ := h
  refine ⟨s.fresh.1.setWidth 32, (s.ring 4).seq % 2 ^ 32, ?_⟩
  have hpush := pushPacket_eq s.fresh.2 4
    { k with flags := BitVec.ofNat 8 st, arg := s.fresh.1.setWidth 32, payload := l } (by
      simp only [packetGranules, hl] at hroom ⊢
      exact Nat.not_lt.mpr hroom)
  show ((s.fresh.2.respondArg k st (s.fresh.1.setWidth 32) l).ring 4).entries = _
  unfold State.respondArg
  rw [if_neg (by omega)]
  split
  · rename_i hsome
    cases ho.symm.trans hsome
  · split
    · rename_i he
      cases hpush.symm.trans he
      rw [State.irq_ring, ring_setRing_self]
      rfl
    · rename_i he
      cases hpush.symm.trans he

/-- `Responded` reads ring 4 of the earlier state only. -/
theorem Responded.of_entries {k : Packet} {st : Nat} {l : List Byte} {s s' t : State} (h : Responded k st l s' t)
    (he : (s'.ring 4).entries = (s.ring 4).entries) : Responded k st l s t := by
  obtain ⟨a, n, h⟩ := h
  exact ⟨a, n, he ▸ h⟩

theorem AwaitsResponse.of_entries {k : Packet} {l : List Byte} {s s' : State} (h : AwaitsResponse k l s)
    (he : (s'.ring 4).entries = (s.ring 4).entries) : AwaitsResponse k l s' := by
  obtain ⟨ho, hf, hroom⟩ := h
  refine ⟨ho, hf, ?_⟩
  unfold RingSt.occ at hroom ⊢
  rw [he]; exact hroom

/-- The packet at the tail of ring 2 is taken and answered: ring 2 has lost it, ring 4 has gained the response. -/
theorem respond_after_take (s : State) (k : Packet) (st : Nat) (l l' : List Byte) (h : AwaitsResponse k l' s)
    (hl : l.length = l'.length) :
    ((((s.removeTail 2).respond k st l).ring 2).entries = (s.ring 2).entries.drop 1) ∧
      Responded k st l s ((s.removeTail 2).respond k st l) := by
  have he : ((s.removeTail 2).ring 4).entries = (s.ring 4).entries := removeTail_entries_ne s 2 4 (by decide)
  refine ⟨?_, (respond_responded _ k st l l' (h.of_entries he) hl).of_entries he⟩
  rw [respond_ring_ne _ _ _ _ 2 (by decide), removeTail_entries_self]

/-! ## Which command is next (R357, R441) -/

theorem entries_ne_nil_of_ringHead {s : State} {q : Fin 40} {k : Packet} (h : s.ringHead q = some k) :
    (s.ring q).entries ≠ [] := by
  intro he
  unfold State.ringHead at h
  rw [he] at h
  cases h

theorem mayStart_of_empty {s : State} {q : Fin 40} (h : (s.ring q).entries = []) : s.mayStart q = false := by
  unfold State.mayStart State.ringHead
  rw [h]

/-- Serving a ring on a serving device is removing the packet at its tail and doing its command. -/
theorem exec_serveRing {s : State} {q : Fin 40} {k : Packet} {e : OtpEnv} {c : Instr} (hs : s.serves = true)
    (hk : s.ringHead q = some k) (hc : commandOf k e = some c) :
    exec c (s.removeTail q) = .next (s.serveRing q e) := by
  unfold State.serveRing
  rw [hk]
  exact exec_of_commandOf k e c _ (by rw [removeTail_serves, hs]) hc

theorem serveLane_of_host (s : State) (i : Fin 2) (e : OtpEnv) (hf : s.fabricHead (i.val + 1) = none) :
    s.serveLane i e =
      if s.mayStart (if i.val = 0 then 2 else 3) then s.serveRing (if i.val = 0 then 2 else 3) e else s := by
  unfold State.serveLane
  rw [hf]

theorem laneHolds_of_host (s : State) (i : Fin 2) (hf : s.fabricHead (i.val + 1) = none) :
    s.laneHolds i = !(s.ring (if i.val = 0 then 2 else 3)).entries.isEmpty := by
  unfold State.laneHolds
  rw [hf]; simp

theorem laneReady_of_host (s : State) (i : Fin 2) (hf : s.fabricHead (i.val + 1) = none) :
    s.laneReady i = s.mayStart (if i.val = 0 then 2 else 3) := by
  unfold State.laneReady
  rw [hf]; simp

theorem dispatchNext_ring1 (s : State) (e : OtpEnv) (h : (s.ring 1).entries ≠ []) :
    s.dispatchNext e = if s.mayStart 1 then s.serveRing 1 e else s := by
  unfold State.dispatchNext
  rw [if_pos (by simpa using h)]

theorem mayStart_served2 (s : State) (n : Nat) (q : Fin 40) : ({ s with served2 := n } : State).mayStart q = s.mayStart q :=
  rfl

/-- With ring 1 empty and no fabric command waiting, the entries of rings 2 and 3 and the count of packets served from ring 2
choose the ring (R357). -/
theorem dispatchNext_lanes (s : State) (e : OtpEnv) (h1 : (s.ring 1).entries = []) (f1 : s.fabricHead 1 = none)
    (f2 : s.fabricHead 2 = none) :
    s.dispatchNext e =
      if (s.ring 2).entries ≠ [] ∧ (s.ring 3).entries ≠ [] then
        if s.served2 < 4 then
          (if s.mayStart 2 then ({ s with served2 := s.served2 + 1 } : State).serveRing 2 e else s)
        else if s.mayStart 3 then ({ s with served2 := 0 } : State).serveRing 3 e else s
      else if (s.ring 2).entries ≠ [] then (if s.mayStart 2 then s.serveRing 2 e else s)
      else if s.mayStart 3 then s.serveRing 3 e else s := by
  have holds0 : s.laneHolds 0 = !(s.ring 2).entries.isEmpty := laneHolds_of_host s 0 f1
  have holds1 : s.laneHolds 1 = !(s.ring 3).entries.isEmpty := laneHolds_of_host s 1 f2
  have ready0 : s.laneReady 0 = s.mayStart 2 := laneReady_of_host s 0 f1
  have ready1 : s.laneReady 1 = s.mayStart 3 := laneReady_of_host s 1 f2
  have lane0 (n : Nat) : ({ s with served2 := n } : State).serveLane 0 e =
      if s.mayStart 2 then ({ s with served2 := n } : State).serveRing 2 e else { s with served2 := n } :=
    serveLane_of_host { s with served2 := n } 0 e f1
  have lane1 (n : Nat) : ({ s with served2 := n } : State).serveLane 1 e =
      if s.mayStart 3 then ({ s with served2 := n } : State).serveRing 3 e else { s with served2 := n } :=
    serveLane_of_host { s with served2 := n } 1 e f2
  unfold State.dispatchNext
  rw [h1, holds0, holds1, ready0, ready1, lane0, lane1, serveLane_of_host s 0 e f1, serveLane_of_host s 1 e f2]
  by_cases both : (s.ring 2).entries ≠ [] ∧ (s.ring 3).entries ≠ []
  · obtain ⟨e2, e3⟩ := both
    cases m2 : s.mayStart 2 <;> cases m3 : s.mayStart 3 <;> simp [e2, e3]
  · by_cases e2 : (s.ring 2).entries = []
    · simp [e2]
    · have e3 : (s.ring 3).entries = [] := by simpa [e2] using both
      simp [e2, e3]

/-- COMMAND_DISPATCH serves ring `q` of `u`: it does what the command at that ring's tail does once the packet is taken. -/
theorem exec_commandDispatch {s u : State} {q : Fin 40} {k : Packet} {e : OtpEnv} {c : Instr} (hs : s.serves = true)
    (hu : u.serves = true) (hd : s.dispatchNext e = u.serveRing q e) (hk : u.ringHead q = some k)
    (hc : commandOf k e = some c) :
    ∃ t, exec (.commandDispatch e) s = .next t ∧ exec c (u.removeTail q) = .next t := by
  refine ⟨u.serveRing q e, ?_, exec_serveRing hu hk hc⟩
  show Host.Outcome.next (if s.serves then s.dispatchNext e else s) = _
  rw [if_pos hs, hd]

theorem exec_commandDispatch_idle {s : State} {e : OtpEnv} (h : s.serves = true → s.dispatchNext e = s) :
    exec (.commandDispatch e) s = .next s := by
  show Host.Outcome.next (if s.serves then s.dispatchNext e else s) = _
  split
  · rw [h ‹_›]
  · rfl

/-! ## The ROM's commands (R505, R506) -/

theorem romTake_of_head {s : State} {k : Packet} (f : State → Packet → State) (hk : s.ringHead 2 = some k)
    (hm : s.mayStart 2 = true) : s.romTake f = f (s.removeTail 2) k := by
  unfold State.romTake
  rw [hk]
  exact if_pos hm

theorem romTake_of_not_mayStart {s : State} (f : State → Packet → State) (hm : s.mayStart 2 = false) : s.romTake f = s := by
  unfold State.romTake
  split
  · rw [if_neg (by rw [hm]; decide)]
  · rfl

theorem exec_hostBoot {s : State} {k : Packet} (m : Nat) (hb : s.hostBoots = true) (hk : s.ringHead 2 = some k)
    (hm : s.mayStart 2 = true) : exec (.hostBoot m) s = .next ((s.removeTail 2).hostRom k m) := by
  show Host.Outcome.next (if s.hostBoots then s.romTake fun t k => t.hostRom k m else s) = _
  rw [if_pos hb, romTake_of_head _ hk hm]

theorem exec_recoveryRom {s : State} {k : Packet} (hd : s.dev = .recovery) (hk : s.ringHead 2 = some k)
    (hm : s.mayStart 2 = true) : exec .recoveryRom s = .next ((s.removeTail 2).recoveryRom k) := by
  show Host.Outcome.next (if s.dev = .recovery then s.romTake State.recoveryRom else s) = _
  rw [if_pos hd, romTake_of_head _ hk hm]

theorem hostRom_status (s : State) (k : Packet) (ms : Nat) (h : k.op = 0x43) : s.hostRom k ms = s.cmdUpdStatus k := by
  unfold State.hostRom; rw [h]; rfl

theorem hostRom_data (s : State) (k : Packet) (ms : Nat) (h : k.op = 0x41) (hf : dataForm k = true) :
    s.hostRom k ms = s.updData k := by
  unfold State.hostRom State.formed; rw [h, hf]; rfl

theorem hostRom_commit (s : State) (k : Packet) (ms : Nat) (h : k.op = 0x44) : s.hostRom k ms = s.hostCommit k := by
  unfold State.hostRom; rw [h]; rfl

theorem hostRom_other (s : State) (k : Packet) (ms : Nat) (h : k.op.toNat ∉ [0x01, 0x40, 0x41, 0x42, 0x43, 0x44]) :
    s.hostRom k ms = s.answer k stDENIED := by
  unfold State.hostRom
  split
  case h_7 => rfl
  all_goals
    rename_i ho
    exact absurd ho (fun ho => h (by rw [ho]; decide))

/-- UPD_COMMIT in host boot is served with ACTIVATE 1 in RECEIVING only (R505). -/
theorem hostCommit_denied (s : State) (k : Packet) (hc : k.chip = true) (hp : k.payload = []) (ha : k.ar ≤ 3)
    (h : k.ar ≠ 1 ∨ s.rd BOOT.STATE 0 ≠ upReceiving) : s.hostCommit k = s.answer k stDENIED := by
  unfold State.hostCommit State.formed
  rw [if_pos (by simp [hc, hp, ha])]
  exact if_neg (by tauto)

theorem recoveryRom_status (s : State) (k : Packet) (h : k.op = 0x43) : s.recoveryRom k = s.cmdUpdStatus k := by
  unfold State.recoveryRom; rw [h]; rfl

theorem recoveryRom_data (s : State) (k : Packet) (h : k.op = 0x41) (hf : dataForm k = true) :
    s.recoveryRom k = s.updData k := by
  unfold State.recoveryRom State.formed; rw [h, hf]; rfl

theorem recoveryRom_other (s : State) (k : Packet)
    (h : k.op.toNat ∉ [0x01, 0x40, 0x41, 0x42, 0x43, 0x44, 0x45, 0x50, 0x53]) :
    s.recoveryRom k = s.answer k stDENIED := by
  unfold State.recoveryRom
  split
  case h_10 => rfl
  all_goals
    rename_i ho
    exact absurd ho (fun ho => h (by rw [ho]; decide))

/-- The progress that UPD_STATUS gives: STATE, LAST_STATUS, BYTES, DONE and TOTAL (R500). -/
def State.progress (s : State) : List Byte :=
  leBytes 1 (s.rd BOOT.STATE 0) ++ leBytes 1 (s.rd BOOT.LAST_STATUS 0) ++ [0, 0] ++ leBytes 4 (s.rd BOOT.BYTES 0) ++
    leBytes 4 (s.rd BOOT.DONE 0) ++ leBytes 4 (s.rd BOOT.TOTAL 0)

theorem leBytes_length (n v : Nat) : (leBytes n v).length = n := by
  induction n generalizing v with
  | zero => rfl
  | succ n ih => exact congrArg (· + 1) (ih (v / 256))

theorem progress_length (s : State) : s.progress.length = 16 := by
  unfold State.progress; simp [leBytes_length]

theorem removeTail_progress (s : State) (q : Fin 40) : (s.removeTail q).progress = s.progress := by
  have h (F : Field) (hF : maskSkips 0x8000000000400000000000000000140000 F = true) := removeTail_rd s q F 0 hF
  unfold State.progress
  rw [h BOOT.STATE (by decide), h BOOT.LAST_STATUS (by decide), h BOOT.BYTES (by decide), h BOOT.DONE (by decide),
    h BOOT.TOTAL (by decide)]

theorem cmdUpdStatus_eq (s : State) (k : Packet) (hb : s.standby = false) (hc : k.chip = true) (hp : k.plain = true) :
    s.cmdUpdStatus k = s.respond k stOK s.progress := by
  unfold State.cmdUpdStatus State.offStandby State.formed
  rw [hb, hc, hp]
  rfl

/-- UPD_STATUS taken from ring 2 by the ROM is answered with the progress. -/
theorem cmdUpdStatus_after_take (s : State) (k : Packet) (hb : s.standby = false) (hc : k.chip = true)
    (hp : k.plain = true) (ha : AwaitsResponse k (List.replicate 16 0) s) :
    ((((s.removeTail 2).cmdUpdStatus k).ring 2).entries = (s.ring 2).entries.drop 1) ∧
      Responded k stOK s.progress s ((s.removeTail 2).cmdUpdStatus k) := by
  rw [cmdUpdStatus_eq _ k (by rw [removeTail_standby, hb]) hc hp, removeTail_progress]
  exact respond_after_take s k stOK s.progress _ ha (by rw [progress_length, List.length_replicate])

@[simp] theorem bootRec_ring (s : State) (f : BootSt → BootSt) (q : Fin 40) : (s.bootRec f).ring q = s.ring q := rfl
@[simp] theorem flashRec_ring (s : State) (f : FlashSt → FlashSt) (q : Fin 40) : (s.flashRec f).ring q = s.ring q := rfl

/-- UPD_DATA in RECEIVING with the next piece: the piece goes to the end of the staged body. -/
theorem updData_next (s : State) (k : Packet) (hu : s.rd BOOT.STATE 0 = upReceiving) (hn : s.pieceNext k = true) :
    s.updData k = (((s.flashRec fun x => { x with stage := some (s.stage.1, s.stage.2.1 ++ k.payload, s.stage.2.2) }).bootRec
      fun x => { x with piece := k.len }).wr BOOT.BYTES 0 (k.ar + k.len)).answer k stOK := by
  unfold State.updData
  rw [if_neg (not_not_intro hu), if_pos hn]

/-- UPD_DATA taken from ring 2 by the ROM appends the next piece. -/
theorem updData_after_take (s : State) (k : Packet) (hu : s.rd BOOT.STATE 0 = upReceiving) (hn : s.pieceNext k = true) :
    (((s.removeTail 2).updData k).ring 2).entries = (s.ring 2).entries.drop 1 ∧
      ((s.removeTail 2).updData k).flash.stage = some (s.stage.1, s.stage.2.1 ++ k.payload, s.stage.2.2) := by
  have hst : (s.removeTail 2).stage = s.stage := by unfold State.stage; rw [removeTail_flash]
  have hn' : (s.removeTail 2).pieceNext k = true := by unfold State.pieceNext at hn ⊢; rw [hst]; exact hn
  rw [updData_next _ k (by rw [removeTail_rd _ _ _ _ (by decide), hu]) hn', hst]
  unfold State.answer
  rw [respond_ring_ne _ _ _ _ 2 (by decide), respond_flash]
  refine ⟨?_, ?_⟩
  · rw [State.wr_ring, bootRec_ring, flashRec_ring, removeTail_entries_self]
  · rw [State.wr_flash]
    rfl

/-! ## Serving the command rings -/

/-- Settles O45: each clause names the ring that `dispatchNext` or the ROM serves, and serving a ring is the command of the packet
taken from it. -/
theorem commandRingsAreServedInOrder : Obligations.CommandRingsAreServedInOrder := by
  unfold Obligations.CommandRingsAreServedInOrder
  refine ⟨?ring1, ?blocked, ?ring2, ?ring3, ?four, ?fifth, ?empty, ?notServing, ?hostStatus, ?hostData, ?hostOther,
    ?hostCommit, ?hostIdle, ?romStatus, ?romData, ?romOther, ?romIdle⟩
  case ring1 =>
    intro k e c s hs hk hm hc
    refine exec_commandDispatch hs hs ?_ hk hc
    rw [dispatchNext_ring1 s e (entries_ne_nil_of_ringHead hk), if_pos hm]
  case blocked =>
    intro e s h1 hm
    refine exec_commandDispatch_idle fun _ => ?_
    rw [dispatchNext_ring1 s e h1, hm]; rfl
  case ring2 =>
    intro k e c s hs h1 hk hm f1 h3 f2 hc
    refine exec_commandDispatch hs hs ?_ hk hc
    rw [dispatchNext_lanes s e h1 f1 f2]
    simp [entries_ne_nil_of_ringHead hk, h3, hm]
  case ring3 =>
    intro k e c s hs h1 hk hm f1 h2 f2 hc
    refine exec_commandDispatch hs hs ?_ hk hc
    rw [dispatchNext_lanes s e h1 f1 f2]
    simp [h2, hm]
  case four =>
    intro k e c s hs h1 hk hm f1 h3 f2 h4 hc
    refine exec_commandDispatch (u := { s with served2 := s.served2 + 1 }) hs hs ?_ hk hc
    rw [dispatchNext_lanes s e h1 f1 f2, if_pos ⟨entries_ne_nil_of_ringHead hk, h3⟩, if_pos h4, if_pos hm]
  case fifth =>
    intro k e c s hs h1 hk hm f1 h2 f2 h4 hc
    refine exec_commandDispatch (u := { s with served2 := 0 }) hs hs ?_ hk hc
    rw [dispatchNext_lanes s e h1 f1 f2, if_pos ⟨h2, entries_ne_nil_of_ringHead hk⟩, if_neg (Nat.not_lt.mpr h4),
      if_pos hm]
  case empty =>
    intro e s _ h1 h2 h3 f1 f2
    refine exec_commandDispatch_idle fun _ => ?_
    rw [dispatchNext_lanes s e h1 f1 f2]
    simp [h2, mayStart_of_empty h3]
  case notServing =>
    intro e s hs
    exact exec_commandDispatch_idle fun h => by rw [hs] at h; cases h
  case hostStatus =>
    intro k m s hb hk hm hsb ho hc hp ha
    exact ⟨_, (exec_hostBoot m hb hk hm).trans (by rw [hostRom_status _ k m ho]),
      cmdUpdStatus_after_take s k hsb hc hp ha⟩
  case hostData =>
    intro k m s hb hk hm ho hf hu hn
    exact ⟨_, (exec_hostBoot m hb hk hm).trans (by rw [hostRom_data _ k m ho hf]), updData_after_take s k hu hn⟩
  case hostOther =>
    intro k m s hb hk hm ho ha
    exact ⟨_, (exec_hostBoot m hb hk hm).trans (by rw [hostRom_other _ k m ho]; rfl),
      respond_after_take s k stDENIED [] [] ha rfl⟩
  case hostCommit =>
    intro k m s hb hk hm ho hc hp har hne ha
    refine ⟨_, (exec_hostBoot m hb hk hm).trans ?_, respond_after_take s k stDENIED [] [] ha rfl⟩
    rw [hostRom_commit _ k m ho, hostCommit_denied _ k hc hp har (by rwa [removeTail_rd _ _ _ _ (by decide)])]
    rfl
  case hostIdle =>
    intro m s h
    refine congrArg Host.Outcome.next ?_
    split
    · exact romTake_of_not_mayStart _ (h.resolve_left (by simp_all))
    · rfl
  case romStatus =>
    intro k s hd hk hm hsb ho hc hp ha
    exact ⟨_, (exec_recoveryRom hd hk hm).trans (by rw [recoveryRom_status _ k ho]),
      cmdUpdStatus_after_take s k hsb hc hp ha⟩
  case romData =>
    intro k s hd hk hm ho hf hu hn
    exact ⟨_, (exec_recoveryRom hd hk hm).trans (by rw [recoveryRom_data _ k ho hf]), updData_after_take s k hu hn⟩
  case romOther =>
    intro k s hd hk hm ho ha
    exact ⟨_, (exec_recoveryRom hd hk hm).trans (by rw [recoveryRom_other _ k ho]; rfl),
      respond_after_take s k stDENIED [] [] ha rfl⟩
  case romIdle =>
    intro s h
    refine congrArg Host.Outcome.next ?_
    split
    · exact romTake_of_not_mayStart _ (h.resolve_left (by simp_all))
    · rfl

end Sys2Proof.Machine
end

section
/-! PROOFS. SAFE_EXIT (R544, R546, R549) in a state whose port record holds a change of register for a field outside the LOOP
page (R214), and O37. -/
set_option linter.all false

namespace Sys2Proof.Machine

/-! ## RST_CTL.SAFE_EXIT (R549) -/

theorem exec_safeExit {s : State} (hr : s.on SYS.READY 0 = true) (hd : s.dev = .safe) (hc : s.safeCleared = true) :
    exec .safeExit s = .next s.safeLeave := by
  have hexit : s.rstCtl 0xA5000004 = s.safeExit := by
    unfold State.rstCtl
    rw [if_neg (by decide), if_neg (by decide), if_neg (by decide)]
  refine congrArg Host.Outcome.next ?_
  unfold State.readyFor
  rw [if_pos hr]
  refine hexit.trans ?_
  unfold State.safeExit
  rw [if_neg (by simp [hd]), if_neg (by simp [hc])]

/-! ## The tables at the end of SAFE (R212): without a table fault -/

/-- The areas that loading a port's table changes where no table fault stands: the MARL page's plain registers, the LOOP
pages and the port records. -/
abbrev tableAreas : Nat := 0x102000002000000000000000

/-- Loading of one port's table, as `State.loadTables` does it for all. -/
def State.loadPort (s : State) (p : Port) : State := ((s.loadTable p (s.startTable p)).tableGood p).rerate p

theorem loadTable_fault (s : State) (p : Port) (t : List Byte) : (s.loadTable p t).rd MARL.FAULT 0 = s.rd MARL.FAULT 0 := by
  unfold State.loadTable
  dsimp only
  rw [rd_wr _ _ _ _ _ _ (by decide), rd_wrBit _ _ _ _ _ _ _ (by decide), rd_flag _ _ _ _ _ _ (by decide),
    rd_wr _ _ _ _ _ _ (by decide), rd_flag _ _ _ _ _ _ (by decide)]
  rfl

theorem tableGood_of_no_fault (s : State) (p : Port) (h : s.rd MARL.FAULT 0 = 0) : s.tableGood p = s := by
  unfold State.tableGood State.bit
  rw [h, Nat.zero_testBit, if_neg Bool.false_ne_true]

theorem modPort_overrides (s : State) (p q : Port) (f : PortSt → PortSt) (hf : ∀ x, (f x).overrides = x.overrides) :
    ((s.modPort p f).port q).overrides = (s.port q).overrides := by
  by_cases h : q = p
  · subst h; rw [port_modPort_self, hf]
  · rw [port_modPort_ne _ _ _ _ h]

theorem loop_overrides (s : State) (p q : Port) (f : LoopSt → LoopSt) :
    ((s.loop p f).port q).overrides = (s.port q).overrides := modPort_overrides s p q _ fun _ => rfl

theorem blank2ms_overrides (s : State) (p q : Port) : ((s.blank2ms p).port q).overrides = (s.port q).overrides :=
  modPort_overrides s p q (fun x => { x with model := { x.model with blank := 2000000 } }) fun _ => rfl

theorem loadTable_overrides (s : State) (p q : Port) (t : List Byte) :
    ((s.loadTable p t).port q).overrides = (s.port q).overrides :=
  loop_overrides s p q fun l => { l with table := t, pending := none }

theorem rerate_overrides (s : State) (p q : Port) : ((s.rerate p).port q).overrides = (s.port q).overrides := by
  unfold State.rerate
  extract_lets n set s1
  have h1 : (s1.port q).overrides = (s.port q).overrides := rfl
  split
  · exact h1
  · rw [blank2ms_overrides, loop_overrides, ← h1]
    rfl

theorem loadPort_eq (s : State) (p : Port) (h : s.rd MARL.FAULT 0 = 0) :
    s.loadPort p = (s.loadTable p (s.startTable p)).rerate p := by
  unfold State.loadPort
  rw [tableGood_of_no_fault _ p ((loadTable_fault s p _).trans h)]

theorem loadPort_fault (s : State) (p : Port) (h : s.rd MARL.FAULT 0 = 0) : (s.loadPort p).rd MARL.FAULT 0 = 0 := by
  have w := State.rerate_all (mm := 0x102000000000000000000000) (pp := 0) (s.loadTable p (s.startTable p)) p rfl
    (Within.refl _ _ _)
  rw [loadPort_eq s p h, w.rd _ _ (by decide), loadTable_fault, h]

theorem loadPort_overrides (s : State) (p q : Port) (h : s.rd MARL.FAULT 0 = 0) :
    ((s.loadPort p).port q).overrides = (s.port q).overrides := by
  rw [loadPort_eq s p h, rerate_overrides, loadTable_overrides]

theorem loadPort_footprint {s0 s : State} (p : Port) (h : s.rd MARL.FAULT 0 = 0) (w : Within tableAreas 0 s0 s) :
    Within tableAreas 0 s0 (s.loadPort p) := by
  rw [loadPort_eq s p h]
  exact State.rerate_all _ p (by decide) (State.loadTable_all _ p _ (by decide) w)

theorem foldl_loadPort (l : List Port) (s : State) (q : Port) {s0 : State} (h : s.rd MARL.FAULT 0 = 0)
    (w : Within tableAreas 0 s0 s) :
    Within tableAreas 0 s0 (l.foldl State.loadPort s) ∧
      ((l.foldl State.loadPort s).port q).overrides = (s.port q).overrides := by
  induction l generalizing s with
  | nil => exact ⟨w, rfl⟩
  | cons p l ih =>
    obtain ⟨hw, ho⟩ := ih (s.loadPort p) (loadPort_fault s p h) (loadPort_footprint p h w)
    exact ⟨hw, ho.trans (loadPort_overrides s p q h)⟩

theorem loadTables_footprint (s : State) (h : s.rd MARL.FAULT 0 = 0) : Within tableAreas 0 s s.loadTables :=
  (foldl_loadPort allPorts s 0 h (Within.refl _ 0 s)).1

theorem loadTables_overrides (s : State) (q : Port) (h : s.rd MARL.FAULT 0 = 0) :
    (s.loadTables.port q).overrides = (s.port q).overrides := (foldl_loadPort allPorts s q h (Within.refl _ 0 s)).2

theorem mayEnable_of_tableAreas {s t : State} (p : Port) (w : Within tableAreas 0 s t) : t.mayEnable p = s.mayEnable p := by
  unfold State.mayEnable State.ownsPorts State.portUnwatched State.gst
  rw [w.rd PAIR.PAIR_STATE 0 (by decide), w.on PAIR.OWN_IN_OK 0 (by decide), w.on SYS.TRIM_FAIL 0 (by decide),
    w.dev (by decide), w.pow (by decide), w.rd TEST.STATE 0 (by decide), w.rd TEST.LAST_KIND 0 (by decide),
    w.rd GUARD.STATE p (by decide), w.on GUARD.A_FAILED p (by decide), w.on GUARD.B_FAILED p (by decide),
    w.on GUARD.IFAST_FAILED p (by decide), w.rd CC.ROLE p (by decide)]

theorem restoreRetired_of_none (s : State) (hp : s.retiredMask = 0) (hf : s.retiredFeeds = 0) : s.restoreRetired = s := by
  unfold State.restoreRetired State.forPorts
  rw [hp, hf]
  simp

/-! ## Enabling by the AUTO_EN mask (R157, R369) -/

/-- A writer's own value that stands in the port record is put back when the port is enabled, whatever field it names. -/
theorem portEnable_puts_back (s : State) (p : Port) (F : Field) (own host : Nat) (he : s.enabled p = false)
    (ho : (s.port p).overrides = [(F, own, host)]) (hv : s.rd F p = host)
    (hF : maskSkips 0x103080000000000000000002 F = true) : (s.portEnable p).rd F p = own % 2 ^ F.width := by
  have keep {t u : State} (w : Within 0x103080000000000000000002 0 t u) : u.rd F p = t.rd F p := w.rd F p hF
  have refl (t : State) := Within.refl 0x103080000000000000000002 0 t
  have hput : (s.restoreWriters p).rd F p = own % 2 ^ F.width := by
    unfold State.restoreWriters
    rw [ho]
    dsimp only [List.foldl]
    rw [if_pos hv]
    have hrate := keep (State.rateNow_all ((s.wr F p own).modPort p fun x => { x with overrides := [] }) p (by decide)
      (State.modPort_within _ _ _ (by decide) (refl (s.wr F p own))))
    have hwrote := hrate.trans (rd_wr_self s F p own)
    split
    · exact hwrote
    · exact (keep (State.setMode_all _ p 0 (by decide) (refl _))).trans hwrote
  refine Eq.trans (keep ?_) hput
  have hset := State.wrBit_within (s.restoreWriters p) SYS.EN 0 p true (by decide) (refl _)
  unfold State.portEnable
  rw [if_neg (by simp [he])]
  dsimp only
  split
  · exact hset
  · split
    · exact State.present_all _ p _ (by decide) (State.wr_within _ _ _ _ (by decide) hset)
    · exact State.enterUnattached_all _ p (by decide) hset

/-- One port's turn in `State.autoEnable`. -/
def State.autoPort (s : State) (p : Port) : State :=
  if !s.configFailed && (s.otpField 4 3).testBit p && s.mayEnable p then s.portEnable p else s

theorem foldl_autoPort_unmasked (l : List Port) (s : State) (hl : ∀ p ∈ l, (s.otpField 4 3).testBit p = false) :
    l.foldl State.autoPort s = s := by
  induction l with
  | nil => rfl
  | cons p l ih =>
    obtain ⟨hp, hl⟩ := List.forall_mem_cons.mp hl
    have hstep : s.autoPort p = s := if_neg (by simp [hp])
    rw [List.foldl_cons, hstep, ih hl]

theorem portEnable_otpField (s : State) (p : Port) (code i : Nat) : (s.portEnable p).otpField code i = s.otpField code i := by
  have w := State.portEnable_within (mm := 0xC0003080000000000000002) s p rfl (Within.refl _ _ s)
  unfold State.otpField State.otpUsed
  rw [w.otp rfl]

/-- Where the mask holds port 0 alone, the other ports are left as they are. -/
theorem autoEnable_port0 (s : State) (hc : s.configFailed = false) (ho : s.otpField 4 3 = 1) (hm : s.mayEnable 0 = true) :
    s.autoEnable = s.portEnable 0 := by
  have hports : allPorts = 0 :: allPorts.tail := by decide
  have hfirst : s.autoPort 0 = s.portEnable 0 := if_pos (by rw [hc, ho, hm]; decide)
  show allPorts.foldl State.autoPort s = _
  rw [hports, List.foldl_cons, hfirst]
  exact foldl_autoPort_unmasked _ _ (by rw [portEnable_otpField, ho]; decide)

/-! ## The counterexample -/

/-- A device in SAFE by RST_CTL (cause 4), whose CONFIG region names port 0 in the AUTO_EN mask, and whose record of port 0
holds SAFE_CAUSE among the registers to put back: own value 4, a host's value 0. -/
def safeWithForeignOverride : State :=
  let s : State := { State.reset with
    dev := .safe
    otp := { State.reset.otp with
      used := [(224, ⟨BitVec.ofNat 32 (4 * 2 ^ 24 + 2 ^ 16 + 30), true, false, 0, false⟩),
        (227, ⟨1, true, false, 0, false⟩)] } }
  (((s.flag SYS.READY 0 true).wr RST.SAFE_CAUSE 0 4).wr CC.ROLE 0 1).modPort 0 fun x =>
    { x with overrides := [(RST.SAFE_CAUSE, 4, 0)] }

/-- `safeWithForeignOverride` in RUN with both engines started: what `State.safeLeave` does before it loads the tables. -/
def safeLeftEnginesUp : State :=
  (((({ safeWithForeignOverride with dev := .run } : State).wr RST.SAFE_CAUSE 0 0).event EV.SAFE_EXITED 0xFF
    ((safeWithForeignOverride.up - safeWithForeignOverride.pow.safeAt) / 10 ^ 9) 0 0 0).irq RST.page 0
    RST.IRQ_SAFE_EXIT).startMarls

theorem safeLeftEnginesUp_regs :
    safeLeftEnginesUp.rd RST.SAFE_CAUSE 0 = 0 ∧ safeLeftEnginesUp.rd MARL.FAULT 0 = 0 ∧
      safeLeftEnginesUp.rd PAIR.PAIR_STATE 0 = psSolo ∧ safeLeftEnginesUp.enabled 0 = false ∧
      safeLeftEnginesUp.configFailed = false ∧ safeLeftEnginesUp.mayEnable 0 = true := by decide +kernel

theorem safeLeftEnginesUp_otp : safeLeftEnginesUp.otpField 4 3 = 1 := by decide +kernel

theorem safeLeftEnginesUp_retired : safeLeftEnginesUp.retiredMask = 0 ∧ safeLeftEnginesUp.retiredFeeds = 0 := by
  decide +kernel

theorem safeLeftEnginesUp_overrides : (safeLeftEnginesUp.port 0).overrides = [(RST.SAFE_CAUSE, 4, 0)] := by decide +kernel

theorem safeWithForeignOverride_marks : safeWithForeignOverride.failedMarks = [] := by decide +kernel

/-- The state with the tables loaded enables port 0. -/
theorem safeLeave_safeWithForeignOverride :
    safeWithForeignOverride.safeLeave = safeLeftEnginesUp.loadTables.portEnable 0 := by
  obtain ⟨-, hfault, hpair, -, hconfig, hmay⟩ := safeLeftEnginesUp_regs
  obtain ⟨hports, hfeeds⟩ := safeLeftEnginesUp_retired
  have w := loadTables_footprint safeLeftEnginesUp hfault
  have hsolo : safeLeftEnginesUp.loadTables.rd PAIR.PAIR_STATE 0 = psSolo := (w.rd _ _ (by decide)).trans hpair
  have hretired := restoreRetired_of_none safeLeftEnginesUp.loadTables ((w.retiredMask (by decide)).trans hports)
    ((w.retiredFeeds (by decide)).trans hfeeds)
  have hauto := autoEnable_port0 safeLeftEnginesUp.loadTables
    (by unfold State.configFailed at hconfig ⊢; rw [w.rd _ _ (by decide), hconfig])
    (by rw [← safeLeftEnginesUp_otp]; unfold State.otpField State.otpUsed; rw [w.otp (by decide)])
    ((mayEnable_of_tableAreas 0 w).trans hmay)
  unfold State.safeLeave
  extract_lets +onlyGivenNames -underBinder s1 s2 s3 s4
  have hs2 : s2 = safeLeftEnginesUp := rfl
  have hs4 : s4 = safeLeftEnginesUp.loadTables := by
    unfold s4 s3
    rw [safeWithForeignOverride_marks, List.foldl_nil, hs2, hretired]
  rw [hs4, if_neg (by unfold State.pairMember; rw [hsolo]; decide), if_neg (by rw [hsolo]; decide), hauto]

theorem safeLeave_safeWithForeignOverride_cause : safeWithForeignOverride.safeLeave.rd RST.SAFE_CAUSE 0 = 4 := by
  obtain ⟨hcause, hfault, -, hoff, -⟩ := safeLeftEnginesUp_regs
  have w := loadTables_footprint safeLeftEnginesUp hfault
  rw [safeLeave_safeWithForeignOverride]
  exact portEnable_puts_back _ 0 RST.SAFE_CAUSE 4 0
    (by unfold State.enabled State.bit at hoff ⊢; rw [w.rd _ _ (by decide), hoff])
    ((loadTables_overrides _ 0 hfault).trans safeLeftEnginesUp_overrides) ((w.rd _ _ (by decide)).trans hcause) (by decide)

/-- Refutes O37: its clause on SAFE_EXIT speaks of every state, and in one whose record of port 0 holds SAFE_CAUSE among the
registers to put back (R214), SAFE_EXIT enables the port by the AUTO_EN mask (R546) and so writes the cause again. The model
itself puts LOOP registers only into such a record; the statement does not require that of the state. -/
theorem not_registerWritesTakeEffect : ¬ Obligations.RegisterWritesTakeEffect := by
  intro h
  obtain ⟨-, -, -, -, -, -, -, -, -, -, -, -, -, -, -, -, -, -, -, -,
    -, -, -, -, -, -, -, -, -, -, -, -, -, -, -, hexit, -⟩ := h
  have hready : safeWithForeignOverride.on SYS.READY 0 = true := by decide +kernel
  have hsafe : safeWithForeignOverride.dev = .safe := rfl
  have hcleared : safeWithForeignOverride.safeCleared = true := by decide +kernel
  obtain ⟨t, ht, -, hcause⟩ := hexit safeWithForeignOverride hready hsafe hcleared
  have hleave : safeWithForeignOverride.safeLeave = t :=
    Host.Outcome.next.inj ((exec_safeExit hready hsafe hcleared).symm.trans ht)
  rw [← hleave, safeLeave_safeWithForeignOverride_cause] at hcause
  exact absurd hcause (by decide)

end Sys2Proof.Machine
end

section
/-! PROOFS. The footprint of every command: the lemmas `exec<Constructor>_within` put together over the constructors of Instr
(R18, R421, R422, R428), and O5. -/
set_option linter.all false

namespace Sys2Proof.Machine

/-- The commands that may change anything at all name every area; as a mask. -/
theorem areaMask_changes_recoveryRom : areaMask (changes .recoveryRom) = 0x3FFFFFFFFFFFFFFFFFFFFFFFFFFFFFFFFFF := by
  decide +kernel

theorem within_everyArea {c : Instr} {p : Nat} {s t : State} (hc : changes c = changes .recoveryRom)
    (h : Within 0x3FFFFFFFFFFFFFFFFFFFFFFFFFFFFFFFFFF p s t) : Within (areaMask (changes c)) p s t := by
  rw [hc, areaMask_changes_recoveryRom]
  exact h

/-- Each command's meaning stays in the mask of its own footprint lemma, which is the mask of the areas that `changes`
names. -/
theorem exec_within (c : Instr) (s t : State) (h : exec c s = .next t) :
    Within (areaMask (changes c)) (ownPortOf c) s t := by
  cases c with
  | nop k => exact execNop_within _ k s t h
  | getInfo k => exact execGetInfo_within _ k s t h
  | setPolicy k => exact execSetPolicy_within _ k s t h
  | getPolicy k => exact execGetPolicy_within _ k s t h
  | snapshot k => exact execSnapshot_within _ k s t h
  | readSnap k => exact execReadSnap_within _ k s t h
  | timeSet k => exact execTimeSet_within _ k s t h
  | timeGet k => exact execTimeGet_within _ k s t h
  | warmReset k => exact execWarmReset_within _ k s t h
  | portEnable k => exact execPortEnable_within _ k s t h
  | portDisable k => exact execPortDisable_within _ k s t h
  | portSetProfile k => exact execPortSetProfile_within _ k s t h
  | portGetState k => exact execPortGetState_within _ k s t h
  | portSwap k => exact execPortSwap_within _ k s t h
  | portHardReset k => exact execPortHardReset_within _ k s t h
  | portSendVdm k => exact execPortSendVdm_within _ k s t h
  | portClearFault k => exact execPortClearFault_within _ k s t h
  | portTest k => exact execPortTest_within _ k s t h
  | ledgerRead k => exact execLedgerRead_within _ k s t h
  | ledgerFind k => exact execLedgerFind_within _ k s t h
  | ledgerWriteUser k => exact execLedgerWriteUser_within _ k s t h
  | ledgerExport k => exact execLedgerExport_within _ k s t h
  | ledgerPurge k => exact execLedgerPurge_within _ k s t h
  | updBegin k => exact within_everyArea rfl (execUpdBegin_within _ k s t h)
  | updData k => exact within_everyArea rfl (execUpdData_within _ k s t h)
  | updEnd k ms => exact within_everyArea rfl (execUpdEnd_within _ k ms s t h)
  | updStatus k => exact within_everyArea rfl (execUpdStatus_within _ k s t h)
  | updCommit k e => exact within_everyArea rfl (execUpdCommit_within _ k e s t h)
  | updAbort k => exact within_everyArea rfl (execUpdAbort_within _ k s t h)
  | coreReload k => exact execCoreReload_within _ k s t h
  | coreRetire k => exact execCoreRetire_within _ k s t h
  | otpRead k => exact execOtpRead_within _ k s t h
  | otpProgram k e => exact execOtpProgram_within _ k e s t h
  | otpLock k => exact execOtpLock_within _ k s t h
  | otpMarginScan k => exact execOtpMarginScan_within _ k s t h
  | pairEnrol k => exact execPairEnrol_within _ k s t h
  | pairStatus k => exact execPairStatus_within _ k s t h
  | pairHandover k => exact execPairHandover_within _ k s t h
  | pairLeave k => exact execPairLeave_within _ k s t h
  | weftSend k => exact execWeftSend_within _ k s t h
  | weftRoute k => exact execWeftRoute_within _ k s t h
  | weftStatus k => exact execWeftStatus_within _ k s t h
  | stopPort k weft => exact execStopPort_within _ k weft s t h
  | stopGroup k weft => exact execStopGroup_within _ k weft s t h
  | stopAll k weft => exact execStopAll_within _ k weft s t h
  | shedTo k weft => exact execShedTo_within _ k weft s t h
  | release k weft => exact execRelease_within _ k weft s t h
  | spiRead a n sck late cut => exact execSpiRead_within _ a n sck late cut s t h
  | qread a n sck late cut => exact execQread_within _ a n sck late cut s t h
  | spiWrite a ws cut ok => exact execSpiWrite_within _ a ws cut ok s t h
  | qwrite a ws cut ok => exact execQwrite_within _ a ws cut ok s t h
  | spiStatus => exact execSpiStatus_within _ s t h
  | push ring l ok busy => exact execPush_within _ ring l ok busy s t h
  | pull ring whole => exact execPull_within _ ring whole s t h
  | spiStop b => exact execSpiStop_within _ b s t h
  | spiUnknownOpcode op => exact execSpiUnknownOpcode_within _ op s t h
  | devStatus => exact execDevStatus_within _ s t h
  | portSummary => exact execPortSummary_within _ s t h
  | faultSummary => exact execFaultSummary_within _ s t h
  | setPtr count l pec => exact execSetPtr_within _ count l pec s t h
  | readReg all pecRead => exact execReadReg_within _ all pecRead s t h
  | writeReg count l pec => exact execWriteReg_within _ count l pec s t h
  | pushFrag count l pec => exact execPushFrag_within _ count l pec s t h
  | pullFragNext count ring reserved => exact execPullFragNext_within _ count ring reserved s t h
  | pullFragAgain count ring => exact execPullFragAgain_within _ count ring s t h
  | pullFragRestart count ring => exact execPullFragRestart_within _ count ring s t h
  | smbStop b pec => exact execSmbStop_within _ b pec s t h
  | smbUnknownCommand cmd => exact execSmbUnknownCommand_within _ cmd s t h
  | smbProtocolError => exact execSmbProtocolError_within _ s t h
  | smbSclTimeout => exact execSmbSclTimeout_within _ s t h
  | smbStretchLimit pull ready => exact execSmbStretchLimit_within _ pull ready s t h
  | fragAssemblyTimeout => exact execFragAssemblyTimeout_within _ s t h
  | fragDeliveryTimeout => exact execFragDeliveryTimeout_within _ s t h
  | recover freed => exact execRecover_within _ freed s t h
  | clearAsm => exact execClearAsm_within _ s t h
  | hostNotify r => exact execHostNotify_within _ r s t h
  | notifyRetry r => exact execNotifyRetry_within _ r s t h
  | smbWatchWake => exact execSmbWatchWake_within _ s t h
  | spiWake => exact execSpiWake_within _ s t h
  | irqRepulse => exact execIrqRepulse_within _ s t h
  | registerWrite i a v => exact execRegisterWrite_within _ i a v s t h
  | irqStatClear g mask => exact execIrqStatClear_within _ g mask s t h
  | irqForce g mask => exact execIrqForce_within _ g mask s t h
  | pageLock g => exact execPageLock_within _ g s t h
  | blockReset g => exact execBlockReset_within _ g s t h
  | pageEnableWrite g en => exact execPageEnableWrite_within _ g en s t h
  | modeWrite p m => exact execModeWrite_within p m s t h
  | periodWrite p v => exact execPeriodWrite_within p v s t h
  | phaseWrite p v => exact execPhaseWrite_within p v s t h
  | satFlagsClear p mask => exact execSatFlagsClear_within p mask s t h
  | softStart p byTwill => exact execSoftStart_within p byTwill s t h
  | closeMatched p byTwill vconvMv vbusMv => exact execCloseMatched_within p byTwill vconvMv vbusMv s t h
  | openCmd p byTwill => exact execOpenCmd_within p byTwill s t h
  | openLow p byTwill => exact execOpenLow_within p byTwill s t h
  | openIdle p byTwill => exact execOpenIdle_within p byTwill s t h
  | commitA p => exact execCommitA_within p s t h
  | commitB p => exact execCommitB_within p s t h
  | feedCommitA => exact execFeedCommitA_within _ s t h
  | feedCommitB => exact execFeedCommitB_within _ s t h
  | clearA repaired => exact execClearA_within _ repaired s t h
  | clearB repaired => exact execClearB_within _ repaired s t h
  | forceCmd v => exact execForceCmd_within _ v s t h
  | cableReset p => exact execCableReset_within p s t h
  | hardReset p => exact execHardReset_within p s t h
  | softReset p => exact execSoftReset_within p s t h
  | warm => exact execWarm_within _ s t h
  | safeEnter => exact execSafeEnter_within _ s t h
  | safeExit => exact execSafeExit_within _ s t h
  | req => exact execReq_within _ s t h
  | mbist failed => exact execMbist_within _ failed s t h
  | adcRequalification ok => exact execAdcRequalification_within _ ok s t h
  | scrubPass corrected => exact execScrubPass_within _ corrected s t h
  | mailboxCommit from_ m w0 staged => exact execMailboxCommit_within _ from_ m w0 staged s t h
  | mailboxRead m => exact execMailboxRead_within _ m s t h
  | timeLoRead => exact execTimeLoRead_within _ s t h
  | ccOvpClear p cc1Mv cc2Mv => exact execCcOvpClear_within p cc1Mv cc2Mv s t h
  | vconnForceOff p v => exact execVconnForceOff_within p v s t h
  | windowWrite a v => exact execWindowWrite_within _ a v s t h
  | commandDispatch e => exact execCommandDispatch_within _ e s t h
  | eventRecordWrite q coal sev port code src d4 d5 d6 d7 =>
    exact execEventRecordWrite_within _ q coal sev port code src d4 d5 d6 d7 s t h
  | ringThrottleTick q => exact execRingThrottleTick_within _ q s t h
  | mailboxAborted e => exact execMailboxAborted_within _ e s t h
  | doorbellWake e => exact execDoorbellWake_within _ e s t h
  | rdDetected p mv1 mv2 => exact execRdDetected_within p mv1 mv2 s t h
  | rpDetected p mv1 mv2 => exact execRpDetected_within p mv1 mv2 s t h
  | tCcdebounceExpiry p vbusMv => exact execTCcdebounceExpiry_within p vbusMv s t h
  | tPddebounceExpiry p => exact execTPddebounceExpiry_within p s t h
  | tDrpToggle p => exact execTDrpToggle_within p s t h
  | tryTimerExpiry p x v => exact execTryTimerExpiry_within p x v s t h
  | tErrorRecoveryExpiry p => exact execTErrorRecoveryExpiry_within p s t h
  | rpValueChange p mv => exact execRpValueChange_within p mv s t h
  | ccOpenQ x => exact execCcOpenQ_within x s t h
  | ccOpenQRelease p => exact execCcOpenQRelease_within p s t h
  | ccGlitch x => exact execCcGlitch_within x s t h
  | fastDetachOpening p => exact execFastDetachOpening_within p s t h
  | sinkCcOpen p => exact execSinkCcOpen_within p s t h
  | vconnOcp p => exact execVconnOcp_within p s t h
  | vconnReclose p => exact execVconnReclose_within p s t h
  | vconnRev p => exact execVconnRev_within p s t h
  | vconnClaim p => exact execVconnClaim_within p s t h
  | cableDiscoveryAttempt p reply => exact execCableDiscoveryAttempt_within p reply s t h
  | ccOvp p ibusMa vbusMv => exact execCcOvp_within p ibusMa vbusMv s t h
  | watchSample cc mons => exact execWatchSample_within _ cc mons s t h
  | frameReceived p f check len rev byOwner => exact execFrameReceived_within p f check len rev byOwner s t h
  | frameTransmit p f ams => exact execFrameTransmit_within p f ams s t h
  | goodcrcReceived p k id => exact execGoodcrcReceived_within p k id s t h
  | tReceiveExpiry p => exact execTReceiveExpiry_within p s t h
  | tSinktxExpiry p => exact execTSinktxExpiry_within p s t h
  | sinktxokRead p => exact execSinktxokRead_within p s t h
  | hardResetReceived p vbusMv => exact execHardResetReceived_within p vbusMv s t h
  | hardResetSent p vbusMv => exact execHardResetSent_within p vbusMv s t h
  | chunkReceived p k m c data => exact execChunkReceived_within p k m c data s t h
  | tChunkSenderResponseExpiry p k => exact execTChunkSenderResponseExpiry_within p k s t h
  | tChunkingNotSupportedExpiry p => exact execTChunkingNotSupportedExpiry_within p s t h
  | refusedMessage p m => exact execRefusedMessage_within p m s t h
  | discoverIdentitySop p => exact execDiscoverIdentitySop_within p s t h
  | structuredVdmRequest p attention => exact execStructuredVdmRequest_within p attention s t h
  | getBatteryCap p status => exact execGetBatteryCap_within p status s t h
  | getManufacturerInfo p => exact execGetManufacturerInfo_within p s t h
  | getSinkCap p q => exact execGetSinkCap_within p q s t h
  | getSourceCap p q => exact execGetSourceCap_within p q s t h
  | getStatus p => exact execGetStatus_within p s t h
  | getPpsStatus p => exact execGetPpsStatus_within p s t h
  | getSourceInfo p => exact execGetSourceInfo_within p s t h
  | getRevision p => exact execGetRevision_within p s t h
  | sourceCapabilitiesSent x => exact execSourceCapabilitiesSent_within x s t h
  | tSourceCapabilityExpiry p => exact execTSourceCapabilityExpiry_within p s t h
  | request p r => exact execRequest_within p r s t h
  | eprRequest p r copy => exact execEprRequest_within p r copy s t h
  | sourceCapabilitiesReceived p caps f => exact execSourceCapabilitiesReceived_within p caps f s t h
  | tTypecSinkWaitCapExpiry p => exact execTTypecSinkWaitCapExpiry_within p s t h
  | tPsTransitionExpiry p vbusMv => exact execTPsTransitionExpiry_within p vbusMv s t h
  | sinkAcceptReceived p => exact execSinkAcceptReceived_within p s t h
  | sinkPsRdyReceived p => exact execSinkPsRdyReceived_within p s t h
  | tSrcTransitionExpiry p => exact execTSrcTransitionExpiry_within p s t h
  | rampComplete p => exact execRampComplete_within p s t h
  | vbusSettled p vbusMv => exact execVbusSettled_within p vbusMv s t h
  | settleTimeout p vbusMv => exact execSettleTimeout_within p vbusMv s t h
  | ppsUndervoltage p vbusMv => exact execPpsUndervoltage_within p vbusMv s t h
  | eprModeEnter p => exact execEprModeEnter_within p s t h
  | eprModeExit p => exact execEprModeExit_within p s t h
  | eprAutoExit p => exact execEprAutoExit_within p s t h
  | eprExitTimeout p => exact execEprExitTimeout_within p s t h
  | eprKeepalive p => exact execEprKeepalive_within p s t h
  | tPpsTimeoutExpiry p => exact execTPpsTimeoutExpiry_within p s t h
  | tSourceEprKeepaliveExpiry p => exact execTSourceEprKeepaliveExpiry_within p s t h
  | sinkKeepaliveInterval x => exact execSinkKeepaliveInterval_within x s t h
  | softResetReceived p k => exact execSoftResetReceived_within p k s t h
  | tPsHardResetExpiry p => exact execTPsHardResetExpiry_within p s t h
  | vbusBelow4v p => exact execVbusBelow4v_within p s t h
  | vbusAtVsafe0v p => exact execVbusAtVsafe0v_within p s t h
  | tSrcRecoverExpiry p => exact execTSrcRecoverExpiry_within p s t h
  | tSafe0vExpiry p => exact execTSafe0vExpiry_within p s t h
  | detachInTransition p => exact execDetachInTransition_within p s t h
  | prSwap p => exact execPrSwap_within p s t h
  | drSwap p => exact execDrSwap_within p s t h
  | vconnSwap p => exact execVconnSwap_within p s t h
  | tVconnSourceTimeoutExpiry p => exact execTVconnSourceTimeoutExpiry_within p s t h
  | ownPrSwap p => exact execOwnPrSwap_within p s t h
  | swapRepeat p => exact execSwapRepeat_within p s t h
  | prSwapSourceAccepted p => exact execPrSwapSourceAccepted_within p s t h
  | prSwapSourceOff p => exact execPrSwapSourceOff_within p s t h
  | prSwapPartnerPsRdy p vconvMv vbusMv => exact execPrSwapPartnerPsRdy_within p vconvMv vbusMv s t h
  | prSwapSinkAccepted p => exact execPrSwapSinkAccepted_within p s t h
  | prSwapSinkPsRdy p => exact execPrSwapSinkPsRdy_within p s t h
  | tPsSourceOnExpiry p => exact execTPsSourceOnExpiry_within p s t h
  | tPsSourceOffExpiry p => exact execTPsSourceOffExpiry_within p s t h
  | tSwapSourceStartExpiry p => exact execTSwapSourceStartExpiry_within p s t h
  | frsSignalDetected p vbusMv => exact execFrsSignalDetected_within p vbusMv s t h
  | frSwap p => exact execFrSwap_within p s t h
  | frsNoFrSwap p => exact execFrsNoFrSwap_within p s t h
  | bankFrsFire => exact execBankFrsFire_within _ s t h
  | bankFrsArm => exact execBankFrsArm_within _ s t h
  | islandEnd => exact execIslandEnd_within _ s t h
  | returnSwap => exact execReturnSwap_within _ s t h
  | identityGathering p e => exact execIdentityGathering_within p e s t h
  | authentication p e => exact execAuthentication_within p e s t h
  | batteryStatusRefresh p => exact execBatteryStatusRefresh_within p s t h
  | sessionClose p => exact execSessionClose_within p s t h
  | ledgerJournal slot ok => exact execLedgerJournal_within _ slot ok s t h
  | ledgerCompaction done => exact execLedgerCompaction_within _ done s t h
  | managementTick feedMv feedMa => exact execManagementTick_within _ feedMv feedMa s t h
  | offerReadvertise p => exact execOfferReadvertise_within p s t h
  | selfShed => exact execSelfShed_within _ s t h
  | forcedReadvShed p => exact execForcedReadvShed_within p s t h
  | shedExpiry p => exact execShedExpiry_within p s t h
  | innerLoopBoundary p => exact execInnerLoopBoundary_within p s t h
  | coefficientSwap p => exact execCoefficientSwap_within p s t h
  | tableCrcCheck bad => exact execTableCrcCheck_within _ bad s t h
  | deadlineMiss missed => exact execDeadlineMiss_within missed s t h
  | engineRestored e => exact execEngineRestored_within _ e s t h
  | modelOuterStep p => exact execModelOuterStep_within p s t h
  | plausAlarm p => exact execPlausAlarm_within p s t h
  | plausAction p => exact execPlausAction_within p s t h
  | plausAlarmRelease p => exact execPlausAlarmRelease_within p s t h
  | foldbackClear p => exact execFoldbackClear_within p s t h
  | learningWindowEnd p => exact execLearningWindowEnd_within p s t h
  | probeStart p => exact execProbeStart_within p s t h
  | adcBurst p i0 vbus vconv late dropped => exact execAdcBurst_within p i0 vbus vconv late dropped s t h
  | senseStale x => exact execSenseStale_within _ x s t h
  | calibrationStep diff1 offset gain diff4 => exact execCalibrationStep_within _ diff1 offset gain diff4 s t h
  | adcMismatch errK err8 => exact execAdcMismatch_within _ errK err8 s t h
  | housekeepingFrame bus fa fb ia ib tDie tExt rails =>
    exact execHousekeepingFrame_within _ bus fa fb ia ib tDie tExt rails s t h
  | periodStart p => exact execPeriodStart_within p s t h
  | drvEnFall g => exact execDrvEnFall_within _ g s t h
  | drvSetupExpiry g => exact execDrvSetupExpiry_within _ g s t h
  | forwardCheck p vbusMv ibusMa => exact execForwardCheck_within p vbusMv ibusMa s t h
  | vconvNotReady p => exact execVconvNotReady_within p s t h
  | firstGateMark p us => exact execFirstGateMark_within p us s t h
  | vbusAbove475 p => exact execVbusAbove475_within p s t h
  | guardOn p us => exact execGuardOn_within p us s t h
  | rampFail p ibusMa vbusMv => exact execRampFail_within p ibusMa vbusMv s t h
  | fetDamaged p ibusMa vbusMv => exact execFetDamaged_within p ibusMa vbusMv s t h
  | ifast p uv nsFromGate ibusMa vbusMv => exact execIfast_within p uv nsFromGate ibusMa vbusMv s t h
  | monitorCrossing p c mv ibusMa vbusMv => exact execMonitorCrossing_within p c mv ibusMa vbusMv s t h
  | limitCounterUpdate p => exact execLimitCounterUpdate_within p s t h
  | curveUpdate p => exact execCurveUpdate_within p s t h
  | fetShorted p c ibusMa vbusMv vconvMv => exact execFetShorted_within p c ibusMa vbusMv vconvMv s t h
  | revChkDone p vbusMv vconvMv => exact execRevChkDone_within p vbusMv vconvMv s t h
  | trip p c others ibusMa vbusMv => exact execTrip_within p c others ibusMa vbusMv s t h
  | retryTExpiry p => exact execRetryTExpiry_within p s t h
  | dischargeDone p => exact execDischargeDone_within p s t h
  | dischargeFail p vbusMv => exact execDischargeFail_within p vbusMv s t h
  | monitorAlternation at_ r => exact execMonitorAlternation_within _ at_ r s t h
  | cspWindowCheck m r => exact execCspWindowCheck_within _ m r s t h
  | ifastCheck m zero pos neg below => exact execIfastCheck_within _ m zero pos neg below s t h
  | monDisagree p csp mv reads => exact execMonDisagree_within p csp mv reads s t h
  | monFailed m step => exact execMonFailed_within _ m step s t h
  | monCheckDue p => exact execMonCheckDue_within p s t h
  | feedHealthy f both => exact execFeedHealthy_within _ f both s t h
  | feedWindowLoss f => exact execFeedWindowLoss_within _ f s t h
  | switchover outOff markMet => exact execSwitchover_within _ outOff markMet s t h
  | gapExpiry => exact execGapExpiry_within _ s t h
  | hotInsertion e => exact execHotInsertion_within _ e s t h
  | feedOn => exact execFeedOn_within _ s t h
  | offerHoldRelease => exact execOfferHoldRelease_within _ s t h
  | autoReturn => exact execAutoReturn_within _ s t h
  | feedTrip f c others iFeed => exact execFeedTrip_within _ f c others iFeed s t h
  | feedRetryExpiry f => exact execFeedRetryExpiry_within _ f s t h
  | feedReverse f iFeed => exact execFeedReverse_within _ f iFeed s t h
  | busLoss mv => exact execBusLoss_within _ mv s t h
  | busOv mv => exact execBusOv_within _ mv s t h
  | supplyFault x mv => exact execSupplyFault_within _ x mv s t h
  | snapPinEdge lowNs => exact execSnapPinEdge_within _ lowNs s t h
  | snapBoundary => exact execSnapBoundary_within _ s t h
  | snapPinDrive => exact execSnapPinDrive_within _ s t h
  | holdExpired b => exact execHoldExpired_within _ b s t h
  | linkTraining l e => exact execLinkTraining_within _ l e s t h
  | linkDown k w => exact execLinkDown_within _ k w s t h
  | cellReceived l c x good => exact execCellReceived_within _ l c x good s t h
  | cellDelivered l c => exact execCellDelivered_within _ l c s t h
  | credit l c n => exact execCredit_within _ l c n s t h
  | assemblyTimeout src msgId => exact execAssemblyTimeout_within _ src msgId s t h
  | sync l y => exact execSync_within _ l y s t h
  | syncSend => exact execSyncSend_within _ s t h
  | delayReq l d => exact execDelayReq_within _ l d s t h
  | holdover => exact execHoldover_within _ s t h
  | hello l id valid => exact execHello_within _ l id valid s t h
  | ownInLoss => exact execOwnInLoss_within _ s t h
  | claimComplete us => exact execClaimComplete_within _ us s t h
  | yieldOutRelease => exact execYieldOutRelease_within _ s t h
  | yieldIn level => exact execYieldIn_within _ level s t h
  | takeover us => exact execTakeover_within _ us s t h
  | ownOutToggle edge => exact execOwnOutToggle_within _ edge s t h
  | selvedgeTraining e => exact execSelvedgeTraining_within _ e s t h
  | selvedgeFrame good seq b => exact execSelvedgeFrame_within _ good seq b s t h
  | selvedgeRetransmit => exact execSelvedgeRetransmit_within _ s t h
  | loopFrameSend g => exact execLoopFrameSend_within _ g s t h
  | urgent stop shed => exact execUrgent_within _ stop shed s t h
  | handover e => exact execHandover_within _ e s t h
  | coldStart x => exact execColdStart_within _ x s t h
  | warmStart x => exact execWarmStart_within _ x s t h
  | coreLoadFail e => exact execCoreLoadFail_within _ e s t h
  | autoConfirm e => exact execAutoConfirm_within _ e s t h
  | deltaBlock good => exact execDeltaBlock_within _ good s t h
  | updResumed readOk => exact execUpdResumed_within _ readOk s t h
  | hostBoot ms => exact execHostBoot_within _ ms s t h
  | recoveryRom => exact within_everyArea rfl (execRecoveryRom_within _ s t h)
  | powerOnResetRelease boot saddr => exact execPowerOnResetRelease_within _ boot saddr s t h
  | brownout rail => exact within_everyArea rfl (execBrownout_within _ rail s t h)
  | resetNLow lowNs boot saddr => exact within_everyArea rfl (execResetNLow_within _ lowNs boot saddr s t h)
  | clockLoss c back => exact execClockLoss_within _ c back s t h
  | sscChange => exact execSscChange_within _ s t h
  | warmStorm => exact execWarmStorm_within _ s t h
  | watchEntry idle => exact execWatchEntry_within _ idle s t h
  | wake src us sleptNs => exact execWake_within _ src us sleptNs s t h
  | wakeTimer => exact execWakeTimer_within _ s t h
  | safeEntry c => exact execSafeEntry_within _ c s t h
  | thermalWarn tDie => exact execThermalWarn_within _ tDie s t h
  | thermalShutdown tDie => exact execThermalShutdown_within _ tDie s t h
  | twillHeartbeatLoss k => exact execTwillHeartbeatLoss_within _ k s t h
  | loamHeartbeatLoss => exact execLoamHeartbeatLoss_within _ s t h
  | twillResync p => exact execTwillResync_within p s t h
  | scrub corrected => exact execScrub_within _ corrected s t h
  | eccUncorr word block a => exact execEccUncorr_within _ word block a s t h
  | blockRemapped block => exact execBlockRemapped_within _ block s t h
  | chalkLockstep => exact execChalkLockstep_within _ s t h
  | watchdogExpiry => exact execWatchdogExpiry_within _ s t h
  | chalkForced p c release => exact execChalkForced_within p c release s t h
  | engineAutoRetired e => exact execEngineAutoRetired_within _ e s t h
  | serviceRaise e => exact execServiceRaise_within _ e s t h
  | testDeferralExpiry p r => exact execTestDeferralExpiry_within p r s t h
  | tSenderResponseExpiry p => exact execTSenderResponseExpiry_within p s t h
  | tVdmSenderResponseExpiry p => exact execTVdmSenderResponseExpiry_within p s t h
  | supplyRecovered x => exact execSupplyRecovered_within _ x s t h
  | busOvCleared => exact execBusOvCleared_within _ s t h
  | busRecovered => exact execBusRecovered_within _ s t h
  | mirrorLost => exact execMirrorLost_within _ s t h
  | loopDataStale p => exact execLoopDataStale_within p s t h
  | openIdleMet p => exact execOpenIdleMet_within p s t h
  | vconnPinDischarged x => exact execVconnPinDischarged_within x s t h
  | sinkVbusLoss p => exact execSinkVbusLoss_within p s t h
  | sinkVbusReturn p vbusMv => exact execSinkVbusReturn_within p vbusMv s t h
  | sinkHardResetTimeout p => exact execSinkHardResetTimeout_within p s t h
  | notifyMinExpiry r => exact execNotifyMinExpiry_within _ r s t h
  | secondaryClaimWait => exact execSecondaryClaimWait_within _ s t h

/-- Settles O5, by the footprint lemma of every command. -/
theorem everyCommandStaysInItsAreas : Obligations.EveryCommandStaysInItsAreas := by
  unfold Obligations.EveryCommandStaysInItsAreas
  exact exec_within

end Sys2Proof.Machine
end

section
/-! PROOFS. The operations of the port power-path guard (R264 to R268, R287) on the guard's registers and record: what each sets
and what it leaves. -/
set_option linter.all false

namespace Sys2Proof.Machine

/-! ## Events and error codes -/

theorem event_rd (s : State) (k : EvKind) (p : Port) (d4 d5 d6 d7 : Nat) (F : Field) (i : Nat)
    (h : maskSkips 0x480000000000000000140000 F = true) : (s.event k p d4 d5 d6 d7).rd F i = s.rd F i :=
  (State.event_own s k d4 d5 d6 d7 rfl (Within.refl _ p s)).rd F i h

theorem event_on (s : State) (k : EvKind) (p : Port) (d4 d5 d6 d7 : Nat) (F : Field) (i : Nat)
    (h : maskSkips 0x480000000000000000140000 F = true) : (s.event k p d4 d5 d6 d7).on F i = s.on F i := by
  unfold State.on
  rw [event_rd s k p d4 d5 d6 d7 F i h]

theorem writeRec_port (s : State) (q : Fin 40) (coal : Bool) (e : EvRec) (hq : 5 ≤ q.val) (p : Port) :
    (s.writeRec q coal e).port p = s.port p :=
  (State.writeRec_within s q coal e (m := 0x400000000000000000140000) (.inl hq) rfl
    (Within.refl _ 0 s)).ports p rfl (.inl rfl)

/-- An event notes itself in the session of the port whose ring it goes to; the rest of each port's record stays (R359, R361). -/
theorem event_port (s : State) (k : EvKind) (n d4 d5 d6 d7 : Nat) (p : Port) :
    ∃ x, (s.event k n d4 d5 d6 d7).port p = { s.port p with sess := x } := by
  unfold State.event State.eventSev
  simp only [writeRec_port _ _ _ _ (EvKind.ringOf_ge k n)]
  split
  · split
    next h =>
      by_cases hp : p = ⟨n, h⟩
      · subst hp; exact ⟨_, port_modPort_self _ _ _⟩
      · exact ⟨_, port_modPort_ne _ _ _ _ hp⟩
    next => exact ⟨_, rfl⟩
  · exact ⟨_, rfl⟩

@[simp] theorem event_guard (s : State) (k : EvKind) (n d4 d5 d6 d7 : Nat) (p : Port) :
    ((s.event k n d4 d5 d6 d7).port p).guard = (s.port p).guard := by
  obtain ⟨x, hx⟩ := event_port s k n d4 d5 d6 d7 p
  rw [hx]

@[simp] theorem event_loop (s : State) (k : EvKind) (n d4 d5 d6 d7 : Nat) (p : Port) :
    ((s.event k n d4 d5 d6 d7).port p).loop = (s.port p).loop := by
  obtain ⟨x, hx⟩ := event_port s k n d4 d5 d6 d7 p
  rw [hx]

/-- ERR_CODE names the status that is recorded (R18, R422). -/
theorem errF_code (s : State) (F : Field) (i code : Nat) (h : code < 256) :
    (s.errF F i code).rd (ERR_CODE F.page) i = code := by
  unfold State.errF State.err
  rw [rd_wr_ne _ _ _ _ _ _ (by unfold Field.key ERR_CODE ERR_OFFSET; dsimp only; omega), rd_wr_self]
  exact Nat.mod_eq_of_lt h

/-- Recording a status leaves every register but ERR_CODE of its page (R422). -/
theorem errF_rd (s : State) (F G : Field) (i j code : Nat) (hq : G.apart (ERR_SEQ F.page) = true)
    (hc : G.apart (ERR_CODE F.page) = true) (ho : G.apart (ERR_OFFSET F.page) = true) :
    (s.errF F i code).rd G j = s.rd G j := by
  unfold State.errF State.err
  rw [rd_wr _ _ _ _ _ _ ho, rd_wr _ _ _ _ _ _ hc, rd_wr _ _ _ _ _ _ hq]

/-! ## GUARD_STAT.STATE -/

theorem gst_guardTo (s : State) (p : Port) (st : Nat) (h : st < 256) : (s.guardTo p st).gst p = st := by
  unfold State.guardTo
  split
  · assumption
  · simp (disch := decide) only [State.gst, State.checksIdle, State.grd_rd, rd_flag, rd_wr, rd_wr_self]
    exact Nat.mod_eq_of_lt h

/-- A change of state ends a check in progress (R298); every other register of the guard stays. -/
theorem guardTo_rd (s : State) (p : Port) (st : Nat) (F : Field) (i : Nat) (h0 : F.apart GUARD.STATE = true)
    (h1 : F.apart GUARD.CHECKING = true) (h2 : F.apart GUARD.CHK_STEP = true) (h3 : F.apart GUARD.STANDIN = true) :
    (s.guardTo p st).rd F i = s.rd F i := by
  unfold State.guardTo
  split
  · rfl
  · unfold State.checksIdle
    rw [State.grd_rd, rd_flag _ _ _ _ _ _ h3, rd_wr _ _ _ _ _ _ h2, rd_flag _ _ _ _ _ _ h1, rd_wr _ _ _ _ _ _ h0]

theorem guardTo_on (s : State) (p : Port) (st : Nat) (F : Field) (i : Nat) (h0 : F.apart GUARD.STATE = true)
    (h1 : F.apart GUARD.CHECKING = true) (h2 : F.apart GUARD.CHK_STEP = true) (h3 : F.apart GUARD.STANDIN = true) :
    (s.guardTo p st).on F i = s.on F i := by
  unfold State.on
  rw [guardTo_rd s p st F i h0 h1 h2 h3]

@[simp] theorem guardTo_closing (s : State) (p : Port) (st : Nat) :
    ((s.guardTo p st).port p).guard.closing = (s.port p).guard.closing := by
  unfold State.guardTo
  split
  · rfl
  · rw [port_grd_self]; rfl

/-! ## The gate and DSG -/

theorem dsgOn_on (s : State) (p : Port) : (s.dsgOn p).on GUARD.DSG_ON p = true := by
  unfold State.dsgOn
  rw [on_flag _ _ _ _ _ _ (by decide), on_flag_self _ _ _ _ (by decide)]

/-- VG − VS falls: the switch is off, and no closure and no pending opening is left (R264). -/
theorem gateOff_off (s : State) (p : Port) :
    (s.gateOff p).on GUARD.GATE_OFF p = true ∧ ((s.gateOff p).port p).guard.closing = .none := by
  unfold State.gateOff
  exact ⟨on_flag_self _ _ _ _ (by decide), by simp⟩

/-- An opening without a trip of a switch that is on or closing (R264, R265, R287). -/
theorem openPlanned_opens (s : State) (p : Port) (h : s.switchOn p = true ∨ (s.port p).guard.closing ≠ .none) :
    (s.openPlanned p).gst p = gDischarge ∧ (s.openPlanned p).on GUARD.GATE_OFF p = true ∧
      (s.openPlanned p).on GUARD.DSG_ON p = true ∧ ((s.openPlanned p).port p).guard.closing = .none := by
  obtain ⟨hoff, hclosing⟩ := gateOff_off s p
  unfold State.openPlanned
  rw [if_pos (by simpa using h)]
  refine ⟨?_, ?_, ?_, ?_⟩
  · unfold State.gst
    rw [rd_irq _ _ _ _ _ _ (by decide), State.grd_rd]
    exact gst_guardTo _ _ _ (by decide)
  · rw [on_irq _ _ _ _ _ _ (by decide), State.grd_on, guardTo_on _ _ _ _ _ (by decide) (by decide) (by decide) (by decide)]
    unfold State.dsgOn
    rw [on_flag _ _ _ _ _ _ (by decide), on_flag _ _ _ _ _ _ (by decide), hoff]
  · rw [on_irq _ _ _ _ _ _ (by decide), State.grd_on, guardTo_on _ _ _ _ _ (by decide) (by decide) (by decide) (by decide),
      dsgOn_on]
  · rw [State.irq_port, port_grd_self]
    dsimp only
    rw [guardTo_closing]
    exact hclosing

theorem openPlanned_of_open (s : State) (p : Port) (hs : s.on GUARD.GATE_OFF p = true)
    (hc : (s.port p).guard.closing = .none) : s.openPlanned p = s := by
  unfold State.openPlanned State.switchOn
  rw [hs, hc]
  rfl

theorem openPlanned_off (s : State) (p : Port) :
    (s.openPlanned p).on GUARD.GATE_OFF p = true ∧ ((s.openPlanned p).port p).guard.closing = .none := by
  by_cases h : s.switchOn p = true ∨ (s.port p).guard.closing ≠ .none
  · obtain ⟨-, hoff, -, hclosing⟩ := openPlanned_opens s p h
    exact ⟨hoff, hclosing⟩
  · obtain ⟨hs, hc⟩ := not_or.mp h
    have hoff : s.on GUARD.GATE_OFF p = true := by simpa [State.switchOn] using hs
    have hclosing : (s.port p).guard.closing = .none := not_not.mp hc
    rw [openPlanned_of_open s p hoff hclosing]
    exact ⟨hoff, hclosing⟩

theorem openPlanned_twice (s : State) (p : Port) : (s.openPlanned p).openPlanned p = s.openPlanned p := by
  obtain ⟨hoff, hclosing⟩ := openPlanned_off s p
  exact openPlanned_of_open _ p hoff hclosing

/-- An opening leaves the cause of the last trip. -/
theorem openPlanned_cause (s : State) (p : Port) : (s.openPlanned p).rd GUARD.CAUSE p = s.rd GUARD.CAUSE p := by
  unfold State.openPlanned
  split
  · rw [rd_irq _ _ _ _ _ _ (by decide), State.grd_rd, guardTo_rd _ _ _ _ _ (by decide) (by decide) (by decide) (by decide)]
    unfold State.dsgOn State.gateOff
    simp (disch := decide) only [rd_flag, State.grd_rd]
  · rfl

/-! ## ErrorRecovery and the guard (R281, R375) -/

/-- The areas that ErrorRecovery changes beside the guard's page: an attachment ends, MODE 0 is written, the pins present
Open. -/
abbrev detachAreas : Nat := 0xC0012000004800034C0000000038140000

/-- The end of a contract writes PPS_EXEMPT, and no other register of the guard. -/
theorem clearContract_rd (s : State) (p : Port) (F : Field) (i : Nat) (hF : F.apart GUARD.PPS_EXEMPT = true)
    (hm : maskSkips detachAreas F = true) : (s.clearContract p).rd F i = s.rd F i := by
  unfold State.clearContract
  rw [(State.sendCache_within _ p rfl (Within.refl detachAreas p _)).rd F i hm, State.phy_rd, rd_flag _ _ _ _ _ _ hF]
  exact (State.wr_own _ _ _ rfl rfl (State.flag_own _ _ _ rfl rfl (State.flag_own _ _ _ rfl rfl
    (State.flag_own _ _ _ rfl rfl (State.wr_own _ _ _ rfl rfl (State.pe_within _ _ _ rfl
      (State.endVdm_within _ _ _ _ rfl (Within.refl detachAreas p s)))))))).rd F i hm

/-- Beside the end of its contract, the end of an attachment stays off the guard's page: its updates, outermost first, and then
the area of each. -/
theorem endAttachment_footprint (s : State) (p : Port) :
    Within detachAreas p ((s.keepRext p).clearContract p) (s.endAttachment p) := by
  have hstart := Within.refl detachAreas p ((s.keepRext p).clearContract p)
  unfold State.endAttachment
  dsimp only
  repeat' with_reducible
    first | assumption | apply State.flag_own | apply State.irq_own | apply State.level_own | apply State.modPort_own
          | apply State.wr_own | apply State.cc_within | apply State.clearAllIds_within | apply State.model_within
          | apply State.pe_within | apply State.phy_within | apply State.sendCache_within | apply State.swapEnd_within
          | apply State.swp_within | apply State.vconnOff_within | apply ite_within
  all_goals rfl

theorem endAttachment_rd (s : State) (p : Port) (F : Field) (i : Nat) (hF : F.apart GUARD.PPS_EXEMPT = true)
    (hm : maskSkips detachAreas F = true) : (s.endAttachment p).rd F i = s.rd F i := by
  rw [(endAttachment_footprint s p).rd F i hm, clearContract_rd _ p F i hF hm]
  exact (State.keepRext_within s p rfl (Within.refl detachAreas p s)).rd F i hm

/-- ErrorRecovery changes the guard's registers, but for PPS_EXEMPT, by its opening alone. -/
theorem errorRecovery_rd (s : State) (p : Port) (F : Field) (i : Nat) (hF : F.apart GUARD.PPS_EXEMPT = true)
    (hm : maskSkips detachAreas F = true) : (s.errorRecovery p).rd F i = (s.openPlanned p).rd F i := by
  unfold State.errorRecovery
  dsimp only
  rw [(State.present_within _ p _ rfl (State.wr_own _ _ _ rfl rfl (Within.refl detachAreas p _))).rd F i hm,
    endAttachment_rd _ p F i hF hm]
  exact (State.setMode_within _ p 0 rfl (Within.refl detachAreas p _)).rd F i hm

theorem errorRecovery_on (s : State) (p : Port) (F : Field) (i : Nat) (hF : F.apart GUARD.PPS_EXEMPT = true)
    (hm : maskSkips detachAreas F = true) : (s.errorRecovery p).on F i = (s.openPlanned p).on F i := by
  unfold State.on
  rw [errorRecovery_rd s p F i hF hm]

theorem on_level (s : State) (F : Field) (i pg j b : Nat) (v : Bool) (hr : F.apart (IRQ_RAW pg) = true)
    (hs : F.apart (IRQ_STAT pg) = true) : (s.level pg j b v).on F i = s.on F i := by
  unfold State.level
  dsimp only
  split
  · rw [on_irq _ _ _ _ _ _ hs, on_wrBit _ _ _ _ _ _ _ hr]
  · rw [on_wrBit _ _ _ _ _ _ _ hr]

theorem endAttachment_detached (s : State) (p : Port) : (s.endAttachment p).on CC.ATTACHED p = false := by
  unfold State.endAttachment
  dsimp only
  rw [(State.sendCache_within _ p rfl (Within.refl 0x200000080000000000000000000000 p _)).on _ _ (by decide)]
  split <;> simp (disch := decide) only [State.modPort_on, State.cc_on, State.swp_on, State.pe_on, State.phy_on,
    State.model_on, on_wr, on_flag, on_irq, on_level, on_flag_self]

theorem openLevels_on (s : State) (p : Port) (F : Field) (i : Nat) (h1 : F.apart CC.CC1_LVL = true)
    (h2 : F.apart CC.CC2_LVL = true) : (s.openLevels p).on F i = s.on F i := by
  unfold State.openLevels
  split
  · rw [on_wr _ _ _ _ _ _ h2, on_wr _ _ _ _ _ _ h1]
  · rfl

theorem present_on (s : State) (p : Port) (x : Pres) (F : Field) (i : Nat) (h1 : F.apart CC.CC1_LVL = true)
    (h2 : F.apart CC.CC2_LVL = true) : (s.present p x).on F i = s.on F i := by
  unfold State.present
  rw [openLevels_on _ _ _ _ h1 h2, State.cc_on]

theorem errorRecovery_detached (s : State) (p : Port) : (s.errorRecovery p).on CC.ATTACHED p = false := by
  unfold State.errorRecovery
  dsimp only
  rw [present_on _ _ _ _ _ (by decide) (by decide), on_wr _ _ _ _ _ _ (by decide), endAttachment_detached]

/-! ## Trips (R281) -/

theorem sendMarks_rd (s : State) (F : Field) (i : Nat) (h : maskSkips 0x200000000000000000000000000000 F = true) :
    s.sendMarks.rd F i = s.rd F i :=
  (State.sendMarks_within s (mm := 0x200000000000000000000000000000) rfl (Within.refl _ 0 s)).rd F i h

theorem rd_setRetiredMask (s : State) (m : BitVec 32) (F : Field) (i : Nat) :
    ({ s with retiredMask := m } : State).rd F i = s.rd F i := rfl

theorem tripEntered_cause (s : State) (p : Port) (old new : Nat) (c : TripCause) :
    (s.tripEntered p old new c).rd GUARD.CAUSE p = s.rd GUARD.CAUSE p := by
  unfold State.tripEntered
  split
  · rfl
  · split
    · rw [rd_irq _ _ _ _ _ _ (by decide), event_rd _ _ _ _ _ _ _ _ _ (by decide)]
    · split
      · dsimp only
        rw [sendMarks_rd _ _ _ (by decide)]
        rw [rd_setRetiredMask, rd_flag _ _ _ _ _ _ (by decide), rd_irq _ _ _ _ _ _ (by decide),
          event_rd _ _ _ _ _ _ _ _ _ (by decide)]
      · rfl

theorem tripCause_code_lt (c : TripCause) : c.code < 2 ^ GUARD.CAUSE.width := by cases c <;> decide

/-- A trip of a port that this member drives, but for CC overvoltage, turns the switch off and records its cause (R281). -/
theorem trip_opens (s : State) (p : Port) (c : TripCause) (l : List TripCause) (i : Int) (v : Nat) (hd : s.drives p = true)
    (hc : c ≠ .ccOvp) :
    (s.trip p c l i v).on GUARD.GATE_OFF p = true ∧ (s.trip p c l i v).rd GUARD.CAUSE p = c.code := by
  unfold State.trip
  extract_lets old ts retries new step s1 s2 s3 s4 s5 s6 s7
  rw [if_neg (by simp [hd]), if_neg (fun h => hc h.1)]
  refine ⟨?_, ?_⟩
  · rw [show s7 = s6.errorRecovery p from rfl, errorRecovery_on _ _ _ _ (by decide) (by decide)]
    exact (openPlanned_off s6 p).1
  · have hcause : s2.rd GUARD.CAUSE p = c.code := by
      rw [rd_wr_self]
      exact Nat.mod_eq_of_lt (tripCause_code_lt c)
    have hcount : s4.rd GUARD.CAUSE p = s3.rd GUARD.CAUSE p :=
      (State.eventSev_own _ _ _ _ _ _ _ rfl (State.countTrip_within s3 p c rfl
        (Within.refl 0x4800A0000000000000140000 p s3))).rd _ _ (by decide)
    have hhalt : s6.rd GUARD.CAUSE p = s5.rd GUARD.CAUSE p :=
      (State.swapTripped_within _ p step rfl (State.halt_within s5 p 2 rfl
        (Within.refl 0x480007010000000000140000 p s5))).rd _ _ (by decide)
    calc s7.rd GUARD.CAUSE p = s6.rd GUARD.CAUSE p := by
          rw [show s7 = s6.errorRecovery p from rfl, errorRecovery_rd _ _ _ _ (by decide) (by decide), openPlanned_cause]
      _ = s5.rd GUARD.CAUSE p := hhalt
      _ = s4.rd GUARD.CAUSE p := by
          rw [show s5 = (s4.irq GUARD.page p GUARD.IRQ_TRIP).tripEntered p old new c from rfl, tripEntered_cause,
            rd_irq _ _ _ _ _ _ (by decide)]
      _ = s3.rd GUARD.CAUSE p := hcount
      _ = s2.rd GUARD.CAUSE p := rd_wr _ _ _ _ _ _ (by decide)
      _ = c.code := hcause

/-! ## Commands refused (R264) -/

theorem refuseCmd_footprint (s : State) (p : Port) (cmd reason : Nat) :
    Within 0x480028000000000000140000 p s (s.refuseCmd p cmd reason) :=
  State.refuseCmd_within s p cmd reason rfl (Within.refl _ p s)

theorem refuseCmd_count (s : State) (p : Port) (cmd reason : Nat) :
    (s.refuseCmd p cmd reason).rd GUARD.CMD_REFUSED_CNT p = min (s.rd GUARD.CMD_REFUSED_CNT p + 1) (2 ^ 32 - 1) := by
  unfold State.refuseCmd
  rw [rd_irq _ _ _ _ _ _ (by decide), rd_bump_self, event_rd _ _ _ _ _ _ _ _ _ (by decide)]
  rfl

theorem refuseCmd_gst (s : State) (p : Port) (cmd reason : Nat) : (s.refuseCmd p cmd reason).gst p = s.gst p :=
  (refuseCmd_footprint s p cmd reason).rd _ _ (by decide)

@[simp] theorem refuseCmd_guard (s : State) (p : Port) (cmd reason : Nat) :
    ((s.refuseCmd p cmd reason).port p).guard = (s.port p).guard := by
  unfold State.refuseCmd
  rw [State.irq_port, State.bump_port, event_guard]

/-- The count of refused commands is not touched by what follows a failed soft start. -/
theorem closeFailed_count (s : State) (p : Port) :
    (s.closeFailed p).rd GUARD.CMD_REFUSED_CNT p = s.rd GUARD.CMD_REFUSED_CNT p :=
  (State.closeFailed_within s p rfl (Within.refl 0xC00120000048001B4C0000000038140000 p s)).rd _ _ (by decide)

theorem fresh_rd (s : State) (F : Field) (i : Nat) : s.fresh.2.rd F i = s.rd F i := rfl

/-- A write from another writer than the owning Twill records BAD_ACCESS; the guard's state and the port's record stay
(R18, R264). -/
theorem guardWriter_other (s : State) (p : Port) (f : State) :
    (s.guardWriter p false f).rd (ERR_CODE GUARD.page) p = stBAD_ACCESS ∧ (s.guardWriter p false f).gst p = s.gst p ∧
      (s.guardWriter p false f).port p = s.port p := by
  refine ⟨errF_code s GUARD.CMD p stBAD_ACCESS (by decide), ?_, rfl⟩
  exact errF_rd s GUARD.CMD GUARD.STATE p p stBAD_ACCESS (by decide) (by decide) (by decide)

end Sys2Proof.Machine
end

section
/-! PROOFS. Closing and opening the pass switch by command (R263 to R268, R279, R287): O26 and O27. -/
set_option linter.all false

namespace Sys2Proof.Machine

/-! ## SOFT_START (R264, R266) -/

/-- SOFT_START accepted: DSG off, no gate mark reached, and the guard waits for its checks. -/
theorem softStart_accepted (s : State) (p : Port) :
    (s.softStart p).gst p = gPrecheck ∧ (s.softStart p).on GUARD.DSG_ON p = false ∧
      ((s.softStart p).port p).guard.closing = .precheck ∧ (s.softStart p).rd GUARD.T_MARK1 p = 0xFFFF ∧
      (s.softStart p).rd GUARD.T_MARK2 p = 0xFFFF := by
  unfold State.softStart State.marksOpen
  refine ⟨?_, ?_, by simp, ?_, ?_⟩
  · unfold State.gst
    rw [State.grd_rd, rd_wr _ _ _ _ _ _ (by decide), rd_wr _ _ _ _ _ _ (by decide)]
    exact gst_guardTo _ _ _ (by decide)
  · rw [State.grd_on, on_wr _ _ _ _ _ _ (by decide), on_wr _ _ _ _ _ _ (by decide),
      guardTo_on _ _ _ _ _ (by decide) (by decide) (by decide) (by decide)]
    exact on_flag_self _ _ _ _ (by decide)
  · rw [State.grd_rd, rd_wr _ _ _ _ _ _ (by decide), rd_wr_self]; rfl
  · rw [State.grd_rd, rd_wr_self]; rfl

theorem cmdSoftStart_of_ready (s : State) (p : Port) (hm : s.mayClose p = true) (hv : s.vcpReady = true) :
    s.cmdSoftStart p = s.softStart p := by
  unfold State.cmdSoftStart
  rw [hm, hv]
  rfl

/-- SOFT_START refused is counted, whatever the reason (R264). -/
theorem cmdSoftStart_refused (s : State) (p : Port) (h : s.mayClose p = false ∨ s.vcpReady = false) :
    (s.cmdSoftStart p).rd GUARD.CMD_REFUSED_CNT p = min (s.rd GUARD.CMD_REFUSED_CNT p + 1) (2 ^ 32 - 1) := by
  unfold State.cmdSoftStart
  split
  · rw [closeFailed_count, refuseCmd_count]
  · rw [if_pos (by simp_all)]
    dsimp only
    rw [closeFailed_count, refuseCmd_count, fresh_rd]

/-! ## CLOSE_MATCHED (R268, R304) -/

theorem cmdCloseMatched_of_ready (s : State) (p : Port) (v w : Nat) (hm : s.mayClose p = true) (h1 : v ≤ w + 500)
    (h2 : w ≤ v + 500) (hr : w < 4000 ∨ s.on GUARD.REV_CHK_DONE p = true) (hv : s.vcpReady = true) :
    s.cmdCloseMatched p v w = s.closeMatched p := by
  unfold State.cmdCloseMatched
  rw [if_neg (by simp [hm]), if_neg (by omega), if_neg (by rcases hr with h | h <;> simp [h]), if_neg (by simp [hv])]

/-- With no check due the gate is driven at once. -/
theorem closeMatched_drives (s : State) (p : Port) (h : (s.port p).guard.recheck = 0) :
    (s.closeMatched p).gst p = gEnhance ∧ (s.closeMatched p).on GUARD.GATE_OFF p = false ∧
      ((s.closeMatched p).port p).guard.closing = .matched := by
  unfold State.closeMatched State.driveMatched
  rw [if_pos h]
  refine ⟨?_, ?_, by simp⟩
  · unfold State.gst
    rw [State.grd_rd, rd_flag _ _ _ _ _ _ (by decide)]
    exact gst_guardTo _ _ _ (by decide)
  · rw [State.grd_on]
    exact on_flag_self _ _ _ _ (by decide)

/-- After cleared FAILED marks the checks of the monitors come first (R304). -/
theorem closeMatched_checks (s : State) (p : Port) (h : (s.port p).guard.recheck ≠ 0) :
    (s.closeMatched p).gst p = gPrecheck ∧ ((s.closeMatched p).port p).guard.closing = .matchedCheck := by
  unfold State.closeMatched
  rw [if_neg h]
  refine ⟨?_, by simp⟩
  unfold State.gst
  rw [State.grd_rd]
  exact gst_guardTo _ _ _ (by decide)

theorem refuseCmd_gateOff (s : State) (p : Port) (cmd reason : Nat) :
    (s.refuseCmd p cmd reason).on GUARD.GATE_OFF p = s.on GUARD.GATE_OFF p :=
  (refuseCmd_footprint s p cmd reason).on _ _ (by decide)

/-- CLOSE_MATCHED refused is counted, and the gate stays as it is. -/
theorem cmdCloseMatched_refused (s : State) (p : Port) (v w : Nat)
    (h : s.mayClose p = false ∨ v + 500 < w ∨ w + 500 < v ∨ (4000 ≤ w ∧ s.on GUARD.REV_CHK_DONE p = false) ∨
      s.vcpReady = false) :
    (s.cmdCloseMatched p v w).rd GUARD.CMD_REFUSED_CNT p = min (s.rd GUARD.CMD_REFUSED_CNT p + 1) (2 ^ 32 - 1) ∧
      (s.cmdCloseMatched p v w).on GUARD.GATE_OFF p = s.on GUARD.GATE_OFF p := by
  unfold State.cmdCloseMatched
  split
  · exact ⟨refuseCmd_count _ _ _ _, refuseCmd_gateOff _ _ _ _⟩
  · split
    · exact ⟨refuseCmd_count _ _ _ _, refuseCmd_gateOff _ _ _ _⟩
    · split
      · exact ⟨refuseCmd_count _ _ _ _, refuseCmd_gateOff _ _ _ _⟩
      next hm hd hr =>
        have hv : s.vcpReady = false := by
          rcases h with h | h | h | h | h
          · simp [h] at hm
          · exact absurd (.inr h) hd
          · exact absurd (.inl h) hd
          · exact absurd h hr
          · exact h
        rw [if_pos (by simp [hv])]
        exact ⟨refuseCmd_count _ _ _ _, refuseCmd_gateOff _ _ _ _⟩

/-! ## The checks before the gate is driven (R266, R279) -/

/-- The gate is driven: GUARD_RAMP with the limit counter at 0 (R266 step 3). -/
theorem forwardCheck_passed (s : State) (p : Port) (v : Nat) (i : Int) (hc : (s.port p).guard.closing = .precheck)
    (hd : s.checksDone p = true) (hv : v < 1500) :
    ∃ t, execForwardCheck p v i s = .next t ∧ t.gst p = gRamp ∧ t.on GUARD.GATE_OFF p = false ∧ t.rd GUARD.LIMIT_CNT p = 0 ∧
      (t.port p).guard.closing = .ramp ∧ (t.port p).guard.limit = 0 := by
  refine ⟨_, rfl, ?_⟩
  rw [if_neg (by simp [hc, hd]), if_neg (by omega)]
  refine ⟨?_, ?_, ?_, by simp, by simp⟩
  · unfold State.gst
    rw [State.grd_rd, rd_wr _ _ _ _ _ _ (by decide), rd_flag _ _ _ _ _ _ (by decide)]
    exact gst_guardTo _ _ _ (by decide)
  · rw [State.grd_on, on_wr _ _ _ _ _ _ (by decide)]
    exact on_flag_self _ _ _ _ (by decide)
  · rw [State.grd_rd, rd_wr_self]; rfl

theorem execForwardCheck_failed (s : State) (p : Port) (v : Nat) (i : Int) (hc : (s.port p).guard.closing = .precheck)
    (hd : s.checksDone p = true) (hv : 1500 ≤ v) :
    execForwardCheck p v i s = .next (s.trip p .fetShorted [] i v) := by
  unfold execForwardCheck
  rw [if_neg (by simp [hc, hd]), if_pos hv]

/-- VCONV is not ready: back to GUARD_OFF, refused with reason 2 (R266 step 2). -/
theorem execVconvNotReady_precheck (s : State) (p : Port) (hc : (s.port p).guard.closing = .precheck) :
    execVconvNotReady p s =
      .next ((((s.grd p fun g => { g with closing := .none }).guardTo p gOff).refuseCmd p 1 2).closeFailed p) := by
  unfold execVconvNotReady
  rw [if_neg (not_not_intro hc)]

theorem guardTo_isSrc (s : State) (p : Port) (st : Nat) : (s.guardTo p st).isSrc p = s.isSrc p := by
  unfold State.isSrc
  rw [guardTo_on _ _ _ _ _ (by decide) (by decide) (by decide) (by decide),
    guardTo_rd _ _ _ _ _ (by decide) (by decide) (by decide) (by decide)]

theorem refuseCmd_isSrc (s : State) (p : Port) (cmd reason : Nat) : (s.refuseCmd p cmd reason).isSrc p = s.isSrc p := by
  have w := refuseCmd_footprint s p cmd reason
  unfold State.isSrc
  rw [w.on _ _ (by decide), w.rd _ _ (by decide)]

theorem vconvNotReady_sink (s : State) (p : Port) (hc : (s.port p).guard.closing = .precheck) (hs : s.isSrc p = false) :
    ∃ t, execVconvNotReady p s = .next t ∧ t.gst p = gOff ∧ (t.port p).guard.closing = .none := by
  refine ⟨_, execVconvNotReady_precheck s p hc, ?_⟩
  unfold State.closeFailed
  rw [if_neg (by rw [refuseCmd_isSrc, guardTo_isSrc]; exact ne_true_of_eq_false hs)]
  refine ⟨?_, by simp⟩
  rw [refuseCmd_gst]
  exact gst_guardTo _ _ _ (by decide)

theorem vconvNotReady_counted (s : State) (p : Port) (hc : (s.port p).guard.closing = .precheck) :
    ∃ t, execVconvNotReady p s = .next t ∧
      t.rd GUARD.CMD_REFUSED_CNT p = min (s.rd GUARD.CMD_REFUSED_CNT p + 1) (2 ^ 32 - 1) := by
  refine ⟨_, execVconvNotReady_precheck s p hc, ?_⟩
  rw [closeFailed_count, refuseCmd_count, guardTo_rd _ _ _ _ _ (by decide) (by decide) (by decide) (by decide), State.grd_rd]

/-! ## The gate marks (R266 steps 4 and 5) -/

theorem firstGateMark_ramp (s : State) (p : Port) (n : Nat) (hc : (s.port p).guard.closing = .ramp) :
    ∃ t, execFirstGateMark p n s = .next t ∧ t.rd GUARD.T_MARK1 p = min n 65535 ∧ (t.port p).guard.closing = .marked := by
  refine ⟨_, rfl, ?_⟩
  rw [hc]
  exact ⟨rd_wrSat_self s GUARD.T_MARK1 p n, by simp⟩

theorem firstGateMark_matched (s : State) (p : Port) (n : Nat) (hc : (s.port p).guard.closing = .matched) :
    ∃ t, execFirstGateMark p n s = .next t ∧ t.rd GUARD.T_MARK1 p = min n 65535 ∧
      (t.port p).guard.closing = .matchedMarked := by
  refine ⟨_, rfl, ?_⟩
  rw [hc]
  exact ⟨rd_wrSat_self s GUARD.T_MARK1 p n, by simp⟩

theorem vbusAbove475_marked (s : State) (p : Port) (hc : (s.port p).guard.closing = .marked) :
    ∃ t, execVbusAbove475 p s = .next t ∧ t.gst p = gEnhance ∧ (t.port p).guard.closing = .enhance := by
  refine ⟨_, rfl, ?_⟩
  rw [if_pos hc]
  exact ⟨gst_guardTo s p gEnhance (by decide), by simp⟩

/-! ## The reverse check (R279) -/

theorem revChkDone_met (s : State) (p : Port) (w v : Nat) (hg : s.gst p = gOff) (hs : s.switchOn p = false)
    (hw : 4000 ≤ w) (hv : v + 1500 < w) (hm : s.running p = false ∨ s.rd LOOP.V_TARGET p < 1000) :
    ∃ t, execRevChkDone p w v s = .next t ∧ t.on GUARD.REV_CHK_DONE p = true := by
  refine ⟨_, rfl, ?_⟩
  rw [if_pos ⟨hg, hs, hw, hv, hm⟩]
  exact on_flag_self _ _ _ _ (by decide)

theorem revChkDone_unmet (s : State) (p : Port) (w v : Nat)
    (h : s.gst p ≠ gOff ∨ s.switchOn p = true ∨ w < 4000 ∨ w ≤ v + 1500 ∨
      (s.running p = true ∧ 1000 ≤ s.rd LOOP.V_TARGET p)) :
    execRevChkDone p w v s = .next s := by
  unfold execRevChkDone
  rw [if_neg]
  rintro ⟨hg, hs, hw, hv, hm⟩
  rcases h with h | h | h | h | ⟨hr, ht⟩
  · exact h hg
  · rw [hs] at h; cases h
  · omega
  · omega
  · rw [hr] at hm; rcases hm with hm | hm
    · cases hm
    · omega

/-- Settles O26, by what each command and observation of a closure does to the guard. -/
theorem guardClosesBySoftStartAndMatched : Obligations.GuardClosesBySoftStartAndMatched := by
  unfold Obligations.GuardClosesBySoftStartAndMatched
  refine ⟨?softStart, ?softStartRefused, ?softStartOther, ?matched, ?matchedChecks, ?matchedRefused, ?matchedOther,
    ?forwardPassed, ?forwardFailed, ?notReadySink, ?notReady, ?markRamp, ?markMatched, ?above475, ?reverseMet,
    ?reverseUnmet⟩
  case softStart =>
    intro p s hm hv
    exact ⟨_, congrArg Host.Outcome.next (cmdSoftStart_of_ready s p hm hv), softStart_accepted s p⟩
  case softStartRefused => exact fun p s h => ⟨_, rfl, cmdSoftStart_refused s p h⟩
  case softStartOther => exact fun p s => ⟨_, rfl, guardWriter_other s p _⟩
  case matched =>
    intro p v w s hm h1 h2 hr hv hc
    exact ⟨_, congrArg Host.Outcome.next (cmdCloseMatched_of_ready s p v w hm h1 h2 hr hv), closeMatched_drives s p hc⟩
  case matchedChecks =>
    intro p v w s hm h1 h2 hr hv hc
    exact ⟨_, congrArg Host.Outcome.next (cmdCloseMatched_of_ready s p v w hm h1 h2 hr hv), closeMatched_checks s p hc⟩
  case matchedRefused => exact fun p v w s h => ⟨_, rfl, cmdCloseMatched_refused s p v w h⟩
  case matchedOther => exact fun p v w s => ⟨_, rfl, guardWriter_other s p _⟩
  case forwardPassed => exact fun p v i s => forwardCheck_passed s p v i
  case forwardFailed =>
    intro p v i s hd hc hk hv
    obtain ⟨hoff, hcause⟩ := trip_opens s p .fetShorted [] i v hd (by decide)
    exact ⟨_, execForwardCheck_failed s p v i hc hk hv, hcause, hoff⟩
  case notReadySink => exact fun p s => vconvNotReady_sink s p
  case notReady => exact fun p s => vconvNotReady_counted s p
  case markRamp => exact fun p n s => firstGateMark_ramp s p n
  case markMatched => exact fun p n s => firstGateMark_matched s p n
  case above475 => exact fun p s => vbusAbove475_marked s p
  case reverseMet => exact fun p w v s => revChkDone_met s p w v
  case reverseUnmet => exact fun p w v s => revChkDone_unmet s p w v

end Sys2Proof.Machine
end

section
/-! PROOFS. Opening the pass switch by command, and the discharge that follows (R264, R265, R166, R287): O27. -/
set_option linter.all false

namespace Sys2Proof.Machine

/-! ## OPEN (R264, R265) -/

theorem cmdOpen_of_openable (s : State) (p : Port)
    (h : s.gst p = gPrecheck ∨ s.gst p = gRamp ∨ s.gst p = gEnhance ∨ s.gst p = gOn ∨ s.gst p = gOpenWait) :
    s.cmdOpen p = s.openEnds p := by
  unfold State.cmdOpen
  rw [if_pos (by simpa using h)]

theorem cmdOpen_refused (s : State) (p : Port) (h1 : s.gst p ≠ gPrecheck) (h2 : s.gst p ≠ gRamp) (h3 : s.gst p ≠ gEnhance)
    (h4 : s.gst p ≠ gOn) (h5 : s.gst p ≠ gOpenWait) : s.cmdOpen p = s.refuseCmd p 3 1 := by
  unfold State.cmdOpen
  rw [if_neg (by simp [h1, h2, h3, h4, h5])]

theorem openPlanned_isSrc (s : State) (p : Port) : (s.openPlanned p).isSrc p = s.isSrc p := by
  have w := State.openPlanned_within s p rfl (Within.refl 0x80018000000000000000000 p s)
  unfold State.isSrc
  rw [w.on _ _ (by decide), w.rd _ _ (by decide)]

/-- A failed closure after an opening leaves the opening's registers of the guard. -/
theorem openPlanned_closeFailed_rd (s : State) (p : Port) (F : Field) (i : Nat) (hF : F.apart GUARD.PPS_EXEMPT = true)
    (hm : maskSkips detachAreas F = true) : ((s.openPlanned p).closeFailed p).rd F i = (s.openPlanned p).rd F i := by
  unfold State.closeFailed
  split
  · rw [errorRecovery_rd _ _ _ _ hF hm, openPlanned_twice]
  · rfl

theorem openEnds_rd (s : State) (p : Port) (F : Field) (i : Nat) (hF : F.apart GUARD.PPS_EXEMPT = true)
    (hm : maskSkips detachAreas F = true) : (s.openEnds p).rd F i = (s.openPlanned p).rd F i := by
  unfold State.openEnds
  split
  · rfl
  · exact openPlanned_closeFailed_rd s p F i hF hm

theorem openEnds_on (s : State) (p : Port) (F : Field) (i : Nat) (hF : F.apart GUARD.PPS_EXEMPT = true)
    (hm : maskSkips detachAreas F = true) : (s.openEnds p).on F i = (s.openPlanned p).on F i := by
  unfold State.on
  rw [openEnds_rd s p F i hF hm]

/-- OPEN of a switch that is on or closing: off, into GUARD_DISCHARGE with DSG on. -/
theorem openEnds_opens (s : State) (p : Port) (h : s.switchOn p = true ∨ (s.port p).guard.closing ≠ .none) :
    (s.openEnds p).gst p = gDischarge ∧ (s.openEnds p).on GUARD.GATE_OFF p = true ∧
      (s.openEnds p).on GUARD.DSG_ON p = true := by
  obtain ⟨hstate, hoff, hdsg, -⟩ := openPlanned_opens s p h
  exact ⟨(openEnds_rd s p _ _ (by decide) (by decide)).trans hstate,
    (openEnds_on s p _ _ (by decide) (by decide)).trans hoff, (openEnds_on s p _ _ (by decide) (by decide)).trans hdsg⟩

/-- OPEN that abandons the closure of a source ends its attachment. -/
theorem openEnds_detached (s : State) (p : Port) (hc : (s.port p).guard.closing ≠ .none) (hs : s.isSrc p = true) :
    (s.openEnds p).on CC.ATTACHED p = false := by
  unfold State.openEnds State.closeFailed
  rw [if_neg hc, if_pos ((openPlanned_isSrc s p).trans hs), errorRecovery_detached]

/-! ## OPEN_LOW and OPEN_IDLE (R264) -/

theorem cmdOpenWait_waits (s : State) (p : Port) (cmd : Nat) (w : OpenWait) (h : s.gst p = gOn) :
    (s.cmdOpenWait p cmd w).gst p = gOpenWait ∧ ((s.cmdOpenWait p cmd w).port p).guard.openWait = w := by
  unfold State.cmdOpenWait
  rw [if_pos h]
  exact ⟨gst_guardTo s p gOpenWait (by decide), by simp⟩

theorem cmdOpenWait_refused (s : State) (p : Port) (cmd : Nat) (w : OpenWait) (h : s.gst p ≠ gOn) :
    (s.cmdOpenWait p cmd w).rd GUARD.CMD_REFUSED_CNT p = min (s.rd GUARD.CMD_REFUSED_CNT p + 1) (2 ^ 32 - 1) ∧
      (s.cmdOpenWait p cmd w).gst p = s.gst p := by
  unfold State.cmdOpenWait
  rw [if_neg h]
  exact ⟨refuseCmd_count s p cmd 1, refuseCmd_gst s p cmd 1⟩

/-! ## The condition of OPEN_IDLE is met (R166, R264) -/

theorem setMode_mode (s : State) (p : Port) (m : Nat) (h : m < 8) : (s.setMode p m).rd LOOP.MODE p = m := by
  have hwr : (s.wr LOOP.MODE p m).rd LOOP.MODE p = m := by
    rw [rd_wr_self]
    exact Nat.mod_eq_of_lt h
  unfold State.setMode
  dsimp only
  split
  · exact hwr
  · split
    · rw [errF_rd _ _ _ _ _ _ (by decide) (by decide) (by decide)]
      exact hwr
    · split
      · rw [errF_rd _ _ _ _ _ _ (by decide) (by decide) (by decide)]
        exact hwr
      · exact hwr

/-- Writing MODE leaves the loop's other set-points. -/
theorem setMode_rd (s : State) (p : Port) (m : Nat) (F : Field) (i : Nat) (hF : F.apart LOOP.MODE = true)
    (hq : F.apart (ERR_SEQ LOOP.page) = true) (hc : F.apart (ERR_CODE LOOP.page) = true)
    (ho : F.apart (ERR_OFFSET LOOP.page) = true) : (s.setMode p m).rd F i = s.rd F i := by
  have hwr : (s.wr LOOP.MODE p m).rd F i = s.rd F i := rd_wr _ _ _ _ _ _ hF
  unfold State.setMode
  dsimp only
  split
  · exact hwr
  · split
    · rw [errF_rd _ _ _ _ _ _ hq hc ho]
      exact hwr
    · split
      · rw [errF_rd _ _ _ _ _ _ hq hc ho]
        exact hwr
      · exact hwr

theorem sourceMode_set (s : State) (p : Port) (i : Nat) :
    (s.sourceMode p 0 i).rd LOOP.MODE p = mSource ∧ (s.sourceMode p 0 i).rd LOOP.V_TARGET p = 0 := by
  unfold State.sourceMode
  refine ⟨setMode_mode _ _ _ (by decide), ?_⟩
  rw [setMode_rd _ _ _ _ _ (by decide) (by decide) (by decide) (by decide), rd_wr _ _ _ _ _ _ (by decide),
    rd_wr _ _ _ _ _ _ (by decide), rd_wr_self]
  rfl

theorem sourceMode_footprint (s : State) (p : Port) (v i : Nat) :
    Within 0x80003000000000000000000 p s (s.sourceMode p v i) :=
  State.sourceMode_within s p v i rfl (Within.refl _ p s)

theorem openIdleMet_opens (s : State) (p : Port) (hg : s.gst p = gOpenWait) (hw : (s.port p).guard.openWait = .idle)
    (hs : s.switchOn p = true) :
    ∃ t, execOpenIdleMet p s = .next t ∧ t.gst p = gDischarge ∧ t.on GUARD.GATE_OFF p = true ∧
      t.on GUARD.DSG_ON p = true := by
  obtain ⟨hstate, hoff, hdsg, -⟩ := openPlanned_opens s p (.inl hs)
  refine ⟨_, rfl, ?_⟩
  rw [if_pos ⟨hg, hw⟩]
  split
  · have w := sourceMode_footprint (s.openPlanned p) p 0 0
    exact ⟨(w.rd _ _ (by decide)).trans hstate, (w.on _ _ (by decide)).trans hoff, (w.on _ _ (by decide)).trans hdsg⟩
  · exact ⟨hstate, hoff, hdsg⟩

theorem openIdleMet_source (s : State) (p : Port) (hg : s.gst p = gOpenWait) (hw : (s.port p).guard.openWait = .idle)
    (hs : (s.port p).swap.step = .snkIdle) :
    ∃ t, execOpenIdleMet p s = .next t ∧ t.rd LOOP.MODE p = mSource ∧ t.rd LOOP.V_TARGET p = 0 := by
  refine ⟨_, rfl, ?_⟩
  rw [if_pos ⟨hg, hw⟩, if_pos hs]
  exact sourceMode_set (s.openPlanned p) p 0

/-! ## Discharge (R287) -/

theorem tripStands_gst {s : State} {p : Port} (h : s.tripStands p = true) : s.gst p ≠ gDischarge := by
  intro hg
  unfold State.tripStands at h
  rw [hg] at h
  exact absurd h (by decide)

theorem dischargeDone_off (s : State) (p : Port) (hg : s.gst p = gDischarge) (hh : s.heldSafe p = false) :
    ∃ t, execDischargeDone p s = .next t ∧ t.gst p = gOff ∧ t.on GUARD.DSG_ON p = false ∧
      t.on GUARD.DSG_TIMEOUT p = false := by
  refine ⟨_, rfl, ?_⟩
  rw [if_pos hg, if_neg (ne_true_of_eq_false hh)]
  refine ⟨gst_guardTo _ _ _ (by decide), ?_, ?_⟩
  · rw [guardTo_on _ _ _ _ _ (by decide) (by decide) (by decide) (by decide), on_flag _ _ _ _ _ _ (by decide)]
    exact on_flag_self _ _ _ _ (by decide)
  · rw [guardTo_on _ _ _ _ _ (by decide) (by decide) (by decide) (by decide)]
    exact on_flag_self _ _ _ _ (by decide)

theorem dsgOn_gst (s : State) (p : Port) : (s.dsgOn p).gst p = s.gst p := by
  unfold State.gst State.dsgOn
  rw [rd_flag _ _ _ _ _ _ (by decide), rd_flag _ _ _ _ _ _ (by decide)]

theorem dischargeDone_held (s : State) (p : Port)
    (h : (s.gst p = gDischarge ∧ s.heldSafe p = true) ∨ s.tripStands p = true) :
    ∃ t, execDischargeDone p s = .next t ∧ t.gst p = s.gst p ∧ t.on GUARD.DSG_ON p = true := by
  have hdsg : execDischargeDone p s = .next (s.dsgOn p) := by
    unfold execDischargeDone
    rcases h with ⟨hg, hh⟩ | ht
    · rw [if_pos hg, if_pos hh]
    · rw [if_neg (tripStands_gst ht), if_pos ht]
  exact ⟨_, hdsg, dsgOn_gst s p, dsgOn_on s p⟩

theorem dischargeFail_timeout (s : State) (p : Port) (v : Nat) (hd : s.on GUARD.DSG_ON p = true) (hv : 800 ≤ v) :
    ∃ t, execDischargeFail p v s = .next t ∧ t.on GUARD.DSG_TIMEOUT p = true ∧ t.on GUARD.DSG_ON p = false ∧
      t.rd GUARD.DSG_TIMEOUT_CNT p = min (s.rd GUARD.DSG_TIMEOUT_CNT p + 1) (2 ^ 32 - 1) := by
  refine ⟨_, rfl, ?_⟩
  rw [if_pos ⟨hd, hv⟩]
  refine ⟨?_, ?_, ?_⟩
  · rw [on_irq _ _ _ _ _ _ (by decide), on_bump _ _ _ _ _ (by decide), event_on _ _ _ _ _ _ _ _ _ (by decide)]
    exact on_flag_self _ _ _ _ (by decide)
  · rw [on_irq _ _ _ _ _ _ (by decide), on_bump _ _ _ _ _ (by decide), event_on _ _ _ _ _ _ _ _ _ (by decide),
      on_flag _ _ _ _ _ _ (by decide)]
    exact on_flag_self _ _ _ _ (by decide)
  · rw [rd_irq _ _ _ _ _ _ (by decide), rd_bump_self, event_rd _ _ _ _ _ _ _ _ _ (by decide),
      rd_flag _ _ _ _ _ _ (by decide)]
    unfold State.dsgOff
    rw [rd_flag _ _ _ _ _ _ (by decide)]
    rfl

theorem dischargeFail_unmet (s : State) (p : Port) (v : Nat) (h : s.on GUARD.DSG_ON p = false ∨ v < 800) :
    execDischargeFail p v s = .next s := by
  unfold execDischargeFail
  rw [if_neg]
  rintro ⟨hd, hv⟩
  rcases h with h | h
  · rw [h] at hd; cases hd
  · omega

/-- Settles O27, by what each command and observation of an opening does to the guard. -/
theorem guardOpensWhenCommanded : Obligations.GuardOpensWhenCommanded := by
  unfold Obligations.GuardOpensWhenCommanded
  refine ⟨?openCmd, ?abandoned, ?openRefused, ?openOther, ?lowWaits, ?lowRefused, ?lowOther, ?idleWaits, ?idleRefused,
    ?idleOther, ?idleMet, ?idleSource, ?discharged, ?held, ?timeout, ?noTimeout⟩
  case openCmd =>
    exact fun p s hg h => ⟨_, congrArg Host.Outcome.next (cmdOpen_of_openable s p hg), openEnds_opens s p h⟩
  case abandoned =>
    exact fun p s hg hc hs => ⟨_, congrArg Host.Outcome.next (cmdOpen_of_openable s p hg), openEnds_detached s p hc hs⟩
  case openRefused =>
    intro p s h1 h2 h3 h4 h5
    exact ⟨_, congrArg Host.Outcome.next (cmdOpen_refused s p h1 h2 h3 h4 h5), refuseCmd_count s p 3 1,
      refuseCmd_gst s p 3 1⟩
  case openOther => exact fun p s => ⟨_, rfl, guardWriter_other s p _⟩
  case lowWaits => exact fun p s h => ⟨_, rfl, cmdOpenWait_waits s p 4 .low h⟩
  case lowRefused => exact fun p s h => ⟨_, rfl, cmdOpenWait_refused s p 4 .low h⟩
  case lowOther => exact fun p s => ⟨_, rfl, guardWriter_other s p _⟩
  case idleWaits => exact fun p s h => ⟨_, rfl, cmdOpenWait_waits s p 5 .idle h⟩
  case idleRefused => exact fun p s h => ⟨_, rfl, cmdOpenWait_refused s p 5 .idle h⟩
  case idleOther => exact fun p s => ⟨_, rfl, guardWriter_other s p _⟩
  case idleMet => exact fun p s => openIdleMet_opens s p
  case idleSource => exact fun p s => openIdleMet_source s p
  case discharged => exact fun p s => dischargeDone_off s p
  case held => exact fun p s => dischargeDone_held s p
  case timeout => exact fun p v s => dischargeFail_timeout s p v
  case noTimeout => exact fun p v s => dischargeFail_unmet s p v

end Sys2Proof.Machine
end

section
/-! PROOFS. The loop engine's commands (R192, R206, R210 to R212): writes of MODE, saturation flags and coefficient tables. -/
set_option linter.all false

namespace Sys2Proof.Machine

/-! ## Writes of MODE (R206, R212) -/

theorem setMode_zero (s : State) (p : Port) :
    s.setMode p 0 = (s.wr LOOP.MODE p 0).loop p fun l => { l with modeDue := true } := rfl

theorem setMode_denied (s : State) (p : Port) (m : Nat) (h0 : m ≠ 0) (hs : s.haltStands p = true) :
    s.setMode p m = ((s.wr LOOP.MODE p m).loop p fun l => { l with modeDue := false }).errF LOOP.MODE p stDENIED := by
  unfold State.setMode
  dsimp only
  rw [if_neg h0, if_pos hs]

theorem setMode_notReady (s : State) (p : Port) (m : Nat) (h0 : m ≠ 0) (hs : s.haltStands p = false)
    (hv : s.on LOOP.VALID p = false) :
    s.setMode p m = ((s.wr LOOP.MODE p m).loop p fun l => { l with modeDue := false }).errF LOOP.MODE p stNOT_READY := by
  unfold State.setMode
  dsimp only
  rw [if_neg h0, if_neg (ne_true_of_eq_false hs), if_pos (by simp [hv])]

theorem setMode_ready (s : State) (p : Port) (m : Nat) (h0 : m ≠ 0) (hs : s.haltStands p = false)
    (hv : s.on LOOP.VALID p = true) :
    s.setMode p m = (s.wr LOOP.MODE p m).loop p fun l => { l with modeDue := true } := by
  unfold State.setMode
  dsimp only
  rw [if_neg h0, if_neg (ne_true_of_eq_false hs), if_neg (by simp [hv])]

/-- What holds a port in HALT does not depend on its set-points. -/
theorem wr_haltStands (s : State) (p : Port) (v : Nat) :
    (s.wr LOOP.I_REV_LIM p v).haltStands p = s.haltStands p := by
  have hstate : (s.wr LOOP.I_REV_LIM p v).gst p = s.gst p := rd_wr _ _ _ _ _ _ (by decide)
  have hruns : (s.wr LOOP.I_REV_LIM p v).engineRuns p = s.engineRuns p := by
    unfold State.engineRuns
    rw [on_wr _ _ _ _ _ _ (by decide)]
    split
    · rw [rd_wr _ _ _ _ _ _ (by decide)]
    · rw [rd_wr _ _ _ _ _ _ (by decide)]
  unfold State.haltStands State.tripStands State.bit
  simp only [hstate, hruns]
  rw [rd_wr _ _ _ _ _ _ (by decide), rd_wr _ _ _ _ _ _ (by decide)]
  rfl

/-- A MODE below 4 is set on the state, in SOURCE with I_REV_LIM at 2,000 mA (R600). -/
theorem modeWrite_sets (s : State) (p : Port) (m : Nat) (h : m < 4) :
    ∃ u : State, s.modeWrite p m = u.setMode p m ∧ u.haltStands p = s.haltStands p ∧
      u.on LOOP.VALID p = s.on LOOP.VALID p ∧ (m = mSource → u.rd LOOP.I_REV_LIM p = 2000) ∧
      u.rd LOOP.HALT_CAUSE p = s.rd LOOP.HALT_CAUSE p := by
  unfold State.modeWrite
  rw [if_neg (by omega)]
  by_cases hm : m = mSource
  · subst hm
    rw [if_pos rfl]
    exact ⟨_, rfl, wr_haltStands s p 2000, on_wr _ _ _ _ _ _ (by decide), fun _ => rd_wr_self s LOOP.I_REV_LIM p 2000,
      rd_wr _ _ _ _ _ _ (by decide)⟩
  · rw [if_neg hm]
    exact ⟨s, rfl, rfl, rfl, fun h => absurd h hm, rfl⟩

theorem modeWrite_zero (s : State) (p : Port) :
    (s.modeWrite p 0).rd LOOP.MODE p = 0 ∧ ((s.modeWrite p 0).port p).loop.modeDue = true ∧
      (s.modeWrite p 0).rd LOOP.HALT_CAUSE p = s.rd LOOP.HALT_CAUSE p := by
  obtain ⟨u, hu, -, -, -, hcause⟩ := modeWrite_sets s p 0 (by decide)
  rw [hu]
  refine ⟨setMode_mode _ _ _ (by decide), by simp [setMode_zero], ?_⟩
  rw [setMode_rd _ _ _ _ _ (by decide) (by decide) (by decide) (by decide), hcause]

theorem modeWrite_ready (s : State) (p : Port) (m : Nat) (h0 : 1 ≤ m) (h4 : m < 4) (hs : s.haltStands p = false)
    (hv : s.on LOOP.VALID p = true) :
    (s.modeWrite p m).rd LOOP.MODE p = m ∧ ((s.modeWrite p m).port p).loop.modeDue = true ∧
      (m = mSource → (s.modeWrite p m).rd LOOP.I_REV_LIM p = 2000) := by
  obtain ⟨u, hu, hstands, hvalid, hrev, -⟩ := modeWrite_sets s p m h4
  rw [hu]
  refine ⟨setMode_mode _ _ _ (by omega), ?_, fun hm => ?_⟩
  · rw [setMode_ready u p m (by omega) (hstands.trans hs) (hvalid.trans hv), port_loop_self]
  · rw [setMode_rd _ _ _ _ _ (by decide) (by decide) (by decide) (by decide), hrev hm]

/-- A MODE that is not kept waits for nothing, and its status is recorded. -/
theorem modeWrite_denied (s : State) (p : Port) (m : Nat) (h0 : 1 ≤ m) (h4 : m < 4) (hs : s.haltStands p = true) :
    (s.modeWrite p m).rd LOOP.MODE p = m ∧ ((s.modeWrite p m).port p).loop.modeDue = false ∧
      (s.modeWrite p m).rd (ERR_CODE LOOP.page) p = stDENIED := by
  obtain ⟨u, hu, hstands, -, -, -⟩ := modeWrite_sets s p m h4
  rw [hu]
  refine ⟨setMode_mode _ _ _ (by omega), ?_, ?_⟩ <;> rw [setMode_denied u p m (by omega) (hstands.trans hs)]
  · rw [State.errF_port, port_loop_self]
  · exact errF_code _ LOOP.MODE p stDENIED (by decide)

theorem modeWrite_notReady (s : State) (p : Port) (m : Nat) (h0 : 1 ≤ m) (h4 : m < 4) (hs : s.haltStands p = false)
    (hv : s.on LOOP.VALID p = false) :
    (s.modeWrite p m).rd LOOP.MODE p = m ∧ ((s.modeWrite p m).port p).loop.modeDue = false ∧
      (s.modeWrite p m).rd (ERR_CODE LOOP.page) p = stNOT_READY := by
  obtain ⟨u, hu, hstands, hvalid, -, -⟩ := modeWrite_sets s p m h4
  rw [hu]
  refine ⟨setMode_mode _ _ _ (by omega), ?_, ?_⟩ <;>
    rw [setMode_notReady u p m (by omega) (hstands.trans hs) (hvalid.trans hv)]
  · rw [State.errF_port, port_loop_self]
  · exact errF_code _ LOOP.MODE p stNOT_READY (by decide)

/-- Codes from 4 on are reserved (R196). -/
theorem modeWrite_reserved (s : State) (p : Port) (m : Nat) (h : 4 ≤ m) :
    (s.modeWrite p m).rd LOOP.MODE p = s.rd LOOP.MODE p ∧
      ((s.modeWrite p m).port p).loop.modeDue = (s.port p).loop.modeDue ∧
      (s.modeWrite p m).rd (ERR_CODE LOOP.page) p = stBAD_ARG := by
  unfold State.modeWrite
  rw [if_pos h]
  exact ⟨errF_rd _ _ _ _ _ _ (by decide) (by decide) (by decide), by rw [State.errF_port],
    errF_code s LOOP.MODE p stBAD_ARG (by decide)⟩

/-! ## Saturation flags (R192) -/

theorem clearIf_on_self (s : State) (F : Field) (p : Nat) (b : Bool) (h : 0 < F.width) :
    (if b then s.flag F p false else s).on F p = (s.on F p && !b) := by
  cases b with
  | true => simp [on_flag_self s F p false h]
  | false => simp

theorem clearIf_on (s : State) (F G : Field) (p : Nat) (b : Bool) (h : G.apart F = true) :
    (if b then s.flag F p false else s).on G p = s.on G p := by
  cases b with
  | true => exact on_flag _ _ _ _ _ _ h
  | false => rfl

/-- Each saturation flag clears where its bit is written, and no other (R192). -/
theorem satFlagsClear_flags (s : State) (p : Port) (m : Fin 16) :
    ∃ t, execSatFlagsClear p m s = .next t ∧ t.on LOOP.SAT_ACC p = (s.on LOOP.SAT_ACC p && !m.val.testBit 0) ∧
      t.on LOOP.SAT_INNER p = (s.on LOOP.SAT_INNER p && !m.val.testBit 1) ∧
      t.on LOOP.SAT_OUTER p = (s.on LOOP.SAT_OUTER p && !m.val.testBit 2) ∧
      t.on LOOP.SAT_DUTY p = (s.on LOOP.SAT_DUTY p && !m.val.testBit 3) := by
  refine ⟨_, rfl, ?_⟩
  simp (disch := decide) only [List.foldl, clearIf_on_self, clearIf_on, and_self]

/-! ## Coefficient tables (R210) -/

theorem blank2ms_loop (s : State) (p : Port) : ((s.blank2ms p).port p).loop = (s.port p).loop := by
  unfold State.blank2ms
  rw [State.flag_port, port_model_self]

theorem blank2ms_rd (s : State) (p : Port) (F : Field) (i : Nat) (h : F.apart LOOP.BLANKED = true) :
    (s.blank2ms p).rd F i = s.rd F i := by
  unfold State.blank2ms
  rw [rd_flag _ _ _ _ _ _ h, State.model_rd]

theorem loadTable_loop (s : State) (p : Port) (t : List Byte) :
    ((s.loadTable p t).port p).loop = { (s.port p).loop with table := t, pending := none } := by
  unfold State.loadTable
  simp

theorem loadTable_rd (s : State) (p : Port) (t : List Byte) (F : Field) (i : Nat) (h1 : F.apart LOOP.VALID = true)
    (h2 : F.apart LOOP.ACTIVE_SEQ = true) (h3 : F.apart LOOP.PENDING = true) (h4 : F.apart MARL.PEND = true)
    (h5 : F.apart LOOP.DLOG = true) : (s.loadTable p t).rd F i = s.rd F i := by
  unfold State.loadTable
  dsimp only
  rw [rd_wr _ _ _ _ _ _ h5, rd_wrBit _ _ _ _ _ _ _ h4, rd_flag _ _ _ _ _ _ h3, rd_wr _ _ _ _ _ _ h2,
    rd_flag _ _ _ _ _ _ h1, State.loop_rd]

theorem loadTable_status (s : State) (p : Port) (t : List Byte) :
    (s.loadTable p t).on LOOP.VALID p = true ∧ (s.loadTable p t).on LOOP.PENDING p = false := by
  unfold State.loadTable
  dsimp only
  rw [on_wr _ _ _ _ _ _ (by decide), on_wrBit _ _ _ _ _ _ _ (by decide), on_flag _ _ _ _ _ _ (by decide),
    on_wr _ _ _ _ _ _ (by decide), on_flag_self _ _ _ _ (by decide), on_wr _ _ _ _ _ _ (by decide),
    on_wrBit _ _ _ _ _ _ _ (by decide), on_flag_self _ _ _ _ (by decide)]
  exact ⟨rfl, rfl⟩

theorem swapTable_none (s : State) (p : Port) (h : (s.port p).loop.pending = none) : s.swapTable p = s := by
  unfold State.swapTable
  dsimp only
  rw [h]

/-- The record of a port's loop after a swap: the history is kept or seeded anew, and limits that exclude d are noted. -/
def LoopSt.swapped (keep out : Bool) (l : LoopSt) : LoopSt := { (if keep then l else l.reseed) with excl := out }

theorem swapped_table (keep out : Bool) (l : LoopSt) : (l.swapped keep out).table = l.table := by
  cases keep <;> rfl

/-- A swap: the table, the record, the event, the count and the blanking (R210, R246). -/
theorem swapTable_some (s : State) (p : Port) (t : List Byte) (h : (s.port p).loop.pending = some t) :
    ∃ (keep out : Bool) (a b c : Nat), s.swapTable p =
      (((((s.loadTable p t).loop p (LoopSt.swapped keep out)).event EV.TABLE_SWAPPED p a b c 0).bump
        LOOP.TBL_SWAP_CNT p).irq LOOP.page p LOOP.IRQ_TBL_SWAP).blank2ms p := by
  unfold State.swapTable
  dsimp only
  rw [h]
  exact ⟨_, _, _, _, _, rfl⟩

theorem swapTable_swaps (s : State) (p : Port) (t : List Byte) (h : (s.port p).loop.pending = some t) :
    ((s.swapTable p).port p).loop.table = t ∧ (s.swapTable p).on LOOP.VALID p = true ∧
      (s.swapTable p).on LOOP.PENDING p = false ∧
      (s.swapTable p).rd LOOP.TBL_SWAP_CNT p = min (s.rd LOOP.TBL_SWAP_CNT p + 1) (2 ^ 32 - 1) := by
  obtain ⟨keep, out, a, b, c, heq⟩ := swapTable_some s p t h
  obtain ⟨hvalid, hpending⟩ := loadTable_status s p t
  have hon (F : Field) (h1 : F.apart LOOP.BLANKED = true) (h2 : F.apart (IRQ_STAT LOOP.page) = true)
      (h3 : F.apart LOOP.TBL_SWAP_CNT = true) (h4 : maskSkips 0x480000000000000000140000 F = true) :
      (s.swapTable p).on F p = (s.loadTable p t).on F p := by
    unfold State.on
    rw [heq, blank2ms_rd _ _ _ _ h1, rd_irq _ _ _ _ _ _ h2, rd_bump _ _ _ _ _ h3, event_rd _ _ _ _ _ _ _ _ _ h4,
      State.loop_rd]
  refine ⟨?_, ?_, ?_, ?_⟩
  · rw [heq, blank2ms_loop, State.irq_port, State.bump_port, event_loop, port_loop_self, loadTable_loop]
    exact swapped_table keep out _
  · rw [hon _ (by decide) (by decide) (by decide) (by decide), hvalid]
  · rw [hon _ (by decide) (by decide) (by decide) (by decide), hpending]
  · rw [heq, blank2ms_rd _ _ _ _ (by decide), rd_irq _ _ _ _ _ _ (by decide), rd_bump_self,
      event_rd _ _ _ _ _ _ _ _ _ (by decide), State.loop_rd,
      loadTable_rd _ _ _ _ _ (by decide) (by decide) (by decide) (by decide) (by decide)]
    rfl

theorem coefficientSwap_pending (s : State) (p : Port) (t : List Byte) (hr : s.running p = true)
    (hd : s.outerDue p = true) (h : (s.port p).loop.pending = some t) :
    ∃ u, execCoefficientSwap p s = .next u ∧ (u.port p).loop.table = t ∧ u.on LOOP.VALID p = true ∧
      u.on LOOP.PENDING p = false ∧ u.rd LOOP.TBL_SWAP_CNT p = min (s.rd LOOP.TBL_SWAP_CNT p + 1) (2 ^ 32 - 1) := by
  refine ⟨_, rfl, ?_⟩
  rw [if_pos (by rw [hr, hd]; rfl)]
  exact swapTable_swaps s p t h

theorem coefficientSwap_none (s : State) (p : Port) (h : (s.port p).loop.pending = none) :
    execCoefficientSwap p s = .next s := by
  unfold execCoefficientSwap
  rw [swapTable_none s p h, ite_self]

/-! ## TABLE_CRC_CHECK (R211) -/

theorem otherEngine_ne (e : Fin 2) : (1 - e : Fin 2) ≠ e := by decide +revert

theorem repairBit_set (r : BitVec 2) (e : Fin 2) : (r ||| BitVec.ofNat 2 (2 ^ e.val)).getLsbD e.val = true := by
  have he : (BitVec.ofNat 2 (2 ^ e.val)).getLsbD e.val = true := by decide +revert
  rw [BitVec.getLsbD_or, he, Bool.or_true]

theorem bit_wrBit_self (s : State) (F : Field) (i n : Nat) (h : n < F.width) : (s.wrBit F i n true).bit F i n = true := by
  unfold State.bit State.wrBit
  rw [rd_wr_self, if_pos rfl, Nat.testBit_mod_two_pow, Nat.testBit_or, Nat.testBit_two_pow_self]
  simp [h]

/-- The areas of a port's forced safe state by Chalk. -/
theorem chalkForce_footprint (s : State) (p : Port) (cause halt : Nat) :
    Within 0xC00120000048001F4D0038000038140000 p s (s.chalkForce p cause halt) :=
  State.chalkForce_within s p cause halt rfl (Within.refl _ p s)

/-- Where no copy of the table matches, the port is at fault, and the fault is counted. -/
theorem tableFault_counted (s : State) (p : Port) (e : Fin 2) :
    (s.tableFault p e).bit MARL.FAULT 0 p = true ∧
      (s.tableFault p e).rd MARL.TBL_FAULT_CNT 0 = min (s.rd MARL.TBL_FAULT_CNT 0 + 1) (2 ^ 32 - 1) := by
  unfold State.tableFault
  dsimp only
  refine ⟨?_, ?_⟩
  · unfold State.bit
    rw [(chalkForce_footprint _ p 1 6).rd _ _ (by decide), State.loop_rd, rd_flag _ _ _ _ _ _ (by decide),
      rd_irq _ _ _ _ _ _ (by decide), rd_bump _ _ _ _ _ (by decide)]
    exact bit_wrBit_self _ MARL.FAULT 0 p p.isLt
  · rw [(chalkForce_footprint _ p 1 6).rd _ _ (by decide), State.loop_rd, rd_flag _ _ _ _ _ _ (by decide),
      rd_irq _ _ _ _ _ _ (by decide), rd_bump_self, rd_wrBit _ _ _ _ _ _ _ (by decide),
      event_rd _ _ _ _ _ _ _ _ _ (by decide)]
    rfl

theorem bankBad_fault (s : State) (p : Port) (e : Fin 2) (bad : List (Fin 2 × Port))
    (h : bad.contains (1 - e, p) = true ∨ (s.port p).loop.repair.getLsbD (1 - e).val = true) :
    s.bankBad bad e p = s.tableFault p e := by
  unfold State.bankBad
  rw [if_pos (by simpa using h)]

theorem tableCrcCheck_one (s : State) (p : Port) (e : Fin 2) (hf : s.bit MARL.FAULT 0 p = false) :
    execTableCrcCheck [(e, p)] s = .next (s.bankBad [(e, p)] e p) := by
  unfold execTableCrcCheck
  simp [hf]

theorem tableCrcCheck_repair (s : State) (p : Port) (e : Fin 2) (hf : s.bit MARL.FAULT 0 p = false)
    (hr : (s.port p).loop.repair.getLsbD (1 - e).val = false) :
    ∃ t, execTableCrcCheck [(e, p)] s = .next t ∧ (t.port p).loop.repair.getLsbD e.val = true ∧
      t.bit MARL.FAULT 0 p = false := by
  refine ⟨_, tableCrcCheck_one s p e hf, ?_⟩
  have hother : [(e, p)].contains (1 - e, p) = false := by simp [otherEngine_ne e]
  unfold State.bankBad
  rw [if_neg (by rw [hother, hr]; decide)]
  refine ⟨?_, ?_⟩
  · rw [port_loop_self]
    exact repairBit_set _ e
  · unfold State.bit
    rw [State.loop_rd]
    exact hf

theorem tableCrcCheck_fault (s : State) (p : Port) (e : Fin 2) (hf : s.bit MARL.FAULT 0 p = false)
    (hr : (s.port p).loop.repair.getLsbD (1 - e).val = true) :
    ∃ t, execTableCrcCheck [(e, p)] s = .next t ∧ t.bit MARL.FAULT 0 p = true ∧
      t.rd MARL.TBL_FAULT_CNT 0 = min (s.rd MARL.TBL_FAULT_CNT 0 + 1) (2 ^ 32 - 1) := by
  refine ⟨_, tableCrcCheck_one s p e hf, ?_⟩
  rw [bankBad_fault s p e _ (.inr hr)]
  exact tableFault_counted s p e

/-- Both copies bad: the first is the fault, and the second finds it standing. -/
theorem tableCrcCheck_both (s : State) (p : Port) (hf : s.bit MARL.FAULT 0 p = false) :
    ∃ t, execTableCrcCheck [(0, p), (1, p)] s = .next t ∧ t.bit MARL.FAULT 0 p = true ∧
      t.rd MARL.TBL_FAULT_CNT 0 = min (s.rd MARL.TBL_FAULT_CNT 0 + 1) (2 ^ 32 - 1) := by
  obtain ⟨hfault, hcount⟩ := tableFault_counted s p 0
  refine ⟨s.tableFault p 0, ?_, hfault, hcount⟩
  have hfirst : s.bankBad [(0, p), (1, p)] 0 p = s.tableFault p 0 := bankBad_fault s p 0 _ (.inl (by simp))
  unfold execTableCrcCheck
  simp [hf, hfirst, hfault]

end Sys2Proof.Machine
end

section
/-! PROOFS. INNER_LOOP_BOUNDARY (R25, R188, R206): what is latched before an update, what an update leaves, and O20. -/
set_option linter.all false

namespace Sys2Proof.Machine

/-! ## Rates and carriers (R217 to R219) -/

/-- The fields that a change of rate or of engine writes, and the model's blanking: a field apart from all of these. -/
def apartFromRate (F : Field) : Bool :=
  F.apart LOOP.SET_IN_USE && F.apart LOOP.DLOG && F.apart LOOP.N && F.apart LOOP.ENGINE && F.apart LOOP.BLANKED

theorem rerate_rd (s : State) (p : Port) (F : Field) (i : Nat) (h : apartFromRate F = true) :
    (s.rerate p).rd F i = s.rd F i := by
  simp only [apartFromRate, Bool.and_eq_true] at h
  obtain ⟨⟨⟨⟨hset, hdlog⟩, hn⟩, -⟩, hblank⟩ := h
  unfold State.rerate
  dsimp only
  split
  · rw [rd_wr _ _ _ _ _ _ hdlog, rd_wr _ _ _ _ _ _ hset]
  · rw [blank2ms_rd _ _ _ _ hblank, State.loop_rd, rd_wr _ _ _ _ _ _ hn, rd_wr _ _ _ _ _ _ hdlog,
      rd_wr _ _ _ _ _ _ hset]

theorem carryBy_rd (s : State) (p : Port) (e : Nat) (F : Field) (i : Nat) (h : apartFromRate F = true) :
    (s.carryBy p e).rd F i = s.rd F i := by
  simp only [apartFromRate, Bool.and_eq_true] at h
  obtain ⟨⟨-, hengine⟩, hblank⟩ := h
  unfold State.carryBy
  split
  · rfl
  · rw [State.model_rd, blank2ms_rd _ _ _ _ hblank, rd_wr _ _ _ _ _ _ hengine]

theorem carryBy_loop (s : State) (p : Port) (e : Nat) : ((s.carryBy p e).port p).loop = (s.port p).loop := by
  unfold State.carryBy
  split
  · rfl
  · rw [port_model_self]
    exact blank2ms_loop _ p

/-- What the latch of an update may change of a loop's record: the copies to repair, the return to an engine, and the inner
history at a change of rate.  A part of the record that none of these touches. -/
structure LatchKeeps {α : Type} (f : LoopSt → α) : Prop where
  repair : ∀ l r, f { l with repair := r } = f l
  move : ∀ l b, f { l with moveDue := b } = f l
  rate : ∀ l k, f { l.reseed with k := k } = f l

section
variable {α : Type} {f : LoopSt → α} (hf : LatchKeeps f) (s : State) (p : Port)
include hf

theorem rerate_keeps : f ((s.rerate p).port p).loop = f (s.port p).loop := by
  unfold State.rerate
  dsimp only
  split
  · rfl
  · rw [blank2ms_loop, port_loop_self]
    exact hf.rate _ 0

theorem repairTables_keeps : f ((s.repairTables p).port p).loop = f (s.port p).loop := by
  have hrep (u : State) (e : Fin 2) : ((u.tableRepaired p e).port p).loop = (u.port p).loop := by
    unfold State.tableRepaired
    simp
  have hcopy (u : State) (e : Fin 2) (b : Bool) :
      ((if b then u.tableRepaired p e else u).port p).loop = (u.port p).loop := by
    cases b
    · rfl
    · exact hrep u e
  have hstart : f ((s.loop p fun l => { l with repair := 0 }).port p).loop = f (s.port p).loop := by
    rw [port_loop_self]
    exact hf.repair _ 0
  unfold State.repairTables
  dsimp only
  rw [hcopy, hcopy]
  exact hstart

theorem outerFirst_keeps : f ((s.outerFirst p).port p).loop = f (s.port p).loop := by
  unfold State.outerFirst
  dsimp only
  split
  · rw [rerate_keeps hf, carryBy_loop, port_loop_self]
    exact (hf.move _ false).trans (repairTables_keeps hf s p)
  · exact repairTables_keeps hf s p

/-- Step 1 of an update leaves the rest of the loop's record as the latch of MODE left it. -/
theorem latch_keeps : f ((s.latch p).port p).loop = f ((s.latchMode p).port p).loop := by
  unfold State.latch
  dsimp only
  split
  · rw [rerate_keeps hf, outerFirst_keeps hf]
  · split
    · rfl
    · exact rerate_keeps hf _ p

end

theorem latchKeeps_modeDue : LatchKeeps LoopSt.modeDue := ⟨fun _ _ => rfl, fun _ _ => rfl, fun _ _ => rfl⟩
theorem latchKeeps_vsp : LatchKeeps LoopSt.vsp := ⟨fun _ _ => rfl, fun _ _ => rfl, fun _ _ => rfl⟩

/-- The areas of the repair of a port's tables. -/
abbrev repairAreas : Nat := 0x480000007000000000140000

theorem outerFirst_rd (s : State) (p : Port) (F : Field) (i : Nat) (h : apartFromRate F = true)
    (hm : maskSkips repairAreas F = true) : (s.outerFirst p).rd F i = s.rd F i := by
  have hrep : (s.repairTables p).rd F i = s.rd F i :=
    (State.repairTables_within s p rfl (Within.refl repairAreas p s)).rd F i hm
  unfold State.outerFirst
  dsimp only
  split
  · rw [rerate_rd _ _ _ _ h, carryBy_rd _ _ _ _ _ h, State.loop_rd, hrep]
  · exact hrep

/-- Step 1 of an update leaves the registers but those of rates and engines as the latch of MODE left them. -/
theorem latch_rd (s : State) (p : Port) (F : Field) (i : Nat) (h : apartFromRate F = true)
    (hm : maskSkips repairAreas F = true) : (s.latch p).rd F i = (s.latchMode p).rd F i := by
  unfold State.latch
  dsimp only
  split
  · rw [rerate_rd _ _ _ _ h, outerFirst_rd _ _ _ _ h hm]
  · split
    · rfl
    · exact rerate_rd _ _ _ _ h

/-! ## MODE is latched (R25, R206) -/

theorem latchMode_idle (s : State) (p : Port) (h : (s.port p).loop.modeDue = false) : s.latchMode p = s := by
  unfold State.latchMode
  rw [if_neg (ne_true_of_eq_false h)]

/-- A LAW that ends is counted; other registers and the port's record stay (R198). -/
theorem lawOff_rd (s : State) (p : Port) (c : Prop) [Decidable c] (F : Field) (i : Nat) (h1 : F.apart LOOP.LAW = true)
    (h2 : F.apart LOOP.LAW_SWITCH_CNT = true) :
    (if c then s else (s.wr LOOP.LAW p 0).bump LOOP.LAW_SWITCH_CNT p).rd F i = s.rd F i := by
  split
  · rfl
  · rw [rd_bump _ _ _ _ _ h2, rd_wr _ _ _ _ _ _ h1]

theorem lawOff_port (s : State) (p q : Port) (c : Prop) [Decidable c] :
    (if c then s else (s.wr LOOP.LAW p 0).bump LOOP.LAW_SWITCH_CNT p).port q = s.port q := by
  split <;> rfl

/-- A halt of a running port: its cause, the PWM region and the count; a written MODE waits or not as before. -/
theorem halt_running (s : State) (p : Port) (c : Nat) (h : s.rd LOOP.HALT_CAUSE p = 0) (hc : c < 256) :
    (s.halt p c).rd LOOP.HALT_CAUSE p = c ∧ (s.halt p c).rd PWM.REGION p = 3 ∧
      ((s.halt p c).port p).loop.modeDue = (s.port p).loop.modeDue ∧
      (s.halt p c).rd LOOP.HALT_CNT p = min (s.rd LOOP.HALT_CNT p + 1) (2 ^ 32 - 1) := by
  unfold State.halt
  dsimp only
  rw [if_pos h]
  refine ⟨?_, ?_, ?_, ?_⟩
  · simp (disch := decide) only [rd_irq, rd_flag, State.modPort_rd, rd_bump, rd_wr, lawOff_rd, rd_wr_self]
    exact Nat.mod_eq_of_lt hc
  · simp (disch := decide) only [rd_irq, rd_flag, State.modPort_rd, rd_bump, rd_wr_self]
    rfl
  · simp [lawOff_port, LoopSt.cleared]
  · simp (disch := decide) only [rd_irq, rd_flag, State.modPort_rd, rd_bump_self, rd_wr, lawOff_rd, State.loop_rd, event_rd]
    rfl

theorem running_of_cause {s : State} {p : Port} (h : s.rd LOOP.HALT_CAUSE p = 0) : s.running p = true := by
  unfold State.running
  rw [h]
  rfl

/-- MODE 0 that waits halts a running port (cause 1). -/
theorem latchMode_halts (s : State) (p : Port) (hd : (s.port p).loop.modeDue = true) (hm : s.rd LOOP.MODE p = 0) :
    s.latchMode p = (s.loop p fun l => { l with modeDue := false }).halt p 1 := by
  unfold State.latchMode
  dsimp only
  rw [if_pos hd, if_pos hm]

/-- Another MODE that waits starts a port in HALT where nothing stands. -/
theorem latchMode_starts (s : State) (p : Port) (hd : (s.port p).loop.modeDue = true) (hm : s.rd LOOP.MODE p ≠ 0)
    (hc : s.rd LOOP.HALT_CAUSE p ≠ 0) (hs : s.haltStands p = false) :
    (s.latchMode p).rd LOOP.HALT_CAUSE p = 0 ∧ ((s.latchMode p).port p).loop.modeDue = false := by
  have hdrive (u : State) : ((u.driveOn p).port p).loop = (u.port p).loop := by
    unfold State.driveOn
    split
    · rfl
    · rw [port_modPort_self]
      rfl
  unfold State.latchMode
  dsimp only
  rw [if_pos hd, if_neg hm, if_neg (by simp [hc, hs])]
  refine ⟨?_, ?_⟩
  · rw [blank2ms_rd _ _ _ _ (by decide),
      (State.driveOn_within _ p rfl (Within.refl 0x80000038000000000000000 p _)).rd _ _ (by decide), rd_wr_self]
    rfl
  · rw [blank2ms_loop, hdrive, State.wr_port, port_loop_self]

/-! ## The window thresholds follow (R291, R292) -/

theorem track_footprint (s : State) (p : Port) : Within 0x80010000000000000000000 p s (s.track p) :=
  State.track_within s p rfl (Within.refl _ p s)

theorem ite_wr_port (s : State) (F : Field) (i v : Nat) (q : Port) (c : Prop) [Decidable c] :
    (if c then s.wr F i v else s).port q = s.port q := by
  split <;> rfl

theorem ite_wr_rd (s : State) (F G : Field) (i j v : Nat) (c : Prop) [Decidable c] (h : F.apart G = true) :
    (if c then s.wr G j v else s).rd F i = s.rd F i := by
  split
  · exact rd_wr _ _ _ _ _ _ h
  · rfl

theorem track_loop (s : State) (p : Port) : ((s.track p).port p).loop = (s.port p).loop := by
  have hkeep (u : State) (F : Field) (i v : Nat) (c : Prop) [Decidable c] :
      (if c then u else u.wr F i v).port p = u.port p := by split <;> rfl
  unfold State.track
  dsimp only
  rw [port_grd_self, hkeep, hkeep, ite_wr_port, ite_wr_port]

/-- Off a ramp both thresholds of the VBUS window are those of its reference. -/
theorem track_thresholds (s : State) (p : Port) (h : s.on GUARD.VMON_CFG_TRACK p = false) :
    (s.track p).rd GUARD.THR_HI p =
        monHi (s.rd GUARD.VMON_CFG_REF p) (s.rd GUARD.VMON_CFG_WHI p) % 2 ^ GUARD.THR_HI.width ∧
      (s.track p).rd GUARD.THR_LO p =
        monLo (s.rd GUARD.VMON_CFG_REF p) (s.rd GUARD.VMON_CFG_WLO p) % 2 ^ GUARD.THR_LO.width := by
  unfold State.track
  simp only [h, Bool.and_false, Bool.false_eq_true, false_and, if_false, State.grd_rd]
  refine ⟨?_, ?_⟩
  · rw [rd_wr _ _ _ _ _ _ (by decide), rd_wr_self, ite_wr_rd _ _ _ _ _ _ _ (by decide)]
  · rw [rd_wr_self, ite_wr_rd _ _ _ _ _ _ _ (by decide)]

/-! ## Boundaries of a port in HALT (R206) -/

theorem boundary_halted (s : State) (p : Port) (h : (s.latch p).running p = false) :
    execInnerLoopBoundary p s = .next (((s.latch p).flag LOOP.RAMPING p
      (decide (((s.latch p).port p).loop.vsp ≠ q24 ((s.latch p).rd LOOP.V_TARGET p)))).track p) := by
  unfold execInnerLoopBoundary
  dsimp only
  rw [if_pos h]

/-- A boundary in HALT writes RAMPING and the guard's thresholds: the rest of the registers is as the latch left it. -/
theorem boundary_halted_rd (s : State) (p : Port) (b : Bool) (F : Field) (i : Nat) (hr : F.apart LOOP.RAMPING = true)
    (hm : maskSkips 0x80010000000000000000000 F = true) :
    (((s.latch p).flag LOOP.RAMPING p b).track p).rd F i = (s.latch p).rd F i := by
  rw [(track_footprint _ p).rd _ _ hm, rd_flag _ _ _ _ _ _ hr]

theorem latch_running (s : State) (p : Port) : (s.latch p).running p = (s.latchMode p).running p := by
  unfold State.running
  rw [latch_rd _ _ _ _ (by decide) (by decide)]

/-- MODE 0 at a boundary halts the port. -/
theorem boundary_halts (s : State) (p : Port) (hd : (s.port p).loop.modeDue = true) (hm : s.rd LOOP.MODE p = 0)
    (hc : s.rd LOOP.HALT_CAUSE p = 0) :
    ∃ t, execInnerLoopBoundary p s = .next t ∧ t.rd LOOP.HALT_CAUSE p = 1 ∧ t.rd PWM.REGION p = 3 ∧
      (t.port p).loop.modeDue = false ∧ t.rd LOOP.HALT_CNT p = min (s.rd LOOP.HALT_CNT p + 1) (2 ^ 32 - 1) := by
  obtain ⟨hcause, hregion, hdue, hcount⟩ :=
    halt_running (s.loop p fun l => { l with modeDue := false }) p 1 hc (by decide)
  rw [← latchMode_halts s p hd hm] at hcause hregion hdue hcount
  have hhalted : (s.latch p).running p = false := by
    rw [latch_running]
    unfold State.running
    rw [hcause]
    rfl
  refine ⟨_, boundary_halted s p hhalted, ?_, ?_, ?_, ?_⟩
  · rw [boundary_halted_rd _ _ _ _ _ (by decide) (by decide), latch_rd _ _ _ _ (by decide) (by decide), hcause]
  · rw [boundary_halted_rd _ _ _ _ _ (by decide) (by decide), latch_rd _ _ _ _ (by decide) (by decide), hregion]
  · rw [track_loop, State.flag_port, latch_keeps latchKeeps_modeDue, hdue, port_loop_self]
  · rw [boundary_halted_rd _ _ _ _ _ (by decide) (by decide), latch_rd _ _ _ _ (by decide) (by decide), hcount,
      State.loop_rd]

/-- In HALT with no MODE waiting, a V_SP at its target is no ramp. -/
theorem boundary_still (s : State) (p : Port) (hr : s.running p = false) (hd : (s.port p).loop.modeDue = false)
    (hv : (s.port p).loop.vsp = q24 (s.rd LOOP.V_TARGET p)) :
    ∃ t, execInnerLoopBoundary p s = .next t ∧ t.on LOOP.RAMPING p = false := by
  have hmode := latchMode_idle s p hd
  have hvsp : ((s.latch p).port p).loop.vsp = (s.port p).loop.vsp := by rw [latch_keeps latchKeeps_vsp, hmode]
  have htarget : (s.latch p).rd LOOP.V_TARGET p = s.rd LOOP.V_TARGET p := by
    rw [latch_rd _ _ _ _ (by decide) (by decide), hmode]
  refine ⟨_, boundary_halted s p (by rw [latch_running, hmode, hr]), ?_⟩
  rw [(track_footprint _ p).on _ _ (by decide), on_flag_self _ _ _ _ (by decide), hvsp, htarget, hv]
  simp

/-- In HALT the window thresholds follow their references. -/
theorem boundary_thresholds (s : State) (p : Port) (hr : s.running p = false) (hd : (s.port p).loop.modeDue = false)
    (ht : s.on GUARD.VMON_CFG_TRACK p = false) :
    ∃ t, execInnerLoopBoundary p s = .next t ∧
      t.rd GUARD.THR_HI p = monHi (s.rd GUARD.VMON_CFG_REF p) (s.rd GUARD.VMON_CFG_WHI p) % 2 ^ GUARD.THR_HI.width ∧
      t.rd GUARD.THR_LO p = monLo (s.rd GUARD.VMON_CFG_REF p) (s.rd GUARD.VMON_CFG_WLO p) % 2 ^ GUARD.THR_LO.width := by
  have hmode := latchMode_idle s p hd
  refine ⟨_, boundary_halted s p (by rw [latch_running, hmode, hr]), ?_⟩
  have hkeep (b : Bool) (F : Field) (h : apartFromRate F = true) (hm : maskSkips repairAreas F = true)
      (hF : F.apart LOOP.RAMPING = true) : ((s.latch p).flag LOOP.RAMPING p b).rd F p = s.rd F p := by
    rw [rd_flag _ _ _ _ _ _ hF, latch_rd _ _ _ _ h hm, hmode]
  have htrack (b : Bool) : ((s.latch p).flag LOOP.RAMPING p b).on GUARD.VMON_CFG_TRACK p = false := by
    unfold State.on at ht ⊢
    rw [hkeep _ _ (by decide) (by decide) (by decide), ht]
  obtain ⟨hhi, hlo⟩ := track_thresholds _ p
    (htrack (decide (((s.latch p).port p).loop.vsp ≠ q24 ((s.latch p).rd LOOP.V_TARGET p))))
  rw [hhi, hlo, hkeep _ _ (by decide) (by decide) (by decide), hkeep _ _ (by decide) (by decide) (by decide),
    hkeep _ _ (by decide) (by decide) (by decide)]
  exact ⟨rfl, rfl⟩

end Sys2Proof.Machine
end

section
/-! PROOFS. The update of a running port (R188 steps 2 to 5, R191 to R195) and O20. -/
set_option linter.all false

namespace Sys2Proof.Machine

/-! ## What an update shows (R192, R198) -/

/-- One flag of an update: its sticky bit and its count. -/
def State.satFlag (s : State) (p : Port) (x : SatPt) : State :=
  let t1 := if x.now then s.flag x.flag p true else s
  if x.now && !x.was then t1.bump x.cnt p else t1

theorem satFlag_port (s : State) (p q : Port) (x : SatPt) : (s.satFlag p x).port q = s.port q := by
  unfold State.satFlag
  dsimp only
  split <;> split <;> rfl

theorem satFlag_rd (s : State) (p : Port) (x : SatPt) (F : Field) (i : Nat) (h1 : F.apart x.flag = true)
    (h2 : F.apart x.cnt = true) : (s.satFlag p x).rd F i = s.rd F i := by
  have hflag : (if x.now then s.flag x.flag p true else s).rd F i = s.rd F i := by
    split
    · exact rd_flag _ _ _ _ _ _ h1
    · rfl
  unfold State.satFlag
  dsimp only
  split
  · rw [rd_bump _ _ _ _ _ h2, hflag]
  · exact hflag

theorem foldl_satFlag_port (s : State) (p q : Port) (l : List SatPt) :
    (l.foldl (State.satFlag · p ·) s).port q = s.port q := by
  induction l generalizing s with
  | nil => rfl
  | cons x l ih => rw [List.foldl_cons, ih, satFlag_port]

theorem foldl_satFlag_rd (s : State) (p : Port) (l : List SatPt) (F : Field) (i : Nat)
    (h : ∀ x ∈ l, F.apart x.flag = true ∧ F.apart x.cnt = true) : (l.foldl (State.satFlag · p ·) s).rd F i = s.rd F i := by
  induction l generalizing s with
  | nil => rfl
  | cons x l ih =>
    obtain ⟨⟨h1, h2⟩, hl⟩ := List.forall_mem_cons.mp h
    rw [List.foldl_cons, ih _ hl, satFlag_rd s p x F i h1 h2]

/-- The flags of an update, and their event where a flag is new. -/
theorem satFlags_cases (s : State) (p : Port) (l : List SatPt) :
    s.satFlags p l = l.foldl (State.satFlag · p ·) s ∨ ∃ a b c, s.satFlags p l =
      ((l.foldl (State.satFlag · p ·) s).event EV.LOOP_SATURATED p a b c 0).irq LOOP.page p LOOP.IRQ_SAT := by
  unfold State.satFlags
  dsimp only
  split
  · exact .inl rfl
  · exact .inr ⟨_, _, _, rfl⟩

theorem satFlags_loop (s : State) (p : Port) (l : List SatPt) : ((s.satFlags p l).port p).loop = (s.port p).loop := by
  rcases satFlags_cases s p l with h | ⟨a, b, c, h⟩
  · rw [h, foldl_satFlag_port]
  · rw [h, State.irq_port, event_loop, foldl_satFlag_port]

theorem satFlags_cause (s : State) (p : Port) (l : List SatPt)
    (h : ∀ x ∈ l, LOOP.HALT_CAUSE.apart x.flag = true ∧ LOOP.HALT_CAUSE.apart x.cnt = true) :
    (s.satFlags p l).rd LOOP.HALT_CAUSE p = s.rd LOOP.HALT_CAUSE p := by
  rcases satFlags_cases s p l with hs | ⟨a, b, c, hs⟩
  · rw [hs, foldl_satFlag_rd _ _ _ _ _ h]
  · rw [hs, rd_irq _ _ _ _ _ _ (by decide), event_rd _ _ _ _ _ _ _ _ _ (by decide), foldl_satFlag_rd _ _ _ _ _ h]

theorem showLoop_port (s : State) (p q : Port) : (s.showLoop p).port q = s.port q := by
  unfold State.showLoop
  dsimp only
  split <;> rfl

theorem showLoop_cause (s : State) (p : Port) : (s.showLoop p).rd LOOP.HALT_CAUSE p = s.rd LOOP.HALT_CAUSE p := by
  unfold State.showLoop
  dsimp only
  split <;> simp (disch := decide) only [rd_bump, rd_wr, rd_wrI, rd_flag]

theorem sumStep_loop (s : State) (p : Port) : ((s.sumStep p).port p).loop = (s.port p).loop := by
  unfold State.sumStep
  dsimp only
  split
  · rw [port_model_self]
  · rfl

theorem sumStep_rd (s : State) (p : Port) (F : Field) (i : Nat) : (s.sumStep p).rd F i = s.rd F i := by
  unfold State.sumStep
  dsimp only
  split <;> rfl

/-! ## The update itself (R188) -/

/-- The state in which a latched port's update runs: at an outer step the pending table is swapped in first (R210), and the
engine counts the update (R215). -/
def State.updateStart (s : State) (p : Port) : State := (if s.outerDue p then s.swapTable p else s).countUpdate p

/-- The flag points of an update, by their conditions before and in it. -/
def updatePoints (a a' i i' o o' d d' : Bool) : List SatPt :=
  [⟨LOOP.SAT_ACC, LOOP.SAT_ACC_CNT, a, a', 0⟩, ⟨LOOP.SAT_INNER, LOOP.SAT_INNER_CNT, i, i', 1⟩,
    ⟨LOOP.SAT_OUTER, LOOP.SAT_OUTER_CNT, o, o', 2⟩, ⟨LOOP.SAT_DUTY, LOOP.SAT_DUTY_CNT, d, d', 3⟩]

theorem updatePoints_apart (a a' i i' o o' d d' : Bool) : ∀ x ∈ updatePoints a a' i i' o o' d d',
    LOOP.HALT_CAUSE.apart x.flag = true ∧ LOOP.HALT_CAUSE.apart x.cnt = true := by
  simp only [updatePoints, List.forall_mem_cons]
  exact ⟨by decide, by decide, by decide, by decide, by simp⟩

/-- The update of a running port: from the state of its start (whose free count an outer step may advance), the compensator's
record, the flags, the sums of the model and what the registers show. -/
theorem execInnerLoopBoundary_running (s : State) (p : Port) (h : (s.latch p).running p = true) :
    ∃ (n : Nat) (a a' i i' o o' d d' : Bool), execInnerLoopBoundary p s = .next
      (((((({ (s.latch p).updateStart p with freeCount := n }).loop p fun _ =>
        { (((s.latch p).updateStart p).duty p (((s.latch p).updateStart p).setPoint p).1).1 with
          satAcc := a', satIn := i', satOut := o', satDuty := d' }).satFlags p
        (updatePoints a a' i i' o o' d d')).sumStep p).showLoop p).track p) := by
  have hrun : ¬ (s.latch p).running p = false := by rw [h]; decide
  unfold execInnerLoopBoundary
  generalize s.latch p = u at hrun ⊢
  dsimp only
  rw [if_neg hrun]
  rw [show (if u.outerDue p then u.swapTable p else u).countUpdate p = u.updateStart p from rfl]
  generalize u.updateStart p = s1
  generalize s1.setPoint p = x
  obtain ⟨l1, a1, o1⟩ := x
  dsimp only
  generalize s1.duty p l1 = y
  obtain ⟨l2, a2, i2, d2⟩ := y
  dsimp only
  split
  · exact ⟨_, _, _, _, _, _, _, _, _, rfl⟩
  · exact ⟨_, _, _, _, _, _, _, _, _, rfl⟩

theorem duty_next (s : State) (p : Port) (l : LoopSt) :
    (s.duty p l).1.k = l.k + 1 ∧ (s.duty p l).1.modeDue = l.modeDue := ⟨rfl, rfl⟩

/-- What a port's update leaves of its loop: the count, the duty of the compensator, a waiting MODE, and HALT_CAUSE. -/
theorem boundary_running (s : State) (p : Port) (h : (s.latch p).running p = true) :
    ∃ t, execInnerLoopBoundary p s = .next t ∧
      (t.port p).loop.k = (((s.latch p).updateStart p).setPoint p).1.k + 1 ∧
      (t.port p).loop.d = (((s.latch p).updateStart p).duty p (((s.latch p).updateStart p).setPoint p).1).1.d ∧
      (t.port p).loop.modeDue = (((s.latch p).updateStart p).setPoint p).1.modeDue ∧
      t.rd LOOP.HALT_CAUSE p = ((s.latch p).updateStart p).rd LOOP.HALT_CAUSE p := by
  obtain ⟨n, a, a', i, i', o, o', d, d', heq⟩ := execInnerLoopBoundary_running s p h
  obtain ⟨hk, hdue⟩ := duty_next ((s.latch p).updateStart p) p (((s.latch p).updateStart p).setPoint p).1
  refine ⟨_, heq, ?_, ?_, ?_, ?_⟩
  · rw [track_loop, showLoop_port, sumStep_loop, satFlags_loop, port_loop_self, ← hk]
  · rw [track_loop, showLoop_port, sumStep_loop, satFlags_loop, port_loop_self]
  · rw [track_loop, showLoop_port, sumStep_loop, satFlags_loop, port_loop_self, ← hdue]
  · rw [(track_footprint _ p).rd _ _ (by decide), showLoop_cause, sumStep_rd,
      satFlags_cause _ _ _ (updatePoints_apart a a' i i' o o' d d'), State.loop_rd]
    rfl

/-! ## Steps of the update that a waiting MODE passes through -/

theorem foldl_setInteg_modeDue (dem : Int) (ins : List LawIn) (l : LoopSt) :
    (ins.foldl (fun (t : LoopSt) i => t.setInteg i.law (i.track dem).1) l).modeDue = l.modeDue := by
  have hone (t : LoopSt) (k : Law) (x : Int) : (t.setInteg k x).modeDue = t.modeDue := by cases k <;> rfl
  induction ins generalizing l with
  | nil => rfl
  | cons x ins ih => rw [List.foldl_cons, ih, hone]

theorem outerStep_modeDue (l : LoopSt) (ins : List LawIn) (lo hi : Int) :
    (outerStep l ins lo hi).1.modeDue = l.modeDue := by
  unfold outerStep
  exact foldl_setInteg_modeDue _ ins _

/-- Between outer steps the set-point leaves the inner update counter. -/
theorem setPoint_k (s : State) (p : Port) (h : s.outerDue p = false) : (s.setPoint p).1.k = (s.port p).loop.k := by
  unfold State.setPoint
  simp only [h, Bool.false_eq_true, if_false]

theorem setPoint_modeDue (s : State) (p : Port) : (s.setPoint p).1.modeDue = (s.port p).loop.modeDue := by
  unfold State.setPoint
  dsimp only
  cases h : s.outerDue p with
  | true =>
    simp only [if_true]
    rw [outerStep_modeDue, port_loop_self]
  | false => simp only [Bool.false_eq_true, if_false]

theorem swapped_modeDue (keep out : Bool) (l : LoopSt) : (l.swapped keep out).modeDue = l.modeDue := by
  cases keep <;> rfl

theorem swapTable_modeDue (s : State) (p : Port) : ((s.swapTable p).port p).loop.modeDue = (s.port p).loop.modeDue := by
  cases h : (s.port p).loop.pending with
  | none => rw [swapTable_none s p h]
  | some t =>
    obtain ⟨keep, out, a, b, c, heq⟩ := swapTable_some s p t h
    rw [heq, blank2ms_loop, State.irq_port, State.bump_port, event_loop, port_loop_self, loadTable_loop]
    exact swapped_modeDue keep out _

theorem swapTable_cause (s : State) (p : Port) : (s.swapTable p).rd LOOP.HALT_CAUSE p = s.rd LOOP.HALT_CAUSE p := by
  cases h : (s.port p).loop.pending with
  | none => rw [swapTable_none s p h]
  | some t =>
    obtain ⟨keep, out, a, b, c, heq⟩ := swapTable_some s p t h
    rw [heq, blank2ms_rd _ _ _ _ (by decide), rd_irq _ _ _ _ _ _ (by decide), rd_bump _ _ _ _ _ (by decide),
      event_rd _ _ _ _ _ _ _ _ _ (by decide), State.loop_rd,
      loadTable_rd _ _ _ _ _ (by decide) (by decide) (by decide) (by decide) (by decide)]

theorem updateStart_keeps (s : State) (p : Port) :
    (s.updateStart p).rd LOOP.HALT_CAUSE p = s.rd LOOP.HALT_CAUSE p ∧
      ((s.updateStart p).port p).loop.modeDue = (s.port p).loop.modeDue := by
  unfold State.updateStart
  split
  · exact ⟨swapTable_cause s p, swapTable_modeDue s p⟩
  · exact ⟨rfl, rfl⟩

theorem updateStart_inner (s : State) (p : Port) (h : s.outerDue p = false) : s.updateStart p = s.countUpdate p := by
  unfold State.updateStart
  rw [if_neg (ne_true_of_eq_false h)]

theorem countUpdate_outerDue (s : State) (p : Port) : (s.countUpdate p).outerDue p = s.outerDue p := rfl

/-! ## Boundaries that start a port, and updates between outer steps -/

/-- A MODE other than 0 at a boundary starts a port in HALT with nothing standing. -/
theorem boundary_starts (s : State) (p : Port) (hd : (s.port p).loop.modeDue = true) (hm : s.rd LOOP.MODE p ≠ 0)
    (hc : s.rd LOOP.HALT_CAUSE p ≠ 0) (hs : s.haltStands p = false) :
    ∃ t, execInnerLoopBoundary p s = .next t ∧ t.rd LOOP.HALT_CAUSE p = 0 ∧ (t.port p).loop.modeDue = false := by
  obtain ⟨hcause, hdue⟩ := latchMode_starts s p hd hm hc hs
  have hrun : (s.latch p).running p = true := by rw [latch_running, running_of_cause hcause]
  obtain ⟨t, ht, -, -, hdue', hcause'⟩ := boundary_running s p hrun
  obtain ⟨hkeepCause, hkeepDue⟩ := updateStart_keeps (s.latch p) p
  refine ⟨t, ht, ?_, ?_⟩
  · rw [hcause', hkeepCause, latch_rd _ _ _ _ (by decide) (by decide), hcause]
  · rw [hdue', setPoint_modeDue, hkeepDue, latch_keeps latchKeeps_modeDue, hdue]

/-- Between outer steps an update counts, and its duty is the compensator's. -/
theorem boundary_inner (s : State) (p : Port) (hr : (s.latch p).running p = true) (ho : (s.latch p).outerDue p = false) :
    ∃ t, execInnerLoopBoundary p s = .next t ∧ (t.port p).loop.k = ((s.latch p).port p).loop.k + 1 ∧
      (t.port p).loop.d = (((s.latch p).countUpdate p).duty p (((s.latch p).countUpdate p).setPoint p).1).1.d := by
  obtain ⟨t, ht, hk, hduty, -, -⟩ := boundary_running s p hr
  rw [updateStart_inner _ p ho] at hk hduty
  refine ⟨t, ht, ?_, hduty⟩
  rw [hk, setPoint_k _ p ((countUpdate_outerDue _ p).trans ho)]
  rfl

/-- Settles O20: writes of MODE, the boundaries of a port in HALT and of a running one, the flags, and the checks of tables. -/
theorem loopEngineModesAndTables : Obligations.LoopEngineModesAndTables := by
  unfold Obligations.LoopEngineModesAndTables
  refine ⟨?modeZero, ?modeReady, ?modeDenied, ?modeNotReady, ?modeReserved, ?halts, ?starts, ?inner, ?still, ?thresholds,
    ?flags, ?swap, ?noSwap, ?repair, ?fault, ?bothBad, ?noneBad⟩
  case modeZero => exact fun p s => ⟨_, rfl, modeWrite_zero s p⟩
  case modeReady => exact fun p m s h0 h4 hs hv => ⟨_, rfl, modeWrite_ready s p m h0 h4 hs hv⟩
  case modeDenied => exact fun p m s h0 h4 hs => ⟨_, rfl, modeWrite_denied s p m h0 h4 hs⟩
  case modeNotReady => exact fun p m s h0 h4 hs hv => ⟨_, rfl, modeWrite_notReady s p m h0 h4 hs hv⟩
  case modeReserved => exact fun p m s h => ⟨_, rfl, modeWrite_reserved s p m h⟩
  case halts => exact fun p s => boundary_halts s p
  case starts => exact fun p s => boundary_starts s p
  case inner => exact fun p s => boundary_inner s p
  case still => exact fun p s => boundary_still s p
  case thresholds => exact fun p s hr hd ht _ => boundary_thresholds s p hr hd ht
  case flags => exact fun p m s => satFlagsClear_flags s p m
  case swap => exact fun p l s => coefficientSwap_pending s p l
  case noSwap => exact fun p s => coefficientSwap_none s p
  case repair => exact fun p e s => tableCrcCheck_repair s p e
  case fault => exact fun p e s => tableCrcCheck_fault s p e
  case bothBad => exact fun p s => tableCrcCheck_both s p
  case noneBad => exact fun s => rfl

end Sys2Proof.Machine
end

section
/-! PROOFS. Which registers an operation leaves alone, field by field, where its areas are too coarse; and what putting a PD
message of the port's own into the transmit buffer changes (R75 to R87). -/
set_option linter.all false

namespace Sys2Proof.Machine

/-! ## Registers that stay -/

/-- The field shares no bit with any field of the list. -/
def Field.apartAll (F : Field) (l : List Field) : Bool := l.all fun G => F.apart G

/-- From `s` to `t` no register changes but the fields of `l` and the areas of the mask `m`. -/
def Leaves (l : List Field) (m : Nat) (s t : State) : Prop :=
  ∀ (F : Field) (i : Nat), F.apartAll l = true → maskSkips m F = true → t.rd F i = s.rd F i

namespace Leaves

variable {l l' : List Field} {m : Nat} {s t u : State}

theorem refl (l : List Field) (m : Nat) (s : State) : Leaves l m s s := fun _ _ _ _ => rfl

theorem trans (a : Leaves l m s t) (b : Leaves l m t u) : Leaves l m s u :=
  fun F i hl hm => (b F i hl hm).trans (a F i hl hm)

theorem wr (h : Leaves l m s t) (G : Field) (j v : Nat) (hG : G ∈ l) : Leaves l m s (t.wr G j v) :=
  fun F i hl hm => (rd_wr t F G i j v (List.all_eq_true.mp hl G hG)).trans (h F i hl hm)

theorem flag (h : Leaves l m s t) (G : Field) (j : Nat) (b : Bool) (hG : G ∈ l) : Leaves l m s (t.flag G j b) :=
  h.wr G j _ hG

theorem bump (h : Leaves l m s t) (G : Field) (j : Nat) (hG : G ∈ l) : Leaves l m s (t.bump G j) := h.wr G j _ hG

theorem irq (h : Leaves l m s t) (pg j b : Nat) (hG : IRQ_STAT pg ∈ l) : Leaves l m s (t.irq pg j b) := h.wr _ j _ hG

theorem level (h : Leaves l m s t) (pg j b : Nat) (v : Bool) (hR : IRQ_RAW pg ∈ l) (hS : IRQ_STAT pg ∈ l) :
    Leaves l m s (t.level pg j b v) := by
  have hraw : Leaves l m s (t.wrBit (IRQ_RAW pg) j b v) := h.wr _ j _ hR
  unfold State.level
  dsimp only
  split
  · exact hraw.irq pg j b hS
  · exact hraw

theorem modPort (h : Leaves l m s t) (p : Port) (f : PortSt → PortSt) : Leaves l m s (t.modPort p f) := h

theorem cc (h : Leaves l m s t) (p : Port) (f : CcSt → CcSt) : Leaves l m s (t.cc p f) := h

theorem phy (h : Leaves l m s t) (p : Port) (f : PhySt → PhySt) : Leaves l m s (t.phy p f) := h

theorem pe (h : Leaves l m s t) (p : Port) (f : PeSt → PeSt) : Leaves l m s (t.pe p f) := h

theorem swp (h : Leaves l m s t) (p : Port) (f : SwapSt → SwapSt) : Leaves l m s (t.swp p f) := h

theorem model (h : Leaves l m s t) (p : Port) (f : ModelSt → ModelSt) : Leaves l m s (t.model p f) := h

theorem ite {c : Prop} [Decidable c] (ht : Leaves l m s t) (hu : Leaves l m s u) :
    Leaves l m s (if c then t else u) := by
  split
  · exact ht
  · exact hu

/-- An operation within the mask follows. -/
theorem within (h : Leaves l m s t) {p : Nat} (w : Within m p t u) : Leaves l m s u :=
  fun F i hl hm => (w.rd F i hm).trans (h F i hl hm)

theorem mono (h : Leaves l m s t) (hl : l ⊆ l') : Leaves l' m s t :=
  fun F i hF hm => h F i (List.all_eq_true.mpr fun G hG => List.all_eq_true.mp hF G (hl hG)) hm

/-- What changes no area at all leaves what lies outside any mask. -/
theorem anyMask (h : Leaves l 0 s t) (m : Nat) : Leaves l m s t := by
  intro F i hF hm
  refine h F i hF ?_
  unfold maskSkips at hm ⊢
  simp only [Bool.and_eq_true] at hm ⊢
  exact ⟨⟨⟨hm.1.1.1, by simp⟩, by simp⟩, by simp⟩

/-- An operation that leaves more follows. -/
theorem andThen (h : Leaves l m s t) (k : Leaves l' 0 t u) (hl : l' ⊆ l) : Leaves l m s u :=
  h.trans ((k.anyMask m).mono hl)

theorem on (h : Leaves l m s t) (F : Field) (i : Nat) (hl : F.apartAll l = true) (hm : maskSkips m F = true) :
    t.on F i = s.on F i := by
  unfold State.on
  rw [h F i hl hm]

theorem openLevels (h : Leaves l m s t) (p : Port) (h1 : CC.CC1_LVL ∈ l) (h2 : CC.CC2_LVL ∈ l) :
    Leaves l m s (t.openLevels p) := by
  unfold State.openLevels
  dsimp only
  exact ite ((h.wr _ _ _ h1).wr _ _ _ h2) h

theorem present (h : Leaves l m s t) (p : Port) (x : Pres) (h1 : CC.CC1_LVL ∈ l) (h2 : CC.CC2_LVL ∈ l) :
    Leaves l m s (t.present p x) :=
  openLevels (h.cc p _) p h1 h2

theorem selReliable (h : Leaves l m s t) (b : SelBody) : Leaves l m s (t.selReliable b) := by
  unfold State.selReliable
  exact ite h h

theorem sendCache (h : Leaves l m s t) (p : Port) : Leaves l m s (t.sendCache p) := by
  unfold State.sendCache
  exact ite ((h.pe p _).selReliable _) (h.pe p _)

end Leaves

/-! ## The presentation of the pins (R35, R461) -/

theorem openLevels_port (s : State) (p q : Port) : (s.openLevels p).port q = s.port q := by
  unfold State.openLevels
  split
  · rfl
  · rfl

/-- The pins present `x`, or Open where this member does not drive them; the rest of the record stays. -/
theorem present_port (s : State) (p : Port) (x : Pres) : (s.present p x).port p =
    { s.port p with cc := { (s.port p).cc with pres := if s.drives p then x else .open_ } } := by
  unfold State.present
  rw [openLevels_port, port_cc_self]

theorem present_rd (s : State) (p : Port) (x : Pres) (F : Field) (i : Nat) (h1 : F.apart CC.CC1_LVL = true)
    (h2 : F.apart CC.CC2_LVL = true) : (s.present p x).rd F i = s.rd F i := by
  unfold State.present State.openLevels
  dsimp only
  generalize (if s.drives p then x else .open_) = y
  split
  · rw [rd_wr _ _ _ _ _ _ h2, rd_wr _ _ _ _ _ _ h1, State.cc_rd]
  · rfl

theorem selReliable_rd (s : State) (b : SelBody) (F : Field) (i : Nat) : (s.selReliable b).rd F i = s.rd F i := by
  unfold State.selReliable
  split <;> rfl

theorem selReliable_port (s : State) (b : SelBody) (p : Port) : (s.selReliable b).port p = s.port p := by
  unfold State.selReliable
  split <;> rfl

theorem sendCache_rd (s : State) (p : Port) (F : Field) (i : Nat) : (s.sendCache p).rd F i = s.rd F i := by
  unfold State.sendCache
  dsimp only
  split
  · rw [selReliable_rd, State.pe_rd]
  · rfl

/-- A cache write changes the port's record in the cache entry only (R102). -/
theorem sendCache_port (s : State) (p : Port) : ∃ img, (s.sendCache p).port p =
    { s.port p with pe := { (s.port p).pe with cache := img, cacheOk := true } } := by
  refine ⟨{ s.cacheImg p with ok := true }, ?_⟩
  unfold State.sendCache
  dsimp only
  split
  · rw [selReliable_port, port_pe_self]
  · rw [port_pe_self]

/-! ## What sending a message changes -/

/-- The registers that a message of the port's own may change on its way into the transmit buffer: the codes and counters of
the PHY, its MessageIDs, the AMS and SinkTxNG bits, and the levels of the CC pins. -/
def sendWrites : List Field :=
  [CC.CC1_LVL, CC.CC2_LVL, IRQ_STAT PD.page, PD.RP_TXNG, PD.AMS_ACTIVE, PD.TX_RESULT, PD.LAST_KIND, PD.RETRIES, PD.TX_SOP,
    PD.TX_SOPP, PD.TX_SOPPP, PD.RX_SOP, PD.RX_SOP_VLD, PD.RX_SOPP, PD.RX_SOPP_VLD, PD.RX_SOPPP, PD.RX_SOPPP_VLD,
    PD.SOFT_RESET_CNT, PD.CABLE_RESET_TX_CNT, PD.CHUNK_ABORT_CNT]

/-- From `s` to `t` port `p` has sent, or noted for sending, messages of its own: registers change in `sendWrites` only, and
the port's record in its PHY, but for the receive slots, and in what its pins present. -/
structure Speaks (p : Port) (s t : State) : Prop where
  regs : Leaves sendWrites 0 s t
  port : ∃ (y : PhySt) (x : Pres), t.port p = { s.port p with phy := y, cc := { (s.port p).cc with pres := x } } ∧
    y.rx = (s.port p).phy.rx

namespace Speaks

variable {p : Port} {s t u : State}

theorem refl (p : Port) (s : State) : Speaks p s s := ⟨.refl _ _ _, (s.port p).phy, (s.port p).cc.pres, rfl, rfl⟩

theorem trans (a : Speaks p s t) (b : Speaks p t u) : Speaks p s u := by
  obtain ⟨y, x, ht, hy⟩ := a.port
  obtain ⟨z, w, hu, hz⟩ := b.port
  refine ⟨a.regs.trans b.regs, z, w, ?_, ?_⟩
  · rw [hu, ht]
  · rw [hz, ht, hy]

theorem wr (h : Speaks p s t) (G : Field) (j v : Nat) (hG : G ∈ sendWrites) : Speaks p s (t.wr G j v) :=
  ⟨h.regs.wr G j v hG, h.port⟩

theorem flag (h : Speaks p s t) (G : Field) (j : Nat) (b : Bool) (hG : G ∈ sendWrites) : Speaks p s (t.flag G j b) :=
  h.wr G j _ hG

theorem bump (h : Speaks p s t) (G : Field) (j : Nat) (hG : G ∈ sendWrites) : Speaks p s (t.bump G j) := h.wr G j _ hG

theorem irq (h : Speaks p s t) (j b : Nat) : Speaks p s (t.irq PD.page j b) := h.wr _ j _ (by decide)

theorem phy (h : Speaks p s t) (f : PhySt → PhySt) (hf : (f (t.port p).phy).rx = (t.port p).phy.rx) :
    Speaks p s (t.phy p f) := by
  obtain ⟨y, x, ht, hy⟩ := h.port
  refine ⟨h.regs.phy p f, f (t.port p).phy, x, ?_, ?_⟩
  · rw [port_phy_self, ht]
  · rw [hf, ht, hy]

theorem present (h : Speaks p s t) (x : Pres) : Speaks p s (t.present p x) := by
  obtain ⟨y, w, ht, hy⟩ := h.port
  exact ⟨h.regs.present p x (by decide) (by decide), y, _, by rw [present_port, ht], hy⟩

theorem ite {c : Prop} [Decidable c] (ht : Speaks p s t) (hu : Speaks p s u) : Speaks p s (if c then t else u) := by
  split
  · exact ht
  · exact hu

theorem clearIds (h : Speaks p s t) (k : Sop) : Speaks p s (t.clearIds p k) := by
  unfold State.clearIds
  cases k <;> exact ((h.wr _ _ _ (by decide)).wr _ _ _ (by decide)).flag _ _ _ (by decide)

theorem pumpCableReset (h : Speaks p s t) : Speaks p s (t.pumpCableReset p) := by
  have hphy : Speaks p s (t.phy p fun y => { y with cableResetPending := false }) := h.phy _ rfl
  unfold State.pumpCableReset
  dsimp only
  exact ite (ite ((((hphy.clearIds _).clearIds _).wr _ _ _ (by decide)).bump _ _ (by decide)) hphy) h

theorem withdrawHeld (h : Speaks p s t) : Speaks p s (t.withdrawHeld p) := by
  unfold State.withdrawHeld
  split
  · exact ite ((h.wr _ _ _ (by decide)).phy _ rfl) h
  · exact h

theorem amsBegin (h : Speaks p s t) : Speaks p s (t.amsBegin p) := by
  have hams : Speaks p s (t.flag PD.AMS_ACTIVE p true) := h.flag _ _ _ (by decide)
  unfold State.amsBegin
  exact ite ((hams.flag _ _ _ (by decide)).present _) hams

theorem softResetGoes (h : Speaks p s t) (k : Sop) : Speaks p s (t.softResetGoes p k) := by
  have hids := h.clearIds k
  have hreasm : Speaks p s ((t.clearIds p k).releaseReasm p k) := by
    unfold State.releaseReasm
    exact ite (((hids.phy _ rfl).bump _ _ (by decide)).irq _ _) hids
  exact (hreasm.bump _ _ (by decide)).irq _ _

/-- The frame that is next leaves for the transmit buffer, under SinkTxNG, held, or at once (R84, R85, R87). -/
theorem pump (h : Speaks p s t) : Speaks p s (t.pump p) := by
  have hheld : Speaks p s ((t.pumpCableReset p).withdrawHeld p) := h.pumpCableReset.withdrawHeld
  unfold State.pump
  dsimp only
  split
  · refine ite hheld (ite (hheld.phy _ rfl) ?_)
    next f ams l _ _ =>
      have hgoes := ite (c := f.msg = .softReset) (hheld.softResetGoes f.sop) hheld
      have hkind := (hgoes.wr PD.LAST_KIND p (sopKind f.sop) (by decide)).wr PD.RETRIES p 0 (by decide)
      have hams := ite (c := ams = true) (hkind.flag PD.AMS_ACTIVE p true (by decide))
        (ite (c := f.sop = .sop) hkind.amsBegin hkind)
      refine ite ?_ (ite ?_ ?_)
      · exact (((hams.flag _ _ _ (by decide)).wr _ _ _ (by decide)).present _).phy _ rfl
      · exact (hams.wr _ _ _ (by decide)).phy _ rfl
      · exact (hams.wr _ _ _ (by decide)).phy _ rfl
  · exact hheld

theorem sendFrame (h : Speaks p s t) (f : Frame) (ams : Bool) : Speaks p s (t.sendFrame p f ams) := by
  unfold State.sendFrame
  dsimp only
  refine ite h ?_
  have hchunk := ite (c := (t.firstChunk p f).isSome = true) (h.phy (fun y => { y with chunkTx := some f }) rfl) h
  exact (hchunk.phy _ rfl).pump

theorem send (h : Speaks p s t) (m : PdMsg) (b : Body) : Speaks p s (t.send p m b) := h.sendFrame _ _

theorem sendAms (h : Speaks p s t) (m : PdMsg) (b : Body) : Speaks p s (t.sendAms p m b) := h.sendFrame _ _

/-! What the relation says of the registers and of the record's parts. -/

theorem rd (h : Speaks p s t) (F : Field) (i : Nat) (hF : F.apartAll sendWrites = true) (hb : maskSkips 0 F = true) :
    t.rd F i = s.rd F i := h.regs F i hF hb

theorem on (h : Speaks p s t) (F : Field) (i : Nat) (hF : F.apartAll sendWrites = true) (hb : maskSkips 0 F = true) :
    t.on F i = s.on F i := h.regs.on F i hF hb

theorem pe_eq (h : Speaks p s t) : (t.port p).pe = (s.port p).pe := by
  obtain ⟨y, x, ht, -⟩ := h.port
  rw [ht]

theorem swap_eq (h : Speaks p s t) : (t.port p).swap = (s.port p).swap := by
  obtain ⟨y, x, ht, -⟩ := h.port
  rw [ht]

theorem ocpTrips_eq (h : Speaks p s t) : (t.port p).cc.ocpTrips = (s.port p).cc.ocpTrips := by
  obtain ⟨y, x, ht, -⟩ := h.port
  rw [ht]

theorem rx_eq (h : Speaks p s t) : (t.port p).phy.rx = (s.port p).phy.rx := by
  obtain ⟨y, x, ht, hy⟩ := h.port
  rw [ht, hy]

end Speaks

/-! ## A message that leaves at once -/

/-- A port whose Twill works, and whose PHY has nothing waiting, being sent, or pending. -/
def State.clearToSend (s : State) (p : Port) : Bool :=
  let y := (s.port p).phy
  s.on PD.PD_EN p && s.twillOn p && y.tx.isNone && y.outbox.isEmpty && !y.hrPending && !y.cableResetPending
    && !s.cacheWaits p

/-- The only frame that waits goes into the transmit buffer, under the next MessageID of SOP (R75, R84). -/
theorem pump_sends (s : State) (p : Port) (f : Frame) (hout : (s.port p).phy.outbox = [(f, false)])
    (htx : (s.port p).phy.tx = none) (hcable : (s.port p).phy.cableResetPending = false)
    (hhr : (s.port p).phy.hrPending = false) (htwill : s.carriedByTwill p = true) (hshadow : s.on PD.SHADOW p = false)
    (hcache : s.cacheWaits p = false) (hsop : f.sop = .sop) (hmsg : f.msg ≠ .softReset) :
    ((s.pump p).port p).phy.tx = some { f with id := BitVec.ofNat 3 (s.rd (txId .sop) p) } := by
  have hpump : s.pumpCableReset p = s := by
    unfold State.pumpCableReset
    simp [hcable]
  have hheld : s.withdrawHeld p = s := by
    unfold State.withdrawHeld
    simp [htx]
  have hhears : s.hears p f.sop = true := by rw [hsop]; rfl
  unfold State.pump
  dsimp only
  rw [hpump, hheld]
  simp [htx, hout, hhr, htwill, hshadow, hcache, hsop, hmsg, State.hears]

/-- A message that needs no chunks, from a port that is clear to send, is put into the transmit buffer. -/
theorem send_sends (s : State) (p : Port) (m : PdMsg) (b : Body) (h : s.clearToSend p = true) (hm : m ≠ .softReset)
    (hext : isExtended m = false) : Sends p m b s (s.send p m b) := by
  unfold State.clearToSend State.twillOn at h
  simp only [Bool.and_eq_true, Bool.not_eq_true', Option.isNone_iff_eq_none, List.isEmpty_iff] at h
  obtain ⟨⟨⟨⟨⟨⟨hpd, htwill, hshadow⟩, htx⟩, hout⟩, hhr⟩, hcable⟩, hcache⟩ := h
  have hlong : tooLong (extBytes ⟨.sop, m, 0, none, b⟩) ⟨.sop, m, 0, none, b⟩ = false := by
    unfold tooLong
    rw [hext, Bool.false_and]
  have hchunk : s.firstChunk p ⟨.sop, m, 0, none, b⟩ = none := by
    unfold State.firstChunk
    simp [hext]
  have hsend : s.send p m b =
      (s.phy p fun y => { y with outbox := queueFrame (⟨.sop, m, 0, none, b⟩, false) y.outbox }).pump p := by
    unfold State.send State.sendFrame
    dsimp only
    rw [if_neg (by rw [htwill, hshadow, hpd, hlong]; decide), hchunk]
    rfl
  unfold Sends
  rw [hsend]
  refine pump_sends _ p ⟨.sop, m, 0, none, b⟩ ?_ ?_ ?_ ?_ htwill hshadow hcache rfl hm
  · simp [hout, queueFrame]
  · simpa using htx
  · simpa using hcable
  · simpa using hhr

/-- Nothing of a port that listens hinders its next message. -/
theorem clearToSend_of_listens (s : State) (p : Port) (h : s.listens p = true) : s.clearToSend p = true := by
  unfold State.listens at h
  unfold State.clearToSend
  simp only [Bool.and_eq_true] at h ⊢
  tauto

end Sys2Proof.Machine
end

section
/-! PROOFS. The states of attachment (R30, R37, R39 to R43, R58): entering an Unattached state, attaching and detaching. -/
set_option linter.all false

namespace Sys2Proof.Machine

/-! ## Entering an Unattached state (R37, R39) -/

/-- TC_STATE is written and the pins present their termination: one shape of all changes of the connection state. -/
theorem wr_present_tc (s : State) (p : Port) (st : Nat) (x : Pres) (h : st < 256) :
    ((s.wr CC.TC_STATE p st).present p x).tc p = st := by
  unfold State.tc
  rw [present_rd _ _ _ _ _ (by decide) (by decide), rd_wr_self]
  exact Nat.mod_eq_of_lt h

/-- The pins of a driven port present what its new connection state asks for. -/
theorem wr_present_pres (s : State) (p : Port) (st : Nat) (x : Pres) (h : s.drives p = true) :
    (((s.wr CC.TC_STATE p st).present p x).port p).cc.pres = x := by
  have hdrives : (s.wr CC.TC_STATE p st).drives p = true := by
    unfold State.drives State.gst at h ⊢
    rw [rd_wr _ _ _ _ _ _ (by decide)]
    exact h
  rw [present_port]
  exact if_pos hdrives

theorem enterUnattachedAs_tc (s : State) (p : Port) (snk : Bool) :
    (s.enterUnattachedAs p snk).tc p = s.startState p snk := by
  unfold State.enterUnattachedAs State.startState
  dsimp only
  split
  · exact wr_present_tc _ _ _ _ (by decide)
  · split
    · exact wr_present_tc _ _ _ _ (by decide)
    · exact wr_present_tc _ _ _ _ (by decide)

/-- Besides TC_STATE and the levels of pins that present Open, an Unattached state changes no register. -/
def unattachedWrites : List Field := [CC.TC_STATE, CC.CC1_LVL, CC.CC2_LVL]

theorem wr_present_leaves (s : State) (p : Port) (st : Nat) (x : Pres) :
    Leaves unattachedWrites 0 s ((s.wr CC.TC_STATE p st).present p x) :=
  ((Leaves.refl _ _ s).wr _ _ _ (by decide)).present _ _ (by decide) (by decide)

theorem enterUnattachedAs_leaves (s : State) (p : Port) (snk : Bool) :
    Leaves unattachedWrites 0 s (s.enterUnattachedAs p snk) := by
  unfold State.enterUnattachedAs
  dsimp only
  exact Leaves.ite (wr_present_leaves (s.cc p _) _ _ _)
    (Leaves.ite (wr_present_leaves (s.cc p _) _ _ _) (wr_present_leaves (s.cc p _) _ _ _))

/-! ## Attaching (R30, R41, R43) -/

theorem seedAtAttach_rd (s : State) (p : Port) (F : Field) (i : Nat)
    (h : maskSkips 0x80002000000000000000000 F = true) : (s.seedAtAttach p).rd F i = s.rd F i :=
  (State.seedAtAttach_within s p rfl (Within.refl _ p s)).rd F i h

/-- What both attached states show: the role, the state, and the attachment counted. -/
def Attaches (p : Port) (st role : Nat) (s t : State) : Prop :=
  t.on CC.ATTACHED p = true ∧ t.rd CC.PWR_ROLE p = role ∧ t.tc p = st ∧
    t.rd CC.ATTACH_CNT p = min (s.rd CC.ATTACH_CNT p + 1) (2 ^ 32 - 1)

theorem Attaches.of_leaves {p : Port} {st role : Nat} {s t u : State} {l : List Field} (h : Attaches p st role s t)
    (k : Leaves l 0 t u) (ha : CC.ATTACHED.apartAll l = true) (hr : CC.PWR_ROLE.apartAll l = true)
    (hs : CC.TC_STATE.apartAll l = true) (hc : CC.ATTACH_CNT.apartAll l = true) : Attaches p st role s u := by
  obtain ⟨hattached, hrole, hstate, hcount⟩ := h
  exact ⟨(k.on _ _ ha (by decide)).trans hattached, (k _ _ hr (by decide)).trans hrole,
    (k _ _ hs (by decide)).trans hstate, (k _ _ hc (by decide)).trans hcount⟩

theorem attach_attaches (s : State) (p : Port) (st role : Nat) (hs : st < 256) (hr : role < 4) :
    Attaches p st role s (s.attach p st role) := by
  have hst : st % 2 ^ CC.TC_STATE.width = st := Nat.mod_eq_of_lt hs
  have hrole : role % 2 ^ CC.PWR_ROLE.width = role := Nat.mod_eq_of_lt hr
  unfold Attaches State.tc State.on State.attach
  dsimp only
  simp (disch := decide) only [sendCache_rd, seedAtAttach_rd, State.cc_rd, rd_wr, rd_irq, rd_bump, rd_flag, rd_wr_self,
    rd_bump_self, rd_flag_self, hst, hrole, true_and]
  exact ⟨rfl, rfl⟩

/-- A claim of VCONN writes the VCONN registers only (R53, R56). -/
def claimWrites : List Field :=
  [CC.VCONN_DENIED, CC.VCONN_DENIED_CNT, IRQ_STAT CC.page, CC.VCONN_ON, CC.VCONN_RES, CC.VCONN_PIN, PD.VCONN_SRC]

theorem vconnClaim_leaves (s : State) (p : Port) : Leaves claimWrites 0 s (s.vconnClaim p) := by
  have h := Leaves.refl claimWrites 0 s
  have hdenied := ((h.flag CC.VCONN_DENIED p true (by decide)).bump CC.VCONN_DENIED_CNT p (by decide)).irq CC.page p
    CC.IRQ_VCONN_FAULT (by decide)
  have hon := (((h.flag CC.VCONN_ON p true (by decide)).wr CC.VCONN_RES p 30 (by decide)).wr CC.VCONN_PIN p
    (1 - s.rd CC.ORIENT p) (by decide)).flag PD.VCONN_SRC p true (by decide)
  unfold State.vconnClaim
  exact Leaves.ite h (Leaves.ite (hdenied.cc p _) ((hon.cc p _).sendCache p))

theorem attachSrc_attaches (s : State) (p : Port) : Attaches p tcAttachedSrc 1 s (s.attachSrc p) :=
  (attach_attaches s p tcAttachedSrc 1 (by decide) (by decide)).of_leaves (vconnClaim_leaves _ p) (by decide) (by decide)
    (by decide) (by decide)

/-- A new sink's draw and its default contract (R45). -/
def sinkWrites : List Field := [LOOP.I_REV_LIM, PD.CONTRACT, PD.PD_STATE]

theorem attachSnk_leaves (s : State) (p : Port) :
    Leaves sinkWrites 0 ((s.adopt p).attach p tcAttachedSnk 2) (s.attachSnk p) := by
  have h := Leaves.refl sinkWrites 0 ((s.adopt p).attach p tcAttachedSnk 2)
  unfold State.attachSnk
  dsimp only
  exact Leaves.ite (((h.wr _ _ _ (by decide)).wr _ _ _ (by decide)).wr _ _ _ (by decide))
    ((h.wr _ _ _ (by decide)).wr _ _ _ (by decide))

theorem attachSnk_contract (s : State) (p : Port) : (s.attachSnk p).rd PD.CONTRACT p = 1 := by
  unfold State.attachSnk
  extract_lets l a s1
  split
  · rw [rd_wr _ _ _ _ _ _ (by decide), rd_wr_self]
    rfl
  · rw [rd_wr_self]
    rfl

theorem attachSnk_attaches (s : State) (p : Port) :
    (s.attachSnk p).on CC.ATTACHED p = true ∧ (s.attachSnk p).rd CC.PWR_ROLE p = 2 ∧ (s.attachSnk p).tc p = tcAttachedSnk ∧
      (s.attachSnk p).rd PD.CONTRACT p = 1 ∧
      (s.attachSnk p).rd CC.ATTACH_CNT p = min (s.rd CC.ATTACH_CNT p + 1) (2 ^ 32 - 1) := by
  have hattach : Attaches p tcAttachedSnk 2 s ((s.adopt p).attach p tcAttachedSnk 2) :=
    attach_attaches (s.adopt p) p tcAttachedSnk 2 (by decide) (by decide)
  obtain ⟨hattached, hrole, hstate, hcount⟩ := hattach.of_leaves (attachSnk_leaves s p) (by decide) (by decide)
    (by decide) (by decide)
  exact ⟨hattached, hrole, hstate, attachSnk_contract s p, hcount⟩

/-! ## The end of an attachment (R30 step 10, R52, R58) -/

/-- The registers that the end of an attachment writes after the end of its contract. -/
def endWrites : List Field :=
  [CC.ATTACHED, CC.PWR_ROLE, CC.CC_OPEN_Q, IRQ_RAW CC.page, IRQ_STAT CC.page, CC.VCONN_ON, CC.VCONN_RES, CC.DISC_COUNT,
    CC.DISC_STATE, CC.EPR_CABLE, CC.CABLE_VMAX, CC.CABLE_IMAX, CC.ACTIVE, LOOP.CAB_FAULT, LOOP.LEARNING, PD.NEG_REV,
    PD.UNCHUNKED, PD.PD_STATE, PD.VCONN_SRC, PD.EPR_CAP, PD.UNCHUNKED_CAP, PD.REV, PD.TX_RESULT, PD.TX_SOP, PD.TX_SOPP,
    PD.TX_SOPPP, PD.RX_SOP, PD.RX_SOP_VLD, PD.RX_SOPP, PD.RX_SOPP_VLD, PD.RX_SOPPP, PD.RX_SOPPP_VLD]

theorem Leaves.swapEnd {l : List Field} {m : Nat} {s t : State} (h : Leaves l m s t) (p : Port) :
    Leaves l m s (t.swapEnd p) := by
  have hswp : Leaves l m s (t.swp p fun w => { w with step := .none, acked := false }) := h.swp p _
  unfold State.swapEnd
  exact Leaves.ite ((hswp.pe p _).sendCache p) hswp

theorem Leaves.vconnOff {l : List Field} {m : Nat} {s t : State} (h : Leaves l m s t) (p : Port) (h1 : CC.VCONN_ON ∈ l)
    (h2 : CC.VCONN_RES ∈ l) : Leaves l m s (t.vconnOff p) :=
  ((h.flag _ _ _ h1).wr _ _ _ h2).cc p _

theorem clearAllIds_leaves (s : State) (p : Port) : Leaves endWrites 0 s (s.clearAllIds p) := by
  have hids (k : Sop) (t : State) (h : Leaves endWrites 0 s t) : Leaves endWrites 0 s (t.clearIds p k) := by
    unfold State.clearIds
    cases k <;> exact ((h.wr _ _ _ (by decide)).wr _ _ _ (by decide)).flag _ _ _ (by decide)
  exact hids _ _ (hids _ _ (hids _ _ (.refl _ _ _)))

/-- After the end of its contract, the end of an attachment writes `endWrites`: its updates, outermost first. -/
theorem endAttachment_leaves (s : State) (p : Port) :
    Leaves endWrites 0 ((s.keepRext p).clearContract p) (s.endAttachment p) := by
  have hstart := (((Leaves.refl endWrites 0 ((s.keepRext p).clearContract p)).swapEnd p).vconnOff p (by decide)
    (by decide)).trans (clearAllIds_leaves _ p)
  unfold State.endAttachment
  dsimp only
  repeat' with_reducible
    first | exact hstart | apply Leaves.sendCache | apply Leaves.modPort | apply Leaves.cc | apply Leaves.swp
          | apply Leaves.pe | apply Leaves.phy | apply Leaves.model | apply Leaves.wr | apply Leaves.flag
          | apply Leaves.irq | apply Leaves.level | apply Leaves.ite
  all_goals decide

theorem clearContract_contract (s : State) (p : Port) : (s.clearContract p).rd PD.CONTRACT p = 0 := by
  unfold State.clearContract
  dsimp only
  simp (disch := decide) only [sendCache_rd, State.phy_rd, rd_flag, rd_wr, rd_wr_self]
  rfl

theorem endAttachment_contract (s : State) (p : Port) : (s.endAttachment p).rd PD.CONTRACT p = 0 :=
  (endAttachment_leaves s p PD.CONTRACT p (by decide) (by decide)).trans (clearContract_contract _ p)

/-- The state of a port whose switch has been opened, whose MODE is 0 and whose attachment has ended. -/
def State.ended (s : State) (p : Port) : State :=
  (((s.detachEvent p).openPlanned p).setMode p 0).endAttachment p

/-- What follows the end of the attachment in a detach. -/
def detachWrites : List Field :=
  [CC.TC_STATE, CC.CC1_LVL, CC.CC2_LVL, IRQ_STAT CC.page, LOOP.CAB_FAULT, LOOP.FROZEN]

theorem detach_leaves (s : State) (p : Port) :
    Leaves detachWrites 0 ((s.ended p).bump CC.DETACH_CNT p) (s.detach p) := by
  have hflags := (((Leaves.refl detachWrites 0 ((s.ended p).bump CC.DETACH_CNT p)).irq CC.page p CC.IRQ_DETACH
    (by decide)).flag LOOP.CAB_FAULT p false (by decide)).flag LOOP.FROZEN p false (by decide)
  unfold State.detach State.enterUnattached
  exact Leaves.ite (hflags.andThen (wr_present_leaves _ p _ _) (by decide))
    (hflags.andThen (enterUnattachedAs_leaves _ p _) (by decide))

/-- Opening the switch, MODE 0 and the end of the attachment leave the counters of the CC page. -/
theorem ended_detachCount (s : State) (p : Port) : (s.ended p).rd CC.DETACH_CNT p = s.rd CC.DETACH_CNT p := by
  have hopened : Within 0x58001B000000000000140000 p s (((s.detachEvent p).openPlanned p).setMode p 0) :=
    State.setMode_within _ p 0 rfl (State.openPlanned_within _ p rfl (State.detachEvent_within s p rfl (Within.refl _ p s)))
  unfold State.ended
  rw [endAttachment_rd _ _ _ _ (by decide) (by decide), hopened.rd _ _ (by decide)]

/-- A detach ends the attachment and its contract, and is counted. -/
theorem detach_detaches (s : State) (p : Port) :
    (s.detach p).on CC.ATTACHED p = false ∧ (s.detach p).rd PD.CONTRACT p = 0 ∧
      (s.detach p).rd CC.DETACH_CNT p = min (s.rd CC.DETACH_CNT p + 1) (2 ^ 32 - 1) := by
  have h := detach_leaves s p
  refine ⟨?_, ?_, ?_⟩
  · rw [h.on CC.ATTACHED p (by decide) (by decide), on_bump _ _ _ _ _ (by decide)]
    exact endAttachment_detached _ p
  · rw [h PD.CONTRACT p (by decide) (by decide), rd_bump _ _ _ _ _ (by decide)]
    exact endAttachment_contract _ p
  · rw [h CC.DETACH_CNT p (by decide) (by decide), rd_bump_self, ended_detachCount]
    rfl

end Sys2Proof.Machine
end

section
/-! PROOFS. Detection, debounce, attachment, toggling, the Try states and the end of ErrorRecovery (R35 to R43, R50, R136): O6. -/
set_option linter.all false

namespace Sys2Proof.Machine

/-! ## Levels (R35, R41, R43) -/

/-- Every level code fits its three bits. -/
theorem readLevel_lt (s : State) (p : Port) (mv : Nat) : s.readLevel p mv < 8 := by
  unfold State.readLevel pinLevel
  split
  · decide
  · split <;> (repeat' split) <;> decide

theorem setLevels_lvl (s : State) (p : Port) (a b : Nat) :
    (s.setLevels p a b).lvl p = (s.readLevel p a, s.readLevel p b) := by
  unfold State.setLevels State.lvl
  rw [State.cc_rd, State.cc_rd, rd_wr _ _ _ _ _ _ (by decide), rd_wr_self, rd_wr_self]
  exact Prod.ext (Nat.mod_eq_of_lt (readLevel_lt s p a)) (Nat.mod_eq_of_lt (readLevel_lt s p b))

/-- Whether the port enters AttachWait, notes the pin, or does neither, its levels stay. -/
theorem attachWait_lvl (s : State) (p : Port) (st : Nat) (f : CcSt → CcSt) (a b : Prop) [Decidable a] [Decidable b] :
    (if a then (s.cc p f).wr CC.TC_STATE p st else if b then s.cc p f else s).lvl p = s.lvl p := by
  split
  · unfold State.lvl
    rw [rd_wr _ _ _ _ _ _ (by decide), rd_wr _ _ _ _ _ _ (by decide), State.cc_rd, State.cc_rd]
  · split <;> rfl

theorem lvl_eq {s : State} {p : Port} {a b : Nat} (h : s.lvl p = (a, b)) :
    s.rd CC.CC1_LVL p = a ∧ s.rd CC.CC2_LVL p = b := Prod.ext_iff.mp h

theorem rdDetected_levels (s : State) (p : Port) (a b : Nat) : ∃ t, execRdDetected p a b s = .next t ∧
    t.rd CC.CC1_LVL p = s.readLevel p a ∧ t.rd CC.CC2_LVL p = s.readLevel p b := by
  refine ⟨_, rfl, lvl_eq ?_⟩
  have h := setLevels_lvl s p a b
  dsimp only
  split
  · exact (attachWait_lvl _ p _ _ _ _).trans h
  · exact h

theorem rpDetected_levels (s : State) (p : Port) (a b : Nat) : ∃ t, execRpDetected p a b s = .next t ∧
    t.rd CC.CC1_LVL p = s.readLevel p a ∧ t.rd CC.CC2_LVL p = s.readLevel p b := by
  refine ⟨_, rfl, lvl_eq ?_⟩
  have h := setLevels_lvl s p a b
  dsimp only
  split
  · exact (attachWait_lvl _ p _ _ _ _).trans h
  · exact h

theorem rdDetected_attachWait (s : State) (p : Port) (a b : Nat) (cc2 : Bool) (hs : s.tc p = tcUnattachedSrc)
    (hc : s.canAttach p = true) (hpin : attachPin (s.readLevel p a, s.readLevel p b) = some cc2) :
    ∃ t, execRdDetected p a b s = .next t ∧ t.tc p = tcAttachWaitSrc ∧ (t.port p).cc.pin = cc2 := by
  refine ⟨_, rfl, ?_⟩
  simp only [setLevels_lvl, hpin]
  rw [if_pos ⟨hs, hc⟩]
  exact ⟨rd_wr_self _ CC.TC_STATE p _, by rw [State.wr_port, port_cc_self]⟩

theorem rpDetected_attachWait (s : State) (p : Port) (a b : Nat) (cc2 : Bool) (hs : s.tc p = tcUnattachedSnk)
    (hc : s.canAttach p = true) (hpin : rpPin (s.readLevel p a, s.readLevel p b) = some cc2) :
    ∃ t, execRpDetected p a b s = .next t ∧ t.tc p = tcAttachWaitSnk ∧ (t.port p).cc.pin = cc2 := by
  refine ⟨_, rfl, ?_⟩
  simp only [setLevels_lvl, hpin]
  rw [if_pos ⟨hs, hc⟩]
  exact ⟨rd_wr_self _ CC.TC_STATE p _, by rw [State.wr_port, port_cc_self]⟩

/-! ## tCCDebounce (R40, R41, R43) -/

/-- The Try state that a DRP passes through, and what it presents there (R40). -/
theorem toTry (s : State) (p : Port) (st : Nat) (x : Pres) (hd : s.drives p = true) (h : st < 256) :
    ((s.wr CC.TC_STATE p st).present p x).tc p = st ∧
      (((s.wr CC.TC_STATE p st).present p x).port p).cc.pres = x :=
  ⟨wr_present_tc s p st x h, wr_present_pres s p st x hd⟩

theorem ccDebounce_src (s : State) (p : Port) (v : Nat) (hd : s.drives p = true) (hs : s.tc p = tcAttachWaitSrc)
    (hp : (attachPin (s.lvl p)).isSome = true) (ht : ¬((s.port p).cc.role = 3 ∧ (s.port p).cc.try_ = 2)) :
    execTCcdebounceExpiry p v s = .next (s.attachSrc p) := by
  unfold execTCcdebounceExpiry
  dsimp only
  rw [if_neg (by simp [hd]), if_pos ⟨hs, hp⟩, if_neg ht]

theorem ccDebounce_trySnk (s : State) (p : Port) (v : Nat) (hd : s.drives p = true) (hs : s.tc p = tcAttachWaitSrc)
    (hp : (attachPin (s.lvl p)).isSome = true) (hr : (s.port p).cc.role = 3) (ht : (s.port p).cc.try_ = 2) :
    execTCcdebounceExpiry p v s = .next ((s.wr CC.TC_STATE p tcTrySnk).present p .rd) := by
  unfold execTCcdebounceExpiry
  dsimp only
  rw [if_neg (by simp [hd]), if_pos ⟨hs, hp⟩, if_pos ⟨hr, ht⟩]

theorem ccDebounce_snk (s : State) (p : Port) (v : Nat) (hd : s.drives p = true) (hs : s.tc p = tcAttachWaitSnk)
    (hp : (rpPin (s.lvl p)).isSome = true) (hv : 4750 ≤ v) (ht : ¬((s.port p).cc.role = 3 ∧ (s.port p).cc.try_ = 1)) :
    execTCcdebounceExpiry p v s = .next (s.attachSnk p) := by
  unfold execTCcdebounceExpiry
  dsimp only
  rw [if_neg (by simp [hd]), if_neg (by simp [hs]), if_pos ⟨hs, hp, hv⟩, if_neg ht]

theorem ccDebounce_trySrc (s : State) (p : Port) (v : Nat) (hd : s.drives p = true) (hs : s.tc p = tcAttachWaitSnk)
    (hp : (rpPin (s.lvl p)).isSome = true) (hv : 4750 ≤ v) (hr : (s.port p).cc.role = 3) (ht : (s.port p).cc.try_ = 1) :
    execTCcdebounceExpiry p v s = .next ((s.wr CC.TC_STATE p tcTrySrc).present p (rpOf (s.rd CC.RP_SEL p))) := by
  unfold execTCcdebounceExpiry
  dsimp only
  rw [if_neg (by simp [hd]), if_neg (by simp [hs]), if_pos ⟨hs, hp, hv⟩, if_pos ⟨hr, ht⟩]

theorem ccDebounce_tryWaitSnk (s : State) (p : Port) (v : Nat) (hd : s.drives p = true) (hs : s.tc p = tcTryWaitSnk)
    (hp : (rpPin (s.lvl p)).isSome = true) (hv : 4750 ≤ v) :
    execTCcdebounceExpiry p v s = .next (s.attachSnk p) := by
  unfold execTCcdebounceExpiry
  dsimp only
  rw [if_neg (by simp [hd]), if_neg (by simp [hs]), if_neg (by simp [hs]), if_pos ⟨hs, hp, hv⟩]

/-! ## tPDDebounce and tDRP (R39, R41, R43, R50) -/

theorem pdDebounce_src (s : State) (p : Port) (hs : s.tc p = tcAttachWaitSrc) (h1 : (s.lvl p).1 ≠ 2)
    (h2 : (s.lvl p).2 ≠ 2) : execTPddebounceExpiry p s = .next (s.enterUnattachedAs p false) := by
  unfold execTPddebounceExpiry
  dsimp only
  rw [if_pos hs, if_neg (by simp [h1, h2])]

theorem pdDebounce_snk (s : State) (p : Port) (hs : s.tc p = tcAttachWaitSnk ∨ s.tc p = tcTryWaitSnk)
    (hp : (rpPin (s.lvl p)).isSome = false) : execTPddebounceExpiry p s = .next (s.enterUnattachedAs p true) := by
  unfold execTPddebounceExpiry
  dsimp only
  rw [if_neg (by rcases hs with h | h <;> simp [h]), if_pos hs, if_neg (by simp [hp])]

theorem pdDebounce_detach (s : State) (p : Port) (hs : s.tc p = tcAttachedSrc ∨ s.tc p = tcAttachedSnk)
    (ha : s.on CC.ATTACHED p = true) (ho : s.on CC.CC_OPEN_Q p = true) (hi : s.ccOpenIgnored p = false) :
    execTPddebounceExpiry p s = .next (s.detach p) := by
  unfold execTPddebounceExpiry
  dsimp only
  rw [if_neg (by rcases hs with h | h <;> simp [h]), if_neg (by rcases hs with h | h <;> simp [h]),
    if_pos ⟨ha, .inl ho⟩, if_neg (by simp [hi])]

theorem drpToggle_src (s : State) (p : Port) (hr : (s.port p).cc.role = 3) (hd : s.drives p = true)
    (hs : s.tc p = tcUnattachedSrc) : execTDrpToggle p s = .next (s.enterUnattachedAs p true) := by
  unfold execTDrpToggle
  rw [if_neg (by simp [hr, hd]), if_pos hs]

theorem drpToggle_snk (s : State) (p : Port) (hr : (s.port p).cc.role = 3) (hd : s.drives p = true)
    (hs : s.tc p = tcUnattachedSnk) : execTDrpToggle p s = .next (s.enterUnattachedAs p false) := by
  unfold execTDrpToggle
  rw [if_neg (by simp [hr, hd]), if_neg (by simp [hs]), if_pos hs]

/-! ## The Try states (R40) -/

theorem try_rd (s : State) (p : Port) (v : Nat) (hd : s.drives p = true)
    (hs : s.tc p = tcTrySrc ∨ (s.tc p = tcTryWaitSrc ∧ v < 800)) (hp : (attachPin (s.lvl p)).isSome = true) :
    execTryTimerExpiry p .tryCcDebounce v s = .next (s.attachSrc p) := by
  unfold execTryTimerExpiry
  rcases hs with hs | ⟨hs, hv⟩
  · simp [hd, hs, hp]
  · simp [hd, hs, hp, hv]

theorem trySrc_noRd (s : State) (p : Port) (x : TryTimer) (v : Nat) (hd : s.drives p = true) (hs : s.tc p = tcTrySrc)
    (hp : (attachPin (s.lvl p)).isSome = false) (hx : (x = .drpTry ∧ v < 800) ∨ x = .tryTimeout) :
    execTryTimerExpiry p x v s = .next ((s.wr CC.TC_STATE p tcTryWaitSnk).present p .rd) := by
  unfold execTryTimerExpiry
  rcases hx with ⟨rfl, hv⟩ | rfl
  · simp [hd, hs, hp, Nat.not_le.mpr hv]
  · simp [hd, hs, hp]

theorem trySnk_rp (s : State) (p : Port) (v : Nat) (hd : s.drives p = true) (hs : s.tc p = tcTrySnk)
    (hp : (rpPin (s.lvl p)).isSome = true) (hv : 4750 ≤ v) :
    execTryTimerExpiry p .tryCcDebounce v s = .next (s.attachSnk p) := by
  unfold execTryTimerExpiry
  simp [hd, hs, hp, hv]

theorem trySnk_noRp (s : State) (p : Port) (v : Nat) (hd : s.drives p = true) (hs : s.tc p = tcTrySnk)
    (hp : (rpPin (s.lvl p)).isSome = false) : execTryTimerExpiry p .tryCcDebounce v s =
      .next ((s.wr CC.TC_STATE p tcTryWaitSrc).present p (rpOf (s.rd CC.RP_SEL p))) := by
  unfold execTryTimerExpiry
  simp [hd, hs, hp]

theorem tryWait_noPartner (s : State) (p : Port) (v : Nat) (hd : s.drives p = true)
    (hs : (s.tc p = tcTryWaitSrc ∧ (attachPin (s.lvl p)).isSome = false) ∨
      (s.tc p = tcTryWaitSnk ∧ (rpPin (s.lvl p)).isSome = false)) :
    execTryTimerExpiry p .drpTryWait v s = .next (s.enterUnattachedAs p true) := by
  unfold execTryTimerExpiry
  rcases hs with ⟨hs, hp⟩ | ⟨hs, hp⟩
  · simp [hd, hs, hp]
  · simp [hd, hs, hp]

theorem errorRecovery_expires (s : State) (p : Port)
    (hs : s.tc p = tcErrorRecovery ∨ s.tc p = tcCcSafe ∨ s.tc p = tcOvpHold) (ht : s.tripStands p = false)
    (hh : s.heldSafe p = false) (ho : s.on CC.CC_OVP p = false) (hd : s.drives p = true) :
    execTErrorRecoveryExpiry p s = .next (s.enterUnattachedAs p false) := by
  unfold execTErrorRecoveryExpiry
  rw [if_pos ⟨by simpa using hs, ht, hh, ho, hd⟩]
  rfl

/-- Settles O6, by the state that each observation or expiry leads to. -/
theorem attachDetectsAndDebounces : Obligations.AttachDetectsAndDebounces := by
  unfold Obligations.AttachDetectsAndDebounces
  refine ⟨?rdLevels, ?rdWait, ?rpLevels, ?rpWait, ?debounceSrc, ?debounceTrySnk, ?debounceSnk, ?debounceTrySrc,
    ?debounceTryWait, ?noRd, ?noRp, ?detaches, ?toggleSrc, ?toggleSnk, ?tryRd, ?tryNoRd, ?tryRp, ?tryNoRp, ?tryWait, ?recovery⟩
  case rdLevels => exact fun p a b s => rdDetected_levels s p a b
  case rdWait => exact fun p a b c s => rdDetected_attachWait s p a b c
  case rpLevels => exact fun p a b s => rpDetected_levels s p a b
  case rpWait => exact fun p a b c s => rpDetected_attachWait s p a b c
  case debounceSrc => exact fun p v s hd hs hp ht => ⟨_, ccDebounce_src s p v hd hs hp ht, attachSrc_attaches s p⟩
  case debounceTrySnk =>
    exact fun p v s hd hs hp hr ht => ⟨_, ccDebounce_trySnk s p v hd hs hp hr ht, toTry s p _ _ hd (by decide)⟩
  case debounceSnk => exact fun p v s hd hs hp hv ht => ⟨_, ccDebounce_snk s p v hd hs hp hv ht, attachSnk_attaches s p⟩
  case debounceTrySrc =>
    exact fun p v s hd hs hp hv hr ht => ⟨_, ccDebounce_trySrc s p v hd hs hp hv hr ht, toTry s p _ _ hd (by decide)⟩
  case debounceTryWait =>
    exact fun p v s hd hs hp hv => ⟨_, ccDebounce_tryWaitSnk s p v hd hs hp hv, attachSnk_attaches s p⟩
  case noRd => exact fun p s hs h1 h2 => ⟨_, pdDebounce_src s p hs h1 h2, enterUnattachedAs_tc s p false⟩
  case noRp => exact fun p s hs hp => ⟨_, pdDebounce_snk s p hs hp, enterUnattachedAs_tc s p true⟩
  case detaches => exact fun p s hs ha ho hi => ⟨_, pdDebounce_detach s p hs ha ho hi, detach_detaches s p⟩
  case toggleSrc => exact fun p s hr hd hs => ⟨_, drpToggle_src s p hr hd hs, enterUnattachedAs_tc s p true⟩
  case toggleSnk => exact fun p s hr hd hs => ⟨_, drpToggle_snk s p hr hd hs, enterUnattachedAs_tc s p false⟩
  case tryRd => exact fun p v s hd hs hp => ⟨_, try_rd s p v hd hs hp, attachSrc_attaches s p⟩
  case tryNoRd => exact fun p x v s hd hs hp hx => ⟨_, trySrc_noRd s p x v hd hs hp hx, toTry s p _ _ hd (by decide)⟩
  case tryRp => exact fun p v s hd hs hp hv => ⟨_, trySnk_rp s p v hd hs hp hv, attachSnk_attaches s p⟩
  case tryNoRp => exact fun p v s hd hs hp => ⟨_, trySnk_noRp s p v hd hs hp, toTry s p _ _ hd (by decide)⟩
  case tryWait => exact fun p v s hd hs => ⟨_, tryWait_noPartner s p v hd hs, enterUnattachedAs_tc s p true⟩
  case recovery =>
    exact fun p s hs ht hh ho hd => ⟨_, errorRecovery_expires s p hs ht hh ho hd, enterUnattachedAs_tc s p false⟩

end Sys2Proof.Machine
end

section
/-! PROOFS. The qualified CC-open signal, fast detach, and what ends or alters a sink's attachment (R45 to R52, R85, R134): O7. -/
set_option linter.all false

namespace Sys2Proof.Machine

/-! ## The qualified CC-open signal (R46 to R51) -/

theorem ccOpen_flag (s : State) (p : Port) (v : Bool) : (s.ccOpen p v).on CC.CC_OPEN_Q p = v := by
  unfold State.ccOpen
  rw [on_level _ _ _ _ _ _ _ (by decide) (by decide), on_flag_self _ _ _ _ (by decide)]

theorem ccOpen_on (s : State) (p : Port) (v : Bool) (F : Field) (i : Nat) (h0 : F.apart CC.CC_OPEN_Q = true)
    (hr : F.apart (IRQ_RAW CC.page) = true) (hs : F.apart (IRQ_STAT CC.page) = true) :
    (s.ccOpen p v).on F i = s.on F i := by
  unfold State.ccOpen
  rw [on_level _ _ _ _ _ _ _ hr hs, on_flag _ _ _ _ _ _ h0]

theorem ccOpenQ_flag (s : State) (p : Port) (ha : s.on CC.ATTACHED p = true) :
    ∃ t, execCcOpenQ ⟨p, false⟩ s = .next t ∧ t.on CC.CC_OPEN_Q p = true := by
  refine ⟨_, rfl, ?_⟩
  dsimp only
  rw [if_neg (by simp [ha])]
  split
  · rw [on_irq _ _ _ _ _ _ (by decide), on_bump _ _ _ _ _ (by decide), on_flag _ _ _ _ _ _ (by decide), ccOpen_flag]
  · exact ccOpen_flag s p true

/-- The ramp of a running source stands still: by this signal, or already before it (R50, R204). -/
theorem ccOpenQ_freezes (s : State) (p : Port) (ha : s.on CC.ATTACHED p = true) (hs : s.isSrc p = true)
    (hi : s.ccOpenIgnored p = false) (hr : s.running p = true) (hf : (s.port p).cc.fastOpened = false) :
    ∃ t, execCcOpenQ ⟨p, false⟩ s = .next t ∧ t.on LOOP.FROZEN p = true := by
  refine ⟨_, rfl, ?_⟩
  dsimp only
  rw [if_neg (by simp [ha])]
  by_cases hz : s.on LOOP.FROZEN p = false
  · rw [if_pos ⟨hs, hi, hz, hr, hf⟩, on_irq _ _ _ _ _ _ (by decide), on_bump _ _ _ _ _ (by decide),
      on_flag_self _ _ _ _ (by decide)]
  · rw [if_neg (fun h => hz h.2.2.1), ccOpen_on _ _ _ _ _ (by decide) (by decide) (by decide)]
    exact Bool.not_eq_false _ ▸ hz

/-- The registers that the end of a contract's transition may write: the set-points, the ceilings, and those of its PS_RDY. -/
def psRdyWrites : List Field :=
  [LOOP.I_FWD_LIM, LOOP.I_CEIL, LOOP.P_CEIL, BUDGET.VALID, BUDGET.SRC, BUDGET.I_SHED, BUDGET.P_SHED] ++ sendWrites

theorem sendPsRdy_leaves (s : State) (p : Port) (t : Trans) : Leaves psRdyWrites 0 s (s.sendPsRdy p t) := by
  have h := Leaves.refl psRdyWrites 0 s
  have hlim := Leaves.ite (c := s.rd LOOP.I_FWD_LIM p < s.contractLimit p t.next)
    (h.wr LOOP.I_FWD_LIM p (s.contractLimit p t.next) (by decide)) h
  have hsent := (hlim.pe p fun e => { e with trans := some { t with phase := .psRdy } }).andThen
    ((Speaks.refl p _).send .psRdy .none).regs (by decide)
  have hceil (u : State) (hu : Leaves psRdyWrites 0 s u) : Leaves psRdyWrites 0 s (u.applyCeil p) :=
    (hu.wr _ _ _ (by decide)).wr _ _ _ (by decide)
  have hshed (u : State) (hu : Leaves psRdyWrites 0 s u) : Leaves psRdyWrites 0 s (u.releaseOwnShed p) :=
    Leaves.ite (((((hu.flag _ _ _ (by decide)).wr _ _ _ (by decide)).wr _ _ _ (by decide)).wr _ _ _ (by decide)).swp p _)
      hu
  exact hshed _ (Leaves.ite hsent (hceil _ hsent))

/-- With the signal gone the flag is clear, and before the switch has opened the ramp goes on (R51, R138). -/
theorem ccOpenQRelease_clears (s : State) (p : Port) : ∃ t, execCcOpenQRelease p s = .next t ∧
    t.on CC.CC_OPEN_Q p = false ∧ ((s.port p).cc.fastOpened = false → t.on LOOP.FROZEN p = false) := by
  have hflag : ((s.ccOpen p false).flag LOOP.FROZEN p false).on CC.CC_OPEN_Q p = false := by
    rw [on_flag _ _ _ _ _ _ (by decide), ccOpen_flag]
  have hfrozen : ((s.ccOpen p false).flag LOOP.FROZEN p false).on LOOP.FROZEN p = false :=
    on_flag_self _ _ _ _ (by decide)
  refine ⟨_, rfl, ?_⟩
  dsimp only
  split
  · next hf => exact ⟨ccOpen_flag s p false, fun h => absurd (hf.symm.trans h) (by decide)⟩
  · split
    · split
      · next t _ _ =>
          have h := sendPsRdy_leaves ((s.ccOpen p false).flag LOOP.FROZEN p false) p t
          exact ⟨(h.on _ _ (by decide) (by decide)).trans hflag,
            fun _ => (h.on _ _ (by decide) (by decide)).trans hfrozen⟩
      · exact ⟨hflag, fun _ => hfrozen⟩
    · exact ⟨hflag, fun _ => hfrozen⟩

theorem ccGlitch_counts (s : State) (p : Port) (ha : s.on CC.ATTACHED p = true) :
    execCcGlitch ⟨p, false⟩ s = .next (s.bump CC.CC_GLITCH_CNT p) := by
  unfold execCcGlitch
  simp [ha]

theorem ccGlitch_own (s : State) (p : Port) : execCcGlitch ⟨p, true⟩ s = .next s := by
  unfold execCcGlitch
  simp

/-! ## Fast detach of a source (R50, R58) -/

/-- An opening leaves the counters of the CC page. -/
theorem openPlanned_fastDetachCount (s : State) (p : Port) :
    (s.openPlanned p).rd CC.FAST_DETACH_CNT p = s.rd CC.FAST_DETACH_CNT p :=
  (State.openPlanned_within s p rfl (Within.refl 0x80018000000000000000000 p s)).rd _ _ (by decide)

theorem fastDetachOpening_opens (s : State) (p : Port) (hs : s.isSrc p = true) (ho : s.on CC.CC_OPEN_Q p = true)
    (hi : s.ccOpenIgnored p = false) (hf : (s.port p).cc.fastOpened = false) :
    ∃ t, execFastDetachOpening p s = .next t ∧ t.rd LOOP.V_TARGET p = 0 ∧ t.on CC.VCONN_ON p = false ∧
      (t.port p).cc.fastOpened = true ∧ t.rd CC.FAST_DETACH_CNT p = min (s.rd CC.FAST_DETACH_CNT p + 1) (2 ^ 32 - 1) := by
  refine ⟨_, rfl, ?_⟩
  rw [if_pos ⟨hs, ho, hi, hf⟩]
  extract_lets s1 s2
  have hcount : s1.rd CC.FAST_DETACH_CNT p = min (s.rd CC.FAST_DETACH_CNT p + 1) (2 ^ 32 - 1) := by
    rw [rd_wr _ _ _ _ _ _ (by decide), rd_bump_self, openPlanned_fastDetachCount]
    rfl
  have hv : s1.rd LOOP.V_TARGET p = 0 := rd_wr_self _ _ _ _
  have hafter : Leaves [LOOP.FROZEN, CC.VCONN_ON, CC.VCONN_RES] 0 s1 s2 :=
    (((Leaves.refl _ _ s1).flag _ _ _ (by decide)).vconnOff p (by decide) (by decide)).cc p _
  have hoff : s2.on CC.VCONN_ON p = false := by
    show ((s1.flag LOOP.FROZEN p false).vconnOff p).on CC.VCONN_ON p = false
    unfold State.vconnOff
    rw [State.cc_on, on_wr _ _ _ _ _ _ (by decide), on_flag_self _ _ _ _ (by decide)]
  have hopened : (s2.port p).cc.fastOpened = true := by
    show ((State.cc _ p _).port p).cc.fastOpened = true
    rw [port_cc_self]
  have hall : s2.rd LOOP.V_TARGET p = 0 ∧ s2.on CC.VCONN_ON p = false ∧ (s2.port p).cc.fastOpened = true ∧
      s2.rd CC.FAST_DETACH_CNT p = min (s.rd CC.FAST_DETACH_CNT p + 1) (2 ^ 32 - 1) :=
    ⟨(hafter _ _ (by decide) (by decide)).trans hv, hoff, hopened, (hafter _ _ (by decide) (by decide)).trans hcount⟩
  split
  · rw [State.swp_rd, State.swp_on, State.swp_rd, port_swp_self]
    exact hall
  · exact hall

/-! ## Sinks (R45, R52, R85, R134) -/

theorem sinkCcOpen_flags (s : State) (p : Port) (hs : s.isSnk p = true) :
    ∃ t, execSinkCcOpen p s = .next t ∧ t.on CC.CC_OPEN_Q p = true ∧
      (s.ccOpenIgnored p = false → t.rd LOOP.I_REV_LIM p = 0) := by
  refine ⟨_, rfl, ?_⟩
  dsimp only
  rw [if_pos hs]
  split
  · next hi => exact ⟨ccOpen_flag s p true, fun h => absurd (hi.symm.trans h) (by decide)⟩
  · exact ⟨(on_wr _ _ _ _ _ _ (by decide)).trans (ccOpen_flag s p true), fun _ => rd_wr_self _ _ _ _⟩

/-- What a sink's loss of VBUS shows: the attachment over and the detach counted. -/
theorem detach_counted (s : State) (p : Port) : (s.detach p).on CC.ATTACHED p = false ∧
    (s.detach p).rd CC.DETACH_CNT p = min (s.rd CC.DETACH_CNT p + 1) (2 ^ 32 - 1) := by
  obtain ⟨hattached, -, hcount⟩ := detach_detaches s p
  exact ⟨hattached, hcount⟩

theorem sinkVbusLoss_detaches (s : State) (p : Port) (hs : s.isSnk p = true) (hi : s.ccOpenIgnored p = false)
    (hh : (s.port p).pe.hr = .none) : execSinkVbusLoss p s = .next (s.detach p) := by
  unfold execSinkVbusLoss
  rw [if_pos ⟨hs, hi, hh⟩]

theorem sinkHardResetTimeout_detaches (s : State) (p : Port) (hs : s.isSnk p = true)
    (hh : (s.port p).pe.hr = .sinkWait) : execSinkHardResetTimeout p s = .next (s.detach p) := by
  unfold execSinkHardResetTimeout
  rw [if_pos ⟨hs, hh⟩]

theorem sinkVbusReturn_detaches (s : State) (p : Port) (v : Nat) (hs : s.isSnk p = true)
    (hh : (s.port p).pe.hr = .sinkWait) (hv : 4750 ≤ v)
    (h : (rpPin (s.lvl p)).isSome = false ∨ s.on CC.CC_OPEN_Q p = true) :
    execSinkVbusReturn p v s = .next (s.detach p) := by
  unfold execSinkVbusReturn
  rw [if_pos ⟨hs, hh, hv⟩, if_neg (by rcases h with h | h <;> simp [h])]

/-- An Rp's current fits the set-points' 16 bits. -/
theorem rpMa_mod (n : Nat) : rpMa n % 2 ^ LOOP.I_REV_LIM.width = rpMa n := by
  refine Nat.mod_eq_of_lt ?_
  unfold rpMa
  split <;> decide

theorem sinkVbusReturn_waits (s : State) (p : Port) (v : Nat) (hs : s.isSnk p = true)
    (hh : (s.port p).pe.hr = .sinkWait) (hv : 4750 ≤ v) (hp : (rpPin (s.lvl p)).isSome = true)
    (ho : s.on CC.CC_OPEN_Q p = false) :
    ∃ t, execSinkVbusReturn p v s = .next t ∧ t.rd PD.CONTRACT p = 1 ∧ t.rd PD.PD_STATE p = pdWaitCaps ∧
      (t.port p).pe.hr = .none ∧
      t.rd LOOP.I_REV_LIM p = rpMa ((if s.on CC.ORIENT p then (s.lvl p).2 else (s.lvl p).1) - 3) := by
  refine ⟨_, rfl, ?_⟩
  rw [if_pos ⟨hs, hh, hv⟩, if_pos ⟨hp, ho⟩]
  refine ⟨?_, ?_, ?_, ?_⟩
  · rw [State.pe_rd, rd_wr _ _ _ _ _ _ (by decide), rd_wr_self]
    rfl
  · rw [State.pe_rd, rd_wr_self]
    rfl
  · rw [port_pe_self]
  · rw [State.pe_rd, rd_wr _ _ _ _ _ _ (by decide), rd_wr _ _ _ _ _ _ (by decide), rd_wr_self, rpMa_mod]

theorem rpValueChange_avoiding (s : State) (p : Port) (v : Nat) (hs : s.isSnk p = true) (ha : s.avoiding p = true) :
    ∃ t, execRpValueChange p v s = .next t ∧ t.on PD.RP_TXNG p = decide (s.readLevel p v ≠ 5) := by
  refine ⟨_, rfl, ?_⟩
  dsimp only
  rw [if_neg (by simp [hs]), if_pos ha, on_flag_self _ _ _ _ (by decide)]

theorem rpValueChange_draws (s : State) (p : Port) (v : Nat) (hs : s.isSnk p = true) (ha : s.avoiding p = false)
    (he : s.explicit p = false) (h3 : 3 ≤ s.readLevel p v) (h5 : s.readLevel p v ≤ 5) :
    ∃ t, execRpValueChange p v s = .next t ∧ t.rd LOOP.I_REV_LIM p = rpMa (s.readLevel p v - 3) := by
  refine ⟨_, rfl, ?_⟩
  dsimp only
  rw [if_neg (by simp [hs]), if_neg (by simp [ha]),
    if_neg (by simp [he, h3, h5]), rd_wr_self, rpMa_mod]

/-- Settles O7, by what each observation of an attachment writes, and by the detach of a sink. -/
theorem attachWatchesTheAttachment : Obligations.AttachWatchesTheAttachment := by
  unfold Obligations.AttachWatchesTheAttachment
  refine ⟨?openFlag, ?openFreezes, ?openOwn, ?releaseFlag, ?releaseFrozen, ?glitch, ?glitchOwn, ?fastDetach, ?sinkOpen,
    ?vbusLoss, ?timeout, ?vbusReturns, ?returnDetaches, ?avoiding, ?draws⟩
  case openFlag => exact fun p s => ccOpenQ_flag s p
  case openFreezes => exact fun p s => ccOpenQ_freezes s p
  case openOwn => exact fun p s => rfl
  case releaseFlag =>
    intro p s
    obtain ⟨t, ht, hflag, -⟩ := ccOpenQRelease_clears s p
    exact ⟨t, ht, hflag⟩
  case releaseFrozen =>
    intro p s hf
    obtain ⟨t, ht, -, hfrozen⟩ := ccOpenQRelease_clears s p
    exact ⟨t, ht, hfrozen hf⟩
  case glitch => exact fun p s ha => ⟨_, ccGlitch_counts s p ha, rd_bump_self s CC.CC_GLITCH_CNT p⟩
  case glitchOwn => exact fun p s => ccGlitch_own s p
  case fastDetach => exact fun p s => fastDetachOpening_opens s p
  case sinkOpen => exact fun p s => sinkCcOpen_flags s p
  case vbusLoss => exact fun p s hs hi hh => ⟨_, sinkVbusLoss_detaches s p hs hi hh, detach_counted s p⟩
  case timeout => exact fun p s hs hh => ⟨_, sinkHardResetTimeout_detaches s p hs hh, detach_counted s p⟩
  case vbusReturns => exact fun p v s => sinkVbusReturn_waits s p v
  case returnDetaches =>
    exact fun p v s hs hh hv h => ⟨_, sinkVbusReturn_detaches s p v hs hh hv h, detach_counted s p⟩
  case avoiding => exact fun p v s => rpValueChange_avoiding s p v
  case draws => exact fun p v s => rpValueChange_draws s p v

end Sys2Proof.Machine
end

section
/-! PROOFS. The VCONN switch and its claims, cable discovery, and CC overvoltage (R53 to R62, R67, R172): O8. -/
set_option linter.all false

namespace Sys2Proof.Machine

/-! ## Capabilities that are sent again (R110, R126) -/

/-- An advertisement writes PD_STATE beside what its message writes. -/
def advertiseWrites : List Field := PD.PD_STATE :: sendWrites

theorem sendCaps_leaves (s : State) (p : Port) : Leaves advertiseWrites 0 s (s.sendCaps p) := by
  have hstart := Leaves.refl advertiseWrites 0 s
  unfold State.sendCaps
  extract_lets t l f s1 s2
  have hcache : Leaves advertiseWrites 0 s s1 := ((hstart.modPort p _).pe p _).sendCache p
  exact (Leaves.ite hcache (hcache.wr _ _ _ (by decide))).andThen ((Speaks.refl p s2).sendAms _ _).regs (by decide)

theorem sendCaps_ocpTrips (s : State) (p : Port) :
    ((s.sendCaps p).port p).cc.ocpTrips = (s.port p).cc.ocpTrips := by
  unfold State.sendCaps
  extract_lets t l f s1 s2
  have hcache : (s1.port p).cc.ocpTrips = (s.port p).cc.ocpTrips := by
    obtain ⟨img, himg⟩ := sendCache_port (t.pe p fun e => { e with
      caps := l, capsFlags := f, pdpSent := t.pdp p, nCaps := e.nCaps + 1 }) p
    rw [himg, port_pe_self]
    unfold t State.adopt
    rw [port_modPort_self]
  have hstate : s2.port p = s1.port p := by
    unfold s2
    split <;> rfl
  rw [((Speaks.refl p s2).sendAms _ _).ocpTrips_eq, hstate, hcache]

theorem readvertise_leaves (s : State) (p : Port) : Leaves advertiseWrites 0 s (s.readvertise p) := by
  have h := Leaves.refl advertiseWrites 0 s
  unfold State.readvertise
  exact Leaves.ite h (Leaves.ite ((h.pe p _).trans (sendCaps_leaves _ p)) (h.pe p _))

theorem readvertise_ocpTrips (s : State) (p : Port) :
    ((s.readvertise p).port p).cc.ocpTrips = (s.port p).cc.ocpTrips := by
  unfold State.readvertise
  split
  · rfl
  · split
    · rw [sendCaps_ocpTrips, port_pe_self]
    · rw [port_pe_self]

/-! ## The VCONN switch opens (R53 to R56, R60) -/

theorem vconnOff_off (s : State) (p : Port) : (s.vconnOff p).on CC.VCONN_ON p = false := by
  unfold State.vconnOff
  rw [State.cc_on, on_wr _ _ _ _ _ _ (by decide), on_flag_self _ _ _ _ (by decide)]

theorem vconnOff_ocpTrips (s : State) (p : Port) :
    ((s.vconnOff p).port p).cc.ocpTrips = (s.port p).cc.ocpTrips := by
  unfold State.vconnOff
  rw [port_cc_self]
  rfl

/-- What was known of the cable. -/
def cableWrites : List Field := [CC.EPR_CABLE, CC.CABLE_VMAX, CC.CABLE_IMAX, CC.ACTIVE, CC.DISC_STATE]

theorem unqualify_leaves (s : State) (p : Port) : Leaves cableWrites 0 s (s.unqualify p) := by
  have h := ((((Leaves.refl cableWrites 0 s).flag CC.EPR_CABLE p false (by decide)).wr CC.CABLE_VMAX p 0 (by decide)).wr
    CC.CABLE_IMAX p 0 (by decide)).flag CC.ACTIVE p false (by decide)
  unfold State.unqualify
  exact Leaves.ite (h.wr _ _ _ (by decide)) h

theorem unqualify_port (s : State) (p q : Port) : (s.unqualify p).port q = s.port q := by
  unfold State.unqualify
  dsimp only
  split <;> rfl

/-- After the switch has opened, the loss of VCONN writes what is known of the cable, and what capabilities sent again write. -/
theorem vconnLost_leaves (s : State) (p : Port) :
    Leaves (cableWrites ++ advertiseWrites) 0 (s.vconnOff p) (s.vconnLost p) := by
  have h := Leaves.refl (cableWrites ++ advertiseWrites) 0 (s.vconnOff p)
  have hcable := h.andThen (unqualify_leaves _ p) (by decide)
  unfold State.vconnLost
  exact Leaves.ite (Leaves.ite (hcable.andThen (readvertise_leaves _ p) (by decide)) hcable) h

theorem vconnLost_off (s : State) (p : Port) : (s.vconnLost p).on CC.VCONN_ON p = false :=
  ((vconnLost_leaves s p).on _ _ (by decide) (by decide)).trans (vconnOff_off s p)

theorem vconnLost_ocpTrips (s : State) (p : Port) :
    ((s.vconnLost p).port p).cc.ocpTrips = (s.port p).cc.ocpTrips := by
  unfold State.vconnLost
  dsimp only
  split
  · split
    · rw [readvertise_ocpTrips, unqualify_port, vconnOff_ocpTrips]
    · rw [unqualify_port, vconnOff_ocpTrips]
  · exact vconnOff_ocpTrips s p

/-- The loss of VCONN leaves a register that neither the switch nor what follows writes. -/
theorem vconnLost_rd (s : State) (p : Port) (F : Field) (i : Nat)
    (h : F.apartAll (CC.VCONN_ON :: CC.VCONN_RES :: (cableWrites ++ advertiseWrites)) = true)
    (hb : maskSkips 0 F = true) : (s.vconnLost p).rd F i = s.rd F i :=
  ((((Leaves.refl (CC.VCONN_ON :: CC.VCONN_RES :: (cableWrites ++ advertiseWrites)) 0 s).vconnOff p (by decide)
    (by decide))).andThen (vconnLost_leaves s p) (by decide)) F i h hb

theorem vconnOcp_opens (s : State) (p : Port) (h : s.on CC.VCONN_ON p = true) :
    ∃ t, execVconnOcp p s = .next t ∧ t.on CC.VCONN_ON p = false ∧ t.on CC.VCONN_OCP p = true ∧
      (t.port p).cc.ocpTrips = (s.port p).cc.ocpTrips + 1 ∧
      t.rd CC.VCONN_OCP_CNT p = min (s.rd CC.VCONN_OCP_CNT p + 1) (2 ^ 32 - 1) := by
  refine ⟨_, rfl, ?_⟩
  rw [if_pos h]
  refine ⟨?_, ?_, ?_, ?_⟩
  · rw [State.cc_on, on_irq _ _ _ _ _ _ (by decide), on_bump _ _ _ _ _ (by decide), on_flag _ _ _ _ _ _ (by decide),
      vconnLost_off]
  · rw [State.cc_on, on_irq _ _ _ _ _ _ (by decide), on_bump _ _ _ _ _ (by decide), on_flag_self _ _ _ _ (by decide)]
  · rw [port_cc_self]
    exact congrArg (· + 1) (vconnLost_ocpTrips s p)
  · rw [State.cc_rd, rd_irq _ _ _ _ _ _ (by decide), rd_bump_self, rd_flag _ _ _ _ _ _ (by decide),
      vconnLost_rd _ _ _ _ (by decide) (by decide)]
    rfl

theorem vconnRev_opens (s : State) (p : Port) (h : s.on CC.VCONN_ON p = true) :
    ∃ t, execVconnRev p s = .next t ∧ t.on CC.VCONN_ON p = false ∧ t.on CC.VCONN_REV p = true ∧
      (t.port p).cc.rev = true := by
  refine ⟨_, rfl, ?_⟩
  rw [if_pos h]
  refine ⟨?_, ?_, ?_⟩
  · rw [State.cc_on, on_irq _ _ _ _ _ _ (by decide), on_flag _ _ _ _ _ _ (by decide), vconnLost_off]
  · rw [State.cc_on, on_irq _ _ _ _ _ _ (by decide), on_flag_self _ _ _ _ (by decide)]
  · rw [port_cc_self]

theorem vconnForce_on (s : State) (p : Port) : (s.vconnForce p true).on CC.VCONN_FORCE_OFF p = true ∧
    (s.vconnForce p true).on CC.VCONN_ON p = false := by
  refine ⟨?_, vconnLost_off _ p⟩
  unfold State.on
  exact congrArg (· != 0) ((vconnLost_rd _ p _ _ (by decide) (by decide)).trans
    (rd_flag_self s CC.VCONN_FORCE_OFF p true (by decide)))

theorem vconnForce_off (s : State) (p : Port) : (s.vconnForce p false).on CC.VCONN_FORCE_OFF p = false ∧
    (s.vconnForce p false).on CC.VCONN_ON p = s.on CC.VCONN_ON p :=
  ⟨on_flag_self s CC.VCONN_FORCE_OFF p false (by decide), on_flag _ _ _ _ _ _ (by decide)⟩

/-! ## Claims (R53, R54, R56, R57) -/

/-- The VCONN switch is open, and nothing but the pool and VCONN_IN stands against its closing. -/
def State.vconnFree (s : State) (p : Port) : Prop :=
  s.on CC.VCONN_ON p = false ∧ s.on CC.VCONN_ALLOW p = true ∧ (s.port p).cc.ra = true ∧
    s.on CC.VCONN_FORCE_OFF p = false ∧ (s.port p).cc.rev = false ∧ (s.port p).cc.ocpTrips < 2

theorem vconnClaim_closes (s : State) (p : Port) (h : s.vconnFree p)
    (hpool : s.vconnSum + 300 ≤ s.act BUDGET.POOL_MA 0) (hin : s.supply.vconnInOut = false) :
    (s.vconnClaim p).on CC.VCONN_ON p = true ∧ (s.vconnClaim p).rd CC.VCONN_RES p = 30 ∧
      (s.vconnClaim p).on PD.VCONN_SRC p = true := by
  obtain ⟨hon, hallow, hra, hforce, hrev, htrips⟩ := h
  unfold State.vconnClaim
  dsimp only
  rw [if_neg (by simp [hon, hallow, hra, hforce, hrev, htrips]), if_neg (by simp [hin, hpool])]
  unfold State.on
  simp (disch := decide) only [sendCache_rd, State.cc_rd, rd_flag, rd_wr, rd_flag_self, rd_wr_self]
  exact ⟨rfl, rfl, rfl⟩

theorem vconnClaim_denied (s : State) (p : Port) (h : s.vconnFree p)
    (hpool : s.act BUDGET.POOL_MA 0 < s.vconnSum + 300 ∨ s.supply.vconnInOut = true) :
    (s.vconnClaim p).on CC.VCONN_DENIED p = true ∧ ((s.vconnClaim p).port p).cc.claim = true ∧
      (s.vconnClaim p).rd CC.VCONN_DENIED_CNT p = min (s.rd CC.VCONN_DENIED_CNT p + 1) (2 ^ 32 - 1) := by
  obtain ⟨hon, hallow, hra, hforce, hrev, htrips⟩ := h
  unfold State.vconnClaim
  dsimp only
  rw [if_neg (by simp [hon, hallow, hra, hforce, hrev, htrips]), if_pos hpool]
  refine ⟨?_, ?_, ?_⟩
  · rw [State.cc_on, on_irq _ _ _ _ _ _ (by decide), on_bump _ _ _ _ _ (by decide), on_flag_self _ _ _ _ (by decide)]
  · rw [port_cc_self]
  · rw [State.cc_rd, rd_irq _ _ _ _ _ _ (by decide), rd_bump_self, rd_flag _ _ _ _ _ _ (by decide)]
    rfl

theorem vconnClaim_claims (s : State) (p : Port) (ht : (s.port p).cc.ocpTrips = 0)
    (hs : s.isSrc p = true ∨ (s.on CC.ATTACHED p = true ∧ s.on PD.VCONN_SRC p = true)) :
    execVconnClaim p s = .next (s.vconnClaim p) := by
  unfold execVconnClaim
  rw [if_pos ⟨ht, hs⟩]

theorem vconnReclose_claims (s : State) (p : Port) (ha : s.on CC.ATTACHED p = true)
    (ht : (s.port p).cc.ocpTrips = 1) : execVconnReclose p s = .next (s.vconnClaim p) := by
  unfold execVconnReclose
  rw [if_pos ⟨ha, ht⟩]

/-! ## The VCONN pin (R58, R172) -/

theorem enterUnattachedAs_vconnHigh (s : State) (p : Port) (snk : Bool) :
    ((s.enterUnattachedAs p snk).port p).cc.vconnHigh = (s.port p).cc.vconnHigh := by
  unfold State.enterUnattachedAs
  dsimp only
  split
  · rw [present_port, State.wr_port, port_cc_self]
  · split <;> rw [present_port, State.wr_port, port_cc_self]

theorem vconnPin_low (s : State) (p : Port) (v : Nat) (hv : v < 800) (hon : s.on CC.VCONN_ON p = false) :
    ∃ t, execVconnPinDischarged ⟨p, v⟩ s = .next t ∧ (t.port p).cc.vconnHigh = false ∧
      (s.tc p = tcUnattachedWaitSrc → t.tc p = s.startState p false) := by
  refine ⟨_, rfl, ?_⟩
  dsimp only
  simp only [hon, Bool.false_eq_true, if_false]
  rw [if_neg (by omega), if_neg (by omega)]
  have hlow : ((s.cc p fun c => { c with vconnHigh := false }).port p).cc.vconnHigh = false := by rw [port_cc_self]
  split
  · exact ⟨(enterUnattachedAs_vconnHigh _ p false).trans hlow, fun _ => enterUnattachedAs_tc _ p false⟩
  · next h => exact ⟨hlow, fun hs => absurd ⟨hs, hon⟩ h⟩

theorem vconnPin_risen (s : State) (p : Port) (v : Nat) (hv : 4750 < v) (hl : s.listens p = true)
    (hs : (s.port p).swap.step = .vconnOn) :
    ∃ t, execVconnPinDischarged ⟨p, v⟩ s = .next t ∧ Sends p .psRdy .none s t := by
  refine ⟨_, rfl, ?_⟩
  dsimp only
  rw [if_pos hv]
  unfold State.vconnRisen
  rw [if_pos hs]
  have hsends : Sends p .psRdy .none s (s.send p .psRdy .none) :=
    send_sends s p .psRdy .none (clearToSend_of_listens s p hl) (by decide) (by decide)
  unfold Sends at hsends ⊢
  rw [port_swp_self]
  exact hsends

/-! ## Cable discovery (R59, R60) -/

theorem discoverCable_attempts (s : State) (p : Port) (h : s.mayDiscover p = true) :
    (s.discoverCable p).rd CC.DISC_STATE p = 1 ∧
      (s.discoverCable p).rd CC.DISC_COUNT p = min (s.rd CC.DISC_COUNT p + 1) (2 ^ CC.DISC_COUNT.width - 1) := by
  unfold State.discoverCable
  rw [if_pos h]
  have hsent := ((Speaks.refl p (((s.wr CC.DISC_STATE p 1).bump CC.DISC_COUNT p).pe p fun e =>
    { e with await := .cableId })).sendFrame ⟨.sop1, .vdm, 0, none, .vdm [0xFF008001]⟩ false)
  rw [hsent.rd _ _ (by decide) (by decide), hsent.rd _ _ (by decide) (by decide), State.pe_rd, State.pe_rd,
    rd_bump _ _ _ _ _ (by decide), rd_wr_self, rd_bump_self, rd_wr _ _ _ _ _ _ (by decide)]
  exact ⟨rfl, rfl⟩

/-- The areas that an event of the port's own changes. -/
abbrev eventAreas : Nat := 0x480000000000000000140000

/-- The end of an EPR entry writes EPR_MODE beside what its messages write. -/
theorem eprConclude_leaves (s : State) (p : Port) :
    Leaves (PD.EPR_MODE :: advertiseWrites) eventAreas s (s.eprConclude p) := by
  have h := Leaves.refl (PD.EPR_MODE :: advertiseWrites) eventAreas s
  have hsend (u : State) (hu : Leaves (PD.EPR_MODE :: advertiseWrites) eventAreas s u) (b : Body) :
      Leaves (PD.EPR_MODE :: advertiseWrites) eventAreas s (u.send p .eprMode b) :=
    hu.andThen ((Speaks.refl p u).send .eprMode b).regs (by decide)
  have hevent (u : State) (hu : Leaves (PD.EPR_MODE :: advertiseWrites) eventAreas s u) (k : EvKind) (n : Nat) :
      Leaves (PD.EPR_MODE :: advertiseWrites) eventAreas s (u.event k p n 0 0 0) :=
    hu.within (State.event_own u k n 0 0 0 rfl (Within.refl eventAreas p u))
  have hfail (n : Nat) : Leaves (PD.EPR_MODE :: advertiseWrites) eventAreas s (s.eprFail p n) :=
    (hevent _ (hsend s h _) _ _).pe p _
  have hdone := hsend _ ((h.flag PD.EPR_MODE p true (by decide)).sendCache p) (.epr .enterOk)
  unfold State.eprConclude
  exact Leaves.ite (hfail 1) (Leaves.ite (hfail 4) ((hevent _ (hdone.pe p _) _ _).wr _ _ _ (by decide)))

/-- The cable that answered is classified; what follows leaves its class (R60). -/
theorem cableFound_classifies (s : State) (p : Port) (a k : Bool) (i v : BitVec 2) (e : Bool) :
    (s.cableFound p a k i v e).rd CC.DISC_STATE p = 2 ∧ (s.cableFound p a k i v e).rd CC.CABLE_VMAX p = v.toNat ∧
      (s.cableFound p a k i v e).on CC.ACTIVE p = a := by
  unfold State.cableFound
  extract_lets s1 s2 s3 s4 s5
  have hstate : s2.rd CC.DISC_STATE p = 2 := by
    simp (disch := decide) only [s2, s1, rd_irq, rd_flag, rd_wr, rd_wr_self]
    rfl
  have hvmax : s2.rd CC.CABLE_VMAX p = v.toNat := by
    simp (disch := decide) only [s2, s1, rd_irq, rd_flag, rd_wr_self]
    exact Nat.mod_eq_of_lt v.isLt
  have hactive : s2.on CC.ACTIVE p = a := by
    simp (disch := decide) only [s2, on_irq, on_flag_self]
  have hafter := Leaves.refl (CC.VCONN_RES :: PD.EPR_MODE :: advertiseWrites) eventAreas s2
  have hasked : Leaves (CC.VCONN_RES :: PD.EPR_MODE :: advertiseWrites) eventAreas s2 s4 :=
    (Leaves.ite (hafter.wr _ _ _ (by decide)) hafter).pe p _
  have hheard : Leaves (CC.VCONN_RES :: PD.EPR_MODE :: advertiseWrites) eventAreas s2 s5 :=
    Leaves.ite (hasked.andThen ((Speaks.refl p s4).sendFrame _ _).regs (by decide)) hasked
  have hend : Leaves (CC.VCONN_RES :: PD.EPR_MODE :: advertiseWrites) eventAreas s2
      (if (s5.port p).pe.epr = .discover then s5.eprConclude p
        else if s5.explicit p && s5.isSrc p then s5.readvertise p else s5) := by
    exact Leaves.ite (hheard.trans ((eprConclude_leaves s5 p).mono (List.subset_cons_self _ _)))
      (Leaves.ite (hheard.andThen (readvertise_leaves s5 p) (by decide)) hheard)
  exact ⟨(hend _ _ (by decide) (by decide)).trans hstate, (hend _ _ (by decide) (by decide)).trans hvmax,
    (hend.on _ _ (by decide) (by decide)).trans hactive⟩

theorem discUnanswered_state (s : State) (p : Port) : (s.discUnanswered p).rd CC.DISC_STATE p =
    if s.rd CC.DISC_STATE p = 1 ∧ nDiscoverIdentityCount ≤ s.rd CC.DISC_COUNT p then 3 else s.rd CC.DISC_STATE p := by
  have hafter (u : State) : (u.afterDiscovery p).rd CC.DISC_STATE p = u.rd CC.DISC_STATE p := by
    unfold State.afterDiscovery
    split
    · exact eprConclude_leaves u p _ _ (by decide) (by decide)
    · rfl
  unfold State.discUnanswered
  dsimp only
  rw [hafter, State.pe_rd, State.pe_rd]
  split
  · rw [rd_irq _ _ _ _ _ _ (by decide), rd_bump _ _ _ _ _ (by decide), rd_wr_self]
    rfl
  · rfl

theorem cableDiscovery_ack (s : State) (p : Port) (a k : Bool) (i v : BitVec 2) (e : Bool)
    (h : (s.port p).pe.await = .cableId) :
    execCableDiscoveryAttempt p (some (.ack a k i v e)) s = .next (s.cableFound p a k i v e) := by
  unfold execCableDiscoveryAttempt
  dsimp only
  rw [if_pos h]

theorem cableDiscovery_nak (s : State) (p : Port) (h : (s.port p).pe.await = .cableId) :
    execCableDiscoveryAttempt p (some .nak) s = .next (s.discUnanswered p) := by
  unfold execCableDiscoveryAttempt
  dsimp only
  rw [if_pos h]

end Sys2Proof.Machine
end

section
/-! PROOFS. CC overvoltage (R62, R67, R281): its trip of the guard, what that leaves of the CC page, and O8. -/
set_option linter.all false

namespace Sys2Proof.Machine

/-! ## ErrorRecovery and the CC pins (R35, R284) -/

/-- The end of an attachment leaves the flag of an overvoltage that stands (R62). -/
theorem endAttachment_ccOvp (s : State) (p : Port) : (s.endAttachment p).on CC.CC_OVP p = s.on CC.CC_OVP p := by
  have hstart : Within 0xC001200000480016400000000038140000 p s ((s.keepRext p).clearContract p) :=
    State.clearContract_within _ p rfl (State.keepRext_within s p rfl (Within.refl _ p s))
  rw [(endAttachment_leaves s p).on _ _ (by decide) (by decide), hstart.on _ _ (by decide)]

theorem errorRecovery_ccOvp (s : State) (p : Port) : (s.errorRecovery p).on CC.CC_OVP p = s.on CC.CC_OVP p := by
  have hopened : Within 0x8001B000000000000000000 p s ((s.openPlanned p).setMode p 0) :=
    State.setMode_within _ p 0 rfl (State.openPlanned_within s p rfl (Within.refl _ p s))
  unfold State.errorRecovery
  dsimp only
  rw [(wr_present_leaves _ p _ _).on _ _ (by decide) (by decide), endAttachment_ccOvp, hopened.on _ _ (by decide)]

/-- Open is presented whether or not this member drives the port. -/
theorem present_open (s : State) (p : Port) : ((s.present p .open_).port p).cc.pres = .open_ := by
  rw [present_port]
  exact ite_self _

/-- A retired port presents Open (R284). -/
theorem errorRecovery_retired (s : State) (p : Port) (h : s.gst p = gRetired) :
    ((s.errorRecovery p).port p).cc.pres = .open_ := by
  unfold State.errorRecovery
  dsimp only
  rw [if_neg (c := s.gst p ≠ gRetired ∧ s.heldSafe p = true) (fun hx => hx.1 h)]
  exact present_open _ p

/-! ## The trip (R281 to R284) -/

theorem tripState_lt (cur : Nat) (c : TripCause) (retries max : Nat) : tripState cur c retries max < 256 := by
  unfold tripState
  repeat' split
  all_goals decide

theorem Leaves.retiredMask {l : List Field} {m : Nat} {s t : State} (h : Leaves l m s t) (x : BitVec 32) :
    Leaves l m s { t with retiredMask := x } := h

theorem Leaves.sendMarks {l : List Field} {m : Nat} {s t : State} (h : Leaves l m s t) : Leaves l m s t.sendMarks := by
  unfold State.sendMarks
  exact Leaves.ite (h.selReliable _) h

/-- The state that a trip enters is told by an event, an interrupt and, of a retired port, its mark (R284). -/
theorem tripEntered_leaves {m : Nat} (hm : m ||| eventAreas = m) (s : State) (p : Port) (old new : Nat) (c : TripCause) :
    Leaves [IRQ_STAT GUARD.page, GUARD.RETIRE] m s (s.tripEntered p old new c) := by
  have h := Leaves.refl [IRQ_STAT GUARD.page, GUARD.RETIRE] m s
  have hevent (k : EvKind) (a b d n : Nat) :
      Leaves [IRQ_STAT GUARD.page, GUARD.RETIRE] m s ((s.event k p a b d 0).irq GUARD.page p n) :=
    (h.within (State.event_own s k a b d 0 hm (Within.refl m p s))).irq _ _ _ (by decide)
  unfold State.tripEntered
  exact Leaves.ite h (Leaves.ite (hevent _ _ _ _ _) (Leaves.ite
    (((hevent _ _ _ _ _).flag _ _ _ (by decide)).retiredMask _).sendMarks h))

/-- The areas that a trip changes on its way to ErrorRecovery: the guard's page, the halt and the events. -/
abbrev tripAreas : Nat := 0x8020000048003F010000000000140000

/-- What follows the record of a trip's cause, up to ErrorRecovery, beside `GUARD.SRC`: counters, events, and the halt. -/
abbrev tripTailAreas : Nat := 0x480027010000000000140000

/-- A trip by CC overvoltage of a port that this member drives: ErrorRecovery under its cause, into CC_OVP_HOLD but for a port
that retires; the flag stays as it was until then (R62, R281, R284). -/
theorem trip_ccOvp_recovers (s : State) (p : Port) (l : List TripCause) (i : Int) (v : Nat) (hd : s.drives p = true) :
    ∃ u : State, u.on CC.CC_OVP p = s.on CC.CC_OVP p ∧ u.rd GUARD.CAUSE p = TripCause.ccOvp.code ∧
      (s.trip p .ccOvp l i v = ((u.errorRecovery p).wr CC.TC_STATE p tcOvpHold).present p .open_ ∨
        (u.gst p = gRetired ∧ s.trip p .ccOvp l i v = u.errorRecovery p)) := by
  unfold State.trip
  extract_lets old ts retries new step s1 s2 s3 s4 s5 s6 s7
  rw [if_neg (by simp [hd])]
  have hstate : s2.gst p = new := by
    unfold State.gst
    rw [rd_wr _ _ _ _ _ _ (by decide), rd_wr _ _ _ _ _ _ (by decide)]
    exact gst_guardTo s1 p new (tripState_lt _ _ _ _)
  have hcause : s2.rd GUARD.CAUSE p = TripCause.ccOvp.code := rd_wr_self _ _ _ _
  have hbefore : Within tripAreas p s s2 :=
    State.wr_own _ _ _ rfl rfl (State.wr_own _ _ _ rfl rfl (State.guardTo_within _ p _ rfl (State.grd_within _ p _ rfl
      (State.dsgOn_within _ p rfl (State.gateOff_within s p rfl (Within.refl _ p s))))))
  have hcounted : Leaves [GUARD.SRC, IRQ_STAT GUARD.page, GUARD.RETIRE] tripTailAreas s2 s4 :=
    ((Leaves.refl _ _ s2).wr _ _ _ (by decide)).within (State.eventSev_own _ _ _ _ _ _ _ rfl
      (State.countTrip_within s3 p _ rfl (Within.refl tripTailAreas p s3)))
  have hentered : Leaves [GUARD.SRC, IRQ_STAT GUARD.page, GUARD.RETIRE] tripTailAreas s2 s5 :=
    (hcounted.irq _ _ _ (by decide)).trans ((tripEntered_leaves rfl _ p old new _).mono (by decide))
  have htail : Leaves [GUARD.SRC, IRQ_STAT GUARD.page, GUARD.RETIRE] tripTailAreas s2 s6 :=
    hentered.within (State.swapTripped_within _ p step rfl (State.halt_within s5 p 2 rfl
      (Within.refl tripTailAreas p s5)))
  refine ⟨s6, (htail.on _ _ (by decide) (by decide)).trans (hbefore.on _ _ (by decide)),
    (htail _ _ (by decide) (by decide)).trans hcause, ?_⟩
  by_cases hretired : new = gRetired
  · rw [if_neg (fun h => h.2 hretired)]
    exact .inr ⟨(htail GUARD.STATE p (by decide) (by decide)).trans (hstate.trans hretired), rfl⟩
  · rw [if_pos ⟨rfl, hretired⟩]
    exact .inl rfl

/-- A trip by CC overvoltage: the switch off under its cause, the flag as it was, and the pins Open (R62, R281). -/
theorem trip_ccOvp_opens (s : State) (p : Port) (l : List TripCause) (i : Int) (v : Nat) (hd : s.drives p = true) :
    (s.trip p .ccOvp l i v).on CC.CC_OVP p = s.on CC.CC_OVP p ∧
      ((s.trip p .ccOvp l i v).port p).cc.pres = .open_ ∧
      (s.trip p .ccOvp l i v).rd GUARD.CAUSE p = TripCause.ccOvp.code ∧
      (s.trip p .ccOvp l i v).on GUARD.GATE_OFF p = true := by
  obtain ⟨u, hflag, hcause, htrip⟩ := trip_ccOvp_recovers s p l i v hd
  have hovp : (u.errorRecovery p).on CC.CC_OVP p = s.on CC.CC_OVP p := (errorRecovery_ccOvp u p).trans hflag
  have hcode : (u.errorRecovery p).rd GUARD.CAUSE p = TripCause.ccOvp.code := by
    rw [errorRecovery_rd _ _ _ _ (by decide) (by decide), openPlanned_cause, hcause]
  have hoff : (u.errorRecovery p).on GUARD.GATE_OFF p = true := by
    rw [errorRecovery_on _ _ _ _ (by decide) (by decide)]
    exact (openPlanned_off u p).1
  rcases htrip with htrip | ⟨hretired, htrip⟩
  · have hlast := wr_present_leaves (u.errorRecovery p) p tcOvpHold .open_
    rw [htrip]
    exact ⟨(hlast.on _ _ (by decide) (by decide)).trans hovp, present_open _ p,
      (hlast _ _ (by decide) (by decide)).trans hcode, (hlast.on _ _ (by decide) (by decide)).trans hoff⟩
  · rw [htrip]
    exact ⟨hovp, errorRecovery_retired u p hretired, hcode, hoff⟩

/-! ## CC_OVP and CC_OVP_CLEAR (R62, R67) -/

/-- What CC overvoltage writes before its trip: the flag, the count, VCONN and the levels of the pins. -/
def overvoltageWrites : List Field :=
  [CC.CC_OVP_CNT, IRQ_STAT CC.page, CC.VCONN_ON, CC.VCONN_RES, CC.CC1_LVL, CC.CC2_LVL]

theorem ccOvp_trips (s : State) (p : Port) (i : Int) (v : Nat) (hd : s.drives p = true) :
    ∃ t, execCcOvp p i v s = .next t ∧ t.on CC.CC_OVP p = true ∧ (t.port p).cc.pres = .open_ ∧
      t.rd GUARD.CAUSE p = TripCause.ccOvp.code ∧ t.on GUARD.GATE_OFF p = true := by
  refine ⟨_, rfl, ?_⟩
  extract_lets s1 s2
  have hpins : Leaves overvoltageWrites 0 (s.flag CC.CC_OVP p true) s2 :=
    ((((((Leaves.refl _ _ _).bump _ _ (by decide)).irq _ _ _ (by decide)).vconnOff p (by decide) (by decide)).cc p
      _).present p .open_ (by decide) (by decide))
  have hflag : s2.on CC.CC_OVP p = true :=
    (hpins.on _ _ (by decide) (by decide)).trans (on_flag_self _ _ _ _ (by decide))
  have hdrives : s2.drives p = true := by
    unfold State.drives State.gst at hd ⊢
    rw [hpins _ _ (by decide) (by decide), rd_flag _ _ _ _ _ _ (by decide)]
    exact hd
  obtain ⟨hovp, hpres, hcause, hoff⟩ := trip_ccOvp_opens s2 p [] i v hdrives
  exact ⟨hovp.trans hflag, hpres, hcause, hoff⟩

theorem ccOvpClear_clears (s : State) (p : Port) (a b : Nat) (ha : a < 5500) (hb : b < 5500) :
    ∃ t, execCcOvpClear p a b s = .next t ∧ t.on CC.CC_OVP p = false ∧ (t.port p).cc.ovpStands = false := by
  refine ⟨_, rfl, ?_⟩
  rw [if_pos ⟨ha, hb⟩]
  extract_lets s1
  have hflag : s1.on CC.CC_OVP p = false := on_flag_self s CC.CC_OVP p false (by decide)
  have hstands : (s1.port p).cc.ovpStands = false := by
    show ((State.cc _ p _).port p).cc.ovpStands = false
    rw [port_cc_self]
  split
  · exact ⟨by rw [on_wr _ _ _ _ _ _ (by decide), on_wr _ _ _ _ _ _ (by decide), hflag], hstands⟩
  · exact ⟨hflag, hstands⟩

theorem ccOvpClear_stands (s : State) (p : Port) (a b : Nat) (h : 5500 ≤ a ∨ 5500 ≤ b) :
    execCcOvpClear p a b s = .next s := by
  unfold execCcOvpClear
  rw [if_neg (by omega)]

/-- Settles O8, by what opens and closes the VCONN switch, by the ends of a discovery attempt, and by the trip of CC overvoltage. -/
theorem vconnSwitchAndCcProtection : Obligations.VconnSwitchAndCcProtection := by
  unfold Obligations.VconnSwitchAndCcProtection
  refine ⟨?ocp, ?rev, ?claim, ?claimDenied, ?reclose, ?recloseDenied, ?forceOn, ?forceOff, ?pinLow, ?pinRisen, ?attempt, ?ack,
    ?nak, ?ovp, ?clears, ?stands⟩
  case ocp => exact fun p s => vconnOcp_opens s p
  case rev => exact fun p s => vconnRev_opens s p
  case claim =>
    intro p s ht hs hon hallow hra hforce hrev hpool hin
    exact ⟨_, vconnClaim_claims s p ht hs, vconnClaim_closes s p ⟨hon, hallow, hra, hforce, hrev, by omega⟩ hpool hin⟩
  case claimDenied =>
    intro p s ht hs hon hallow hra hforce hrev hpool
    exact ⟨_, vconnClaim_claims s p ht hs, vconnClaim_denied s p ⟨hon, hallow, hra, hforce, hrev, by omega⟩ hpool⟩
  case reclose =>
    intro p s ha ht hon hallow hra hforce hrev hpool hin
    exact ⟨_, vconnReclose_claims s p ha ht, vconnClaim_closes s p ⟨hon, hallow, hra, hforce, hrev, by omega⟩ hpool hin⟩
  case recloseDenied =>
    intro p s ha ht hon hallow hra hforce hrev hpool
    exact ⟨_, vconnReclose_claims s p ha ht, vconnClaim_denied s p ⟨hon, hallow, hra, hforce, hrev, by omega⟩ hpool⟩
  case forceOn => exact fun p s => ⟨_, rfl, vconnForce_on s p⟩
  case forceOff => exact fun p s => ⟨_, rfl, vconnForce_off s p⟩
  case pinLow => exact fun p v s => vconnPin_low s p v
  case pinRisen => exact fun p v s hv hl _ _ hs => vconnPin_risen s p v hv hl hs
  case attempt => exact fun p s h => ⟨_, rfl, discoverCable_attempts s p h⟩
  case ack => exact fun p a k e i v s h => ⟨_, cableDiscovery_ack s p a k i v e h, cableFound_classifies s p a k i v e⟩
  case nak => exact fun p s h => ⟨_, cableDiscovery_nak s p h, discUnanswered_state s p⟩
  case ovp => exact fun p i v s => ccOvp_trips s p i v
  case clears => exact fun p a b s => ccOvpClear_clears s p a b
  case stands => exact fun p a b s => ccOvpClear_stands s p a b

end Sys2Proof.Machine
end

section
/-! PROOFS. A partner's swap requests (R108, R116, R161, R162, R171, R172): when a message is taken, what Twill answers, and O17. -/
set_option linter.all false

namespace Sys2Proof.Machine

/-! ## A message is taken (R68, R82) -/

@[simp] theorem take_rd (s : State) (p : Port) (m : PdMsg) (F : Field) (i : Nat) : (s.take p m).rd F i = s.rd F i := rfl
@[simp] theorem take_on (s : State) (p : Port) (m : PdMsg) (F : Field) (i : Nat) : (s.take p m).on F i = s.on F i := rfl
@[simp] theorem take_isSrc (s : State) (p : Port) (m : PdMsg) : (s.take p m).isSrc p = s.isSrc p := rfl
@[simp] theorem take_pol (s : State) (p : Port) (m : PdMsg) (b : Nat) : (s.take p m).pol p b = s.pol p b := rfl

theorem take_port (s : State) (p : Port) (m : PdMsg) :
    (s.take p m).port p = { s.port p with phy := { (s.port p).phy with rx := takeRx m (s.port p).phy.rx } } :=
  port_phy_self _ _ _

@[simp] theorem take_swap (s : State) (p : Port) (m : PdMsg) : ((s.take p m).port p).swap = (s.port p).swap := by
  rw [take_port]

@[simp] theorem take_pe (s : State) (p : Port) (m : PdMsg) : ((s.take p m).port p).pe = (s.port p).pe := by
  rw [take_port]

@[simp] theorem take_cc (s : State) (p : Port) (m : PdMsg) : ((s.take p m).port p).cc = (s.port p).cc := by
  rw [take_port]

@[simp] theorem take_prof (s : State) (p : Port) (m : PdMsg) : (s.take p m).prof p = s.prof p := by
  unfold State.prof
  rw [take_port]
  rfl

@[simp] theorem take_pastAccept (s : State) (p : Port) (m : PdMsg) : (s.take p m).pastAccept p = s.pastAccept p := by
  unfold State.pastAccept
  rw [take_pe, take_isSrc]

@[simp] theorem take_powerSwapping (s : State) (p : Port) (m : PdMsg) :
    (s.take p m).powerSwapping p = s.powerSwapping p := by
  unfold State.powerSwapping
  rw [take_swap]

theorem take_clearToSend (s : State) (p : Port) (m : PdMsg) (h : s.clearToSend p = true) :
    (s.take p m).clearToSend p = true := by
  unfold State.clearToSend at h ⊢
  rw [take_port]
  exact h

/-- The message was the only one, so that no slot is left in use. -/
theorem take_rx_of_unread (s : State) (p : Port) (m : PdMsg) (h : s.unread p m = true) :
    ((s.take p m).port p).phy.rx = [] := by
  rw [take_port]
  unfold State.unread at h
  dsimp only at h ⊢
  split at h
  · next hrx => rw [hrx]; rfl
  · next x hrx =>
      rw [hrx]
      exact if_pos (eq_of_beq h)
  · cases h

/-- A port that listens takes its message, alone in its receive slots, and handles it. -/
theorem onMsg_of_listens (s : State) (p : Port) (m : PdMsg) (f : State → State) (hl : s.listens p = true)
    (hu : s.unread p m = true) : s.onMsg p m f = (f (s.take p m)).drain p := by
  unfold State.listens at hl
  simp only [Bool.and_eq_true, Bool.not_eq_true', Option.isNone_iff_eq_none] at hl
  obtain ⟨⟨⟨⟨⟨⟨⟨⟨⟨⟨⟨hattached, hpd⟩, htwill⟩, honly⟩, -⟩, -⟩, hchunk⟩, -⟩, -⟩, -⟩, hpast⟩, hpower⟩ := hl
  have hnext : s.isNext p m = true := by
    unfold State.unread at hu
    unfold State.isNext
    split at hu
    · next hrx => rw [hrx]
    · next x hrx => rw [hrx]; exact hu
    · cases hu
  have htakes : s.takes p m = true := by
    unfold State.takes
    rw [hattached, hpd, htwill, honly, hnext]
    rfl
  have hwhole : (s.take p m).chunkFailed p = s.take p m := by
    unfold State.chunkFailed
    rw [take_port]
    dsimp only
    rw [hchunk]
  unfold State.onMsg
  dsimp only
  rw [if_neg (by simp [htakes]), hwhole, take_pastAccept, take_powerSwapping, hpast, hpower]
  rfl

/-- With no message left, and something of Twill's own in progress, nothing follows the answer. -/
theorem drain_of_busy (s : State) (p : Port) (hrx : (s.port p).phy.rx = []) (hq : s.pdQuiet p = false) : s.drain p = s := by
  have hrest : s.drainRx p 5 = s := by
    unfold State.drainRx
    rw [hrx]
  unfold State.drain State.amsSettle
  rw [hrest, hq, Bool.and_false]
  rfl

/-! ## Answers -/

/-- The port answers the message it has taken by one of its own. -/
theorem reply_sends (s : State) (p : Port) (m r : PdMsg) (b : Body) (hl : s.listens p = true) (hu : s.unread p m = true)
    (hr : r ≠ .softReset) (hx : isExtended r = false) : Sends p r b s (((s.take p m).send p r b).drain p) := by
  have hsends : Sends p r b (s.take p m) ((s.take p m).send p r b) :=
    send_sends _ p r b (take_clearToSend s p m (clearToSend_of_listens s p hl)) hr hx
  have hrx : (((s.take p m).send p r b).port p).phy.rx = [] :=
    ((Speaks.refl p _).send r b).rx_eq.trans (take_rx_of_unread s p m hu)
  unfold Sends at hsends ⊢
  rw [drain_of_busy _ _ hrx (by unfold State.pdQuiet; simp [hsends])]
  exact hsends

theorem acceptSwap_swap (s : State) (p : Port) (k : SwapKind) : ((s.acceptSwap p k).port p).swap =
    { (s.port p).swap with step := .accepting, kind := k, byDev := false, acked := false } := by
  have hstart : ((if k = .pr then (s.setInflight p .swap).wr PD.PD_STATE p pdSwap else s).port p).swap =
      (s.port p).swap := by
    split
    · unfold State.setInflight
      obtain ⟨img, himg⟩ := sendCache_port (s.pe p fun e => { e with inflight := .swap }) p
      rw [State.wr_port, himg, port_pe_self]
    · rfl
  unfold State.acceptSwap
  dsimp only
  rw [((Speaks.refl p _).send .accept .none).swap_eq, port_swp_self]
  dsimp only
  rw [hstart]

theorem acceptSwap_rx (s : State) (p : Port) (k : SwapKind) :
    ((s.acceptSwap p k).port p).phy.rx = (s.port p).phy.rx := by
  unfold State.acceptSwap
  dsimp only
  rw [((Speaks.refl p _).send .accept .none).rx_eq, port_swp_self]
  dsimp only
  split
  · unfold State.setInflight
    obtain ⟨img, himg⟩ := sendCache_port (s.pe p fun e => { e with inflight := .swap }) p
    rw [State.wr_port, himg, port_pe_self]
  · rfl

/-- A partner's request of kind `k` has been accepted, and its Accept is to be acknowledged. -/
def Accepts (p : Port) (k : SwapKind) (t : State) : Prop :=
  (t.port p).swap.step = .accepting ∧ (t.port p).swap.kind = k ∧ (t.port p).swap.byDev = false

/-- While an Accept is under way nothing else follows. -/
theorem acceptSwap_drain (s : State) (p : Port) (k : SwapKind) (hrx : (s.port p).phy.rx = []) :
    (s.acceptSwap p k).drain p = s.acceptSwap p k :=
  drain_of_busy _ _ ((acceptSwap_rx s p k).trans hrx) (by unfold State.pdQuiet; simp [acceptSwap_swap])

theorem acceptSwap_accepts (s : State) (p : Port) (k : SwapKind) (hrx : (s.port p).phy.rx = []) :
    Accepts p k ((s.acceptSwap p k).drain p) := by
  rw [acceptSwap_drain s p k hrx]
  unfold Accepts
  rw [acceptSwap_swap]
  exact ⟨rfl, rfl, rfl⟩

/-! ## Soft_Reset (R97, R116) -/

theorem respond_port (s : State) (k : Packet) (st : Nat) (l : List Byte) (p : Port) :
    (s.respond k st l).port p = s.port p :=
  (respond_footprint s k st l 0).ports p rfl (.inl rfl)

theorem endVdm_phy (s : State) (p : Port) (st : Nat) (l : List Byte) :
    ((s.endVdm p st l).port p).phy = (s.port p).phy := by
  unfold State.endVdm
  split
  · rw [respond_port, port_pe_self]
  · rfl

theorem cancelHeld_rx (s : State) (p : Port) : ((s.cancelHeld p).port p).phy.rx = (s.port p).phy.rx := by
  unfold State.cancelHeld
  split
  · rw [port_phy_self]
    rfl
  · rfl

/-- Twill sends Soft_Reset, and waits for its Accept. -/
theorem sendSoftReset_waits (s : State) (p : Port) (hp : s.pastAccept p = false) (ht : s.twillOn p = true) :
    (s.sendSoftReset p).rd PD.PD_STATE p = pdSoftReset ∧ ((s.sendSoftReset p).port p).pe.await = .softResetAccept ∧
      ((s.sendSoftReset p).port p).phy.rx = (s.port p).phy.rx := by
  unfold State.twillOn at ht
  simp only [Bool.and_eq_true, Bool.not_eq_true'] at ht
  obtain ⟨htwill, hshadow⟩ := ht
  unfold State.sendSoftReset
  rw [if_neg (by simp [hp]), if_neg (by simp [htwill, hshadow])]
  extract_lets s1 s2 s3
  have hsent : Speaks p s3 (s3.send p .softReset .none) := (Speaks.refl p s3).send _ _
  have hrx : (s1.port p).phy.rx = (s.port p).phy.rx := by
    unfold s1
    rw [port_pe_self]
    dsimp only
    rw [cancelHeld_rx, endVdm_phy]
  refine ⟨?_, ?_, ?_⟩
  · rw [hsent.rd _ _ (by decide) (by decide)]
    exact rd_wr_self _ PD.PD_STATE p pdSoftReset
  · rw [hsent.pe_eq]
    unfold s3 s2
    rw [port_swp_self, State.wr_port, port_pe_self]
  · rw [hsent.rx_eq]
    unfold s3 s2
    rw [port_swp_self, State.wr_port, port_pe_self, port_phy_self]
    exact hrx

theorem protocolError_resets (s : State) (p : Port) (m : PdMsg) (hl : s.listens p = true) (hu : s.unread p m = true) :
    (((s.take p m).sendSoftReset p).drain p).rd PD.PD_STATE p = pdSoftReset := by
  unfold State.listens at hl
  simp only [Bool.and_eq_true, Bool.not_eq_true'] at hl
  obtain ⟨⟨⟨⟨⟨⟨⟨⟨⟨⟨⟨-, -⟩, htwill⟩, -⟩, -⟩, -⟩, -⟩, -⟩, -⟩, -⟩, hpast⟩, -⟩ := hl
  obtain ⟨hstate, hawait, hrx⟩ := sendSoftReset_waits (s.take p m) p ((take_pastAccept s p m).trans hpast) htwill
  rw [drain_of_busy _ _ (hrx.trans (take_rx_of_unread s p m hu)) (by unfold State.pdQuiet; simp [hawait])]
  exact hstate

/-! ## A swap request is judged (R161) -/

/-- Outside EPR entry and swaps the request is answered on its merits. -/
theorem onSwap_of_idle (s : State) (p : Port) (m : PdMsg) (f : State → State) (hl : s.listens p = true)
    (hu : s.unread p m = true) (he : (s.port p).pe.epr = .none) (hs : (s.port p).swap.step = .none) :
    s.onSwap p m f = (f (s.take p m)).drain p := by
  unfold State.onSwap
  rw [onMsg_of_listens s p m _ hl hu, take_pe, if_neg (not_not_intro he)]
  unfold State.contest
  rw [take_swap, if_pos hs]

theorem onSwap_of_eprEntry (s : State) (p : Port) (m : PdMsg) (f : State → State) (hl : s.listens p = true)
    (hu : s.unread p m = true) (he : (s.port p).pe.epr ≠ .none) :
    (s.onSwap p m f).rd PD.PD_STATE p = pdSoftReset := by
  unfold State.onSwap
  rw [onMsg_of_listens s p m _ hl hu, take_pe, if_pos he]
  exact protocolError_resets s p m hl hu

section Requests

variable {s : State} {p : Port} (hl : s.listens p = true) (he : (s.port p).pe.epr = .none)
  (hs : (s.port p).swap.step = .none)
include hl he hs

/-- PR_Swap in cases: who may accept, who waits, and who rejects (R108, R161). -/
theorem prSwap_accepts (hu : s.unread p .prSwap = true) (hr : s.on SYS.RESTRICTED 0 = false)
    (h : (s.isSrc p = true ∧ s.pol p 0 = true ∧ (s.prof p).snk = true ∧ s.on PD.EPR_MODE p = false) ∨
      (s.isSrc p = false ∧ s.pol p 0 = true ∧ s.on PD.EPR_MODE p = false ∧ s.rd FEED.SEL 0 ≠ 0 ∧
        s.on BUDGET.HOLD 0 = false)) : ∃ t, execPrSwap p s = .next t ∧ Accepts p .pr t := by
  refine ⟨_, rfl, ?_⟩
  have hrx := take_rx_of_unread s p .prSwap hu
  rw [onSwap_of_idle s p .prSwap _ hl hu he hs]
  rcases h with ⟨hsrc, hpol, hsnk, hepr⟩ | ⟨hsrc, hpol, hepr, hsel, hhold⟩
  · simpa [hr, hsrc, hpol, hsnk, hepr] using acceptSwap_accepts _ p .pr hrx
  · simpa [hr, hsrc, hpol, hepr, hsel, hhold] using acceptSwap_accepts _ p .pr hrx

theorem prSwap_rejects (hu : s.unread p .prSwap = true)
    (h : s.on SYS.RESTRICTED 0 = true ∨
      (s.isSrc p = true ∧ (s.pol p 0 = false ∨ (s.prof p).snk = false ∨ s.on PD.EPR_MODE p = true)) ∨
      (s.isSrc p = false ∧ (s.pol p 0 = false ∨ s.on PD.EPR_MODE p = true ∨ s.rd FEED.SEL 0 = 0) ∧
        s.on BUDGET.HOLD 0 = false)) : ∃ t, execPrSwap p s = .next t ∧ Sends p .reject .none s t := by
  refine ⟨_, rfl, ?_⟩
  have hsends := reply_sends s p .prSwap .reject .none hl hu (by decide) (by decide)
  rw [onSwap_of_idle s p .prSwap _ hl hu he hs]
  split
  · exact hsends
  · next hr =>
      rcases h with h | ⟨hsrc, h⟩ | ⟨hsrc, h, hhold⟩
      · exact absurd h hr
      · rw [if_pos (by simp [hsrc]), if_neg (by rcases h with h | h | h <;> simp [h])]
        exact hsends
      · rw [if_neg (by simp [hsrc]), if_neg (by rcases h with h | h | h <;> simp [h]), if_neg (by simp [hhold])]
        exact hsends

theorem prSwap_waits (hu : s.unread p .prSwap = true) (hr : s.on SYS.RESTRICTED 0 = false) (hsrc : s.isSrc p = false)
    (hhold : s.on BUDGET.HOLD 0 = true) : ∃ t, execPrSwap p s = .next t ∧ Sends p .wait .none s t := by
  refine ⟨_, rfl, ?_⟩
  rw [onSwap_of_idle s p .prSwap _ hl hu he hs]
  rw [if_neg (by simp [hr]), if_neg (by simp [hsrc]), if_neg (by simp [hhold]), if_pos (by simp [hhold])]
  exact reply_sends s p .prSwap .wait .none hl hu (by decide) (by decide)

/-! DR_Swap (R161, R171) -/

theorem drSwap_accepts (hu : s.unread p .drSwap = true) (hr : s.on SYS.RESTRICTED 0 = false) (hpol : s.pol p 2 = true) :
    ∃ t, execDrSwap p s = .next t ∧ Accepts p .dr t := by
  refine ⟨_, rfl, ?_⟩
  rw [onSwap_of_idle s p .drSwap _ hl hu he hs]
  rw [if_neg (by simp [hr, hpol])]
  exact acceptSwap_accepts _ p .dr (take_rx_of_unread s p .drSwap hu)

theorem drSwap_rejects (hu : s.unread p .drSwap = true) (h : s.on SYS.RESTRICTED 0 = true ∨ s.pol p 2 = false) :
    ∃ t, execDrSwap p s = .next t ∧ Sends p .reject .none s t := by
  refine ⟨_, rfl, ?_⟩
  rw [onSwap_of_idle s p .drSwap _ hl hu he hs]
  rw [if_pos (by rcases h with h | h <;> simp [h])]
  exact reply_sends s p .drSwap .reject .none hl hu (by decide) (by decide)

/-! VCONN_Swap (R161, R172) -/

theorem vconnSwap_accepts (hu : s.unread p .vconnSwap = true) (hr : s.on SYS.RESTRICTED 0 = false)
    (hpol : s.pol p 3 = true) (hsrc : s.on PD.VCONN_SRC p = true) (hepr : s.on PD.EPR_MODE p = false) :
    ∃ t, execVconnSwap p s = .next t ∧ Accepts p .vconn t := by
  refine ⟨_, rfl, ?_⟩
  rw [onSwap_of_idle s p .vconnSwap _ hl hu he hs]
  rw [if_neg (by simp [hr, hpol]), if_pos (by simp [hsrc]), if_neg (by simp [hepr])]
  exact acceptSwap_accepts _ p .vconn (take_rx_of_unread s p .vconnSwap hu)

theorem vconnSwap_rejects (hu : s.unread p .vconnSwap = true)
    (h : s.on SYS.RESTRICTED 0 = true ∨ s.pol p 3 = false ∨
      (s.on PD.VCONN_SRC p = true ∧ s.on PD.EPR_MODE p = true)) :
    ∃ t, execVconnSwap p s = .next t ∧ Sends p .reject .none s t := by
  refine ⟨_, rfl, ?_⟩
  have hsends := reply_sends s p .vconnSwap .reject .none hl hu (by decide) (by decide)
  rw [onSwap_of_idle s p .vconnSwap _ hl hu he hs]
  split
  · exact hsends
  · next hmay =>
      rcases h with h | h | ⟨hsrc, hepr⟩
      · exact absurd (by simp [h]) hmay
      · exact absurd (by simp [h]) hmay
      · rw [if_pos (by simp [hsrc]), if_pos (by simp [hepr])]
        exact hsends

/-- The other end takes the pool's 300 mA before it accepts (R56, R172). -/
theorem vconnSwap_reserves (hu : s.unread p .vconnSwap = true) (hr : s.on SYS.RESTRICTED 0 = false)
    (hpol : s.pol p 3 = true) (hsrc : s.on PD.VCONN_SRC p = false) (hallow : s.on CC.VCONN_ALLOW p = true)
    (hra : (s.port p).cc.ra = true) (hforce : s.on CC.VCONN_FORCE_OFF p = false) (hrev : (s.port p).cc.rev = false)
    (htrips : (s.port p).cc.ocpTrips < 2) (hin : s.supply.vconnInOut = false)
    (hpool : s.vconnSum + 300 ≤ s.act BUDGET.POOL_MA 0) :
    ∃ t, execVconnSwap p s = .next t ∧ Accepts p .vconn t ∧ t.rd CC.VCONN_RES p = 30 := by
  have hreserve : (s.take p .vconnSwap).vconnReserve p = some ((s.take p .vconnSwap).wr CC.VCONN_RES p 30) := by
    have hfits : (s.take p .vconnSwap).vconnSum + 300 ≤ (s.take p .vconnSwap).act BUDGET.POOL_MA 0 := hpool
    have hwindow : (s.take p .vconnSwap).supply.vconnInOut = false := hin
    unfold State.vconnReserve
    dsimp only
    rw [take_cc, take_on, take_on]
    exact if_neg (by simp [hallow, hra, hforce, hrev, htrips, hwindow, hfits])
  refine ⟨_, rfl, ?_⟩
  rw [onSwap_of_idle s p .vconnSwap _ hl hu he hs]
  rw [if_neg (by simp [hr, hpol]), if_neg (by simp [hsrc]), hreserve]
  have hrx : (((s.take p .vconnSwap).wr CC.VCONN_RES p 30).port p).phy.rx = [] := take_rx_of_unread s p .vconnSwap hu
  refine ⟨acceptSwap_accepts _ p .vconn hrx, ?_⟩
  dsimp only
  rw [acceptSwap_drain _ p .vconn hrx]
  unfold State.acceptSwap
  dsimp only
  rw [((Speaks.refl p _).send .accept .none).rd _ _ (by decide) (by decide), State.swp_rd, if_neg (by decide)]
  exact rd_wr_self _ CC.VCONN_RES p 30

end Requests

/-- The partner's PS_RDY has not come: VCONN stays on and Hard Reset is sent (R172). -/
theorem vconnSourceTimeout_resets (s : State) (p : Port) (hs : (s.port p).swap.step = .vconnOff)
    (ha : s.on CC.ATTACHED p = true) (hp : s.on PD.PD_EN p = true) (hsh : s.on PD.SHADOW p = false)
    (ht : s.carriedByTwill p = true) :
    ∃ t, execTVconnSourceTimeoutExpiry p s = .next t ∧ (t.port p).phy.hrPending = true := by
  refine ⟨_, rfl, ?_⟩
  unfold State.sendHardReset
  rw [if_pos hs, if_neg (by simp [ha, hp, hsh, ht]), port_phy_self]

/-- Settles O17, by the case that each request of a partner meets. -/
theorem swapsAreAnswered : Obligations.SwapsAreAnswered := by
  unfold Obligations.SwapsAreAnswered
  refine ⟨?prSource, ?prSourceRejects, ?prSink, ?prSinkWaits, ?prSinkRejects, ?dr, ?drRejects, ?vconn, ?vconnEpr,
    ?vconnReserves, ?vconnRejects, ?prRestricted, ?drRestricted, ?vconnRestricted, ?prEntry, ?drEntry, ?vconnEntry,
    ?timeout⟩
  case prSource =>
    exact fun p s hl hu he hs hr hsrc hpol hsnk hepr => prSwap_accepts hl he hs hu hr (.inl ⟨hsrc, hpol, hsnk, hepr⟩)
  case prSourceRejects => exact fun p s hl hu he hs _ hsrc h => prSwap_rejects hl he hs hu (.inr (.inl ⟨hsrc, h⟩))
  case prSink =>
    exact fun p s hl hu he hs hr hsrc hpol hepr hsel hhold =>
      prSwap_accepts hl he hs hu hr (.inr ⟨hsrc, hpol, hepr, hsel, hhold⟩)
  case prSinkWaits => exact fun p s hl hu he hs hr hsrc hhold => prSwap_waits hl he hs hu hr hsrc hhold
  case prSinkRejects =>
    exact fun p s hl hu he hs _ hsrc h hhold => prSwap_rejects hl he hs hu (.inr (.inr ⟨hsrc, h, hhold⟩))
  case dr => exact fun p s hl hu he hs hr hpol => drSwap_accepts hl he hs hu hr hpol
  case drRejects => exact fun p s hl hu he hs _ hpol => drSwap_rejects hl he hs hu (.inr hpol)
  case vconn => exact fun p s hl hu he hs hr hpol hsrc hepr => vconnSwap_accepts hl he hs hu hr hpol hsrc hepr
  case vconnEpr =>
    exact fun p s hl hu he hs _ _ hsrc hepr => vconnSwap_rejects hl he hs hu (.inr (.inr ⟨hsrc, hepr⟩))
  case vconnReserves =>
    intro p s hl hu he hs hr hpol hsrc hallow hra hforce hrev htrips hin hpool
    obtain ⟨t, ht, ⟨hstep, hkind, hdev⟩, hres⟩ :=
      vconnSwap_reserves hl he hs hu hr hpol hsrc hallow hra hforce hrev htrips hin hpool
    exact ⟨t, ht, hstep, hkind, hdev, hres⟩
  case vconnRejects => exact fun p s hl hu he hs _ hpol => vconnSwap_rejects hl he hs hu (.inr (.inl hpol))
  case prRestricted => exact fun p s hl hu he hs hr => prSwap_rejects hl he hs hu (.inl hr)
  case drRestricted => exact fun p s hl hu he hs hr => drSwap_rejects hl he hs hu (.inl hr)
  case vconnRestricted => exact fun p s hl hu he hs hr => vconnSwap_rejects hl he hs hu (.inl hr)
  case prEntry => exact fun p s hl hu he => ⟨_, rfl, onSwap_of_eprEntry s p .prSwap _ hl hu he⟩
  case drEntry => exact fun p s hl hu he => ⟨_, rfl, onSwap_of_eprEntry s p .drSwap _ hl hu he⟩
  case vconnEntry => exact fun p s hl hu he => ⟨_, rfl, onSwap_of_eprEntry s p .vconnSwap _ hl hu he⟩
  case timeout => exact fun p s hs ha hp hsh ht => vconnSourceTimeout_resets s p hs ha hp hsh ht

end Sys2Proof.Machine
end

section
/-! PROOFS. An Accept that ends a DR_Swap of the port's own, as FRAME_RECEIVED brings it (R74, R82, R171): O9. -/
set_option linter.all false

namespace Sys2Proof.Machine

/-- A UFP at Revision 3.x whose own request of DR_Swap has been acknowledged and awaits its Accept; the first Twill, which
carries the port, runs. -/
def drSwapAwaitsAccept : State :=
  (((({ State.reset with dev := .run } : State).wr CORE.STATE 1 enRun).flag CC.ATTACHED 0 true).wr PD.NEG_REV 0 2).swp 0
    fun w => { w with step := .requested, kind := .dr, byDev := true, acked := true }

/-- The partner's Accept, its first message. -/
def partnersAccept : Frame := ⟨.sop, .accept, 0, none, .none⟩

/-- The GoodCRC shows the port as UFP, which it was when the frame arrived (R74); then Twill takes the Accept and the port is
DFP (R171). -/
theorem frameReceived_drSwapAwaitsAccept :
    ∃ t, execFrameReceived 0 partnersAccept .good 2 2 false drSwapAwaitsAccept = .next t ∧
      (t.port 0).phy.ack = some ⟨.sop, 0, 2, 0, 0, false⟩ ∧ t.rd PD.HDR_DATA_ROLE 0 = 1 :=
  ⟨_, rfl, by decide +kernel, by decide +kernel⟩

/-- Refutes O9: its clause on a frame that is acknowledged and counted compares the GoodCRC that was sent with one made in the
state after the whole command. Where Twill handles the frame in the same command, as the Accept to a DR_Swap of the port's own,
the data role changes after the GoodCRC has left (R74, R82, R171). -/
theorem not_phySendsAndReceivesFrames : ¬ Obligations.PhySendsAndReceivesFrames := by
  intro h
  obtain ⟨-, -, -, -, -, -, hacknowledges, -⟩ := h
  obtain ⟨t, ht, hack, -⟩ := hacknowledges 0 partnersAccept 2 2 false drSwapAwaitsAccept (by decide +kernel) (by decide +kernel)
    (by decide) (by decide) (by decide +kernel) (.inl (by decide +kernel)) (by decide +kernel) (by decide +kernel)
  obtain ⟨u, hu, hsent, hdfp⟩ := frameReceived_drSwapAwaitsAccept
  obtain rfl : t = u := Host.Outcome.next.inj (ht.symm.trans hu)
  have hrole : (t.goodCrc 0 partnersAccept).data = 0 := congrArg Ack.data (Option.some.inj (hack.symm.trans hsent))
  exact absurd (hdfp.symm.trans hrole) (by decide)

end Sys2Proof.Machine
end

section
/-! PROOFS. A chunk that arrives while a Soft_Reset of the port's own has still to leave (R79, R84, R95): O10. -/
set_option linter.all false

namespace Sys2Proof.Machine

/-- A port whose Soft_Reset waits for the transmit buffer, which a frame that arrived has just freed (R77); the first Twill,
which carries the port, runs. -/
def softResetWaits : State :=
  ((({ State.reset with dev := .run } : State).wr CORE.STATE 1 enRun).flag CC.ATTACHED 0 true).phy 0
    fun y => { y with outbox := [(⟨.sop, .softReset, 0, none, .none⟩, false)] }

/-- Twill opens a reassembly for chunk 0 of a message of 27 bytes and submits the request for chunk 1; the Soft_Reset, which
was there first, leaves before it, and releases the reassembly (R95). -/
theorem chunkReceived_softResetWaits :
    ∃ t, execChunkReceived 0 .sop .securityRequest ⟨0, false, 27⟩ (List.replicate 26 0) softResetWaits = .next t ∧
      (t.port 0).phy.reasm = [] :=
  ⟨_, rfl, by decide +kernel⟩

/-- Refutes O10: its clause on chunk 0 asks nothing of the messages that Twill has yet to submit (R84). Where one of them is a
Soft_Reset, it leaves before the Chunk Request and releases the reassembly that chunk 0 has opened (R79, R95). -/
theorem not_phyResetsAndChunks : ¬ Obligations.PhyResetsAndChunks := by
  intro h
  obtain ⟨-, -, -, -, -, -, -, -, -, -, -, -, hopens, -⟩ := h
  obtain ⟨t, ht, hreasm⟩ := hopens 0 .sop .securityRequest 27 (List.replicate 26 0) softResetWaits (by decide +kernel)
    (by decide +kernel) rfl (by decide +kernel) (by decide +kernel) (by decide +kernel) (by decide +kernel) (by decide)
    (by decide) rfl
  obtain ⟨u, hu, hreleased⟩ := chunkReceived_softResetWaits
  obtain rfl : t = u := Host.Outcome.next.inj (ht.symm.trans hu)
  exact absurd (hreasm.symm.trans hreleased) (by decide)

end Sys2Proof.Machine
end

section
/-! PROOFS. A partner's queries and Twill's answers (R93, R97 to R99, R110, R112, R599): what a message of the port's own leaves
in the transmit buffer, what an advertisement keeps, and O11. -/
set_option linter.all false

namespace Sys2Proof.Machine

/-! ## A message that needs chunks (R94) -/

/-- The first chunk of a message, or the message itself where it needs none. -/
theorem firstChunk_keeps (s : State) (p : Port) (f : Frame) :
    ((s.firstChunk p f).getD f).sop = f.sop ∧ ((s.firstChunk p f).getD f).msg = f.msg := by
  unfold State.firstChunk
  dsimp only
  split <;> exact ⟨rfl, rfl⟩

/-- Capabilities go in chunks by reference (R94). -/
theorem firstChunk_caps (s : State) (p : Port) (f : Frame) (l : List Pdo) (g : CapFlags) (h : f.body = .caps l g) :
    ((s.firstChunk p f).getD f).body = f.body := by
  unfold State.firstChunk
  rw [h]
  dsimp only
  split
  · exact h
  · rfl

theorem firstChunk_fields (s : State) (p : Port) (f : Frame) (l : List Nat) (h : f.body = .fields l) :
    s.firstChunk p f = none := by
  have hbytes : extBytes f = 0 := by
    unfold extBytes
    rw [h]
  unfold State.firstChunk
  dsimp only
  rw [hbytes, if_pos (by simp)]

theorem extBytes_caps_le (k : Sop) (m : PdMsg) (i : BitVec 3) (l : List Pdo) (g : CapFlags) :
    extBytes ⟨k, m, i, none, .caps l g⟩ ≤ 4 * l.length := by
  unfold extBytes
  dsimp only
  split
  · exact le_rfl
  · exact Nat.zero_le _

theorem not_tooLong {n : Nat} (f : Frame) (h : n ≤ 260) : tooLong n f = false := by
  unfold tooLong
  rw [decide_eq_false (by omega), Bool.and_false]

/-- The frame that Twill submits on SOP to a port that is clear to send goes into the transmit buffer (R75, R84). -/
theorem pump_queued (s : State) (p : Port) (g : Frame) (h : s.clearToSend p = true) (hsop : g.sop = .sop)
    (hmsg : g.msg ≠ .softReset) :
    (((s.phy p fun y => { y with outbox := queueFrame (g, false) y.outbox }).pump p).port p).phy.tx =
      some { g with id := BitVec.ofNat 3 (s.rd (txId .sop) p) } := by
  unfold State.clearToSend State.twillOn at h
  simp only [Bool.and_eq_true, Bool.not_eq_true', Option.isNone_iff_eq_none, List.isEmpty_iff] at h
  obtain ⟨⟨⟨⟨⟨⟨-, htwill, hshadow⟩, htx⟩, hout⟩, hhr⟩, hcable⟩, hcache⟩ := h
  refine pump_sends _ p g ?_ ?_ ?_ ?_ htwill hshadow hcache hsop hmsg
  · simp [hout, queueFrame]
  · simpa using htx
  · simpa using hcable
  · simpa using hhr

/-- A message that is not too long goes into the transmit buffer, as a whole or by its first chunk (R94). -/
theorem send_puts (s : State) (p : Port) (m : PdMsg) (b : Body) (h : s.clearToSend p = true) (hm : m ≠ .softReset)
    (hlong : tooLong (extBytes ⟨.sop, m, 0, none, b⟩) ⟨.sop, m, 0, none, b⟩ = false) :
    ((s.send p m b).port p).phy.tx = some { (s.firstChunk p ⟨.sop, m, 0, none, b⟩).getD ⟨.sop, m, 0, none, b⟩ with
      id := BitVec.ofNat 3 (s.rd (txId .sop) p) } := by
  obtain ⟨hsop, hmsg⟩ := firstChunk_keeps s p ⟨.sop, m, 0, none, b⟩
  have hnot := h
  unfold State.clearToSend State.twillOn at hnot
  simp only [Bool.and_eq_true, Bool.not_eq_true'] at hnot
  obtain ⟨⟨⟨⟨⟨⟨hpd, htwill, hshadow⟩, -⟩, -⟩, -⟩, -⟩, -⟩ := hnot
  unfold State.send State.sendFrame
  dsimp only
  rw [if_neg (by rw [htwill, hshadow, hpd, hlong]; decide)]
  split
  · refine pump_queued _ p _ ?_ hsop (hmsg.trans_ne hm)
    unfold State.clearToSend at h ⊢
    rw [port_phy_self]
    exact h
  · exact pump_queued s p _ h hsop (hmsg.trans_ne hm)

/-! ## A port that has taken a message and is clear to answer (R68, R82) -/

/-- Port `p` of `u` has taken the only message that `s` had for it: the registers are those of `s`, no message waits, and
nothing hinders an answer. -/
structure Taken (p : Port) (s u : State) : Prop where
  regs : u.regs = s.regs
  clear : u.clearToSend p = true
  rx : (u.port p).phy.rx = []

namespace Taken

variable {p : Port} {s u : State}

theorem of_listens {m : PdMsg} (hl : s.listens p = true) (hu : s.unread p m = true) : Taken p s (s.take p m) :=
  ⟨rfl, take_clearToSend s p m (clearToSend_of_listens s p hl), take_rx_of_unread s p m hu⟩

theorem rd (h : Taken p s u) (F : Field) (i : Nat) : u.rd F i = s.rd F i := by
  unfold State.rd
  rw [h.regs]

/-- A change of the port's record outside its PHY. -/
theorem modPort (h : Taken p s u) (f : PortSt → PortSt) (hf : (f (u.port p)).phy = (u.port p).phy) :
    Taken p s (u.modPort p f) := by
  refine ⟨h.regs, ?_, ?_⟩
  · have hclear := h.clear
    unfold State.clearToSend at hclear ⊢
    rw [port_modPort_self, hf]
    exact hclear
  · rw [port_modPort_self, hf]
    exact h.rx

theorem adopt (h : Taken p s u) : Taken p s (u.adopt p) := h.modPort _ rfl

theorem pe (h : Taken p s u) (f : PeSt → PeSt) : Taken p s (u.pe p f) := h.modPort _ rfl

/-- Nothing follows the answer that waits for its GoodCRC. -/
theorem drain_send (h : Taken p s u) (m : PdMsg) (b : Body) (hm : m ≠ .softReset)
    (hlong : tooLong (extBytes ⟨.sop, m, 0, none, b⟩) ⟨.sop, m, 0, none, b⟩ = false) :
    (u.send p m b).drain p = u.send p m b := by
  have htx := send_puts u p m b h.clear hm hlong
  exact drain_of_busy _ _ (((Speaks.refl p _).send m b).rx_eq.trans h.rx) (by unfold State.pdQuiet; simp [htx])

theorem sends_plain (h : Taken p s u) (m : PdMsg) (b : Body) (hm : m ≠ .softReset) (hx : isExtended m = false) :
    Sends p m b s ((u.send p m b).drain p) := by
  rw [h.drain_send m b hm (by unfold tooLong; rw [hx, Bool.false_and])]
  have hsends := send_sends u p m b h.clear hm hx
  unfold Sends at hsends ⊢
  rw [hsends, h.rd]

/-- An extended message of a few fields is no longer than 26 bytes. -/
theorem sends_fields (h : Taken p s u) (m : PdMsg) (l : List Nat) (hm : m ≠ .softReset) :
    Sends p m (.fields l) s ((u.send p m (.fields l)).drain p) := by
  have hlong : tooLong (extBytes ⟨.sop, m, 0, none, .fields l⟩) ⟨.sop, m, 0, none, .fields l⟩ = false :=
    not_tooLong _ (Nat.zero_le _)
  rw [h.drain_send m _ hm hlong]
  unfold Sends
  rw [send_puts u p m _ h.clear hm hlong, firstChunk_fields u p _ l rfl, h.rd]
  rfl

/-- Capabilities may need chunks, of which the first stands for the message. -/
theorem sends_caps (h : Taken p s u) (m : PdMsg) (l : List Pdo) (g : CapFlags) (hm : m ≠ .softReset) (hl : l.length ≤ 65) :
    (((u.send p m (.caps l g)).drain p).port p).phy.tx.map (fun f => (f.msg, f.body)) = some (m, .caps l g) := by
  have hlong : tooLong (extBytes ⟨.sop, m, 0, none, .caps l g⟩) ⟨.sop, m, 0, none, .caps l g⟩ = false :=
    not_tooLong _ ((extBytes_caps_le _ _ _ _ _).trans (by omega))
  rw [h.drain_send m _ hm hlong, send_puts u p m _ h.clear hm hlong]
  simp only [Option.map_some, (firstChunk_keeps u p _).2, firstChunk_caps u p ⟨.sop, m, 0, none, .caps l g⟩ l g rfl]

theorem rev2_eq (h : Taken p s u) : u.rev2 p = s.rev2 p := by
  unfold State.rev2
  rw [h.rd, h.rd]

/-- Not_Supported at Revision 3.x, Reject at 2.0, and counted (R93, R97). -/
theorem refuses (h : Taken p s u) : Refuses p s ((u.refuseMsg p).drain p) := by
  have hrev : u.rev3 p = s.rev3 p := by
    unfold State.rev3
    rw [h.rd]
  have hmsg : (if s.rev3 p then PdMsg.notSupported else .reject) ≠ .softReset ∧
      isExtended (if s.rev3 p then PdMsg.notSupported else .reject) = false := by
    cases s.rev3 p <;> decide
  obtain ⟨hm, hx⟩ := hmsg
  have hsends := send_sends u p _ .none h.clear hm hx
  have hspeaks := (Speaks.refl p u).send (if s.rev3 p then .notSupported else .reject) .none
  have hport : (u.refuseMsg p).port p = (u.send p (if s.rev3 p then .notSupported else .reject) .none).port p := by
    unfold State.refuseMsg
    rw [hrev]
    rfl
  unfold Sends at hsends
  rw [drain_of_busy _ _ (by rw [hport]; exact hspeaks.rx_eq.trans h.rx) (by unfold State.pdQuiet; rw [hport]; simp [hsends])]
  refine ⟨?_, ?_⟩
  · unfold Sends
    rw [hport, hsends, h.rd]
  · unfold State.refuseMsg
    rw [rd_irq _ _ _ _ _ _ (by decide), rd_bump_self, hrev, hspeaks.rd _ _ (by decide) (by decide), h.rd]
    rfl

theorem answers3 (h : Taken p s u) (m : PdMsg) (l : List Nat) (hm : m ≠ .softReset) :
    Answers3 p m (.fields l) s ((u.answer3 p m (.fields l)).drain p) := by
  unfold Answers3 State.answer3
  rw [h.rev2_eq]
  refine ⟨fun hr => ?_, fun hr => ?_⟩
  · rw [if_pos hr]
    exact h.refuses
  · rw [if_neg (by simp [hr])]
    exact h.sends_fields m l hm

theorem answers3_caps (h : Taken p s u) (m : PdMsg) (l : List Pdo) (g : CapFlags) (hm : m ≠ .softReset)
    (hl : l.length ≤ 65) : (s.rev2 p = true → Refuses p s ((u.answer3 p m (.caps l g)).drain p)) ∧
      (s.rev2 p = false →
        (((u.answer3 p m (.caps l g)).drain p).port p).phy.tx.map (fun f => (f.msg, f.body)) = some (m, .caps l g)) := by
  unfold State.answer3
  rw [h.rev2_eq]
  refine ⟨fun hr => ?_, fun hr => ?_⟩
  · rw [if_pos hr]
    exact h.refuses
  · rw [if_neg (by simp [hr])]
    exact h.sends_caps m l g hm hl

end Taken

/-! ## What an offer reads (R107 to R111, R599) -/

@[simp] theorem take_stored (s : State) (p : Port) (m : PdMsg) : (s.take p m).stored p = s.stored p := by
  unfold State.stored
  rw [take_port]

@[simp] theorem take_cfMode (s : State) (p : Port) (m : PdMsg) : (s.take p m).cfMode p = s.cfMode p := by
  unfold State.cfMode
  rw [take_pe, take_rd]

theorem take_sinkObjects (s : State) (p : Port) (m : PdMsg) : (s.take p m).sinkObjects p = s.sinkObjects p := by
  unfold State.sinkObjects
  rw [take_stored]
  rfl

theorem take_eprSinkObjects (s : State) (p : Port) (m : PdMsg) :
    (s.take p m).eprSinkObjects p = s.eprSinkObjects p := by
  unfold State.eprSinkObjects
  rw [take_stored]
  rfl

theorem take_sinkFlags (s : State) (p : Port) (m : PdMsg) : (s.take p m).sinkFlags p = s.sinkFlags p := by
  unfold State.sinkFlags
  rw [take_stored]
  rfl

theorem take_canSink (s : State) (p : Port) (m : PdMsg) : (s.take p m).canSink p = s.canSink p := by
  unfold State.canSink
  rw [take_stored]
  rfl

theorem adopt_prof_of_stored {s u : State} {p : Port} (hs : u.stored p = s.stored p) (hr : u.regs = s.regs) :
    (u.adopt p).prof p = (s.adopt p).prof p := by
  have hadopt (t : State) : (t.adopt p).prof p = t.restrict (t.stored p) := by
    unfold State.prof State.adopt
    rw [port_modPort_self]
    rfl
  rw [hadopt, hadopt, hs]
  unfold State.restrict State.on State.rd
  rw [hr]

section Offers

variable {s u : State} {p : Port} (hp : u.prof p = s.prof p) (hr : u.regs = s.regs)
include hp hr

/-- The objects of an offer follow from the registers and the profile in force. -/
theorem sprObjects_of_prof : u.sprObjects p = s.sprObjects p := by
  unfold State.sprObjects State.iLim State.pdp State.pdpSpr State.pdp State.pdpAt State.iOff State.pOff State.cableMa
    State.cableMv State.rev2 State.on State.rd
  rw [hp, hr]

theorem eprObjects_of_prof (b : Bool) : u.eprObjects p b = s.eprObjects p b := by
  unfold State.eprObjects State.iLim State.pdp State.pdpAt State.iOff State.pOff State.cableMa State.cableMv State.rev2
    State.rd
  rw [hp, hr]

theorem offerFlags_of_prof : u.offerFlags p = s.offerFlags p := by
  unfold State.offerFlags
  rw [eprObjects_of_prof hp hr]
  unfold State.rev2 State.unconstrained State.on State.rd
  rw [hr]

theorem offerObjects_of_prof (he : (u.port p).pe.eprLeaving = (s.port p).pe.eprLeaving) :
    u.offerObjects p = s.offerObjects p := by
  unfold State.offerObjects
  rw [sprObjects_of_prof hp hr, eprObjects_of_prof hp hr, he]
  unfold State.on State.rd
  rw [hr]

end Offers

/-! ## How long capabilities can be (R94, R110) -/

theorem sprObjects_length (s : State) (p : Port) : (s.sprObjects p).length ≤ 7 := by
  unfold State.sprObjects
  dsimp only
  split
  · exact Nat.le_add_left 1 6
  · exact List.length_filterMap_le _ _

theorem eprObjects_length (s : State) (p : Port) (b : Bool) : (s.eprObjects p b).length ≤ 4 := by
  unfold State.eprObjects
  extract_lets f i pd ok fx top
  have hfx : fx.length ≤ 3 := List.length_filterMap_le _ _
  split
  · exact Nat.zero_le _
  · rw [List.length_append]
    split
    · exact Nat.add_le_add hfx le_rfl
    · exact Nat.le_succ_of_le hfx

theorem pad7_length (l : List Pdo) (h : l.length ≤ 7) : (pad7 l).length = 7 := by
  unfold pad7
  rw [List.length_append, List.length_replicate]
  omega

theorem sinkObjects_length (s : State) (p : Port) : (s.sinkObjects p).length ≤ 7 := by
  unfold State.sinkObjects
  dsimp only
  exact Nat.le_trans (Nat.succ_le_succ (List.length_filterMap_le _ _)) (Nat.le_add_right 4 3)

theorem eprSinkObjects_length (s : State) (p : Port) : (s.eprSinkObjects p).length ≤ 3 :=
  List.length_filterMap_le _ _

theorem offerObjects_length (s : State) (p : Port) : (s.offerObjects p).length ≤ 11 := by
  have hspr := sprObjects_length s p
  have hepr := eprObjects_length s p (s.on CC.EPR_CABLE p)
  unfold State.offerObjects
  split
  · rw [List.length_append, pad7_length _ hspr]
    split
    · exact Nat.le_add_right 7 4
    · omega
  · omega

/-! ## An advertisement (R110, R112) -/

theorem pdQuiet_of_tx (s : State) (p : Port) (h : (s.port p).phy.tx.isSome = true) : s.pdQuiet p = false := by
  unfold State.pdQuiet
  obtain ⟨f, hf⟩ := Option.isSome_iff_exists.mp h
  simp [hf]

/-- A frame on SOP of a port whose PHY is free stays with Twill or goes into the transmit buffer. -/
theorem pump_waits (s : State) (p : Port) (f : Frame) (ams : Bool) (hsop : f.sop = .sop)
    (hout : (s.port p).phy.outbox = [(f, ams)]) (htx : (s.port p).phy.tx = none)
    (hcable : (s.port p).phy.cableResetPending = false) : (s.pump p).pdQuiet p = false := by
  have hpump : s.pumpCableReset p = s := by
    unfold State.pumpCableReset
    simp [hcable]
  have hheld : s.withdrawHeld p = s := by
    unfold State.withdrawHeld
    simp [htx]
  have hhears : s.hears p f.sop = true := by rw [hsop]; rfl
  unfold State.pump
  dsimp only
  rw [hpump, hheld, htx, hout]
  dsimp only
  split
  · unfold State.pdQuiet
    simp [hout]
  · rw [if_neg (by simp [hhears])]
    generalize (if f.msg = .softReset then s.softResetGoes p f.sop else s) = u
    split
    · exact pdQuiet_of_tx _ p (by rw [port_phy_self]; rfl)
    · split <;> exact pdQuiet_of_tx _ p (by rw [port_phy_self]; rfl)

/-- What a port keeps as it makes its advertisement, before the message is sent (R107, R110). -/
theorem sendCaps_sends (s : State) (p : Port) : ∃ (u : State) (img : CacheImg),
    s.sendCaps p = u.sendAms p (if (s.adopt p).on PD.EPR_MODE p then .eprSourceCaps else .sourceCaps)
      (.caps ((s.adopt p).offerObjects p) ((s.adopt p).offerFlags p)) ∧
    (∀ F i, F.apart PD.PD_STATE = true → u.rd F i = s.rd F i) ∧
    (u.port p).phy = (s.port p).phy ∧
    (u.port p).pe = { (s.port p).pe with
      caps := (s.adopt p).offerObjects p, capsFlags := (s.adopt p).offerFlags p, pdpSent := (s.adopt p).pdp p
      nCaps := (s.port p).pe.nCaps + 1, cache := img, cacheOk := true } := by
  unfold State.sendCaps
  extract_lets t l f s1 s2
  obtain ⟨img, himg⟩ := sendCache_port (t.pe p fun e => { e with
    caps := l, capsFlags := f, pdpSent := t.pdp p, nCaps := e.nCaps + 1 }) p
  have hport : s2.port p = s1.port p := by
    unfold s2
    split <;> rfl
  have hs1 : s1.port p = _ := himg
  have hadopt : t.port p = { s.port p with
      profile := (s.port p).nextProfile.getD (s.port p).profile, nextProfile := none } := port_modPort_self _ _ _
  refine ⟨s2, img, rfl, fun F i hF => ?_, ?_, ?_⟩
  · have hrd : s1.rd F i = s.rd F i := by
      unfold s1
      rw [sendCache_rd]
      rfl
    unfold s2
    split
    · exact hrd
    · rw [rd_wr _ _ _ _ _ _ hF, hrd]
  · rw [hport, hs1, port_pe_self, hadopt]
  · rw [hport, hs1, port_pe_self, hadopt]

theorem sendCaps_pe (s : State) (p : Port) : ∃ img, ((s.sendCaps p).port p).pe = { (s.port p).pe with
    caps := (s.adopt p).offerObjects p, capsFlags := (s.adopt p).offerFlags p, pdpSent := (s.adopt p).pdp p
    nCaps := (s.port p).pe.nCaps + 1, cache := img, cacheOk := true } := by
  obtain ⟨u, img, hu, -, -, hpe⟩ := sendCaps_sends s p
  exact ⟨img, by rw [hu, ((Speaks.refl p u).sendAms _ _).pe_eq, hpe]⟩

/-- A port is carried alike in two states whose Twills carry the same ports and run alike (R68). -/
theorem carriedByTwill_of_core {s u : State} (p : Port) (hports : ∀ k, u.rd CORE.PORTS k = s.rd CORE.PORTS k)
    (hstate : ∀ e, u.rd CORE.STATE e = s.rd CORE.STATE e) : u.carriedByTwill p = s.carriedByTwill p := by
  have htwill : u.twillOf p = s.twillOf p := by
    unfold State.twillOf State.bit
    simp only [hports]
  unfold State.carriedByTwill State.coreRuns
  rw [htwill]
  simp only [hstate]

/-- A message that begins an AMS leaves a free PHY busy: it waits, is held, or is being sent (R84 to R87). -/
theorem sendAms_waits (s : State) (p : Port) (m : PdMsg) (b : Body) (htwill : s.carriedByTwill p = true)
    (hshadow : s.on PD.SHADOW p = false) (hpd : s.on PD.PD_EN p = true) (htx : (s.port p).phy.tx = none)
    (hout : (s.port p).phy.outbox = []) (hcable : (s.port p).phy.cableResetPending = false)
    (hlong : tooLong (extBytes ⟨.sop, m, 0, none, b⟩) ⟨.sop, m, 0, none, b⟩ = false) :
    (s.sendAms p m b).pdQuiet p = false := by
  unfold State.sendAms State.sendFrame
  dsimp only
  rw [if_neg (by rw [htwill, hshadow, hpd, hlong]; decide)]
  have hkept (u : State) (htx : (u.port p).phy.tx = none) (hout : (u.port p).phy.outbox = [])
      (hcable : (u.port p).phy.cableResetPending = false) : ((u.phy p fun y => { y with
        outbox := queueFrame ((s.firstChunk p ⟨.sop, m, 0, none, b⟩).getD ⟨.sop, m, 0, none, b⟩, true) y.outbox }).pump
          p).pdQuiet p = false := by
    refine pump_waits _ p _ true (firstChunk_keeps s p ⟨.sop, m, 0, none, b⟩).1 ?_ ?_ ?_
    · rw [port_phy_self]
      simp [hout, queueFrame]
    · rw [port_phy_self]
      exact htx
    · rw [port_phy_self]
      exact hcable
  split
  · exact hkept _ (by rw [port_phy_self]; exact htx) (by rw [port_phy_self]; exact hout)
      (by rw [port_phy_self]; exact hcable)
  · exact hkept s htx hout hcable

/-- After an advertisement in answer nothing else follows. -/
theorem Taken.drain_sendCaps {p : Port} {s u : State} (h : Taken p s u) : (u.sendCaps p).drain p = u.sendCaps p := by
  have hclear := h.clear
  unfold State.clearToSend State.twillOn at hclear
  simp only [Bool.and_eq_true, Bool.not_eq_true', Option.isNone_iff_eq_none, List.isEmpty_iff] at hclear
  obtain ⟨⟨⟨⟨⟨⟨hpd, htwill, hshadow⟩, htx⟩, hout⟩, -⟩, hcable⟩, -⟩ := hclear
  obtain ⟨v, img, hv, hrd, hphy, -⟩ := sendCaps_sends u p
  have hcarried : v.carriedByTwill p = true :=
    (carriedByTwill_of_core p (fun k => hrd _ _ (by decide)) (fun e => hrd _ _ (by decide))).trans htwill
  have hon (F : Field) (hF : F.apart PD.PD_STATE = true) : v.on F p = u.on F p := by
    unfold State.on
    rw [hrd F p hF]
  rw [hv]
  refine drain_of_busy _ _ ?_ ?_
  · rw [((Speaks.refl p v).sendAms _ _).rx_eq, hphy, h.rx]
  · refine sendAms_waits v p _ _ hcarried ((hon _ (by decide)).trans hshadow) ((hon _ (by decide)).trans hpd)
      (by rw [hphy, htx]) (by rw [hphy, hout]) (by rw [hphy, hcable]) (not_tooLong _ ?_)
    have hlength := offerObjects_length (u.adopt p) p
    exact (extBytes_caps_le _ _ _ _ _).trans (by omega)

@[simp] theorem adopt_pe (s : State) (p : Port) : ((s.adopt p).port p).pe = (s.port p).pe := by
  unfold State.adopt
  rw [port_modPort_self]

/-- With no message left and nothing of Twill's own due, the transmit buffer stays as it is. -/
theorem drain_tx (s : State) (p : Port) (hrx : (s.port p).phy.rx = []) (hw : (s.port p).pe.readvWant = false)
    (hd : (s.port p).pe.sinkCapDue = false) : ((s.drain p).port p).phy.tx = (s.port p).phy.tx := by
  have hrest : s.drainRx p 5 = s := by
    unfold State.drainRx
    rw [hrx]
  have hams : ((s.amsEnd p).port p).phy.tx = (s.port p).phy.tx ∧ ((s.amsEnd p).port p).pe.readvWant = false := by
    unfold State.amsEnd
    dsimp only
    split
    · rw [present_port, State.flag_port, port_phy_self]
      exact ⟨rfl, hw⟩
    · rw [port_phy_self]
      exact ⟨rfl, hw⟩
  obtain ⟨htx, hwant⟩ := hams
  unfold State.drain State.amsSettle State.readvIfWanted
  rw [hrest]
  dsimp only
  split
  · rw [if_neg (by simp [hd])]
    split
    · rw [if_neg (by simp [hwant])]
      exact htx
    · rw [if_neg (by simp [hw])]
  · rfl

/-! ## The queries and their answers (R98, R99, R599) -/

section Queries

variable {s : State} {p : Port} (hl : s.listens p = true)
include hl

theorem refusedMessage_refuses (m : PdMsg) (hu : s.unread p m = true) (hr : s.refuses p m = true) :
    ∃ t, execRefusedMessage p m s = .next t ∧ Refuses p s t := by
  refine ⟨_, rfl, ?_⟩
  have hsame : (s.take p m).refuses p m = true := hr
  rw [onMsg_of_listens s p m _ hl hu, if_pos hsame]
  exact (Taken.of_listens hl hu).refuses

theorem structuredVdm_naks (hu : s.unread p .vdm = true) :
    ∃ t, execStructuredVdmRequest p false s = .next t ∧ Sends p .vdm (.fields [2]) s t := by
  refine ⟨_, rfl, ?_⟩
  rw [onMsg_of_listens s p .vdm _ hl hu]
  exact (Taken.of_listens hl hu).sends_fields .vdm _ (by decide)

theorem discoverIdentity_acks (hu : s.unread p .vdm = true) : ∃ t, execDiscoverIdentitySop p s = .next t ∧
    Sends p .vdm (.fields [1, 0, 3, 0, 0, s.vid, s.pid, s.xid, s.bcdDevice]) s t := by
  refine ⟨_, rfl, ?_⟩
  rw [onMsg_of_listens s p .vdm _ hl hu]
  exact (Taken.of_listens hl hu).sends_fields .vdm _ (by decide)

/-- Attention is not answered, and with nothing that waits nothing follows it. -/
theorem attention_ignored (hu : s.unread p .vdm = true) (hw : (s.port p).pe.readvWant = false)
    (hd : (s.port p).pe.sinkCapDue = false) :
    ∃ t, execStructuredVdmRequest p true s = .next t ∧ (t.port p).phy.tx = none := by
  refine ⟨_, rfl, ?_⟩
  have h := Taken.of_listens hl hu
  have htx : ((s.take p .vdm).port p).phy.tx = none := by
    have hclear := h.clear
    unfold State.clearToSend at hclear
    simp only [Bool.and_eq_true, Option.isNone_iff_eq_none] at hclear
    obtain ⟨⟨⟨⟨⟨-, htx⟩, -⟩, -⟩, -⟩, -⟩ := hclear
    exact htx
  rw [onMsg_of_listens s p .vdm _ hl hu]
  exact (drain_tx (s.take p .vdm) p h.rx (by rw [take_pe]; exact hw) (by rw [take_pe]; exact hd)).trans htx

theorem batteryCap_answers (hu : s.unread p .getBatteryCap = true) :
    ∃ t, execGetBatteryCap p false s = .next t ∧ Answers3 p .batteryCaps (.fields [1]) s t := by
  refine ⟨_, rfl, ?_⟩
  rw [if_neg (by decide), onMsg_of_listens s p .getBatteryCap _ hl hu]
  exact (Taken.of_listens hl hu).answers3 .batteryCaps _ (by decide)

theorem batteryStatus_answers (hu : s.unread p .getBatteryStatus = true) :
    ∃ t, execGetBatteryCap p true s = .next t ∧ Answers3 p .batteryStatus (.fields [1]) s t := by
  refine ⟨_, rfl, ?_⟩
  rw [if_pos rfl, onMsg_of_listens s p .getBatteryStatus _ hl hu]
  exact (Taken.of_listens hl hu).answers3 .batteryStatus _ (by decide)

theorem manufacturerInfo_answers (hu : s.unread p .getManufacturerInfo = true) :
    ∃ t, execGetManufacturerInfo p s = .next t ∧ Answers3 p .manufacturerInfo (.fields [s.vid, s.pid]) s t := by
  refine ⟨_, rfl, ?_⟩
  rw [onMsg_of_listens s p .getManufacturerInfo _ hl hu]
  exact (Taken.of_listens hl hu).answers3 .manufacturerInfo _ (by decide)

theorem sourceCapExt_answers (hu : s.unread p .getSourceCapExt = true) :
    ∃ t, execGetSourceCap p .extended s = .next t ∧
      Answers3 p .sourceCapsExt (.fields ([s.vid, s.pid, s.xid] ++ s.versions ++
        [1, if s.unconstrained then 1 else 0, min (s.restrict (s.stored p)).pdpMax 100,
          if (s.restrict (s.stored p)).epr then (s.restrict (s.stored p)).pdpMax else 0])) s t := by
  refine ⟨_, rfl, ?_⟩
  dsimp only
  rw [onMsg_of_listens s p .getSourceCapExt _ hl hu, take_stored]
  exact (Taken.of_listens hl hu).answers3 .sourceCapsExt _ (by decide)

theorem ppsStatus_answers (hu : s.unread p .getPpsStatus = true) :
    ∃ t, execGetPpsStatus p s = .next t ∧ Answers3 p .ppsStatus (.fields [s.rd LOOP.VBUS p / 20,
      (s.rdI LOOP.I_AVG p / 50).toNat, s.tempStatus, if s.cfMode p then 1 else 0]) s t := by
  refine ⟨_, rfl, ?_⟩
  rw [onMsg_of_listens s p .getPpsStatus _ hl hu, take_cfMode]
  exact (Taken.of_listens hl hu).answers3 .ppsStatus _ (by decide)

theorem sourceInfo_answers (hu : s.unread p .getSourceInfo = true) :
    ∃ t, execGetSourceInfo p s = .next t ∧ Answers3 p .sourceInfo (.fields [0, (s.restrict (s.stored p)).pdpMax,
      (s.port p).pe.pdpTick / 1000, (s.port p).pe.pdpSent / 1000]) s t := by
  refine ⟨_, rfl, ?_⟩
  rw [onMsg_of_listens s p .getSourceInfo _ hl hu, take_stored, take_pe]
  exact (Taken.of_listens hl hu).answers3 .sourceInfo _ (by decide)

theorem revision_answers (hu : s.unread p .getRevision = true) :
    ∃ t, execGetRevision p s = .next t ∧ Answers3 p .revision (.fields [3, 2, 1, 0]) s t := by
  refine ⟨_, rfl, ?_⟩
  rw [onMsg_of_listens s p .getRevision _ hl hu]
  exact (Taken.of_listens hl hu).answers3 .revision _ (by decide)

theorem status_answers (hu : s.unread p .getStatus = true) :
    ∃ t, execGetStatus p s = .next t ∧ Answers3 p .status (.fields
      [if s.rdI ADC.T_DIE 0 / 10 < 2 then 1 else (s.rdI ADC.T_DIE 0 / 10).toNat, 2, 0,
        (if s.rd GUARD.CAUSE p ∈ [0x01, 0x04, 0x02, 0x03] then 2 else 0) + (if s.thermalWarn then 4 else 0) +
          (if s.rd GUARD.CAUSE p = 0x08 then 8 else 0) + (if s.cfMode p then 16 else 0),
        s.tempStatus, (if s.cableMv p * s.cableMa p / 1000 < min (1000 * (s.restrict (s.stored p)).pdpMax) (s.pOff p)
          then 2 else 0) + (if s.pOff p < 1000 * (s.restrict (s.stored p)).pdpMax then 4 else 0)]) s t := by
  refine ⟨_, rfl, ?_⟩
  rw [onMsg_of_listens s p .getStatus _ hl hu]
  dsimp only
  rw [take_stored, take_cfMode]
  exact (Taken.of_listens hl hu).answers3 .status _ (by decide)

/-! Sink capabilities in their three forms (R599). -/

theorem sinkCap_answers (hu : s.unread p .getSinkCap = true) (hs : s.canSink p = true) :
    ∃ t, execGetSinkCap p .spr s = .next t ∧ Sends p .sinkCaps (.caps (s.sinkObjects p) (s.sinkFlags p)) s t := by
  refine ⟨_, rfl, ?_⟩
  dsimp only
  rw [onMsg_of_listens s p .getSinkCap _ hl hu, take_canSink, if_pos hs, take_sinkObjects, take_sinkFlags]
  exact (Taken.of_listens hl hu).adopt.sends_plain .sinkCaps _ (by decide) (by decide)

theorem sinkCapExt_answers (hu : s.unread p .getSinkCapExt = true) (hs : s.canSink p = true) :
    ∃ t, execGetSinkCap p .extended s = .next t ∧
      Answers3 p .sinkCapsExt (.fields ([s.vid, s.pid, s.xid] ++ s.versions ++
        [0, min (s.restrict (s.stored p)).snkPdp 100, min (s.restrict (s.stored p)).snkPdp 100, 0,
          if 200 < (s.restrict (s.stored p)).snkVmax then (s.restrict (s.stored p)).snkPdp else 0,
          if 200 < (s.restrict (s.stored p)).snkVmax then (s.restrict (s.stored p)).snkPdp else 0])) s t := by
  refine ⟨_, rfl, ?_⟩
  dsimp only
  rw [onMsg_of_listens s p .getSinkCapExt _ hl hu, take_canSink, if_pos hs, take_stored]
  exact (Taken.of_listens hl hu).answers3 .sinkCapsExt _ (by decide)

theorem eprSinkCap_answers (hu : s.unread p .extControl = true) (hs : s.canSink p = true) :
    ∃ t, execGetSinkCap p .epr s = .next t ∧ (s.rev2 p = true → Refuses p s t) ∧
      (s.rev2 p = false → (t.port p).phy.tx.map (fun f => (f.msg, f.body)) =
        some (.eprSinkCaps, .caps (pad7 (s.sinkObjects p) ++ s.eprSinkObjects p) (s.sinkFlags p))) := by
  refine ⟨_, rfl, ?_⟩
  have hlength : (pad7 (s.sinkObjects p) ++ s.eprSinkObjects p).length ≤ 65 := by
    have hepr := eprSinkObjects_length s p
    rw [List.length_append, pad7_length _ (sinkObjects_length s p)]
    omega
  dsimp only
  rw [onMsg_of_listens s p .extControl _ hl hu, take_canSink, if_pos hs, take_sinkObjects, take_eprSinkObjects,
    take_sinkFlags]
  exact (Taken.of_listens hl hu).adopt.answers3_caps .eprSinkCaps _ _ (by decide) hlength

theorem sinkCap_refuses (q : CapQuery) (hu : s.unread p (match q with
      | .spr => .getSinkCap
      | .extended => .getSinkCapExt
      | .epr => .extControl) = true) (hs : s.canSink p = false) :
    ∃ t, execGetSinkCap p q s = .next t ∧ Refuses p s t := by
  refine ⟨_, rfl, ?_⟩
  have hnot (m : PdMsg) : ¬(s.take p m).canSink p = true := by
    rw [take_canSink, hs]
    decide
  cases q with
  | spr =>
    dsimp only at hu ⊢
    rw [onMsg_of_listens s p .getSinkCap _ hl hu, if_neg (hnot _)]
    exact (Taken.of_listens hl hu).refuses
  | extended =>
    dsimp only at hu ⊢
    rw [onMsg_of_listens s p .getSinkCapExt _ hl hu, if_neg (hnot _)]
    exact (Taken.of_listens hl hu).refuses
  | epr =>
    dsimp only at hu ⊢
    rw [onMsg_of_listens s p .extControl _ hl hu, if_neg (hnot _)]
    exact (Taken.of_listens hl hu).refuses

/-! Source capabilities (R110, R112). -/

theorem sourceCap_advertises (hu : s.unread p .getSourceCap = true) (hs : s.isSrc p = true) :
    ∃ t, execGetSourceCap p .spr s = .next t ∧ (t.port p).pe.nCaps = 1 ∧
      (t.port p).pe.caps = (s.adopt p).offerObjects p := by
  refine ⟨_, rfl, ?_⟩
  dsimp only
  rw [onMsg_of_listens s p .getSourceCap _ hl hu, take_isSrc, if_pos hs]
  have h := (Taken.of_listens hl hu).pe fun e => { e with nCaps := 0, capsDone := false }
  obtain ⟨img, hpe⟩ := sendCaps_pe ((s.take p .getSourceCap).pe p fun e => { e with nCaps := 0, capsDone := false }) p
  rw [h.drain_sendCaps, hpe, port_pe_self]
  refine ⟨rfl, ?_⟩
  have hstored : ((s.take p .getSourceCap).pe p fun e => { e with nCaps := 0, capsDone := false }).stored p =
      s.stored p := by
    rw [← take_stored s p .getSourceCap]
    unfold State.stored
    rw [port_pe_self]
  refine offerObjects_of_prof (adopt_prof_of_stored hstored rfl) rfl ?_
  rw [adopt_pe, adopt_pe, port_pe_self, take_port]

theorem sourceCap_refuses (hu : s.unread p .getSourceCap = true) (hs : s.isSrc p = false) (hr : s.rd CC.ROLE p = 2) :
    ∃ t, execGetSourceCap p .spr s = .next t ∧ Refuses p s t := by
  refine ⟨_, rfl, ?_⟩
  dsimp only
  rw [onMsg_of_listens s p .getSourceCap _ hl hu, take_isSrc, if_neg (by simp [hs]), take_rd, if_pos hr]
  exact (Taken.of_listens hl hu).refuses

theorem sourceCap_answers (hu : s.unread p .getSourceCap = true) (hs : s.isSrc p = false) (hr : s.rd CC.ROLE p ≠ 2) :
    ∃ t, execGetSourceCap p .spr s = .next t ∧
      Sends p .sourceCaps (.caps ((s.adopt p).sprObjects p) ((s.adopt p).offerFlags p)) s t := by
  refine ⟨_, rfl, ?_⟩
  have hprof := adopt_prof_of_stored (take_stored s p .getSourceCap) rfl
  dsimp only
  rw [onMsg_of_listens s p .getSourceCap _ hl hu, take_isSrc, if_neg (by simp [hs]), take_rd, if_neg hr,
    sprObjects_of_prof hprof rfl, offerFlags_of_prof hprof rfl]
  exact (Taken.of_listens hl hu).adopt.sends_plain .sourceCaps _ (by decide) (by decide)

theorem eprSourceCap_answers (hu : s.unread p .extControl = true)
    (hs : s.isSrc p = false ∨ s.on PD.EPR_MODE p = false) :
    ∃ t, execGetSourceCap p .epr s = .next t ∧ (s.rev2 p = true → Refuses p s t) ∧
      (s.rev2 p = false → (t.port p).phy.tx.map (fun f => (f.msg, f.body)) =
        some (.eprSourceCaps, .caps (pad7 (s.sprObjects p) ++ s.eprObjects p (s.on CC.EPR_CABLE p))
          (s.offerFlags p))) := by
  refine ⟨_, rfl, ?_⟩
  have hprof := take_prof s p .extControl
  have hlength : (pad7 (s.sprObjects p) ++ s.eprObjects p (s.on CC.EPR_CABLE p)).length ≤ 65 := by
    have hepr := eprObjects_length s p (s.on CC.EPR_CABLE p)
    rw [List.length_append, pad7_length _ (sprObjects_length s p)]
    omega
  dsimp only
  rw [onMsg_of_listens s p .extControl _ hl hu]
  rw [take_isSrc, take_on, if_neg (by rcases hs with hs | hs <;> simp [hs]), take_on, sprObjects_of_prof hprof rfl,
    eprObjects_of_prof hprof rfl, offerFlags_of_prof hprof rfl]
  exact (Taken.of_listens hl hu).answers3_caps .eprSourceCaps _ _ (by decide) hlength

theorem eprSourceCap_advertises (hu : s.unread p .extControl = true) (hs : s.isSrc p = true)
    (he : s.on PD.EPR_MODE p = true) :
    ∃ t, execGetSourceCap p .epr s = .next t ∧ (t.port p).pe.caps = (s.adopt p).offerObjects p := by
  refine ⟨_, rfl, ?_⟩
  have hprof := adopt_prof_of_stored (take_stored s p .extControl) rfl
  dsimp only
  rw [onMsg_of_listens s p .extControl _ hl hu]
  rw [take_isSrc, take_on, if_pos ⟨hs, he⟩, (Taken.of_listens hl hu).drain_sendCaps]
  obtain ⟨img, hpe⟩ := sendCaps_pe (s.take p .extControl) p
  rw [hpe]
  exact offerObjects_of_prof hprof rfl (by rw [adopt_pe, adopt_pe, take_pe])

end Queries

/-- Settles O11, by the answer to each query. -/
theorem messagesAreAnswered : Obligations.MessagesAreAnswered := by
  unfold Obligations.MessagesAreAnswered
  refine ⟨?refused, ?identity, ?vdm, ?attention, ?batteryCap, ?batteryStatus, ?manufacturer, ?sourceExt, ?pps,
    ?sourceInfo, ?revision, ?status, ?sinkCap, ?sinkExt, ?eprSink, ?noSink, ?source, ?noSource, ?dualRole, ?eprOffer,
    ?eprMode⟩
  case refused => exact fun p m s hl hu hr => refusedMessage_refuses hl m hu hr
  case identity => exact fun p s hl hu => discoverIdentity_acks hl hu
  case vdm => exact fun p s hl hu => structuredVdm_naks hl hu
  case attention => exact fun p s hl hu hw hd => attention_ignored hl hu hw hd
  case batteryCap => exact fun p s hl hu => batteryCap_answers hl hu
  case batteryStatus => exact fun p s hl hu => batteryStatus_answers hl hu
  case manufacturer => exact fun p s hl hu => manufacturerInfo_answers hl hu
  case sourceExt => exact fun p s hl hu => sourceCapExt_answers hl hu
  case pps => exact fun p s hl hu => ppsStatus_answers hl hu
  case sourceInfo => exact fun p s hl hu => sourceInfo_answers hl hu
  case revision => exact fun p s hl hu => revision_answers hl hu
  case status => exact fun p s hl hu => status_answers hl hu
  case sinkCap => exact fun p s hl hu hs => sinkCap_answers hl hu hs
  case sinkExt => exact fun p s hl hu hs => sinkCapExt_answers hl hu hs
  case eprSink => exact fun p s hl hu hs => eprSinkCap_answers hl hu hs
  case noSink => exact fun p q s hl hu hs => sinkCap_refuses hl q (by cases q <;> exact hu) hs
  case source => exact fun p s hl hu hs => sourceCap_advertises hl hu hs
  case noSource => exact fun p s hl hu hs hr => sourceCap_refuses hl hu hs hr
  case dualRole => exact fun p s hl hu hs hr => sourceCap_answers hl hu hs hr
  case eprOffer => exact fun p s hl hu hs => eprSourceCap_answers hl hu hs
  case eprMode => exact fun p s hl hu hs he => eprSourceCap_advertises hl hu hs he

end Sys2Proof.Machine
end

section
/-! PROOFS. Fast Role Swap, the island and the return to the feeds (R93, R174 to R186): what Fast Role Swap does to a port, that
a bank's firing on one port leaves the others alone, and O19. -/
set_option linter.all false

namespace Sys2Proof.Machine

/-! ## The in-flight flag of the cache (R103) -/

@[simp] theorem setInflight_rd (s : State) (p : Port) (f : Inflight) (F : Field) (i : Nat) :
    (s.setInflight p f).rd F i = s.rd F i := by
  unfold State.setInflight
  rw [sendCache_rd, State.pe_rd]

@[simp] theorem setInflight_swap (s : State) (p : Port) (f : Inflight) :
    ((s.setInflight p f).port p).swap = (s.port p).swap := by
  unfold State.setInflight
  obtain ⟨img, himg⟩ := sendCache_port (s.pe p fun e => { e with inflight := f }) p
  rw [himg, port_pe_self]

/-! ## The signal on a sink (R174, R176) -/

theorem frsSignalDetected_signals {s : State} {p : Port} (v : Nat) (hd : s.frsDetecting p = true)
    (hs : (s.port p).swap.step = .none ∨ (s.port p).swap.step = .requested) :
    ∃ t, execFrsSignalDetected p v s = .next t ∧ (t.port p).swap.step = .frsSink ∧ (t.port p).pe.await = .swap ∧
      t.rd PD.PD_STATE p = pdSwap ∧ t.rd LOOP.V_TARGET p = 5000 ∧ t.rd LOOP.I_FWD_LIM p = 3000 ∧
      t.rd LOOP.I_REV_LIM p = 0 := by
  have hfree : (s.port p).swap.step ∉ [.frsSink, .frsSinkAcc, .frsSinkPsRdy] := by
    rcases hs with h | h <;> rw [h] <;> decide
  refine ⟨_, rfl, ?_⟩
  rw [if_pos ⟨hd, hfree⟩]
  extract_lets s1 s2 s3
  generalize hw : (s3.swp p fun w => { w with step := SwapStep.frsSink, kind := .pr, byDev := true, acked := false }) = w
  generalize hu : (w.pe p fun e => { e with await := .swap, trans := none }) = u
  have hsent : Speaks p u (u.send p .frSwap .none) := (Speaks.refl p u).send _ _
  have hregs (F : Field) : u.rd F p = s3.rd F p := by rw [← hu, ← hw, State.pe_rd, State.swp_rd]
  refine ⟨?_, ?_, ?_, ?_, ?_, ?_⟩
  · rw [hsent.swap_eq, ← hu, port_pe_self, ← hw, port_swp_self]
  · rw [hsent.pe_eq, ← hu, port_pe_self]
  · rw [hsent.rd _ _ (by decide) (by decide), hregs]
    exact rd_wr_self _ PD.PD_STATE p pdSwap
  · rw [hsent.rd _ _ (by decide) (by decide), hregs]
    unfold s3 s2
    rw [rd_wr _ _ _ _ _ _ (by decide), rd_wr _ _ _ _ _ _ (by decide),
      setMode_rd _ _ _ _ _ (by decide) (by decide) (by decide) (by decide), rd_wr _ _ _ _ _ _ (by decide),
      rd_wr _ _ _ _ _ _ (by decide), rd_wr _ _ _ _ _ _ (by decide), rd_wr_self]
    rfl
  · rw [hsent.rd _ _ (by decide) (by decide), hregs]
    unfold s3 s2
    rw [rd_wr _ _ _ _ _ _ (by decide), rd_wr _ _ _ _ _ _ (by decide),
      setMode_rd _ _ _ _ _ (by decide) (by decide) (by decide) (by decide), rd_wr _ _ _ _ _ _ (by decide),
      rd_wr _ _ _ _ _ _ (by decide), rd_wr_self]
    rfl
  · rw [hsent.rd _ _ (by decide) (by decide), hregs]
    unfold s3
    rw [rd_wr _ _ _ _ _ _ (by decide), rd_wr_self]
    rfl

theorem frsSignalDetected_ignored {s : State} {p : Port} (v : Nat) (hd : s.frsDetecting p = false) :
    execFrsSignalDetected p v s = .next s := by
  unfold execFrsSignalDetected
  rw [if_neg (by simp [hd])]

/-! ## FR_Swap on a source that signalled (R179) -/

theorem becomeSink_rd (s : State) (p : Port) :
    (s.becomeSink p).rd CC.PWR_ROLE p = 2 ∧ (s.becomeSink p).rd CC.TC_STATE p = tcAttachedSnk := by
  unfold State.becomeSink
  rw [sendCache_rd, sendCache_rd, present_rd _ _ _ _ _ (by decide) (by decide),
    present_rd _ _ _ _ _ (by decide) (by decide)]
  refine ⟨?_, ?_⟩
  · rw [rd_wr _ _ _ _ _ _ (by decide), rd_wr _ _ _ _ _ _ (by decide), rd_wr_self]
    rfl
  · rw [rd_wr _ _ _ _ _ _ (by decide), rd_wr_self]
    rfl

theorem frSwap_accepts {s : State} {p : Port} (hs : (s.port p).swap.step = .frsSrc) (ht : s.takes p .frSwap = true) :
    ∃ t, execFrSwap p s = .next t ∧ (t.port p).swap.step = .frsSrcPsRdy ∧ t.rd CC.PWR_ROLE p = 2 ∧
      t.tc p = tcAttachedSnk := by
  refine ⟨_, rfl, ?_⟩
  rw [if_pos ⟨hs, ht⟩]
  generalize (s.take p .frSwap).send p .accept .none = u
  have hsent : Speaks p (u.becomeSink p) ((u.becomeSink p).send p .psRdy .none) := (Speaks.refl p _).send _ _
  obtain ⟨hrole, hstate⟩ := becomeSink_rd u p
  refine ⟨?_, ?_, ?_⟩
  · dsimp only
    rw [port_swp_self]
  · exact (hsent.rd CC.PWR_ROLE p (by decide) (by decide)).trans hrole
  · exact (hsent.rd CC.TC_STATE p (by decide) (by decide)).trans hstate

/-- On any other port that listens FR_Swap is refused at Revision 2.0, and a protocol error else (R93, R179). -/
theorem frSwap_unexpected {s : State} {p : Port} (hl : s.listens p = true) (hu : s.unread p .frSwap = true)
    (hs : (s.port p).swap.step ≠ .frsSrc) :
    ∃ t, execFrSwap p s = .next t ∧ (s.rev2 p = true → Refuses p s t) ∧
      (s.rev2 p = false → t.rd PD.PD_STATE p = pdSoftReset) := by
  have hrev : (s.take p .frSwap).rev2 p = s.rev2 p := rfl
  refine ⟨_, rfl, ?_⟩
  rw [if_neg (fun h => hs h.1), onMsg_of_listens s p .frSwap _ hl hu]
  refine ⟨fun h => ?_, fun h => ?_⟩
  · rw [if_pos (hrev.trans h)]
    exact (Taken.of_listens hl hu).refuses
  · rw [if_neg (by simp [hrev, h])]
    exact protocolError_resets s p .frSwap hl hu

/-! ## No FR_Swap follows the signal (R179) -/

theorem frsNoFrSwap_idles {s : State} {p : Port} (hs : (s.port p).swap.step = .frsSrc) :
    ∃ t, execFrsNoFrSwap p s = .next t ∧ (t.port p).swap.step = .none ∧ (t.port p).swap.idle = true ∧
      t.rd LOOP.I_REV_LIM p = 0 := by
  refine ⟨_, rfl, ?_⟩
  rw [if_pos hs]
  dsimp only
  refine ⟨?_, ?_, ?_⟩
  · rw [port_swp_self]
  · rw [port_swp_self]
  · rw [State.swp_rd, event_rd _ _ _ _ _ _ _ _ _ (by decide), rd_wr_self]
    rfl

theorem sendHardReset_pending (s : State) (p : Port) (ha : s.on CC.ATTACHED p = true) (hp : s.on PD.PD_EN p = true)
    (hsh : s.on PD.SHADOW p = false) (ht : s.carriedByTwill p = true) :
    ((s.sendHardReset p).port p).phy.hrPending = true := by
  unfold State.sendHardReset
  rw [if_neg (by simp [ha, hp, hsh, ht]), port_phy_self]

theorem frsNoFrSwap_resets {s : State} {p : Port} (hs : (s.port p).swap.step = .frsSrc)
    (ha : s.on CC.ATTACHED p = true) (hp : s.on PD.PD_EN p = true) (hsh : s.on PD.SHADOW p = false)
    (ht : s.carriedByTwill p = true) :
    ∃ t, execFrsNoFrSwap p s = .next t ∧ (t.port p).phy.hrPending = true := by
  refine ⟨_, rfl, ?_⟩
  rw [if_pos hs]
  dsimp only
  rw [port_swp_self]
  dsimp only
  obtain ⟨x, hx⟩ := event_port ((s.sendHardReset p).wr LOOP.I_REV_LIM p 0) EV.FRS_FAILED p 1 0 0 0 p
  rw [hx, State.wr_port]
  exact sendHardReset_pending s p ha hp hsh ht

/-! ## What a firing leaves of another port (R178 to R180) -/

/-- From `s` to `t` port `p` keeps its record and its registers, and the device what eligibility and ceilings ask of it. -/
structure Spares (p : Port) (s t : State) : Prop where
  port : t.port p = s.port p
  role : t.role = s.role
  islRole : t.islRole = s.islRole
  own : ∀ F : Field, maskOthers 0x200000480003400000400000140000 F = true → t.rd F p = s.rd F p
  dev : ∀ (F : Field) (i : Nat), maskSkips 0x200000480003400000400000140000 F = true → t.rd F i = s.rd F i
  shed : ∀ F : Field, F ∈ [BUDGET.VALID, BUDGET.SRC, BUDGET.I_SHED] → t.rd F p = s.rd F p

namespace Spares

variable {p : Port} {s t u : State}

theorem refl (p : Port) (s : State) : Spares p s s := ⟨rfl, rfl, rfl, fun _ _ => rfl, fun _ _ _ => rfl, fun _ _ => rfl⟩

theorem trans (a : Spares p s t) (b : Spares p t u) : Spares p s u :=
  ⟨b.port.trans a.port, b.role.trans a.role, b.islRole.trans a.islRole, fun F h => (b.own F h).trans (a.own F h),
    fun F i h => (b.dev F i h).trans (a.dev F i h), fun F h => (b.shed F h).trans (a.shed F h)⟩

theorem eligible (h : Spares p s t) : t.eligible p = s.eligible p := by
  have hown : t.ownsPorts = s.ownsPorts := by
    unfold State.ownsPorts State.on
    rw [h.dev PAIR.PAIR_STATE 0 (by decide), h.dev PAIR.OWN_IN_OK 0 (by decide)]
  have hprof : t.prof p = s.prof p := by
    unfold State.prof State.restrict State.on
    rw [h.port, h.dev SYS.RESTRICTED 0 (by decide)]
  unfold State.eligible State.isSrc State.explicit State.rev3 State.pol State.on
  rw [hown, hprof, h.role, h.own CC.ATTACHED (by decide), h.own CC.PWR_ROLE (by decide),
    h.own PD.CONTRACT (by decide), h.own PD.NEG_REV (by decide), h.own PD.EPR_MODE (by decide),
    h.own PD.PD_STATE (by decide), h.own PD.FRS_CURRENT (by decide), h.own PD.FRS_SIGNAL_EN (by decide)]

end Spares

theorem signalPort_rd (s : State) (q : Port) (F : Field) (i : Nat)
    (hF : maskSkips 0x200000480002400000000000140000 F = true) : (s.signalPort q).rd F i = s.rd F i :=
  (State.signalPort_within s q rfl (Within.refl _ q s)).rd F i hF

theorem busForm_rd (s : State) (q : Port) (F : Field) (i : Nat) (hF : maskSkips 0x80003000000000000000000 F = true) :
    (s.busForm q).rd F i = s.rd F i :=
  (State.busForm_within s q rfl (Within.refl _ q s)).rd F i hF

/-- A ceiling stands in its own port's words of the budget page. -/
theorem islandCeiling_shed (s : State) {p q : Port} (h : p ≠ q) (F : Field)
    (hF : F ∈ [BUDGET.VALID, BUDGET.SRC, BUDGET.I_SHED]) : (s.islandCeiling q).rd F p = s.rd F p := by
  have hinst (G : Field) : G.key p ≠ G.key q :=
    key_ne_inst G (by omega) (by omega) (Fin.val_ne_of_ne h)
  unfold State.islandCeiling
  simp only [List.mem_cons, List.not_mem_nil, or_false] at hF
  rw [State.swp_rd]
  rcases hF with rfl | rfl | rfl
  · rw [rd_wr _ _ _ _ _ _ (by decide), rd_wr _ _ _ _ _ _ (by decide), rd_wr _ _ _ _ _ _ (by decide)]
    exact rd_wr_ne _ _ _ _ _ _ (hinst _)
  · rw [rd_wr _ _ _ _ _ _ (by decide), rd_wr _ _ _ _ _ _ (by decide), rd_wr_ne _ _ _ _ _ _ (hinst _)]
    exact rd_wr _ _ _ _ _ _ (by decide)
  · rw [rd_wr _ _ _ _ _ _ (by decide), rd_wr_ne _ _ _ _ _ _ (hinst _), rd_wr _ _ _ _ _ _ (by decide)]
    exact rd_wr _ _ _ _ _ _ (by decide)

theorem firePort_shed (s : State) {p q : Port} (h : p ≠ q) (F : Field)
    (hF : F ∈ [BUDGET.VALID, BUDGET.SRC, BUDGET.I_SHED]) : (s.firePort q).rd F p = s.rd F p := by
  unfold State.firePort
  split
  · refine signalPort_rd s q F p ?_
    revert F
    decide
  · split
    · rfl
    · split
      · exact islandCeiling_shed s h F hF
      · split
        · refine busForm_rd s q F p ?_
          revert F
          decide
        · rfl

theorem firePort_spares (s : State) {p q : Port} (h : q ≠ p) : Spares p s (s.firePort q) := by
  have hw := State.firePort_within s q rfl (Within.refl 0x200000480003400000400000140000 q s)
  have hpq : p.val ≠ q.val := Fin.val_ne_of_ne h.symm
  exact ⟨hw.ports p rfl (.inr hpq), hw.role rfl, hw.islRole rfl, fun F hF => hw.rdOther F p hF (by omega) hpq,
    fun F i hF => hw.rd F i hF, fun F hF => firePort_shed s h.symm F hF⟩

/-- Firing ports other than `p` spares it. -/
theorem forPorts_spares (s : State) {p : Port} {l : List Port} (h : p ∉ l) : Spares p s (s.forPorts l State.firePort) := by
  induction l generalizing s with
  | nil => exact .refl p s
  | cons q l ih =>
    have hq : q ≠ p := fun e => h (e ▸ List.mem_cons_self)
    exact (firePort_spares s hq).trans (ih (s.firePort q) fun hm => h (List.mem_cons_of_mem q hm))

/-- Each port fires once, and the ports before and after it in the order spare it. -/
theorem firing_once (s : State) (p : Port) :
    ∃ u, Spares p s u ∧ Spares p (u.firePort p) (s.forPorts allPorts State.firePort) := by
  obtain ⟨before, after, hl⟩ := List.append_of_mem (List.mem_finRange p)
  have hnodup : (before ++ p :: after).Nodup := hl ▸ List.nodup_finRange 32
  obtain ⟨hb, ha⟩ : p ∉ before ∧ p ∉ after := by
    rw [List.nodup_middle, List.nodup_cons, List.mem_append] at hnodup
    exact not_or.mp hnodup.1
  refine ⟨s.forPorts before State.firePort, forPorts_spares s hb, ?_⟩
  have hall : s.forPorts allPorts State.firePort =
      ((s.forPorts before State.firePort).firePort p).forPorts after State.firePort := by
    unfold State.forPorts allPorts
    rw [hl, List.foldl_append, List.foldl_cons]
  rw [hall]
  exact forPorts_spares _ ha

/-! ## The island starts (R177, R180) -/

/-- The registers that the start and the end of an island write outside the ports and the rings. -/
def islandWrites : List Field := [FEED.ARMED, BUDGET.HOLD, IRQ_RAW BUDGET.page, IRQ_STAT BUDGET.page]

theorem reHold_leaves (s : State) : Leaves islandWrites 0x200000400000000000000000140000 s s.reHold :=
  ((Leaves.refl _ _ s).flag BUDGET.HOLD 0 _ (by decide)).level _ _ _ _ (by decide) (by decide)

theorem islandStart_footprint (s : State) (k : EvKind) (hk : k.ring ≠ .port) (n d4 d5 d6 d7 : Nat) :
    Within 0x200000400000000000000000140000 0 s (s.event k n d4 d5 d6 d7).tellIsland :=
  State.tellIsland_within _ rfl (State.event_sys s k n d4 d5 d6 d7 hk rfl (Within.refl _ 0 s))

theorem reHold_port (s : State) (p : Port) : s.reHold.port p = s.port p :=
  (State.reHold_within s rfl (Within.refl 0x600000000000 0 s)).ports p rfl (.inl rfl)

/-- What follows the firing of the ports: the bank is disarmed, offers are held, and the island is announced. -/
def State.startIsland (s : State) (since n1 n2 n3 : Nat) : State :=
  let s1 : State := { s.flag FEED.ARMED 0 false with island := some since, islandE := 0 }
  (s1.reHold.event EV.ISLAND_START 0xFF n1 n2 n3 0).tellIsland

theorem bankFires_starts (s : State) :
    ∃ n1 n2 n3, s.bankFires = (s.forPorts allPorts State.firePort).startIsland s.up n1 n2 n3 := ⟨_, _, _, rfl⟩

/-- The start of the island changes no register of a port, nor a port's record. -/
theorem startIsland_leaves (s : State) (since n1 n2 n3 : Nat) :
    Leaves islandWrites 0x200000400000000000000000140000 s (s.startIsland since n1 n2 n3) ∧
      ∀ p, (s.startIsland since n1 n2 n3).port p = s.port p := by
  unfold State.startIsland
  extract_lets disarmed s1
  have hs1 : Leaves islandWrites 0x200000400000000000000000140000 s s1 :=
    (Leaves.refl _ _ s).flag FEED.ARMED 0 false (by decide)
  have hend := islandStart_footprint s1.reHold EV.ISLAND_START (by decide) 0xFF n1 n2 n3 0
  refine ⟨(hs1.trans (reHold_leaves s1)).within hend, fun p => ?_⟩
  rw [hend.ports p rfl (.inl rfl), reHold_port]
  rfl

/-- The bank is disarmed, and the island begins. -/
theorem startIsland_island (s : State) (since n1 n2 n3 : Nat) :
    (s.startIsland since n1 n2 n3).on FEED.ARMED 0 = false ∧
      (s.startIsland since n1 n2 n3).island = some since ∧ (s.startIsland since n1 n2 n3).islandE = 0 ∧
      (s.startIsland since n1 n2 n3).islRole = s.islRole := by
  unfold State.startIsland
  extract_lets disarmed s1
  have hhold := State.reHold_within s1 rfl (Within.refl 0x600000000000 0 s1)
  have hend := islandStart_footprint s1.reHold EV.ISLAND_START (by decide) 0xFF n1 n2 n3 0
  refine ⟨?_, ?_, ?_, ?_⟩
  · rw [hend.on _ _ (by decide), hhold.on _ _ (by decide)]
    exact on_flag_self s FEED.ARMED 0 false (by decide)
  · rw [hend.island rfl, hhold.island rfl]
  · rw [hend.islandE rfl, hhold.islandE rfl]
  · rw [hend.islRole rfl, hhold.islRole rfl]
    rfl

theorem bankFires_island (s : State) : s.bankFires.on FEED.ARMED 0 = false ∧ s.bankFires.island = some s.up ∧
    s.bankFires.islandE = 0 ∧ s.bankFires.islRole = s.islRole := by
  have hports := State.forPorts_within (m := 0x200000503400000000400000140000) (p := 0) s allPorts State.firePort
    (fun t q h => State.firePort_all t q rfl h) (Within.refl _ 0 s)
  obtain ⟨n1, n2, n3, hstart⟩ := bankFires_starts s
  obtain ⟨harmed, hisl, he, hrole⟩ := startIsland_island (s.forPorts allPorts State.firePort) s.up n1 n2 n3
  rw [hstart]
  exact ⟨harmed, hisl, he, hrole.trans (hports.islRole rfl)⟩

/-- After every port has fired, the start of the island changes no port. -/
theorem bankFires_after (s : State) :
    Leaves islandWrites 0x200000400000000000000000140000 (s.forPorts allPorts State.firePort) s.bankFires ∧
      ∀ p, s.bankFires.port p = (s.forPorts allPorts State.firePort).port p := by
  obtain ⟨n1, n2, n3, hstart⟩ := bankFires_starts s
  rw [hstart]
  exact startIsland_leaves _ _ _ _ _

theorem bankFrsFire_starts {s : State} (ha : s.on FEED.ARMED 0 = true) (hr : s.role.bankFrs = true) :
    ∃ t, execBankFrsFire s = .next t ∧ t = State.bankFires { s with islRole := s.role } := by
  refine ⟨_, rfl, ?_⟩
  unfold State.bankFire
  rw [if_neg (by simp [ha, hr])]

theorem bankFrsFire_idle {s : State} (h : s.on FEED.ARMED 0 = false ∨ s.role.bankFrs = false) :
    execBankFrsFire s = .next s := by
  unfold execBankFrsFire State.bankFire
  rw [if_pos h]

/-! ## What the firing does to one port (R178 to R180) -/

theorem signalPort_signals (s : State) (p : Port) : ((s.signalPort p).port p).swap.step = .frsSrc ∧
    (s.signalPort p).rd LOOP.V_TARGET p = 4000 ∧ (s.signalPort p).rd LOOP.SLEW p = 30 ∧
    (s.signalPort p).rd LOOP.I_FWD_LIM p = 0 ∧
    (s.signalPort p).rd LOOP.I_REV_LIM p = frsMa (s.rd PD.FRS_CURRENT p) := by
  unfold State.signalPort
  extract_lets ma s1 s2
  have hregs (F : Field) (hF : F.apart PD.PD_STATE = true) :
      (((s2.setInflight p .swap).wr PD.PD_STATE p pdSwap).swp p fun w =>
        { w with step := .frsSrc, kind := .pr, byDev := true }).rd F p = s2.rd F p := by
    rw [State.swp_rd, rd_wr _ _ _ _ _ _ hF, setInflight_rd]
  refine ⟨by rw [port_swp_self], ?_, ?_, ?_, ?_⟩
  · rw [hregs _ (by decide)]
    unfold s2
    rw [rd_wr _ _ _ _ _ _ (by decide), rd_wr _ _ _ _ _ _ (by decide), rd_wr_self]
    rfl
  · rw [hregs _ (by decide)]
    exact rd_wr_self _ LOOP.SLEW p 30
  · rw [hregs _ (by decide)]
    unfold s2
    rw [rd_wr _ _ _ _ _ _ (by decide), rd_wr _ _ _ _ _ _ (by decide), rd_wr _ _ _ _ _ _ (by decide), rd_wr_self]
    rfl
  · rw [hregs _ (by decide)]
    unfold s2
    rw [rd_wr _ _ _ _ _ _ (by decide), rd_wr_self]
    have hma : ma < 2 ^ LOOP.I_REV_LIM.width := by
      unfold ma frsMa
      split <;> decide
    exact Nat.mod_eq_of_lt hma

theorem islandCeiling_caps (s : State) (p : Port) : (s.islandCeiling p).on BUDGET.VALID p = true ∧
    (s.islandCeiling p).rd BUDGET.SRC p = 1 ∧
    (s.islandCeiling p).rd BUDGET.I_SHED p = 100 * s.islRole.islShed.get p % 2 ^ BUDGET.I_SHED.width ∧
    ((s.islandCeiling p).port p).swap.ceilinged = true := by
  unfold State.islandCeiling
  rw [State.swp_on, State.swp_rd, State.swp_rd, port_swp_self]
  refine ⟨?_, ?_, ?_, rfl⟩
  · rw [on_wr _ _ _ _ _ _ (by decide), on_wr _ _ _ _ _ _ (by decide), on_wr _ _ _ _ _ _ (by decide)]
    exact on_flag_self s BUDGET.VALID p true (by decide)
  · rw [rd_wr _ _ _ _ _ _ (by decide), rd_wr _ _ _ _ _ _ (by decide), rd_wr_self]
    rfl
  · rw [rd_wr _ _ _ _ _ _ (by decide), rd_wr_self]

theorem bankFrsFire_signals {s : State} {p : Port} (ha : s.on FEED.ARMED 0 = true) (hr : s.role.bankFrs = true)
    (he : s.eligible p = true) :
    ∃ t, execBankFrsFire s = .next t ∧ (t.port p).swap.step = .frsSrc ∧ t.rd LOOP.V_TARGET p = 4000 ∧
      t.rd LOOP.SLEW p = 30 ∧ t.rd LOOP.I_FWD_LIM p = 0 ∧ t.rd LOOP.I_REV_LIM p = frsMa (s.rd PD.FRS_CURRENT p) := by
  obtain ⟨t, ht, hfires⟩ := bankFrsFire_starts ha hr
  obtain ⟨hregs, hport⟩ := bankFires_after { s with islRole := s.role }
  obtain ⟨u, hbefore, hafter⟩ := firing_once { s with islRole := s.role } p
  have hfire : u.firePort p = u.signalPort p := if_pos (hbefore.eligible.trans he)
  have hcur : u.rd PD.FRS_CURRENT p = s.rd PD.FRS_CURRENT p := hbefore.own _ (by decide)
  obtain ⟨hstep, hv, hslew, hfwd, hrev⟩ := signalPort_signals u p
  have hrd (F : Field) (hl : F.apartAll islandWrites = true)
      (hm : maskSkips 0x200000400000000000000000140000 F = true)
      (ho : maskOthers 0x200000480003400000400000140000 F = true) : t.rd F p = (u.signalPort p).rd F p := by
    rw [hfires, hregs F p hl hm, hafter.own F ho, hfire]
  refine ⟨t, ht, ?_, ?_, ?_, ?_, ?_⟩
  · rw [hfires, hport, hafter.port, hfire, hstep]
  · rw [hrd _ (by decide) (by decide) (by decide), hv]
  · rw [hrd _ (by decide) (by decide) (by decide), hslew]
  · rw [hrd _ (by decide) (by decide) (by decide), hfwd]
  · rw [hrd _ (by decide) (by decide) (by decide), hrev, hcur]

theorem bankFrsFire_ceilings {s : State} {p : Port} (ha : s.on FEED.ARMED 0 = true) (hr : s.role.bankFrs = true)
    (he : s.eligible p = false) (hpd : s.rd PD.PD_STATE p ≠ pdSwap) (hsrc : s.isSrc p = true) :
    ∃ t, execBankFrsFire s = .next t ∧ t.on BUDGET.VALID p = true ∧ t.rd BUDGET.SRC p = 1 ∧
      t.rd BUDGET.I_SHED p = 100 * s.role.islShed.get p % 2 ^ BUDGET.I_SHED.width ∧
      (t.port p).swap.ceilinged = true := by
  obtain ⟨t, ht, hfires⟩ := bankFrsFire_starts ha hr
  obtain ⟨hregs, hport⟩ := bankFires_after { s with islRole := s.role }
  obtain ⟨u, hbefore, hafter⟩ := firing_once { s with islRole := s.role } p
  have hnot : ¬ u.eligible p = true := by
    rw [hbefore.eligible]
    exact Bool.not_eq_true _ ▸ he
  have hstate : ¬ u.rd PD.PD_STATE p = pdSwap := by
    rw [hbefore.own _ (by decide)]
    exact hpd
  have hrole : u.isSrc p = true := by
    unfold State.isSrc State.on
    rw [hbefore.own _ (by decide), hbefore.own _ (by decide)]
    exact hsrc
  have hfire : u.firePort p = u.islandCeiling p := by
    unfold State.firePort
    rw [if_neg hnot, if_neg hstate, if_pos hrole]
  have hisl : u.islRole = s.role := hbefore.islRole
  obtain ⟨hvalid, hby, hshed, hceil⟩ := islandCeiling_caps u p
  have hrd (F : Field) (hl : F.apartAll islandWrites = true)
      (hm : maskSkips 0x200000400000000000000000140000 F = true)
      (ho : F ∈ [BUDGET.VALID, BUDGET.SRC, BUDGET.I_SHED]) : t.rd F p = (u.islandCeiling p).rd F p := by
    rw [hfires, hregs F p hl hm, hafter.shed F ho, hfire]
  refine ⟨t, ht, ?_, ?_, ?_, ?_⟩
  · unfold State.on at hvalid ⊢
    rw [hrd _ (by decide) (by decide) (by decide), hvalid]
  · rw [hrd _ (by decide) (by decide) (by decide), hby]
  · rw [hrd _ (by decide) (by decide) (by decide), hshed, hisl]
  · rw [hfires, hport, hafter.port, hfire, hceil]

/-! ## Arming, the end of the island, and the return (R177, R185, R186) -/

theorem bankFrsArm_arms {s : State} (h : s.mayArm = true) :
    ∃ t, execBankFrsArm s = .next t ∧ t.on FEED.ARMED 0 = true := by
  refine ⟨_, rfl, ?_⟩
  rw [if_pos h]
  exact on_flag_self s FEED.ARMED 0 true (by decide)

theorem islandEnd_ends {s : State} {x : Nat} (hi : s.island = some x) (hf : s.rd FEED.SEL 0 ≠ 0)
    (hb : s.busOk = true) : ∃ t, execIslandEnd s = .next t ∧ t.island = none := by
  refine ⟨_, rfl, ?_⟩
  rw [hi]
  show State.island (if s.rd FEED.SEL 0 = 0 ∨ s.busOk = false then s else _) = none
  rw [if_neg (by simp [hf, hb])]
  extract_lets s1 s2 s3
  have hhold : s2.island = none :=
    (State.reHold_within { s1 with island := none } rfl (Within.refl 0x600000000000 0 _)).island rfl
  have harm : s3.island = none := by
    unfold s3
    split
    · exact (State.flag_island s2 FEED.ARMED 0 true).trans hhold
    · exact hhold
  have htell := State.tellIsland_within s3 rfl (Within.refl 0x200000000000000000000000000000 0 s3)
  exact ((State.event_sys s3.tellIsland EV.ISLAND_END 0xFF _ _ 0 0 (by decide) rfl
    (Within.refl 0x400000000000000000140000 0 _)).island rfl).trans ((htell.island rfl).trans harm)

/-- A PR_Swap of the port's own has been asked for. -/
theorem sendOwnSwap_requests (s : State) (p : Port) (why : SwapWant) :
    ((s.sendOwnSwap p .pr why).port p).swap.step = .requested ∧ ((s.sendOwnSwap p .pr why).port p).swap.kind = .pr ∧
      ((s.sendOwnSwap p .pr why).port p).swap.byDev = true ∧ ((s.sendOwnSwap p .pr why).port p).pe.await = .swap ∧
      ((s.sendOwnSwap p .pr why).port p).swap.why = why := by
  unfold State.sendOwnSwap
  extract_lets s1 s2
  have hsent := (Speaks.refl p (s2.pe p fun e => { e with await := .swap })).sendAms (swapMsg .pr) .none
  rw [hsent.swap_eq, hsent.pe_eq, port_pe_self]
  have hswap : (s2.port p).swap = _ := congrArg PortSt.swap (port_swp_self s1 p _)
  dsimp only
  rw [hswap]
  exact ⟨rfl, rfl, rfl, rfl, rfl⟩

theorem returnSwap_requests {s : State} {p : Port} (h : s.nextReturn = some p) :
    ∃ t, execReturnSwap s = .next t ∧ (t.port p).swap.step = .requested ∧ (t.port p).swap.kind = .pr ∧
      (t.port p).swap.byDev = true ∧ (t.port p).pe.await = .swap ∧ (t.port p).swap.why = .ret ∧
      t.returnTick = some (s.rd BUDGET.TICK_CNT 0) := by
  obtain ⟨hstep, hkind, hdev, hawait, hwhy⟩ := sendOwnSwap_requests s p .ret
  refine ⟨_, rfl, ?_⟩
  rw [h]
  exact ⟨hstep, hkind, hdev, hawait, hwhy, rfl⟩

/-- Settles O19, clause by clause: Fast Role Swap on one port, the bank's firing, whose ports spare each other, and the end of
the island. -/
theorem busLossIslandsThePorts : Obligations.BusLossIslandsThePorts := by
  unfold Obligations.BusLossIslandsThePorts
  refine ⟨?signal, ?inactive, ?frSwap, ?unexpected, ?idles, ?resets, ?starts, ?signals, ?ceilings, ?idle, ?arms, ?ends,
    ?returns⟩
  case signal => exact fun p v s hd hs => frsSignalDetected_signals v hd hs
  case inactive => exact fun p v s hd => frsSignalDetected_ignored v hd
  case frSwap => exact fun p s hs ht => frSwap_accepts hs ht
  case unexpected => exact fun p s hl hu hs => frSwap_unexpected hl hu hs
  case idles => exact fun p s hs => frsNoFrSwap_idles hs
  case resets => exact fun p s hs ha hp hsh ht => frsNoFrSwap_resets hs ha hp hsh ht
  case starts =>
    intro s ha hr
    obtain ⟨t, ht, hfires⟩ := bankFrsFire_starts ha hr
    exact ⟨t, ht, hfires ▸ bankFires_island { s with islRole := s.role }⟩
  case signals => exact fun p s ha hr he => bankFrsFire_signals ha hr he
  case ceilings => exact fun p s ha hr he hpd hsrc => bankFrsFire_ceilings ha hr he hpd hsrc
  case idle => exact fun s h => bankFrsFire_idle h
  case arms => exact fun s h => bankFrsArm_arms h
  case ends => exact fun x s hi hf hb => islandEnd_ends hi hf hb
  case returns => exact fun p s h => returnSwap_requests h

end Sys2Proof.Machine
end

section
/-! PROOFS. A Request that a pair's owner rejects while its standby mirrors it (R84, R113, R469): O12. -/
set_option linter.all false

namespace Sys2Proof.Machine

/-- The owner of a pair, with Selvedge up and MIRROR_OK, is source on port 0 and has offered 5 V alone; the first Twill, which
carries the port, runs. -/
def mirroredSource : State :=
  let running : State := ({ State.reset with dev := .run } : State).wr CORE.STATE 1 enRun
  let source : State := ((running.flag CC.ATTACHED 0 true).wr CC.PWR_ROLE 0 1).pe 0 fun e =>
    { e with caps := [.fixed 5000 3000], nCaps := 1 }
  ((((source.wr PAIR.PAIR_STATE 0 psOwner).flag PAIR.OWNER 0 true).wr PAIR.LINK_STATE 0 lkUp).flag PAIR.MIRROR_OK 0 true)

/-- A Request for the second object, of which there is none. -/
def requestPastOffer : Rdo := ⟨2, 0, 100, false, false, false⟩

/-- Twill writes the request's flags to the cache, and the write goes to the standby; the Reject waits for the standby's
acknowledgement (R469) and has not reached the transmit buffer when the command ends. -/
theorem request_mirroredSource :
    ∃ t, execRequest 0 requestPastOffer mirroredSource = .next t ∧ (t.port 0).phy.tx = none ∧
      (t.port 0).phy.outbox = [(⟨.sop, .reject, 0, none, .none⟩, false)] :=
  ⟨_, rfl, by decide, by decide⟩

/-- Refutes O12: its clause on a rejected Request has the Reject in the transmit buffer at once. A pair's owner writes the cache
entry before it answers, and with MIRROR_OK the Reject waits until the standby has acknowledged that write (R84, R469). -/
theorem not_sourceContractsAreMade : ¬ Obligations.SourceContractsAreMade := by
  intro h
  obtain ⟨-, -, -, -, hrejects, -⟩ := h
  obtain ⟨t, ht, hsends⟩ := hrejects 0 requestPastOffer 1 mirroredSource (by decide) (by decide)
    (by decide) (by decide) (by decide)
  obtain ⟨u, hu, htx, -⟩ := request_mirroredSource
  obtain rfl : t = u := Host.Outcome.next.inj (ht.symm.trans hu)
  unfold Sends at hsends
  rw [htx] at hsends
  cases hsends

end Sys2Proof.Machine
end

section
/-! PROOFS. Contracts as sink (R116 to R119, R133): a request of Twill's own, what a contract leaves of a port's record, and O13. -/
set_option linter.all false

namespace Sys2Proof.Machine

/-! ## A port as sink -/

theorem isSnk_iff (s : State) (p : Port) :
    s.isSnk p = true ↔ s.on CC.ATTACHED p = true ∧ s.rd CC.PWR_ROLE p = 2 := by
  unfold State.isSnk
  rw [Bool.and_eq_true, beq_iff_eq]

theorem isSrc_of_role {s : State} {p : Port} (h : s.rd CC.PWR_ROLE p = 2) : s.isSrc p = false := by
  unfold State.isSrc
  rw [h]
  exact Bool.and_false _

theorem chunkFailed_of_whole {s : State} {p : Port} (h : (s.port p).phy.chunkTx = none) : s.chunkFailed p = s := by
  unfold State.chunkFailed
  rw [h]

theorem take_chunkFailed {s : State} {p : Port} (m : PdMsg) (h : (s.port p).phy.chunkTx = none) :
    (s.take p m).chunkFailed p = s.take p m :=
  chunkFailed_of_whole (by rw [take_port]; exact h)

/-! ## A request of Twill's own (R117) -/

/-- From `s` to `t` Twill has asked for contract `c` as sink and waits for the answer; of the registers PD_STATE and those of
sending change. -/
structure Asks (p : Port) (c : Contract) (s t : State) : Prop where
  pe : ∃ r x, (t.port p).pe = { (s.port p).pe with
    trans := some ⟨.accepted, s.rd LOOP.V_SP p, c, r⟩, await := .request, askAt := x }
  rx : (t.port p).phy.rx = (s.port p).phy.rx
  state : t.rd PD.PD_STATE p = pdNegotiating
  regs : Leaves (PD.PD_STATE :: sendWrites) 0 s t

theorem requestSink_asks (s : State) (p : Port) (c : Contract) (ams : Bool) : Asks p c s (s.requestSink p c ams) := by
  unfold State.requestSink
  extract_lets r s1 s2
  split
  next m copy _ =>
    have hsent : Speaks p s2 (s2.sendFrame p ⟨.sop, m, 0, none, .rdo r copy⟩ ams) := (Speaks.refl p s2).sendFrame _ _
    refine ⟨⟨r, none, ?_⟩, ?_, ?_, ?_⟩
    · rw [hsent.pe_eq]
      unfold s2 s1
      rw [State.wr_port, port_pe_self]
    · rw [hsent.rx_eq]
      unfold s2 s1
      rw [State.wr_port, port_pe_self]
    · rw [hsent.rd _ _ (by decide) (by decide)]
      exact rd_wr_self _ PD.PD_STATE p pdNegotiating
    · exact ((Leaves.refl _ 0 s).wr PD.PD_STATE p _ (by decide)).andThen hsent.regs (List.subset_cons_self _ _)

/-- A change of the time at which to ask again (R183). -/
theorem Asks.askAt {p : Port} {c : Contract} {s t : State} (h : Asks p c s t) (x : Option Nat) :
    Asks p c s (t.pe p fun e => { e with askAt := x }) := by
  obtain ⟨r, y, hpe⟩ := h.pe
  refine ⟨⟨r, x, ?_⟩, ?_, h.state, h.regs⟩
  · rw [port_pe_self]
    dsimp only
    rw [hpe]
  · rw [port_pe_self]
    exact h.rx

/-- A sink asks for some contract; outside an island for the one it chooses (R117, R183). -/
theorem askSink_asks (s : State) (p : Port) (l : List Pdo) :
    ∃ c, Asks p c s (s.askSink p l) ∧ (s.island = none → c = s.chooseSink p l) := by
  unfold State.askSink
  extract_lets c
  split
  next hbusy =>
    refine ⟨_, (requestSink_asks s p _ false).askAt _, fun hi => ?_⟩
    unfold State.islandBusy at hbusy
    simp [hi] at hbusy
  next => exact ⟨_, requestSink_asks s p c false, fun _ => rfl⟩

/-- While the request awaits its answer nothing else follows. -/
theorem Asks.drain {p : Port} {c : Contract} {s t : State} (h : Asks p c s t) (hrx : (s.port p).phy.rx = []) :
    t.drain p = t := by
  obtain ⟨r, x, hpe⟩ := h.pe
  exact drain_of_busy _ _ (h.rx.trans hrx) (by unfold State.pdQuiet; simp [hpe])

/-! ## Capabilities of the partner (R117) -/

/-- The choice follows from the profile in force and Loam's ceiling. -/
theorem chooseSink_of_prof {s u : State} {p : Port} (hp : u.prof p = s.prof p)
    (hi : u.rd LOOP.I_CEIL p = s.rd LOOP.I_CEIL p) (hw : u.rd LOOP.P_CEIL p = s.rd LOOP.P_CEIL p) (l : List Pdo) :
    u.chooseSink p l = s.chooseSink p l := by
  have hceil (mv : Nat) : u.snkCeil p mv = s.snkCeil p mv := by
    unfold State.snkCeil
    rw [hi, hw]
  have hcandidate (n : Nat) (o : Pdo) : u.snkCandidate p n o = s.snkCandidate p n o := by
    unfold State.snkCandidate
    rw [hp]
    simp only [hceil]
  unfold State.chooseSink State.sink5v
  simp only [hcandidate, hp]

/-- What a sink keeps of the capabilities before it answers them. -/
def State.keepCaps (s : State) (p : Port) (l : List Pdo) (f : CapFlags) : State :=
  let s1 := (s.pe p fun e => { e with caps := l, capsFlags := f, hr := .none }).phy p fun y => { y with hrOnly := false }
  ((s1.flag PD.UNCHUNKED_CAP p f.unchunked).flag PD.UNCHUNKED p
    (f.unchunked && s.on PD.UNCHUNKED_EN p && !s.rev2 p)).sendCache p

theorem keepCaps_port (s : State) (p : Port) (l : List Pdo) (f : CapFlags) : ∃ img, (s.keepCaps p l f).port p =
    { s.port p with
      pe := { (s.port p).pe with caps := l, capsFlags := f, hr := .none, cache := img, cacheOk := true }
      phy := { (s.port p).phy with hrOnly := false } } := by
  unfold State.keepCaps
  extract_lets s1
  obtain ⟨img, himg⟩ := sendCache_port ((s1.flag PD.UNCHUNKED_CAP p f.unchunked).flag PD.UNCHUNKED p
    (f.unchunked && s.on PD.UNCHUNKED_EN p && !s.rev2 p)) p
  have hs1 : s1.port p = _ := port_phy_self _ _ _
  refine ⟨img, ?_⟩
  rw [himg, State.flag_port, State.flag_port, hs1, port_pe_self]

theorem keepCaps_leaves (s : State) (p : Port) (l : List Pdo) (f : CapFlags) :
    Leaves [PD.UNCHUNKED_CAP, PD.UNCHUNKED] 0 s (s.keepCaps p l f) := by
  unfold State.keepCaps
  extract_lets s1
  have hs1 : Leaves [PD.UNCHUNKED_CAP, PD.UNCHUNKED] 0 s s1 := ((Leaves.refl _ 0 s).pe p _).phy p _
  exact ((hs1.flag _ _ _ (by decide)).flag _ _ _ (by decide)).sendCache p

theorem keepCaps_unchunked (s : State) (p : Port) (l : List Pdo) (f : CapFlags) :
    (s.keepCaps p l f).on PD.UNCHUNKED_CAP p = f.unchunked := by
  unfold State.keepCaps State.on
  rw [sendCache_rd, rd_flag _ _ _ _ _ _ (by decide)]
  exact on_flag_self _ PD.UNCHUNKED_CAP p f.unchunked (by decide)

theorem keepCaps_island (s : State) (p : Port) (l : List Pdo) (f : CapFlags) : (s.keepCaps p l f).island = s.island := by
  unfold State.keepCaps
  exact (State.sendCache_within _ p rfl (Within.refl 0x200000080000000000000000000000 p _)).island rfl

theorem keepCaps_chooseSink (s : State) (p : Port) (l : List Pdo) (f : CapFlags) :
    (s.keepCaps p l f).chooseSink p l = s.chooseSink p l := by
  have hregs := keepCaps_leaves s p l f
  refine chooseSink_of_prof ?_ (hregs _ _ (by decide) (by decide)) (hregs _ _ (by decide) (by decide)) l
  obtain ⟨img, hport⟩ := keepCaps_port s p l f
  unfold State.prof State.restrict
  rw [hport, hregs.on _ _ (by decide) (by decide)]

/-- A sink that listens keeps the capabilities and asks for a contract (R117). -/
theorem sourceCaps_asks {s : State} {p : Port} (l : List Pdo) (f : CapFlags) (hl : s.listens p = true)
    (hu : s.unread p (if s.on PD.EPR_MODE p then .eprSourceCaps else .sourceCaps) = true) (hs : s.isSnk p = true) :
    ∃ m c t, execSourceCapabilitiesReceived p l f s = .next t ∧ Asks p c ((s.take p m).keepCaps p l f) t ∧
      (s.island = none → c = s.chooseSink p l) := by
  generalize hm : (if s.on PD.EPR_MODE p then PdMsg.eprSourceCaps else .sourceCaps) = m at hu
  obtain ⟨c, hasks, hchosen⟩ := askSink_asks ((s.take p m).keepCaps p l f) p l
  refine ⟨m, c, _, ?_, hasks, fun hi => ?_⟩
  · have hrx : (((s.take p m).keepCaps p l f).port p).phy.rx = [] := by
      obtain ⟨img, hport⟩ := keepCaps_port (s.take p m) p l f
      rw [hport]
      exact take_rx_of_unread s p m hu
    have hsnk : (s.take p m).isSnk p = true := hs
    unfold execSourceCapabilitiesReceived
    rw [hm, onMsg_of_listens s p m _ hl hu, if_neg (by simp [hsnk])]
    exact congrArg Host.Outcome.next (hasks.drain hrx)
  · rw [hchosen ((keepCaps_island _ p l f).trans hi), keepCaps_chooseSink]
    exact chooseSink_of_prof (take_prof s p m) rfl rfl l

theorem sourceCaps_kept {s : State} {p : Port} (l : List Pdo) (f : CapFlags) (hl : s.listens p = true)
    (hu : s.unread p (if s.on PD.EPR_MODE p then .eprSourceCaps else .sourceCaps) = true) (hs : s.isSnk p = true) :
    ∃ t, execSourceCapabilitiesReceived p l f s = .next t ∧ (t.port p).pe.caps = l ∧ (t.port p).pe.capsFlags = f ∧
      (t.port p).pe.await = .request ∧ t.rd PD.PD_STATE p = pdNegotiating ∧ t.on PD.UNCHUNKED_CAP p = f.unchunked := by
  obtain ⟨m, c, t, ht, hasks, -⟩ := sourceCaps_asks l f hl hu hs
  obtain ⟨img, hport⟩ := keepCaps_port (s.take p m) p l f
  obtain ⟨r, x, hpe⟩ := hasks.pe
  rw [hport] at hpe
  refine ⟨t, ht, ?_, ?_, ?_, hasks.state, ?_⟩
  · rw [hpe]
  · rw [hpe]
  · rw [hpe]
  · rw [hasks.regs.on _ _ (by decide) (by decide), keepCaps_unchunked]

theorem sourceCaps_chosen {s : State} {p : Port} (l : List Pdo) (f : CapFlags) (hl : s.listens p = true)
    (hu : s.unread p (if s.on PD.EPR_MODE p then .eprSourceCaps else .sourceCaps) = true) (hs : s.isSnk p = true)
    (hi : s.island = none) : ∃ t, execSourceCapabilitiesReceived p l f s = .next t ∧
      (t.port p).pe.trans.map Trans.next = some (s.chooseSink p l) := by
  obtain ⟨m, c, t, ht, hasks, hchosen⟩ := sourceCaps_asks l f hl hu hs
  obtain ⟨r, x, hpe⟩ := hasks.pe
  refine ⟨t, ht, ?_⟩
  rw [hpe, hchosen hi]
  rfl

theorem sourceCaps_unexpected {s : State} {p : Port} (l : List Pdo) (f : CapFlags) (hl : s.listens p = true)
    (hu : s.unread p (if s.on PD.EPR_MODE p then .eprSourceCaps else .sourceCaps) = true) (hs : s.isSnk p = false) :
    ∃ t, execSourceCapabilitiesReceived p l f s = .next t ∧ t.rd PD.PD_STATE p = pdSoftReset := by
  refine ⟨_, rfl, ?_⟩
  rw [onMsg_of_listens s p _ _ hl hu]
  generalize (if s.on PD.EPR_MODE p then PdMsg.eprSourceCaps else .sourceCaps) = m at hu ⊢
  have hsnk : (s.take p m).isSnk p = false := hs
  rw [if_pos (by simp [hsnk])]
  exact protocolError_resets s p m hl hu

/-! ## Hard Reset, and ErrorRecovery after the last one (R118) -/

theorem sinkHardReset_pending {s : State} {p : Port} (ha : s.on CC.ATTACHED p = true) (hp : s.on PD.PD_EN p = true)
    (hsh : s.on PD.SHADOW p = false) (ht : s.carriedByTwill p = true) (hn : (s.port p).pe.hrCount < nHardResetCount) :
    ((s.sinkHardReset p).port p).phy.hrPending = true := by
  unfold State.sinkHardReset
  rw [if_neg (Nat.not_le.mpr hn)]
  exact sendHardReset_pending s p ha hp hsh ht

theorem sinkHardReset_detaches {s : State} {p : Port} (hn : nHardResetCount ≤ (s.port p).pe.hrCount) :
    (s.sinkHardReset p).on CC.ATTACHED p = false := by
  unfold State.sinkHardReset
  rw [if_pos hn]
  exact errorRecovery_detached s p

theorem waitCap_runs {s : State} {p : Port} (hs : s.isSnk p = true) (hw : s.rd PD.PD_STATE p = pdWaitCaps)
    (hp : s.on PD.PD_EN p = true) : execTTypecSinkWaitCapExpiry p s = .next (s.sinkHardReset p) :=
  congrArg Host.Outcome.next (if_pos ⟨hs, hp, hw⟩)

theorem psTransition_runs {s : State} {p : Port} {x : Trans} (v : Nat) (hs : s.isSnk p = true)
    (hx : (s.port p).pe.trans = some x) (hw : x.phase = .waiting) :
    execTPsTransitionExpiry p v s = .next ((s.event EV.TRANSITION_FAIL p x.fromMv x.next.mv v 2).sinkHardReset p) := by
  unfold execTPsTransitionExpiry
  rw [hx]
  exact congrArg Host.Outcome.next (if_pos ⟨hs, hw⟩)

theorem event_pe (s : State) (k : EvKind) (n d4 d5 d6 d7 : Nat) (p : Port) :
    ((s.event k n d4 d5 d6 d7).port p).pe = (s.port p).pe := by
  obtain ⟨x, hx⟩ := event_port s k n d4 d5 d6 d7 p
  rw [hx]

theorem event_carriedByTwill (s : State) (k : EvKind) (p : Port) (d4 d5 d6 d7 : Nat) :
    (s.event k p d4 d5 d6 d7).carriedByTwill p = s.carriedByTwill p :=
  carriedByTwill_of_core p (fun _ => event_rd _ _ _ _ _ _ _ _ _ (by decide)) fun _ => event_rd _ _ _ _ _ _ _ _ _ (by decide)

theorem psTransition_pending {s : State} {p : Port} {x : Trans} (v : Nat) (hs : s.isSnk p = true)
    (hx : (s.port p).pe.trans = some x) (hw : x.phase = .waiting) (hp : s.on PD.PD_EN p = true)
    (hsh : s.on PD.SHADOW p = false) (ht : s.carriedByTwill p = true) (hn : (s.port p).pe.hrCount < nHardResetCount) :
    ∃ t, execTPsTransitionExpiry p v s = .next t ∧ (t.port p).phy.hrPending = true := by
  obtain ⟨ha, -⟩ := (isSnk_iff s p).mp hs
  refine ⟨_, psTransition_runs v hs hx hw, sinkHardReset_pending ?_ ?_ ?_ ?_ ?_⟩
  · rw [event_on _ _ _ _ _ _ _ _ _ (by decide)]
    exact ha
  · rw [event_on _ _ _ _ _ _ _ _ _ (by decide)]
    exact hp
  · rw [event_on _ _ _ _ _ _ _ _ _ (by decide)]
    exact hsh
  · rw [event_carriedByTwill]
    exact ht
  · rw [event_pe]
    exact hn

/-! ## The Accept (R119) -/

/-- A sink whose request has been accepted: it waits for PS_RDY at the standby draw. -/
def State.acceptTaken (s : State) (p : Port) (x : Trans) : State :=
  (((s.take p .accept).pe p fun e => { e with trans := some { x with phase := .waiting }, await := .none }).wr
    LOOP.I_REV_LIM p (s.standbyDraw p x.next)).wr PD.PD_STATE p pdTransition

theorem acceptTaken_port (s : State) (p : Port) (x : Trans) :
    ((s.acceptTaken p x).port p).pe = { (s.port p).pe with trans := some { x with phase := .waiting }, await := .none } ∧
      ((s.acceptTaken p x).port p).phy = ((s.take p .accept).port p).phy := by
  unfold State.acceptTaken
  rw [State.wr_port, State.wr_port, port_pe_self, take_pe]
  exact ⟨rfl, rfl⟩

theorem acceptTaken_drain {s : State} {p : Port} (x : Trans) (hu : s.unread p .accept = true) :
    (s.acceptTaken p x).drain p = s.acceptTaken p x := by
  obtain ⟨hpe, hphy⟩ := acceptTaken_port s p x
  exact drain_of_busy _ p (by rw [hphy]; exact take_rx_of_unread s p .accept hu) (by unfold State.pdQuiet; simp [hpe])

theorem sinkAccept_runs {s : State} {p : Port} {x : Trans} (hs : s.isSnk p = true) (hx : (s.port p).pe.trans = some x)
    (ha : x.phase = .accepted) (ht : s.takes p .accept = true) (hu : s.unread p .accept = true)
    (hc : (s.port p).phy.chunkTx = none) : execSinkAcceptReceived p s = .next (s.acceptTaken p x) := by
  unfold execSinkAcceptReceived
  rw [hx]
  dsimp only
  rw [if_pos ⟨hs, ha, ht⟩, take_chunkFailed .accept hc]
  exact congrArg Host.Outcome.next (acceptTaken_drain x hu)

theorem sinkAccept_waits {s : State} {p : Port} {x : Trans} (hs : s.isSnk p = true) (hx : (s.port p).pe.trans = some x)
    (ha : x.phase = .accepted) (ht : s.takes p .accept = true) (hu : s.unread p .accept = true)
    (hc : (s.port p).phy.chunkTx = none) :
    ∃ t, execSinkAcceptReceived p s = .next t ∧ (t.port p).pe.trans = some { x with phase := .waiting } ∧
      (t.port p).pe.await = .none ∧ t.rd PD.PD_STATE p = pdTransition ∧
      t.rd LOOP.I_REV_LIM p = s.standbyDraw p x.next % 2 ^ LOOP.I_REV_LIM.width := by
  obtain ⟨hpe, -⟩ := acceptTaken_port s p x
  refine ⟨_, sinkAccept_runs hs hx ha ht hu hc, ?_, ?_, rd_wr_self _ PD.PD_STATE p pdTransition, ?_⟩
  · rw [hpe]
  · rw [hpe]
  · unfold State.acceptTaken
    rw [rd_wr _ _ _ _ _ _ (by decide), rd_wr_self]

/-! ## A session opens (R329): of a port's record only its session changes -/

/-- From `s` to `t` the record of port `p` changes in its session only. -/
def SessOnly (p : Port) (s t : State) : Prop := ∃ x, t.port p = { s.port p with sess := x }

namespace SessOnly

variable {p : Port} {s t u : State}

theorem refl (p : Port) (s : State) : SessOnly p s s := ⟨_, rfl⟩

theorem trans (a : SessOnly p s t) (b : SessOnly p t u) : SessOnly p s u := by
  obtain ⟨x, hx⟩ := a
  obtain ⟨y, hy⟩ := b
  exact ⟨y, by rw [hy, hx]⟩

theorem of_port (h : t.port p = s.port p) : SessOnly p s t := ⟨(s.port p).sess, h⟩

theorem wr (h : SessOnly p s t) (F : Field) (i v : Nat) : SessOnly p s (t.wr F i v) := h

theorem flag (h : SessOnly p s t) (F : Field) (i : Nat) (b : Bool) : SessOnly p s (t.flag F i b) := h

theorem sess (h : SessOnly p s t) (f : Session → Session) : SessOnly p s (t.sess p f) :=
  h.trans ⟨_, port_modPort_self t p _⟩

theorem event (s : State) (k : EvKind) (n d4 d5 d6 d7 : Nat) : SessOnly p s (s.event k n d4 d5 d6 d7) :=
  event_port s k n d4 d5 d6 d7 p

theorem modRecord (s : State) (slot : Nat) (f : LedRec → LedRec) : SessOnly p s (s.modRecord slot f) :=
  of_port ((State.modRecord_within s slot f rfl (Within.refl 0x300000000000000000002000000000 0 s)).ports p rfl (.inl rfl))

theorem gradeRecord (s : State) (q slot : Nat) (r : LedRec) : SessOnly p s (s.gradeRecord q slot r) :=
  of_port ((State.gradeRecord_within s q slot r rfl (Within.refl 0x300000400000000000003000140000 0 s)).ports p rfl (.inl rfl))

theorem journalDue (s : State) (slot : Nat) : SessOnly p s (s.journalDue slot) :=
  of_port ((State.journalDue_within s slot rfl (Within.refl 0x100000000000000000000000000000 0 s)).ports p rfl (.inl rfl))

theorem flushFaults (s : State) (p : Port) : SessOnly p s (s.flushFaults p) := by
  unfold State.flushFaults
  extract_lets x
  split
  · split
    · exact refl p s
    · exact (modRecord s _ _).sess _
  · exact refl p s

theorem credit (s : State) (p : Port) (out inn : Nat) : SessOnly p s (s.credit p out inn) := by
  unfold State.credit
  extract_lets s1
  have hs1 : SessOnly p s s1 := (refl p s).sess _
  split
  · exact hs1
  · split
    · exact hs1.trans (modRecord s1 _ _)
    · exact hs1

theorem creditGain (s : State) (p : Port) (n : Int) : SessOnly p s (s.creditGain p n) := by
  unfold State.creditGain
  extract_lets x d
  split
  · exact ((refl p s).sess _).trans (credit _ p _ _)
  · exact refl p s

theorem closeSession (s : State) (p : Port) : SessOnly p s (s.closeSession p) := by
  unfold State.closeSession
  extract_lets s0 x s1 s2 s3
  have hs0 : SessOnly p s s0 := (creditGain s p _).trans (flushFaults _ p)
  have hs1 : SessOnly p s0 s1 := by
    unfold s1
    split
    · split
      · exact (gradeRecord s0 _ _ _).trans (journalDue _ _)
      · exact refl p s0
    · exact refl p s0
  have hs2 : SessOnly p s1 s2 := event s1 _ _ _ _ _ _
  have hs3 : SessOnly p s2 s3 := (((((refl p s2).flag _ _ _).flag _ _ _).flag _ _ _).wr _ _ _).wr _ _ _
  exact ((hs0.trans (hs1.trans (hs2.trans hs3))).wr _ _ _).sess _

theorem openSession (s : State) (p : Port) : SessOnly p s (s.openSession p) := by
  unfold State.openSession
  split
  · exact refl p s
  · extract_lets s1
    have hs1 : SessOnly p s s1 := by
      unfold s1
      split
      · exact closeSession s p
      · exact refl p s
    exact (hs1.sess _).flag _ _ _

end SessOnly

/-! ## A contract comes into force (R103, R119) -/

theorem contractMade_port (s : State) (p : Port) (x : Trans) : ∃ img y, (s.contractMade p x).port p = { s.port p with
    pe := { (s.port p).pe with
      contract := some x.next, trans := none, rdo := some x.rdo, hrCount := 0
      ppsTimer := decide (x.next.kind = .pps), cache := img, cacheOk := true }
    sess := y } := by
  unfold State.contractMade
  extract_lets c s1 s2 u s3
  have hs1 : s1.port p = _ := port_pe_self s p _
  have hu : u.port p = s1.port p := by
    unfold u
    split <;> rfl
  obtain ⟨y, hy⟩ := event_port u EV.CONTRACT_MADE p (c.pos + 256 * c.kind.code) c.mv c.ma (c.mv * c.ma / 1000) p
  obtain ⟨img, himg⟩ := sendCache_port (s3.irq PD.page p PD.IRQ_CONTRACT) p
  obtain ⟨z, hz⟩ := SessOnly.openSession ((s3.irq PD.page p PD.IRQ_CONTRACT).sendCache p) p
  refine ⟨img, z, ?_⟩
  rw [hz, himg, State.irq_port, hy, hu, hs1]

theorem contractMade_explicit (s : State) (p : Port) (x : Trans) : (s.contractMade p x).rd PD.CONTRACT p = 2 := by
  unfold State.contractMade
  extract_lets c s1 s2 u s3
  have hs2 : s2.rd PD.CONTRACT p = 2 := by
    unfold s2
    rw [rd_wr _ _ _ _ _ _ (by decide), rd_flag _ _ _ _ _ _ (by decide), rd_wr_self]
    rfl
  have hu : u.rd PD.CONTRACT p = s2.rd PD.CONTRACT p := by
    unfold u
    split
    · exact rd_flag _ _ _ _ _ _ (by decide)
    · rfl
  rw [(State.openSession_within _ p rfl (Within.refl 0x300000580000000000007000140000 p _)).rd _ _ (by decide), sendCache_rd,
    rd_irq _ _ _ _ _ _ (by decide), event_rd _ _ _ _ _ _ _ _ _ (by decide), hu, hs2]

theorem contractMade_rd (s : State) (p : Port) (x : Trans) (F : Field) (i : Nat)
    (h : maskSkips 0x300000580010600000007000140000 F = true) : (s.contractMade p x).rd F i = s.rd F i :=
  (State.contractMade_within s p x rfl (Within.refl _ p s)).rd F i h

/-! ## What follows the contract (R68, R85, R118) -/

/-- The end of an AMS changes what a message of the port's own changes. -/
theorem Speaks.amsEnd {p : Port} {s t : State} (h : Speaks p s t) : Speaks p s (t.amsEnd p) := by
  have hended := (h.flag PD.AMS_ACTIVE p false (by decide)).phy (fun y => { y with ownAms := false }) rfl
  unfold State.amsEnd
  exact .ite ((hended.flag _ _ _ (by decide)).present _) hended

theorem readvIfWanted_of_sink {s : State} {p : Port} (h : s.isSrc p = false) : s.readvIfWanted p = s := by
  unfold State.readvIfWanted State.readvertise
  split
  · exact if_pos (by simp [h])
  · rfl

/-- With no message left a port that is no source ends its AMS at most. -/
theorem drain_speaks {s : State} {p : Port} (hrx : (s.port p).phy.rx = []) (hr : s.rd CC.PWR_ROLE p = 2) :
    Speaks p s (s.drain p) := by
  have hrest : s.drainRx p 5 = s := by
    unfold State.drainRx
    rw [hrx]
  unfold State.drain State.amsSettle
  rw [hrest]
  split
  · extract_lets s1
    have hs1 : Speaks p s s1 := .ite (Speaks.refl p s).amsEnd (.refl p s)
    have hsink : s1.isSrc p = false := isSrc_of_role ((hs1.rd _ _ (by decide) (by decide)).trans hr)
    rw [if_neg (by simp [isSrc_of_role hr]), readvIfWanted_of_sink hsink]
    exact hs1
  · exact .refl p s

/-- From `s` to `t` the port's contract, transition and receive slots stay, and all registers but those of sending. -/
structure KeepsContract (p : Port) (s t : State) : Prop where
  contract : (t.port p).pe.contract = (s.port p).pe.contract
  trans : (t.port p).pe.trans = (s.port p).pe.trans
  rx : (t.port p).phy.rx = (s.port p).phy.rx
  regs : Leaves sendWrites 0 s t

theorem KeepsContract.of_speaks {p : Port} {s t : State} (h : Speaks p s t) : KeepsContract p s t :=
  ⟨by rw [h.pe_eq], by rw [h.pe_eq], h.rx_eq, h.regs⟩

theorem KeepsContract.andThen {p : Port} {s t u : State} (a : KeepsContract p s t) (b : KeepsContract p t u) :
    KeepsContract p s u :=
  ⟨b.contract.trans a.contract, b.trans.trans a.trans, b.rx.trans a.rx, a.regs.trans b.regs⟩

theorem sinkEnterEpr_keeps (s : State) (p : Port) (b : Bool) : KeepsContract p s (s.sinkEnterEpr p b) := by
  unfold State.sinkEnterEpr
  split
  · have hask : KeepsContract p s (s.pe p fun e => { e with await := .eprEnter }) :=
      ⟨by rw [port_pe_self], by rw [port_pe_self], by rw [port_pe_self], (Leaves.refl _ 0 s).pe p _⟩
    exact hask.andThen (.of_speaks ((Speaks.refl p _).sendAms _ _))
  · exact .of_speaks (.refl p s)

/-! ## PS_RDY (R119) -/

/-- A sink that has taken PS_RDY: its current limit is the contract's, in steps of 50 mA, and the contract is in force. -/
def State.psRdyTaken (s : State) (p : Port) (x : Trans) : State :=
  ((((((s.take p .psRdy).wr LOOP.I_STEP p 5).wr LOOP.I_REV_LIM p (min 6000 x.next.ma)).wr LOOP.P_CON p
    (x.next.mv * x.next.ma / 100000)).pe p fun e => { e with firstDone := true }).contractMade p x)

theorem psRdyTaken_port (s : State) (p : Port) (x : Trans) :
    ((s.psRdyTaken p x).port p).pe.contract = some x.next ∧ ((s.psRdyTaken p x).port p).pe.trans = none ∧
      ((s.psRdyTaken p x).port p).phy = ((s.take p .psRdy).port p).phy := by
  obtain ⟨img, y, hport⟩ := contractMade_port ((((s.take p .psRdy).wr LOOP.I_STEP p 5).wr LOOP.I_REV_LIM p
    (min 6000 x.next.ma)).wr LOOP.P_CON p (x.next.mv * x.next.ma / 100000) |>.pe p fun e => { e with firstDone := true }) p x
  unfold State.psRdyTaken
  rw [hport, port_pe_self]
  exact ⟨rfl, rfl, rfl⟩

theorem psRdyTaken_rd (s : State) (p : Port) (x : Trans) :
    (s.psRdyTaken p x).rd LOOP.I_STEP p = 5 ∧
      (s.psRdyTaken p x).rd LOOP.I_REV_LIM p = min 6000 x.next.ma % 2 ^ LOOP.I_REV_LIM.width ∧
      (s.psRdyTaken p x).rd CC.PWR_ROLE p = s.rd CC.PWR_ROLE p := by
  unfold State.psRdyTaken
  refine ⟨?_, ?_, ?_⟩
  · rw [contractMade_rd _ _ _ _ _ (by decide), State.pe_rd, rd_wr _ _ _ _ _ _ (by decide), rd_wr _ _ _ _ _ _ (by decide),
      rd_wr_self]
    rfl
  · rw [contractMade_rd _ _ _ _ _ (by decide), State.pe_rd, rd_wr _ _ _ _ _ _ (by decide), rd_wr_self]
  · rw [contractMade_rd _ _ _ _ _ (by decide), State.pe_rd, rd_wr _ _ _ _ _ _ (by decide), rd_wr _ _ _ _ _ _ (by decide),
      rd_wr _ _ _ _ _ _ (by decide), take_rd]

theorem sinkPsRdy_runs {s : State} {p : Port} {x : Trans} (hs : s.isSnk p = true) (hx : (s.port p).pe.trans = some x)
    (hw : x.phase = .waiting) (ht : s.takes p .psRdy = true) (hc : (s.port p).phy.chunkTx = none) :
    execSinkPsRdyReceived p s = .next
      ((((s.psRdyTaken p x).amsEnd p).sinkEnterEpr p (!(s.port p).pe.firstDone)).drain p) := by
  unfold execSinkPsRdyReceived
  rw [hx]
  dsimp only
  rw [if_pos ⟨hs, hw, ht⟩, take_chunkFailed .psRdy hc]
  rfl

theorem sinkPsRdy_contracts {s : State} {p : Port} {x : Trans} (hs : s.isSnk p = true)
    (hx : (s.port p).pe.trans = some x) (hw : x.phase = .waiting) (ht : s.takes p .psRdy = true)
    (hu : s.unread p .psRdy = true) (hc : (s.port p).phy.chunkTx = none) :
    ∃ t, execSinkPsRdyReceived p s = .next t ∧ (t.port p).pe.contract = some x.next ∧ t.rd PD.CONTRACT p = 2 ∧
      (t.port p).pe.trans = none ∧ t.rd LOOP.I_STEP p = 5 ∧
      t.rd LOOP.I_REV_LIM p = min 6000 x.next.ma % 2 ^ LOOP.I_REV_LIM.width := by
  obtain ⟨-, hrole⟩ := (isSnk_iff s p).mp hs
  obtain ⟨hcontract, htrans, hphy⟩ := psRdyTaken_port s p x
  obtain ⟨hstep, hlimit, hkept⟩ := psRdyTaken_rd s p x
  have hentered : KeepsContract p (s.psRdyTaken p x)
      (((s.psRdyTaken p x).amsEnd p).sinkEnterEpr p (!(s.port p).pe.firstDone)) :=
    (KeepsContract.of_speaks (Speaks.refl p _).amsEnd).andThen (sinkEnterEpr_keeps _ p _)
  have hkeeps := hentered.andThen (.of_speaks (drain_speaks
    (hentered.rx.trans (hphy ▸ take_rx_of_unread s p .psRdy hu))
    ((hentered.regs _ _ (by decide) (by decide)).trans (hkept.trans hrole))))
  refine ⟨_, sinkPsRdy_runs hs hx hw ht hc, hkeeps.contract.trans hcontract, ?_, hkeeps.trans.trans htrans, ?_, ?_⟩
  · rw [hkeeps.regs _ _ (by decide) (by decide)]
    exact contractMade_explicit _ p x
  · rw [hkeeps.regs _ _ (by decide) (by decide), hstep]
  · rw [hkeeps.regs _ _ (by decide) (by decide), hlimit]

/-! ## Keeping the contract alive (R133) -/

theorem withdraw_of_free {s : State} {p : Port} (h : s.rd PD.TX_RESULT p ≠ txHeld) : s.withdraw p = s := by
  unfold State.withdraw
  split
  · exact if_neg fun hb => h hb.1
  · rfl

theorem keepaliveInterval_epr {s : State} {p : Port} (hs : s.isSnk p = true) (he : s.explicit p = true)
    (ht : (s.port p).pe.trans = none) (hr : s.rd PD.TX_RESULT p ≠ txHeld) (hm : s.on PD.EPR_MODE p = true) :
    ∃ t, execSinkKeepaliveInterval ⟨p, false, false⟩ s = .next t ∧ (t.port p).pe.await = .keepAliveAck := by
  refine ⟨(s.pe p fun e => { e with await := .keepAliveAck }).sendAms p .extControl (.ext .keepAlive), ?_, ?_⟩
  · unfold execSinkKeepaliveInterval
    dsimp only
    rw [if_neg (by simp [hs, he]), withdraw_of_free hr, if_neg (by decide), if_neg (by simp [ht]), if_neg (by decide),
      if_pos hm]
  · rw [((Speaks.refl p _).sendAms _ _).pe_eq, port_pe_self]

theorem keepaliveInterval_pps {s : State} {p : Port} {c : Contract} (hs : s.isSnk p = true) (he : s.explicit p = true)
    (ht : (s.port p).pe.trans = none) (hr : s.rd PD.TX_RESULT p ≠ txHeld) (hc : (s.port p).pe.contract = some c)
    (hk : c.kind = .pps) : ∃ t, execSinkKeepaliveInterval ⟨p, true, false⟩ s = .next t ∧ (t.port p).pe.await = .request ∧
      (t.port p).pe.trans.map Trans.next = some c := by
  obtain ⟨r, x, hpe⟩ := (requestSink_asks s p c true).pe
  refine ⟨s.requestSink p c true, ?_, ?_, ?_⟩
  · unfold execSinkKeepaliveInterval
    dsimp only
    rw [if_neg (by simp [hs, he]), withdraw_of_free hr, if_neg (by decide), if_neg (by simp [ht]), if_pos rfl, hc]
    dsimp only
    rw [if_pos hk]
  · rw [hpe]
  · rw [hpe]
    rfl

/-- Settles O13, clause by clause: the request in answer to capabilities, Hard Reset and ErrorRecovery, the Accept, PS_RDY, and
what keeps a contract alive. -/
theorem sinkContractsAreMade : Obligations.SinkContractsAreMade := by
  unfold Obligations.SinkContractsAreMade
  refine ⟨?kept, ?chosen, ?unexpected, ?waitCap, ?waitCapEnds, ?psTransition, ?psTransitionEnds, ?accept, ?psRdy, ?eprAlive,
    ?ppsAlive⟩
  case kept => exact fun p l f s hl hu hs => sourceCaps_kept l f hl hu hs
  case chosen => exact fun p l f s hl hu hs hi => sourceCaps_chosen l f hl hu hs hi
  case unexpected => exact fun p l f s hl hu hs => sourceCaps_unexpected l f hl hu hs
  case waitCap =>
    intro p s hs hw hp hsh ht hn
    obtain ⟨ha, -⟩ := (isSnk_iff s p).mp hs
    exact ⟨_, waitCap_runs hs hw hp, sinkHardReset_pending ha hp hsh ht hn⟩
  case waitCapEnds => exact fun p s hs hw hp hn => ⟨_, waitCap_runs hs hw hp, sinkHardReset_detaches hn⟩
  case psTransition => exact fun p x v s hs hx hw hp hsh ht hn => psTransition_pending v hs hx hw hp hsh ht hn
  case psTransitionEnds =>
    exact fun p x v s hs hx hw hn =>
      ⟨_, psTransition_runs v hs hx hw, sinkHardReset_detaches (by rw [event_pe]; exact hn)⟩
  case accept => exact fun p x s hs hx ha ht hu hc => sinkAccept_waits hs hx ha ht hu hc
  case psRdy => exact fun p x s hs hx hw ht hu hc => sinkPsRdy_contracts hs hx hw ht hu hc
  case eprAlive => exact fun p s hs he ht hr hm => keepaliveInterval_epr hs he ht hr hm
  case ppsAlive => exact fun p c s hs he ht hr hc hk => keepaliveInterval_pps hs he ht hr hc hk

end Sys2Proof.Machine
end

section
/-! PROOFS. Loam's own shed ceiling (R151, R153) where the register table holds more than a field's width: O16. -/
set_option linter.all false

namespace Sys2Proof.Machine

theorem sendUrgent_rd (s : State) (F : Field) (i : Nat) : s.sendUrgent.rd F i = s.rd F i := selReliable_rd s _ F i

/-- The ceiling's current bound, cut to its field: that of the ceiling it replaces, else 5 A (R150, R151). -/
theorem loamShed_current (s : State) (p : Port) : (s.loamShed p).rd BUDGET.I_SHED p =
    (if s.on BUDGET.VALID p then s.rd BUDGET.I_SHED p else 5000) % 2 ^ BUDGET.I_SHED.width := by
  unfold State.loamShed
  extract_lets ma s1
  rw [rd_irq _ _ _ _ _ _ (by decide), rd_bump _ _ _ _ _ (by decide)]
  unfold s1
  rw [rd_wr _ _ _ _ _ _ (by decide), rd_wr_self]

/-- FORCED_READV_SHED on a source whose contract exceeds its offer, with the current bound as the register's 13 bits hold it. -/
theorem forcedReadvShed_current {s : State} {p : Port} (hs : s.serves = true) (hf : (s.port p).bud.forced = true)
    (hsrc : s.isSrc p = true) (hb : s.belowContract p = true) (ha : s.aboveOffer p = true) :
    ∃ t, execForcedReadvShed p s = .next t ∧ t.rd BUDGET.I_SHED p =
      (if s.on BUDGET.VALID p then s.rd BUDGET.I_SHED p else 5000) % 2 ^ BUDGET.I_SHED.width := by
  refine ⟨_, congrArg Host.Outcome.next (if_pos ⟨hs, hf, hsrc, hb, ha⟩), ?_⟩
  rw [sendUrgent_rd, loamShed_current]

/-- A source in a contract of 15 W for which Loam now offers nothing, after a forced re-advertisement; it stands under a ceiling
of 1 W, and the table gives the 13 bits of that ceiling's I_SHED the value 2^13. -/
def shedPastWidth : State :=
  let running : State := ({ State.reset with dev := .run } : State).flag SYS.READY 0 true
  let source : State := ((running.flag CC.ATTACHED 0 true).wr CC.PWR_ROLE 0 1).pe 0 fun e =>
    { e with contract := some ⟨1, .fixed, 5000, 3000, 5000, .fixed 5000 3000⟩ }
  let shed : State := ((source.modPort 0 fun x => { x with bud := { x.bud with forced := true } }).flag BUDGET.VALID 0
    true).wr BUDGET.P_SHED 0 1
  { shed with regs := shed.regs.insert (BUDGET.I_SHED.key 0) (2 ^ BUDGET.I_SHED.width) }

theorem shedPastWidth_current : (if shedPastWidth.on BUDGET.VALID (0 : Port) then
    shedPastWidth.rd BUDGET.I_SHED (0 : Port) else 5000) = 2 ^ BUDGET.I_SHED.width := by
  decide

/-- Refutes O16: its clause on FORCED_READV_SHED has the new ceiling keep I_SHED as it reads, in every state, and asks nothing of
the register table. Where the table gives the field a value that no write to its 13 bits leaves there, the write that keeps it
cuts it (`forcedReadvShed_current` has the clause with the cut). -/
theorem not_budgetShedsAndReadvertises : ¬ Obligations.BudgetShedsAndReadvertises := by
  intro h
  obtain ⟨-, -, -, -, -, -, hforced, -⟩ := h
  obtain ⟨t, ht, -, -, -, hcurrent, -⟩ := hforced 0 shedPastWidth (by decide) (by decide) (by decide)
    (by decide) (by decide)
  obtain ⟨u, hu, hcut⟩ := forcedReadvShed_current (s := shedPastWidth) (p := 0) (by decide) (by decide)
    (by decide) (by decide) (by decide)
  obtain rfl : t = u := Host.Outcome.next.inj (ht.symm.trans hu)
  rw [hcurrent, shedPastWidth_current] at hcut
  exact absurd hcut (by decide)

end Sys2Proof.Machine
end

section
/-! PROOFS. NOP, GET_INFO and policy objects (R107, R160, R364 to R366): what an answered command leaves in ring 4, and O50. -/
set_option linter.all false

namespace Sys2Proof.Machine

/-! ## An answer written to ring 4 (R356, R363) -/

/-- A response for which ring 4 has room is appended there, with the ARG word given. -/
theorem respondArg_entries (s : State) (k : Packet) (st : Nat) (a : Word) (l : List Byte) (h : AwaitsResponse k l s) :
    ((s.respondArg k st a l).ring 4).entries = (s.ring 4).entries ++
      [.pkt { k with flags := BitVec.ofNat 8 st, arg := a, payload := l } ((s.ring 4).seq % 2 ^ 32)] := by
  obtain ⟨horigin, hflags, hroom⟩ := h
  have hpush := pushPacket_eq s 4 { k with flags := BitVec.ofNat 8 st, arg := a, payload := l } (Nat.not_lt.mpr hroom)
  unfold State.respondArg
  rw [if_neg (by omega)]
  split
  · next hsome => cases horigin.symm.trans hsome
  · rw [hpush]
    dsimp only
    rw [State.irq_ring, ring_setRing_self]

/-- An answer without payload, after steps that left ring 4 as it was. -/
theorem answer_responded {s t : State} {k : Packet} (st : Nat) (h : AwaitsResponse k [] s)
    (he : (t.ring 4).entries = (s.ring 4).entries) : Responded k st [] s (t.answer k st) :=
  (respond_responded t k st [] [] (h.of_entries he) rfl).of_entries he

theorem formed_of_ok (s : State) (k : Packet) (ok : Bool) (f : State → State) (h : ok = true) : s.formed k ok f = f s :=
  if_pos h

/-! ## What goes to the partner of a pair (R467) -/

theorem sendPolicy_footprint (s : State) (tgt : Nat) (l : List Byte) (p : Nat) :
    Within 0x200000000000000000000000000000 p s (s.sendPolicy tgt l) :=
  State.sendPolicy_within s tgt l rfl (Within.refl _ p s)

theorem sendPolicy_ring (s : State) (tgt : Nat) (l : List Byte) (q : Fin 40) : (s.sendPolicy tgt l).ring q = s.ring q := by
  unfold State.ring
  rw [(sendPolicy_footprint s tgt l 0).rings rfl]

/-! ## The commands -/

theorem nop_echoes {k : Packet} {s : State} (hs : s.serves = true) (h : AwaitsResponse k k.payload s) :
    ∃ t n, execNop k s = .next t ∧ (t.ring 4).entries = (s.ring 4).entries ++ [.pkt { k with flags := 0 } n] := by
  refine ⟨_, (s.ring 4).seq % 2 ^ 32, congrArg Host.Outcome.next (serve_of_serves s k _ hs), ?_⟩
  exact respondArg_entries s k stOK k.arg k.payload h

theorem getInfo_answers {k : Packet} {s : State} (hs : s.serves = true) (hc : k.chip = true) (hp : k.plain = true)
    (h : AwaitsResponse k s.info s) : ∃ t, execGetInfo k s = .next t ∧ Responded k stOK s.info s t := by
  refine ⟨_, congrArg Host.Outcome.next (serveInfo_of_serves s _ hs), ?_⟩
  unfold State.cmdGetInfo
  rw [formed_of_ok _ _ _ _ (by simp [hc, hp])]
  exact respond_responded s k stOK s.info s.info h rfl

theorem getPolicy_answers {k : Packet} {s : State} (hs : s.serves = true) (hp : k.plain = true)
    (ho : (objLen k.tgt).isSome = true) (ht : k.tgt ≠ 0x1FF) (hi : k.tgt ≠ 0x2FF)
    (h : AwaitsResponse k (s.objNow k.tgt) s) :
    ∃ t, execGetPolicy k s = .next t ∧ Responded k stOK (s.objNow k.tgt) s t := by
  refine ⟨_, congrArg Host.Outcome.next (serve_of_serves s k _ hs), ?_⟩
  unfold State.cmdGetPolicy
  rw [formed_of_ok _ _ _ _ (by simp [hp, ho, ht, hi])]
  exact respond_responded s k stOK _ _ h rfl

/-- A role table becomes the role policy; without BANK_FRS the bank is disarmed (R160). -/
theorem objApply_role (s : State) (l : List Byte) :
    (s.objApply 2 l).role = roleOf l ∧ (s.objApply 2 l).rings = s.rings := by
  unfold State.objApply
  rw [if_neg (by decide), if_pos rfl]
  dsimp only
  split <;> exact ⟨rfl, rfl⟩

theorem setPolicy_role {k : Packet} {s : State} (hs : s.serves = true) (ht : k.tgt = 2) (hn : k.len = 80) (ha : k.ar = 0)
    (hr : roleOk k.payload = true) (hb : s.standby = false) (h : AwaitsResponse k [] s)
    (hl : ((objPages 2).any fun x => s.on (LOCK x.1) x.2) = false) :
    ∃ t, execSetPolicy k s = .next t ∧ Responded k stOK [] s t ∧ t.role = roleOf k.payload := by
  refine ⟨_, congrArg Host.Outcome.next (serve_of_serves s k _ hs), ?_⟩
  have hstatus : s.objStatus 2 k.payload = stOK := by
    unfold State.objStatus
    rw [if_neg (by decide), if_pos rfl, if_pos hr]
  have hset : s.cmdSetPolicy k = ((s.objApply 2 k.payload).sendPolicy 2 k.payload).answer k stOK := by
    unfold State.cmdSetPolicy State.offStandby
    rw [ht, hn, ha, if_neg (by decide), if_neg (by simp [hb])]
    dsimp only
    rw [hl, hstatus, if_neg (by decide), if_neg (by decide), if_neg (by decide)]
  obtain ⟨hrole, hrings⟩ := objApply_role s k.payload
  rw [hset]
  refine ⟨answer_responded stOK h ?_, ?_⟩
  · rw [sendPolicy_ring]
    unfold State.ring
    rw [hrings]
  · exact ((respond_footprint _ k stOK [] 0).role rfl).trans (((sendPolicy_footprint _ 2 k.payload 0).role rfl).trans hrole)

/-- The stored profile waits for the port's next capabilities (R107). -/
theorem portSetProfile_stores {k : Packet} {p : Port} {f : Profile} {s : State} (hs : s.serves = true)
    (hown : s.ownsPorts = true) (hp : k.portOf = some p) (hn : k.len = 32) (hf : profileOf k.payload = some f)
    (h : AwaitsResponse k [] s) :
    ∃ t, execPortSetProfile k s = .next t ∧ Responded k stOK [] s t ∧ (t.port p).nextProfile = some f := by
  refine ⟨_, congrArg Host.Outcome.next (serve_of_serves s k _ hs), ?_⟩
  unfold State.cmdPortSetProfile State.onOwner
  rw [if_pos hown, hp, if_pos hn, hf]
  dsimp only
  refine ⟨answer_responded stOK h ?_, ?_⟩
  · rw [sendPolicy_ring]
    rfl
  · unfold State.answer
    rw [respond_port, (sendPolicy_footprint _ _ _ 0).ports p rfl (.inl rfl)]
    exact congrArg PortSt.nextProfile (port_modPort_self s p fun x => { x with nextProfile := some f, windowed := false })

/-- Settles O50, by the answer to each command. -/
theorem policyObjectsAreSetAndRead : Obligations.PolicyObjectsAreSetAndRead := by
  unfold Obligations.PolicyObjectsAreSetAndRead
  refine ⟨?nop, ?info, ?setRole, ?getPolicy, ?profile⟩
  case nop => exact fun k s hs h => nop_echoes hs h
  case info => exact fun k s hs hc hp h => getInfo_answers hs hc hp h
  case setRole => exact fun k s hs ht hn ha hr hb h hl => setPolicy_role hs ht hn ha hr hb h hl
  case getPolicy => exact fun k s hs hp ho ht hi h => getPolicy_answers hs hp ho ht hi h
  case profile => exact fun k p f s hs hown hp hn hf h => portSetProfile_stores hs hown hp hn hf h

end Sys2Proof.Machine
end

section
/-! PROOFS. PORT_DISABLE on a port that a PORT_SEND_VDM waits on (R370, R373): O51. -/
set_option linter.all false

namespace Sys2Proof.Machine

/-- PORT_SEND_VDM to port 0, under TAG 1, of a structured VDM that asks for Discover Identity on SOP. -/
def discoverVdm : Packet := ⟨1, 0, 0x16, 0, 0, [0x01, 0x80, 0x00, 0xFF], none⟩

/-- PORT_DISABLE of port 0, under TAG 2. -/
def disablePort0 : Packet := ⟨2, 0, 0x11, 0, 0, [], none⟩

/-- A member alone serves its rings; its port 0 is an attached source in an explicit contract, whose partner has still to answer
the host's VDM. -/
def vdmUnanswered : State :=
  let running : State := ({ State.reset with dev := .run } : State).flag SYS.READY 0 true
  let source : State := ((running.wrBit SYS.EN 0 0 true).flag CC.ATTACHED 0 true).wr CC.PWR_ROLE 0 1
  (source.wr PD.CONTRACT 0 2).pe 0 fun e => { e with await := .hostVdm discoverVdm }

theorem disablePort0_awaits : AwaitsResponse disablePort0 [] vdmUnanswered := ⟨rfl, rfl, by decide⟩

theorem vdmUnanswered_ring4 : (vdmUnanswered.ring 4).entries = [] := by decide

/-- The command writes two responses to ring 4: the end of the attachment answers the VDM with ABORTED (R373), and then
PORT_DISABLE is answered. -/
theorem portDisable_vdmUnanswered :
    ∃ t a b m n, execPortDisable disablePort0 vdmUnanswered = .next t ∧ (t.ring 4).entries =
      [.pkt { discoverVdm with flags := BitVec.ofNat 8 stABORTED, arg := a, payload := [] } m,
        .pkt { disablePort0 with flags := BitVec.ofNat 8 stOK, arg := b } n] :=
  ⟨_, _, _, _, _, rfl, rfl⟩

/-- Refutes O51: its clause on PORT_DISABLE has ring 4 gain the command's own response and no other, and asks nothing of what is
under way on the port. Where a PORT_SEND_VDM waits for its answer, the end of the attachment answers that command first (R373). -/
theorem not_portCommandsAct : ¬ Obligations.PortCommandsAct := by
  intro h
  obtain ⟨-, -, -, -, hdisables, -⟩ := h
  obtain ⟨t, ht, ⟨a, n, hone⟩, -⟩ := hdisables disablePort0 0 vdmUnanswered (by decide) (by decide) (by decide) (by decide)
    disablePort0_awaits
  obtain ⟨u, _, _, _, _, hu, htwo⟩ := portDisable_vdmUnanswered
  obtain rfl : t = u := Host.Outcome.next.inj (ht.symm.trans hu)
  rw [vdmUnanswered_ring4] at hone
  exact absurd (congrArg List.length (hone.symm.trans htwo)) (by simp)

end Sys2Proof.Machine
end

section
/-! PROOFS. A PR_Swap's Accept that is taken with another Accept behind it (R82, R134, R166): O18. -/
set_option linter.all false

namespace Sys2Proof.Machine

/-- A partner's Accept in a receive slot, two bytes long. -/
def acceptSlot : RxSlot := ⟨⟨.sop, .accept, 0, none, .none⟩, 2, 0⟩

/-- A sink in an explicit contract whose own Soft_Reset and PR_Swap have both been acknowledged and both accepted, with the two Accepts in its receive
slots; the first Twill, which carries the port, runs. -/
def twoAcceptsReceived : State :=
  let running : State := ({ State.reset with dev := .run } : State).wr CORE.STATE 1 enRun
  let sink : State := ((running.flag CC.ATTACHED 0 true).wr CC.PWR_ROLE 0 2).wr PD.CONTRACT 0 2
  ((sink.pe 0 fun e => { e with await := .swap, softResetSent := true }).swp 0 fun w =>
    { w with step := .requested, kind := .pr, byDev := true, acked := true }).phy 0 fun y =>
      { y with rx := [acceptSlot, acceptSlot] }

/-- PR_SWAP_SINK_ACCEPTED takes the first Accept for the swap; Twill then handles the second in the same command, as the answer
to its Soft_Reset, and waits for capabilities (R134). -/
theorem prSwapSinkAccepted_twoAcceptsReceived :
    ∃ t, execPrSwapSinkAccepted 0 twoAcceptsReceived = .next t ∧ t.rd PD.PD_STATE 0 = pdWaitCaps :=
  ⟨_, rfl, by decide +kernel⟩

/-- Refutes O18: its clause on PR_SWAP_SINK_ACCEPTED has PD_STATE in swap when the command ends, and asks nothing of the messages
behind the Accept. Where the Accept of a Soft_Reset of the port's own is next, Twill handles it in the same command (R82), and
PD_STATE is that of a sink that waits for capabilities (R134). -/
theorem not_powerSwapsChangeTheRoles : ¬ Obligations.PowerSwapsChangeTheRoles := by
  intro h
  obtain ⟨-, -, -, -, -, -, -, haccepted, -⟩ := h
  obtain ⟨t, ht, -, -, hswap, -⟩ := haccepted 0 twoAcceptsReceived (by decide) (by decide +kernel)
  obtain ⟨u, hu, hwaits⟩ := prSwapSinkAccepted_twoAcceptsReceived
  obtain rfl : t = u := Host.Outcome.next.inj (ht.symm.trans hu)
  exact absurd (hswap.symm.trans hwaits) (by decide)

end Sys2Proof.Machine
end

section
/-! PROOFS. Selection and trips of the cabinet feeds (R312 to R317): the registers that feed selection writes, what it leaves of
the feed that is on, and what a trip records. -/
set_option linter.all false

namespace Sys2Proof.Machine

/-! ## A feed's record and registers -/

@[simp] theorem feed_modFeed_self (s : State) (f : Feed) (g : FeedOne → FeedOne) :
    (s.modFeed f g).feed f = g (s.feed f) := by
  unfold State.feed State.modFeed
  simp only [Vector.get_eq_getElem]
  rw [Vector.getElem_set_self]

theorem feed_modFeed_ne (s : State) {f h : Feed} (g : FeedOne → FeedOne) (hne : f ≠ h) :
    (s.modFeed h g).feed f = s.feed f := by
  unfold State.feed State.modFeed
  simp only [Vector.get_eq_getElem]
  rw [Vector.getElem_set_ne _ _ (fun e => hne (Fin.ext e.symm))]

@[simp] theorem modFeed_rd (s : State) (f : Feed) (g : FeedOne → FeedOne) (F : Field) (i : Nat) :
    (s.modFeed f g).rd F i = s.rd F i := rfl

@[simp] theorem modFeed_on (s : State) (f : Feed) (g : FeedOne → FeedOne) (F : Field) (i : Nat) :
    (s.modFeed f g).on F i = s.on F i := rfl

theorem feed_of_feeds {s t : State} (h : t.feeds = s.feeds) (f : Feed) : t.feed f = s.feed f := by
  unfold State.feed
  rw [h]

@[simp] theorem feed_wr (s : State) (F : Field) (i v : Nat) (f : Feed) : (s.wr F i v).feed f = s.feed f := rfl

@[simp] theorem feed_flag (s : State) (F : Field) (i : Nat) (b : Bool) (f : Feed) :
    (s.flag F i b).feed f = s.feed f := rfl

theorem feed_other_ne (f : Feed) : f ≠ 1 - f := by
  revert f
  decide

theorem feed_other_other (f : Feed) : 1 - (1 - f) = f := by
  revert f
  decide

/-- A field written for one feed keeps its value for the other. -/
theorem rd_wr_otherFeed (s : State) (F : Field) {f h : Feed} (v : Nat) (hne : f ≠ h) :
    (s.wr F h v).rd F f = s.rd F f :=
  rd_wr_ne _ _ _ _ _ _ (key_ne_inst F (by omega) (by omega) (Fin.val_ne_of_ne hne))

theorem Leaves.modFeed {l : List Field} {m : Nat} {s t : State} (h : Leaves l m s t) (f : Feed) (g : FeedOne → FeedOne) :
    Leaves l m s (t.modFeed f g) := h

theorem Leaves.ofWithin {l : List Field} {m p : Nat} {s t : State} (w : Within m p s t) : Leaves l m s t :=
  (Leaves.refl l m s).within w

theorem Leaves.widen {l : List Field} {m m' : Nat} {s t : State} (h : Leaves l m' s t) (hm : m ||| m' = m) :
    Leaves l m s t := by
  intro F i hF hskip
  refine h F i hF ?_
  have hbit (b : Nat) (hb : (!m.testBit b) = true) : (!m'.testBit b) = true := by
    rw [← hm, Nat.testBit_or, Bool.not_or, Bool.and_eq_true] at hb
    exact hb.2
  unfold maskSkips at hskip ⊢
  simp only [Bool.and_eq_true] at hskip ⊢
  obtain ⟨⟨⟨hfield, hany⟩, hall⟩, hown⟩ := hskip
  exact ⟨⟨⟨hfield, hbit _ hany⟩, hbit _ hall⟩, hbit _ hown⟩

/-! ## What feed selection writes (R312 to R315) -/

/-- The registers that the start of a switchover or an insertion writes, but for those of the feeds. -/
def switchWrites : List Field :=
  [FEED.SEL, FEED.SWITCHING, BUDGET.HOLD, IRQ_RAW BUDGET.page, IRQ_STAT BUDGET.page]

/-- The registers that feed selection writes: those, and each feed's gate and state. -/
def selectWrites : List Field :=
  [FEED.FD_GATE_ON, FEED.FD_GATE_OFF, FEED.FD_AT_LIMIT, FEED.FD_STATE] ++ switchWrites

theorem feedHold_leaves (s : State) (v : Bool) : Leaves switchWrites 0 s (s.feedHold v) := by
  have hs : Leaves switchWrites 0 s { s with feeds := { s.feeds with holdFeed := v } } := .refl _ _ _
  exact (hs.flag BUDGET.HOLD 0 _ (by decide)).level BUDGET.page _ _ _ (by decide) (by decide)

theorem beginSwitch_leaves (s : State) (f : Feed) (cause : Nat) (inserting : Bool) :
    Leaves switchWrites 0 s (s.beginSwitch f cause inserting) := by
  unfold State.beginSwitch
  extract_lets started s1
  have hs1 : Leaves switchWrites 0 s s1 := .refl _ _ _
  exact ((hs1.wr FEED.SEL 0 _ (by decide)).flag FEED.SWITCHING 0 _ (by decide)).trans (feedHold_leaves _ _)

theorem chargeGate_leaves (s : State) (f : Feed) (step : FeedStep) : Leaves selectWrites 0 s (s.chargeGate f step) :=
  (((Leaves.refl _ _ s).modFeed _ _).wr FEED.FD_STATE _ _ (by decide)).flag FEED.FD_GATE_OFF _ _ (by decide)

theorem restFeed_leaves (s : State) (f : Feed) : Leaves [FEED.FD_STATE] 0 s (s.restFeed f) :=
  .ite (.refl _ _ s) ((Leaves.refl _ _ s).wr FEED.FD_STATE _ _ (by decide))

theorem restFeed_otherState (s : State) {f h : Feed} (hne : f ≠ h) :
    (s.restFeed h).rd FEED.FD_STATE f = s.rd FEED.FD_STATE f := by
  unfold State.restFeed
  split
  · rfl
  · exact rd_wr_otherFeed s _ _ hne

theorem feedGateOff_leaves (s : State) (f : Feed) :
    Leaves [FEED.FD_GATE_ON, FEED.FD_GATE_OFF, FEED.FD_AT_LIMIT] 0 s (s.feedGateOff f) :=
  ((((Leaves.refl _ _ s).modFeed _ _).flag FEED.FD_GATE_ON _ _ (by decide)).flag FEED.FD_GATE_OFF _ _ (by decide)).flag
    FEED.FD_AT_LIMIT _ _ (by decide)

theorem feedOpen_leaves (s : State) (f : Feed) : Leaves selectWrites 0 s (s.feedOpen f) := by
  have hoff : Leaves selectWrites 0 s (s.feedGateOff f) := (feedGateOff_leaves s f).mono (by decide)
  exact Leaves.andThen (.ite (hoff.wr FEED.SEL 0 0 (by decide)) hoff) (restFeed_leaves _ f) (by decide)

theorem switchTo_leaves (s : State) (f : Feed) (cause : Nat) : Leaves selectWrites 0 s (s.switchTo f cause) := by
  have hoff : Leaves selectWrites 0 s (s.flag FEED.FD_GATE_ON (1 - f) false) :=
    (Leaves.refl _ _ s).flag FEED.FD_GATE_ON _ _ (by decide)
  exact .ite (.refl _ _ s) ((hoff.andThen (beginSwitch_leaves _ f cause false) (by decide)).trans (chargeGate_leaves _ f _))

theorem insert_leaves (s : State) (f : Feed) (cause : Nat) : Leaves selectWrites 0 s (s.insert f cause) := by
  have hbegin : Leaves selectWrites 0 s (s.beginSwitch f cause true) := (beginSwitch_leaves s f cause true).mono (by decide)
  exact .ite (.ite (hbegin.trans (chargeGate_leaves _ f _)) (hbegin.modFeed f _)) (.refl _ _ s)

/-- Whether an AUTO_RETURN waits for the end of a switchover or an insertion (R312). -/
def State.setReturnDue (s : State) (b : Bool) : State := { s with feeds := { s.feeds with returnDue := b } }

@[simp] theorem setReturnDue_rd (s : State) (b : Bool) (F : Field) (i : Nat) :
    (s.setReturnDue b).rd F i = s.rd F i := rfl

@[simp] theorem setReturnDue_on (s : State) (b : Bool) (F : Field) (i : Nat) :
    (s.setReturnDue b).on F i = s.on F i := rfl

/-- What feed selection makes of a state: it lets the feeds be, starts a switchover or an insertion, or opens both feeds. -/
inductive Selection (s : State) : State → Prop
  | rest : Selection s s
  | switchTo (f : Feed) (cause : Nat) : Selection s (s.switchTo f cause)
  | insert (f : Feed) (cause : Nat) : Selection s (s.insert f cause)
  | openBoth : Selection s s.openBoth

theorem select_selects (s0 : State) (cause : Nat) : ∃ b, Selection (s0.setReturnDue b) (s0.select cause) := by
  unfold State.select
  extract_lets started s
  obtain ⟨b, hs⟩ : ∃ b, s = s0.setReturnDue b := by
    unfold s
    split
    · exact ⟨s0.feeds.returnDue, rfl⟩
    · exact ⟨false, rfl⟩
  refine ⟨b, ?_⟩
  rw [hs]
  split
  · exact .rest
  split
  · exact .switchTo _ _
  split
  · split
    · split
      · exact .insert _ _
      · exact .rest
    · split
      · exact .switchTo _ _
      · exact .rest
  · exact .openBoth
  · extract_lets f
    split
    · exact .rest
    split
    · exact .insert _ _
    split
    · exact .switchTo _ _
    · exact .rest

theorem select_leaves (s : State) (cause : Nat) : Leaves selectWrites 0 s (s.select cause) := by
  obtain ⟨b, h⟩ := select_selects s cause
  have hs : Leaves selectWrites 0 s (s.setReturnDue b) := .refl _ _ _
  generalize s.select cause = t at h ⊢
  cases h with
  | rest => exact hs
  | switchTo f k => exact hs.trans (switchTo_leaves _ f k)
  | insert f k => exact hs.trans (insert_leaves _ f k)
  | openBoth => exact (hs.trans (feedOpen_leaves _ 0)).trans (feedOpen_leaves _ 1)

/-! ## Selection beside a feed that is on (R312) -/

/-- The feed that SEL names. -/
theorem feedOfSel (f : Feed) : (if f.val + 1 = 1 then (0 : Feed) else 1) = f := by
  revert f
  decide

theorem selected_iff (s : State) (f : Feed) : s.selected f = true ↔ s.rd FEED.SEL 0 = f.val + 1 := beq_iff_eq

/-- With FORCE 0 a selected feed gives way to the other one only. -/
theorem select_besideSelected {s : State} {f : Feed} (cause : Nat) (hidle : s.on FEED.SWITCHING 0 = false)
    (hforce : s.rd FEED.FORCE 0 = 0) (hsel : s.rd FEED.SEL 0 = f.val + 1) :
    s.select cause = s.setReturnDue false ∨ ∃ k, s.select cause = (s.setReturnDue false).switchTo (1 - f) k := by
  unfold State.select
  extract_lets started t g
  have ht : t = s.setReturnDue false := if_neg (Bool.eq_false_iff.mp hidle)
  have hg : g = f := by
    unfold g
    rw [ht, setReturnDue_rd, hsel, feedOfSel]
  rw [ht, hg]
  simp only [setReturnDue_rd, setReturnDue_on, hidle, hforce, hsel, Nat.succ_ne_zero, if_false, Bool.false_eq_true]
  split
  next hreturn =>
    have hpref : (s.setReturnDue false).prefFeed = 1 - f := by
      simp only [State.returnsFeed, Bool.and_eq_true] at hreturn
      obtain ⟨-, hother⟩ := hreturn.2
      rw [selected_iff, setReturnDue_rd, hsel] at hother
      have hf : f = 1 - (s.setReturnDue false).prefFeed := Fin.ext (Nat.succ.inj hother)
      rw [hf, feed_other_other]
    rw [hpref]
    exact .inr ⟨_, rfl⟩
  next =>
    split
    · exact .inr ⟨_, rfl⟩
    · exact .inl rfl

/-- The hold is noted, and nothing but registers follows it. -/
theorem feedHold_within (s : State) (v : Bool) :
    Within 0x600000000000 0 { s with feeds := { s.feeds with holdFeed := v } } (s.feedHold v) :=
  State.reHold_within _ rfl (Within.refl _ 0 _)

theorem feedHold_holdFeed (s : State) (v : Bool) : (s.feedHold v).feeds.holdFeed = v := by
  rw [(feedHold_within s v).feeds rfl]

theorem feedHold_bud (s : State) (v : Bool) : (s.feedHold v).bud = s.bud := (feedHold_within s v).bud rfl

theorem feedHold_feed (s : State) (v : Bool) (f : Feed) : (s.feedHold v).feed f = s.feed f := by
  unfold State.feed
  rw [(feedHold_within s v).feeds rfl]

theorem beginSwitch_feed (s : State) (f h : Feed) (cause : Nat) (inserting : Bool) :
    (s.beginSwitch f cause inserting).feed h = s.feed h := by
  unfold State.beginSwitch
  rw [feedHold_feed]
  rfl

/-- The start of a switchover to a feed leaves the other feed's closure, state and limit flag. -/
theorem switchTo_keepsOther (s : State) (f : Feed) (cause : Nat) :
    (s.switchTo (1 - f) cause).rd FEED.FD_STATE f = s.rd FEED.FD_STATE f ∧
      (s.switchTo (1 - f) cause).on FEED.FD_AT_LIMIT f = s.on FEED.FD_AT_LIMIT f ∧
      (s.switchTo (1 - f) cause).feed f = s.feed f := by
  unfold State.switchTo
  split
  · exact ⟨rfl, rfl, rfl⟩
  unfold State.chargeGate
  refine ⟨?_, ?_, ?_⟩
  · rw [rd_flag _ _ _ _ _ _ (by decide), rd_wr_otherFeed _ _ _ (feed_other_ne f), modFeed_rd,
      beginSwitch_leaves _ _ _ _ FEED.FD_STATE _ (by decide) (by decide), rd_flag _ _ _ _ _ _ (by decide)]
  · rw [on_flag _ _ _ _ _ _ (by decide), on_wr _ _ _ _ _ _ (by decide), modFeed_on,
      (beginSwitch_leaves _ _ _ _).on FEED.FD_AT_LIMIT _ (by decide) (by decide), on_flag _ _ _ _ _ _ (by decide)]
  · rw [feed_flag, feed_wr, feed_modFeed_ne _ _ (feed_other_ne f), beginSwitch_feed, feed_flag]

/-! ## Trips (R316, R317) -/

/-- The registers that a trip writes of its feed. -/
def tripMarks : List Field :=
  [FEED.FD_GATE_ON, FEED.FD_GATE_OFF, FEED.FD_AT_LIMIT, FEED.FD_STATE, FEED.FD_CAUSE, FEED.FD_RETRIES, FEED.FD_HEALTHY]

/-- The registers that are written once a trip has been counted: its causes of interrupt, and what feed selection writes. -/
def tripEndWrites : List Field := [IRQ_STAT FEED.page, FEED.FORCE] ++ selectWrites

/-- The areas of the event rings that belong to no port (R328, R359). -/
abbrev ringAreas : Nat := 0x400000000000000000140000

/-- `t` follows a trip that stands recorded in `u`, and has counted it. -/
abbrev FollowsTrip (u t : State) : Prop := Leaves tripEndWrites ringAreas (u.bump FEED.FEED_TRIP_CNT 0) t

/-- A trip marks its feed, is counted, and is told; then feed selection goes on. -/
theorem feedTripped_steps (s : State) (f : Feed) (c : FeedCause) (off : Bool) (i : Int) :
    ∃ u, Leaves tripMarks 0 s u ∧ u.rd FEED.FD_CAUSE f = c.code ∧ u.on FEED.FD_HEALTHY f = false ∧
      FollowsTrip u (s.feedTripped f c off i) := by
  unfold State.feedTripped
  extract_lets ts old new closing s1 s2 s3 s4 latched s5 s6 s7
  have hs1 : Leaves tripMarks 0 s s1 := ((feedGateOff_leaves s f).mono (by decide)).flag _ _ _ (by decide)
  have hs2 : Leaves tripMarks 0 s s2 :=
    ((hs1.wr _ _ _ (by decide)).wr _ _ _ (by decide)).wr _ _ _ (by decide)
  have hcode : c.code < 2 ^ FEED.FD_CAUSE.width := by cases c <;> decide
  refine ⟨s3, hs2.flag FEED.FD_HEALTHY f false (by decide), ?_, on_flag_self s2 FEED.FD_HEALTHY f false (by decide), ?_⟩
  · unfold s3 s2
    rw [modFeed_rd, rd_flag _ _ _ _ _ _ (by decide), rd_wr _ _ _ _ _ _ (by decide), rd_wr_self, Nat.mod_eq_of_lt hcode]
  · have hs4 : FollowsTrip s3 s4 :=
      ((Leaves.refl _ _ _).within (State.eventSev_sys _ _ _ _ _ _ _ _ (by decide) rfl (Within.refl _ 0 _))).irq _ _ _
        (by decide)
    have hs5 : FollowsTrip s3 s5 := .ite (hs4.irq _ _ _ (by decide)) (.ite (hs4.irq _ _ _ (by decide)) hs4)
    have hs6 : FollowsTrip s3 s6 := .ite (hs5.wr _ _ _ (by decide)) hs5
    have hs7 : FollowsTrip s3 s7 := .ite (hs6.flag _ _ _ (by decide)) hs6
    have hforce : FollowsTrip s3 (s7.unforce f) := .ite (hs7.wr _ _ _ (by decide)) hs7
    exact hforce.andThen (select_leaves (s7.unforce f) 2) (by decide)

theorem feedTrip_leaves (s : State) (f : Feed) (c : FeedCause) (off : Bool) (i : Int) :
    Leaves (FEED.FEED_TRIP_CNT :: tripMarks ++ tripEndWrites) ringAreas s (s.feedTrip f c off i) := by
  obtain ⟨u, hmarks, -, -, hend⟩ := feedTripped_steps s f c off i
  exact .ite (.refl _ _ s)
    ((((hmarks.anyMask _).mono (by decide)).bump FEED.FEED_TRIP_CNT 0 (by decide)).trans (hend.mono (by decide)))

/-- From `s` to `t` a trip of the feed was recorded: its cause stands, the feed's health is gone, and the trip is counted. -/
def TripRecorded (f : Feed) (c : FeedCause) (s t : State) : Prop :=
  t.rd FEED.FD_CAUSE f = c.code ∧ t.on FEED.FD_HEALTHY f = false ∧
    t.rd FEED.FEED_TRIP_CNT 0 = min (s.rd FEED.FEED_TRIP_CNT 0 + 1) (2 ^ 32 - 1)

/-- A trip is counted on from any state with the same count. -/
theorem TripRecorded.from_eq {f : Feed} {c : FeedCause} {s s' t : State} (h : TripRecorded f c s' t)
    (hc : s'.rd FEED.FEED_TRIP_CNT 0 = s.rd FEED.FEED_TRIP_CNT 0) : TripRecorded f c s t := by
  obtain ⟨hcause, hhealth, hcount⟩ := h
  exact ⟨hcause, hhealth, hc ▸ hcount⟩

theorem feedTrip_trips {s : State} {f : Feed} (c : FeedCause) (off : Bool) (i : Int)
    (h : s.rd FEED.FD_STATE f ≠ fYielded) : TripRecorded f c s (s.feedTrip f c off i) := by
  obtain ⟨u, hmarks, hcause, hhealth, hend⟩ := feedTripped_steps s f c off i
  rw [show s.feedTrip f c off i = s.feedTripped f c off i from if_neg h]
  refine ⟨?_, ?_, ?_⟩
  · rw [hend _ _ (by decide) (by decide), rd_bump _ _ _ _ _ (by decide), hcause]
  · rw [hend.on _ _ (by decide) (by decide), on_bump _ _ _ _ _ (by decide), hhealth]
  · rw [hend _ _ (by decide) (by decide), rd_bump_self, hmarks _ _ (by decide) (by decide)]
    rfl

end Sys2Proof.Machine
end

section
/-! PROOFS. Switchover and insertion of the cabinet feeds (R313 to R315): what the observations of a closure do in each of its
steps. -/
set_option linter.all false

namespace Sys2Proof.Machine

/-! ## The feed that is incoming -/

theorem incoming_selected {s : State} {f : Feed} (h : s.incoming = some f) : s.rd FEED.SEL 0 = f.val + 1 := by
  unfold State.incoming at h
  split at h
  · split at h
    next hsel =>
      cases h
      exact hsel
    next =>
      split at h
      next hsel =>
        cases h
        exact hsel
      next => cases h
  · cases h

section Idle

variable {s : State}

theorem switchover_noIncoming (a b : Bool) (h : s.incoming = none) : execSwitchover a b s = .next s := by
  unfold execSwitchover
  rw [h]

theorem gapExpiry_noIncoming (h : s.incoming = none) : execGapExpiry s = .next s := by
  unfold execGapExpiry
  rw [h]

theorem hotInsertion_noIncoming (e : InsertEv) (h : s.incoming = none) : execHotInsertion e s = .next s := by
  unfold execHotInsertion
  rw [h]

theorem feedOn_noIncoming (h : s.incoming = none) : execFeedOn s = .next s := by
  unfold execFeedOn
  rw [h]

end Idle

/-! ## Both feeds of a switchover -/

/-- The outgoing feed's gate reads off (R313 step 2). -/
def State.outgoingOff (s : State) (f : Feed) : State := (s.feedGateOff (1 - f)).restFeed (1 - f)

/-- The incoming feed is opened again, and none is selected (R313 step 2). -/
def State.switchGivenUp (s : State) (f : Feed) : State := (((s.feedGateOff f).endSwitch).wr FEED.SEL 0 0).restFeed f

theorem outgoingOff_shows (s : State) (f : Feed) : (s.outgoingOff f).on FEED.FD_GATE_OFF (1 - f).val = true ∧
    (s.outgoingOff f).on FEED.FD_GATE_ON (1 - f).val = false := by
  unfold State.outgoingOff
  rw [(restFeed_leaves _ _).on _ _ (by decide) (by decide), (restFeed_leaves _ _).on _ _ (by decide) (by decide)]
  unfold State.feedGateOff
  constructor
  · rw [on_flag _ _ _ _ _ _ (by decide), on_flag_self _ _ _ _ (by decide)]
  · rw [on_flag _ _ _ _ _ _ (by decide), on_flag _ _ _ _ _ _ (by decide), on_flag_self _ _ _ _ (by decide)]

/-- The feed that the outgoing one gives way to keeps its state, and no trip is counted. -/
theorem outgoingOff_keeps (s : State) (f : Feed) :
    (s.outgoingOff f).rd FEED.FD_STATE f = s.rd FEED.FD_STATE f ∧
      (s.outgoingOff f).rd FEED.FEED_TRIP_CNT 0 = s.rd FEED.FEED_TRIP_CNT 0 := by
  have hoff := feedGateOff_leaves s (1 - f)
  unfold State.outgoingOff
  constructor
  · rw [restFeed_otherState _ (feed_other_ne f), hoff _ _ (by decide) (by decide)]
  · rw [restFeed_leaves _ _ _ _ (by decide) (by decide), hoff _ _ (by decide) (by decide)]

/-- The outgoing feed keeps its state, and no trip is counted. -/
theorem switchGivenUp_keeps (s : State) (f : Feed) :
    (s.switchGivenUp f).rd FEED.FD_STATE (1 - f).val = s.rd FEED.FD_STATE (1 - f).val ∧
      (s.switchGivenUp f).rd FEED.FEED_TRIP_CNT 0 = s.rd FEED.FEED_TRIP_CNT 0 := by
  have hopen : Leaves [FEED.FD_GATE_ON, FEED.FD_GATE_OFF, FEED.FD_AT_LIMIT, FEED.SWITCHING, FEED.SEL] 0 s
      (((s.feedGateOff f).endSwitch).wr FEED.SEL 0 0) :=
    (((feedGateOff_leaves s f).mono (by decide)).flag FEED.SWITCHING 0 false (by decide)).wr FEED.SEL 0 0 (by decide)
  unfold State.switchGivenUp
  constructor
  · rw [restFeed_otherState _ (feed_other_ne f).symm, hopen _ _ (by decide) (by decide)]
  · rw [restFeed_leaves _ _ _ _ (by decide) (by decide), hopen _ _ (by decide) (by decide)]

/-! ## The end of a closure (R314) -/

/-- What ends a closure in one of its steps, and the cause of the trip that follows (*Hot insertion*). -/
inductive MissedDeadline : FeedStep → InsertEv → FeedCause → Prop
  | mark : MissedDeadline .gate .markMissed .fetDamaged
  | ramp : MissedDeadline .ramp .rampOut .rampFail
  | gate : MissedDeadline .enhance .gateMissed .fetDamaged

/-- A feed whose closure has ended with its gate at 7.0 V. -/
def State.feedNowOn (s : State) (f : Feed) : State :=
  ((((s.modFeed f fun x => { x with step := .none }).wr FEED.FD_STATE f fOn).flag FEED.FD_GATE_ON f true).flag
    FEED.FD_AT_LIMIT f false).endSwitch

theorem feedNowOn_leaves (s : State) (f : Feed) :
    Leaves [FEED.FD_STATE, FEED.FD_GATE_ON, FEED.FD_AT_LIMIT, FEED.SWITCHING] 0 s (s.feedNowOn f) :=
  (((((Leaves.refl _ _ s).modFeed f _).wr _ _ _ (by decide)).flag _ _ _ (by decide)).flag _ _ _ (by decide)).flag _ _ _
    (by decide)

theorem feedNowOn_shows (s : State) (f : Feed) : (s.feedNowOn f).rd FEED.FD_STATE f = fOn ∧
    (s.feedNowOn f).on FEED.FD_AT_LIMIT f = false ∧ ((s.feedNowOn f).feed f).step = .none ∧
    (s.feedNowOn f).on FEED.SWITCHING 0 = false := by
  unfold State.feedNowOn State.endSwitch
  refine ⟨?_, ?_, ?_, ?_⟩
  · rw [rd_flag _ _ _ _ _ _ (by decide), rd_flag _ _ _ _ _ _ (by decide), rd_flag _ _ _ _ _ _ (by decide), rd_wr_self]
    rfl
  · rw [on_flag _ _ _ _ _ _ (by decide), on_flag_self _ _ _ _ (by decide)]
  · rw [feed_flag, feed_flag, feed_flag, feed_wr, feed_modFeed_self]
  · exact on_flag_self _ _ _ _ (by decide)

/-- A closure that has ended is counted and told (R328). -/
def State.closureTold (s : State) (f : Feed) : State :=
  ((if s.feeds.inserting then s.bump FEED.INSERT_CNT 0 else s.bump FEED.SWITCH_CNT 0).feedEvent EV.FEED_SWITCH (f.val + 1)
    s.feeds.cause s.feeds.busLow).irq FEED.page 0 FEED.IRQ_SWITCH

theorem closureTold_leaves (s : State) (f : Feed) :
    Leaves [FEED.INSERT_CNT, FEED.SWITCH_CNT, IRQ_STAT FEED.page] 0x500000000000000000140000 s (s.closureTold f) :=
  Leaves.irq (.within (.ite ((Leaves.refl _ _ s).bump _ _ (by decide)) ((Leaves.refl _ _ s).bump _ _ (by decide)))
    (State.feedEvent_within _ _ _ _ _ rfl (Within.refl _ 0 _))) _ _ _ (by decide)

theorem closureTold_feed (s : State) (f h : Feed) : (s.closureTold f).feed h = s.feed h := by
  have hcount : (if s.feeds.inserting then s.bump FEED.INSERT_CNT 0 else s.bump FEED.SWITCH_CNT 0).feeds = s.feeds := by
    split <;> rfl
  have htell := State.feedEvent_within (if s.feeds.inserting then s.bump FEED.INSERT_CNT 0 else s.bump FEED.SWITCH_CNT 0)
    EV.FEED_SWITCH (f.val + 1) s.feeds.cause s.feeds.busLow rfl (Within.refl 0x500000000000000000140000 0 _)
  exact feed_of_feeds ((htell.feeds rfl).trans hcount) h

/-- An insertion counts in INSERT_CNT, a switchover in SWITCH_CNT; the other counter stays. -/
theorem closureTold_counts (s : State) (f : Feed) :
    (s.closureTold f).rd FEED.INSERT_CNT 0 = (if s.feeds.inserting then min (s.rd FEED.INSERT_CNT 0 + 1) (2 ^ 32 - 1)
      else s.rd FEED.INSERT_CNT 0) ∧
    (s.closureTold f).rd FEED.SWITCH_CNT 0 = (if s.feeds.inserting then s.rd FEED.SWITCH_CNT 0
      else min (s.rd FEED.SWITCH_CNT 0 + 1) (2 ^ 32 - 1)) := by
  have htell (u : State) := State.feedEvent_within u EV.FEED_SWITCH (f.val + 1) s.feeds.cause s.feeds.busLow rfl
    (Within.refl 0x500000000000000000140000 0 u)
  unfold State.closureTold
  rw [rd_irq _ _ _ _ _ _ (by decide), rd_irq _ _ _ _ _ _ (by decide), (htell _).rd _ _ (by decide),
    (htell _).rd _ _ (by decide)]
  split
  · exact ⟨rd_bump_self s FEED.INSERT_CNT 0, rd_bump _ _ _ _ _ (by decide)⟩
  · exact ⟨rd_bump _ _ _ _ _ (by decide), rd_bump_self s FEED.SWITCH_CNT 0⟩

section Incoming

variable {s : State} {f : Feed} (hi : s.incoming = some f)
include hi

theorem switchover_otherStep (a b : Bool) (h : (s.feed f).step ≠ .charge) : execSwitchover a b s = .next s := by
  unfold execSwitchover
  rw [hi]
  exact congrArg _ (if_pos h)

theorem gapExpiry_otherStep (h : (s.feed f).step ≠ .gap) : execGapExpiry s = .next s := by
  unfold execGapExpiry
  rw [hi]
  exact congrArg _ (if_neg h)

theorem feedOn_otherStep (h : (s.feed f).step ≠ .enhance) : execFeedOn s = .next s := by
  unfold execFeedOn
  rw [hi]
  exact congrArg _ (if_pos h)

theorem hotInsertion_otherStep (e : InsertEv) (hg : (s.feed f).step ≠ .gate) (hr : (s.feed f).step ≠ .ramp)
    (he : (s.feed f).step ≠ .enhance) : execHotInsertion e s = .next s := by
  unfold execHotInsertion
  rw [hi]
  dsimp only
  cases hstep : (s.feed f).step with
  | gate => exact absurd hstep hg
  | ramp => exact absurd hstep hr
  | enhance => exact absurd hstep he
  | none => rfl
  | charge => rfl
  | gap => rfl
  | check => rfl

/-! ## Switchover (R313) -/

theorem switchover_eq (a b : Bool) (hs : (s.feed f).step = .charge) : execSwitchover a b s =
    .next (if a = false then (s.switchGivenUp f).feedTrip (1 - f) .fetDamaged false (s.rdI FEED.FD_I_FEED (1 - f))
      else if b = false then (s.outgoingOff f).feedTrip f .fetDamaged true (s.rdI FEED.FD_I_FEED f)
      else (s.outgoingOff f).modFeed f fun x => { x with step := .gap }) := by
  unfold execSwitchover State.outgoingOff State.switchGivenUp
  rw [hi]
  dsimp only
  rw [if_neg (not_not.mpr hs)]

/-- The outgoing gate reads off and the incoming one has met its mark. -/
theorem switchover_waitsForGap (hs : (s.feed f).step = .charge) :
    ∃ t, execSwitchover true true s = .next t ∧ t.on FEED.FD_GATE_OFF (1 - f).val = true ∧
      t.on FEED.FD_GATE_ON (1 - f).val = false ∧ (t.feed f).step = .gap := by
  obtain ⟨hoff, hon⟩ := outgoingOff_shows s f
  refine ⟨(s.outgoingOff f).modFeed f fun x => { x with step := .gap }, switchover_eq hi true true hs, ?_, ?_, ?_⟩
  · rw [modFeed_on, hoff]
  · rw [modFeed_on, hon]
  · rw [feed_modFeed_self]

/-- The incoming gate has missed its mark. -/
theorem switchover_markMissed (hs : (s.feed f).step = .charge) (hy : s.rd FEED.FD_STATE f ≠ fYielded) :
    ∃ t, execSwitchover true false s = .next t ∧ TripRecorded f .fetDamaged s t := by
  obtain ⟨hstate, hcnt⟩ := outgoingOff_keeps s f
  exact ⟨_, switchover_eq hi true false hs, (feedTrip_trips _ _ _ (hstate ▸ hy)).from_eq hcnt⟩

/-- The outgoing gate still reads on. -/
theorem switchover_outgoingOn (b : Bool) (hs : (s.feed f).step = .charge)
    (hy : s.rd FEED.FD_STATE (1 - f).val ≠ fYielded) :
    ∃ t, execSwitchover false b s = .next t ∧ TripRecorded (1 - f) .fetDamaged s t := by
  obtain ⟨hstate, hcnt⟩ := switchGivenUp_keeps s f
  exact ⟨_, switchover_eq hi false b hs, (feedTrip_trips _ _ _ (hstate ▸ hy)).from_eq hcnt⟩

theorem gapExpiry_ramps (hs : (s.feed f).step = .gap) :
    ∃ t, execGapExpiry s = .next t ∧ (t.feed f).step = .ramp ∧ t.rd FEED.SEL 0 = s.rd FEED.SEL 0 := by
  refine ⟨s.modFeed f fun x => { x with step := .ramp }, ?_, ?_, rfl⟩
  · unfold execGapExpiry
    rw [hi]
    exact congrArg _ (if_pos hs)
  · rw [feed_modFeed_self]

/-! ## Hot insertion (R314) -/

theorem hotInsertion_mark (hs : (s.feed f).step = .gate) :
    ∃ t, execHotInsertion .mark s = .next t ∧ (t.feed f).step = .ramp := by
  refine ⟨s.modFeed f fun x => { x with step := .ramp }, ?_, ?_⟩
  · unfold execHotInsertion
    rw [hi]
    dsimp only
    rw [hs]
  · rw [feed_modFeed_self]

/-- A deadline of *Hot insertion* passes in its step: the feed trips with the deadline's cause (R314). -/
theorem hotInsertion_trips {e : InsertEv} {c : FeedCause} (hm : MissedDeadline (s.feed f).step e c)
    (hy : s.rd FEED.FD_STATE f ≠ fYielded) : ∃ t, execHotInsertion e s = .next t ∧ TripRecorded f c s t := by
  refine ⟨_, ?_, feedTrip_trips c true (s.rdI FEED.FD_I_FEED f) hy⟩
  unfold execHotInsertion
  rw [hi]
  dsimp only
  generalize (s.feed f).step = step at hm ⊢
  cases hm with
  | mark => rfl
  | ramp => rfl
  | gate => rfl

theorem hotInsertion_busUp {b v : Nat} (hs : (s.feed f).step = .ramp) (hv : v ≤ b + 1000) :
    ∃ t, execHotInsertion (.busUp b v) s = .next t ∧ (t.feed f).step = .enhance ∧ t.rd FEED.FD_STATE f = fEnhance := by
  refine ⟨(s.modFeed f fun x => { x with step := .enhance }).wr FEED.FD_STATE f fEnhance, ?_, ?_, ?_⟩
  · unfold execHotInsertion
    rw [hi]
    dsimp only
    rw [hs]
    exact congrArg _ (if_pos hv)
  · rw [feed_wr, feed_modFeed_self]
  · rw [rd_wr_self]
    rfl

/-! ## FEED_ON (R312, R314) -/

theorem feedOn_eq (hs : (s.feed f).step = .enhance) :
    execFeedOn s = .next (((s.feedNowOn f).closureTold f).select 1) := by
  unfold execFeedOn
  rw [hi]
  exact congrArg _ (if_neg (not_not.mpr hs))

/-- The feed is on; a switchover to the other feed may start at once, and leaves this feed as it is. -/
theorem feedOn_on (hs : (s.feed f).step = .enhance) (hforce : s.rd FEED.FORCE 0 = 0) :
    ∃ t, execFeedOn s = .next t ∧ t.rd FEED.FD_STATE f = fOn ∧ t.on FEED.FD_AT_LIMIT f = false ∧
      (t.feed f).step = .none := by
  have htold := closureTold_leaves (s.feedNowOn f) f
  have hclosed := feedNowOn_leaves s f
  obtain ⟨hstate, hlimit, hstep, hidle⟩ := feedNowOn_shows s f
  rw [← htold _ _ (by decide) (by decide)] at hstate
  rw [← htold.on _ _ (by decide) (by decide)] at hlimit hidle
  rw [← closureTold_feed (s.feedNowOn f) f] at hstep
  have hfree : ((s.feedNowOn f).closureTold f).rd FEED.FORCE 0 = 0 := by
    rw [htold _ _ (by decide) (by decide), hclosed _ _ (by decide) (by decide), hforce]
  have hsel : ((s.feedNowOn f).closureTold f).rd FEED.SEL 0 = f.val + 1 := by
    rw [htold _ _ (by decide) (by decide), hclosed _ _ (by decide) (by decide), incoming_selected hi]
  refine ⟨_, feedOn_eq hi hs, ?_⟩
  obtain hrest | ⟨k, hswitch⟩ := select_besideSelected 1 hidle hfree hsel
  · rw [hrest]
    exact ⟨hstate, hlimit, hstep⟩
  · obtain ⟨hkstate, hklimit, hkfeed⟩ := switchTo_keepsOther (((s.feedNowOn f).closureTold f).setReturnDue false) f k
    rw [hswitch, hkstate, hklimit, hkfeed]
    exact ⟨hstate, hlimit, hstep⟩

theorem feedOn_counts (hs : (s.feed f).step = .enhance) : ∃ t, execFeedOn s = .next t ∧
    t.rd FEED.INSERT_CNT 0 = (if s.feeds.inserting then min (s.rd FEED.INSERT_CNT 0 + 1) (2 ^ 32 - 1)
      else s.rd FEED.INSERT_CNT 0) ∧
    t.rd FEED.SWITCH_CNT 0 = (if s.feeds.inserting then s.rd FEED.SWITCH_CNT 0
      else min (s.rd FEED.SWITCH_CNT 0 + 1) (2 ^ 32 - 1)) := by
  have hclosed := feedNowOn_leaves s f
  obtain ⟨hinsert, hswitch⟩ := closureTold_counts (s.feedNowOn f) f
  refine ⟨_, feedOn_eq hi hs, ?_, ?_⟩
  · rw [select_leaves _ _ _ _ (by decide) (by decide), hinsert, hclosed _ _ (by decide) (by decide)]
    rfl
  · rw [select_leaves _ _ _ _ (by decide) (by decide), hswitch, hclosed _ _ (by decide) (by decide)]
    rfl

end Incoming

theorem hotInsertion_busLow {b v : Nat} (s : State) (h : b + 1000 < v) : execHotInsertion (.busUp b v) s = .next s := by
  unfold execHotInsertion
  split
  · rfl
  next f _ =>
    cases (s.feed f).step with
    | ramp => exact congrArg _ (if_neg (by omega))
    | gate => rfl
    | enhance => rfl
    | none => rfl
    | charge => rfl
    | gap => rfl
    | check => rfl

/-! ## The hold of offers (R315) -/

theorem offerHoldRelease_seedsCap {s : State} (hh : s.feeds.holdFeed = true) (hw : s.on FEED.SWITCHING 0 = false)
    (hsel : s.rd FEED.SEL 0 ≠ 0) :
    ∃ t, execOfferHoldRelease s = .next t ∧ t.feeds.holdFeed = false ∧ t.bud.cap = s.pMax * 10 ^ 6 := by
  refine ⟨(s.setCap (s.pMax * 10 ^ 6)).feedHold false, ?_, ?_, ?_⟩
  · exact congrArg _ (if_pos ⟨hh, hw, hsel⟩)
  · exact feedHold_holdFeed _ false
  · rw [feedHold_bud]
    rfl

theorem offerHoldRelease_idle {s : State}
    (h : s.feeds.holdFeed = false ∨ s.on FEED.SWITCHING 0 = true ∨ s.rd FEED.SEL 0 = 0) :
    execOfferHoldRelease s = .next s := by
  refine congrArg _ (if_neg ?_)
  rintro ⟨hh, hw, hsel⟩
  rcases h with h | h | h
  · exact absurd hh (Bool.eq_false_iff.mp h)
  · exact absurd h (Bool.eq_false_iff.mp hw)
  · exact hsel h

end Sys2Proof.Machine
end

section
/-! PROOFS. The housekeeping frame (R189, R232, R316, R320): the registers that its readings write once they have been shown, and
O31. -/
set_option linter.all false

namespace Sys2Proof.Machine

/-! ## What the readings of a frame act on -/

/-- The registers of the FEED and ADC pages, and of the bank, that acting on a frame's readings writes. -/
def frameWrites : List Field :=
  [ADC.BUS_SNS, FEED.BUS_LOSS, FEED.BUS_OV, FEED.BUS_LOSS_CNT, FEED.BUS_OV_CNT, FEED.FEED_TRIP_CNT, FEED.FD_HEAT,
    FEED.FD_LIMIT_CNT] ++ tripMarks ++ tripEndWrites ++ islandWrites

/-- The other areas that it may change: those of the ports, the event rings, the counters and the pair. -/
def frameAreas : Nat := 0x200080503E80000000428000140000

theorem firePorts_leaves (s : State) (l : List Port) : Leaves frameWrites frameAreas s (s.forPorts l State.firePort) :=
  Leaves.ofWithin (p := 0) (State.forPorts_within s l _ (fun t q h => State.firePort_all t q rfl h) (Within.refl _ _ s))

theorem islandCeilings_leaves (s : State) (l : List Port) :
    Leaves frameWrites frameAreas s (s.forPorts l State.islandCeiling) :=
  Leaves.ofWithin (p := 0)
    (State.forPorts_within s l _ (fun t q h => State.islandCeiling_all t q rfl h) (Within.refl _ _ s))

theorem bankFire_leaves (s : State) : Leaves frameWrites frameAreas s s.bankFire := by
  have hports : Leaves frameWrites frameAreas s (State.forPorts { s with islRole := s.role } allPorts State.firePort) :=
    firePorts_leaves { s with islRole := s.role } allPorts
  obtain ⟨hstart, -⟩ := bankFires_after { s with islRole := s.role }
  exact .ite (.refl _ _ s) (hports.trans ((hstart.widen rfl).mono (by decide)))

theorem busLoss_leaves (s : State) (mv : Nat) : Leaves frameWrites frameAreas s (s.busLoss mv) := by
  unfold State.busLoss
  extract_lets armed s1 s2 s3
  have hs1 : Leaves frameWrites frameAreas s s1 :=
    (((Leaves.refl _ _ s).flag _ _ _ (by decide)).bump _ _ (by decide)).irq _ _ _ (by decide)
  have hs2 : Leaves frameWrites frameAreas s s2 :=
    hs1.within (State.feedEvent_within _ _ _ _ _ rfl (Within.refl _ 0 _))
  have hceilings : Leaves frameWrites frameAreas s2 s3 :=
    islandCeilings_leaves { s2 with islRole := s2.role } (allPorts.filter s2.isSrc)
  exact .ite (hs2.trans (bankFire_leaves s2))
    ((hs2.trans hceilings).trans (((reHold_leaves _).widen rfl).mono (by decide)))

theorem busOv_leaves (s : State) (mv : Nat) : Leaves frameWrites frameAreas s (s.busOv mv) := by
  unfold State.busOv
  extract_lets s1 supply s2
  have hs2 : Leaves frameWrites frameAreas s s2 :=
    (((Leaves.refl _ _ s).flag FEED.BUS_OV 0 true (by decide)).bump FEED.BUS_OV_CNT 0 (by decide)).irq FEED.page 0
      FEED.IRQ_BUS_OV (by decide)
  exact hs2.within (State.feedEvent_within _ _ _ _ _ rfl (Within.refl _ 0 _))

theorem busSample_leaves (s : State) (mv : Nat) : Leaves frameWrites frameAreas s (s.busSample mv) := by
  unfold State.busSample
  extract_lets started s0 s1 s2 md
  have hs0 : Leaves frameWrites frameAreas s s0 := .refl _ _ _
  have hs1 : Leaves frameWrites frameAreas s s1 := .ite (hs0.flag _ _ _ (by decide)) hs0
  have hs2 : Leaves frameWrites frameAreas s s2 := .ite (hs1.flag _ _ _ (by decide)) hs1
  exact .ite (.ite (hs2.trans (busLoss_leaves s2 mv)) (.ite (hs2.trans (busOv_leaves s2 mv)) hs2)) hs2

theorem feedRetry_leaves (s : State) (f : Feed) : Leaves tripMarks 0 s (s.feedRetry f) := by
  have hlift : Leaves tripMarks 0 s ((s.modFeed f fun x => { x with retryRun := false, retryElapsed := false }).wr
      FEED.FD_CAUSE f 0) := ((Leaves.refl _ _ s).modFeed f _).wr _ _ _ (by decide)
  exact .ite (hlift.modFeed f _) (hlift.wr _ _ _ (by decide))

theorem loseHealth_leaves (s : State) (f : Feed) : Leaves (FEED.FD_HEALTHY :: tripEndWrites) 0 s (s.loseHealth f) := by
  unfold State.loseHealth
  extract_lets started s0 s1 s2
  have hs0 : Leaves (FEED.FD_HEALTHY :: tripEndWrites) 0 s s0 := .ite (.refl _ _ _) (.refl _ _ _)
  have hs1 : Leaves (FEED.FD_HEALTHY :: tripEndWrites) 0 s s1 := (hs0.flag _ _ _ (by decide)).modFeed f _
  have hs2 : Leaves (FEED.FD_HEALTHY :: tripEndWrites) 0 s s2 :=
    .ite (hs1.andThen (restFeed_leaves s1 f) (by decide)) hs1
  have hforce : Leaves (FEED.FD_HEALTHY :: tripEndWrites) 0 s (s2.unforce f) := .ite (hs2.wr _ _ _ (by decide)) hs2
  exact hforce.andThen (select_leaves _ 1) (by decide)

theorem feedSample_leaves (s : State) (f : Feed) (ma : Int) : Leaves frameWrites frameAreas s (s.feedSample f ma) := by
  unfold State.feedSample
  extract_lets x on i h at_ c s0 s1 s2 dA
  have hs0 : Leaves frameWrites frameAreas s s0 := (Leaves.refl _ _ s).wr _ _ _ (by decide)
  have hs1 : Leaves frameWrites frameAreas s s1 :=
    ((hs0.modFeed f _).wr FEED.FD_HEAT f _ (by decide)).wr FEED.FD_LIMIT_CNT f _ (by decide)
  have hs2 : Leaves frameWrites frameAreas s s2 := hs1.flag _ _ _ (by decide)
  have htrip (c : FeedCause) : Leaves frameWrites frameAreas s (s2.feedTrip f c true dA) :=
    hs2.trans (((feedTrip_leaves s2 f c true dA).widen rfl).mono (by decide))
  exact .ite (htrip .curve) (.ite (htrip .limit) (.ite (hs2.andThen (feedRetry_leaves s2 f) (by decide)) hs2))

theorem feedStandIn_leaves (s : State) (f : Feed) (mv : Nat) : Leaves frameWrites frameAreas s (s.feedStandIn f mv) := by
  unfold State.feedStandIn
  split
  · exact .ite (((loseHealth_leaves s f).anyMask _).mono (by decide)) (.refl _ _ s)
  · exact .refl _ _ s

theorem busShow_leaves (s : State) (q : Int) : Leaves [ADC.BUS_SNS] 0 s (s.busShow q) :=
  (Leaves.refl _ _ s).wr ADC.BUS_SNS 0 (milliU q) (by decide)

theorem frameFeeds_leaves (s : State) (b0 b1 : Int) (va vb : Nat) (ma mb : Int) :
    Leaves frameWrites frameAreas s (s.frameFeeds b0 b1 va vb ma mb) := by
  unfold State.frameFeeds
  extract_lets s1 s2
  have hs1 : Leaves frameWrites frameAreas s s1 :=
    (((busShow_leaves s b0).anyMask _).mono (by decide)).trans (busSample_leaves _ _)
  have hs2 : Leaves frameWrites frameAreas s s2 :=
    (((hs1.trans (feedSample_leaves _ 0 ma)).trans (feedSample_leaves _ 1 mb)).trans (feedStandIn_leaves _ 0 va)).trans
      (feedStandIn_leaves _ 1 vb)
  exact (hs2.andThen (busShow_leaves s2 b1) (by decide)).trans (busSample_leaves _ _)

/-- The second bus sample of the frame is what the loops read. -/
theorem frameFeeds_busV (s : State) (b0 b1 : Int) (va vb : Nat) (ma mb : Int) :
    (s.frameFeeds b0 b1 va vb ma mb).busV = b1 :=
  (State.busSample_within _ _ rfl (Within.refl 0x100002001B0503400000000638000140000 0 _)).busV rfl

/-! ## The frame -/

theorem frameShow_shows (s : State) (va vb : Nat) (ma mb : Int) (d e : Nat) :
    (s.frameShow va vb ma mb d e).rd FEED.FD_VIN 0 = va % 2 ^ 16 ∧
      (s.frameShow va vb ma mb d e).rd FEED.FD_VIN 1 = vb % 2 ^ 16 ∧
      (s.frameShow va vb ma mb d e).rd ADC.T_DIE 0 = d % 2 ^ 16 ∧
      (s.frameShow va vb ma mb d e).rd ADC.T_EXT 0 = e % 2 ^ 16 := by
  have hinst : FEED.FD_VIN.key 0 ≠ FEED.FD_VIN.key 1 := by decide
  unfold State.frameShow
  simp (disch := decide) only [rd_wrI, rd_wr, rd_wr_self, rd_wr_ne _ _ _ _ _ _ hinst]
  exact ⟨rfl, rfl, rfl, rfl⟩

/-- What acts on a frame's readings leaves the feed inputs and the temperatures as the frame has shown them. -/
theorem housekeepingFrame_shows (a b fa fb ia ib : BitVec 12) (d e : BitVec 16) (r : RailRead) (s : State) :
    ∃ t, execHousekeepingFrame ⟨a, b⟩ fa fb ia ib d e r s = .next t ∧
      t.busV = s.voltQ (s.rd ADC.HK_ADC 0) b.toNat ∧
      t.rd FEED.FD_VIN 0 = milliU (s.voltQ (s.rd ADC.HK_ADC 0) fa.toNat) % 2 ^ 16 ∧
      t.rd FEED.FD_VIN 1 = milliU (s.voltQ (s.rd ADC.HK_ADC 0) fb.toNat) % 2 ^ 16 ∧
      t.rd ADC.T_DIE 0 = d.toNat ∧ t.rd ADC.T_EXT 0 = e.toNat := by
  refine ⟨_, rfl, ?_⟩
  extract_lets k bq va vb ma mb s1
  have hrails : Within frameAreas 0 (s1.frameFeeds (s.voltQ k a.toNat) bq va vb ma mb) _ :=
    State.frameVconn_within _ r.vconn rfl (State.frameRails_within _ r rfl (Within.refl _ _ _))
  have hacts := (frameFeeds_leaves s1 (s.voltQ k a.toNat) bq va vb ma mb).within hrails
  obtain ⟨hvina, hvinb, hdie, hext⟩ := frameShow_shows s va vb ma mb d.toNat e.toNat
  refine ⟨?_, ?_, ?_, ?_, ?_⟩
  · rw [hrails.busV rfl, frameFeeds_busV]
  · rw [hacts _ _ (by decide) (by decide), hvina]
  · rw [hacts _ _ (by decide) (by decide), hvinb]
  · rw [hacts _ _ (by decide) (by decide), hdie, Nat.mod_eq_of_lt d.isLt]
  · rw [hacts _ _ (by decide) (by decide), hext, Nat.mod_eq_of_lt e.isLt]

/-- Settles O31, clause by clause: what each observation of a closure does in the step that it belongs to, and that it does
nothing in any other; the hold of offers, and the housekeeping frame. -/
theorem feedsSwitchWithoutAGap : Obligations.FeedsSwitchWithoutAGap := by
  unfold Obligations.FeedsSwitchWithoutAGap
  refine ⟨?waits, ?markMissed, ?outgoingOn, ?gap, ?mark, ?chargeMissed, ?busUp, ?busLow, ?rampOut, ?gateMissed, ?on,
    ?inserted, ?switched, ?noSwitchover, ?noGap, ?noInsertion, ?noFeedOn, ?otherSwitchover, ?otherGap, ?otherInsertion,
    ?otherFeedOn, ?release, ?noRelease, ?frame⟩
  case waits => exact fun f s hi hs => switchover_waitsForGap hi hs
  case markMissed => exact fun f s hi hs hy => switchover_markMissed hi hs hy
  case outgoingOn => exact fun f b s hi hs hy => switchover_outgoingOn hi b hs hy
  case gap => exact fun f s hi hs => gapExpiry_ramps hi hs
  case mark => exact fun f s hi hs => hotInsertion_mark hi hs
  case chargeMissed => exact fun f s hi hs hy => hotInsertion_trips hi (hs ▸ .mark) hy
  case busUp => exact fun f b v s hi hs hv => hotInsertion_busUp hi hs hv
  case busLow => exact fun f b v s h => hotInsertion_busLow s h
  case rampOut => exact fun f s hi hs hy => hotInsertion_trips hi (hs ▸ .ramp) hy
  case gateMissed => exact fun f s hi hs hy => hotInsertion_trips hi (hs ▸ .gate) hy
  case on => exact fun f s hi hs hforce _ => feedOn_on hi hs hforce
  case inserted =>
    intro f s hi hs hins
    obtain ⟨t, ht, hinsert, hswitch⟩ := feedOn_counts hi hs
    exact ⟨t, ht, hinsert.trans (if_pos hins), hswitch.trans (if_pos hins)⟩
  case switched =>
    intro f s hi hs hins
    obtain ⟨t, ht, hinsert, hswitch⟩ := feedOn_counts hi hs
    have hnot : ¬ s.feeds.inserting = true := Bool.eq_false_iff.mp hins
    exact ⟨t, ht, hswitch.trans (if_neg hnot), hinsert.trans (if_neg hnot)⟩
  case noSwitchover => exact fun a b s h => switchover_noIncoming a b h
  case noGap => exact fun s h => gapExpiry_noIncoming h
  case noInsertion => exact fun e s h => hotInsertion_noIncoming e h
  case noFeedOn => exact fun s h => feedOn_noIncoming h
  case otherSwitchover => exact fun f a b s hi hs => switchover_otherStep hi a b hs
  case otherGap => exact fun f s hi hs => gapExpiry_otherStep hi hs
  case otherInsertion => exact fun f e s hi hg hr he => hotInsertion_otherStep hi e hg hr he
  case otherFeedOn => exact fun f s hi hs => feedOn_otherStep hi hs
  case release => exact fun s hh hw hsel => offerHoldRelease_seedsCap hh hw hsel
  case noRelease => exact fun s h => offerHoldRelease_idle h
  case frame => exact fun a b fa fb ia ib d e r s => housekeepingFrame_shows a b fa fb ia ib d e r s

end Sys2Proof.Machine
end

section
/-! PROOFS. Periods and phases (R234, R235), regions and legs at a period start (R236 to R239), driver enables (R241): O23 and
O57. -/
set_option linter.all false

namespace Sys2Proof.Machine

/-! ## Recorded statuses and cleared bits -/

theorem err_code (s : State) (pg i code off : Nat) (h : code < 256) : (s.err pg i code off).rd (ERR_CODE pg) i = code :=
  errF_code s { ERR_CODE pg with off := off } i code h

theorem err_rd (s : State) (G : Field) (pg i j code off : Nat) (hq : G.apart (ERR_SEQ pg) = true)
    (hc : G.apart (ERR_CODE pg) = true) (ho : G.apart (ERR_OFFSET pg) = true) : (s.err pg i code off).rd G j = s.rd G j :=
  errF_rd s { ERR_CODE pg with off := off } G i j code hq hc ho

theorem testBit_sub_two_pow {x n : Nat} (h : x.testBit n = true) : (x - 2 ^ n).testBit n = false := by
  obtain ⟨y, rfl⟩ := Nat.exists_eq_add_of_le (Nat.ge_two_pow_of_testBit h)
  rw [Nat.testBit_two_pow_add_eq] at h
  rw [Nat.add_sub_cancel_left]
  rwa [Bool.not_eq_true'] at h

theorem bit_wrBit_clear (s : State) (F : Field) (i n : Nat) : (s.wrBit F i n false).bit F i n = false := by
  unfold State.bit State.wrBit
  rw [rd_wr_self, if_neg Bool.false_ne_true, Nat.testBit_mod_two_pow, Bool.and_eq_false_imp]
  intro _
  split
  next hset => exact testBit_sub_two_pow hset
  next hclear => exact Bool.eq_false_iff.mpr hclear

/-! ## PERIOD_WRITE (R234, R244) -/

theorem periodWrite_taken {p : Port} {v : Nat} {s : State} (hlo : 400 ≤ v) (hhi : v ≤ 4000) (h : s.running p = false) :
    ∃ t, execPeriodWrite p v s = .next t ∧ t.rd PWM.PERIOD p = v := by
  refine ⟨_, rfl, ?_⟩
  rw [if_neg (by omega), if_neg (ne_true_of_eq_false h)]
  unfold State.setPeriod
  rw [rerate_rd _ _ _ _ (by decide), rd_wr_self]
  exact Nat.mod_eq_of_lt (show v < 4096 by omega)

theorem periodWrite_denied {p : Port} {v : Nat} {s : State} (hlo : 400 ≤ v) (hhi : v ≤ 4000) (h : s.running p = true) :
    ∃ t, execPeriodWrite p v s = .next t ∧ t.rd PWM.PERIOD p = s.rd PWM.PERIOD p ∧
      t.rd (ERR_CODE PWM.page) 0 = stDENIED := by
  refine ⟨_, rfl, ?_⟩
  rw [if_neg (by omega), if_pos h]
  unfold State.periodDenied
  refine ⟨?_, ?_⟩
  · rw [rd_irq _ _ _ _ _ _ (by decide), err_rd _ _ _ _ _ _ _ (by decide) (by decide) (by decide)]
  · rw [rd_irq _ _ _ _ _ _ (by decide), err_code _ _ _ _ _ (by decide)]

theorem periodWrite_outside {p : Port} {v : Nat} (s : State) (h : v < 400 ∨ 4000 < v) :
    ∃ t, execPeriodWrite p v s = .next t ∧ t.rd PWM.PERIOD p = s.rd PWM.PERIOD p ∧
      t.rd (ERR_CODE PWM.page) 0 = stBAD_ARG := by
  refine ⟨_, rfl, ?_⟩
  rw [if_pos h]
  exact ⟨err_rd _ _ _ _ _ _ _ (by decide) (by decide) (by decide), err_code _ _ _ _ _ (by decide)⟩

/-! ## PHASE_WRITE, and the phase at a period start (R235) -/

theorem phaseWrite_waits (p : Port) (v : BitVec 8) (s : State) :
    ∃ t, execPhaseWrite p v s = .next t ∧ (t.port p).pwm.phase = some v.toNat ∧ t.rd PWM.PHASE p = s.rd PWM.PHASE p := by
  refine ⟨_, rfl, ?_, rfl⟩
  unfold State.setPhase
  rw [port_modPort_self]

/-- The length, in steps of 1/8 clock, of a period whose start moves the phase from `old` to `new` (R235). -/
def shiftedLen (period old new : Nat) : Nat := 8 * period + 8 * period * ((new + 256 - old) % 256) / 256

theorem le_shiftedLen (period old new : Nat) : 8 * period ≤ shiftedLen period old new := Nat.le_add_right _ _

theorem applyPhase_waiting {s : State} {p : Port} {v : Nat} (h : (s.port p).pwm.phase = some v) (hv : v < 256) :
    (s.applyPhase p).rd PWM.PHASE p = v ∧ ((s.applyPhase p).port p).pwm =
      { (s.port p).pwm with phase := none, len := shiftedLen (s.rd PWM.PERIOD p) (s.rd PWM.PHASE p) v } := by
  unfold State.applyPhase
  rw [h]
  refine ⟨?_, ?_⟩
  · rw [State.modPort_rd, rd_bump _ _ _ _ _ (by decide), rd_wr_self]
    exact Nat.mod_eq_of_lt hv
  · rw [port_modPort_self]
    rfl

theorem innerStart_rd (s : State) (p : Port) (F : Field) (i : Nat) (h : F.apart ADC.SMP_POS = true) :
    (s.innerStart p).rd F i = s.rd F i := by
  unfold State.innerStart
  dsimp only
  split
  · unfold State.placeBurst
    rw [State.modPort_rd, rd_wr _ _ _ _ _ _ h, State.loop_rd]
  · rfl

/-- The start of an inner period is counted down to, and nothing else of the port's PWM changes. -/
theorem innerStart_pwm (s : State) (p : Port) :
    ∃ n, ((s.innerStart p).port p).pwm = { (s.port p).pwm with left := n } := by
  unfold State.innerStart
  dsimp only
  split
  · unfold State.placeBurst
    rw [port_modPort_self, State.wr_port, port_loop_self]
    exact ⟨_, rfl⟩
  · rw [port_modPort_self]
    exact ⟨_, rfl⟩

theorem unlatch_port (s : State) (p q : Port) : (s.unlatch p).port q = s.port q := by
  refine List.foldlRecOn (motive := fun t : State => t.port q = s.port q) _ _ rfl fun t ht c _ => ?_
  simp only [apply_ite (State.port · q), State.flag_port, ite_self, ht]

theorem unlatch_phase (s : State) (p : Port) : (s.unlatch p).rd PWM.PHASE p = s.rd PWM.PHASE p :=
  (State.unlatch_within s p rfl (Within.refl 0x10000000000000000000 p s)).rd _ _ (by decide)

/-! ## PERIOD_START (R235 to R239) -/

/-- A period start before its region is known: a phase that waits applies, an inner period may begin, flags unlatch. -/
def State.periodBegun (s : State) (p : Port) : State := ((s.applyPhase p).innerStart p).unlatch p

theorem periodBegun_waiting {s : State} {p : Port} {v : Nat} (h : (s.port p).pwm.phase = some v) (hv : v < 256) :
    (s.periodBegun p).rd PWM.PHASE p = v ∧ ((s.periodBegun p).port p).pwm.phase = none ∧
      ((s.periodBegun p).port p).pwm.len = shiftedLen (s.rd PWM.PERIOD p) (s.rd PWM.PHASE p) v := by
  obtain ⟨hphase, hpwm⟩ := applyPhase_waiting h hv
  obtain ⟨n, hinner⟩ := innerStart_pwm (s.applyPhase p) p
  unfold State.periodBegun
  rw [unlatch_phase, innerStart_rd _ _ _ _ (by decide), unlatch_port, hinner, hpwm]
  exact ⟨hphase, rfl, rfl⟩

/-- The high times of the two legs in the period that starts. -/
def State.setEdges (s : State) (p : Port) (a b : Nat) : State :=
  s.modPort p fun x => { x with pwm := { x.pwm with onA := a, onB := b } }

theorem setEdges_edges (s : State) (p : Port) (a b : Nat) :
    ((s.setEdges p a b).port p).pwm.onA = a ∧ ((s.setEdges p a b).port p).pwm.onB = b := by
  unfold State.setEdges
  rw [port_modPort_self]
  exact ⟨rfl, rfl⟩

theorem setEdges_keeps {s : State} {p : Port} {x : PortSt} (a b : Nat) (h : s.port p = x) :
    ((s.setEdges p a b).port p).pwm.phase = x.pwm.phase ∧ ((s.setEdges p a b).port p).pwm.len = x.pwm.len := by
  unfold State.setEdges
  rw [port_modPort_self, h]
  exact ⟨rfl, rfl⟩

theorem setEdges_rd (s : State) (p : Port) (a b : Nat) (F : Field) (i : Nat) : (s.setEdges p a b).rd F i = s.rd F i := rfl

theorem setEdges_on (s : State) (p : Port) (a b : Nat) (F : Field) (i : Nat) : (s.setEdges p a b).on F i = s.on F i := rfl

/-- PWM_STAT of a port: its region, and the legs that are held. -/
def State.showRegion (s : State) (p : Port) (r : Nat) (a b : Bool) : State :=
  ((s.wr PWM.REGION p r).flag PWM.A_HELD p a).flag PWM.B_HELD p b

theorem showRegion_port (s : State) (p q : Port) (r : Nat) (a b : Bool) : (s.showRegion p r a b).port q = s.port q := rfl

theorem showRegion_phase (s : State) (p : Port) (r : Nat) (a b : Bool) :
    (s.showRegion p r a b).rd PWM.PHASE p = s.rd PWM.PHASE p := by
  unfold State.showRegion
  rw [rd_flag _ _ _ _ _ _ (by decide), rd_flag _ _ _ _ _ _ (by decide), rd_wr _ _ _ _ _ _ (by decide)]

theorem showRegion_region (s : State) (p : Port) {r : Nat} (a b : Bool) (h : r < 4) :
    (s.showRegion p r a b).rd PWM.REGION p = r := by
  unfold State.showRegion
  rw [rd_flag _ _ _ _ _ _ (by decide), rd_flag _ _ _ _ _ _ (by decide), rd_wr_self]
  exact Nat.mod_eq_of_lt h

theorem showRegion_held (s : State) (p : Port) (r : Nat) (a b : Bool) :
    (s.showRegion p r a b).on PWM.A_HELD p = a ∧ (s.showRegion p r a b).on PWM.B_HELD p = b := by
  unfold State.showRegion
  rw [on_flag _ _ _ _ _ _ (by decide)]
  exact ⟨on_flag_self _ _ _ _ (by decide), on_flag_self _ _ _ _ (by decide)⟩

/-- The counters of a period start: a change of region, and legs held in place of a pulse that is too short (R239). -/
def State.countPeriod (s : State) (changed : Bool) (n : Nat) : State :=
  (if changed then s.bump PWM.REGION_CHANGE_CNT 0 else s).bumpBy PWM.HELD_SUBST_CNT 0 n

theorem countPeriod_port (s : State) (changed : Bool) (n : Nat) (q : Port) :
    (s.countPeriod changed n).port q = s.port q := by
  cases changed <;> rfl

theorem countPeriod_rd (s : State) (changed : Bool) (n : Nat) (F : Field) (i : Nat)
    (hc : F.apart PWM.REGION_CHANGE_CNT = true) (hh : F.apart PWM.HELD_SUBST_CNT = true) :
    (s.countPeriod changed n).rd F i = s.rd F i := by
  unfold State.countPeriod
  rw [rd_bumpBy _ _ _ _ _ _ hh]
  split
  · exact rd_bump _ _ _ _ _ hc
  · rfl

/-- The region of the period that starts on a running port (R238). -/
def State.dueRegion (s : State) (p : Port) : Nat :=
  nextRegion (s.rd PWM.REGION p) (s.port p).loop.d (s.rd PWM.DA_MAX 0) (s.rd PWM.DB_MIN 0) (s.rd PWM.HYST 0)

theorem nextRegion_lt (cur : Nat) (m : Int) (da db hyst : Nat) : nextRegion cur m da db hyst < 4 := by
  unfold nextRegion
  dsimp only
  repeat' split
  all_goals decide

theorem execPeriodStart_halt {s : State} {p : Port} (h : s.running p = false) :
    execPeriodStart p s = .next (((s.periodBegun p).showRegion p rHalt false false).setEdges p 0 0) := by
  unfold execPeriodStart
  rw [if_pos h]
  rfl

/-- On a running port the legs follow the region, and their outputs wait for the driver set-up (R241). -/
theorem execPeriodStart_running {s : State} {p : Port} (h : s.running p = true) :
    ∃ (a b : Leg) (changed : Bool) (n : Nat), execPeriodStart p s = .next
      ((((s.periodBegun p).showRegion p (s.dueRegion p) a.held b.held).countPeriod changed n).setEdges p
        (if (s.port p).pwm.wait then 0 else a.on) (if (s.port p).pwm.wait then 0 else b.on)) := by
  unfold execPeriodStart
  rw [if_neg (ne_false_of_eq_true h)]
  dsimp only
  split
  · exact ⟨_, _, true, _, rfl⟩
  · exact ⟨_, _, false, _, rfl⟩

/-- In HALT and on a running port alike, what follows of the period start leaves the phase and the period's length. -/
theorem periodStart_keeps (p : Port) (s : State) :
    ∃ t, execPeriodStart p s = .next t ∧ t.rd PWM.PHASE p = (s.periodBegun p).rd PWM.PHASE p ∧
      (t.port p).pwm.phase = ((s.periodBegun p).port p).pwm.phase ∧
      (t.port p).pwm.len = ((s.periodBegun p).port p).pwm.len := by
  cases h : s.running p with
  | false =>
    refine ⟨_, execPeriodStart_halt h, ?_⟩
    rw [setEdges_rd, showRegion_phase]
    exact ⟨rfl, setEdges_keeps _ _ (showRegion_port _ _ _ _ _ _)⟩
  | true =>
    obtain ⟨a, b, changed, n, ht⟩ := execPeriodStart_running h
    refine ⟨_, ht, ?_⟩
    rw [setEdges_rd, countPeriod_rd _ _ _ _ _ (by decide) (by decide), showRegion_phase]
    exact ⟨rfl, setEdges_keeps _ _ ((countPeriod_port _ _ _ _).trans (showRegion_port _ _ _ _ _ _))⟩

theorem periodStart_waiting {p : Port} {v : Nat} {s : State} (h : (s.port p).pwm.phase = some v) (hv : v < 256) :
    ∃ t, execPeriodStart p s = .next t ∧ t.rd PWM.PHASE p = v ∧ (t.port p).pwm.phase = none ∧
      (t.port p).pwm.len = shiftedLen (s.rd PWM.PERIOD p) (s.rd PWM.PHASE p) v := by
  obtain ⟨t, ht, hreg, hphase, hlen⟩ := periodStart_keeps p s
  obtain ⟨hreg', hphase', hlen'⟩ := periodBegun_waiting h hv
  exact ⟨t, ht, hreg.trans hreg', hphase.trans hphase', hlen.trans hlen'⟩

theorem periodStart_halt {p : Port} {s : State} (h : s.running p = false) :
    ∃ t, execPeriodStart p s = .next t ∧ t.rd PWM.REGION p = rHalt ∧ t.on PWM.A_HELD p = false ∧
      t.on PWM.B_HELD p = false ∧ (t.port p).pwm.onA = 0 ∧ (t.port p).pwm.onB = 0 := by
  obtain ⟨ha, hb⟩ := showRegion_held (s.periodBegun p) p rHalt false false
  refine ⟨_, execPeriodStart_halt h, ?_⟩
  rw [setEdges_rd, showRegion_region _ _ _ _ (by decide), setEdges_on, setEdges_on]
  exact ⟨rfl, ha, hb, setEdges_edges _ _ _ _⟩

theorem periodStart_region {p : Port} {s : State} (h : s.running p = true) :
    ∃ t, execPeriodStart p s = .next t ∧ t.rd PWM.REGION p = s.dueRegion p := by
  obtain ⟨a, b, changed, n, ht⟩ := execPeriodStart_running h
  refine ⟨_, ht, ?_⟩
  rw [setEdges_rd, countPeriod_rd _ _ _ _ _ (by decide) (by decide)]
  exact showRegion_region _ _ _ _ (nextRegion_lt _ _ _ _ _)

theorem periodStart_setup {p : Port} {s : State} (h : s.running p = true) (hw : (s.port p).pwm.wait = true) :
    ∃ t, execPeriodStart p s = .next t ∧ (t.port p).pwm.onA = 0 ∧ (t.port p).pwm.onB = 0 := by
  obtain ⟨a, b, changed, n, ht⟩ := execPeriodStart_running h
  rw [hw] at ht
  exact ⟨_, ht, setEdges_edges _ _ _ _⟩

/-! ## Driver enables (R241) -/

theorem drvEnFall_idle {g : Fin 4} {s : State} (hen : s.bit PWM.DRV_EN 0 g = true) (h : s.groupRuns g = false) :
    ∃ t, execDrvEnFall g s = .next t ∧ t.bit PWM.DRV_EN 0 g = false ∧
      t.bit (IRQ_STAT PWM.page) 0 PWM.IRQ_DRV_CHANGE = true := by
  refine ⟨_, rfl, ?_⟩
  rw [if_pos ⟨hen, h⟩]
  refine ⟨?_, bit_irq_self _ _ _ _ (by decide)⟩
  unfold State.bit
  rw [rd_irq _ _ _ _ _ _ (by decide)]
  exact bit_wrBit_clear _ _ _ _

theorem drvEnFall_runs {g : Fin 4} {s : State} (h : s.groupRuns g = true) : execDrvEnFall g s = .next s := by
  unfold execDrvEnFall
  rw [if_neg fun ⟨_, hidle⟩ => ne_false_of_eq_true h hidle]

/-- A port's outputs no longer wait for the driver set-up. -/
def State.releaseLegs (s : State) (p : Port) : State :=
  s.modPort p fun x => { x with pwm := { x.pwm with wait := false } }

theorem releaseLegs_wait (s : State) (p q : Port) (h : p = q ∨ (s.port q).pwm.wait = false) :
    ((s.releaseLegs p).port q).pwm.wait = false := by
  unfold State.releaseLegs
  by_cases hq : q = p
  · rw [hq, port_modPort_self]
  · rw [port_modPort_ne _ _ _ _ hq]
    exact h.resolve_left (Ne.symm hq)

theorem forPorts_releaseLegs_wait (l : List Port) (s : State) (q : Port) (h : q ∈ l ∨ (s.port q).pwm.wait = false) :
    ((s.forPorts l State.releaseLegs).port q).pwm.wait = false := by
  induction l generalizing s with
  | nil => exact h.resolve_left List.not_mem_nil
  | cons p l ih =>
    rw [List.mem_cons, or_comm (a := q = p), or_assoc] at h
    exact ih _ (h.imp_right fun hp => releaseLegs_wait s p q (hp.imp_left Eq.symm))

theorem drvSetupExpiry_releases {g : Fin 4} {p : Port} (s : State) (h : drvGroup p = g.val) :
    ∃ t, execDrvSetupExpiry g s = .next t ∧ (t.port p).pwm.wait = false := by
  have hmem : p ∈ allPorts.filter fun q => drvGroup q == g.val :=
    List.mem_filter.mpr ⟨List.mem_finRange p, beq_iff_eq.mpr h⟩
  exact ⟨_, rfl, forPorts_releaseLegs_wait _ s p (.inl hmem)⟩

/-- Settles O23, by what each write, each period start and each edge of a driver enable does. -/
theorem periodsPhasesAndDrivers : Obligations.PeriodsPhasesAndDrivers := by
  unfold Obligations.PeriodsPhasesAndDrivers
  refine ⟨?taken, ?denied, ?outside, ?phaseWaits, ?phaseApplies, ?halt, ?region, ?setup, ?falls, ?stays, ?released⟩
  case taken => exact fun p v s hlo hhi h => periodWrite_taken hlo hhi h
  case denied => exact fun p v s hlo hhi h => periodWrite_denied hlo hhi h
  case outside => exact fun p v s h => periodWrite_outside s h
  case phaseWaits => exact fun p v s => phaseWrite_waits p v s
  case phaseApplies =>
    intro p v s h hv
    obtain ⟨t, ht, hreg, hphase, -⟩ := periodStart_waiting h hv
    exact ⟨t, ht, hreg, hphase⟩
  case halt => exact fun p s h => periodStart_halt h
  case region => exact fun p s h => periodStart_region h
  case setup => exact fun p s h hw => periodStart_setup h hw
  case falls => exact fun g s hen h => drvEnFall_idle hen h
  case stays => exact fun g s h => drvEnFall_runs h
  case released => exact fun g p s h => drvSetupExpiry_releases s h

/-- Settles O57: a period start applies the phase that waits in the same way in HALT and on a running port. -/
theorem phaseWritesLengthenOnePeriod : Obligations.PhaseWritesLengthenOnePeriod := by
  unfold Obligations.PhaseWritesLengthenOnePeriod
  refine ⟨?waits, ?halt, ?running⟩
  case waits =>
    intro p v s
    obtain ⟨t, ht, hphase, hreg⟩ := phaseWrite_waits p v s
    exact ⟨t, ht, hreg, hphase⟩
  case halt =>
    intro p v s _ h
    obtain ⟨t, ht, hreg, hphase, hlen⟩ := periodStart_waiting h v.isLt
    exact ⟨t, ht, hreg, hphase, hlen, (le_shiftedLen _ _ _).trans_eq hlen.symm⟩
  case running => exact fun p v s _ h => periodStart_waiting h v.isLt

end Sys2Proof.Machine
end

section
/-! PROOFS. PLAUS_ACTION on a residual whose foldback is in force already (R248): O24. -/
set_option linter.all false

namespace Sys2Proof.Machine

/-- A foldback begins once: while the converter residual's is in force, another changes nothing. -/
theorem foldback_converter_in_force {s : State} {p : Port} (f : Int) (h : (s.port p).model.foldC = true) :
    s.foldback p 1 f = s := by
  unfold State.foldback
  rw [if_pos rfl, if_pos h]

/-- PLAUS_ACTION with ACT_C 1 for a converter residual whose foldback is in force, while the path residual takes no action: the
count of outer steps restarts, and FOLD stays as it reads. -/
theorem plausAction_converter_in_force {p : Port} {s : State} (hover : 64 ≤ (s.port p).model.over2C)
    (hact : s.rd LOOP.ACT_C p = 1) (hpath : (s.port p).model.over2P < 64) (hfold : (s.port p).model.foldC = true) :
    ∃ t, execPlausAction p s = .next t ∧ t.on LOOP.FOLD p = s.on LOOP.FOLD p := by
  refine ⟨_, rfl, ?_⟩
  extract_lets m ac ap s1 s2
  have hac : ac = 1 := (if_pos hover).trans hact
  have hap : ap = 0 := if_neg (Nat.not_le.mpr hpath)
  unfold s2
  rw [hac, hap, if_neg (by decide), if_neg (by decide), if_neg (by decide), if_pos rfl, foldback_converter_in_force]
  · rw [State.model_on]
  · rw [port_model_self]
    exact hfold

/-- Port 0 acts on its converter residual by foldback, and that residual has been over twice its threshold for 64 outer steps;
the record has its foldback in force, while MODEL_FLAGS reads 0. -/
def foldbackUnshown : State :=
  (State.reset.wr LOOP.ACT_C 0 1).model 0 fun m => { m with over2C := 64, foldC := true }

/-- Refutes O24: its clauses on PLAUS_ACTION with ACT 1 have FOLD set when the command ends, and ask nothing of a foldback that
is in force already. The model writes the foldbacks of a port and FOLD together, but the statement speaks of every state: where
the record has the foldback and FOLD is clear, none begins and FOLD stays clear. -/
theorem not_plausibilityModelsJudgeThePorts : ¬ Obligations.PlausibilityModelsJudgeThePorts := by
  intro h
  obtain ⟨-, -, -, -, -, -, -, hfolds, -⟩ := h
  have hover : 64 ≤ (foldbackUnshown.port 0).model.over2C := by decide
  have hact : foldbackUnshown.rd LOOP.ACT_C (0 : Port) = 1 := by decide
  have hpath : (foldbackUnshown.port 0).model.over2P < 64 := by decide
  have hclear : foldbackUnshown.on LOOP.FOLD (0 : Port) = false := by decide
  obtain ⟨t, ht, hset, -⟩ := hfolds 0 foldbackUnshown hover hact (.inl hpath)
  obtain ⟨u, hu, hstays⟩ := plausAction_converter_in_force hover hact hpath (by decide)
  obtain rfl : t = u := Host.Outcome.next.inj (ht.symm.trans hu)
  exact absurd (hset.symm.trans (hstays.trans hclear)) (by decide)

end Sys2Proof.Machine
end

section
/-! PROOFS. A first failure of IFAST's check that ends the checks a CLOSE_MATCHED waits for (R298, R301, R303, R304): O25. -/
set_option linter.all false

namespace Sys2Proof.Machine

/-- No check of a port that has no check in progress waits for its repeat. -/
theorem repeating_of_idle {s : State} {m : Mon} {p : Port} (hm : monPort m = some p) (h : (s.port p).guard.chk = 0) :
    s.repeating m = false := by
  unfold State.repeating
  rw [hm]
  dsimp only
  rw [h]
  exact BitVec.getLsbD_zero

/-- A change of state ends the checks in progress (R298). -/
theorem guardTo_chk {s : State} {p : Port} {st : Nat} (h : s.gst p ≠ st) : ((s.guardTo p st).port p).guard.chk = 0 := by
  unfold State.guardTo
  rw [if_neg h, port_grd_self]

theorem driveMatched_chk {s : State} {p : Port} (h : s.gst p ≠ gEnhance) : ((s.driveMatched p).port p).guard.chk = 0 := by
  unfold State.driveMatched
  rw [port_grd_self]
  exact guardTo_chk h

/-- The check of `m` has been the last that a CLOSE_MATCHED waits for: its gate is driven, and no check is in progress (R304). -/
theorem afterCheck_drives {s : State} {m : Mon} {p : Port} (hm : monPort m = some p) (hg : s.gst p = gPrecheck)
    (hc : (s.port p).guard.closing = .matchedCheck)
    (hlast : (s.port p).guard.recheck &&& ~~~(monBit m ||| if s.on GUARD.DEGRADED p then 3 else 0) = 0) :
    ((s.afterCheck m).port p).guard.chk = 0 := by
  unfold State.afterCheck State.rechecked
  rw [hm]
  dsimp only
  rw [if_pos hg]
  unfold State.closureGoesOn
  rw [port_grd_self, if_pos ⟨hc, hlast⟩]
  refine driveMatched_chk ?_
  unfold State.gst at hg ⊢
  rw [State.grd_rd, hg]
  decide

/-- A test goes on where its check awaits the repeat (R558). -/
theorem checkEndsTest_awaiting (s : State) (m : Mon) (kind : Nat) : s.checkEndsTest m kind true false = s := by
  unfold State.checkEndsTest
  cases monPort m with
  | none => rfl
  | some p => exact ite_self s

/-- The first failed check of a port's monitor, which is to be repeated (R303), leaves the guard's state, DEGRADED, the closure
and the checks it waits for. -/
theorem checkFailed_first {s : State} {m : Mon} {p : Port} {step : Nat} (hm : monPort m = some p)
    (hr : s.repeating m = false) (hc : s.rechecks m = false) :
    (s.checkFailed m step).gst p = s.gst p ∧
    (s.checkFailed m step).on GUARD.DEGRADED p = s.on GUARD.DEGRADED p ∧
    ((s.checkFailed m step).port p).guard.closing = (s.port p).guard.closing ∧
    ((s.checkFailed m step).port p).guard.recheck = (s.port p).guard.recheck := by
  unfold State.checkFailed
  rw [hr, hc, if_neg (show ¬(false || false) = true by decide)]
  unfold State.awaitRepeat State.noteCheck State.monEvent
  rw [hm]
  dsimp only
  refine ⟨?_, ?_, ?_, ?_⟩
  · unfold State.gst
    split <;> simp (disch := decide) only [State.grd_rd, rd_flag, rd_wr, event_rd]
  · split <;> simp (disch := decide) only [State.grd_on, on_flag, on_wr, event_on]
  · split <;> simp
  · split <;> simp

/-- An IFAST_CHECK that fails for the first time and was the last check a CLOSE_MATCHED waited for: the closure goes on, and the
repeat of the check (R303) is no longer awaited. -/
theorem ifastCheck_notAwaited {p : Port} {a b c d : Bool} {s : State} (hmay : s.mayIfast (.ifast p) = true)
    (hfail : ifastFails a b c d ≠ 0) (hr : s.repeating (.ifast p) = false) (hc : s.rechecks (.ifast p) = false)
    (hg : s.gst p = gPrecheck) (hclosing : (s.port p).guard.closing = .matchedCheck)
    (hlast : (s.port p).guard.recheck &&& ~~~(monBit (.ifast p) ||| if s.on GUARD.DEGRADED p then 3 else 0) = 0) :
    ∃ t, execIfastCheck (.ifast p) a b c d s = .next t ∧ t.repeating (.ifast p) = false := by
  refine ⟨_, congrArg Host.Outcome.next (if_pos hmay), repeating_of_idle rfl ?_⟩
  unfold State.ifastResult
  extract_lets again s1 s2
  have hgst : s2.gst p = s.gst p := by
    unfold s2 s1 State.checkRan State.gst
    dsimp only [monPort]
    rw [rd_wr _ _ _ _ _ _ (by decide), rd_bump _ _ _ _ _ (by decide)]
  have hdeg : s2.on GUARD.DEGRADED p = s.on GUARD.DEGRADED p := by
    unfold s2 s1 State.checkRan
    dsimp only [monPort]
    rw [on_wr _ _ _ _ _ _ (by decide), on_bump _ _ _ _ _ (by decide)]
  have hport : s2.port p = s.port p := rfl
  have hc2 : s2.rechecks (.ifast p) = false := by
    unfold State.rechecks at hc ⊢
    dsimp only [monPort] at hc ⊢
    rw [hgst, hport]
    exact hc
  obtain ⟨hstate, hdegraded, hclosure, hwaits⟩ :=
    checkFailed_first (s := s2) (m := .ifast p) (step := ifastFails a b c d) rfl hr hc2
  rw [if_pos hfail, show again = false from hr, checkEndsTest_awaiting]
  refine afterCheck_drives rfl (hstate.trans (hgst.trans hg)) (hclosure.trans hclosing) ?_
  rw [hwaits, hdegraded, hdeg]
  exact hlast

/-- Port 0 in a CLOSE_MATCHED after its FAILED marks were cleared (R304): IFAST and the CSP window have passed their checks, and
the check of VBUS window A that TEST_DEFERRAL_EXPIRY makes has marked it FAILED, so that no alternation is left to come. -/
def closureWithFailedWindow : State :=
  ((((State.reset.wr GUARD.STATE 0 gPrecheck).flag GUARD.A_FAILED 0 true).flag GUARD.DEGRADED 0 true).wr GUARD.PRIMARY 0
    1).grd 0 fun g => { g with closing := .matchedCheck, recheck := 3 }

/-- Refutes O25: its clause on a first failure of IFAST_CHECK has the monitor await its repeat when the command ends. In a
CLOSE_MATCHED whose remaining VBUS checks have fallen away with a FAILED window (R303), that check is the last the closure waits
for: the gate is driven all the same, and the change of the guard's state drops the repeat (`ifastCheck_notAwaited`). -/
theorem not_monitorsCrossAndAreChecked : ¬ Obligations.MonitorsCrossAndAreChecked := by
  intro h
  obtain ⟨-, -, -, -, -, -, -, -, -, -, -, -, -, -, -, -, -, hfirst, -⟩ := h
  have hmay : closureWithFailedWindow.mayIfast (.ifast 0) = true := by decide
  have hfail : ifastFails true false false false ≠ 0 := by decide
  have hrepeating : closureWithFailedWindow.repeating (.ifast 0) = false := by decide
  have hrechecks : closureWithFailedWindow.rechecks (.ifast 0) = false := by decide
  obtain ⟨t, ht, hawaits, -⟩ :=
    hfirst (.ifast 0) true false false false closureWithFailedWindow hmay hfail hrepeating hrechecks
  obtain ⟨u, hu, hdropped⟩ := ifastCheck_notAwaited hmay hfail hrepeating hrechecks (by decide) (by decide) (by decide)
  obtain rfl : t = u := Host.Outcome.next.inj (ht.symm.trans hu)
  exact absurd (hawaits.symm.trans hdropped) (by decide)

end Sys2Proof.Machine
end

section
/-! PROOFS. COMMIT_A (R278) where the register table holds more than a field's width: O29. -/
set_option linter.all false

namespace Sys2Proof.Machine

/-- The first `n` staged words of a port, copied to the active words of curve A. -/
def State.copiedToA (s : State) (p : Port) (n : Nat) : State :=
  (List.range n).foldl (fun t k => ((t.wr GUARD.CURVE_A_I (pidx p k) (s.rd GUARD.CURVE_STG_I (pidx p k))).wr
    GUARD.CURVE_A_E (pidx p k) (s.rd GUARD.CURVE_STG_E (pidx p k))).wr
    GUARD.CURVE_A_M (pidx p k) (s.rd GUARD.CURVE_STG_M (pidx p k))) s

theorem copiedToA_succ (s : State) (p : Port) (n : Nat) : s.copiedToA p (n + 1) =
    (((s.copiedToA p n).wr GUARD.CURVE_A_I (pidx p n) (s.rd GUARD.CURVE_STG_I (pidx p n))).wr
      GUARD.CURVE_A_E (pidx p n) (s.rd GUARD.CURVE_STG_E (pidx p n))).wr
      GUARD.CURVE_A_M (pidx p n) (s.rd GUARD.CURVE_STG_M (pidx p n)) := by
  unfold State.copiedToA
  rw [List.range_succ, List.foldl_append]
  rfl

/-- An accepted curve is copied word by word (R278). -/
theorem commitCurve_A {s : State} {p : Port} (hok : curveOk ((List.range 8).map fun k => s.stgPoint p k) = true)
    (hrsv : (s.port p).guard.stgRsv = 0) :
    s.commitCurve p GUARD.CURVE_A_I GUARD.CURVE_A_E GUARD.CURVE_A_M = (s.copiedToA p 8).flag GUARD.LAST_ERR p false := by
  have hpts : ((List.range 8).map fun k => (k, s.stgPoint p k)).map (·.2) = (List.range 8).map fun k => s.stgPoint p k :=
    List.map_map
  unfold State.commitCurve
  extract_lets pts
  rw [if_pos]
  · unfold pts
    rw [List.foldl_map]
    rfl
  · rw [hpts, hok, hrsv]
    rfl

/-- Each word that has been copied holds its staged value, cut to the field. -/
theorem copiedToA_current (s : State) (p : Port) {n k : Nat} (hn : n ≤ 16) (hk : k < n) :
    (s.copiedToA p n).rd GUARD.CURVE_A_I (pidx p k) =
      s.rd GUARD.CURVE_STG_I (pidx p k) % 2 ^ GUARD.CURVE_A_I.width := by
  induction n with
  | zero => exact absurd hk (Nat.not_lt_zero k)
  | succ n ih =>
    rw [copiedToA_succ, rd_wr _ _ _ _ _ _ (by decide), rd_wr _ _ _ _ _ _ (by decide)]
    by_cases h : k = n
    · rw [h, rd_wr_self]
    · have hp := p.isLt
      have hne : pidx p k ≠ pidx p n := by unfold pidx; omega
      rw [rd_wr_ne _ _ _ _ _ _ (key_ne_inst _ (by unfold pidx; omega) (by unfold pidx; omega) hne)]
      exact ih (by omega) (by omega)

/-- COMMIT_A of a curve that passes: each active current is its staged one, as the field's 12 bits hold it. -/
theorem commitA_currents {s : State} {p : Port} (hok : curveOk ((List.range 8).map fun k => s.stgPoint p k) = true)
    (hrsv : (s.port p).guard.stgRsv = 0) : ∃ t, execCommitA p s = .next t ∧ ∀ k, k < 8 →
      (t.curvePoint p false k).i = s.rd GUARD.CURVE_STG_I (pidx p k) % 2 ^ GUARD.CURVE_A_I.width := by
  refine ⟨_, congrArg Host.Outcome.next (commitCurve_A hok hrsv), fun k hk => ?_⟩
  exact (rd_flag _ _ _ _ _ _ (by decide)).trans (copiedToA_current s p (by decide) hk)

/-- Port 0 with a staged curve of rising currents and falling times, to whose last current the table gives 2^12, one more than
its 12 bits hold. -/
def stagedPastWidth : State :=
  let staged : State := (List.range 8).foldl (fun t k =>
    (t.wr GUARD.CURVE_STG_I (pidx 0 k) (10 + k)).wr GUARD.CURVE_STG_M (pidx 0 k) (8 - k)) State.reset
  { staged with regs := staged.regs.insert (GUARD.CURVE_STG_I.key (pidx 0 7)) (2 ^ GUARD.CURVE_STG_I.width) }

theorem stagedPastWidth_passes : curveOk ((List.range 8).map fun k => stagedPastWidth.stgPoint 0 k) = true := by
  decide

theorem stagedPastWidth_current :
    stagedPastWidth.rd GUARD.CURVE_STG_I (pidx (0 : Port) 7) = 2 ^ GUARD.CURVE_STG_I.width := by
  decide

/-- Refutes O29: its clause on COMMIT_A has every active point equal the staged one as the table gives it, in every state, and
asks nothing of the register table. Where the table gives a staged current a value that no write to its 12 bits leaves there,
the copy cuts it (`commitA_currents` has the clause's currents with the cut). -/
theorem not_guardHeatAndCurves : ¬ Obligations.GuardHeatAndCurves := by
  intro h
  obtain ⟨-, -, hcommit, -⟩ := h
  have hrsv : (stagedPastWidth.port 0).guard.stgRsv = 0 := by decide
  obtain ⟨t, ht, -, hpoints⟩ := hcommit 0 stagedPastWidth stagedPastWidth_passes hrsv
  obtain ⟨u, hu, hcut⟩ := commitA_currents stagedPastWidth_passes hrsv
  obtain rfl : t = u := Host.Outcome.next.inj (ht.symm.trans hu)
  have hlast := hcut 7 (by decide)
  rw [hpoints 7 (by decide), stagedPastWidth_current] at hlast
  exact absurd hlast (by decide)

end Sys2Proof.Machine
end

section
/-! PROOFS. The ledger's command packets (R329, R335, R343, R344): the record of a slot after a write and after a removal, the
ledger after an answer, what each command does with a well formed packet, and O33. -/
set_option linter.all false

namespace Sys2Proof.Machine

/-! ## The record of a slot (R335) -/

theorem lookup_putRec (slot : Nat) (r : LedRec) (l : List (Nat × LedRec)) : (putRec slot r l).lookup slot = some r := by
  induction l with
  | nil => exact List.lookup_cons_self
  | cons x l ih =>
    obtain ⟨k, y⟩ := x
    unfold putRec
    split
    · exact List.lookup_cons_self
    · split
      · exact List.lookup_cons_self
      · next hne => rw [List.lookup_cons, beq_false_of_ne (Ne.symm hne)]; exact ih

@[simp] theorem mirrorRecord_led (s : State) (slot : Nat) : (s.mirrorRecord slot).led = s.led :=
  (State.mirrorRecord_within s slot rfl (Within.refl 0x200000000000000000000000000000 0 s)).led rfl

@[simp] theorem journalDue_recs (s : State) (slot : Nat) : (s.journalDue slot).led.recs = s.led.recs := by
  unfold State.journalDue
  split <;> rfl

theorem putRecord_record (s : State) (slot : Nat) (r : LedRec) :
    (s.putRecord slot r).record slot = some { r with seq := (s.rd LEDGER.SEQ_NOW 0 + 1) % 2 ^ 32 } := by
  unfold State.putRecord State.record
  rw [mirrorRecord_led]
  exact lookup_putRec slot _ _

theorem journalDue_record (s : State) (slot i : Nat) : (s.journalDue slot).record i = s.record i := by
  unfold State.record
  rw [journalDue_recs]

theorem putRecord_rings (s : State) (slot : Nat) (r : LedRec) : (s.putRecord slot r).rings = s.rings :=
  (State.putRecord_within s slot r rfl (Within.refl 0x300000000000000000002000000000 0 s)).rings rfl

theorem journalDue_rings (s : State) (slot : Nat) : (s.journalDue slot).rings = s.rings :=
  (State.journalDue_within s slot rfl (Within.refl 0x100000000000000000000000000000 0 s)).rings rfl

theorem dropRecord_rings (s : State) (slot : Nat) : (s.dropRecord slot).rings = s.rings :=
  (State.dropRecord_within s slot rfl (Within.refl 0x300000000000000000002000000000 0 s)).rings rfl

/-- A removal takes the slot's record out of the ledger and nothing else. -/
theorem dropRecord_recs (s : State) (slot : Nat) :
    (s.dropRecord slot).led.recs = s.led.recs.filter fun x => x.1 != slot := by
  unfold State.dropRecord
  rw [mirrorRecord_led, journalDue_recs]
  rfl

theorem foldl_dropRecord_rings (l : List Nat) (s : State) : (l.foldl State.dropRecord s).rings = s.rings := by
  induction l generalizing s with
  | nil => rfl
  | cons i l ih => exact (ih _).trans (dropRecord_rings s i)

theorem foldl_dropRecord_mem (l : List Nat) (s : State) (x : Nat × LedRec) :
    x ∈ (l.foldl State.dropRecord s).led.recs ↔ x ∈ s.led.recs ∧ x.1 ∉ l := by
  induction l generalizing s with
  | nil => simp
  | cons i l ih =>
    rw [List.foldl_cons, ih, dropRecord_recs, List.mem_filter, List.mem_cons, bne_iff_ne]
    tauto

/-- A slot that no entry of the ledger names has no record. -/
theorem record_eq_none {s : State} {i : Nat} (h : ∀ x ∈ s.led.recs, x.1 ≠ i) : s.record i = none :=
  List.lookup_eq_none_iff.mpr fun x hx => bne_iff_ne.mpr (h x hx).symm

theorem dropRecord_record (s : State) (slot : Nat) : (s.dropRecord slot).record slot = none := by
  refine record_eq_none fun x hx => ?_
  rw [dropRecord_recs, List.mem_filter] at hx
  exact bne_iff_ne.mp hx.2

theorem foldl_dropRecord_record (l : List Nat) (s : State) {i : Nat} (hi : i ∈ l) :
    (l.foldl State.dropRecord s).record i = none := by
  refine record_eq_none fun x hx h => ?_
  obtain ⟨-, hout⟩ := (foldl_dropRecord_mem l s x).mp hx
  exact hout (h ▸ hi)

/-! ## The ledger after an answer -/

theorem respondArg_footprint (s : State) (k : Packet) (st : Nat) (a : Word) (l : List Byte) :
    Within 0x8001000000400000000000000038140000 0 s (s.respondArg k st a l) :=
  State.respondArg_within s k st a l rfl (Within.refl _ 0 s)

theorem respondArg_record (s : State) (k : Packet) (st : Nat) (a : Word) (l : List Byte) (i : Nat) :
    (s.respondArg k st a l).record i = s.record i := by
  unfold State.record
  rw [(respondArg_footprint s k st a l).led rfl]

theorem answer_record (s : State) (k : Packet) (st i : Nat) : (s.answer k st).record i = s.record i :=
  respondArg_record _ k st _ [] i

/-! ## Commands that are refused, and commands that are served (R471) -/

theorem offStandby_of_standby {s : State} (k : Packet) (f : State → State) (h : s.standby = true) :
    s.offStandby k f = s.answer k stDENIED := if_pos h

theorem offStandby_of_other {s : State} (k : Packet) (f : State → State) (h : s.standby = false) :
    s.offStandby k f = f s := if_neg (by simp [h])

theorem formed_of_bad (s : State) (k : Packet) (ok : Bool) (f : State → State) (h : ok = false) :
    s.formed k ok f = s.answer k stBAD_ARG := if_neg (by simp [h])

/-- A served command that ends in an answer without payload. -/
theorem serve_answers {s u : State} {k : Packet} {c : State → State} {st : Nat} (hs : s.serves = true)
    (hc : c s = u.answer k st) (hu : u.rings = s.rings) (h : AwaitsResponse k [] s) :
    ∃ t, (.next (s.serve k c) : Host.Outcome State Fault Refusal) = .next t ∧ Responded k st [] s t := by
  refine ⟨_, congrArg Host.Outcome.next ((serve_of_serves s k c hs).trans hc), answer_responded st h ?_⟩
  unfold State.ring
  rw [hu]

/-- A response of known ARG word, after steps that left the rings as they were. -/
theorem respondArg_responds {s u : State} {k : Packet} {a : Word} {l : List Byte} (hu : u.rings = s.rings)
    (h : AwaitsResponse k l s) : ∃ n, ((u.respondArg k stOK a l).ring 4).entries =
      (s.ring 4).entries ++ [.pkt { k with flags := 0, arg := a, payload := l } n] := by
  have hring : u.ring 4 = s.ring 4 := by unfold State.ring; rw [hu]
  refine ⟨(s.ring 4).seq % 2 ^ 32, ?_⟩
  rw [← hring]
  exact respondArg_entries u k stOK a l (h.of_entries (by rw [hring]))

/-- A served command that ends in a response of known ARG word. -/
theorem serve_responds {s u : State} {k : Packet} {c : State → State} {a : Word} {l : List Byte} (hs : s.serves = true)
    (hc : c s = u.respondArg k stOK a l) (hu : u.rings = s.rings) (h : AwaitsResponse k l s) :
    ∃ t n, (.next (s.serve k c) : Host.Outcome State Fault Refusal) = .next t ∧
      (t.ring 4).entries = (s.ring 4).entries ++ [.pkt { k with flags := 0, arg := a, payload := l } n] := by
  obtain ⟨n, hn⟩ := respondArg_responds (a := a) hu h
  exact ⟨_, n, congrArg Host.Outcome.next ((serve_of_serves s k c hs).trans hc), hn⟩

/-- LEDGER_FIND, LEDGER_WRITE_USER, LEDGER_EXPORT and LEDGER_PURGE on a standby. -/
theorem serve_denied {s : State} {k : Packet} {c f : State → State} (hs : s.serves = true) (hb : s.standby = true)
    (hc : c s = s.offStandby k f) (h : AwaitsResponse k [] s) :
    ∃ t, (.next (s.serve k c) : Host.Outcome State Fault Refusal) = .next t ∧ Responded k stDENIED [] s t :=
  serve_answers hs (hc.trans (offStandby_of_standby k f hb)) rfl h

/-! ## LEDGER_READ (R343) -/

theorem cmdLedgerRead_record {s : State} {k : Packet} {r : LedRec} (ht : k.tgt < ledgerSlots) (hp : k.plain = true)
    (hr : s.record k.tgt = some r) : s.cmdLedgerRead k = s.respond k stOK (recBytes r) := by
  unfold State.cmdLedgerRead
  rw [formed_of_ok _ _ _ _ (by simp [ht, hp]), hr]

theorem cmdLedgerRead_empty {s : State} {k : Packet} (ht : k.tgt < ledgerSlots) (hp : k.plain = true)
    (hr : s.record k.tgt = none) : s.cmdLedgerRead k = s.answer k stOK := by
  unfold State.cmdLedgerRead
  rw [formed_of_ok _ _ _ _ (by simp [ht, hp]), hr]
  rfl

theorem cmdLedgerRead_refused {s : State} {k : Packet} (h : ledgerSlots ≤ k.tgt ∨ k.plain = false) :
    s.cmdLedgerRead k = s.answer k stBAD_ARG :=
  formed_of_bad _ _ _ _ (by rcases h with h | h <;> simp [h])

/-! ## LEDGER_FIND (R343) -/

/-- The ARG word of LEDGER_FIND: a slot, or all ones where there is none. -/
def foundWord (x : Option Nat) : Word := BitVec.ofNat 32 (x.getD 0xFFFFFFFF)

theorem cmdLedgerFind_port {s : State} {k : Packet} {p : Port} (hb : s.standby = false) (hp : k.portOf = some p) :
    s.cmdLedgerFind k = s.formed k k.plain fun s =>
      s.respondArg k stOK (foundWord (if s.on LEDGER.SESSION p then (s.port p).sess.slot else none)) [] := by
  unfold State.cmdLedgerFind
  rw [offStandby_of_other _ _ hb, hp]
  rfl

theorem cmdLedgerFind_key {s : State} {k : Packet} (hb : s.standby = false) (hp : k.portOf = none) :
    s.cmdLedgerFind k = s.formed k (k.chip && decide (k.len = 8) && k.arg == 0) fun s =>
      s.respondArg k stOK (foundWord (s.findKey (leNat k.payload))) [] := by
  unfold State.cmdLedgerFind
  rw [offStandby_of_other _ _ hb, hp]
  rfl

theorem findForm_eq_false {k : Packet} (h : k.chip = false ∨ k.len ≠ 8 ∨ k.arg ≠ 0) :
    (k.chip && decide (k.len = 8) && k.arg == 0) = false := by
  rw [Bool.and_eq_false_iff, Bool.and_eq_false_iff, beq_eq_false_iff_ne, decide_eq_false_iff_not]
  tauto

/-! ## LEDGER_WRITE_USER (R343) -/

theorem recFlag_setRecFlag (r : LedRec) (v : Bool) : recFlag (setRecFlag r rfPinned v) rfPinned = v := by
  unfold recFlag setRecFlag rfPinned
  cases v <;> simp

/-- The record that LEDGER_WRITE_USER writes. -/
def userRecord (k : Packet) (r : LedRec) : LedRec :=
  { (if k.ar = 1 then setRecFlag r rfPinned true else if k.ar = 2 then setRecFlag r rfPinned false else r) with
    user := k.payload }

theorem userRecord_pinned (k : Packet) (r : LedRec) : recFlag (userRecord k r) rfPinned =
    if k.ar = 1 then true else if k.ar = 2 then false else recFlag r rfPinned := by
  show recFlag (if k.ar = 1 then _ else _) rfPinned = _
  split
  · exact recFlag_setRecFlag r true
  · split
    · exact recFlag_setRecFlag r false
    · rfl

theorem cmdLedgerWriteUser_record {s : State} {k : Packet} {r : LedRec} (hb : s.standby = false) (ht : k.tgt < ledgerSlots)
    (ha : k.ar < 3) (hn : k.len = 16) (hr : s.record k.tgt = some r) : s.cmdLedgerWriteUser k =
      ((s.putRecord k.tgt (userRecord k r)).journalDue k.tgt).answer k stOK := by
  unfold State.cmdLedgerWriteUser
  rw [offStandby_of_other _ _ hb, formed_of_ok _ _ _ _ (by simp [ht, ha, hn]), hr]
  rfl

theorem cmdLedgerWriteUser_empty {s : State} {k : Packet} (hb : s.standby = false) (ht : k.tgt < ledgerSlots)
    (ha : k.ar < 3) (hn : k.len = 16) (hr : s.record k.tgt = none) : s.cmdLedgerWriteUser k = s.answer k stBAD_ARG := by
  unfold State.cmdLedgerWriteUser
  rw [offStandby_of_other _ _ hb, formed_of_ok _ _ _ _ (by simp [ht, ha, hn]), hr]

theorem cmdLedgerWriteUser_refused {s : State} {k : Packet} (hb : s.standby = false)
    (h : ledgerSlots ≤ k.tgt ∨ 3 ≤ k.ar ∨ k.len ≠ 16) : s.cmdLedgerWriteUser k = s.answer k stBAD_ARG := by
  unfold State.cmdLedgerWriteUser
  rw [offStandby_of_other _ _ hb]
  exact formed_of_bad _ _ _ _ (decide_eq_false (by omega))

theorem writeUser_writes {s : State} {k : Packet} {r : LedRec} (hs : s.serves = true) (hb : s.standby = false)
    (ht : k.tgt < ledgerSlots) (ha : k.ar < 3) (hn : k.len = 16) (hr : s.record k.tgt = some r)
    (h : AwaitsResponse k [] s) : ∃ t, execLedgerWriteUser k s = .next t ∧ Responded k stOK [] s t ∧
      (t.record k.tgt).map (·.user) = some k.payload ∧ (t.record k.tgt).map (recFlag · rfPinned) =
        some (if k.ar = 1 then true else if k.ar = 2 then false else recFlag r rfPinned) := by
  refine ⟨_, congrArg Host.Outcome.next ((serve_of_serves s k _ hs).trans (cmdLedgerWriteUser_record hb ht ha hn hr)),
    answer_responded stOK h ?_, ?_, ?_⟩
  · unfold State.ring
    rw [journalDue_rings, putRecord_rings]
  · rw [answer_record, journalDue_record, putRecord_record]
    rfl
  · rw [answer_record, journalDue_record, putRecord_record, ← userRecord_pinned]
    rfl

/-! ## LEDGER_EXPORT (R343, R344) -/

/-- The records that LEDGER_EXPORT names, from the slot of ARG on. -/
def State.exported (s : State) (k : Packet) : List (Nat × LedRec) :=
  s.led.recs.filter fun x => decide (k.ar % 8192 ≤ x.1) && (!k.ar.testBit 31 || decide (s.rd LEDGER.MARK 0 < x.2.seq))

/-- The ARG word of LEDGER_EXPORT, from the records that are left. -/
def exportNext : List (Nat × LedRec) → Word
  | x :: _ => BitVec.ofNat 32 x.1
  | [] => 0xFFFFFFFF

/-- LEDGER_EXPORT at the end of the records moves EXPORT_MARK where bit 30 of ARG asks for it. -/
def State.exportMarked (s : State) (k : Packet) : State :=
  if ((s.exported k).drop 31).isEmpty && k.ar.testBit 30 then s.wr LEDGER.MARK 0 (s.rd LEDGER.SEQ_NOW 0) else s

theorem exportMarked_rings (s : State) (k : Packet) : (s.exportMarked k).rings = s.rings := by
  unfold State.exportMarked
  split <;> rfl

theorem cmdLedgerExport_eq {s : State} {k : Packet} (hb : s.standby = false) (hc : k.chip = true) (hp : k.payload = [])
    (ha : bits k.ar 29 13 = 0) : s.cmdLedgerExport k = (s.exportMarked k).respondArg k stOK
      (exportNext ((s.exported k).drop 31)) (((s.exported k).take 31).flatMap exportEntry) := by
  unfold State.cmdLedgerExport
  rw [offStandby_of_other _ _ hb, formed_of_ok _ _ _ _ (by simp [hc, hp, ha])]
  rfl

theorem cmdLedgerExport_refused {s : State} {k : Packet} (hb : s.standby = false)
    (h : k.chip = false ∨ k.payload ≠ [] ∨ bits k.ar 29 13 ≠ 0) : s.cmdLedgerExport k = s.answer k stBAD_ARG := by
  unfold State.cmdLedgerExport
  rw [offStandby_of_other _ _ hb]
  exact formed_of_bad _ _ _ _ (by rcases h with h | h | h <;> simp [h])

theorem export_marks {s : State} {k : Packet} (hs : s.serves = true) (hb : s.standby = false) (hc : k.chip = true)
    (hp : k.payload = []) (ha : bits k.ar 29 13 = 0) (h30 : k.ar.testBit 30 = true)
    (hend : ((s.exported k).drop 31).isEmpty = true) : ∃ t, execLedgerExport k s = .next t ∧
      t.rd LEDGER.MARK 0 = s.rd LEDGER.SEQ_NOW 0 % 2 ^ LEDGER.MARK.width := by
  refine ⟨_, congrArg Host.Outcome.next ((serve_of_serves s k _ hs).trans (cmdLedgerExport_eq hb hc hp ha)), ?_⟩
  rw [(respondArg_footprint _ k _ _ _).rd _ _ (by decide)]
  unfold State.exportMarked
  rw [if_pos (by rw [hend, h30]; rfl), rd_wr_self]

/-! ## LEDGER_PURGE (R343) -/

/-- The forms of LEDGER_PURGE. -/
def purgeForm (k : Packet) : Bool :=
  k.payload.isEmpty && (
    if k.ar / 2 ^ 24 = 0 then decide (k.tgt < ledgerSlots ∧ k.ar = 0)
    else if k.ar / 2 ^ 24 = 1 then k.chip && k.ar % 2 ^ 24 == 0
    else decide (k.ar / 2 ^ 24 = 2) && k.chip && bits k.ar 23 16 == 0)

/-- LEDGER_PURGE of the target's slot. -/
def State.purgeSlot (s : State) (k : Packet) : State :=
  match s.record k.tgt with
  | some r => if keepsPurge r then s.answer k stDENIED else (s.dropRecord k.tgt).respondArg k stOK 1 []
  | none => s.respondArg k stOK 0 []

theorem cmdLedgerPurge_formed {s : State} {k : Packet} (hb : s.standby = false) (h : purgeForm k = true) :
    s.cmdLedgerPurge k = if k.ar / 2 ^ 24 = 0 then s.purgeSlot k else
      ((s.purgeList k).foldl State.dropRecord s).respondArg k stOK (BitVec.ofNat 32 (s.purgeList k).length) [] := by
  unfold State.cmdLedgerPurge
  rw [offStandby_of_other _ _ hb]
  exact formed_of_ok _ _ _ _ h

theorem cmdLedgerPurge_one {s : State} {k : Packet} (hb : s.standby = false) (hp : k.payload.isEmpty = true)
    (ha : k.ar = 0) (ht : k.tgt < ledgerSlots) : s.cmdLedgerPurge k = s.purgeSlot k := by
  have hkind : k.ar / 2 ^ 24 = 0 := by omega
  have hform : purgeForm k = true := by
    unfold purgeForm
    rw [hp, if_pos hkind, decide_eq_true ⟨ht, ha⟩]
    rfl
  rw [cmdLedgerPurge_formed hb hform, if_pos hkind]

theorem cmdLedgerPurge_many {s : State} {k : Packet} (hb : s.standby = false) (hp : k.payload.isEmpty = true)
    (hc : k.chip = true)
    (h : (k.ar / 2 ^ 24 = 1 ∧ k.ar % 2 ^ 24 = 0) ∨ (k.ar / 2 ^ 24 = 2 ∧ bits k.ar 23 16 = 0)) : s.cmdLedgerPurge k =
      ((s.purgeList k).foldl State.dropRecord s).respondArg k stOK (BitVec.ofNat 32 (s.purgeList k).length) [] := by
  have hkind : k.ar / 2 ^ 24 ≠ 0 := by omega
  have hform : purgeForm k = true := by
    unfold purgeForm
    rw [hp, if_neg hkind, hc]
    rcases h with ⟨hall, hzero⟩ | ⟨hold, hzero⟩
    · rw [if_pos hall, hzero]
      rfl
    · rw [if_neg (by omega), hold, hzero]
      rfl
  rw [cmdLedgerPurge_formed hb hform, if_neg hkind]

theorem cmdLedgerPurge_refused {s : State} {k : Packet} (hb : s.standby = false) (h : purgeForm k = false) :
    s.cmdLedgerPurge k = s.answer k stBAD_ARG := by
  unfold State.cmdLedgerPurge
  rw [offStandby_of_other _ _ hb]
  exact formed_of_bad _ _ _ _ h

theorem purgeForm_eq_false {k : Packet} (h : k.payload.isEmpty = false ∨ 3 ≤ k.ar / 2 ^ 24 ∨
    (k.ar / 2 ^ 24 = 0 ∧ (ledgerSlots ≤ k.tgt ∨ k.ar ≠ 0)) ∨
    (k.ar / 2 ^ 24 = 1 ∧ (k.chip = false ∨ k.ar % 2 ^ 24 ≠ 0)) ∨
    (k.ar / 2 ^ 24 = 2 ∧ (k.chip = false ∨ bits k.ar 23 16 ≠ 0))) : purgeForm k = false := by
  unfold purgeForm
  rcases h with h | h | ⟨h, h'⟩ | ⟨h, h'⟩ | ⟨h, h'⟩
  · rw [h, Bool.false_and]
  · rw [if_neg (by omega), if_neg (by omega), decide_eq_false (by omega), Bool.false_and, Bool.false_and, Bool.and_false]
  · rw [if_pos h, decide_eq_false (by omega), Bool.and_false]
  · rw [if_neg (by omega), if_pos h]
    rcases h' with h' | h' <;> simp [-Nat.reducePow, h']
  · rw [if_neg (by omega), if_neg (by omega)]
    rcases h' with h' | h' <;> simp [h']

theorem purgeSlot_empty {s : State} {k : Packet} (hr : s.record k.tgt = none) :
    s.purgeSlot k = s.respondArg k stOK 0 [] := by
  unfold State.purgeSlot
  rw [hr]

theorem purgeSlot_drops {s : State} {k : Packet} {r : LedRec} (hr : s.record k.tgt = some r) (hk : keepsPurge r = false) :
    s.purgeSlot k = (s.dropRecord k.tgt).respondArg k stOK 1 [] := by
  unfold State.purgeSlot
  rw [hr]
  exact if_neg (by simp [hk])

theorem purgeSlot_keeps {s : State} {k : Packet} {r : LedRec} (hr : s.record k.tgt = some r) (hk : keepsPurge r = true) :
    s.purgeSlot k = s.answer k stDENIED := by
  unfold State.purgeSlot
  rw [hr]
  exact if_pos hk

theorem purge_drops {s : State} {k : Packet} {r : LedRec} (hs : s.serves = true) (hb : s.standby = false)
    (hp : k.payload.isEmpty = true) (ha : k.ar = 0) (ht : k.tgt < ledgerSlots) (hr : s.record k.tgt = some r)
    (hk : keepsPurge r = false) (h : AwaitsResponse k [] s) : ∃ t n, execLedgerPurge k s = .next t ∧
      (t.ring 4).entries = (s.ring 4).entries ++ [.pkt { k with flags := 0, arg := 1, payload := [] } n] ∧
      t.record k.tgt = none := by
  obtain ⟨n, hn⟩ := respondArg_responds (a := 1) (dropRecord_rings s k.tgt) h
  refine ⟨_, n, congrArg Host.Outcome.next ((serve_of_serves s k _ hs).trans
    ((cmdLedgerPurge_one hb hp ha ht).trans (purgeSlot_drops hr hk))), hn, ?_⟩
  rw [respondArg_record, dropRecord_record]

theorem purge_many {s : State} {k : Packet} (hs : s.serves = true) (hb : s.standby = false)
    (hp : k.payload.isEmpty = true) (hc : k.chip = true)
    (hkind : (k.ar / 2 ^ 24 = 1 ∧ k.ar % 2 ^ 24 = 0) ∨ (k.ar / 2 ^ 24 = 2 ∧ bits k.ar 23 16 = 0))
    (h : AwaitsResponse k [] s) : ∃ t n, execLedgerPurge k s = .next t ∧
      (t.ring 4).entries = (s.ring 4).entries ++
        [.pkt { k with flags := 0, arg := BitVec.ofNat 32 (s.purgeList k).length, payload := [] } n] ∧
      (s.purgeList k).all (fun i => (t.record i).isNone) = true := by
  obtain ⟨n, hn⟩ := respondArg_responds (a := BitVec.ofNat 32 (s.purgeList k).length)
    (foldl_dropRecord_rings (s.purgeList k) s) h
  refine ⟨_, n, congrArg Host.Outcome.next ((serve_of_serves s k _ hs).trans (cmdLedgerPurge_many hb hp hc hkind)), hn, ?_⟩
  refine List.all_eq_true.mpr fun i hi => ?_
  rw [respondArg_record, foldl_dropRecord_record _ s hi]
  rfl

/-- Settles O33, command by command: each well formed packet by its answer, then the refusals. -/
theorem ledgerCommandsAnswer : Obligations.LedgerCommandsAnswer := by
  unfold Obligations.LedgerCommandsAnswer
  refine ⟨?read, ?readEmpty, ?readBad, ?findKey, ?findPort, ?findPortBad, ?findKeyBad, ?findStandby, ?write, ?writeEmpty,
    ?writeBad, ?writeStandby, ?exports, ?exportMark, ?exportBad, ?exportStandby, ?purgeEmpty, ?purge, ?purgeKept, ?purgeMany,
    ?purgeBad, ?purgeStandby⟩
  case read =>
    exact fun k r s hs ht hp hr h => ⟨_, congrArg Host.Outcome.next ((serve_of_serves s k _ hs).trans
      (cmdLedgerRead_record ht hp hr)), respond_responded s k stOK _ _ h rfl⟩
  case readEmpty => exact fun k s hs ht hp hr h => serve_answers hs (cmdLedgerRead_empty ht hp hr) rfl h
  case readBad => exact fun k s hs hbad h => serve_answers hs (cmdLedgerRead_refused hbad) rfl h
  case findKey =>
    exact fun k s hs hb hp hc hn ha h => serve_responds hs
      ((cmdLedgerFind_key hb hp).trans (formed_of_ok _ _ _ _ (by simp [hc, hn, ha]))) rfl h
  case findPort =>
    exact fun k p s hs hb hp hplain h => serve_responds hs ((cmdLedgerFind_port hb hp).trans (formed_of_ok _ _ _ _ hplain))
      rfl h
  case findPortBad =>
    exact fun k p s hs hb hp hplain h => serve_answers hs ((cmdLedgerFind_port hb hp).trans (formed_of_bad _ _ _ _ hplain))
      rfl h
  case findKeyBad =>
    exact fun k s hs hb hp hbad h => serve_answers hs ((cmdLedgerFind_key hb hp).trans
      (formed_of_bad _ _ _ _ (findForm_eq_false hbad))) rfl h
  case findStandby => exact fun k s hs hb h => serve_denied hs hb rfl h
  case write => exact fun k r s hs hb ht ha hn hr h => writeUser_writes hs hb ht ha hn hr h
  case writeEmpty =>
    exact fun k s hs hb ht ha hn hr h => serve_answers hs (cmdLedgerWriteUser_empty hb ht ha hn hr) rfl h
  case writeBad => exact fun k s hs hb hbad h => serve_answers hs (cmdLedgerWriteUser_refused hb hbad) rfl h
  case writeStandby => exact fun k s hs hb h => serve_denied hs hb rfl h
  case exports =>
    exact fun k s hs hb hc hp ha h => serve_responds hs (cmdLedgerExport_eq hb hc hp ha) (exportMarked_rings s k) h
  case exportMark => exact fun k s hs hb hc hp ha h30 hend => export_marks hs hb hc hp ha h30 hend
  case exportBad => exact fun k s hs hb hbad h => serve_answers hs (cmdLedgerExport_refused hb hbad) rfl h
  case exportStandby => exact fun k s hs hb h => serve_denied hs hb rfl h
  case purgeEmpty =>
    exact fun k s hs hb hp ha ht hr h =>
      serve_responds hs ((cmdLedgerPurge_one hb hp ha ht).trans (purgeSlot_empty hr)) rfl h
  case purge => exact fun k r s hs hb hp ha ht hr hk h => purge_drops hs hb hp ha ht hr hk h
  case purgeKept =>
    exact fun k r s hs hb hp ha ht hr hk h =>
      serve_answers hs ((cmdLedgerPurge_one hb hp ha ht).trans (purgeSlot_keeps hr hk)) rfl h
  case purgeMany => exact fun k s hs hb hp hc hkind h => purge_many hs hb hp hc hkind h
  case purgeBad =>
    exact fun k s hs hb hbad h => serve_answers hs (cmdLedgerPurge_refused hb (purgeForm_eq_false hbad)) rfl h
  case purgeStandby => exact fun k s hs hb h => serve_denied hs hb rfl h

end Sys2Proof.Machine
end

section
/-! PROOFS. Sessions of the partner ledger (R329 to R333, R336, R338 to R340): what a step of *Identity gathering* and of
*Authentication* leaves of the session, the key, the journal and its compaction, and O34. -/
set_option linter.all false

namespace Sys2Proof.Machine

/-! ## Operations that keep the session -/

theorem port_sess_self (s : State) (p : Port) (f : Session → Session) :
    (s.sess p f).port p = { s.port p with sess := f (s.port p).sess } := port_modPort_self s p _

theorem sess_rd (s : State) (p : Port) (f : Session → Session) (F : Field) (i : Nat) : (s.sess p f).rd F i = s.rd F i := rfl

theorem sess_on (s : State) (p : Port) (f : Session → Session) (F : Field) (i : Nat) : (s.sess p f).on F i = s.on F i := rfl

/-- From `s` to `t` port `p` keeps its session and the record of its policy engine. -/
structure KeepsSession (p : Port) (s t : State) : Prop where
  pe : (t.port p).pe = (s.port p).pe
  sess : (t.port p).sess = (s.port p).sess

namespace KeepsSession

variable {p : Port} {s t u : State}

theorem refl (p : Port) (s : State) : KeepsSession p s s := ⟨rfl, rfl⟩

theorem trans (a : KeepsSession p s t) (b : KeepsSession p t u) : KeepsSession p s u :=
  ⟨b.pe.trans a.pe, b.sess.trans a.sess⟩

theorem of_port (h : t.port p = s.port p) : KeepsSession p s t := ⟨by rw [h], by rw [h]⟩

theorem of_within {m : Nat} (w : Within m 0 s t) (hall : m.testBit areaAllRec = false)
    (hown : m.testBit areaOwnRec = false) : KeepsSession p s t := of_port (w.ports p hall (.inl hown))

theorem of_speaks (h : Speaks p s t) : KeepsSession p s t := by
  obtain ⟨y, x, ht, -⟩ := h.port
  exact ⟨by rw [ht], by rw [ht]⟩

theorem ite {c : Prop} [Decidable c] (ht : KeepsSession p s t) (hu : KeepsSession p s u) :
    KeepsSession p s (if c then t else u) := by
  split
  · exact ht
  · exact hu

theorem wr (h : KeepsSession p s t) (F : Field) (i v : Nat) : KeepsSession p s (t.wr F i v) := ⟨h.pe, h.sess⟩

theorem flag (h : KeepsSession p s t) (F : Field) (i : Nat) (b : Bool) : KeepsSession p s (t.flag F i b) := h.wr F i _

theorem bump (h : KeepsSession p s t) (F : Field) (i : Nat) : KeepsSession p s (t.bump F i) := h.wr F i _

theorem irq (h : KeepsSession p s t) (pg i b : Nat) : KeepsSession p s (t.irq pg i b) := h.wr _ i _

/-- An event of the ledger goes to no port's ring, so no session notes it (R335, R359). -/
theorem eventSev (h : KeepsSession p s t) (k : EvKind) (sev n d4 d5 d6 d7 : Nat) (hk : k.ring ≠ .port) :
    KeepsSession p s (t.eventSev k sev n d4 d5 d6 d7) :=
  h.trans (of_within (State.eventSev_sys t k sev n d4 d5 d6 d7 hk (m := 0x400000000000000000140000) rfl
    (Within.refl _ 0 t)) rfl rfl)

theorem event (h : KeepsSession p s t) (k : EvKind) (n d4 d5 d6 d7 : Nat) (hk : k.ring ≠ .port) :
    KeepsSession p s (t.event k n d4 d5 d6 d7) := h.eventSev k _ n d4 d5 d6 d7 hk

theorem modRecord (h : KeepsSession p s t) (slot : Nat) (f : LedRec → LedRec) : KeepsSession p s (t.modRecord slot f) :=
  h.trans (of_within (State.modRecord_within t slot f rfl (Within.refl 0x300000000000000000002000000000 0 t)) rfl rfl)

theorem gradeRecord (h : KeepsSession p s t) (n slot : Nat) (r : LedRec) : KeepsSession p s (t.gradeRecord n slot r) :=
  h.trans (of_within (State.gradeRecord_within t n slot r rfl (Within.refl 0x300000400000000000003000140000 0 t)) rfl rfl)

theorem journalDue (h : KeepsSession p s t) (slot : Nat) : KeepsSession p s (t.journalDue slot) :=
  h.trans (of_within (State.journalDue_within t slot rfl (Within.refl 0x100000000000000000000000000000 0 t)) rfl rfl)

theorem dropRecord (h : KeepsSession p s t) (slot : Nat) : KeepsSession p s (t.dropRecord slot) :=
  h.trans (of_within (State.dropRecord_within t slot rfl (Within.refl 0x300000000000000000002000000000 0 t)) rfl rfl)

theorem seedRext (h : KeepsSession p s t) (r : Nat) : KeepsSession p s (t.seedRext p r) := by
  refine h.trans ⟨?_, ?_⟩
  all_goals
    unfold State.seedRext State.showREst
    rw [State.wr_port, port_model_self]
    rfl

end KeepsSession

/-! ## A message that Twill asks for or has taken -/

/-- A message that begins an AMS changes neither the session nor the policy engine's record. -/
theorem sendAms_keeps (s : State) (p : Port) (m : PdMsg) (b : Body) : KeepsSession p s (s.sendAms p m b) :=
  .of_speaks ((Speaks.refl p s).sendAms m b)

/-- The answer of a step is taken, and nothing is awaited any more. -/
theorem idAnswered_port (s : State) (p : Port) (m : PdMsg) : ((s.idAnswered p m).port p).sess = (s.port p).sess ∧
    ((s.idAnswered p m).port p).pe = { (s.port p).pe with await := .none } := by
  have hended : KeepsSession p ((s.take p m).pe p fun e => { e with await := .none }) (s.idAnswered p m) :=
    .of_speaks (Speaks.refl p _).amsEnd
  refine ⟨hended.sess.trans ?_, hended.pe.trans ?_⟩
  · rw [port_pe_self, take_port]
  · rw [port_pe_self, take_port]

theorem idAnswered_rev3 (s : State) (p : Port) (m : PdMsg) : (s.idAnswered p m).rev3 p = s.rev3 p := by
  have hended : Speaks p ((s.take p m).pe p fun e => { e with await := .none }) (s.idAnswered p m) :=
    (Speaks.refl p _).amsEnd
  unfold State.rev3
  rw [hended.rd _ _ (by decide) (by decide), State.pe_rd, take_rd]

/-! ## The key (R329, R330, R332, R339) -/

/-- From `s` to `t` the key of port `p` has been formed, and gathering stands where it stood. -/
structure KeyFormed (p : Port) (s t : State) : Prop where
  known : (t.port p).sess.known = true
  idStep : (t.port p).sess.idStep = (s.port p).sess.idStep

theorem KeyFormed.andThen {p : Port} {s t u : State} (h : KeyFormed p s t) (k : KeepsSession p t u) : KeyFormed p s u :=
  ⟨by rw [k.sess, h.known], by rw [k.sess, h.idStep]⟩

theorem KeepsSession.andForms {p : Port} {s t u : State} (k : KeepsSession p s t) (h : KeyFormed p t u) :
    KeyFormed p s u := ⟨h.known, by rw [h.idStep, k.sess]⟩

theorem anonymous_formed (s : State) (p : Port) : KeyFormed p s (s.anonymous p) := by
  unfold State.anonymous
  exact ⟨by rw [State.flag_port, port_sess_self], by rw [State.flag_port, port_sess_self]⟩

theorem takeRecord_formed (s : State) (p : Port) (slot : Nat) (r : LedRec) : KeyFormed p s (s.takeRecord p slot r) := by
  unfold State.takeRecord
  extract_lets x b drp r1 r2 r3 s1 s2
  have htaken : KeyFormed p s (s.sess p fun y => { y with
      slot := some slot, known := true, order := s.nextOrder p slot }) :=
    ⟨by rw [port_sess_self], by rw [port_sess_self]⟩
  have hs1 : KeyFormed p s s1 := htaken.andThen ((KeepsSession.refl p _).gradeRecord p slot r3)
  have hs2 : KeyFormed p s s2 := hs1.andThen (((KeepsSession.refl p s1).wr _ _ _).wr _ _ _)
  exact hs2.andThen (.ite (.refl p s2) ((KeepsSession.refl p s2).seedRext _))

theorem newSlot_keeps (s : State) (p : Port) : KeepsSession p s (s.newSlot p).2 := by
  have hs := KeepsSession.refl p s
  unfold State.newSlot
  extract_lets n
  split
  · exact hs
  · split
    · exact ((hs.event _ _ _ _ _ _ (by decide)).bump _ _).dropRecord _
    · exact (((hs.flag _ _ _).event _ _ _ _ _ _ (by decide)).irq _ _ _).bump _ _

/-- The slot that a key is found in holds a record. -/
theorem record_of_findKey {s : State} {key slot : Nat} (h : s.findKey key = some slot) : s.record slot ≠ none := by
  unfold State.findKey at h
  obtain ⟨x, hx, rfl⟩ := Option.map_eq_some_iff.mp h
  intro hnone
  exact absurd rfl (bne_iff_ne.mp (List.lookup_eq_none_iff.mp hnone x (List.mem_of_find?_eq_some hx)))

/-- Step 6 ends with the key known, in a record or anonymous. -/
theorem formKey_formed (s : State) (p : Port) : KeyFormed p s (s.formKey p) := by
  unfold State.formKey
  extract_lets x
  split
  next vid pid xid _ =>
    split
    · exact anonymous_formed s p
    · extract_lets key
      split
      next slot hfound =>
        split
        next r q _ _ =>
          extract_lets s1
          have hs1 : KeyFormed p s s1 := (takeRecord_formed s p slot _).andThen
            ((KeepsSession.refl p _).event EV.DUP_KEY_SEEN _ _ _ _ _ (by decide))
          have hdup : KeyFormed p s (((s1.bump LEDGER.DUP_KEY_CNT 0).irq LEDGER.page 0 LEDGER.IRQ_DUP_KEY).flag
              LEDGER.DUP p true) := hs1.andThen ((((KeepsSession.refl p s1).bump _ _).irq _ _ _).flag _ _ _)
          exact ⟨by rw [port_sess_self]; exact hdup.known, by rw [port_sess_self]; exact hdup.idStep⟩
        next r _ _ => exact takeRecord_formed s p slot r
        next hnone => exact absurd hnone (record_of_findKey hfound)
      next =>
        have hslot := newSlot_keeps s p
        split
        next slot s1 hnew =>
          rw [hnew] at hslot
          extract_lets s2
          have hs2 : KeyFormed p s s2 := (hslot.andForms (takeRecord_formed s1 p slot _)).andThen
            (((KeepsSession.refl p _).journalDue _).event EV.PARTNER_NEW _ _ _ _ _ (by decide))
          exact hs2.andThen (((KeepsSession.refl p s2).bump _ _).irq _ _ _)
        next s1 hnew =>
          rw [hnew] at hslot
          exact hslot.andForms (anonymous_formed s1 p)

/-! ## Identity gathering (R329 to R331) -/

/-- Gathering is over and the key is formed. -/
theorem gathered_known (s : State) (p : Port) :
    ((((s.sess p fun y => { y with idStep := 0 }).formKey p).port p).sess.idStep = 0) ∧
      (((s.sess p fun y => { y with idStep := 0 }).formKey p).port p).sess.known = true := by
  have hformed := formKey_formed (s.sess p fun y => { y with idStep := 0 }) p
  exact ⟨hformed.idStep.trans (by rw [port_sess_self]), hformed.known⟩

theorem idThird_asks {s : State} {p : Port} (h : s.rev3 p = true) :
    ((s.idThird p).port p).sess = { (s.port p).sess with idStep := 3 } ∧
      ((s.idThird p).port p).pe.await = .manufInfo := by
  unfold State.idThird
  rw [if_pos h, (sendAms_keeps _ p _ _).sess, (sendAms_keeps _ p _ _).pe, port_pe_self, port_sess_self]
  exact ⟨rfl, rfl⟩

theorem idThird_ends {s : State} {p : Port} (h : s.rev3 p = false) :
    ((s.idThird p).port p).sess.idStep = 0 ∧ ((s.idThird p).port p).sess.known = true := by
  unfold State.idThird
  rw [if_neg (by simp [h])]
  exact gathered_known s p

theorem idSecond_asks {s : State} {p : Port} (h : s.rd PD.HDR_DATA_ROLE p = 1) :
    ((s.idSecond p).port p).sess.idStep = 2 ∧ ((s.idSecond p).port p).pe.await = .discoverId := by
  unfold State.idSecond
  rw [if_pos h, (sendAms_keeps _ p _ _).sess, (sendAms_keeps _ p _ _).pe, port_pe_self, port_sess_self]
  exact ⟨rfl, rfl⟩

theorem idSecond_skips {s : State} {p : Port} (h : s.rd PD.HDR_DATA_ROLE p ≠ 1) : s.idSecond p = s.idThird p := if_neg h

theorem askBattery_port (s : State) (p : Port) :
    ((s.askBattery p).port p).sess = { (s.port p).sess with battAt := s.up } ∧
      ((s.askBattery p).port p).pe.await = .batteryStatus := by
  unfold State.askBattery
  rw [(sendAms_keeps _ p _ _).sess, (sendAms_keeps _ p _ _).pe, port_sess_self, port_pe_self]
  exact ⟨rfl, rfl⟩

theorem battReply_keeps (s : State) (p : Port) (c : Nat) : ((s.battReply p c).port p).pe = (s.port p).pe ∧
    ((s.battReply p c).port p).sess.idStep = (s.port p).sess.idStep := by
  unfold State.battReply
  extract_lets s1
  have hs1 : s1.port p = _ := port_sess_self s p _
  split
  · rw [((KeepsSession.refl p s1).modRecord _ _).pe, ((KeepsSession.refl p s1).modRecord _ _).sess, hs1]
    exact ⟨rfl, rfl⟩
  · rw [hs1]
    exact ⟨rfl, rfl⟩

/-- An open session, on the owner, of a port that a Twill carries. -/
structure Gathers (p : Port) (s : State) : Prop where
  isOpen : (s.port p).sess.isOpen = true
  owner : s.standby = false
  carried : s.carriedByTwill p = true

section Gathering

variable {p : Port} {s : State}

theorem ite_eq_of_else {c : Prop} [Decidable c] {a b : State} (h : b = a) : (if c then a else b) = a := by
  rw [h, ite_self]

theorem gathering_idle (e : IdEvent) (h : (s.port p).sess.isOpen = false ∨ s.standby = true ∨ s.carriedByTwill p = false) :
    execIdentityGathering p e s = .next s :=
  congrArg Host.Outcome.next (if_pos (by rcases h with h | h | h <;> simp [h]))

theorem gathering_starts (hg : Gathers p s) (hi : (s.port p).sess.idStep = 0) (hk : (s.port p).sess.known = false) :
    execIdentityGathering p .start s = .next (s.idSecond p) := by
  unfold execIdentityGathering
  dsimp only
  rw [if_neg (by simp [hg.isOpen, hg.owner, hg.carried]), if_pos ⟨hi, hk⟩]

theorem gathering_started (h : (s.port p).sess.idStep ≠ 0 ∨ (s.port p).sess.known = true) :
    execIdentityGathering p .start s = .next s := by
  have hstep : ¬ ((s.port p).sess.idStep = 0 ∧ (s.port p).sess.known = false) := by
    rintro ⟨hi, hk⟩
    simp [hi, hk] at h
  unfold execIdentityGathering
  exact congrArg Host.Outcome.next (ite_eq_of_else (if_neg hstep))

/-- What a Discover Identity answer tells of the partner goes into the session. -/
def State.idKept (s : State) (p : Port) : Option (Nat × Nat × Nat) → State
  | some (v, d, c) => s.sess p fun y => { y with vid := v % 2 ^ 16, pid := d % 2 ^ 16, xid := c % 2 ^ 32 }
  | none => s

theorem gathering_identity (r : Option (Nat × Nat × Nat)) (hg : Gathers p s) (hi : (s.port p).sess.idStep = 2) :
    execIdentityGathering p (.identity r) s = .next (((s.idAnswered p .vdm).idKept p r).idThird p) := by
  unfold execIdentityGathering
  dsimp only
  rw [if_neg (by simp [hg.isOpen, hg.owner, hg.carried]), if_pos hi]
  cases r <;> rfl

theorem idKept_rev3 (r : Option (Nat × Nat × Nat)) : ((s.idAnswered p .vdm).idKept p r).rev3 p = s.rev3 p := by
  rw [← idAnswered_rev3 s p .vdm]
  cases r <;> rfl

theorem gathering_noIdentity (r : Option (Nat × Nat × Nat)) (hi : (s.port p).sess.idStep ≠ 2) :
    execIdentityGathering p (.identity r) s = .next s := by
  unfold execIdentityGathering
  exact congrArg Host.Outcome.next (ite_eq_of_else (if_neg hi))

theorem identity_kept (v d c : Nat) (hg : Gathers p s) (hi : (s.port p).sess.idStep = 2) (hr : s.rev3 p = true) :
    ∃ t, execIdentityGathering p (.identity (some (v, d, c))) s = .next t ∧ (t.port p).sess.vid = v % 2 ^ 16 ∧
      (t.port p).sess.pid = d % 2 ^ 16 ∧ (t.port p).sess.xid = c % 2 ^ 32 ∧ (t.port p).sess.idStep = 3 ∧
      (t.port p).pe.await = .manufInfo := by
  obtain ⟨hsess, hawait⟩ := idThird_asks ((idKept_rev3 (some (v, d, c))).trans hr)
  refine ⟨_, gathering_identity _ hg hi, ?_⟩
  rw [hsess]
  unfold State.idKept
  rw [port_sess_self]
  exact ⟨rfl, rfl, rfl, rfl, hawait⟩

theorem identity_unanswered (hg : Gathers p s) (hi : (s.port p).sess.idStep = 2) (hr : s.rev3 p = true) :
    ∃ t, execIdentityGathering p (.identity none) s = .next t ∧ (t.port p).sess.idStep = 3 ∧
      (t.port p).pe.await = .manufInfo ∧ (t.port p).sess.vid = (s.port p).sess.vid := by
  obtain ⟨hsess, hawait⟩ := idThird_asks ((idKept_rev3 none).trans hr)
  obtain ⟨hkept, -⟩ := idAnswered_port s p .vdm
  refine ⟨_, gathering_identity none hg hi, ?_⟩
  rw [hsess]
  refine ⟨rfl, hawait, ?_⟩
  show ((s.idAnswered p .vdm).port p).sess.vid = (s.port p).sess.vid
  rw [hkept]

theorem identity_ends (r : Option (Nat × Nat × Nat)) (hg : Gathers p s) (hi : (s.port p).sess.idStep = 2)
    (hr : s.rev3 p = false) : ∃ t, execIdentityGathering p (.identity r) s = .next t ∧
      (t.port p).sess.idStep = 0 ∧ (t.port p).sess.known = true :=
  ⟨_, gathering_identity r hg hi, idThird_ends ((idKept_rev3 r).trans hr)⟩

theorem manufacturer_kept (r : Option (List Byte)) (hg : Gathers p s) (hi : (s.port p).sess.idStep = 3) :
    ∃ t, execIdentityGathering p (.manufacturer r) s = .next t ∧ (t.port p).sess.idStep = 4 ∧
      (t.port p).sess.serial = serialDig (r.getD []) ∧ (t.port p).pe.await = .batteryCap := by
  refine ⟨((((s.idAnswered p .manufacturerInfo).sess p fun y => { y with idStep := 4, serial := serialDig (r.getD []) }).pe p
    fun e => { e with await := .batteryCap }).sendAms p .getBatteryCap (.fields [0])), ?_, ?_⟩
  · unfold execIdentityGathering
    dsimp only
    rw [if_neg (by simp [hg.isOpen, hg.owner, hg.carried]), if_pos hi]
  · rw [(sendAms_keeps _ p _ _).sess, (sendAms_keeps _ p _ _).pe, port_pe_self, port_sess_self]
    exact ⟨rfl, rfl, rfl⟩

theorem gathering_noManufacturer (r : Option (List Byte)) (hi : (s.port p).sess.idStep ≠ 3) :
    execIdentityGathering p (.manufacturer r) s = .next s := by
  unfold execIdentityGathering
  exact congrArg Host.Outcome.next (ite_eq_of_else (if_neg hi))

theorem battery_kept (r : Option BatCap) (hg : Gathers p s) (hi : (s.port p).sess.idStep = 4) :
    ∃ t, execIdentityGathering p (.battery r) s = .next t ∧ (t.port p).sess.idStep = 5 ∧
      (t.port p).sess.batt = r.filter (fun b => !b.invalid) ∧ (t.port p).pe.await = .batteryStatus := by
  refine ⟨((s.idAnswered p .batteryCaps).sess p fun y => { y with
    idStep := 5, batt := r.filter fun b => !b.invalid }).askBattery p, ?_, ?_⟩
  · unfold execIdentityGathering
    dsimp only
    rw [if_neg (by simp [hg.isOpen, hg.owner, hg.carried]), if_pos hi]
    cases r with
    | none => rfl
    | some b => cases hb : b.invalid <;> simp [Option.filter, hb]
  · obtain ⟨hsess, hawait⟩ := askBattery_port ((s.idAnswered p .batteryCaps).sess p fun y => { y with
      idStep := 5, batt := r.filter fun b => !b.invalid }) p
    rw [hsess, port_sess_self]
    exact ⟨rfl, rfl, hawait⟩

theorem gathering_noBattery (r : Option BatCap) (hi : (s.port p).sess.idStep ≠ 4) :
    execIdentityGathering p (.battery r) s = .next s := by
  unfold execIdentityGathering
  exact congrArg Host.Outcome.next (ite_eq_of_else (if_neg hi))

/-- A Get_Battery_Status reply, or its absence, at the end of its wait. -/
def State.statusTaken (s : State) (p : Port) (r : Option Nat) : State :=
  match r with
  | some c => (s.idAnswered p .batteryStatus).battReply p c
  | none => s.idAnswered p .batteryStatus

theorem statusTaken_port (s : State) (p : Port) (r : Option Nat) :
    ((s.statusTaken p r).port p).pe.await = .none ∧
      ((s.statusTaken p r).port p).sess.idStep = (s.port p).sess.idStep := by
  obtain ⟨hsess, hpe⟩ := idAnswered_port s p .batteryStatus
  unfold State.statusTaken
  cases r with
  | none => exact ⟨by rw [hpe], by rw [hsess]⟩
  | some c =>
    obtain ⟨hkept, hstep⟩ := battReply_keeps (s.idAnswered p .batteryStatus) p c
    exact ⟨by rw [hkept, hpe], by rw [hstep, hsess]⟩

theorem status_ends (r : Option Nat) (hg : Gathers p s) (hi : (s.port p).sess.idStep = 5) :
    ∃ t, execIdentityGathering p (.status r) s = .next t ∧ (t.port p).sess.idStep = 0 ∧
      (t.port p).sess.known = true := by
  refine ⟨((s.statusTaken p r).sess p fun y => { y with idStep := 0 }).formKey p, ?_, gathered_known _ p⟩
  unfold execIdentityGathering
  dsimp only
  rw [if_neg (by simp [hg.isOpen, hg.owner, hg.carried]), if_pos (.inl hi), if_pos hi]
  cases r <;> rfl

theorem status_later (r : Option Nat) (hg : Gathers p s) (hi : (s.port p).sess.idStep = 0)
    (ha : (s.port p).pe.await = .batteryStatus) : ∃ t, execIdentityGathering p (.status r) s = .next t ∧
      (t.port p).pe.await = .none ∧ (t.port p).sess.idStep = 0 := by
  obtain ⟨hawait, hstep⟩ := statusTaken_port s p r
  refine ⟨s.statusTaken p r, ?_, hawait, hstep.trans hi⟩
  unfold execIdentityGathering
  dsimp only
  rw [if_neg (by simp [hg.isOpen, hg.owner, hg.carried]), if_pos (.inr ⟨hi, ha⟩), if_neg (by simp [hi])]
  cases r <;> rfl

/-! ## BATTERY_STATUS_REFRESH (R331) -/

theorem refresh_asks (hg : Gathers p s) (hi : (s.port p).sess.idStep = 0) (hk : (s.port p).sess.known = true)
    (hr : s.rev3 p = true) : ∃ t, execBatteryStatusRefresh p s = .next t ∧ (t.port p).pe.await = .batteryStatus ∧
      (t.port p).sess.battAt = s.up := by
  obtain ⟨hsess, hawait⟩ := askBattery_port s p
  refine ⟨s.askBattery p, congrArg Host.Outcome.next (if_pos ?_), hawait, by rw [hsess]⟩
  simp [hg.isOpen, hg.owner, hg.carried, hi, hk, hr]

theorem refresh_idle (h : (s.port p).sess.isOpen = false ∨ s.standby = true ∨ s.carriedByTwill p = false ∨
    (s.port p).sess.idStep ≠ 0 ∨ (s.port p).sess.known = false ∨ s.rev3 p = false) :
    execBatteryStatusRefresh p s = .next s := by
  refine congrArg Host.Outcome.next (if_neg ?_)
  simp only [Bool.and_eq_true, beq_iff_eq, Bool.not_eq_true']
  rintro ⟨⟨⟨⟨⟨ho, hi⟩, hk⟩, hr⟩, hb⟩, hc⟩
  simp [ho, hi, hk, hr, hb, hc] at h

end Gathering

/-! ## Authentication (R333) -/

theorem authAsk_port (s : State) (p : Port) (step : Nat) (again : Bool) :
    ((s.authAsk p step again).port p).sess = { (s.port p).sess with authStep := step, resent := again } ∧
      ((s.authAsk p step again).port p).pe.await =
        if step = 1 then .digests else if step = 3 then .certificate else .challenge := by
  unfold State.authAsk
  extract_lets s1
  rw [(sendAms_keeps _ p _ _).sess, (sendAms_keeps _ p _ _).pe, port_pe_self, port_sess_self]
  exact ⟨rfl, rfl⟩

theorem authAsk_state (s : State) (p : Port) (step : Nat) (again : Bool) :
    (s.authAsk p step again).rd LEDGER.AUTH_STATE p = s.rd LEDGER.AUTH_STATE p := by
  unfold State.authAsk
  extract_lets s1
  rw [((Speaks.refl p _).sendAms _ _).rd _ _ (by decide) (by decide), State.pe_rd]
  rfl

theorem authChallenge_port (s : State) (p : Port) :
    ((s.authChallenge p).port p).sess.authStep = 5 ∧ ((s.authChallenge p).port p).pe.await = .challenge ∧
      ((s.authChallenge p).port p).sess.digest = (s.port p).sess.digest := by
  unfold State.authChallenge
  extract_lets s1
  obtain ⟨hsess, hawait⟩ := authAsk_port s1 p 5 false
  have hs1 : s1.port p = _ := port_sess_self s.fresh.2 p _
  rw [hsess, hawait, hs1]
  exact ⟨rfl, rfl, rfl⟩

/-- From the procedure's end on no step is open (R333). -/
theorem authEnds_ended (s : State) (p : Port) (st : Nat) :
    (s.authEnds p st).rd LEDGER.AUTH_STATE p = st % 2 ^ LEDGER.AUTH_STATE.width ∧
      ((s.authEnds p st).port p).sess.authStep = 0 ∧ ((s.authEnds p st).port p).sess.authDone = true := by
  unfold State.authEnds
  extract_lets x slot s1 s2 s3
  have hs1 : s1.port p = _ := port_sess_self s p _
  have hs2 : KeepsSession p s1 s2 := by
    unfold s2
    split
    · exact (KeepsSession.refl p s1).gradeRecord _ _ _
    · exact .refl p s1
  have hs3 : KeepsSession p s1 s3 := (hs2.wr _ _ _).eventSev _ _ _ _ _ _ _ (by decide)
  have hstate : s3.rd LEDGER.AUTH_STATE p = st % 2 ^ LEDGER.AUTH_STATE.width :=
    ((State.eventSev_sys (s2.wr LEDGER.AUTH_STATE p st) _ _ _ _ _ _ _ (by decide) (m := 0x400000000000000000140000) rfl
      (Within.refl _ 0 _)).rd _ _ (by decide)).trans (rd_wr_self _ _ _ _)
  have hkeeps := KeepsSession.ite (c := st = 1) (hs3.bump LEDGER.AUTH_PASS_CNT 0)
    (.ite (c := st = 4) hs3 ((hs3.bump LEDGER.AUTH_FAIL_CNT 0).irq LEDGER.page 0 LEDGER.IRQ_AUTH_FAIL))
  refine ⟨?_, ?_, ?_⟩
  · split
    · rw [rd_bump _ _ _ _ _ (by decide), hstate]
    · split
      · exact hstate
      · rw [rd_irq _ _ _ _ _ _ (by decide), rd_bump _ _ _ _ _ (by decide), hstate]
  · rw [hkeeps.sess, hs1]
  · rw [hkeeps.sess, hs1]

section Authenticating

variable {p : Port} {s : State}

theorem auth_idle (e : AuthEvent) (h : (s.port p).sess.isOpen = false ∨ s.standby = true) :
    execAuthentication p e s = .next s :=
  congrArg Host.Outcome.next (if_pos (by rcases h with h | h <;> simp [h]))

/-- An open session on the owner passes AUTHENTICATION's guard. -/
theorem auth_served (ho : (s.port p).sess.isOpen = true) (hb : s.standby = false) :
    ¬ (!(s.port p).sess.isOpen || s.standby) = true := by
  simp [ho, hb]

theorem auth_starts (ho : (s.port p).sess.isOpen = true) (hb : s.standby = false) (hk : (s.port p).sess.known = true)
    (hslot : (s.port p).sess.slot.isSome = true) (hstep : (s.port p).sess.authStep = 0)
    (hdone : (s.port p).sess.authDone = false) (hm : s.authMode p = 1 ∨ s.authMode p = 2) :
    ∃ t, execAuthentication p .start s = .next t ∧ t.rd LEDGER.AUTH_STATE p = 6 ∧ (t.port p).sess.authStep = 1 ∧
      (t.port p).pe.await = .digests := by
  refine ⟨_, congrArg Host.Outcome.next ((if_neg (auth_served ho hb)).trans (if_pos ⟨hk, hslot, hstep, hdone, hm⟩)), ?_⟩
  rw [authAsk_state, (authAsk_port _ p 1 false).1, (authAsk_port _ p 1 false).2, rd_wr_self]
  exact ⟨rfl, rfl, rfl⟩

/-- The digest has been taken into the session, and the chain is still to be read. -/
def State.digestTaken (s : State) (p : Port) (d : List Byte) : State :=
  (s.idAnswered p .securityResponse).sess p fun y => { y with digest := d, chain := [], chainRead := false }

theorem digestTaken_sess (s : State) (p : Port) (d : List Byte) :
    ((s.digestTaken p d).port p).sess.digest = d ∧ ((s.digestTaken p d).port p).sess.chain = [] := by
  unfold State.digestTaken
  rw [port_sess_self]
  exact ⟨rfl, rfl⟩

theorem digest_skips {d : List Byte} {r : LedRec} (ho : (s.port p).sess.isOpen = true) (hb : s.standby = false)
    (hstep : (s.port p).sess.authStep = 1) (hr : (s.port p).sess.slot.bind s.record = some r)
    (hskip : s.authSkips (s.port p).sess r d = true) : ∃ t, execAuthentication p (.digest d) s = .next t ∧
      (t.port p).sess.authStep = 5 ∧ (t.port p).pe.await = .challenge ∧ (t.port p).sess.digest = d := by
  obtain ⟨hauth, hawait, hdigest⟩ := authChallenge_port (s.digestTaken p d) p
  refine ⟨(s.digestTaken p d).authChallenge p, ?_, hauth, hawait, hdigest.trans (digestTaken_sess s p d).1⟩
  unfold execAuthentication
  dsimp only
  rw [if_neg (auth_served ho hb), if_neg (not_not_intro hstep), hr]
  exact congrArg Host.Outcome.next (if_pos hskip)

/-- After a digest that does not stand for a known chain the chain is fetched. -/
theorem digest_fetches {d : List Byte} (hexec : execAuthentication p (.digest d) s =
    .next ((s.digestTaken p d).authAsk p 3 false)) : ∃ t, execAuthentication p (.digest d) s = .next t ∧
      (t.port p).sess.authStep = 3 ∧ (t.port p).pe.await = .certificate ∧ (t.port p).sess.digest = d ∧
      (t.port p).sess.chain = [] := by
  obtain ⟨hsess, hawait⟩ := authAsk_port (s.digestTaken p d) p 3 false
  obtain ⟨hdigest, hchain⟩ := digestTaken_sess s p d
  refine ⟨_, hexec, ?_⟩
  rw [hsess, hawait]
  exact ⟨rfl, rfl, hdigest, hchain⟩

theorem digest_noRecord (d : List Byte) (ho : (s.port p).sess.isOpen = true) (hb : s.standby = false)
    (hstep : (s.port p).sess.authStep = 1) (hr : (s.port p).sess.slot.bind s.record = none) :
    execAuthentication p (.digest d) s = .next ((s.digestTaken p d).authAsk p 3 false) := by
  unfold execAuthentication
  dsimp only
  rw [if_neg (auth_served ho hb), if_neg (not_not_intro hstep), hr]
  rfl

theorem digest_unknown {d : List Byte} {r : LedRec} (ho : (s.port p).sess.isOpen = true) (hb : s.standby = false)
    (hstep : (s.port p).sess.authStep = 1) (hr : (s.port p).sess.slot.bind s.record = some r)
    (hskip : s.authSkips (s.port p).sess r d = false) :
    execAuthentication p (.digest d) s = .next ((s.digestTaken p d).authAsk p 3 false) := by
  unfold execAuthentication
  dsimp only
  rw [if_neg (auth_served ho hb), if_neg (not_not_intro hstep), hr]
  exact congrArg Host.Outcome.next (if_neg (by simp [hskip]))

/-- The chain as far as it has been read, with one more piece. -/
def State.chainWith (s : State) (p : Port) (l : List Byte) : List Byte := (s.port p).sess.chain ++ l.take 256

/-- A piece of the chain has been taken into the session. -/
def State.pieceTaken (s : State) (p : Port) (l : List Byte) : State :=
  (s.idAnswered p .securityResponse).sess p fun y => { y with chain := s.chainWith p l, chainRead := true }

/-- What a piece brings about: too long a chain, the next piece, or the judgement of the whole chain. -/
theorem auth_piece (n : Nat) (l : List Byte) (ho : (s.port p).sess.isOpen = true) (hb : s.standby = false)
    (hstep : (s.port p).sess.authStep = 3) : execAuthentication p (.piece n l) s = .next (
      if 4096 < n then (s.pieceTaken p l).authEnds p 2
      else if (s.chainWith p l).length < n ∧ l ≠ [] then (s.pieceTaken p l).authAsk p 3 false
      else if sha256 (s.chainWith p l) ≠ (s.port p).sess.digest ∨ s.chainGood (s.chainWith p l) = false then
        (s.pieceTaken p l).authEnds p 2
      else (s.pieceTaken p l).authChallenge p) := by
  unfold execAuthentication
  dsimp only
  rw [if_neg (auth_served ho hb), if_neg (not_not_intro hstep)]
  rfl

theorem piece_tooLong {n : Nat} (l : List Byte) (ho : (s.port p).sess.isOpen = true) (hb : s.standby = false)
    (hstep : (s.port p).sess.authStep = 3) (hn : 4096 < n) : ∃ t, execAuthentication p (.piece n l) s = .next t ∧
      t.rd LEDGER.AUTH_STATE p = 2 ∧ (t.port p).sess.authStep = 0 ∧ (t.port p).sess.authDone = true := by
  refine ⟨_, auth_piece n l ho hb hstep, ?_⟩
  rw [if_pos hn]
  exact authEnds_ended _ p 2

theorem piece_gathered {n : Nat} {l : List Byte} (ho : (s.port p).sess.isOpen = true) (hb : s.standby = false)
    (hstep : (s.port p).sess.authStep = 3) (hn : n ≤ 4096) (hlen : (s.chainWith p l).length < n) (hl : l ≠ []) :
    ∃ t, execAuthentication p (.piece n l) s = .next t ∧ (t.port p).sess.authStep = 3 ∧
      (t.port p).pe.await = .certificate ∧ (t.port p).sess.chain = s.chainWith p l := by
  obtain ⟨hsess, hawait⟩ := authAsk_port (s.pieceTaken p l) p 3 false
  refine ⟨_, auth_piece n l ho hb hstep, ?_⟩
  rw [if_neg (Nat.not_lt.mpr hn), if_pos ⟨hlen, hl⟩, hsess, hawait]
  unfold State.pieceTaken
  rw [port_sess_self]
  exact ⟨rfl, rfl, rfl⟩

theorem piece_last {n : Nat} {l : List Byte} (ho : (s.port p).sess.isOpen = true) (hb : s.standby = false)
    (hstep : (s.port p).sess.authStep = 3) (hn : n ≤ 4096) (hlast : n ≤ (s.chainWith p l).length ∨ l = []) :
    ∃ t, execAuthentication p (.piece n l) s = .next t ∧
      (if sha256 (s.chainWith p l) = (s.port p).sess.digest ∧ s.chainGood (s.chainWith p l) = true then
        (t.port p).sess.authStep = 5 ∧ (t.port p).pe.await = .challenge
      else t.rd LEDGER.AUTH_STATE p = 2 ∧ (t.port p).sess.authStep = 0 ∧ (t.port p).sess.authDone = true) := by
  have hwhole : ¬ ((s.chainWith p l).length < n ∧ l ≠ []) :=
    fun ⟨hlen, hl⟩ => hlast.elim (Nat.not_le.mpr hlen) hl
  have hexec := auth_piece n l ho hb hstep
  rw [if_neg (Nat.not_lt.mpr hn), if_neg hwhole] at hexec
  refine ⟨_, hexec, ?_⟩
  by_cases hgood : sha256 (s.chainWith p l) = (s.port p).sess.digest ∧ s.chainGood (s.chainWith p l) = true
  · obtain ⟨hauth, hawait, -⟩ := authChallenge_port (s.pieceTaken p l) p
    have hsound : ¬ (sha256 (s.chainWith p l) ≠ (s.port p).sess.digest ∨ s.chainGood (s.chainWith p l) = false) := by
      simp [hgood]
    rw [if_pos hgood, if_neg hsound]
    exact ⟨hauth, hawait⟩
  · have hbad : sha256 (s.chainWith p l) ≠ (s.port p).sess.digest ∨ s.chainGood (s.chainWith p l) = false := by
      rw [← Bool.not_eq_true, ← not_and_or]
      exact hgood
    rw [if_neg hgood, if_pos hbad]
    exact authEnds_ended _ p 2

theorem signature_ends (d : List Byte) (ho : (s.port p).sess.isOpen = true) (hb : s.standby = false)
    (hstep : (s.port p).sess.authStep = 5) : ∃ t, execAuthentication p (.signature d) s = .next t ∧
      t.rd LEDGER.AUTH_STATE p =
        (if ecdsaVerify (leafOf (s.port p).sess) (sha256 (Config.challengeBytes (s.port p).sess.nonce)) d then 1 else 3) ∧
      (t.port p).sess.authStep = 0 ∧ (t.port p).sess.authDone = true := by
  by_cases hv : ecdsaVerify (leafOf (s.port p).sess) (sha256 (Config.challengeBytes (s.port p).sess.nonce)) d = true
  · refine ⟨(s.idAnswered p .securityResponse).authEnds p 1, ?_, by rw [if_pos hv]; exact authEnds_ended _ p 1⟩
    unfold execAuthentication
    dsimp only
    rw [if_neg (auth_served ho hb), if_neg (not_not_intro hstep), if_pos hv]
    rfl
  · refine ⟨(s.idAnswered p .securityResponse).authEnds p 3, ?_, by rw [if_neg hv]; exact authEnds_ended _ p 3⟩
    unfold execAuthentication
    dsimp only
    rw [if_neg (auth_served ho hb), if_neg (not_not_intro hstep), if_neg hv]
    rfl

theorem silent_ends (ho : (s.port p).sess.isOpen = true) (hb : s.standby = false) (hstep : (s.port p).sess.authStep ≠ 0)
    (hr : (s.port p).sess.resent = true) : ∃ t, execAuthentication p .silent s = .next t ∧
      t.rd LEDGER.AUTH_STATE p = 5 ∧ (t.port p).sess.authStep = 0 ∧ (t.port p).sess.authDone = true := by
  refine ⟨(s.idAnswered p .securityResponse).authEnds p 5, ?_, authEnds_ended _ p 5⟩
  unfold execAuthentication
  dsimp only
  rw [if_neg (auth_served ho hb), if_neg hstep, if_pos hr]
  rfl

theorem silent_repeats (ho : (s.port p).sess.isOpen = true) (hb : s.standby = false)
    (hstep : (s.port p).sess.authStep ≠ 0) (hr : (s.port p).sess.resent = false) :
    ∃ t, execAuthentication p .silent s = .next t ∧ (t.port p).sess.authStep = (s.port p).sess.authStep ∧
      (t.port p).sess.resent = true := by
  obtain ⟨hsess, -⟩ := authAsk_port (s.idAnswered p .securityResponse) p (s.port p).sess.authStep true
  refine ⟨_, ?_, by rw [hsess], by rw [hsess]⟩
  unfold execAuthentication
  dsimp only
  rw [if_neg (auth_served ho hb), if_neg hstep, if_neg (by simp [hr])]
  rfl

theorem unsupported_ends (ho : (s.port p).sess.isOpen = true) (hb : s.standby = false)
    (hstep : (s.port p).sess.authStep ≠ 0) : ∃ t, execAuthentication p .unsupported s = .next t ∧
      t.rd LEDGER.AUTH_STATE p = 4 ∧ (t.port p).sess.authStep = 0 ∧ (t.port p).sess.authDone = true := by
  refine ⟨(s.idAnswered p .securityResponse).authEnds p 4, ?_, authEnds_ended _ p 4⟩
  unfold execAuthentication
  dsimp only
  rw [if_neg (auth_served ho hb), if_neg hstep]
  rfl

end Authenticating

/-! ## SESSION_CLOSE (R336) -/

theorem closeSession_closed (s : State) (p : Port) : ((s.closeSession p).port p).sess = Session.closed ∧
    (s.closeSession p).on LEDGER.SESSION p = false ∧ (s.closeSession p).rd LEDGER.SLOT p = 0 := by
  unfold State.closeSession
  extract_lets s0 x s1 s2 s3
  have hon : s3.on LEDGER.SESSION p = false := by
    unfold s3
    clear_value s2
    rw [on_wr _ _ _ _ _ _ (by decide), on_wr _ _ _ _ _ _ (by decide), on_flag _ _ _ _ _ _ (by decide),
      on_flag _ _ _ _ _ _ (by decide), on_flag_self _ _ _ _ (by decide)]
  clear_value s3
  refine ⟨by rw [port_sess_self], ?_, ?_⟩
  · rw [sess_on, on_wr _ _ _ _ _ _ (by decide), hon]
  · rw [sess_rd, rd_wr_self, Nat.zero_mod]

theorem sessionClose_closes {s : State} {p : Port} (he : (s.port p).sess.ended = true)
    (ho : (s.port p).sess.isOpen = false) (hb : s.standby = false) : ∃ t, execSessionClose p s = .next t ∧
      (t.port p).sess = Session.closed ∧ t.on LEDGER.SESSION p = false ∧ t.rd LEDGER.SLOT p = 0 :=
  ⟨_, congrArg Host.Outcome.next (if_pos (by simp [he, ho, hb])), closeSession_closed s p⟩

theorem sessionClose_idle {s : State} {p : Port}
    (h : (s.port p).sess.ended = false ∨ (s.port p).sess.isOpen = true ∨ s.standby = true) :
    execSessionClose p s = .next s :=
  congrArg Host.Outcome.next (if_neg (by rcases h with h | h | h <;> simp [h]))

/-! ## The ledger in flash (R340) -/

/-- A journal entry: what a session notes of it changes neither the ledger nor the registers. -/
theorem journal_written (s : State) (slot : Nat) :
    (s.journal slot).led.journal.length = s.led.journal.length + 1 ∧ slot ∉ (s.journal slot).led.dirty ∧
      (s.journal slot).rd LEDGER.JOURNAL_CNT 0 = min (s.rd LEDGER.JOURNAL_CNT 0 + 1) (2 ^ 32 - 1) := by
  unfold State.journal
  extract_lets r n led s1
  have hnoted : Within 0x100000000000000000000000 0 s1 (s1.forPorts allPorts fun (t : State) (p : Port) =>
      if t.slotHeld slot p then t.sess p fun y => { y with keptAt := t.up } else t) :=
    State.forPorts_within s1 allPorts _ (fun t p h => ite_within (State.sess_all t p _ rfl h) h) (Within.refl _ 0 s1)
  refine ⟨?_, ?_, ?_⟩
  · rw [State.bump_led, hnoted.led rfl]
    exact List.length_append
  · rw [State.bump_led, hnoted.led rfl]
    exact fun h => absurd rfl (bne_iff_ne.mp (List.mem_filter.mp h).2)
  · rw [rd_bump_self, hnoted.rd _ _ (by decide)]
    rfl

theorem ledgerFlash_reports (s : State) (reason : Nat) : (s.ledgerFlash reason).led = s.led ∧
    (s.ledgerFlash reason).bit (IRQ_STAT LEDGER.page) 0 LEDGER.IRQ_FLASH = true :=
  ⟨(State.ledgerFlash_within s reason rfl (Within.refl 0x400000000000001000140000 0 s)).led rfl,
    bit_irq_self _ LEDGER.page 0 LEDGER.IRQ_FLASH (by decide)⟩

theorem ledgerJournal_writes {s : State} {i : Fin 8192}
    (h : i.val ∈ s.led.dirty ∨ allPorts.any (s.slotHeld i) = true) (hn : s.led.journal.length < journalSlots) :
    execLedgerJournal i true s = .next (s.journal i) :=
  congrArg Host.Outcome.next ((if_pos h).trans (if_pos ⟨rfl, hn⟩))

theorem ledgerJournal_fails {s : State} {i : Fin 8192} {b : Bool}
    (h : i.val ∈ s.led.dirty ∨ allPorts.any (s.slotHeld i) = true)
    (hn : b = false ∨ journalSlots ≤ s.led.journal.length) : execLedgerJournal i b s = .next (s.ledgerFlash 1) :=
  congrArg Host.Outcome.next ((if_pos h).trans (if_neg fun ⟨hb, hlen⟩ =>
    hn.elim (fun hf => by simp [hf] at hb) fun hfull => Nat.not_le.mpr hlen hfull))

theorem ledgerJournal_idle {s : State} {i : Fin 8192} (b : Bool) (hd : i.val ∉ s.led.dirty)
    (hh : allPorts.any (s.slotHeld i) = false) : execLedgerJournal i b s = .next s :=
  congrArg Host.Outcome.next (if_neg fun h => h.elim hd fun hany => by simp [hh] at hany)

theorem compaction_starts {s : State} (h : 3 * journalSlots < 4 * s.led.journal.length) :
    ∃ t, execLedgerCompaction false s = .next t ∧ t.on LEDGER.COMPACTING 0 = true ∧ t.led = s.led :=
  ⟨_, congrArg Host.Outcome.next ((if_neg (by decide)).trans (if_pos h)), on_flag_self s LEDGER.COMPACTING 0 true (by decide),
    rfl⟩

theorem compaction_unneeded {s : State} (h : 4 * s.led.journal.length ≤ 3 * journalSlots) :
    execLedgerCompaction false s = .next s :=
  congrArg Host.Outcome.next ((if_neg (by decide)).trans (if_neg (Nat.not_lt.mpr h)))

theorem compaction_done {s : State} (h : s.on LEDGER.COMPACTING 0 = true) :
    ∃ t, execLedgerCompaction true s = .next t ∧ t.led.journal = [] ∧ t.on LEDGER.COMPACTING 0 = false ∧
      t.rd LEDGER.COMPACT_CNT 0 = min (s.rd LEDGER.COMPACT_CNT 0 + 1) (2 ^ 32 - 1) ∧ t.led.recs = s.led.recs := by
  refine ⟨_, congrArg Host.Outcome.next ((if_pos rfl).trans (if_pos h)), rfl, ?_, ?_, rfl⟩
  · rw [on_bump _ _ _ _ _ (by decide), on_flag_self _ _ _ _ (by decide)]
  · rw [rd_bump_self, rd_flag _ _ _ _ _ _ (by decide)]
    rfl

theorem compaction_idle {s : State} (h : s.on LEDGER.COMPACTING 0 = false) : execLedgerCompaction true s = .next s :=
  congrArg Host.Outcome.next ((if_pos rfl).trans (if_neg (by simp [h])))

/-- Settles O34, clause by clause: gathering, the refresh, authentication, the close, and the ledger in flash. -/
theorem sessionsGatherAndClose : Obligations.SessionsGatherAndClose := by
  unfold Obligations.SessionsGatherAndClose
  refine ⟨?startDfp, ?startUfp, ?startRev2, ?started, ?identity, ?noAnswer, ?identityRev2, ?noIdentity, ?manufacturer,
    ?noManufacturer, ?battery, ?noBattery, ?status, ?laterStatus, ?idleGathering, ?refresh, ?noRefresh, ?authStart, ?skip,
    ?noRecord, ?fetch, ?tooLong, ?piece, ?chain, ?signature, ?silentAgain, ?silent, ?unsupported, ?idleAuth, ?close, ?noClose,
    ?journal, ?flashFails, ?noJournal, ?compacts, ?noCompaction, ?compacted, ?notCompacting⟩
  case startDfp => exact fun p s ho hb hc hi hk hd => ⟨_, gathering_starts ⟨ho, hb, hc⟩ hi hk, idSecond_asks hd⟩
  case startUfp =>
    intro p s ho hb hc hi hk hd hr
    obtain ⟨hsess, hawait⟩ := idThird_asks hr
    refine ⟨_, (gathering_starts ⟨ho, hb, hc⟩ hi hk).trans (by rw [idSecond_skips hd]), ?_, hawait⟩
    rw [hsess]
  case startRev2 =>
    exact fun p s ho hb hc hi hk hd hr =>
      ⟨_, (gathering_starts ⟨ho, hb, hc⟩ hi hk).trans (by rw [idSecond_skips hd]), idThird_ends hr⟩
  case started => exact fun p s h => gathering_started h
  case identity => exact fun p v d c s ho hb hc hi hr => identity_kept v d c ⟨ho, hb, hc⟩ hi hr
  case noAnswer => exact fun p s ho hb hc hi hr => identity_unanswered ⟨ho, hb, hc⟩ hi hr
  case identityRev2 => exact fun p r s ho hb hc hi hr => identity_ends r ⟨ho, hb, hc⟩ hi hr
  case noIdentity => exact fun p r s hi => gathering_noIdentity r hi
  case manufacturer => exact fun p r s ho hb hc hi => manufacturer_kept r ⟨ho, hb, hc⟩ hi
  case noManufacturer => exact fun p r s hi => gathering_noManufacturer r hi
  case battery => exact fun p r s ho hb hc hi => battery_kept r ⟨ho, hb, hc⟩ hi
  case noBattery => exact fun p r s hi => gathering_noBattery r hi
  case status => exact fun p r s ho hb hc hi => status_ends r ⟨ho, hb, hc⟩ hi
  case laterStatus => exact fun p r s ho hb hc hi ha => status_later r ⟨ho, hb, hc⟩ hi ha
  case idleGathering => exact fun p e s h => gathering_idle e h
  case refresh => exact fun p s ho hb hc hi hk hr => refresh_asks ⟨ho, hb, hc⟩ hi hk hr
  case noRefresh => exact fun p s h => refresh_idle h
  case authStart => exact fun p s ho hb hk hslot hstep hdone hm => auth_starts ho hb hk hslot hstep hdone hm
  case skip => exact fun p d r s ho hb hstep hr hskip => digest_skips ho hb hstep hr hskip
  case noRecord => exact fun p d s ho hb hstep hr => digest_fetches (digest_noRecord d ho hb hstep hr)
  case fetch => exact fun p d r s ho hb hstep hr hskip => digest_fetches (digest_unknown ho hb hstep hr hskip)
  case tooLong => exact fun p n l s ho hb hstep hn => piece_tooLong l ho hb hstep hn
  case piece => exact fun p n l s ho hb hstep hn hlen hl => piece_gathered ho hb hstep hn hlen hl
  case chain => exact fun p n l s ho hb hstep hn hlast => piece_last ho hb hstep hn hlast
  case signature => exact fun p d s ho hb hstep => signature_ends d ho hb hstep
  case silentAgain => exact fun p s ho hb hstep hr => silent_ends ho hb hstep hr
  case silent => exact fun p s ho hb hstep hr => silent_repeats ho hb hstep hr
  case unsupported => exact fun p s ho hb hstep => unsupported_ends ho hb hstep
  case idleAuth => exact fun p e s h => auth_idle e h
  case close => exact fun p s he ho hb => sessionClose_closes he ho hb
  case noClose => exact fun p s h => sessionClose_idle h
  case journal => exact fun i s h hn => ⟨_, ledgerJournal_writes h hn, journal_written s i⟩
  case flashFails => exact fun i b s h hn => ⟨_, ledgerJournal_fails h hn, ledgerFlash_reports s 1⟩
  case noJournal => exact fun i b s hd hh => ledgerJournal_idle b hd hh
  case compacts => exact fun s h => compaction_starts h
  case noCompaction => exact fun s h => compaction_unneeded h
  case compacted => exact fun s h => compaction_done h
  case notCompacting => exact fun s h => compaction_idle h

end Sys2Proof.Machine
end

section
/-! PROOFS. A step of the block, the state after reset and the order that every step keeps (R355 to R357, R421, R422, R428, R491): O1,
O2, O3 and O4. -/
set_option linter.all false

namespace Sys2Proof.Machine

/-- Settles O1, by the two branches of `step`. -/
theorem stepRunsTheCommandInFront : Obligations.StepRunsTheCommandInFront := by
  unfold Obligations.StepRunsTheCommandInFront
  refine ⟨fun c s => rfl, fun c l s h => ?_, fun s h => ?_⟩
  · unfold step
    rw [h]
  · unfold step
    rw [h]

theorem reset_inv : State.reset.Inv := by
  refine ⟨List.Pairwise.nil, fun q _ => ?_⟩
  have hempty : State.reset.ring q = RingSt.reset := by
    unfold State.ring State.reset
    simp [Vector.get_eq_getElem]
  rw [hempty]
  exact Nat.zero_le _

/-- Settles O2: the table of the reset state lists no field, and its rings are empty. -/
theorem resetIsInOrder : Obligations.ResetIsInOrder :=
  ⟨reset_inv, ⟨rfl, rfl⟩, fun _ _ => rfl⟩

/-- An edge of device time counts in `time`, `frac` and `up` only (R444). -/
theorem timeEdge_keeps (s : State) : s.timeEdge.regs = s.regs ∧ s.timeEdge.rings = s.rings := by
  unfold State.timeEdge
  dsimp only
  split
  · exact ⟨rfl, rfl⟩
  · split
    · exact ⟨rfl, rfl⟩
    · split <;> exact ⟨rfl, rfl⟩

theorem Inv.of_eq {s t : State} (h : s.Inv) (hregs : t.regs = s.regs) (hrings : t.rings = s.rings) : t.Inv := by
  obtain ⟨htable, hfit⟩ := h
  unfold State.Inv State.tableOk State.ringsOk State.ring
  rw [hregs, hrings]
  exact ⟨htable, hfit⟩

/-- A command keeps the register table in its one form and every ring within its size: part of its footprint. -/
theorem exec_keeps_inv {c : Instr} {s t : State} (h : s.Inv) (he : exec c s = .next t) : t.Inv :=
  ⟨(exec_within c s t he).table h.1, (exec_within c s t he).ringsFit h.2⟩

/-- Settles O3, by the two branches of `step`: a command on the queue's rest, or an edge of device time. -/
theorem everyStepKeepsOrder : Obligations.EveryStepKeepsOrder := by
  unfold Obligations.EveryStepKeepsOrder
  intro s t h hstep
  unfold step at hstep
  split at hstep
  · next c rest _ => exact exec_keeps_inv (Inv.of_eq (t := { s with pending := rest }) h rfl rfl) hstep
  · cases hstep
    obtain ⟨hregs, hrings⟩ := timeEdge_keeps s
    exact Inv.of_eq h hregs hrings

/-- Every arm of `exec` answers a next state. -/
theorem exec_completes (c : Instr) (s : State) : ∃ t, exec c s = .next t := by
  cases c <;> exact ⟨_, rfl⟩

/-- Settles O4: an arm of `exec` answers a next state, and its footprint leaves the queue. -/
theorem everyCommandKeepsTheQueue : Obligations.EveryCommandKeepsTheQueue := by
  unfold Obligations.EveryCommandKeepsTheQueue
  intro c s
  obtain ⟨t, ht⟩ := exec_completes c s
  exact ⟨t, ht, (exec_within c s t ht).queue⟩

end Sys2Proof.Machine
end

section
/-! PROOFS. Mailboxes and doorbells (R348 to R354), and event rings (R359 to R361): O52. -/
set_option linter.all false

namespace Sys2Proof.Machine

/-! ## Vectors of a state's parts -/

theorem get_set_self {α : Type} {n : Nat} (v : Vector α n) (i : Fin n) (x : α) : (v.set i x i.isLt).get i = x := by
  simp only [Vector.get_eq_getElem]
  exact Vector.getElem_set_self _

theorem get_set_ne {α : Type} {n : Nat} (v : Vector α n) (i j : Fin n) (x : α) (h : j ≠ i) :
    (v.set i x i.isLt).get j = v.get j := by
  simp only [Vector.get_eq_getElem]
  exact Vector.getElem_set_ne _ _ (fun e => h (Fin.ext e.symm))

/-! ## Mailboxes (R348 to R351) -/

@[simp] theorem box_setBox_self (s : State) (m : Fin 64) (b : Mbox) : (s.setBox m b).box m = b := get_set_self _ m b

theorem box_setBox_ne (s : State) (m k : Fin 64) (b : Mbox) (h : k ≠ m) : (s.setBox m b).box k = s.box k :=
  get_set_ne _ m k b h

@[simp] theorem wakeBy_mbox (s : State) (n : Nat) : (s.wakeBy n).mbox = s.mbox := by
  unfold State.wakeBy
  split <;> rfl

theorem wakeBy_rd (s : State) (n : Nat) (F : Field) (i : Nat) (h : F.apart RST.SRC = true) :
    (s.wakeBy n).rd F i = s.rd F i := by
  unfold State.wakeBy
  split
  · exact rd_wr _ _ _ _ _ _ h
  · rfl

@[simp] theorem doorbell_mbox (s : State) (e : Fin 16) : (s.doorbell e).mbox = s.mbox := by
  unfold State.doorbell
  split
  · exact wakeBy_mbox s 6
  · split <;> rfl

/-- A doorbell writes the wake's source, the engine's state and WAKE_CNT only (R352). -/
theorem doorbell_rd (s : State) (e : Fin 16) (F : Field) (i : Nat) (hs : F.apart RST.SRC = true)
    (hc : F.apart CORE.STATE = true) (hw : F.apart MBX.WAKE_CNT = true) : (s.doorbell e).rd F i = s.rd F i := by
  unfold State.doorbell
  split
  · rw [rd_bump _ _ _ _ _ hw, wakeBy_rd _ _ _ _ hs]
  · split
    · rw [rd_bump _ _ _ _ _ hw, rd_wr _ _ _ _ _ _ hc]
    · rfl

/-- The notice of a message lost: the sender's bit, counted (R353). -/
theorem notify_notices (s : State) (f : Fin 16) (m : Fin 64) : ((s.notify f m).notice.get f).getLsbD m.val = true ∧
    (s.notify f m).rd MBX.ABORT_CNT 0 = min (s.rd MBX.ABORT_CNT 0 + 1) (2 ^ 32 - 1) := by
  constructor
  · show ((s.notice.set f (s.notice.get f ||| BitVec.ofNat 64 (2 ^ m.val)) f.isLt).get f).getLsbD m.val = true
    rw [get_set_self, BitVec.getLsbD_or, BitVec.getLsbD_ofNat, Nat.testBit_two_pow_self]
    simp [m.isLt]
  · unfold State.notify
    rw [rd_bump_self, rd_irq _ _ _ _ _ _ (by decide)]
    rfl

/-! ## A commit (R349, R350) -/

/-- The staged words that a commit sends: those given, then those that stood in the staging buffer. -/
def State.stagedWords (s : State) (f : Fin 16) (l : List Word) : List Word :=
  (l ++ (s.staging.get f).drop l.length).take 7

/-- The staging buffer of a sender takes the words of a commit. -/
def State.restaged (s : State) (f : Fin 16) (l : List Word) : State :=
  { s with staging := s.staging.set f (s.stagedWords f l) f.isLt }

/-- The mailbox after a commit by `f`. -/
def Mbox.committed (b : Mbox) (f : Fin 16) (w : BitVec 27) (st : List Word) : Mbox :=
  { b with
    words := BitVec.ofNat 32 (f.val * 2 ^ 28 + 2 ^ 27 + w.toNat) :: (st ++ List.replicate (7 - st.length) 0)
    full := true, collide := b.collide || b.full, src := f, lost := if b.full then b.src else b.lost }

/-- What a commit to a receiver that lives does before the doorbell. -/
def State.boxFilled (s : State) (f : Fin 16) (m : Fin 64) (w : BitVec 27) (st : List Word) : State :=
  let u := (s.setBox m ((s.box m).committed f w st)).bump MBX.MSG_CNT 0
  let v := if (s.box m).full then (u.bump MBX.COLLIDE_CNT 0).irq MBX.page 0 MBX.IRQ_COLLIDE else u
  if (boxOwner m).val = 12 then v.irq MBX.page 0 MBX.IRQ_HOST_MSG else v

theorem commitBox_eq (s : State) (f : Fin 16) (m : Fin 64) (w : BitVec 27) (l : List Word) :
    s.commitBox f m w l = if s.boxDead (boxOwner m) then (s.restaged f l).notify f m
      else ((s.restaged f l).boxFilled f m w (s.stagedWords f l)).doorbell (boxOwner m) := rfl

theorem boxFilled_mbox (s : State) (f : Fin 16) (m : Fin 64) (w : BitVec 27) (st : List Word) :
    (s.boxFilled f m w st).mbox = s.mbox.set m ((s.box m).committed f w st) m.isLt := by
  unfold State.boxFilled
  dsimp only
  split <;> split <;> rfl

theorem boxFilled_counts (s : State) (f : Fin 16) (m : Fin 64) (w : BitVec 27) (st : List Word) :
    (s.boxFilled f m w st).rd MBX.MSG_CNT 0 = min (s.rd MBX.MSG_CNT 0 + 1) (2 ^ 32 - 1) ∧
      (s.boxFilled f m w st).rd MBX.COLLIDE_CNT 0 =
        if (s.box m).full then min (s.rd MBX.COLLIDE_CNT 0 + 1) (2 ^ 32 - 1) else s.rd MBX.COLLIDE_CNT 0 := by
  have hmsg (u : State) : (u.irq MBX.page 0 MBX.IRQ_HOST_MSG).rd MBX.MSG_CNT 0 = u.rd MBX.MSG_CNT 0 :=
    rd_irq _ _ _ _ _ _ (by decide)
  have hcol (u : State) : (u.irq MBX.page 0 MBX.IRQ_HOST_MSG).rd MBX.COLLIDE_CNT 0 = u.rd MBX.COLLIDE_CNT 0 :=
    rd_irq _ _ _ _ _ _ (by decide)
  unfold State.boxFilled
  dsimp only
  rw [apply_ite (State.rd · MBX.MSG_CNT 0), apply_ite (State.rd · MBX.COLLIDE_CNT 0), hmsg, hcol, ite_self, ite_self]
  split
  · rw [rd_irq _ _ _ _ _ _ (by decide), rd_bump _ _ _ _ _ (by decide), rd_bump_self, rd_irq _ _ _ _ _ _ (by decide),
      rd_bump_self, rd_bump _ _ _ _ _ (by decide)]
    exact ⟨rfl, rfl⟩
  · rw [rd_bump_self, rd_bump _ _ _ _ _ (by decide)]
    exact ⟨rfl, rfl⟩

theorem commitBox_fills (s : State) (f : Fin 16) (m : Fin 64) (w : BitVec 27) (l : List Word)
    (h : s.boxDead (boxOwner m) = false) :
    (s.commitBox f m w l).box m = (s.box m).committed f w (s.stagedWords f l) ∧
      (∀ k, k ≠ m → (s.commitBox f m w l).box k = s.box k) ∧
      (s.commitBox f m w l).rd MBX.MSG_CNT 0 = min (s.rd MBX.MSG_CNT 0 + 1) (2 ^ 32 - 1) ∧
      (s.commitBox f m w l).rd MBX.COLLIDE_CNT 0 =
        if (s.box m).full then min (s.rd MBX.COLLIDE_CNT 0 + 1) (2 ^ 32 - 1) else s.rd MBX.COLLIDE_CNT 0 := by
  obtain ⟨hmsg, hcol⟩ := boxFilled_counts (s.restaged f l) f m w (s.stagedWords f l)
  have hbox : (s.commitBox f m w l).mbox = s.mbox.set m ((s.box m).committed f w (s.stagedWords f l)) m.isLt := by
    rw [commitBox_eq, if_neg (by simp [h]), doorbell_mbox, boxFilled_mbox]
    rfl
  refine ⟨?_, fun k hk => ?_, ?_, ?_⟩
  · unfold State.box
    rw [hbox]
    exact get_set_self _ m _
  · unfold State.box
    rw [hbox]
    exact get_set_ne _ m k _ hk
  · rw [commitBox_eq, if_neg (by simp [h]), doorbell_rd _ _ _ _ (by decide) (by decide) (by decide)]
    exact hmsg
  · rw [commitBox_eq, if_neg (by simp [h]), doorbell_rd _ _ _ _ (by decide) (by decide) (by decide)]
    exact hcol

theorem commitBox_aborts (s : State) (f : Fin 16) (m : Fin 64) (w : BitVec 27) (l : List Word)
    (h : s.boxDead (boxOwner m) = true) : s.commitBox f m w l = (s.restaged f l).notify f m := by
  rw [commitBox_eq, if_pos h]

/-! ## A core reset (R353) -/

/-- A mailbox after the core reset of its receiver. -/
def Mbox.cleared (b : Mbox) : Mbox := { b with full := false, collide := false, hold := [] }

theorem abortBox_mbox (s : State) (m : Fin 64) : (s.abortBox m).mbox = s.mbox.set m (s.box m).cleared m.isLt := by
  unfold State.abortBox
  dsimp only
  split <;> rfl

theorem abortBox_box_self (s : State) (m : Fin 64) : (s.abortBox m).box m = (s.box m).cleared := by
  unfold State.box
  rw [abortBox_mbox]
  exact get_set_self _ m _

theorem abortBox_box_ne (s : State) (m k : Fin 64) (h : k ≠ m) : (s.abortBox m).box k = s.box k := by
  unfold State.box
  rw [abortBox_mbox]
  exact get_set_ne _ m k _ h

theorem abortBox_staging (s : State) (m : Fin 64) : (s.abortBox m).staging = s.staging := by
  unfold State.abortBox
  dsimp only
  split <;> rfl

/-- Aborting the mailboxes of a list clears those and no other. -/
theorem foldl_abortBox (g : Nat → Fin 64) (l : List Nat) (s : State) (m : Fin 64) :
    (m ∉ l.map g → (l.foldl (fun t j => t.abortBox (g j)) s).box m = s.box m) ∧
      (m ∈ l.map g → (l.foldl (fun t j => t.abortBox (g j)) s).box m = (s.box m).cleared) := by
  induction l generalizing s with
  | nil => exact ⟨fun _ => rfl, fun h => by cases h⟩
  | cons j l ih =>
    obtain ⟨hout, hin⟩ := ih (s.abortBox (g j))
    by_cases hj : m = g j
    · subst hj
      refine ⟨fun h => absurd (List.mem_cons_self ..) h, fun _ => ?_⟩
      rw [List.foldl_cons]
      by_cases hl : g j ∈ l.map g
      · rw [hin hl, abortBox_box_self]
        rfl
      · rw [hout hl, abortBox_box_self]
    · rw [abortBox_box_ne _ _ _ hj] at hout hin
      simp only [List.map_cons, List.mem_cons, List.foldl_cons, hj, false_or]
      exact ⟨hout, hin⟩

theorem foldl_abortBox_staging (g : Nat → Fin 64) (l : List Nat) (s : State) :
    (l.foldl (fun t j => t.abortBox (g j)) s).staging = s.staging := by
  induction l generalizing s with
  | nil => rfl
  | cons j l ih => exact (ih _).trans (abortBox_staging s _)

/-- The four mailboxes that a core reset clears are those of its endpoint (R348). -/
theorem mem_resetBoxes (e : Fin 16) (m : Fin 64) :
    m ∈ [0, 1, 2, 3].map (fun j => Fin.ofNat 64 (4 * e.val + j)) ↔ boxOwner m = e := by
  simp only [List.map_cons, List.map_nil, List.mem_cons, List.not_mem_nil, or_false, Fin.ext_iff, Fin.val_ofNat, boxOwner]
  omega

theorem resetBoxes_clears (s : State) (e : Fin 16) (m : Fin 64) (h : boxOwner m = e) :
    (s.resetBoxes e).box m = (s.box m).cleared := by
  unfold State.resetBoxes
  exact (foldl_abortBox _ _ _ m).2 ((mem_resetBoxes e m).mpr h)

theorem resetBoxes_keeps (s : State) (e : Fin 16) (m : Fin 64) (h : boxOwner m ≠ e) :
    (s.resetBoxes e).box m = s.box m := by
  unfold State.resetBoxes
  exact (foldl_abortBox _ _ _ m).1 fun hm => h ((mem_resetBoxes e m).mp hm)

theorem resetBoxes_staging (s : State) (e : Fin 16) : (s.resetBoxes e).staging.get e = [] := by
  unfold State.resetBoxes
  rw [foldl_abortBox_staging]
  exact get_set_self _ e []

/-! ## Doorbells (R352) -/

theorem doorbell_sleep (s : State) (e : Fin 16) (hd : s.dev ≠ .watch) (he : e.val < 12) (h : s.rd CORE.STATE e = enSleep) :
    (s.doorbell e).rd CORE.STATE e = enRun ∧
      (s.doorbell e).rd MBX.WAKE_CNT 0 = min (s.rd MBX.WAKE_CNT 0 + 1) (2 ^ 32 - 1) := by
  unfold State.doorbell
  rw [if_neg (fun k => hd k.1), if_pos ⟨he, h⟩, rd_bump _ _ _ _ _ (by decide), rd_wr_self, rd_bump_self,
    rd_wr _ _ _ _ _ _ (by decide)]
  exact ⟨rfl, rfl⟩

theorem doorbell_watch (s : State) (e : Fin 16) (hd : s.dev = .watch) (he : e.val < 12) :
    (s.doorbell e).dev = .waking ∧ (s.doorbell e).rd MBX.WAKE_CNT 0 = min (s.rd MBX.WAKE_CNT 0 + 1) (2 ^ 32 - 1) := by
  unfold State.doorbell
  rw [if_pos ⟨hd, he⟩, rd_bump_self, wakeBy_rd _ _ _ _ (by decide)]
  refine ⟨?_, rfl⟩
  unfold State.wakeBy
  rw [if_pos hd]
  rfl

theorem doorbell_idle (s : State) (e : Fin 16) (h : 12 ≤ e.val ∨ (s.dev ≠ .watch ∧ s.rd CORE.STATE e ≠ enSleep)) :
    s.doorbell e = s := by
  unfold State.doorbell
  rw [if_neg (by rintro ⟨hd, he⟩; rcases h with h | ⟨h, -⟩ <;> [omega; exact h hd]),
    if_neg (by rintro ⟨he, hc⟩; rcases h with h | ⟨-, h⟩ <;> [omega; exact h hc])]

/-! ## Event rings (R359 to R361) -/

theorem ringFilled_self (s : State) (q : Fin 40) :
    ((s.ringFilled q).ring q).entries = (s.ring q).entries ∧ ((s.ringFilled q).ring q).seq = (s.ring q).seq := by
  unfold State.ringFilled
  dsimp only
  split
  · rw [State.irq_ring, State.bump_ring, ring_setRing_self]
    exact ⟨rfl, rfl⟩
  · exact ⟨rfl, rfl⟩

/-- With no record to coalesce with and room in the ring the record is appended (R359, R360). -/
theorem writeRec_appends {s : State} {q : Fin 40} {c : Bool} {e : EvRec} (hc : s.coalesce q c e = none)
    (hr : (s.ring q).occ < ringSize q) : ((s.writeRec q c e).ring q).seq = (s.ring q).seq + 1 ∧
      ((s.writeRec q c e).ring q).entries = (s.ring q).entries ++ [.ev { e with seq := (s.ring q).seq % 2 ^ 32 }] := by
  obtain ⟨hent, hseq⟩ := ringFilled_self (s.setRing q ((s.ring q).append e)) q
  unfold State.writeRec
  rw [hc]
  dsimp only
  rw [if_neg (by omega)]
  unfold State.eventReady
  rw [State.irq_ring, hent, hseq, ring_setRing_self]
  exact ⟨rfl, rfl⟩

theorem writeRec_full {s : State} {q : Fin 40} {c : Bool} {e : EvRec} (hc : s.coalesce q c e = none)
    (hr : ringSize q ≤ (s.ring q).occ) : s.writeRec q c e = s.pushFull q e := by
  unfold State.writeRec
  rw [hc]
  exact if_pos hr

/-- A repeat of the newest record raises its word 7 (R361). -/
theorem writeRec_coalesces {s : State} {q : Fin 40} {e w : EvRec} {i : Nat}
    (hn : newestAt ((s.ring q).seq % 2 ^ 32) 0 none (s.ring q).entries = some i)
    (hw : (s.ring q).entries[i]? = some (.ev w)) (hl : ((s.ring q).locked && i == 0) = false)
    (hb : 0 < s.rd RING.COAL_BASE q) (h0 : w.same0 e = true)
    (hd : (s.ring q).throttle = true ∨ (w.d4 = e.d4 ∧ w.d5 = e.d5 ∧ w.d6 = e.d6)) (ht : e.time - w.time ≤ s.coalWin q) :
    s.writeRec q true e = (s.setRing q { s.ring q with
      entries := (s.ring q).entries.set i (.ev { w with d7 := min (w.d7 + 1) 0xFFFFFFFF }) }).bump RING.COAL_CNT 0 := by
  have hd' : ((s.ring q).throttle || (w.d4 == e.d4 && w.d5 == e.d5 && w.d6 == e.d6)) = true := by
    simpa [and_assoc] using hd
  have hco : s.coalesce q true e = some ((s.setRing q { s.ring q with
      entries := (s.ring q).entries.set i (.ev { w with d7 := min (w.d7 + 1) 0xFFFFFFFF }) }).bump RING.COAL_CNT 0) := by
    unfold State.coalesce
    dsimp only
    rw [hn]
    dsimp only
    rw [hw]
    exact if_pos (by rw [hl, h0, hd']; simp [hb, ht])
  unfold State.writeRec
  rw [hco]

theorem dropped_counts (s : State) (q : Fin 40) :
    ((s.dropped q).ring q) = s.ring q ∧ (s.dropped q).rd RING.CNT q = min (s.rd RING.CNT q + 1) (2 ^ 32 - 1) := by
  unfold State.dropped
  rw [State.irq_ring, State.bump_ring, rd_irq _ _ _ _ _ _ (by decide), rd_bump_self]
  exact ⟨rfl, rfl⟩

/-- The record that a full ring gives up for a new one: the oldest unlocked of severity 0, else of severity 1 (R361). -/
def RingSt.victim (r : RingSt) : Option Nat :=
  match r.oldest (Entry.hasSev 0) with
  | some i => some i
  | none => r.oldest (Entry.hasSev 1)

/-- The record that a severe one replaces in a full ring with no victim: the oldest unlocked of its own kind, else one of which
the ring holds another (R361). -/
def RingSt.merged (r : RingSt) (e : EvRec) : Option Nat :=
  match r.oldest (Entry.hasKind e.src e.code) with
  | some i => some i
  | none => r.oldest (Entry.paired r.entries)

/-- A full ring gives up record `i` for a new one. -/
def State.evicted (s : State) (q : Fin 40) (e : EvRec) (i : Nat) : State :=
  ((s.setRing q (({ s.ring q with entries := (s.ring q).entries.eraseIdx i } : RingSt).append e)).dropped q).eventReady

/-- A record takes the place of record `i`. -/
def State.replaced (s : State) (q : Fin 40) (e : EvRec) (i : Nat) : State :=
  (((s.setRing q { s.ring q with
    entries := (s.ring q).entries.set i (.ev { e with seq := (s.ring q).seq % 2 ^ 32 }), seq := (s.ring q).seq + 1 }).bump
      RING.MERGE_CNT 0).irq RING.page 0 RING.IRQ_MERGE).eventReady

theorem pushFull_eq (s : State) (q : Fin 40) (e : EvRec) : s.pushFull q e =
    match (s.ring q).victim with
    | some i => s.evicted q e i
    | none =>
      if e.sev ≤ 1 then s.dropped q
      else
        match (s.ring q).merged e with
        | some i => s.replaced q e i
        | none => s.dropped q := rfl

theorem pushFull_evicts {s : State} {q : Fin 40} {e : EvRec} {i : Nat} (h : (s.ring q).victim = some i) :
    ((s.pushFull q e).ring q).entries =
        (s.ring q).entries.eraseIdx i ++ [.ev { e with seq := (s.ring q).seq % 2 ^ 32 }] ∧
      (s.pushFull q e).rd RING.CNT q = min (s.rd RING.CNT q + 1) (2 ^ 32 - 1) := by
  obtain ⟨hring, hcnt⟩ :=
    dropped_counts (s.setRing q (({ s.ring q with entries := (s.ring q).entries.eraseIdx i } : RingSt).append e)) q
  rw [pushFull_eq, h]
  unfold State.evicted State.eventReady
  rw [State.irq_ring, hring, ring_setRing_self, rd_irq _ _ _ _ _ _ (by decide), hcnt]
  exact ⟨rfl, rfl⟩

theorem pushFull_merges {s : State} {q : Fin 40} {e : EvRec} {i : Nat} (hv : (s.ring q).victim = none) (he : 1 < e.sev)
    (h : (s.ring q).merged e = some i) :
    ((s.pushFull q e).ring q).entries = (s.ring q).entries.set i (.ev { e with seq := (s.ring q).seq % 2 ^ 32 }) ∧
      (s.pushFull q e).rd RING.MERGE_CNT 0 = min (s.rd RING.MERGE_CNT 0 + 1) (2 ^ 32 - 1) := by
  rw [pushFull_eq, hv, h]
  dsimp only
  rw [if_neg (by omega)]
  unfold State.replaced State.eventReady
  rw [State.irq_ring, State.irq_ring, State.bump_ring, ring_setRing_self, rd_irq _ _ _ _ _ _ (by decide),
    rd_irq _ _ _ _ _ _ (by decide), rd_bump_self]
  exact ⟨rfl, rfl⟩

theorem pushFull_drops {s : State} {q : Fin 40} {e : EvRec} (hv : (s.ring q).victim = none)
    (h : e.sev ≤ 1 ∨ (s.ring q).merged e = none) : ((s.pushFull q e).ring q).entries = (s.ring q).entries ∧
      (s.pushFull q e).rd RING.CNT q = min (s.rd RING.CNT q + 1) (2 ^ 32 - 1) := by
  have heq : s.pushFull q e = s.dropped q := by
    rw [pushFull_eq, hv]
    dsimp only
    split
    · rfl
    · next hs => rw [h.resolve_left hs]
  obtain ⟨hring, hcnt⟩ := dropped_counts s q
  rw [heq, hring]
  exact ⟨rfl, hcnt⟩

theorem execEventRecordWrite_event {q : Fin 40} {c : Bool} {sev : Fin 4} {port code src : Byte} {d4 d5 d6 d7 : Word}
    {e : EvRec} {s : State}
    (he : e = ⟨sev.val, port.toNat, code.toNat, src.toNat, s.time % 2 ^ 64, 0, d4.toNat, d5.toNat, d6.toNat,
      if c then 0 else d7.toNat⟩) (h5 : 5 ≤ q.val) (h7 : q.val ≠ 7) :
    exec (.eventRecordWrite q c sev port code src d4 d5 d6 d7) s = .next (s.writeRec q c e) := by
  subst he
  exact congrArg Host.Outcome.next (if_neg (by omega))

/-! ## The clauses -/

/-- Settles O52: mailboxes, doorbells and event rings, each by what its operation does in the case the clause names. -/
theorem mailboxesAndEventRings : Obligations.MailboxesAndEventRings := by
  unfold Obligations.MailboxesAndEventRings
  refine ⟨?commit, ?dead, ?host, ?read, ?readEmpty, ?reset, ?resetOther, ?sleep, ?watch, ?noWake, ?noEvents, ?append,
    ?coalesce, ?evict0, ?evict1, ?dropLow, ?merge, ?mergePaired, ?drop, ?tick, ?noTick⟩
  case commit =>
    intro f m w l s hf hd
    obtain ⟨hm, hne, hmsg, hcol⟩ := commitBox_fills s f m w l hd
    refine ⟨_, congrArg Host.Outcome.next (if_neg hf), ?_⟩
    rw [hm]
    exact ⟨rfl, rfl, rfl, rfl, rfl, hne, hmsg, hcol⟩
  case dead =>
    intro f m w l s hf hd
    obtain ⟨hbit, hcnt⟩ := notify_notices (s.restaged f l) f m
    refine ⟨_, congrArg Host.Outcome.next ((if_neg hf).trans (commitBox_aborts s f m w l hd)), fun k => rfl, hbit, hcnt⟩
  case host => exact fun m w l s => rfl
  case read =>
    intro m s hm
    refine ⟨_, congrArg Host.Outcome.next (if_pos hm), box_setBox_self _ _ _, fun k hk => box_setBox_ne _ _ _ _ hk⟩
  case readEmpty => exact fun m s hm => congrArg Host.Outcome.next (if_neg (by simp [hm]))
  case reset =>
    intro e m s hm
    refine ⟨_, rfl, ?_⟩
    rw [resetBoxes_clears s e m hm]
    exact ⟨rfl, rfl, rfl, resetBoxes_staging s e⟩
  case resetOther => exact fun e m s hm => ⟨_, rfl, resetBoxes_keeps s e m hm⟩
  case sleep => exact fun e s hd he h => ⟨_, rfl, doorbell_sleep s e hd he h⟩
  case watch => exact fun e s hd he => ⟨_, rfl, doorbell_watch s e hd he⟩
  case noWake => exact fun e s h => congrArg Host.Outcome.next (doorbell_idle s e h)
  case noEvents => exact fun q c sev port code src d4 d5 d6 d7 s hq => congrArg Host.Outcome.next (if_pos hq)
  case append =>
    intro q c sev port code src d4 d5 d6 d7 e s he h5 h7 hc hr
    exact ⟨_, execEventRecordWrite_event he h5 h7, writeRec_appends hc hr⟩
  case coalesce =>
    intro q c sev port code src d4 d5 d6 d7 e i w s he h5 h7 hc hn hw hl hb h0 hd ht
    refine ⟨_, execEventRecordWrite_event he h5 h7, ?_⟩
    subst hc
    rw [writeRec_coalesces hn hw hl hb h0 hd ht, State.bump_ring, ring_setRing_self, rd_bump_self]
    exact ⟨rfl, rfl, rfl⟩
  case evict0 =>
    intro q c sev port code src d4 d5 d6 d7 e i s he h5 h7 hc hr hv
    refine ⟨_, execEventRecordWrite_event he h5 h7, ?_⟩
    rw [writeRec_full hc hr]
    exact pushFull_evicts (by unfold RingSt.victim; rw [hv])
  case evict1 =>
    intro q c sev port code src d4 d5 d6 d7 e i s he h5 h7 hc hr hv hv1
    refine ⟨_, execEventRecordWrite_event he h5 h7, ?_⟩
    rw [writeRec_full hc hr]
    exact pushFull_evicts (by unfold RingSt.victim; rw [hv]; exact hv1)
  case dropLow =>
    intro q c sev port code src d4 d5 d6 d7 e s he h5 h7 hc hr hv hv1 hs
    refine ⟨_, execEventRecordWrite_event he h5 h7, ?_⟩
    rw [writeRec_full hc hr]
    exact pushFull_drops (by unfold RingSt.victim; rw [hv]; exact hv1) (.inl (he ▸ hs))
  case merge =>
    intro q c sev port code src d4 d5 d6 d7 e i s he h5 h7 hc hr hv hv1 hs hk
    refine ⟨_, execEventRecordWrite_event he h5 h7, ?_⟩
    rw [writeRec_full hc hr]
    exact pushFull_merges (by unfold RingSt.victim; rw [hv]; exact hv1) (he ▸ hs) (by unfold RingSt.merged; rw [hk])
  case mergePaired =>
    intro q c sev port code src d4 d5 d6 d7 e i s he h5 h7 hc hr hv hv1 hs hk hp
    refine ⟨_, execEventRecordWrite_event he h5 h7, ?_⟩
    rw [writeRec_full hc hr]
    exact pushFull_merges (by unfold RingSt.victim; rw [hv]; exact hv1) (he ▸ hs)
      (by unfold RingSt.merged; rw [hk]; exact hp)
  case drop =>
    intro q c sev port code src d4 d5 d6 d7 e s he h5 h7 hc hr hv hv1 hk hp
    refine ⟨_, execEventRecordWrite_event he h5 h7, ?_⟩
    rw [writeRec_full hc hr]
    exact pushFull_drops (by unfold RingSt.victim; rw [hv]; exact hv1) (.inr (by unfold RingSt.merged; rw [hk]; exact hp))
  case tick =>
    intro q s ht hh
    refine ⟨_, congrArg Host.Outcome.next (if_pos (by simp [ht, hh])), ring_setRing_self _ _ _,
      fun k hk => ring_setRing_ne _ _ _ _ hk⟩
  case noTick =>
    intro q s h
    refine congrArg Host.Outcome.next (if_neg ?_)
    rcases h with h | h <;> simp [h]

end Sys2Proof.Machine
end

section
/-! PROOFS. STOP_PORT on a port that a PORT_SEND_VDM waits on (R373, R375, R376): O58. -/
set_option linter.all false

namespace Sys2Proof.Machine

/-- STOP_PORT of port 0, under TAG 3. -/
def stopPort0 : Packet := ⟨3, 0, 0xF0, 0, 0, [], none⟩

/-- The stop ends the attachment of port 0, whose host's VDM is answered with ABORTED (R373) before the stop's own response. -/
theorem stopPort_vdmUnanswered :
    ((vdmUnanswered.stopPacket opStopPort stopPort0 false).ring 4).entries.length = 2 := by decide +kernel

/-- Refutes O58: its clause on the answer to STOP_PORT has ring 4 gain that response and no other, and asks nothing of what is
under way on the port. Where a PORT_SEND_VDM waits for its answer, the port's ErrorRecovery answers that command first (R373). -/
theorem not_stopLaneActsOnEveryCoveredPort : ¬ Obligations.StopLaneActsOnEveryCoveredPort := by
  intro h
  obtain ⟨-, -, hanswered, -⟩ := h
  obtain ⟨t, ht, hresponded⟩ := hanswered stopPort0 vdmUnanswered (by decide) (by decide) (by decide) (by decide)
    (by decide) ⟨rfl, rfl, by decide⟩
  have hstop : vdmUnanswered.stopPacket opStopPort stopPort0 false = t := Host.Outcome.next.inj ht
  obtain ⟨a, n, hone⟩ := hresponded
  have hlen := congrArg List.length hone
  rw [← hstop, stopPort_vdmUnanswered, vdmUnanswered_ring4] at hlen
  exact absurd hlen (by simp)

end Sys2Proof.Machine
end

section
/-! PROOFS. Command packets on a device that does not serve them, and in the ROM (R365, R380, R505, R506): O59. -/
set_option linter.all false

namespace Sys2Proof.Machine

/-- Neither Loam nor a ROM serves: a command packet changes nothing. -/
theorem serve_idle (f : Packet → State → State) (k : Packet) (s : State) (hs : s.serves = false) (hr : s.inRom = false) :
    (.next (s.serve k (f k)) : Host.Outcome State Fault Refusal) = .next s := by
  unfold State.serve
  rw [hs, hr]
  rfl

/-- The ROM answers DENIED to a command that is none of its own (R505, R506). -/
theorem serve_inRom (f : Packet → State → State) (k : Packet) (s : State) (hs : s.serves = false) (hr : s.inRom = true)
    (h : AwaitsResponse k [] s) :
    ∃ t, (.next (s.serve k (f k)) : Host.Outcome State Fault Refusal) = .next t ∧ Responded k stDENIED [] s t := by
  refine ⟨s.answer k stDENIED, ?_, answer_responded stDENIED h rfl⟩
  unfold State.serve
  rw [hs, hr]
  rfl

theorem not_recovery_of_not_inRom {s : State} (h : s.inRom = false) : s.dev ≠ .recovery ∧ s.hostBoots = false := by
  unfold State.inRom at h
  simpa using h

theorem serveUpd_idle (s : State) (k : Packet) (ms : Nat) (f : State → State) (hs : s.serves = false)
    (hr : s.inRom = false) : (.next (s.serveUpd k ms f) : Host.Outcome State Fault Refusal) = .next s := by
  obtain ⟨hd, hb⟩ := not_recovery_of_not_inRom hr
  unfold State.serveUpd
  rw [hs, hb, if_neg (by decide), if_neg hd, if_neg (by decide)]

theorem serveInfo_idle (s : State) (f : State → State) (hs : s.serves = false) (hr : s.inRom = false) :
    s.serveInfo f = s := by
  unfold State.serveInfo
  rw [hs, hr]
  rfl

theorem serveInfo_served {s : State} (f : State → State) (h : s.serves = true ∨ s.inRom = true) : s.serveInfo f = f s := by
  unfold State.serveInfo
  exact if_pos (by simpa using h)

/-- Settles O59: each command but GET_INFO and the updates' is `State.serve` of its meaning. -/
theorem packetCommandsNeedAServingDevice : Obligations.PacketCommandsNeedAServingDevice := by
  unfold Obligations.PacketCommandsNeedAServingDevice
  refine ⟨serve_idle _, serve_inRom _, serve_idle _, serve_inRom _, serve_idle _, serve_inRom _, serve_idle _,
    serve_inRom _, serve_idle _, serve_inRom _, serve_idle _, serve_inRom _, serve_idle _, serve_inRom _,
    serve_idle _, serve_inRom _, serve_idle _, serve_inRom _, serve_idle _, serve_inRom _, serve_idle _,
    serve_inRom _, serve_idle _, serve_inRom _, serve_idle _, serve_inRom _, serve_idle _, serve_inRom _,
    serve_idle _, serve_inRom _, serve_idle _, serve_inRom _, serve_idle _, serve_inRom _, serve_idle _,
    serve_inRom _, serve_idle _, serve_inRom _, serve_idle _, serve_inRom _, serve_idle _, serve_inRom _,
    serve_idle _, serve_inRom _, serve_idle _, serve_inRom _, serve_idle _, serve_inRom _, serve_idle _,
    serve_inRom _, serve_idle _, serve_inRom _, serve_idle _, serve_inRom _, serve_idle _, serve_inRom _,
    serve_idle _, serve_inRom _, serve_idle _, serve_inRom _, serve_idle _, serve_inRom _, serve_idle _,
    serve_inRom _, ?otpProgram, ?otpProgramRom, ?infoIdle, ?info, ?infoForm, ?updBegin, ?updData, ?updEnd,
    ?updStatus, ?updCommit, ?updAbort⟩
  case otpProgram => exact fun k e s hs hr => serve_idle (fun k s => s.cmdOtpProgram k e) k s hs hr
  case otpProgramRom => exact fun k e s hs hr h => serve_inRom (fun k s => s.cmdOtpProgram k e) k s hs hr h
  case infoIdle => exact fun k s hs hr => congrArg Host.Outcome.next (serveInfo_idle s _ hs hr)
  case info =>
    intro k s hr hc hp h
    refine ⟨_, congrArg Host.Outcome.next (serveInfo_served _ (.inr hr)), ?_⟩
    unfold State.cmdGetInfo
    rw [formed_of_ok _ _ _ _ (by simp [hc, hp])]
    exact respond_responded s k stOK s.info s.info h rfl
  case infoForm =>
    intro k s hs hk h
    refine ⟨_, congrArg Host.Outcome.next (serveInfo_served _ hs), ?_⟩
    unfold State.cmdGetInfo
    rw [formed_of_bad _ _ _ _ (by rcases hk with hk | hk <;> simp [hk])]
    exact answer_responded stBAD_ARG h rfl
  case updBegin => exact fun k s hs hr => serveUpd_idle s _ _ _ hs hr
  case updData => exact fun k s hs hr => serveUpd_idle s _ _ _ hs hr
  case updEnd => exact fun k m s hs hr => serveUpd_idle s _ _ _ hs hr
  case updStatus => exact fun k s hs hr => serveUpd_idle s _ _ _ hs hr
  case updCommit => exact fun k e s hs hr => serveUpd_idle s _ _ _ hs hr
  case updAbort => exact fun k s hs hr => serveUpd_idle s _ _ _ hs hr

end Sys2Proof.Machine
end

section
/-! PROOFS. SMBus transactions (R397, R399 to R401, R418), SET_PTR (R403): O56; register writes (R404): O53. -/
set_option linter.all false

namespace Sys2Proof.Machine

/-! ## Who is served, and what an error leaves (R399, R401, R418) -/

theorem smbHears_watch {s : State} (f : State → State) (h : s.dev = .watch) : s.smbHears f = s := if_pos h

theorem smbHears_awake {s : State} (f : State → State) (h : s.dev ≠ .watch) : s.smbHears f = f (s.bump SMB.TXN_CNT 0) :=
  if_neg h

theorem smbServed_watch {s : State} (cmd : Nat) (rom : Bool) (f : State → State) (h : s.dev = .watch) :
    s.smbServed cmd rom f = s := smbHears_watch _ h

theorem smbServed_ready {s : State} (cmd : Nat) (rom : Bool) (f : State → State) (h : s.dev ≠ .watch)
    (hr : s.on SYS.READY 0 = true) : s.smbServed cmd rom f = f (s.bump SMB.TXN_CNT 0) := by
  unfold State.smbServed
  rw [smbHears_awake _ h, on_bump _ _ _ _ _ (by decide), hr]
  rfl

theorem smbServed_unready {s : State} (cmd : Nat) {rom : Bool} (f : State → State) (h : s.dev ≠ .watch)
    (hr : s.on SYS.READY 0 = false) (hrom : rom = false) :
    s.smbServed cmd rom f = (s.bump SMB.TXN_CNT 0).smbErr stNOT_READY cmd := by
  unfold State.smbServed
  rw [smbHears_awake _ h, on_bump _ _ _ _ _ (by decide), hr, hrom]
  rfl

theorem blockWrite_badCount (s : State) (cmd : Nat) (count : Byte) (l : List Byte) (x : Pec) (inRange : Nat → Bool)
    (f : State → State) (h : inRange count.toNat = false) :
    s.blockWrite cmd count l x inRange f = s.smbErr stBAD_ARG cmd := by
  unfold State.blockWrite
  rw [h]
  rfl

theorem blockWrite_short (s : State) (cmd : Nat) (count : Byte) (l : List Byte) (x : Pec) (inRange : Nat → Bool)
    (f : State → State) (h : inRange count.toNat = true) (hl : l.length ≠ count.toNat) :
    s.blockWrite cmd count l x inRange f = s := by
  unfold State.blockWrite
  rw [h, if_neg (by decide), if_pos hl]

theorem blockWrite_badPec (s : State) (cmd : Nat) (count : Byte) (l : List Byte) (x : Pec) (inRange : Nat → Bool)
    (f : State → State) (h : inRange count.toNat = true) (hl : l.length = count.toNat) (hx : s.pecOk x = false) :
    s.blockWrite cmd count l x inRange f = s.pecErr cmd := by
  unfold State.blockWrite
  rw [h, if_neg (by decide), if_neg (by simpa using hl), hx]
  rfl

theorem blockWrite_good (s : State) (cmd : Nat) (count : Byte) (l : List Byte) (x : Pec) (inRange : Nat → Bool)
    (f : State → State) (h : inRange count.toNat = true) (hl : l.length = count.toNat) (hx : s.pecOk x = true) :
    s.blockWrite cmd count l x inRange f = f s := by
  unfold State.blockWrite
  rw [h, if_neg (by decide), if_neg (by simpa using hl), if_pos hx]

@[simp] theorem bump_pecOk (s : State) (x : Pec) : (s.bump SMB.TXN_CNT 0).pecOk x = s.pecOk x := by
  unfold State.pecOk
  cases x with
  | good => rfl
  | bad => rfl
  | none => rw [on_bump _ _ _ _ _ (by decide)]

/-- An SMBus error shows its status and its command byte. -/
theorem smbErr_shows (s : State) (code cmd : Nat) : (s.smbErr code cmd).on SMB.ERR 0 = true ∧
    (s.smbErr code cmd).rd SMB.LAST_ERR 0 = code % 2 ^ 8 ∧ (s.smbErr code cmd).rd SMB.LAST_CMD 0 = cmd % 2 ^ 8 := by
  unfold State.smbErr
  refine ⟨?_, ?_, rd_wr_self _ _ _ _⟩
  · rw [on_wr _ _ _ _ _ _ (by decide), on_wr _ _ _ _ _ _ (by decide), on_flag_self _ _ _ _ (by decide)]
  · rw [rd_wr _ _ _ _ _ _ (by decide), rd_wr_self]
    rfl

/-- An SMBus error writes ERR, LAST_ERR and LAST_CMD only. -/
theorem smbErr_rd (s : State) (code cmd : Nat) (F : Field) (i : Nat) (he : F.apart SMB.ERR = true)
    (hl : F.apart SMB.LAST_ERR = true) (hc : F.apart SMB.LAST_CMD = true) : (s.smbErr code cmd).rd F i = s.rd F i := by
  unfold State.smbErr
  rw [rd_wr _ _ _ _ _ _ hc, rd_wr _ _ _ _ _ _ hl, rd_flag _ _ _ _ _ _ he]

/-! ## SET_PTR (R403) -/

theorem setPtr_good (l : List Byte) (s : State) (hw : s.dev ≠ .watch) (hr : s.on SYS.READY 0 = true) (hl : l.length = 3) :
    execSetPtr 3 l .good s = .next (if leNat l % 4 ≠ 0 then (s.bump SMB.TXN_CNT 0).smbErr stBAD_ACCESS 0x10
      else (s.bump SMB.TXN_CNT 0).wr SMB.PTR 0 (leNat l)) := by
  unfold execSetPtr
  rw [smbServed_ready _ _ _ hw hr, blockWrite_good _ _ _ _ _ _ _ (by decide) hl rfl]

/-- Settles O56: an aligned pointer is loaded, another one is BAD_ACCESS (R403). -/
theorem setPtrLoadsAlignedPointers : Obligations.SetPtrLoadsAlignedPointers := by
  unfold Obligations.SetPtrLoadsAlignedPointers
  constructor
  · intro l s hw hr hl ha hlt
    refine ⟨_, (setPtr_good l s hw hr hl).trans (congrArg Host.Outcome.next (if_neg (by simpa using ha))), ?_⟩
    rw [rd_wr_self]
    exact Nat.mod_eq_of_lt hlt
  · intro l s hw hr hl ha
    obtain ⟨-, hcode, hcmd⟩ := smbErr_shows (s.bump SMB.TXN_CNT 0) stBAD_ACCESS 0x10
    refine ⟨_, (setPtr_good l s hw hr hl).trans (congrArg Host.Outcome.next (if_pos ha)), ?_, hcode, hcmd⟩
    rw [smbErr_rd _ _ _ _ _ (by decide) (by decide) (by decide), rd_bump _ _ _ _ _ (by decide)]

/-! ## WRITE_REG (R404) -/

/-- In RUN, with SMB.PTR at the LOOP page of port 0, whose list of fields under override names SMB.TXN_CNT. -/
def windowOverTxnCnt : State :=
  (((({ State.reset with dev := .run } : State).flag SYS.READY 0 true).wr SMB.PTR 0 0x30100)).modPort 0 fun x =>
    { x with overrides := [(SMB.TXN_CNT, 7, 1)] }

theorem windowOverTxnCnt_counts :
    ((((State.smbWrites 0x30100 (wordsOf [3, 0, 0, 0]) (windowOverTxnCnt.bump SMB.TXN_CNT 0)).wr SMB.PTR 0 0x30104).smbReset
      0x30100 (wordsOf [3, 0, 0, 0])).rd SMB.TXN_CNT 0) = 7 := by decide +kernel

/-- Refutes O53: its clause on WRITE_REG past the SMB page counts the transaction whatever a port's list of fields under override
names. A write that enables the port's engine restores those fields, the count of transactions too if it is among them. -/
theorem not_smbusReadsAndWrites : ¬ Obligations.SmbusReadsAndWrites := by
  intro h
  obtain ⟨-, -, -, -, -, -, -, -, -, -, -, -, -, hwrites, hcounts, -⟩ := h
  obtain ⟨t, ht, -, hcount⟩ := hcounts 4 [3, 0, 0, 0] .good windowOverTxnCnt (by decide) (by decide) (by decide) (by decide)
    (by decide) rfl rfl (by decide)
  obtain ⟨u, hu, hstate⟩ := hwrites 4 [3, 0, 0, 0] .good windowOverTxnCnt (by decide) (by decide) (by decide) (by decide)
    (by decide) rfl rfl
  have htu : t = u := Host.Outcome.next.inj (ht.symm.trans hu)
  have hptr : windowOverTxnCnt.rd SMB.PTR 0 = 0x30100 := by decide
  rw [htu, hstate, hptr] at hcount
  exact absurd (windowOverTxnCnt_counts.symm.trans hcount) (by decide)

end Sys2Proof.Machine
end

section
/-! PROOFS. The SMBus assembly and PUSH_FRAG (R406, R407, R411). -/
set_option linter.all false

namespace Sys2Proof.Machine

/-! ## The assembly (R406) -/

theorem setAsm_open (s : State) (a : Option SmbAsm) : (s.setAsm a).on SMB.ASM_OPEN 0 = a.isSome := by
  unfold State.setAsm
  simp (disch := decide) only [on_wr, on_flag_self]

/-- An assembly is shown in ASM_OPEN, ASM_STAT_RING, NEXT_SEQ and BYTES only. -/
theorem setAsm_rd (s : State) (a : Option SmbAsm) (F : Field) (i : Nat) (h1 : F.apart SMB.ASM_OPEN = true)
    (h2 : F.apart SMB.ASM_STAT_RING = true) (h3 : F.apart SMB.NEXT_SEQ = true) (h4 : F.apart SMB.BYTES = true) :
    (s.setAsm a).rd F i = s.rd F i := by
  unfold State.setAsm
  rw [rd_wr _ _ _ _ _ _ h4, rd_wr _ _ _ _ _ _ h3, rd_wr _ _ _ _ _ _ h2, rd_flag _ _ _ _ _ _ h1]
  rfl

theorem dropAsm_none {s : State} (h : s.smb.asm = none) : s.dropAsm = s := if_neg (by rw [h]; decide)

theorem dropAsm_some {s : State} {a : SmbAsm} (h : s.smb.asm = some a) :
    s.dropAsm = (s.setAsm none).bump SMB.FRAG_ABORT_CNT 0 := if_pos (by rw [h]; rfl)

/-- An assembly discarded is counted. -/
theorem dropAsm_discards {s : State} {a : SmbAsm} (h : s.smb.asm = some a) : s.dropAsm.smb.asm = none ∧
    s.dropAsm.on SMB.ASM_OPEN 0 = false ∧
    s.dropAsm.rd SMB.FRAG_ABORT_CNT 0 = min (s.rd SMB.FRAG_ABORT_CNT 0 + 1) (2 ^ 32 - 1) := by
  rw [dropAsm_some h]
  refine ⟨rfl, ?_, ?_⟩
  · rw [on_bump _ _ _ _ _ (by decide), setAsm_open]
    rfl
  · rw [rd_bump_self, setAsm_rd _ _ _ _ (by decide) (by decide) (by decide) (by decide)]
    rfl

theorem dropAsm_count (s : State) : s.dropAsm.rd SMB.FRAG_ABORT_CNT 0 =
    if s.smb.asm = none then s.rd SMB.FRAG_ABORT_CNT 0 else min (s.rd SMB.FRAG_ABORT_CNT 0 + 1) (2 ^ 32 - 1) := by
  cases h : s.smb.asm with
  | none => rw [dropAsm_none h, if_pos rfl]
  | some a => rw [(dropAsm_discards h).2.2, if_neg (by simp)]

/-- A discarded assembly writes no field but the assembly's and its count. -/
theorem dropAsm_rd (s : State) (F : Field) (i : Nat) (h1 : F.apart SMB.ASM_OPEN = true)
    (h2 : F.apart SMB.ASM_STAT_RING = true) (h3 : F.apart SMB.NEXT_SEQ = true) (h4 : F.apart SMB.BYTES = true)
    (h5 : F.apart SMB.FRAG_ABORT_CNT = true) : s.dropAsm.rd F i = s.rd F i := by
  cases h : s.smb.asm with
  | none => rw [dropAsm_none h]
  | some a => rw [dropAsm_some h, rd_bump _ _ _ _ _ h5, setAsm_rd _ _ _ _ h1 h2 h3 h4]

/-- A fragment that fits nowhere ends the assembly, counted, as BAD_ARG. -/
theorem fragBad_ends (s : State) : s.fragBad.smb.asm = none ∧ s.fragBad.on SMB.ERR 0 = true ∧
    s.fragBad.rd SMB.LAST_ERR 0 = stBAD_ARG ∧ s.fragBad.rd SMB.LAST_CMD 0 = 0x20 ∧
    s.fragBad.rd SMB.FRAG_ABORT_CNT 0 = min (s.rd SMB.FRAG_ABORT_CNT 0 + 1) (2 ^ 32 - 1) := by
  unfold State.fragBad
  obtain ⟨herr, hcode, hcmd⟩ := smbErr_shows ((s.setAsm none).bump SMB.FRAG_ABORT_CNT 0) stBAD_ARG 0x20
  refine ⟨rfl, herr, hcode, hcmd, ?_⟩
  rw [smbErr_rd _ _ _ _ _ (by decide) (by decide) (by decide), rd_bump_self,
    setAsm_rd _ _ _ _ (by decide) (by decide) (by decide) (by decide)]
  rfl

/-! ## PUSH_FRAG (R406, R407, R411) -/

theorem judgePush_smb (s : State) (ring : Nat) (l : List Byte) : (s.judgePush ring l true false).1.smb = s.smb :=
  (State.judgePush_within1 (mm := 0xC00120000451F4C0010000E008381C0000) (pp := 0) s ring l true false rfl
    (Within.refl _ _ _)).smb rfl

theorem judgePush_refused (s : State) (ring : Nat) (l : List Byte) :
    (s.judgePush ring l true false).1.rd SMB.PUSH_REFUSED_CNT 0 = s.rd SMB.PUSH_REFUSED_CNT 0 :=
  (State.judgePush_within1 (mm := 0xC00120000451F4C0010000E008381C0000) (pp := 0) s ring l true false rfl
    (Within.refl _ _ _)).rd _ _ (by decide)

/-- PUSH_STAT shows the packet of an assembly, its ring and the status of its checks. -/
def State.pushStat (s : State) (ring : Nat) (l : List Byte) (st : Nat) : State :=
  ((s.wr SMB.TAG 0 (bytesAt l 0 2)).wr SMB.STATUS 0 st).wr SMB.PUSH_STAT_RING 0 ring

/-- PUSH_STAT shows a refused packet, which is counted. -/
def State.pushStatRefused (s : State) (ring : Nat) (l : List Byte) (st : Nat) : State :=
  (((s.pushStat ring l st).smbErr st 0x20).bump SMB.PUSH_REFUSED_CNT 0).irq SMB.page 0 SMB.IRQ_PUSH_REFUSED

theorem fragPush_eq (s : State) (ring : Nat) (l : List Byte) : s.fragPush ring l =
    if (s.judgePush ring l true false).2 = stOK
    then (s.judgePush ring l true false).1.pushStat ring l (s.judgePush ring l true false).2
    else (s.judgePush ring l true false).1.pushStatRefused ring l (s.judgePush ring l true false).2 := rfl

theorem pushStat_shows (s : State) (ring : Nat) (l : List Byte) (st : Nat) : (s.pushStat ring l st).smb = s.smb ∧
    (s.pushStat ring l st).rd SMB.STATUS 0 = st % 2 ^ SMB.STATUS.width ∧
    (s.pushStat ring l st).rd SMB.PUSH_STAT_RING 0 = ring % 2 ^ SMB.PUSH_STAT_RING.width ∧
    (s.pushStat ring l st).rd SMB.PUSH_REFUSED_CNT 0 = s.rd SMB.PUSH_REFUSED_CNT 0 := by
  unfold State.pushStat
  refine ⟨rfl, ?_, rd_wr_self _ _ _ _, ?_⟩
  · rw [rd_wr _ _ _ _ _ _ (by decide), rd_wr_self]
  · simp (disch := decide) only [rd_wr]

theorem pushStatRefused_shows (s : State) (ring : Nat) (l : List Byte) (st : Nat) :
    (s.pushStatRefused ring l st).smb = s.smb ∧
    (s.pushStatRefused ring l st).rd SMB.STATUS 0 = st % 2 ^ SMB.STATUS.width ∧
    (s.pushStatRefused ring l st).rd SMB.PUSH_STAT_RING 0 = ring % 2 ^ SMB.PUSH_STAT_RING.width ∧
    (s.pushStatRefused ring l st).rd SMB.PUSH_REFUSED_CNT 0 = min (s.rd SMB.PUSH_REFUSED_CNT 0 + 1) (2 ^ 32 - 1) := by
  obtain ⟨hsmb, hst, hring, hcnt⟩ := pushStat_shows s ring l st
  unfold State.pushStatRefused
  refine ⟨hsmb, ?_, ?_, ?_⟩
  · simp (disch := decide) only [rd_irq, rd_bump, smbErr_rd, hst]
  · simp (disch := decide) only [rd_irq, rd_bump, smbErr_rd, hring]
  · simp (disch := decide) only [rd_irq, rd_bump_self, smbErr_rd, hcnt]
    rfl

/-- The assembled packet is judged: PUSH_STAT shows its ring and status, and a refusal is counted. -/
theorem fragPush_shows (s : State) (ring : Nat) (l : List Byte) (st : Nat) (hst : (s.judgePush ring l true false).2 = st) :
    (s.fragPush ring l).smb = s.smb ∧ (s.fragPush ring l).rd SMB.STATUS 0 = st % 2 ^ SMB.STATUS.width ∧
    (s.fragPush ring l).rd SMB.PUSH_STAT_RING 0 = ring % 2 ^ SMB.PUSH_STAT_RING.width ∧
    (s.fragPush ring l).rd SMB.PUSH_REFUSED_CNT 0 =
      if st = stOK then s.rd SMB.PUSH_REFUSED_CNT 0 else min (s.rd SMB.PUSH_REFUSED_CNT 0 + 1) (2 ^ 32 - 1) := by
  rw [fragPush_eq, hst]
  by_cases hok : st = stOK
  · obtain ⟨hsmb, hstat, hring, hcnt⟩ := pushStat_shows (s.judgePush ring l true false).1 ring l st
    rw [if_pos hok, if_pos hok]
    exact ⟨hsmb.trans (judgePush_smb s ring l), hstat, hring, hcnt.trans (judgePush_refused s ring l)⟩
  · obtain ⟨hsmb, hstat, hring, hcnt⟩ := pushStatRefused_shows (s.judgePush ring l true false).1 ring l st
    rw [if_neg hok, if_neg hok]
    exact ⟨hsmb.trans (judgePush_smb s ring l), hstat, hring, by rw [hcnt, judgePush_refused]⟩

/-- A valid PUSH_FRAG: its header, SEQ and data are looked at. -/
theorem execPushFrag_valid {n : Byte} {l : List Byte} {x : Pec} {s : State} (hw : s.dev ≠ .watch)
    (hr : s.on SYS.READY 0 = true) (hl : l.length = n.toNat) (h3 : 3 ≤ n.toNat) (hmax : n.toNat ≤ s.rd SMB.FRAG_MAX 0 + 2)
    (hx : s.pecOk x = true) : exec (.pushFrag n l x) s = .next ((s.bump SMB.TXN_CNT 0).pushFrag l) := by
  show execPushFrag n l x s = _
  unfold execPushFrag
  rw [smbServed_ready _ _ _ hw hr, blockWrite_good _ _ _ _ _ _ _ (by simp (disch := decide) [rd_bump, h3, hmax]) hl
    ((bump_pecOk s x).trans hx)]

theorem pushFrag_first {l : List Byte} (s : State) (hF : (bytesAt l 0 1).testBit 7 = true) (h0 : bytesAt l 1 1 = 0) :
    s.pushFrag l = s.dropAsm.fragTaken ⟨bytesAt l 0 1 % 64, l.drop 2, 1, l⟩ ((bytesAt l 0 1).testBit 6) := by
  unfold State.pushFrag
  exact (if_pos hF).trans (if_neg (not_not.mpr h0))

theorem pushFrag_firstOutOfOrder {l : List Byte} (s : State) (hF : (bytesAt l 0 1).testBit 7 = true)
    (h0 : bytesAt l 1 1 ≠ 0) : s.pushFrag l = s.fragBad := by
  unfold State.pushFrag
  exact (if_pos hF).trans (if_pos h0)

theorem pushFrag_noAssembly {l : List Byte} {s : State} (hF : (bytesAt l 0 1).testBit 7 = false)
    (ha : s.smb.asm = none) : s.pushFrag l = s.fragBad := by
  unfold State.pushFrag
  dsimp only
  rw [hF, if_neg (by decide), ha]

theorem pushFrag_duplicate {l : List Byte} {s : State} {a : SmbAsm} (hF : (bytesAt l 0 1).testBit 7 = false)
    (ha : s.smb.asm = some a) (hl : l = a.last) : s.pushFrag l = s.bump SMB.DUP_FRAG_CNT 0 := by
  unfold State.pushFrag
  dsimp only
  rw [hF, if_neg (by decide), ha]
  exact if_pos hl

theorem pushFrag_next {l : List Byte} {s : State} {a : SmbAsm} (hF : (bytesAt l 0 1).testBit 7 = false)
    (ha : s.smb.asm = some a) (hring : a.ring = bytesAt l 0 1 % 64) (hseq : a.next = bytesAt l 1 1)
    (hlen : a.bytes.length + (l.drop 2).length ≤ asmBytes) (hl : l ≠ a.last) :
    s.pushFrag l = s.fragTaken ⟨a.ring, a.bytes ++ l.drop 2, (bytesAt l 1 1 + 1) % 256, l⟩ ((bytesAt l 0 1).testBit 6) := by
  unfold State.pushFrag
  dsimp only
  rw [hF, if_neg (by decide), ha, hring]
  exact (if_neg hl).trans (if_pos ⟨hring, hseq, hlen⟩)

theorem pushFrag_unfit {l : List Byte} {s : State} {a : SmbAsm} (hF : (bytesAt l 0 1).testBit 7 = false)
    (ha : s.smb.asm = some a) (hl : l ≠ a.last) (h : a.ring ≠ bytesAt l 0 1 % 64 ∨ a.next ≠ bytesAt l 1 1 ∨
      asmBytes < a.bytes.length + (l.drop 2).length) : s.pushFrag l = s.fragBad := by
  unfold State.pushFrag
  dsimp only
  rw [hF, if_neg (by decide), ha]
  refine (if_neg hl).trans (if_neg ?_)
  rintro ⟨hring, hseq, hlen⟩
  rcases h with h | h | h
  · exact h hring
  · exact h hseq
  · exact Nat.not_lt.mpr hlen h

theorem fragTaken_more (s : State) (a : SmbAsm) : s.fragTaken a false = s.setAsm (some a) := rfl
theorem fragTaken_last (s : State) (a : SmbAsm) : s.fragTaken a true = (s.setAsm none).fragPush a.ring a.bytes := rfl

end Sys2Proof.Machine
end

section
/-! PROOFS. SMBus deliveries, bus recovery, Host Notify and the wake (R408, R409, R414 to R418): O54. -/
set_option linter.all false

namespace Sys2Proof.Machine

/-! ## The tail under delivery (R408) -/

theorem ringNo_val (q : Fin 40) : ringNo q.val = q := Fin.ext (Nat.mod_eq_of_lt q.isLt)

theorem tailBytes_of_entries {s t : State} {q : Fin 40} (h : (t.ring q).entries = (s.ring q).entries) :
    t.tailBytes q = s.tailBytes q := by
  unfold State.tailBytes
  rw [h]

theorem relock_entries (s : State) (q a : Fin 40) : ((s.relock q).ring a).entries = (s.ring a).entries := by
  unfold State.relock
  by_cases h : a = q
  · subst h
    rw [ring_setRing_self]
  · rw [ring_setRing_ne _ _ _ _ h]

@[simp] theorem bump_smbAddr (s : State) (b : Bool) : (s.bump SMB.TXN_CNT 0).smbAddr b = s.smbAddr b := by
  unfold State.smbAddr
  rw [rd_bump _ _ _ _ _ (by decide)]

/-- No delivery is under way. -/
def State.undelivered (s : State) : State := { s with smb := { s.smb with del := none } }

/-- The bytes that a fragment of the tail of ring q travels as, with their PEC. -/
def State.fragWire (s : State) (q : Fin 40) (act off len seq : Nat) : List Byte :=
  let block := smbBlock (leBytes 1 (q.val % 64 + (if off = 0 then 128 else 0) +
    (if (s.tailBytes q).length ≤ off + len then 64 else 0)) ++ leBytes 1 seq ++ ((s.tailBytes q).drop off).take len)
  block ++ [pecOf ([s.smbAddr false] ++ [0x21, 1, actionByte q.val act] ++ [s.smbAddr true] ++ block)]

/-- The bytes that answer for an empty ring, with their PEC. -/
def State.emptyWire (s : State) (q : Fin 40) (act : Nat) : List Byte :=
  [2, BitVec.ofNat 8 (q.val % 64), 0] ++ [pecOf ([s.smbAddr false] ++ [0x21, 1, actionByte q.val act] ++
    [s.smbAddr true] ++ [2, BitVec.ofNat 8 (q.val % 64), 0])]

@[simp] theorem bump_fragWire (s : State) (q : Fin 40) (act off len seq : Nat) :
    (s.bump SMB.TXN_CNT 0).fragWire q act off len seq = s.fragWire q act off len seq := by
  unfold State.fragWire
  rw [bump_smbAddr, bump_smbAddr]
  rfl

@[simp] theorem bump_emptyWire (s : State) (q : Fin 40) (act : Nat) :
    (s.bump SMB.TXN_CNT 0).emptyWire q act = s.emptyWire q act := by
  unfold State.emptyWire
  rw [bump_smbAddr, bump_smbAddr]

/-- What t delivers of the tail of ring q, as s has it: the fragment at `off`. -/
def Delivers (q : Fin 40) (act off len seq : Nat) (s t : State) : Prop :=
  t.smb.del = some ⟨q.val, off, len, seq⟩ ∧ (t.ring q).entries = (s.ring q).entries ∧
    t.smb.tx = s.fragWire q act off len seq

theorem Delivers.of_bump {q : Fin 40} {act off len seq : Nat} {s t : State}
    (h : Delivers q act off len seq (s.bump SMB.TXN_CNT 0) t) : Delivers q act off len seq s t := by
  obtain ⟨hdel, hring, htx⟩ := h
  exact ⟨hdel, hring, htx.trans (bump_fragWire s q act off len seq)⟩

theorem fragSend_delivers (s : State) (q : Fin 40) (act off len seq : Nat) :
    Delivers q act off len seq s (s.fragSend q.val act off len seq) := by
  unfold State.fragSend
  rw [ringNo_val]
  exact ⟨rfl, relock_entries _ q q, rfl⟩

theorem fragFirst_tail {s : State} {q : Fin 40} (act : Nat) (h : s.tailBytes q ≠ []) : s.fragFirst q.val act =
    s.fragSend q.val act 0 (min (s.rd SMB.FRAG_MAX 0) (s.tailBytes q).length) 0 := by
  unfold State.fragFirst
  rw [ringNo_val]
  exact if_neg (by simpa using h)

theorem fragFirst_empty {s : State} {q : Fin 40} (act : Nat) (h : s.tailBytes q = []) :
    s.fragFirst q.val act = s.undelivered.fragEmpty q.val act := by
  unfold State.fragFirst
  rw [ringNo_val]
  exact if_pos (by simp [h])

theorem abandon_some {s : State} {d : SmbDel} (h : s.smb.del = some d) :
    s.abandon = s.undelivered.relock (ringNo d.ring) := by
  unfold State.abandon
  rw [h]
  rfl

theorem abandon_none {s : State} (h : s.smb.del = none) : s.abandon = s := by
  unfold State.abandon
  rw [h]

theorem abandon_entries (s : State) (q : Fin 40) : ((s.abandon).ring q).entries = (s.ring q).entries := by
  cases h : s.smb.del with
  | none => rw [abandon_none h]
  | some d => rw [abandon_some h]; exact relock_entries _ _ q

theorem abandon_rd (s : State) (F : Field) (i : Nat) : s.abandon.rd F i = s.rd F i := by
  cases h : s.smb.del with
  | none => rw [abandon_none h]
  | some d => rw [abandon_some h]; rfl

theorem abandon_smbAddr (s : State) (b : Bool) : s.abandon.smbAddr b = s.smbAddr b := by
  unfold State.smbAddr
  rw [abandon_rd]

/-- A delivery after another ring's was abandoned delivers the same bytes. -/
theorem Delivers.of_abandon {q : Fin 40} {act off len seq : Nat} {s t : State}
    (h : Delivers q act off len seq s.abandon t) : Delivers q act off len seq s t := by
  obtain ⟨hdel, hring, htx⟩ := h
  refine ⟨hdel, hring.trans (abandon_entries s q), htx.trans ?_⟩
  unfold State.fragWire
  rw [tailBytes_of_entries (abandon_entries s q), abandon_smbAddr, abandon_smbAddr]

/-- The first fragment of the tail, whatever was under delivery on it. -/
theorem fragFirst_delivers {s : State} {q : Fin 40} (act : Nat) (h : s.tailBytes q ≠ []) :
    Delivers q act 0 (min (s.rd SMB.FRAG_MAX 0) (s.tailBytes q).length) 0 s (s.fragFirst q.val act) := by
  rw [fragFirst_tail act h]
  exact fragSend_delivers s q act _ _ _

/-- The answer for an empty ring ends the delivery. -/
theorem fragFirst_answersEmpty {s : State} {q : Fin 40} (act : Nat) (h : s.tailBytes q = []) :
    (s.fragFirst q.val act).smb.del = none ∧ ((s.fragFirst q.val act).ring q).entries = (s.ring q).entries ∧
    (s.fragFirst q.val act).smb.tx = s.emptyWire q act := by
  rw [fragFirst_empty act h]
  exact ⟨rfl, rfl, rfl⟩

/-! ## PULL_FRAG (R408, R409) -/

theorem pullTxn_ready {s : State} (ring act : Nat) (hw : s.dev ≠ .watch) (hr : s.on SYS.READY 0 = true) :
    s.pullTxn 1 ring act = (s.bump SMB.TXN_CNT 0).pullFrag ring act := by
  unfold State.pullTxn
  rw [smbServed_ready _ _ _ hw hr, if_neg (by decide)]

theorem pullTxn_badCount {s : State} {n : Byte} (ring act : Nat) (hw : s.dev ≠ .watch) (hr : s.on SYS.READY 0 = true)
    (hn : n.toNat ≠ 1) : s.pullTxn n ring act = (s.bump SMB.TXN_CNT 0).smbErr stBAD_ARG 0x21 := by
  unfold State.pullTxn
  rw [smbServed_ready _ _ _ hw hr, if_pos hn]

theorem pullTxn_unready {s : State} (n : Byte) (ring act : Nat) (hw : s.dev ≠ .watch) (hr : s.on SYS.READY 0 = false)
    (hrom : s.romServes ring 4 = false) : s.pullTxn n ring act = (s.bump SMB.TXN_CNT 0).smbErr stNOT_READY 0x21 :=
  smbServed_unready _ _ hw hr hrom

theorem pullTxn_watch {s : State} (n : Byte) (ring act : Nat) (hw : s.dev = .watch) : s.pullTxn n ring act = s :=
  smbServed_watch _ _ _ hw

theorem pullFrag_bad {s : State} {ring act : Nat} (h : ring < 4 ∨ 39 < ring ∨ act = 3) :
    s.pullFrag ring act = (s.smbErr stBAD_ARG 0x21).fragEmpty ring act := if_pos h

theorem pullRing_served {q : Fin 40} {act : Nat} (h4 : 4 ≤ q.val) (ha : act ≠ 3) : ¬(q.val < 4 ∨ 39 < q.val ∨ act = 3) := by
  have := q.isLt
  omega

theorem pullFrag_fresh {s : State} {q : Fin 40} {act : Nat} (h4 : 4 ≤ q.val) (ha : act ≠ 3) (hd : s.smb.del = none) :
    s.pullFrag q.val act = s.fragFirst q.val act := by
  unfold State.pullFrag
  rw [if_neg (pullRing_served h4 ha), hd]

theorem pullFrag_other {s : State} {q : Fin 40} {act : Nat} {d : SmbDel} (h4 : 4 ≤ q.val) (ha : act ≠ 3)
    (hd : s.smb.del = some d) (hq : d.ring ≠ q.val) : s.pullFrag q.val act = s.abandon.fragFirst q.val act := by
  unfold State.pullFrag
  rw [if_neg (pullRing_served h4 ha), hd]
  exact if_pos hq

theorem pullFrag_goesOn {s : State} {q : Fin 40} {d : SmbDel} (h4 : 4 ≤ q.val) (hd : s.smb.del = some d)
    (hq : d.ring = q.val) (hlt : d.off + d.len < (s.tailBytes q).length) : s.pullFrag q.val 0 =
      s.fragSend q.val 0 (d.off + d.len) (min (s.rd SMB.FRAG_MAX 0) ((s.tailBytes q).length - d.off - d.len))
        ((d.seq + 1) % 256) := by
  unfold State.pullFrag
  rw [if_neg (pullRing_served h4 (by decide)), hd, ringNo_val]
  exact (if_neg (not_not.mpr hq)).trans (if_neg (Nat.not_le.mpr hlt))

theorem pullFrag_done {s : State} {q : Fin 40} {d : SmbDel} (h4 : 4 ≤ q.val) (hd : s.smb.del = some d)
    (hq : d.ring = q.val) (hle : (s.tailBytes q).length ≤ d.off + d.len) :
    s.pullFrag q.val 0 = (s.fragDone q.val).fragFirst q.val 0 := by
  unfold State.pullFrag
  rw [if_neg (pullRing_served h4 (by decide)), hd, ringNo_val]
  exact (if_neg (not_not.mpr hq)).trans (if_pos hle)

theorem pullFrag_again {s : State} {q : Fin 40} {d : SmbDel} (h4 : 4 ≤ q.val) (hd : s.smb.del = some d)
    (hq : d.ring = q.val) : s.pullFrag q.val 1 = s.fragSend q.val 1 d.off d.len d.seq := by
  unfold State.pullFrag
  rw [if_neg (pullRing_served h4 (by decide)), hd]
  exact if_neg (not_not.mpr hq)

theorem pullFrag_restart {s : State} {q : Fin 40} {d : SmbDel} (h4 : 4 ≤ q.val) (hd : s.smb.del = some d)
    (hq : d.ring = q.val) : s.pullFrag q.val 2 = s.fragFirst q.val 2 := by
  unfold State.pullFrag
  rw [if_neg (pullRing_served h4 (by decide)), hd]
  exact if_neg (not_not.mpr hq)

theorem bump_fragMax (s : State) : (s.bump SMB.TXN_CNT 0).rd SMB.FRAG_MAX 0 = s.rd SMB.FRAG_MAX 0 :=
  rd_bump _ _ _ _ _ (by decide)

theorem fragMax_abandon (s : State) : (s.bump SMB.TXN_CNT 0).abandon.rd SMB.FRAG_MAX 0 = s.rd SMB.FRAG_MAX 0 := by
  rw [abandon_rd, bump_fragMax]

/-- With no delivery under way each action delivers the tail from its first fragment. -/
theorem pullTxn_fresh {s : State} {q : Fin 40} {act : Nat} (ha : act ≠ 3) (hw : s.dev ≠ .watch)
    (hr : s.on SYS.READY 0 = true) (h4 : 4 ≤ q.val) (ht : s.tailBytes q ≠ []) (hd : s.smb.del = none) :
    Delivers q act 0 (min (s.rd SMB.FRAG_MAX 0) (s.tailBytes q).length) 0 s (s.pullTxn 1 q.val act) := by
  have hsend := fragFirst_delivers (s := s.bump SMB.TXN_CNT 0) (q := q) act ht
  rw [bump_fragMax] at hsend
  rw [pullTxn_ready _ _ hw hr, pullFrag_fresh (s := s.bump SMB.TXN_CNT 0) h4 ha hd]
  exact hsend.of_bump

/-- Over a delivery of another ring, which is abandoned, likewise. -/
theorem pullTxn_other {s : State} {q : Fin 40} {act : Nat} {d : SmbDel} (ha : act ≠ 3) (hw : s.dev ≠ .watch)
    (hr : s.on SYS.READY 0 = true) (h4 : 4 ≤ q.val) (ht : s.tailBytes q ≠ []) (hd : s.smb.del = some d)
    (hq : d.ring ≠ q.val) :
    Delivers q act 0 (min (s.rd SMB.FRAG_MAX 0) (s.tailBytes q).length) 0 s (s.pullTxn 1 q.val act) := by
  have htail : (s.bump SMB.TXN_CNT 0).abandon.tailBytes q = s.tailBytes q :=
    tailBytes_of_entries (abandon_entries (s.bump SMB.TXN_CNT 0) q)
  have hsend := fragFirst_delivers (s := (s.bump SMB.TXN_CNT 0).abandon) (q := q) act (htail ▸ ht)
  rw [fragMax_abandon, htail] at hsend
  rw [pullTxn_ready _ _ hw hr, pullFrag_other (s := s.bump SMB.TXN_CNT 0) h4 ha hd hq]
  exact hsend.of_abandon.of_bump

theorem pullTxn_empty {s : State} {q : Fin 40} {act : Nat} (ha : act ≠ 3) (hw : s.dev ≠ .watch)
    (hr : s.on SYS.READY 0 = true) (h4 : 4 ≤ q.val) (ht : s.tailBytes q = []) (hd : s.smb.del = none) :
    (s.pullTxn 1 q.val act).smb.del = none ∧ ((s.pullTxn 1 q.val act).ring q).entries = (s.ring q).entries ∧
    (s.pullTxn 1 q.val act).smb.tx = s.emptyWire q act := by
  obtain ⟨hdel, hring, htx⟩ := fragFirst_answersEmpty (s := s.bump SMB.TXN_CNT 0) (q := q) act ht
  rw [pullTxn_ready _ _ hw hr, pullFrag_fresh (s := s.bump SMB.TXN_CNT 0) h4 ha hd]
  exact ⟨hdel, hring, htx.trans (bump_emptyWire s q act)⟩

/-- NEXT goes on with the tail under delivery. -/
theorem pullTxn_goesOn {s : State} {q : Fin 40} {d : SmbDel} (hw : s.dev ≠ .watch) (hr : s.on SYS.READY 0 = true)
    (h4 : 4 ≤ q.val) (hd : s.smb.del = some d) (hq : d.ring = q.val) (hlt : d.off + d.len < (s.tailBytes q).length) :
    Delivers q 0 (d.off + d.len) (min (s.rd SMB.FRAG_MAX 0) ((s.tailBytes q).length - d.off - d.len)) ((d.seq + 1) % 256)
      s (s.pullTxn 1 q.val 0) := by
  rw [pullTxn_ready _ _ hw hr, pullFrag_goesOn (s := s.bump SMB.TXN_CNT 0) h4 hd hq hlt, bump_fragMax]
  exact (fragSend_delivers (s.bump SMB.TXN_CNT 0) q 0 _ _ _).of_bump

/-- AGAIN repeats the fragment. -/
theorem pullTxn_again {s : State} {q : Fin 40} {d : SmbDel} (hw : s.dev ≠ .watch) (hr : s.on SYS.READY 0 = true)
    (h4 : 4 ≤ q.val) (hd : s.smb.del = some d) (hq : d.ring = q.val) :
    Delivers q 1 d.off d.len d.seq s (s.pullTxn 1 q.val 1) := by
  rw [pullTxn_ready _ _ hw hr, pullFrag_again (s := s.bump SMB.TXN_CNT 0) h4 hd hq]
  exact (fragSend_delivers (s.bump SMB.TXN_CNT 0) q 1 _ _ _).of_bump

/-- RESTART begins the delivery again. -/
theorem pullTxn_restart {s : State} {q : Fin 40} {d : SmbDel} (hw : s.dev ≠ .watch) (hr : s.on SYS.READY 0 = true)
    (h4 : 4 ≤ q.val) (hd : s.smb.del = some d) (hq : d.ring = q.val) (ht : s.tailBytes q ≠ []) :
    Delivers q 2 0 (min (s.rd SMB.FRAG_MAX 0) (s.tailBytes q).length) 0 s (s.pullTxn 1 q.val 2) := by
  have hsend := fragFirst_delivers (s := s.bump SMB.TXN_CNT 0) (q := q) 2 ht
  rw [bump_fragMax] at hsend
  rw [pullTxn_ready _ _ hw hr, pullFrag_restart (s := s.bump SMB.TXN_CNT 0) h4 hd hq]
  exact hsend.of_bump

theorem fragDone_entries (s : State) (q : Fin 40) : ((s.fragDone q.val).ring q).entries = (s.ring q).entries.drop 1 := by
  unfold State.fragDone
  rw [ringNo_val]
  exact removeTail_entries_self s q

theorem fragDone_fragMax (s : State) (q : Fin 40) : (s.fragDone q.val).rd SMB.FRAG_MAX 0 = s.rd SMB.FRAG_MAX 0 :=
  removeTail_rd s (ringNo q.val) _ _ (by decide)

/-- NEXT after the last fragment removes the record and delivers the one that comes after it. -/
theorem pullTxn_done {s : State} {q : Fin 40} {d : SmbDel} (hw : s.dev ≠ .watch) (hr : s.on SYS.READY 0 = true)
    (h4 : 4 ≤ q.val) (hd : s.smb.del = some d) (hq : d.ring = q.val) (hle : (s.tailBytes q).length ≤ d.off + d.len) :
    ((s.pullTxn 1 q.val 0).ring q).entries = ((s.removeTail q).ring q).entries ∧
    ((s.pullTxn 1 q.val 0).smb.del = none ∨ (s.pullTxn 1 q.val 0).smb.del =
      some ⟨q.val, 0, min (s.rd SMB.FRAG_MAX 0) ((s.removeTail q).tailBytes q).length, 0⟩) := by
  have hrest : (((s.bump SMB.TXN_CNT 0).fragDone q.val).ring q).entries = ((s.removeTail q).ring q).entries :=
    (fragDone_entries _ q).trans (removeTail_entries_self s q).symm
  have htail := tailBytes_of_entries hrest
  rw [pullTxn_ready _ _ hw hr, pullFrag_done (s := s.bump SMB.TXN_CNT 0) h4 hd hq hle]
  by_cases hempty : ((s.bump SMB.TXN_CNT 0).fragDone q.val).tailBytes q = []
  · obtain ⟨hdel, hring, -⟩ := fragFirst_answersEmpty 0 hempty
    exact ⟨hring.trans hrest, .inl hdel⟩
  · obtain ⟨hdel, hring, -⟩ := fragFirst_delivers 0 hempty
    rw [fragDone_fragMax, bump_fragMax, htail] at hdel
    exact ⟨hring.trans hrest, .inr hdel⟩

/-- Another ring and the reserved action are BAD_ARG and change no delivery and no ring. -/
theorem pullTxn_bad {s : State} {ring act : Nat} (hw : s.dev ≠ .watch) (hr : s.on SYS.READY 0 = true)
    (h : ring < 4 ∨ 39 < ring ∨ act = 3) : (s.pullTxn 1 ring act).on SMB.ERR 0 = true ∧
    (s.pullTxn 1 ring act).rd SMB.LAST_ERR 0 = stBAD_ARG ∧ (s.pullTxn 1 ring act).rd SMB.LAST_CMD 0 = 0x21 ∧
    (s.pullTxn 1 ring act).smb.del = s.smb.del ∧
    ∀ q, ((s.pullTxn 1 ring act).ring q).entries = (s.ring q).entries := by
  rw [pullTxn_ready _ _ hw hr, pullFrag_bad h]
  obtain ⟨herr, hcode, hcmd⟩ := smbErr_shows (s.bump SMB.TXN_CNT 0) stBAD_ARG 0x21
  exact ⟨herr, hcode, hcmd, rfl, fun _ => rfl⟩

/-- A refused transaction is shown and counted, and keeps the SMBus state. -/
theorem refusedTxn_shows (s : State) (code cmd : Nat) :
    ((s.bump SMB.TXN_CNT 0).smbErr code cmd).on SMB.ERR 0 = true ∧
    ((s.bump SMB.TXN_CNT 0).smbErr code cmd).rd SMB.LAST_ERR 0 = code % 2 ^ 8 ∧
    ((s.bump SMB.TXN_CNT 0).smbErr code cmd).rd SMB.LAST_CMD 0 = cmd % 2 ^ 8 ∧
    ((s.bump SMB.TXN_CNT 0).smbErr code cmd).smb = s.smb ∧
    ((s.bump SMB.TXN_CNT 0).smbErr code cmd).rd SMB.TXN_CNT 0 = min (s.rd SMB.TXN_CNT 0 + 1) (2 ^ 32 - 1) := by
  obtain ⟨herr, hcode, hcmd⟩ := smbErr_shows (s.bump SMB.TXN_CNT 0) code cmd
  refine ⟨herr, hcode, hcmd, rfl, ?_⟩
  rw [smbErr_rd _ _ _ _ _ (by decide) (by decide) (by decide), rd_bump_self]
  rfl

end Sys2Proof.Machine
end

section
/-! PROOFS. SMBus bus recovery, Host Notify and the wake (R414 to R418), and its fragments: O54. -/
set_option linter.all false

namespace Sys2Proof.Machine

/-! ## Host Notify (R415 to R417) -/

/-- An attempt at a notification is counted, and one lost to arbitration shown. -/
def State.notifyTried (s : State) (r : NotifyTry) : State :=
  let s1 := s.wr SMB.ATTEMPTS 0 (s.rd SMB.ATTEMPTS 0 + 1)
  if r = .lost then (s1.bump SMB.ARB_LOST 0).irq SMB.page 0 SMB.IRQ_ARB_LOST else s1

/-- The frame is sent. -/
def State.notifySent (s : State) : State :=
  ((({ s with smb := { s.smb with notifying := false, quiet := true, tx := [0x10, s.smbAddr false] ++ leBytes 2 s.devStatus } } :
    State).bump SMB.NOTIFY_CNT 0).wr SMB.RESULT 0 1)

/-- The notification is dropped. -/
def State.notifyDropped (s : State) : State :=
  (((({ s with smb := { s.smb with notifying := false } } : State).flag SMB.NOTIFY_FAIL 0 true).bump
    SMB.NOTIFY_FAIL_CNT 0).irq SMB.page 0 SMB.IRQ_NOTIFY_FAIL).wr SMB.RESULT 0 2

theorem notifyTry_sent (s : State) : s.notifyTry .sent = (s.notifyTried .sent).notifySent := rfl

theorem notifyTry_unsent (s : State) {r : NotifyTry} (h : r ≠ .sent) : s.notifyTry r =
    if s.rd SMB.ATTEMPTS 0 + 1 < notifyTries then s.notifyTried r else (s.notifyTried r).notifyDropped := by
  cases r with
  | sent => exact absurd rfl h
  | lost => rfl
  | nack => rfl

@[simp] theorem notifyTried_smb (s : State) (r : NotifyTry) : (s.notifyTried r).smb = s.smb := by
  unfold State.notifyTried
  split <;> rfl

/-- An attempt writes ATTEMPTS, ARB_LOST and the interrupt of the latter only. -/
theorem notifyTried_rd (s : State) (r : NotifyTry) (F : Field) (i : Nat) (ha : F.apart SMB.ATTEMPTS = true)
    (hl : F.apart SMB.ARB_LOST = true) (hi : F.apart (IRQ_STAT SMB.page) = true) :
    (s.notifyTried r).rd F i = s.rd F i := by
  unfold State.notifyTried
  split
  · rw [rd_irq _ _ _ _ _ _ hi, rd_bump _ _ _ _ _ hl, rd_wr _ _ _ _ _ _ ha]
  · exact rd_wr _ _ _ _ _ _ ha

theorem notifyTried_attempts (s : State) (r : NotifyTry) :
    (s.notifyTried r).rd SMB.ATTEMPTS 0 = (s.rd SMB.ATTEMPTS 0 + 1) % 2 ^ SMB.ATTEMPTS.width := by
  unfold State.notifyTried
  split
  · rw [rd_irq _ _ _ _ _ _ (by decide), rd_bump _ _ _ _ _ (by decide), rd_wr_self]
  · exact rd_wr_self _ _ _ _

theorem notifyTried_lost (s : State) (r : NotifyTry) : (s.notifyTried r).rd SMB.ARB_LOST 0 =
    if r = .lost then min (s.rd SMB.ARB_LOST 0 + 1) (2 ^ 32 - 1) else s.rd SMB.ARB_LOST 0 := by
  unfold State.notifyTried
  split
  · rw [rd_irq _ _ _ _ _ _ (by decide), rd_bump_self, rd_wr _ _ _ _ _ _ (by decide)]
    rfl
  · exact rd_wr _ _ _ _ _ _ (by decide)

/-- A frame sent is counted and quiets the notifications. -/
theorem notifyTry_sent_shows (s : State) : (s.notifyTry .sent).rd SMB.RESULT 0 = 1 ∧
    (s.notifyTry .sent).smb.quiet = true ∧ (s.notifyTry .sent).smb.notifying = false ∧
    (s.notifyTry .sent).rd SMB.NOTIFY_CNT 0 = min (s.rd SMB.NOTIFY_CNT 0 + 1) (2 ^ 32 - 1) ∧
    (s.notifyTry .sent).rd SMB.ATTEMPTS 0 = (s.rd SMB.ATTEMPTS 0 + 1) % 2 ^ SMB.ATTEMPTS.width := by
  rw [notifyTry_sent]
  unfold State.notifySent
  refine ⟨rd_wr_self _ _ _ _, rfl, rfl, ?_, ?_⟩
  · rw [rd_wr _ _ _ _ _ _ (by decide), rd_bump_self]
    exact congrArg (fun n => min (n + 1) (2 ^ 32 - 1)) (notifyTried_rd s _ _ _ (by decide) (by decide) (by decide))
  · rw [rd_wr _ _ _ _ _ _ (by decide), rd_bump _ _ _ _ _ (by decide)]
    exact notifyTried_attempts s _

/-- Before the eighth failure the notification keeps trying. -/
theorem notifyTry_keepsTrying {s : State} {r : NotifyTry} (h : r ≠ .sent) (hn : s.rd SMB.ATTEMPTS 0 + 1 < 8) :
    (s.notifyTry r).smb = s.smb ∧ (s.notifyTry r).rd SMB.ATTEMPTS 0 = s.rd SMB.ATTEMPTS 0 + 1 ∧
    (s.notifyTry r).rd SMB.ARB_LOST 0 =
      if r = .lost then min (s.rd SMB.ARB_LOST 0 + 1) (2 ^ 32 - 1) else s.rd SMB.ARB_LOST 0 := by
  rw [notifyTry_unsent s h, if_pos hn]
  refine ⟨notifyTried_smb s r, (notifyTried_attempts s r).trans (Nat.mod_eq_of_lt ?_), notifyTried_lost s r⟩
  exact Nat.lt_of_lt_of_le hn (by decide)

/-- At the eighth failure it is given up, counted. -/
theorem notifyTry_givesUp {s : State} {r : NotifyTry} (h : r ≠ .sent) (hn : 8 ≤ s.rd SMB.ATTEMPTS 0 + 1) :
    (s.notifyTry r).smb.notifying = false ∧ (s.notifyTry r).on SMB.NOTIFY_FAIL 0 = true ∧
    (s.notifyTry r).rd SMB.RESULT 0 = 2 ∧
    (s.notifyTry r).rd SMB.ARB_LOST 0 =
      (if r = .lost then min (s.rd SMB.ARB_LOST 0 + 1) (2 ^ 32 - 1) else s.rd SMB.ARB_LOST 0) ∧
    (s.notifyTry r).rd SMB.NOTIFY_FAIL_CNT 0 = min (s.rd SMB.NOTIFY_FAIL_CNT 0 + 1) (2 ^ 32 - 1) := by
  rw [notifyTry_unsent s h, if_neg (Nat.not_lt.mpr hn)]
  unfold State.notifyDropped
  refine ⟨rfl, ?_, rd_wr_self _ _ _ _, ?_, ?_⟩
  · simp (disch := decide) only [on_wr, on_irq, on_bump, on_flag_self]
  · simp (disch := decide) only [rd_wr, rd_irq, rd_bump, rd_flag]
    exact notifyTried_lost s r
  · simp (disch := decide) only [rd_wr, rd_irq, rd_bump_self, rd_flag]
    exact congrArg (fun n => min (n + 1) (2 ^ 32 - 1)) (notifyTried_rd s _ _ _ (by decide) (by decide) (by decide))

/-- A notification begins, nothing held back. -/
def State.notifyBegun (s : State) : State :=
  ({ s with smb := { s.smb with notifying := true, heldBack := false } } : State).wr SMB.ATTEMPTS 0 0

@[simp] theorem notifyBegun_attempts (s : State) : s.notifyBegun.rd SMB.ATTEMPTS 0 = 0 := rd_wr_self _ _ _ _

theorem notifyBegun_rd (s : State) (F : Field) (i : Nat) (h : F.apart SMB.ATTEMPTS = true) :
    s.notifyBegun.rd F i = s.rd F i := rd_wr _ _ _ _ _ _ h

/-- A notification whose first attempt sends the frame. -/
theorem notifyStart_sent (s : State) : (s.notifyStart .sent).rd SMB.RESULT 0 = 1 ∧
    (s.notifyStart .sent).smb.quiet = true ∧ (s.notifyStart .sent).smb.notifying = false ∧
    (s.notifyStart .sent).rd SMB.NOTIFY_CNT 0 = min (s.rd SMB.NOTIFY_CNT 0 + 1) (2 ^ 32 - 1) ∧
    (s.notifyStart .sent).rd SMB.ATTEMPTS 0 = 1 := by
  obtain ⟨hres, hquiet, hnot, hcnt, hatt⟩ := notifyTry_sent_shows s.notifyBegun
  rw [notifyBegun_rd _ _ _ (by decide)] at hcnt
  rw [notifyBegun_attempts] at hatt
  exact ⟨hres, hquiet, hnot, hcnt, hatt⟩

/-- A notification whose first attempt fails. -/
theorem notifyStart_unsent (s : State) {r : NotifyTry} (h : r ≠ .sent) : (s.notifyStart r).smb.notifying = true ∧
    (s.notifyStart r).smb.quiet = s.smb.quiet ∧ (s.notifyStart r).rd SMB.ATTEMPTS 0 = 1 ∧
    (s.notifyStart r).rd SMB.ARB_LOST 0 =
      if r = .lost then min (s.rd SMB.ARB_LOST 0 + 1) (2 ^ 32 - 1) else s.rd SMB.ARB_LOST 0 := by
  obtain ⟨hsmb, hatt, hlost⟩ := notifyTry_keepsTrying (s := s.notifyBegun) h (by rw [notifyBegun_attempts]; decide)
  rw [notifyBegun_attempts] at hatt
  rw [notifyBegun_rd _ _ _ (by decide)] at hlost
  exact ⟨congrArg SmbSt.notifying hsmb, (congrArg SmbSt.quiet hsmb).trans rfl, hatt, hlost⟩

theorem hostNotify_starts {s : State} (r : NotifyTry) (hen : s.on SMB.NOTIFY_EN 0 = true) (hirq : s.irqN = true)
    (hn : s.smb.notifying = false) (hq : s.smb.quiet = false) : exec (.hostNotify r) s = .next (s.notifyStart r) := by
  show execHostNotify r s = _
  unfold execHostNotify
  rw [if_neg (by simp [hen, hirq, hn]), if_neg (by simp [hq])]

/-- NOTIFY_MIN has ended. -/
def State.unquiet (s : State) : State := { s with smb := { s.smb with quiet := false } }

theorem notifyMinExpiry_starts {s : State} (r : NotifyTry) (hh : s.smb.heldBack = true) (hen : s.on SMB.NOTIFY_EN 0 = true)
    (hirq : s.irqN = true) : exec (.notifyMinExpiry r) s = .next (s.unquiet.notifyStart r) := by
  show execNotifyMinExpiry r s = _
  unfold execNotifyMinExpiry
  exact congrArg Host.Outcome.next (if_pos (by simp [hh, hen, hirq]))

theorem notifyMinExpiry_idle {s : State} (r : NotifyTry)
    (h : s.smb.heldBack = false ∨ s.on SMB.NOTIFY_EN 0 = false ∨ s.irqN = false) : exec (.notifyMinExpiry r) s =
      .next ({ s with smb := { s.smb with quiet := false, heldBack := false } }) := by
  show execNotifyMinExpiry r s = _
  unfold execNotifyMinExpiry
  refine congrArg Host.Outcome.next (if_neg ?_)
  rcases h with h | h | h <;> simp [h]

/-! ## Bus recovery (R414) -/

/-- The pulses on SCL end. -/
def State.recovered (s : State) : State :=
  ({ s with smb := { s.smb with recover := false } } : State).bump SMB.RECOVERY_CNT 0

theorem execRecover_eq (f : Bool) (s : State) : exec (.recover f) s = .next
    (if f then s.recovered else (s.recovered.flag SMB.BUS_STUCK 0 true).irq SMB.page 0 SMB.IRQ_BUS_STUCK) := rfl

/-- A recovery is counted, and marks a bus that is not freed. -/
theorem recover_shows (f : Bool) (s : State) : ∃ t, exec (.recover f) s = .next t ∧ t.smb.recover = false ∧
    t.on SMB.BUS_STUCK 0 = (!f || s.on SMB.BUS_STUCK 0) ∧
    t.rd SMB.RECOVERY_CNT 0 = min (s.rd SMB.RECOVERY_CNT 0 + 1) (2 ^ 32 - 1) := by
  refine ⟨_, execRecover_eq f s, ?_⟩
  unfold State.recovered
  cases f with
  | true => exact ⟨rfl, on_bump _ _ _ _ _ (by decide), rd_bump_self _ _ _⟩
  | false =>
    refine ⟨rfl, ?_, ?_⟩
    · exact (on_irq _ _ _ _ _ _ (by decide)).trans (on_flag_self _ _ _ _ (by decide))
    · exact ((rd_irq _ _ _ _ _ _ (by decide)).trans (rd_flag _ _ _ _ _ _ (by decide))).trans (rd_bump_self _ _ _)

/-! ## The wake (R418) -/

theorem wakeBy_watch {s : State} (n : Nat) (h : s.dev = .watch) : (s.wakeBy n).dev = .waking ∧
    (s.wakeBy n).rd RST.SRC 0 = 2 ^ n % 2 ^ RST.SRC.width := by
  unfold State.wakeBy
  rw [if_pos h]
  exact ⟨rfl, rd_wr_self _ _ _ _⟩

/-! ## Transactions that are refused (R399, R401) -/

/-- A bad PEC is shown and counted, and keeps the SMBus state. -/
theorem pecErr_shows (s : State) (cmd : Nat) : ((s.bump SMB.TXN_CNT 0).pecErr cmd).on SMB.ERR 0 = true ∧
    ((s.bump SMB.TXN_CNT 0).pecErr cmd).rd SMB.LAST_ERR 0 = stCRC ∧
    ((s.bump SMB.TXN_CNT 0).pecErr cmd).rd SMB.LAST_CMD 0 = cmd % 2 ^ 8 ∧
    ((s.bump SMB.TXN_CNT 0).pecErr cmd).smb = s.smb ∧
    ((s.bump SMB.TXN_CNT 0).pecErr cmd).rd SMB.PEC_ERR_CNT 0 = min (s.rd SMB.PEC_ERR_CNT 0 + 1) (2 ^ 32 - 1) ∧
    ((s.bump SMB.TXN_CNT 0).pecErr cmd).rd SMB.TXN_CNT 0 = min (s.rd SMB.TXN_CNT 0 + 1) (2 ^ 32 - 1) := by
  obtain ⟨herr, hcode, hcmd, -, hcnt⟩ := refusedTxn_shows s stCRC cmd
  unfold State.pecErr
  refine ⟨?_, ?_, ?_, rfl, ?_, ?_⟩
  · simp (disch := decide) only [on_irq, on_bump, herr]
  · simp (disch := decide) only [rd_irq, rd_bump, hcode]
    rfl
  · simp (disch := decide) only [rd_irq, rd_bump, hcmd]
  · simp (disch := decide) only [rd_irq, rd_bump_self, rd_bump, smbErr_rd]
    rfl
  · simp (disch := decide) only [rd_irq, rd_bump, hcnt]

theorem execPushFrag_badCount {n : Byte} {l : List Byte} {x : Pec} {s : State} (hw : s.dev ≠ .watch)
    (hr : s.on SYS.READY 0 = true) (hn : n.toNat < 3 ∨ s.rd SMB.FRAG_MAX 0 + 2 < n.toNat) :
    exec (.pushFrag n l x) s = .next ((s.bump SMB.TXN_CNT 0).smbErr stBAD_ARG 0x20) := by
  show execPushFrag n l x s = _
  unfold execPushFrag
  rw [smbServed_ready _ _ _ hw hr, bump_fragMax, blockWrite_badCount _ _ _ _ _ _ _ (by simp; omega)]

theorem execPushFrag_short {n : Byte} {l : List Byte} {x : Pec} {s : State} (hw : s.dev ≠ .watch)
    (hr : s.on SYS.READY 0 = true) (h3 : 3 ≤ n.toNat) (hmax : n.toNat ≤ s.rd SMB.FRAG_MAX 0 + 2)
    (hl : l.length ≠ n.toNat) : exec (.pushFrag n l x) s = .next (s.bump SMB.TXN_CNT 0) := by
  show execPushFrag n l x s = _
  unfold execPushFrag
  rw [smbServed_ready _ _ _ hw hr, bump_fragMax, blockWrite_short _ _ _ _ _ _ _ (by simp [h3, hmax]) hl]

theorem execPushFrag_badPec {n : Byte} {l : List Byte} {x : Pec} {s : State} (hw : s.dev ≠ .watch)
    (hr : s.on SYS.READY 0 = true) (hl : l.length = n.toNat) (h3 : 3 ≤ n.toNat) (hmax : n.toNat ≤ s.rd SMB.FRAG_MAX 0 + 2)
    (hx : s.pecOk x = false) : exec (.pushFrag n l x) s = .next ((s.bump SMB.TXN_CNT 0).pecErr 0x20) := by
  show execPushFrag n l x s = _
  unfold execPushFrag
  rw [smbServed_ready _ _ _ hw hr, bump_fragMax, blockWrite_badPec _ _ _ _ _ _ _ (by simp [h3, hmax]) hl
    ((bump_pecOk s x).trans hx)]

/-- A fragment of a transaction that fits nowhere. -/
theorem fragBad_counted (s : State) : (s.bump SMB.TXN_CNT 0).fragBad.smb.asm = none ∧
    (s.bump SMB.TXN_CNT 0).fragBad.on SMB.ERR 0 = true ∧ (s.bump SMB.TXN_CNT 0).fragBad.rd SMB.LAST_ERR 0 = stBAD_ARG ∧
    (s.bump SMB.TXN_CNT 0).fragBad.rd SMB.LAST_CMD 0 = 0x20 ∧
    (s.bump SMB.TXN_CNT 0).fragBad.rd SMB.FRAG_ABORT_CNT 0 = min (s.rd SMB.FRAG_ABORT_CNT 0 + 1) (2 ^ 32 - 1) := by
  obtain ⟨hasm, herr, hcode, hcmd, hcnt⟩ := fragBad_ends (s.bump SMB.TXN_CNT 0)
  rw [rd_bump _ _ _ _ _ (by decide)] at hcnt
  exact ⟨hasm, herr, hcode, hcmd, hcnt⟩

theorem pullTxn_countShows {s : State} {n : Byte} (ring act : Nat) (hw : s.dev ≠ .watch) (hr : s.on SYS.READY 0 = true)
    (hn : n.toNat ≠ 1) : (s.pullTxn n ring act).on SMB.ERR 0 = true ∧ (s.pullTxn n ring act).rd SMB.LAST_ERR 0 = stBAD_ARG ∧
    (s.pullTxn n ring act).rd SMB.LAST_CMD 0 = 0x21 ∧ (s.pullTxn n ring act).smb.del = s.smb.del ∧
    (s.pullTxn n ring act).rd SMB.TXN_CNT 0 = min (s.rd SMB.TXN_CNT 0 + 1) (2 ^ 32 - 1) := by
  obtain ⟨herr, hcode, hcmd, hsmb, hcnt⟩ := refusedTxn_shows s stBAD_ARG 0x21
  rw [pullTxn_badCount ring act hw hr hn]
  exact ⟨herr, hcode, hcmd, congrArg SmbSt.del hsmb, hcnt⟩

theorem pullTxn_unreadyShows {s : State} (n : Byte) {ring : Nat} (act : Nat) (hw : s.dev ≠ .watch)
    (hr : s.on SYS.READY 0 = false) (hrom : s.romServes ring 4 = false) : (s.pullTxn n ring act).on SMB.ERR 0 = true ∧
    (s.pullTxn n ring act).rd SMB.LAST_ERR 0 = stNOT_READY ∧ (s.pullTxn n ring act).rd SMB.LAST_CMD 0 = 0x21 ∧
    (s.pullTxn n ring act).rd SMB.TXN_CNT 0 = min (s.rd SMB.TXN_CNT 0 + 1) (2 ^ 32 - 1) := by
  obtain ⟨herr, hcode, hcmd, -, hcnt⟩ := refusedTxn_shows s stNOT_READY 0x21
  rw [pullTxn_unready n ring act hw hr hrom]
  exact ⟨herr, hcode, hcmd, hcnt⟩

/-! ## The obligation -/

theorem ringOfBits {q : Fin 40} {r : BitVec 6} (h : q.val = r.toNat) (n : Byte) (act : Nat) (s : State) :
    (.next (s.pullTxn n r.toNat act) : Host.Outcome State Fault Refusal) = .next (s.pullTxn n q.val act) := by rw [h]

/-- Settles O54: each PUSH_FRAG by what its assembly makes of it, each PULL_FRAG by the delivery under way, each notification by
its attempt. -/
theorem smbusFragmentsAndNotify : Obligations.SmbusFragmentsAndNotify := by
  unfold Obligations.SmbusFragmentsAndNotify
  refine ⟨?first, ?firstLast, ?firstOutOfOrder, ?next, ?nextLast, ?duplicate, ?unfit, ?noAssembly, ?badCount, ?short, ?badPec,
    ?unready, ?watch, ?timeout, ?noTimeout, ?clear, ?noClear,
    ?fresh0, ?other0, ?empty0, ?fresh1, ?other1, ?empty1, ?fresh2, ?other2, ?empty2, ?goesOn, ?done, ?again, ?restart,
    ?bad0, ?bad1, ?bad2, ?count0, ?unready0, ?watch0, ?count1, ?unready1, ?watch1, ?count2, ?unready2, ?watch2,
    ?delivery, ?noDelivery, recover_shows, ?notifySent, ?notifyUnsent, ?heldBack, ?noNotify, ?retrySent, ?retryUnsent,
    ?retryGivesUp, ?noRetry, ?minSent, ?minUnsent, ?minIdle, ?wake, ?noWake⟩
  case first =>
    intro n l x s hw hr hl h3 hmax hx hF hL h0
    refine ⟨_, execPushFrag_valid hw hr hl h3 hmax hx, ?_⟩
    rw [pushFrag_first _ hF h0, hL, fragTaken_more]
    refine ⟨rfl, setAsm_open _ _, ?_⟩
    rw [setAsm_rd _ _ _ _ (by decide) (by decide) (by decide) (by decide), dropAsm_count, rd_bump _ _ _ _ _ (by decide)]
    rfl
  case firstLast =>
    intro n l x st s hw hr hl h3 hmax hx hF hL h0 hst
    refine ⟨_, execPushFrag_valid hw hr hl h3 hmax hx, ?_⟩
    rw [pushFrag_first _ hF h0, hL, fragTaken_last]
    obtain ⟨hsmb, hstat, hring, hcnt⟩ := fragPush_shows _ _ _ _ hst
    refine ⟨(congrArg SmbSt.asm hsmb).trans rfl, hstat, hring.trans (Nat.mod_mod _ 64), hcnt.trans ?_⟩
    rw [setAsm_rd _ _ _ _ (by decide) (by decide) (by decide) (by decide),
      dropAsm_rd _ _ _ (by decide) (by decide) (by decide) (by decide) (by decide), rd_bump _ _ _ _ _ (by decide)]
  case firstOutOfOrder =>
    intro n l x s hw hr hl h3 hmax hx hF h0
    refine ⟨_, execPushFrag_valid hw hr hl h3 hmax hx, ?_⟩
    rw [pushFrag_firstOutOfOrder _ hF h0]
    exact fragBad_counted s
  case next =>
    intro n l x a s hw hr hl h3 hmax hx hF hL ha hring hseq hlen hne
    refine ⟨_, execPushFrag_valid hw hr hl h3 hmax hx, ?_⟩
    rw [pushFrag_next (s := s.bump SMB.TXN_CNT 0) hF ha hring hseq hlen hne, hL, fragTaken_more]
    exact ⟨rfl, setAsm_open _ _⟩
  case nextLast =>
    intro n l x a st s hw hr hl h3 hmax hx hF hL ha hring hseq hlen hne hst
    refine ⟨_, execPushFrag_valid hw hr hl h3 hmax hx, ?_⟩
    rw [pushFrag_next (s := s.bump SMB.TXN_CNT 0) hF ha hring hseq hlen hne, hL, fragTaken_last, hring]
    obtain ⟨hsmb, hstat, hrings, hcnt⟩ := fragPush_shows _ _ _ _ hst
    refine ⟨(congrArg SmbSt.asm hsmb).trans rfl, hstat, hrings.trans (Nat.mod_mod _ 64), hcnt.trans ?_⟩
    rw [setAsm_rd _ _ _ _ (by decide) (by decide) (by decide) (by decide), rd_bump _ _ _ _ _ (by decide)]
  case duplicate =>
    intro n l x a s hw hr hl h3 hmax hx hF ha hla
    refine ⟨_, execPushFrag_valid hw hr hl h3 hmax hx, ?_⟩
    rw [pushFrag_duplicate (s := s.bump SMB.TXN_CNT 0) hF ha hla]
    refine ⟨rfl, ?_⟩
    rw [rd_bump_self, rd_bump _ _ _ _ _ (by decide)]
    rfl
  case unfit =>
    intro n l x a s hw hr hl h3 hmax hx hF ha hla hunfit
    refine ⟨_, execPushFrag_valid hw hr hl h3 hmax hx, ?_⟩
    rw [pushFrag_unfit (s := s.bump SMB.TXN_CNT 0) hF ha hla hunfit]
    exact fragBad_counted s
  case noAssembly =>
    intro n l x s hw hr hl h3 hmax hx hF ha
    refine ⟨_, execPushFrag_valid hw hr hl h3 hmax hx, ?_⟩
    rw [pushFrag_noAssembly (s := s.bump SMB.TXN_CNT 0) hF ha]
    exact fragBad_counted s
  case badCount =>
    intro n l x s hw hr hn
    exact ⟨_, execPushFrag_badCount hw hr hn, refusedTxn_shows s stBAD_ARG 0x20⟩
  case short => exact fun n l x s hw hr h3 hmax hl => ⟨_, execPushFrag_short hw hr h3 hmax hl, rfl⟩
  case badPec =>
    intro n l x s hw hr hl h3 hmax hx
    exact ⟨_, execPushFrag_badPec hw hr hl h3 hmax hx, pecErr_shows s 0x20⟩
  case unready =>
    intro n l x s hw hr hrom
    obtain ⟨herr, hcode, hcmd, -, hcnt⟩ := refusedTxn_shows s stNOT_READY 0x20
    exact ⟨_, congrArg Host.Outcome.next (smbServed_unready _ _ hw hr hrom), herr, hcode, hcmd, hcnt⟩
  case watch => exact fun n l x s hw => congrArg Host.Outcome.next (smbServed_watch _ _ _ hw)
  case timeout => exact fun a s ha => ⟨_, rfl, dropAsm_discards ha⟩
  case noTimeout => exact fun s ha => congrArg Host.Outcome.next (dropAsm_none ha)
  case clear => exact fun a s hr ha => ⟨_, congrArg Host.Outcome.next (if_pos hr), dropAsm_discards ha⟩
  case noClear =>
    intro s h
    refine congrArg Host.Outcome.next ?_
    unfold State.readyFor
    by_cases hr : s.on SYS.READY 0 = true
    · rw [if_pos hr]
      exact dropAsm_none (h.resolve_left (by simp [hr]))
    · exact if_neg hr
  case fresh0 => exact fun q r s hw hr hq h4 ht hd => ⟨_, ringOfBits hq 1 0 s, pullTxn_fresh (by decide) hw hr h4 ht hd⟩
  case other0 =>
    exact fun q r d s hw hr hq h4 ht hd hdq => ⟨_, ringOfBits hq 1 0 s, pullTxn_other (by decide) hw hr h4 ht hd hdq⟩
  case empty0 => exact fun q r s hw hr hq h4 ht hd => ⟨_, ringOfBits hq 1 0 s, pullTxn_empty (by decide) hw hr h4 ht hd⟩
  case fresh1 => exact fun q r s hw hr hq h4 ht hd => ⟨_, ringOfBits hq 1 1 s, pullTxn_fresh (by decide) hw hr h4 ht hd⟩
  case other1 =>
    exact fun q r d s hw hr hq h4 ht hd hdq => ⟨_, ringOfBits hq 1 1 s, pullTxn_other (by decide) hw hr h4 ht hd hdq⟩
  case empty1 => exact fun q r s hw hr hq h4 ht hd => ⟨_, ringOfBits hq 1 1 s, pullTxn_empty (by decide) hw hr h4 ht hd⟩
  case fresh2 => exact fun q r s hw hr hq h4 ht hd => ⟨_, ringOfBits hq 1 2 s, pullTxn_fresh (by decide) hw hr h4 ht hd⟩
  case other2 =>
    exact fun q r d s hw hr hq h4 ht hd hdq => ⟨_, ringOfBits hq 1 2 s, pullTxn_other (by decide) hw hr h4 ht hd hdq⟩
  case empty2 => exact fun q r s hw hr hq h4 ht hd => ⟨_, ringOfBits hq 1 2 s, pullTxn_empty (by decide) hw hr h4 ht hd⟩
  case goesOn => exact fun q r d s hw hr hq h4 hd hdq hlt => ⟨_, ringOfBits hq 1 0 s, pullTxn_goesOn hw hr h4 hd hdq hlt⟩
  case done => exact fun q r d s hw hr hq h4 hd hdq hle => ⟨_, ringOfBits hq 1 0 s, pullTxn_done hw hr h4 hd hdq hle⟩
  case again =>
    intro q r d s hw hr hq h4 hd hdq
    obtain ⟨hdel, hring, htx⟩ := pullTxn_again hw hr h4 hd hdq
    exact ⟨_, ringOfBits hq 1 1 s, by rw [hdel, ← hdq], hring, htx⟩
  case restart => exact fun q r d s hw hr hq h4 hd hdq ht => ⟨_, ringOfBits hq 1 2 s, pullTxn_restart hw hr h4 hd hdq ht⟩
  case bad0 =>
    intro q r x s hw hr hq h
    obtain ⟨herr, hcode, hcmd, hdel, hring⟩ := pullTxn_bad (ring := q.val) (act := if x then 3 else 0) hw hr
      (h.imp_right fun hx => .inr (if_pos hx))
    exact ⟨_, ringOfBits hq 1 _ s, herr, hcode, hcmd, hdel, hring q⟩
  case bad1 =>
    intro q r s hw hr hq h
    obtain ⟨herr, hcode, hcmd, hdel, hring⟩ := pullTxn_bad (ring := q.val) (act := 1) hw hr (.inl h)
    exact ⟨_, ringOfBits hq 1 1 s, herr, hcode, hcmd, hdel, hring q⟩
  case bad2 =>
    intro r s hw hr h
    obtain ⟨herr, hcode, hcmd, hdel, -⟩ := pullTxn_bad (act := 2) hw hr (h.imp_right .inl)
    exact ⟨_, rfl, herr, hcode, hcmd, hdel⟩
  case count0 => exact fun n r x s hw hr hn => ⟨_, rfl, pullTxn_countShows _ _ hw hr hn⟩
  case unready0 => exact fun n r x s hw hr hrom => ⟨_, rfl, pullTxn_unreadyShows n _ hw hr hrom⟩
  case watch0 => exact fun n r x s hw => congrArg Host.Outcome.next (pullTxn_watch n _ _ hw)
  case count1 => exact fun n r s hw hr hn => ⟨_, rfl, pullTxn_countShows _ _ hw hr hn⟩
  case unready1 => exact fun n r s hw hr hrom => ⟨_, rfl, pullTxn_unreadyShows n _ hw hr hrom⟩
  case watch1 => exact fun n r s hw => congrArg Host.Outcome.next (pullTxn_watch n _ _ hw)
  case count2 => exact fun n r s hw hr hn => ⟨_, rfl, pullTxn_countShows _ _ hw hr hn⟩
  case unready2 => exact fun n r s hw hr hrom => ⟨_, rfl, pullTxn_unreadyShows n _ hw hr hrom⟩
  case watch2 => exact fun n r s hw => congrArg Host.Outcome.next (pullTxn_watch n _ _ hw)
  case delivery =>
    intro d s hd
    refine ⟨_, rfl, ?_, abandon_entries s⟩
    rw [abandon_some hd]
    rfl
  case noDelivery => exact fun s hd => congrArg Host.Outcome.next (abandon_none hd)
  case notifySent => exact fun s hen hirq hn hq => ⟨_, hostNotify_starts _ hen hirq hn hq, notifyStart_sent s⟩
  case notifyUnsent =>
    intro r s hen hirq hn hq hne
    obtain ⟨hnot, -, hatt, hlost⟩ := notifyStart_unsent s hne
    exact ⟨_, hostNotify_starts _ hen hirq hn hq, hnot, hatt, hlost⟩
  case heldBack =>
    intro r s hen hirq hn hq
    refine ⟨_, ?_, rfl⟩
    show execHostNotify r s = _
    unfold execHostNotify
    rw [if_neg (by simp [hen, hirq, hn]), if_pos hq]
  case noNotify =>
    intro r s h
    refine congrArg Host.Outcome.next (if_pos ?_)
    rcases h with h | h | h <;> simp [h]
  case retrySent => exact fun s hn => ⟨_, congrArg Host.Outcome.next (if_pos hn), notifyTry_sent_shows s⟩
  case retryUnsent =>
    intro r s hn hne hlt
    obtain ⟨hsmb, hatt, hlost⟩ := notifyTry_keepsTrying hne hlt
    exact ⟨_, congrArg Host.Outcome.next (if_pos hn), (congrArg SmbSt.notifying hsmb).trans hn, hatt, hlost⟩
  case retryGivesUp =>
    exact fun r s hn hne hle => ⟨_, congrArg Host.Outcome.next (if_pos hn), notifyTry_givesUp hne hle⟩
  case noRetry => exact fun r s hn => congrArg Host.Outcome.next (if_neg (by simp [hn]))
  case minSent => exact fun s hh hen hirq => ⟨_, notifyMinExpiry_starts _ hh hen hirq, notifyStart_sent s.unquiet⟩
  case minUnsent => exact fun r s hh hen hirq hne => ⟨_, notifyMinExpiry_starts _ hh hen hirq, notifyStart_unsent s.unquiet hne⟩
  case minIdle => exact fun r s h => ⟨_, notifyMinExpiry_idle r h, rfl, rfl, rfl⟩
  case wake =>
    intro s hw
    obtain ⟨hdev, hsrc⟩ := wakeBy_watch (s := s.bump SMB.WAKE_NACK_CNT 0) 3 hw
    refine ⟨_, congrArg Host.Outcome.next (if_pos hw), hdev, hsrc, ?_⟩
    rw [wakeBy_rd _ _ _ _ (by decide), rd_bump_self]
    rfl
  case noWake => exact fun s hw => congrArg Host.Outcome.next (if_neg hw)

end Sys2Proof.Machine
end

section
/-! PROOFS. Host SPI transactions: errors, register bursts, STOP (R380, R384 to R387, R393). -/
set_option linter.all false

namespace Sys2Proof.Machine

/-! ## Errors (R380, R384 to R388) -/

/-- The registers in which the SPI target shows its errors. -/
def spiErrorFields : List Field :=
  [HSPI.ERR, HSPI.LAST_ERR, HSPI.LAST_OPCODE, HSPI.BAD_ACCESS_CNT, HSPI.NOT_READY_CNT, HSPI.CRC_ERR_CNT, HSPI.ADDR,
    IRQ_STAT HSPI.page]

theorem spiErr_shows (s : State) (code op : Nat) : (s.spiErr code op).on HSPI.ERR 0 = true ∧
    (s.spiErr code op).rd HSPI.LAST_ERR 0 = code % 2 ^ 8 ∧ (s.spiErr code op).rd HSPI.LAST_OPCODE 0 = op % 2 ^ 8 := by
  unfold State.spiErr
  refine ⟨?_, ?_, rd_wr_self _ _ _ _⟩
  · simp (disch := decide) only [on_wr, on_flag_self]
  · simp (disch := decide) only [rd_wr, rd_wr_self]
    rfl

theorem spiErr_leaves (s : State) (code op : Nat) : Leaves spiErrorFields 0 s (s.spiErr code op) :=
  (((Leaves.refl _ _ s).flag _ _ _ (by decide)).wr _ _ _ (by decide)).wr _ _ _ (by decide)

theorem spiErr_rd (s : State) (code op : Nat) (F : Field) (i : Nat) (h1 : F.apart HSPI.ERR = true)
    (h2 : F.apart HSPI.LAST_ERR = true) (h3 : F.apart HSPI.LAST_OPCODE = true) :
    (s.spiErr code op).rd F i = s.rd F i := by
  unfold State.spiErr
  rw [rd_wr _ _ _ _ _ _ h3, rd_wr _ _ _ _ _ _ h2, rd_flag _ _ _ _ _ _ h1]

/-- NOT_READY is shown and counted (R380). -/
theorem spiNotReady_shows (s : State) (op : Nat) : (s.spiNotReady op).on HSPI.ERR 0 = true ∧
    (s.spiNotReady op).rd HSPI.LAST_ERR 0 = stNOT_READY ∧ (s.spiNotReady op).rd HSPI.LAST_OPCODE 0 = op % 2 ^ 8 ∧
    (s.spiNotReady op).rd HSPI.NOT_READY_CNT 0 = min (s.rd HSPI.NOT_READY_CNT 0 + 1) (2 ^ 32 - 1) := by
  obtain ⟨herr, hcode, hop⟩ := spiErr_shows s stNOT_READY op
  unfold State.spiNotReady
  refine ⟨?_, ?_, ?_, ?_⟩
  · simp (disch := decide) only [on_irq, on_bump, herr]
  · simp (disch := decide) only [rd_irq, rd_bump, hcode]
    rfl
  · simp (disch := decide) only [rd_irq, rd_bump, hop]
  · simp (disch := decide) only [rd_irq, rd_bump_self, spiErr_rd]
    rfl

/-- A trailer that fails is shown and counted (R388). -/
theorem spiCrc_shows (s : State) (op : Nat) : (s.spiCrc op).on HSPI.ERR 0 = true ∧
    (s.spiCrc op).rd HSPI.LAST_ERR 0 = stCRC ∧ (s.spiCrc op).rd HSPI.LAST_OPCODE 0 = op % 2 ^ 8 ∧
    (s.spiCrc op).rd HSPI.CRC_ERR_CNT 0 = min (s.rd HSPI.CRC_ERR_CNT 0 + 1) (2 ^ 32 - 1) := by
  obtain ⟨herr, hcode, hop⟩ := spiErr_shows s stCRC op
  unfold State.spiCrc
  refine ⟨?_, ?_, ?_, ?_⟩
  · simp (disch := decide) only [on_irq, on_bump, herr]
  · simp (disch := decide) only [rd_irq, rd_bump, hcode]
    rfl
  · simp (disch := decide) only [rd_irq, rd_bump, hop]
  · simp (disch := decide) only [rd_irq, rd_bump_self, spiErr_rd]
    rfl

/-- BAD_ACCESS as spiBad shows it before the first offending address is held. -/
def State.spiBadShown (s : State) (op : Nat) : State :=
  ((s.spiErr stBAD_ACCESS op).bump HSPI.BAD_ACCESS_CNT 0).irq HSPI.page 0 HSPI.IRQ_BAD_ACCESS

theorem spiBad_rd_shown (s : State) (op a : Nat) (F : Field) (i : Nat) (h : F.apart HSPI.ADDR = true) :
    (s.spiBad op a).rd F i = (s.spiBadShown op).rd F i := by
  unfold State.spiBad
  dsimp only
  split
  · rfl
  · exact rd_wr _ _ _ _ _ _ h

/-- BAD_ACCESS is shown and counted (R386). -/
theorem spiBad_shows (s : State) (op a : Nat) : (s.spiBad op a).on HSPI.ERR 0 = true ∧
    (s.spiBad op a).rd HSPI.LAST_ERR 0 = stBAD_ACCESS ∧ (s.spiBad op a).rd HSPI.LAST_OPCODE 0 = op % 2 ^ 8 ∧
    (s.spiBad op a).rd HSPI.BAD_ACCESS_CNT 0 = min (s.rd HSPI.BAD_ACCESS_CNT 0 + 1) (2 ^ 32 - 1) := by
  obtain ⟨herr, hcode, hop⟩ := spiErr_shows s stBAD_ACCESS op
  have hshown : (s.spiBad op a).on HSPI.ERR 0 = (s.spiBadShown op).on HSPI.ERR 0 := by
    unfold State.on
    rw [spiBad_rd_shown _ _ _ _ _ (by decide)]
  refine ⟨hshown.trans ?_, ?_, ?_, ?_⟩
  · unfold State.spiBadShown
    simp (disch := decide) only [on_irq, on_bump, herr]
  · rw [spiBad_rd_shown _ _ _ _ _ (by decide)]
    unfold State.spiBadShown
    simp (disch := decide) only [rd_irq, rd_bump, hcode]
    rfl
  · rw [spiBad_rd_shown _ _ _ _ _ (by decide)]
    unfold State.spiBadShown
    simp (disch := decide) only [rd_irq, rd_bump, hop]
  · rw [spiBad_rd_shown _ _ _ _ _ (by decide)]
    unfold State.spiBadShown
    simp (disch := decide) only [rd_irq, rd_bump_self, spiErr_rd]
    rfl

theorem spiNotReady_leaves (s : State) (op : Nat) : Leaves spiErrorFields 0 s (s.spiNotReady op) :=
  ((spiErr_leaves s _ op).bump _ _ (by decide)).irq _ _ _ (by decide)

theorem spiCrc_leaves (s : State) (op : Nat) : Leaves spiErrorFields 0 s (s.spiCrc op) :=
  ((spiErr_leaves s _ op).bump _ _ (by decide)).irq _ _ _ (by decide)

theorem spiBad_leaves (s : State) (op a : Nat) : Leaves spiErrorFields 0 s (s.spiBad op a) := by
  have hshown : Leaves spiErrorFields 0 s (s.spiBadShown op) :=
    ((spiErr_leaves s _ op).bump _ _ (by decide)).irq _ _ _ (by decide)
  unfold State.spiBad
  dsimp only
  split
  · exact hshown
  · exact hshown.wr HSPI.ADDR 0 a (by decide)

/-! ## A transaction (R380, R384) -/

/-- What an error leaves of a transaction counted before: its count, and the pages' IRQ_EN. -/
theorem counted_of_leaves {s t : State} (h : Leaves spiErrorFields 0 (s.bump HSPI.TXN_CNT 0) t) :
    t.rd HSPI.TXN_CNT 0 = min (s.rd HSPI.TXN_CNT 0 + 1) (2 ^ 32 - 1) ∧
    ∀ i : Fin 22, t.rd (IRQ_EN i.val) 0 = s.rd (IRQ_EN i.val) 0 := by
  have hl : ∀ i : Fin 22, (IRQ_EN i.val).apartAll spiErrorFields = true ∧ maskSkips 0 (IRQ_EN i.val) = true ∧
      (IRQ_EN i.val).apart HSPI.TXN_CNT = true := by decide
  constructor
  · rw [h _ _ (by decide) (by decide), rd_bump_self]
    rfl
  · intro i
    obtain ⟨hapart, hskip, htxn⟩ := hl i
    rw [h _ _ hapart hskip, rd_bump _ _ _ _ _ htxn]

theorem spiServed_ready {s : State} (op n : Nat) (f : State → State) (h : s.on SYS.READY 0 = true) :
    s.spiServed op n f = f (s.bump HSPI.TXN_CNT 0) := if_pos h

theorem spiServed_unready {s : State} (op n : Nat) (f : State → State) (h : s.on SYS.READY 0 = false) :
    s.spiServed op n f = ((s.bump HSPI.TXN_CNT 0).spiNotReady op).spiSends (List.replicate n 0) :=
  if_neg (by simp [h])

/-- Without READY a transaction is NOT_READY, counted, and zeros go out. -/
theorem spiServed_unready_shows {s : State} (op n : Nat) (f : State → State) (h : s.on SYS.READY 0 = false) :
    (s.spiServed op n f).spi.tx = List.replicate n 0 ∧ (s.spiServed op n f).on HSPI.ERR 0 = true ∧
    (s.spiServed op n f).rd HSPI.LAST_ERR 0 = stNOT_READY ∧ (s.spiServed op n f).rd HSPI.LAST_OPCODE 0 = op % 2 ^ 8 ∧
    (s.spiServed op n f).rd HSPI.NOT_READY_CNT 0 = min (s.rd HSPI.NOT_READY_CNT 0 + 1) (2 ^ 32 - 1) ∧
    (s.spiServed op n f).rd HSPI.TXN_CNT 0 = min (s.rd HSPI.TXN_CNT 0 + 1) (2 ^ 32 - 1) ∧
    ∀ i : Fin 22, (s.spiServed op n f).rd (IRQ_EN i.val) 0 = s.rd (IRQ_EN i.val) 0 := by
  obtain ⟨herr, hcode, hop, hcnt⟩ := spiNotReady_shows (s.bump HSPI.TXN_CNT 0) op
  rw [rd_bump _ _ _ _ _ (by decide)] at hcnt
  rw [spiServed_unready op n f h]
  exact ⟨rfl, herr, hcode, hop, hcnt, counted_of_leaves (spiNotReady_leaves _ op)⟩

/-! ## Read bursts (R385, R386) -/

theorem hostRead_rd (s : State) (a : Nat) (F : Field) (i : Nat) : (s.hostRead a).2.rd F i = s.rd F i := by
  unfold State.hostRead
  dsimp only
  split
  · rfl
  · split
    · dsimp only
      split <;> rfl
    · rfl

/-- The words of a burst change no register but the error fields. -/
theorem spiWords_leaves (op : Nat) (quad : Bool) (sck : Nat) (late : List Nat) (n i a : Nat) (data sent : List Byte)
    (s : State) : Leaves spiErrorFields 0 s (State.spiWords op quad sck late n i a data sent s).1 := by
  induction n generalizing i a data sent s with
  | zero => exact Leaves.refl _ _ s
  | succ n ih =>
    have hread : Leaves spiErrorFields 0 s (s.hostRead a).2 := fun F j _ _ => hostRead_rd s a F j
    have hbad := hread.trans (spiBad_leaves (s.hostRead a).2 op a)
    unfold State.spiWords
    dsimp only
    refine Leaves.trans ?_ (ih _ _ _ _ _)
    split
    · split
      · exact hread.trans (spiNotReady_leaves _ op)
      · exact hbad.trans (spiNotReady_leaves _ op)
    · split
      · exact hread
      · exact hbad

theorem spiRead_whole {s : State} {a : Nat} (op : Nat) (quad : Bool) (n sck : Nat) (late : List Nat)
    (hr : s.on SYS.READY 0 = true) (ha : a % 4 = 0) : s.spiRead op quad a n sck late false =
      (State.spiWords op quad sck late n 0 a (spiHead op a) [] (s.bump HSPI.TXN_CNT 0)).1.spiSends
        (State.spiWords op quad sck late n 0 a (spiHead op a) [] (s.bump HSPI.TXN_CNT 0)).2 := by
  unfold State.spiRead
  rw [spiServed_ready _ _ _ hr]
  exact if_neg (not_not.mpr ha)

theorem spiRead_cut {s : State} {a n : Nat} (op : Nat) (quad : Bool) (sck : Nat) (late : List Nat)
    (hr : s.on SYS.READY 0 = true) (ha : a % 4 = 0) (hn : 0 < n) : s.spiRead op quad a n sck late true =
      ((State.spiWords op quad sck late (n - 1) 0 a (spiHead op a) [] (s.bump HSPI.TXN_CNT 0)).1.spiBad op
        ((a + 4 * (n - 1)) % 2 ^ 24)).spiSends
        (State.spiWords op quad sck late (n - 1) 0 a (spiHead op a) [] (s.bump HSPI.TXN_CNT 0)).2 := by
  unfold State.spiRead
  rw [spiServed_ready _ _ _ hr]
  exact (if_neg (not_not.mpr ha)).trans (if_pos (by simpa using hn))

theorem spiRead_cutAtOnce {s : State} {a : Nat} (op : Nat) (quad : Bool) (sck : Nat) (late : List Nat)
    (hr : s.on SYS.READY 0 = true) (ha : a % 4 = 0) :
    s.spiRead op quad a 0 sck late true = (s.bump HSPI.TXN_CNT 0).spiSends [] := by
  unfold State.spiRead
  rw [spiServed_ready _ _ _ hr]
  exact if_neg (not_not.mpr ha)

theorem spiRead_misaligned {s : State} {a : Nat} (op : Nat) (quad : Bool) (n sck : Nat) (late : List Nat) (cut : Bool)
    (hr : s.on SYS.READY 0 = true) (ha : a % 4 ≠ 0) : s.spiRead op quad a n sck late cut =
      ((s.bump HSPI.TXN_CNT 0).fresh.2.spiBad op a).spiSends
        (List.replicate (4 * n) ((s.bump HSPI.TXN_CNT 0).fresh.1.setWidth 8)) := by
  unfold State.spiRead
  rw [spiServed_ready _ _ _ hr]
  exact if_pos ha

section
variable {s : State} {a n : Nat} (op : Nat) (quad : Bool) (sck : Nat) (late : List Nat)

theorem spiRead_cutAtOnce_shows (hr : s.on SYS.READY 0 = true) (ha : a % 4 = 0) (hn : n = 0) :
    (s.spiRead op quad a n sck late true).spi.tx = [] ∧
    (s.spiRead op quad a n sck late true).rd HSPI.TXN_CNT 0 = min (s.rd HSPI.TXN_CNT 0 + 1) (2 ^ 32 - 1) := by
  rw [hn, spiRead_cutAtOnce op quad sck late hr ha]
  exact ⟨rfl, rd_bump_self _ _ _⟩

theorem spiRead_whole_shows (hr : s.on SYS.READY 0 = true) (ha : a % 4 = 0) :
    (s.spiRead op quad a n sck late false).spi.tx =
      (State.spiWords op quad sck late n 0 a (spiHead op a) [] (s.bump HSPI.TXN_CNT 0)).2 ∧
    (s.spiRead op quad a n sck late false).rd HSPI.TXN_CNT 0 = min (s.rd HSPI.TXN_CNT 0 + 1) (2 ^ 32 - 1) := by
  rw [spiRead_whole op quad n sck late hr ha]
  exact ⟨rfl, (counted_of_leaves (spiWords_leaves op quad sck late n 0 a _ _ _)).1⟩

/-- A burst cut short sends its whole words, as BAD_ACCESS. -/
theorem spiRead_cut_shows (hr : s.on SYS.READY 0 = true) (ha : a % 4 = 0) (hn : 0 < n) :
    (s.spiRead op quad a n sck late true).spi.tx =
      (State.spiWords op quad sck late (n - 1) 0 a (spiHead op a) [] (s.bump HSPI.TXN_CNT 0)).2 ∧
    (s.spiRead op quad a n sck late true).on HSPI.ERR 0 = true ∧
    (s.spiRead op quad a n sck late true).rd HSPI.LAST_ERR 0 = stBAD_ACCESS ∧
    (s.spiRead op quad a n sck late true).rd HSPI.LAST_OPCODE 0 = op % 2 ^ 8 ∧
    (s.spiRead op quad a n sck late true).rd HSPI.TXN_CNT 0 = min (s.rd HSPI.TXN_CNT 0 + 1) (2 ^ 32 - 1) := by
  have hwords := spiWords_leaves op quad sck late (n - 1) 0 a (spiHead op a) [] (s.bump HSPI.TXN_CNT 0)
  rw [spiRead_cut op quad sck late hr ha hn]
  obtain ⟨herr, hcode, hop, -⟩ := spiBad_shows (State.spiWords op quad sck late (n - 1) 0 a (spiHead op a) []
    (s.bump HSPI.TXN_CNT 0)).1 op ((a + 4 * (n - 1)) % 2 ^ 24)
  exact ⟨rfl, herr, hcode, hop, (counted_of_leaves (hwords.trans (spiBad_leaves _ op _))).1⟩

/-- A misaligned address is BAD_ACCESS. -/
theorem spiRead_misaligned_shows (cut : Bool) (hr : s.on SYS.READY 0 = true) (ha : a % 4 ≠ 0) :
    (s.spiRead op quad a n sck late cut).on HSPI.ERR 0 = true ∧
    (s.spiRead op quad a n sck late cut).rd HSPI.LAST_ERR 0 = stBAD_ACCESS ∧
    (s.spiRead op quad a n sck late cut).rd HSPI.LAST_OPCODE 0 = op % 2 ^ 8 ∧
    (s.spiRead op quad a n sck late cut).rd HSPI.TXN_CNT 0 = min (s.rd HSPI.TXN_CNT 0 + 1) (2 ^ 32 - 1) ∧
    (s.spiRead op quad a n sck late cut).spi.tx.length = 4 * n ∧
    (s.spiRead op quad a n sck late cut).rd HSPI.BAD_ACCESS_CNT 0 = min (s.rd HSPI.BAD_ACCESS_CNT 0 + 1) (2 ^ 32 - 1) := by
  have hfresh : Leaves spiErrorFields 0 (s.bump HSPI.TXN_CNT 0) (s.bump HSPI.TXN_CNT 0).fresh.2 :=
    fun F i _ _ => fresh_rd _ F i
  obtain ⟨herr, hcode, hop, hcnt⟩ := spiBad_shows (s.bump HSPI.TXN_CNT 0).fresh.2 op a
  rw [fresh_rd, rd_bump _ _ _ _ _ (by decide)] at hcnt
  rw [spiRead_misaligned op quad n sck late cut hr ha]
  exact ⟨herr, hcode, hop, (counted_of_leaves (hfresh.trans (spiBad_leaves _ op a))).1, List.length_replicate, hcnt⟩

end

/-- A read of IRQ_EN of a system page. -/
theorem spiRead_irqEn {s : State} (op : Nat) (quad : Bool) (i : Fin 22) (a k : Nat) (hr : s.on SYS.READY 0 = true)
    (hcrc : s.on HSPI.CRC_EN 0 = false) (ha : a = i.val * 0x400 + 0x10) :
    (s.spiRead op quad a 1 k [] false).spi.tx = leBytes 4 (s.rd (IRQ_EN i.val) 0) ∧
    (s.spiRead op quad a 1 k [] false).rd HSPI.TXN_CNT 0 = min (s.rd HSPI.TXN_CNT 0 + 1) (2 ^ 32 - 1) := by
  have hi := i.isLt
  have hpage : pageOf a = some (i.val, 0, 0x10) := by
    unfold pageOf
    rw [if_pos (by omega), ha]
    simp only [Option.some.injEq, Prod.mk.injEq, true_and]
    omega
  have hmapped : addrMapped a = true := by
    unfold addrMapped
    rw [hpage]
    simp
  have hapart : ∀ j : Fin 22, (IRQ_EN j.val).apart HSPI.TXN_CNT = true := by decide
  have hword : (s.bump HSPI.TXN_CNT 0).wordAt a = s.rd (IRQ_EN i.val) 0 := by
    unfold State.wordAt
    rw [hmapped, hpage]
    exact rd_bump _ _ _ _ _ (hapart i)
  have hread : ((s.bump HSPI.TXN_CNT 0).hostRead a).1 = s.rd (IRQ_EN i.val) 0 := by
    unfold State.hostRead
    dsimp only
    split
    · exact hword
    · split
      · exact hword
      · exact hword
  obtain ⟨htx, hcnt⟩ := spiRead_whole_shows (n := 1) op quad k [] hr (a := a) (by omega)
  have htrailer : ∀ l, (s.bump HSPI.TXN_CNT 0).trailer l = [] := fun l =>
    if_neg (by rw [on_bump _ _ _ _ _ (by decide), hcrc]; decide)
  refine ⟨htx.trans ?_, hcnt⟩
  simp only [State.spiWords, List.not_mem_nil, false_and, decide_false, Bool.false_eq_true, if_false, htrailer, hread,
    List.nil_append, List.append_nil]

/-! ## STOP (R374, R375, R393) -/

theorem setStop_stopped (s : State) (p q : Port) : (s.setStop p true).stopped q = (s.stopped q || decide (q = p)) := by
  show (s.stop ||| BitVec.ofNat 32 (2 ^ p.val)).getLsbD q.val = _
  rw [BitVec.getLsbD_or, BitVec.getLsbD_ofNat, Nat.testBit_two_pow]
  unfold State.stopped
  simp [q.isLt, Fin.ext_iff, eq_comm]

theorem safeState_stop (s : State) (p : Port) (n : Nat) : (s.safeState p n).stop = s.stop :=
  (State.safeState_all (mm := 0xC00120000051F4C0010000000038140000) (pp := 0) s p n rfl (Within.refl _ _ _)).stop rfl

theorem stopPort_stopped (s : State) (p q : Port) : (s.stopPort p).stopped q = (s.stopped q || decide (q = p)) := by
  unfold State.stopPort
  split
  · next h =>
    by_cases hq : q = p
    · subst hq
      simp [h]
    · simp [hq]
  · split
    · exact setStop_stopped s p q
    · rw [← setStop_stopped s p q]
      unfold State.stopped
      rw [safeState_stop]

theorem stopPorts_stopped (l : List Port) (s : State) (q : Port) :
    (s.forPorts l State.stopPort).stopped q = (s.stopped q || decide (q ∈ l)) := by
  unfold State.forPorts
  induction l generalizing s with
  | nil => simp
  | cons p l ih =>
    rw [List.foldl_cons, ih, stopPort_stopped, Bool.or_assoc]
    simp [List.mem_cons, Bool.decide_or]

/-- The opcode that a stop byte names covers the ports it names. -/
theorem stopCovers_of_stopByte {b o : Nat} {l : List Port} (h : stopByte b = some o) (hl : coveredPorts b = some l) :
    stopCovers o b 0 = some l ∧ (o = opStopPort ∨ o = opStopGroup ∨ o = opStopAll) := by
  unfold stopByte at h
  split at h
  · next hb =>
    cases h
    exact ⟨(if_pos rfl).trans ((if_pos hb).trans hl), .inl rfl⟩
  · split at h
    · next hb =>
      cases h
      exact ⟨(if_neg (by decide)).trans ((if_pos rfl).trans ((if_pos hb).trans hl)), .inr (.inl rfl)⟩
    · split at h
      · next hb =>
        cases h
        refine ⟨?_, .inr (.inr rfl)⟩
        exact (if_neg (by decide)).trans ((if_neg (by decide)).trans ((if_pos rfl).trans ((if_pos hb).trans hl)))
      · exact absurd h (by simp)

/-- STOP_LAST, the count and the interrupt of a stop-lane command. -/
def State.stopLast (s : State) (op tag source st : Nat) : State :=
  (((((s.wr RING.TAG 0 tag).wr RING.OPCODE 0 op).wr RING.STATUS 0 st).wr RING.SOURCE 0 source).bump
    RING.STOP_LANE_CNT 0).irq RING.page 0 RING.IRQ_STOP_DONE

theorem stopLast_shows (s : State) (op tag source st : Nat) :
    (s.stopLast op tag source st).rd RING.OPCODE 0 = op % 2 ^ RING.OPCODE.width ∧
    (s.stopLast op tag source st).rd RING.STATUS 0 = st % 2 ^ RING.STATUS.width ∧
    (s.stopLast op tag source st).rd RING.TAG 0 = tag % 2 ^ RING.TAG.width ∧
    (s.stopLast op tag source st).rd RING.SOURCE 0 = source % 2 ^ RING.SOURCE.width := by
  unfold State.stopLast
  refine ⟨?_, ?_, ?_, ?_⟩ <;> simp (disch := decide) only [rd_irq, rd_bump, rd_wr, rd_wr_self]

theorem stopLane_covered {s : State} {op t arg : Nat} {l : List Port} (tag source : Nat) (h : stopCovers op t arg = some l) :
    s.stopLane op t arg tag source =
      (((s.stopEffect op arg l).heldCount.sendUrgent.stopLast op tag source stOK), stOK) := by
  unfold State.stopLane
  rw [h]
  rfl

/-- A stop marks the ports that its byte names, and no other, and shows itself in STOP_LAST. -/
theorem stopLane_stops {s : State} {b o : Nat} {l : List Port} (tag source : Nat) (h : stopByte b = some o)
    (hl : coveredPorts b = some l) :
    (∀ q, (s.stopLane o b 0 tag source).1.stopped q = (s.stopped q || decide (q ∈ l))) ∧
    (s.stopLane o b 0 tag source).1.rd RING.OPCODE 0 = o ∧ (s.stopLane o b 0 tag source).1.rd RING.STATUS 0 = stOK ∧
    (s.stopLane o b 0 tag source).1.rd RING.TAG 0 = tag % 2 ^ RING.TAG.width ∧
    (s.stopLane o b 0 tag source).1.rd RING.SOURCE 0 = source % 2 ^ RING.SOURCE.width := by
  obtain ⟨hcovers, hop⟩ := stopCovers_of_stopByte h hl
  obtain ⟨hopcode, hst, htag, hsrc⟩ := stopLast_shows (s.stopEffect o 0 l).heldCount.sendUrgent o tag source stOK
  rw [stopLane_covered tag source hcovers]
  have heffect : s.stopEffect o 0 l = s.forPorts l State.stopPort := by
    rcases hop with rfl | rfl | rfl <;> rfl
  have hsmall : o % 2 ^ RING.OPCODE.width = o := by
    rcases hop with rfl | rfl | rfl <;> rfl
  have hheld : ∀ t : State, t.heldCount.sendUrgent.stop = t.stop := fun t =>
    (State.sendUrgent_within (mm := 0x200000000000000000000800000000) (pp := 0) _ rfl
      (State.heldCount_within t rfl (Within.refl _ _ _))).stop rfl
  refine ⟨fun q => ?_, hopcode.trans hsmall, hst, htag, hsrc⟩
  rw [← stopPorts_stopped l s q, ← heffect]
  exact congrArg (fun x => BitVec.getLsbD x q.val) (hheld (s.stopEffect o 0 l))

/-- The stop lane keeps the transaction counters of the host interfaces. -/
theorem stopLane_rd (s : State) (op t arg tag source : Nat) (F : Field) (i : Nat)
    (h : maskSkips 0xC00120000451F4C0010000E008381C0000 F = true) :
    (s.stopLane op t arg tag source).1.rd F i = s.rd F i :=
  (State.stopLane_within1 (mm := 0xC00120000451F4C0010000E008381C0000) (pp := 0) s op t arg tag source rfl
    (Within.refl _ _ _)).rd F i h

end Sys2Proof.Machine
end

section
/-! PROOFS. Host SPI write bursts, PUSH and PULL (R386, R388, R390 to R392): O55. -/
set_option linter.all false

namespace Sys2Proof.Machine

/-! ## Write bursts (R386, R388) -/

/-- A write burst begins: counted, and nothing is sent. -/
def State.spiBegun (s : State) : State := (s.bump HSPI.TXN_CNT 0).spiSends []

/-- The words of a write burst take effect. -/
def State.spiApplied (s : State) (op a : Nat) (ws : List Word) : State :=
  (State.writeWords .spi op a ws s.spiBegun).ownReset HSPI.page a ws

theorem spiBegun_crcEn (s : State) : (s.bump HSPI.TXN_CNT 0).on HSPI.CRC_EN 0 = s.on HSPI.CRC_EN 0 :=
  on_bump _ _ _ _ _ (by decide)

theorem counted_of_begun {s t : State} (h : Leaves spiErrorFields 0 s.spiBegun t) :
    t.rd HSPI.TXN_CNT 0 = min (s.rd HSPI.TXN_CNT 0 + 1) (2 ^ 32 - 1) ∧
    ∀ i : Fin 22, t.rd (IRQ_EN i.val) 0 = s.rd (IRQ_EN i.val) 0 := counted_of_leaves (s := s) h

section
variable {s : State} {a : Nat} (op : Nat) (ws : List Word) (cut ok : Bool)

theorem spiWrite_misaligned (hr : s.on SYS.READY 0 = true) (ha : a % 4 ≠ 0) :
    s.spiWrite op a ws cut ok = s.spiBegun.spiBad op a := by
  unfold State.spiWrite
  rw [spiServed_ready _ _ _ hr]
  exact if_pos ha

theorem spiWrite_long (hr : s.on SYS.READY 0 = true) (ha : a % 4 = 0) (hc : s.on HSPI.CRC_EN 0 = true)
    (hl : 64 < ws.length) : s.spiWrite op a ws cut ok = s.spiBegun.spiErr stBAD_ARG op := by
  unfold State.spiWrite
  rw [spiServed_ready _ _ _ hr]
  dsimp only
  rw [spiBegun_crcEn, hc, if_neg (not_not.mpr ha), if_pos (by simpa using hl)]
  rfl

theorem spiWrite_cutUnderCrc (hr : s.on SYS.READY 0 = true) (ha : a % 4 = 0) (hc : s.on HSPI.CRC_EN 0 = true)
    (hl : ws.length ≤ 64) :
    s.spiWrite op a ws true ok = s.spiBegun.spiBad op ((a + 4 * ws.length) % 2 ^ 24) := by
  unfold State.spiWrite
  rw [spiServed_ready _ _ _ hr]
  dsimp only
  rw [spiBegun_crcEn, hc, if_neg (not_not.mpr ha), if_neg (by simpa using hl), if_pos (by decide)]
  rfl

theorem spiWrite_badTrailer (hr : s.on SYS.READY 0 = true) (ha : a % 4 = 0) (hc : s.on HSPI.CRC_EN 0 = true)
    (hl : ws.length ≤ 64) : s.spiWrite op a ws false false = s.spiBegun.spiCrc op := by
  unfold State.spiWrite
  rw [spiServed_ready _ _ _ hr]
  dsimp only
  rw [spiBegun_crcEn, hc, if_neg (not_not.mpr ha), if_neg (by simpa using hl), if_neg (by decide), if_pos (by decide)]
  rfl

theorem spiWrite_applied (hr : s.on SYS.READY 0 = true) (ha : a % 4 = 0)
    (hc : s.on HSPI.CRC_EN 0 = false ∨ ok = true ∧ ws.length ≤ 64) :
    s.spiWrite op a ws false ok = s.spiApplied op a ws := by
  unfold State.spiWrite
  rw [spiServed_ready _ _ _ hr]
  dsimp only
  rw [spiBegun_crcEn, if_neg (not_not.mpr ha), if_neg (by rcases hc with hc | ⟨-, hc⟩ <;> simp [hc]),
    if_neg (by simp), if_neg (by rcases hc with hc | ⟨hc, -⟩ <;> simp [hc]), if_neg (by decide)]
  rfl

theorem spiWrite_cut (hr : s.on SYS.READY 0 = true) (ha : a % 4 = 0) (hc : s.on HSPI.CRC_EN 0 = false) :
    s.spiWrite op a ws true ok = (s.spiApplied op a ws).spiBad op ((a + 4 * ws.length) % 2 ^ 24) := by
  unfold State.spiWrite
  rw [spiServed_ready _ _ _ hr]
  dsimp only
  rw [spiBegun_crcEn, hc, if_neg (not_not.mpr ha), if_neg (by simp), if_neg (by simp), if_neg (by simp),
    if_pos rfl]
  rfl

/-- A misaligned write is BAD_ACCESS and writes nothing. -/
theorem spiWrite_misaligned_shows (hr : s.on SYS.READY 0 = true) (ha : a % 4 ≠ 0) :
    (s.spiWrite op a ws cut ok).on HSPI.ERR 0 = true ∧
    (s.spiWrite op a ws cut ok).rd HSPI.LAST_ERR 0 = stBAD_ACCESS ∧
    (s.spiWrite op a ws cut ok).rd HSPI.LAST_OPCODE 0 = op % 2 ^ 8 ∧
    (s.spiWrite op a ws cut ok).rd HSPI.TXN_CNT 0 = min (s.rd HSPI.TXN_CNT 0 + 1) (2 ^ 32 - 1) ∧
    ∀ i : Fin 22, (s.spiWrite op a ws cut ok).rd (IRQ_EN i.val) 0 = s.rd (IRQ_EN i.val) 0 := by
  obtain ⟨herr, hcode, hop, -⟩ := spiBad_shows s.spiBegun op a
  rw [spiWrite_misaligned op ws cut ok hr ha]
  exact ⟨herr, hcode, hop, counted_of_begun (spiBad_leaves _ op a)⟩

/-- A burst of more than 64 words under CRC_EN is BAD_ARG and applies nothing. -/
theorem spiWrite_long_shows (hr : s.on SYS.READY 0 = true) (ha : a % 4 = 0) (hc : s.on HSPI.CRC_EN 0 = true)
    (hl : 64 < ws.length) : (s.spiWrite op a ws cut ok).on HSPI.ERR 0 = true ∧
    (s.spiWrite op a ws cut ok).rd HSPI.LAST_ERR 0 = stBAD_ARG ∧
    (s.spiWrite op a ws cut ok).rd HSPI.LAST_OPCODE 0 = op % 2 ^ 8 ∧
    (s.spiWrite op a ws cut ok).rd HSPI.TXN_CNT 0 = min (s.rd HSPI.TXN_CNT 0 + 1) (2 ^ 32 - 1) ∧
    ∀ i : Fin 22, (s.spiWrite op a ws cut ok).rd (IRQ_EN i.val) 0 = s.rd (IRQ_EN i.val) 0 := by
  obtain ⟨herr, hcode, hop⟩ := spiErr_shows s.spiBegun stBAD_ARG op
  rw [spiWrite_long op ws cut ok hr ha hc hl]
  exact ⟨herr, hcode, hop, counted_of_begun (spiErr_leaves _ _ op)⟩

/-- A trailer that is cut short applies nothing, as BAD_ACCESS. -/
theorem spiWrite_cutUnderCrc_shows (hr : s.on SYS.READY 0 = true) (ha : a % 4 = 0) (hc : s.on HSPI.CRC_EN 0 = true)
    (hl : ws.length ≤ 64) : (s.spiWrite op a ws true ok).on HSPI.ERR 0 = true ∧
    (s.spiWrite op a ws true ok).rd HSPI.LAST_ERR 0 = stBAD_ACCESS ∧
    (s.spiWrite op a ws true ok).rd HSPI.LAST_OPCODE 0 = op % 2 ^ 8 ∧
    (s.spiWrite op a ws true ok).rd HSPI.TXN_CNT 0 = min (s.rd HSPI.TXN_CNT 0 + 1) (2 ^ 32 - 1) ∧
    ∀ i : Fin 22, (s.spiWrite op a ws true ok).rd (IRQ_EN i.val) 0 = s.rd (IRQ_EN i.val) 0 := by
  obtain ⟨herr, hcode, hop, -⟩ := spiBad_shows s.spiBegun op ((a + 4 * ws.length) % 2 ^ 24)
  rw [spiWrite_cutUnderCrc op ws ok hr ha hc hl]
  exact ⟨herr, hcode, hop, counted_of_begun (spiBad_leaves _ op _)⟩

/-- A failed trailer applies nothing, as CRC, counted. -/
theorem spiWrite_badTrailer_shows (hr : s.on SYS.READY 0 = true) (ha : a % 4 = 0) (hc : s.on HSPI.CRC_EN 0 = true)
    (hl : ws.length ≤ 64) : (s.spiWrite op a ws false false).on HSPI.ERR 0 = true ∧
    (s.spiWrite op a ws false false).rd HSPI.LAST_ERR 0 = stCRC ∧
    (s.spiWrite op a ws false false).rd HSPI.LAST_OPCODE 0 = op % 2 ^ 8 ∧
    (s.spiWrite op a ws false false).rd HSPI.CRC_ERR_CNT 0 = min (s.rd HSPI.CRC_ERR_CNT 0 + 1) (2 ^ 32 - 1) ∧
    (s.spiWrite op a ws false false).rd HSPI.TXN_CNT 0 = min (s.rd HSPI.TXN_CNT 0 + 1) (2 ^ 32 - 1) ∧
    ∀ i : Fin 22, (s.spiWrite op a ws false false).rd (IRQ_EN i.val) 0 = s.rd (IRQ_EN i.val) 0 := by
  obtain ⟨herr, hcode, hop, hcnt⟩ := spiCrc_shows s.spiBegun op
  have hbegun : s.spiBegun.rd HSPI.CRC_ERR_CNT 0 = s.rd HSPI.CRC_ERR_CNT 0 := rd_bump s _ _ _ _ (by decide)
  rw [hbegun] at hcnt
  rw [spiWrite_badTrailer op ws hr ha hc hl]
  exact ⟨herr, hcode, hop, hcnt, counted_of_begun (spiCrc_leaves _ op)⟩

end

theorem pageOf_irqEn (i : Fin 22) : pageOf (i.val * 0x400 + 0x10) = some (i.val, 0, 0x10) := by
  have hi := i.isLt
  unfold pageOf
  rw [if_pos (by omega)]
  simp only [Option.some.injEq, Prod.mk.injEq, true_and]
  omega

/-- One word written to IRQ_EN of a system page takes effect, and is no BLOCK_RESET. -/
theorem spiApplied_irqEn (s : State) (op : Nat) (i : Fin 22) (v : Word) :
    s.spiApplied op (i.val * 0x400 + 0x10) [v] = s.spiBegun.wr (IRQ_EN i.val) 0 (v.toNat &&& irqDefined i.val) := by
  have hi := i.isLt
  have hwrite : s.spiBegun.hostWrite (i.val * 0x400 + 0x10) v.toNat =
      (s.spiBegun.wr (IRQ_EN i.val) 0 (v.toNat &&& irqDefined i.val), false) := by
    unfold State.hostWrite addrMapped
    rw [pageOf_irqEn, if_neg (by simp; omega)]
    rfl
  have hvia : State.writeWords .spi op (i.val * 0x400 + 0x10) [v] s.spiBegun =
      s.spiBegun.wr (IRQ_EN i.val) 0 (v.toNat &&& irqDefined i.val) := by
    unfold State.writeWords State.writeWords State.writeVia
    rw [hwrite]
  unfold State.spiApplied State.ownReset
  rw [hvia]
  split
  · rfl
  · split
    · next w hw =>
      refine if_neg ?_
      rintro ⟨hle, -⟩
      have hidx := (List.getElem?_eq_some_iff.mp hw).1
      simp only [List.length_singleton] at hidx
      have hpage : HSPI.page = 7 := rfl
      omega
    · rfl

theorem spiWrite_irqEn {s : State} {a : Nat} (op : Nat) (i : Fin 22) (v : Word) (ok : Bool) (hr : s.on SYS.READY 0 = true)
    (hc : s.on HSPI.CRC_EN 0 = false) (ha : a = i.val * 0x400 + 0x10) :
    (s.spiWrite op a [v] false ok).rd (IRQ_EN i.val) 0 = v.toNat &&& irqDefined i.val ∧
    (s.spiWrite op a [v] false ok).rd HSPI.TXN_CNT 0 = min (s.rd HSPI.TXN_CNT 0 + 1) (2 ^ 32 - 1) := by
  have hapart : ∀ j : Fin 22, HSPI.TXN_CNT.apart (IRQ_EN j.val) = true := by decide
  subst ha
  rw [spiWrite_applied op [v] ok hr (by omega) (.inl hc), spiApplied_irqEn]
  constructor
  · rw [rd_wr_self]
    exact Nat.mod_eq_of_lt (Nat.lt_of_le_of_lt Nat.and_le_left v.isLt)
  · rw [rd_wr _ _ _ _ _ _ (hapart i)]
    exact rd_bump_self _ _ _

/-! ## PUSH (R390) -/

/-- PUSH_STAT shows a packet's tag, ring and status. -/
def State.spiPushStat (s : State) (ring st : Nat) (l : List Byte) : State :=
  ((s.wr HSPI.TAG 0 (bytesAt l 0 2)).wr HSPI.STATUS 0 st).wr HSPI.RING 0 ring

theorem pushOutcome_eq (s : State) (ring st : Nat) (l : List Byte) : s.pushOutcome ring st l =
    if st = stOK then (s.spiPushStat ring st l).bump HSPI.PUSH_CNT 0
    else (((s.spiPushStat ring st l).spiErr st 0x20).bump HSPI.PUSH_REFUSED_CNT 0).irq HSPI.page 0
      HSPI.IRQ_PUSH_REFUSED := rfl

theorem spiPushStat_shows (s : State) (ring st : Nat) (l : List Byte) :
    (s.spiPushStat ring st l).rd HSPI.STATUS 0 = st % 2 ^ HSPI.STATUS.width ∧
    (s.spiPushStat ring st l).rd HSPI.RING 0 = ring % 2 ^ HSPI.RING.width ∧
    (s.spiPushStat ring st l).rd HSPI.TAG 0 = bytesAt l 0 2 % 2 ^ 16 := by
  unfold State.spiPushStat
  refine ⟨?_, rd_wr_self _ _ _ _, ?_⟩
  · simp (disch := decide) only [rd_wr, rd_wr_self]
  · simp (disch := decide) only [rd_wr, rd_wr_self]
    rfl

theorem spiPushStat_rd (s : State) (ring st : Nat) (l : List Byte) (F : Field) (i : Nat) (h1 : F.apart HSPI.TAG = true)
    (h2 : F.apart HSPI.STATUS = true) (h3 : F.apart HSPI.RING = true) :
    (s.spiPushStat ring st l).rd F i = s.rd F i := by
  unfold State.spiPushStat
  rw [rd_wr _ _ _ _ _ _ h3, rd_wr _ _ _ _ _ _ h2, rd_wr _ _ _ _ _ _ h1]

/-- A packet's outcome: PUSH_STAT, and the count of packets pushed or refused. -/
theorem pushOutcome_shows (s : State) (ring st : Nat) (l : List Byte) :
    (s.pushOutcome ring st l).rd HSPI.STATUS 0 = st % 2 ^ HSPI.STATUS.width ∧
    (s.pushOutcome ring st l).rd HSPI.RING 0 = ring % 2 ^ HSPI.RING.width ∧
    (s.pushOutcome ring st l).rd HSPI.TAG 0 = bytesAt l 0 2 % 2 ^ 16 ∧
    (s.pushOutcome ring st l).rd HSPI.PUSH_CNT 0 =
      (if st = stOK then min (s.rd HSPI.PUSH_CNT 0 + 1) (2 ^ 32 - 1) else s.rd HSPI.PUSH_CNT 0) ∧
    (s.pushOutcome ring st l).rd HSPI.PUSH_REFUSED_CNT 0 =
      (if st = stOK then s.rd HSPI.PUSH_REFUSED_CNT 0 else min (s.rd HSPI.PUSH_REFUSED_CNT 0 + 1) (2 ^ 32 - 1)) ∧
    (s.pushOutcome ring st l).rd HSPI.TXN_CNT 0 = s.rd HSPI.TXN_CNT 0 := by
  obtain ⟨hst, hring, htag⟩ := spiPushStat_shows s ring st l
  rw [pushOutcome_eq]
  by_cases hok : st = stOK
  · rw [if_pos hok, if_pos hok, if_pos hok]
    refine ⟨?_, ?_, ?_, ?_, ?_, ?_⟩
    · simp (disch := decide) only [rd_bump, hst]
    · simp (disch := decide) only [rd_bump, hring]
    · simp (disch := decide) only [rd_bump, htag]
    · simp (disch := decide) only [rd_bump_self, spiPushStat_rd]
      rfl
    · simp (disch := decide) only [rd_bump, spiPushStat_rd]
    · simp (disch := decide) only [rd_bump, spiPushStat_rd]
  · rw [if_neg hok, if_neg hok, if_neg hok]
    refine ⟨?_, ?_, ?_, ?_, ?_, ?_⟩
    · simp (disch := decide) only [rd_irq, rd_bump, spiErr_rd, hst]
    · simp (disch := decide) only [rd_irq, rd_bump, spiErr_rd, hring]
    · simp (disch := decide) only [rd_irq, rd_bump, spiErr_rd, htag]
    · simp (disch := decide) only [rd_irq, rd_bump, spiErr_rd, spiPushStat_rd]
    · simp (disch := decide) only [rd_irq, rd_bump_self, spiErr_rd, spiPushStat_rd]
      rfl
    · simp (disch := decide) only [rd_irq, rd_bump, spiErr_rd, spiPushStat_rd]

theorem pushOutcome_ring (s : State) (ring st : Nat) (l : List Byte) (q : Fin 40) :
    (s.pushOutcome ring st l).ring q = s.ring q := by
  rw [pushOutcome_eq]
  split <;> rfl

theorem pushOutcome_refused {st : Nat} (s : State) (ring : Nat) (l : List Byte) (h : st ≠ stOK) :
    (s.pushOutcome ring st l).on HSPI.ERR 0 = true := by
  rw [pushOutcome_eq, if_neg h, on_irq _ _ _ _ _ _ (by decide), on_bump _ _ _ _ _ (by decide)]
  exact (spiErr_shows _ _ _).1

theorem judgePush_rd (s : State) (ring : Nat) (l : List Byte) (trailer busy : Bool) (F : Field) (i : Nat)
    (h : maskSkips 0xC00120000451F4C0010000E008381C0000 F = true) :
    (s.judgePush ring l trailer busy).1.rd F i = s.rd F i :=
  (State.judgePush_within1 (mm := 0xC00120000451F4C0010000E008381C0000) (pp := 0) s ring l trailer busy rfl
    (Within.refl _ _ _)).rd F i h

/-- A served PUSH is judged, and its outcome shown. -/
def State.pushJudged (s : State) (ring : Nat) (l : List Byte) (trailer busy : Bool) : State :=
  (s.spiBegun.judgePush ring l trailer busy).1.pushOutcome (ring % 64) (s.spiBegun.judgePush ring l trailer busy).2 l

theorem execPush_served {r : Byte} {s : State} (l : List Byte) (ok busy : Bool)
    (hr : s.on SYS.READY 0 = true ∨ s.romServes r.toNat 2 = true) : exec (.push r l ok busy) s = .next
      (if (s.on HSPI.CRC_EN 0 && !ok) && decide (r.toNat < 4)
        then (s.pushJudged r.toNat l (!(s.on HSPI.CRC_EN 0 && !ok)) busy).spiCrc 0x20
        else s.pushJudged r.toNat l (!(s.on HSPI.CRC_EN 0 && !ok)) busy) := by
  show execPush r l ok busy s = _
  unfold execPush
  exact congrArg Host.Outcome.next (if_neg (by rcases hr with hr | hr <;> simp [hr]))

theorem pushTrailer_good {s : State} {ok : Bool} (h : s.on HSPI.CRC_EN 0 = false ∨ ok = true) :
    (s.on HSPI.CRC_EN 0 && !ok) = false := by
  rcases h with h | h <;> simp [h]

theorem execPush_checked {r : Byte} {s : State} (l : List Byte) {ok : Bool} (busy : Bool)
    (hr : s.on SYS.READY 0 = true ∨ s.romServes r.toNat 2 = true) (hc : s.on HSPI.CRC_EN 0 = false ∨ ok = true) :
    exec (.push r l ok busy) s = .next (s.pushJudged r.toNat l true busy) := by
  rw [execPush_served l ok busy hr, pushTrailer_good hc]
  rfl

/-- A PUSH that is judged: PUSH_STAT and the counts by the status of the first failing check. -/
theorem pushJudged_shows (s : State) (ring : Nat) (l : List Byte) (trailer busy : Bool) (st : Nat)
    (hst : (s.spiBegun.judgePush ring l trailer busy).2 = st) :
    (s.pushJudged ring l trailer busy).rd HSPI.STATUS 0 = st % 2 ^ HSPI.STATUS.width ∧
    (s.pushJudged ring l trailer busy).rd HSPI.RING 0 = ring % 64 ∧
    (s.pushJudged ring l trailer busy).rd HSPI.TAG 0 = bytesAt l 0 2 % 2 ^ 16 ∧
    (s.pushJudged ring l trailer busy).rd HSPI.PUSH_CNT 0 =
      (if st = stOK then min (s.rd HSPI.PUSH_CNT 0 + 1) (2 ^ 32 - 1) else s.rd HSPI.PUSH_CNT 0) ∧
    (s.pushJudged ring l trailer busy).rd HSPI.PUSH_REFUSED_CNT 0 =
      (if st = stOK then s.rd HSPI.PUSH_REFUSED_CNT 0 else min (s.rd HSPI.PUSH_REFUSED_CNT 0 + 1) (2 ^ 32 - 1)) ∧
    (s.pushJudged ring l trailer busy).rd HSPI.TXN_CNT 0 = min (s.rd HSPI.TXN_CNT 0 + 1) (2 ^ 32 - 1) := by
  obtain ⟨hstat, hring, htag, hpush, hrefused, htxn⟩ := pushOutcome_shows
    (s.spiBegun.judgePush ring l trailer busy).1 (ring % 64) st l
  have hb1 : s.spiBegun.rd HSPI.PUSH_CNT 0 = s.rd HSPI.PUSH_CNT 0 := rd_bump s _ _ _ _ (by decide)
  have hb2 : s.spiBegun.rd HSPI.PUSH_REFUSED_CNT 0 = s.rd HSPI.PUSH_REFUSED_CNT 0 := rd_bump s _ _ _ _ (by decide)
  have hb3 : s.spiBegun.rd HSPI.TXN_CNT 0 = min (s.rd HSPI.TXN_CNT 0 + 1) (2 ^ 32 - 1) := rd_bump_self s _ _
  rw [judgePush_rd _ _ _ _ _ _ _ (by decide), hb1] at hpush
  rw [judgePush_rd _ _ _ _ _ _ _ (by decide), hb2] at hrefused
  rw [judgePush_rd _ _ _ _ _ _ _ (by decide), hb3] at htxn
  unfold State.pushJudged
  rw [hst]
  exact ⟨hstat, hring.trans (Nat.mod_mod ring 64), htag, hpush, hrefused, htxn⟩

theorem judgePush_badRing (s : State) (ring : Nat) (l : List Byte) (trailer busy : Bool) (h : 4 ≤ ring) :
    s.judgePush ring l trailer busy = (s, if 39 < ring then stBAD_ARG else stDENIED) := by
  unfold State.judgePush
  by_cases h39 : 39 < ring
  · rw [if_pos h39, if_pos h39]
  · rw [if_neg h39, if_neg h39, if_pos h]

theorem judgePush_badTrailer (s : State) (ring : Nat) (l : List Byte) (busy : Bool) (h : ring < 4) :
    s.judgePush ring l false busy = (s, stCRC) := by
  unfold State.judgePush
  rw [if_neg (by omega), if_neg (by omega)]
  rfl

theorem ringFilled_entries (s : State) (q a : Fin 40) : ((s.ringFilled q).ring a).entries = (s.ring a).entries := by
  unfold State.ringFilled
  dsimp only
  split
  · rw [State.irq_ring, State.bump_ring]
    by_cases h : a = q
    · subst h
      rw [ring_setRing_self]
    · rw [ring_setRing_ne _ _ _ _ h]
  · rfl

/-- A good packet for command ring 1 to 3 is appended. -/
theorem judgePush_appended {s : State} {q : Fin 40} {l : List Byte} (h1 : 1 ≤ q.val) (h3 : q.val ≤ 3)
    (hp : packetCheck l false = stOK) (hroom : (s.ring q).occ + packetGranules (packetOf l none) ≤ ringSize q) :
    (s.judgePush q.val l true false).2 = stOK ∧ ((s.judgePush q.val l true false).1.ring q).entries =
      (s.ring q).entries ++ [.pkt (packetOf l none) ((s.ring q).seq % 2 ^ 32)] := by
  have hpush : s.pushPacket q (packetOf l none) = some (s.setRing q { s.ring q with
      entries := (s.ring q).entries ++ [.pkt (packetOf l none) ((s.ring q).seq % 2 ^ 32)], seq := (s.ring q).seq + 1 }) := by
    unfold State.pushPacket
    rw [if_neg (by rw [if_neg (by omega)]; omega)]
  have hne : (q.val == 0) = false := by simp; omega
  unfold State.judgePush
  rw [if_neg (by omega), if_neg (by omega), if_neg (by decide), hne, hp]
  unfold State.commitPush
  rw [if_neg (not_not.mpr rfl), if_neg (by omega), ringNo_val, hpush]
  refine ⟨rfl, (ringFilled_entries _ q q).trans ?_⟩
  rw [ring_setRing_self]

/-! ## PULL (R391, R392) -/

/-- What a PULL of ring q sends: the header, the tail, and the trailer under CRC_EN. -/
def State.pullWire (s : State) (q : Fin 40) (r : Byte) (l : List Byte) : List Byte :=
  leBytes 2 l.length ++ leBytes 2 q.val ++ l ++ s.trailer (0x21 :: r :: (leBytes 2 l.length ++ leBytes 2 q.val ++ l))

theorem bump_trailer (s : State) (l : List Byte) : (s.bump HSPI.TXN_CNT 0).trailer l = s.trailer l := by
  unfold State.trailer
  rw [spiBegun_crcEn]

/-- Ring q is held by no PULL. -/
def State.unheld (s : State) (q : Fin 40) : State :=
  { s with spi := { s.spi with held := s.spi.held.filter fun x => x != q.val } }

/-- The record of ring q that a PULL removes. -/
def State.pulledOut (s : State) (q : Fin 40) : State := ((s.removeTail q).bump HSPI.PULL_CNT 0).unheld q

theorem undelivered_rd (s : State) (F : Field) (i : Nat) : s.undelivered.rd F i = s.rd F i := rfl
theorem undelivered_ring (s : State) (q : Fin 40) : s.undelivered.ring q = s.ring q := rfl
theorem undelivered_spi (s : State) : s.undelivered.spi = s.spi := rfl
theorem undelivered_on (s : State) (F : Field) (i : Nat) : s.undelivered.on F i = s.on F i := rfl
theorem unheld_rd (s : State) (q : Fin 40) (F : Field) (i : Nat) : (s.unheld q).rd F i = s.rd F i := rfl
theorem unheld_on (s : State) (q : Fin 40) (F : Field) (i : Nat) : (s.unheld q).on F i = s.on F i := rfl

theorem pulledOut_del (s : State) (q : Fin 40) : (s.pulledOut q).smb.del = s.smb.del :=
  congrArg SmbSt.del ((removeTail_footprint s q 0).smb rfl)

theorem pulledOut_removes (s : State) (q : Fin 40) : ((s.pulledOut q).ring q).entries = (s.ring q).entries.drop 1 ∧
    (s.pulledOut q).rd HSPI.PULL_CNT 0 = min (s.rd HSPI.PULL_CNT 0 + 1) (2 ^ 32 - 1) ∧
    (s.pulledOut q).spi.tx = s.spi.tx ∧ (s.pulledOut q).on HSPI.PULL_CONFIRM 0 = s.on HSPI.PULL_CONFIRM 0 := by
  unfold State.pulledOut
  refine ⟨removeTail_entries_self s q, ?_, (congrArg SpiSt.tx ((removeTail_footprint s q 0).spi rfl) :), ?_⟩
  · rw [unheld_rd, rd_bump_self, removeTail_rd s q _ _ (by decide)]
    rfl
  · rw [unheld_on, on_bump _ _ _ _ _ (by decide), (removeTail_footprint s q 0).on _ _ (by decide)]

theorem pulled_eq (s : State) (q : Fin 40) : s.pulled q =
    match (s.pulledOut q).smb.del with
    | some d => if d.ring = q.val then (s.pulledOut q).undelivered.bump SMB.FRAG_LOST_CNT 0 else s.pulledOut q
    | none => s.pulledOut q := rfl

theorem pulled_lost {s : State} {q : Fin 40} {d : SmbDel} (hd : s.smb.del = some d) (hq : d.ring = q.val) :
    s.pulled q = (s.pulledOut q).undelivered.bump SMB.FRAG_LOST_CNT 0 := by
  rw [pulled_eq, pulledOut_del, hd]
  exact if_pos hq

theorem pulled_kept {s : State} {q : Fin 40} (h : ∀ d, s.smb.del = some d → d.ring ≠ q.val) :
    s.pulled q = s.pulledOut q := by
  rw [pulled_eq, pulledOut_del]
  cases hd : s.smb.del with
  | none => rfl
  | some d => exact if_neg (h d hd)

/-- A PULL removes the oldest record and keeps what was sent; an SMBus delivery of it ends, counted (R409). -/
theorem pulled_removes (s : State) (q : Fin 40) : ((s.pulled q).ring q).entries = (s.ring q).entries.drop 1 ∧
    (s.pulled q).rd HSPI.PULL_CNT 0 = min (s.rd HSPI.PULL_CNT 0 + 1) (2 ^ 32 - 1) ∧
    (s.pulled q).spi.tx = s.spi.tx ∧ (s.pulled q).on HSPI.PULL_CONFIRM 0 = s.on HSPI.PULL_CONFIRM 0 := by
  obtain ⟨hentries, hcnt, htx, hconfirm⟩ := pulledOut_removes s q
  cases hd : s.smb.del with
  | none => rw [pulled_kept (by simp [hd])]; exact ⟨hentries, hcnt, htx, hconfirm⟩
  | some d =>
    by_cases hq : d.ring = q.val
    · rw [pulled_lost hd hq]
      refine ⟨?_, ?_, ?_, ?_⟩
      · rw [State.bump_ring, undelivered_ring, hentries]
      · rw [rd_bump _ _ _ _ _ (by decide), undelivered_rd, hcnt]
      · rw [State.bump_spi, undelivered_spi, htx]
      · rw [on_bump _ _ _ _ _ (by decide), undelivered_on, hconfirm]
    · rw [pulled_kept (by rw [hd]; rintro _ ⟨⟩; exact hq)]
      exact ⟨hentries, hcnt, htx, hconfirm⟩

theorem pulled_ends {s : State} {q : Fin 40} {d : SmbDel} (hd : s.smb.del = some d) (hq : d.ring = q.val) :
    (s.pulled q).smb.del = none ∧
    (s.pulled q).rd SMB.FRAG_LOST_CNT 0 = min (s.rd SMB.FRAG_LOST_CNT 0 + 1) (2 ^ 32 - 1) := by
  have hlost : (s.pulledOut q).rd SMB.FRAG_LOST_CNT 0 = s.rd SMB.FRAG_LOST_CNT 0 := by
    unfold State.pulledOut
    rw [unheld_rd, rd_bump _ _ _ _ _ (by decide), removeTail_rd s q _ _ (by decide)]
  rw [pulled_lost hd hq, rd_bump_self, undelivered_rd, hlost]
  exact ⟨rfl, rfl⟩

/-- Ring q is held by a PULL that awaits its ACK. -/
def State.holding (s : State) (q : Fin 40) : State :=
  { s with spi := { s.spi with held := q.val :: s.spi.held.filter fun x => x != q.val } }

section
variable {s : State} {q : Fin 40} {r : Byte} {whole : Bool}

theorem pullDeliver_empty (h : s.tailBytes q = []) : s.pullDeliver q r whole = s.pullSends r [] := by
  unfold State.pullDeliver
  rw [h]
  rfl

theorem pullDeliver_cut (h : s.tailBytes q ≠ []) :
    s.pullDeliver q r false = ((s.pullSends r (s.tailBytes q)).unheld q).relock q := by
  unfold State.pullDeliver
  exact (if_neg (by simpa using h)).trans (if_pos rfl)

theorem pullDeliver_held (h : s.tailBytes q ≠ []) (hc : s.on HSPI.PULL_CONFIRM 0 = true) :
    s.pullDeliver q r true = ((s.pullSends r (s.tailBytes q)).holding q).relock q := by
  unfold State.pullDeliver
  exact (if_neg (by simpa using h)).trans ((if_neg (by decide)).trans (if_pos hc))

theorem pullDeliver_whole (h : s.tailBytes q ≠ []) (hc : s.on HSPI.PULL_CONFIRM 0 = false) :
    s.pullDeliver q r true = (s.pullSends r (s.tailBytes q)).pulled q := by
  unfold State.pullDeliver
  exact (if_neg (by simpa using h)).trans ((if_neg (by decide)).trans (if_neg (by simp [hc])))

/-- Under PULL_CONFIRM a delivery keeps the ring and the count. -/
theorem pullDeliver_confirm (hc : s.on HSPI.PULL_CONFIRM 0 = true) :
    ((s.pullDeliver q r whole).ring q).entries = (s.ring q).entries ∧
    (s.pullDeliver q r whole).rd HSPI.PULL_CNT 0 = s.rd HSPI.PULL_CNT 0 := by
  by_cases h : s.tailBytes q = []
  · rw [pullDeliver_empty h]
    exact ⟨rfl, rfl⟩
  · cases whole with
    | false => rw [pullDeliver_cut h]; exact ⟨relock_entries _ q q, rfl⟩
    | true => rw [pullDeliver_held h hc]; exact ⟨relock_entries _ q q, rfl⟩

theorem pullSends_wire (l : List Byte) (hq : q.val = r.toNat % 64) : (s.pullSends r l).spi.tx = s.pullWire q r l := by
  unfold State.pullWire
  rw [hq]
  rfl

theorem relock_locked {s : State} {q : Fin 40} (h : (s.ring q).entries ≠ []) (hh : q.val ∈ s.spi.held) :
    ((s.relock q).ring q).locked = true := by
  unfold State.relock
  rw [ring_setRing_self]
  simp [h, hh]

theorem entries_of_tail (h : s.tailBytes q ≠ []) : (s.ring q).entries ≠ [] := by
  intro hnil
  unfold State.tailBytes at h
  rw [hnil] at h
  exact h rfl

end

/-- A served PULL of rings 4 to 39: the ACK removes the held record, then the tail is delivered. -/
theorem execPull_served {r : Byte} {q : Fin 40} {s : State} (whole : Bool)
    (hr : s.on SYS.READY 0 = true ∨ s.romServes (r.toNat % 64) 4 = true) (hq : q.val = r.toNat % 64) (h4 : 4 ≤ q.val)
    (h6 : r.getLsbD 6 = false) : exec (.pull r whole) s = .next
      ((if s.on HSPI.PULL_CONFIRM 0 && r.getLsbD 7 && s.spi.held.contains q.val then (s.bump HSPI.TXN_CNT 0).pulled q
        else s.bump HSPI.TXN_CNT 0).pullDeliver q r whole) := by
  have hlt := q.isLt
  show execPull r whole s = _
  unfold execPull
  refine congrArg Host.Outcome.next ((if_neg (by rcases hr with hr | hr <;> simp [hr])).trans ?_)
  rw [← hq, ringNo_val]
  refine (if_neg (by rw [h6]; simp; omega)).trans ?_
  show (if ((s.bump HSPI.TXN_CNT 0).on HSPI.PULL_CONFIRM 0 && r.getLsbD 7 && s.spi.held.contains q.val) = true
    then (s.bump HSPI.TXN_CNT 0).pulled q else s.bump HSPI.TXN_CNT 0).pullDeliver q r whole = _
  rw [on_bump _ _ _ _ _ (by decide)]

/-- Without an ACK of a held record nothing is removed before the delivery. -/
theorem execPull_unacked {r : Byte} {q : Fin 40} {s : State} (whole : Bool)
    (hr : s.on SYS.READY 0 = true ∨ s.romServes (r.toNat % 64) 4 = true) (hq : q.val = r.toNat % 64) (h4 : 4 ≤ q.val)
    (h6 : r.getLsbD 6 = false) (hack : s.on HSPI.PULL_CONFIRM 0 = false ∨ r.getLsbD 7 = false ∨ q.val ∉ s.spi.held) :
    exec (.pull r whole) s = .next ((s.bump HSPI.TXN_CNT 0).pullDeliver q r whole) := by
  rw [execPull_served whole hr hq h4 h6, if_neg (by rcases hack with h | h | h <;> simp only [h, List.contains_eq_mem, decide_false, Bool.and_false, Bool.false_and, Bool.false_eq_true, not_false_eq_true])]

end Sys2Proof.Machine
end

section
/-! PROOFS. Host SPI transactions (R380 to R393): O55. -/
set_option linter.all false

namespace Sys2Proof.Machine

/-! ## STATUS, PUSH and PULL refused, STOP and undefined opcodes -/

theorem spiStatus_sends (s : State) : ∃ t, exec .spiStatus s = .next t ∧
    t.spi.tx = leBytes 4 s.statusWord ++ s.trailer (0x05 :: leBytes 4 s.statusWord) ∧
    t.rd HSPI.TXN_CNT 0 = min (s.rd HSPI.TXN_CNT 0 + 1) (2 ^ 32 - 1) := ⟨_, rfl, rfl, rd_bump_self s _ _⟩

theorem execPush_unready {r : Byte} {s : State} (l : List Byte) (ok busy : Bool) (hr : s.on SYS.READY 0 = false)
    (hrom : s.romServes r.toNat 2 = false) : exec (.push r l ok busy) s = .next (s.spiBegun.spiNotReady 0x20) := by
  show execPush r l ok busy s = _
  unfold execPush
  exact congrArg Host.Outcome.next (if_pos (by simp [hr, hrom]))

theorem execPull_unready {r : Byte} {s : State} (whole : Bool) (hr : s.on SYS.READY 0 = false)
    (hrom : s.romServes (r.toNat % 64) 4 = false) :
    exec (.pull r whole) s = .next (((s.bump HSPI.TXN_CNT 0).spiNotReady 0x21).spiSends [0, 0, 0, 0]) := by
  show execPull r whole s = _
  unfold execPull
  exact congrArg Host.Outcome.next (if_pos (by simp [hr, hrom]))

theorem execPull_bad {r : Byte} {s : State} (whole : Bool)
    (hr : s.on SYS.READY 0 = true ∨ s.romServes (r.toNat % 64) 4 = true)
    (h : r.getLsbD 6 = true ∨ r.toNat % 64 < 4 ∨ 39 < r.toNat % 64) :
    exec (.pull r whole) s = .next (((s.bump HSPI.TXN_CNT 0).spiErr stBAD_ARG 0x21).pullSends r []) := by
  show execPull r whole s = _
  unfold execPull
  exact congrArg Host.Outcome.next ((if_neg (by rcases hr with hr | hr <;> simp [hr])).trans (if_pos h))

/-- A bad PUSH trailer for a command ring: CRC, counted, and no ring changes. -/
theorem push_badTrailer {r : Byte} {s : State} (l : List Byte) (busy : Bool)
    (hr : s.on SYS.READY 0 = true ∨ s.romServes r.toNat 2 = true) (hc : s.on HSPI.CRC_EN 0 = true) (h4 : r.toNat < 4) :
    ∃ t, exec (.push r l false busy) s = .next t ∧ t.on HSPI.ERR 0 = true ∧ t.rd HSPI.LAST_ERR 0 = stCRC ∧
      t.rd HSPI.LAST_OPCODE 0 = 0x20 ∧ t.rd HSPI.STATUS 0 = stCRC ∧
      t.rd HSPI.CRC_ERR_CNT 0 = min (s.rd HSPI.CRC_ERR_CNT 0 + 1) (2 ^ 32 - 1) ∧
      t.rd HSPI.PUSH_REFUSED_CNT 0 = min (s.rd HSPI.PUSH_REFUSED_CNT 0 + 1) (2 ^ 32 - 1) ∧
      (∀ q, (t.ring q).entries = (s.ring q).entries) ∧
      t.rd HSPI.TXN_CNT 0 = min (s.rd HSPI.TXN_CNT 0 + 1) (2 ^ 32 - 1) := by
  have hjudge := judgePush_badTrailer s.spiBegun r.toNat l busy h4
  have hpushed : s.pushJudged r.toNat l false busy = s.spiBegun.pushOutcome (r.toNat % 64) stCRC l := by
    unfold State.pushJudged
    rw [hjudge]
  obtain ⟨hstat, -, -, -, hrefused, htxn⟩ := pushJudged_shows s r.toNat l false busy stCRC (congrArg Prod.snd hjudge)
  obtain ⟨herr, hcode, hop, hcnt⟩ := spiCrc_shows (s.pushJudged r.toNat l false busy) 0x20
  have hleaves := spiCrc_leaves (s.pushJudged r.toNat l false busy) 0x20
  have hbefore : (s.pushJudged r.toNat l false busy).rd HSPI.CRC_ERR_CNT 0 = s.rd HSPI.CRC_ERR_CNT 0 := by
    rw [hpushed, pushOutcome_eq, if_neg (by decide), rd_irq _ _ _ _ _ _ (by decide), rd_bump _ _ _ _ _ (by decide),
      spiErr_rd _ _ _ _ _ (by decide) (by decide) (by decide), spiPushStat_rd _ _ _ _ _ _ (by decide) (by decide) (by decide)]
    exact rd_bump s _ _ _ _ (by decide)
  refine ⟨(s.pushJudged r.toNat l false busy).spiCrc 0x20, ?_, herr, hcode, hop, ?_, ?_, ?_, fun q => ?_, ?_⟩
  · rw [execPush_served l false busy hr, hc]
    exact congrArg Host.Outcome.next (if_pos (by simpa using h4))
  · rw [hleaves _ _ (by decide) (by decide), hstat]
    rfl
  · rw [hcnt, hbefore]
  · rw [hleaves _ _ (by decide) (by decide), hrefused]
    rfl
  · show ((s.pushJudged r.toNat l false busy).ring q).entries = _
    rw [hpushed, pushOutcome_ring]
    rfl
  · rw [hleaves _ _ (by decide) (by decide), htxn]

/-- A PUSH to a ring of events, or to none, changes no ring. -/
theorem push_badRing {r : Byte} {s : State} (l : List Byte) (ok busy : Bool)
    (hr : s.on SYS.READY 0 = true ∨ s.romServes r.toNat 2 = true) (h4 : 4 ≤ r.toNat) :
    ∃ t, exec (.push r l ok busy) s = .next t ∧
      t.rd HSPI.STATUS 0 = (if 39 < r.toNat then stBAD_ARG else stDENIED) ∧ t.on HSPI.ERR 0 = true ∧
      (∀ q, (t.ring q).entries = (s.ring q).entries) ∧
      t.rd HSPI.PUSH_REFUSED_CNT 0 = min (s.rd HSPI.PUSH_REFUSED_CNT 0 + 1) (2 ^ 32 - 1) ∧
      t.rd HSPI.TXN_CNT 0 = min (s.rd HSPI.TXN_CNT 0 + 1) (2 ^ 32 - 1) := by
  have hjudge := judgePush_badRing s.spiBegun r.toNat l (!(s.on HSPI.CRC_EN 0 && !ok)) busy h4
  have hne : (if 39 < r.toNat then stBAD_ARG else stDENIED) ≠ stOK := by split <;> decide
  have hpushed : s.pushJudged r.toNat l (!(s.on HSPI.CRC_EN 0 && !ok)) busy =
      s.spiBegun.pushOutcome (r.toNat % 64) (if 39 < r.toNat then stBAD_ARG else stDENIED) l := by
    unfold State.pushJudged
    rw [hjudge]
  obtain ⟨hstat, -, -, -, hrefused, htxn⟩ := pushJudged_shows s r.toNat l _ busy _ (congrArg Prod.snd hjudge)
  refine ⟨s.pushJudged r.toNat l (!(s.on HSPI.CRC_EN 0 && !ok)) busy, ?_, ?_, ?_, fun q => ?_, ?_, htxn⟩
  · rw [execPush_served l ok busy hr, if_neg (by simp; omega)]
  · rw [hstat]
    split <;> rfl
  · rw [hpushed]
    exact pushOutcome_refused _ _ _ hne
  · rw [hpushed, pushOutcome_ring]
    rfl
  · rw [hrefused, if_neg hne]

theorem bump_pullSends_wire {q : Fin 40} {r : Byte} (s : State) (l : List Byte) (hq : q.val = r.toNat % 64) :
    ((s.bump HSPI.TXN_CNT 0).pullSends r l).spi.tx = s.pullWire q r l := by
  rw [pullSends_wire l hq]
  unfold State.pullWire
  rw [bump_trailer]

/-- A PULL cut short keeps the ring and holds no record. -/
theorem pullCut_shows {q : Fin 40} {r : Byte} (s : State) (ht : s.tailBytes q ≠ []) (hq : q.val = r.toNat % 64) :
    (((s.bump HSPI.TXN_CNT 0).pullDeliver q r false).ring q).entries = (s.ring q).entries ∧
    q.val ∉ ((s.bump HSPI.TXN_CNT 0).pullDeliver q r false).spi.held ∧
    ((s.bump HSPI.TXN_CNT 0).pullDeliver q r false).spi.tx = s.pullWire q r (s.tailBytes q) := by
  rw [pullDeliver_cut (s := s.bump HSPI.TXN_CNT 0) ht]
  refine ⟨relock_entries _ q q, ?_, bump_pullSends_wire s _ hq⟩
  show q.val ∉ s.spi.held.filter fun x => x != q.val
  simp

theorem spiStop_stops {b : Byte} {o : Nat} (s : State) (h : stopByte b.toNat = some o) :
    exec (.spiStop b) s = .next (s.spiBegun.stopLane o b.toNat 0 0 2).1 := by
  show execSpiStop b s = _
  unfold execSpiStop
  dsimp only
  rw [h]
  rfl

theorem spiStop_bad {b : Byte} (s : State) (h : stopByte b.toNat = none) :
    exec (.spiStop b) s = .next ((s.spiBegun.spiErr stBAD_ARG 0x3F).bump HSPI.STOP_BAD_CNT 0) := by
  show execSpiStop b s = _
  unfold execSpiStop
  dsimp only
  rw [h]
  rfl

/-- Settles O55: each transaction by the lemma of its kind. -/
theorem spiTransactions : Obligations.SpiTransactions := by
  unfold Obligations.SpiTransactions
  refine ⟨?readNone, ?read, ?readCut, ?readOdd, ?readUnready, ?readIrqEn, ?qreadNone, ?qread, ?qreadCut, ?qreadOdd,
    ?qreadUnready, ?qreadIrqEn, ?write, ?writeCut, ?writeCrc, ?writeBad, ?writeCutCrc, ?writeLong, ?writeOdd, ?writeUnready,
    ?writeIrqEn, ?qwrite, ?qwriteCut, ?qwriteCrc, ?qwriteBad, ?qwriteCutCrc, ?qwriteLong, ?qwriteOdd, ?qwriteUnready,
    ?qwriteIrqEn, ?status, ?statusCrc, ?push, ?pushStat, ?pushBadTrailer, ?pushBadRing, ?pushUnready, ?pull, ?pullLost,
    ?pullCut, ?pullHeld, ?pullHeldCut, ?pullAck, ?pullEmpty, ?pullBad, ?pullUnready, ?stop, ?stopBad, ?unknown, ?known,
    ?wake, ?noWake⟩
  case readNone => exact fun a n k l s hr ha hn => ⟨_, rfl, spiRead_cutAtOnce_shows 0x0B false k l hr ha hn⟩
  case read => exact fun a n k l s hr ha => ⟨_, rfl, spiRead_whole_shows 0x0B false k l hr ha⟩
  case readCut => exact fun a n k l s hr ha hn => ⟨_, rfl, spiRead_cut_shows 0x0B false k l hr ha hn⟩
  case readOdd => exact fun a n k l c s hr ha => ⟨_, rfl, spiRead_misaligned_shows 0x0B false k l c hr ha⟩
  case readUnready =>
    intro a n k l c s hr
    obtain ⟨htx, herr, hcode, hop, hcnt, htxn, -⟩ := spiServed_unready_shows (s := s) 0x0B (4 * n) _ hr
    exact ⟨_, rfl, htx, herr, hcode, hop, hcnt, htxn⟩
  case readIrqEn => exact fun i a k s hr hc ha => ⟨_, rfl, spiRead_irqEn 0x0B false i _ k hr hc ha⟩
  case qreadNone => exact fun a n k l s hr ha hn => ⟨_, rfl, spiRead_cutAtOnce_shows 0x6B true k l hr ha hn⟩
  case qread => exact fun a n k l s hr ha => ⟨_, rfl, spiRead_whole_shows 0x6B true k l hr ha⟩
  case qreadCut => exact fun a n k l s hr ha hn => ⟨_, rfl, spiRead_cut_shows 0x6B true k l hr ha hn⟩
  case qreadOdd => exact fun a n k l c s hr ha => ⟨_, rfl, spiRead_misaligned_shows 0x6B true k l c hr ha⟩
  case qreadUnready =>
    intro a n k l c s hr
    obtain ⟨htx, herr, hcode, hop, hcnt, htxn, -⟩ := spiServed_unready_shows (s := s) 0x6B (4 * n) _ hr
    exact ⟨_, rfl, htx, herr, hcode, hop, hcnt, htxn⟩
  case qreadIrqEn => exact fun i a k s hr hc ha => ⟨_, rfl, spiRead_irqEn 0x6B true i _ k hr hc ha⟩
  case write =>
    exact fun a ws k s hr ha hc => ⟨_, congrArg Host.Outcome.next (spiWrite_applied 0x02 ws k hr ha (.inl hc)), rfl⟩
  case writeCut =>
    intro a ws k s hr ha hc
    obtain ⟨herr, hcode, hop, -⟩ := spiBad_shows (s.spiApplied 0x02 a.toNat ws) 0x02 ((a.toNat + 4 * ws.length) % 2 ^ 24)
    exact ⟨_, congrArg Host.Outcome.next (spiWrite_cut 0x02 ws k hr ha hc), rfl, herr, hcode, hop⟩
  case writeCrc =>
    exact fun a ws s hr ha hc hl =>
      ⟨_, congrArg Host.Outcome.next (spiWrite_applied 0x02 ws true hr ha (.inr ⟨rfl, hl⟩)), rfl⟩
  case writeBad => exact fun a ws s hr ha hc hl => ⟨_, rfl, spiWrite_badTrailer_shows 0x02 ws hr ha hc hl⟩
  case writeCutCrc => exact fun a ws k s hr ha hc hl => ⟨_, rfl, spiWrite_cutUnderCrc_shows 0x02 ws k hr ha hc hl⟩
  case writeLong => exact fun a ws c k s hr ha hc hl => ⟨_, rfl, spiWrite_long_shows 0x02 ws c k hr ha hc hl⟩
  case writeOdd => exact fun a ws c k s hr ha => ⟨_, rfl, spiWrite_misaligned_shows 0x02 ws c k hr ha⟩
  case writeUnready => exact fun a ws c k s hr => ⟨_, rfl, spiServed_unready_shows 0x02 0 _ hr⟩
  case writeIrqEn => exact fun i a v ok s hr hc ha => ⟨_, rfl, spiWrite_irqEn 0x02 i v ok hr hc ha⟩
  case qwrite =>
    exact fun a ws k s hr ha hc => ⟨_, congrArg Host.Outcome.next (spiWrite_applied 0x32 ws k hr ha (.inl hc)), rfl⟩
  case qwriteCut =>
    intro a ws k s hr ha hc
    obtain ⟨herr, hcode, hop, -⟩ := spiBad_shows (s.spiApplied 0x32 a.toNat ws) 0x32 ((a.toNat + 4 * ws.length) % 2 ^ 24)
    exact ⟨_, congrArg Host.Outcome.next (spiWrite_cut 0x32 ws k hr ha hc), rfl, herr, hcode, hop⟩
  case qwriteCrc =>
    exact fun a ws s hr ha hc hl =>
      ⟨_, congrArg Host.Outcome.next (spiWrite_applied 0x32 ws true hr ha (.inr ⟨rfl, hl⟩)), rfl⟩
  case qwriteBad => exact fun a ws s hr ha hc hl => ⟨_, rfl, spiWrite_badTrailer_shows 0x32 ws hr ha hc hl⟩
  case qwriteCutCrc => exact fun a ws k s hr ha hc hl => ⟨_, rfl, spiWrite_cutUnderCrc_shows 0x32 ws k hr ha hc hl⟩
  case qwriteLong => exact fun a ws c k s hr ha hc hl => ⟨_, rfl, spiWrite_long_shows 0x32 ws c k hr ha hc hl⟩
  case qwriteOdd => exact fun a ws c k s hr ha => ⟨_, rfl, spiWrite_misaligned_shows 0x32 ws c k hr ha⟩
  case qwriteUnready => exact fun a ws c k s hr => ⟨_, rfl, spiServed_unready_shows 0x32 0 _ hr⟩
  case qwriteIrqEn => exact fun i a v ok s hr hc ha => ⟨_, rfl, spiWrite_irqEn 0x32 i v ok hr hc ha⟩
  case status =>
    intro s hc
    obtain ⟨t, ht, htx, hcnt⟩ := spiStatus_sends s
    have htrailer : s.trailer (0x05 :: leBytes 4 s.statusWord) = [] := if_neg (by simp [hc])
    exact ⟨t, ht, by rw [htx, htrailer, List.append_nil], hcnt⟩
  case statusCrc =>
    intro s hc
    obtain ⟨t, ht, htx, hcnt⟩ := spiStatus_sends s
    have htrailer : s.trailer (0x05 :: leBytes 4 s.statusWord) = beBytes 2 (crc16 (0x05 :: leBytes 4 s.statusWord)) :=
      if_pos hc
    exact ⟨t, ht, by rw [htx, htrailer], hcnt⟩
  case push =>
    intro r q l k s hr hc hq h1 h3 hp hroom
    obtain ⟨hok, happ⟩ := judgePush_appended (s := s.spiBegun) h1 h3 hp hroom
    rw [hq] at hok happ
    obtain ⟨hstat, hring, -, hpush, -, -⟩ := pushJudged_shows s r.toNat l true false stOK hok
    refine ⟨_, execPush_checked l false (.inl hr) hc, ?_, hstat, hring.trans (Nat.mod_eq_of_lt (by omega)), hpush⟩
    unfold State.pushJudged
    rw [pushOutcome_ring]
    exact happ
  case pushStat =>
    exact fun r l k b st s hr hc hst => ⟨_, execPush_checked l b hr hc, pushJudged_shows s r.toNat l true b st hst⟩
  case pushBadTrailer =>
    intro r l k b s hr hc hk h4
    subst hk
    exact push_badTrailer l b hr hc h4
  case pushBadRing => exact fun r l k b s hr h4 => push_badRing l k b hr h4
  case pushUnready =>
    intro r l k b s hr hrom
    obtain ⟨herr, hcode, hop, hcnt⟩ := spiNotReady_shows s.spiBegun 0x20
    have hbegun : s.spiBegun.rd HSPI.NOT_READY_CNT 0 = s.rd HSPI.NOT_READY_CNT 0 := rd_bump s _ _ _ _ (by decide)
    rw [hbegun] at hcnt
    exact ⟨_, execPush_unready l k b hr hrom, herr, hcode, hop, hcnt,
      (counted_of_begun (spiNotReady_leaves _ _)).1, fun _ => rfl⟩
  case pull =>
    intro q r s hr hq h4 h6 hc ht hd
    obtain ⟨hentries, hcnt, htx, -⟩ := pulled_removes ((s.bump HSPI.TXN_CNT 0).pullSends r (s.tailBytes q)) q
    refine ⟨_, execPull_unacked true hr hq h4 h6 (.inl hc), ?_⟩
    rw [pullDeliver_whole (s := s.bump HSPI.TXN_CNT 0) ht (by rw [on_bump _ _ _ _ _ (by decide), hc])]
    exact ⟨hentries, hcnt.trans (congrArg (fun n => min (n + 1) (2 ^ 32 - 1)) (rd_bump s _ _ _ _ (by decide))),
      htx.trans (bump_pullSends_wire s _ hq)⟩
  case pullLost =>
    intro q r d s hr hq h4 h6 hc ht hd hdq
    obtain ⟨hentries, hcnt, -, -⟩ := pulled_removes ((s.bump HSPI.TXN_CNT 0).pullSends r (s.tailBytes q)) q
    obtain ⟨hdel, hlost⟩ := pulled_ends (s := (s.bump HSPI.TXN_CNT 0).pullSends r (s.tailBytes q)) hd hdq
    refine ⟨_, execPull_unacked true hr hq h4 h6 (.inl hc), ?_⟩
    rw [pullDeliver_whole (s := s.bump HSPI.TXN_CNT 0) ht (by rw [on_bump _ _ _ _ _ (by decide), hc])]
    exact ⟨hentries, hcnt.trans (congrArg (fun n => min (n + 1) (2 ^ 32 - 1)) (rd_bump s _ _ _ _ (by decide))), hdel,
      hlost.trans (congrArg (fun n => min (n + 1) (2 ^ 32 - 1)) (rd_bump s _ _ _ _ (by decide)))⟩
  case pullCut =>
    exact fun q r s hr hq h4 h6 hc ht => ⟨_, execPull_unacked false hr hq h4 h6 (.inl hc), pullCut_shows s ht hq⟩
  case pullHeld =>
    intro q r s hr hq h4 h6 hc ht hack
    refine ⟨_, execPull_unacked true hr hq h4 h6 (.inr hack), ?_⟩
    rw [pullDeliver_held (s := s.bump HSPI.TXN_CNT 0) ht (by rw [on_bump _ _ _ _ _ (by decide), hc])]
    exact ⟨relock_entries _ q q, List.mem_cons_self, relock_locked (entries_of_tail ht) List.mem_cons_self,
      bump_pullSends_wire s _ hq⟩
  case pullHeldCut =>
    exact fun q r s hr hq h4 h6 hc ht hack => ⟨_, execPull_unacked false hr hq h4 h6 (.inr hack), pullCut_shows s ht hq⟩
  case pullAck =>
    intro q r w s hr hq h4 h6 hc ht hack hheld
    obtain ⟨hentries, hcnt, -, hconfirm⟩ := pulled_removes (s.bump HSPI.TXN_CNT 0) q
    rw [on_bump _ _ _ _ _ (by decide), hc] at hconfirm
    rw [rd_bump _ _ _ _ _ (by decide)] at hcnt
    obtain ⟨hkept, hkeptCnt⟩ := pullDeliver_confirm (r := r) (whole := w) (q := q) hconfirm
    refine ⟨_, execPull_served w hr hq h4 h6, ?_⟩
    rw [if_pos (by simp [hc, hack, hheld])]
    exact ⟨hkept.trans hentries, hkeptCnt.trans hcnt⟩
  case pullEmpty =>
    intro q r w s hr hq h4 h6 ht hheld
    refine ⟨_, execPull_unacked w hr hq h4 h6 (.inr (.inr hheld)), ?_⟩
    rw [pullDeliver_empty (s := s.bump HSPI.TXN_CNT 0) ht]
    exact ⟨rfl, bump_pullSends_wire s [] hq⟩
  case pullBad =>
    intro r w s hr h
    obtain ⟨herr, hcode, hop⟩ := spiErr_shows (s.bump HSPI.TXN_CNT 0) stBAD_ARG 0x21
    obtain ⟨htxn, -⟩ := counted_of_leaves (s := s) (spiErr_leaves (s.bump HSPI.TXN_CNT 0) stBAD_ARG 0x21)
    exact ⟨_, execPull_bad w hr h, herr, hcode, hop, fun _ => rfl, htxn⟩
  case pullUnready =>
    intro r w s hr hrom
    obtain ⟨herr, hcode, hop, hcnt⟩ := spiNotReady_shows (s.bump HSPI.TXN_CNT 0) 0x21
    rw [rd_bump _ _ _ _ _ (by decide)] at hcnt
    obtain ⟨htxn, -⟩ := counted_of_leaves (s := s) (spiNotReady_leaves (s.bump HSPI.TXN_CNT 0) 0x21)
    exact ⟨_, execPull_unready w hr hrom, rfl, herr, hcode, hop, hcnt, htxn, fun _ => rfl⟩
  case stop =>
    intro b o l s h hl
    obtain ⟨hstop, hop, hst, htag, hsrc⟩ := stopLane_stops (s := s.spiBegun) 0 2 h hl
    refine ⟨_, spiStop_stops s h, hstop, hop, hst, htag, hsrc, ?_⟩
    rw [stopLane_rd _ _ _ _ _ _ _ _ (by decide)]
    exact rd_bump_self s _ _
  case stopBad =>
    intro b s h
    refine ⟨_, spiStop_bad s h, rfl, ?_⟩
    obtain ⟨herr, hcode, hop⟩ := spiErr_shows s.spiBegun stBAD_ARG 0x3F
    have hbegun : s.spiBegun.rd HSPI.STOP_BAD_CNT 0 = s.rd HSPI.STOP_BAD_CNT 0 := rd_bump s _ _ _ _ (by decide)
    have htxn : s.spiBegun.rd HSPI.TXN_CNT 0 = min (s.rd HSPI.TXN_CNT 0 + 1) (2 ^ 32 - 1) := rd_bump_self s _ _
    refine ⟨?_, ?_, ?_, ?_, ?_⟩
    · rw [on_bump _ _ _ _ _ (by decide), herr]
    · rw [rd_bump _ _ _ _ _ (by decide), hcode]
      rfl
    · rw [rd_bump _ _ _ _ _ (by decide), hop]
      rfl
    · rw [rd_bump_self, spiErr_rd _ _ _ _ _ (by decide) (by decide) (by decide), hbegun]
      rfl
    · rw [rd_bump _ _ _ _ _ (by decide), spiErr_rd _ _ _ _ _ (by decide) (by decide) (by decide), htxn]
  case unknown =>
    intro op s h
    obtain ⟨herr, hcode, hop⟩ := spiErr_shows (s.bump HSPI.TXN_CNT 0) stBAD_ARG op.toNat
    obtain ⟨htxn, -⟩ := counted_of_leaves (s := s) (spiErr_leaves (s.bump HSPI.TXN_CNT 0) stBAD_ARG op.toNat)
    exact ⟨_, congrArg Host.Outcome.next (if_neg h), herr, hcode, hop.trans (Nat.mod_eq_of_lt op.isLt), rfl, htxn⟩
  case known => exact fun op s h => congrArg Host.Outcome.next (if_pos h)
  case wake => exact fun s hw => ⟨_, rfl, wakeBy_watch 2 hw⟩
  case noWake => exact fun s hw => congrArg Host.Outcome.next (if_neg hw)

end Sys2Proof.Machine
end

section
/-! PROOFS. Snapshots and the time commands (R448 to R457): O38. -/
set_option linter.all false

namespace Sys2Proof.Machine

/-! ## Answers leave snapshots and device time -/

theorem answer_footprint (s : State) (k : Packet) (st : Nat) :
    Within 0xC001000000400000000000000038140000 0 s (s.answer k st) := respond_footprint s k st [] 0

theorem answer_snap (s : State) (k : Packet) (st : Nat) : (s.answer k st).snap = s.snap :=
  (answer_footprint s k st).snap rfl

theorem answer_time (s : State) (k : Packet) (st : Nat) : (s.answer k st).time = s.time :=
  (answer_footprint s k st).time rfl

theorem snapFull_footprint (s : State) (w : List (Option Packet)) :
    Within 0xC001000000400000000000000078140000 0 s (s.snapFull w) := State.snapFull_within s w rfl (Within.refl _ _ _)

theorem snapAnswer_footprint (s : State) (w : List Packet) (st id : Nat) :
    Within 0x8001000000400000000000000038140000 0 s (s.snapAnswer w st id) :=
  State.snapAnswer_within s w st id rfl (Within.refl _ _ _)

/-! ## Requests (R449, R450, R454) -/

/-- The request that is made now, with its waiting commands. -/
def State.reqNow (s : State) (w : List Packet) : SnapReq :=
  ⟨s.boundary s.time, 2 ^ 31 + (s.snap.count + 1) % 2 ^ 31, false, 0, w⟩

/-- The snapshot record with a request taken now. -/
def State.requested (s : State) (w : List Packet) : State :=
  (s.snapRec fun x => { x with pend := addReq (s.reqNow w) s.snap.pend }).snapRec fun x => { x with count := x.count + 1 }

theorem snapLocal_room {s : State} {w : List Packet} (h : (addReq (s.reqNow w) s.snap.pend).length ≤ 4) :
    s.snapLocal w = some (s.requested w) := by
  unfold State.snapLocal State.addSnap
  exact congrArg (Option.map _) (if_neg (Nat.not_lt.mpr h))

theorem snapLocal_full {s : State} {w : List Packet} (h : 4 < (addReq (s.reqNow w) s.snap.pend).length) :
    s.snapLocal w = none := by
  unfold State.snapLocal State.addSnap
  exact congrArg (Option.map _) (if_pos h)

theorem addReq_length (r : SnapReq) (l : List SnapReq) : (addReq r l).length ≤ l.length + 1 := by
  induction l with
  | nil => exact Nat.le_refl _
  | cons x t ih =>
    unfold addReq
    split
    · simp
    · simpa using ih

theorem snapRequest_room {s : State} {k : Option Packet} (hp : s.on TIME.PIN_DRIVE 0 = false)
    (h : (addReq (s.reqNow k.toList) s.snap.pend).length ≤ 4) : s.snapRequest k = s.requested k.toList := by
  unfold State.snapRequest
  rw [hp, snapLocal_room h]
  rfl

theorem snapRequest_full {s : State} {k : Option Packet} (hp : s.on TIME.PIN_DRIVE 0 = false)
    (h : 4 < (addReq (s.reqNow k.toList) s.snap.pend).length) : s.snapRequest k = s.snapFull [k] := by
  unfold State.snapRequest
  rw [hp, snapLocal_full h]
  rfl

theorem snapRequest_pin {s : State} {k : Option Packet} (hp : s.on TIME.PIN_DRIVE 0 = true) :
    s.snapRequest k = s.snapRec fun x => { x with drive := x.drive ++ [k] } := if_pos hp

/-! ## SNAPSHOT (R453, R455) -/

theorem cmdSnapshot_plain {k : Packet} (s : State) (hc : k.chip = true) (hp : k.plain = true) :
    s.cmdSnapshot k = s.snapRequest (some k) := by
  have hformed : (k.chip && (k.plain || (decide (k.ar = 1 ∨ k.ar = 3) && k.len == 12 &&
      decide (bytesAt k.payload 8 4 < 2 ^ 31)))) = true := by simp [hc, hp]
  have har : k.ar = 0 := by
    unfold Packet.plain at hp
    obtain ⟨-, h0⟩ := Bool.and_eq_true_iff.mp hp
    unfold Packet.ar
    rw [eq_of_beq h0]
    rfl
  unfold State.cmdSnapshot
  rw [formed_of_ok _ _ _ _ hformed, if_pos har]

/-- A scheduled snapshot goes out on the fabric when it is to be broadcast. -/
def State.snapBroadcast (t : State) (k : Packet) : State :=
  if k.ar = 3 ∧ t.on WEFT.ID_VALID 0 = true then
    (t.originate t.bcastLinks 1 0 true ctSnap t.weft.nextId k.payload).weftRec fun w =>
      { w with nextId := (w.nextId + 1) % 2 ^ 16 }
  else t

theorem cmdSnapshot_at {k : Packet} (s : State) (hc : k.chip = true) (ha : k.ar = 1 ∨ k.ar = 3) (hl : k.len = 12)
    (hid : bytesAt k.payload 8 4 < 2 ^ 31) : s.cmdSnapshot k =
      match s.snapAt (bytesAt k.payload 0 8) (bytesAt k.payload 8 4) with
      | none => s.answer k stNO_SPACE
      | some t => (t.snapBroadcast k).answer k stOK := by
  unfold State.cmdSnapshot
  rw [formed_of_ok _ _ _ _ (by rw [hc, hl, decide_eq_true ha, decide_eq_true hid]; simp), if_neg (by omega)]
  rfl

theorem originate_footprint (s : State) (ls : List Link) (c : CellClass) (dst : Nat) (b : Bool) (kind m : Nat)
    (l : List Byte) : Within 0x1000000000000000000000030000000 0 s (s.originate ls c dst b kind m l) :=
  State.originate_within s ls c dst b kind m l rfl (Within.refl _ _ _)

theorem snapBroadcast_keeps (t : State) (k : Packet) :
    (t.snapBroadcast k).rings = t.rings ∧ (t.snapBroadcast k).snap = t.snap := by
  unfold State.snapBroadcast
  split
  · have w := originate_footprint t t.bcastLinks 1 0 true ctSnap t.weft.nextId k.payload
    exact ⟨w.rings rfl, w.snap rfl⟩
  · exact ⟨rfl, rfl⟩

theorem addSnap_rings {s t : State} {r : SnapReq} (h : s.addSnap r = some t) : t.rings = s.rings := by
  unfold State.addSnap at h
  dsimp only at h
  split at h
  · exact absurd h (by simp)
  · cases h
    rfl

theorem snapAt_rings {s t : State} {a id : Nat} (h : s.snapAt a id = some t) : t.rings = s.rings := by
  unfold State.snapAt at h
  split at h
  · obtain ⟨u, hu, rfl⟩ := Option.map_eq_some_iff.mp h
    exact (addSnap_rings hu :)
  · exact addSnap_rings h

/-! ## Device time (R448, R453) -/

theorem snapPinEdge_taken {n : Nat} (s : State) (hn : 50 ≤ n) (hp : s.on TIME.PIN_IN_EN 0 = true) :
    exec (.snapPinEdge n) s = .next (((s.wakeBy 4).snapLocal []).getD (s.wakeBy 4)) := by
  show execSnapPinEdge n s = _
  unfold execSnapPinEdge
  exact congrArg Host.Outcome.next (if_neg (by simp [hp]; omega))

@[simp] theorem wakeBy_snap (s : State) (n : Nat) : (s.wakeBy n).snap = s.snap := by
  unfold State.wakeBy
  split <;> rfl

@[simp] theorem wakeBy_time (s : State) (n : Nat) : (s.wakeBy n).time = s.time := by
  unfold State.wakeBy
  split <;> rfl

theorem reqNow_wakeBy (s : State) (n : Nat) (w : List Packet) : (s.wakeBy n).reqNow w = s.reqNow w := by
  unfold State.reqNow State.boundary State.grid
  rw [wakeBy_rd _ _ _ _ (by decide), wakeBy_snap, wakeBy_time]

theorem snapLocal_dev {s t : State} {w : List Packet} (h : s.snapLocal w = some t) : t.dev = s.dev :=
  (State.snapLocal_within (mm := 0x4000000000000000000000000000000) (pp := 0) rfl (Within.refl _ _ s) h).dev rfl

/-- The instant of SNAP's falling edge, device time run on to it, and nothing waiting for the pin. -/
def State.pinDriven (s : State) : State :=
  (s.runTo (cdiv (s.time + s.grid - s.grid / 2) s.grid * s.grid - (s.grid - s.grid / 2))).snapRec fun x =>
    { x with drive := [] }

theorem pinDriven_time (s : State) : s.time ≤ s.pinDriven.time := Nat.le_max_left _ _

theorem snapPinDrive_eq {s : State} (h : s.snap.drive ≠ []) : exec .snapPinDrive s = .next
    (match s.pinDriven.snapLocal (s.snap.drive.filterMap id) with
      | some t => t
      | none => s.pinDriven.snapFull s.snap.drive) := by
  show execSnapPinDrive s = _
  unfold execSnapPinDrive
  exact congrArg Host.Outcome.next (if_neg (by simpa using h))

/-! ## The boundary (R451, R452) -/

/-- Device time reaches the boundary of r, whose request is taken out. -/
def State.atBoundary (s : State) (r : SnapReq) : State :=
  (s.runTo r.at_).snapRec fun x => { x with pend := x.pend.filter fun y => y.at_ != r.at_ }

theorem snapBoundary_some {s : State} {r : SnapReq} (h : earliest s.snap.pend = some r) :
    exec .snapBoundary s = .next ((s.atBoundary r).takeSnap r) := by
  show execSnapBoundary s = _
  unfold execSnapBoundary
  rw [h]
  rfl

/-- The bank's registers after a snapshot: ID, time and flags, VALID and NEWER. -/
def State.bankLoaded (s : State) (r : SnapReq) (b : Nat) : State :=
  let s1 := s.snapRec fun x => { x with banks := x.banks.set! b (s.loadBank (s.bank b) r.id) }
  let s2 := ((s1.wr TIME.BANK_ID b r.id).wr TIME.BANK_TIME_LO b r.at_).wr TIME.BANK_TIME_HI b (r.at_ / 2 ^ 32)
  ((s2.wr (bankFlags b) 0 (r.flags ||| (if s.dev = .warmReset then 4 else 0))).wrBit TIME.VALID 0 b true).wr TIME.NEWER 0 b

theorem takeSnap_some {s : State} {r : SnapReq} {b : Nat} (h : s.freeBank = some b) : s.takeSnap r =
    ((((s.bankLoaded r b).event EV.SNAP_TAKEN 0xFF r.id (r.at_ % 2 ^ 32)
      (r.flags ||| (if s.dev = .warmReset then 4 else 0)) (1 + b)).bump TIME.SNAP_CNT 0).irq TIME.page 0
      TIME.IRQ_SNAP_TAKEN).snapAnswer r.waiters stOK r.id := by
  unfold State.takeSnap
  rw [h]
  rfl

theorem takeSnap_none {s : State} {r : SnapReq} (h : s.freeBank = none) : s.takeSnap r =
    (((s.event EV.SNAP_REFUSED 0xFF r.id (r.at_ % 2 ^ 32) 0 0).bump TIME.SNAP_REFUSED_CNT 0).irq TIME.page 0
      TIME.IRQ_SNAP_REFUSED).snapAnswer r.waiters stBUSY r.id := by
  unfold State.takeSnap
  rw [h]

theorem bankFlags_apart (b : Nat) : TIME.BANK_ID.apart (bankFlags b) = true ∧
    TIME.BANK_TIME_LO.apart (bankFlags b) = true ∧ TIME.SNAP_CNT.apart (bankFlags b) = true := by
  unfold bankFlags
  split <;> decide

theorem bankLoaded_shows {b : Nat} (s : State) (r : SnapReq) (hb : b < 2) :
    (s.bankLoaded r b).rd TIME.BANK_ID b = r.id % 2 ^ 32 ∧ (s.bankLoaded r b).rd TIME.BANK_TIME_LO b = r.at_ % 2 ^ 32 ∧
    (s.bankLoaded r b).bit TIME.VALID 0 b = true ∧ (s.bankLoaded r b).rd TIME.NEWER 0 = b ∧
    (s.bankLoaded r b).rd TIME.SNAP_CNT 0 = s.rd TIME.SNAP_CNT 0 := by
  obtain ⟨hid, hlo, hcnt⟩ := bankFlags_apart b
  unfold State.bankLoaded
  dsimp only
  refine ⟨?_, ?_, ?_, ?_, ?_⟩
  · rw [rd_wr _ _ _ _ _ _ (by decide), rd_wrBit _ _ _ _ _ _ _ (by decide), rd_wr _ _ _ _ _ _ hid,
      rd_wr _ _ _ _ _ _ (by decide), rd_wr _ _ _ _ _ _ (by decide), rd_wr_self]
    rfl
  · rw [rd_wr _ _ _ _ _ _ (by decide), rd_wrBit _ _ _ _ _ _ _ (by decide), rd_wr _ _ _ _ _ _ hlo,
      rd_wr _ _ _ _ _ _ (by decide), rd_wr_self]
    rfl
  · unfold State.bit
    rw [rd_wr _ _ _ _ _ _ (by decide)]
    exact bit_wrBit_self _ _ _ _ hb
  · rw [rd_wr_self]
    exact Nat.mod_eq_of_lt hb
  · rw [rd_wr _ _ _ _ _ _ (by decide), rd_wrBit _ _ _ _ _ _ _ (by decide), rd_wr _ _ _ _ _ _ hcnt,
      rd_wr _ _ _ _ _ _ (by decide), rd_wr _ _ _ _ _ _ (by decide), rd_wr _ _ _ _ _ _ (by decide)]
    rfl

/-- An event of the whole device writes no register but the rings' counts and their interrupt. -/
theorem sysEvent_rd (s : State) (k : EvKind) (d4 d5 d6 d7 : Nat) (hk : k.ring ≠ .port) (F : Field) (i : Nat)
    (h : maskSkips 0x400000000000000000140000 F = true) : (s.event k 0xFF d4 d5 d6 d7).rd F i = s.rd F i :=
  (State.event_sys (m := 0x400000000000000000140000) (p := 0) s k 0xFF d4 d5 d6 d7 hk rfl (Within.refl _ _ _)).rd F i h

theorem sysEvent_snap (s : State) (k : EvKind) (d4 d5 d6 d7 : Nat) (hk : k.ring ≠ .port) :
    (s.event k 0xFF d4 d5 d6 d7).snap = s.snap :=
  (State.event_sys (m := 0x400000000000000000140000) (p := 0) s k 0xFF d4 d5 d6 d7 hk rfl (Within.refl _ _ _)).snap rfl

theorem snapAnswer_rd (s : State) (w : List Packet) (st id : Nat) (F : Field) (i : Nat)
    (h : maskSkips 0x8001000000400000000000000038140000 F = true) : (s.snapAnswer w st id).rd F i = s.rd F i :=
  (snapAnswer_footprint s w st id).rd F i h

/-- The earliest request is taken into the free bank. -/
theorem takeSnap_takes {s : State} {r : SnapReq} {b : Nat} (h : s.freeBank = some b) (hb : b < 2) :
    (s.takeSnap r).rd TIME.BANK_ID b = r.id % 2 ^ 32 ∧ (s.takeSnap r).rd TIME.BANK_TIME_LO b = r.at_ % 2 ^ 32 ∧
    (s.takeSnap r).bit TIME.VALID 0 b = true ∧ (s.takeSnap r).rd TIME.NEWER 0 = b ∧
    (s.takeSnap r).rd TIME.SNAP_CNT 0 = min (s.rd TIME.SNAP_CNT 0 + 1) (2 ^ 32 - 1) := by
  obtain ⟨hid, hlo, hvalid, hnewer, hcnt⟩ := bankLoaded_shows s r hb
  have hkeep : ∀ F : Field, ∀ i, F.apart TIME.SNAP_CNT = true → F.apart (IRQ_STAT TIME.page) = true →
      maskSkips 0x400000000000000000140000 F = true → maskSkips 0x8001000000400000000000000038140000 F = true →
      (s.takeSnap r).rd F i = (s.bankLoaded r b).rd F i := by
    intro F i hF1 hF2 hF3 hF4
    rw [takeSnap_some h, snapAnswer_rd _ _ _ _ _ _ hF4, rd_irq _ _ _ _ _ _ hF2, rd_bump _ _ _ _ _ hF1,
      sysEvent_rd _ _ _ _ _ _ (by decide) _ _ hF3]
  refine ⟨?_, ?_, ?_, ?_, ?_⟩
  · rw [hkeep _ _ (by decide) (by decide) (by decide) (by decide), hid]
  · rw [hkeep _ _ (by decide) (by decide) (by decide) (by decide), hlo]
  · unfold State.bit at hvalid ⊢
    rw [hkeep _ _ (by decide) (by decide) (by decide) (by decide), hvalid]
  · rw [hkeep _ _ (by decide) (by decide) (by decide) (by decide), hnewer]
  · rw [takeSnap_some h, snapAnswer_rd _ _ _ _ _ _ (by decide), rd_irq _ _ _ _ _ _ (by decide), rd_bump_self,
      sysEvent_rd _ _ _ _ _ _ (by decide) _ _ (by decide), hcnt]
    rfl

/-- With both banks held the snapshot is refused, counted. -/
theorem takeSnap_refuses {s : State} {r : SnapReq} (h : s.freeBank = none) : (s.takeSnap r).snap = s.snap ∧
    (s.takeSnap r).rd TIME.SNAP_REFUSED_CNT 0 = min (s.rd TIME.SNAP_REFUSED_CNT 0 + 1) (2 ^ 32 - 1) := by
  rw [takeSnap_none h]
  constructor
  · rw [(snapAnswer_footprint _ _ _ _).snap rfl]
    exact sysEvent_snap s _ _ _ _ _ (by decide)
  · rw [snapAnswer_rd _ _ _ _ _ _ (by decide), rd_irq _ _ _ _ _ _ (by decide), rd_bump_self,
      sysEvent_rd _ _ _ _ _ _ (by decide) _ _ (by decide)]
    rfl

theorem earliest_nil_of_pend {s : State} (h : s.snap.pend = []) : exec .snapBoundary s = .next s := by
  show execSnapBoundary s = _
  unfold execSnapBoundary
  rw [h]
  rfl

/-! ## READ_SNAP and TIME_SET (R448, R455) -/

/-- The form of READ_SNAP: 1 to 15 page bases. -/
theorem readSnap_form {k : Packet} : (decide (k.len % 4 = 0 ∧ 1 ≤ k.len / 4 ∧ k.len / 4 ≤ 15) = true) ↔
    k.len % 4 = 0 ∧ 4 ≤ k.len ∧ k.len ≤ 60 := by
  rw [decide_eq_true_iff]
  omega

theorem cmdReadSnap_formed {k : Packet} {s : State} (h4 : k.len % 4 = 0) (hlo : 4 ≤ k.len) (hhi : k.len ≤ 60)
    (hp : ((pageBases (k.len / 4) k.payload).all fun a => a % 0x400 == 0 && (pageOf a).isSome) = true) :
    s.cmdReadSnap k = match s.bankOf k.ar with
      | none => s.answer k stBAD_ARG
      | some b => s.respond k stOK (leBytes 4 k.ar ++ leBytes 4 (s.rd TIME.BANK_TIME_LO b) ++
          leBytes 4 (s.rd TIME.BANK_TIME_HI b) ++ leBytes 4 (s.rd (bankFlags b) 0) ++
          (pageBases (k.len / 4) k.payload).flatMap (shadowBytes (s.bank b))) := by
  unfold State.cmdReadSnap
  exact formed_of_ok _ _ _ _ (Bool.and_eq_true_iff.mpr ⟨readSnap_form.mpr ⟨h4, hlo, hhi⟩, hp⟩)

theorem cmdReadSnap_malformed {k : Packet} {s : State} (h : k.len % 4 ≠ 0 ∨ k.len < 4 ∨ 60 < k.len ∨
    ((pageBases (k.len / 4) k.payload).all fun a => a % 0x400 == 0 && (pageOf a).isSome) = false) :
    s.cmdReadSnap k = s.answer k stBAD_ARG := by
  unfold State.cmdReadSnap
  refine formed_of_bad _ _ _ _ (Bool.and_eq_false_iff.mpr ?_)
  by_cases hlen : k.len % 4 = 0 ∧ 4 ≤ k.len ∧ k.len ≤ 60
  · refine .inr ?_
    rcases h with h | h | h | h
    · exact absurd hlen.1 h
    · omega
    · omega
    · exact h
  · exact .inl (Bool.eq_false_iff.mpr fun hform => hlen (readSnap_form.mp hform))

/-- Device time steps and is set. -/
def State.timeSet (s : State) (t : Nat) : State := (s.stepTime t).flag TIME.SET 0 true

theorem cmdTimeSet_formed {k : Packet} {s : State} (hb : s.standby = false) (hl : k.len = 8) : s.cmdTimeSet k =
    if s.rd TIME.ROLE 0 = 0 then s.answer k stDENIED
    else (s.timeSet (round5 (bytesAt k.payload 0 8))).answer k stOK := by
  unfold State.cmdTimeSet
  rw [offStandby_of_other k _ hb, formed_of_ok _ _ _ _ (by simp [hl])]
  rfl

/-- Settles O38: each request by `State.snapLocal`, each boundary by `State.takeSnap`, each command by its form. -/
theorem snapshotsLoadABank : Obligations.SnapshotsLoadABank := by
  unfold Obligations.SnapshotsLoadABank
  refine ⟨?req, ?reqFull, ?reqPin, ?snapshot, ?snapshotFull, ?snapshotPin, ?snapshotAt, ?snapshotAtFull, ?snapshotBad, ?edge,
    ?edgeWakes, ?noEdge, ?drive, ?driveCounts, ?noDrive, ?boundary, ?boundaryRefused, ?noBoundary, ?hold, ?noHold, ?readSnap,
    ?readSnapUnknown, ?readSnapBad, ?timeSet, ?timeSetDenied, ?timeSetBad, ?timeSetStandby, ?timeGet, ?timeLo⟩
  case req => exact fun s hp h => ⟨_, congrArg Host.Outcome.next (snapRequest_room (k := none) hp h), rfl, rfl⟩
  case reqFull =>
    exact fun s hp h =>
      ⟨_, congrArg Host.Outcome.next (snapRequest_full (k := none) hp h), rfl, errF_code s TIME.REQ 0 _ (by decide)⟩
  case reqPin => exact fun s hp => ⟨_, congrArg Host.Outcome.next (snapRequest_pin hp), rfl, rfl⟩
  case snapshot =>
    intro k s hs hc hk hp h
    exact ⟨_, congrArg Host.Outcome.next ((serve_of_serves s k _ hs).trans
      ((cmdSnapshot_plain s hc hk).trans (snapRequest_room (k := some k) hp h))), rfl, rfl⟩
  case snapshotFull =>
    intro k s hs hc hk hp h hresp
    refine ⟨_, congrArg Host.Outcome.next ((serve_of_serves s k _ hs).trans
      ((cmdSnapshot_plain s hc hk).trans (snapRequest_full (k := some k) hp h))), ?_, answer_snap s k stNO_SPACE⟩
    exact answer_responded stNO_SPACE hresp rfl
  case snapshotPin =>
    intro k s hs hc hk hp
    exact ⟨_, congrArg Host.Outcome.next ((serve_of_serves s k _ hs).trans
      ((cmdSnapshot_plain s hc hk).trans (snapRequest_pin hp))), rfl⟩
  case snapshotAt =>
    intro k s hs hc ha hl hid hsome hresp
    obtain ⟨t, ht⟩ := Option.isSome_iff_exists.mp hsome
    obtain ⟨hrings, hsnap⟩ := snapBroadcast_keeps t k
    have hcmd := cmdSnapshot_at s hc ha hl hid
    rw [ht] at hcmd
    refine ⟨_, congrArg Host.Outcome.next ((serve_of_serves s k _ hs).trans hcmd), answer_responded stOK hresp ?_, ?_⟩
    · unfold State.ring
      rw [hrings, snapAt_rings ht]
    · rw [answer_snap, hsnap, ht]
      rfl
  case snapshotAtFull =>
    intro k s hs hc ha hl hid hnone hresp
    have hcmd := cmdSnapshot_at s hc ha hl hid
    rw [hnone] at hcmd
    exact ⟨_, congrArg Host.Outcome.next ((serve_of_serves s k _ hs).trans hcmd), answer_responded stNO_SPACE hresp rfl,
      answer_snap s k stNO_SPACE⟩
  case snapshotBad =>
    intro k s hs h hresp
    refine serve_answers (c := (·.cmdSnapshot k)) hs (formed_of_bad _ _ _ _ ?_) rfl hresp
    rcases h with h | ⟨hplain, h | h | h⟩
    · rw [h, Bool.false_and]
    · rw [hplain, decide_eq_false (fun ha => ha.elim h.1 h.2)]
      simp
    · rw [hplain, beq_false_of_ne h]
      simp
    · rw [hplain, decide_eq_false (Nat.not_lt.mpr h)]
      simp
  case edge =>
    intro n s hn hp h
    have hlocal := snapLocal_room (s := s.wakeBy 4) (w := []) (by rw [reqNow_wakeBy, wakeBy_snap]; exact h)
    refine ⟨_, snapPinEdge_taken s hn hp, ?_⟩
    rw [hlocal, ← wakeBy_snap s 4, show (⟨s.boundary s.time, 2 ^ 31 + ((s.wakeBy 4).snap.count + 1) % 2 ^ 31, false, 0, []⟩ :
      SnapReq) = (s.wakeBy 4).reqNow [] by rw [reqNow_wakeBy, wakeBy_snap]; rfl]
    exact ⟨rfl, rfl⟩
  case edgeWakes =>
    intro n s hn hp hw
    refine ⟨_, snapPinEdge_taken s hn hp, ?_⟩
    cases hl : (s.wakeBy 4).snapLocal [] with
    | none => exact (wakeBy_watch 4 hw).1
    | some t => exact (snapLocal_dev hl).trans (wakeBy_watch 4 hw).1
  case noEdge =>
    intro n s h
    refine congrArg Host.Outcome.next (if_pos ?_)
    rcases h with h | h <;> simp [h]
  case drive =>
    intro s hd
    refine ⟨_, snapPinDrive_eq hd, ?_⟩
    split
    · next t ht =>
      by_cases hroom : (addReq (s.pinDriven.reqNow (s.snap.drive.filterMap id)) s.pinDriven.snap.pend).length ≤ 4
      · rw [snapLocal_room hroom] at ht
        cases ht
        exact ⟨rfl, pinDriven_time s⟩
      · rw [snapLocal_full (Nat.not_le.mp hroom)] at ht
        exact absurd ht (by simp)
    · have w := snapFull_footprint s.pinDriven s.snap.drive
      exact ⟨congrArg SnapSt.drive (w.snap rfl), (pinDriven_time s).trans_eq (w.time rfl).symm⟩
  case driveCounts =>
    intro s hd hlen
    have hroom : (addReq (s.pinDriven.reqNow (s.snap.drive.filterMap id)) s.pinDriven.snap.pend).length ≤ 4 :=
      (addReq_length _ _).trans hlen
    refine ⟨_, snapPinDrive_eq hd, ?_⟩
    rw [snapLocal_room hroom]
    rfl
  case noDrive => exact fun s hd => congrArg Host.Outcome.next (if_pos (by rw [hd]; rfl))
  case boundary =>
    exact fun r b s hr hf hb => ⟨_, snapBoundary_some hr, takeSnap_takes (s := s.atBoundary r) hf hb⟩
  case boundaryRefused =>
    intro r s hr hf
    obtain ⟨hsnap, hcnt⟩ := takeSnap_refuses (s := s.atBoundary r) (r := r) hf
    exact ⟨_, snapBoundary_some hr, (congrArg SnapSt.banks hsnap).trans rfl, hcnt⟩
  case noBoundary => exact fun s h => earliest_nil_of_pend h
  case hold =>
    intro b s h
    refine ⟨_, congrArg Host.Outcome.next (if_pos h), ?_, ?_⟩
    · unfold State.bit
      rw [rd_irq _ _ _ _ _ _ (by decide), rd_bump _ _ _ _ _ (by decide), rd_wrBit _ _ _ _ _ _ _ (by decide)]
      exact bit_wrBit_clear _ _ _ _
    · rw [rd_irq _ _ _ _ _ _ (by decide), rd_bump_self, rd_wrBit _ _ _ _ _ _ _ (by decide),
        rd_wrBit _ _ _ _ _ _ _ (by decide)]
      rfl
  case noHold => exact fun b s h => congrArg Host.Outcome.next (if_neg (by rw [h]; decide))
  case readSnap =>
    intro k b s hs h4 hlo hhi hp hb hresp
    have hcmd := cmdReadSnap_formed (s := s) h4 hlo hhi hp
    rw [hb] at hcmd
    exact ⟨_, congrArg Host.Outcome.next ((serve_of_serves s k _ hs).trans hcmd), respond_responded _ _ _ _ _ hresp rfl⟩
  case readSnapUnknown =>
    intro k s hs h4 hlo hhi hp hb hresp
    have hcmd := cmdReadSnap_formed (s := s) h4 hlo hhi hp
    rw [hb] at hcmd
    exact serve_answers (c := (·.cmdReadSnap k)) hs hcmd rfl hresp
  case readSnapBad =>
    exact fun k s hs h hresp => serve_answers (c := (·.cmdReadSnap k)) hs (cmdReadSnap_malformed h) rfl hresp
  case timeSet =>
    intro k s hs hb hl hrole hresp
    have hcmd := (cmdTimeSet_formed hb hl).trans (if_neg hrole)
    refine ⟨_, congrArg Host.Outcome.next ((serve_of_serves s k _ hs).trans hcmd), answer_responded stOK hresp rfl,
      answer_time _ _ _, ?_⟩
    rw [(answer_footprint _ _ _).on _ _ (by decide)]
    exact on_flag_self _ _ _ _ (by decide)
  case timeSetDenied =>
    intro k s hs hb hl hrole hresp
    have hcmd := (cmdTimeSet_formed hb hl).trans (if_pos hrole)
    exact ⟨_, congrArg Host.Outcome.next ((serve_of_serves s k _ hs).trans hcmd), answer_responded stDENIED hresp rfl,
      answer_time _ _ _⟩
  case timeSetBad =>
    intro k s hs hb hl hresp
    refine serve_answers (c := (·.cmdTimeSet k)) hs ((offStandby_of_other k _ hb).trans (formed_of_bad _ _ _ _ ?_)) rfl hresp
    simpa using hl
  case timeSetStandby => exact fun k s hs hb hresp => serve_denied (c := (·.cmdTimeSet k)) hs hb rfl hresp
  case timeGet =>
    exact fun k s hs hresp => ⟨_, congrArg Host.Outcome.next (serve_of_serves s k _ hs), respond_responded _ _ _ _ _ hresp rfl⟩
  case timeLo => exact fun s => ⟨_, rfl, rfl⟩

end Sys2Proof.Machine
end

section
/-! PROOFS. Credits and the responses that leave with them (R440 to R442): O39. -/
set_option linter.all false

namespace Sys2Proof.Machine

/-- A WEFT_SEND of one DATA cell in class 2, as it came over the fabric from device 5 in class 1. -/
def fabricSend : Packet := ⟨3, 0, 0x70, 7, 0x102, [0], some ⟨5, 1, false⟩⟩

/-- The cell of the message that it sends. -/
def bulkCell : Cell := ⟨7, false, 0, 2, 0, 0, true, true, 7, [0]⟩

/-- A device in RUN with link W0 UP, where that cell waits for a credit of class 2 and no credit of class 1 is left. -/
def bulkCellWaits : State :=
  (((({ State.reset with dev := .run } : State).wr (linkState 0) 0 lkUp).flag WEFT.ID_VALID 0 true).wr (linkCredit 0 1) 0
    0).weftRec fun w => { w with out := [(0, 2, bulkCell)], sending := [(fabricSend, 7)] }

/-- The state with the credits returned, and the cell gone. -/
def bulkCellLeft : State :=
  ((bulkCellWaits.wr (linkCredit 0 2) 0 16).weftRec fun w => { w with out := [] }).transmit 0 2 bulkCell

/-- The credit lets the cell go; then the WEFT_SEND is answered (R442), and its response waits for a credit of class 1. -/
theorem bulkCellLeft_sendsDone : bulkCellLeft.sendsDone.weft.out.length = 1 := by decide +kernel

theorem credit_bulkCellWaits : exec (.credit 0 2 4) bulkCellWaits = .next bulkCellLeft.sendsDone := by
  have hcredit : min (fullCredit 2) (bulkCellWaits.rd (linkCredit 0 2) 0 + (4 : Byte).toNat) = 16 := by decide
  show execCredit 0 2 4 bulkCellWaits = _
  unfold execCredit
  rw [if_neg (by decide)]
  dsimp only
  rw [hcredit]
  rfl

/-- Refutes O39: its clause on CREDIT has the waiting cells leave and nothing else join them. Where the last cell of a WEFT_SEND
that came over the fabric leaves with the credit, the command is answered over the fabric, and with no credit of its own class
the response's cell waits in turn. -/
theorem not_fabricCellsAndCredits : ¬ Obligations.FabricCellsAndCredits := by
  intro h
  obtain ⟨-, -, -, -, -, -, -, -, -, -, -, -, -, -, -, -, -, -, -, -, -, -, -, -, -, hout, -⟩ := h
  obtain ⟨t, ht, hleft⟩ := hout 0 2 4 bulkCellWaits (by decide)
  have hsent : bulkCellLeft.sendsDone = t := Host.Outcome.next.inj (credit_bulkCellWaits.symm.trans ht)
  have hnone : (removeN (waitsFor 0 2) (min (fullCredit 2) (bulkCellWaits.rd (linkCredit 0 2) 0 + (4 : Byte).toNat))
      bulkCellWaits.weft.out).length = 0 := by decide
  rw [← hsent] at hleft
  rw [← hleft, bulkCellLeft_sendsDone] at hnone
  exact absurd hnone (by decide)

end Sys2Proof.Machine
end

section
/-! PROOFS. Device time over the fabric (R445 to R448): O40. -/
set_option linter.all false

namespace Sys2Proof.Machine

/-- The registers that disciplining a follower's time writes. -/
def disciplineFields : List Field :=
  [TIME.STATE, TIME.OFFSET, TIME.RATE, TIME.STEP_CNT, IRQ_STAT TIME.page]

/-- The areas of an event of the whole device. -/
abbrev sysEventAreas : Nat := 0x400000000000000000140000

theorem sysEvent_leaves (l : List Field) (s : State) (k : EvKind) (d4 d5 d6 d7 : Nat) (hk : k.ring ≠ .port) :
    Leaves l sysEventAreas s (s.event k 0xFF d4 d5 d6 d7) := fun F i _ hF => sysEvent_rd s k d4 d5 d6 d7 hk F i hF

/-- TIME_STAT.STATE takes another value, with its event. -/
def State.timeStateWritten (s : State) (st : Nat) : State :=
  (s.wr TIME.STATE 0 st).event EV.TIME_STATE 0xFF st (s.rd TIME.MASTER_ID 0) (s.rd TIME.OFFSET 0) 0

theorem timeState_new {s : State} {st : Nat} (h : s.rd TIME.STATE 0 ≠ st) : s.timeState st =
    if st = tsLocked then (s.timeStateWritten st).irq TIME.page 0 TIME.IRQ_LOCKED
    else if st = tsHoldover then (s.timeStateWritten st).irq TIME.page 0 TIME.IRQ_HOLDOVER
    else s.timeStateWritten st := if_neg h

theorem timeStateWritten_leaves (s : State) (st : Nat) :
    Leaves disciplineFields sysEventAreas s (s.timeStateWritten st) :=
  ((Leaves.refl _ _ s).wr TIME.STATE 0 st (by decide)).trans (sysEvent_leaves _ _ _ _ _ _ _ (by decide))

theorem timeState_leaves (s : State) (st : Nat) : Leaves disciplineFields sysEventAreas s (s.timeState st) := by
  by_cases h : s.rd TIME.STATE 0 = st
  · have hsame : s.timeState st = s := if_pos h
    rw [hsame]
    exact Leaves.refl _ _ s
  · have hw := timeStateWritten_leaves s st
    rw [timeState_new h]
    exact Leaves.ite (hw.irq _ _ _ (by decide)) (Leaves.ite (hw.irq _ _ _ (by decide)) hw)

theorem stepTime_leaves (s : State) (t : Nat) : Leaves disciplineFields sysEventAreas s (s.stepTime t) := by
  have hbump := (Leaves.refl disciplineFields sysEventAreas s).bump TIME.STEP_CNT 0 (by decide)
  exact hbump.irq TIME.page 0 TIME.IRQ_STEP (by decide)

theorem slew_leaves (s : State) : Leaves disciplineFields sysEventAreas s s.slew :=
  (Leaves.refl disciplineFields sysEventAreas s).wr TIME.RATE 0 _ (by decide)

/-- Disciplining a follower's time leaves what names its master. -/
theorem discipline_leaves (s : State) (o : Int) : Leaves disciplineFields sysEventAreas s (s.discipline o) := by
  have hoffset := (Leaves.refl disciplineFields sysEventAreas s).wr TIME.OFFSET 0 (unsx TIME.OFFSET.width ((o + 8) / 16)) (by decide)
  unfold State.discipline
  dsimp only
  refine Leaves.trans ?_ (timeState_leaves _ _)
  show Leaves disciplineFields sysEventAreas s (if _ then _ else _)
  split
  · exact (hoffset.trans (stepTime_leaves _ _)).trans (sysEvent_leaves _ _ _ _ _ _ _ (by decide))
  · exact hoffset.trans (slew_leaves _)

/-- What a follower takes from a SYNC of its upstream link: count, master, hops, link and SET. -/
def State.syncTaken (s : State) (l : Link) (y : SyncSet) : State :=
  ((((s.bump TIME.SYNC_RX_CNT 0).wr TIME.MASTER_ID 0 y.master.toNat).wr TIME.HOPS 0 (y.hops.toNat + 1)).wr TIME.UPSTREAM 0
    l).flag TIME.SET 0 y.set

theorem syncTaken_shows (s : State) (l : Link) (y : SyncSet) :
    (s.syncTaken l y).rd TIME.SYNC_RX_CNT 0 = min (s.rd TIME.SYNC_RX_CNT 0 + 1) (2 ^ 32 - 1) ∧
    (s.syncTaken l y).rd TIME.MASTER_ID 0 = y.master.toNat ∧
    (s.syncTaken l y).rd TIME.HOPS 0 = (y.hops.toNat + 1) % 2 ^ TIME.HOPS.width ∧
    (s.syncTaken l y).on TIME.SET 0 = y.set ∧ (s.syncTaken l y).rd TIME.UPSTREAM 0 = l.val := by
  unfold State.syncTaken
  refine ⟨?_, ?_, ?_, on_flag_self _ _ _ _ (by decide), ?_⟩
  · simp (disch := decide) only [rd_flag, rd_wr, rd_bump_self]
    rfl
  · simp (disch := decide) only [rd_flag, rd_wr, rd_wr_self]
    exact Nat.mod_eq_of_lt y.master.isLt
  · simp (disch := decide) only [rd_flag, rd_wr, rd_wr_self]
  · simp (disch := decide) only [rd_flag, rd_wr_self]
    exact Nat.mod_eq_of_lt (Nat.lt_of_lt_of_le l.isLt (by decide))

theorem followSync_leaves (s : State) (l : Link) (y : SyncSet) :
    Leaves disciplineFields sysEventAreas (s.syncTaken l y) (s.followSync l y) := by
  unfold State.followSync
  dsimp only
  split
  · exact discipline_leaves (s.syncTaken l y) _
  · exact discipline_leaves (s.syncTaken l y) _

/-- A follower takes master, hop count, SET and link of a SYNC that its upstream link brings. -/
theorem followSync_shows (s : State) (l : Link) (y : SyncSet) :
    (s.followSync l y).rd TIME.SYNC_RX_CNT 0 = min (s.rd TIME.SYNC_RX_CNT 0 + 1) (2 ^ 32 - 1) ∧
    (s.followSync l y).rd TIME.MASTER_ID 0 = y.master.toNat ∧
    (s.followSync l y).rd TIME.HOPS 0 = (y.hops.toNat + 1) % 2 ^ TIME.HOPS.width ∧
    (s.followSync l y).on TIME.SET 0 = y.set ∧ (s.followSync l y).rd TIME.UPSTREAM 0 = l.val := by
  obtain ⟨hcnt, hmaster, hhops, hset, hup⟩ := syncTaken_shows s l y
  have hkeep := followSync_leaves s l y
  exact ⟨(hkeep _ _ (by decide) (by decide)).trans hcnt, (hkeep _ _ (by decide) (by decide)).trans hmaster,
    (hkeep _ _ (by decide) (by decide)).trans hhops, (hkeep.on _ _ (by decide) (by decide)).trans hset,
    (hkeep _ _ (by decide) (by decide)).trans hup⟩

/-- The link shows the master and hop count of a SYNC. -/
def State.syncShown (s : State) (l : Link) (y : SyncSet) : State :=
  { s with tim := { s.tim with shown := s.tim.shown.set l (some (y.master.toNat, y.hops.toNat)) l.isLt } }

theorem execSync_follower {s : State} {l : Link} (y : SyncSet) (hu : s.weftUp l = true) (hr : s.rd TIME.ROLE 0 = 0) :
    exec (.sync l y) s = .next (if upstream (s.syncShown l y).tim.shown = some l then (s.syncShown l y).followSync l y
      else s.syncShown l y) := by
  show execSync l y s = _
  unfold execSync
  rw [hu, hr, if_neg (by decide), if_neg (by decide), if_pos rfl]
  rfl

theorem execSync_master {s : State} {l : Link} (y : SyncSet) (hu : s.weftUp l = true) (hr : s.rd TIME.ROLE 0 = 1) :
    exec (.sync l y) s = .next (if y.master.toNat = s.rd WEFT.DEV_ID 0 then s
      else (s.flag TIME.CONFLICT 0 true).irq TIME.page 0 TIME.IRQ_CONFLICT) := by
  show execSync l y s = _
  unfold execSync
  rw [hu, hr, if_neg (by decide), if_pos rfl]

/-- A master's SYNC on one link. -/
def State.syncOn (s : State) (y : SyncSet) (l : Link) : State :=
  if s.weftUp l then { s with tim := { s.tim with sent := s.tim.sent.set l (some y) l.isLt } } else s

theorem syncOn_weftUp (s : State) (y : SyncSet) (l k : Link) : (s.syncOn y l).weftUp k = s.weftUp k := by
  unfold State.syncOn
  split <;> rfl

theorem syncOn_self {s : State} (y : SyncSet) {l : Link} (h : s.weftUp l = true) :
    (s.syncOn y l).tim.sent.get l = some y := by
  unfold State.syncOn
  rw [if_pos h]
  exact get_set_self _ l _

theorem syncOn_ne (s : State) (y : SyncSet) {l k : Link} (h : k ≠ l) :
    (s.syncOn y l).tim.sent.get k = s.tim.sent.get k := by
  unfold State.syncOn
  split
  · exact get_set_ne _ l k _ h
  · rfl

/-- Four SYNCs are missed: they are counted, and what the links have shown is forgotten. -/
def State.syncsMissed (s : State) : State :=
  ({ s with tim := { s.tim with consec := 0, shown := Vector.replicate 2 none } } : State).bumpBy TIME.SYNC_MISS_CNT 0 4

theorem missed_holds {s : State} (h : s.rd TIME.STATE 0 ≠ tsHoldover) :
    (s.syncsMissed.timeState tsHoldover).rd TIME.SYNC_MISS_CNT 0 = min (s.rd TIME.SYNC_MISS_CNT 0 + 4) (2 ^ 32 - 1) ∧
    (s.syncsMissed.timeState tsHoldover).tim.consec = 0 ∧
    (s.syncsMissed.timeState tsHoldover).rd TIME.STATE 0 = tsHoldover := by
  have hstate : s.syncsMissed.rd TIME.STATE 0 ≠ tsHoldover := by
    unfold State.syncsMissed
    rw [rd_bumpBy _ _ _ _ _ _ (by decide)]
    exact h
  refine ⟨?_, ?_, ?_⟩
  · rw [timeState_leaves _ _ _ _ (by decide) (by decide)]
    exact rd_bumpBy_self _ _ _ _
  · exact congrArg TimeSt.consec ((State.timeState_within (mm := 0x4000000000000000C0140000) (pp := 0) s.syncsMissed
      tsHoldover rfl (Within.refl _ _ _)).tim rfl)
  · rw [timeState_new hstate, if_neg (by decide), if_pos rfl, rd_irq _ _ _ _ _ _ (by decide)]
    exact (sysEvent_rd _ _ _ _ _ _ (by decide) _ _ (by decide)).trans (rd_wr_self _ _ _ _)

/-- Settles O40: a SYNC by the device's role, a delay by its link's state. -/
theorem deviceTimeIsDistributed : Obligations.DeviceTimeIsDistributed := by
  unfold Obligations.DeviceTimeIsDistributed
  refine ⟨?conflict, ?ignored, ?follow, ?noted, ?send, ?noSend, ?delay, ?noDelay, ?holdover, ?noHoldover⟩
  case conflict =>
    intro l y s hu hr hm
    refine ⟨_, (execSync_master y hu hr).trans (congrArg Host.Outcome.next (if_neg hm)), ?_, rfl⟩
    rw [on_irq _ _ _ _ _ _ (by decide), on_flag_self _ _ _ _ (by decide)]
  case ignored =>
    rintro l y s (hu | ⟨hr, hm⟩ | hr)
    · exact congrArg Host.Outcome.next (if_pos (by simp [hu]))
    · by_cases hu : s.weftUp l = true
      · exact (execSync_master y hu hr).trans (congrArg Host.Outcome.next (if_pos hm))
      · exact congrArg Host.Outcome.next (if_pos (by simp [hu]))
    · refine congrArg Host.Outcome.next ?_
      split
      · rfl
      · rw [if_neg (by omega), if_neg (by omega)]
  case follow =>
    intro l y s hu hr hup
    exact ⟨_, (execSync_follower y hu hr).trans (congrArg Host.Outcome.next (if_pos hup)),
      followSync_shows (s.syncShown l y) l y⟩
  case noted =>
    intro l y s hu hr hup
    exact ⟨_, (execSync_follower y hu hr).trans (congrArg Host.Outcome.next (if_neg hup)), get_set_self _ l _, rfl, rfl⟩
  case send =>
    intro l s hr hu
    refine ⟨_, congrArg Host.Outcome.next (if_neg (by simpa using hr)), ?_⟩
    show (((s.syncOn _ 0).syncOn _ 1).tim.sent.get l) = _
    by_cases hl : l = 0
    · subst hl
      rw [syncOn_ne _ _ (by decide)]
      exact syncOn_self _ hu
    · have h1 : l = 1 := Fin.eq_one_of_ne_zero l hl
      subst h1
      exact syncOn_self _ ((syncOn_weftUp s _ 0 1).trans hu)
  case noSend => exact fun s hr => congrArg Host.Outcome.next (if_pos hr)
  case delay =>
    intro l d s h
    refine ⟨_, congrArg Host.Outcome.next (if_neg ?_), get_set_self _ l _, rd_wr_self _ _ _ _⟩
    rcases h with h | h <;> simp [h]
  case noDelay => exact fun l d s hup htrain => congrArg Host.Outcome.next (if_pos (by simp [hup, htrain]))
  case holdover =>
    intro s hr hst
    obtain ⟨hcnt, hconsec, hstate⟩ := missed_holds (s := s) (by rcases hst with h | h <;> rw [h] <;> decide)
    exact ⟨_, congrArg Host.Outcome.next (if_pos ⟨hr, hst.symm⟩), hcnt, hconsec, hstate⟩
  case noHoldover =>
    intro s h
    refine congrArg Host.Outcome.next (if_neg ?_)
    rintro ⟨hr, hst⟩
    rcases h with h | ⟨hl, ha⟩
    · exact h hr
    · exact hst.elim ha hl

end Sys2Proof.Machine
end

section
/-! PROOFS. What the Selvedge link keeps (R465, R466): the receive sequence number, and the registers of the pair page. -/
set_option linter.all false

namespace Sys2Proof.Machine

/-- Every area but the pair record. -/
abbrev offPair : Nat := 0xFFFFDFFFFFFFFFFFFFFFFFFFFFFFFFFFFF

theorem Within.pairKept {p : Nat} {s t : State} (w : Within offPair p s t) : t.pair = s.pair := w.pair rfl

/-- What every step of a fold keeps, the fold keeps. -/
theorem foldl_keeps {σ α γ : Type} (f : σ → α → σ) (g : σ → γ) (h : ∀ s a, g (f s a) = g s) (l : List α) (s : σ) :
    g (l.foldl f s) = g s := by
  induction l generalizing s with
  | nil => rfl
  | cons a l ih => rw [List.foldl_cons, ih, h]

/-! ## The sequence number expected from the partner -/

@[simp] theorem selReliable_rxSeq (s : State) (b : SelBody) : (s.selReliable b).pair.rxSeq = s.pair.rxSeq := by
  unfold State.selReliable
  split <;> rfl

@[simp] theorem sendCache_rxSeq (s : State) (p : Port) : (s.sendCache p).pair.rxSeq = s.pair.rxSeq := by
  unfold State.sendCache
  dsimp only
  split
  · rw [selReliable_rxSeq]
    rfl
  · rfl

@[simp] theorem sendAms_pair (s : State) (p : Port) (a : PdMsg) (b : Body) : (s.sendAms p a b).pair = s.pair :=
  (State.sendAms_within (mm := offPair) s p a b rfl (Within.refl _ _ _)).pairKept

@[simp] theorem adopt_pair (s : State) (p : Port) : (s.adopt p).pair = s.pair :=
  (State.adopt_within (mm := offPair) s p rfl (Within.refl _ _ _)).pairKept

theorem sendCaps_rxSeq (s : State) (p : Port) : (s.sendCaps p).pair.rxSeq = s.pair.rxSeq := by
  unfold State.sendCaps
  dsimp only
  rw [sendAms_pair]
  split
  · rw [sendCache_rxSeq]
    exact congrArg PairSt.rxSeq (adopt_pair s p)
  · rw [State.wr_pair, sendCache_rxSeq]
    exact congrArg PairSt.rxSeq (adopt_pair s p)

theorem readvertise_rxSeq (s : State) (p : Port) : (s.readvertise p).pair.rxSeq = s.pair.rxSeq := by
  unfold State.readvertise
  split
  · rfl
  · split
    · exact sendCaps_rxSeq _ p
    · rfl

theorem vconnOff_pair (s : State) (p : Port) : (s.vconnOff p).pair = s.pair :=
  (State.vconnOff_within (mm := offPair) s p rfl (Within.refl _ _ _)).pairKept

theorem unqualify_pair (s : State) (p : Port) : (s.unqualify p).pair = s.pair :=
  (State.unqualify_within (mm := offPair) s p rfl (Within.refl _ _ _)).pairKept

theorem vconnLost_rxSeq (s : State) (p : Port) : (s.vconnLost p).pair.rxSeq = s.pair.rxSeq := by
  have hoff : (s.vconnOff p).pair.rxSeq = s.pair.rxSeq := congrArg _ (vconnOff_pair s p)
  have hun : ((s.vconnOff p).unqualify p).pair.rxSeq = s.pair.rxSeq :=
    (congrArg PairSt.rxSeq (unqualify_pair _ p)).trans hoff
  unfold State.vconnLost
  dsimp only
  split
  · split
    · exact (readvertise_rxSeq _ p).trans hun
    · exact hun
  · exact hoff

theorem vconnAllow_rxSeq (s : State) (p : Port) (v : Bool) : (s.vconnAllow p v).pair.rxSeq = s.pair.rxSeq := by
  unfold State.vconnAllow
  dsimp only
  split
  · rfl
  · exact vconnLost_rxSeq _ p

theorem vconnForce_rxSeq (s : State) (p : Port) (v : Bool) : (s.vconnForce p v).pair.rxSeq = s.pair.rxSeq := by
  unfold State.vconnForce
  dsimp only
  split
  · exact vconnLost_rxSeq _ p
  · rfl

theorem rxSeq_ite {c : Prop} [Decidable c] {s t u : State} (ht : t.pair.rxSeq = s.pair.rxSeq)
    (hu : u.pair.rxSeq = s.pair.rxSeq) : (if c then t else u).pair.rxSeq = s.pair.rxSeq := by
  split
  · exact ht
  · exact hu

/-- An operation that leaves the pair record keeps the number. -/
theorem Within.rxSeqKept {p : Nat} {s t : State} (w : Within offPair p s t) : t.pair.rxSeq = s.pair.rxSeq :=
  congrArg PairSt.rxSeq w.pairKept

/-- What a field's writer does reaches the pair record through VCONN's new advertisement alone. -/
theorem writeField_rxSeq (s : State) (F : Field) (i v : Nat) : (s.writeField F i v).pair.rxSeq = s.pair.rxSeq := by
  have h0 := fun t : State => Within.refl offPair 0 t
  unfold State.writeField
  dsimp only
  refine rxSeq_ite (State.feedEnable_within s 0 _ rfl (h0 s)).rxSeqKept ?_
  refine rxSeq_ite (State.feedEnable_within s 1 _ rfl (h0 s)).rxSeqKept ?_
  refine rxSeq_ite (rxSeq_ite rfl (State.feedForce_within s v rfl (h0 s)).rxSeqKept) ?_
  refine rxSeq_ite (rxSeq_ite rfl ((State.timeRole_within _ rfl (h0 _)).rxSeqKept.trans rfl)) ?_
  refine rxSeq_ite rfl ?_
  refine rxSeq_ite ((State.linkEnabled_within _ 0 rfl (h0 _)).rxSeqKept.trans rfl) ?_
  refine rxSeq_ite ((State.linkEnabled_within _ 1 rfl (h0 _)).rxSeqKept.trans rfl) ?_
  refine rxSeq_ite (rxSeq_ite rfl (State.setPeriod_all s _ v rfl (h0 s)).rxSeqKept) ?_
  refine rxSeq_ite (rxSeq_ite rfl rfl) ?_
  refine rxSeq_ite rfl ?_
  refine rxSeq_ite (rxSeq_ite rfl (vconnForce_rxSeq s _ _)) ?_
  refine rxSeq_ite ((State.roleWritten_all _ _ rfl (h0 _)).rxSeqKept.trans rfl) ?_
  refine rxSeq_ite (rxSeq_ite rfl (vconnAllow_rxSeq s _ _)) ?_
  refine rxSeq_ite (rxSeq_ite rfl (State.rpSel_all s _ v rfl (h0 s)).rxSeqKept) ?_
  refine rxSeq_ite ((State.modeWrite_all _ _ v rfl (h0 _)).rxSeqKept.trans rfl) ?_
  refine rxSeq_ite ((State.rateNow_all _ _ rfl (h0 _)).rxSeqKept.trans rfl) ?_
  refine rxSeq_ite rfl ?_
  refine rxSeq_ite (State.seedRext_all s _ v rfl (h0 s)).rxSeqKept ?_
  refine rxSeq_ite rfl ?_
  exact rxSeq_ite ((State.track_all _ _ rfl (h0 _)).rxSeqKept.trans rfl) rfl

theorem writeFields_rxSeq (s : State) (pg inst off v : Nat) :
    (s.writeFields pg inst off v).pair.rxSeq = s.pair.rxSeq := by
  unfold State.writeFields
  dsimp only
  refine (foldl_keeps _ (fun t : State => t.pair.rxSeq) (fun t (x : Field × Nat) => writeField_rxSeq t x.1 x.2 _) _ _).trans ?_
  exact (State.stageRsv_within s pg inst off v rfl (Within.refl offPair 0 s)).rxSeqKept

/-- A word of an object is written, or refused with an error record. -/
theorem applyImage_rxSeq (s : State) (tgt : Nat) (l : List Byte) : (s.applyImage tgt l).pair.rxSeq = s.pair.rxSeq := by
  have hword : ∀ (u : State) (w : ImgWord) (v : Nat), (if u.writeDenied w.pg w.inst w.off v then
      u.err w.pg w.inst stDENIED w.off else u.writeFields w.pg w.inst w.off v).pair.rxSeq = u.pair.rxSeq := fun u w v =>
    rxSeq_ite rfl (writeFields_rxSeq u _ _ _ _)
  have hfold : ∀ t : State, ((imagesOf tgt).foldl (fun t ws => ws.foldl (fun u w =>
      if u.writeDenied w.pg w.inst w.off (rwPart w.pg w.inst w.off (u.objWord tgt l w)) then u.err w.pg w.inst stDENIED w.off
      else u.writeFields w.pg w.inst w.off (rwPart w.pg w.inst w.off (u.objWord tgt l w))) t) t).pair.rxSeq =
      t.pair.rxSeq := fun t =>
    foldl_keeps _ (fun t : State => t.pair.rxSeq) (fun t ws =>
      foldl_keeps _ (fun t : State => t.pair.rxSeq) (fun u w => hword u w _) ws t) _ t
  have hload : ∀ (t : State) (b : Bool) (ws : List Nat), (t.loadFeedCurve b ws).pair.rxSeq = t.pair.rxSeq :=
    fun t b ws => (State.loadFeedCurve_within t b ws rfl (Within.refl offPair 0 t)).rxSeqKept
  have hport : ∀ (t : State) (p : Port) (b : Bool) (ws : List Nat), (t.loadPortCurve p b ws).pair.rxSeq = t.pair.rxSeq :=
    fun t p b ws => (State.loadPortCurve_all t p b ws rfl (Within.refl offPair 0 t)).rxSeqKept
  unfold State.applyImage
  dsimp only
  refine rxSeq_ite (((hload _ _ _).trans (hload _ _ _)).trans (hfold s)) (rxSeq_ite ?_ (hfold s))
  refine Eq.trans ?_ (hfold s)
  exact foldl_keeps _ (fun t : State => t.pair.rxSeq) (fun t p => (hport _ p _ _).trans (hport t p _ _)) _ _

theorem pendTable_rxSeq (s : State) (tgt : Nat) (l : List Byte) : (s.pendTable tgt l).pair.rxSeq = s.pair.rxSeq := by
  refine foldl_keeps _ (fun t : State => t.pair.rxSeq) (fun t p => ?_) _ s
  have hpend : (t.pendOne p l).pair.rxSeq = t.pair.rxSeq :=
    (State.pendOne_within t p l rfl (Within.refl offPair p t)).rxSeqKept
  exact rxSeq_ite ((selReliable_rxSeq _ _).trans hpend) hpend

theorem objApply_rxSeq (s : State) (tgt : Nat) (l : List Byte) : (s.objApply tgt l).pair.rxSeq = s.pair.rxSeq := by
  unfold State.objApply
  refine rxSeq_ite (State.applyBudget_within s l rfl (Within.refl offPair 0 s)).rxSeqKept ?_
  refine rxSeq_ite (rxSeq_ite rfl rfl) (rxSeq_ite (pendTable_rxSeq s tgt l) ?_)
  exact rxSeq_ite (applyImage_rxSeq s 4 l) (applyImage_rxSeq s tgt l)

theorem rxPolicy_rxSeq (s : State) (tgt : Nat) (l : List Byte) : (s.rxPolicy tgt l).pair.rxSeq = s.pair.rxSeq := by
  unfold State.rxPolicy
  refine rxSeq_ite ?_ ((State.persistObj_within _ tgt l rfl (Within.refl offPair 0 _)).rxSeqKept.trans (objApply_rxSeq s tgt l))
  refine (State.putPol_within _ tgt l rfl (Within.refl offPair 0 _)).rxSeqKept.trans ?_
  split
  · exact (State.setProfile_within s _ _ rfl (Within.refl offPair _ s)).rxSeqKept
  · rfl

/-! ## A stop of the partner's -/

theorem clearContract_rxSeq (s : State) (p : Port) : (s.clearContract p).pair.rxSeq = s.pair.rxSeq := by
  unfold State.clearContract
  dsimp only
  rw [sendCache_rxSeq]
  exact (State.endVdm_all s p stABORTED [] rfl (Within.refl offPair 0 s)).rxSeqKept

theorem swapEnd_rxSeq (s : State) (p : Port) : (s.swapEnd p).pair.rxSeq = s.pair.rxSeq :=
  rxSeq_ite (sendCache_rxSeq _ p) rfl

theorem endAttachment_rxSeq (s : State) (p : Port) : (s.endAttachment p).pair.rxSeq = s.pair.rxSeq := by
  have hkeep : (s.keepRext p).pair.rxSeq = s.pair.rxSeq := (State.keepRext_all s p rfl (Within.refl offPair 0 s)).rxSeqKept
  have hoff : ∀ t : State, ((t.vconnOff p).clearAllIds p).pair.rxSeq = t.pair.rxSeq := fun t =>
    (State.clearAllIds_all _ p rfl (State.vconnOff_all t p rfl (Within.refl offPair 0 t))).rxSeqKept
  have hlevel : ∀ t : State, (t.level CC.page p CC.IRQ_CC_OPEN_Q false).pair.rxSeq = t.pair.rxSeq := fun t => by
    unfold State.level
    dsimp only
    exact rxSeq_ite rfl rfl
  unfold State.endAttachment
  dsimp only
  rw [sendCache_rxSeq]
  have hcleared := (hoff _).trans ((swapEnd_rxSeq _ p).trans ((clearContract_rxSeq _ p).trans hkeep))
  simp only [State.modPort_pair, State.cc_pair, State.swp_pair, State.pe_pair, State.phy_pair, State.model_pair,
    State.wr_pair, State.flag_pair]
  refine rxSeq_ite ?_ ?_
  · rw [State.irq_pair, hlevel, State.flag_pair, State.wr_pair, State.flag_pair]
    exact hcleared
  · rw [hlevel, State.flag_pair, State.wr_pair, State.flag_pair]
    exact hcleared

theorem present_rxSeq (s : State) (p : Port) (x : Pres) : (s.present p x).pair.rxSeq = s.pair.rxSeq :=
  (State.present_all s p x rfl (Within.refl offPair 0 s)).rxSeqKept

theorem errorRecovery_rxSeq (s : State) (p : Port) : (s.errorRecovery p).pair.rxSeq = s.pair.rxSeq := by
  have hmode : ((s.openPlanned p).setMode p 0).pair.rxSeq = s.pair.rxSeq :=
    (State.setMode_all _ p 0 rfl (State.openPlanned_all s p rfl (Within.refl offPair 0 s))).rxSeqKept
  unfold State.errorRecovery
  dsimp only
  rw [present_rxSeq, State.wr_pair]
  exact (endAttachment_rxSeq _ p).trans hmode

/-- The port's switch opened and its loop halted, as the safe state begins. -/
theorem safeState_rxSeq (s : State) (p : Port) (n : Nat) : (s.safeState p n).pair.rxSeq = s.pair.rxSeq := by
  have h0 := Within.refl offPair 0 s
  have hgate := State.gateOff_all s p rfl h0
  have hswitch : Within offPair 0 s (if s.switchOn p then (s.gateOff p).dsgOn p else (s.gateOff p).dsgAgain p) := by
    split
    · exact State.dsgOn_all _ p rfl hgate
    · exact State.dsgAgain_all _ p rfl hgate
  unfold State.safeState
  dsimp only
  generalize (if s.switchOn p then (s.gateOff p).dsgOn p else (s.gateOff p).dsgAgain p) = s1 at hswitch ⊢
  have hguard : Within offPair 0 s (if s.tripStands p then s1 else s1.guardTo p gDischarge) := by
    split
    · exact hswitch
    · exact State.guardTo_all _ p _ rfl hswitch
  generalize (if s.tripStands p then s1 else s1.guardTo p gDischarge) = s2 at hguard ⊢
  have hhalt := (State.halt_all s2 p n rfl hguard).rxSeqKept
  exact rxSeq_ite rfl (rxSeq_ite ((errorRecovery_rxSeq _ p).trans hhalt)
    (rxSeq_ite hhalt ((present_rxSeq _ p _).trans hhalt)))

theorem stopPort_rxSeq (s : State) (p : Port) : (s.stopPort p).pair.rxSeq = s.pair.rxSeq :=
  rxSeq_ite rfl (rxSeq_ite rfl (safeState_rxSeq _ p 4))

theorem urgentStop_rxSeq (s : State) (p : Port) (now was : Bool) :
    (s.urgentStop p now was).pair.rxSeq = s.pair.rxSeq := by
  unfold State.urgentStop
  dsimp only
  exact rxSeq_ite (stopPort_rxSeq s p) (rxSeq_ite (rxSeq_ite rfl
    ((State.safeRelease_all _ p rfl (Within.refl offPair 0 _)).rxSeqKept.trans rfl)) rfl)

theorem urgentShed_pair (s : State) (p : Port) (now was : Bool × Nat × Nat × Nat) :
    (s.urgentShed p now was).pair = s.pair := by
  unfold State.urgentShed
  split <;> rfl

theorem applyUrgent_rxSeq (s : State) (m : Word) (l : List (Bool × Nat × Nat × Nat)) :
    (s.applyUrgent m l).pair.rxSeq = s.pair.rxSeq := by
  have hports : ∀ g : State → Port → State, (∀ t p, (g t p).pair.rxSeq = t.pair.rxSeq) →
      (s.forPorts allPorts g).pair.rxSeq = s.pair.rxSeq := fun g hg =>
    foldl_keeps g (fun t : State => t.pair.rxSeq) hg allPorts s
  unfold State.applyUrgent
  dsimp only
  have hfold := hports _ fun t p => (congrArg PairSt.rxSeq (urgentShed_pair (t.urgentStop p (m.getLsbD p)
    (s.pair.heard.1.getLsbD p)) p (l.getD p (s.pair.heard.2.getD p (false, 0, 0, 0)))
    (s.pair.heard.2.getD p (false, 0, 0, 0)))).trans (urgentStop_rxSeq t p _ _)
  exact rxSeq_ite hfold ((selReliable_rxSeq _ _).trans hfold)

/-! ## What a frame does to it -/

theorem rxMarks_rxSeq (s : State) (m : Word) (l : List Nat) : (s.rxMarks m l).pair.rxSeq = s.pair.rxSeq := by
  unfold State.rxMarks
  exact foldl_keeps (fun (t : State) (p : Port) => t.flag GUARD.RETIRE p (m.getLsbD p)) (fun t : State => t.pair.rxSeq)
    (fun t p => congrArg PairSt.rxSeq (State.flag_pair t _ _ _)) allPorts s

/-- No frame's own effect moves the sequence number expected from the partner. -/
theorem rxMirror_rxSeq (s : State) (b : SelBody) (hb : selIsReliable b = true) :
    (s.rxMirror b).pair.rxSeq = s.pair.rxSeq := by
  cases b with
  | cache p e => exact (State.rxCache_within s p e rfl (Within.refl offPair p s)).rxSeqKept
  | record n r => exact (State.rxRecord_within s n r rfl (Within.refl offPair 0 s)).rxSeqKept
  | table p l => exact (State.rxTable_within s p l rfl (Within.refl offPair p s)).rxSeqKept
  | policy t f l => exact rxPolicy_rxSeq s t l
  | marks m l => exact rxMarks_rxSeq s m l
  | handover n f => rfl
  | urgent m l => rfl
  | hello _ => cases hb
  | loop _ _ _ => cases hb
  | state _ => cases hb
  | accum _ => cases hb
  | time _ => cases hb
  | ack _ => cases hb

theorem rxBody_rxSeq (s : State) (b : SelBody) (hb : selIsReliable b = true) :
    (s.rxBody b).pair.rxSeq = s.pair.rxSeq := by
  unfold State.rxBody
  split
  · exact applyUrgent_rxSeq s _ _
  · exact rxSeq_ite rfl (rxMirror_rxSeq s _ hb)

end Sys2Proof.Machine
end

section
/-! PROOFS. Pair operation: the Selvedge link and the mirror (R464 to R472): O42. -/
set_option linter.all false

namespace Sys2Proof.Machine

/-! ## The link's registers and the mirror flag -/

/-- The registers that a change of MIRROR_OK writes. -/
def mirrorFields : List Field := [PAIR.MIRROR_OK, LEDGER.MIRROR, IRQ_STAT PAIR.page]

/-- The areas of the messages that the end of the mirror lets go (R469). -/
abbrev pumpAreas : Nat := 0x100E80000000000000000000

theorem pumps_within (s : State) : Within pumpAreas 0 s (s.forPorts allPorts State.pump) :=
  State.forPorts_within s allPorts State.pump (fun t p h => State.pump_all t p rfl h) (Within.refl _ _ _)

theorem setMirror_leaves (s : State) (v : Bool) : Leaves mirrorFields pumpAreas s (s.setMirror v) := by
  have hflags := ((Leaves.refl mirrorFields pumpAreas s).flag PAIR.MIRROR_OK 0 v (by decide)).flag LEDGER.MIRROR 0 v (by decide)
  unfold State.setMirror
  dsimp only
  exact Leaves.ite ((hflags.irq _ _ _ (by decide)).within (pumps_within _)) hflags

theorem setMirror_pair (s : State) (v : Bool) : (s.setMirror v).pair = s.pair :=
  (State.setMirror_within s v rfl (Within.refl offPair 0 s)).pairKept

theorem sendLoop_rd (s : State) (g : Fin 4) (b : Bool) (F : Field) (i : Nat) : (s.sendLoop g b).rd F i = s.rd F i := by
  unfold State.sendLoop State.selPeriodic
  split <;> rfl

theorem selPeriodic_rd (s : State) (b : SelBody) (F : Field) (i : Nat) : (s.selPeriodic b).rd F i = s.rd F i := by
  unfold State.selPeriodic
  split <;> rfl

/-- A group's frame of a full mirror. -/
def State.groupSent (now : Nat) (s : State) (g : Fin 4) : State :=
  (s.sendLoop g false).pr fun x => { x with groupAt := x.groupAt.set g (some now) g.isLt }

theorem groupSent_rd (now : Nat) (s : State) (g : Fin 4) (F : Field) (i : Nat) : (s.groupSent now g).rd F i = s.rd F i :=
  sendLoop_rd s g false F i

/-- A port's frames of a full mirror. -/
def State.portSent (s : State) (p : Port) : State :=
  (s.sendCache p).selReliable (.table p (s.port p).loop.table)

theorem portSent_rd (s : State) (p : Port) (F : Field) (i : Nat) : (s.portSent p).rd F i = s.rd F i :=
  (selReliable_rd _ _ F i).trans (sendCache_rd s p F i)

theorem fullMirror_eq (s : State) : s.fullMirror = (([0, 1, 2, 3].foldl (State.groupSent s.up)
    (allPorts.foldl State.portSent s)).selPeriodic (.state (allPorts.foldl State.portSent s).stateImg)).setMirror true := rfl

/-- A full mirror shows in MIRROR_OK alone. -/
theorem fullMirror_leaves (s : State) : Leaves mirrorFields pumpAreas s s.fullMirror := by
  rw [fullMirror_eq]
  refine Leaves.trans (fun F i _ _ => ?_) (setMirror_leaves _ true)
  have hports : (allPorts.foldl State.portSent s).rd F i = s.rd F i :=
    foldl_keeps State.portSent (fun t : State => t.rd F i) (fun t p => portSent_rd t p F i) allPorts s
  have hgroups := foldl_keeps (State.groupSent s.up) (fun t : State => t.rd F i) (fun t g => groupSent_rd s.up t g F i)
    [0, 1, 2, 3] (allPorts.foldl State.portSent s)
  exact (selPeriodic_rd _ _ F i).trans (hgroups.trans hports)

theorem linkUp_of_rd {s t : State} (h : t.rd PAIR.LINK_STATE 0 = s.rd PAIR.LINK_STATE 0) : t.linkUp = s.linkUp := by
  unfold State.linkUp
  rw [h]

/-! ## Training (R465) -/

/-- The link is UP, with its event. -/
def State.trained (s : State) : State := (s.selState lkUp).selEvent

theorem trained_linkUp (s : State) : s.trained.linkUp = true := by
  have hup : (s.selState lkUp).linkUp = true := by
    unfold State.linkUp State.selState
    rw [rd_wr_self]
    rfl
  exact (linkUp_of_rd (sysEvent_rd _ _ _ _ _ _ (by decide) _ _ (by decide))).trans hup

theorem execSelvedgeTraining_signal {s : State} (hmay : s.selMay = true) (h : s.rd PAIR.LINK_STATE 0 = lkDown) :
    exec (.selvedgeTraining .signal) s = .next ((s.fresh.2.selState lkAlign).pr fun x => { x with
      nonce := (Config.nonce s.freeCount).toList.take 16, theirs := [], hellos := 0, proved := false, seq := 0, rxSeq := 0,
      unacked := [] }) := by
  show execSelvedgeTraining .signal s = _
  unfold execSelvedgeTraining
  dsimp only
  rw [hmay, if_neg (by decide), if_pos h]

theorem execSelvedgeTraining_aligned {s : State} (hmay : s.selMay = true) (h : s.rd PAIR.LINK_STATE 0 = lkAlign) :
    exec (.selvedgeTraining .aligned) s = .next (s.selState lkTrain).sendHello := by
  show execSelvedgeTraining .aligned s = _
  unfold execSelvedgeTraining
  dsimp only
  rw [hmay, if_neg (by decide), if_pos h]

theorem execSelvedgeTraining_trained {s : State} (hmay : s.selMay = true) (h : s.rd PAIR.LINK_STATE 0 = lkTrain)
    (hp : s.pair.proved = true) (hn : 16 ≤ s.pair.hellos) : exec (.selvedgeTraining .trained) s =
      .next (if s.trained.pairOwner then s.trained.fullMirror else s.trained) := by
  show execSelvedgeTraining .trained s = _
  unfold execSelvedgeTraining
  dsimp only
  rw [hmay, if_neg (by decide), if_pos ⟨h, hp, hn⟩]
  rfl

theorem execSelvedgeTraining_not (e : LinkEvent) {s : State} (h : s.selMay = false) :
    exec (.selvedgeTraining e) s = .next s := congrArg Host.Outcome.next (if_pos (by rw [h]; rfl))

/-- The state that an event of training needs. -/
def trainingFrom : LinkEvent → Nat
  | .signal => lkDown
  | .aligned => lkAlign
  | .trained => lkTrain

theorem execSelvedgeTraining_elsewhere (e : LinkEvent) {s : State} (h : s.rd PAIR.LINK_STATE 0 ≠ trainingFrom e) :
    exec (.selvedgeTraining e) s = .next s := by
  refine congrArg Host.Outcome.next ?_
  dsimp only
  split
  · rfl
  · cases e with
    | signal => exact if_neg h
    | aligned => exact if_neg h
    | trained => exact if_neg fun hc => h hc.1

theorem execSelvedgeTraining_unproved {s : State} (h : s.pair.proved = false ∨ s.pair.hellos < 16) :
    exec (.selvedgeTraining .trained) s = .next s := by
  refine congrArg Host.Outcome.next ?_
  dsimp only
  split
  · rfl
  · refine if_neg ?_
    rintro ⟨-, hp, hn⟩
    rcases h with h | h
    · rw [h] at hp
      cases hp
    · omega

/-! ## Frames (R463, R466) -/

theorem listens_of_linkUp {s : State} (h : s.linkUp = true) : ¬(s.rd PAIR.LINK_STATE 0 ≠ lkTrain ∧ s.linkUp = false) := by
  rw [h]
  exact fun hc => Bool.noConfusion hc.2

theorem frame_bad {s : State} (q : Word) (b : SelBody) (h : s.rd PAIR.LINK_STATE 0 = lkTrain ∨ s.linkUp = true) :
    exec (.selvedgeFrame false q b) s = .next (s.bump PAIR.CRC_ERR_CNT 0) := by
  refine congrArg Host.Outcome.next ((if_neg ?_).trans (if_pos rfl))
  rintro ⟨ht, hu⟩
  rcases h with h | h
  · exact ht h
  · rw [h] at hu
    cases hu

theorem frame_unheard (g : Bool) (q : Word) (b : SelBody) {s : State} (ht : s.rd PAIR.LINK_STATE 0 ≠ lkTrain)
    (hu : s.linkUp = false) : exec (.selvedgeFrame g q b) s = .next s :=
  congrArg Host.Outcome.next (if_pos ⟨ht, hu⟩)

theorem frame_hello {s : State} (q : Word) (h : Hello) (ht : s.rd PAIR.LINK_STATE 0 = lkTrain) :
    exec (.selvedgeFrame true q (.hello h)) s = .next (s.rxHello h) :=
  congrArg Host.Outcome.next ((if_neg (fun hc => hc.1 ht)).trans (if_neg Bool.false_ne_true))

theorem frame_ack {s : State} (q : Word) (n : Nat) (hu : s.linkUp = true) :
    exec (.selvedgeFrame true q (.ack n)) s = .next (s.rxAck n) :=
  congrArg Host.Outcome.next ((if_neg (listens_of_linkUp hu)).trans ((if_neg Bool.false_ne_true).trans (if_pos hu)))

/-- A frame that neither begins the link nor acknowledges. -/
def frameCarries : SelBody → Bool
  | .hello _ | .ack _ => false
  | _ => true

theorem frame_carried {s : State} (q : Word) {b : SelBody} (hb : frameCarries b = true) (hu : s.linkUp = true) :
    exec (.selvedgeFrame true q b) s =
      .next (if selIsReliable b then s.rxReliable q.toNat b else s.rxBody b) := by
  refine congrArg Host.Outcome.next ((if_neg (listens_of_linkUp hu)).trans ((if_neg Bool.false_ne_true).trans ?_))
  cases b with
  | hello _ => cases hb
  | ack _ => cases hb
  | _ => exact if_neg (by rw [hu]; decide)

theorem frame_periodic {s : State} (q : Word) {b : SelBody} (hb : frameCarries b = true) (hr : selIsReliable b = false)
    (hu : s.linkUp = true) : exec (.selvedgeFrame true q b) s = .next (s.rxBody b) :=
  (frame_carried q hb hu).trans (congrArg Host.Outcome.next (if_neg (by rw [hr]; decide)))

theorem carries_of_reliable {b : SelBody} (h : selIsReliable b = true) : frameCarries b = true := by
  cases b with
  | hello _ => cases h
  | ack _ => cases h
  | _ => rfl

theorem frame_reliable {s : State} (q : Word) {b : SelBody} (hr : selIsReliable b = true) (hu : s.linkUp = true) :
    exec (.selvedgeFrame true q b) s = .next (s.rxReliable q.toNat b) :=
  (frame_carried q (carries_of_reliable hr) hu).trans (congrArg Host.Outcome.next (if_pos hr))

/-- The frame's number is counted, before its effect. -/
def State.frameCounted (s : State) : State := s.pr fun x => { x with rxSeq := (x.rxSeq + 1) % 2 ^ 32 }

/-- The highest number received in order is acknowledged. -/
def State.frameAcked (s : State) : State := s.pr fun x => { x with sent := some (.ack ((x.rxSeq + 2 ^ 32 - 1) % 2 ^ 32)) }

theorem frame_inOrder {s : State} {q : Word} {b : SelBody} (hr : selIsReliable b = true) (hu : s.linkUp = true)
    (hq : q.toNat = s.pair.rxSeq) : exec (.selvedgeFrame true q b) s = .next (s.frameCounted.rxBody b).frameAcked := by
  refine (frame_reliable q hr hu).trans (congrArg Host.Outcome.next ?_)
  unfold State.rxReliable
  rw [if_pos hq]
  rfl

theorem frame_outOfOrder {s : State} {q : Word} {b : SelBody} (hr : selIsReliable b = true) (hu : s.linkUp = true)
    (hq : q.toNat ≠ s.pair.rxSeq) : exec (.selvedgeFrame true q b) s = .next s.frameAcked := by
  refine (frame_reliable q hr hu).trans (congrArg Host.Outcome.next ?_)
  unfold State.rxReliable
  rw [if_neg hq]
  rfl

/-- A type that travels from owner to standby. -/
def frameMirrors : SelBody → Bool
  | .urgent _ _ => false
  | _ => true

theorem rxBody_standby {s : State} {b : SelBody} (hb : frameMirrors b = true) (ho : s.pairOwner = false) :
    s.rxBody b = s.rxMirror b := by
  cases b with
  | urgent _ _ => cases hb
  | _ => exact if_neg (by rw [ho]; decide)

theorem rxBody_owner {s : State} {b : SelBody} (hb : frameMirrors b = true) (ho : s.pairOwner = true) : s.rxBody b = s := by
  cases b with
  | urgent _ _ => cases hb
  | _ => exact if_pos ho

end Sys2Proof.Machine
end

section
/-! PROOFS. What the frames of the mirror leave at the other member (R466 to R472): O42. -/
set_option linter.all false

namespace Sys2Proof.Machine

/-! ## A bit is cleared -/

theorem testBit_sub_two_pow_ne {x n m : Nat} (h : x.testBit n = true) (hm : m ≠ n) :
    (x - 2 ^ n).testBit m = x.testBit m := by
  obtain ⟨y, rfl⟩ := Nat.exists_eq_add_of_le (Nat.ge_two_pow_of_testBit h)
  rw [Nat.testBit_two_pow_add_eq, Bool.not_eq_true'] at h
  rw [Nat.add_sub_cancel_left]
  have hpow : 2 ^ (n + 1) = 2 ^ n * 2 := Nat.pow_succ _ _
  have hlow : y % 2 ^ (n + 1) < 2 ^ n := by
    refine Nat.lt_pow_two_of_testBit _ fun i hi => ?_
    rw [Nat.testBit_mod_two_pow]
    rcases Nat.lt_or_eq_of_le hi with hi | rfl
    · rw [decide_eq_false (by omega)]
      rfl
    · rw [h, Bool.and_false]
  have hfit : 2 ^ n + y % 2 ^ (n + 1) < 2 ^ (n + 1) := by
    generalize y % 2 ^ (n + 1) = r at hlow ⊢
    omega
  have hsum : 2 ^ n + y = 2 ^ (n + 1) * (y / 2 ^ (n + 1)) + (2 ^ n + y % 2 ^ (n + 1)) := by
    have := Nat.div_add_mod y (2 ^ (n + 1))
    omega
  rw [hsum, Nat.testBit_two_pow_mul_add _ hfit]
  conv_lhs => rw [← Nat.div_add_mod y (2 ^ (n + 1)), Nat.testBit_two_pow_mul_add _ (Nat.mod_lt y (Nat.two_pow_pos _))]
  split
  · next hmn => rw [Nat.testBit_two_pow_add_gt (by omega)]
  · rfl

theorem bit_wrBit_clear_of_clear (s : State) (F : Field) (i n m : Nat) (h : s.bit F i m = false) :
    (s.wrBit F i n false).bit F i m = false := by
  by_cases hm : m = n
  · rw [hm]
    exact bit_wrBit_clear s F i n
  · unfold State.bit State.wrBit at *
    rw [rd_wr_self, if_neg Bool.false_ne_true, Nat.testBit_mod_two_pow, Bool.and_eq_false_imp]
    intro _
    split
    · next hset => exact (testBit_sub_two_pow_ne hset hm).trans h
    · exact h

/-! ## HELLO and ACK (R463, R466) -/

theorem rxHello_first {s : State} {h : Hello} (ht : s.rd PAIR.LINK_STATE 0 = lkTrain) (hp : h.proof = []) :
    s.rxHello h = (((s.pr fun x => { x with theirs := h.nonce }).wr PAIR.PARTNER_SN_LO 0 (h.serial % 2 ^ 32)).wr
      PAIR.PARTNER_SN_HI 0 (h.serial / 2 ^ 32)).sendHello := by
  unfold State.rxHello
  dsimp only
  rw [if_neg (fun hc => hc ht), hp]
  rfl

theorem ackedOff_of_length {n : Nat} {l : List (Nat × SelBody)} (h : (ackedOff n l).length = l.length) :
    ackedOff n l = l := by
  unfold ackedOff at h ⊢
  split
  · next hany =>
    rw [if_pos hany, List.length_drop] at h
    have hle := (List.dropWhile_suffix (fun x : Nat × SelBody => x.1 != n) (l := l)).length_le
    have hne : l ≠ [] := by
      rintro rfl
      cases hany
    have := List.length_pos_iff.mpr hne
    omega
  · rfl

theorem rxAck_unacked (s : State) (n : Nat) : (s.rxAck n).pair.unacked = ackedOff n s.pair.unacked := by
  unfold State.rxAck
  dsimp only
  split
  · next h => exact (ackedOff_of_length h).symm
  · exact congrArg PairSt.unacked ((pumps_within _).pair rfl)

/-! ## LOOP (R467, R468) -/

/-- A port's image of a LOOP frame is taken. -/
def State.imageTaken (s : State) (x : Port × LoopImg) : State :=
  ((s.modPort x.1 fun y => { y with img := some x.2 }).followPwm x.1 x.2).wrBit PAIR.STALE 0 x.1 false

/-- A group's images are taken. -/
def State.groupTaken (s : State) (g : Fin 4) (l : List LoopImg) : State :=
  (((groupPorts g).zip l).foldl State.imageTaken s).pr fun x => { x with groupAt := x.groupAt.set g (some s.up) g.isLt }

theorem rxLoop_eq (s : State) (g : Fin 4) (l : List LoopImg) :
    s.rxLoop g l = (s.groupTaken g l).setMirror (s.groupTaken g l).groupsFresh := rfl

theorem imageTaken_bit (s : State) (x : Port × LoopImg) (p : Port) (h : s.bit PAIR.STALE 0 p = false ∨ x.1 = p) :
    (s.imageTaken x).bit PAIR.STALE 0 p = false := by
  have hstay : ((s.modPort x.1 fun y => { y with img := some x.2 }).followPwm x.1 x.2).bit PAIR.STALE 0 p =
      s.bit PAIR.STALE 0 p := by
    unfold State.bit
    rw [(State.followPwm_all (mm := 0x102000010000000000000000) (pp := 0) _ x.1 x.2 rfl (Within.refl _ _ _)).rd PAIR.STALE 0
      (by decide)]
    rfl
  unfold State.imageTaken
  rcases h with h | h
  · exact bit_wrBit_clear_of_clear _ _ _ _ _ (hstay.trans h)
  · rw [← h]
    exact bit_wrBit_clear _ _ _ _

theorem imagesTaken_bit (l : List (Port × LoopImg)) (s : State) (p : Port)
    (h : s.bit PAIR.STALE 0 p = false ∨ l.any (fun x => x.1 == p) = true) :
    (l.foldl State.imageTaken s).bit PAIR.STALE 0 p = false := by
  induction l generalizing s with
  | nil => exact h.resolve_right (by simp)
  | cons x l ih =>
    refine ih (s.imageTaken x) ?_
    rcases h with h | h
    · exact .inl (imageTaken_bit s x p (.inl h))
    · rw [List.any_cons, Bool.or_eq_true, beq_iff_eq] at h
      rcases h with h | h
      · exact .inl (imageTaken_bit s x p (.inr h))
      · exact .inr h

theorem rxLoop_bit (s : State) (g : Fin 4) (l : List LoopImg) (p : Port)
    (h : ((groupPorts g).zip l).any (fun x => x.1 == p) = true) : (s.rxLoop g l).bit PAIR.STALE 0 p = false := by
  rw [rxLoop_eq]
  have hmirror := setMirror_leaves (s.groupTaken g l) (s.groupTaken g l).groupsFresh PAIR.STALE 0 (by decide) (by decide)
  unfold State.bit
  rw [hmirror]
  exact imagesTaken_bit _ s p (.inr h)

theorem rxLoop_groupAt (s : State) (g : Fin 4) (l : List LoopImg) : (s.rxLoop g l).pair.groupAt.get g = some s.up := by
  rw [rxLoop_eq, setMirror_pair]
  exact get_set_self _ g _

/-! ## CACHE, STATE and RECORD -/

theorem rxCache_shows (s : State) (p : Port) (e : CacheImg) : ((s.rxCache p e).port p).pe.cache = e ∧
    ((s.rxCache p e).port p).pe.contract = e.contract ∧
    (s.rxCache p e).rd CC.PWR_ROLE p = e.src % 2 ^ CC.PWR_ROLE.width := by
  unfold State.rxCache
  dsimp only
  refine ⟨by rw [port_pe_self], by rw [port_pe_self], ?_⟩
  rw [State.pe_rd, rd_wr _ _ _ _ _ _ (by decide), rd_wr _ _ _ _ _ _ (by decide), rd_flag _ _ _ _ _ _ (by decide),
    rd_flag _ _ _ _ _ _ (by decide), rd_wr _ _ _ _ _ _ (by decide), rd_wr _ _ _ _ _ _ (by decide),
    rd_flag _ _ _ _ _ _ (by decide), rd_wr_self]

theorem rxState_shows (s : State) (x : StateImg) : (s.rxState x).rd FEED.SEL 0 = x.sel % 2 ^ FEED.SEL.width ∧
    (s.rxState x).island.isSome = x.island ∧ (s.rxState x).on BUDGET.HOLD 0 = x.hold := by
  refine ⟨rd_wr_self _ _ _ _, ?_, ?_⟩
  · unfold State.rxState
    cases x.island <;> rfl
  · show ((State.setCap (State.flag _ BUDGET.HOLD 0 x.hold) x.cap).wr FEED.SEL 0 x.sel).on BUDGET.HOLD 0 = _
    rw [on_wr _ _ _ _ _ _ (by decide)]
    unfold State.setCap State.on
    dsimp only
    rw [rd_wrSat _ _ _ _ _ _ (by decide)]
    exact on_flag_self _ _ _ _ (by decide)

theorem lookup_filter_ne {α : Type} (n : Nat) (l : List (Nat × α)) : (l.filter fun x => x.1 != n).lookup n = none := by
  rw [List.lookup_eq_none_iff]
  intro x hx
  have := (List.mem_filter.mp hx).2
  rwa [bne_comm] at this

theorem rxRecord_record (s : State) (n : Nat) (r : Option LedRec) : (s.rxRecord n r).record n = r := by
  unfold State.rxRecord State.record
  cases r with
  | none =>
    dsimp only
    rw [journalDue_recs]
    exact lookup_filter_ne n s.led.recs
  | some r =>
    dsimp only
    show ((State.journalDue _ n).led.recs.lookup n) = _
    rw [journalDue_recs]
    exact lookup_putRec n r s.led.recs

theorem rxMarks_shows (s : State) (m : Word) (l : List Nat) :
    (s.rxMarks m l).retiredMask = m ∧ (s.rxMarks m l).pair.failed = l := ⟨rfl, rfl⟩

/-! ## URGENT (R472) -/

theorem setStop_clear_stopped (s : State) (p q : Port) :
    (s.setStop p false).stopped q = (s.stopped q && !decide (q = p)) := by
  show (s.stop &&& ~~~(BitVec.ofNat 32 (2 ^ p.val))).getLsbD q.val = _
  rw [BitVec.getLsbD_and, BitVec.getLsbD_not, BitVec.getLsbD_ofNat, Nat.testBit_two_pow, decide_eq_true q.isLt,
    Bool.true_and, Bool.true_and]
  unfold State.stopped
  have hswap : decide (p.val = q.val) = decide (q = p) := decide_eq_decide.mpr ⟨fun h => Fin.ext h.symm, fun h => h ▸ rfl⟩
  rw [hswap]

/-- What a port's stop bit becomes: the partner's, and the member's own unless the partner has released it. -/
def unionBit (now was own : Bool) : Bool := now || (own && !was)

theorem urgentStop_of_standby {s : State} (p : Port) (now was : Bool) (h : s.standby = true) :
    s.urgentStop p now was =
      if now then (if s.stopped p then s else s.setStop p true) else if was && s.stopped p then s.setStop p false else s := by
  unfold State.urgentStop State.stopPort
  dsimp only
  rw [if_pos h, if_pos h]

theorem urgentStop_standby {s : State} (p : Port) (now was : Bool) (h : s.standby = true) :
    (s.urgentStop p now was).standby = true := by
  rw [urgentStop_of_standby p now was h]
  split
  · split
    · exact h
    · exact h
  · split
    · exact h
    · exact h

theorem urgentStop_stopped {s : State} (p q : Port) (now was : Bool) (h : s.standby = true) :
    (s.urgentStop p now was).stopped q = if q = p then unionBit now was (s.stopped q) else s.stopped q := by
  rw [urgentStop_of_standby p now was h]
  unfold unionBit
  by_cases hq : q = p
  · subst hq
    rw [if_pos rfl]
    cases now with
    | true =>
      cases hs : s.stopped q with
      | true => exact hs
      | false => exact (setStop_stopped s q q).trans (by simp)
    | false =>
      cases hs : s.stopped q with
      | true =>
        cases was with
        | true => exact (setStop_clear_stopped s q q).trans (by simp)
        | false => exact hs
      | false => rw [Bool.and_false]; exact hs
  · rw [if_neg hq]
    split
    · split
      · rfl
      · rw [setStop_stopped, decide_eq_false hq, Bool.or_false]
    · split
      · rw [setStop_clear_stopped, decide_eq_false hq, Bool.not_false, Bool.and_true]
      · rfl

theorem urgentShed_stopped (s : State) (p q : Port) (now was : Bool × Nat × Nat × Nat) :
    (s.urgentShed p now was).stopped q = s.stopped q := by
  unfold State.urgentShed
  split <;> rfl

theorem urgentShed_standby (s : State) (p : Port) (now was : Bool × Nat × Nat × Nat) :
    (s.urgentShed p now was).standby = s.standby := by
  unfold State.urgentShed State.standby
  split
  · rfl
  · rw [rd_wr _ _ _ _ _ _ (by decide), rd_wr _ _ _ _ _ _ (by decide), rd_wr _ _ _ _ _ _ (by decide),
      rd_flag _ _ _ _ _ _ (by decide)]

/-- A port takes the stop bit and the shed of the partner's frame; `was` is what the partner last sent. -/
def State.urgentPort (m : Word) (l : List (Bool × Nat × Nat × Nat)) (was : Word × List (Bool × Nat × Nat × Nat))
    (s : State) (p : Port) : State :=
  (s.urgentStop p (m.getLsbD p) (was.1.getLsbD p)).urgentShed p (l.getD p (was.2.getD p (false, 0, 0, 0)))
    (was.2.getD p (false, 0, 0, 0))

theorem urgentPorts_stopped (m : Word) (l : List (Bool × Nat × Nat × Nat)) (was : Word × List (Bool × Nat × Nat × Nat))
    (ps : List Port) (s : State) (q : Port) (h : s.standby = true) :
    (ps.foldl (State.urgentPort m l was) s).stopped q =
      if q ∈ ps then unionBit (m.getLsbD q) (was.1.getLsbD q) (s.stopped q) else s.stopped q := by
  induction ps generalizing s with
  | nil => rfl
  | cons p ps ih =>
    have hstandby : (s.urgentPort m l was p).standby = true :=
      (urgentShed_standby _ _ _ _).trans (urgentStop_standby p _ _ h)
    have hport : (s.urgentPort m l was p).stopped q =
        if q = p then unionBit (m.getLsbD p) (was.1.getLsbD p) (s.stopped q) else s.stopped q :=
      (urgentShed_stopped _ _ _ _ _).trans (urgentStop_stopped p q _ _ h)
    rw [List.foldl_cons, ih _ hstandby, hport]
    by_cases hq : q = p
    · subst hq
      unfold unionBit
      rw [if_pos rfl, if_pos List.mem_cons_self]
      split
      · cases m.getLsbD q <;> cases was.1.getLsbD q <;> cases s.stopped q <;> rfl
      · rfl
    · simp [hq]

/-- The ports have taken the frame, and it is what the partner last sent. -/
def State.urgentTaken (s : State) (m : Word) (l : List (Bool × Nat × Nat × Nat)) : State :=
  (allPorts.foldl (State.urgentPort m l s.pair.heard) s).pr fun x => { x with heard := (m, l) }

theorem applyUrgent_eq (s : State) (m : Word) (l : List (Bool × Nat × Nat × Nat)) : s.applyUrgent m l =
    if (s.urgentTaken m l).urgentImg = s.urgentImg then s.urgentTaken m l
    else (s.urgentTaken m l).selReliable (s.urgentTaken m l).urgentImg := rfl

theorem selReliable_stopped (s : State) (b : SelBody) (p : Port) : (s.selReliable b).stopped p = s.stopped p := by
  unfold State.selReliable
  split <;> rfl

theorem selReliable_heard (s : State) (b : SelBody) : (s.selReliable b).pair.heard = s.pair.heard := by
  unfold State.selReliable
  split <;> rfl

theorem applyUrgent_stopped {s : State} (m : Word) (l : List (Bool × Nat × Nat × Nat)) (p : Port) (h : s.standby = true) :
    (s.applyUrgent m l).stopped p = (m.getLsbD p || (s.stopped p && !s.pair.heard.1.getLsbD p)) := by
  have htaken : (s.urgentTaken m l).stopped p = unionBit (m.getLsbD p) (s.pair.heard.1.getLsbD p) (s.stopped p) :=
    (urgentPorts_stopped m l s.pair.heard allPorts s p h).trans (if_pos (List.mem_finRange p))
  rw [applyUrgent_eq]
  split
  · exact htaken
  · exact (selReliable_stopped _ _ p).trans htaken

theorem applyUrgent_heard (s : State) (m : Word) (l : List (Bool × Nat × Nat × Nat)) :
    (s.applyUrgent m l).pair.heard = (m, l) := by
  rw [applyUrgent_eq]
  split
  · rfl
  · exact selReliable_heard _ _

/-! ## Retransmission (R466) -/

theorem handoverEnds_leaves (s : State) (st : Nat) :
    Leaves [PAIR.PAIR_STATE] 0xC001000000500E80000000000038140000 s (s.handoverEnds st) := by
  unfold State.handoverEnds
  split
  · next h _ =>
    have hstate : Leaves [PAIR.PAIR_STATE] 0xC001000000500E80000000000038140000 s
        ((s.pr fun x => { x with handover := none }).pairState psOwner) := (Leaves.refl _ _ _).wr _ _ _ (by decide)
    have hanswer := hstate.within (State.answer_within (pp := 0) _ h.pkt st rfl (Within.refl _ _ _))
    exact hanswer.within (State.forPorts_within _ allPorts State.pump (fun t p hp => State.pump_all t p rfl hp) (Within.refl _ 0 _))
  · exact Leaves.refl _ _ _

theorem handoverEnds_unacked (s : State) (st : Nat) : (s.handoverEnds st).pair.unacked = s.pair.unacked := by
  unfold State.handoverEnds
  split
  · next h _ =>
    refine (congrArg PairSt.unacked ((pumps_within _).pair rfl)).trans ?_
    have hanswer : ∀ t : State, (t.answer h.pkt st).pair = t.pair := fun t =>
      (State.answer_within t h.pkt st rfl (Within.refl offPair 0 t)).pairKept
    rw [hanswer]
    rfl
  · rfl

/-- A lost link has nothing outstanding. -/
def State.linkLostPair (s : State) : State :=
  (s.selState lkDown).pr fun x => { x with
    unacked := [], resends := 0, hellos := 0, proved := false, coming := none, heard := (0, []) }

/-- The mirror and a hand-over end with the link. -/
def State.linkEnded (s : State) : State := (s.linkLostPair.setMirror false).handoverEnds stABORTED

theorem selDown_up {s : State} (h : s.linkUp = true) :
    s.selDown = ((s.linkEnded.selEvent).bump PAIR.LINK_DOWN_CNT 0).irq PAIR.page 0 PAIR.IRQ_LINK_DOWN := by
  have hne : s.rd PAIR.LINK_STATE 0 ≠ lkDown := by
    unfold State.linkUp at h
    rw [beq_iff_eq] at h
    rw [h]
    decide
  unfold State.selDown
  dsimp only
  rw [if_neg hne, if_pos h]
  rfl

theorem linkLostPair_state (s : State) : s.linkLostPair.rd PAIR.LINK_STATE 0 = lkDown :=
  rd_wr_self s PAIR.LINK_STATE 0 lkDown

theorem linkLostPair_retx (s : State) : s.linkLostPair.rd PAIR.RETX_CNT 0 = s.rd PAIR.RETX_CNT 0 :=
  rd_wr s PAIR.RETX_CNT PAIR.LINK_STATE 0 0 lkDown (by decide)

theorem linkEnded_leaves (s : State) :
    Leaves (PAIR.PAIR_STATE :: mirrorFields) 0xC001000000500E80000000000038140000 s.linkLostPair s.linkEnded := by
  have hmirror := ((setMirror_leaves s.linkLostPair false).widen (m := 0xC001000000500E80000000000038140000) rfl).mono
    (List.subset_cons_self PAIR.PAIR_STATE mirrorFields)
  refine hmirror.trans ((handoverEnds_leaves _ stABORTED).mono ?_)
  decide

theorem selDown_shows {s : State} (h : s.linkUp = true) : s.selDown.rd PAIR.LINK_STATE 0 = lkDown ∧
    s.selDown.pair.unacked = [] ∧ s.selDown.rd PAIR.RETX_CNT 0 = s.rd PAIR.RETX_CNT 0 := by
  have hevent : ∀ F : Field, maskSkips sysEventAreas F = true → s.linkEnded.selEvent.rd F 0 = s.linkEnded.rd F 0 :=
    fun F hF => sysEvent_rd _ _ _ _ _ _ (by decide) F 0 hF
  have hend := linkEnded_leaves s
  rw [selDown_up h]
  refine ⟨?_, ?_, ?_⟩
  · rw [rd_irq _ _ _ _ _ _ (by decide), rd_bump _ _ _ _ _ (by decide), hevent _ (by decide), hend _ 0 (by decide) (by decide)]
    exact linkLostPair_state s
  · rw [State.irq_pair, State.bump_pair]
    have hpair : s.linkEnded.selEvent.pair = s.linkEnded.pair :=
      (State.selEvent_within _ rfl (Within.refl offPair 0 _)).pairKept
    rw [hpair]
    refine (handoverEnds_unacked _ stABORTED).trans ?_
    rw [setMirror_pair]
    rfl
  · rw [rd_irq _ _ _ _ _ _ (by decide), rd_bump _ _ _ _ _ (by decide), hevent _ (by decide), hend _ 0 (by decide) (by decide)]
    exact linkLostPair_retx s

/-- An outstanding frame is sent again. -/
def State.resent (s : State) : State := (s.bump PAIR.RETX_CNT 0).pr fun x => { x with resends := x.resends + 1 }

theorem resent_linkUp (s : State) : s.resent.linkUp = s.linkUp := linkUp_of_rd (rd_bump _ _ _ _ _ (by decide))

theorem resent_retx (s : State) : s.resent.rd PAIR.RETX_CNT 0 = min (s.rd PAIR.RETX_CNT 0 + 1) (2 ^ 32 - 1) :=
  rd_bump_self s _ _

theorem execSelvedgeRetransmit_outstanding {s : State} (hu : s.linkUp = true) (hl : s.pair.unacked ≠ []) :
    exec .selvedgeRetransmit s = .next (if 8 ≤ s.pair.resends + 1 then s.resent.selDown else s.resent) := by
  refine congrArg Host.Outcome.next (if_neg ?_)
  rw [hu, Bool.not_true, Bool.false_or, List.isEmpty_iff]
  exact hl

/-! ## LOOP_FRAME_SEND and MIRROR_LOST (R469, R470) -/

theorem setMirror_false_shows {s : State} (h : s.on PAIR.MIRROR_OK 0 = true) :
    (s.setMirror false).on PAIR.MIRROR_OK 0 = false ∧ (s.setMirror false).on LEDGER.MIRROR 0 = false ∧
    (s.setMirror false).bit (IRQ_STAT PAIR.page) 0 PAIR.IRQ_MIRROR_LOST = true := by
  have heq : s.setMirror false = (((s.flag PAIR.MIRROR_OK 0 false).flag LEDGER.MIRROR 0 false).irq PAIR.page 0
      PAIR.IRQ_MIRROR_LOST).forPorts allPorts State.pump := if_pos (by rw [h]; rfl)
  have hpump := pumps_within (((s.flag PAIR.MIRROR_OK 0 false).flag LEDGER.MIRROR 0 false).irq PAIR.page 0
    PAIR.IRQ_MIRROR_LOST)
  rw [heq]
  refine ⟨?_, ?_, ?_⟩
  · rw [hpump.on _ _ (by decide), on_irq _ _ _ _ _ _ (by decide), on_flag _ _ _ _ _ _ (by decide),
      on_flag_self _ _ _ _ (by decide)]
  · rw [hpump.on _ _ (by decide), on_irq _ _ _ _ _ _ (by decide), on_flag_self _ _ _ _ (by decide)]
  · unfold State.bit
    rw [hpump.rd _ _ (by decide)]
    exact bit_irq_self _ _ _ _ (by decide)

/-- The group's frame of this interval. -/
theorem execLoopFrameSend_owner (g : Fin 4) {s : State} (ho : s.pairOwner = true) (hu : s.linkUp = true) :
    exec (.loopFrameSend g) s = .next ((s.groupSent s.up g).setMirror (s.groupSent s.up g).groupsFresh) := by
  refine congrArg Host.Outcome.next (if_pos ?_)
  rw [ho, hu]
  rfl

end Sys2Proof.Machine
end

section
/-! PROOFS. The Selvedge link and the mirror, assembled: O42. -/
set_option linter.all false

namespace Sys2Proof.Machine

/-- Settles O42: training by its events, and every frame by its type and its order. -/
theorem pairLinkMirrors : Obligations.PairLinkMirrors := by
  unfold Obligations.PairLinkMirrors
  refine ⟨?signal, ?aligned, ?trained, ?mayNot, ?elsewhere, ?unproved, ?badCrc, ?hello, ?ack, ?loopStamp, ?loopStale,
    ?cache, ?state, ?record, ?accum, ?marks, ?inOrder, ?outOfOrder, ?ownerState, ?ownerAccum, ?ownerLoop, ?handover, ?time,
    ?urgentFrame, ?unheard, ?urgent, ?urgentHeard, ?urgentDown, ?resent, ?eighth, ?noneOutstanding, ?loopSend, ?noLoopSend,
    ?mirrorLost, ?noMirror, ?stale, ?notStandby⟩
  case signal =>
    intro s hmay h
    exact ⟨_, execSelvedgeTraining_signal hmay h, rd_wr_self s.fresh.2 PAIR.LINK_STATE 0 lkAlign, rfl, rfl, rfl⟩
  case aligned =>
    intro s hmay h
    exact ⟨_, execSelvedgeTraining_aligned hmay h, rd_wr_self s PAIR.LINK_STATE 0 lkTrain⟩
  case trained =>
    intro s hmay h hp hn
    refine ⟨_, execSelvedgeTraining_trained hmay h hp hn, ?_⟩
    split
    · exact (linkUp_of_rd (fullMirror_leaves s.trained _ 0 (by decide) (by decide))).trans (trained_linkUp s)
    · exact trained_linkUp s
  case mayNot => exact fun e s h => execSelvedgeTraining_not e h
  case elsewhere =>
    intro e s h
    refine execSelvedgeTraining_elsewhere e fun hc => h ?_
    rw [hc]
    cases e <;> rfl
  case unproved => exact fun s h => execSelvedgeTraining_unproved h
  case badCrc =>
    intro q b s h
    exact ⟨_, frame_bad q b h, rd_bump_self s _ _, rfl⟩
  case hello =>
    intro q h s ht hp
    refine ⟨_, (frame_hello q h ht).trans (congrArg Host.Outcome.next (rxHello_first ht hp)), rfl, ?_, ?_, rfl⟩
    · exact (rd_wr _ _ _ _ _ _ (by decide)).trans ((rd_wr_self _ _ _ _).trans (Nat.mod_mod _ _))
    · exact rd_wr_self _ _ _ _
  case ack =>
    intro n q s hu
    exact ⟨_, frame_ack q n hu, rxAck_unacked s n⟩
  case loopStamp =>
    intro g l q s hu ho
    exact ⟨_, (frame_periodic q rfl rfl hu).trans (congrArg Host.Outcome.next (rxBody_standby rfl ho)),
      rxLoop_groupAt s g l⟩
  case loopStale =>
    intro g l p q s hu ho hp
    exact ⟨_, (frame_periodic q rfl rfl hu).trans (congrArg Host.Outcome.next (rxBody_standby rfl ho)),
      rxLoop_bit s g l p hp⟩
  case cache =>
    intro p e q s hu ho hq
    have hstep := frame_inOrder (b := .cache p e) rfl hu hq
    rw [rxBody_standby (s := s.frameCounted) rfl ho] at hstep
    exact ⟨_, hstep, rxCache_shows s.frameCounted p e⟩
  case state =>
    intro x q s hu ho
    exact ⟨_, (frame_periodic q rfl rfl hu).trans (congrArg Host.Outcome.next (rxBody_standby rfl ho)), rxState_shows s x⟩
  case record =>
    intro n r q s hu ho hq
    have hstep := frame_inOrder (b := .record n r) rfl hu hq
    rw [rxBody_standby (s := s.frameCounted) rfl ho] at hstep
    exact ⟨_, hstep, rxRecord_record s.frameCounted n r⟩
  case accum =>
    intro l q s hu ho
    exact ⟨_, (frame_periodic q rfl rfl hu).trans (congrArg Host.Outcome.next (rxBody_standby rfl ho)), rfl⟩
  case marks =>
    intro m l q s hu ho hq
    have hstep := frame_inOrder (b := .marks m l) rfl hu hq
    rw [rxBody_standby (s := s.frameCounted) rfl ho] at hstep
    exact ⟨_, hstep, rxMarks_shows s.frameCounted m l⟩
  case inOrder =>
    intro b q s hu hq hb
    exact ⟨_, frame_inOrder hb hu hq, rxBody_rxSeq s.frameCounted b hb, rfl⟩
  case outOfOrder =>
    intro b q s hu hq hb
    exact ⟨_, frame_outOfOrder hb hu hq, rfl, rfl, rfl⟩
  case ownerState =>
    intro x q s hu ho
    exact (frame_periodic q rfl rfl hu).trans (congrArg Host.Outcome.next (rxBody_owner rfl ho))
  case ownerAccum =>
    intro l q s hu ho
    exact (frame_periodic q rfl rfl hu).trans (congrArg Host.Outcome.next (rxBody_owner rfl ho))
  case ownerLoop =>
    intro g b l q s hu ho
    exact (frame_periodic q rfl rfl hu).trans (congrArg Host.Outcome.next (rxBody_owner rfl ho))
  case handover =>
    intro n b q s hu ho hq
    have hstep := frame_inOrder (b := .handover n b) rfl hu hq
    rw [rxBody_standby (s := s.frameCounted) rfl ho] at hstep
    exact ⟨_, hstep, rfl⟩
  case time =>
    intro n q s hu ho
    exact ⟨_, (frame_periodic q rfl rfl hu).trans (congrArg Host.Outcome.next (rxBody_standby rfl ho)), rfl⟩
  case urgentFrame =>
    intro m l q s hu hs hq
    exact ⟨_, frame_inOrder (b := .urgent m l) rfl hu hq, fun p => applyUrgent_stopped (s := s.frameCounted) m l p hs⟩
  case unheard => exact fun g q b s ht hu => frame_unheard g q b ht hu
  case urgent =>
    intro m l s hu hs
    exact ⟨_, congrArg Host.Outcome.next (if_pos hu), fun p => applyUrgent_stopped m l p hs⟩
  case urgentHeard =>
    intro m l s hu
    exact ⟨_, congrArg Host.Outcome.next (if_pos hu), applyUrgent_heard s m l⟩
  case urgentDown =>
    intro m l s hu
    exact congrArg Host.Outcome.next (if_neg (by rw [hu]; decide))
  case resent =>
    intro s hu hl hn
    exact ⟨_, (execSelvedgeRetransmit_outstanding hu hl).trans (congrArg Host.Outcome.next (if_neg (by omega))), rfl,
      resent_retx s⟩
  case eighth =>
    intro s hu hl hn
    obtain ⟨hstate, hunacked, hretx⟩ := selDown_shows ((resent_linkUp s).trans hu)
    exact ⟨_, (execSelvedgeRetransmit_outstanding hu hl).trans (congrArg Host.Outcome.next (if_pos (by omega))), hstate,
      hunacked, hretx.trans (resent_retx s)⟩
  case noneOutstanding =>
    intro s h
    refine congrArg Host.Outcome.next (if_pos ?_)
    rcases h with h | h
    · rw [h]
      rfl
    · rw [h]
      exact Bool.or_true _
  case loopSend =>
    intro g s ho hu
    refine ⟨_, execLoopFrameSend_owner g ho hu, ?_⟩
    rw [setMirror_pair]
    exact get_set_self _ g _
  case noLoopSend =>
    intro g s h
    refine congrArg Host.Outcome.next (if_neg ?_)
    rcases h with h | h
    · rw [h, Bool.false_and]
      decide
    · rw [h, Bool.and_false]
      decide
  case mirrorLost =>
    intro s h
    exact ⟨_, congrArg Host.Outcome.next (if_pos h), setMirror_false_shows h⟩
  case noMirror =>
    intro s h
    exact congrArg Host.Outcome.next (if_neg (by rw [h]; decide))
  case stale =>
    intro p s h
    exact ⟨_, congrArg Host.Outcome.next (if_pos h), bit_wrBit_self _ _ _ _ p.isLt⟩
  case notStandby =>
    intro p s h
    exact congrArg Host.Outcome.next (if_neg (by rw [h]; decide))

end Sys2Proof.Machine
end

section
/-! PROOFS. The one-time-programmable memory (R511 to R523): O35 and O36. -/
set_option linter.all false

namespace Sys2Proof.Machine

/-! ## A locked region (R514) -/

theorem progRefused_otp (s : State) (k : Packet) (w st : Nat) : (s.progRefused k w st).otp = s.otp :=
  (answer_footprint _ k st).otp rfl

theorem progRefused_refused (s : State) (k : Packet) (w st : Nat) :
    (s.progRefused k w st).rd OTP.REFUSED_CNT 0 = min (s.rd OTP.REFUSED_CNT 0 + 1) (2 ^ 32 - 1) := by
  refine ((answer_footprint _ k st).rd OTP.REFUSED_CNT 0 (by decide)).trans ?_
  unfold State.progStat
  rw [rd_irq _ _ _ _ _ _ (by decide), rd_bump_self, rd_wr _ _ _ _ _ _ (by decide), rd_wr _ _ _ _ _ _ (by decide)]
  rfl

theorem progRefused_status (s : State) (k : Packet) (w st : Nat) :
    (s.progRefused k w st).rd OTP.LAST_STATUS 0 = st % 2 ^ OTP.LAST_STATUS.width := by
  refine ((answer_footprint _ k st).rd OTP.LAST_STATUS 0 (by decide)).trans ?_
  unfold State.progStat
  rw [rd_irq _ _ _ _ _ _ (by decide), rd_bump _ _ _ _ _ (by decide), rd_wr_self]

/-- A word that may be named is no counter. -/
theorem not_counter_of_nameable {w : Nat} (h : otpNameable w = true) : w < 512 := by
  unfold otpNameable at h
  simp only [Bool.and_eq_true, decide_eq_true_eq] at h
  exact h.1.1.1.2

theorem cmdOtpProgram_word {s : State} {k : Packet} (e : OtpEnv) (hw : otpNameable k.tgt = true) (hl : k.len = 4) :
    s.cmdOtpProgram k e = s.programWord k e := if_pos (by rw [hw, hl]; rfl)

theorem cmdOtpProgram_badLength {s : State} {k : Packet} (e : OtpEnv) (hw : otpNameable k.tgt = true) (hl : k.len ≠ 4) :
    s.cmdOtpProgram k e = s.progRefused k (k.tgt % 512) stBAD_ARG := by
  have hcounter : ¬(0x200 ≤ k.tgt ∧ k.tgt ≤ 0x202 ∧ k.ar ≤ 256) := fun h => by
    have := not_counter_of_nameable hw
    omega
  unfold State.cmdOtpProgram
  rw [beq_eq_false_iff_ne.mpr hl, Bool.and_false, if_neg (by decide), decide_eq_false hcounter, Bool.false_and,
    if_neg (by decide)]

/-- A word of a locked region is refused, by the first check that fails. -/
theorem programWord_locked {s : State} {k : Packet} (e : OtpEnv) (hlock : s.otpLock (otpLockBit (otpCode k.tgt)) = true) :
    ∃ st, s.programWord k e = s.progRefused k k.tgt st := by
  unfold State.programWord
  dsimp only
  rw [if_pos hlock]
  split
  · exact ⟨_, rfl⟩
  · split
    · exact ⟨_, rfl⟩
    · exact ⟨_, rfl⟩

theorem programWord_inRange {s : State} {k : Packet} {e : OtpEnv} (hb : s.standby = false) (he : s.otpMayProgram e = true)
    (hlock : s.otpLock (otpLockBit (otpCode k.tgt)) = true) : s.programWord k e = s.progRefused k k.tgt stLOCKED := by
  unfold State.programWord
  dsimp only
  rw [hb, he, if_neg (by decide), if_neg (by decide), if_pos hlock]

theorem cmdOtpProgram_locked_otp {s : State} {k : Packet} (e : OtpEnv) (hw : otpNameable k.tgt = true)
    (hlock : s.otpLock (otpLockBit (otpCode k.tgt)) = true) : (s.cmdOtpProgram k e).otp = s.otp := by
  by_cases hl : k.len = 4
  · obtain ⟨st, hst⟩ := programWord_locked e hlock
    rw [cmdOtpProgram_word e hw hl, hst]
    exact progRefused_otp s k k.tgt st
  · rw [cmdOtpProgram_badLength e hw hl]
    exact progRefused_otp s k _ _

/-- Settles O35: every path of OTP_PROGRAM to a word of a locked region ends in a refusal. -/
theorem lockedOtpWordsAreNotProgrammed : Obligations.LockedOtpWordsAreNotProgrammed := by
  unfold Obligations.LockedOtpWordsAreNotProgrammed
  refine ⟨?locked, ?always⟩
  case locked =>
    intro k e s hs hb hw hl he hlock hr
    have hstep : s.serve k (·.cmdOtpProgram k e) = s.progRefused k k.tgt stLOCKED :=
      (serve_of_serves s k _ hs).trans ((cmdOtpProgram_word e hw hl).trans (programWord_inRange hb he hlock))
    exact ⟨_, congrArg Host.Outcome.next hstep, answer_responded stLOCKED hr rfl, progRefused_otp _ _ _ _,
      progRefused_refused _ _ _ _, progRefused_status _ _ _ _⟩
  case always =>
    intro k e s hw hlock
    refine ⟨_, rfl, ?_⟩
    show (s.serve k (·.cmdOtpProgram k e)).otp = s.otp
    unfold State.serve
    split
    · exact cmdOtpProgram_locked_otp e hw hlock
    · split
      · exact (answer_footprint s k stDENIED).otp rfl
      · rfl

/-! ## A lock word without its copies (R516) -/

/-- OTP_LOCK of DEBUG_LOCK. -/
def debugLock : Packet := ⟨0, 0, 0x52, 0x100, 0, [], none⟩

/-- A device in RUN whose record of the lock word holds no copy. -/
def lockWithoutCopies : State :=
  (({ State.reset with dev := .run } : State).flag SYS.READY 0 true).otpRec fun x => { x with lock := [] }

theorem lockWithoutCopies_locks :
    exec (.otpLock debugLock) lockWithoutCopies = .next ((lockWithoutCopies.setOtpLock 8).lockDone debugLock) := by
  show (.next (lockWithoutCopies.serve debugLock (·.cmdOtpLock debugLock)) : Host.Outcome State Fault Refusal) = _
  rw [serve_of_serves _ _ _ (by decide)]
  unfold State.cmdOtpLock
  rw [formed_of_ok _ _ _ _ (by decide), offStandby_of_other _ _ (by decide)]
  dsimp only
  rw [if_neg (by decide), if_pos (by decide)]
  rfl

theorem lockDone_otp (s : State) (k : Packet) : (s.lockDone k).otp = s.otp :=
  (State.lockDone_within (mm := 0xC001000000500000000000000038140A00) (pp := 0) s k rfl (Within.refl _ _ _)).otp rfl

/-- Refutes O36: its clause on OTP_LOCK of DEBUG_LOCK and TEST_LOCK has the bit set afterwards. The lock word is what a majority of
its copies says, and in a state whose record holds none of the three there is nothing to program: the bit still reads 0. -/
theorem not_otpIsReadProgrammedAndLocked : ¬ Obligations.OtpIsReadProgrammedAndLocked := by
  unfold Obligations.OtpIsReadProgrammedAndLocked
  rintro ⟨-, -, -, -, -, -, -, -, -, -, -, -, -, -, -, -, -, hpairLock, -⟩
  obtain ⟨t, ht, -, hlock, -⟩ := hpairLock debugLock lockWithoutCopies (by decide) (by decide) (by decide) (.inl rfl)
    (by decide) ⟨rfl, rfl, by decide⟩
  have heq : (lockWithoutCopies.setOtpLock 8).lockDone debugLock = t :=
    Host.Outcome.next.inj (lockWithoutCopies_locks.symm.trans ht)
  have hotp : t.otp.lock = [] := by
    rw [← heq, lockDone_otp]
    rfl
  unfold State.otpLock at hlock
  rw [hotp] at hlock
  exact absurd hlock (by decide)

end Sys2Proof.Machine
end

section
/-! PROOFS. Chalk's restarts (R556): O48. -/
set_option linter.all false

namespace Sys2Proof.Machine

/-- Chalk runs, and its eight-bit restart counter is full. -/
def chalkRestartedOften : State := (State.reset.wr CORE.STATE 11 enRun).wr CORE.RESTARTS 11 255

/-- A mismatch of a running Chalk is counted, and Chalk is reset. -/
def State.chalkReset (s : State) : State :=
  let s1 := (s.bump CHALK.LOCKSTEP_CNT 0).flag CHALK.LOCKSTEP_ERR 0 true
  ((s1.event EV.CHALK_LOCKSTEP 0xFF (s1.rd CHALK.LOCKSTEP_CNT 0) 0 0 0).irq CHALK.page 0 CHALK.IRQ_LOCKSTEP).coreReset 11

theorem execChalkLockstep_running {s : State} (h : s.rd CORE.STATE 11 = enRun) :
    exec .chalkLockstep s = .next (s.chalkReset.bump CORE.RESTARTS 11) :=
  congrArg Host.Outcome.next (if_neg (fun hc => hc h))

theorem restarts_fit (s : State) : (s.bump CORE.RESTARTS 11).rd CORE.RESTARTS 11 ≤ 255 := by
  rw [rd_bump_self]
  exact Nat.min_le_right _ _

/-- Refutes O48: its clause on CHALK_LOCKSTEP has RESTARTS rise to 2^32 - 1, but the field is 8 bits wide and stays at 255. -/
theorem not_engineFailuresAreContained : ¬ Obligations.EngineFailuresAreContained := by
  unfold Obligations.EngineFailuresAreContained
  rintro ⟨-, -, -, -, -, -, -, -, -, -, -, -, hlockstep, -⟩
  obtain ⟨t, ht, -, -, -, -, hrestarts⟩ := hlockstep chalkRestartedOften (by decide)
  have heq : chalkRestartedOften.chalkReset.bump CORE.RESTARTS 11 = t :=
    Host.Outcome.next.inj ((execChalkLockstep_running (by decide)).symm.trans ht)
  have hfull : chalkRestartedOften.rd CORE.RESTARTS 11 = 255 := by decide
  have hfit := restarts_fit chalkRestartedOften.chalkReset
  rw [heq, hrestarts, hfull] at hfit
  exact absurd hfit (by decide)

end Sys2Proof.Machine
end

section
/-! PROOFS. An update taken up again (R502): O44. -/
set_option linter.all false

namespace Sys2Proof.Machine

/-- A device in RUN that examines an update after a reset: the journal's last entry names block 65536 of the staged package. -/
def journalPastDone : State :=
  ((({ State.reset with dev := .run } : State).flag SYS.READY 0 true).bootRec fun b => { b with exam := true }).flashRec fun x =>
    { x with stage := some ([], [], true), journal := [(65536, 0, 0)] }

theorem execUpdResumed_examines {s : State} (good : Bool) (hs : s.serves = true) (he : s.boot.exam = true) :
    exec (.updResumed good) s = .next (s.examine good) :=
  congrArg Host.Outcome.next (if_pos (by rw [hs, he]; rfl))

theorem journalPastDone_done : (journalPastDone.examine false).rd BOOT.DONE 0 = 0 := by decide +kernel

/-- Refutes O44: its clause on UPD_RESUMED has DONE take the block of the journal's last entry modulo 2^32, but the field is 16
bits wide, and block 65536 reads back as 0. -/
theorem not_updateMovesThroughItsStates : ¬ Obligations.UpdateMovesThroughItsStates := by
  unfold Obligations.UpdateMovesThroughItsStates
  rintro ⟨-, -, -, -, -, -, -, -, -, -, -, -, -, -, -, -, -, -, -, -, -, -, -, -, -, -, -, -, -, -, -, -, -, -, -, -, -, -,
    hresumed, -⟩
  obtain ⟨t, ht, -, -, hdone, -⟩ := hresumed 65536 false journalPastDone (by decide) (by decide) (by decide)
  have heq : journalPastDone.examine false = t :=
    Host.Outcome.next.inj ((execUpdResumed_examines false (by decide) (by decide)).symm.trans ht)
  rw [← heq, journalPastDone_done] at hdone
  exact absurd hdone (by decide)

end Sys2Proof.Machine
end

section
/-! PROOFS. What entering SAFE (R544, R545) and starting a warm reset (R536 to R539) do to the registers. -/
set_option linter.all false

namespace Sys2Proof.Machine

/-- Entries under other keys may go without a change of what a key reads. -/
theorem get_filter (f : Nat × Nat → Bool) (l : RegTable) (k d : Nat) (h : ∀ v, f (k, v) = true) :
    RegTable.get (l.filter f) k d = RegTable.get l k d := by
  induction l with
  | nil => rfl
  | cons x l ih =>
    obtain ⟨j, v⟩ := x
    by_cases hj : j = k
    · subst hj
      rw [List.filter_cons_of_pos (h v)]
      unfold RegTable.get
      rw [if_pos rfl, if_pos rfl]
    · have hskip : RegTable.get ((j, v) :: l) k d = RegTable.get l k d := if_neg hj
      rw [hskip, ← ih, List.filter_cons]
      split
      · exact if_neg hj
      · rfl

/-! ## Entering SAFE -/

/-- A port's power path is held. -/
def State.portPowerLost (s : State) (p : Port) : State :=
  s.modPort p fun x => { x with
    loop := .reset, pwm := .reset, guard := .reset, bud := { x.bud with energy := 0, seen := 0 }, overrides := []
    model := { ModelSt.reset with rPrev := x.model.rPrev, trend := x.model.trend } }

/-- A ring that the power path keeps is emptied. -/
def State.ringPowerLost (s : State) (q : Fin 40) : State :=
  if ringKept q then s.setRing q { RingSt.reset with seq := (s.ring q).seq } else s

/-- The power path loses its state and its rings, and then its registers (R544). -/
def State.powerLost (s : State) : State := (List.finRange 40).foldl State.ringPowerLost (s.forPorts allPorts State.portPowerLost)

theorem ringPowerLost_regs (s : State) (q : Fin 40) : (s.ringPowerLost q).regs = s.regs := by
  unfold State.ringPowerLost
  split <;> rfl

theorem powerLost_regs (s : State) : s.powerLost.regs = s.regs :=
  (foldl_keeps State.ringPowerLost State.regs ringPowerLost_regs _ _).trans
    (foldl_keeps State.portPowerLost State.regs (fun _ _ => rfl) allPorts s)

theorem holdPower_rd (s : State) (F : Field) (i : Nat) (h : clearedBySafe (F.key i) = false) :
    s.holdPower.rd F i = s.rd F i := by
  have hfilter : s.holdPower.regs = s.powerLost.regs.filter fun x => !clearedBySafe x.1 := rfl
  unfold State.rd
  rw [hfilter, get_filter _ _ _ _ (fun v => by rw [h]; rfl), powerLost_regs]

/-- Ports disabled, and the power path and both Marl engines held (R544). -/
def State.safeHeld (s : State) : State :=
  ([9, 10] : List Nat).foldl State.holdCore (((s.handoverEnds stABORTED).forPorts allPorts State.disable).holdPower)

/-- What a member does with its shared outputs in SAFE (R545). -/
def State.safeOutputs (s : State) (member : Bool) : State :=
  if member then
    (((s.flag PAIR.HB_ENABLE 0 false).flag PAIR.VETO_ARM 0 false).flag PAIR.YIELD_OUT 0 false).toStandby
  else if s.rd PAIR.PAIR_STATE 0 = psLeft then s.releaseOutputs
  else s.forPorts allPorts fun t p => t.present p (t.safeTerm p)

/-- Every port and both feeds are in safe state. -/
def State.safePrepared (s : State) : State := s.safeHeld.safeOutputs s.pairMember

/-- SAFE_CAUSE, RST_CAUSE, the event and the count show the entry. -/
def State.safeShown (t s : State) (cause : Nat) : State :=
  (((((t.wr RST.SAFE_CAUSE 0 cause).wrBit RST.CAUSE 0
    (if cause = scTsd then 8 else if cause = scClock then 9 else 10) true).event EV.SAFE_ENTERED 0xFF cause
      (wd (s.rdI ADC.T_DIE 0)) 0 0).bump RST.SAFE_CNT 0).irq RST.page 0 RST.IRQ_SAFE)

/-- When SAFE was entered, or that a start or reset that runs ends in it. -/
def State.safeTimed (t s : State) : State :=
  { t with pow := { t.pow with safeAt := s.up, intoSafe := decide (s.dev = .warmReset ∨ s.dev = .boot) } }

/-- SAFE serves: READY stands (R545). -/
def State.safeReady (t : State) : State := { t.flag SYS.READY 0 true with dev := .safe }

theorem safeReady_rd (t : State) (F : Field) (i : Nat) (h : F.apart SYS.READY = true) : t.safeReady.rd F i = t.rd F i :=
  rd_flag t F i SYS.READY 0 true h

theorem safeEntry_eq {s : State} (cause : Nat) (hd : s.dev ≠ .safe) (hi : s.pow.intoSafe = false) :
    s.safeEntry cause =
      if s.dev = .warmReset ∨ s.dev = .boot then (s.safePrepared.safeShown s cause).safeTimed s
      else if s.dev = .recovery then { (s.safePrepared.safeShown s cause).safeTimed s with dev := .safe }
      else ((s.safePrepared.safeShown s cause).safeTimed s).safeReady := by
  refine (if_neg ?_).trans rfl
  rintro (h | h)
  · exact hd h
  · rw [hi] at h
    cases h

/-- The areas that being prepared for SAFE touches, but for the registers of the power path that it clears. -/
abbrev safeAreas : Nat := 0xC001200103D1FEC0018080012638168002

theorem safeHeld_rd (s : State) (F : Field) (i : Nat) (hF : maskSkips safeAreas F = true)
    (hk : clearedBySafe (F.key i) = false) : s.safeHeld.rd F i = s.rd F i := by
  have hdisabled : Within safeAreas 0 s ((s.handoverEnds stABORTED).forPorts allPorts State.disable) :=
    State.forPorts_within _ _ _ (fun t p ht => State.disable_all t p rfl ht)
      (State.handoverEnds_within s stABORTED rfl (Within.refl _ _ _))
  have hcores : ∀ t : State, Within safeAreas 0 t (([9, 10] : List Nat).foldl State.holdCore t) := fun t =>
    foldl_within _ _ _ (fun u e hu => State.holdCore_within u e rfl hu) (Within.refl _ _ _)
  exact ((hcores _).rd F i hF).trans ((holdPower_rd _ F i hk).trans (hdisabled.rd F i hF))

theorem safeOutputs_within (s : State) (member : Bool) : Within safeAreas 0 s (s.safeOutputs member) := by
  have h0 := Within.refl safeAreas 0 s
  unfold State.safeOutputs
  split
  · exact State.toStandby_within _ rfl (State.flag_within _ _ _ _ rfl (State.flag_within _ _ _ _ rfl
      (State.flag_within _ _ _ _ rfl h0)))
  · split
    · exact State.releaseOutputs_within _ rfl h0
    · exact State.forPorts_within _ _ _ (fun t p ht => State.present_all t p _ rfl ht) h0

theorem safePrepared_rd (s : State) (F : Field) (i : Nat) (hF : maskSkips safeAreas F = true)
    (hk : clearedBySafe (F.key i) = false) : s.safePrepared.rd F i = s.rd F i :=
  ((safeOutputs_within _ _).rd F i hF).trans (safeHeld_rd s F i hF hk)

/-- The registers that show an entry into SAFE. -/
def safeFields : List Field := [RST.SAFE_CAUSE, RST.CAUSE, RST.SAFE_CNT, IRQ_STAT RST.page]

theorem safeShown_leaves (t s : State) (cause : Nat) : Leaves safeFields sysEventAreas t (t.safeShown s cause) := by
  have hcause := (Leaves.refl safeFields sysEventAreas t).wr RST.SAFE_CAUSE 0 cause (by decide)
  have hbit := hcause.wr RST.CAUSE 0 ((t.wr RST.SAFE_CAUSE 0 cause).rd RST.CAUSE 0 |||
    2 ^ (if cause = scTsd then 8 else if cause = scClock then 9 else 10)) (by decide)
  exact ((hbit.trans (sysEvent_leaves _ _ _ _ _ _ _ (by decide))).bump RST.SAFE_CNT 0 (by decide)).irq _ _ _ (by decide)

theorem safeShown_cause (t s : State) (cause : Nat) :
    (t.safeShown s cause).rd RST.SAFE_CAUSE 0 = cause % 2 ^ RST.SAFE_CAUSE.width := by
  unfold State.safeShown
  rw [rd_irq _ _ _ _ _ _ (by decide), rd_bump _ _ _ _ _ (by decide), sysEvent_rd _ _ _ _ _ _ (by decide) _ _ (by decide),
    rd_wrBit _ _ _ _ _ _ _ (by decide), rd_wr_self]

theorem safeShown_count (t s : State) (cause : Nat) :
    (t.safeShown s cause).rd RST.SAFE_CNT 0 = min (t.rd RST.SAFE_CNT 0 + 1) (2 ^ 32 - 1) := by
  unfold State.safeShown
  rw [rd_irq _ _ _ _ _ _ (by decide), rd_bump_self, sysEvent_rd _ _ _ _ _ _ (by decide) _ _ (by decide),
    rd_wrBit _ _ _ _ _ _ _ (by decide), rd_wr _ _ _ _ _ _ (by decide)]
  rfl

/-- Entering SAFE shows its code and is counted, whatever state the device was in. -/
theorem safeEntry_shows {s : State} (cause : Nat) (hd : s.dev ≠ .safe) (hi : s.pow.intoSafe = false) :
    (s.safeEntry cause).rd RST.SAFE_CAUSE 0 = cause % 2 ^ RST.SAFE_CAUSE.width ∧
    (s.safeEntry cause).rd RST.SAFE_CNT 0 = min (s.rd RST.SAFE_CNT 0 + 1) (2 ^ 32 - 1) := by
  have hcause := safeShown_cause s.safePrepared s cause
  have hcount := (safeShown_count s.safePrepared s cause).trans
    (by rw [safePrepared_rd s RST.SAFE_CNT 0 (by decide) (by decide)])
  rw [safeEntry_eq cause hd hi]
  split
  · exact ⟨hcause, hcount⟩
  · split
    · exact ⟨hcause, hcount⟩
    · exact ⟨(safeReady_rd _ _ _ (by decide)).trans hcause, (safeReady_rd _ _ _ (by decide)).trans hcount⟩

/-- A register that neither shows the entry nor lies in the power path stays. -/
theorem safeEntry_rd (s : State) (cause : Nat) (F : Field) (i : Nat) (hl : F.apartAll (SYS.READY :: safeFields) = true)
    (hE : maskSkips sysEventAreas F = true) (hF : maskSkips safeAreas F = true) (hk : clearedBySafe (F.key i) = false) :
    (s.safeEntry cause).rd F i = s.rd F i := by
  by_cases hsafe : s.dev = .safe ∨ s.pow.intoSafe = true
  · have hsame : s.safeEntry cause = s := if_pos hsafe
    rw [hsame]
  · obtain ⟨hd, hi⟩ := not_or.mp hsafe
    obtain ⟨hready, hshown⟩ := (by simpa [Field.apartAll] using hl : F.apart SYS.READY = true ∧ F.apartAll safeFields = true)
    have hkeep := (safeShown_leaves s.safePrepared s cause F i hshown hE).trans (safePrepared_rd s F i hF hk)
    rw [safeEntry_eq cause hd (Bool.eq_false_iff.mpr hi)]
    split
    · exact hkeep
    · split
      · exact hkeep
      · exact (safeReady_rd _ _ _ hready).trans hkeep

theorem safeEntry_dev {s : State} (cause : Nat) (hd : s.dev ≠ .safe) (hi : s.pow.intoSafe = false)
    (hb : s.dev ≠ .warmReset) (hw : s.dev ≠ .boot) : (s.safeEntry cause).dev = .safe := by
  rw [safeEntry_eq cause hd hi, if_neg (not_or.mpr ⟨hb, hw⟩)]
  split <;> rfl

/-! ## Starting a warm reset -/

/-- The areas that holding the compute and link domains touches, but for the registers that it clears. -/
abbrev warmAreas : Nat := 0xA005E80003D00E800000820126100A8000

/-- A ring that a warm reset empties. -/
def State.ringWarmLost (s : State) (q : Fin 40) : State :=
  if ringLost q then s.setRing q { RingSt.reset with seq := (s.ring q).seq } else s

/-- A link of the fabric that a warm reset takes DOWN. -/
def State.linkWarmLost (s : State) (l : Link) : State :=
  if s.on (linkEn l) 0 then (s.wr (linkState l) 0 lkDown).wr (linkPeer l) 0 0 else s

theorem ringWarmLost_regs (s : State) (q : Fin 40) : (s.ringWarmLost q).regs = s.regs := by
  unfold State.ringWarmLost
  split <;> rfl

theorem linkWarmLost_within {s t : State} (l : Link) (h : Within warmAreas 0 s t) :
    Within warmAreas 0 s (t.linkWarmLost l) := by
  unfold State.linkWarmLost
  split
  · refine State.wr_within _ _ _ _ ?_ (State.wr_within _ _ _ _ ?_ h)
    · simp only [linkPeer_mask]
      decide
    · simp only [linkState_mask]
      decide
  · exact h

/-- Holding the compute and link domains keeps every register outside its areas that it does not clear: engines, rings and
ports first, then the registers that are cleared, then the links and the pair. -/
theorem holdCompute_rd (s : State) (F : Field) (i : Nat) (hF : maskSkips warmAreas F = true)
    (hk : clearedByWarm (F.key i) = false) : s.holdCompute.rd F i = s.rd F i := by
  unfold State.holdCompute
  extract_lets +onlyGivenNames -underBinder s1 s2 s3 _b _spi _smb _snap s4 s5 s6 s7 s8
  have h1 : Within warmAreas 0 s s1 :=
    foldl_within _ _ _ (fun t e ht => State.holdCore_within t e rfl ht) (Within.refl _ _ _)
  clear_value s1
  have h2 : s2.rd F i = s1.rd F i := by
    have hregs : s2.regs = s1.regs := foldl_keeps State.ringWarmLost State.regs ringWarmLost_regs (List.finRange 40) s1
    unfold State.rd
    rw [hregs]
  clear_value s2
  have h3 : Within warmAreas 0 s2 s3 :=
    State.forPorts_within _ _ _ (fun t p ht => State.warmPort_all t p rfl ht) (State.wr_within _ _ _ _ rfl (Within.refl _ _ _))
  clear_value s3
  have h4 : s4.rd F i = s3.rd F i := get_filter _ s3.regs _ _ fun v => by rw [hk]; rfl
  clear_value s4
  have h5 : Within warmAreas 0 s4 s5 := foldl_within _ _ _ (fun t l ht => linkWarmLost_within l ht) (Within.refl _ _ _)
  clear_value s5
  have h6 : Within warmAreas 0 s4 s6 := State.selState_within _ _ rfl (State.pr_within _ _ rfl h5)
  clear_value s6
  have h7 : Within warmAreas 0 s4 s7 := by
    unfold s7
    split
    · exact State.pairState_within _ _ rfl h6
    · exact h6
  clear_value s7
  have h8 : Within warmAreas 0 s4 s8 := State.wr_within _ _ _ _ rfl (State.setMirror_within _ _ rfl h7)
  clear_value s8
  have hend : Within warmAreas 0 s4 (if s8.rd TEST.STATE 0 = 1 then (s8.wr TEST.STATE 0 3).wr TEST.RESULT 0 stABORTED else s8) := by
    split
    · exact State.wr_within _ _ _ _ rfl (State.wr_within _ _ _ _ rfl h8)
    · exact h8
  calc (if s8.rd TEST.STATE 0 = 1 then (s8.wr TEST.STATE 0 3).wr TEST.RESULT 0 stABORTED else s8).rd F i
      = s4.rd F i := hend.rd F i hF
    _ = s3.rd F i := h4
    _ = s2.rd F i := h3.rd F i hF
    _ = s1.rd F i := h2
    _ = s.rd F i := h1.rd F i hF

/-- The compute and link domains are held, and READY falls. -/
theorem warmGo_rd (s : State) (F : Field) (i : Nat) (hF : maskSkips warmAreas F = true) (hk : clearedByWarm (F.key i) = false)
    (hr : F.apart SYS.READY = true) (hw : F.apart RST.WARM_CNT = true) : s.warmGo.rd F i = s.rd F i := by
  unfold State.warmGo
  split
  · rfl
  · exact (rd_bump _ _ _ _ _ hw).trans ((rd_flag _ _ _ _ _ _ hr).trans (holdCompute_rd s F i hF hk))

theorem warmGo_dev {s : State} (h : s.dev ≠ .boot) : s.warmGo.dev = .warmReset := by
  unfold State.warmGo
  split
  · next hd => exact hd.resolve_right h
  · rfl

/-- A cause of a warm reset shows in RST_CAUSE. -/
theorem warmBegin_cause (s : State) {cause : Nat} (h : cause < 11) :
    ((s.warmBegin cause).rd RST.CAUSE 0).testBit cause = true := by
  unfold State.warmBegin
  rw [warmGo_rd _ _ _ (by decide) (by decide) (by decide) (by decide)]
  exact bit_wrBit_self s RST.CAUSE 0 cause h

theorem warmBegin_rd (s : State) (cause : Nat) (F : Field) (i : Nat) (hF : maskSkips warmAreas F = true)
    (hk : clearedByWarm (F.key i) = false) (hr : F.apart SYS.READY = true) (hw : F.apart RST.WARM_CNT = true)
    (hc : F.apart RST.CAUSE = true) : (s.warmBegin cause).rd F i = s.rd F i :=
  (warmGo_rd _ F i hF hk hr hw).trans (rd_wrBit _ _ _ _ _ _ _ hc)

end Sys2Proof.Machine
end

section
/-! PROOFS. WATCH, wake, SAFE and the die temperature (R537, R541 to R547): O47. -/
set_option linter.all false

namespace Sys2Proof.Machine

/-- The device's state is another. -/
def State.atDev (s : State) (d : DevState) : State := { s with dev := d }

theorem atDev_rd (s : State) (d : DevState) (F : Field) (i : Nat) : (s.atDev d).rd F i = s.rd F i := rfl

/-! ## Entering WATCH (R541) -/

theorem watchPres_within {s t : State} (p : Port) (h : Within 0x100080000000000000000000 0 s t) :
    Within 0x100080000000000000000000 0 s (t.watchPres p) := by
  unfold State.watchPres
  split
  · exact State.present_all t p _ rfl h
  · exact h

theorem watchPresented_within (s : State) : Within 0x100080000000000000000000 0 s (s.forPorts allPorts State.watchPres) :=
  State.forPorts_within _ _ _ (fun _ p h => watchPres_within p h) (Within.refl _ _ _)

/-- WATCH is entered, with its event and count; READY and PLL_CORE fall. -/
def State.watchShown (s : State) : State :=
  (((((s.wr RST.WATCH_BLOCK 0 0).event EV.WATCH_ENTRY 0xFF (s.rd RST.WATCH_TICK 0) 0 0 0).bump RST.WATCH_ENTRY_CNT 0).flag
    SYS.READY 0 false).flag CLK.CORE_LOCK 0 false)

/-- The device in WATCH, its ports presenting what WATCH presents (R63). -/
def State.watchEntered (s : State) : State := (s.watchShown.forPorts allPorts State.watchPres).atDev .watch

theorem execWatchEntry_enters {s : State} {idle : Bool} (hd : s.dev = .run) (hr : s.on SYS.READY 0 = true)
    (hb : s.watchBlock idle = 0) : exec (.watchEntry idle) s = .next s.watchEntered := by
  refine congrArg Host.Outcome.next ((if_neg ?_).trans ?_)
  · rw [hd, hr]
    decide
  · dsimp only
    rw [hb, if_neg (fun h => h rfl)]
    rfl

theorem execWatchEntry_blocked {s : State} {idle : Bool} (hd : s.dev = .run) (hr : s.on SYS.READY 0 = true)
    (hb : s.watchBlock idle ≠ 0) :
    exec (.watchEntry idle) s = .next (s.wr RST.WATCH_BLOCK 0 (s.watchBlock idle)) := by
  refine congrArg Host.Outcome.next ((if_neg ?_).trans (if_pos hb))
  rw [hd, hr]
  decide

theorem watchEntered_rd (s : State) (F : Field) (h : maskSkips 0x100080000000000000000000 F = true) :
    s.watchEntered.rd F 0 = s.watchShown.rd F 0 := (atDev_rd _ _ F 0).trans ((watchPresented_within s.watchShown).rd F 0 h)

theorem watchEntered_shows (s : State) : s.watchEntered.on SYS.READY 0 = false ∧ s.watchEntered.on CLK.CORE_LOCK 0 = false ∧
    s.watchEntered.rd RST.WATCH_BLOCK 0 = 0 ∧
    s.watchEntered.rd RST.WATCH_ENTRY_CNT 0 = min (s.rd RST.WATCH_ENTRY_CNT 0 + 1) (2 ^ 32 - 1) := by
  have hon : ∀ F : Field, maskSkips 0x100080000000000000000000 F = true → s.watchEntered.on F 0 = s.watchShown.on F 0 :=
    fun F hF => by unfold State.on; rw [watchEntered_rd s F hF]
  refine ⟨(hon _ (by decide)).trans ?_, (hon _ (by decide)).trans (on_flag_self _ _ _ _ (by decide)),
    (watchEntered_rd s _ (by decide)).trans ?_, (watchEntered_rd s _ (by decide)).trans ?_⟩
  · exact (on_flag _ _ _ _ _ _ (by decide)).trans (on_flag_self _ _ _ _ (by decide))
  · unfold State.watchShown
    rw [rd_flag _ _ _ _ _ _ (by decide), rd_flag _ _ _ _ _ _ (by decide), rd_bump _ _ _ _ _ (by decide),
      sysEvent_rd _ _ _ _ _ _ (by decide) _ _ (by decide), rd_wr_self]
    rfl
  · unfold State.watchShown
    rw [rd_flag _ _ _ _ _ _ (by decide), rd_flag _ _ _ _ _ _ (by decide), rd_bump_self,
      sysEvent_rd _ _ _ _ _ _ (by decide) _ _ (by decide), rd_wr _ _ _ _ _ _ (by decide)]
    rfl

/-! ## Waking (R542, R543) -/

/-- A port takes the cooling of the interval, and a source port presents its own Rp again. -/
def State.portCooled (tin : Nat) (s : State) (p : Port) : State :=
  let h := heatNext (s.port p).guard.heat tin (s.rd GUARD.T_COOL p) none
  let t1 := (s.grd p fun g => { g with heat := h }).wrSat GUARD.HEAT p (h / 2 ^ 16)
  if t1.tc p = tcUnattachedSrc then t1.present p (rpOf (t1.rd CC.RP_SEL p)) else t1

/-- A feed takes the cooling of the interval. -/
def State.feedCooled (tin : Nat) (s : State) (f : Feed) : State :=
  let h := heatNext (s.feed f).heat tin (s.rd FEED.FD_T_COOL f) none
  (s.modFeed f fun x => { x with heat := h }).wrSat FEED.FD_HEAT f (h / 2 ^ 16)

/-- Every accumulator has cooled. -/
def State.cooled (s : State) (tin : Nat) : State :=
  ([0, 1] : List Feed).foldl (State.feedCooled tin) (s.forPorts allPorts (State.portCooled tin))

/-- The registers that the cooling of an interval writes. -/
def cooledFields : List Field := [GUARD.HEAT, FEED.FD_HEAT, CC.CC1_LVL, CC.CC2_LVL]

theorem portCooled_leaves (tin : Nat) (s : State) (p : Port) : Leaves cooledFields 0 s (s.portCooled tin p) := by
  have hheat : ∀ (g : GuardSt → GuardSt) (v : Nat), Leaves cooledFields 0 s ((s.grd p g).wrSat GUARD.HEAT p v) := fun g v =>
    Leaves.wr (t := s.grd p g) (Leaves.refl cooledFields 0 s) GUARD.HEAT p _ (by decide)
  unfold State.portCooled
  dsimp only
  exact Leaves.ite ((hheat _ _).present p _ (by decide) (by decide)) (hheat _ _)

theorem feedCooled_leaves (tin : Nat) (s : State) (f : Feed) : Leaves cooledFields 0 s (s.feedCooled tin f) :=
  ((Leaves.refl cooledFields 0 s).modFeed f _).wr FEED.FD_HEAT f _ (by decide)

theorem cooled_leaves (s : State) (tin : Nat) : Leaves cooledFields 0 s (s.cooled tin) := by
  intro F i hl hm
  refine (foldl_keeps (State.feedCooled tin) (fun t : State => t.rd F i) (fun t f => feedCooled_leaves tin t f F i hl hm)
    _ _).trans ?_
  exact foldl_keeps (State.portCooled tin) (fun t : State => t.rd F i) (fun t p => portCooled_leaves tin t p F i hl hm) allPorts s

theorem runEntry_eq (s : State) (us sleptNs : Nat) : s.runEntry us sleptNs =
    ((((((s.cooled (sleptNs * 2 / 5)).flag CLK.CORE_LOCK 0 true).flag SYS.READY 0 true).wr RST.US 0 us).bump
      RST.WATCH_WAKE_CNT 0).irq RST.page 0 RST.IRQ_WAKE).atDev .run := rfl

theorem runEntry_shows (s : State) (us : BitVec 16) (n : Nat) : (s.runEntry us.toNat n).dev = .run ∧
    (s.runEntry us.toNat n).on SYS.READY 0 = true ∧ (s.runEntry us.toNat n).rd RST.SRC 0 = s.rd RST.SRC 0 ∧
    (s.runEntry us.toNat n).rd RST.US 0 = us.toNat ∧
    (s.runEntry us.toNat n).rd RST.WATCH_WAKE_CNT 0 = min (s.rd RST.WATCH_WAKE_CNT 0 + 1) (2 ^ 32 - 1) := by
  have hcool := cooled_leaves s (n * 2 / 5)
  generalize hc : s.cooled (n * 2 / 5) = c at hcool
  have hrd : ∀ F : Field, (s.runEntry us.toNat n).rd F 0 = (((((c.flag CLK.CORE_LOCK 0 true).flag SYS.READY 0 true).wr RST.US 0
      us.toNat).bump RST.WATCH_WAKE_CNT 0).irq RST.page 0 RST.IRQ_WAKE).rd F 0 := fun F => by
    rw [runEntry_eq, hc, atDev_rd]
  refine ⟨rfl, ?_, ?_, ?_, ?_⟩
  · unfold State.on
    rw [hrd, rd_irq _ _ _ _ _ _ (by decide), rd_bump _ _ _ _ _ (by decide), rd_wr _ _ _ _ _ _ (by decide)]
    exact on_flag_self _ _ _ _ (by decide)
  · rw [hrd, rd_irq _ _ _ _ _ _ (by decide), rd_bump _ _ _ _ _ (by decide), rd_wr _ _ _ _ _ _ (by decide),
      rd_flag _ _ _ _ _ _ (by decide), rd_flag _ _ _ _ _ _ (by decide)]
    exact hcool _ 0 (by decide) (by decide)
  · rw [hrd, rd_irq _ _ _ _ _ _ (by decide), rd_bump _ _ _ _ _ (by decide), rd_wr_self]
    exact Nat.mod_eq_of_lt us.isLt
  · rw [hrd, rd_irq _ _ _ _ _ _ (by decide), rd_bump_self, rd_wr _ _ _ _ _ _ (by decide), rd_flag _ _ _ _ _ _ (by decide),
      rd_flag _ _ _ _ _ _ (by decide), hcool _ 0 (by decide) (by decide)]
    rfl

end Sys2Proof.Machine
end

section
/-! PROOFS. WATCH samples, SAFE's causes and the die temperature (R306, R537, R544, R547): O47. -/
set_option linter.all false

namespace Sys2Proof.Machine

/-! ## WATCH samples (R306) -/

/-- What the monitors of one WATCH tick leave: the state with the flags they set, and whether one was beyond a threshold. -/
def State.watchFound (s : State) (mons : List (Mon × Nat)) : State × Bool :=
  mons.foldl (fun (a : State × Bool) x => ((a.1.watchMon x.1 x.2).1, a.2 || (a.1.watchMon x.1 x.2).2)) (s, false)

theorem execWatchSample_watch {s : State} (cc : List (Port × Nat × Nat)) (mons : List (Mon × Nat)) (h : s.dev = .watch) :
    exec (.watchSample cc mons) s = .next (if cc.any fun x => s.watchAttach x.1 x.2.1 x.2.2 then (s.watchFound mons).1.wakeBy 0
      else if (s.watchFound mons).2 then (s.watchFound mons).1.wakeBy 1 else (s.watchFound mons).1) :=
  congrArg Host.Outcome.next (if_neg (fun hc => hc h))

theorem watchFound_vbus {s : State} {p : Port} {v : Nat} (h : 840 < v) :
    s.watchFound [(.vbusA p, v)] = (s.crossFlagged p, true) := by
  have hmon : s.watchMon (.vbusA p) v = (s.crossFlagged p, true) := if_pos h
  show ((s.watchMon (.vbusA p) v).1, false || (s.watchMon (.vbusA p) v).2) = _
  rw [hmon]
  rfl

/-! ## The die temperature (R547) -/

/-- A die sample is shown. -/
def State.dieShown (s : State) (d : BitVec 16) : State := s.wr ADC.T_DIE 0 d.toNat

/-- Whether the warning stands. -/
def State.warnMarked (s : State) (b : Bool) : State := { s with pow := { s.pow with warned := b } }

theorem dieShown_die (s : State) (d : BitVec 16) : (s.dieShown d).rd ADC.T_DIE 0 = d.toNat :=
  (rd_wr_self s ADC.T_DIE 0 d.toNat).trans (Nat.mod_eq_of_lt d.isLt)

theorem dieShown_warnCount (s : State) (d : BitVec 16) : (s.dieShown d).rd RST.THERMAL_WARN_CNT 0 = s.rd RST.THERMAL_WARN_CNT 0 :=
  rd_wr s RST.THERMAL_WARN_CNT ADC.T_DIE 0 0 d.toNat (by decide)

/-- The warning is marked, recorded and counted. -/
def State.warnBegins (s : State) (d : BitVec 16) : State :=
  ((((s.dieShown d).warnMarked true).event EV.THERMAL_WARN 0xFF (wd d.toInt) (s.rd RST.TWARN 0) 0 0).bump RST.THERMAL_WARN_CNT
    0).irq RST.page 0 RST.IRQ_THERMAL_WARN

theorem execThermalWarn_sampled {s : State} (d : BitVec 16) (h : s.dev ≠ .watch) : exec (.thermalWarn d) s = .next (
    if d.toInt < 10 * ((s.rd RST.TWARN 0 : Int) - 5) then (s.dieShown d).warnMarked false
    else if s.pow.warned = false ∧ 10 * (s.rd RST.TWARN 0 : Int) ≤ d.toInt then s.warnBegins d
    else s.dieShown d) := congrArg Host.Outcome.next (if_neg h)

theorem warnBegins_shows (s : State) (d : BitVec 16) : (s.warnBegins d).pow.warned = true ∧
    (s.warnBegins d).rd ADC.T_DIE 0 = d.toNat ∧
    (s.warnBegins d).rd RST.THERMAL_WARN_CNT 0 = min (s.rd RST.THERMAL_WARN_CNT 0 + 1) (2 ^ 32 - 1) := by
  have hevent := State.event_sys (m := sysEventAreas) (p := 0) ((s.dieShown d).warnMarked true) EV.THERMAL_WARN 0xFF
    (wd d.toInt) (s.rd RST.TWARN 0) 0 0 (by decide) rfl (Within.refl _ _ _)
  unfold State.warnBegins
  refine ⟨?_, ?_, ?_⟩
  · exact congrArg PowSt.warned (hevent.pow rfl)
  · rw [rd_irq _ _ _ _ _ _ (by decide), rd_bump _ _ _ _ _ (by decide), hevent.rd _ _ (by decide)]
    exact dieShown_die s d
  · rw [rd_irq _ _ _ _ _ _ (by decide), rd_bump_self, hevent.rd _ _ (by decide)]
    show min ((s.dieShown d).rd RST.THERMAL_WARN_CNT 0 + 1) _ = _
    rw [dieShown_warnCount]
    rfl

/-- Samples at or above TSD in a row, with this one. -/
def State.hotSamples (s : State) (d : BitVec 16) : Nat := if 10 * (s.rd RST.TSD 0 : Int) ≤ d.toInt then s.pow.hot + 1 else 0

/-- The sample is shown, and the hot ones in a row are counted up to three. -/
def State.hotCounted (s : State) (d : BitVec 16) : State :=
  { s.dieShown d with pow := { (s.dieShown d).pow with hot := min (s.hotSamples d) 3 } }

theorem execThermalShutdown_sampled {s : State} (d : BitVec 16) (h : s.dev ≠ .watch) : exec (.thermalShutdown d) s =
    .next (if 3 ≤ s.hotSamples d then (s.hotCounted d).safeEntry scTsd else s.hotCounted d) :=
  congrArg Host.Outcome.next (if_neg h)

theorem hotCounted_safeCount (s : State) (d : BitVec 16) : (s.hotCounted d).rd RST.SAFE_CNT 0 = s.rd RST.SAFE_CNT 0 :=
  rd_wr s RST.SAFE_CNT ADC.T_DIE 0 0 d.toNat (by decide)

/-! ## The causes of SAFE (R544) -/

theorem code_fits (c : SafeCause) : c.code % 2 ^ RST.SAFE_CAUSE.width = c.code := by
  cases c <;> rfl

/-- Out of a start and a warm reset SAFE is entered at once. -/
theorem safeEntry_enters {s : State} {cause : Nat} (hd : s.dev ≠ .safe) (hi : s.pow.intoSafe = false) (hw : s.dev ≠ .warmReset)
    (hb : s.dev ≠ .boot) (hc : cause % 2 ^ RST.SAFE_CAUSE.width = cause) : (s.safeEntry cause).dev = .safe ∧
    (s.safeEntry cause).rd RST.SAFE_CAUSE 0 = cause ∧
    (s.safeEntry cause).rd RST.SAFE_CNT 0 = min (s.rd RST.SAFE_CNT 0 + 1) (2 ^ 32 - 1) := by
  obtain ⟨hcause, hcount⟩ := safeEntry_shows cause hd hi
  exact ⟨safeEntry_dev cause hd hi hw hb, hcause.trans hc, hcount⟩

theorem safeEntry_run {s : State} {cause : Nat} (hd : s.dev = .run) (hi : s.pow.intoSafe = false)
    (hc : cause % 2 ^ RST.SAFE_CAUSE.width = cause) : (s.safeEntry cause).dev = .safe ∧
    (s.safeEntry cause).rd RST.SAFE_CAUSE 0 = cause ∧
    (s.safeEntry cause).rd RST.SAFE_CNT 0 = min (s.rd RST.SAFE_CNT 0 + 1) (2 ^ 32 - 1) :=
  safeEntry_enters (by rw [hd]; decide) hi (by rw [hd]; decide) (by rw [hd]; decide) hc

/-- Every area but the device's state. -/
abbrev offDev : Nat := 0x3FFFFFFFFFFDFFFFFFFFFFFFFFFFFFFFFFF

theorem safePrepared_dev (s : State) : s.safePrepared.dev = s.dev := by
  have hdisabled : Within offDev 0 s ((s.handoverEnds stABORTED).forPorts allPorts State.disable) :=
    State.forPorts_within _ _ _ (fun t p ht => State.disable_all t p rfl ht)
      (State.handoverEnds_within s stABORTED rfl (Within.refl _ _ _))
  have hheld : Within offDev 0 s s.safeHeld :=
    foldl_within _ _ _ (fun u e hu => State.holdCore_within u e rfl hu) (State.holdPower_within _ rfl hdisabled)
  exact ((safeOutputs_within s.safeHeld s.pairMember).dev rfl).trans (hheld.dev rfl)

theorem safeShown_dev (t s : State) (cause : Nat) : (t.safeShown s cause).dev = t.dev :=
  (State.event_sys (m := sysEventAreas) (p := 0) _ EV.SAFE_ENTERED 0xFF cause (wd (s.rdI ADC.T_DIE 0)) 0 0 (by decide) rfl
    (Within.refl _ _ _)).dev rfl

/-- In a start or a warm reset SAFE waits for its end. -/
theorem safeEntry_waits {s : State} (cause : Nat) (hd : s.dev = .boot ∨ s.dev = .warmReset) (hi : s.pow.intoSafe = false) :
    (s.safeEntry cause).dev = s.dev ∧ (s.safeEntry cause).pow.intoSafe = true := by
  have hne : s.dev ≠ .safe := by
    rcases hd with h | h <;> rw [h] <;> decide
  have hprepared : (s.safePrepared.safeShown s cause).dev = s.dev :=
    (safeShown_dev _ _ _).trans (safePrepared_dev s)
  rw [safeEntry_eq cause hne hi, if_pos hd.symm]
  exact ⟨hprepared, decide_eq_true hd.symm⟩

/-- A sample that is not the third hot one in a row enters nothing. -/
theorem thermalShutdown_counts {s : State} (d : BitVec 16) (hd : s.dev ≠ .watch) (hn : s.hotSamples d < 3) :
    exec (.thermalShutdown d) s = .next (s.hotCounted d) :=
  (execThermalShutdown_sampled d hd).trans (congrArg Host.Outcome.next (if_neg (Nat.not_le.mpr hn)))

theorem not_serving {s : State} (h : s.dev ≠ .run ∨ s.on SYS.READY 0 = false) (idle : Bool) :
    exec (.watchEntry idle) s = .next s := congrArg Host.Outcome.next (if_pos h)

theorem execWake_waking {s : State} (c : Fin 8) (us : BitVec 16) (n : Nat) (h : (s.wakeBy c.val).dev = .waking) :
    exec (.wake c us n) s = .next ((s.wakeBy c.val).runEntry us.toNat n) := congrArg Host.Outcome.next (if_pos h)

theorem wakeBy_elsewhere {s : State} (n : Nat) (h : s.dev ≠ .watch) : s.wakeBy n = s := if_neg h

/-- Settles O47: WATCH by its conditions and findings, SAFE by its causes, the die temperature by its thresholds. -/
theorem powerStatesFollowTheirCauses : Obligations.PowerStatesFollowTheirCauses := by
  unfold Obligations.PowerStatesFollowTheirCauses
  refine ⟨?enters, ?blocked, ?notRun, ?wakes, ?wakesOn, ?noWake, ?timer, ?noTimer, ?attach, ?vbus, ?nothing, ?attachAll, ?found,
    ?notWatch, ?storm, ?noStorm, ?safe, ?safeAsleep, ?safeWaits, ?safeTwice, ?warn, ?cool, ?between, ?warnAsleep, ?third, ?hot,
    ?notHot, ?hotAsleep⟩
  case enters =>
    intro idle s hd hr hb
    obtain ⟨hready, hlock, hblock, hcount⟩ := watchEntered_shows s
    exact ⟨_, execWatchEntry_enters hd hr hb, rfl, hready, hlock, hblock, hcount⟩
  case blocked =>
    intro idle s hd hr hb
    exact ⟨_, execWatchEntry_blocked hd hr hb, hd, (on_wr _ _ _ _ _ _ (by decide)).trans hr, rd_wr_self _ _ _ _⟩
  case notRun => exact fun idle s h => not_serving h idle
  case wakes =>
    intro c us n s hd
    obtain ⟨hwaking, hsrc⟩ := wakeBy_watch c.val hd
    obtain ⟨hrun, hready, hkeep, hus, hcount⟩ := runEntry_shows (s.wakeBy c.val) us n
    refine ⟨_, execWake_waking c us n hwaking, hrun, hready, hkeep.trans (hsrc.trans (Nat.mod_eq_of_lt ?_)), hus, hcount.trans ?_⟩
    · exact Nat.pow_lt_pow_right (by decide) c.isLt
    · rw [wakeBy_rd _ _ _ _ (by decide)]
  case wakesOn =>
    intro c us n s hd
    have hsame : s.wakeBy c.val = s := wakeBy_elsewhere _ (by rw [hd]; decide)
    have hstep := execWake_waking (s := s) c us n (by rw [hsame, hd])
    rw [hsame] at hstep
    exact ⟨_, hstep, runEntry_shows s us n⟩
  case noWake =>
    intro c us n s hw hk
    have hsame : s.wakeBy c.val = s := wakeBy_elsewhere _ hw
    refine congrArg Host.Outcome.next ?_
    dsimp only
    rw [hsame]
    exact if_neg hk
  case timer =>
    intro s hd hi
    exact ⟨_, congrArg Host.Outcome.next (if_pos hi), wakeBy_watch 7 hd⟩
  case noTimer =>
    intro s h
    refine congrArg Host.Outcome.next ?_
    split
    · next hi => exact wakeBy_elsewhere 7 (h.resolve_right (by rw [hi]; decide))
    · rfl
  case attach =>
    intro cc s hd ha
    exact ⟨_, (execWatchSample_watch cc [] hd).trans (congrArg Host.Outcome.next (if_pos ha)), wakeBy_watch 0 hd⟩
  case vbus =>
    intro p v cc s hd ha hv
    have hstep := (execWatchSample_watch cc [(.vbusA p, v)] hd).trans
      (congrArg Host.Outcome.next (if_neg (by rw [ha]; decide)))
    rw [watchFound_vbus hv] at hstep
    obtain ⟨hwaking, hsrc⟩ := wakeBy_watch (s := s.crossFlagged p) 1 hd
    exact ⟨_, hstep, hwaking, hsrc, rfl⟩
  case nothing =>
    intro cc mons s hd ha hf
    have hfound : (s.watchFound mons).2 = false := hf
    refine ⟨_, (execWatchSample_watch cc mons hd).trans (congrArg Host.Outcome.next ((if_neg ?_).trans (if_neg ?_))), rfl⟩
    · rw [ha]
      decide
    · rw [hfound]
      decide
  case attachAll =>
    intro cc mons s hd ha
    exact ⟨_, (execWatchSample_watch cc mons hd).trans (congrArg Host.Outcome.next (if_pos ha)), rfl⟩
  case found =>
    intro cc mons s hd ha hf
    have hfound : (s.watchFound mons).2 = true := hf
    refine ⟨_, (execWatchSample_watch cc mons hd).trans (congrArg Host.Outcome.next ((if_neg ?_).trans (if_pos hfound))), rfl⟩
    rw [ha]
    decide
  case notWatch => exact fun cc mons s h => congrArg Host.Outcome.next (if_pos h)
  case storm =>
    intro s hd hi hn
    exact ⟨_, congrArg Host.Outcome.next (if_pos hn), safeEntry_run hd hi rfl⟩
  case noStorm => exact fun s hn => congrArg Host.Outcome.next (if_neg (Nat.not_le.mpr hn))
  case safe => exact fun c s hd hi => ⟨_, rfl, safeEntry_run hd hi (code_fits c)⟩
  case safeAsleep =>
    intro c s hd hi
    refine ⟨_, rfl, safeEntry_enters ?_ hi ?_ ?_ (code_fits c)⟩
    all_goals rcases hd with h | h | h <;> rw [h] <;> decide
  case safeWaits =>
    intro c s hd hi
    obtain ⟨hdev, hinto⟩ := safeEntry_waits c.code hd hi
    obtain ⟨hcause, hcount⟩ := safeEntry_shows c.code (by rcases hd with h | h <;> rw [h] <;> decide) hi
    exact ⟨_, rfl, hdev, hinto, hcause.trans (code_fits c), hcount⟩
  case safeTwice => exact fun c s h => congrArg Host.Outcome.next (if_pos h)
  case warn =>
    intro d s hd hw ht
    refine ⟨_, (execThermalWarn_sampled d hd).trans (congrArg Host.Outcome.next ((if_neg ?_).trans (if_pos ⟨hw, ht⟩))),
      warnBegins_shows s d⟩
    omega
  case cool =>
    intro d s hd ht
    exact ⟨_, (execThermalWarn_sampled d hd).trans (congrArg Host.Outcome.next (if_pos ht)), rfl, dieShown_die s d,
      dieShown_warnCount s d⟩
  case between =>
    intro d s hd hlow hhigh
    refine ⟨_, (execThermalWarn_sampled d hd).trans (congrArg Host.Outcome.next ((if_neg (by omega)).trans (if_neg ?_))), rfl,
      dieShown_die s d, dieShown_warnCount s d⟩
    rintro ⟨hw, ht⟩
    rcases hhigh with h | h
    · rw [hw] at h
      cases h
    · omega
  case warnAsleep => exact fun d s hd => congrArg Host.Outcome.next (if_pos hd)
  case third =>
    intro d s hd hi hh ht
    have hn : 3 ≤ s.hotSamples d := by
      unfold State.hotSamples
      rw [if_pos ht]
      omega
    obtain ⟨hsafe, hcause, hcount⟩ := safeEntry_run (s := s.hotCounted d) (cause := scTsd) hd hi rfl
    refine ⟨_, (execThermalShutdown_sampled d (by rw [hd]; decide)).trans (congrArg Host.Outcome.next (if_pos hn)), hsafe, hcause,
      hcount.trans ?_⟩
    rw [hotCounted_safeCount]
  case hot =>
    intro d s hd hh ht
    have hn : s.hotSamples d = s.pow.hot + 1 := if_pos ht
    refine ⟨_, thermalShutdown_counts d hd (by omega), rfl, ?_, dieShown_die s d⟩
    show min (s.hotSamples d) 3 = s.pow.hot + 1
    omega
  case notHot =>
    intro d s hd ht
    have hn : s.hotSamples d = 0 := if_neg (by omega)
    refine ⟨_, thermalShutdown_counts d hd (by omega), rfl, ?_, dieShown_die s d⟩
    show min (s.hotSamples d) 3 = 0
    omega
  case hotAsleep => exact fun d s hd => congrArg Host.Outcome.next (if_pos hd)

end Sys2Proof.Machine
end

section
/-! PROOFS. Resets, clocks and straps (R490, R528 to R534): O46. -/
set_option linter.all false

namespace Sys2Proof.Machine

/-! ## Straps and locks (R490, R528) -/

theorem sampleStraps_shows (s : State) (b a : BitVec 2) : (s.sampleStraps b a).rd BOOT.BOOT_PINS 0 = b.toNat ∧
    (s.sampleStraps b a).rd SMB.ADDR 0 = 0x2C + a.toNat := by
  have haddr : 0x2C + a.toNat < 2 ^ SMB.ADDR.width := Nat.lt_of_lt_of_le (Nat.add_lt_add_left a.isLt 0x2C) (by decide)
  unfold State.sampleStraps
  refine ⟨?_, (rd_wr_self _ _ _ _).trans (Nat.mod_eq_of_lt haddr)⟩
  rw [rd_wr _ _ _ _ _ _ (by decide), rd_wr_self]
  exact Nat.mod_eq_of_lt b.isLt

theorem locked_shows (s : State) : s.locked.on CLK.CORE_LOCK 0 = true ∧ s.locked.on CLK.PWM_LOCK 0 = true ∧
    s.locked.on CLK.XIN_OK 0 = true := by
  unfold State.locked
  refine ⟨?_, ?_, on_flag_self _ _ _ _ (by decide)⟩
  · rw [on_flag _ _ _ _ _ _ (by decide), on_flag _ _ _ _ _ _ (by decide), on_flag_self _ _ _ _ (by decide)]
  · rw [on_flag _ _ _ _ _ _ (by decide), on_flag_self _ _ _ _ (by decide)]

theorem locked_rd (s : State) (F : Field) (i : Nat) (hc : F.apart CLK.CORE_LOCK = true) (hp : F.apart CLK.PWM_LOCK = true)
    (hx : F.apart CLK.XIN_OK = true) : s.locked.rd F i = s.rd F i := by
  unfold State.locked
  rw [rd_flag _ _ _ _ _ _ hx, rd_flag _ _ _ _ _ _ hp, rd_flag _ _ _ _ _ _ hc]

/-! ## Cold resets (R534, R580) -/

/-- What no port's DSG changes, SOLO_HOLD keeps. -/
theorem soloHold_keeps {α : Type} (g : State → α) (h : ∀ (t : State) (p : Port), g (t.flag GUARD.DSG_ON p true) = g t)
    (s : State) : g s.soloHold = g s := by
  unfold State.soloHold
  split
  · exact foldl_keeps (fun (t : State) (p : Port) => t.flag GUARD.DSG_ON p true) g h allPorts s
  · rfl

theorem soloHold_rd (s : State) (F : Field) (i : Nat) (h : F.apart GUARD.DSG_ON = true) : s.soloHold.rd F i = s.rd F i :=
  soloHold_keeps (fun t : State => t.rd F i) (fun t p => rd_flag t F i GUARD.DSG_ON p true h) s

/-- A cold reset's cause stands alone in RST_CAUSE. -/
theorem coldReset_cause (s : State) {cause : Nat} (h : cause < 11) : (s.coldReset cause).rd RST.CAUSE 0 = 2 ^ cause :=
  (rd_wr_self _ RST.CAUSE 0 _).trans (Nat.mod_eq_of_lt (Nat.pow_lt_pow_right (by decide) h))

/-- What a cold reset under RESET_N or a brownout leaves, before any clock locks again. -/
structure ColdStarted (s t : State) (cause : Nat) : Prop where
  dev : t.dev = .boot
  cause : t.rd RST.CAUSE 0 = 2 ^ cause
  otp : t.otp = s.otp
  flash : t.flash = s.flash
  pending : t.pending = s.pending

theorem coldReset_started (s : State) {cause : Nat} (h : cause < 11) : ColdStarted s (s.coldReset cause) cause :=
  ⟨rfl, coldReset_cause s h, rfl, rfl, rfl⟩

theorem ColdStarted.straps {s t : State} {cause : Nat} (h : ColdStarted s t cause) (b a : BitVec 2) :
    ColdStarted s (t.sampleStraps b a) cause := by
  refine ⟨h.dev, ?_, h.otp, h.flash, h.pending⟩
  unfold State.sampleStraps
  rw [rd_wr _ _ _ _ _ _ (by decide), rd_wr _ _ _ _ _ _ (by decide)]
  exact h.cause

theorem ColdStarted.solo {s t : State} {cause : Nat} (h : ColdStarted s t cause) : ColdStarted s t.soloHold cause :=
  ⟨(soloHold_keeps State.dev (fun _ _ => rfl) t).trans h.dev, (soloHold_rd t _ 0 (by decide)).trans h.cause,
    (soloHold_keeps State.otp (fun _ _ => rfl) t).trans h.otp, (soloHold_keeps State.flash (fun _ _ => rfl) t).trans h.flash,
    (soloHold_keeps State.pending (fun _ _ => rfl) t).trans h.pending⟩

theorem ColdStarted.locked {s t : State} {cause : Nat} (h : ColdStarted s t cause) : ColdStarted s t.locked cause :=
  ⟨h.dev, (locked_rd t _ 0 (by decide) (by decide) (by decide)).trans h.cause, h.otp, h.flash, h.pending⟩

/-- The cold reset of a pulse at RESET_N, its straps sampled. -/
def State.pinReset (s : State) (b a : BitVec 2) : State := ((s.coldReset rcPin).sampleStraps b a).soloHold

theorem execResetNLow_long {s : State} {n : Nat} (b a : BitVec 2) (h : 100 ≤ n) : exec (.resetNLow n b a) s =
    .next (if s.on CLK.XIN_OK 0 then (s.pinReset b a).locked else s.pinReset b a) :=
  congrArg Host.Outcome.next (if_neg (Nat.not_lt.mpr h))

theorem pinReset_started (s : State) (b a : BitVec 2) : ColdStarted s (s.pinReset b a) rcPin :=
  ((coldReset_started s (by decide)).straps b a).solo

theorem pinReset_straps (s : State) (b a : BitVec 2) : (s.pinReset b a).rd BOOT.BOOT_PINS 0 = b.toNat ∧
    (s.pinReset b a).rd SMB.ADDR 0 = 0x2C + a.toNat := by
  obtain ⟨hpins, haddr⟩ := sampleStraps_shows (s.coldReset rcPin) b a
  exact ⟨(soloHold_rd _ _ 0 (by decide)).trans hpins, (soloHold_rd _ _ 0 (by decide)).trans haddr⟩

/-- A fall of VDD_IO33 clears SOLO_HOLD. -/
def State.railLost (s : State) (r : Rail) : State := if r = .io33 then { s with pow := { s.pow with solo := false } } else s

/-- The cold reset of a brownout. -/
def State.brownoutReset (s : State) (r : Rail) : State := ((s.railLost r).coldReset rcBrownout).soloHold

theorem railLost_solo (s : State) (r : Rail) : (s.railLost r).pow.solo = (decide (r ≠ .io33) && s.pow.solo) := by
  cases r <;> rfl

theorem brownoutReset_started (s : State) (r : Rail) : ColdStarted s (s.brownoutReset r) rcBrownout := by
  have hstarted : ColdStarted (s.railLost r) (s.brownoutReset r) rcBrownout := (coldReset_started _ (by decide)).solo
  obtain ⟨hdev, hcause, hotp, hflash, hpending⟩ := hstarted
  unfold State.railLost at hotp hflash hpending
  refine ⟨hdev, hcause, hotp.trans ?_, hflash.trans ?_, hpending.trans ?_⟩
  all_goals split <;> rfl

/-! ## A clock is lost (R529 to R531) -/

/-- The loss of a clock is shown, counted and recorded. -/
def State.clockMarked (s : State) (F cnt : Field) (b code : Nat) : State :=
  (((s.flag F 0 false).bump cnt 0).irq CLK.page 0 b).event EV.CLOCK_LOSS 0xFF code 0 0 0

theorem clockMarked_within (s : State) (F cnt : Field) (b code : Nat) :
    Within sysEventAreas 0 (((s.flag F 0 false).bump cnt 0).irq CLK.page 0 b) (s.clockMarked F cnt b code) :=
  State.event_sys _ EV.CLOCK_LOSS 0xFF code 0 0 0 (by decide) rfl (Within.refl _ _ _)

theorem clockMarked_dev (s : State) (F cnt : Field) (b code : Nat) : (s.clockMarked F cnt b code).dev = s.dev :=
  (clockMarked_within s F cnt b code).dev rfl

theorem clockMarked_pow (s : State) (F cnt : Field) (b code : Nat) : (s.clockMarked F cnt b code).pow = s.pow :=
  (clockMarked_within s F cnt b code).pow rfl

/-- The flag of a lost clock is clear, and its loss is counted. -/
theorem clockMarked_shows (s : State) {F cnt : Field} (b code : Nat) (hF : maskSkips sysEventAreas F = true)
    (hcnt : maskSkips sysEventAreas cnt = true) (hIF : F.apart (IRQ_STAT CLK.page) = true)
    (hIc : cnt.apart (IRQ_STAT CLK.page) = true) (hFc : F.apart cnt = true) (hcF : cnt.apart F = true) (hw : 0 < F.width) :
    (s.clockMarked F cnt b code).on F 0 = false ∧
    (s.clockMarked F cnt b code).rd cnt 0 = min (s.rd cnt 0 + 1) (2 ^ cnt.width - 1) := by
  have hevent := clockMarked_within s F cnt b code
  refine ⟨?_, ?_⟩
  · rw [hevent.on F 0 hF, on_irq _ _ _ _ _ _ hIF, on_bump _ _ _ _ _ hFc, on_flag_self _ _ _ _ hw]
  · rw [hevent.rd cnt 0 hcnt, rd_irq _ _ _ _ _ _ hIc, rd_bump_self, rd_flag _ _ _ _ _ _ hcF]

theorem clockLost_core {s : State} (h : s.on CLK.CORE_LOCK 0 = true) : exec (.clockLoss .pllCore false) s =
    .next ((s.clockMarked CLK.CORE_LOCK CLK.CORE_UNLOCK_CNT CLK.IRQ_CORE_UNLOCK ClockSrc.pllCore.code).supervised rcCorePll) :=
  congrArg Host.Outcome.next (if_pos h)

theorem clockLost_pwm {s : State} (h : s.on CLK.PWM_LOCK 0 = true) : exec (.clockLoss .pllPwm false) s =
    .next (s.clockMarked CLK.PWM_LOCK CLK.PWM_UNLOCK_CNT CLK.IRQ_PWM_UNLOCK ClockSrc.pllPwm.code).pwmClockLost :=
  congrArg Host.Outcome.next (if_pos h)

theorem clockLost_xin {s : State} (h : s.on CLK.XIN_OK 0 = true) : exec (.clockLoss .xin false) s =
    .next ((s.clockMarked CLK.XIN_OK CLK.XIN_LOSS_CNT CLK.IRQ_XIN_LOSS ClockSrc.xin.code).pwmClockLost.flag CLK.CORE_LOCK 0
      false) := congrArg Host.Outcome.next (if_pos h)

/-- A supervised reset that Chalk or the clock monitor asks for is remembered, and forced. -/
def State.resetForced (s : State) : State :=
  { s with pow := { s.pow with storms := (s.pow.storms.filter fun t => decide (s.up ≤ t + 600000000000)) ++ [s.up] }
           boot := { s.boot with forced := true } }

theorem supervised_first {s : State} (cause : Nat) (hd : s.dev = .run) (hs : s.pow.storms = []) :
    s.supervised cause = s.resetForced.warmBegin cause := by
  unfold State.supervised
  dsimp only
  rw [if_neg (by rw [hd]; decide), if_neg (by rw [hs]; exact Nat.not_succ_le_zero 2)]
  rfl

/-- A first supervised reset begins a warm reset under its cause. -/
theorem supervised_resets {s : State} {cause : Nat} (hd : s.dev = .run) (hs : s.pow.storms = []) (hc : cause < 11) :
    (s.supervised cause).dev = .warmReset ∧ ((s.supervised cause).rd RST.CAUSE 0).testBit cause = true := by
  rw [supervised_first cause hd hs]
  exact ⟨warmGo_dev (s := s.resetForced.wrBit RST.CAUSE 0 cause true) (by show s.dev ≠ .boot; rw [hd]; decide),
    warmBegin_cause _ hc⟩

theorem supervised_rd {s : State} (cause : Nat) (hd : s.dev = .run) (hs : s.pow.storms = []) (F : Field)
    (hF : maskSkips warmAreas F = true) (hk : clearedByWarm (F.key 0) = false) (hr : F.apart SYS.READY = true)
    (hw : F.apart RST.WARM_CNT = true) (hc : F.apart RST.CAUSE = true) : (s.supervised cause).rd F 0 = s.rd F 0 := by
  rw [supervised_first cause hd hs]
  exact warmBegin_rd _ cause F 0 hF hk hr hw hc

/-- A lost PLL_PWM or XIN puts the guard on the RC clock, and SAFE is entered under CLOCK. -/
theorem pwmClockLost_shows {s : State} (hd : s.dev = .run) (hi : s.pow.intoSafe = false) :
    s.pwmClockLost.dev = .safe ∧ s.pwmClockLost.rd RST.SAFE_CAUSE 0 = scClock ∧ s.pwmClockLost.on CLK.GUARD_RC 0 = true := by
  obtain ⟨hsafe, hcause, -⟩ := safeEntry_run (s := s.flag CLK.GUARD_RC 0 true) (cause := scClock) hd hi rfl
  refine ⟨hsafe, hcause, ?_⟩
  unfold State.pwmClockLost State.on
  rw [safeEntry_rd _ _ _ _ (by decide) (by decide) (by decide) (by decide)]
  exact on_flag_self _ _ _ _ (by decide)

theorem pwmClockLost_rd (s : State) (F : Field) (hl : F.apartAll (SYS.READY :: safeFields) = true)
    (hE : maskSkips sysEventAreas F = true) (hF : maskSkips safeAreas F = true) (hk : clearedBySafe (F.key 0) = false)
    (hg : F.apart CLK.GUARD_RC = true) : s.pwmClockLost.rd F 0 = s.rd F 0 :=
  (safeEntry_rd _ scClock F 0 hl hE hF hk).trans (rd_flag _ _ _ _ _ _ hg)

/-! ## A clock is back -/

theorem execClockLoss_back {s : State} (c : ClockSrc) (hb : s.dev ≠ .boot) (hw : s.dev ≠ .watch) :
    exec (.clockLoss c true) s = .next (s.clockBack c) := congrArg Host.Outcome.next (if_neg (not_or.mpr ⟨hb, hw⟩))

/-- With PLL_PWM and XIN the guard leaves the RC clock. -/
def State.guardClocked (s : State) : State :=
  if s.on CLK.PWM_LOCK 0 && s.on CLK.XIN_OK 0 then s.flag CLK.GUARD_RC 0 false else s

theorem guardClocked_on (s : State) (F : Field) (h : F.apart CLK.GUARD_RC = true) : s.guardClocked.on F 0 = s.on F 0 := by
  unfold State.guardClocked
  split
  · exact on_flag _ _ _ _ _ _ h
  · rfl

theorem guardClocked_leaves {s : State} (hp : s.on CLK.PWM_LOCK 0 = true) (hx : s.on CLK.XIN_OK 0 = true) :
    s.guardClocked.on CLK.GUARD_RC 0 = false := by
  unfold State.guardClocked
  rw [hp, hx]
  exact on_flag_self _ _ _ _ (by decide)

theorem guardClocked_stays {s : State} (h : s.on CLK.PWM_LOCK 0 = false ∨ s.on CLK.XIN_OK 0 = false) : s.guardClocked = s := by
  refine if_neg ?_
  rcases h with h | h
  · rw [h, Bool.false_and]
    decide
  · rw [h, Bool.and_false]
    decide

/-- The flag of a clock that is back, where XIN lets it run. -/
def State.clockShown (s : State) (c : ClockSrc) : State :=
  match c with
  | .pllCore => if s.on CLK.XIN_OK 0 then s.flag CLK.CORE_LOCK 0 true else s
  | .pllPwm => if s.on CLK.XIN_OK 0 then s.flag CLK.PWM_LOCK 0 true else s
  | .xin => s.flag CLK.XIN_OK 0 true

theorem clockBack_eq (s : State) (c : ClockSrc) : s.clockBack c = (s.clockShown c).guardClocked := by
  cases c <;> rfl

theorem clockBack_core {s : State} (h : s.on CLK.XIN_OK 0 = true) :
    s.clockBack .pllCore = (s.flag CLK.CORE_LOCK 0 true).guardClocked :=
  (clockBack_eq s _).trans (congrArg State.guardClocked (if_pos h))

theorem clockBack_pwm {s : State} (h : s.on CLK.XIN_OK 0 = true) :
    s.clockBack .pllPwm = (s.flag CLK.PWM_LOCK 0 true).guardClocked :=
  (clockBack_eq s _).trans (congrArg State.guardClocked (if_pos h))

theorem clockBack_noXin {s : State} {c : ClockSrc} (h : s.on CLK.XIN_OK 0 = false) (hc : c ≠ .xin) : s.clockBack c = s := by
  have hnot : ¬s.on CLK.XIN_OK 0 = true := by
    rw [h]
    decide
  have hshown : s.clockShown c = s := by
    cases c with
    | pllCore => exact if_neg hnot
    | pllPwm => exact if_neg hnot
    | xin => exact absurd rfl hc
  rw [clockBack_eq, hshown]
  exact guardClocked_stays (.inr h)

/-- Settles O46: resets by their causes, clocks by their flags, the straps by what they sample. -/
theorem resetsClocksAndStraps : Obligations.ResetsClocksAndStraps := by
  unfold Obligations.ResetsClocksAndStraps
  refine ⟨?power, ?noPower, ?short, ?pin, ?brownout, ?core, ?pwm, ?xin, ?coreGone, ?pwmGone, ?xinGone, ?coreBack, ?pwmBack,
    ?xinBack, ?xinAlone, ?unwatched, ?spread, ?noSpread, ?noPwm⟩
  case power =>
    intro b a s hd hc
    obtain ⟨hpins, haddr⟩ := sampleStraps_shows s b a
    exact ⟨_, congrArg Host.Outcome.next (if_pos ⟨hd, hc⟩),
      (locked_rd _ _ 0 (by decide) (by decide) (by decide)).trans hpins,
      (locked_rd _ _ 0 (by decide) (by decide) (by decide)).trans haddr, locked_shows _⟩
  case noPower =>
    intro b a s h
    refine congrArg Host.Outcome.next (if_neg ?_)
    rintro ⟨hd, hc⟩
    rcases h with h | h
    · exact h hd
    · rw [h] at hc
      cases hc
  case short => exact fun n b a s h => congrArg Host.Outcome.next (if_pos h)
  case pin =>
    intro n b a s h
    obtain ⟨hpins, haddr⟩ := pinReset_straps s b a
    rw [execResetNLow_long b a h]
    refine ⟨_, rfl, ?_⟩
    split
    · obtain ⟨hdev, hcause, hotp, hflash, hpending⟩ := (pinReset_started s b a).locked
      obtain ⟨hcore, hpwm, -⟩ := locked_shows (s.pinReset b a)
      exact ⟨hdev, hcause, (locked_rd _ _ 0 (by decide) (by decide) (by decide)).trans hpins,
        (locked_rd _ _ 0 (by decide) (by decide) (by decide)).trans haddr, fun _ => ⟨hcore, hpwm⟩, hotp, hflash, hpending⟩
    · next hx =>
      obtain ⟨hdev, hcause, hotp, hflash, hpending⟩ := pinReset_started s b a
      exact ⟨hdev, hcause, hpins, haddr, fun h => absurd h hx, hotp, hflash, hpending⟩
  case brownout =>
    intro r s
    obtain ⟨hdev, hcause, hotp, hflash, hpending⟩ := brownoutReset_started s r
    have hready : (s.brownoutReset r).on SYS.READY 0 = false := by
      unfold State.brownoutReset State.on
      rw [soloHold_rd _ _ 0 (by decide)]
      rfl
    have hsolo : (s.brownoutReset r).pow.solo = (decide (r ≠ .io33) && s.pow.solo) :=
      (congrArg PowSt.solo (soloHold_keeps State.pow (fun _ _ => rfl) ((s.railLost r).coldReset rcBrownout))).trans
        (railLost_solo s r)
    exact ⟨s.brownoutReset r, rfl, hdev, hcause, hready, hotp, hflash, hpending, hsolo⟩
  case core =>
    intro s hl hd hs
    obtain ⟨hflag, hcount⟩ := clockMarked_shows s (F := CLK.CORE_LOCK) (cnt := CLK.CORE_UNLOCK_CNT) CLK.IRQ_CORE_UNLOCK
      ClockSrc.pllCore.code (by decide) (by decide) (by decide) (by decide) (by decide) (by decide) (by decide)
    have hdev := (clockMarked_dev s CLK.CORE_LOCK CLK.CORE_UNLOCK_CNT CLK.IRQ_CORE_UNLOCK ClockSrc.pllCore.code).trans hd
    have hstorms := (congrArg PowSt.storms (clockMarked_pow s CLK.CORE_LOCK CLK.CORE_UNLOCK_CNT CLK.IRQ_CORE_UNLOCK
      ClockSrc.pllCore.code)).trans hs
    obtain ⟨hreset, hcause⟩ := supervised_resets hdev hstorms (cause := rcCorePll) (by decide)
    refine ⟨_, clockLost_core hl, ?_, ?_, hreset, hcause⟩
    · exact (supervised_rd _ hdev hstorms _ (by decide) (by decide) (by decide) (by decide) (by decide)).trans hcount
    · unfold State.on
      rw [supervised_rd _ hdev hstorms _ (by decide) (by decide) (by decide) (by decide) (by decide)]
      exact hflag
  case pwm =>
    intro s hl hd hi
    obtain ⟨hflag, hcount⟩ := clockMarked_shows s (F := CLK.PWM_LOCK) (cnt := CLK.PWM_UNLOCK_CNT) CLK.IRQ_PWM_UNLOCK
      ClockSrc.pllPwm.code (by decide) (by decide) (by decide) (by decide) (by decide) (by decide) (by decide)
    obtain ⟨hsafe, hcause, hguard⟩ := pwmClockLost_shows ((clockMarked_dev s CLK.PWM_LOCK CLK.PWM_UNLOCK_CNT
      CLK.IRQ_PWM_UNLOCK ClockSrc.pllPwm.code).trans hd) ((congrArg PowSt.intoSafe (clockMarked_pow s _ _ _ _)).trans hi)
    refine ⟨_, clockLost_pwm hl, ?_, ?_, hguard, hsafe, hcause⟩
    · exact (pwmClockLost_rd _ _ (by decide) (by decide) (by decide) (by decide) (by decide)).trans hcount
    · unfold State.on
      rw [pwmClockLost_rd _ _ (by decide) (by decide) (by decide) (by decide) (by decide)]
      exact hflag
  case xin =>
    intro s hl hd hi
    obtain ⟨hflag, hcount⟩ := clockMarked_shows s (F := CLK.XIN_OK) (cnt := CLK.XIN_LOSS_CNT) CLK.IRQ_XIN_LOSS
      ClockSrc.xin.code (by decide) (by decide) (by decide) (by decide) (by decide) (by decide) (by decide)
    obtain ⟨hsafe, hcause, hguard⟩ := pwmClockLost_shows ((clockMarked_dev s CLK.XIN_OK CLK.XIN_LOSS_CNT
      CLK.IRQ_XIN_LOSS ClockSrc.xin.code).trans hd) ((congrArg PowSt.intoSafe (clockMarked_pow s _ _ _ _)).trans hi)
    refine ⟨_, clockLost_xin hl, ?_, ?_, on_flag_self _ _ _ _ (by decide), ?_, hsafe, ?_⟩
    · rw [rd_flag _ _ _ _ _ _ (by decide)]
      exact (pwmClockLost_rd _ _ (by decide) (by decide) (by decide) (by decide) (by decide)).trans hcount
    · rw [on_flag _ _ _ _ _ _ (by decide)]
      unfold State.on
      rw [pwmClockLost_rd _ _ (by decide) (by decide) (by decide) (by decide) (by decide)]
      exact hflag
    · exact (on_flag _ _ _ _ _ _ (by decide)).trans hguard
    · exact (rd_flag _ _ _ _ _ _ (by decide)).trans hcause
  case coreGone =>
    intro s h
    have hgone : ¬s.on CLK.CORE_LOCK 0 = true := by rw [h]; decide
    exact congrArg Host.Outcome.next (if_neg hgone)
  case pwmGone =>
    intro s h
    have hgone : ¬s.on CLK.PWM_LOCK 0 = true := by rw [h]; decide
    exact congrArg Host.Outcome.next (if_neg hgone)
  case xinGone =>
    intro s h
    have hgone : ¬s.on CLK.XIN_OK 0 = true := by rw [h]; decide
    exact congrArg Host.Outcome.next (if_neg hgone)
  case coreBack =>
    intro s hb hw hx
    refine ⟨_, (execClockLoss_back .pllCore hb hw).trans (congrArg Host.Outcome.next (clockBack_core hx)), ?_⟩
    exact (guardClocked_on _ _ (by decide)).trans (on_flag_self _ _ _ _ (by decide))
  case pwmBack =>
    intro s hb hw hx
    have hpwm : (s.flag CLK.PWM_LOCK 0 true).on CLK.PWM_LOCK 0 = true := on_flag_self _ _ _ _ (by decide)
    refine ⟨_, (execClockLoss_back .pllPwm hb hw).trans (congrArg Host.Outcome.next (clockBack_pwm hx)),
      (guardClocked_on _ _ (by decide)).trans hpwm, guardClocked_leaves hpwm ?_⟩
    exact (on_flag _ _ _ _ _ _ (by decide)).trans hx
  case xinBack =>
    intro s hb hw hp
    have hxin : (s.flag CLK.XIN_OK 0 true).on CLK.XIN_OK 0 = true := on_flag_self _ _ _ _ (by decide)
    refine ⟨_, (execClockLoss_back .xin hb hw).trans (congrArg Host.Outcome.next (clockBack_eq s .xin)),
      (guardClocked_on _ _ (by decide)).trans hxin, guardClocked_leaves ?_ hxin⟩
    exact (on_flag _ _ _ _ _ _ (by decide)).trans hp
  case xinAlone =>
    intro s hb hw hp
    have hxin : (s.flag CLK.XIN_OK 0 true).on CLK.XIN_OK 0 = true := on_flag_self _ _ _ _ (by decide)
    have hstays : (s.flag CLK.XIN_OK 0 true).guardClocked = s.flag CLK.XIN_OK 0 true :=
      guardClocked_stays (.inl ((on_flag _ _ _ _ _ _ (by decide)).trans hp))
    exact ⟨_, (execClockLoss_back .xin hb hw).trans (congrArg Host.Outcome.next ((clockBack_eq s .xin).trans hstays)), hxin,
      on_flag _ _ _ _ _ _ (by decide)⟩
  case unwatched =>
    intro c s h
    refine congrArg Host.Outcome.next ((if_pos rfl).trans ?_)
    split
    · rfl
    · next hd =>
      obtain ⟨hx, hc⟩ := (h.resolve_left fun hb => hd (.inl hb)).resolve_left fun hw => hd (.inr hw)
      exact clockBack_noXin hx hc
  case spread =>
    intro s hp he
    refine ⟨_, congrArg Host.Outcome.next (if_pos hp), ?_, ?_⟩
    · exact if_pos he
    · rw [on_irq _ _ _ _ _ _ (by decide), on_flag_self _ _ _ _ (by decide), if_pos he]
  case noSpread =>
    intro s hp he
    have hno : ¬s.on CLK.SSC_EN 0 = true := by
      rw [he]
      decide
    refine ⟨_, congrArg Host.Outcome.next (if_pos hp), if_neg hno, ?_⟩
    rw [on_irq _ _ _ _ _ _ (by decide), on_flag_self _ _ _ _ (by decide), if_neg hno]
    rfl
  case noPwm => exact fun s h => congrArg Host.Outcome.next (if_neg (by rw [h]; decide))

end Sys2Proof.Machine
end
